-- ==== Sys2Proof/Word.lean ====
section
/-! DEFINITION. The word types of the device: bytes of the SRAM window and 32-bit memory words (R43). -/

namespace Sys2Proof

/-- One byte of SRAM. -/
abbrev Byte := BitVec 8

/-- One 32-bit memory word, the unit of SRAM access and of ECC (R43, R44). -/
abbrev Word := BitVec 32

/-- An axis slot A0 to A7. -/
abbrev Slot := Fin 8

/-- A half-bridge port HB0 to HB31. -/
abbrev Port := Fin 32

/-- A bank of eight ports and its D-die. -/
abbrev Bank := Fin 4

/-- A queue Q0 to Q15. -/
abbrev QueueId := Fin 16

/-- An axis engine E0 to E9. -/
abbrev Engine := Fin 10

/-- A converter: 0 to 15 are CADC0 to CADC15, 16 and 17 are AADC0 and AADC1. -/
abbrev Conv := Fin 18

/-- A temperature sensor, by the id of R353. -/
abbrev Sensor := Fin 34

end Sys2Proof
end

