-- ==== Sys2Proof/Syntax.lean ====
section
/-! DEFINITION. The commands the block takes: one constructor per row of the table of operations and events. -/

namespace Sys2Proof

/-- A cycle frame as it passes a worker (R396, R397), decoded; the flags tell which check sums are good. -/
structure RingFrame where
  ringSize : Nat
  ringId : Nat
  cycle : Nat
  tM : Nat
  goMap : Nat
  goValid : Bool
  sheetValid : Bool
  wrapped : Bool
  msgDest : Nat
  msgOwner : Nat
  tGo : Nat
  tSheet : Nat
  hdrGood : Bool
  /-- accumulated path delay in 1/32 tick -/
  corr : Nat
  corrGood : Bool
  /-- the worker's DN_CTRL and downstream words -/
  dnCtrl : Nat
  words : List Nat
  blockGood : Bool
deriving DecidableEq, Repr

/-- The upstream part of one worker in a returned frame (R397). -/
structure RingUp where
  position : Nat
  stat : Nat
  words : List Nat
  good : Bool
deriving DecidableEq, Repr

/-- The register paths of R82: host SPI and the register window. -/
inductive RegPath where
  | spi | window
deriving DecidableEq, Repr

/-- The PATH codes of R442: host SPI, USB, CANopen. -/
inductive Path where
  | spi | usb | can
deriving DecidableEq, Repr

/-- The number of a path. -/
def Path.code : Path → Nat
  | .spi => 0
  | .usb => 1
  | .can => 2

def RegPath.code : RegPath → Nat
  | .spi => 0
  | .window => 1

/-- An enumeration frame (R394): on a worker, the position it takes with the RING_ID; on the manager, the frame
that returns, with the upstream and downstream layout codes of every worker's slots in ring order. -/
inductive EnumFrame where
  | passes (position ringId : Nat)
  | returns (layouts : List (List (Nat × Nat))) (secondManager badSlot : Bool)
deriving DecidableEq, Repr

/-- A request frame of the service protocol (R438) but for its command code, which the command names: version,
flags, sequence, the counter of a protected frame (R461), payload, and whether its CRC passes. -/
structure Request where
  ver : Nat
  flags : Nat
  seq : Nat
  ctr : Nat
  payload : List Nat
  crcOk : Bool
deriving DecidableEq, Repr

/-- A command from outside, or an event of the device's surroundings or of its own time. An operand `t` is the tick
at which the event takes place; `i` is a slot, `c` a channel or converter, `p` a port, `b` a bank, `g` a group. -/
inductive Instr where
  | powerOnReset (others : Nat) (profsel : Fin 4) (manager : Bool)
  | vcoreBrownOut (others : Nat) (profsel : Fin 4) (manager : Bool)
  | vioBrownOut (others : Nat) (profsel : Fin 4) (manager : Bool)
  | resetn (others : Nat) (profsel : Fin 4) (manager : Bool)
  | devReset (path : Path) (value : Nat) (profsel : Fin 4) (manager : Bool)
  | bootTimebaseLock (tbsync : Bool)
  | crystalLossWait (crystal tbsync : Bool)
  | bootRom (t : Nat)
  | bootPatch (t : Nat)
  | bootProfile (t : Nat)
  | vanaReady (t : Nat)
  | bootCalibration (t : Nat) (results : List (Int × Nat × Nat))
  | bootBist (t dead : Nat)
  | bootBankRelease (t : Nat)
  | bootDone (t elapsed : Nat)
  | tbApply
  | timebaseLoss (t : Nat) (refOk pll : Bool)
  | timebaseRestart (gap : Nat) (levels : List Nat)
  | statusTick
  | delaylineCalibration (t elems : Nat)
  | ddieWatchdogExpiry (t : Nat) (b : Bank)
  | ddieRelease (t : Nat) (b : Bank)
  | spiCommandHeader (cmd addr : Nat)
  | spiWriteWord (w : Nat)
  | spiReadWord (ready : Bool)
  | spiFrameEnd (cut : Bool)
  | registerWrite (path : RegPath) (addr word hwMask hwData : Nat) (inc : Int)
  | wideLowWordRead (path : RegPath) (addr : Nat)
  | wideHighWordWrite (path : RegPath) (addr word : Nat)
  | regWinDataRead
  | regWinDataWrite (w : Nat)
  | regWinBlockRead
  | regWinBlockWrite (bytes : List Nat)
  | objectWrite (path : Path) (index sub : Nat) (bytes : List Nat)
  | slackMinClr (i : Slot)
  | engineCycle (i : Slot) (accept : Nat) (late differs : Bool) (epoch : Nat)
  | slackFullRateReturn (i : Slot)
  | deadlineMissStrip (i : Slot)
  | deadlineMissMigration (i : Slot)
  | tagWaitRelease
  | helperResult (tag : Fin 64) (epoch : Nat)
  | tagReclaim (t : Nat) (tag : Fin 64)
  | epochDeferredAdvance (t : Nat) (n : Fin 70)
  | sramScrub (t : Nat) (single double : List Nat)
  | qwrWrite (path : RegPath) (q : QueueId) (word : Nat)
  | qrdWrite (path : RegPath) (q : QueueId) (word : Nat)
  | qreset (q : QueueId) (offered : Nat)
  | portmapApply (value : Nat)
  | portmapSetDevelop (n : Fin 40)
  | segWrite (i : Slot) (bytes : List Nat)
  | segPdoEnqueue (i : Slot) (w : Nat)
  | segRestart (i : Slot)
  | segmentStartActions (t : Nat)
  | accGo (n : Fin 8) (go : Nat)
  | syncTimeout (t : Nat) (i : Slot)
  | modeChange (i : Slot) (mode : Int)
  | newSetPoint (i : Slot) (cw : Nat)
  | syncReceived (t : Nat) (bus : Fin 2) (data : List Nat)
  | csLoss (t : Nat) (i : Slot)
  | enableInterpolation (i : Slot) (on : Bool)
  | halt (i : Slot)
  | haltRelease (i : Slot)
  | limitSwitchEdge (t : Nat) (i : Slot) (positive level : Bool)
  | homeSwitchEdge (t : Nat) (i : Slot) (level : Bool)
  | indexEdge (t : Nat) (c : Slot) (level : Bool)
  | homingStart (i : Slot)
  | homingChatter (i : Slot)
  | homingDistance (i : Slot)
  | homingNoIndex (i : Slot)
  | stepEdge (t : Nat) (c : Slot) (level dir : Bool)
  | sfRestart (i : Slot)
  | curSenseLost (i : Slot)
  | busFfStale (t : Nat) (i : Slot)
  | highDutyExit (i : Slot)
  | standstillReduction (t : Nat) (i : Slot)
  | openWinding (i : Slot)
  | curSumErr (i : Slot)
  | stallDetected (i : Slot)
  | stallFault (t : Nat) (i : Slot)
  | dcProbeStart (t : Nat) (i : Slot)
  | daxisProbeStart (t : Nat) (i : Slot)
  | probeComplete (t : Nat) (i : Slot)
  | vwCal (path : Path) (i : Slot)
  | periodStart (g : Fin 16)
  | loadAll (g : Fin 16)
  | groupWrite (p : Port) (g : Nat)
  | pwmEnWrite (p : Port) (on : Bool)
  | shortCircuitTrip (t : Nat) (p : Port) (high other : Bool)
  | tripnActive (t : Nat) (b : Bank)
  | tripLatch (t : Nat) (p : Port)
  | tripClr (p : Port)
  | pwmEventFire (t : Nat) (p : Port) (src : Fin 4)
  | trigoPulseEnd (t : Nat) (k : Fin 4)
  | interlockTimeout (t : Nat) (p : Port)
  | gdClr (p : Port) (gatesLow : Bool)
  | legTestResult (t : Nat) (p : Port) (passed : Bool)
  | ilkMaxClr (p : Port)
  | gdApply (b : Bank)
  | vdrvLockout (t : Nat) (b : Bank) (mv : Nat)
  | vdrvLockoutRelease (t : Nat) (b : Bank) (mv : Nat)
  | ddieBankRelease (t : Nat) (b : Bank)
  | bootstrapLockout (t : Nat) (p : Port)
  | bootstrapUvFault (t : Nat) (p : Port)
  | vbusReading (t mv : Nat)
  | busStale (t : Nat)
  | busCoast (t : Nat) (b : Bank)
  | coastEnd (t : Nat)
  | rtStop (t : Nat)
  | hardOvervoltage (t : Nat) (b : Bank)
  | ovStopBathEnd (t : Nat)
  | dieOverTemperature (t : Nat) (b : Bank)
  | hsHoldExpiry (t : Nat) (i : Slot)
  | sbStillExpiry (t : Nat) (i : Slot)
  | sbCmd (value : Nat)
  | shutdown (i : Slot)
  | switchOn (i : Slot)
  | enableOperation (i : Slot)
  | disableOperation (i : Slot)
  | quickStop (i : Slot)
  | disableVoltage (i : Slot)
  | faultReset (i : Slot) (gatesLow : Bool)
  | encoderEdge (t : Nat) (c : Slot) (a b : Bool)
  | hallEdge (t : Nat) (c : Slot) (state : Nat)
  | encFault (t : Nat) (c : Slot)
  | encPosPreset (c : Slot) (count : Int)
  | speedWindowEnd (c : Slot)
  | stillDetected (t : Nat) (c : Slot)
  | encAligned (t : Nat) (i : Slot)
  | followError (t : Nat) (i : Slot)
  | encFaultClr (c : Slot)
  | encAlign (c : Slot)
  | capArm (c : Slot)
  | csShoot (t : Nat)
  | csCancel
  | contactSheetFire
  | conversionResult (t : Nat) (c : Conv) (ch : Nat) (raw : Int) (ovr : Bool) (epoch : Nat)
  | injectedConversionStart (t : Nat) (c : Conv)
  | xportMonitorSample (t : Nat) (p : Port)
  | converterCheck (t : Nat) (j : Fin 9) (a b : Int) (port : Nat) (free : Bool)
  | converterRetirement (t : Nat) (c : Conv) (g : Fin 16)
  | selfCalibrationDone (t : Nat) (c : Conv) (ofs : Int) (gain code : Nat)
  | converterReturn (t : Nat) (c : Conv)
  | periodicCalibrationDue (t : Nat) (c : Conv)
  | calibrationDeferredStart (t : Nat) (c : Conv)
  | calStart (c : Conv)
  | syscalZero (path : Path)
  | syscalRef (path : Path)
  | syscalAverageDone (t : Nat) (code : Int) (bad : Bool)
  | thermalScanDue (t : Nat) (k : Sensor)
  | scanResult (t : Nat) (k : Sensor) (a b c : Nat) (ovr : Bool)
  | thmNoScan (t : Nat) (k : Sensor)
  | thmSuspect (t : Nat) (k : Sensor)
  | thmFailed (t : Nat) (k : Sensor)
  | thmSubstitute (t : Nat) (k : Sensor)
  | thmRecovered (t : Nat) (k : Sensor)
  | snsEnWrite (k : Sensor) (on : Bool)
  | thrHoldExpiry (t : Nat) (i : Slot)
  | budgetEvaluation (t : Nat)
  | testStripStart (t : Nat)
  | stripComplete (t : Nat) (equal : Bool)
  | voteReplayDone (t : Nat) (verdict : Fin 4)
  | engineBistDone (t : Nat) (e : Engine) (pass : Bool)
  | noPostPortsOff (t : Nat) (i : Slot)
  | migrate (mask : Nat)
  | migrationCutover (t : Nat) (i : Slot)
  | coldTakeover (i : Slot)
  | domainRestart (path : Path) (d : Nat)
  | domainRestartDone (t : Nat) (d : Fin 12)
  | seqRestart (path : Path) (value : Nat)
  | sequencerWatchdog (t : Nat)
  | sequencerRestartDone (t : Nat) (imageOk : Bool)
  | canBusOff (t : Nat) (bus : Fin 2)
  | canSilenceTimeout (t : Nat) (bus : Fin 2)
  | canBusRestored (t : Nat) (bus : Fin 2)
  | linkEnumeration
  | linkRestart
  | enumerationFrame (arg : EnumFrame)
  | linkCycleStart
  | cycleFrame (lane : Fin 2) (arrival : Nat) (frame : RingFrame)
  | cycleFrameReturn (lane : Fin 2) (good wrapped : Bool) (breakAt : Nat) (ups : List RingUp)
  | roundTripProbe (lane : Fin 2) (trip turnaround : Nat)
  | workerLocked
  | linkLaneDown (t : Nat) (lane : Fin 2)
  | linkLaneUp (t : Nat) (lane : Fin 2)
  | workerSelfFence (t : Nat)
  | managerFence (t : Nat) (d : Fin 32)
  | workerRejoin (t : Nat) (d : Fin 32) (epoch ofs : Nat)
  | ringSheet (t : Nat)
  | ringSheetDone (t : Nat) (parts : List (Nat × List (List Nat)))
  | tunnelTransfer (t : Nat) (write : Bool) (bytes : List Nat) (abort : Nat) (data : List Nat)
  | tunnelTimeout (t : Nat)
  | nmtStart (t : Nat) (bus : Fin 2) (node : Nat)
  | nmtStop (t : Nat) (bus : Fin 2) (node : Nat)
  | nmtEnterPreOperational (t : Nat) (bus : Fin 2) (node : Nat)
  | nmtResetCommunication (t : Nat) (bus : Fin 2) (node : Nat)
  | nmtResetNode (t : Nat) (bus : Fin 2) (node : Nat)
  | resetNodeReload (t : Nat)
  | lssSwitchState (t : Nat) (bus : Fin 2) (mode : Nat) (selector : Option (Nat × Nat × Nat × Nat))
  | lssConfigureNodeId (t : Nat) (bus : Fin 2) (node : Nat)
  | lssConfigureBitTiming (t : Nat) (bus : Fin 2) (table entry : Nat)
  | lssActivateBitTiming (t : Nat) (bus : Fin 2) (delay : Nat)
  | lssStoreConfiguration (t : Nat) (bus : Fin 2)
  | lssInquire (t : Nat) (bus : Fin 2) (what : Nat)
  | lssIdentify (t : Nat) (bus : Fin 2) (range : Option (Nat × Nat × Nat × Nat × Nat × Nat))
  | rpdoReceived (t : Nat) (bus : Fin 2) (id : Nat) (data : List Nat)
  | timeReceived (t : Nat) (bus : Fin 2) (data : List Nat)
  | tpdoEventTimer (t : Nat) (n : Port)
  | tpdoInhibitExpiry (t : Nat) (n : Port)
  | heartbeatProduce (t : Nat)
  | heartbeatConsumed (t : Nat) (bus : Fin 2) (node state : Nat)
  | communicationLoss (t : Nat)
  | emcyInhibitExpiry (t : Nat)
  | storeParameters (sub value : Nat)
  | restoreDefaultParameters (sub value : Nat)
  | usbFrameGap (t : Nat)
  | usbDtrFall (t : Nat)
  | identify (t : Nat) (path : Path) (request : Request)
  | objRead (t : Nat) (path : Path) (request : Request)
  | objWrite (t : Nat) (path : Path) (request : Request)
  | regRead (t : Nat) (path : Path) (request : Request)
  | regWrite (t : Nat) (path : Path) (request : Request)
  | eventPeek (t : Nat) (path : Path) (request : Request)
  | health (t : Nat) (path : Path) (request : Request)
  | mbxInCommit (word : Nat)
  | mbxOutRead
  | spiOutTimeout (t : Nat)
  | xomorFrameWrite (bytes : List Nat)
  | xomorFrameRead
  | sessHello (t : Nat) (path : Path) (request : Request)
  | sessProve (t : Nat) (path : Path) (request : Request)
  | sessClose (t : Nat) (path : Path) (request : Request)
  | sessCommit (t : Nat) (path : Path) (request : Request)
  | sessDiscard (t : Nat) (path : Path) (request : Request)
  | sessionIdleExpiry (t : Nat)
  | sessProveTimeout (t : Nat)
  | claim (t : Nat) (path : Path) (request : Request)
  | revoke (t : Nat) (path : Path) (request : Request)
  | identity (t : Nat) (path : Path) (request : Request)
  | profBegin (t : Nat) (path : Path) (request : Request)
  | profData (t : Nat) (path : Path) (request : Request)
  | profEnd (t : Nat) (path : Path) (request : Request)
  | profSelect (path : Path) (value : Nat)
  | patchBegin (t : Nat) (path : Path) (request : Request)
  | patchData (t : Nat) (path : Path) (request : Request)
  | patchEnd (t : Nat) (path : Path) (request : Request)
  | patchActivate (t : Nat) (path : Path) (request : Request)
  | auditRead (t : Nat) (path : Path) (request : Request)
  | auditSeal (t : Nat) (path : Path) (request : Request)
  | svcHoursIncrement (t : Nat)
  | domOffReq (path : Path) (value : Nat)
  | domainSwitched (t : Nat) (d : Fin 12)
  | bootstrapLockoutRelease (t : Nat) (p : Port)
  | busComparatorRelease (t : Nat) (b : Bank) (coast hard : Bool)
  | dieOverTemperatureRelease (t : Nat) (b : Bank) (temp : Nat)
  | tripnRelease (t : Nat) (b : Bank)
  | vwMaxageExpiry (t : Nat) (i : Slot)
  | enumerationTimeout (t : Nat)
  | canReceiveOverrun (t : Nat) (bus : Fin 2)
  | canBusOffRecovered (t : Nat) (bus : Fin 2)
  | helperHandshakeFault (t : Nat) (d : Fin 12)
deriving DecidableEq, Repr

end Sys2Proof
end

