-- ==== Sys2Proof/Decode.lean ====
section
/-! DEFINITION. Commands spelt by words: the table of this block gives no row any bits, so no word spells a command. -/

namespace Sys2Proof

/-- The command a word of `nbits` bits spells by the table's bits: none, for the table gives none. -/
def decodeTableWord (_nbits _w : Nat) : Option Instr := none

end Sys2Proof
end

