-- ==== Sys2Proof/Machine/Reg.lean ====
section
/-! DEFINITION. The names of every register field, wide value, object value and hidden state element of the device.
A constructor carries the manual's own field name; the comment before a group cites the rule whose table gives it.
Instances (slot, port, queue, converter, sensor and so on) are numbered beside the name, from 0. -/

namespace Sys2Proof.Machine

/-- One named value of the device. Register fields first, in the order of the manual's tables, then the
values that only objects reach and the state the manual describes without a register. -/
inductive Reg where
  -- R8 (chapter file 00)
  | DEVICE_ID
  | SI_REV_MAJOR
  | SI_REV_MINOR
  -- R34 (chapter file 01)
  | SLACK_LAST
  | SLACK_MIN
  | SLACK_GUARD
  | SLACK_MIN_CLR
  | GUARD_REJ
  | SLACK_LOW
  | OBS_HALF
  | SLACK_LOW_SEEN
  | DEADLINE_MISS
  -- R42 (chapter file 01)
  | TAGS_INFLIGHT
  | TAGS_QUAR
  | TAG_WAIT
  | TAG_RECLAIM
  -- R53 (chapter file 01)
  | QBASE
  | QSIZE_LOG2
  | PRODUCER
  | QRD
  | QWR
  | QLEVEL
  | QWMARK
  | QDROP
  | QRESET
  | QOVF
  | QWR_REJ
  | QRD_REJ
  | QCFG_REJ
  | QWM_HIT
  -- R66 (chapter file 02)
  | TS
  | PLL_LOCK
  | REF_OK
  | TB_SRC_ACT
  | DL_COARSE
  | TB_LOST
  | DL_CAL_ERR
  | TB_APPLY_REJ
  | TB_SRC
  | TB_APPLY
  | DL_ELEMS
  | TB_GAP
  | TB_GAP_US
  | TICK_STAMP
  -- R74 (chapter file 02)
  | Q11_WM
  | Q11_FULL
  | Q15_DATA
  | FAULT
  | IRQ_EN_Q11
  | IRQ_EN_Q15
  | IRQ_EN_FAULT
  -- R86 (chapter file 02)
  | CLASH_LOST
  | HOST_WR_IGN
  -- R106 (chapter file 03)
  | PORT_ROLE_DEV
  | SLOT_ENGINE
  | SLOT_EPOCH
  | SPARE_MAP
  -- R135 (chapter file 04)
  | SEG_STATE
  | SEG_PTR
  | SEG_AHEAD
  | SEG_AHEAD_WM
  | TOL_WINDOW
  | TOL_ACTION
  | TRIG_SEL
  | TRIG_WIDTH
  | SEG_VMAX
  | SYNC_TIMEOUT
  | SEG_RESTART
  | SOFTLIM_HIT
  | UNDERRUN
  | SYNC_LATE
  | TOL_FAIL
  | VEL_EXCESS
  | STRETCH
  | SYNC_TO
  | AHEAD_LOW
  | LAST_REJ_CAUSE
  | LAST_REJ_PTR
  | SEG_DONE
  | SEG_REJ
  | SEG_DISCARD
  | SEG_STRETCH
  | SOFTLIM_LO
  | SOFTLIM_HI
  | POS_CMD
  | VEL_CMD
  -- R136 (chapter file 04)
  | ACC_MEMB
  | ACC_MODE
  | ACC_REJ
  | ACC_LEAD
  | ACC_GO_T
  | ACC_WAITING
  | ACC_PEND
  | ACC_GO_LOST
  -- R178 (chapter file 05)
  | PLAN_STATE
  | STOP_CAUSE
  | ACCEL_DEFERRED
  | TARGET_CLAMPED
  | LIM_N_HIT
  | LIM_P_HIT
  | LIM_BOTH
  | CS_VCLAMP
  | CSV_ACC_CLAMP
  | STEP_LAG
  | STOP_DEC
  | LIMIT_DEC
  | CS_MISS_MAX
  | CS_RESUME_WIN
  | CS_MISS
  | LIMN_EN
  | LIMP_EN
  | HOME_EN
  | LIMN_POL
  | LIMP_POL
  | HOME_POL
  | LIM_SWAP
  | SW_STATE
  | HOME_STATE
  | HOME_FAIL
  | HOMED
  | CHATTER_MAX
  | HOME_EDGES
  | HOME_DIST_MAX
  | HOME_LATCH
  | HS_CURRENT
  | HS_BACKOFF
  | HS_DIR
  | HOME_MOVE_BACK
  | HOME_IDX_MAX
  | SF_SCALE
  | SF_SMOOTH
  | SF_EDGE
  | SF_DIR_INV
  | SF_COUNT
  | SF_LAG_MAX
  | SF_STATE
  | SF_RESTART
  -- R211 (chapter file 06)
  | TIA_RANGE
  | SENSE_RATIO
  | IFS_MA
  | CUR_LIMIT
  | RUN_CURRENT
  | HOLD_CURRENT
  | HOLD_DELAY
  | HOLD_RAMP
  | CUR_BLANK
  | T_SAMPLE
  | WIN_ILK
  | HD_WIN_EVERY
  | CR_GAIN
  | CR_KI
  | NOSAMPLE_MAX
  | SUM_TOL
  | HARM3_AMP
  | HARM3_PH
  | HARM5_AMP
  | HARM5_PH
  | ADAPT_EN
  | RES_TARGET
  | RES_BAND
  | ADAPT_FLOOR
  | BL_KP
  | BL_KI
  | HALL_OFS
  | HALL_INV
  | WIND_R_NOM
  | WIND_L_NOM
  | CUR_MEAS_0
  | CUR_MEAS_1
  | CUR_MEAS_2
  | CUR_AMP
  | ADAPT_FACT
  | REG_STAT
  | VOLT_SAT
  | WIN_REJ
  | SUM_ERR
  | OPEN_WIND
  | SENSE_LOST
  | CUR_PARAM_REJ
  | NOSAMPLE
  | WIN_LATE
  | VBUS_FF
  | D_WIN_RD
  -- R241 (chapter file 07)
  | LOAD_ANGLE
  | RESERVE
  | OBS_MODE
  | OBS_STAT
  | STALL
  | SAL_LOW
  | R_RANGE
  | PROBE_ABORT
  | VW_CAL_REJ
  | OBS_PARAM_REJ
  | STALL_ANGLE
  | STALL_COUNT
  | STALL_ACTION
  | EMF_COLLAPSE
  | OBS_VLOW
  | INJ_EN
  | INJ_STILL
  | OBS_USE_ENC
  | INJ_VOLT
  | SAL_MIN
  | SALIENCY
  | PROBE_DELTA
  | PROBE_INT
  | R_EST
  | L_EST
  | EMF_EST
  | KE_EST
  | POS_EST
  | VW_TEMP
  | VW_STATE
  | VW_UNCAL
  | VW_AGE
  | VW_R25
  | VW_MAXAGE
  | VW_CAL_TREF
  | VW_CAL
  | STALL_CNT
  -- R268 (chapter file 08)
  | PERIOD
  | DEAD_TIME
  | DUTY
  | CMP_B
  | GROUP
  | REFRESH_LIMIT
  | REFRESH_WIDTH
  | TRIP_LIMIT
  | PRESC_ZERO
  | RTSEQ_ZERO
  | RTCONV_ZERO
  | CFG_PRD
  | CFG_CMPA
  | CFG_CMPB
  | MON_BLANK
  | PWM_EN
  | TRIP_CLR
  | LOAD_ALL
  | TRIP_ACTIVE
  | TRIP_LATCH
  | FULL_NOW
  | PRD_BUDGET
  | LOAD_PEND
  | DUTY_CLAMP
  | TRIP_SEEN
  | LOAD_REJ
  | GRP_REJ
  | TRIP_RUN
  | TRIP_TOTAL
  | TRIP_CLR_REF
  | REFRESH_CNT
  | MON_SKIP
  | PWM_EVT_LOST
  | REFRESH_RUN
  | PERIOD_DEV
  | DEAD_DEV
  | CMP_DEV
  -- R269 (chapter file 08)
  | LOAD_ALL_GRP
  | LOAD_PEND_GRP
  | TRIGO_PORT
  | TRIGO_SRC
  | TRIGO_PWM_EN
  | TRIGO_PW
  -- R297 (chapter file 09)
  | SRC_STEP
  | SNK_STEP
  | SC_THR
  | SC_BLANK
  | LSP_SHORT
  | HSP_SHORT
  | BST_UV
  | GD_LATCH
  | GD_CAUSE
  | SC_SEEN
  | ILK_TO
  | BST_UV_SEEN
  | GD_CLR_REF
  | GD_CLR
  | ILK_MAX_CLR
  | BST_UV_CNT
  | ILK_WAIT_MAX
  -- R298 (chapter file 09)
  | VDRV_OK
  | DIE_OT
  | HARD_OV
  | HARD_COAST
  | VDRV_UV_SEEN
  | HB_LOST
  | DIE_OT_SEEN
  | HARD_OV_SEEN
  | VDRV_MV
  | HS_HOLD_MAX
  | GD_APPLY
  | VDRV_UV_CNT
  | HB_LOST_CNT
  -- R299 (chapter file 09)
  | VBUS_LOW
  | VBUS_BRAKE
  | VBUS_OV
  | BRAKE_HYST
  | BRAKE_PORT
  | BRAKE_EN
  | RT_LIMIT
  | RT_STOP_MS
  | VBUS_MV
  | BUS_STAT
  | BUS_SEEN
  | THR_REJ
  | BRAKE_REJ
  | BUS_COAST_CNT
  | BRAKE_CNT
  | BUS_OV_CNT
  | SB_CMD
  -- R300 (chapter file 09)
  | RIDE_THROUGH
  | SB_END
  | SB_STILL
  | SB_STATE
  | SB_SCOPE
  | SB_CAUSE
  | PWR_STATE
  | SB_CNT
  -- R322 (chapter file 10)
  | CH_MODE
  | ENC_INV
  | Z_POL
  | Z_GATE
  | ENC_N
  | ENC_CLK
  | SW_N
  | SW_CLK
  | SD_N
  | SD_CLK
  | SPD_WIN
  | STILL_WINDOWS
  | ILLEGAL_LIMIT
  | ENC_POS
  | ENC_RATIO
  | FB_SOFTLIM_LO
  | FB_SOFTLIM_HI
  | ACT_POS
  | ENC_SPEED
  | FB_STAT
  | FB_FLAGS
  | ILLEGAL_COUNT
  | HALL_SKIP
  | ENC_FAULT_CLR
  | ENC_ALIGN
  | CAP_ARM
  | CAP_Z
  | CAP_HOME
  | CAP_LIMN
  | CAP_LIMP
  | CAP_ONESHOT
  | CAP_TRIGO
  | CAP_SEGTRIG
  | FE
  | FE_LIMIT
  | FE_TIME
  | ALIGN_MS
  -- R323 (chapter file 10)
  | CS_T
  | CS_PEND
  | CS_REJ
  | CS_LOST
  | CS_DONE
  | CS_CANCEL
  | CS_COUNT
  -- R349 (chapter file 11)
  | CONV_STATE
  | CONV_EPOCH
  | STRIKES
  | CAL_OFS
  | CAL_GAIN
  | CAL_START
  | CHK_FAIL_SEEN
  | RETIRED_SEEN
  | CAL_REJ
  | CAL_FAIL_SEEN
  | CHK_LAST_DEV
  | Q8_DECIM
  | INJ_DROP
  | SETTLE_CNT
  | ABORT_CNT
  | CHK_SKIP
  | SYS_OFS_A
  | SYS_GAIN_A
  | SYS_OFS_B
  | SYS_GAIN_B
  -- R350 (chapter file 11)
  | CH_EN
  | CH_COPY
  | FMT
  | AVG_N
  | SHIFT
  | DIFF
  | CH_REJ
  | CH_VAL
  | AIN_SYS_OFS
  | AIN_SYS_GAIN
  -- R351 (chapter file 11)
  | CHECK_TOL
  | AADC_CHECK_TOL
  | CAL_INTERVAL
  | CADC_RET
  | AADC_RET
  | PAIR_SUSPECT
  | CHK_REF_FAIL
  | CAL_DEFER
  | RETIRE_CNT
  | SYSCAL_TARGET
  | SYSCAL_CH
  | SYSCAL_ZERO
  | SYSCAL_REF
  | SYSCAL_REJ
  | SYSCAL_WHY
  -- R369 (chapter file 12)
  | SNS_EN
  | TH_TABLE
  | T_LIM
  | THM_AXES
  | NB0
  | NB1
  | NB2
  | NB_LO0
  | NB_LO1
  | NB_LO2
  | NB_HI0
  | NB_HI1
  | NB_HI2
  | RATE_MAX
  | TEMP
  | RAW
  | SNS_STATE
  | SCAN_RATE
  | LAST_CAUSE
  | FAIL_SEEN
  | TH_TAB_REJ
  | THM_PARAM_REJ
  | FAIL_CNT
  -- R370 (chapter file 12)
  | TD_ETA
  | TD_RS
  | TH_BETA
  | TH_R25
  | TH_RPU
  | NEAR_BAND
  | CLOSE_BAND
  | THR_INTERVAL
  | THR_FLOOR
  | THR_HOLD
  | GD_BUDGET
  | GD_EST
  | BUDGET_ACT
  | BUDGET_OVER
  | THR_STEP
  | THR_FROZEN
  | THR_HOLDING
  | THR_AT_FLOOR
  | THR_SEEN
  | THR_LIMIT
  | QG_NC
  -- R391 (chapter file 13)
  | RED_LOST
  | ABSORBED
  | STALE_DROP
  | ECC_CORR
  | ECC_UNCORR
  | STRIP_RUN
  | STRIP_MISMATCH
  | VOTE_SPLIT
  | MIGRATIONS
  | COLD_TAKE
  | ENG_DEAD
  | SEQ_RESTARTS
  | SEQ_WD_CNT
  | DOM_RESTARTS
  | CAN_LOSS
  | SEQ_NOPATCH
  | MIG_REJ
  | STRIP_INT
  | STRIP_SLOT
  | STRIP_ACTIVE
  | DEAD_MAP
  | VOTE_LOST_MAP
  | MIGRATE
  -- R415 (chapter file 14)
  | LINK_EN
  | LINK_RESTART
  | ROLE_ACT
  | LINK_STATE
  | RING_POS
  | RING_SIZE
  | OWN_EPOCH
  | RING_EXPECT
  | TIME_ERR
  | FREQ_TRIM
  | RING_OFS
  | LANE_OK
  | LINK_FLAGS
  | CRC_ERR
  | FENCE_CNT
  | FENCE_ACTION
  | FRAME_BYTES
  | AX_DN
  | AX_UP
  | DEV_STATE
  | DEV_EPOCH
  | DEV_LANES
  | ACC_RING
  -- R444 (chapter file 15)
  | MBX_IN
  | MBX_OUT
  | OUT_READY
  | IN_FULL
  | IN_DROP
  | OUT_TIMEOUT
  -- R470 (chapter file 16)
  | CLAIMED
  | SESS_OPEN
  | SESS_ROLE
  | SESS_PATH
  | SAFE_BOOT
  | PROF_ACTIVE
  | PROF_TARGET
  | PROF_SWITCHING
  | PROF_WAIT
  | PROF_VALID
  | SVC_HOURS
  | PATCH_LEVEL
  | ROLLBACK_MIN
  | PATCH_STATE
  | CLAIM_CNT
  | LAST_REFUSAL
  | REFUSALS
  | STAGED
  | AUDIT_HEAD
  | AUDIT_WRAPS
  -- R485 (chapter file 17)
  | BOOT_STAGE
  | BOOT_DONE
  | TB_NOREF
  | VANA_WAIT
  | RESET_CAUSE
  | BOOT_TIME
  | DOM_ON
  | DOM_OFF_REQ
  | DOM_REJ
  | DOM_REJ_CODE
  | DOM_BUSY
  -- Hidden state of fabric, queues and events (chapters 01 and 02)
  /-- R54: sequence number of the next event -/
  | EVENT_SEQ
  /-- R88: abort code of the last SDO or USDO access, 0 for none -/
  | ANS_ABORT
  /-- R62: the timebase is running -/
  | TB_RUNNING
  /-- R64: tick of the last STATUS_TICK -/
  | TICK_LAST
  -- Port map and slots (chapter 03)
  /-- R105: latent role byte of HBi -/
  | PORT_ROLE
  /-- R105: latent and developed kind of slot i -/
  | SLOT_KIND
  /-- R105: PORTMAP_STAT code -/
  | MAP_CODE
  /-- R105: PORTMAP_STAT first offending port -/
  | MAP_PORT
  /-- R105: PORTMAP_STAT offending slot -/
  | MAP_SLOT
  /-- R105: waiting slots of PORTMAP_STAT -/
  | MAP_WAIT
  /-- R96: ports whose waiting set is not yet developed -/
  | MAP_WAIT_X
  /-- R96: role byte of HBi in the accepted map -/
  | MAP_ROLE
  /-- R96: kind of slot i in the accepted map -/
  | MAP_KIND
  /-- R94: group of slot i in the accepted map -/
  | MAP_GROUP
  /-- R95: slots that span two banks -/
  | BANK_SPLIT
  /-- R105: ENGINE_STATE code of engine i -/
  | ENG_STATE
  -- Drive state and mode of a slot (chapters 05 and 15)
  /-- R430: CiA 402 state: 1 switch on disabled, 2 ready, 3 switched on, 4 operation enabled, 5 quick stop active, 6 fault reaction, 7 fault -/
  | DRIVE_STATE
  /-- R434: modes of operation 0x6060 -/
  | MODE
  /-- R434: modes of operation display 0x6061 -/
  | MODE_DISP
  /-- R426: 0 native, 1 GN2008 -/
  | DEV_MODE
  -- Evaluator state of a slot (chapter 04)
  /-- R118: curve position at the last evaluation instant, 1/65536 µstep, signed -/
  | EV_P
  /-- R118: curve velocity, 1/65536 of 1/64 µstep/s, signed -/
  | EV_V
  /-- R116: last evaluation instant in ticks -/
  | EV_T
  /-- R130: p_prev, the last commanded position output, 1/65536 µstep, signed -/
  | OUT_P
  /-- R130: the last commanded velocity output, signed -/
  | OUT_V
  /-- R167: coordinate shift in µsteps kept apart from the unshifted position, signed -/
  | HOME_SHIFT
  /-- R113: tail position of the stream, 1/65536 µstep, signed -/
  | TAIL_P
  /-- R113: tail velocity of the stream, signed -/
  | TAIL_V
  /-- R114: the fetcher discards entries until SEG_RESTART -/
  | SEG_DISCARDING
  /-- R49: queue pointer up to which the fetcher has checked -/
  | FETCH_PTR
  /-- R127: arrival of the slot at its SYNC segment, ticks -/
  | ARRIVAL
  /-- R128: the engine has seen the go of the waiting segment -/
  | GO_SEEN
  /-- R128: start time of the waiting SYNC segment once the go is seen -/
  | GO_START
  /-- R127: t_go of the pending go of accord i / 8 and slot i % 8 -/
  | GO_T
  /-- R115: SEG_AHEAD_LOW may be posted -/
  | AHEAD_ARMED
  /-- R121: VEL_EXCESS has been posted for the running segment -/
  | VEL_POSTED
  /-- R130: the output is in saturation -/
  | SOFT_IN
  /-- R138: the slot stands still -/
  | STILL_CMD
  -- Planner state of a slot (chapter 05)
  /-- R147: target of the current move, 1/65536 µstep, signed -/
  | TGT_P
  /-- R147: a target has been accepted since reset or homing -/
  | TGT_SET
  /-- R144: a new target or target velocity waits for the next motion update -/
  | TGT_NEW
  /-- R139: a mode entered in motion takes the curve over at the next motion update -/
  | MODE_ENTRY
  /-- R150: profile velocity runs a plan that ends at a soft limit: 1 before, 2 in its final ramp -/
  | LIM_PLAN
  /-- R161: blocked directions under which the slot was last planned: bit 0 negative, bit 1 positive; 4 after a limit stop -/
  | BLOCK_SEEN
  /-- R147: a set-point is pending in the buffer -/
  | SP_FULL
  /-- R147: pending set-point, 1/65536 µstep, signed -/
  | SP_P
  /-- R147: profile velocity of the pending set-point -/
  | SP_V
  /-- R147: statusword bit 12 in profile position -/
  | SP_ACK
  /-- R145: ACCEL_DEFERRED has been posted for this move -/
  | DEFER_POSTED
  /-- R147: speed at which the axis passes its target, 1/64 µstep/s -/
  | PASS_V
  /-- R158: deceleration the running stop started with -/
  | STOP_RATE
  /-- R157: stop cause waiting for the next motion update -/
  | STOP_REQ
  /-- R157: its deceleration -/
  | STOP_REQ_RATE
  /-- R157: its shape -/
  | STOP_REQ_SCURVE
  /-- R159: controlword bit 8 holds the slot -/
  | HALTED
  /-- R139: what the slot does at standstill: 1 ready, 2 switched on, 3 switch on disabled, 4 quick stop active, 5 fault, 6 mode change, 7 coast off -/
  | AFTER_STOP
  /-- R149: tick since which the actual position has stayed in the window -/
  | TR_SINCE
  /-- R149: the actual position is in the window -/
  | TR_IN
  /-- R149: statusword bit 10 -/
  | TARGET_REACHED
  /-- R179: 0x607A -/
  | TARGET_POS
  /-- R179: 0x607C -/
  | HOME_OFFSET
  /-- R179: 0x605D -/
  | HALT_OPTION
  /-- R179: 0x6067 -/
  | POS_WINDOW
  /-- R179: 0x6068 -/
  | POS_WINDOW_TIME
  /-- R179: 0x606D -/
  | VEL_WINDOW
  /-- R179: 0x606E -/
  | VEL_WINDOW_TIME
  /-- R179: 0x607F -/
  | MAX_PROFILE_VEL
  /-- R179: 0x6081 -/
  | PROFILE_VEL
  /-- R179: 0x6083 -/
  | PROFILE_ACC
  /-- R179: 0x6084 -/
  | PROFILE_DEC
  /-- R179: 0x6085 -/
  | QUICK_STOP_DEC
  /-- R179: 0x6086 -/
  | PROFILE_TYPE
  /-- R179: 0x6098 -/
  | HOMING_METHOD
  /-- R179: 0x6099:01 -/
  | HOMING_SPEED_SW
  /-- R179: 0x6099:02 -/
  | HOMING_SPEED_ZERO
  /-- R179: 0x609A -/
  | HOMING_ACC
  /-- R179: 0x60A4:01 -/
  | PROFILE_JERK
  /-- R179: 0x60C0 -/
  | IP_SUBMODE
  /-- R179: 0x60C1:01 -/
  | IP_TARGET
  /-- R179: 0x60C2:01 -/
  | IP_PERIOD
  /-- R179: 0x60C2:02 -/
  | IP_INDEX
  /-- R179: 0x60C5 -/
  | MAX_ACC
  /-- R179: 0x60FF -/
  | TARGET_VEL
  -- Cyclic chain of a slot (chapter 05)
  /-- R152: 0 waiting for the first target, 1 running, 2 broken -/
  | CH_STATE
  /-- R152: last accepted target, 1/65536 µstep, signed -/
  | CH_TARGET
  /-- R152: target before it, signed -/
  | CH_PREV
  /-- R152: under cubic interpolation, the segment to CH_TARGET is not built yet -/
  | CH_PENDING
  /-- R152: the chain has opened under cubic interpolation, and its first segment has not ended -/
  | CH_FRESH
  /-- R154: consecutive extrapolated periods -/
  | CH_MISSED
  /-- R153: ticks by which the next segment is lengthened, signed -/
  | CH_ADJUST
  /-- R156: the segment in progress is the last -/
  | CH_STOP
  -- Homing of a slot (chapter 05)
  /-- R163: method read at the start -/
  | HM_METHOD
  /-- R163: 1: the phase moves in the positive direction -/
  | HM_DIR
  /-- R164: position at the start of the phase, 1/65536 µstep, signed -/
  | HM_START
  /-- R166: the phase-ending or reference edge of the phase has been taken -/
  | HM_TAKEN
  /-- R167: reference position in the shifted coordinate, 1/65536 µstep, signed -/
  | HM_REF
  /-- R164: the settle phase is moving to the reference or backing off -/
  | HM_MOVING_BACK
  /-- R170: the current limit is reduced to HS_CURRENT -/
  | HM_LIMITED
  -- Step-follow of a slot (chapter 05)
  /-- R172: c_ref -/
  | SF_CREF
  /-- R172: p_ref, 1/65536 µstep, signed -/
  | SF_PREF
  /-- R172: count at the last period start of the slot -/
  | SF_SNAP
  -- Switch inputs of a slot (chapters 05 and 10)
  /-- R160: filtered levels of the LIMN, LIMP and HOME balls -/
  | SW_BALL
  /-- R172: filtered level of STEP -/
  | STEP_LEVEL
  /-- R172: filtered level of DIR -/
  | DIR_LEVEL
  -- Homing requests to the engine (chapter 05)
  /-- R164: what homing asks of the next motion update: 1 move, 2 brake, 3 to the reference, 4 back-off -/
  | HM_REQ
  -- Samples of the ports (chapters 06 and 11)
  /-- R183: last window sample of port i, signed code -/
  | SMP_CODE
  /-- R194: the sample is of this period's window -/
  | SMP_FRESH
  /-- R183: the sample was over range -/
  | SMP_OVR
  /-- R338: the sample is marked SETTLE -/
  | SMP_SETTLE
  -- Regulator state, instance 4 * slot + component (chapter 06); currents in µA, voltages in µV, signed
  /-- R197: integral term x -/
  | W_X
  /-- R215: back-EMF e -/
  | W_E
  /-- R197: predicted current -/
  | W_IPRED
  /-- R197: ref_prev -/
  | W_REF
  /-- R189: last measured current -/
  | W_MEAS
  /-- R197: voltage that developed at the start of this period -/
  | W_VAPP
  /-- R197: voltage posted for the next period -/
  | W_VNEXT
  /-- R200: the winding is saturated -/
  | W_SAT
  /-- R200: unsaturated updates in a row, saturating -/
  | W_UNSAT
  /-- R195: due samples missed in a row -/
  | W_MISS
  /-- R208: windowed periods in a row that look like an open winding -/
  | W_OPEN
  /-- R208: fresh samples in a row whose sum is beyond SUM_TOL -/
  | W_SUM
  /-- R210: last sum as a signed fraction -/
  | W_SUMVAL
  -- Regulator state of a slot (chapter 06)
  /-- R201: periods since the last windowed one in high-duty operation -/
  | HD_COUNT
  /-- R201: updates in a row with every winding at or below 15/16 of the window limit -/
  | HD_LOW
  /-- R201: largest unclamped winding voltage of this update, µV -/
  | HD_PEAK
  /-- R190: this period has a low-low window -/
  | WINDOWED
  /-- R209: the period after enable or resume is window-only -/
  | WINDOW_ONLY
  /-- R203: tick since which the slot has stood still -/
  | HOLD_SINCE
  /-- R203: tick at which the reduction ramp began -/
  | RAMP_SINCE
  /-- R185: I_base -/
  | I_BASE
  /-- R204: tick of the last fall of f_a -/
  | ADAPT_FALL
  /-- R207: accumulator y, signed -/
  | BL_Y
  /-- R207: I_q, signed -/
  | I_Q
  /-- R198: tick of the newest bus reading -/
  | VBUS_TICK
  /-- R198: BUS_FF_STALE has been posted for this gap -/
  | FF_POSTED
  /-- R206: theta_edge in µsteps -/
  | HALL_THETA
  /-- R206: tick of the last valid Hall edge -/
  | HALL_TICK
  /-- R206: sector of the last valid Hall state -/
  | HALL_SECT
  -- Observer state of a slot (chapter 07); angles in 1/65536 electrical turn
  /-- R216: rotor angle -/
  | OBS_TH
  /-- R224: last valid rotor angle -/
  | OBS_TH_LAST
  /-- R216: rotor speed, 1/65536 turn per second, signed -/
  | OBS_OMEGA
  /-- R224: tick of the last valid angle -/
  | OBS_T_LAST
  /-- R215: corrections in a row, saturating -/
  | OBS_EMF_RUN
  /-- R221: SALIENCY_LOW posted since enable -/
  | OBS_SAL_POSTED
  /-- R219: periods into the injection half-wave -/
  | OBS_HW
  /-- R220: injection cycles modulo 16 -/
  | OBS_CYC
  /-- R235: cycles that taught L_EST, saturating -/
  | OBS_L_CYC
  /-- R235: refinements of an injection cycle that ended wait for the next refinement update: saliency, inductance -/
  | OBS_REF_PEND
  /-- R227: learning updates of KE_EST, saturating -/
  | OBS_KE_UPD
  /-- R230: continuous updates of R_EST since enable, saturating -/
  | OBS_R_UPD
  /-- R32: the refinement was left out in the last cycle -/
  | OBS_PHASE
  /-- R227: KE_EST in 1/1024 nV per µstep/s -/
  | KE_FINE
  /-- R230: R_EST in 1/256 mΩ -/
  | R_FINE
  /-- R235: L_EST in 1/64 µH -/
  | L_FINE
  /-- R236: filtered resistance in 1/256 mΩ -/
  | R_FILT
  /-- R236: tick of the last filter update -/
  | R_FILT_TICK
  /-- R237: tick of the last R_EST update -/
  | R_UPD_TICK
  /-- R237: a valid estimate has been made since reset or the last map develop -/
  | R_EVER
  /-- R226: counted updates, instance 4 * slot + criterion -/
  | STALL_RUN
  /-- R228: tick of the declaration whose fault follows, 0 for none -/
  | STALL_HOLD
  /-- R228: a stall stop in profile velocity holds slot i until the next write of 0x60FF -/
  | STALL_STAND
  /-- R226: 1 + criterion that is due for declaration, 0 for none -/
  | STALL_NOW
  /-- R231: running probe: 0 none, 1 DC, 2 d-axis -/
  | PROBE_KIND
  /-- R231: tick at which the probe began -/
  | PROBE_START_T
  /-- R231: tick at which the last probe ended -/
  | PROBE_LAST
  /-- R231: POS_EST at the start, signed -/
  | PROBE_POS
  /-- R238: the probe serves VW_CAL -/
  | PROBE_FOR_CAL
  /-- R231: I_amp at the start of the probe -/
  | PROBE_HIGH
  -- More observer state (chapter 07); instance 4 * slot + component where a component is meant
  /-- R215: current the observer expects at the next sample, µA, signed -/
  | W_OPRED
  /-- R219: injected voltage posted for the next period, µV, signed -/
  | W_INJNEXT
  /-- R219: injected voltage that developed at the start of this period, signed -/
  | W_INJAPP
  /-- R219: predicted current response to the injection, µA, signed -/
  | W_IRESP
  /-- R232: current added to the setpoint by a d-axis probe, µA, signed -/
  | W_RADD
  /-- R220: current at the start of the injection half-wave, µA, signed -/
  | W_I0
  /-- R224: part of the position estimate beyond whole µsteps, 1/65536 µstep, signed -/
  | OBS_FRAC
  /-- R220: response along the rotor axis of the last injection half-wave, µA, signed -/
  | OBS_RA
  /-- R220: response across the injected axis of the last half-wave, µA, signed -/
  | OBS_RX
  /-- R220: response of the last half-wave injected across the rotor axis, µA -/
  | OBS_RC
  /-- R234: R_EST stands at a bound since the last accepted probe -/
  | OBS_BOUND
  /-- R231: summed voltage, instance 4 * slot + 2 * level + component, µV, signed -/
  | PROBE_V
  /-- R231: summed current, same instances, µA, signed -/
  | PROBE_I
  /-- R231: samples summed, instance 2 * slot + level -/
  | PROBE_N
  /-- R230: an accepted probe since enable -/
  | R_PROBED
  /-- R236: the filter has been reset since enable -/
  | R_FILTERED
  /-- R292: tick since which standstill has been reported in the stop-bath, 0 for no report -/
  | SB_STILL_SINCE
  -- Ports of the PWM block and the D-dies (chapters 08 and 09), instance: port
  /-- R271: lane state: 0 EN at 0, 1 the schedule runs, 2 low side held on, 3 high side held on -/
  | PORT_DRIVE
  /-- R255: the high side is off for the rest of the period -/
  | TRIPPED_H
  /-- R255: the low side is off for the rest of the period -/
  | TRIPPED_L
  /-- R256: a trip is held: it counts once per period -/
  | TRIP_HELD
  /-- R257: consecutive periods without a trip, saturating -/
  | TRIP_FREE
  /-- R246: latent compare value C of the engine in 1/32 tick, signed -/
  | CMP_LAT
  /-- R246: latent FULL bit -/
  | FULL_LAT
  /-- R246: the engine has posted for the coming period -/
  | CMP_NEW
  /-- R245: developed compare instant C in 1/32 tick, signed -/
  | C_DEV
  /-- R259: C was posted for this period or repeats under R33 -/
  | C_FROM_ENGINE
  /-- R253: the high side is on at the end of the last period -/
  | HIGH_ON
  /-- R253: this period opens with a refresh pulse -/
  | HALF_PULSE
  /-- R249: the port waits for the first period start of its new group -/
  | JOINING
  /-- R249: an accepted GROUP waits for the status tick -/
  | GROUP_WAIT
  /-- R281: consecutive undervoltage periods -/
  | BST_RUN
  /-- R281: periods that do not yet count toward three -/
  | BST_EXEMPT
  /-- R279: a leg test runs -/
  | LEG_TEST
  /-- R260: tick of the last PWM_EVENT posted for the port -/
  | EVT_TICK
  /-- R260: a PWM_EVENT has been posted for the port -/
  | EVT_POSTED
  /-- R259: prescaler counter, instance 4 * port + source -/
  | PRESC_CNT
  /-- R96: role copy of the D-die -/
  | DDIE_ROLE
  -- LOAD_ALL groups (chapter 08), instance: group
  /-- R250: period starts until the develop, 0 for none pending -/
  | LOAD_LEFT
  /-- R250: tick of the accepted LOAD_ALL -/
  | LOAD_TICK
  /-- R243: tick of the last period start of the group -/
  | GROUP_START
  -- TRIGO pins (chapter 08), instance: pin
  /-- R261: tick at which the pin returns low -/
  | TRIGO_END
  /-- R261: level of the pin -/
  | TRIGO_LEVEL
  -- Banks (chapter 09), instance: bank
  /-- R473: the supervisor has released the D-die -/
  | BANK_REL
  /-- R58: the D-die's watchdog has expired and it is not yet released -/
  | HB_OUT
  /-- R57: rolling count of the last heartbeat -/
  | HB_COUNT
  /-- R57: count of the last heartbeat that D-die i received -/
  | HB_SEEN
  /-- R57: tick of the last valid heartbeat -/
  | HB_TICK
  /-- R59: tick since which valid heartbeats have returned -/
  | HB_GOOD
  /-- R255: the TRIPN pin of the bank is active -/
  | TRIPN_LOW
  /-- R294: the junction has passed 170 °C and has not yet fallen below 150 °C -/
  | DIE_HOT
  /-- R475: the D-die is supplied and holds its port roles since a release -/
  | DIE_UP
  /-- R298: a GD_APPLY waits for the status tick -/
  | OVER_GD_APPLY
  -- The bus (chapter 09)
  /-- R285: tick since which the reading has stood at 10.0 V or more, 0 for not -/
  | COAST_GOOD
  /-- R284: tick at which BUS_LOW was set -/
  | BUS_LOW_SINCE
  /-- R284: the bus halt of RT_STOP_MS is in force -/
  | BUS_HALT
  /-- R288: tick at which BUS_OV cleared -/
  | OV_CLEAR_TICK
  /-- R288: slot i waits for the automatic return from the overvoltage stop-bath -/
  | OV_RETURN
  /-- R282: tick of the newest bus reading -/
  | BUS_READ_TICK
  -- Stop-bath and faults of a slot (chapters 09 and 15)
  /-- R291: slots of the scope the stop-bath was entered with -/
  | SB_GROUP
  /-- R289: tick at which the HS variant began -/
  | SB_HS_TICK
  /-- R434: cause of the standing fault, 0 for none -/
  | FAULT_CAUSE
  /-- R286: state to which the slot returns from the ride-through state -/
  | RT_BACK
  /-- R209: a compare value has been accepted since the slot was enabled -/
  | POSTED
  /-- R120: tick at which the segment trigger route of the slot falls -/
  | SEG_ROUTE_END
  /-- R225: the update after the window-only period sets the command -/
  | RESUME_SYNC
  /-- R432: a fault reset waits for its clears -/
  | RESETTING
  /-- R292: a clear of the running fault reset was refused -/
  | RESET_REFUSED
  /-- R434: 0x6040 -/
  | CONTROLWORD
  /-- R434: 0x605A -/
  | QSTOP_OPTION
  /-- R434: 0x605B -/
  | SHUTDOWN_OPTION
  /-- R434: 0x605C -/
  | DISABLE_OPTION
  /-- R434: 0x6007 -/
  | ABORT_OPTION
  -- Supervisor, strips, migration (chapter 13)
  /-- R384: losses and failed BISTs of engine i since reset, saturating at 2 -/
  | ENG_LOST
  /-- R383: engine i runs BIST -/
  | ENG_BIST
  /-- R374: 0: shadow, 1: voter of the running strip -/
  | STRIP_ENG
  /-- R375: cycles compared -/
  | STRIP_CYCLES
  /-- R376: 0 none, 1 vote running, 2 lone spare runs BIST -/
  | STRIP_VOTE
  /-- R375: cycle of the mismatch, 41 for the digest -/
  | STRIP_BAD_CYCLE
  /-- R373: next slot in ascending order -/
  | STRIP_NEXT
  /-- R373: tick of the last strip start -/
  | STRIP_LAST
  /-- R378: a migration of slot i is asked for -/
  | MIG_WANT
  /-- R379: engine to which slot i migrates once decided -/
  | MIG_TARGET
  /-- R380: the transfer of slot i's migration has failed -/
  | MIG_COLD
  /-- R376: why the slot migrates: 1 a lost vote (the old engine is dead), 2 presumed faulty (it runs BIST), 3 deadline misses, 0 else -/
  | MIG_KILLS
  /-- R40: tick of the last advance of slot i's epoch -/
  | EPOCH_TICK
  /-- R40: slot i's epoch has advanced since reset -/
  | EPOCH_MOVED
  /-- R33: consecutive deadline misses -/
  | MISS_RUN
  /-- R33: deadline misses within the last millisecond -/
  | MISS_WINDOW
  /-- R33: ticks of the last eight deadline misses of slot i / 8, the newest first -/
  | MISS_TICK
  /-- R30: period start at which the slot's running engine cycle should have ended, 0 for none running -/
  | CYC_END
  /-- R377: periods in a row without an accepted post -/
  | NO_POST_RUN
  /-- R32: cycles in a row with slack at or above twice the guard -/
  | SLACK_GOOD
  /-- R386: the sequencer restarts -/
  | SEQ_DOWN
  /-- R387: cause of the running restart -/
  | SEQ_CAUSE
  /-- R40: epoch of the sequencer -/
  | SEQ_EPOCH
  /-- R40: tick of the last advance of the sequencer's epoch -/
  | SEQ_EPOCH_TICK
  /-- R40: the sequencer's epoch has advanced since reset -/
  | SEQ_EPOCH_MOVED
  /-- R40: a sequencer restart waits for the 2 ms rule -/
  | SEQ_WAIT
  /-- R387: cause of the restart that waits -/
  | SEQ_WAIT_CAUSE
  /-- R387: tick of the last watchdog service -/
  | SEQ_SERVED
  /-- R387: ticks of watchdog restarts, instance 0 the newest -/
  | SEQ_WD_RECENT
  /-- R40: epoch of switched domain i -/
  | DOM_EPOCH
  /-- R40: tick of its last advance -/
  | DOM_EPOCH_TICK
  /-- R385: domain i restarts -/
  | DOM_RESTARTING
  /-- R40: a restart of domain i waits for the 2 ms rule -/
  | DOM_RESTART_WAIT
  /-- R385: tick of the last tag reclaim against domain i -/
  | RECLAIM_TICK
  /-- R385: a tag has been reclaimed against domain i -/
  | RECLAIM_SEEN
  /-- R38: tag i is in flight -/
  | TAG_BUSY
  /-- R39: domain of the helper that holds tag i -/
  | TAG_HELPER
  /-- R39: tick at which tag i was issued -/
  | TAG_SINCE
  /-- R39: tag i is in quarantine -/
  | TAG_QUARANTINE
  /-- R39: epoch of the helper when tag i was issued -/
  | TAG_EPOCH
  /-- R38: general requests that wait for a tag -/
  | TAG_QUEUE
  -- CAN and the network (chapters 13 and 15)
  /-- R421: 0 boot, 1 pre-operational, 2 operational, 3 stopped, 4 LSS unconfigured -/
  | NMT_STATE
  /-- R426: 0x2001:01 -/
  | NODE_ID
  /-- R420: node ID stored by LSS -/
  | NODE_ID_LSS
  /-- R420: node ID that takes effect at the next reset communication -/
  | NODE_ID_NEXT
  /-- R426: node ID in use -/
  | NODE_ID_ACT
  /-- R426: 0x2001:02 -/
  | CAN_MODE
  /-- R426: 0x2001:03 -/
  | ARB_RATE
  /-- R426: 0x2001:04 -/
  | DATA_RATE
  /-- R392: 0x2310:01 -/
  | CAN_RED
  /-- R392: 0x2310:02 -/
  | RED_WIN
  /-- R392: 0x2310:03 -/
  | CAN_SILENT
  /-- R389: 0x2310:04, bit b: bus b is lost -/
  | CAN_LOST
  /-- R392: 0x2310:05 -/
  | RED_DUP
  /-- R392: 0x2310:06 -/
  | RED_DIFF
  /-- R389: controller of bus i is bus-off -/
  | CAN_OFF
  /-- R389: tick of the last frame received on bus i -/
  | CAN_RX_TICK
  /-- R389: tick since which bus i is error-active and receiving -/
  | CAN_GOOD_TICK
  /-- R425: 0x1003, newest first -/
  | ERR_HIST
  /-- R425: 0x1003:00 -/
  | ERR_COUNT
  /-- R435: standing communication errors: 0 heartbeat timeout, 1 bus, 2 overrun, 3 short RPDO -/
  | COMM_ERR
  /-- R435: tick of the last EMCY sent -/
  | EMCY_TICK
  /-- R435: an EMCY has been sent since reset -/
  | EMCY_SENT
  /-- R425: 0x1005 -/
  | COB_SYNC
  /-- R425: 0x1006 -/
  | SYNC_PERIOD
  /-- R425: 0x1012 -/
  | COB_TIME
  /-- R425: 0x1014 -/
  | COB_EMCY
  /-- R425: 0x1015 -/
  | INHIBIT_EMCY
  /-- R425: 0x1016 -/
  | HB_CONSUMER
  /-- R425: 0x1017 -/
  | HB_PRODUCER
  /-- R425: 0x1019 -/
  | SYNC_OVERFLOW
  /-- R425: 0x1029:01 -/
  | ERROR_BEHAVIOUR
  /-- R425: 0x1F80 -/
  | NMT_STARTUP
  -- Audit log and reports (chapters 13 and 16)
  /-- R465: entry number of the next entry -/
  | AUDIT_SEQ
  /-- R465: tick of the last entry, for merging within 1 s -/
  | AUDIT_BASE
  /-- R465: an entry has been written since reset -/
  | AUDIT_LIVE
  /-- R77: tick of the last logged register refusal of path i -/
  | PATH_LOG_TICK
  /-- R77: a register refusal of path i has been logged -/
  | PATH_LOGGED
  -- More port state (chapter 08), instance: port
  /-- R294: the X-port was turned off by a fault of its bank and waits for PWM_EN -/
  | X_HELD
  /-- R253: this period is a 100 % period -/
  | FULL_CUR
  /-- R253: the low side turns on in this period -/
  | LOW_CUR
  /-- R245: turn-on of the low side in this period in 1/32 tick -/
  | LS_FROM
  /-- R245: its turn-off; equal to LS_FROM when the low side stays off -/
  | LS_TO
  /-- R245: turn-on of the high side in 1/32 tick, 0 when it stays on across the period start, 0xFFFFF when it stays off -/
  | HS_FROM
  /-- R65: delay-line selection of the port -/
  | DL_TAP
  /-- R266: the PERIOD of port i that last developed, before the power budget lengthens it -/
  | PERIOD_LOADED
  /-- R266: developed period lengthened by the power budget, 0 for none -/
  | PERIOD_LONG
  /-- R266: scaled high time while the budget lengthens the period -/
  | BUDGET_DUTY
  -- Feedback snapshot taken at a period start (chapter 10), instance: slot
  /-- R313: count at the last period start of the slot -/
  | FB_SNAP
  -- More drive and protection state (chapters 09 and 15)
  /-- R475: instance: port; short flags the D-die kept through the reset: 0 low side, 1 high side -/
  | DIE_SHORT
  /-- R281: instance: port; the lock-out stands at the scheduled high-side turn-on of this period -/
  | BST_BAD
  /-- R286: how the source of the mode goes on after a window-only period: 0 it starts, 1 after a ride-through, 2 after a cold takeover -/
  | MODE_RESUME
  /-- R295: FAULTN was low when last judged -/
  | FAULTN_LOW
  /-- R412: the manager holds FAULTN low -/
  | MGR_FAULTN
  /-- R433: instance: slot; enable operation is held in the ride-through state -/
  | FR_HELD
  /-- R175: instance: slot; pulse position minus commanded position of the last update, 1/65536 µstep, signed -/
  | SF_LAG
  -- Feedback unit (chapter 10), instance: channel
  /-- R314: offset of the scaled count, µsteps, signed -/
  | ENC_OFS
  /-- R308: illegal transitions, restarting after 1024 normal edges -/
  | ILL_RUN
  /-- R308: consecutive normal edges, saturating at 1024 -/
  | NORM_RUN
  /-- R307: last valid Hall state, 0 for none -/
  | HALL_STATE
  /-- R310: net counted edges of the running window, signed -/
  | SPD_NET
  /-- R310: edges of the running window, reversal edges among them -/
  | SPD_EDGES
  /-- R310: the window in progress is discarded -/
  | SPD_DISCARD
  /-- R310: tick at which the last window ended -/
  | SPD_WEND
  /-- R311: tick of the last counted edge -/
  | SPD_REF
  /-- R311: a counted edge exists in the present direction -/
  | SPD_REF_OK
  /-- R312: direction of the last edge: 0 none, 1 positive, 2 negative -/
  | SPD_DIR
  /-- R312: the running window holds a reversal edge -/
  | SPD_REV
  /-- R311: consecutive empty windows, saturating -/
  | SPD_EMPTY
  /-- R318: sequence number of the next capture -/
  | CAP_SEQ
  /-- R315: tick since which |FE| has exceeded the limit, 0 for not -/
  | FE_SINCE
  /-- R319: tick of the pending sheet -/
  | CS_TICK
  -- Converter sequencer (chapter 11), instance: port, pair, converter or auxiliary input
  /-- R196: the port's samples are the other pair's turn of a converter at half rate -/
  | SMP_SKIP
  /-- R335: a window sample of the port has been taken in this period -/
  | SMP_DONE
  /-- R194: a low side of port i tripped up to the end of this period's window -/
  | SMP_TRIP
  /-- R341: pair j: the next shared window serves the covered ports -/
  | HALF_TURN
  /-- R341: the port is converted by the partner of its own converter -/
  | PORT_CUT
  /-- R341: the inputs of AADCa are converted by its partner -/
  | AUX_CUT
  /-- R334: running conversion: 0 none, 1 monitor, 2 check, 3 injected, 4 round, 5 scan, 6 VBUS, 7 axis window -/
  | CONV_BUSY
  /-- R332: its channel -/
  | CONV_NOW
  /-- R334: kind of the aborted conversion that restarts after the injected one, 0 for none -/
  | CONV_REDO
  /-- R334: its channel -/
  | CONV_REDO_CH
  /-- R333: pending injected requests of the converter -/
  | INJ_N
  /-- R333: instance 4 * converter + place: channel [6:0], priority [9:7], requester [15:10] -/
  | INJ_REQ
  /-- R332: round input converted last -/
  | ROUND_POS
  /-- R332: pending scan requests of the auxiliary converter -/
  | SCAN_N
  /-- R332: instance 64 * converter + place: input [5:0], sensor [13:8] -/
  | SCAN_Q
  /-- R331: window count of the converter, or its round count -/
  | CONV_WIN
  /-- R338: coming samples of the port that are marked -/
  | PORT_SETTLE
  /-- R338: the next conversion of the input is marked -/
  | AUX_SETTLE
  /-- R350: a write to the configuration of the input waits for the next sequence start -/
  | AUX_NEW
  /-- R336: last 256 samples of the input, the newest in the low 16 bits -/
  | AUX_HIST
  /-- R337: over-range marks of the same samples -/
  | AUX_OVR
  /-- R338: samples taken since the averaging restart, at most 256 -/
  | AUX_N
  /-- R339: next check of pair j: 0 reference at 25 %, 1 cross check by the odd converter, 2 reference at 75 %, 3 cross check by the even one -/
  | CHK_PHASE
  /-- R340: the converter passed its latest reference check -/
  | CHK_PASSED
  /-- R340: cross checks beyond the tolerance in a row, of pair j -/
  | CHK_CROSS
  /-- R340: strikes of the pair's check reference in a row -/
  | CHK_REFRUN
  /-- R344: reference-check code recorded at the last self-calibration -/
  | CHK_CODE
  /-- R340: the second converter of a suspect pair waits for its self-calibration -/
  | CHK_PAIR_CAL
  /-- R340: retirement of the converter is decided -/
  | CONV_RET_DUE
  /-- R342: retirements of the converter since reset -/
  | CONV_RET_N
  /-- R342: the converter's self-calibration has failed -/
  | CONV_CALFAIL
  /-- R342: reference checks passed in a row while retired, saturating at 16 -/
  | CONV_PASSES
  /-- R345: a self-calibration of the converter runs -/
  | CONV_CAL
  /-- R346: a calibration waits for an injected conversion -/
  | CAL_WAIT
  /-- R345: tick from which the next periodic calibration is counted -/
  | CAL_TICK
  /-- R345: the converter has been through the first rotation of CAL_INTERVAL -/
  | CAL_ROTATED
  /-- R40: tick of the converter's last epoch advance -/
  | CONV_EPOCH_TICK
  /-- R40: its epoch has advanced since reset -/
  | CONV_EPOCH_MOVED
  /-- R40: an advance waits for the 2 ms rule -/
  | CONV_EPOCH_DUE
  /-- R330: a monitor sample of the port waits for the end of a protected interval -/
  | MON_WAIT
  /-- R347: system calibration in progress: 1 zero, 2 reference -/
  | SC_STEP
  /-- R347: channel of the running average -/
  | SC_RUN_CH
  /-- R347: a zero has been recorded since the last result -/
  | SC_ZERO_OK
  /-- R347: its channel -/
  | SC_ZERO_CH
  /-- R347: its code, signed -/
  | SC_ZERO
  -- Thermal supervisor (chapter 12), instance: sensor or slot
  /-- R359: T_ref, 1/64 °C, 0x8000 for none -/
  | T_REF
  /-- R362: last accepted reading, 1/64 °C, 0x8000 for none -/
  | T_ACC
  /-- R359: tick at which it was taken -/
  | T_REF_TICK
  /-- R361: consecutive failing scans, saturating -/
  | SNS_FAILS
  /-- R361: consecutive passing scans with the band check made -/
  | SNS_PASSES
  /-- R361: tick of the entry into QUALIFYING -/
  | QUAL_TICK
  /-- R362: substitute, 1/64 °C, 0x8000 for none -/
  | SNS_SUB
  /-- R363: the substitute rests on a single healthy neighbour -/
  | SNS_SINGLE
  /-- R358: tick since which the sensor has missed its scans, 0 for not -/
  | SNS_MISS
  /-- R358: THM_NO_SCAN has been posted -/
  | SNS_MISSED
  /-- R357: tick of the last scan -/
  | SNS_SCAN_TICK
  /-- R357: a scan of the sensor is in progress -/
  | SNS_PEND
  /-- R365: the slots whose steps the sensor holds frozen -/
  | SNS_FREEZES
  /-- R364: tick of the last step change -/
  | THR_SINCE
  /-- R365: hold_floor -/
  | THR_HFLOOR
  /-- R365: tick at which the hold ends -/
  | THR_HOLD_TICK
  /-- R367: groups lengthened -/
  | BUDGET_N
  /-- R367: instance: place; groups in the order of their lengthening -/
  | BUDGET_STK
  /-- R371: instance 16 * thermistor + point: resistance in Ω -/
  | TH_TAB_R
  /-- R371: its temperature, 1/64 °C, signed -/
  | TH_TAB_T
  /-- R355: accepted table -/
  | TH_DEV_R
  /-- R355: accepted table -/
  | TH_DEV_T
  /-- R355: a written table waits for its check at the next scan -/
  | TH_TAB_NEW
  -- Domains, timebase and boot (chapters 02 and 17)
  /-- R481: domains that are going off -/
  | DOM_LEAVING
  /-- R482: path of the last domain request: 0 host SPI, 1 USB, 2 CAN -/
  | DOM_REQ_PATH
  /-- R63: time-stamp at which the timebase stopped -/
  | TB_LOSS_TICK
  /-- R61: the timebase stops for a change of source -/
  | TB_RELOCK
  /-- R61: a timebase has run since reset -/
  | TB_EVER
  /-- R65: consecutive failed delay-line calibrations, saturating at 15 -/
  | DL_FAILS
  -- Baljan link (chapter 14), instance: lane, accord, position d, or global axis g
  /-- R400: the worker's ring time is locked -/
  | LOCKED
  /-- R394: RING_ID -/
  | RING_ID
  /-- R395: cycle of the last frame the worker has taken -/
  | RX_CYC
  /-- R396: CYCLE of the manager's last frame -/
  | CYC_NO
  /-- R395: ring time of its start -/
  | CYC_TICK
  /-- R394: tick at which the enumeration frame was sent -/
  | ENUM_TICK
  /-- R394: an enumeration frame has not yet returned -/
  | ENUM_OUT
  /-- R409: consecutive good frames on the lane, saturating at 64 -/
  | LANE_GOOD
  /-- R410: the last returned frame on the lane was wrapped -/
  | LANE_WRAP
  /-- R399: cable delay of the segment on the lane in 1/32 tick -/
  | CABLE
  /-- R400: consecutive cycles within 40 ns, saturating at 64 -/
  | ALIGN_RUN
  /-- R406: a ring go waits to be carried -/
  | RGO_PEND
  /-- R406: its ring time -/
  | RGO_T
  /-- R407: ring time of the last go given to local members -/
  | RGO_SEEN
  /-- R407: GO_MAP of the go being carried -/
  | GO_CARRY
  /-- R407: its T_GO -/
  | GO_CARRY_T
  /-- R407: cycles that still carry it -/
  | GO_LEFT
  /-- R408: a ring sheet is pending -/
  | RS_PEND
  /-- R408: its ring time -/
  | RS_T
  /-- R408: bitmap of devices with missing entries -/
  | RS_MISSING
  /-- R408: ring time of the last ring sheet committed here -/
  | RS_SEEN
  /-- R408: the local commit of the ring sheet was refused -/
  | SHEET_ERR
  /-- R404: cycles since the upstream part of d came, saturating at 15 -/
  | DEV_MISS
  /-- R397: last UP_STAT of d -/
  | DEV_UP
  /-- R40: tick of the last advance of d's epoch -/
  | DEV_EPOCH_TICK
  /-- R40: the advance of worker i's epoch waits for the 2 ms rule -/
  | DEV_EPOCH_DUE
  /-- R412: the fence of d holds FAULTN low -/
  | DEV_HOLD
  /-- R398: AX_DN of global axis g -/
  | RING_DN
  /-- R398: AX_UP of global axis g -/
  | RING_UP
  /-- R404: M_CONTROLWORD -/
  | M_CW
  /-- R404: M_MODE -/
  | M_MODE
  /-- R404: M_TARGET -/
  | M_TARGET
  /-- R404: M_SEGMENT word 0 -/
  | M_SEG_0
  /-- R404: word 1 -/
  | M_SEG_1
  /-- R404: word 2 -/
  | M_SEG_2
  /-- R404: word 3 -/
  | M_SEG_3
  /-- R404: a segment waits for the next cycle -/
  | M_SEG_SEND
  /-- R404: M_STATUSWORD -/
  | M_SW
  /-- R404: M_MODE_DISP -/
  | M_MODE_DISP
  /-- R404: M_RESERVE -/
  | M_RESERVE
  /-- R404: M_POS_ACT -/
  | M_POS_ACT
  /-- R404: M_VEL_ACT -/
  | M_VEL_ACT
  /-- R412: a fault reset has been sent through the mirror since the fence -/
  | M_FR
  /-- R402: ring words of slot i wait for the next motion update -/
  | RC_PEND
  /-- R402: the CTRL word -/
  | RC_CTRL
  /-- R402: the TARGET word -/
  | RC_TARGET
  /-- R402: it carries one -/
  | RC_HAS_TARGET
  /-- R416: ACC_RING_MEMBERS -/
  | ACC_RING_MEMB
  /-- R416: 0x2420:01 -/
  | TUNNEL_DEV
  /-- R416: 0x2420:02 -/
  | TUNNEL_OBJ
  /-- R405: a tunnel transfer waits for its answer -/
  | TUN_BUSY
  /-- R405: tick of its start -/
  | TUN_TICK
  /-- R405: the bytes of MSG_DN that carry it -/
  | TUN_MSG
  /-- R396: MSG_UP_OWNER of the last cycle -/
  | MSG_GRANT
  -- Register window and host SPI (chapter 02)
  /-- R87: 0x5000 -/
  | REG_WIN_ADDR
  /-- R87: 0x5002 -/
  | REG_WIN_CTRL
  /-- R87: 0x5004 -/
  | REG_WIN_COUNT
  /-- R87: 0x5005 -/
  | REG_WIN_STAT
  /-- R71: SPI_STAT of the previous frame -/
  | SPI_STAT
  /-- R71: bits the running frame has collected for the next SPI_STAT -/
  | SPI_BITS
  /-- R67: a frame with a good header runs -/
  | SPI_OPEN
  /-- R68: the device ignores the rest of the frame -/
  | SPI_DEAD
  /-- R68: direction of the frame: 1 write -/
  | SPI_WRITE
  /-- R68: the frame adds 4 to the address after each word -/
  | SPI_INC
  /-- R68: address of the next word -/
  | SPI_ADDR
  /-- R137: instance: 4 * slot + word; SEG_PDO words as last written -/
  | SEG_PDO_W
  -- PDOs (chapter 15), instance: PDO
  /-- R429: 0x1400 + i sub 01 -/
  | RPDO_COB
  /-- R429: sub 02 -/
  | RPDO_TYPE
  /-- R425: sub 05 -/
  | RPDO_TIMER
  /-- R429: 0x1600 + i sub 00 -/
  | RPDO_N
  /-- R429: instance: 16 * PDO + entry -/
  | RPDO_MAP
  /-- R428: data of a synchronous RPDO that waits for the next SYNC -/
  | RPDO_BUF
  /-- R428: its length in bytes -/
  | RPDO_LEN
  /-- R428: a synchronous RPDO waits -/
  | RPDO_WAIT
  /-- R429: 0x1800 + i sub 01 -/
  | TPDO_COB
  /-- R429: sub 02 -/
  | TPDO_TYPE
  /-- R429: sub 03 -/
  | TPDO_INH
  /-- R425: sub 05 -/
  | TPDO_TIMER
  /-- R425: sub 06 -/
  | TPDO_START
  /-- R429: 0x1A00 + i sub 00 -/
  | TPDO_N
  /-- R429: instance: 16 * PDO + entry -/
  | TPDO_MAP
  /-- R428: mapped data as last compared -/
  | TPDO_LAST
  /-- R428: a mapped object has changed since the last transmission -/
  | TPDO_CHG
  /-- R428: tick of the last transmission -/
  | TPDO_TICK
  /-- R428: it has been sent since it was last enabled -/
  | TPDO_SENT
  /-- R428: SYNCs since the last transmission -/
  | TPDO_CNT
  /-- R428: the SYNC start value has been met -/
  | TPDO_STARTED
  /-- R429: the COB-ID has been written: 0 to 31 RPDO, 32 to 63 TPDO, 64 EMCY -/
  | COB_WRITTEN
  -- NMT, LSS, SYNC, TIME and heartbeat (chapter 15)
  /-- R417: 1: LSS configuration state -/
  | LSS_MODE
  /-- R417: bit timing configured by LSS, 0xFF for none -/
  | LSS_BIT
  /-- R417: counter of the last SYNC -/
  | SYNC_CTR
  /-- R417: days of the last TIME -/
  | TIME_DAYS
  /-- R417: milliseconds of the last TIME -/
  | TIME_MS
  /-- R417: tick of its arrival -/
  | TIME_TICK
  /-- R425: instance: entry; the consumed heartbeat has been heard -/
  | HBC_ON
  /-- R425: tick of its last arrival -/
  | HBC_TICK
  /-- R425: its timeout has been reported -/
  | HBC_LOST
  /-- R425: tick of the last produced heartbeat -/
  | HBP_TICK
  /-- R422: a reset node waits for the slots to stand -/
  | RESET_NODE
  /-- R423: the communication of the slots has been lost and they have not yet acted on it -/
  | COMM_DUE
  -- Xomor (chapter 15), instance: path
  /-- R441: a request of the path is unanswered -/
  | XO_BUSY
  /-- R443: tick at which the first entry of the frame at the head of Q15 came there -/
  | Q15_TICK
  /-- R437: USB is attached -/
  | USB_UP
  -- Security (chapter 16)
  /-- R451: sequence of the stored revocation list -/
  | REV_SEQ
  /-- R451: token IDs below it are revoked -/
  | REVOKE_BELOW
  /-- R471: 0x2510 -/
  | SESS_IDLE
  /-- R459: SESSION_ID of the open session -/
  | SESS_ID
  /-- R463: tick of its last valid request -/
  | SESS_TICK
  /-- R458: VALID_TO of its token -/
  | SESS_VALID_TO
  /-- R458: TOKEN_ID of its token -/
  | SESS_TOKEN
  /-- R461: counter of the last accepted request -/
  | CTR_RX
  /-- R461: counter of the last response -/
  | CTR_TX
  /-- R461: frames dropped in the session -/
  | SESS_DROPS
  /-- R459: draws made from the true random source -/
  | DRAWS
  /-- R464: 0 no active half, 1 or 2: half 0 or half 1 -/
  | PATCH_ACTIVE
  /-- R464: bit h: half h holds a patch that has passed PATCH_END -/
  | PATCH_OK
  /-- R464: the sequencer runs the active patch -/
  | PATCH_RUN
  /-- R448: tick of the last SVC_HOURS increment -/
  | SVC_TICK
  /-- R457: 0x1000 to 0x1FFF and 0x2001 wait for the NMT reset communication -/
  | PROF_COMM
  /-- R457: the device-wide objects wait for the status tick -/
  | PROF_DEVICE
  /-- R469: slots that waited in the running switch -/
  | PROF_WAITED
  /-- R465: actor of the running switch -/
  | PROF_LOGTOK
  -- Straps (chapters 00 and 14)
  /-- R16: PROFSEL1 and PROFSEL0 as read at reset -/
  | PROFSEL
  /-- R394: ROLE as read at reset: 1 manager -/
  | ROLE_STRAP
  /-- R413: the slot is not enabled before the manager has sent it a fault reset -/
  | RING_RESET
  /-- R400: the worker has set RING_OFS since it joined -/
  | OFS_SET
  /-- R402: instance 3 * slot + place: an upstream word as of the last cycle start -/
  | UP_WORD
  /-- R412: the upstream part of d has come since the last cycle start -/
  | DEV_FRESH
  /-- R413: d has been fenced and does not run again yet -/
  | DEV_FENCED
deriving DecidableEq, Repr

end Sys2Proof.Machine
end

