-- ==== Sys2Proof/Machine/RegTable.lean ====
section
/-! DEFINITION. Width, reset value, place, access code, develop boundary and seal of every register field,
as the register tables of the manual give them (the rule is cited before each group). -/

namespace Sys2Proof.Machine

/-- Mapping entry `i % 16` of PDO `i / 16` as R429 predefines it: index, subindex and length in bits. -/
def pdoMapDefault (tx : Bool) (i : Nat) : Nat :=
  let n := i / 16
  let slot := 0x8000000 * (n / 4)
  if i % 16 = 0 then slot + (if tx then 0x60410010 else 0x60400010)
  else if i % 16 = 1 then
    if n % 4 = 1 then slot + (if tx then 0x60610008 else 0x60600008)
    else if n % 4 = 2 then slot + (if tx then 0x60640020 else 0x607A0020)
    else if n % 4 = 3 then slot + (if tx then 0x606C0020 else 0x60FF0020)
    else 0
  else 0

/-- Width of a value in bits. -/
def Reg.width : Reg → Nat
  | .SLACK_MIN_CLR | .GUARD_REJ | .SLACK_LOW | .OBS_HALF | .SLACK_LOW_SEEN | .QRESET
  | .QOVF | .QWR_REJ | .QRD_REJ | .QCFG_REJ | .QWM_HIT | .PLL_LOCK
  | .REF_OK | .TB_SRC_ACT | .DL_COARSE | .TB_LOST | .DL_CAL_ERR | .TB_APPLY_REJ
  | .TB_SRC | .TB_APPLY | .Q11_WM | .Q11_FULL | .Q15_DATA | .FAULT
  | .IRQ_EN_Q15 | .IRQ_EN_FAULT | .SEG_RESTART | .SOFTLIM_HIT | .UNDERRUN | .SYNC_LATE
  | .TOL_FAIL | .VEL_EXCESS | .STRETCH | .SYNC_TO | .AHEAD_LOW | .ACC_MODE
  | .ACC_REJ | .ACCEL_DEFERRED | .TARGET_CLAMPED | .LIM_N_HIT | .LIM_P_HIT | .LIM_BOTH
  | .CS_VCLAMP | .CSV_ACC_CLAMP | .STEP_LAG | .LIMN_EN | .LIMP_EN | .HOME_EN
  | .LIMN_POL | .LIMP_POL | .HOME_POL | .LIM_SWAP | .HOMED | .HS_DIR
  | .HOME_MOVE_BACK | .SF_EDGE | .SF_DIR_INV | .SF_RESTART | .ADAPT_EN | .HALL_INV
  | .VOLT_SAT | .WIN_REJ | .SUM_ERR | .OPEN_WIND | .SENSE_LOST | .CUR_PARAM_REJ
  | .STALL | .SAL_LOW | .R_RANGE | .PROBE_ABORT | .VW_CAL_REJ | .OBS_PARAM_REJ
  | .INJ_EN | .INJ_STILL | .OBS_USE_ENC | .VW_UNCAL | .VW_CAL | .RTSEQ_ZERO
  | .RTCONV_ZERO | .PWM_EN | .TRIP_CLR | .LOAD_ALL | .TRIP_ACTIVE | .TRIP_LATCH
  | .FULL_NOW | .PRD_BUDGET | .LOAD_PEND | .DUTY_CLAMP | .TRIP_SEEN | .LOAD_REJ
  | .GRP_REJ | .TRIGO_PWM_EN | .LSP_SHORT | .HSP_SHORT | .BST_UV | .GD_LATCH
  | .SC_SEEN | .ILK_TO | .BST_UV_SEEN | .GD_CLR_REF | .GD_CLR | .ILK_MAX_CLR
  | .VDRV_OK | .DIE_OT | .HARD_OV | .HARD_COAST | .VDRV_UV_SEEN | .HB_LOST
  | .DIE_OT_SEEN | .HARD_OV_SEEN | .GD_APPLY | .BRAKE_EN | .THR_REJ | .BRAKE_REJ
  | .RIDE_THROUGH | .SB_END | .ENC_INV | .Z_POL | .Z_GATE | .ENC_FAULT_CLR
  | .ENC_ALIGN | .CAP_ARM | .CAP_Z | .CAP_ONESHOT | .CAP_SEGTRIG | .CS_PEND
  | .CS_REJ | .CS_LOST | .CS_DONE | .CS_CANCEL | .CAL_START | .CHK_FAIL_SEEN
  | .RETIRED_SEEN | .CAL_REJ | .CAL_FAIL_SEEN | .CH_EN | .CH_COPY | .DIFF
  | .CH_REJ | .SYSCAL_ZERO | .SYSCAL_REF | .SYSCAL_REJ | .SNS_EN | .TH_TABLE
  | .FAIL_SEEN | .TH_TAB_REJ | .THM_PARAM_REJ | .BUDGET_ACT | .BUDGET_OVER | .THR_FROZEN
  | .THR_HOLDING | .THR_AT_FLOOR | .THR_SEEN | .SEQ_NOPATCH | .MIG_REJ | .STRIP_ACTIVE
  | .LINK_EN | .LINK_RESTART | .ROLE_ACT | .FENCE_ACTION | .ACC_RING | .OUT_READY
  | .IN_FULL | .IN_DROP | .OUT_TIMEOUT | .CLAIMED | .SESS_OPEN | .SAFE_BOOT
  | .PROF_SWITCHING | .BOOT_DONE | .TB_NOREF | .VANA_WAIT | .DOM_REJ | .TB_RUNNING
  | .SEG_DISCARDING | .GO_SEEN | .AHEAD_ARMED | .VEL_POSTED | .SOFT_IN | .STILL_CMD
  | .TGT_SET | .TGT_NEW | .MODE_ENTRY | .SP_FULL | .SP_ACK | .DEFER_POSTED
  | .STOP_REQ_SCURVE | .HALTED | .TR_IN | .TARGET_REACHED | .CH_PENDING | .CH_FRESH
  | .CH_STOP | .HM_DIR | .HM_TAKEN | .HM_MOVING_BACK | .HM_LIMITED | .STEP_LEVEL
  | .DIR_LEVEL | .SMP_FRESH | .SMP_OVR | .SMP_SETTLE | .W_SAT | .WINDOWED
  | .WINDOW_ONLY | .FF_POSTED | .OBS_SAL_POSTED | .OBS_PHASE | .R_EVER | .STALL_STAND
  | .PROBE_FOR_CAL | .OBS_BOUND | .R_PROBED | .R_FILTERED | .TRIPPED_H | .TRIPPED_L
  | .TRIP_HELD | .FULL_LAT | .CMP_NEW | .C_FROM_ENGINE | .HIGH_ON | .HALF_PULSE
  | .JOINING | .GROUP_WAIT | .LEG_TEST | .EVT_POSTED | .TRIGO_LEVEL | .BANK_REL
  | .HB_OUT | .TRIPN_LOW | .DIE_HOT | .DIE_UP | .OVER_GD_APPLY | .BUS_HALT
  | .OV_RETURN | .POSTED | .RESUME_SYNC | .RESETTING | .RESET_REFUSED | .ENG_BIST
  | .MIG_WANT | .MIG_COLD | .EPOCH_MOVED | .SEQ_DOWN | .SEQ_EPOCH_MOVED | .SEQ_WAIT
  | .DOM_RESTARTING | .DOM_RESTART_WAIT | .RECLAIM_SEEN | .TAG_BUSY | .TAG_QUARANTINE | .CAN_OFF
  | .EMCY_SENT | .AUDIT_LIVE | .PATH_LOGGED | .X_HELD | .FULL_CUR | .LOW_CUR
  | .BST_BAD | .FAULTN_LOW | .MGR_FAULTN | .FR_HELD | .SPD_DISCARD | .SPD_REF_OK
  | .SPD_REV | .SMP_SKIP | .SMP_DONE | .SMP_TRIP | .HALF_TURN | .PORT_CUT
  | .AUX_CUT | .AUX_SETTLE | .AUX_NEW | .CHK_PASSED | .CHK_PAIR_CAL | .CONV_RET_DUE
  | .CONV_CALFAIL | .CONV_CAL | .CAL_WAIT | .CAL_ROTATED | .CONV_EPOCH_MOVED | .CONV_EPOCH_DUE
  | .MON_WAIT | .SC_ZERO_OK | .SNS_SINGLE | .SNS_MISSED | .SNS_PEND | .TH_TAB_NEW
  | .TB_RELOCK | .TB_EVER | .LOCKED | .ENUM_OUT | .LANE_WRAP | .RGO_PEND
  | .RS_PEND | .SHEET_ERR | .DEV_EPOCH_DUE | .DEV_HOLD | .M_SEG_SEND | .M_FR
  | .RC_PEND | .RC_HAS_TARGET | .TUN_BUSY | .SPI_OPEN | .SPI_DEAD | .SPI_WRITE
  | .SPI_INC | .RPDO_WAIT | .TPDO_CHG | .TPDO_SENT | .TPDO_STARTED | .COB_WRITTEN
  | .LSS_MODE | .HBC_ON | .HBC_LOST | .RESET_NODE | .COMM_DUE | .XO_BUSY
  | .USB_UP | .PATCH_RUN | .PROF_COMM | .PROF_DEVICE | .ROLE_STRAP | .RING_RESET
  | .OFS_SET | .DEV_FRESH | .DEV_FENCED => 1
  | .PRODUCER | .IRQ_EN_Q11 | .TOL_ACTION | .SF_STATE | .TIA_RANGE | .STALL_ACTION
  | .VW_STATE | .TRIGO_SRC | .SB_STATE | .SB_SCOPE | .CH_MODE | .ENC_CLK
  | .SW_CLK | .SD_CLK | .CAP_HOME | .CAP_LIMN | .CAP_LIMP | .STRIKES
  | .FMT | .AADC_RET | .SCAN_RATE | .AX_DN | .AX_UP | .DEV_LANES
  | .SESS_ROLE | .SESS_PATH | .PATCH_STATE | .LIM_PLAN | .CH_STATE | .OBS_REF_PEND
  | .STALL_NOW | .PROBE_KIND | .PORT_DRIVE | .BST_RUN | .LOAD_LEFT | .ENG_LOST
  | .STRIP_VOTE | .MIG_KILLS | .MISS_RUN | .SEQ_CAUSE | .SEQ_WAIT_CAUSE | .CAN_LOST
  | .DIE_SHORT | .MODE_RESUME | .SPD_DIR | .PORT_SETTLE | .CHK_PHASE | .CHK_CROSS
  | .CHK_REFRUN | .CONV_RET_N | .SC_STEP | .GO_LEFT | .RING_DN | .RING_UP
  | .PATCH_ACTIVE | .PATCH_OK | .PROFSEL => 2
  | .TRIG_SEL | .PLAN_STATE | .SW_STATE | .HOME_STATE | .OBS_MODE | .SRC_STEP
  | .SNK_STEP | .SC_BLANK | .CONV_STATE | .SNS_STATE | .LAST_CAUSE | .STRIP_SLOT
  | .LINK_STATE | .DEV_STATE | .PROF_ACTIVE | .PROF_TARGET | .DRIVE_STATE | .BLOCK_SEEN
  | .SW_BALL | .HM_REQ | .HALL_SECT | .RT_BACK | .STRIP_NEXT | .NMT_STATE
  | .HALL_STATE | .CONV_BUSY | .CONV_REDO | .INJ_N | .DOM_REQ_PATH => 3
  | .QSIZE_LOG2 | .SLOT_ENGINE | .SLOT_EPOCH | .SEG_STATE | .STOP_CAUSE | .CS_MISS_MAX
  | .SF_SMOOTH | .GROUP | .SC_THR | .PWR_STATE | .ENC_N | .SW_N
  | .SD_N | .SPD_WIN | .CAP_TRIGO | .CONV_EPOCH | .AVG_N | .SHIFT
  | .SYSCAL_WHY | .THR_FLOOR | .OWN_EPOCH | .LANE_OK | .DEV_EPOCH | .PROF_VALID
  | .BOOT_STAGE | .DOM_REJ_CODE | .EVENT_SEQ | .MAP_GROUP | .STOP_REQ | .AFTER_STOP
  | .CH_MISSED | .W_SUM | .HB_COUNT | .HB_SEEN | .STRIP_ENG | .MIG_TARGET
  | .MISS_WINDOW | .SEQ_EPOCH | .DOM_EPOCH | .TAG_HELPER | .TAG_EPOCH | .COMM_ERR
  | .CAP_SEQ | .BUDGET_STK | .DL_FAILS | .DEV_MISS | .SESS_DROPS => 4
  | .HD_WIN_EVERY | .PRESC_ZERO | .TRIGO_PORT | .BRAKE_PORT | .BUS_STAT | .BUS_SEEN
  | .FB_FLAGS | .THR_STEP | .RED_LOST | .RING_POS | .LINK_FLAGS | .RESET_CAUSE
  | .HD_COUNT | .HD_LOW | .OBS_CYC | .PRESC_CNT | .NO_POST_RUN | .ERR_COUNT
  | .CONV_PASSES | .THR_HFLOOR | .BUDGET_N | .SPI_BITS | .RPDO_N | .TPDO_N => 5
  | .RES_BAND | .REG_STAT | .SAL_MIN | .BRAKE_HYST | .NB0 | .NB1
  | .NB2 | .NEAR_BAND | .CLOSE_BAND | .RING_SIZE | .RING_EXPECT | .BST_EXEMPT
  | .STRIP_CYCLES | .SNS_PASSES => 6
  | .TAGS_INFLIGHT | .TAGS_QUAR | .CFG_PRD | .CFG_CMPA | .CFG_CMPB | .SYSCAL_CH
  | .STAGED | .TRIP_FREE | .CONV_NOW | .CONV_REDO_CH | .ROUND_POS | .SCAN_N
  | .SC_RUN_CH | .SC_ZERO_CH | .LANE_GOOD | .ALIGN_RUN | .RPDO_LEN => 7
  | .SI_REV_MAJOR | .SI_REV_MINOR | .DL_ELEMS | .PORT_ROLE_DEV | .TRIG_WIDTH | .LAST_REJ_CAUSE
  | .ACC_MEMB | .ACC_WAITING | .ACC_PEND | .HOME_FAIL | .CHATTER_MAX | .HOME_EDGES
  | .WIN_ILK | .NOSAMPLE_MAX | .RES_TARGET | .RESERVE | .OBS_STAT | .VW_AGE
  | .REFRESH_LIMIT | .TRIP_LIMIT | .TRIP_RUN | .REFRESH_RUN | .TRIGO_PW | .GD_CAUSE
  | .SB_CMD | .SB_CAUSE | .STILL_WINDOWS | .ILLEGAL_LIMIT | .Q8_DECIM | .PAIR_SUSPECT
  | .THM_AXES | .RATE_MAX | .MIGRATE | .PROF_WAIT | .LAST_REFUSAL | .PORT_ROLE
  | .SLOT_KIND | .MAP_CODE | .MAP_PORT | .MAP_SLOT | .MAP_WAIT | .MAP_ROLE
  | .MAP_KIND | .BANK_SPLIT | .ENG_STATE | .MODE | .MODE_DISP | .DEV_MODE
  | .HOMING_METHOD | .IP_PERIOD | .IP_INDEX | .HM_METHOD | .W_MISS | .W_OPEN
  | .OBS_EMF_RUN | .OBS_HW | .OBS_L_CYC | .DDIE_ROLE | .SB_GROUP | .FAULT_CAUSE
  | .STRIP_BAD_CYCLE | .NODE_ID | .NODE_ID_LSS | .NODE_ID_NEXT | .NODE_ID_ACT | .CAN_MODE
  | .ARB_RATE | .DATA_RATE | .CAN_RED | .RED_WIN | .SYNC_OVERFLOW | .ERROR_BEHAVIOUR
  | .DL_TAP | .ILL_RUN | .SPD_EMPTY | .SNS_FAILS | .SNS_FREEZES | .GO_CARRY
  | .M_MODE | .M_MODE_DISP | .M_RESERVE | .TUNNEL_DEV | .MSG_GRANT | .REG_WIN_CTRL
  | .REG_WIN_STAT | .SPI_STAT | .RPDO_TYPE | .TPDO_TYPE | .TPDO_START | .TPDO_CNT
  | .LSS_BIT | .SYNC_CTR | .PROF_WAITED => 8
  | .SLACK_GUARD | .CUR_BLANK | .REFRESH_WIDTH | .MON_BLANK | .CHK_REF_FAIL | .QG_NC
  | .SLACK_GOOD | .AUX_N => 9
  | .SPARE_MAP | .T_SAMPLE | .VW_MAXAGE | .HS_HOLD_MAX | .VBUS_LOW | .VBUS_BRAKE
  | .VBUS_OV | .ALIGN_MS | .CHECK_TOL | .THR_INTERVAL | .THR_HOLD | .STRIP_INT
  | .DEAD_MAP | .VOTE_LOST_MAP | .AUDIT_HEAD => 10
  | .SF_SCALE | .FB_STAT | .FRAME_BYTES | .NORM_RUN => 11
  | .STALL_COUNT | .PROBE_INT | .CAL_INTERVAL | .GD_BUDGET | .DOM_ON | .DOM_OFF_REQ
  | .DOM_BUSY | .STALL_RUN | .DOM_LEAVING => 12
  | .HALL_OFS | .TD_ETA | .HALL_THETA => 13
  | .QBASE | .INJ_VOLT | .PERIOD | .PERIOD_DEV | .SMP_CODE | .PERIOD_LOADED
  | .PERIOD_LONG => 14
  | .QRD | .QWR | .QLEVEL | .QWMARK | .SEG_PTR | .LAST_REJ_PTR
  | .STALL_ANGLE | .DEAD_TIME | .DEAD_DEV | .FETCH_PTR => 15
  | .DEVICE_ID | .SLACK_LAST | .SLACK_MIN | .DEADLINE_MISS | .TAG_WAIT | .TAG_RECLAIM
  | .QDROP | .TB_GAP | .TB_GAP_US | .TICK_STAMP | .CLASH_LOST | .HOST_WR_IGN
  | .SEG_AHEAD | .SEG_AHEAD_WM | .SYNC_TIMEOUT | .SEG_DONE | .SEG_REJ | .SEG_DISCARD
  | .SEG_STRETCH | .ACC_LEAD | .ACC_GO_LOST | .CS_MISS | .HS_CURRENT | .SENSE_RATIO
  | .IFS_MA | .CUR_LIMIT | .RUN_CURRENT | .HOLD_CURRENT | .HOLD_DELAY | .HOLD_RAMP
  | .CR_GAIN | .CR_KI | .SUM_TOL | .HARM3_AMP | .HARM3_PH | .HARM5_AMP
  | .HARM5_PH | .ADAPT_FLOOR | .BL_KP | .BL_KI | .WIND_R_NOM | .WIND_L_NOM
  | .CUR_MEAS_0 | .CUR_MEAS_1 | .CUR_MEAS_2 | .CUR_AMP | .ADAPT_FACT | .NOSAMPLE
  | .WIN_LATE | .VBUS_FF | .D_WIN_RD | .LOAD_ANGLE | .EMF_COLLAPSE | .SALIENCY
  | .PROBE_DELTA | .R_EST | .L_EST | .EMF_EST | .KE_EST | .VW_TEMP
  | .VW_R25 | .VW_CAL_TREF | .STALL_CNT | .TRIP_TOTAL | .TRIP_CLR_REF | .REFRESH_CNT
  | .MON_SKIP | .PWM_EVT_LOST | .LOAD_ALL_GRP | .LOAD_PEND_GRP | .BST_UV_CNT | .ILK_WAIT_MAX
  | .VDRV_MV | .VDRV_UV_CNT | .HB_LOST_CNT | .RT_LIMIT | .RT_STOP_MS | .BUS_COAST_CNT
  | .BRAKE_CNT | .BUS_OV_CNT | .SB_STILL | .SB_CNT | .ILLEGAL_COUNT | .HALL_SKIP
  | .FE_TIME | .CS_COUNT | .CAL_OFS | .CAL_GAIN | .CHK_LAST_DEV | .INJ_DROP
  | .SETTLE_CNT | .ABORT_CNT | .CHK_SKIP | .SYS_OFS_A | .SYS_GAIN_A | .SYS_OFS_B
  | .SYS_GAIN_B | .CH_VAL | .AIN_SYS_OFS | .AIN_SYS_GAIN | .AADC_CHECK_TOL | .CADC_RET
  | .CAL_DEFER | .RETIRE_CNT | .SYSCAL_TARGET | .T_LIM | .NB_LO0 | .NB_LO1
  | .NB_LO2 | .NB_HI0 | .NB_HI1 | .NB_HI2 | .TEMP | .RAW
  | .FAIL_CNT | .TD_RS | .TH_BETA | .TH_R25 | .TH_RPU | .GD_EST
  | .THR_LIMIT | .ABSORBED | .STALE_DROP | .ECC_CORR | .ECC_UNCORR | .STRIP_RUN
  | .STRIP_MISMATCH | .VOTE_SPLIT | .MIGRATIONS | .COLD_TAKE | .ENG_DEAD | .SEQ_RESTARTS
  | .SEQ_WD_CNT | .DOM_RESTARTS | .CAN_LOSS | .TIME_ERR | .FREQ_TRIM | .CRC_ERR
  | .FENCE_CNT | .PATCH_LEVEL | .ROLLBACK_MIN | .CLAIM_CNT | .REFUSALS | .AUDIT_WRAPS
  | .BOOT_TIME | .HALT_OPTION | .POS_WINDOW_TIME | .VEL_WINDOW_TIME | .PROFILE_TYPE | .IP_SUBMODE
  | .W_UNSAT | .W_SUMVAL | .I_BASE | .OBS_TH | .OBS_TH_LAST | .OBS_KE_UPD
  | .OBS_R_UPD | .PROBE_HIGH | .PROBE_N | .CONTROLWORD | .QSTOP_OPTION | .SHUTDOWN_OPTION
  | .DISABLE_OPTION | .ABORT_OPTION | .TAG_QUEUE | .CAN_SILENT | .RED_DUP | .RED_DIFF
  | .INHIBIT_EMCY | .HB_PRODUCER | .INJ_REQ | .SCAN_Q | .CHK_CODE | .SC_ZERO
  | .T_REF | .T_ACC | .SNS_SUB | .TH_TAB_T | .TH_DEV_T | .RING_ID
  | .M_CW | .M_SW | .REG_WIN_COUNT | .RPDO_TIMER | .TPDO_INH | .TPDO_TIMER
  | .TIME_DAYS | .SESS_IDLE => 16
  | .OBS_FRAC => 18
  | .DUTY | .CMP_B | .BUDGET_DUTY => 19
  | .LS_FROM | .LS_TO | .HS_FROM => 20
  | .SPI_ADDR => 24
  | .TIME_MS => 28
  | .TOL_WINDOW | .SEG_VMAX | .VEL_CMD | .STOP_DEC | .LIMIT_DEC | .CS_RESUME_WIN
  | .HOME_DIST_MAX | .HS_BACKOFF | .HOME_IDX_MAX | .SF_COUNT | .SF_LAG_MAX | .OBS_VLOW
  | .CMP_DEV | .VBUS_MV | .ENC_RATIO | .ENC_SPEED | .FE | .FE_LIMIT
  | .MBX_IN | .MBX_OUT | .SVC_HOURS | .ANS_ABORT | .MAP_WAIT_X | .SP_V
  | .PASS_V | .STOP_RATE | .STOP_REQ_RATE | .TARGET_POS | .HOME_OFFSET | .POS_WINDOW
  | .VEL_WINDOW | .MAX_PROFILE_VEL | .PROFILE_VEL | .PROFILE_ACC | .PROFILE_DEC | .QUICK_STOP_DEC
  | .HOMING_SPEED_SW | .HOMING_SPEED_ZERO | .HOMING_ACC | .PROFILE_JERK | .IP_TARGET | .MAX_ACC
  | .TARGET_VEL | .CH_ADJUST | .SF_CREF | .SF_SNAP | .I_Q | .CMP_LAT
  | .C_DEV | .ERR_HIST | .COB_SYNC | .SYNC_PERIOD | .COB_TIME | .COB_EMCY
  | .HB_CONSUMER | .NMT_STARTUP | .AUDIT_SEQ | .SPD_NET | .SPD_EDGES | .CONV_WIN
  | .TH_TAB_R | .TH_DEV_R | .RX_CYC | .CYC_NO | .CABLE | .RS_MISSING
  | .DEV_UP | .M_TARGET | .M_SEG_0 | .M_SEG_1 | .M_SEG_2 | .M_SEG_3
  | .M_POS_ACT | .M_VEL_ACT | .RC_CTRL | .RC_TARGET | .TUNNEL_OBJ | .REG_WIN_ADDR
  | .SEG_PDO_W | .RPDO_COB | .RPDO_MAP | .TPDO_COB | .TPDO_MAP | .REV_SEQ
  | .REVOKE_BELOW | .SESS_ID | .SESS_VALID_TO | .SESS_TOKEN | .CTR_RX | .CTR_TX
  | .PROF_LOGTOK | .UP_WORD => 32
  | .SOFTLIM_LO | .SOFTLIM_HI | .POS_CMD | .HOME_LATCH | .POS_EST | .ENC_POS
  | .FB_SOFTLIM_LO | .FB_SOFTLIM_HI | .ACT_POS | .FB_SNAP => 48
  | .TS | .ACC_GO_T | .CS_T | .RING_OFS | .TICK_LAST | .EV_P
  | .EV_V | .EV_T | .OUT_P | .OUT_V | .HOME_SHIFT | .TAIL_P
  | .TAIL_V | .ARRIVAL | .GO_START | .GO_T | .TGT_P | .SP_P
  | .TR_SINCE | .CH_TARGET | .CH_PREV | .HM_START | .HM_REF | .SF_PREF
  | .W_X | .W_E | .W_IPRED | .W_REF | .W_MEAS | .W_VAPP
  | .W_VNEXT | .HD_PEAK | .HOLD_SINCE | .RAMP_SINCE | .ADAPT_FALL | .BL_Y
  | .VBUS_TICK | .HALL_TICK | .OBS_OMEGA | .OBS_T_LAST | .KE_FINE | .R_FINE
  | .L_FINE | .R_FILT | .R_FILT_TICK | .R_UPD_TICK | .STALL_HOLD | .PROBE_START_T
  | .PROBE_LAST | .PROBE_POS | .W_OPRED | .W_INJNEXT | .W_INJAPP | .W_IRESP
  | .W_RADD | .W_I0 | .OBS_RA | .OBS_RX | .OBS_RC | .PROBE_V
  | .PROBE_I | .SB_STILL_SINCE | .EVT_TICK | .LOAD_TICK | .GROUP_START | .TRIGO_END
  | .HB_TICK | .HB_GOOD | .COAST_GOOD | .BUS_LOW_SINCE | .OV_CLEAR_TICK | .BUS_READ_TICK
  | .SB_HS_TICK | .SEG_ROUTE_END | .STRIP_LAST | .EPOCH_TICK | .MISS_TICK | .CYC_END
  | .SEQ_EPOCH_TICK | .SEQ_SERVED | .SEQ_WD_RECENT | .DOM_EPOCH_TICK | .RECLAIM_TICK | .TAG_SINCE
  | .CAN_RX_TICK | .CAN_GOOD_TICK | .EMCY_TICK | .AUDIT_BASE | .PATH_LOG_TICK | .SF_LAG
  | .ENC_OFS | .SPD_WEND | .SPD_REF | .FE_SINCE | .CS_TICK | .CAL_TICK
  | .CONV_EPOCH_TICK | .T_REF_TICK | .QUAL_TICK | .SNS_MISS | .SNS_SCAN_TICK | .THR_SINCE
  | .THR_HOLD_TICK | .TB_LOSS_TICK | .CYC_TICK | .ENUM_TICK | .RGO_T | .RGO_SEEN
  | .GO_CARRY_T | .RS_T | .RS_SEEN | .DEV_EPOCH_TICK | .TUN_TICK | .TPDO_TICK
  | .TIME_TICK | .HBC_TICK | .HBP_TICK | .Q15_TICK | .SESS_TICK | .DRAWS
  | .SVC_TICK => 64
  | .AUX_OVR | .ACC_RING_MEMB | .TUN_MSG => 256
  | .RPDO_BUF | .TPDO_LAST => 512
  | .AUX_HIST => 4096

/-- Reset value of instance `i` of a value: the Reset column of the register tables, or the value the
assumption log names where the manual gives none. -/
def Reg.reset (r : Reg) (i : Nat) : Nat :=
  match r with
  | .QBASE => [0,0x800,0x1000,0x1800,0x2000,0x2800,0x3000,0x3800,0x800,0x900,0xA00,0,0x400,0x600,0xB00,0xC00].getD i 0
  | .QSIZE_LOG2 => [11,11,11,11,11,11,11,11,10,10,8,10,9,9,10,10].getD i 0
  | .PORT_ROLE_DEV => i / 4 * 16 + i % 4
  | .SLOT_ENGINE => [0,1,2,3,5,6,7,8].getD i 15
  | .GROUP => i / 4
  | .SNS_EN => if 16 ≤ i then 1 else 0
  | .T_LIM => if i < 16 then 0x1E00 else if i < 26 then 0x2300 else 0x2080
  | .THM_AXES => if i < 16 then 0 else if i < 18 then 0xFF else if i < 26 then 3 * 2 ^ (2 * ((i - 18) / 2)) else 2 ^ (i - 26)
  | .NB0 => if 16 ≤ i ∧ i < 26 then (if i % 2 = 0 then i + 1 else i - 1) else 0x3F
  | .ROLE_ACT => 0
  | .PROF_ACTIVE => 0
  | .PROF_TARGET => 0
  | .RESET_CAUSE => 1
  | .PORT_ROLE => i / 4 * 16 + i % 4
  | .MAP_ROLE => i / 4 * 16 + i % 4
  | .ENG_STATE => if i = 4 ∨ i = 9 then 2 else 1
  | .DDIE_ROLE => i / 4 * 16 + i % 4
  | .RPDO_COB => if i < 4 then 0x80000200 + 0x100 * i else 0x80000000
  | .RPDO_N => if i % 4 = 0 then 1 else 2
  | .RPDO_MAP => pdoMapDefault false i
  | .TPDO_COB => if i < 4 then 0x80000180 + 0x100 * i else 0x80000000
  | .TPDO_TYPE => if i % 4 < 2 then 255 else 1
  | .TPDO_INH => if i % 4 < 2 then 10 else 0
  | .TPDO_N => if i % 4 = 0 then 1 else 2
  | .TPDO_MAP => pdoMapDefault true i
  | .SLACK_LAST | .SLACK_MIN_CLR | .GUARD_REJ | .SLACK_LOW | .OBS_HALF | .SLACK_LOW_SEEN
  | .DEADLINE_MISS | .TAGS_INFLIGHT | .TAGS_QUAR | .TAG_WAIT | .TAG_RECLAIM | .PRODUCER
  | .QRD | .QWR | .QLEVEL | .QWMARK | .QDROP | .QRESET
  | .QOVF | .QWR_REJ | .QRD_REJ | .QCFG_REJ | .QWM_HIT | .TS
  | .PLL_LOCK | .REF_OK | .TB_SRC_ACT | .DL_COARSE | .TB_LOST | .DL_CAL_ERR
  | .TB_APPLY_REJ | .TB_SRC | .TB_APPLY | .DL_ELEMS | .TB_GAP | .TB_GAP_US
  | .TICK_STAMP | .Q11_WM | .Q11_FULL | .Q15_DATA | .FAULT | .CLASH_LOST
  | .HOST_WR_IGN | .SLOT_EPOCH | .SEG_STATE | .SEG_PTR | .SEG_AHEAD | .SEG_AHEAD_WM
  | .TOL_ACTION | .SYNC_TIMEOUT | .SEG_RESTART | .SOFTLIM_HIT | .UNDERRUN | .SYNC_LATE
  | .TOL_FAIL | .VEL_EXCESS | .STRETCH | .SYNC_TO | .AHEAD_LOW | .LAST_REJ_CAUSE
  | .LAST_REJ_PTR | .SEG_DONE | .SEG_REJ | .SEG_DISCARD | .SEG_STRETCH | .POS_CMD
  | .VEL_CMD | .ACC_MEMB | .ACC_MODE | .ACC_REJ | .ACC_GO_T | .ACC_WAITING
  | .ACC_PEND | .ACC_GO_LOST | .PLAN_STATE | .STOP_CAUSE | .ACCEL_DEFERRED | .TARGET_CLAMPED
  | .LIM_N_HIT | .LIM_P_HIT | .LIM_BOTH | .CS_VCLAMP | .CSV_ACC_CLAMP | .STEP_LAG
  | .CS_MISS | .LIMN_EN | .LIMP_EN | .HOME_EN | .LIMN_POL | .LIMP_POL
  | .HOME_POL | .LIM_SWAP | .SW_STATE | .HOME_STATE | .HOME_FAIL | .HOMED
  | .HOME_EDGES | .HOME_DIST_MAX | .HOME_LATCH | .HS_DIR | .HOME_MOVE_BACK | .SF_SMOOTH
  | .SF_EDGE | .SF_DIR_INV | .SF_COUNT | .SF_STATE | .SF_RESTART | .HARM3_AMP
  | .HARM3_PH | .HARM5_AMP | .HARM5_PH | .ADAPT_EN | .HALL_OFS | .HALL_INV
  | .CUR_MEAS_0 | .CUR_MEAS_1 | .CUR_MEAS_2 | .CUR_AMP | .REG_STAT | .VOLT_SAT
  | .WIN_REJ | .SUM_ERR | .OPEN_WIND | .SENSE_LOST | .CUR_PARAM_REJ | .NOSAMPLE
  | .WIN_LATE | .VBUS_FF | .D_WIN_RD | .LOAD_ANGLE | .OBS_MODE | .STALL
  | .SAL_LOW | .R_RANGE | .PROBE_ABORT | .VW_CAL_REJ | .OBS_PARAM_REJ | .INJ_STILL
  | .OBS_USE_ENC | .SALIENCY | .R_EST | .L_EST | .EMF_EST | .KE_EST
  | .POS_EST | .VW_R25 | .VW_CAL | .STALL_CNT | .DUTY | .PRESC_ZERO
  | .RTSEQ_ZERO | .RTCONV_ZERO | .CFG_PRD | .CFG_CMPA | .CFG_CMPB | .PWM_EN
  | .TRIP_CLR | .LOAD_ALL | .TRIP_ACTIVE | .TRIP_LATCH | .FULL_NOW | .PRD_BUDGET
  | .LOAD_PEND | .DUTY_CLAMP | .TRIP_SEEN | .LOAD_REJ | .GRP_REJ | .TRIP_RUN
  | .TRIP_TOTAL | .TRIP_CLR_REF | .REFRESH_CNT | .MON_SKIP | .PWM_EVT_LOST | .REFRESH_RUN
  | .CMP_DEV | .LOAD_ALL_GRP | .LOAD_PEND_GRP | .TRIGO_PORT | .TRIGO_SRC | .TRIGO_PWM_EN
  | .LSP_SHORT | .HSP_SHORT | .BST_UV | .GD_LATCH | .GD_CAUSE | .SC_SEEN
  | .ILK_TO | .BST_UV_SEEN | .GD_CLR_REF | .GD_CLR | .ILK_MAX_CLR | .BST_UV_CNT
  | .ILK_WAIT_MAX | .VDRV_OK | .DIE_OT | .HARD_OV | .HARD_COAST | .VDRV_UV_SEEN
  | .HB_LOST | .DIE_OT_SEEN | .HARD_OV_SEEN | .VDRV_MV | .GD_APPLY | .VDRV_UV_CNT
  | .HB_LOST_CNT | .BRAKE_PORT | .BRAKE_EN | .RT_STOP_MS | .VBUS_MV | .BUS_STAT
  | .BUS_SEEN | .THR_REJ | .BRAKE_REJ | .BUS_COAST_CNT | .BRAKE_CNT | .BUS_OV_CNT
  | .SB_CMD | .RIDE_THROUGH | .SB_END | .SB_STATE | .SB_SCOPE | .SB_CAUSE
  | .PWR_STATE | .SB_CNT | .CH_MODE | .ENC_INV | .Z_GATE | .ENC_CLK
  | .SD_CLK | .ENC_POS | .ACT_POS | .ENC_SPEED | .FB_FLAGS | .ILLEGAL_COUNT
  | .HALL_SKIP | .ENC_FAULT_CLR | .ENC_ALIGN | .CAP_ARM | .CAP_Z | .CAP_HOME
  | .CAP_LIMN | .CAP_LIMP | .CAP_ONESHOT | .CAP_TRIGO | .CAP_SEGTRIG | .FE
  | .CS_T | .CS_PEND | .CS_REJ | .CS_LOST | .CS_DONE | .CS_CANCEL
  | .CS_COUNT | .CONV_STATE | .CONV_EPOCH | .STRIKES | .CAL_OFS | .CAL_START
  | .CHK_FAIL_SEEN | .RETIRED_SEEN | .CAL_REJ | .CAL_FAIL_SEEN | .CHK_LAST_DEV | .INJ_DROP
  | .SETTLE_CNT | .ABORT_CNT | .CHK_SKIP | .SYS_OFS_A | .SYS_OFS_B | .CH_COPY
  | .FMT | .AVG_N | .SHIFT | .DIFF | .CH_REJ | .CH_VAL
  | .AIN_SYS_OFS | .CADC_RET | .AADC_RET | .PAIR_SUSPECT | .CHK_REF_FAIL | .CAL_DEFER
  | .RETIRE_CNT | .SYSCAL_TARGET | .SYSCAL_CH | .SYSCAL_ZERO | .SYSCAL_REF | .SYSCAL_REJ
  | .SYSCAL_WHY | .TH_TABLE | .SNS_STATE | .SCAN_RATE | .LAST_CAUSE | .FAIL_SEEN
  | .TH_TAB_REJ | .THM_PARAM_REJ | .FAIL_CNT | .TD_RS | .GD_EST | .BUDGET_ACT
  | .BUDGET_OVER | .THR_STEP | .THR_FROZEN | .THR_HOLDING | .THR_AT_FLOOR | .THR_SEEN
  | .RED_LOST | .ABSORBED | .STALE_DROP | .ECC_CORR | .ECC_UNCORR | .STRIP_RUN
  | .STRIP_MISMATCH | .VOTE_SPLIT | .MIGRATIONS | .COLD_TAKE | .ENG_DEAD | .SEQ_RESTARTS
  | .SEQ_WD_CNT | .DOM_RESTARTS | .CAN_LOSS | .SEQ_NOPATCH | .MIG_REJ | .STRIP_SLOT
  | .STRIP_ACTIVE | .DEAD_MAP | .VOTE_LOST_MAP | .MIGRATE | .LINK_EN | .LINK_RESTART
  | .LINK_STATE | .RING_POS | .RING_SIZE | .OWN_EPOCH | .RING_EXPECT | .TIME_ERR
  | .FREQ_TRIM | .RING_OFS | .LANE_OK | .LINK_FLAGS | .CRC_ERR | .FENCE_CNT
  | .FENCE_ACTION | .FRAME_BYTES | .AX_DN | .AX_UP | .DEV_STATE | .DEV_EPOCH
  | .DEV_LANES | .ACC_RING | .MBX_IN | .MBX_OUT | .OUT_READY | .IN_FULL
  | .IN_DROP | .OUT_TIMEOUT | .CLAIMED | .SESS_OPEN | .SESS_ROLE | .SESS_PATH
  | .SAFE_BOOT | .PROF_SWITCHING | .PROF_WAIT | .PROF_VALID | .SVC_HOURS | .PATCH_LEVEL
  | .ROLLBACK_MIN | .PATCH_STATE | .CLAIM_CNT | .LAST_REFUSAL | .REFUSALS | .STAGED
  | .AUDIT_HEAD | .AUDIT_WRAPS | .BOOT_DONE | .TB_NOREF | .VANA_WAIT | .BOOT_TIME
  | .DOM_OFF_REQ | .DOM_REJ | .DOM_REJ_CODE | .DOM_BUSY | .EVENT_SEQ | .ANS_ABORT
  | .TB_RUNNING | .TICK_LAST | .MAP_CODE | .MAP_WAIT | .MAP_WAIT_X | .MAP_GROUP
  | .BANK_SPLIT | .MODE | .MODE_DISP | .DEV_MODE | .EV_P | .EV_V
  | .EV_T | .OUT_P | .OUT_V | .HOME_SHIFT | .TAIL_P | .TAIL_V
  | .SEG_DISCARDING | .FETCH_PTR | .ARRIVAL | .GO_SEEN | .GO_START | .GO_T
  | .VEL_POSTED | .SOFT_IN | .TGT_P | .TGT_SET | .TGT_NEW | .MODE_ENTRY
  | .LIM_PLAN | .BLOCK_SEEN | .SP_FULL | .SP_P | .SP_V | .SP_ACK
  | .DEFER_POSTED | .PASS_V | .STOP_RATE | .STOP_REQ | .STOP_REQ_RATE | .STOP_REQ_SCURVE
  | .HALTED | .AFTER_STOP | .TR_SINCE | .TR_IN | .TARGET_REACHED | .TARGET_POS
  | .HOME_OFFSET | .PROFILE_TYPE | .HOMING_METHOD | .IP_SUBMODE | .IP_TARGET | .TARGET_VEL
  | .CH_STATE | .CH_TARGET | .CH_PREV | .CH_PENDING | .CH_FRESH | .CH_MISSED
  | .CH_ADJUST | .CH_STOP | .HM_METHOD | .HM_DIR | .HM_START | .HM_TAKEN
  | .HM_REF | .HM_MOVING_BACK | .HM_LIMITED | .SF_CREF | .SF_PREF | .SF_SNAP
  | .STEP_LEVEL | .DIR_LEVEL | .HM_REQ | .SMP_CODE | .SMP_FRESH | .SMP_OVR
  | .SMP_SETTLE | .W_X | .W_E | .W_IPRED | .W_REF | .W_MEAS
  | .W_VAPP | .W_VNEXT | .W_SAT | .W_MISS | .W_OPEN | .W_SUM
  | .W_SUMVAL | .HD_COUNT | .HD_LOW | .HD_PEAK | .WINDOW_ONLY | .HOLD_SINCE
  | .RAMP_SINCE | .ADAPT_FALL | .BL_Y | .I_Q | .VBUS_TICK | .FF_POSTED
  | .HALL_THETA | .HALL_TICK | .HALL_SECT | .OBS_TH | .OBS_TH_LAST | .OBS_OMEGA
  | .OBS_T_LAST | .OBS_EMF_RUN | .OBS_SAL_POSTED | .OBS_HW | .OBS_CYC | .OBS_L_CYC
  | .OBS_REF_PEND | .OBS_KE_UPD | .OBS_R_UPD | .OBS_PHASE | .KE_FINE | .R_FINE
  | .L_FINE | .R_FILT | .R_FILT_TICK | .R_UPD_TICK | .R_EVER | .STALL_RUN
  | .STALL_HOLD | .STALL_STAND | .STALL_NOW | .PROBE_KIND | .PROBE_START_T | .PROBE_LAST
  | .PROBE_POS | .PROBE_FOR_CAL | .PROBE_HIGH | .W_OPRED | .W_INJNEXT | .W_INJAPP
  | .W_IRESP | .W_RADD | .W_I0 | .OBS_FRAC | .OBS_RA | .OBS_RX
  | .OBS_RC | .OBS_BOUND | .PROBE_V | .PROBE_I | .PROBE_N | .R_PROBED
  | .R_FILTERED | .SB_STILL_SINCE | .PORT_DRIVE | .TRIPPED_H | .TRIPPED_L | .TRIP_HELD
  | .TRIP_FREE | .CMP_LAT | .FULL_LAT | .CMP_NEW | .C_DEV | .C_FROM_ENGINE
  | .HIGH_ON | .HALF_PULSE | .JOINING | .GROUP_WAIT | .BST_RUN | .BST_EXEMPT
  | .LEG_TEST | .EVT_TICK | .EVT_POSTED | .PRESC_CNT | .LOAD_LEFT | .LOAD_TICK
  | .GROUP_START | .TRIGO_END | .TRIGO_LEVEL | .BANK_REL | .HB_OUT | .HB_COUNT
  | .HB_SEEN | .HB_TICK | .HB_GOOD | .TRIPN_LOW | .DIE_HOT | .DIE_UP
  | .OVER_GD_APPLY | .COAST_GOOD | .BUS_LOW_SINCE | .BUS_HALT | .OV_CLEAR_TICK | .OV_RETURN
  | .BUS_READ_TICK | .SB_GROUP | .SB_HS_TICK | .FAULT_CAUSE | .RT_BACK | .POSTED
  | .SEG_ROUTE_END | .RESUME_SYNC | .RESETTING | .RESET_REFUSED | .CONTROLWORD | .ENG_LOST
  | .ENG_BIST | .STRIP_CYCLES | .STRIP_VOTE | .STRIP_BAD_CYCLE | .STRIP_NEXT | .STRIP_LAST
  | .MIG_WANT | .MIG_COLD | .MIG_KILLS | .EPOCH_TICK | .EPOCH_MOVED | .MISS_RUN
  | .MISS_WINDOW | .MISS_TICK | .CYC_END | .NO_POST_RUN | .SLACK_GOOD | .SEQ_DOWN
  | .SEQ_CAUSE | .SEQ_EPOCH | .SEQ_EPOCH_TICK | .SEQ_EPOCH_MOVED | .SEQ_WAIT | .SEQ_WAIT_CAUSE
  | .SEQ_SERVED | .SEQ_WD_RECENT | .DOM_EPOCH | .DOM_EPOCH_TICK | .DOM_RESTARTING | .DOM_RESTART_WAIT
  | .RECLAIM_TICK | .RECLAIM_SEEN | .TAG_BUSY | .TAG_HELPER | .TAG_SINCE | .TAG_QUARANTINE
  | .TAG_EPOCH | .TAG_QUEUE | .NMT_STATE | .CAN_MODE | .CAN_RED | .CAN_LOST
  | .RED_DUP | .RED_DIFF | .CAN_OFF | .CAN_RX_TICK | .CAN_GOOD_TICK | .ERR_HIST
  | .ERR_COUNT | .COMM_ERR | .EMCY_TICK | .EMCY_SENT | .SYNC_PERIOD | .INHIBIT_EMCY
  | .HB_CONSUMER | .SYNC_OVERFLOW | .ERROR_BEHAVIOUR | .NMT_STARTUP | .AUDIT_SEQ | .AUDIT_BASE
  | .AUDIT_LIVE | .PATH_LOG_TICK | .PATH_LOGGED | .X_HELD | .FULL_CUR | .LOW_CUR
  | .LS_FROM | .LS_TO | .DL_TAP | .PERIOD_LONG | .BUDGET_DUTY | .FB_SNAP
  | .DIE_SHORT | .BST_BAD | .MODE_RESUME | .MGR_FAULTN | .FR_HELD | .SF_LAG
  | .ENC_OFS | .ILL_RUN | .NORM_RUN | .HALL_STATE | .SPD_NET | .SPD_EDGES
  | .SPD_DISCARD | .SPD_WEND | .SPD_REF | .SPD_REF_OK | .SPD_DIR | .SPD_REV
  | .SPD_EMPTY | .CAP_SEQ | .FE_SINCE | .CS_TICK | .SMP_SKIP | .SMP_DONE
  | .SMP_TRIP | .HALF_TURN | .PORT_CUT | .AUX_CUT | .CONV_BUSY | .CONV_NOW
  | .CONV_REDO | .CONV_REDO_CH | .INJ_N | .INJ_REQ | .ROUND_POS | .SCAN_N
  | .SCAN_Q | .CONV_WIN | .PORT_SETTLE | .AUX_SETTLE | .AUX_NEW | .AUX_HIST
  | .AUX_OVR | .AUX_N | .CHK_PHASE | .CHK_CROSS | .CHK_REFRUN | .CHK_CODE
  | .CHK_PAIR_CAL | .CONV_RET_DUE | .CONV_RET_N | .CONV_CALFAIL | .CONV_PASSES | .CONV_CAL
  | .CAL_WAIT | .CAL_TICK | .CAL_ROTATED | .CONV_EPOCH_TICK | .CONV_EPOCH_MOVED | .CONV_EPOCH_DUE
  | .MON_WAIT | .SC_STEP | .SC_RUN_CH | .SC_ZERO_OK | .SC_ZERO_CH | .SC_ZERO
  | .T_REF_TICK | .SNS_FAILS | .SNS_PASSES | .QUAL_TICK | .SNS_SINGLE | .SNS_MISS
  | .SNS_MISSED | .SNS_SCAN_TICK | .SNS_PEND | .SNS_FREEZES | .THR_SINCE | .THR_HFLOOR
  | .THR_HOLD_TICK | .BUDGET_N | .BUDGET_STK | .TH_TAB_R | .TH_TAB_T | .TH_DEV_R
  | .TH_DEV_T | .TH_TAB_NEW | .DOM_LEAVING | .DOM_REQ_PATH | .TB_LOSS_TICK | .TB_RELOCK
  | .TB_EVER | .DL_FAILS | .LOCKED | .RING_ID | .CYC_NO | .CYC_TICK
  | .ENUM_TICK | .ENUM_OUT | .LANE_GOOD | .LANE_WRAP | .CABLE | .ALIGN_RUN
  | .RGO_PEND | .RGO_T | .RGO_SEEN | .GO_CARRY | .GO_CARRY_T | .GO_LEFT
  | .RS_PEND | .RS_T | .RS_MISSING | .RS_SEEN | .SHEET_ERR | .DEV_MISS
  | .DEV_UP | .DEV_EPOCH_TICK | .DEV_EPOCH_DUE | .DEV_HOLD | .RING_DN | .RING_UP
  | .M_CW | .M_MODE | .M_TARGET | .M_SEG_0 | .M_SEG_1 | .M_SEG_2
  | .M_SEG_3 | .M_SEG_SEND | .M_SW | .M_MODE_DISP | .M_POS_ACT | .M_VEL_ACT
  | .M_FR | .RC_PEND | .RC_CTRL | .RC_TARGET | .RC_HAS_TARGET | .ACC_RING_MEMB
  | .TUNNEL_OBJ | .TUN_BUSY | .TUN_TICK | .TUN_MSG | .REG_WIN_ADDR | .REG_WIN_CTRL
  | .SPI_BITS | .SPI_OPEN | .SPI_DEAD | .SPI_WRITE | .SPI_INC | .SPI_ADDR
  | .SEG_PDO_W | .RPDO_TIMER | .RPDO_BUF | .RPDO_LEN | .RPDO_WAIT | .TPDO_TIMER
  | .TPDO_START | .TPDO_LAST | .TPDO_CHG | .TPDO_TICK | .TPDO_SENT | .TPDO_CNT
  | .TPDO_STARTED | .COB_WRITTEN | .LSS_MODE | .SYNC_CTR | .TIME_DAYS | .TIME_MS
  | .TIME_TICK | .HBC_ON | .HBC_TICK | .HBC_LOST | .HBP_TICK | .RESET_NODE
  | .COMM_DUE | .XO_BUSY | .Q15_TICK | .USB_UP | .REV_SEQ | .REVOKE_BELOW
  | .SESS_ID | .SESS_TICK | .SESS_VALID_TO | .SESS_TOKEN | .CTR_RX | .CTR_TX
  | .SESS_DROPS | .DRAWS | .PATCH_ACTIVE | .PATCH_OK | .PATCH_RUN | .SVC_TICK
  | .PROF_COMM | .PROF_DEVICE | .PROF_WAITED | .PROF_LOGTOK | .PROFSEL | .ROLE_STRAP
  | .RING_RESET | .OFS_SET | .UP_WORD | .DEV_FRESH | .DEV_FENCED => 0
  | .IRQ_EN_Q15 | .IRQ_EN_FAULT | .SF_SCALE | .STALL_ACTION | .INJ_EN | .VW_UNCAL
  | .TRIGO_PW | .Z_POL | .FB_STAT | .CH_EN | .BOOT_STAGE | .SLOT_KIND
  | .MAP_KIND | .DRIVE_STATE | .AHEAD_ARMED | .STILL_CMD | .HALT_OPTION | .IP_PERIOD
  | .WINDOWED | .SHUTDOWN_OPTION | .DISABLE_OPTION | .ABORT_OPTION | .DATA_RATE | .FAULTN_LOW
  | .CHK_PASSED | .TUNNEL_DEV | .REG_WIN_COUNT => 1
  | .SI_REV_MINOR | .CS_MISS_MAX | .TIA_RANGE | .VW_STATE | .SC_BLANK | .SW_CLK
  | .QSTOP_OPTION | .ARB_RATE => 2
  | .IRQ_EN_Q11 | .SAL_MIN | .SRC_STEP | .SNK_STEP | .ENC_N | .SPD_WIN
  | .CLOSE_BAND => 3
  | .TRIG_SEL | .HD_WIN_EVERY | .BL_KI | .TRIP_LIMIT | .SD_N | .STILL_WINDOWS
  | .THR_FLOOR => 4
  | .PROBE_INT | .SC_THR | .RED_WIN => 5
  | .SW_BALL => 7
  | .CHATTER_MAX | .REFRESH_LIMIT => 8
  | .TRIG_WIDTH | .RES_BAND | .FE_TIME | .NEAR_BAND | .STRIP_INT | .POS_WINDOW_TIME
  | .VEL_WINDOW_TIME => 0xA
  | .SI_REV_MAJOR => 0xB
  | .SW_N | .STRIP_ENG | .MIG_TARGET => 0xF
  | .WIN_ILK | .ILLEGAL_LIMIT | .W_UNSAT => 0x10
  | .BRAKE_HYST | .RATE_MAX => 0x14
  | .NOSAMPLE_MAX | .CHECK_TOL => 0x20
  | .RES_TARGET | .STALL_COUNT => 0x28
  | .THR_INTERVAL => 0x32
  | .VW_MAXAGE | .THR_HOLD | .SESS_IDLE => 0x3C
  | .NB1 | .NB2 => 0x3F
  | .BL_KP | .Q8_DECIM | .POS_WINDOW => 0x40
  | .SLACK_GUARD | .CUR_BLANK | .REFRESH_WIDTH | .MON_BLANK => 0x50
  | .HS_HOLD_MAX | .SB_STILL | .ALIGN_MS | .QG_NC | .CAN_SILENT => 0x64
  | .OBS_STAT | .AADC_CHECK_TOL | .COB_SYNC => 0x80
  | .T_SAMPLE | .REG_WIN_STAT | .SPI_STAT => 0xA0
  | .ACC_LEAD | .HOLD_RAMP | .VBUS_LOW => 0xC8
  | .IP_INDEX => 0xFD
  | .RESERVE | .VW_AGE | .MAP_PORT | .MAP_SLOT | .NODE_ID | .NODE_ID_LSS
  | .NODE_ID_NEXT | .NODE_ID_ACT | .M_RESERVE | .MSG_GRANT | .RPDO_TYPE | .LSS_BIT => 0xFF
  | .COB_TIME => 0x100
  | .HOLD_DELAY => 0x1F4
  | .SPARE_MAP => 0x210
  | .CAL_INTERVAL => 0x258
  | .NB_HI0 | .NB_HI1 | .NB_HI2 => 0x280
  | .VBUS_BRAKE => 0x398
  | .VBUS_OV => 0x3B6
  | .WIND_R_NOM | .TH_R25 | .TH_RPU | .HB_PRODUCER => 0x3E8
  | .TOL_WINDOW | .CS_RESUME_WIN => 0x400
  | .DEAD_TIME | .DEAD_DEV => 0x600
  | .VW_CAL_TREF => 0x640
  | .SENSE_RATIO | .IFS_MA | .WIND_L_NOM | .INJ_VOLT => 0x7D0
  | .HS_BACKOFF | .CR_KI | .SUM_TOL | .PROBE_DELTA => 0x800
  | .GD_BUDGET => 0xED8
  | .TH_BETA => 0xF6E
  | .PERIOD | .PERIOD_DEV | .PERIOD_LOADED => 0xFA0
  | .DOM_ON => 0xFFF
  | .TD_ETA => 0x1021
  | .HOLD_CURRENT | .FE_LIMIT => 0x2000
  | .ADAPT_FLOOR => 0x3000
  | .HS_CURRENT | .RUN_CURRENT | .EMF_COLLAPSE | .RT_LIMIT | .I_BASE => 0x4000
  | .STALL_ANGLE => 0x471C
  | .CUR_LIMIT | .CR_GAIN => 0x6000
  | .VEL_WINDOW | .PROFILE_JERK => 0x6400
  | .SLACK_MIN => 0x7FFF
  | .ADAPT_FACT | .VW_TEMP | .CAL_GAIN | .SYS_GAIN_A | .SYS_GAIN_B | .AIN_SYS_GAIN
  | .TEMP | .RAW | .THR_LIMIT | .T_REF | .T_ACC | .SNS_SUB => 0x8000
  | .DEVICE_ID => 0x8032
  | .NB_LO0 | .NB_LO1 | .NB_LO2 => 0xFD80
  | .SF_LAG_MAX | .ENC_RATIO => 0x10000
  | .HOMING_ACC => 0x19000
  | .STOP_DEC | .PROFILE_ACC | .PROFILE_DEC => 0x32000
  | .HOME_IDX_MAX => 0x40000
  | .HOMING_SPEED_ZERO => 0x50000
  | .CMP_B => 0x7FFFF
  | .LIMIT_DEC | .QUICK_STOP_DEC | .MAX_ACC => 0xC8000
  | .HS_FROM => 0xFFFFF
  | .HOMING_SPEED_SW => 0x320000
  | .OBS_VLOW => 0x3C0000
  | .PROFILE_VEL => 0x640000
  | .SEG_VMAX | .MAX_PROFILE_VEL => 0x7FFFFFFF
  | .COB_EMCY => 0x80000080
  | .RX_CYC => 0xFFFFFFFF
  | .SOFTLIM_HI | .FB_SOFTLIM_HI => 0x7FFFFFFFFFFF
  | .SOFTLIM_LO | .FB_SOFTLIM_LO => 0x800000000000

/-- Access codes of R23; the higher words of a wide value (SH) follow their low word. -/
inductive Acc where
  | rw | ro | rc | w1c | wo
deriving DecidableEq, Repr

/-- Clash classes of R24. -/
inductive Clash where
  | hw | sw | acc
deriving DecidableEq, Repr

/-- The boundary at which a latent field develops: the "Develops at" column (R22, R84). -/
inductive Boundary where
  | immediate | statusTick | motionUpdate | segmentBoundary | stop | homingStart | standstill | slotDisable
  | loadAll | sequenceStart | scan | budgetEvaluation | check | calibrationDue | linkCycle | enumeration
  | probeStart | syncWait | qreset | tbApply | gdApply
deriving DecidableEq, Repr

/-- One field of a register table: its place in the instance's register slots and its columns. -/
structure FieldInfo where
  reg : Reg
  /-- byte offset of its (low) slot from the instance's base -/
  off : Nat
  /-- lowest bit in the slot -/
  lo : Nat
  width : Nat
  acc : Acc
  clash : Clash
  dev : Boundary
  isSealed : Bool
deriving DecidableEq, Repr

/-- A run of equally spaced instances of a group of fields. -/
structure RegBlock where
  base : Nat
  stride : Nat
  count : Nat
  /-- number of the first instance -/
  first : Nat
  fields : List FieldInfo
deriving DecidableEq, Repr

/-- R8. -/
def fieldsSysR8 : List FieldInfo := [
  ⟨.DEVICE_ID, 0x0, 0, 16, .ro, .hw, .immediate, false⟩,
  ⟨.SI_REV_MAJOR, 0x4, 8, 8, .ro, .hw, .immediate, false⟩,
  ⟨.SI_REV_MINOR, 0x4, 0, 8, .ro, .hw, .immediate, false⟩]

/-- R34. -/
def fieldsAxisR34 : List FieldInfo := [
  ⟨.SLACK_LAST, 0xF00, 0, 16, .rc, .hw, .immediate, false⟩,
  ⟨.SLACK_MIN, 0xF04, 0, 16, .rc, .hw, .immediate, false⟩,
  ⟨.SLACK_GUARD, 0xF08, 0, 9, .rw, .sw, .motionUpdate, false⟩,
  ⟨.SLACK_MIN_CLR, 0xF0C, 0, 1, .wo, .sw, .immediate, false⟩,
  ⟨.GUARD_REJ, 0xF0C, 8, 1, .w1c, .hw, .immediate, false⟩,
  ⟨.SLACK_LOW, 0xF10, 0, 1, .rc, .hw, .immediate, false⟩,
  ⟨.OBS_HALF, 0xF10, 1, 1, .rc, .hw, .immediate, false⟩,
  ⟨.SLACK_LOW_SEEN, 0xF10, 8, 1, .w1c, .hw, .immediate, false⟩,
  ⟨.DEADLINE_MISS, 0xF14, 0, 16, .rw, .acc, .immediate, false⟩]

/-- R42. -/
def fieldsSysR42 : List FieldInfo := [
  ⟨.TAGS_INFLIGHT, 0x40, 0, 7, .rc, .hw, .immediate, false⟩,
  ⟨.TAGS_QUAR, 0x44, 0, 7, .rc, .hw, .immediate, false⟩,
  ⟨.TAG_WAIT, 0x48, 0, 16, .rw, .acc, .immediate, false⟩,
  ⟨.TAG_RECLAIM, 0x4C, 0, 16, .rw, .acc, .immediate, false⟩]

/-- R53. -/
def fieldsQueR53 : List FieldInfo := [
  ⟨.QBASE, 0x0, 0, 14, .rw, .sw, .qreset, false⟩,
  ⟨.QSIZE_LOG2, 0x4, 0, 4, .rw, .sw, .qreset, false⟩,
  ⟨.PRODUCER, 0x4, 8, 2, .rw, .sw, .qreset, false⟩,
  ⟨.QRD, 0x8, 0, 15, .rw, .hw, .immediate, false⟩,
  ⟨.QWR, 0xC, 0, 15, .rw, .hw, .immediate, false⟩,
  ⟨.QLEVEL, 0x10, 0, 15, .rc, .hw, .immediate, false⟩,
  ⟨.QWMARK, 0x14, 0, 15, .rw, .sw, .immediate, false⟩,
  ⟨.QDROP, 0x18, 0, 16, .rw, .acc, .immediate, false⟩,
  ⟨.QRESET, 0x1C, 0, 1, .wo, .sw, .immediate, false⟩,
  ⟨.QOVF, 0x1C, 8, 1, .w1c, .hw, .immediate, false⟩,
  ⟨.QWR_REJ, 0x1C, 9, 1, .w1c, .hw, .immediate, false⟩,
  ⟨.QRD_REJ, 0x1C, 10, 1, .w1c, .hw, .immediate, false⟩,
  ⟨.QCFG_REJ, 0x1C, 11, 1, .w1c, .hw, .immediate, false⟩,
  ⟨.QWM_HIT, 0x1C, 12, 1, .w1c, .hw, .immediate, false⟩]

/-- R66. -/
def fieldsTbR66 : List FieldInfo := [
  ⟨.TS, 0x0, 0, 64, .ro, .hw, .immediate, false⟩,
  ⟨.PLL_LOCK, 0x10, 0, 1, .rc, .hw, .immediate, false⟩,
  ⟨.REF_OK, 0x10, 1, 1, .rc, .hw, .immediate, false⟩,
  ⟨.TB_SRC_ACT, 0x10, 2, 1, .rc, .hw, .immediate, false⟩,
  ⟨.DL_COARSE, 0x10, 3, 1, .rc, .hw, .immediate, false⟩,
  ⟨.TB_LOST, 0x10, 8, 1, .w1c, .hw, .immediate, false⟩,
  ⟨.DL_CAL_ERR, 0x10, 9, 1, .w1c, .hw, .immediate, false⟩,
  ⟨.TB_APPLY_REJ, 0x10, 10, 1, .w1c, .hw, .immediate, false⟩,
  ⟨.TB_SRC, 0x14, 0, 1, .rw, .sw, .tbApply, false⟩,
  ⟨.TB_APPLY, 0x18, 0, 1, .wo, .sw, .immediate, false⟩,
  ⟨.DL_ELEMS, 0x1C, 0, 8, .rc, .hw, .immediate, false⟩,
  ⟨.TB_GAP, 0x20, 0, 16, .rw, .acc, .immediate, false⟩,
  ⟨.TB_GAP_US, 0x24, 0, 16, .ro, .hw, .immediate, false⟩,
  ⟨.TICK_STAMP, 0x28, 0, 16, .ro, .hw, .immediate, false⟩]

/-- R74. -/
def fieldsSysR74 : List FieldInfo := [
  ⟨.Q11_WM, 0x20, 0, 1, .w1c, .hw, .immediate, false⟩,
  ⟨.Q11_FULL, 0x20, 1, 1, .w1c, .hw, .immediate, false⟩,
  ⟨.Q15_DATA, 0x20, 2, 1, .w1c, .hw, .immediate, false⟩,
  ⟨.FAULT, 0x20, 3, 1, .w1c, .hw, .immediate, false⟩,
  ⟨.IRQ_EN_Q11, 0x24, 0, 2, .ro, .hw, .immediate, false⟩,
  ⟨.IRQ_EN_Q15, 0x24, 2, 1, .rw, .sw, .immediate, false⟩,
  ⟨.IRQ_EN_FAULT, 0x24, 3, 1, .rw, .sw, .immediate, false⟩]

/-- R86. -/
def fieldsSysR86 : List FieldInfo := [
  ⟨.CLASH_LOST, 0x50, 0, 16, .rw, .acc, .immediate, false⟩,
  ⟨.HOST_WR_IGN, 0x54, 0, 16, .rw, .acc, .immediate, false⟩]

/-- R106. -/
def fieldsPwmR106 : List FieldInfo := [
  ⟨.PORT_ROLE_DEV, 0xFC, 0, 8, .rc, .hw, .immediate, true⟩]

/-- R106. -/
def fieldsSlotEngineR106 : List FieldInfo := [
  ⟨.SLOT_ENGINE, 0x0, 0, 4, .rc, .hw, .immediate, false⟩,
  ⟨.SLOT_EPOCH, 0x0, 8, 4, .rc, .hw, .immediate, false⟩]

/-- R106. -/
def fieldsSysR106 : List FieldInfo := [
  ⟨.SPARE_MAP, 0xA0, 0, 10, .rc, .hw, .immediate, false⟩]

/-- R135. -/
def fieldsAxisR135 : List FieldInfo := [
  ⟨.SEG_STATE, 0x100, 0, 4, .rc, .hw, .immediate, false⟩,
  ⟨.SEG_PTR, 0x104, 0, 15, .rc, .hw, .immediate, false⟩,
  ⟨.SEG_AHEAD, 0x108, 0, 16, .rc, .hw, .immediate, false⟩,
  ⟨.SEG_AHEAD_WM, 0x10C, 0, 16, .rw, .sw, .motionUpdate, false⟩,
  ⟨.TOL_WINDOW, 0x110, 0, 32, .rw, .sw, .segmentBoundary, false⟩,
  ⟨.TOL_ACTION, 0x118, 0, 2, .rw, .sw, .segmentBoundary, false⟩,
  ⟨.TRIG_SEL, 0x118, 8, 3, .rw, .sw, .segmentBoundary, false⟩,
  ⟨.TRIG_WIDTH, 0x11C, 0, 8, .rw, .sw, .segmentBoundary, false⟩,
  ⟨.SEG_VMAX, 0x120, 0, 32, .rw, .sw, .motionUpdate, false⟩,
  ⟨.SYNC_TIMEOUT, 0x128, 0, 16, .rw, .sw, .syncWait, false⟩,
  ⟨.SEG_RESTART, 0x12C, 0, 1, .wo, .sw, .immediate, false⟩,
  ⟨.SOFTLIM_HIT, 0x130, 0, 1, .w1c, .hw, .immediate, false⟩,
  ⟨.UNDERRUN, 0x130, 1, 1, .w1c, .hw, .immediate, false⟩,
  ⟨.SYNC_LATE, 0x130, 2, 1, .w1c, .hw, .immediate, false⟩,
  ⟨.TOL_FAIL, 0x130, 3, 1, .w1c, .hw, .immediate, false⟩,
  ⟨.VEL_EXCESS, 0x130, 4, 1, .w1c, .hw, .immediate, false⟩,
  ⟨.STRETCH, 0x130, 5, 1, .w1c, .hw, .immediate, false⟩,
  ⟨.SYNC_TO, 0x130, 6, 1, .w1c, .hw, .immediate, false⟩,
  ⟨.AHEAD_LOW, 0x130, 7, 1, .w1c, .hw, .immediate, false⟩,
  ⟨.LAST_REJ_CAUSE, 0x134, 0, 8, .rc, .hw, .immediate, false⟩,
  ⟨.LAST_REJ_PTR, 0x138, 0, 15, .rc, .hw, .immediate, false⟩,
  ⟨.SEG_DONE, 0x13C, 0, 16, .rw, .acc, .immediate, false⟩,
  ⟨.SEG_REJ, 0x140, 0, 16, .rw, .acc, .immediate, false⟩,
  ⟨.SEG_DISCARD, 0x144, 0, 16, .rw, .acc, .immediate, false⟩]

/-- R135. -/
def fieldsAxisR135b : List FieldInfo := [
  ⟨.SEG_STRETCH, 0x148, 0, 16, .rw, .acc, .immediate, false⟩,
  ⟨.SOFTLIM_LO, 0x150, 0, 48, .rw, .sw, .motionUpdate, true⟩,
  ⟨.SOFTLIM_HI, 0x160, 0, 48, .rw, .sw, .motionUpdate, true⟩,
  ⟨.POS_CMD, 0x170, 0, 48, .ro, .hw, .immediate, false⟩,
  ⟨.VEL_CMD, 0x180, 0, 32, .ro, .hw, .immediate, false⟩]

/-- R136. -/
def fieldsAccordR136 : List FieldInfo := [
  ⟨.ACC_MEMB, 0x0, 0, 8, .rw, .sw, .immediate, false⟩,
  ⟨.ACC_MODE, 0x0, 8, 1, .rw, .sw, .immediate, false⟩,
  ⟨.ACC_REJ, 0x0, 12, 1, .w1c, .hw, .immediate, false⟩,
  ⟨.ACC_LEAD, 0x4, 0, 16, .rw, .sw, .immediate, false⟩,
  ⟨.ACC_GO_T, 0x8, 0, 64, .wo, .sw, .immediate, false⟩,
  ⟨.ACC_WAITING, 0x18, 0, 8, .rc, .hw, .immediate, false⟩,
  ⟨.ACC_PEND, 0x18, 8, 8, .rc, .hw, .immediate, false⟩,
  ⟨.ACC_GO_LOST, 0x1C, 0, 16, .rw, .acc, .immediate, false⟩]

/-- R178. -/
def fieldsAxisR178 : List FieldInfo := [
  ⟨.PLAN_STATE, 0x200, 0, 3, .rc, .hw, .immediate, false⟩,
  ⟨.STOP_CAUSE, 0x200, 4, 4, .rc, .hw, .immediate, false⟩,
  ⟨.ACCEL_DEFERRED, 0x204, 0, 1, .w1c, .hw, .immediate, false⟩,
  ⟨.TARGET_CLAMPED, 0x204, 1, 1, .w1c, .hw, .immediate, false⟩,
  ⟨.LIM_N_HIT, 0x204, 2, 1, .w1c, .hw, .immediate, false⟩,
  ⟨.LIM_P_HIT, 0x204, 3, 1, .w1c, .hw, .immediate, false⟩,
  ⟨.LIM_BOTH, 0x204, 4, 1, .w1c, .hw, .immediate, false⟩,
  ⟨.CS_VCLAMP, 0x204, 5, 1, .w1c, .hw, .immediate, false⟩,
  ⟨.CSV_ACC_CLAMP, 0x204, 6, 1, .w1c, .hw, .immediate, false⟩,
  ⟨.STEP_LAG, 0x204, 7, 1, .w1c, .hw, .immediate, false⟩,
  ⟨.STOP_DEC, 0x208, 0, 32, .rw, .sw, .stop, false⟩,
  ⟨.LIMIT_DEC, 0x210, 0, 32, .rw, .sw, .stop, false⟩,
  ⟨.CS_MISS_MAX, 0x218, 0, 4, .rw, .sw, .motionUpdate, false⟩,
  ⟨.CS_RESUME_WIN, 0x21C, 0, 32, .rw, .sw, .motionUpdate, false⟩,
  ⟨.CS_MISS, 0x224, 0, 16, .rw, .acc, .immediate, false⟩,
  ⟨.LIMN_EN, 0x300, 0, 1, .rw, .sw, .motionUpdate, false⟩,
  ⟨.LIMP_EN, 0x300, 1, 1, .rw, .sw, .motionUpdate, false⟩,
  ⟨.HOME_EN, 0x300, 2, 1, .rw, .sw, .motionUpdate, false⟩,
  ⟨.LIMN_POL, 0x300, 4, 1, .rw, .sw, .motionUpdate, false⟩,
  ⟨.LIMP_POL, 0x300, 5, 1, .rw, .sw, .motionUpdate, false⟩,
  ⟨.HOME_POL, 0x300, 6, 1, .rw, .sw, .motionUpdate, false⟩,
  ⟨.LIM_SWAP, 0x300, 8, 1, .rw, .sw, .motionUpdate, false⟩,
  ⟨.SW_STATE, 0x304, 0, 3, .rc, .hw, .immediate, false⟩,
  ⟨.HOME_STATE, 0x310, 0, 3, .rc, .hw, .immediate, false⟩]

/-- R178. -/
def fieldsAxisR178b : List FieldInfo := [
  ⟨.HOME_FAIL, 0x310, 8, 8, .rc, .hw, .immediate, false⟩,
  ⟨.HOMED, 0x314, 0, 1, .rc, .hw, .immediate, false⟩,
  ⟨.CHATTER_MAX, 0x318, 0, 8, .rw, .sw, .homingStart, false⟩,
  ⟨.HOME_EDGES, 0x31C, 0, 8, .rc, .hw, .immediate, false⟩,
  ⟨.HOME_DIST_MAX, 0x320, 0, 32, .rw, .sw, .homingStart, false⟩,
  ⟨.HOME_LATCH, 0x328, 0, 48, .ro, .hw, .immediate, false⟩,
  ⟨.HS_CURRENT, 0x334, 0, 16, .rw, .sw, .homingStart, false⟩,
  ⟨.HS_BACKOFF, 0x338, 0, 32, .rw, .sw, .homingStart, false⟩,
  ⟨.HS_DIR, 0x340, 0, 1, .rw, .sw, .homingStart, false⟩,
  ⟨.HOME_MOVE_BACK, 0x340, 1, 1, .rw, .sw, .homingStart, false⟩,
  ⟨.HOME_IDX_MAX, 0x344, 0, 32, .rw, .sw, .homingStart, false⟩,
  ⟨.SF_SCALE, 0x380, 0, 11, .rw, .sw, .motionUpdate, false⟩,
  ⟨.SF_SMOOTH, 0x384, 0, 4, .rw, .sw, .motionUpdate, false⟩,
  ⟨.SF_EDGE, 0x384, 8, 1, .rw, .sw, .motionUpdate, false⟩,
  ⟨.SF_DIR_INV, 0x384, 9, 1, .rw, .sw, .motionUpdate, false⟩,
  ⟨.SF_COUNT, 0x388, 0, 32, .ro, .hw, .immediate, false⟩,
  ⟨.SF_LAG_MAX, 0x390, 0, 32, .rw, .sw, .motionUpdate, false⟩,
  ⟨.SF_STATE, 0x398, 0, 2, .rc, .hw, .immediate, false⟩,
  ⟨.SF_RESTART, 0x39C, 0, 1, .wo, .sw, .immediate, false⟩]

/-- R211. -/
def fieldsAxisR211 : List FieldInfo := [
  ⟨.TIA_RANGE, 0x400, 0, 2, .rw, .sw, .slotDisable, true⟩,
  ⟨.SENSE_RATIO, 0x404, 0, 16, .rw, .sw, .slotDisable, true⟩,
  ⟨.IFS_MA, 0x408, 0, 16, .rc, .hw, .immediate, false⟩,
  ⟨.CUR_LIMIT, 0x40C, 0, 16, .rw, .sw, .motionUpdate, true⟩,
  ⟨.RUN_CURRENT, 0x410, 0, 16, .rw, .sw, .motionUpdate, false⟩,
  ⟨.HOLD_CURRENT, 0x414, 0, 16, .rw, .sw, .motionUpdate, false⟩,
  ⟨.HOLD_DELAY, 0x418, 0, 16, .rw, .sw, .motionUpdate, false⟩,
  ⟨.HOLD_RAMP, 0x41C, 0, 16, .rw, .sw, .motionUpdate, false⟩,
  ⟨.CUR_BLANK, 0x420, 0, 9, .rw, .sw, .motionUpdate, false⟩,
  ⟨.T_SAMPLE, 0x424, 0, 10, .rw, .sw, .motionUpdate, false⟩,
  ⟨.WIN_ILK, 0x428, 0, 8, .rw, .sw, .motionUpdate, false⟩,
  ⟨.HD_WIN_EVERY, 0x42C, 0, 5, .rw, .sw, .motionUpdate, false⟩,
  ⟨.CR_GAIN, 0x430, 0, 16, .rw, .sw, .motionUpdate, false⟩,
  ⟨.CR_KI, 0x434, 0, 16, .rw, .sw, .motionUpdate, false⟩,
  ⟨.NOSAMPLE_MAX, 0x438, 0, 8, .rw, .sw, .motionUpdate, false⟩,
  ⟨.SUM_TOL, 0x43C, 0, 16, .rw, .sw, .motionUpdate, false⟩,
  ⟨.HARM3_AMP, 0x440, 0, 16, .rw, .sw, .standstill, false⟩,
  ⟨.HARM3_PH, 0x444, 0, 16, .rw, .sw, .standstill, false⟩,
  ⟨.HARM5_AMP, 0x448, 0, 16, .rw, .sw, .standstill, false⟩,
  ⟨.HARM5_PH, 0x44C, 0, 16, .rw, .sw, .standstill, false⟩,
  ⟨.ADAPT_EN, 0x450, 0, 1, .rw, .sw, .motionUpdate, false⟩,
  ⟨.RES_TARGET, 0x450, 8, 8, .rw, .sw, .motionUpdate, false⟩,
  ⟨.RES_BAND, 0x454, 0, 6, .rw, .sw, .motionUpdate, false⟩,
  ⟨.ADAPT_FLOOR, 0x458, 0, 16, .rw, .sw, .motionUpdate, false⟩]

/-- R211. -/
def fieldsAxisR211b : List FieldInfo := [
  ⟨.BL_KP, 0x460, 0, 16, .rw, .sw, .motionUpdate, false⟩,
  ⟨.BL_KI, 0x464, 0, 16, .rw, .sw, .motionUpdate, false⟩,
  ⟨.HALL_OFS, 0x468, 0, 13, .rw, .sw, .motionUpdate, false⟩,
  ⟨.HALL_INV, 0x468, 15, 1, .rw, .sw, .motionUpdate, false⟩,
  ⟨.WIND_R_NOM, 0x470, 0, 16, .rw, .sw, .motionUpdate, false⟩,
  ⟨.WIND_L_NOM, 0x474, 0, 16, .rw, .sw, .motionUpdate, false⟩,
  ⟨.CUR_MEAS_0, 0x480, 0, 16, .rc, .hw, .immediate, false⟩,
  ⟨.CUR_MEAS_1, 0x484, 0, 16, .rc, .hw, .immediate, false⟩,
  ⟨.CUR_MEAS_2, 0x488, 0, 16, .rc, .hw, .immediate, false⟩,
  ⟨.CUR_AMP, 0x48C, 0, 16, .rc, .hw, .immediate, false⟩,
  ⟨.ADAPT_FACT, 0x490, 0, 16, .rc, .hw, .immediate, false⟩,
  ⟨.REG_STAT, 0x494, 0, 6, .rc, .hw, .immediate, false⟩,
  ⟨.VOLT_SAT, 0x498, 0, 1, .w1c, .hw, .immediate, false⟩,
  ⟨.WIN_REJ, 0x498, 1, 1, .w1c, .hw, .immediate, false⟩,
  ⟨.SUM_ERR, 0x498, 2, 1, .w1c, .hw, .immediate, false⟩,
  ⟨.OPEN_WIND, 0x498, 3, 1, .w1c, .hw, .immediate, false⟩,
  ⟨.SENSE_LOST, 0x498, 4, 1, .w1c, .hw, .immediate, false⟩,
  ⟨.CUR_PARAM_REJ, 0x498, 5, 1, .w1c, .hw, .immediate, false⟩,
  ⟨.NOSAMPLE, 0x49C, 0, 16, .rw, .acc, .immediate, false⟩,
  ⟨.WIN_LATE, 0x4A0, 0, 16, .rw, .acc, .immediate, false⟩,
  ⟨.VBUS_FF, 0x4A4, 0, 16, .rc, .hw, .immediate, false⟩,
  ⟨.D_WIN_RD, 0x4A8, 0, 16, .rc, .hw, .immediate, false⟩]

/-- R241. -/
def fieldsAxisR241 : List FieldInfo := [
  ⟨.LOAD_ANGLE, 0x500, 0, 16, .rc, .hw, .immediate, false⟩,
  ⟨.RESERVE, 0x504, 0, 8, .rc, .hw, .immediate, false⟩,
  ⟨.OBS_MODE, 0x508, 0, 3, .rc, .hw, .immediate, false⟩,
  ⟨.OBS_STAT, 0x508, 8, 8, .rc, .hw, .immediate, false⟩,
  ⟨.STALL, 0x50C, 0, 1, .w1c, .hw, .immediate, false⟩,
  ⟨.SAL_LOW, 0x50C, 1, 1, .w1c, .hw, .immediate, false⟩,
  ⟨.R_RANGE, 0x50C, 2, 1, .w1c, .hw, .immediate, false⟩,
  ⟨.PROBE_ABORT, 0x50C, 3, 1, .w1c, .hw, .immediate, false⟩,
  ⟨.VW_CAL_REJ, 0x50C, 4, 1, .w1c, .hw, .immediate, false⟩,
  ⟨.OBS_PARAM_REJ, 0x50C, 5, 1, .w1c, .hw, .immediate, false⟩,
  ⟨.STALL_ANGLE, 0x510, 0, 15, .rw, .sw, .motionUpdate, false⟩,
  ⟨.STALL_COUNT, 0x514, 0, 12, .rw, .sw, .motionUpdate, false⟩,
  ⟨.STALL_ACTION, 0x518, 0, 2, .rw, .sw, .motionUpdate, false⟩,
  ⟨.EMF_COLLAPSE, 0x51C, 0, 16, .rw, .sw, .motionUpdate, false⟩,
  ⟨.OBS_VLOW, 0x520, 0, 32, .rw, .sw, .motionUpdate, false⟩,
  ⟨.INJ_EN, 0x528, 0, 1, .rw, .sw, .motionUpdate, false⟩,
  ⟨.INJ_STILL, 0x528, 1, 1, .rw, .sw, .motionUpdate, false⟩,
  ⟨.OBS_USE_ENC, 0x528, 2, 1, .rw, .sw, .motionUpdate, false⟩,
  ⟨.INJ_VOLT, 0x52C, 0, 14, .rw, .sw, .motionUpdate, false⟩,
  ⟨.SAL_MIN, 0x530, 0, 6, .rw, .sw, .motionUpdate, false⟩,
  ⟨.SALIENCY, 0x534, 0, 16, .rc, .hw, .immediate, false⟩,
  ⟨.PROBE_DELTA, 0x538, 0, 16, .rw, .sw, .probeStart, false⟩,
  ⟨.PROBE_INT, 0x53C, 0, 12, .rw, .sw, .probeStart, false⟩,
  ⟨.R_EST, 0x540, 0, 16, .rc, .hw, .immediate, false⟩]

/-- R241. -/
def fieldsAxisR241b : List FieldInfo := [
  ⟨.L_EST, 0x544, 0, 16, .rc, .hw, .immediate, false⟩,
  ⟨.EMF_EST, 0x548, 0, 16, .rc, .hw, .immediate, false⟩,
  ⟨.KE_EST, 0x54C, 0, 16, .rc, .hw, .immediate, false⟩,
  ⟨.POS_EST, 0x550, 0, 48, .ro, .hw, .immediate, false⟩,
  ⟨.VW_TEMP, 0x560, 0, 16, .rc, .hw, .immediate, false⟩,
  ⟨.VW_STATE, 0x564, 0, 2, .rc, .hw, .immediate, false⟩,
  ⟨.VW_UNCAL, 0x564, 2, 1, .rc, .hw, .immediate, false⟩,
  ⟨.VW_AGE, 0x564, 8, 8, .rc, .hw, .immediate, false⟩,
  ⟨.VW_R25, 0x568, 0, 16, .rw, .sw, .motionUpdate, true⟩,
  ⟨.VW_MAXAGE, 0x56C, 0, 10, .rw, .sw, .motionUpdate, false⟩,
  ⟨.VW_CAL_TREF, 0x570, 0, 16, .rw, .sw, .immediate, false⟩,
  ⟨.VW_CAL, 0x574, 0, 1, .wo, .sw, .immediate, true⟩,
  ⟨.STALL_CNT, 0x578, 0, 16, .rw, .acc, .immediate, false⟩]

/-- R268. -/
def fieldsPwmR268 : List FieldInfo := [
  ⟨.PERIOD, 0x0, 0, 14, .rw, .sw, .loadAll, false⟩,
  ⟨.DEAD_TIME, 0x4, 0, 15, .rw, .sw, .loadAll, true⟩,
  ⟨.DUTY, 0x8, 0, 19, .rw, .sw, .loadAll, false⟩,
  ⟨.CMP_B, 0x10, 0, 19, .rw, .sw, .loadAll, false⟩,
  ⟨.GROUP, 0x18, 0, 4, .rw, .sw, .statusTick, false⟩,
  ⟨.REFRESH_LIMIT, 0x1C, 0, 8, .rw, .sw, .loadAll, false⟩,
  ⟨.REFRESH_WIDTH, 0x20, 0, 9, .rw, .sw, .loadAll, false⟩,
  ⟨.TRIP_LIMIT, 0x24, 0, 8, .rw, .sw, .loadAll, true⟩,
  ⟨.PRESC_ZERO, 0x28, 0, 5, .rw, .sw, .loadAll, false⟩,
  ⟨.RTSEQ_ZERO, 0x28, 5, 1, .rw, .sw, .loadAll, false⟩,
  ⟨.RTCONV_ZERO, 0x28, 6, 1, .rw, .sw, .loadAll, false⟩,
  ⟨.CFG_PRD, 0x28, 8, 7, .rw, .sw, .loadAll, false⟩,
  ⟨.CFG_CMPA, 0x2C, 0, 7, .rw, .sw, .loadAll, false⟩,
  ⟨.CFG_CMPB, 0x2C, 8, 7, .rw, .sw, .loadAll, false⟩,
  ⟨.MON_BLANK, 0x30, 0, 9, .rw, .sw, .loadAll, false⟩,
  ⟨.PWM_EN, 0x40, 0, 1, .rw, .sw, .immediate, false⟩,
  ⟨.TRIP_CLR, 0x44, 0, 1, .wo, .sw, .immediate, false⟩,
  ⟨.LOAD_ALL, 0x44, 1, 1, .wo, .sw, .immediate, false⟩,
  ⟨.TRIP_ACTIVE, 0x48, 0, 1, .rc, .hw, .immediate, false⟩,
  ⟨.TRIP_LATCH, 0x48, 1, 1, .rc, .hw, .immediate, false⟩,
  ⟨.FULL_NOW, 0x48, 2, 1, .rc, .hw, .immediate, false⟩,
  ⟨.PRD_BUDGET, 0x48, 3, 1, .rc, .hw, .immediate, false⟩,
  ⟨.LOAD_PEND, 0x48, 4, 1, .rc, .hw, .immediate, false⟩,
  ⟨.DUTY_CLAMP, 0x4C, 0, 1, .w1c, .hw, .immediate, false⟩]

/-- R268. -/
def fieldsPwmR268b : List FieldInfo := [
  ⟨.TRIP_SEEN, 0x4C, 1, 1, .w1c, .hw, .immediate, false⟩,
  ⟨.LOAD_REJ, 0x4C, 2, 1, .w1c, .hw, .immediate, false⟩,
  ⟨.GRP_REJ, 0x4C, 3, 1, .w1c, .hw, .immediate, false⟩,
  ⟨.TRIP_RUN, 0x50, 0, 8, .rc, .hw, .immediate, false⟩,
  ⟨.TRIP_TOTAL, 0x54, 0, 16, .rw, .acc, .immediate, false⟩,
  ⟨.TRIP_CLR_REF, 0x58, 0, 16, .rw, .acc, .immediate, false⟩,
  ⟨.REFRESH_CNT, 0x5C, 0, 16, .rw, .acc, .immediate, false⟩,
  ⟨.MON_SKIP, 0x60, 0, 16, .rw, .acc, .immediate, false⟩,
  ⟨.PWM_EVT_LOST, 0x64, 0, 16, .rw, .acc, .immediate, false⟩,
  ⟨.REFRESH_RUN, 0x68, 0, 8, .rc, .hw, .immediate, false⟩,
  ⟨.PERIOD_DEV, 0x70, 0, 14, .rc, .hw, .immediate, false⟩,
  ⟨.DEAD_DEV, 0x74, 0, 15, .rc, .hw, .immediate, false⟩,
  ⟨.CMP_DEV, 0x78, 0, 32, .rc, .hw, .immediate, false⟩]

/-- R269. -/
def fieldsSysR269 : List FieldInfo := [
  ⟨.LOAD_ALL_GRP, 0xC0, 0, 16, .wo, .sw, .immediate, false⟩,
  ⟨.LOAD_PEND_GRP, 0xC4, 0, 16, .rc, .hw, .immediate, false⟩]

/-- R269. -/
def fieldsTrigoR269 : List FieldInfo := [
  ⟨.TRIGO_PORT, 0x0, 0, 5, .rw, .sw, .immediate, false⟩,
  ⟨.TRIGO_SRC, 0x0, 8, 2, .rw, .sw, .immediate, false⟩,
  ⟨.TRIGO_PWM_EN, 0x0, 12, 1, .rw, .sw, .immediate, false⟩]

/-- R269. -/
def fieldsTrigoR269At10 : List FieldInfo := [
  ⟨.TRIGO_PW, 0x0, 0, 8, .rw, .sw, .immediate, false⟩]

/-- R297. -/
def fieldsGdPortR297 : List FieldInfo := [
  ⟨.SRC_STEP, 0x0, 0, 3, .rw, .sw, .loadAll, false⟩,
  ⟨.SNK_STEP, 0x0, 4, 3, .rw, .sw, .loadAll, false⟩,
  ⟨.SC_THR, 0x4, 0, 4, .rw, .sw, .loadAll, true⟩,
  ⟨.SC_BLANK, 0x4, 4, 3, .rw, .sw, .loadAll, true⟩,
  ⟨.LSP_SHORT, 0x8, 0, 1, .rc, .hw, .immediate, false⟩,
  ⟨.HSP_SHORT, 0x8, 1, 1, .rc, .hw, .immediate, false⟩,
  ⟨.BST_UV, 0x8, 2, 1, .rc, .hw, .immediate, false⟩,
  ⟨.GD_LATCH, 0x8, 3, 1, .rc, .hw, .immediate, false⟩,
  ⟨.GD_CAUSE, 0x8, 8, 8, .rc, .hw, .immediate, false⟩,
  ⟨.SC_SEEN, 0xC, 0, 1, .w1c, .hw, .immediate, false⟩,
  ⟨.ILK_TO, 0xC, 1, 1, .w1c, .hw, .immediate, false⟩,
  ⟨.BST_UV_SEEN, 0xC, 2, 1, .w1c, .hw, .immediate, false⟩,
  ⟨.GD_CLR_REF, 0xC, 3, 1, .w1c, .hw, .immediate, false⟩,
  ⟨.GD_CLR, 0x10, 0, 1, .wo, .sw, .immediate, false⟩,
  ⟨.ILK_MAX_CLR, 0x10, 1, 1, .wo, .sw, .immediate, false⟩,
  ⟨.BST_UV_CNT, 0x14, 0, 16, .rw, .acc, .immediate, false⟩,
  ⟨.ILK_WAIT_MAX, 0x18, 0, 16, .rc, .hw, .immediate, false⟩]

/-- R298. -/
def fieldsGdBankR298 : List FieldInfo := [
  ⟨.VDRV_OK, 0x200, 0, 1, .rc, .hw, .immediate, false⟩,
  ⟨.DIE_OT, 0x200, 1, 1, .rc, .hw, .immediate, false⟩,
  ⟨.HARD_OV, 0x200, 2, 1, .rc, .hw, .immediate, false⟩,
  ⟨.HARD_COAST, 0x200, 3, 1, .rc, .hw, .immediate, false⟩,
  ⟨.VDRV_UV_SEEN, 0x204, 0, 1, .w1c, .hw, .immediate, false⟩,
  ⟨.HB_LOST, 0x204, 1, 1, .w1c, .hw, .immediate, false⟩,
  ⟨.DIE_OT_SEEN, 0x204, 2, 1, .w1c, .hw, .immediate, false⟩,
  ⟨.HARD_OV_SEEN, 0x204, 3, 1, .w1c, .hw, .immediate, false⟩,
  ⟨.VDRV_MV, 0x208, 0, 16, .rc, .hw, .immediate, false⟩,
  ⟨.HS_HOLD_MAX, 0x20C, 0, 10, .rw, .sw, .gdApply, true⟩,
  ⟨.GD_APPLY, 0x210, 0, 1, .wo, .sw, .immediate, false⟩,
  ⟨.VDRV_UV_CNT, 0x214, 0, 16, .rw, .acc, .immediate, false⟩,
  ⟨.HB_LOST_CNT, 0x218, 0, 16, .rw, .acc, .immediate, false⟩]

/-- R299. -/
def fieldsSysR299 : List FieldInfo := [
  ⟨.VBUS_LOW, 0x200, 0, 10, .rw, .sw, .immediate, false⟩,
  ⟨.VBUS_BRAKE, 0x204, 0, 10, .rw, .sw, .immediate, false⟩,
  ⟨.VBUS_OV, 0x208, 0, 10, .rw, .sw, .immediate, true⟩,
  ⟨.BRAKE_HYST, 0x20C, 0, 6, .rw, .sw, .immediate, false⟩,
  ⟨.BRAKE_PORT, 0x210, 0, 5, .rw, .sw, .immediate, false⟩,
  ⟨.BRAKE_EN, 0x210, 7, 1, .rw, .sw, .immediate, false⟩,
  ⟨.RT_LIMIT, 0x214, 0, 16, .rw, .sw, .immediate, false⟩,
  ⟨.RT_STOP_MS, 0x218, 0, 16, .rw, .sw, .immediate, false⟩,
  ⟨.VBUS_MV, 0x21C, 0, 32, .ro, .hw, .immediate, false⟩,
  ⟨.BUS_STAT, 0x224, 0, 5, .rc, .hw, .immediate, false⟩,
  ⟨.BUS_SEEN, 0x228, 0, 5, .w1c, .hw, .immediate, false⟩,
  ⟨.THR_REJ, 0x228, 8, 1, .w1c, .hw, .immediate, false⟩,
  ⟨.BRAKE_REJ, 0x228, 9, 1, .w1c, .hw, .immediate, false⟩,
  ⟨.BUS_COAST_CNT, 0x22C, 0, 16, .rw, .acc, .immediate, false⟩,
  ⟨.BRAKE_CNT, 0x230, 0, 16, .rw, .acc, .immediate, false⟩,
  ⟨.BUS_OV_CNT, 0x234, 0, 16, .rw, .acc, .immediate, false⟩,
  ⟨.SB_CMD, 0x238, 0, 8, .rw, .sw, .immediate, false⟩]

/-- R300. -/
def fieldsAxisR300 : List FieldInfo := [
  ⟨.RIDE_THROUGH, 0x600, 0, 1, .rw, .sw, .motionUpdate, true⟩,
  ⟨.SB_END, 0x600, 1, 1, .rw, .sw, .motionUpdate, true⟩,
  ⟨.SB_STILL, 0x604, 0, 16, .rw, .sw, .motionUpdate, true⟩,
  ⟨.SB_STATE, 0x608, 0, 2, .rc, .hw, .immediate, false⟩,
  ⟨.SB_SCOPE, 0x608, 4, 2, .rc, .hw, .immediate, false⟩,
  ⟨.SB_CAUSE, 0x608, 8, 8, .rc, .hw, .immediate, false⟩,
  ⟨.PWR_STATE, 0x60C, 0, 4, .rc, .hw, .immediate, false⟩,
  ⟨.SB_CNT, 0x610, 0, 16, .rw, .acc, .immediate, false⟩]

/-- R322. -/
def fieldsFbR322 : List FieldInfo := [
  ⟨.CH_MODE, 0x0, 0, 2, .rw, .sw, .statusTick, false⟩,
  ⟨.ENC_INV, 0x0, 2, 1, .rw, .sw, .statusTick, false⟩,
  ⟨.Z_POL, 0x0, 3, 1, .rw, .sw, .statusTick, false⟩,
  ⟨.Z_GATE, 0x0, 4, 1, .rw, .sw, .statusTick, false⟩,
  ⟨.ENC_N, 0x4, 0, 4, .rw, .sw, .statusTick, false⟩,
  ⟨.ENC_CLK, 0x4, 4, 2, .rw, .sw, .statusTick, false⟩,
  ⟨.SW_N, 0x4, 8, 4, .rw, .sw, .statusTick, false⟩,
  ⟨.SW_CLK, 0x4, 12, 2, .rw, .sw, .statusTick, false⟩,
  ⟨.SD_N, 0x8, 0, 4, .rw, .sw, .statusTick, false⟩,
  ⟨.SD_CLK, 0x8, 4, 2, .rw, .sw, .statusTick, false⟩,
  ⟨.SPD_WIN, 0xC, 0, 4, .rw, .sw, .statusTick, false⟩,
  ⟨.STILL_WINDOWS, 0xC, 8, 8, .rw, .sw, .statusTick, false⟩,
  ⟨.ILLEGAL_LIMIT, 0x10, 0, 8, .rw, .sw, .statusTick, false⟩,
  ⟨.ENC_POS, 0x14, 0, 48, .rw, .acc, .immediate, false⟩,
  ⟨.ENC_RATIO, 0x20, 0, 32, .rw, .sw, .slotDisable, false⟩,
  ⟨.FB_SOFTLIM_LO, 0x28, 0, 48, .rw, .sw, .statusTick, false⟩,
  ⟨.FB_SOFTLIM_HI, 0x34, 0, 48, .rw, .sw, .statusTick, false⟩,
  ⟨.ACT_POS, 0x40, 0, 48, .ro, .hw, .immediate, false⟩,
  ⟨.ENC_SPEED, 0x4C, 0, 32, .ro, .hw, .immediate, false⟩,
  ⟨.FB_STAT, 0x54, 0, 11, .rc, .hw, .immediate, false⟩,
  ⟨.FB_FLAGS, 0x58, 0, 5, .w1c, .hw, .immediate, false⟩,
  ⟨.ILLEGAL_COUNT, 0x5C, 0, 16, .rw, .acc, .immediate, false⟩,
  ⟨.HALL_SKIP, 0x60, 0, 16, .rw, .acc, .immediate, false⟩,
  ⟨.ENC_FAULT_CLR, 0x64, 0, 1, .wo, .sw, .immediate, false⟩]

/-- R322. -/
def fieldsFbR322b : List FieldInfo := [
  ⟨.ENC_ALIGN, 0x64, 1, 1, .wo, .sw, .immediate, false⟩,
  ⟨.CAP_ARM, 0x64, 2, 1, .wo, .sw, .immediate, false⟩,
  ⟨.CAP_Z, 0x68, 0, 1, .rw, .sw, .statusTick, false⟩,
  ⟨.CAP_HOME, 0x68, 1, 2, .rw, .sw, .statusTick, false⟩,
  ⟨.CAP_LIMN, 0x68, 3, 2, .rw, .sw, .statusTick, false⟩,
  ⟨.CAP_LIMP, 0x68, 5, 2, .rw, .sw, .statusTick, false⟩,
  ⟨.CAP_ONESHOT, 0x68, 7, 1, .rw, .sw, .statusTick, false⟩,
  ⟨.CAP_TRIGO, 0x68, 8, 4, .rw, .sw, .statusTick, false⟩,
  ⟨.CAP_SEGTRIG, 0x68, 12, 1, .rw, .sw, .statusTick, false⟩,
  ⟨.FE, 0x6C, 0, 32, .ro, .hw, .immediate, false⟩,
  ⟨.FE_LIMIT, 0x74, 0, 32, .rw, .sw, .statusTick, false⟩,
  ⟨.FE_TIME, 0x7C, 0, 16, .rw, .sw, .statusTick, false⟩,
  ⟨.ALIGN_MS, 0x80, 0, 10, .rw, .sw, .statusTick, false⟩]

/-- R323. -/
def fieldsSheetR323 : List FieldInfo := [
  ⟨.CS_T, 0x800, 0, 64, .wo, .sw, .immediate, false⟩,
  ⟨.CS_PEND, 0x810, 0, 1, .rc, .hw, .immediate, false⟩,
  ⟨.CS_REJ, 0x814, 0, 1, .w1c, .hw, .immediate, false⟩,
  ⟨.CS_LOST, 0x814, 1, 1, .w1c, .hw, .immediate, false⟩,
  ⟨.CS_DONE, 0x814, 2, 1, .w1c, .hw, .immediate, false⟩,
  ⟨.CS_CANCEL, 0x818, 0, 1, .wo, .sw, .immediate, false⟩,
  ⟨.CS_COUNT, 0x81C, 0, 16, .rw, .acc, .immediate, false⟩]

/-- R349. -/
def fieldsConvR349 : List FieldInfo := [
  ⟨.CONV_STATE, 0x0, 0, 3, .rc, .hw, .immediate, false⟩,
  ⟨.CONV_EPOCH, 0x0, 4, 4, .rc, .hw, .immediate, false⟩,
  ⟨.STRIKES, 0x0, 8, 2, .rc, .hw, .immediate, false⟩,
  ⟨.CAL_OFS, 0x4, 0, 16, .rc, .hw, .immediate, false⟩,
  ⟨.CAL_GAIN, 0x8, 0, 16, .rc, .hw, .immediate, false⟩,
  ⟨.CAL_START, 0xC, 0, 1, .wo, .sw, .immediate, false⟩,
  ⟨.CHK_FAIL_SEEN, 0x10, 0, 1, .w1c, .hw, .immediate, false⟩,
  ⟨.RETIRED_SEEN, 0x10, 1, 1, .w1c, .hw, .immediate, false⟩,
  ⟨.CAL_REJ, 0x10, 2, 1, .w1c, .hw, .immediate, false⟩,
  ⟨.CAL_FAIL_SEEN, 0x10, 3, 1, .w1c, .hw, .immediate, false⟩,
  ⟨.CHK_LAST_DEV, 0x14, 0, 16, .rc, .hw, .immediate, false⟩,
  ⟨.Q8_DECIM, 0x1C, 0, 8, .rw, .sw, .sequenceStart, false⟩,
  ⟨.INJ_DROP, 0x20, 0, 16, .rw, .acc, .immediate, false⟩,
  ⟨.SETTLE_CNT, 0x24, 0, 16, .rw, .acc, .immediate, false⟩,
  ⟨.ABORT_CNT, 0x28, 0, 16, .rw, .acc, .immediate, false⟩,
  ⟨.CHK_SKIP, 0x2C, 0, 16, .rw, .acc, .immediate, false⟩,
  ⟨.SYS_OFS_A, 0x30, 0, 16, .rc, .hw, .immediate, true⟩,
  ⟨.SYS_GAIN_A, 0x34, 0, 16, .rc, .hw, .immediate, true⟩,
  ⟨.SYS_OFS_B, 0x38, 0, 16, .rc, .hw, .immediate, true⟩,
  ⟨.SYS_GAIN_B, 0x3C, 0, 16, .rc, .hw, .immediate, true⟩]

/-- R350. -/
def fieldsAuxInR350 : List FieldInfo := [
  ⟨.CH_EN, 0x0, 0, 1, .rw, .sw, .sequenceStart, false⟩,
  ⟨.CH_COPY, 0x0, 1, 1, .rw, .sw, .sequenceStart, false⟩,
  ⟨.FMT, 0x0, 2, 2, .rw, .sw, .sequenceStart, false⟩,
  ⟨.AVG_N, 0x0, 4, 4, .rw, .sw, .sequenceStart, false⟩,
  ⟨.SHIFT, 0x0, 8, 4, .rw, .sw, .sequenceStart, false⟩,
  ⟨.DIFF, 0x0, 12, 1, .rw, .sw, .sequenceStart, false⟩,
  ⟨.CH_REJ, 0x0, 15, 1, .w1c, .hw, .immediate, false⟩]

/-- R350. -/
def fieldsAuxInR350At100 : List FieldInfo := [
  ⟨.CH_VAL, 0x0, 0, 16, .rc, .hw, .immediate, false⟩]

/-- R350. -/
def fieldsAinSysR350 : List FieldInfo := [
  ⟨.AIN_SYS_OFS, 0x0, 0, 16, .rc, .hw, .immediate, true⟩,
  ⟨.AIN_SYS_GAIN, 0x4, 0, 16, .rc, .hw, .immediate, true⟩]

/-- R351. -/
def fieldsConvGlobalR351 : List FieldInfo := [
  ⟨.CHECK_TOL, 0xC00, 0, 10, .rw, .sw, .check, false⟩,
  ⟨.AADC_CHECK_TOL, 0xC04, 0, 16, .rw, .sw, .check, false⟩,
  ⟨.CAL_INTERVAL, 0xC08, 0, 12, .rw, .sw, .calibrationDue, false⟩,
  ⟨.CADC_RET, 0xC10, 0, 16, .rc, .hw, .immediate, false⟩,
  ⟨.AADC_RET, 0xC14, 0, 2, .rc, .hw, .immediate, false⟩,
  ⟨.PAIR_SUSPECT, 0xC14, 8, 8, .rc, .hw, .immediate, false⟩,
  ⟨.CHK_REF_FAIL, 0xC18, 0, 9, .rc, .hw, .immediate, false⟩,
  ⟨.CAL_DEFER, 0xC1C, 0, 16, .rw, .acc, .immediate, false⟩,
  ⟨.RETIRE_CNT, 0xC20, 0, 16, .rw, .acc, .immediate, false⟩,
  ⟨.SYSCAL_TARGET, 0xC28, 0, 16, .rw, .sw, .immediate, false⟩,
  ⟨.SYSCAL_CH, 0xC2C, 0, 7, .rw, .sw, .immediate, false⟩,
  ⟨.SYSCAL_ZERO, 0xC30, 0, 1, .wo, .sw, .immediate, true⟩,
  ⟨.SYSCAL_REF, 0xC30, 1, 1, .wo, .sw, .immediate, true⟩,
  ⟨.SYSCAL_REJ, 0xC34, 0, 1, .w1c, .hw, .immediate, false⟩,
  ⟨.SYSCAL_WHY, 0xC34, 8, 4, .rc, .hw, .immediate, false⟩]

/-- R369. -/
def fieldsSensorR369 : List FieldInfo := [
  ⟨.SNS_EN, 0x0, 0, 1, .rw, .sw, .scan, false⟩,
  ⟨.TH_TABLE, 0x0, 1, 1, .rw, .sw, .scan, false⟩,
  ⟨.T_LIM, 0x4, 0, 16, .rw, .sw, .scan, true⟩,
  ⟨.THM_AXES, 0x8, 0, 8, .rw, .sw, .scan, true⟩,
  ⟨.NB0, 0xC, 0, 6, .rw, .sw, .scan, false⟩,
  ⟨.NB1, 0xC, 8, 6, .rw, .sw, .scan, false⟩,
  ⟨.NB2, 0x10, 0, 6, .rw, .sw, .scan, false⟩,
  ⟨.NB_LO0, 0x14, 0, 16, .rw, .sw, .scan, false⟩,
  ⟨.NB_LO1, 0x1C, 0, 16, .rw, .sw, .scan, false⟩,
  ⟨.NB_LO2, 0x24, 0, 16, .rw, .sw, .scan, false⟩,
  ⟨.NB_HI0, 0x18, 0, 16, .rw, .sw, .scan, false⟩,
  ⟨.NB_HI1, 0x20, 0, 16, .rw, .sw, .scan, false⟩,
  ⟨.NB_HI2, 0x28, 0, 16, .rw, .sw, .scan, false⟩,
  ⟨.RATE_MAX, 0x2C, 0, 8, .rw, .sw, .scan, false⟩,
  ⟨.TEMP, 0x30, 0, 16, .rc, .hw, .immediate, false⟩,
  ⟨.RAW, 0x34, 0, 16, .rc, .hw, .immediate, false⟩,
  ⟨.SNS_STATE, 0x38, 0, 3, .rc, .hw, .immediate, false⟩,
  ⟨.SCAN_RATE, 0x38, 4, 2, .rc, .hw, .immediate, false⟩,
  ⟨.LAST_CAUSE, 0x38, 8, 3, .rc, .hw, .immediate, false⟩,
  ⟨.FAIL_SEEN, 0x38, 12, 1, .w1c, .hw, .immediate, false⟩,
  ⟨.TH_TAB_REJ, 0x38, 13, 1, .w1c, .hw, .immediate, false⟩,
  ⟨.THM_PARAM_REJ, 0x38, 14, 1, .w1c, .hw, .immediate, false⟩,
  ⟨.FAIL_CNT, 0x3C, 0, 16, .rw, .acc, .immediate, false⟩]

/-- R370. -/
def fieldsDiodeR370 : List FieldInfo := [
  ⟨.TD_ETA, 0x0, 0, 13, .rw, .sw, .scan, false⟩,
  ⟨.TD_RS, 0x4, 0, 16, .rc, .hw, .immediate, false⟩]

/-- R370. -/
def fieldsThermistorR370 : List FieldInfo := [
  ⟨.TH_BETA, 0x0, 0, 16, .rw, .sw, .scan, false⟩,
  ⟨.TH_R25, 0x4, 0, 16, .rw, .sw, .scan, false⟩,
  ⟨.TH_RPU, 0x8, 0, 16, .rw, .sw, .scan, false⟩]

/-- R370. -/
def fieldsThmR370 : List FieldInfo := [
  ⟨.NEAR_BAND, 0xC00, 0, 6, .rw, .sw, .scan, false⟩,
  ⟨.CLOSE_BAND, 0xC04, 0, 6, .rw, .sw, .scan, false⟩,
  ⟨.THR_INTERVAL, 0xC08, 0, 10, .rw, .sw, .scan, false⟩,
  ⟨.THR_FLOOR, 0xC0C, 0, 4, .rw, .sw, .scan, true⟩,
  ⟨.THR_HOLD, 0xC10, 0, 10, .rw, .sw, .scan, false⟩,
  ⟨.GD_BUDGET, 0xC14, 0, 12, .rw, .sw, .budgetEvaluation, true⟩,
  ⟨.GD_EST, 0xC18, 0, 16, .rc, .hw, .immediate, false⟩,
  ⟨.BUDGET_ACT, 0xC1C, 0, 1, .rc, .hw, .immediate, false⟩,
  ⟨.BUDGET_OVER, 0xC1C, 1, 1, .rc, .hw, .immediate, false⟩]

/-- R370. -/
def fieldsThrSlotR370 : List FieldInfo := [
  ⟨.THR_STEP, 0x0, 0, 5, .rc, .hw, .immediate, false⟩,
  ⟨.THR_FROZEN, 0x0, 8, 1, .rc, .hw, .immediate, false⟩,
  ⟨.THR_HOLDING, 0x0, 9, 1, .rc, .hw, .immediate, false⟩,
  ⟨.THR_AT_FLOOR, 0x0, 10, 1, .rc, .hw, .immediate, false⟩,
  ⟨.THR_SEEN, 0x0, 12, 1, .w1c, .hw, .immediate, false⟩]

/-- R370. -/
def fieldsThrSlotR370At20 : List FieldInfo := [
  ⟨.THR_LIMIT, 0x0, 0, 16, .rc, .hw, .immediate, false⟩]

/-- R370. -/
def fieldsQgR370 : List FieldInfo := [
  ⟨.QG_NC, 0x0, 0, 9, .rw, .sw, .budgetEvaluation, false⟩]

/-- R391. -/
def fieldsHlthR391 : List FieldInfo := [
  ⟨.RED_LOST, 0x0, 0, 5, .rc, .hw, .immediate, false⟩,
  ⟨.ABSORBED, 0x4, 0, 16, .rw, .acc, .immediate, false⟩,
  ⟨.STALE_DROP, 0x8, 0, 16, .rw, .acc, .immediate, false⟩,
  ⟨.ECC_CORR, 0xC, 0, 16, .rw, .acc, .immediate, false⟩,
  ⟨.ECC_UNCORR, 0x10, 0, 16, .rw, .acc, .immediate, false⟩,
  ⟨.STRIP_RUN, 0x14, 0, 16, .rw, .acc, .immediate, false⟩,
  ⟨.STRIP_MISMATCH, 0x18, 0, 16, .rw, .acc, .immediate, false⟩,
  ⟨.VOTE_SPLIT, 0x1C, 0, 16, .rw, .acc, .immediate, false⟩,
  ⟨.MIGRATIONS, 0x20, 0, 16, .rw, .acc, .immediate, false⟩,
  ⟨.COLD_TAKE, 0x24, 0, 16, .rw, .acc, .immediate, false⟩,
  ⟨.ENG_DEAD, 0x28, 0, 16, .rw, .acc, .immediate, false⟩,
  ⟨.SEQ_RESTARTS, 0x2C, 0, 16, .rw, .acc, .immediate, false⟩,
  ⟨.SEQ_WD_CNT, 0x30, 0, 16, .rw, .acc, .immediate, false⟩,
  ⟨.DOM_RESTARTS, 0x34, 0, 16, .rw, .acc, .immediate, false⟩,
  ⟨.CAN_LOSS, 0x38, 0, 16, .rw, .acc, .immediate, false⟩,
  ⟨.SEQ_NOPATCH, 0x3C, 0, 1, .rc, .hw, .immediate, false⟩,
  ⟨.MIG_REJ, 0x3C, 8, 1, .w1c, .hw, .immediate, false⟩,
  ⟨.STRIP_INT, 0x40, 0, 10, .rw, .sw, .immediate, true⟩,
  ⟨.STRIP_SLOT, 0x44, 0, 3, .rc, .hw, .immediate, false⟩,
  ⟨.STRIP_ACTIVE, 0x44, 8, 1, .rc, .hw, .immediate, false⟩,
  ⟨.DEAD_MAP, 0x48, 0, 10, .rc, .hw, .immediate, false⟩,
  ⟨.VOTE_LOST_MAP, 0x4C, 0, 10, .rc, .hw, .immediate, false⟩,
  ⟨.MIGRATE, 0x50, 0, 8, .wo, .sw, .immediate, false⟩]

/-- R415. -/
def fieldsLinkR415 : List FieldInfo := [
  ⟨.LINK_EN, 0x0, 0, 1, .rw, .sw, .linkCycle, false⟩,
  ⟨.LINK_RESTART, 0x0, 8, 1, .wo, .sw, .immediate, false⟩,
  ⟨.ROLE_ACT, 0x4, 0, 1, .rc, .hw, .immediate, false⟩,
  ⟨.LINK_STATE, 0x4, 4, 3, .rc, .hw, .immediate, false⟩,
  ⟨.RING_POS, 0x8, 0, 5, .rc, .hw, .immediate, false⟩,
  ⟨.RING_SIZE, 0x8, 8, 6, .rc, .hw, .immediate, false⟩,
  ⟨.OWN_EPOCH, 0xC, 0, 4, .rc, .hw, .immediate, false⟩,
  ⟨.RING_EXPECT, 0x10, 0, 6, .rw, .sw, .enumeration, false⟩,
  ⟨.TIME_ERR, 0x14, 0, 16, .rc, .hw, .immediate, false⟩,
  ⟨.FREQ_TRIM, 0x18, 0, 16, .rc, .hw, .immediate, false⟩,
  ⟨.RING_OFS, 0x1C, 0, 64, .ro, .hw, .immediate, false⟩,
  ⟨.LANE_OK, 0x2C, 0, 4, .rc, .hw, .immediate, false⟩,
  ⟨.LINK_FLAGS, 0x30, 0, 5, .w1c, .hw, .immediate, false⟩,
  ⟨.CRC_ERR, 0x34, 0, 16, .rw, .acc, .immediate, false⟩,
  ⟨.FENCE_CNT, 0x38, 0, 16, .rw, .acc, .immediate, false⟩,
  ⟨.FENCE_ACTION, 0x3C, 0, 1, .rw, .sw, .linkCycle, true⟩,
  ⟨.FRAME_BYTES, 0x40, 0, 11, .rc, .hw, .immediate, false⟩]

/-- R415. -/
def fieldsLinkSlotR415 : List FieldInfo := [
  ⟨.AX_DN, 0x0, 0, 2, .rw, .sw, .enumeration, false⟩,
  ⟨.AX_UP, 0x0, 4, 2, .rw, .sw, .enumeration, false⟩]

/-- R415. -/
def fieldsLinkDevR415 : List FieldInfo := [
  ⟨.DEV_STATE, 0x0, 0, 3, .rc, .hw, .immediate, false⟩,
  ⟨.DEV_EPOCH, 0x0, 4, 4, .rc, .hw, .immediate, false⟩,
  ⟨.DEV_LANES, 0x0, 8, 2, .rc, .hw, .immediate, false⟩]

/-- R415. -/
def fieldsLinkAccR415 : List FieldInfo := [
  ⟨.ACC_RING, 0x0, 0, 1, .rw, .sw, .linkCycle, false⟩]

/-- R444. -/
def fieldsMbxR444 : List FieldInfo := [
  ⟨.MBX_IN, 0x3A0, 0, 32, .wo, .sw, .immediate, false⟩,
  ⟨.MBX_OUT, 0x3E0, 0, 32, .ro, .hw, .immediate, false⟩,
  ⟨.OUT_READY, 0x3E8, 0, 1, .rc, .hw, .immediate, false⟩,
  ⟨.IN_FULL, 0x3E8, 1, 1, .rc, .hw, .immediate, false⟩,
  ⟨.IN_DROP, 0x3EC, 0, 1, .w1c, .hw, .immediate, false⟩,
  ⟨.OUT_TIMEOUT, 0x3EC, 1, 1, .w1c, .hw, .immediate, false⟩]

/-- R470. -/
def fieldsSecR470 : List FieldInfo := [
  ⟨.CLAIMED, 0x0, 0, 1, .rc, .hw, .immediate, false⟩,
  ⟨.SESS_OPEN, 0x0, 1, 1, .rc, .hw, .immediate, false⟩,
  ⟨.SESS_ROLE, 0x0, 2, 2, .rc, .hw, .immediate, false⟩,
  ⟨.SESS_PATH, 0x0, 4, 2, .rc, .hw, .immediate, false⟩,
  ⟨.SAFE_BOOT, 0x0, 8, 1, .rc, .hw, .immediate, false⟩,
  ⟨.PROF_ACTIVE, 0x4, 0, 3, .rc, .hw, .immediate, false⟩,
  ⟨.PROF_TARGET, 0x4, 4, 3, .rc, .hw, .immediate, false⟩,
  ⟨.PROF_SWITCHING, 0x4, 7, 1, .rc, .hw, .immediate, false⟩,
  ⟨.PROF_WAIT, 0x4, 8, 8, .rc, .hw, .immediate, false⟩,
  ⟨.PROF_VALID, 0x8, 0, 4, .rc, .hw, .immediate, false⟩,
  ⟨.SVC_HOURS, 0xC, 0, 32, .ro, .hw, .immediate, false⟩,
  ⟨.PATCH_LEVEL, 0x14, 0, 16, .rc, .hw, .immediate, false⟩,
  ⟨.ROLLBACK_MIN, 0x18, 0, 16, .rc, .hw, .immediate, false⟩,
  ⟨.PATCH_STATE, 0x1C, 0, 2, .rc, .hw, .immediate, false⟩,
  ⟨.CLAIM_CNT, 0x20, 0, 16, .rc, .hw, .immediate, false⟩,
  ⟨.LAST_REFUSAL, 0x24, 0, 8, .rc, .hw, .immediate, false⟩,
  ⟨.REFUSALS, 0x28, 0, 16, .rw, .acc, .immediate, false⟩,
  ⟨.STAGED, 0x2C, 0, 7, .rc, .hw, .immediate, false⟩,
  ⟨.AUDIT_HEAD, 0x30, 0, 10, .rc, .hw, .immediate, false⟩,
  ⟨.AUDIT_WRAPS, 0x34, 0, 16, .rw, .acc, .immediate, false⟩]

/-- R485. -/
def fieldsSysR485 : List FieldInfo := [
  ⟨.BOOT_STAGE, 0x300, 0, 4, .rc, .hw, .immediate, false⟩,
  ⟨.BOOT_DONE, 0x300, 8, 1, .rc, .hw, .immediate, false⟩,
  ⟨.TB_NOREF, 0x300, 9, 1, .rc, .hw, .immediate, false⟩,
  ⟨.VANA_WAIT, 0x300, 10, 1, .rc, .hw, .immediate, false⟩,
  ⟨.RESET_CAUSE, 0x304, 0, 5, .ro, .hw, .immediate, false⟩,
  ⟨.BOOT_TIME, 0x308, 0, 16, .rc, .hw, .immediate, false⟩,
  ⟨.DOM_ON, 0x310, 0, 12, .rc, .hw, .immediate, false⟩,
  ⟨.DOM_OFF_REQ, 0x314, 0, 12, .rw, .sw, .statusTick, false⟩,
  ⟨.DOM_REJ, 0x318, 0, 1, .w1c, .hw, .immediate, false⟩,
  ⟨.DOM_REJ_CODE, 0x318, 8, 4, .rc, .hw, .immediate, false⟩,
  ⟨.DOM_BUSY, 0x31C, 0, 12, .rc, .hw, .immediate, false⟩]

/-- Every group of registers of R75, with its base, stride and instances. -/
def regBlocks : List RegBlock := [
  ⟨0x030000, 0x1000, 8, 0, fieldsAxisR34 ++ fieldsAxisR135 ++ fieldsAxisR135b ++ fieldsAxisR178 ++ fieldsAxisR178b ++ fieldsAxisR211 ++ fieldsAxisR211b ++ fieldsAxisR241 ++ fieldsAxisR241b ++ fieldsAxisR300⟩,
  ⟨0x070000, 0x40, 16, 0, fieldsQueR53⟩,
  ⟨0x010000, 0x100, 32, 0, fieldsPwmR106 ++ fieldsPwmR268 ++ fieldsPwmR268b⟩,
  ⟨0x020000, 0x40, 8, 0, fieldsGdPortR297⟩,
  ⟨0x020400, 0x40, 8, 8, fieldsGdPortR297⟩,
  ⟨0x020800, 0x40, 8, 16, fieldsGdPortR297⟩,
  ⟨0x020C00, 0x40, 8, 24, fieldsGdPortR297⟩,
  ⟨0x020000, 0x400, 4, 0, fieldsGdBankR298⟩,
  ⟨0x000100, 0x20, 8, 0, fieldsAccordR136⟩,
  ⟨0x040000, 0x100, 8, 0, fieldsFbR322 ++ fieldsFbR322b⟩,
  ⟨0x050000, 0x40, 16, 0, fieldsConvR349⟩,
  ⟨0x050400, 0x40, 2, 16, fieldsConvR349⟩,
  ⟨0x060000, 0x40, 34, 0, fieldsSensorR369⟩,
  ⟨0x000080, 0x4, 8, 0, fieldsSlotEngineR106⟩,
  ⟨0x0000D0, 0x4, 4, 0, fieldsTrigoR269⟩,
  ⟨0x0000E0, 0x4, 4, 0, fieldsTrigoR269At10⟩,
  ⟨0x050800, 0x4, 64, 0, fieldsAuxInR350⟩,
  ⟨0x050900, 0x4, 64, 0, fieldsAuxInR350At100⟩,
  ⟨0x050E00, 0x8, 8, 0, fieldsAinSysR350⟩,
  ⟨0x060900, 0x8, 8, 0, fieldsDiodeR370⟩,
  ⟨0x060A00, 0x10, 8, 0, fieldsThermistorR370⟩,
  ⟨0x060E00, 0x4, 8, 0, fieldsThrSlotR370⟩,
  ⟨0x060E20, 0x4, 8, 0, fieldsThrSlotR370At20⟩,
  ⟨0x060F00, 0x4, 32, 0, fieldsQgR370⟩,
  ⟨0x060000, 0x1000, 1, 0, fieldsThmR370⟩,
  ⟨0x080100, 0x4, 8, 0, fieldsLinkSlotR415⟩,
  ⟨0x080200, 0x4, 32, 0, fieldsLinkDevR415⟩,
  ⟨0x080300, 0x4, 8, 0, fieldsLinkAccR415⟩,
  ⟨0x080000, 0x1000, 1, 0, fieldsLinkR415⟩,
  ⟨0x000000, 0x1000, 1, 0, fieldsSysR8 ++ fieldsSysR42 ++ fieldsSysR74 ++ fieldsSysR86 ++ fieldsSysR106 ++ fieldsSysR269 ++ fieldsSysR299 ++ fieldsSysR485⟩,
  ⟨0x001000, 0x1000, 1, 0, fieldsTbR66⟩,
  ⟨0x040000, 0x1000, 1, 0, fieldsSheetR323⟩,
  ⟨0x050000, 0x1000, 1, 0, fieldsConvGlobalR351⟩,
  ⟨0x0B0000, 0x1000, 1, 0, fieldsHlthR391⟩,
  ⟨0x070000, 0x400, 1, 0, fieldsMbxR444⟩,
  ⟨0x0A0000, 0x1000, 1, 0, fieldsSecR470⟩]

end Sys2Proof.Machine
end

