-- ==== Sys2Proof/Machine/ObjTable.lean ====
section
/-! DEFINITION. The objects that are backed by fields: index, subindex, length, access, seal, and the fields packed
into them, as the object tables of the manual give them (R87, R105, R137, R179, R180, R212, R242, R270, R301, R324,
R325, R352, R371, R392, R416, R425, R426, R434, R471, R486). Objects with a behaviour of their own are in Objects. -/

namespace Sys2Proof.Machine

/-- Access of an object (R25). -/
inductive ObjAcc where
  | ro | rw | wo
deriving DecidableEq, Repr

/-- How an object's instance is numbered: none, by slot of the index, or by subindex. -/
inductive ObjInst where
  | one | slot | sub
deriving DecidableEq, Repr

/-- A field in an object: the low `width` bits of the value at bit `lo`. -/
structure ObjPart where
  reg : Reg
  lo : Nat
  width : Nat
deriving DecidableEq, Repr

structure ObjRow where
  index : Nat
  stride : Nat
  count : Nat
  sub : Nat
  subs : Nat
  /-- length of the type in bytes -/
  size : Nat
  acc : ObjAcc
  isSealed : Bool
  mappable : Bool
  inst : ObjInst
  parts : List ObjPart
deriving DecidableEq, Repr

def objRows0 : List ObjRow := [
  ⟨0x1005, 0x1, 1, 0, 1, 4, .rw, false, false, .one, [⟨.COB_SYNC, 0, 32⟩]⟩,
  ⟨0x1006, 0x1, 1, 0, 1, 4, .rw, false, false, .one, [⟨.SYNC_PERIOD, 0, 32⟩]⟩,
  ⟨0x1012, 0x1, 1, 0, 1, 4, .rw, false, false, .one, [⟨.COB_TIME, 0, 32⟩]⟩,
  ⟨0x1014, 0x1, 1, 0, 1, 4, .rw, false, false, .one, [⟨.COB_EMCY, 0, 32⟩]⟩,
  ⟨0x1015, 0x1, 1, 0, 1, 2, .rw, false, false, .one, [⟨.INHIBIT_EMCY, 0, 16⟩]⟩,
  ⟨0x1016, 0x1, 1, 1, 8, 4, .rw, false, false, .sub, [⟨.HB_CONSUMER, 0, 32⟩]⟩,
  ⟨0x1017, 0x1, 1, 0, 1, 2, .rw, false, false, .one, [⟨.HB_PRODUCER, 0, 16⟩]⟩,
  ⟨0x1019, 0x1, 1, 0, 1, 1, .rw, false, false, .one, [⟨.SYNC_OVERFLOW, 0, 8⟩]⟩,
  ⟨0x1029, 0x1, 1, 1, 1, 1, .rw, false, false, .one, [⟨.ERROR_BEHAVIOUR, 0, 8⟩]⟩,
  ⟨0x1F80, 0x1, 1, 0, 1, 4, .rw, false, false, .one, [⟨.NMT_STARTUP, 0, 32⟩]⟩,
  ⟨0x2000, 0x1, 1, 1, 1, 1, .rw, true, false, .one, [⟨.DEV_MODE, 0, 8⟩]⟩,
  ⟨0x2001, 0x1, 1, 1, 1, 1, .rw, true, false, .one, [⟨.NODE_ID, 0, 8⟩]⟩,
  ⟨0x2001, 0x1, 1, 2, 1, 1, .rw, false, false, .one, [⟨.CAN_MODE, 0, 8⟩]⟩,
  ⟨0x2001, 0x1, 1, 3, 1, 1, .rw, false, false, .one, [⟨.ARB_RATE, 0, 8⟩]⟩,
  ⟨0x2001, 0x1, 1, 4, 1, 1, .rw, false, false, .one, [⟨.DATA_RATE, 0, 8⟩]⟩,
  ⟨0x2001, 0x1, 1, 5, 1, 1, .ro, false, false, .one, [⟨.NODE_ID_ACT, 0, 8⟩]⟩,
  ⟨0x2002, 0x1, 1, 2, 1, 2, .rw, false, false, .one, [⟨.DOM_OFF_REQ, 0, 12⟩]⟩,
  ⟨0x2002, 0x1, 1, 3, 1, 4, .ro, false, false, .one, [⟨.DOM_ON, 0, 12⟩, ⟨.DOM_BUSY, 16, 12⟩]⟩,
  ⟨0x2002, 0x1, 1, 4, 1, 4, .ro, false, false, .one, [⟨.BOOT_TIME, 0, 16⟩, ⟨.RESET_CAUSE, 16, 5⟩, ⟨.BOOT_STAGE, 24, 4⟩]⟩,
  ⟨0x2010, 0x1, 1, 1, 32, 1, .rw, true, false, .sub, [⟨.PORT_ROLE, 0, 8⟩]⟩,
  ⟨0x2011, 0x1, 1, 1, 8, 1, .rw, true, false, .sub, [⟨.SLOT_KIND, 0, 8⟩]⟩,
  ⟨0x2013, 0x1, 1, 0, 1, 4, .ro, false, false, .one, [⟨.MAP_CODE, 0, 8⟩, ⟨.MAP_PORT, 8, 8⟩, ⟨.MAP_SLOT, 16, 8⟩, ⟨.MAP_WAIT, 24, 8⟩]⟩,
  ⟨0x2014, 0x1, 1, 0, 1, 1, .ro, false, false, .one, [⟨.BANK_SPLIT, 0, 8⟩]⟩,
  ⟨0x2021, 0x1, 1, 0, 1, 2, .ro, false, false, .one, [⟨.SPARE_MAP, 0, 10⟩]⟩,
  ⟨0x2022, 0x1, 1, 1, 10, 1, .ro, false, false, .sub, [⟨.ENG_STATE, 0, 8⟩]⟩,
  ⟨0x2023, 0x1, 1, 1, 8, 1, .ro, false, false, .sub, [⟨.SLOT_EPOCH, 0, 4⟩]⟩,
  ⟨0x2030, 0x1, 1, 1, 32, 2, .rw, false, false, .sub, [⟨.PERIOD, 0, 14⟩]⟩,
  ⟨0x2031, 0x1, 1, 1, 32, 2, .rw, true, false, .sub, [⟨.DEAD_TIME, 0, 15⟩]⟩,
  ⟨0x2032, 0x1, 1, 1, 32, 4, .rw, false, true, .sub, [⟨.DUTY, 0, 19⟩]⟩,
  ⟨0x2033, 0x1, 1, 1, 32, 1, .rw, false, false, .sub, [⟨.GROUP, 0, 4⟩]⟩,
  ⟨0x2034, 0x1, 1, 1, 32, 1, .rw, false, false, .sub, [⟨.REFRESH_LIMIT, 0, 8⟩]⟩,
  ⟨0x2035, 0x1, 1, 1, 32, 2, .rw, false, false, .sub, [⟨.REFRESH_WIDTH, 0, 9⟩]⟩,
  ⟨0x2036, 0x1, 1, 1, 32, 1, .rw, true, false, .sub, [⟨.TRIP_LIMIT, 0, 8⟩]⟩,
  ⟨0x2037, 0x1, 1, 1, 32, 4, .rw, false, false, .sub, [⟨.PRESC_ZERO, 0, 5⟩, ⟨.RTSEQ_ZERO, 5, 1⟩, ⟨.RTCONV_ZERO, 6, 1⟩, ⟨.CFG_PRD, 8, 7⟩, ⟨.CFG_CMPA, 16, 7⟩, ⟨.CFG_CMPB, 24, 7⟩]⟩,
  ⟨0x2038, 0x1, 1, 1, 32, 4, .rw, false, false, .sub, [⟨.CMP_B, 0, 19⟩]⟩,
  ⟨0x2039, 0x1, 1, 1, 32, 2, .rw, false, false, .sub, [⟨.MON_BLANK, 0, 9⟩]⟩,
  ⟨0x203A, 0x1, 1, 1, 32, 1, .rw, false, false, .sub, [⟨.PWM_EN, 0, 1⟩]⟩,
  ⟨0x203B, 0x1, 1, 0, 1, 2, .wo, false, true, .one, [⟨.LOAD_ALL_GRP, 0, 16⟩]⟩,
  ⟨0x203C, 0x1, 1, 1, 32, 1, .wo, false, false, .sub, [⟨.TRIP_CLR, 0, 1⟩]⟩,
  ⟨0x203D, 0x1, 1, 1, 32, 4, .ro, false, false, .sub, [⟨.TRIP_ACTIVE, 0, 1⟩, ⟨.TRIP_LATCH, 1, 1⟩, ⟨.FULL_NOW, 2, 1⟩, ⟨.PRD_BUDGET, 3, 1⟩, ⟨.LOAD_PEND, 4, 1⟩, ⟨.DUTY_CLAMP, 8, 1⟩, ⟨.TRIP_SEEN, 9, 1⟩, ⟨.LOAD_REJ, 10, 1⟩, ⟨.GRP_REJ, 11, 1⟩, ⟨.TRIP_RUN, 16, 8⟩, ⟨.REFRESH_RUN, 24, 8⟩]⟩]

def objRows1 : List ObjRow := [
  ⟨0x203E, 0x1, 1, 1, 32, 2, .rw, false, false, .sub, [⟨.TRIP_TOTAL, 0, 16⟩]⟩,
  ⟨0x2040, 0x1, 1, 1, 4, 2, .rw, false, false, .sub, [⟨.TRIGO_PORT, 0, 5⟩, ⟨.TRIGO_SRC, 5, 2⟩, ⟨.TRIGO_PWM_EN, 7, 1⟩, ⟨.TRIGO_PW, 8, 8⟩]⟩,
  ⟨0x2050, 0x1, 1, 1, 32, 1, .rw, false, false, .sub, [⟨.SRC_STEP, 0, 3⟩, ⟨.SNK_STEP, 4, 3⟩]⟩,
  ⟨0x2051, 0x1, 1, 1, 32, 1, .rw, true, false, .sub, [⟨.SC_THR, 0, 4⟩, ⟨.SC_BLANK, 4, 3⟩]⟩,
  ⟨0x2052, 0x1, 1, 1, 32, 2, .ro, false, false, .sub, [⟨.LSP_SHORT, 0, 1⟩, ⟨.HSP_SHORT, 1, 1⟩, ⟨.BST_UV, 2, 1⟩, ⟨.GD_LATCH, 3, 1⟩, ⟨.GD_CAUSE, 8, 8⟩]⟩,
  ⟨0x2053, 0x1, 1, 1, 32, 1, .wo, false, false, .sub, [⟨.GD_CLR, 0, 1⟩]⟩,
  ⟨0x2054, 0x1, 1, 1, 4, 4, .ro, false, false, .sub, [⟨.VDRV_OK, 0, 1⟩, ⟨.DIE_OT, 1, 1⟩, ⟨.HARD_OV, 2, 1⟩, ⟨.HARD_COAST, 3, 1⟩, ⟨.VDRV_MV, 16, 16⟩]⟩,
  ⟨0x2055, 0x1, 1, 1, 4, 2, .rw, true, false, .sub, [⟨.HS_HOLD_MAX, 0, 10⟩]⟩,
  ⟨0x2058, 0x1, 1, 1, 1, 2, .rw, false, false, .one, [⟨.VBUS_LOW, 0, 10⟩]⟩,
  ⟨0x2058, 0x1, 1, 2, 1, 2, .rw, false, false, .one, [⟨.VBUS_BRAKE, 0, 10⟩]⟩,
  ⟨0x2058, 0x1, 1, 3, 1, 2, .rw, true, false, .one, [⟨.VBUS_OV, 0, 10⟩]⟩,
  ⟨0x2058, 0x1, 1, 4, 1, 1, .rw, false, false, .one, [⟨.BRAKE_HYST, 0, 6⟩]⟩,
  ⟨0x2058, 0x1, 1, 5, 1, 1, .rw, false, false, .one, [⟨.BRAKE_PORT, 0, 5⟩, ⟨.BRAKE_EN, 7, 1⟩]⟩,
  ⟨0x2058, 0x1, 1, 6, 1, 2, .rw, false, false, .one, [⟨.RT_LIMIT, 0, 16⟩]⟩,
  ⟨0x2058, 0x1, 1, 7, 1, 2, .rw, false, false, .one, [⟨.RT_STOP_MS, 0, 16⟩]⟩,
  ⟨0x2058, 0x1, 1, 8, 1, 4, .ro, false, true, .one, [⟨.VBUS_MV, 0, 32⟩]⟩,
  ⟨0x2058, 0x1, 1, 9, 1, 2, .ro, false, false, .one, [⟨.BUS_STAT, 0, 5⟩, ⟨.BUS_SEEN, 8, 5⟩]⟩,
  ⟨0x2059, 0x1, 1, 0, 1, 1, .rw, false, true, .one, [⟨.SB_CMD, 0, 8⟩]⟩,
  ⟨0x2070, 0x1, 1, 1, 8, 1, .rw, false, false, .sub, [⟨.CH_MODE, 0, 2⟩, ⟨.ENC_INV, 2, 1⟩, ⟨.Z_POL, 3, 1⟩, ⟨.Z_GATE, 4, 1⟩]⟩,
  ⟨0x2071, 0x1, 1, 1, 8, 4, .rw, false, false, .sub, [⟨.ENC_N, 0, 4⟩, ⟨.ENC_CLK, 4, 2⟩, ⟨.SW_N, 8, 4⟩, ⟨.SW_CLK, 12, 2⟩, ⟨.SD_N, 16, 4⟩, ⟨.SD_CLK, 20, 2⟩]⟩,
  ⟨0x2072, 0x1, 1, 1, 8, 2, .rw, false, false, .sub, [⟨.SPD_WIN, 0, 4⟩, ⟨.STILL_WINDOWS, 8, 8⟩]⟩,
  ⟨0x2073, 0x1, 1, 1, 8, 1, .rw, false, false, .sub, [⟨.ILLEGAL_LIMIT, 0, 8⟩]⟩,
  ⟨0x2074, 0x1, 1, 1, 8, 4, .rw, false, false, .sub, [⟨.ENC_RATIO, 0, 32⟩]⟩,
  ⟨0x2075, 0x1, 1, 1, 8, 6, .rw, false, false, .sub, [⟨.ENC_POS, 0, 48⟩]⟩,
  ⟨0x2076, 0x1, 1, 1, 8, 6, .rw, false, false, .sub, [⟨.FB_SOFTLIM_LO, 0, 48⟩]⟩,
  ⟨0x2077, 0x1, 1, 1, 8, 6, .rw, false, false, .sub, [⟨.FB_SOFTLIM_HI, 0, 48⟩]⟩,
  ⟨0x2078, 0x1, 1, 1, 8, 4, .ro, false, true, .sub, [⟨.ENC_SPEED, 0, 32⟩]⟩,
  ⟨0x2079, 0x1, 1, 1, 8, 4, .ro, false, false, .sub, [⟨.FB_STAT, 0, 11⟩, ⟨.FB_FLAGS, 16, 5⟩]⟩,
  ⟨0x207A, 0x1, 1, 1, 8, 2, .rw, false, false, .sub, [⟨.ILLEGAL_COUNT, 0, 16⟩]⟩,
  ⟨0x207B, 0x1, 1, 1, 8, 1, .wo, false, false, .sub, [⟨.ENC_FAULT_CLR, 0, 1⟩, ⟨.ENC_ALIGN, 1, 1⟩, ⟨.CAP_ARM, 2, 1⟩]⟩,
  ⟨0x207C, 0x1, 1, 1, 8, 2, .rw, false, false, .sub, [⟨.CAP_Z, 0, 1⟩, ⟨.CAP_HOME, 1, 2⟩, ⟨.CAP_LIMN, 3, 2⟩, ⟨.CAP_LIMP, 5, 2⟩, ⟨.CAP_ONESHOT, 7, 1⟩, ⟨.CAP_TRIGO, 8, 4⟩, ⟨.CAP_SEGTRIG, 12, 1⟩]⟩,
  ⟨0x207D, 0x1, 1, 1, 8, 2, .rw, false, false, .sub, [⟨.ALIGN_MS, 0, 10⟩]⟩,
  ⟨0x2080, 0x1, 1, 0, 1, 8, .wo, false, false, .one, [⟨.CS_T, 0, 64⟩]⟩,
  ⟨0x2081, 0x1, 1, 0, 1, 1, .ro, false, false, .one, [⟨.CS_PEND, 0, 1⟩, ⟨.CS_REJ, 1, 1⟩, ⟨.CS_LOST, 2, 1⟩, ⟨.CS_DONE, 3, 1⟩]⟩,
  ⟨0x2082, 0x1, 1, 0, 1, 1, .wo, false, false, .one, [⟨.CS_CANCEL, 0, 1⟩]⟩,
  ⟨0x2100, 0x1, 1, 1, 34, 1, .rw, false, false, .sub, [⟨.SNS_EN, 0, 1⟩, ⟨.TH_TABLE, 1, 1⟩]⟩,
  ⟨0x2101, 0x1, 1, 1, 34, 2, .rw, true, false, .sub, [⟨.T_LIM, 0, 16⟩]⟩,
  ⟨0x2102, 0x1, 1, 1, 34, 1, .rw, true, false, .sub, [⟨.THM_AXES, 0, 8⟩]⟩,
  ⟨0x2103, 0x1, 1, 1, 34, 4, .rw, false, false, .sub, [⟨.NB0, 0, 6⟩, ⟨.NB1, 8, 6⟩, ⟨.NB2, 16, 6⟩]⟩,
  ⟨0x2104, 0x1, 1, 1, 34, 12, .rw, false, false, .sub, [⟨.NB_LO0, 0, 16⟩, ⟨.NB_HI0, 16, 16⟩, ⟨.NB_LO1, 32, 16⟩, ⟨.NB_HI1, 48, 16⟩, ⟨.NB_LO2, 64, 16⟩, ⟨.NB_HI2, 80, 16⟩]⟩]

def objRows2 : List ObjRow := [
  ⟨0x2105, 0x1, 1, 1, 34, 1, .rw, false, false, .sub, [⟨.RATE_MAX, 0, 8⟩]⟩,
  ⟨0x2106, 0x1, 1, 1, 34, 2, .ro, false, true, .sub, [⟨.TEMP, 0, 16⟩]⟩,
  ⟨0x2107, 0x1, 1, 1, 34, 4, .ro, false, false, .sub, [⟨.SNS_STATE, 0, 3⟩, ⟨.SCAN_RATE, 4, 2⟩, ⟨.LAST_CAUSE, 8, 3⟩, ⟨.FAIL_SEEN, 12, 1⟩, ⟨.TH_TAB_REJ, 13, 1⟩, ⟨.THM_PARAM_REJ, 14, 1⟩, ⟨.FAIL_CNT, 16, 16⟩]⟩,
  ⟨0x2108, 0x1, 1, 1, 8, 2, .rw, false, false, .sub, [⟨.TD_ETA, 0, 13⟩]⟩,
  ⟨0x2109, 0x1, 1, 1, 8, 6, .rw, false, false, .sub, [⟨.TH_BETA, 0, 16⟩, ⟨.TH_R25, 16, 16⟩, ⟨.TH_RPU, 32, 16⟩]⟩,
  ⟨0x2110, 0x1, 1, 1, 1, 1, .rw, false, false, .one, [⟨.NEAR_BAND, 0, 6⟩]⟩,
  ⟨0x2110, 0x1, 1, 2, 1, 1, .rw, false, false, .one, [⟨.CLOSE_BAND, 0, 6⟩]⟩,
  ⟨0x2110, 0x1, 1, 3, 1, 2, .rw, false, false, .one, [⟨.THR_INTERVAL, 0, 10⟩]⟩,
  ⟨0x2110, 0x1, 1, 4, 1, 1, .rw, true, false, .one, [⟨.THR_FLOOR, 0, 4⟩]⟩,
  ⟨0x2110, 0x1, 1, 5, 1, 2, .rw, false, false, .one, [⟨.THR_HOLD, 0, 10⟩]⟩,
  ⟨0x2111, 0x1, 1, 1, 8, 4, .ro, false, false, .sub, [⟨.THR_STEP, 0, 5⟩, ⟨.THR_FROZEN, 8, 1⟩, ⟨.THR_HOLDING, 9, 1⟩, ⟨.THR_AT_FLOOR, 10, 1⟩, ⟨.THR_SEEN, 12, 1⟩, ⟨.THR_LIMIT, 16, 16⟩]⟩,
  ⟨0x2112, 0x1, 1, 1, 1, 2, .rw, true, false, .one, [⟨.GD_BUDGET, 0, 12⟩]⟩,
  ⟨0x2112, 0x1, 1, 2, 1, 2, .ro, false, false, .one, [⟨.GD_EST, 0, 16⟩]⟩,
  ⟨0x2112, 0x1, 1, 3, 1, 1, .ro, false, false, .one, [⟨.BUDGET_ACT, 0, 1⟩, ⟨.BUDGET_OVER, 1, 1⟩]⟩,
  ⟨0x2113, 0x1, 1, 1, 32, 2, .rw, false, false, .sub, [⟨.QG_NC, 0, 9⟩]⟩,
  ⟨0x2200, 0x1, 1, 1, 18, 2, .ro, false, false, .sub, [⟨.CONV_STATE, 0, 3⟩, ⟨.CONV_EPOCH, 4, 4⟩, ⟨.STRIKES, 8, 2⟩]⟩,
  ⟨0x2201, 0x1, 1, 1, 18, 4, .ro, false, false, .sub, [⟨.CAL_OFS, 0, 16⟩, ⟨.CAL_GAIN, 16, 16⟩]⟩,
  ⟨0x2202, 0x1, 1, 1, 18, 1, .wo, false, false, .sub, [⟨.CAL_START, 0, 1⟩]⟩,
  ⟨0x2203, 0x1, 1, 0, 1, 4, .rw, false, false, .one, [⟨.CHECK_TOL, 0, 10⟩, ⟨.AADC_CHECK_TOL, 16, 16⟩]⟩,
  ⟨0x2204, 0x1, 1, 0, 1, 2, .rw, false, false, .one, [⟨.CAL_INTERVAL, 0, 12⟩]⟩,
  ⟨0x2205, 0x1, 1, 1, 16, 1, .rw, false, false, .sub, [⟨.Q8_DECIM, 0, 8⟩]⟩,
  ⟨0x2206, 0x1, 1, 1, 64, 2, .rw, false, false, .sub, [⟨.CH_EN, 0, 1⟩, ⟨.CH_COPY, 1, 1⟩, ⟨.FMT, 2, 2⟩, ⟨.AVG_N, 4, 4⟩, ⟨.SHIFT, 8, 4⟩, ⟨.DIFF, 12, 1⟩]⟩,
  ⟨0x2207, 0x1, 1, 1, 64, 2, .ro, false, true, .sub, [⟨.CH_VAL, 0, 16⟩]⟩,
  ⟨0x2208, 0x1, 1, 1, 1, 1, .rw, false, false, .one, [⟨.SYSCAL_CH, 0, 7⟩]⟩,
  ⟨0x2208, 0x1, 1, 2, 1, 2, .rw, false, false, .one, [⟨.SYSCAL_TARGET, 0, 16⟩]⟩,
  ⟨0x2208, 0x1, 1, 4, 1, 1, .ro, false, false, .one, [⟨.SYSCAL_REJ, 0, 1⟩, ⟨.SYSCAL_WHY, 4, 4⟩]⟩,
  ⟨0x2300, 0x1, 1, 0, 1, 1, .ro, false, true, .one, [⟨.RED_LOST, 0, 5⟩]⟩,
  ⟨0x2301, 0x1, 1, 1, 1, 2, .rw, false, false, .one, [⟨.ABSORBED, 0, 16⟩]⟩,
  ⟨0x2301, 0x1, 1, 2, 1, 2, .rw, false, false, .one, [⟨.STALE_DROP, 0, 16⟩]⟩,
  ⟨0x2301, 0x1, 1, 3, 1, 2, .rw, false, false, .one, [⟨.ECC_CORR, 0, 16⟩]⟩,
  ⟨0x2301, 0x1, 1, 4, 1, 2, .rw, false, false, .one, [⟨.ECC_UNCORR, 0, 16⟩]⟩,
  ⟨0x2301, 0x1, 1, 5, 1, 2, .rw, false, false, .one, [⟨.STRIP_RUN, 0, 16⟩]⟩,
  ⟨0x2301, 0x1, 1, 6, 1, 2, .rw, false, false, .one, [⟨.STRIP_MISMATCH, 0, 16⟩]⟩,
  ⟨0x2301, 0x1, 1, 7, 1, 2, .rw, false, false, .one, [⟨.VOTE_SPLIT, 0, 16⟩]⟩,
  ⟨0x2301, 0x1, 1, 8, 1, 2, .rw, false, false, .one, [⟨.MIGRATIONS, 0, 16⟩]⟩,
  ⟨0x2301, 0x1, 1, 9, 1, 2, .rw, false, false, .one, [⟨.COLD_TAKE, 0, 16⟩]⟩,
  ⟨0x2301, 0x1, 1, 10, 1, 2, .rw, false, false, .one, [⟨.ENG_DEAD, 0, 16⟩]⟩,
  ⟨0x2301, 0x1, 1, 11, 1, 2, .rw, false, false, .one, [⟨.SEQ_RESTARTS, 0, 16⟩]⟩,
  ⟨0x2301, 0x1, 1, 12, 1, 2, .rw, false, false, .one, [⟨.SEQ_WD_CNT, 0, 16⟩]⟩,
  ⟨0x2301, 0x1, 1, 13, 1, 2, .rw, false, false, .one, [⟨.DOM_RESTARTS, 0, 16⟩]⟩]

def objRows3 : List ObjRow := [
  ⟨0x2301, 0x1, 1, 14, 1, 2, .rw, false, false, .one, [⟨.CAN_LOSS, 0, 16⟩]⟩,
  ⟨0x2302, 0x1, 1, 0, 1, 2, .rw, true, false, .one, [⟨.STRIP_INT, 0, 10⟩]⟩,
  ⟨0x2303, 0x1, 1, 0, 1, 4, .ro, false, false, .one, [⟨.DEAD_MAP, 0, 10⟩, ⟨.VOTE_LOST_MAP, 16, 10⟩]⟩,
  ⟨0x2305, 0x1, 1, 0, 1, 1, .ro, false, false, .one, [⟨.SEQ_NOPATCH, 0, 1⟩]⟩,
  ⟨0x2310, 0x1, 1, 1, 1, 1, .rw, false, false, .one, [⟨.CAN_RED, 0, 8⟩]⟩,
  ⟨0x2310, 0x1, 1, 2, 1, 1, .rw, false, false, .one, [⟨.RED_WIN, 0, 8⟩]⟩,
  ⟨0x2310, 0x1, 1, 3, 1, 2, .rw, false, false, .one, [⟨.CAN_SILENT, 0, 16⟩]⟩,
  ⟨0x2310, 0x1, 1, 4, 1, 1, .ro, false, false, .one, [⟨.CAN_LOST, 0, 2⟩]⟩,
  ⟨0x2310, 0x1, 1, 5, 1, 2, .rw, false, false, .one, [⟨.RED_DUP, 0, 16⟩]⟩,
  ⟨0x2310, 0x1, 1, 6, 1, 2, .rw, false, false, .one, [⟨.RED_DIFF, 0, 16⟩]⟩,
  ⟨0x2400, 0x1, 1, 1, 1, 1, .rw, false, false, .one, [⟨.LINK_EN, 0, 1⟩]⟩,
  ⟨0x2400, 0x1, 1, 2, 1, 1, .rw, false, false, .one, [⟨.RING_EXPECT, 0, 6⟩]⟩,
  ⟨0x2400, 0x1, 1, 3, 1, 1, .rw, true, false, .one, [⟨.FENCE_ACTION, 0, 1⟩]⟩,
  ⟨0x2400, 0x1, 1, 4, 1, 4, .ro, false, false, .one, [⟨.LINK_STATE, 0, 3⟩, ⟨.RING_POS, 3, 5⟩, ⟨.RING_SIZE, 8, 6⟩, ⟨.OWN_EPOCH, 16, 4⟩, ⟨.LANE_OK, 20, 4⟩, ⟨.LINK_FLAGS, 24, 5⟩]⟩,
  ⟨0x2401, 0x1, 1, 1, 8, 1, .rw, false, false, .sub, [⟨.AX_DN, 0, 2⟩, ⟨.AX_UP, 4, 2⟩]⟩,
  ⟨0x2402, 0x1, 1, 0, 1, 8, .ro, false, false, .one, [⟨.RING_OFS, 0, 64⟩]⟩,
  ⟨0x2403, 0x1, 1, 1, 32, 2, .ro, false, false, .sub, [⟨.DEV_STATE, 0, 3⟩, ⟨.DEV_EPOCH, 4, 4⟩, ⟨.DEV_LANES, 8, 2⟩]⟩,
  ⟨0x2410, 0x1, 1, 1, 8, 1, .rw, false, false, .sub, [⟨.ACC_MEMB, 0, 8⟩]⟩,
  ⟨0x2411, 0x1, 1, 1, 8, 1, .rw, false, false, .sub, [⟨.ACC_MODE, 0, 1⟩]⟩,
  ⟨0x2412, 0x1, 1, 1, 8, 2, .rw, false, false, .sub, [⟨.ACC_LEAD, 0, 16⟩]⟩,
  ⟨0x2413, 0x1, 1, 1, 8, 8, .wo, false, false, .sub, [⟨.ACC_GO_T, 0, 64⟩]⟩,
  ⟨0x2414, 0x1, 1, 1, 8, 32, .rw, false, false, .sub, [⟨.ACC_RING_MEMB, 0, 256⟩]⟩,
  ⟨0x2415, 0x1, 1, 1, 8, 1, .rw, false, false, .sub, [⟨.ACC_RING, 0, 1⟩]⟩,
  ⟨0x2420, 0x1, 1, 1, 1, 1, .rw, false, false, .one, [⟨.TUNNEL_DEV, 0, 8⟩]⟩,
  ⟨0x2420, 0x1, 1, 2, 1, 4, .rw, false, false, .one, [⟨.TUNNEL_OBJ, 0, 32⟩]⟩,
  ⟨0x2500, 0x1, 1, 1, 1, 2, .ro, false, false, .one, [⟨.CLAIMED, 0, 1⟩, ⟨.SESS_OPEN, 1, 1⟩, ⟨.SESS_ROLE, 2, 2⟩, ⟨.SESS_PATH, 4, 2⟩, ⟨.SAFE_BOOT, 8, 1⟩]⟩,
  ⟨0x2500, 0x1, 1, 2, 1, 4, .ro, false, false, .one, [⟨.SVC_HOURS, 0, 32⟩]⟩,
  ⟨0x2500, 0x1, 1, 3, 1, 2, .ro, false, false, .one, [⟨.CLAIM_CNT, 0, 16⟩]⟩,
  ⟨0x2500, 0x1, 1, 4, 1, 1, .ro, false, false, .one, [⟨.LAST_REFUSAL, 0, 8⟩]⟩,
  ⟨0x2500, 0x1, 1, 5, 1, 2, .rw, false, false, .one, [⟨.REFUSALS, 0, 16⟩]⟩,
  ⟨0x2504, 0x1, 1, 1, 1, 2, .ro, false, false, .one, [⟨.PATCH_LEVEL, 0, 16⟩]⟩,
  ⟨0x2504, 0x1, 1, 2, 1, 2, .ro, false, false, .one, [⟨.ROLLBACK_MIN, 0, 16⟩]⟩,
  ⟨0x2505, 0x1, 1, 1, 1, 4, .ro, false, false, .one, [⟨.REV_SEQ, 0, 32⟩]⟩,
  ⟨0x2505, 0x1, 1, 2, 1, 4, .ro, false, false, .one, [⟨.REVOKE_BELOW, 0, 32⟩]⟩,
  ⟨0x2510, 0x1, 1, 0, 1, 2, .rw, true, false, .one, [⟨.SESS_IDLE, 0, 16⟩]⟩,
  ⟨0x2600, 0x1, 1, 2, 1, 4, .ro, false, false, .one, [⟨.PROF_ACTIVE, 0, 3⟩, ⟨.PROF_TARGET, 4, 3⟩, ⟨.PROF_SWITCHING, 7, 1⟩, ⟨.PROF_WAIT, 8, 8⟩, ⟨.PROF_VALID, 16, 4⟩]⟩,
  ⟨0x2802, 0x100, 8, 0, 1, 1, .ro, false, false, .slot, [⟨.SEG_STATE, 0, 4⟩]⟩,
  ⟨0x2803, 0x100, 8, 0, 1, 2, .ro, false, false, .slot, [⟨.SEG_AHEAD, 0, 16⟩]⟩,
  ⟨0x2804, 0x100, 8, 1, 1, 4, .rw, false, false, .slot, [⟨.TOL_WINDOW, 0, 32⟩]⟩,
  ⟨0x2804, 0x100, 8, 2, 1, 1, .rw, false, false, .slot, [⟨.TOL_ACTION, 0, 2⟩]⟩]

def objRows4 : List ObjRow := [
  ⟨0x2804, 0x100, 8, 3, 1, 1, .rw, false, false, .slot, [⟨.TRIG_SEL, 0, 3⟩]⟩,
  ⟨0x2804, 0x100, 8, 4, 1, 1, .rw, false, false, .slot, [⟨.TRIG_WIDTH, 0, 8⟩]⟩,
  ⟨0x2804, 0x100, 8, 5, 1, 4, .rw, false, false, .slot, [⟨.SEG_VMAX, 0, 32⟩]⟩,
  ⟨0x2804, 0x100, 8, 6, 1, 2, .rw, false, false, .slot, [⟨.SYNC_TIMEOUT, 0, 16⟩]⟩,
  ⟨0x2804, 0x100, 8, 7, 1, 2, .rw, false, false, .slot, [⟨.SEG_AHEAD_WM, 0, 16⟩]⟩,
  ⟨0x2805, 0x100, 8, 0, 1, 1, .wo, false, false, .slot, [⟨.SEG_RESTART, 0, 1⟩]⟩,
  ⟨0x2806, 0x100, 8, 0, 1, 4, .ro, false, false, .slot, [⟨.LAST_REJ_CAUSE, 0, 8⟩, ⟨.LAST_REJ_PTR, 8, 15⟩]⟩,
  ⟨0x2807, 0x100, 8, 1, 1, 2, .rw, false, false, .slot, [⟨.SEG_DONE, 0, 16⟩]⟩,
  ⟨0x2807, 0x100, 8, 2, 1, 2, .rw, false, false, .slot, [⟨.SEG_REJ, 0, 16⟩]⟩,
  ⟨0x2807, 0x100, 8, 3, 1, 2, .rw, false, false, .slot, [⟨.SEG_DISCARD, 0, 16⟩]⟩,
  ⟨0x2807, 0x100, 8, 4, 1, 2, .rw, false, false, .slot, [⟨.SEG_STRETCH, 0, 16⟩]⟩,
  ⟨0x2808, 0x100, 8, 1, 1, 6, .rw, true, false, .slot, [⟨.SOFTLIM_LO, 0, 48⟩]⟩,
  ⟨0x2808, 0x100, 8, 2, 1, 6, .rw, true, false, .slot, [⟨.SOFTLIM_HI, 0, 48⟩]⟩,
  ⟨0x2810, 0x100, 8, 1, 1, 4, .rw, false, false, .slot, [⟨.STOP_DEC, 0, 32⟩]⟩,
  ⟨0x2810, 0x100, 8, 2, 1, 4, .rw, false, false, .slot, [⟨.LIMIT_DEC, 0, 32⟩]⟩,
  ⟨0x2810, 0x100, 8, 3, 1, 1, .rw, false, false, .slot, [⟨.CS_MISS_MAX, 0, 4⟩]⟩,
  ⟨0x2810, 0x100, 8, 4, 1, 4, .rw, false, false, .slot, [⟨.CS_RESUME_WIN, 0, 32⟩]⟩,
  ⟨0x2811, 0x100, 8, 0, 1, 2, .ro, false, false, .slot, [⟨.PLAN_STATE, 0, 3⟩, ⟨.STOP_CAUSE, 4, 4⟩, ⟨.ACCEL_DEFERRED, 8, 1⟩, ⟨.TARGET_CLAMPED, 9, 1⟩, ⟨.LIM_N_HIT, 10, 1⟩, ⟨.LIM_P_HIT, 11, 1⟩, ⟨.LIM_BOTH, 12, 1⟩, ⟨.CS_VCLAMP, 13, 1⟩, ⟨.CSV_ACC_CLAMP, 14, 1⟩, ⟨.STEP_LAG, 15, 1⟩]⟩,
  ⟨0x2812, 0x100, 8, 0, 1, 2, .rw, false, false, .slot, [⟨.LIMN_EN, 0, 1⟩, ⟨.LIMP_EN, 1, 1⟩, ⟨.HOME_EN, 2, 1⟩, ⟨.LIMN_POL, 4, 1⟩, ⟨.LIMP_POL, 5, 1⟩, ⟨.HOME_POL, 6, 1⟩, ⟨.LIM_SWAP, 8, 1⟩]⟩,
  ⟨0x2820, 0x100, 8, 1, 1, 1, .rw, false, false, .slot, [⟨.CHATTER_MAX, 0, 8⟩]⟩,
  ⟨0x2820, 0x100, 8, 2, 1, 4, .rw, false, false, .slot, [⟨.HOME_DIST_MAX, 0, 32⟩]⟩,
  ⟨0x2820, 0x100, 8, 3, 1, 4, .rw, false, false, .slot, [⟨.HOME_IDX_MAX, 0, 32⟩]⟩,
  ⟨0x2820, 0x100, 8, 4, 1, 2, .rw, false, false, .slot, [⟨.HS_CURRENT, 0, 16⟩]⟩,
  ⟨0x2820, 0x100, 8, 5, 1, 4, .rw, false, false, .slot, [⟨.HS_BACKOFF, 0, 32⟩]⟩,
  ⟨0x2820, 0x100, 8, 6, 1, 1, .rw, false, false, .slot, [⟨.HS_DIR, 0, 1⟩]⟩,
  ⟨0x2820, 0x100, 8, 7, 1, 1, .rw, false, false, .slot, [⟨.HOME_MOVE_BACK, 0, 1⟩]⟩,
  ⟨0x2821, 0x100, 8, 0, 1, 4, .ro, false, false, .slot, [⟨.HOME_STATE, 0, 3⟩, ⟨.HOME_FAIL, 8, 8⟩, ⟨.HOMED, 16, 1⟩, ⟨.HOME_EDGES, 24, 8⟩]⟩,
  ⟨0x2822, 0x100, 8, 0, 1, 6, .ro, false, false, .slot, [⟨.HOME_LATCH, 0, 48⟩]⟩,
  ⟨0x2830, 0x100, 8, 1, 1, 2, .rw, false, false, .slot, [⟨.SF_SCALE, 0, 11⟩]⟩,
  ⟨0x2830, 0x100, 8, 2, 1, 1, .rw, false, false, .slot, [⟨.SF_SMOOTH, 0, 4⟩]⟩,
  ⟨0x2830, 0x100, 8, 3, 1, 4, .rw, false, false, .slot, [⟨.SF_LAG_MAX, 0, 32⟩]⟩,
  ⟨0x2830, 0x100, 8, 4, 1, 1, .rw, false, false, .slot, [⟨.SF_EDGE, 0, 1⟩, ⟨.SF_DIR_INV, 1, 1⟩]⟩,
  ⟨0x2831, 0x100, 8, 0, 1, 4, .ro, false, true, .slot, [⟨.SF_COUNT, 0, 32⟩]⟩,
  ⟨0x2832, 0x100, 8, 0, 1, 1, .wo, false, false, .slot, [⟨.SF_RESTART, 0, 1⟩]⟩,
  ⟨0x2840, 0x100, 8, 1, 1, 1, .rw, true, false, .slot, [⟨.TIA_RANGE, 0, 2⟩]⟩,
  ⟨0x2840, 0x100, 8, 2, 1, 2, .rw, true, false, .slot, [⟨.SENSE_RATIO, 0, 16⟩]⟩,
  ⟨0x2840, 0x100, 8, 3, 1, 2, .ro, false, false, .slot, [⟨.IFS_MA, 0, 16⟩]⟩,
  ⟨0x2841, 0x100, 8, 1, 1, 2, .rw, true, false, .slot, [⟨.CUR_LIMIT, 0, 16⟩]⟩,
  ⟨0x2841, 0x100, 8, 2, 1, 2, .rw, false, false, .slot, [⟨.RUN_CURRENT, 0, 16⟩]⟩,
  ⟨0x2841, 0x100, 8, 3, 1, 2, .rw, false, false, .slot, [⟨.HOLD_CURRENT, 0, 16⟩]⟩]

def objRows5 : List ObjRow := [
  ⟨0x2841, 0x100, 8, 4, 1, 2, .rw, false, false, .slot, [⟨.HOLD_DELAY, 0, 16⟩]⟩,
  ⟨0x2841, 0x100, 8, 5, 1, 2, .rw, false, false, .slot, [⟨.HOLD_RAMP, 0, 16⟩]⟩,
  ⟨0x2842, 0x100, 8, 1, 1, 2, .rw, false, false, .slot, [⟨.CUR_BLANK, 0, 9⟩]⟩,
  ⟨0x2842, 0x100, 8, 2, 1, 2, .rw, false, false, .slot, [⟨.T_SAMPLE, 0, 10⟩]⟩,
  ⟨0x2842, 0x100, 8, 3, 1, 1, .rw, false, false, .slot, [⟨.WIN_ILK, 0, 8⟩]⟩,
  ⟨0x2842, 0x100, 8, 4, 1, 1, .rw, false, false, .slot, [⟨.HD_WIN_EVERY, 0, 5⟩]⟩,
  ⟨0x2843, 0x100, 8, 1, 1, 2, .rw, false, false, .slot, [⟨.CR_GAIN, 0, 16⟩]⟩,
  ⟨0x2843, 0x100, 8, 2, 1, 2, .rw, false, false, .slot, [⟨.CR_KI, 0, 16⟩]⟩,
  ⟨0x2843, 0x100, 8, 3, 1, 1, .rw, false, false, .slot, [⟨.NOSAMPLE_MAX, 0, 8⟩]⟩,
  ⟨0x2843, 0x100, 8, 4, 1, 2, .rw, false, false, .slot, [⟨.SUM_TOL, 0, 16⟩]⟩,
  ⟨0x2843, 0x100, 8, 5, 1, 2, .rw, false, false, .slot, [⟨.WIND_R_NOM, 0, 16⟩]⟩,
  ⟨0x2843, 0x100, 8, 6, 1, 2, .rw, false, false, .slot, [⟨.WIND_L_NOM, 0, 16⟩]⟩,
  ⟨0x2844, 0x100, 8, 1, 1, 2, .rw, false, false, .slot, [⟨.HARM3_AMP, 0, 16⟩]⟩,
  ⟨0x2844, 0x100, 8, 2, 1, 2, .rw, false, false, .slot, [⟨.HARM3_PH, 0, 16⟩]⟩,
  ⟨0x2844, 0x100, 8, 3, 1, 2, .rw, false, false, .slot, [⟨.HARM5_AMP, 0, 16⟩]⟩,
  ⟨0x2844, 0x100, 8, 4, 1, 2, .rw, false, false, .slot, [⟨.HARM5_PH, 0, 16⟩]⟩,
  ⟨0x2845, 0x100, 8, 1, 1, 1, .rw, false, false, .slot, [⟨.ADAPT_EN, 0, 1⟩]⟩,
  ⟨0x2845, 0x100, 8, 2, 1, 1, .rw, false, false, .slot, [⟨.RES_TARGET, 0, 8⟩]⟩,
  ⟨0x2845, 0x100, 8, 3, 1, 1, .rw, false, false, .slot, [⟨.RES_BAND, 0, 6⟩]⟩,
  ⟨0x2845, 0x100, 8, 4, 1, 2, .rw, false, false, .slot, [⟨.ADAPT_FLOOR, 0, 16⟩]⟩,
  ⟨0x2846, 0x100, 8, 1, 1, 2, .rw, false, false, .slot, [⟨.BL_KP, 0, 16⟩]⟩,
  ⟨0x2846, 0x100, 8, 2, 1, 2, .rw, false, false, .slot, [⟨.BL_KI, 0, 16⟩]⟩,
  ⟨0x2846, 0x100, 8, 3, 1, 2, .rw, false, false, .slot, [⟨.HALL_OFS, 0, 13⟩, ⟨.HALL_INV, 15, 1⟩]⟩,
  ⟨0x2847, 0x100, 8, 1, 1, 2, .ro, false, true, .slot, [⟨.CUR_MEAS_0, 0, 16⟩]⟩,
  ⟨0x2847, 0x100, 8, 2, 1, 2, .ro, false, true, .slot, [⟨.CUR_MEAS_1, 0, 16⟩]⟩,
  ⟨0x2847, 0x100, 8, 3, 1, 2, .ro, false, true, .slot, [⟨.CUR_MEAS_2, 0, 16⟩]⟩,
  ⟨0x2847, 0x100, 8, 4, 1, 2, .ro, false, true, .slot, [⟨.CUR_AMP, 0, 16⟩]⟩,
  ⟨0x2847, 0x100, 8, 5, 1, 2, .ro, false, false, .slot, [⟨.REG_STAT, 0, 6⟩, ⟨.VOLT_SAT, 8, 1⟩, ⟨.WIN_REJ, 9, 1⟩, ⟨.SUM_ERR, 10, 1⟩, ⟨.OPEN_WIND, 11, 1⟩, ⟨.SENSE_LOST, 12, 1⟩, ⟨.CUR_PARAM_REJ, 13, 1⟩]⟩,
  ⟨0x2847, 0x100, 8, 6, 1, 2, .ro, false, false, .slot, [⟨.VBUS_FF, 0, 16⟩]⟩,
  ⟨0x2850, 0x100, 8, 1, 1, 2, .rw, false, false, .slot, [⟨.STALL_ANGLE, 0, 15⟩]⟩,
  ⟨0x2850, 0x100, 8, 2, 1, 2, .rw, false, false, .slot, [⟨.STALL_COUNT, 0, 12⟩]⟩,
  ⟨0x2850, 0x100, 8, 3, 1, 1, .rw, false, false, .slot, [⟨.STALL_ACTION, 0, 2⟩]⟩,
  ⟨0x2850, 0x100, 8, 4, 1, 2, .rw, false, false, .slot, [⟨.EMF_COLLAPSE, 0, 16⟩]⟩,
  ⟨0x2851, 0x100, 8, 1, 1, 4, .rw, false, false, .slot, [⟨.OBS_VLOW, 0, 32⟩]⟩,
  ⟨0x2851, 0x100, 8, 2, 1, 1, .rw, false, false, .slot, [⟨.INJ_EN, 0, 1⟩, ⟨.INJ_STILL, 1, 1⟩, ⟨.OBS_USE_ENC, 2, 1⟩]⟩,
  ⟨0x2851, 0x100, 8, 3, 1, 2, .rw, false, false, .slot, [⟨.INJ_VOLT, 0, 14⟩]⟩,
  ⟨0x2851, 0x100, 8, 4, 1, 1, .rw, false, false, .slot, [⟨.SAL_MIN, 0, 6⟩]⟩,
  ⟨0x2852, 0x100, 8, 1, 1, 2, .rw, false, false, .slot, [⟨.PROBE_DELTA, 0, 16⟩]⟩,
  ⟨0x2852, 0x100, 8, 2, 1, 2, .rw, false, false, .slot, [⟨.PROBE_INT, 0, 12⟩]⟩,
  ⟨0x2853, 0x100, 8, 1, 1, 2, .ro, false, true, .slot, [⟨.LOAD_ANGLE, 0, 16⟩]⟩]

def objRows6 : List ObjRow := [
  ⟨0x2853, 0x100, 8, 2, 1, 1, .ro, false, true, .slot, [⟨.RESERVE, 0, 8⟩]⟩,
  ⟨0x2853, 0x100, 8, 3, 1, 4, .ro, false, false, .slot, [⟨.OBS_MODE, 0, 3⟩, ⟨.OBS_STAT, 8, 8⟩, ⟨.STALL, 16, 1⟩, ⟨.SAL_LOW, 17, 1⟩, ⟨.R_RANGE, 18, 1⟩, ⟨.PROBE_ABORT, 19, 1⟩, ⟨.VW_CAL_REJ, 20, 1⟩, ⟨.OBS_PARAM_REJ, 21, 1⟩]⟩,
  ⟨0x2853, 0x100, 8, 4, 1, 2, .ro, false, false, .slot, [⟨.R_EST, 0, 16⟩]⟩,
  ⟨0x2853, 0x100, 8, 5, 1, 2, .ro, false, false, .slot, [⟨.L_EST, 0, 16⟩]⟩,
  ⟨0x2853, 0x100, 8, 6, 1, 2, .ro, false, false, .slot, [⟨.KE_EST, 0, 16⟩]⟩,
  ⟨0x2853, 0x100, 8, 7, 1, 2, .ro, false, false, .slot, [⟨.SALIENCY, 0, 16⟩]⟩,
  ⟨0x2853, 0x100, 8, 8, 1, 2, .rw, false, false, .slot, [⟨.STALL_CNT, 0, 16⟩]⟩,
  ⟨0x2854, 0x100, 8, 0, 1, 6, .ro, false, true, .slot, [⟨.POS_EST, 0, 48⟩]⟩,
  ⟨0x2855, 0x100, 8, 1, 1, 2, .ro, false, true, .slot, [⟨.VW_TEMP, 0, 16⟩]⟩,
  ⟨0x2855, 0x100, 8, 2, 1, 2, .ro, false, false, .slot, [⟨.VW_STATE, 0, 2⟩, ⟨.VW_UNCAL, 2, 1⟩, ⟨.VW_AGE, 8, 8⟩]⟩,
  ⟨0x2855, 0x100, 8, 3, 1, 2, .rw, true, false, .slot, [⟨.VW_R25, 0, 16⟩]⟩,
  ⟨0x2855, 0x100, 8, 4, 1, 2, .rw, false, false, .slot, [⟨.VW_MAXAGE, 0, 10⟩]⟩,
  ⟨0x2855, 0x100, 8, 5, 1, 2, .rw, false, false, .slot, [⟨.VW_CAL_TREF, 0, 16⟩]⟩,
  ⟨0x2860, 0x100, 8, 1, 1, 1, .rw, true, false, .slot, [⟨.RIDE_THROUGH, 0, 1⟩]⟩,
  ⟨0x2860, 0x100, 8, 2, 1, 1, .rw, true, false, .slot, [⟨.SB_END, 0, 1⟩]⟩,
  ⟨0x2860, 0x100, 8, 3, 1, 2, .rw, true, false, .slot, [⟨.SB_STILL, 0, 16⟩]⟩,
  ⟨0x2860, 0x100, 8, 4, 1, 2, .ro, false, false, .slot, [⟨.SB_STATE, 0, 2⟩, ⟨.SB_SCOPE, 4, 2⟩, ⟨.SB_CAUSE, 8, 8⟩]⟩,
  ⟨0x5000, 0x1, 1, 0, 1, 4, .rw, false, false, .one, [⟨.REG_WIN_ADDR, 0, 32⟩]⟩,
  ⟨0x5002, 0x1, 1, 0, 1, 1, .rw, false, false, .one, [⟨.REG_WIN_CTRL, 0, 8⟩]⟩,
  ⟨0x5004, 0x1, 1, 0, 1, 2, .rw, false, false, .one, [⟨.REG_WIN_COUNT, 0, 16⟩]⟩,
  ⟨0x5005, 0x1, 1, 0, 1, 1, .ro, false, false, .one, [⟨.REG_WIN_STAT, 0, 8⟩]⟩,
  ⟨0x6007, 0x800, 8, 0, 1, 2, .rw, false, false, .slot, [⟨.ABORT_OPTION, 0, 16⟩]⟩,
  ⟨0x605A, 0x800, 8, 0, 1, 2, .rw, false, false, .slot, [⟨.QSTOP_OPTION, 0, 16⟩]⟩,
  ⟨0x605B, 0x800, 8, 0, 1, 2, .rw, false, false, .slot, [⟨.SHUTDOWN_OPTION, 0, 16⟩]⟩,
  ⟨0x605C, 0x800, 8, 0, 1, 2, .rw, false, false, .slot, [⟨.DISABLE_OPTION, 0, 16⟩]⟩,
  ⟨0x605D, 0x800, 8, 0, 1, 2, .rw, false, false, .slot, [⟨.HALT_OPTION, 0, 16⟩]⟩,
  ⟨0x6061, 0x800, 8, 0, 1, 1, .ro, false, true, .slot, [⟨.MODE_DISP, 0, 8⟩]⟩,
  ⟨0x6063, 0x800, 8, 0, 1, 4, .ro, false, true, .slot, [⟨.ENC_POS, 0, 32⟩]⟩,
  ⟨0x6065, 0x800, 8, 0, 1, 4, .rw, false, false, .slot, [⟨.FE_LIMIT, 0, 32⟩]⟩,
  ⟨0x6066, 0x800, 8, 0, 1, 2, .rw, false, false, .slot, [⟨.FE_TIME, 0, 16⟩]⟩,
  ⟨0x6067, 0x800, 8, 0, 1, 4, .rw, false, false, .slot, [⟨.POS_WINDOW, 0, 32⟩]⟩,
  ⟨0x6068, 0x800, 8, 0, 1, 2, .rw, false, false, .slot, [⟨.POS_WINDOW_TIME, 0, 16⟩]⟩,
  ⟨0x606D, 0x800, 8, 0, 1, 4, .rw, false, false, .slot, [⟨.VEL_WINDOW, 0, 32⟩]⟩,
  ⟨0x606E, 0x800, 8, 0, 1, 2, .rw, false, false, .slot, [⟨.VEL_WINDOW_TIME, 0, 16⟩]⟩,
  ⟨0x607A, 0x800, 8, 0, 1, 4, .rw, false, true, .slot, [⟨.TARGET_POS, 0, 32⟩]⟩,
  ⟨0x607C, 0x800, 8, 0, 1, 4, .rw, false, false, .slot, [⟨.HOME_OFFSET, 0, 32⟩]⟩,
  ⟨0x607F, 0x800, 8, 0, 1, 4, .rw, false, false, .slot, [⟨.MAX_PROFILE_VEL, 0, 32⟩]⟩,
  ⟨0x6081, 0x800, 8, 0, 1, 4, .rw, false, false, .slot, [⟨.PROFILE_VEL, 0, 32⟩]⟩,
  ⟨0x6083, 0x800, 8, 0, 1, 4, .rw, false, false, .slot, [⟨.PROFILE_ACC, 0, 32⟩]⟩,
  ⟨0x6084, 0x800, 8, 0, 1, 4, .rw, false, false, .slot, [⟨.PROFILE_DEC, 0, 32⟩]⟩]

def objRows7 : List ObjRow := [
  ⟨0x6085, 0x800, 8, 0, 1, 4, .rw, false, false, .slot, [⟨.QUICK_STOP_DEC, 0, 32⟩]⟩,
  ⟨0x6086, 0x800, 8, 0, 1, 2, .rw, false, false, .slot, [⟨.PROFILE_TYPE, 0, 16⟩]⟩,
  ⟨0x6098, 0x800, 8, 0, 1, 1, .rw, false, false, .slot, [⟨.HOMING_METHOD, 0, 8⟩]⟩,
  ⟨0x6099, 0x800, 8, 1, 1, 4, .rw, false, false, .slot, [⟨.HOMING_SPEED_SW, 0, 32⟩]⟩,
  ⟨0x6099, 0x800, 8, 2, 1, 4, .rw, false, false, .slot, [⟨.HOMING_SPEED_ZERO, 0, 32⟩]⟩,
  ⟨0x609A, 0x800, 8, 0, 1, 4, .rw, false, false, .slot, [⟨.HOMING_ACC, 0, 32⟩]⟩,
  ⟨0x60A4, 0x800, 8, 1, 1, 4, .rw, false, false, .slot, [⟨.PROFILE_JERK, 0, 32⟩]⟩,
  ⟨0x60C0, 0x800, 8, 0, 1, 2, .rw, false, false, .slot, [⟨.IP_SUBMODE, 0, 16⟩]⟩,
  ⟨0x60C1, 0x800, 8, 1, 1, 4, .rw, false, true, .slot, [⟨.IP_TARGET, 0, 32⟩]⟩,
  ⟨0x60C2, 0x800, 8, 1, 1, 1, .rw, false, false, .slot, [⟨.IP_PERIOD, 0, 8⟩]⟩,
  ⟨0x60C2, 0x800, 8, 2, 1, 1, .rw, false, false, .slot, [⟨.IP_INDEX, 0, 8⟩]⟩,
  ⟨0x60C5, 0x800, 8, 0, 1, 4, .rw, false, false, .slot, [⟨.MAX_ACC, 0, 32⟩]⟩,
  ⟨0x60F4, 0x800, 8, 0, 1, 4, .ro, false, true, .slot, [⟨.FE, 0, 32⟩]⟩,
  ⟨0x60FF, 0x800, 8, 0, 1, 4, .rw, false, true, .slot, [⟨.TARGET_VEL, 0, 32⟩]⟩]

def objRows : List ObjRow := objRows0 ++ objRows1 ++ objRows2 ++ objRows3 ++ objRows4 ++ objRows5 ++ objRows6 ++ objRows7

end Sys2Proof.Machine
end

