-- ==== Sys2Proof/Config.lean ====
section
/-! DEFINITION. What the manual leaves open: free values, as constants without a body. Nothing can be proved
about their values, so every statement holds whatever they are (log entries 3 and 4). -/

namespace Sys2Proof.Config

/-- A fresh unconstrained value: the model applies it to a counter that every use advances. -/
opaque freeValue : Nat → Nat

/-- Which way a quotient that is not exact rounds where the manual states no rounding: `true` up. Applied to
numerator and denominator. -/
opaque roundsUp : Int → Int → Bool

/-- Random bits drawn by the true random source of the crypto helper, by draw number (R459). -/
opaque randomBytes : Nat → List Nat

/-- The identity key's private part, as random bytes drawn at final test (R449). -/
opaque identitySecret : List Nat

/-- What a key agreement yields where the peer's bytes spell no point of the curve, which the manual does not say (R459). -/
opaque noPointSecret : List Nat → List Nat → List Nat

/-- The angle of a vector of no length, in 1/65536 turn, and the logarithm of a ratio with a 0, in 1/65536: values no formula of
the manual states (R216, R355). -/
opaque angleOfZero : Int
opaque lnOfZero : Nat → Nat → Int

/-- Identity burnt at final test: serial number and factory signature (R449). -/
opaque serialNumber : Nat
opaque factorySignature : List Nat

/-- The device's certificate request, and the offsets at which the key and identity store keeps the private key (R46,
R449): the manual gives neither the bytes of the one nor the place of the other. -/
opaque certificateRequest : List Nat
opaque privateKeyAt : Nat → Bool

/-- The public keys of Limuo that the mask ROM holds: for patches and for factory use. -/
opaque limuoKey : List Nat

/-- A word of a flash area whose inner layout the manual does not give: first address of the area, what it
holds, and offset (R46). -/
opaque flashWord : Nat → List Nat → Nat → Nat

/-- How far a half-wave's responses along and across the injected axis, in µA, correct the rotor angle, in 1/65536 turn, on an
axis injected along or across the rotor: the manual gives only that the response across is proportional to the sine of twice
the error (R220). -/
opaque injectCorrection : Bool → Int → Int → Int

/-- Check sums of the link frames, of which the manual gives no polynomial (R396): width and bytes. -/
opaque linkCrc : Nat → List Nat → Nat

/-- One step of a first-order filter whose discrete form the manual does not give (R236): old value, new value,
elapsed ticks and time constant in ticks. -/
opaque firstOrder : Int → Int → Nat → Nat → Int

/-- The code of a session's end in the event and in the log: the manual names the causes and gives no codes (R463,
R466, R469). Applied to the cause, in the order of R463. -/
opaque endReason : Nat → Nat

/-- The RESULT code in the log of a refusal that is no security refusal: the manual logs it and gives no code (R385,
R477, R481). Applied to the index of the object refused. -/
opaque otherRefusal : Nat → Nat

/-- The message that carries a tunnelled access to a worker: the manual gives its 32 bytes no inner layout (R405).
Applied to index and sub, whether it writes, and the bytes. -/
opaque tunnelMessage : Nat → Bool → List Nat → Nat

end Sys2Proof.Config
end

