-- ==== Sys2Proof/Machine/Operands.lean ====
section
/-! DEFINITION. Bit fields, signed formats, saturation and byte order (R17, R18, R21, R87), used by every family. -/

namespace Sys2Proof.Machine

/-- Bit `k` of a word. -/
def bit (v k : Nat) : Bool := v.testBit k

/-- Bits `[lo + width - 1 : lo]` of a word. -/
def bits (v lo width : Nat) : Nat := v / 2 ^ lo % 2 ^ width

/-- A truth value as a one-bit field. -/
def b2n (b : Bool) : Nat := if b then 1 else 0

/-- Truncation to a width. -/
def trunc (width v : Nat) : Nat := v % 2 ^ width

/-- The two's complement reading of a `width`-bit word (R18). -/
def toSigned (width v : Nat) : Int :=
  if v % 2 ^ width < 2 ^ (width - 1) then (v % 2 ^ width : Nat) else (v % 2 ^ width : Nat) - (2 ^ width : Nat)

/-- The `width`-bit two's complement word of an integer. -/
def ofSigned (width : Nat) (z : Int) : Nat := (z % (2 ^ width : Nat)).toNat

/-- Saturation of an integer to a range. -/
def clampI (lo hi z : Int) : Int := if z < lo then lo else if hi < z then hi else z

/-- Saturation to the signed range of a width. -/
def satSigned (width : Nat) (z : Int) : Int := clampI (-(2 ^ (width - 1) : Nat)) ((2 ^ (width - 1) : Nat) - 1) z

/-- Replacement of bits `[lo + width - 1 : lo]` of `v` by the low bits of `x`. -/
def setBits (v lo width x : Nat) : Nat :=
  v % 2 ^ lo + x % 2 ^ width * 2 ^ lo + v / 2 ^ (lo + width) * 2 ^ (lo + width)

/-- Bitwise merge: each bit of `new` where `mask` is 1, of `old` elsewhere (R21, R78). -/
def mergeMask (old new mask : Nat) : Nat := (old ^^^ ((old ^^^ new) &&& mask))

/-- Setting bit `k` of a word to a truth value. -/
def setBit (v k : Nat) (b : Bool) : Nat := setBits v k 1 (b2n b)

/-- Little-endian value of a list of bytes (R87). -/
def leVal : List Nat → Nat
  | [] => 0
  | b :: t => b % 256 + 256 * leVal t

/-- The `n` little-endian bytes of a value. -/
def leBytes : Nat → Nat → List Nat
  | 0, _ => []
  | n + 1, v => v % 256 :: leBytes n (v / 256)

/-- The first `n` instance numbers for which `p` holds. -/
def idsWhere (n : Nat) (p : Nat → Bool) : List Nat := (List.range n).filter p

/-- The word with bit `k` set exactly for the `k < n` for which `p` holds. -/
def maskOf (n : Nat) (p : Nat → Bool) : Nat :=
  (List.range n).foldl (fun a k => if p k then a + 2 ^ k else a) 0

/-- The number of bits set among the low `n`. -/
def popCount (n v : Nat) : Nat := (idsWhere n (bit v)).length

/-- Absolute value of an integer, as a natural number. -/
def absN (z : Int) : Nat := z.natAbs

/-- Sign of an integer: -1, 0 or 1. -/
def sgn (z : Int) : Int := z.sign

end Sys2Proof.Machine
end

