-- ==== Sys2Proof/Machine/State.lean ====
section
/-! DEFINITION. The whole state of the device as plain data, and the state after reset. -/

namespace Sys2Proof.Machine

/-- Values that differ from their reset value, by key, keys strictly rising. The key of instance `i` of a
named value is given in Ops. -/
abbrev RegFile := List (Nat × Nat)

/-- SRAM bytes that differ from the value an unlisted byte reads as (zero, log entry 5), addresses rising. -/
abbrev Memory := List Host.Cell

/-- Shape of a segment (R108). -/
inductive Shape where
  | hermite | linear | hold
deriving DecidableEq, Repr

/-- A segment as the evaluator holds it (R109, R116): positions in 1/65536 µstep, velocities in
1/65536 of 1/64 µstep/s, times in ticks. -/
structure Seg where
  /-- queue pointer of the entry; 0 for an internal segment -/
  ptr : Nat
  start : Nat
  span : Nat
  p0 : Int
  v0 : Int
  p1 : Int
  v1 : Int
  shape : Shape
  evt : Bool
  trig : Bool
  sync : Bool
  capt : Bool
  last : Bool
  tol : Bool
  acc : Nat
deriving DecidableEq, Repr

/-- One phase of a plan: its internal segment and the planner state it shows (R143, R144). -/
structure Phase where
  seg : Seg
  st : Nat
deriving DecidableEq, Repr

/-- An armed tolerance latch (R132): end tick, end position in µsteps, and the actual position once taken. -/
structure TolLatch where
  endTick : Nat
  endPos : Int
  actual : Option Int
deriving DecidableEq, Repr

/-- The start actions a segment has armed in the timebase island (R120). -/
structure Arming where
  slot : Nat
  instant : Nat
  tSeg : Nat
  ptr : Nat
  segDone : Nat
  evt : Bool
  trig : Bool
  capt : Bool
deriving DecidableEq, Repr

/-- What one slot's engine holds of its motion beside its registers. -/
structure Motion where
  /-- running segment of the stream -/
  cur : Option Seg
  /-- accepted segments that have not started -/
  accepted : List Seg
  /-- phases of the plan still to run, the running one first -/
  plan : List Phase
  /-- phases that have run, the last one first, for curve positions at earlier ticks (R165) -/
  past : List Seg
  /-- segments of a cyclic or interpolated chain, the running one first -/
  chain : List Seg
  /-- pulse positions of the last evaluation instants, newest first (R174) -/
  pulses : List Int
  /-- armed tolerance latches, the oldest first (R132) -/
  tol : List TolLatch
deriving DecidableEq, Repr

/-- A message the device has sent, as its receiver sees it. -/
structure Message where
  /-- where it went: 0 CAN0, 1 CAN1, 2 USB, 3 link lane A, 4 link lane B, 5 host SPI -/
  port : Nat
  /-- COB-ID, or the frame type on the other ports -/
  id : Nat
  data : List Nat
deriving DecidableEq, Repr

/-- One entry of the audit log (R465). -/
structure AuditEntry where
  seq : Nat
  hours : Nat
  timeMs : Nat
  kind : Nat
  result : Nat
  merged : Nat
  actor : Nat
  subject : Nat
  value : Nat
  /-- H, the full hash whose first four bytes the entry holds -/
  chain : List Nat
deriving DecidableEq, Repr

/-- A value for an object: of an overlay, a staged write or a script (R452, R453, R462). -/
structure ObjEntry where
  index : Nat
  sub : Nat
  value : List Nat
deriving DecidableEq, Repr

/-- One profile area of flash (R452, R453). -/
structure ProfileArea where
  /-- the stored image, empty when the area is -/
  image : List Nat
  sealedOverlay : List ObjEntry
  openOverlay : List ObjEntry
  /-- script commands armed and not yet run -/
  armed : List ObjEntry
  /-- the image has been stored and its script has not yet armed -/
  fresh : Bool
  /-- the image has changed since it was loaded -/
  changed : Bool
deriving DecidableEq, Repr

/-- A pending SESS_HELLO (R459). -/
structure Challenge where
  path : Nat
  nonce : List Nat
  secret : List Nat
  point : List Nat
  token : List Nat
  tick : Nat
deriving DecidableEq, Repr

/-- An image or patch in upload (R454, R464). -/
structure Upload where
  patch : Bool
  area : Nat
  length : Nat
  bytes : List Nat
deriving DecidableEq, Repr

/-- A frame taken from one bus of a redundant node, for as long as its duplicate may come (R388). -/
structure SeenFrame where
  bus : Nat
  id : Nat
  data : List Nat
  tick : Nat
deriving DecidableEq, Repr

/-- What final test and the mask ROM give a device: its serial number, the identity key's private part, the factory signature over
both, and the public key that signs patches (R449, R464). No command changes them. -/
structure Identity where
  serial : Nat
  secret : List Nat
  factorySignature : List Nat
  patchKey : List Nat
deriving DecidableEq, Repr

/-- What the key and identity store, the profile areas and the open session hold beside the registers. -/
structure Security where
  identity : Identity
  profiles : List ProfileArea
  /-- the two halves of the patch area -/
  patches : List (List Nat)
  ownerHash : List Nat
  revoked : List Nat
  upload : Option Upload
  challenge : Option Challenge
  /-- token and key of the open session -/
  token : List Nat
  key : List Nat
  staged : List ObjEntry
  /-- values of a profile switch that have not yet developed -/
  switching : List ObjEntry
deriving DecidableEq, Repr

/-- The whole device. -/
structure State where
  /-- the 64-bit time-stamp (R64) -/
  ts : Nat
  /-- register fields, object values and hidden scalars; of a latent field, the latent copy -/
  regs : RegFile
  /-- developed copies of latent fields (R83) -/
  dev : RegFile
  /-- the RC copies as of the last status tick (R64) -/
  rc : RegFile
  /-- read and write shadows of the two access paths (R80 to R82) -/
  spiRead : RegFile
  winRead : RegFile
  spiWrite : RegFile
  winWrite : RegFile
  /-- SRAM (R43) -/
  mem : Memory
  /-- word addresses that hold a double-bit error (R44) -/
  eccBad : List Nat
  /-- the eight slots' motion -/
  motion : List Motion
  /-- counter history of the eight feedback channels: tick of a change and the count before it, newest first (R305) -/
  encHist : List (List (Nat × Int))
  /-- armed segment start actions -/
  armed : List Arming
  /-- messages sent, oldest first -/
  tx : List Message
  /-- words or bytes the last access answered with -/
  answer : List Nat
  /-- EMCY messages that wait for the inhibit time or for the sequencer, oldest first -/
  emcyQ : List (List Nat)
  /-- the audit log in flash, oldest first -/
  audit : List AuditEntry
  sec : Security
  /-- bytes of partial Xomor frames, by path (R437) -/
  rx : List (List Nat)
  /-- responses that wait to be read, by path -/
  resp : List (List (List Nat))
  /-- response frames that wait for room in Q15: path and bytes (R443) -/
  outWait : List (Nat × List Nat)
  /-- frames whose duplicate may still come (R388) -/
  canSeen : List SeenFrame
  /-- uses of the free value so far (the model's own field) -/
  freeCount : Nat
  /-- commands waiting, first in, first out -/
  pending : List Instr
deriving DecidableEq, Repr

/-- No segment runs and none waits. -/
def Motion.initial : Motion := ⟨none, [], [], [], [], [], []⟩

/-- An empty profile area. -/
def ProfileArea.empty : ProfileArea := ⟨[], [], [], [], false, false⟩

/-- The store of a device as it is shipped: unclaimed, with no profile and no patch (R450). -/
def Security.initial : Security :=
  ⟨⟨Config.serialNumber, Config.identitySecret, Config.factorySignature, Config.limuoKey⟩, List.replicate 4 ProfileArea.empty, [[], []], [], [], none, none, [], [], [], []⟩

/-- The device right after reset (R476, R478): every register at its reset value, nothing listed in memory, no
entry in any queue, and a flash as shipped. -/
def State.reset : State :=
  { ts := 0, regs := [], dev := [], rc := [], spiRead := [], winRead := [], spiWrite := [], winWrite := [],
    mem := [], eccBad := [], motion := List.replicate 8 Motion.initial, encHist := List.replicate 8 [],
    armed := [], tx := [], answer := [], emcyQ := [], audit := [], sec := Security.initial,
    rx := List.replicate 3 [], resp := List.replicate 3 [], outWait := [], canSeen := [], freeCount := 0,
    pending := [] }

/-- Why a step can stop with a fault: never in this model. No command of the manual stops the device, and the
device has no fault entry; the constructor is raised by nothing (safe). -/
inductive Fault where
  | none
deriving DecidableEq, Repr

/-- Why a command has no meaning in the model. -/
inductive Refusal where
  /-- Raised by a dispatch arm whose command has no meaning yet; it names the command (safe). -/
  | notModelled (mnemonic : String)
deriving DecidableEq, Repr

end Sys2Proof.Machine
end

