-- ==== Sys2Proof/Machine/Ops.lean ====
section
/-! DEFINITION. The named operations on registers, memory, queues, events, the audit log and sent messages. -/

namespace Sys2Proof.Machine

/-! ## Register files -/

/-- The key of instance `i` of a value in a register file: different values and instances have different keys. -/
def Reg.key (r : Reg) (i : Nat) : Nat := i * 2048 + r.ctorIdx

def RegFile.find : RegFile → Nat → Option Nat
  | [], _ => none
  | (k', v) :: t, k => if k' = k then some v else RegFile.find t k

def RegFile.insert : RegFile → Nat → Nat → RegFile
  | [], k, v => [(k, v)]
  | (k', v') :: t, k, v =>
    if k < k' then (k, v) :: (k', v') :: t
    else if k' = k then (k, v) :: t
    else (k', v') :: RegFile.insert t k v

def RegFile.erase : RegFile → Nat → RegFile
  | [], _ => []
  | (k', v') :: t, k => if k' = k then RegFile.erase t k else (k', v') :: RegFile.erase t k

/-- The value held, or the reset value where none differs from it. -/
def RegFile.get (f : RegFile) (r : Reg) (i : Nat) : Nat := (f.find (r.key i)).getD (r.reset i)

/-- Storing a value, truncated to the width of the field; a reset value is not listed. -/
def RegFile.set (f : RegFile) (r : Reg) (i v : Nat) : RegFile :=
  if trunc r.width v = r.reset i then f.erase (r.key i) else f.insert (r.key i) (trunc r.width v)

/-- Keys strictly rising. -/
def RegFile.sorted : RegFile → Bool
  | [] => true
  | [_] => true
  | (k, _) :: (k', v') :: t => decide (k < k') && RegFile.sorted ((k', v') :: t)

/-! ## Registers of the state -/

/-- The value hardware keeps: of a latent field, the latent copy. -/
def State.get (s : State) (r : Reg) (i : Nat) : Nat := s.regs.get r i

def State.put (s : State) (r : Reg) (i v : Nat) : State := { s with regs := s.regs.set r i v }

/-- The developed copy of a latent field. -/
def State.dv (s : State) (r : Reg) (i : Nat) : Nat := s.dev.get r i

def State.putDev (s : State) (r : Reg) (i v : Nat) : State := { s with dev := s.dev.set r i v }

/-- Developing a latent field: the developed copy takes the latent one (R83). -/
def State.develop (s : State) (r : Reg) (i : Nat) : State := s.putDev r i (s.get r i)

def State.developList (s : State) (rs : List Reg) (i : Nat) : State := rs.foldl (fun a r => a.develop r i) s

/-- Both copies at once, for a field set by hardware. -/
def State.putBoth (s : State) (r : Reg) (i v : Nat) : State := (s.put r i v).putDev r i v

def State.flag (s : State) (r : Reg) (i : Nat) : Bool := s.get r i != 0

def State.dflag (s : State) (r : Reg) (i : Nat) : Bool := s.dv r i != 0

/-- Signed readings by the width of the field. -/
def State.geti (s : State) (r : Reg) (i : Nat) : Int := toSigned r.width (s.get r i)

def State.dvi (s : State) (r : Reg) (i : Nat) : Int := toSigned r.width (s.dv r i)

def State.puti (s : State) (r : Reg) (i : Nat) (z : Int) : State := s.put r i (ofSigned r.width z)

/-- A counter that saturates at its width (R20, ACC fields of R24). -/
def State.count (s : State) (r : Reg) (i : Nat) : State := s.put r i (min (s.get r i + 1) (2 ^ r.width - 1))

def State.countN (s : State) (r : Reg) (i n : Nat) : State := s.put r i (min (s.get r i + n) (2 ^ r.width - 1))

/-- A counter that wraps at its width. -/
def State.countWrap (s : State) (r : Reg) (i : Nat) : State := s.put r i (s.get r i + 1)

/-- Setting and clearing one bit of a field. -/
def State.setBit (s : State) (r : Reg) (i k : Nat) (b : Bool) : State := s.put r i (Sys2Proof.Machine.setBit (s.get r i) k b)

def State.getBit (s : State) (r : Reg) (i k : Nat) : Bool := bit (s.get r i) k

/-- A value back at its reset value. -/
def State.clear (s : State) (r : Reg) (i : Nat) : State := s.put r i (r.reset i)

def State.clearAll (s : State) (rs : List Reg) (i : Nat) : State := rs.foldl (fun a r => a.clear r i) s

/-- Running an update for each of the first `n` instances for which a test holds in the state reached so far. -/
def State.each (s : State) (n : Nat) (p : State → Nat → Bool) (f : State → Nat → State) : State :=
  (List.range n).foldl (fun a i => if p a i then f a i else a) s

/-- An update taken only under a condition. -/
def State.onlyIf (s : State) (b : Bool) (f : State → State) : State := if b then f s else s

/-- Every RC copy takes its value (R64). -/
def State.refreshCopies (s : State) : State := { s with rc := s.regs }

/-- The time-stamp never runs backwards (R63): an event at tick `t` moves it to `t` at least (log entry 6). A stopped
timebase keeps it (R62). A status tick passed on the way refreshes the RC copies as it advances TICK_STAMP (R64). -/
def State.atTick (s : State) (t : Nat) : State :=
  if !s.flag .TB_RUNNING 0 then s
  else { (if s.ts / 160 < t / 160 then s.refreshCopies else s) with ts := max s.ts t }

/-- A value the manual leaves free: unconstrained, and a new one at each use (log entry 3). -/
def State.free (s : State) : Nat := Config.freeValue s.freeCount

def State.freed (s : State) : State := { s with freeCount := s.freeCount + 1 }

/-- A quotient rounded in the direction the manual leaves open (log entry 4). -/
def rdiv (n d : Int) : Int :=
  if n % d = 0 then n / d else if Config.roundsUp n d then n / d + 1 else n / d

/-- A square root rounded in the direction the manual leaves open (log entry 4). -/
def rsqrt (n : Nat) : Nat :=
  if Nat.sqrt n * Nat.sqrt n = n then Nat.sqrt n
  else if Config.roundsUp n 0 then Nat.sqrt n + 1 else Nat.sqrt n

/-! ## SRAM -/

def Memory.read : Memory → Nat → Byte
  | [], _ => 0
  | (a', b) :: t, a => if a' = a then b else Memory.read t a

def Memory.insert : Memory → Nat → Byte → Memory
  | [], a, b => [(a, b)]
  | (a', b') :: t, a, b =>
    if a < a' then (a, b) :: (a', b') :: t
    else if a' = a then (a, b) :: t
    else (a', b') :: Memory.insert t a b

def Memory.erase : Memory → Nat → Memory
  | [], _ => []
  | (a', b') :: t, a => if a' = a then Memory.erase t a else (a', b') :: Memory.erase t a

/-- Writing a byte; a zero byte is not listed. -/
def Memory.write (m : Memory) (a : Nat) (b : Byte) : Memory := if b = 0 then m.erase a else m.insert a b

/-- The canonical form: addresses strictly rising, no zero byte listed. -/
def Memory.wf : Memory → Bool
  | [] => true
  | [(_, b)] => decide (b ≠ 0)
  | (a, b) :: (a', b') :: t => decide (b ≠ 0) && decide (a < a') && Memory.wf ((a', b') :: t)

/-- The 32-bit word at an address, little-endian (R107, log entry 7). -/
def Memory.word (m : Memory) (a : Nat) : Nat :=
  (m.read a).toNat + 256 * (m.read (a + 1)).toNat + 65536 * (m.read (a + 2)).toNat + 16777216 * (m.read (a + 3)).toNat

def Memory.setWord (m : Memory) (a w : Nat) : Memory :=
  (((m.write a (BitVec.ofNat 8 w)).write (a + 1) (BitVec.ofNat 8 (w / 256))).write (a + 2)
    (BitVec.ofNat 8 (w / 65536))).write (a + 3) (BitVec.ofNat 8 (w / 16777216))

def State.word (s : State) (a : Nat) : Nat := s.mem.word a

/-- Writing a full word writes its ECC anew (R43, R44), so an uncorrectable word becomes good again. -/
def State.setWord (s : State) (a w : Nat) : State :=
  { s with mem := s.mem.setWord a w, eccBad := s.eccBad.filter (· != a) }

/-- Writing consecutive words. -/
def State.setWords (s : State) (a : Nat) : List Nat → State
  | [] => s
  | w :: t => State.setWords (s.setWord a w) (a + 4) t

def State.words (s : State) (a : Nat) (n : Nat) : List Nat := (List.range n).map fun k => s.word (a + 4 * k)

/-- Whether any of `n` words from `a` holds a double-bit error. -/
def State.eccHit (s : State) (a n : Nat) : Bool := s.eccBad.any fun x => decide (a ≤ x ∧ x < a + 4 * n)

/-- The first word that holds a double-bit error among `n` from `a`. -/
def State.eccFirst (s : State) (a n : Nat) : Nat := ((((List.range n).map (a + 4 * ·)).find? fun x => s.eccBad.contains x)).getD a

/-! ## Queues (R47 to R53) -/

/-- Bytes of one entry (R47). -/
def entryBytes (q : Nat) : Nat := if q < 8 then 16 else if q = 8 ∨ q = 9 ∨ q = 14 ∨ q = 15 then 4 else 16

/-- First address of the queue's region (R48). -/
def queueRegion (q : Nat) : Nat := if q < 8 then 0x440000 else 0x420000

def queueRegionSize (q : Nat) : Nat := if q < 8 then 0x40000 else 0x20000

/-- The developed SIZE in entries. -/
def State.qSize (s : State) (q : Nat) : Nat := 2 ^ s.dv .QSIZE_LOG2 q

/-- The developed base address. -/
def State.qBase (s : State) (q : Nat) : Nat := queueRegion q + 16 * s.dv .QBASE q

/-- The fill: (WR − RD) modulo 2 × SIZE. -/
def State.qFill (s : State) (q : Nat) : Nat :=
  (s.get .QWR q + 2 * s.qSize q - s.get .QRD q) % (2 * s.qSize q)

/-- Address of the entry at pointer `p`. -/
def State.qAddr (s : State) (q p : Nat) : Nat := s.qBase q + p % s.qSize q * entryBytes q

/-- The pointer `k` entries after `p`. -/
def State.qNext (s : State) (q p k : Nat) : Nat := (p + k) % (2 * s.qSize q)

def State.setQLevel (s : State) (q : Nat) : State := s.put .QLEVEL q (s.qFill q)

/-- Queues whose watermark is crossed by a falling fill (R51). -/
def fallingRule (q : Nat) : Bool := decide (q < 8) || q == 13

/-- Whether an entry of Q15 is for host SPI is kept in its path bits (R442); event and watermark of Q11 act on
IRQN alone (R50, R51, R74). A producer's entry written at WR, with WR advanced: no check of room. -/
def State.qPutRaw (s : State) (q : Nat) (ws : List Nat) : State :=
  ((s.setWords (s.qAddr q (s.get .QWR q)) ws).put .QWR q (s.qNext q (s.get .QWR q) 1)).setQLevel q

/-- The epoch field of an event: that of its producer (R37, R40, R54). An engine has its slot's epoch, the queue
controller and the converter sequencer that of FAB, the link, the network and the crypto helper those of their domains, the
sequencer its own; the helpers of AON have none that advances (log entry 70). -/
def State.eventEpoch (s : State) (src slot : Nat) : Nat :=
  if src = 1 then (if slot < 8 then s.get .SLOT_EPOCH slot else 0)
  else if src = 5 ∨ src = 7 then s.get .DOM_EPOCH 1
  else if src = 8 then s.get .DOM_EPOCH 10
  else if src = 9 then s.get .DOM_EPOCH 9
  else if src = 0xA then s.get .DOM_EPOCH 11
  else if src = 0xB then s.get .SEQ_EPOCH 0
  else 0

/-- Words of an event entry (R54). -/
def State.eventWords (s : State) (code src slot arg tstamp : Nat) : List Nat :=
  [trunc 16 code + src % 16 * 2 ^ 16 + slot % 16 * 2 ^ 20 + s.eventEpoch src slot % 16 * 2 ^ 24 + s.get .EVENT_SEQ 0 * 2 ^ 28,
   trunc 32 arg, trunc 32 tstamp, trunc 32 (tstamp / 2 ^ 32)]

/-- Posting an event with a given time-stamp to Q11 (R50, R51, R54). A full Q11 drops the event, counts it and
sets the flag that pulls IRQN low; the sequence number advances either way, so that a gap shows the loss. -/
def State.postAt (s : State) (code src slot arg tstamp : Nat) : State :=
  let ws := s.eventWords code src slot arg tstamp
  let s := s.put .EVENT_SEQ 0 (s.get .EVENT_SEQ 0 + 1)
  if s.qFill 11 = s.qSize 11 then ((s.count .QDROP 11).put .QOVF 11 1).put .Q11_FULL 0 1
  else
    let before := s.qFill 11
    let s := s.qPutRaw 11 ws
    if 0 < s.get .QWMARK 11 ∧ before < s.get .QWMARK 11 ∧ s.get .QWMARK 11 ≤ s.qFill 11 then
      (s.put .QWM_HIT 11 1).put .Q11_WM 0 1
    else s

/-- Posting an event at the present time. -/
def State.post (s : State) (code src slot arg : Nat) : State := s.postAt code src slot arg s.ts

/-- No slot, in the SLOT field of an event (R54). -/
def noSlot : Nat := 15

/-- A crossing of the watermark of a queue other than Q11: the flag and QUEUE_WATERMARK (R51, R501). -/
def State.crossWatermark (s : State) (q : Nat) : State :=
  if q = 11 then (s.put .QWM_HIT 11 1).put .Q11_WM 0 1
  else (s.put .QWM_HIT q 1).post 0x0104 0x7 noSlot (q + s.qFill q * 2 ^ 16)

/-- Judging the watermark after a producer's advance from fill `before` (rising rule of R51). -/
def State.judgeRise (s : State) (q before : Nat) : State :=
  if !fallingRule q && decide (0 < s.get .QWMARK q ∧ before < s.get .QWMARK q ∧ s.get .QWMARK q ≤ s.qFill q) then
    s.crossWatermark q
  else s

/-- Judging the watermark after a consumer's advance from fill `before` (falling rule of R51). -/
def State.judgeFall (s : State) (q before : Nat) : State :=
  if fallingRule q && decide (0 < s.get .QWMARK q ∧ s.get .QWMARK q < before ∧ s.qFill q ≤ s.get .QWMARK q) then
    s.crossWatermark q
  else s

/-- A hardware producer met a full queue (R50): drop, count, QOVF, and QUEUE_OVERFLOW at the first drop. -/
def State.qDrop (s : State) (q : Nat) : State :=
  let first := !s.flag .QOVF q
  let s := (s.count .QDROP q).put .QOVF q 1
  if q = 11 then s.put .Q11_FULL 0 1
  else if first then s.post 0x0103 0x7 noSlot (q + s.get .QDROP q * 2 ^ 16) else s

/-- A hardware producer's entry, or its drop (R50, R51). -/
def State.enqueue (s : State) (q : Nat) (ws : List Nat) : State :=
  if s.qFill q = s.qSize q then s.qDrop q
  else (s.qPutRaw q ws).judgeRise q (s.qFill q)

/-- The consumer's advance of RD to pointer `p`. -/
def State.setRd (s : State) (q p : Nat) : State := ((s.put .QRD q p).setQLevel q).judgeFall q (s.qFill q)

/-- Whether the entry at pointer `p` of a queue holds a double-bit error: such an entry is dropped (R44). -/
def State.qBad (s : State) (q p : Nat) : Bool := s.eccHit (s.qAddr q p) (entryBytes q / 4)

/-- Words of the entry at the head of a queue. -/
def State.qHead (s : State) (q : Nat) : List Nat := s.words (s.qAddr q (s.get .QRD q)) (entryBytes q / 4)

/-- The consumer's RD moves past the head entry. -/
def State.advanceRd (s : State) (q : Nat) : State := s.setRd q (s.qNext q (s.get .QRD q) 1)

/-- Entries at the head that hold a double-bit error are passed over (R44); they were counted when the error was found. The
first argument bounds how many. -/
def State.passBad : Nat → State → Nat → State
  | 0, s, _ => s
  | n + 1, s, q => if s.qFill q ≠ 0 ∧ s.qBad q (s.get .QRD q) then State.passBad n (s.advanceRd q) q else s

/-- A consumer in the device takes the head entry. -/
def State.dequeue (s : State) (q : Nat) : State :=
  if s.qFill q = 0 then s else State.passBad (s.qFill q) (s.advanceRd q) q

/-! ## Messages and answers -/

/-- Sending a message on a port. -/
def State.send (s : State) (port id : Nat) (data : List Nat) : State := { s with tx := s.tx ++ [⟨port, id, data⟩] }

/-- Answering the last access: an abort code (0: none) and the data it returns. -/
def State.reply (s : State) (abort : Nat) (data : List Nat) : State :=
  { s.put .ANS_ABORT 0 abort with answer := data }

/-! ## Motion records -/

def State.mo (s : State) (i : Nat) : Motion := s.motion.getD i Motion.initial

def State.setMo (s : State) (i : Nat) (m : Motion) : State := { s with motion := s.motion.set i m }

end Sys2Proof.Machine
end

