-- ==== Sys2Proof/Machine/Crypto.lean ====
section
/-! DEFINITION. The algorithms the security chapter names, on byte strings: SHA-256, ECDSA and ECDH on P-256, and AES-128-CCM
(R449, R459, R461). The manual names them and gives no text of them; they are those of FIPS 180-4, FIPS 186-4, FIPS 197 and
NIST SP 800-38C (PRESUMED, log entry 101). -/

namespace Sys2Proof.Machine

/-! ## Byte strings -/

/-- Value of a byte string, most significant byte first. -/
def beVal (l : List Nat) : Nat := l.foldl (fun v b => v * 256 + b % 256) 0

/-- The `n` bytes of a value, most significant first. -/
def beBytes (n v : Nat) : List Nat := (leBytes n v).reverse

/-- Groups of `n`, the last one as it is; the first argument bounds their number. -/
def chunks (n : Nat) : Nat → List Nat → List (List Nat)
  | 0, _ => []
  | _, [] => []
  | k + 1, l => l.take n :: chunks n k (l.drop n)

/-! ## SHA-256 -/

def rotr32 (x n : Nat) : Nat := x / 2 ^ n + x % 2 ^ n * 2 ^ (32 - n)

def shaConstants : List Nat :=
  [0x428a2f98, 0x71374491, 0xb5c0fbcf, 0xe9b5dba5, 0x3956c25b, 0x59f111f1, 0x923f82a4, 0xab1c5ed5,
   0xd807aa98, 0x12835b01, 0x243185be, 0x550c7dc3, 0x72be5d74, 0x80deb1fe, 0x9bdc06a7, 0xc19bf174]
  ++ [0xe49b69c1, 0xefbe4786, 0x0fc19dc6, 0x240ca1cc, 0x2de92c6f, 0x4a7484aa, 0x5cb0a9dc, 0x76f988da,
   0x983e5152, 0xa831c66d, 0xb00327c8, 0xbf597fc7, 0xc6e00bf3, 0xd5a79147, 0x06ca6351, 0x14292967]
  ++ [0x27b70a85, 0x2e1b2138, 0x4d2c6dfc, 0x53380d13, 0x650a7354, 0x766a0abb, 0x81c2c92e, 0x92722c85,
   0xa2bfe8a1, 0xa81a664b, 0xc24b8b70, 0xc76c51a3, 0xd192e819, 0xd6990624, 0xf40e3585, 0x106aa070]
  ++ [0x19a4c116, 0x1e376c08, 0x2748774c, 0x34b0bcb5, 0x391c0cb3, 0x4ed8aa4a, 0x5b9cca4f, 0x682e6ff3,
   0x748f82ee, 0x78a5636f, 0x84c87814, 0x8cc70208, 0x90befffa, 0xa4506ceb, 0xbef9a3f7, 0xc67178f2]

def shaStart : List Nat :=
  [0x6a09e667, 0xbb67ae85, 0x3c6ef372, 0xa54ff53a, 0x510e527f, 0x9b05688c, 0x1f83d9ab, 0x5be0cd19]

/-- The next word of the message schedule, from the last sixteen. -/
def shaWord (w : List Nat) : Nat :=
  let a := w.getD 1 0
  let b := w.getD 14 0
  (w.getD 0 0 + (rotr32 a 7 ^^^ rotr32 a 18 ^^^ a / 2 ^ 3) + w.getD 9 0 + (rotr32 b 17 ^^^ rotr32 b 19 ^^^ b / 2 ^ 10)) % 2 ^ 32

/-- One round: constant, word and the eight working variables. -/
def shaRound (k w : Nat) (v : List Nat) : List Nat :=
  let a := v.getD 0 0
  let b := v.getD 1 0
  let c := v.getD 2 0
  let e := v.getD 4 0
  let f := v.getD 5 0
  let g := v.getD 6 0
  let t1 := v.getD 7 0 + (rotr32 e 6 ^^^ rotr32 e 11 ^^^ rotr32 e 25) + ((e &&& f) ^^^ ((0xFFFFFFFF - e) &&& g)) + k + w
  let t2 := (rotr32 a 2 ^^^ rotr32 a 13 ^^^ rotr32 a 22) + ((a &&& b) ^^^ (a &&& c) ^^^ (b &&& c))
  [(t1 + t2) % 2 ^ 32, a, b, c, (v.getD 3 0 + t1) % 2 ^ 32, e, f, g]

/-- The rounds, with the window of the schedule that begins at the word in use. -/
def shaRounds : List Nat → List Nat → List Nat → List Nat
  | [], _, v => v
  | k :: ks, w, v => shaRounds ks (w.drop 1 ++ [shaWord w]) (shaRound k (w.getD 0 0) v)

def shaBlock (h block : List Nat) : List Nat :=
  let w := (chunks 4 16 block).map beVal
  List.zipWith (fun a b => (a + b) % 2 ^ 32) h (shaRounds shaConstants w h)

/-- The message with its padding: a 1 bit, zeros, and its length in bits. -/
def shaPad (m : List Nat) : List Nat :=
  m ++ [0x80] ++ List.replicate ((119 - m.length % 64) % 64) 0 ++ beBytes 8 (8 * m.length)

/-- SHA-256 of a byte string. -/
def sha256 (m : List Nat) : List Nat :=
  let p := shaPad m
  ((chunks 64 (p.length / 64) p).foldl shaBlock shaStart).flatMap (beBytes 4)

/-! ## P-256 -/

def fieldPrime : Nat := 0xffffffff00000001000000000000000000000000ffffffffffffffffffffffff
def curveOrder : Nat := 0xffffffff00000000ffffffffffffffffbce6faada7179e84f3b9cac2fc632551
def curveB : Nat := 0x5ac635d8aa3a93e7b3ebbd55769886bc651d06b0cc53b0f63bce3c3e27d2604b

/-- Base to the power of an exponent of at most so many bits, modulo `m`. -/
def powMod (m : Nat) : Nat → Nat → Nat → Nat
  | 0, _, _ => 1 % m
  | k + 1, b, e =>
    let r := powMod m k (b * b % m) (e / 2)
    if e % 2 = 1 then r * b % m else r

/-- Inverse modulo a prime. -/
def invMod (m a : Nat) : Nat := powMod m 256 (a % m) (m - 2)

/-- Difference modulo the prime, of reduced values. -/
def subP (a b : Nat) : Nat := (a + fieldPrime - b) % fieldPrime

/-- A point of the curve in Jacobian coordinates; z = 0 is the point at infinity. -/
structure CurvePoint where
  x : Nat
  y : Nat
  z : Nat
deriving DecidableEq, Repr

def infinity : CurvePoint := ⟨1, 1, 0⟩

def basePoint : CurvePoint :=
  ⟨0x6b17d1f2e12c4247f8bce6e563a440f277037d812deb33a0f4a13945d898c296,
   0x4fe342e2fe1a7f9b8ee7eb4a7c0f9e162bce33576b315ececbb6406837bf51f5, 1⟩

def pointDouble (p : CurvePoint) : CurvePoint :=
  let d := p.z * p.z % fieldPrime
  let g := p.y * p.y % fieldPrime
  let b := p.x * g % fieldPrime
  let a := 3 * subP p.x d * (p.x + d) % fieldPrime
  let x := subP (a * a % fieldPrime) (8 * b % fieldPrime)
  ⟨x, subP (a * subP (4 * b % fieldPrime) x % fieldPrime) (8 * g * g % fieldPrime), 2 * p.y * p.z % fieldPrime⟩

def pointAdd (p q : CurvePoint) : CurvePoint :=
  if p.z = 0 then q
  else if q.z = 0 then p
  else
    let zp := p.z * p.z % fieldPrime
    let zq := q.z * q.z % fieldPrime
    let u := p.x * zq % fieldPrime
    let s := p.y * zq * q.z % fieldPrime
    let h := subP (q.x * zp % fieldPrime) u
    let r := subP (q.y * zp * p.z % fieldPrime) s
    if h = 0 then (if r = 0 then pointDouble p else infinity)
    else
      let hh := h * h % fieldPrime
      let hhh := hh * h % fieldPrime
      let v := u * hh % fieldPrime
      let x := subP (subP (r * r % fieldPrime) hhh) (2 * v % fieldPrime)
      ⟨x, subP (r * subP v x % fieldPrime) (s * hhh % fieldPrime), h * p.z * q.z % fieldPrime⟩

/-- A point times a scalar of at most so many bits. -/
def pointMul : Nat → CurvePoint → Nat → CurvePoint
  | 0, _, _ => infinity
  | k + 1, p, e =>
    let r := pointMul k (pointDouble p) (e / 2)
    if e % 2 = 1 then pointAdd r p else r

/-- Affine coordinates. -/
def affineX (p : CurvePoint) : Nat := p.x * powMod fieldPrime 2 (invMod fieldPrime p.z) 2 % fieldPrime

def affineY (p : CurvePoint) : Nat := p.y * powMod fieldPrime 2 (invMod fieldPrime p.z) 3 % fieldPrime

/-- X then Y, 32 bytes each, big-endian (R449). -/
def pointBytes (p : CurvePoint) : List Nat := beBytes 32 (affineX p) ++ beBytes 32 (affineY p)

def onCurve (x y : Nat) : Bool :=
  decide (x < fieldPrime) && decide (y < fieldPrime)
    && y * y % fieldPrime == (x * x * x + (fieldPrime - 3) * x + curveB) % fieldPrime

/-- The point that 64 bytes spell, where they spell one of the curve. -/
def pointOf (key : List Nat) : Option CurvePoint :=
  let x := beVal (key.take 32)
  let y := beVal (key.drop 32)
  if key.length = 64 ∧ onCurve x y then some ⟨x, y, 1⟩ else none

/-- Whether a signature, r then s, over a byte string verifies under a public key (R449). -/
def ecdsaVerifies (key text sig : List Nat) : Bool := match pointOf key with
  | none => false
  | some q =>
    let r := beVal (sig.take 32)
    let s := beVal (sig.drop 32)
    if sig.length ≠ 64 ∨ r = 0 ∨ curveOrder ≤ r ∨ s = 0 ∨ curveOrder ≤ s then false
    else
      let w := invMod curveOrder s
      let e := beVal (sha256 text)
      let p := pointAdd (pointMul 256 basePoint (e * w % curveOrder)) (pointMul 256 q (r * w % curveOrder))
      p.z != 0 && affineX p % curveOrder == r

/-- A private value from random bytes: 1 to the order of the curve less 1. -/
def scalarOf (secret : List Nat) : Nat := beVal secret % (curveOrder - 1) + 1

def publicPoint (secret : List Nat) : List Nat := pointBytes (pointMul 256 basePoint (scalarOf secret))

/-- The x-coordinate of a private value times a public point; for bytes that are no point, a value the manual does not give. -/
def sharedSecret (secret point : List Nat) : List Nat := match pointOf point with
  | some q => beBytes 32 (affineX (pointMul 256 q (scalarOf secret)))
  | none => Config.noPointSecret secret point

/-- The identity key's public part (R449). -/
def State.deviceKey (s : State) : List Nat := publicPoint s.sec.identity.secret

/-- The device's own signature over a byte string, with the nonce of a draw of the random source. -/
def State.deviceSign (s : State) (draw : Nat) (text : List Nat) : List Nat :=
  let k := scalarOf (Config.randomBytes draw)
  let r := affineX (pointMul 256 basePoint k) % curveOrder
  let s := invMod curveOrder k * ((beVal (sha256 text) + r * scalarOf s.sec.identity.secret) % curveOrder) % curveOrder
  beBytes 32 r ++ beBytes 32 s

/-! ## AES-128 -/

/-- Rows of the substitution box, sixteen bytes each. -/
def sboxRows : List (List Nat) :=
  [[0x63, 0x7c, 0x77, 0x7b, 0xf2, 0x6b, 0x6f, 0xc5, 0x30, 0x01, 0x67, 0x2b, 0xfe, 0xd7, 0xab, 0x76],
   [0xca, 0x82, 0xc9, 0x7d, 0xfa, 0x59, 0x47, 0xf0, 0xad, 0xd4, 0xa2, 0xaf, 0x9c, 0xa4, 0x72, 0xc0],
   [0xb7, 0xfd, 0x93, 0x26, 0x36, 0x3f, 0xf7, 0xcc, 0x34, 0xa5, 0xe5, 0xf1, 0x71, 0xd8, 0x31, 0x15],
   [0x04, 0xc7, 0x23, 0xc3, 0x18, 0x96, 0x05, 0x9a, 0x07, 0x12, 0x80, 0xe2, 0xeb, 0x27, 0xb2, 0x75]]
  ++ [[0x09, 0x83, 0x2c, 0x1a, 0x1b, 0x6e, 0x5a, 0xa0, 0x52, 0x3b, 0xd6, 0xb3, 0x29, 0xe3, 0x2f, 0x84],
   [0x53, 0xd1, 0x00, 0xed, 0x20, 0xfc, 0xb1, 0x5b, 0x6a, 0xcb, 0xbe, 0x39, 0x4a, 0x4c, 0x58, 0xcf],
   [0xd0, 0xef, 0xaa, 0xfb, 0x43, 0x4d, 0x33, 0x85, 0x45, 0xf9, 0x02, 0x7f, 0x50, 0x3c, 0x9f, 0xa8],
   [0x51, 0xa3, 0x40, 0x8f, 0x92, 0x9d, 0x38, 0xf5, 0xbc, 0xb6, 0xda, 0x21, 0x10, 0xff, 0xf3, 0xd2]]
  ++ [[0xcd, 0x0c, 0x13, 0xec, 0x5f, 0x97, 0x44, 0x17, 0xc4, 0xa7, 0x7e, 0x3d, 0x64, 0x5d, 0x19, 0x73],
   [0x60, 0x81, 0x4f, 0xdc, 0x22, 0x2a, 0x90, 0x88, 0x46, 0xee, 0xb8, 0x14, 0xde, 0x5e, 0x0b, 0xdb],
   [0xe0, 0x32, 0x3a, 0x0a, 0x49, 0x06, 0x24, 0x5c, 0xc2, 0xd3, 0xac, 0x62, 0x91, 0x95, 0xe4, 0x79],
   [0xe7, 0xc8, 0x37, 0x6d, 0x8d, 0xd5, 0x4e, 0xa9, 0x6c, 0x56, 0xf4, 0xea, 0x65, 0x7a, 0xae, 0x08]]
  ++ [[0xba, 0x78, 0x25, 0x2e, 0x1c, 0xa6, 0xb4, 0xc6, 0xe8, 0xdd, 0x74, 0x1f, 0x4b, 0xbd, 0x8b, 0x8a],
   [0x70, 0x3e, 0xb5, 0x66, 0x48, 0x03, 0xf6, 0x0e, 0x61, 0x35, 0x57, 0xb9, 0x86, 0xc1, 0x1d, 0x9e],
   [0xe1, 0xf8, 0x98, 0x11, 0x69, 0xd9, 0x8e, 0x94, 0x9b, 0x1e, 0x87, 0xe9, 0xce, 0x55, 0x28, 0xdf],
   [0x8c, 0xa1, 0x89, 0x0d, 0xbf, 0xe6, 0x42, 0x68, 0x41, 0x99, 0x2d, 0x0f, 0xb0, 0x54, 0xbb, 0x16]]

def sbox (b : Nat) : Nat := (sboxRows.getD (b / 16) []).getD (b % 16) 0

def xorBytes (a b : List Nat) : List Nat := List.zipWith (· ^^^ ·) a b

/-- Twice a byte in the field of AES. -/
def xtime (b : Nat) : Nat := if b < 128 then 2 * b else (2 * b) ^^^ 0x11B

/-- The next round key, with the round's constant. -/
def nextRoundKey (key : List Nat) (rcon : Nat) : List Nat :=
  let last := key.drop 12
  let t := ((last.drop 1 ++ last.take 1).map sbox).set 0 (sbox (last.getD 1 0) ^^^ rcon)
  let w0 := xorBytes (key.take 4) t
  let w1 := xorBytes ((key.drop 4).take 4) w0
  let w2 := xorBytes ((key.drop 8).take 4) w1
  w0 ++ w1 ++ w2 ++ xorBytes last w2

def shiftRows (b : List Nat) : List Nat :=
  [0, 5, 10, 15, 4, 9, 14, 3, 8, 13, 2, 7, 12, 1, 6, 11].map fun k => b.getD k 0

def mixColumn (c : List Nat) : List Nat :=
  (List.range 4).map fun k =>
    xtime (c.getD k 0) ^^^ xtime (c.getD ((k + 1) % 4) 0) ^^^ c.getD ((k + 1) % 4) 0 ^^^ c.getD ((k + 2) % 4) 0 ^^^ c.getD ((k + 3) % 4) 0

/-- The rounds, each with its constant; the last one mixes no columns. -/
def aesRounds : List Nat → List Nat → List Nat → List Nat
  | [], _, b => b
  | [rcon], key, b => xorBytes (shiftRows (b.map sbox)) (nextRoundKey key rcon)
  | rcon :: rest, key, b =>
    let key := nextRoundKey key rcon
    aesRounds rest key (xorBytes ((chunks 4 4 (shiftRows (b.map sbox))).flatMap mixColumn) key)

/-- AES-128 of one block. -/
def aes128 (key block : List Nat) : List Nat :=
  aesRounds [0x01, 0x02, 0x04, 0x08, 0x10, 0x20, 0x40, 0x80, 0x1B, 0x36] key (xorBytes block key)

/-! ## CCM with a tag of eight bytes and a nonce of thirteen (R461) -/

def padBlock (l : List Nat) : List Nat := l ++ List.replicate ((16 - l.length % 16) % 16) 0

/-- The chained tag over nonce, associated data and text. -/
def ccmMac (key nonce data text : List Nat) : List Nat :=
  let b := ([0x59] ++ nonce ++ beBytes 2 text.length) ++ padBlock (beBytes 2 data.length ++ data) ++ padBlock text
  ((chunks 16 (b.length / 16) b).foldl (fun x y => aes128 key (xorBytes x y)) (List.replicate 16 0)).take 8

/-- Block `n` of the key stream. -/
def ccmStream (key nonce : List Nat) (n : Nat) : List Nat := aes128 key ([0x01] ++ nonce ++ beBytes 2 n)

/-- The text under the key stream, which begins at block 1. -/
def ccmCrypt (key nonce text : List Nat) : List Nat :=
  xorBytes text ((List.range ((text.length + 15) / 16)).flatMap fun k => ccmStream key nonce (k + 1))

/-- AES-128-CCM: the sealed text with its tag. -/
def ccmSeal (key nonce data text : List Nat) : List Nat :=
  ccmCrypt key nonce text ++ xorBytes (ccmMac key nonce data text) (ccmStream key nonce 0)

/-- The opening, `none` where the tag does not verify. -/
def ccmOpen (key nonce data payload : List Nat) : Option (List Nat) :=
  let n := payload.length - 8
  let text := ccmCrypt key nonce (payload.take n)
  if 8 ≤ payload.length ∧ xorBytes (ccmMac key nonce data text) (ccmStream key nonce 0) = payload.drop n then some text else none

end Sys2Proof.Machine
end

