-- ==== Sys2Proof/Machine/Slots.lean ====
section
/-! DEFINITION. Ports, slots, kinds, CiA 402 states and modes as the other families ask for them (R89 to R93, R138, R430). -/

namespace Sys2Proof.Machine

/-- Codes of DRIVE_STATE. -/
def dsSwitchOnDisabled : Nat := 1
def dsReady : Nat := 2
def dsSwitchedOn : Nat := 3
def dsEnabled : Nat := 4
def dsQuickStop : Nat := 5
def dsFaultReaction : Nat := 6
def dsFault : Nat := 7

def State.drive (s : State) (i : Nat) : Nat := s.get .DRIVE_STATE i

def State.opEnabled (s : State) (i : Nat) : Bool := s.drive i == dsEnabled

/-- A slot counts as disabled in any CiA 402 state below Switched on (R96). Fault counts too: its switches are not
driven by the engine (log entry 8). -/
def State.slotDisabled (s : State) (i : Nat) : Bool :=
  s.drive i == dsSwitchOnDisabled || s.drive i == dsReady || s.drive i == dsFault

/-- The developed kind of a slot (R90). -/
def State.kind (s : State) (i : Nat) : Nat := s.dv .SLOT_KIND i

/-- Owner nibble of a role byte (R92). -/
def roleOwner (r : Nat) : Nat := r / 16 % 16

def roleFunc (r : Nat) : Nat := r % 16

def State.portOwner (s : State) (p : Nat) : Nat := roleOwner (s.get .PORT_ROLE_DEV p)

/-- Whether a port is an X-port on the developed map. -/
def State.isX (s : State) (p : Nat) : Bool := s.portOwner p == 0xE

def State.isAxisPort (s : State) (p : Nat) : Bool := decide (s.portOwner p < 8)

/-- The ports of a slot on the developed map, lowest first. -/
def State.slotPorts (s : State) (i : Nat) : List Nat := idsWhere 32 fun p => s.portOwner p == i

def State.firstPort (s : State) (i : Nat) : Nat := (s.slotPorts i).headD 0

/-- The port of a slot with a function code. -/
def State.portOf (s : State) (i f : Nat) : Option Nat := (s.slotPorts i).find? fun p => roleFunc (s.get .PORT_ROLE_DEV p) == f

/-- The banks a slot's ports lie in. -/
def State.slotOnBank (s : State) (i b : Nat) : Bool := (s.slotPorts i).any fun p => p / 8 == b

/-- The PWM period of a slot in ticks (R91). -/
def State.period (s : State) (i : Nat) : Nat := s.get .PERIOD_DEV (s.firstPort i)

/-- The LOAD_ALL group of a slot. -/
def State.slotGroup (s : State) (i : Nat) : Nat := s.dv .GROUP (s.firstPort i)

/-! ## LOAD_ALL groups (R91, R249) -/

def groupOf (s : State) (p : Nat) : Nat := s.dv .GROUP p

def groupPorts (s : State) (g : Nat) : List Nat := idsWhere 32 fun p => groupOf s p == g

/-- Slots with a port in a group, ascending. -/
def groupSlots (s : State) (g : Nat) : List Nat := idsWhere 8 fun i => (s.slotPorts i).any fun p => groupOf s p == g

def State.gn2008 (s : State) : Bool := s.dv .DEV_MODE 0 == 1

/-- The mode in force, as a signed code (R138). -/
def State.modeOf (s : State) (i : Nat) : Int := s.geti .MODE_DISP i

/-- Modes a kind supports (R138); mode 0 is none. -/
def modeSupported (kind : Nat) (m : Int) : Bool :=
  if kind = 1 ∨ kind = 2 then m == 1 || m == 3 || m == 6 || m == 7 || m == 8 || m == 9 || m == -1 || m == -2
  else if kind = 3 then m == 3 || m == 9
  else false

def modeCode (m : Int) : Bool := m == 1 || m == 3 || m == 6 || m == 7 || m == 8 || m == 9 || m == -1 || m == -2

/-- A slot has an encoder: its channel is in quadrature mode and its kind takes one (R90, R322). -/
def State.hasEncoder (s : State) (i : Nat) : Bool := s.kind i != 3 && s.dv .CH_MODE i == 1

/-- The actual position in µsteps (R132): the scaled encoder position, or the estimate of the observer. -/
def State.actualPos (s : State) (i : Nat) : Int :=
  if s.hasEncoder i then s.geti .ACT_POS i else s.geti .POS_EST i

end Sys2Proof.Machine
end

