-- ==== Sys2Proof/Machine/Segment.lean ====
section
/-! DEFINITION. Segments: format, checks at enqueue, the Hermite evaluator, the fetcher and its queue (R107 to R119, R122 to R132). -/

namespace Sys2Proof.Machine

/-! ## Units -/

/-- 1/65536 µstep in one µstep. -/
def usub : Int := 65536

/-- Product of a velocity (1/65536 of 1/64 µstep/s) and a span in ticks over this constant is a distance in
1/65536 µstep: 64 × 160,000,000. -/
def velSpan : Int := 10240000000

def ticksPerSecond : Nat := 160000000

def ticksPerMs : Nat := 160000

def ticksPerUs : Nat := 160

/-- The place nearest to `a` that a position `b` names: positions of GN2008 mode repeat every 2^32 µsteps, and distances are
signed 32-bit differences (R133, R140). -/
def nearest (s : State) (a b : Int) : Int := if s.gn2008 then a + toSigned 48 (ofSigned 48 (b - a)) else b

/-- A whole number of µsteps as a position reads it: 32 bits in GN2008 mode (R133, R241, R313). -/
def wrapPos (s : State) (p : Int) : Int := if s.gn2008 then toSigned 32 (ofSigned 32 p) else p

/-- The difference of two positions in µsteps: a signed 32-bit difference in GN2008 mode (R133, R140). -/
def posDiff (s : State) (a b : Int) : Int := wrapPos s (a - b)

/-! ## The curve (R109, R117, R118) -/

/-- Position of a segment `tau` ticks after its start. -/
def Seg.pos (g : Seg) (tau : Nat) : Int :=
  let t : Int := tau
  let n : Int := g.span
  match g.shape with
  | .hold => g.p0
  | .linear => g.p0 + rdiv ((g.p1 - g.p0) * t) n
  | .hermite =>
    rdiv ((2 * t ^ 3 - 3 * t ^ 2 * n + n ^ 3) * g.p0 * velSpan + (t ^ 3 - 2 * t ^ 2 * n + t * n ^ 2) * n * g.v0
      + (3 * t ^ 2 * n - 2 * t ^ 3) * g.p1 * velSpan + (t ^ 3 - t ^ 2 * n) * n * g.v1) (n ^ 3 * velSpan)

/-- Line velocity of a linear segment (R109). -/
def lineVel (dp : Int) (span : Nat) : Int := rdiv (dp * velSpan) span

/-- Velocity of a segment `tau` ticks after its start. -/
def Seg.vel (g : Seg) (tau : Nat) : Int :=
  let t : Int := tau
  let n : Int := g.span
  match g.shape with
  | .hold => 0
  | .linear => lineVel (g.p1 - g.p0) g.span
  | .hermite =>
    rdiv (6 * (t ^ 2 - t * n) * (g.p0 - g.p1) * velSpan
      + n * ((3 * t ^ 2 - 4 * t * n + n ^ 2) * g.v0 + (3 * t ^ 2 - 2 * t * n) * g.v1)) (n ^ 3)

/-- Acceleration of a Hermite segment in 1/65536 µstep/s² (the text before R117). -/
def Seg.accel (g : Seg) (tau : Nat) : Int :=
  let t : Int := tau
  let n : Int := g.span
  match g.shape with
  | .hermite =>
    -- second derivative in 1/65536 of 1/64 µstep/s per tick, times ticks per second over 64
    rdiv ((6 * (2 * t - n) * (g.p0 - g.p1) * velSpan + n * ((6 * t - 4 * n) * g.v0 + (6 * t - 2 * n) * g.v1)) * 2500000) (n ^ 3)
  | _ => 0

def Seg.endTick (g : Seg) : Nat := g.start + g.span

/-- A segment that starts from a given state (R109): the line velocity and the end of a hold follow from it. -/
def Seg.startingAt (g : Seg) (p v : Int) : Seg := match g.shape with
  | .hermite => { g with p0 := p, v0 := v }
  | .linear => { g with p0 := p, v0 := v, v1 := lineVel (g.p1 - p) g.span }
  | .hold => { g with p0 := p, v0 := v, p1 := p }

/-! ## The entry format (R107, R108) -/

def segFlags (w2 : Nat) : Nat := w2 / 65536 % 65536

def flagShape (f : Nat) : Nat := f % 4

/-- A segment from its four words, from the tail state it follows. The end position of GN2008 mode is word 1
alone, taken as a signed 32-bit difference (R133). -/
def segOfWords (gn : Bool) (ptr : Nat) (tailP tailV : Int) (ws : List Nat) : Seg :=
  let w0 := ws.getD 0 0
  let w1 := ws.getD 1 0
  let w2 := ws.getD 2 0
  let w3 := ws.getD 3 0
  let f := segFlags w2
  let span := 16 * w0
  let dp : Int :=
    if gn then toSigned 32 (ofSigned 32 ((w1 : Int) - tailP / usub)) * usub - tailP % usub
    else toSigned 48 (w1 + w2 % 65536 * 2 ^ 32) * usub - tailP
  let shape : Shape := if flagShape f = 0 then .hermite else if flagShape f = 1 then .linear else .hold
  let p1 := match shape with
    | .hold => tailP
    | _ => tailP + dp
  let v1 := match shape with
    | .hold => 0
    | .linear => lineVel dp span
    | .hermite => toSigned 32 w3 * usub
  { ptr := ptr, start := 0, span := span, p0 := tailP, v0 := tailV, p1 := p1, v1 := v1, shape := shape,
    evt := bit f 2, trig := bit f 3, sync := bit f 4, capt := bit f 5, last := bit f 6, tol := bit f 7, acc := bits f 8 3 }

/-! ## Checks at enqueue (R113) -/

/-- The first cause for which an entry is rejected; 0 when it is accepted. -/
def segCheck (s : State) (i : Nat) (ws : List Nat) (g : Seg) : Nat :=
  let w0 := ws.getD 0 0
  let f := segFlags (ws.getD 2 0)
  if w0 = 0 then 0x01
  else if 16 * w0 < s.period i then 0x02
  else if flagShape f = 3 ∨ bits f 11 5 ≠ 0 then 0x03
  else if g.sync && !s.getBit .ACC_MEMB g.acc i then 0x04
  else if !s.gn2008 && g.shape != .hold
      && decide (g.p1 < s.dvi .SOFTLIM_LO i * usub ∨ s.dvi .SOFTLIM_HI i * usub < g.p1) then 0x05
  else if g.last && g.v1 != 0 then 0x06
  else if (g.shape == .hold || g.sync) && g.v0 != 0 then 0x07
  else if g.shape == .hermite && decide (((s.dv .SEG_VMAX i : Int)) * usub < absN g.v1) then 0x08
  else if g.shape == .linear
      && decide ((s.dv .SEG_VMAX i : Int) * usub * g.span < absN ((g.p1 - g.p0) * velSpan)) then 0x08
  else 0

/-! ## The fetcher -/

def isActive (s : State) (i : Nat) : Bool := s.get .SEG_STATE i != 0

/-- RD follows the first accepted entry that has not started, or the fetcher's place when there is none
(log entry 9). -/
def syncRd (s : State) (i : Nat) : State :=
  let p := match (s.mo i).accepted with
    | g :: _ => g.ptr
    | [] => s.get .FETCH_PTR i
  if p = s.get .QRD i then s else s.setRd i p

/-- What the fetcher hands on for an entry with a double-bit error: a segment of span 0, which every boundary
takes as an empty queue (R44). -/
def badEntry (s : State) (i p : Nat) : Seg :=
  { ptr := p, start := 0, span := 0, p0 := s.geti .TAIL_P i, v0 := s.geti .TAIL_V i, p1 := s.geti .TAIL_P i,
    v1 := s.geti .TAIL_V i, shape := .hold, evt := false, trig := false, sync := false, capt := false,
    last := false, tol := false, acc := 0 }

/-- Takes the entry at the fetcher's place: accepted, rejected (R114), discarded, or unreadable for a
double-bit error (R44). -/
def fetchOne (s : State) (i : Nat) : State :=
  let p := s.get .FETCH_PTR i
  let a := s.qAddr i p
  let s := s.put .FETCH_PTR i (s.qNext i p 1)
  if s.flag .SEG_DISCARDING i then s.count .SEG_DISCARD i
  else if s.eccHit a 4 then
    ((s.setMo i { s.mo i with accepted := (s.mo i).accepted ++ [badEntry s i p] }).count .ECC_UNCORR 0).post
      0x0102 0x0 noSlot (trunc 24 (s.eccFirst a 4))
  else
    let ws := s.words a 4
    let g := segOfWords s.gn2008 p (s.geti .TAIL_P i) (s.geti .TAIL_V i) ws
    let c := segCheck s i ws g
    if c = 0 then
      ((s.setMo i { s.mo i with accepted := (s.mo i).accepted ++ [g] }).puti .TAIL_P i g.p1).puti .TAIL_V i g.v1
    else
      (((((s.put .LAST_REJ_CAUSE i c).put .LAST_REJ_PTR i p).count .SEG_REJ i).post 0x0401 0x7 i (c + p * 256)).count
        .SEG_DISCARD i).put .SEG_DISCARDING i 1

def fetchMany (s : State) (i : Nat) : Nat → State
  | 0 => s
  | n + 1 => fetchMany (fetchOne s i) i n

/-- Checks every entry up to WR while the slot is active (R49, R110). -/
def fetch (s : State) (i : Nat) : State :=
  if isActive s i then
    syncRd (fetchMany s i ((s.get .QWR i + 2 * s.qSize i - s.get .FETCH_PTR i) % (2 * s.qSize i))) i
  else s

/-- Discards the accepted segments that have not started, counting each (R125, R129). -/
def dropAccepted (s : State) (i : Nat) : State :=
  let n := (s.mo i).accepted.length
  syncRd ((s.setMo i { s.mo i with accepted := [] }).countN .SEG_DISCARD i n) i

/-- A broken stream (R114, R123, R125): accepted segments that have not started go, later entries are discarded. -/
def breakStream (s : State) (i : Nat) : State := (dropAccepted s i).put .SEG_DISCARDING i 1

/-- The stream ends when the slot leaves mode −1 or Operation enabled (R111). -/
def leaveSegmentMode (s : State) (i : Nat) : State :=
  if isActive s i then
    let n := (s.mo i).accepted.length +
      (s.get .QWR i + 2 * s.qSize i - s.get .FETCH_PTR i) % (2 * s.qSize i)
    let s := (s.setMo i { s.mo i with accepted := [], cur := none }).countN .SEG_DISCARD i n
    let s := (s.put .FETCH_PTR i (s.get .QWR i)).put .SEG_STATE i 0
    let s := (s.put .SEG_AHEAD i 0).put .SEG_DISCARDING i 0
    let s := s.put .GO_SEEN i 0
    -- ACC_WAITING of every accord loses the slot
    syncRd (s.each 8 (fun _ _ => true) fun a n => a.setBit .ACC_WAITING n i false) i
  else s

/-- The slot becomes active in mode −1 (R110, R126): EMPTY, from the commanded position, and the waiting
entries are checked. -/
def enterSegmentMode (s : State) (i : Nat) : State :=
  let s := ((s.put .SEG_STATE i 1).put .SEG_DISCARDING i 0).puti .TAIL_P i (s.geti .OUT_P i)
  let s := s.puti .TAIL_V i 0
  fetch (s.put .FETCH_PTR i (s.get .QRD i)) i

/-- Entries appended by a producer that has passed its checks (R112); the fetcher checks them. -/
def appendEntries (s : State) (q : Nat) : List (List Nat) → State
  | [] => s
  | ws :: t => appendEntries (fetch (s.qPutRaw q ws) q) q t

def wordsOfBytes : List Nat → List Nat
  | a :: b :: c :: d :: t => leVal [a, b, c, d] :: wordsOfBytes t
  | _ => []

def entriesOf : List Nat → List (List Nat)
  | a :: b :: c :: d :: t => [a, b, c, d] :: entriesOf t
  | _ => []

/-- SEG_WRITE (R112): length, then PRODUCER, then free space. -/
def segWrite (s : State) (i : Nat) (bytes : List Nat) : State :=
  let n := bytes.length
  if n = 0 ∨ 1024 < n ∨ n % 16 ≠ 0 then s.reply 0x06070010 []
  else if s.dv .PRODUCER i ≠ 0 ∨ !s.getBit .DOM_ON 0 3 then s.reply 0x08000022 []
  else if s.qSize i < s.qFill i + n / 16 then s.reply 0x08000020 []
  else (appendEntries s i (entriesOf (wordsOfBytes bytes))).reply 0 []

/-- One entry from the PDO router or the link (R112, R49, R50): refused under another PRODUCER, dropped by a
full queue. -/
def segEnqueueBy (s : State) (i producer : Nat) (ws : List Nat) : State :=
  if !s.getBit .DOM_ON 0 3 then s.qDrop i
  else if s.dv .PRODUCER i ≠ producer then ((s.count .QDROP i).put .QWR_REJ i 1)
  else if s.qFill i = s.qSize i then s.qDrop i
  else appendEntries s i [ws]

/-- SEG_RESTART (R124). Segments that DONE or STARVED has accepted and not started stay accepted. -/
def segRestart (s : State) (i : Nat) : State :=
  let st := s.get .SEG_STATE i
  if st = 7 ∨ st = 5 ∨ st = 4 then
    let s := ((s.puti .TAIL_P i (s.geti .OUT_P i)).puti .TAIL_V i 0).put .SEG_DISCARDING i 0
    s.put .SEG_STATE i 1
  else s.count .CLASH_LOST 0

/-! ## SEG_AHEAD (R115) -/

def segAheadMs (s : State) (i te : Nat) : Nat :=
  if s.get .SEG_STATE i = 2 then
    match (s.mo i).cur with
    | some g => min 65535 (((g.endTick - te) + ((s.mo i).accepted.map Seg.span).foldl (· + ·) 0) / ticksPerMs)
    | none => 0
  else 0

def updateAhead (s : State) (i te : Nat) : State :=
  let ms := segAheadMs s i te
  let s := s.put .SEG_AHEAD i ms
  let wm := s.dv .SEG_AHEAD_WM i
  if s.get .SEG_STATE i ≠ 2 then s.put .AHEAD_ARMED i 1
  else if wm = 0 then s
  else if wm < ms then s.put .AHEAD_ARMED i 1
  else if s.flag .AHEAD_ARMED i then
    ((s.put .AHEAD_ARMED i 0).put .AHEAD_LOW i 1).post 0x040B 0x1 i ms
  else s

end Sys2Proof.Machine
end

