-- ==== Sys2Proof/Machine/Motion.lean ====
section
/-! DEFINITION. The ramp planner, planned stops, the cyclic chain, the follower and the motion update of a slot
(R117, R119 to R132, R138 to R159, R161, R172 to R176). -/

namespace Sys2Proof.Machine

/-! ## Ramps (the text before R142), in µsteps, µstep/s and seconds -/

/-- Square root of a rational to 2^-32, the last step in the direction left open (log entry 4). -/
def sqrtRat (x : Rat) : Rat :=
  if x ≤ 0 then 0 else mkRat (rsqrt (x.num.toNat * x.den * 2 ^ 64)) (x.den * 2 ^ 32)

/-- Duration of a ramp across a change of speed `delta` at rate `r`, jerk `j`. -/
def rampTime (scurve : Bool) (delta r j : Rat) : Rat :=
  if !scurve then delta / r
  else if r * r / j ≤ delta then delta / r + r / j
  else 2 * sqrtRat (delta / j)

/-- Distance of a ramp between the speeds `u` and `w`. -/
def rampDist (scurve : Bool) (u w r j : Rat) : Rat :=
  if !scurve then |w * w - u * u| / (2 * r)
  else (u + w) / 2 * rampTime true |w - u| r j

/-- A velocity of the evaluator in µstep/s. -/
def velRat (v : Int) : Rat := mkRat v (64 * 65536)

def posRat (p : Int) : Rat := mkRat p 65536

/-- Evaluator units, rounded in the direction left open where not exact. -/
def posUnits (x : Rat) : Int := rdiv (x.num * 65536) x.den

def velUnits (x : Rat) : Int := rdiv (x.num * 4194304) x.den

/-- A nominal duration rounded up to a whole tick, at least one (R143). -/
def ticksUp (x : Rat) : Nat := max 1 ((x.num * 160000000 + x.den - 1) / x.den).toNat

def internalSeg (start span : Nat) (p0 v0 p1 v1 : Int) : Seg :=
  { ptr := 0, start := start, span := span, p0 := p0, v0 := v0, p1 := p1, v1 := v1, shape := .hermite, evt := false,
    trig := false, sync := false, capt := false, last := false, tol := false, acc := 0 }

/-- One phase from a state over a nominal time to a nominal speed, covering a nominal signed distance. -/
def mkPhase (st : Nat) (p0 v0 : Int) (time dist w : Rat) : Phase :=
  ⟨internalSeg 0 (ticksUp time) p0 v0 (p0 + posUnits dist) (velUnits w), st⟩

/-- End state of the last phase of a list, or a given state. -/
def endState (ph : List Phase) (p v : Int) : Int × Int :=
  match ph.getLast? with
  | some x => (x.seg.p1, x.seg.v1)
  | none => (p, v)

/-- The phases of one ramp between signed velocities of one sign (or zero): one Hermite segment under the
trapezoid, one for each constant-jerk part under the S-curve (R143). `st` is the planner state shown. -/
def rampPhases (scurve : Bool) (st : Nat) (p0 v0 : Int) (w : Rat) (r j : Rat) : List Phase :=
  let u := velRat v0
  let delta := |w - u|
  if delta = 0 then []
  else if !scurve then
    [mkPhase st p0 v0 (delta / r) ((u + w) / 2 * (delta / r)) w]
  else
    let sg : Rat := if u ≤ w then 1 else -1
    let flat := r * r / j ≤ delta
    let tj := if flat then r / j else sqrtRat (delta / j)
    let apk := if flat then r else j * tj
    let u1 := u + sg * apk * tj / 2
    let a := mkPhase st p0 v0 tj (u * tj + sg * j * tj * tj * tj / 6) u1
    let tc := if flat then delta / r - r / j else 0
    let u2 := u1 + sg * apk * tc
    let b := if 0 < tc then [mkPhase st a.seg.p1 a.seg.v1 tc ((u1 + u2) / 2 * tc) u2] else []
    let (pb, vb) := endState (a :: b) p0 v0
    let c := mkPhase st pb vb tj (u2 * tj + sg * apk * tj * tj / 2 - sg * j * tj * tj * tj / 6) w
    a :: b ++ [c]

/-- Under the S-curve a plan that starts with a non-zero acceleration opens with a constant-jerk phase that
takes it to zero (R143; its length is the model's reading, log entry 10). -/
def openAccel (scurve : Bool) (st : Nat) (p0 v0 : Int) (a0 j : Rat) : List Phase :=
  if !scurve || a0 = 0 then []
  else
    let t := |a0| / j
    let u := velRat v0
    [mkPhase st p0 v0 t (u * t + a0 * t * t / 3) (u + a0 * t / 2)]

/-! ## Plans (R142, R146) -/

/-- What a plan is built from. -/
structure PlanInput where
  scurve : Bool
  vTop : Nat
  a : Nat
  d : Nat
  /-- jerk in µstep/s³ -/
  j : Nat
  decel : Bool
  /-- speed at the target, 1/64 µstep/s: 0, or the pass-through speed of R147 -/
  vEnd : Nat
deriving DecidableEq, Repr

def codeRat (c : Nat) : Rat := mkRat c 64

/-- The speed a plan with peak `m` has at its target: the pass-through speed, where the peak reaches it (R147). -/
def endSpeed (x : PlanInput) (m : Nat) : Rat := codeRat (min m x.vEnd)

/-- The 32 halvings of R142. -/
def searchPeak (x : PlanInput) (u dist : Rat) : Nat → Nat → Nat → Nat
  | 0, lo, _ => lo
  | n + 1, lo, hi =>
    let mid := (lo + hi + 1) / 2
    let m := codeRat mid
    let up : Rat := if u ≤ m then x.a else x.d
    if rampDist x.scurve u m up x.j + rampDist x.scurve m (endSpeed x mid) x.d x.j ≤ dist then searchPeak x u dist n mid hi
    else searchPeak x u dist n lo (mid - 1)

/-- The last phase of a plan ends exactly at the target (R143). -/
def endAt (pT : Int) (ph : List Phase) : List Phase :=
  match ph.getLast? with
  | some y => ph.dropLast ++ [{ y with seg := { y.seg with p1 := pT } }]
  | none => ph

/-- A plan that never reverses: ramp to the peak, cruise, final ramp that ends exactly at the target. -/
def forwardPlan (x : PlanInput) (p0 v0 pT : Int) : List Phase :=
  let dir : Int := if p0 ≤ pT then 1 else -1
  let dirR : Rat := dir
  let dist := |posRat (pT - p0)|
  let u := velRat v0 * dirR
  let hi := if x.decel then min x.vTop (velRat v0 * dirR * 64).floor.toNat else x.vTop
  let vp := searchPeak x u dist 32 0 hi
  let vpR := codeRat vp
  let up : Rat := if u ≤ vpR then x.a else x.d
  let r1 := rampPhases x.scurve (if u ≤ vpR then 1 else 3) p0 v0 (vpR * dirR) up x.j
  let dFinal := rampDist x.scurve vpR (endSpeed x vp) x.d x.j
  let cruise := dist - rampDist x.scurve u vpR up x.j - dFinal
  let (p1, v1) := endState r1 p0 v0
  let pc := pT - dir * posUnits dFinal
  let c := if 0 < cruise ∧ 0 < vp then
      [(⟨internalSeg 0 (ticksUp (cruise / vpR)) p1 v1 pc (velUnits (vpR * dirR)), 2⟩ : Phase)] else []
  let (p2, v2) := endState (r1 ++ c) p0 v0
  endAt pT (r1 ++ c ++ rampPhases x.scurve 4 p2 v2 (endSpeed x vp * dirR) x.d x.j)

/-- Whether a state passes a target: it moves away from it, or cannot slow down before it (R142, R146). -/
def overshoots (x : PlanInput) (p0 v0 pT : Int) : Bool :=
  let u := velRat v0 * (if p0 ≤ pT then 1 else -1)
  decide (u < 0) || decide (codeRat x.vEnd < u ∧ |posRat (pT - p0)| < rampDist x.scurve u (codeRat x.vEnd) x.d x.j)

/-- The procedure `plan` of R142: reversal first when the target cannot be reached from the present state. -/
def buildPlan (x : PlanInput) (p0 v0 : Int) (a0 : Rat) (pT : Int) : List Phase :=
  let op := openAccel x.scurve 1 p0 v0 a0 x.j
  let (p0, v0) := endState op p0 v0
  if overshoots x p0 v0 pT then
    let b := rampPhases x.scurve 5 p0 v0 0 x.d x.j
    let (pb, vb) := endState b p0 v0
    op ++ b ++ forwardPlan { x with decel := false } pb vb pT
  else if pT = p0 ∧ v0 = 0 then op
  else op ++ forwardPlan x p0 v0 pT

/-- Distance to stop from a velocity. -/
def stopDist (scurve : Bool) (v : Int) (d j : Nat) : Rat := rampDist scurve |velRat v| 0 d j

/-- Where a stop from a state ends, the constant-jerk phase that takes its acceleration to zero included (R143, R145). -/
def stopEnd (scurve : Bool) (p v : Int) (a0 : Rat) (d j : Nat) : Rat :=
  let (p, v) := endState (openAccel scurve 6 p v a0 j) p v
  posRat p + (if 0 ≤ v then 1 else -1) * stopDist scurve v d j

/-- Phases to a signed target velocity (R150): through zero on a reversal, then the speed held in linear
segments whose end is exact. -/
def velocityPlan (x : PlanInput) (p0 v0 : Int) (a0 : Rat) (target : Int) : List Phase :=
  let op := openAccel x.scurve 1 p0 v0 a0 x.j
  let (p0, v0) := endState op p0 v0
  let w : Rat := mkRat target 64
  let u := velRat v0
  let r :=
    if (0 < u ∧ w < 0) ∨ (u < 0 ∧ 0 < w) then
      let z := rampPhases x.scurve 3 p0 v0 0 x.d x.j
      let (pz, vz) := endState z p0 v0
      z ++ rampPhases x.scurve 1 pz vz w x.a x.j
    else if |u| < |w| then rampPhases x.scurve 1 p0 v0 w x.a x.j
    else rampPhases x.scurve 3 p0 v0 w x.d x.j
  op ++ r

/-- Constant speed for as long as it is wanted: 64 s pieces, whose length in ticks makes every end exact. -/
def holdSpeed (st : Nat) (p v : Int) : Phase :=
  ⟨{ internalSeg 0 10240000000 p v (p + v) v with shape := .linear }, st⟩

/-! ## Advancing phases (R117, R119) -/

/-- Moves along a list of segments to an instant: the running segment first. Segments that follow start at the
nominal end of the one before; one that would end before the instant is moved to end at it. The segment that
runs at the instant, the rest, and the last end state when none runs. -/
def advance : Nat → Seg → List Seg → Nat → List Seg
  | 0, g, t, _ => g :: t
  | n + 1, g, t, te =>
    if te < g.endTick then g :: t
    else match t with
      | [] => [g]
      | h :: t' =>
        let h := { h with start := g.endTick }
        let h := if h.endTick < te then { h with start := te - h.span } else h
        if te < h.endTick ∨ t' = [] then h :: t' else advance n h t' te

def runSegs (g : Seg) (te : Nat) : Int × Int :=
  if g.endTick ≤ te then (g.p1, g.v1) else (g.pos (te - g.start), g.vel (te - g.start))

/-! ## Inputs of a slot's plan -/

def jerkOf (s : State) (i : Nat) : Nat := 64 * s.dv .PROFILE_JERK i

def isScurve (s : State) (i : Nat) : Bool := s.dv .PROFILE_TYPE i == 3

/-- Stop deceleration of a mode (R157). -/
def stopDecOf (s : State) (i : Nat) (m : Int) : Nat :=
  if m = 1 ∨ m = 3 then s.dv .PROFILE_DEC i
  else if m = 6 then s.dv .HOMING_ACC i
  else s.get .STOP_DEC i

/-- Shape of a halt with option 1 (R157). -/
def haltScurve (s : State) (i : Nat) : Bool := (s.modeOf i == 1 || s.modeOf i == 3) && isScurve s i

def vTopOf (s : State) (i : Nat) : Nat := min (s.dv .PROFILE_VEL i) (s.dv .MAX_PROFILE_VEL i)

def planInput (s : State) (i : Nat) : PlanInput :=
  ⟨isScurve s i, vTopOf s i, s.dv .PROFILE_ACC i, s.dv .PROFILE_DEC i, jerkOf s i, s.get .PLAN_STATE i == 4, s.get .PASS_V i⟩

/-- Inputs of a homing phase at a speed (R164). -/
def homingInput (s : State) (i speed : Nat) : PlanInput :=
  ⟨false, speed, s.dv .HOMING_ACC i, s.dv .HOMING_ACC i, 1, false, 0⟩

/-- Acceleration of the running curve at an instant, µstep/s². -/
def accelAt (g : Seg) (te : Nat) : Rat :=
  if g.endTick ≤ te then 0 else mkRat (g.accel (te - g.start)) 65536

def curAccel (s : State) (i te : Nat) : Rat :=
  match (s.mo i).plan with
  | x :: _ => accelAt x.seg te
  | [] => 0

/-- The curve a slot runs on, as phases: its plan, the running segment of its stream, its chain, or for a follower the
straight line on from the last instant (log entry 98). -/
def runningCurve (s : State) (i : Nat) : List Phase :=
  let m := s.mo i
  let st := s.get .PLAN_STATE i
  let line : List Phase :=
    if s.geti .EV_V i = 0 then [] else [⟨{ (holdSpeed 2 (s.geti .EV_P i) (s.geti .EV_V i)).seg with start := s.get .EV_T i }, st⟩]
  match m.plan, m.cur, m.chain with
  | x :: t, _, _ => x :: t
  | [], some g, _ => [⟨g, st⟩]
  | [], none, g :: t => if g.start ≤ s.get .EV_T i then (g :: t).map fun h => ⟨h, st⟩ else line
  | [], none, [] => line

/-- The segment of the commanded curve that runs. -/
def curveHead (m : Motion) : Option Seg := (m.plan.head?.map Phase.seg <|> m.cur) <|> m.chain.head?

/-- Segments that the curve leaves behind, the latest first; the last four are kept for the latches (R132, R165). -/
def leaveBehind (s : State) (i : Nat) (gs : List Seg) : State :=
  s.setMo i { s.mo i with past := (gs ++ (s.mo i).past).take 4 }

/-- The commanded curve of a slot at a tick, in µsteps (R132, R165, R317). -/
def commandedAt (s : State) (i t : Nat) : Int :=
  let m := s.mo i
  let behind := m.past.filter fun g => decide (t ≤ g.endTick)
  match ((curveHead m).toList ++ behind).find? fun g => decide (g.start ≤ t) with
  | some g => (runSegs g t).1 / usub
  | none => s.geti .OUT_P i / usub

/-- The source of motion ends, and its curve runs on as a plan until a stop or another source takes it over: a stream ends
(R111, R125), a follower is INACTIVE (R176), a chain ends. -/
def leaveSources (s : State) (i : Nat) : State :=
  let c := runningCurve s i
  let s := (leaveSegmentMode s i).clearAll [.SF_STATE, .CH_STATE, .CH_STOP] i
  s.setMo i { s.mo i with cur := none, plan := c, chain := [] }

/-- Sets the plan of a slot, its first phase starting at an instant. -/
def setPlan (s : State) (i t0 : Nat) (ph : List Phase) : State :=
  let ph := match ph with
    | x :: r => { x with seg := { x.seg with start := t0 } } :: r
    | [] => []
  let s := leaveBehind s i (((curveHead (s.mo i)).toList).filter fun g => decide (g.start < t0))
  let s := s.setMo i { s.mo i with plan := ph }
  s.put .PLAN_STATE i ((ph.head?.map Phase.st).getD 0)

/-! ## Stops (R157, R158) -/

/-- Asks for a planned stop at the next motion update. Of two requests the higher deceleration stands. -/
def requestStop (s : State) (i cause rate : Nat) (scurve : Bool) : State :=
  if s.flag .STOP_REQ i && decide (rate ≤ s.get .STOP_REQ_RATE i) then s
  else ((s.put .STOP_REQ i cause).put .STOP_REQ_RATE i rate).put .STOP_REQ_SCURVE i (b2n scurve)

/-- Every planned stop of a slot that stays in its mode breaks a stream, a follower and a chain (R125, R161, R176); a chain
then waits for a target near enough, as in BROKEN (R154). -/
def stopBreaks (s : State) (i : Nat) : State :=
  let s := if s.get .SEG_STATE i ≠ 0 ∧ s.get .SEG_STATE i ≠ 7 then
      breakStream ((s.setMo i { s.mo i with cur := none }).put .SEG_STATE i 6) i else s
  let s := if s.get .SF_STATE i = 1 then s.put .SF_STATE i 2 else s
  let s := s.each 8 (fun a n => a.getBit .ACC_WAITING n i) fun a n => a.setBit .ACC_WAITING n i false
  let s := if s.get .CH_STATE i = 1 then s.put .CH_STATE i 2 else s
  s.setMo i { s.mo i with chain := [] }

/-- Starts a planned stop from a state at an instant (R157, R158). -/
def beginStop (s : State) (i cause rate : Nat) (scurve : Bool) (t0 : Nat) (p v : Int) (a0 : Rat) : State :=
  if s.get .PLAN_STATE i = 6 ∧ rate ≤ s.get .STOP_RATE i then s
  else
    let s := (s.develop .STOP_DEC i).develop .LIMIT_DEC i
    let s := (s.put .STOP_CAUSE i cause).put .STOP_RATE i rate
    let j := jerkOf s i
    let op := openAccel scurve 6 p v a0 j
    let (p1, v1) := endState op p v
    let ph := op ++ rampPhases scurve 6 p1 v1 0 rate j
    let s := (stopBreaks s i).clearAll [.MODE_ENTRY, .LIM_PLAN] i
    let s := ((setPlan s i t0 ph).puti .EV_P i p).puti .EV_V i v
    s.put .PLAN_STATE i 6

/-! ## Blocking by limit switches (R161, R162) -/

def limitN (s : State) (i : Nat) : Bool := s.getBit .SW_STATE i 0 && s.dflag .LIMN_EN i

def limitP (s : State) (i : Nat) : Bool := s.getBit .SW_STATE i 1 && s.dflag .LIMP_EN i

def homingRuns (s : State) (i : Nat) : Bool :=
  decide (1 ≤ s.get .HOME_STATE i ∧ s.get .HOME_STATE i ≤ 4) || s.get .HOME_STATE i == 6

/-- Search switch of a homing method: 1 LIMN, 2 LIMP, 3 HOME, 0 none (R163). -/
def searchSwitch (m : Int) : Nat :=
  if m = 1 ∨ m = 17 then 1 else if m = 2 ∨ m = 18 then 2
  else if m = 3 ∨ m = 4 ∨ m = 19 ∨ m = 20 then 3 else 0

/-- The method's search switch is exempt from blocking until homing ends (R169). -/
def blockedP (s : State) (i : Nat) : Bool :=
  (limitP s i && !(homingRuns s i && searchSwitch (s.geti .HM_METHOD i) == 2)) || (limitN s i && limitP s i)

def blockedN (s : State) (i : Nat) : Bool :=
  (limitN s i && !(homingRuns s i && searchSwitch (s.geti .HM_METHOD i) == 1)) || (limitN s i && limitP s i)

/-- A target held short of a blocked direction (R161). -/
def heldTarget (s : State) (i : Nat) (target : Int) : Int :=
  let p := s.geti .OUT_P i
  if blockedP s i && decide (p < target) then p
  else if blockedN s i && decide (target < p) then p
  else target

/-- A target velocity that acts as zero toward a blocked direction (R161). -/
def heldVelocity (s : State) (i : Nat) (v : Int) : Int :=
  if blockedP s i && decide (0 < v) then 0 else if blockedN s i && decide (v < 0) then 0 else v

/-! ## Soft limits (R130, R148) -/

/-- Clamping a target (in 1/65536 µstep) to the soft limits, with TARGET_CLAMPED (R148). -/
def clampTarget (s : State) (i : Nat) (target : Int) : State × Int :=
  let lo := s.dvi .SOFTLIM_LO i * usub
  let hi := s.dvi .SOFTLIM_HI i * usub
  if s.gn2008 then (s, target)
  else if target < lo then ((s.put .TARGET_CLAMPED i 1).post 0x0501 0x1 i 0, lo)
  else if hi < target then ((s.put .TARGET_CLAMPED i 1).post 0x0501 0x1 i 1, hi)
  else (s, target)

/-- Publishing the commanded state: p_prev, POS_CMD rounded down and VEL_CMD rounded toward zero (R118). -/
def publish (s : State) (i : Nat) (p v : Int) : State :=
  let s := (s.puti .OUT_P i p).puti .OUT_V i v
  let whole := p / usub
  (s.puti .POS_CMD i (wrapPos s whole)).puti .VEL_CMD i (Int.tdiv v usub)

/-- The output stage: soft limits (R130), then the blocked directions (R161) unless a planned stop runs. -/
def outputStage (s : State) (i : Nat) : State :=
  let p := s.geti .EV_P i
  let v := s.geti .EV_V i
  let prev := s.geti .OUT_P i
  let lo := s.dvi .SOFTLIM_LO i * usub
  let hi := s.dvi .SOFTLIM_HI i * usub
  let q := if s.gn2008 then p else max (min p (max hi prev)) (min lo prev)
  let s :=
    if q = p then s.put .SOFT_IN i 0
    else if s.flag .SOFT_IN i then s
    else ((s.put .SOFT_IN i 1).put .SOFTLIM_HIT i 1).post 0x0408 0x1 i (if q < p then 1 else 0)
  let stopping := s.get .PLAN_STATE i == 6
  let r := if !stopping && blockedP s i then min q prev else q
  let r := if !stopping && blockedN s i then max r prev else r
  publish s i r (if r = p then v else 0)

/-! ## Fields that develop at the motion update (R84) -/

/-- The registers of a slot that develop at its next motion update. -/
def motionFields : List Reg :=
  ((fieldsAxisR34 ++ fieldsAxisR135 ++ fieldsAxisR135b ++ fieldsAxisR178 ++ fieldsAxisR178b ++ fieldsAxisR211 ++ fieldsAxisR211b
    ++ fieldsAxisR241 ++ fieldsAxisR241b ++ fieldsAxisR300).filter fun f => f.dev == .motionUpdate).map FieldInfo.reg

/-- Fields whose develop at the motion update is subject to the window check of R191. -/
def windowFields : List Reg := [.CUR_BLANK, .T_SAMPLE, .WIN_ILK]

def segmentFields : List Reg := [.TOL_WINDOW, .TOL_ACTION, .TRIG_SEL, .TRIG_WIDTH]

/-- CiA 402 parameters that are latent and develop at the motion update (R141), the deferrable two apart. -/
def plannerObjects : List Reg :=
  [.PROFILE_VEL, .MAX_PROFILE_VEL, .PROFILE_ACC, .QUICK_STOP_DEC, .PROFILE_TYPE, .HOMING_ACC, .HOMING_SPEED_SW,
   .HOMING_SPEED_ZERO, .MAX_ACC, .TARGET_VEL]

/-- R145: in DECEL a new deceleration or jerk under which the axis would pass its target from the present state waits for
IDLE or the next target. -/
def developDecel (s : State) (i : Nat) : State :=
  let dNew := s.get .PROFILE_DEC i
  let jNew := s.get .PROFILE_JERK i
  if dNew = s.dv .PROFILE_DEC i ∧ jNew = s.dv .PROFILE_JERK i then s
  else
    let p := s.geti .EV_P i
    let op := openAccel (isScurve s i) 4 p (s.geti .EV_V i) (curAccel s i (s.get .EV_T i)) (64 * jNew)
    let (p, v) := endState op p (s.geti .EV_V i)
    let x : PlanInput := ⟨isScurve s i, vTopOf s i, s.dv .PROFILE_ACC i, dNew, 64 * jNew, true, s.get .PASS_V i⟩
    if s.get .PLAN_STATE i = 4 ∧ s.modeOf i = 1 ∧ overshoots x p v (nearest s p (s.geti .TGT_P i)) then
      let s := s.put .ACCEL_DEFERRED i 1
      if s.flag .DEFER_POSTED i then s else (s.put .DEFER_POSTED i 1).post 0x0500 0x1 i dNew
    else (s.develop .PROFILE_DEC i).develop .PROFILE_JERK i

/-- The developed inputs a plan depends on (R144, R150, R164). -/
def planKey (s : State) (i : Nat) : List Nat :=
  if s.modeOf i = 6 then [s.dv .HOMING_ACC i, s.dv .HOMING_SPEED_SW i, s.dv .HOMING_SPEED_ZERO i]
  else [vTopOf s i, s.dv .PROFILE_ACC i, s.dv .PROFILE_DEC i, s.dv .PROFILE_JERK i, s.dv .PROFILE_TYPE i]
    ++ (if s.modeOf i = 3 then [s.dv .TARGET_VEL i, s.dv .SOFTLIM_LO i, s.dv .SOFTLIM_HI i] else [])

/-- Develops the fields of the slot; SF_SCALE re-references (R173), and without a running segment so do the
segment-boundary fields (R135). -/
def developMotion (s : State) (i : Nat) : State :=
  let scaled := s.get .SF_SCALE i != s.dv .SF_SCALE i
  let s := s.developList (motionFields.filter fun r => !windowFields.contains r) i
  let s := s.developList plannerObjects i
  let s := developDecel s i
  let s := if s.get .SEG_STATE i = 2 then s else s.developList segmentFields i
  if scaled then (s.put .SF_CREF i (s.get .SF_SNAP i)).puti .SF_PREF i (s.geti .OUT_P i) else s

/-- The plan of profile position from a state toward the target in force. `again` tells that a final ramp already under way
must not raise the speed (R142, R145). -/
def planToward (s : State) (i : Nat) (p v : Int) (a0 : Rat) (again : Bool) : List Phase :=
  let target := heldTarget s i (nearest s p (s.geti .TGT_P i))
  let x := planInput s i
  buildPlan { x with decel := x.decel && again } p v a0 target

/-- What runs on from the end of a plan that still moves: the move to the pending set-point of R147, or the held speed of
profile velocity and homing. -/
def planOnward (s : State) (i : Nat) (g : Seg) : State :=
  if s.get .PLAN_STATE i = 6 ∨ s.drive i ≠ dsEnabled then s
  else if s.modeOf i = 1 ∧ s.flag .SP_FULL i ∧ !s.flag .HALTED i then
    let s := ((s.puti .TGT_P i (s.geti .SP_P i)).put .SP_FULL i 0).put .PASS_V i 0
    let s := ((s.develop .PROFILE_DEC i).develop .PROFILE_JERK i).put .DEFER_POSTED i 0
    setPlan s i g.endTick (planToward s i g.p1 g.v1 0 false)
  else if s.modeOf i = 3 ∨ s.modeOf i = 6 then setPlan s i g.endTick [holdSpeed 2 g.p1 g.v1]
  else s

/-- Moving along the plan to an instant; `true` tells that it has ended in motion before the instant. -/
def planStep (s : State) (i te : Nat) : State × Option Seg :=
  match (s.mo i).plan with
  | [] => (s.puti .EV_V i 0, none)
  | x :: t =>
    let run := advance t.length x.seg (t.map Phase.seg) te
    let h := run.headD x.seg
    let k := (x :: t).length - run.length
    let st := (((x :: t)[k]?).map Phase.st).getD x.st
    let rest := ((x :: t).drop (k + 1))
    let (p, v) := runSegs h te
    let s := (s.puti .EV_P i p).puti .EV_V i v
    let past := (((x :: t).take k).map Phase.seg).reverse ++ (s.mo i).past
    if h.endTick ≤ te ∧ rest = [] then
      (s.setMo i { s.mo i with plan := [], past := (h :: past).take 4 }, if h.v1 = 0 then none else some h)
    else
      ((s.setMo i { s.mo i with plan := ⟨h, st⟩ :: rest, past := past.take 4 }).put .PLAN_STATE i st, none)

/-- Moving along the plan to an instant, and along what follows a plan that ends in motion. -/
def planEval (s : State) (i te : Nat) : State :=
  match planStep s i te with
  | (s, none) => s
  | (s, some g) =>
    let s := planOnward s i g
    if (s.mo i).plan = [] then s else (planStep s i te).1

/-! ## Segment streams at the motion update (R117, R122 to R128) -/

/-- A segment that would end before the first instant it meets is moved to end at it (R119). -/
def stretchSeg (s : State) (i te : Nat) (g : Seg) : State × Seg :=
  if g.endTick < te then
    let late := te - g.endTick
    (((s.count .SEG_STRETCH i).put .STRETCH i 1).post 0x040A 0x1 i late, { g with start := g.start + late })
  else (s, g)

/-- Opening a segment: SEG_PTR, the arming of its start actions and its tolerance latch, and the boundary
fields (R120, R132, R135). The start instant is the first period start at or after t_s. -/
def openSeg (s : State) (i te : Nat) (g : Seg) : State :=
  let (s, g) := stretchSeg (s.developList segmentFields i) i te g
  let m := s.mo i
  let tol := if g.tol then m.tol ++ [(⟨g.endTick, g.p1 / usub, none⟩ : TolLatch)] else m.tol
  let s := s.setMo i { m with cur := some g, accepted := m.accepted.tail, tol := tol }
  let s := syncRd (((s.put .SEG_PTR i g.ptr).put .VEL_POSTED i 0).put .SEG_STATE i 2) i
  if g.evt || g.trig || g.capt then
    { s with armed := s.armed ++ [⟨i, te, g.start, g.ptr, s.get .SEG_DONE i, g.evt, g.trig, g.capt⟩] }
  else s

/-- A boundary taken as an empty queue skips an unreadable entry (R44). -/
def nextAccepted (s : State) (i : Nat) : State × Option Seg :=
  match (s.mo i).accepted with
  | [] => (s, none)
  | g :: t => if g.span = 0 then (syncRd (s.setMo i { s.mo i with accepted := t }) i, none) else (s, some g)

/-- The slot arrives at a SYNC segment (R127). -/
def arriveSync (s : State) (i : Nat) (g : Seg) (arrival : Nat) : State :=
  let s := s.setMo i { s.mo i with cur := none }
  let s := (((s.put .SEG_STATE i 3).put .ARRIVAL i arrival).put .GO_SEEN i 0).develop .SYNC_TIMEOUT i
  s.setBit .ACC_WAITING g.acc i true

/-- Go time of a gather accord whose members all wait (R127): the first status tick at or after the last arrival
plus ACC_LEAD. Every member then holds the go. A ring accord gathers on the manager instead. -/
def gather (s : State) (n : Nat) : State :=
  let memb := s.get .ACC_MEMB n
  if memb ≠ 0 ∧ s.get .ACC_MODE n = 0 ∧ s.dv .ACC_RING n = 0 ∧ memb &&& s.get .ACC_WAITING n = memb
      ∧ s.get .ACC_PEND n &&& memb = 0 then
    let last := ((idsWhere 8 (bit memb)).map fun i => s.get .ARRIVAL i).foldl max 0
    let go := (last + s.get .ACC_LEAD n * ticksPerUs + 159) / 160 * 160
    s.each 8 (fun a i => a.getBit .ACC_MEMB n i) fun a i =>
      (a.setBit .ACC_PEND n i true).put .GO_T (n * 8 + i) go
  else s

/-- A waiting slot that holds a go (R128). -/
def syncWait (s : State) (i te : Nat) : State :=
  match (s.mo i).accepted with
  | [] => s
  | g :: _ =>
    let s := gather s g.acc
    let s :=
      if s.getBit .ACC_PEND g.acc i && !s.flag .GO_SEEN i then
        let tGo := s.get .GO_T (g.acc * 8 + i)
        let tS := max (max tGo (s.get .ARRIVAL i)) (te - s.period i)
        let s := (s.put .GO_SEEN i 1).put .GO_START i tS
        if tGo < tS then (s.put .SYNC_LATE i 1).post 0x0405 0x1 i (min (tS - tGo) 0xFFFFFFFF) else s
      else s
    if s.flag .GO_SEEN i && decide (s.get .GO_START i ≤ te) then
      let s := ((s.setBit .ACC_WAITING g.acc i false).setBit .ACC_PEND g.acc i false).put .GO_SEEN i 0
      openSeg s i te { g.startingAt (s.geti .EV_P i) 0 with start := s.get .GO_START i }
    else s

/-- From EMPTY, STARVED or DONE the next accepted segment starts a new stream (R116, R126). -/
def startStream (s : State) (i te : Nat) : State :=
  match nextAccepted s i with
  | (s, none) => s
  | (s, some g) =>
    if g.sync then syncWait (arriveSync (s.puti .EV_P i (s.geti .OUT_P i)) i g te) i te
    else openSeg s i te { g.startingAt (s.geti .OUT_P i) 0 with start := te }

/-- What follows a segment that ended with nothing accepted behind it (R122, R123). The distance posted is in whole µsteps,
rounded down (log entry 98). -/
def runDry (s : State) (i : Nat) (g : Seg) : State :=
  let s := s.setMo i { s.mo i with cur := none }
  if g.last then (s.put .SEG_STATE i 5).post 0x0403 0x1 i g.ptr
  else if g.v1 = 0 then (s.put .SEG_STATE i 4).post 0x0402 0x1 i g.ptr
  else
    let d := stopDist false g.v1 (s.get .STOP_DEC i) 1
    let s := beginStop s i 5 (s.get .STOP_DEC i) false g.endTick g.p1 g.v1 0
    (s.put .UNDERRUN i 1).post 0x0404 0x1 i (min d.floor.toNat 0xFFFFFFFF)

/-- The boundary of R117: close, hold the end position, take the next accepted segment, which starts from that end, and open
it. -/
def segBoundary (s : State) (i te : Nat) (g : Seg) : State :=
  let s := (((leaveBehind s i [g]).countWrap .SEG_DONE i).puti .EV_P i g.p1).puti .EV_V i 0
  match nextAccepted s i with
  | (s, none) => runDry s i g
  | (s, some h) =>
    if h.sync then arriveSync s i h g.endTick
    else openSeg s i te { h.startingAt g.p1 g.v1 with start := g.endTick }

/-- The stream's part of the motion update: at most one boundary, then evaluation (R117). -/
def streamUpdate (s : State) (i te : Nat) : State :=
  let s :=
    match s.get .SEG_STATE i, (s.mo i).cur with
    | 2, some g => if g.endTick ≤ te then segBoundary s i te g else s
    | 3, _ => syncWait s i te
    | 1, _ => startStream s i te
    | 4, _ => startStream s i te
    | 5, _ => startStream s i te
    | _, _ => s
  match s.get .SEG_STATE i, (s.mo i).cur with
  | 2, some g =>
    let (p, v) := if te < g.start then (g.p0, g.v0) else runSegs g te
    let s := (s.puti .EV_P i p).puti .EV_V i v
    if (s.dv .SEG_VMAX i : Int) * usub < absN v then
      let s := s.put .VEL_EXCESS i 1
      if s.flag .VEL_POSTED i then s else (s.put .VEL_POSTED i 1).post 0x0409 0x1 i g.ptr
    else s
  | 6, _ => planEval s i te
  | _, _ => s.puti .EV_V i 0

/-! ## Cyclic chain (R151 to R156) -/

/-- Interpolation period in ticks (R151). -/
def ipTicks (s : State) (i : Nat) : Nat :=
  let e := s.geti .IP_INDEX i
  s.get .IP_PERIOD i * ticksPerSecond / 10 ^ (-e).toNat

/-- Length of the next segment: T_ip with the phase correction that the segment before it left, at most T_ip / 4096 rounded
up (R153). -/
def chainSpan (s : State) (i : Nat) : Nat :=
  let t := ipTicks s i
  let lim : Int := ((t + 4095) / 4096 : Nat)
  ((t : Int) + clampI (-lim) lim (s.geti .CH_ADJUST i)).toNat

def chainEnd (s : State) (i : Nat) : Option Seg := (s.mo i).chain.getLast?

/-- Adds a segment to the chain. How far the SYNC at tick `t` that has delivered it lies from its start less T_ip / 2 corrects
the length of the next one (R153). -/
def pushChain (s : State) (i t : Nat) (g : Seg) : State :=
  (s.setMo i { s.mo i with chain := (s.mo i).chain ++ [g] }).puti .CH_ADJUST i ((t : Int) - ((g.start : Int) - ipTicks s i / 2))

/-- The least mean shortfall below a speed bound that keeps a Hermite segment within it, from the shortfalls `a` and `b` of its
end velocities: its velocity is a parabola, and it touches the bound at (a + b − √(a·b)) / 3. -/
def leastShortfall (a b : Int) : Int := ((a + b - rsqrt (a * b).toNat) + 2) / 3

/-- The end of a segment bounded by 0x607F (R152): the point reachable, with CS_VCLAMP. A linear segment reaches that velocity
times its span; a Hermite segment ends no faster than the bound, and as far as its velocity stays within the bound
throughout (log entry 98). -/
def boundEnd (s : State) (i : Nat) (g : Seg) : State × Seg :=
  let lim : Int := (s.dv .MAX_PROFILE_VEL i : Int) * usub
  let v1 := if g.shape = .hermite then clampI (-lim) lim g.v1 else 0
  let (lo, hi) : Int × Int :=
    if g.shape = .hermite then
      (leastShortfall (max 0 (lim + g.v0)) (lim + v1) - lim, lim - leastShortfall (max 0 (lim - g.v0)) (lim - v1))
    else (-lim, lim)
  let p1 := clampI (g.p0 - -lo * g.span / velSpan) (g.p0 + hi * g.span / velSpan) g.p1
  let h := if g.shape = .hermite then { g with p1 := p1, v1 := v1 }
    else { g with p1 := p1, v0 := lineVel (p1 - g.p0) g.span, v1 := lineVel (p1 - g.p0) g.span }
  (if p1 = g.p1 ∧ (g.shape ≠ .hermite ∨ v1 = g.v1) then s else s.put .CS_VCLAMP i 1, h)

/-- A linear segment of the chain, delivered at tick `t`, from a state to a target. -/
def chainLinear (s : State) (i t start : Nat) (p0 : Int) (span : Nat) (target : Int) : State :=
  let b := boundEnd s i { internalSeg start span p0 0 target 0 with shape := .linear }
  pushChain b.1 i t b.2

/-- Under cubic interpolation the segment to the pending target, built when the next one arrives (R152). -/
def chainCubic (s : State) (i t : Nat) (nextTarget : Int) : State :=
  match chainEnd s i with
  | none => s
  | some g =>
    let v1 := lineVel (nextTarget - s.geti .CH_PREV i) (2 * ipTicks s i)
    let b := boundEnd s i (internalSeg g.endTick (chainSpan s i) g.p1 g.v1 (s.geti .CH_TARGET i) v1)
    pushChain b.1 i t b.2

/-- No target joins a chain that a halt or a running stop holds, nor in mode 7 while controlword bit 4 reads 0 (R155, R156,
R159). -/
def chainHeld (s : State) (i : Nat) : Bool :=
  s.flag .HALTED i || s.get .PLAN_STATE i == 6 || (s.modeOf i == 7 && !s.getBit .CONTROLWORD i 4)

/-- The first target opens the chain, if it is near enough (R152, R154). A slot that entered the mode in motion extrapolates
until then, and the target joins that end. -/
def chainOpen (s : State) (i t : Nat) (target : Int) (cubic : Bool) : State :=
  if (s.dv .CS_RESUME_WIN i : Int) * usub < absN (target - s.geti .OUT_P i) then s.count .CS_MISS i
  else
    let s := ((s.put .CH_STATE i 1).put .CH_MISSED i 0).put .CH_FRESH i (b2n cubic)
    let s := ((s.puti .CH_TARGET i target).puti .CH_PREV i (s.geti .OUT_P i)).put .CH_PENDING i 0
    let tip := ipTicks s i
    match chainEnd s i with
    | some g => chainLinear s i t g.endTick g.p1 tip target
    | none => chainLinear s i t (t + tip / 2) (s.geti .OUT_P i) tip target

/-- A target position taken at a SYNC in modes 7 and 8 (R152 to R154). -/
def chainTarget (s : State) (i t : Nat) (raw : Int) : State :=
  let from_ := ((chainEnd s i).map Seg.p1).getD (s.geti .OUT_P i)
  let (s, target) := clampTarget s i (heldTarget s i (nearest s from_ (raw * usub)))
  let cubic := s.geti .IP_SUBMODE i == -1
  if chainHeld s i then (if s.get .CH_STATE i = 2 ∧ s.get .PLAN_STATE i = 6 ∧ !s.flag .HALTED i then s.count .CS_MISS i else s)
  else if s.get .CH_STATE i ≠ 1 then chainOpen s i t target cubic
  else
    let s := s.put .CH_MISSED i 0
    let s :=
      if cubic then if s.flag .CH_PENDING i then chainCubic s i t target else s
      else match chainEnd s i with
        | some g => chainLinear s i t g.endTick g.p1 (chainSpan s i) target
        | none => s
    ((s.puti .CH_PREV i (s.geti .CH_TARGET i)).puti .CH_TARGET i target).put .CH_PENDING i (b2n cubic)

/-- A target velocity taken at a SYNC in mode 9 (R155): constant acceleration over one T_ip, bounded. The first one joins the
end of what the slot extrapolates, or starts T_ip / 2 later from standstill. -/
def chainVelocity (s : State) (i t : Nat) (raw : Int) : State :=
  if chainHeld s i then s
  else
  let lim : Int := s.dv .MAX_PROFILE_VEL i
  let want := clampI (-lim) lim (heldVelocity s i raw) * usub
  let tip := ipTicks s i
  let running := s.get .CH_STATE i == 1
  let (start, p0, v0) : Nat × Int × Int := match chainEnd s i with
    | some g => (g.endTick, g.p1, g.v1)
    | none => (t + tip / 2, s.geti .OUT_P i, 0)
  let s := if running then s else s.put .CH_ADJUST i 0
  let span := chainSpan s i
  -- 0x60C5 × T_ip in evaluator units: µstep/s² × ticks × 64 × 65536 / 160,000,000
  let step := (s.dv .MAX_ACC i : Int) * span * 4194304 / 160000000
  let clamped := decide (step < absN (want - v0))
  let v1 := if clamped then v0 + sgn (want - v0) * step else want
  let s := if clamped then s.put .CSV_ACC_CLAMP i 1 else s
  let s := ((s.put .CH_STATE i 1).put .CH_FRESH i 0).put .CH_MISSED i 0
  pushChain s i t (internalSeg start span p0 v0 (p0 + rdiv ((v0 + v1) * span) (2 * velSpan)) v1)

/-- A linear segment of one T_ip that goes on from the end of another at its velocity (R154). -/
def chainOn (s : State) (i : Nat) (h : Seg) : Seg :=
  let tip := ipTicks s i
  { internalSeg h.endTick tip h.p1 h.v1 (h.p1 + rdiv (h.v1 * tip) velSpan) h.v1 with shape := .linear }

/-- A chain that ends in motion gives way to a stop at STOP_DEC from that end (R154, R156). -/
def chainStop (s : State) (i te : Nat) (h : Seg) : State :=
  let s := (s.puti .EV_P i h.p1).puti .EV_V i h.v1
  planEval (beginStop s i 6 (s.get .STOP_DEC i) false h.endTick h.p1 h.v1 0) i te

/-- The last segment of a chain has ended and nothing follows. In mode 7 after the fall of bit 4 the axis holds, or stops with
cause 0x6: R157 names none for it (log entry 98). Under cubic interpolation the first segment ends half a T_ip before the
segment to the second target can be built, and one T_ip of extrapolation that counts as no miss bridges that (log entry 98). -/
def chainRunsOut (s : State) (i te : Nat) (h : Seg) : State :=
  let on (s : State) : State :=
    let e := chainOn s i h
    let s := s.setMo i { s.mo i with chain := [e] }
    let x := runSegs e te
    (s.puti .EV_P i x.1).puti .EV_V i x.2
  if s.flag .CH_STOP i then
    let s := ((s.setMo i { s.mo i with chain := [] }).put .CH_STOP i 0).put .CH_STATE i 0
    if h.v1 = 0 then (s.puti .EV_P i h.p1).puti .EV_V i 0 else chainStop s i te h
  else if s.flag .CH_FRESH i ∧ s.flag .CH_PENDING i then on (s.put .CH_FRESH i 0)
  else if s.get .CH_MISSED i < s.dv .CS_MISS_MAX i then
    on ((s.count .CS_MISS i).put .CH_MISSED i (s.get .CH_MISSED i + 1))
  else ((chainStop s i te h).put .CH_STATE i 2).post 0x0504 0x1 i (s.get .CH_MISSED i + 1)

/-- The chain's part of the motion update: extrapolation when a segment ends and no target came (R154). -/
def chainUpdate (s : State) (i te : Nat) : State :=
  match (s.mo i).chain with
  | [] => s.puti .EV_V i 0
  | g :: t =>
    if te < g.start then (s.puti .EV_P i g.p0).puti .EV_V i 0
    else
      let run := advance t.length g t te
      let s := leaveBehind s i ((g :: t).take ((g :: t).length - run.length)).reverse
      let s := s.setMo i { s.mo i with chain := run }
      let h := run.headD g
      if te < h.endTick then
        let x := runSegs h te
        (s.puti .EV_P i x.1).puti .EV_V i x.2
      else chainRunsOut s i te h

/-! ## Step-follow (R172 to R176) -/

def followReference (s : State) (i : Nat) : State :=
  let s := (s.put .SF_CREF i (s.get .SF_COUNT i)).puti .SF_PREF i (s.geti .OUT_P i)
  s.setMo i { s.mo i with pulses := [] }

def enterFollow (s : State) (i : Nat) : State := (followReference s i).put .SF_STATE i 1

/-- The mean of the last 2^k pulse positions (R174); fewer since entry stand for the reference position. -/
def pulseMean (hist : List Int) (k : Nat) (start : Int) : Int :=
  let n := 2 ^ k
  let xs := hist.take n
  rdiv (xs.foldl (· + ·) 0 + start * ((n : Int) - xs.length)) n

def followUpdate (s : State) (i te : Nat) : State :=
  let pref := s.geti .SF_PREF i
  let n := toSigned 32 (ofSigned 32 ((s.get .SF_SNAP i : Int) - s.get .SF_CREF i))
  let pulse := pref + s.dv .SF_SCALE i * n * usub
  let hist := (pulse :: (s.mo i).pulses).take 256
  let s := s.setMo i { s.mo i with pulses := hist }
  let want := heldTarget s i (pulseMean hist (s.dv .SF_SMOOTH i) pref)
  let prev := s.geti .OUT_P i
  let per := te - s.get .EV_T i
  let reach := (s.dv .MAX_PROFILE_VEL i : Int) * usub * per / velSpan
  let p := if reach < absN (want - prev) then prev + sgn (want - prev) * reach else want
  let v := if per = 0 then 0 else rdiv ((p - prev) * velSpan) per
  let s := (s.puti .EV_P i p).puti .EV_V i v
  let lag := (pulse - p) / usub
  let s := s.puti .SF_LAG i (pulse - p)
  if s.dv .SF_LAG_MAX i < absN lag then
    let s := beginStop s i 7 (s.get .STOP_DEC i) false te p v 0
    ((s.put .SF_STATE i 2).put .STEP_LAG i 1).post 0x0507 0x1 i (ofSigned 32 (satSigned 32 lag))
  else s

/-! ## Target modes (R142 to R150) -/

/-- The plan of profile position toward the target in force, from the state at an instant. -/
def planToTarget (s : State) (i te : Nat) (a0 : Rat) (again : Bool) : State :=
  setPlan s i te (planToward s i (s.geti .EV_P i) (s.geti .EV_V i) a0 again)

/-- The soft limit ahead of a velocity, if any. -/
def limitAhead (s : State) (i : Nat) (v : Int) : Option Int :=
  if s.gn2008 ∨ v = 0 then none
  else if 0 < v then some (s.dvi .SOFTLIM_HI i * usub) else some (s.dvi .SOFTLIM_LO i * usub)

/-- A target velocity that acts as zero at or beyond the soft limit it points to (R130, R150). -/
def limitedVelocity (s : State) (i : Nat) (v : Int) : Int :=
  match limitAhead s i v with
  | some l => if (l - s.geti .EV_P i) * sgn v ≤ 0 then 0 else v
  | none => v

/-- The target velocity in force: bounded by v_top, and zero toward a blocked direction or beyond a soft limit. -/
def aimVelocity (s : State) (i : Nat) : Int :=
  let lim : Int := vTopOf s i
  limitedVelocity s i (heldVelocity s i (clampI (-lim) lim (s.dvi .TARGET_VEL i)))

/-- The plan of profile velocity (R150). -/
def planVelocity (s : State) (i te : Nat) (a0 : Rat) : State :=
  setPlan (s.put .LIM_PLAN i 0) i te (velocityPlan (planInput s i) (s.geti .EV_P i) (s.geti .EV_V i) a0 (aimVelocity s i))

/-- The running phase of a plan at an instant, its segment placed in time. -/
def planAt (s : State) (i t : Nat) : Seg :=
  match (s.mo i).plan with
  | [] => internalSeg t 1 (s.geti .EV_P i) 0 (s.geti .EV_P i) 0
  | x :: r => (advance r.length x.seg (r.map Phase.seg) t).headD x.seg

/-- R150: once a stop that began at the next instant would pass the soft limit ahead, the plan becomes a move to that limit
at no more than the target velocity: its final ramp ends exactly there. The entry into that ramp is posted. -/
def watchLimit (s : State) (i te : Nat) : State :=
  let aim := aimVelocity s i
  let x := planInput s i
  let t := te + s.period i
  let g := planAt s i t
  let (p, v) := runSegs g t
  let s :=
    match limitAhead s i (if s.geti .EV_V i = 0 then v else s.geti .EV_V i) with
    | some l =>
      let dir : Int := sgn (if s.geti .EV_V i = 0 then v else s.geti .EV_V i)
      if !s.flag .LIM_PLAN i ∧ 0 < (l - s.geti .EV_P i) * dir ∧ 0 ≤ aim * dir
          ∧ posRat l * dir < stopEnd x.scurve p v (accelAt g t) x.d x.j * dir then
        let ph := buildPlan { x with vTop := absN aim, decel := false, vEnd := 0 } (s.geti .EV_P i) (s.geti .EV_V i) (curAccel s i te) l
        (setPlan s i te ph).put .LIM_PLAN i 1
      else s
    | none => s
  if s.get .LIM_PLAN i = 1 ∧ s.get .PLAN_STATE i = 4 then
    ((s.put .LIM_PLAN i 2).put .SOFTLIM_HIT i 1).post 0x0408 0x1 i (if 0 < s.geti .EV_V i then 1 else 0)
  else s

/-- A finished plan: IDLE, HALTED, the pending set-point, or the speed that profile velocity holds. -/
def planDone (s : State) (i te : Nat) : State :=
  if (s.mo i).plan ≠ [] then s
  else if s.get .PLAN_STATE i = 6 then
    let s := if s.get .SEG_STATE i = 6 then s.put .SEG_STATE i 7 else s
    let s := if s.get .SF_STATE i = 2 then s.put .SF_STATE i 3 else s
    let s := if s.get .STOP_CAUSE i = 3 then s.put .BLOCK_SEEN i 4 else s
    (s.put .STOP_RATE i 0).put .PLAN_STATE i (if s.flag .HALTED i then 7 else 0)
  else if s.flag .HALTED i ∧ s.drive i = dsEnabled then
    if s.geti .EV_V i = 0 then s.put .PLAN_STATE i 7 else s
  else if s.modeOf i = 1 ∧ s.drive i = dsEnabled then
    let s := if s.geti .EV_V i = 0 then s.put .PLAN_STATE i 0 else s
    let s := (s.develop .PROFILE_DEC i).develop .PROFILE_JERK i
    let s := s.put .DEFER_POSTED i 0
    if s.flag .SP_FULL i then
      let s := ((s.puti .TGT_P i (s.geti .SP_P i)).put .SP_FULL i 0).put .PASS_V i 0
      planToTarget s i te 0 false
    else s
  else if (s.modeOf i = 3 ∨ s.modeOf i = 6) ∧ s.drive i = dsEnabled ∧ s.geti .EV_V i ≠ 0 then
    setPlan s i te [holdSpeed 2 (s.geti .EV_P i) (s.geti .EV_V i)]
  else if s.geti .EV_V i = 0 then s.put .PLAN_STATE i 0
  else s

/-- The motion of the running homing phase, as in HM_REQ: what a changed input plans anew (R144, R164). -/
def homingMotion (s : State) (i : Nat) : Nat :=
  let st := s.get .HOME_STATE i
  if st = 4 then (if !s.flag .HM_MOVING_BACK i then 2 else if s.geti .HM_METHOD i = -1 then 4 else 3)
  else if st = 1 ∧ s.flag .HM_TAKEN i then 2
  else if 1 ≤ st ∧ st ≤ 3 then 1
  else 0

/-- What homing asked for since the last update (R164, R170): 1 search or approach motion, 2 braking, 3 the move
to the reference, 4 the back-off. A changed input plans the running phase anew. -/
def homingReplan (s : State) (i te : Nat) (changed : Bool) : State :=
  let q := if s.flag .HM_REQ i then s.get .HM_REQ i else if changed && (s.mo i).plan != [] then homingMotion s i else 0
  let p := s.geti .EV_P i
  let v := s.geti .EV_V i
  let s := s.put .HM_REQ i 0
  let speed := if s.get .HOME_STATE i = 1 then s.dv .HOMING_SPEED_SW i else s.dv .HOMING_SPEED_ZERO i
  let x := homingInput s i speed
  let dir : Int := if s.flag .HM_DIR i then 1 else -1
  if q = 1 then setPlan s i te (velocityPlan x p v 0 (dir * speed))
  else if q = 2 then setPlan s i te (velocityPlan x p v 0 0)
  else if q = 3 then setPlan s i te (buildPlan x p v 0 (nearest s p (s.geti .HM_REF i)))
  else if q = 4 then setPlan s i te (buildPlan x p v 0 (nearest s p (s.geti .HM_REF i - dir * s.dv .HS_BACKOFF i * usub)))
  else s

/-- The directions a slot must not move in. -/
def blockedCode (s : State) (i : Nat) : Nat := b2n (blockedN s i) + 2 * b2n (blockedP s i)

/-- A mode entered in motion takes the curve over at an instant (R139). Profile position brakes until a set-point arrives;
the cyclic modes extrapolate over one T_ip, in which the acceleration falls to zero, and go on as R154 says (log entry 98). -/
def takeOver (s : State) (i te : Nat) (a0 : Rat) : State :=
  let s := s.put .MODE_ENTRY i 0
  let p := s.geti .EV_P i
  let v := s.geti .EV_V i
  if s.modeOf i = 1 then setPlan s i te (velocityPlan (planInput s i) p v a0 0)
  else if s.modeOf i = 3 then planVelocity (s.put .TGT_NEW i 0) i te a0
  else
    let tip := ipTicks s i
    let t : Rat := mkRat tip 160000000
    let g := internalSeg te tip p v (p + posUnits (velRat v * t + a0 * t * t / 3)) (v + velUnits (a0 * t / 2))
    (s.setMo i { s.mo i with plan := [], chain := [g] }).put .PLAN_STATE i 0

/-- Re-planning when an input or the target has developed (R144) or a blocked direction has opened or closed (R161,
R162), unless a stop or a halt holds the slot. -/
def replan (s : State) (i te : Nat) (before : List Nat) (a0 : Rat) : State :=
  if s.get .PLAN_STATE i = 6 ∨ s.flag .HALTED i ∨ s.drive i ≠ dsEnabled then s
  else
  let opened := blockedCode s i != s.get .BLOCK_SEEN i
  let s := s.put .BLOCK_SEEN i (blockedCode s i)
  if s.flag .MODE_ENTRY i ∧ !(s.modeOf i = 1 ∧ s.flag .TGT_NEW i) then takeOver s i te a0
  else if s.modeOf i = 1 then
    let s := s.put .MODE_ENTRY i 0
    if s.flag .TGT_NEW i then
      let s := ((s.put .TGT_NEW i 0).develop .PROFILE_DEC i).develop .PROFILE_JERK i
      planToTarget (s.put .DEFER_POSTED i 0) i te a0 false
    else if (before ≠ planKey s i ∧ (s.mo i).plan ≠ []) ∨ (opened ∧ s.flag .TGT_SET i) then planToTarget s i te a0 true
    else s
  else if s.modeOf i = 3 then
    if s.flag .STALL_STAND i then s else
    let s := if s.flag .TGT_NEW i || opened || decide (before ≠ planKey s i) then planVelocity (s.put .TGT_NEW i 0) i te a0 else s
    watchLimit s i te
  else if s.modeOf i = 6 then homingReplan s i te (decide (before ≠ planKey s i))
  else s

/-! ## Tolerance check (R132) -/

/-- Latches whose end tick lies before `t` and that have no position yet take `actual`. -/
def latchTol (s : State) (i t : Nat) (actual : Int) : State :=
  s.setMo i { s.mo i with tol := (s.mo i).tol.map fun l =>
    if l.actual.isNone ∧ l.endTick < t then { l with actual := some actual } else l }

/-- One latch that has its position. -/
def judgeLatch (s : State) (i te : Nat) (endPos a : Int) : State :=
  let dev := posDiff s a endPos
  if s.dv .TOL_WINDOW i < absN dev then
    let s := (s.put .TOL_FAIL i 1).post 0x0407 0x1 i (ofSigned 32 (satSigned 32 dev))
    if s.dv .TOL_ACTION i = 1 ∧ s.get .SEG_STATE i ≠ 0 ∧ s.get .SEG_STATE i < 6 then
      beginStop s i 5 (s.get .STOP_DEC i) false te (s.geti .EV_P i) (s.geti .EV_V i) 0
    else s
  else s

/-- The latches that have their position are judged, the oldest first. -/
def judgeTol (s : State) (i te : Nat) : State :=
  let done := (s.mo i).tol.filter fun l => l.actual.isSome
  let s := s.setMo i { s.mo i with tol := (s.mo i).tol.filter fun l => l.actual.isNone }
  done.foldl (fun a l => judgeLatch a i te l.endPos (l.actual.getD 0)) s

/-- With an encoder the feedback unit latches at the end tick: a count that has not moved since still stands. -/
def encoderTol (s : State) (i te : Nat) : State :=
  if s.hasEncoder i then judgeTol (latchTol s i (s.ts + 1) (s.actualPos i)) i te else s

/-! ## Target reached (R149, R150) -/

/-- The window time runs while a value stays inside its window. -/
def timeWindow (s : State) (i : Nat) (inside : Bool) : State :=
  if !inside then s.put .TR_IN i 0 else if s.flag .TR_IN i then s else (s.put .TR_IN i 1).put .TR_SINCE i s.ts

def windowHeld (s : State) (i time : Nat) : Bool := s.flag .TR_IN i && decide (time * ticksPerMs ≤ s.ts - s.get .TR_SINCE i)

def judgeReached (s : State) (i : Nat) : State :=
  let m := s.modeOf i
  if m = 1 then
    let atTarget := s.get .PLAN_STATE i == 0 && nearest s (s.geti .OUT_P i) (s.geti .TGT_P i) == s.geti .OUT_P i
      && !s.flag .TGT_NEW i && s.geti .OUT_V i == 0
    let win := s.get .POS_WINDOW i
    let off := nearest s 0 (s.actualPos i * usub - s.geti .TGT_P i) / usub
    let s := timeWindow s i (decide (absN off ≤ win))
    s.put .TARGET_REACHED i (b2n (atTarget && (win == 0 || windowHeld s i (s.get .POS_WINDOW_TIME i))))
  else if m = 3 then
    let s := timeWindow s i (decide (absN (s.geti .VEL_CMD i - s.dvi .TARGET_VEL i) ≤ s.get .VEL_WINDOW i))
    s.put .TARGET_REACHED i (b2n (windowHeld s i (s.get .VEL_WINDOW_TIME i)))
  else s

/-! ## The motion update -/

/-- A stop asked for since the last update begins at this instant from the curve (R125, R157). -/
def takeStop (s : State) (i te : Nat) (a0 : Rat) : State :=
  if s.get .STOP_REQ i = 0 then s
  else
    let cause := s.get .STOP_REQ i
    let rate := s.get .STOP_REQ_RATE i
    let sc := s.flag .STOP_REQ_SCURVE i
    let s := ((s.put .STOP_REQ i 0).put .STOP_REQ_RATE i 0).put .STOP_REQ_SCURVE i 0
    beginStop s i cause rate sc te (s.geti .EV_P i) (s.geti .EV_V i) a0

/-- The source of motion at this instant: a running plan first, then what the mode gives. -/
def curveAt (s : State) (i te : Nat) : State :=
  let m := s.modeOf i
  if (s.mo i).plan ≠ [] then planEval s i te
  else if s.get .SEG_STATE i ≠ 0 then streamUpdate s i te
  else if m = 7 ∨ m = 8 ∨ m = 9 then chainUpdate s i te
  else if s.get .SF_STATE i = 1 then followUpdate s i te
  else s.puti .EV_V i 0

/-- A pending stop comes before a segment's end, a go and a new segment (R126): the stream takes no boundary and the stop starts
at this instant. Where the running segment, or a curve that runs on from one, ends before it, the stop starts at that end
(log entry 98). -/
def haltFirst (s : State) (i te : Nat) : State :=
  if s.get .STOP_REQ i = 0 then s
  else
    let stop (t0 : Nat) (p v : Int) (a0 : Rat) : State :=
      let cause := s.get .STOP_REQ i
      let rate := s.get .STOP_REQ_RATE i
      let sc := s.flag .STOP_REQ_SCURVE i
      let s := s.clearAll [.STOP_REQ, .STOP_REQ_RATE, .STOP_REQ_SCURVE] i
      beginStop s i cause rate sc t0 p v a0
    match (s.mo i).plan, (s.mo i).cur with
    | [x], _ => if x.seg.endTick ≤ te ∧ x.seg.v1 ≠ 0 then stop x.seg.endTick x.seg.p1 x.seg.v1 0 else s
    | [], some g =>
      if s.get .SEG_STATE i ≠ 2 then s
      else if g.endTick ≤ te then stop g.endTick g.p1 g.v1 0
      else if te < g.start then stop te g.p0 0 0
      else stop te (g.pos (te - g.start)) (g.vel (te - g.start)) (accelAt g te)
    | [], none => if 1 ≤ s.get .SEG_STATE i ∧ s.get .SEG_STATE i ≤ 5 then stop te (s.geti .OUT_P i) 0 0 else s
    | _, _ => s

/-- The slot stands still (R138). -/
def judgeStill (s : State) (i : Nat) (vBefore : Int) : State :=
  let moving := (s.mo i).plan ≠ [] ∨ s.get .SEG_STATE i = 2 ∨ s.get .SEG_STATE i = 6 ∨ s.get .CH_STATE i = 1 ∧ s.geti .OUT_V i ≠ 0
  s.put .STILL_CMD i (b2n (decide (s.geti .OUT_V i = 0 ∧ vBefore = 0 ∧ ¬ moving)))

/-- One motion update of a slot for the evaluation instant `te` (R117), without homing's and the drive's own
transitions at standstill, which follow it. -/
def motionUpdate (s : State) (i te : Nat) : State :=
  let before := planKey s i
  let vBefore := s.geti .OUT_V i
  let s := developMotion s i
  let s := haltFirst s i te
  let s := curveAt s i te
  let a0 := curAccel s i te
  let s := takeStop s i te a0
  let s := replan s i te before a0
  let s := planDone s i te
  let s := encoderTol s i te
  let s := outputStage s i
  let s := judgeReached s i
  let s := updateAhead s i te
  (judgeStill s i vBefore).put .EV_T i te

end Sys2Proof.Machine
end

