-- ==== Sys2Proof/Machine/Homing.lean ====
section
/-! DEFINITION. Homing: methods, phases, the latch, chatter, the coordinate shift and failures (R163 to R171). -/

namespace Sys2Proof.Machine

/-- Methods with an index phase (R163). -/
def indexMethod (m : Int) : Bool := m == 1 || m == 2 || m == 3 || m == 4

def switchMethod (m : Int) : Bool := searchSwitch m != 0

/-- Direction of the search phase: positive for 2, 3, 18 and 19. -/
def searchPositive (m : Int) : Bool := m == 2 || m == 18 || m == 3 || m == 19

/-- Level of a role after the swap: 1 LIMN, 2 LIMP, 3 HOME. -/
def roleActive (s : State) (i sw : Nat) : Bool := s.getBit .SW_STATE i (sw - 1)

def roleEnabled (s : State) (i sw : Nat) : Bool :=
  if sw = 1 then s.dflag .LIMN_EN i else if sw = 2 then s.dflag .LIMP_EN i else s.dflag .HOME_EN i

/-- Whether a method can run on a slot (R163, R221). -/
def methodFits (s : State) (i : Nat) (m : Int) : Bool :=
  if switchMethod m then roleEnabled s i (searchSwitch m) && (!indexMethod m || s.hasEncoder i)
  else if m == 33 || m == 34 then s.hasEncoder i
  else if m == 35 || m == 37 then true
  else if m == -1 then
    (s.kind i == 1 || s.kind i == 2)
      && !(decide (s.get .SALIENCY i * 100 < s.dv .SAL_MIN i * 32768 ∧ s.dv .HOMING_SPEED_SW i < s.dv .OBS_VLOW i))
  else false

def homingFields : List Reg :=
  [.CHATTER_MAX, .HOME_DIST_MAX, .HS_CURRENT, .HS_BACKOFF, .HS_DIR, .HOME_MOVE_BACK, .HOME_IDX_MAX]

/-- Entering a phase (R164, R166): HOME_EDGES restarts and the phase's distance counts from here. -/
def homingPhase (s : State) (i st : Nat) (positive : Bool) (req : Nat) : State :=
  let s := ((s.put .HOME_STATE i st).put .HM_DIR i (b2n positive)).puti .HM_START i (s.geti .EV_P i)
  ((s.put .HM_TAKEN i 0).put .HOME_EDGES i 0).put .HM_REQ i req

/-- The settle phase: its distance counts from here (R164); chatter goes on with the phase it follows (R166). -/
def homingSettle (s : State) (i : Nat) : State := (s.put .HOME_STATE i 4).puti .HM_START i (s.geti .EV_P i)

/-- Failure with a code of R169; at standstill the state is FAILED at once. -/
def homingFail (s : State) (i code : Nat) : State :=
  let s := (s.put .HOME_FAIL i code).put .HOMED i 0
  let s := (s.put .HM_LIMITED i 0).put .HM_REQ i 0
  let s := s.post 0x0506 0x1 i code
  let moving := s.geti .EV_V i ≠ 0 ∨ (s.mo i).plan ≠ []
  let s := s.put .HOME_STATE i (if code = 6 ∨ ¬ moving then 7 else 6)
  if code = 1 ∨ code = 3 ∨ code = 4 then requestStop s i 8 (s.dv .HOMING_ACC i) false
  else if code = 2 then requestStop s i 3 (s.get .LIMIT_DEC i) false
  else s

def shiftSeg (d : Int) (g : Seg) : Seg := { g with p0 := g.p0 + d, p1 := g.p1 + d }

/-- The user coordinate moves by `d` µsteps (R167); commutation and the observer keep the unshifted position,
which is the user position less HOME_SHIFT. -/
def shiftCoordinate (s : State) (i : Nat) (d : Int) : State :=
  let d := wrapPos s d
  let e := d * usub
  let s := s.puti .HOME_SHIFT i (s.geti .HOME_SHIFT i + d)
  let s := [Reg.EV_P, .OUT_P, .TGT_P, .SP_P, .HM_START, .TAIL_P, .CH_TARGET, .CH_PREV, .SF_PREF].foldl
    (fun a r => a.puti r i (a.geti r i + e)) s
  let s := (s.puti .POS_CMD i (wrapPos s (s.geti .POS_CMD i + d))).puti .POS_EST i (wrapPos s (s.geti .POS_EST i + d))
  let s := s.puti .ACT_POS i (wrapPos s (s.geti .ACT_POS i + d))
  let m := s.mo i
  s.setMo i { m with
    cur := m.cur.map (shiftSeg e)
    accepted := m.accepted.map (shiftSeg e)
    plan := m.plan.map fun x => { x with seg := shiftSeg e x.seg }
    past := m.past.map (shiftSeg e)
    chain := m.chain.map (shiftSeg e)
    pulses := m.pulses.map (· + e) }

/-- The reference (R165, R167): HOME_LATCH takes the latched position, and the coordinate shifts so that it
becomes HOME_OFFSET. -/
def homingReference (s : State) (i : Nat) (latched : Int) : State :=
  let s := s.puti .HOME_LATCH i latched
  let off := s.geti .HOME_OFFSET i
  let s := shiftCoordinate s i (off - latched)
  s.puti .HM_REF i (off * usub)


/-- The latched position of an edge whose first sample at the new level was at tick `t` (R165). -/
def latchedAt (s : State) (i t : Nat) (encoderAt : Int) : Int :=
  if s.hasEncoder i then encoderAt else commandedAt s i t

/-- Success (R168, R171). -/
def homingAttained (s : State) (i : Nat) : State :=
  let s := ((s.put .HOME_STATE i 5).put .HOMED i 1).put .HM_MOVING_BACK i 0
  let s := (s.put .TGT_SET i 0).puti .TGT_P i (s.geti .OUT_P i)
  s.post 0x0505 0x1 i (trunc 32 (s.get .HOME_LATCH i))

/-- The start of a homing on a rising edge of controlword bit 4 in mode 6 (R163, R171). -/
def homingStart (s : State) (i : Nat) : State :=
  if homingRuns s i then s
  else
    let m := s.geti .HOMING_METHOD i
    let s := ((s.developList homingFields i).put .HOMED i 0).puti .HM_METHOD i m
    let s := (s.put .HM_MOVING_BACK i 0).put .HM_LIMITED i 0
    if !methodFits s i m then homingFail s i 6
    else if m = 35 ∨ m = 37 then
      homingAttained (homingReference s i (if s.hasEncoder i then s.geti .ACT_POS i else s.geti .OUT_P i / usub)) i
    else if m = 33 ∨ m = 34 then homingPhase s i 3 (m == 34) 1
    else if m = -1 then (homingPhase s i 1 (s.dflag .HS_DIR i) 1).put .HM_LIMITED i 1
    else if roleActive s i (searchSwitch m) then homingPhase s i 2 (!searchPositive m) 1
    else homingPhase s i 1 (searchPositive m) 1

/-- A qualified edge of the method's switch during homing (R164 to R166). -/
def homingEdge (s : State) (i sw : Nat) (active : Bool) (t : Nat) (encoderAt : Int) : State :=
  let m := s.geti .HM_METHOD i
  let st := s.get .HOME_STATE i
  if searchSwitch m ≠ sw then s
  else if st = 1 ∧ !s.flag .HM_TAKEN i ∧ active then (s.put .HM_TAKEN i 1).put .HM_REQ i 2
  else if st = 2 ∧ !s.flag .HM_TAKEN i ∧ !active then
    let s := s.put .HM_TAKEN i 1
    if indexMethod m then homingPhase s i 3 (s.flag .HM_DIR i) 1
    else (homingSettle (homingReference s i (latchedAt s i t encoderAt)) i).put .HM_REQ i 2
  else if (st = 1 ∨ st = 2 ∨ (st = 4 ∧ !indexMethod m)) ∧ s.flag .HM_TAKEN i then s.count .HOME_EDGES i
  else s

/-- A qualified Z edge during homing: the first index edge of the index phase is the reference, and every later edge of Z is
counted (R164, R166). -/
def homingIndex (s : State) (i : Nat) (isIndex : Bool) (encoderAt : Int) : State :=
  let m := s.geti .HM_METHOD i
  if s.get .HOME_STATE i = 3 then
    if isIndex then (homingSettle (homingReference (s.put .HM_TAKEN i 1) i encoderAt) i).put .HM_REQ i 2 else s
  else if s.get .HOME_STATE i = 4 ∧ (indexMethod m ∨ m = 33 ∨ m = 34) then s.count .HOME_EDGES i
  else s

/-- The stall that ends method −1 (R170): the commanded position becomes the estimate, the estimate is the
reference, and the back-off follows. -/
def homingStall (s : State) (i : Nat) : State :=
  let est := s.geti .POS_EST i
  let s := s.setMo i { s.mo i with plan := [] }
  let p := nearest s (s.geti .EV_P i) (est * usub)
  let s := (s.puti .EV_P i p).puti .EV_V i 0
  let s := (publish s i p 0).put .PLAN_STATE i 0
  let s := homingReference s i est
  let s := ((homingSettle s i).put .HM_TAKEN i 1).put .HM_LIMITED i 0
  if s.dv .HS_BACKOFF i = 0 then s else (s.put .HM_MOVING_BACK i 1).put .HM_REQ i 4

/-- Homing's own transitions at standstill, after a motion update (R164, R171). -/
def homingStill (s : State) (i : Nat) : State :=
  let still := s.geti .EV_V i = 0 ∧ (s.mo i).plan = [] ∧ s.get .HM_REQ i = 0 ∧ s.get .STOP_REQ i = 0
  if ¬ still then s
  else
    let m := s.geti .HM_METHOD i
    let st := s.get .HOME_STATE i
    if st = 1 ∧ s.flag .HM_TAKEN i then homingPhase s i 2 (!s.flag .HM_DIR i) 1
    else if st = 4 then
      if s.dflag .HOME_MOVE_BACK i && !s.flag .HM_MOVING_BACK i && m != -1 then
        (s.put .HM_MOVING_BACK i 1).put .HM_REQ i 3
      else homingAttained s i
    else if st = 6 then s.put .HOME_STATE i 7
    else s

/-- Homing ends with HOMING_ABORTED when a halt, a mode change or a departure from Operation enabled meets it (R169). -/
def homingAbort (s : State) (i : Nat) : State :=
  if decide (1 ≤ s.get .HOME_STATE i ∧ s.get .HOME_STATE i ≤ 4) then homingFail s i 5 else s

/-- Losing the reference (R168): stop-bath, coast or lock-out without an encoder. -/
def unhome (s : State) (i : Nat) : State := if s.hasEncoder i then s else s.put .HOMED i 0

end Sys2Proof.Machine
end

