-- ==== Sys2Proof/Machine/Trig.lean ====
section
/-! DEFINITION. The real functions of the manual's formulas: cosine and sine (R186, R188, R218, R219, R223), the angle of a vector
(R216) and the natural logarithm (R354, R355). Each is summed from its power series in parts of 2^64, far below the last place
it delivers; the last place itself rounds as log entry 4 says, and values that are exact there come out exact. -/

namespace Sys2Proof.Machine

/-- π and ln 2 in parts of 2^64. -/
def pi64 : Int := 57952155664616982739
def lnTwo64 : Int := 12786308645202655660

/-- The product of two numbers in parts of 2^64. -/
def mul64 (a b : Int) : Int := a * b / 2 ^ 64

/-- `n` terms of a power series in `x`: the power `p`, over the divisor of term `k`. The power is carried on by `step k`. -/
def powerSum (divisor : Nat → Int) (step : Nat → Int → Int) : Nat → Nat → Int → Int
  | 0, _, _ => 0
  | n + 1, k, p => p / divisor k + powerSum divisor step n (k + 1) (step k p)

/-- The cosine of `r` parts of 65536 of a turn within the first quarter, in parts of 2^64. -/
def cosQuarter (r : Int) : Int :=
  let x := r * pi64 / 32768
  if r = 16384 then 0
  else powerSum (fun _ => 1) (fun k p => -(mul64 p (mul64 x x) / (((2 * k + 1) * (2 * k + 2) : Nat) : Int))) 16 0 (2 ^ 64)

/-- The cosine of an angle in 1/65536 turn, in parts of 2^30. -/
def cosQ30 (a : Int) : Int :=
  let b := a % 65536
  let b := if 32768 < b then 65536 - b else b
  rdiv (if b ≤ 16384 then cosQuarter b else -cosQuarter (32768 - b)) (2 ^ 34)

/-- The sine is the cosine a quarter turn back. -/
def sinQ30 (a : Int) : Int := cosQ30 (a - 16384)

/-- The odd powers of `u` over their exponents: the arc tangent with `sign` −1, the inverse hyperbolic tangent with 1. -/
def arcSum (sign u : Int) : Int := powerSum (fun k => ((2 * k + 1 : Nat) : Int)) (fun _ p => sign * mul64 p (mul64 u u)) 32 0 u

/-- The angle, in 1/65536 turn, of the vector (x, y) with 0 ≤ y ≤ x and x > 0: beyond an eighth of a turn over two it is that
eighth less the angle of the vector mirrored about it. -/
def angleOctant (x y : Int) : Int :=
  let part (u : Int) : Int := rdiv (arcSum (-1) u * 32768) pi64
  if 5 * y ≤ 2 * x then part (y * 2 ^ 64 / x) else 8192 - part ((x - y) * 2 ^ 64 / (x + y))

/-- The angle, in 1/65536 turn, of the vector (x, y); the manual gives a vector of no length no angle. -/
def atan2Turn (x y : Int) : Int :=
  let a : Int := absN x
  let b : Int := absN y
  if a = 0 ∧ b = 0 then Config.angleOfZero
  else
    let q := if b ≤ a then angleOctant a b else 16384 - angleOctant b a
    let h := if x < 0 then 32768 - q else q
    if y < 0 then -h else h

/-- The natural logarithm of a natural number, in parts of 2^64: of its power of two, and of what is left between 1 and 2. -/
def ln64 (n : Nat) : Int :=
  let k := Nat.log2 n
  let m : Int := (n * 2 ^ 64 / 2 ^ k : Nat)
  k * lnTwo64 + 2 * arcSum 1 ((m - 2 ^ 64) * 2 ^ 64 / (m + 2 ^ 64))

/-- The natural logarithm, in 1/65536, of a ratio of two naturals; the manual gives a ratio with a 0 none. -/
def lnQ16 (n d : Nat) : Int := if n = 0 ∨ d = 0 then Config.lnOfZero n d else rdiv (ln64 n - ln64 d) (2 ^ 48)

end Sys2Proof.Machine
end

