-- ==== Sys2Proof/Machine/Current.lean ====
section
/-! DEFINITION. Current scaling, microstep setpoints, the predictive regulator, the window and the faults the
regulator finds (R181 to R209). Currents are held in µA, voltages in µV; a rounding the manual does not state is
left open (log entry 4). -/

namespace Sys2Proof.Machine

/-- Instance of component `w` of slot `i`. -/
def comp (i w : Nat) : Nat := 4 * i + w

def components (_s : State) (_i : Nat) : List Nat := [0, 1]

/-- I_TIA in µA (R181). -/
def tiaMicroamps (code : Nat) : Nat := [250, 500, 1000, 2000].getD code 2000

/-- IFS in mA from the developed fields (R181). -/
def ifsOf (s : State) (i : Nat) : Nat := tiaMicroamps (s.dv .TIA_RANGE i) * s.dv .SENSE_RATIO i / 1000

/-! ## The encoder's scaling (R313) -/

/-- What the channel decodes: 0 nothing, 1 quadrature, 2 Hall. -/
def chMode (s : State) (c : Nat) : Nat := if s.kind c = 3 then 2 else s.dv .CH_MODE c

def encRatio (s : State) (c : Nat) : Int := if chMode s c = 2 then 1024 * 65536 else s.dv .ENC_RATIO c

/-- Floor of the scaled count, without offset or shift. -/
def scaledCount (s : State) (c : Nat) (n : Int) : Int := n * encRatio s c / 65536

/-- ACT_POS for a count (R313). -/
def actOf (s : State) (c : Nat) (n : Int) : Int :=
  let p := scaledCount s c n + s.geti .ENC_OFS c + s.geti .HOME_SHIFT c
  if s.gn2008 then wrapPos s p else satSigned 48 p

def refreshAct (s : State) (c : Nat) : State :=
  if chMode s c = 0 then s else s.puti .ACT_POS c (actOf s c (s.geti .ENC_POS c))

def unalign (s : State) (c : Nat) : State := s.setBit .FB_STAT c 3 false

/-- ENC_RATIO develops at a slot disable, and the channel is then unaligned (R313, R314). -/
def ratioDevelop (s : State) (c : Nat) : State :=
  if s.get .ENC_RATIO c = s.dv .ENC_RATIO c then s
  else refreshAct (unalign (s.develop .ENC_RATIO c) c) c

/-! ## Scaling -/

/-- TIA_RANGE and SENSE_RATIO develop while the slot is disabled (R182). -/
def developDisabled (s : State) (i : Nat) : State :=
  let s := if s.get .TIA_RANGE i = s.dv .TIA_RANGE i then s else (s.slotPorts i).foldl (fun a p => a.put .PORT_SETTLE p 2) s
  let s := (s.develop .TIA_RANGE i).develop .SENSE_RATIO i
  let s := s.developList [.HARM3_AMP, .HARM3_PH, .HARM5_AMP, .HARM5_PH] i
  s.put .IFS_MA i (ifsOf s i)

/-- What develops while a slot is disabled (R182, R187, R313). -/
def restDevelop (s : State) (i : Nat) : State := if s.slotDisabled i then ratioDevelop (developDisabled s i) i else s

/-- µA of a signed fraction of IFS. -/
def fracToUa (s : State) (i : Nat) (f : Int) : Int := rdiv (f * (s.get .IFS_MA i * 1000)) 32768

/-- Signed fraction of IFS, saturating at ±0x7FFF (R183). -/
def uaToFrac (s : State) (i : Nat) (ua : Int) : Int :=
  if s.get .IFS_MA i = 0 then 0 else clampI (-32767) 32767 (rdiv (ua * 32768) (s.get .IFS_MA i * 1000))

/-- A port's sample as a current fraction: the code times 4; over range, ±0x7FFF with the sign of the code (R183). -/
def sampleFrac (s : State) (p : Nat) : Int :=
  let c := s.geti .SMP_CODE p
  if s.flag .SMP_OVR p then (if c < 0 then -32767 else 32767) else clampI (-32767) 32767 (4 * c)

/-! ## Amplitude (R185, R203, R204) -/

def limitInForce (b : Bool) (v : Nat) : Nat := if b then v else 0x8000

/-- I_lim: CUR_LIMIT, the thermal limit, the ride-through limit and HS_CURRENT (R185). -/
def iLim (s : State) (i : Nat) : Nat :=
  min (min (s.dv .CUR_LIMIT i) (s.get .THR_LIMIT i))
    (min (limitInForce (s.getBit .PWR_STATE i 0) (s.get .RT_LIMIT 0)) (limitInForce (s.flag .HM_LIMITED i) (s.dv .HS_CURRENT i)))

/-- I_base at this update (R203). -/
def iBase (s : State) (i : Nat) : Nat :=
  if !s.getBit .REG_STAT i 3 then s.dv .RUN_CURRENT i
  else
    let run : Int := s.dv .RUN_CURRENT i
    let hold : Int := s.dv .HOLD_CURRENT i
    let ramp := s.dv .HOLD_RAMP i * ticksPerMs
    let el := s.ts - s.get .RAMP_SINCE i
    if ramp ≤ el then hold.toNat else (run + rdiv ((hold - run) * el) ramp).toNat

/-- The end of standstill: HOLDING clears in the same update as the first non-zero commanded velocity (R203);
otherwise the standstill time runs. -/
def updateHold (s : State) (i : Nat) : State :=
  if s.geti .OUT_V i ≠ 0 then (s.setBit .REG_STAT i 3 false).put .HOLD_SINCE i s.ts
  else if s.flag .STILL_CMD i then s else s.put .HOLD_SINCE i s.ts

/-- The amplitude chain of R185; I_adapt rounds down (log entry 98). -/
def updateAmp (s : State) (i : Nat) : State :=
  let base := iBase s i
  let adapt := base * s.get .ADAPT_FACT i / 0x8000
  let lim := iLim s i
  let s := (s.put .I_BASE i base).put .CUR_AMP i (min adapt lim)
  s.setBit .REG_STAT i 2 (decide (lim < adapt))

/-- The load-adaptive factor (R204). -/
def updateAdapt (s : State) (i : Nat) (newReserve : Bool) (accelerating : Bool) : State :=
  if s.dv .ADAPT_EN i = 0 then s.put .ADAPT_FACT i 0x8000
  else if s.getBit .REG_STAT i 3 || !newReserve then s
  else
    let r := s.get .RESERVE i
    let f := s.get .ADAPT_FACT i
    if r = 0xFF ∨ 2 * r < s.dv .RES_TARGET i then s.put .ADAPT_FACT i 0x8000
    else if r < s.dv .RES_TARGET i then s.put .ADAPT_FACT i (min (f + 0x0800) 0x8000)
    else if s.dv .RES_TARGET i + s.dv .RES_BAND i < r ∧ ¬ accelerating ∧ s.get .ADAPT_FALL i + ticksPerMs ≤ s.ts then
      (s.put .ADAPT_FACT i (max (f - 0x0080) (s.dv .ADAPT_FLOOR i))).put .ADAPT_FALL i s.ts
    else s

/-! ## Microstep setpoints (R186, R188) -/

/-- Electrical turn in µsteps (R90). -/
def turnOf (kind : Nat) : Nat := if kind = 1 then 4096 else 6144

/-- The unshifted whole commanded position (R118, R167). -/
def unshifted (s : State) (i : Nat) : Int := s.geti .OUT_P i / usub - s.geti .HOME_SHIFT i

/-- The commanded electrical angle in 1/65536 turn. -/
def commandAngle (s : State) (i : Nat) : Int :=
  let n := turnOf (s.kind i)
  rdiv (unshifted s i % (n : Int) * 65536) n

/-- cos φ plus the harmonic terms, in parts of 2^30 (R186). -/
def shapeRaw (h3 h5 ph3 ph5 phi : Int) : Int :=
  cosQ30 phi + rdiv (h3 * cosQ30 (3 * phi + ph3)) 32768 + rdiv (h5 * cosQ30 (5 * phi + ph5)) 32768

/-- N: the largest magnitude over the 4096 table points (R186). -/
def shapePeak (h3 h5 ph3 ph5 : Int) : Nat :=
  (List.range 4096).foldl (fun a (k : Nat) => max a (absN (shapeRaw h3 h5 ph3 ph5 (16 * (k : Int))))) 1

/-- The shape function w(φ) in parts of 2^30 (R186, R188): no 3rd harmonic on kind 0x02, none on kind 0x03. -/
def shapeFn (s : State) (i : Nat) (phi : Int) : Int :=
  let h3 := if s.kind i = 1 then s.dvi .HARM3_AMP i else 0
  let h5 := if s.kind i = 3 then 0 else s.dvi .HARM5_AMP i
  if h3 = 0 ∧ h5 = 0 then cosQ30 phi
  else rdiv (shapeRaw h3 h5 (s.dv .HARM3_PH i) (s.dv .HARM5_PH i) phi * 2 ^ 30) (shapePeak h3 h5 (s.dv .HARM3_PH i) (s.dv .HARM5_PH i))

/-- √3 in parts of 2^30, the last part left open. -/
def sqrt3 : Int := rsqrt (3 * 2 ^ 60)

/-- Setpoints of the α and β components in µA at an amplitude and angle (R186, R188, R205). -/
def setpoints (s : State) (i : Nat) (amp : Int) (phi : Int) : List Int :=
  let ua (x : Int) : Int := rdiv (fracToUa s i amp * x) (2 ^ 30)
  if s.kind i = 1 then [ua (shapeFn s i phi), ua (shapeFn s i (phi - 16384))]
  else
    let third : Int := rdiv 65536 3
    let u := ua (shapeFn s i phi)
    let v := ua (shapeFn s i (phi - third))
    let w := ua (shapeFn s i (phi + third))
    [u, rdiv ((v - w) * 2 ^ 30) sqrt3]

/-! ## Measured currents (R189, R205) -/

def portSample (s : State) (i f : Nat) : Int := match s.portOf i f with
  | some p => sampleFrac s p
  | none => 0

/-- A fresh sample: of this period's window, not marked SETTLE, and no low side of the axis has tripped (R194). -/
def portFresh (s : State) (i f : Nat) : Bool := match s.portOf i f with
  | some p => s.flag .SMP_FRESH p && !s.flag .SMP_SETTLE p && (s.slotPorts i).all fun q => !s.flag .SMP_TRIP q
  | none => false

/-- Measured fractions of the windings A and B, or phases U, V and W. -/
def measured (s : State) (i : Nat) : List Int :=
  if s.kind i = 1 then
    [rdiv (portSample s i 1 - portSample s i 0) 2, rdiv (portSample s i 3 - portSample s i 2) 2, 0]
  else [-(portSample s i 4), -(portSample s i 5), -(portSample s i 6)]

/-- The sum checks (R189). -/
def sumChecks (s : State) (i : Nat) : List Int :=
  if s.kind i = 1 then [portSample s i 0 + portSample s i 1, portSample s i 2 + portSample s i 3]
  else [portSample s i 4 + portSample s i 5 + portSample s i 6]

/-- Whether a component has a fresh sample: every port it is formed from. -/
def freshComp (s : State) (i w : Nat) : Bool :=
  if s.kind i = 1 then portFresh s i (2 * w) && portFresh s i (2 * w + 1)
  else if w = 0 then portFresh s i 4 else portFresh s i 5 && portFresh s i 6

/-- α and β in µA. -/
def measuredAB (s : State) (i : Nat) : List Int :=
  let m := measured s i
  let a := fracToUa s i (m.getD 0 0)
  if s.kind i = 1 then [a, fracToUa s i (m.getD 1 0)]
  else [a, rdiv (fracToUa s i (m.getD 1 0 - m.getD 2 0) * 2 ^ 30) sqrt3]

/-- The ports a component is formed from. -/
def compPorts (s : State) (i w : Nat) : List Nat :=
  let fs := if s.kind i = 1 then [2 * w, 2 * w + 1] else if w = 0 then [4] else [5, 6]
  fs.filterMap (s.portOf i)

/-- A period that was due a fresh sample of a component: a windowed one, and under half rate the turn of the
component's ports (R194, R196). -/
def sampleDue (s : State) (i w : Nat) : Bool := s.flag .WINDOWED i && (compPorts s i w).all fun p => !s.flag .SMP_SKIP p

/-! ## The window (R190, R191) -/

/-- t_WSTART in 1/32 tick from a dead time in 1/32 tick. -/
def wStart32 (dead ilk blank : Nat) : Nat := dead + 32 * (ilk + blank)

/-- D_WIN with 0x8000 = 100 %, rounded down where not exact is left open. -/
def dWin (period dead ilk blank tsample : Nat) : Int :=
  if period = 0 then 0 else
  rdiv (((32 * period : Nat) - (wStart32 dead ilk blank + 32 * tsample : Nat) - dead : Int) * 32768) (32 * period)

/-- R191: 0 accepted, 1 the deadline check failed, 2 D_WIN below 50 %. 4.3625 µs are 698 ticks. -/
def windowCheck (period dead ilk blank tsample : Nat) : Nat :=
  if 32 * period < wStart32 dead ilk blank + 32 * 698 then 1
  else if 2 * (wStart32 dead ilk blank + 32 * tsample + dead) > 32 * period then 2
  else 0

/-- The window check of a slot with the latent PERIOD and DEAD_TIME of its ports (R191, R252). -/
def slotLoadCheck (s : State) (i : Nat) : Nat :=
  let p := s.firstPort i
  windowCheck (s.get .PERIOD p) (s.get .DEAD_TIME p) (s.dv .WIN_ILK i) (s.dv .CUR_BLANK i) (s.dv .T_SAMPLE i)

/-- The slots of a group whose window check fails. -/
def loadFailures (s : State) (g : Nat) : List Nat := (groupSlots s g).filter fun i => slotLoadCheck s i != 0

/-- Whether a LOAD_ALL develops at the coming period start of a port: the engine cycle before it computes for its values
(R250). -/
def loadsNext (s : State) (p : Nat) : Bool := s.get .LOAD_LEFT (groupOf s p) == 1 && (loadFailures s (groupOf s p)).isEmpty

def nextPeriod (s : State) (p : Nat) : Nat := if loadsNext s p then s.get .PERIOD p else s.get .PERIOD_DEV p

def nextDead (s : State) (p : Nat) : Nat := if loadsNext s p then s.get .DEAD_TIME p else s.get .DEAD_DEV p

def slotWindow (s : State) (i : Nat) : Int :=
  let p := s.firstPort i
  dWin (s.get .PERIOD_DEV p) (s.get .DEAD_DEV p) (s.dv .WIN_ILK i) (s.dv .CUR_BLANK i) (s.dv .T_SAMPLE i)

/-- D_WIN_RD reads the developed D_WIN (R190). -/
def putWindow (s : State) (i : Nat) : State := s.put .D_WIN_RD i (slotWindow s i).toNat

def rejectWindow (s : State) (i why : Nat) : State := (s.put .WIN_REJ i 1).post 0x0601 0x1 i why

/-- The window fields about to develop at the motion update (R191). A refused combination leaves the latent copies at
the developed values, so that it is refused once (log entry 11). -/
def developWindow (s : State) (i : Nat) : State :=
  if windowFields.all fun r => s.get r i == s.dv r i then s
  else
    let p := s.firstPort i
    let c := windowCheck (s.get .PERIOD_DEV p) (s.get .DEAD_DEV p) (s.get .WIN_ILK i) (s.get .CUR_BLANK i) (s.get .T_SAMPLE i)
    if c = 0 then putWindow (s.developList windowFields i) i
    else rejectWindow (windowFields.foldl (fun a r => a.put r i (a.dv r i)) s) i c

/-! ## The regulator (R197) -/

/-- R_w in mΩ and L_w in µH: the estimates once valid (R197, R230). -/
def rOf (s : State) (i : Nat) : Nat := if s.getBit .OBS_STAT i 2 then s.get .R_EST i else s.dv .WIND_R_NOM i

def lOf (s : State) (i : Nat) : Nat := max 1 (if s.getBit .OBS_STAT i 3 then s.get .L_EST i else s.dv .WIND_L_NOM i)

/-- (L/T) × Δi in µV and (T/L) × v in µA. -/
def lOverT (l t : Nat) (di : Int) : Int := rdiv (di * l * 160) t

def tOverL (l t : Nat) (v : Int) : Int := rdiv (v * t) (160 * l)

def vWin (s : State) (i : Nat) : Int := rdiv ((s.get .VBUS_FF i : Int) * 1000 * s.get .D_WIN_RD i) 32768

/-- A back-EMF vector turned on by an angle, in 1/65536 turn. -/
def turnVec (a b ang : Int) : Int × Int :=
  if ang = 0 then (a, b)
  else (rdiv (a * cosQ30 ang - b * sinQ30 ang) (2 ^ 30), rdiv (a * sinQ30 ang + b * cosQ30 ang) (2 ^ 30))

/-- Angle by which the rotor turns in a number of ticks at the observer's speed. -/
def turnIn (s : State) (i t : Nat) : Int := rdiv (s.geti .OBS_OMEGA i * t) ticksPerSecond

/-- The coming period has a window (R201). -/
def nextWindowed (s : State) (i : Nat) : Bool := !s.getBit .REG_STAT i 0 || decide (s.dv .HD_WIN_EVERY i ≤ s.get .HD_COUNT i + 1)

/-- vmax of the period in which the voltage develops: vwin where it has a window, else VBUS_FF (R197, R201). -/
def vMax (s : State) (i : Nat) : Int :=
  let p := s.firstPort i
  let d : Int := if loadsNext s p then dWin (nextPeriod s p) (nextDead s p) (s.dv .WIN_ILK i) (s.dv .CUR_BLANK i) (s.dv .T_SAMPLE i)
    else s.get .D_WIN_RD i
  let v : Int := s.get .VBUS_FF i * 1000
  if nextWindowed s i then rdiv (v * d) 32768 else v

/-- One component of R197: the new state and the unclamped voltage. -/
def regulate1 (s : State) (i w : Nat) (im : Int) (fresh : Bool) (ref eNext : Int) : State × Int :=
  let k := comp i w
  let t := s.period i
  let l := lOf s i
  let r : Int := rOf s i
  let im := if fresh then im else s.geti .W_IPRED k
  let lim := rdiv (vWin s i) 4
  let s :=
    if fresh && !s.flag .W_SAT k then
      s.puti .W_X k (clampI (-lim) lim (s.geti .W_X k + rdiv (s.dv .CR_KI i * lOverT l t (s.geti .W_REF k - im)) 65536))
    else s
  let ip := im + tOverL l t (s.geti .W_VAPP k - rdiv (r * im) 1000 - s.geti .W_E k)
  let v := rdiv (r * ip) 1000 + eNext + rdiv (s.dv .CR_GAIN i * lOverT l t (ref - ip)) 32768 + s.geti .W_X k
  ((s.puti .W_IPRED k ip).puti .W_REF k ref, v)

/-- Saturation of a component, and CUR_VOLT_SAT at its first after 16 unsaturated updates (R200). -/
def markSat (s : State) (i w : Nat) (sat : Bool) : State :=
  let k := comp i w
  let s := s.put .W_SAT k (b2n sat)
  if sat then
    let s := s.put .VOLT_SAT i 1
    let s := if 16 ≤ s.get .W_UNSAT k then s.post 0x0600 0x1 i w else s
    s.put .W_UNSAT k 0
  else s.put .W_UNSAT k (min 16 (s.get .W_UNSAT k + 1))

/-- Whether a predicted port current is within 1/64 of IFS of zero (R199). -/
def nearZero (s : State) (i : Nat) (ua : Int) : Bool := decide (64 * absN ua ≤ s.get .IFS_MA i * 1000)

/-- Compare value of a port in 1/32 tick for its share of the bus voltage (R199): sourcing, sinking or near zero current; not
before t_LLEND where the period it develops in has a window; a port at duty 0 keeps its low side on to the period end. -/
def compareFor (s : State) (i p : Nat) (v vbus : Int) (ua : Int) : Int :=
  let per : Int := 32 * nextPeriod s p
  let dt : Int := nextDead s p
  let c0 := per - (if vbus = 0 then 0 else rdiv (v * per) vbus)
  let c := if nearZero s i ua then c0 else if 0 < ua then c0 - dt else c0 + dt
  let ll : Int := (wStart32 (nextDead s p) (s.dv .WIN_ILK i) (s.dv .CUR_BLANK i) + 32 * s.dv .T_SAMPLE i : Nat)
  if v = 0 then per else min per (if nextWindowed s i then max c ll else c)

/-- Port voltages from the component voltages (R199, R205). -/
def portVolts (s : State) (i : Nat) (va vb : Int) : List (Nat × Int × Int) :=
  if s.kind i = 1 then
    let ia := s.geti .W_IPRED (comp i 0)
    let ib := s.geti .W_IPRED (comp i 1)
    [(0, max va 0, ia), (1, max (-va) 0, -ia), (2, max vb 0, ib), (3, max (-vb) 0, -ib)]
  else
    let h := rdiv (vb * sqrt3) (2 ^ 31)
    let u := va
    let v := -(rdiv va 2) + h
    let w := -(rdiv va 2) - h
    let low := min u (min v w)
    let ia := s.geti .W_IPRED (comp i 0)
    let ih := rdiv (s.geti .W_IPRED (comp i 1) * sqrt3) (2 ^ 31)
    [(4, u - low, ia), (5, v - low, -(rdiv ia 2) + ih), (6, w - low, -(rdiv ia 2) - ih)]

/-- The compare values an engine posts for its ports (R199, R205), port and C in 1/32 tick. -/
def comparesOf (s : State) (i : Nat) : List (Nat × Int) :=
  let vbus : Int := s.get .VBUS_FF i * 1000
  (portVolts s i (s.geti .W_VNEXT (comp i 0)) (s.geti .W_VNEXT (comp i 1))).filterMap fun (f, v, ua) =>
    (s.portOf i f).map fun p => (p, compareFor s i p v vbus ua)

/-- The voltages of the coming period within vmax: each component is clamped (R197), and a three-phase vector whose phase
voltages spread wider than vmax is scaled down whole, which saturates both components (R205). -/
def settleVolts (s : State) (i : Nat) (v0 v1 : Int) : State :=
  let vmax := vMax s i
  let va := clampI (-vmax) vmax v0
  let vb := clampI (-vmax) vmax v1
  let spread := if s.kind i = 1 then 0 else ((portVolts s i va vb).map fun x => x.2.1).foldl max 0
  let wide := decide (vmax < spread)
  let fit (v : Int) : Int := if wide then rdiv (v * vmax) spread else v
  let s := (s.puti .W_VNEXT (comp i 0) (fit va)).puti .W_VNEXT (comp i 1) (fit vb)
  markSat (markSat s i 0 (wide || decide (vmax < absN v0))) i 1 (wide || decide (vmax < absN v1))

/-- The bookkeeping of missing samples (R194, R195) of one component. -/
def countMissing (s : State) (i w : Nat) (fresh : Bool) : State :=
  let k := comp i w
  if fresh then s.put .W_MISS k 0
  else if sampleDue s i w then (s.count .W_MISS k).count .NOSAMPLE i
  else s

/-- The faults of R208 for the sum checks and the open winding. -/
def judgeSum (s : State) (i w : Nat) (sum : Int) (fresh : Bool) : State :=
  let k := comp i w
  if !fresh ∨ s.dv .SUM_TOL i = 0 then s
  else if s.dv .SUM_TOL i < absN sum then
    (s.put .W_SUM k (min 8 (s.get .W_SUM k + 1))).puti .W_SUMVAL k (satSigned 16 sum)
  else s.put .W_SUM k 0

def judgeOpen (s : State) (i w : Nat) (ref im : Int) : State :=
  let k := comp i w
  if !s.flag .WINDOWED i then s
  else if s.flag .W_SAT k && decide (s.get .IFS_MA i * 1000 < 4 * absN ref ∧ 8 * absN im < absN ref) then
    s.put .W_OPEN k (min 32 (s.get .W_OPEN k + 1))
  else s.put .W_OPEN k 0

/-- High-duty operation of an axis after its windings are regulated (R201). -/
def highDuty (s : State) (i : Nat) (peak : Nat) : State :=
  let lim := vWin s i
  let every := s.dv .HD_WIN_EVERY i
  if !s.getBit .REG_STAT i 0 then
    if s.flag .WINDOWED i && decide (lim < peak ∧ 1 < every) then
      (((s.setBit .REG_STAT i 0 true).put .HD_LOW i 0).put .HD_COUNT i 0).post 0x0606 0x1 i 1
    else s
  else s.put .HD_LOW i (if (peak : Int) * 16 ≤ lim * 15 then min 16 (s.get .HD_LOW i + 1) else 0)

/-- Whether the coming period has a window, in high-duty operation every HD_WIN_EVERY-th (R201). -/
def windowPattern (s : State) (i : Nat) : State :=
  if !s.getBit .REG_STAT i 0 then (s.put .WINDOWED i 1).put .HD_COUNT i 0
  else
    let n := s.get .HD_COUNT i + 1
    if s.dv .HD_WIN_EVERY i ≤ n then (s.put .WINDOWED i 1).put .HD_COUNT i 0
    else (s.put .WINDOWED i 0).put .HD_COUNT i n

/-- The speed loop of kind 0x03 (R207): I_q in fraction codes. Speeds are in 1/64 µstep/s. The accumulator y is kept as a whole
number, each update's term rounded to one: the manual states no resolution (log entry 98). -/
def speedLoop (s : State) (i : Nat) (vHall : Int) : State :=
  let e := s.geti .VEL_CMD i - vHall
  let lim : Int := iLim s i
  let y := s.geti .BL_Y i
  let q := rdiv (s.dv .BL_KP i * e + 64 * y) (64 * 65536)
  let s := s.puti .I_Q i (clampI (-lim) lim q)
  let s := s.put .CUR_AMP i (absN (s.geti .I_Q i))
  if lim < absN q then s
  else s.puti .BL_Y i (y + rdiv (s.dv .BL_KI i * e * s.period i) (64 * ticksPerSecond))

/-- Electrical angle of a Hall slot in µsteps (R206). -/
def hallAngle (s : State) (i : Nat) (t : Nat) (vHall : Int) (standing : Bool) : Int :=
  let m : Int := s.get .HALL_SECT i
  let ofs : Int := s.dv .HALL_OFS i
  if standing then (m * 1024 + 512 + ofs) % 6144
  else
    let run := clampI (-1024) 1024 (rdiv (vHall * (t - s.get .HALL_TICK i : Nat)) (64 * ticksPerSecond))
    (s.get .HALL_THETA i + run) % 6144

/-- The regulator of one slot in its engine cycle (R197 to R205). `phi` is the electrical angle in 1/65536 turn and
`amp` the amplitude. -/
def regulateSlot (s : State) (i : Nat) (amp phi : Int) : State :=
  let sp := setpoints s i amp phi
  let refs := [sp.getD 0 0 + s.geti .W_RADD (comp i 0), sp.getD 1 0 + s.geti .W_RADD (comp i 1)]
  let mraw := measuredAB s i
  let meas := [mraw.getD 0 0 - s.geti .W_IRESP (comp i 0), mraw.getD 1 0 - s.geti .W_IRESP (comp i 1)]

  let (en0, en1) := turnVec (s.geti .W_E (comp i 0)) (s.geti .W_E (comp i 1)) (turnIn s i (s.period i))
  let f0 := freshComp s i 0
  let f1 := freshComp s i 1
  let s := countMissing (countMissing s i 0 f0) i 1 f1
  let live := !s.getBit .REG_STAT i 4
  let (s, v0) := regulate1 s i 0 (meas.getD 0 0) (f0 && live) (refs.getD 0 0) en0
  let (s, v1) := regulate1 s i 1 (meas.getD 1 0) (f1 && live) (refs.getD 1 0) en1
  let s := settleVolts (highDuty s i (max (absN v0) (absN v1))) i v0 v1
  let sums := sumChecks s i
  let s := judgeSum s i 0 (sums.getD 0 0) (f0 && (f1 || s.kind i == 1))
  let s := if s.kind i = 1 then judgeSum s i 1 (sums.getD 1 0) f1 else s
  let s := judgeOpen s i 0 (refs.getD 0 0) (meas.getD 0 0)
  let s := judgeOpen s i 1 (refs.getD 1 0) (meas.getD 1 0)
  s.put .HD_PEAK i (max (absN v0) (absN v1))

/-- The fresh samples of a cycle, also while the regulator rests (R183, R209): the measured fractions and µA. -/
def takeSamples (s : State) (i : Nat) : State :=
  let m := measured s i
  let ab := measuredAB s i
  let f0 := freshComp s i 0
  let f1 := freshComp s i 1
  let s := if f0 then (s.puti .CUR_MEAS_0 i (m.getD 0 0)).puti .W_MEAS (comp i 0) (ab.getD 0 0) else s
  if f1 then ((s.puti .CUR_MEAS_1 i (m.getD 1 0)).puti .CUR_MEAS_2 i (m.getD 2 0)).puti .W_MEAS (comp i 1) (ab.getD 1 0) else s

/-- While no compare values are posted, integral terms are 0 and predicted currents the last measurement (R209). -/
def restRegulator (s : State) (i : Nat) : State :=
  (components s i).foldl (fun a w =>
    (((a.puti .W_X (comp i w) 0).puti .W_IPRED (comp i w) (a.geti .W_MEAS (comp i w))).puti .W_VNEXT (comp i w) 0).put
      .W_SAT (comp i w) 0) s

end Sys2Proof.Machine
end

