-- ==== Sys2Proof/Machine/Observer.lean ====
section
/-! DEFINITION. The load observer: back-EMF, rotor angle, injection, position estimate, stall criteria, probes,
resistance and inductance, virtual winding temperature (R214 to R240). Angles are in 1/65536 electrical turn,
voltages in µV, currents in µA. -/

namespace Sys2Proof.Machine

/-! ## Status bits of OBS_STAT -/

def stAngle : Nat := 0
def stEmf : Nat := 1
def stR : Nat := 2
def stL : Nat := 3
def stKe : Nat := 4
def stProbe : Nat := 5
def stInject : Nat := 6
def stUncertain : Nat := 7

def State.ob (s : State) (i k : Nat) : Bool := s.getBit .OBS_STAT i k

def State.setOb (s : State) (i k : Nat) (b : Bool) : State := s.setBit .OBS_STAT i k b

/-- Fields of the observer that develop at the next motion update (R241). -/
def observerFields : List Reg :=
  [.STALL_ANGLE, .STALL_COUNT, .STALL_ACTION, .EMF_COLLAPSE, .OBS_VLOW, .INJ_EN, .INJ_STILL, .OBS_USE_ENC, .INJ_VOLT,
   .SAL_MIN, .VW_R25, .VW_MAXAGE]

def absVel (s : State) (i : Nat) : Nat := absN (s.geti .VEL_CMD i)

/-- |VEL_CMD| ≥ 1.25 × OBS_VLOW. -/
def fastEnough (s : State) (i : Nat) : Bool := decide (5 * s.dv .OBS_VLOW i ≤ 4 * absVel s i)

def encFaulty (s : State) (i : Nat) : Bool := s.getBit .FB_STAT i 2

/-- Angle from the encoder: the scaled position, as for the following error (R222). -/
def encAngle (s : State) (i : Nat) : Int :=
  let n := turnOf (s.kind i)
  rdiv ((s.geti .ACT_POS i - s.geti .HOME_SHIFT i) % (n : Int) * 65536) n

def inMinusOne (s : State) (i : Nat) : Bool := homingRuns s i && s.geti .HM_METHOD i == -1

/-! ## Modes (R222) -/

/-- The first row that applies. After a clear of PWM_EN the observer keeps tracking (R265); an unaligned channel
counts as faulted (R314). -/
def observerMode (s : State) (i : Nat) : Nat :=
  let sb := s.get .SB_STATE i
  if s.kind i = 0 ∨ s.getBit .PWR_STATE i 1 ∨ s.getBit .PWR_STATE i 2 ∨ sb = 2 ∨ sb = 3 ∨ (sb = 0 ∧ s.slotDisabled i ∧ s.get .FAULT_CAUSE i ≠ 0x10) then 0
  else if sb = 1 then 5
  else if s.kind i = 3 then 4
  else if s.dflag .OBS_USE_ENC i ∧ s.hasEncoder i ∧ ¬ encFaulty s i ∧ s.getBit .FB_STAT i 3 then 3
  else if fastEnough s i ∨ (s.get .OBS_MODE i = 2 ∧ s.dv .OBS_VLOW i ≤ absVel s i) then 2
  else if s.dflag .INJ_EN i ∧ (s.geti .VEL_CMD i ≠ 0 ∨ inMinusOne s i ∨ s.dflag .INJ_STILL i) then 1
  else 6

def clearStallRuns (s : State) (i : Nat) : State :=
  ((s.put .STALL_RUN (4 * i) 0).put .STALL_RUN (4 * i + 1) 0).put .STALL_RUN (4 * i + 2) 0

/-- HOMED clears on a slot without an encoder when its position becomes uncertain (R168, R224). -/
def positionLost (s : State) (i : Nat) : State := unhome (s.setOb i stUncertain true) i

/-- In mode OFF without an angle source the position is uncertain (R222). -/
def offUncertain (s : State) (i : Nat) : State :=
  if s.get .OBS_MODE i = 0 ∧ !(s.hasEncoder i && s.dflag .OBS_USE_ENC i) then positionLost s i else s

/-- A change of mode (R220, R222, R226): counts restart, and INJECT takes its first angle: a valid one of the old mode, or the
commanded angle where it starts from standstill with current flowing. -/
def changeMode (s : State) (i m : Nat) (stood : Bool) : State :=
  if s.get .OBS_MODE i = m then s
  else
    let s := clearStallRuns s i
    let s := if m = 1 ∧ ¬ s.ob i stAngle ∧ stood ∧ 0 < s.get .CUR_AMP i then
        (s.put .OBS_TH_LAST i (ofSigned 16 (commandAngle s i))).put .OBS_TH i (ofSigned 16 (commandAngle s i))
      else s
    let s := if m = 1 then (s.clearAll [.OBS_HW, .OBS_CYC, .OBS_REF_PEND] i).setOb i stInject true else s.setOb i stInject false
    s.put .OBS_MODE i m

/-! ## Back-EMF (R215, R216, R223, R227) -/

/-- Rotor speed in µstep/s from the observer's angle rate. -/
def omegaSteps (s : State) (i : Nat) : Int := rdiv (s.geti .OBS_OMEGA i * turnOf (s.kind i)) 65536

/-- The back-EMF KE_EST predicts at a speed in 1/64 µstep/s, in µV. -/
def expectedEmf (s : State) (i v64 : Nat) : Int := rdiv ((s.get .KE_EST i : Int) * v64) 64000

/-- |e| in µV. -/
def emfMag (s : State) (i : Nat) : Nat :=
  rsqrt ((absN (s.geti .W_E (comp i 0))) ^ 2 + (absN (s.geti .W_E (comp i 1))) ^ 2)

def correctEmf (s : State) (i w : Nat) : State :=
  let k := comp i w
  s.puti .W_E k (s.geti .W_E k + rdiv (lOverT (lOf s i) (s.period i) (s.geti .W_MEAS k - s.geti .W_OPRED k)) 4)

def turnEmf (s : State) (i : Nat) : State :=
  let (a, b) := turnVec (s.geti .W_E (comp i 0)) (s.geti .W_E (comp i 1)) (turnIn s i (s.period i))
  (s.puti .W_E (comp i 0) a).puti .W_E (comp i 1) b

/-- The modelled back-EMF of mode INJECT (R223). -/
def modelEmf (s : State) (i : Nat) : State :=
  if ¬ s.ob i stKe then (s.put .W_E (comp i 0) 0).put .W_E (comp i 1) 0
  else
    let v := omegaSteps s i
    let mag := rdiv ((s.get .KE_EST i : Int) * v) 1000
    let th : Int := s.get .OBS_TH i + 16384
    (s.puti .W_E (comp i 0) (rdiv (mag * cosQ30 th) (2 ^ 30))).puti .W_E (comp i 1) (rdiv (mag * sinQ30 th) (2 ^ 30))

/-- EMF_VALID and EMF_EST (R215). -/
def emfFlags (s : State) (i : Nat) (corrected : Bool) : State :=
  let s := s.put .EMF_EST i (min (rdiv (emfMag s i) 1000).toNat 0xFFFF)
  if absVel s i < s.dv .OBS_VLOW i then (s.put .OBS_EMF_RUN i 0).setOb i stEmf false
  else if corrected then
    let n := min 32 (s.get .OBS_EMF_RUN i + 1)
    (s.put .OBS_EMF_RUN i n).setOb i stEmf (decide (32 ≤ n))
  else s

/-- The prediction for the next sample: the regulator's, or of the shorted winding with v = 0 (R215, R222). -/
def predictNext (s : State) (i w : Nat) : State :=
  let k := comp i w
  if s.get .OBS_MODE i = 5 then
    let im := s.geti .W_MEAS k
    s.puti .W_OPRED k (im + tOverL (lOf s i) (s.period i) (-(rdiv (rOf s i * im) 1000) - s.geti .W_E k))
  else s.puti .W_OPRED k (s.geti .W_IPRED k)

def updateEmf (s : State) (i : Nat) (f0 f1 : Bool) : State :=
  let m := s.get .OBS_MODE i
  if m = 1 then emfFlags (modelEmf s i) i false
  else if m = 2 ∨ m = 5 then
    let s := if f0 ∧ f1 then s else turnEmf s i
    let s := if f0 then correctEmf s i 0 else s
    let s := if f1 then correctEmf s i 1 else s
    emfFlags s i (f0 || f1)
  else emfFlags (turnEmf s i) i false

/-- The angle of R216. The sign of the speed is that of the command until a speed is known. -/
def emfAngle (s : State) (i : Nat) : Int :=
  let dir := if s.geti .OBS_OMEGA i = 0 then sgn (s.geti .VEL_CMD i) else sgn (s.geti .OBS_OMEGA i)
  atan2Turn (s.geti .W_E (comp i 0)) (s.geti .W_E (comp i 1)) - dir * 16384

def emfStrong (s : State) (i : Nat) : Bool :=
  decide (expectedEmf s i (absVel s i) ≤ 8 * emfMag s i ∧ 50000 ≤ emfMag s i)

/-! ## Injection (R219 to R221, R235) -/

/-- H: half of the injection period in PWM periods (R219), rounding halves up. -/
def halfWave (s : State) (i : Nat) : Nat :=
  let p := max 1 (s.period i)
  let h := max 1 ((32000 + p) / (2 * p))
  if s.getBit .REG_STAT i 1 then 2 * h else h

/-- The injected voltage of the next period: along the rotor axis, each 16th cycle across it, omitted under
saturation (R219, R220). -/
def inject (s : State) (i : Nat) : State :=
  let off := (s.put .W_INJNEXT (comp i 0) 0).put .W_INJNEXT (comp i 1) 0
  if s.get .OBS_MODE i ≠ 1 ∨ s.flag .W_SAT (comp i 0) ∨ s.flag .W_SAT (comp i 1)
      ∨ (s.get .PROBE_KIND i ≠ 0 ∧ s.geti .OUT_V i = 0) then off
  else
    let h := halfWave s i
    let th : Int := s.get .OBS_TH i + (if s.get .OBS_CYC i = 15 then 16384 else 0)
    let v : Int := (if s.get .OBS_HW i < h then 1 else -1) * (s.dv .INJ_VOLT i * 1000 : Nat)
    let a := rdiv (v * cosQ30 th) (2 ^ 30)
    let b := rdiv (v * sinQ30 th) (2 ^ 30)
    let s := (s.puti .W_INJNEXT (comp i 0) a).puti .W_INJNEXT (comp i 1) b
    (s.puti .W_VNEXT (comp i 0) (s.geti .W_VNEXT (comp i 0) + a)).puti .W_VNEXT (comp i 1) (s.geti .W_VNEXT (comp i 1) + b)

def sensorSalLow (s : State) (i : Nat) : Bool := decide (s.get .SALIENCY i * 100 < s.dv .SAL_MIN i * 32768)

/-- SALIENCY from the two responses: the inductances are inverse to them (R220). Without any response it is a free value. -/
def updateSaliency (s : State) (i : Nat) : State :=
  let a := absN (s.geti .OBS_RA i)
  let c := absN (s.geti .OBS_RC i)
  if a + c = 0 then (s.put .SALIENCY i (s.free % 32769)).freed
  else s.put .SALIENCY i (rdiv (32768 * absN ((a : Int) - c)) (a + c : Nat)).toNat

/-- L_EST from the mean of the two responses, 1/64 of the way each injection cycle once both are known (R235). The first step
starts from WIND_L_NOM: the manual names no other start (log entry 99). -/
def updateL (s : State) (i : Nat) : State :=
  if s.kind i = 3 then s
  else
    let d := (absN (s.geti .OBS_RA i) + absN (s.geti .OBS_RC i)) / 2
    let s := if d = 0 ∨ s.geti .OBS_RC i = 0 then s
      else
        let l := rdiv ((s.dv .INJ_VOLT i * halfWave s i * s.period i * 1000 * 64 : Nat) : Int) (160 * d : Nat)
        let old := if s.geti .L_FINE i = 0 then 64 * (s.dv .WIND_L_NOM i : Int) else s.geti .L_FINE i
        let s := s.puti .L_FINE i (old + rdiv (l - old) 64)
        s.put .L_EST i (min (rdiv (s.geti .L_FINE i) 64).toNat 0xFFFF)
    let s := s.put .OBS_L_CYC i (min 16 (s.get .OBS_L_CYC i + 1))
    s.setOb i stL (decide (16 ≤ s.get .OBS_L_CYC i) && s.get .L_EST i != 0)

/-- What the refinement takes from injection cycles that ended, at the first update it runs in (R214, R220, R235): 1 the
saliency, 2 the inductance. -/
def refineInjection (s : State) (i : Nat) : State :=
  let p := s.get .OBS_REF_PEND i
  let s := s.put .OBS_REF_PEND i 0
  let s := if bit p 0 then updateSaliency s i else s
  if bit p 1 then updateL s i else s

/-- The rotor angle from the responses of a half-wave, in 1/65536 turn: no correction without a response across the axis, and
the angle of the two that repeat each half turn that is nearer to the last valid one (R220). How large a correction is the
manual leaves open. -/
def injectedAngle (s : State) (i : Nat) (across : Bool) (along cross : Int) : Nat :=
  let d := if cross = 0 then 0 else toSigned 15 (ofSigned 15 (Config.injectCorrection across along cross))
  ofSigned 16 (s.get .OBS_TH_LAST i + d)

/-- The end of a half-wave: the responses along and across the injected axis, the angle, and at the end of a cycle what the
refinement takes from it (R220, R221, R235). -/
def demodulate (s : State) (i : Nat) : State :=
  let across := s.get .OBS_CYC i = 15
  let th : Int := s.get .OBS_TH i + (if across then 16384 else 0)
  let d0 := s.geti .W_MEAS (comp i 0) - s.geti .W_I0 (comp i 0)
  let d1 := s.geti .W_MEAS (comp i 1) - s.geti .W_I0 (comp i 1)
  let along := rdiv (d0 * cosQ30 th + d1 * sinQ30 th) (2 ^ 30)
  let cross := rdiv (d1 * cosQ30 th - d0 * sinQ30 th) (2 ^ 30)
  let s := (s.puti .W_I0 (comp i 0) (s.geti .W_MEAS (comp i 0))).puti .W_I0 (comp i 1) (s.geti .W_MEAS (comp i 1))
  let s := (if across then s.puti .OBS_RC i along else s.puti .OBS_RA i along).puti .OBS_RX i cross
  let s := s.put .OBS_TH i (injectedAngle s i across along cross)
  if s.get .OBS_HW i + 1 < 2 * halfWave s i then s
  else
    let s := (s.setBit .OBS_REF_PEND i 1 true).setBit .OBS_REF_PEND i 0 (across || s.getBit .OBS_REF_PEND i 0)
    s.put .OBS_CYC i ((s.get .OBS_CYC i + 1) % 16)

def injectStep (s : State) (i : Nat) (refine : Bool) : State :=
  if s.get .OBS_MODE i ≠ 1 then s
  else
    let h := halfWave s i
    let n := s.get .OBS_HW i
    let s := if (n + 1) % h = 0 then demodulate s i else s
    let s := if refine then refineInjection s i else s
    let s := s.put .OBS_HW i ((n + 1) % (2 * h))
    if sensorSalLow s i then
      let s := s.put .SAL_LOW i 1
      if s.flag .OBS_SAL_POSTED i then s
      else (s.put .OBS_SAL_POSTED i 1).post 0x0701 0x1 i (s.get .SALIENCY i)
    else s

/-! ## Angle, load angle and reserve (R216 to R218) -/

/-- The rotor angle of this update and whether it is valid. -/
def rotorAngle (s : State) (i : Nat) (hall : Int) : Int × Bool :=
  let m := s.get .OBS_MODE i
  if m = 2 ∨ m = 5 then (emfAngle s i, emfStrong s i)
  else if m = 1 then (s.get .OBS_TH i, !sensorSalLow s i)
  else if m = 3 then (encAngle s i, true)
  else if m = 4 then (rdiv (hall * 65536) 6144, true)
  else if m = 0 ∧ s.hasEncoder i ∧ s.dflag .OBS_USE_ENC i then (encAngle s i, true)
  else (s.get .OBS_TH_LAST i, false)

/-- floor(100 × (1 − sin δ)) % up to a quarter turn, 0 beyond (R218). -/
def reserveOf (d : Nat) : Nat :=
  if 16384 < d then 0 else (100 * (2 ^ 30 - sinQ30 d) / 2 ^ 30).toNat

def updateLoad (s : State) (i : Nat) (phi : Int) : State :=
  if s.ob i stAngle then
    let la := if s.get .OBS_MODE i = 4 then 16384 * sgn (s.geti .I_Q i) else toSigned 16 (ofSigned 16 (phi - s.get .OBS_TH i))
    let s := s.puti .LOAD_ANGLE i la
    if s.kind i = 3 then
      let lim := iLim s i
      if lim = 0 then (s.put .RESERVE i (s.free % 101)).freed
      else s.put .RESERVE i (100 * (lim - min lim (absN (s.geti .I_Q i))) / lim)
    else s.put .RESERVE i (reserveOf (absN la))
  else
    let d := rdiv (posDiff s (s.geti .OUT_P i / usub) (s.geti .POS_EST i) * 65536) (turnOf (s.kind i))
    (s.puti .LOAD_ANGLE i (clampI (-32767) 32767 d)).put .RESERVE i 0xFF

/-! ## Position estimate (R224, R225) -/

/-- The estimate advanced by an amount in 1/65536 µstep. -/
def advancePos (s : State) (i : Nat) (d : Int) : State :=
  let total := s.geti .POS_EST i * usub + s.geti .OBS_FRAC i + d
  let p := rdiv total usub
  (s.puti .POS_EST i (wrapPos s p)).puti .OBS_FRAC i (total - p * usub)

def updatePos (s : State) (i te : Nat) (th : Int) (valid : Bool) : State :=
  let s := s.setOb i stAngle valid
  if !valid then
    let s := s.put .OBS_OMEGA i 0
    if s.get .OBS_MODE i = 2 ∨ s.get .OBS_MODE i = 5 then s.put .OBS_TH i (s.get .OBS_TH_LAST i) else s
  else
    let gap := te - s.get .OBS_T_LAST i
    let pred := turnIn s i gap
    let res := toSigned 16 (ofSigned 16 (th - s.get .OBS_TH_LAST i - pred))
    let adv := pred + res
    let s := if s.get .OBS_MODE i = 3 then (s.puti .POS_EST i (s.geti .ACT_POS i)).put .OBS_FRAC i 0
      else advancePos s i (adv * turnOf (s.kind i))
    let s := if 24576 < absN res then positionLost s i else s
    let s := s.puti .OBS_OMEGA i (if gap = 0 then s.geti .OBS_OMEGA i else rdiv (adv * ticksPerSecond) gap)
    let t := ofSigned 16 th
    ((s.put .OBS_TH i t).put .OBS_TH_LAST i t).put .OBS_T_LAST i te

/-- R225: the command is set onto the estimate at enable and at each resume, unless it is uncertain. -/
def syncCommand (s : State) (i : Nat) : State :=
  if s.kind i = 3 ∨ s.kind i = 0 then s
  else
    let p := if s.ob i stUncertain then s.geti .OUT_P i else nearest s (s.geti .OUT_P i) (s.geti .POS_EST i * usub)
    let s := (s.puti .EV_P i p).puti .EV_V i 0
    (publish s i p 0).setOb i stUncertain false

/-! ## Learning (R227, R230, R234) -/

def learnKe (s : State) (i : Nat) : State :=
  let w := absN (omegaSteps s i)
  if s.get .OBS_MODE i = 2 ∧ s.ob i stEmf ∧ 2 * absN (s.geti .LOAD_ANGLE i) < s.dv .STALL_ANGLE i ∧ ¬ s.flag .W_SAT (comp i 0)
      ∧ ¬ s.flag .W_SAT (comp i 1) ∧ 0 < w then
    let now := rdiv (emfMag s i * 1000 * 1024) w
    let old := s.geti .KE_FINE i
    let s := s.puti .KE_FINE i (old + rdiv (now - old) 1024)
    let s := s.put .KE_EST i (min (rdiv (s.geti .KE_FINE i) 1024).toNat 0xFFFF)
    let s := s.put .OBS_KE_UPD i (min 256 (s.get .OBS_KE_UPD i + 1))
    s.setOb i stKe (decide (256 ≤ s.get .OBS_KE_UPD i))
  else s

/-- The reference resistance in mΩ. -/
def rRef (s : State) (i : Nat) : Nat := if s.dv .VW_R25 i = 0 then s.dv .WIND_R_NOM i else s.dv .VW_R25 i

/-! ### Virtual winding temperature (R236, R237) -/

/-- VW_TEMP in 1/64 °C from the filtered resistance in 1/256 mΩ. -/
def vwTemp (rf : Int) (rref : Nat) : Int :=
  if rref = 0 then -32768
  else satSigned 16 (1600 + rdiv ((rf - 256 * (rref : Int)) * 6400000) (393 * 256 * (rref : Int)))

def vwAge (s : State) (i : Nat) : Nat := min 0xFF ((s.ts - s.get .R_UPD_TICK i) / ticksPerSecond)

/-- VW_UNCAL, VW_AGE and, while the reading is live, VW_TEMP. -/
def updateVw (s : State) (i : Nat) : State :=
  let s := s.put .VW_UNCAL i (b2n (s.dv .VW_R25 i == 0))
  if s.kind i = 0 then (s.put .VW_STATE i 3).put .VW_TEMP i 0x8000
  else if s.get .VW_STATE i = 0 then
    (s.puti .VW_TEMP i (vwTemp (s.geti .R_FILT i) (rRef s i))).put .VW_AGE i (vwAge s i)
  else if s.get .VW_STATE i = 1 then s.put .VW_AGE i (vwAge s i)
  else if s.get .VW_STATE i = 3 then s.put .VW_STATE i 2
  else s

def vwInvalid (s : State) (i : Nat) : State :=
  if s.kind i = 0 then (s.put .VW_STATE i 3).put .VW_TEMP i 0x8000
  else ((s.put .VW_STATE i 2).put .VW_TEMP i 0x8000).put .VW_AGE i 0xFF

/-- Two seconds, the time constant of the filter. -/
def filterTau : Nat := 2 * ticksPerSecond

/-- A step of the filter; reset at the first valid estimate since enable (R236). -/
def filterR (s : State) (i : Nat) : State :=
  let r := s.geti .R_FINE i
  let s := if s.flag .R_FILTERED i then
      s.puti .R_FILT i (Config.firstOrder (s.geti .R_FILT i) r (s.ts - s.get .R_FILT_TICK i) filterTau)
    else s.puti .R_FILT i r
  let s := (s.put .R_FILTERED i 1).put .R_FILT_TICK i s.ts
  if s.ob i stR ∧ !s.flag .SENSE_LOST i ∧ !s.getBit .REG_STAT i 4 then
    ((s.put .R_EVER i 1).put .VW_STATE i 0).put .VW_AGE i (vwAge s i)
  else s

/-- Storing an estimate in 1/256 mΩ under the clamp of R234; `probe` marks an accepted probe. -/
def storeR (s : State) (i : Nat) (fine : Int) (probe : Bool) : State :=
  let ref := rRef s i
  let lo := rdiv (256 * 6 * ref) 10
  let hi := rdiv (256 * 18 * ref) 10
  let s := s.put .R_UPD_TICK i s.ts
  if fine ≤ lo ∨ hi ≤ fine then
    let first := !s.flag .OBS_BOUND i || probe
    let s := s.puti .R_FINE i (clampI lo hi fine)
    let s := s.put .R_EST i (min (rdiv (s.geti .R_FINE i) 256).toNat 0xFFFF)
    let s := ((s.setOb i stR false).put .OBS_R_UPD i 0).put .R_RANGE i 1
    let s := vwInvalid (s.put .OBS_BOUND i 1) i
    if first then s.post 0x0702 0x1 i (ofSigned 32 (rdiv fine 256)) else s
  else
    let s := s.puti .R_FINE i fine
    let s := s.put .R_EST i (min (rdiv fine 256).toNat 0xFFFF)
    if probe then ((s.put .OBS_BOUND i 0).put .R_PROBED i 1).setOb i stR true
    else s

/-- Σ x·i and Σ i² of the components. -/
def dotX (s : State) (i : Nat) : Int :=
  s.geti .W_X (comp i 0) * s.geti .W_MEAS (comp i 0) + s.geti .W_X (comp i 1) * s.geti .W_MEAS (comp i 1)

def sqI (s : State) (i : Nat) : Int := s.geti .W_MEAS (comp i 0) ^ 2 + s.geti .W_MEAS (comp i 1) ^ 2

/-- Continuous estimation (R230). Without an estimate yet it starts from WIND_R_NOM: the manual names no start (log entry 98). -/
def learnR (s : State) (i : Nat) : State :=
  let m := s.get .OBS_MODE i
  let ii := sqI s i
  let least := fracToUa s i (s.dv .PROBE_DELTA i)
  if (m = 1 ∨ m = 6) ∧ s.geti .VEL_CMD i ≠ 0 ∧ least ^ 2 ≤ ii ∧ 0 < ii ∧ ¬ s.flag .W_SAT (comp i 0) ∧ ¬ s.flag .W_SAT (comp i 1) then
    let old := if s.get .R_EST i = 0 then 256 * (s.dv .WIND_R_NOM i : Int) else s.geti .R_FINE i
    let s := storeR s i (old + rdiv (dotX s i * 1000) ii) false
    let s := if s.flag .OBS_BOUND i then s
      else
        let n := min 4096 (s.get .OBS_R_UPD i + 1)
        let s := s.put .OBS_R_UPD i n
        if 4096 ≤ n then s.setOb i stR true else s
    if s.ob i stR ∧ (¬ s.flag .R_FILTERED i ∨ 100 * ticksPerMs ≤ s.ts - s.get .R_FILT_TICK i) then filterR s i else s
  else s

/-! ## Probes (R231 to R233) -/

def probeAt (s : State) (i te : Nat) : Nat := te - s.get .PROBE_START_T i

/-- Ten milliseconds, one level of a probe, of which the first four settle. -/
def probeLevel : Nat := 10 * ticksPerMs

def probeSettle : Nat := 4 * ticksPerMs

/-- The amplitude of the running DC probe: the high level, then the level one step away (R231), never above I_lim (R185). -/
def probeAmp (s : State) (i te : Nat) (amp : Int) : Int :=
  if s.get .PROBE_KIND i ≠ 1 then amp
  else
    let a : Int := s.get .PROBE_HIGH i
    let d : Int := s.dv .PROBE_DELTA i
    let lim : Int := iLim s i
    min lim (if probeAt s i te < probeLevel then a else if a + d ≤ lim then a + d else a - d)

/-- The added current of the running d-axis probe (R232). -/
def probeAdd (s : State) (i te : Nat) : State :=
  if s.get .PROBE_KIND i ≠ 2 then (s.put .W_RADD (comp i 0) 0).put .W_RADD (comp i 1) 0
  else
    let d := fracToUa s i (s.dv .PROBE_DELTA i) * (if probeAt s i te < probeLevel then 1 else -1)
    let th : Int := s.get .OBS_TH i
    (s.puti .W_RADD (comp i 0) (rdiv (d * cosQ30 th) (2 ^ 30))).puti .W_RADD (comp i 1) (rdiv (d * sinQ30 th) (2 ^ 30))

/-- Averaging over the last 6 ms of each level. -/
def probeSum (s : State) (i te : Nat) (fresh : Bool) : State :=
  let k := s.get .PROBE_KIND i
  let el := probeAt s i te
  let lev := if el < probeLevel then 0 else 1
  if k = 0 ∨ !fresh ∨ 2 * probeLevel ≤ el ∨ el - lev * probeLevel < probeSettle then s
  else
    let at_ (c : Nat) : Nat := 4 * i + 2 * lev + c
    let add (s : State) (r : Reg) (c : Nat) (v : Int) : State := s.puti r (at_ c) (s.geti r (at_ c) + v)
    let s := s.countWrap .PROBE_N (2 * i + lev)
    if k = 1 then
      (List.range 2).foldl (fun a c => add (add a .PROBE_V c (a.geti .W_VAPP (comp i c))) .PROBE_I c (a.geti .W_MEAS (comp i c))) s
    else
      let th : Int := s.get .OBS_TH i
      add s .PROBE_V 0 (rdiv (s.geti .W_VAPP (comp i 0) * cosQ30 th + s.geti .W_VAPP (comp i 1) * sinQ30 th) (2 ^ 30))

def probeEnd (s : State) (i : Nat) : State :=
  let s := ((s.put .PROBE_KIND i 0).put .PROBE_FOR_CAL i 0).put .PROBE_LAST i s.ts
  let s := (s.put .W_RADD (comp i 0) 0).put .W_RADD (comp i 1) 0
  s.setOb i stProbe false

/-- VW_CAL refused (R238). -/
def rejectVwCal (s : State) (i why : Nat) : State := (s.put .VW_CAL_REJ i 1).post 0x0705 0x1 i why

/-- A probe aborted without a result (R233); a calibration it served is refused with 0x03. -/
def probeAbort (s : State) (i : Nat) : State :=
  let k := s.get .PROBE_KIND i
  if k = 0 then s
  else
    let cal := s.flag .PROBE_FOR_CAL i
    let s := ((probeEnd s i).put .PROBE_ABORT i 1).post 0x0703 0x1 i (k - 1)
    if cal then rejectVwCal s i 3 else s

def probeBegin (s : State) (i kind te : Nat) : State :=
  let s := (s.develop .PROBE_DELTA i).develop .PROBE_INT i
  let s := ((s.put .PROBE_KIND i kind).put .PROBE_START_T i te).put .PROBE_HIGH i (s.get .CUR_AMP i)
  let s := (s.puti .PROBE_POS i (s.geti .POS_EST i)).setOb i stProbe true
  let s := (List.range 4).foldl (fun a k => (a.put .PROBE_V (4 * i + k) 0).put .PROBE_I (4 * i + k) 0) s
  (s.put .PROBE_N (2 * i) 0).put .PROBE_N (2 * i + 1) 0

/-- Conditions of a DC probe but for the interval (R231). -/
def probeStandOk (s : State) (i : Nat) : Bool :=
  s.flag .STILL_CMD i && decide (100 * ticksPerMs ≤ s.ts - s.get .HOLD_SINCE i)
    && (!s.getBit .REG_STAT i 3 || decide (s.dv .HOLD_RAMP i * ticksPerMs ≤ s.ts - s.get .RAMP_SINCE i))
    && decide (s.get .PROBE_DELTA i ≤ s.get .CUR_AMP i)

def probeDue (s : State) (i : Nat) : Bool :=
  s.get .PROBE_KIND i == 0 && s.get .PROBE_INT i != 0
    && decide (s.get .PROBE_INT i * ticksPerSecond ≤ s.ts - s.get .PROBE_LAST i)

/-- Conditions of a d-axis probe but for the interval (R230, R232). -/
def probeRunOk (s : State) (i : Nat) (accZero : Bool) : Bool :=
  (s.get .OBS_MODE i == 2 || s.get .OBS_MODE i == 4) && fastEnough s i && accZero
    && decide (s.get .CUR_AMP i ^ 2 + s.get .PROBE_DELTA i ^ 2 ≤ iLim s i ^ 2)

/-- A non-zero commanded velocity aborts a DC probe before the update forms its setpoints (R233). -/
def probeMoved (s : State) (i : Nat) : State :=
  if s.get .PROBE_KIND i = 1 ∧ s.geti .OUT_V i ≠ 0 then probeAbort s i else s

/-- The abort conditions a d-axis probe meets in a motion update (R233). -/
def probeJudge (s : State) (i : Nat) (accZero : Bool) : State :=
  let k := s.get .PROBE_KIND i
  if k = 2 ∧ (!accZero ∨ s.getBit .REG_STAT i 0 ∨ s.flag .W_SAT (comp i 0) ∨ s.flag .W_SAT (comp i 1) ∨ !s.ob i stAngle) then
    probeAbort s i
  else s

/-- R in 1/256 mΩ from the sums, `none` where a level has no sample or the current did not change. -/
def probeResult (s : State) (i : Nat) : Option Int :=
  let n0 := s.get .PROBE_N (2 * i)
  let n1 := s.get .PROBE_N (2 * i + 1)
  if n0 = 0 ∨ n1 = 0 then none
  else
    let v (lev c : Nat) : Int := rdiv (s.geti .PROBE_V (4 * i + 2 * lev + c)) (if lev = 0 then n0 else n1)
    let a (lev c : Nat) : Int := rdiv (s.geti .PROBE_I (4 * i + 2 * lev + c)) (if lev = 0 then n0 else n1)
    if s.get .PROBE_KIND i = 2 then
      let d := fracToUa s i (s.dv .PROBE_DELTA i)
      if d = 0 then none else some (rdiv ((v 0 0 - v 1 0) * 256000) (2 * d))
    else
      let den := (a 1 0 - a 0 0) ^ 2 + (a 1 1 - a 0 1) ^ 2
      if den = 0 then none
      else some (rdiv (((v 1 0 - v 0 0) * (a 1 0 - a 0 0) + (v 1 1 - v 0 1) * (a 1 1 - a 0 1)) * 256000) den)

/-- VW_R25 = R / (1 + 0.00393 × (T_ref − 25)) in mΩ, from R in 1/256 mΩ and T_ref in 1/64 °C. -/
def r25Of (fine tref : Int) : Int := rdiv (fine * 6400000) (256 * (6400000 + 393 * (tref - 1600)))

/-- The end of a probe with its result (R231, R232, R238): whether a calibration succeeded is told by the new value. A
calibration without a usable result is rejected with 0x03, as an aborted one is: the table names no cause for it (log entry 98). -/
def probeFinish (s : State) (i : Nat) : State × Option Int :=
  let r := probeResult s i
  let cal := s.flag .PROBE_FOR_CAL i
  let moved := decide (16 < absN (posDiff s (s.geti .POS_EST i) (s.geti .PROBE_POS i))) && s.get .PROBE_KIND i == 1
  let s := probeEnd s i
  match r with
  | none => (if cal then rejectVwCal s i 3 else s, none)
  | some fine =>
    if moved then (if cal then rejectVwCal s i 3 else s, none)
    else if cal then
      let nom : Int := 256 * s.dv .WIND_R_NOM i
      if 2 * fine < nom ∨ 2 * nom < fine then (rejectVwCal s i 4, none)
      else
        let r25 := r25Of fine (s.geti .VW_CAL_TREF i)
        let s := (s.puti .VW_R25 i r25).develop .VW_R25 i
        let s := filterR (storeR s i fine true) i
        (s.post 0x0704 0x1 i r25.toNat, some r25)
    else
      let s := storeR s i fine true
      (if s.flag .OBS_BOUND i then s else filterR s i, none)

/-! ## Stall criteria (R226) -/

def criterion (s : State) (i c : Nat) (hallStill : Bool) : Bool :=
  let m := s.get .OBS_MODE i
  if c = 0 then (m == 1 || m == 2 || m == 3) && s.ob i stAngle && decide (s.dv .STALL_ANGLE i < absN (s.geti .LOAD_ANGLE i))
  else if c = 1 then m == 2 && s.ob i stKe && fastEnough s i
    && decide (emfMag s i * 32768 < s.dv .EMF_COLLAPSE i * (expectedEmf s i (absVel s i)).toNat)
  else m == 4 && s.geti .VEL_CMD i != 0 && hallStill && absN (s.geti .I_Q i) == iLim s i

/-- One update of the three counts; a count that reaches STALL_COUNT makes a declaration due, of two in one update that of the
lower code (log entry 98). -/
def countStall (s : State) (i : Nat) (fresh hallStill : Bool) : State :=
  let step (a : State) (c : Nat) : State :=
    let k := 4 * i + c
    if c = 0 ∧ ¬ a.ob i stAngle then a.put .STALL_RUN k 0
    else if !fresh then a
    else if criterion a i c hallStill then
      let n := a.get .STALL_RUN k + 1
      let a := a.put .STALL_RUN k n
      if a.dv .STALL_COUNT i ≤ n ∧ a.get .STALL_NOW i = 0 then a.put .STALL_NOW i (c + 1) else a
    else a.put .STALL_RUN k 0
  (List.range 3).foldl step s

/-! ## The observer in an engine cycle (R214) -/

/-- One observer update for the evaluation instant `te`: `phi` is the commanded angle, `hall` the Hall angle in
µsteps, `f0` and `f1` the fresh samples, `refine` whether the refinement runs, `stood` whether the last update stood still. -/
def observe (s : State) (i te : Nat) (phi hall : Int) (f0 f1 refine accZero hallStill stood : Bool) : State :=
  let s := offUncertain (changeMode s i (observerMode s i) stood) i
  let s := updateEmf s i f0 f1
  let s := injectStep s i refine
  let (th, valid) := rotorAngle s i hall
  let s := updatePos s i te th valid
  let s := updateLoad s i phi
  let s := probeSum (probeJudge s i accZero) i te (f0 || f1)
  let s := if refine then learnR (learnKe s i) i else s
  let s := countStall s i (f0 || f1) hallStill
  let s := updateVw (inject s i) i
  predictNext (predictNext s i 0) i 1

/-- What enable clears (R221, R230, R236). -/
def observerEnable (s : State) (i : Nat) : State :=
  let s := ((s.put .OBS_SAL_POSTED i 0).put .OBS_R_UPD i 0).put .R_PROBED i 0
  -- R_VALID restarts at 0, and the reading is held until a valid estimate (R237; log entry 99)
  let s := if s.get .VW_STATE i = 0 then s.put .VW_STATE i 1 else s
  (s.put .R_FILTERED i 0).setOb i stR false

/-- What a port-map develop of the slot resets (R97, R227, R235, R237). -/
def observerReset (s : State) (i : Nat) : State :=
  let s := s.clearAll [.OBS_TH, .OBS_TH_LAST, .OBS_OMEGA, .OBS_T_LAST, .OBS_EMF_RUN, .OBS_HW, .OBS_CYC, .OBS_L_CYC, .OBS_REF_PEND, .OBS_KE_UPD,
    .OBS_R_UPD, .KE_FINE, .R_FINE, .L_FINE, .R_FILT, .R_EVER, .OBS_BOUND, .OBS_FRAC, .KE_EST, .R_EST, .L_EST, .EMF_EST,
    .LOAD_ANGLE, .RESERVE, .SALIENCY, .OBS_RA, .OBS_RX, .OBS_RC, .R_PROBED, .R_FILTERED, .POS_EST] i
  let s := (s.put .OBS_STAT i 0).setOb i stUncertain true
  vwInvalid s i

end Sys2Proof.Machine
end

