-- ==== Sys2Proof/Machine/Report.lean ====
section
/-! DEFINITION. Records and reports: the audit log, EMCY, the error register, absorbed failures and RED_LOST
(R10, R372, R435, R436, R465), and with them the pool of spare engines, on which the first bit of RED_LOST rests (R101). -/

namespace Sys2Proof.Machine

/-! ## Audit log (R465) -/

/-- Bytes 0 to 27 of an entry. -/
def AuditEntry.body (e : AuditEntry) : List Nat :=
  leBytes 4 e.seq ++ leBytes 4 e.hours ++ leBytes 4 e.timeMs ++ [e.kind % 256, e.result % 256] ++ leBytes 2 e.merged
    ++ leBytes 4 e.actor ++ leBytes 4 e.subject ++ leBytes 4 e.value

/-- The 32 bytes of an entry. -/
def AuditEntry.bytes (e : AuditEntry) : List Nat := e.body ++ e.chain.take 4

/-- H of the newest entry; before the first, 32 zero bytes (log entry 12). -/
def lastChain (s : State) : List Nat := match s.audit.getLast? with
  | some e => e.chain
  | none => List.replicate 32 0

/-- An entry of the audit log; an entry identical to the newest within 1 s merges with it. -/
def State.record (s : State) (kind result actor subject value : Nat) : State :=
  let same : Bool := match s.audit.getLast? with
    | some e => e.kind == kind && e.result == result && e.actor == actor && e.subject == subject && e.value == value
    | none => false
  if same ∧ s.flag .AUDIT_LIVE 0 ∧ s.ts ≤ s.get .AUDIT_BASE 0 + ticksPerSecond then
    match s.audit.getLast? with
    | some e =>
      let prev := match s.audit.dropLast.getLast? with
        | some d => d.chain
        | none => List.replicate 32 0
      let e := { e with merged := min 0xFFFF (e.merged + 1) }
      { s with audit := s.audit.dropLast ++ [{ e with chain := sha256 (prev ++ e.body) }] }
    | none => s
  else
    let e : AuditEntry := ⟨s.get .AUDIT_SEQ 0, s.get .SVC_HOURS 0, trunc 32 (s.ts / ticksPerMs), kind, result, 0, actor, subject, value, []⟩
    let e := { e with chain := sha256 (lastChain s ++ e.body) }
    let full := decide (1024 ≤ s.audit.length)
    let s := if full then s.count .AUDIT_WRAPS 0 else s
    let s := { s with audit := (if full then s.audit.tail else s.audit) ++ [e] }
    (((s.countWrap .AUDIT_SEQ 0).countWrap .AUDIT_HEAD 0).put .AUDIT_BASE 0 s.ts).put .AUDIT_LIVE 0 1

/-- The device itself, as the actor of an entry. -/
def deviceActor : Nat := 0xFFFFFFFF

/-! ## Standing errors (R425, R435, R436) -/

/-- EMCY code of a cause of R294 or R423. -/
def causeCode (c : Nat) : Nat :=
  [0, 0x2320, 0x2320, 0x5400, 0x5400, 0x5100, 0x3220, 0, 0x3210, 0x3210, 0x5200, 0x5200, 0x7120, 0x2330, 0x7121, 0x5210, 0x6320,
   0, 0x4210, 0xFF13, 0x8130, 0x7305, 0x8611, 0x8700].getD c 0

/-- Bits a code sets in the error register. -/
def codeBits (code : Nat) : Nat :=
  if code = 0x2320 ∨ code = 0x2330 ∨ code = 0x5210 then 0b11
  else if code = 0x3210 ∨ code = 0x3220 ∨ code = 0x5100 then 0b101
  else if code = 0x4210 then 0b1001
  else if code = 0x8110 ∨ code = 0x8130 ∨ code = 0x8140 ∨ code = 0x8210 ∨ code = 0x8700 then 0b10001
  else if code = 0xFF13 then 0b10000001
  else if 0xFF01 ≤ code ∧ code ≤ 0xFF07 then 0b10000000
  else if code = 0 then 0
  else 1

/-- Cause of the latch-off of an X-port that stands, 0 for none (R294, R435). -/
def xPortCause (s : State) (p : Nat) : Nat :=
  if !s.isX p then 0 else if s.flag .GD_LATCH p then s.get .GD_CAUSE p else if s.flag .TRIP_LATCH p then 2 else 0

/-- State of a sensor that is BLIND (R361). -/
def snsBlind : Nat := 4

def bitOr (l : List Nat) : Nat := l.foldl (· ||| ·) 0

/-- The error register 0x1001: the bits of every standing fault and error, and bit 7 while redundancy is lost. -/
def errorRegister (s : State) : Nat :=
  bitOr ([bitOr ((List.range 8).map fun i => codeBits (causeCode (s.get .FAULT_CAUSE i))),
    bitOr ((List.range 32).map fun p => codeBits (causeCode (xPortCause s p))),
    bitOr ((List.range 8).map fun i => if encFaulty s i then codeBits 0x7305 else 0),
    bitOr ((List.range 34).map fun k => if s.get .SNS_STATE k = snsBlind then codeBits 0x4210 else 0),
    if s.get .COMM_ERR 0 = 0 then 0 else codeBits 0x8130,
    if s.get .RED_LOST 0 = 0 then 0 else codeBits 0xFF07])

/-- Whether any fault or error stands; redundancy warnings ask nothing and do not count. -/
def anyStanding (s : State) : Bool :=
  (List.range 8).any (fun i => s.get .FAULT_CAUSE i != 0 || encFaulty s i) || (List.range 32).any (fun p => xPortCause s p != 0)
    || (List.range 34).any (fun k => s.get .SNS_STATE k == snsBlind) || s.get .COMM_ERR 0 != 0

/-! ## Sending on the buses (R388, R419) -/

def busUsed (s : State) (b : Nat) : Bool := b == 0 || s.dv .CAN_RED 0 == 1

/-- A frame the node produces: on every bus in use whose controller is not bus-off. -/
def State.sendCan (s : State) (id : Nat) (data : List Nat) : State :=
  let out (s : State) (b : Nat) : State := if busUsed s b && !s.flag .CAN_OFF b && s.getBit .DOM_ON 0 9 then s.send b id data else s
  out (out s 0) 1

/-! ## EMCY (R435) -/

/-- The eight bytes of an EMCY. Its error register also shows the bits of its own code: an absorbed failure, which does not
stand, sets bit 7 there and nowhere else (R435, R436). -/
def emcyMessage (s : State) (code slot cause event : Nat) : List Nat :=
  leBytes 2 code ++ [errorRegister s ||| codeBits code, slot % 256, cause % 256] ++ leBytes 2 event ++ [s.get .RED_LOST 0]

/-- NMT states in which EMCY is produced (R421). -/
def emcyAllowed (s : State) : Bool := s.get .NMT_STATE 0 == 1 || s.get .NMT_STATE 0 == 2

def inhibitOver (s : State) : Bool :=
  !s.flag .EMCY_SENT 0 || s.dv .INHIBIT_EMCY 0 == 0 || decide (s.get .EMCY_TICK 0 + s.get .INHIBIT_EMCY 0 * 16000 ≤ s.ts)

def sendEmcy (s : State) (m : List Nat) : State :=
  if s.getBit .COB_EMCY 0 31 then s
  else ((s.sendCan (s.get .COB_EMCY 0 % 2048) m).put .EMCY_TICK 0 s.ts).put .EMCY_SENT 0 1

/-- A new entry of the pre-defined error field, newest first. -/
def pushHistory (s : State) (e : Nat) : State :=
  let s := (List.range 15).foldr (fun k a => a.put .ERR_HIST (k + 1) (s.get .ERR_HIST k)) s
  (s.put .ERR_HIST 0 e).put .ERR_COUNT 0 (min 16 (s.get .ERR_COUNT 0 + 1))

def absorbedCode (code : Nat) : Bool := decide (0xFF01 ≤ code ∧ code ≤ 0xFF07)

/-- Producing an EMCY: history, then the message at once, or after the inhibit time or the sequencer's restart. -/
def State.emcy (s : State) (code slot cause event : Nat) : State :=
  let m := emcyMessage s code slot cause event
  let s := if code = 0 ∨ absorbedCode code then s else pushHistory s (code + slot % 256 * 2 ^ 16 + cause % 256 * 2 ^ 24)
  if s.flag .SEQ_DOWN 0 then { s with emcyQ := s.emcyQ ++ [m] }
  else if !emcyAllowed s then s
  else if s.emcyQ = [] ∧ inhibitOver s then sendEmcy s m
  else { s with emcyQ := s.emcyQ ++ [m] }

/-- The code 0x0000 once the last standing fault or error has cleared. -/
def State.emcyIfClear (s : State) (slot : Nat) : State := if anyStanding s then s else s.emcy 0 slot 0 0

/-- Sending the messages that waited for the inhibit time (R435). -/
def emcyRelease (s : State) : State :=
  match s.emcyQ with
  | [] => s
  | m :: t =>
    if s.flag .SEQ_DOWN 0 then s
    else if !emcyAllowed s then { s with emcyQ := [] }
    else if inhibitOver s then sendEmcy { s with emcyQ := t } m
    else s

/-! ## Absorbed failures and lost redundancy (R10, R372) -/

/-- Counting, auditing and reporting an absorbed failure; `kind` is the code's low part of R436, `event` its Q11 code. -/
def absorb (s : State) (kind event slot arg : Nat) : State :=
  let s := s.count .ABSORBED 0
  let s := s.record 0x0C 0 deviceActor event arg
  s.emcy (0xFF00 + kind) slot kind event

/-- Setting or clearing a bit of RED_LOST, with REDUNDANCY_LOST and its EMCY at each change. -/
def setRedLost (s : State) (k : Nat) (b : Bool) : State :=
  if s.getBit .RED_LOST 0 k = b then s
  else
    let s := s.setBit .RED_LOST 0 k b
    let s := s.post 0x0D05 0x0 noSlot (s.get .RED_LOST 0)
    s.emcy 0xFF07 0xFF 0x07 0x0D05

/-! ## Engines and the spare pool (R100, R101) -/

def noEngine : Nat := 15

def engineDomain (e : Nat) : Nat := if e < 5 then 4 else 5

def isDead (s : State) (e : Nat) : Bool := s.getBit .DEAD_MAP 0 e

/-- The slots an engine hosts. -/
def hosted (s : State) (e : Nat) : List Nat := idsWhere 8 fun i => s.get .SLOT_ENGINE i == e

/-- An engine in the pool: alive, in a powered domain, hosting no slot. -/
def inPool (s : State) (e : Nat) : Bool :=
  decide (e < 10) && !isDead s e && s.getBit .DOM_ON 0 (engineDomain e) && !s.getBit .DOM_LEAVING 0 (engineDomain e) && (hosted s e).isEmpty

/-- Whether an engine shadows or votes in the running strip. -/
def inStrip (s : State) (e : Nat) : Bool := s.flag .STRIP_ACTIVE 0 && (s.get .STRIP_ENG 0 == e || s.get .STRIP_ENG 1 == e)

/-- ENGINE_STATE of R105. -/
def engineCode (s : State) (e : Nat) : Nat :=
  if s.flag .ENG_BIST e then 5
  else if isDead s e then
    if (List.range 8).any fun i => s.kind i != 0 && decide (s.get .SLOT_ENGINE i < 10)
      && engineDomain (s.get .SLOT_ENGINE i) == engineDomain e then 4 else 0
  else if !s.getBit .DOM_ON 0 (engineDomain e) then 0
  else if !(hosted s e).isEmpty then 1
  else if inStrip s e then 3 else 2

/-- SPARE_MAP and the engine states follow every change; RED_LOST bit 0 stands while the pool is empty (R372). -/
def refreshEngines (s : State) : State :=
  let s := s.put .SPARE_MAP 0 (maskOf 10 (inPool s))
  let s := (List.range 10).foldl (fun a e => a.put .ENG_STATE e (engineCode a e)) s
  setRedLost s 0 (s.get .SPARE_MAP 0 == 0)

/-- The end of a strip (R375, R376): shadow and voter return to the pool. -/
def stripEnd (s : State) : State :=
  let s := ((s.put .STRIP_ACTIVE 0 0).put .STRIP_VOTE 0 0).put .STRIP_CYCLES 0 0
  refreshEngines ((s.put .STRIP_ENG 0 noEngine).put .STRIP_ENG 1 noEngine)

/-- A strip of a slot ends without a vote: by a migration, a mode change, a stop-bath or a departure from Operation enabled (R381). -/
def stripCancel (s : State) (i : Nat) : State :=
  if s.flag .STRIP_ACTIVE 0 ∧ s.get .STRIP_SLOT 0 = i then stripEnd s else s

end Sys2Proof.Machine
end

