-- ==== Sys2Proof/Machine/Mailbox.lean ====
section
/-! DEFINITION. Frames of the service protocol and the mailbox queues Q14 and Q15 (R437, R438, R441 to R445). -/

namespace Sys2Proof.Machine

/-! ## Frames (R438) -/

/-- One bit of the reflected CRC-32 of IEEE 802.3. -/
def crcBit (c : Nat) : Nat := if c % 2 = 1 then c / 2 ^^^ 0xEDB88320 else c / 2

def crcByte (c b : Nat) : Nat := crcBit (crcBit (crcBit (crcBit (crcBit (crcBit (crcBit (crcBit (c ^^^ b))))))))

/-- CRC-32, IEEE 802.3 polynomial. -/
def crc32 (bytes : List Nat) : Nat := (bytes.foldl (fun c b => crcByte c (b % 256)) 0xFFFFFFFF) ^^^ 0xFFFFFFFF

/-- Version of the protocol. -/
def xomorVer : Nat := 1

/-- Bytes 1 to 7 of a frame. -/
def frameHead (flags seq len cmd status : Nat) : List Nat := [xomorVer, flags, seq % 256, len % 256, len / 256 % 256, cmd, status]

/-- A whole frame. -/
def frameOf (flags seq cmd status : Nat) (payload : List Nat) : List Nat :=
  let body := frameHead flags seq payload.length cmd status ++ payload
  0xC5 :: body ++ leBytes 4 (crc32 body)

def lenOf (f : List Nat) : Nat := f.getD 4 0 + 256 * f.getD 5 0

/-- A frame that is not dropped unanswered: sync, length, CRC and reserved FLAGS bits. -/
def frameGood (f : List Nat) : Bool :=
  f.getD 0 0 == 0xC5 && decide (lenOf f ≤ 1024) && f.length == 12 + lenOf f && decide (f.getD 2 0 < 4)
    && leVal (f.drop (8 + lenOf f)) == crc32 ((f.drop 1).take (7 + lenOf f))

/-! ## Entries (R442) -/

def entryPath (w : Nat) : Nat := w / 2 ^ 30 % 4

def entryLast (w : Nat) : Bool := bit w 29

def entryFirst (w : Nat) : Bool := bit w 28

/-- Valid bytes of an entry, but for the reserved count. -/
def entryData (w : Nat) : List Nat := (leBytes 3 w).take (w / 2 ^ 24 % 4 + 1)

/-- The entries a frame fills, in groups of three bytes; `valid` marks those the device delivers. -/
def entriesFor (valid : Bool) (path : Nat) : Bool → List Nat → List Nat
  | first, a :: b :: c :: d :: t =>
    (leVal [a, b, c] + 2 * 2 ^ 24 + b2n valid * 2 ^ 27 + b2n first * 2 ^ 28 + path * 2 ^ 30)
      :: entriesFor valid path false (d :: t)
  | _, [] => []
  | first, l =>
    [leVal l + (l.length - 1) * 2 ^ 24 + b2n valid * 2 ^ 27 + b2n first * 2 ^ 28 + 2 ^ 29 + path * 2 ^ 30]

/-! ## Q15, to the requesters (R443) -/

def headWord (s : State) (q : Nat) : Nat := (s.qHead q).headD 0

/-- Whether the head of Q15 is an SPI entry. -/
def outReady (s : State) : Bool := s.qFill 15 != 0 && entryPath (headWord s 15) == 0

def judgeMailbox (s : State) : State :=
  (s.put .OUT_READY 0 (b2n (outReady s))).put .IN_FULL 0 (b2n (s.qFill 14 == s.qSize 14))

/-- Helpers drain USB and CANopen frames at the head: `acc` holds the bytes of the frame taken so far. -/
def drainOut : Nat → State → List Nat → State
  | 0, s, _ => s
  | n + 1, s, acc =>
    let w := headWord s 15
    if s.qFill 15 = 0 ∨ entryPath w = 0 then s
    else
      let acc := acc ++ entryData w
      let s := (s.dequeue 15).put .Q15_TICK 0 s.ts
      if !entryLast w then drainOut n s acc
      else if entryPath w = 1 then drainOut n (s.send 2 0 acc) []
      else drainOut n { s with resp := s.resp.set 2 (s.resp.getD 2 [] ++ [acc]) } []

def drainQ15 (s : State) : State := judgeMailbox (drainOut (s.qFill 15) s [])

/-- The sequencer puts a frame into Q15 whole. -/
def putFrame (s : State) (path : Nat) (f : List Nat) : State :=
  let s := if s.qFill 15 = 0 then s.put .Q15_TICK 0 s.ts else s
  let s := (entriesFor true path true f).foldl (fun a w => a.enqueue 15 [w]) s
  if path = 0 then s.put .Q15_DATA 0 1 else s

/-- Frames that wait for room go into Q15 in order. -/
def pushWaiting : State → List (Nat × List Nat) → State
  | s, [] => { s with outWait := [] }
  | s, (p, f) :: t =>
    if s.qSize 15 < s.qFill 15 + (f.length + 2) / 3 then { s with outWait := (p, f) :: t }
    else pushWaiting (drainQ15 (putFrame s p f)) t

def pumpOut (s : State) : State := judgeMailbox (pushWaiting (drainQ15 s) s.outWait)

/-- A response frame towards its path. -/
def respond (s : State) (path flags seq cmd status : Nat) (payload : List Nat) : State :=
  let s := { s with outWait := s.outWait ++ [(path, frameOf flags seq cmd status payload)] }
  pumpOut s

/-- A read of MBX_OUT_0 (R444): the head entry when it is for SPI, else 0. -/
def mbxOut (s : State) : State × Nat :=
  if outReady s then
    let w := headWord s 15
    let s := s.dequeue 15
    (pumpOut (if entryLast w then s.put .Q15_TICK 0 s.ts else s), w)
  else (s, 0)

/-- Dropping the frame at the head, entry by entry. -/
def dropHead : Nat → State → State
  | 0, s => s
  | n + 1, s => if s.qFill 15 = 0 then s else
    let w := headWord s 15
    let s := s.dequeue 15
    if entryLast w then s else dropHead n s

/-- SPI_OUT_TIMEOUT (R443). -/
def outTimeout (s : State) : State :=
  if outReady s ∧ entryFirst (headWord s 15) ∧ s.get .Q15_TICK 0 + 100 * 160000 ≤ s.ts then
    let s := (dropHead (s.qFill 15) s).count .QDROP 15
    pumpOut ((s.put .OUT_TIMEOUT 0 1).put .Q15_TICK 0 s.ts)
  else s

/-! ## Q14, from the requesters -/

/-- A whole frame has reached the sequencer (R441): discarded during a restart, dropped when it is bad, answered
with STATUS 0x07 while a request of the path is unanswered; otherwise it is the path's request. -/
def frameArrived (s : State) (path : Nat) (f : List Nat) : State :=
  if s.flag .SEQ_DOWN 0 then s.count .QDROP 14
  else if !frameGood f then s
  else if s.flag .XO_BUSY path then respond s path 1 (f.getD 3 0) (f.getD 6 0) 0x07 []
  else s.put .XO_BUSY path 1

/-- The sequencer takes the entries of Q14, by path, until it is empty. -/
def drainIn : Nat → State → State
  | 0, s => s
  | n + 1, s => if s.qFill 14 = 0 then s else
    let w := headWord s 14
    let p := entryPath w
    let old := if entryFirst w then [] else s.rx.getD p []
    let f := old ++ entryData w
    let s := s.dequeue 14
    if entryLast w then drainIn n (frameArrived { s with rx := s.rx.set p [] } p f)
    else drainIn n { s with rx := s.rx.set p f }

/-- One entry offered to Q14 by the helper of a path; the path bits are set here. -/
def offerEntry (s : State) (path w : Nat) : State :=
  let w := setBits w 30 2 path
  if w / 2 ^ 24 % 4 = 3 then s.count .QDROP 14
  else if s.qFill 14 = s.qSize 14 then judgeMailbox ((s.qDrop 14).put .IN_DROP 0 1)
  else
    let s := s.enqueue 14 [w]
    judgeMailbox (if entryLast w then drainIn (s.qFill 14) s else s)

/-- MBX_IN commit (R444). -/
def mbxIn (s : State) (w : Nat) : State := offerEntry s 0 w

/-- XOMOR_FRAME written (R445). -/
def frameWrite (s : State) (bytes : List Nat) : State :=
  if s.flag .SEQ_DOWN 0 then s.reply 0x08000022 []
  else if bytes.length < 12 ∨ 1036 < bytes.length then s.reply 0x06070010 []
  else ((entriesFor false 2 true bytes).foldl (fun a w => offerEntry a 2 w) s).reply 0 []

/-- XOMOR_FRAME read (R445). -/
def frameRead (s : State) : State :=
  if s.flag .SEQ_DOWN 0 then s.reply 0x08000022 []
  else match s.resp.getD 2 [] with
    | [] => s.reply 0x08000024 []
    | f :: t => ({ s with resp := s.resp.set 2 t }).reply 0 f

/-- A partial frame of a path is discarded (R437). -/
def discardPartial (s : State) (path : Nat) : State := { s with rx := s.rx.set path [] }

end Sys2Proof.Machine
end

