-- ==== Sys2Proof/Machine/Pwm.lean ====
section
/-! DEFINITION. The PWM block: groups, LOAD_ALL, the switch schedule, refresh, trips, events and TRIGO
(R243 to R266). Instants inside a period are in 1/32 tick. -/

namespace Sys2Proof.Machine

/-! ## Ports and groups -/

/-- The slot field of an event about a port (R267). -/
def portSlot (s : State) (p : Nat) : Nat := if s.isAxisPort p then s.portOwner p else noSlot

def groupHasAxis (s : State) (g : Nat) : Bool := (groupPorts s g).any s.isAxisPort

/-- The ports a write to a port's field reaches when it fans out to the axis (R248, R249, R253, R257, R265). -/
def axisFan (s : State) (p : Nat) : List Nat := if s.isAxisPort p then s.slotPorts (s.portOwner p) else [p]

def groupPeriod (s : State) (g : Nat) : Nat := match groupPorts s g with
  | p :: _ => s.get .PERIOD_DEV p
  | [] => 0

/-- t_DEV in ticks (R30). -/
def tDev : Nat := 10

/-- t_MINON in 1/32 tick (R245). -/
def tMinOn : Nat := 320

/-- The first period start of a group at or after the present time, after the last one (R243). -/
def nextStart (s : State) (g : Nat) : Nat :=
  let per := groupPeriod s g
  let st := s.get .GROUP_START g
  if per = 0 ∨ s.ts ≤ st + per then st + per else st + (s.ts - st + per - 1) / per * per

/-! ## Off conditions -/

/-- A bank whose D-die follows its lanes (R58, R280, R285, R294, R473). -/
def bankLive (s : State) (b : Nat) : Bool :=
  s.flag .VDRV_OK b && s.flag .BANK_REL b && !s.flag .HB_OUT b && !s.flag .DIE_OT b

def portLatched (s : State) (p : Nat) : Bool := s.flag .TRIP_LATCH p || s.flag .GD_LATCH p

/-- Conditions under which an X-port switches (R247, R257, R265, R294). -/
def xRuns (s : State) (p : Nat) : Bool :=
  s.isX p && s.flag .PWM_EN p && bankLive s (p / 8) && !portLatched s p && !s.getBit .BUS_STAT 0 1 && s.flag .TB_RUNNING 0
    && !s.flag .X_HELD p && !s.flag .HARD_OV (p / 8)

/-- A slot whose switches the engine drives (R430): enabled, quick stop, or a fault reaction's planned stop. -/
def regulated (s : State) (i : Nat) : Bool :=
  (s.drive i == dsEnabled || s.drive i == dsQuickStop || s.drive i == dsFaultReaction) && s.get .SB_STATE i == 0
    && !s.getBit .PWR_STATE i 1 && !s.getBit .PWR_STATE i 2 && !s.getBit .PWR_STATE i 3 && s.flag .TB_RUNNING 0

def axisRuns (s : State) (p : Nat) : Bool :=
  s.isAxisPort p && regulated s (s.portOwner p) && s.flag .PWM_EN p && bankLive s (p / 8) && !portLatched s p

/-- Turning both switches of a port off at once (R265, R271): it runs no compare value of an engine any more (R259). -/
def portOff (s : State) (p : Nat) : State :=
  ((((s.put .PORT_DRIVE p 0).put .HIGH_ON p 0).put .LS_TO p (s.get .LS_FROM p)).put .HS_FROM p 0xFFFFF).put .C_FROM_ENGINE p 0

def portsOff (s : State) (ps : List Nat) : State := ps.foldl portOff s

def slotPortsOff (s : State) (i : Nat) : State := portsOff s (s.slotPorts i)

/-! ## Fields that develop with LOAD_ALL (R250, R84) -/

def loadFields : List Reg :=
  [.DUTY, .CMP_B, .REFRESH_LIMIT, .REFRESH_WIDTH, .TRIP_LIMIT, .MON_BLANK, .PRESC_ZERO, .RTSEQ_ZERO, .RTCONV_ZERO, .CFG_PRD,
   .CFG_CMPA, .CFG_CMPB, .SRC_STEP, .SNK_STEP, .SC_THR, .SC_BLANK]

/-- LOAD_ALL of a group (R250): pending until the first period start, or with an axis port the second. -/
def loadAll (s : State) (g : Nat) : State :=
  if s.get .LOAD_LEFT g ≠ 0 then s
  else
    let s := (s.put .LOAD_LEFT g (if groupHasAxis s g then 2 else 1)).put .LOAD_TICK g s.ts
    let s := s.setBit .LOAD_PEND_GRP 0 g true
    (groupPorts s g).foldl (fun a p => a.put .LOAD_PEND p 1) s

/-- Scaling a high time with a lengthened period (R266). -/
def scaleDuty (duty old new : Nat) : Nat := if old = 0 then duty else (rdiv ((duty * new : Nat) : Int) old).toNat

/-- The developed PERIOD of a port: the loaded one, or the longer one of the power budget, with the high time scaled by their
ratio (R266). -/
def budgetPeriod (s : State) (p : Nat) : State :=
  let base := s.get .PERIOD_LOADED p
  let per := max base (s.get .PERIOD_LONG p)
  ((s.put .PRD_BUDGET p (b2n (decide (base < per)))).put .PERIOD_DEV p per).put .BUDGET_DUTY p (scaleDuty (s.dv .DUTY p) base per)

/-- The latent PERIOD develops. -/
def developPeriod (s : State) (p : Nat) : State := budgetPeriod (s.put .PERIOD_LOADED p (s.get .PERIOD p)) p

/-- The developed dead time as the delay line can make it (R65). -/
def deadOf (s : State) (p : Nat) : Nat :=
  if s.flag .DL_COARSE 0 then (s.get .DEAD_DEV p + 31) / 32 * 32 else s.get .DEAD_DEV p

/-- C and FULL of an X-port for the starting period (R247, R287). -/
def xCompare (s : State) (p : Nat) : Int × Bool :=
  let per := 32 * s.get .PERIOD_DEV p
  let duty := if s.flag .PRD_BUDGET p then s.get .BUDGET_DUTY p else s.dv .DUTY p
  if per ≤ duty then (0, true) else ((per : Int) - duty - deadOf s p, false)

/-- CMP_DEV shows C in its low 19 bits (two's complement where C is negative) and FULL in bit 31. -/
def showCompare (s : State) (p : Nat) (c : Int) (full : Bool) : State :=
  (s.puti .C_DEV p c).put .CMP_DEV p (ofSigned 19 c + (if full then 2 ^ 31 else 0))

/-- The high time of an X-port develops: C, and 100 % with DUTY_CLAMP where it is clamped (R247). -/
def developDuty (s : State) (p : Nat) : State :=
  let (c, full) := xCompare s p
  let s := if full then (s.put .DUTY_CLAMP p 1).post 0x0805 0x2 (portSlot s p) p else s
  showCompare s p c full

/-- One port of a LOAD_ALL develop: its fields, and PERIOD and DEAD_TIME where the window checks passed. -/
def loadPort (withTiming : Bool) (s : State) (p : Nat) : State :=
  let s := s.developList loadFields p
  let s := (List.range 4).foldl (fun a k => a.put .PRESC_CNT (4 * p + k) 0) s
  let s := if withTiming then s.put .DEAD_DEV p (s.get .DEAD_TIME p) else s.put .LOAD_REJ p 1
  let s := if withTiming then developPeriod s p else s
  if s.isX p then developDuty s p else s

/-- The develop of a pending LOAD_ALL (R250 to R252). PWM_LOAD_REJECT names a group and no port: its SLOT is 0xF (log entry 98). -/
def loadDevelop (s : State) (g : Nat) : State :=
  let bad := loadFailures s g
  let s := (groupPorts s g).foldl (loadPort bad.isEmpty) s
  let s := (groupSlots s g).foldl putWindow s
  let s := bad.foldl (fun a i => rejectWindow a i (slotLoadCheck a i)) s
  let s := match bad with
    | [] => s
    | i :: _ => s.post 0x0803 0x2 noSlot (g + slotLoadCheck s i * 2 ^ 8 + maskOf 8 (fun k => bad.contains k) * 2 ^ 16)
  let s := (s.put .LOAD_LEFT g 0).setBit .LOAD_PEND_GRP 0 g false
  (groupPorts s g).foldl (fun a p => a.put .LOAD_PEND p 0) s

/-- What a pending LOAD_ALL does at a period start: count it when it comes at least t_DEV after the command. -/
def loadStep (s : State) (g t : Nat) : State :=
  let n := s.get .LOAD_LEFT g
  if n = 0 ∨ t < s.get .LOAD_TICK g + tDev then s
  else if n = 1 then loadDevelop s g
  else s.put .LOAD_LEFT g (n - 1)

/-! ## The schedule of a period (R245, R247, R253) -/

/-- A compare instant and a dead time as the delay line can make them: whole ticks while it runs coarse (R65). -/
def edgeOf (s : State) (c : Int) : Int := if s.flag .DL_COARSE 0 then c / 32 * 32 else c

/-- The brake chopper's port runs at 100 % while BRAKE_ON stands (R287). -/
def braking (s : State) (p : Nat) : Bool := s.getBit .BUS_STAT 0 2 && s.get .BRAKE_PORT 0 == p

/-- The plan of one period of a port: whether it is a 100 % period, the low side's interval and the high side's
turn-on. -/
structure PortPlan where
  full : Bool
  lsFrom : Nat
  lsTo : Nat
  hsFrom : Nat
deriving DecidableEq, Repr

/-- The schedule from C, the dead time and the period, given whether the high side was on before (R245). -/
def planOf (c : Int) (dt per32 : Nat) (full wasHigh : Bool) : PortPlan :=
  if full then ⟨wasHigh, dt, dt, 0⟩
  else
    let low := decide ((dt : Int) < c) && decide ((tMinOn : Int) ≤ c - dt)
    let on := c + dt
    let high := decide (on < per32) && decide ((tMinOn : Int) ≤ per32 - on)
    if wasHigh && high && decide (on < tMinOn) then ⟨true, dt, dt, 0⟩
    else ⟨false, dt, if low then c.toNat else dt, if high then on.toNat else 0xFFFFF⟩

/-- A period of the slot is window-only: the first after enable or resume, and those after it until the engine's first
compare values develop (R209). -/
def onlyWindow (s : State) (i : Nat) : Bool := s.flag .WINDOW_ONLY i || !s.flag .POSTED i

/-- Whether the low sides of an axis port are on for the window of this period (R104, R209). -/
def windowed (s : State) (p : Nat) : Bool := s.isAxisPort p && (s.flag .WINDOWED (s.portOwner p) || onlyWindow s (s.portOwner p))

/-- A refresh pulse opens the period (R253). -/
def withRefresh (s : State) (p dt : Nat) (x : PortPlan) : State :=
  let w := 32 * s.dv .REFRESH_WIDTH p
  let s := ((s.put .LS_FROM p dt).put .LS_TO p (dt + w)).put .HS_FROM p (max (2 * dt + w) x.hsFrom)
  let s := ((s.count .REFRESH_CNT p).put .REFRESH_RUN p 0).put .HALF_PULSE p 1
  ((s.put .LOW_CUR p 1).put .FULL_CUR p 0).put .HIGH_ON p (b2n (decide (x.hsFrom < 0xFFFFF) && !s.flag .BST_UV p))

/-- A turn-on waits for the opposite gate. How long, the manual leaves to the gates: less than the 2 µs of R276 (R275). -/
def interlockWait (s : State) (p : Nat) : State :=
  (s.put .ILK_WAIT_MAX p (max (s.get .ILK_WAIT_MAX p) (s.free % 10240))).freed

/-- Storing the schedule of a running port, with the refresh rule; a bootstrap lock-out forces the pulse and keeps the high side
off (R254, R281). -/
def startPort (s : State) (p : Nat) (c : Int) (full : Bool) : State :=
  let dt := deadOf s p
  let per32 := 32 * s.get .PERIOD_DEV p
  let only := s.isAxisPort p && onlyWindow s (s.portOwner p)
  let x := planOf (edgeOf s c) dt per32 full (s.flag .HIGH_ON p)
  let x := if windowed s p then
      let i := s.portOwner p
      let ll := wStart32 dt (s.dv .WIN_ILK i) (s.dv .CUR_BLANK i) + 32 * s.dv .T_SAMPLE i
      if only then ⟨false, dt, ll, 0xFFFFF⟩
      else ⟨false, dt, max x.lsTo ll, if x.hsFrom = 0xFFFFF then 0xFFFFF else max x.hsFrom (ll + dt)⟩
    else x
  let lowOn := decide (x.lsFrom < x.lsTo)
  let s := interlockWait ((s.put .PORT_DRIVE p 1).put .HALF_PULSE p 0) p
  if !lowOn ∧ (s.flag .BST_UV p ∨ s.dv .REFRESH_LIMIT p ≤ s.get .REFRESH_RUN p) then withRefresh s p dt x
  else
    let s := ((s.put .LS_FROM p x.lsFrom).put .LS_TO p x.lsTo).put .HS_FROM p x.hsFrom
    let s := (s.put .LOW_CUR p (b2n lowOn)).put .FULL_CUR p (b2n x.full)
    let s := s.put .HIGH_ON p (b2n (decide (x.hsFrom < 0xFFFFF) && !s.flag .BST_UV p))
    if lowOn then s.put .REFRESH_RUN p 0 else s.count .REFRESH_RUN p

/-- The compare value of an axis port develops (R246): the post of the last cycle, or the previous values again (R33). -/
def developCompare (s : State) (p : Nat) : State :=
  let fromPost := s.flag .CMP_NEW p
  let c := if fromPost then s.geti .CMP_LAT p else s.geti .C_DEV p
  let full := if fromPost then s.flag .FULL_LAT p else bit (s.get .CMP_DEV p) 31
  let clamp := !full && decide (c + s.get .DEAD_DEV p ≤ 0)
  let s := if clamp then (s.put .DUTY_CLAMP p 1).post 0x0805 0x2 (portSlot s p) p else s
  let s := showCompare s p c (full || clamp)
  (s.put .CMP_NEW p 0).put .C_FROM_ENGINE p (b2n (!onlyWindow s (s.portOwner p)))

/-- Trip bookkeeping at a period start (R255 to R257). -/
def tripPeriod (s : State) (p : Nat) : State :=
  let s := if s.flag .TRIP_HELD p then s.put .TRIP_FREE p 0
    else
      let n := min 64 (s.get .TRIP_FREE p + 1)
      let s := s.put .TRIP_FREE p n
      if n = 64 then s.put .TRIP_RUN p 0 else s
  (((s.put .TRIP_HELD p 0).put .TRIPPED_H p 0).put .TRIPPED_L p 0).put .SMP_TRIP p 0

/-- The end of the window of a port's axis in this period (R190). -/
def windowClose (s : State) (p : Nat) : Nat :=
  let i := s.portOwner p
  s.get .GROUP_START (groupOf s p)
    + (wStart32 (s.get .DEAD_DEV p) (s.dv .WIN_ILK i) (s.dv .CUR_BLANK i) + 31) / 32 + s.dv .T_SAMPLE i

/-- A trip of a port's switch (R255, R256, R278): it counts once per period. One of a low side before the window closes takes
the samples of its axis (R194). -/
def tripPort (s : State) (p : Nat) (high : Bool) : State :=
  let s := if high then (s.put .TRIPPED_H p 1).put .HIGH_ON p 0
    else
      let s := s.put .TRIPPED_L p 1
      if s.isAxisPort p ∧ s.ts ≤ windowClose s p then s.put .SMP_TRIP p 1 else s
  let s := s.put .TRIP_SEEN p 1
  if s.flag .TRIP_HELD p then s
  else (((s.put .TRIP_HELD p 1).count .TRIP_RUN p).count .TRIP_TOTAL p).put .TRIP_FREE p 0

/-- Whether a source of the port is active (R258): TRIPN of the bank or the D-die's short-circuit latch. -/
def tripSource (s : State) (p : Nat) : Bool := s.flag .TRIPN_LOW (p / 8) || s.flag .LSP_SHORT p || s.flag .HSP_SHORT p

def setTripActive (s : State) (p : Nat) : State := s.put .TRIP_ACTIVE p (b2n (tripSource s p))

/-- The undervoltage bookkeeping of the period that ended, and whether the lock-out stands as the next one opens (R281). -/
def bstPeriod (s : State) (p : Nat) : State :=
  let bad := s.flag .BST_BAD p && s.get .PORT_DRIVE p == 1 && decide (s.get .HS_FROM p < 0xFFFFF)
  let s := if bad then
      let s := s.count .BST_UV_CNT p
      if 0 < s.get .BST_EXEMPT p then s else s.put .BST_RUN p (min 3 (s.get .BST_RUN p + 1))
    else s.put .BST_RUN p 0
  let s := if s.get .PORT_DRIVE p = 1 then s.put .BST_EXEMPT p (s.get .BST_EXEMPT p - 1) else s
  s.put .BST_BAD p (s.get .BST_UV p)

/-- One port at its period start. -/
def periodPort (s : State) (p : Nat) : State :=
  let s := (s.put .FULL_NOW p (s.get .FULL_CUR p)).put .FULL_CUR p 0
  let s := (s.put .JOINING p 0).put .DL_TAP p (s.get .DL_ELEMS 0)
  let s := bstPeriod (tripPeriod s p) p
  let s :=
    if s.isX p then
      if xRuns s p then
        let s := if s.get .PORT_DRIVE p = 0 then s.put .BST_EXEMPT p 32 else s
        let (c, full) := xCompare s p
        let s := if full ∧ ¬ bit (s.get .CMP_DEV p) 31 then (s.put .DUTY_CLAMP p 1).post 0x0805 0x2 noSlot p else s
        let s := showCompare s p c full
        -- DUTY 0 keeps the low side on to the period end (R247)
        startPort s p (if s.dv .DUTY p = 0 then (32 * s.get .PERIOD_DEV p : Nat) else c) (full || braking s p)
      else portOff s p
    else if s.isAxisPort p then
      if axisRuns s p then
        if onlyWindow s (s.portOwner p) then startPort (s.put .C_FROM_ENGINE p 0) p 0 false
        else if s.get .NO_POST_RUN (s.portOwner p) ≥ 16 then portOff s p
        else
          let s := developCompare s p
          startPort s p (s.geti .C_DEV p) (bit (s.get .CMP_DEV p) 31)
      else if s.get .PORT_DRIVE p = 1 then portOff s p
      else s.put .C_FROM_ENGINE p 0
    else portOff s p
  if s.flag .TRIPN_LOW (p / 8) ∧ (s.get .PORT_DRIVE p = 1 ∨ s.get .PORT_DRIVE p = 3) then tripPort s p true else s

/-- Whether any port of a slot received a post for the starting period. -/
def slotPosted (s : State) (i : Nat) : Bool := (s.slotPorts i).any fun p => s.flag .CMP_NEW p

/-- How long a port sits at VBUS in the period that opens, in 1/32 tick, for the predicted current out of it: R199 read backward,
from the schedule as it runs. A sinking port sits there whenever its low side is off; a refresh pulse costs its width and
2 × t_DT of high time (R202). -/
def highTime (s : State) (i p : Nat) (ua : Int) : Int :=
  let per : Int := 32 * s.get .PERIOD_DEV p
  let src := if s.flag .BST_UV p then 0 else max 0 (per - s.get .HS_FROM p)
  let snk := if per ≤ s.get .LS_TO p then 0 else per - (s.get .LS_TO p - s.get .LS_FROM p : Int)
  if s.get .PORT_DRIVE p ≠ 1 then 0
  else if s.flag .HALF_PULSE p then src
  else if nearZero s i ua then rdiv (src + snk) 2
  else if 0 < ua then src else snk

/-- The voltages of the two components that develop in the period that opens, in µV (R197, R205). -/
def developedVolts (s : State) (i : Nat) : List Int :=
  let per : Int := 32 * s.period i
  let at_ (x : Nat × Int × Int) : Int := match s.portOf i x.1 with
    | some p => if per = 0 then 0 else rdiv (s.get .VBUS_FF i * 1000 * highTime s i p x.2.2) per
    | none => 0
  let v := (portVolts s i 0 0).map at_
  if s.kind i = 1 then [v.getD 0 0 - v.getD 1 0, v.getD 2 0 - v.getD 3 0]
  else [rdiv (2 * v.getD 0 0 - v.getD 1 0 - v.getD 2 0) 3, rdiv ((v.getD 1 0 - v.getD 2 0) * 2 ^ 30) sqrt3]

/-- The voltage that develops on the windings, as the ports run it: after clamps, dead time, refresh pulses and a deadline miss
(R197, R202, R33); none in a window-only period or while the ports are off. -/
def appliedVoltage (s : State) (i : Nat) (posted : Bool) : State :=
  let runs := regulated s i && !onlyWindow s i
  let v := developedVolts s i
  let upd (a : State) (w : Nat) : State :=
    let k := comp i w
    let a := a.puti .W_VAPP k (if runs then v.getD w 0 else 0)
    let a := if s.get .OBS_MODE i = 1 then
        a.puti .W_IRESP k (a.geti .W_IRESP k + tOverL (lOf s i) (s.period i) (a.geti .W_INJAPP k))
      else a.put .W_IRESP k 0
    if !runs then a.put .W_INJAPP k 0 else if posted then a.puti .W_INJAPP k (s.geti .W_INJNEXT k) else a
  upd (upd s 0) 1

/-- Half rate (R341): a covering converter serves its own pair of ports and the covered one in turn, one per window.
The other pair's ports of slot `i` bring no sample in this period. -/
def halfRatePair (s : State) (i j : Nat) : State :=
  let ports := [4 * j, 4 * j + 1, 4 * j + 2, 4 * j + 3]
  let cut := ports.filter (s.flag .PORT_CUT)
  let own := ports.filter fun p => !s.flag .PORT_CUT p
  let mine (l : List Nat) : List Nat := l.filter fun p => s.portOwner p == i
  let others (l : List Nat) : Bool := l.any fun p => s.portOwner p != i && s.isAxisPort p && regulated s (s.portOwner p)
  let skip (s : State) (l : List Nat) : State := l.foldl (fun a p => a.put .SMP_SKIP p 1) s
  let turn := s.flag .HALF_TURN j
  if cut = [] ∨ own = [] ∨ (mine ports = []) then s
  else if mine cut ≠ [] ∧ mine own ≠ [] then
    (if turn then skip s (mine own) else skip s (mine cut)).put .HALF_TURN j (b2n !turn)
  else if mine own ≠ [] then
    if turn ∧ others cut then skip s (mine own) else s.put .HALF_TURN j (b2n (others cut))
  else if !turn ∧ others own then skip s (mine cut) else s.put .HALF_TURN j 0

def halfRate (s : State) (i : Nat) : State :=
  if s.flag .WINDOWED i then (List.range 8).foldl (fun a j => halfRatePair a i j) s else s

/-- One slot at the period start of its group: window pattern, half rate, sample flags, snapshots. -/
def periodSlot (s : State) (i : Nat) : State :=
  let posted := slotPosted s i
  let s := if regulated s i then
      if posted ∨ s.flag .WINDOW_ONLY i then s.put .NO_POST_RUN i 0 else s.count .NO_POST_RUN i
    else s.put .NO_POST_RUN i 0
  let s := windowPattern s i
  let s := (s.slotPorts i).foldl (fun a p => a.clearAll [.SMP_FRESH, .SMP_OVR, .SMP_SETTLE, .SMP_SKIP, .SMP_DONE] p) s
  let s := halfRate s i
  let s := (s.put .SF_SNAP i (s.get .SF_COUNT i)).put .FB_SNAP i (s.get .ENC_POS i)
  if s.get .CYC_END i = 0 then s.put .CYC_END i (s.ts + groupPeriod s (s.slotGroup i)) else s

/-- The period start of a group (R243, R250, R252). -/
def periodStart (s : State) (g : Nat) : State :=
  if groupPeriod s g = 0 ∨ ¬ s.flag .TB_RUNNING 0 then s
  else
    let t := nextStart s g
    let s := (s.atTick t).put .GROUP_START g t
    let s := ((groupPorts s g).filter s.isX).foldl budgetPeriod (loadStep s g t)
    let slots := groupSlots s g
    let posted := slots.filter (slotPosted s)
    let ran := slots.filter fun i => s.flag .WINDOW_ONLY i && (s.slotPorts i).any (fun p => s.get .PORT_DRIVE p == 1)
    let s := ran.foldl (fun a i => (a.put .WINDOW_ONLY i 0).put .RESUME_SYNC i 1) s
    let s := slots.foldl periodSlot s
    let s := (groupPorts s g).foldl (fun a p => if a.flag .GROUP_WAIT p then a else periodPort a p) s
    slots.foldl (fun a i => appliedVoltage a i (posted.contains i)) s

/-! ## GROUP (R249) -/

/-- A port that counts as enabled for a GROUP write. -/
def groupBusy (s : State) (p : Nat) : Bool :=
  if s.isX p then s.flag .PWM_EN p else s.isAxisPort p && !s.slotDisabled (s.portOwner p)

/-- A port of a set of an accepted map that waits (R96, R249). -/
def setWaits (s : State) (p : Nat) : Bool := s.getBit .MAP_WAIT_X 0 p || (s.isAxisPort p && s.getBit .MAP_WAIT 0 (s.portOwner p))

/-- A GROUP write after its value check: refused while a port is enabled or waits for a map. -/
def writeGroup (s : State) (p g : Nat) : State × Bool :=
  let ps := axisFan s p
  if ps.any (fun q => groupBusy s q || setWaits s q) then (ps.foldl (fun a q => a.put .GRP_REJ q 1) s, false)
  else (ps.foldl (fun a q => (a.put .GROUP q g).put .GROUP_WAIT q 1) s, true)

/-- A port develops its GROUP: it takes its new group's PERIOD and waits, off, for the group's next period start. -/
def joinGroup (s : State) (p : Nat) : State :=
  let g := s.get .GROUP p
  let peers := (groupPorts s g).filter (· != p)
  let s := s.develop .GROUP p
  let s := match peers with
    | q :: _ => budgetPeriod ([Reg.PERIOD, .PERIOD_LOADED, .PERIOD_LONG].foldl (fun a r => a.put r p (s.get r q)) s) p
    | [] => budgetPeriod (s.put .PERIOD_LONG p 0) p
  let s := s.put .LOAD_PEND p (b2n (s.getBit .LOAD_PEND_GRP 0 g))
  ((portOff s p).put .GROUP_WAIT p 0).put .JOINING p 1

/-- The window check of a slot with its developed values (R191), after its ports have taken another group's PERIOD. -/
def groupCheck (s : State) (i : Nat) : Nat :=
  let p := s.firstPort i
  windowCheck (s.get .PERIOD_DEV p) (s.get .DEAD_DEV p) (s.dv .WIN_ILK i) (s.dv .CUR_BLANK i) (s.dv .T_SAMPLE i)

/-- An accepted GROUP develops at a status tick, on every port of an axis together. One whose PERIOD an axis's window cannot take
develops nothing and stays refused (R191; log entry 99). -/
def groupTake (s : State) (p : Nat) : State :=
  if !s.flag .GROUP_WAIT p then s
  else if !s.isAxisPort p then joinGroup s p
  else
    let i := s.portOwner p
    let t := (s.slotPorts i).foldl joinGroup s
    if groupCheck t i = 0 then putWindow t i
    else rejectWindow ((s.slotPorts i).foldl (fun a q => (a.put .GROUP q (a.dv .GROUP q)).put .GROUP_WAIT q 0) s) i (groupCheck t i)

def groupDevelop (s : State) : State := s.each 32 (fun a p => a.flag .GROUP_WAIT p) groupTake

/-! ## Trips (R257, R258) -/

/-- An effective TRIP_LIMIT: 0 acts as 1. -/
def tripLimit (s : State) (p : Nat) : Nat := max 1 (s.dv .TRIP_LIMIT p)

/-- TRIP_CLR after its boundary checks: accepted or refused. -/
def tripClear (s : State) (p : Nat) : State × Bool :=
  let s := setTripActive s p
  if tripSource s p then
    (((s.put .TRIP_ACTIVE p 1).count .TRIP_CLR_REF p).post 0x0801 0x2 (portSlot s p) p, false)
  else ((s.put .TRIP_LATCH p 0).put .TRIP_RUN p 0, true)

/-! ## Events and TRIGO (R259 to R261) -/

/-- The developed configuration of an event source, laid out as +0x28 [6:0]. -/
def evtConfig (s : State) (p src : Nat) : Nat :=
  if src = 0 then s.dv .PRESC_ZERO p + s.dv .RTSEQ_ZERO p * 32 + s.dv .RTCONV_ZERO p * 64
  else if src = 1 then s.dv .CFG_PRD p else if src = 2 then s.dv .CFG_CMPA p else s.dv .CFG_CMPB p

/-- Whether a source can fire in the running period (R259). -/
def sourceLive (s : State) (p src : Nat) : Bool :=
  let per32 := 32 * s.get .PERIOD_DEV p
  if src = 2 then
    decide (0 ≤ s.geti .C_DEV p ∧ s.geti .C_DEV p < per32) && !bit (s.get .CMP_DEV p) 31
      && (!s.isAxisPort p || s.flag .C_FROM_ENGINE p)
  else if src = 3 then decide (s.dv .CMP_B p < per32)
  else true

/-- Driving a TRIGO pin high until a tick; a pulse in progress is extended to the later end (R120, R261). -/
def trigoPulse (s : State) (k t len : Nat) : State := (s.put .TRIGO_LEVEL k 1).put .TRIGO_END k (max (s.get .TRIGO_END k) (t + len))

/-- The PWM routes of TRIGO that select a port and a source. -/
def trigoRoutes (s : State) (p src t : Nat) : State :=
  s.each 4 (fun a k => a.flag .TRIGO_PWM_EN k && a.get .TRIGO_PORT k == p && a.get .TRIGO_SRC k == src)
    fun a k => trigoPulse a k t (16 * a.get .TRIGO_PW k)

/-- RT_SEQ: at most one PWM_EVENT per port every 100 µs, and none during a sequencer restart (R260, R262). -/
def seqRoute (s : State) (p src : Nat) : State :=
  if s.flag .SEQ_DOWN 0 ∨ (s.flag .EVT_POSTED p ∧ s.ts < s.get .EVT_TICK p + 16000) then s.count .PWM_EVT_LOST p
  else ((s.post 0x0802 0x2 (portSlot s p) (p + src * 256)).put .EVT_TICK p s.ts).put .EVT_POSTED p 1

/-- A source event: its prescaler, then the enabled routes. `sample` takes the monitor sample of R260. -/
def sourceEvent (s : State) (p src : Nat) (sample : State → Nat → State) : State :=
  let cfg := evtConfig s p src
  let presc := cfg % 32
  if presc = 0 ∨ !sourceLive s p src then s
  else
    let k := 4 * p + src
    let n := s.get .PRESC_CNT k + 1
    if n < presc then s.put .PRESC_CNT k n
    else
      let s := s.put .PRESC_CNT k 0
      let s := if bit cfg 5 then seqRoute s p src else s
      let s := if bit cfg 6 ∧ s.isX p then sample s p else s
      trigoRoutes s p src s.ts

def monitorEnabled (s : State) (p : Nat) : Bool := s.isX p && (List.range 4).any fun k => bit (evtConfig s p k) 6

/-! ## The power budget's change of a period (R266) -/

/-- The longer PERIOD of a group; 0 restores the loaded one. It develops at the group's next period start (R244). -/
def setBudgetPeriod (s : State) (g long : Nat) : State := (groupPorts s g).foldl (fun a p => a.put .PERIOD_LONG p long) s

/-- The timebase restart of the PWM block (R264): carriers at 0 together, every port off. -/
def carriersRestart (s : State) : State :=
  let s := (List.range 16).foldl (fun a g => a.put .GROUP_START g a.ts) s
  let s := (List.range 8).foldl (fun a i => a.put .CYC_END i 0) s
  (List.range 32).foldl (fun a p =>
    ((if a.flag .HB_OUT (p / 8) then a else portOff a p).put .REFRESH_RUN p 0).put .TRIP_RUN p 0) s

end Sys2Proof.Machine
end

