-- ==== Sys2Proof/Machine/StopBath.lean ====
section
/-! DEFINITION. The stop-bath, the fault reactions and FAULTN (R289 to R296), and the ride-through state (R286). -/

namespace Sys2Proof.Machine

/-! ## FAULTN (R74, R295, R475) -/

def slotFaulted (s : State) (i : Nat) : Bool := s.drive i == dsFaultReaction || s.drive i == dsFault

/-- FAULTN is low: until boot completes, while a slot is in a fault state, while a row marked "Yes" stands, or while
the manager holds it (R412). -/
def faultnLow (s : State) : Bool :=
  !s.flag .BOOT_DONE 0 || !s.flag .TB_RUNNING 0 || s.flag .MGR_FAULTN 0 || s.getBit .BUS_STAT 0 3
    || (List.range 8).any (slotFaulted s) || (List.range 32).any (fun p => xPortCause s p != 0)
    || (List.range 4).any fun b => s.flag .HARD_OV b || s.flag .HB_OUT b || s.flag .DIE_OT b

/-- Judging FAULTN again: its fall sets the FAULT flag. -/
def judgeFaultn (s : State) : State :=
  let low := faultnLow s
  let s := if low ∧ ¬ s.flag .FAULTN_LOW 0 then s.put .FAULT 0 1 else s
  s.put .FAULTN_LOW 0 (b2n low)

/-! ## Power state of a slot (R300) -/

def slotLocked (s : State) (i : Nat) : Bool := (s.slotPorts i).any fun p => !s.flag .VDRV_OK (p / 8)

/-- Bits 0 to 2 of PWR_STATE; bit 3 is the ride-through state itself. -/
def judgePower (s : State) (i : Nat) : State :=
  let s := s.setBit .PWR_STATE i 0 (s.getBit .BUS_STAT 0 0)
  let s := s.setBit .PWR_STATE i 1 (s.getBit .BUS_STAT 0 1)
  s.setBit .PWR_STATE i 2 (slotLocked s i)

def judgePowers (s : State) : State := s.each 8 (fun _ _ => true) judgePower

def rideThrough (s : State) (i : Nat) : Bool := s.getBit .PWR_STATE i 3

/-! ## Leaving Operation enabled at once -/

/-- What a slot's motion source loses when it leaves Operation enabled without a stop: a stream ends (R111), a
follower is INACTIVE (R176), a chain and a plan end, homing fails with HOMING_ABORTED (R169). -/
def cutMotion (s : State) (i : Nat) : State :=
  let s := stripCancel (leaveSegmentMode s i) i
  let s := s.setMo i { s.mo i with cur := none, plan := [], past := [], chain := [], pulses := [] }
  let s := (publish s i (s.geti .OUT_P i) 0).puti .EV_P i (s.geti .OUT_P i)
  let s := (s.put .EV_V i 0).clearAll [.STOP_REQ, .STOP_REQ_RATE, .STOP_REQ_SCURVE, .HM_REQ, .AFTER_STOP, .SF_STATE,
    .CH_STATE, .CH_STOP, .STOP_RATE, .PLAN_STATE, .SP_FULL, .TGT_NEW, .MODE_ENTRY, .LIM_PLAN, .WINDOW_ONLY, .RESUME_SYNC,
    .STALL_HOLD, .STALL_STAND] i
  homingAbort (restRegulator (probeAbort s i) i) i

/-- The slot enters a state in which its switches are off; an active stop-bath keeps them. -/
def driveDown (s : State) (i ds : Nat) : State :=
  let s := (cutMotion s i).put .DRIVE_STATE i ds
  let s := restDevelop (s.setBit .PWR_STATE i 3 false) i
  if s.get .SB_STATE i = 0 then slotPortsOff s i else s

/-! ## The stop-bath (R289 to R293) -/

def scopeSlots (s : State) (i : Nat) : List Nat := idsWhere 8 (s.getBit .SB_GROUP i)

def scopePorts (s : State) (i : Nat) : List Nat := (scopeSlots s i).flatMap s.slotPorts

/-- Whether a D-die holds the stop-bath of one of the slot's banks on its own (R58). -/
def dieHolds (s : State) (i : Nat) : Bool := (s.slotPorts i).any fun p => s.flag .HB_OUT (p / 8)

/-- The variant of R290: 1 LS, 2 HS, 3 OFF. A slot whose PWM_EN reads 0 stands in OFF (R265). -/
def chooseVariant (s : State) (i : Nat) : Nat :=
  let ps := scopePorts s i
  let lsp := ps.any fun p => s.flag .LSP_SHORT p
  let hsp := ps.any fun p => s.flag .HSP_SHORT p
  if (lsp && hsp) || ps.any fun p => !s.flag .VDRV_OK (p / 8) then 3
  else if !dieHolds s i && (s.slotPorts i).any fun p => !s.flag .PWM_EN p then 3
  else if lsp then 2
  else 1

/-- The lanes of one port in a variant (R271, R289, R291): a latched port stays off, and so does one of a bank that
cannot drive its gates. -/
def drivePort (s : State) (p v : Nat) : State :=
  let b := p / 8
  let off := portLatched s p || !(v == 1 || v == 2) || s.flag .DIE_OT b || !s.flag .VDRV_OK b
    || (!s.flag .HB_OUT b && (!s.flag .PWM_EN p || !s.flag .BANK_REL b || !s.flag .TB_RUNNING 0))
  if off then portOff s p else (interlockWait (portOff s p) p).put .PORT_DRIVE p (if v = 1 then 2 else 3)

def applyVariant (s : State) (i : Nat) : State :=
  (s.slotPorts i).foldl (fun a p => drivePort a p (s.get .SB_STATE i)) s

/-- What ends variant HS at once: an active TRIPN (R255), or a bootstrap of the scope in lock-out (R281, R289). -/
def highBarred (s : State) (i : Nat) : Bool := (scopePorts s i).any fun p => s.flag .TRIPN_LOW (p / 8) || s.flag .BST_UV p

/-- A variant only moves from LS to HS or OFF, or from HS to OFF (R290). -/
def setVariant (s : State) (i v : Nat) : State :=
  let v := if v = 2 ∧ highBarred s i then 3 else v
  if s.get .SB_STATE i = 0 ∨ v ≤ s.get .SB_STATE i then s
  else
    let s := (s.put .SB_STATE i v).put .SB_STILL_SINCE i 0
    applyVariant (if v = 2 then s.put .SB_HS_TICK i s.ts else s) i

/-- Slots in a stop-bath whose scope contains a slot. -/
def bathsOver (s : State) (i : Nat) : List Nat := idsWhere 8 fun k => s.get .SB_STATE k != 0 && s.getBit .SB_GROUP k i

/-- Every stop-bath whose scope contains the slot goes to OFF (R290). -/
def scopeOff (s : State) (i : Nat) : State := (bathsOver s i).foldl (fun a k => setVariant a k 3) s

/-- The variant chosen again after a change of the short flags or lock-outs (R290). -/
def rechoose (s : State) (i : Nat) : State := (bathsOver s i).foldl (fun a k => setVariant a k (chooseVariant a k)) s

/-- STOP_BATH (R296). -/
def postBath (s : State) (i cause : Nat) : State :=
  s.post 0x0901 0x3 i (s.get .SB_STATE i + s.get .SB_SCOPE i * 16 + cause * 256)

/-- One slot of a scope enters the stop-bath; during one, a later cause only counts (R295, R300). -/
def bathSlot (mask scope cause : Nat) (s : State) (i : Nat) : State :=
  let s := s.count .SB_CNT i
  if s.get .SB_STATE i ≠ 0 then s
  else
    let s := ((s.put .SB_GROUP i mask).put .SB_SCOPE i scope).put .SB_CAUSE i cause
    let v := chooseVariant s i
    let v := if v = 2 ∧ highBarred s i then 3 else v
    let s := (cutMotion (s.put .SB_STATE i v) i).put .SB_STILL_SINCE i 0
    let s := applyVariant (if v = 2 then s.put .SB_HS_TICK i s.ts else s) i
    unhome (postBath s i cause) i

/-- Entering stop-bath with a scope: 1 axis, 2 bank, 3 device (R291). -/
def enterBath (s : State) (slots : List Nat) (scope cause : Nat) : State :=
  slots.foldl (bathSlot (maskOf 8 fun k => slots.contains k) scope cause) s

/-- The end of a stop-bath: every switch of the slot turns off (R292). -/
def endBath (s : State) (i : Nat) : State :=
  if s.get .SB_STATE i = 0 then s
  else slotPortsOff ((s.clearAll [.SB_STATE, .SB_SCOPE, .SB_GROUP, .OV_RETURN, .SB_STILL_SINCE] i).setBit .SB_CMD 0 i false) i

/-! ## Faults (R294, R295, R433) -/

/-- GD_FAULT (R296): posted for the causes of gate drive, bus and D-dies. -/
def gdCause (c : Nat) : Bool := (decide (2 ≤ c ∧ c ≤ 6)) || (decide (8 ≤ c ∧ c ≤ 0xB)) || c == 0x12

def gdArg (cause port bank : Nat) : Nat := cause + port * 256 + bank * 65536

/-- No port, in the argument of GD_FAULT. -/
def noPort : Nat := 0x1F

/-- Event code that the EMCY of a cause names (R435). -/
def causeEvent (c : Nat) : Nat :=
  if gdCause c then 0x0900 else if c = 0x0C then 0x0603 else if c = 0x0D then 0x0602 else if c = 0x0E then 0x0700
  else if c = 0x0F then 0x0604 else if c = 0x10 then 0x0804 else if c = 0x13 then 0x0D05 else if c = 0x14 then 0x0E02
  else if c = 0x15 then 0x0A00 else if c = 0x16 then 0x0A02 else 0

/-- A slot's entry into Fault reaction active, with its event and EMCY; a slot already in a fault state keeps its
first cause. -/
def enterReaction (s : State) (i cause arg : Nat) : State :=
  let s := if gdCause cause then s.post 0x0900 0x3 i arg else s
  if slotFaulted s i then s
  else
    let s := (((stripCancel s i).put .DRIVE_STATE i dsFaultReaction).put .FAULT_CAUSE i cause).setBit .PWR_STATE i 3 false
    judgeFaultn (s.emcy (causeCode cause) i cause (causeEvent cause))

/-- Reaction "all off" of a slot, to Fault at once. -/
def allOffFault (s : State) (i cause arg : Nat) : State :=
  let s := driveDown (enterReaction s i cause arg) i dsFault
  slotPortsOff (if s.get .SB_STATE i ≠ 0 then setVariant s i 3 else s) i

/-- Reaction "stop-bath" of a scope: every slot goes through Fault reaction active to Fault. -/
def bathFault (s : State) (slots : List Nat) (scope cause arg : Nat) : State :=
  let s := slots.foldl (fun a i => enterReaction a i cause arg) s
  let s := enterBath s slots scope cause
  judgeFaultn (slots.foldl (fun a i => driveDown a i dsFault) s)

/-- Reaction "planned stop, then all off" (R294): from a regulated state at a deceleration with cause 0x9. -/
def plannedFault (s : State) (i cause rate : Nat) : State :=
  if slotFaulted s i then s
  else
    let moving := s.drive i == dsEnabled || s.drive i == dsQuickStop
    let held := moving && s.get .SB_STATE i == 0 && !rideThrough s i
    let s := enterReaction s i cause 0
    if held then (requestStop (leaveSources (homingAbort (probeAbort s i) i) i) i 9 rate false).put .AFTER_STOP i 5
    else judgeFaultn (driveDown s i dsFault)

/-- The axis fault of a port: the scope is its axis, or the X-port alone (R294). -/
def portFault (s : State) (p cause : Nat) : State :=
  let arg := gdArg cause p (p / 8)
  if s.isAxisPort p then bathFault s [s.portOwner p] 1 cause arg
  else judgeFaultn ((s.post 0x0900 0x3 noSlot arg).emcy (causeCode cause) 0xFF cause 0x0900)

/-! ## Coast, lock-out and ride-through (R286) -/

/-- Enabled: Switched on or above, fault states and the stop-bath apart. -/
def powered (s : State) (i : Nat) : Bool := (s.drive i == dsSwitchedOn || s.drive i == dsEnabled || s.drive i == dsQuickStop)

/-- The slot enters the ride-through state, keeping the state to which it returns. -/
def enterRide (s : State) (i : Nat) : State :=
  if rideThrough s i then s
  else
    let back := s.drive i
    let s := driveDown s i dsSwitchedOn
    let s := ((s.put .RT_BACK i back).put .FR_HELD i 0).setBit .PWR_STATE i 3 true
    unhome (s.post 0x0903 0x3 i 1) i

/-- What a bus coast or lock-out does to a slot whose switches it turned off. -/
def loseSupply (s : State) (i cause arg : Nat) : State :=
  if s.get .SB_STATE i ≠ 0 then s
  else if powered s i then
    if s.dflag .RIDE_THROUGH i then enterRide s i else unhome (allOffFault s i cause arg) i
  else if s.drive i = dsFaultReaction then unhome (driveDown s i dsFault) i
  else unhome s i

/-- A slot enters Operation enabled: a window-only period comes first (R209), the observer restarts its estimates of
this enable, the load-adaptive factor starts at 100 % (R204), and the bootstraps have their exemption (R281). -/
def enableSlot (s : State) (i : Nat) (resume : Bool) : State :=
  let s := observerEnable (s.put .DRIVE_STATE i dsEnabled) i
  let s := (s.slotPorts i).foldl (fun a p => (a.put .BST_EXEMPT p 32).put .BST_RUN p 0) s
  let s := ((s.put .POSTED i 0).put .ADAPT_FACT i 0x8000).setBit .REG_STAT i 4 false
  ((s.put .WINDOW_ONLY i 1).put .NO_POST_RUN i 0).put .MODE_RESUME i (b2n resume)

/-- The causes of the ride-through state have ended. -/
def supplyBack (s : State) (i : Nat) : Bool :=
  rideThrough s i && !s.getBit .BUS_STAT 0 1 && !slotLocked s i && s.get .SB_STATE i == 0
    && (s.slotPorts i).all fun p => bankLive s (p / 8)

/-- The return from the ride-through state (R286); a held enable operation follows it (R433). -/
def powerBack (s : State) (i : Nat) : State :=
  if !supplyBack s i then s
  else
    let s := (s.setBit .PWR_STATE i 3 false).post 0x0903 0x3 i 0
    let back := if s.flag .FR_HELD i then dsEnabled else s.get .RT_BACK i
    if back = dsEnabled then enableSlot s i true else s.put .DRIVE_STATE i back

def powerBackAll (s : State) : State := s.each 8 (fun _ _ => true) powerBack

end Sys2Proof.Machine
end

