-- ==== Sys2Proof/Machine/Gate.lean ====
section
/-! DEFINITION. The D-dies: short circuits, trips, interlock and bootstrap faults, latches and their clears, gate
supplies, heartbeat, over-temperature; the motor bus (R57 to R59, R265, R276 to R288, R293). -/

namespace Sys2Proof.Machine

/-! ## Port faults (R255, R257, R276 to R278, R281) -/

/-- A trip of a switch of a port that stands in a stop-bath (R290). -/
def tripInBath (s : State) (p : Nat) (high : Bool) : State :=
  if s.isAxisPort p ∧ s.get .PORT_DRIVE p = (if high then 3 else 2) then scopeOff s (s.portOwner p) else s

/-- SHORT_CIRCUIT_TRIP (R277, R278); `other` tells whether the other gate is off and its comparator above threshold. -/
def shortTrip (s : State) (p : Nat) (high other : Bool) : State :=
  let s := tripPort (tripInBath (s.put .SC_SEEN p 1) p high) p high
  if !other then s
  else
    let s := (if high then s.put .HSP_SHORT p 1 else s.put .LSP_SHORT p 1)
    let s := portOff ((s.put .GD_LATCH p 1).put .GD_CAUSE p 2) p
    let s := setTripActive s p
    let s := if s.isAxisPort p then rechoose s (s.portOwner p) else s
    portFault s p 2

/-- TRIP_LATCH (R257): TRIP_RUN has reached the effective TRIP_LIMIT. -/
def tripLatchDue (s : State) (p : Nat) : Bool := !s.flag .TRIP_LATCH p && decide (tripLimit s p ≤ s.get .TRIP_RUN p)

def tripLatchOff (s : State) (p : Nat) : State :=
  let s := portOff (s.put .TRIP_LATCH p 1) p
  portFault (s.post 0x0800 0x2 (portSlot s p) (p + s.get .TRIP_RUN p % 256 * 256)) p 2

/-- TRIPN of a bank becomes active (R255): every high side of the bank turns off for the rest of the period. -/
def tripnOn (s : State) (b : Nat) : State :=
  let s := s.put .TRIPN_LOW b 1
  (List.range 8).foldl (fun a k =>
    let p := 8 * b + k
    let a := setTripActive a p
    if a.get .PORT_DRIVE p = 3 then tripPort (tripInBath a p true) p true
    else if a.get .PORT_DRIVE p = 1 then tripPort a p true
    else a) s

def tripnOff (s : State) (b : Nat) : State :=
  (List.range 8).foldl (fun a k => setTripActive a (8 * b + k)) (s.put .TRIPN_LOW b 0)

/-- INTERLOCK_TIMEOUT (R276): the wait of 2 µs shows in ILK_WAIT_MAX (R275). -/
def interlockTimeout (s : State) (p : Nat) : State :=
  let s := s.put .ILK_WAIT_MAX p (max (s.get .ILK_WAIT_MAX p) 10240)
  let s := portOff (((s.put .ILK_TO p 1).put .GD_LATCH p 1).put .GD_CAUSE p 3) p
  portFault s p 3

/-- The tick of the scheduled high-side turn-on of the running period. -/
def turnOnTick (s : State) (p : Nat) : Nat := s.get .GROUP_START (groupOf s p) + (s.get .HS_FROM p + 31) / 32

/-- A refresh pulse forced in the running period (R254, R281): the low side turns on after t_DT, or stays on where it is on, for
REFRESH_WIDTH, and a scheduled high side follows no earlier than t_DT after it. -/
def forcePulse (s : State) (p : Nat) : State :=
  let at32 := 32 * (s.ts - s.get .GROUP_START (groupOf s p))
  let dt := deadOf s p
  let lowOn := decide (s.get .LS_FROM p ≤ at32 ∧ at32 < s.get .LS_TO p)
  let from_ := if lowOn then s.get .LS_FROM p else at32 + dt
  let to_ := max (if lowOn then s.get .LS_TO p else 0) ((if lowOn then at32 else at32 + dt) + 32 * s.dv .REFRESH_WIDTH p)
  let s := (s.put .LS_FROM p from_).put .LS_TO p to_
  let s := if s.get .HS_FROM p = 0xFFFFF then s else s.put .HS_FROM p (max (s.get .HS_FROM p) (to_ + dt))
  ((((s.count .REFRESH_CNT p).put .REFRESH_RUN p 0).put .HALF_PULSE p 1).put .LOW_CUR p 1).put .FULL_CUR p 0

/-- BOOTSTRAP_LOCKOUT (R281): the high side is off, a refresh pulse is forced, and the HS variant ends (R289). -/
def bootstrapLockout (s : State) (p : Nat) : State :=
  let s := (s.put .BST_UV p 1).put .BST_UV_SEEN p 1
  if s.get .PORT_DRIVE p = 3 ∧ s.isAxisPort p then scopeOff s (s.portOwner p)
  else if s.get .PORT_DRIVE p = 1 then
    forcePulse ((s.put .BST_BAD p (b2n (decide (s.get .HS_FROM p ≠ 0xFFFFF)))).put .HIGH_ON p 0) p
  else s

/-- BOOTSTRAP_LOCKOUT_RELEASE (R281): before the scheduled turn-on the high side turns on after all, and the period is no
undervoltage period. -/
def bootstrapRelease (s : State) (p : Nat) : State :=
  let s := s.put .BST_UV p 0
  if s.ts ≤ turnOnTick s p then
    let on := s.get .PORT_DRIVE p == 1 && decide (s.get .HS_FROM p < 0xFFFFF) && !s.flag .TRIPPED_H p
    (s.put .BST_BAD p 0).put .HIGH_ON p (if on then 1 else s.get .HIGH_ON p)
  else s

/-- BOOTSTRAP_UV_FAULT (R281): after three consecutive undervoltage periods. -/
def bootstrapFault (s : State) (p : Nat) : State :=
  if s.get .BST_RUN p < 3 then s
  else
    let s := s.put .BST_RUN p 0
    if s.isX p then portFault (portOff ((s.put .GD_LATCH p 1).put .GD_CAUSE p 4) p) p 4
    else if s.isAxisPort p then portFault s p 4 else s

/-! ## GD_CLR and the leg test (R279) -/

/-- Both switches of the port are off in a state that admits a clear. -/
def clearable (s : State) (p : Nat) : Bool :=
  if s.isAxisPort p then
    let i := s.portOwner p
    s.get .SB_STATE i == 3 || (s.get .SB_STATE i == 0 && s.slotDisabled i)
  else !s.flag .PWM_EN p

def refuseClear (s : State) (p why : Nat) : State := (s.put .GD_CLR_REF p 1).post 0x0904 0x3 (portSlot s p) (p + why)

/-- What a successful clear resets; an X-port's error may have been the last standing (R435). -/
def clearGate (s : State) (p : Nat) : State :=
  let had := xPortCause s p != 0
  let s := setTripActive (s.clearAll [.GD_LATCH, .GD_CAUSE, .LSP_SHORT, .HSP_SHORT] p) p
  judgeFaultn (if had ∧ xPortCause s p = 0 then s.emcyIfClear 0xFF else s)

/-- GD_CLR: the state after it, and whether it stands refused. A classified short starts the leg test, whose result
comes later; an interlock latch clears when both gates read low. -/
def gdClear (s : State) (p : Nat) (gatesLow : Bool) : State × Bool :=
  if !clearable s p then (refuseClear s p 0x200, true)
  else if !s.flag .GD_LATCH p then (s, false)
  else if s.flag .LSP_SHORT p ∨ s.flag .HSP_SHORT p then (s.put .LEG_TEST p 1, false)
  else if s.get .GD_CAUSE p = 3 ∧ !gatesLow then (refuseClear s p 0x200, true)
  else (clearGate s p, false)

/-! ## Fault reset (R292, R432) -/

/-- A cause stands that no clear can end (R292, R294): bus out of range, gate supply in lock-out, a D-die not yet
released, a junction not yet below 150 °C. -/
def resetBlocked (s : State) (i : Nat) : Bool :=
  s.getBit .BUS_STAT 0 1 || s.getBit .BUS_STAT 0 3 || slotLocked s i || dieHolds s i || !s.flag .TB_RUNNING 0
    || (s.slotPorts i).any fun p =>
      s.flag .HARD_OV (p / 8) || s.flag .HARD_COAST (p / 8) || s.flag .DIE_HOT (p / 8) || !s.flag .BANK_REL (p / 8)

/-- TRIP_CLR by itself; an X-port's error may have been the last standing (R435). -/
def clearTrip (s : State) (p : Nat) : State × Bool :=
  let had := xPortCause s p != 0
  let (s, ok) := tripClear s p
  (judgeFaultn (if had ∧ xPortCause s p = 0 then s.emcyIfClear 0xFF else s), ok)

/-- TRIP_CLR on every port of the slot that TRIP_LATCH holds; whether one was refused. -/
def clearTrips (s : State) (i : Nat) : State × Bool :=
  (s.slotPorts i).foldl (fun (a, r) p =>
    if a.flag .TRIP_LATCH p then let (a, ok) := tripClear a p; (a, r || !ok) else (a, r)) (s, false)

/-- The end of a fault reset once every GD_CLR has its result: TRIP_CLR runs whatever they were (R279, R292). -/
def finishReset (s : State) (i : Nat) : State :=
  if !s.flag .RESETTING i ∨ (s.slotPorts i).any (fun p => s.flag .LEG_TEST p) then s
  else
    let (s, refused) := clearTrips (s.put .RESETTING i 0) i
    if refused ∨ s.flag .RESET_REFUSED i then s
    else
      let s := slotPortsOff (endBath s i) i
      let s := restDevelop ((s.put .DRIVE_STATE i dsSwitchOnDisabled).put .FAULT_CAUSE i 0) i
      judgeFaultn (s.emcyIfClear i)

/-- A rising edge of controlword bit 7 (R432); it acts in Fault only. -/
def faultReset (s : State) (i : Nat) (gatesLow : Bool) : State :=
  if s.drive i ≠ dsFault ∨ s.flag .RESETTING i ∨ resetBlocked s i then s
  else
    let s := (s.put .RESETTING i 1).put .RESET_REFUSED i 0
    let s := if s.get .SB_STATE i ≠ 0 then (scopeSlots s i).foldl (fun a k => setVariant a k 3) s else s
    let s := (s.slotPorts i).foldl (fun a p =>
      if a.flag .GD_LATCH p then
        let (a, refused) := gdClear a p gatesLow
        if refused then a.put .RESET_REFUSED i 1 else a
      else a) s
    finishReset s i

/-- LEG_TEST_RESULT (R279): `passed` when both pulses ran and neither tripped. -/
def legTestResult (s : State) (p : Nat) (passed : Bool) : State :=
  if !s.flag .LEG_TEST p then s
  else
    let s := s.put .LEG_TEST p 0
    let i := s.portOwner p
    let mine := s.isAxisPort p && s.flag .RESETTING i
    let s := if passed then clearGate s p else refuseClear s p 0x100
    let s := s.reply (if passed then 0 else 0x08000022) []
    if mine then finishReset (if passed then s else s.put .RESET_REFUSED i 1) i else s

/-! ## The bus (R282 to R288) -/

/-- A change of BUS_STAT by a reading or a comparator: sticky copies, the brake port, BUS_STATE (R282). -/
def setBusStat (s : State) (new : Nat) : State :=
  let old := s.get .BUS_STAT 0
  if new = old then s
  else
    let s := (s.put .BUS_STAT 0 new).put .BUS_SEEN 0 (s.get .BUS_SEEN 0 ||| new)
    judgeFaultn (judgePowers (s.post 0x0902 0x3 noSlot (new + s.get .VBUS_MV 0 / 100 % 65536 * 65536)))

def brakeValid (s : State) : Bool := s.isX (s.get .BRAKE_PORT 0) && s.flag .PWM_EN (s.get .BRAKE_PORT 0)

/-- The chopper stops at once: its high side turns off (R287). -/
def brakeStop (s : State) : State :=
  if s.getBit .BUS_STAT 0 2 then portOff (s.setBit .BUS_STAT 0 2 false) (s.get .BRAKE_PORT 0) else s

/-- The chopper's rule judged in a handshake: BRAKE_REJ, and a braking chopper stops (R287). -/
def judgeBrake (s : State) : State :=
  if s.flag .BRAKE_EN 0 ∧ !brakeValid s then brakeStop (s.put .BRAKE_REJ 0 1)
  else if !s.flag .BRAKE_EN 0 then brakeStop s else s

/-- Every port turns off but those of an active stop-bath, and enabled slots lose their supply (R285, R286). -/
def busCoast (s : State) : State :=
  let s := s.count .BUS_COAST_CNT 0
  let s := s.put .COAST_GOOD 0 0
  let s := (List.range 32).foldl (fun a p =>
    if a.isAxisPort p ∧ a.get .SB_STATE (a.portOwner p) ≠ 0 then a else portOff a p) s
  judgeFaultn ((List.range 8).foldl (fun a i => loseSupply a i 6 (gdArg 6 noPort 0)) s)

/-- A reading or comparator sets BUS_COAST (R285). -/
def setCoast (s : State) : State :=
  if s.getBit .BUS_STAT 0 1 then s.put .COAST_GOOD 0 0
  else busCoast (setBusStat s (setBit (s.get .BUS_STAT 0) 1 true))

/-- An overvoltage reading (R288): every slot in Switched on or above enters stop-bath in device scope. -/
def busOver (s : State) : State :=
  let s := s.count .BUS_OV_CNT 0
  let slots := idsWhere 8 fun i => powered s i || s.drive i == dsFaultReaction
  let ride := slots.filter fun i => s.dflag .RIDE_THROUGH i && powered s i
  let hard := slots.filter fun i => !ride.contains i
  let backs := ride.map fun i => (i, if rideThrough s i then s.get .RT_BACK i else s.drive i)
  let s := hard.foldl (fun a i => enterReaction a i 8 (gdArg 8 noPort 0)) s
  let s := enterBath s slots 3 8
  let s := backs.foldl (fun a (i, b) =>
    let a := if rideThrough a i then a else (a.setBit .PWR_STATE i 3 true).post 0x0903 0x3 i 1
    (((a.put .DRIVE_STATE i dsSwitchedOn).put .RT_BACK i b).put .FR_HELD i 0)) s
  judgeFaultn (hard.foldl (fun a i => driveDown a i dsFault) s)

/-- BUS_OV clears (R288): the slots of an overvoltage stop-bath with RIDE_THROUGH return 10 ms later. -/
def busOverEnd (s : State) : State :=
  let s := s.put .OV_CLEAR_TICK 0 s.ts
  s.each 8 (fun a i => a.get .SB_STATE i != 0 && a.get .SB_CAUSE i == 8 && rideThrough a i) fun a i => a.put .OV_RETURN i 1

/-- BUS_LOW's bus halt ends (R284); its release acts as the release of a halt where no controlword halt stands. -/
def busLowEnd (s : State) (release : State → Nat → State) : State :=
  if s.flag .BUS_HALT 0 then
    let s := s.put .BUS_HALT 0 0
    s.each 8 (fun _ _ => true) release
  else s

/-- The judgement of one VBUS reading in mV (R282 to R288). -/
def judgeBus (s : State) (mv : Nat) (release : State → Nat → State) : State :=
  let s := (s.put .VBUS_MV 0 mv).put .BUS_READ_TICK 0 s.ts
  let old := s.get .BUS_STAT 0
  let low := if bit old 0 then decide (mv < 100 * s.get .VBUS_LOW 0 + 1000) else decide (mv < 100 * s.get .VBUS_LOW 0)
  let coast := bit old 1 || decide (mv < 8000)
  let may := s.flag .BRAKE_EN 0 && brakeValid s
  let brake := may && (if bit old 2 then decide (100 * (s.get .VBUS_BRAKE 0 - s.get .BRAKE_HYST 0) < mv) else decide (100 * s.get .VBUS_BRAKE 0 ≤ mv))
  let ov := if bit old 3 then decide (100 * s.get .VBUS_OV 0 < mv + 2000) else decide (100 * s.get .VBUS_OV 0 < mv)
  let new := b2n low + 2 * b2n coast + 4 * b2n brake + 8 * b2n ov
  let s := setBusStat s new
  let s := if low ∧ ¬ bit old 0 then s.put .BUS_LOW_SINCE 0 s.ts else if !low ∧ bit old 0 then busLowEnd s release else s
  let s := if brake ∧ ¬ bit old 2 then
      let p := s.get .BRAKE_PORT 0
      let s := s.count .BRAKE_CNT 0
      -- on within 1 µs of the reading, after the dead time, without a LOAD_ALL
      if s.get .PORT_DRIVE p = 1 ∧ !s.flag .BST_UV p ∧ !s.flag .TRIPPED_H p then
        let at32 := 32 * (s.ts - s.get .GROUP_START (groupOf s p))
        ((s.put .LS_TO p (min (s.get .LS_TO p) (max at32 (s.get .LS_FROM p)))).put .HS_FROM p (min (s.get .HS_FROM p) (at32 + deadOf s p))).put .HIGH_ON p 1
      else s
    else if !brake ∧ bit old 2 then portOff s (s.get .BRAKE_PORT 0)
    else s
  let s := if coast ∧ ¬ bit old 1 then busCoast s else s
  let s := if !coast then s
    else if mv < 10000 then s.put .COAST_GOOD 0 0
    else if s.get .COAST_GOOD 0 = 0 then s.put .COAST_GOOD 0 (max 1 s.ts) else s
  if ov ∧ ¬ bit old 3 then busOver s else if !ov ∧ bit old 3 then busOverEnd s else s

/-- BUS_STALE (R282): no reading newer than 1 ms; the brake chopper turns off. -/
def busStale (s : State) : State :=
  if s.ts ≤ s.get .BUS_READ_TICK 0 + ticksPerMs ∨ s.getBit .BUS_STAT 0 4 then s
  else
    let s := (brakeStop s).setBit .BUS_SEEN 0 4 true
    setBusStat s (setBit (s.get .BUS_STAT 0) 4 true)

/-- The end of a coast (R285, R286). -/
def coastEnd (s : State) : State :=
  let good := s.get .COAST_GOOD 0
  if s.getBit .BUS_STAT 0 1 ∧ good ≠ 0 ∧ good + 10 * ticksPerMs ≤ s.ts ∧ (List.range 4).all (fun b => !s.flag .HARD_COAST b) then
    powerBackAll (setBusStat s (setBit (s.get .BUS_STAT 0) 1 false))
  else s

/-- HARD_OVERVOLTAGE of a bank (R288). -/
def hardOver (s : State) (b : Nat) : State :=
  if s.flag .HARD_OV b then s
  else
    let s := (s.put .HARD_OV b 1).put .HARD_OV_SEEN b 1
    let slots := idsWhere 8 fun i => s.kind i != 0 && s.slotOnBank i b
    let s := (List.range 8).foldl (fun a k => let p := 8 * b + k; if a.isX p then portOff (a.put .X_HELD p 1) p else a) s
    let s := if slots = [] then s.post 0x0900 0x3 noSlot (gdArg 9 noPort b) else s
    bathFault s slots 2 9 (gdArg 9 noPort b)

/-- OV_STOP_BATH_END (R288). -/
def overReturn (s : State) : State :=
  if s.getBit .BUS_STAT 0 3 ∨ s.ts < s.get .OV_CLEAR_TICK 0 + 10 * ticksPerMs then s
  else s.each 8 (fun a i => a.flag .OV_RETURN i) fun a i => powerBack (endBath a i) i

/-- A release of a bank's coast (R282) or hard-overvoltage comparator. -/
def comparatorRelease (s : State) (b : Nat) (coast hard : Bool) : State :=
  let s := if coast then s.put .HARD_COAST b 0 else s
  judgeFaultn (coastEnd (if hard then s.put .HARD_OV b 0 else s))

/-! ## Banks (R57 to R59, R280, R294, R473) -/

def bankPorts (b : Nat) : List Nat := (List.range 8).map (8 * b + ·)

def bankSlots (s : State) (b : Nat) : List Nat := idsWhere 8 fun i => s.kind i != 0 && s.slotOnBank i b

/-- VDRV_LOCKOUT (R280). Below 5 V the D-die itself stops, and needs a new release (R473). -/
def vdrvLockout (s : State) (b mv : Nat) : State :=
  let s := s.put .VDRV_MV b mv
  if 8600 ≤ mv then s
  else
    let s := if mv < 5000 then portsOff (((s.put .BANK_REL b 0).put .HB_OUT b 0).put .DIE_UP b 0) (bankPorts b) else s
    if !s.flag .VDRV_OK b then s
    else
      let s := ((s.put .VDRV_OK b 0).put .VDRV_UV_SEEN b 1).count .VDRV_UV_CNT b
      let s := portsOff (s.post 0x0905 0x3 noSlot (b + 256)) (bankPorts b)
      let s := judgePowers s
      let s := (bankSlots s b).foldl (fun a i =>
        let a := rechoose a i
        loseSupply (if a.get .SB_STATE i = 0 then slotPortsOff a i else a) i 5 (gdArg 5 noPort b)) s
      judgeFaultn s

/-- What the slots and X-ports of a bank do once it switches again. -/
def bankBack (s : State) (b : Nat) : State := judgeFaultn ((bankSlots s b).foldl powerBack s)

/-- VDRV_LOCKOUT_RELEASE (R280): VDRVb has read above 9.0 V for 100 µs. -/
def vdrvRelease (s : State) (b mv : Nat) : State :=
  let s := s.put .VDRV_MV b mv
  if mv ≤ 9000 ∨ s.flag .VDRV_OK b then s
  else bankBack (judgePowers ((s.put .VDRV_OK b 1).post 0x0905 0x3 noSlot b)) b

/-- Role copies the supervisor sends with a release (R96, R473). -/
def sendRoles (s : State) (b : Nat) : State := (bankPorts b).foldl (fun a p => a.put .DDIE_ROLE p (a.get .PORT_ROLE_DEV p)) s

/-- DDIE_BANK_RELEASE (R473): a powered-up D-die out of lock-out receives its roles and its release. -/
def bankRelease (s : State) (b : Nat) : State :=
  if !s.flag .VDRV_OK b ∨ s.flag .HB_OUT b ∨ s.get .BOOT_STAGE 0 < 7 then s
  else bankBack (((sendRoles s b).put .BANK_REL b 1).put .DIE_UP b 1) b

/-- The variant a D-die takes on its own for a port during a reset: its own roles and short state (R290, R475). -/
def dieVariant (s : State) (b p : Nat) : Nat :=
  let o := roleOwner (s.get .DDIE_ROLE p)
  let mine := (bankPorts b).filter fun q => roleOwner (s.get .DDIE_ROLE q) == o
  let lsp := mine.any fun q => s.getBit .DIE_SHORT q 0
  let hsp := mine.any fun q => s.getBit .DIE_SHORT q 1
  if 8 ≤ o ∨ s.flag .DIE_SHORT p ∨ (lsp ∧ hsp) then 0 else if lsp then 3 else 2

/-- The stop-bath a D-die starts on its own: the axes of its bank enter it, and the ports of those that stood in one are
driven by the D-die from now on (R58). -/
def dieBath (s : State) (slots : List Nat) (scope cause : Nat) : State := enterBath (slots.foldl applyVariant s) slots scope cause

/-- DDIE_WATCHDOG_EXPIRY (R57, R58, R294, R475): no valid heartbeat for more than 20 µs; with the timebase stopped, none
comes. Before the timebase has run, the D-die stands in stop-bath alone, the slots' registers being in reset. -/
def watchdogExpiry (s : State) (b : Nat) : State :=
  if s.flag .HB_OUT b ∨ !s.flag .DIE_UP b ∨ (s.flag .TB_RUNNING 0 ∧ s.ts ≤ s.get .HB_TICK b + 20 * ticksPerUs) then s
  else if !s.flag .TB_EVER 0 then
    (bankPorts b).foldl (fun a p => a.put .PORT_DRIVE p (if s.flag .VDRV_OK b then dieVariant a b p else 0)) (s.put .HB_OUT b 1)
  else
    let s := ((s.put .HB_OUT b 1).put .HB_LOST b 1).count .HB_LOST_CNT b
    let s := s.put .HB_GOOD b 0
    let s := (bankPorts b).foldl (fun a p => if a.isX p then portOff a p else a) s
    let slots := bankSlots s b
    if !s.flag .TB_RUNNING 0 then
      let on := slots.filter fun i => decide (dsSwitchedOn ≤ s.drive i)
      let s := if on = [] then s.post 0x0900 0x3 noSlot (gdArg 0xB noPort b) else s
      let s := on.foldl (fun a i => enterReaction a i 0xB (gdArg 0xB noPort b)) s
      judgeFaultn (on.foldl (fun a i => driveDown a i dsFault) (dieBath s slots 3 0xB))
    else
      let s := if slots = [] then s.post 0x0900 0x3 noSlot (gdArg 0xA noPort b) else s
      bathFault (slots.foldl applyVariant s) slots 2 0xA (gdArg 0xA noPort b)

/-- DDIE_RELEASE (R59, R264): after at least 1 ms of valid heartbeats. A stop-bath that no fault holds ends. -/
def dieRelease (s : State) (b : Nat) : State :=
  if !s.flag .HB_OUT b ∨ !s.flag .TB_RUNNING 0 ∨ s.get .HB_GOOD b = 0 ∨ s.ts < s.get .HB_GOOD b + ticksPerMs then s
  else
    let s := ((sendRoles (s.put .HB_OUT b 0) b).put .BANK_REL b 1).put .DIE_UP b 1
    let s := (bankPorts b).foldl (fun a p => if a.isX p then (a.put .REFRESH_RUN p 0).put .TRIP_RUN p 0 else a) s
    let s := (bankSlots s b).foldl (fun a i =>
      let mine := a.get .SB_CAUSE i == 0xA || a.get .SB_CAUSE i == 0xB
      if a.get .SB_STATE i ≠ 0 ∧ mine ∧ ¬ slotFaulted a i ∧ ¬ dieHolds a i then endBath a i
      else if a.get .SB_STATE i ≠ 0 then applyVariant a i else a) s
    bankBack s b

/-- DIE_OVER_TEMPERATURE (R294): all off, cause 0x12. -/
def dieHot (s : State) (b : Nat) : State :=
  if s.flag .DIE_OT b then s
  else
    let s := ((s.put .DIE_OT b 1).put .DIE_OT_SEEN b 1).put .DIE_HOT b 1
    let s := (bankPorts b).foldl (fun a p => if a.isX p then a.put .X_HELD p 1 else a) (portsOff s (bankPorts b))
    let slots := bankSlots s b
    let s := if slots = [] then s.post 0x0900 0x3 noSlot (gdArg 0x12 noPort b) else s
    judgeFaultn (slots.foldl (fun a i => allOffFault a i 0x12 (gdArg 0x12 noPort b)) s)

/-- DIE_OVER_TEMPERATURE_RELEASE: DIE_OT clears at 170 °C or below, and below 150 °C a reset becomes possible (R294). -/
def dieCool (s : State) (b temp : Nat) : State :=
  let s := if temp ≤ 170 then s.put .DIE_OT b 0 else s
  judgeFaultn (if temp < 150 then s.put .DIE_HOT b 0 else s)

/-! ## PWM_EN (R265) -/

/-- A write of PWM_EN, fanned out to the axis. -/
def writePwmEn (s : State) (p : Nat) (on : Bool) : State :=
  let ps := axisFan s p
  if on then ps.foldl (fun a q => (a.put .PWM_EN q 1).put .X_HELD q 0) s
  else
    let s := ps.foldl (fun a q => a.put .PWM_EN q 0) s
    let s := ps.foldl (fun a q => if a.flag .HB_OUT (q / 8) then a else portOff a q) s
    let s := judgeBrake s
    if !s.isAxisPort p then s
    else
      let i := s.portOwner p
      let sb := s.get .SB_STATE i
      if sb = 0 ∧ powered s i then
        judgeFaultn (allOffFault (s.post 0x0804 0x2 i p) i 0x10 0)
      else if sb = 0 ∧ s.drive i = dsFaultReaction then driveDown s i dsFault
      else if (sb = 1 ∨ sb = 2) ∧ !dieHolds s i then
        let s := setVariant s i 3
        postBath s i (s.get .SB_CAUSE i)
      else s

/-! ## Commanded stop-bath and timed variants (R289, R292, R293) -/

/-- A write of SB_CMD: a bit set below Switched on has no effect, a bit cleared ends the commanded stop-bath. -/
def writeSbCmd (s : State) (v : Nat) : State :=
  (List.range 8).foldl (fun a i =>
    let was := a.getBit .SB_CMD 0 i
    if bit v i ∧ ¬ was then
      if powered a i then
        let a := enterBath (a.setBit .SB_CMD 0 i true) [i] 1 0x11
        (driveDown a i dsSwitchedOn)
      else a
    else if ¬ bit v i ∧ was then
      let a := a.setBit .SB_CMD 0 i false
      if a.get .SB_CAUSE i = 0x11 ∧ a.get .SB_STATE i ≠ 0 ∧ ¬ slotFaulted a i then endBath a i else a
    else a) s

/-- HS_HOLD_MAX of the scope: the shortest of its banks. -/
def hsHold (s : State) (i : Nat) : Nat :=
  ((scopePorts s i).map fun p => s.dv .HS_HOLD_MAX (p / 8)).foldl min 1000

/-- HS_HOLD_EXPIRY (R289). -/
def hsExpiry (s : State) (i : Nat) : State :=
  if s.get .SB_STATE i = 2 ∧ s.get .SB_HS_TICK i + hsHold s i * ticksPerMs ≤ s.ts then scopeOff s i else s

/-- Whether standstill is reported now (R292): by the encoder channel, or by the observer in mode SHORTED. -/
def bathStill (s : State) (i : Nat) : Bool :=
  if s.hasEncoder i && !encFaulty s i then s.getBit .FB_STAT i 0
  else s.get .OBS_MODE i == 5 && decide (s.get .EMF_EST i < 50)

/-- The SB_STILL count starts at the first report and starts again at a break in it. -/
def judgeBathStill (s : State) (i : Nat) : State :=
  if s.get .SB_STATE i = 0 ∨ s.get .SB_STATE i = 3 then s
  else if !bathStill s i then s.put .SB_STILL_SINCE i 0
  else if s.get .SB_STILL_SINCE i = 0 then s.put .SB_STILL_SINCE i (max 1 s.ts) else s

/-- SB_STILL_EXPIRY (R292). -/
def stillExpiry (s : State) (i : Nat) : State :=
  let since := s.get .SB_STILL_SINCE i
  if s.dflag .SB_END i ∧ since ≠ 0 ∧ (s.get .SB_STATE i = 1 ∨ s.get .SB_STATE i = 2) ∧ since + s.dv .SB_STILL i * ticksPerMs ≤ s.ts then
    setVariant s i 3
  else s

end Sys2Proof.Machine
end

