-- ==== Sys2Proof/Machine/Drive.lean ====
section
/-! DEFINITION. The CiA 402 state machine, its controlword and statusword, halts, mode changes, set-points, the
stall reaction and the loss of communication (R111, R138, R139, R147, R156, R159, R228, R423, R430 to R433, R504). -/

namespace Sys2Proof.Machine

/-! ## Halts (R157, R159, R284) -/

/-- Controlword bits. -/
def cwHalt : Nat := 8

def haltRate (s : State) (i : Nat) : Nat :=
  if s.geti .HALT_OPTION i = 2 then s.get .QUICK_STOP_DEC i else stopDecOf s i (s.modeOf i)

/-- A halt takes effect on the motion source of a slot in Operation enabled. -/
def haltStart (s : State) (i cause rate : Nat) (scurve : Bool) : State :=
  let s := s.put .HALTED i 1
  if s.drive i ≠ dsEnabled then s else requestStop (homingAbort s i) i cause rate scurve

/-- Controlword bit 8 rises. -/
def haltOn (s : State) (i : Nat) : State :=
  haltStart s i 1 (haltRate s i) (s.geti .HALT_OPTION i == 1 && haltScurve s i)

/-- The motion source restarts from standstill as at the end of a halt (R159). -/
def restartSource (s : State) (i : Nat) : State :=
  let m := s.modeOf i
  let s := if s.get .PLAN_STATE i = 7 then s.put .PLAN_STATE i 0 else s
  if m = 1 then s.put .TGT_NEW i (s.get .TGT_SET i)
  else if m = 3 then s.put .TGT_NEW i 1
  else if m = 7 ∨ m = 8 ∨ m = 9 then s.put .CH_STATE i 2
  else s

/-- The slot stays halted until controlword bit 8 and the bus halt are both released (R284). -/
def haltOff (s : State) (i : Nat) : State :=
  if !s.flag .HALTED i ∨ s.getBit .CONTROLWORD i cwHalt ∨ s.flag .BUS_HALT 0 then s
  else
    let s := s.put .HALTED i 0
    if s.drive i = dsEnabled then restartSource s i else s

/-- RT_STOP (R284): BUS_LOW has stood for RT_STOP_MS. -/
def rtStop (s : State) : State :=
  if s.getBit .BUS_STAT 0 0 ∧ s.get .RT_STOP_MS 0 ≠ 0 ∧ ¬ s.flag .BUS_HALT 0
      ∧ s.get .BUS_LOW_SINCE 0 + s.get .RT_STOP_MS 0 * ticksPerMs ≤ s.ts then
    (s.put .BUS_HALT 0 1).each 8 (fun a i => a.drive i == dsEnabled) fun a i => haltStart a i 9 (a.get .STOP_DEC i) false
  else s

/-! ## Modes (R111, R138, R139) -/

def specialMode (m : Int) : Bool := m == 6 || m == -1 || m == -2

def slotMoves (s : State) (i : Nat) : Bool :=
  s.geti .EV_V i != 0 || s.geti .OUT_V i != 0 || !(s.mo i).plan.isEmpty || s.get .STOP_REQ i != 0

/-- The source of a mode starts in Operation enabled: a stream or a follower at standstill, the target velocity of
mode 3, and after a ride-through what the end of a halt starts (R110, R176, R286). -/
def enterMode (s : State) (i : Nat) (resume : Bool) : State :=
  let m := s.modeOf i
  let s := s.put .STALL_STAND i 0
  if m = -1 then enterSegmentMode s i
  else if m = -2 then enterFollow s i
  else if resume then restartSource s i
  else if m = 3 then s.put .TGT_NEW i 1
  else s

/-- The display takes the new mode. One entered in motion goes on from the commanded curve, which it takes over at the coming
instant (R139); a stop that runs already runs on. -/
def switchMode (s : State) (i : Nat) : State :=
  let moves := s.geti .EV_V i != 0
  let stops := s.get .PLAN_STATE i == 6
  let s := leaveSources (stripCancel s i) i
  let s := s.clearAll [.CH_MISSED, .CH_PENDING, .CH_FRESH, .CH_ADJUST, .SP_FULL, .SP_ACK, .TARGET_REACHED, .TR_IN, .LIM_PLAN] i
  let s := s.put .MODE_DISP i (s.get .MODE i)
  let s := if s.get .AFTER_STOP i = 6 then s.put .AFTER_STOP i 0 else s
  if s.drive i ≠ dsEnabled then s
  else if moves then (if stops then enterMode s i false else s.put .MODE_ENTRY i 1)
  else enterMode (if stops then s else (s.setMo i { s.mo i with plan := [] }).put .PLAN_STATE i 0) i false

/-- The mode change at a motion update (R139). A stream ends at once as its slot leaves mode −1 (R125). -/
def takeMode (s : State) (i : Nat) : State :=
  let want := s.geti .MODE i
  let old := s.modeOf i
  if want = old then s
  else if s.drive i ≠ dsEnabled then switchMode s i
  else if (specialMode old || specialMode want) && slotMoves s i then
    if s.get .AFTER_STOP i = 6 then s
    else
      let s := homingAbort s i
      let s := if old = -1 then leaveSources s i else s
      (requestStop s i 4 (stopDecOf s i old) (haltScurve s i)).put .AFTER_STOP i 6
  else switchMode (homingAbort s i) i

/-! ## Set-points, homing and interpolation: controlword bit 4 (R147, R156, R163) -/

/-- A rising edge of bit 4 in profile position. -/
def newSetPoint (s : State) (i : Nat) : State :=
  let cw := s.get .CONTROLWORD i
  let now := bit cw 5
  if s.modeOf i ≠ 1 ∨ s.drive i ≠ dsEnabled ∨ (s.flag .SP_FULL i ∧ ¬ now) then s
  else
    let last := if s.flag .SP_FULL i then s.geti .SP_P i else if s.flag .TGT_SET i then s.geti .TGT_P i else s.geti .OUT_P i
    let raw := s.geti .TARGET_POS i * usub + if bit cw 6 then last else 0
    let raw := if s.gn2008 then toSigned 32 (ofSigned 32 (raw / usub)) * usub else raw
    let (s, target) := clampTarget s i raw
    let s := (s.put .SP_ACK i 1).put .TGT_SET i 1
    let moving := !(s.mo i).plan.isEmpty || s.flag .TGT_NEW i
    if now ∨ ¬ moving then
      (((s.puti .TGT_P i target).put .TGT_NEW i 1).put .SP_FULL i 0).put .PASS_V i 0
    else
      let s := ((s.put .SP_FULL i 1).puti .SP_P i target).put .SP_V i (s.get .PROFILE_VEL i)
      let first := nearest s 0 (s.geti .TGT_P i - s.geti .EV_P i)
      if bit cw 9 ∧ sgn first = sgn (nearest s 0 (target - s.geti .TGT_P i)) then
        (s.put .PASS_V i (min (vTopOf s i) (s.get .SP_V i))).put .TGT_NEW i 1
      else s.put .PASS_V i 0

/-- Bit 4 in mode 7: its rise lets the chain run, its fall makes the segment in progress the last (R156). -/
def interpolationOn (s : State) (i : Nat) : State := (s.put .CH_STOP i 0).put .CH_STATE i (if s.get .CH_STATE i = 1 then 1 else 0)

def interpolationOff (s : State) (i : Nat) : State :=
  if s.get .CH_STATE i = 1 then
    let run := ((s.mo i).chain.take 1).filter fun g => decide (g.start ≤ s.get .EV_T i)
    let s := s.setMo i { s.mo i with chain := run }
    if run = [] then s.put .CH_STATE i 0 else s.put .CH_STOP i 1
  else s

def bitFourRise (s : State) (i : Nat) : State :=
  let m := s.modeOf i
  if s.drive i ≠ dsEnabled then s
  else if m = 1 then newSetPoint s i
  else if m = 6 then homingStart s i
  else if m = 7 then interpolationOn s i
  else s

def bitFourFall (s : State) (i : Nat) : State :=
  let s := s.put .SP_ACK i 0
  if s.modeOf i = 7 then interpolationOff s i else s

/-! ## State commands (R432, R433) -/

/-- Commands that would lower the state have no effect while SB_CMD stands (R433). -/
def sbHolds (s : State) (i : Nat) : Bool := s.getBit .SB_CMD 0 i

/-- Leaving the ride-through state by command: the slot does not return on its own. -/
def leaveRide (s : State) (i ds : Nat) : State := restDevelop ((s.setBit .PWR_STATE i 3 false).put .DRIVE_STATE i ds) i

/-- A stop at the mode's stop deceleration, then a state with the switches off (0x605B, 0x605C): cause 0x9 and a trapezoid, as
R157 has it of causes from other chapters. -/
def stopThen (s : State) (i after : Nat) : State :=
  let s := leaveSources (homingAbort s i) i
  (requestStop s i 9 (stopDecOf s i (s.modeOf i)) false).put .AFTER_STOP i after

def cmdShutdown (s : State) (i : Nat) : State :=
  if sbHolds s i then s
  else if rideThrough s i then leaveRide s i dsReady
  else if s.drive i = dsSwitchOnDisabled then (if s.kind i = 0 then s else s.put .DRIVE_STATE i dsReady)
  else if s.drive i = dsSwitchedOn then driveDown s i dsReady
  else if s.drive i = dsEnabled then
    if s.geti .SHUTDOWN_OPTION i = 0 then driveDown s i dsReady else stopThen s i 1
  else s

/-- Conditions of Switch on (R432, R480): the ports have developed their map, an engine serves the slot, no bank is locked
out, the bus does not coast, and no fault reset through the ring is due after a fence (R413). -/
def mayswitchOn (s : State) (i : Nat) : Bool :=
  (s.slotPorts i).all (fun p => !s.getBit .MAP_WAIT_X 0 p) && !s.getBit .MAP_WAIT 0 i && !slotLocked s i && !s.getBit .BUS_STAT 0 1
    && s.get .SLOT_ENGINE i != 0xF && !s.flag .RING_RESET i

def cmdSwitchOn (s : State) (i : Nat) : State :=
  if s.drive i = dsReady ∧ mayswitchOn s i then (restDevelop s i).put .DRIVE_STATE i dsSwitchedOn else s

def cmdDisableOperation (s : State) (i : Nat) : State :=
  if sbHolds s i then s
  else if rideThrough s i then leaveRide s i dsSwitchedOn
  else if s.drive i = dsEnabled then
    if s.geti .DISABLE_OPTION i = 0 then driveDown s i dsSwitchedOn else stopThen s i 2
  else s

def pwmAllOn (s : State) (i : Nat) : Bool := (s.slotPorts i).all fun p => s.flag .PWM_EN p

def cmdEnable (s : State) (i : Nat) : State :=
  if rideThrough s i then s.put .FR_HELD i 1
  else if (s.drive i = dsSwitchedOn ∨ s.drive i = dsQuickStop) ∧ pwmAllOn s i ∧ ¬ sbHolds s i ∧ s.get .SB_STATE i = 0
      ∧ s.flag .TB_RUNNING 0 then
    enableSlot (if s.drive i = dsQuickStop then cutMotion s i else s) i false
  else s

def cmdQuickStop (s : State) (i : Nat) : State :=
  if sbHolds s i then s
  else if rideThrough s i then leaveRide s i dsSwitchOnDisabled
  else if s.drive i = dsEnabled then
    let o := s.geti .QSTOP_OPTION i
    if o = 0 then driveDown s i dsSwitchOnDisabled
    else
      let rate := if o = 1 ∨ o = 5 then stopDecOf s i (s.modeOf i) else s.get .QUICK_STOP_DEC i
      let s := (leaveSources (homingAbort (stripCancel s i) i) i).put .DRIVE_STATE i dsQuickStop
      (requestStop s i 2 rate false).put .AFTER_STOP i (if o = 5 ∨ o = 6 then 4 else 3)
  else s

def cmdDisableVoltage (s : State) (i : Nat) : State :=
  if sbHolds s i ∨ slotFaulted s i ∨ s.drive i = 0 then s
  else if rideThrough s i then leaveRide s i dsSwitchOnDisabled
  else driveDown s i dsSwitchOnDisabled

/-- The command a controlword spells in its bits 7, 3, 2, 1 and 0 (R432). -/
def stateCommand (s : State) (i cw : Nat) : State :=
  if bit cw 7 then s
  else if !bit cw 1 then cmdDisableVoltage s i
  else if !bit cw 2 then cmdQuickStop s i
  else if !bit cw 0 then cmdShutdown s i
  else if !bit cw 3 then (if s.drive i = dsReady then cmdSwitchOn s i else cmdDisableOperation s i)
  else cmdEnable s i

/-- A write of the controlword: the fault reset and mode bits act on their edges, the level bits on their value (R432). -/
def writeControlword (s : State) (i cw : Nat) (gatesLow : Bool) : State :=
  let old := s.get .CONTROLWORD i
  let s := s.put .CONTROLWORD i cw
  let s := if bit cw 7 ∧ ¬ bit old 7 then faultReset s i gatesLow else stateCommand s i cw
  let s := if bit cw cwHalt ∧ ¬ bit old cwHalt then haltOn s i else if !bit cw cwHalt ∧ bit old cwHalt then haltOff s i else s
  if bit cw 4 ∧ ¬ bit old 4 then bitFourRise s i else if !bit cw 4 ∧ bit old 4 then bitFourFall s i else s

/-- The controlword with a command's level bits in place of its own; the mode bits stay. -/
def withLevels (s : State) (i levels : Nat) : Nat :=
  mergeMask (s.get .CONTROLWORD i) levels 0x8F

/-! ## Statusword (R430, R431, R504) -/

/-- State bits of R430; bit 5 reads 0 only in Quick stop active. -/
def stateBits (s : State) (i : Nat) : Nat :=
  if !s.flag .BOOT_DONE 0 then 0x20 else [0x20, 0x60, 0x21, 0x23, 0x27, 0x07, 0x2F, 0x28].getD (s.drive i) 0x20

/-- |FE| exceeds an enabled FE_LIMIT (R315). -/
def feBeyond (s : State) (i : Nat) : Bool :=
  let lim := s.dv .FE_LIMIT i
  lim != 0 && lim != 0xFFFFFFFF && decide (lim < absN (s.geti .FE i))

def modeBits (s : State) (i : Nat) : Bool × Bool × Bool :=
  let m := s.modeOf i
  let fe := feBeyond s i
  if m = 1 then (s.flag .TARGET_REACHED i, s.flag .SP_ACK i, fe)
  else if m = 3 then (s.flag .TARGET_REACHED i, false, false)
  else if m = 6 then
    let h := s.get .HOME_STATE i
    (h == 5 || h == 7, h == 5, s.get .HOME_FAIL i != 0 && (h == 6 || h == 7))
  else if m = 7 then (false, s.getBit .CONTROLWORD i 4, fe)
  else if m = 8 then (false, false, fe)
  else if m = -1 then
    let g := s.get .SEG_STATE i
    (g == 5, g == 2 || g == 3, g == 7)
  else if m = -2 then
    let follows := s.get .SF_STATE i == 1
    (follows && s.geti .SF_LAG i == 0, follows, s.get .SF_STATE i == 3)
  else (false, false, false)

/-- A worker slot that belongs to the ring (R403). -/
def inRing (s : State) (i : Nat) : Bool :=
  s.get .ROLE_ACT 0 == 0 && (s.get .LINK_STATE 0 == 3 || s.get .LINK_STATE 0 == 4) && s.dv .AX_DN i != 0

def statusword (s : State) (i : Nat) : Nat :=
  let (b10, b12, b13) := modeBits s i
  let volt := !s.getBit .BUS_STAT 0 1 && !slotLocked s i
  let warn := s.getBit .BUS_STAT 0 0 || s.flag .THR_AT_FLOOR i || encFaulty s i || s.get .RED_LOST 0 != 0
  let lim := s.flag .SOFT_IN i || blockedP s i || blockedN s i || s.getBit .REG_STAT i 2
    || s.flag .W_SAT (comp i 0) || s.flag .W_SAT (comp i 1)
  stateBits s i + 16 * b2n volt + 128 * b2n warn + 256 * b2n (decide (0 < s.get .THR_STEP i)) + 512 * b2n (!inRing s i)
    + 1024 * b2n b10 + 2048 * b2n lim + 4096 * b2n b12 + 8192 * b2n b13 + 16384 * b2n (rideThrough s i)
    + 32768 * b2n (s.get .SB_STATE i != 0)

/-- 0x603F: the EMCY code of the slot's standing fault. -/
def errorCode (s : State) (i : Nat) : Nat := causeCode (s.get .FAULT_CAUSE i)

/-- 0x6502 and 0x67FF (R434). -/
def supportedModes (s : State) (i : Nat) : Nat :=
  if s.kind i = 0 then 0 else if s.kind i = 3 then 0x104 else 0x000301E5

def slotDeviceType (s : State) (i : Nat) : Nat := if s.kind i = 0 then 0 else 0x00030192

/-! ## Standstill: what follows a stop -/

def standsStill (s : State) (i : Nat) : Bool :=
  s.geti .EV_V i == 0 && s.geti .OUT_V i == 0 && (s.mo i).plan.isEmpty && s.get .STOP_REQ i == 0

/-- The state a slot enters once its stop has ended (R139, R294, R432). -/
def afterStop (s : State) (i : Nat) : State :=
  let a := s.get .AFTER_STOP i
  if a = 0 ∨ !standsStill s i then s
  else
    let s := s.put .AFTER_STOP i 0
    if a = 1 then driveDown s i dsReady
    else if a = 2 then driveDown s i dsSwitchedOn
    else if a = 3 then driveDown s i dsSwitchOnDisabled
    else if a = 5 then judgeFaultn (driveDown s i dsFault)
    else if a = 6 then switchMode s i
    else s

/-! ## Stall (R170, R228, R229) -/

/-- The stall stop: the command is set onto the rotor and the motion source breaks. -/
def stallStop (s : State) (i : Nat) : State :=
  let m := s.modeOf i
  let est := nearest s (s.geti .OUT_P i) (s.geti .POS_EST i * usub)
  let s := (stopBreaks s i).clearAll [.MODE_ENTRY, .LIM_PLAN] i
  let s := s.setMo i { s.mo i with plan := [], chain := [] }
  let s := if s.kind i = 3 then
      let p := s.geti .OUT_P i
      ((publish (s.puti .EV_P i p) i p 0).put .I_Q i 0).put .BL_Y i 0
    else publish (s.puti .EV_P i est) i est 0
  let s := ((s.put .EV_V i 0).put .STOP_REQ i 0).put .STOP_RATE i 0
  let s := s.put .PLAN_STATE i 0
  let s := if s.get .SEG_STATE i = 6 then s.put .SEG_STATE i 7 else s
  let s := if s.get .SF_STATE i = 2 then s.put .SF_STATE i 3 else s
  if m = 1 then ((s.put .TGT_NEW i 0).put .SP_FULL i 0).put .TGT_SET i 0
  else if m = 3 then (s.put .TGT_NEW i 0).put .STALL_STAND i 1
  else if m = 6 then homingAbort s i
  else if m = 7 ∨ m = 8 ∨ m = 9 then s.put .CH_STATE i 2
  else s

/-- STALL_DETECTED: a criterion has held for STALL_COUNT counted updates (R226, R228). -/
def declareStall (s : State) (i : Nat) : State :=
  let due := s.get .STALL_NOW i
  if due = 0 then s
  else
    let s := clearStallRuns (s.put .STALL_NOW i 0) i
    let s := (s.put .STALL i 1).count .STALL_CNT i
    let s := s.post 0x0700 0x1 i (due - 1 + s.get .LOAD_ANGLE i * 65536)
    let s := probeAbort s i
    if inMinusOne s i && s.get .HOME_STATE i == 1 then homingStall s i
    else if s.dv .STALL_ACTION i = 0 then s
    else
      let s := stallStop s i
      if s.dv .STALL_ACTION i = 2 then s.put .STALL_HOLD i (max 1 s.ts) else s

/-- STALL_FAULT: 10 ms after the declaration (R228, R294). -/
def stallFault (s : State) (i : Nat) : State :=
  let t := s.get .STALL_HOLD i
  if t ≠ 0 ∧ t + 10 * ticksPerMs ≤ s.ts then bathFault (s.put .STALL_HOLD i 0) [i] 1 0xE 0 else s

/-! ## Loss of communication (R423) -/

/-- The slots in Operation enabled act on 0x6007; a worker's slots in the ring do not (R403). -/
def loseCommunication (s : State) : State :=
  s.each 8 (fun a i => a.drive i == dsEnabled && !inRing a i) fun a i =>
    let o := a.geti .ABORT_OPTION i
    if o = 1 then plannedFault a i 0x17 (a.get .QUICK_STOP_DEC i)
    else if o = 2 then cmdDisableVoltage a i
    else if o = 3 then cmdQuickStop a i
    else a

end Sys2Proof.Machine
end

