-- ==== Sys2Proof/Machine/Feedback.lean ====
section
/-! DEFINITION. The feedback unit: filters, decoding, counters, speed, scaling and alignment, following error,
switch inputs, step counting, captures and contact sheets (R160 to R162, R172, R302 to R320, R503). -/

namespace Sys2Proof.Machine

/-- The feedback samplers stop with the timebase (R62): what they would have seen has no effect. -/
def sampled (s : State) (f : State → State) : State := if s.flag .TB_RUNNING 0 then f s else s

/-! ## Filters (R303 to R305) -/

/-- Ticks of one sample of a sampler clock code. -/
def samplePeriod (clk : Nat) : Nat := if clk = 1 then 4 else if clk = 2 then 16 else 1

/-- The edge tick of a level that qualifies now: N − 1 sample periods earlier. -/
def edgeTick (s : State) (n clk : Nat) : Nat := s.ts - (n - 1) * samplePeriod clk

def swEdgeTick (s : State) (c : Nat) : Nat := edgeTick s (s.dv .SW_N c) (s.dv .SW_CLK c)

def encEdgeTick (s : State) (c : Nat) : Nat := edgeTick s (s.dv .ENC_N c) (s.dv .ENC_CLK c)

/-- R304. -/
def stepFilterOk (n clk : Nat) : Bool := n != 0 && clk != 3 && decide ((n + 1) * samplePeriod clk ≤ 16)

/-! ## Position counters (R309, R313) -/

def satBit : Nat := 4

/-- Moving the count by `d`: it saturates at the limits in native mode and wraps at 32 bits in GN2008 mode. The counts of R165's
16 sampler instants are kept for the slowest sampler (log entry 99), and an end tick that has passed latches the count that
stood then (R132). -/
def moveCount (s : State) (c : Nat) (d : Int) : State :=
  let s := if s.hasEncoder c then latchTol s c s.ts (s.geti .ACT_POS c) else s
  let n := s.geti .ENC_POS c
  let keep := (n, s.ts)
  let s := { s with encHist := s.encHist.set c (((keep.2, keep.1) :: s.encHist.getD c []).filter fun x =>
    s.ts ≤ x.1 + 16 * samplePeriod 2) }
  let lo := s.dvi .FB_SOFTLIM_LO c
  let hi := s.dvi .FB_SOFTLIM_HI c
  let s :=
    if s.gn2008 then s.puti .ENC_POS c (toSigned 32 (ofSigned 32 (n + d)))
    else if (0 < d ∧ hi < n + d) ∨ (d < 0 ∧ n + d < lo) then
      let s := s.puti .ENC_POS c (if 0 < d then max n hi else min n lo)
      if s.getBit .FB_STAT c satBit then s
      else ((s.setBit .FB_STAT c satBit true).setBit .FB_FLAGS c 1 true).post 0x0A01 0x4 c (if 0 < d then 1 else 0)
    else (s.puti .ENC_POS c (n + d)).setBit .FB_STAT c satBit false
  refreshAct s c

/-- The count at a tick, from the history (R305, R317). -/
def countAt (s : State) (c t : Nat) : Int :=
  (((s.encHist.getD c []).filter fun x => decide (t < x.1)).getLast?.map Prod.snd).getD (s.geti .ENC_POS c)

/-! ## Speed (R310 to R312) -/

/-- An edge of `n` counts in a direction enters the running window; its edge tick is the reference of R311. Of a Hall edge across
two sectors against the last direction the first count is the reversal edge (log entry 99). -/
def speedEdge (s : State) (c : Nat) (d : Int) : State :=
  let dir := if 0 < d then 1 else 2
  let t := encEdgeTick s c
  let s := s.put .SPD_EDGES c (s.get .SPD_EDGES c + d.natAbs)
  if s.get .SPD_DIR c ≠ 0 ∧ s.get .SPD_DIR c ≠ dir then
    let rest : Int := if d = 2 then 1 else if d = -2 then -1 else 0
    let s := ((s.put .SPD_DIR c dir).put .SPD_REV c 1).put .SPD_REF_OK c (b2n (rest != 0))
    let s := if rest = 0 then s else s.put .SPD_REF c t
    s.puti .SPD_NET c (s.geti .SPD_NET c + rest)
  else
    ((((s.put .SPD_DIR c dir).puti .SPD_NET c (s.geti .SPD_NET c + d)).put .SPD_REF c t).put .SPD_REF_OK c 1)

def windowTicks (s : State) (c : Nat) : Nat := 20000 * 2 ^ s.dv .SPD_WIN c

/-- The tick at which the running window ends. -/
def windowEnd (s : State) (c : Nat) : Nat :=
  let w := windowTicks s c
  let from_ := max s.ts (s.get .SPD_WEND c + 1)
  (from_ + w - 1) / w * w

/-- STILL is set once STILL_WINDOWS empty windows have passed (R311). -/
def judgeEmpty (s : State) (c : Nat) : State :=
  if !s.getBit .FB_STAT c 0 && decide (s.dv .STILL_WINDOWS c ≤ s.get .SPD_EMPTY c) && s.get .SPD_EMPTY c != 0 then
    (s.setBit .FB_STAT c 0 true).put .ENC_SPEED c 0
  else s

/-- The end of a speed window (R310 to R312). -/
def speedWindow (s : State) (c : Nat) : State :=
  let t := windowEnd s c
  let s := (s.atTick t).put .SPD_WEND c t
  let edges := s.get .SPD_EDGES c
  let net := s.geti .SPD_NET c
  let rev := s.flag .SPD_REV c
  let drop := s.flag .SPD_DISCARD c
  let s := s.clearAll [.SPD_EDGES, .SPD_NET, .SPD_REV, .SPD_DISCARD] c
  if drop then s
  else if chMode s c = 0 then s
  else if edges ≠ 0 then
    let v := Int.tdiv (net * 64 * 8000) (2 ^ s.dv .SPD_WIN c : Nat)
    (((s.puti .ENC_SPEED c (satSigned 32 v)).setBit .FB_STAT c 0 false).setBit .FB_STAT c 1 rev).put .SPD_EMPTY c 0
  else
    let s := (s.setBit .FB_STAT c 1 false).put .SPD_EMPTY c (min 255 (s.get .SPD_EMPTY c + 1))
    let prev := s.geti .ENC_SPEED c
    let v : Int :=
      if s.getBit .FB_STAT c 0 ∨ ¬ s.flag .SPD_REF_OK c ∨ t ≤ s.get .SPD_REF c then 0
      else
        let m : Int := min prev.natAbs (64 * ticksPerSecond / (t - s.get .SPD_REF c))
        if s.get .SPD_DIR c = 2 then -m else m
    judgeEmpty (s.puti .ENC_SPEED c v) c

/-! ## Encoder faults (R308) -/

/-- An encoder fault: cause 0x1 illegal limit, 0x2 timebase gap. -/
def encFault (s : State) (c cause : Nat) : State :=
  if encFaulty s c then s
  else
    let s := ((s.setBit .FB_STAT c 2 true).setBit .FB_STAT c 6 (cause == 2)).setBit .FB_FLAGS c 2 true
    let s := ((s.setBit .FB_STAT c 3 false).put .FE c 0).put .FE_SINCE c 0
    let s := (s.put .HOMED c 0).post 0x0A00 0x4 c (cause + s.get .ILLEGAL_COUNT c * 65536)
    s.emcy 0x7305 c 0x15 0x0A00

def encFaultDue (s : State) (c : Nat) : Bool :=
  s.dv .ILLEGAL_LIMIT c != 0 && decide (s.dv .ILLEGAL_LIMIT c ≤ s.get .ILL_RUN c)

/-- ENC_FAULT_CLR: the channel is unaligned afterwards (R308, R314). -/
def encFaultClear (s : State) (c : Nat) : State :=
  let had := encFaulty s c
  let s := ((s.setBit .FB_STAT c 2 false).setBit .FB_STAT c 6 false).setBit .FB_STAT c 3 false
  let s := s.put .ILL_RUN c 0
  if had then s.emcyIfClear c else s

/-! ## Decoding (R306, R307) -/

def normalEdge (s : State) (c : Nat) : State :=
  let n := min 1024 (s.get .NORM_RUN c + 1)
  let s := s.put .NORM_RUN c n
  if n = 1024 then s.put .ILL_RUN c 0 else s

def illegalEdge (s : State) (c : Nat) : State :=
  (((s.count .ILLEGAL_COUNT c).setBit .FB_FLAGS c 0 true).put .NORM_RUN c 0).put .ILL_RUN c (min 255 (s.get .ILL_RUN c + 1))

/-- Place of an (A, B) pair in the positive order 00, 10, 11, 01. -/
def quadPlace (a b : Bool) : Nat := if a then (if b then 2 else 1) else if b then 3 else 0

/-- A qualified change of A or B to new filtered levels. -/
def encoderEdge (s : State) (c : Nat) (a b : Bool) : State :=
  let a0 := s.getBit .FB_STAT c 10
  let b0 := s.getBit .FB_STAT c 9
  let s := (s.setBit .FB_STAT c 10 a).setBit .FB_STAT c 9 b
  if chMode s c ≠ 1 ∨ (a = a0 ∧ b = b0) then s
  else if a ≠ a0 ∧ b ≠ b0 then illegalEdge s c
  else
    let step := (quadPlace a b + 4 - quadPlace a0 b0) % 4
    let d : Int := if (step == 1) != s.dflag .ENC_INV c then 1 else -1
    moveCount (speedEdge (normalEdge s c) c d) c d

/-- Sector of a Hall state in the order of R206. -/
def hallSector (s : State) (c st : Nat) : Nat :=
  let m := [6, 0, 2, 1, 4, 5, 3, 6].getD st 6
  if s.dflag .HALL_INV c then 5 - m else m

def hallValid (st : Nat) : Bool := st != 0 && st != 7 && decide (st < 8)

/-- The angle takes the new sector (R206). -/
def hallAngleEdge (s : State) (c m : Nat) (positive : Bool) : State :=
  let th := ((if positive then m else m + 1) * 1024 + s.dv .HALL_OFS c) % 6144
  ((s.put .HALL_SECT c m).put .HALL_THETA c th).put .HALL_TICK c (encEdgeTick s c)

/-- A qualified change of the Hall state. A change to the opposite sector takes its angle in the last direction (log entry 41). -/
def hallEdge (s : State) (c st : Nat) : State :=
  let s := ((s.setBit .FB_STAT c 10 (bit st 0)).setBit .FB_STAT c 9 (bit st 1)).setBit .FB_STAT c 8 (bit st 2)
  if chMode s c ≠ 2 then s
  else if !hallValid st then illegalEdge s c
  else
    let last := s.get .HALL_STATE c
    let m := hallSector s c st
    let s := s.put .HALL_STATE c st
    if last = 0 then s.put .HALL_SECT c m
    else
      let d := (m + 6 - hallSector s c last) % 6
      if d = 0 then s
      else if d = 3 then hallAngleEdge (illegalEdge s c) c m (s.get .SPD_DIR c != 2)
      else
        let n : Int := if d = 1 then 1 else if d = 2 then 2 else if d = 5 then -1 else -2
        let s := if d = 2 ∨ d = 4 then s.count .HALL_SKIP c else s
        moveCount (speedEdge (normalEdge (hallAngleEdge s c m (decide (0 < n))) c) c n) c n

/-! ## Alignment and following error (R314, R315) -/

/-- The standstill of ALIGN_MS that aligns a channel, whatever it decodes. -/
def alignDue (s : State) (i : Nat) : Bool :=
  chMode s i != 0 && s.kind i != 0 && !s.getBit .FB_STAT i 3 && !encFaulty s i && s.flag .STILL_CMD i
    && decide (s.get .HOLD_SINCE i + s.dv .ALIGN_MS i * ticksPerMs ≤ s.ts) && s.get .CUR_AMP i != 0

/-- ENC_ALIGNED (R314): the offset is taken without the homing shift. -/
def encAlign (s : State) (i : Nat) : State :=
  if !alignDue s i then s
  else
    let s := s.puti .ENC_OFS i (s.geti .POS_CMD i - s.geti .HOME_SHIFT i - scaledCount s i (s.geti .ENC_POS i))
    let s := refreshAct (s.setBit .FB_STAT i 3 true) i
    s.post 0x0A03 0x4 i (ofSigned 32 (s.geti .ENC_OFS i))

/-- The following error of a motion update: POS_CMD and ACT_POS of the same period start (R315). -/
def followingError (s : State) (i : Nat) : State :=
  if s.drive i = dsEnabled ∧ s.hasEncoder i ∧ s.getBit .FB_STAT i 3 ∧ ¬ encFaulty s i then
    let fe := posDiff s (s.geti .POS_CMD i) (actOf s i (s.geti .FB_SNAP i))
    let s := s.puti .FE i (satSigned 32 fe)
    if feBeyond s i then (if s.get .FE_SINCE i = 0 then s.put .FE_SINCE i (max 1 s.ts) else s) else s.put .FE_SINCE i 0
  else (s.put .FE i 0).put .FE_SINCE i 0

/-- FOLLOW_ERROR (R315): |FE| has exceeded FE_LIMIT for FE_TIME. -/
def followFault (s : State) (i : Nat) : State :=
  let since := s.get .FE_SINCE i
  if since = 0 ∨ s.ts < since + s.dv .FE_TIME i * ticksPerMs ∨ s.drive i ≠ dsEnabled then s
  else
    let s := ((s.setBit .FB_FLAGS i 4 true).put .FE_SINCE i 0).post 0x0A02 0x4 i (s.get .FE i)
    plannedFault s i 0x16 (s.get .STOP_DEC i)

/-- 0x6064 and 0x606C (R325). -/
def actualValue (s : State) (i : Nat) : Nat :=
  if s.hasEncoder i && s.getBit .FB_STAT i 3 && !encFaulty s i then trunc 32 (s.get .ACT_POS i) else trunc 32 (s.get .POS_EST i)

def actualVelocity (s : State) (i : Nat) : Nat :=
  if s.hasEncoder i then ofSigned 32 (satSigned 32 (rdiv (s.geti .ENC_SPEED i * encRatio s i) 65536))
  else if chMode s i = 2 then ofSigned 32 (satSigned 32 (s.geti .ENC_SPEED i * 1024))
  else s.get .VEL_CMD i

/-! ## Captures (R316 to R318) -/

/-- Whether a channel makes entries at all (R317). -/
def captures (s : State) (c : Nat) : Bool := chMode s c != 0 || s.kind c == 1 || s.kind c == 2

/-- The four words of a capture entry at a tick (R318). -/
def captureWords (s : State) (c trg t : Nat) : List Nat :=
  let cmd := chMode s c == 0
  let p := ofSigned 48 (if cmd then commandedAt s c t else actOf s c (countAt s c t))
  let flt := !cmd && (encFaulty s c || !s.getBit .FB_STAT c 3)
  [trunc 32 t, trunc 32 (t / 2 ^ 32), trunc 32 p,
    p / 2 ^ 32 + c * 2 ^ 16 + trg * 2 ^ 19 + b2n (s.get .SPD_DIR c == 2) * 2 ^ 23 + b2n (s.getBit .FB_STAT c 0) * 2 ^ 24
      + b2n flt * 2 ^ 25 + b2n cmd * 2 ^ 26 + s.get .CAP_SEQ c * 2 ^ 28]

def capture (s : State) (c trg t : Nat) : State :=
  if !captures s c then s
  else
    let ws := captureWords s c trg t
    (s.put .CAP_SEQ c (s.get .CAP_SEQ c + 1)).enqueue 10 ws

def armedBit : Nat := 5

/-- A triggered capture: under CAP_ONESHOT once after each CAP_ARM; none before boot is done (R316, R503). -/
def triggerCapture (s : State) (c trg t : Nat) : State :=
  if !s.flag .BOOT_DONE 0 then s
  else if s.dflag .CAP_ONESHOT c then
    if s.getBit .FB_STAT c armedBit then capture (s.setBit .FB_STAT c armedBit false) c trg t else s
  else capture s c trg t

/-- Whether an edge selection (off, rising, falling, both) takes an edge. -/
def edgeSelected (sel : Nat) (rising : Bool) : Bool := if rising then bit sel 0 else bit sel 1

/-- Captures on the pins whose drive rose between two states (R316). -/
def trigoCaptures (before after : State) (t : Nat) : State :=
  after.each 4 (fun a k => !before.flag .TRIGO_LEVEL k && a.flag .TRIGO_LEVEL k) fun a k =>
    a.each 8 (fun b c => bit (b.dv .CAP_TRIGO c) k) fun b c => triggerCapture b c 5 t

/-! ## Switch inputs (R160 to R162) -/

/-- Whether a ball (0 LIMN, 1 LIMP, 2 HOME) stands at its active level. -/
def ballActive (s : State) (i k : Nat) : Bool :=
  let pol := if k = 0 then s.dflag .LIMN_POL i else if k = 1 then s.dflag .LIMP_POL i else s.dflag .HOME_POL i
  s.getBit .SW_BALL i k == pol

/-- The roles after LIM_SWAP. -/
def refreshSwitches (s : State) (i : Nat) : State :=
  let n := ballActive s i 0
  let p := ballActive s i 1
  let (n, p) := if s.dflag .LIM_SWAP i then (p, n) else (n, p)
  s.put .SW_STATE i (b2n n + 2 * b2n p + 4 * b2n (ballActive s i 2))

/-- The switch configuration, which develops at the motion update. -/
def switchFields : List Reg := [.LIMN_EN, .LIMP_EN, .HOME_EN, .LIMN_POL, .LIMP_POL, .HOME_POL, .LIM_SWAP]

/-- The role a ball fills: 1 negative limit, 2 positive limit, 3 home. -/
def roleOf (s : State) (i k : Nat) : Nat :=
  if k = 2 then 3 else if s.dflag .LIM_SWAP i then 2 - k else k + 1

/-- Whether the drive makes motion that a limit can stop. -/
def drives (s : State) (i : Nat) : Bool := s.drive i == dsEnabled || s.drive i == dsQuickStop || s.drive i == dsFaultReaction

/-- A limit role has become active (R161, R162, R169). -/
def limitActive (s : State) (i role : Nat) (bothBefore : Bool) : State :=
  let en := if role = 1 then s.dflag .LIMN_EN i else s.dflag .LIMP_EN i
  if !en then s
  else
    let homing := decide (1 ≤ s.get .HOME_STATE i ∧ s.get .HOME_STATE i ≤ 4)
    let s :=
      if homing then (if searchSwitch (s.geti .HM_METHOD i) = role then s else homingFail s i 2)
      else
        let v := s.geti .VEL_CMD i
        if (role = 2 ∧ 0 < v) ∨ (role = 1 ∧ v < 0) then
          let s := if role = 1 then s.put .LIM_N_HIT i 1 else s.put .LIM_P_HIT i 1
          requestStop (s.post 0x0502 0x1 i (role - 1)) i 3 (s.get .LIMIT_DEC i) false
        else s
    if limitN s i && limitP s i && !bothBefore then
      let s := (s.put .LIM_BOTH i 1).post 0x0503 0x1 i 0
      if slotMoves s i then requestStop s i 3 (s.get .LIMIT_DEC i) false else s
    else s

/-- The switch configuration develops; a limit role that it makes active acts as one that becomes active (R161). -/
def switchDevelop (s : State) (i : Nat) : State :=
  let n := limitN s i
  let p := limitP s i
  let s := refreshSwitches (s.developList switchFields i) i
  let s := if limitN s i && !n then limitActive s i 1 (n && p) else s
  if limitP s i && !p then limitActive s i 2 (n && p) else s

/-- A qualified edge of a switch ball to a level (R160, R161, R164 to R166, R316). -/
def switchEdge (s : State) (i k : Nat) (level : Bool) : State :=
  if s.getBit .SW_BALL i k = level then s
  else
    let t := swEdgeTick s i
    let both := limitN s i && limitP s i
    let role := roleOf s i k
    let was := roleActive s i role
    let s := refreshSwitches (s.setBit .SW_BALL i k level) i
    let on := roleActive s i role
    if !s.flag .BOOT_DONE 0 ∨ on = was then s
    else
      let enc := actOf s i (countAt s i t)
      let s := if homingRuns s i then homingEdge s i role on t enc else s
      let s := if role ≠ 3 ∧ on then limitActive s i role both else s
      let (sel, trg) := if k = 0 then (s.dv .CAP_LIMN i, 2) else if k = 1 then (s.dv .CAP_LIMP i, 3) else (s.dv .CAP_HOME i, 1)
      if edgeSelected sel on then triggerCapture s i trg t else s

/-- A qualified level of Z (R164, R166, R316). -/
def indexEdge (s : State) (c : Nat) (level : Bool) : State :=
  if s.getBit .FB_STAT c 8 = level then s
  else
    let s := s.setBit .FB_STAT c 8 level
    let gate := !s.dflag .Z_GATE c || (s.getBit .FB_STAT c 10 && s.getBit .FB_STAT c 9)
    if !s.flag .BOOT_DONE 0 ∨ chMode s c = 2 then s
    else
      let t := encEdgeTick s c
      let isIndex := level == s.dflag .Z_POL c && gate
      let s := homingIndex s c isIndex (actOf s c (countAt s c t))
      if isIndex && s.dflag .CAP_Z c then triggerCapture s c 0 t else s

/-- A qualified level of STEP, with the filtered level of DIR at that instant (R172). -/
def stepEdge (s : State) (c : Nat) (level dir : Bool) : State :=
  let was := s.flag .STEP_LEVEL c
  let s := (s.put .STEP_LEVEL c (b2n level)).put .DIR_LEVEL c (b2n dir)
  let counts := was != level && level != s.dflag .SF_EDGE c
  if !counts then s
  else
    let up := dir != s.dflag .SF_DIR_INV c
    s.puti .SF_COUNT c (s.geti .SF_COUNT c + if up then 1 else -1)

/-! ## Contact sheets (R319) -/

/-- A commit of the sheet tick: accepted or refused. -/
def shootSheet (s : State) (t : Nat) : State × Bool :=
  if t < s.ts + 320 ∨ s.flag .CS_PEND 0 then (s.put .CS_REJ 0 1, false)
  else ((s.put .CS_PEND 0 1).put .CS_TICK 0 t, true)

/-- The sheet fires at its tick, whole or not at all. -/
def fireSheet (s : State) : State :=
  if !s.flag .CS_PEND 0 ∨ !s.flag .TB_RUNNING 0 then s
  else
    let t := s.get .CS_TICK 0
    let s := (s.atTick t).put .CS_PEND 0 0
    let chans := idsWhere 8 (captures s)
    let n := chans.length
    if s.qFill 10 + n ≤ s.qSize 10 then
      let s := chans.foldl (fun a c => capture a c 6 t) s
      ((s.count .CS_COUNT 0).put .CS_DONE 0 1).post 0x0A04 0x4 noSlot n
    else
      let first := !s.flag .QOVF 10
      let s := chans.foldl (fun a c => a.put .CAP_SEQ c (a.get .CAP_SEQ c + 1)) s
      let s := ((s.countN .QDROP 10 n).put .QOVF 10 1).put .CS_LOST 0 1
      let s := if first then s.post 0x0103 0x7 noSlot (10 + s.get .QDROP 10 * 2 ^ 16) else s
      s.post 0x0A05 0x4 noSlot n

/-! ## Develops and restarts (R84, R310, R320) -/

def feedbackFields : List Reg :=
  ((fieldsFbR322 ++ fieldsFbR322b).filter fun f => f.dev == .statusTick).map FieldInfo.reg

/-- The develop of a channel at a status tick; a new window length discards the window in progress. A free channel, whose slot is
never enabled, takes its ratio here (log entry 99). -/
def feedbackDevelop (s : State) (c : Nat) : State :=
  let s := if s.get .SPD_WIN c ≠ s.dv .SPD_WIN c then
      (s.clearAll [.SPD_EDGES, .SPD_NET, .SPD_REV] c).put .SPD_DISCARD c 1 else s
  refreshAct (if s.kind c = 0 then ratioDevelop (s.developList feedbackFields c) c else s.developList feedbackFields c) c

/-- Levels of the inputs seen at the first sampler instant: filtered level without an edge (R503). -/
def firstLevels (s : State) (c enc sw sd : Nat) : State :=
  let s := ((s.setBit .FB_STAT c 10 (bit enc 0)).setBit .FB_STAT c 9 (bit enc 1)).setBit .FB_STAT c 8 (bit enc 2)
  let s := ((s.put .SW_BALL c (sw % 8)).put .STEP_LEVEL c (b2n (bit sd 0))).put .DIR_LEVEL c (b2n (bit sd 1))
  let s := if hallValid (enc % 8) then (s.put .HALL_STATE c (enc % 8)).put .HALL_SECT c (hallSector s c (enc % 8)) else s
  refreshSwitches s c

/-- What a restart of the timebase does to a channel (R320). -/
def feedbackRestart (s : State) (c enc : Nat) : State :=
  let s := s.clearAll [.SPD_EDGES, .SPD_NET, .SPD_REV, .SPD_REF_OK, .SPD_EMPTY, .ENC_SPEED] c
  let s := (s.setBit .FB_STAT c 0 true).setBit .FB_STAT c 1 false
  let s := ((s.setBit .FB_STAT c 10 (bit enc 0)).setBit .FB_STAT c 9 (bit enc 1)).setBit .FB_STAT c 8 (bit enc 2)
  if chMode s c = 1 then encFault s c 2
  else if chMode s c = 2 ∧ hallValid (enc % 8) then
    (s.put .HALL_STATE c (enc % 8)).put .HALL_SECT c (hallSector s c (enc % 8))
  else s

end Sys2Proof.Machine
end

