-- ==== Sys2Proof/Machine/Converters.lean ====
section
/-! DEFINITION. The converter sequencer: results, averaging, injected conversions, cross-checks, retirement and
calibration of the eighteen converters (R326 to R350). -/

namespace Sys2Proof.Machine

/-! ## Who serves what (R326 to R328, R341) -/

def isAux (c : Nat) : Bool := decide (16 ≤ c)

/-- The partner of a converter: pair j is (CADC 2j, CADC 2j+1), and the auxiliary two. -/
def partner (c : Nat) : Nat := if c % 2 = 0 then c + 1 else c - 1

def pairOf (c : Nat) : Nat := c / 2

/-- Conversion states of R349. -/
def convActive : Nat := 0
def convCalibrating : Nat := 1
def convRetired : Nat := 2
def convCovering : Nat := 3
def convDomainOff : Nat := 4

/-- Whether a converter serves anything now. -/
def convServes (s : State) (c : Nat) : Bool := s.get .CONV_STATE c == convActive || s.get .CONV_STATE c == convCovering

/-- The converter that samples a port. -/
def convOfPort (s : State) (p : Nat) : Nat := if s.flag .PORT_CUT p then partner (p / 2) else p / 2

/-- The converter that converts an auxiliary input. -/
def convOfInput (s : State) (i : Nat) : Nat := if s.flag .AUX_CUT (i / 32) then 17 - i / 32 else 16 + i / 32

/-- The four ports of the pair of a current converter. -/
def pairPorts (c : Nat) : List Nat := (List.range 4).map fun k => 4 * (c / 2) + k

/-- The slots that own any of the four ports. -/
def pairSlots (s : State) (c : Nat) : List Nat := idsWhere 8 fun i => (pairPorts c).any fun p => s.portOwner p == i

/-- Kind of an auxiliary input (R328): 0 VBUS, 1 round, 2 scan, 3 reserved. -/
def inputKind (i : Nat) : Nat :=
  let k := i % 32
  if k = 0 then 0 else if k = 1 then 1 else if k ≤ 14 then 2 else if k ≤ 25 then 1 else 3

/-- The analog input AINj that an auxiliary input carries. -/
def ainOf (i : Nat) : Option Nat :=
  if 19 ≤ i ∧ i ≤ 22 then some (i - 19) else if 51 ≤ i ∧ i ≤ 54 then some (i - 47) else none

/-- The auxiliary input of a sensor that is converted (R328). -/
def inputOfSensor (k : Nat) : Nat :=
  if k < 4 then 2 + k else if k < 8 then 34 + (k - 4) else if k < 12 then 6 + (k - 8) else if k < 16 then 38 + (k - 12)
  else if k = 16 then 10 else if k = 17 then 42
  else if k % 2 = 0 then 11 + (k - 18) / 2 else 43 + (k - 19) / 2

/-- An enabled input: VBUS and VREFCHK always, reserved never, the odd input of a differential pair not (R336). -/
def inputOn (s : State) (i : Nat) : Bool :=
  if inputKind i = 3 then false
  else if i % 32 ≤ 1 then true
  else match ainOf i with
    | some j => s.dflag .CH_EN i && !(j % 2 == 1 && s.dflag .DIFF (i - 1))
    | none => s.dflag .CH_EN i

/-! ## Corrections (R343) -/

/-- System offset and gain of a channel. -/
def sysCoef (s : State) (ch : Nat) : Int × Int :=
  if ch < 32 then
    if ch % 2 = 0 then (s.geti .SYS_OFS_A (ch / 2), s.get .SYS_GAIN_A (ch / 2))
    else (s.geti .SYS_OFS_B (ch / 2), s.get .SYS_GAIN_B (ch / 2))
  else match ainOf (ch - 64) with
    | some j => if 64 ≤ ch then (s.geti .AIN_SYS_OFS j, s.get .AIN_SYS_GAIN j) else (0, 0x8000)
    | none => (0, 0x8000)

/-- The first stage, of the converter itself. -/
def correct1 (s : State) (c : Nat) (raw : Int) : Int := rdiv ((raw - s.geti .CAL_OFS c) * s.get .CAL_GAIN c) 0x8000

/-- Both stages, saturated to the range of the converter; `signed` for a differential input. -/
def correct (s : State) (c ch : Nat) (raw : Int) (signed : Bool) : Int :=
  let k := sysCoef s ch
  let z := rdiv ((correct1 s c raw - k.1) * k.2) 0x8000
  if !isAux c then satSigned 14 z else if signed then satSigned 16 z else clampI 0 0xFFFF z

/-! ## Averaging (R336, R338) -/

/-- An averaging restart of an input: the next 2^AVG_N outputs are marked. -/
def avgRestart (s : State) (i : Nat) : State := s.clearAll [.AUX_HIST, .AUX_OVR, .AUX_N] i

/-- Every input a converter serves restarts its average, and a newly served one is marked. -/
def auxNewlyServed (s : State) (inputs : List Nat) : State := inputs.foldl (fun a i => (avgRestart a i).put .AUX_SETTLE i 1) s

/-- The last `n` samples of an input, the newest first. -/
def lastSamples (s : State) (i n : Nat) : List Int :=
  (List.range n).map fun k =>
    let w := bits (s.get .AUX_HIST i) (16 * k) 16
    if s.dflag .DIFF i then toSigned 16 w else (w : Int)

/-- DATA from A and W by FMT (R336). -/
def formatAux (fmt : Nat) (a : Int) (w : Nat) : Nat :=
  if fmt = 1 then
    if w ≤ 16 then ofSigned 16 (a * 2 ^ (16 - w)) else ofSigned 16 (a / 2 ^ (w - 16))
  else if fmt = 2 then ofSigned 16 (satSigned 16 a)
  else (clampI 0 0xFFFF a).toNat

/-- What an output word of an input carries: DATA, OVR and SETTLE. -/
structure AuxOut where
  data : Nat
  ovr : Bool
  settle : Bool

/-- One conversion of an auxiliary input: the sample enters the average unless it is marked. -/
def auxSample (s : State) (i : Nat) (code : Int) (ovr : Bool) : State × AuxOut :=
  let n : Nat := 2 ^ s.dv .AVG_N i
  let w := 16 + s.dv .AVG_N i - s.dv .SHIFT i
  if s.flag .AUX_SETTLE i then
    (s.put .AUX_SETTLE i 0, ⟨formatAux (s.dv .FMT i) (code * n / 2 ^ s.dv .SHIFT i) w, ovr, true⟩)
  else
    let s := s.put .AUX_HIST i (s.get .AUX_HIST i * 65536 + ofSigned 16 code)
    let s := s.put .AUX_OVR i (s.get .AUX_OVR i * 2 + b2n ovr)
    let s := s.put .AUX_N i (min 256 (s.get .AUX_N i + 1))
    let a := (lastSamples s i n).sum / 2 ^ s.dv .SHIFT i
    (s, ⟨formatAux (s.dv .FMT i) a w, bits (s.get .AUX_OVR i) 0 n != 0, decide (s.get .AUX_N i < n)⟩)

/-! ## Result entries (R335) -/

def resultWord (data ch : Nat) (ovr settle inj avgd chk : Bool) (seq : Nat) : Nat :=
  trunc 16 data + trunc 7 ch * 2 ^ 16 + b2n ovr * 2 ^ 23 + b2n settle * 2 ^ 24 + b2n inj * 2 ^ 25 + b2n avgd * 2 ^ 26
    + b2n chk * 2 ^ 27 + seq % 16 * 2 ^ 28

/-- Whether the next sample of a port is marked after a cover, a return or a new range; a marked one is counted (R338). -/
def takeSettle (s : State) (c p : Nat) : State × Bool :=
  if s.flag .PORT_SETTLE p then ((s.put .PORT_SETTLE p (s.get .PORT_SETTLE p - 1)).count .SETTLE_CNT c, true) else (s, false)

/-- A copy of a current result in Q8. -/
def copyQ8 (s : State) (c ch : Nat) (code : Int) (ovr settle inj chk : Bool) : State :=
  s.enqueue 8 [resultWord (ofSigned 16 code) ch ovr settle inj false chk (s.get .CONV_WIN c)]

def copyQ9 (s : State) (c ch data : Nat) (ovr settle inj avgd chk : Bool) : State :=
  s.enqueue 9 [resultWord data ch ovr settle inj avgd chk (s.get .CONV_WIN c)]

/-! ## Injected conversions (R333, R334) -/

/-- Priorities of injected requests. -/
def prioThermal : Nat := 1
def prioTrip : Nat := 2
def prioProbe : Nat := 3

/-- A pending injected request: its channel, its priority, and its requester (a sensor; of a trip follow-up, 1 once the period
after the trip has begun). -/
def injWord (ch prio who : Nat) : Nat := ch + prio * 128 + who * 1024

def injChannel (r : Nat) : Nat := r % 128
def injPrio (r : Nat) : Nat := bits r 7 3
def injWho (r : Nat) : Nat := r / 1024

/-- The pending requests of a converter in the order of arrival. -/
def injQueue (s : State) (c : Nat) : List Nat := (List.range (s.get .INJ_N c)).map fun k => s.get .INJ_REQ (4 * c + k)

def setInjQueue (s : State) (c : Nat) (rs : List Nat) : State :=
  ((List.range 4).foldl (fun a k => a.put .INJ_REQ (4 * c + k) (rs.getD k 0)) s).put .INJ_N c rs.length

/-- An injected request: pending in the converter that serves the channel, or dropped when four are pending. -/
def injRequest (s : State) (c ch prio who : Nat) : State × Bool :=
  if 4 ≤ s.get .INJ_N c then (s.count .INJ_DROP c, false)
  else (setInjQueue s c (injQueue s c ++ [injWord ch prio who]), true)

/-- Whether the low side of a port has been on for a blanking time at the present tick. -/
def lowSideOn (s : State) (p blank : Nat) : Bool :=
  let now := 32 * (s.ts - s.get .GROUP_START (groupOf s p))
  s.get .PORT_DRIVE p == 1 && !s.flag .TRIPPED_L p
    && decide (s.get .LS_FROM p + 32 * blank ≤ now ∧ now < s.get .LS_TO p)

/-- The blanking of an injected sample: CUR_BLANK of the port's slot, on an X-port its MON_BLANK (log entry 99). -/
def injBlank (s : State) (p : Nat) : Nat := if s.isX p then s.dv .MON_BLANK p else s.dv .CUR_BLANK (s.portOwner p)

/-- Whether a request may start now as far as its port goes: a trip follow-up in the period after the trip, with the low side
on for its blanking (R333). -/
def injReady (s : State) (c r : Nat) : Bool :=
  isAux c || ((injPrio r != prioTrip || injWho r != 0) && lowSideOn s (injChannel r) (injBlank s (injChannel r)))

/-- The request served next: of those that may start, the highest priority, and within it the first that arrived. -/
def injNext (s : State) (c : Nat) : Option Nat :=
  let ready := (injQueue s c).filter (injReady s c)
  [1, 2, 3].findSome? fun n => ready.find? fun r => injPrio r == n

/-- The delivered result of the running conversion takes its request out of the pending ones. -/
def injTake (s : State) (c : Nat) : State :=
  let rs := injQueue s c
  setInjQueue s c (rs.eraseP fun r => injChannel r == s.get .CONV_NOW c)

/-- Kinds of running conversion (CONV_BUSY). -/
def busyNone : Nat := 0
def busyMonitor : Nat := 1
def busyCheck : Nat := 2
def busyInjected : Nat := 3
def busyRound : Nat := 4
def busyScan : Nat := 5
def busyVbus : Nat := 6

/-- First sampling instant of the window of a slot, from its period start (R190). -/
def firstSample (s : State) (i : Nat) : Nat :=
  (wStart32 (s.get .DEAD_DEV (s.firstPort i)) (s.dv .WIN_ILK i) (s.dv .CUR_BLANK i) + 31) / 32 + 16

/-- Whether a conversion that starts at tick `t` on a current converter would touch a protected interval: from 0.2 µs before the
first sampling instant of a window it serves to the arrival of the window's last result, 0.2 µs after the second instant at
the worst case; a conversion takes up to 0.2 µs itself (R190, R326, R329). -/
def protectedAt (s : State) (c t : Nat) : Bool :=
  (List.range 32).any fun p =>
    let i := s.portOwner p
    convOfPort s p == c && s.isAxisPort p && regulated s i && s.flag .WINDOWED i && !s.flag .SMP_SKIP p && !s.flag .SMP_DONE p &&
      (let at1 := s.get .GROUP_START (s.slotGroup i) + firstSample s i
       decide (at1 < t + 64 ∧ t < at1 + 64))

/-! ## Scan requests (R332) -/

/-- The pending scan requests of an auxiliary converter, in the order of arrival. -/
def scanQueue (s : State) (a : Nat) : List Nat := (List.range (s.get .SCAN_N a)).map fun k => s.get .SCAN_Q (64 * a + k)

def setScanQueue (s : State) (a : Nat) (is : List Nat) : State :=
  ((List.range 64).foldl (fun b k => b.put .SCAN_Q (64 * a + k) (is.getD k 0)) s).put .SCAN_N a (min 64 is.length)

/-- A scan request of an input. -/
def scanRequest (s : State) (a i : Nat) : State := setScanQueue s a (scanQueue s a ++ [i])

/-- The conversion that an injected one aborts (R334): a monitor sample is restarted right after it, a scan is the next scan
again, a round visit is made again at the next free tick. -/
def abortConversion (s : State) (c : Nat) : State :=
  let busy := s.get .CONV_BUSY c
  let now := s.get .CONV_NOW c
  let s := s.count .ABORT_CNT c
  if busy = busyScan then setScanQueue s (c - 16) ((now - 64) :: scanQueue s (c - 16))
  else (s.put .CONV_REDO c busy).put .CONV_REDO_CH c now

/-- INJECTED_CONVERSION_START: outside every protected interval, and not over a VBUS conversion. A running
conversion of another kind is aborted and made again (R334). -/
def injStart (s : State) (c : Nat) : State :=
  let busy := s.get .CONV_BUSY c
  if ¬ convServes s c ∨ busy = busyInjected ∨ busy = busyVbus ∨ (¬ isAux c ∧ protectedAt s c s.ts) then s
  else match injNext s c with
    | none => s
    | some r =>
      let s := if busy = busyNone then s else abortConversion s c
      (s.put .CONV_BUSY c busyInjected).put .CONV_NOW c (injChannel r)

/-! ## Monitor samples (R260, R330) -/

/-- Whether the low side of a port has been on for MON_BLANK at the present tick. -/
def monitorReady (s : State) (p : Nat) : Bool := lowSideOn s p (s.dv .MON_BLANK p)

/-- The request of a PWM event: sampled at its instant, or kept for the end of a protected interval or of the conversion that
runs, where its conditions are judged (R330), or skipped. -/
def monitorRequest (s : State) (p : Nat) : State :=
  let c := convOfPort s p
  if !convServes s c then s.count .MON_SKIP p
  else if protectedAt s c s.ts then s.put .MON_WAIT p 1
  else if !monitorReady s p then s.count .MON_SKIP p
  else if s.get .CONV_BUSY c = busyNone then (s.put .CONV_BUSY c busyMonitor).put .CONV_NOW c p
  else s.put .MON_WAIT p 1

/-- XPORT_MONITOR_SAMPLE: a deferred sample at the end of the interval, or its skip. -/
def monitorDeferred (s : State) (p : Nat) : State :=
  let c := convOfPort s p
  if !s.flag .MON_WAIT p then s
  else
    let s := s.put .MON_WAIT p 0
    if monitorReady s p ∧ convServes s c ∧ s.get .CONV_BUSY c = busyNone then (s.put .CONV_BUSY c busyMonitor).put .CONV_NOW c p
    else s.count .MON_SKIP p

/-! ## The auxiliary sequence (R332) -/


/-- The inputs an auxiliary converter serves. -/
def servedInputs (s : State) (a : Nat) : List Nat := idsWhere 64 fun i => convOfInput s i == 16 + a

/-- The next enabled round input after the last one, in ascending order, and whether the list has wrapped. -/
def nextRound (s : State) (a : Nat) : Option (Nat × Bool) :=
  let on := (servedInputs s a).filter fun i => inputKind i == 1 && inputOn s i
  match on.filter (fun i => decide (s.get .ROUND_POS a < i)) with
  | i :: _ => some (i, false)
  | [] => match on with
    | i :: _ => some (i, true)
    | [] => none

/-- Configurations of auxiliary inputs develop at the start of a round (R350); a change restarts the average. -/
def auxConfigFields : List Reg := [.CH_EN, .CH_COPY, .FMT, .AVG_N, .SHIFT, .DIFF]

def auxDevelop (s : State) (a : Nat) : State :=
  (servedInputs s a).foldl (fun b i =>
    if b.flag .AUX_NEW i then
      let changed := b.get .CH_EN i != b.dv .CH_EN i || b.get .DIFF i != b.dv .DIFF i
      let b := (avgRestart (b.developList auxConfigFields i) i).put .AUX_NEW i 0
      if changed then b.put .AUX_SETTLE i 1 else b
    else b) s

/-- The conversion an auxiliary converter begins at a status tick: VBUS in its fixed slot, else a pending scan, else an aborted
round visit, else the next round input. -/
def auxTick (s : State) (a : Nat) : State :=
  let c := 16 + a
  let start (s : State) (kind ch : Nat) : State := (s.put .CONV_BUSY c kind).put .CONV_NOW c ch
  if ¬ convServes s c ∨ s.get .CONV_BUSY c = busyInjected then s
  else if s.ts / ticksPerUs % 16 = 8 * a then start s busyVbus (64 + 32 * a)
  else match scanQueue s a with
    | i :: rest => start (setScanQueue s a rest) busyScan (64 + i)
    | [] =>
      if s.get .CONV_REDO c = busyRound then start (s.put .CONV_REDO c 0) busyRound (s.get .CONV_REDO_CH c)
      else match nextRound s a with
        | none => s.put .CONV_BUSY c busyNone
        | some (i, wrapped) =>
          let s := if wrapped then auxDevelop (s.countWrap .CONV_WIN c) a else s
          start (s.put .ROUND_POS a i) busyRound (64 + i)

/-! ## CONVERSION_RESULT (R330, R331, R335 to R338) -/

/-- After a conversion the converter is free, or restarts the monitor sample that an injected conversion aborted, under the
conditions of R330. -/
def convFree (s : State) (c : Nat) : State :=
  let s := s.put .CONV_BUSY c busyNone
  if s.get .CONV_REDO c = busyMonitor then monitorRequest (s.put .CONV_REDO c 0) (s.get .CONV_REDO_CH c) else s

/-- A result of a port in the window of its axis. -/
def axisResult (s : State) (c p : Nat) (code : Int) (ovr : Bool) : State :=
  let i := s.portOwner p
  let first := (s.slotPorts i).all fun q => convOfPort s q != c || !s.flag .SMP_DONE q
  let s := if first then (s.develop .Q8_DECIM c).countWrap .CONV_WIN c else s
  let (s, settle) := takeSettle s c p
  let s := (((s.puti .SMP_CODE p code).put .SMP_OVR p (b2n ovr)).put .SMP_SETTLE p (b2n settle)).put .SMP_DONE p 1
  let s := s.put .SMP_FRESH p 1
  let n := s.dv .Q8_DECIM c
  if n ≠ 0 ∧ s.get .CONV_WIN c % n = 0 then copyQ8 s c p code ovr settle false false else s

/-- An output of an auxiliary input: CH_VAL and the copy to Q9. -/
def auxResult (s : State) (c i : Nat) (raw : Int) (ovr inj : Bool) : State :=
  let signed := s.dflag .DIFF i
  let (s, o) := auxSample s i (correct s c (64 + i) raw signed) ovr
  let s := if o.settle then s.count .SETTLE_CNT c else s.put .CH_VAL i o.data
  if inj || s.dflag .CH_COPY i then copyQ9 s c (64 + i) o.data o.ovr o.settle inj (s.dv .AVG_N i != 0) false else s

/-- A result arrives. `epoch` is the epoch of the converter at its start; a result of another epoch is dropped and
counted (R41), and one of a converter that is not in service is not forwarded. A current result belongs to the
axis window of its port unless the converter runs an injected or monitor conversion of it. -/
def conversionResult (s : State) (c ch : Nat) (raw : Int) (ovr : Bool) (epoch : Nat) : State :=
  if epoch ≠ s.get .CONV_EPOCH c then s.count .STALE_DROP 0
  else if ¬ convServes s c then s
  else if isAux c then
    let busy := s.get .CONV_BUSY c
    if ch < 64 ∨ busy = busyNone ∨ s.get .CONV_NOW c ≠ ch then s
    else
      let s := auxResult s c (ch - 64) raw ovr (busy == busyInjected)
      convFree (if busy = busyInjected then injTake s c else s) c
  else if 32 ≤ ch ∨ convOfPort s ch ≠ c then s
  else
    let code := correct s c ch raw false
    let busy := s.get .CONV_BUSY c
    if busy = busyInjected ∧ s.get .CONV_NOW c = ch then
      let (s, settle) := takeSettle s c ch
      convFree (injTake (copyQ8 s c ch code ovr settle true false) c) c
    else if busy = busyMonitor ∧ s.get .CONV_NOW c = ch then
      let (s, settle) := takeSettle s c ch
      convFree (copyQ8 s c ch code ovr settle false false) c
    else if s.isAxisPort ch ∧ s.flag .WINDOWED (s.portOwner ch) ∧ ¬ s.flag .SMP_SKIP ch ∧ ¬ s.flag .SMP_DONE ch then
      axisResult s c ch code ovr
    else s

/-! ## Epochs of converters (R40) -/

/-- The advance of a converter's epoch may take place now. -/
def convEpochFree (s : State) (c : Nat) : Bool :=
  !s.flag .CONV_EPOCH_MOVED c || decide (s.get .CONV_EPOCH_TICK c + 2 * ticksPerMs ≤ s.ts)

def convEpochAdvance (s : State) (c : Nat) : State :=
  (((s.countWrap .CONV_EPOCH c).put .CONV_EPOCH_TICK c s.ts).put .CONV_EPOCH_MOVED c 1).put .CONV_EPOCH_DUE c 0

/-! ## Retirement, cover and return (R341, R342) -/

/-- RED_LOST bit 1: any pair has a retired member (R372). -/
def judgeConvRedundancy (s : State) : State := setRedLost s 1 (s.get .CADC_RET 0 != 0 || s.get .AADC_RET 0 != 0)

def setRetiredBit (s : State) (c : Nat) (b : Bool) : State :=
  if isAux c then s.setBit .AADC_RET 0 (c - 16) b else s.setBit .CADC_RET 0 c b

def isRetired (s : State) (c : Nat) : Bool := if isAux c then s.getBit .AADC_RET 0 (c - 16) else s.getBit .CADC_RET 0 c

/-- HALF_RATE of every slot on the ports of a pair. -/
def setHalfRate (s : State) (c : Nat) (b : Bool) : State :=
  let other (s : State) (i : Nat) : Bool := (s.slotPorts i).any fun p => s.flag .PORT_CUT p
  (pairSlots s c).foldl (fun a i => a.setBit .REG_STAT i 1 (b || other a i)) s

/-- Cutting the ports of group `g` of a converter over to its partner, or back. -/
def cutPorts (s : State) (c g : Nat) (b : Bool) : State :=
  [2 * c, 2 * c + 1].foldl (fun a p =>
    if groupOf a p = g ∧ a.flag .PORT_CUT p ≠ b then
      (a.put .PORT_CUT p (b2n b)).put .PORT_SETTLE p (max 1 (a.get .PORT_SETTLE p))
    else a) s

/-- Cutting the inputs of an auxiliary converter over to its partner, or back. -/
def cutInputs (s : State) (c : Nat) (b : Bool) : State :=
  if s.flag .AUX_CUT (c - 16) = b then s
  else auxNewlyServed (s.put .AUX_CUT (c - 16) (b2n b)) (idsWhere 64 fun i => i / 32 == c - 16)

/-- Pending injected requests of a converter that leaves service go to its partner while that serves; otherwise
they wait for its return (R346). -/
def moveInjected (s : State) (c : Nat) : State :=
  let d := partner c
  if ¬ convServes s d then s
  else (injQueue s c).foldl (fun a r => (injRequest a d (injChannel r) (injPrio r) (injWho r)).1) (s.put .INJ_N c 0)

/-- A self-calibration starts: averages restart and nothing is served meanwhile. -/
def calStart (s : State) (c : Nat) : State :=
  let s := (s.put .CONV_CAL c 1).put .CAL_WAIT c 0
  let s := (s.put .CONV_STATE c convCalibrating).put .CONV_BUSY c busyNone
  if isAux c then (servedInputs s (c - 16)).foldl avgRestart s else s

/-- The converter takes over its partner. -/
def setCovering (s : State) (d : Nat) (b : Bool) : State :=
  if s.get .CONV_STATE d = convActive ∨ s.get .CONV_STATE d = convCovering then
    s.put .CONV_STATE d (if b then convCovering else convActive)
  else s

/-- The ports or inputs of a converter go to its partner. -/
def cover (s : State) (c : Nat) : State :=
  let s := setCovering s (partner c) true
  if isAux c then cutInputs s c true else setHalfRate ((List.range 16).foldl (fun a g => cutPorts a c g true) s) c true

/-- Retirement takes effect: the part that happens once (R341). With the partner retired before, it is the further failure
of R11: not absorbed, but a fault of the axes. -/
def retire (s : State) (c : Nat) : State :=
  let d := partner c
  let covered := !isRetired s d
  let s := (((s.put .CONV_RET_DUE c 0).put .RETIRED_SEEN c 1).count .RETIRE_CNT 0).put .CONV_RET_N c (min 3 (s.get .CONV_RET_N c + 1))
  let s := setRetiredBit (s.clearAll [.STRIKES, .CONV_PASSES] c) c true
  let s := s.put .CONV_STATE c convRetired
  let s := if convEpochFree s c then convEpochAdvance s c else s.put .CONV_EPOCH_DUE c 1
  let s := setCovering (moveInjected s c) d true
  let s := s.post 0x0B01 0x5 noSlot (c + 256)
  let s := if covered then absorb s 2 0x0B01 0xFF (c + 256) else s
  let s := judgeConvRedundancy s
  let s := if covered ∨ isAux c then s
    else (pairSlots s c).foldl (fun a i => if a.kind i = 0 then a else plannedFault a i 0x13 (a.get .STOP_DEC i)) s
  calStart s c

/-- CONVERTER_RETIREMENT: at the next period start of group `g`, or at a status tick for an auxiliary converter. -/
def retirement (s : State) (c g : Nat) : State :=
  if !s.flag .CONV_RET_DUE c ∧ !isRetired s c then s
  else
    let s := if s.flag .CONV_RET_DUE c then retire s c else s
    if isAux c then cutInputs s c true else setHalfRate (cutPorts s c g true) c true

/-- The end of cover: ports or inputs go back to the converter that serves again. -/
def uncover (s : State) (c : Nat) : State :=
  let s := setCovering (s.put .CONV_STATE c convActive) (partner c) false
  if isAux c then cutInputs s c false
  else setHalfRate ((List.range 16).foldl (fun a g => cutPorts a c g false) s) c false

/-- CONVERTER_RETURN: 16 passes in a row, a first retirement, a passed calibration, and the 2 ms rule. -/
def convReturn (s : State) (c : Nat) : State :=
  if ¬ isRetired s c ∨ s.flag .CONV_CAL c ∨ s.get .CONV_PASSES c < 16 ∨ 1 < s.get .CONV_RET_N c ∨ s.flag .CONV_CALFAIL c
      ∨ s.flag .CONV_EPOCH_DUE c ∨ ¬ convEpochFree s c ∨ s.get .CONV_STATE c ≠ convRetired then s
  else
    let s := convEpochAdvance (setRetiredBit (s.put .CONV_PASSES c 0) c false) c
    let s := uncover s c
    judgeConvRedundancy (s.post 0x0B02 0x5 noSlot c)

/-! ## Cross-checks (R339, R340) -/

def checkTol (s : State) (j : Nat) : Nat := if j = 8 then s.dv .AADC_CHECK_TOL 0 else s.dv .CHECK_TOL 0

/-- A strike on a converter: the third retires it. -/
def strike (s : State) (c : Nat) (dev : Int) : State :=
  let s := ((s.put .STRIKES c (min 3 (s.get .STRIKES c + 1))).put .CHK_FAIL_SEEN c 1).put .CHK_PASSED c 0
  let s := s.post 0x0B00 0x5 noSlot (c + ofSigned 16 (satSigned 16 dev) * 65536)
  if 3 ≤ s.get .STRIKES c ∧ !isRetired s c then s.put .CONV_RET_DUE c 1 else s

/-- One converter's verdict of a reference check; a retired one counts its passes in a row (R342). -/
def refVerdict (s : State) (c : Nat) (dev : Int) (tol : Nat) : State :=
  if tol < absN dev then (strike s c dev).put .CONV_PASSES c 0
  else
    let s := (s.put .STRIKES c 0).put .CHK_PASSED c 1
    if isRetired s c then s.put .CONV_PASSES c (min 16 (s.get .CONV_PASSES c + 1)) else s

/-- A reference check of pair `j`: the converters that took part, with their deviations. Where both fail with one sign, the
strike is the reference's, and neither has passed (R340). -/
def refCheck (s : State) (j : Nat) (devs : List (Nat × Int)) : State :=
  let tol := checkTol s j
  let s := devs.foldl (fun a x => a.puti .CHK_LAST_DEV x.1 (satSigned 16 x.2)) s
  let both := devs.length == 2 && (devs.all (fun x => decide (tol < x.2)) || devs.all fun x => decide (x.2 < -(tol : Int)))
  if both then
    let s := devs.foldl (fun a x => a.put .CHK_PASSED x.1 0) (s.put .CHK_REFRUN j (min 3 (s.get .CHK_REFRUN j + 1)))
    if s.get .CHK_REFRUN j = 3 then (s.setBit .CHK_REF_FAIL 0 j true).post 0x0B04 0x5 noSlot j else s
  else devs.foldl (fun a x => refVerdict a x.1 x.2 tol) (s.put .CHK_REFRUN j 0)

/-- A cross check of pair `j`. -/
def crossCheck (s : State) (j c : Nat) (dev : Int) : State :=
  let s := s.puti .CHK_LAST_DEV c (satSigned 16 dev)
  if absN dev ≤ checkTol s j then (s.put .CHK_CROSS j 0).setBit .PAIR_SUSPECT 0 j false
  else if ¬ (s.flag .CHK_PASSED (2 * j) ∧ s.flag .CHK_PASSED (2 * j + 1)) then s
  else
    let s := s.put .CHK_CROSS j (min 3 (s.get .CHK_CROSS j + 1))
    if s.get .CHK_CROSS j = 3 ∧ ¬ s.getBit .PAIR_SUSPECT 0 j then
      let s := (s.setBit .PAIR_SUSPECT 0 j true).post 0x0B03 0x5 noSlot j
      (s.put .CAL_WAIT (2 * j) 1).put .CHK_PAIR_CAL j 1
    else s

/-- Whether a converter makes checks now. -/
def checkable (s : State) (c : Nat) : Bool :=
  !s.flag .CONV_CAL c && s.get .CONV_STATE c != convDomainOff && !(isRetired s c && s.flag .CONV_CALFAIL c)

/-- The raw code of a converter in a check of its pair. -/
def checkCode (c : Nat) (a b : Int) : Int := if c % 2 = 0 then a else b

/-- The corrected codes of the converters that make a reference check, copied with CHK. -/
def refCodes (s : State) (cs : List Nat) (a b : Int) : State × List (Nat × Int) :=
  let xs := cs.map fun c => (c, correct s c (if isAux c then 0x41 + 32 * (c - 16) else 0x20 + c) (checkCode c a b) false)
  (xs.foldl (fun s x =>
    if isAux x.1 then copyQ9 s x.1 (0x41 + 32 * (x.1 - 16)) (ofSigned 16 x.2) false false false false true
    else copyQ8 s x.1 (0x20 + x.1) x.2 false false false true) s, xs)

/-- CONVERTER_CHECK of pair `j`: `a` and `b` are the raw codes of its even and odd converter, `port` the port of
a cross check and `free` whether a free instant was found for it. While one of the pair is retired or away, the checks are
reference checks, of the converters that can make them (log entry 99). After a check at +25 % the even converter checks the
odd one's port, after one at +75 % the odd one the even one's, as in the example of R342. -/
def converterCheck (s : State) (j : Nat) (a b : Int) (port : Nat) (free : Bool) : State :=
  let pair := [2 * j, 2 * j + 1]
  let able := pair.filter (checkable s)
  if s.getBit .CHK_REF_FAIL 0 j ∨ able = [] then s
  else
    let s := (s.develop .CHECK_TOL 0).develop .AADC_CHECK_TOL 0
    let phase := s.get .CHK_PHASE j
    let lone := pair.any (isRetired s) || able.length == 1
    if j = 8 then
      let (s, xs) := refCodes s able a b
      refCheck s j (xs.map fun x => (x.1, x.2 - s.get .CHK_CODE x.1))
    else if phase % 2 = 0 ∨ lone then
      let level : Int := if phase < 2 then 2048 else 6144
      let (s, xs) := refCodes (s.put .CHK_PHASE j (if lone then phase / 2 * 2 + 2 else phase + 1)) able a b
      refCheck s j (xs.map fun x => (x.1, x.2 - level))
    else
      let s := s.put .CHK_PHASE j (phase + 1)
      let c := 2 * j + phase / 2
      if ¬ free ∨ port / 2 ≠ partner c then s.count .CHK_SKIP c
      else
        let own := correct s (partner c) port (checkCode (partner c) a b) false
        let seen := correct s c port (checkCode c a b) false
        crossCheck (copyQ8 s c port seen false false false true) j c (seen - own)

/-! ## Self-calibration (R344 to R346) -/

/-- Every axis on the converter's ports is disabled; an auxiliary converter has none of its own, so every slot. -/
def portsIdle (s : State) (c : Nat) : Bool :=
  if isAux c then (List.range 8).all s.slotDisabled else (pairSlots s c).all s.slotDisabled

/-- Whether a converter may calibrate now: its partner covers it, or nothing uses it. -/
def mayCalibrate (s : State) (c : Nat) : Bool :=
  !s.flag .CONV_CAL c && !s.flag .CONV_CAL (partner c) && s.get .CONV_STATE c != convDomainOff
    && (convServes s (partner c) || portsIdle s c)

/-- The calibration of a converter in service: the partner covers it; it waits while an injected conversion of its
own is pending or running. -/
def calibrate (s : State) (c : Nat) : State :=
  if s.get .INJ_N c ≠ 0 ∨ s.get .CONV_BUSY c = busyInjected then s.put .CAL_WAIT c 1
  else
    let s := calStart s c
    if isRetired s c ∨ ¬ convServes s (partner c) then s else cover s c

def calIntervalTicks (s : State) : Nat := s.dv .CAL_INTERVAL 0 * ticksPerSecond

/-- The tick at which a converter's next periodic calibration is due: in the first rotation after boot or after a change of
CAL_INTERVAL its share of the interval, later a whole interval, so that the eighteen stay staggered evenly (R345). -/
def calDueTick (s : State) (c : Nat) : Nat :=
  s.get .CAL_TICK c + (if s.flag .CAL_ROTATED c then calIntervalTicks s else calIntervalTicks s * (c + 1) / 18)

/-- CAL_INTERVAL develops, and a rotation begins. -/
def calRotation (s : State) : State :=
  (List.range 18).foldl (fun a c => (a.put .CAL_TICK c a.ts).put .CAL_ROTATED c 0) (s.develop .CAL_INTERVAL 0)

/-- PERIODIC_CALIBRATION_DUE: the converter calibrates, or the calibration is deferred until it can. A changed CAL_INTERVAL
develops here; while none is in force, at once. -/
def calibrationDue (s : State) (c : Nat) : State :=
  let off := s.dv .CAL_INTERVAL 0 == 0
  let t := calDueTick s c
  if !off && decide (s.ts < t) then s
  else
    let s := if off then s else (s.put .CAL_TICK c t).put .CAL_ROTATED c 1
    let s := if s.get .CAL_INTERVAL 0 = s.dv .CAL_INTERVAL 0 then s else calRotation s
    if off then s else if mayCalibrate s c then calibrate s c else (s.count .CAL_DEFER 0).put .CAL_WAIT c 1

/-- CALIBRATION_DEFERRED_START. -/
def calibrationDeferred (s : State) (c : Nat) : State :=
  if s.flag .CAL_WAIT c ∧ s.get .INJ_N c = 0 ∧ s.get .CONV_BUSY c ≠ busyInjected ∧ mayCalibrate s c then calibrate s c else s

/-- CAL_START of one converter: `false` where it is refused. -/
def calCommand (s : State) (c : Nat) : State × Bool :=
  if mayCalibrate s c then (calibrate s c, true) else (s.put .CAL_REJ c 1, false)

/-- What ends a calibration besides its result: a retired converter stays retired, another serves again. -/
def calEnd (s : State) (c : Nat) : State :=
  let s := s.put .CONV_CAL c 0
  let s := if isAux c then (servedInputs s (c - 16)).foldl avgRestart s else s
  if isRetired s c then s.put .CONV_STATE c convRetired else uncover s c

/-- The second converter of a suspect pair follows the first (R340). -/
def calPairNext (s : State) (c : Nat) : State :=
  if c % 2 = 0 ∧ s.flag .CHK_PAIR_CAL (pairOf c) then (s.put .CHK_PAIR_CAL (pairOf c) 0).put .CAL_WAIT (c + 1) 1 else s

/-- A failed calibration keeps the coefficients and retires the converter, or keeps it retired. -/
def calFail (s : State) (c why : Nat) : State :=
  let s := ((s.put .CAL_FAIL_SEEN c 1).put .CONV_CALFAIL c 1).post 0x0B06 0x5 noSlot (c + why * 256)
  let s := s.put .CONV_CAL c 0
  if isRetired s c then s.put .CONV_STATE c convRetired
  else calPairNext ((s.put .CONV_STATE c convRetired).put .CONV_RET_DUE c 1) c

/-- SELF_CALIBRATION_DONE: `ofs` and `gain` as the converter derives them, `code` its new reference-check code. -/
def calDone (s : State) (c : Nat) (ofs : Int) (gain code : Nat) : State :=
  if !s.flag .CONV_CAL c then s
  else if 512 < absN ofs then calFail s c 1
  else if gain < 0x7000 ∨ 0x9000 < gain then calFail s c 2
  else
    let s := ((s.puti .CAL_OFS c ofs).put .CAL_GAIN c gain).put .CHK_CODE c code
    let s := s.post 0x0B05 0x5 noSlot (c + ofSigned 16 ofs * 65536)
    calPairNext (calEnd s c) c


/-! ## System calibration (R347) -/

def syscalReject (s : State) (why : Nat) : State :=
  (((s.put .SYSCAL_REJ 0 1).put .SYSCAL_WHY 0 why).put .SC_STEP 0 0).post 0x0B07 0x5 noSlot why

/-- A channel that system calibration serves: a port or an analog input. -/
def syscalChannel (ch : Nat) : Bool := decide (ch < 32) || (decide (64 ≤ ch) && (ainOf (ch - 64)).isSome)

/-- The common checks: 0, or a reason. -/
def syscalCheck (s : State) (ch : Nat) : Nat :=
  if !syscalChannel ch then 1
  else if ch < 32 ∧ s.isAxisPort ch ∧ !s.slotDisabled (s.portOwner ch) then 6
  else 0

/-- SYSCAL_ZERO (step 1) or SYSCAL_REF (step 2), with the reason of its refusal or 0. -/
def syscalStart (s : State) (step : Nat) : State × Nat :=
  let ch := s.get .SYSCAL_CH 0
  let why := syscalCheck s ch
  let why := if why = 0 ∧ step = 2 ∧ ¬ (s.flag .SC_ZERO_OK 0 ∧ s.get .SC_ZERO_CH 0 = ch) then 2 else why
  if why ≠ 0 then (syscalReject s why, why)
  else ((s.put .SC_STEP 0 step).put .SC_RUN_CH 0 ch, 0)

/-- The converter that serves a channel. -/
def convOfChannel (s : State) (ch : Nat) : Nat := if ch < 32 then convOfPort s ch else convOfInput s (ch - 64)

def storeCoef (s : State) (ch : Nat) (ofs : Int) (gain : Nat) : State :=
  if ch < 32 then
    if ch % 2 = 0 then (s.puti .SYS_OFS_A (ch / 2) ofs).put .SYS_GAIN_A (ch / 2) gain
    else (s.puti .SYS_OFS_B (ch / 2) ofs).put .SYS_GAIN_B (ch / 2) gain
  else match ainOf (ch - 64) with
    | some j => (s.puti .AIN_SYS_OFS j ofs).put .AIN_SYS_GAIN j gain
    | none => s

/-- SYSCAL_AVERAGE_DONE: `code` is the average of 256 samples after the first stage of correction, `bad` whether a
sample carried OVR or SETTLE. -/
def syscalDone (s : State) (code : Int) (bad : Bool) : State :=
  let ch := s.get .SC_RUN_CH 0
  let step := s.get .SC_STEP 0
  let s := if step = 2 then s.put .SC_ZERO_OK 0 0 else s
  if step = 0 then s
  else if bad then syscalReject s 5
  else if syscalCheck s ch ≠ 0 then syscalReject s (syscalCheck s ch)
  else if step = 1 then
    if 1024 < absN code then syscalReject s 3
    else (((s.put .SC_STEP 0 0).put .SC_ZERO_OK 0 1).put .SC_ZERO_CH 0 ch).puti .SC_ZERO 0 code
  else
    let zero := s.geti .SC_ZERO 0
    if code = zero then syscalReject s 4
    else
      let gain := rdiv (0x8000 * s.get .SYSCAL_TARGET 0) (code - zero)
      if gain < 0x6000 ∨ 0xA000 < gain then syscalReject s 4
      else
        let s := (storeCoef s ch zero gain.toNat).put .SC_STEP 0 0
        let s := s.post 0x0B05 0x5 noSlot (convOfChannel s ch + 256 + ofSigned 16 zero * 65536)
        s.record 0x0E 0 deviceActor ch (ofSigned 16 zero + gain.toNat * 65536)

/-! ## Power-up (R345) and the domains (R385) -/

/-- The trip follow-up of R333. -/
def tripFollow (s : State) (p : Nat) : State := (injRequest s (convOfPort s p) p prioTrip 0).1

/-- A period of the port begins: a trip follow-up of the period before may now start, and one that found no instant in its
period is reported as not converted, without a count (R333). -/
def followPeriod (s : State) (p : Nat) : State :=
  let c := convOfPort s p
  if s.get .CONV_BUSY c = busyInjected ∧ s.get .CONV_NOW c = p then s
  else setInjQueue s c ((injQueue s c).filterMap fun r =>
    if injChannel r ≠ p ∨ injPrio r ≠ prioTrip then some r else if injWho r = 0 then some (injWord p prioTrip 1) else none)

/-- A converter whose return to service waits for the 2 ms rule (R40). -/
def convWaits (s : State) (c : Nat) : Bool := s.flag .CONV_EPOCH_DUE c && s.get .CONV_STATE c == convDomainOff

/-- A converter whose domain is on enters service under its new epoch, or stays retired. -/
def convServe (s : State) (c : Nat) : State :=
  s.put .CONV_STATE c (if isRetired s c then convRetired
    else if isRetired s (partner c) || convWaits s (partner c) then convCovering else convActive)

/-- A restart of a converter's domain: nothing runs and nothing is pending. Its epoch advances and it serves; within 2 ms of
the last advance it waits, and its partner covers it (R40). -/
def convDomainBack (s : State) (c : Nat) : State :=
  let s := s.clearAll [.CONV_BUSY, .CONV_REDO, .INJ_N] c
  if convEpochFree s c then convServe (convEpochAdvance s c) c
  else if isRetired s c then (s.put .CONV_EPOCH_DUE c 1).put .CONV_STATE c convRetired
  else cover (s.put .CONV_EPOCH_DUE c 1) c

/-- The power domain of a converter (R326). -/
def convDomain (c : Nat) : Nat := if c < 8 then 6 else if c < 16 then 7 else 8

/-- An epoch's advance that had to wait takes place, and a converter that waited to return serves again (R40). -/
def convEpochLate (s : State) (c : Nat) : State :=
  if !s.flag .CONV_EPOCH_DUE c ∨ !convEpochFree s c then s
  else
    let back := s.get .CONV_STATE c == convDomainOff && s.getBit .DOM_ON 0 (convDomain c)
    let s := convEpochAdvance s c
    if !back then s else if isRetired s (partner c) then s.put .CONV_STATE c convCovering else uncover s c

end Sys2Proof.Machine
end

