-- ==== Sys2Proof/Machine/Thermal.lean ====
section
/-! DEFINITION. The thermal supervisor: readings, scans, plausibility, sensor states, throttling and the gate-drive
power budget (R353 to R368). -/

namespace Sys2Proof.Machine

/-- No temperature. -/
def noTemp : Nat := 0x8000

/-- Sensor states of R361. -/
def snsHealthy : Nat := 0
def snsSuspect : Nat := 1
def snsQualifying : Nat := 2
def snsSubstituted : Nat := 3
def snsUnavail : Nat := 5
def snsDisabled : Nat := 6

def isVirtual (k : Nat) : Bool := decide (26 ≤ k)

def sns (s : State) (k : Nat) : Nat := s.get .SNS_STATE k

/-- A failed sensor: QUALIFYING, SUBSTITUTED or BLIND. -/
def snsFailed (s : State) (k : Nat) : Bool := sns s k == snsQualifying || sns s k == snsSubstituted || sns s k == snsBlind

/-- The slots a sensor throttles. -/
def sensorSlots (s : State) (k : Nat) : List Nat := idsWhere 8 fun i => bit (s.dv .THM_AXES k) i

/-- A temperature word, saturated beside the code for none. -/
def tempWord (z : Int) : Nat := ofSigned 16 (clampI (-32767) 32767 z)

def tempI (v : Nat) : Int := toSigned 16 v

/-! ## Readings (R354, R355) -/

/-- Remote diode from the codes at 8, 32 and 128 µA: temperature in 1/64 °C by T = q·ΔV/(η·k·ln 4) − 273.15 with
3.6 V full scale, series resistance in Ω, and the electrical check. -/
def diodeTemp (eta : Nat) (a b c : Nat) : Int :=
  let dv : Int := 4 * ((b : Int) - a) - ((c : Int) - b)
  let num : Int := 64 * 16021766340 * 36 * 4096 * 65536 * dv
  let den : Int := 1380649 * 10 * 65536 * 3 * eta * lnQ16 4 1
  rdiv (num * 10 - 174816 * den) (10 * den)

def diodeRs (a b c : Nat) : Int := rdiv ((((c : Int) - b) - ((b : Int) - a)) * 50000) 65536

def diodeBad (a : Nat) (rs : Int) (ovr : Bool) : Bool :=
  ovr || decide (a * 3600000 < 250000 * 65536) || decide (850000 * 65536 < a * 3600000) || decide (1000 < rs)

/-- Thermistor in β mode from the codes of THn and VANA: 1/T = 1/298.15 + ln(R/R25)/β. -/
def betaTemp (beta r25 rpu v vana : Nat) : Int :=
  let l := lnQ16 (rpu * v) ((vana - v) * r25)
  let num : Int := 29815 * beta * 65536
  let den : Int := 100 * beta * 65536 + 29815 * l
  rdiv (640 * num - 174816 * den) (10 * den)

/-- Thermistor in table mode: linear in ln R between the points, the end segments extended. -/
def tableTemp (s : State) (h rpu v vana : Nat) : Int :=
  let lr := lnQ16 (10 * rpu * v) (vana - v)
  let lp (j : Nat) : Int := lnQ16 (s.get .TH_DEV_R (16 * h + j)) 1
  let t (j : Nat) : Int := s.geti .TH_DEV_T (16 * h + j)
  let j := ((List.range 15).find? fun j => decide (lp (j + 1) ≤ lr)).getD 14
  t j + rdiv ((t (j + 1) - t j) * (lp j - lr)) (lp j - lp (j + 1))

def thermistorBad (v vana : Nat) (ovr : Bool) : Bool := ovr || decide (64 * v < vana) || decide (63 * vana < 64 * v)

/-- A point put into a list of points with rising temperatures. -/
def insertPoint (x : Int × Nat) : List (Int × Nat) → List (Int × Nat)
  | [] => [x]
  | y :: ys => if x.1 < y.1 then x :: y :: ys else y :: insertPoint x ys

/-- The written points of a thermistor's table in the order of their temperatures. -/
def tablePoints (s : State) (h : Nat) : List (Int × Nat) :=
  (List.range 16).foldl (fun ps j => insertPoint (s.geti .TH_TAB_T (16 * h + j), s.get .TH_TAB_R (16 * h + j)) ps) []

/-- Temperatures rise and resistances fall strictly. -/
def pointsFall : List (Int × Nat) → Bool
  | x :: y :: ps => decide (x.1 < y.1 ∧ y.2 < x.2) && pointsFall (y :: ps)
  | _ => true

/-- Accepting a written table at the next scan: resistances fall strictly as temperatures rise (R355). -/
def takeTable (s : State) (k : Nat) : State :=
  let h := k - 8
  if k < 8 ∨ 16 ≤ k ∨ ¬ s.flag .TH_TAB_NEW h then s
  else
    let s := s.put .TH_TAB_NEW h 0
    let ps := tablePoints s h
    if pointsFall ps then (List.range 16).foldl (fun a j =>
      let x := ps.getD j (0, 0)
      (a.put .TH_DEV_R (16 * h + j) x.2).puti .TH_DEV_T (16 * h + j) x.1) s
    else (s.put .TH_TAB_REJ k 1).post 0x0C09 0x6 noSlot k

/-! ## Scans (R357, R358) -/

def sensorFields : List Reg :=
  [.SNS_EN, .TH_TABLE, .T_LIM, .THM_AXES, .NB0, .NB1, .NB2, .NB_LO0, .NB_LO1, .NB_LO2, .NB_HI0, .NB_HI1, .NB_HI2, .RATE_MAX]

def thermalFields : List Reg := [.NEAR_BAND, .CLOSE_BAND, .THR_INTERVAL, .THR_FLOOR, .THR_HOLD]

/-- The fields of a sensor and of the supervisor that develop at a scan. -/
def scanDevelop (s : State) (k : Nat) : State :=
  let s := (s.developList sensorFields k).developList thermalFields 0
  let s := if k < 8 then s.develop .TD_ETA k
    else if k < 16 then s.developList [.TH_BETA, .TH_R25, .TH_RPU] (k - 8) else s
  takeTable s k

/-- The choice of the scan rate after a scan. -/
def chooseRate (s : State) (k : Nat) : State :=
  let t := if s.get .TEMP k = noTemp then s.get .RAW k else s.get .TEMP k
  let lim := s.dvi .T_LIM k
  s.put .SCAN_RATE k (if t = noTemp then 1
    else if tempI t < lim - 64 * s.dv .NEAR_BAND 0 then 0
    else if tempI t < lim - 64 * s.dv .CLOSE_BAND 0 then 1 else 2)

/-- The scan interval in ticks. -/
def scanInterval (s : State) (k : Nat) : Nat :=
  if s.get .TEMP k = noTemp ∧ s.get .RAW k = noTemp then 10 * ticksPerMs
  else if s.get .SCAN_RATE k = 0 then 100 * ticksPerMs else if s.get .SCAN_RATE k = 1 then 10 * ticksPerMs else ticksPerMs

/-! ## Throttle freeze and hold (R365) -/

def postThrottle (s : State) (i : Nat) : State :=
  s.post 0x0C06 0x6 i (s.get .THR_STEP i + s.get .THR_FROZEN i * 256)

/-- The steps of a sensor's slots freeze where they are above 0; a hold in force ends at once. -/
def freezeFor (s : State) (k : Nat) : State :=
  (sensorSlots s k).foldl (fun a i =>
    if a.get .THR_STEP i = 0 then a
    else
      let a := a.setBit .SNS_FREEZES k i true
      if a.flag .THR_FROZEN i then a
      else postThrottle (((a.put .THR_FROZEN i 1).put .THR_HFLOOR i 0).put .THR_HOLDING i 0) i) s

/-- A sensor no longer freezes: a slot that no other sensor freezes starts its hold. -/
def unfreezeFor (s : State) (k : Nat) : State :=
  (List.range 8).foldl (fun a i =>
    if !s.getBit .SNS_FREEZES k i ∨ (List.range 34).any (fun q => a.getBit .SNS_FREEZES q i) then a
    else
      let a := (a.put .THR_FROZEN i 0).put .THR_HFLOOR i (a.get .THR_STEP i)
      (a.put .THR_HOLDING i 1).put .THR_HOLD_TICK i (a.ts + a.dv .THR_HOLD 0 * ticksPerSecond)) (s.put .SNS_FREEZES k 0)

/-! ## Neighbours and the temperature in use (R359, R360, R362, R363) -/

/-- The healthy neighbours of a sensor with their band: id, low and high. -/
def healthyNeighbours (s : State) (k : Nat) : List (Nat × Int × Int) :=
  let all := [(s.dv .NB0 k, s.dvi .NB_LO0 k, s.dvi .NB_HI0 k), (s.dv .NB1 k, s.dvi .NB_LO1 k, s.dvi .NB_HI1 k),
    (s.dv .NB2 k, s.dvi .NB_LO2 k, s.dvi .NB_HI2 k)]
  all.filter fun n => decide (n.1 < 34) && s.dflag .SNS_EN n.1 && sns s n.1 == snsHealthy && s.get .RAW n.1 != noTemp

/-- The substitute: the hottest reading the healthy neighbours make plausible. -/
def substituteOf (s : State) (k : Nat) : Nat :=
  match healthyNeighbours s k with
  | [] => noTemp
  | n :: t =>
    let val (n : Nat × Int × Int) : Int := tempI (s.get .RAW n.1) + n.2.2
    tempWord (t.foldl (fun m n => max m (val n)) (val n))

/-- RED_LOST bit 2: a failed sensor has at most one healthy neighbour (R363, R372). -/
def judgeSensorRedundancy (s : State) : State :=
  setRedLost s 2 ((List.range 34).any fun k => snsFailed s k && s.flag .SNS_SINGLE k)

/-- The substitute and its redundancy warning, and the temperature in use. -/
def setTemp (s : State) (k : Nat) : State :=
  let sub := substituteOf s k
  let ns := healthyNeighbours s k
  let single := snsFailed s k && decide (ns.length ≤ 1)
  let s := s.put .SNS_SUB k sub
  let s := if single && !s.flag .SNS_SINGLE k then
      match ns with
      | n :: _ => s.post 0x0C05 0x6 noSlot (k + n.1 * 256)
      | [] => s
    else s
  let s := judgeSensorRedundancy (s.put .SNS_SINGLE k (b2n single))
  let acc := s.get .T_ACC k
  let st := sns s k
  s.put .TEMP k (
    if st = snsHealthy ∨ st = snsQualifying then acc
    else if st = snsSuspect then
      if sub = noTemp then acc else if acc = noTemp then sub else tempWord (max (tempI acc) (tempI sub))
    else if st = snsSubstituted then sub
    else noTemp)

/-- A failed sensor with no healthy neighbour left becomes BLIND; assigned axes take cause 0x13 (R363). -/
def judgeBlind (s : State) (k : Nat) : State :=
  if (sns s k = snsQualifying ∨ sns s k = snsSubstituted) ∧ healthyNeighbours s k = [] then
    let s := (s.put .SNS_STATE k snsBlind).post 0x0C04 0x6 noSlot k
    let s := s.emcy 0x4210 0xFF 0 0x0C04
    let s := setTemp s k
    (sensorSlots s k).foldl (fun a i => if a.kind i = 0 then a else plannedFault a i 0x13 (a.get .STOP_DEC i)) s
  else s

/-! ## Judging a scan (R359, R361) -/

def rateFails (s : State) (k : Nat) (t : Int) : Bool :=
  s.dv .RATE_MAX k != 0 && s.get .T_REF k != noTemp &&
    decide (64 * (s.dv .RATE_MAX k * max (s.ts - s.get .T_REF_TICK k) (ticksPerSecond / 10) + ticksPerSecond)
      < absN (t - tempI (s.get .T_REF k)) * ticksPerSecond)

def bandMade (s : State) (k : Nat) : Bool := decide (2 ≤ (healthyNeighbours s k).length)

def bandFails (s : State) (k : Nat) (t : Int) : Bool :=
  let ns := healthyNeighbours s k
  let out := ns.filter fun n => decide (t < tempI (s.get .RAW n.1) + n.2.1 ∨ tempI (s.get .RAW n.1) + n.2.2 < t)
  bandMade s k && decide (ns.length < 2 * out.length)

/-- A converted or taken reading, judged; `skip` leaves out the rate and band checks (R356). -/
def judgeScan (s : State) (k : Nat) (t : Int) (elec skip : Bool) : State :=
  let rate := !skip && rateFails s k t
  let band := !skip && bandFails s k t
  let cause := b2n elec + 2 * b2n rate + 4 * b2n band
  let w := tempWord t
  let fail := cause != 0
  let ref (s : State) : State := (s.put .T_REF k w).put .T_REF_TICK k s.ts
  let s := ((s.put .SNS_PEND k 0).put .SNS_MISS k 0).put .SNS_MISSED k 0
  let s := if snsFailed s k then s else unfreezeFor s k
  let made := !skip && bandMade s k
  let s := s.put .RAW k w
  let s := if fail then
      let s := ((s.count .FAIL_CNT k).put .LAST_CAUSE k cause).put .SNS_FAILS k (min 255 (s.get .SNS_FAILS k + 1))
      let s := s.put .SNS_PASSES k 0
      if snsFailed s k then ref s else s
    else
      let s := (ref s).put .SNS_FAILS k 0
      if snsFailed s k then s.put .SNS_PASSES k (if made then min 63 (s.get .SNS_PASSES k + 1) else 0)
      else
        let s := s.put .T_ACC k w
        if sns s k = snsSuspect then s.put .SNS_STATE k snsHealthy else s
  chooseRate (setTemp (judgeBlind s k) k) k

/-- SCAN_RESULT of a converted sensor: `a`, `b` and `c` are the three diode codes, the thermistor's code and that of
VANA, or a die sensor's temperature word. -/
def scanResult (s : State) (k a b c : Nat) (ovr : Bool) : State :=
  if !s.flag .SNS_PEND k ∨ isVirtual k then s
  else if k < 8 then
    let rs := diodeRs a b c
    judgeScan (s.put .TD_RS k (clampI 0 0xFFFF rs).toNat) k (diodeTemp (s.dv .TD_ETA k) a b c) (diodeBad a rs ovr) false
  else if k < 16 then
    let h := k - 8
    let t := if s.dflag .TH_TABLE k then tableTemp s h (s.dv .TH_RPU h) a b
      else betaTemp (s.dv .TH_BETA h) (s.dv .TH_R25 h) (s.dv .TH_RPU h) a b
    judgeScan s k t (thermistorBad a b ovr) false
  else judgeScan s k (tempI (trunc 16 a)) false false

/-- Scan of a virtual sensor (R356). -/
def scanVirtual (s : State) (k : Nat) : State :=
  let i := k - 26
  let st := s.get .VW_STATE i
  let back (s : State) : State := if sns s k = snsUnavail then unfreezeFor ((s.put .SNS_STATE k snsHealthy).put .SNS_FAILS k 0) k else s
  if st = 0 then judgeScan (back s) k (s.geti .VW_TEMP i) false false
  else if st = 1 then
    let s := back s
    if s.slotDisabled i then judgeScan s k (s.geti .VW_TEMP i) false true
    else
      let s := ((s.count .FAIL_CNT k).put .SNS_FAILS k (min 255 (s.get .SNS_FAILS k + 1))).put .SNS_PASSES k 0
      let s := s.put .LAST_CAUSE k 1
      chooseRate (setTemp (judgeBlind s k) k) k
  else chooseRate (setTemp (s.put .SNS_STATE k snsUnavail) k) k

/-- A scan that cannot be converted is missed. -/
def scanMissed (s : State) (k : Nat) : State :=
  if s.get .SNS_MISS k = 0 then s.put .SNS_MISS k (max 1 s.ts) else s

/-- THERMAL_SCAN_DUE: the interval has elapsed; latent fields develop and the conversions are requested. -/
def scanDue (s : State) (k : Nat) : State :=
  if sns s k = snsDisabled ∨ !s.flag .SNS_EN k ∨ s.ts < s.get .SNS_SCAN_TICK k + scanInterval s k then s
  else
    let s := (scanDevelop s k).put .SNS_SCAN_TICK k s.ts
    if isVirtual k then scanVirtual s k
    else
      let input := inputOfSensor k
      let c := convOfInput s input
      if ¬ convServes s c ∧ ¬ s.flag .CONV_CAL c then scanMissed s k
      else
        let n := if k < 8 then 3 else 1
        if s.get .SCAN_RATE k = 2 ∧ s.get .TEMP k ≠ noTemp then
          let (s, ok) := (List.range n).foldl (fun a _ =>
            let b := injRequest a.1 c (64 + input) prioThermal k
            (b.1, a.2 && b.2)) (s, true)
          if ok then s.put .SNS_PEND k 1 else scanMissed s k
        else ((List.range n).foldl (fun a _ => scanRequest a (c - 16) input) s).put .SNS_PEND k 1

/-- THM_NO_SCAN: an assigned sensor has missed its scans for 1 s. -/
def noScan (s : State) (k : Nat) : State :=
  if s.get .SNS_MISS k = 0 ∨ s.flag .SNS_MISSED k ∨ sensorSlots s k = [] ∨ s.ts < s.get .SNS_MISS k + ticksPerSecond then s
  else freezeFor ((s.put .SNS_MISSED k 1).post 0x0C08 0x6 noSlot k) k

/-! ## Sensor state changes (R361) -/

/-- THM_SUSPECT. -/
def sensorSuspect (s : State) (k : Nat) : State :=
  if sns s k = snsHealthy ∧ 3 ≤ s.get .SNS_FAILS k then
    chooseRate (setTemp ((s.put .SNS_STATE k snsSuspect).post 0x0C00 0x6 noSlot (k + s.get .LAST_CAUSE k * 256)) k) k
  else s

/-- THM_FAILED: an absorbed failure; the steps of its axes freeze. -/
def sensorFailed (s : State) (k : Nat) : State :=
  if sns s k = snsSuspect ∧ 10 ≤ s.get .SNS_FAILS k then
    let s := (((s.put .SNS_STATE k snsQualifying).put .QUAL_TICK k s.ts).put .FAIL_SEEN k 1).put .SNS_PASSES k 0
    let arg := k + s.get .LAST_CAUSE k * 256
    let s := absorb (s.post 0x0C01 0x6 noSlot arg) 3 0x0C01 0xFF arg
    let s := freezeFor s k
    chooseRate (judgeBlind (setTemp s k) k) k
  else s

/-- THM_SUBSTITUTE. -/
def sensorSubstituted (s : State) (k : Nat) : State :=
  if sns s k = snsQualifying ∧ s.get .QUAL_TICK k + 2 * ticksPerSecond ≤ s.ts ∧ healthyNeighbours s k ≠ [] then
    let s := setTemp (s.put .SNS_STATE k snsSubstituted) k
    let s := s.post 0x0C02 0x6 noSlot (k + s.get .SNS_SUB k * 65536)
    chooseRate (unfreezeFor s k) k
  else s

/-- THM_RECOVERED. -/
def sensorRecovered (s : State) (k : Nat) : State :=
  if (sns s k = snsSubstituted ∨ sns s k = snsBlind) ∧ 50 ≤ s.get .SNS_PASSES k then
    let s := ((s.put .SNS_STATE k snsHealthy).put .SNS_FAILS k 0).put .T_ACC k (s.get .RAW k)
    let s := (s.post 0x0C03 0x6 noSlot k).emcyIfClear 0xFF
    chooseRate (unfreezeFor (setTemp s k) k) k
  else s

/-- SNS_EN_WRITE: off, or on again as HEALTHY with no T_ref. A freeze lasts through the time off, and ends with HEALTHY (R365). -/
def writeSnsEn (s : State) (k : Nat) (on : Bool) : State :=
  let was := s.flag .SNS_EN k
  let s := s.put .SNS_EN k (b2n on)
  if !on then
    let s := ((s.put .SNS_STATE k snsDisabled).put .SNS_PEND k 0).put .SNS_MISS k 0
    judgeSensorRedundancy (s.put .TEMP k noTemp)
  else if was ∧ sns s k ≠ snsDisabled then s
  else
    let s := (s.put .SNS_STATE k snsHealthy).clearAll [.T_REF, .T_ACC, .RAW, .TEMP, .SNS_FAILS, .SNS_PASSES, .SNS_SUB] k
    unfreezeFor (s.put .SNS_SINGLE k 0) k

/-! ## Throttling (R364) -/

/-- Assigned sensors of a slot. -/
def slotSensors (s : State) (i : Nat) : List Nat := idsWhere 34 fun k => bit (s.dv .THM_AXES k) i

def sensorOver (s : State) (k : Nat) : Bool :=
  (sns s k == snsHealthy || sns s k == snsSuspect || sns s k == snsSubstituted) && s.get .TEMP k != noTemp
    && decide (s.dvi .T_LIM k ≤ tempI (s.get .TEMP k))

def setStep (s : State) (i n : Nat) : State :=
  let up := decide (s.get .THR_STEP i < n)
  let s := (s.put .THR_STEP i n).put .THR_SINCE i s.ts
  postThrottle (if up then s.put .THR_SEEN i 1 else s) i

/-- The evaluation of one slot at a status tick. -/
def throttleSlot (s : State) (i : Nat) : State :=
  let ks := slotSensors s i
  let n := s.get .THR_STEP i
  let top := 16 - s.dv .THR_FLOOR 0
  let since := s.ts - s.get .THR_SINCE i
  let frozen := s.flag .THR_FROZEN i
  let hot := ks.any fun k => sensorOver s k && !(frozen && s.getBit .SNS_FREEZES k i)
  let clear := ks.all fun k => s.get .TEMP k == noTemp || decide (tempI (s.get .TEMP k) < s.dvi .T_LIM k - 320)
  let rise := hot && decide (s.dv .THR_INTERVAL 0 * ticksPerMs ≤ since)
  let fall := !frozen && !hot && clear && decide (s.get .THR_HFLOOR i < n ∧ 500 * ticksPerMs ≤ since)
  let s := if rise then (if min (n + 1) top = n then s.put .THR_SINCE i s.ts else setStep s i (min (n + 1) top))
    else if fall then setStep s i (n - 1) else s
  s.put .THR_AT_FLOOR i (b2n (hot && decide (top ≤ s.get .THR_STEP i)))

def throttleTick (s : State) : State := (List.range 8).foldl throttleSlot s

/-- The thermal limit, which develops at the axis's motion update. -/
def developThermalLimit (s : State) (i : Nat) : State :=
  s.put .THR_LIMIT i (rdiv (s.dv .CUR_LIMIT i * (16 - s.get .THR_STEP i) : Nat) 16).toNat

/-- THR_HOLD_EXPIRY. -/
def holdExpiry (s : State) (i : Nat) : State :=
  if s.flag .THR_HOLDING i ∧ s.get .THR_HOLD_TICK i ≤ s.ts then (s.put .THR_HOLDING i 0).put .THR_HFLOOR i 0 else s

/-! ## The power budget (R366, R367) -/

/-- A port that counts as enabled in the estimate. -/
def countsInBudget (s : State) (p : Nat) : Bool :=
  if s.isX p then s.flag .PWM_EN p else s.isAxisPort p && !s.slotDisabled (s.portOwner p)

/-- The estimate in mW with the period of group `g`, if given, replaced: the terms in nW, the sum rounded. -/
def gdEstimate (s : State) (g per : Nat) : Int :=
  rdiv (((List.range 32).filter (countsInBudget s)).map fun p =>
    let period := if groupOf s p = g ∧ per ≠ 0 then per else s.get .PERIOD_DEV p
    rdiv (2 * s.dv .QG_NC p * s.get .VDRV_MV (p / 8) * 160000000 * 7 : Nat) (period * 16 * 1000 : Nat)).sum 1000000

/-- Groups that may be lengthened: X-ports only, without the brake chopper, not yet at 16,000 ticks. -/
def budgetGroups (s : State) : List Nat := idsWhere 16 fun g =>
  let ps := groupPorts s g
  ps != [] && ps.all (fun p => s.isX p) && !(s.flag .BRAKE_EN 0 && ps.contains (s.get .BRAKE_PORT 0))
    && decide (groupPeriod s g < 16000)

/-- The PERIOD a group returns to: the latent one as last loaded (log entry 99). -/
def latentPeriod (s : State) (g : Nat) : Nat := s.get .PERIOD_LOADED ((groupPorts s g).headD 0)

def postBudget (s : State) (g : Nat) (longer : Bool) (per : Nat) : State :=
  s.post 0x0C07 0x6 noSlot (g + b2n longer * 256 + per * 65536)

def budgetLengthen (s : State) : State :=
  match budgetGroups s with
  | [] => s.put .BUDGET_OVER 0 1
  | g0 :: gs =>
    let g := gs.foldl (fun b g => if groupPeriod s g < groupPeriod s b then g else b) g0
    let n := s.get .BUDGET_N 0
    let known := (List.range n).any fun k => s.get .BUDGET_STK k == g
    let s := if known then s else (s.put .BUDGET_STK n g).put .BUDGET_N 0 (n + 1)
    let per := min 16000 (2 * groupPeriod s g)
    let s := setBudgetPeriod s g per
    postBudget ((s.put .BUDGET_ACT 0 1).put .BUDGET_OVER 0 0) g true per

def budgetRestore (s : State) : State :=
  let n := s.get .BUDGET_N 0
  if n = 0 then s
  else
    let g := s.get .BUDGET_STK (n - 1)
    let per := max (latentPeriod s g) (groupPeriod s g / 2)
    if 16 * gdEstimate s g per ≤ 15 * (s.dv .GD_BUDGET 0 : Int) then
      let done := decide (per ≤ latentPeriod s g)
      let s := setBudgetPeriod s g (if done then 0 else per)
      let s := if done then s.put .BUDGET_N 0 (n - 1) else s
      postBudget (s.put .BUDGET_ACT 0 (b2n (s.get .BUDGET_N 0 != 0))) g false per
    else s

/-- BUDGET_EVALUATION, every 10 ms. -/
def budgetEvaluation (s : State) : State :=
  let s := (List.range 32).foldl (fun a p => a.develop .QG_NC p) (s.develop .GD_BUDGET 0)
  let est := gdEstimate s 16 0
  let s := s.put .GD_EST 0 (min 0xFFFF est.toNat)
  if (s.dv .GD_BUDGET 0 : Int) < est then budgetLengthen s
  else
    let s := s.put .BUDGET_OVER 0 0
    if 16 * est ≤ 15 * (s.dv .GD_BUDGET 0 : Int) then budgetRestore s else s

end Sys2Proof.Machine
end

