-- ==== Sys2Proof/Machine/Health.lean ====
section
/-! DEFINITION. The supervisor's engines: deadlines, the spare pool, test strips, votes, migrations and dead engines
(R30 to R33, R100 to R103, R373 to R384). -/

namespace Sys2Proof.Machine

/-! ## The choice of a spare (R101) -/

/-- Slots of non-zero kind that a domain's engines host. -/
def activeAxes (s : State) (d : Nat) : Nat :=
  (idsWhere 8 fun i => s.kind i != 0 && decide (s.get .SLOT_ENGINE i < 10) && engineDomain (s.get .SLOT_ENGINE i) == d).length

/-- The supervisor's choice of a spare that runs no BIST and is not excluded. -/
def chooseSpare (s : State) (excl : List Nat) : Option Nat :=
  let usable := (List.range 10).filter fun e => inPool s e && !s.flag .ENG_BIST e && !excl.contains e
  let fewer := if activeAxes s 4 < activeAxes s 5 then some 4 else if activeAxes s 5 < activeAxes s 4 then some 5 else none
  match fewer with
  | none => usable.head?
  | some d => match usable.filter fun e => engineDomain e == d with
    | e :: _ => some e
    | [] => usable.head?

def liveSpares (s : State) : Nat := ((List.range 10).filter fun e => inPool s e && !s.flag .ENG_BIST e).length

/-! ## Slack and deadlines (R30 to R33) -/

/-- The slack of an accepted post: flags of the degraded state, and its measure. -/
def takeSlack (s : State) (i : Nat) (slack : Int) : State :=
  let s := s.puti .SLACK_LAST i (satSigned 16 slack)
  let s := if slack < s.geti .SLACK_MIN i then s.puti .SLACK_MIN i (satSigned 16 slack) else s
  let guard : Int := s.dv .SLACK_GUARD i
  if slack < guard then
    let s := s.put .SLACK_GOOD i 0
    if s.flag .SLACK_LOW i then s
    else (((s.put .SLACK_LOW i 1).put .OBS_HALF i 1).put .SLACK_LOW_SEEN i 1).post 0x0100 0x1 i (ofSigned 32 slack)
  else s.put .SLACK_GOOD i (if slack < 2 * guard then 0 else min 256 (s.get .SLACK_GOOD i + 1))

/-- SLACK_FULL_RATE_RETURN. -/
def fullRate (s : State) (i : Nat) : State :=
  if 256 ≤ s.get .SLACK_GOOD i then (s.put .SLACK_LOW i 0).put .OBS_HALF i 0 else s

/-- The misses of the last millisecond (R33): the ticks of the last eight are kept, and MISS_WINDOW counts those among them
that lie within 1 ms of the present one, itself included. -/
def missTick (s : State) (i : Nat) : State :=
  let held := ((List.range (s.get .MISS_WINDOW i)).map fun k => s.get .MISS_TICK (8 * i + k)).filter fun t => decide (s.ts ≤ t + ticksPerMs)
  let all := (s.ts :: held).take 8
  (all.zipIdx.foldl (fun a x => a.put .MISS_TICK (8 * i + x.2) x.1) s).put .MISS_WINDOW i all.length

/-- A deadline miss: counted, posted and kept for the supervisor's windows. -/
def deadlineMiss (s : State) (i : Nat) (slack : Int) : State :=
  let s := s.count .DEADLINE_MISS i
  let s := s.post 0x0101 0x1 i (min 0xFFFF (absN slack) + s.get .DEADLINE_MISS i * 65536)
  missTick (s.put .MISS_RUN i (min 2 (s.get .MISS_RUN i + 1))) i

/-! ## Dead engines (R383, R384) -/

/-- An engine is declared dead: 1 lost vote, 2 BIST failed. A second loss since reset is final. -/
def engineDead (s : State) (e why : Nat) : State :=
  let again := decide (1 ≤ s.get .ENG_LOST e)
  let s := s.put .ENG_LOST e (min 2 (s.get .ENG_LOST e + 1))
  let s := if why = 1 then s.setBit .VOTE_LOST_MAP 0 e true else s
  let s := ((s.setBit .DEAD_MAP 0 e true).count .ENG_DEAD 0).put .ENG_BIST e (if why = 1 then 1 else 0)
  let arg := e + (if again then 3 else why) * 256
  let s := s.post 0x0D01 0x0 noSlot arg
  refreshEngines (absorb s 1 0x0D01 0xFF arg)

def startBist (s : State) (e : Nat) : State := refreshEngines (s.put .ENG_BIST e 1)

/-! ## Migration (R378 to R380) -/

/-- The 2 ms rule of a slot's epoch. -/
def slotEpochFree (s : State) (i : Nat) : Bool := !s.flag .EPOCH_MOVED i || decide (s.get .EPOCH_TICK i + 2 * ticksPerMs ≤ s.ts)

/-- A migration is decided. `kills` tells why and what becomes of the old engine: 0 a command or an engine domain that goes
off, 1 a lost vote (dead), 2 presumed faulty (BIST), 3 deadline misses. From 1 on the takeover is an absorbed failure
(R10, R372). -/
def wantMigration (s : State) (i target kills : Nat) : State :=
  ((s.put .MIG_WANT i 1).put .MIG_TARGET i target).put .MIG_KILLS i kills

/-- MIGRATE: refused without a live spare or for kind 0x00. -/
def migrateSlot (s : State) (i : Nat) : State × Bool :=
  if s.kind i = 0 ∨ (chooseSpare s []).isNone then (s.put .MIG_REJ 0 1, false) else (wantMigration s i noEngine 0, true)

/-- MIGRATE of every slot of a mask: refused for each that has no spare or no kind. -/
def migrateMask (s : State) (mask : Nat) : State × Bool :=
  (List.range 8).foldl (fun r i => if bit mask i then
    let (a, ok) := migrateSlot r.1 i
    (a, r.2 && ok) else r) (s, true)

/-- A new engine starts from the slot register file (R380): a regulated slot has a window-only period, and its source goes on
after it. -/
def coldStart (s : State) (i : Nat) : State :=
  let s := (components s i).foldl (fun a w => a.clearAll [.W_X, .W_IPRED, .W_REF] (comp i w)) s
  let s := if regulated s i then (s.put .WINDOW_ONLY i 1).put .MODE_RESUME i 2 else s
  (homingAbort s i).count .COLD_TAKE 0

/-- The target of a decided migration: a live shadow of the slot first, else the choice of R101. -/
def migrationTarget (s : State) (i : Nat) : Option Nat :=
  let sh := s.get .STRIP_ENG 0
  let t := s.get .MIG_TARGET i
  if t < 10 ∧ inPool s t then some t
  else if s.flag .STRIP_ACTIVE 0 ∧ s.get .STRIP_SLOT 0 = i ∧ inPool s sh then some sh
  else chooseSpare s []

/-- MIGRATION_CUTOVER, at a period start of the slot's group, or at a status tick while it is disabled. -/
def migrationCutover (s : State) (i : Nat) : State :=
  if ¬ s.flag .MIG_WANT i ∨ ¬ slotEpochFree s i then s
  else match migrationTarget s i with
  | none => s
  | some e =>
    let old := s.get .SLOT_ENGINE i
    let cold := s.flag .MIG_COLD i
    let kills := s.get .MIG_KILLS i
    let s := if inStrip s e then stripEnd s else stripCancel s i
    let s := probeAbort s i
    let s := (((s.countWrap .SLOT_EPOCH i).put .EPOCH_TICK i s.ts).put .EPOCH_MOVED i 1).put .CYC_END i 0
    let s := ((s.put .SLOT_ENGINE i e).clearAll [.MIG_WANT, .MIG_TARGET, .MIG_COLD, .MIG_KILLS] i).count .MIGRATIONS 0
    let s := s.clearAll [.MISS_RUN, .MISS_WINDOW, .SLACK_GOOD] i
    let arg := old + e * 16 + s.get .SLOT_EPOCH i * 256 + b2n cold * 4096
    let s := refreshEngines (s.post 0x0D02 0x0 i arg)
    let s := if cold then coldStart s i else s
    let s := if cold ∨ 2 ≤ kills then absorb s 1 0x0D02 i arg else s
    if old < 10 then (if kills = 1 then engineDead s old 1 else if kills = 2 then startBist s old else s) else s

/-- COLD_TAKEOVER: the old engine's state cannot be read; the decided migration starts from the register file. -/
def coldTakeover (s : State) (i : Nat) : State := if s.flag .MIG_WANT i then s.put .MIG_COLD i 1 else s

/-- DEADLINE_MISS_MIGRATION; with no live spare the slot takes cause 0x13 (R377). -/
def missMigration (s : State) (i : Nat) : State :=
  if s.get .MISS_WINDOW i < 8 ∨ s.flag .MIG_WANT i then s
  else
    let s := s.put .MISS_WINDOW i 0
    if (chooseSpare s []).isSome then wantMigration s i noEngine 3 else plannedFault s i 0x13 (s.get .STOP_DEC i)

/-- NO_POST_PORTS_OFF (R377). -/
def noPostOff (s : State) (i : Nat) : State :=
  if 16 ≤ s.get .NO_POST_RUN i ∧ s.get .SPARE_MAP 0 = 0 then
    let s := slotPortsOff s i
    judgeFaultn (if s.drive i = dsFaultReaction then driveDown s i dsFault else s)
  else s

/-! ## Test strips (R373 to R377) -/

/-- A strip of a slot, with a shadow and, where two spares live, a voter. -/
def stripBegin (s : State) (i : Nat) : State :=
  match chooseSpare s [] with
  | none => s
  | some sh =>
    let voter := (chooseSpare s [sh]).getD noEngine
    let s := ((s.put .STRIP_ACTIVE 0 1).put .STRIP_SLOT 0 i).put .STRIP_LAST 0 s.ts
    let s := (s.put .STRIP_ENG 0 sh).put .STRIP_ENG 1 voter
    refreshEngines ((s.put .STRIP_CYCLES 0 0).put .STRIP_VOTE 0 0)

def stripFits (s : State) (i : Nat) : Bool := s.opEnabled i && !s.flag .MIG_WANT i

/-- TEST_STRIP_START: every STRIP_INT, on the next slot that fits. -/
def stripStart (s : State) : State :=
  let n := s.get .STRIP_INT 0
  if n = 0 ∨ s.flag .STRIP_ACTIVE 0 ∨ s.ts < s.get .STRIP_LAST 0 + n * ticksPerMs then s
  else
    let order := (List.range 8).map fun k => (s.get .STRIP_NEXT 0 + k) % 8
    match order.find? (stripFits s), chooseSpare s [] with
    | some i, some _ => stripBegin (s.put .STRIP_NEXT 0 (i + 1)) i
    | _, _ => s.put .STRIP_LAST 0 s.ts

/-- DEADLINE_MISS_STRIP. -/
def missStrip (s : State) (i : Nat) : State :=
  if s.get .MISS_RUN i < 2 ∨ s.flag .STRIP_ACTIVE 0 ∨ !stripFits s i then s else stripBegin (s.put .MISS_RUN i 0) i

/-- A mismatch in cycle `k`, 41 for the digest. A lone spare runs BIST first. -/
def stripMismatch (s : State) (k : Nat) : State :=
  let i := s.get .STRIP_SLOT 0
  let s := (s.count .STRIP_MISMATCH 0).put .STRIP_BAD_CYCLE 0 k
  let s := s.post 0x0D00 0x0 i (s.get .SLOT_ENGINE i + s.get .STRIP_ENG 0 * 16 + k * 256)
  if s.get .STRIP_ENG 1 = noEngine then startBist (s.put .STRIP_VOTE 0 2) (s.get .STRIP_ENG 0) else s.put .STRIP_VOTE 0 1

/-- One compared cycle; `differs` is the comparator's finding. -/
def stripCycle (s : State) (i : Nat) (differs : Bool) : State :=
  if ¬ s.flag .STRIP_ACTIVE 0 ∨ s.get .STRIP_SLOT 0 ≠ i ∨ s.get .STRIP_VOTE 0 ≠ 0 ∨ 40 ≤ s.get .STRIP_CYCLES 0 then s
  else
    let s := s.put .STRIP_CYCLES 0 (s.get .STRIP_CYCLES 0 + 1)
    if differs then stripMismatch s (s.get .STRIP_CYCLES 0) else s

/-- STRIP_COMPLETE: the digests of the two states after cycle 40. -/
def stripComplete (s : State) (equal : Bool) : State :=
  if ¬ s.flag .STRIP_ACTIVE 0 ∨ s.get .STRIP_VOTE 0 ≠ 0 ∨ s.get .STRIP_CYCLES 0 < 40 then s
  else if equal then stripEnd (s.countWrap .STRIP_RUN 0) else stripMismatch s 41

/-- VOTE_REPLAY_DONE: the voter agrees with the shadow (0), the active engine (1) or neither. -/
def voteDone (s : State) (v : Nat) : State :=
  if ¬ s.flag .STRIP_ACTIVE 0 ∨ s.get .STRIP_VOTE 0 ≠ 1 then s
  else
    let i := s.get .STRIP_SLOT 0
    let sh := s.get .STRIP_ENG 0
    let vo := s.get .STRIP_ENG 1
    let s := stripEnd s
    if v = 0 then wantMigration s i sh 1
    else if v = 1 then engineDead s sh 1
    else
      let s := (s.count .VOTE_SPLIT 0).post 0x0D04 0x0 i (s.get .SLOT_ENGINE i + sh * 16 + vo * 256)
      startBist (startBist s sh) vo

/-- ENGINE_BIST_DONE. -/
def bistDone (s : State) (e : Nat) (pass : Bool) : State :=
  if ¬ s.flag .ENG_BIST e then s
  else
    let lone := s.flag .STRIP_ACTIVE 0 && s.get .STRIP_VOTE 0 == 2 && s.get .STRIP_ENG 0 == e
    let s := s.put .ENG_BIST e 0
    if lone then
      let i := s.get .STRIP_SLOT 0
      let s := stripEnd s
      if pass then wantMigration s i e 2 else engineDead s e 2
    else if isDead s e then
      if pass ∧ s.get .ENG_LOST e < 2 then refreshEngines ((s.setBit .DEAD_MAP 0 e false).post 0x0D03 0x0 noSlot e)
      else if pass then refreshEngines s
      else refreshEngines (s.put .ENG_LOST e 2)
    else if pass then refreshEngines s
    else engineDead s e 2

end Sys2Proof.Machine
end

