-- ==== Sys2Proof/Machine/PortMap.lean ====
section
/-! DEFINITION. The port map: checks, sets that develop together, and what a develop does to a slot (R89 to R98). -/

namespace Sys2Proof.Machine

/-! ## The checks of R94 -/

def kindFuncs (k : Nat) : List Nat := if k = 1 then [0, 1, 2, 3] else if k = 2 ∨ k = 3 then [4, 5, 6] else []

/-- Ports of slot `i` in the latent map. -/
def latentPorts (s : State) (i : Nat) : List Nat := idsWhere 32 fun p => roleOwner (s.get .PORT_ROLE p) == i

def latentOwner (s : State) (p : Nat) : Nat := roleOwner (s.get .PORT_ROLE p)

def latentFunc (s : State) (p : Nat) : Nat := roleFunc (s.get .PORT_ROLE p)

def latentKind (s : State) (i : Nat) : Nat := s.get .SLOT_KIND i

/-- A reserved OWNER or FUNC code (R92). -/
def roleReserved (r : Nat) : Bool :=
  let o := roleOwner r
  let f := roleFunc r
  if o < 8 then decide (7 ≤ f) else if o = 0xE ∨ o = 0xF then f != 0 else true

/-- The latent group of an axis: that of its lowest-numbered port in the new map. -/
def latentGroup (s : State) (i : Nat) : Nat := s.get .GROUP ((latentPorts s i).headD 0)

/-- Port of slot `i` with function `f` in the latent map. -/
def latentPortOf (s : State) (i f : Nat) : Nat := ((latentPorts s i).find? fun p => latentFunc s p == f).getD 0

/-- Ports of a split winding of a two-phase slot: lower and higher port. -/
def splitWindings (s : State) : List (Nat × Nat × Nat) :=
  ((List.range 8).filter fun i => latentKind s i == 1).flatMap fun i =>
    [(0, 1), (2, 3)].filterMap fun w =>
      let a := latentPortOf s i w.1
      let b := latentPortOf s i w.2
      if a / 8 = b / 8 then none else some (min a b, max a b, i)

/-- Slots that leave kind 0x00, and slots that take it. -/
def leaving (s : State) : List Nat := idsWhere 8 fun i => s.kind i == 0 && latentKind s i != 0

def joining (s : State) : List Nat := idsWhere 8 fun i => s.kind i != 0 && latentKind s i == 0

/-- Whether a slot that takes kind 0x00 hands a usable engine to the pool. -/
def handsEngine (s : State) (i : Nat) : Bool :=
  let e := s.get .SLOT_ENGINE i
  decide (e < 10) && !isDead s e && s.getBit .DOM_ON 0 (engineDomain e) && !s.getBit .DOM_LEAVING 0 (engineDomain e) && !s.flag .ENG_BIST e

/-- Code, port and slot of the first check that fails; code 0 where none does. -/
def mapCheck (s : State) : Nat × Nat × Nat :=
  let ports := List.range 32
  match ports.find? fun p => roleReserved (s.get .PORT_ROLE p) with
  | some p => (0x10, p, if latentOwner s p < 8 then latentOwner s p else 0xFF)
  | none =>
  match ports.find? fun p => decide (latentOwner s p < 8) && latentKind s (latentOwner s p) == 0 with
  | some p => (0x11, p, latentOwner s p)
  | none =>
  match ports.find? fun p => decide (latentOwner s p < 8) && !(kindFuncs (latentKind s (latentOwner s p))).contains (latentFunc s p) with
  | some p => (0x12, p, latentOwner s p)
  | none =>
  match (List.range 8).find? fun i => latentKind s i != 0 &&
      !((latentPorts s i).length == (kindFuncs (latentKind s i)).length &&
        (kindFuncs (latentKind s i)).all fun f => (latentPorts s i).any fun p => latentFunc s p == f) with
  | some i => (0x13, 0xFF, i)
  | none =>
  match splitWindings s with
  | w :: ws =>
    let m := ws.foldl (fun b x => if x.1 < b.1 then x else b) w
    (0x14, m.2.1, m.2.2)
  | [] =>
  match (List.range 8).findSome? fun i =>
      if latentKind s i = 2 ∨ latentKind s i = 3 then
        ((latentPorts s i).find? fun p => p / 8 != (latentPorts s i).headD 0 / 8).map fun p => (p, i)
      else none with
  | some (p, i) => (0x15, p, i)
  | none =>
  match (List.range 16).find? fun k =>
      let a := latentOwner s (2 * k)
      let b := latentOwner s (2 * k + 1)
      decide (a < 8 ∧ b < 8 ∧ a ≠ b) && latentGroup s a != latentGroup s b with
  | some k => (0x16, 2 * k + 1, latentOwner s (2 * k + 1))
  | none =>
    let avail := liveSpares s + ((joining s).filter (handsEngine s)).length
    match (leaving s).drop avail with
    | i :: _ => (0x17, 0xFF, i)
    | [] => (0, 0xFF, 0xFF)

/-! ## Sets (R96) -/

def acceptedOwner (s : State) (p : Nat) : Nat := roleOwner (s.get .MAP_ROLE p)

/-- A port whose byte in the accepted map has not developed. -/
def portWaits (s : State) (p : Nat) : Bool := s.get .MAP_ROLE p != s.get .PORT_ROLE_DEV p

/-- A slot of whose ports or kind something has not developed. -/
def slotWaits (s : State) (i : Nat) : Bool :=
  s.get .MAP_KIND i != s.kind i || (List.range 32).any fun p => portWaits s p && (s.portOwner p == i || acceptedOwner s p == i)

/-- One step of collecting the slots that share a waiting port. -/
def growSet (s : State) (l : List Nat) : List Nat := idsWhere 8 fun j =>
  l.contains j || (List.range 32).any fun p => portWaits s p &&
    ((l.contains (s.portOwner p) && acceptedOwner s p == j) || (l.contains (acceptedOwner s p) && s.portOwner p == j))

/-- The slots of the set of slot `i`. -/
def setOf (s : State) (i : Nat) : List Nat := (List.range 8).foldl (fun l _ => growSet s l) [i]

/-- The waiting ports of a set of slots. -/
def setPorts (s : State) (l : List Nat) : List Nat :=
  idsWhere 32 fun p => portWaits s p && (l.contains (s.portOwner p) || l.contains (acceptedOwner s p))

/-- PORTMAP_STAT after a change of what waits. -/
def mapStatus (s : State) : State :=
  let wait := maskOf 8 (slotWaits s)
  let waitX := maskOf 32 (portWaits s)
  let s := (s.put .MAP_WAIT 0 wait).put .MAP_WAIT_X 0 waitX
  if s.get .MAP_CODE 0 ≤ 1 then s.put .MAP_CODE 0 (if wait = 0 ∧ waitX = 0 then 0 else 1) else s

/-- PORTMAP_APPLY: the waiting sets of an older map are dropped and the latent map is checked as a whole. -/
def portmapApply (s : State) : State :=
  let (code, port, slot) := mapCheck s
  let s := (List.range 32).foldl (fun a p => a.put .MAP_ROLE p (a.get .PORT_ROLE_DEV p)) s
  let s := (List.range 8).foldl (fun a i => a.put .MAP_KIND i (a.kind i)) s
  let s := ((s.put .MAP_CODE 0 code).put .MAP_PORT 0 port).put .MAP_SLOT 0 slot
  if code ≠ 0 then mapStatus s
  else
    let s := (List.range 32).foldl (fun a p => a.put .MAP_ROLE p (a.get .PORT_ROLE p)) s
    let s := (List.range 8).foldl (fun a i => (a.put .MAP_KIND i (latentKind a i)).put .MAP_GROUP i (latentGroup a i)) s
    mapStatus s

/-! ## Develop of a set (R97) -/

/-- Motion state of a slot beside its parameters. -/
def motionStateRegs : List Reg :=
  [.EV_P, .EV_V, .EV_T, .OUT_P, .OUT_V, .HOME_SHIFT, .STALL_STAND, .TAIL_P, .TAIL_V, .SEG_DISCARDING, .ARRIVAL, .GO_SEEN, .GO_START,
   .AHEAD_ARMED, .VEL_POSTED, .SOFT_IN, .STILL_CMD, .TGT_P, .TGT_SET, .TGT_NEW, .MODE_ENTRY, .LIM_PLAN, .SP_FULL, .SP_P, .SP_V, .SP_ACK, .DEFER_POSTED,
   .PASS_V, .STOP_RATE, .STOP_REQ, .STOP_REQ_RATE, .STOP_REQ_SCURVE, .AFTER_STOP, .TR_SINCE, .TR_IN, .TARGET_REACHED,
   .CH_STATE, .CH_TARGET, .CH_PREV, .CH_PENDING, .CH_FRESH, .CH_MISSED, .CH_ADJUST, .CH_STOP, .HM_METHOD, .HM_DIR, .HM_START,
   .HM_TAKEN, .HM_REF, .HM_MOVING_BACK, .HM_LIMITED, .HM_REQ, .SF_CREF, .SF_PREF, .SF_LAG, .POS_CMD, .VEL_CMD, .SEG_STATE,
   .PLAN_STATE, .HOME_STATE, .HOMED, .SF_STATE]

/-- Regulator state of a slot. -/
def regulatorRegs : List Reg :=
  [.HD_COUNT, .HD_LOW, .HD_PEAK, .WINDOWED, .WINDOW_ONLY, .HOLD_SINCE, .RAMP_SINCE, .I_BASE, .ADAPT_FALL, .ADAPT_FACT, .BL_Y, .I_Q,
   .HALL_THETA, .HALL_TICK, .HALL_SECT, .REG_STAT]

def windingRegs : List Reg :=
  [.W_X, .W_E, .W_IPRED, .W_REF, .W_MEAS, .W_VAPP, .W_VNEXT, .W_SAT, .W_UNSAT, .W_MISS, .W_OPEN, .W_SUM, .W_SUMVAL, .W_OPRED,
   .W_INJNEXT, .W_INJAPP, .W_IRESP, .W_RADD, .W_I0]

/-- A slot whose kind or ports change resets its motion state, its observer estimates and its regulator state. -/
def slotRestart (s : State) (i : Nat) : State :=
  let s := (s.clearAll motionStateRegs i).setMo i Motion.initial
  let s := s.clearAll regulatorRegs i
  let s := (components s i).foldl (fun a w => a.clearAll windingRegs (comp i w)) s
  observerReset s i

/-- Engines of a set: slots of new kind 0x00 hand theirs over, then slots that leave it choose one. `none` where a
slot finds no engine. Kinds develop after all the choices, so that a slot which has just taken an engine counts as no active
axis for the next choice of the same handshake (log entry 98). -/
def setEngines (s : State) (l : List Nat) : Option State :=
  let give := l.filter fun i => s.kind i != 0 && s.get .MAP_KIND i == 0
  let take := l.filter fun i => s.kind i == 0 && s.get .MAP_KIND i != 0
  let s := give.foldl (fun a i => (a.put .SLOT_ENGINE i noEngine).putBoth .SLOT_KIND i (a.get .SLOT_KIND i)) s
  take.foldl (fun o i => o.bind fun a => (chooseSpare a []).map fun e => a.put .SLOT_ENGINE i e) (some s)

/-- The slot's ports take its group of the accepted map. Every port of a group runs its PERIOD: a window that does not fit it is
reported and stays in force (R191; log entry 99). -/
def takeGroup (s : State) (i : Nat) : State :=
  let g := s.get .MAP_GROUP i
  let s := (s.slotPorts i).foldl (fun a p => if a.dv .GROUP p = g then a.put .GROUP p g else joinGroup (a.put .GROUP p g) p) s
  let s := putWindow s i
  if s.kind i = 0 ∨ groupCheck s i = 0 then s else rejectWindow s i (groupCheck s i)

/-- What happens to one slot of a set. -/
def slotDevelop (s : State) (i : Nat) : State :=
  let kind := s.get .MAP_KIND i
  let s := slotRestart s i
  let s := s.putDev .SLOT_KIND i kind
  let m := toSigned 8 (s.get .MODE i)
  let s := if modeSupported kind m then s else (s.put .MODE i 0).put .MODE_DISP i 0
  let s := takeGroup s i
  let split := kind == 1 && (s.slotPorts i).any fun p => p / 8 != s.firstPort i / 8
  s.setBit .BANK_SPLIT 0 i split

/-- The conditions of R96 for a set. -/
def setReady (s : State) (slots ports : List Nat) : Bool :=
  slots.all s.slotDisabled && ports.all (fun p => !(s.isX p && s.flag .PWM_EN p))

/-- The develop of a set of slots and ports in one handshake; `s'` already holds the engines. -/
def setDevelop (s : State) (slots ports : List Nat) : State :=
  if ¬ setReady s slots ports then s
  else match setEngines s slots with
  | none => s
  | some a =>
    let a := ports.foldl (fun b p =>
      let b := portOff b p
      let b := b.put .PORT_ROLE_DEV p (b.get .MAP_ROLE p)
      (b.put .DDIE_ROLE p (b.get .MAP_ROLE p)).put .X_HELD p 0) a
    let a := slots.foldl slotDevelop a
    mapStatus (refreshEngines a)

/-- PORTMAP_SET_DEVELOP of the set of slot `n`, or of port `n - 8` where no slot is concerned. -/
def portmapSet (s : State) (n : Nat) : State :=
  if n < 8 then
    if slotWaits s n then setDevelop s (setOf s n) (setPorts s (setOf s n)) else s
  else
    let p := n - 8
    if portWaits s p ∧ 8 ≤ s.portOwner p ∧ 8 ≤ acceptedOwner s p then setDevelop s [] [p] else s

end Sys2Proof.Machine
end

