-- ==== Sys2Proof/Machine/Power.lean ====
section
/-! DEFINITION. Fabric and power: tags, epochs, the scrubber, power domains and their restarts, the timebase and its
delay line (R38 to R44, R55, R56, R60 to R65, R385, R481, R482). -/

namespace Sys2Proof.Machine

/-! ## Tags (R38, R39) -/

/-- Tags for general requests. -/
def generalTags : Nat := 56

def countTags (s : State) : State :=
  let s := s.put .TAGS_INFLIGHT 0 ((idsWhere 64 (s.flag .TAG_BUSY)).length)
  s.put .TAGS_QUAR 0 ((idsWhere 64 (s.flag .TAG_QUARANTINE)).length)

/-- Issuing a general request to the helper of domain `d`, or waiting for a tag. -/
def issueTag (s : State) (d : Nat) : State :=
  match (List.range generalTags).find? fun k => !s.flag .TAG_BUSY k && !s.flag .TAG_QUARANTINE k with
  | some k =>
    countTags ((((s.put .TAG_BUSY k 1).put .TAG_HELPER k d).put .TAG_SINCE k s.ts).put .TAG_EPOCH k (s.get .DOM_EPOCH d))
  | none => (s.count .TAG_WAIT 0).put .TAG_QUEUE d (s.get .TAG_QUEUE d + 1)

/-- TAG_WAIT_RELEASE: a waiting request is issued when a tag frees. -/
def tagRelease (s : State) : State :=
  match (List.range 16).find? fun d => s.flag .TAG_QUEUE d,
    (List.range generalTags).find? fun k => !s.flag .TAG_BUSY k && !s.flag .TAG_QUARANTINE k with
  | some d, some _ => issueTag (s.put .TAG_QUEUE d (s.get .TAG_QUEUE d - 1)) d
  | _, _ => s

/-- HELPER_RESULT: a result with a stale epoch is dropped (R41); another frees its tag. -/
def helperResult (s : State) (k epoch : Nat) : State :=
  if epoch ≠ s.get .DOM_EPOCH (s.get .TAG_HELPER k) ∨ epoch ≠ s.get .TAG_EPOCH k then s.count .STALE_DROP 0
  else if s.flag .TAG_BUSY k then countTags (s.put .TAG_BUSY k 0) else s

/-! ## Which domains stay on (R56) -/

/-- An enabled slot. -/
def slotEnabled (s : State) (i : Nat) : Bool := !s.slotDisabled i

def anyEnabled (s : State) : Bool := (List.range 8).any (slotEnabled s)

def segmentModeInUse (s : State) : Bool := (List.range 8).any (isActive s)

/-- An enabled slot uses a converter of CADCA (`half` 0) or CADCB. -/
def convertersInUse (s : State) (half : Nat) : Bool :=
  (List.range 8).any fun i => slotEnabled s i && (s.slotPorts i).any fun p => p / 16 == half

/-- Whether motion keeps a domain on, under R56; the sequencer restarts only under R387. -/
def motionNeeds (s : State) (d : Nat) : Bool :=
  if d = 0 then true
  else if d = 1 ∨ d = 2 then anyEnabled s
  else if d = 3 then segmentModeInUse s
  else if d = 4 ∨ d = 5 then activeAxes s d != 0
  else if d = 6 then convertersInUse s 0
  else if d = 7 then convertersInUse s 1
  else false

/-! ## Domains off and on (R40, R481, R482) -/


def domEpochFree (s : State) (d : Nat) : Bool := s.get .DOM_EPOCH_TICK d = 0 || decide (s.get .DOM_EPOCH_TICK d + 2 * ticksPerMs ≤ s.ts)

/-- A tag's quarantine ends when the epoch of its helper has advanced (R39). -/
def domEpochAdvance (s : State) (d : Nat) : State :=
  let s := (s.countWrap .DOM_EPOCH d).put .DOM_EPOCH_TICK d s.ts
  countTags (s.each 64 (fun a k => a.flag .TAG_QUARANTINE k && a.get .TAG_HELPER k == d) fun a k => a.put .TAG_QUARANTINE k 0)

/-- The converters of a domain. -/
def domConverters (d : Nat) : List Nat :=
  if d = 6 then List.range 8 else if d = 7 then (List.range 8).map (· + 8) else if d = 8 then [16, 17] else []

/-- What a domain's absence means. -/
def domainOff (s : State) (d : Nat) : State :=
  let s := s.setBit .DOM_ON 0 d false
  let s := (domConverters d).foldl (fun a c =>
    ((a.put .CONV_STATE c convDomainOff).put .CONV_BUSY c busyNone).put .CONV_CAL c 0) s
  if d = 4 ∨ d = 5 then
    let gone (e : Nat) : Bool := engineDomain e == d
    let s := if s.flag .STRIP_ACTIVE 0 ∧ (gone (s.get .STRIP_ENG 0) ∨ gone (s.get .STRIP_ENG 1)) then stripEnd s else s
    refreshEngines s
  else s

/-- A domain is back: its epoch has advanced, queues of SRAM1 are empty, engines run BIST before they join. -/
def domainOn (s : State) (d : Nat) : State :=
  let s := domEpochAdvance (s.setBit .DOM_ON 0 d true) d
  let s := (domConverters d).foldl convDomainBack s
  if d = 3 then (List.range 8).foldl (fun a q => ((a.put .QRD q 0).put .QWR q 0).put .QLEVEL q 0) s
  else if d = 4 ∨ d = 5 then
    refreshEngines ((List.range 10).foldl (fun a e => if engineDomain e = d ∧ !isDead a e then a.put .ENG_BIST e 1 else a) s)
  else s

/-- A refused domain request. -/
def domainRefuse (s : State) (d : Nat) : State :=
  ((s.put .DOM_REJ 0 1).put .DOM_REJ_CODE 0 d).record 0x08 (Config.otherRefusal 0x2002) 0 (0x2002 * 65536 + 2) d

/-- Spares of the other engine domain, for emptying a domain (R103). -/
def otherSpares (s : State) (d : Nat) : List Nat := (List.range 10).filter fun e => inPool s e && !s.flag .ENG_BIST e && engineDomain e != d

/-- Off allowed (R56, R482). -/
def offAllowed (s : State) (d : Nat) : Bool :=
  if d ≤ 2 then false
  else if d = 3 then !segmentModeInUse s
  else if d = 4 ∨ d = 5 then decide (activeAxes s d ≤ (otherSpares s d).length)
  else if d = 6 then !convertersInUse s 0
  else if d = 7 then !convertersInUse s 1
  else if d = 8 then (List.range 8).all s.slotDisabled
  else if d = 9 then s.get .DOM_REQ_PATH 0 == 0
  else if d = 10 then !s.flag .LINK_EN 0
  else !s.flag .SESS_OPEN 0 && s.sec.upload.isNone && s.sec.challenge.isNone

/-- Emptying an engine domain: each of its slots migrates to a spare of the other one. -/
def emptyEngines (s : State) (d : Nat) : State :=
  let slots := idsWhere 8 fun i => decide (s.get .SLOT_ENGINE i < 10) && engineDomain (s.get .SLOT_ENGINE i) == d && s.kind i != 0
  (slots.zip (otherSpares s d)).foldl (fun a x => wantMigration a x.1 x.2 0) s

/-- Judging one changed bit of the request at a status tick. A request that is withdrawn before the domain has gone off
leaves it on (log entry 52). -/
def judgeDomain (s : State) (d : Nat) : State :=
  let off := s.getBit .DOM_OFF_REQ 0 d
  let was := bit (s.dv .DOM_OFF_REQ 0) d
  if off = was ∨ s.flag .DOM_RESTARTING d ∨ s.flag .DOM_RESTART_WAIT d then s
  else
    let s := s.putDev .DOM_OFF_REQ 0 (setBit (s.dv .DOM_OFF_REQ 0) d off)
    if off then
      if !s.getBit .DOM_ON 0 d then s
      else if !offAllowed s d then domainRefuse s d
      else
        let s := (s.setBit .DOM_BUSY 0 d true).setBit .DOM_LEAVING 0 d true
        if d = 4 ∨ d = 5 then refreshEngines (emptyEngines s d) else s
    else if s.getBit .DOM_ON 0 d then
      let s := (s.setBit .DOM_BUSY 0 d false).setBit .DOM_LEAVING 0 d false
      if d = 4 ∨ d = 5 then refreshEngines s else s
    else s.setBit .DOM_BUSY 0 d true

def domainTick (s : State) : State := (List.range 12).foldl judgeDomain s

/-- DOMAIN_SWITCHED: the switch completes. A domain that motion has come to need since the request stays on, and the
request stands refused (R56, R481). -/
def domainSwitched (s : State) (d : Nat) : State :=
  if !s.getBit .DOM_BUSY 0 d then s
  else if s.getBit .DOM_LEAVING 0 d then
    if (d = 4 ∨ d = 5) ∧ activeAxes s d ≠ 0 then s
    else if !offAllowed s d then domainRefuse ((s.setBit .DOM_BUSY 0 d false).setBit .DOM_LEAVING 0 d false) d
    else
      let s := domainOff ((s.setBit .DOM_BUSY 0 d false).setBit .DOM_LEAVING 0 d false) d
      s.post 0x1101 0x0 noSlot d
  else if !domEpochFree s d then s
  else (domainOn (s.setBit .DOM_BUSY 0 d false) d).post 0x1101 0x0 noSlot (d + 256)

/-! ## Restarting a domain (R385) -/

/-- In-flight requests to a domain are reclaimed, to be reissued once when it is back. -/
def reclaimDomain (s : State) (d : Nat) : State :=
  countTags (s.each 64 (fun a k => a.flag .TAG_BUSY k && a.get .TAG_HELPER k == d) fun a k =>
    ((a.put .TAG_BUSY k 0).put .TAG_QUARANTINE k 1).put .TAG_QUEUE d (a.get .TAG_QUEUE d + 1))

def restartNow (s : State) (d : Nat) : State :=
  let s := ((s.put .DOM_RESTARTING d 1).put .DOM_RESTART_WAIT d 0).count .DOM_RESTARTS 0
  reclaimDomain (domainOff (s.post 0x0D07 0x0 noSlot d) d) d

/-- A restart by the supervisor or on command: refused while R56 keeps the domain on; it waits for the 2 ms rule. -/
def domainRestart (s : State) (d : Nat) : State × Bool :=
  if motionNeeds s d ∨ (d = 1 ∧ anyEnabled s) then (s.record 0x08 (Config.otherRefusal 0x2306) 0 (0x2306 * 65536) d, false)
  else if s.flag .DOM_RESTARTING d then (s, true)
  else if domEpochFree s d then (restartNow s d, true)
  else (s.put .DOM_RESTART_WAIT d 1, true)

/-- DOMAIN_RESTART_DONE. -/
def domainRestartDone (s : State) (d : Nat) : State :=
  if !s.flag .DOM_RESTARTING d then s
  else domainOn (s.put .DOM_RESTARTING d 0) d

/-- TAG_RECLAIM: after 1 ms without a result. Two against helpers of one domain within 1 s restart it. -/
def tagReclaim (s : State) (k : Nat) : State :=
  if !s.flag .TAG_BUSY k ∨ s.ts < s.get .TAG_SINCE k + ticksPerMs then s
  else
    let d := s.get .TAG_HELPER k
    let s := countTags (((s.put .TAG_BUSY k 0).put .TAG_QUARANTINE k 1).count .TAG_RECLAIM 0)
    let again := s.flag .RECLAIM_SEEN d && decide (s.ts ≤ s.get .RECLAIM_TICK d + ticksPerSecond)
    let s := (s.put .RECLAIM_SEEN d 1).put .RECLAIM_TICK d s.ts
    if again then (domainRestart (s.put .RECLAIM_SEEN d 0) d).1 else s


/-! ## The scrubber (R44) -/

/-- The queue other than a segment queue whose ring holds an address. -/
def queueOfAddr (s : State) (a : Nat) : Option Nat :=
  ((List.range 8).map (· + 8)).find? fun q => decide (s.qBase q ≤ a ∧ a < s.qBase q + s.qSize q * entryBytes q)

/-- Whether the ring entry at an address is held now. -/
def entryHeld (s : State) (q a : Nat) : Bool :=
  let k := (a - s.qBase q) / entryBytes q
  decide ((k + 2 * s.qSize q - s.get .QRD q) % s.qSize q < s.qFill q)

/-- A double-bit error at a word. `restart` restarts the sequencer. A held entry is dropped: the consumers in the device pass
over it, and software, which reads Q8 to Q11 in SRAM, learns of it by MEM_UNCORR (log entry 97). -/
def doubleError (restart : State → State) (s : State) (a : Nat) : State :=
  let s := { s.count .ECC_UNCORR 0 with eccBad := if s.eccBad.contains a then s.eccBad else s.eccBad ++ [a] }
  if a < 0x420000 then restart (s.post 0x0102 0x0 noSlot (trunc 24 a + 2 * 2 ^ 24))
  else if a < 0x440000 then
    match queueOfAddr s a with
    | some q =>
      if entryHeld s q a then
        let s := (s.count .QDROP q).post 0x0102 0x0 noSlot (trunc 24 a + 2 ^ 24)
        if q = 15 then pumpOut (s.passBad (s.qFill q) q) else if 12 ≤ q then s.passBad (s.qFill q) q else s
      else s
    | none => s
  else s

/-- SRAM_SCRUB: the words found with a single-bit and with a double-bit error. -/
def scrub (restart : State → State) (s : State) (single double : List Nat) : State :=
  double.foldl (doubleError restart) (s.countN .ECC_CORR 0 single.length)

/-! ## The timebase (R60 to R64) -/

/-- TIMEBASE_LOSS: TBCLK is gated off and every lane EN is forced to 0 (R62, R263); a D-die that already holds its bank
ignores EN (R58). The 1 ms of heartbeats before a release starts again (R59). -/
def timebaseLoss (s : State) (refOk pll : Bool) : State :=
  if !s.flag .TB_RUNNING 0 then s
  else
    let s := (s.put .TB_RUNNING 0 0).put .TB_LOSS_TICK 0 s.ts
    let s := (s.put .REF_OK 0 (b2n refOk)).put .PLL_LOCK 0 (b2n pll)
    let s := (List.range 4).foldl (fun a b => a.put .HB_GOOD b 0) s
    judgeFaultn (portsOff s ((List.range 32).filter fun p => !s.flag .HB_OUT (p / 8)))

/-- TIMEBASE_RESTART: the time-stamp continues where it stopped, carriers start together, quadrature channels fault
(R63, R264). `gap` is the RC oscillator's length of the gap in µs, `enc` the pin levels of the channels. -/
def timebaseRestart (s : State) (gap : Nat) (enc : List Nat) : State :=
  if s.flag .TB_RUNNING 0 ∨ !s.flag .TB_EVER 0 then s
  else
    let s := ((s.put .TB_RUNNING 0 1).put .REF_OK 0 1).put .PLL_LOCK 0 1
    let s := (((s.put .TB_LOST 0 1).count .TB_GAP 0).put .TB_GAP_US 0 (min 0xFFFF gap)).put .TB_RELOCK 0 0
    let s := s.post 0x0200 0x0 noSlot (min 0xFFFFFFFF gap)
    let s := carriersRestart s
    judgeFaultn ((List.range 8).foldl (fun a c => feedbackRestart a c (enc.getD c 0)) s)

/-- Every axis disabled and every X-port off. -/
def outputsIdle (s : State) : Bool :=
  (List.range 8).all s.slotDisabled && (List.range 32).all fun p => !(s.isX p && s.flag .PWM_EN p)

/-- TB_APPLY: develops TB_SRC and relocks, or is refused (R61). -/
def tbApply (s : State) : State × Bool :=
  if !outputsIdle s then (s.put .TB_APPLY_REJ 0 1, false)
  else
    let s := s.put .TB_SRC_ACT 0 (s.get .TB_SRC 0)
    if !s.flag .TB_EVER 0 then ((s.put .PLL_LOCK 0 0).put .REF_OK 0 0, true)
    else ((timebaseLoss s false false).put .TB_RELOCK 0 1, true)

/-! ## The delay line (R65) -/

/-- DELAYLINE_CALIBRATION: `elems` elements span one tick, or none can (0). -/
def delayLine (s : State) (elems : Nat) : State :=
  if !s.flag .TB_RUNNING 0 then s
  else if elems = 0 then
    let n := min 15 (s.get .DL_FAILS 0 + 1)
    let s := (s.put .DL_FAILS 0 n).put .DL_CAL_ERR 0 1
    let s := if 3 ≤ n then s.put .DL_COARSE 0 1 else s
    s.post 0x0201 0x0 noSlot (s.get .DL_ELEMS 0 + s.get .DL_COARSE 0 * 256 + n * 4096)
  else ((s.put .DL_FAILS 0 0).put .DL_COARSE 0 0).put .DL_ELEMS 0 elems

end Sys2Proof.Machine
end

