-- ==== Sys2Proof/Machine/Link.lean ====
section
/-! DEFINITION. The Baljan link on a manager and on a worker: enumeration, cycles, ring time, mirrors, accords and
sheets across the ring, broken segments, fences and rejoin (R393 to R413). -/

namespace Sys2Proof.Machine

/-! ## Codes -/

def linkOff : Nat := 0
def linkEnum : Nat := 1
def linkAligning : Nat := 2
def linkClosed : Nat := 3
def linkOpen : Nat := 4
def linkFenced : Nat := 5
def linkJoining : Nat := 6

def isManager (s : State) : Bool := s.flag .ROLE_ACT 0

/-- The link runs: RUN_CLOSED or RUN_OPEN. -/
def linkRuns (s : State) : Bool := s.get .LINK_STATE 0 == linkClosed || s.get .LINK_STATE 0 == linkOpen

/-- Positions of LINK_FLAGS. -/
def flagLaneDown : Nat := 0
def flagFenced : Nat := 1
def flagMapRej : Nat := 2
def flagTimeLost : Nat := 3
def flagSheet : Nat := 4

def setLinkFlag (s : State) (k : Nat) : State := s.setBit .LINK_FLAGS 0 k true

/-- Device states of R415. -/
def devAbsent : Nat := 0
def devRunning : Nat := 1
def devFenced : Nat := 2
def devJoining : Nat := 3

/-- Words of a code of AX_DN or AX_UP (R398). -/
def dnWords (code : Nat) : Nat := [0, 1, 2, 5].getD code 0
def upWords (code : Nat) : Nat := [0, 1, 2, 3].getD code 0

/-- Ring time of the present tick on this device. -/
def ringTime (s : State) : Nat := if isManager s then s.ts else (s.ts + s.get .RING_OFS 0) % 2 ^ 64

/-- Local tick of a ring time. -/
def toLocal (s : State) (t : Nat) : Nat := if isManager s then t else (t + 2 ^ 64 - s.get .RING_OFS 0) % 2 ^ 64

/-! ## Accords on this device (R127 to R129) -/

/-- Every local member of an accord holds a pending go; a replaced one is counted. -/
def accGive (s : State) (n t : Nat) : State :=
  s.each 8 (fun a i => a.getBit .ACC_MEMB n i) fun a i =>
    let a := if a.getBit .ACC_PEND n i then a.count .ACC_GO_LOST n else a
    ((a.setBit .ACC_PEND n i true).put .GO_T (n * 8 + i) t).put .GO_SEEN i 0

/-- 500 µs in ticks. -/
def ringLead : Nat := 80000

/-- A ring go waits to be carried; every device gives it when it comes. -/
def ringGo (s : State) (n t : Nat) : State := (s.put .RGO_PEND n 1).put .RGO_T n t

/-- A commit of ACC_GO_T: refused in gather mode, and on a ring accord when it is too near (R127, R406). -/
def accGo (s : State) (n t : Nat) : State × Bool :=
  if s.get .ACC_MODE n = 0 then (s, false)
  else if isManager s ∧ s.dv .ACC_RING n = 1 then
    if t < ringTime s + ringLead then (s, false) else (ringGo s n t, true)
  else (accGive s n t, true)

/-- Whether a change of an accord's members or mode is refused (R129, R406). -/
def accLocked (s : State) (n : Nat) : Bool :=
  s.get .ACC_WAITING n != 0 || s.get .ACC_PEND n != 0 || (!isManager s && linkRuns s && s.dv .ACC_RING n == 1)

/-! ## A SYNC at a slot (R151 to R155) -/

/-- A SYNC at tick `t` takes the developed target of a slot in mode 7, 8 or 9 into its chain. -/
def syncSlot (s : State) (i t : Nat) : State :=
  let m := s.modeOf i
  if s.drive i ≠ dsEnabled then s
  else if m = 8 then chainTarget s i t (s.geti .TARGET_POS i)
  else if m = 7 then chainTarget s i t (s.geti .IP_TARGET i)
  else if m = 9 then chainVelocity s i t (s.geti .TARGET_VEL i)
  else s

/-! ## Enumeration (R394) -/

/-- Words of the downstream and upstream parts of a worker. -/
def devWords (s : State) (d : Nat) : Nat × Nat :=
  (((List.range 8).map fun i => dnWords (s.get .RING_DN (8 * d + i))).sum, ((List.range 8).map fun i => upWords (s.get .RING_UP (8 * d + i))).sum)

def frameBytes (s : State) (size : Nat) : Nat :=
  116 + ((List.range (size - 1)).map fun k => 12 + 4 * ((devWords s (k + 1)).1 + (devWords s (k + 1)).2)).sum

def developLayout (s : State) : State :=
  (List.range 8).foldl (fun a i => ((a.develop .AX_DN i).develop .AX_UP i)) (s.develop .RING_EXPECT 0)

/-- The manager sends an enumeration frame in direction A under a new RING_ID. -/
def enumerate (s : State) : State :=
  let s := developLayout s
  let s := (s.put .RING_ID 0 (trunc 16 s.free)).freed
  let s := ((s.put .LINK_STATE 0 linkEnum).put .ENUM_OUT 0 1).put .ENUM_TICK 0 s.ts
  let s := (List.range 32).foldl (fun a d => a.put .DEV_STATE d devAbsent) ((s.put .RING_SIZE 0 0).put .RING_POS 0 0)
  s.send 3 2 ([2, 0] ++ leBytes 2 (s.get .RING_ID 0))

/-- LINK_ENUMERATION: LINK_EN has developed to 1 on the manager. -/
def linkEnumeration (s : State) : State :=
  if isManager s ∧ s.dflag .LINK_EN 0 ∧ s.get .LINK_STATE 0 = linkOff then enumerate s else s

/-- LINK_RESTART, on the manager only. -/
def linkRestart (s : State) : State := if isManager s ∧ s.dflag .LINK_EN 0 then enumerate s else s

def mapReject (s : State) (why : Nat) : State :=
  let s := (s.put .LINK_STATE 0 linkEnum).put .ENUM_OUT 0 0
  (setLinkFlag s flagMapRej).post 0x0E04 0x8 noSlot why

/-- A local slot whose configuration breaks reason 0x04. -/
def layoutBad (s : State) : Bool := (List.range 8).any fun i =>
  (s.dv .AX_DN i == 3 && s.dv .PRODUCER i != 3) || ((s.dv .AX_DN i != 0 || s.dv .AX_UP i != 0) && s.kind i == 0)

/-- What the enumeration frame brings back: each worker's eight pairs of codes, and, of each slot, whether its
configuration breaks reason 0x04. At ring start the manager's own axes take their part of each ring accord's members (R406;
log entry 99). -/
def enumReturn (s : State) (layouts : List (List (Nat × Nat))) (second badSlot : Bool) : State :=
  if !s.flag .ENUM_OUT 0 then s
  else
    let size := layouts.length + 1
    let s := layouts.zipIdx.foldl (fun a x =>
      x.1.zipIdx.foldl (fun b y => (b.put .RING_DN (8 * (x.2 + 1) + y.2) y.1.1).put .RING_UP (8 * (x.2 + 1) + y.2) y.1.2) a) s
    let expect := s.dv .RING_EXPECT 0
    if expect ≠ 0 ∧ expect ≠ size then mapReject s 1
    else if 1400 < frameBytes s size then mapReject s 2
    else if second then mapReject s 3
    else if badSlot || layoutBad s then mapReject s 4
    else
      let s := (((s.put .ENUM_OUT 0 0).put .RING_SIZE 0 size).put .FRAME_BYTES 0 (frameBytes s size)).put .LINK_STATE 0 linkClosed
      let s := s.each 8 (fun a n => a.dv .ACC_RING n == 1) fun a n => a.put .ACC_MEMB n (bits (a.get .ACC_RING_MEMB n) 0 8)
      (List.range (size - 1)).foldl (fun a k =>
        ((a.put .DEV_STATE (k + 1) devJoining).clearAll [.DEV_EPOCH, .DEV_MISS, .DEV_FENCED] (k + 1)).put .DEV_FRESH (k + 1) 1) s

/-- A worker takes the next ring position from the passing enumeration frame and forwards it. -/
def enumWorker (s : State) (position ringId : Nat) : State :=
  if !s.flag .LINK_EN 0 then s
  else
    let s := developLayout (s.develop .LINK_EN 0)
    let s := ((s.put .RING_POS 0 position).put .RING_ID 0 ringId).put .OWN_EPOCH 0 0
    let s := (s.put .LINK_STATE 0 linkAligning).clearAll [.LOCKED, .ALIGN_RUN, .OFS_SET] 0
    let codes := (List.range 8).map fun i => s.dv .AX_DN i + 16 * s.dv .AX_UP i
    s.send 3 2 ([2, 0] ++ leBytes 2 ringId ++ [position, b2n (layoutBad s)] ++ codes)

/-- ENUMERATION_TIMEOUT: no return within 1 ms. -/
def enumTimeout (s : State) : State :=
  if s.flag .ENUM_OUT 0 ∧ s.get .ENUM_TICK 0 + ticksPerMs ≤ s.ts then mapReject s 3 else s

/-! ## The manager's cycle (R395, R406 to R408) -/

/-- Device bits of an accord: whether every member device reports that its members wait. -/
def ringGathered (s : State) (n : Nat) : Bool :=
  let memb := s.get .ACC_RING_MEMB n
  let size := s.get .RING_SIZE 0
  memb != 0 && (List.range size).all fun d =>
    bits memb (8 * d) 8 == 0 ||
      (if d = 0 then s.get .ACC_MEMB n &&& s.get .ACC_WAITING n == s.get .ACC_MEMB n else bit (s.get .DEV_UP d) (16 + n))

/-- Gather of a ring accord: t_go from the ring start time of the first cycle at whose start all bits are set. -/
def ringGather (s : State) (tc : Nat) : State :=
  (List.range 8).foldl (fun a n =>
    if a.dv .ACC_RING n = 1 ∧ a.get .ACC_MODE n = 0 ∧ !a.flag .RGO_PEND n ∧ a.get .RGO_SEEN n < tc ∧ ringGathered a n then
      ringGo a n ((tc + max (a.get .ACC_LEAD n * ticksPerUs) ringLead + 159) / 160 * 160)
    else a) s

/-- A go starts to be carried once the three cycles of the one before have passed; accords with one t_go share it. -/
def goCarry (s : State) : State :=
  if s.get .GO_LEFT 0 ≠ 0 then s
  else match (List.range 8).find? (s.flag .RGO_PEND) with
  | none => s
  | some n =>
    let t := s.get .RGO_T n
    let map := maskOf 8 fun k => s.flag .RGO_PEND k && s.get .RGO_T k == t
    let s := ((s.put .GO_CARRY 0 map).put .GO_CARRY_T 0 t).put .GO_LEFT 0 3
    s.each 8 (fun _ k => bit map k) fun a k => accGive ((a.put .RGO_PEND k 0).put .RGO_SEEN k t) k t

/-- CTRL of a mirrored axis. -/
def ctrlWord (s : State) (g : Nat) (seg : Bool) : Nat := s.get .M_CW g + s.get .M_MODE g * 65536 + b2n seg * 2 ^ 24

/-- Downstream words of a worker. -/
def downWords (s : State) (d : Nat) : List Nat :=
  (List.range 8).flatMap fun i =>
    let g := 8 * d + i
    let code := s.get .RING_DN g
    if code = 0 then []
    else if code = 1 then [ctrlWord s g false]
    else if code = 2 then [ctrlWord s g false, s.get .M_TARGET g]
    else [ctrlWord s g (s.flag .M_SEG_SEND g), s.get .M_SEG_0 g, s.get .M_SEG_1 g, s.get .M_SEG_2 g, s.get .M_SEG_3 g]

/-- DN_CTRL of a worker: the epoch the manager holds, JOIN_ACK and FENCE. -/
def dnCtrl (s : State) (d : Nat) : Nat :=
  s.get .DEV_EPOCH d + b2n (s.get .DEV_STATE d == devJoining) * 16 + b2n (s.get .DEV_STATE d == devFenced) * 32

def withCrc (width n : Nat) (l : List Nat) : List Nat := l ++ leBytes n (Config.linkCrc width l)

/-- The bytes of the cycle frame as the manager sends it. -/
def cycleBytes (s : State) (goMap : Nat) (goValid : Bool) : List Nat :=
  let size := s.get .RING_SIZE 0
  let head := [1, size] ++ leBytes 2 (s.get .RING_ID 0) ++ leBytes 4 (s.get .CYC_NO 0) ++ leBytes 8 (s.get .CYC_TICK 0)
    ++ [goMap, b2n goValid + 2 * b2n (s.flag .RS_PEND 0 && decide (s.ts < s.get .RS_T 0)), if s.flag .TUN_BUSY 0 then s.get .TUNNEL_DEV 0 else 0xFF, s.get .MSG_GRANT 0]
    ++ leBytes 8 (s.get .GO_CARRY_T 0) ++ leBytes 8 (s.get .RS_T 0)
  let corr := List.replicate 7 0
  let down := withCrc 16 2 (leBytes 32 (if s.flag .TUN_BUSY 0 then s.get .TUN_MSG 0 else 0))
  withCrc 32 4 head ++ withCrc 8 1 corr ++ down ++ withCrc 16 2 (List.replicate 32 0) ++
    (List.range (size - 1)).flatMap fun k =>
      withCrc 16 2 (leBytes 4 (dnCtrl s (k + 1)) ++ (downWords s (k + 1)).flatMap (leBytes 4))
        ++ List.replicate (6 + 4 * (devWords s (k + 1)).2) 0

/-- The next device with MSG_REQ in turn. -/
def nextGrant (s : State) : Nat :=
  let from0 := if s.get .MSG_GRANT 0 = 0xFF then 0 else s.get .MSG_GRANT 0
  (((List.range 31).map fun k => (from0 + k) % 31 + 1).find? fun d =>
    s.get .DEV_STATE d == devRunning && bit (s.get .DEV_UP d) 7).getD 0xFF

/-- Upstream words of a slot (R398). -/
def upSlot (s : State) (i : Nat) : List Nat :=
  let code := s.dv .AX_UP i
  let stat := statusword s i + s.get .MODE_DISP i * 65536 + s.get .RESERVE i % 256 * 2 ^ 24
  let pos := ofSigned 32 (actualValue s i)
  if code = 0 then [] else if code = 1 then [stat] else if code = 2 then [stat, pos] else [stat, pos, ofSigned 32 (actualVelocity s i)]

/-- Fields of the link that develop at a cycle start. -/
def linkDevelop (s : State) : State :=
  (List.range 8).foldl (fun a n => a.develop .ACC_RING n) (s.developList [.LINK_EN, .FENCE_ACTION] 0)

/-- A device stops wrapping at the first cycle start after the lane came back (R410). -/
def wrapEnd (s : State) : State :=
  let s := if s.getBit .LANE_OK 0 1 then s.setBit .LANE_OK 0 2 false else s
  if s.getBit .LANE_OK 0 0 then s.setBit .LANE_OK 0 3 false else s

/-- A worker's upstream words as of the cycle's ring start time (R402). -/
def upSnap (s : State) : State :=
  (List.range 8).foldl (fun a i => (upSlot s i).zipIdx.foldl (fun b x => b.put .UP_WORD (3 * i + x.2) x.1) a) s

/-- The cycles without an upstream part of device `d`, the one that has just ended among them (R404, R412). -/
def countMiss (s : State) (d : Nat) : State :=
  if s.get .DEV_STATE d = devAbsent then s
  else if s.flag .DEV_FRESH d then s.put .DEV_FRESH d 0 else s.put .DEV_MISS d (min 15 (s.get .DEV_MISS d + 1))

/-- LINK_CYCLE_START, at the next ring time that is a multiple of 20,000 ticks: latent fields develop. On the manager the frame
goes out in both directions; a worker takes the snapshot of its upstream words. -/
def cycleStart (s : State) : State :=
  let s := wrapEnd (linkDevelop s)
  if !s.dflag .LINK_EN 0 then (s.put .LINK_STATE 0 linkOff).put .LOCKED 0 0
  else if !isManager s then upSnap (s.atTick (toLocal s ((ringTime s / 20000 + 1) * 20000)))
  else
    let s := s.atTick ((s.ts / 20000 + 1) * 20000)
    if !linkRuns s then s
    else
      let s := (s.countWrap .CYC_NO 0).put .CYC_TICK 0 s.ts
      let s := goCarry (ringGather s s.ts)
      let left := s.get .GO_LEFT 0
      let s := s.put .MSG_GRANT 0 (nextGrant s)
      let bytes := cycleBytes s (if left = 0 then 0 else s.get .GO_CARRY 0) (left != 0)
      let s := (s.send 3 1 bytes).send 4 1 bytes
      let s := s.put .GO_LEFT 0 (left - 1)
      let s := (List.range 256).foldl (fun a g => if a.flag .M_SEG_SEND g then a.put .M_SEG_SEND g 0 else a) s
      (List.range 32).foldl countMiss s

/-! ## Fences (R411, R412) -/

/-- Cause 0x14 of a worker's axes. -/
def fenceAxes (s : State) : State :=
  let slots := idsWhere 8 fun i => s.drive i == dsEnabled
  if s.dv .FENCE_ACTION 0 = 1 then slots.foldl (fun a i => bathFault a [i] 1 0x14 (gdArg 0x14 noPort 0)) s
  else slots.foldl (fun a i => plannedFault a i 0x14 (a.get .STOP_DEC i)) s

/-- A worker fences itself. Its ring slots in Operation enabled are not enabled again before the manager has sent them a fault
reset (R413). -/
def selfFence (s : State) : State :=
  if isManager s ∨ !(linkRuns s || s.get .LINK_STATE 0 == linkAligning) then s
  else
    let s := s.each 8 (fun a i => inRing a i && a.opEnabled i) fun a i => a.put .RING_RESET i 1
    let s := ((s.put .LINK_STATE 0 linkFenced).clearAll [.LOCKED, .OFS_SET] 0).count .FENCE_CNT 0
    let s := (setLinkFlag s flagFenced).post 0x0E02 0x8 noSlot (s.get .RING_POS 0)
    fenceAxes ((List.range 8).foldl (fun a i => a.put .RC_PEND i 0) s)

/-- The worker has lost time (R400). -/
def timeLoss (s : State) (err : Int) : State :=
  selfFence ((setLinkFlag s flagTimeLost).post 0x0E05 0x8 noSlot (ofSigned 32 err))

/-- A stopped timebase is lost time too. -/
def linkTimebaseLoss (s : State) : State := if s.flag .LOCKED 0 then timeLoss s (s.geti .TIME_ERR 0) else s

/-- FAULTN of the manager while a fenced worker holds it. -/
def judgeHold (s : State) : State := judgeFaultn (s.put .MGR_FAULTN 0 (b2n ((List.range 32).any (s.flag .DEV_HOLD))))

/-- The axes of a worker that the manager mirrors. -/
def mirrored (s : State) (d : Nat) : List Nat := ((List.range 8).map (8 * d + ·)).filter fun g => s.get .RING_DN g != 0 || s.get .RING_UP g != 0

/-- The epoch of a worker may advance (R40). -/
def devEpochFree (s : State) (d : Nat) : Bool :=
  s.get .DEV_EPOCH_TICK d = 0 || decide (s.get .DEV_EPOCH_TICK d + 2 * ticksPerMs ≤ s.ts)

def devEpochAdvance (s : State) (d : Nat) : State :=
  ((s.countWrap .DEV_EPOCH d).put .DEV_EPOCH_TICK d (max 1 s.ts)).put .DEV_EPOCH_DUE d 0

/-- The advance that a fence within 2 ms of the last one left due (R40). -/
def devEpochLate (s : State) (d : Nat) : State :=
  if s.flag .DEV_EPOCH_DUE d ∧ devEpochFree s d then devEpochAdvance s d else s

/-- The manager fences a worker. The advance of its epoch follows when the 2 ms of R40 have passed. -/
def managerFence (s : State) (d : Nat) : State :=
  if !isManager s ∨ d = 0 ∨ s.get .DEV_STATE d ≠ devRunning ∨ s.get .DEV_MISS d < 8 then s
  else
    let s := (s.put .DEV_STATE d devFenced).put .DEV_FENCED d 1
    let s := if devEpochFree s d then devEpochAdvance s d else s.put .DEV_EPOCH_DUE d 1
    let s := (setLinkFlag s flagFenced).post 0x0E02 0x8 noSlot d
    let s := s.count .FENCE_CNT 0
    let s := (mirrored s d).foldl (fun a g => (a.put .M_SW g (setBits (setBits (a.get .M_SW g) 0 4 8) 5 2 1)).put .M_FR g 0) s
    if s.getBit .RED_LOST 0 4 then judgeHold ((s.emcy 0xFF13 0xFF 0x13 0x0E02).put .DEV_HOLD d 1) else s

/-- The hold of FAULTN ends once the worker runs again and every mirrored axis has taken a fault reset. -/
def releaseHold (s : State) (d : Nat) : State :=
  if s.flag .DEV_HOLD d ∧ s.get .DEV_STATE d = devRunning ∧ (mirrored s d).all (s.flag .M_FR) then judgeHold (s.put .DEV_HOLD d 0) else s

/-- A write of a mirrored controlword. -/
def mirrorControlword (s : State) (g cw : Nat) : State :=
  let rise := bit cw 7 && !s.getBit .M_CW g 7
  let s := s.put .M_CW g cw
  if rise then releaseHold (s.put .M_FR g 1) (g / 8) else s

/-- A worker takes the new epoch and a fresh RING_OFS, and is locked (step 3 of R413). -/
def workerJoin (s : State) (epoch ofs : Nat) : State :=
  ((((s.put .OWN_EPOCH 0 epoch).put .RING_OFS 0 ofs).put .OFS_SET 0 1).put .LOCKED 0 1).put .LINK_STATE 0 linkClosed

/-- WORKER_REJOIN: on a worker the new epoch is taken and RING_OFS set afresh; on the manager position `d` runs, and
LINK_REJOINED tells of one that was fenced (R413). -/
def workerRejoin (s : State) (d epoch ofs : Nat) : State :=
  if isManager s then
    if d = 0 ∨ s.flag .DEV_EPOCH_DUE d ∨ (s.get .DEV_STATE d ≠ devFenced ∧ s.get .DEV_STATE d ≠ devJoining) then s
    else
      let s := ((s.put .DEV_STATE d devRunning).put .DEV_MISS d 0).put .DEV_FRESH d 1
      let s := if s.flag .DEV_FENCED d then (s.put .DEV_FENCED d 0).post 0x0E03 0x8 noSlot (d + s.get .DEV_EPOCH d * 256) else s
      releaseHold s d
  else if s.get .LINK_STATE 0 = linkFenced ∨ s.get .LINK_STATE 0 = linkJoining then workerJoin s epoch ofs
  else s

/-! ## A worker and the passing frame (R398 to R402, R407, R408) -/

/-- UP_STAT of this device. -/
def upStat (s : State) : Nat :=
  let waits := maskOf 8 fun n => s.get .ACC_MEMB n != 0 && s.get .ACC_MEMB n &&& s.get .ACC_WAITING n == s.get .ACC_MEMB n
  s.get .OWN_EPOCH 0 + b2n (s.get .LINK_STATE 0 == linkFenced || s.get .LINK_STATE 0 == linkJoining) * 16 + s.get .LOCKED 0 * 32
    + s.get .FAULTN_LOW 0 * 64 + s.get .TUN_BUSY 0 * 128 + s.get .RED_LOST 0 * 256 + bits (s.get .LANE_OK 0) 0 2 * 8192
    + s.get .SHEET_ERR 0 * 32768 + waits * 65536 + s.get .ABSORBED 0 % 256 * 2 ^ 24


/-- A slot's downstream words: CTRL and TARGET wait for the next motion update, a segment is enqueued at once. -/
def takeDown (s : State) (i : Nat) (ws : List Nat) : State :=
  let code := s.dv .AX_DN i
  if code = 0 then s
  else
    let ctrl := ws.getD 0 0
    let s := ((s.put .RC_PEND i 1).put .RC_CTRL i ctrl).put .RC_HAS_TARGET i (b2n (code == 2))
    let s := if code = 2 then s.put .RC_TARGET i (ws.getD 1 0) else s
    if code = 3 ∧ bit ctrl 24 then segEnqueueBy s i 3 (ws.drop 1) else s

/-- Every slot's downstream words in ascending order. -/
def takeWords : State → List Nat → List Nat → State
  | s, [], _ => s
  | s, i :: t, ws => takeWords (takeDown s i (ws.take (dnWords (s.dv .AX_DN i)))) t (ws.drop (dnWords (s.dv .AX_DN i)))

/-- The RING_OFS that makes TIME_ERR zero, in whole ticks. -/
def freshOfs (f : RingFrame) (arrival : Nat) : Nat := (f.tM + f.corr / 32 + 2 ^ 64 - arrival % 2 ^ 64) % 2 ^ 64

/-- Ring time on a worker: RING_OFS once at join, then TIME_ERR and the trim (R399, R400). -/
def takeTime (s : State) (f : RingFrame) (arrival : Nat) : State :=
  let s := if s.get .LINK_STATE 0 = linkAligning ∧ !s.flag .OFS_SET 0 then
      (s.put .RING_OFS 0 (freshOfs f arrival)).put .OFS_SET 0 1 else s
  let err : Int := (32 * f.tM + f.corr : Nat) - (32 * ((arrival + s.get .RING_OFS 0) % 2 ^ 64) : Nat)
  let s := s.puti .TIME_ERR 0 (satSigned 16 err)
  let s := (s.puti .FREQ_TRIM 0 ((s.free % 40001 : Nat) - 20000)).freed
  let s := s.put .ALIGN_RUN 0 (if absN err ≤ 204 then min 64 (s.get .ALIGN_RUN 0 + 1) else 0)
  if s.flag .LOCKED 0 ∧ 5120 < absN err then timeLoss s err else s

/-- The cycle as a SYNC (R401). -/
def cycleSync (s : State) (f : RingFrame) : State :=
  (List.range 8).foldl (fun a i =>
    let n := ipTicks a i / 20000
    if n ≠ 0 ∧ f.cycle % n = 0 then syncSlot a i (toLocal a f.tM) else a) s

/-- A go or a sheet that the frame carries, at its first copy. -/
def takeGo (s : State) (f : RingFrame) : State :=
  let s := if f.goValid then
      s.each 8 (fun a n => bit f.goMap n && a.get .RGO_SEEN n != f.tGo) fun a n => accGive (a.put .RGO_SEEN n f.tGo) n (toLocal a f.tGo)
    else s
  if f.sheetValid ∧ s.get .RS_SEEN 0 ≠ f.tSheet then
    let (s, ok) := shootSheet (s.put .RS_SEEN 0 f.tSheet) (toLocal s f.tSheet)
    s.put .SHEET_ERR 0 (b2n !ok)
  else s

/-- A worker's upstream words: those of the last cycle start. -/
def upWordsNow (s : State) : List Nat :=
  (List.range 8).flatMap fun i => (List.range (upWords (s.dv .AX_UP i))).map fun k => s.get .UP_WORD (3 * i + k)

/-- The first copy of a cycle's frame at a worker. A fenced one asks to join; one that joins takes the new epoch with JOIN_ACK
(R413); while JOIN_ACK stands, no slot takes words. -/
def cycleTaken (s : State) (arrival : Nat) (f : RingFrame) : State :=
  let st := s.get .LINK_STATE 0
  if st = linkFenced then s.put .LINK_STATE 0 linkJoining
  else if st = linkJoining then
    if !f.blockGood then s.count .CRC_ERR 0
    else if bit f.dnCtrl 4 ∧ f.corrGood then workerJoin s (f.dnCtrl % 16) (freshOfs f arrival) else s
  else if !linkRuns s then s
  else
    let s := takeGo (s.put .LINK_STATE 0 (if f.wrapped then linkOpen else linkClosed)) f
    let s := if !f.blockGood then s.count .CRC_ERR 0
      else if bit f.dnCtrl 5 then selfFence s
      else if f.dnCtrl % 16 ≠ s.get .OWN_EPOCH 0 ∨ bit f.dnCtrl 4 then s
      else takeWords s (List.range 8) f.words
    if linkRuns s then cycleSync s f else s

/-- What the worker reads from a good frame and writes into it; of a second copy of one cycle it takes at most the time, which
is that of the direction-A copy unless lane A is down. -/
def cycleFrame (s : State) (lane : Nat) (arrival : Nat) (f : RingFrame) : State :=
  if isManager s ∨ s.get .LINK_STATE 0 = linkOff ∨ s.get .LINK_STATE 0 = linkEnum then s
  else if !f.hdrGood then (s.count .CRC_ERR 0).put .LANE_GOOD lane 0
  else if f.ringId ≠ s.get .RING_ID 0 then s
  else
    let s := s.put .LANE_GOOD lane (min 64 (s.get .LANE_GOOD lane + 1))
    let s := s.send (3 + lane) 1 (withCrc 16 2 (leBytes 4 (upStat s) ++ (upWordsNow s).flatMap (leBytes 4)))
    let s := if !f.corrGood then s.count .CRC_ERR 0
      else if lane = 0 ∨ !s.getBit .LANE_OK 0 0 then takeTime s f arrival else s
    if f.cycle = s.get .RX_CYC 0 then s
    else cycleTaken ((s.put .RX_CYC 0 f.cycle).put .RING_SIZE 0 f.ringSize) arrival f

/-- The ring words of a slot take effect at its motion update. -/
def applyRing (s : State) (i : Nat) : State :=
  if !s.flag .RC_PEND i then s
  else
    let ctrl := s.get .RC_CTRL i
    let s := s.put .RC_PEND i 0
    let s := if bit ctrl 7 && !s.getBit .CONTROLWORD i 7 then s.put .RING_RESET i 0 else s
    let m := toSigned 8 (bits ctrl 16 8)
    let s := if modeCode m && modeSupported (s.kind i) m then s.put .MODE i (bits ctrl 16 8) else s
    let s := if s.flag .RC_HAS_TARGET i then
        let t := s.get .RC_TARGET i
        let now := s.modeOf i
        if now = 1 ∨ now = 8 then s.put .TARGET_POS i t
        else if now = 7 then s.put .IP_TARGET i t
        else if now = 3 ∨ now = 9 then (s.put .TARGET_VEL i t).put .STALL_STAND i 0 else s
      else s
    writeControlword s i (bits ctrl 0 16) ((s.slotPorts i).all fun p => s.get .PORT_DRIVE p == 0)

/-- WORKER_LOCKED: 64 cycles within 40 ns. -/
def workerLocked (s : State) : State :=
  if !isManager s ∧ s.get .LINK_STATE 0 = linkAligning ∧ 64 ≤ s.get .ALIGN_RUN 0 then
    (s.put .LOCKED 0 1).put .LINK_STATE 0 linkClosed
  else s

/-! ## The frame's return (R402, R410, R412) -/

/-- Mirrors of one slot from its upstream words. -/
def mirrorSlot (s : State) (g : Nat) (ws : List Nat) : State :=
  let n := upWords (s.get .RING_UP g)
  let st := ws.getD 0 0
  let s := if 1 ≤ n then ((s.put .M_SW g (bits st 0 16)).put .M_MODE_DISP g (bits st 16 8)).put .M_RESERVE g (bits st 24 8) else s
  let s := if 2 ≤ n then s.put .M_POS_ACT g (ws.getD 1 0) else s
  if n = 3 then s.put .M_VEL_ACT g (ws.getD 2 0) else s

def mirrorWords : State → List Nat → List Nat → State
  | s, [], _ => s
  | s, g :: t, ws => mirrorWords (mirrorSlot s g (ws.take (upWords (s.get .RING_UP g)))) t (ws.drop (upWords (s.get .RING_UP g)))

/-- One worker's upstream part: of an old epoch dropped and counted, but its JOIN_REQ answered once the new epoch stands; of a
worker that does not run not taken, but with LOCKED it runs (R412, R413). -/
def takeUp (s : State) (u : RingUp) : State :=
  let d := u.position
  if !u.good then s.count .CRC_ERR 0
  else if d = 0 ∨ 32 ≤ d ∨ s.get .DEV_STATE d = devAbsent then s
  else if u.stat % 16 ≠ s.get .DEV_EPOCH d then
    let s := s.count .STALE_DROP 0
    if bit u.stat 4 ∧ s.get .DEV_STATE d = devFenced ∧ !s.flag .DEV_EPOCH_DUE d then s.put .DEV_STATE d devJoining else s
  else
    let s := (s.put .DEV_UP d u.stat).put .DEV_LANES d (bits u.stat 13 2)
    if s.get .DEV_STATE d ≠ devRunning then (if bit u.stat 5 ∧ !bit u.stat 4 then workerRejoin s d 0 0 else s)
    else mirrorWords ((s.put .DEV_MISS d 0).put .DEV_FRESH d 1) ((List.range 8).map (8 * d + ·)) u.words

/-- The manager finds the ring open or closed from the wrapped marks of both inputs (R410). A break that its own lanes did
not show is absorbed here (R10); its own lane's loss was absorbed when the lane went down. -/
def judgeRing (s : State) (breakAt : Nat) : State :=
  let w0 := s.flag .LANE_WRAP 0
  let w1 := s.flag .LANE_WRAP 1
  if w0 ∧ w1 ∧ s.get .LINK_STATE 0 = linkClosed then
    let s := (s.put .LINK_STATE 0 linkOpen).post 0x0E01 0x8 noSlot (breakAt + 256)
    let s := if s.getBit .LANE_OK 0 0 ∧ s.getBit .LANE_OK 0 1 then absorb s 5 0x0E01 0xFF (breakAt + 256) else s
    setRedLost s 4 true
  else if !w0 ∧ !w1 ∧ s.get .LINK_STATE 0 = linkOpen then
    setRedLost ((s.put .LINK_STATE 0 linkClosed).post 0x0E01 0x8 noSlot breakAt) 4 false
  else s

/-- CYCLE_FRAME_RETURN on an input lane of the manager. -/
def frameReturn (s : State) (lane : Nat) (good wrapped : Bool) (breakAt : Nat) (ups : List RingUp) : State :=
  if !isManager s ∨ !linkRuns s then s
  else if !good then (s.count .CRC_ERR 0).put .LANE_GOOD lane 0
  else
    let s := (s.put .LANE_GOOD lane (min 64 (s.get .LANE_GOOD lane + 1))).put .LANE_WRAP lane (b2n wrapped)
    let s := judgeRing s breakAt
    let s := ups.foldl takeUp s
    ringGather s (s.get .CYC_TICK 0 + 20000)

/-! ## Lanes (R409, R410) and probes (R399) -/

/-- LINK_LANE_DOWN: three misses; the device wraps. With the ring already running in one direction, or the other lane down
too, it is the further failure of R11 and not absorbed. -/
def laneDown (s : State) (lane : Nat) : State :=
  if !s.getBit .LANE_OK 0 lane then s
  else
    let s := ((s.setBit .LANE_OK 0 lane false).setBit .LANE_OK 0 (if lane = 1 then 2 else 3) true).put .LANE_GOOD lane 0
    let further := s.get .LINK_STATE 0 == linkOpen || !s.getBit .LANE_OK 0 (1 - lane)
    let s := (setLinkFlag s flagLaneDown).post 0x0E00 0x8 noSlot (lane + 256)
    if further then s else absorb s 5 0x0E00 0xFF (lane + 256)

/-- LINK_LANE_UP: 64 consecutive good frames. The wrapping ends at the next cycle start. -/
def laneUp (s : State) (lane : Nat) : State :=
  if s.getBit .LANE_OK 0 lane ∨ s.get .LANE_GOOD lane < 64 then s
  else (s.setBit .LANE_OK 0 lane true).post 0x0E00 0x8 noSlot lane

/-- ROUND_TRIP_PROBE: half the round trip less the neighbour's turnaround, in 1/32 tick. -/
def roundTrip (s : State) (lane trip turnaround : Nat) : State := s.put .CABLE lane ((trip - turnaround) / 2)

/-! ## Ring sheets (R408) -/

/-- RING_SHEET: `false` where it is refused. -/
def ringSheet (s : State) (t : Nat) : State × Bool :=
  if !isManager s ∨ !linkRuns s ∨ t < ringTime s + ringLead ∨ s.flag .RS_PEND 0 then (s, false)
  else
    let (s, ok) := shootSheet s t
    let s := (s.put .SHEET_ERR 0 (b2n !ok)).put .RS_SEEN 0 t
    (((s.put .RS_PEND 0 1).put .RS_T 0 t).put .RS_MISSING 0 0, true)

/-- RING_SHEET_DONE: the workers' entries, each behind its header in Q12; the sheet completes when every running
worker has delivered or 50 ms after T. -/
def ringSheetDone (s : State) (parts : List (Nat × List (List Nat))) : State :=
  let running := idsWhere 32 fun d => s.get .DEV_STATE d == devRunning
  let got := parts.map (·.1)
  let missing := running.filter fun d => !got.contains d
  if !s.flag .RS_PEND 0 ∨ s.ts < s.get .RS_T 0 ∨ (missing ≠ [] ∧ s.ts < s.get .RS_T 0 + 50 * ticksPerMs) then s
  else
    let s := parts.foldl (fun a x => x.2.foldl (fun b ws => b.enqueue 12 ws) (a.enqueue 12 [x.1, x.2.length, 0, 0])) s
    let mask := maskOf 32 fun d => missing.contains d || (d == 0 && s.flag .SHEET_ERR 0)
    let s := (s.put .RS_PEND 0 0).put .RS_MISSING 0 mask
    let s := if mask ≠ 0 then setLinkFlag s flagSheet else s
    s.post 0x0E06 0x8 noSlot mask

/-! ## The tunnel (R405) -/

/-- A tunnel transfer begins: the position must be one of the ring's. -/
def tunnelBegin (s : State) (write : Bool) (bytes : List Nat) : State × Bool :=
  if !isManager s ∨ s.flag .TUN_BUSY 0 ∨ s.get .RING_SIZE 0 ≤ s.get .TUNNEL_DEV 0 then (s, false)
  else
    let s := s.put .TUN_MSG 0 (Config.tunnelMessage (s.get .TUNNEL_OBJ 0) write bytes)
    ((s.put .TUN_BUSY 0 1).put .TUN_TICK 0 s.ts, true)

/-- The abort code of a transfer that nobody answers. -/
def noAnswer : Nat := 0x05040000

/-- TUNNEL_TRANSFER: the worker's answer, its abort code and data, ends the transfer; without one it stays open. -/
def tunnelTransfer (s : State) (write : Bool) (bytes : List Nat) (abort : Nat) (data : List Nat) : State :=
  match tunnelBegin s write bytes with
  | (s, false) => s.reply 0x08000022 []
  | (s, true) => if abort = noAnswer then s else (s.put .TUN_BUSY 0 0).reply abort (if write then [] else data)

/-- TUNNEL_TIMEOUT. -/
def tunnelTimeout (s : State) : State :=
  if s.flag .TUN_BUSY 0 ∧ s.get .TUN_TICK 0 + 50 * ticksPerMs ≤ s.ts then (s.put .TUN_BUSY 0 0).reply noAnswer [] else s

end Sys2Proof.Machine
end

