-- ==== Sys2Proof/Machine/Fields.lean ====
section
/-! DEFINITION. What a value must satisfy to enter a field, how a rejection shows, what a write of a field does
beside storing it, and the write-one commands of the register tables (R21 to R25, R49, R52, R78, R81 and the
Meaning columns of every register and object table). Register writes, object writes and profiles all use it. -/

namespace Sys2Proof.Machine

/-- A value in an inclusive range. -/
def inside (lo hi v : Nat) : Bool := decide (lo ≤ v ∧ v ≤ hi)

/-- Interpolation period in µs for a value and an index, 0 where it is not a whole number of them (R151). -/
def ipMicros (per idx : Nat) : Nat :=
  if idx = 0xFD then per * 1000 else if idx = 0xFC then per * 100 else if idx = 0xFB then per * 10
  else if idx = 0xFA then per else 0

/-- R151: 125 µs to 100 ms in multiples of 125 µs, at least the slot's PWM period. -/
def ipValid (s : State) (i per idx : Nat) : Bool :=
  inside 125 100000 (ipMicros per idx) && ipMicros per idx % 125 == 0 && decide (s.period i ≤ ipMicros per idx * 160)

/-- R283, in 100 mV. -/
def busThresholds (low brake hyst ov : Nat) : Bool := decide (low + 10 + hyst ≤ brake ∧ brake < ov)

/-- NB_LOk and NB_HIk (R360). -/
def bandOk (lo hi : Nat) : Bool := decide (toSigned 16 lo ≤ toSigned 16 hi)

def neighbourOk (k v : Nat) : Bool := v == 0x3F || (decide (v ≤ 0x21) && v != k)

def harmonicOk (v : Nat) : Bool := decide (absN (toSigned 16 v) ≤ 4096)

/-- The PDO communication and SYNC settings in use. -/
def pdoOn (cob : Nat) : Bool := !bit cob 31

def anyPdoOn (s : State) : Bool := (List.range 32).any fun n => pdoOn (s.get .RPDO_COB n) || pdoOn (s.get .TPDO_COB n)

/-- An input that can be the even one of a differential pair (R336). -/
def diffInput (i : Nat) : Bool := (ainOf i).any fun j => j % 2 == 0

/-- Whether a value may enter instance `i` of a field; `look` gives the values its neighbours will hold. -/
def fieldOk (s : State) (look : Reg → Nat) (r : Reg) (i v : Nat) : Bool :=
  match r with
  | .SLACK_GUARD => inside 40 320 v
  | .QWMARK => decide (v ≤ s.qSize i)
  | .TOL_WINDOW | .TRIG_WIDTH | .STOP_DEC | .LIMIT_DEC | .CS_RESUME_WIN | .HOME_IDX_MAX | .SF_LAG_MAX | .CHATTER_MAX
  | .ACC_LEAD | .NOSAMPLE_MAX | .BL_KP | .WIND_R_NOM | .WIND_L_NOM | .STALL_COUNT | .TRIGO_PW | .SB_STILL | .ENC_N
  | .SW_N | .STILL_WINDOWS | .ENC_RATIO | .CHECK_TOL | .TH_R25 | .TH_RPU | .THR_FLOOR | .PROFILE_ACC | .PROFILE_DEC
  | .QUICK_STOP_DEC | .HOMING_ACC | .PROFILE_JERK | .MAX_ACC | .RED_WIN => v != 0
  | .TOL_ACTION | .CAN_MODE | .CAN_RED | .DEV_MODE => decide (v < 2)
  | .TRIG_SEL => decide (v < 5)
  | .SEG_VMAX | .OBS_VLOW | .PROFILE_VEL | .HOMING_SPEED_SW | .HOMING_SPEED_ZERO => v != 0 && decide (v < 2 ^ 31)
  | .MAX_PROFILE_VEL => decide (v < 2 ^ 31)
  | .CS_MISS_MAX | .SF_SMOOTH | .AVG_N | .SHIFT => decide (v ≤ 8)
  | .HS_CURRENT | .CUR_LIMIT | .RUN_CURRENT | .RT_LIMIT => inside 1 0x8000 v
  | .HOLD_CURRENT | .SUM_TOL => decide (v ≤ 0x8000)
  | .SF_SCALE => inside 1 1024 v
  | .SENSE_RATIO => inside 100 20000 v
  | .CUR_BLANK | .MON_BLANK => inside 32 320 v
  | .T_SAMPLE => inside 64 640 v
  | .WIN_ILK => inside 8 160 v
  | .HD_WIN_EVERY => inside 1 16 v
  | .CR_GAIN | .ADAPT_FLOOR => inside 0x1000 0x8000 v
  | .HARM3_AMP | .HARM5_AMP => harmonicOk v
  | .RES_TARGET => inside 1 99 v
  | .RES_BAND | .SAL_MIN | .BRAKE_HYST => inside 1 50 v
  | .HALL_OFS => decide (v ≤ 6143)
  | .STALL_ANGLE => inside 0x2000 0x7FFF v
  | .STALL_ACTION | .CH_MODE | .ENC_CLK | .SW_CLK | .ERROR_BEHAVIOUR => decide (v ≤ 2)
  | .EMF_COLLAPSE => inside 0x1000 0x7000 v
  | .INJ_VOLT => inside 200 10000 v
  | .PROBE_DELTA => inside 0x0400 0x2000 v
  | .PROBE_INT => decide (v ≤ 3600)
  | .VW_MAXAGE | .SESS_IDLE => inside 10 600 v
  | .PERIOD => inside 1600 16000 v
  | .DEAD_TIME => decide (v ≤ 20480)
  | .REFRESH_WIDTH => inside 16 320 v
  | .PRESC_ZERO => decide (v ≤ 16)
  | .CFG_PRD | .CFG_CMPA | .CFG_CMPB => decide (v % 32 ≤ 16)
  | .HS_HOLD_MAX | .ALIGN_MS => inside 1 1000 v
  | .VBUS_LOW => inside 100 880 v
  | .VBUS_BRAKE => inside 150 980 v
  | .VBUS_OV => inside 200 990 v
  | .SD_N => stepFilterOk v (look .SD_CLK)
  | .SD_CLK => stepFilterOk (look .SD_N) v
  | .SPD_WIN => decide (v ≤ 9)
  | .FMT => v != 3 && ((v == 2) == (look .DIFF == 1)) && (v != 2 || diffInput i)
  | .DIFF => ((v == 1) == (look .FMT == 2)) && (v == 0 || diffInput i)
  | .AADC_CHECK_TOL => inside 1 0x7FFF v
  | .CAL_INTERVAL => v == 0 || inside 60 3600 v
  | .T_LIM => decide (-2560 ≤ toSigned 16 v ∧ toSigned 16 v ≤ 12800)
  | .NB0 | .NB1 | .NB2 => neighbourOk i v
  | .NB_LO0 => bandOk v (look .NB_HI0)
  | .NB_LO1 => bandOk v (look .NB_HI1)
  | .NB_LO2 => bandOk v (look .NB_HI2)
  | .NB_HI0 => bandOk (look .NB_LO0) v
  | .NB_HI1 => bandOk (look .NB_LO1) v
  | .NB_HI2 => bandOk (look .NB_LO2) v
  | .TD_ETA => inside 3891 4301 v
  | .TH_BETA => inside 1000 10000 v
  | .NEAR_BAND => inside 2 50 v && decide (look .CLOSE_BAND < v)
  | .CLOSE_BAND => inside 1 49 v && decide (v < look .NEAR_BAND)
  | .THR_INTERVAL => inside 10 1000 v
  | .THR_HOLD => inside 1 600 v
  | .GD_BUDGET => inside 500 3800 v
  | .QG_NC => inside 1 500 v
  | .STRIP_INT => decide (v ≤ 1000)
  | .RING_EXPECT => v == 0 || inside 2 32 v
  | .DOM_OFF_REQ => v % 8 == 0
  | .HALT_OPTION => inside 1 2 v
  | .PROFILE_TYPE => v == 0 || v == 3
  | .IP_SUBMODE => v == 0 || v == 0xFFFF
  | .IP_PERIOD => ipValid s i v (look .IP_INDEX)
  | .IP_INDEX => ipValid s i (look .IP_PERIOD) v
  | .QSTOP_OPTION => v == 0 || v == 1 || v == 2 || v == 5 || v == 6
  | .SHUTDOWN_OPTION | .DISABLE_OPTION => decide (v ≤ 1)
  | .ABORT_OPTION | .DATA_RATE | .SLOT_KIND => decide (v ≤ 3)
  | .SYNC_OVERFLOW => v == 0 || inside 2 240 v
  | .NMT_STARTUP => v == 0 || v == 4
  | .NODE_ID => inside 1 127 v || v == 0xFF
  | .ARB_RATE => decide (v ≤ 8) && v != 5
  | .COB_SYNC => !bit v 30
  | .TUNNEL_DEV => inside 1 31 v
  | .TUNNEL_OBJ => v / 256 % 256 == 0
  | .REG_WIN_ADDR => decide (v < 2 ^ 24) && v % 4 == 0
  | .REG_WIN_CTRL => decide (v < 2)
  | .REG_WIN_COUNT => inside 1 256 v
  | _ => true

/-- Whether the present state of the device refuses the write, whatever its value. -/
def fieldRefused (s : State) (r : Reg) (i : Nat) : Bool :=
  match r with
  | .ACC_MEMB | .ACC_MODE | .ACC_RING => accLocked s i
  | .SYNC_OVERFLOW => anyPdoOn s
  | .DUTY => s.isAxisPort i
  | _ => false

/-- Whether a value in its range is refused beside the values its neighbours hold: a pair of soft limits that is not in
order (R131, R309), bus thresholds out of order (R283). -/
def fieldConflict (look : Reg → Nat) (r : Reg) (v : Nat) : Bool :=
  match r with
  | .SOFTLIM_LO => decide (toSigned 48 (look .SOFTLIM_HI) ≤ toSigned 48 v)
  | .SOFTLIM_HI => decide (toSigned 48 v ≤ toSigned 48 (look .SOFTLIM_LO))
  | .FB_SOFTLIM_LO => decide (toSigned 48 (look .FB_SOFTLIM_HI) ≤ toSigned 48 v)
  | .FB_SOFTLIM_HI => decide (toSigned 48 v ≤ toSigned 48 (look .FB_SOFTLIM_LO))
  | .VBUS_LOW => !busThresholds v (look .VBUS_BRAKE) (look .BRAKE_HYST) (look .VBUS_OV)
  | .VBUS_BRAKE => !busThresholds (look .VBUS_LOW) v (look .BRAKE_HYST) (look .VBUS_OV)
  | .BRAKE_HYST => !busThresholds (look .VBUS_LOW) (look .VBUS_BRAKE) v (look .VBUS_OV)
  | .VBUS_OV => !busThresholds (look .VBUS_LOW) (look .VBUS_BRAKE) (look .BRAKE_HYST) v
  | _ => false

/-- Fields whose rejection shows in CUR_PARAM_REJ (R211). -/
def currentParams : List Reg :=
  [.TIA_RANGE, .SENSE_RATIO, .CUR_LIMIT, .RUN_CURRENT, .HOLD_CURRENT, .HOLD_DELAY, .HOLD_RAMP, .CUR_BLANK, .T_SAMPLE,
    .WIN_ILK, .HD_WIN_EVERY, .CR_GAIN, .CR_KI, .NOSAMPLE_MAX, .SUM_TOL, .HARM3_AMP, .HARM3_PH, .HARM5_AMP, .HARM5_PH,
    .ADAPT_EN, .RES_TARGET, .RES_BAND, .ADAPT_FLOOR, .BL_KP, .BL_KI, .HALL_OFS, .HALL_INV, .WIND_R_NOM, .WIND_L_NOM]

/-- Fields whose rejection shows in OBS_PARAM_REJ (R241). -/
def observerParams : List Reg :=
  [.STALL_ANGLE, .STALL_COUNT, .STALL_ACTION, .EMF_COLLAPSE, .OBS_VLOW, .INJ_VOLT, .SAL_MIN, .PROBE_DELTA, .PROBE_INT,
    .VW_R25, .VW_MAXAGE, .VW_CAL_TREF]

/-- Fields whose rejection shows in THR_REJ (R283). -/
def busParams : List Reg := [.VBUS_LOW, .VBUS_BRAKE, .VBUS_OV, .BRAKE_HYST, .RT_LIMIT]

/-- Fields whose rejection shows in PARAM_REJ of the channel (R322). -/
def feedbackParams : List Reg :=
  [.CH_MODE, .ENC_N, .ENC_CLK, .SW_N, .SW_CLK, .SD_N, .SD_CLK, .SPD_WIN, .STILL_WINDOWS, .ENC_RATIO, .FB_SOFTLIM_LO,
    .FB_SOFTLIM_HI, .ALIGN_MS]

def auxParams : List Reg := [.CH_EN, .CH_COPY, .FMT, .AVG_N, .SHIFT, .DIFF]

def sensorParams : List Reg :=
  [.T_LIM, .NB0, .NB1, .NB2, .NB_LO0, .NB_LO1, .NB_LO2, .NB_HI0, .NB_HI1, .NB_HI2]

/-- How a rejected or refused write shows. -/
def fieldReject (s : State) (r : Reg) (i : Nat) : State :=
  if currentParams.contains r then s.put .CUR_PARAM_REJ i 1
  else if observerParams.contains r then s.put .OBS_PARAM_REJ i 1
  else if busParams.contains r then s.put .THR_REJ 0 1
  else if feedbackParams.contains r then s.setBit .FB_FLAGS i 3 true
  else if auxParams.contains r then s.put .CH_REJ i 1
  else if sensorParams.contains r then s.put .THM_PARAM_REJ i 1
  else match r with
    | .SLACK_GUARD => s.put .GUARD_REJ i 1
    | .ACC_MEMB | .ACC_MODE | .ACC_RING => s.put .ACC_REJ i 1
    | .DOM_OFF_REQ => domainRefuse s 0
    | _ => s

/-! ## Writes with an effect of their own -/

/-- ENC_POS preset (R309): within the soft limits in native mode, over 32 bits in GN2008 mode. -/
def encPreset (s : State) (c : Nat) (v : Int) : State :=
  let lo := s.dvi .FB_SOFTLIM_LO c
  let hi := s.dvi .FB_SOFTLIM_HI c
  let past := !s.gn2008 && decide (v < lo ∨ hi < v)
  let s := s.puti .ENC_POS c (if s.gn2008 then toSigned 32 (ofSigned 32 v) else clampI lo hi v)
  let s :=
    if past ∧ !s.getBit .FB_STAT c satBit then
      (s.setBit .FB_FLAGS c 1 true).post 0x0A01 0x4 c (if hi < v then 1 else 0)
    else s
  refreshAct (unalign (s.setBit .FB_STAT c satBit past) c) c

/-- A refused pointer write (R49). -/
def refusePointer (s : State) (q : Nat) (wr : Bool) : State :=
  (s.count .QDROP q).put (if wr then .QWR_REJ else .QRD_REJ) q 1

/-- WR advanced over entries already in the ring, each seen by the fetcher. -/
def advanceWr (q : Nat) : Nat → State → State
  | 0, s => s
  | n + 1, s => advanceWr q n (fetch ((s.put .QWR q (s.qNext q (s.get .QWR q) 1)).setQLevel q) q)

/-- A register write of QWR (R49): `path` 0 is host SPI. The answer is whether it stands. A value k behind WR is an advance by
2 × SIZE − k, also where the fill would stay within SIZE: the manual speaks of advances only (log entry 98). -/
def qwrWrite (s : State) (path q v : Nat) : State × Bool :=
  let size := s.qSize q
  let adv := (v + 2 * size - s.get .QWR q) % (2 * size)
  if path ≠ 0 ∨ 8 ≤ q ∨ s.dv .PRODUCER q ≠ 2 ∨ 2 * size ≤ v ∨ size < s.qFill q + adv then (refusePointer s q true, false)
  else (advanceWr q adv s, true)

/-- A register write of QRD (R49). -/
def qrdWrite (s : State) (q v : Nat) : State × Bool :=
  let size := s.qSize q
  let adv := (v + 2 * size - s.get .QRD q) % (2 * size)
  if q < 8 ∨ 12 ≤ q ∨ 2 * size ≤ v ∨ s.qFill q < adv then (refusePointer s q false, false)
  else (s.setRd q v, true)

/-- A fixed place in the auxiliary round: its enable bit is not writable. -/
def enableFixed (i : Nat) : Bool := decide (i % 32 ≤ 1) || inputKind i == 3

/-- Storing a checked value, with what the field's rule adds. The answer is whether the write stands. -/
def fieldApply (s : State) (path : Nat) (r : Reg) (i v : Nat) : State × Bool :=
  match r with
  | .PERIOD => ((groupPorts s (groupOf s i)).foldl (fun a p => a.put .PERIOD p v) s, true)
  | .DEAD_TIME | .REFRESH_LIMIT | .REFRESH_WIDTH | .TRIP_LIMIT => ((axisFan s i).foldl (fun a p => a.put r p v) s, true)
  | .TARGET_VEL => ((s.put .TARGET_VEL i v).put .STALL_STAND i 0, true)
  | .GROUP => writeGroup s i v
  | .PWM_EN => (writePwmEn s i (v != 0), true)
  | .SB_CMD => (writeSbCmd s v, true)
  | .SNS_EN => (writeSnsEn s i (v != 0), true)
  | .QWR => qwrWrite s path i v
  | .QRD => qrdWrite s i v
  | .ENC_POS => (encPreset s i (toSigned 48 v), true)
  | .PRODUCER => (if i < 8 then s.put .PRODUCER i v else s, true)
  | .CH_EN => (if enableFixed i then s else (s.put .CH_EN i v).put .AUX_NEW i 1, true)
  | .CH_COPY | .FMT | .AVG_N | .SHIFT | .DIFF => ((s.put r i v).put .AUX_NEW i 1, true)
  | .BRAKE_PORT =>
    let s := if s.get .BRAKE_PORT 0 = v then s else brakeStop s
    (judgeBrake (s.put .BRAKE_PORT 0 v), true)
  | .BRAKE_EN => (judgeBrake (s.put .BRAKE_EN 0 v), true)
  | .DOM_OFF_REQ => ((s.put .DOM_OFF_REQ 0 v).put .DOM_REQ_PATH 0 path, true)
  | .COB_EMCY => ((s.put .COB_EMCY 0 v).put .COB_WRITTEN 64 1, true)
  | _ => (s.put r i v, true)

/-- Neighbours as they stand. -/
def lookNow (s : State) (i : Nat) : Reg → Nat := fun r => s.get r i

/-- Fields that only an axis converter has: on an auxiliary converter they read 0 and ignore writes (R349). -/
def auxLacks (r : Reg) (i : Nat) : Bool :=
  decide (16 ≤ i) && (r == .Q8_DECIM || r == .SYS_OFS_A || r == .SYS_GAIN_A || r == .SYS_OFS_B || r == .SYS_GAIN_B)

/-- One value into one field: 0 accepted, 1 rejected by its range, 2 refused in the present state or beside its neighbours. -/
def fieldWrite (s : State) (path : Nat) (look : Reg → Nat) (r : Reg) (i v : Nat) : State × Nat :=
  if auxLacks r i then (s, 0)
  else if fieldRefused s r i then (fieldReject s r i, 2)
  else if !fieldOk s look r i v then (fieldReject s r i, 1)
  else if fieldConflict look r v then (fieldReject s r i, 2)
  else
    let (s, ok) := fieldApply s path r i v
    (s, if ok then 0 else 2)

/-! ## Commands of the register tables -/

/-- SF_RESTART (R176). -/
def followRestart (s : State) (i : Nat) : State :=
  let st := s.get .SF_STATE i
  if st = 1 ∨ st = 2 then s.count .CLASH_LOST 0
  else if st = 3 ∧ s.flag .STILL_CMD i then enterFollow s i
  else s

/-- VW_CAL after its authority has been judged (R238). A probe of the slot that runs is aborted for it, with PROBE_ABORT: the
manual says nothing of the case (log entry 98). -/
def vwCalRun (s : State) (i : Nat) : State × Bool :=
  let tref := s.geti .VW_CAL_TREF i
  let why := if !s.opEnabled i ∨ !s.flag .STILL_CMD i then 1
    else if s.get .CUR_AMP i < s.get .PROBE_DELTA i then 2
    else if tref < -2560 ∨ 3840 < tref then 5 else 0
  if why ≠ 0 then (rejectVwCal s i why, false)
  else (((probeAbort s i).put .PROBE_FOR_CAL i 1 |> fun a => probeBegin a i 1 a.ts), true)

/-- Whether a queue's latent layout obeys R48. -/
def layoutOk (s : State) (q : Nat) : Bool :=
  let size := 2 ^ s.get .QSIZE_LOG2 q
  let bytes := size * entryBytes q
  let base := 16 * s.get .QBASE q
  inside 4 14 (s.get .QSIZE_LOG2 q) && base % bytes == 0 && decide (base + bytes ≤ queueRegionSize q) &&
    (List.range 16).all fun p => p == q || queueRegion p != queueRegion q ||
      decide (queueRegion q + base + bytes ≤ s.qBase p ∨ s.qBase p + s.qSize p * entryBytes p ≤ queueRegion q + base)

/-- QRESET refused for what the queue serves (R52). -/
def qresetBusy (s : State) (q : Nat) : Bool :=
  if q < 8 then isActive s q && !(s.flag .STILL_CMD q && s.qFill q == 0)
  else if q = 12 ∨ q = 13 then linkRuns s
  else if q = 14 ∨ q = 15 then s.flag .SESS_OPEN 0
  else false

/-- QRESET (R52): entries that a hardware producer offers meanwhile are dropped and counted. -/
def queueReset (s : State) (q offered : Nat) : State × Bool :=
  if !layoutOk s q ∨ qresetBusy s q then (s.put .QCFG_REJ q 1, false)
  else
    let s := s.developList [.QBASE, .QSIZE_LOG2, .PRODUCER] q
    let s := ((s.put .QRD q 0).put .QWR q 0).put .QLEVEL q 0
    let s := s.put .FETCH_PTR q 0
    let s := s.countN .QDROP q offered
    let s := if q < 8 then dropAccepted s q else s
    (if q = 14 ∨ q = 15 then judgeMailbox s else s, true)

/-- Gates that read below their threshold: the port is not driven. -/
def gatesLow (s : State) (p : Nat) : Bool := s.get .PORT_DRIVE p == 0

/-- A write-one command of a register table, with its value; the answer is whether it stands. Sealed commands
never come here. -/
def command (s : State) (r : Reg) (i v : Nat) : State × Bool :=
  match r with
  | .SLACK_MIN_CLR => (s.put .SLACK_MIN i 0x7FFF, true)
  | .QRESET => queueReset s i 0
  | .TB_APPLY => tbApply s
  | .SEG_RESTART => (segRestart s i, true)
  | .ACC_GO_T => accGo s i v
  | .SF_RESTART => (followRestart s i, true)
  | .TRIP_CLR => clearTrip s i
  | .LOAD_ALL => (loadAll s (groupOf s i), true)
  | .LOAD_ALL_GRP => ((idsWhere 16 (bit v)).foldl loadAll s, true)
  | .GD_CLR =>
    let (s, refused) := gdClear s i (gatesLow s i)
    (s, !refused)
  | .ILK_MAX_CLR => (s.put .ILK_WAIT_MAX i 0, true)
  | .GD_APPLY => (s.put .OVER_GD_APPLY i 1, true)
  | .ENC_FAULT_CLR => (encFaultClear s i, true)
  | .ENC_ALIGN => (unalign s i, true)
  | .CAP_ARM => (s.setBit .FB_STAT i armedBit true, true)
  | .CS_T => shootSheet s v
  | .CS_CANCEL => (s.put .CS_PEND 0 0, true)
  | .CAL_START => calCommand s i
  | .MIGRATE => migrateMask s v
  | .LINK_RESTART => (linkRestart s, true)
  | .MBX_IN => (mbxIn s v, true)
  | _ => (s, true)

end Sys2Proof.Machine
end

