-- ==== Sys2Proof/Machine/RegAccess.lean ====
section
/-! DEFINITION. Register slots, the SRAM and flash windows, host SPI frames and the register-window objects
(R21 to R24, R43, R46, R67 to R88). -/

namespace Sys2Proof.Machine

/-! ## The address map (R75) -/

/-- No switchable domain: AON. -/
def domAon : Nat := 12

/-- Domain of the block an address lies in; `none` outside the blocks. -/
def blockDomain (a : Nat) : Option Nat :=
  if a < 0x2000 then some domAon
  else if 0x10000 ≤ a ∧ a < 0x12000 then some domAon
  else if 0x20000 ≤ a ∧ a < 0x21000 then some domAon
  else if 0x30000 ≤ a ∧ a < 0x38000 then some 1
  else if 0x40000 ≤ a ∧ a < 0x50000 then some domAon
  else if 0x50000 ≤ a ∧ a < 0x60000 then some 1
  else if 0x60000 ≤ a ∧ a < 0x70000 then some domAon
  else if 0x70000 ≤ a ∧ a < 0x70400 then some 1
  else if 0x80000 ≤ a ∧ a < 0x90000 then some 10
  else if 0x90000 ≤ a ∧ a < 0xA0000 then some 9
  else if 0xA0000 ≤ a ∧ a < 0xB0000 then some 11
  else if 0xB0000 ≤ a ∧ a < 0xC0000 then some domAon
  else if 0x400000 ≤ a ∧ a < 0x440000 then some 2
  else if 0x440000 ≤ a ∧ a < 0x480000 then some 3
  else if 0x800000 ≤ a ∧ a < 0x840000 then some 11
  else none

def isSram (a : Nat) : Bool := decide (0x400000 ≤ a ∧ a < 0x480000)

def isFlash (a : Nat) : Bool := decide (0x800000 ≤ a ∧ a < 0x840000)

/-- SRAM that a host may write (R43). -/
def sramWritable (a : Nat) : Bool := decide (0x420000 ≤ a)

def domLive (s : State) (d : Nat) : Bool := d == domAon || s.getBit .DOM_ON 0 d

/-- A field found at a slot: its table row, the instance, and which 16-bit word of the value the slot is. -/
structure Hit where
  field : FieldInfo
  inst : Nat
  word : Nat

/-- Fields of one group of registers at an address. -/
def blockHits (a : Nat) (b : RegBlock) : List Hit :=
  if a < b.base ∨ b.base + b.stride * b.count ≤ a then []
  else
    let off := (a - b.base) % b.stride
    let i := b.first + (a - b.base) / b.stride
    b.fields.filterMap fun f =>
      if f.off ≤ off ∧ off < f.off + 4 * ((f.lo + f.width + 15) / 16) ∧ (off - f.off) % 4 = 0 then
        some ⟨f, i, (off - f.off) / 4⟩
      else none

/-- Every field at a slot. -/
def slotHits (a : Nat) : List Hit := regBlocks.flatMap (blockHits a)

/-! ## Result bits, in the places of SPI_STAT (R71) -/

def errNotReady : Nat := 1
def errFrame : Nat := 2
def errAddr : Nat := 4
def errIgnored : Nat := 8
def errDomain : Nat := 16

/-! ## Reading -/

/-- The live value of a field (R23, R79). -/
def fieldValue (s : State) (f : FieldInfo) (i : Nat) : Nat :=
  if auxLacks f.reg i then 0 else match f.acc with
  | .wo => 0
  | .rc => s.rc.get f.reg i
  | _ => match f.reg with
    | .TS => s.ts % 2 ^ 64
    | .TICK_STAMP => s.ts / 160 % 2 ^ 16
    | .CH_EN => if i % 32 ≤ 1 then 1 else if inputKind i = 3 then 0 else s.get .CH_EN i
    | r => s.get r i

/-- Shadows of a path (R80 to R82): path 0 is host SPI, 1 the register window. A service request works on the window's
shadows and gives them back (R82). -/
def readShadow (s : State) (path : Nat) : RegFile := if path = 0 then s.spiRead else s.winRead

def setReadShadow (s : State) (path : Nat) (f : RegFile) : State :=
  if path = 0 then { s with spiRead := f } else { s with winRead := f }

def writeShadow (s : State) (path : Nat) : RegFile := if path = 0 then s.spiWrite else s.winWrite

def setWriteShadow (s : State) (path : Nat) (f : RegFile) : State :=
  if path = 0 then { s with spiWrite := f } else { s with winWrite := f }

/-- One field's part of a register read: the low word of a wide value latches the rest. -/
def readHit (path : Nat) (x : State × Nat) (h : Hit) : State × Nat :=
  let (s, acc) := x
  if h.word = 0 then
    let (s, v) := if h.field.reg = .MBX_OUT then mbxOut s else (s, fieldValue s h.field h.inst)
    let s :=
      if 16 < h.field.lo + h.field.width then
        setReadShadow s path ((readShadow s path).insert (h.field.reg.key h.inst) v)
      else s
    (s, acc + v * 2 ^ h.field.lo % 2 ^ 16)
  else
    let v := ((readShadow s path).find (h.field.reg.key h.inst)).getD 0
    (s, acc + v / 2 ^ (16 * h.word - h.field.lo) % 2 ^ 16)

/-- What a profile area holds, for the flash window. -/
def entryBytesOf (e : ObjEntry) : List Nat := e.index :: e.sub :: e.value

def areaHolds (s : State) (n : Nat) : List Nat :=
  let a := s.sec.profiles.getD n ProfileArea.empty
  a.image ++ a.sealedOverlay.flatMap entryBytesOf ++ a.openOverlay.flatMap entryBytesOf

/-- What the calibration area holds (R46, R449): the coefficients of the converters and those of system calibration. -/
def calibrationHolds (s : State) : List Nat :=
  ((List.range 18).flatMap fun c => [s.get .CAL_OFS c, s.get .CAL_GAIN c])
    ++ ((List.range 16).flatMap fun k => [s.get .SYS_OFS_A k, s.get .SYS_GAIN_A k, s.get .SYS_OFS_B k, s.get .SYS_GAIN_B k])
    ++ (List.range 8).flatMap fun j => [s.get .AIN_SYS_OFS j, s.get .AIN_SYS_GAIN j]

/-- A word of the flash window (R46). The private key reads as 0, wherever the store keeps it. -/
def flashRead (s : State) (a : Nat) : Nat :=
  if a < 0x820000 then trunc 32 (Config.flashWord (a / 0x8000 * 0x8000) (areaHolds s ((a - 0x800000) / 0x8000)) (a % 0x8000))
  else if a < 0x838000 then 0
  else if a < 0x83C000 then
    trunc 32 (Config.flashWord 0x838000 (calibrationHolds s) (a - 0x838000))
  else if Config.privateKeyAt (a - 0x83C000) then 0
  else trunc 32 (Config.flashWord 0x83C000 (s.deviceKey ++ s.sec.ownerHash ++ Config.certificateRequest) (a - 0x83C000))

/-- One read on a path: the word and the result bits (R70, R76, R80). -/
def readWord (s : State) (path a : Nat) : State × Nat × Nat :=
  match blockDomain a with
  | none => (s, 0, errAddr)
  | some d =>
    if !domLive s d then (s, 0, errDomain)
    else if isSram a then (s, s.word a, 0)
    else if isFlash a then (s, flashRead s a, 0)
    else
      let hits := slotHits a
      if hits.isEmpty then (s, 0, errAddr)
      else
        let (s, v) := hits.foldl (readHit path) (s, 0)
        (s, v, 0)

/-! ## Writing -/

def countIgnored (s : State) : State := s.count .HOST_WR_IGN 0

/-- A refused write of a sealed slot: counted, and logged at most once per second per path (R77). -/
def refuseSealed (s : State) (path a : Nat) : State :=
  let s := countIgnored s
  if s.flag .PATH_LOGGED path ∧ s.ts < s.get .PATH_LOG_TICK path + ticksPerSecond then s
  else ((s.put .PATH_LOGGED path 1).put .PATH_LOG_TICK path s.ts).record 0x08 0x49 0 a 0

def writable (f : FieldInfo) : Bool := f.acc == .rw || f.acc == .w1c || f.acc == .wo

/-- Bits of the slot that a hit's field fills. -/
def hitMask (h : Hit) : Nat :=
  if h.word = 0 then (2 ^ h.field.width - 1) * 2 ^ h.field.lo % 2 ^ 16
  else (2 ^ (h.field.width - (16 * h.word - h.field.lo)) - 1) % 2 ^ 16

/-- Software mask bits on the field, shifted to its own bit 0. -/
def ownBits (h : Hit) (x : Nat) : Nat := x / 2 ^ h.field.lo % 2 ^ h.field.width

/-- Values the fields of the slot will hold, as far as the word writes them. -/
def slotLook (s : State) (hits : List Hit) (mask data : Nat) (i : Nat) : Reg → Nat := fun r =>
  match hits.find? fun h => h.field.reg = r ∧ h.word = 0 ∧ h.field.acc = .rw with
  | some h => if h.field.lo + h.field.width ≤ 16 then mergeMask (s.get r i) (ownBits h data) (ownBits h mask) else s.get r i
  | none => s.get r i

def isWide (f : FieldInfo) : Bool := decide (16 < f.lo + f.width)

/-- The value a commit of the low word would give a wide field: the low word under its mask, with the write
shadow of the path (R81). -/
def commitValue (s : State) (path : Nat) (h : Hit) (mask data : Nat) : Nat :=
  let held := (writeShadow s path).get h.field.reg h.inst
  let low := mergeMask (s.get h.field.reg h.inst % 2 ^ 16) data mask % 2 ^ 16
  held / 2 ^ 16 * 2 ^ 16 + low

/-- After every commit the write shadow is reloaded with the value now held (R81). -/
def reloadShadow (s : State) (path : Nat) (h : Hit) : State :=
  setWriteShadow s path ((writeShadow s path).set h.field.reg h.inst (s.get h.field.reg h.inst))

/-- One field's part of a write word (R78, R81). -/
def writeHit (path mask data : Nat) (look : Nat → Reg → Nat) (s : State) (h : Hit) : State :=
  let f := h.field
  if mask &&& hitMask h = 0 then s
  else if h.word ≠ 0 then
    if f.acc = .rw ∨ f.acc = .wo then
      let held := (writeShadow s path).get f.reg h.inst
      let sh := 16 * h.word - f.lo
      let v := mergeMask held (data * 2 ^ sh) (mask % 2 ^ 16 * 2 ^ sh)
      setWriteShadow s path ((writeShadow s path).set f.reg h.inst v)
    else s
  else match f.acc with
    | .rw =>
      if isWide f then reloadShadow (fieldWrite s path (look h.inst) f.reg h.inst (commitValue s path h mask data)).1 path h
      else (fieldWrite s path (look h.inst) f.reg h.inst (mergeMask (s.get f.reg h.inst) (ownBits h data) (ownBits h mask))).1
    | .w1c => s.put f.reg h.inst (s.get f.reg h.inst ^^^ (s.get f.reg h.inst &&& ownBits h (mask &&& data)))
    | .wo =>
      if isWide f then reloadShadow (command s f.reg h.inst (commitValue s path h mask data)).1 path h
      else
        let v := ownBits h (mask &&& data)
        if v = 0 then s else (command s f.reg h.inst v).1
    | _ => s

/-- Fields in ascending bit order (R78). -/
def ascending (hits : List Hit) : List Hit :=
  (List.range 16).flatMap fun k => hits.filter fun h => (if h.word = 0 then h.field.lo else 0) == k

/-- A register write word on a path: the state and the result bits (R76 to R81). -/
def writeWord (s : State) (path a w : Nat) : State × Nat :=
  match blockDomain a with
  | none => (s, errAddr)
  | some d =>
    if !domLive s d then (countIgnored s, errDomain)
    else if isSram a then
      if sramWritable a then (s.setWord a w, 0) else (countIgnored s, errIgnored)
    else if isFlash a then (countIgnored s, errIgnored)
    else
      let hits := slotHits a
      let mask := w / 2 ^ 16 % 2 ^ 16
      let data := w % 2 ^ 16
      if hits.isEmpty then (s, errAddr)
      else if mask = 0 then (s, 0)
      else if hits.any fun h => h.field.isSealed && mask &&& hitMask h != 0 then (refuseSealed s path a, errIgnored)
      else if !(hits.any fun h => writable h.field && mask &&& hitMask h != 0) then (countIgnored s, errIgnored)
      else if hits.any fun h => h.field.reg == .DUTY && s.isAxisPort h.inst then (countIgnored s, errIgnored)
      else
        let look := fun i => slotLook s hits mask data i
        ((ascending hits).foldl (writeHit path mask data look) s, 0)

/-! ## Hardware changes in the same handshake (R24, R85) -/

/-- Whether a write word changes a field: it has masked bits on it, the field is writable, and the value is neither rejected
nor refused; a bit of a W1C or WO field acts where mask and data are 1. -/
def hitTaken (s : State) (path mask data : Nat) (look : Nat → Reg → Nat) (h : Hit) : Bool :=
  if h.word ≠ 0 ∨ mask &&& hitMask h = 0 then false
  else match h.field.acc with
    | .rw =>
      let v := if isWide h.field then commitValue s path h mask data
        else mergeMask (s.get h.field.reg h.inst) (ownBits h data) (ownBits h mask)
      (fieldWrite s path (look h.inst) h.field.reg h.inst v).2 == 0
    | .w1c => ownBits h (mask &&& data) != 0
    | .wo => isWide h.field || ownBits h (mask &&& data) != 0
    | _ => false

/-- Counts that wrap at their width where others saturate (R135, R391). -/
def wrappingCount (r : Reg) : Bool := r == .SEG_DONE || r == .STRIP_RUN

/-- The hardware's part on one field, after the software's: it wins on an HW field, is lost and counted on an SW
field the word has changed, and steps an ACC field on top. -/
def clashHit (taken : List (Reg × Nat)) (hwMask hwData : Nat) (inc : Int) (s : State) (h : Hit) : State :=
  let r := h.field.reg
  let hm := ownBits h hwMask
  if h.word ≠ 0 then s
  else match h.field.clash with
    | .hw => if hm = 0 then s else s.put r h.inst (mergeMask (s.get r h.inst) (ownBits h hwData) hm)
    | .sw =>
      if hm = 0 then s
      else if taken.contains (r, h.inst) then s.count .CLASH_LOST 0
      else s.put r h.inst (mergeMask (s.get r h.inst) (ownBits h hwData) hm)
    | .acc =>
      if inc = 0 then s
      else if r = .ENC_POS then moveCount s h.inst inc
      else if wrappingCount r then s.puti r h.inst (s.get r h.inst + inc)
      else s.put r h.inst (clampI 0 (2 ^ h.field.width - 1 : Nat) (s.get r h.inst + inc)).toNat

/-- A write word and the hardware changes pending at the same grant. -/
def writeClash (s : State) (path a w hwMask hwData : Nat) (inc : Int) : State × Nat :=
  let hits := slotHits a
  let mask := w / 2 ^ 16 % 2 ^ 16
  let data := w % 2 ^ 16
  let taken := hits.filter (hitTaken s path mask data fun i => slotLook s hits mask data i)
  let (s, err) := writeWord s path a w
  (hits.foldl (clashHit (if err = 0 then taken.map fun h => (h.field.reg, h.inst) else []) hwMask hwData inc) s, err)

/-! ## IRQN (R74) -/

/-- IRQN is low. -/
def irqLow (s : State) : Bool :=
  s.flag .Q11_WM 0 || s.flag .Q11_FULL 0 || (s.flag .Q15_DATA 0 && s.flag .IRQ_EN_Q15 0) || (s.flag .FAULT 0 && s.flag .IRQ_EN_FAULT 0)

/-! ## Host SPI frames (R67 to R72) -/

def addErr (s : State) (e : Nat) : State := s.put .SPI_BITS 0 (s.get .SPI_BITS 0 ||| e)

/-- The header: SPI_STAT of the previous frame is shifted out, and 0x00 during the three address bytes (R68, R71). -/
def spiHeader (s : State) (cmd addr : Nat) : State :=
  let s := { s with answer := [s.get .SPI_STAT 0, 0, 0, 0] }
  let s := ((s.put .SPI_BITS 0 0).put .SPI_OPEN 0 1).put .SPI_DEAD 0 0
  let s := ((s.put .SPI_WRITE 0 (cmd / 128)).put .SPI_INC 0 (cmd / 64)).put .SPI_ADDR 0 addr
  if cmd % 64 ≠ 0x16 then (addErr s errFrame).put .SPI_DEAD 0 1
  else if addr % 4 ≠ 0 then (addErr s errAddr).put .SPI_DEAD 0 1
  else s

def spiNext (s : State) : State := if s.flag .SPI_INC 0 then s.put .SPI_ADDR 0 (s.get .SPI_ADDR 0 + 4) else s

/-- A complete write word (R69). -/
def spiWrite (s : State) (w : Nat) : State :=
  if s.flag .SPI_OPEN 0 ∧ !s.flag .SPI_DEAD 0 ∧ s.flag .SPI_WRITE 0 then
    let (s, err) := writeWord s 0 (s.get .SPI_ADDR 0) w
    spiNext (addErr s err)
  else s

/-- A read word: marker and data (R70). -/
def spiRead (s : State) (ready : Bool) : State :=
  if s.flag .SPI_OPEN 0 ∧ !s.flag .SPI_DEAD 0 ∧ !s.flag .SPI_WRITE 0 then
    if !ready then { (addErr s errNotReady).put .SPI_DEAD 0 1 with answer := [0x5A, 0] }
    else
      let (s, v, err) := readWord s 0 (s.get .SPI_ADDR 0)
      { spiNext (addErr s err) with answer := [0xA5, v] }
  else s

/-- CSN rises; `cut` tells that a word was cut short. -/
def spiEnd (s : State) (cut : Bool) : State :=
  if !s.flag .SPI_OPEN 0 then s
  else
    let s := if cut ∧ !s.flag .SPI_DEAD 0 then addErr s errFrame else s
    (s.put .SPI_STAT 0 (0xA0 ||| s.get .SPI_BITS 0)).put .SPI_OPEN 0 0

/-! ## Register-window objects (R87, R88) -/

def winStat (s : State) (err : Nat) : State := s.put .REG_WIN_STAT 0 (0xA0 ||| err)

def winNext (s : State) : State :=
  if s.getBit .REG_WIN_CTRL 0 0 then s.put .REG_WIN_ADDR 0 ((s.get .REG_WIN_ADDR 0 + 4) % 2 ^ 24) else s

/-- REG_WIN_DATA read; 0 or an abort code, and the bytes. -/
def winRead (s : State) : State × Nat × List Nat :=
  let (s, v, err) := readWord s 1 (s.get .REG_WIN_ADDR 0)
  let s := winStat s err
  if err = 0 then (winNext s, 0, leBytes 4 v) else (s, 0x08000020, [])

/-- REG_WIN_DATA written. -/
def winWrite (s : State) (w : Nat) : State × Nat :=
  let (s, err) := writeWord s 1 (s.get .REG_WIN_ADDR 0) w
  let s := winStat s err
  if err = 0 then (winNext s, 0) else (s, 0x08000020)

/-- Reading words in order until one fails. -/
def readBlock (s : State) (path a : Nat) : Nat → List Nat → State × Nat × List Nat
  | 0, acc => (s, 0, acc)
  | n + 1, acc =>
    let (s, v, err) := readWord s path a
    if err = 0 then readBlock s path ((a + 4) % 2 ^ 24) n (acc ++ leBytes 4 v) else (s, err, [])

/-- Writing words in order, stopping at the first that fails. -/
def writeBlock (s : State) (path a : Nat) : List Nat → State × Nat
  | [] => (s, 0)
  | w :: t =>
    let (s, err) := writeWord s path a w
    if err = 0 then writeBlock s path ((a + 4) % 2 ^ 24) t else (s, err)

def winBlockRead (s : State) : State × Nat × List Nat :=
  let (s, err, d) := readBlock s 1 (s.get .REG_WIN_ADDR 0) (s.get .REG_WIN_COUNT 0) []
  (winStat s err, if err = 0 then 0 else 0x08000020, d)

def winBlockWrite (s : State) (bytes : List Nat) : State × Nat :=
  if bytes.length = 0 ∨ 1024 < bytes.length ∨ bytes.length % 4 ≠ 0 then (s, 0x06070010)
  else
    let (s, err) := writeBlock s 1 (s.get .REG_WIN_ADDR 0) (wordsOfBytes bytes)
    (winStat s err, if err = 0 then 0 else 0x08000020)

end Sys2Proof.Machine
end

