-- ==== Sys2Proof/Machine/Objects.lean ====
section
/-! DEFINITION. The object dictionary: which objects exist, what they read as, and what a write of one does, for the
objects backed by fields and for those with a behaviour of their own (R25, R87, R105, R112, R404, R424 to R429, R434,
R471, R502). The objects that restart, reset, store or switch something are in Commands. -/

namespace Sys2Proof.Machine

/-! ## Abort codes (R427) -/

def abReadWo : Nat := 0x06010001
def abWriteRo : Nat := 0x06010002
def abNoObject : Nat := 0x06020000
def abNotMappable : Nat := 0x06040041
def abPdoLength : Nat := 0x06040042
def abLength : Nat := 0x06070010
def abNoSub : Nat := 0x06090011
def abRange : Nat := 0x06090030
def abSealed : Nat := 0x08000020
def abState : Nat := 0x08000022
def abNoData : Nat := 0x08000024

/-! ## Objects with a behaviour of their own -/

/-- An object without a row in the table of fields: its subindexes, its length in bytes (0: of any length), access and
seal, and whether a PDO may map it. -/
structure SpecialObj where
  index : Nat
  first : Nat
  last : Nat
  size : Nat
  acc : ObjAcc
  isSealed : Bool
  mappable : Bool
deriving DecidableEq, Repr

/-- The special objects; of an index that repeats per slot, PDO or thermistor, the first. -/
def specialObjs : List SpecialObj := [
  ⟨0x1000, 0, 0, 4, .ro, false, false⟩, ⟨0x1001, 0, 0, 1, .ro, false, false⟩,
  ⟨0x1003, 0, 0, 4, .rw, false, false⟩, ⟨0x1003, 1, 16, 4, .ro, false, false⟩,
  ⟨0x1008, 0, 0, 0, .ro, false, false⟩, ⟨0x1009, 0, 0, 0, .ro, false, false⟩, ⟨0x100A, 0, 0, 0, .ro, false, false⟩,
  ⟨0x1010, 1, 4, 4, .rw, false, false⟩, ⟨0x1011, 1, 4, 4, .rw, false, false⟩,
  ⟨0x1018, 1, 4, 4, .ro, false, false⟩, ⟨0x1200, 1, 2, 4, .ro, false, false⟩,
  ⟨0x1400, 1, 1, 4, .rw, false, false⟩, ⟨0x1400, 2, 2, 1, .rw, false, false⟩, ⟨0x1400, 5, 5, 2, .rw, false, false⟩,
  ⟨0x1600, 0, 0, 1, .rw, false, false⟩, ⟨0x1600, 1, 16, 4, .rw, false, false⟩,
  ⟨0x1800, 1, 1, 4, .rw, false, false⟩, ⟨0x1800, 2, 2, 1, .rw, false, false⟩, ⟨0x1800, 3, 3, 2, .rw, false, false⟩,
  ⟨0x1800, 5, 5, 2, .rw, false, false⟩, ⟨0x1800, 6, 6, 1, .rw, false, false⟩,
  ⟨0x1A00, 0, 0, 1, .rw, false, false⟩, ⟨0x1A00, 1, 16, 4, .rw, false, false⟩,
  ⟨0x2002, 1, 1, 4, .wo, false, false⟩, ⟨0x2012, 0, 0, 1, .wo, false, false⟩, ⟨0x2020, 1, 8, 1, .ro, false, false⟩,
  ⟨0x2118, 1, 32, 4, .rw, false, false⟩, ⟨0x2208, 3, 3, 1, .wo, true, false⟩, ⟨0x2209, 1, 40, 4, .ro, false, false⟩,
  ⟨0x220A, 0, 0, 4, .ro, false, false⟩, ⟨0x2304, 0, 0, 1, .wo, false, false⟩, ⟨0x2306, 0, 0, 1, .wo, false, false⟩,
  ⟨0x2307, 0, 0, 1, .wo, false, false⟩, ⟨0x2420, 3, 3, 0, .rw, false, false⟩, ⟨0x2424, 0, 0, 8, .wo, false, false⟩,
  ⟨0x2425, 0, 0, 8, .ro, false, false⟩, ⟨0x2501, 0, 0, 0, .ro, false, false⟩, ⟨0x2502, 0, 0, 0, .ro, false, false⟩,
  ⟨0x2503, 0, 0, 0, .ro, false, false⟩, ⟨0x2590, 0, 0, 0, .rw, false, false⟩, ⟨0x2600, 1, 1, 1, .rw, false, false⟩,
  ⟨0x2601, 1, 4, 4, .ro, false, false⟩, ⟨0x2602, 1, 4, 0, .ro, false, false⟩, ⟨0x2603, 0, 0, 1, .ro, false, false⟩,
  ⟨0x2800, 0, 0, 0, .wo, false, false⟩, ⟨0x2801, 1, 4, 4, .wo, false, true⟩, ⟨0x2856, 0, 0, 1, .wo, true, false⟩,
  ⟨0x5001, 0, 0, 4, .rw, false, false⟩, ⟨0x5003, 0, 0, 0, .rw, false, false⟩,
  ⟨0x603F, 0, 0, 2, .ro, false, true⟩, ⟨0x6040, 0, 0, 2, .rw, false, true⟩, ⟨0x6041, 0, 0, 2, .ro, false, true⟩,
  ⟨0x6060, 0, 0, 1, .rw, false, true⟩, ⟨0x6064, 0, 0, 4, .ro, false, true⟩, ⟨0x606C, 0, 0, 4, .ro, false, true⟩,
  ⟨0x607D, 1, 2, 4, .ro, true, false⟩, ⟨0x6502, 0, 0, 4, .ro, false, false⟩, ⟨0x67FF, 0, 0, 4, .ro, false, false⟩,
  ⟨0x3000, 0, 0, 2, .rw, false, true⟩, ⟨0x3001, 0, 0, 1, .rw, false, true⟩, ⟨0x3002, 0, 0, 4, .rw, false, true⟩,
  ⟨0x3003, 1, 4, 4, .wo, false, false⟩, ⟨0x3008, 0, 0, 2, .ro, false, true⟩, ⟨0x3009, 0, 0, 1, .ro, false, false⟩,
  ⟨0x300A, 0, 0, 1, .ro, false, false⟩, ⟨0x300B, 0, 0, 4, .ro, false, true⟩, ⟨0x300C, 0, 0, 4, .ro, false, true⟩,
  ⟨0x300F, 0, 0, 1, .ro, false, false⟩]

/-- The first index of a repeated object, and which slot, PDO, thermistor or global axis the index names. -/
def normIndex (idx : Nat) : Nat × Nat :=
  if 0x1400 ≤ idx ∧ idx < 0x1420 then (0x1400, idx - 0x1400)
  else if 0x1600 ≤ idx ∧ idx < 0x1620 then (0x1600, idx - 0x1600)
  else if 0x1800 ≤ idx ∧ idx < 0x1820 then (0x1800, idx - 0x1800)
  else if 0x1A00 ≤ idx ∧ idx < 0x1A20 then (0x1A00, idx - 0x1A00)
  else if 0x2118 ≤ idx ∧ idx < 0x2120 then (0x2118, idx - 0x2118)
  else if 0x2800 ≤ idx ∧ idx < 0x3000 then (0x2800 + idx % 0x100, (idx - 0x2800) / 0x100)
  else if 0x3000 ≤ idx ∧ idx < 0x4000 then (0x3000 + idx % 0x10, (idx - 0x3000) / 0x10)
  else if 0x6000 ≤ idx ∧ idx < 0xA000 then (0x6000 + (idx - 0x6000) % 0x800, (idx - 0x6000) / 0x800)
  else (idx, 0)

/-- A mirror entry exists on the manager when the axis's codes carry its word (R404). -/
def mirrorExists (s : State) (b g : Nat) : Bool :=
  let dn := s.get .RING_DN g
  let up := s.get .RING_UP g
  isManager s && decide (8 ≤ g) &&
    (if b = 0x3000 ∨ b = 0x3001 then dn != 0 else if b = 0x3002 then dn == 2 else if b = 0x3003 then dn == 3
     else if b = 0x3008 ∨ b = 0x3009 ∨ b = 0x300A then up != 0 else if b = 0x300B then decide (2 ≤ up)
     else if b = 0x300C then up == 3 else b == 0x300F && (dn != 0 || up != 0))

/-- The length of a special object; of a thermistor table by the parity of the subindex (R371). -/
def SpecialObj.sizeAt (o : SpecialObj) (sub : Nat) : Nat := if o.index = 0x2118 ∧ sub % 2 = 0 then 2 else o.size

/-- What an index and subindex name. -/
inductive ObjRef where
  | table (row : ObjRow) (inst : Nat)
  | special (o : SpecialObj) (inst : Nat)
  /-- sub 00 of an array: the number of entries -/
  | entries (n : Nat)
  | noSub
  | noObject
deriving DecidableEq, Repr

def rowAt (row : ObjRow) (idx : Nat) : Bool :=
  decide (row.index ≤ idx) && (idx - row.index) % row.stride == 0 && decide ((idx - row.index) / row.stride < row.count)

def rowHas (row : ObjRow) (idx sub : Nat) : Bool := rowAt row idx && decide (row.sub ≤ sub ∧ sub < row.sub + row.subs)

def rowInst (row : ObjRow) (idx sub : Nat) : Nat := match row.inst with
  | .one => 0
  | .slot => (idx - row.index) / row.stride
  | .sub => sub - row.sub

/-- Number of entries of an array (R105, R270, R301, R324, R352, R371); of the others the highest subindex, as CiA 301
has it (PRESUMED, log entry 13). -/
def entryCount (b : Nat) (rows : List ObjRow) (sp : List SpecialObj) : Nat :=
  if b = 0x2040 then 0x20
  else max (rows.foldl (fun n r => max n (r.sub + r.subs - 1)) 0) (sp.foldl (fun n o => max n o.last) 0)

def objRef (s : State) (idx sub : Nat) : ObjRef :=
  let (b, i) := normIndex idx
  if 0x3000 ≤ idx ∧ idx < 0x4000 ∧ !mirrorExists s b i then .noObject
  else match specialObjs.find? fun o => o.index == b && decide (o.first ≤ sub ∧ sub ≤ o.last) with
    | some o => .special o i
    | none => match objRows.find? fun r => rowHas r idx sub with
      | some r => .table r (rowInst r idx sub)
      | none =>
        let rows := objRows.filter fun r => rowAt r idx
        let sp := specialObjs.filter fun o => o.index == b
        if rows.isEmpty ∧ sp.isEmpty then .noObject
        else
          let n := entryCount b rows sp
          if sub = 0 ∧ 0 < n then .entries n else .noSub

/-! ## Reading -/

/-- The present value of a field behind an object. -/
def objField (s : State) (r : Reg) (i : Nat) : Nat := match r with
  | .CH_EN => if i % 32 ≤ 1 then 1 else if inputKind i = 3 then 0 else s.get .CH_EN i
  | r => s.get r i

def tableValue (s : State) (row : ObjRow) (i : Nat) : Nat :=
  row.parts.foldl (fun v p => v + objField s p.reg i % 2 ^ p.width * 2 ^ p.lo) 0

def asciiBytes (t : String) : List Nat := t.toList.map Char.toNat

/-- Decimal digits of a number. -/
def decimalBytes (n : Nat) : List Nat := asciiBytes (toString n)

/-- Trailing zero bytes dropped. -/
def trimZeros (l : List Nat) : List Nat := (l.reverse.dropWhile (· == 0)).reverse

/-- IMG_SEQ and LABEL of a stored image (R453). -/
def imageSeq (img : List Nat) : Nat := leVal ((img.drop 8).take 4)

def imageLabel (img : List Nat) : List Nat := trimZeros ((img.drop 16).take 32)

def profileArea (s : State) (n : Nat) : ProfileArea := s.sec.profiles.getD n ProfileArea.empty

/-- SDO COB-IDs follow the node ID in use (R425). -/
def nodeCob (s : State) (base : Nat) : Nat :=
  if s.get .NODE_ID_ACT 0 = 0xFF then 0x80000000 + base else base + s.get .NODE_ID_ACT 0

/-- Saturation of a 48-bit limit to the 32 bits of the object, as its bit pattern. -/
def limit32 (s : State) (r : Reg) (i : Nat) : Nat := ofSigned 32 (satSigned 32 (s.geti r i))

/-- Value of a numeric special object. -/
def specialValue (s : State) (b i sub : Nat) : Nat :=
  if b = 0x1000 then 0x00030192
  else if b = 0x1001 then errorRegister s
  else if b = 0x1003 then (if sub = 0 then s.get .ERR_COUNT 0 else s.get .ERR_HIST (sub - 1))
  else if b = 0x1018 then
    (if sub = 1 then 0x00000B4D else if sub = 2 then 0x00008032 else if sub = 3 then 0x0B020301 else s.sec.identity.serial)
  else if b = 0x1200 then nodeCob s (if sub = 1 then 0x600 else 0x580)
  else if b = 0x1400 then
    (if sub = 1 then s.get .RPDO_COB i else if sub = 2 then s.get .RPDO_TYPE i else s.get .RPDO_TIMER i)
  else if b = 0x1600 then (if sub = 0 then s.get .RPDO_N i else s.get .RPDO_MAP (16 * i + sub - 1))
  else if b = 0x1800 then
    (if sub = 1 then s.get .TPDO_COB i else if sub = 2 then s.get .TPDO_TYPE i else if sub = 3 then s.get .TPDO_INH i
     else if sub = 5 then s.get .TPDO_TIMER i else s.get .TPDO_START i)
  else if b = 0x1A00 then (if sub = 0 then s.get .TPDO_N i else s.get .TPDO_MAP (16 * i + sub - 1))
  else if b = 0x2020 then (if s.get .SLOT_ENGINE (sub - 1) < 10 then s.get .SLOT_ENGINE (sub - 1) else 0xFF)
  else if b = 0x2118 then
    (if sub % 2 = 1 then s.get .TH_TAB_R (16 * i + sub / 2) else s.get .TH_TAB_T (16 * i + sub / 2 - 1))
  else if b = 0x2209 then
    (if 32 < sub then s.get .AIN_SYS_OFS (sub - 33) + s.get .AIN_SYS_GAIN (sub - 33) * 65536
     else if sub % 2 = 1 then s.get .SYS_OFS_A (sub / 2) + s.get .SYS_GAIN_A (sub / 2) * 65536
     else s.get .SYS_OFS_B (sub / 2 - 1) + s.get .SYS_GAIN_B (sub / 2 - 1) * 65536)
  else if b = 0x220A then
    s.get .CADC_RET 0 + s.get .AADC_RET 0 * 2 ^ 16 + maskOf 8 (s.flag .PAIR_SUSPECT) * 2 ^ 18
      + b2n ((List.range 9).any (s.flag .CHK_REF_FAIL)) * 2 ^ 26
  else if b = 0x2425 then s.get .RS_MISSING 0 + s.get .RS_PEND 0 * 2 ^ 32
  else if b = 0x2600 then s.get .PROF_ACTIVE 0
  else if b = 0x2601 then imageSeq (profileArea s (sub - 1)).image
  else if b = 0x2603 then (profileArea s (s.get .PROF_ACTIVE 0)).armed.length
  else if b = 0x603F then errorCode s i
  else if b = 0x6040 then s.get .CONTROLWORD i
  else if b = 0x6041 then statusword s i
  else if b = 0x6060 then s.get .MODE i
  else if b = 0x6064 then actualValue s i
  else if b = 0x606C then actualVelocity s i
  else if b = 0x607D then limit32 s (if sub = 1 then .SOFTLIM_LO else .SOFTLIM_HI) i
  else if b = 0x6502 then supportedModes s i
  else if b = 0x67FF then slotDeviceType s i
  else if b = 0x3000 then s.get .M_CW i
  else if b = 0x3001 then s.get .M_MODE i
  else if b = 0x3002 then s.get .M_TARGET i
  else if b = 0x3008 then s.get .M_SW i
  else if b = 0x3009 then s.get .M_MODE_DISP i
  else if b = 0x300A then s.get .M_RESERVE i
  else if b = 0x300B then s.get .M_POS_ACT i
  else if b = 0x300C then s.get .M_VEL_ACT i
  else if b = 0x300F then s.get .DEV_EPOCH (i / 8) + s.get .DEV_MISS (i / 8) * 16
  else 0

/-- Bytes of a special object of any length. -/
def specialBytes (s : State) (b sub : Nat) : List Nat :=
  if b = 0x1008 then asciiBytes "GN8032"
  else if b = 0x1009 then asciiBytes "B2"
  else if b = 0x100A then asciiBytes "3.1" ++ (if s.flag .PATCH_RUN 0 then asciiBytes "p" ++ decimalBytes (s.get .PATCH_LEVEL 0) else [])
  else if b = 0x2501 then s.deviceKey
  else if b = 0x2502 then s.sec.identity.factorySignature
  else if b = 0x2503 then (if s.sec.ownerHash = [] then List.replicate 32 0 else s.sec.ownerHash)
  else if b = 0x2602 then imageLabel (profileArea s (sub - 1)).image
  else []

/-- A read of an object: the state, 0 or an abort code, and the bytes. -/
def objRead (s : State) (idx sub : Nat) : State × Nat × List Nat :=
  match objRef s idx sub with
  | .noObject => (s, abNoObject, [])
  | .noSub => (s, abNoSub, [])
  | .entries n => (s, 0, [n])
  | .table row i => if row.acc = .wo then (s, abReadWo, []) else (s, 0, leBytes row.size (tableValue s row i))
  | .special o i =>
    if o.acc = .wo then (s, abReadWo, [])
    else if o.index = 0x5001 then winRead s
    else if o.index = 0x5003 then winBlockRead s
    else if o.index = 0x2590 then
      let s := frameRead s
      (s, s.get .ANS_ABORT 0, s.answer)
    else if o.index = 0x2420 then
      match tunnelBegin s false [] with
      | (s, true) => (s, 0, [])
      | (s, false) => (s, abState, [])
    else if o.index = 0x1003 ∧ s.get .ERR_COUNT 0 < sub then (s, abNoData, [])
    else if o.size = 0 then (s, 0, specialBytes s o.index sub)
    else (s, 0, leBytes (o.sizeAt sub) (specialValue s o.index i sub))

/-! ## Mapping (R428) -/

/-- Length in bytes of an object a PDO may map in a direction: RPDOs map what can be written, TPDOs what can be read.
    POS_EST maps as its low 32 bits (R242). -/
def mapBytes (s : State) (tx : Bool) (idx sub : Nat) : Option Nat :=
  let fits (acc : ObjAcc) (mappable : Bool) : Bool := mappable && (if tx then acc != .wo else acc != .ro)
  match objRef s idx sub with
  | .table row _ => if fits row.acc row.mappable then some (if row.index = 0x2854 then 4 else row.size) else none
  | .special o _ => if fits o.acc o.mappable then some (o.sizeAt sub) else none
  | _ => none

/-- Index, subindex and length in bits of a mapping entry. -/
def mapIndex (e : Nat) : Nat := e / 65536
def mapSub (e : Nat) : Nat := e / 256 % 256
def mapBits (e : Nat) : Nat := e % 256

def mapEntryOk (s : State) (tx : Bool) (e : Nat) : Bool :=
  match mapBytes s tx (mapIndex e) (mapSub e) with
  | some n => mapBits e == 8 * n
  | none => false

/-- Most data a PDO carries. -/
def pdoCapacity (s : State) : Nat := if s.dv .CAN_MODE 0 = 1 then 64 else 8

def pdoMapReg (tx : Bool) : Reg := if tx then .TPDO_MAP else .RPDO_MAP

def mapEntries (s : State) (tx : Bool) (n count : Nat) : List Nat := (List.range count).map fun k => s.get (pdoMapReg tx) (16 * n + k)

/-- Length in bytes of a mapping's data. -/
def mapLength (es : List Nat) : Nat := es.foldl (fun a e => a + mapBits e / 8) 0

/-- Sub 00 of a mapping. While a profile loads, no PDO runs yet and the entries may follow their number. -/
def writeMapCount (s : State) (tx load : Bool) (n v : Nat) : State × Nat :=
  let cob := s.get (if tx then .TPDO_COB else .RPDO_COB) n
  let es := mapEntries s tx n v
  if pdoOn cob ∧ !load then (s, abState)
  else if 16 < v ∨ (pdoCapacity s < mapLength es ∧ !load) then (s, abPdoLength)
  else if !es.all (mapEntryOk s tx) ∧ !load then (s, abNotMappable)
  else (s.put (if tx then .TPDO_N else .RPDO_N) n v, 0)

def writeMapEntry (s : State) (tx load : Bool) (n k v : Nat) : State × Nat :=
  let cob := s.get (if tx then .TPDO_COB else .RPDO_COB) n
  if (pdoOn cob ∨ s.get (if tx then .TPDO_N else .RPDO_N) n ≠ 0) ∧ !load then (s, abState)
  else match objRef s (mapIndex v) (mapSub v) with
    | .noObject => (s, abNoObject)
    | .noSub => (s, abNoSub)
    | _ => if mapEntryOk s tx v then (s.put (pdoMapReg tx) (16 * n + k) v, 0) else (s, abNotMappable)

/-- A PDO COB-ID: 11 bits, with the valid and RTR bits on top. -/
def cobOk (v : Nat) : Bool := v / 2 ^ 11 % 2 ^ 19 == 0

def pdoTypeOk (v : Nat) : Bool := decide (v ≤ 240) || v == 254 || v == 255

/-- PDO communication parameters. -/
def writePdoComm (s : State) (tx : Bool) (n sub v : Nat) : State × Nat :=
  if sub = 1 then
    if !cobOk v then (s, abRange)
    else
      let s := (s.put (if tx then .TPDO_COB else .RPDO_COB) n v).put .COB_WRITTEN (if tx then 32 + n else n) 1
      (if tx then ((s.put .TPDO_SENT n 0).put .TPDO_STARTED n 0).put .TPDO_CNT n 0 else s, 0)
  else if sub = 2 then
    if !pdoTypeOk v then (s, abRange)
    else (s.put (if tx then .TPDO_TYPE else .RPDO_TYPE) n v, 0)
  else if sub = 3 then (s.put .TPDO_INH n v, 0)
  else if sub = 5 then (s.put (if tx then .TPDO_TIMER else .RPDO_TIMER) n v, 0)
  else if v ≤ 240 then (s.put .TPDO_START n v, 0)
  else (s, abRange)

/-! ## Writing -/

/-- Bits of a value that the row's fields fill. -/
def rowMask (row : ObjRow) : Nat := row.parts.foldl (fun m p => m ||| (2 ^ p.width - 1) * 2 ^ p.lo) 0

def partValue (p : ObjPart) (v : Nat) : Nat := v / 2 ^ p.lo % 2 ^ p.width

/-- The values the row's fields will hold. -/
def rowLook (s : State) (row : ObjRow) (i v : Nat) : Reg → Nat := fun r =>
  match row.parts.find? fun p => p.reg == r with
  | some p => partValue p v
  | none => s.get r i

/-- The first part that cannot take its value, with the abort code. -/
def rowFault (s : State) (row : ObjRow) (i v : Nat) : Option (Reg × Nat) :=
  row.parts.findSome? fun p =>
    if fieldRefused s p.reg i then some (p.reg, abState)
    else if !fieldOk s (rowLook s row i v) p.reg i (partValue p v) then some (p.reg, abRange)
    else if fieldConflict (rowLook s row i v) p.reg (partValue p v) then some (p.reg, abState)
    else none

/-- Why R191 refuses the window that a write of CUR_BLANK, T_SAMPLE or WIN_ILK would leave (R212). Values that the
device itself writes are not judged here. -/
def windowFault (s : State) (path : Nat) (row : ObjRow) (i v : Nat) : Option Nat :=
  if path = 4 ∨ !(row.parts.any fun p => windowFields.contains p.reg) then none
  else
    let look := rowLook s row i v
    let p := s.firstPort i
    let c := windowCheck (s.get .PERIOD_DEV p) (s.get .DEAD_DEV p) (look .WIN_ILK) (look .CUR_BLANK) (look .T_SAMPLE)
    if c = 0 then none else some c

/-- All parts take their values; the answer is an abort code where a rule of a field refuses. -/
def rowStore (path i v : Nat) (look : Reg → Nat) : List ObjPart → State → State × Nat
  | [], s => (s, 0)
  | p :: t, s =>
    let (s, r) := fieldWrite s path look p.reg i (partValue p v)
    if r = 0 then rowStore path i v look t s else (s, if r = 1 then abRange else abState)

/-- The write-one commands of a row, from the lowest bit up. -/
def rowCommands (i v : Nat) : List ObjPart → State → State × Nat
  | [], s => (s, 0)
  | p :: t, s =>
    let x := partValue p v
    if x = 0 ∧ p.width = 1 then rowCommands i v t s
    else
      let (s, ok) := command s p.reg i x
      if ok then rowCommands i v t s else (s, abState)

/-- A write of X_DUTY or CMP_B above its field is written as the largest value (R270). -/
def clampObject (idx v : Nat) : Nat := if idx = 0x2032 ∨ idx = 0x2038 then min v 0x7FFFF else v

/-- A write-one object of a single command takes the value 1 alone. -/
def oneOnly (row : ObjRow) : Bool := match row.parts with
  | [p] => p.width == 1
  | _ => false

def tableWrite (s : State) (path idx : Nat) (row : ObjRow) (i v0 : Nat) : State × Nat :=
  let v := clampObject idx v0
  if v &&& rowMask row ≠ v then (s, abRange)
  else if row.acc = .wo then
    if (oneOnly row ∧ v ≠ 1) ∨ (idx = 0x207B ∧ v = 0) then (s, abRange) else rowCommands i v row.parts s
  else match rowFault s row i v, windowFault s path row i v with
    | some (r, a), _ => (fieldReject s r i, a)
    | none, some why => (rejectWindow s i why, abState)
    | none, none =>
      let (s, a) := rowStore path i v (rowLook s row i v) row.parts s
      (if idx = 0x2055 ∧ a = 0 then s.put .OVER_GD_APPLY i 1 else s, a)

/-- Gates of every port of a slot read low. -/
def slotGatesLow (s : State) (i : Nat) : Bool := (s.slotPorts i).all (gatesLow s)

/-- Modes of operation (R138). -/
def writeMode (s : State) (i : Nat) (v : Nat) : State × Nat :=
  let m := toSigned 8 v
  if !modeCode m then (s, abRange)
  else if !modeSupported (s.kind i) m then (s, abState)
  else (s.put .MODE i v, 0)

/-- Objects the ring governs on a slot that belongs to it (R398, R403). -/
def ringGoverned (b : Nat) : Bool := b == 0x6040 || b == 0x6060 || b == 0x607A || b == 0x60C1 || b == 0x60FF

/-- SEG_PDO (R112): sub 04 enqueues. -/
def writeSegPdo (s : State) (i sub v : Nat) : State × Nat :=
  let s := s.put .SEG_PDO_W (4 * i + sub - 1) v
  if sub ≠ 4 then (s, 0)
  else
    let ok := s.dv .PRODUCER i == 1
    (segEnqueueBy s i 1 ((List.range 4).map fun k => s.get .SEG_PDO_W (4 * i + k)), if ok then 0 else abState)

/-- Worker mirrors (R404). -/
def writeMirror (s : State) (b g sub v : Nat) : State × Nat :=
  if b = 0x3000 then (mirrorControlword s g v, 0)
  else if b = 0x3001 then (s.put .M_MODE g v, 0)
  else if b = 0x3002 then (s.put .M_TARGET g v, 0)
  else if sub = 1 then (s.put .M_SEG_0 g v, 0)
  else if sub = 2 then (s.put .M_SEG_1 g v, 0)
  else if sub = 3 then (s.put .M_SEG_2 g v, 0)
  else ((s.put .M_SEG_3 g v).put .M_SEG_SEND g 1, 0)

/-- A refusal as an abort in the present state. -/
def stateAbort (x : State × Bool) : State × Nat := (x.1, if x.2 then 0 else abState)

/-- Numeric special objects but for those of Commands. -/
def specialWrite (s : State) (load : Bool) (b i sub v : Nat) : State × Nat :=
  if b = 0x1003 then (if v = 0 then ((List.range 16).foldl (fun a k => a.put .ERR_HIST k 0) (s.put .ERR_COUNT 0 0), 0) else (s, abRange))
  else if b = 0x1400 then writePdoComm s false i sub v
  else if b = 0x1800 then writePdoComm s true i sub v
  else if b = 0x1600 then (if sub = 0 then writeMapCount s false load i v else writeMapEntry s false load i (sub - 1) v)
  else if b = 0x1A00 then (if sub = 0 then writeMapCount s true load i v else writeMapEntry s true load i (sub - 1) v)
  else if b = 0x2012 then (if v = 1 then (portmapApply s, 0) else (s, abRange))
  else if b = 0x2118 then
    ((if sub % 2 = 1 then s.put .TH_TAB_R (16 * i + sub / 2) v else s.put .TH_TAB_T (16 * i + sub / 2 - 1) v).put .TH_TAB_NEW i 1, 0)
  else if b = 0x2304 then (if v = 0 then (s, abRange) else stateAbort (migrateMask s v))
  else if b = 0x2424 then stateAbort (ringSheet s v)
  else if b = 0x2801 then writeSegPdo s i sub v
  else if b = 0x5001 then winWrite s v
  else if b = 0x6040 then (writeControlword s i v (slotGatesLow s i), 0)
  else if b = 0x6060 then writeMode s i v
  else if 0x3000 ≤ b ∧ b < 0x4000 then writeMirror s b i sub v
  else (s, abState)

/-- Special objects of any length. -/
def specialWriteBytes (s : State) (b i : Nat) (bytes : List Nat) : State × Nat :=
  if b = 0x5003 then winBlockWrite s bytes
  else
    let s := s.put .ANS_ABORT 0 0
    let s := if b = 0x2800 then segWrite s i bytes else if b = 0x2590 then frameWrite s bytes
      else if 1024 < bytes.length then s.reply abLength []
      else match tunnelBegin s true bytes with
        | (s, true) => s
        | (s, false) => s.reply abState []
    (s, s.get .ANS_ABORT 0)

/-- A write of an object by a writer of role `auth`: 0 plain SDO or USDO, 1 to 3 a session's role, 4 the device itself,
as for a profile or a commit (R446, R460, R502). The objects of Commands are taken out before. -/
def objStore (s : State) (auth path idx sub : Nat) (bytes : List Nat) : State × Nat :=
  let (b, _) := normIndex idx
  match objRef s idx sub with
  | .noObject => (s, abNoObject)
  | .noSub => (s, abNoSub)
  | .entries _ => (s, abWriteRo)
  | .table row i =>
    if row.acc = .ro then (s, abWriteRo)
    else if row.isSealed ∧ auth < 4 then (s, abSealed)
    else if bytes.length ≠ row.size then (s, abLength)
    else if auth < 4 ∧ ringGoverned b ∧ inRing s i then (s, abState)
    else tableWrite s path idx row i (leVal bytes)
  | .special o i =>
    if o.acc = .ro then (s, abWriteRo)
    else if o.isSealed ∧ auth < 4 then (s, abSealed)
    else if o.size = 0 then specialWriteBytes s o.index i bytes
    else if bytes.length ≠ o.sizeAt sub then (s, abLength)
    else if auth < 4 ∧ ringGoverned b ∧ inRing s i then (s, abState)
    else specialWrite s (auth == 4) o.index i sub (leVal bytes)

/-- Whether an object is sealed. -/
def objSealed (s : State) (idx sub : Nat) : Bool := match objRef s idx sub with
  | .table row _ => row.isSealed
  | .special o _ => o.isSealed
  | _ => false

/-- Whether an object is a command: written, never read. -/
def objCommand (s : State) (idx sub : Nat) : Bool := match objRef s idx sub with
  | .table row _ => row.acc == .wo
  | .special o _ => o.acc == .wo
  | _ => false

end Sys2Proof.Machine
end

