-- ==== Sys2Proof/Machine/Session.lean ====
section
/-! DEFINITION. Refusals, the service session and its end, and staged sealed writes (R446, R460 to R463, R468, R469). -/

namespace Sys2Proof.Machine

/-! ## Refusals and the log -/

/-- Whom an entry of the log names: the token of the open session, or nobody. -/
def actorOf (s : State) : Nat := if s.flag .SESS_OPEN 0 then s.get .SESS_TOKEN 0 else 0

def subjectOf (idx sub : Nat) : Nat := idx * 65536 + sub

/-- A security refusal: counted, kept, posted and logged; `what` is the command or the index (R468, R469). -/
def refuse (s : State) (code what subject : Nat) : State :=
  let s := ((s.count .REFUSALS 0).put .LAST_REFUSAL 0 code).post 0x0F00 0xA noSlot (code + what * 256)
  s.record 0x08 code (actorOf s) subject 0

/-! ## The session -/

/-- A session is open on a path. -/
def sessionOn (s : State) (path : Nat) : Bool := s.flag .SESS_OPEN 0 && s.get .SESS_PATH 0 == path

/-- Role of a writer on a path: 0 without a session there. -/
def authOn (s : State) (path : Nat) : Nat := if sessionOn s path then s.get .SESS_ROLE 0 else 0

def dropStaged (s : State) : State := { s.put .STAGED 0 0 with sec := { s.sec with staged := [] } }

/-- Causes of a session's end, in the order of R463. -/
def endClose : Nat := 0
def endIdle : Nat := 1
def endExpired : Nat := 2
def endRevoked : Nat := 3
def endClaim : Nat := 4
def endDrops : Nat := 5
def endRestart : Nat := 6
def endDtr : Nat := 7

/-- The session ends: staged writes and a running upload are dropped, and the end is logged with its reason. -/
def endSession (s : State) (cause : Nat) : State :=
  if !s.flag .SESS_OPEN 0 then s
  else
    let why := Config.endReason cause % 16
    let s := s.post 0x0F01 0xA noSlot (s.get .SESS_ROLE 0 + s.get .SESS_PATH 0 * 16 + why * 4096)
    let s := s.record 0x07 0 (actorOf s) (s.get .SESS_ID 0) why
    let s := dropStaged s
    let s := ((s.put .SESS_OPEN 0 0).put .SESS_ROLE 0 0).put .SESS_PATH 0 0
    { s with sec := { s.sec with token := [], key := [], upload := none } }

/-- A frame of the session is dropped; the eighth ends it (R461). -/
def sessionDrop (s : State) (code cmd : Nat) : State :=
  let s := (refuse s code cmd cmd).count .SESS_DROPS 0
  if 8 ≤ s.get .SESS_DROPS 0 then endSession s endDrops else s

/-! ## Staged sealed writes (R462) -/

/-- The range of a field by itself; the commit judges it beside its neighbours. -/
def ownRange (s : State) (r : Reg) (i v : Nat) : Bool :=
  fieldOk s (lookNow s i) r i v

/-- Check of a value that is to be staged: 0 or an abort code. -/
def stageCheck (s : State) (idx sub : Nat) (bytes : List Nat) : Nat :=
  match objRef s idx sub with
  | .table row i =>
    let v := leVal bytes
    if row.acc ≠ .rw then abWriteRo
    else if bytes.length ≠ row.size then abLength
    else if v &&& rowMask row ≠ v ∨ !(row.parts.all fun p => ownRange s p.reg i (partValue p v)) then abRange
    else 0
  | .special o _ => if o.acc = .ro then abWriteRo else abState
  | .entries _ => abWriteRo
  | .noSub => abNoSub
  | .noObject => abNoObject

/-- Staging one write; the answer is a refusal code, or an abort code. -/
def stage (s : State) (idx sub : Nat) (bytes : List Nat) : State × Nat × Nat :=
  let a := stageCheck s idx sub bytes
  if a ≠ 0 then (s, 0, a)
  else if 64 ≤ s.sec.staged.length then (refuse s 0x56 0x02 (subjectOf idx sub), 0x56, 0)
  else ({ s.put .STAGED 0 (s.sec.staged.length + 1) with sec := { s.sec with staged := s.sec.staged ++ [⟨idx, sub, bytes⟩] } }, 0, 0)

/-- The value a field will hold once the staged set applies. -/
def stagedLook (s : State) (es : List ObjEntry) (i : Nat) (r : Reg) : Nat :=
  es.foldl (fun v e => match objRef s e.index e.sub with
    | .table row j => match row.parts.find? fun p => p.reg == r with
      | some p => if j = i then partValue p (leVal e.value) else v
      | none => v
    | _ => v) (s.get r i)

/-- The rules of a staged write against the whole set and the values in force. -/
def stagedOk (s : State) (es : List ObjEntry) (e : ObjEntry) : Bool :=
  match objRef s e.index e.sub with
  | .table row i => row.parts.all fun p =>
    !fieldRefused s p.reg i && fieldOk s (stagedLook s es i) p.reg i (partValue p (leVal e.value))
      && !fieldConflict (stagedLook s es i) p.reg (partValue p (leVal e.value))
  | _ => false

/-- The stored value of an entry, into its latent copies. -/
def applyStaged (s : State) (e : ObjEntry) : State :=
  match objRef s e.index e.sub with
  | .table row i =>
    let s := row.parts.foldl (fun a p => (fieldApply a 0 p.reg i (partValue p (leVal e.value))).1) s
    if e.index = 0x2055 then s.put .OVER_GD_APPLY i 1 else s
  | _ => s

/-- An entry of an overlay, in place of an older value of the same object. -/
def overlayPut (l : List ObjEntry) (e : ObjEntry) : List ObjEntry :=
  (l.filter fun x => !(x.index == e.index && x.sub == e.sub)) ++ [e]

def setProfile (s : State) (n : Nat) (a : ProfileArea) : State :=
  { s with sec := { s.sec with profiles := s.sec.profiles.set n a } }

/-- A sealed value changes: overlay of the active profile, event and log (R462, R466, R469). -/
def sealedChange (s : State) (e : ObjEntry) : State :=
  let n := s.get .PROF_ACTIVE 0
  let a := profileArea s n
  let s := if n < 4 then setProfile s n { a with sealedOverlay := overlayPut a.sealedOverlay e } else s
  let s := s.post 0x0F03 0xA noSlot (subjectOf e.index e.sub)
  s.record 0x01 0 (actorOf s) (subjectOf e.index e.sub) (trunc 32 (leVal e.value))

/-- SESS_COMMIT: 0 or a refusal code, with the payload. -/
def commit (s : State) : State × Nat × List Nat :=
  let es := s.sec.staged
  if s.flag .PROF_SWITCHING 0 then (refuse s 0x51 0x13 0, 0x51, [])
  else match es.find? fun e => !stagedOk s es e with
    | some e => (refuse s 0x59 0x13 (subjectOf e.index e.sub), 0x59, leBytes 2 e.index ++ [e.sub])
    | none =>
      let s := es.foldl applyStaged s
      let s := es.foldl sealedChange s
      (dropStaged s, 0, [es.length])

end Sys2Proof.Machine
end

