-- ==== Sys2Proof/Machine/Profile.lean ====
section
/-! DEFINITION. Stored profiles: images, overlays, scripts, checks, loading, switching, and store and restore
parameters (R16, R446, R452 to R457). -/

namespace Sys2Proof.Machine

/-! ## Images (R453) -/

def slice (l : List Nat) (from' n : Nat) : List Nat := (l.drop from').take n

/-- A field of a message, little-endian. -/
def fieldAt (l : List Nat) (off n : Nat) : Nat := leVal (slice l off n)

def imageBodyLen (img : List Nat) : Nat := fieldAt img 12 4

/-- Entries of a body with their byte offset in the image and whether they belong to the script; the first argument
bounds their number. `none` where the body is malformed, with the offset. -/
def bodyEntries : Nat → Nat → List Nat → Except Nat (List (Nat × Bool × ObjEntry))
  | 0, _, _ => .ok []
  | n + 1, off, l =>
    if l = [] then .ok []
    else
      let lenf := l.getD 3 0
      let len := lenf % 128
      let whole := (4 + len + 3) / 4 * 4
      if len = 0 ∨ 64 < len ∨ l.length < whole then .error off
      else (bodyEntries n (off + whole) (l.drop whole)).map fun t =>
        (off, decide (128 ≤ lenf), ⟨fieldAt l 0 2, l.getD 2 0, slice l 4 len⟩) :: t

def imageEntries (img : List Nat) : Except Nat (List (Nat × Bool × ObjEntry)) :=
  bodyEntries (imageBodyLen img) 48 (slice img 48 (imageBodyLen img))

/-- Value entries and script entries of a stored image. -/
def imageValues (img : List Nat) : List ObjEntry := match imageEntries img with
  | .ok l => (l.filter fun x => !x.2.1).map fun x => x.2.2
  | .error _ => []

def imageScript (img : List Nat) : List ObjEntry := match imageEntries img with
  | .ok l => (l.filter fun x => x.2.1).map fun x => x.2.2
  | .error _ => []

/-- Size of an image's part of an area (R452). -/
def imageMax : Nat := 24576

/-- Layout: type, format and lengths agree. -/
def imageShape (img : List Nat) : Bool :=
  decide (img.length ≤ imageMax) && fieldAt img 0 2 == 4 && img.getD 2 0 == 1 && imageBodyLen img % 4 == 0
    && img.length == 48 + imageBodyLen img + 128

def ownsKey (s : State) (key : List Nat) : Bool := s.sec.ownerHash != [] && sha256 key == s.sec.ownerHash

/-- Owner, signature and serial checks (R454, R455): 0 or the refusal. -/
def imageFault (s : State) (img : List Nat) : Nat :=
  let n := img.length
  let key := slice img (n - 128) 64
  if !s.flag .CLAIMED 0 then 0x40
  else if !ownsKey s key then 0x43
  else if !ecdsaVerifies key (img.take (n - 64)) (img.drop (n - 64)) then 0x42
  else if fieldAt img 4 4 ≠ 0 ∧ fieldAt img 4 4 ≠ s.sec.identity.serial then 0x44
  else 0

/-- An area whose image passes the checks of R455. -/
def areaValid (s : State) (n : Nat) : Bool :=
  let img := (profileArea s n).image
  img != [] && imageShape img && imageFault s img == 0

def refreshValid (s : State) : State := s.put .PROF_VALID 0 (maskOf 4 (areaValid s))

/-! ## Parameters and their defaults -/

/-- Objects that carry process data, presets or commands rather than parameters: no profile and no store restores
their default. -/
def processObject (idx : Nat) : Bool :=
  let b := (normIndex idx).1
  b == 0x607A || b == 0x60FF || b == 0x60C1 || b == 0x6040 || b == 0x6060 || b == 0x2059 || b == 0x2075 || b == 0x2002
    || b == 0x2420 || b == 0x5000 || b == 0x5002 || b == 0x5004

/-- Counters, which software may set but no profile restores. -/
def counterObject (idx : Nat) : Bool :=
  let b := (normIndex idx).1
  b == 0x203E || b == 0x207A || b == 0x2301 || b == 0x2807 || b == 0x2500 || (b == 0x2853)

def isParameter (row : ObjRow) (idx sub : Nat) : Bool :=
  row.acc == .rw && !processObject idx && !counterObject idx && !(idx == 0x2310 && decide (5 ≤ sub))

/-- Every index and subindex of a row, with the instance. -/
def rowPlaces (row : ObjRow) : List (Nat × Nat × Nat) :=
  (List.range row.count).flatMap fun k => (List.range row.subs).map fun m =>
    (row.index + k * row.stride, row.sub + m, match row.inst with | .one => 0 | .slot => k | .sub => m)

/-- Every parameter held in fields, with its row and instance. -/
def parameters : List (ObjRow × Nat × Nat × Nat) :=
  objRows.flatMap fun row => ((rowPlaces row).filter fun x => isParameter row x.1 x.2.1).map fun x => (row, x)

/-- Parameters back at their reset values, latent copies only. -/
def defaultsWhere (s : State) (p : ObjRow → Nat → Nat → Bool) : State :=
  parameters.foldl (fun a x => if p x.1 x.2.1 x.2.2.1 then x.1.parts.foldl (fun b q => b.clear q.reg x.2.2.2) a else a) s

/-- Both copies of every parameter. -/
def developParameters (s : State) : State :=
  parameters.foldl (fun a x => x.1.parts.foldl (fun b q => if q.reg = .SLOT_KIND then b else b.develop q.reg x.2.2.2) a) s

/-- Values written with the device's own authority; one that does not apply any more changes nothing. -/
def applyEntries (s : State) (es : List ObjEntry) : State := es.foldl (fun a e => (objStore a 4 0 e.index e.sub e.value).1) s

/-- Everything an area names, in the order of R452. -/
def areaEntries (s : State) (n : Nat) : List ObjEntry :=
  let a := profileArea s n
  imageValues a.image ++ a.sealedOverlay ++ a.openOverlay

def activeEntries (s : State) : List ObjEntry := if s.get .PROF_ACTIVE 0 < 4 then areaEntries s (s.get .PROF_ACTIVE 0) else []

/-! ## Scripts (R453) -/

/-- At the first load of a newly stored image, its script arms its commands. -/
def armScript (s : State) (n : Nat) : State :=
  let a := profileArea s n
  if !a.fresh then setProfile s n { a with changed := false }
  else
    let sc := imageScript a.image
    let s := setProfile s n { a with armed := sc, fresh := false, changed := false }
    sc.foldl (fun b e => b.record 0x01 0 deviceActor (subjectOf e.index e.sub) (trunc 32 (leVal e.value))) s

/-- The active profile has armed a command with this value. -/
def isArmed (s : State) (idx sub : Nat) (bytes : List Nat) : Bool :=
  decide (s.get .PROF_ACTIVE 0 < 4) && (profileArea s (s.get .PROF_ACTIVE 0)).armed.contains ⟨idx, sub, bytes⟩

/-- A command that has run is no longer armed. -/
def disarm (s : State) (idx sub : Nat) (bytes : List Nat) : State :=
  let n := s.get .PROF_ACTIVE 0
  let a := profileArea s n
  setProfile s n { a with armed := a.armed.erase ⟨idx, sub, bytes⟩ }

/-! ## Switching (R457) -/

/-- Which slot an object belongs to: its own, or that of its port or channel. -/
def entrySlot (s : State) (idx sub : Nat) : Option Nat :=
  if 0x2800 ≤ idx ∧ idx < 0x3000 ∨ 0x6000 ≤ idx ∧ idx < 0xA000 then some (normIndex idx).2
  else if 0x2030 ≤ idx ∧ idx ≤ 0x203E ∨ 0x2050 ≤ idx ∧ idx ≤ 0x2053 then
    if idx = 0x203B ∨ sub = 0 then none
    else if s.isAxisPort (sub - 1) then some (s.portOwner (sub - 1)) else none
  else if 0x2070 ≤ idx ∧ idx ≤ 0x207D ∨ idx = 0x2401 then some (sub - 1)
  else none

/-- Objects that wait for the NMT reset communication. -/
def isComm (idx : Nat) : Bool := decide (0x1000 ≤ idx ∧ idx < 0x2000) || idx == 0x2001

/-- The switch is complete once every slot and the device-wide objects have developed. -/
def switchDone (s : State) : State :=
  if !s.flag .PROF_SWITCHING 0 ∨ s.get .PROF_WAIT 0 ≠ 0 ∨ s.flag .PROF_DEVICE 0 then s
  else
    let n := s.get .PROF_TARGET 0
    let s := (s.put .PROF_ACTIVE 0 n).put .PROF_SWITCHING 0 0
    let s := (s.put .SAFE_BOOT 0 0).post 0x0F02 0xA noSlot (n + s.get .PROF_WAITED 0 * 256)
    let s := s.record 0x03 0 (s.get .PROF_LOGTOK 0) n 0
    armScript { s with sec := { s.sec with switching := [] } } n

/-- The objects of a slot take the new profile's values (PROFILE_SLOT_DEVELOP). -/
def switchSlot (s : State) (i : Nat) : State :=
  if !s.getBit .PROF_WAIT 0 i then s
  else
    let mine (idx sub : Nat) : Bool := entrySlot s idx sub == some i
    let es := s.sec.switching.filter fun e => mine e.index e.sub
    let s := defaultsWhere s fun _ idx sub => mine idx sub
    switchDone ((applyEntries s es).setBit .PROF_WAIT 0 i false)

/-- The role a port has in the profile that is being taken: that of its entry, else the reset value. -/
def comingRole (s : State) (p : Nat) : Nat :=
  match s.sec.switching.reverse.find? fun e => e.index == 0x2010 && e.sub == p + 1 with
  | some e => leVal e.value
  | none => Reg.reset .PORT_ROLE p

/-- The kind a slot has in the profile that is being taken. -/
def comingKind (s : State) (i : Nat) : Nat :=
  match s.sec.switching.reverse.find? fun e => e.index == 0x2011 && e.sub == i + 1 with
  | some e => leVal e.value
  | none => Reg.reset .SLOT_KIND i

/-- Whether a slot's ports or its kind change across the switch (R98). -/
def mapChanges (s : State) (i : Nat) : Bool :=
  comingKind s i != s.kind i || (List.range 32).any fun p =>
    comingRole s p != s.get .PORT_ROLE_DEV p && (s.portOwner p == i || roleOwner (comingRole s p) == i)

/-- The slot may take a new profile: below Switched on, or at standstill where its ports stay (R98). -/
def mayTakeProfile (s : State) (i : Nat) : Bool := s.slotDisabled i || (s.flag .STILL_CMD i && !mapChanges s i)

/-- PROFILE_SLOT_DEVELOP of a motion update. -/
def switchSlotDue (s : State) (i : Nat) : State := if mayTakeProfile s i then switchSlot s i else s

/-- The latent map is neither the developed nor the accepted one. -/
def mapDiffers (s : State) : Bool :=
  (List.range 32).any (fun p => s.get .PORT_ROLE p != s.get .PORT_ROLE_DEV p || s.get .PORT_ROLE p != s.get .MAP_ROLE p)
    || (List.range 8).any fun i => s.get .SLOT_KIND i != s.kind i || s.get .SLOT_KIND i != s.get .MAP_KIND i

/-- The device-wide objects at the status tick; a port map that differs is applied as a whole (R98). -/
def switchDevice (s : State) : State :=
  if !s.flag .PROF_DEVICE 0 then s
  else
    let device (idx sub : Nat) : Bool := (entrySlot s idx sub).isNone && !isComm idx
    let es := s.sec.switching.filter fun e => device e.index e.sub
    let s := applyEntries (defaultsWhere s fun _ idx sub => device idx sub) es
    switchDone ((if mapDiffers s then portmapApply s else s).put .PROF_DEVICE 0 0)

/-- PROF_SELECT after its range has been judged: an abort code. Slots of kind 0x00 have no motion update and take
their values at once. -/
def profSelect (s : State) (v : Nat) : State × Nat :=
  let subj := subjectOf 0x2600 1
  if s.flag .PROF_SWITCHING 0 then (refuse s 0x51 0x2600 subj, abState)
  else if !areaValid s v then (refuse s 0x52 0x2600 subj, abState)
  else if s.get .PROF_ACTIVE 0 = v ∧ !(profileArea s v).changed then (s, 0)
  else
    let wait := maskOf 8 fun i => s.kind i != 0
    let s := { s with sec := { s.sec with switching := areaEntries s v } }
    let s := ((s.put .PROF_TARGET 0 v).put .PROF_SWITCHING 0 1).put .PROF_WAIT 0 wait
    let s := s.put .PROF_WAITED 0 (maskOf 8 fun i => bit wait i && !mayTakeProfile s i)
    let s := ((s.put .PROF_DEVICE 0 1).put .PROF_COMM 0 1).put .PROF_LOGTOK 0 (actorOf s)
    let idle := idsWhere 8 fun i => s.kind i == 0
    (idle.foldl (fun a i => (switchSlot (a.setBit .PROF_WAIT 0 i true) i)) s, 0)

/-! ## Reloading from the active profile (R422) -/

/-- Entries that apply at an NMT reset communication: those of a running switch, else of the active profile. -/
def commEntries (s : State) : List ObjEntry :=
  (if s.flag .PROF_SWITCHING 0 then s.sec.switching else activeEntries s).filter fun e => isComm e.index

/-- The predefined COB-IDs follow the node ID in use, except those that have been written (R420, R429). -/
def defaultCob (s : State) (base : Nat) : Nat := if s.get .NODE_ID_ACT 0 = 0xFF then base + 2 ^ 31 else base + s.get .NODE_ID_ACT 0

def reloadCobs (s : State) : State :=
  let s := s.each 4 (fun a n => !a.flag .COB_WRITTEN n) fun a n => a.put .RPDO_COB n (defaultCob a (0x200 + 0x100 * n))
  let s := s.each 4 (fun a n => !a.flag .COB_WRITTEN (32 + n)) fun a n => a.put .TPDO_COB n (defaultCob a (0x180 + 0x100 * n))
  if s.flag .COB_WRITTEN 64 then s else s.put .COB_EMCY 0 (defaultCob s 0x80)

/-- PDO parameters but for written COB-IDs. -/
def pdoDefaults (s : State) : State :=
  let s := (List.range 32).foldl (fun a n =>
    a.clearAll [.RPDO_TYPE, .RPDO_TIMER, .RPDO_N, .RPDO_WAIT, .TPDO_TYPE, .TPDO_INH, .TPDO_TIMER, .TPDO_START, .TPDO_N, .TPDO_CHG,
      .TPDO_SENT, .TPDO_CNT, .TPDO_STARTED] n) s
  (List.range 512).foldl (fun a k => (a.clear .RPDO_MAP k).clear .TPDO_MAP k) s

/-- Objects 0x1000 to 0x1FFF from the active profile. -/
def reloadComm (s : State) : State :=
  let es := commEntries s
  let emcy := s.get .COB_EMCY 0
  let s := defaultsWhere s fun _ idx _ => isComm idx && (idx != 0x2001 || s.flag .PROF_COMM 0)
  let s := reloadCobs (pdoDefaults (s.put .COB_EMCY 0 emcy))
  (applyEntries s (es.filter fun e => e.index != 0x2001 || s.flag .PROF_COMM 0)).put .PROF_COMM 0 0

/-- Every open object from the active profile; sealed values are kept. -/
def reloadOpen (s : State) : State :=
  let es := (activeEntries s).filter fun e => !objSealed s e.index e.sub && !isComm e.index
  applyEntries (defaultsWhere s fun row idx _ => !row.isSealed && !isComm idx) es

/-! ## Store and restore (R456) -/

/-- Objects of a group of 0x1010 and 0x1011. -/
def storeGroup (sub idx : Nat) : Bool :=
  if sub = 1 then true
  else if sub = 2 then decide (0x1000 ≤ idx ∧ idx < 0x2000)
  else if sub = 3 then decide (0x6000 ≤ idx ∧ idx < 0xA000)
  else decide (0x2000 ≤ idx ∧ idx < 0x6000)

/-- Open parameters held outside the table: PDO parameters and thermistor tables. -/
def specialParams : List (Nat × Nat) :=
  ((List.range 32).flatMap fun n =>
    [0, 1, 2, 5].map (fun k => (0x1400 + n, k)) ++ (List.range 17).map (fun k => (0x1600 + n, k))
      ++ [1, 2, 3, 5, 6].map (fun k => (0x1800 + n, k)) ++ (List.range 17).map fun k => (0x1A00 + n, k))
  ++ (List.range 8).flatMap fun n => (List.range 32).map fun k => (0x2118 + n, k + 1)

/-- The present value of an open object, as an entry. -/
def openEntry (s : State) (idx sub : Nat) : Option ObjEntry := match objRef s idx sub with
  | .table row i => some ⟨idx, sub, leBytes row.size (tableValue s row i)⟩
  | .special o i => if o.acc = .rw then some ⟨idx, sub, leBytes (o.sizeAt sub) (specialValue s o.index i sub)⟩ else none
  | _ => none

/-- A COB-ID that follows the node ID is not stored, so that it goes on following. -/
def cobFollows (s : State) (idx sub : Nat) : Bool :=
  (decide (0x1400 ≤ idx ∧ idx < 0x1420) && sub == 1 && !s.flag .COB_WRITTEN (idx - 0x1400))
    || (decide (0x1800 ≤ idx ∧ idx < 0x1820) && sub == 1 && !s.flag .COB_WRITTEN (32 + idx - 0x1800))
    || (idx == 0x1014 && !s.flag .COB_WRITTEN 64)

/-- The open objects of a group with their present values. -/
def openEntries (s : State) (group : Nat) : List ObjEntry :=
  (((parameters.filter fun x => !x.1.isSealed).map fun x => (x.2.1, x.2.2.1)) ++ specialParams).filterMap fun x =>
    if storeGroup group x.1 && !cobFollows s x.1 x.2 then openEntry s x.1 x.2 else none

def keepOthers (l : List ObjEntry) (group : Nat) : List ObjEntry := l.filter fun e => !storeGroup group e.index

/-- No store while the safe profile runs or a switch is pending. -/
def storeBarred (s : State) : Bool := decide (4 ≤ s.get .PROF_ACTIVE 0) || s.flag .PROF_SWITCHING 0

/-- Store parameters. -/
def storeParameters (s : State) (sub v : Nat) : State × Nat :=
  if v ≠ 0x65766173 then (s, abRange)
  else if storeBarred s then (s, abSealed)
  else
    let n := s.get .PROF_ACTIVE 0
    let a := profileArea s n
    (setProfile s n { a with openOverlay := keepOthers a.openOverlay sub ++ openEntries s sub }, 0)

/-- Restore default parameters, with effect at the next reset. -/
def restoreParameters (s : State) (sub v : Nat) : State × Nat :=
  if v ≠ 0x64616F6C then (s, abRange)
  else if storeBarred s then (s, abSealed)
  else
    let n := s.get .PROF_ACTIVE 0
    let a := profileArea s n
    (setProfile s n { a with openOverlay := keepOthers a.openOverlay sub }, 0)

end Sys2Proof.Machine
end

