-- ==== Sys2Proof/Machine/Network.lean ====
section
/-! DEFINITION. The CAN node: the two buses, NMT, LSS, heartbeats, SYNC, TIME, PDOs and the loss of communication
(R388, R389, R417 to R423, R425, R428, R429). -/

namespace Sys2Proof.Machine

/-! ## Buses (R388, R389) -/

/-- A frame reaches the node: the bus is in use, its controller on the bus, and the domain NET on. -/
def busHears (s : State) (b : Nat) : Bool := busUsed s b && !s.flag .CAN_OFF b && s.getBit .DOM_ON 0 9

def otherBus (b : Nat) : Nat := 1 - b

/-- RED_WIN in ticks. -/
def redWindow (s : State) : Nat := s.get .RED_WIN 0 * 16000

/-- A bus has received a frame. -/
def heard (s : State) (b : Nat) : State :=
  let s := s.put .CAN_RX_TICK b s.ts
  if s.getBit .CAN_LOST 0 b ∧ s.get .CAN_GOOD_TICK b = 0 then s.put .CAN_GOOD_TICK b s.ts else s

/-- A frame is received: the state, and whether it is to be taken. In redundant mode the same identifier on the other
bus within RED_WIN is a duplicate (CAN_FRAME_DUPLICATE). -/
def takeFrame (s : State) (b id : Nat) (data : List Nat) : State × Bool :=
  if !busHears s b then (s, false)
  else
    let s := heard s b
    if s.dv .CAN_RED 0 ≠ 1 then (s, true)
    else
      let fresh := s.canSeen.filter fun f => decide (s.ts ≤ f.tick + redWindow s)
      match fresh.find? fun f => f.bus == otherBus b && f.id == id with
      | some f =>
        let s := s.count .RED_DUP 0
        let s := if f.data = data then s else s.count .RED_DIFF 0
        ({ s with canSeen := fresh.erase f }, false)
      | none => ({ s with canSeen := fresh ++ [⟨b, id, data, s.ts⟩] }, true)

/-- Every bus in use is lost or bus-off. -/
def allBusesLost (s : State) : Bool := [0, 1].all fun b => !busUsed s b || s.flag .CAN_OFF b || s.getBit .CAN_LOST 0 b

/-- A bus is lost: absorbed while the other one carries the node; otherwise the communication is lost. -/
def loseBus (s : State) (b : Nat) (off : Bool) : State :=
  if s.getBit .CAN_LOST 0 b ∨ !busUsed s b then s
  else
    let s := ((s.setBit .CAN_LOST 0 b true).put .CAN_GOOD_TICK b 0).count .CAN_LOSS 0
    let s := s.post 0x0D08 0x0 noSlot (b + b2n off * 256)
    let s := if allBusesLost s then s.put .COMM_DUE 0 1 else absorb s 4 0x0D08 noSlot (b + b2n off * 256)
    setRedLost s 3 true

/-- CAN_BUS_OFF. -/
def canBusOff (s : State) (b : Nat) : State :=
  if !busUsed s b ∨ s.flag .CAN_OFF b then s else loseBus ((s.put .CAN_OFF b 1).put .CAN_GOOD_TICK b 0) b true

/-- CAN_SILENCE_TIMEOUT: nothing for CAN_SILENT while the other bus receives. -/
def canSilence (s : State) (b : Nat) : State :=
  let silent := s.get .CAN_SILENT 0 * ticksPerMs
  if s.dv .CAN_RED 0 = 1 ∧ silent ≠ 0 ∧ s.get .CAN_RX_TICK b + silent ≤ s.ts
      ∧ s.get .CAN_RX_TICK b < s.get .CAN_RX_TICK (otherBus b) then loseBus s b false
  else s

/-- CAN_BUS_RESTORED: error-active and receiving for 1 s. -/
def canRestored (s : State) (b : Nat) : State :=
  let since := s.get .CAN_GOOD_TICK b
  if s.getBit .CAN_LOST 0 b ∧ !s.flag .CAN_OFF b ∧ since ≠ 0 ∧ since + ticksPerSecond ≤ s.ts then
    let s := (s.setBit .CAN_LOST 0 b false).post 0x0D09 0x0 noSlot b
    setRedLost s 3 (s.get .CAN_LOST 0 != 0)
  else s

/-- An error of the communication that stands until it clears (R436). -/
def commError (s : State) (k code event : Nat) : State := (s.setBit .COMM_ERR 0 k true).emcy code 0xFF 0 event

def commClear (s : State) (k : Nat) : State := if s.getBit .COMM_ERR 0 k then (s.setBit .COMM_ERR 0 k false).emcyIfClear 0xFF else s

/-- CAN_BUS_OFF_RECOVERED: the error is over with the recovery that reports it. -/
def canRecovered (s : State) (b : Nat) : State :=
  if s.flag .CAN_OFF b then commClear (commError (s.put .CAN_OFF b 0) 1 0x8140 0) 1 else s

/-- CAN_RECEIVE_OVERRUN: it stands until the bus delivers a frame again; the model clears it with the report. -/
def canOverrun (s : State) (b : Nat) : State := if busHears s b then commClear (commError s 2 0x8110 0) 2 else s

/-! ## NMT (R421, R422) -/

def nmtPreOp : Nat := 1
def nmtOperational : Nat := 2
def nmtStopped : Nat := 3
def nmtLss : Nat := 4

def operational (s : State) : Bool := s.get .NMT_STATE 0 == nmtOperational

/-- SDO, EMCY, SYNC and TIME work. -/
def networkUp (s : State) : Bool := s.get .NMT_STATE 0 == nmtPreOp || operational s

/-- A change of state; leaving Operational is a loss of communication (R423). -/
def setNmt (s : State) (st : Nat) : State :=
  let s := if operational s ∧ st ≠ nmtOperational then s.put .COMM_DUE 0 1 else s
  let s := if st = nmtOperational ∧ !operational s then
      (List.range 32).foldl (fun a n => a.clearAll [.TPDO_CNT, .TPDO_STARTED, .TPDO_SENT, .RPDO_WAIT] n) s else s
  s.put .NMT_STATE 0 st

/-- The node ID that takes effect (R420). -/
def nodeIdNew (s : State) : Nat := if s.get .NODE_ID 0 = 0xFF then s.get .NODE_ID_NEXT 0 else s.get .NODE_ID 0

/-- Boot-up message and the state after it. -/
def bootUp (s : State) : State :=
  if s.get .NODE_ID_ACT 0 = 0xFF then s.put .NMT_STATE 0 nmtLss
  else
    let s := s.sendCan (0x700 + s.get .NODE_ID_ACT 0) [0]
    let s := s.put .NMT_STATE 0 nmtPreOp
    if s.get .NMT_STARTUP 0 = 4 then setNmt s nmtOperational else s

/-- The latent CAN settings develop, and the predefined COB-IDs follow the node ID (R419, R420, R429). -/
def developCan (s : State) : State :=
  let s := (s.develop .CAN_MODE 0).develop .ARB_RATE 0
  let s := (s.develop .DATA_RATE 0).develop .CAN_RED 0
  s.put .NODE_ID_ACT 0 (nodeIdNew s)

/-- Reset communication: motion continues, and no slot loses its communication by it. -/
def resetCommunication (s : State) : State :=
  let es := commEntries s
  let ids := es.filter fun e => e.index == 0x2001
  let s := if s.flag .PROF_COMM 0 then applyEntries s ids else s
  bootUp (reloadComm (developCan (s.put .NMT_STATE 0 0)))

/-- The command is for this node. -/
def nmtFor (s : State) (node : Nat) : Bool := node == 0 || node == s.get .NODE_ID_ACT 0

/-- An NMT frame: command specifier and node. -/
def nmtFrame (s : State) (b cs node : Nat) (f : State → State) : State :=
  let (s, new) := takeFrame s b 0 [cs, node]
  let st := s.get .NMT_STATE 0
  if new ∧ nmtFor s node ∧ (st = nmtPreOp ∨ st = nmtOperational ∨ st = nmtStopped) then f s else s

/-- Reset node: every slot in Operation enabled stops as at a quick stop and goes to Switch on disabled. -/
def resetNode (s : State) : State :=
  let s := s.each 8 (fun a i => a.opEnabled i) fun a i =>
    let a := cmdQuickStop a i
    if a.drive i = dsQuickStop then a.put .AFTER_STOP i 3 else a
  s.put .RESET_NODE 0 1

/-- RESET_NODE_RELOAD, once every slot stands. -/
def resetNodeReload (s : State) : State :=
  if s.flag .RESET_NODE 0 ∧ (List.range 8).all (fun i => s.slotDisabled i || s.flag .STILL_CMD i)
      ∧ (List.range 8).all (fun i => s.drive i != dsEnabled && s.drive i != dsQuickStop) then
    resetCommunication (reloadOpen (s.put .RESET_NODE 0 0))
  else s

/-! ## LSS (R417, R420) -/

/-- An LSS frame from the master, and the answer of the slave. -/
def lssFrame (s : State) (b : Nat) (data : List Nat) (f : State → State) : State :=
  let (s, new) := takeFrame s b 0x7E5 data
  if new then f s else s

def lssAnswer (s : State) (data : List Nat) : State := s.sendCan 0x7E4 data

def inConfig (s : State) : Bool := s.flag .LSS_MODE 0

/-- Vendor, product, revision and serial, as 0x1018 reads. -/
def lssIdentity (s : State) : List Nat := [0x00000B4D, 0x00008032, 0x0B020301, s.sec.identity.serial]

/-- Switch state: global, or selective by the whole identity. Leaving configuration with a node ID assigned to an
unconfigured node resets its communication. -/
def lssSwitch (s : State) (mode : Nat) (sel : Option (Nat × Nat × Nat × Nat)) : State :=
  match sel with
  | some (v, p, r, n) => if [v, p, r, n] = lssIdentity s then lssAnswer (s.put .LSS_MODE 0 1) [0x44] else s
  | none =>
    let s := s.put .LSS_MODE 0 (min mode 1)
    if mode = 0 ∧ s.get .NMT_STATE 0 = nmtLss ∧ nodeIdNew s ≠ 0xFF then resetCommunication s else s

def lssNodeId (s : State) (node : Nat) : State :=
  if !inConfig s then s
  else if s.get .NODE_ID 0 ≠ 0xFF then lssAnswer s [0x11, 255, 0x01]
  else if inside 1 127 node ∨ node = 0xFF then lssAnswer (s.put .NODE_ID_NEXT 0 node) [0x11, 0, 0]
  else lssAnswer s [0x11, 1, 0]

def lssBitTiming (s : State) (table entry : Nat) : State :=
  if !inConfig s then s
  else if table = 0 ∧ entry ≤ 8 ∧ entry ≠ 5 then lssAnswer (s.put .LSS_BIT 0 entry) [0x13, 0, 0]
  else lssAnswer s [0x13, 1, 0]

/-- Activate bit timing: the configured rate develops at once. -/
def lssActivate (s : State) : State :=
  if inConfig s ∧ s.get .LSS_BIT 0 ≠ 0xFF then s.putBoth .ARB_RATE 0 (s.get .LSS_BIT 0) else s

/-- Store configuration keeps the node ID in the key and identity store. -/
def lssStore (s : State) : State :=
  if inConfig s then lssAnswer (s.put .NODE_ID_LSS 0 (s.get .NODE_ID_NEXT 0)) [0x17, 0, 0] else s

def lssInquire (s : State) (what : Nat) : State :=
  if !inConfig s then s
  else if 0x5A ≤ what ∧ what ≤ 0x5D then lssAnswer s (what :: leBytes 4 ((lssIdentity s).getD (what - 0x5A) 0))
  else if what = 0x5E then lssAnswer s [0x5E, s.get .NODE_ID_ACT 0]
  else s

/-- Identify remote slaves by ranges, or non-configured ones. -/
def lssIdentify (s : State) (range : Option (Nat × Nat × Nat × Nat × Nat × Nat)) : State :=
  match range with
  | some (v, p, rl, rh, sl, sh) =>
    if v = 0x0B4D ∧ p = 0x8032 ∧ inside rl rh 0x0B020301 ∧ inside sl sh s.sec.identity.serial then lssAnswer s [0x4F] else s
  | none => if s.get .NODE_ID_ACT 0 = 0xFF then lssAnswer s [0x50] else s

/-! ## Heartbeats (R425) -/

/-- State byte of a heartbeat. -/
def heartbeatState (s : State) : Nat := [0, 0x7F, 0x05, 0x04, 0].getD (s.get .NMT_STATE 0) 0

def heartbeatProduce (s : State) : State :=
  let ms := s.get .HB_PRODUCER 0
  let st := s.get .NMT_STATE 0
  if ms ≠ 0 ∧ (networkUp s ∨ st = nmtStopped) ∧ s.get .HBP_TICK 0 + ms * ticksPerMs ≤ s.ts then
    (s.sendCan (0x700 + s.get .NODE_ID_ACT 0) [heartbeatState s]).put .HBP_TICK 0 s.ts
  else s

/-- Time in ms and node of a consumer entry. -/
def consumerMs (s : State) (k : Nat) : Nat := s.get .HB_CONSUMER k % 65536
def consumerNode (s : State) (k : Nat) : Nat := s.get .HB_CONSUMER k / 65536 % 128

/-- HEARTBEAT_CONSUMED: it counts on either bus. -/
def heartbeatConsumed (s : State) (b node : Nat) : State :=
  if !busHears s b then s
  else
    let s := (heard s b).each 8 (fun a k => consumerMs a k != 0 && consumerNode a k == node) fun a k =>
      ((a.put .HBC_ON k 1).put .HBC_TICK k a.ts).put .HBC_LOST k 0
    if (List.range 8).any (s.flag .HBC_LOST) then s else commClear s 0

/-- Consumer entries whose timeout has passed and is not yet reported. -/
def heartbeatsDue (s : State) : List Nat := idsWhere 8 fun k =>
  consumerMs s k != 0 && s.flag .HBC_ON k && !s.flag .HBC_LOST k && decide (s.get .HBC_TICK k + consumerMs s k * ticksPerMs ≤ s.ts)

/-- What the node does on a communication error in Operational (0x1029). -/
def errorBehaviour (s : State) : State :=
  let v := s.get .ERROR_BEHAVIOUR 0
  if !operational s ∨ v = 1 then s else setNmt s (if v = 2 then nmtStopped else nmtPreOp)

/-- COMMUNICATION_LOSS: a consumed heartbeat has timed out, every bus is lost, or the node has left Operational. -/
def communicationLoss (s : State) : State :=
  let due := heartbeatsDue s
  let s := due.foldl (fun a k => commError (a.put .HBC_LOST k 1) 0 0x8130 0) s
  if due = [] ∧ !s.flag .COMM_DUE 0 then s
  else
    let s := errorBehaviour s
    loseCommunication (s.put .COMM_DUE 0 0)

/-! ## PDOs (R428) -/

/-- The data of a TPDO. -/
def tpdoData (s : State) (n : Nat) : List Nat :=
  (mapEntries s true n (s.get .TPDO_N n)).flatMap fun e => (objRead s (mapIndex e) (mapSub e)).2.2

def eventDriven (ty : Nat) : Bool := decide (254 ≤ ty)

def tpdoLive (s : State) (n : Nat) : Bool := operational s && pdoOn (s.get .TPDO_COB n)

def sendTpdo (s : State) (n : Nat) : State :=
  let d := tpdoData s n
  let s := s.sendCan (s.get .TPDO_COB n % 2048) d
  ((((s.put .TPDO_LAST n (leVal d)).put .TPDO_CHG n 0).put .TPDO_TICK n s.ts).put .TPDO_SENT n 1).put .TPDO_CNT n 0

def inhibitPassed (s : State) (n : Nat) : Bool :=
  !s.flag .TPDO_SENT n || decide (s.get .TPDO_TICK n + s.get .TPDO_INH n * 16000 ≤ s.ts)

/-- Judging a TPDO's objects for a change; an event-driven one is sent as soon as its inhibit time allows. -/
def judgeTpdo (s : State) (n : Nat) : State :=
  if !tpdoLive s n then s
  else
    let s := if leVal (tpdoData s n) = s.get .TPDO_LAST n ∧ s.flag .TPDO_SENT n then s else s.put .TPDO_CHG n 1
    if eventDriven (s.get .TPDO_TYPE n) ∧ s.flag .TPDO_CHG n ∧ inhibitPassed s n then sendTpdo s n else s

def judgeTpdos (s : State) : State := if operational s then (List.range 32).foldl judgeTpdo s else s

/-- TPDO_EVENT_TIMER. -/
def tpdoTimer (s : State) (n : Nat) : State :=
  let ms := s.get .TPDO_TIMER n
  if tpdoLive s n ∧ eventDriven (s.get .TPDO_TYPE n) ∧ ms ≠ 0 ∧ s.get .TPDO_TICK n + ms * ticksPerMs ≤ s.ts then sendTpdo s n else s

/-- TPDO_INHIBIT_EXPIRY. -/
def tpdoInhibit (s : State) (n : Nat) : State :=
  if tpdoLive s n ∧ eventDriven (s.get .TPDO_TYPE n) ∧ s.flag .TPDO_CHG n ∧ inhibitPassed s n then sendTpdo s n else s

/-- The mapped objects take the data in order; an object that refuses its value leaves the others. -/
def applyMapping : List Nat → List Nat → State → State
  | [], _, s => s
  | e :: t, d, s =>
    let n := mapBits e / 8
    applyMapping t (d.drop n) (objStore s 0 2 (mapIndex e) (mapSub e) (d.take n)).1

def takeRpdo (s : State) (n : Nat) (data : List Nat) : State :=
  let es := mapEntries s false n (s.get .RPDO_N n)
  if data.length < mapLength es then commError s 3 0x8210 0
  else
    let s := commClear s 3
    if 254 ≤ s.get .RPDO_TYPE n then applyMapping es data s
    else ((s.put .RPDO_BUF n (leVal data)).put .RPDO_LEN n data.length).put .RPDO_WAIT n 1

/-- RPDO_RECEIVED. -/
def rpdoReceived (s : State) (b id : Nat) (data : List Nat) : State :=
  let (s, new) := takeFrame s b id data
  if !new ∨ !operational s then s
  else s.each 32 (fun a n => pdoOn (a.get .RPDO_COB n) && a.get .RPDO_COB n % 2048 == id) fun a n => takeRpdo a n data

/-! ## SYNC and TIME (R152, R417, R428) -/

/-- Synchronous RPDOs that wait act at the SYNC. -/
def syncRpdo (s : State) (n : Nat) : State :=
  if s.flag .RPDO_WAIT n then
    applyMapping (mapEntries s false n (s.get .RPDO_N n)) (leBytes (s.get .RPDO_LEN n) (s.get .RPDO_BUF n)) (s.put .RPDO_WAIT n 0)
  else s

/-- A synchronous TPDO counts from its SYNC start value, where the SYNC carries a counter. -/
def syncTpdo (s : State) (n : Nat) : State :=
  let ty := s.get .TPDO_TYPE n
  let start := s.get .TPDO_START n
  if !tpdoLive s n ∨ 240 < ty then s
  else
    let met := s.flag .TPDO_STARTED n || start == 0 || s.get .SYNC_OVERFLOW 0 == 0 || s.get .SYNC_CTR 0 == start
    if !met then s
    else if ty = 0 then
      let s := judgeTpdo (s.put .TPDO_STARTED n 1) n
      if s.flag .TPDO_CHG n then sendTpdo s n else s
    else
      let first := !s.flag .TPDO_STARTED n && start != 0
      let s := (s.put .TPDO_STARTED n 1).put .TPDO_CNT n (s.get .TPDO_CNT n + 1)
      if first ∨ ty ≤ s.get .TPDO_CNT n then sendTpdo s n else s

/-- SYNC_RECEIVED: the cyclic modes take the targets developed before it, but on a worker of a running ring, where the link cycle
takes its place (R401); then the synchronous PDOs act. -/
def syncReceived (s : State) (b : Nat) (data : List Nat) : State :=
  let (s, new) := takeFrame s b (s.get .COB_SYNC 0 % 2048) data
  if !new ∨ !networkUp s then s
  else
    let s := if s.get .SYNC_OVERFLOW 0 ≠ 0 then s.put .SYNC_CTR 0 (data.headD 0) else s
    let s := if !isManager s && linkRuns s then s else (List.range 8).foldl (fun a i => syncSlot a i a.ts) s
    if operational s then (List.range 32).foldl syncTpdo ((List.range 32).foldl syncRpdo s) else s

/-- TIME_RECEIVED: milliseconds after midnight and days. -/
def timeReceived (s : State) (b : Nat) (data : List Nat) : State :=
  let (s, new) := takeFrame s b (s.get .COB_TIME 0 % 2048) data
  if new ∧ networkUp s then
    ((s.put .TIME_MS 0 (fieldAt data 0 4)).put .TIME_DAYS 0 (fieldAt data 4 2)).put .TIME_TICK 0 s.ts
  else s

end Sys2Proof.Machine
end

