-- ==== Sys2Proof/Machine/Engine.lean ====
section
/-! DEFINITION. One engine cycle: its order of work, the compare post, and the conditions the regulator and the observer
declare (R30 to R34, R41, R104, R195, R198, R201, R203, R208, R214, R231, R232). -/

namespace Sys2Proof.Machine

/-- The period start after the one in which the cycle began: the instant a cycle evaluates for, and t_DEV before it the
deadline (R30). A cycle that overruns its period keeps it. -/
def cycleEnd (s : State) (i : Nat) : Nat :=
  if s.get .CYC_END i = 0 then s.get .GROUP_START (s.slotGroup i) + groupPeriod s (s.slotGroup i) else s.get .CYC_END i

/-- The commanded acceleration at an instant, in µstep/s². -/
def commandedAccel (s : State) (i te : Nat) : Rat :=
  let m := s.mo i
  match m.plan, m.cur, m.chain with
  | x :: _, _, _ => accelAt x.seg te
  | [], some g, _ => accelAt g te
  | [], none, g :: _ => accelAt g te
  | [], none, [] => 0

/-- Hall speed v_H in 1/64 µstep/s (R311). -/
def hallSpeed (s : State) (i : Nat) : Int := s.geti .ENC_SPEED i * 1024

def hallStanding (s : State) (i : Nat) : Bool := s.getBit .FB_STAT i 0

/-- The source of a slot after a cold takeover (R380): a target mode plans again, a chain waits for a target within
CS_RESUME_WIN, step-follow takes its references again, and a segment goes on at its recorded start. A stop runs on. -/
def resumeCold (s : State) (i : Nat) : State :=
  let m := s.modeOf i
  if m = -2 then followReference s i
  else if m = 1 ∧ !s.flag .TGT_SET i ∨ s.get .PLAN_STATE i = 6 then s
  else if m = 1 ∨ m = 3 then (s.setMo i { s.mo i with plan := [] }).put .TGT_NEW i 1
  else if m = 7 ∨ m = 8 ∨ m = 9 then (s.setMo i { s.mo i with chain := [] }).put .CH_STATE i 2
  else s

/-- The command set onto the estimate in the update after a window-only period, and the source of the mode starts, or goes on
after a ride-through or a cold takeover (R209, R225, R380). -/
def resumeSource (s : State) (i : Nat) : State :=
  if !s.flag .RESUME_SYNC i then s
  else
    let how := s.get .MODE_RESUME i
    let s := syncCommand ((s.put .RESUME_SYNC i 0).put .MODE_RESUME i 0) i
    if how = 2 then resumeCold s i else enterMode s i (how == 1)

/-- The motion of one cycle: none in a window-only period. -/
def cycleMotion (s : State) (i te : Nat) : State :=
  if s.flag .WINDOW_ONLY i then developMotion s i
  else
    let s := motionUpdate (resumeSource s i) i te
    let s := if s.flag .STILL_CMD i then s.developList [.HARM3_AMP, .HARM3_PH, .HARM5_AMP, .HARM5_PH] i else s
    afterStop (homingStill s i) i

/-- The amplitude and electrical angle of the setpoints: the chain of R185, or on kind 0x03 the speed loop of R207. -/
def cycleAmplitude (s : State) (i te : Nat) : State × Int × Int :=
  if s.kind i = 3 then
    let s := speedLoop (updateHold s i) i (hallSpeed s i)
    let th := hallAngle s i te (hallSpeed s i) (hallStanding s i)
    (s, probeAmp s i te (s.get .CUR_AMP i), rdiv ((th + 1536 * sgn (s.geti .I_Q i)) * 65536) 6144)
  else
    let s := updateAdapt (updateHold s i) i (regulated s i) (decide (commandedAccel s i te ≠ 0))
    let s := updateAmp s i
    (s, probeAmp s i te (s.get .CUR_AMP i), commandAngle s i)

/-- The PWM block takes the values of a post, or discards them after the deadline (R30, R33, R246). -/
def comparePost (s : State) (i te accept : Nat) : State :=
  let slack : Int := (te : Int) - tDev - accept
  let s := takeSlack s i slack
  if slack < 0 then deadlineMiss s i slack
  else
    let s := (comparesOf s i).foldl (fun a x => ((a.puti .CMP_LAT x.1 x.2).put .FULL_LAT x.1 0).put .CMP_NEW x.1 1) s
    (s.put .MISS_RUN i 0).put .POSTED i 1

/-- Whether this cycle posts compare values. -/
def cyclePosts (s : State) (i : Nat) : Bool := regulated s i && !s.flag .WINDOW_ONLY i

/-- Work a slot's state gates before the motion: develops of a disabled slot, the thermal limit, the window, the mode. -/
def cycleBegin (s : State) (i : Nat) : State :=
  let s := restDevelop (switchDevelop (followingError (applyRing s i) i) i) i
  takeMode (developWindow (developThermalLimit s i) i) i

/-- The regulator and the observer of a cycle (R197, R209, R214). -/
def cycleRegulate (s : State) (i te : Nat) (stood : Bool) : State :=
  let (s, amp, phi) := cycleAmplitude (takeSamples (probeMoved s i) i) i te
  let s := probeAdd s i te
  let s := if cyclePosts s i then regulateSlot s i amp phi else restRegulator s i
  let refine := !s.flag .OBS_HALF i || s.flag .OBS_PHASE i
  let s := s.put .OBS_PHASE i (b2n (s.flag .OBS_HALF i && !refine))
  observe s i te phi (hallAngle s i te (hallSpeed s i) (hallStanding s i)) (freshComp s i 0 && !s.getBit .REG_STAT i 4)
    (freshComp s i 1 && !s.getBit .REG_STAT i 4) refine (decide (commandedAccel s i te = 0)) (hallStanding s i) stood

/-- The latches of a slot without an encoder take the estimate of the first update whose samples were taken at or after their
end tick (R132). -/
def sampleTol (s : State) (i te : Nat) : State :=
  if s.hasEncoder i || !(freshComp s i 0 || freshComp s i 1) then s
  else judgeTol (latchTol s i (s.get .GROUP_START (s.slotGroup i) + firstSample s i + 1) (s.geti .POS_EST i)) i te

/-- A cycle whose epoch is that of the slot. -/
def cycleRun (s : State) (i accept : Nat) (differs : Bool) : State :=
  let te := cycleEnd s i
  let s := cycleBegin s i
  let stood := s.geti .OUT_V i == 0
  let s := sampleTol (cycleRegulate (cycleMotion s i te) i te stood) i te
  let s := if s.drive i = dsEnabled then s else (leaveSegmentMode s i).put .SF_STATE i 0
  let s := judgeBathStill s i
  let s := if cyclePosts s i then comparePost s i te accept else if s.slotDisabled i then s.put .SLACK_LAST i 0 else s
  switchSlotDue (stripCycle s i differs) i

/-- An engine serves the slot now: assigned, alive, in a powered domain, with the timebase running. -/
def engineServes (s : State) (i : Nat) : Bool :=
  let e := s.get .SLOT_ENGINE i
  s.kind i != 0 && decide (e < 10) && !isDead s e && s.getBit .DOM_ON 0 (engineDomain e) && s.flag .TB_RUNNING 0

/-- The samples of a period whose low sides came late are discarded (R192). -/
def windowLate (s : State) (i : Nat) : State :=
  (s.slotPorts i).foldl (fun a p => a.put .SMP_FRESH p 0) (s.count .WIN_LATE i)

/-- ENGINE_CYCLE (R104): `accept` is the tick at which the PWM block accepts the post, `late` the report of a late low side,
`differs` the finding of a running strip's comparator, `epoch` the slot epoch of the engine (R41). -/
def engineCycle (s : State) (i accept : Nat) (late differs : Bool) (epoch : Nat) : State :=
  if !engineServes s i then s
  else
    let s := s.atTick accept
    if epoch ≠ s.get .SLOT_EPOCH i then s.count .STALE_DROP 0
    else (cycleRun (if late then windowLate s i else s) i accept differs).put .CYC_END i 0

/-! ## What the regulator declares -/

/-- The component of a slot that meets a condition first. -/
def firstComp (s : State) (i : Nat) (p : Nat → Bool) : Option Nat := (components s i).find? fun w => p (comp i w)

/-- CUR_SENSE_LOST (R195): a planned stop on the model. -/
def senseLost (s : State) (i : Nat) : State :=
  match firstComp s i fun k => decide (s.dv .NOSAMPLE_MAX i ≤ s.get .W_MISS k) with
  | none => s
  | some w =>
    if s.getBit .REG_STAT i 4 ∨ s.dv .NOSAMPLE_MAX i = 0 then s
    else
      let s := ((s.put .SENSE_LOST i 1).setBit .REG_STAT i 4 true).post 0x0604 0x1 i w
      plannedFault (vwInvalid s i) i 0x0F (s.get .STOP_DEC i)

/-- BUS_FF_STALE (R198), once for each gap. -/
def ffStale (s : State) (i : Nat) : State :=
  if s.flag .FF_POSTED i ∨ s.ts ≤ s.get .VBUS_TICK i + ticksPerMs then s
  else ((s.setBit .REG_STAT i 5 true).put .FF_POSTED i 1).post 0x0605 0x1 i (s.get .VBUS_FF i)

/-- HIGH_DUTY_EXIT (R201). -/
def dutyExit (s : State) (i : Nat) : State :=
  if s.getBit .REG_STAT i 0 ∧ 16 ≤ s.get .HD_LOW i then
    (((s.setBit .REG_STAT i 0 false).put .HD_LOW i 0).put .HD_COUNT i 0).post 0x0606 0x1 i 0
  else s

/-- STANDSTILL_REDUCTION (R203). -/
def reduceStill (s : State) (i : Nat) : State :=
  if (s.kind i = 1 ∨ s.kind i = 2) ∧ s.dv .HOLD_DELAY i ≠ 0 ∧ s.flag .STILL_CMD i ∧ ¬ s.getBit .REG_STAT i 3
      ∧ s.get .HOLD_SINCE i + s.dv .HOLD_DELAY i * ticksPerMs ≤ s.ts then
    (s.setBit .REG_STAT i 3 true).put .RAMP_SINCE i s.ts
  else s

/-- OPEN_WINDING (R208, R294). -/
def windingOpen (s : State) (i : Nat) : State :=
  match firstComp s i fun k => decide (32 ≤ s.get .W_OPEN k) with
  | none => s
  | some w =>
    let s := (components s i).foldl (fun a w => a.put .W_OPEN (comp i w) 0) s
    bathFault ((s.put .OPEN_WIND i 1).post 0x0603 0x1 i w) [i] 1 0x0C 0

/-- CUR_SUM_ERR (R208, R294). -/
def sumError (s : State) (i : Nat) : State :=
  match firstComp s i fun k => decide (8 ≤ s.get .W_SUM k) with
  | none => s
  | some w =>
    let last := s.get .W_SUMVAL (comp i w)
    let s := (components s i).foldl (fun a w => a.put .W_SUM (comp i w) 0) s
    plannedFault ((s.put .SUM_ERR i 1).post 0x0602 0x1 i (w + last % 65536 * 65536)) i 0x0D (s.get .STOP_DEC i)

/-! ## Probes (R231, R232, R238) -/

/-- DC_PROBE_START. -/
def dcProbe (s : State) (i : Nat) : State :=
  if probeDue s i ∧ s.kind i ≠ 0 ∧ cyclePosts s i ∧ probeStandOk s i then probeBegin s i 1 s.ts else s

/-- DAXIS_PROBE_START. -/
def daxisProbe (s : State) (i : Nat) : State :=
  if probeDue s i ∧ s.kind i ≠ 0 ∧ cyclePosts s i ∧ probeRunOk s i (decide (commandedAccel s i s.ts = 0)) then probeBegin s i 2 s.ts else s

/-- PROBE_COMPLETE: a calibration that sets VW_R25 is logged (R465). -/
def probeDone (s : State) (i : Nat) : State :=
  if s.get .PROBE_KIND i = 0 ∨ s.ts < s.get .PROBE_START_T i + 2 * probeLevel then s
  else match probeFinish s i with
    | (s, none) => s
    | (s, some r) => s.record 0x0E 0 deviceActor ((0x2856 + 0x100 * i) * 65536) r.toNat

/-- VW_MAXAGE_EXPIRY (R237). -/
def vwStale (s : State) (i : Nat) : State :=
  if s.get .VW_STATE i = 0 ∧ s.get .R_UPD_TICK i + s.dv .VW_MAXAGE i * ticksPerSecond < s.ts then s.put .VW_STATE i 1 else s

end Sys2Proof.Machine
end

