-- ==== Sys2Proof/Machine/Timebase.lean ====
section
/-! DEFINITION. The status tick: heartbeats, auxiliary conversions, throttle, develops and the RC copies (R57, R64, R249,
R298, R332, R364). -/

namespace Sys2Proof.Machine

/-- The next status tick: the next time-stamp that is a multiple of 160 (R64), which is the present one where another
event of the same tick came first. -/
def nextTick (s : State) : Nat :=
  if s.ts % 160 = 0 ∧ s.get .TICK_LAST 0 < s.ts then s.ts else (s.ts / 160 + 1) * 160

/-- What a D-die makes of a heartbeat (R57, R59): it is valid only with a count one above the last, and the 1 ms of valid
heartbeats before a release starts again after an invalid one or a gap. -/
def takeHeartbeat (s : State) (b count : Nat) : State :=
  let valid := decide (count % 16 = (s.get .HB_SEEN b + 1) % 16)
  let gap := decide (s.get .HB_TICK b + 20 * ticksPerUs < s.ts)
  let s := s.put .HB_SEEN b count
  if !valid then s.put .HB_GOOD b 0
  else
    let s := s.put .HB_TICK b s.ts
    if s.flag .HB_OUT b ∧ (s.get .HB_GOOD b = 0 ∨ gap) then s.put .HB_GOOD b s.ts else s

/-- The heartbeat to one bank, with its rolling count (R57). -/
def heartbeat (s : State) (b : Nat) : State :=
  let s := s.countWrap .HB_COUNT b
  takeHeartbeat s b (s.get .HB_COUNT b)

/-- The develop of a bank's fields that GD_APPLY asked for (R298). -/
def bankDevelop (s : State) (b : Nat) : State :=
  if s.flag .OVER_GD_APPLY b then (s.develop .HS_HOLD_MAX b).put .OVER_GD_APPLY b 0 else s


/-- The develops of a status tick. -/
def tickDevelops (s : State) : State :=
  let s := (List.range 4).foldl bankDevelop (groupDevelop s)
  (List.range 8).foldl feedbackDevelop s

/-- STATUS_TICK. -/
def statusTick (s : State) : State :=
  if !s.flag .TB_RUNNING 0 then s
  else
    let s := s.atTick (nextTick s)
    let s := (List.range 4).foldl heartbeat (s.put .TICK_LAST 0 s.ts)
    let s := auxTick (auxTick s 0) 1
    let s := tickDevelops (domainTick (throttleTick s))
    let s := (List.range 8).foldl gather ((List.range 8).foldl judgeBathStill s)
    (judgeTpdos (switchDevice s)).refreshCopies

end Sys2Proof.Machine
end

