-- ==== Sys2Proof/Machine/Events.lean ====
section
/-! DEFINITION. Events that a condition of time, distance or count brings about: start actions, the end of a wait, a lost
chain, homing's own failures (R120, R129, R154, R166, R169, R261). -/

namespace Sys2Proof.Machine

/-! ## Start actions of segments (R120) -/

/-- The tick at which the segment trigger route of a slot falls: TRIG_WIDTH counts 100 ns. -/
def trigEnd (s : State) (i t : Nat) : Nat := t + 16 * s.dv .TRIG_WIDTH i

/-- EVT and TRIG of one armed segment at its start instant. -/
def startAction (s : State) (a : Arming) : State :=
  let s := if a.evt then s.postAt 0x0400 0x1 a.slot (a.ptr + a.segDone * 65536) a.tSeg else s
  if a.trig then
    let k := s.dv .TRIG_SEL a.slot
    let s := if k < 4 then trigoPulse s k a.instant (16 * s.dv .TRIG_WIDTH a.slot) else s
    s.put .SEG_ROUTE_END a.slot (max (s.get .SEG_ROUTE_END a.slot) (trigEnd s a.slot a.instant))
  else s

/-- A pin that rose and that channel `c` watches. -/
def pinRose (before after : State) (c : Nat) : Bool :=
  (List.range 4).any fun k => !before.flag .TRIGO_LEVEL k && after.flag .TRIGO_LEVEL k && bit (after.dv .CAP_TRIGO c) k

/-- The slot's own route rose: it was low until this instant. -/
def routeRose (before after : State) (c t : Nat) : Bool :=
  after.dflag .CAP_SEGTRIG c && decide (before.get .SEG_ROUTE_END c ≤ t ∧ t < after.get .SEG_ROUTE_END c)

/-- Captures of one channel at a start instant, by ascending trigger code (R316, R317). -/
def startCaptures (before : State) (due : List Arming) (t : Nat) (s : State) (c : Nat) : State :=
  let s := if due.any fun a => a.capt && a.slot == c then capture s c 4 t else s
  if pinRose before s c || routeRose before s c t then triggerCapture s c 5 t else s

/-- Everything armed for one instant; slots in ascending order. -/
def startInstant (s : State) (t : Nat) : State :=
  let due := s.armed.filter fun a => a.instant == t
  let s := { s with armed := s.armed.filter fun a => a.instant != t }
  let byslot := (List.range 8).flatMap fun i => due.filter fun a => a.slot == i
  let after := byslot.foldl startAction s
  (List.range 8).foldl (startCaptures s due t) after

/-- Armed instants up to now, ascending, each once. -/
def dueInstants (s : State) : List Nat :=
  s.armed.foldl (fun l a => if a.instant ≤ s.ts then insertOnce l a.instant else l) []
where
  insertOnce : List Nat → Nat → List Nat
    | [], t => [t]
    | h :: r, t => if t < h then t :: h :: r else if t = h then h :: r else h :: insertOnce r t

def startActions (s : State) : State := (dueInstants s).foldl startInstant s

/-- The end of a pulse on a TRIGO pin. -/
def pulseEnd (s : State) (k : Nat) : State :=
  if s.flag .TRIGO_LEVEL k ∧ s.get .TRIGO_END k ≤ s.ts then s.put .TRIGO_LEVEL k 0 else s

/-! ## Waits and chains -/

/-- The accord the waiting segment names. -/
def waitAccord (s : State) (i : Nat) : Nat := ((s.mo i).accepted.head?.map Seg.acc).getD 0

/-- SYNC_TIMEOUT: the bounded wait of a SYNC segment has elapsed (R129). -/
def syncTimedOut (s : State) (i : Nat) : State :=
  let ms := s.dv .SYNC_TIMEOUT i
  if s.get .SEG_STATE i = 3 ∧ ms ≠ 0 ∧ s.get .ARRIVAL i + ms * ticksPerMs ≤ s.ts then
    let acc := waitAccord s i
    let s := ((breakStream s i).put .SEG_STATE i 7).put .GO_SEEN i 0
    let s := s.each 8 (fun _ _ => true) fun a n => a.setBit .ACC_WAITING n i false
    (s.put .SYNC_TO i 1).post 0x0406 0x1 i acc
  else s

/-- CS_LOSS: the chain has ended with one target more missing than CS_MISS_MAX allows (R154). -/
def chainLost (s : State) (i : Nat) : State :=
  match chainEnd s i with
  | none => s
  | some g =>
    if s.get .CH_STATE i = 1 ∧ g.endTick ≤ s.ts ∧ !s.flag .CH_STOP i ∧ s.dv .CS_MISS_MAX i ≤ s.get .CH_MISSED i then
      let s := (s.puti .EV_P i g.p1).puti .EV_V i g.v1
      let s := beginStop s i 6 (s.get .STOP_DEC i) false g.endTick g.p1 g.v1 0
      (s.put .CH_STATE i 2).post 0x0504 0x1 i (s.get .CH_MISSED i + 1)
    else s

/-! ## Homing's failures (R166, R169) -/

def homingChatters (s : State) (i : Nat) : State :=
  if inside 1 4 (s.get .HOME_STATE i) ∧ s.dv .CHATTER_MAX i < s.get .HOME_EDGES i then homingFail s i 1 else s

/-- How far the phase has gone, in µsteps. -/
def homingTravel (s : State) (i : Nat) : Nat := absN (s.geti .EV_P i - s.geti .HM_START i)

def homingTooFar (s : State) (i : Nat) : State :=
  let top := s.dv .HOME_DIST_MAX i
  if inside 1 4 (s.get .HOME_STATE i) ∧ top ≠ 0 ∧ top * 65536 < homingTravel s i then homingFail s i 3 else s

def homingLacksIndex (s : State) (i : Nat) : State :=
  if s.get .HOME_STATE i = 3 ∧ s.dv .HOME_IDX_MAX i * 65536 < homingTravel s i then homingFail s i 4 else s

end Sys2Proof.Machine
end

