-- ==== Sys2Proof/Machine/Restart.lean ====
section
/-! DEFINITION. Sequencer restarts, resets and the boot (R386, R387, R448, R455, R464, R473 to R480). -/

namespace Sys2Proof.Machine

/-! ## Patches (R464) -/

/-- Version of the mask ROM. -/
def romVersion : Nat := 0x0301

def patchLevel (img : List Nat) : Nat := fieldAt img 4 2
def patchRollback (img : List Nat) : Nat := fieldAt img 6 2
def patchCodeLen (img : List Nat) : Nat := fieldAt img 8 4

/-- Checks of a stored patch, in the order of R464: 0 or the refusal. -/
def patchFault (s : State) (img : List Nat) : Nat :=
  let n := img.length
  if 32768 < n ∨ n ≠ 108 + patchCodeLen img ∨ fieldAt img 0 2 ≠ 5 then 0x50
  else if !ecdsaVerifies s.sec.identity.patchKey (img.take (n - 64)) (img.drop (n - 64)) then 0x42
  else if sha256 (slice img 44 (patchCodeLen img)) ≠ slice img 12 32 then 0x42
  else if fieldAt img 2 2 ≠ romVersion then 0x54
  else if patchRollback img < s.get .ROLLBACK_MIN 0 then 0x53
  else 0

def patchHalf (s : State) (h : Nat) : List Nat := s.sec.patches.getD h []

/-- Erasing a half. -/
def patchErase (s : State) (h : Nat) : State :=
  { s.setBit .PATCH_OK 0 h false with sec := { s.sec with patches := s.sec.patches.set h [] } }

/-- PATCH_LEVEL and PATCH_STATE: running, suspended, stored, or none. -/
def patchStatus (s : State) : State :=
  let run := s.flag .PATCH_RUN 0
  let act := s.get .PATCH_ACTIVE 0
  let s := s.put .PATCH_LEVEL 0 (if run then patchLevel (patchHalf s (act - 1)) else 0)
  s.put .PATCH_STATE 0 (if run then 1 else if s.flag .SEQ_NOPATCH 0 then 3 else if s.get .PATCH_OK 0 ≠ 0 then 2 else 0)

/-! ## Sequencer restart (R386, R387) -/

def tenMinutes : Nat := 600 * ticksPerSecond

/-- A watchdog restart: counted, and the third within 10 minutes suspends the patch. -/
def watchdogCount (s : State) : State :=
  let third := s.get .SEQ_WD_RECENT 1
  let many := decide (third ≠ 0 ∧ s.ts ≤ third + tenMinutes)
  let s := s.count .SEQ_WD_CNT 0
  let s := (s.put .SEQ_WD_RECENT 1 (s.get .SEQ_WD_RECENT 0)).put .SEQ_WD_RECENT 0 (max 1 s.ts)
  if many ∧ !s.flag .SEQ_NOPATCH 0 then
    let had := s.get .PATCH_ACTIVE 0
    let s := patchStatus ((s.put .SEQ_NOPATCH 0 1).put .PATCH_RUN 0 0)
    if had = 0 then s else s.record 0x0B 0 deviceActor (patchLevel (patchHalf s (had - 1))) 0
  else s

/-- The sequencer's epoch may advance: 2 ms have passed since its last advance (R40). -/
def seqEpochFree (s : State) : Bool := !s.flag .SEQ_EPOCH_MOVED 0 || decide (s.get .SEQ_EPOCH_TICK 0 + 2 * ticksPerMs ≤ s.ts)

/-- A restart begins: the session ends, and requests, partial frames and a pending challenge are gone. One that comes within
2 ms of the last advance of the sequencer's epoch waits (R40). -/
def seqRestart (s : State) (cause : Nat) : State :=
  if s.flag .SEQ_DOWN 0 then s
  else if !seqEpochFree s then (s.put .SEQ_WAIT 0 1).put .SEQ_WAIT_CAUSE 0 cause
  else
    let s := endSession s endRestart
    let s := ((s.put .SEQ_DOWN 0 1).put .SEQ_CAUSE 0 cause).put .SEQ_WAIT 0 0
    let s := (List.range 3).foldl (fun a p => a.put .XO_BUSY p 0) s
    let s := { s with rx := List.replicate 3 [], sec := { s.sec with challenge := none, upload := none } }
    if cause = 0 then watchdogCount s else s

/-- EPOCH_DEFERRED_ADVANCE: what the 2 ms rule held back. Producers 0 to 7 are slots, 8 to 25 converters, 26 to 37 domains,
38 the sequencer, and 38 + d worker d of the ring. -/
def epochDeferred (s : State) (n : Nat) : State :=
  if n < 8 then (if s.slotDisabled n then migrationCutover s n else s)
  else if n < 26 then convEpochLate s (n - 8)
  else if n < 38 then
    (if s.flag .DOM_RESTART_WAIT (n - 26) ∧ domEpochFree s (n - 26) then (domainRestart (s.put .DOM_RESTART_WAIT (n - 26) 0) (n - 26)).1 else s)
  else if n = 38 then (if s.flag .SEQ_WAIT 0 then seqRestart s (s.get .SEQ_WAIT_CAUSE 0) else s)
  else devEpochLate s (n - 38)

/-- SEQUENCER_WATCHDOG: 100 ms without a service. -/
def seqWatchdog (s : State) : State :=
  if !s.flag .SEQ_DOWN 0 ∧ s.get .SEQ_SERVED 0 + 100 * ticksPerMs ≤ s.ts then seqRestart s 0 else s

/-- Service of the sequencer's watchdog: the model serves it with every request the sequencer takes. -/
def served (s : State) : State := if s.flag .SEQ_DOWN 0 then s else s.put .SEQ_SERVED 0 s.ts

/-- Fields that helper registers back. -/
def backedRegs : List Reg := regBlocks.flatMap fun b => b.fields.map fun f => f.reg

/-- Values outside the helpers' registers come from the active profile when the dictionary image is bad. -/
def restoreImage (s : State) : State :=
  let es := (activeEntries s).filter fun e => match objRef s e.index e.sub with
    | .table row _ => !(row.parts.any fun p => backedRegs.contains p.reg)
    | _ => false
  applyEntries (defaultsWhere s fun row idx _ => !(row.parts.any fun p => backedRegs.contains p.reg) && idx != 0x2001) es

/-- SEQUENCER_RESTART_DONE. -/
def seqDone (s : State) (imageOk : Bool) : State :=
  if !s.flag .SEQ_DOWN 0 then s
  else
    let s := if imageOk then s else restoreImage s
    let cause := s.get .SEQ_CAUSE 0
    let patched := s.get .PATCH_ACTIVE 0 != 0 && !s.flag .SEQ_NOPATCH 0
    let s := patchStatus (s.put .PATCH_RUN 0 (b2n patched))
    let s := (((s.put .SEQ_DOWN 0 0).countWrap .SEQ_EPOCH 0).count .SEQ_RESTARTS 0).put .SEQ_SERVED 0 s.ts
    let s := (s.put .SEQ_EPOCH_TICK 0 s.ts).put .SEQ_EPOCH_MOVED 0 1
    let arg := cause + 256 * s.get .SEQ_NOPATCH 0
    let s := s.post 0x0D06 0x0 noSlot arg
    pumpOut (emcyRelease (absorb s 6 0x0D06 0xFF arg))

/-! ## Reset (R474 to R477) -/

/-- What flash keeps through a reset: values of the key and identity store, the claim, patches, the audit log's place and
system calibration, and the D-dies' role copies. -/
def keptRegs : List (Reg × Nat) :=
  [.SVC_HOURS, .CLAIMED, .CLAIM_CNT, .REV_SEQ, .REVOKE_BELOW, .ROLLBACK_MIN, .NODE_ID_LSS, .PATCH_ACTIVE, .PATCH_OK, .AUDIT_SEQ,
    .AUDIT_HEAD, .DRAWS].map (fun r => (r, 0))
  ++ (List.range 16).flatMap (fun i => [(.SYS_OFS_A, i), (.SYS_GAIN_A, i), (.SYS_OFS_B, i), (.SYS_GAIN_B, i)])
  ++ (List.range 8).flatMap (fun i => [(.AIN_SYS_OFS, i), (.AIN_SYS_GAIN, i)])
  ++ (List.range 32).map (fun p => (.DDIE_ROLE, p)) ++ (List.range 4).flatMap fun b => [(.DIE_UP, b), (.HB_SEEN, b)]

/-- A reset: reset values, time-stamp 0, queues, staged writes and session gone; flash, what was sent and the commands
that wait stay. -/
def deviceReset (s : State) (cause others profsel : Nat) (manager : Bool) : State :=
  let base := { State.reset with
    tx := s.tx, answer := s.answer, pending := s.pending, freeCount := s.freeCount, audit := s.audit
    sec := { s.sec with upload := none, challenge := none, token := [], key := [], staged := [], switching := [] } }
  let a := keptRegs.foldl (fun a x => a.put x.1 x.2 (s.get x.1 x.2)) base
  let a := (List.range 32).foldl (fun a p => a.put .DIE_SHORT p (s.get .LSP_SHORT p + 2 * s.get .HSP_SHORT p)) a
  let a := a.put .NODE_ID_NEXT 0 (s.get .NODE_ID_LSS 0)
  let a := (a.put .ANS_ABORT 0 (s.get .ANS_ABORT 0)).put .RESET_CAUSE 0 (others % 32 ||| 2 ^ cause)
  let a := ((a.put .PROFSEL 0 profsel).put .PROF_ACTIVE 0 profsel).put .PROF_TARGET 0 profsel
  (a.put .ROLE_STRAP 0 (b2n manager)).put .ROLE_ACT 0 (b2n manager)

/-! ## Boot (R478 to R480) -/

/-- A step of the boot runs only at its stage. -/
def atStage (s : State) (n : Nat) (f : State → State) : State :=
  if s.get .BOOT_STAGE 0 = n ∧ !s.flag .BOOT_DONE 0 then f s else s

/-- The timebase has not run since the reset. -/
def holdsTimebase (s : State) : Bool := !s.flag .TB_EVER 0

/-- BOOT_TIMEBASE_LOCK on the crystal or on TBSYNC: the developed source, or either while none of the two was present. -/
def bootLock (s : State) (tbsync : Bool) : State :=
  if !holdsTimebase s ∨ (!s.flag .TB_NOREF 0 ∧ s.get .TB_SRC_ACT 0 ≠ b2n tbsync) then s
  else
    let s := if s.flag .TB_NOREF 0 then (s.put .TB_SRC 0 (b2n tbsync)).put .TB_SRC_ACT 0 (b2n tbsync) else s
    let s := ((s.put .TB_RUNNING 0 1).put .TB_EVER 0 1).put .TB_NOREF 0 0
    let s := (s.put .PLL_LOCK 0 1).put .REF_OK 0 1
    (carriersRestart s).put .BOOT_STAGE 0 2

/-- CRYSTAL_LOSS_WAIT. -/
def bootNoReference (s : State) (crystal tbsync : Bool) : State :=
  if !holdsTimebase s then s
  else
    let s := s.put .TB_SRC_ACT 0 (s.get .TB_SRC 0)
    let present := if s.flag .TB_SRC_ACT 0 then tbsync else crystal
    if present then s else s.put .TB_NOREF 0 1

/-- BOOT_ROM: SRAM is written, and the power-up counts one service unit (R448). -/
def bootRom (s : State) : State :=
  (({ s with mem := [], eccBad := [] }.count .SVC_HOURS 0).put .SVC_TICK 0 s.ts).put .BOOT_STAGE 0 3

/-- BOOT_PATCH. After a patch that fails its checks PATCH_STATE reads 0 (R480). -/
def bootPatch (s : State) : State :=
  let act := s.get .PATCH_ACTIVE 0
  let s :=
    if act = 0 then patchStatus s
    else if patchFault s (patchHalf s (act - 1)) = 0 then patchStatus (s.put .PATCH_RUN 0 1)
    else
      let s := patchStatus ((refuse s 0x42 0 0).put .PATCH_ACTIVE 0 0 |>.setBit .PATCH_OK 0 (act - 1) false)
      s.put .PATCH_STATE 0 0
  s.put .BOOT_STAGE 0 4

/-- A slot whose loaded window does not fit the PERIOD and DEAD_TIME of its group: none of them develops, and those of reset stay
in force (R191). -/
def windowLoaded (s : State) (i : Nat) : State :=
  if s.kind i = 0 ∨ groupCheck s i = 0 then s
  else
    let why := groupCheck s i
    let s := windowFields.foldl (fun a r => a.putDev r i (r.reset i)) s
    let s := (groupPorts s (s.slotGroup i)).foldl (fun a p =>
      budgetPeriod ((a.put .PERIOD_LOADED p (Reg.reset .PERIOD p)).put .DEAD_DEV p (Reg.reset .DEAD_TIME p)) p) s
    rejectWindow s i why

/-- Values as loaded develop, timing of the carriers among them, and then the port map. -/
def developAll (s : State) : State :=
  let s := developParameters s
  let s := (List.range 32).foldl (fun a p => (developPeriod (a.put .PERIOD_LONG p 0) p).put .DEAD_DEV p (a.get .DEAD_TIME p)) s
  let s := (List.range 40).foldl portmapSet (portmapApply s)
  (List.range 8).foldl (fun a i => putWindow (windowLoaded (a.put .IFS_MA i (ifsOf a i)) i) i) s

/-- The unsealed safe profile: no axis, every port off. -/
def safeProfile (s : State) : State :=
  let s := (List.range 8).foldl (fun a i => a.put .SLOT_KIND i 0) s
  let s := (List.range 32).foldl (fun a p => a.put .PORT_ROLE p 0xF0) s
  let s := developAll s
  ((s.put .SAFE_BOOT 0 1).put .PROF_ACTIVE 0 4).record 0x0D 0 deviceActor (s.get .PROFSEL 0) 0

/-- BOOT_PROFILE. -/
def bootProfile (s : State) : State :=
  let n := s.get .PROFSEL 0
  let s := refreshValid s
  let s := if areaValid s n then armScript (developAll (applyEntries s (areaEntries s n))) n else safeProfile s
  s.put .BOOT_STAGE 0 5

/-- VANA_READY ends the hold; the hold begins with a calibration that finds VANA low. -/
def vanaReady (s : State) : State := s.put .VANA_WAIT 0 0

/-- The power-up calibration of one converter: it serves, or it starts retired and its partner covers it (R345). -/
def bootConverter (s : State) (c : Nat) (r : Int × Nat × Nat) : State :=
  let s := calDone (s.put .CONV_CAL c 1) c r.1 r.2.1 r.2.2
  if s.flag .CONV_RET_DUE c then (List.range 16).foldl (fun a g => retirement a c g) s else s

/-- BOOT_CALIBRATION: offset, gain and check code of every converter in turn; an empty list tells that VANA is low. -/
def bootCalibration (s : State) (results : List (Int × Nat × Nat)) : State :=
  if results = [] then s.put .VANA_WAIT 0 1
  else if s.flag .VANA_WAIT 0 then s
  else
    let s := (List.range 18).foldl (fun a c => bootConverter (a.put .CAL_TICK c a.ts) c (results.getD c (0, 0x8000, 0))) s
    s.put .BOOT_STAGE 0 6

/-- A slot whose engine is dead takes a live one, or none (R101, R480). -/
def bootEngine (s : State) (i : Nat) : State :=
  let e := s.get .SLOT_ENGINE i
  if e < 10 ∧ isDead s e then s.put .SLOT_ENGINE i (if s.kind i = 0 then noEngine else (chooseSpare s []).getD noEngine) else s

/-- BOOT_BIST: `dead` has a bit per engine that failed. -/
def bootBist (s : State) (dead : Nat) : State :=
  let s := (idsWhere 10 (bit dead)).foldl (fun a e => engineDead a e 2) s
  let s := refreshEngines ((List.range 8).foldl bootEngine s)
  s.put .BOOT_STAGE 0 7

/-- The bank release of the boot ends a D-die's stop-bath (R475). -/
def bootBank (s : State) (b : Nat) : State :=
  if s.flag .VDRV_OK b then bankRelease (portsOff (s.put .HB_OUT b 0) (bankPorts b)) b else s

/-- BOOT_BANK_RELEASE: every bank out of lock-out; the others follow later (R473). -/
def bootBanks (s : State) : State := (List.range 4).foldl bootBank s

/-- BOOT_DONE; `elapsed` is the time since the release of the reset, in 100 µs. -/
def bootDone (s : State) (elapsed : Nat) : State :=
  let s := bootUp (reloadCobs (developCan s))
  let s := ((s.put .USB_UP 0 1).put .BOOT_DONE 0 1).put .BOOT_STAGE 0 0xF
  let s := (s.put .BOOT_TIME 0 (min 0xFFFF elapsed)).put .SEQ_SERVED 0 s.ts
  let s := judgeFaultn s
  s.post 0x1100 0x0 noSlot (s.get .BOOT_TIME 0 + s.get .RESET_CAUSE 0 * 65536)

end Sys2Proof.Machine
end

