-- ==== Sys2Proof/Machine/Commands.lean ====
section
/-! DEFINITION. Writes and reads of any object by any writer, and the objects that restart, reset, store, switch or
calibrate something (R13, R238, R347, R385, R387, R453, R456, R457, R477, R481, R486). -/

namespace Sys2Proof.Machine

/-- A refusal that is no security refusal, in the log: whose object, and its value. -/
def logRefused (s : State) (idx sub v : Nat) : State :=
  s.record 0x08 (Config.otherRefusal idx) (actorOf s) (subjectOf idx sub) v

/-! ## Domain requests -/

/-- A write of DOM_OFF_REQ by a path: rejected as a whole for domains that stay on; refused where one domain may not go
off now; else latent until the status tick (R481, R482, R486). -/
def domOffWrite (s : State) (path v : Nat) : State × Nat :=
  if 0xFFF < v then (s, abRange)
  else if v % 8 ≠ 0 then (s, abRange)
  else
    let asked := s.put .DOM_REQ_PATH 0 path
    match (List.range 12).find? fun d => bit v d && !s.getBit .DOM_OFF_REQ 0 d && s.getBit .DOM_ON 0 d && !offAllowed asked d with
    | some d => (domainRefuse s d, abState)
    | none => (asked.put .DOM_OFF_REQ 0 v, 0)

/-- DOMAIN_RESTART on command. -/
def domainCommand (s : State) (path d : Nat) : State × Nat :=
  if 11 < d then (s, abRange)
  else if authOn s path < 2 then (logRefused s 0x2306 0 d, abState)
  else stateAbort (domainRestart s d)

/-! ## Restart and reset on command -/

/-- SEQ_RESTART, judged. -/
def seqJudge (s : State) (path v : Nat) : State × Nat :=
  if v ≠ 1 then (s, abRange)
  else if authOn s path < 2 then (logRefused s 0x2307 0 v, abState)
  else (s, 0)

/-- DEV_RESET, judged (R477). -/
def resetJudge (s : State) (path v : Nat) : State × Nat :=
  if v ≠ 0x746F6F62 then (logRefused s 0x2002 1 v, abRange)
  else if authOn s path < 2 ∨ !((List.range 8).all s.slotDisabled) then (logRefused s 0x2002 1 v, abState)
  else (s, 0)

/-- What happens once such a write has been answered: the straps read as they do. -/
def afterWrite (s : State) (idx sub : Nat) : State :=
  if idx = 0x2307 then seqRestart s 3
  else if idx = 0x2002 ∧ sub = 1 then deviceReset s 4 0 (s.get .PROFSEL 0) (s.flag .ROLE_STRAP 0)
  else s

/-! ## Calibration commands -/

/-- The authority for a sealed command: a commissioning session, or a session of service role with the armed value. -/
def mayRunSealed (s : State) (auth idx sub : Nat) (bytes : List Nat) : Bool :=
  auth == 3 || (auth == 2 && isArmed s idx sub bytes)

/-- A sealed command that has run: logged, and no longer armed. -/
def sealedRan (s : State) (idx sub : Nat) (bytes : List Nat) : State :=
  let s := s.record 0x01 0 (actorOf s) (subjectOf idx sub) (leVal bytes)
  if isArmed s idx sub bytes then disarm s idx sub bytes else s

def sealedRun (s : State) (auth idx sub : Nat) (bytes : List Nat) (ok : Bool) (run : State → State × Bool) : State × Nat :=
  if bytes.length ≠ 1 then (s, abLength)
  else if !mayRunSealed s auth idx sub bytes then (refuse s 0x49 idx (subjectOf idx sub), abSealed)
  else if !ok then (s, abRange)
  else
    let (s, done) := run s
    if done then (sealedRan s idx sub bytes, 0) else (logRefused s idx sub (leVal bytes), abState)

def vwCalWrite (s : State) (auth i : Nat) (bytes : List Nat) : State × Nat :=
  sealedRun s auth (0x2856 + 0x100 * i) 0 bytes (leVal bytes == 1) fun a => vwCalRun a i

def syscalWrite (s : State) (auth : Nat) (bytes : List Nat) : State × Nat :=
  let v := leVal bytes
  sealedRun s auth 0x2208 3 bytes (v == 1 || v == 2) fun a => let (a, why) := syscalStart a v; (a, why == 0)

/-! ## Requests to helpers (R37 to R39, R385) -/

/-- The domain of the helper that holds a value: that of the block its register sits in. -/
def regDomain (r : Reg) : Nat :=
  ((regBlocks.find? fun b => b.fields.any fun f => f.reg == r).bind fun b => blockDomain b.base).getD domAon

/-- The domain of the helper an object access is for. -/
def objDomain (s : State) (idx sub : Nat) : Nat := match objRef s idx sub with
  | .table row _ => ((row.parts.map fun p => regDomain p.reg).find? (· != domAon)).getD domAon
  | _ => domAon

def generalTagFree (s : State) : Bool :=
  (List.range generalTags).any fun k => !s.flag .TAG_BUSY k && !s.flag .TAG_QUARANTINE k

/-- Whether a request to the helpers of a domain is answered within the command. -/
def helperAnswers (s : State) (d : Nat) : Bool := domLive s d && generalTagFree s

/-- A request that is not answered within the command: it waits for a tag, or is in flight to helpers that restart.
Helpers of a domain that is off are not asked (R76). -/
def askHelper (s : State) (d : Nat) : State :=
  if domLive s d ∨ s.flag .DOM_RESTARTING d then issueTag s d else s

/-! ## Any write, any read -/

/-- A write of an object; `auth` as in objStore. A sequencer that restarts refuses it (R15, R386). -/
def objWriteAny (s : State) (auth path idx sub : Nat) (bytes : List Nat) : State × Nat :=
  let (b, i) := normIndex idx
  let v := leVal bytes
  let sized (n : Nat) (x : State × Nat) : State × Nat := if bytes.length ≠ n then (s, abLength) else x
  if s.flag .SEQ_DOWN 0 then (s, abState)
  else if b = 0x1010 ∧ 1 ≤ sub ∧ sub ≤ 4 then sized 4 (storeParameters s sub v)
  else if b = 0x1011 ∧ 1 ≤ sub ∧ sub ≤ 4 then sized 4 (restoreParameters s sub v)
  else if b = 0x2002 ∧ sub = 1 then sized 4 (resetJudge s path v)
  else if b = 0x2002 ∧ sub = 2 then sized 2 (domOffWrite s path v)
  else if b = 0x2600 ∧ sub = 1 then sized 1 (if 3 < v then (s, abRange) else profSelect s v)
  else if b = 0x2306 ∧ sub = 0 then sized 1 (domainCommand s path v)
  else if b = 0x2307 ∧ sub = 0 then sized 1 (seqJudge s path v)
  else if b = 0x2856 ∧ sub = 0 then vwCalWrite s auth i bytes
  else if b = 0x2208 ∧ sub = 3 then syscalWrite s auth bytes
  else
    let (s', a) := objStore s auth path idx sub bytes
    if a = 0 ∧ !helperAnswers s (objDomain s idx sub) then (askHelper s (objDomain s idx sub), abState)
    else (if a = abSealed ∧ objSealed s idx sub then refuse s' 0x49 idx (subjectOf idx sub) else s', a)

/-- A read of an object. -/
def objReadAny (s : State) (idx sub : Nat) : State × Nat × List Nat :=
  if s.flag .SEQ_DOWN 0 then (s, abState, [])
  else
    let (s', a, d) := objRead s idx sub
    if a = 0 ∧ !helperAnswers s (objDomain s idx sub) then (askHelper s (objDomain s idx sub), abState, [])
    else (s', a, d)

/-- Whether SDO and USDO are served on the network. -/
def sdoServed (s : State) : Bool := networkUp s && s.getBit .DOM_ON 0 9

/-- An SDO, USDO or tunnelled write: no service, no transfer; else the answer comes before what it causes. -/
def plainWrite (s : State) (path idx sub : Nat) (bytes : List Nat) : State :=
  if path = 2 ∧ !sdoServed s then s
  else
    let (s, a) := objWriteAny (served s) 0 path idx sub bytes
    let s := s.reply a []
    if a = 0 then afterWrite s idx sub else s

end Sys2Proof.Machine
end

