-- ==== Sys2Proof/Machine/Security.lean ====
section
/-! DEFINITION. Requests of the service protocol: how one is judged and answered, and the flows of sessions, claims,
revocations, profile images and patches (R438 to R441, R449 to R451, R454, R458 to R468). -/

namespace Sys2Proof.Machine

/-! ## Judging and answering a request -/

/-- A command code and the role it needs, 0 for none. -/
structure XomorRule where
  cmd : Nat
  role : Nat
deriving DecidableEq, Repr

/-- Nonce of R461. -/
def ccmNonce (id dir ctr : Nat) : List Nat := leBytes 4 id ++ [dir] ++ leBytes 4 ctr ++ [0, 0, 0, 0]

/-- Whether a path carries frames: USB from its attachment and CANopen while SDO is served, both with NET on. -/
def pathUp (s : State) (path : Nat) : Bool :=
  if path = 1 then s.flag .USB_UP 0 && s.getBit .DOM_ON 0 9 else if path = 2 then sdoServed s else true

/-- A response: plain, or sealed under the key the request came with; a payload too long for it is answered with 0x02. -/
def answer (s : State) (path cmd : Nat) (r : Request) (crypt : Option (List Nat × Nat)) (status : Nat) (payload : List Nat) : State :=
  let payload := payload.map (· % 256)
  match crypt with
  | none => if 1024 < payload.length then respond s path 1 r.seq cmd 0x02 [] else respond s path 1 r.seq cmd status payload
  | some (key, id) =>
    let (status, payload) := if 1016 < payload.length then (0x02, []) else (status, payload)
    let s := s.put .CTR_TX 0 (s.get .CTR_TX 0 + 1)
    let head := frameHead 3 r.seq (payload.length + 8) cmd status
    respond s path 3 r.seq cmd status (ccmSeal key (ccmNonce id 1 (s.get .CTR_TX 0)) head payload)

/-- Opening a protected request: the plaintext, or `none` where it is dropped unanswered. -/
def openRequest (s : State) (cmd : Nat) (r : Request) : State × Option (List Nat) :=
  let head := frameHead r.flags r.seq r.payload.length cmd 0
  match ccmOpen s.sec.key (ccmNonce (s.get .SESS_ID 0) 0 r.ctr) head r.payload with
  | none => (sessionDrop s 0x4C cmd, none)
  | some text =>
    if r.ctr ≤ s.get .CTR_RX 0 ∨ 2 ^ 32 ≤ r.ctr then (sessionDrop s 0x4D cmd, none)
    else ((s.put .CTR_RX 0 r.ctr).put .SESS_TICK 0 s.ts, some text)

/-- What a request's command does: state, STATUS and payload of the response. -/
abbrev Served := State × Nat × List Nat

/-- A role too low for a command: refused with STATUS 0x04, and logged with that code (R14, R440, R466). -/
def roleTooLow (s : State) (subject : Nat) : State := s.record 0x08 0x04 (actorOf s) subject 0

/-- A request that may be performed, answered; `after`, given the payload too, runs once the answer is on its way. -/
def perform (s : State) (path : Nat) (rule : XomorRule) (r : Request) (crypt : Option (List Nat × Nat)) (text : List Nat)
    (f : State → List Nat → Served) (after : List Nat → State → State) : State :=
  if s.get .SESS_ROLE 0 < rule.role then answer (roleTooLow s rule.cmd) path rule.cmd r crypt 0x04 []
  else
    let (s, status, payload) := f s text
    let s := answer s path rule.cmd r crypt status payload
    if status = 0 then after text s else s

/-- One request of a path (R438 to R441, R447, R461, R463). -/
def request (s : State) (path : Path) (rule : XomorRule) (r : Request) (f : State → List Nat → Served) (after : List Nat → State → State) : State :=
  let p := path.code
  if !pathUp s p then s
  else if s.flag .SEQ_DOWN 0 then s.count .QDROP 14
  else if !r.crcOk ∨ 3 < r.flags ∨ 1024 < r.payload.length then s
  else
    let s := (served s).put .XO_BUSY p 0
    let plain (s : State) (status : Nat) : State := answer s p rule.cmd r none status []
    if r.ver ≠ xomorVer then plain s 0x08
    else if 0x10 ≤ rule.cmd ∧ !s.getBit .DOM_ON 0 11 then plain (refuse s 0x7F rule.cmd rule.cmd) 0x7F
    else if bit r.flags 1 then
      if !s.flag .SESS_OPEN 0 then
        if s.get .SESS_TOKEN 0 = 0 then plain s 0x03 else plain (refuse s 0x4B rule.cmd rule.cmd) 0x4B
      else if s.get .SESS_PATH 0 ≠ p then plain s 0x03
      else
        let crypt := some (s.sec.key, s.get .SESS_ID 0)
        match openRequest s rule.cmd r with
        | (s, none) => s
        | (s, some text) => perform s p rule r crypt text f after
    else if (sessionOn s p ∧ rule.cmd ≠ 0) ∨ rule.role ≠ 0 then plain s 0x03
    else perform s p rule r none r.payload f after

/-- A security refusal as the answer. -/
def refused (s : State) (code cmd : Nat) : Served := (refuse s code cmd cmd, code, [])

/-- A payload of a length the command does not take, or a field out of range. -/
def badField (s : State) : Served := (s, 0x02, [])

/-! ## Keys and random draws -/

/-- `n` bytes of the true random source. -/
def draw (s : State) (n : Nat) : State × List Nat :=
  let k := s.get .DRAWS 0
  (s.put .DRAWS 0 (k + 1), (List.range n).map fun j => (Config.randomBytes k).getD j 0 % 256)

/-- The device's own signature. -/
def signed (s : State) (text : List Nat) : State × List Nat :=
  let k := s.get .DRAWS 0
  (s.put .DRAWS 0 (k + 1), s.deviceSign k text)

/-! ## Sessions (R458, R459, R463) -/

def tokenRole (t : List Nat) : Nat := t.getD 2 0
def tokenPaths (t : List Nat) : Nat := t.getD 3 0
def tokenId (t : List Nat) : Nat := fieldAt t 4 4
def tokenSerial (t : List Nat) : Nat := fieldAt t 8 4
def tokenFrom (t : List Nat) : Nat := fieldAt t 12 4
def tokenTo (t : List Nat) : Nat := fieldAt t 16 4

def revokedToken (s : State) (id : Nat) : Bool := decide (id < s.get .REVOKE_BELOW 0) || s.sec.revoked.contains id

/-- Checks of a token in the order of R459: 0 or the refusal. -/
def tokenFault (s : State) (path : Nat) (t : List Nat) : Nat :=
  let key := slice t 84 64
  if !s.flag .CLAIMED 0 then 0x40
  else if !ownsKey s key then 0x43
  else if !ecdsaVerifies key (t.take 148) (slice t 148 64) then 0x42
  else if tokenSerial t ≠ 0 ∧ tokenSerial t ≠ s.sec.identity.serial then 0x44
  else if revokedToken s (tokenId t) then 0x45
  else if s.get .SVC_HOURS 0 < tokenFrom t then 0x46
  else if tokenTo t ≤ s.get .SVC_HOURS 0 then 0x47
  else if !bit (tokenPaths t) path then 0x48
  else if s.flag .SESS_OPEN 0 then 0x4A
  else 0

def hello (s : State) (path : Nat) (t : List Nat) : Served :=
  if t.length ≠ 212 ∨ fieldAt t 0 2 ≠ 1 ∨ tokenRole t = 0 ∨ 3 < tokenRole t ∨ tokenId t = 0 then badField s
  else if tokenFault s path t ≠ 0 then refused s (tokenFault s path t) 0x10
  else
    let (s, nonce) := draw s 16
    let (s, secret) := draw s 32
    let point := publicPoint secret
    let (s, sig) := signed s (nonce ++ point ++ leBytes 4 (tokenId t) ++ leBytes 4 s.sec.identity.serial)
    ({ s with sec := { s.sec with challenge := some ⟨path, nonce, secret, point, t, s.ts⟩ } }, 0, nonce ++ point ++ sig)

def dropChallenge (s : State) : State := { s with sec := { s.sec with challenge := none } }

/-- The challenge that a proof on a path answers. -/
def pendingChallenge (s : State) (path : Nat) : Option Challenge :=
  s.sec.challenge.filter fun c => c.path == path && decide (s.ts ≤ c.tick + 10 * ticksPerSecond) && !s.flag .SESS_OPEN 0

def prove (s : State) (path : Nat) (text : List Nat) : Served :=
  if text.length ≠ 128 then badField s
  else match pendingChallenge s path with
  | none => refused s 0x58 0x11
  | some c =>
    let qt := text.take 64
    let s := dropChallenge s
    if !ecdsaVerifies (slice c.token 20 64) (c.nonce ++ c.point ++ qt ++ leBytes 4 s.sec.identity.serial) (text.drop 64) then
      refused s 0x42 0x11
    else
      let id := trunc 32 s.free
      let s := s.freed
      let key := (sha256 (sharedSecret c.secret qt ++ c.nonce ++ leBytes 4 (tokenId c.token))).take 16
      let role := tokenRole c.token
      let s := (((s.put .SESS_OPEN 0 1).put .SESS_ROLE 0 role).put .SESS_PATH 0 path).put .SESS_ID 0 id
      let s := ((s.put .SESS_TOKEN 0 (tokenId c.token)).put .SESS_VALID_TO 0 (tokenTo c.token)).put .SESS_TICK 0 s.ts
      let s := ((s.put .CTR_RX 0 0).put .CTR_TX 0 0).put .SESS_DROPS 0 0
      let s := { s with sec := { s.sec with token := c.token, key := key } }
      let s := s.post 0x0F01 0xA noSlot (role + path * 16 + 256)
      let s := s.record 0x06 0 (tokenId c.token) id (role + path * 16)
      (s, 0, leBytes 4 id ++ [role] ++ leBytes 2 (s.get .SESS_IDLE 0))

def idleExpiry (s : State) : State :=
  if s.flag .SESS_OPEN 0 ∧ s.get .SESS_TICK 0 + s.get .SESS_IDLE 0 * ticksPerSecond ≤ s.ts then endSession s endIdle else s

def proveTimeout (s : State) : State :=
  match s.sec.challenge with
  | some c => if c.tick + 10 * ticksPerSecond ≤ s.ts then dropChallenge s else s
  | none => s

/-- 0.1 h of powered time (R448). -/
def serviceUnit : Nat := 360 * ticksPerSecond

def serviceHours (s : State) : State :=
  if s.ts < s.get .SVC_TICK 0 + serviceUnit then s
  else
    let s := (s.count .SVC_HOURS 0).put .SVC_TICK 0 s.ts
    if s.flag .SESS_OPEN 0 ∧ s.get .SESS_VALID_TO 0 ≤ s.get .SVC_HOURS 0 then endSession s endExpired else s

/-! ## Claim and revocation (R450, R451) -/

def claimFault (s : State) (path : Nat) (m : List Nat) : Nat :=
  let signer := slice m 72 64
  if !s.flag .CLAIMED 0 ∧ path = 2 then 0x55
  else if (if s.flag .CLAIMED 0 then !ownsKey s signer else signer != slice m 8 64) then 0x43
  else if !ecdsaVerifies signer (m.take 136) (slice m 136 64) then 0x42
  else if fieldAt m 4 4 = 0 ∨ fieldAt m 4 4 ≠ s.sec.identity.serial then 0x44
  else if fieldAt m 2 2 ≤ s.get .CLAIM_CNT 0 then 0x41
  else 0

/-- An accepted claim; the audit log numbers its entries from the first one on. -/
def claimTake (s : State) (m : List Nat) : State :=
  let first := !s.flag .CLAIMED 0
  let s := endSession s endClaim
  let s := (s.put .CLAIMED 0 1).put .CLAIM_CNT 0 (fieldAt m 2 2)
  let s := (s.put .REV_SEQ 0 0).put .REVOKE_BELOW 0 0
  let s := dropChallenge { s with sec := { s.sec with ownerHash := sha256 (slice m 8 64), revoked := [] } }
  let s := if first then s.put .AUDIT_SEQ 0 0 else s
  refreshValid (s.record 0x04 0 0 (fieldAt m 4 4) (fieldAt m 2 2))

def claim (s : State) (path : Nat) (m : List Nat) : Served :=
  if m.length ≠ 200 ∨ fieldAt m 0 2 ≠ 2 then badField s
  else if claimFault s path m ≠ 0 then refused s (claimFault s path m) 0x18
  else (claimTake s m, 0, [])

def revokeFault (s : State) (m : List Nat) : Nat :=
  let n := m.length
  let key := slice m (n - 128) 64
  if !s.flag .CLAIMED 0 then 0x40
  else if !ownsKey s key then 0x43
  else if !ecdsaVerifies key (m.take (n - 64)) (m.drop (n - 64)) then 0x42
  else if fieldAt m 4 4 ≤ s.get .REV_SEQ 0 then 0x5A
  else 0

def revoke (s : State) (m : List Nat) : Served :=
  let n := fieldAt m 12 2
  if m.length < 142 ∨ fieldAt m 0 2 ≠ 3 ∨ 32 < n ∨ m.length ≠ 142 + 4 * n then badField s
  else if revokeFault s m ≠ 0 then refused s (revokeFault s m) 0x19
  else
    let ids := (List.range n).map fun k => fieldAt m (14 + 4 * k) 4
    let s := (s.put .REV_SEQ 0 (fieldAt m 4 4)).put .REVOKE_BELOW 0 (fieldAt m 8 4)
    let s := { s with sec := { s.sec with revoked := ids } }
    let s := s.record 0x05 0 0 (fieldAt m 4 4) (fieldAt m 8 4)
    let s := match s.sec.challenge with
      | some c => if revokedToken s (tokenId c.token) then dropChallenge s else s
      | none => s
    (if s.flag .SESS_OPEN 0 ∧ revokedToken s (s.get .SESS_TOKEN 0) then endSession s endRevoked else s, 0, [])

def identity (s : State) (text : List Nat) : Served :=
  if text ≠ [] then badField s
  else
    let owner := if s.sec.ownerHash = [] then List.replicate 32 0 else s.sec.ownerHash
    (s, 0, leBytes 4 s.sec.identity.serial ++ s.deviceKey ++ s.sec.identity.factorySignature ++ owner ++ leBytes 2 (s.get .CLAIM_CNT 0)
      ++ leBytes 4 (s.get .SVC_HOURS 0))

/-! ## Uploads (R454, R464) -/

def setUpload (s : State) (u : Option Upload) : State := { s with sec := { s.sec with upload := u } }

/-- Data of an upload: what lies beyond the announced length is refused, a gap is a bad field. -/
def uploadData (s : State) (patch : Bool) (cmd : Nat) (text : List Nat) : Served :=
  let off := fieldAt text 0 4
  let d := text.drop 4
  match s.sec.upload with
  | none => badField s
  | some u =>
    if u.patch ≠ patch ∨ text.length < 5 ∨ 1004 < text.length ∨ u.bytes.length < off then badField s
    else if u.length < off + d.length then refused s 0x50 cmd
    else (setUpload s (some { u with bytes := u.bytes.take off ++ d ++ u.bytes.drop (off + d.length) }), 0, [])

/-- The running upload of a kind, complete. -/
def uploadDone (s : State) (patch : Bool) : Option (Upload × Bool) :=
  (s.sec.upload.filter fun u => u.patch == patch).map fun u => (u, u.bytes.length == u.length)

def profBegin (s : State) (text : List Nat) : Served :=
  let n := text.headD 0
  if text.length ≠ 5 ∨ 3 < n then badField s
  else if imageMax < fieldAt text 1 4 then refused s 0x50 0x20
  else (setUpload s (some ⟨false, n, fieldAt text 1 4, []⟩), 0, [])

/-- The check of a script entry's value: the length of its command object, and the values a calibration command takes. -/
def scriptFault (s : State) (e : ObjEntry) : Nat := match objRef s e.index e.sub with
  | .table row _ => if e.value.length = row.size then 0 else abLength
  | .special o i =>
    if o.size ≠ 0 ∧ e.value.length ≠ o.sizeAt e.sub then abLength
    else if e.index = 0x2856 + 0x100 * i ∧ o.index = 0x2856 ∧ leVal e.value ≠ 1 then abRange
    else if o.index = 0x2208 ∧ leVal e.value ≠ 1 ∧ leVal e.value ≠ 2 then abRange
    else 0
  | _ => 0

/-- The first entry of an image that names no object, or whose value its object refuses: offset and abort code. Values
are tried one after another, with the device's own authority, and what they change is not kept. -/
def entryFault (s : State) : List (Nat × Bool × ObjEntry) → Option (Nat × Nat)
  | [] => none
  | (off, script, e) :: t =>
    if script then
      match objRef s e.index e.sub with
      | .noObject => some (off, abNoObject)
      | .noSub => some (off, abNoSub)
      | _ =>
        if !objCommand s e.index e.sub then some (off, abWriteRo)
        else if scriptFault s e ≠ 0 then some (off, scriptFault s e)
        else entryFault s t
    else if objCommand s e.index e.sub then some (off, abState)
    else
      let (s', a) := objStore s 4 0 e.index e.sub e.value
      if a = 0 then entryFault s' t else some (off, a)

/-- Checks of a complete image in the order of R454: refusal with its payload, or `none`. -/
def profFault (s : State) (n : Nat) (img : List Nat) (whole : Bool) : Option (Nat × List Nat) :=
  let old := (profileArea s n).image
  if !whole ∨ !imageShape img then some (0x50, [])
  else if imageFault s img ≠ 0 then some (imageFault s img, [])
  else if old ≠ [] ∧ imageSeq img ≤ imageSeq old then some (0x4E, [])
  else match imageEntries img with
    | .error off => some (0x4F, leBytes 4 off ++ leBytes 4 abLength)
    | .ok es => (entryFault s es).map fun x => (0x4F, leBytes 4 x.1 ++ leBytes 4 x.2)

def profEnd (s : State) (text : List Nat) : Served :=
  if text ≠ [] then badField s
  else match uploadDone s false with
  | none => badField s
  | some (u, whole) =>
    let s := setUpload s none
    match profFault s u.area u.bytes whole with
    | some (code, d) => (refuse s code 0x22 0x22, code, d)
    | none =>
      let seq := imageSeq u.bytes
      let s := setProfile s u.area ⟨u.bytes, [], [], [], true, true⟩
      (refreshValid (s.record 0x02 0 (actorOf s) u.area seq), 0, leBytes 4 seq)

/-! ## Patches (R464) -/

/-- The half that does not run. -/
def idleHalf (s : State) : Nat := if s.get .PATCH_ACTIVE 0 = 1 then 1 else 0

def patchBegin (s : State) (text : List Nat) : Served :=
  if text.length ≠ 4 then badField s
  else if 32768 < fieldAt text 0 4 then refused s 0x50 0x24
  else (patchStatus (patchErase (setUpload s (some ⟨true, 0, fieldAt text 0 4, []⟩)) (idleHalf s)), 0, [])

def patchEnd (s : State) (text : List Nat) : Served :=
  if text ≠ [] then badField s
  else match uploadDone s true with
  | none => badField s
  | some (u, whole) =>
    let h := idleHalf s
    let s := setUpload s none
    let why := if whole then patchFault s u.bytes else 0x50
    if why ≠ 0 then refused (patchStatus (patchErase s h)) why 0x26
    else
      let s := { s.setBit .PATCH_OK 0 h true with sec := { s.sec with patches := s.sec.patches.set h u.bytes } }
      let s := patchStatus (s.record 0x09 0 (actorOf s) (patchLevel u.bytes) (patchRollback u.bytes))
      (s, 0, leBytes 2 (patchLevel u.bytes) ++ leBytes 2 (patchRollback u.bytes))

def patchActivate (s : State) (text : List Nat) : Served :=
  let h := idleHalf s
  let img := patchHalf s h
  if text ≠ [] then badField s
  else if patchFault s img ≠ 0 then refused s (patchFault s img) 0x27
  else
    let s := (s.put .PATCH_ACTIVE 0 (h + 1)).put .ROLLBACK_MIN 0 (patchRollback img)
    let s := s.put .SEQ_NOPATCH 0 0
    let s := s.record 0x0A 0 (actorOf s) (patchLevel img) (patchRollback img)
    (s.post 0x0F04 0xA noSlot (patchLevel img), 0, [])

/-! ## The audit log (R465, R466) -/

/-- Entries since the first claim. -/
def auditNumbered (s : State) : List AuditEntry := s.audit.drop (s.audit.length - s.get .AUDIT_SEQ 0)

def auditRead (s : State) (text : List Nat) : Served :=
  let n := text.getD 4 0
  if text.length ≠ 5 ∨ n = 0 ∨ 31 < n then badField s
  else (s, 0, (((auditNumbered s).filter fun e => decide (fieldAt text 0 4 ≤ e.seq)).take n).flatMap AuditEntry.bytes)

def auditSeal (s : State) (text : List Nat) : Served :=
  if text ≠ [] then badField s
  else
    let newest := leBytes 4 (match s.audit.getLast? with | some e => e.seq | none => 0) ++ lastChain s
    let (s, sig) := signed s newest
    (s, 0, newest ++ sig)

/-! ## Diagnosis and objects (R439) -/

def identify (s : State) (text : List Nat) : Served :=
  if text ≠ [] then badField s
  else
    let role := if s.flag .SESS_OPEN 0 then s.get .SESS_ROLE 0 else 0xFF
    (s, 0, leBytes 4 0x00008032 ++ leBytes 4 0x0B020301 ++ leBytes 4 s.sec.identity.serial ++ leBytes 2 (s.get .PATCH_LEVEL 0)
      ++ [s.get .PROF_ACTIVE 0, role])

/-- An object access that failed. -/
def objFailed (s : State) (a : Nat) : Served := (s, 0x05, leBytes 4 a)

def readObject (s : State) (text : List Nat) : Served :=
  if text.length ≠ 3 then badField s
  else
    let (s, a, d) := objReadAny s (fieldAt text 0 2) (text.getD 2 0)
    if a = 0 then (s, 0, d) else objFailed s a

/-- OBJ_WRITE of a sealed value: staged in a commissioning session (R460, R462). -/
def writeSealed (s : State) (idx sub : Nat) (bytes : List Nat) : Served :=
  if s.get .SESS_ROLE 0 < 3 then (refuse s 0x49 0x02 (subjectOf idx sub), 0x49, [])
  else
    let (s, code, a) := stage s idx sub bytes
    if a ≠ 0 then objFailed s a else (s, code, [])

def writeObject (s : State) (path : Nat) (text : List Nat) : Served :=
  let idx := fieldAt text 0 2
  let sub := text.getD 2 0
  let bytes := text.drop 3
  if text.length < 3 then badField s
  else if objSealed s idx sub ∧ !objCommand s idx sub then writeSealed s idx sub bytes
  else if objSealed s idx sub ∧ !mayRunSealed s (s.get .SESS_ROLE 0) idx sub bytes then
    (refuse s 0x49 0x02 (subjectOf idx sub), 0x49, [])
  else if s.get .SESS_ROLE 0 < 2 then (roleTooLow s (subjectOf idx sub), 0x04, [])
  else
    let (s, a) := objWriteAny s (s.get .SESS_ROLE 0) path idx sub bytes
    if a = 0 then (s, 0, []) else objFailed s a

/-- A register access that failed, in the format of SPI_STAT. -/
def regFailed (s : State) (err : Nat) : Served := (s, 0x06, [0xA0 ||| err])

def slotAddress (a : Nat) : Bool := decide (a < 2 ^ 24) && a % 4 == 0

def readRegs (s : State) (text : List Nat) : Served :=
  let a := fieldAt text 0 4
  let n := fieldAt text 4 2
  if text.length ≠ 6 ∨ n = 0 ∨ 256 < n then badField s
  else if !slotAddress a then regFailed s errAddr
  else
    let (t, err, d) := readBlock { s with winRead := [] } 1 a n []
    let s := { t with winRead := s.winRead }
    if err = 0 then (s, 0, d) else regFailed s err

def writeRegs (s : State) (text : List Nat) : Served :=
  let a := fieldAt text 0 4
  if text.length < 8 ∨ text.length % 4 ≠ 0 then badField s
  else if !slotAddress a then regFailed s errAddr
  else
    let (t, err) := writeBlock { s with winWrite := s.regs } 1 a (wordsOfBytes (text.drop 4))
    let s := { t with winWrite := s.winWrite }
    if err = 0 then (s, 0, []) else regFailed s err

/-- Whether a pointer of Q11 lies between RD and WR. -/
def eventHeld (s : State) (p : Nat) : Bool :=
  decide ((p + 2 * s.qSize 11 - s.get .QRD 11) % (2 * s.qSize 11) < s.qFill 11)

def eventsFrom (s : State) : Nat → Nat → List Nat
  | 0, _ => []
  | n + 1, p =>
    if !eventHeld s p then []
    else if s.qBad 11 p then eventsFrom s n (s.qNext 11 p 1)
    else (s.words (s.qAddr 11 p) 4).flatMap (leBytes 4) ++ eventsFrom s n (s.qNext 11 p 1)

def peekEvents (s : State) (text : List Nat) : Served :=
  let n := text.getD 2 0
  if text.length ≠ 3 ∨ n = 0 ∨ 60 < n then badField s
  else if 2 * s.qSize 11 ≤ fieldAt text 0 2 then (s, 0, [])
  else (s, 0, eventsFrom s n (fieldAt text 0 2))

def healthRegs : List Reg :=
  [.ABSORBED, .STALE_DROP, .ECC_CORR, .ECC_UNCORR, .STRIP_RUN, .STRIP_MISMATCH, .VOTE_SPLIT, .MIGRATIONS, .COLD_TAKE, .ENG_DEAD,
    .SEQ_RESTARTS, .SEQ_WD_CNT, .DOM_RESTARTS, .CAN_LOSS]

def healthReport (s : State) (text : List Nat) : Served :=
  if text ≠ [] then badField s
  else (s, 0, s.get .RED_LOST 0 :: healthRegs.flatMap fun r => leBytes 2 (s.get r 0))

/-- SESS_CLOSE, SESS_COMMIT and SESS_DISCARD. -/
def closeSession (s : State) (text : List Nat) : Served :=
  if text ≠ [] then badField s else (endSession s endClose, 0, [s.sec.staged.length])

def commitSession (s : State) (text : List Nat) : Served := if text ≠ [] then badField s else commit s

def discardSession (s : State) (text : List Nat) : Served :=
  if text ≠ [] then badField s else (dropStaged s, 0, [s.sec.staged.length])

end Sys2Proof.Machine
end

