-- ==== Sys2Proof/Machine/ResetCommands.lean ====
section
/-! DEFINITION. Meanings of the resets, the boot, the timebase and the heartbeat (R57 to R66, R474 to R480). -/

namespace Sys2Proof.Machine

open Host (Outcome)

/-- An answered access by object on a path: nothing where SDO is not served, refused during a sequencer restart (R15, R386). -/
def viaObject (s : State) (path : Path) (f : State → State × Nat) : State :=
  if path = .can ∧ !sdoServed s then s
  else if s.flag .SEQ_DOWN 0 then s.reply abState []
  else
    let (s, a) := f (served s)
    s.reply a []

/-- POWER_ON_RESET. -/
def execPowerOnReset (others : Nat) (profsel : Fin 4) (manager : Bool) (s : State) : Outcome State Fault Refusal :=
  .next (deviceReset s 0 others profsel manager)

/-- VCORE_BROWN_OUT. -/
def execVcoreBrownOut (others : Nat) (profsel : Fin 4) (manager : Bool) (s : State) : Outcome State Fault Refusal :=
  .next (deviceReset s 1 others profsel manager)

/-- VIO_BROWN_OUT. -/
def execVioBrownOut (others : Nat) (profsel : Fin 4) (manager : Bool) (s : State) : Outcome State Fault Refusal :=
  .next (deviceReset s 2 others profsel manager)

/-- RESETN. -/
def execResetn (others : Nat) (profsel : Fin 4) (manager : Bool) (s : State) : Outcome State Fault Refusal :=
  .next (deviceReset s 3 others profsel manager)

/-- DEV_RESET: judged, answered, and then the reset (R477). -/
def execDevReset (path : Path) (value : Nat) (profsel : Fin 4) (manager : Bool) (s : State) : Outcome State Fault Refusal :=
  let runs := decide (¬(path = .can ∧ !sdoServed s)) && !s.flag .SEQ_DOWN 0 && (resetJudge (served s) path.code value).2 == 0
  let s := viaObject s path fun a => resetJudge a path.code value
  .next (if runs then deviceReset s 4 0 profsel manager else s)

/-- BOOT_TIMEBASE_LOCK. -/
def execBootTimebaseLock (tbsync : Bool) (s : State) : Outcome State Fault Refusal :=
  .next (atStage s 1 fun a => bootLock a tbsync)

/-- CRYSTAL_LOSS_WAIT. -/
def execCrystalLossWait (crystal tbsync : Bool) (s : State) : Outcome State Fault Refusal :=
  .next (atStage s 1 fun a => bootNoReference a crystal tbsync)

/-- BOOT_ROM. -/
def execBootRom (t : Nat) (s : State) : Outcome State Fault Refusal := .next (atStage (s.atTick t) 2 bootRom)

/-- BOOT_PATCH. -/
def execBootPatch (t : Nat) (s : State) : Outcome State Fault Refusal := .next (atStage (s.atTick t) 3 bootPatch)

/-- BOOT_PROFILE. -/
def execBootProfile (t : Nat) (s : State) : Outcome State Fault Refusal := .next (atStage (s.atTick t) 4 bootProfile)

/-- VANA_READY. -/
def execVanaReady (t : Nat) (s : State) : Outcome State Fault Refusal := .next (vanaReady (s.atTick t))

/-- BOOT_CALIBRATION. -/
def execBootCalibration (t : Nat) (results : List (Int × Nat × Nat)) (s : State) : Outcome State Fault Refusal :=
  .next (atStage (s.atTick t) 5 fun a => bootCalibration a results)

/-- BOOT_BIST. -/
def execBootBist (t dead : Nat) (s : State) : Outcome State Fault Refusal :=
  .next (atStage (s.atTick t) 6 fun a => bootBist a dead)

/-- BOOT_BANK_RELEASE. -/
def execBootBankRelease (t : Nat) (s : State) : Outcome State Fault Refusal := .next (atStage (s.atTick t) 7 bootBanks)

/-- BOOT_DONE. -/
def execBootDone (t elapsed : Nat) (s : State) : Outcome State Fault Refusal :=
  .next (atStage (s.atTick t) 7 fun a => bootDone a elapsed)

/-- TB_APPLY. -/
def execTbApply (s : State) : Outcome State Fault Refusal := .next (tbApply s).1

/-- TIMEBASE_LOSS. -/
def execTimebaseLoss (t : Nat) (refOk pll : Bool) (s : State) : Outcome State Fault Refusal :=
  let s := s.atTick t
  .next (if s.flag .TB_RUNNING 0 then linkTimebaseLoss (timebaseLoss s refOk pll) else s)

/-- TIMEBASE_RESTART. -/
def execTimebaseRestart (gap : Nat) (levels : List Nat) (s : State) : Outcome State Fault Refusal :=
  .next (timebaseRestart s gap levels)

/-- STATUS_TICK. -/
def execStatusTick (s : State) : Outcome State Fault Refusal := .next (statusTick s)

/-- DELAYLINE_CALIBRATION. -/
def execDelaylineCalibration (t elems : Nat) (s : State) : Outcome State Fault Refusal := .next (delayLine (s.atTick t) elems)

/-- DDIE_WATCHDOG_EXPIRY. -/
def execDdieWatchdogExpiry (t : Nat) (b : Bank) (s : State) : Outcome State Fault Refusal := .next (watchdogExpiry (s.atTick t) b)

/-- DDIE_RELEASE. -/
def execDdieRelease (t : Nat) (b : Bank) (s : State) : Outcome State Fault Refusal := .next (dieRelease (s.atTick t) b)

end Sys2Proof.Machine
end

