-- ==== Sys2Proof/Machine/RegisterCommands.lean ====
section
/-! DEFINITION. Meanings of register and object accesses, of queues, SRAM scrubbing and the helpers' tags
(R13 to R15, R28 to R36, R43 to R53, R67 to R88). -/

namespace Sys2Proof.Machine

open Host (Outcome)

/-- The answer of a register write on a path: the result bits on SPI, an abort code through the window (R71, R88). -/
def ansWrite (path : RegPath) (x : State × Nat) : State :=
  match path with
  | .spi => x.1.reply 0 [0xA0 ||| x.2]
  | .window => (winStat x.1 x.2).reply (if x.2 = 0 then 0 else 0x08000020) []

/-- The answer of a register read on a path. -/
def ansRead (path : RegPath) (x : State × Nat × Nat) : State :=
  match path with
  | .spi => x.1.reply 0 [0xA0 ||| x.2.2, x.2.1]
  | .window =>
    let s := winStat x.1 x.2.2
    if x.2.2 = 0 then s.reply 0 (leBytes 4 x.2.1) else s.reply 0x08000020 []

/-- An access on a register path: the window is served by the sequencer, host SPI is not (R82, R386). -/
def viaRegister (s : State) (path : RegPath) (f : State → State) : State :=
  if path = .window ∧ s.flag .SEQ_DOWN 0 then s.reply abState []
  else f (if path = .window then served s else s)

/-- SPI_COMMAND_HEADER. -/
def execSpiCommandHeader (cmd addr : Nat) (s : State) : Outcome State Fault Refusal := .next (spiHeader s cmd addr)

/-- SPI_WRITE_WORD. -/
def execSpiWriteWord (w : Nat) (s : State) : Outcome State Fault Refusal := .next (spiWrite s w)

/-- SPI_READ_WORD. -/
def execSpiReadWord (ready : Bool) (s : State) : Outcome State Fault Refusal := .next (spiRead s ready)

/-- SPI_FRAME_END. -/
def execSpiFrameEnd (cut : Bool) (s : State) : Outcome State Fault Refusal := .next (spiEnd s cut)

/-- REGISTER_WRITE, with the hardware changes pending at the same grant. -/
def execRegisterWrite (path : RegPath) (addr word hwMask hwData : Nat) (inc : Int) (s : State) : Outcome State Fault Refusal :=
  .next (viaRegister s path fun a => ansWrite path (writeClash a path.code addr word hwMask hwData inc))

/-- WIDE_LOW_WORD_READ: latches the higher words of a wide field. -/
def execWideLowWordRead (path : RegPath) (addr : Nat) (s : State) : Outcome State Fault Refusal :=
  .next (viaRegister s path fun a => ansRead path (readWord a path.code addr))

/-- WIDE_HIGH_WORD_WRITE: goes to the path's shadow. -/
def execWideHighWordWrite (path : RegPath) (addr word : Nat) (s : State) : Outcome State Fault Refusal :=
  .next (viaRegister s path fun a => ansWrite path (writeWord a path.code addr word))

/-- An answered object read of the register window. -/
def answered (x : State × Nat × List Nat) : State := x.1.reply x.2.1 x.2.2

/-- REG_WIN_DATA_READ. -/
def execRegWinDataRead (s : State) : Outcome State Fault Refusal :=
  .next (viaRegister s .window fun a => answered (winRead a))

/-- REG_WIN_DATA_WRITE. -/
def execRegWinDataWrite (w : Nat) (s : State) : Outcome State Fault Refusal :=
  .next (viaRegister s .window fun a => let (a, e) := winWrite a w; a.reply e [])

/-- REG_WIN_BLOCK_READ. -/
def execRegWinBlockRead (s : State) : Outcome State Fault Refusal :=
  .next (viaRegister s .window fun a => answered (winBlockRead a))

/-- REG_WIN_BLOCK_WRITE. -/
def execRegWinBlockWrite (bytes : List Nat) (s : State) : Outcome State Fault Refusal :=
  .next (viaRegister s .window fun a => let (a, e) := winBlockWrite a bytes; a.reply e [])

/-- OBJECT_WRITE. -/
def execObjectWrite (path : Path) (index sub : Nat) (bytes : List Nat) (s : State) : Outcome State Fault Refusal :=
  .next (plainWrite s path.code index sub bytes)

/-- SRAM_SCRUB: words found with a single-bit and with a double-bit error. -/
def execSramScrub (t : Nat) (single double : List Nat) (s : State) : Outcome State Fault Refusal :=
  .next (scrub (fun a => seqRestart a 2) (s.atTick t) single double)

/-- The slot of a queue register (R53). -/
def queueSlot (q off : Nat) : Nat := 0x070000 + 0x40 * q + off

/-- QWR_WRITE: the whole write word, mask and data. -/
def execQwrWrite (path : RegPath) (q : QueueId) (word : Nat) (s : State) : Outcome State Fault Refusal :=
  .next (viaRegister s path fun a => ansWrite path (writeWord a path.code (queueSlot q 0xC) word))

/-- QRD_WRITE: the whole write word, mask and data. -/
def execQrdWrite (path : RegPath) (q : QueueId) (word : Nat) (s : State) : Outcome State Fault Refusal :=
  .next (viaRegister s path fun a => ansWrite path (writeWord a path.code (queueSlot q 0x8) word))

/-- QRESET; `offered` entries meet the queue while it resets. -/
def execQreset (q : QueueId) (offered : Nat) (s : State) : Outcome State Fault Refusal := .next (queueReset s q offered).1

/-- TAG_WAIT_RELEASE. -/
def execTagWaitRelease (s : State) : Outcome State Fault Refusal := .next (tagRelease s)

/-- HELPER_RESULT. -/
def execHelperResult (tag : Fin 64) (epoch : Nat) (s : State) : Outcome State Fault Refusal := .next (helperResult s tag epoch)

/-- TAG_RECLAIM. -/
def execTagReclaim (t : Nat) (tag : Fin 64) (s : State) : Outcome State Fault Refusal := .next (tagReclaim (s.atTick t) tag)

/-- EPOCH_DEFERRED_ADVANCE. -/
def execEpochDeferredAdvance (t : Nat) (n : Fin 70) (s : State) : Outcome State Fault Refusal := .next (epochDeferred (s.atTick t) n)

/-- A write-one command of the register tables. -/
def execCommand (r : Reg) (i v : Nat) (s : State) : State := (command s r i v).1

/-- SLACK_MIN_CLR. -/
def execSlackMinClr (i : Slot) (s : State) : Outcome State Fault Refusal := .next (execCommand .SLACK_MIN_CLR i 1 s)

end Sys2Proof.Machine
end

