-- ==== Sys2Proof/Machine/EngineCommands.lean ====
section
/-! DEFINITION. Meanings of engine cycles, slack, test strips, migration, domains and sequencer restarts
(R26 to R41, R371 to R387, R481 to R486). -/

namespace Sys2Proof.Machine

open Host (Outcome)

/-- ENGINE_CYCLE. -/
def execEngineCycle (i : Slot) (accept : Nat) (late differs : Bool) (epoch : Nat) (s : State) : Outcome State Fault Refusal :=
  .next (engineCycle s i accept late differs epoch)

/-- SLACK_FULL_RATE_RETURN. -/
def execSlackFullRateReturn (i : Slot) (s : State) : Outcome State Fault Refusal := .next (fullRate s i)

/-- DEADLINE_MISS_STRIP. -/
def execDeadlineMissStrip (i : Slot) (s : State) : Outcome State Fault Refusal := .next (missStrip s i)

/-- DEADLINE_MISS_MIGRATION. -/
def execDeadlineMissMigration (i : Slot) (s : State) : Outcome State Fault Refusal := .next (missMigration s i)

/-- TEST_STRIP_START. -/
def execTestStripStart (t : Nat) (s : State) : Outcome State Fault Refusal := .next (stripStart (s.atTick t))

/-- STRIP_COMPLETE. -/
def execStripComplete (t : Nat) (equal : Bool) (s : State) : Outcome State Fault Refusal := .next (stripComplete (s.atTick t) equal)

/-- VOTE_REPLAY_DONE. -/
def execVoteReplayDone (t : Nat) (verdict : Fin 4) (s : State) : Outcome State Fault Refusal := .next (voteDone (s.atTick t) verdict)

/-- ENGINE_BIST_DONE. -/
def execEngineBistDone (t : Nat) (e : Engine) (pass : Bool) (s : State) : Outcome State Fault Refusal := .next (bistDone (s.atTick t) e pass)

/-- NO_POST_PORTS_OFF. -/
def execNoPostPortsOff (t : Nat) (i : Slot) (s : State) : Outcome State Fault Refusal := .next (noPostOff (s.atTick t) i)

/-- MIGRATE: an answered command on a mask of slots. -/
def execMigrate (mask : Nat) (s : State) : Outcome State Fault Refusal :=
  .next (viaObject s .spi fun a => if mask = 0 ∨ 255 < mask then (a, abRange) else stateAbort (migrateMask a mask))

/-- MIGRATION_CUTOVER. -/
def execMigrationCutover (t : Nat) (i : Slot) (s : State) : Outcome State Fault Refusal := .next (migrationCutover (s.atTick t) i)

/-- COLD_TAKEOVER. -/
def execColdTakeover (i : Slot) (s : State) : Outcome State Fault Refusal := .next (coldTakeover s i)

/-- DOMAIN_RESTART on command. -/
def execDomainRestart (path : Path) (d : Nat) (s : State) : Outcome State Fault Refusal :=
  .next (viaObject s path fun a => domainCommand a path.code d)

/-- DOMAIN_RESTART_DONE. -/
def execDomainRestartDone (t : Nat) (d : Fin 12) (s : State) : Outcome State Fault Refusal := .next (domainRestartDone (s.atTick t) d)

/-- HELPER_HANDSHAKE_FAULT: the supervisor restarts the domain (R385). -/
def execHelperHandshakeFault (t : Nat) (d : Fin 12) (s : State) : Outcome State Fault Refusal := .next (domainRestart (s.atTick t) d).1

/-- SEQ_RESTART on command: answered before the restart. -/
def execSeqRestart (path : Path) (value : Nat) (s : State) : Outcome State Fault Refusal :=
  let runs := decide (¬(path = .can ∧ !sdoServed s)) && !s.flag .SEQ_DOWN 0 && (seqJudge (served s) path.code value).2 == 0
  let s := viaObject s path fun a => seqJudge a path.code value
  .next (if runs then seqRestart s 3 else s)

/-- SEQUENCER_WATCHDOG. -/
def execSequencerWatchdog (t : Nat) (s : State) : Outcome State Fault Refusal := .next (seqWatchdog (s.atTick t))

/-- SEQUENCER_RESTART_DONE. -/
def execSequencerRestartDone (t : Nat) (imageOk : Bool) (s : State) : Outcome State Fault Refusal := .next (seqDone (s.atTick t) imageOk)

/-- DOM_OFF_REQ. -/
def execDomOffReq (path : Path) (value : Nat) (s : State) : Outcome State Fault Refusal :=
  .next (viaObject s path fun a => domOffWrite a path.code value)

/-- DOMAIN_SWITCHED. -/
def execDomainSwitched (t : Nat) (d : Fin 12) (s : State) : Outcome State Fault Refusal := .next (domainSwitched (s.atTick t) d)

end Sys2Proof.Machine
end

