-- ==== Sys2Proof/Machine/MotionCommands.lean ====
section
/-! DEFINITION. Meanings of the port map, segments, modes, set-points, homing and step-follow (R93 to R105, R107 to R177). -/

namespace Sys2Proof.Machine

open Host (Outcome)

/-- PORTMAP_APPLY: only 1 applies the map (R105). -/
def execPortmapApply (value : Nat) (s : State) : Outcome State Fault Refusal :=
  .next (viaObject s .spi fun a => if value = 1 then (portmapApply a, 0) else (a, abRange))

/-- PORTMAP_SET_DEVELOP: the set of a slot (0 to 7) or of an X-port (8 to 39). -/
def execPortmapSetDevelop (n : Fin 40) (s : State) : Outcome State Fault Refusal := .next (portmapSet s n)

/-- SEG_WRITE. -/
def execSegWrite (i : Slot) (bytes : List Nat) (s : State) : Outcome State Fault Refusal :=
  .next (if s.flag .SEQ_DOWN 0 then s.reply abState [] else segWrite (served s) i bytes)

/-- SEG_PDO_ENQUEUE: the fourth word enqueues the entry. The PDO router writes it, also during a sequencer restart (R112). -/
def execSegPdoEnqueue (i : Slot) (w : Nat) (s : State) : Outcome State Fault Refusal :=
  let (s, a) := writeSegPdo s i 4 w
  .next (s.reply a [])

/-- SEG_RESTART. -/
def execSegRestart (i : Slot) (s : State) : Outcome State Fault Refusal := .next (execCommand .SEG_RESTART i 1 s)

/-- SEGMENT_START_ACTIONS. -/
def execSegmentStartActions (t : Nat) (s : State) : Outcome State Fault Refusal := .next (startActions (s.atTick t))

/-- ACC_GO: a commit of ACC_GO_T. -/
def execAccGo (n : Fin 8) (go : Nat) (s : State) : Outcome State Fault Refusal := .next (accGo s n (go % 2 ^ 64)).1

/-- SYNC_TIMEOUT. -/
def execSyncTimeout (t : Nat) (i : Slot) (s : State) : Outcome State Fault Refusal := .next (syncTimedOut (s.atTick t) i)

/-- A slot's drive object, written by any path but the ring (R404). -/
def viaDrive (s : State) (i : Nat) (f : State → State × Nat) : State :=
  viaObject s .spi fun a => if inRing a i then (a, abState) else f a

/-- MODE_CHANGE: 0x6060 is written. -/
def execModeChange (i : Slot) (mode : Int) (s : State) : Outcome State Fault Refusal :=
  .next (viaDrive s i fun a => if mode < -128 ∨ 127 < mode then (a, abRange) else writeMode a i (ofSigned 8 mode))

/-- The controlword is written. -/
def controlTo (s : State) (i cw : Nat) : State :=
  viaDrive s i fun a => (writeControlword a i cw (slotGatesLow a i), 0)

/-- A rising edge of one bit of the controlword: a bit that stands falls first. -/
def riseBit (s : State) (i k cw : Nat) : State :=
  let s := if s.getBit .CONTROLWORD i k then controlTo s i (setBit (s.get .CONTROLWORD i) k false) else s
  controlTo s i (setBit cw k true)

/-- NEW_SET_POINT: bits 5, 6 and 9 of the controlword come with the edge of bit 4. -/
def execNewSetPoint (i : Slot) (cw : Nat) (s : State) : Outcome State Fault Refusal :=
  .next (riseBit s i 4 (mergeMask (s.get .CONTROLWORD i) cw 0x260))

/-- CS_LOSS. -/
def execCsLoss (t : Nat) (i : Slot) (s : State) : Outcome State Fault Refusal := .next (chainLost (s.atTick t) i)

/-- ENABLE_INTERPOLATION: bit 4 in mode 7. -/
def execEnableInterpolation (i : Slot) (on : Bool) (s : State) : Outcome State Fault Refusal :=
  .next (controlTo s i (setBit (s.get .CONTROLWORD i) 4 on))

/-- HALT. -/
def execHalt (i : Slot) (s : State) : Outcome State Fault Refusal := .next (controlTo s i (setBit (s.get .CONTROLWORD i) cwHalt true))

/-- HALT_RELEASE. -/
def execHaltRelease (i : Slot) (s : State) : Outcome State Fault Refusal := .next (controlTo s i (setBit (s.get .CONTROLWORD i) cwHalt false))

/-- LIMIT_SWITCH_EDGE: `positive` names the ball LIMP. -/
def execLimitSwitchEdge (t : Nat) (i : Slot) (positive level : Bool) (s : State) : Outcome State Fault Refusal :=
  .next (sampled s fun s => switchEdge (s.atTick t) i (b2n positive) level)

/-- HOME_SWITCH_EDGE. -/
def execHomeSwitchEdge (t : Nat) (i : Slot) (level : Bool) (s : State) : Outcome State Fault Refusal :=
  .next (sampled s fun s => switchEdge (s.atTick t) i 2 level)

/-- INDEX_EDGE. -/
def execIndexEdge (t : Nat) (c : Slot) (level : Bool) (s : State) : Outcome State Fault Refusal := .next (sampled s fun s => indexEdge (s.atTick t) c level)

/-- HOMING_START: the edge of bit 4 in mode 6. -/
def execHomingStart (i : Slot) (s : State) : Outcome State Fault Refusal := .next (riseBit s i 4 (s.get .CONTROLWORD i))

/-- HOMING_CHATTER. -/
def execHomingChatter (i : Slot) (s : State) : Outcome State Fault Refusal := .next (homingChatters s i)

/-- HOMING_DISTANCE. -/
def execHomingDistance (i : Slot) (s : State) : Outcome State Fault Refusal := .next (homingTooFar s i)

/-- HOMING_NO_INDEX. -/
def execHomingNoIndex (i : Slot) (s : State) : Outcome State Fault Refusal := .next (homingLacksIndex s i)

/-- STEP_EDGE. -/
def execStepEdge (t : Nat) (c : Slot) (level dir : Bool) (s : State) : Outcome State Fault Refusal :=
  .next (sampled s fun s => stepEdge (s.atTick t) c level dir)

/-- SF_RESTART. -/
def execSfRestart (i : Slot) (s : State) : Outcome State Fault Refusal := .next (execCommand .SF_RESTART i 1 s)

end Sys2Proof.Machine
end

