-- ==== Sys2Proof/Machine/PwmCommands.lean ====
section
/-! DEFINITION. Meanings of the current, observer, PWM, trip, gate-drive and stop-bath commands (R190 to R294, R473). -/

namespace Sys2Proof.Machine

open Host (Outcome)

/-! ## Current and observer (R190 to R241) -/

/-- CUR_SENSE_LOST. -/
def execCurSenseLost (i : Slot) (s : State) : Outcome State Fault Refusal := .next (senseLost s i)

/-- BUS_FF_STALE. -/
def execBusFfStale (t : Nat) (i : Slot) (s : State) : Outcome State Fault Refusal := .next (ffStale (s.atTick t) i)

/-- HIGH_DUTY_EXIT. -/
def execHighDutyExit (i : Slot) (s : State) : Outcome State Fault Refusal := .next (dutyExit s i)

/-- STANDSTILL_REDUCTION. -/
def execStandstillReduction (t : Nat) (i : Slot) (s : State) : Outcome State Fault Refusal := .next (reduceStill (s.atTick t) i)

/-- OPEN_WINDING. -/
def execOpenWinding (i : Slot) (s : State) : Outcome State Fault Refusal := .next (windingOpen s i)

/-- CUR_SUM_ERR. -/
def execCurSumErr (i : Slot) (s : State) : Outcome State Fault Refusal := .next (sumError s i)

/-- STALL_DETECTED: the criterion has held for STALL_CYC updates (R223, R224). -/
def execStallDetected (i : Slot) (s : State) : Outcome State Fault Refusal := .next (declareStall s i)

/-- STALL_FAULT. -/
def execStallFault (t : Nat) (i : Slot) (s : State) : Outcome State Fault Refusal := .next (stallFault (s.atTick t) i)

/-- DC_PROBE_START. -/
def execDcProbeStart (t : Nat) (i : Slot) (s : State) : Outcome State Fault Refusal := .next (dcProbe (s.atTick t) i)

/-- DAXIS_PROBE_START. -/
def execDaxisProbeStart (t : Nat) (i : Slot) (s : State) : Outcome State Fault Refusal := .next (daxisProbe (s.atTick t) i)

/-- PROBE_COMPLETE. -/
def execProbeComplete (t : Nat) (i : Slot) (s : State) : Outcome State Fault Refusal := .next (probeDone (s.atTick t) i)

/-- VW_CAL with the authority of the path's session. -/
def execVwCal (path : Path) (i : Slot) (s : State) : Outcome State Fault Refusal :=
  .next (viaObject s path fun a => vwCalWrite a (authOn a path.code) i [1])

/-- VW_MAXAGE_EXPIRY. -/
def execVwMaxageExpiry (t : Nat) (i : Slot) (s : State) : Outcome State Fault Refusal := .next (vwStale (s.atTick t) i)

/-! ## PWM (R242 to R269) -/

/-- The trip follow-up of each port of a list that a trip of this period has just reached (R333). -/
def followTrips (before : Nat → Bool) (s : State) (ports : List Nat) : State :=
  ports.foldl (fun a p => if a.flag .TRIP_HELD p ∧ !before p then tripFollow a p else a) s

/-- PERIOD_START. -/
def execPeriodStart (g : Fin 16) (s : State) : Outcome State Fault Refusal :=
  if groupPeriod s g = 0 ∨ ¬ s.flag .TB_RUNNING 0 then .next s
  else
    let s := (groupPorts s g).foldl followPeriod (periodStart s g)
    .next (followTrips (fun _ => false) s (groupPorts s g))

/-- LOAD_ALL. -/
def execLoadAll (g : Fin 16) (s : State) : Outcome State Fault Refusal := .next (loadAll s g)

/-- GROUP_WRITE. -/
def execGroupWrite (p : Port) (g : Nat) (s : State) : Outcome State Fault Refusal :=
  .next (fieldWrite s 0 (lookNow s p) .GROUP p g).1

/-- PWM_EN_WRITE. -/
def execPwmEnWrite (p : Port) (on : Bool) (s : State) : Outcome State Fault Refusal :=
  .next (fieldWrite s 0 (lookNow s p) .PWM_EN p (b2n on)).1

/-- SHORT_CIRCUIT_TRIP: the switch that tripped, and whether the other comparator tells of a short. -/
def execShortCircuitTrip (t : Nat) (p : Port) (high other : Bool) (s : State) : Outcome State Fault Refusal :=
  let s := s.atTick t
  .next (followTrips (s.flag .TRIP_HELD) (shortTrip s p high other) [p])

/-- TRIPN_ACTIVE. -/
def execTripnActive (t : Nat) (b : Bank) (s : State) : Outcome State Fault Refusal :=
  let s := s.atTick t
  .next (followTrips (s.flag .TRIP_HELD) (tripnOn s b) (bankPorts b))

/-- TRIPN_RELEASE. -/
def execTripnRelease (t : Nat) (b : Bank) (s : State) : Outcome State Fault Refusal := .next (tripnOff (s.atTick t) b)

/-- TRIP_LATCH, when TRIP_RUN has reached its limit. -/
def execTripLatch (t : Nat) (p : Port) (s : State) : Outcome State Fault Refusal :=
  let s := s.atTick t
  .next (if tripLatchDue s p then tripLatchOff s p else s)

/-- TRIP_CLR. -/
def execTripClr (p : Port) (s : State) : Outcome State Fault Refusal := .next (execCommand .TRIP_CLR p 1 s)

/-- PWM_EVENT_FIRE: one event of a source, before its prescaler. -/
def execPwmEventFire (t : Nat) (p : Port) (src : Fin 4) (s : State) : Outcome State Fault Refusal :=
  let s := s.atTick t
  let after := sourceEvent s p src monitorRequest
  .next (trigoCaptures s after after.ts)

/-- TRIGO_PULSE_END. -/
def execTrigoPulseEnd (t : Nat) (k : Fin 4) (s : State) : Outcome State Fault Refusal := .next (pulseEnd (s.atTick t) k)

/-! ## Gate drive (R270 to R281, R297, R298, R473) -/

/-- INTERLOCK_TIMEOUT. -/
def execInterlockTimeout (t : Nat) (p : Port) (s : State) : Outcome State Fault Refusal := .next (interlockTimeout (s.atTick t) p)

/-- GD_CLR; `gatesLow` is what both gates read. -/
def execGdClr (p : Port) (gatesLow : Bool) (s : State) : Outcome State Fault Refusal := .next (gdClear s p gatesLow).1

/-- LEG_TEST_RESULT. -/
def execLegTestResult (t : Nat) (p : Port) (passed : Bool) (s : State) : Outcome State Fault Refusal :=
  .next (legTestResult (s.atTick t) p passed)

/-- ILK_MAX_CLR. -/
def execIlkMaxClr (p : Port) (s : State) : Outcome State Fault Refusal := .next (execCommand .ILK_MAX_CLR p 1 s)

/-- GD_APPLY. -/
def execGdApply (b : Bank) (s : State) : Outcome State Fault Refusal := .next (execCommand .GD_APPLY b 1 s)

/-- VDRV_LOCKOUT. -/
def execVdrvLockout (t : Nat) (b : Bank) (mv : Nat) (s : State) : Outcome State Fault Refusal := .next (vdrvLockout (s.atTick t) b mv)

/-- VDRV_LOCKOUT_RELEASE. -/
def execVdrvLockoutRelease (t : Nat) (b : Bank) (mv : Nat) (s : State) : Outcome State Fault Refusal :=
  .next (vdrvRelease (s.atTick t) b mv)

/-- DDIE_BANK_RELEASE. -/
def execDdieBankRelease (t : Nat) (b : Bank) (s : State) : Outcome State Fault Refusal := .next (bankRelease (s.atTick t) b)

/-- BOOTSTRAP_LOCKOUT. -/
def execBootstrapLockout (t : Nat) (p : Port) (s : State) : Outcome State Fault Refusal := .next (bootstrapLockout (s.atTick t) p)

/-- BOOTSTRAP_LOCKOUT_RELEASE. -/
def execBootstrapLockoutRelease (t : Nat) (p : Port) (s : State) : Outcome State Fault Refusal :=
  .next (bootstrapRelease (s.atTick t) p)

/-- BOOTSTRAP_UV_FAULT. -/
def execBootstrapUvFault (t : Nat) (p : Port) (s : State) : Outcome State Fault Refusal := .next (bootstrapFault (s.atTick t) p)

/-- DIE_OVER_TEMPERATURE. -/
def execDieOverTemperature (t : Nat) (b : Bank) (s : State) : Outcome State Fault Refusal := .next (dieHot (s.atTick t) b)

/-- DIE_OVER_TEMPERATURE_RELEASE; `temp` is the D-die's temperature. -/
def execDieOverTemperatureRelease (t : Nat) (b : Bank) (temp : Nat) (s : State) : Outcome State Fault Refusal :=
  .next (dieCool (s.atTick t) b temp)

/-! ## The bus and the stop-bath (R282 to R293) -/

/-- VBUS_READING: every slot's feed-forward takes the fresh reading (R198, R282). -/
def execVbusReading (t mv : Nat) (s : State) : Outcome State Fault Refusal :=
  let s := judgeBus (s.atTick t) mv haltOff
  .next ((List.range 8).foldl (fun a i =>
    (((a.put .VBUS_FF i (min mv 0xFFFF)).put .VBUS_TICK i a.ts).setBit .REG_STAT i 5 false).put .FF_POSTED i 0) s)

/-- BUS_STALE. -/
def execBusStale (t : Nat) (s : State) : Outcome State Fault Refusal := .next (busStale (s.atTick t))

/-- BUS_COAST: the comparator of a bank. -/
def execBusCoast (t : Nat) (b : Bank) (s : State) : Outcome State Fault Refusal :=
  .next (setCoast ((s.atTick t).put .HARD_COAST b 1))

/-- COAST_END. -/
def execCoastEnd (t : Nat) (s : State) : Outcome State Fault Refusal := .next (coastEnd (s.atTick t))

/-- RT_STOP. -/
def execRtStop (t : Nat) (s : State) : Outcome State Fault Refusal := .next (rtStop (s.atTick t))

/-- HARD_OVERVOLTAGE. -/
def execHardOvervoltage (t : Nat) (b : Bank) (s : State) : Outcome State Fault Refusal := .next (hardOver (s.atTick t) b)

/-- OV_STOP_BATH_END. -/
def execOvStopBathEnd (t : Nat) (s : State) : Outcome State Fault Refusal := .next (overReturn (s.atTick t))

/-- BUS_COMPARATOR_RELEASE: which of the bank's comparators release. -/
def execBusComparatorRelease (t : Nat) (b : Bank) (coast hard : Bool) (s : State) : Outcome State Fault Refusal :=
  .next (comparatorRelease (s.atTick t) b coast hard)

/-- HS_HOLD_EXPIRY. -/
def execHsHoldExpiry (t : Nat) (i : Slot) (s : State) : Outcome State Fault Refusal := .next (hsExpiry (s.atTick t) i)

/-- SB_STILL_EXPIRY. -/
def execSbStillExpiry (t : Nat) (i : Slot) (s : State) : Outcome State Fault Refusal := .next (stillExpiry (s.atTick t) i)

/-- SB_CMD. -/
def execSbCmd (value : Nat) (s : State) : Outcome State Fault Refusal :=
  .next (fieldWrite s 0 (lookNow s 0) .SB_CMD 0 value).1

end Sys2Proof.Machine
end

