-- ==== Sys2Proof/Machine/DriveCommands.lean ====
section
/-! DEFINITION. Meanings of the state commands, the feedback channels, the converters and the temperatures
(R301 to R370, R430 to R434). -/

namespace Sys2Proof.Machine

open Host (Outcome)

/-! ## The drive's state (R432, R433) -/

/-- SHUTDOWN. -/
def execShutdown (i : Slot) (s : State) : Outcome State Fault Refusal := .next (controlTo s i (withLevels s i 0x6))

/-- SWITCH_ON. -/
def execSwitchOn (i : Slot) (s : State) : Outcome State Fault Refusal := .next (controlTo s i (withLevels s i 0x7))

/-- ENABLE_OPERATION. -/
def execEnableOperation (i : Slot) (s : State) : Outcome State Fault Refusal := .next (controlTo s i (withLevels s i 0xF))

/-- DISABLE_OPERATION. -/
def execDisableOperation (i : Slot) (s : State) : Outcome State Fault Refusal := .next (controlTo s i (withLevels s i 0x7))

/-- QUICK_STOP. -/
def execQuickStop (i : Slot) (s : State) : Outcome State Fault Refusal := .next (controlTo s i (withLevels s i 0x2))

/-- DISABLE_VOLTAGE. -/
def execDisableVoltage (i : Slot) (s : State) : Outcome State Fault Refusal := .next (controlTo s i (withLevels s i 0x0))

/-- FAULT_RESET: the edge of bit 7, with what the gates of the slot's ports read. -/
def execFaultReset (i : Slot) (gatesLow : Bool) (s : State) : Outcome State Fault Refusal :=
  let rise (a : State) : State := viaDrive a i fun a => (writeControlword a i (setBit (a.get .CONTROLWORD i) 7 true) gatesLow, 0)
  .next (rise (if s.getBit .CONTROLWORD i 7 then controlTo s i (setBit (s.get .CONTROLWORD i) 7 false) else s))

/-! ## Feedback (R301 to R323) -/

/-- ENCODER_EDGE. -/
def execEncoderEdge (t : Nat) (c : Slot) (a b : Bool) (s : State) : Outcome State Fault Refusal := .next (sampled s fun s => encoderEdge (s.atTick t) c a b)

/-- HALL_EDGE. -/
def execHallEdge (t : Nat) (c : Slot) (state : Nat) (s : State) : Outcome State Fault Refusal := .next (sampled s fun s => hallEdge (s.atTick t) c state)

/-- ENC_FAULT: illegal transitions have reached their limit (R308). -/
def execEncFault (t : Nat) (c : Slot) (s : State) : Outcome State Fault Refusal :=
  let s := s.atTick t
  .next (if encFaultDue s c then encFault s c 1 else s)

/-- ENC_POS_PRESET: ENC_POS is written. -/
def execEncPosPreset (c : Slot) (count : Int) (s : State) : Outcome State Fault Refusal :=
  .next (fieldWrite s 0 (lookNow s c) .ENC_POS c (ofSigned 48 count)).1

/-- SPEED_WINDOW_END. -/
def execSpeedWindowEnd (c : Slot) (s : State) : Outcome State Fault Refusal := .next (sampled s fun s => speedWindow s c)

/-- STILL_DETECTED. -/
def execStillDetected (t : Nat) (c : Slot) (s : State) : Outcome State Fault Refusal := .next (judgeEmpty (s.atTick t) c)

/-- ENC_ALIGNED. -/
def execEncAligned (t : Nat) (i : Slot) (s : State) : Outcome State Fault Refusal := .next (encAlign (s.atTick t) i)

/-- FOLLOW_ERROR. -/
def execFollowError (t : Nat) (i : Slot) (s : State) : Outcome State Fault Refusal := .next (followFault (s.atTick t) i)

/-- ENC_FAULT_CLR. -/
def execEncFaultClr (c : Slot) (s : State) : Outcome State Fault Refusal := .next (execCommand .ENC_FAULT_CLR c 1 s)

/-- ENC_ALIGN: the alignment is asked for again. -/
def execEncAlign (c : Slot) (s : State) : Outcome State Fault Refusal := .next (execCommand .ENC_ALIGN c 1 s)

/-- CAP_ARM. -/
def execCapArm (c : Slot) (s : State) : Outcome State Fault Refusal := .next (execCommand .CAP_ARM c 1 s)

/-- CS_SHOOT: a contact sheet is asked for at a tick. -/
def execCsShoot (t : Nat) (s : State) : Outcome State Fault Refusal := .next (shootSheet s (t % 2 ^ 64)).1

/-- CS_CANCEL. -/
def execCsCancel (s : State) : Outcome State Fault Refusal := .next (execCommand .CS_CANCEL 0 1 s)

/-- CONTACT_SHEET_FIRE. -/
def execContactSheetFire (s : State) : Outcome State Fault Refusal := .next (fireSheet s)

/-! ## Converters (R326 to R351) -/

/-- CONVERSION_RESULT. -/
def execConversionResult (t : Nat) (c : Conv) (ch : Nat) (raw : Int) (ovr : Bool) (epoch : Nat) (s : State) : Outcome State Fault Refusal :=
  .next (conversionResult (s.atTick t) c ch raw ovr epoch)

/-- INJECTED_CONVERSION_START. -/
def execInjectedConversionStart (t : Nat) (c : Conv) (s : State) : Outcome State Fault Refusal := .next (injStart (s.atTick t) c)

/-- XPORT_MONITOR_SAMPLE. -/
def execXportMonitorSample (t : Nat) (p : Port) (s : State) : Outcome State Fault Refusal := .next (monitorDeferred (s.atTick t) p)

/-- CONVERTER_CHECK of pair `j`: the two codes, the port compared, and whether both converters are free. -/
def execConverterCheck (t : Nat) (j : Fin 9) (a b : Int) (port : Nat) (free : Bool) (s : State) : Outcome State Fault Refusal :=
  .next (converterCheck (s.atTick t) j a b port free)

/-- CONVERTER_RETIREMENT, at a period start of a group. -/
def execConverterRetirement (t : Nat) (c : Conv) (g : Fin 16) (s : State) : Outcome State Fault Refusal := .next (retirement (s.atTick t) c g)

/-- SELF_CALIBRATION_DONE. -/
def execSelfCalibrationDone (t : Nat) (c : Conv) (ofs : Int) (gain code : Nat) (s : State) : Outcome State Fault Refusal :=
  .next (calDone (s.atTick t) c ofs gain code)

/-- CONVERTER_RETURN. -/
def execConverterReturn (t : Nat) (c : Conv) (s : State) : Outcome State Fault Refusal := .next (convReturn (s.atTick t) c)

/-- PERIODIC_CALIBRATION_DUE. -/
def execPeriodicCalibrationDue (t : Nat) (c : Conv) (s : State) : Outcome State Fault Refusal := .next (calibrationDue (s.atTick t) c)

/-- CALIBRATION_DEFERRED_START. -/
def execCalibrationDeferredStart (t : Nat) (c : Conv) (s : State) : Outcome State Fault Refusal :=
  .next (calibrationDeferred (s.atTick t) c)

/-- CAL_START. -/
def execCalStart (c : Conv) (s : State) : Outcome State Fault Refusal := .next (execCommand .CAL_START c 1 s)

/-- SYSCAL_ZERO, with the authority of the path's session. -/
def execSyscalZero (path : Path) (s : State) : Outcome State Fault Refusal :=
  .next (viaObject s path fun a => syscalWrite a (authOn a path.code) [1])

/-- SYSCAL_REF, with the authority of the path's session. -/
def execSyscalRef (path : Path) (s : State) : Outcome State Fault Refusal :=
  .next (viaObject s path fun a => syscalWrite a (authOn a path.code) [2])

/-- SYSCAL_AVERAGE_DONE. -/
def execSyscalAverageDone (t : Nat) (code : Int) (bad : Bool) (s : State) : Outcome State Fault Refusal :=
  .next (syscalDone (s.atTick t) code bad)

/-! ## Temperatures (R352 to R370) -/

/-- THERMAL_SCAN_DUE. -/
def execThermalScanDue (t : Nat) (k : Sensor) (s : State) : Outcome State Fault Refusal := .next (scanDue (s.atTick t) k)

/-- SCAN_RESULT: the codes of the sensor's excitations. -/
def execScanResult (t : Nat) (k : Sensor) (a b c : Nat) (ovr : Bool) (s : State) : Outcome State Fault Refusal :=
  .next (scanResult (s.atTick t) k a b c ovr)

/-- THM_NO_SCAN. -/
def execThmNoScan (t : Nat) (k : Sensor) (s : State) : Outcome State Fault Refusal := .next (noScan (s.atTick t) k)

/-- THM_SUSPECT. -/
def execThmSuspect (t : Nat) (k : Sensor) (s : State) : Outcome State Fault Refusal := .next (sensorSuspect (s.atTick t) k)

/-- THM_FAILED. -/
def execThmFailed (t : Nat) (k : Sensor) (s : State) : Outcome State Fault Refusal := .next (sensorFailed (s.atTick t) k)

/-- THM_SUBSTITUTE. -/
def execThmSubstitute (t : Nat) (k : Sensor) (s : State) : Outcome State Fault Refusal := .next (sensorSubstituted (s.atTick t) k)

/-- THM_RECOVERED. -/
def execThmRecovered (t : Nat) (k : Sensor) (s : State) : Outcome State Fault Refusal := .next (sensorRecovered (s.atTick t) k)

/-- SNS_EN_WRITE. -/
def execSnsEnWrite (k : Sensor) (on : Bool) (s : State) : Outcome State Fault Refusal :=
  .next (fieldWrite s 0 (lookNow s k) .SNS_EN k (b2n on)).1

/-- THR_HOLD_EXPIRY. -/
def execThrHoldExpiry (t : Nat) (i : Slot) (s : State) : Outcome State Fault Refusal := .next (holdExpiry (s.atTick t) i)

/-- BUDGET_EVALUATION. -/
def execBudgetEvaluation (t : Nat) (s : State) : Outcome State Fault Refusal := .next (budgetEvaluation (s.atTick t))

end Sys2Proof.Machine
end

