-- ==== Sys2Proof/Machine/NetworkCommands.lean ====
section
/-! DEFINITION. Meanings of the Baljan Link and of CANopen (R392 to R429). -/

namespace Sys2Proof.Machine

open Host (Outcome)

/-! ## The Baljan Link (R392 to R415) -/

/-- LINK_ENUMERATION. -/
def execLinkEnumeration (s : State) : Outcome State Fault Refusal := .next (linkEnumeration s)

/-- LINK_RESTART. -/
def execLinkRestart (s : State) : Outcome State Fault Refusal := .next (execCommand .LINK_RESTART 0 1 s)

/-- ENUMERATION_FRAME. -/
def execEnumerationFrame (arg : EnumFrame) (s : State) : Outcome State Fault Refusal :=
  .next (match arg with
    | .passes position ringId => enumWorker s position ringId
    | .returns layouts second badSlot => enumReturn s layouts second badSlot)

/-- ENUMERATION_TIMEOUT. -/
def execEnumerationTimeout (t : Nat) (s : State) : Outcome State Fault Refusal := .next (enumTimeout (s.atTick t))

/-- LINK_CYCLE_START. -/
def execLinkCycleStart (s : State) : Outcome State Fault Refusal := .next (cycleStart s)

/-- CYCLE_FRAME. -/
def execCycleFrame (lane : Fin 2) (arrival : Nat) (frame : RingFrame) (s : State) : Outcome State Fault Refusal :=
  .next (cycleFrame (s.atTick arrival) lane arrival frame)

/-- CYCLE_FRAME_RETURN. -/
def execCycleFrameReturn (lane : Fin 2) (good wrapped : Bool) (breakAt : Nat) (ups : List RingUp) (s : State) :
    Outcome State Fault Refusal := .next (frameReturn s lane good wrapped breakAt ups)

/-- ROUND_TRIP_PROBE. -/
def execRoundTripProbe (lane : Fin 2) (trip turnaround : Nat) (s : State) : Outcome State Fault Refusal :=
  .next (roundTrip s lane trip turnaround)

/-- WORKER_LOCKED. -/
def execWorkerLocked (s : State) : Outcome State Fault Refusal := .next (workerLocked s)

/-- LINK_LANE_DOWN. -/
def execLinkLaneDown (t : Nat) (lane : Fin 2) (s : State) : Outcome State Fault Refusal := .next (laneDown (s.atTick t) lane)

/-- LINK_LANE_UP. -/
def execLinkLaneUp (t : Nat) (lane : Fin 2) (s : State) : Outcome State Fault Refusal := .next (laneUp (s.atTick t) lane)

/-- WORKER_SELF_FENCE. -/
def execWorkerSelfFence (t : Nat) (s : State) : Outcome State Fault Refusal := .next (selfFence (s.atTick t))

/-- MANAGER_FENCE. -/
def execManagerFence (t : Nat) (d : Fin 32) (s : State) : Outcome State Fault Refusal := .next (managerFence (s.atTick t) d)

/-- WORKER_REJOIN: the epoch and the clock offset with which a device joins again. -/
def execWorkerRejoin (t : Nat) (d : Fin 32) (epoch ofs : Nat) (s : State) : Outcome State Fault Refusal :=
  .next (workerRejoin (s.atTick t) d epoch ofs)

/-- RING_SHEET: an answered command. -/
def execRingSheet (t : Nat) (s : State) : Outcome State Fault Refusal :=
  .next (viaObject s .spi fun a => stateAbort (ringSheet a (t % 2 ^ 64)))

/-- RING_SHEET_DONE. -/
def execRingSheetDone (t : Nat) (parts : List (Nat × List (List Nat))) (s : State) : Outcome State Fault Refusal :=
  .next (ringSheetDone (s.atTick t) parts)

/-- TUNNEL_TRANSFER: an access of the tunnel's object and what the worker answers. -/
def execTunnelTransfer (t : Nat) (write : Bool) (bytes : List Nat) (abort : Nat) (data : List Nat) (s : State) :
    Outcome State Fault Refusal :=
  let s := s.atTick t
  .next (if s.flag .SEQ_DOWN 0 then s.reply abState [] else tunnelTransfer (served s) write bytes abort data)

/-- TUNNEL_TIMEOUT. -/
def execTunnelTimeout (t : Nat) (s : State) : Outcome State Fault Refusal := .next (tunnelTimeout (s.atTick t))

/-! ## CAN buses (R388, R416) -/

/-- CAN_BUS_OFF. -/
def execCanBusOff (t : Nat) (bus : Fin 2) (s : State) : Outcome State Fault Refusal := .next (canBusOff (s.atTick t) bus)

/-- CAN_SILENCE_TIMEOUT. -/
def execCanSilenceTimeout (t : Nat) (bus : Fin 2) (s : State) : Outcome State Fault Refusal := .next (canSilence (s.atTick t) bus)

/-- CAN_BUS_RESTORED. -/
def execCanBusRestored (t : Nat) (bus : Fin 2) (s : State) : Outcome State Fault Refusal := .next (canRestored (s.atTick t) bus)

/-- CAN_RECEIVE_OVERRUN. -/
def execCanReceiveOverrun (t : Nat) (bus : Fin 2) (s : State) : Outcome State Fault Refusal := .next (canOverrun (s.atTick t) bus)

/-- CAN_BUS_OFF_RECOVERED. -/
def execCanBusOffRecovered (t : Nat) (bus : Fin 2) (s : State) : Outcome State Fault Refusal := .next (canRecovered (s.atTick t) bus)

/-! ## Network management and LSS (R417 to R424) -/

/-- NMT_START. -/
def execNmtStart (t : Nat) (bus : Fin 2) (node : Nat) (s : State) : Outcome State Fault Refusal :=
  .next (nmtFrame (s.atTick t) bus 0x01 node fun a => setNmt a nmtOperational)

/-- NMT_STOP. -/
def execNmtStop (t : Nat) (bus : Fin 2) (node : Nat) (s : State) : Outcome State Fault Refusal :=
  .next (nmtFrame (s.atTick t) bus 0x02 node fun a => setNmt a nmtStopped)

/-- NMT_ENTER_PRE_OPERATIONAL. -/
def execNmtEnterPreOperational (t : Nat) (bus : Fin 2) (node : Nat) (s : State) : Outcome State Fault Refusal :=
  .next (nmtFrame (s.atTick t) bus 0x80 node fun a => setNmt a nmtPreOp)

/-- NMT_RESET_COMMUNICATION. -/
def execNmtResetCommunication (t : Nat) (bus : Fin 2) (node : Nat) (s : State) : Outcome State Fault Refusal :=
  .next (nmtFrame (s.atTick t) bus 0x82 node resetCommunication)

/-- NMT_RESET_NODE. -/
def execNmtResetNode (t : Nat) (bus : Fin 2) (node : Nat) (s : State) : Outcome State Fault Refusal :=
  .next (nmtFrame (s.atTick t) bus 0x81 node resetNode)

/-- RESET_NODE_RELOAD. -/
def execResetNodeReload (t : Nat) (s : State) : Outcome State Fault Refusal := .next (resetNodeReload (s.atTick t))

/-- LSS_SWITCH_STATE: global, or selective by the identity. -/
def execLssSwitchState (t : Nat) (bus : Fin 2) (mode : Nat) (selector : Option (Nat × Nat × Nat × Nat)) (s : State) :
    Outcome State Fault Refusal :=
  let data := match selector with
    | none => [0x04, mode]
    | some (v, p, r, n) => [v, p, r, n].flatMap (leBytes 4)
  .next (lssFrame (s.atTick t) bus data fun a => lssSwitch a mode selector)

/-- LSS_CONFIGURE_NODE_ID. -/
def execLssConfigureNodeId (t : Nat) (bus : Fin 2) (node : Nat) (s : State) : Outcome State Fault Refusal :=
  .next (lssFrame (s.atTick t) bus [0x11, node] fun a => lssNodeId a node)

/-- LSS_CONFIGURE_BIT_TIMING. -/
def execLssConfigureBitTiming (t : Nat) (bus : Fin 2) (table entry : Nat) (s : State) : Outcome State Fault Refusal :=
  .next (lssFrame (s.atTick t) bus [0x13, table, entry] fun a => lssBitTiming a table entry)

/-- LSS_ACTIVATE_BIT_TIMING. -/
def execLssActivateBitTiming (t : Nat) (bus : Fin 2) (delay : Nat) (s : State) : Outcome State Fault Refusal :=
  .next (lssFrame (s.atTick t) bus ([0x15] ++ leBytes 2 delay) lssActivate)

/-- LSS_STORE_CONFIGURATION. -/
def execLssStoreConfiguration (t : Nat) (bus : Fin 2) (s : State) : Outcome State Fault Refusal :=
  .next (lssFrame (s.atTick t) bus [0x17] lssStore)

/-- LSS_INQUIRE. -/
def execLssInquire (t : Nat) (bus : Fin 2) (what : Nat) (s : State) : Outcome State Fault Refusal :=
  .next (lssFrame (s.atTick t) bus [what] fun a => lssInquire a what)

/-- LSS_IDENTIFY: by ranges, or non-configured slaves. -/
def execLssIdentify (t : Nat) (bus : Fin 2) (range : Option (Nat × Nat × Nat × Nat × Nat × Nat)) (s : State) :
    Outcome State Fault Refusal :=
  let data := match range with
    | none => [0x4C]
    | some (v, p, rl, rh, sl, sh) => [v, p, rl, rh, sl, sh].flatMap (leBytes 4)
  .next (lssFrame (s.atTick t) bus data fun a => lssIdentify a range)

/-! ## PDOs, SYNC, TIME and heartbeats (R152, R425 to R428) -/

/-- SYNC_RECEIVED. -/
def execSyncReceived (t : Nat) (bus : Fin 2) (data : List Nat) (s : State) : Outcome State Fault Refusal :=
  .next (syncReceived (s.atTick t) bus data)

/-- RPDO_RECEIVED. -/
def execRpdoReceived (t : Nat) (bus : Fin 2) (id : Nat) (data : List Nat) (s : State) : Outcome State Fault Refusal :=
  .next (rpdoReceived (s.atTick t) bus id data)

/-- TIME_RECEIVED. -/
def execTimeReceived (t : Nat) (bus : Fin 2) (data : List Nat) (s : State) : Outcome State Fault Refusal :=
  .next (timeReceived (s.atTick t) bus data)

/-- TPDO_EVENT_TIMER. -/
def execTpdoEventTimer (t : Nat) (n : Port) (s : State) : Outcome State Fault Refusal := .next (tpdoTimer (s.atTick t) n)

/-- TPDO_INHIBIT_EXPIRY. -/
def execTpdoInhibitExpiry (t : Nat) (n : Port) (s : State) : Outcome State Fault Refusal := .next (tpdoInhibit (s.atTick t) n)

/-- HEARTBEAT_PRODUCE. -/
def execHeartbeatProduce (t : Nat) (s : State) : Outcome State Fault Refusal := .next (heartbeatProduce (s.atTick t))

/-- HEARTBEAT_CONSUMED. -/
def execHeartbeatConsumed (t : Nat) (bus : Fin 2) (node _state : Nat) (s : State) : Outcome State Fault Refusal :=
  .next (heartbeatConsumed (s.atTick t) bus node)

/-- COMMUNICATION_LOSS. -/
def execCommunicationLoss (t : Nat) (s : State) : Outcome State Fault Refusal := .next (communicationLoss (s.atTick t))

/-- EMCY_INHIBIT_EXPIRY. -/
def execEmcyInhibitExpiry (t : Nat) (s : State) : Outcome State Fault Refusal := .next (emcyRelease (s.atTick t))

/-- STORE_PARAMETERS. -/
def execStoreParameters (sub value : Nat) (s : State) : Outcome State Fault Refusal :=
  .next (viaObject s .spi fun a => storeParameters a sub value)

/-- RESTORE_DEFAULT_PARAMETERS. -/
def execRestoreDefaultParameters (sub value : Nat) (s : State) : Outcome State Fault Refusal :=
  .next (viaObject s .spi fun a => restoreParameters a sub value)

end Sys2Proof.Machine
end

