-- ==== Sys2Proof/Machine/ServiceCommands.lean ====
section
/-! DEFINITION. Meanings of the mailbox, the Xomor service protocol, sessions, profiles, patches and the audit log
(R435 to R470). -/

namespace Sys2Proof.Machine

open Host (Outcome)

/-- Nothing follows the answer. -/
def nothingAfter (_ : List Nat) (s : State) : State := s

/-- USB_FRAME_GAP: the partial frame is discarded (R437). -/
def execUsbFrameGap (t : Nat) (s : State) : Outcome State Fault Refusal := .next (discardPartial (s.atTick t) 1)

/-- USB_DTR_FALL: the partial frame goes and a session on USB ends (R437, R463). -/
def execUsbDtrFall (t : Nat) (s : State) : Outcome State Fault Refusal :=
  let s := discardPartial (s.atTick t) 1
  .next (if sessionOn s 1 then endSession s endDtr else s)

/-- IDENTIFY. -/
def execIdentify (t : Nat) (path : Path) (req : Request) (s : State) : Outcome State Fault Refusal :=
  .next (request (s.atTick t) path ⟨0x00, 0⟩ req identify nothingAfter)

/-- OBJ_READ. -/
def execObjRead (t : Nat) (path : Path) (req : Request) (s : State) : Outcome State Fault Refusal :=
  .next (request (s.atTick t) path ⟨0x01, 1⟩ req readObject nothingAfter)

/-- OBJ_WRITE: service role, judged after the refusal of a sealed object; a restart or reset follows the answer. -/
def execObjWrite (t : Nat) (path : Path) (req : Request) (s : State) : Outcome State Fault Refusal :=
  .next (request (s.atTick t) path ⟨0x02, 1⟩ req (fun a text => writeObject a path.code text)
    fun text a => afterWrite a (fieldAt text 0 2) (text.getD 2 0))

/-- REG_READ. -/
def execRegRead (t : Nat) (path : Path) (req : Request) (s : State) : Outcome State Fault Refusal :=
  .next (request (s.atTick t) path ⟨0x03, 1⟩ req readRegs nothingAfter)

/-- REG_WRITE. -/
def execRegWrite (t : Nat) (path : Path) (req : Request) (s : State) : Outcome State Fault Refusal :=
  .next (request (s.atTick t) path ⟨0x04, 2⟩ req writeRegs nothingAfter)

/-- EVENT_PEEK. -/
def execEventPeek (t : Nat) (path : Path) (req : Request) (s : State) : Outcome State Fault Refusal :=
  .next (request (s.atTick t) path ⟨0x05, 1⟩ req peekEvents nothingAfter)

/-- HEALTH. -/
def execHealth (t : Nat) (path : Path) (req : Request) (s : State) : Outcome State Fault Refusal :=
  .next (request (s.atTick t) path ⟨0x06, 1⟩ req healthReport nothingAfter)

/-- MBX_IN_COMMIT. -/
def execMbxInCommit (word : Nat) (s : State) : Outcome State Fault Refusal := .next (execCommand .MBX_IN 0 (word % 2 ^ 32) s)

/-- MBX_OUT_READ. -/
def execMbxOutRead (s : State) : Outcome State Fault Refusal :=
  let (s, w) := mbxOut s
  .next (s.reply 0 [w])

/-- SPI_OUT_TIMEOUT. -/
def execSpiOutTimeout (t : Nat) (s : State) : Outcome State Fault Refusal := .next (outTimeout (s.atTick t))

/-- XOMOR_FRAME written on CANopen. -/
def execXomorFrameWrite (bytes : List Nat) (s : State) : Outcome State Fault Refusal :=
  .next (if sdoServed s then frameWrite (served s) bytes else s)

/-- XOMOR_FRAME read on CANopen. -/
def execXomorFrameRead (s : State) : Outcome State Fault Refusal :=
  .next (if sdoServed s then frameRead (served s) else s)

/-- SESS_HELLO. -/
def execSessHello (t : Nat) (path : Path) (req : Request) (s : State) : Outcome State Fault Refusal :=
  .next (request (s.atTick t) path ⟨0x10, 0⟩ req (fun a text => hello a path.code text) nothingAfter)

/-- SESS_PROVE. -/
def execSessProve (t : Nat) (path : Path) (req : Request) (s : State) : Outcome State Fault Refusal :=
  .next (request (s.atTick t) path ⟨0x11, 0⟩ req (fun a text => prove a path.code text) nothingAfter)

/-- SESS_CLOSE. -/
def execSessClose (t : Nat) (path : Path) (req : Request) (s : State) : Outcome State Fault Refusal :=
  .next (request (s.atTick t) path ⟨0x12, 1⟩ req closeSession nothingAfter)

/-- SESS_COMMIT. -/
def execSessCommit (t : Nat) (path : Path) (req : Request) (s : State) : Outcome State Fault Refusal :=
  .next (request (s.atTick t) path ⟨0x13, 3⟩ req commitSession nothingAfter)

/-- SESS_DISCARD. -/
def execSessDiscard (t : Nat) (path : Path) (req : Request) (s : State) : Outcome State Fault Refusal :=
  .next (request (s.atTick t) path ⟨0x14, 3⟩ req discardSession nothingAfter)

/-- SESSION_IDLE_EXPIRY. -/
def execSessionIdleExpiry (t : Nat) (s : State) : Outcome State Fault Refusal := .next (idleExpiry (s.atTick t))

/-- SESS_PROVE_TIMEOUT. -/
def execSessProveTimeout (t : Nat) (s : State) : Outcome State Fault Refusal := .next (proveTimeout (s.atTick t))

/-- CLAIM. -/
def execClaim (t : Nat) (path : Path) (req : Request) (s : State) : Outcome State Fault Refusal :=
  .next (request (s.atTick t) path ⟨0x18, 0⟩ req (fun a text => claim a path.code text) nothingAfter)

/-- REVOKE. -/
def execRevoke (t : Nat) (path : Path) (req : Request) (s : State) : Outcome State Fault Refusal :=
  .next (request (s.atTick t) path ⟨0x19, 0⟩ req revoke nothingAfter)

/-- IDENTITY. -/
def execIdentity (t : Nat) (path : Path) (req : Request) (s : State) : Outcome State Fault Refusal :=
  .next (request (s.atTick t) path ⟨0x1A, 0⟩ req identity nothingAfter)

/-- PROF_BEGIN. -/
def execProfBegin (t : Nat) (path : Path) (req : Request) (s : State) : Outcome State Fault Refusal :=
  .next (request (s.atTick t) path ⟨0x20, 2⟩ req profBegin nothingAfter)

/-- PROF_DATA. -/
def execProfData (t : Nat) (path : Path) (req : Request) (s : State) : Outcome State Fault Refusal :=
  .next (request (s.atTick t) path ⟨0x21, 2⟩ req (fun a text => uploadData a false 0x21 text) nothingAfter)

/-- PROF_END. -/
def execProfEnd (t : Nat) (path : Path) (req : Request) (s : State) : Outcome State Fault Refusal :=
  .next (request (s.atTick t) path ⟨0x22, 2⟩ req profEnd nothingAfter)

/-- PROF_SELECT: 0x2600:01 is written. -/
def execProfSelect (path : Path) (value : Nat) (s : State) : Outcome State Fault Refusal :=
  .next (viaObject s path fun a => if 3 < value then (a, abRange) else profSelect a value)

/-- PATCH_BEGIN. -/
def execPatchBegin (t : Nat) (path : Path) (req : Request) (s : State) : Outcome State Fault Refusal :=
  .next (request (s.atTick t) path ⟨0x24, 3⟩ req patchBegin nothingAfter)

/-- PATCH_DATA. -/
def execPatchData (t : Nat) (path : Path) (req : Request) (s : State) : Outcome State Fault Refusal :=
  .next (request (s.atTick t) path ⟨0x25, 3⟩ req (fun a text => uploadData a true 0x25 text) nothingAfter)

/-- PATCH_END. -/
def execPatchEnd (t : Nat) (path : Path) (req : Request) (s : State) : Outcome State Fault Refusal :=
  .next (request (s.atTick t) path ⟨0x26, 3⟩ req patchEnd nothingAfter)

/-- PATCH_ACTIVATE: the restart follows the answer. -/
def execPatchActivate (t : Nat) (path : Path) (req : Request) (s : State) : Outcome State Fault Refusal :=
  .next (request (s.atTick t) path ⟨0x27, 3⟩ req patchActivate fun _ a => seqRestart a 1)

/-- AUDIT_READ. -/
def execAuditRead (t : Nat) (path : Path) (req : Request) (s : State) : Outcome State Fault Refusal :=
  .next (request (s.atTick t) path ⟨0x28, 1⟩ req auditRead nothingAfter)

/-- AUDIT_SEAL. -/
def execAuditSeal (t : Nat) (path : Path) (req : Request) (s : State) : Outcome State Fault Refusal :=
  .next (request (s.atTick t) path ⟨0x29, 1⟩ req auditSeal nothingAfter)

/-- SVC_HOURS_INCREMENT. -/
def execSvcHoursIncrement (t : Nat) (s : State) : Outcome State Fault Refusal := .next (serviceHours (s.atTick t))

end Sys2Proof.Machine
end

