-- ==== Sys2Proof/Machine/Dispatch.lean ====
section
/-! DEFINITION. One arm per command. -/

namespace Sys2Proof.Machine

def exec (i : Instr) (s : State) : Host.Outcome State Fault Refusal :=
  match i with
  | .powerOnReset others profsel manager => Sys2Proof.Machine.execPowerOnReset others profsel manager s
  | .vcoreBrownOut others profsel manager => Sys2Proof.Machine.execVcoreBrownOut others profsel manager s
  | .vioBrownOut others profsel manager => Sys2Proof.Machine.execVioBrownOut others profsel manager s
  | .resetn others profsel manager => Sys2Proof.Machine.execResetn others profsel manager s
  | .devReset path value profsel manager => Sys2Proof.Machine.execDevReset path value profsel manager s
  | .bootTimebaseLock tbsync => Sys2Proof.Machine.execBootTimebaseLock tbsync s
  | .crystalLossWait crystal tbsync => Sys2Proof.Machine.execCrystalLossWait crystal tbsync s
  | .bootRom t => Sys2Proof.Machine.execBootRom t s
  | .bootPatch t => Sys2Proof.Machine.execBootPatch t s
  | .bootProfile t => Sys2Proof.Machine.execBootProfile t s
  | .vanaReady t => Sys2Proof.Machine.execVanaReady t s
  | .bootCalibration t results => Sys2Proof.Machine.execBootCalibration t results s
  | .bootBist t dead => Sys2Proof.Machine.execBootBist t dead s
  | .bootBankRelease t => Sys2Proof.Machine.execBootBankRelease t s
  | .bootDone t elapsed => Sys2Proof.Machine.execBootDone t elapsed s
  | .tbApply => Sys2Proof.Machine.execTbApply s
  | .timebaseLoss t refOk pll => Sys2Proof.Machine.execTimebaseLoss t refOk pll s
  | .timebaseRestart gap levels => Sys2Proof.Machine.execTimebaseRestart gap levels s
  | .statusTick => Sys2Proof.Machine.execStatusTick s
  | .delaylineCalibration t elems => Sys2Proof.Machine.execDelaylineCalibration t elems s
  | .ddieWatchdogExpiry t b => Sys2Proof.Machine.execDdieWatchdogExpiry t b s
  | .ddieRelease t b => Sys2Proof.Machine.execDdieRelease t b s
  | .spiCommandHeader cmd addr => Sys2Proof.Machine.execSpiCommandHeader cmd addr s
  | .spiWriteWord w => Sys2Proof.Machine.execSpiWriteWord w s
  | .spiReadWord ready => Sys2Proof.Machine.execSpiReadWord ready s
  | .spiFrameEnd cut => Sys2Proof.Machine.execSpiFrameEnd cut s
  | .registerWrite path addr word hwMask hwData inc => Sys2Proof.Machine.execRegisterWrite path addr word hwMask hwData inc s
  | .wideLowWordRead path addr => Sys2Proof.Machine.execWideLowWordRead path addr s
  | .wideHighWordWrite path addr word => Sys2Proof.Machine.execWideHighWordWrite path addr word s
  | .regWinDataRead => Sys2Proof.Machine.execRegWinDataRead s
  | .regWinDataWrite w => Sys2Proof.Machine.execRegWinDataWrite w s
  | .regWinBlockRead => Sys2Proof.Machine.execRegWinBlockRead s
  | .regWinBlockWrite bytes => Sys2Proof.Machine.execRegWinBlockWrite bytes s
  | .objectWrite path index sub bytes => Sys2Proof.Machine.execObjectWrite path index sub bytes s
  | .slackMinClr n => Sys2Proof.Machine.execSlackMinClr n s
  | .engineCycle n accept late differs epoch => Sys2Proof.Machine.execEngineCycle n accept late differs epoch s
  | .slackFullRateReturn n => Sys2Proof.Machine.execSlackFullRateReturn n s
  | .deadlineMissStrip n => Sys2Proof.Machine.execDeadlineMissStrip n s
  | .deadlineMissMigration n => Sys2Proof.Machine.execDeadlineMissMigration n s
  | .tagWaitRelease => Sys2Proof.Machine.execTagWaitRelease s
  | .helperResult tag epoch => Sys2Proof.Machine.execHelperResult tag epoch s
  | .tagReclaim t tag => Sys2Proof.Machine.execTagReclaim t tag s
  | .epochDeferredAdvance t n => Sys2Proof.Machine.execEpochDeferredAdvance t n s
  | .sramScrub t single double => Sys2Proof.Machine.execSramScrub t single double s
  | .qwrWrite path q word => Sys2Proof.Machine.execQwrWrite path q word s
  | .qrdWrite path q word => Sys2Proof.Machine.execQrdWrite path q word s
  | .qreset q offered => Sys2Proof.Machine.execQreset q offered s
  | .portmapApply value => Sys2Proof.Machine.execPortmapApply value s
  | .portmapSetDevelop n => Sys2Proof.Machine.execPortmapSetDevelop n s
  | .segWrite n bytes => Sys2Proof.Machine.execSegWrite n bytes s
  | .segPdoEnqueue n w => Sys2Proof.Machine.execSegPdoEnqueue n w s
  | .segRestart n => Sys2Proof.Machine.execSegRestart n s
  | .segmentStartActions t => Sys2Proof.Machine.execSegmentStartActions t s
  | .accGo n go => Sys2Proof.Machine.execAccGo n go s
  | .syncTimeout t n => Sys2Proof.Machine.execSyncTimeout t n s
  | .modeChange n mode => Sys2Proof.Machine.execModeChange n mode s
  | .newSetPoint n cw => Sys2Proof.Machine.execNewSetPoint n cw s
  | .syncReceived t bus data => Sys2Proof.Machine.execSyncReceived t bus data s
  | .csLoss t n => Sys2Proof.Machine.execCsLoss t n s
  | .enableInterpolation n on => Sys2Proof.Machine.execEnableInterpolation n on s
  | .halt n => Sys2Proof.Machine.execHalt n s
  | .haltRelease n => Sys2Proof.Machine.execHaltRelease n s
  | .limitSwitchEdge t n positive level => Sys2Proof.Machine.execLimitSwitchEdge t n positive level s
  | .homeSwitchEdge t n level => Sys2Proof.Machine.execHomeSwitchEdge t n level s
  | .indexEdge t c level => Sys2Proof.Machine.execIndexEdge t c level s
  | .homingStart n => Sys2Proof.Machine.execHomingStart n s
  | .homingChatter n => Sys2Proof.Machine.execHomingChatter n s
  | .homingDistance n => Sys2Proof.Machine.execHomingDistance n s
  | .homingNoIndex n => Sys2Proof.Machine.execHomingNoIndex n s
  | .stepEdge t c level dir => Sys2Proof.Machine.execStepEdge t c level dir s
  | .sfRestart n => Sys2Proof.Machine.execSfRestart n s
  | .curSenseLost n => Sys2Proof.Machine.execCurSenseLost n s
  | .busFfStale t n => Sys2Proof.Machine.execBusFfStale t n s
  | .highDutyExit n => Sys2Proof.Machine.execHighDutyExit n s
  | .standstillReduction t n => Sys2Proof.Machine.execStandstillReduction t n s
  | .openWinding n => Sys2Proof.Machine.execOpenWinding n s
  | .curSumErr n => Sys2Proof.Machine.execCurSumErr n s
  | .stallDetected n => Sys2Proof.Machine.execStallDetected n s
  | .stallFault t n => Sys2Proof.Machine.execStallFault t n s
  | .dcProbeStart t n => Sys2Proof.Machine.execDcProbeStart t n s
  | .daxisProbeStart t n => Sys2Proof.Machine.execDaxisProbeStart t n s
  | .probeComplete t n => Sys2Proof.Machine.execProbeComplete t n s
  | .vwCal path n => Sys2Proof.Machine.execVwCal path n s
  | .periodStart g => Sys2Proof.Machine.execPeriodStart g s
  | .loadAll g => Sys2Proof.Machine.execLoadAll g s
  | .groupWrite p g => Sys2Proof.Machine.execGroupWrite p g s
  | .pwmEnWrite p on => Sys2Proof.Machine.execPwmEnWrite p on s
  | .shortCircuitTrip t p high other => Sys2Proof.Machine.execShortCircuitTrip t p high other s
  | .tripnActive t b => Sys2Proof.Machine.execTripnActive t b s
  | .tripLatch t p => Sys2Proof.Machine.execTripLatch t p s
  | .tripClr p => Sys2Proof.Machine.execTripClr p s
  | .pwmEventFire t p src => Sys2Proof.Machine.execPwmEventFire t p src s
  | .trigoPulseEnd t k => Sys2Proof.Machine.execTrigoPulseEnd t k s
  | .interlockTimeout t p => Sys2Proof.Machine.execInterlockTimeout t p s
  | .gdClr p gatesLow => Sys2Proof.Machine.execGdClr p gatesLow s
  | .legTestResult t p passed => Sys2Proof.Machine.execLegTestResult t p passed s
  | .ilkMaxClr p => Sys2Proof.Machine.execIlkMaxClr p s
  | .gdApply b => Sys2Proof.Machine.execGdApply b s
  | .vdrvLockout t b mv => Sys2Proof.Machine.execVdrvLockout t b mv s
  | .vdrvLockoutRelease t b mv => Sys2Proof.Machine.execVdrvLockoutRelease t b mv s
  | .ddieBankRelease t b => Sys2Proof.Machine.execDdieBankRelease t b s
  | .bootstrapLockout t p => Sys2Proof.Machine.execBootstrapLockout t p s
  | .bootstrapUvFault t p => Sys2Proof.Machine.execBootstrapUvFault t p s
  | .vbusReading t mv => Sys2Proof.Machine.execVbusReading t mv s
  | .busStale t => Sys2Proof.Machine.execBusStale t s
  | .busCoast t b => Sys2Proof.Machine.execBusCoast t b s
  | .coastEnd t => Sys2Proof.Machine.execCoastEnd t s
  | .rtStop t => Sys2Proof.Machine.execRtStop t s
  | .hardOvervoltage t b => Sys2Proof.Machine.execHardOvervoltage t b s
  | .ovStopBathEnd t => Sys2Proof.Machine.execOvStopBathEnd t s
  | .dieOverTemperature t b => Sys2Proof.Machine.execDieOverTemperature t b s
  | .hsHoldExpiry t n => Sys2Proof.Machine.execHsHoldExpiry t n s
  | .sbStillExpiry t n => Sys2Proof.Machine.execSbStillExpiry t n s
  | .sbCmd value => Sys2Proof.Machine.execSbCmd value s
  | .shutdown n => Sys2Proof.Machine.execShutdown n s
  | .switchOn n => Sys2Proof.Machine.execSwitchOn n s
  | .enableOperation n => Sys2Proof.Machine.execEnableOperation n s
  | .disableOperation n => Sys2Proof.Machine.execDisableOperation n s
  | .quickStop n => Sys2Proof.Machine.execQuickStop n s
  | .disableVoltage n => Sys2Proof.Machine.execDisableVoltage n s
  | .faultReset n gatesLow => Sys2Proof.Machine.execFaultReset n gatesLow s
  | .encoderEdge t c a b => Sys2Proof.Machine.execEncoderEdge t c a b s
  | .hallEdge t c st => Sys2Proof.Machine.execHallEdge t c st s
  | .encFault t c => Sys2Proof.Machine.execEncFault t c s
  | .encPosPreset c count => Sys2Proof.Machine.execEncPosPreset c count s
  | .speedWindowEnd c => Sys2Proof.Machine.execSpeedWindowEnd c s
  | .stillDetected t c => Sys2Proof.Machine.execStillDetected t c s
  | .encAligned t n => Sys2Proof.Machine.execEncAligned t n s
  | .followError t n => Sys2Proof.Machine.execFollowError t n s
  | .encFaultClr c => Sys2Proof.Machine.execEncFaultClr c s
  | .encAlign c => Sys2Proof.Machine.execEncAlign c s
  | .capArm c => Sys2Proof.Machine.execCapArm c s
  | .csShoot t => Sys2Proof.Machine.execCsShoot t s
  | .csCancel => Sys2Proof.Machine.execCsCancel s
  | .contactSheetFire => Sys2Proof.Machine.execContactSheetFire s
  | .conversionResult t c ch raw ovr epoch => Sys2Proof.Machine.execConversionResult t c ch raw ovr epoch s
  | .injectedConversionStart t c => Sys2Proof.Machine.execInjectedConversionStart t c s
  | .xportMonitorSample t p => Sys2Proof.Machine.execXportMonitorSample t p s
  | .converterCheck t j a b port free => Sys2Proof.Machine.execConverterCheck t j a b port free s
  | .converterRetirement t c g => Sys2Proof.Machine.execConverterRetirement t c g s
  | .selfCalibrationDone t c ofs gain code => Sys2Proof.Machine.execSelfCalibrationDone t c ofs gain code s
  | .converterReturn t c => Sys2Proof.Machine.execConverterReturn t c s
  | .periodicCalibrationDue t c => Sys2Proof.Machine.execPeriodicCalibrationDue t c s
  | .calibrationDeferredStart t c => Sys2Proof.Machine.execCalibrationDeferredStart t c s
  | .calStart c => Sys2Proof.Machine.execCalStart c s
  | .syscalZero path => Sys2Proof.Machine.execSyscalZero path s
  | .syscalRef path => Sys2Proof.Machine.execSyscalRef path s
  | .syscalAverageDone t code bad => Sys2Proof.Machine.execSyscalAverageDone t code bad s
  | .thermalScanDue t k => Sys2Proof.Machine.execThermalScanDue t k s
  | .scanResult t k a b c ovr => Sys2Proof.Machine.execScanResult t k a b c ovr s
  | .thmNoScan t k => Sys2Proof.Machine.execThmNoScan t k s
  | .thmSuspect t k => Sys2Proof.Machine.execThmSuspect t k s
  | .thmFailed t k => Sys2Proof.Machine.execThmFailed t k s
  | .thmSubstitute t k => Sys2Proof.Machine.execThmSubstitute t k s
  | .thmRecovered t k => Sys2Proof.Machine.execThmRecovered t k s
  | .snsEnWrite k on => Sys2Proof.Machine.execSnsEnWrite k on s
  | .thrHoldExpiry t n => Sys2Proof.Machine.execThrHoldExpiry t n s
  | .budgetEvaluation t => Sys2Proof.Machine.execBudgetEvaluation t s
  | .testStripStart t => Sys2Proof.Machine.execTestStripStart t s
  | .stripComplete t equal => Sys2Proof.Machine.execStripComplete t equal s
  | .voteReplayDone t verdict => Sys2Proof.Machine.execVoteReplayDone t verdict s
  | .engineBistDone t e pass => Sys2Proof.Machine.execEngineBistDone t e pass s
  | .noPostPortsOff t n => Sys2Proof.Machine.execNoPostPortsOff t n s
  | .migrate mask => Sys2Proof.Machine.execMigrate mask s
  | .migrationCutover t n => Sys2Proof.Machine.execMigrationCutover t n s
  | .coldTakeover n => Sys2Proof.Machine.execColdTakeover n s
  | .domainRestart path d => Sys2Proof.Machine.execDomainRestart path d s
  | .domainRestartDone t d => Sys2Proof.Machine.execDomainRestartDone t d s
  | .seqRestart path value => Sys2Proof.Machine.execSeqRestart path value s
  | .sequencerWatchdog t => Sys2Proof.Machine.execSequencerWatchdog t s
  | .sequencerRestartDone t imageOk => Sys2Proof.Machine.execSequencerRestartDone t imageOk s
  | .canBusOff t bus => Sys2Proof.Machine.execCanBusOff t bus s
  | .canSilenceTimeout t bus => Sys2Proof.Machine.execCanSilenceTimeout t bus s
  | .canBusRestored t bus => Sys2Proof.Machine.execCanBusRestored t bus s
  | .linkEnumeration => Sys2Proof.Machine.execLinkEnumeration s
  | .linkRestart => Sys2Proof.Machine.execLinkRestart s
  | .enumerationFrame arg => Sys2Proof.Machine.execEnumerationFrame arg s
  | .linkCycleStart => Sys2Proof.Machine.execLinkCycleStart s
  | .cycleFrame lane arrival frame => Sys2Proof.Machine.execCycleFrame lane arrival frame s
  | .cycleFrameReturn lane good wrapped breakAt ups => Sys2Proof.Machine.execCycleFrameReturn lane good wrapped breakAt ups s
  | .roundTripProbe lane trip turnaround => Sys2Proof.Machine.execRoundTripProbe lane trip turnaround s
  | .workerLocked => Sys2Proof.Machine.execWorkerLocked s
  | .linkLaneDown t lane => Sys2Proof.Machine.execLinkLaneDown t lane s
  | .linkLaneUp t lane => Sys2Proof.Machine.execLinkLaneUp t lane s
  | .workerSelfFence t => Sys2Proof.Machine.execWorkerSelfFence t s
  | .managerFence t d => Sys2Proof.Machine.execManagerFence t d s
  | .workerRejoin t d epoch ofs => Sys2Proof.Machine.execWorkerRejoin t d epoch ofs s
  | .ringSheet t => Sys2Proof.Machine.execRingSheet t s
  | .ringSheetDone t parts => Sys2Proof.Machine.execRingSheetDone t parts s
  | .tunnelTransfer t write bytes abort data => Sys2Proof.Machine.execTunnelTransfer t write bytes abort data s
  | .tunnelTimeout t => Sys2Proof.Machine.execTunnelTimeout t s
  | .nmtStart t bus node => Sys2Proof.Machine.execNmtStart t bus node s
  | .nmtStop t bus node => Sys2Proof.Machine.execNmtStop t bus node s
  | .nmtEnterPreOperational t bus node => Sys2Proof.Machine.execNmtEnterPreOperational t bus node s
  | .nmtResetCommunication t bus node => Sys2Proof.Machine.execNmtResetCommunication t bus node s
  | .nmtResetNode t bus node => Sys2Proof.Machine.execNmtResetNode t bus node s
  | .resetNodeReload t => Sys2Proof.Machine.execResetNodeReload t s
  | .lssSwitchState t bus mode selector => Sys2Proof.Machine.execLssSwitchState t bus mode selector s
  | .lssConfigureNodeId t bus node => Sys2Proof.Machine.execLssConfigureNodeId t bus node s
  | .lssConfigureBitTiming t bus table entry => Sys2Proof.Machine.execLssConfigureBitTiming t bus table entry s
  | .lssActivateBitTiming t bus delay => Sys2Proof.Machine.execLssActivateBitTiming t bus delay s
  | .lssStoreConfiguration t bus => Sys2Proof.Machine.execLssStoreConfiguration t bus s
  | .lssInquire t bus what => Sys2Proof.Machine.execLssInquire t bus what s
  | .lssIdentify t bus range => Sys2Proof.Machine.execLssIdentify t bus range s
  | .rpdoReceived t bus id data => Sys2Proof.Machine.execRpdoReceived t bus id data s
  | .timeReceived t bus data => Sys2Proof.Machine.execTimeReceived t bus data s
  | .tpdoEventTimer t n => Sys2Proof.Machine.execTpdoEventTimer t n s
  | .tpdoInhibitExpiry t n => Sys2Proof.Machine.execTpdoInhibitExpiry t n s
  | .heartbeatProduce t => Sys2Proof.Machine.execHeartbeatProduce t s
  | .heartbeatConsumed t bus node st => Sys2Proof.Machine.execHeartbeatConsumed t bus node st s
  | .communicationLoss t => Sys2Proof.Machine.execCommunicationLoss t s
  | .emcyInhibitExpiry t => Sys2Proof.Machine.execEmcyInhibitExpiry t s
  | .storeParameters sub value => Sys2Proof.Machine.execStoreParameters sub value s
  | .restoreDefaultParameters sub value => Sys2Proof.Machine.execRestoreDefaultParameters sub value s
  | .usbFrameGap t => Sys2Proof.Machine.execUsbFrameGap t s
  | .usbDtrFall t => Sys2Proof.Machine.execUsbDtrFall t s
  | .identify t path req => Sys2Proof.Machine.execIdentify t path req s
  | .objRead t path req => Sys2Proof.Machine.execObjRead t path req s
  | .objWrite t path req => Sys2Proof.Machine.execObjWrite t path req s
  | .regRead t path req => Sys2Proof.Machine.execRegRead t path req s
  | .regWrite t path req => Sys2Proof.Machine.execRegWrite t path req s
  | .eventPeek t path req => Sys2Proof.Machine.execEventPeek t path req s
  | .health t path req => Sys2Proof.Machine.execHealth t path req s
  | .mbxInCommit word => Sys2Proof.Machine.execMbxInCommit word s
  | .mbxOutRead => Sys2Proof.Machine.execMbxOutRead s
  | .spiOutTimeout t => Sys2Proof.Machine.execSpiOutTimeout t s
  | .xomorFrameWrite bytes => Sys2Proof.Machine.execXomorFrameWrite bytes s
  | .xomorFrameRead => Sys2Proof.Machine.execXomorFrameRead s
  | .sessHello t path req => Sys2Proof.Machine.execSessHello t path req s
  | .sessProve t path req => Sys2Proof.Machine.execSessProve t path req s
  | .sessClose t path req => Sys2Proof.Machine.execSessClose t path req s
  | .sessCommit t path req => Sys2Proof.Machine.execSessCommit t path req s
  | .sessDiscard t path req => Sys2Proof.Machine.execSessDiscard t path req s
  | .sessionIdleExpiry t => Sys2Proof.Machine.execSessionIdleExpiry t s
  | .sessProveTimeout t => Sys2Proof.Machine.execSessProveTimeout t s
  | .claim t path req => Sys2Proof.Machine.execClaim t path req s
  | .revoke t path req => Sys2Proof.Machine.execRevoke t path req s
  | .identity t path req => Sys2Proof.Machine.execIdentity t path req s
  | .profBegin t path req => Sys2Proof.Machine.execProfBegin t path req s
  | .profData t path req => Sys2Proof.Machine.execProfData t path req s
  | .profEnd t path req => Sys2Proof.Machine.execProfEnd t path req s
  | .profSelect path value => Sys2Proof.Machine.execProfSelect path value s
  | .patchBegin t path req => Sys2Proof.Machine.execPatchBegin t path req s
  | .patchData t path req => Sys2Proof.Machine.execPatchData t path req s
  | .patchEnd t path req => Sys2Proof.Machine.execPatchEnd t path req s
  | .patchActivate t path req => Sys2Proof.Machine.execPatchActivate t path req s
  | .auditRead t path req => Sys2Proof.Machine.execAuditRead t path req s
  | .auditSeal t path req => Sys2Proof.Machine.execAuditSeal t path req s
  | .svcHoursIncrement t => Sys2Proof.Machine.execSvcHoursIncrement t s
  | .domOffReq path value => Sys2Proof.Machine.execDomOffReq path value s
  | .domainSwitched t d => Sys2Proof.Machine.execDomainSwitched t d s
  | .bootstrapLockoutRelease t p => Sys2Proof.Machine.execBootstrapLockoutRelease t p s
  | .busComparatorRelease t b coast hard => Sys2Proof.Machine.execBusComparatorRelease t b coast hard s
  | .dieOverTemperatureRelease t b temp => Sys2Proof.Machine.execDieOverTemperatureRelease t b temp s
  | .tripnRelease t b => Sys2Proof.Machine.execTripnRelease t b s
  | .vwMaxageExpiry t n => Sys2Proof.Machine.execVwMaxageExpiry t n s
  | .enumerationTimeout t => Sys2Proof.Machine.execEnumerationTimeout t s
  | .canReceiveOverrun t bus => Sys2Proof.Machine.execCanReceiveOverrun t bus s
  | .canBusOffRecovered t bus => Sys2Proof.Machine.execCanBusOffRecovered t bus s
  | .helperHandshakeFault t d => Sys2Proof.Machine.execHelperHandshakeFault t d s

end Sys2Proof.Machine
end

