-- ==== Sys2Proof/Safety.lean ====
section
/-! DEFINITION. What counts as a sound state and a safe run: the canonical form of everything the state holds. -/

namespace Sys2Proof

open Machine

/-- A register file in canonical form: keys strictly rising, so that equal contents are equal lists. -/
def RegFileOk (f : RegFile) : Prop := f.sorted = true

/-- Every value a register file lists fits its field and differs from the field's reset value. -/
def RegFileFits (f : RegFile) : Prop := ∀ e ∈ f, ∃ r i, e.1 = Reg.key r i ∧ e.2 < 2 ^ r.width ∧ e.2 ≠ r.reset i

/-- The invariant of the model: every register file and the SRAM are in canonical form, no field holds more than its
width, and the slots' records, the counter histories and the paths' buffers are those of the device's eight slots,
eight channels and three paths. -/
structure Sound (s : State) : Prop where
  regs : RegFileOk s.regs
  dev : RegFileOk s.dev
  rc : RegFileOk s.rc
  spiRead : RegFileOk s.spiRead
  winRead : RegFileOk s.winRead
  spiWrite : RegFileOk s.spiWrite
  winWrite : RegFileOk s.winWrite
  regsFit : RegFileFits s.regs
  devFit : RegFileFits s.dev
  rcFit : RegFileFits s.rc
  spiWriteFit : RegFileFits s.spiWrite
  winWriteFit : RegFileFits s.winWrite
  mem : s.mem.wf = true
  motion : s.motion.length = 8
  encHist : s.encHist.length = 8
  rx : s.rx.length = 3
  resp : s.resp.length = 3

/-- A run of commands from a state: none faults and none is refused. -/
def RunsOn (s : State) : List Instr → Prop
  | [] => True
  | c :: t => ∃ s', exec c s = .next s' ∧ RunsOn s' t

/-! ## What a command does -/

/-- The command completes from the state with a next state that the effect describes. -/
def Completes (c : Instr) (s : State) (effect : State → Prop) : Prop := ∃ t, exec c s = .next t ∧ effect t

/-- The fields that posting an event reads or writes (R50, R51, R54). -/
def eventFields : List Reg :=
  [.EVENT_SEQ, .QWR, .QRD, .QLEVEL, .QDROP, .QOVF, .QWM_HIT, .QWMARK, .Q11_FULL, .Q11_WM, .SLOT_EPOCH, .DOM_EPOCH,
    .SEQ_EPOCH]

/-- Two states that agree in all that events read and write. -/
structure SameEvents (s t : State) : Prop where
  regs : ∀ r i, r ∈ eventFields → t.get r i = s.get r i
  devs : ∀ i, t.dv .QSIZE_LOG2 i = s.dv .QSIZE_LOG2 i ∧ t.dv .QBASE i = s.dv .QBASE i
  mem : t.mem = s.mem
  ts : t.ts = s.ts

/-- From `s` to `t` one event has been posted: Q11, its flags and the sequence number are as after that event, and
nothing else has touched them. -/
def Posts (s t : State) (code src slot arg : Nat) : Prop := SameEvents (s.post code src slot arg) t

/-- The last event that any state on the way to `t` posted, with nothing touching Q11 after it. -/
def LastEvent (t : State) (code src slot arg : Nat) : Prop := ∃ x, Posts x t code src slot arg

/-- From `s` to `t` no event has been posted. -/
def PostsNone (s t : State) : Prop := SameEvents s t

/-- A frame of the service protocol arrives intact on a path that is up, with the sequencer and the crypto domain running
(R438, R441). -/
def Arrives (s : State) (path : Path) (r : Request) : Prop :=
  pathUp s path.code = true ∧ s.get .SEQ_DOWN 0 = 0 ∧ s.getBit .DOM_ON 0 11 = true ∧ r.crcOk = true ∧ r.ver = 1 ∧
    r.payload.length ≤ 1024

/-- A plain request, with no session open. -/
def TakesPlain (s : State) (path : Path) (r : Request) : Prop :=
  Arrives s path r ∧ r.flags < 2 ∧ s.get .SESS_OPEN 0 = 0

/-- A protected request on the path of the open session, its counter above the last one (R461). -/
def TakesSealed (s : State) (path : Path) (r : Request) : Prop :=
  Arrives s path r ∧ (r.flags = 2 ∨ r.flags = 3) ∧ s.get .SESS_OPEN 0 = 1 ∧ s.get .SESS_PATH 0 = path.code ∧
    s.get .CTR_RX 0 < r.ctr ∧ r.ctr < 2 ^ 32

/-- What decryption under the session's key makes of a protected request: the text, or `none` where its tag fails. -/
def openText (s : State) (cmd : Nat) (r : Request) : Option (List Nat) :=
  ccmOpen s.sec.key (ccmNonce (s.get .SESS_ID 0) 0 r.ctr) (frameHead r.flags r.seq r.payload.length cmd 0) r.payload

/-- The state in which the sequencer performs a plain request. -/
def taken (s : State) (path : Path) : State := (served s).put .XO_BUSY path.code 0

/-- The state in which the sequencer performs a protected request. -/
def opened (s : State) (path : Path) (r : Request) : State := ((taken s path).put .CTR_RX 0 r.ctr).put .SESS_TICK 0 s.ts

/-- The answer to a request that came plain. -/
def plainAnswer (x : State) (path : Path) (cmd : Nat) (r : Request) (status : Nat) (payload : List Nat) : State :=
  answer x path.code cmd r none status payload

/-- The answer to a protected request, sealed under the key of the session that was open when it came. -/
def sealedAnswer (s x : State) (path : Path) (cmd : Nat) (r : Request) (status : Nat) (payload : List Nat) : State :=
  answer x path.code cmd r (some (s.sec.key, s.get .SESS_ID 0)) status payload

/-- From `s` to `t` a request has been answered on its path, plain or sealed as it came, with a STATUS and a payload; what
the command did before its answer has left the mailbox and all that has been sent alone. -/
def Answered (s t : State) (path : Path) (cmd : Nat) (r : Request) (status : Nat) (payload : List Nat) : Prop :=
  ∃ x, t = (if bit r.flags 1 then sealedAnswer s x path cmd r status payload else plainAnswer x path cmd r status payload) ∧
    x.outWait = s.outWait ∧ x.resp = s.resp ∧ x.tx = s.tx ∧ x.get .QWR 15 = s.get .QWR 15 ∧ x.get .QRD 15 = s.get .QRD 15 ∧
    (bit r.flags 1 = true → x.get .CTR_TX 0 = s.get .CTR_TX 0)

/-- What a reset leaves of the registers: the claim and the counters of the store, the system calibration, the D-dies'
copies of the roles, and what the reset itself writes. -/
def resetKeeps : List Reg :=
  [.SVC_HOURS, .CLAIMED, .CLAIM_CNT, .REV_SEQ, .REVOKE_BELOW, .ROLLBACK_MIN, .NODE_ID_LSS, .PATCH_ACTIVE, .PATCH_OK, .AUDIT_SEQ,
    .AUDIT_HEAD, .DRAWS, .SYS_OFS_A, .SYS_GAIN_A, .SYS_OFS_B, .SYS_GAIN_B, .AIN_SYS_OFS, .AIN_SYS_GAIN, .DDIE_ROLE, .DIE_UP,
    .DIE_SHORT, .NODE_ID_NEXT, .ANS_ABORT, .RESET_CAUSE, .PROFSEL, .PROF_ACTIVE, .PROF_TARGET, .ROLE_STRAP, .ROLE_ACT]

/-- The state after a reset for the causes whose bits are in `causes`: every register the device does not keep is at its
reset value, in both copies; queues and SRAM are empty, the session is gone, flash and the commands that wait stay. -/
structure AfterReset (s u : State) (causes profsel : Nat) : Prop where
  ts : u.ts = 0
  regs : ∀ r i, r ∉ resetKeeps → u.get r i = r.reset i
  devs : ∀ r i, u.dv r i = r.reset i
  mem : ∀ a, u.mem.read a = 0
  cause : u.get .RESET_CAUSE 0 = causes
  profsel : u.get .PROFSEL 0 = profsel
  claimed : s.get .CLAIMED 0 < 2 → u.get .CLAIMED 0 = s.get .CLAIMED 0
  audit : u.audit = s.audit
  profiles : u.sec.profiles = s.sec.profiles ∧ u.sec.patches = s.sec.patches ∧ u.sec.ownerHash = s.sec.ownerHash
  session : u.sec.key = [] ∧ u.sec.token = [] ∧ u.sec.staged = []
  pending : u.pending = s.pending

/-! ## Frames -/

/-- The parts of a state beside the register files of the fields. -/
inductive Part where
  /-- the RC copies -/
  | copies
  /-- the read shadows and the write shadows of the access paths -/
  | readShadow | writeShadow
  /-- the SRAM -/
  | memory
  /-- the slots' motion and the feedback channels' counter histories -/
  | motion | counts
  /-- partial frames, responses that wait, messages sent -/
  | partials | responses | sent
  /-- the audit log, and the key and identity store -/
  | audit | store
  /-- the time-stamp -/
  | clock
deriving DecidableEq, Repr

/-- Whether two states agree in a part. -/
def Part.Same : Part → State → State → Prop
  | .copies, s, t => t.rc = s.rc
  | .readShadow, s, t => t.spiRead = s.spiRead ∧ t.winRead = s.winRead
  | .writeShadow, s, t => t.spiWrite = s.spiWrite ∧ t.winWrite = s.winWrite
  | .memory, s, t => t.mem = s.mem
  | .motion, s, t => t.motion = s.motion
  | .counts, s, t => t.encHist = s.encHist
  | .partials, s, t => t.rx = s.rx
  | .responses, s, t => t.resp = s.resp
  | .sent, s, t => t.tx = s.tx
  | .audit, s, t => t.audit = s.audit
  | .store, s, t => t.sec = s.sec
  | .clock, s, t => t.ts = s.ts

/-- What may change: fields with all their instances, developed copies of fields, and parts; or every field, or every
developed copy. -/
structure Footprint where
  regs : List Reg
  devs : List Reg
  parts : List Part
  allRegs : Bool := false
  allDevs : Bool := false

/-- The footprint of named registers, developed copies and parts. -/
def Footprint.of (regs devs : List Reg) (parts : List Part) : Footprint :=
  { regs := regs, devs := devs, parts := parts }

/-- What several footprints may write together. -/
def Footprint.join (l : List Footprint) : Footprint :=
  { regs := l.flatMap Footprint.regs, devs := l.flatMap Footprint.devs, parts := l.flatMap Footprint.parts,
    allRegs := l.any Footprint.allRegs, allDevs := l.any Footprint.allDevs }

/-- Every field, every developed copy and every part outside the footprint is in `t` as it was in `s`, and so is the
queue of commands. -/
structure Within (f : Footprint) (s t : State) : Prop where
  regs : ∀ r i, f.allRegs = false → r ∉ f.regs → t.get r i = s.get r i
  devs : ∀ r i, f.allDevs = false → r ∉ f.devs → t.dv r i = s.dv r i
  parts : ∀ p, p ∉ f.parts → p.Same s t
  pending : t.pending = s.pending

/-- Every field, by whatever writes a register or an object that it names itself. -/
def Footprint.fields : Footprint := { regs := [], devs := [], parts := [], allRegs := true }

/-- Every field in both copies. -/
def Footprint.device : Footprint := { regs := [], devs := [], parts := [], allRegs := true, allDevs := true }

/-- What switching one or more ports off may write. -/
def Footprint.ports : Footprint :=
  .of [.PORT_DRIVE, .C_FROM_ENGINE, .HIGH_ON, .LS_TO, .HS_FROM] [] []

/-- What posting events to Q11 may write. -/
def Footprint.events : Footprint :=
  .of [.QWR, .QLEVEL, .QDROP, .QOVF, .QWM_HIT, .Q11_WM, .Q11_FULL, .EVENT_SEQ] [] [.memory]

/-- What reporting an error by EMCY may write. -/
def Footprint.emcys : Footprint :=
  .of [.ERR_HIST, .ERR_COUNT, .EMCY_TICK, .EMCY_SENT] [] [.sent]

/-- What an entry of the audit log may write. -/
def Footprint.audits : Footprint :=
  .of [.AUDIT_HEAD, .AUDIT_WRAPS, .AUDIT_SEQ, .AUDIT_BASE, .AUDIT_LIVE] [] [.audit]

/-- What ending a probe may write. -/
def Footprint.probes : Footprint :=
  Footprint.join [.events, .of [.OBS_STAT, .PROBE_ABORT, .VW_CAL_REJ, .PROBE_KIND, .PROBE_LAST, .PROBE_FOR_CAL, .W_RADD] [] []]

/-- What ending the open session may write. -/
def Footprint.sessions : Footprint :=
  Footprint.join [.events, .audits, .of [.SESS_OPEN, .SESS_ROLE, .SESS_PATH, .STAGED] [] [.store]]

/-- What a stop of the motion may write. -/
def Footprint.breaks : Footprint :=
  Footprint.join [.events, .of [.QRD, .SEG_STATE, .SEG_AHEAD, .SEG_DISCARD, .ACC_WAITING, .HOME_STATE, .HOME_FAIL, .HOMED,
    .SF_STATE, .SEG_DISCARDING, .FETCH_PTR, .GO_SEEN, .STOP_REQ, .STOP_REQ_RATE, .STOP_REQ_SCURVE, .AFTER_STOP,
    .CH_STATE, .CH_STOP, .HM_LIMITED, .HM_REQ] [] [.motion]]

/-- What cutting the motion of slots short may write. -/
def Footprint.cuts : Footprint :=
  Footprint.join [.breaks, .probes, .emcys, .of [.SPARE_MAP, .POS_CMD, .VEL_CMD, .PLAN_STATE, .RED_LOST, .STRIP_ACTIVE,
    .ENG_STATE, .EV_P, .EV_V, .OUT_P, .OUT_V, .TGT_NEW, .MODE_ENTRY, .LIM_PLAN, .SP_FULL, .STOP_RATE, .W_X, .W_IPRED,
    .W_VNEXT, .W_SAT, .WINDOW_ONLY, .STALL_HOLD, .STALL_STAND, .RESUME_SYNC, .STRIP_ENG, .STRIP_CYCLES, .STRIP_VOTE] [] []]

/-- What taking slots out of operation may write. -/
def Footprint.downs : Footprint :=
  Footprint.join [.cuts, .ports, .of [.IFS_MA, .PWR_STATE, .ACT_POS, .FB_STAT, .DRIVE_STATE, .PORT_SETTLE] [.TIA_RANGE,
    .SENSE_RATIO, .HARM3_AMP, .HARM3_PH, .HARM5_AMP, .HARM5_PH, .ENC_RATIO] []]

/-- What a fault of slots may write. -/
def Footprint.faults : Footprint :=
  Footprint.join [.downs, .of [.FAULT, .FAULT_CAUSE, .FAULTN_LOW] [] []]

/-- What a request of the service protocol and its answer may write. -/
def Footprint.requests : Footprint :=
  Footprint.join [.sessions, .of [.QRD, .Q15_DATA, .OUT_READY, .IN_FULL, .LAST_REFUSAL, .REFUSALS, .SEQ_SERVED, .XO_BUSY,
    .Q15_TICK, .SESS_TICK, .CTR_RX, .CTR_TX, .SESS_DROPS] [] [.responses, .sent]]

/-- What a controlword may write. -/
def Footprint.controls : Footprint :=
  Footprint.join [.faults, .of [.TARGET_CLAMPED, .HOME_EDGES, .HOME_LATCH, .ADAPT_FACT, .REG_STAT, .POS_EST, .VW_STATE,
    .TRIP_ACTIVE, .TRIP_LATCH, .TRIP_RUN, .TRIP_CLR_REF, .LSP_SHORT, .HSP_SHORT, .GD_LATCH, .GD_CAUSE, .GD_CLR_REF,
    .ILK_WAIT_MAX, .SB_CMD, .SB_STATE, .SB_SCOPE, .ANS_ABORT, .HOME_SHIFT, .TAIL_P, .TGT_P, .TGT_SET, .SP_P, .SP_V,
    .SP_ACK, .PASS_V, .HALTED, .CH_TARGET, .CH_PREV, .HM_METHOD, .HM_DIR, .HM_START, .HM_TAKEN, .HM_REF,
    .HM_MOVING_BACK, .SF_PREF, .OBS_SAL_POSTED, .OBS_R_UPD, .R_PROBED, .R_FILTERED, .SB_STILL_SINCE, .BST_RUN,
    .BST_EXEMPT, .LEG_TEST, .OV_RETURN, .SB_GROUP, .SB_HS_TICK, .POSTED, .RESETTING, .RESET_REFUSED, .CONTROLWORD,
    .NO_POST_RUN, .SEQ_SERVED, .MODE_RESUME, .FR_HELD] [.CHATTER_MAX, .HOME_DIST_MAX, .HS_CURRENT, .HS_BACKOFF,
    .HS_DIR, .HOME_MOVE_BACK, .HOME_IDX_MAX] []]

/-- What a command may write; none: of the whole device. Every slot, port and channel of a named register counts. -/
def Instr.writes : Instr → Option Footprint
  | .powerOnReset _ _ _ | .vcoreBrownOut _ _ _ | .vioBrownOut _ _ _ | .resetn _ _ _ | .devReset _ _ _ _ | .objectWrite _
    _ _ _ | .objWrite _ _ _ => none
  | .bootTimebaseLock _ => some (Footprint.join [.ports, .of [.PLL_LOCK, .REF_OK, .TB_SRC_ACT, .TB_SRC, .TRIP_RUN,
      .REFRESH_RUN, .BOOT_STAGE, .TB_NOREF, .TB_RUNNING, .GROUP_START, .CYC_END, .TB_EVER] [] []])
  | .crystalLossWait _ _ => some (.of [.TB_SRC_ACT, .TB_NOREF] [] [])
  | .bootRom _ => some (.of [.SVC_HOURS, .BOOT_STAGE, .SVC_TICK] [] [.copies, .memory, .clock])
  | .bootPatch _ => some (Footprint.join [.events, .audits, .of [.PATCH_LEVEL, .PATCH_STATE, .LAST_REFUSAL, .REFUSALS,
      .BOOT_STAGE, .PATCH_ACTIVE, .PATCH_OK, .PATCH_RUN] [] [.copies, .clock]])
  | .bootProfile _ => some (Footprint.join [.device, .of [] [] [.copies, .writeShadow, .memory, .motion, .partials,
      .responses, .sent, .audit, .store, .clock]])
  | .vanaReady _ => some (.of [.VANA_WAIT] [] [.copies, .clock])
  | .bootCalibration _ _ => some (Footprint.join [.faults, .audits, .of [.REG_STAT, .CONV_STATE, .CONV_EPOCH, .STRIKES,
      .CAL_OFS, .CAL_GAIN, .RETIRED_SEEN, .CAL_FAIL_SEEN, .INJ_DROP, .CADC_RET, .AADC_RET, .RETIRE_CNT, .ABSORBED,
      .BOOT_STAGE, .VANA_WAIT, .PORT_CUT, .AUX_CUT, .CONV_BUSY, .INJ_N, .INJ_REQ, .AUX_SETTLE, .AUX_HIST, .AUX_OVR,
      .AUX_N, .CHK_CODE, .CHK_PAIR_CAL, .CONV_RET_DUE, .CONV_RET_N, .CONV_CALFAIL, .CONV_PASSES, .CONV_CAL, .CAL_WAIT,
      .CAL_TICK, .CONV_EPOCH_TICK, .CONV_EPOCH_MOVED, .CONV_EPOCH_DUE] [] [.copies, .clock]])
  | .bootBist _ _ => some (Footprint.join [.events, .audits, .emcys, .of [.SLOT_ENGINE, .SPARE_MAP, .RED_LOST, .ABSORBED,
      .ENG_DEAD, .DEAD_MAP, .VOTE_LOST_MAP, .BOOT_STAGE, .ENG_STATE, .ENG_LOST, .ENG_BIST] [] [.copies, .clock]])
  | .bootBankRelease _ => some (Footprint.join [.events, .ports, .of [.FAULT, .ADAPT_FACT, .REG_STAT, .OBS_STAT, .VW_STATE,
      .PWR_STATE, .DRIVE_STATE, .WINDOW_ONLY, .OBS_SAL_POSTED, .OBS_R_UPD, .R_PROBED, .R_FILTERED, .BST_RUN,
      .BST_EXEMPT, .DDIE_ROLE, .BANK_REL, .HB_OUT, .DIE_UP, .POSTED, .NO_POST_RUN, .MODE_RESUME, .FAULTN_LOW] [] [.copies, .clock]])
  | .bootDone _ _ => some (Footprint.join [.events, .of [.FAULT, .BOOT_STAGE, .BOOT_DONE, .BOOT_TIME, .SEQ_SERVED,
      .NMT_STATE, .NODE_ID_ACT, .COB_EMCY, .FAULTN_LOW, .RPDO_COB, .RPDO_WAIT, .TPDO_COB, .TPDO_SENT, .TPDO_CNT,
      .TPDO_STARTED, .COMM_DUE, .USB_UP] [.CAN_MODE, .ARB_RATE, .DATA_RATE, .CAN_RED] [.copies, .sent, .clock]])
  | .tbApply => some (Footprint.join [.ports, .of [.PLL_LOCK, .REF_OK, .TB_SRC_ACT, .TB_APPLY_REJ, .FAULT, .TB_RUNNING,
      .HB_GOOD, .FAULTN_LOW, .TB_LOSS_TICK, .TB_RELOCK] [] []])
  | .timebaseLoss _ _ _ => some (Footprint.join [.faults, .of [.PLL_LOCK, .REF_OK, .ILK_WAIT_MAX, .SB_STATE, .SB_SCOPE,
      .SB_CAUSE, .SB_CNT, .LINK_STATE, .LINK_FLAGS, .FENCE_CNT, .TB_RUNNING, .SB_STILL_SINCE, .HB_GOOD, .SB_GROUP,
      .SB_HS_TICK, .TB_LOSS_TICK, .LOCKED, .RC_PEND, .RING_RESET, .OFS_SET] [] [.copies, .clock]])
  | .timebaseRestart _ _ => some (Footprint.join [.events, .ports, .emcys, .of [.PLL_LOCK, .REF_OK, .TB_LOST, .TB_GAP,
      .TB_GAP_US, .FAULT, .HOMED, .TRIP_RUN, .REFRESH_RUN, .ENC_SPEED, .FB_STAT, .FB_FLAGS, .FE, .TB_RUNNING,
      .HALL_SECT, .GROUP_START, .CYC_END, .FAULTN_LOW, .HALL_STATE, .SPD_NET, .SPD_EDGES, .SPD_REF_OK, .SPD_REV,
      .SPD_EMPTY, .FE_SINCE, .TB_RELOCK] [] []])
  | .statusTick => some (Footprint.join [.fields, .of [] [.QBASE, .QSIZE_LOG2, .PRODUCER, .CHATTER_MAX, .HOME_DIST_MAX,
      .HS_CURRENT, .HS_BACKOFF, .HS_DIR, .HOME_MOVE_BACK, .HOME_IDX_MAX, .TIA_RANGE, .SENSE_RATIO, .HARM3_AMP,
      .HARM3_PH, .HARM5_AMP, .HARM5_PH, .GROUP, .HS_HOLD_MAX, .CH_MODE, .ENC_INV, .Z_POL, .Z_GATE, .ENC_N, .ENC_CLK,
      .SW_N, .SW_CLK, .SD_N, .SD_CLK, .SPD_WIN, .STILL_WINDOWS, .ILLEGAL_LIMIT, .ENC_POS, .ENC_RATIO, .FB_SOFTLIM_LO,
      .FB_SOFTLIM_HI, .ACT_POS, .ENC_SPEED, .FB_STAT, .FB_FLAGS, .ILLEGAL_COUNT, .HALL_SKIP, .ENC_FAULT_CLR,
      .ENC_ALIGN, .CAP_ARM, .CAP_Z, .CAP_HOME, .CAP_LIMN, .CAP_LIMP, .CAP_ONESHOT, .CAP_TRIGO, .CAP_SEGTRIG, .FE,
      .FE_LIMIT, .FE_TIME, .ALIGN_MS, .CH_EN, .CH_COPY, .FMT, .AVG_N, .SHIFT, .DIFF, .RING_EXPECT, .AX_DN, .AX_UP,
      .DOM_OFF_REQ] [.copies, .writeShadow, .memory, .motion, .partials, .responses, .sent, .audit, .store,
      .clock]])
  | .delaylineCalibration _ _ => some (Footprint.join [.events, .of [.DL_COARSE, .DL_CAL_ERR, .DL_ELEMS, .DL_FAILS] [] [.copies, .clock]])
  | .ddieWatchdogExpiry _ _ => some (Footprint.join [.faults, .of [.ILK_WAIT_MAX, .HB_LOST, .HB_LOST_CNT, .SB_STATE,
      .SB_SCOPE, .SB_CAUSE, .SB_CNT, .SB_STILL_SINCE, .HB_OUT, .HB_GOOD, .SB_GROUP, .SB_HS_TICK] [] [.copies,
      .clock]])
  | .ddieRelease _ _ => some (Footprint.join [.events, .ports, .of [.FAULT, .ADAPT_FACT, .REG_STAT, .OBS_STAT, .VW_STATE,
      .TRIP_RUN, .REFRESH_RUN, .ILK_WAIT_MAX, .SB_CMD, .SB_STATE, .SB_SCOPE, .PWR_STATE, .DRIVE_STATE, .WINDOW_ONLY,
      .OBS_SAL_POSTED, .OBS_R_UPD, .R_PROBED, .R_FILTERED, .SB_STILL_SINCE, .BST_RUN, .BST_EXEMPT, .DDIE_ROLE,
      .BANK_REL, .HB_OUT, .DIE_UP, .OV_RETURN, .SB_GROUP, .POSTED, .NO_POST_RUN, .MODE_RESUME, .FAULTN_LOW] [] [.copies, .clock]])
  | .spiCommandHeader _ _ => some (.of [.SPI_BITS, .SPI_OPEN, .SPI_DEAD, .SPI_WRITE, .SPI_INC, .SPI_ADDR] [] [])
  | .spiWriteWord _ => some (Footprint.join [.fields, .of [] [.QBASE, .QSIZE_LOG2, .PRODUCER, .TIA_RANGE, .SENSE_RATIO,
      .HARM3_AMP, .HARM3_PH, .HARM5_AMP, .HARM5_PH, .ENC_RATIO, .RING_EXPECT, .AX_DN, .AX_UP] [.writeShadow, .memory,
      .motion, .partials, .responses, .sent, .audit]])
  | .spiReadWord _ => some (Footprint.join [.events, .of [.QRD, .Q15_DATA, .OUT_READY, .IN_FULL, .SPI_BITS, .SPI_DEAD,
      .SPI_ADDR, .Q15_TICK] [] [.readShadow, .responses, .sent]])
  | .spiFrameEnd _ => some (.of [.SPI_STAT, .SPI_BITS, .SPI_OPEN] [] [])
  | .registerWrite _ _ _ _ _ _ => some (Footprint.join [.fields, .of [] [.QBASE, .QSIZE_LOG2, .PRODUCER, .TIA_RANGE,
      .SENSE_RATIO, .HARM3_AMP, .HARM3_PH, .HARM5_AMP, .HARM5_PH, .ENC_RATIO, .RING_EXPECT, .AX_DN, .AX_UP] [.writeShadow, .memory, .motion, .counts, .partials, .responses, .sent, .audit]])
  | .wideLowWordRead _ _ => some (Footprint.join [.events, .of [.QRD, .Q15_DATA, .OUT_READY, .IN_FULL, .ANS_ABORT,
      .SEQ_SERVED, .REG_WIN_STAT, .Q15_TICK] [] [.readShadow, .responses, .sent]])
  | .wideHighWordWrite _ _ _ => some (Footprint.join [.fields, .of [] [.QBASE, .QSIZE_LOG2, .PRODUCER, .TIA_RANGE,
      .SENSE_RATIO, .HARM3_AMP, .HARM3_PH, .HARM5_AMP, .HARM5_PH, .ENC_RATIO, .RING_EXPECT, .AX_DN, .AX_UP] [.writeShadow, .memory, .motion, .partials, .responses, .sent, .audit]])
  | .regWinDataRead => some (Footprint.join [.events, .of [.QRD, .Q15_DATA, .OUT_READY, .IN_FULL, .ANS_ABORT, .SEQ_SERVED,
      .REG_WIN_ADDR, .REG_WIN_STAT, .Q15_TICK] [] [.readShadow, .responses, .sent]])
  | .regWinDataWrite _ => some (Footprint.join [.fields, .of [] [.QBASE, .QSIZE_LOG2, .PRODUCER, .TIA_RANGE, .SENSE_RATIO,
      .HARM3_AMP, .HARM3_PH, .HARM5_AMP, .HARM5_PH, .ENC_RATIO, .RING_EXPECT, .AX_DN, .AX_UP] [.writeShadow, .memory,
      .motion, .partials, .responses, .sent, .audit]])
  | .regWinBlockRead => some (Footprint.join [.events, .of [.QRD, .Q15_DATA, .OUT_READY, .IN_FULL, .ANS_ABORT, .SEQ_SERVED,
      .REG_WIN_STAT, .Q15_TICK] [] [.readShadow, .responses, .sent]])
  | .regWinBlockWrite _ => some (Footprint.join [.fields, .of [] [.QBASE, .QSIZE_LOG2, .PRODUCER, .TIA_RANGE,
      .SENSE_RATIO, .HARM3_AMP, .HARM3_PH, .HARM5_AMP, .HARM5_PH, .ENC_RATIO, .RING_EXPECT, .AX_DN, .AX_UP] [.writeShadow, .memory, .motion, .partials, .responses, .sent, .audit]])
  | .slackMinClr _ => some (.of [.SLACK_MIN] [] [])
  | .engineCycle _ _ _ _ _ => some (Footprint.join [.device, .of [] [] [.copies, .writeShadow, .memory, .motion,
      .partials, .responses, .sent, .audit, .store, .clock]])
  | .slackFullRateReturn _ => some (.of [.SLACK_LOW, .OBS_HALF] [] [])
  | .deadlineMissStrip _ => some (Footprint.join [.events, .emcys, .of [.SPARE_MAP, .RED_LOST, .STRIP_SLOT, .STRIP_ACTIVE,
      .ENG_STATE, .STRIP_ENG, .STRIP_CYCLES, .STRIP_VOTE, .STRIP_LAST, .MISS_RUN] [] []])
  | .deadlineMissMigration _ => some (Footprint.join [.faults, .of [.MIG_WANT, .MIG_TARGET, .MIG_KILLS, .MISS_WINDOW] [] []])
  | .tagWaitRelease => some (.of [.TAGS_INFLIGHT, .TAGS_QUAR, .TAG_WAIT, .TAG_BUSY, .TAG_HELPER, .TAG_SINCE, .TAG_EPOCH,
      .TAG_QUEUE] [] [])
  | .helperResult _ _ => some (.of [.TAGS_INFLIGHT, .TAGS_QUAR, .STALE_DROP, .TAG_BUSY] [] [])
  | .tagReclaim _ _ => some (Footprint.join [.events, .audits, .emcys, .of [.TAGS_INFLIGHT, .TAGS_QUAR, .TAG_RECLAIM,
      .SPARE_MAP, .CONV_STATE, .RED_LOST, .DOM_RESTARTS, .STRIP_ACTIVE, .DOM_ON, .ENG_STATE, .STRIP_ENG,
      .STRIP_CYCLES, .STRIP_VOTE, .DOM_RESTARTING, .DOM_RESTART_WAIT, .RECLAIM_TICK, .RECLAIM_SEEN, .TAG_BUSY,
      .TAG_QUARANTINE, .TAG_QUEUE, .CONV_BUSY, .CONV_CAL] [] [.copies, .clock]])
  | .epochDeferredAdvance _ _ => some (Footprint.join [.sessions, .probes, .emcys, .of [.TAGS_INFLIGHT, .TAGS_QUAR,
      .SLOT_ENGINE, .SLOT_EPOCH, .SPARE_MAP, .HOME_STATE, .HOME_FAIL, .HOMED, .REG_STAT, .CONV_STATE, .CONV_EPOCH,
      .RED_LOST, .ABSORBED, .MIGRATIONS, .COLD_TAKE, .ENG_DEAD, .SEQ_WD_CNT, .DOM_RESTARTS, .SEQ_NOPATCH,
      .STRIP_ACTIVE, .DEAD_MAP, .VOTE_LOST_MAP, .DEV_EPOCH, .PATCH_LEVEL, .PATCH_STATE, .DOM_ON, .ENG_STATE,
      .STOP_REQ, .STOP_REQ_RATE, .STOP_REQ_SCURVE, .HM_LIMITED, .HM_REQ, .W_X, .W_IPRED, .W_REF, .WINDOW_ONLY,
      .ENG_LOST, .ENG_BIST, .STRIP_ENG, .STRIP_CYCLES, .STRIP_VOTE, .MIG_WANT, .MIG_TARGET, .MIG_COLD, .MIG_KILLS,
      .EPOCH_TICK, .EPOCH_MOVED, .MISS_RUN, .MISS_WINDOW, .CYC_END, .SLACK_GOOD, .SEQ_DOWN, .SEQ_CAUSE, .SEQ_WAIT,
      .SEQ_WAIT_CAUSE, .SEQ_WD_RECENT, .DOM_RESTARTING, .DOM_RESTART_WAIT, .TAG_BUSY, .TAG_QUARANTINE, .TAG_QUEUE,
      .MODE_RESUME, .PORT_CUT, .AUX_CUT, .CONV_BUSY, .PORT_SETTLE, .AUX_SETTLE, .AUX_HIST, .AUX_OVR, .AUX_N,
      .CONV_CAL, .CONV_EPOCH_TICK, .CONV_EPOCH_MOVED, .CONV_EPOCH_DUE, .DEV_EPOCH_TICK, .DEV_EPOCH_DUE, .XO_BUSY,
      .PATCH_RUN] [] [.copies, .partials, .clock]])
  | .sramScrub _ _ _ => some (Footprint.join [.sessions, .of [.QRD, .Q15_DATA, .ECC_CORR, .ECC_UNCORR, .SEQ_WD_CNT,
      .SEQ_NOPATCH, .OUT_READY, .IN_FULL, .PATCH_LEVEL, .PATCH_STATE, .SEQ_DOWN, .SEQ_CAUSE, .SEQ_WAIT,
      .SEQ_WAIT_CAUSE, .SEQ_WD_RECENT, .XO_BUSY, .Q15_TICK, .PATCH_RUN] [] [.copies, .partials, .responses, .sent,
      .clock]])
  | .qwrWrite _ _ _ => some (Footprint.join [.fields, .of [] [.QBASE, .QSIZE_LOG2, .PRODUCER, .TIA_RANGE, .SENSE_RATIO,
      .HARM3_AMP, .HARM3_PH, .HARM5_AMP, .HARM5_PH, .ENC_RATIO, .RING_EXPECT, .AX_DN, .AX_UP] [.writeShadow, .memory,
      .motion, .partials, .responses, .sent, .audit]])
  | .qrdWrite _ _ _ => some (Footprint.join [.fields, .of [] [.QBASE, .QSIZE_LOG2, .PRODUCER, .TIA_RANGE, .SENSE_RATIO,
      .HARM3_AMP, .HARM3_PH, .HARM5_AMP, .HARM5_PH, .ENC_RATIO, .RING_EXPECT, .AX_DN, .AX_UP] [.writeShadow, .memory,
      .motion, .partials, .responses, .sent, .audit]])
  | .qreset _ _ => some (Footprint.join [.events, .of [.QRD, .QCFG_REJ, .SEG_DISCARD, .OUT_READY, .IN_FULL, .FETCH_PTR] [.QBASE, .QSIZE_LOG2, .PRODUCER] [.motion]])
  | .portmapApply _ => some (.of [.ANS_ABORT, .MAP_CODE, .MAP_PORT, .MAP_SLOT, .MAP_WAIT, .MAP_WAIT_X, .MAP_ROLE, .MAP_KIND,
      .MAP_GROUP, .SEQ_SERVED] [] [])
  | .portmapSetDevelop _ => some (Footprint.join [.fields, .of [] [.GROUP, .SLOT_KIND] [.memory, .motion, .sent]])
  | .segWrite _ _ => some (Footprint.join [.events, .of [.QRD, .LAST_REJ_CAUSE, .LAST_REJ_PTR, .SEG_REJ, .SEG_DISCARD,
      .ECC_UNCORR, .ANS_ABORT, .TAIL_P, .TAIL_V, .SEG_DISCARDING, .FETCH_PTR, .SEQ_SERVED] [] [.motion]])
  | .segPdoEnqueue _ _ => some (Footprint.join [.events, .of [.QRD, .QWR_REJ, .LAST_REJ_CAUSE, .LAST_REJ_PTR, .SEG_REJ,
      .SEG_DISCARD, .ECC_UNCORR, .ANS_ABORT, .TAIL_P, .TAIL_V, .SEG_DISCARDING, .FETCH_PTR, .SEG_PDO_W] [] [.motion]])
  | .segRestart _ => some (.of [.CLASH_LOST, .SEG_STATE, .TAIL_P, .TAIL_V, .SEG_DISCARDING] [] [])
  | .segmentStartActions _ => some (Footprint.join [.events, .of [.FB_STAT, .TRIGO_END, .TRIGO_LEVEL, .SEG_ROUTE_END,
      .CAP_SEQ] [] [.copies, .clock]])
  | .accGo _ _ => some (.of [.ACC_PEND, .ACC_GO_LOST, .GO_SEEN, .GO_T, .RGO_PEND, .RGO_T] [] [])
  | .syncTimeout _ _ => some (Footprint.join [.events, .of [.QRD, .SEG_STATE, .SYNC_TO, .SEG_DISCARD, .ACC_WAITING,
      .SEG_DISCARDING, .GO_SEEN] [] [.copies, .motion, .clock]])
  | .modeChange _ _ => some (.of [.ANS_ABORT, .MODE, .SEQ_SERVED] [] [])
  | .newSetPoint _ _ => some (Footprint.controls)
  | .syncReceived _ _ _ => some (Footprint.join [.fields, .of [] [.QBASE, .QSIZE_LOG2, .PRODUCER, .CHATTER_MAX,
      .HOME_DIST_MAX, .HS_CURRENT, .HS_BACKOFF, .HS_DIR, .HOME_MOVE_BACK, .HOME_IDX_MAX, .TIA_RANGE, .SENSE_RATIO,
      .HARM3_AMP, .HARM3_PH, .HARM5_AMP, .HARM5_PH, .ENC_RATIO, .RING_EXPECT, .AX_DN, .AX_UP] [.copies, .writeShadow,
      .memory, .motion, .partials, .responses, .sent, .audit, .clock]])
  | .csLoss _ _ => some (Footprint.join [.events, .of [.QRD, .SEG_STATE, .SEG_DISCARD, .ACC_WAITING, .PLAN_STATE,
      .STOP_CAUSE, .SF_STATE, .EV_P, .EV_V, .SEG_DISCARDING, .MODE_ENTRY, .LIM_PLAN, .STOP_RATE, .CH_STATE] [.STOP_DEC, .LIMIT_DEC] [.copies, .motion, .clock]])
  | .enableInterpolation _ _ => some (Footprint.controls)
  | .halt _ => some (Footprint.controls)
  | .haltRelease _ => some (Footprint.controls)
  | .limitSwitchEdge _ _ _ _ => some (Footprint.join [.events, .of [.POS_CMD, .LIM_N_HIT, .LIM_P_HIT, .LIM_BOTH, .SW_STATE,
      .HOME_STATE, .HOME_FAIL, .HOMED, .HOME_EDGES, .HOME_LATCH, .POS_EST, .ACT_POS, .FB_STAT, .EV_P, .OUT_P,
      .HOME_SHIFT, .TAIL_P, .TGT_P, .SP_P, .STOP_REQ, .STOP_REQ_RATE, .STOP_REQ_SCURVE, .CH_TARGET, .CH_PREV, .HM_DIR,
      .HM_START, .HM_TAKEN, .HM_REF, .HM_LIMITED, .SF_PREF, .SW_BALL, .HM_REQ, .CAP_SEQ] [] [.copies, .motion,
      .clock]])
  | .homeSwitchEdge _ _ _ => some (Footprint.join [.events, .of [.POS_CMD, .LIM_N_HIT, .LIM_P_HIT, .LIM_BOTH, .SW_STATE,
      .HOME_STATE, .HOME_FAIL, .HOMED, .HOME_EDGES, .HOME_LATCH, .POS_EST, .ACT_POS, .FB_STAT, .EV_P, .OUT_P,
      .HOME_SHIFT, .TAIL_P, .TGT_P, .SP_P, .STOP_REQ, .STOP_REQ_RATE, .STOP_REQ_SCURVE, .CH_TARGET, .CH_PREV, .HM_DIR,
      .HM_START, .HM_TAKEN, .HM_REF, .HM_LIMITED, .SF_PREF, .SW_BALL, .HM_REQ, .CAP_SEQ] [] [.copies, .motion,
      .clock]])
  | .indexEdge _ _ _ => some (Footprint.join [.events, .of [.POS_CMD, .HOME_STATE, .HOME_EDGES, .HOME_LATCH, .POS_EST,
      .ACT_POS, .FB_STAT, .EV_P, .OUT_P, .HOME_SHIFT, .TAIL_P, .TGT_P, .SP_P, .CH_TARGET, .CH_PREV, .HM_START,
      .HM_TAKEN, .HM_REF, .SF_PREF, .HM_REQ, .CAP_SEQ] [] [.copies, .motion, .clock]])
  | .homingStart _ => some (Footprint.controls)
  | .homingChatter _ => some (Footprint.join [.events, .of [.HOME_STATE, .HOME_FAIL, .HOMED, .STOP_REQ, .STOP_REQ_RATE,
      .STOP_REQ_SCURVE, .HM_LIMITED, .HM_REQ] [] []])
  | .homingDistance _ => some (Footprint.join [.events, .of [.HOME_STATE, .HOME_FAIL, .HOMED, .STOP_REQ, .STOP_REQ_RATE,
      .STOP_REQ_SCURVE, .HM_LIMITED, .HM_REQ] [] []])
  | .homingNoIndex _ => some (Footprint.join [.events, .of [.HOME_STATE, .HOME_FAIL, .HOMED, .STOP_REQ, .STOP_REQ_RATE,
      .STOP_REQ_SCURVE, .HM_LIMITED, .HM_REQ] [] []])
  | .stepEdge _ _ _ _ => some (.of [.SF_COUNT, .STEP_LEVEL, .DIR_LEVEL] [] [.copies, .clock])
  | .sfRestart _ => some (.of [.CLASH_LOST, .SF_STATE, .SF_CREF, .SF_PREF] [] [.motion])
  | .curSenseLost _ => some (Footprint.join [.faults, .of [.REG_STAT, .SENSE_LOST, .VW_TEMP, .VW_STATE, .VW_AGE] [] []])
  | .busFfStale _ _ => some (Footprint.join [.events, .of [.REG_STAT, .FF_POSTED] [] [.copies, .clock]])
  | .highDutyExit _ => some (Footprint.join [.events, .of [.REG_STAT, .HD_COUNT, .HD_LOW] [] []])
  | .standstillReduction _ _ => some (.of [.REG_STAT, .RAMP_SINCE] [] [.copies, .clock])
  | .openWinding _ => some (Footprint.join [.faults, .of [.OPEN_WIND, .ILK_WAIT_MAX, .SB_STATE, .SB_SCOPE, .SB_CAUSE,
      .SB_CNT, .W_OPEN, .SB_STILL_SINCE, .SB_GROUP, .SB_HS_TICK] [] []])
  | .curSumErr _ => some (Footprint.join [.faults, .of [.SUM_ERR, .W_SUM] [] []])
  | .stallDetected _ => some (Footprint.join [.probes, .of [.QRD, .SEG_STATE, .SEG_DISCARD, .POS_CMD, .VEL_CMD,
      .ACC_WAITING, .PLAN_STATE, .HOME_STATE, .HOME_FAIL, .HOMED, .HOME_LATCH, .SF_STATE, .STALL, .POS_EST,
      .STALL_CNT, .ACT_POS, .EV_P, .EV_V, .OUT_P, .OUT_V, .HOME_SHIFT, .TAIL_P, .SEG_DISCARDING, .TGT_P, .TGT_SET,
      .TGT_NEW, .MODE_ENTRY, .LIM_PLAN, .SP_FULL, .SP_P, .STOP_RATE, .STOP_REQ, .STOP_REQ_RATE, .STOP_REQ_SCURVE,
      .CH_STATE, .CH_TARGET, .CH_PREV, .HM_START, .HM_TAKEN, .HM_REF, .HM_MOVING_BACK, .HM_LIMITED, .SF_PREF, .HM_REQ,
      .BL_Y, .I_Q, .STALL_RUN, .STALL_HOLD, .STALL_STAND, .STALL_NOW] [] [.motion]])
  | .stallFault _ _ => some (Footprint.join [.faults, .of [.ILK_WAIT_MAX, .SB_STATE, .SB_SCOPE, .SB_CAUSE, .SB_CNT,
      .SB_STILL_SINCE, .SB_GROUP, .SB_HS_TICK] [] [.copies, .clock]])
  | .dcProbeStart _ _ => some (.of [.OBS_STAT, .PROBE_KIND, .PROBE_START_T, .PROBE_POS, .PROBE_HIGH, .PROBE_V, .PROBE_I,
      .PROBE_N] [.PROBE_DELTA, .PROBE_INT] [.copies, .clock])
  | .daxisProbeStart _ _ => some (.of [.OBS_STAT, .PROBE_KIND, .PROBE_START_T, .PROBE_POS, .PROBE_HIGH, .PROBE_V, .PROBE_I,
      .PROBE_N] [.PROBE_DELTA, .PROBE_INT] [.copies, .clock])
  | .probeComplete _ _ => some (Footprint.join [.events, .audits, .of [.OBS_STAT, .R_RANGE, .VW_CAL_REJ, .R_EST, .VW_TEMP,
      .VW_STATE, .VW_AGE, .VW_R25, .OBS_R_UPD, .R_FINE, .R_FILT, .R_FILT_TICK, .R_UPD_TICK, .R_EVER, .PROBE_KIND,
      .PROBE_LAST, .PROBE_FOR_CAL, .W_RADD, .OBS_BOUND, .R_PROBED, .R_FILTERED] [.VW_R25] [.copies, .clock]])
  | .vwCal _ _ => some (Footprint.join [.probes, .audits, .of [.LAST_REFUSAL, .REFUSALS, .ANS_ABORT, .PROBE_START_T,
      .PROBE_POS, .PROBE_HIGH, .PROBE_V, .PROBE_I, .PROBE_N, .SEQ_SERVED] [.PROBE_DELTA, .PROBE_INT] [.store]])
  | .periodStart _ => some (Footprint.join [.events, .ports, .of [.WIN_REJ, .D_WIN_RD, .FULL_NOW, .PRD_BUDGET, .LOAD_PEND,
      .DUTY_CLAMP, .TRIP_SEEN, .LOAD_REJ, .TRIP_RUN, .TRIP_TOTAL, .REFRESH_CNT, .REFRESH_RUN, .PERIOD_DEV, .DEAD_DEV,
      .CMP_DEV, .LOAD_PEND_GRP, .BST_UV_CNT, .ILK_WAIT_MAX, .INJ_DROP, .SF_SNAP, .SMP_FRESH, .SMP_OVR, .SMP_SETTLE,
      .W_VAPP, .HD_COUNT, .WINDOWED, .WINDOW_ONLY, .W_INJAPP, .W_IRESP, .TRIPPED_H, .TRIPPED_L, .TRIP_HELD,
      .TRIP_FREE, .CMP_NEW, .C_DEV, .HALF_PULSE, .JOINING, .BST_RUN, .BST_EXEMPT, .PRESC_CNT, .LOAD_LEFT,
      .GROUP_START, .RESUME_SYNC, .CYC_END, .NO_POST_RUN, .FULL_CUR, .LOW_CUR, .LS_FROM, .DL_TAP, .PERIOD_LOADED,
      .BUDGET_DUTY, .FB_SNAP, .BST_BAD, .SMP_SKIP, .SMP_DONE, .SMP_TRIP, .HALF_TURN, .INJ_N, .INJ_REQ] [.DUTY,
      .CMP_B, .REFRESH_LIMIT, .REFRESH_WIDTH, .TRIP_LIMIT, .PRESC_ZERO, .RTSEQ_ZERO, .RTCONV_ZERO, .CFG_PRD,
      .CFG_CMPA, .CFG_CMPB, .MON_BLANK, .SRC_STEP, .SNK_STEP, .SC_THR, .SC_BLANK] [.copies, .clock]])
  | .loadAll _ => some (.of [.LOAD_PEND, .LOAD_PEND_GRP, .LOAD_LEFT, .LOAD_TICK] [] [])
  | .groupWrite _ _ => some (.of [.GROUP, .GRP_REJ, .GROUP_WAIT] [] [])
  | .pwmEnWrite _ _ => some (Footprint.join [.faults, .of [.PWM_EN, .ILK_WAIT_MAX, .BUS_STAT, .BRAKE_REJ, .SB_STATE,
      .SB_STILL_SINCE, .SB_HS_TICK, .X_HELD] [] []])
  | .shortCircuitTrip _ _ _ _ => some (Footprint.join [.faults, .of [.TRIP_ACTIVE, .TRIP_SEEN, .TRIP_RUN, .TRIP_TOTAL,
      .LSP_SHORT, .HSP_SHORT, .GD_LATCH, .GD_CAUSE, .SC_SEEN, .ILK_WAIT_MAX, .SB_STATE, .SB_SCOPE, .SB_CAUSE, .SB_CNT,
      .INJ_DROP, .SB_STILL_SINCE, .TRIPPED_H, .TRIPPED_L, .TRIP_HELD, .TRIP_FREE, .SB_GROUP, .SB_HS_TICK, .SMP_TRIP,
      .INJ_N, .INJ_REQ] [] [.copies, .clock]])
  | .tripnActive _ _ => some (Footprint.join [.ports, .of [.TRIP_ACTIVE, .TRIP_SEEN, .TRIP_RUN, .TRIP_TOTAL, .ILK_WAIT_MAX,
      .SB_STATE, .INJ_DROP, .SB_STILL_SINCE, .TRIPPED_H, .TRIPPED_L, .TRIP_HELD, .TRIP_FREE, .TRIPN_LOW, .SB_HS_TICK,
      .SMP_TRIP, .INJ_N, .INJ_REQ] [] [.copies, .clock]])
  | .tripLatch _ _ => some (Footprint.join [.faults, .of [.TRIP_LATCH, .ILK_WAIT_MAX, .SB_STATE, .SB_SCOPE, .SB_CAUSE,
      .SB_CNT, .SB_STILL_SINCE, .SB_GROUP, .SB_HS_TICK] [] [.copies, .clock]])
  | .tripClr _ => some (Footprint.join [.events, .emcys, .of [.FAULT, .TRIP_ACTIVE, .TRIP_LATCH, .TRIP_RUN, .TRIP_CLR_REF,
      .FAULTN_LOW] [] []])
  | .pwmEventFire _ _ _ => some (Footprint.join [.events, .of [.MON_SKIP, .PWM_EVT_LOST, .FB_STAT, .EVT_TICK, .EVT_POSTED,
      .PRESC_CNT, .TRIGO_END, .TRIGO_LEVEL, .CAP_SEQ, .CONV_BUSY, .CONV_NOW, .MON_WAIT] [] [.copies, .clock]])
  | .trigoPulseEnd _ _ => some (.of [.TRIGO_LEVEL] [] [.copies, .clock])
  | .interlockTimeout _ _ => some (Footprint.join [.faults, .of [.GD_LATCH, .GD_CAUSE, .ILK_TO, .ILK_WAIT_MAX, .SB_STATE,
      .SB_SCOPE, .SB_CAUSE, .SB_CNT, .SB_STILL_SINCE, .SB_GROUP, .SB_HS_TICK] [] [.copies, .clock]])
  | .gdClr _ _ => some (Footprint.join [.events, .emcys, .of [.FAULT, .TRIP_ACTIVE, .LSP_SHORT, .HSP_SHORT, .GD_LATCH,
      .GD_CAUSE, .GD_CLR_REF, .LEG_TEST, .FAULTN_LOW] [] []])
  | .legTestResult _ _ _ => some (Footprint.join [.events, .ports, .emcys, .of [.FAULT, .IFS_MA, .TRIP_ACTIVE, .TRIP_LATCH,
      .TRIP_RUN, .TRIP_CLR_REF, .LSP_SHORT, .HSP_SHORT, .GD_LATCH, .GD_CAUSE, .GD_CLR_REF, .SB_CMD, .SB_STATE,
      .SB_SCOPE, .ACT_POS, .FB_STAT, .ANS_ABORT, .DRIVE_STATE, .SB_STILL_SINCE, .LEG_TEST, .OV_RETURN, .SB_GROUP,
      .FAULT_CAUSE, .RESETTING, .RESET_REFUSED, .FAULTN_LOW, .PORT_SETTLE] [.TIA_RANGE, .SENSE_RATIO, .HARM3_AMP,
      .HARM3_PH, .HARM5_AMP, .HARM5_PH, .ENC_RATIO] [.copies, .clock]])
  | .ilkMaxClr _ => some (.of [.ILK_WAIT_MAX] [] [])
  | .gdApply _ => some (.of [.OVER_GD_APPLY] [] [])
  | .vdrvLockout _ _ _ => some (Footprint.join [.faults, .of [.ILK_WAIT_MAX, .VDRV_OK, .VDRV_UV_SEEN, .VDRV_MV,
      .VDRV_UV_CNT, .SB_STATE, .SB_STILL_SINCE, .BANK_REL, .HB_OUT, .DIE_UP, .SB_HS_TICK, .RT_BACK, .FR_HELD] [] [.copies, .clock]])
  | .vdrvLockoutRelease _ _ _ => some (Footprint.join [.events, .of [.FAULT, .ADAPT_FACT, .REG_STAT, .OBS_STAT, .VW_STATE,
      .VDRV_OK, .VDRV_MV, .PWR_STATE, .DRIVE_STATE, .WINDOW_ONLY, .OBS_SAL_POSTED, .OBS_R_UPD, .R_PROBED, .R_FILTERED,
      .BST_RUN, .BST_EXEMPT, .POSTED, .NO_POST_RUN, .MODE_RESUME, .FAULTN_LOW] [] [.copies, .clock]])
  | .ddieBankRelease _ _ => some (Footprint.join [.events, .of [.FAULT, .ADAPT_FACT, .REG_STAT, .OBS_STAT, .VW_STATE,
      .PWR_STATE, .DRIVE_STATE, .WINDOW_ONLY, .OBS_SAL_POSTED, .OBS_R_UPD, .R_PROBED, .R_FILTERED, .BST_RUN,
      .BST_EXEMPT, .DDIE_ROLE, .BANK_REL, .DIE_UP, .POSTED, .NO_POST_RUN, .MODE_RESUME, .FAULTN_LOW] [] [.copies,
      .clock]])
  | .bootstrapLockout _ _ => some (Footprint.join [.ports, .of [.REFRESH_CNT, .REFRESH_RUN, .BST_UV, .BST_UV_SEEN,
      .ILK_WAIT_MAX, .SB_STATE, .SB_STILL_SINCE, .HALF_PULSE, .SB_HS_TICK, .FULL_CUR, .LOW_CUR, .LS_FROM, .BST_BAD] [] [.copies, .clock]])
  | .bootstrapUvFault _ _ => some (Footprint.join [.faults, .of [.GD_LATCH, .GD_CAUSE, .ILK_WAIT_MAX, .SB_STATE, .SB_SCOPE,
      .SB_CAUSE, .SB_CNT, .SB_STILL_SINCE, .BST_RUN, .SB_GROUP, .SB_HS_TICK] [] [.copies, .clock]])
  | .vbusReading _ _ => some (Footprint.join [.faults, .of [.REG_STAT, .VBUS_FF, .ILK_WAIT_MAX, .VBUS_MV, .BUS_STAT,
      .BUS_SEEN, .BUS_COAST_CNT, .BRAKE_CNT, .BUS_OV_CNT, .SB_STATE, .SB_SCOPE, .SB_CAUSE, .SB_CNT, .HALTED,
      .VBUS_TICK, .FF_POSTED, .SB_STILL_SINCE, .COAST_GOOD, .BUS_LOW_SINCE, .BUS_HALT, .OV_CLEAR_TICK, .OV_RETURN,
      .BUS_READ_TICK, .SB_GROUP, .SB_HS_TICK, .RT_BACK, .FR_HELD] [] [.copies, .clock]])
  | .busStale _ => some (Footprint.join [.events, .ports, .of [.FAULT, .BUS_STAT, .BUS_SEEN, .PWR_STATE, .FAULTN_LOW] [] [.copies, .clock]])
  | .busCoast _ _ => some (Footprint.join [.faults, .of [.ILK_WAIT_MAX, .HARD_COAST, .BUS_STAT, .BUS_SEEN, .BUS_COAST_CNT,
      .SB_STATE, .SB_STILL_SINCE, .COAST_GOOD, .SB_HS_TICK, .RT_BACK, .FR_HELD] [] [.copies, .clock]])
  | .coastEnd _ => some (Footprint.join [.events, .of [.FAULT, .ADAPT_FACT, .REG_STAT, .OBS_STAT, .VW_STATE, .BUS_STAT,
      .BUS_SEEN, .PWR_STATE, .DRIVE_STATE, .WINDOW_ONLY, .OBS_SAL_POSTED, .OBS_R_UPD, .R_PROBED, .R_FILTERED,
      .BST_RUN, .BST_EXEMPT, .POSTED, .NO_POST_RUN, .MODE_RESUME, .FAULTN_LOW] [] [.copies, .clock]])
  | .rtStop _ => some (Footprint.join [.events, .of [.HOME_STATE, .HOME_FAIL, .HOMED, .STOP_REQ, .STOP_REQ_RATE,
      .STOP_REQ_SCURVE, .HALTED, .HM_LIMITED, .HM_REQ, .BUS_HALT] [] [.copies, .clock]])
  | .hardOvervoltage _ _ => some (Footprint.join [.faults, .of [.ILK_WAIT_MAX, .HARD_OV, .HARD_OV_SEEN, .SB_STATE,
      .SB_SCOPE, .SB_CAUSE, .SB_CNT, .SB_STILL_SINCE, .SB_GROUP, .SB_HS_TICK, .X_HELD] [] [.copies, .clock]])
  | .ovStopBathEnd _ => some (Footprint.join [.events, .ports, .of [.ADAPT_FACT, .REG_STAT, .OBS_STAT, .VW_STATE, .SB_CMD,
      .SB_STATE, .SB_SCOPE, .PWR_STATE, .DRIVE_STATE, .WINDOW_ONLY, .OBS_SAL_POSTED, .OBS_R_UPD, .R_PROBED,
      .R_FILTERED, .SB_STILL_SINCE, .BST_RUN, .BST_EXEMPT, .OV_RETURN, .SB_GROUP, .POSTED, .NO_POST_RUN,
      .MODE_RESUME] [] [.copies, .clock]])
  | .dieOverTemperature _ _ => some (Footprint.join [.faults, .of [.ILK_WAIT_MAX, .DIE_OT, .DIE_OT_SEEN, .SB_STATE,
      .SB_STILL_SINCE, .DIE_HOT, .SB_HS_TICK, .X_HELD] [] [.copies, .clock]])
  | .hsHoldExpiry _ _ => some (Footprint.join [.ports, .of [.ILK_WAIT_MAX, .SB_STATE, .SB_STILL_SINCE, .SB_HS_TICK] [] [.copies, .clock]])
  | .sbStillExpiry _ _ => some (Footprint.join [.ports, .of [.ILK_WAIT_MAX, .SB_STATE, .SB_STILL_SINCE, .SB_HS_TICK] [] [.copies, .clock]])
  | .sbCmd _ => some (Footprint.join [.downs, .of [.ILK_WAIT_MAX, .SB_CMD, .SB_STATE, .SB_SCOPE, .SB_CAUSE, .SB_CNT,
      .SB_STILL_SINCE, .OV_RETURN, .SB_GROUP, .SB_HS_TICK] [] []])
  | .shutdown _ => some (Footprint.controls)
  | .switchOn _ => some (Footprint.controls)
  | .enableOperation _ => some (Footprint.controls)
  | .disableOperation _ => some (Footprint.controls)
  | .quickStop _ => some (Footprint.controls)
  | .disableVoltage _ => some (Footprint.controls)
  | .faultReset _ _ => some (Footprint.controls)
  | .encoderEdge _ _ _ _ => some (Footprint.join [.events, .of [.ENC_POS, .ACT_POS, .FB_STAT, .FB_FLAGS, .ILLEGAL_COUNT,
      .ILL_RUN, .NORM_RUN, .SPD_NET, .SPD_EDGES, .SPD_REF, .SPD_REF_OK, .SPD_DIR, .SPD_REV] [] [.copies, .motion,
      .counts, .clock]])
  | .hallEdge _ _ _ => some (Footprint.join [.events, .of [.ENC_POS, .ACT_POS, .FB_STAT, .FB_FLAGS, .ILLEGAL_COUNT,
      .HALL_SKIP, .HALL_THETA, .HALL_TICK, .HALL_SECT, .ILL_RUN, .NORM_RUN, .HALL_STATE, .SPD_NET, .SPD_EDGES,
      .SPD_REF, .SPD_REF_OK, .SPD_DIR, .SPD_REV] [] [.copies, .motion, .counts, .clock]])
  | .encFault _ _ => some (Footprint.join [.events, .emcys, .of [.HOMED, .FB_STAT, .FB_FLAGS, .FE, .FE_SINCE] [] [.copies, .clock]])
  | .encPosPreset _ _ => some (Footprint.join [.events, .of [.ENC_POS, .ACT_POS, .FB_STAT, .FB_FLAGS] [] []])
  | .speedWindowEnd _ => some (.of [.ENC_SPEED, .FB_STAT, .SPD_NET, .SPD_EDGES, .SPD_DISCARD, .SPD_WEND, .SPD_REV,
      .SPD_EMPTY] [] [.copies, .clock])
  | .stillDetected _ _ => some (.of [.ENC_SPEED, .FB_STAT] [] [.copies, .clock])
  | .encAligned _ _ => some (Footprint.join [.events, .of [.ACT_POS, .FB_STAT, .ENC_OFS] [] [.copies, .clock]])
  | .followError _ _ => some (Footprint.join [.faults, .of [.FB_FLAGS, .FE_SINCE] [] [.copies, .clock]])
  | .encFaultClr _ => some (Footprint.join [.emcys, .of [.FB_STAT, .ILL_RUN] [] []])
  | .encAlign _ => some (.of [.FB_STAT] [] [])
  | .capArm _ => some (.of [.FB_STAT] [] [])
  | .csShoot _ => some (.of [.CS_PEND, .CS_REJ, .CS_TICK] [] [])
  | .csCancel => some (.of [.CS_PEND] [] [])
  | .contactSheetFire => some (Footprint.join [.events, .of [.CS_PEND, .CS_LOST, .CS_DONE, .CS_COUNT, .CAP_SEQ] [] [.copies, .clock]])
  | .conversionResult _ _ _ _ _ _ => some (Footprint.join [.events, .of [.MON_SKIP, .SETTLE_CNT, .CH_VAL, .STALE_DROP,
      .SMP_CODE, .SMP_FRESH, .SMP_OVR, .SMP_SETTLE, .SMP_DONE, .CONV_BUSY, .CONV_NOW, .CONV_REDO, .INJ_N, .INJ_REQ,
      .CONV_WIN, .PORT_SETTLE, .AUX_SETTLE, .AUX_HIST, .AUX_OVR, .AUX_N, .MON_WAIT] [.Q8_DECIM] [.copies, .clock]])
  | .injectedConversionStart _ _ => some (.of [.ABORT_CNT, .CONV_BUSY, .CONV_NOW, .CONV_REDO, .CONV_REDO_CH, .SCAN_N,
      .SCAN_Q] [] [.copies, .clock])
  | .xportMonitorSample _ _ => some (.of [.MON_SKIP, .CONV_BUSY, .CONV_NOW, .MON_WAIT] [] [.copies, .clock])
  | .converterCheck _ _ _ _ _ _ => some (Footprint.join [.events, .of [.STRIKES, .CHK_FAIL_SEEN, .CHK_LAST_DEV, .CHK_SKIP,
      .PAIR_SUSPECT, .CHK_REF_FAIL, .CHK_PHASE, .CHK_PASSED, .CHK_CROSS, .CHK_REFRUN, .CHK_PAIR_CAL, .CONV_RET_DUE,
      .CONV_PASSES, .CAL_WAIT] [.CHECK_TOL, .AADC_CHECK_TOL] [.copies, .clock]])
  | .converterRetirement _ _ _ => some (Footprint.join [.faults, .audits, .of [.REG_STAT, .CONV_STATE, .CONV_EPOCH,
      .STRIKES, .RETIRED_SEEN, .INJ_DROP, .CADC_RET, .AADC_RET, .RETIRE_CNT, .ABSORBED, .PORT_CUT, .AUX_CUT,
      .CONV_BUSY, .INJ_N, .INJ_REQ, .AUX_SETTLE, .AUX_HIST, .AUX_OVR, .AUX_N, .CONV_RET_DUE, .CONV_RET_N,
      .CONV_PASSES, .CONV_CAL, .CAL_WAIT, .CONV_EPOCH_TICK, .CONV_EPOCH_MOVED, .CONV_EPOCH_DUE] [] [.copies,
      .clock]])
  | .selfCalibrationDone _ _ _ _ _ => some (Footprint.join [.events, .of [.REG_STAT, .CONV_STATE, .CAL_OFS, .CAL_GAIN,
      .CAL_FAIL_SEEN, .PORT_CUT, .AUX_CUT, .PORT_SETTLE, .AUX_SETTLE, .AUX_HIST, .AUX_OVR, .AUX_N, .CHK_CODE,
      .CHK_PAIR_CAL, .CONV_RET_DUE, .CONV_CALFAIL, .CONV_CAL, .CAL_WAIT] [] [.copies, .clock]])
  | .converterReturn _ _ => some (Footprint.join [.events, .emcys, .of [.REG_STAT, .CONV_STATE, .CONV_EPOCH, .CADC_RET,
      .AADC_RET, .RED_LOST, .PORT_CUT, .AUX_CUT, .PORT_SETTLE, .AUX_SETTLE, .AUX_HIST, .AUX_OVR, .AUX_N, .CONV_PASSES,
      .CONV_EPOCH_TICK, .CONV_EPOCH_MOVED, .CONV_EPOCH_DUE] [] [.copies, .clock]])
  | .periodicCalibrationDue _ _ => some (.of [.REG_STAT, .CONV_STATE, .CAL_DEFER, .PORT_CUT, .AUX_CUT, .CONV_BUSY,
      .PORT_SETTLE, .AUX_SETTLE, .AUX_HIST, .AUX_OVR, .AUX_N, .CONV_CAL, .CAL_WAIT, .CAL_TICK, .CAL_ROTATED] [.CAL_INTERVAL] [.copies, .clock])
  | .calibrationDeferredStart _ _ => some (.of [.REG_STAT, .CONV_STATE, .PORT_CUT, .AUX_CUT, .CONV_BUSY, .PORT_SETTLE,
      .AUX_SETTLE, .AUX_HIST, .AUX_OVR, .AUX_N, .CONV_CAL, .CAL_WAIT] [] [.copies, .clock])
  | .calStart _ => some (.of [.REG_STAT, .CONV_STATE, .CAL_REJ, .PORT_CUT, .AUX_CUT, .CONV_BUSY, .PORT_SETTLE, .AUX_SETTLE,
      .AUX_HIST, .AUX_OVR, .AUX_N, .CONV_CAL, .CAL_WAIT] [] [])
  | .syscalZero _ => some (Footprint.join [.events, .audits, .of [.SYSCAL_REJ, .SYSCAL_WHY, .LAST_REFUSAL, .REFUSALS,
      .ANS_ABORT, .SEQ_SERVED, .SC_STEP, .SC_RUN_CH] [] [.store]])
  | .syscalRef _ => some (Footprint.join [.events, .audits, .of [.SYSCAL_REJ, .SYSCAL_WHY, .LAST_REFUSAL, .REFUSALS,
      .ANS_ABORT, .SEQ_SERVED, .SC_STEP, .SC_RUN_CH] [] [.store]])
  | .syscalAverageDone _ _ _ => some (Footprint.join [.events, .audits, .of [.SYS_OFS_A, .SYS_GAIN_A, .SYS_OFS_B,
      .SYS_GAIN_B, .AIN_SYS_OFS, .AIN_SYS_GAIN, .SYSCAL_REJ, .SYSCAL_WHY, .SC_STEP, .SC_ZERO_OK, .SC_ZERO_CH,
      .SC_ZERO] [] [.copies, .clock]])
  | .thermalScanDue _ _ => some (Footprint.join [.faults, .of [.INJ_DROP, .TEMP, .RAW, .SNS_STATE, .SCAN_RATE, .LAST_CAUSE,
      .TH_TAB_REJ, .FAIL_CNT, .THR_FROZEN, .THR_HOLDING, .INJ_N, .INJ_REQ, .SCAN_N, .SCAN_Q, .T_REF, .T_ACC,
      .T_REF_TICK, .SNS_FAILS, .SNS_PASSES, .SNS_SUB, .SNS_SINGLE, .SNS_MISS, .SNS_MISSED, .SNS_SCAN_TICK, .SNS_PEND,
      .SNS_FREEZES, .THR_HFLOOR, .THR_HOLD_TICK, .TH_DEV_R, .TH_DEV_T, .TH_TAB_NEW] [.SNS_EN, .TH_TABLE, .T_LIM,
      .THM_AXES, .NB0, .NB1, .NB2, .NB_LO0, .NB_LO1, .NB_LO2, .NB_HI0, .NB_HI1, .NB_HI2, .RATE_MAX, .TD_ETA, .TH_BETA,
      .TH_R25, .TH_RPU, .NEAR_BAND, .CLOSE_BAND, .THR_INTERVAL, .THR_FLOOR, .THR_HOLD] [.copies, .clock]])
  | .scanResult _ _ _ _ _ _ => some (Footprint.join [.faults, .of [.TEMP, .RAW, .SNS_STATE, .SCAN_RATE, .LAST_CAUSE,
      .FAIL_CNT, .TD_RS, .THR_FROZEN, .THR_HOLDING, .T_REF, .T_ACC, .T_REF_TICK, .SNS_FAILS, .SNS_PASSES, .SNS_SUB,
      .SNS_SINGLE, .SNS_MISS, .SNS_MISSED, .SNS_PEND, .SNS_FREEZES, .THR_HFLOOR, .THR_HOLD_TICK] [] [.copies,
      .clock]])
  | .thmNoScan _ _ => some (Footprint.join [.events, .of [.THR_FROZEN, .THR_HOLDING, .SNS_MISSED, .SNS_FREEZES,
      .THR_HFLOOR] [] [.copies, .clock]])
  | .thmSuspect _ _ => some (Footprint.join [.events, .emcys, .of [.TEMP, .SNS_STATE, .SCAN_RATE, .RED_LOST, .SNS_SUB,
      .SNS_SINGLE] [] [.copies, .clock]])
  | .thmFailed _ _ => some (Footprint.join [.faults, .audits, .of [.TEMP, .SNS_STATE, .SCAN_RATE, .FAIL_SEEN, .THR_FROZEN,
      .THR_HOLDING, .ABSORBED, .SNS_PASSES, .QUAL_TICK, .SNS_SUB, .SNS_SINGLE, .SNS_FREEZES, .THR_HFLOOR] [] [.copies, .clock]])
  | .thmSubstitute _ _ => some (Footprint.join [.events, .emcys, .of [.TEMP, .SNS_STATE, .SCAN_RATE, .THR_FROZEN,
      .THR_HOLDING, .RED_LOST, .SNS_SUB, .SNS_SINGLE, .SNS_FREEZES, .THR_HFLOOR, .THR_HOLD_TICK] [] [.copies,
      .clock]])
  | .thmRecovered _ _ => some (Footprint.join [.events, .emcys, .of [.TEMP, .SNS_STATE, .SCAN_RATE, .THR_FROZEN,
      .THR_HOLDING, .RED_LOST, .T_ACC, .SNS_FAILS, .SNS_SUB, .SNS_SINGLE, .SNS_FREEZES, .THR_HFLOOR, .THR_HOLD_TICK] [] [.copies, .clock]])
  | .snsEnWrite _ _ => some (Footprint.join [.events, .emcys, .of [.SNS_EN, .TEMP, .RAW, .SNS_STATE, .THR_FROZEN,
      .THR_HOLDING, .RED_LOST, .T_REF, .T_ACC, .SNS_FAILS, .SNS_PASSES, .SNS_SUB, .SNS_SINGLE, .SNS_MISS, .SNS_PEND,
      .SNS_FREEZES, .THR_HFLOOR, .THR_HOLD_TICK] [] []])
  | .thrHoldExpiry _ _ => some (.of [.THR_HOLDING, .THR_HFLOOR] [] [.copies, .clock])
  | .budgetEvaluation _ => some (Footprint.join [.events, .of [.GD_EST, .BUDGET_ACT, .BUDGET_OVER, .PERIOD_LONG, .BUDGET_N,
      .BUDGET_STK] [.GD_BUDGET, .QG_NC] [.copies, .clock]])
  | .testStripStart _ => some (Footprint.join [.events, .emcys, .of [.SPARE_MAP, .RED_LOST, .STRIP_SLOT, .STRIP_ACTIVE,
      .ENG_STATE, .STRIP_ENG, .STRIP_CYCLES, .STRIP_VOTE, .STRIP_NEXT, .STRIP_LAST] [] [.copies, .clock]])
  | .stripComplete _ _ => some (Footprint.join [.events, .emcys, .of [.SPARE_MAP, .RED_LOST, .STRIP_RUN, .STRIP_MISMATCH,
      .STRIP_ACTIVE, .ENG_STATE, .ENG_BIST, .STRIP_ENG, .STRIP_CYCLES, .STRIP_VOTE, .STRIP_BAD_CYCLE] [] [.copies,
      .clock]])
  | .voteReplayDone _ _ => some (Footprint.join [.events, .audits, .emcys, .of [.SPARE_MAP, .RED_LOST, .ABSORBED,
      .VOTE_SPLIT, .ENG_DEAD, .STRIP_ACTIVE, .DEAD_MAP, .VOTE_LOST_MAP, .ENG_STATE, .ENG_LOST, .ENG_BIST, .STRIP_ENG,
      .STRIP_CYCLES, .STRIP_VOTE, .MIG_WANT, .MIG_TARGET, .MIG_KILLS] [] [.copies, .clock]])
  | .engineBistDone _ _ _ => some (Footprint.join [.events, .audits, .emcys, .of [.SPARE_MAP, .RED_LOST, .ABSORBED,
      .ENG_DEAD, .STRIP_ACTIVE, .DEAD_MAP, .VOTE_LOST_MAP, .ENG_STATE, .ENG_LOST, .ENG_BIST, .STRIP_ENG,
      .STRIP_CYCLES, .STRIP_VOTE, .MIG_WANT, .MIG_TARGET, .MIG_KILLS] [] [.copies, .clock]])
  | .noPostPortsOff _ _ => some (Footprint.join [.downs, .of [.FAULT, .FAULTN_LOW] [] [.copies, .clock]])
  | .migrate _ => some (.of [.MIG_REJ, .ANS_ABORT, .MIG_WANT, .MIG_TARGET, .MIG_KILLS, .SEQ_SERVED] [] [])
  | .migrationCutover _ _ => some (Footprint.join [.probes, .audits, .emcys, .of [.SLOT_ENGINE, .SLOT_EPOCH, .SPARE_MAP,
      .HOME_STATE, .HOME_FAIL, .HOMED, .RED_LOST, .ABSORBED, .MIGRATIONS, .COLD_TAKE, .ENG_DEAD, .STRIP_ACTIVE,
      .DEAD_MAP, .VOTE_LOST_MAP, .ENG_STATE, .STOP_REQ, .STOP_REQ_RATE, .STOP_REQ_SCURVE, .HM_LIMITED, .HM_REQ, .W_X,
      .W_IPRED, .W_REF, .WINDOW_ONLY, .ENG_LOST, .ENG_BIST, .STRIP_ENG, .STRIP_CYCLES, .STRIP_VOTE, .MIG_WANT,
      .MIG_TARGET, .MIG_COLD, .MIG_KILLS, .EPOCH_TICK, .EPOCH_MOVED, .MISS_RUN, .MISS_WINDOW, .CYC_END, .SLACK_GOOD,
      .MODE_RESUME] [] [.copies, .clock]])
  | .coldTakeover _ => some (.of [.MIG_COLD] [] [])
  | .domainRestart _ _ => some (Footprint.join [.events, .audits, .emcys, .of [.TAGS_INFLIGHT, .TAGS_QUAR, .SPARE_MAP,
      .CONV_STATE, .RED_LOST, .DOM_RESTARTS, .STRIP_ACTIVE, .DOM_ON, .ANS_ABORT, .ENG_STATE, .STRIP_ENG,
      .STRIP_CYCLES, .STRIP_VOTE, .SEQ_SERVED, .DOM_RESTARTING, .DOM_RESTART_WAIT, .TAG_BUSY, .TAG_QUARANTINE,
      .TAG_QUEUE, .CONV_BUSY, .CONV_CAL] [] []])
  | .domainRestartDone _ _ => some (Footprint.join [.events, .emcys, .of [.TAGS_INFLIGHT, .TAGS_QUAR, .QRD, .SPARE_MAP,
      .REG_STAT, .CONV_STATE, .CONV_EPOCH, .RED_LOST, .DOM_ON, .ENG_STATE, .ENG_BIST, .DOM_EPOCH, .DOM_EPOCH_TICK,
      .DOM_RESTARTING, .TAG_QUARANTINE, .PORT_CUT, .AUX_CUT, .CONV_BUSY, .CONV_REDO, .INJ_N, .PORT_SETTLE,
      .AUX_SETTLE, .AUX_HIST, .AUX_OVR, .AUX_N, .CONV_EPOCH_TICK, .CONV_EPOCH_MOVED, .CONV_EPOCH_DUE] [] [.copies,
      .clock]])
  | .seqRestart _ _ => some (Footprint.join [.sessions, .of [.SEQ_WD_CNT, .SEQ_NOPATCH, .PATCH_LEVEL, .PATCH_STATE,
      .ANS_ABORT, .SEQ_DOWN, .SEQ_CAUSE, .SEQ_WAIT, .SEQ_WAIT_CAUSE, .SEQ_SERVED, .SEQ_WD_RECENT, .XO_BUSY,
      .PATCH_RUN] [] [.partials]])
  | .sequencerWatchdog _ => some (Footprint.join [.sessions, .of [.SEQ_WD_CNT, .SEQ_NOPATCH, .PATCH_LEVEL, .PATCH_STATE,
      .SEQ_DOWN, .SEQ_CAUSE, .SEQ_WAIT, .SEQ_WAIT_CAUSE, .SEQ_WD_RECENT, .XO_BUSY, .PATCH_RUN] [] [.copies,
      .partials, .clock]])
  | .sequencerRestartDone _ _ => some (Footprint.join [.fields, .of [] [.QBASE, .QSIZE_LOG2, .PRODUCER, .CHATTER_MAX,
      .HOME_DIST_MAX, .HS_CURRENT, .HS_BACKOFF, .HS_DIR, .HOME_MOVE_BACK, .HOME_IDX_MAX, .TIA_RANGE, .SENSE_RATIO,
      .HARM3_AMP, .HARM3_PH, .HARM5_AMP, .HARM5_PH, .ENC_RATIO, .RING_EXPECT, .AX_DN, .AX_UP] [.copies, .writeShadow,
      .memory, .motion, .partials, .responses, .sent, .audit, .clock]])
  | .canBusOff _ _ => some (Footprint.join [.events, .audits, .emcys, .of [.RED_LOST, .ABSORBED, .CAN_LOSS, .CAN_LOST,
      .CAN_OFF, .CAN_GOOD_TICK, .COMM_DUE] [] [.copies, .clock]])
  | .canSilenceTimeout _ _ => some (Footprint.join [.events, .audits, .emcys, .of [.RED_LOST, .ABSORBED, .CAN_LOSS,
      .CAN_LOST, .CAN_GOOD_TICK, .COMM_DUE] [] [.copies, .clock]])
  | .canBusRestored _ _ => some (Footprint.join [.events, .emcys, .of [.RED_LOST, .CAN_LOST] [] [.copies, .clock]])
  | .linkEnumeration => some (.of [.LINK_STATE, .RING_POS, .RING_SIZE, .DEV_STATE, .RING_ID, .ENUM_TICK, .ENUM_OUT] [.RING_EXPECT, .AX_DN, .AX_UP] [.sent])
  | .linkRestart => some (.of [.LINK_STATE, .RING_POS, .RING_SIZE, .DEV_STATE, .RING_ID, .ENUM_TICK, .ENUM_OUT] [.RING_EXPECT, .AX_DN, .AX_UP] [.sent])
  | .enumerationFrame _ => some (Footprint.join [.events, .of [.ACC_MEMB, .LINK_STATE, .RING_POS, .RING_SIZE, .OWN_EPOCH,
      .LINK_FLAGS, .FRAME_BYTES, .DEV_STATE, .DEV_EPOCH, .LOCKED, .RING_ID, .ENUM_OUT, .ALIGN_RUN, .DEV_MISS,
      .RING_DN, .RING_UP, .OFS_SET, .DEV_FRESH, .DEV_FENCED] [.LINK_EN, .RING_EXPECT, .AX_DN, .AX_UP] [.sent]])
  | .linkCycleStart => some (.of [.ACC_PEND, .ACC_GO_LOST, .LINK_STATE, .LANE_OK, .GO_SEEN, .GO_T, .LOCKED, .CYC_NO,
      .CYC_TICK, .RGO_PEND, .RGO_T, .RGO_SEEN, .GO_CARRY, .GO_CARRY_T, .GO_LEFT, .DEV_MISS, .M_SEG_SEND, .MSG_GRANT,
      .UP_WORD, .DEV_FRESH] [.LINK_EN, .FENCE_ACTION, .ACC_RING] [.copies, .sent, .clock])
  | .cycleFrame _ _ _ => some (Footprint.join [.faults, .of [.QWR_REJ, .LAST_REJ_CAUSE, .LAST_REJ_PTR, .SEG_REJ, .ACC_PEND,
      .ACC_GO_LOST, .TARGET_CLAMPED, .CS_VCLAMP, .CSV_ACC_CLAMP, .CS_MISS, .ILK_WAIT_MAX, .SB_STATE, .SB_SCOPE,
      .SB_CAUSE, .SB_CNT, .CS_PEND, .CS_REJ, .ECC_UNCORR, .LINK_STATE, .RING_SIZE, .OWN_EPOCH, .TIME_ERR, .FREQ_TRIM,
      .RING_OFS, .LINK_FLAGS, .CRC_ERR, .FENCE_CNT, .TAIL_P, .TAIL_V, .GO_T, .CH_TARGET, .CH_PREV, .CH_PENDING,
      .CH_FRESH, .CH_MISSED, .CH_ADJUST, .SB_STILL_SINCE, .SB_GROUP, .SB_HS_TICK, .CS_TICK, .LOCKED, .RX_CYC,
      .LANE_GOOD, .ALIGN_RUN, .RGO_SEEN, .RS_SEEN, .SHEET_ERR, .RC_PEND, .RC_CTRL, .RC_TARGET, .RC_HAS_TARGET,
      .RING_RESET, .OFS_SET] [] [.copies, .clock]])
  | .cycleFrameReturn _ _ _ _ _ => some (Footprint.join [.events, .audits, .emcys, .of [.FAULT, .RED_LOST, .ABSORBED,
      .STALE_DROP, .LINK_STATE, .OWN_EPOCH, .RING_OFS, .CRC_ERR, .DEV_STATE, .DEV_LANES, .FAULTN_LOW, .MGR_FAULTN,
      .LOCKED, .LANE_GOOD, .LANE_WRAP, .RGO_PEND, .RGO_T, .DEV_MISS, .DEV_UP, .DEV_HOLD, .M_SW, .M_MODE_DISP,
      .M_RESERVE, .M_POS_ACT, .M_VEL_ACT, .OFS_SET, .DEV_FRESH, .DEV_FENCED] [] []])
  | .roundTripProbe _ _ _ => some (.of [.CABLE] [] [])
  | .workerLocked => some (.of [.LINK_STATE, .LOCKED] [] [])
  | .linkLaneDown _ _ => some (Footprint.join [.events, .audits, .emcys, .of [.ABSORBED, .LANE_OK, .LINK_FLAGS,
      .LANE_GOOD] [] [.copies, .clock]])
  | .linkLaneUp _ _ => some (Footprint.join [.events, .of [.LANE_OK] [] [.copies, .clock]])
  | .workerSelfFence _ => some (Footprint.join [.faults, .of [.ILK_WAIT_MAX, .SB_STATE, .SB_SCOPE, .SB_CAUSE, .SB_CNT,
      .LINK_STATE, .LINK_FLAGS, .FENCE_CNT, .SB_STILL_SINCE, .SB_GROUP, .SB_HS_TICK, .LOCKED, .RC_PEND, .RING_RESET,
      .OFS_SET] [] [.copies, .clock]])
  | .managerFence _ _ => some (Footprint.join [.events, .emcys, .of [.FAULT, .LINK_FLAGS, .FENCE_CNT, .DEV_STATE,
      .DEV_EPOCH, .FAULTN_LOW, .MGR_FAULTN, .DEV_EPOCH_TICK, .DEV_EPOCH_DUE, .DEV_HOLD, .M_SW, .M_FR, .DEV_FENCED] [] [.copies, .clock]])
  | .workerRejoin _ _ _ _ => some (Footprint.join [.events, .of [.FAULT, .LINK_STATE, .OWN_EPOCH, .RING_OFS, .DEV_STATE,
      .FAULTN_LOW, .MGR_FAULTN, .LOCKED, .DEV_MISS, .DEV_HOLD, .OFS_SET, .DEV_FRESH, .DEV_FENCED] [] [.copies,
      .clock]])
  | .ringSheet _ => some (.of [.CS_PEND, .CS_REJ, .ANS_ABORT, .SEQ_SERVED, .CS_TICK, .RS_PEND, .RS_T, .RS_MISSING, .RS_SEEN,
      .SHEET_ERR] [] [])
  | .ringSheetDone _ _ => some (Footprint.join [.events, .of [.LINK_FLAGS, .RS_PEND, .RS_MISSING] [] [.copies, .clock]])
  | .tunnelTransfer _ _ _ _ _ => some (.of [.ANS_ABORT, .SEQ_SERVED, .TUN_BUSY, .TUN_TICK, .TUN_MSG] [] [.copies, .clock])
  | .tunnelTimeout _ => some (.of [.ANS_ABORT, .TUN_BUSY] [] [.copies, .clock])
  | .nmtStart _ _ _ => some (.of [.NMT_STATE, .RED_DUP, .RED_DIFF, .CAN_RX_TICK, .CAN_GOOD_TICK, .RPDO_WAIT, .TPDO_SENT,
      .TPDO_CNT, .TPDO_STARTED, .COMM_DUE] [] [.copies, .clock])
  | .nmtStop _ _ _ => some (.of [.NMT_STATE, .RED_DUP, .RED_DIFF, .CAN_RX_TICK, .CAN_GOOD_TICK, .RPDO_WAIT, .TPDO_SENT,
      .TPDO_CNT, .TPDO_STARTED, .COMM_DUE] [] [.copies, .clock])
  | .nmtEnterPreOperational _ _ _ => some (.of [.NMT_STATE, .RED_DUP, .RED_DIFF, .CAN_RX_TICK, .CAN_GOOD_TICK, .RPDO_WAIT,
      .TPDO_SENT, .TPDO_CNT, .TPDO_STARTED, .COMM_DUE] [] [.copies, .clock])
  | .nmtResetCommunication _ _ _ => some (Footprint.join [.fields, .of [] [.QBASE, .QSIZE_LOG2, .PRODUCER, .CHATTER_MAX,
      .HOME_DIST_MAX, .HS_CURRENT, .HS_BACKOFF, .HS_DIR, .HOME_MOVE_BACK, .HOME_IDX_MAX, .TIA_RANGE, .SENSE_RATIO,
      .HARM3_AMP, .HARM3_PH, .HARM5_AMP, .HARM5_PH, .ENC_RATIO, .RING_EXPECT, .AX_DN, .AX_UP, .CAN_MODE, .ARB_RATE,
      .DATA_RATE, .CAN_RED] [.copies, .writeShadow, .memory, .motion, .partials, .responses, .sent, .audit,
      .clock]])
  | .nmtResetNode _ _ _ => some (Footprint.join [.downs, .of [.RED_DUP, .RED_DIFF, .CAN_RX_TICK, .CAN_GOOD_TICK,
      .RESET_NODE] [] [.copies, .clock]])
  | .resetNodeReload _ => some (Footprint.join [.fields, .of [] [.QBASE, .QSIZE_LOG2, .PRODUCER, .CHATTER_MAX,
      .HOME_DIST_MAX, .HS_CURRENT, .HS_BACKOFF, .HS_DIR, .HOME_MOVE_BACK, .HOME_IDX_MAX, .TIA_RANGE, .SENSE_RATIO,
      .HARM3_AMP, .HARM3_PH, .HARM5_AMP, .HARM5_PH, .ENC_RATIO, .RING_EXPECT, .AX_DN, .AX_UP, .CAN_MODE, .ARB_RATE,
      .DATA_RATE, .CAN_RED] [.copies, .writeShadow, .memory, .motion, .partials, .responses, .sent, .audit,
      .clock]])
  | .lssSwitchState _ _ _ _ => some (Footprint.join [.fields, .of [] [.QBASE, .QSIZE_LOG2, .PRODUCER, .CHATTER_MAX,
      .HOME_DIST_MAX, .HS_CURRENT, .HS_BACKOFF, .HS_DIR, .HOME_MOVE_BACK, .HOME_IDX_MAX, .TIA_RANGE, .SENSE_RATIO,
      .HARM3_AMP, .HARM3_PH, .HARM5_AMP, .HARM5_PH, .ENC_RATIO, .RING_EXPECT, .AX_DN, .AX_UP, .CAN_MODE, .ARB_RATE,
      .DATA_RATE, .CAN_RED] [.copies, .writeShadow, .memory, .motion, .partials, .responses, .sent, .audit,
      .clock]])
  | .lssConfigureNodeId _ _ _ => some (.of [.NODE_ID_NEXT, .RED_DUP, .RED_DIFF, .CAN_RX_TICK, .CAN_GOOD_TICK] [] [.copies,
      .sent, .clock])
  | .lssConfigureBitTiming _ _ _ _ => some (.of [.RED_DUP, .RED_DIFF, .CAN_RX_TICK, .CAN_GOOD_TICK, .LSS_BIT] [] [.copies,
      .sent, .clock])
  | .lssActivateBitTiming _ _ _ => some (.of [.ARB_RATE, .RED_DUP, .RED_DIFF, .CAN_RX_TICK, .CAN_GOOD_TICK] [.ARB_RATE] [.copies, .clock])
  | .lssStoreConfiguration _ _ => some (.of [.NODE_ID_LSS, .RED_DUP, .RED_DIFF, .CAN_RX_TICK, .CAN_GOOD_TICK] [] [.copies,
      .sent, .clock])
  | .lssInquire _ _ _ => some (.of [.RED_DUP, .RED_DIFF, .CAN_RX_TICK, .CAN_GOOD_TICK] [] [.copies, .sent, .clock])
  | .lssIdentify _ _ _ => some (.of [.RED_DUP, .RED_DIFF, .CAN_RX_TICK, .CAN_GOOD_TICK] [] [.copies, .sent, .clock])
  | .rpdoReceived _ _ _ _ => some (Footprint.join [.fields, .of [] [.QBASE, .QSIZE_LOG2, .PRODUCER, .CHATTER_MAX,
      .HOME_DIST_MAX, .HS_CURRENT, .HS_BACKOFF, .HS_DIR, .HOME_MOVE_BACK, .HOME_IDX_MAX, .TIA_RANGE, .SENSE_RATIO,
      .HARM3_AMP, .HARM3_PH, .HARM5_AMP, .HARM5_PH, .ENC_RATIO, .RING_EXPECT, .AX_DN, .AX_UP] [.copies, .writeShadow,
      .memory, .motion, .partials, .responses, .sent, .audit, .clock]])
  | .timeReceived _ _ _ => some (.of [.RED_DUP, .RED_DIFF, .CAN_RX_TICK, .CAN_GOOD_TICK, .TIME_DAYS, .TIME_MS, .TIME_TICK] [] [.copies, .clock])
  | .tpdoEventTimer _ _ => some (.of [.TPDO_LAST, .TPDO_CHG, .TPDO_TICK, .TPDO_SENT, .TPDO_CNT] [] [.copies, .sent,
      .clock])
  | .tpdoInhibitExpiry _ _ => some (.of [.TPDO_LAST, .TPDO_CHG, .TPDO_TICK, .TPDO_SENT, .TPDO_CNT] [] [.copies, .sent,
      .clock])
  | .heartbeatProduce _ => some (.of [.HBP_TICK] [] [.copies, .sent, .clock])
  | .heartbeatConsumed _ _ _ _ => some (Footprint.join [.emcys, .of [.CAN_RX_TICK, .CAN_GOOD_TICK, .COMM_ERR, .HBC_ON,
      .HBC_TICK, .HBC_LOST] [] [.copies, .clock]])
  | .communicationLoss _ => some (Footprint.join [.faults, .of [.NMT_STATE, .COMM_ERR, .RPDO_WAIT, .TPDO_SENT, .TPDO_CNT,
      .TPDO_STARTED, .HBC_LOST, .COMM_DUE] [] [.copies, .clock]])
  | .emcyInhibitExpiry _ => some (.of [.EMCY_TICK, .EMCY_SENT] [] [.copies, .sent, .clock])
  | .storeParameters _ _ => some (.of [.ANS_ABORT, .SEQ_SERVED] [] [.store])
  | .restoreDefaultParameters _ _ => some (.of [.ANS_ABORT, .SEQ_SERVED] [] [.store])
  | .usbFrameGap _ => some (.of [] [] [.copies, .partials, .clock])
  | .usbDtrFall _ => some (Footprint.join [.sessions, .of [] [] [.copies, .partials, .clock]])
  | .identify _ _ _ => some (Footprint.join [.requests, .of [] [] [.copies, .clock]])
  | .objRead _ _ _ => some (Footprint.join [.requests, .of [.TAGS_INFLIGHT, .TAGS_QUAR, .TAG_WAIT, .ANS_ABORT, .TAG_BUSY,
      .TAG_HELPER, .TAG_SINCE, .TAG_EPOCH, .TAG_QUEUE, .TUN_BUSY, .TUN_TICK, .TUN_MSG, .REG_WIN_ADDR, .REG_WIN_STAT] [] [.copies, .readShadow, .clock]])
  | .regRead _ _ _ => some (Footprint.join [.requests, .of [] [] [.copies, .readShadow, .clock]])
  | .regWrite _ _ _ => some (Footprint.join [.fields, .of [] [.QBASE, .QSIZE_LOG2, .PRODUCER, .TIA_RANGE, .SENSE_RATIO,
      .HARM3_AMP, .HARM3_PH, .HARM5_AMP, .HARM5_PH, .ENC_RATIO, .RING_EXPECT, .AX_DN, .AX_UP] [.copies, .writeShadow,
      .memory, .motion, .partials, .responses, .sent, .audit, .store, .clock]])
  | .eventPeek _ _ _ => some (Footprint.join [.requests, .of [] [] [.copies, .clock]])
  | .health _ _ _ => some (Footprint.join [.requests, .of [] [] [.copies, .clock]])
  | .mbxInCommit _ => some (Footprint.join [.events, .of [.QRD, .Q15_DATA, .OUT_READY, .IN_FULL, .IN_DROP, .XO_BUSY,
      .Q15_TICK] [] [.partials, .responses, .sent]])
  | .mbxOutRead => some (Footprint.join [.events, .of [.QRD, .Q15_DATA, .OUT_READY, .IN_FULL, .ANS_ABORT, .Q15_TICK] [] [.responses, .sent]])
  | .spiOutTimeout _ => some (Footprint.join [.events, .of [.QRD, .Q15_DATA, .OUT_READY, .IN_FULL, .OUT_TIMEOUT,
      .Q15_TICK] [] [.copies, .responses, .sent, .clock]])
  | .xomorFrameWrite _ => some (Footprint.join [.events, .of [.QRD, .Q15_DATA, .OUT_READY, .IN_FULL, .IN_DROP, .ANS_ABORT,
      .SEQ_SERVED, .XO_BUSY, .Q15_TICK] [] [.partials, .responses, .sent]])
  | .xomorFrameRead => some (.of [.ANS_ABORT, .SEQ_SERVED] [] [.responses])
  | .sessHello _ _ _ => some (Footprint.join [.requests, .of [.DRAWS] [] [.copies, .clock]])
  | .sessProve _ _ _ => some (Footprint.join [.requests, .of [.SESS_ID, .SESS_VALID_TO, .SESS_TOKEN] [] [.copies,
      .clock]])
  | .sessClose _ _ _ => some (Footprint.join [.requests, .of [] [] [.copies, .clock]])
  | .sessCommit _ _ _ => some (Footprint.join [.fields, .of [] [.TIA_RANGE, .SENSE_RATIO, .HARM3_AMP, .HARM3_PH,
      .HARM5_AMP, .HARM5_PH, .ENC_RATIO] [.copies, .memory, .motion, .responses, .sent, .audit, .store, .clock]])
  | .sessDiscard _ _ _ => some (Footprint.join [.requests, .of [] [] [.copies, .clock]])
  | .sessionIdleExpiry _ => some (Footprint.join [.sessions, .of [] [] [.copies, .clock]])
  | .sessProveTimeout _ => some (.of [] [] [.copies, .store, .clock])
  | .claim _ _ _ => some (Footprint.join [.requests, .of [.CLAIMED, .PROF_VALID, .CLAIM_CNT, .REV_SEQ, .REVOKE_BELOW] [] [.copies, .clock]])
  | .revoke _ _ _ => some (Footprint.join [.requests, .of [.REV_SEQ, .REVOKE_BELOW] [] [.copies, .clock]])
  | .identity _ _ _ => some (Footprint.join [.requests, .of [] [] [.copies, .clock]])
  | .profBegin _ _ _ => some (Footprint.join [.requests, .of [] [] [.copies, .clock]])
  | .profData _ _ _ => some (Footprint.join [.requests, .of [] [] [.copies, .clock]])
  | .profEnd _ _ _ => some (Footprint.join [.requests, .of [.PROF_VALID] [] [.copies, .clock]])
  | .profSelect _ _ => some (Footprint.join [.fields, .of [] [.QBASE, .QSIZE_LOG2, .PRODUCER, .CHATTER_MAX,
      .HOME_DIST_MAX, .HS_CURRENT, .HS_BACKOFF, .HS_DIR, .HOME_MOVE_BACK, .HOME_IDX_MAX, .TIA_RANGE, .SENSE_RATIO,
      .HARM3_AMP, .HARM3_PH, .HARM5_AMP, .HARM5_PH, .ENC_RATIO, .RING_EXPECT, .AX_DN, .AX_UP] [.writeShadow, .memory,
      .motion, .partials, .responses, .sent, .audit, .store]])
  | .patchBegin _ _ _ => some (Footprint.join [.requests, .of [.PATCH_LEVEL, .PATCH_STATE, .PATCH_OK] [] [.copies,
      .clock]])
  | .patchData _ _ _ => some (Footprint.join [.requests, .of [] [] [.copies, .clock]])
  | .patchEnd _ _ _ => some (Footprint.join [.requests, .of [.PATCH_LEVEL, .PATCH_STATE, .PATCH_OK] [] [.copies,
      .clock]])
  | .patchActivate _ _ _ => some (Footprint.join [.requests, .of [.SEQ_WD_CNT, .SEQ_NOPATCH, .PATCH_LEVEL, .ROLLBACK_MIN,
      .PATCH_STATE, .SEQ_DOWN, .SEQ_CAUSE, .SEQ_WAIT, .SEQ_WAIT_CAUSE, .SEQ_WD_RECENT, .PATCH_ACTIVE, .PATCH_RUN] [] [.copies, .partials, .clock]])
  | .auditRead _ _ _ => some (Footprint.join [.requests, .of [] [] [.copies, .clock]])
  | .auditSeal _ _ _ => some (Footprint.join [.requests, .of [.DRAWS] [] [.copies, .clock]])
  | .svcHoursIncrement _ => some (Footprint.join [.sessions, .of [.SVC_HOURS, .SVC_TICK] [] [.copies, .clock]])
  | .domOffReq _ _ => some (Footprint.join [.audits, .of [.DOM_OFF_REQ, .DOM_REJ, .DOM_REJ_CODE, .ANS_ABORT, .SEQ_SERVED,
      .DOM_REQ_PATH] [] []])
  | .domainSwitched _ _ => some (Footprint.join [.events, .audits, .emcys, .of [.TAGS_INFLIGHT, .TAGS_QUAR, .QRD,
      .SPARE_MAP, .REG_STAT, .CONV_STATE, .CONV_EPOCH, .RED_LOST, .STRIP_ACTIVE, .DOM_ON, .DOM_REJ, .DOM_REJ_CODE,
      .DOM_BUSY, .ENG_STATE, .ENG_BIST, .STRIP_ENG, .STRIP_CYCLES, .STRIP_VOTE, .DOM_EPOCH, .DOM_EPOCH_TICK,
      .TAG_QUARANTINE, .PORT_CUT, .AUX_CUT, .CONV_BUSY, .CONV_REDO, .INJ_N, .PORT_SETTLE, .AUX_SETTLE, .AUX_HIST,
      .AUX_OVR, .AUX_N, .CONV_CAL, .CONV_EPOCH_TICK, .CONV_EPOCH_MOVED, .CONV_EPOCH_DUE, .DOM_LEAVING] [] [.copies,
      .clock]])
  | .bootstrapLockoutRelease _ _ => some (.of [.BST_UV, .HIGH_ON, .BST_BAD] [] [.copies, .clock])
  | .busComparatorRelease _ _ _ _ => some (Footprint.join [.events, .of [.FAULT, .ADAPT_FACT, .REG_STAT, .OBS_STAT,
      .VW_STATE, .HARD_OV, .HARD_COAST, .BUS_STAT, .BUS_SEEN, .PWR_STATE, .DRIVE_STATE, .WINDOW_ONLY, .OBS_SAL_POSTED,
      .OBS_R_UPD, .R_PROBED, .R_FILTERED, .BST_RUN, .BST_EXEMPT, .POSTED, .NO_POST_RUN, .MODE_RESUME, .FAULTN_LOW] [] [.copies, .clock]])
  | .dieOverTemperatureRelease _ _ _ => some (.of [.FAULT, .DIE_OT, .DIE_HOT, .FAULTN_LOW] [] [.copies, .clock])
  | .tripnRelease _ _ => some (.of [.TRIP_ACTIVE, .TRIPN_LOW] [] [.copies, .clock])
  | .vwMaxageExpiry _ _ => some (.of [.VW_STATE] [] [.copies, .clock])
  | .enumerationTimeout _ => some (Footprint.join [.events, .of [.LINK_STATE, .LINK_FLAGS, .ENUM_OUT] [] [.copies,
      .clock]])
  | .canReceiveOverrun _ _ => some (Footprint.join [.emcys, .of [.COMM_ERR] [] [.copies, .clock]])
  | .canBusOffRecovered _ _ => some (Footprint.join [.emcys, .of [.CAN_OFF, .COMM_ERR] [] [.copies, .clock]])
  | .helperHandshakeFault _ _ => some (Footprint.join [.events, .audits, .emcys, .of [.TAGS_INFLIGHT, .TAGS_QUAR,
      .SPARE_MAP, .CONV_STATE, .RED_LOST, .DOM_RESTARTS, .STRIP_ACTIVE, .DOM_ON, .ENG_STATE, .STRIP_ENG,
      .STRIP_CYCLES, .STRIP_VOTE, .DOM_RESTARTING, .DOM_RESTART_WAIT, .TAG_BUSY, .TAG_QUARANTINE, .TAG_QUEUE,
      .CONV_BUSY, .CONV_CAL] [] [.copies, .clock]])

end Sys2Proof
end

