-- ==== Sys2Proof/Certificates/Slice0/Obligations.lean ====
section
/-! DEFINITION. The statements for the provers: the whole-machine rules, then one statement per group of commands. In a
clause `Completes c s P`, the command answers a next state, and P holds of it. -/

open Sys2Proof Sys2Proof.Machine

/-- A step takes the command at the front of the queue and performs it with the rest of the queue. The model's choices
it rests on: the readings of log entry 2. -/
def Obligations.StepRunsTheFrontCommand : Prop :=
  ∀ (c : Instr) (q : List Instr) (s : State), Machine.step { s with pending := c :: q } = exec c { s with pending := q }

/-- No run of commands stops in a fault or a refusal, from whatever state it starts. The model's choices it rests on:
the readings of log entries 14 and 21. -/
def Obligations.EveryRunCompletes : Prop := ∀ (cs : List Instr) (s : State), RunsOn s cs

/-- The state after reset is sound. The model's choices it rests on: the readings of log entry 20. -/
def Obligations.ResetIsSound : Prop := Sound State.reset

/-- Every step keeps a state sound: canonical register files and memory, and no field beyond its width. -/
def Obligations.StepKeepsSound : Prop := ∀ (s t : State), Sound s → Machine.step s = .next t → Sound t

/-- A command leaves the queue behind it as it is. -/
def Obligations.CommandsLeaveTheQueue : Prop := ∀ (c : Instr) (s t : State), exec c s = .next t → t.pending = s.pending

/-- The frame of every command but the resets and the two commands that may ask for one: what its footprint does not
name is unchanged, every field with all its instances, every developed copy, all of memory, and the other parts. -/
def Obligations.CommandsWriteOnlyTheirFootprint : Prop :=
  ∀ (c : Instr) (f : Footprint) (s t : State), c.writes = some f → exec c s = .next t → Within f s t

/-- R63: the time-stamp never runs backwards; only a reset starts it afresh. The model's choices it rests on: the
readings of log entries 6 and 22. -/
def Obligations.TimeNeverRunsBack : Prop :=
  ∀ (c : Instr) (f : Footprint) (s t : State), c.writes = some f → exec c s = .next t → s.ts ≤ t.ts

/-- R50, R51, R54: an event. With room, its four words stand at the write pointer of Q11, whose fill rises by one and
whose watermark is judged; on a full Q11 it is dropped and counted. The sequence number advances either way. The
model's choices it rests on: the readings of log entry 7. -/
def Obligations.EventsEnterQ11 : Prop :=
  (∀ (code src slot arg : Nat) (s : State), Sound s → s.dv .QSIZE_LOG2 11 ≤ 13 → s.get .QWR 11 < 2 * s.qSize 11 →
    s.get .QRD 11 < 2 * s.qSize 11 → s.qFill 11 < s.qSize 11 →
    (s.post code src slot arg).words (s.qAddr 11 (s.get .QWR 11)) 4 = s.eventWords code src slot arg s.ts ∧
    (s.post code src slot arg).get .QWR 11 = (s.get .QWR 11 + 1) % (2 * s.qSize 11) ∧
    (s.post code src slot arg).qFill 11 = s.qFill 11 + 1 ∧
    (s.post code src slot arg).get .EVENT_SEQ 0 = (s.get .EVENT_SEQ 0 + 1) % 16 ∧
    (s.post code src slot arg).get .QDROP 11 = s.get .QDROP 11 ∧
    (s.post code src slot arg).get .Q11_WM 0 =
      (if 0 < s.get .QWMARK 11 ∧ s.qFill 11 + 1 = s.get .QWMARK 11 then 1 else s.get .Q11_WM 0) ∧
    ∀ a, a < s.qAddr 11 (s.get .QWR 11) ∨ s.qAddr 11 (s.get .QWR 11) + 16 ≤ a →
      (s.post code src slot arg).mem.read a = s.mem.read a) ∧
  (∀ (code src slot arg : Nat) (s : State), s.qFill 11 = s.qSize 11 →
    (s.post code src slot arg).mem = s.mem ∧ (s.post code src slot arg).get .QWR 11 = s.get .QWR 11 ∧
    (s.post code src slot arg).get .QDROP 11 = min (s.get .QDROP 11 + 1) 65535 ∧
    (s.post code src slot arg).get .Q11_FULL 0 = 1 ∧ (s.post code src slot arg).get .QOVF 11 = 1 ∧
    (s.post code src slot arg).get .EVENT_SEQ 0 = (s.get .EVENT_SEQ 0 + 1) % 16)

/-- R50: a hardware producer that finds its queue full drops the entry and counts it; at the first drop it posts
QUEUE_OVERFLOW, but never for Q11. With room and no watermark, the entry stands at the write pointer. The model's
choices it rests on: the readings of log entry 7. -/
def Obligations.ProducersMeetFullQueues : Prop :=
  (∀ (q : Nat) (ws : List Nat) (s : State), q < 16 → q ≠ 11 → s.qFill q = s.qSize q →
    (s.enqueue q ws).get .QWR q = s.get .QWR q ∧ (s.enqueue q ws).get .QRD q = s.get .QRD q ∧
    (s.enqueue q ws).get .QDROP q = min (s.get .QDROP q + 1) 65535 ∧ (s.enqueue q ws).get .QOVF q = 1 ∧
    (s.get .QOVF q = 1 → (s.enqueue q ws).mem = s.mem ∧ (s.enqueue q ws).get .EVENT_SEQ 0 = s.get .EVENT_SEQ 0) ∧
    (s.get .QOVF q = 0 → LastEvent (s.enqueue q ws) 0x0103 0x7 noSlot (q + min (s.get .QDROP q + 1) 65535 * 2 ^ 16))) ∧
  (∀ (ws : List Nat) (s : State), s.qFill 11 = s.qSize 11 →
    (s.enqueue 11 ws).mem = s.mem ∧ (s.enqueue 11 ws).get .EVENT_SEQ 0 = s.get .EVENT_SEQ 0 ∧
    (s.enqueue 11 ws).get .Q11_FULL 0 = 1 ∧ (s.enqueue 11 ws).get .QDROP 11 = min (s.get .QDROP 11 + 1) 65535) ∧
  (∀ (q : Nat) (ws : List Nat) (s : State), Sound s → q < 16 → s.get .QWMARK q = 0 → s.dv .QSIZE_LOG2 q ≤ 13 →
    s.get .QWR q < 2 * s.qSize q → s.get .QRD q < 2 * s.qSize q → s.qFill q < s.qSize q → (∀ w ∈ ws, w < 2 ^ 32) →
    (s.enqueue q ws).words (s.qAddr q (s.get .QWR q)) ws.length = ws ∧ (s.enqueue q ws).qFill q = s.qFill q + 1 ∧
    (s.enqueue q ws).get .QWR q = (s.get .QWR q + 1) % (2 * s.qSize q) ∧
    ∀ a, a < s.qAddr q (s.get .QWR q) ∨ s.qAddr q (s.get .QWR q) + 4 * ws.length ≤ a →
      (s.enqueue q ws).mem.read a = s.mem.read a)

/-- R31: SLACK_GUARD resets to 80 and takes the codes 40 to 320; a write of any other code, zero included, keeps the
previous value and sets GUARD_REJ. -/
def Obligations.GuardCodes : Prop :=
  (∀ i < 8, State.reset.get .SLACK_GUARD i = 80 ∧ State.reset.dv .SLACK_GUARD i = 80) ∧
  (∀ (i data : Nat) (path : RegPath) (s : State), i < 8 → data < 2 ^ 16 → s.getBit .DOM_ON 0 1 = true → (path = .window → s.get .SEQ_DOWN 0 = 0) →
    Completes (.registerWrite path (0x030F08 + 0x1000 * i) (0xFFFF * 2 ^ 16 + data) 0 0 0) s fun u =>
      (40 ≤ data % 512 → data % 512 ≤ 320 → u.get .SLACK_GUARD i = data % 512 ∧ u.get .GUARD_REJ i = s.get .GUARD_REJ i) ∧
      (data % 512 < 40 ∨ 320 < data % 512 → u.get .SLACK_GUARD i = s.get .SLACK_GUARD i ∧ u.get .GUARD_REJ i = 1))

/-- R93: the default port map, as every reset from a pin or a supply leaves it. -/
def Obligations.DefaultMap : Prop :=
  ∀ (others : Nat) (profsel : Fin 4) (manager : Bool) (s : State),
    ∀ c ∈ [Instr.powerOnReset others profsel manager, .vcoreBrownOut others profsel manager, .vioBrownOut others profsel manager,
      .resetn others profsel manager], Completes c s fun u =>
        (∀ p < 32, u.get .PORT_ROLE p = p / 4 * 0x10 + p % 4 ∧ u.get .PORT_ROLE_DEV p = p / 4 * 0x10 + p % 4 ∧
          u.portOwner p = p / 4 ∧ u.get .PORT_ROLE_DEV p % 16 = p % 4) ∧
        (∀ i < 8, u.get .SLOT_KIND i = 1 ∧ u.kind i = 1) ∧
        (∀ i < 8, (u.slotPorts i).filter (fun p => u.get .PORT_ROLE_DEV p % 16 < 2) = [4 * i, 4 * i + 1] ∧
          (u.slotPorts i).filter (fun p => 2 ≤ u.get .PORT_ROLE_DEV p % 16) = [4 * i + 2, 4 * i + 3])

/-- R100: the engine map at reset. Slots A0 to A3 run on E0 to E3 and slots A4 to A7 on E5 to E8; the engines without a
slot, none of them dead, are E4 and E9, one in each engine domain. -/
def Obligations.EngineMap : Prop :=
  ∀ (others : Nat) (profsel : Fin 4) (manager : Bool) (s : State),
    ∀ c ∈ [Instr.powerOnReset others profsel manager, .vcoreBrownOut others profsel manager, .vioBrownOut others profsel manager,
      .resetn others profsel manager], Completes c s fun u =>
        (∀ i < 8, u.get .SLOT_ENGINE i = if i < 4 then i else i + 1) ∧
        (∀ e < 10, (hosted u e = [] ∧ u.getBit .DEAD_MAP 0 e = false) ↔ (e = 4 ∨ e = 9)) ∧
        engineDomain 4 = 4 ∧ engineDomain 9 = 5

/-- R421: NMT states affect communication only. No NMT command but reset node changes a CiA 402 state or moves an axis;
that one and the reaction to a loss of communication have statements of their own. -/
def Obligations.NmtLeavesMotion : Prop :=
  ∀ (t node : Nat) (bus : Fin 2) (s : State),
    ∀ c ∈ [Instr.nmtStart t bus node, .nmtStop t bus node, .nmtEnterPreOperational t bus node, .nmtResetCommunication t bus node],
      Completes c s fun u => (∀ i, u.get .DRIVE_STATE i = s.get .DRIVE_STATE i ∧ u.get .FAULT_CAUSE i = s.get .FAULT_CAUSE i) ∧
        (∀ p, u.get .PORT_DRIVE p = s.get .PORT_DRIVE p) ∧ u.motion = s.motion

/-- R478, R479: the boot waits for its reference. The lock starts the timebase and moves the boot to its second stage;
without the reference the wait shows; a pin of VANA ends the hold of the calibration. The model's choices it rests
on: the readings of log entries 18 and 93. -/
def Obligations.BootTimebase : Prop :=
  (∀ (tbsync : Bool) (s : State), s.get .BOOT_STAGE 0 = 1 → s.get .BOOT_DONE 0 = 0 → s.get .TB_EVER 0 = 0 →
    (s.get .TB_NOREF 0 = 1 ∨ s.get .TB_SRC_ACT 0 = (if tbsync then 1 else 0)) →
    Completes (.bootTimebaseLock tbsync) s fun t =>
      t.get .TB_RUNNING 0 = 1 ∧ t.get .PLL_LOCK 0 = 1 ∧ t.get .REF_OK 0 = 1 ∧ t.get .TB_NOREF 0 = 0 ∧
      t.get .BOOT_STAGE 0 = 2 ∧ PostsNone s t) ∧
  (∀ (crystal tbsync : Bool) (s : State), s.get .BOOT_STAGE 0 = 1 → s.get .BOOT_DONE 0 = 0 → s.get .TB_EVER 0 = 0 →
    s.get .TB_SRC 0 < 2 → (if s.get .TB_SRC 0 = 1 then tbsync else crystal) = false →
    Completes (.crystalLossWait crystal tbsync) s fun t =>
      t.get .TB_NOREF 0 = 1 ∧ t.get .TB_SRC_ACT 0 = s.get .TB_SRC 0 ∧ t.get .BOOT_STAGE 0 = 1 ∧ PostsNone s t)

/-- R478, R479, R448: each stage of the boot, at its place. The ROM fills the SRAM with zeros and counts one service
unit; a sound patch runs, an empty patch area leaves the ROM alone; a selected area whose image is sound starts its
profile, any other the safe profile; the calibration waits for VANA; an engine that fails its test is dead; every
D-die out of lock-out is released; the last stage reports the boot. The model's choices it rests on: how an operand
`t` moves the time-stamp (6, 22); the readings of log entries 5, 19, 63, 100 and 101. -/
def Obligations.BootStages : Prop :=
  (∀ (t : Nat) (s : State), s.get .BOOT_STAGE 0 = 2 → s.get .BOOT_DONE 0 = 0 → Completes (.bootRom t) s fun u =>
    (∀ a, u.mem.read a = 0) ∧ u.get .SVC_HOURS 0 = min (s.get .SVC_HOURS 0 + 1) (2 ^ 32 - 1) ∧ u.get .BOOT_STAGE 0 = 3) ∧
  (∀ (t : Nat) (s : State), s.get .BOOT_STAGE 0 = 3 → s.get .BOOT_DONE 0 = 0 → s.get .PATCH_ACTIVE 0 = 0 →
    Completes (.bootPatch t) s fun u =>
      u.get .PATCH_RUN 0 = s.get .PATCH_RUN 0 ∧ u.get .BOOT_STAGE 0 = 4 ∧ PostsNone (s.atTick t) u) ∧
  (∀ (t h : Nat) (s : State), s.get .BOOT_STAGE 0 = 3 → s.get .BOOT_DONE 0 = 0 → s.get .PATCH_ACTIVE 0 = h + 1 →
    patchFault s (patchHalf s h) = 0 → Completes (.bootPatch t) s fun u =>
      u.get .PATCH_RUN 0 = 1 ∧ u.get .PATCH_STATE 0 = 1 ∧ u.get .PATCH_ACTIVE 0 = h + 1 ∧ u.get .BOOT_STAGE 0 = 4 ∧ PostsNone (s.atTick t) u) ∧
  (∀ (t h : Nat) (s : State), s.get .BOOT_STAGE 0 = 3 → s.get .BOOT_DONE 0 = 0 → s.get .PATCH_ACTIVE 0 = h + 1 →
    patchFault s (patchHalf s h) ≠ 0 → Completes (.bootPatch t) s fun u =>
      u.get .PATCH_STATE 0 = 0 ∧ u.get .PATCH_ACTIVE 0 = 0 ∧ u.get .LAST_REFUSAL 0 = 0x42 ∧ u.get .BOOT_STAGE 0 = 4) ∧
  (∀ (t : Nat) (s : State), s.get .BOOT_STAGE 0 = 4 → s.get .BOOT_DONE 0 = 0 → areaValid s (s.get .PROFSEL 0) = false →
    Completes (.bootProfile t) s fun u =>
      u.get .SAFE_BOOT 0 = 1 ∧ u.get .PROF_ACTIVE 0 = 4 ∧ u.get .BOOT_STAGE 0 = 5) ∧
  (∀ (t : Nat) (s : State), s.get .BOOT_STAGE 0 = 4 → s.get .BOOT_DONE 0 = 0 → areaValid s (s.get .PROFSEL 0) = true →
    Completes (.bootProfile t) s fun u =>
      u.get .SAFE_BOOT 0 = s.get .SAFE_BOOT 0 ∧ u.get .PROF_ACTIVE 0 = s.get .PROF_ACTIVE 0 ∧
      u.getBit .PROF_VALID 0 (s.get .PROFSEL 0) = decide (s.get .PROFSEL 0 < 4) ∧ u.get .BOOT_STAGE 0 = 5) ∧
  (∀ (t : Nat) (s : State), Completes (.vanaReady t) s fun u => u.get .VANA_WAIT 0 = 0 ∧ PostsNone (s.atTick t) u) ∧
  (∀ (t : Nat) (s : State), s.get .BOOT_STAGE 0 = 5 → s.get .BOOT_DONE 0 = 0 →
    Completes (.bootCalibration t []) s fun u => u.get .VANA_WAIT 0 = 1 ∧ u.get .BOOT_STAGE 0 = 5) ∧
  (∀ (t : Nat) (r : Int × Nat × Nat) (l : List (Int × Nat × Nat)) (s : State), s.get .BOOT_STAGE 0 = 5 →
    s.get .BOOT_DONE 0 = 0 → s.get .VANA_WAIT 0 = 0 →
    Completes (.bootCalibration t (r :: l)) s fun u => u.get .BOOT_STAGE 0 = 6) ∧
  (∀ (t dead : Nat) (s : State), s.get .BOOT_STAGE 0 = 6 → s.get .BOOT_DONE 0 = 0 →
    Completes (.bootBist t dead) s fun u => u.get .BOOT_STAGE 0 = 7 ∧
      ∀ e < 10, bit dead e = true → u.getBit .DEAD_MAP 0 e = true) ∧
  (∀ (t : Nat) (s : State), s.get .BOOT_STAGE 0 = 7 → s.get .BOOT_DONE 0 = 0 →
    Completes (.bootBankRelease t) s fun u => u.get .BOOT_STAGE 0 = 7 ∧
      ∀ b < 4, s.get .VDRV_OK b = 1 → u.get .BANK_REL b = 1 ∧ u.get .DIE_UP b = 1) ∧
  (∀ (t elapsed : Nat) (s : State), s.get .BOOT_STAGE 0 = 7 → s.get .BOOT_DONE 0 = 0 →
    Completes (.bootDone t elapsed) s fun u =>
      u.get .BOOT_DONE 0 = 1 ∧ u.get .BOOT_STAGE 0 = 15 ∧ u.get .BOOT_TIME 0 = min 0xFFFF elapsed ∧
      Posts (s.atTick t) u 0x1100 0x0 noSlot (min 0xFFFF elapsed + s.get .RESET_CAUSE 0 * 65536))

/-- R474 to R477, R448: the five resets. Each leaves the device as a reset does, with its own bit of RESET_CAUSE beside
those of the causes met before; the command DEV_RESET resets once it has been answered. The model's choices it rests
on: the readings of log entries 18, 19 and 71. -/
def Obligations.Resets : Prop :=
  (∀ (others : Nat) (profsel : Fin 4) (manager : Bool) (s : State), Completes (.powerOnReset others profsel manager) s fun u =>
    AfterReset s u (others % 32 ||| 1) profsel) ∧
  (∀ (others : Nat) (profsel : Fin 4) (manager : Bool) (s : State), Completes (.vcoreBrownOut others profsel manager) s fun u =>
    AfterReset s u (others % 32 ||| 2) profsel) ∧
  (∀ (others : Nat) (profsel : Fin 4) (manager : Bool) (s : State), Completes (.vioBrownOut others profsel manager) s fun u =>
    AfterReset s u (others % 32 ||| 4) profsel) ∧
  (∀ (others : Nat) (profsel : Fin 4) (manager : Bool) (s : State), Completes (.resetn others profsel manager) s fun u =>
    AfterReset s u (others % 32 ||| 8) profsel) ∧
  (∀ (path : Path) (profsel : Fin 4) (manager : Bool) (s : State), s.get .SEQ_DOWN 0 = 0 →
    (path = .can → sdoServed s = true) → 2 ≤ authOn s path.code → (∀ i < 8, s.slotDisabled i = true) →
    Completes (.devReset path 0x746F6F62 profsel manager) s fun u =>
      AfterReset s u 16 profsel ∧ u.get .ANS_ABORT 0 = 0) ∧
  (∀ (path : Path) (value : Nat) (profsel : Fin 4) (manager : Bool) (s : State), s.get .SEQ_DOWN 0 = 0 →
    (path = .can → sdoServed s = true) → value ≠ 0x746F6F62 →
    Completes (.devReset path value profsel manager) s fun u =>
      u.get .ANS_ABORT 0 = abRange ∧ u.get .RESET_CAUSE 0 = s.get .RESET_CAUSE 0 ∧ PostsNone s u)

/-- R60 to R65, R263, R57: the timebase. Loss of the clock gates it and every port no D-die holds off; a restart
continues the time-stamp where it stopped and reports the gap; a change of source is refused while an output is
driven; a delay-line calibration that fails three times in a row is reported. The model's choices it rests on: how
an operand `t` moves the time-stamp (6, 22); the readings of log entry 25. -/
def Obligations.Timebase : Prop :=
  (∀ (s : State), outputsIdle s = true → s.get .TB_EVER 0 = 0 → s.get .TB_SRC 0 < 2 → Completes .tbApply s fun u =>
    u.get .TB_SRC_ACT 0 = s.get .TB_SRC 0 ∧ u.get .PLL_LOCK 0 = 0 ∧ u.get .REF_OK 0 = 0 ∧ PostsNone s u) ∧
  (∀ (s : State), outputsIdle s = false → Completes .tbApply s fun u =>
    u.get .TB_APPLY_REJ 0 = 1 ∧ u.get .TB_SRC_ACT 0 = s.get .TB_SRC_ACT 0 ∧ PostsNone s u) ∧
  (∀ (t : Nat) (refOk pll : Bool) (s : State), s.get .TB_RUNNING 0 = 1 → s.get .LOCKED 0 = 0 →
    Completes (.timebaseLoss t refOk pll) s fun u =>
      u.get .TB_RUNNING 0 = 0 ∧ u.get .TB_LOST 0 = s.get .TB_LOST 0 ∧ u.ts = max s.ts t ∧
      u.get .REF_OK 0 = (if refOk then 1 else 0) ∧ u.get .PLL_LOCK 0 = (if pll then 1 else 0) ∧
      (∀ p < 32, s.get .HB_OUT (p / 8) = 0 → u.get .PORT_DRIVE p = 0) ∧ PostsNone (s.atTick t) u) ∧
  (∀ (gap : Nat) (levels : List Nat) (s : State), s.get .TB_RUNNING 0 = 0 → s.get .TB_EVER 0 = 1 →
    Completes (.timebaseRestart gap levels) s fun u =>
      u.get .TB_RUNNING 0 = 1 ∧ u.ts = s.ts ∧ u.get .TB_LOST 0 = 1 ∧ u.get .TB_GAP_US 0 = min 0xFFFF gap ∧
      u.get .TB_GAP 0 = min (s.get .TB_GAP 0 + 1) 65535) ∧
  (∀ (t elems : Nat) (s : State), s.get .TB_RUNNING 0 = 1 → elems ≠ 0 → elems < 256 →
    Completes (.delaylineCalibration t elems) s fun u =>
      u.get .DL_ELEMS 0 = elems ∧ u.get .DL_COARSE 0 = 0 ∧ PostsNone (s.atTick t) u) ∧
  (∀ (t : Nat) (s : State), s.get .TB_RUNNING 0 = 1 → s.get .DL_FAILS 0 = 2 → Completes (.delaylineCalibration t 0) s fun u =>
    u.get .DL_CAL_ERR 0 = 1 ∧ u.get .DL_COARSE 0 = 1 ∧ u.get .DL_ELEMS 0 = s.get .DL_ELEMS 0 ∧
    Posts (s.atTick t) u 0x0201 0x0 noSlot (s.get .DL_ELEMS 0 + 256 + 3 * 4096)) ∧
  (∀ (s : State), s.get .TB_RUNNING 0 = 1 → s.get .PROF_DEVICE 0 = 0 → (∀ b < 4, s.get .HB_SEEN b % 16 = s.get .HB_COUNT b % 16) → Completes .statusTick s fun u =>
    u.rc = u.regs ∧ u.ts = (if s.ts % 160 = 0 ∧ s.get .TICK_LAST 0 < s.ts then s.ts else (s.ts / 160 + 1) * 160) ∧
    ∀ b < 4, u.get .HB_TICK b = u.ts % 2 ^ 64 ∧ u.get .HB_COUNT b = (s.get .HB_COUNT b + 1) % 2 ^ Reg.width .HB_COUNT)

/-- R57 to R59, R280, R473: the D-dies. Without heartbeats a D-die holds its bank with the X-ports off, and the loss is
counted; after 1 ms of heartbeats it is released again; a bank whose gate supply fails turns its ports off, is
counted and flagged, and comes back above its release. The model's choices it rests on: how an operand `t` moves the
time-stamp (6, 22); the readings of log entries 71 and 93. -/
def Obligations.DieSupervision : Prop :=
  (∀ (t : Nat) (b : Bank) (s : State), s.get .HB_OUT b = 0 → s.get .DIE_UP b = 1 → s.get .TB_RUNNING 0 = 1 →
    s.get .TB_EVER 0 = 1 → s.get .HB_TICK b + 3200 < max s.ts t → Completes (.ddieWatchdogExpiry t b) s fun u =>
      u.get .HB_OUT b = 1 ∧ u.get .HB_LOST b = 1 ∧ u.get .HB_LOST_CNT b = min (s.get .HB_LOST_CNT b + 1) 65535 ∧
      u.get .HB_GOOD b = 0 ∧ ∀ p < 32, p / 8 = b.val → s.isX p = true → u.get .PORT_DRIVE p = 0) ∧
  (∀ (t : Nat) (b : Bank) (s : State), s.get .HB_OUT b = 1 → s.get .TB_RUNNING 0 = 1 → s.get .HB_GOOD b ≠ 0 →
    s.get .HB_GOOD b + 160000 ≤ max s.ts t → Completes (.ddieRelease t b) s fun u =>
      u.get .HB_OUT b = 0 ∧ u.get .BANK_REL b = 1 ∧ u.get .DIE_UP b = 1) ∧
  (∀ (t : Nat) (b : Bank) (s : State), s.get .VDRV_OK b = 1 → s.get .HB_OUT b = 0 → 7 ≤ s.get .BOOT_STAGE 0 →
    Completes (.ddieBankRelease t b) s fun u => u.get .BANK_REL b = 1 ∧ u.get .DIE_UP b = 1 ∧ u.get .HB_OUT b = 0 ∧
      ∀ c, c ≠ b.val → u.get .BANK_REL c = s.get .BANK_REL c) ∧
  (∀ (t mv : Nat) (b : Bank) (s : State), mv < 8600 → s.get .VDRV_OK b = 1 → Completes (.vdrvLockout t b mv) s fun u =>
    u.get .VDRV_OK b = 0 ∧ u.get .VDRV_UV_SEEN b = 1 ∧ u.get .VDRV_MV b = mv ∧
    u.get .VDRV_UV_CNT b = min (s.get .VDRV_UV_CNT b + 1) 65535 ∧ ∀ p < 32, p / 8 = b.val → u.get .PORT_DRIVE p = 0) ∧
  (∀ (t mv : Nat) (b : Bank) (s : State), 8600 ≤ mv → mv < 65536 → Completes (.vdrvLockout t b mv) s fun u =>
    u.get .VDRV_OK b = s.get .VDRV_OK b ∧ u.get .VDRV_MV b = mv ∧ PostsNone (s.atTick t) u) ∧
  (∀ (t mv : Nat) (b : Bank) (s : State), 9000 < mv → mv < 65536 → s.get .VDRV_OK b = 0 →
    Completes (.vdrvLockoutRelease t b mv) s fun u =>
      u.get .VDRV_OK b = 1 ∧ u.get .VDRV_MV b = mv)

/-- R68 to R72: frames of host SPI. A header opens a frame and returns the result of the frame before; each word of a
write goes to the slot the frame stands at and the address moves on where the header asks for it; a word read is
marked 0xA5, or 0x5A where it was not ready; the end of the frame leaves its result. The model's choices it rests
on: that a command does nothing where its condition does not hold (21, 23); the readings of log entry 93. -/
def Obligations.SpiFrames : Prop :=
  (∀ (cmd addr : Nat) (s : State), cmd < 256 → addr < 2 ^ 24 → cmd % 64 = 0x16 → addr % 4 = 0 →
    Completes (.spiCommandHeader cmd addr) s fun u =>
      u.answer = [s.get .SPI_STAT 0, 0, 0, 0] ∧ u.get .SPI_OPEN 0 = 1 ∧ u.get .SPI_DEAD 0 = 0 ∧ u.get .SPI_BITS 0 = 0 ∧
      u.get .SPI_WRITE 0 = cmd / 128 ∧ u.get .SPI_INC 0 = cmd / 64 % 2 ∧ u.get .SPI_ADDR 0 = addr ∧ PostsNone s u) ∧
  (∀ (cmd addr : Nat) (s : State), cmd % 64 ≠ 0x16 → Completes (.spiCommandHeader cmd addr) s fun u =>
    u.answer = [s.get .SPI_STAT 0, 0, 0, 0] ∧ u.get .SPI_DEAD 0 = 1 ∧ u.get .SPI_BITS 0 = 2 ∧ PostsNone s u) ∧
  (∀ (w : Nat) (s : State), w < 2 ^ 32 → s.get .SPI_BITS 0 < 32 → s.get .SPI_OPEN 0 = 1 → s.get .SPI_DEAD 0 = 0 → s.get .SPI_WRITE 0 = 1 →
    0x420000 ≤ s.get .SPI_ADDR 0 → s.get .SPI_ADDR 0 < 0x440000 → s.getBit .DOM_ON 0 2 = true →
    Completes (.spiWriteWord w) s fun u =>
      u.word (s.get .SPI_ADDR 0) = w ∧ u.get .SPI_BITS 0 = s.get .SPI_BITS 0 ∧
      u.get .SPI_ADDR 0 = s.get .SPI_ADDR 0 + (if s.get .SPI_INC 0 = 0 then 0 else 4) ∧
      ∀ a, a < s.get .SPI_ADDR 0 ∨ s.get .SPI_ADDR 0 + 4 ≤ a → u.mem.read a = s.mem.read a) ∧
  (∀ (w : Nat) (s : State), s.get .SPI_OPEN 0 = 0 ∨ s.get .SPI_DEAD 0 = 1 ∨ s.get .SPI_WRITE 0 = 0 →
    Completes (.spiWriteWord w) s fun u => u = s) ∧
  (∀ (s : State), s.get .SPI_BITS 0 < 32 → s.get .SPI_OPEN 0 = 1 → s.get .SPI_DEAD 0 = 0 → s.get .SPI_WRITE 0 = 0 →
    0x400000 ≤ s.get .SPI_ADDR 0 → s.get .SPI_ADDR 0 < 0x440000 → s.getBit .DOM_ON 0 2 = true →
    Completes (.spiReadWord true) s fun u =>
      u.answer = [0xA5, s.word (s.get .SPI_ADDR 0)] ∧ u.get .SPI_BITS 0 = s.get .SPI_BITS 0 ∧ PostsNone s u) ∧
  (∀ (s : State), s.get .SPI_BITS 0 < 32 → s.get .SPI_OPEN 0 = 1 → s.get .SPI_DEAD 0 = 0 → s.get .SPI_WRITE 0 = 0 →
    Completes (.spiReadWord false) s fun u =>
      u.answer = [0x5A, 0] ∧ u.get .SPI_BITS 0 = s.get .SPI_BITS 0 ||| 1 ∧ u.get .SPI_DEAD 0 = 1 ∧ PostsNone s u) ∧
  (∀ (cut : Bool) (s : State), s.get .SPI_BITS 0 < 32 → s.get .SPI_OPEN 0 = 1 → Completes (.spiFrameEnd cut) s fun u =>
    u.get .SPI_OPEN 0 = 0 ∧ PostsNone s u ∧
    u.get .SPI_STAT 0 = 0xA0 ||| (if cut ∧ s.get .SPI_DEAD 0 = 0 then s.get .SPI_BITS 0 ||| 2 else s.get .SPI_BITS 0))

/-- R23, R24, R75 to R78, R80, R81, R85: one word at one register slot. A writable field takes the bits the mask names,
a write-one-to-clear field loses the bits written as 1, the hardware wins or is lost and counted beside a write at
the same grant, a slot that does not exist or lies in a domain that is off is not written, the low word of a wide
value latches all of it, and a high word waits in the path's shadow. The model's choices it rests on: the readings
of log entries 15 and 57. -/
def Obligations.RegisterAccess : Prop :=
  (∀ (mask data : Nat) (s : State), mask < 2 ^ 16 → data < 2 ^ 16 → (bit mask 2 || bit mask 3) = true →
    Completes (.registerWrite .spi 0x24 (mask * 2 ^ 16 + data) 0 0 0) s fun u =>
      u.get .IRQ_EN_Q15 0 = (if bit mask 2 then (if bit data 2 then 1 else 0) else s.get .IRQ_EN_Q15 0) ∧
      u.get .IRQ_EN_FAULT 0 = (if bit mask 3 then (if bit data 3 then 1 else 0) else s.get .IRQ_EN_FAULT 0) ∧
      u.answer = [0xA0] ∧ PostsNone s u) ∧
  (∀ (s : State), Completes (.registerWrite .spi 0x20 (8 * 2 ^ 16 + 8) 0 0 0) s fun u =>
    u.get .FAULT 0 = 0 ∧ u.get .Q11_WM 0 = s.get .Q11_WM 0 ∧ u.get .Q11_FULL 0 = s.get .Q11_FULL 0 ∧
    u.answer = [0xA0]) ∧
  (∀ (s : State), Completes (.registerWrite .spi 0x24 (4 * 2 ^ 16 + 4) 4 0 0) s fun u =>
    u.get .IRQ_EN_Q15 0 = 1 ∧ u.get .CLASH_LOST 0 = min (s.get .CLASH_LOST 0 + 1) 65535) ∧
  (∀ (s : State), s.get .FAULT 0 < 2 → Completes (.registerWrite .spi 0x20 (8 * 2 ^ 16 + 8) 8 8 0) s fun u =>
    u.get .FAULT 0 = 1 ∧ u.get .CLASH_LOST 0 = s.get .CLASH_LOST 0) ∧
  (∀ (word : Nat) (s : State), Completes (.registerWrite .spi 0x480000 word 0 0 0) s fun u =>
    u.answer = [0xA4] ∧ ∀ r i, r ≠ .ANS_ABORT → u.get r i = s.get r i) ∧
  (∀ (word : Nat) (s : State), s.getBit .DOM_ON 0 2 = false → Completes (.registerWrite .spi 0x420000 word 0 0 0) s fun u =>
    u.answer = [0xB0] ∧ u.mem = s.mem ∧ u.get .HOST_WR_IGN 0 = min (s.get .HOST_WR_IGN 0 + 1) 65535) ∧
  (∀ (s : State), Completes (.wideLowWordRead .spi 0x1000) s fun u =>
    u.answer = [0xA0, s.ts % 2 ^ 16] ∧ u.spiRead.find (Reg.TS.key 0) = some (s.ts % 2 ^ 64)) ∧
  (∀ (s : State) (v : Nat), s.spiRead.find (Reg.TS.key 0) = some v → Completes (.wideLowWordRead .spi 0x1004) s fun u =>
    u.answer = [0xA0, v / 2 ^ 16 % 2 ^ 16] ∧ u.spiRead = s.spiRead) ∧
  (∀ (i data : Nat) (s : State), i < 8 → data < 2 ^ 16 → s.getBit .DOM_ON 0 1 = true →
    Completes (.wideHighWordWrite .spi (0x03020C + 0x1000 * i) (0xFFFF * 2 ^ 16 + data)) s fun u =>
      u.get .STOP_DEC i = s.get .STOP_DEC i ∧
      u.spiWrite.get .STOP_DEC i = data * 2 ^ 16 + s.spiWrite.get .STOP_DEC i % 2 ^ 16 ∧ u.answer = [0xA0])

/-- R87, R88, R446, R13: the register-window objects and the writes of objects. A word read or written through the
window is that of the slot at REG_WIN_ADDR, which moves on by 4 where REG_WIN_CTRL asks for it; a block reads or
writes words in ascending order; a write of an object stores its value or is answered with an abort code that leaves
it alone. The model's choices it rests on: the readings of log entries 16, 75 and 86. -/
def Obligations.WindowAccess : Prop :=
  (∀ (s : State), s.get .SEQ_DOWN 0 = 0 → 0x400000 ≤ s.get .REG_WIN_ADDR 0 → s.get .REG_WIN_ADDR 0 < 0x440000 →
    s.getBit .DOM_ON 0 2 = true → Completes .regWinDataRead s fun u =>
      u.answer = leBytes 4 (s.word (s.get .REG_WIN_ADDR 0)) ∧ u.get .ANS_ABORT 0 = 0 ∧ u.get .REG_WIN_STAT 0 = 0xA0 ∧
      u.get .REG_WIN_ADDR 0 = s.get .REG_WIN_ADDR 0 + (if s.getBit .REG_WIN_CTRL 0 0 then 4 else 0)) ∧
  (∀ (w : Nat) (s : State), w < 2 ^ 32 → s.get .SEQ_DOWN 0 = 0 → 0x420000 ≤ s.get .REG_WIN_ADDR 0 →
    s.get .REG_WIN_ADDR 0 < 0x440000 → s.getBit .DOM_ON 0 2 = true → Completes (.regWinDataWrite w) s fun u =>
      u.word (s.get .REG_WIN_ADDR 0) = w ∧ u.get .ANS_ABORT 0 = 0 ∧ u.get .REG_WIN_STAT 0 = 0xA0 ∧
      u.get .REG_WIN_ADDR 0 = s.get .REG_WIN_ADDR 0 + (if s.getBit .REG_WIN_CTRL 0 0 then 4 else 0) ∧
      ∀ a, a < s.get .REG_WIN_ADDR 0 ∨ s.get .REG_WIN_ADDR 0 + 4 ≤ a → u.mem.read a = s.mem.read a) ∧
  (∀ (s : State), s.get .SEQ_DOWN 0 = 0 → 0x400000 ≤ s.get .REG_WIN_ADDR 0 →
    s.get .REG_WIN_ADDR 0 + 4 * s.get .REG_WIN_COUNT 0 ≤ 0x440000 → s.getBit .DOM_ON 0 2 = true →
    Completes .regWinBlockRead s fun u =>
      u.answer = (s.words (s.get .REG_WIN_ADDR 0) (s.get .REG_WIN_COUNT 0)).flatMap (leBytes 4) ∧
      u.get .ANS_ABORT 0 = 0 ∧ u.mem = s.mem) ∧
  (∀ (ws : List Nat) (s : State), s.get .SEQ_DOWN 0 = 0 → ws ≠ [] → ws.length ≤ 256 → (∀ w ∈ ws, w < 2 ^ 32) →
    0x420000 ≤ s.get .REG_WIN_ADDR 0 → s.get .REG_WIN_ADDR 0 + 4 * ws.length ≤ 0x440000 → s.getBit .DOM_ON 0 2 = true →
    Completes (.regWinBlockWrite (ws.flatMap (leBytes 4))) s fun u =>
      u.words (s.get .REG_WIN_ADDR 0) ws.length = ws ∧ u.get .ANS_ABORT 0 = 0 ∧
      u.get .REG_WIN_ADDR 0 = s.get .REG_WIN_ADDR 0) ∧
  (∀ (i : Slot) (v : Nat) (s : State), s.get .SEQ_DOWN 0 = 0 → 0 < v → v < 2 ^ 31 →
    Completes (.objectWrite .spi (0x6081 + 0x800 * i.val) 0 (leBytes 4 v)) s fun u =>
      u.get .PROFILE_VEL i = v ∧ u.get .ANS_ABORT 0 = 0 ∧ PostsNone s u ∧
      ∀ r j, r ≠ .PROFILE_VEL ∨ j ≠ i.val → r ≠ .ANS_ABORT → r ≠ .SEQ_SERVED → u.get r j = s.get r j) ∧
  (∀ (i : Slot) (bytes : List Nat) (s : State), s.get .SEQ_DOWN 0 = 0 → bytes.length ≠ 4 →
    Completes (.objectWrite .spi (0x6081 + 0x800 * i.val) 0 bytes) s fun u =>
      u.get .PROFILE_VEL i = s.get .PROFILE_VEL i ∧ u.get .ANS_ABORT 0 = 0x06070010 ∧ PostsNone s u) ∧
  (∀ (path : Path) (index sub : Nat) (bytes : List Nat) (s : State), s.get .SEQ_DOWN 0 = 1 → path ≠ .can →
    Completes (.objectWrite path index sub bytes) s fun u =>
      u.get .ANS_ABORT 0 = 0x08000022 ∧ ∀ r i, r ≠ .ANS_ABORT → u.get r i = s.get r i)

/-- R30 to R34, R41, R104, R370 to R378: engine cycles and their slack. A cycle of a stale epoch is dropped and counted;
a cycle that serves its slot ends its period; full rate returns after 256 good posts; two misses in a row start a
test strip and eight in a millisecond ask for a migration; clearing the lowest slack puts it back at its largest
value. The model's choices it rests on: that a command does nothing where its condition does not hold (21, 23); how
an operand `t` moves the time-stamp (6, 22); the readings of log entries 24, 49 and 50. -/
def Obligations.EngineCycles : Prop :=
  (∀ (i : Slot) (accept epoch : Nat) (late differs : Bool) (s : State), engineServes s i = true →
    epoch = s.get .SLOT_EPOCH i → Completes (.engineCycle i accept late differs epoch) s fun u =>
      u.get .CYC_END i = 0 ∧ u.ts = max s.ts accept) ∧
  (∀ (i : Slot) (accept epoch : Nat) (late differs : Bool) (s : State), engineServes s i = true →
    epoch ≠ s.get .SLOT_EPOCH i → Completes (.engineCycle i accept late differs epoch) s fun u =>
      u.get .STALE_DROP 0 = min (s.get .STALE_DROP 0 + 1) 65535 ∧ (∀ r j, r ≠ .STALE_DROP → u.get r j = s.get r j) ∧
      PostsNone (s.atTick accept) u) ∧
  (∀ (i te accept : Nat) (s : State), te < accept + tDev →
    (comparePost s i te accept).get .DEADLINE_MISS i = min (s.get .DEADLINE_MISS i + 1) 65535 ∧
    ∀ p, (comparePost s i te accept).get .CMP_LAT p = s.get .CMP_LAT p) ∧
  (∀ (i : Slot) (s : State), 256 ≤ s.get .SLACK_GOOD i → Completes (.slackFullRateReturn i) s fun u =>
    u.get .SLACK_LOW i = 0 ∧ u.get .OBS_HALF i = 0 ∧ PostsNone s u) ∧
  (∀ (i : Slot) (s : State), s.get .SLACK_GOOD i < 256 → Completes (.slackFullRateReturn i) s fun u => u = s) ∧
  (∀ (i : Slot) (sh : Nat) (s : State), 2 ≤ s.get .MISS_RUN i → s.get .STRIP_ACTIVE 0 = 0 → s.opEnabled i = true →
    s.get .MIG_WANT i = 0 → chooseSpare s [] = some sh → sh < 10 → Completes (.deadlineMissStrip i) s fun u =>
      u.get .MISS_RUN i = 0 ∧ u.get .STRIP_ACTIVE 0 = 1 ∧ u.get .STRIP_SLOT 0 = i ∧ u.get .STRIP_ENG 0 = sh ∧
      u.get .STRIP_CYCLES 0 = 0) ∧
  (∀ (i : Slot) (sh : Nat) (s : State), 8 ≤ s.get .MISS_WINDOW i → s.get .MIG_WANT i = 0 →
    chooseSpare s [] = some sh → Completes (.deadlineMissMigration i) s fun u =>
      u.get .MISS_WINDOW i = 0 ∧ u.get .MIG_WANT i = 1 ∧ PostsNone s u) ∧
  (∀ (i : Slot) (s : State), Completes (.slackMinClr i) s fun u =>
    u.get .SLACK_MIN i = 0x7FFF ∧ (∀ r j, r ≠ .SLACK_MIN ∨ j ≠ i.val → u.get r j = s.get r j))

/-- R38 to R41, R44, R385: the scrubber, the helpers' tags and the epochs that had to wait. The model's choices it rests
on: how an operand `t` moves the time-stamp (6, 22); the readings of log entries 53, 94 and 97. -/
def Obligations.TagsAndScrub : Prop :=
  (∀ (t : Nat) (single : List Nat) (s : State), Completes (.sramScrub t single []) s fun u =>
    u.get .ECC_CORR 0 = min (s.get .ECC_CORR 0 + single.length) 65535 ∧ u.mem = s.mem ∧ PostsNone (s.atTick t) u) ∧
  (∀ (t a : Nat) (s : State), a < 0x420000 → s.get .SEQ_DOWN 0 = 0 → s.get .SEQ_EPOCH_MOVED 0 = 0 → Completes (.sramScrub t [] [a]) s fun u =>
    u.get .ECC_UNCORR 0 = min (s.get .ECC_UNCORR 0 + 1) 65535 ∧ a ∈ u.eccBad ∧ u.get .SEQ_DOWN 0 = 1 ∧
    u.get .SEQ_CAUSE 0 = 2) ∧
  (∀ (t a : Nat) (s : State), 0x440000 ≤ a → Completes (.sramScrub t [] [a]) s fun u =>
    u.get .ECC_UNCORR 0 = min (s.get .ECC_UNCORR 0 + 1) 65535 ∧ a ∈ u.eccBad ∧ u.get .SEQ_DOWN 0 = s.get .SEQ_DOWN 0 ∧
    PostsNone (s.atTick t) u) ∧
  (∀ (d k : Nat) (s : State), d < 16 → k < 56 → 0 < s.get .TAG_QUEUE d → s.get .TAG_QUEUE d < 2 ^ 16 →
    (∀ e < d, s.get .TAG_QUEUE e = 0) → s.get .TAG_BUSY k = 0 → s.get .TAG_QUARANTINE k = 0 →
    (∀ j < k, s.get .TAG_BUSY j ≠ 0 ∨ s.get .TAG_QUARANTINE j ≠ 0) → Completes .tagWaitRelease s fun u =>
      u.get .TAG_QUEUE d = s.get .TAG_QUEUE d - 1 ∧ u.get .TAG_BUSY k = 1 ∧ u.get .TAG_HELPER k = d ∧ PostsNone s u) ∧
  (∀ (tag : Fin 64) (epoch : Nat) (s : State), epoch ≠ s.get .TAG_EPOCH tag → Completes (.helperResult tag epoch) s fun u =>
    u.get .STALE_DROP 0 = min (s.get .STALE_DROP 0 + 1) 65535 ∧ u.get .TAG_BUSY tag = s.get .TAG_BUSY tag) ∧
  (∀ (tag : Fin 64) (s : State), s.get .TAG_EPOCH tag = s.get .DOM_EPOCH (s.get .TAG_HELPER tag) → s.get .TAG_BUSY tag = 1 →
    Completes (.helperResult tag (s.get .TAG_EPOCH tag)) s fun u =>
      u.get .TAG_BUSY tag = 0 ∧ u.get .STALE_DROP 0 = s.get .STALE_DROP 0 ∧
      u.get .TAG_QUARANTINE tag = s.get .TAG_QUARANTINE tag) ∧
  (∀ (t : Nat) (tag : Fin 64) (s : State), s.get .TB_RUNNING 0 = 1 → s.get .TAG_BUSY tag = 1 →
    s.get .TAG_SINCE tag + 160000 ≤ max s.ts t → s.get .RECLAIM_SEEN (s.get .TAG_HELPER tag) = 0 →
    Completes (.tagReclaim t tag) s fun u =>
      u.get .TAG_BUSY tag = 0 ∧ u.get .TAG_QUARANTINE tag = 1 ∧
      u.get .TAG_RECLAIM 0 = min (s.get .TAG_RECLAIM 0 + 1) 65535 ∧ u.get .RECLAIM_SEEN (s.get .TAG_HELPER tag) = 1 ∧
      PostsNone (s.atTick t) u) ∧
  (∀ (t : Nat) (n : Fin 70) (d : Nat) (s : State), n.val = 26 + d → s.get .DOM_RESTART_WAIT d = 1 →
    domEpochFree (s.atTick t) d = true → motionNeeds s d = false → (d = 1 → anyEnabled s = false) →
    s.get .DOM_RESTARTING d = 0 → Completes (.epochDeferredAdvance t n) s fun u =>
      u.get .DOM_RESTARTING d = 1 ∧ u.get .DOM_RESTART_WAIT d = 0 ∧
      u.get .DOM_RESTARTS 0 = min (s.get .DOM_RESTARTS 0 + 1) 65535) ∧
  (∀ (t : Nat) (n : Fin 70) (c : Nat) (s : State), n.val = 8 + c → c < 18 → s.get .CONV_EPOCH_DUE c = 1 →
    s.get .CONV_EPOCH_MOVED c = 0 → Completes (.epochDeferredAdvance t n) s fun u =>
      u.get .CONV_EPOCH_DUE c = 0 ∧ u.get .CONV_EPOCH c = (s.get .CONV_EPOCH c + 1) % 16 ∧ PostsNone (s.atTick t) u)

/-- R47 to R53: the queues. A producer's pointer advances by at most the free room and a consumer's by at most the fill;
any other value leaves both pointers where they are and is counted and flagged; a reset empties a queue whose new
layout holds and takes that layout in, and one whose layout breaks the rules, or whose queue is in use, changes no
layout. The model's choices it rests on: the readings of log entries 9 and 98. -/
def Obligations.QueuePointers : Prop :=
  (∀ (q : QueueId) (v : Nat) (s : State), q.val < 8 → s.getBit .DOM_ON 0 1 = true → s.dv .PRODUCER q = 2 →
    s.get .QWR q < 2 * s.qSize q → v < 2 * s.qSize q → v < 2 ^ 15 →
    s.qFill q + (v + 2 * s.qSize q - s.get .QWR q) % (2 * s.qSize q) ≤ s.qSize q →
    Completes (.qwrWrite .spi q (0xFFFF * 2 ^ 16 + v)) s fun u => u.get .QWR q = v ∧ u.answer = [0xA0]) ∧
  (∀ (q : QueueId) (v : Nat) (s : State), s.getBit .DOM_ON 0 1 = true → v < 2 ^ 15 →
    (8 ≤ q.val ∨ s.dv .PRODUCER q ≠ 2 ∨ 2 * s.qSize q ≤ v ∨
      s.qSize q < s.qFill q + (v + 2 * s.qSize q - s.get .QWR q) % (2 * s.qSize q)) →
    Completes (.qwrWrite .spi q (0xFFFF * 2 ^ 16 + v)) s fun u =>
      u.get .QWR q = s.get .QWR q ∧ u.get .QRD q = s.get .QRD q ∧ u.get .QWR_REJ q = 1 ∧
      u.get .QDROP q = min (s.get .QDROP q + 1) 65535) ∧
  (∀ (q : QueueId) (v : Nat) (s : State), s.get .SEQ_DOWN 0 = 0 → s.getBit .DOM_ON 0 1 = true → v < 2 ^ 15 →
    Completes (.qwrWrite .window q (0xFFFF * 2 ^ 16 + v)) s fun u =>
      u.get .QWR q = s.get .QWR q ∧ u.get .QRD q = s.get .QRD q ∧ u.get .QWR_REJ q = 1 ∧
      u.get .QDROP q = min (s.get .QDROP q + 1) 65535) ∧
  (∀ (q : QueueId) (v : Nat) (s : State), 8 ≤ q.val → q.val < 12 → s.getBit .DOM_ON 0 1 = true →
    v < 2 * s.qSize q → v < 2 ^ 15 → (v + 2 * s.qSize q - s.get .QRD q) % (2 * s.qSize q) ≤ s.qFill q →
    Completes (.qrdWrite .spi q (0xFFFF * 2 ^ 16 + v)) s fun u =>
      u.get .QRD q = v ∧ u.get .QWR q = s.get .QWR q ∧
      u.get .QLEVEL q = (s.get .QWR q + 2 * s.qSize q - v) % (2 * s.qSize q) % 2 ^ 15) ∧
  (∀ (path : RegPath) (q : QueueId) (v : Nat) (s : State), s.get .SEQ_DOWN 0 = 0 → s.getBit .DOM_ON 0 1 = true →
    v < 2 ^ 15 →
    (q.val < 8 ∨ 12 ≤ q.val ∨ 2 * s.qSize q ≤ v ∨
      s.qFill q < (v + 2 * s.qSize q - s.get .QRD q) % (2 * s.qSize q)) →
    Completes (.qrdWrite path q (0xFFFF * 2 ^ 16 + v)) s fun u =>
      u.get .QRD q = s.get .QRD q ∧ u.get .QWR q = s.get .QWR q ∧ u.get .QRD_REJ q = 1 ∧
      u.get .QDROP q = min (s.get .QDROP q + 1) 65535) ∧
  (∀ (q : QueueId) (offered : Nat) (s : State), layoutOk s q = true → qresetBusy s q = false →
    Completes (.qreset q offered) s fun u =>
      u.get .QRD q = 0 ∧ u.get .QWR q = 0 ∧ u.get .QLEVEL q = 0 ∧ u.dv .QBASE q = s.get .QBASE q % 2 ^ Reg.width .QBASE ∧
      u.dv .QSIZE_LOG2 q = s.get .QSIZE_LOG2 q % 16 ∧ u.dv .PRODUCER q = s.get .PRODUCER q % 4 ∧
      u.get .QDROP q = min (s.get .QDROP q + offered) 65535) ∧
  (∀ (q : QueueId) (offered : Nat) (s : State), layoutOk s q = false ∨ qresetBusy s q = true →
    Completes (.qreset q offered) s fun u =>
      u.get .QCFG_REJ q = 1 ∧ u.get .QWR q = s.get .QWR q ∧ u.get .QRD q = s.get .QRD q ∧
      u.dv .QBASE q = s.dv .QBASE q ∧ u.dv .QSIZE_LOG2 q = s.dv .QSIZE_LOG2 q ∧ u.dv .PRODUCER q = s.dv .PRODUCER q ∧
      u.get .QBASE q = s.get .QBASE q ∧ u.get .QSIZE_LOG2 q = s.get .QSIZE_LOG2 q ∧
      u.get .PRODUCER q = s.get .PRODUCER q ∧ PostsNone s u)

/-- R94, R96, R105, R249, R265: the port map and the ports. An applied map is taken as a whole or, with the code, port
and slot of the first check that fails, not at all; a set develops, in one handshake, only once its slots are
disabled, its X-ports are off and the spare pool holds its engines; GROUP is refused on a port in use or in a set
that waits; PWM_EN reaches every port of the axis, and cleared turns an X-port off at once. The model's choices it
rests on: that a command does nothing where its condition does not hold (21, 23); the readings of log entries 51 and
98. -/
def Obligations.PortMap : Prop :=
  (∀ (v : Nat) (s : State), v ≠ 1 → s.get .SEQ_DOWN 0 = 0 → Completes (.portmapApply v) s fun u =>
    u.get .ANS_ABORT 0 = 0x06090030 ∧ (∀ p, u.get .MAP_ROLE p = s.get .MAP_ROLE p) ∧ PostsNone s u) ∧
  (∀ (s : State), s.get .SEQ_DOWN 0 = 0 → (mapCheck s).1 = 0 → Completes (.portmapApply 1) s fun u =>
    u.get .ANS_ABORT 0 = 0 ∧ PostsNone s u ∧ (∀ p < 32, u.get .MAP_ROLE p = s.get .PORT_ROLE p % 256) ∧
    (∀ i < 8, u.get .MAP_KIND i = latentKind s i % 256) ∧
    u.get .MAP_CODE 0 = (if u.get .MAP_WAIT 0 = 0 ∧ u.get .MAP_WAIT_X 0 = 0 then 0 else 1)) ∧
  (∀ (s : State), s.get .SEQ_DOWN 0 = 0 → (mapCheck s).1 ≠ 0 → Completes (.portmapApply 1) s fun u =>
    u.get .ANS_ABORT 0 = 0 ∧ PostsNone s u ∧ u.get .MAP_CODE 0 = (mapCheck s).1 ∧
    u.get .MAP_PORT 0 = (mapCheck s).2.1 ∧ u.get .MAP_SLOT 0 = (mapCheck s).2.2 ∧
    (∀ p < 32, u.get .MAP_ROLE p = s.get .PORT_ROLE_DEV p % 256) ∧ ∀ i < 8, u.get .MAP_KIND i = s.kind i % 256) ∧
  (∀ (n : Fin 40) (i : Nat) (s : State), n.val = i → i < 8 → slotWaits s i = true →
    setReady s (setOf s i) (setPorts s (setOf s i)) = true → (setEngines s (setOf s i)).isSome = true →
    s.get .MAP_KIND i < 4 → (∀ p < 32, s.get .MAP_ROLE p < 256) →
    Completes (.portmapSetDevelop n) s fun u => u.dv .SLOT_KIND i = s.get .MAP_KIND i ∧ u.getBit .MAP_WAIT 0 i = false ∧
      ∀ p ∈ setPorts s (setOf s i), u.get .PORT_ROLE_DEV p = s.get .MAP_ROLE p ∧ u.get .DDIE_ROLE p = s.get .MAP_ROLE p ∧
        u.get .PORT_DRIVE p = 0) ∧
  (∀ (n : Fin 40) (p : Nat) (s : State), n.val = 8 + p → s.get .MAP_ROLE p ≠ s.get .PORT_ROLE_DEV p →
    8 ≤ s.portOwner p → 8 ≤ acceptedOwner s p → s.get .PWM_EN p = 0 → s.get .MAP_ROLE p < 256 →
    Completes (.portmapSetDevelop n) s fun u =>
      u.get .PORT_ROLE_DEV p = s.get .MAP_ROLE p ∧ u.get .PORT_DRIVE p = 0 ∧ u.get .DDIE_ROLE p = s.get .MAP_ROLE p) ∧
  (∀ (n : Fin 40) (i : Nat) (s : State), n.val = i → i < 8 → setReady s (setOf s i) (setPorts s (setOf s i)) = false ∨
    (setEngines s (setOf s i)).isNone = true → Completes (.portmapSetDevelop n) s fun u => u = s) ∧
  (∀ (p : Port) (g : Nat) (s : State), g < 16 → s.isAxisPort p = false → groupBusy s p = false →
    setWaits s p = false → Completes (.groupWrite p g) s fun u =>
      u.get .GROUP p = g ∧ u.get .GROUP_WAIT p = 1 ∧ (∀ q, q ≠ p.val → u.get .GROUP q = s.get .GROUP q) ∧ PostsNone s u) ∧
  (∀ (p : Port) (g : Nat) (s : State), g < 16 → groupBusy s p = true ∨ setWaits s p = true →
    Completes (.groupWrite p g) s fun u =>
      (∀ q ∈ axisFan s p, u.get .GRP_REJ q = 1) ∧ (∀ q, u.get .GROUP q = s.get .GROUP q) ∧ PostsNone s u) ∧
  (∀ (p : Port) (s : State), s.isAxisPort p = true → Completes (.pwmEnWrite p true) s fun u =>
    (∀ q ∈ s.slotPorts (s.portOwner p), u.get .PWM_EN q = 1 ∧ u.get .X_HELD q = 0) ∧ PostsNone s u) ∧
  (∀ (p : Port) (s : State), s.isAxisPort p = false → s.get .HB_OUT (p / 8) = 0 → Completes (.pwmEnWrite p false) s fun u =>
    u.get .PWM_EN p = 0 ∧ u.get .PORT_DRIVE p = 0 ∧ PostsNone s u)

/-- R112, R120, R124: segments. A producer's entry goes to the queue of its slot where there is room; a restart of a
stream that has stopped takes the present position as its tail; a start action falls due at its instant. The model's
choices it rests on: that a command does nothing where its condition does not hold (21, 23); how an operand `t`
moves the time-stamp (6, 22); the readings of log entries 9, 29 and 98. -/
def Obligations.Segments : Prop :=
  (∀ (i : Slot) (a b c d : Nat) (s : State), a < 2 ^ 32 → b < 2 ^ 32 → c < 2 ^ 32 → d < 2 ^ 32 → s.get .SEQ_DOWN 0 = 0 →
    s.get .SEG_STATE i = 0 → s.dv .PRODUCER i = 0 → s.getBit .DOM_ON 0 3 = true → s.dv .QSIZE_LOG2 i < 14 →
    s.qFill i < s.qSize i → Completes (.segWrite i ([a, b, c, d].flatMap (leBytes 4))) s fun u =>
      u.get .ANS_ABORT 0 = 0 ∧ u.words (s.qAddr i (s.get .QWR i)) 4 = [a, b, c, d] ∧
      u.get .QWR i = (s.get .QWR i + 1) % (2 * s.qSize i) ∧ u.get .QRD i = s.get .QRD i ∧
      ∀ x, x < s.qAddr i (s.get .QWR i) ∨ s.qAddr i (s.get .QWR i) + 16 ≤ x → u.mem.read x = s.mem.read x) ∧
  (∀ (i : Slot) (bytes : List Nat) (s : State), s.get .SEQ_DOWN 0 = 0 → bytes.length % 16 ≠ 0 →
    Completes (.segWrite i bytes) s fun u =>
      u.get .ANS_ABORT 0 = 0x06070010 ∧ u.mem = s.mem ∧ u.get .QWR i = s.get .QWR i) ∧
  (∀ (i : Slot) (w : Nat) (s : State), w < 2 ^ 32 → s.get .SEG_STATE i = 0 →
    s.dv .PRODUCER i = 1 → s.getBit .DOM_ON 0 3 = true → s.dv .QSIZE_LOG2 i < 14 → s.qFill i < s.qSize i →
    (∀ k < 3, s.get .SEG_PDO_W (4 * i + k) < 2 ^ 32) → Completes (.segPdoEnqueue i w) s fun u =>
      u.get .ANS_ABORT 0 = 0 ∧ u.get .QWR i = (s.get .QWR i + 1) % (2 * s.qSize i) ∧
      u.words (s.qAddr i (s.get .QWR i)) 4 =
        [s.get .SEG_PDO_W (4 * i), s.get .SEG_PDO_W (4 * i + 1), s.get .SEG_PDO_W (4 * i + 2), w]) ∧
  (∀ (i : Slot) (w : Nat) (s : State), s.getBit .DOM_ON 0 3 = true →
    s.dv .PRODUCER i ≠ 1 → Completes (.segPdoEnqueue i w) s
    fun u => u.get .ANS_ABORT 0 = 0x08000022 ∧ u.mem = s.mem ∧ u.get .QWR i = s.get .QWR i) ∧
  (∀ (i : Slot) (s : State), s.get .SEG_STATE i = 4 ∨ s.get .SEG_STATE i = 5 ∨ s.get .SEG_STATE i = 7 →
    Completes (.segRestart i) s fun u =>
      u.get .SEG_STATE i = 1 ∧ u.geti .TAIL_P i = s.geti .OUT_P i ∧ u.geti .TAIL_V i = 0 ∧ u.get .SEG_DISCARDING i = 0 ∧
      u.motion = s.motion ∧ PostsNone s u) ∧
  (∀ (i : Slot) (s : State), s.get .SEG_STATE i ≠ 4 → s.get .SEG_STATE i ≠ 5 → s.get .SEG_STATE i ≠ 7 →
    Completes (.segRestart i) s fun u =>
      u.get .CLASH_LOST 0 = min (s.get .CLASH_LOST 0 + 1) 65535 ∧ u.get .SEG_STATE i = s.get .SEG_STATE i ∧ PostsNone s u) ∧
  (∀ (t : Nat) (a : Arming) (s : State), s.armed = [a] → a.slot < 8 → a.evt = true → a.trig = false → a.capt = false →
    a.instant ≤ (s.atTick t).ts → Completes (.segmentStartActions t) s fun u =>
      u.armed = [] ∧ SameEvents ((s.atTick t).postAt 0x0400 0x1 a.slot (a.ptr + a.segDone * 65536) a.tSeg) u) ∧
  (∀ (t : Nat) (s : State), (∀ a ∈ s.armed, (s.atTick t).ts < a.instant) → Completes (.segmentStartActions t) s fun u =>
    u = s.atTick t)

/-- R127, R129, R154: goes, waits and chains. A go reaches every member of a fixed accord; a SYNC segment that has
waited its bound breaks its stream off; a chain that misses more targets than allowed stops with an event. The
model's choices it rests on: that a command does nothing where its condition does not hold (21, 23); how an operand
`t` moves the time-stamp (6, 22); the readings of log entries 26 and 82. -/
def Obligations.AccordsAndWaits : Prop :=
  (∀ (n : Fin 8) (go : Nat) (s : State), go < 2 ^ 64 → s.get .ACC_MODE n ≠ 0 → s.get .ROLE_ACT 0 = 0 →
    Completes (.accGo n go) s fun u =>
      (∀ i < 8, s.getBit .ACC_MEMB n i = true →
        u.getBit .ACC_PEND n i = true ∧ u.get .GO_T (n * 8 + i) = go ∧ u.get .GO_SEEN i = 0) ∧ PostsNone s u) ∧
  (∀ (n : Fin 8) (go : Nat) (s : State), s.get .ACC_MODE n = 0 → Completes (.accGo n go) s fun u => u = s) ∧
  (∀ (t : Nat) (i : Slot) (s : State), s.get .TB_RUNNING 0 = 1 → s.get .SEG_STATE i = 3 → s.dv .SYNC_TIMEOUT i ≠ 0 →
    s.get .ARRIVAL i + s.dv .SYNC_TIMEOUT i * 160000 ≤ max s.ts t → Completes (.syncTimeout t i) s fun u =>
      u.get .SEG_STATE i = 7 ∧ u.get .SYNC_TO i = 1 ∧ u.get .GO_SEEN i = 0 ∧
      (∀ n < 8, u.getBit .ACC_WAITING n i = false) ∧
      LastEvent u 0x0406 0x1 i (waitAccord s i)) ∧
  (∀ (t : Nat) (i : Slot) (s : State), s.get .SEG_STATE i ≠ 3 → Completes (.syncTimeout t i) s fun u => u = s.atTick t) ∧
  (∀ (t : Nat) (i : Slot) (g : Seg) (s : State), s.get .TB_RUNNING 0 = 1 → chainEnd (s.atTick t) i = some g →
    s.get .CH_STATE i = 1 → g.endTick ≤ max s.ts t → s.get .CH_STOP i = 0 → s.dv .CS_MISS_MAX i ≤ s.get .CH_MISSED i →
    Completes (.csLoss t i) s fun u =>
      u.get .CH_STATE i = 2 ∧ LastEvent u 0x0504 0x1 i (s.get .CH_MISSED i + 1)) ∧
  (∀ (t : Nat) (i : Slot) (s : State), s.get .CH_MISSED i < s.dv .CS_MISS_MAX i → Completes (.csLoss t i) s fun u =>
    u = s.atTick t)

/-- R138, R147, R156 to R159, R432: modes, set-points, interpolation and halts. A mode the slot's kind has is taken as
asked; a set-point with the change-immediately bit becomes the target; a halt asks for a stop and its release starts
the source again. The model's choices it rests on: the readings of log entries 26, 39, 76 and 98. -/
def Obligations.SetPointsAndHalts : Prop :=
  (∀ (i : Slot) (m : Int) (s : State), s.get .SEQ_DOWN 0 = 0 → inRing s i = false → -128 ≤ m → m ≤ 127 →
    modeCode m = true → modeSupported (s.kind i) m = true → Completes (.modeChange i m) s fun u =>
      u.geti .MODE i = m ∧ u.get .ANS_ABORT 0 = 0 ∧ u.get .MODE_DISP i = s.get .MODE_DISP i ∧ PostsNone s u) ∧
  (∀ (i : Slot) (m : Int) (s : State), s.get .SEQ_DOWN 0 = 0 → inRing s i = false → -128 ≤ m → m ≤ 127 →
    modeCode m = true → modeSupported (s.kind i) m = false → Completes (.modeChange i m) s fun u =>
      u.get .MODE i = s.get .MODE i ∧ u.get .ANS_ABORT 0 = 0x08000022 ∧ PostsNone s u) ∧
  (∀ (i : Slot) (cw : Nat) (s : State), s.get .SEQ_DOWN 0 = 0 → inRing s i = false → s.geti .MODE_DISP i = 1 →
    s.get .DRIVE_STATE i = 4 → s.get .CONTROLWORD i = 0xF → rideThrough s i = false → bit cw 5 = true → bit cw 6 = false →
    s.gn2008 = false → s.dvi .SOFTLIM_LO i ≤ s.geti .TARGET_POS i → s.geti .TARGET_POS i ≤ s.dvi .SOFTLIM_HI i →
    Completes (.newSetPoint i cw) s fun u =>
      u.get .SP_ACK i = 1 ∧ u.get .TGT_SET i = 1 ∧ u.get .TGT_NEW i = 1 ∧ u.get .SP_FULL i = 0 ∧ u.get .PASS_V i = 0 ∧
      u.geti .TGT_P i = s.geti .TARGET_POS i * 65536 ∧ u.get .DRIVE_STATE i = 4 ∧ PostsNone s u) ∧
  (∀ (i : Slot) (s : State), s.get .SEQ_DOWN 0 = 0 → inRing s i = false → s.get .DRIVE_STATE i = 4 →
    s.get .CONTROLWORD i = 0xF → rideThrough s i = false → s.get .HOME_STATE i = 0 → s.get .STOP_REQ i = 0 →
    Completes (.halt i) s fun u =>
      u.get .CONTROLWORD i = 0x10F ∧ u.get .HALTED i = 1 ∧ u.get .STOP_REQ i = 1 ∧
      u.get .STOP_REQ_RATE i = haltRate s i % 2 ^ Reg.width .STOP_REQ_RATE ∧ u.get .DRIVE_STATE i = 4 ∧ PostsNone s u) ∧
  (∀ (i : Slot) (s : State), s.get .SEQ_DOWN 0 = 0 → inRing s i = false → s.get .DRIVE_STATE i = 4 →
    s.get .CONTROLWORD i = 0x10F → rideThrough s i = false → s.get .HALTED i = 1 → s.get .BUS_HALT 0 = 0 →
    s.geti .MODE_DISP i = 3 → Completes (.haltRelease i) s fun u =>
      u.get .CONTROLWORD i = 0xF ∧ u.get .HALTED i = 0 ∧ u.get .TGT_NEW i = 1 ∧ PostsNone s u) ∧
  (∀ (i : Slot) (s : State), s.get .SEQ_DOWN 0 = 0 → inRing s i = false → s.get .DRIVE_STATE i = 4 →
    s.get .CONTROLWORD i = 0xF → rideThrough s i = false → s.geti .MODE_DISP i = 7 →
    Completes (.enableInterpolation i true) s fun u =>
      u.get .CONTROLWORD i = 0x1F ∧ u.get .CH_STOP i = 0 ∧ PostsNone s u) ∧
  (∀ (i : Slot) (s : State), s.get .SEQ_DOWN 0 = 0 → inRing s i = false → s.get .DRIVE_STATE i = 4 →
    s.get .CONTROLWORD i = 0x1F → rideThrough s i = false → s.geti .MODE_DISP i = 7 → s.get .CH_STATE i = 1 →
    ((s.mo i).chain.take 1).any (fun g => decide (g.start ≤ s.get .EV_T i)) = true → s.motion.length = 8 →
    Completes (.enableInterpolation i false) s fun u =>
      u.get .CONTROLWORD i = 0xF ∧ u.get .CH_STOP i = 1 ∧ u.get .SP_ACK i = 0 ∧ (u.mo i).chain = (s.mo i).chain.take 1 ∧ PostsNone s u) ∧
  (∀ (i : Slot) (s : State), s.get .SEQ_DOWN 0 = 0 → inRing s i = false → s.get .DRIVE_STATE i = 4 →
    s.get .CONTROLWORD i = 0x1F → rideThrough s i = false → s.geti .MODE_DISP i = 7 → s.get .CH_STATE i = 1 →
    (s.mo i).chain = [] → Completes (.enableInterpolation i false) s fun u =>
      u.get .CONTROLWORD i = 0xF ∧ u.get .CH_STATE i = 0 ∧ u.get .SP_ACK i = 0 ∧ PostsNone s u)

/-- R160, R163 to R172, R176: switches, index, homing and step-follow. Every qualified level is taken; an edge of the
method's switch ends the search phase; the index in its phase is the reference; homing fails with the code of what
ended it; a counting edge of STEP moves the count by one in the direction of DIR. The model's choices it rests on:
that a command does nothing where its condition does not hold (21, 23); how an operand `t` moves the time-stamp (6,
22); the readings of log entries 17, 28 and 78. -/
def Obligations.HomingAndSteps : Prop :=
  (∀ (t : Nat) (i : Slot) (positive level : Bool) (s : State), s.get .TB_RUNNING 0 = 1 → Completes (.limitSwitchEdge t i positive level) s fun u =>
    u.getBit .SW_BALL i (if positive then 1 else 0) = level) ∧
  (∀ (t : Nat) (i : Slot) (positive level : Bool) (s : State), s.getBit .SW_BALL i (if positive then 1 else 0) = level →
    Completes (.limitSwitchEdge t i positive level) s fun u => u = s.atTick t) ∧
  (∀ (t : Nat) (i : Slot) (s : State), s.get .TB_RUNNING 0 = 1 → s.getBit .SW_BALL i 2 = false → s.get .BOOT_DONE 0 = 1 → roleOf s i 2 = 3 →
    roleActive s i 3 = false → roleActive (refreshSwitches ((s.atTick t).setBit .SW_BALL i 2 true) i) i 3 = true →
    s.get .HOME_STATE i = 1 → s.get .HM_TAKEN i = 0 → searchSwitch (s.geti .HM_METHOD i) = 3 →
    Completes (.homeSwitchEdge t i true) s fun u =>
      u.getBit .SW_BALL i 2 = true ∧ u.get .HM_TAKEN i = 1 ∧ u.get .HM_REQ i = 2 ∧ u.get .HOME_STATE i = 1) ∧
  (∀ (t : Nat) (c : Slot) (level : Bool) (s : State), s.get .TB_RUNNING 0 = 1 → Completes (.indexEdge t c level) s fun u =>
    u.getBit .FB_STAT c 8 = level) ∧
  (∀ (t : Nat) (c : Slot) (s : State), s.get .TB_RUNNING 0 = 1 → s.getBit .FB_STAT c 8 = false → s.get .BOOT_DONE 0 = 1 → chMode s c ≠ 2 →
    s.dv .Z_POL c = 1 → s.dv .Z_GATE c = 0 → s.get .HOME_STATE c = 3 → Completes (.indexEdge t c true) s fun u =>
      u.get .HOME_STATE c = 4 ∧ u.get .HM_REQ c = 2 ∧ u.get .HM_TAKEN c = 1) ∧
  (∀ (i : Slot) (s : State), s.get .SEQ_DOWN 0 = 0 → inRing s i = false → s.geti .MODE_DISP i = 6 →
    s.get .DRIVE_STATE i = 4 → s.get .CONTROLWORD i = 0xF → rideThrough s i = false → homingRuns s i = false →
    s.geti .HOMING_METHOD i = 37 → Completes (.homingStart i) s fun u =>
      u.get .HOME_STATE i = 5 ∧ u.get .HOMED i = 1 ∧ u.get .HOME_FAIL i = s.get .HOME_FAIL i ∧
      Posts s u 0x0505 0x1 i (u.get .HOME_LATCH i % 2 ^ 32)) ∧
  (∀ (i : Slot) (s : State), s.get .SEQ_DOWN 0 = 0 → inRing s i = false → s.geti .MODE_DISP i = 6 →
    s.get .DRIVE_STATE i = 4 → s.get .CONTROLWORD i = 0xF → rideThrough s i = false → homingRuns s i = false →
    methodFits s i (s.geti .HOMING_METHOD i) = false → Completes (.homingStart i) s fun u =>
      u.get .HOME_STATE i = 7 ∧ u.get .HOMED i = 0 ∧ u.get .HOME_FAIL i = 6 ∧ Posts s u 0x0506 0x1 i 6) ∧
  (∀ (i : Slot) (s : State), 1 ≤ s.get .HOME_STATE i → s.get .HOME_STATE i ≤ 4 → s.dv .CHATTER_MAX i < s.get .HOME_EDGES i →
    Completes (.homingChatter i) s fun u => u.get .HOME_FAIL i = 1 ∧ u.get .HOMED i = 0 ∧ Posts s u 0x0506 0x1 i 1) ∧
  (∀ (i : Slot) (s : State), 1 ≤ s.get .HOME_STATE i → s.get .HOME_STATE i ≤ 4 → s.dv .HOME_DIST_MAX i ≠ 0 →
    s.dv .HOME_DIST_MAX i * 65536 < homingTravel s i → Completes (.homingDistance i) s fun u =>
      u.get .HOME_FAIL i = 3 ∧ u.get .HOMED i = 0 ∧ Posts s u 0x0506 0x1 i 3) ∧
  (∀ (i : Slot) (s : State), s.get .HOME_STATE i = 3 → s.dv .HOME_IDX_MAX i * 65536 < homingTravel s i →
    Completes (.homingNoIndex i) s fun u => u.get .HOME_FAIL i = 4 ∧ u.get .HOMED i = 0 ∧ Posts s u 0x0506 0x1 i 4) ∧
  (∀ (t : Nat) (c : Slot) (level dir : Bool) (s : State), s.get .TB_RUNNING 0 = 1 → s.flag .STEP_LEVEL c ≠ level → s.dflag .SF_EDGE c ≠ level →
    Completes (.stepEdge t c level dir) s fun u =>
      u.get .STEP_LEVEL c = (if level then 1 else 0) ∧ u.get .DIR_LEVEL c = (if dir then 1 else 0) ∧
      u.get .SF_COUNT c = ofSigned 32 (s.geti .SF_COUNT c + if dir = s.dflag .SF_DIR_INV c then -1 else 1)) ∧
  (∀ (t : Nat) (c : Slot) (level dir : Bool) (s : State), s.get .TB_RUNNING 0 = 1 → s.flag .STEP_LEVEL c = level ∨ s.dflag .SF_EDGE c = level →
    Completes (.stepEdge t c level dir) s fun u =>
      u.get .STEP_LEVEL c = (if level then 1 else 0) ∧ u.get .SF_COUNT c = s.get .SF_COUNT c) ∧
  (∀ (i : Slot) (s : State), s.get .SF_STATE i = 3 → s.get .STILL_CMD i = 1 → Completes (.sfRestart i) s fun u =>
    u.get .SF_STATE i = 1 ∧ PostsNone s u) ∧
  (∀ (i : Slot) (s : State), s.get .SF_STATE i = 1 ∨ s.get .SF_STATE i = 2 → Completes (.sfRestart i) s fun u =>
    u.get .SF_STATE i = s.get .SF_STATE i ∧ u.get .CLASH_LOST 0 = min (s.get .CLASH_LOST 0 + 1) 65535 ∧ PostsNone s u)

/-- R195, R198, R201, R203, R208: what the current regulator declares. A sense that gives no samples, a bus reading that
has aged, a duty that has come back, a hold that has lasted, a winding that does not answer and a sum that is not
zero each set their flag and post their event; those that are faults take the slot out with their cause. The model's
choices it rests on: that a command does nothing where its condition does not hold (21, 23); how an operand `t`
moves the time-stamp (6, 22); the readings of log entries 81 and 98. -/
def Obligations.CurrentConditions : Prop :=
  (∀ (i : Slot) (w : Nat) (s : State), firstComp s i (fun k => decide (s.dv .NOSAMPLE_MAX i ≤ s.get .W_MISS k)) = some w →
    s.getBit .REG_STAT i 4 = false → s.dv .NOSAMPLE_MAX i ≠ 0 → slotFaulted s i = false →
    Completes (.curSenseLost i) s fun u =>
      u.get .SENSE_LOST i = 1 ∧ u.get .FAULT_CAUSE i = 0x0F ∧ (u.get .DRIVE_STATE i = 6 ∨ u.get .DRIVE_STATE i = 7)) ∧
  (∀ (i : Slot) (s : State), (∀ w < 2, s.get .W_MISS (4 * i.val + w) < s.dv .NOSAMPLE_MAX i) →
    Completes (.curSenseLost i) s fun u => u = s) ∧
  (∀ (t : Nat) (i : Slot) (s : State), s.get .TB_RUNNING 0 = 1 → s.get .FF_POSTED i = 0 →
    s.get .VBUS_TICK i + 160000 < max s.ts t → Completes (.busFfStale t i) s fun u =>
      u.getBit .REG_STAT i 5 = true ∧ u.get .FF_POSTED i = 1 ∧ Posts (s.atTick t) u 0x0605 0x1 i (s.get .VBUS_FF i)) ∧
  (∀ (t : Nat) (i : Slot) (s : State), s.get .FF_POSTED i = 1 → Completes (.busFfStale t i) s fun u => u = s.atTick t) ∧
  (∀ (i : Slot) (s : State), s.getBit .REG_STAT i 0 = true → 16 ≤ s.get .HD_LOW i → Completes (.highDutyExit i) s fun u =>
    u.getBit .REG_STAT i 0 = false ∧ u.get .HD_LOW i = 0 ∧ u.get .HD_COUNT i = 0 ∧ Posts s u 0x0606 0x1 i 0) ∧
  (∀ (t : Nat) (i : Slot) (s : State), s.get .TB_RUNNING 0 = 1 → s.kind i = 1 → s.dv .HOLD_DELAY i ≠ 0 →
    s.get .STILL_CMD i = 1 → s.getBit .REG_STAT i 3 = false →
    s.get .HOLD_SINCE i + s.dv .HOLD_DELAY i * 160000 ≤ max s.ts t → Completes (.standstillReduction t i) s fun u =>
      u.getBit .REG_STAT i 3 = true ∧ u.get .RAMP_SINCE i = max s.ts t % 2 ^ 64 ∧ PostsNone (s.atTick t) u) ∧
  (∀ (i : Slot) (w : Nat) (s : State), firstComp s i (fun k => decide (32 ≤ s.get .W_OPEN k)) = some w →
    slotFaulted s i = false → Completes (.openWinding i) s fun u =>
      u.get .OPEN_WIND i = 1 ∧ u.get .DRIVE_STATE i = 7 ∧ u.get .FAULT_CAUSE i = 0x0C) ∧
  (∀ (i : Slot) (w : Nat) (s : State), firstComp s i (fun k => decide (8 ≤ s.get .W_SUM k)) = some w →
    slotFaulted s i = false → Completes (.curSumErr i) s fun u =>
      u.get .SUM_ERR i = 1 ∧ u.get .FAULT_CAUSE i = 0x0D ∧ (u.get .DRIVE_STATE i = 6 ∨ u.get .DRIVE_STATE i = 7))

/-- R226 to R238: stalls and winding probes. A stall that has been found is declared and counted, and faults the slot
where it is not recovered; a probe starts under its conditions and ends with its time; the calibration of a winding
needs its authority; an estimate that is too old says so. The model's choices it rests on: that a command does
nothing where its condition does not hold (21, 23); how an operand `t` moves the time-stamp (6, 22); the readings of
log entries 30, 43, 74, 98 and 99. -/
def Obligations.StallsAndProbes : Prop :=
  (∀ (i : Slot) (s : State), s.get .STALL_NOW i ≠ 0 → s.get .PROBE_KIND i = 0 → s.dv .STALL_ACTION i = 0 →
    s.get .HOME_STATE i ≠ 1 → Completes (.stallDetected i) s fun u =>
      u.get .STALL_NOW i = 0 ∧ u.get .STALL i = 1 ∧ u.get .STALL_CNT i = min (s.get .STALL_CNT i + 1) 65535 ∧
      Posts s u 0x0700 0x1 i (s.get .STALL_NOW i - 1 + s.get .LOAD_ANGLE i * 65536)) ∧
  (∀ (i : Slot) (s : State), s.get .STALL_NOW i = 0 → Completes (.stallDetected i) s fun u => u = s) ∧
  (∀ (t : Nat) (i : Slot) (s : State), s.get .TB_RUNNING 0 = 1 → s.get .STALL_HOLD i ≠ 0 →
    s.get .STALL_HOLD i + 1600000 ≤ max s.ts t → slotFaulted s i = false → Completes (.stallFault t i) s fun u =>
      u.get .STALL_HOLD i = 0 ∧ u.get .FAULT_CAUSE i = 0xE ∧ u.get .DRIVE_STATE i = 7) ∧
  (∀ (t : Nat) (i : Slot) (s : State), probeDue (s.atTick t) i = true → s.kind i ≠ 0 →
    cyclePosts s i = true → probeStandOk (s.atTick t) i = true → Completes (.dcProbeStart t i) s fun u =>
      u.get .PROBE_KIND i = 1 ∧ u.get .PROBE_START_T i = (s.atTick t).ts % 2 ^ 64 ∧
      u.get .PROBE_HIGH i = s.get .CUR_AMP i % 65536 ∧ PostsNone (s.atTick t) u) ∧
  (∀ (t : Nat) (i : Slot) (s : State), probeDue (s.atTick t) i = false → Completes (.dcProbeStart t i) s fun u =>
    u = s.atTick t) ∧
  (∀ (t : Nat) (i : Slot) (s : State), probeDue (s.atTick t) i = true → s.kind i ≠ 0 → cyclePosts s i = true →
    probeRunOk s i (decide (commandedAccel (s.atTick t) i (s.atTick t).ts = 0)) = true →
    Completes (.daxisProbeStart t i) s fun u =>
      u.get .PROBE_KIND i = 2 ∧ u.get .PROBE_START_T i = (s.atTick t).ts % 2 ^ 64 ∧ PostsNone (s.atTick t) u) ∧
  (∀ (t : Nat) (i : Slot) (s : State), s.get .PROBE_KIND i ≠ 0 →
    s.get .PROBE_START_T i + 3200000 ≤ (s.atTick t).ts → Completes (.probeComplete t i) s fun u =>
      u.get .PROBE_KIND i = 0 ∧ u.get .PROBE_FOR_CAL i = 0 ∧ u.get .PROBE_LAST i = (s.atTick t).ts % 2 ^ 64) ∧
  (∀ (path : Path) (i : Slot) (s : State), s.get .SEQ_DOWN 0 = 0 → (path = .can → sdoServed s = true) →
    authOn s path.code = 3 → s.opEnabled i = true → s.get .STILL_CMD i = 1 → s.get .PROBE_DELTA i ≤ s.get .CUR_AMP i →
    -2560 ≤ s.geti .VW_CAL_TREF i → s.geti .VW_CAL_TREF i ≤ 3840 → Completes (.vwCal path i) s fun u =>
      u.get .ANS_ABORT 0 = 0 ∧ u.get .PROBE_KIND i = 1 ∧ u.get .PROBE_FOR_CAL i = 1) ∧
  (∀ (path : Path) (i : Slot) (s : State), s.get .SEQ_DOWN 0 = 0 → (path = .can → sdoServed s = true) →
    authOn s path.code < 2 → Completes (.vwCal path i) s fun u =>
      u.get .ANS_ABORT 0 = 0x08000020 ∧ u.get .PROBE_KIND i = s.get .PROBE_KIND i) ∧
  (∀ (t : Nat) (i : Slot) (s : State), s.get .VW_STATE i = 0 →
    s.get .R_UPD_TICK i + s.dv .VW_MAXAGE i * 160000000 < (s.atTick t).ts → Completes (.vwMaxageExpiry t i) s fun u =>
      u.get .VW_STATE i = 1 ∧ PostsNone (s.atTick t) u)

/-- R243, R245, R247, R250 to R252, R259 to R261: the PWM block. A period start is where the group's period puts it, and
opens the schedule of R245; LOAD_ALL stands until its period start and then develops, unless the window check
refuses the timing; an event goes through its prescaler to its routes; a pulse on TRIGO lasts as long as its width
says. The model's choices it rests on: that a command does nothing where its condition does not hold (21, 23); how
an operand `t` moves the time-stamp (6, 22); the readings of log entries 25, 34, 84, 89, 98 and 99. -/
def Obligations.PwmPeriods : Prop :=
  (∀ (g : Fin 16) (s : State), s.get .TB_RUNNING 0 = 1 → groupPeriod s g ≠ 0 → Completes (.periodStart g) s fun u =>
    u.get .GROUP_START g = nextStart s g % 2 ^ 64) ∧
  (∀ (g : Fin 16) (s : State), s.get .TB_RUNNING 0 = 0 ∨ groupPorts s g = [] → Completes (.periodStart g) s fun u => u = s) ∧
  (∀ (g : Fin 16) (p : Port) (s : State), s.get .TB_RUNNING 0 = 1 → groupPeriod s g ≠ 0 → groupPorts s g = [p.val] →
    groupSlots s g = [] → s.isX p = true → xRuns s p = true → s.get .GROUP_WAIT p = 0 → s.get .LOAD_LEFT g = 0 →
    s.get .DL_COARSE 0 = 0 → s.get .PERIOD_LOADED p = s.get .PERIOD_DEV p → s.get .PERIOD_LONG p ≤ s.get .PERIOD_LOADED p →
    braking s p = false → s.get .TRIPN_LOW (p / 8) = 0 →
    s.dv .DUTY p + s.get .DEAD_DEV p + (s.get .DEAD_DEV p + 320) ≤ 32 * s.get .PERIOD_DEV p → 320 ≤ s.dv .DUTY p →
    Completes (.periodStart g) s fun u =>
      u.get .PORT_DRIVE p = 1 ∧ u.get .LS_FROM p = s.get .DEAD_DEV p ∧
      u.get .LS_TO p = 32 * s.get .PERIOD_DEV p - s.dv .DUTY p - s.get .DEAD_DEV p ∧
      u.get .HS_FROM p = 32 * s.get .PERIOD_DEV p - s.dv .DUTY p ∧
      u.geti .C_DEV p = 32 * (s.get .PERIOD_DEV p : Int) - s.dv .DUTY p - s.get .DEAD_DEV p) ∧
  (∀ (g : Fin 16) (s : State), s.get .LOAD_LEFT g = 0 → Completes (.loadAll g) s fun u =>
    u.get .LOAD_LEFT g = (if groupHasAxis s g then 2 else 1) ∧ u.get .LOAD_TICK g = s.ts % 2 ^ 64 ∧
    u.getBit .LOAD_PEND_GRP 0 g = true ∧ ∀ p ∈ groupPorts s g, u.get .LOAD_PEND p = 1) ∧
  (∀ (g : Fin 16) (s : State), s.get .LOAD_LEFT g ≠ 0 → Completes (.loadAll g) s fun u => u = s) ∧
  (∀ (g : Fin 16) (s : State), s.get .TB_RUNNING 0 = 1 → groupPeriod s g ≠ 0 → s.get .LOAD_LEFT g = 2 →
    s.get .LOAD_TICK g + 10 ≤ nextStart s g → Completes (.periodStart g) s fun u => u.get .LOAD_LEFT g = 1) ∧
  (∀ (g : Fin 16) (s : State), s.get .TB_RUNNING 0 = 1 → groupPeriod s g ≠ 0 → s.get .LOAD_LEFT g = 1 →
    s.get .LOAD_TICK g + 10 ≤ nextStart s g → loadFailures s g = [] → Completes (.periodStart g) s fun u =>
      u.get .LOAD_LEFT g = 0 ∧ ∀ p ∈ groupPorts s g, u.get .LOAD_PEND p = 0 ∧ u.dv .DUTY p = s.get .DUTY p ∧
        u.get .DEAD_DEV p = s.get .DEAD_TIME p) ∧
  (∀ (g : Fin 16) (s : State), s.get .TB_RUNNING 0 = 1 → groupPeriod s g ≠ 0 → s.get .LOAD_LEFT g = 1 →
    s.get .LOAD_TICK g + 10 ≤ nextStart s g → loadFailures s g ≠ [] → Completes (.periodStart g) s fun u =>
      u.get .LOAD_LEFT g = 0 ∧ ∀ p ∈ groupPorts s g, u.get .LOAD_REJ p = 1 ∧ u.get .PERIOD_DEV p = s.get .PERIOD_DEV p ∧
        u.get .DEAD_DEV p = s.get .DEAD_DEV p ∧ u.dv .DUTY p = s.get .DUTY p) ∧
  (∀ (t : Nat) (p : Port) (src : Fin 4) (s : State), evtConfig s p src % 32 ≠ 0 → sourceLive s p src = true →
    s.get .PRESC_CNT (4 * p + src) + 1 < evtConfig s p src % 32 → Completes (.pwmEventFire t p src) s fun u =>
      u.get .PRESC_CNT (4 * p + src) = s.get .PRESC_CNT (4 * p + src) + 1 ∧ PostsNone (s.atTick t) u) ∧
  (∀ (t : Nat) (p : Port) (src : Fin 4) (s : State), evtConfig s p src % 32 ≠ 0 → sourceLive s p src = true →
    evtConfig s p src % 32 ≤ s.get .PRESC_CNT (4 * p + src) + 1 → bit (evtConfig s p src) 5 = true →
    bit (evtConfig s p src) 6 = false → (∀ k < 4, s.get .TRIGO_PWM_EN k = 0) → s.get .SEQ_DOWN 0 = 0 →
    s.get .EVT_POSTED p = 0 → Completes (.pwmEventFire t p src) s fun u =>
      u.get .PRESC_CNT (4 * p + src) = 0 ∧ u.get .EVT_POSTED p = 1 ∧ u.get .EVT_TICK p = (s.atTick t).ts % 2 ^ 64 ∧
      Posts (s.atTick t) u 0x0802 0x2 (portSlot s p) (p + src * 256)) ∧
  (∀ (t : Nat) (p : Port) (src : Fin 4) (s : State), evtConfig s p src % 32 ≠ 0 → sourceLive s p src = true →
    evtConfig s p src % 32 ≤ s.get .PRESC_CNT (4 * p + src) + 1 → bit (evtConfig s p src) 5 = true →
    s.get .EVT_POSTED p = 1 → (s.atTick t).ts < s.get .EVT_TICK p + 16000 → Completes (.pwmEventFire t p src) s fun u =>
      u.get .PWM_EVT_LOST p = min (s.get .PWM_EVT_LOST p + 1) 65535) ∧
  (∀ (t : Nat) (p : Port) (src : Fin 4) (k : Nat) (s : State), evtConfig s p src % 32 ≠ 0 → sourceLive s p src = true →
    evtConfig s p src % 32 ≤ s.get .PRESC_CNT (4 * p + src) + 1 → k < 4 → s.get .TRIGO_PWM_EN k = 1 →
    s.get .TRIGO_PORT k = p → s.get .TRIGO_SRC k = src → Completes (.pwmEventFire t p src) s fun u =>
      u.get .TRIGO_LEVEL k = 1 ∧
      u.get .TRIGO_END k = max (s.get .TRIGO_END k) ((s.atTick t).ts + 16 * s.get .TRIGO_PW k) % 2 ^ 64) ∧
  (∀ (t : Nat) (k : Fin 4) (s : State), s.get .TRIGO_LEVEL k = 1 → s.get .TRIGO_END k ≤ (s.atTick t).ts →
    Completes (.trigoPulseEnd t k) s fun u => u.get .TRIGO_LEVEL k = 0) ∧
  (∀ (t : Nat) (k : Fin 4) (s : State), (s.atTick t).ts < s.get .TRIGO_END k →
    Completes (.trigoPulseEnd t k) s fun u => u = s.atTick t)

/-- R255 to R258, R277, R278: trips. A port's trip counts once in a period; TRIPN takes every running high side of its
bank; TRIP_RUN at its limit latches the port off; a classified short latches it at once; TRIP_CLR clears the latch
unless a source stands, and the refusal is counted and posted. The model's choices it rests on: that a command does
nothing where its condition does not hold (21, 23); how an operand `t` moves the time-stamp (6, 22); the readings of
log entries 33 and 36. -/
def Obligations.Trips : Prop :=
  (∀ (t : Nat) (p : Port) (high : Bool) (s : State), s.get .TRIP_HELD p = 0 → Completes (.shortCircuitTrip t p high false) s fun u =>
    u.get .SC_SEEN p = 1 ∧ u.get .TRIP_SEEN p = 1 ∧ u.get .TRIP_HELD p = 1 ∧ u.get .TRIP_FREE p = 0 ∧
    u.get .TRIP_RUN p = min (s.get .TRIP_RUN p + 1) 255 ∧ u.get .TRIP_TOTAL p = min (s.get .TRIP_TOTAL p + 1) 65535 ∧
    u.get (if high then .TRIPPED_H else .TRIPPED_L) p = 1) ∧
  (∀ (t : Nat) (p : Port) (high : Bool) (s : State), s.get .TRIP_HELD p = 1 → Completes (.shortCircuitTrip t p high false) s fun u =>
    u.get .TRIP_SEEN p = 1 ∧ u.get .TRIP_RUN p = s.get .TRIP_RUN p ∧ u.get .TRIP_TOTAL p = s.get .TRIP_TOTAL p) ∧
  (∀ (t : Nat) (p : Port) (high : Bool) (s : State), Completes (.shortCircuitTrip t p high true) s fun u =>
    u.get .GD_LATCH p = 1 ∧ u.get .GD_CAUSE p = 2 ∧ u.get (if high then .HSP_SHORT else .LSP_SHORT) p = 1 ∧
    u.get .PORT_DRIVE p = 0) ∧
  (∀ (t : Nat) (p : Port) (high : Bool) (s : State), s.isAxisPort p = true → slotFaulted s (s.portOwner p) = false →
    Completes (.shortCircuitTrip t p high true) s fun u =>
      u.get .FAULT_CAUSE (s.portOwner p) = 2 ∧ u.get .DRIVE_STATE (s.portOwner p) = 7) ∧
  (∀ (t : Nat) (b : Bank) (s : State), (∀ p < 32, s.get .PORT_DRIVE p ≠ 3) → Completes (.tripnActive t b) s fun u =>
    u.get .TRIPN_LOW b = 1 ∧ ∀ k < 8, u.get .TRIP_ACTIVE (8 * b + k) = 1 ∧
      (s.get .PORT_DRIVE (8 * b + k) = 1 → u.get .TRIPPED_H (8 * b + k) = 1 ∧ u.get .HIGH_ON (8 * b + k) = 0 ∧
        u.get .TRIP_SEEN (8 * b + k) = 1 ∧ u.get .TRIP_HELD (8 * b + k) = 1)) ∧
  (∀ (t : Nat) (b : Bank) (s : State), Completes (.tripnRelease t b) s fun u =>
    u.get .TRIPN_LOW b = 0 ∧ ∀ k < 8, u.flag .TRIP_ACTIVE (8 * b + k) =
      (s.flag .LSP_SHORT (8 * b + k) || s.flag .HSP_SHORT (8 * b + k))) ∧
  (∀ (t : Nat) (p : Port) (s : State), s.get .TRIP_LATCH p = 0 → tripLimit s p ≤ s.get .TRIP_RUN p →
    Completes (.tripLatch t p) s fun u => u.get .TRIP_LATCH p = 1 ∧ u.get .PORT_DRIVE p = 0) ∧
  (∀ (t : Nat) (p : Port) (s : State), s.get .TRIP_LATCH p = 0 → tripLimit s p ≤ s.get .TRIP_RUN p →
    s.isAxisPort p = true → slotFaulted s (s.portOwner p) = false → Completes (.tripLatch t p) s fun u =>
      u.get .FAULT_CAUSE (s.portOwner p) = 2 ∧ u.get .DRIVE_STATE (s.portOwner p) = 7) ∧
  (∀ (t : Nat) (p : Port) (s : State), s.get .TRIP_RUN p < tripLimit s p → Completes (.tripLatch t p) s fun u =>
    u = s.atTick t) ∧
  (∀ (p : Port) (s : State), s.get .TRIP_LATCH p = 1 → tripSource s p = false → Completes (.tripClr p) s fun u =>
    u.get .TRIP_LATCH p = 0 ∧ u.get .TRIP_RUN p = 0 ∧ u.get .TRIP_ACTIVE p = 0) ∧
  (∀ (p : Port) (s : State), s.get .TRIP_LATCH p = 1 → tripSource s p = true → Completes (.tripClr p) s fun u =>
    u.get .TRIP_LATCH p = 1 ∧ u.get .TRIP_ACTIVE p = 1 ∧
    u.get .TRIP_CLR_REF p = min (s.get .TRIP_CLR_REF p + 1) 65535 ∧ LastEvent u 0x0801 0x2 (portSlot s p) p)

/-- R276, R279, R281: gate drive. An interlock timeout latches the port; GD_CLR clears a latch whose port is off, runs
the leg test first where a short is classified, and is refused otherwise; a bootstrap in lock-out forces a refresh,
and after three periods it is a fault. ILK_MAX_CLR clears the longest wait, GD_APPLY stands for the next status
tick. The model's choices it rests on: that a command does nothing where its condition does not hold (21, 23); how
an operand `t` moves the time-stamp (6, 22); the readings of log entries 85, 89 and 99. -/
def Obligations.GateDrive : Prop :=
  (∀ (t : Nat) (p : Port) (s : State), Completes (.interlockTimeout t p) s fun u =>
    u.get .ILK_TO p = 1 ∧ u.get .GD_LATCH p = 1 ∧ u.get .GD_CAUSE p = 3 ∧ u.get .PORT_DRIVE p = 0) ∧
  (∀ (t : Nat) (p : Port) (s : State), s.isAxisPort p = true → slotFaulted s (s.portOwner p) = false →
    Completes (.interlockTimeout t p) s fun u =>
      u.get .FAULT_CAUSE (s.portOwner p) = 3 ∧ u.get .DRIVE_STATE (s.portOwner p) = 7) ∧
  (∀ (p : Port) (low : Bool) (s : State), clearable s p = false → Completes (.gdClr p low) s fun u =>
    u.get .GD_LATCH p = s.get .GD_LATCH p ∧ u.get .GD_CLR_REF p = 1 ∧ Posts s u 0x0904 0x3 (portSlot s p) (p + 0x200)) ∧
  (∀ (p : Port) (low : Bool) (s : State), clearable s p = true → s.get .GD_LATCH p = 1 → s.get .LSP_SHORT p = 0 →
    s.get .HSP_SHORT p = 0 → (s.get .GD_CAUSE p = 3 → low = true) → Completes (.gdClr p low) s fun u =>
      u.get .GD_LATCH p = 0 ∧ u.get .GD_CAUSE p = 0) ∧
  (∀ (p : Port) (s : State), clearable s p = true → s.get .GD_LATCH p = 1 → s.get .LSP_SHORT p = 0 →
    s.get .HSP_SHORT p = 0 → s.get .GD_CAUSE p = 3 → Completes (.gdClr p false) s fun u =>
      u.get .GD_LATCH p = 1 ∧ u.get .GD_CLR_REF p = 1 ∧ Posts s u 0x0904 0x3 (portSlot s p) (p + 0x200)) ∧
  (∀ (p : Port) (low : Bool) (s : State), clearable s p = true → s.get .GD_LATCH p = 1 →
    s.get .LSP_SHORT p = 1 ∨ s.get .HSP_SHORT p = 1 → Completes (.gdClr p low) s fun u =>
      u.get .LEG_TEST p = 1 ∧ u.get .GD_LATCH p = 1) ∧
  (∀ (t : Nat) (p : Port) (s : State), s.get .LEG_TEST p = 1 → s.isAxisPort p = false → Completes (.legTestResult t p true) s fun u =>
    u.get .LEG_TEST p = 0 ∧ u.get .GD_LATCH p = 0 ∧ u.get .LSP_SHORT p = 0 ∧ u.get .HSP_SHORT p = 0) ∧
  (∀ (t : Nat) (p : Port) (s : State), s.get .LEG_TEST p = 1 → Completes (.legTestResult t p false) s fun u =>
    u.get .LEG_TEST p = 0 ∧ u.get .GD_LATCH p = s.get .GD_LATCH p ∧ u.get .GD_CLR_REF p = 1 ∧
    LastEvent u 0x0904 0x3 (portSlot s p) (p + 0x100)) ∧
  (∀ (p : Port) (s : State), Completes (.ilkMaxClr p) s fun u => u.get .ILK_WAIT_MAX p = 0) ∧
  (∀ (b : Bank) (s : State), Completes (.gdApply b) s fun u => u.get .OVER_GD_APPLY b = 1) ∧
  (∀ (t : Nat) (p : Port) (s : State), Completes (.bootstrapLockout t p) s fun u =>
    u.get .BST_UV p = 1 ∧ u.get .BST_UV_SEEN p = 1) ∧
  (∀ (t : Nat) (p : Port) (s : State), s.get .PORT_DRIVE p = 1 → Completes (.bootstrapLockout t p) s
    fun u => u.get .HIGH_ON p = 0 ∧ u.get .HALF_PULSE p = 1 ∧ u.get .REFRESH_RUN p = 0 ∧
      u.get .REFRESH_CNT p = min (s.get .REFRESH_CNT p + 1) 65535) ∧
  (∀ (t : Nat) (p : Port) (s : State), Completes (.bootstrapLockoutRelease t p) s fun u =>
    u.get .BST_UV p = 0 ∧ ((s.atTick t).ts ≤ turnOnTick s p → u.get .BST_BAD p = 0)) ∧
  (∀ (t : Nat) (p : Port) (s : State), 3 ≤ s.get .BST_RUN p → s.isX p = true → Completes (.bootstrapUvFault t p) s fun u =>
    u.get .GD_LATCH p = 1 ∧ u.get .GD_CAUSE p = 4 ∧ u.get .PORT_DRIVE p = 0 ∧ u.get .BST_RUN p = 0) ∧
  (∀ (t : Nat) (p : Port) (s : State), 3 ≤ s.get .BST_RUN p → s.isAxisPort p = true →
    slotFaulted s (s.portOwner p) = false → Completes (.bootstrapUvFault t p) s fun u =>
      u.get .BST_RUN p = 0 ∧ u.get .FAULT_CAUSE (s.portOwner p) = 4 ∧ u.get .DRIVE_STATE (s.portOwner p) = 7) ∧
  (∀ (t : Nat) (p : Port) (s : State), s.get .BST_RUN p < 3 → Completes (.bootstrapUvFault t p) s fun u => u = s.atTick t)

/-- R282 to R288, R294: the bus, its comparators and the D-dies' temperature. A reading is judged with its hystereses
and reaches every slot; a coast turns every port off and takes the enabled slots to ride through it or to Fault;
RT_STOP halts on a low bus; a hard overvoltage is a stop-bath of its bank, a hot D-die turns its bank off. The
model's choices it rests on: that a command does nothing where its condition does not hold (21, 23); how an operand
`t` moves the time-stamp (6, 22); the readings of log entries 33, 36 and 38. -/
def Obligations.BusAndDies : Prop :=
  (∀ (t mv : Nat) (s : State), mv < 2 ^ 32 → Completes (.vbusReading t mv) s fun u =>
    u.get .VBUS_MV 0 = mv ∧ u.get .BUS_READ_TICK 0 = (s.atTick t).ts % 2 ^ 64 ∧
    u.getBit .BUS_STAT 0 0 = decide (mv < 100 * s.get .VBUS_LOW 0 + if s.getBit .BUS_STAT 0 0 then 1000 else 0) ∧
    u.getBit .BUS_STAT 0 1 = (s.getBit .BUS_STAT 0 1 || decide (mv < 8000)) ∧
    u.getBit .BUS_STAT 0 3 = decide (100 * s.get .VBUS_OV 0 < mv + if s.getBit .BUS_STAT 0 3 then 2000 else 0) ∧
    u.getBit .BUS_STAT 0 4 = false ∧
    ∀ i < 8, u.get .VBUS_FF i = min mv 0xFFFF ∧ u.get .VBUS_TICK i = (s.atTick t).ts % 2 ^ 64 ∧
      u.getBit .REG_STAT i 5 = false ∧ u.get .FF_POSTED i = 0) ∧
  (∀ (t : Nat) (s : State), s.get .BUS_READ_TICK 0 + 160000 < (s.atTick t).ts → s.getBit .BUS_STAT 0 4 = false →
    Completes (.busStale t) s fun u =>
      u.getBit .BUS_STAT 0 4 = true ∧ u.getBit .BUS_SEEN 0 4 = true ∧ u.getBit .BUS_STAT 0 2 = false) ∧
  (∀ (t : Nat) (s : State), (s.atTick t).ts ≤ s.get .BUS_READ_TICK 0 + 160000 → Completes (.busStale t) s fun u => u = s.atTick t) ∧
  (∀ (t : Nat) (b : Bank) (s : State), s.getBit .BUS_STAT 0 1 = false → Completes (.busCoast t b) s fun u =>
    u.get .HARD_COAST b = 1 ∧ u.getBit .BUS_STAT 0 1 = true ∧ u.getBit .BUS_SEEN 0 1 = true ∧
    u.get .BUS_COAST_CNT 0 = min (s.get .BUS_COAST_CNT 0 + 1) 65535 ∧ u.get .COAST_GOOD 0 = 0 ∧
    (∀ p < 32, s.isAxisPort p = false → u.get .PORT_DRIVE p = 0) ∧
    (∀ p < 32, s.isAxisPort p = true → s.get .SB_STATE (s.portOwner p) = 0 → u.get .PORT_DRIVE p = 0) ∧
    (∀ i < 8, powered s i = true → s.get .SB_STATE i = 0 → rideThrough s i = false → s.dv .RIDE_THROUGH i = 1 →
      u.getBit .PWR_STATE i 3 = true ∧ u.get .DRIVE_STATE i = dsSwitchedOn ∧ u.get .RT_BACK i = s.get .DRIVE_STATE i) ∧
    (∀ i < 8, powered s i = true → s.get .SB_STATE i = 0 → s.dv .RIDE_THROUGH i = 0 →
      u.get .DRIVE_STATE i = dsFault ∧ u.get .FAULT_CAUSE i = 6)) ∧
  (∀ (t : Nat) (s : State), s.getBit .BUS_STAT 0 1 = true → s.get .COAST_GOOD 0 ≠ 0 →
    s.get .COAST_GOOD 0 + 1600000 ≤ (s.atTick t).ts → (∀ b < 4, s.get .HARD_COAST b = 0) →
    Completes (.coastEnd t) s fun u => u.getBit .BUS_STAT 0 1 = false) ∧
  (∀ (t : Nat) (s : State), (s.atTick t).ts < s.get .COAST_GOOD 0 + 1600000 → Completes (.coastEnd t) s fun u => u = s.atTick t) ∧
  (∀ (t : Nat) (s : State), s.getBit .BUS_STAT 0 0 = true → s.get .RT_STOP_MS 0 ≠ 0 → s.get .BUS_HALT 0 = 0 →
    s.get .BUS_LOW_SINCE 0 + s.get .RT_STOP_MS 0 * 160000 ≤ (s.atTick t).ts → Completes (.rtStop t) s fun u =>
      u.get .BUS_HALT 0 = 1 ∧ ∀ i < 8, s.get .DRIVE_STATE i = dsEnabled → s.get .STOP_REQ i = 0 →
        u.get .HALTED i = 1 ∧ u.get .STOP_REQ i = 9 ∧ u.get .STOP_REQ_RATE i = s.get .STOP_DEC i) ∧
  (∀ (t : Nat) (s : State), s.getBit .BUS_STAT 0 0 = false ∨ s.get .RT_STOP_MS 0 = 0 → Completes (.rtStop t) s fun u =>
    u = s.atTick t) ∧
  (∀ (t : Nat) (b : Bank) (s : State), s.get .HARD_OV b = 0 → Completes (.hardOvervoltage t b) s fun u =>
    u.get .HARD_OV b = 1 ∧ u.get .HARD_OV_SEEN b = 1 ∧
    (∀ k < 8, s.isX (8 * b + k) = true → u.get .X_HELD (8 * b + k) = 1 ∧ u.get .PORT_DRIVE (8 * b + k) = 0) ∧
    (∀ i ∈ bankSlots s b, u.get .DRIVE_STATE i = dsFault ∧ (slotFaulted s i = false → u.get .FAULT_CAUSE i = 9))) ∧
  (∀ (t : Nat) (b : Bank) (s : State), s.get .HARD_OV b = 1 → Completes (.hardOvervoltage t b) s fun u => u = s.atTick t) ∧
  (∀ (t : Nat) (s : State), s.getBit .BUS_STAT 0 3 = false → s.get .OV_CLEAR_TICK 0 + 1600000 ≤ (s.atTick t).ts →
    Completes (.ovStopBathEnd t) s fun u =>
      ∀ i < 8, s.get .OV_RETURN i = 1 → s.get .SB_STATE i ≠ 0 → u.get .SB_STATE i = 0 ∧ u.get .OV_RETURN i = 0) ∧
  (∀ (t : Nat) (b : Bank) (coast hard : Bool) (s : State), Completes (.busComparatorRelease t b coast hard) s fun u =>
    (coast = true → u.get .HARD_COAST b = 0) ∧ (hard = true → u.get .HARD_OV b = 0) ∧
    (coast = false → u.get .HARD_COAST b = s.get .HARD_COAST b) ∧ (hard = false → u.get .HARD_OV b = s.get .HARD_OV b)) ∧
  (∀ (t : Nat) (b : Bank) (s : State), s.get .DIE_OT b = 0 → Completes (.dieOverTemperature t b) s fun u =>
    u.get .DIE_OT b = 1 ∧ u.get .DIE_OT_SEEN b = 1 ∧ u.get .DIE_HOT b = 1 ∧
    (∀ k < 8, u.get .PORT_DRIVE (8 * b + k) = 0) ∧
    (∀ i ∈ bankSlots s b, u.get .DRIVE_STATE i = dsFault ∧ (slotFaulted s i = false → u.get .FAULT_CAUSE i = 0x12))) ∧
  (∀ (t : Nat) (b : Bank) (temp : Nat) (s : State), Completes (.dieOverTemperatureRelease t b temp) s fun u =>
    u.get .DIE_OT b = (if temp ≤ 170 then 0 else s.get .DIE_OT b) ∧
    u.get .DIE_HOT b = (if temp < 150 then 0 else s.get .DIE_HOT b))

/-- R289, R290, R292, R293: the stop-bath by command and by time. HS ends after its longest time and a stop-bath that
stands still after SB_STILL, both to OFF; a set bit of SB_CMD takes a powered slot into stop-bath with cause 0x11, a
cleared bit ends what it began. The model's choices it rests on: that a command does nothing where its condition
does not hold (21, 23); how an operand `t` moves the time-stamp (6, 22); the readings of log entries 35, 38 and 40.
-/
def Obligations.StopBaths : Prop :=
  (∀ (t : Nat) (i : Slot) (s : State), s.get .SB_STATE i = 2 → s.getBit .SB_GROUP i i = true →
    s.get .SB_HS_TICK i + hsHold s i * 160000 ≤ (s.atTick t).ts → Completes (.hsHoldExpiry t i) s fun u =>
      u.get .SB_STATE i = 3 ∧ ∀ p ∈ s.slotPorts i, u.get .PORT_DRIVE p = 0) ∧
  (∀ (t : Nat) (i : Slot) (s : State), s.get .SB_STATE i ≠ 2 → Completes (.hsHoldExpiry t i) s fun u => u = s.atTick t) ∧
  (∀ (t : Nat) (i : Slot) (s : State), s.dv .SB_END i = 1 → s.get .SB_STILL_SINCE i ≠ 0 →
    s.get .SB_STATE i = 1 ∨ s.get .SB_STATE i = 2 →
    s.get .SB_STILL_SINCE i + s.dv .SB_STILL i * 160000 ≤ (s.atTick t).ts → Completes (.sbStillExpiry t i) s fun u =>
      u.get .SB_STATE i = 3 ∧ ∀ p ∈ s.slotPorts i, u.get .PORT_DRIVE p = 0) ∧
  (∀ (t : Nat) (i : Slot) (s : State), s.dv .SB_END i = 0 → Completes (.sbStillExpiry t i) s fun u => u = s.atTick t) ∧
  (∀ (v : Nat) (s : State), Completes (.sbCmd v) s fun u => ∀ i < 8,
    (bit v i = true → s.getBit .SB_CMD 0 i = false → powered s i = true → s.get .SB_STATE i = 0 →
      u.getBit .SB_CMD 0 i = true ∧ u.get .DRIVE_STATE i = dsSwitchedOn ∧ u.get .SB_STATE i ≠ 0 ∧ u.get .SB_CAUSE i = 0x11 ∧
      u.get .SB_CNT i = min (s.get .SB_CNT i + 1) 65535) ∧
    (bit v i = true → s.getBit .SB_CMD 0 i = false → powered s i = false →
      u.getBit .SB_CMD 0 i = false ∧ u.get .DRIVE_STATE i = s.get .DRIVE_STATE i) ∧
    (bit v i = false → s.getBit .SB_CMD 0 i = true → s.get .SB_CAUSE i = 0x11 → s.get .SB_STATE i ≠ 0 →
      slotFaulted s i = false → u.getBit .SB_CMD 0 i = false ∧ u.get .SB_STATE i = 0 ∧
        ∀ p ∈ s.slotPorts i, u.get .PORT_DRIVE p = 0) ∧
    (bit v i = s.getBit .SB_CMD 0 i → u.getBit .SB_CMD 0 i = bit v i ∧ u.get .SB_STATE i = s.get .SB_STATE i))

/-- R432, R433: the state commands. Each writes its level bits into the controlword and, from the states of R432 and
under their conditions, moves the slot; in the ride-through state and under SB_CMD they act as R433 says. The
model's choices it rests on: the readings of log entries 8, 39 and 76. -/
def Obligations.DriveCommands : Prop :=
  (∀ (i : Slot) (s : State), s.get .SEQ_DOWN 0 = 0 → inRing s i = false → s.getBit .SB_CMD 0 i = false → rideThrough s i = false →
    s.get .DRIVE_STATE i = dsSwitchOnDisabled → s.kind i ≠ 0 → Completes (.shutdown i) s fun u =>
      u.get .DRIVE_STATE i = dsReady ∧ u.get .CONTROLWORD i = withLevels s i 0x6) ∧
  (∀ (i : Slot) (s : State), s.get .SEQ_DOWN 0 = 0 → inRing s i = false → s.getBit .SB_CMD 0 i = false → rideThrough s i = false →
    s.get .DRIVE_STATE i = dsEnabled → s.geti .SHUTDOWN_OPTION i = 0 → s.get .SB_STATE i = 0 → Completes (.shutdown i) s fun u =>
      u.get .DRIVE_STATE i = dsReady ∧ ∀ p ∈ s.slotPorts i, u.get .PORT_DRIVE p = 0) ∧
  (∀ (i : Slot) (s : State), s.get .SEQ_DOWN 0 = 0 → inRing s i = false → s.get .DRIVE_STATE i = dsReady → mayswitchOn s i = true →
    Completes (.switchOn i) s fun u => u.get .DRIVE_STATE i = dsSwitchedOn ∧ u.get .CONTROLWORD i = withLevels s i 0x7) ∧
  (∀ (i : Slot) (s : State), s.get .SEQ_DOWN 0 = 0 → inRing s i = false → s.get .DRIVE_STATE i = dsReady → mayswitchOn s i = false →
    Completes (.switchOn i) s fun u => u.get .DRIVE_STATE i = dsReady) ∧
  (∀ (i : Slot) (s : State), s.get .SEQ_DOWN 0 = 0 → inRing s i = false → rideThrough s i = false →
    s.get .DRIVE_STATE i = dsSwitchedOn → pwmAllOn s i = true → s.getBit .SB_CMD 0 i = false → s.get .SB_STATE i = 0 →
    s.get .TB_RUNNING 0 = 1 → Completes (.enableOperation i) s fun u =>
      u.get .DRIVE_STATE i = dsEnabled ∧ u.get .CONTROLWORD i = withLevels s i 0xF ∧ u.get .WINDOW_ONLY i = 1 ∧
      u.get .POSTED i = 0 ∧ u.get .ADAPT_FACT i = 0x8000 ∧
      ∀ p ∈ s.slotPorts i, u.get .BST_EXEMPT p = 32 ∧ u.get .BST_RUN p = 0) ∧
  (∀ (i : Slot) (s : State), s.get .SEQ_DOWN 0 = 0 → inRing s i = false → rideThrough s i = true → Completes (.enableOperation i) s fun u =>
    u.get .FR_HELD i = 1 ∧ u.get .DRIVE_STATE i = s.get .DRIVE_STATE i) ∧
  (∀ (i : Slot) (s : State), s.get .SEQ_DOWN 0 = 0 → inRing s i = false → s.getBit .SB_CMD 0 i = false → rideThrough s i = true →
    Completes (.disableOperation i) s fun u => u.get .DRIVE_STATE i = dsSwitchedOn ∧ u.getBit .PWR_STATE i 3 = false) ∧
  (∀ (i : Slot) (s : State), s.get .SEQ_DOWN 0 = 0 → inRing s i = false → s.getBit .SB_CMD 0 i = false → rideThrough s i = true →
    Completes (.shutdown i) s fun u => u.get .DRIVE_STATE i = dsReady ∧ u.getBit .PWR_STATE i 3 = false) ∧
  (∀ (i : Slot) (s : State), s.get .SEQ_DOWN 0 = 0 → inRing s i = false → s.getBit .SB_CMD 0 i = false → rideThrough s i = true →
    Completes (.quickStop i) s fun u => u.get .DRIVE_STATE i = dsSwitchOnDisabled ∧ u.getBit .PWR_STATE i 3 = false) ∧
  (∀ (i : Slot) (s : State), s.get .SEQ_DOWN 0 = 0 → inRing s i = false → s.getBit .SB_CMD 0 i = false → rideThrough s i = true →
    slotFaulted s i = false → s.get .DRIVE_STATE i ≠ 0 →
    Completes (.disableVoltage i) s fun u => u.get .DRIVE_STATE i = dsSwitchOnDisabled ∧ u.getBit .PWR_STATE i 3 = false) ∧
  (∀ (i : Slot) (s : State), s.get .SEQ_DOWN 0 = 0 → inRing s i = false → s.getBit .SB_CMD 0 i = true →
    s.get .DRIVE_STATE i = dsSwitchedOn → rideThrough s i = false → Completes (.enableOperation i) s fun u =>
      u.get .DRIVE_STATE i = dsSwitchedOn ∧ u.get .SB_STATE i = s.get .SB_STATE i) ∧
  (∀ (i : Slot) (s : State), s.get .SEQ_DOWN 0 = 0 → inRing s i = false → s.getBit .SB_CMD 0 i = true →
    Completes (.shutdown i) s fun u => u.get .DRIVE_STATE i = s.get .DRIVE_STATE i ∧ u.get .SB_STATE i = s.get .SB_STATE i) ∧
  (∀ (i : Slot) (s : State), s.get .SEQ_DOWN 0 = 0 → inRing s i = false → s.getBit .SB_CMD 0 i = true →
    Completes (.disableOperation i) s fun u =>
      u.get .DRIVE_STATE i = s.get .DRIVE_STATE i ∧ u.get .SB_STATE i = s.get .SB_STATE i) ∧
  (∀ (i : Slot) (s : State), s.get .SEQ_DOWN 0 = 0 → inRing s i = false → s.getBit .SB_CMD 0 i = true →
    Completes (.quickStop i) s fun u => u.get .DRIVE_STATE i = s.get .DRIVE_STATE i ∧ u.get .SB_STATE i = s.get .SB_STATE i) ∧
  (∀ (i : Slot) (s : State), s.get .SEQ_DOWN 0 = 0 → inRing s i = false → s.getBit .SB_CMD 0 i = true →
    Completes (.disableVoltage i) s fun u =>
      u.get .DRIVE_STATE i = s.get .DRIVE_STATE i ∧ u.get .SB_STATE i = s.get .SB_STATE i) ∧
  (∀ (i : Slot) (s : State), s.get .SEQ_DOWN 0 = 0 → inRing s i = false → s.getBit .SB_CMD 0 i = false → rideThrough s i = false →
    s.get .DRIVE_STATE i = dsEnabled → s.geti .DISABLE_OPTION i = 0 → Completes (.disableOperation i) s fun u =>
      u.get .DRIVE_STATE i = dsSwitchedOn ∧ u.get .CONTROLWORD i = withLevels s i 0x7) ∧
  (∀ (i : Slot) (s : State), s.get .SEQ_DOWN 0 = 0 → inRing s i = false → s.getBit .SB_CMD 0 i = false → rideThrough s i = false →
    s.get .DRIVE_STATE i = dsEnabled → s.geti .DISABLE_OPTION i ≠ 0 → s.get .STOP_REQ i = 0 → Completes (.disableOperation i) s fun u =>
      u.get .DRIVE_STATE i = dsEnabled ∧ u.get .STOP_REQ i = 9 ∧ u.get .STOP_REQ_RATE i = stopDecOf s i (s.modeOf i) ∧
      u.get .AFTER_STOP i = 2) ∧
  (∀ (i : Slot) (s : State), s.get .SEQ_DOWN 0 = 0 → inRing s i = false → s.getBit .SB_CMD 0 i = false → rideThrough s i = false →
    s.get .DRIVE_STATE i = dsEnabled → s.geti .QSTOP_OPTION i = 0 → Completes (.quickStop i) s fun u =>
      u.get .DRIVE_STATE i = dsSwitchOnDisabled ∧ u.get .CONTROLWORD i = withLevels s i 0x2) ∧
  (∀ (i : Slot) (s : State), s.get .SEQ_DOWN 0 = 0 → inRing s i = false → s.getBit .SB_CMD 0 i = false → rideThrough s i = false →
    s.get .DRIVE_STATE i = dsEnabled → s.geti .QSTOP_OPTION i = 2 → s.get .STOP_REQ i = 0 → Completes (.quickStop i) s fun u =>
      u.get .DRIVE_STATE i = dsQuickStop ∧ u.get .STOP_REQ i = 2 ∧ u.get .STOP_REQ_RATE i = s.get .QUICK_STOP_DEC i ∧
      u.get .AFTER_STOP i = 3) ∧
  (∀ (i : Slot) (s : State), s.get .SEQ_DOWN 0 = 0 → inRing s i = false → s.getBit .SB_CMD 0 i = false → rideThrough s i = false →
    slotFaulted s i = false → s.get .DRIVE_STATE i ≠ 0 → Completes (.disableVoltage i) s fun u =>
      u.get .DRIVE_STATE i = dsSwitchOnDisabled ∧ u.get .CONTROLWORD i = withLevels s i 0x0) ∧
  (∀ (i : Slot) (s : State), s.get .SEQ_DOWN 0 = 0 → inRing s i = false → slotFaulted s i = true → Completes (.disableVoltage i) s fun u =>
    u.get .DRIVE_STATE i = s.get .DRIVE_STATE i) ∧
  (∀ (i : Slot) (low : Bool) (s : State), s.get .SEQ_DOWN 0 = 0 → inRing s i = false → s.getBit .CONTROLWORD i 7 = false →
    s.get .DRIVE_STATE i = dsFault → s.get .RESETTING i = 0 → resetBlocked s i = false →
    (∀ p ∈ s.slotPorts i, s.get .GD_LATCH p = 0 ∧ s.get .TRIP_LATCH p = 0 ∧ s.get .LEG_TEST p = 0) →
    Completes (.faultReset i low) s fun u =>
      u.get .DRIVE_STATE i = dsSwitchOnDisabled ∧ u.get .FAULT_CAUSE i = 0 ∧ u.get .SB_STATE i = 0 ∧
      u.getBit .CONTROLWORD i 7 = true ∧ ∀ p ∈ s.slotPorts i, u.get .PORT_DRIVE p = 0) ∧
  (∀ (i : Slot) (low : Bool) (s : State), s.get .SEQ_DOWN 0 = 0 → inRing s i = false → s.getBit .CONTROLWORD i 7 = false →
    s.get .DRIVE_STATE i = dsFault → resetBlocked s i = true → Completes (.faultReset i low) s fun u =>
      u.get .DRIVE_STATE i = dsFault ∧ u.get .SB_STATE i = s.get .SB_STATE i) ∧
  (∀ (i : Slot) (s : State), inRing s i = true → s.get .SEQ_DOWN 0 = 0 → Completes (.enableOperation i) s fun u =>
    u.get .DRIVE_STATE i = s.get .DRIVE_STATE i ∧ u.get .CONTROLWORD i = s.get .CONTROLWORD i ∧ u.get .ANS_ABORT 0 = 0x08000022)

/-- R206, R306 to R312: counting. A change of one line counts one step in its direction, within the limits of the
counter; a change of both is illegal and counts none; Hall states count by sectors; a speed window takes its net
count or, empty, comes nearer to standstill. The model's choices it rests on: that a command does nothing where its
condition does not hold (21, 23); how an operand `t` moves the time-stamp (6, 22); the readings of log entries 41,
58 and 99. -/
def Obligations.Encoders : Prop :=
  (∀ (t : Nat) (c : Slot) (a b : Bool) (s : State), s.get .TB_RUNNING 0 = 1 → Completes (.encoderEdge t c a b) s fun u =>
    u.getBit .FB_STAT c 10 = a ∧ u.getBit .FB_STAT c 9 = b) ∧
  (∀ (t : Nat) (c : Slot) (a b : Bool) (s : State), s.get .TB_RUNNING 0 = 1 → chMode s c = 1 → s.gn2008 = false →
    s.dv .ENC_INV c = 0 →
    quadPlace a b = (quadPlace (s.getBit .FB_STAT c 10) (s.getBit .FB_STAT c 9) + 1) % 4 →
    s.geti .ENC_POS c + 1 ≤ s.dvi .FB_SOFTLIM_HI c → Completes (.encoderEdge t c a b) s fun u =>
      u.geti .ENC_POS c = s.geti .ENC_POS c + 1) ∧
  (∀ (t : Nat) (c : Slot) (a b : Bool) (s : State), s.get .TB_RUNNING 0 = 1 → chMode s c = 1 → s.gn2008 = false →
    s.dv .ENC_INV c = 1 →
    quadPlace a b = (quadPlace (s.getBit .FB_STAT c 10) (s.getBit .FB_STAT c 9) + 1) % 4 →
    s.dvi .FB_SOFTLIM_LO c ≤ s.geti .ENC_POS c - 1 → Completes (.encoderEdge t c a b) s fun u =>
      u.geti .ENC_POS c = s.geti .ENC_POS c - 1) ∧
  (∀ (t : Nat) (c : Slot) (a b : Bool) (s : State), s.get .TB_RUNNING 0 = 1 → chMode s c = 1 → s.gn2008 = false →
    s.dv .ENC_INV c = 0 →
    quadPlace a b = (quadPlace (s.getBit .FB_STAT c 10) (s.getBit .FB_STAT c 9) + 3) % 4 →
    s.dvi .FB_SOFTLIM_LO c ≤ s.geti .ENC_POS c - 1 → Completes (.encoderEdge t c a b) s fun u =>
      u.geti .ENC_POS c = s.geti .ENC_POS c - 1) ∧
  (∀ (t : Nat) (c : Slot) (a b : Bool) (s : State), s.get .TB_RUNNING 0 = 1 → chMode s c = 1 → s.gn2008 = false →
    s.dv .ENC_INV c = 1 →
    quadPlace a b = (quadPlace (s.getBit .FB_STAT c 10) (s.getBit .FB_STAT c 9) + 3) % 4 →
    s.geti .ENC_POS c + 1 ≤ s.dvi .FB_SOFTLIM_HI c → Completes (.encoderEdge t c a b) s fun u =>
      u.geti .ENC_POS c = s.geti .ENC_POS c + 1) ∧
  (∀ (t : Nat) (c : Slot) (a b : Bool) (s : State), s.get .TB_RUNNING 0 = 1 → chMode s c = 1 → s.gn2008 = true →
    s.dv .ENC_INV c = 0 →
    quadPlace a b = (quadPlace (s.getBit .FB_STAT c 10) (s.getBit .FB_STAT c 9) + 1) % 4 →
    Completes (.encoderEdge t c a b) s fun u => u.geti .ENC_POS c = toSigned 32 (ofSigned 32 (s.geti .ENC_POS c + 1))) ∧
  (∀ (t : Nat) (c : Slot) (a b : Bool) (s : State), s.get .TB_RUNNING 0 = 1 → chMode s c = 1 → s.gn2008 = true →
    s.dv .ENC_INV c = 0 →
    quadPlace a b = (quadPlace (s.getBit .FB_STAT c 10) (s.getBit .FB_STAT c 9) + 3) % 4 →
    Completes (.encoderEdge t c a b) s fun u => u.geti .ENC_POS c = toSigned 32 (ofSigned 32 (s.geti .ENC_POS c - 1))) ∧
  (∀ (t : Nat) (c : Slot) (a b : Bool) (s : State), s.get .TB_RUNNING 0 = 1 → chMode s c = 1 → s.gn2008 = false →
    s.dv .ENC_INV c = 0 →
    quadPlace a b = (quadPlace (s.getBit .FB_STAT c 10) (s.getBit .FB_STAT c 9) + 1) % 4 →
    s.geti .ENC_POS c = s.dvi .FB_SOFTLIM_HI c → s.getBit .FB_STAT c 4 = false → Completes (.encoderEdge t c a b) s fun u =>
      u.geti .ENC_POS c = s.geti .ENC_POS c ∧ u.getBit .FB_STAT c 4 = true ∧ u.getBit .FB_FLAGS c 1 = true ∧
      Posts (s.atTick t) u 0x0A01 0x4 c 1) ∧
  (∀ (t : Nat) (c : Slot) (a b : Bool) (s : State), s.get .TB_RUNNING 0 = 1 → chMode s c = 1 → s.gn2008 = false →
    s.dv .ENC_INV c = 0 →
    quadPlace a b = (quadPlace (s.getBit .FB_STAT c 10) (s.getBit .FB_STAT c 9) + 3) % 4 →
    s.geti .ENC_POS c = s.dvi .FB_SOFTLIM_LO c → s.getBit .FB_STAT c 4 = false → Completes (.encoderEdge t c a b) s fun u =>
      u.geti .ENC_POS c = s.geti .ENC_POS c ∧ u.getBit .FB_STAT c 4 = true ∧ u.getBit .FB_FLAGS c 1 = true ∧
      Posts (s.atTick t) u 0x0A01 0x4 c 0) ∧
  (∀ (t : Nat) (c : Slot) (a b : Bool) (s : State), s.get .TB_RUNNING 0 = 1 → chMode s c = 1 → a ≠ s.getBit .FB_STAT c 10 → b ≠ s.getBit .FB_STAT c 9 →
    Completes (.encoderEdge t c a b) s fun u =>
      u.geti .ENC_POS c = s.geti .ENC_POS c ∧ u.get .ILLEGAL_COUNT c = min (s.get .ILLEGAL_COUNT c + 1) 65535 ∧
      u.getBit .FB_FLAGS c 0 = true ∧ u.get .ILL_RUN c = min 255 (s.get .ILL_RUN c + 1) ∧ u.get .NORM_RUN c = 0) ∧
  (∀ (t : Nat) (c : Slot) (st : Nat) (s : State), s.get .TB_RUNNING 0 = 1 → chMode s c = 2 → hallValid st = true → s.get .HALL_STATE c = 0 →
    Completes (.hallEdge t c st) s fun u =>
      u.get .HALL_STATE c = st ∧ u.get .HALL_SECT c = hallSector s c st ∧ u.get .ENC_POS c = s.get .ENC_POS c) ∧
  (∀ (t : Nat) (c : Slot) (st : Nat) (s : State), s.get .TB_RUNNING 0 = 1 → chMode s c = 2 → hallValid st = true → hallValid (s.get .HALL_STATE c) = true →
    s.gn2008 = false → hallSector s c st = (hallSector s c (s.get .HALL_STATE c) + 1) % 6 →
    s.geti .ENC_POS c + 1 ≤ s.dvi .FB_SOFTLIM_HI c → Completes (.hallEdge t c st) s fun u =>
      u.get .HALL_STATE c = st ∧ u.get .HALL_SECT c = hallSector s c st ∧ u.geti .ENC_POS c = s.geti .ENC_POS c + 1) ∧
  (∀ (t : Nat) (c : Slot) (st : Nat) (s : State), s.get .TB_RUNNING 0 = 1 → chMode s c = 2 → hallValid st = true → hallValid (s.get .HALL_STATE c) = true →
    s.gn2008 = false → hallSector s c st = (hallSector s c (s.get .HALL_STATE c) + 2) % 6 →
    s.geti .ENC_POS c + 2 ≤ s.dvi .FB_SOFTLIM_HI c → Completes (.hallEdge t c st) s fun u =>
      u.geti .ENC_POS c = s.geti .ENC_POS c + 2 ∧ u.get .HALL_SKIP c = min (s.get .HALL_SKIP c + 1) 65535) ∧
  (∀ (t : Nat) (c : Slot) (st : Nat) (s : State), s.get .TB_RUNNING 0 = 1 → chMode s c = 2 → hallValid st = true → hallValid (s.get .HALL_STATE c) = true →
    s.gn2008 = false → hallSector s c st = (hallSector s c (s.get .HALL_STATE c) + 5) % 6 →
    s.dvi .FB_SOFTLIM_LO c ≤ s.geti .ENC_POS c - 1 → Completes (.hallEdge t c st) s fun u =>
      u.get .HALL_STATE c = st ∧ u.get .HALL_SECT c = hallSector s c st ∧ u.geti .ENC_POS c = s.geti .ENC_POS c - 1) ∧
  (∀ (t : Nat) (c : Slot) (st : Nat) (s : State), s.get .TB_RUNNING 0 = 1 → chMode s c = 2 → hallValid st = true → hallValid (s.get .HALL_STATE c) = true →
    s.gn2008 = false → hallSector s c st = (hallSector s c (s.get .HALL_STATE c) + 4) % 6 →
    s.dvi .FB_SOFTLIM_LO c ≤ s.geti .ENC_POS c - 2 → Completes (.hallEdge t c st) s fun u =>
      u.geti .ENC_POS c = s.geti .ENC_POS c - 2 ∧ u.get .HALL_SKIP c = min (s.get .HALL_SKIP c + 1) 65535) ∧
  (∀ (t : Nat) (c : Slot) (st : Nat) (s : State), s.get .TB_RUNNING 0 = 1 → chMode s c = 2 → hallValid st = true → hallValid (s.get .HALL_STATE c) = true →
    hallSector s c st = (hallSector s c (s.get .HALL_STATE c) + 3) % 6 → Completes (.hallEdge t c st) s fun u =>
      u.get .HALL_STATE c = st ∧ u.get .ENC_POS c = s.get .ENC_POS c ∧
      u.get .ILLEGAL_COUNT c = min (s.get .ILLEGAL_COUNT c + 1) 65535 ∧ u.getBit .FB_FLAGS c 0 = true) ∧
  (∀ (t : Nat) (c : Slot) (st : Nat) (s : State), s.get .TB_RUNNING 0 = 1 → chMode s c = 2 → hallValid st = false → Completes (.hallEdge t c st) s fun u =>
    u.get .ENC_POS c = s.get .ENC_POS c ∧ u.get .ILLEGAL_COUNT c = min (s.get .ILLEGAL_COUNT c + 1) 65535) ∧
  (∀ (c : Slot) (v : Int) (s : State), s.gn2008 = false → s.dvi .FB_SOFTLIM_LO c ≤ v → v ≤ s.dvi .FB_SOFTLIM_HI c →
    Completes (.encPosPreset c v) s fun u => u.geti .ENC_POS c = v) ∧
  (∀ (c : Slot) (v : Int) (s : State), s.gn2008 = true → -2 ^ 31 ≤ v → v < 2 ^ 31 → Completes (.encPosPreset c v) s fun u =>
    u.geti .ENC_POS c = v) ∧
  (∀ (c : Slot) (s : State), s.get .TB_RUNNING 0 = 1 → chMode s c ≠ 0 → s.get .SPD_DISCARD c = 0 → s.get .SPD_EDGES c ≠ 0 →
    Completes (.speedWindowEnd c) s fun u =>
      u.geti .ENC_SPEED c = satSigned 32 (Int.tdiv (s.geti .SPD_NET c * 64 * 8000) (2 ^ s.dv .SPD_WIN c : Nat)) ∧
      u.getBit .FB_STAT c 0 = false ∧ u.getBit .FB_STAT c 1 = s.flag .SPD_REV c ∧ u.get .SPD_EDGES c = 0 ∧
      u.get .SPD_EMPTY c = 0) ∧
  (∀ (c : Slot) (s : State), s.get .TB_RUNNING 0 = 1 → chMode s c ≠ 0 → s.get .SPD_DISCARD c = 0 → s.get .SPD_EDGES c = 0 →
    Completes (.speedWindowEnd c) s fun u =>
      u.getBit .FB_STAT c 1 = false ∧ u.get .SPD_EMPTY c = min 255 (s.get .SPD_EMPTY c + 1)) ∧
  (∀ (c : Slot) (s : State), s.get .TB_RUNNING 0 = 1 → s.get .SPD_DISCARD c = 1 → Completes (.speedWindowEnd c) s fun u =>
    u.get .ENC_SPEED c = s.get .ENC_SPEED c ∧ u.get .SPD_DISCARD c = 0 ∧ u.get .SPD_EDGES c = 0) ∧
  (∀ (t : Nat) (c : Slot) (s : State), s.getBit .FB_STAT c 0 = false → s.dv .STILL_WINDOWS c ≤ s.get .SPD_EMPTY c →
    s.get .SPD_EMPTY c ≠ 0 → Completes (.stillDetected t c) s fun u =>
      u.getBit .FB_STAT c 0 = true ∧ u.get .ENC_SPEED c = 0) ∧
  (∀ (t : Nat) (c : Slot) (s : State), s.get .SPD_EMPTY c < s.dv .STILL_WINDOWS c → Completes (.stillDetected t c) s fun u =>
    u = s.atTick t) ∧
  (∀ (t : Nat) (c : Slot) (a b : Bool) (st : Nat) (s : State), s.get .TB_RUNNING 0 = 0 →
    ∀ x ∈ [Instr.encoderEdge t c a b, .hallEdge t c st, .indexEdge t c a, .stepEdge t c a b, .homeSwitchEdge t c a,
      .limitSwitchEdge t c a b], Completes x s fun u => u = s.atTick t)

/-- R308, R314 to R319: what the feedback unit declares and is asked. Too many illegal edges fault a channel, and
ENC_FAULT_CLR ends the fault and leaves it unaligned; at standstill a channel aligns to the command; a following
error beyond its limit for its time is a fault; a contact sheet fires whole or not at all. The model's choices it
rests on: that a command does nothing where its condition does not hold (21, 23); how an operand `t` moves the time-
stamp (6, 22); the readings of log entries 42 and 79. -/
def Obligations.AlignmentAndSheets : Prop :=
  (∀ (t : Nat) (c : Slot) (s : State), encFaultDue s c = true → encFaulty s c = false → Completes (.encFault t c) s fun u =>
    u.getBit .FB_STAT c 2 = true ∧ u.getBit .FB_STAT c 3 = false ∧ u.getBit .FB_FLAGS c 2 = true ∧ u.get .FE c = 0 ∧
    u.get .HOMED c = 0 ∧ Posts (s.atTick t) u 0x0A00 0x4 c (1 + s.get .ILLEGAL_COUNT c * 65536)) ∧
  (∀ (t : Nat) (c : Slot) (s : State), encFaultDue s c = false → Completes (.encFault t c) s fun u => u = s.atTick t) ∧
  (∀ (c : Slot) (s : State), Completes (.encFaultClr c) s fun u =>
    u.getBit .FB_STAT c 2 = false ∧ u.getBit .FB_STAT c 3 = false ∧ u.getBit .FB_STAT c 6 = false ∧ u.get .ILL_RUN c = 0) ∧
  (∀ (t : Nat) (i : Slot) (s : State), alignDue (s.atTick t) i = true → Completes (.encAligned t i) s fun u =>
    u.get .ENC_OFS i = ofSigned 64 (s.geti .POS_CMD i - s.geti .HOME_SHIFT i - scaledCount s i (s.geti .ENC_POS i)) ∧
    u.getBit .FB_STAT i 3 = true ∧ Posts (s.atTick t) u 0x0A03 0x4 i (ofSigned 32 (u.geti .ENC_OFS i))) ∧
  (∀ (t : Nat) (i : Slot) (s : State), alignDue (s.atTick t) i = false → Completes (.encAligned t i) s fun u => u = s.atTick t) ∧
  (∀ (c : Slot) (s : State), Completes (.encAlign c) s fun u => u.getBit .FB_STAT c 3 = false) ∧
  (∀ (t : Nat) (i : Slot) (s : State), s.get .FE_SINCE i ≠ 0 → s.get .FE_SINCE i + s.dv .FE_TIME i * 160000 ≤ (s.atTick t).ts →
    s.get .DRIVE_STATE i = dsEnabled → Completes (.followError t i) s fun u =>
      u.getBit .FB_FLAGS i 4 = true ∧ u.get .FAULT_CAUSE i = 0x16 ∧
      (u.get .DRIVE_STATE i = dsFaultReaction ∨ u.get .DRIVE_STATE i = dsFault)) ∧
  (∀ (t : Nat) (i : Slot) (s : State), s.get .FE_SINCE i = 0 → Completes (.followError t i) s fun u => u = s.atTick t) ∧
  (∀ (c : Slot) (s : State), Completes (.capArm c) s fun u => u.getBit .FB_STAT c 5 = true) ∧
  (∀ (t : Nat) (s : State), t < 2 ^ 64 → s.ts + 320 ≤ t → s.get .CS_PEND 0 = 0 → Completes (.csShoot t) s fun u =>
    u.get .CS_PEND 0 = 1 ∧ u.get .CS_TICK 0 = t) ∧
  (∀ (t : Nat) (s : State), t % 2 ^ 64 < s.ts + 320 ∨ s.get .CS_PEND 0 = 1 → Completes (.csShoot t) s fun u =>
    u.get .CS_REJ 0 = 1 ∧ u.get .CS_PEND 0 = s.get .CS_PEND 0 ∧ u.get .CS_TICK 0 = s.get .CS_TICK 0) ∧
  (∀ (s : State), Completes .csCancel s fun u => u.get .CS_PEND 0 = 0) ∧
  (∀ (s : State), s.get .CS_PEND 0 = 1 → s.get .TB_RUNNING 0 = 1 →
    s.qFill 10 + (idsWhere 8 (captures s)).length ≤ s.qSize 10 → Completes .contactSheetFire s fun u =>
      u.get .CS_PEND 0 = 0 ∧ u.get .CS_DONE 0 = 1 ∧ u.get .CS_COUNT 0 = min (s.get .CS_COUNT 0 + 1) 65535 ∧
      (∀ c < 8, captures s c = true → u.get .CAP_SEQ c = (s.get .CAP_SEQ c + 1) % 16) ∧
      LastEvent u 0x0A04 0x4 noSlot (idsWhere 8 (captures s)).length) ∧
  (∀ (s : State), s.get .CS_PEND 0 = 1 → s.get .TB_RUNNING 0 = 1 →
    s.qSize 10 < s.qFill 10 + (idsWhere 8 (captures s)).length → Completes .contactSheetFire s fun u =>
      u.get .CS_PEND 0 = 0 ∧ u.get .CS_LOST 0 = 1 ∧ u.get .CS_DONE 0 = s.get .CS_DONE 0 ∧ u.get .QOVF 10 = 1 ∧
      (∀ c < 8, captures s c = true → u.get .CAP_SEQ c = (s.get .CAP_SEQ c + 1) % 16) ∧
      LastEvent u 0x0A05 0x4 noSlot (idsWhere 8 (captures s)).length) ∧
  (∀ (s : State), s.get .CS_PEND 0 = 0 → Completes .contactSheetFire s fun u => u = s)

/-- R41, R260, R330 to R341: conversions. A result of another epoch is dropped; one of an axis window is the sample of
its port; an injected conversion starts outside every protected interval and its result takes it out of the queue; a
check within tolerance clears the strikes, one beyond it is a strike, and the third retires the converter. The
model's choices it rests on: that a command does nothing where its condition does not hold (21, 23); how an operand
`t` moves the time-stamp (6, 22); the readings of log entries 4, 44, 46, 77 and 99. -/
def Obligations.Conversions : Prop :=
  (∀ (t : Nat) (c : Conv) (ch : Nat) (raw : Int) (ovr : Bool) (epoch : Nat) (s : State), epoch ≠ s.get .CONV_EPOCH c →
    Completes (.conversionResult t c ch raw ovr epoch) s fun u =>
      u.get .STALE_DROP 0 = min (s.get .STALE_DROP 0 + 1) 65535 ∧ PostsNone (s.atTick t) u) ∧
  (∀ (t : Nat) (c : Conv) (p : Port) (raw : Int) (ovr : Bool) (s : State), c.val < 16 → convServes s c = true →
    convOfPort s p = c → s.get .CONV_BUSY c = busyNone → s.isAxisPort p = true → s.get .WINDOWED (s.portOwner p) = 1 →
    s.get .SMP_SKIP p = 0 → s.get .SMP_DONE p = 0 → Completes (.conversionResult t c p raw ovr (s.get .CONV_EPOCH c)) s fun u =>
      u.geti .SMP_CODE p = correct s c p raw false ∧ u.get .SMP_OVR p = (if ovr then 1 else 0) ∧ u.get .SMP_DONE p = 1 ∧
      u.get .SMP_FRESH p = 1 ∧ u.get .SMP_SETTLE p = (if s.get .PORT_SETTLE p = 0 then 0 else 1) ∧
      u.get .PORT_SETTLE p = s.get .PORT_SETTLE p - 1) ∧
  (∀ (t : Nat) (c : Conv) (p : Port) (raw : Int) (ovr : Bool) (s : State), c.val < 16 → convServes s c = true →
    convOfPort s p = c → s.get .CONV_BUSY c = busyInjected → s.get .CONV_NOW c = p → s.get .CONV_REDO c = busyNone →
    Completes (.conversionResult t c p raw ovr (s.get .CONV_EPOCH c)) s fun u =>
      u.get .INJ_N c = s.get .INJ_N c - 1 ∧ u.get .CONV_BUSY c = busyNone) ∧
  (∀ (t : Nat) (c : Conv) (i : Nat) (raw : Int) (s : State), 16 ≤ c.val → i < 64 → convServes s c = true →
    s.get .CONV_BUSY c = busyRound → s.get .CONV_NOW c = 64 + i → s.get .CONV_REDO c = busyNone → s.dv .AVG_N i = 0 →
    s.dv .SHIFT i = 0 → s.dv .FMT i = 0 → s.dv .DIFF i = 0 → s.get .AUX_SETTLE i = 0 →
    Completes (.conversionResult t c (64 + i) raw false (s.get .CONV_EPOCH c)) s fun u =>
      u.get .CH_VAL i = (correct s c (64 + i) raw false).toNat ∧ u.get .CONV_BUSY c = busyNone) ∧
  (∀ (t r : Nat) (c : Conv) (s : State), injNext (s.atTick t) c = some r → convServes s c = true → s.get .CONV_BUSY c = busyNone →
    (c.val < 16 → protectedAt s c (s.atTick t).ts = false) → Completes (.injectedConversionStart t c) s fun u =>
      u.get .CONV_BUSY c = busyInjected ∧ u.get .CONV_NOW c = r % 128) ∧
  (∀ (t r : Nat) (c : Conv) (s : State), 16 ≤ c.val → injNext (s.atTick t) c = some r → convServes s c = true → s.get .CONV_BUSY c = busyRound →
    Completes (.injectedConversionStart t c) s fun u =>
      u.get .CONV_BUSY c = busyInjected ∧ u.get .CONV_REDO c = busyRound ∧ u.get .CONV_REDO_CH c = s.get .CONV_NOW c ∧
      u.get .ABORT_CNT c = min (s.get .ABORT_CNT c + 1) 65535) ∧
  (∀ (t : Nat) (c : Conv) (s : State), s.get .INJ_N c = 0 → Completes (.injectedConversionStart t c) s fun u => u = s.atTick t) ∧
  (∀ (t : Nat) (p : Port) (s : State), s.get .MON_WAIT p = 1 → monitorReady (s.atTick t) p = true →
    convServes s (convOfPort s p) = true → s.get .CONV_BUSY (convOfPort s p) = busyNone → Completes (.xportMonitorSample t p) s fun u =>
      u.get .MON_WAIT p = 0 ∧ u.get .CONV_BUSY (convOfPort s p) = busyMonitor ∧ u.get .CONV_NOW (convOfPort s p) = p) ∧
  (∀ (t : Nat) (p : Port) (s : State), s.get .MON_WAIT p = 1 → monitorReady (s.atTick t) p = false →
    Completes (.xportMonitorSample t p) s fun u =>
      u.get .MON_WAIT p = 0 ∧ u.get .MON_SKIP p = min (s.get .MON_SKIP p + 1) 65535) ∧
  (∀ (t : Nat) (p : Port) (s : State), s.get .MON_WAIT p = 0 → Completes (.xportMonitorSample t p) s fun u => u = s.atTick t) ∧
  (∀ (t : Nat) (j : Fin 9) (a b : Int) (port : Nat) (free : Bool) (s : State), j.val < 8 → s.getBit .CHK_REF_FAIL 0 j = false →
    checkable s (2 * j) = true → checkable s (2 * j + 1) = true → isRetired s (2 * j) = false → isRetired s (2 * j + 1) = false →
    s.get .CHK_PHASE j = 0 → absN (correct1 s (2 * j) a - 2048) ≤ s.get .CHECK_TOL 0 →
    absN (correct1 s (2 * j + 1) b - 2048) ≤ s.get .CHECK_TOL 0 → Completes (.converterCheck t j a b port free) s fun u =>
      u.get .CHK_PHASE j = 1 ∧ u.get .CHK_REFRUN j = 0 ∧ u.get .STRIKES (2 * j) = 0 ∧ u.get .STRIKES (2 * j + 1) = 0 ∧
      u.get .CHK_PASSED (2 * j) = 1 ∧ u.get .CHK_PASSED (2 * j + 1) = 1) ∧
  (∀ (t : Nat) (j : Fin 9) (a b : Int) (port : Nat) (free : Bool) (s : State), j.val < 8 → s.getBit .CHK_REF_FAIL 0 j = false →
    checkable s (2 * j) = true → checkable s (2 * j + 1) = true → isRetired s (2 * j) = false → isRetired s (2 * j + 1) = false →
    s.get .CHK_PHASE j = 0 → s.get .CHECK_TOL 0 < absN (correct1 s (2 * j) a - 2048) →
    absN (correct1 s (2 * j + 1) b - 2048) ≤ s.get .CHECK_TOL 0 → Completes (.converterCheck t j a b port free) s fun u =>
      u.get .STRIKES (2 * j) = min 3 (s.get .STRIKES (2 * j) + 1) ∧ u.get .CHK_FAIL_SEEN (2 * j) = 1 ∧
      u.get .CHK_PASSED (2 * j) = 0 ∧ u.get .STRIKES (2 * j + 1) = 0 ∧
      (2 ≤ s.get .STRIKES (2 * j) → u.get .CONV_RET_DUE (2 * j) = 1)) ∧
  (∀ (t : Nat) (j : Fin 9) (a b : Int) (port : Nat) (free : Bool) (s : State), s.getBit .CHK_REF_FAIL 0 j = true →
    Completes (.converterCheck t j a b port free) s fun u => u = s.atTick t) ∧
  (∀ (t : Nat) (c : Conv) (g : Fin 16) (s : State), c.val < 16 → s.get .CONV_RET_DUE c = 1 →
    Completes (.converterRetirement t c g) s fun u =>
      u.get .CONV_RET_DUE c = 0 ∧ isRetired u c = true ∧ u.get .RETIRED_SEEN c = 1 ∧ u.get .STRIKES c = 0 ∧
      u.get .RETIRE_CNT 0 = min (s.get .RETIRE_CNT 0 + 1) 65535 ∧ u.getBit .RED_LOST 0 1 = true ∧ u.get .CONV_CAL c = 1 ∧
      (convServes s (partner c) = true → u.get .CONV_STATE (partner c) = convCovering) ∧
      (groupOf s (2 * c) = g → u.get .PORT_CUT (2 * c) = 1) ∧ (groupOf s (2 * c + 1) = g → u.get .PORT_CUT (2 * c + 1) = 1)) ∧
  (∀ (t : Nat) (c : Conv) (g : Fin 16) (s : State), s.get .CONV_RET_DUE c = 0 → isRetired s c = false →
    Completes (.converterRetirement t c g) s fun u => u = s.atTick t)

/-- R342, R344 to R347: calibration. A calibration starts where it may and takes the coefficients it derives, or fails
and retires its converter; sixteen passes in a row bring a converter back; the two steps of a system calibration
take the offset and the gain of a channel. The model's choices it rests on: that a command does nothing where its
condition does not hold (21, 23); how an operand `t` moves the time-stamp (6, 22); the readings of log entries 4,
45, 46, 74, 90 and 99. -/
def Obligations.Calibration : Prop :=
  (∀ (t : Nat) (c : Conv) (ofs : Int) (gain code : Nat) (s : State), s.get .CONV_CAL c = 1 → absN ofs ≤ 512 → 0x7000 ≤ gain →
    gain ≤ 0x9000 → isRetired s c = false → Completes (.selfCalibrationDone t c ofs gain code) s fun u =>
      u.geti .CAL_OFS c = ofs ∧ u.get .CAL_GAIN c = gain ∧ u.get .CHK_CODE c = code % 65536 ∧ u.get .CONV_CAL c = 0 ∧
      u.get .CONV_STATE c = convActive ∧ LastEvent u 0x0B05 0x5 noSlot (c + ofSigned 16 ofs * 65536)) ∧
  (∀ (t : Nat) (c : Conv) (ofs : Int) (gain code : Nat) (s : State), s.get .CONV_CAL c = 1 → 512 < absN ofs → isRetired s c = false →
    Completes (.selfCalibrationDone t c ofs gain code) s fun u =>
      u.get .CAL_OFS c = s.get .CAL_OFS c ∧ u.get .CAL_GAIN c = s.get .CAL_GAIN c ∧ u.get .CAL_FAIL_SEEN c = 1 ∧
      u.get .CONV_CAL c = 0 ∧ u.get .CONV_STATE c = convRetired ∧ u.get .CONV_RET_DUE c = 1 ∧
      Posts (s.atTick t) u 0x0B06 0x5 noSlot (c + 256)) ∧
  (∀ (t : Nat) (c : Conv) (ofs : Int) (gain code : Nat) (s : State), s.get .CONV_CAL c = 0 →
    Completes (.selfCalibrationDone t c ofs gain code) s fun u => u = s.atTick t) ∧
  (∀ (t : Nat) (c : Conv) (s : State), isRetired s c = true → s.get .CONV_CAL c = 0 → s.get .CONV_PASSES c = 16 →
    s.get .CONV_RET_N c ≤ 1 → s.get .CONV_CALFAIL c = 0 → s.get .CONV_EPOCH_DUE c = 0 → convEpochFree (s.atTick t) c = true →
    s.get .CONV_STATE c = convRetired → Completes (.converterReturn t c) s fun u =>
      isRetired u c = false ∧ u.get .CONV_STATE c = convActive ∧ u.get .CONV_PASSES c = 0 ∧
      u.get .CONV_EPOCH c = (s.get .CONV_EPOCH c + 1) % 16) ∧
  (∀ (t : Nat) (c : Conv) (s : State), s.get .CONV_PASSES c < 16 → Completes (.converterReturn t c) s fun u => u = s.atTick t) ∧
  (∀ (t : Nat) (c : Conv) (s : State), s.get .CAL_INTERVAL 0 ≠ 0 → s.dv .CAL_INTERVAL 0 = s.get .CAL_INTERVAL 0 →
    s.get .CAL_ROTATED c = 1 → s.get .CAL_TICK c + s.get .CAL_INTERVAL 0 * 160000000 ≤ (s.atTick t).ts → mayCalibrate s c = true →
    s.get .INJ_N c = 0 → s.get .CONV_BUSY c ≠ busyInjected → Completes (.periodicCalibrationDue t c) s fun u =>
      u.get .CONV_CAL c = 1 ∧ u.get .CONV_STATE c = convCalibrating ∧
      u.get .CAL_TICK c = (s.get .CAL_TICK c + s.get .CAL_INTERVAL 0 * 160000000) % 2 ^ 64) ∧
  (∀ (t : Nat) (c : Conv) (s : State), s.get .CAL_INTERVAL 0 ≠ 0 → s.dv .CAL_INTERVAL 0 = s.get .CAL_INTERVAL 0 →
    s.get .CAL_ROTATED c = 1 → s.get .CAL_TICK c + s.get .CAL_INTERVAL 0 * 160000000 ≤ (s.atTick t).ts → mayCalibrate s c = false →
    Completes (.periodicCalibrationDue t c) s fun u =>
      u.get .CONV_CAL c = s.get .CONV_CAL c ∧ u.get .CAL_DEFER 0 = min (s.get .CAL_DEFER 0 + 1) 65535 ∧
      u.get .CAL_TICK c = (s.get .CAL_TICK c + s.get .CAL_INTERVAL 0 * 160000000) % 2 ^ 64) ∧
  (∀ (t : Nat) (c : Conv) (s : State), s.get .CAL_INTERVAL 0 ≠ 0 → s.dv .CAL_INTERVAL 0 = s.get .CAL_INTERVAL 0 →
    s.get .CAL_ROTATED c = 0 → (s.atTick t).ts < s.get .CAL_TICK c + s.get .CAL_INTERVAL 0 * 160000000 * (c.val + 1) / 18 →
    Completes (.periodicCalibrationDue t c) s fun u => u = s.atTick t) ∧
  (∀ (t : Nat) (c : Conv) (s : State), s.get .CAL_INTERVAL 0 = 0 → s.dv .CAL_INTERVAL 0 = 0 → Completes (.periodicCalibrationDue t c) s fun u =>
    u.get .CONV_CAL c = s.get .CONV_CAL c ∧ u.get .CAL_DEFER 0 = s.get .CAL_DEFER 0) ∧
  (∀ (t : Nat) (c : Conv) (s : State), s.get .CAL_WAIT c = 1 → mayCalibrate s c = true → s.get .INJ_N c = 0 →
    s.get .CONV_BUSY c ≠ busyInjected → Completes (.calibrationDeferredStart t c) s fun u =>
      u.get .CONV_CAL c = 1 ∧ u.get .CONV_STATE c = convCalibrating ∧ u.get .CAL_WAIT c = 0) ∧
  (∀ (t : Nat) (c : Conv) (s : State), s.get .CAL_WAIT c = 0 → Completes (.calibrationDeferredStart t c) s fun u => u = s.atTick t) ∧
  (∀ (c : Conv) (s : State), mayCalibrate s c = true → s.get .INJ_N c = 0 → s.get .CONV_BUSY c ≠ busyInjected →
    Completes (.calStart c) s fun u => u.get .CONV_CAL c = 1 ∧ u.get .CONV_STATE c = convCalibrating) ∧
  (∀ (c : Conv) (s : State), mayCalibrate s c = true → s.get .INJ_N c ≠ 0 → Completes (.calStart c) s fun u =>
    u.get .CAL_WAIT c = 1 ∧ u.get .CONV_CAL c = s.get .CONV_CAL c) ∧
  (∀ (c : Conv) (s : State), mayCalibrate s c = false → Completes (.calStart c) s fun u =>
    u.get .CAL_REJ c = 1 ∧ u.get .CONV_CAL c = s.get .CONV_CAL c) ∧
  (∀ (path : Path) (s : State), s.get .SEQ_DOWN 0 = 0 → (path = .can → sdoServed s = true) → authOn s path.code = 3 →
    syscalCheck s (s.get .SYSCAL_CH 0) = 0 → Completes (.syscalZero path) s fun u =>
      u.get .ANS_ABORT 0 = 0 ∧ u.get .SC_STEP 0 = 1 ∧ u.get .SC_RUN_CH 0 = s.get .SYSCAL_CH 0) ∧
  (∀ (path : Path) (s : State), s.get .SEQ_DOWN 0 = 0 → (path = .can → sdoServed s = true) → authOn s path.code = 3 →
    syscalCheck s (s.get .SYSCAL_CH 0) = 0 → s.get .SC_ZERO_OK 0 = 1 → s.get .SC_ZERO_CH 0 = s.get .SYSCAL_CH 0 →
    Completes (.syscalRef path) s fun u =>
      u.get .ANS_ABORT 0 = 0 ∧ u.get .SC_STEP 0 = 2 ∧ u.get .SC_RUN_CH 0 = s.get .SYSCAL_CH 0) ∧
  (∀ (path : Path) (s : State), s.get .SEQ_DOWN 0 = 0 → (path = .can → sdoServed s = true) → authOn s path.code = 3 →
    syscalCheck s (s.get .SYSCAL_CH 0) = 0 → s.get .SC_ZERO_OK 0 = 0 → Completes (.syscalRef path) s fun u =>
      u.get .ANS_ABORT 0 = 0x08000022 ∧ u.get .SC_STEP 0 = 0 ∧ u.get .SYSCAL_REJ 0 = 1 ∧ u.get .SYSCAL_WHY 0 = 2) ∧
  (∀ (t : Nat) (code : Int) (s : State), s.get .SC_STEP 0 = 1 → syscalCheck s (s.get .SC_RUN_CH 0) = 0 → absN code ≤ 1024 →
    Completes (.syscalAverageDone t code false) s fun u =>
      u.geti .SC_ZERO 0 = code ∧ u.get .SC_ZERO_OK 0 = 1 ∧ u.get .SC_ZERO_CH 0 = s.get .SC_RUN_CH 0 ∧ u.get .SC_STEP 0 = 0) ∧
  (∀ (t : Nat) (code : Int) (s : State), s.get .SC_STEP 0 ≠ 0 → Completes (.syscalAverageDone t code true) s fun u =>
    u.get .SC_STEP 0 = 0 ∧ u.get .SYSCAL_REJ 0 = 1 ∧ u.get .SYSCAL_WHY 0 = 5 ∧ Posts (s.atTick t) u 0x0B07 0x5 noSlot 5) ∧
  (∀ (t : Nat) (code : Int) (k : Nat) (s : State), s.get .SC_STEP 0 = 2 → k < 16 → s.get .SC_RUN_CH 0 = 2 * k →
    syscalCheck s (2 * k) = 0 → code ≠ s.geti .SC_ZERO 0 →
    0x6000 ≤ rdiv (0x8000 * s.get .SYSCAL_TARGET 0) (code - s.geti .SC_ZERO 0) →
    rdiv (0x8000 * s.get .SYSCAL_TARGET 0) (code - s.geti .SC_ZERO 0) ≤ 0xA000 → Completes (.syscalAverageDone t code false) s fun u =>
      u.geti .SYS_OFS_A k = s.geti .SC_ZERO 0 ∧
      u.get .SYS_GAIN_A k = (rdiv (0x8000 * s.get .SYSCAL_TARGET 0) (code - s.geti .SC_ZERO 0)).toNat ∧
      u.get .SC_STEP 0 = 0 ∧ u.get .SC_ZERO_OK 0 = 0)

/-- R353 to R362: the sensors. A due scan develops the sensor's fields and asks for its conversions; a result becomes
the reading and, where the checks pass, the temperature in use; failures make a sensor suspect, failed and
substituted, and passes make it healthy again. The model's choices it rests on: that a command does nothing where
its condition does not hold (21, 23); how an operand `t` moves the time-stamp (6, 22); the readings of log entries
47, 48 and 49. -/
def Obligations.Sensors : Prop :=
  (∀ (t : Nat) (k : Sensor) (s : State), k.val < 8 → sns s k ≠ snsDisabled → s.get .SNS_EN k = 1 →
    s.get .SNS_SCAN_TICK k + scanInterval s k ≤ (s.atTick t).ts → convServes s (convOfInput s (inputOfSensor k)) = true →
    s.get .SCAN_RATE k ≠ 2 → s.get .SCAN_N (convOfInput s (inputOfSensor k) - 16) ≤ 61 → Completes (.thermalScanDue t k) s fun u =>
      u.get .SNS_SCAN_TICK k = (s.atTick t).ts % 2 ^ 64 ∧ u.get .SNS_PEND k = 1 ∧ u.dv .T_LIM k = s.get .T_LIM k ∧
      u.get .SCAN_N (convOfInput s (inputOfSensor k) - 16) = s.get .SCAN_N (convOfInput s (inputOfSensor k) - 16) + 3) ∧
  (∀ (t : Nat) (k : Sensor) (s : State), k.val < 26 → sns s k ≠ snsDisabled → s.get .SNS_EN k = 1 →
    s.get .SNS_SCAN_TICK k + scanInterval s k ≤ (s.atTick t).ts → convServes s (convOfInput s (inputOfSensor k)) = false →
    s.get .CONV_CAL (convOfInput s (inputOfSensor k)) = 0 → s.get .SNS_MISS k = 0 → Completes (.thermalScanDue t k) s fun u =>
      u.get .SNS_SCAN_TICK k = (s.atTick t).ts % 2 ^ 64 ∧ u.get .SNS_MISS k = max 1 (s.atTick t).ts % 2 ^ 64) ∧
  (∀ (t : Nat) (k : Sensor) (s : State), s.get .SNS_EN k = 0 ∨ (s.atTick t).ts < s.get .SNS_SCAN_TICK k + scanInterval s k →
    Completes (.thermalScanDue t k) s fun u => u = s.atTick t) ∧
  (∀ (t : Nat) (k : Sensor) (a b c : Nat) (s : State), 16 ≤ k.val → k.val < 26 → a < 2 ^ 16 → a ≠ 0x8000 → s.get .SNS_PEND k = 1 →
    sns s k = snsHealthy → s.dv .RATE_MAX k = 0 → (healthyNeighbours s k).length < 2 →
    Completes (.scanResult t k a b c false) s fun u =>
      u.get .RAW k = a ∧ u.get .T_ACC k = a ∧ u.get .TEMP k = a ∧ u.get .SNS_FAILS k = 0 ∧ u.get .SNS_PEND k = 0 ∧
      u.get .FAIL_CNT k = s.get .FAIL_CNT k) ∧
  (∀ (t : Nat) (k : Sensor) (a b c : Nat) (s : State), k.val < 8 → s.get .SNS_PEND k = 1 → sns s k = snsHealthy →
    s.dv .RATE_MAX k = 0 → (healthyNeighbours s k).length < 2 → diodeBad a (diodeRs a b c) false = false →
    Completes (.scanResult t k a b c false) s fun u =>
      u.get .RAW k = tempWord (diodeTemp (s.dv .TD_ETA k) a b c) ∧ u.get .TEMP k = u.get .RAW k ∧
      u.get .TD_RS k = (clampI 0 0xFFFF (diodeRs a b c)).toNat) ∧
  (∀ (t : Nat) (k : Sensor) (a b c : Nat) (s : State), 16 ≤ k.val → k.val < 26 → a < 2 ^ 16 → a ≠ 0x8000 → s.get .SNS_PEND k = 1 →
    sns s k = snsHealthy → rateFails (s.atTick t) k (toSigned 16 a) = true → (healthyNeighbours s k).length < 2 →
    Completes (.scanResult t k a b c false) s fun u =>
      u.get .RAW k = a ∧ u.get .T_ACC k = s.get .T_ACC k ∧ u.get .LAST_CAUSE k = 2 ∧ u.get .SNS_PASSES k = 0 ∧
      u.get .SNS_FAILS k = min 255 (s.get .SNS_FAILS k + 1) ∧ u.get .FAIL_CNT k = min (s.get .FAIL_CNT k + 1) 65535) ∧
  (∀ (t : Nat) (k : Sensor) (a b c : Nat) (ovr : Bool) (s : State), s.get .SNS_PEND k = 0 → Completes (.scanResult t k a b c ovr) s fun u =>
    u = s.atTick t) ∧
  (∀ (t : Nat) (k : Sensor) (s : State), s.get .SNS_MISS k ≠ 0 → s.get .SNS_MISSED k = 0 → sensorSlots s k ≠ [] →
    s.get .SNS_MISS k + 160000000 ≤ (s.atTick t).ts → Completes (.thmNoScan t k) s fun u =>
      u.get .SNS_MISSED k = 1 ∧ ∀ i ∈ sensorSlots s k, s.get .THR_STEP i ≠ 0 → u.get .THR_FROZEN i = 1) ∧
  (∀ (t : Nat) (k : Sensor) (s : State), s.get .SNS_MISS k = 0 → Completes (.thmNoScan t k) s fun u => u = s.atTick t) ∧
  (∀ (t : Nat) (k : Sensor) (s : State), sns s k = snsHealthy → 3 ≤ s.get .SNS_FAILS k → Completes (.thmSuspect t k) s fun u =>
    u.get .SNS_STATE k = snsSuspect) ∧
  (∀ (t : Nat) (k : Sensor) (s : State), s.get .SNS_FAILS k < 3 → Completes (.thmSuspect t k) s fun u => u = s.atTick t) ∧
  (∀ (t : Nat) (k : Sensor) (s : State), sns s k = snsSuspect → 10 ≤ s.get .SNS_FAILS k → Completes (.thmFailed t k) s fun u =>
    u.get .SNS_STATE k = (if healthyNeighbours s k = [] then snsBlind else snsQualifying) ∧ u.get .FAIL_SEEN k = 1 ∧
    u.get .QUAL_TICK k = (s.atTick t).ts % 2 ^ 64 ∧ u.get .SNS_PASSES k = 0 ∧
    u.get .ABSORBED 0 = min (s.get .ABSORBED 0 + 1) 65535 ∧
    ∀ i ∈ sensorSlots s k, s.get .THR_STEP i ≠ 0 → u.get .THR_FROZEN i = 1) ∧
  (∀ (t : Nat) (k : Sensor) (s : State), s.get .SNS_FAILS k < 10 → Completes (.thmFailed t k) s fun u => u = s.atTick t) ∧
  (∀ (t : Nat) (k : Sensor) (s : State), sns s k = snsQualifying → s.get .QUAL_TICK k + 320000000 ≤ (s.atTick t).ts →
    healthyNeighbours s k ≠ [] → Completes (.thmSubstitute t k) s fun u =>
      u.get .SNS_STATE k = snsSubstituted ∧ u.get .TEMP k = substituteOf s k) ∧
  (∀ (t : Nat) (k : Sensor) (s : State), sns s k ≠ snsQualifying → Completes (.thmSubstitute t k) s fun u => u = s.atTick t) ∧
  (∀ (t : Nat) (k : Sensor) (s : State), sns s k = snsSubstituted ∨ sns s k = snsBlind → 50 ≤ s.get .SNS_PASSES k →
    Completes (.thmRecovered t k) s fun u =>
      u.get .SNS_STATE k = snsHealthy ∧ u.get .SNS_FAILS k = 0 ∧ u.get .T_ACC k = s.get .RAW k ∧ u.get .TEMP k = s.get .RAW k) ∧
  (∀ (t : Nat) (k : Sensor) (s : State), s.get .SNS_PASSES k < 50 → Completes (.thmRecovered t k) s fun u => u = s.atTick t) ∧
  (∀ (k : Sensor) (s : State), Completes (.snsEnWrite k false) s fun u =>
    u.get .SNS_EN k = 0 ∧ u.get .SNS_STATE k = snsDisabled ∧ u.get .TEMP k = noTemp ∧ u.get .SNS_PEND k = 0) ∧
  (∀ (k : Sensor) (s : State), sns s k = snsDisabled → Completes (.snsEnWrite k true) s fun u =>
    u.get .SNS_EN k = 1 ∧ u.get .SNS_STATE k = snsHealthy ∧ u.get .TEMP k = noTemp ∧ u.get .SNS_FAILS k = 0)

/-- R365 to R367: the hold of a throttle step that has been frozen ends after its time; the budget evaluation estimates
the gate-drive power, lengthens the period of a group that may be lengthened while it is over budget, and says so
where none may be. The model's choices it rests on: that a command does nothing where its condition does not hold
(21, 23); how an operand `t` moves the time-stamp (6, 22); the readings of log entry 4. -/
def Obligations.ThrottleAndBudget : Prop :=
  (∀ (t : Nat) (i : Slot) (s : State), s.get .THR_HOLDING i = 1 → s.get .THR_HOLD_TICK i ≤ (s.atTick t).ts →
    Completes (.thrHoldExpiry t i) s fun u => u.get .THR_HOLDING i = 0 ∧ u.get .THR_HFLOOR i = 0 ∧ PostsNone (s.atTick t) u) ∧
  (∀ (t : Nat) (i : Slot) (s : State), s.get .THR_HOLDING i = 0 → Completes (.thrHoldExpiry t i) s fun u => u = s.atTick t) ∧
  (∀ (t : Nat) (s : State), (∀ p < 32, s.dv .QG_NC p = s.get .QG_NC p) → gdEstimate s 16 0 ≤ s.get .GD_BUDGET 0 →
    Completes (.budgetEvaluation t) s fun u =>
      u.get .GD_EST 0 = min 0xFFFF (gdEstimate s 16 0).toNat ∧ u.get .BUDGET_OVER 0 = 0 ∧
      u.dv .GD_BUDGET 0 = s.get .GD_BUDGET 0) ∧
  (∀ (t : Nat) (s : State), (∀ p < 32, s.dv .QG_NC p = s.get .QG_NC p) → s.get .GD_BUDGET 0 < gdEstimate s 16 0 →
    budgetGroups s = [] → Completes (.budgetEvaluation t) s fun u =>
      u.get .GD_EST 0 = min 0xFFFF (gdEstimate s 16 0).toNat ∧ u.get .BUDGET_OVER 0 = 1) ∧
  (∀ (t g : Nat) (s : State), (∀ p < 32, s.dv .QG_NC p = s.get .QG_NC p) → s.get .GD_BUDGET 0 < gdEstimate s 16 0 →
    budgetGroups s = [g] → Completes (.budgetEvaluation t) s fun u =>
      u.get .BUDGET_ACT 0 = 1 ∧ u.get .BUDGET_OVER 0 = 0 ∧
      ∀ p ∈ groupPorts s g, u.get .PERIOD_LONG p = min 16000 (2 * groupPeriod s g) ∧ u.get .PERIOD_DEV p = s.get .PERIOD_DEV p)

/-- R100, R101, R371 to R384: strips, votes and migrations. A strip begins on the next slot that fits, with a live
spare; equal digests end it, a difference asks the voter, and the vote decides which engine the slot keeps; a wanted
migration cuts over with a new epoch. The model's choices it rests on: that a command does nothing where its
condition does not hold (21, 23); how an operand `t` moves the time-stamp (6, 22); the readings of log entries 49,
50 and 99. -/
def Obligations.EnginesAndStrips : Prop :=
  (∀ (t sh : Nat) (s : State), s.get .STRIP_INT 0 ≠ 0 → s.get .STRIP_ACTIVE 0 = 0 →
    s.get .STRIP_LAST 0 + s.get .STRIP_INT 0 * 160000 ≤ (s.atTick t).ts → stripFits s (s.get .STRIP_NEXT 0 % 8) = true →
    chooseSpare s [] = some sh → Completes (.testStripStart t) s fun u =>
      u.get .STRIP_ACTIVE 0 = 1 ∧ u.get .STRIP_SLOT 0 = s.get .STRIP_NEXT 0 % 8 ∧ u.get .STRIP_ENG 0 = sh ∧
      u.get .STRIP_NEXT 0 = (s.get .STRIP_NEXT 0 + 1) % 8 ∧ u.get .STRIP_CYCLES 0 = 0 ∧
      u.get .STRIP_LAST 0 = (s.atTick t).ts % 2 ^ 64) ∧
  (∀ (t : Nat) (s : State), s.get .STRIP_INT 0 = 0 ∨ s.get .STRIP_ACTIVE 0 = 1 → Completes (.testStripStart t) s fun u => u = s.atTick t) ∧
  (∀ (t : Nat) (s : State), s.get .STRIP_ACTIVE 0 = 1 → s.get .STRIP_VOTE 0 = 0 → 40 ≤ s.get .STRIP_CYCLES 0 →
    Completes (.stripComplete t true) s fun u =>
      u.get .STRIP_ACTIVE 0 = 0 ∧ u.get .STRIP_RUN 0 = (s.get .STRIP_RUN 0 + 1) % 2 ^ 16 ∧ u.get .STRIP_ENG 0 = noEngine ∧
      u.get .STRIP_ENG 1 = noEngine) ∧
  (∀ (t : Nat) (s : State), s.get .STRIP_ACTIVE 0 = 1 → s.get .STRIP_VOTE 0 = 0 → 40 ≤ s.get .STRIP_CYCLES 0 →
    s.get .STRIP_ENG 1 ≠ noEngine → Completes (.stripComplete t false) s fun u =>
      u.get .STRIP_VOTE 0 = 1 ∧ u.get .STRIP_BAD_CYCLE 0 = 41 ∧ u.get .STRIP_MISMATCH 0 = min (s.get .STRIP_MISMATCH 0 + 1) 65535 ∧
      Posts (s.atTick t) u 0x0D00 0x0 (s.get .STRIP_SLOT 0)
        (s.get .SLOT_ENGINE (s.get .STRIP_SLOT 0) + s.get .STRIP_ENG 0 * 16 + 41 * 256)) ∧
  (∀ (t : Nat) (equal : Bool) (s : State), s.get .STRIP_CYCLES 0 < 40 → Completes (.stripComplete t equal) s fun u => u = s.atTick t) ∧
  (∀ (t : Nat) (s : State), s.get .STRIP_ACTIVE 0 = 1 → s.get .STRIP_VOTE 0 = 1 → Completes (.voteReplayDone t 0) s fun u =>
    u.get .STRIP_ACTIVE 0 = 0 ∧ u.get .MIG_WANT (s.get .STRIP_SLOT 0) = 1 ∧
    u.get .MIG_TARGET (s.get .STRIP_SLOT 0) = s.get .STRIP_ENG 0 ∧ u.get .MIG_KILLS (s.get .STRIP_SLOT 0) = 1) ∧
  (∀ (t : Nat) (s : State), s.get .STRIP_ACTIVE 0 = 1 → s.get .STRIP_VOTE 0 = 1 → s.get .STRIP_ENG 0 < 10 →
    Completes (.voteReplayDone t 1) s fun u =>
      u.get .STRIP_ACTIVE 0 = 0 ∧ u.getBit .DEAD_MAP 0 (s.get .STRIP_ENG 0) = true ∧
      u.getBit .VOTE_LOST_MAP 0 (s.get .STRIP_ENG 0) = true ∧ u.get .ENG_DEAD 0 = min (s.get .ENG_DEAD 0 + 1) 65535) ∧
  (∀ (t : Nat) (s : State), s.get .STRIP_ACTIVE 0 = 1 → s.get .STRIP_VOTE 0 = 1 → Completes (.voteReplayDone t 2) s fun u =>
    u.get .STRIP_ACTIVE 0 = 0 ∧ u.get .VOTE_SPLIT 0 = min (s.get .VOTE_SPLIT 0 + 1) 65535 ∧
    u.get .ENG_BIST (s.get .STRIP_ENG 0) = 1 ∧ u.get .ENG_BIST (s.get .STRIP_ENG 1) = 1) ∧
  (∀ (t : Nat) (e : Engine) (s : State), s.get .ENG_BIST e = 1 → s.get .STRIP_ACTIVE 0 = 0 → isDead s e = false →
    Completes (.engineBistDone t e true) s fun u => u.get .ENG_BIST e = 0 ∧ isDead u e = false) ∧
  (∀ (t : Nat) (e : Engine) (s : State), s.get .ENG_BIST e = 1 → s.get .STRIP_ACTIVE 0 = 0 → isDead s e = false →
    Completes (.engineBistDone t e false) s fun u =>
      u.get .ENG_BIST e = 0 ∧ isDead u e = true ∧ u.get .ENG_DEAD 0 = min (s.get .ENG_DEAD 0 + 1) 65535) ∧
  (∀ (t : Nat) (e : Engine) (s : State), s.get .ENG_BIST e = 1 → s.get .STRIP_ACTIVE 0 = 0 → isDead s e = true → s.get .ENG_LOST e < 2 →
    Completes (.engineBistDone t e true) s fun u => u.get .ENG_BIST e = 0 ∧ isDead u e = false) ∧
  (∀ (t : Nat) (e : Engine) (pass : Bool) (s : State), s.get .ENG_BIST e = 0 → Completes (.engineBistDone t e pass) s fun u => u = s.atTick t) ∧
  (∀ (t : Nat) (i : Slot) (s : State), 16 ≤ s.get .NO_POST_RUN i → s.get .SPARE_MAP 0 = 0 → Completes (.noPostPortsOff t i) s fun u =>
    (∀ p ∈ s.slotPorts i, u.get .PORT_DRIVE p = 0) ∧
    u.get .DRIVE_STATE i = (if s.get .DRIVE_STATE i = dsFaultReaction then dsFault else s.get .DRIVE_STATE i)) ∧
  (∀ (t : Nat) (i : Slot) (s : State), s.get .NO_POST_RUN i < 16 → Completes (.noPostPortsOff t i) s fun u => u = s.atTick t) ∧
  (∀ (mask : Nat) (s : State), s.get .SEQ_DOWN 0 = 0 → 1 ≤ mask → mask ≤ 255 → (∀ i < 8, bit mask i = true → s.kind i ≠ 0) →
    (chooseSpare s []).isSome = true → Completes (.migrate mask) s fun u =>
      u.get .ANS_ABORT 0 = 0 ∧ ∀ i < 8, bit mask i = true → u.get .MIG_WANT i = 1 ∧ u.get .MIG_TARGET i = noEngine) ∧
  (∀ (mask : Nat) (s : State), s.get .SEQ_DOWN 0 = 0 → 1 ≤ mask → mask ≤ 255 → chooseSpare s [] = none →
    Completes (.migrate mask) s fun u => u.get .ANS_ABORT 0 = 0x08000022 ∧ u.get .MIG_REJ 0 = 1) ∧
  (∀ (t e : Nat) (i : Slot) (s : State), s.get .MIG_WANT i = 1 → slotEpochFree (s.atTick t) i = true → migrationTarget s i = some e →
    s.get .MIG_KILLS i = 0 → Completes (.migrationCutover t i) s fun u =>
      u.get .SLOT_ENGINE i = e ∧ u.get .MIG_WANT i = 0 ∧ u.get .SLOT_EPOCH i = (s.get .SLOT_EPOCH i + 1) % 16 ∧
      u.get .EPOCH_TICK i = (s.atTick t).ts % 2 ^ 64 ∧ u.get .MIGRATIONS 0 = min (s.get .MIGRATIONS 0 + 1) 65535) ∧
  (∀ (t : Nat) (i : Slot) (s : State), s.get .MIG_WANT i = 0 → Completes (.migrationCutover t i) s fun u => u = s.atTick t) ∧
  (∀ (i : Slot) (s : State), s.get .MIG_WANT i = 1 → Completes (.coldTakeover i) s fun u => u.get .MIG_COLD i = 1 ∧ PostsNone s u) ∧
  (∀ (i : Slot) (s : State), s.get .MIG_WANT i = 0 → Completes (.coldTakeover i) s fun u => u = s)

/-- R40, R56, R385 to R387, R481, R482, R486: domains and the sequencer. A restart takes a domain off and back with a
new epoch, unless motion needs it; a request to switch domains off is latent until the status tick; a restart of the
sequencer ends the session and is counted. The model's choices it rests on: that a command does nothing where its
condition does not hold (21, 23); how an operand `t` moves the time-stamp (6, 22); the readings of log entries 52,
60 and 96. -/
def Obligations.DomainsAndSequencer : Prop :=
  (∀ (path : Path) (d : Nat) (s : State), s.get .SEQ_DOWN 0 = 0 → (path = .can → sdoServed s = true) → d ≤ 11 →
    2 ≤ authOn s path.code → motionNeeds s d = false → (d = 1 → anyEnabled s = false) → s.get .DOM_RESTARTING d = 0 →
    domEpochFree s d = true → Completes (.domainRestart path d) s fun u =>
      u.get .ANS_ABORT 0 = 0 ∧ u.get .DOM_RESTARTING d = 1 ∧ u.getBit .DOM_ON 0 d = false ∧
      u.get .DOM_RESTARTS 0 = min (s.get .DOM_RESTARTS 0 + 1) 65535) ∧
  (∀ (path : Path) (d : Nat) (s : State), s.get .SEQ_DOWN 0 = 0 → (path = .can → sdoServed s = true) → d ≤ 11 →
    authOn s path.code < 2 ∨ motionNeeds s d = true → Completes (.domainRestart path d) s fun u =>
      u.get .ANS_ABORT 0 = 0x08000022 ∧ u.get .DOM_RESTARTING d = s.get .DOM_RESTARTING d ∧ u.getBit .DOM_ON 0 d = s.getBit .DOM_ON 0 d) ∧
  (∀ (t : Nat) (d : Fin 12) (s : State), motionNeeds s d = false → (d.val = 1 → anyEnabled s = false) → s.get .DOM_RESTARTING d = 0 →
    domEpochFree (s.atTick t) d = true → Completes (.helperHandshakeFault t d) s fun u =>
      u.get .DOM_RESTARTING d = 1 ∧ u.getBit .DOM_ON 0 d = false ∧ u.get .DOM_RESTARTS 0 = min (s.get .DOM_RESTARTS 0 + 1) 65535) ∧
  (∀ (t : Nat) (d : Fin 12) (s : State), s.get .DOM_RESTARTING d = 1 → Completes (.domainRestartDone t d) s fun u =>
    u.get .DOM_RESTARTING d = 0 ∧ u.getBit .DOM_ON 0 d = true ∧ u.get .DOM_EPOCH d = (s.get .DOM_EPOCH d + 1) % 16) ∧
  (∀ (t : Nat) (d : Fin 12) (s : State), s.get .DOM_RESTARTING d = 0 → Completes (.domainRestartDone t d) s fun u => u = s.atTick t) ∧
  (∀ (path : Path) (v : Nat) (s : State), s.get .SEQ_DOWN 0 = 0 → (path = .can → sdoServed s = true) → v ≤ 0xFFF → v % 8 = 0 →
    (∀ d < 12, bit v d = true → s.getBit .DOM_OFF_REQ 0 d = true ∨ s.getBit .DOM_ON 0 d = false) → Completes (.domOffReq path v) s fun u =>
      u.get .ANS_ABORT 0 = 0 ∧ u.get .DOM_OFF_REQ 0 = v ∧ u.get .DOM_REQ_PATH 0 = path.code) ∧
  (∀ (path : Path) (v : Nat) (s : State), s.get .SEQ_DOWN 0 = 0 → (path = .can → sdoServed s = true) → v % 8 ≠ 0 →
    Completes (.domOffReq path v) s fun u => u.get .ANS_ABORT 0 = 0x06090030 ∧ u.get .DOM_OFF_REQ 0 = s.get .DOM_OFF_REQ 0) ∧
  (∀ (t : Nat) (d : Fin 12) (s : State), s.getBit .DOM_BUSY 0 d = true → s.getBit .DOM_LEAVING 0 d = true →
    (d.val = 4 ∨ d.val = 5 → activeAxes s d = 0) → offAllowed s d = true → Completes (.domainSwitched t d) s fun u =>
      u.getBit .DOM_ON 0 d = false ∧ u.getBit .DOM_BUSY 0 d = false ∧ u.getBit .DOM_LEAVING 0 d = false ∧
      LastEvent u 0x1101 0x0 noSlot d) ∧
  (∀ (t : Nat) (d : Fin 12) (s : State), s.getBit .DOM_BUSY 0 d = true → s.getBit .DOM_LEAVING 0 d = true →
    (d.val = 4 ∨ d.val = 5 → activeAxes s d = 0) → offAllowed s d = false → Completes (.domainSwitched t d) s fun u =>
      u.getBit .DOM_ON 0 d = s.getBit .DOM_ON 0 d ∧ u.getBit .DOM_BUSY 0 d = false ∧ u.getBit .DOM_LEAVING 0 d = false) ∧
  (∀ (t : Nat) (d : Fin 12) (s : State), s.getBit .DOM_BUSY 0 d = true → s.getBit .DOM_LEAVING 0 d = false →
    domEpochFree (s.atTick t) d = true → Completes (.domainSwitched t d) s fun u =>
      u.getBit .DOM_ON 0 d = true ∧ u.getBit .DOM_BUSY 0 d = false ∧ u.get .DOM_EPOCH d = (s.get .DOM_EPOCH d + 1) % 16 ∧
      LastEvent u 0x1101 0x0 noSlot (d + 256)) ∧
  (∀ (t : Nat) (d : Fin 12) (s : State), s.getBit .DOM_BUSY 0 d = false → Completes (.domainSwitched t d) s fun u => u = s.atTick t) ∧
  (∀ (path : Path) (s : State), s.get .SEQ_DOWN 0 = 0 → (path = .can → sdoServed s = true) → 2 ≤ authOn s path.code →
    seqEpochFree s = true → Completes (.seqRestart path 1) s fun u =>
      u.get .ANS_ABORT 0 = 0 ∧ u.get .SEQ_DOWN 0 = 1 ∧ u.get .SEQ_CAUSE 0 = 3 ∧ u.get .SESS_OPEN 0 = 0) ∧
  (∀ (path : Path) (s : State), s.get .SEQ_DOWN 0 = 0 → (path = .can → sdoServed s = true) → 2 ≤ authOn s path.code →
    seqEpochFree s = false → Completes (.seqRestart path 1) s fun u =>
      u.get .ANS_ABORT 0 = 0 ∧ u.get .SEQ_DOWN 0 = 0 ∧ u.get .SEQ_WAIT 0 = 1 ∧ u.get .SEQ_WAIT_CAUSE 0 = 3) ∧
  (∀ (path : Path) (s : State), s.get .SEQ_DOWN 0 = 0 → (path = .can → sdoServed s = true) → authOn s path.code < 2 →
    Completes (.seqRestart path 1) s fun u => u.get .ANS_ABORT 0 = 0x08000022 ∧ u.get .SEQ_DOWN 0 = 0) ∧
  (∀ (t : Nat) (s : State), s.get .SEQ_DOWN 0 = 0 → s.get .SEQ_SERVED 0 + 16000000 ≤ (s.atTick t).ts →
    seqEpochFree (s.atTick t) = true → Completes (.sequencerWatchdog t) s fun u =>
      u.get .SEQ_DOWN 0 = 1 ∧ u.get .SEQ_CAUSE 0 = 0 ∧ u.get .SESS_OPEN 0 = 0 ∧
      u.get .SEQ_WD_CNT 0 = min (s.get .SEQ_WD_CNT 0 + 1) 65535) ∧
  (∀ (t : Nat) (s : State), (s.atTick t).ts < s.get .SEQ_SERVED 0 + 16000000 → Completes (.sequencerWatchdog t) s fun u => u = s.atTick t) ∧
  (∀ (t : Nat) (s : State), s.get .SEQ_DOWN 0 = 1 → Completes (.sequencerRestartDone t true) s fun u =>
    u.get .SEQ_DOWN 0 = 0 ∧ u.get .SEQ_EPOCH 0 = (s.get .SEQ_EPOCH 0 + 1) % 16 ∧
    u.get .SEQ_RESTARTS 0 = min (s.get .SEQ_RESTARTS 0 + 1) 65535) ∧
  (∀ (t : Nat) (imageOk : Bool) (s : State), s.get .SEQ_DOWN 0 = 0 → Completes (.sequencerRestartDone t imageOk) s fun u => u = s.atTick t)

/-- R388, R389, R416, R436: the CAN buses. A bus that goes off or stays silent is lost and redundancy with it; one that
receives again for a second is restored; an overrun and a recovery are reported as EMCY and in the error history.
The model's choices it rests on: that a command does nothing where its condition does not hold (21, 23); how an
operand `t` moves the time-stamp (6, 22); the readings of log entries 49 and 65. -/
def Obligations.CanBuses : Prop :=
  (∀ (t : Nat) (b : Fin 2) (s : State), busUsed s b = true → s.get .CAN_OFF b = 0 → s.getBit .CAN_LOST 0 b = false →
    Completes (.canBusOff t b) s fun u =>
      u.get .CAN_OFF b = 1 ∧ u.getBit .CAN_LOST 0 b = true ∧ u.get .CAN_LOSS 0 = min (s.get .CAN_LOSS 0 + 1) 65535 ∧
      u.getBit .RED_LOST 0 3 = true ∧ (busUsed s (1 - b) = false → u.get .COMM_DUE 0 = 1)) ∧
  (∀ (t : Nat) (b : Fin 2) (s : State), s.get .CAN_OFF b = 1 → Completes (.canBusOff t b) s fun u => u = s.atTick t) ∧
  (∀ (t : Nat) (b : Fin 2) (s : State), s.dv .CAN_RED 0 = 1 → s.get .CAN_SILENT 0 ≠ 0 → s.getBit .CAN_LOST 0 b = false →
    s.get .CAN_RX_TICK b + s.get .CAN_SILENT 0 * 160000 ≤ (s.atTick t).ts → s.get .CAN_RX_TICK b < s.get .CAN_RX_TICK (1 - b) →
    Completes (.canSilenceTimeout t b) s fun u =>
      u.getBit .CAN_LOST 0 b = true ∧ u.get .CAN_LOSS 0 = min (s.get .CAN_LOSS 0 + 1) 65535 ∧ u.getBit .RED_LOST 0 3 = true) ∧
  (∀ (t : Nat) (b : Fin 2) (s : State), s.dv .CAN_RED 0 = 0 → Completes (.canSilenceTimeout t b) s fun u => u = s.atTick t) ∧
  (∀ (t : Nat) (b : Fin 2) (s : State), s.getBit .CAN_LOST 0 b = true → s.get .CAN_OFF b = 0 → s.get .CAN_GOOD_TICK b ≠ 0 →
    s.get .CAN_GOOD_TICK b + 160000000 ≤ (s.atTick t).ts → Completes (.canBusRestored t b) s fun u =>
      u.getBit .CAN_LOST 0 b = false ∧ u.getBit .RED_LOST 0 3 = s.getBit .CAN_LOST 0 (1 - b)) ∧
  (∀ (t : Nat) (b : Fin 2) (s : State), s.get .CAN_GOOD_TICK b = 0 → Completes (.canBusRestored t b) s fun u => u = s.atTick t) ∧
  (∀ (t : Nat) (b : Fin 2) (s : State), busHears s b = true → Completes (.canReceiveOverrun t b) s fun u =>
    u.get .ERR_HIST 0 = 0x00FF8110 ∧ u.get .ERR_COUNT 0 = min 16 (s.get .ERR_COUNT 0 + 1) ∧ u.getBit .COMM_ERR 0 2 = false ∧
    PostsNone (s.atTick t) u) ∧
  (∀ (t : Nat) (b : Fin 2) (s : State), busHears s b = false → Completes (.canReceiveOverrun t b) s fun u => u = s.atTick t) ∧
  (∀ (t : Nat) (b : Fin 2) (s : State), s.get .CAN_OFF b = 1 → Completes (.canBusOffRecovered t b) s fun u =>
    u.get .CAN_OFF b = 0 ∧ u.get .ERR_HIST 0 = 0x00FF8140 ∧ u.getBit .COMM_ERR 0 1 = false ∧ PostsNone (s.atTick t) u) ∧
  (∀ (t : Nat) (b : Fin 2) (s : State), s.get .CAN_OFF b = 0 → Completes (.canBusOffRecovered t b) s fun u => u = s.atTick t)

/-- R421 to R423: network management. A command for this node moves its state, and leaving Operational is a loss of
communication; a communication reset boots the node up again; reset node stops every enabled slot first. The model's
choices it rests on: that a command does nothing where its condition does not hold (21, 23); how an operand `t`
moves the time-stamp (6, 22); the readings of log entries 65, 66 and 75. -/
def Obligations.NetworkManagement : Prop :=
  (∀ (t node : Nat) (b : Fin 2) (s : State), busHears s b = true → s.dv .CAN_RED 0 = 0 → nmtFor s node = true →
    s.get .NMT_STATE 0 = nmtPreOp ∨ s.get .NMT_STATE 0 = nmtOperational ∨ s.get .NMT_STATE 0 = nmtStopped →
    Completes (.nmtStart t b node) s fun u => u.get .NMT_STATE 0 = nmtOperational ∧ u.get .COMM_DUE 0 = s.get .COMM_DUE 0) ∧
  (∀ (t node : Nat) (b : Fin 2) (s : State), busHears s b = true → s.dv .CAN_RED 0 = 0 → nmtFor s node = true →
    s.get .NMT_STATE 0 = nmtPreOp ∨ s.get .NMT_STATE 0 = nmtOperational ∨ s.get .NMT_STATE 0 = nmtStopped →
    Completes (.nmtStop t b node) s fun u =>
      u.get .NMT_STATE 0 = nmtStopped ∧ (s.get .NMT_STATE 0 = nmtOperational → u.get .COMM_DUE 0 = 1)) ∧
  (∀ (t node : Nat) (b : Fin 2) (s : State), busHears s b = true → s.dv .CAN_RED 0 = 0 → nmtFor s node = true →
    s.get .NMT_STATE 0 = nmtPreOp ∨ s.get .NMT_STATE 0 = nmtOperational ∨ s.get .NMT_STATE 0 = nmtStopped →
    Completes (.nmtEnterPreOperational t b node) s fun u =>
      u.get .NMT_STATE 0 = nmtPreOp ∧ (s.get .NMT_STATE 0 = nmtOperational → u.get .COMM_DUE 0 = 1)) ∧
  (∀ (t node : Nat) (b : Fin 2) (s : State), nmtFor s node = false → Completes (.nmtStart t b node) s fun u =>
    u.get .NMT_STATE 0 = s.get .NMT_STATE 0 ∧ u.get .COMM_DUE 0 = s.get .COMM_DUE 0) ∧
  (∀ (t node : Nat) (b : Fin 2) (s : State), busHears s b = true → s.dv .CAN_RED 0 = 0 → nmtFor s node = true →
    s.get .NMT_STATE 0 = nmtPreOp ∨ s.get .NMT_STATE 0 = nmtOperational ∨ s.get .NMT_STATE 0 = nmtStopped →
    Completes (.nmtResetCommunication t b node) s fun u =>
      u.get .NMT_STATE 0 = if u.get .NODE_ID_ACT 0 = 0xFF then nmtLss else if u.get .NMT_STARTUP 0 = 4 then nmtOperational else nmtPreOp) ∧
  (∀ (t node : Nat) (b : Fin 2) (s : State), busHears s b = true → s.dv .CAN_RED 0 = 0 → nmtFor s node = true →
    s.get .NMT_STATE 0 = nmtPreOp ∨ s.get .NMT_STATE 0 = nmtOperational ∨ s.get .NMT_STATE 0 = nmtStopped →
    Completes (.nmtResetNode t b node) s fun u =>
      u.get .RESET_NODE 0 = 1 ∧ ∀ i < 8, s.opEnabled i = true → s.getBit .SB_CMD 0 i = false → rideThrough s i = false →
        s.geti .QSTOP_OPTION i ≠ 0 → u.get .DRIVE_STATE i = dsQuickStop ∧ u.get .AFTER_STOP i = 3) ∧
  (∀ (t : Nat) (s : State), s.get .RESET_NODE 0 = 1 → (∀ i < 8, s.slotDisabled i = true) → Completes (.resetNodeReload t) s fun u =>
    u.get .RESET_NODE 0 = 0 ∧
    u.get .NMT_STATE 0 = if u.get .NODE_ID_ACT 0 = 0xFF then nmtLss else if u.get .NMT_STARTUP 0 = 4 then nmtOperational else nmtPreOp) ∧
  (∀ (t : Nat) (s : State), s.get .RESET_NODE 0 = 0 → Completes (.resetNodeReload t) s fun u => u = s.atTick t)

/-- R417, R420: LSS. The master switches the node into configuration, by the whole identity or globally; there a node ID
and a bit timing are taken or refused, stored and activated, and the identity is answered; who does not fit stays
silent. The model's choices it rests on: the readings of log entry 65. -/
def Obligations.LayerSettings : Prop :=
  (∀ (t : Nat) (b : Fin 2) (s : State), busHears s b = true → s.dv .CAN_RED 0 = 0 → Completes (.lssSwitchState t b 1 none) s fun u =>
    u.get .LSS_MODE 0 = 1 ∧ u.tx = s.tx) ∧
  (∀ (t : Nat) (b : Fin 2) (s : State), busHears s b = true → s.dv .CAN_RED 0 = 0 → s.get .NMT_STATE 0 ≠ nmtLss →
    Completes (.lssSwitchState t b 0 none) s fun u => u.get .LSS_MODE 0 = 0 ∧ u.tx = s.tx) ∧
  (∀ (t mode : Nat) (b : Fin 2) (s : State), busHears s b = true → s.dv .CAN_RED 0 = 0 →
    Completes (.lssSwitchState t b mode (some (0xB4D, 0x8032, 0x0B020301, s.sec.identity.serial))) s fun u =>
      u.get .LSS_MODE 0 = 1 ∧ u.tx = s.tx ++ [⟨0, 0x7E4, [0x44]⟩]) ∧
  (∀ (t mode v p r n : Nat) (b : Fin 2) (s : State), [v, p, r, n] ≠ lssIdentity s →
    Completes (.lssSwitchState t b mode (some (v, p, r, n))) s fun u => u.get .LSS_MODE 0 = s.get .LSS_MODE 0 ∧ u.tx = s.tx) ∧
  (∀ (t node : Nat) (b : Fin 2) (s : State), busHears s b = true → s.dv .CAN_RED 0 = 0 → s.get .LSS_MODE 0 = 1 →
    s.get .NODE_ID 0 = 0xFF → 1 ≤ node → node ≤ 127 → Completes (.lssConfigureNodeId t b node) s fun u =>
      u.get .NODE_ID_NEXT 0 = node ∧ u.tx = s.tx ++ [⟨0, 0x7E4, [0x11, 0, 0]⟩]) ∧
  (∀ (t node : Nat) (b : Fin 2) (s : State), busHears s b = true → s.dv .CAN_RED 0 = 0 → s.get .LSS_MODE 0 = 1 →
    s.get .NODE_ID 0 = 0xFF → node = 0 ∨ 127 < node → node ≠ 0xFF → Completes (.lssConfigureNodeId t b node) s fun u =>
      u.get .NODE_ID_NEXT 0 = s.get .NODE_ID_NEXT 0 ∧ u.tx = s.tx ++ [⟨0, 0x7E4, [0x11, 1, 0]⟩]) ∧
  (∀ (t node : Nat) (b : Fin 2) (s : State), s.get .LSS_MODE 0 = 0 → Completes (.lssConfigureNodeId t b node) s fun u =>
    u.get .NODE_ID_NEXT 0 = s.get .NODE_ID_NEXT 0 ∧ u.tx = s.tx) ∧
  (∀ (t entry : Nat) (b : Fin 2) (s : State), busHears s b = true → s.dv .CAN_RED 0 = 0 → s.get .LSS_MODE 0 = 1 → entry ≤ 8 → entry ≠ 5 →
    Completes (.lssConfigureBitTiming t b 0 entry) s fun u =>
      u.get .LSS_BIT 0 = entry ∧ u.tx = s.tx ++ [⟨0, 0x7E4, [0x13, 0, 0]⟩]) ∧
  (∀ (t table entry : Nat) (b : Fin 2) (s : State), busHears s b = true → s.dv .CAN_RED 0 = 0 → s.get .LSS_MODE 0 = 1 →
    table ≠ 0 ∨ 8 < entry ∨ entry = 5 → Completes (.lssConfigureBitTiming t b table entry) s fun u =>
      u.get .LSS_BIT 0 = s.get .LSS_BIT 0 ∧ u.tx = s.tx ++ [⟨0, 0x7E4, [0x13, 1, 0]⟩]) ∧
  (∀ (t delay : Nat) (b : Fin 2) (s : State), busHears s b = true → s.dv .CAN_RED 0 = 0 → s.get .LSS_MODE 0 = 1 →
    s.get .LSS_BIT 0 ≠ 0xFF → Completes (.lssActivateBitTiming t b delay) s fun u =>
      u.get .ARB_RATE 0 = s.get .LSS_BIT 0 ∧ u.dv .ARB_RATE 0 = s.get .LSS_BIT 0) ∧
  (∀ (t : Nat) (b : Fin 2) (s : State), busHears s b = true → s.dv .CAN_RED 0 = 0 → s.get .LSS_MODE 0 = 1 →
    Completes (.lssStoreConfiguration t b) s fun u =>
      u.get .NODE_ID_LSS 0 = s.get .NODE_ID_NEXT 0 ∧ u.tx = s.tx ++ [⟨0, 0x7E4, [0x17, 0, 0]⟩]) ∧
  (∀ (t k : Nat) (b : Fin 2) (s : State), busHears s b = true → s.dv .CAN_RED 0 = 0 → s.get .LSS_MODE 0 = 1 → k < 4 →
    Completes (.lssInquire t b (0x5A + k)) s fun u =>
      u.tx = s.tx ++ [⟨0, 0x7E4, (0x5A + k) :: leBytes 4 ((lssIdentity s).getD k 0)⟩]) ∧
  (∀ (t : Nat) (b : Fin 2) (s : State), busHears s b = true → s.dv .CAN_RED 0 = 0 → s.get .LSS_MODE 0 = 1 →
    Completes (.lssInquire t b 0x5E) s fun u => u.tx = s.tx ++ [⟨0, 0x7E4, [0x5E, s.get .NODE_ID_ACT 0]⟩]) ∧
  (∀ (t : Nat) (b : Fin 2) (s : State), busHears s b = true → s.dv .CAN_RED 0 = 0 → s.get .NODE_ID_ACT 0 = 0xFF →
    Completes (.lssIdentify t b none) s fun u => u.tx = s.tx ++ [⟨0, 0x7E4, [0x50]⟩]) ∧
  (∀ (t rl rh sl sh : Nat) (b : Fin 2) (s : State), busHears s b = true → s.dv .CAN_RED 0 = 0 → rl ≤ 0x0B020301 → 0x0B020301 ≤ rh →
    sl ≤ s.sec.identity.serial → s.sec.identity.serial ≤ sh →
    Completes (.lssIdentify t b (some (0xB4D, 0x8032, rl, rh, sl, sh))) s fun u => u.tx = s.tx ++ [⟨0, 0x7E4, [0x4F]⟩]) ∧
  (∀ (t v p rl rh sl sh : Nat) (b : Fin 2) (s : State), v ≠ 0xB4D ∨ p ≠ 0x8032 ∨ s.sec.identity.serial < sl →
    Completes (.lssIdentify t b (some (v, p, rl, rh, sl, sh))) s fun u => u.tx = s.tx)

/-- R152, R425, R428, R435: frames and timers of the CAN node. A SYNC takes targets and releases synchronous PDOs; a PDO
is taken when it is long enough and is sent when its timer or its inhibit time says; heartbeats are produced and
consumed; an EMCY that waited goes out after its inhibit time. The model's choices it rests on: that a command does
nothing where its condition does not hold (21, 23); how an operand `t` moves the time-stamp (6, 22); the readings of
log entries 26, 62, 66 and 80. -/
def Obligations.PdosAndHeartbeats : Prop :=
  (∀ (t : Nat) (b : Fin 2) (data : List Nat) (s : State), busHears s b = true → s.dv .CAN_RED 0 = 0 → networkUp s = true →
    s.get .SYNC_OVERFLOW 0 ≠ 0 → Completes (.syncReceived t b data) s fun u =>
      u.get .SYNC_CTR 0 = data.headD 0 % 256 ∧ u.get .CAN_RX_TICK b = (s.atTick t).ts % 2 ^ 64) ∧
  (∀ (t : Nat) (b : Fin 2) (data : List Nat) (i : Slot) (s : State), busHears s b = true → s.dv .CAN_RED 0 = 0 →
    s.get .NMT_STATE 0 = nmtPreOp → linkRuns s = false → s.get .DRIVE_STATE i = dsEnabled → s.modeOf i = 8 → s.get .CH_STATE i = 1 →
    chainHeld s i = false → Completes (.syncReceived t b data) s fun u =>
      u.get .CH_MISSED i = 0 ∧ u.geti .CH_PREV i = s.geti .CH_TARGET i) ∧
  (∀ (t : Nat) (b : Fin 2) (data : List Nat) (s : State), networkUp s = false → Completes (.syncReceived t b data) s fun u =>
    (∀ i < 8, u.mo i = s.mo i) ∧ u.tx = s.tx) ∧
  (∀ (t id n : Nat) (b : Fin 2) (data : List Nat) (s : State), busHears s b = true → s.dv .CAN_RED 0 = 0 →
    s.get .NMT_STATE 0 = nmtOperational → n < 32 →
    (∀ m < 32, ((pdoOn (s.get .RPDO_COB m) = true ∧ s.get .RPDO_COB m % 2048 = id) ↔ m = n)) → s.get .RPDO_TYPE n < 254 →
    mapLength (mapEntries s false n (s.get .RPDO_N n)) ≤ data.length → data.length ≤ 64 → (∀ x ∈ data, x < 256) →
    Completes (.rpdoReceived t b id data) s fun u =>
      u.get .RPDO_WAIT n = 1 ∧ u.get .RPDO_LEN n = data.length ∧ u.get .RPDO_BUF n = leVal data) ∧
  (∀ (t id n : Nat) (b : Fin 2) (data : List Nat) (s : State), busHears s b = true → s.dv .CAN_RED 0 = 0 →
    s.get .NMT_STATE 0 = nmtOperational → n < 32 →
    (∀ m < 32, ((pdoOn (s.get .RPDO_COB m) = true ∧ s.get .RPDO_COB m % 2048 = id) ↔ m = n)) →
    data.length < mapLength (mapEntries s false n (s.get .RPDO_N n)) → Completes (.rpdoReceived t b id data) s fun u =>
      u.get .RPDO_WAIT n = s.get .RPDO_WAIT n ∧ u.getBit .COMM_ERR 0 3 = true ∧ u.get .ERR_HIST 0 = 0x00FF8210) ∧
  (∀ (t : Nat) (b : Fin 2) (data : List Nat) (s : State), busHears s b = true → s.dv .CAN_RED 0 = 0 → networkUp s = true →
    Completes (.timeReceived t b data) s fun u =>
      u.get .TIME_MS 0 = fieldAt data 0 4 % 2 ^ 28 ∧ u.get .TIME_DAYS 0 = fieldAt data 4 2 % 2 ^ 16 ∧
      u.get .TIME_TICK 0 = (s.atTick t).ts % 2 ^ 64) ∧
  (∀ (t : Nat) (n : Port) (s : State), tpdoLive s n = true → 254 ≤ s.get .TPDO_TYPE n → s.get .TPDO_TIMER n ≠ 0 →
    s.get .TPDO_TICK n + s.get .TPDO_TIMER n * 160000 ≤ (s.atTick t).ts → s.dv .CAN_RED 0 = 0 → s.get .CAN_OFF 0 = 0 →
    s.getBit .DOM_ON 0 9 = true → Completes (.tpdoEventTimer t n) s fun u =>
      u.tx = s.tx ++ [⟨0, s.get .TPDO_COB n % 2048, tpdoData (s.atTick t) n⟩] ∧ u.get .TPDO_SENT n = 1 ∧ u.get .TPDO_CHG n = 0 ∧
      u.get .TPDO_TICK n = (s.atTick t).ts % 2 ^ 64) ∧
  (∀ (t : Nat) (n : Port) (s : State), s.get .TPDO_TIMER n = 0 → Completes (.tpdoEventTimer t n) s fun u => u = s.atTick t) ∧
  (∀ (t : Nat) (n : Port) (s : State), tpdoLive s n = true → 254 ≤ s.get .TPDO_TYPE n → s.get .TPDO_CHG n = 1 →
    inhibitPassed (s.atTick t) n = true → s.dv .CAN_RED 0 = 0 → s.get .CAN_OFF 0 = 0 → s.getBit .DOM_ON 0 9 = true →
    Completes (.tpdoInhibitExpiry t n) s fun u =>
      u.tx = s.tx ++ [⟨0, s.get .TPDO_COB n % 2048, tpdoData (s.atTick t) n⟩] ∧ u.get .TPDO_CHG n = 0) ∧
  (∀ (t : Nat) (n : Port) (s : State), s.get .TPDO_CHG n = 0 → Completes (.tpdoInhibitExpiry t n) s fun u => u = s.atTick t) ∧
  (∀ (t : Nat) (s : State), s.get .HB_PRODUCER 0 ≠ 0 → networkUp s = true →
    s.get .HBP_TICK 0 + s.get .HB_PRODUCER 0 * 160000 ≤ (s.atTick t).ts → s.dv .CAN_RED 0 = 0 → s.get .CAN_OFF 0 = 0 →
    s.getBit .DOM_ON 0 9 = true → Completes (.heartbeatProduce t) s fun u =>
      u.tx = s.tx ++ [⟨0, 0x700 + s.get .NODE_ID_ACT 0, [heartbeatState s]⟩] ∧ u.get .HBP_TICK 0 = (s.atTick t).ts % 2 ^ 64) ∧
  (∀ (t : Nat) (s : State), s.get .HB_PRODUCER 0 = 0 → Completes (.heartbeatProduce t) s fun u => u = s.atTick t) ∧
  (∀ (t node state : Nat) (b : Fin 2) (s : State), busHears s b = true → Completes (.heartbeatConsumed t b node state) s fun u =>
    u.get .CAN_RX_TICK b = (s.atTick t).ts % 2 ^ 64 ∧ ∀ k < 8, consumerMs s k ≠ 0 → consumerNode s k = node →
      u.get .HBC_ON k = 1 ∧ u.get .HBC_TICK k = (s.atTick t).ts % 2 ^ 64 ∧ u.get .HBC_LOST k = 0) ∧
  (∀ (t : Nat) (m : List Nat) (rest : List (List Nat)) (s : State), s.emcyQ = m :: rest → s.get .SEQ_DOWN 0 = 0 → emcyAllowed s = true →
    inhibitOver (s.atTick t) = true → s.getBit .COB_EMCY 0 31 = false → s.dv .CAN_RED 0 = 0 → s.get .CAN_OFF 0 = 0 →
    s.getBit .DOM_ON 0 9 = true → Completes (.emcyInhibitExpiry t) s fun u =>
      u.emcyQ = rest ∧ u.tx = s.tx ++ [⟨0, s.get .COB_EMCY 0 % 2048, m⟩] ∧ u.get .EMCY_TICK 0 = (s.atTick t).ts % 2 ^ 64) ∧
  (∀ (t : Nat) (s : State), s.emcyQ = [] → Completes (.emcyInhibitExpiry t) s fun u => u = s.atTick t)

/-- R423, R425, R429: losing communication, and the store. A timed-out heartbeat or a loss that is due acts on every
enabled slot as its ABORT_OPTION says; store and restore parameters take their signature only and write the overlay
of the active profile. The model's choices it rests on: that a command does nothing where its condition does not
hold (21, 23); how an operand `t` moves the time-stamp (6, 22); the readings of log entries 31, 32, 65, 66 and 100.
-/
def Obligations.LossAndStore : Prop :=
  (∀ (t : Nat) (s : State), s.get .COMM_DUE 0 = 0 → heartbeatsDue (s.atTick t) = [] → Completes (.communicationLoss t) s fun u =>
    u = s.atTick t) ∧
  (∀ (t : Nat) (s : State), s.get .COMM_DUE 0 = 1 ∨ heartbeatsDue (s.atTick t) ≠ [] →
    Completes (.communicationLoss t) s fun u =>
    u.get .COMM_DUE 0 = 0 ∧ (∀ k ∈ heartbeatsDue (s.atTick t), u.get .HBC_LOST k = 1) ∧
    ∀ i < 8, s.get .DRIVE_STATE i = dsEnabled → inRing s i = false →
      (s.geti .ABORT_OPTION i = 1 → u.get .FAULT_CAUSE i = 0x17) ∧
      (s.geti .ABORT_OPTION i = 2 → s.getBit .SB_CMD 0 i = false → rideThrough s i = false → u.get .DRIVE_STATE i = dsSwitchOnDisabled) ∧
      (s.geti .ABORT_OPTION i = 3 → s.getBit .SB_CMD 0 i = false → rideThrough s i = false → s.geti .QSTOP_OPTION i = 2 →
        u.get .DRIVE_STATE i = dsQuickStop) ∧
      (s.geti .ABORT_OPTION i = 0 → u.get .DRIVE_STATE i = dsEnabled)) ∧
  (∀ (t : Nat) (s : State), heartbeatsDue (s.atTick t) ≠ [] → Completes (.communicationLoss t) s fun u =>
    u.getBit .COMM_ERR 0 0 = true ∧ (s.get .NMT_STATE 0 = nmtOperational → s.get .ERROR_BEHAVIOUR 0 = 0 → u.get .NMT_STATE 0 = nmtPreOp)) ∧
  (∀ (sub : Nat) (s : State), s.get .SEQ_DOWN 0 = 0 → storeBarred s = false → s.get .PROF_ACTIVE 0 < s.sec.profiles.length →
    Completes (.storeParameters sub 0x65766173) s fun u =>
      u.get .ANS_ABORT 0 = 0 ∧ (profileArea u (s.get .PROF_ACTIVE 0)).openOverlay =
        keepOthers (profileArea s (s.get .PROF_ACTIVE 0)).openOverlay sub ++ openEntries (served s) sub) ∧
  (∀ (sub v : Nat) (s : State), s.get .SEQ_DOWN 0 = 0 → v ≠ 0x65766173 → Completes (.storeParameters sub v) s fun u =>
    u.get .ANS_ABORT 0 = 0x06090030 ∧ u.sec = s.sec) ∧
  (∀ (sub : Nat) (s : State), s.get .SEQ_DOWN 0 = 0 → storeBarred s = false → s.get .PROF_ACTIVE 0 < s.sec.profiles.length →
    Completes (.restoreDefaultParameters sub 0x64616F6C) s fun u =>
      u.get .ANS_ABORT 0 = 0 ∧ (profileArea u (s.get .PROF_ACTIVE 0)).openOverlay =
        keepOthers (profileArea s (s.get .PROF_ACTIVE 0)).openOverlay sub) ∧
  (∀ (sub v : Nat) (s : State), s.get .SEQ_DOWN 0 = 0 → v ≠ 0x64616F6C →
    Completes (.restoreDefaultParameters sub v) s fun u => u.get .ANS_ABORT 0 = 0x06090030 ∧ u.sec = s.sec) ∧
  (∀ (sub : Nat) (s : State), s.get .SEQ_DOWN 0 = 0 → storeBarred s = true →
    Completes (.restoreDefaultParameters sub 0x64616F6C) s fun u => u.get .ANS_ABORT 0 = 0x08000020 ∧ u.sec = s.sec)

/-- R394: enumeration. The manager clears the ring's table, draws a RING_ID and sends the enumeration frame in direction
A; a worker takes its position and identifier from the passing frame; the returned frame is accepted, or refused
with the reason that LINK_MAP_REJECT carries; no return within 1 ms is reason 3. The model's choices it rests on:
that a command does nothing where its condition does not hold (21, 23); how an operand `t` moves the time-stamp (6,
22); the readings of log entries 3, 55, 56 and 99. -/
def Obligations.LinkSetup : Prop :=
  (∀ (s : State), isManager s = true → s.dv .LINK_EN 0 = 1 → s.get .LINK_STATE 0 = 0 → Completes .linkEnumeration s fun u =>
    u.get .LINK_STATE 0 = 1 ∧ u.get .ENUM_OUT 0 = 1 ∧ u.get .ENUM_TICK 0 = s.ts % 2 ^ 64 ∧ u.get .RING_SIZE 0 = 0 ∧ u.get .RING_POS 0 = 0 ∧
    (∀ d < 32, u.get .DEV_STATE d = 0) ∧ u.tx = s.tx ++ [⟨3, 2, [2, 0] ++ leBytes 2 (u.get .RING_ID 0)⟩] ∧ PostsNone s u) ∧
  (∀ (s : State), isManager s = false ∨ s.dv .LINK_EN 0 = 0 ∨ s.get .LINK_STATE 0 ≠ 0 → Completes .linkEnumeration s fun u => u = s) ∧
  (∀ (s : State), isManager s = true → s.dv .LINK_EN 0 = 1 → Completes .linkRestart s fun u =>
    u.get .LINK_STATE 0 = 1 ∧ u.get .ENUM_OUT 0 = 1 ∧ u.get .RING_SIZE 0 = 0 ∧
    (∀ d < 32, u.get .DEV_STATE d = 0) ∧ u.tx = s.tx ++ [⟨3, 2, [2, 0] ++ leBytes 2 (u.get .RING_ID 0)⟩]) ∧
  (∀ (s : State), isManager s = false → Completes .linkRestart s fun u => u = s) ∧
  (∀ (position ringId : Nat) (s : State), s.get .LINK_EN 0 = 1 → position < 32 → ringId < 2 ^ 16 →
    Completes (.enumerationFrame (.passes position ringId)) s fun u =>
      u.get .RING_POS 0 = position ∧ u.get .RING_ID 0 = ringId ∧ u.get .OWN_EPOCH 0 = 0 ∧ u.get .LINK_STATE 0 = 2 ∧
      u.get .LOCKED 0 = 0 ∧ u.tx.length = s.tx.length + 1) ∧
  (∀ (position ringId : Nat) (s : State), s.get .LINK_EN 0 = 0 →
    Completes (.enumerationFrame (.passes position ringId)) s fun u => u = s) ∧
  (∀ (n : Nat) (s : State), n ≤ 31 → s.get .ENUM_OUT 0 = 1 → (s.dv .RING_EXPECT 0 = 0 ∨ s.dv .RING_EXPECT 0 = n + 1) → layoutBad s = false →
    Completes (.enumerationFrame (.returns (List.replicate n (List.replicate 8 (0, 0))) false false)) s fun u =>
      u.get .RING_SIZE 0 = n + 1 ∧ u.get .LINK_STATE 0 = 3 ∧ u.get .ENUM_OUT 0 = 0 ∧ u.get .FRAME_BYTES 0 = 116 + 12 * n ∧
      (∀ k < n, u.get .DEV_STATE (k + 1) = devJoining ∧ u.get .DEV_EPOCH (k + 1) = 0) ∧ PostsNone s u) ∧
  (∀ (layouts : List (List (Nat × Nat))) (second bad : Bool) (s : State), s.get .ENUM_OUT 0 = 1 → s.dv .RING_EXPECT 0 ≠ 0 →
    s.dv .RING_EXPECT 0 ≠ layouts.length + 1 → Completes (.enumerationFrame (.returns layouts second bad)) s fun u =>
      u.get .LINK_STATE 0 = 1 ∧ u.get .ENUM_OUT 0 = 0 ∧ u.getBit .LINK_FLAGS 0 2 = true ∧ LastEvent u 0x0E04 0x8 noSlot 1) ∧
  (∀ (layouts : List (List (Nat × Nat))) (second bad : Bool) (s : State), s.get .ENUM_OUT 0 = 0 →
    Completes (.enumerationFrame (.returns layouts second bad)) s fun u => u = s) ∧
  (∀ (t : Nat) (s : State), s.get .ENUM_OUT 0 = 1 → s.get .ENUM_TICK 0 + 160000 ≤ (s.atTick t).ts →
    Completes (.enumerationTimeout t) s fun u =>
      u.get .LINK_STATE 0 = 1 ∧ u.get .ENUM_OUT 0 = 0 ∧ u.getBit .LINK_FLAGS 0 2 = true ∧ LastEvent u 0x0E04 0x8 noSlot 3) ∧
  (∀ (t : Nat) (s : State), s.get .ENUM_OUT 0 = 0 ∨ (s.atTick t).ts < s.get .ENUM_TICK 0 + 160000 →
    Completes (.enumerationTimeout t) s fun u => u = s.atTick t)

/-- R395, R399, R400, R402, R407, R409 to R413: the cycle. At a cycle start the manager numbers the cycle and sends one
frame in each direction; a worker drops a frame with a bad header, forwards the frames of another ring and second
copies, begins to join when it is fenced and fences itself when its block says so; on the frame's return the manager
takes mirrors and lane counts and finds the ring open or closed; a round trip gives the cable delay; a worker locks
after 64 cycles within 40 ns. The model's choices it rests on: that a command does nothing where its condition does
not hold (21, 23); how an operand `t` moves the time-stamp (6, 22); the readings of log entries 54, 56 and 49. -/
def Obligations.LinkCycles : Prop :=
  (∀ (s : State), s.get .LINK_EN 0 = 0 → Completes .linkCycleStart s fun u =>
    u.get .LINK_STATE 0 = 0 ∧ u.get .LOCKED 0 = 0 ∧ u.tx = s.tx ∧ PostsNone s u) ∧
  (∀ (s : State), s.get .LINK_EN 0 = 1 → isManager s = true → linkRuns s = true → Completes .linkCycleStart s fun u =>
    u.get .CYC_NO 0 = (s.get .CYC_NO 0 + 1) % 2 ^ 32 ∧ u.tx.length = s.tx.length + 2 ∧
    (s.get .TB_RUNNING 0 = 1 → s.ts < 2 ^ 63 → u.ts = (s.ts / 20000 + 1) * 20000 ∧ u.get .CYC_TICK 0 = u.ts) ∧
    (∀ d < 32, s.get .DEV_STATE d ≠ devAbsent →
      u.get .DEV_MISS d = if s.get .DEV_FRESH d = 1 then s.get .DEV_MISS d else min 15 (s.get .DEV_MISS d + 1))) ∧
  (∀ (lane : Fin 2) (t : Nat) (f : RingFrame) (s : State), isManager s = false → s.get .LINK_STATE 0 ≠ 0 → s.get .LINK_STATE 0 ≠ 1 →
    f.hdrGood = false → Completes (.cycleFrame lane t f) s fun u =>
      u.get .CRC_ERR 0 = min (s.get .CRC_ERR 0 + 1) 65535 ∧ u.tx = s.tx ∧ u.get .LANE_GOOD lane = 0) ∧
  (∀ (lane : Fin 2) (t : Nat) (f : RingFrame) (s : State), isManager s = false → s.get .LINK_STATE 0 ≠ 0 → s.get .LINK_STATE 0 ≠ 1 →
    f.hdrGood = true → f.ringId ≠ s.get .RING_ID 0 → Completes (.cycleFrame lane t f) s fun u => u = s.atTick t) ∧
  (∀ (lane : Fin 2) (t : Nat) (f : RingFrame) (s : State), isManager s = false → s.get .LINK_STATE 0 ≠ 0 → s.get .LINK_STATE 0 ≠ 1 →
    f.hdrGood = true → f.corrGood = true → f.ringId = s.get .RING_ID 0 → f.cycle = s.get .RX_CYC 0 →
    Completes (.cycleFrame lane t f) s fun u =>
      u.get .LANE_GOOD lane = min 64 (s.get .LANE_GOOD lane + 1) ∧ u.tx.length = s.tx.length + 1 ∧
      u.get .LINK_STATE 0 = s.get .LINK_STATE 0 ∧ u.get .CRC_ERR 0 = s.get .CRC_ERR 0) ∧
  (∀ (lane : Fin 2) (t : Nat) (f : RingFrame) (s : State), isManager s = false → s.get .LINK_STATE 0 = 5 → s.get .LOCKED 0 = 0 →
    f.hdrGood = true → f.ringId = s.get .RING_ID 0 → f.cycle ≠ s.get .RX_CYC 0 → Completes (.cycleFrame lane t f) s fun u =>
      u.get .LINK_STATE 0 = 6 ∧ u.get .RX_CYC 0 = f.cycle % 2 ^ 32 ∧ u.get .FENCE_CNT 0 = s.get .FENCE_CNT 0) ∧
  (∀ (lane : Fin 2) (t : Nat) (f : RingFrame) (s : State), isManager s = false → linkRuns s = true → f.corrGood = false →
    f.hdrGood = true → f.ringId = s.get .RING_ID 0 → f.cycle ≠ s.get .RX_CYC 0 → f.blockGood = true → bit f.dnCtrl 5 = true →
    Completes (.cycleFrame lane t f) s fun u =>
      u.get .LINK_STATE 0 = 5 ∧ u.get .LOCKED 0 = 0 ∧ u.get .FENCE_CNT 0 = min (s.get .FENCE_CNT 0 + 1) 65535 ∧
      ∀ i, u.get .RC_CTRL i = s.get .RC_CTRL i) ∧
  (∀ (lane : Fin 2) (t : Nat) (f : RingFrame) (s : State), isManager s = false → linkRuns s = true → f.corrGood = false →
    f.hdrGood = true → f.ringId = s.get .RING_ID 0 → f.cycle ≠ s.get .RX_CYC 0 → f.goValid = false → f.sheetValid = false →
    f.blockGood = true → bit f.dnCtrl 5 = false → f.dnCtrl % 16 = s.get .OWN_EPOCH 0 → s.dv .AX_DN 0 = 2 →
    (∀ i < 8, 1 ≤ i → s.dv .AX_DN i = 0) → Completes (.cycleFrame lane t f) s fun u =>
      u.get .RC_PEND 0 = 1 ∧ u.get .RC_CTRL 0 = f.words.getD 0 0 % 2 ^ 32 ∧ u.get .RC_HAS_TARGET 0 = 1 ∧
      u.get .RC_TARGET 0 = f.words.getD 1 0 % 2 ^ 32 ∧ u.get .LINK_STATE 0 = (if f.wrapped then 4 else 3) ∧
      ∀ i < 8, 1 ≤ i → u.get .RC_PEND i = s.get .RC_PEND i) ∧
  (∀ (lane : Fin 2) (wrapped : Bool) (k : Nat) (ups : List RingUp) (s : State), isManager s = true → linkRuns s = true →
    Completes (.cycleFrameReturn lane false wrapped k ups) s fun u =>
      u.get .CRC_ERR 0 = min (s.get .CRC_ERR 0 + 1) 65535 ∧ u.get .LANE_GOOD lane = 0) ∧
  (∀ (lane : Fin 2) (wrapped : Bool) (k : Nat) (s : State), isManager s = true → linkRuns s = true →
    Completes (.cycleFrameReturn lane true wrapped k []) s fun u =>
      u.get .LANE_GOOD lane = min 64 (s.get .LANE_GOOD lane + 1) ∧ u.get .LANE_WRAP lane = b2n wrapped ∧
      u.get .CRC_ERR 0 = s.get .CRC_ERR 0) ∧
  (∀ (k : Nat) (s : State), isManager s = true → s.get .LINK_STATE 0 = 3 → s.get .LANE_WRAP 0 = 1 →
    Completes (.cycleFrameReturn 1 true true k []) s fun u =>
      u.get .LINK_STATE 0 = 4 ∧ u.getBit .RED_LOST 0 4 = true) ∧
  (∀ (k : Nat) (s : State), isManager s = true → s.get .LINK_STATE 0 = 4 → s.get .LANE_WRAP 0 = 0 →
    Completes (.cycleFrameReturn 1 true false k []) s fun u =>
      u.get .LINK_STATE 0 = 3 ∧ u.getBit .RED_LOST 0 4 = false) ∧
  (∀ (lane : Fin 2) (k d stat : Nat) (ws : List Nat) (s : State), isManager s = true → linkRuns s = true → 1 ≤ d → d < 32 →
    s.get .DEV_STATE d = devRunning → stat % 16 = s.get .DEV_EPOCH d → s.get .RING_UP (8 * d) = 2 →
    (∀ i < 8, 1 ≤ i → s.get .RING_UP (8 * d + i) = 0) →
    Completes (.cycleFrameReturn lane true false k [⟨d, stat, ws, true⟩]) s fun u =>
      u.get .DEV_MISS d = 0 ∧ u.get .M_SW (8 * d) = bits (ws.getD 0 0) 0 16 ∧ u.get .M_POS_ACT (8 * d) = ws.getD 1 0 % 2 ^ 32 ∧
      u.get .STALE_DROP 0 = s.get .STALE_DROP 0) ∧
  (∀ (lane : Fin 2) (k d stat : Nat) (ws : List Nat) (s : State), isManager s = true → linkRuns s = true → 1 ≤ d → d < 32 →
    s.get .DEV_STATE d ≠ devAbsent → stat % 16 ≠ s.get .DEV_EPOCH d →
    Completes (.cycleFrameReturn lane true false k [⟨d, stat, ws, true⟩]) s fun u =>
      u.get .DEV_MISS d = s.get .DEV_MISS d ∧ u.get .STALE_DROP 0 = min (s.get .STALE_DROP 0 + 1) 65535 ∧
      ∀ g, u.get .M_SW g = s.get .M_SW g) ∧
  (∀ (lane : Fin 2) (trip turnaround : Nat) (s : State), Completes (.roundTripProbe lane trip turnaround) s fun u =>
    u.get .CABLE lane = (trip - turnaround) / 2 % 2 ^ 32 ∧ ∀ r i, r ≠ .CABLE → u.get r i = s.get r i) ∧
  (∀ (s : State), isManager s = false → s.get .LINK_STATE 0 = 2 → 64 ≤ s.get .ALIGN_RUN 0 → Completes .workerLocked s fun u =>
    u.get .LOCKED 0 = 1 ∧ u.get .LINK_STATE 0 = 3 ∧ PostsNone s u) ∧
  (∀ (s : State), isManager s = true ∨ s.get .LINK_STATE 0 ≠ 2 ∨ s.get .ALIGN_RUN 0 < 64 → Completes .workerLocked s fun u => u = s)

/-- R372, R409 to R413: lanes, fences and rejoin. A lane goes down and the device wraps, and it comes up after 64 good
frames; a worker fences itself and its enabled axes take cause 0x14; the manager fences a worker that has been
missing for 8 cycles; a fenced or joining device runs again under its epoch. The model's choices it rests on: that a
command does nothing where its condition does not hold (21, 23); how an operand `t` moves the time-stamp (6, 22);
the readings of log entries 49, 56 and 99. -/
def Obligations.LanesAndFences : Prop :=
  (∀ (t : Nat) (lane : Fin 2) (s : State), s.getBit .LANE_OK 0 lane = true → s.getBit .LANE_OK 0 (1 - lane.val) = true →
    s.get .LINK_STATE 0 ≠ linkOpen → Completes (.linkLaneDown t lane) s fun u =>
      u.getBit .LANE_OK 0 lane = false ∧ u.getBit .LANE_OK 0 (if lane.val = 1 then 2 else 3) = true ∧ u.get .LANE_GOOD lane = 0 ∧
      u.getBit .LINK_FLAGS 0 0 = true ∧ u.get .ABSORBED 0 = min (s.get .ABSORBED 0 + 1) 65535 ∧
      LastEvent u 0x0E00 0x8 noSlot (lane + 256)) ∧
  (∀ (t : Nat) (lane : Fin 2) (s : State), s.getBit .LANE_OK 0 lane = true →
    (s.getBit .LANE_OK 0 (1 - lane.val) = false ∨ s.get .LINK_STATE 0 = linkOpen) → Completes (.linkLaneDown t lane) s fun u =>
      u.getBit .LANE_OK 0 lane = false ∧ u.getBit .LANE_OK 0 (if lane.val = 1 then 2 else 3) = true ∧ u.get .LANE_GOOD lane = 0 ∧
      u.getBit .LINK_FLAGS 0 0 = true ∧ u.get .ABSORBED 0 = s.get .ABSORBED 0 ∧
      Posts (s.atTick t) u 0x0E00 0x8 noSlot (lane + 256)) ∧
  (∀ (t : Nat) (lane : Fin 2) (s : State), s.getBit .LANE_OK 0 lane = false → Completes (.linkLaneDown t lane) s fun u =>
    u = s.atTick t) ∧
  (∀ (t : Nat) (lane : Fin 2) (s : State), s.getBit .LANE_OK 0 lane = false → 64 ≤ s.get .LANE_GOOD lane →
    Completes (.linkLaneUp t lane) s fun u =>
      u.getBit .LANE_OK 0 lane = true ∧ u.getBit .LANE_OK 0 (if lane.val = 1 then 2 else 3) = false ∧
      LastEvent u 0x0E00 0x8 noSlot lane) ∧
  (∀ (t : Nat) (lane : Fin 2) (s : State), s.getBit .LANE_OK 0 lane = true ∨ s.get .LANE_GOOD lane < 64 →
    Completes (.linkLaneUp t lane) s fun u => u = s.atTick t) ∧
  (∀ (t : Nat) (s : State), isManager s = false → linkRuns s = true → Completes (.workerSelfFence t) s fun u =>
    u.get .LINK_STATE 0 = 5 ∧ u.get .LOCKED 0 = 0 ∧ u.get .FENCE_CNT 0 = min (s.get .FENCE_CNT 0 + 1) 65535 ∧
    u.getBit .LINK_FLAGS 0 1 = true ∧ (∀ i < 8, u.get .RC_PEND i = 0) ∧
    ∀ i < 8, s.drive i = dsEnabled → slotFaulted s i = false → u.get .FAULT_CAUSE i = 0x14) ∧
  (∀ (t : Nat) (s : State), isManager s = true → Completes (.workerSelfFence t) s fun u => u = s.atTick t) ∧
  (∀ (t : Nat) (d : Fin 32) (s : State), isManager s = true → d.val ≠ 0 → s.get .DEV_STATE d = devRunning → 8 ≤ s.get .DEV_MISS d →
    Completes (.managerFence t d) s fun u =>
      u.get .DEV_STATE d = devFenced ∧ u.getBit .LINK_FLAGS 0 1 = true ∧
      u.get .FENCE_CNT 0 = min (s.get .FENCE_CNT 0 + 1) 65535 ∧
      (s.get .DEV_EPOCH_TICK d = 0 → u.get .DEV_EPOCH d = (s.get .DEV_EPOCH d + 1) % 16) ∧
      (s.getBit .RED_LOST 0 4 = true → u.get .DEV_HOLD d = 1) ∧
      ∀ d', d' ≠ d.val → u.get .DEV_STATE d' = s.get .DEV_STATE d' ∧ u.get .DEV_EPOCH d' = s.get .DEV_EPOCH d') ∧
  (∀ (t : Nat) (d : Fin 32) (s : State), isManager s = false ∨ d.val = 0 ∨ s.get .DEV_STATE d ≠ devRunning ∨ s.get .DEV_MISS d < 8 →
    Completes (.managerFence t d) s fun u => u = s.atTick t) ∧
  (∀ (t : Nat) (d : Fin 32) (epoch ofs : Nat) (s : State), isManager s = true → d.val ≠ 0 →
    (s.get .DEV_STATE d = devFenced ∨ s.get .DEV_STATE d = devJoining) → s.get .DEV_HOLD d = 0 → s.get .DEV_EPOCH_DUE d = 0 →
    s.get .DEV_FENCED d = 1 → Completes (.workerRejoin t d epoch ofs) s fun u =>
      u.get .DEV_STATE d = devRunning ∧ u.get .DEV_MISS d = 0 ∧ Posts (s.atTick t) u 0x0E03 0x8 noSlot (d + s.get .DEV_EPOCH d * 256)) ∧
  (∀ (t : Nat) (d : Fin 32) (epoch ofs : Nat) (s : State), isManager s = true → d.val ≠ 0 → s.get .DEV_STATE d = devJoining →
    s.get .DEV_HOLD d = 0 → s.get .DEV_EPOCH_DUE d = 0 → s.get .DEV_FENCED d = 0 → Completes (.workerRejoin t d epoch ofs) s fun u =>
      u.get .DEV_STATE d = devRunning ∧ u.get .DEV_MISS d = 0 ∧ PostsNone (s.atTick t) u) ∧
  (∀ (t : Nat) (d : Fin 32) (epoch ofs : Nat) (s : State), isManager s = false →
    (s.get .LINK_STATE 0 = linkFenced ∨ s.get .LINK_STATE 0 = linkJoining) → Completes (.workerRejoin t d epoch ofs) s fun u =>
      u.get .OWN_EPOCH 0 = epoch % 16 ∧ u.get .RING_OFS 0 = ofs % 2 ^ 64 ∧ u.get .LOCKED 0 = 1 ∧ u.get .LINK_STATE 0 = 3 ∧
      PostsNone (s.atTick t) u) ∧
  (∀ (t : Nat) (d : Fin 32) (epoch ofs : Nat) (s : State), isManager s = false → linkRuns s = true →
    Completes (.workerRejoin t d epoch ofs) s fun u => u = s.atTick t)

/-- R405, R408: sheets and the tunnel across the ring. A ring sheet is committed for a tick at least 500 µs ahead and is
refused while one is pending; it ends when every running worker has delivered, or 50 ms after its tick with the
missing ones named; a tunnelled access is answered by the worker, refused while one is open, and aborted after 50
ms. The model's choices it rests on: that a command does nothing where its condition does not hold (21, 23); how an
operand `t` moves the time-stamp (6, 22); the readings of log entries 55, 56 and 75. -/
def Obligations.SheetsAndTunnel : Prop :=
  (∀ (t : Nat) (s : State), s.get .SEQ_DOWN 0 = 0 → isManager s = true → linkRuns s = true → s.get .RS_PEND 0 = 0 →
    s.ts + 80000 ≤ t → t < 2 ^ 64 → Completes (.ringSheet t) s fun u =>
      u.get .RS_PEND 0 = 1 ∧ u.get .RS_T 0 = t ∧ u.get .ANS_ABORT 0 = 0 ∧
      (s.get .CS_PEND 0 = 0 → u.get .SHEET_ERR 0 = 0 ∧ u.get .CS_PEND 0 = 1 ∧ u.get .CS_TICK 0 = t) ∧
      (s.get .CS_PEND 0 = 1 → u.get .SHEET_ERR 0 = 1 ∧ u.get .CS_TICK 0 = s.get .CS_TICK 0)) ∧
  (∀ (t : Nat) (s : State), s.get .SEQ_DOWN 0 = 0 → t < 2 ^ 64 →
    isManager s = false ∨ linkRuns s = false ∨ t < s.ts + 80000 ∨ s.get .RS_PEND 0 = 1 → Completes (.ringSheet t) s fun u =>
      u.get .ANS_ABORT 0 = 0x08000022 ∧ u.get .RS_PEND 0 = s.get .RS_PEND 0 ∧ u.get .RS_T 0 = s.get .RS_T 0 ∧
      u.get .CS_PEND 0 = s.get .CS_PEND 0) ∧
  (∀ (t : Nat) (s : State), s.get .RS_PEND 0 = 1 → s.get .RS_T 0 ≤ (s.atTick t).ts → s.get .SHEET_ERR 0 = 0 →
    (∀ d < 32, s.get .DEV_STATE d ≠ devRunning) → Completes (.ringSheetDone t []) s fun u =>
      u.get .RS_PEND 0 = 0 ∧ u.get .RS_MISSING 0 = 0 ∧ u.getBit .LINK_FLAGS 0 4 = s.getBit .LINK_FLAGS 0 4 ∧
      Posts (s.atTick t) u 0x0E06 0x8 noSlot 0) ∧
  (∀ (t d : Nat) (s : State), 1 ≤ d → d < 32 → s.get .RS_PEND 0 = 1 → s.get .RS_T 0 + 8000000 ≤ (s.atTick t).ts → s.get .SHEET_ERR 0 = 0 →
    s.get .DEV_STATE d = devRunning → (∀ k < 32, k ≠ d → s.get .DEV_STATE k ≠ devRunning) →
    Completes (.ringSheetDone t []) s fun u =>
      u.get .RS_PEND 0 = 0 ∧ u.get .RS_MISSING 0 = 2 ^ d ∧ u.getBit .LINK_FLAGS 0 4 = true ∧ Posts (s.atTick t) u 0x0E06 0x8 noSlot (2 ^ d)) ∧
  (∀ (t d : Nat) (s : State), d < 32 → (s.atTick t).ts < s.get .RS_T 0 + 8000000 → s.get .DEV_STATE d = devRunning →
    Completes (.ringSheetDone t []) s fun u => u = s.atTick t) ∧
  (∀ (t abort : Nat) (write : Bool) (bytes data : List Nat) (s : State), s.get .SEQ_DOWN 0 = 0 → isManager s = true →
    s.get .TUN_BUSY 0 = 0 → s.get .TUNNEL_DEV 0 < s.get .RING_SIZE 0 → abort ≠ 0x05040000 → abort < 2 ^ 32 →
    Completes (.tunnelTransfer t write bytes abort data) s fun u =>
      u.get .TUN_BUSY 0 = 0 ∧ u.get .ANS_ABORT 0 = abort ∧ u.answer = (if write then [] else data)) ∧
  (∀ (t : Nat) (write : Bool) (bytes data : List Nat) (s : State), s.get .SEQ_DOWN 0 = 0 → isManager s = true →
    s.get .TUN_BUSY 0 = 0 → s.get .TUNNEL_DEV 0 < s.get .RING_SIZE 0 →
    Completes (.tunnelTransfer t write bytes 0x05040000 data) s fun u =>
      u.get .TUN_BUSY 0 = 1 ∧ u.get .TUN_TICK 0 = u.ts % 2 ^ 64 ∧ u.answer = s.answer) ∧
  (∀ (t abort : Nat) (write : Bool) (bytes data : List Nat) (s : State),
    s.get .SEQ_DOWN 0 = 1 ∨ isManager s = false ∨ s.get .TUN_BUSY 0 = 1 ∨ s.get .RING_SIZE 0 ≤ s.get .TUNNEL_DEV 0 →
    Completes (.tunnelTransfer t write bytes abort data) s fun u =>
      u.get .ANS_ABORT 0 = 0x08000022 ∧ u.answer = [] ∧ u.get .TUN_BUSY 0 = s.get .TUN_BUSY 0) ∧
  (∀ (t : Nat) (s : State), s.get .TUN_BUSY 0 = 1 → s.get .TUN_TICK 0 + 8000000 ≤ (s.atTick t).ts →
    Completes (.tunnelTimeout t) s fun u =>
      u.get .TUN_BUSY 0 = 0 ∧ u.get .ANS_ABORT 0 = 0x05040000 ∧ u.answer = []) ∧
  (∀ (t : Nat) (s : State), s.get .TUN_BUSY 0 = 0 ∨ (s.atTick t).ts < s.get .TUN_TICK 0 + 8000000 →
    Completes (.tunnelTimeout t) s fun u => u = s.atTick t)

/-- R437, R441 to R445, R463: the mailbox. A gap on USB discards its partial frame, and a fall of DTR ends the session
there too; an entry that finds Q14 full or has a reserved count is dropped and counted; a read of MBX_OUT takes the
head entry when it is for SPI and reads 0 otherwise; a response that waits 100 ms is dropped; CANopen frames are
refused by length, and read in order. The model's choices it rests on: that a command does nothing where its
condition does not hold (21, 23); how an operand `t` moves the time-stamp (6, 22); the readings of log entries 59
and 61. -/
def Obligations.Mailbox : Prop :=
  (∀ (t : Nat) (s : State), Completes (.usbFrameGap t) s fun u => u = { s.atTick t with rx := s.rx.set 1 [] }) ∧
  (∀ (t : Nat) (s : State), s.get .SESS_OPEN 0 = 1 → s.get .SESS_PATH 0 = 1 → Completes (.usbDtrFall t) s fun u =>
    u.get .SESS_OPEN 0 = 0 ∧ u.get .SESS_ROLE 0 = 0 ∧ u.get .STAGED 0 = 0 ∧ u.sec.staged = [] ∧ u.sec.upload = none ∧
    u.sec.key = [] ∧ u.rx = s.rx.set 1 []) ∧
  (∀ (t : Nat) (s : State), s.get .SESS_OPEN 0 = 0 ∨ s.get .SESS_PATH 0 ≠ 1 → Completes (.usbDtrFall t) s fun u =>
    u = { s.atTick t with rx := s.rx.set 1 [] }) ∧
  (∀ (w : Nat) (s : State), w < 2 ^ 32 → w / 2 ^ 24 % 4 ≠ 3 → s.qFill 14 = s.qSize 14 → Completes (.mbxInCommit w) s fun u =>
    u.get .IN_DROP 0 = 1 ∧ u.get .IN_FULL 0 = 1 ∧ u.get .QDROP 14 = min (s.get .QDROP 14 + 1) 65535 ∧
    u.get .QWR 14 = s.get .QWR 14 ∧ u.rx = s.rx) ∧
  (∀ (w : Nat) (s : State), w < 2 ^ 32 → w / 2 ^ 24 % 4 = 3 → Completes (.mbxInCommit w) s fun u =>
    u = s.count .QDROP 14) ∧
  (∀ (w : Nat) (s : State), w < 2 ^ 32 → w / 2 ^ 24 % 4 ≠ 3 → bit w 29 = false → s.dv .QSIZE_LOG2 14 ≤ 13 → s.get .QWR 14 < 2 * s.qSize 14 →
    s.get .QRD 14 < 2 * s.qSize 14 → s.qFill 14 < s.qSize 14 → Completes (.mbxInCommit w) s fun u =>
      u.qFill 14 = s.qFill 14 + 1 ∧ u.get .IN_DROP 0 = s.get .IN_DROP 0 ∧ u.get .QDROP 14 = s.get .QDROP 14 ∧ u.rx = s.rx) ∧
  (∀ (s : State), outReady s = false → Completes .mbxOutRead s fun u =>
    u.answer = [0] ∧ u.mem = s.mem ∧ ∀ r i, r ≠ .ANS_ABORT → u.get r i = s.get r i) ∧
  (∀ (s : State), outReady s = true → s.outWait = [] → s.dv .QSIZE_LOG2 15 ≤ 13 → s.get .QRD 15 < 2 * s.qSize 15 → s.qFill 15 = 1 →
    Completes .mbxOutRead s fun u =>
      u.answer = [headWord s 15] ∧ u.qFill 15 = 0 ∧ u.get .OUT_READY 0 = 0) ∧
  (∀ (t : Nat) (s : State), outReady s = true → entryFirst (headWord s 15) = true → s.get .Q15_TICK 0 + 16000000 ≤ (s.atTick t).ts →
    Completes (.spiOutTimeout t) s fun u =>
      u.get .OUT_TIMEOUT 0 = 1 ∧ u.get .QDROP 15 = min (s.get .QDROP 15 + 1) 65535 ∧ u.get .Q15_TICK 0 = u.ts % 2 ^ 64) ∧
  (∀ (t : Nat) (s : State), outReady s = false ∨ (s.atTick t).ts < s.get .Q15_TICK 0 + 16000000 →
    Completes (.spiOutTimeout t) s fun u => u = s.atTick t) ∧
  (∀ (bytes : List Nat) (s : State), sdoServed s = true → s.get .SEQ_DOWN 0 = 0 → bytes.length < 12 ∨ 1036 < bytes.length →
    Completes (.xomorFrameWrite bytes) s fun u =>
      u.get .ANS_ABORT 0 = 0x06070010 ∧ u.answer = [] ∧ u.get .QWR 14 = s.get .QWR 14 ∧ u.rx = s.rx) ∧
  (∀ (bytes : List Nat) (s : State), sdoServed s = true → s.get .SEQ_DOWN 0 = 0 → 12 ≤ bytes.length → bytes.length ≤ 1036 →
    Completes (.xomorFrameWrite bytes) s fun u => u.get .ANS_ABORT 0 = 0 ∧ u.answer = []) ∧
  (∀ (bytes : List Nat) (s : State), sdoServed s = true → s.get .SEQ_DOWN 0 = 1 → Completes (.xomorFrameWrite bytes) s fun u =>
    u.get .ANS_ABORT 0 = 0x08000022 ∧ u.get .QWR 14 = s.get .QWR 14) ∧
  (∀ (bytes : List Nat) (s : State), sdoServed s = false → Completes (.xomorFrameWrite bytes) s fun u => u = s) ∧
  (∀ (s : State), sdoServed s = true → s.get .SEQ_DOWN 0 = 0 → s.resp.getD 2 [] = [] → Completes .xomorFrameRead s fun u =>
    u.get .ANS_ABORT 0 = 0x08000024 ∧ u.answer = [] ∧ u.resp = s.resp) ∧
  (∀ (f : List Nat) (l : List (List Nat)) (s : State), sdoServed s = true → s.get .SEQ_DOWN 0 = 0 → s.resp.getD 2 [] = f :: l →
    Completes .xomorFrameRead s fun u => u.get .ANS_ABORT 0 = 0 ∧ u.answer = f ∧ u.resp.getD 2 [] = l)

/-- R438 to R441, R446, R447, R461: requests and the diagnosis commands. A frame that does not pass is dropped, a
sequencer that restarts counts it, a plain request of a command that needs a role gets 0x03, a tag that fails or a
counter that does not rise is dropped and counted and the eighth such frame ends the session, and each command is
performed and answered as stated. `openText` is the text that the session's key makes of a protected request. The
model's choices it rests on: that a command does nothing where its condition does not hold (21, 23); how an operand
`t` moves the time-stamp (6, 22); the readings of log entries 61, 65, 67, 87 and 100. -/
def Obligations.Diagnosis : Prop :=
  (∀ (t : Nat) (path : Path) (r : Request) (s : State), TakesPlain s path r → r.payload = [] → Completes (.identify t path r) s fun u =>
    u = plainAnswer (taken (s.atTick t) path) path 0 r 0 (leBytes 4 0x00008032 ++ leBytes 4 0x0B020301 ++ leBytes 4 s.sec.identity.serial ++
      leBytes 2 (s.get .PATCH_LEVEL 0) ++ [s.get .PROF_ACTIVE 0, 0xFF])) ∧
  (∀ (t : Nat) (path : Path) (r : Request) (s : State), TakesPlain s path r → r.payload ≠ [] → Completes (.identify t path r) s fun u =>
    u = plainAnswer (taken (s.atTick t) path) path 0 r 0x02 []) ∧
  (∀ (t : Nat) (path : Path) (r : Request) (s : State), TakesSealed s path r → openText s 0 r = some [] →
    Completes (.identify t path r) s fun u =>
      u = sealedAnswer s (opened (s.atTick t) path r) path 0 r 0 (leBytes 4 0x00008032 ++ leBytes 4 0x0B020301 ++
        leBytes 4 s.sec.identity.serial ++ leBytes 2 (s.get .PATCH_LEVEL 0) ++ [s.get .PROF_ACTIVE 0, s.get .SESS_ROLE 0])) ∧
  (∀ (t : Nat) (path : Path) (r : Request) (s : State), s.get .SEQ_DOWN 0 = 0 → r.crcOk = false ∨ 3 < r.flags ∨ 1024 < r.payload.length →
    ∀ c ∈ [Instr.identify t path r, .objRead t path r, .objWrite t path r, .regRead t path r, .regWrite t path r, .eventPeek t path r,
      .health t path r], Completes c s fun u => u = s.atTick t) ∧
  (∀ (t : Nat) (path : Path) (r : Request) (s : State), pathUp s path.code = true → s.get .SEQ_DOWN 0 = 1 →
    ∀ c ∈ [Instr.identify t path r, .objRead t path r, .objWrite t path r, .regRead t path r, .regWrite t path r, .eventPeek t path r,
      .health t path r], Completes c s fun u => u = (s.atTick t).count .QDROP 14) ∧
  (∀ (t : Nat) (path : Path) (r : Request) (s : State), TakesPlain s path r →
    ∀ c ∈ [(Instr.objRead t path r, 1), (.objWrite t path r, 2), (.regRead t path r, 3), (.regWrite t path r, 4), (.eventPeek t path r, 5),
      (.health t path r, 6)], Completes c.1 s fun u => u = plainAnswer (taken (s.atTick t) path) path c.2 r 0x03 []) ∧
  (∀ (t : Nat) (path : Path) (r : Request) (s : State), TakesSealed s path r → (∀ k < 7, openText s k r = none) →
    ∀ c ∈ [Instr.objRead t path r, .objWrite t path r, .regRead t path r, .regWrite t path r, .eventPeek t path r,
      .health t path r], Completes c s fun u =>
        u.get .REFUSALS 0 = min (s.get .REFUSALS 0 + 1) 65535 ∧ u.get .LAST_REFUSAL 0 = 0x4C ∧
        (s.get .SESS_DROPS 0 < 7 → u.get .SESS_DROPS 0 = s.get .SESS_DROPS 0 + 1 ∧ u.get .SESS_OPEN 0 = 1) ∧
        (7 ≤ s.get .SESS_DROPS 0 → u.get .SESS_OPEN 0 = 0)) ∧
  (∀ (t : Nat) (text : List Nat) (path : Path) (r : Request) (s : State), Arrives s path r → r.flags = 2 → s.get .SESS_OPEN 0 = 1 →
    s.get .SESS_PATH 0 = path.code → r.ctr ≤ s.get .CTR_RX 0 → s.get .SESS_DROPS 0 < 7 → openText s 6 r = some text →
    Completes (.health t path r) s fun u =>
      u.get .REFUSALS 0 = min (s.get .REFUSALS 0 + 1) 65535 ∧ u.get .LAST_REFUSAL 0 = 0x4D ∧
      u.get .CTR_RX 0 = s.get .CTR_RX 0 ∧ u.get .SESS_OPEN 0 = 1) ∧
  (∀ (t : Nat) (path : Path) (r : Request) (s : State), TakesSealed s path r → 1 ≤ s.get .SESS_ROLE 0 →
    openText s 1 r = some [0x00, 0x10, 0x00] → Completes (.objRead t path r) s fun u =>
      u = sealedAnswer s (opened (s.atTick t) path r) path 1 r 0 (leBytes 4 0x00030192)) ∧
  (∀ (t v sub : Nat) (path : Path) (r : Request) (s : State), TakesSealed s path r → 1 ≤ s.get .SESS_ROLE 0 →
    openText s 1 r = some (leBytes 2 v ++ [sub]) → v < 2 ^ 16 → (objReadAny (opened (s.atTick t) path r) v sub).2.1 = 0 →
    Completes (.objRead t path r) s fun u =>
      u = sealedAnswer s (objReadAny (opened (s.atTick t) path r) v sub).1 path 1 r 0 (objReadAny (opened (s.atTick t) path r) v sub).2.2) ∧
  (∀ (t v sub : Nat) (path : Path) (r : Request) (s : State), TakesSealed s path r → 1 ≤ s.get .SESS_ROLE 0 →
    openText s 1 r = some (leBytes 2 v ++ [sub]) → v < 2 ^ 16 → (objReadAny (opened (s.atTick t) path r) v sub).2.1 ≠ 0 →
    Completes (.objRead t path r) s fun u =>
      u = sealedAnswer s (objReadAny (opened (s.atTick t) path r) v sub).1 path 1 r 0x05
        (leBytes 4 (objReadAny (opened (s.atTick t) path r) v sub).2.1)) ∧
  (∀ (t : Nat) (text : List Nat) (path : Path) (r : Request) (s : State), TakesSealed s path r → 1 ≤ s.get .SESS_ROLE 0 →
    openText s 1 r = some text → text.length ≠ 3 → Completes (.objRead t path r) s fun u =>
      u = sealedAnswer s (opened (s.atTick t) path r) path 1 r 0x02 []) ∧
  (∀ (t v : Nat) (i : Slot) (path : Path) (r : Request) (s : State), TakesSealed s path r → 2 ≤ s.get .SESS_ROLE 0 → 0 < v → v < 2 ^ 31 →
    openText s 2 r = some (leBytes 2 (0x6081 + 0x800 * i.val) ++ [0] ++ leBytes 4 v) → Completes (.objWrite t path r) s fun u =>
      u = sealedAnswer s ((opened (s.atTick t) path r).put .PROFILE_VEL i v) path 2 r 0 [] ∧ u.get .PROFILE_VEL i = v) ∧
  (∀ (t v : Nat) (i : Slot) (path : Path) (r : Request) (s : State), TakesSealed s path r → s.get .SESS_ROLE 0 = 1 → v < 2 ^ 32 →
    openText s 2 r = some (leBytes 2 (0x6081 + 0x800 * i.val) ++ [0] ++ leBytes 4 v) → Completes (.objWrite t path r) s fun u =>
      u.get .PROFILE_VEL i = s.get .PROFILE_VEL i ∧ Answered s u path 2 r 0x04 []) ∧
  (∀ (t v : Nat) (i : Slot) (path : Path) (r : Request) (s : State), TakesSealed s path r → s.get .SESS_ROLE 0 = 3 → 1 ≤ v → v ≤ 32768 →
    s.sec.staged = [] → openText s 2 r = some (leBytes 2 (0x2841 + 0x100 * i.val) ++ [1] ++ leBytes 2 v) →
    Completes (.objWrite t path r) s fun u =>
      u.get .CUR_LIMIT i = s.get .CUR_LIMIT i ∧ u.get .STAGED 0 = 1 ∧ u.sec.staged = [⟨0x2841 + 0x100 * i.val, 1, leBytes 2 v⟩] ∧
      Answered s u path 2 r 0 []) ∧
  (∀ (t a n : Nat) (path : Path) (r : Request) (s : State), TakesSealed s path r → 1 ≤ s.get .SESS_ROLE 0 → s.getBit .DOM_ON 0 2 = true →
    0x400000 ≤ a → a % 4 = 0 → 1 ≤ n → n ≤ 254 → a + 4 * n ≤ 0x440000 → openText s 3 r = some (leBytes 4 a ++ leBytes 2 n) →
    Completes (.regRead t path r) s fun u =>
      u = sealedAnswer s (opened (s.atTick t) path r) path 3 r 0 ((s.words a n).flatMap (leBytes 4))) ∧
  (∀ (t a : Nat) (path : Path) (r : Request) (s : State), TakesSealed s path r → 1 ≤ s.get .SESS_ROLE 0 →
    a < 2 ^ 32 → a % 4 ≠ 0 → openText s 3 r = some (leBytes 4 a ++ leBytes 2 1) → Completes (.regRead t path r) s fun u =>
      u = sealedAnswer s (opened (s.atTick t) path r) path 3 r 0x06 [0xA4]) ∧
  (∀ (t : Nat) (path : Path) (r : Request) (s : State), TakesSealed s path r → 1 ≤ s.get .SESS_ROLE 0 →
    openText s 3 r = some [0, 0, 0, 0, 0, 0] → Completes (.regRead t path r) s fun u =>
      u = sealedAnswer s (opened (s.atTick t) path r) path 3 r 0x02 []) ∧
  (∀ (t b : Nat) (path : Path) (r : Request) (s : State), TakesSealed s path r → 2 ≤ s.get .SESS_ROLE 0 → b < 2 →
    openText s 4 r = some (leBytes 4 0x24 ++ [8 * b, 0, 8, 0]) → Completes (.regWrite t path r) s fun u =>
      u.get .IRQ_EN_FAULT 0 = b ∧ u.get .IRQ_EN_Q15 0 = s.get .IRQ_EN_Q15 0 ∧ Answered s u path 4 r 0 []) ∧
  (∀ (t : Nat) (text : List Nat) (path : Path) (r : Request) (s : State), TakesSealed s path r → s.get .SESS_ROLE 0 = 1 →
    openText s 4 r = some text → Completes (.regWrite t path r) s fun u =>
      (∀ r' i, r' ∈ [Reg.IRQ_EN_FAULT, .IRQ_EN_Q15, .PWM_EN, .MODE, .CONTROLWORD] → u.get r' i = s.get r' i) ∧
      Answered s u path 4 r 0x04 []) ∧
  (∀ (t p : Nat) (path : Path) (r : Request) (s : State), TakesSealed s path r → 1 ≤ s.get .SESS_ROLE 0 → p < 2 ^ 16 →
    s.qFill 11 = 0 → openText s 5 r = some (leBytes 2 p ++ [1]) → Completes (.eventPeek t path r) s fun u =>
      u = sealedAnswer s (opened (s.atTick t) path r) path 5 r 0 []) ∧
  (∀ (t p : Nat) (path : Path) (r : Request) (s : State), TakesSealed s path r → 1 ≤ s.get .SESS_ROLE 0 → p < 2 ^ 16 →
    s.qFill 11 = 1 → s.get .QRD 11 = p → p < 2 * s.qSize 11 → s.qBad 11 p = false → openText s 5 r = some (leBytes 2 p ++ [60]) →
    Completes (.eventPeek t path r) s fun u =>
      u = sealedAnswer s (opened (s.atTick t) path r) path 5 r 0 ((s.words (s.qAddr 11 p) 4).flatMap (leBytes 4))) ∧
  (∀ (t p : Nat) (path : Path) (r : Request) (s : State), TakesSealed s path r → 1 ≤ s.get .SESS_ROLE 0 → p < 2 ^ 16 →
    openText s 5 r = some (leBytes 2 p ++ [61]) → Completes (.eventPeek t path r) s fun u =>
      u = sealedAnswer s (opened (s.atTick t) path r) path 5 r 0x02 []) ∧
  (∀ (t : Nat) (path : Path) (r : Request) (s : State), TakesSealed s path r → 1 ≤ s.get .SESS_ROLE 0 → openText s 6 r = some [] →
    Completes (.health t path r) s fun u =>
      u = sealedAnswer s (opened (s.atTick t) path r) path 6 r 0
        (s.get .RED_LOST 0 :: healthRegs.flatMap fun k => leBytes 2 (s.get k 0))) ∧
  (∀ (t : Nat) (text : List Nat) (path : Path) (r : Request) (s : State), TakesSealed s path r → 1 ≤ s.get .SESS_ROLE 0 →
    openText s 6 r = some text → text ≠ [] → Completes (.health t path r) s fun u =>
      u = sealedAnswer s (opened (s.atTick t) path r) path 6 r 0x02 [])

/-- R449 to R451, R458 to R463: sessions, claims and revocations. A token is refused by the first check of R459 it
fails, or answered with a challenge; a proof opens the session or is refused; a session ends by request, when it is
idle, and with its staged writes; a commit applies a whole set or none of it; a claim and a revocation are refused
by their first failing check or take effect. The model's choices it rests on: that a command does nothing where its
condition does not hold (21, 23); how an operand `t` moves the time-stamp (6, 22); the readings of log entries 67,
73, 87, 100 and 101. -/
def Obligations.Sessions : Prop :=
  (∀ (t : Nat) (path : Path) (r : Request) (s : State), TakesPlain s path r → r.payload.length = 212 → fieldAt r.payload 0 2 = 1 →
    1 ≤ tokenRole r.payload → tokenRole r.payload ≤ 3 → tokenId r.payload ≠ 0 → tokenFault s path.code r.payload = 0 →
    Completes (.sessHello t path r) s fun u => u.get .DRAWS 0 = (s.get .DRAWS 0 + 3) % 2 ^ 64 ∧ u.get .SESS_OPEN 0 = 0 ∧
      ∃ c sig, u.sec.challenge = some c ∧ c.path = path.code ∧ c.token = r.payload ∧ c.tick = u.ts ∧
        Answered s u path 0x10 r 0 (c.nonce ++ c.point ++ sig)) ∧
  (∀ (t : Nat) (path : Path) (r : Request) (s : State), TakesPlain s path r → r.payload.length = 212 → fieldAt r.payload 0 2 = 1 →
    1 ≤ tokenRole r.payload → tokenRole r.payload ≤ 3 → tokenId r.payload ≠ 0 → tokenFault s path.code r.payload ≠ 0 →
    Completes (.sessHello t path r) s fun u => u.get .LAST_REFUSAL 0 = tokenFault s path.code r.payload ∧
      u.get .REFUSALS 0 = min (s.get .REFUSALS 0 + 1) 65535 ∧ u.sec.challenge = s.sec.challenge ∧
      Answered s u path 0x10 r (tokenFault s path.code r.payload) []) ∧
  (∀ (t : Nat) (path : Path) (r : Request) (s : State), TakesPlain s path r → r.payload.length ≠ 212 → Completes (.sessHello t path r) s fun u =>
    u = plainAnswer (taken (s.atTick t) path) path 0x10 r 0x02 []) ∧
  (∀ (t : Nat) (path : Path) (r : Request) (s : State), s.get .SEQ_DOWN 0 = 0 → pathUp s path.code = true → r.crcOk = true → r.ver = 1 →
    r.payload.length ≤ 1024 → r.flags ≤ 3 → s.getBit .DOM_ON 0 11 = false →
    ∀ c ∈ [(Instr.sessHello t path r, 0x10), (.sessProve t path r, 0x11), (.sessClose t path r, 0x12), (.claim t path r, 0x18),
      (.revoke t path r, 0x19), (.identity t path r, 0x1A)], Completes c.1 s fun u =>
        u = plainAnswer (refuse (taken (s.atTick t) path) 0x7F c.2 c.2) path c.2 r 0x7F [] ∧
        u.get .LAST_REFUSAL 0 = 0x7F ∧ u.get .REFUSALS 0 = min (s.get .REFUSALS 0 + 1) 65535) ∧
  (∀ (t : Nat) (path : Path) (r : Request) (c : Challenge) (s : State), TakesPlain s path r → r.payload.length = 128 →
    s.sec.challenge = some c → c.path = path.code → (s.atTick t).ts ≤ c.tick + 1600000000 →
    ecdsaVerifies (slice c.token 20 64) (c.nonce ++ c.point ++ r.payload.take 64 ++ leBytes 4 s.sec.identity.serial) (r.payload.drop 64) = true →
    Completes (.sessProve t path r) s fun u =>
      u.sec.challenge = none ∧ u.get .SESS_OPEN 0 = 1 ∧ u.get .SESS_ROLE 0 = trunc 2 (tokenRole c.token) ∧ u.get .SESS_PATH 0 = path.code ∧
      u.get .SESS_TOKEN 0 = trunc 32 (tokenId c.token) ∧ u.get .SESS_VALID_TO 0 = trunc 32 (tokenTo c.token) ∧ u.get .CTR_RX 0 = 0 ∧
      u.get .CTR_TX 0 = 0 ∧ u.get .SESS_DROPS 0 = 0 ∧ u.sec.token = c.token ∧
      u.sec.key = (sha256 (sharedSecret c.secret (r.payload.take 64) ++ c.nonce ++ leBytes 4 (tokenId c.token))).take 16) ∧
  (∀ (t : Nat) (path : Path) (r : Request) (c : Challenge) (s : State), TakesPlain s path r → r.payload.length = 128 →
    s.sec.challenge = some c → c.path = path.code → (s.atTick t).ts ≤ c.tick + 1600000000 →
    ecdsaVerifies (slice c.token 20 64) (c.nonce ++ c.point ++ r.payload.take 64 ++ leBytes 4 s.sec.identity.serial) (r.payload.drop 64) = false →
    Completes (.sessProve t path r) s fun u =>
      u.sec.challenge = none ∧ u.get .SESS_OPEN 0 = 0 ∧ u.get .LAST_REFUSAL 0 = 0x42 ∧ Answered s u path 0x11 r 0x42 []) ∧
  (∀ (t : Nat) (path : Path) (r : Request) (s : State), TakesPlain s path r → r.payload.length = 128 → s.sec.challenge = none →
    Completes (.sessProve t path r) s fun u =>
      u.get .SESS_OPEN 0 = 0 ∧ u.get .LAST_REFUSAL 0 = 0x58 ∧ Answered s u path 0x11 r 0x58 []) ∧
  (∀ (t : Nat) (path : Path) (r : Request) (s : State), TakesSealed s path r → 1 ≤ s.get .SESS_ROLE 0 → openText s 0x12 r = some [] →
    Completes (.sessClose t path r) s fun u =>
      u.get .SESS_OPEN 0 = 0 ∧ u.get .SESS_ROLE 0 = 0 ∧ u.get .STAGED 0 = 0 ∧ u.sec.staged = [] ∧ u.sec.key = [] ∧
      Answered s u path 0x12 r 0 [s.sec.staged.length]) ∧
  (∀ (t : Nat) (text : List Nat) (path : Path) (r : Request) (s : State), TakesSealed s path r → 1 ≤ s.get .SESS_ROLE 0 →
    openText s 0x12 r = some text → text ≠ [] → Completes (.sessClose t path r) s fun u =>
      u = sealedAnswer s (opened (s.atTick t) path r) path 0x12 r 0x02 []) ∧
  (∀ (t : Nat) (path : Path) (r : Request) (s : State), TakesSealed s path r → 3 ≤ s.get .SESS_ROLE 0 → openText s 0x13 r = some [] →
    s.get .PROF_SWITCHING 0 = 1 → Completes (.sessCommit t path r) s fun u =>
      u = sealedAnswer s (refuse (opened (s.atTick t) path r) 0x51 0x13 0) path 0x13 r 0x51 [] ∧
      u.sec.staged = s.sec.staged ∧ u.get .LAST_REFUSAL 0 = 0x51) ∧
  (∀ (t : Nat) (path : Path) (r : Request) (s : State), TakesSealed s path r → 3 ≤ s.get .SESS_ROLE 0 → openText s 0x13 r = some [] →
    s.get .PROF_SWITCHING 0 = 0 → (∀ e ∈ s.sec.staged, stagedOk (opened (s.atTick t) path r) s.sec.staged e = true) →
    Completes (.sessCommit t path r) s fun u =>
      u.sec.staged = [] ∧ u.get .STAGED 0 = 0 ∧
      u = sealedAnswer s (dropStaged (s.sec.staged.foldl sealedChange (s.sec.staged.foldl applyStaged (opened (s.atTick t) path r)))) path
        0x13 r 0 [s.sec.staged.length]) ∧
  (∀ (t : Nat) (path : Path) (r : Request) (s : State), TakesSealed s path r → 3 ≤ s.get .SESS_ROLE 0 → openText s 0x13 r = some [] →
    s.get .PROF_SWITCHING 0 = 0 → (∃ e ∈ s.sec.staged, stagedOk (opened (s.atTick t) path r) s.sec.staged e = false) →
    Completes (.sessCommit t path r) s fun u =>
      u.sec.staged = s.sec.staged ∧ u.get .LAST_REFUSAL 0 = 0x59 ∧ ∃ e ∈ s.sec.staged, Answered s u path 0x13 r 0x59 (leBytes 2 e.index ++ [e.sub])) ∧
  (∀ (t : Nat) (path : Path) (r : Request) (s : State), TakesSealed s path r → 3 ≤ s.get .SESS_ROLE 0 → openText s 0x14 r = some [] →
    Completes (.sessDiscard t path r) s fun u =>
      u.sec.staged = [] ∧ u.get .STAGED 0 = 0 ∧ u.get .SESS_OPEN 0 = 1 ∧ Answered s u path 0x14 r 0 [s.sec.staged.length]) ∧
  (∀ (t : Nat) (path : Path) (r : Request) (s : State), TakesPlain s path r →
    ∀ c ∈ [(Instr.sessClose t path r, 0x12), (.sessCommit t path r, 0x13), (.sessDiscard t path r, 0x14)],
      Completes c.1 s fun u => u = plainAnswer (taken (s.atTick t) path) path c.2 r 0x03 []) ∧
  (∀ (t : Nat) (s : State), s.get .SESS_OPEN 0 = 1 → s.get .SESS_TICK 0 + s.get .SESS_IDLE 0 * 160000000 ≤ (s.atTick t).ts →
    Completes (.sessionIdleExpiry t) s fun u =>
      u.get .SESS_OPEN 0 = 0 ∧ u.get .SESS_ROLE 0 = 0 ∧ u.sec.staged = [] ∧ u.sec.upload = none ∧ u.sec.key = []) ∧
  (∀ (t : Nat) (s : State), s.get .SESS_OPEN 0 = 0 ∨ (s.atTick t).ts < s.get .SESS_TICK 0 + s.get .SESS_IDLE 0 * 160000000 →
    Completes (.sessionIdleExpiry t) s fun u => u = s.atTick t) ∧
  (∀ (t : Nat) (c : Challenge) (s : State), s.sec.challenge = some c → Completes (.sessProveTimeout t) s fun u =>
    u.sec.challenge = (if c.tick + 1600000000 ≤ (s.atTick t).ts then none else some c) ∧ ∀ k i, u.get k i = s.get k i) ∧
  (∀ (t : Nat) (path : Path) (r : Request) (s : State), TakesPlain s path r → r.payload.length = 200 → fieldAt r.payload 0 2 = 2 →
    claimFault s path.code r.payload = 0 → Completes (.claim t path r) s fun u =>
      u.get .CLAIMED 0 = 1 ∧ u.get .CLAIM_CNT 0 = fieldAt r.payload 2 2 % 2 ^ 16 ∧ u.get .REV_SEQ 0 = 0 ∧ u.get .REVOKE_BELOW 0 = 0 ∧
      u.sec.ownerHash = sha256 (slice r.payload 8 64) ∧ u.sec.revoked = [] ∧ u.sec.challenge = none ∧ Answered s u path 0x18 r 0 []) ∧
  (∀ (t : Nat) (path : Path) (r : Request) (s : State), TakesPlain s path r → r.payload.length = 200 → fieldAt r.payload 0 2 = 2 →
    claimFault s path.code r.payload ≠ 0 → Completes (.claim t path r) s fun u =>
      u.get .CLAIMED 0 = s.get .CLAIMED 0 ∧ u.get .CLAIM_CNT 0 = s.get .CLAIM_CNT 0 ∧ u.sec.ownerHash = s.sec.ownerHash ∧
      u.get .LAST_REFUSAL 0 = claimFault s path.code r.payload ∧ Answered s u path 0x18 r (claimFault s path.code r.payload) []) ∧
  (∀ (t n : Nat) (path : Path) (r : Request) (s : State), TakesPlain s path r → n ≤ 32 → r.payload.length = 142 + 4 * n →
    fieldAt r.payload 0 2 = 3 → fieldAt r.payload 12 2 = n → revokeFault s r.payload = 0 → Completes (.revoke t path r) s fun u =>
      u.get .REV_SEQ 0 = fieldAt r.payload 4 4 % 2 ^ 32 ∧ u.get .REVOKE_BELOW 0 = fieldAt r.payload 8 4 % 2 ^ 32 ∧
      u.sec.revoked = (List.range n).map (fun k => fieldAt r.payload (14 + 4 * k) 4) ∧ Answered s u path 0x19 r 0 []) ∧
  (∀ (t n : Nat) (path : Path) (r : Request) (s : State), TakesPlain s path r → n ≤ 32 → r.payload.length = 142 + 4 * n →
    fieldAt r.payload 0 2 = 3 → fieldAt r.payload 12 2 = n → revokeFault s r.payload ≠ 0 → Completes (.revoke t path r) s fun u =>
      u.get .REV_SEQ 0 = s.get .REV_SEQ 0 ∧ u.sec.revoked = s.sec.revoked ∧ u.get .LAST_REFUSAL 0 = revokeFault s r.payload ∧
      Answered s u path 0x19 r (revokeFault s r.payload) []) ∧
  (∀ (t : Nat) (path : Path) (r : Request) (s : State), TakesPlain s path r → r.payload = [] → Completes (.identity t path r) s fun u =>
    u = plainAnswer (taken (s.atTick t) path) path 0x1A r 0 (leBytes 4 s.sec.identity.serial ++ s.deviceKey ++ s.sec.identity.factorySignature ++
      (if s.sec.ownerHash = [] then List.replicate 32 0 else s.sec.ownerHash) ++ leBytes 2 (s.get .CLAIM_CNT 0) ++ leBytes 4 (s.get .SVC_HOURS 0))) ∧
  (∀ (t : Nat) (path : Path) (r : Request) (s : State), TakesPlain s path r → r.payload ≠ [] → Completes (.identity t path r) s fun u =>
    u = plainAnswer (taken (s.atTick t) path) path 0x1A r 0x02 [])

/-- R448, R454, R456, R464 to R466: profile images, patches, the audit log and the service hours. An upload begins with
its area and length and takes its data without a gap; its end stores it or refuses it and keeps nothing; a switch of
profiles waits for its slots, and is refused while one runs or for an area without an image; a patch goes to the
half that does not run, and its activation restarts the sequencer. The model's choices it rests on: that a command
does nothing where its condition does not hold (21, 23); how an operand `t` moves the time-stamp (6, 22); the
readings of log entries 64, 67, 72, 86, 87, 100 and 101. -/
def Obligations.StoresAndAudit : Prop :=
  (∀ (t n len : Nat) (path : Path) (r : Request) (s : State), TakesSealed s path r → 2 ≤ s.get .SESS_ROLE 0 → n ≤ 3 → len ≤ 24576 →
    openText s 0x20 r = some (n :: leBytes 4 len) → Completes (.profBegin t path r) s fun u =>
      u = sealedAnswer s (setUpload (opened (s.atTick t) path r) (some ⟨false, n, len, []⟩)) path 0x20 r 0 [] ∧
      u.sec.upload = some ⟨false, n, len, []⟩) ∧
  (∀ (t n len : Nat) (path : Path) (r : Request) (s : State), TakesSealed s path r → 2 ≤ s.get .SESS_ROLE 0 → n ≤ 3 → 24576 < len →
    len < 2 ^ 32 → openText s 0x20 r = some (n :: leBytes 4 len) → Completes (.profBegin t path r) s fun u =>
      u.sec.upload = s.sec.upload ∧ u.get .LAST_REFUSAL 0 = 0x50 ∧ Answered s u path 0x20 r 0x50 []) ∧
  (∀ (t n len : Nat) (b d : List Nat) (path : Path) (r : Request) (s : State), TakesSealed s path r → 2 ≤ s.get .SESS_ROLE 0 →
    s.sec.upload = some ⟨false, n, len, b⟩ → b.length < 2 ^ 32 → 1 ≤ d.length → d.length ≤ 1000 → b.length + d.length ≤ len →
    openText s 0x21 r = some (leBytes 4 b.length ++ d) → Completes (.profData t path r) s fun u =>
      u.sec.upload = some ⟨false, n, len, b ++ d⟩ ∧ Answered s u path 0x21 r 0 []) ∧
  (∀ (t n len : Nat) (b : List Nat) (path : Path) (r : Request) (s : State), TakesSealed s path r → 2 ≤ s.get .SESS_ROLE 0 →
    s.sec.upload = some ⟨false, n, len, b⟩ → b.length ≠ len → openText s 0x22 r = some [] → Completes (.profEnd t path r) s fun u =>
      u.sec.upload = none ∧ u.sec.profiles = s.sec.profiles ∧ u.get .LAST_REFUSAL 0 = 0x50 ∧ Answered s u path 0x22 r 0x50 []) ∧
  (∀ (t n : Nat) (b : List Nat) (path : Path) (r : Request) (s : State), TakesSealed s path r → 2 ≤ s.get .SESS_ROLE 0 →
    s.sec.upload = some ⟨false, n, b.length, b⟩ → openText s 0x22 r = some [] →
    profFault (setUpload (opened (s.atTick t) path r) none) n b true = none → Completes (.profEnd t path r) s fun u =>
      u.sec.upload = none ∧ u.sec.profiles = s.sec.profiles.set n ⟨b, [], [], [], true, true⟩ ∧
      Answered s u path 0x22 r 0 (leBytes 4 (imageSeq b))) ∧
  (∀ (path : Path) (v : Nat) (s : State), path ≠ .can → s.get .SEQ_DOWN 0 = 0 → 3 < v → Completes (.profSelect path v) s fun u =>
    u.get .ANS_ABORT 0 = 0x06090030 ∧ u.get .PROF_SWITCHING 0 = s.get .PROF_SWITCHING 0) ∧
  (∀ (path : Path) (v : Nat) (s : State), path ≠ .can → s.get .SEQ_DOWN 0 = 0 → v ≤ 3 → s.get .PROF_SWITCHING 0 = 1 →
    Completes (.profSelect path v) s fun u =>
      u.get .ANS_ABORT 0 = 0x08000022 ∧ u.get .LAST_REFUSAL 0 = 0x51 ∧ u.get .PROF_TARGET 0 = s.get .PROF_TARGET 0) ∧
  (∀ (path : Path) (v : Nat) (s : State), path ≠ .can → s.get .SEQ_DOWN 0 = 0 → v ≤ 3 → s.get .PROF_SWITCHING 0 = 0 → areaValid s v = false →
    Completes (.profSelect path v) s fun u =>
      u.get .ANS_ABORT 0 = 0x08000022 ∧ u.get .LAST_REFUSAL 0 = 0x52 ∧ u.get .PROF_SWITCHING 0 = 0) ∧
  (∀ (path : Path) (v : Nat) (s : State), path ≠ .can → s.get .SEQ_DOWN 0 = 0 → v ≤ 3 → s.get .PROF_SWITCHING 0 = 0 →
    s.get .PROF_ACTIVE 0 ≠ v → (∀ i < 8, s.kind i ≠ 0) → areaValid s v = true → Completes (.profSelect path v) s fun u =>
      u.get .ANS_ABORT 0 = 0 ∧ u.get .PROF_TARGET 0 = v ∧ u.get .PROF_SWITCHING 0 = 1 ∧ u.get .PROF_WAIT 0 = 255 ∧
      u.sec.switching = areaEntries s v) ∧
  (∀ (t len : Nat) (path : Path) (r : Request) (s : State), TakesSealed s path r → 3 ≤ s.get .SESS_ROLE 0 → len ≤ 32768 →
    openText s 0x24 r = some (leBytes 4 len) → Completes (.patchBegin t path r) s fun u =>
      u.sec.upload = some ⟨true, 0, len, []⟩ ∧ u.getBit .PATCH_OK 0 (idleHalf s) = false ∧ Answered s u path 0x24 r 0 []) ∧
  (∀ (t len : Nat) (path : Path) (r : Request) (s : State), TakesSealed s path r → 3 ≤ s.get .SESS_ROLE 0 → 32768 < len → len < 2 ^ 32 →
    openText s 0x24 r = some (leBytes 4 len) → Completes (.patchBegin t path r) s fun u =>
      u.sec.upload = s.sec.upload ∧ u.get .PATCH_OK 0 = s.get .PATCH_OK 0 ∧ Answered s u path 0x24 r 0x50 []) ∧
  (∀ (t len : Nat) (b d : List Nat) (path : Path) (r : Request) (s : State), TakesSealed s path r → 3 ≤ s.get .SESS_ROLE 0 →
    s.sec.upload = some ⟨true, 0, len, b⟩ → b.length < 2 ^ 32 → 1 ≤ d.length → d.length ≤ 1000 → b.length + d.length ≤ len →
    openText s 0x25 r = some (leBytes 4 b.length ++ d) → Completes (.patchData t path r) s fun u =>
      u.sec.upload = some ⟨true, 0, len, b ++ d⟩ ∧ Answered s u path 0x25 r 0 []) ∧
  (∀ (t len : Nat) (b d : List Nat) (path : Path) (r : Request) (s : State), TakesSealed s path r → 3 ≤ s.get .SESS_ROLE 0 →
    s.sec.upload = some ⟨true, 0, len, b⟩ → b.length < 2 ^ 32 → 1 ≤ d.length → d.length ≤ 1000 → len < b.length + d.length →
    openText s 0x25 r = some (leBytes 4 b.length ++ d) → Completes (.patchData t path r) s fun u =>
      u.sec.upload = s.sec.upload ∧ u.get .LAST_REFUSAL 0 = 0x50 ∧ Answered s u path 0x25 r 0x50 []) ∧
  (∀ (t : Nat) (b : List Nat) (path : Path) (r : Request) (s : State), TakesSealed s path r → 3 ≤ s.get .SESS_ROLE 0 →
    s.sec.upload = some ⟨true, 0, b.length, b⟩ → s.sec.patches.length = 2 → openText s 0x26 r = some [] → patchFault s b = 0 →
    Completes (.patchEnd t path r) s fun u =>
      u.sec.upload = none ∧ u.sec.patches.getD (idleHalf s) [] = b ∧ u.getBit .PATCH_OK 0 (idleHalf s) = true ∧
      Answered s u path 0x26 r 0 (leBytes 2 (patchLevel b) ++ leBytes 2 (patchRollback b))) ∧
  (∀ (t : Nat) (b : List Nat) (path : Path) (r : Request) (s : State), TakesSealed s path r → 3 ≤ s.get .SESS_ROLE 0 →
    s.sec.upload = some ⟨true, 0, b.length, b⟩ → s.sec.patches.length = 2 → openText s 0x26 r = some [] → patchFault s b ≠ 0 →
    Completes (.patchEnd t path r) s fun u =>
      u.sec.upload = none ∧ u.sec.patches.getD (idleHalf s) [] = [] ∧ u.getBit .PATCH_OK 0 (idleHalf s) = false ∧
      u.get .LAST_REFUSAL 0 = patchFault s b ∧ Answered s u path 0x26 r (patchFault s b) []) ∧
  (∀ (t : Nat) (path : Path) (r : Request) (s : State), TakesSealed s path r → 3 ≤ s.get .SESS_ROLE 0 → openText s 0x27 r = some [] →
    patchFault s (patchHalf s (idleHalf s)) = 0 → s.get .SEQ_EPOCH_MOVED 0 = 0 → Completes (.patchActivate t path r) s fun u =>
      u.get .PATCH_ACTIVE 0 = idleHalf s + 1 ∧ u.get .ROLLBACK_MIN 0 = patchRollback (patchHalf s (idleHalf s)) % 2 ^ 16 ∧
      u.get .SEQ_DOWN 0 = 1 ∧ u.get .SEQ_CAUSE 0 = 1 ∧ u.get .SESS_OPEN 0 = 0) ∧
  (∀ (t : Nat) (path : Path) (r : Request) (s : State), TakesSealed s path r → 3 ≤ s.get .SESS_ROLE 0 → openText s 0x27 r = some [] →
    patchFault s (patchHalf s (idleHalf s)) ≠ 0 → Completes (.patchActivate t path r) s fun u =>
      u.get .PATCH_ACTIVE 0 = s.get .PATCH_ACTIVE 0 ∧ u.get .SEQ_DOWN 0 = 0 ∧
      u.get .LAST_REFUSAL 0 = patchFault s (patchHalf s (idleHalf s)) ∧
      Answered s u path 0x27 r (patchFault s (patchHalf s (idleHalf s))) []) ∧
  (∀ (t from0 n : Nat) (path : Path) (r : Request) (s : State), TakesSealed s path r → 1 ≤ s.get .SESS_ROLE 0 → from0 < 2 ^ 32 → 1 ≤ n → n ≤ 31 →
    openText s 0x28 r = some (leBytes 4 from0 ++ [n]) → Completes (.auditRead t path r) s fun u =>
      u = sealedAnswer s (opened (s.atTick t) path r) path 0x28 r 0
        (((auditNumbered s).filter fun e => decide (from0 ≤ e.seq)).take n |>.flatMap AuditEntry.bytes)) ∧
  (∀ (t from0 n : Nat) (path : Path) (r : Request) (s : State), TakesSealed s path r → 1 ≤ s.get .SESS_ROLE 0 → from0 < 2 ^ 32 → n = 0 ∨ 31 < n →
    openText s 0x28 r = some (leBytes 4 from0 ++ [n]) → Completes (.auditRead t path r) s fun u =>
      u = sealedAnswer s (opened (s.atTick t) path r) path 0x28 r 0x02 []) ∧
  (∀ (t : Nat) (path : Path) (r : Request) (s : State), TakesSealed s path r → 1 ≤ s.get .SESS_ROLE 0 → openText s 0x29 r = some [] →
    Completes (.auditSeal t path r) s fun u =>
      u.get .DRAWS 0 = (s.get .DRAWS 0 + 1) % 2 ^ 64 ∧ u.audit = s.audit ∧ ∃ sig, Answered s u path 0x29 r 0
        (leBytes 4 (match s.audit.getLast? with | some e => e.seq | none => 0) ++ lastChain s ++ sig)) ∧
  (∀ (t : Nat) (text : List Nat) (path : Path) (r : Request) (s : State), TakesSealed s path r → 1 ≤ s.get .SESS_ROLE 0 →
    openText s 0x29 r = some text → text ≠ [] → Completes (.auditSeal t path r) s fun u =>
      u = sealedAnswer s (opened (s.atTick t) path r) path 0x29 r 0x02 []) ∧
  (∀ (t : Nat) (s : State), s.get .SVC_TICK 0 + 57600000000 ≤ (s.atTick t).ts → Completes (.svcHoursIncrement t) s fun u =>
    u.get .SVC_HOURS 0 = min (s.get .SVC_HOURS 0 + 1) (2 ^ 32 - 1) ∧ u.get .SVC_TICK 0 = u.ts % 2 ^ 64 ∧
    (s.get .SESS_OPEN 0 = 1 → s.get .SESS_VALID_TO 0 ≤ u.get .SVC_HOURS 0 → u.get .SESS_OPEN 0 = 0)) ∧
  (∀ (t : Nat) (s : State), (s.atTick t).ts < s.get .SVC_TICK 0 + 57600000000 → Completes (.svcHoursIncrement t) s fun u => u = s.atTick t)
end

