-- ==== Sys2Proof/Laws/Kept.lean ====
section
/-! SUPPORT. What it means that a property of states is kept by every primitive update of the model, and the
combinators with which the lemmas `keep_<definition>` are put together. A property that is kept needs no unfolding of
any command: `keep_exec` says that every command keeps it. -/

namespace Sys2Proof.Laws

open Machine

/-- What a definition may write: the registers, the developed copies (bit `k` stands for the register whose
constructor index is `k`) and the other parts of the state, in the order of the fields of `Kept`. -/
structure Mask where
  regs : Nat
  dev : Nat
  parts : Nat

/-- Whether one mask is inside another. -/
def Mask.le (a b : Mask) : Bool :=
  Nat.beq (Nat.land a.regs b.regs) a.regs && Nat.beq (Nat.land a.dev b.dev) a.dev &&
    Nat.beq (Nat.land a.parts b.parts) a.parts

/-- The bit of a register. -/
def rbit (r : Reg) : Nat := Nat.shiftLeft 1 r.ctorIdx

/-- The bits of a list of registers. -/
def rbits : List Reg → Nat
  | [] => 0
  | r :: t => Nat.lor (rbit r) (rbits t)

/-- The bits of all registers. -/
def rall : Nat :=
  0x3ffffffffffffffffffffffffffffffffffffffffffffffffffffffffffffffffffffffffffffffffffffffffffffffffffffffffffffffffffffffffffffffffffffffffffffffffffffffffffffffffffffffffffffffffffffffffffffffffffffffffffffffffffffffffffffffffffffffffffffffffffffffffffffffffffffffffffffffff

/-- A property of states that every primitive update inside a mask keeps. -/
structure Kept (m : Mask) (P : State → Prop) : Prop where
  /-- it depends on the fields named here alone -/
  plain : ∀ s s' : State, s'.regs = s.regs → s'.dev = s.dev → s'.rc = s.rc → s'.spiRead = s.spiRead →
    s'.winRead = s.winRead → s'.spiWrite = s.spiWrite → s'.winWrite = s.winWrite → s'.mem = s.mem →
    s'.motion = s.motion → s'.encHist = s.encHist → s'.rx = s.rx → s'.resp = s.resp → s'.tx = s.tx →
    s'.audit = s.audit → s'.sec = s.sec → s'.pending = s.pending → s'.ts = s.ts → P s → P s'
  put : ∀ (s : State) r i v, P s → m.regs.testBit r.ctorIdx = true → P (s.put r i v)
  putDev : ∀ (s : State) r i v, P s → m.dev.testBit r.ctorIdx = true → P (s.putDev r i v)
  copies : ∀ s : State, P s → (b : m.parts.testBit 0 = true := by rfl) → P { s with rc := s.regs }
  readShadow : ∀ (s : State) p k v, P s → (b : m.parts.testBit 1 = true := by rfl) →
    P (setReadShadow s p ((readShadow s p).insert k v))
  writeShadow : ∀ (s : State) p r i v, P s → (b : m.parts.testBit 2 = true := by rfl) →
    P (setWriteShadow s p ((writeShadow s p).set r i v))
  noReads : ∀ s : State, P s → (b : m.parts.testBit 1 = true := by rfl) → P { s with winRead := [] }
  takeReads : ∀ s t : State, P s → P t → (b : m.parts.testBit 1 = true := by rfl) → P { t with winRead := s.winRead }
  wholes : ∀ s : State, P s → (b : m.parts.testBit 2 = true := by rfl) → P { s with winWrite := s.regs }
  takeWrites : ∀ s t : State, P s → P t → (b : m.parts.testBit 2 = true := by rfl) → P { t with winWrite := s.winWrite }
  sram : ∀ (s : State) a w, P s → (b : m.parts.testBit 3 = true := by rfl) → P { s with mem := s.mem.setWord a w }
  blank : ∀ s : State, P s → (b : m.parts.testBit 3 = true := by rfl) → P { s with mem := [] }
  motion : ∀ (s : State) i x, P s → (b : m.parts.testBit 4 = true := by rfl) → P { s with motion := s.motion.set i x }
  encHist : ∀ (s : State) c l, P s → (b : m.parts.testBit 5 = true := by rfl) → P { s with encHist := s.encHist.set c l }
  rx : ∀ (s : State) p l, P s → (b : m.parts.testBit 6 = true := by rfl) → P { s with rx := s.rx.set p l }
  rxNone : ∀ s : State, P s → (b : m.parts.testBit 6 = true := by rfl) → P { s with rx := List.replicate 3 [] }
  resp : ∀ (s : State) p l, P s → (b : m.parts.testBit 7 = true := by rfl) → P { s with resp := s.resp.set p l }
  setTx : ∀ (s : State) x, P s → (b : m.parts.testBit 8 = true := by rfl) → P { s with tx := x }
  setAudit : ∀ (s : State) x, P s → (b : m.parts.testBit 9 = true := by rfl) → P { s with audit := x }
  setSec : ∀ (s : State) x, P s → (b : m.parts.testBit 10 = true := by rfl) → P { s with sec := x }
  clock : ∀ (s : State) x, P s → s.ts ≤ x → (b : m.parts.testBit 12 = true := by rfl) → P { s with ts := x }
  /-- the state a reset starts from: nothing but the queue is asked of the state before -/
  reset : ∀ s : State, P s → (b : m.parts.testBit 11 = true := by rfl) → P { State.reset with pending := s.pending }

theorem testBit_le {a b k : Nat} (h : Nat.beq (Nat.land a b) a = true) (hk : a.testBit k = true) : b.testBit k = true := by
  have h1 : a &&& b = a := Nat.eq_of_beq_eq_true h
  rw [← h1, Nat.testBit_and, Bool.and_eq_true] at hk
  exact hk.2

/-- What is kept under a mask is kept under every mask inside it. -/
theorem Kept.le {m g : Mask} {P : State → Prop} (hk : Kept m P) (h : g.le m = true := by rfl) : Kept g P := by
  unfold Mask.le at h
  rw [Bool.and_eq_true, Bool.and_eq_true] at h
  obtain ⟨⟨h1, h2⟩, h3⟩ := h
  exact ⟨hk.plain, fun s r i v p b => hk.put s r i v p (testBit_le h1 b), fun s r i v p b => hk.putDev s r i v p (testBit_le h2 b),
    fun s p b => hk.copies s p (testBit_le h3 b), fun s q k v p b => hk.readShadow s q k v p (testBit_le h3 b),
    fun s q r i v p b => hk.writeShadow s q r i v p (testBit_le h3 b), fun s p b => hk.noReads s p (testBit_le h3 b),
    fun s t p q b => hk.takeReads s t p q (testBit_le h3 b), fun s p b => hk.wholes s p (testBit_le h3 b),
    fun s t p q b => hk.takeWrites s t p q (testBit_le h3 b), fun s a w p b => hk.sram s a w p (testBit_le h3 b),
    fun s p b => hk.blank s p (testBit_le h3 b), fun s i x p b => hk.motion s i x p (testBit_le h3 b),
    fun s i x p b => hk.encHist s i x p (testBit_le h3 b), fun s i x p b => hk.rx s i x p (testBit_le h3 b),
    fun s p b => hk.rxNone s p (testBit_le h3 b), fun s i x p b => hk.resp s i x p (testBit_le h3 b),
    fun s x p b => hk.setTx s x p (testBit_le h3 b), fun s x p b => hk.setAudit s x p (testBit_le h3 b),
    fun s x p b => hk.setSec s x p (testBit_le h3 b), fun s x p l b => hk.clock s x p l (testBit_le h3 b),
    fun s p b => hk.reset s p (testBit_le h3 b)⟩

theorem testBit_rbit {r : Reg} : (rbit r).testBit r.ctorIdx = true := by
  unfold rbit
  show (1 <<< r.ctorIdx).testBit r.ctorIdx = true
  simp

theorem ctorIdx_lt_all {r : Reg} : r.ctorIdx < 1090 := by
  cases r <;> decide

theorem testBit_rall {r : Reg} : rall.testBit r.ctorIdx = true := by
  rw [show rall = 1 <<< 1090 - 1 from rfl, Nat.one_shiftLeft, Nat.testBit_two_pow_sub_one]
  exact decide_eq_true ctorIdx_lt_all

/-- Two states that agree in what a kept property may depend on. -/
theorem Kept.same {m : Mask} {P : State → Prop} (hk : Kept m P) {s s' : State} (h : P s) (h1 : s'.regs = s.regs := by rfl)
    (h2 : s'.dev = s.dev := by rfl) (h3 : s'.rc = s.rc := by rfl) (h4 : s'.spiRead = s.spiRead := by rfl)
    (h5 : s'.winRead = s.winRead := by rfl) (h6 : s'.spiWrite = s.spiWrite := by rfl)
    (h7 : s'.winWrite = s.winWrite := by rfl) (h8 : s'.mem = s.mem := by rfl) (h9 : s'.motion = s.motion := by rfl)
    (h10 : s'.encHist = s.encHist := by rfl) (h11 : s'.rx = s.rx := by rfl) (h12 : s'.resp = s.resp := by rfl)
    (h13 : s'.tx = s.tx := by rfl) (h14 : s'.audit = s.audit := by rfl) (h15 : s'.sec = s.sec := by rfl)
    (h16 : s'.pending = s.pending := by rfl) (h17 : s'.ts = s.ts := by rfl) : P s' :=
  hk.plain s s' h1 h2 h3 h4 h5 h6 h7 h8 h9 h10 h11 h12 h13 h14 h15 h16 h17 h

/-- The parts that many updates take along. -/
theorem Kept.sec {m : Mask} {P : State → Prop} (hk : Kept m P) {s : State} {x} (h : P s)
    (b : m.parts.testBit 10 = true := by rfl) : P { s with sec := x } := hk.setSec s x h b

theorem Kept.audit {m : Mask} {P : State → Prop} (hk : Kept m P) {s : State} {x} (h : P s)
    (b : m.parts.testBit 9 = true := by rfl) : P { s with audit := x } := hk.setAudit s x h b

theorem Kept.tx {m : Mask} {P : State → Prop} (hk : Kept m P) {s : State} {x} (h : P s)
    (b : m.parts.testBit 8 = true := by rfl) : P { s with tx := x } := hk.setTx s x h b

/-- A command's answer keeps a property. -/
def KeepsOut (P : State → Prop) (o : Host.Outcome State Fault Refusal) : Prop := ∀ t, o = .next t → P t

variable {P : State → Prop}

theorem keepsOut_next {s : State} (h : P s) : KeepsOut P (.next s) := by
  intro t e
  cases e
  exact h

theorem keepsOut_ite {c : Prop} [Decidable c] {a b : Host.Outcome State Fault Refusal} (ha : KeepsOut P a)
    (hb : KeepsOut P b) : KeepsOut P (if c then a else b) := by
  split <;> assumption

theorem keep_ite {c : Prop} [Decidable c] {a b : State} (ha : P a) (hb : P b) : P (if c then a else b) := by
  split <;> assumption

theorem keep_ite1 {α : Type} {c : Prop} [Decidable c] {a b : State × α} (ha : P a.1) (hb : P b.1) :
    P (if c then a else b).1 := by
  split <;> assumption

theorem keep_mk {α : Type} {a : State} {b : α} (h : P a) : P (a, b).1 := h

theorem keep_fst {α : Type} {x : State × α} {a : State} {b : α} (h : P x.1) (e : x = (a, b)) : P a := by
  cases e
  exact h

theorem keep_foldl {α : Type} {f : State → α → State} {l : List α} {s : State} (hf : ∀ s x, P s → P (f s x))
    (h : P s) : P (l.foldl f s) := by
  induction l generalizing s with
  | nil => exact h
  | cons x t ih => exact ih (hf s x h)

theorem keep_foldr {α : Type} {f : α → State → State} {l : List α} {s : State} (hf : ∀ s x, P s → P (f x s))
    (h : P s) : P (l.foldr f s) := by
  induction l with
  | nil => exact h
  | cons x t ih => exact hf _ x ih

theorem keep_foldl1 {α β : Type} {f : State × β → α → State × β} {l : List α} {s : State × β}
    (hf : ∀ s x, P s.1 → P (f s x).1) (h : P s.1) : P (l.foldl f s).1 := by
  induction l generalizing s with
  | nil => exact h
  | cons x t ih => exact ih (hf s x h)

theorem keep_foldlOpt {α : Type} {f : Option State → α → Option State} {l : List α} {o : Option State}
    (hf : ∀ o x, (∀ a, o = some a → P a) → ∀ a, f o x = some a → P a) (h : ∀ a, o = some a → P a) :
    ∀ a, l.foldl f o = some a → P a := by
  induction l generalizing o with
  | nil => exact h
  | cons x t ih => exact ih (hf o x h)

end Sys2Proof.Laws
end

