-- ==== Sys2Proof/Laws/KeepOps.lean ====
section
/-! SUPPORT. Every definition of the named operations keeps a property that the primitive updates keep (Kept). -/

set_option Elab.async false

namespace Sys2Proof.Laws

open Machine

variable {P : State → Prop}

theorem keep_State_put {s : State} {r i v} (hk : Kept ⟨rbit r, 0, 0⟩ P) (h_s : P s) : P (s.put r i v) :=
  hk.put s r i v h_s testBit_rbit

/-- For a register that the text does not name. -/
theorem keep_State_put_any {s : State} {r i v} (hk : Kept ⟨rall, 0, 0⟩ P) (h_s : P s) : P (s.put r i v) :=
  hk.put s r i v h_s testBit_rall

/-- For one of two registers. -/
theorem keep_State_put_ite {s : State} {c : Prop} [Decidable c] {r r' i v} (hk : Kept ⟨rbits [r, r'], 0, 0⟩ P) (h_s : P s) :
    P (s.put (if c then r else r') i v) := by
  refine hk.put s _ i v h_s ?_
  show (Nat.lor (rbit r) (Nat.lor (rbit r') 0)).testBit _ = true
  split
  · exact (Nat.testBit_or ..).trans (by rw [testBit_rbit]; rfl)
  · exact (Nat.testBit_or ..).trans (by
      rw [show (Nat.lor (rbit r') 0).testBit r'.ctorIdx = true from (Nat.testBit_or ..).trans (by rw [testBit_rbit]; rfl)]
      exact Bool.or_true _)

theorem keep_State_putDev {s : State} {r i v} (hk : Kept ⟨0, rbit r, 0⟩ P) (h_s : P s) : P (s.putDev r i v) :=
  hk.putDev s r i v h_s testBit_rbit

theorem keep_State_putDev_any {s : State} {r i v} (hk : Kept ⟨0, rall, 0⟩ P) (h_s : P s) : P (s.putDev r i v) :=
  hk.putDev s r i v h_s testBit_rall

theorem keep_State_develop {s : State} {r i} (hk : Kept ⟨0, rbit r, 0⟩ P) (h_s : P s) : P (s.develop r i) :=
  keep_State_putDev hk h_s

theorem keep_State_develop_any {s : State} {r i} (hk : Kept ⟨0, rall, 0⟩ P) (h_s : P s) : P (s.develop r i) :=
  keep_State_putDev_any hk h_s

theorem testBit_rbits {l : List Reg} {r : Reg} (h : r ∈ l) : (rbits l).testBit r.ctorIdx = true := by
  induction l with
  | nil => cases h
  | cons a t ih =>
    refine (Nat.testBit_or ..).trans ?_
    rcases List.mem_cons.mp h with rfl | h
    · rw [testBit_rbit]; rfl
    · rw [ih h]; exact Bool.or_true _

theorem keep_foldl_mem {α : Type} {f : State → α → State} {l : List α} {s : State} (hf : ∀ s x, x ∈ l → P s → P (f s x))
    (h : P s) : P (l.foldl f s) := by
  induction l generalizing s with
  | nil => exact h
  | cons x t ih => exact ih (fun s y hy => hf s y (List.mem_cons_of_mem x hy)) (hf s x List.mem_cons_self h)

theorem keep_State_developList {s : State} {rs i} (hk : Kept ⟨0, rbits rs, 0⟩ P) (h_s : P s) : P (s.developList rs i) :=
  keep_foldl_mem (fun s r hr h => hk.putDev s r i _ h (testBit_rbits hr)) h_s

theorem keep_State_putBoth {s : State} {r i v} (hk : Kept ⟨rbit r, rbit r, 0⟩ P) (h_s : P s) : P (s.putBoth r i v) :=
  hk.putDev _ r i v (hk.put s r i v h_s testBit_rbit) testBit_rbit

theorem keep_State_puti {s : State} {r i z} (hk : Kept ⟨rbit r, 0, 0⟩ P) (h_s : P s) : P (s.puti r i z) :=
  keep_State_put hk h_s

theorem keep_State_puti_any {s : State} {r i z} (hk : Kept ⟨rall, 0, 0⟩ P) (h_s : P s) : P (s.puti r i z) :=
  keep_State_put_any hk h_s

theorem keep_State_count {s : State} {r i} (hk : Kept ⟨rbit r, 0, 0⟩ P) (h_s : P s) : P (s.count r i) :=
  keep_State_put hk h_s

theorem keep_State_count_any {s : State} {r i} (hk : Kept ⟨rall, 0, 0⟩ P) (h_s : P s) : P (s.count r i) :=
  keep_State_put_any hk h_s

theorem keep_State_countN {s : State} {r i n} (hk : Kept ⟨rbit r, 0, 0⟩ P) (h_s : P s) : P (s.countN r i n) :=
  keep_State_put hk h_s

theorem keep_State_countN_any {s : State} {r i n} (hk : Kept ⟨rall, 0, 0⟩ P) (h_s : P s) : P (s.countN r i n) :=
  keep_State_put_any hk h_s

theorem keep_State_countWrap {s : State} {r i} (hk : Kept ⟨rbit r, 0, 0⟩ P) (h_s : P s) : P (s.countWrap r i) :=
  keep_State_put hk h_s

theorem keep_State_countWrap_any {s : State} {r i} (hk : Kept ⟨rall, 0, 0⟩ P) (h_s : P s) : P (s.countWrap r i) :=
  keep_State_put_any hk h_s

theorem keep_State_setBit {s : State} {r i k b} (hk : Kept ⟨rbit r, 0, 0⟩ P) (h_s : P s) : P (s.setBit r i k b) :=
  keep_State_put hk h_s

theorem keep_State_setBit_any {s : State} {r i k b} (hk : Kept ⟨rall, 0, 0⟩ P) (h_s : P s) : P (s.setBit r i k b) :=
  keep_State_put_any hk h_s

theorem keep_State_clear {s : State} {r i} (hk : Kept ⟨rbit r, 0, 0⟩ P) (h_s : P s) : P (s.clear r i) :=
  keep_State_put hk h_s

theorem keep_State_clear_any {s : State} {r i} (hk : Kept ⟨rall, 0, 0⟩ P) (h_s : P s) : P (s.clear r i) :=
  keep_State_put_any hk h_s

theorem keep_State_clearAll {s : State} {rs i} (hk : Kept ⟨rbits rs, 0, 0⟩ P) (h_s : P s) : P (s.clearAll rs i) :=
  keep_foldl_mem (fun s r hr h => hk.put s r i _ h (testBit_rbits hr)) h_s

theorem keep_State_each {s} {n} {p} {f} (hk : Kept ⟨0x0, 0x0, 0x0⟩ P) (h_s : P s) (h_f : ∀ v0 v1, P v0 → P (f v0 v1)) :
    P (State.each s n p f) := by
  unfold State.each
  exact keep_foldl (fun x0 x1 z2 => keep_ite (h_f _ _ z2) z2) h_s

theorem keep_State_onlyIf {s} {b} {f} (hk : Kept ⟨0x0, 0x0, 0x0⟩ P) (h_s : P s) (h_f : ∀ v0, P v0 → P (f v0)) :
    P (State.onlyIf s b f) := by
  unfold State.onlyIf
  exact keep_ite (h_f _ h_s) h_s

theorem keep_State_refreshCopies (hk : Kept ⟨0x0, 0x0, 0x1⟩ P) {s : State} (h_s : P s) : P s.refreshCopies := hk.copies s h_s

theorem keep_State_atTick (hk : Kept ⟨0x0, 0x0, 0x1001⟩ P) {s : State} {t} (h_s : P s) : P (s.atTick t) := by
  unfold State.atTick
  refine keep_ite h_s (hk.clock _ _ (keep_ite (keep_State_refreshCopies hk.le h_s) h_s) ?_ rfl)
  split <;> exact Nat.le_max_left ..

theorem keep_State_freed {s : State} (hk : Kept ⟨0, 0, 0⟩ P) (h_s : P s) : P s.freed :=
  hk.same h_s

theorem keep_State_setWord (hk : Kept ⟨0x0, 0x0, 0x8⟩ P) {s : State} {a w} (h_s : P s) : P (s.setWord a w) :=
  hk.same (hk.sram s a w h_s)

theorem keep_State_setWords (hk : Kept ⟨0x0, 0x0, 0x8⟩ P) {s : State} {a ws} (h_s : P s) : P (s.setWords a ws) := by
  induction ws generalizing s a with
  | nil => exact h_s
  | cons w t ih => exact ih (keep_State_setWord hk.le h_s)

theorem keep_State_setQLevel {s} {q} (hk : Kept ⟨0x200000, 0x0, 0x0⟩ P) (h_s : P s) :
    P (State.setQLevel s q) := by
  unfold State.setQLevel
  exact keep_State_put hk.le h_s

theorem keep_State_qPutRaw {s} {q} {ws} (hk : Kept ⟨0x300000, 0x0, 0x8⟩ P) (h_s : P s) :
    P (State.qPutRaw s q ws) := by
  unfold State.qPutRaw
  exact keep_State_setQLevel hk.le (keep_State_put hk.le (keep_State_setWords hk.le h_s))

theorem keep_State_postAt {s} {code} {src} {slot} {arg} {tstamp} (hk : Kept ⟨0x40000000000000000000000000000000000000000000000000000000000000000000000000000000000000000000000000000000000000000000000000300022b00000, 0x0, 0x8⟩ P) (h_s : P s) :
    P (State.postAt s code src slot arg tstamp) := by
  unfold State.postAt
  exact keep_ite (keep_State_put hk.le (keep_State_put hk.le (keep_State_count hk.le ((keep_State_put hk.le h_s))))) (keep_ite (keep_State_put hk.le (keep_State_put hk.le ((keep_State_qPutRaw hk.le ((keep_State_put hk.le h_s)))))) ((keep_State_qPutRaw hk.le ((keep_State_put hk.le h_s)))))

theorem keep_State_post {s} {code} {src} {slot} {arg} (hk : Kept ⟨0x40000000000000000000000000000000000000000000000000000000000000000000000000000000000000000000000000000000000000000000000000300022b00000, 0x0, 0x8⟩ P) (h_s : P s) :
    P (State.post s code src slot arg) := by
  unfold State.post
  exact keep_State_postAt hk.le h_s

theorem keep_State_crossWatermark {s} {q} (hk : Kept ⟨0x40000000000000000000000000000000000000000000000000000000000000000000000000000000000000000000000000000000000000000000000000300022b00000, 0x0, 0x8⟩ P) (h_s : P s) :
    P (State.crossWatermark s q) := by
  unfold State.crossWatermark
  exact keep_ite (keep_State_put hk.le (keep_State_put hk.le h_s)) (keep_State_post hk.le (keep_State_put hk.le h_s))

theorem keep_State_judgeRise {s} {q} {before} (hk : Kept ⟨0x40000000000000000000000000000000000000000000000000000000000000000000000000000000000000000000000000000000000000000000000000300022b00000, 0x0, 0x8⟩ P) (h_s : P s) :
    P (State.judgeRise s q before) := by
  unfold State.judgeRise
  exact keep_ite (keep_State_crossWatermark hk.le h_s) h_s

theorem keep_State_judgeFall {s} {q} {before} (hk : Kept ⟨0x40000000000000000000000000000000000000000000000000000000000000000000000000000000000000000000000000000000000000000000000000300022b00000, 0x0, 0x8⟩ P) (h_s : P s) :
    P (State.judgeFall s q before) := by
  unfold State.judgeFall
  exact keep_ite (keep_State_crossWatermark hk.le h_s) h_s

theorem keep_State_qDrop {s} {q} (hk : Kept ⟨0x40000000000000000000000000000000000000000000000000000000000000000000000000000000000000000000000000000000000000000000000000300022b00000, 0x0, 0x8⟩ P) (h_s : P s) :
    P (State.qDrop s q) := by
  unfold State.qDrop
  exact keep_ite (keep_State_put hk.le ((keep_State_put hk.le (keep_State_count hk.le h_s)))) (keep_ite (keep_State_post hk.le ((keep_State_put hk.le (keep_State_count hk.le h_s)))) ((keep_State_put hk.le (keep_State_count hk.le h_s))))

theorem keep_State_enqueue {s} {q} {ws} (hk : Kept ⟨0x40000000000000000000000000000000000000000000000000000000000000000000000000000000000000000000000000000000000000000000000000300022b00000, 0x0, 0x8⟩ P) (h_s : P s) :
    P (State.enqueue s q ws) := by
  unfold State.enqueue
  exact keep_ite (keep_State_qDrop hk.le h_s) (keep_State_judgeRise hk.le (keep_State_qPutRaw hk.le h_s))

theorem keep_State_setRd {s} {q} {p} (hk : Kept ⟨0x40000000000000000000000000000000000000000000000000000000000000000000000000000000000000000000000000000000000000000000000000300022b80000, 0x0, 0x8⟩ P) (h_s : P s) :
    P (State.setRd s q p) := by
  unfold State.setRd
  exact keep_State_judgeFall hk.le (keep_State_setQLevel hk.le (keep_State_put hk.le h_s))

theorem keep_State_advanceRd {s} {q} (hk : Kept ⟨0x40000000000000000000000000000000000000000000000000000000000000000000000000000000000000000000000000000000000000000000000000300022b80000, 0x0, 0x8⟩ P) (h_s : P s) :
    P (State.advanceRd s q) := by
  unfold State.advanceRd
  exact keep_State_setRd hk.le h_s

theorem keep_State_passBad (hk : Kept ⟨0x40000000000000000000000000000000000000000000000000000000000000000000000000000000000000000000000000000000000000000000000000300022b80000, 0x0, 0x8⟩ P) {n} {s : State} {q} (h_s : P s) : P (State.passBad n s q) := by
  induction n generalizing s with
  | zero => exact h_s
  | succ n ih => exact keep_ite (ih (keep_State_advanceRd hk.le h_s)) h_s

theorem keep_State_dequeue {s} {q} (hk : Kept ⟨0x40000000000000000000000000000000000000000000000000000000000000000000000000000000000000000000000000000000000000000000000000300022b80000, 0x0, 0x8⟩ P) (h_s : P s) :
    P (State.dequeue s q) := by
  unfold State.dequeue
  exact keep_ite h_s (keep_State_passBad hk.le (keep_State_advanceRd hk.le h_s))

theorem keep_State_send {s : State} {p i d} (hk : Kept ⟨0, 0, 0x100⟩ P) (h_s : P s) : P (s.send p i d) := hk.tx h_s

theorem keep_State_reply (hk : Kept ⟨0x80000000000000000000000000000000000000000000000000000000000000000000000000000000000000000000000000000000000000000000000000000000000000, 0x0, 0x0⟩ P) {s : State} {a d} (h_s : P s) : P (s.reply a d) :=
  hk.same (keep_State_put hk.le (r := .ANS_ABORT) (i := 0) (v := a) h_s)

theorem keep_State_setMo (hk : Kept ⟨0x0, 0x0, 0x10⟩ P) {s : State} {i m} (h_s : P s) : P (s.setMo i m) := hk.motion s i m h_s

end Sys2Proof.Laws
end

