-- ==== Sys2Proof/Laws/KeepMotion.lean ====
section
/-! SUPPORT. Every definition of segments, planner and homing keeps a property that the primitive updates keep (Kept). -/

set_option Elab.async false

namespace Sys2Proof.Laws

open Machine

variable {P : State → Prop}

theorem keep_syncRd {s} {i} (hk : Kept ⟨0x40000000000000000000000000000000000000000000000000000000000000000000000000000000000000000000000000000000000000000000000000300022b80000, 0x0, 0x8⟩ P) (h_s : P s) :
    P (syncRd s i) := by
  unfold syncRd
  exact keep_ite h_s (keep_State_setRd hk.le h_s)

theorem keep_fetchOne {s} {i} (hk : Kept ⟨0xf000000400000000000000000008000000000000000000000000000000000000000000000000000000000000000000000000000000000000000000001b0000000300022b00000, 0x0, 0x18⟩ P) (h_s : P s) :
    P (fetchOne s i) := by
  unfold fetchOne
  extract_lets -merge -underBinder +onlyGivenNames y0 y1
  clear_value y0 y1
  extract_lets -merge -underBinder +onlyGivenNames y2
  have z3 : P y2 := keep_State_put hk.le h_s
  clear_value y2
  exact keep_ite (keep_State_count hk.le z3) (keep_ite (keep_State_post hk.le (keep_State_count hk.le (keep_State_setMo hk.le z3))) (keep_ite (keep_State_puti hk.le (keep_State_puti hk.le (keep_State_setMo hk.le z3))) (keep_State_put hk.le (keep_State_count hk.le (keep_State_post hk.le (keep_State_count hk.le (keep_State_put hk.le (keep_State_put hk.le z3))))))))

theorem keep_fetchMany (hk : Kept ⟨0xf000000400000000000000000008000000000000000000000000000000000000000000000000000000000000000000000000000000000000000000001b0000000300022b00000, 0x0, 0x18⟩ P) {s i n} (h_s : P s) : P (fetchMany s i n) := by
  induction n generalizing s with
  | zero => exact h_s
  | succ n ih => exact ih (keep_fetchOne hk.le h_s)

theorem keep_fetch {s} {i} (hk : Kept ⟨0xf000000400000000000000000008000000000000000000000000000000000000000000000000000000000000000000000000000000000000000000001b0000000300022b80000, 0x0, 0x18⟩ P) (h_s : P s) :
    P (fetch s i) := by
  unfold fetch
  exact keep_ite (keep_syncRd hk.le (keep_fetchMany hk.le h_s)) h_s

theorem keep_dropAccepted {s} {i} (hk : Kept ⟨0x40000000000000000000000000000000000000000000000000000000000000000000000000000000000000000000000000000000000000000100000000300022b80000, 0x0, 0x18⟩ P) (h_s : P s) :
    P (dropAccepted s i) := by
  unfold dropAccepted
  exact keep_syncRd hk.le (keep_State_countN hk.le (keep_State_setMo hk.le h_s))

theorem keep_breakStream {s} {i} (hk : Kept ⟨0x400000040000000000000000000000000000000000000000000000000000000000000000000000000000000000000000000000000000000000000000100000000300022b80000, 0x0, 0x18⟩ P) (h_s : P s) :
    P (breakStream s i) := by
  unfold breakStream
  exact keep_State_put hk.le (keep_dropAccepted hk.le h_s)

theorem keep_leaveSegmentMode {s} {i} (hk : Kept ⟨0x2c00000040000000000000000000000000000000000000000000000000000000000000000000000000000000000000000000000000000000000000080100000a00300022b80000, 0x0, 0x18⟩ P) (h_s : P s) :
    P (leaveSegmentMode s i) := by
  unfold leaveSegmentMode
  exact keep_ite (keep_syncRd hk.le (keep_State_each hk.le ((keep_State_put hk.le ((keep_State_put hk.le (keep_State_put hk.le ((keep_State_put hk.le (keep_State_put hk.le ((keep_State_countN hk.le (keep_State_setMo hk.le h_s))))))))))) (fun x0 x1 z2 => keep_State_setBit hk.le z2))) h_s

theorem keep_enterSegmentMode {s} {i} (hk : Kept ⟨0xf000000400000000000000000008000000000000000000000000000000000000000000000000000000000000000000000000000000000000000000001b0000200300022b80000, 0x0, 0x18⟩ P) (h_s : P s) :
    P (enterSegmentMode s i) := by
  unfold enterSegmentMode
  exact keep_fetch hk.le (keep_State_put hk.le ((keep_State_puti hk.le ((keep_State_puti hk.le (keep_State_put hk.le (keep_State_put hk.le h_s)))))))

theorem keep_appendEntries (hk : Kept ⟨0xf000000400000000000000000008000000000000000000000000000000000000000000000000000000000000000000000000000000000000000000001b0000000300022b80000, 0x0, 0x18⟩ P) {s q l} (h_s : P s) : P (appendEntries s q l) := by
  induction l generalizing s with
  | nil => exact h_s
  | cons w t ih => exact ih (keep_fetch hk.le (keep_State_qPutRaw hk.le h_s))

theorem keep_segWrite {s} {i} {bytes} (hk : Kept ⟨0xf000000c00000000000000000008000000000000000000000000000000000000000000000000000000000000000000000000000000000000000000001b0000000300022b80000, 0x0, 0x18⟩ P) (h_s : P s) :
    P (segWrite s i bytes) := by
  unfold segWrite
  exact keep_ite (keep_State_reply hk.le h_s) (keep_ite (keep_State_reply hk.le h_s) (keep_ite (keep_State_reply hk.le h_s) (keep_State_reply hk.le (keep_appendEntries hk.le h_s))))

theorem keep_segEnqueueBy {s} {i} {producer} {ws} (hk : Kept ⟨0xf000000400000000000000000008000000000000000000000000000000000000000000000000000000000000000000000000000000000000000000001b0000000300026b80000, 0x0, 0x18⟩ P) (h_s : P s) :
    P (segEnqueueBy s i producer ws) := by
  unfold segEnqueueBy
  exact keep_ite (keep_State_qDrop hk.le h_s) (keep_ite (keep_State_put hk.le (keep_State_count hk.le h_s)) (keep_ite (keep_State_qDrop hk.le h_s) (keep_appendEntries hk.le h_s)))

theorem keep_segRestart {s} {i} (hk : Kept ⟨0x700000000000000000000000000000000000000000000000000000000000000000000000000000000000000000000000000000000000000000000000000000208000000000000, 0x0, 0x0⟩ P) (h_s : P s) :
    P (segRestart s i) := by
  unfold segRestart
  exact keep_ite (keep_State_put hk.le ((keep_State_put hk.le (keep_State_puti hk.le (keep_State_puti hk.le h_s))))) (keep_State_count hk.le h_s)

theorem keep_updateAhead {s} {i} {te} (hk : Kept ⟨0x10000000040000000000000000000000000000000000000000000000000000000000000000000000000000000000000000000000000000000000000000008000800300022b00000, 0x0, 0x8⟩ P) (h_s : P s) :
    P (updateAhead s i te) := by
  unfold updateAhead
  extract_lets -merge -underBinder +onlyGivenNames y0
  clear_value y0
  extract_lets -merge -underBinder +onlyGivenNames y1
  have z2 : P y1 := keep_State_put hk.le h_s
  clear_value y1
  exact keep_ite (keep_State_put hk.le z2) (keep_ite z2 (keep_ite (keep_State_put hk.le z2) (keep_ite (keep_State_post hk.le (keep_State_put hk.le (keep_State_put hk.le z2))) z2)))

theorem keep_leaveBehind {s} {i} {gs} (hk : Kept ⟨0x0, 0x0, 0x10⟩ P) (h_s : P s) :
    P (leaveBehind s i gs) := by
  unfold leaveBehind
  exact keep_State_setMo hk.le h_s

theorem keep_leaveSources {s} {i} (hk : Kept ⟨0x1020000000000002c00000040000000000000000000000000000000000000000000000000000000000000000000000000000000000000000000000000008000000000080100000a00300022b80000, 0x0, 0x18⟩ P) (h_s : P s) :
    P (leaveSources s i) := by
  unfold leaveSources
  exact keep_State_setMo hk.le ((keep_State_clearAll hk.le (keep_leaveSegmentMode hk.le h_s)))

theorem keep_setPlan {s} {i} {t0} {ph} (hk : Kept ⟨0x400000000000000000000000, 0x0, 0x10⟩ P) (h_s : P s) :
    P (setPlan s i t0 ph) := by
  unfold setPlan
  exact keep_State_put hk.le ((keep_State_setMo hk.le ((keep_leaveBehind hk.le h_s))))

theorem keep_requestStop {s} {i} {cause} {rate} {scurve} (hk : Kept ⟨0xe00000000000000000000000000000000000000000000000000000000000000000000000000000000000000000000000000000000000000000000000000000000000000000000000000, 0x0, 0x0⟩ P) (h_s : P s) :
    P (requestStop s i cause rate scurve) := by
  unfold requestStop
  exact keep_ite h_s (keep_State_put hk.le (keep_State_put hk.le (keep_State_put hk.le h_s)))

theorem keep_stopBreaks {s} {i} (hk : Kept ⟨0x20000000000000400000040000000000000000000000000000000000000000000000000000000000000000000000000000000000000000000000000008000000000080100000200300022b80000, 0x0, 0x18⟩ P) (h_s : P s) :
    P (stopBreaks s i) := by
  unfold stopBreaks
  extract_lets -merge -underBinder +onlyGivenNames y3
  clear_value y3
  extract_lets -merge -underBinder +onlyGivenNames y4
  have z5 : P y4 := keep_ite (keep_breakStream hk.le (keep_State_put hk.le (keep_State_setMo hk.le h_s))) h_s
  clear_value y4
  extract_lets -merge -underBinder +onlyGivenNames y9
  have z10 : P y9 := keep_ite (keep_State_put hk.le z5) z5
  clear_value y9
  exact keep_State_setMo hk.le ((keep_ite (keep_State_put hk.le ((keep_State_each hk.le z10 (fun x11 x12 z13 => keep_State_setBit hk.le z13)))) ((keep_State_each hk.le z10 (fun x11 x12 z13 => keep_State_setBit hk.le z13)))))

theorem keep_beginStop {s} {i} {cause} {rate} {scurve} {t0} {p} {v} {a0} (hk : Kept ⟨0x2000000010180040c000040000000000000000000000000000000000000000000000000000000000000000000000000000000000000000000000000008000000000c80100000200300022b80000, 0x300000000000000000000000000, 0x18⟩ P) (h_s : P s) :
    P (beginStop s i cause rate scurve t0 p v a0) := by
  unfold beginStop
  refine keep_ite ?_ ?_
  · exact h_s
  · extract_lets -merge -underBinder +onlyGivenNames y0
    have z1 : P y0 := keep_State_develop hk.le (keep_State_develop hk.le h_s)
    clear_value y0
    extract_lets -merge -underBinder +onlyGivenNames y2
    have z3 : P y2 := keep_State_put hk.le (keep_State_put hk.le z1)
    clear_value y2
    extract_lets -merge -underBinder +onlyGivenNames y4 y5
    clear_value y4 y5
    split
    · exact keep_State_put hk.le ((keep_State_puti hk.le (keep_State_puti hk.le (keep_setPlan hk.le ((keep_State_clearAll hk.le (keep_stopBreaks hk.le z3)))))))

theorem keep_clampTarget {s} {i} {target} (hk : Kept ⟨0x40000000000000000000000000000000000000000000000000000000000000000000000000000000000000000000000000000000000002000000000000300022b00000, 0x0, 0x8⟩ P) (h_s : P s) :
    P (clampTarget s i target).1 := by
  unfold clampTarget
  exact keep_ite1 (keep_mk h_s) (keep_ite1 (keep_mk (keep_State_post hk.le (keep_State_put hk.le h_s))) (keep_ite1 (keep_mk (keep_State_post hk.le (keep_State_put hk.le h_s))) (keep_mk h_s)))

theorem keep_publish {s} {i} {p} {v} (hk : Kept ⟨0x60000000000000000000000000000000000000000000000000000000000000000000000000000000000000000000000000000000000000000000003000000000000000000000, 0x0, 0x0⟩ P) (h_s : P s) :
    P (publish s i p v) := by
  unfold publish
  exact keep_State_puti hk.le (keep_State_puti hk.le ((keep_State_puti hk.le (keep_State_puti hk.le h_s))))

theorem keep_outputStage {s} {i} (hk : Kept ⟨0x40060000040000000000000000000000000000000000000000000000000000000000000000000000000000000000000000000000000000000000000003000100000300022b00000, 0x0, 0x8⟩ P) (h_s : P s) :
    P (outputStage s i) := by
  unfold outputStage
  exact keep_publish hk.le ((keep_ite (keep_State_put hk.le h_s) (keep_ite h_s (keep_State_post hk.le (keep_State_put hk.le (keep_State_put hk.le h_s))))))

theorem keep_developDecel {s} {i} (hk : Kept ⟨0x40000000000040000000000000000000000000000000000000000000000000000000000000000000000000000000000000000000000000000000000001000000000000300022b00000, 0x408000000000000000000000000000000000000000000000000000000000000000000000000000000000000000000000000000000000000000000000000000000000000000000000000000000, 0x8⟩ P) (h_s : P s) :
    P (developDecel s i) := by
  unfold developDecel
  extract_lets -merge -underBinder +onlyGivenNames y0 y1
  clear_value y0 y1
  refine keep_ite ?_ ?_
  · exact h_s
  · extract_lets -merge -underBinder +onlyGivenNames y2 y3
    clear_value y2 y3
    split
    · exact keep_ite (keep_ite ((keep_State_put hk.le h_s)) (keep_State_post hk.le (keep_State_put hk.le ((keep_State_put hk.le h_s))))) (keep_State_develop hk.le (keep_State_develop hk.le h_s))

theorem keep_developMotion {s} {i} (hk : Kept ⟨0x300000000000040000000000040000000000000000000000000000000000000000000000000000000000000000000000000000000000000000000000000000000000001000000000000300022b00000, 0x187bf00000000000000000000000000000000000000000000000000000000000000000000003fc0000000000000000000000fffffffffffffffffffffffffffffffc03ffffffe00000000000ff8, 0x8⟩ P) (h_s : P s) :
    P (developMotion s i) := by
  unfold developMotion
  extract_lets -merge -underBinder +onlyGivenNames y0
  clear_value y0
  extract_lets -merge -underBinder +onlyGivenNames y1
  have z2 : P y1 := keep_foldl_mem (fun s r hr h => hk.putDev s r i _ h (testBit_le (a := rbits motionFields) rfl
    (testBit_rbits (List.mem_of_mem_filter hr)))) h_s
  clear_value y1
  extract_lets -merge -underBinder +onlyGivenNames y3
  have z4 : P y3 := keep_State_developList hk.le z2
  clear_value y3
  exact keep_ite (keep_State_puti hk.le (keep_State_put hk.le ((keep_ite ((keep_developDecel hk.le z4)) (keep_State_developList hk.le ((keep_developDecel hk.le z4))))))) ((keep_ite ((keep_developDecel hk.le z4)) (keep_State_developList hk.le ((keep_developDecel hk.le z4)))))

theorem keep_planOnward {s} {i} {g} (hk : Kept ⟨0xc4100000000000000000000000000000000000000000000000000000000000000000000000000000000000000000000000000000000000000000000000400000000000000000000000, 0x408000000000000000000000000000000000000000000000000000000000000000000000000000000000000000000000000000000000000000000000000000000000000000000000000000000, 0x10⟩ P) (h_s : P s) :
    P (planOnward s i g) := by
  unfold planOnward
  exact keep_ite h_s (keep_ite (keep_setPlan hk.le ((keep_State_put hk.le (keep_State_develop hk.le (keep_State_develop hk.le ((keep_State_put hk.le (keep_State_put hk.le (keep_State_puti hk.le h_s))))))))) (keep_ite (keep_setPlan hk.le h_s) h_s))

theorem keep_planStep {s} {i} {te} (hk : Kept ⟨0xc000000000000000000000000000000000000000000000000000000000000000000000000000000000000000000000000000000000000000000400000000000000000000000, 0x0, 0x10⟩ P) (h_s : P s) :
    P (planStep s i te).1 := by
  unfold planStep
  split
  · exact keep_mk (keep_State_puti hk.le h_s)
  · extract_lets -merge -underBinder +onlyGivenNames y0 y1 y2 y3 y4
    clear_value y0 y1 y2 y3 y4
    split
    · exact keep_ite1 (keep_mk (keep_State_setMo hk.le ((keep_State_puti hk.le (keep_State_puti hk.le h_s))))) (keep_mk (keep_State_put hk.le (keep_State_setMo hk.le ((keep_State_puti hk.le (keep_State_puti hk.le h_s))))))

theorem keep_planEval {s} {i} {te} (hk : Kept ⟨0xc410000c000000000000000000000000000000000000000000000000000000000000000000000000000000000000000000000000000000000000000000400000000000000000000000, 0x408000000000000000000000000000000000000000000000000000000000000000000000000000000000000000000000000000000000000000000000000000000000000000000000000000000, 0x10⟩ P) (h_s : P s) :
    P (planEval s i te) := by
  unfold planEval
  split
  · rename_i y2 q0
    have z1 : P y2 := keep_fst (keep_planStep hk.le h_s) q0
    exact z1
  · rename_i y5 y6 q3
    have z4 : P y5 := keep_fst (keep_planStep hk.le h_s) q3
    exact keep_ite ((keep_planOnward hk.le z4)) (keep_planStep hk.le ((keep_planOnward hk.le z4)))

theorem keep_stretchSeg {s} {i} {te} {g} (hk : Kept ⟨0x40000000000000000000000000000000000000000000000000000000000000000000000000000000000000000000000000000000000000000202000000300022b00000, 0x0, 0x8⟩ P) (h_s : P s) :
    P (stretchSeg s i te g).1 := by
  unfold stretchSeg
  exact keep_ite1 (keep_mk (keep_State_post hk.le (keep_State_put hk.le (keep_State_count hk.le h_s)))) (keep_mk h_s)

theorem keep_openSeg (hk : Kept ⟨0x20000000040000000000000000000000000000000000000000000000000000000000000000000000000000000000000000000000000000000000000000202000600300022b80000, 0x1e000000000000000, 0x18⟩ P) {s i te g} (h_s : P s) : P (openSeg s i te g) := by
  unfold openSeg
  have h1 : P (stretchSeg (s.developList segmentFields i) i te g).1 := keep_stretchSeg hk.le (keep_State_developList hk.le h_s)
  split
  rename_i s1 g1 e
  rw [e] at h1
  extract_lets -merge -underBinder +onlyGivenNames m tol z w
  have hw : P w := keep_syncRd hk.le (keep_State_put hk.le (keep_State_put hk.le (keep_State_put hk.le
    (keep_State_setMo hk.le h1))))
  exact keep_ite (hk.same hw) hw

theorem keep_nextAccepted {s} {i} (hk : Kept ⟨0x40000000000000000000000000000000000000000000000000000000000000000000000000000000000000000000000000000000000000000000000000300022b80000, 0x0, 0x18⟩ P) (h_s : P s) :
    P (nextAccepted s i).1 := by
  unfold nextAccepted
  split
  · exact keep_mk h_s
  · exact keep_ite1 (keep_mk (keep_syncRd hk.le (keep_State_setMo hk.le h_s))) (keep_mk h_s)

theorem keep_arriveSync {s} {i} {g} {arrival} (hk : Kept ⟨0x3000000000000000000000000000000000000000000000000000000000000000000000000000000000000000000000000000000000000000000000080000000200000000000000, 0x40000000000000000, 0x10⟩ P) (h_s : P s) :
    P (arriveSync s i g arrival) := by
  unfold arriveSync
  exact keep_State_setBit hk.le ((keep_State_develop hk.le (keep_State_put hk.le (keep_State_put hk.le (keep_State_put hk.le ((keep_State_setMo hk.le h_s)))))))

theorem keep_gather {s} {n} (hk : Kept ⟨0x8000000000000000000000000000000000000000000000000000000000000000000000000000000000000000000000000000000000000000000000100000000000000000000000, 0x0, 0x0⟩ P) (h_s : P s) :
    P (gather s n) := by
  unfold gather
  exact keep_ite (keep_State_each hk.le h_s (fun x0 x1 z2 => keep_State_put hk.le (keep_State_setBit hk.le z2))) h_s

theorem keep_syncWait {s} {i} {te} (hk : Kept ⟨0x2e000000040000000000000000000000000000000000000000000000000000000000000000000000000000000000000000000000000000000000000180202400600300022b80000, 0x1e000000000000000, 0x18⟩ P) (h_s : P s) :
    P (syncWait s i te) := by
  unfold syncWait
  split
  · exact h_s
  · extract_lets -merge -underBinder +onlyGivenNames y0
    have z1 : P y0 := keep_gather hk.le h_s
    clear_value y0
    extract_lets -merge -underBinder +onlyGivenNames y2 y3
    clear_value y2 y3
    extract_lets -merge -underBinder +onlyGivenNames y4
    have z5 : P y4 := keep_State_put hk.le (keep_State_put hk.le z1)
    clear_value y4
    extract_lets -merge -underBinder +onlyGivenNames y6
    have z7 : P y6 := keep_ite (keep_ite (keep_State_post hk.le (keep_State_put hk.le z5)) z5) z1
    clear_value y6
    exact keep_ite (keep_openSeg hk.le ((keep_State_put hk.le (keep_State_setBit hk.le (keep_State_setBit hk.le z7))))) z7

theorem keep_startStream {s} {i} {te} (hk : Kept ⟨0x2f004000040000000000000000000000000000000000000000000000000000000000000000000000000000000000000000000000000000000000000180202400600300022b80000, 0x5e000000000000000, 0x18⟩ P) (h_s : P s) :
    P (startStream s i te) := by
  unfold startStream
  split
  · rename_i y2 q0
    have z1 : P y2 := keep_fst (keep_nextAccepted hk.le h_s) q0
    exact z1
  · rename_i y5 y6 q3
    have z4 : P y5 := keep_fst (keep_nextAccepted hk.le h_s) q3
    exact keep_ite (keep_syncWait hk.le (keep_arriveSync hk.le (keep_State_puti hk.le z4))) (keep_openSeg hk.le z4)

theorem keep_runDry {s} {i} {g} (hk : Kept ⟨0x2000000010180040c000040000000000000000000000000000000000000000000000000000000000000000000000000000000000000000000000000008000000000c80100200200300022b80000, 0x300000000000000000000000000, 0x18⟩ P) (h_s : P s) :
    P (runDry s i g) := by
  unfold runDry
  exact keep_ite (keep_State_post hk.le (keep_State_put hk.le ((keep_State_setMo hk.le h_s)))) (keep_ite (keep_State_post hk.le (keep_State_put hk.le ((keep_State_setMo hk.le h_s)))) (keep_State_post hk.le (keep_State_put hk.le ((keep_beginStop hk.le ((keep_State_setMo hk.le h_s)))))))

theorem keep_segBoundary {s} {i} {te} {g} (hk : Kept ⟨0x2000000010182340c000040000000000000000000000000000000000000000000000000000000000000000000000000000000000000000000000000008000000000c80342200600300022b80000, 0x30000000005e000000000000000, 0x18⟩ P) (h_s : P s) :
    P (segBoundary s i te g) := by
  unfold segBoundary
  extract_lets -merge -underBinder +onlyGivenNames y0
  have z1 : P y0 := keep_State_puti hk.le (keep_State_puti hk.le (keep_State_countWrap hk.le (keep_leaveBehind hk.le h_s)))
  clear_value y0
  split
  · rename_i y4 q2
    have z3 : P y4 := keep_fst (keep_nextAccepted hk.le z1) q2
    exact keep_runDry hk.le z3
  · rename_i y7 y8 q5
    have z6 : P y7 := keep_fst (keep_nextAccepted hk.le z1) q5
    exact keep_ite (keep_arriveSync hk.le z6) (keep_openSeg hk.le z6)

theorem keep_streamUpdate {s} {i} {te} (hk : Kept ⟨0x200000001c592f40c000040000000000000000000000000000000000000000000000000000000000000000000000000000000000000000000000000008000000000d80343600600300022b80000, 0x40800000000000000000000000000000000000000000000000000000000000000000000000000000000000000000000000000000000000000000000000000030000000005e000000000000000, 0x18⟩ P) (h_s : P s) :
    P (streamUpdate s i te) := by
  unfold streamUpdate
  extract_lets -merge -underBinder +onlyGivenNames y0
  have z1 : P y0 := by
    unfold y0
    split
    · exact keep_ite (keep_segBoundary hk.le h_s) h_s
    · exact keep_syncWait hk.le h_s
    · exact keep_startStream hk.le h_s
    · exact keep_startStream hk.le h_s
    · exact keep_startStream hk.le h_s
    · exact h_s
  clear_value y0
  split
  · split
    · exact keep_ite (keep_ite ((keep_State_put hk.le ((keep_State_puti hk.le (keep_State_puti hk.le z1))))) (keep_State_post hk.le (keep_State_put hk.le ((keep_State_put hk.le ((keep_State_puti hk.le (keep_State_puti hk.le z1)))))))) ((keep_State_puti hk.le (keep_State_puti hk.le z1)))
  · exact keep_planEval hk.le z1
  · exact keep_State_puti hk.le z1

theorem keep_pushChain {s} {i} {t} {g} (hk : Kept ⟨0x800000000000000000000000000000000000000000000000000000000000000000000000000000000000000000000000000000000000000000000000000000000000000000000000000000000000, 0x0, 0x10⟩ P) (h_s : P s) :
    P (pushChain s i t g) := by
  unfold pushChain
  exact keep_State_puti hk.le (keep_State_setMo hk.le h_s)

theorem keep_boundEnd {s} {i} {g} (hk : Kept ⟨0x20000000000000000000000000, 0x0, 0x0⟩ P) (h_s : P s) :
    P (boundEnd s i g).1 := by
  unfold boundEnd
  extract_lets -merge -underBinder +onlyGivenNames y0 y1
  clear_value y0 y1
  split
  · exact keep_mk (keep_ite h_s (keep_State_put hk.le h_s))

theorem keep_chainLinear {s} {i} {t} {start} {p0} {span} {target} (hk : Kept ⟨0x800000000000000000000000000000000000000000000000000000000000000000000000000000000000000000000000000000000000000000000000000000000020000000000000000000000000, 0x0, 0x10⟩ P) (h_s : P s) :
    P (chainLinear s i t start p0 span target) := by
  unfold chainLinear
  exact keep_pushChain hk.le ((keep_boundEnd hk.le h_s))

theorem keep_chainCubic {s} {i} {t} {nextTarget} (hk : Kept ⟨0x800000000000000000000000000000000000000000000000000000000000000000000000000000000000000000000000000000000000000000000000000000000020000000000000000000000000, 0x0, 0x10⟩ P) (h_s : P s) :
    P (chainCubic s i t nextTarget) := by
  unfold chainCubic
  split
  · exact h_s
  · exact keep_pushChain hk.le ((keep_boundEnd hk.le h_s))

theorem keep_chainOpen {s} {i} {t} {target} {cubic} (hk : Kept ⟨0xfe0000000000000000000000000000000000000000000000000000000000000000000000000000000000000000000000000000000000000000000000000000001020000000000000000000000000, 0x0, 0x10⟩ P) (h_s : P s) :
    P (chainOpen s i t target cubic) := by
  unfold chainOpen
  refine keep_ite ?_ ?_
  · exact keep_State_count hk.le h_s
  · extract_lets -merge -underBinder +onlyGivenNames y0
    have z1 : P y0 := keep_State_put hk.le (keep_State_put hk.le (keep_State_put hk.le h_s))
    clear_value y0
    extract_lets -merge -underBinder +onlyGivenNames y2
    have z3 : P y2 := keep_State_put hk.le (keep_State_puti hk.le (keep_State_puti hk.le z1))
    clear_value y2
    extract_lets -merge -underBinder +onlyGivenNames y4
    clear_value y4
    split
    · exact keep_chainLinear hk.le z3
    · exact keep_chainLinear hk.le z3

theorem keep_chainTarget {s} {i} {t} {raw} (hk : Kept ⟨0xfe0000000000000000000040000000000000000000000000000000000000000000000000000000000000000000000000000000000000000000000000000000001022000000000000300022b00000, 0x0, 0x18⟩ P) (h_s : P s) :
    P (chainTarget s i t raw) := by
  unfold chainTarget
  extract_lets -merge -underBinder +onlyGivenNames y0
  clear_value y0
  split
  · rename_i y3 y4 q1
    have z2 : P y3 := keep_fst (keep_clampTarget hk.le h_s) q1
    extract_lets -merge -underBinder +onlyGivenNames y5
    clear_value y5
    refine keep_ite ?_ ?_
    · exact keep_ite (keep_State_count hk.le z2) z2
    · refine keep_ite ?_ ?_
      · exact keep_chainOpen hk.le z2
      · extract_lets -merge -underBinder +onlyGivenNames y6
        have z7 : P y6 := keep_State_put hk.le z2
        clear_value y6
        extract_lets -merge -underBinder +onlyGivenNames y8
        have z9 : P y8 := by
          unfold y8
          refine keep_ite ?_ ?_
          · exact keep_ite (keep_chainCubic hk.le z7) z7
          · split
            · exact keep_chainLinear hk.le z7
            · exact z7
        clear_value y8
        exact keep_State_put hk.le (keep_State_puti hk.le (keep_State_puti hk.le z9))

theorem keep_chainVelocity {s} {i} {t} {raw} (hk : Kept ⟨0xe20000000000000000000000000000000000000000000000000000000000000000000000000000000000000000000000000000000000000000000000000000000040000000000000000000000000, 0x0, 0x10⟩ P) (h_s : P s) :
    P (chainVelocity s i t raw) := by
  unfold chainVelocity
  refine keep_ite ?_ ?_
  · exact h_s
  · extract_lets -merge -underBinder +onlyGivenNames y0 y1 y2 y3
    clear_value y0 y1 y2 y3
    split
    · exact keep_pushChain hk.le ((keep_State_put hk.le (keep_State_put hk.le (keep_State_put hk.le ((keep_ite (keep_State_put hk.le ((keep_ite h_s (keep_State_put hk.le h_s)))) ((keep_ite h_s (keep_State_put hk.le h_s)))))))))

theorem keep_chainStop {s} {i} {te} {h} (hk : Kept ⟨0x200000001c590040c000040000000000000000000000000000000000000000000000000000000000000000000000000000000000000000000000000008000000000c80100000200300022b80000, 0x408000000000000000000000000000000000000000000000000000000000000000000000000000000000000000000000000000000000000000000000000000300000000000000000000000000, 0x18⟩ P) (h_s : P s) :
    P (chainStop s i te h) := by
  unfold chainStop
  exact keep_planEval hk.le (keep_beginStop hk.le ((keep_State_puti hk.le (keep_State_puti hk.le h_s))))

theorem keep_chainRunsOut {s} {i} {te} {h} (hk : Kept ⟨0x16200000001c590040c000040000000000000000000000000000000000000000000000000000000000000000000000000000000000000000000000000008000001000c80100000200300022b80000, 0x408000000000000000000000000000000000000000000000000000000000000000000000000000000000000000000000000000000000000000000000000000300000000000000000000000000, 0x18⟩ P) (h_s : P s) :
    P (chainRunsOut s i te h) := by
  unfold chainRunsOut
  extract_lets -merge -underBinder +onlyGivenNames y0
  have z1 : ∀ x2, P x2 → P (y0 x2) := by
    intro x2 z3
    exact keep_State_puti hk.le (keep_State_puti hk.le ((keep_State_setMo hk.le z3)))
  clear_value y0
  exact keep_ite (keep_ite (keep_State_puti hk.le (keep_State_puti hk.le ((keep_State_put hk.le (keep_State_put hk.le (keep_State_setMo hk.le h_s)))))) (keep_chainStop hk.le ((keep_State_put hk.le (keep_State_put hk.le (keep_State_setMo hk.le h_s)))))) (keep_ite (z1 _ (keep_State_put hk.le h_s)) (keep_ite (z1 _ (keep_State_put hk.le (keep_State_count hk.le h_s))) (keep_State_post hk.le (keep_State_put hk.le (keep_chainStop hk.le h_s)))))

theorem keep_chainUpdate {s} {i} {te} (hk : Kept ⟨0x16200000001c590040c000040000000000000000000000000000000000000000000000000000000000000000000000000000000000000000000000000008000001000c80100000200300022b80000, 0x408000000000000000000000000000000000000000000000000000000000000000000000000000000000000000000000000000000000000000000000000000300000000000000000000000000, 0x18⟩ P) (h_s : P s) :
    P (chainUpdate s i te) := by
  unfold chainUpdate
  split
  · exact keep_State_puti hk.le h_s
  · exact keep_ite (keep_State_puti hk.le (keep_State_puti hk.le h_s)) (keep_ite (keep_State_puti hk.le (keep_State_puti hk.le ((keep_State_setMo hk.le ((keep_leaveBehind hk.le h_s)))))) (keep_chainRunsOut hk.le ((keep_State_setMo hk.le ((keep_leaveBehind hk.le h_s))))))

theorem keep_followReference {s} {i} (hk : Kept ⟨0x300000000000000000000000000000000000000000000000000000000000000000000000000000000000000000000000000000000000000000000000000000000000000000000000000000000000000, 0x0, 0x10⟩ P) (h_s : P s) :
    P (followReference s i) := by
  unfold followReference
  exact keep_State_setMo hk.le ((keep_State_puti hk.le (keep_State_put hk.le h_s)))

theorem keep_enterFollow {s} {i} (hk : Kept ⟨0x300000000000000000000000000000000000000000000000000000000000000000000000000000000000000000000000000000000000000000000000000008000000000000000000000000000000000, 0x0, 0x10⟩ P) (h_s : P s) :
    P (enterFollow s i) := by
  unfold enterFollow
  exact keep_State_put hk.le (keep_followReference hk.le h_s)

theorem keep_followUpdate {s} {i} {te} (hk : Kept ⟨0x4000000000000000000000000000000000000000000000000000000000000002000000010180040c000040000000000000000000000000000000000000000000000000000000000000000000000000000000000000000000000000008000000080c80100000200300022b80000, 0x300000000000000000000000000, 0x18⟩ P) (h_s : P s) :
    P (followUpdate s i te) := by
  unfold followUpdate
  extract_lets -merge -underBinder +onlyGivenNames y0 y1 y2 y3 y4
  clear_value y0 y1 y2 y3 y4
  extract_lets -merge -underBinder +onlyGivenNames y5
  have z6 : P y5 := keep_State_setMo hk.le h_s
  clear_value y5
  exact keep_ite (keep_State_post hk.le (keep_State_put hk.le (keep_State_put hk.le ((keep_beginStop hk.le ((keep_State_puti hk.le ((keep_State_puti hk.le (keep_State_puti hk.le z6)))))))))) ((keep_State_puti hk.le ((keep_State_puti hk.le (keep_State_puti hk.le z6)))))

theorem keep_planToTarget {s} {i} {te} {a0} {again} (hk : Kept ⟨0x400000000000000000000000, 0x0, 0x10⟩ P) (h_s : P s) :
    P (planToTarget s i te a0 again) := by
  unfold planToTarget
  exact keep_setPlan hk.le h_s

theorem keep_planVelocity {s} {i} {te} {a0} (hk : Kept ⟨0x1000000000000000000000000000000000000000000000000000000000000000000000000000000000000000000000000000000000000000000000000400000000000000000000000, 0x0, 0x10⟩ P) (h_s : P s) :
    P (planVelocity s i te a0) := by
  unfold planVelocity
  exact keep_setPlan hk.le (keep_State_put hk.le h_s)

theorem keep_watchLimit {s} {i} {te} (hk : Kept ⟨0x1000000000040000000000000000000000000000000000000000000000000000000000000000000000000000000000000000000000000000000000000400000100000300022b00000, 0x0, 0x18⟩ P) (h_s : P s) :
    P (watchLimit s i te) := by
  unfold watchLimit
  extract_lets -merge -underBinder +onlyGivenNames y0 y1 y2 y3
  split
  extract_lets -merge -underBinder +onlyGivenNames y4
  have z5 : P y4 := by
    unfold y4
    split
    · exact keep_ite (keep_State_put hk.le (keep_setPlan hk.le h_s)) h_s
    · exact h_s
  exact keep_ite (keep_State_post hk.le (keep_State_put hk.le (keep_State_put hk.le z5))) z5

theorem keep_planDone {s} {i} {te} (hk : Kept ⟨0x1c6100000000000000000000000000000000000000000000000000000000000000000000000000000000000000000000000000000000000008000000000400000000200000000000000, 0x408000000000000000000000000000000000000000000000000000000000000000000000000000000000000000000000000000000000000000000000000000000000000000000000000000000, 0x10⟩ P) (h_s : P s) :
    P (planDone s i te) := by
  unfold planDone
  refine keep_ite ?_ ?_
  · exact h_s
  · refine keep_ite ?_ ?_
    · extract_lets -merge -underBinder +onlyGivenNames y0
      have z1 : P y0 := keep_ite (keep_State_put hk.le h_s) h_s
      clear_value y0
      exact keep_State_put hk.le (keep_State_put hk.le ((keep_ite (keep_State_put hk.le ((keep_ite (keep_State_put hk.le z1) z1))) ((keep_ite (keep_State_put hk.le z1) z1)))))
    · refine keep_ite ?_ ?_
      · exact keep_ite (keep_State_put hk.le h_s) h_s
      · refine keep_ite ?_ ?_
        · extract_lets -merge -underBinder +onlyGivenNames y2
          have z3 : P y2 := keep_ite (keep_State_put hk.le h_s) h_s
          clear_value y2
          exact keep_ite (keep_planToTarget hk.le ((keep_State_put hk.le (keep_State_put hk.le (keep_State_puti hk.le ((keep_State_put hk.le ((keep_State_develop hk.le (keep_State_develop hk.le z3)))))))))) ((keep_State_put hk.le ((keep_State_develop hk.le (keep_State_develop hk.le z3)))))
        · exact keep_ite (keep_setPlan hk.le h_s) (keep_ite (keep_State_put hk.le h_s) h_s)

theorem keep_homingReplan {s} {i} {te} {changed} (hk : Kept ⟨0x4000000000000000000000000000000000000000000000000000000000000000000000000000000000000000000000000000000000000000000000000000000000000000400000000000000000000000, 0x0, 0x10⟩ P) (h_s : P s) :
    P (homingReplan s i te changed) := by
  unfold homingReplan
  exact keep_ite (keep_setPlan hk.le ((keep_State_put hk.le h_s))) (keep_ite (keep_setPlan hk.le ((keep_State_put hk.le h_s))) (keep_ite (keep_setPlan hk.le ((keep_State_put hk.le h_s))) (keep_ite (keep_setPlan hk.le ((keep_State_put hk.le h_s))) ((keep_State_put hk.le h_s)))))

theorem keep_takeOver {s} {i} {te} {a0} (hk : Kept ⟨0x1c00000000000000000000000000000000000000000000000000000000000000000000000000000000000000000000000000000000000000000000000400000000000000000000000, 0x0, 0x10⟩ P) (h_s : P s) :
    P (takeOver s i te a0) := by
  unfold takeOver
  exact keep_ite (keep_setPlan hk.le ((keep_State_put hk.le h_s))) (keep_ite (keep_planVelocity hk.le (keep_State_put hk.le ((keep_State_put hk.le h_s)))) (keep_State_put hk.le (keep_State_setMo hk.le ((keep_State_put hk.le h_s)))))

theorem keep_replan {s} {i} {te} {before} {a0} (hk : Kept ⟨0x4000000000000043c00000000040000000000000000000000000000000000000000000000000000000000000000000000000000000000000000000000000000000000000400000100000300022b00000, 0x408000000000000000000000000000000000000000000000000000000000000000000000000000000000000000000000000000000000000000000000000000000000000000000000000000000, 0x18⟩ P) (h_s : P s) :
    P (replan s i te before a0) := by
  unfold replan
  refine keep_ite ?_ ?_
  · exact h_s
  · extract_lets -merge -underBinder +onlyGivenNames y0
    clear_value y0
    extract_lets -merge -underBinder +onlyGivenNames y1
    have z2 : P y1 := keep_State_put hk.le h_s
    clear_value y1
    exact keep_ite (keep_takeOver hk.le z2) (keep_ite (keep_ite (keep_planToTarget hk.le (keep_State_put hk.le ((keep_State_develop hk.le (keep_State_develop hk.le (keep_State_put hk.le ((keep_State_put hk.le z2)))))))) (keep_ite (keep_planToTarget hk.le ((keep_State_put hk.le z2))) ((keep_State_put hk.le z2)))) (keep_ite (keep_ite z2 (keep_watchLimit hk.le ((keep_ite (keep_planVelocity hk.le (keep_State_put hk.le z2)) z2)))) (keep_ite (keep_homingReplan hk.le z2) z2)))

theorem keep_latchTol {s} {i} {t} {actual} (hk : Kept ⟨0x0, 0x0, 0x10⟩ P) (h_s : P s) :
    P (latchTol s i t actual) := by
  unfold latchTol
  exact keep_State_setMo hk.le h_s

theorem keep_judgeLatch {s} {i} {te} {endPos} {a} (hk : Kept ⟨0x2000000010180040c000040000000000000000000000000000000000000000000000000000000000000000000000000000000000000000000000000008000000000c80100800200300022b80000, 0x300000000000000000000000000, 0x18⟩ P) (h_s : P s) :
    P (judgeLatch s i te endPos a) := by
  unfold judgeLatch
  exact keep_ite (keep_ite (keep_beginStop hk.le ((keep_State_post hk.le (keep_State_put hk.le h_s)))) ((keep_State_post hk.le (keep_State_put hk.le h_s)))) h_s

theorem keep_judgeTol {s} {i} {te} (hk : Kept ⟨0x2000000010180040c000040000000000000000000000000000000000000000000000000000000000000000000000000000000000000000000000000008000000000c80100800200300022b80000, 0x300000000000000000000000000, 0x18⟩ P) (h_s : P s) :
    P (judgeTol s i te) := by
  unfold judgeTol
  exact keep_foldl (fun x0 x1 z2 => keep_judgeLatch hk.le z2) ((keep_State_setMo hk.le h_s))

theorem keep_encoderTol {s} {i} {te} (hk : Kept ⟨0x2000000010180040c000040000000000000000000000000000000000000000000000000000000000000000000000000000000000000000000000000008000000000c80100800200300022b80000, 0x300000000000000000000000000, 0x18⟩ P) (h_s : P s) :
    P (encoderTol s i te) := by
  unfold encoderTol
  exact keep_ite (keep_judgeTol hk.le (keep_latchTol hk.le h_s)) h_s

theorem keep_timeWindow {s} {i} {inside} (hk : Kept ⟨0xc000000000000000000000000000000000000000000000000000000000000000000000000000000000000000000000000000000000000000000000000000000000000000000000000000, 0x0, 0x0⟩ P) (h_s : P s) :
    P (timeWindow s i inside) := by
  unfold timeWindow
  exact keep_ite (keep_State_put hk.le h_s) (keep_ite h_s (keep_State_put hk.le (keep_State_put hk.le h_s)))

theorem keep_judgeReached {s} {i} (hk : Kept ⟨0x1c000000000000000000000000000000000000000000000000000000000000000000000000000000000000000000000000000000000000000000000000000000000000000000000000000, 0x0, 0x0⟩ P) (h_s : P s) :
    P (judgeReached s i) := by
  unfold judgeReached
  exact keep_ite (keep_State_put hk.le ((keep_timeWindow hk.le h_s))) (keep_ite (keep_State_put hk.le ((keep_timeWindow hk.le h_s))) h_s)

theorem keep_takeStop {s} {i} {te} {a0} (hk : Kept ⟨0x20000000f0180040c000040000000000000000000000000000000000000000000000000000000000000000000000000000000000000000000000000008000000000c80100000200300022b80000, 0x300000000000000000000000000, 0x18⟩ P) (h_s : P s) :
    P (takeStop s i te a0) := by
  unfold takeStop
  exact keep_ite h_s (keep_beginStop hk.le ((keep_State_put hk.le (keep_State_put hk.le (keep_State_put hk.le h_s)))))

theorem keep_curveAt {s} {i} {te} (hk : Kept ⟨0x400000000000000000000000000000000000000000000000000000000000016200000001c592f40c000040000000000000000000000000000000000000000000000000000000000000000000000000000000000000000000000000008000001080d80343600600300022b80000, 0x40800000000000000000000000000000000000000000000000000000000000000000000000000000000000000000000000000000000000000000000000000030000000005e000000000000000, 0x18⟩ P) (h_s : P s) :
    P (curveAt s i te) := by
  unfold curveAt
  exact keep_ite (keep_planEval hk.le h_s) (keep_ite (keep_streamUpdate hk.le h_s) (keep_ite (keep_chainUpdate hk.le h_s) (keep_ite (keep_followUpdate hk.le h_s) (keep_State_puti hk.le h_s))))

theorem keep_haltFirst {s} {i} {te} (hk : Kept ⟨0x20000000f0180040c000040000000000000000000000000000000000000000000000000000000000000000000000000000000000000000000000000008000000000c80100000200300022b80000, 0x300000000000000000000000000, 0x18⟩ P) (h_s : P s) :
    P (haltFirst s i te) := by
  unfold haltFirst
  refine keep_ite ?_ ?_
  · exact h_s
  · extract_lets -merge -underBinder +onlyGivenNames y0
    have z1 : ∀ x2 x3 x4 x5, P (y0 x2 x3 x4 x5) := by
      intro x2 x3 x4 x5
      exact keep_beginStop hk.le ((keep_State_clearAll hk.le h_s))
    clear_value y0
    split
    · exact keep_ite (z1 _ _ _ _) h_s
    · exact keep_ite h_s (keep_ite (z1 _ _ _ _) (keep_ite (z1 _ _ _ _) (z1 _ _ _ _)))
    · exact keep_ite (z1 _ _ _ _) h_s
    · exact h_s

theorem keep_judgeStill {s} {i} {vBefore} (hk : Kept ⟨0x80000000000000000000000000000000000000000000000000000000000000000000000000000000000000000000000000000000000000000000000000000000000000000000000, 0x0, 0x0⟩ P) (h_s : P s) :
    P (judgeStill s i vBefore) := by
  unfold judgeStill
  exact keep_State_put hk.le h_s

theorem keep_motionUpdate {s} {i} {te} (hk : Kept ⟨0x4000000000000000000000000000000000000000000000000000000000430162000001cfc7dff47c000040000000000000000000000000000000000000000000000000000000000000000000000000000000000000000000000000008000001081d8334bf00e00300022b80000, 0x187bf00000000000000000000000000000000000000000000000000000000000000000000003fc0000000000000000000000fffffffffffffffffffffffffffffffc03ffffffe00000000000ff8, 0x18⟩ P) (h_s : P s) :
    P (motionUpdate s i te) := by
  unfold motionUpdate
  extract_lets -merge -underBinder +onlyGivenNames y0 y1
  clear_value y0 y1
  extract_lets -merge -underBinder +onlyGivenNames y2
  have z3 : P y2 := keep_developMotion hk.le h_s
  clear_value y2
  exact keep_State_put hk.le (keep_judgeStill hk.le ((keep_updateAhead hk.le ((keep_judgeReached hk.le ((keep_outputStage hk.le ((keep_encoderTol hk.le ((keep_planDone hk.le ((keep_replan hk.le ((keep_takeStop hk.le ((keep_curveAt hk.le ((keep_haltFirst hk.le z3)))))))))))))))))))

theorem keep_homingPhase {s} {i} {st} {positive} {req} (hk : Kept ⟨0x401c000000000000000000000000000000000000000000000000000000000000000000000000000000000000000000000000000000000000000000000000000002200000000000000000000000000000, 0x0, 0x0⟩ P) (h_s : P s) :
    P (homingPhase s i st positive req) := by
  unfold homingPhase
  exact keep_State_put hk.le (keep_State_put hk.le (keep_State_put hk.le ((keep_State_puti hk.le (keep_State_put hk.le (keep_State_put hk.le h_s))))))

theorem keep_homingSettle {s} {i} (hk : Kept ⟨0x8000000000000000000000000000000000000000000000000000000000000000000000000000000000000000000000000000000000000000000000000000000200000000000000000000000000000, 0x0, 0x0⟩ P) (h_s : P s) :
    P (homingSettle s i) := by
  unfold homingSettle
  exact keep_State_puti hk.le (keep_State_put hk.le h_s)

theorem keep_homingFail {s} {i} {code} (hk : Kept ⟨0x4080000000000e00000000000040000000000000000000000000000000000000000000000000000000000000000000000000000000000000000000000000000000e00000000000000000300022b00000, 0x0, 0x8⟩ P) (h_s : P s) :
    P (homingFail s i code) := by
  unfold homingFail
  extract_lets -merge -underBinder +onlyGivenNames y0
  have z1 : P y0 := keep_State_put hk.le (keep_State_put hk.le h_s)
  clear_value y0
  extract_lets -merge -underBinder +onlyGivenNames y2
  have z3 : P y2 := keep_State_put hk.le (keep_State_put hk.le z1)
  clear_value y2
  exact keep_ite (keep_requestStop hk.le ((keep_State_put hk.le ((keep_State_post hk.le z3))))) (keep_ite (keep_requestStop hk.le ((keep_State_put hk.le ((keep_State_post hk.le z3))))) ((keep_State_put hk.le ((keep_State_post hk.le z3)))))

theorem keep_shiftCoordinate {s} {i} {d} (hk : Kept ⟨0x2080c00000000081001a4000000000000000000000000000000000000000000000000000000800000000000000000000000000000040000000000000000000000000000001000000000000000000000, 0x0, 0x10⟩ P) (h_s : P s) :
    P (shiftCoordinate s i d) := by
  unfold shiftCoordinate
  exact keep_State_setMo hk.le ((keep_State_puti hk.le ((keep_State_puti hk.le (keep_State_puti hk.le ((keep_foldl_mem (fun s r hr h => hk.put s r i _ h (testBit_le
    (a := rbits [.EV_P, .OUT_P, .TGT_P, .SP_P, .HM_START, .TAIL_P, .CH_TARGET, .CH_PREV, .SF_PREF]) rfl (testBit_rbits hr))) ((keep_State_puti hk.le h_s)))))))))

theorem keep_homingReference {s} {i} {latched} (hk : Kept ⟨0x2280c00000000081001a4000000000000000000000000000000000000000000000000000000800000000000000000000000000000040000000000000000000008000000001000000000000000000000, 0x0, 0x10⟩ P) (h_s : P s) :
    P (homingReference s i latched) := by
  unfold homingReference
  exact keep_State_puti hk.le ((keep_shiftCoordinate hk.le ((keep_State_puti hk.le h_s))))

theorem keep_homingAttained {s} {i} (hk : Kept ⟨0x40000000000000300000000040000000000000000000000000000000000000000000000000000000000000000000000000000000000000000000000000000000a00000000000000000300022b00000, 0x0, 0x8⟩ P) (h_s : P s) :
    P (homingAttained s i) := by
  unfold homingAttained
  exact keep_State_post hk.le ((keep_State_puti hk.le (keep_State_put hk.le ((keep_State_put hk.le (keep_State_put hk.le (keep_State_put hk.le h_s)))))))

theorem keep_homingStart {s} {i} (hk : Kept ⟨0x42fe0c0000000e083001a400004000000000000000000000000000000000000000000000000080000000000000000000000000000004000000000000000000000ae00000001000000000300022b00000, 0x1f5000000000000000000000000000000, 0x18⟩ P) (h_s : P s) :
    P (homingStart s i) := by
  unfold homingStart
  refine keep_ite ?_ ?_
  · exact h_s
  · extract_lets -merge -underBinder +onlyGivenNames y0
    clear_value y0
    extract_lets -merge -underBinder +onlyGivenNames y1
    have z2 : P y1 := keep_State_puti hk.le (keep_State_put hk.le (keep_State_developList hk.le h_s))
    clear_value y1
    extract_lets -merge -underBinder +onlyGivenNames y3
    have z4 : P y3 := keep_State_put hk.le (keep_State_put hk.le z2)
    clear_value y3
    exact keep_ite (keep_homingFail hk.le z4) (keep_ite (keep_homingAttained hk.le (keep_homingReference hk.le z4)) (keep_ite (keep_homingPhase hk.le z4) (keep_ite (keep_State_put hk.le (keep_homingPhase hk.le z4)) (keep_ite (keep_homingPhase hk.le z4) (keep_homingPhase hk.le z4)))))

theorem keep_homingEdge {s} {i} {sw} {active} {t} {encoderAt} (hk : Kept ⟨0x423c0c00000000081001a400000000000000000000000000000000000000000000000000000080000000000000000000000000000004000000000000000000000a200000001000000000000000000000, 0x0, 0x10⟩ P) (h_s : P s) :
    P (homingEdge s i sw active t encoderAt) := by
  unfold homingEdge
  exact keep_ite h_s (keep_ite (keep_State_put hk.le (keep_State_put hk.le h_s)) (keep_ite (keep_ite (keep_homingPhase hk.le ((keep_State_put hk.le h_s))) (keep_State_put hk.le (keep_homingSettle hk.le (keep_homingReference hk.le ((keep_State_put hk.le h_s)))))) (keep_ite (keep_State_count hk.le h_s) h_s)))

theorem keep_homingIndex {s} {i} {isIndex} {encoderAt} (hk : Kept ⟨0x42380c00000000081001a400000000000000000000000000000000000000000000000000000080000000000000000000000000000004000000000000000000000a200000001000000000000000000000, 0x0, 0x10⟩ P) (h_s : P s) :
    P (homingIndex s i isIndex encoderAt) := by
  unfold homingIndex
  exact keep_ite (keep_ite (keep_State_put hk.le (keep_homingSettle hk.le (keep_homingReference hk.le (keep_State_put hk.le h_s)))) h_s) (keep_ite (keep_State_count hk.le h_s) h_s)

theorem keep_homingStall {s} {i} (hk : Kept ⟨0x42f80c00000000081001ec000000000000000000000000000000000000000000000000000000800000000000000000000000000000040000000000000000000008200000403000000000000000000000, 0x0, 0x10⟩ P) (h_s : P s) :
    P (homingStall s i) := by
  unfold homingStall
  extract_lets -merge -underBinder +onlyGivenNames y0 y1
  clear_value y0 y1
  extract_lets -merge -underBinder +onlyGivenNames y2
  have z3 : P y2 := keep_State_setMo hk.le h_s
  clear_value y2
  extract_lets -merge -underBinder +onlyGivenNames y4
  clear_value y4
  extract_lets -merge -underBinder +onlyGivenNames y5
  have z6 : P y5 := keep_State_puti hk.le (keep_State_puti hk.le z3)
  clear_value y5
  extract_lets -merge -underBinder +onlyGivenNames y7
  have z8 : P y7 := keep_State_put hk.le (keep_publish hk.le z6)
  clear_value y7
  exact keep_ite ((keep_State_put hk.le (keep_State_put hk.le (keep_homingSettle hk.le ((keep_homingReference hk.le z8)))))) (keep_State_put hk.le (keep_State_put hk.le ((keep_State_put hk.le (keep_State_put hk.le (keep_homingSettle hk.le ((keep_homingReference hk.le z8))))))))

theorem keep_homingStill {s} {i} (hk : Kept ⟨0x405c000000000000300000000040000000000000000000000000000000000000000000000000000000000000000000000000000000000000000000000000000002a00000000000000000300022b00000, 0x0, 0x8⟩ P) (h_s : P s) :
    P (homingStill s i) := by
  unfold homingStill
  exact keep_ite h_s (keep_ite (keep_homingPhase hk.le h_s) (keep_ite (keep_ite (keep_State_put hk.le (keep_State_put hk.le h_s)) (keep_homingAttained hk.le h_s)) (keep_ite (keep_State_put hk.le h_s) h_s)))

theorem keep_homingAbort {s} {i} (hk : Kept ⟨0x4080000000000e00000000000040000000000000000000000000000000000000000000000000000000000000000000000000000000000000000000000000000000e00000000000000000300022b00000, 0x0, 0x8⟩ P) (h_s : P s) :
    P (homingAbort s i) := by
  unfold homingAbort
  exact keep_ite (keep_homingFail hk.le h_s) h_s

theorem keep_unhome {s} {i} (hk : Kept ⟨0x800000000000000000000000000000, 0x0, 0x0⟩ P) (h_s : P s) :
    P (unhome s i) := by
  unfold unhome
  exact keep_ite h_s (keep_State_put hk.le h_s)

end Sys2Proof.Laws
end

