-- ==== Sys2Proof/Laws/KeepCurrent.lean ====
section
/-! SUPPORT. Every definition of current regulation, observer, reports and mailbox keeps a property that the primitive updates keep (Kept). -/

set_option Elab.async false

namespace Sys2Proof.Laws

open Machine

variable {P : State → Prop}

theorem keep_refreshAct {s} {c} (hk : Kept ⟨0x800000000000000000000000000000000000000000000000000000000000000000000000000000000000, 0x0, 0x0⟩ P) (h_s : P s) :
    P (refreshAct s c) := by
  unfold refreshAct
  exact keep_ite h_s (keep_State_puti hk.le h_s)

theorem keep_unalign {s} {c} (hk : Kept ⟨0x2000000000000000000000000000000000000000000000000000000000000000000000000000000000000, 0x0, 0x0⟩ P) (h_s : P s) :
    P (unalign s c) := by
  unfold unalign
  exact keep_State_setBit hk.le h_s

theorem keep_ratioDevelop {s} {c} (hk : Kept ⟨0x2800000000000000000000000000000000000000000000000000000000000000000000000000000000000, 0x100000000000000000000000000000000000000000000000000000000000000000000000000000000000, 0x0⟩ P) (h_s : P s) :
    P (ratioDevelop s c) := by
  unfold ratioDevelop
  exact keep_ite h_s (keep_refreshAct hk.le (keep_unalign hk.le (keep_State_develop hk.le h_s)))

theorem keep_developDisabled {s} {i} (hk : Kept ⟨0x8000000000000000000000000000000000000000000000000000000000000000000000000000000000000000000000000000000000000000000000000000000000000000000000000000000000000000000000000000000000000000000000080000000000000000000000000000000000, 0x1e00060000000000000000000000000000000000, 0x0⟩ P) (h_s : P s) :
    P (developDisabled s i) := by
  unfold developDisabled
  exact keep_State_put hk.le ((keep_State_developList hk.le ((keep_State_develop hk.le (keep_State_develop hk.le ((keep_ite h_s (keep_foldl (fun x0 x1 z2 => keep_State_put hk.le z2) h_s))))))))

theorem keep_restDevelop {s} {i} (hk : Kept ⟨0x8000000000000000000000000000000000000000000000000000000000000000000000000000000000000000000000000000000000000000000000000000000000000000000002800000000000000000000000000000000000000000000000080000000000000000000000000000000000, 0x100000000000000000000000000000000000000000001e00060000000000000000000000000000000000, 0x0⟩ P) (h_s : P s) :
    P (restDevelop s i) := by
  unfold restDevelop
  exact keep_ite (keep_ratioDevelop hk.le (keep_developDisabled hk.le h_s)) h_s

theorem keep_updateHold {s} {i} (hk : Kept ⟨0x2000000000000000000000000000000000000000000000000000000000000000000000000000000000000000000000000000000000000000000000000010000000000000000000000000000000000000000000, 0x0, 0x0⟩ P) (h_s : P s) :
    P (updateHold s i) := by
  unfold updateHold
  exact keep_ite (keep_State_put hk.le (keep_State_setBit hk.le h_s)) (keep_ite h_s (keep_State_put hk.le h_s))

theorem keep_updateAmp {s} {i} (hk : Kept ⟨0x8000000000000000000000000000000000000000000000000000000000000000000000000000000000000000000000000000000000000000000000000014000000000000000000000000000000000000000000, 0x0, 0x0⟩ P) (h_s : P s) :
    P (updateAmp s i) := by
  unfold updateAmp
  exact keep_State_setBit hk.le ((keep_State_put hk.le (keep_State_put hk.le h_s)))

theorem keep_updateAdapt {s} {i} {newReserve} {accelerating} (hk : Kept ⟨0x10000000000000000000000000000000000000000000000000000000000000000000000000000000000000000000000000000000000000000000000000008000000000000000000000000000000000000000000, 0x0, 0x0⟩ P) (h_s : P s) :
    P (updateAdapt s i newReserve accelerating) := by
  unfold updateAdapt
  exact keep_ite (keep_State_put hk.le h_s) (keep_ite h_s (keep_ite (keep_State_put hk.le h_s) (keep_ite (keep_State_put hk.le h_s) (keep_ite (keep_State_put hk.le (keep_State_put hk.le h_s)) h_s))))

theorem keep_putWindow {s} {i} (hk : Kept ⟨0x4000000000000000000000000000000000000000000000, 0x0, 0x0⟩ P) (h_s : P s) :
    P (putWindow s i) := by
  unfold putWindow
  exact keep_State_put hk.le h_s

theorem keep_rejectWindow {s} {i} {why} (hk : Kept ⟨0x40000000000000000000000000000000000000000000000000000000000000000000000000000000000000000040000000000000000000000000000000300022b00000, 0x0, 0x8⟩ P) (h_s : P s) :
    P (rejectWindow s i why) := by
  unfold rejectWindow
  exact keep_State_post hk.le (keep_State_put hk.le h_s)

theorem keep_developWindow {s} {i} (hk : Kept ⟨0x4000000000000000000000000000000000000000000000000000000000000000000000c00000000000000000404000000e000000000000000000000000300022b00000, 0xe000000000000000000000000000000000000, 0x8⟩ P) (h_s : P s) :
    P (developWindow s i) := by
  unfold developWindow
  exact keep_ite h_s (keep_ite (keep_putWindow hk.le (keep_State_developList hk.le h_s)) (keep_rejectWindow hk.le (keep_foldl_mem (fun s r hr h => hk.put s r i _ h (testBit_le (a := rbits windowFields) rfl
    (testBit_rbits hr))) h_s)))

theorem keep_regulate1 {s} {i} {w} {im} {fresh} {ref} {eNext} (hk : Kept ⟨0x680000000000000000000000000000000000000000000000000000000000000000000000000000000000000000000000000000000000000000000000000000000000000000000000000000000000000000, 0x0, 0x0⟩ P) (h_s : P s) :
    P (regulate1 s i w im fresh ref eNext).1 := by
  unfold regulate1
  exact keep_mk (keep_State_puti hk.le (keep_State_puti hk.le ((keep_ite (keep_State_puti hk.le h_s) h_s))))

theorem keep_markSat {s} {i} {w} {sat} (hk : Kept ⟨0xc000000000000000000000000000040000000000000000000000000000000000000000000000000000000000000000000000000000000000000000020000000000000000000000000000000300022b00000, 0x0, 0x8⟩ P) (h_s : P s) :
    P (markSat s i w sat) := by
  unfold markSat
  exact keep_ite (keep_State_put hk.le ((keep_ite (keep_State_post hk.le ((keep_State_put hk.le ((keep_State_put hk.le h_s))))) ((keep_State_put hk.le ((keep_State_put hk.le h_s))))))) (keep_State_put hk.le ((keep_State_put hk.le h_s)))

theorem keep_settleVolts {s} {i} {v0} {v1} (hk : Kept ⟨0xe000000000000000000000000000040000000000000000000000000000000000000000000000000000000000000000000000000000000000000000020000000000000000000000000000000300022b00000, 0x0, 0x8⟩ P) (h_s : P s) :
    P (settleVolts s i v0 v1) := by
  unfold settleVolts
  exact keep_markSat hk.le (keep_markSat hk.le ((keep_State_puti hk.le (keep_State_puti hk.le h_s))))

theorem keep_countMissing {s} {i} {w} {fresh} (hk : Kept ⟨0x10000000000000000000000000000000000000000000000000000000000000000000000000000000000000000000000000000000000000000000000800000000000000000000000000000000000000000000, 0x0, 0x0⟩ P) (h_s : P s) :
    P (countMissing s i w fresh) := by
  unfold countMissing
  exact keep_ite (keep_State_put hk.le h_s) (keep_ite (keep_State_count hk.le (keep_State_count hk.le h_s)) h_s)

theorem keep_judgeSum {s} {i} {w} {sum} {fresh} (hk : Kept ⟨0xc0000000000000000000000000000000000000000000000000000000000000000000000000000000000000000000000000000000000000000000000000000000000000000000000000000000000000000000, 0x0, 0x0⟩ P) (h_s : P s) :
    P (judgeSum s i w sum fresh) := by
  unfold judgeSum
  exact keep_ite h_s (keep_ite (keep_State_puti hk.le (keep_State_put hk.le h_s)) (keep_State_put hk.le h_s))

theorem keep_judgeOpen {s} {i} {w} {ref} {im} (hk : Kept ⟨0x20000000000000000000000000000000000000000000000000000000000000000000000000000000000000000000000000000000000000000000000000000000000000000000000000000000000000000000, 0x0, 0x0⟩ P) (h_s : P s) :
    P (judgeOpen s i w ref im) := by
  unfold judgeOpen
  exact keep_ite h_s (keep_ite (keep_State_put hk.le h_s) (keep_State_put hk.le h_s))

theorem keep_highDuty {s} {i} {peak} (hk : Kept ⟨0x300000000000000000000000000000040000000000000000000000000000000000000000000000000000000000000000000000000000000000000000010000000000000000000000000000000300022b00000, 0x0, 0x8⟩ P) (h_s : P s) :
    P (highDuty s i peak) := by
  unfold highDuty
  exact keep_ite (keep_ite (keep_State_post hk.le (keep_State_put hk.le (keep_State_put hk.le (keep_State_setBit hk.le h_s)))) h_s) (keep_State_put hk.le h_s)

theorem keep_windowPattern {s} {i} (hk : Kept ⟨0x900000000000000000000000000000000000000000000000000000000000000000000000000000000000000000000000000000000000000000000000000000000000000000000000000000000000000000000, 0x0, 0x0⟩ P) (h_s : P s) :
    P (windowPattern s i) := by
  unfold windowPattern
  exact keep_ite (keep_State_put hk.le (keep_State_put hk.le h_s)) (keep_ite (keep_State_put hk.le (keep_State_put hk.le h_s)) (keep_State_put hk.le (keep_State_put hk.le h_s)))

theorem keep_speedLoop {s} {i} {vHall} (hk : Kept ⟨0x60000000000000000000000000000000000000000000000000000000000000000000000000000000000000000000000000000000000000000000000000004000000000000000000000000000000000000000000, 0x0, 0x0⟩ P) (h_s : P s) :
    P (speedLoop s i vHall) := by
  unfold speedLoop
  exact keep_ite ((keep_State_put hk.le ((keep_State_puti hk.le h_s)))) (keep_State_puti hk.le ((keep_State_put hk.le ((keep_State_puti hk.le h_s)))))

theorem keep_regulateSlot {s} {i} {amp} {phi} (hk : Kept ⟨0x7fe680000000000000000000000000040000000000000000000000000000000000000000000000000000000000000000000000000000000000000000830000000000000000000000000000000300022b00000, 0x0, 0x8⟩ P) (h_s : P s) :
    P (regulateSlot s i amp phi) := by
  unfold regulateSlot
  extract_lets -merge -underBinder +onlyGivenNames y0 y1 y2 y3
  clear_value y0 y1 y2 y3
  split
  · extract_lets -merge -underBinder +onlyGivenNames y4 y5
    clear_value y4 y5
    extract_lets -merge -underBinder +onlyGivenNames y6
    have z7 : P y6 := keep_countMissing hk.le (keep_countMissing hk.le h_s)
    clear_value y6
    extract_lets -merge -underBinder +onlyGivenNames y8
    clear_value y8
    split
    · rename_i y11 y12 q9
      have z10 : P y11 := keep_fst (keep_regulate1 hk.le z7) q9
      split
      · rename_i y15 y16 q13
        have z14 : P y15 := keep_fst (keep_regulate1 hk.le z10) q13
        exact keep_State_put hk.le ((keep_judgeOpen hk.le ((keep_judgeOpen hk.le ((keep_ite (keep_judgeSum hk.le ((keep_judgeSum hk.le ((keep_settleVolts hk.le (keep_highDuty hk.le z14)))))) ((keep_judgeSum hk.le ((keep_settleVolts hk.le (keep_highDuty hk.le z14)))))))))))

theorem keep_takeSamples {s} {i} (hk : Kept ⟨0x800000000000000000000000000000000000000000000000000000000000000000000000000000000000000000000000000000000000000000000003800000000000000000000000000000000000000000, 0x0, 0x0⟩ P) (h_s : P s) :
    P (takeSamples s i) := by
  unfold takeSamples
  exact keep_ite (keep_State_puti hk.le (keep_State_puti hk.le (keep_State_puti hk.le ((keep_ite (keep_State_puti hk.le (keep_State_puti hk.le h_s)) h_s))))) ((keep_ite (keep_State_puti hk.le (keep_State_puti hk.le h_s)) h_s))

theorem keep_restRegulator {s} {i} (hk : Kept ⟨0x6280000000000000000000000000000000000000000000000000000000000000000000000000000000000000000000000000000000000000000000000000000000000000000000000000000000000000000, 0x0, 0x0⟩ P) (h_s : P s) :
    P (restRegulator s i) := by
  unfold restRegulator
  exact keep_foldl (fun x0 x1 z2 => keep_State_put hk.le (keep_State_puti hk.le (keep_State_puti hk.le (keep_State_puti hk.le z2)))) h_s

theorem keep_State_setOb {s} {i} {k} {b} (hk : Kept ⟨0x40000000000000000000000000000000000000000000000, 0x0, 0x0⟩ P) (h_s : P s) :
    P (State.setOb s i k b) := by
  unfold State.setOb
  exact keep_State_setBit hk.le h_s

theorem keep_clearStallRuns {s} {i} (hk : Kept ⟨0x100000000000000000000000000000000000000000000000000000000000000000000000000000000000000000000000000000000000000000000000000000000000000000000000000000000000000000000000000000, 0x0, 0x0⟩ P) (h_s : P s) :
    P (clearStallRuns s i) := by
  unfold clearStallRuns
  exact keep_State_put hk.le (keep_State_put hk.le (keep_State_put hk.le h_s))

theorem keep_positionLost {s} {i} (hk : Kept ⟨0x40000000000000000800000000000000000000000000000, 0x0, 0x0⟩ P) (h_s : P s) :
    P (positionLost s i) := by
  unfold positionLost
  exact keep_unhome hk.le (keep_State_setOb hk.le h_s)

theorem keep_offUncertain {s} {i} (hk : Kept ⟨0x40000000000000000800000000000000000000000000000, 0x0, 0x0⟩ P) (h_s : P s) :
    P (offUncertain s i) := by
  unfold offUncertain
  exact keep_ite (keep_positionLost hk.le h_s) h_s

theorem keep_changeMode {s} {i} {m} {stood} (hk : Kept ⟨0x1002c3000000000000000000000000000000000000000000000000000000000000000000000000000000000000000000000000000000000000000000000000060000000000000000000000000000000000000000000000, 0x0, 0x0⟩ P) (h_s : P s) :
    P (changeMode s i m stood) := by
  unfold changeMode
  refine keep_ite ?_ ?_
  · exact h_s
  · extract_lets -merge -underBinder +onlyGivenNames y0
    have z1 : P y0 := keep_clearStallRuns hk.le h_s
    clear_value y0
    exact keep_State_put hk.le ((keep_ite (keep_State_setOb hk.le (keep_State_clearAll hk.le ((keep_ite (keep_State_put hk.le (keep_State_put hk.le z1)) z1)))) (keep_State_setOb hk.le ((keep_ite (keep_State_put hk.le (keep_State_put hk.le z1)) z1)))))

theorem keep_correctEmf {s} {i} {w} (hk : Kept ⟨0x100000000000000000000000000000000000000000000000000000000000000000000000000000000000000000000000000000000000000000000000000000000000000000000000000000000000000000, 0x0, 0x0⟩ P) (h_s : P s) :
    P (correctEmf s i w) := by
  unfold correctEmf
  exact keep_State_puti hk.le h_s

theorem keep_turnEmf {s} {i} (hk : Kept ⟨0x100000000000000000000000000000000000000000000000000000000000000000000000000000000000000000000000000000000000000000000000000000000000000000000000000000000000000000, 0x0, 0x0⟩ P) (h_s : P s) :
    P (turnEmf s i) := by
  unfold turnEmf
  split
  · exact keep_State_puti hk.le (keep_State_puti hk.le h_s)

theorem keep_modelEmf {s} {i} (hk : Kept ⟨0x100000000000000000000000000000000000000000000000000000000000000000000000000000000000000000000000000000000000000000000000000000000000000000000000000000000000000000, 0x0, 0x0⟩ P) (h_s : P s) :
    P (modelEmf s i) := by
  unfold modelEmf
  exact keep_ite (keep_State_put hk.le (keep_State_put hk.le h_s)) (keep_State_puti hk.le (keep_State_puti hk.le h_s))

theorem keep_emfFlags {s} {i} {corrected} (hk : Kept ⟨0x10000000000000000000000000000000000000000000000000000000000000000000000000000000000000000000000000000000000000000000010000040000000000000000000000000000000000000000000000, 0x0, 0x0⟩ P) (h_s : P s) :
    P (emfFlags s i corrected) := by
  unfold emfFlags
  exact keep_ite (keep_State_setOb hk.le (keep_State_put hk.le ((keep_State_put hk.le h_s)))) (keep_ite (keep_State_setOb hk.le (keep_State_put hk.le ((keep_State_put hk.le h_s)))) ((keep_State_put hk.le h_s)))

theorem keep_predictNext {s} {i} {w} (hk : Kept ⟨0x40000000000000000000000000000000000000000000000000000000000000000000000000000000000000000000000000000000000000000000000000000000000000000000000000000000000000000000000000000000, 0x0, 0x0⟩ P) (h_s : P s) :
    P (predictNext s i w) := by
  unfold predictNext
  exact keep_ite (keep_State_puti hk.le h_s) (keep_State_puti hk.le h_s)

theorem keep_updateEmf {s} {i} {f0} {f1} (hk : Kept ⟨0x10000000100000000000000000000000000000000000000000000000000000000000000000000000000000000000000000000000000000000000010000040000000000000000000000000000000000000000000000, 0x0, 0x0⟩ P) (h_s : P s) :
    P (updateEmf s i f0 f1) := by
  unfold updateEmf
  extract_lets -merge -underBinder +onlyGivenNames y0
  clear_value y0
  refine keep_ite ?_ ?_
  · exact keep_emfFlags hk.le (keep_modelEmf hk.le h_s)
  · refine keep_ite ?_ ?_
    · extract_lets -merge -underBinder +onlyGivenNames y1
      have z2 : P y1 := keep_ite h_s (keep_turnEmf hk.le h_s)
      clear_value y1
      exact keep_emfFlags hk.le ((keep_ite (keep_correctEmf hk.le ((keep_ite (keep_correctEmf hk.le z2) z2))) ((keep_ite (keep_correctEmf hk.le z2) z2))))
    · exact keep_emfFlags hk.le (keep_turnEmf hk.le h_s)

theorem keep_inject {s} {i} (hk : Kept ⟨0x80000000000002000000000000000000000000000000000000000000000000000000000000000000000000000000000000000000000000000000000000000000000000000000000000000000000000000000000000000000, 0x0, 0x0⟩ P) (h_s : P s) :
    P (inject s i) := by
  unfold inject
  exact keep_ite ((keep_State_put hk.le (keep_State_put hk.le h_s))) (keep_State_puti hk.le (keep_State_puti hk.le ((keep_State_puti hk.le (keep_State_puti hk.le h_s)))))

theorem keep_updateSaliency {s} {i} (hk : Kept ⟨0x800000000000000000000000000000000000000000000000000, 0x0, 0x0⟩ P) (h_s : P s) :
    P (updateSaliency s i) := by
  unfold updateSaliency
  exact keep_ite (keep_State_freed hk.le (keep_State_put hk.le h_s)) (keep_State_put hk.le h_s)

theorem keep_updateL {s} {i} (hk : Kept ⟨0x8100000000000000000000000000000000000000000000000000000000000000000000000000000000000000000000000000000000000000000000008000040000000000000000000000000000000000000000000000, 0x0, 0x0⟩ P) (h_s : P s) :
    P (updateL s i) := by
  unfold updateL
  exact keep_ite h_s (keep_State_setOb hk.le ((keep_State_put hk.le ((keep_ite h_s (keep_State_put hk.le ((keep_State_puti hk.le h_s))))))))

theorem keep_refineInjection {s} {i} (hk : Kept ⟨0x8300000000000000000000000000000000000000000000000000000000000000000000000000000000000000000000000000000000000000000000008800040000000000000000000000000000000000000000000000, 0x0, 0x0⟩ P) (h_s : P s) :
    P (refineInjection s i) := by
  unfold refineInjection
  exact keep_ite (keep_updateL hk.le ((keep_ite (keep_updateSaliency hk.le ((keep_State_put hk.le h_s))) ((keep_State_put hk.le h_s))))) ((keep_ite (keep_updateSaliency hk.le ((keep_State_put hk.le h_s))) ((keep_State_put hk.le h_s))))

theorem keep_demodulate {s} {i} (hk : Kept ⟨0xe800000281000000000000000000000000000000000000000000000000000000000000000000000000000000000000000000000000000000000000000000000000000000000000000000000000000000000000000000000000, 0x0, 0x0⟩ P) (h_s : P s) :
    P (demodulate s i) := by
  unfold demodulate
  extract_lets -merge -underBinder +onlyGivenNames y0
  extract_lets -merge -underBinder +onlyGivenNames y1 y2 y3 y4 y5
  clear_value y1 y2 y3 y4 y5
  extract_lets -merge -underBinder +onlyGivenNames y6
  have z7 : P y6 := keep_State_puti hk.le (keep_State_puti hk.le h_s)
  clear_value y6
  extract_lets -merge -underBinder +onlyGivenNames y8
  have z9 : P y8 := keep_State_puti hk.le (keep_ite (keep_State_puti hk.le z7) (keep_State_puti hk.le z7))
  clear_value y8
  exact keep_ite ((keep_State_put hk.le z9)) (keep_State_put hk.le ((keep_State_setBit hk.le (keep_State_setBit hk.le ((keep_State_put hk.le z9))))))

theorem keep_injectStep {s} {i} {refine} (hk : Kept ⟨0xe8000083e1000000000000000000000000000000000040000000000000000000000000000000000000000000000000000000000000000000000000000000008800140000000000000000000000000000000000300022b00000, 0x0, 0x8⟩ P) (h_s : P s) :
    P (injectStep s i refine) := by
  unfold injectStep
  refine keep_ite ?_ ?_
  · exact h_s
  · extract_lets -merge -underBinder +onlyGivenNames y0 y1
    clear_value y0 y1
    extract_lets -merge -underBinder +onlyGivenNames y2
    have z3 : P y2 := keep_ite (keep_demodulate hk.le h_s) h_s
    clear_value y2
    extract_lets -merge -underBinder +onlyGivenNames y4
    have z5 : P y4 := keep_ite (keep_refineInjection hk.le z3) z3
    clear_value y4
    exact keep_ite (keep_ite ((keep_State_put hk.le ((keep_State_put hk.le z5)))) (keep_State_post hk.le (keep_State_put hk.le ((keep_State_put hk.le ((keep_State_put hk.le z5))))))) ((keep_State_put hk.le z5))

theorem keep_updateLoad {s} {i} {phi} (hk : Kept ⟨0x18000000000000000000000000000000000000000000000, 0x0, 0x0⟩ P) (h_s : P s) :
    P (updateLoad s i phi) := by
  unfold updateLoad
  exact keep_ite (keep_ite (keep_ite (keep_State_freed hk.le (keep_State_put hk.le ((keep_State_puti hk.le h_s)))) (keep_State_put hk.le ((keep_State_puti hk.le h_s)))) (keep_State_put hk.le ((keep_State_puti hk.le h_s)))) (keep_State_put hk.le (keep_State_puti hk.le h_s))

theorem keep_advancePos {s} {i} {d} (hk : Kept ⟨0x1000000000000000000000000000000000000000000000000000000000000000000000000000000000000000000000000000000000000000000000000000040000000000000000000000000000000000000000000000000000, 0x0, 0x0⟩ P) (h_s : P s) :
    P (advancePos s i d) := by
  unfold advancePos
  exact keep_State_puti hk.le (keep_State_puti hk.le h_s)

theorem keep_updatePos {s} {i} {te} {th} {valid} (hk : Kept ⟨0x100000000f000000000000000000000000000000000000000000000000000000000000000000000000000000000000000000000000000000000000000000040000040000000000000000800000000000000000000000000000, 0x0, 0x0⟩ P) (h_s : P s) :
    P (updatePos s i te th valid) := by
  unfold updatePos
  extract_lets -merge -underBinder +onlyGivenNames y0
  have z1 : P y0 := keep_State_setOb hk.le h_s
  clear_value y0
  refine keep_ite ?_ ?_
  · exact keep_ite (keep_State_put hk.le ((keep_State_put hk.le z1))) ((keep_State_put hk.le z1))
  · extract_lets -merge -underBinder +onlyGivenNames y2 y3 y4 y5
    clear_value y2 y3 y4 y5
    extract_lets -merge -underBinder +onlyGivenNames y6
    have z7 : P y6 := keep_ite (keep_State_put hk.le (keep_State_puti hk.le z1)) (keep_advancePos hk.le z1)
    clear_value y6
    exact keep_State_put hk.le (keep_State_put hk.le (keep_State_put hk.le ((keep_State_puti hk.le ((keep_ite (keep_positionLost hk.le z7) z7))))))

theorem keep_syncCommand {s} {i} (hk : Kept ⟨0x6c000000000000000000000000000000000000000000000000000000000000000000000000000000000000000000040000000000000000000000003000000000000000000000, 0x0, 0x0⟩ P) (h_s : P s) :
    P (syncCommand s i) := by
  unfold syncCommand
  exact keep_ite h_s (keep_State_setOb hk.le (keep_publish hk.le ((keep_State_puti hk.le (keep_State_puti hk.le h_s)))))

theorem keep_learnKe {s} {i} (hk : Kept ⟨0x2400000000000000000000000000000000000000000000000000000000000000000000000000000000000000000000000000000000000000000000020000040000000000000000000000000000000000000000000000, 0x0, 0x0⟩ P) (h_s : P s) :
    P (learnKe s i) := by
  unfold learnKe
  exact keep_ite (keep_State_setOb hk.le ((keep_State_put hk.le ((keep_State_put hk.le ((keep_State_puti hk.le h_s))))))) h_s

theorem keep_updateVw {s} {i} (hk : Kept ⟨0x780000000000000000000000000000000000000000000000000000, 0x0, 0x0⟩ P) (h_s : P s) :
    P (updateVw s i) := by
  unfold updateVw
  extract_lets -merge -underBinder +onlyGivenNames y0
  have z1 : P y0 := keep_State_put hk.le h_s
  clear_value y0
  exact keep_ite (keep_State_put hk.le (keep_State_put hk.le z1)) (keep_ite (keep_State_put hk.le (keep_State_puti hk.le z1)) (keep_ite (keep_State_put hk.le z1) (keep_ite (keep_State_put hk.le z1) z1)))

theorem keep_vwInvalid {s} {i} (hk : Kept ⟨0x580000000000000000000000000000000000000000000000000000, 0x0, 0x0⟩ P) (h_s : P s) :
    P (vwInvalid s i) := by
  unfold vwInvalid
  exact keep_ite (keep_State_put hk.le (keep_State_put hk.le h_s)) (keep_State_put hk.le (keep_State_put hk.le (keep_State_put hk.le h_s)))

theorem keep_filterR {s} {i} (hk : Kept ⟨0x2000000b0000000000000000000000000000000000000000000000000000000000000000000000000000000000000000000000000000000000000000000000500000000000000000000000000000000000000000000000000000, 0x0, 0x0⟩ P) (h_s : P s) :
    P (filterR s i) := by
  unfold filterR
  extract_lets -merge -underBinder +onlyGivenNames y0
  clear_value y0
  extract_lets -merge -underBinder +onlyGivenNames y1
  have z2 : P y1 := keep_ite (keep_State_puti hk.le h_s) (keep_State_puti hk.le h_s)
  clear_value y1
  exact keep_ite (keep_State_put hk.le (keep_State_put hk.le (keep_State_put hk.le ((keep_State_put hk.le (keep_State_put hk.le z2)))))) ((keep_State_put hk.le (keep_State_put hk.le z2)))

theorem keep_storeR {s} {i} {fine} {probe} (hk : Kept ⟨0x110000044800000000000000000000000000000000000040000000000000000000000000000000000000000000000000000000000000000000000000000000584000240000000000000000000000000000000000300022b00000, 0x0, 0x8⟩ P) (h_s : P s) :
    P (storeR s i fine probe) := by
  unfold storeR
  extract_lets -merge -underBinder +onlyGivenNames y0 y1 y2
  clear_value y0 y1 y2
  extract_lets -merge -underBinder +onlyGivenNames y3
  have z4 : P y3 := keep_State_put hk.le h_s
  clear_value y3
  refine keep_ite ?_ ?_
  · extract_lets -merge -underBinder +onlyGivenNames y5
    clear_value y5
    extract_lets -merge -underBinder +onlyGivenNames y6
    have z7 : P y6 := keep_State_puti hk.le z4
    clear_value y6
    extract_lets -merge -underBinder +onlyGivenNames y8
    have z9 : P y8 := keep_State_put hk.le z7
    clear_value y8
    exact keep_ite (keep_State_post hk.le ((keep_vwInvalid hk.le (keep_State_put hk.le ((keep_State_put hk.le (keep_State_put hk.le (keep_State_setOb hk.le z9)))))))) ((keep_vwInvalid hk.le (keep_State_put hk.le ((keep_State_put hk.le (keep_State_put hk.le (keep_State_setOb hk.le z9)))))))
  · exact keep_ite (keep_State_setOb hk.le (keep_State_put hk.le (keep_State_put hk.le ((keep_State_put hk.le ((keep_State_puti hk.le z4))))))) ((keep_State_put hk.le ((keep_State_puti hk.le z4))))

theorem keep_learnR {s} {i} (hk : Kept ⟨0x3100000f4800000000000000000000000000000000000040000000000000000000000000000000000000000000000000000000000000000000000000000000584000240000000000000000000000000000000000300022b00000, 0x0, 0x8⟩ P) (h_s : P s) :
    P (learnR s i) := by
  unfold learnR
  extract_lets -merge -underBinder +onlyGivenNames y0 y1 y2
  clear_value y0 y1 y2
  refine keep_ite ?_ ?_
  · extract_lets -merge -underBinder +onlyGivenNames y3
    clear_value y3
    extract_lets -merge -underBinder +onlyGivenNames y4
    have z5 : P y4 := keep_storeR hk.le h_s
    clear_value y4
    exact keep_ite (keep_filterR hk.le ((keep_ite z5 (keep_ite (keep_State_setOb hk.le ((keep_State_put hk.le z5))) ((keep_State_put hk.le z5)))))) ((keep_ite z5 (keep_ite (keep_State_setOb hk.le ((keep_State_put hk.le z5))) ((keep_State_put hk.le z5)))))
  · exact h_s

theorem keep_probeAdd {s} {i} {te} (hk : Kept ⟨0x400000000000000000000000000000000000000000000000000000000000000000000000000000000000000000000000000000000000000000000000000000000000000000000000000000000000000000000000000000000, 0x0, 0x0⟩ P) (h_s : P s) :
    P (probeAdd s i te) := by
  unfold probeAdd
  exact keep_ite (keep_State_put hk.le (keep_State_put hk.le h_s)) (keep_State_puti hk.le (keep_State_puti hk.le h_s))

theorem keep_probeSum {s} {i} {te} {fresh} (hk : Kept ⟨0xe0001000001000001800000000000000000000000000000000000000000000000000000000000000000000000000000000000000000000000000000000000000000000000000000000000000000000000000000000000000000, 0x0, 0x0⟩ P) (h_s : P s) :
    P (probeSum s i te fresh) := by
  unfold probeSum
  extract_lets -merge -underBinder +onlyGivenNames y0
  clear_value y0
  extract_lets -merge -underBinder +onlyGivenNames y1
  clear_value y1
  extract_lets -merge -underBinder +onlyGivenNames y2
  clear_value y2
  refine keep_ite ?_ ?_
  · exact h_s
  · extract_lets -merge -underBinder +onlyGivenNames y3
    clear_value y3
    extract_lets -merge -underBinder +onlyGivenNames y4
    have z5 : ∀ x6 x7 x8 x9, x7 ∈ [Reg.PROBE_V, .PROBE_I] → P x6 → P (y4 x6 x7 x8 x9) := by
      intro x6 x7 x8 x9 hr z10
      exact hk.put _ _ _ _ z10 (testBit_le (a := rbits [.PROBE_V, .PROBE_I]) rfl (testBit_rbits hr))
    clear_value y4
    exact keep_ite (keep_foldl (fun x11 x12 z13 => z5 _ _ _ _ (by simp) (z5 _ _ _ _ (by simp) z13)) ((keep_State_countWrap hk.le h_s))) (z5 _ _ _ _ (by simp) ((keep_State_countWrap hk.le h_s)))

theorem keep_probeEnd {s} {i} (hk : Kept ⟨0x415000000000000000000000000000000000000000000000000000000000000000000000000000000000000000000000000000000000000000000000000000000040000000000000000000000000000000000000000000000, 0x0, 0x0⟩ P) (h_s : P s) :
    P (probeEnd s i) := by
  unfold probeEnd
  exact keep_State_setOb hk.le ((keep_State_put hk.le (keep_State_put hk.le ((keep_State_put hk.le (keep_State_put hk.le (keep_State_put hk.le h_s)))))))

theorem keep_rejectVwCal {s} {i} {why} (hk : Kept ⟨0x40000000000000000000000000000000000000000000000000000000000000000000000000000000000000800000000000000000000000000000000000300022b00000, 0x0, 0x8⟩ P) (h_s : P s) :
    P (rejectVwCal s i why) := by
  unfold rejectVwCal
  exact keep_State_post hk.le (keep_State_put hk.le h_s)

theorem keep_probeAbort {s} {i} (hk : Kept ⟨0x415000000000000000000000000000000000000000040000000000000000000000000000000000000000000000000000000000000000000000000000000000000c40000000000000000000000000000000000300022b00000, 0x0, 0x8⟩ P) (h_s : P s) :
    P (probeAbort s i) := by
  unfold probeAbort
  exact keep_ite h_s (keep_ite (keep_rejectVwCal hk.le ((keep_State_post hk.le (keep_State_put hk.le (keep_probeEnd hk.le h_s))))) ((keep_State_post hk.le (keep_State_put hk.le (keep_probeEnd hk.le h_s)))))

theorem keep_probeBegin {s} {i} {kind} {te} (hk : Kept ⟨0xe002b000000000000000000000000000000000000000000000000000000000000000000000000000000000000000000000000000000000000000000000000000000040000000000000000000000000000000000000000000000, 0x3000000000000000000000000000000000000000000000000000, 0x0⟩ P) (h_s : P s) :
    P (probeBegin s i kind te) := by
  unfold probeBegin
  extract_lets -merge -underBinder +onlyGivenNames y3
  have z4 : P y3 := keep_State_develop hk.le (keep_State_develop hk.le h_s)
  clear_value y3
  exact keep_State_put hk.le (keep_State_put hk.le ((keep_foldl (fun x5 x6 z7 => keep_State_put hk.le (keep_State_put hk.le z7)) ((keep_State_setOb hk.le (keep_State_puti hk.le ((keep_State_put hk.le (keep_State_put hk.le (keep_State_put hk.le z4))))))))))

theorem keep_probeMoved {s} {i} (hk : Kept ⟨0x415000000000000000000000000000000000000000040000000000000000000000000000000000000000000000000000000000000000000000000000000000000c40000000000000000000000000000000000300022b00000, 0x0, 0x8⟩ P) (h_s : P s) :
    P (probeMoved s i) := by
  unfold probeMoved
  exact keep_ite (keep_probeAbort hk.le h_s) h_s

theorem keep_probeJudge {s} {i} {accZero} (hk : Kept ⟨0x415000000000000000000000000000000000000000040000000000000000000000000000000000000000000000000000000000000000000000000000000000000c40000000000000000000000000000000000300022b00000, 0x0, 0x8⟩ P) (h_s : P s) :
    P (probeJudge s i accZero) := by
  unfold probeJudge
  exact keep_ite (keep_probeAbort hk.le h_s) h_s

theorem keep_probeFinish {s} {i} (hk : Kept ⟨0x3104150f4800000000000000000000000000000000000040000000000000000000000000000000000000000000000000000000000000000000000000000000d84000a40000000000000000000000000000000000300022b00000, 0x800000000000000000000000000000000000000000000000000000, 0x8⟩ P) (h_s : P s) :
    P (probeFinish s i).1 := by
  unfold probeFinish
  extract_lets -merge -underBinder +onlyGivenNames y0 y1 y2
  clear_value y0 y1 y2
  extract_lets -merge -underBinder +onlyGivenNames y3
  have z4 : P y3 := keep_probeEnd hk.le h_s
  clear_value y3
  split
  · exact keep_mk (keep_ite (keep_rejectVwCal hk.le z4) z4)
  · exact keep_ite1 (keep_mk (keep_ite (keep_rejectVwCal hk.le z4) z4)) (keep_ite1 (keep_ite1 (keep_mk (keep_rejectVwCal hk.le z4)) (keep_mk (keep_State_post hk.le ((keep_filterR hk.le (keep_storeR hk.le ((keep_State_develop hk.le (keep_State_puti hk.le z4))))))))) (keep_mk (keep_ite ((keep_storeR hk.le z4)) (keep_filterR hk.le ((keep_storeR hk.le z4))))))

theorem keep_countStall {s} {i} {fresh} {hallStill} (hk : Kept ⟨0x900000000000000000000000000000000000000000000000000000000000000000000000000000000000000000000000000000000000000000000000000000000000000000000000000000000000000000000000000000, 0x0, 0x0⟩ P) (h_s : P s) :
    P (countStall s i fresh hallStill) := by
  unfold countStall
  extract_lets -merge -underBinder +onlyGivenNames y0
  have z1 : ∀ x2 x3, P x2 → P (y0 x2 x3) := by
    intro x2 x3 z4
    exact keep_ite (keep_State_put hk.le z4) (keep_ite z4 (keep_ite (keep_ite (keep_State_put hk.le ((keep_State_put hk.le z4))) ((keep_State_put hk.le z4))) (keep_State_put hk.le z4)))
  clear_value y0
  exact keep_foldl (fun x5 x6 z7 => z1 _ _ z7) h_s

theorem keep_observe {s} {i} {te} {phi} {hall} {f0} {f1} {refine} {accZero} {hallStill} {stood} (hk : Kept ⟨0x3ffcd59fefff0000039000000000000000000000000000400000000000000000000000000000000000000000000000000000000000000000000000000000007fc800f78000000000000000800000000000000000300022b00000, 0x0, 0x8⟩ P) (h_s : P s) :
    P (observe s i te phi hall f0 f1 refine accZero hallStill stood) := by
  unfold observe
  extract_lets -merge -underBinder +onlyGivenNames y0
  have z1 : P y0 := keep_offUncertain hk.le (keep_changeMode hk.le h_s)
  clear_value y0
  extract_lets -merge -underBinder +onlyGivenNames y2
  have z3 : P y2 := keep_updateEmf hk.le z1
  clear_value y2
  extract_lets -merge -underBinder +onlyGivenNames y4
  have z5 : P y4 := keep_injectStep hk.le z3
  clear_value y4
  split
  · extract_lets -merge -underBinder +onlyGivenNames y6
    have z7 : P y6 := keep_updatePos hk.le z5
    clear_value y6
    extract_lets -merge -underBinder +onlyGivenNames y8
    have z9 : P y8 := keep_updateLoad hk.le z7
    clear_value y8
    exact keep_predictNext hk.le (keep_predictNext hk.le ((keep_updateVw hk.le (keep_inject hk.le ((keep_countStall hk.le ((keep_ite (keep_learnR hk.le (keep_learnKe hk.le ((keep_probeSum hk.le (keep_probeJudge hk.le z9))))) ((keep_probeSum hk.le (keep_probeJudge hk.le z9)))))))))))

theorem keep_observerEnable {s} {i} (hk : Kept ⟨0x300000000820000000000000000000000000000000000000000000000000000000000000000000000000000000000000000000000000000000000000000000100000040000000000000000000000000000000000000000000000, 0x0, 0x0⟩ P) (h_s : P s) :
    P (observerEnable s i) := by
  unfold observerEnable
  exact keep_State_setOb hk.le (keep_State_put hk.le ((keep_ite (keep_State_put hk.le ((keep_State_put hk.le (keep_State_put hk.le (keep_State_put hk.le h_s))))) ((keep_State_put hk.le (keep_State_put hk.le (keep_State_put hk.le h_s)))))))

theorem keep_observerReset {s} {i} (hk : Kept ⟨0x31f00009efdf0000000000000000000000000000000000000000000000000000000000000000000000000000000000000000000000000000000000000000005fc800058000000000000000000000000000000000000000000000, 0x0, 0x0⟩ P) (h_s : P s) :
    P (observerReset s i) := by
  unfold observerReset
  exact keep_vwInvalid hk.le ((keep_State_setOb hk.le (keep_State_put hk.le ((keep_State_clearAll hk.le h_s)))))

theorem keep_State_record (hk : Kept ⟨0x700000000000000000000000000000000000000000000000000000000000000000000000000000000060000000000000000000000000000000000000000000000000000000000000000000000000000000000000000000000000000000000000000000000000000000000, 0x0, 0x200⟩ P) {s : State} {kind result actor subject value} (h_s : P s) :
    P (s.record kind result actor subject value) := by
  unfold State.record
  extract_lets -merge -underBinder +onlyGivenNames same
  refine keep_ite ?_ ?_
  · split
    · exact hk.audit h_s
    · exact h_s
  · extract_lets -merge -underBinder +onlyGivenNames e0 e1 full y z
    have hy : P y := keep_ite (keep_State_count hk.le h_s) h_s
    have hz : P z := hk.audit hy
    clear_value z
    exact keep_State_put hk.le (keep_State_put hk.le (keep_State_countWrap hk.le (keep_State_countWrap hk.le hz)))

theorem keep_State_sendCan {s} {id} {data} (hk : Kept ⟨0x0, 0x0, 0x100⟩ P) (h_s : P s) :
    P (State.sendCan s id data) := by
  unfold State.sendCan
  extract_lets -merge -underBinder +onlyGivenNames y0
  have z1 : ∀ x2 x3, P x2 → P (y0 x2 x3) := by
    intro x2 x3 z4
    exact keep_ite (keep_State_send hk.le z4) z4
  clear_value y0
  exact z1 _ _ (z1 _ _ h_s)

theorem keep_sendEmcy {s} {m} (hk : Kept ⟨0x300000000000000000000000000000000000000000000000000000000000000000000000000000000000000000000000000000000000000000000000000000000000000000000000000000000000000000000000000000000000000000000000000000000000000000, 0x0, 0x100⟩ P) (h_s : P s) :
    P (sendEmcy s m) := by
  unfold sendEmcy
  exact keep_ite h_s (keep_State_put hk.le (keep_State_put hk.le (keep_State_sendCan hk.le h_s)))

theorem keep_pushHistory (hk : Kept ⟨0x60000000000000000000000000000000000000000000000000000000000000000000000000000000000000000000000000000000000000000000000000000000000000000000000000000000000000000000000000000000000000000000000000000000000000000, 0x0, 0x0⟩ P) {s e} (h_s : P s) : P (pushHistory s e) := by
  unfold pushHistory
  exact keep_State_put hk.le (keep_State_put hk.le (keep_foldr (fun _ _ h => keep_State_put hk.le h) h_s))

theorem keep_State_emcy (hk : Kept ⟨0x360000000000000000000000000000000000000000000000000000000000000000000000000000000000000000000000000000000000000000000000000000000000000000000000000000000000000000000000000000000000000000000000000000000000000000, 0x0, 0x100⟩ P) {s : State} {code slot cause event} (h_s : P s) : P (s.emcy code slot cause event) := by
  unfold State.emcy
  extract_lets -merge -underBinder +onlyGivenNames m y
  have hy : P y := keep_ite h_s (keep_pushHistory hk.le h_s)
  clear_value y
  have hz : P { y with emcyQ := y.emcyQ ++ [m] } := hk.same hy
  exact keep_ite hz (keep_ite hy (keep_ite (keep_sendEmcy hk.le hy) hz))

theorem keep_State_emcyIfClear {s} {slot} (hk : Kept ⟨0x360000000000000000000000000000000000000000000000000000000000000000000000000000000000000000000000000000000000000000000000000000000000000000000000000000000000000000000000000000000000000000000000000000000000000000, 0x0, 0x100⟩ P) (h_s : P s) :
    P (State.emcyIfClear s slot) := by
  unfold State.emcyIfClear
  exact keep_ite h_s (keep_State_emcy hk.le h_s)

theorem keep_emcyRelease (hk : Kept ⟨0x300000000000000000000000000000000000000000000000000000000000000000000000000000000000000000000000000000000000000000000000000000000000000000000000000000000000000000000000000000000000000000000000000000000000000000, 0x0, 0x100⟩ P) {s} (h_s : P s) : P (emcyRelease s) := by
  unfold emcyRelease
  split
  · exact h_s
  · exact keep_ite h_s (keep_ite (hk.same h_s)
      (keep_ite (keep_sendEmcy hk.le (hk.same h_s)) h_s))

theorem keep_absorb {s} {kind} {event} {slot} {arg} (hk : Kept ⟨0x700360000000000000000000000000000000000000000000000000000000000000000000000000000060000000000000000100000000000000000000000000000000000000000000000000000000000000000000000000000000000000000000000000000000000000000, 0x0, 0x300⟩ P) (h_s : P s) :
    P (absorb s kind event slot arg) := by
  unfold absorb
  exact keep_State_emcy hk.le ((keep_State_record hk.le ((keep_State_count hk.le h_s))))

theorem keep_setRedLost {s} {k} {b} (hk : Kept ⟨0x360000000000000000000000000000000000000000000000000000000000000000000000000040000000000000000000080000000000000000000000000000000000000000000000000000000000000000000000000000000000000000000000000000300022b00000, 0x0, 0x108⟩ P) (h_s : P s) :
    P (setRedLost s k b) := by
  unfold setRedLost
  exact keep_ite h_s (keep_State_emcy hk.le ((keep_State_post hk.le ((keep_State_setBit hk.le h_s)))))

theorem keep_refreshEngines {s} (hk : Kept ⟨0x360000000000000000000000000000000000000000000000000000000000000000000000200040000000000000000000080000000000000000000000000000000000000000000000000000000000000000000000000000000000000000000000000100300022b00000, 0x0, 0x108⟩ P) (h_s : P s) :
    P (refreshEngines s) := by
  unfold refreshEngines
  exact keep_setRedLost hk.le ((keep_foldl (fun x0 x1 z2 => keep_State_put hk.le z2) ((keep_State_put hk.le h_s))))

theorem keep_stripEnd {s} (hk : Kept ⟨0x360000000000000e00000000000000000000000000000000000000000000000000000000200040000000000000004000080000000000000000000000000000000000000000000000000000000000000000000000000000000000000000000000000100300022b00000, 0x0, 0x108⟩ P) (h_s : P s) :
    P (stripEnd s) := by
  unfold stripEnd
  exact keep_refreshEngines hk.le (keep_State_put hk.le (keep_State_put hk.le ((keep_State_put hk.le (keep_State_put hk.le (keep_State_put hk.le h_s))))))

theorem keep_stripCancel {s} {i} (hk : Kept ⟨0x360000000000000e00000000000000000000000000000000000000000000000000000000200040000000000000004000080000000000000000000000000000000000000000000000000000000000000000000000000000000000000000000000000100300022b00000, 0x0, 0x108⟩ P) (h_s : P s) :
    P (stripCancel s i) := by
  unfold stripCancel
  exact keep_ite (keep_stripEnd hk.le h_s) h_s

theorem keep_judgeMailbox {s} (hk : Kept ⟨0x180000000000000000000000000000000000000000000000000000000000000000000000000000000000000000000000000000000000000000000000000000, 0x0, 0x0⟩ P) (h_s : P s) :
    P (judgeMailbox s) := by
  unfold judgeMailbox
  exact keep_State_put hk.le (keep_State_put hk.le h_s)

theorem keep_drainOut (hk : Kept ⟨0x40000000000000000000000000000000000000000000000000000000000000000000000000000000000000000000000000000000000000000000000000000000000040000000000000000000000000000000000000000000000000000000000000000000000000000000000000000000000000000000000000000000000000300022b80000, 0x0, 0x188⟩ P) {n s acc} (h_s : P s) : P (drainOut n s acc) := by
  induction n generalizing s acc with
  | zero => exact h_s
  | succ n ih =>
    unfold drainOut
    have h1 : P ((s.dequeue 15).put .Q15_TICK 0 s.ts) := keep_State_put hk.le (keep_State_dequeue hk.le h_s)
    have h2 := h1
    refine keep_ite h_s (keep_ite (ih ?_) (keep_ite (ih (keep_State_send hk.le ?_)) (ih ?_)))
    · exact h1
    · exact h1
    · exact hk.resp _ _ _ h1

theorem keep_drainQ15 {s} (hk : Kept ⟨0x40000000000000000000000000000000000000000000000000000000000000000000000000000000000000000000000000000000000000000000000000000000000040000000180000000000000000000000000000000000000000000000000000000000000000000000000000000000000000000000000000000000000000300022b80000, 0x0, 0x188⟩ P) (h_s : P s) :
    P (drainQ15 s) := by
  unfold drainQ15
  exact keep_judgeMailbox hk.le (keep_drainOut hk.le h_s)

theorem keep_putFrame {s} {path} {f} (hk : Kept ⟨0x40000000000000000000000000000000000000000000000000000000000000000000000000000000000000000000000000000000000000000000000000000000000040000000000000000000000000000000000000000000000000000000000000000000000000000000000000000000000000000000000000000000000000700022b00000, 0x0, 0x8⟩ P) (h_s : P s) :
    P (putFrame s path f) := by
  unfold putFrame
  exact keep_ite (keep_State_put hk.le ((keep_foldl (fun x0 x1 z2 => keep_State_enqueue hk.le z2) ((keep_ite (keep_State_put hk.le h_s) h_s))))) ((keep_foldl (fun x0 x1 z2 => keep_State_enqueue hk.le z2) ((keep_ite (keep_State_put hk.le h_s) h_s))))

theorem keep_pushWaiting (hk : Kept ⟨0x40000000000000000000000000000000000000000000000000000000000000000000000000000000000000000000000000000000000000000000000000000000000040000000180000000000000000000000000000000000000000000000000000000000000000000000000000000000000000000000000000000000000000700022b80000, 0x0, 0x188⟩ P) {s l} (h_s : P s) : P (pushWaiting s l) := by
  induction l generalizing s with
  | nil => exact hk.same h_s
  | cons x t ih =>
    unfold pushWaiting
    exact keep_ite (hk.same h_s)
      (ih (keep_drainQ15 hk.le (keep_putFrame hk.le h_s)))

theorem keep_pumpOut {s} (hk : Kept ⟨0x40000000000000000000000000000000000000000000000000000000000000000000000000000000000000000000000000000000000000000000000000000000000040000000180000000000000000000000000000000000000000000000000000000000000000000000000000000000000000000000000000000000000000700022b80000, 0x0, 0x188⟩ P) (h_s : P s) :
    P (pumpOut s) := by
  unfold pumpOut
  exact keep_judgeMailbox hk.le (keep_pushWaiting hk.le (keep_drainQ15 hk.le h_s))

theorem keep_respond (hk : Kept ⟨0x40000000000000000000000000000000000000000000000000000000000000000000000000000000000000000000000000000000000000000000000000000000000040000000180000000000000000000000000000000000000000000000000000000000000000000000000000000000000000000000000000000000000000700022b80000, 0x0, 0x188⟩ P) {s path flags seq cmd status payload} (h_s : P s) : P (respond s path flags seq cmd status payload) := by
  unfold respond
  exact keep_pumpOut hk.le (hk.same h_s)

theorem keep_mbxOut {s} (hk : Kept ⟨0x40000000000000000000000000000000000000000000000000000000000000000000000000000000000000000000000000000000000000000000000000000000000040000000180000000000000000000000000000000000000000000000000000000000000000000000000000000000000000000000000000000000000000700022b80000, 0x0, 0x188⟩ P) (h_s : P s) :
    P (mbxOut s).1 := by
  unfold mbxOut
  exact keep_ite1 (keep_mk (keep_pumpOut hk.le (keep_ite (keep_State_put hk.le ((keep_State_dequeue hk.le h_s))) ((keep_State_dequeue hk.le h_s))))) (keep_mk h_s)

theorem keep_dropHead (hk : Kept ⟨0x40000000000000000000000000000000000000000000000000000000000000000000000000000000000000000000000000000000000000000000000000300022b80000, 0x0, 0x8⟩ P) {n s} (h_s : P s) : P (dropHead n s) := by
  induction n generalizing s with
  | zero => exact h_s
  | succ n ih =>
    unfold dropHead
    exact keep_ite h_s (keep_ite (keep_State_dequeue hk.le h_s) (ih (keep_State_dequeue hk.le h_s)))

theorem keep_outTimeout {s} (hk : Kept ⟨0x40000000000000000000000000000000000000000000000000000000000000000000000000000000000000000000000000000000000000000000000000000000000040000000580000000000000000000000000000000000000000000000000000000000000000000000000000000000000000000000000000000000000000700022b80000, 0x0, 0x188⟩ P) (h_s : P s) :
    P (outTimeout s) := by
  unfold outTimeout
  exact keep_ite (keep_pumpOut hk.le (keep_State_put hk.le (keep_State_put hk.le ((keep_State_count hk.le (keep_dropHead hk.le h_s)))))) h_s

theorem keep_frameArrived {s} {path} {f} (hk : Kept ⟨0x60000000000000000000000000000000000000000000000000000000000000000000000000000000000000000000000000000000000000000000000000000000000040000000180000000000000000000000000000000000000000000000000000000000000000000000000000000000000000000000000000000000000000700022b80000, 0x0, 0x188⟩ P) (h_s : P s) :
    P (frameArrived s path f) := by
  unfold frameArrived
  exact keep_ite (keep_State_count hk.le h_s) (keep_ite h_s (keep_ite (keep_respond hk.le h_s) (keep_State_put hk.le h_s)))

theorem keep_drainIn (hk : Kept ⟨0x60000000000000000000000000000000000000000000000000000000000000000000000000000000000000000000000000000000000000000000000000000000000040000000180000000000000000000000000000000000000000000000000000000000000000000000000000000000000000000000000000000000000000700022b80000, 0x0, 0x1c8⟩ P) {n s} (h_s : P s) : P (drainIn n s) := by
  induction n generalizing s with
  | zero => exact h_s
  | succ n ih =>
    unfold drainIn
    have h1 := keep_State_dequeue hk.le (q := 14) h_s
    exact keep_ite h_s (keep_ite (ih (keep_frameArrived hk.le (hk.rx _ _ _ h1))) (ih (hk.rx _ _ _ h1)))

theorem keep_offerEntry {s} {path} {w} (hk : Kept ⟨0x60000000000000000000000000000000000000000000000000000000000000000000000000000000000000000000000000000000000000000000000000000000000040000000380000000000000000000000000000000000000000000000000000000000000000000000000000000000000000000000000000000000000000700022b80000, 0x0, 0x1c8⟩ P) (h_s : P s) :
    P (offerEntry s path w) := by
  unfold offerEntry
  exact keep_ite (keep_State_count hk.le h_s) (keep_ite (keep_judgeMailbox hk.le (keep_State_put hk.le (keep_State_qDrop hk.le h_s))) (keep_judgeMailbox hk.le (keep_ite (keep_drainIn hk.le ((keep_State_enqueue hk.le h_s))) ((keep_State_enqueue hk.le h_s)))))

theorem keep_mbxIn {s} {w} (hk : Kept ⟨0x60000000000000000000000000000000000000000000000000000000000000000000000000000000000000000000000000000000000000000000000000000000000040000000380000000000000000000000000000000000000000000000000000000000000000000000000000000000000000000000000000000000000000700022b80000, 0x0, 0x1c8⟩ P) (h_s : P s) :
    P (mbxIn s w) := by
  unfold mbxIn
  exact keep_offerEntry hk.le h_s

theorem keep_frameWrite {s} {bytes} (hk : Kept ⟨0x600000000000000000000000000000000000000000000000000000000000000000000000000000000000000000000000000000000000000000000000000000000000c0000000380000000000000000000000000000000000000000000000000000000000000000000000000000000000000000000000000000000000000000700022b80000, 0x0, 0x1c8⟩ P) (h_s : P s) :
    P (frameWrite s bytes) := by
  unfold frameWrite
  exact keep_ite (keep_State_reply hk.le h_s) (keep_ite (keep_State_reply hk.le h_s) (keep_State_reply hk.le (keep_foldl (fun x0 x1 z2 => keep_offerEntry hk.le z2) h_s)))

theorem keep_frameRead (hk : Kept ⟨0x80000000000000000000000000000000000000000000000000000000000000000000000000000000000000000000000000000000000000000000000000000000000000, 0x0, 0x80⟩ P) {s} (h_s : P s) : P (frameRead s) := by
  unfold frameRead
  refine keep_ite (keep_State_reply hk.le h_s) ?_
  split
  · exact keep_State_reply hk.le h_s
  · exact keep_State_reply hk.le (hk.resp _ _ _ h_s)

theorem keep_discardPartial (hk : Kept ⟨0x0, 0x0, 0x40⟩ P) {s path} (h_s : P s) : P (discardPartial s path) := hk.rx _ _ _ h_s

end Sys2Proof.Laws
end

