-- ==== Sys2Proof/Laws/KeepPower.lean ====
section
/-! SUPPORT. Every definition of PWM, stop-bath, gate drive and drive state keeps a property that the primitive updates keep (Kept). -/

set_option Elab.async false

namespace Sys2Proof.Laws

open Machine

variable {P : State → Prop}

theorem keep_portOff {s} {p} (hk : Kept ⟨0x60000000000000000000000000000000300800000000000000000000000000000000000000000000000000000000000000000000000000000000000000000000000000000000000000000000000000000000000000000000000000000000000000000000000000000000000, 0x0, 0x0⟩ P) (h_s : P s) :
    P (portOff s p) := by
  unfold portOff
  exact keep_State_put hk.le (keep_State_put hk.le (keep_State_put hk.le (keep_State_put hk.le (keep_State_put hk.le h_s))))

theorem keep_portsOff {s} {ps} (hk : Kept ⟨0x60000000000000000000000000000000300800000000000000000000000000000000000000000000000000000000000000000000000000000000000000000000000000000000000000000000000000000000000000000000000000000000000000000000000000000000000, 0x0, 0x0⟩ P) (h_s : P s) :
    P (portsOff s ps) := by
  unfold portsOff
  exact keep_foldl (fun x0 x1 z2 => keep_portOff hk.le z2) h_s

theorem keep_slotPortsOff {s} {i} (hk : Kept ⟨0x60000000000000000000000000000000300800000000000000000000000000000000000000000000000000000000000000000000000000000000000000000000000000000000000000000000000000000000000000000000000000000000000000000000000000000000000, 0x0, 0x0⟩ P) (h_s : P s) :
    P (slotPortsOff s i) := by
  unfold slotPortsOff
  exact keep_portsOff hk.le h_s

theorem keep_loadAll {s} {g} (hk : Kept ⟨0x300000000000000000000000000000000000000000000000000000000000000000000000000000000000000000000000000000000000000000000000040004000000000000000000000000000000000000000000000000000000000000, 0x0, 0x0⟩ P) (h_s : P s) :
    P (loadAll s g) := by
  unfold loadAll
  exact keep_ite h_s (keep_foldl (fun x0 x1 z2 => keep_State_put hk.le z2) ((keep_State_setBit hk.le ((keep_State_put hk.le (keep_State_put hk.le h_s))))))

theorem keep_budgetPeriod {s} {p} (hk : Kept ⟨0x400000000000000000000000000000000000000000000000000000000000000000000000000000000000000000000000000000000000000000000000000000000000000000000000000000004002000000000000000000000000000000000000000000000000000000000000, 0x0, 0x0⟩ P) (h_s : P s) :
    P (budgetPeriod s p) := by
  unfold budgetPeriod
  exact keep_State_put hk.le (keep_State_put hk.le (keep_State_put hk.le h_s))

theorem keep_developPeriod {s} {p} (hk : Kept ⟨0x500000000000000000000000000000000000000000000000000000000000000000000000000000000000000000000000000000000000000000000000000000000000000000000000000000004002000000000000000000000000000000000000000000000000000000000000, 0x0, 0x0⟩ P) (h_s : P s) :
    P (developPeriod s p) := by
  unfold developPeriod
  exact keep_budgetPeriod hk.le (keep_State_put hk.le h_s)

theorem keep_showCompare {s} {p} {c} {full} (hk : Kept ⟨0x80000000000000000000000000000000000000000000000000000000000000000000000000000000000000000000000000000000000000000000010000000000000000000000000000000000000000000000000000000000000000, 0x0, 0x0⟩ P) (h_s : P s) :
    P (showCompare s p c full) := by
  unfold showCompare
  exact keep_State_put hk.le (keep_State_puti hk.le h_s)

theorem keep_developDuty {s} {p} (hk : Kept ⟨0x80000000000000000000000000000000000000000000000040000000000000000000000000000000000000000000000000000000000000000000010008000000000000000000000000000000000000000000000000300022b00000, 0x0, 0x8⟩ P) (h_s : P s) :
    P (developDuty s p) := by
  unfold developDuty
  split
  · exact keep_showCompare hk.le ((keep_ite (keep_State_post hk.le (keep_State_put hk.le h_s)) h_s))

theorem keep_loadPort {withTiming} {s} {p} (hk : Kept ⟨0x50000000000000000000000000000004008000000000000000000000000000000000000000000000004000000000000000000000000000000000000000000000000000000000000000000001c02a000000000000000000000000000000000000000000000000300022b00000, 0x780000007fec0000000000000000000000000000000000000000000000000000000, 0x8⟩ P) (h_s : P s) :
    P (loadPort withTiming s p) := by
  unfold loadPort
  extract_lets -merge -underBinder +onlyGivenNames y3
  have z4 : P y3 := keep_State_developList hk.le h_s
  clear_value y3
  extract_lets -merge -underBinder +onlyGivenNames y8
  have z9 : P y8 := keep_foldl (fun x10 x11 z12 => keep_State_put hk.le z12) z4
  clear_value y8
  extract_lets -merge -underBinder +onlyGivenNames y13
  have z14 : P y13 := keep_ite (keep_State_put hk.le z9) (keep_State_put hk.le z9)
  clear_value y13
  exact keep_ite (keep_developDuty hk.le ((keep_ite (keep_developPeriod hk.le z14) z14))) ((keep_ite (keep_developPeriod hk.le z14) z14))

theorem keep_loadDevelop {s} {g} (hk : Kept ⟨0x50000000000000000000000000000014008000000000000000000000000000000000000000000000004000000000000000000000000000000000000000000000000000000000000000000005c02e000000000000004040000000000000000000000000000000300022b00000, 0x780000007fec0000000000000000000000000000000000000000000000000000000, 0x8⟩ P) (h_s : P s) :
    P (loadDevelop s g) := by
  unfold loadDevelop
  extract_lets -merge -underBinder +onlyGivenNames y9
  clear_value y9
  extract_lets -merge -underBinder +onlyGivenNames y19
  have z20 : P y19 := keep_foldl (fun x21 x22 z23 => keep_loadPort hk.le z23) h_s
  clear_value y19
  extract_lets -merge -underBinder +onlyGivenNames y30
  have z31 : P y30 := keep_foldl (fun x32 x33 z34 => keep_putWindow hk.le z34) z20
  clear_value y30
  extract_lets -merge -underBinder +onlyGivenNames y38
  have z39 : P y38 := keep_foldl (fun x40 x41 z42 => keep_rejectWindow hk.le z42) z31
  clear_value y38
  extract_lets -merge -underBinder +onlyGivenNames y43
  have z44 : P y43 := by
    unfold y43
    split
    · exact z39
    · exact keep_State_post hk.le z39
  clear_value y43
  exact keep_foldl (fun x45 x46 z47 => keep_State_put hk.le z47) ((keep_State_setBit hk.le (keep_State_put hk.le z44)))

theorem keep_loadStep {s} {g} {t} (hk : Kept ⟨0x50000000000000000000000000000014008000000000000000000000000000000000000000000000004000000000000000000000000000000000000000000000000000000000000000000005c02e000000000000004040000000000000000000000000000000300022b00000, 0x780000007fec0000000000000000000000000000000000000000000000000000000, 0x8⟩ P) (h_s : P s) :
    P (loadStep s g t) := by
  unfold loadStep
  exact keep_ite h_s (keep_ite (keep_loadDevelop hk.le h_s) (keep_State_put hk.le h_s))

theorem keep_withRefresh {s} {p} {dt} {x} (hk : Kept ⟨0x7c000000000000000000000000000000600000000000000000000000000000000000000000000000000000000000000000000000000000000000000000000000000000000000000000000002400000000000000000000000000000000000000000000000000000000000000, 0x0, 0x0⟩ P) (h_s : P s) :
    P (withRefresh s p dt x) := by
  unfold withRefresh
  exact keep_State_put hk.le (keep_State_put hk.le (keep_State_put hk.le ((keep_State_put hk.le (keep_State_put hk.le (keep_State_count hk.le ((keep_State_put hk.le (keep_State_put hk.le (keep_State_put hk.le h_s))))))))))

theorem keep_interlockWait {s} {p} (hk : Kept ⟨0x8000000000000000000000000000000000000000000000000000000000000000000000, 0x0, 0x0⟩ P) (h_s : P s) :
    P (interlockWait s p) := by
  unfold interlockWait
  exact keep_State_freed hk.le (keep_State_put hk.le h_s)

theorem keep_startPort {s} {p} {c} {full} (hk : Kept ⟨0x7c000000000000000000000000000000600800000000000000000000000000000000000000000000000000000000000000000000000000000000000000000000000000000000000008000002400000000000000000000000000000000000000000000000000000000000000, 0x0, 0x0⟩ P) (h_s : P s) :
    P (startPort s p c full) := by
  unfold startPort
  extract_lets -merge -underBinder +onlyGivenNames y0 y1 y2 y3 y4 y5 y6 y7
  clear_value y0 y1 y2 y3 y4 y5 y6 y7
  extract_lets -merge -underBinder +onlyGivenNames y8
  have z9 : P y8 := keep_interlockWait hk.le (keep_State_put hk.le (keep_State_put hk.le h_s))
  clear_value y8
  refine keep_ite ?_ ?_
  · exact keep_withRefresh hk.le z9
  · extract_lets -merge -underBinder +onlyGivenNames y10
    have z11 : P y10 := keep_State_put hk.le (keep_State_put hk.le (keep_State_put hk.le z9))
    clear_value y10
    exact keep_ite (keep_State_put hk.le ((keep_State_put hk.le ((keep_State_put hk.le (keep_State_put hk.le z11)))))) (keep_State_count hk.le ((keep_State_put hk.le ((keep_State_put hk.le (keep_State_put hk.le z11))))))

theorem keep_developCompare {s} {p} (hk : Kept ⟨0x1c0000000000000000000000000000000000000000000000040000000000000000000000000000000000000000000000000000000000000000000010008000000000000000000000000000000000000000000000000300022b00000, 0x0, 0x8⟩ P) (h_s : P s) :
    P (developCompare s p) := by
  unfold developCompare
  exact keep_State_put hk.le (keep_State_put hk.le ((keep_showCompare hk.le ((keep_ite (keep_State_post hk.le (keep_State_put hk.le h_s)) h_s)))))

theorem keep_tripPeriod {s} {p} (hk : Kept ⟨0x200000000000000000000000000000000000000000f000000000000000000000000000000000000000000000000000000000000000000000000000000000000000000000000000000000000000000000080000000000000000000000000000000000000000000000000000000000000, 0x0, 0x0⟩ P) (h_s : P s) :
    P (tripPeriod s p) := by
  unfold tripPeriod
  exact keep_State_put hk.le (keep_State_put hk.le (keep_State_put hk.le (keep_State_put hk.le ((keep_ite (keep_State_put hk.le h_s) (keep_ite (keep_State_put hk.le ((keep_State_put hk.le h_s))) ((keep_State_put hk.le h_s))))))))

theorem keep_tripPort {s} {p} {high} (hk : Kept ⟨0x200000000000000000000000000000000000000020f000000000000000000000000000000000000000000000000000000000000000000000000000000000000000000000000000000000000000000000190000000000000000000000000000000000000000000000000000000000000, 0x0, 0x0⟩ P) (h_s : P s) :
    P (tripPort s p high) := by
  unfold tripPort
  extract_lets -merge -underBinder +onlyGivenNames y0
  have z1 : P y0 := keep_State_put hk.le h_s
  clear_value y0
  extract_lets -merge -underBinder +onlyGivenNames y2
  have z3 : P y2 := keep_ite (keep_State_put hk.le (keep_State_put hk.le h_s)) (keep_ite (keep_State_put hk.le z1) z1)
  clear_value y2
  exact keep_ite ((keep_State_put hk.le z3)) (keep_State_put hk.le (keep_State_count hk.le (keep_State_count hk.le (keep_State_put hk.le ((keep_State_put hk.le z3))))))

theorem keep_setTripActive {s} {p} (hk : Kept ⟨0x400000000000000000000000000000000000000000000000000000000000, 0x0, 0x0⟩ P) (h_s : P s) :
    P (setTripActive s p) := by
  unfold setTripActive
  exact keep_State_put hk.le h_s

theorem keep_bstPeriod {s} {p} (hk : Kept ⟨0x2000000000000000000000000000000006000000000000000000000000000000000000000000000000000000000000000000000000000000000000000000000000000000000000000004000000000000000000000000000000000000000000000000000000000000000000000, 0x0, 0x0⟩ P) (h_s : P s) :
    P (bstPeriod s p) := by
  unfold bstPeriod
  extract_lets -merge -underBinder +onlyGivenNames y0
  clear_value y0
  extract_lets -merge -underBinder +onlyGivenNames y1
  have z2 : P y1 := keep_State_count hk.le h_s
  clear_value y1
  extract_lets -merge -underBinder +onlyGivenNames y3
  have z4 : P y3 := keep_ite (keep_ite z2 (keep_State_put hk.le z2)) (keep_State_put hk.le h_s)
  clear_value y3
  exact keep_State_put hk.le ((keep_ite (keep_State_put hk.le z4) z4))

theorem keep_periodPort {s} {p} (hk : Kept ⟨0x20000020fc000000000000000000000000000006fcf80000000000000000000000000000000000000000000004000000000000000000000000000000000000000000000000000000000000000c000012599000000000000000000000000000000000000000000000000300022b00000, 0x0, 0x8⟩ P) (h_s : P s) :
    P (periodPort s p) := by
  unfold periodPort
  extract_lets -merge -underBinder +onlyGivenNames y0
  have z1 : P y0 := keep_State_put hk.le (keep_State_put hk.le h_s)
  clear_value y0
  extract_lets -merge -underBinder +onlyGivenNames y2
  have z3 : P y2 := keep_State_put hk.le (keep_State_put hk.le z1)
  clear_value y2
  extract_lets -merge -underBinder +onlyGivenNames y4
  have z5 : P y4 := keep_bstPeriod hk.le (keep_tripPeriod hk.le z3)
  clear_value y4
  extract_lets -merge -underBinder +onlyGivenNames y6
  have z7 : P y6 := keep_ite (keep_State_put hk.le z5) z5
  clear_value y6
  extract_lets -merge -underBinder +onlyGivenNames y8
  have z9 : P y8 := keep_developCompare hk.le z5
  clear_value y8
  extract_lets -merge -underBinder +onlyGivenNames y10
  have z11 : P y10 := by
    unfold y10
    refine keep_ite ?_ ?_
    · refine keep_ite ?_ ?_
      · split
        · exact keep_startPort hk.le ((keep_showCompare hk.le ((keep_ite (keep_State_post hk.le (keep_State_put hk.le z7)) z7))))
      · exact keep_portOff hk.le z5
    · exact keep_ite (keep_ite (keep_ite (keep_startPort hk.le (keep_State_put hk.le z5)) (keep_ite (keep_portOff hk.le z5) (keep_startPort hk.le z9))) (keep_ite (keep_portOff hk.le z5) (keep_State_put hk.le z5))) (keep_portOff hk.le z5)
  clear_value y10
  exact keep_ite (keep_tripPort hk.le z11) z11

theorem keep_appliedVoltage {s} {i} {posted} (hk : Kept ⟨0x300000000000001000000000000000000000000000000000000000000000000000000000000000000000000000000000000000000000000000000000000000000000000000000000000000000000000000000000000000000, 0x0, 0x0⟩ P) (h_s : P s) :
    P (appliedVoltage s i posted) := by
  unfold appliedVoltage
  extract_lets -merge -underBinder +onlyGivenNames y0 y1 y2
  have h : ∀ a w, P a → P (y2 a w) := by
    intro a w ha
    unfold y2
    extract_lets -merge -underBinder +onlyGivenNames k z1 z2
    have h1 : P z1 := keep_State_puti hk.le ha
    have h2 : P z2 := keep_ite (keep_State_puti hk.le h1) (keep_State_put hk.le h1)
    exact keep_ite (keep_State_put hk.le h2) (keep_ite (keep_State_puti hk.le h2) h2)
  exact h _ _ (h _ _ h_s)

theorem keep_halfRatePair {s} {i} {j} (hk : Kept ⟨0x4800000000000000000000000000000000000000000000000000000000000000000000000000000000000000000000000000000000000000000000000000000000000000000000000000000000000000000000000000000000000000000000000000000000000000000000000000000, 0x0, 0x0⟩ P) (h_s : P s) :
    P (halfRatePair s i j) := by
  unfold halfRatePair
  extract_lets -merge -underBinder +onlyGivenNames y0 y1 y2 y3 y4
  clear_value y0 y1 y2 y3 y4
  extract_lets -merge -underBinder +onlyGivenNames y5
  have z6 : ∀ x7 x8, P x7 → P (y5 x7 x8) := by
    intro x7 x8 z9
    exact keep_foldl (fun x10 x11 z12 => keep_State_put hk.le z12) z9
  clear_value y5
  exact keep_ite h_s (keep_ite (keep_State_put hk.le (keep_ite (z6 _ _ h_s) (z6 _ _ h_s))) (keep_ite (keep_ite (z6 _ _ h_s) (keep_State_put hk.le h_s)) (keep_ite (z6 _ _ h_s) (keep_State_put hk.le h_s))))

theorem keep_halfRate {s} {i} (hk : Kept ⟨0x4800000000000000000000000000000000000000000000000000000000000000000000000000000000000000000000000000000000000000000000000000000000000000000000000000000000000000000000000000000000000000000000000000000000000000000000000000000, 0x0, 0x0⟩ P) (h_s : P s) :
    P (halfRate s i) := by
  unfold halfRate
  exact keep_ite (keep_foldl (fun x0 x1 z2 => keep_halfRatePair hk.le z2) h_s) h_s

theorem keep_periodSlot {s} {i} (hk : Kept ⟨0x5800000800000000000000003000000000000000000000000000000000900070400000000000000000000000000000000000000000000000000000000000000000000000000000000000000000000000000000000000000000000000000000000000000000000000000000000000000, 0x0, 0x0⟩ P) (h_s : P s) :
    P (periodSlot s i) := by
  unfold periodSlot
  extract_lets -merge -underBinder +onlyGivenNames y3
  clear_value y3
  extract_lets -merge -underBinder +onlyGivenNames y7
  have z8 : P y7 := keep_ite (keep_ite (keep_State_put hk.le h_s) (keep_State_count hk.le h_s)) (keep_State_put hk.le h_s)
  clear_value y7
  extract_lets -merge -underBinder +onlyGivenNames y12
  have z13 : P y12 := keep_windowPattern hk.le z8
  clear_value y12
  extract_lets -merge -underBinder +onlyGivenNames y17
  have z18 : P y17 := keep_foldl (fun x19 x20 z21 => keep_State_clearAll hk.le z21) z13
  clear_value y17
  exact keep_ite (keep_State_put hk.le ((keep_State_put hk.le (keep_State_put hk.le ((keep_halfRate hk.le z18)))))) ((keep_State_put hk.le (keep_State_put hk.le ((keep_halfRate hk.le z18)))))

theorem keep_periodStart {s} {g} (hk : Kept ⟨0x7800002dfc000000000000003000000800000546fcf80030000000000190107040000000000000000000000004000000000000000000000000000000000000000000000000000000000000000c00005e5bf000000000000004040000000000000000000000000000000300022b00000, 0x780000007fec0000000000000000000000000000000000000000000000000000000, 0x1009⟩ P) (h_s : P s) :
    P (periodStart s g) := by
  unfold periodStart
  refine keep_ite ?_ ?_
  · exact h_s
  · extract_lets -merge -underBinder +onlyGivenNames y18
    clear_value y18
    extract_lets -merge -underBinder +onlyGivenNames y28
    have z29 : P y28 := keep_State_put hk.le (keep_State_atTick hk.le h_s)
    clear_value y28
    extract_lets -merge -underBinder +onlyGivenNames y42
    have z43 : P y42 := keep_foldl (fun x44 x45 z46 => keep_budgetPeriod hk.le z46) (keep_loadStep hk.le z29)
    clear_value y42
    exact keep_foldl (fun x56 x57 z58 => keep_appliedVoltage hk.le z58) ((keep_foldl (fun x53 x54 z55 => keep_ite z55 (keep_periodPort hk.le z55)) ((keep_foldl (fun x50 x51 z52 => keep_periodSlot hk.le z52) ((keep_foldl (fun x47 x48 z49 => keep_State_put hk.le (keep_State_put hk.le z49)) z43))))))

theorem keep_writeGroup {s} {p} {g} (hk : Kept ⟨0x1000000000000000000000000000000000000000000000000000000000000000000000000000000000000000000000000000000000000000000000000040000100000000000000000000000000000000000000000000000000000000, 0x0, 0x0⟩ P) (h_s : P s) :
    P (writeGroup s p g).1 := by
  unfold writeGroup
  exact keep_ite1 (keep_mk (keep_foldl (fun x0 x1 z2 => keep_State_put hk.le z2) h_s)) (keep_mk (keep_foldl (fun x3 x4 z5 => keep_State_put hk.le (keep_State_put hk.le z5)) h_s))

theorem keep_joinGroup {s} {p} (hk : Kept ⟨rall, 0x100000000000000000000000000000000000000000000000000000000, 0x0⟩ P) (h_s : P s) :
    P (joinGroup s p) := by
  unfold joinGroup
  extract_lets -merge -underBinder +onlyGivenNames y0 y1
  clear_value y0 y1
  extract_lets -merge -underBinder +onlyGivenNames y2
  have z3 : P y2 := keep_State_develop hk.le h_s
  clear_value y2
  extract_lets -merge -underBinder +onlyGivenNames y4
  have z5 : P y4 := by
    unfold y4
    split
    · exact keep_budgetPeriod hk.le (keep_foldl (fun x6 x7 z8 => keep_State_put_any hk.le z8) z3)
    · exact keep_budgetPeriod hk.le (keep_State_put hk.le z3)
  clear_value y4
  exact keep_State_put hk.le (keep_State_put hk.le (keep_portOff hk.le ((keep_State_put hk.le z5))))

theorem keep_groupTake {s} {p} (hk : Kept ⟨rall, 0x100000000000000000000000000000000000000000000000000000000, 0x8⟩ P) (h_s : P s) :
    P (groupTake s p) := by
  unfold groupTake
  exact keep_ite h_s (keep_ite (keep_joinGroup hk.le h_s) (keep_ite (keep_putWindow hk.le ((keep_foldl (fun x0 x1 z2 => keep_joinGroup hk.le z2) h_s))) (keep_rejectWindow hk.le (keep_foldl (fun x3 x4 z5 => keep_State_put hk.le (keep_State_put hk.le z5)) h_s))))

theorem keep_groupDevelop {s} (hk : Kept ⟨rall, 0x100000000000000000000000000000000000000000000000000000000, 0x8⟩ P) (h_s : P s) :
    P (groupDevelop s) := by
  unfold groupDevelop
  exact keep_State_each hk.le h_s (fun x0 x1 z2 => keep_groupTake hk.le z2)

theorem keep_tripClear {s} {p} (hk : Kept ⟨0x40000000000000000000000000000000000000000000000000000000000000000000000280c00000000000000000000000000000000000000000000000300022b00000, 0x0, 0x8⟩ P) (h_s : P s) :
    P (tripClear s p).1 := by
  unfold tripClear
  exact keep_ite1 (keep_mk (keep_State_post hk.le (keep_State_count hk.le (keep_State_put hk.le ((keep_setTripActive hk.le h_s)))))) (keep_mk (keep_State_put hk.le (keep_State_put hk.le ((keep_setTripActive hk.le h_s)))))

theorem keep_trigoPulse {s} {k} {t} {len} (hk : Kept ⟨0x1800000000000000000000000000000000000000000000000000000000000000000000000000000000000000000000000000000000000000000000000000000000000000000000000000000000000000000000000000000000000000000, 0x0, 0x0⟩ P) (h_s : P s) :
    P (trigoPulse s k t len) := by
  unfold trigoPulse
  exact keep_State_put hk.le (keep_State_put hk.le h_s)

theorem keep_trigoRoutes {s} {p} {src} {t} (hk : Kept ⟨0x1800000000000000000000000000000000000000000000000000000000000000000000000000000000000000000000000000000000000000000000000000000000000000000000000000000000000000000000000000000000000000000, 0x0, 0x0⟩ P) (h_s : P s) :
    P (trigoRoutes s p src t) := by
  unfold trigoRoutes
  exact keep_State_each hk.le h_s (fun x0 x1 z2 => keep_trigoPulse hk.le z2)

theorem keep_seqRoute {s} {p} {src} (hk : Kept ⟨0x30000000000000000000000000000000000000000000000000040000000000000000000000000000000000000000000000000000000000000000000001000000000000000000000000000000000000000000000000000300022b00000, 0x0, 0x8⟩ P) (h_s : P s) :
    P (seqRoute s p src) := by
  unfold seqRoute
  exact keep_ite (keep_State_count hk.le h_s) (keep_State_put hk.le (keep_State_put hk.le (keep_State_post hk.le h_s)))

theorem keep_sourceEvent {s} {p} {src} {sample} (hk : Kept ⟨0x1870000000000000000000000000000000000000000000000000040000000000000000000000000000000000000000000000000000000000000000000001000000000000000000000000000000000000000000000000000300022b00000, 0x0, 0x8⟩ P) (h_s : P s) (h_sample : ∀ v0 v1, P v0 → P (sample v0 v1)) :
    P (sourceEvent s p src sample) := by
  unfold sourceEvent
  exact keep_ite h_s (keep_ite (keep_State_put hk.le h_s) (keep_trigoRoutes hk.le ((keep_ite (h_sample _ _ ((keep_ite (keep_seqRoute hk.le ((keep_State_put hk.le h_s))) ((keep_State_put hk.le h_s))))) ((keep_ite (keep_seqRoute hk.le ((keep_State_put hk.le h_s))) ((keep_State_put hk.le h_s))))))))

theorem keep_setBudgetPeriod {s} {g} {long} (hk : Kept ⟨0x200000000000000000000000000000000000000000000000000000000000000000000000000000000000000000000000000000000000000000000000000000000000000000000000000000000000000000000000000000000000000000000000000000000000000000000000, 0x0, 0x0⟩ P) (h_s : P s) :
    P (setBudgetPeriod s g long) := by
  unfold setBudgetPeriod
  exact keep_foldl (fun x0 x1 z2 => keep_State_put hk.le z2) h_s

theorem keep_carriersRestart {s} (hk : Kept ⟨0x60000000000000001000000000000400300800000000000000000000000000000000000000000000000000000000000000000000000000000000000000000000000000000000000000000002080000000000000000000000000000000000000000000000000000000000000, 0x0, 0x0⟩ P) (h_s : P s) :
    P (carriersRestart s) := by
  unfold carriersRestart
  exact keep_foldl (fun x6 x7 z8 => keep_State_put hk.le (keep_State_put hk.le (keep_ite z8 (keep_portOff hk.le z8)))) ((keep_foldl (fun x3 x4 z5 => keep_State_put hk.le z5) ((keep_foldl (fun x0 x1 z2 => keep_State_put hk.le z2) h_s))))

theorem keep_judgeFaultn {s} (hk : Kept ⟨0x8000000000000000000000000000000000000000000000000000000000000000000000000000000000000000000000000000000000000000000000000000000000000000000000000000000000000000000000000000000000000000000000000000000000000800000000000, 0x0, 0x0⟩ P) (h_s : P s) :
    P (judgeFaultn s) := by
  unfold judgeFaultn
  exact keep_State_put hk.le ((keep_ite (keep_State_put hk.le h_s) h_s))

theorem keep_judgePower {s} {i} (hk : Kept ⟨0x10000000000000000000000000000000000000000000000000000000000000000000000000000000, 0x0, 0x0⟩ P) (h_s : P s) :
    P (judgePower s i) := by
  unfold judgePower
  exact keep_State_setBit hk.le ((keep_State_setBit hk.le ((keep_State_setBit hk.le h_s))))

theorem keep_judgePowers {s} (hk : Kept ⟨0x10000000000000000000000000000000000000000000000000000000000000000000000000000000, 0x0, 0x0⟩ P) (h_s : P s) :
    P (judgePowers s) := by
  unfold judgePowers
  exact keep_State_each hk.le h_s (fun x0 x1 z2 => keep_judgePower hk.le z2)

theorem keep_cutMotion {s} {i} (hk : Kept ⟨0x360000000000000e00800000000000000415600000001006284081020000002f05c02c6c200040000000000000004000080000000000000000000000000000000000000000000000000000000000000000c40000000000008000e00000483100000b00300022b80000, 0x0, 0x118⟩ P) (h_s : P s) :
    P (cutMotion s i) := by
  unfold cutMotion
  exact keep_homingAbort hk.le (keep_restRegulator hk.le (keep_probeAbort hk.le ((keep_State_clearAll hk.le (keep_State_put hk.le ((keep_State_puti hk.le (keep_publish hk.le ((keep_State_setMo hk.le ((keep_stripCancel hk.le (keep_leaveSegmentMode hk.le h_s)))))))))))))

theorem keep_driveDown {s} {i} {ds} (hk : Kept ⟨0x8000000000060000360000000000000e00800000000300800415600000001006284081020000002f05c02c6c600040000000000000004000080000000000000000000000000002800010000000000000000000000000000000c40000000000088000e00000483100000b00300022b80000, 0x100000000000000000000000000000000000000000001e00060000000000000000000000000000000000, 0x118⟩ P) (h_s : P s) :
    P (driveDown s i ds) := by
  unfold driveDown
  exact keep_ite (keep_slotPortsOff hk.le ((keep_restDevelop hk.le (keep_State_setBit hk.le ((keep_State_put hk.le (keep_cutMotion hk.le h_s))))))) ((keep_restDevelop hk.le (keep_State_setBit hk.le ((keep_State_put hk.le (keep_cutMotion hk.le h_s))))))

theorem keep_drivePort {s} {p} {v} (hk : Kept ⟨0x60000000000000000000000000000000300800000000000000000000000000000000000000000000000000000000000000000000000000000000000000000000000000000000000008000000000000000000000000000000000000000000000000000000000000000000000, 0x0, 0x0⟩ P) (h_s : P s) :
    P (drivePort s p v) := by
  unfold drivePort
  exact keep_ite (keep_portOff hk.le h_s) (keep_State_put hk.le (keep_interlockWait hk.le (keep_portOff hk.le h_s)))

theorem keep_applyVariant {s} {i} (hk : Kept ⟨0x60000000000000000000000000000000300800000000000000000000000000000000000000000000000000000000000000000000000000000000000000000000000000000000000008000000000000000000000000000000000000000000000000000000000000000000000, 0x0, 0x0⟩ P) (h_s : P s) :
    P (applyVariant s i) := by
  unfold applyVariant
  exact keep_foldl (fun x0 x1 z2 => keep_drivePort hk.le z2) h_s

theorem keep_setVariant {s} {i} {v} (hk : Kept ⟨0x60000000000000000000000040000000300c00000000000000000000000000000000000000000000000000000000000000000000000000000000000000000000000000002000000008000000000000000000000000000000000000000000000000000000000000000000000, 0x0, 0x0⟩ P) (h_s : P s) :
    P (setVariant s i v) := by
  unfold setVariant
  exact keep_ite h_s (keep_applyVariant hk.le (keep_ite (keep_State_put hk.le ((keep_State_put hk.le (keep_State_put hk.le h_s)))) ((keep_State_put hk.le (keep_State_put hk.le h_s)))))

theorem keep_scopeOff {s} {i} (hk : Kept ⟨0x60000000000000000000000040000000300c00000000000000000000000000000000000000000000000000000000000000000000000000000000000000000000000000002000000008000000000000000000000000000000000000000000000000000000000000000000000, 0x0, 0x0⟩ P) (h_s : P s) :
    P (scopeOff s i) := by
  unfold scopeOff
  exact keep_foldl (fun x0 x1 z2 => keep_setVariant hk.le z2) h_s

theorem keep_rechoose {s} {i} (hk : Kept ⟨0x60000000000000000000000040000000300c00000000000000000000000000000000000000000000000000000000000000000000000000000000000000000000000000002000000008000000000000000000000000000000000000000000000000000000000000000000000, 0x0, 0x0⟩ P) (h_s : P s) :
    P (rechoose s i) := by
  unfold rechoose
  exact keep_foldl (fun x0 x1 z2 => keep_setVariant hk.le z2) h_s

theorem keep_postBath {s} {i} {cause} (hk : Kept ⟨0x40000000000000000000000000000000000000000000000000000000000000000000000000000000000000000000000000000000000000000000000000300022b00000, 0x0, 0x8⟩ P) (h_s : P s) :
    P (postBath s i cause) := by
  unfold postBath
  exact keep_State_post hk.le h_s

theorem keep_bathSlot {mask} {scope} {cause} {s} {i} (hk : Kept ⟨0x60000360000000000000e00860000000300c00415600000001006284081020000002f05c02c6c20004000000000000000400008000000000000000000000000000000002e000000008000000000000000000000c40000000000008000e00000483100000b00300022b80000, 0x0, 0x118⟩ P) (h_s : P s) :
    P (bathSlot mask scope cause s i) := by
  unfold bathSlot
  extract_lets -merge -underBinder +onlyGivenNames y0
  have z1 : P y0 := keep_State_count hk.le h_s
  clear_value y0
  refine keep_ite ?_ ?_
  · exact z1
  · extract_lets -merge -underBinder +onlyGivenNames y2
    have z3 : P y2 := keep_State_put hk.le (keep_State_put hk.le (keep_State_put hk.le z1))
    clear_value y2
    exact keep_unhome hk.le (keep_postBath hk.le ((keep_applyVariant hk.le (keep_ite (keep_State_put hk.le ((keep_State_put hk.le (keep_cutMotion hk.le (keep_State_put hk.le z3))))) ((keep_State_put hk.le (keep_cutMotion hk.le (keep_State_put hk.le z3))))))))

theorem keep_enterBath {s} {slots} {scope} {cause} (hk : Kept ⟨0x60000360000000000000e00860000000300c00415600000001006284081020000002f05c02c6c20004000000000000000400008000000000000000000000000000000002e000000008000000000000000000000c40000000000008000e00000483100000b00300022b80000, 0x0, 0x118⟩ P) (h_s : P s) :
    P (enterBath s slots scope cause) := by
  unfold enterBath
  exact keep_foldl (fun x0 x1 z2 => keep_bathSlot hk.le z2) h_s

theorem keep_endBath {s} {i} (hk : Kept ⟨0x60000000000000000000000028000000300c00000000000000000000000000000000000000000000000000000000000000000000000000000000000000000000000000006200000000000000000000000000000000000000000000000000000000000000000000000000000, 0x0, 0x0⟩ P) (h_s : P s) :
    P (endBath s i) := by
  unfold endBath
  exact keep_ite h_s (keep_slotPortsOff hk.le (keep_State_setBit hk.le (keep_State_clearAll hk.le h_s)))

theorem keep_enterReaction {s} {i} {cause} {arg} (hk : Kept ⟨0x8000000360000000000000e00080000000000000000000000000000000000000000000000000000600040000000000000004000080000000000000000000000000000000010000000000000000000000000000000000000000000000000000000000000000100b00022b00000, 0x0, 0x108⟩ P) (h_s : P s) :
    P (enterReaction s i cause arg) := by
  unfold enterReaction
  exact keep_ite ((keep_ite (keep_State_post hk.le h_s) h_s)) (keep_judgeFaultn hk.le (keep_State_emcy hk.le ((keep_State_setBit hk.le (keep_State_put hk.le (keep_State_put hk.le (keep_stripCancel hk.le ((keep_ite (keep_State_post hk.le h_s) h_s)))))))))

theorem keep_allOffFault {s} {i} {cause} {arg} (hk : Kept ⟨0x8000000008060000360000000000000e008c0000000300c00415600000001006284081020000002f05c02c6c600040000000000000004000080000000000000000000000000002800012000000008000000000000000000000c40000000000088000e00000483100000b00b00022b80000, 0x100000000000000000000000000000000000000000001e00060000000000000000000000000000000000, 0x118⟩ P) (h_s : P s) :
    P (allOffFault s i cause arg) := by
  unfold allOffFault
  exact keep_slotPortsOff hk.le (keep_ite (keep_setVariant hk.le ((keep_driveDown hk.le (keep_enterReaction hk.le h_s)))) ((keep_driveDown hk.le (keep_enterReaction hk.le h_s))))

theorem keep_bathFault {s} {slots} {scope} {cause} {arg} (hk : Kept ⟨0x8000000008060000360000000000000e008e0000000300c00415600000001006284081020000002f05c02c6c60004000000000000000400008000000000000000000000000000280003e000000008000000000000000000000c40000000000088000e00000483100000b00b00022b80000, 0x100000000000000000000000000000000000000000001e00060000000000000000000000000000000000, 0x118⟩ P) (h_s : P s) :
    P (bathFault s slots scope cause arg) := by
  unfold bathFault
  exact keep_judgeFaultn hk.le (keep_foldl (fun x3 x4 z5 => keep_driveDown hk.le z5) ((keep_enterBath hk.le ((keep_foldl (fun x0 x1 z2 => keep_enterReaction hk.le z2) h_s)))))

theorem keep_plannedFault {s} {i} {cause} {rate} (hk : Kept ⟨0x8000000008060000360000000000000e00880000000300800415600000001006284081020000002f05c02c6c600040000000000000004000080000000000000000000000000002800010000000000000000000000000000000c40000000000088000e00000483100000b00b00022b80000, 0x100000000000000000000000000000000000000000001e00060000000000000000000000000000000000, 0x118⟩ P) (h_s : P s) :
    P (plannedFault s i cause rate) := by
  unfold plannedFault
  exact keep_ite h_s (keep_ite (keep_State_put hk.le (keep_requestStop hk.le (keep_leaveSources hk.le (keep_homingAbort hk.le (keep_probeAbort hk.le ((keep_enterReaction hk.le h_s))))))) (keep_judgeFaultn hk.le (keep_driveDown hk.le ((keep_enterReaction hk.le h_s)))))

theorem keep_portFault {s} {p} {cause} (hk : Kept ⟨0x8000000008060000360000000000000e008e0000000300c00415600000001006284081020000002f05c02c6c60004000000000000000400008000000000000000000000000000280003e000000008000000000000000000000c40000000000088000e00000483100000b00b00022b80000, 0x100000000000000000000000000000000000000000001e00060000000000000000000000000000000000, 0x118⟩ P) (h_s : P s) :
    P (portFault s p cause) := by
  unfold portFault
  exact keep_ite (keep_bathFault hk.le h_s) (keep_judgeFaultn hk.le (keep_State_emcy hk.le (keep_State_post hk.le h_s)))

theorem keep_enterRide {s} {i} (hk : Kept ⟨0x8000000020060000360000000000000e00900000000300800415600000001006284081020000002f05c02c6c600040000000000000004000080000000000000000000000000002800010000000000000000000000000000000c40000000000088000e00000483100000b00300022b80000, 0x100000000000000000000000000000000000000000001e00060000000000000000000000000000000000, 0x118⟩ P) (h_s : P s) :
    P (enterRide s i) := by
  unfold enterRide
  exact keep_ite h_s (keep_unhome hk.le (keep_State_post hk.le ((keep_State_setBit hk.le (keep_State_put hk.le (keep_State_put hk.le ((keep_driveDown hk.le h_s))))))))

theorem keep_loseSupply {s} {i} {cause} {arg} (hk : Kept ⟨0x8000000028060000360000000000000e009c0000000300c00415600000001006284081020000002f05c02c6c600040000000000000004000080000000000000000000000000002800012000000008000000000000000000000c40000000000088000e00000483100000b00b00022b80000, 0x100000000000000000000000000000000000000000001e00060000000000000000000000000000000000, 0x118⟩ P) (h_s : P s) :
    P (loseSupply s i cause arg) := by
  unfold loseSupply
  exact keep_ite h_s (keep_ite (keep_ite (keep_enterRide hk.le h_s) (keep_unhome hk.le (keep_allOffFault hk.le h_s))) (keep_ite (keep_unhome hk.le (keep_driveDown hk.le h_s)) (keep_unhome hk.le h_s)))

theorem keep_enableSlot {s} {i} {resume} (hk : Kept ⟨0x4000000000000000002000000200000006000300000000820001000000000000000000000000000400000000000000000000000000000000000000000000000000000000000000000000000000000000000100000040018000000000000000000000000000000000000000000, 0x0, 0x0⟩ P) (h_s : P s) :
    P (enableSlot s i resume) := by
  unfold enableSlot
  exact keep_State_put hk.le (keep_State_put hk.le (keep_State_put hk.le ((keep_State_setBit hk.le (keep_State_put hk.le (keep_State_put hk.le ((keep_foldl (fun x0 x1 z2 => keep_State_put hk.le (keep_State_put hk.le z2)) ((keep_observerEnable hk.le (keep_State_put hk.le h_s)))))))))))

theorem keep_powerBack {s} {i} (hk : Kept ⟨0x4000000000000000002000000200000006000300000000820001000000000000000000000000000400040000000000000000000000000000000000000000000000000000010000000000000000000000000100000040018000000000000000000000000000000300022b00000, 0x0, 0x8⟩ P) (h_s : P s) :
    P (powerBack s i) := by
  unfold powerBack
  exact keep_ite h_s (keep_ite (keep_enableSlot hk.le ((keep_State_post hk.le (keep_State_setBit hk.le h_s)))) (keep_State_put hk.le ((keep_State_post hk.le (keep_State_setBit hk.le h_s)))))

theorem keep_powerBackAll {s} (hk : Kept ⟨0x4000000000000000002000000200000006000300000000820001000000000000000000000000000400040000000000000000000000000000000000000000000000000000010000000000000000000000000100000040018000000000000000000000000000000300022b00000, 0x0, 0x8⟩ P) (h_s : P s) :
    P (powerBackAll s) := by
  unfold powerBackAll
  exact keep_State_each hk.le h_s (fun x0 x1 z2 => keep_powerBack hk.le z2)

theorem keep_tripInBath {s} {p} {high} (hk : Kept ⟨0x60000000000000000000000040000000300c00000000000000000000000000000000000000000000000000000000000000000000000000000000000000000000000000002000000008000000000000000000000000000000000000000000000000000000000000000000000, 0x0, 0x0⟩ P) (h_s : P s) :
    P (tripInBath s p high) := by
  unfold tripInBath
  exact keep_ite (keep_scopeOff hk.le h_s) h_s

theorem keep_shortTrip {s} {p} {high} {other} (hk : Kept ⟨0x8002000008060000360000000000000e008e000000030fc00415600000001006284081020000002f05c02c6c60004000000000000000400008000000000000000000000000000280003e0000000081d8000190400000000000c40000000000088000e00000483100000b00b00022b80000, 0x100000000000000000000000000000000000000000001e00060000000000000000000000000000000000, 0x118⟩ P) (h_s : P s) :
    P (shortTrip s p high other) := by
  unfold shortTrip
  extract_lets -merge -underBinder +onlyGivenNames y0
  have z1 : P y0 := keep_tripPort hk.le (keep_tripInBath hk.le (keep_State_put hk.le h_s))
  clear_value y0
  refine keep_ite ?_ ?_
  · exact z1
  · extract_lets -merge -underBinder +onlyGivenNames y2
    have z3 : P y2 := keep_ite (keep_State_put hk.le z1) (keep_State_put hk.le z1)
    clear_value y2
    exact keep_portFault hk.le ((keep_ite (keep_rechoose hk.le ((keep_setTripActive hk.le ((keep_portOff hk.le (keep_State_put hk.le (keep_State_put hk.le z3))))))) ((keep_setTripActive hk.le ((keep_portOff hk.le (keep_State_put hk.le (keep_State_put hk.le z3))))))))

theorem keep_tripLatchOff {s} {p} (hk : Kept ⟨0x8000000008060000360000000000000e008e0000000300c00415600000001006284081020000002f05c02c6c60004000000000000000400008000000000000000000000000000280003e000000008000000000800000000000c40000000000088000e00000483100000b00b00022b80000, 0x100000000000000000000000000000000000000000001e00060000000000000000000000000000000000, 0x118⟩ P) (h_s : P s) :
    P (tripLatchOff s p) := by
  unfold tripLatchOff
  exact keep_portFault hk.le (keep_State_post hk.le ((keep_portOff hk.le (keep_State_put hk.le h_s))))

theorem keep_tripnOn {s} {b} (hk : Kept ⟨0x200000006000000000000000000000004008000030fc00000000000000000000000000000000000000000000000000000000000000000000000000000000000000000000000000002000000008000000190400000000000000000000000000000000000000000000000000000000000, 0x0, 0x0⟩ P) (h_s : P s) :
    P (tripnOn s b) := by
  unfold tripnOn
  exact keep_foldl (fun x0 x1 z2 => keep_ite (keep_tripPort hk.le (keep_tripInBath hk.le ((keep_setTripActive hk.le z2)))) (keep_ite (keep_tripPort hk.le ((keep_setTripActive hk.le z2))) ((keep_setTripActive hk.le z2)))) ((keep_State_put hk.le h_s))

theorem keep_tripnOff {s} {b} (hk : Kept ⟨0x80000000000000000000000000000000000000000000000000000000000000000000000000000000000000000000000000000000000000000000000000000000400000000000000000000000000000000000000000000000000000000000, 0x0, 0x0⟩ P) (h_s : P s) :
    P (tripnOff s b) := by
  unfold tripnOff
  exact keep_foldl (fun x0 x1 z2 => keep_setTripActive hk.le z2) (keep_State_put hk.le h_s)

theorem keep_interlockTimeout {s} {p} (hk : Kept ⟨0x8000000008060000360000000000000e008e0000000300c00415600000001006284081020000002f05c02c6c60004000000000000000400008000000000000000000000000000280003e0000000082c0000000000000000000c40000000000088000e00000483100000b00b00022b80000, 0x100000000000000000000000000000000000000000001e00060000000000000000000000000000000000, 0x118⟩ P) (h_s : P s) :
    P (interlockTimeout s p) := by
  unfold interlockTimeout
  exact keep_portFault hk.le ((keep_portOff hk.le (keep_State_put hk.le (keep_State_put hk.le (keep_State_put hk.le ((keep_State_put hk.le h_s)))))))

theorem keep_forcePulse {s} {p} (hk : Kept ⟨0x7c000000000000000000000000000000400000000000000000000000000000000000000000000000000000000000000000000000000000000000000000000000000000000000000000000002400000000000000000000000000000000000000000000000000000000000000, 0x0, 0x0⟩ P) (h_s : P s) :
    P (forcePulse s p) := by
  unfold forcePulse
  exact keep_State_put hk.le (keep_State_put hk.le (keep_State_put hk.le (keep_State_put hk.le (keep_State_count hk.le ((keep_ite ((keep_State_put hk.le (keep_State_put hk.le h_s))) (keep_State_put hk.le ((keep_State_put hk.le (keep_State_put hk.le h_s))))))))))

theorem keep_bootstrapLockout {s} {p} (hk : Kept ⟨0x207c000000000000000000000040000000700c00000000000000000000000000000000000000000000000000000000000000000000000000000000000000000000000000002000000008420002400000000000000000000000000000000000000000000000000000000000000, 0x0, 0x0⟩ P) (h_s : P s) :
    P (bootstrapLockout s p) := by
  unfold bootstrapLockout
  exact keep_ite (keep_scopeOff hk.le ((keep_State_put hk.le (keep_State_put hk.le h_s)))) (keep_ite (keep_forcePulse hk.le (keep_State_put hk.le (keep_State_put hk.le ((keep_State_put hk.le (keep_State_put hk.le h_s)))))) ((keep_State_put hk.le (keep_State_put hk.le h_s))))

theorem keep_bootstrapRelease {s} {p} (hk : Kept ⟨0x2000000000000000000000000000000000200000000000000000000000000000000000000000000000000000000000000000000000000000000000000000000000000000000000000000020000000000000000000000000000000000000000000000000000000000000000000, 0x0, 0x0⟩ P) (h_s : P s) :
    P (bootstrapRelease s p) := by
  unfold bootstrapRelease
  exact keep_ite (keep_State_put hk.le (keep_State_put hk.le ((keep_State_put hk.le h_s)))) ((keep_State_put hk.le h_s))

theorem keep_bootstrapFault {s} {p} (hk : Kept ⟨0x8000000008060000360000000000000e008e0000002300c00415600000001006284081020000002f05c02c6c60004000000000000000400008000000000000000000000000000280003e0000000080c0000000000000000000c40000000000088000e00000483100000b00b00022b80000, 0x100000000000000000000000000000000000000000001e00060000000000000000000000000000000000, 0x118⟩ P) (h_s : P s) :
    P (bootstrapFault s p) := by
  unfold bootstrapFault
  exact keep_ite h_s (keep_ite (keep_portFault hk.le (keep_portOff hk.le (keep_State_put hk.le (keep_State_put hk.le ((keep_State_put hk.le h_s)))))) (keep_ite (keep_portFault hk.le ((keep_State_put hk.le h_s))) ((keep_State_put hk.le h_s))))

theorem keep_refuseClear {s} {p} {why} (hk : Kept ⟨0x40000000000000000000000000000000000000000000000000000000000000000800000000000000000000000000000000000000000000000000000000300022b00000, 0x0, 0x8⟩ P) (h_s : P s) :
    P (refuseClear s p why) := by
  unfold refuseClear
  exact keep_State_post hk.le (keep_State_put hk.le h_s)

theorem keep_clearGate {s} {p} (hk : Kept ⟨0x80000003600000000000000000000000000000000000000000000000000000000000000000000000000000000000000000000000000000000000000000000000000000000000000000000d8000000400000000000000000000000000000000000000000000000800000000000, 0x0, 0x100⟩ P) (h_s : P s) :
    P (clearGate s p) := by
  unfold clearGate
  exact keep_judgeFaultn hk.le (keep_ite (keep_State_emcyIfClear hk.le ((keep_setTripActive hk.le (keep_State_clearAll hk.le h_s)))) ((keep_setTripActive hk.le (keep_State_clearAll hk.le h_s))))

theorem keep_gdClear {s} {p} {gatesLow} (hk : Kept ⟨0x80000003600000000000000000000000080000000000000000000000000000000000000000000000000400000000000000000000000000000000000000000000000000000000000000008d8000000400000000000000000000000000000000000000000000000b00022b00000, 0x0, 0x108⟩ P) (h_s : P s) :
    P (gdClear s p gatesLow).1 := by
  unfold gdClear
  exact keep_ite1 (keep_mk (keep_refuseClear hk.le h_s)) (keep_ite1 (keep_mk h_s) (keep_ite1 (keep_mk (keep_State_put hk.le h_s)) (keep_ite1 (keep_mk (keep_refuseClear hk.le h_s)) (keep_mk (keep_clearGate hk.le h_s)))))

theorem keep_clearTrip {s} {p} (hk : Kept ⟨0x8000000360000000000000000000000000000000000000000000000000000000000000000000000000040000000000000000000000000000000000000000000000000000000000000000000000280c00000000000000000000000000000000000000000000000b00022b00000, 0x0, 0x108⟩ P) (h_s : P s) :
    P (clearTrip s p).1 := by
  unfold clearTrip
  extract_lets -merge -underBinder +onlyGivenNames y0
  clear_value y0
  split
  · rename_i y3 y4 q1
    have z2 : P y3 := keep_fst (keep_tripClear hk.le h_s) q1
    exact keep_mk (keep_judgeFaultn hk.le (keep_ite (keep_State_emcyIfClear hk.le z2) z2))

theorem keep_clearTrips (hk : Kept ⟨0x40000000000000000000000000000000000000000000000000000000000000000000000280c00000000000000000000000000000000000000000000000300022b00000, 0x0, 0x8⟩ P) {s i} (h_s : P s) : P (clearTrips s i).1 := by
  unfold clearTrips
  refine keep_foldl1 ?_ h_s
  intro x p hx
  exact keep_ite1 (keep_tripClear hk.le hx) hx

theorem keep_finishReset {s} {i} (hk : Kept ⟨0x80000000080600003600000000000000010a8000000300c00000000000000000000000000000000000000000400040000000000000000000000000000000000000000000000002800006200000000000000280c00000000000000000000000080000000000000000000000b00022b00000, 0x100000000000000000000000000000000000000000001e00060000000000000000000000000000000000, 0x108⟩ P) (h_s : P s) :
    P (finishReset s i) := by
  unfold finishReset
  refine keep_ite ?_ ?_
  · exact h_s
  · split
    · rename_i y2 y3 q0
      have z1 : P y2 := keep_fst (keep_clearTrips hk.le (keep_State_put hk.le h_s)) q0
      exact keep_ite z1 (keep_judgeFaultn hk.le (keep_State_emcyIfClear hk.le ((keep_restDevelop hk.le (keep_State_put hk.le (keep_State_put hk.le ((keep_slotPortsOff hk.le (keep_endBath hk.le z1)))))))))

theorem keep_faultReset {s} {i} {gatesLow} (hk : Kept ⟨0x80000000080600003600000000000000030e8000008300c000000000000000000000000000000000000000004000400000000000000000000000000000000000000000000000028000062000000088d8000280c00000000000000000000000080000000000000000000000b00022b00000, 0x100000000000000000000000000000000000000000001e00060000000000000000000000000000000000, 0x108⟩ P) (h_s : P s) :
    P (faultReset s i gatesLow) := by
  unfold faultReset
  refine keep_ite ?_ ?_
  · exact h_s
  · extract_lets -merge -underBinder +onlyGivenNames y12
    have z13 : P y12 := keep_State_put hk.le (keep_State_put hk.le h_s)
    clear_value y12
    extract_lets -merge -underBinder +onlyGivenNames y20
    have z21 : P y20 := keep_ite (keep_foldl (fun x22 x23 z24 => keep_setVariant hk.le z24) z13) z13
    clear_value y20
    extract_lets -merge -underBinder +onlyGivenNames y28
    have z29 : P y28 := by
      unfold y28
      refine keep_foldl ?_ ?_
      · intro x36 x37 z38
        refine keep_ite ?_ ?_
        · split
          · rename_i y41 y42 q39
            have z40 : P y41 := keep_fst (keep_gdClear hk.le z38) q39
            exact keep_ite (keep_State_put hk.le z40) z40
        · exact z38
      · exact z21
    clear_value y28
    exact keep_finishReset hk.le z29

theorem keep_legTestResult {s} {p} {passed} (hk : Kept ⟨0x80000000080600003600000000000000030a8000008300c000000000000000000000000000000000000000004000c00000000000000000000000000000000000000000000000028000062000000008d8000280c00000000000000000000000080000000000000000000000b00022b00000, 0x100000000000000000000000000000000000000000001e00060000000000000000000000000000000000, 0x108⟩ P) (h_s : P s) :
    P (legTestResult s p passed) := by
  unfold legTestResult
  refine keep_ite ?_ ?_
  · exact h_s
  · extract_lets -merge -underBinder +onlyGivenNames y0
    have z1 : P y0 := keep_State_put hk.le h_s
    clear_value y0
    extract_lets -merge -underBinder +onlyGivenNames y2 y3
    clear_value y2 y3
    extract_lets -merge -underBinder +onlyGivenNames y4
    have z5 : P y4 := keep_ite (keep_clearGate hk.le z1) (keep_refuseClear hk.le z1)
    clear_value y4
    exact keep_ite (keep_finishReset hk.le (keep_ite ((keep_State_reply hk.le z5)) (keep_State_put hk.le ((keep_State_reply hk.le z5))))) ((keep_State_reply hk.le z5))

theorem keep_setBusStat {s} {new} (hk : Kept ⟨0x800000000000000000000000000000000000000000000000000000000000000000000000000000000004000000000000000000000000000000000000000000000000000001000c000000000000000000000000000000000000000000000000000000000000000b00022b00000, 0x0, 0x8⟩ P) (h_s : P s) :
    P (setBusStat s new) := by
  unfold setBusStat
  exact keep_ite h_s (keep_judgeFaultn hk.le (keep_judgePowers hk.le (keep_State_post hk.le ((keep_State_put hk.le (keep_State_put hk.le h_s))))))

theorem keep_brakeStop {s} (hk : Kept ⟨0x60000000000000000000000000000000300800000000000000000000000000000000000000000000000000000000000000000000000000000000000000000000000000000004000000000000000000000000000000000000000000000000000000000000000000000000000, 0x0, 0x0⟩ P) (h_s : P s) :
    P (brakeStop s) := by
  unfold brakeStop
  exact keep_ite (keep_portOff hk.le (keep_State_setBit hk.le h_s)) h_s

theorem keep_judgeBrake {s} (hk : Kept ⟨0x60000000000000000000000000000000300800000000000000000000000000000000000000000000000000000000000000000000000000000000000000000000000000000024000000000000000000000000000000000000000000000000000000000000000000000000000, 0x0, 0x0⟩ P) (h_s : P s) :
    P (judgeBrake s) := by
  unfold judgeBrake
  exact keep_ite (keep_brakeStop hk.le (keep_State_put hk.le h_s)) (keep_ite (keep_brakeStop hk.le h_s) h_s)

theorem keep_busCoast {s} (hk : Kept ⟨0x8000000028060000360000000000000e009c0800000300c00415600000001006284081020000002f05c02c6c600040000000000000004000080000000000000000000000000002800012040000008000000000000000000000c40000000000088000e00000483100000b00b00022b80000, 0x100000000000000000000000000000000000000000001e00060000000000000000000000000000000000, 0x118⟩ P) (h_s : P s) :
    P (busCoast s) := by
  unfold busCoast
  exact keep_judgeFaultn hk.le (keep_foldl (fun x3 x4 z5 => keep_loseSupply hk.le z5) ((keep_foldl (fun x0 x1 z2 => keep_ite z2 (keep_portOff hk.le z2)) ((keep_State_put hk.le ((keep_State_count hk.le h_s)))))))

theorem keep_setCoast {s} (hk : Kept ⟨0x8000000028060000360000000000000e009c0800000300c00415600000001006284081020000002f05c02c6c60004000000000000000400008000000000000000000000000000280001204c000008000000000000000000000c40000000000088000e00000483100000b00b00022b80000, 0x100000000000000000000000000000000000000000001e00060000000000000000000000000000000000, 0x118⟩ P) (h_s : P s) :
    P (setCoast s) := by
  unfold setCoast
  exact keep_ite (keep_State_put hk.le h_s) (keep_busCoast hk.le (keep_setBusStat hk.le h_s))

theorem keep_busOver {s} (hk : Kept ⟨0x8000000028060000360000000000000e009e0000000300c00415600000001006284081020000002f05c02c6c60004000000000000000400008000000000000000000000000000280003e100000008000000000000000000000c40000000000088000e00000483100000b00b00022b80000, 0x100000000000000000000000000000000000000000001e00060000000000000000000000000000000000, 0x118⟩ P) (h_s : P s) :
    P (busOver s) := by
  unfold busOver
  extract_lets -merge -underBinder +onlyGivenNames y6
  have z7 : P y6 := keep_State_count hk.le h_s
  clear_value y6
  extract_lets -merge -underBinder +onlyGivenNames y14 y21 y28 y35
  clear_value y14 y21 y28 y35
  extract_lets -merge -underBinder +onlyGivenNames y42
  have z43 : P y42 := keep_foldl (fun x44 x45 z46 => keep_enterReaction hk.le z46) z7
  clear_value y42
  extract_lets -merge -underBinder +onlyGivenNames y50
  have z51 : P y50 := keep_enterBath hk.le z43
  clear_value y50
  extract_lets -merge -underBinder +onlyGivenNames y55
  have z56 : P y55 := by
    unfold y55
    refine keep_foldl ?_ ?_
    · intro x63 x64 z65
      split
      · exact keep_State_put hk.le (keep_State_put hk.le (keep_State_put hk.le ((keep_ite z65 (keep_State_post hk.le (keep_State_setBit hk.le z65))))))
    · exact z51
  clear_value y55
  exact keep_judgeFaultn hk.le (keep_foldl (fun x66 x67 z68 => keep_driveDown hk.le z68) z56)

theorem keep_busOverEnd {s} (hk : Kept ⟨0xc000000000000000000000000000000000000000000000000000000000000000000000000000000000000000000000000000000000000000000000000000000000000000000000000000000000000000000000000000000000000000000000, 0x0, 0x0⟩ P) (h_s : P s) :
    P (busOverEnd s) := by
  unfold busOverEnd
  exact keep_State_each hk.le ((keep_State_put hk.le h_s)) (fun x0 x1 z2 => keep_State_put hk.le z2)

theorem keep_busLowEnd {s} {release} (hk : Kept ⟨0x2000000000000000000000000000000000000000000000000000000000000000000000000000000000000000000000000000000000000000000000000000000000000000000000000000000000000000000000000000000000000000000000, 0x0, 0x0⟩ P) (h_s : P s) (h_release : ∀ v0 v1, P v0 → P (release v0 v1)) :
    P (busLowEnd s release) := by
  unfold busLowEnd
  exact keep_ite (keep_State_each hk.le ((keep_State_put hk.le h_s)) (fun x0 x1 z2 => h_release _ _ z2)) h_s

theorem keep_judgeBus {s} {mv} {release} (hk : Kept ⟨0x8000000028060000360000000000000e009ff800000300c00415600000001006284081020000002f05c02c6c60004000000000000000400008000000000000000000000000000280003e1ce000008000000000000000000000c40000000000088000e00000483100000b00b00022b80000, 0x100000000000000000000000000000000000000000001e00060000000000000000000000000000000000, 0x118⟩ P) (h_s : P s) (h_release : ∀ v0 v1, P v0 → P (release v0 v1)) :
    P (judgeBus s mv release) := by
  unfold judgeBus
  extract_lets -merge -underBinder +onlyGivenNames y3
  have z4 : P y3 := keep_State_put hk.le (keep_State_put hk.le h_s)
  clear_value y3
  extract_lets -merge -underBinder +onlyGivenNames y8 y12 y16 y20 y24 y28 y32
  clear_value y8 y12 y16 y20 y24 y28 y32
  extract_lets -merge -underBinder +onlyGivenNames y36
  have z37 : P y36 := keep_setBusStat hk.le z4
  clear_value y36
  extract_lets -merge -underBinder +onlyGivenNames y41
  have z42 : P y41 := keep_ite (keep_State_put hk.le z37) (keep_ite (keep_busLowEnd hk.le z37 (fun x43 x44 z45 => h_release _ _ z45)) z37)
  clear_value y41
  extract_lets -merge -underBinder +onlyGivenNames y46
  clear_value y46
  extract_lets -merge -underBinder +onlyGivenNames y47
  have z48 : P y47 := keep_State_count hk.le z42
  clear_value y47
  extract_lets -merge -underBinder +onlyGivenNames y49
  clear_value y49
  extract_lets -merge -underBinder +onlyGivenNames y50
  have z51 : P y50 := keep_ite (keep_ite (keep_State_put hk.le (keep_State_put hk.le (keep_State_put hk.le z48))) z48) (keep_ite (keep_portOff hk.le z42) z42)
  clear_value y50
  extract_lets -merge -underBinder +onlyGivenNames y52
  have z53 : P y52 := keep_ite (keep_busCoast hk.le z51) z51
  clear_value y52
  extract_lets -merge -underBinder +onlyGivenNames y54
  have z55 : P y54 := keep_ite z53 (keep_ite (keep_State_put hk.le z53) (keep_ite (keep_State_put hk.le z53) z53))
  clear_value y54
  exact keep_ite (keep_busOver hk.le z55) (keep_ite (keep_busOverEnd hk.le z55) z55)

theorem keep_busStale {s} (hk : Kept ⟨0x806000000000000000000000000000000030080000000000000000000000000000000000000000000004000000000000000000000000000000000000000000000000000001000c000000000000000000000000000000000000000000000000000000000000000b00022b00000, 0x0, 0x8⟩ P) (h_s : P s) :
    P (busStale s) := by
  unfold busStale
  exact keep_ite h_s (keep_setBusStat hk.le ((keep_State_setBit hk.le (keep_brakeStop hk.le h_s))))

theorem keep_coastEnd {s} (hk : Kept ⟨0xc00000000000000000200000020000000600030000000082000100000000000000000000000000040004000000000000000000000000000000000000000000000000000001000c000000000000000000000100000040018000000000000000000000000000000b00022b00000, 0x0, 0x8⟩ P) (h_s : P s) :
    P (coastEnd s) := by
  unfold coastEnd
  exact keep_ite (keep_powerBackAll hk.le (keep_setBusStat hk.le h_s)) h_s

theorem keep_hardOver {s} {b} (hk : Kept ⟨0x8000000008062000360000000000000e008e0000000300c00415600000001006284081020000002f05c02c6c60004000000000000000400008000000000000000000000000000280003e000000848000000000000000000000c40000000000088000e00000483100000b00b00022b80000, 0x100000000000000000000000000000000000000000001e00060000000000000000000000000000000000, 0x118⟩ P) (h_s : P s) :
    P (hardOver s b) := by
  unfold hardOver
  refine keep_ite ?_ ?_
  · exact h_s
  · extract_lets -merge -underBinder +onlyGivenNames y6
    have z7 : P y6 := keep_State_put hk.le (keep_State_put hk.le h_s)
    clear_value y6
    exact keep_bathFault hk.le ((keep_ite (keep_State_post hk.le ((keep_foldl (fun x8 x9 z10 => keep_ite (keep_portOff hk.le (keep_State_put hk.le z10)) z10) z7))) ((keep_foldl (fun x8 x9 z10 => keep_ite (keep_portOff hk.le (keep_State_put hk.le z10)) z10) z7))))

theorem keep_overReturn {s} (hk : Kept ⟨0x4060000000000000002000000228000006300f00000000820001000000000000000000000000000400040000000000000000000000000000000000000000000000000000016200000000000000000000000100000040018000000000000000000000000000000300022b00000, 0x0, 0x8⟩ P) (h_s : P s) :
    P (overReturn s) := by
  unfold overReturn
  exact keep_ite h_s (keep_State_each hk.le h_s (fun x0 x1 z2 => keep_powerBack hk.le (keep_endBath hk.le z2)))

theorem keep_comparatorRelease {s} {b} {coast} {hard} (hk : Kept ⟨0xc00000000000000000200000020000000600030000000082000100000000000000000000000000040004000000000000000000000000000000000000000000000000000001000c0000c0000000000000000100000040018000000000000000000000000000000b00022b00000, 0x0, 0x8⟩ P) (h_s : P s) :
    P (comparatorRelease s b coast hard) := by
  unfold comparatorRelease
  exact keep_judgeFaultn hk.le (keep_coastEnd hk.le (keep_ite (keep_State_put hk.le ((keep_ite (keep_State_put hk.le h_s) h_s))) ((keep_ite (keep_State_put hk.le h_s) h_s))))

theorem keep_vdrvLockout {s} {b} {mv} (hk : Kept ⟨0x8000000028060000360000000000000e009c0206000300c00415600000001006284081020000002f05c02c6c600040000000000000004000080000000000000000000000000002800012000009118000000000000000000000c40000000000088000e00000483100000b00b00022b80000, 0x100000000000000000000000000000000000000000001e00060000000000000000000000000000000000, 0x118⟩ P) (h_s : P s) :
    P (vdrvLockout s b mv) := by
  unfold vdrvLockout
  extract_lets -merge -underBinder +onlyGivenNames y0
  have z1 : P y0 := keep_State_put hk.le h_s
  clear_value y0
  refine keep_ite ?_ ?_
  · exact z1
  · extract_lets -merge -underBinder +onlyGivenNames y2
    have z3 : P y2 := keep_ite (keep_portsOff hk.le (keep_State_put hk.le (keep_State_put hk.le (keep_State_put hk.le z1)))) z1
    clear_value y2
    refine keep_ite ?_ ?_
    · exact z3
    · extract_lets -merge -underBinder +onlyGivenNames y10
      have z11 : P y10 := keep_State_count hk.le (keep_State_put hk.le (keep_State_put hk.le z3))
      clear_value y10
      exact keep_judgeFaultn hk.le ((keep_foldl (fun x12 x13 z14 => keep_loseSupply hk.le (keep_ite (keep_slotPortsOff hk.le ((keep_rechoose hk.le z14))) ((keep_rechoose hk.le z14)))) ((keep_judgePowers hk.le ((keep_portsOff hk.le (keep_State_post hk.le z11)))))))

theorem keep_bankBack {s} {b} (hk : Kept ⟨0xc000000000000000002000000200000006000300000000820001000000000000000000000000000400040000000000000000000000000000000000000000000000000000010000000000000000000000000100000040018000000000000000000000000000000b00022b00000, 0x0, 0x8⟩ P) (h_s : P s) :
    P (bankBack s b) := by
  unfold bankBack
  exact keep_judgeFaultn hk.le (keep_foldl (fun x0 x1 z2 => keep_powerBack hk.le z2) h_s)

theorem keep_vdrvRelease {s} {b} {mv} (hk : Kept ⟨0xc000000000000000002000000200000006000300000000820001000000000000000000000000000400040000000000000000000000000000000000000000000000000000010000001010000000000000000100000040018000000000000000000000000000000b00022b00000, 0x0, 0x8⟩ P) (h_s : P s) :
    P (vdrvRelease s b mv) := by
  unfold vdrvRelease
  exact keep_ite ((keep_State_put hk.le h_s)) (keep_bankBack hk.le (keep_judgePowers hk.le (keep_State_post hk.le (keep_State_put hk.le ((keep_State_put hk.le h_s))))))

theorem keep_sendRoles {s} {b} (hk : Kept ⟨0x80000000000000000000000000000000000000000000000000000000000000000000000000000000000000000000000000000000000000000000000000000000000000000000000000000000000000000000000000000000000000000, 0x0, 0x0⟩ P) (h_s : P s) :
    P (sendRoles s b) := by
  unfold sendRoles
  exact keep_foldl (fun x0 x1 z2 => keep_State_put hk.le z2) h_s

theorem keep_bankRelease {s} {b} (hk : Kept ⟨0xc000000000000000002000000200202086000300000000820001000000000000000000000000000400040000000000000000000000000000000000000000000000000000010000000000000000000000000100000040018000000000000000000000000000000b00022b00000, 0x0, 0x8⟩ P) (h_s : P s) :
    P (bankRelease s b) := by
  unfold bankRelease
  exact keep_ite h_s (keep_bankBack hk.le (keep_State_put hk.le (keep_State_put hk.le (keep_sendRoles hk.le h_s))))

theorem keep_dieBath {s} {slots} {scope} {cause} (hk : Kept ⟨0x60000360000000000000e00860000000300c00415600000001006284081020000002f05c02c6c20004000000000000000400008000000000000000000000000000000002e000000008000000000000000000000c40000000000008000e00000483100000b00300022b80000, 0x0, 0x118⟩ P) (h_s : P s) :
    P (dieBath s slots scope cause) := by
  unfold dieBath
  exact keep_enterBath hk.le (keep_foldl (fun x0 x1 z2 => keep_applyVariant hk.le z2) h_s)

theorem keep_watchdogExpiry {s} {b} (hk : Kept ⟨0x8000000008060000360000000000000e008e0044000300c00415600000001006284081020000002f05c02c6c60004000000000000000400008000000000000000000000000000280003e000010208000000000000000000000c40000000000088000e00000483100000b00b00022b80000, 0x100000000000000000000000000000000000000000001e00060000000000000000000000000000000000, 0x118⟩ P) (h_s : P s) :
    P (watchdogExpiry s b) := by
  unfold watchdogExpiry
  refine keep_ite ?_ ?_
  · exact h_s
  · refine keep_ite ?_ ?_
    · exact keep_foldl (fun x12 x13 z14 => keep_State_put hk.le z14) (keep_State_put hk.le h_s)
    · extract_lets -merge -underBinder +onlyGivenNames y18
      have z19 : P y18 := keep_State_count hk.le (keep_State_put hk.le (keep_State_put hk.le h_s))
      clear_value y18
      extract_lets -merge -underBinder +onlyGivenNames y26
      have z27 : P y26 := keep_State_put hk.le z19
      clear_value y26
      extract_lets -merge -underBinder +onlyGivenNames y34
      have z35 : P y34 := keep_foldl (fun x36 x37 z38 => keep_ite (keep_portOff hk.le z38) z38) z27
      clear_value y34
      extract_lets -merge -underBinder +onlyGivenNames y48
      clear_value y48
      exact keep_ite (keep_judgeFaultn hk.le (keep_foldl (fun x52 x53 z54 => keep_driveDown hk.le z54) (keep_dieBath hk.le ((keep_foldl (fun x49 x50 z51 => keep_enterReaction hk.le z51) ((keep_ite (keep_State_post hk.le z35) z35))))))) (keep_bathFault hk.le (keep_foldl (fun x55 x56 z57 => keep_applyVariant hk.le z57) ((keep_ite (keep_State_post hk.le z35) z35))))

theorem keep_dieRelease {s} {b} (hk : Kept ⟨0xc060000000000000002000000228206086300f00000000820001000000000000000000000000000400040000000000000000000000000000000000000000000000000000016200000008000002080000000100000040018000000000000000000000000000000b00022b00000, 0x0, 0x8⟩ P) (h_s : P s) :
    P (dieRelease s b) := by
  unfold dieRelease
  refine keep_ite ?_ ?_
  · exact h_s
  · extract_lets -merge -underBinder +onlyGivenNames y12
    have z13 : P y12 := keep_State_put hk.le (keep_State_put hk.le (keep_sendRoles hk.le (keep_State_put hk.le h_s)))
    clear_value y12
    exact keep_bankBack hk.le ((keep_foldl (fun x17 x18 z19 => keep_ite (keep_endBath hk.le z19) (keep_ite (keep_applyVariant hk.le z19) z19)) ((keep_foldl (fun x14 x15 z16 => keep_ite (keep_State_put hk.le (keep_State_put hk.le z16)) z16) z13))))

theorem keep_dieHot {s} {b} (hk : Kept ⟨0x8000000008062000360000000000000e008c0100000300c00415600000001006284081020000002f05c02c6c600040000000000000004000080000000000000000000000000002800012000000428000000000000000000000c40000000000088000e00000483100000b00b00022b80000, 0x100000000000000000000000000000000000000000001e00060000000000000000000000000000000000, 0x118⟩ P) (h_s : P s) :
    P (dieHot s b) := by
  unfold dieHot
  refine keep_ite ?_ ?_
  · exact h_s
  · extract_lets -merge -underBinder +onlyGivenNames y6
    have z7 : P y6 := keep_State_put hk.le (keep_State_put hk.le (keep_State_put hk.le h_s))
    clear_value y6
    extract_lets -merge -underBinder +onlyGivenNames y14
    have z15 : P y14 := keep_foldl (fun x16 x17 z18 => keep_ite (keep_State_put hk.le z18) z18) (keep_portsOff hk.le z7)
    clear_value y14
    exact keep_judgeFaultn hk.le (keep_foldl (fun x19 x20 z21 => keep_allOffFault hk.le z21) ((keep_ite (keep_State_post hk.le z15) z15)))

theorem keep_dieCool {s} {b} {temp} (hk : Kept ⟨0x8000000000000000000000000000100000000000000000000000000000000000000000000000000000000000000000000000000000000000000000000000000000000000000000000020000000000000000000000000000000000000000000000000000000000800000000000, 0x0, 0x0⟩ P) (h_s : P s) :
    P (dieCool s b temp) := by
  unfold dieCool
  exact keep_judgeFaultn hk.le (keep_ite (keep_State_put hk.le ((keep_ite (keep_State_put hk.le h_s) h_s))) ((keep_ite (keep_State_put hk.le h_s) h_s)))

theorem keep_writePwmEn {s} {p} {on} (hk : Kept ⟨0x8000000008062000360000000000000e008c0000000300c00415600000001006284081020000002f05c02c6c600040000000000000004000080000000000000000000000000002800012024000008000000000080000000000c40000000000088000e00000483100000b00b00022b80000, 0x100000000000000000000000000000000000000000001e00060000000000000000000000000000000000, 0x118⟩ P) (h_s : P s) :
    P (writePwmEn s p on) := by
  unfold writePwmEn
  extract_lets -merge -underBinder +onlyGivenNames y9
  clear_value y9
  refine keep_ite ?_ ?_
  · exact keep_foldl (fun x19 x20 z21 => keep_State_put hk.le (keep_State_put hk.le z21)) h_s
  · extract_lets -merge -underBinder +onlyGivenNames y28
    have z29 : P y28 := keep_foldl (fun x30 x31 z32 => keep_State_put hk.le z32) h_s
    clear_value y28
    extract_lets -merge -underBinder +onlyGivenNames y36
    have z37 : P y36 := keep_foldl (fun x38 x39 z40 => keep_ite z40 (keep_portOff hk.le z40)) z29
    clear_value y36
    extract_lets -merge -underBinder +onlyGivenNames y41
    have z42 : P y41 := keep_judgeBrake hk.le z37
    clear_value y41
    exact keep_ite z42 (keep_ite (keep_judgeFaultn hk.le (keep_allOffFault hk.le (keep_State_post hk.le z42))) (keep_ite (keep_driveDown hk.le z42) (keep_ite (keep_postBath hk.le ((keep_setVariant hk.le z42))) z42)))

theorem keep_writeSbCmd {s} {v} (hk : Kept ⟨0x8000000000060000360000000000000e00868000000300c00415600000001006284081020000002f05c02c6c60004000000000000000400008000000000000000000000000000280003e200000008000000000000000000000c40000000000088000e00000483100000b00300022b80000, 0x100000000000000000000000000000000000000000001e00060000000000000000000000000000000000, 0x118⟩ P) (h_s : P s) :
    P (writeSbCmd s v) := by
  unfold writeSbCmd
  exact keep_foldl (fun x0 x1 z2 => keep_ite (keep_ite (keep_driveDown hk.le ((keep_enterBath hk.le (keep_State_setBit hk.le z2)))) z2) (keep_ite (keep_ite (keep_endBath hk.le ((keep_State_setBit hk.le z2))) ((keep_State_setBit hk.le z2))) z2)) h_s

theorem keep_hsExpiry {s} {i} (hk : Kept ⟨0x60000000000000000000000040000000300c00000000000000000000000000000000000000000000000000000000000000000000000000000000000000000000000000002000000008000000000000000000000000000000000000000000000000000000000000000000000, 0x0, 0x0⟩ P) (h_s : P s) :
    P (hsExpiry s i) := by
  unfold hsExpiry
  exact keep_ite (keep_scopeOff hk.le h_s) h_s

theorem keep_judgeBathStill {s} {i} (hk : Kept ⟨0x400000000000000000000000000000000000000000000000000000000000000000000000000000000000000000000000000000000000000000000000000000000000000000000000000000000000000000000000000000000000, 0x0, 0x0⟩ P) (h_s : P s) :
    P (judgeBathStill s i) := by
  unfold judgeBathStill
  exact keep_ite h_s (keep_ite (keep_State_put hk.le h_s) (keep_ite (keep_State_put hk.le h_s) h_s))

theorem keep_stillExpiry {s} {i} (hk : Kept ⟨0x60000000000000000000000040000000300c00000000000000000000000000000000000000000000000000000000000000000000000000000000000000000000000000002000000008000000000000000000000000000000000000000000000000000000000000000000000, 0x0, 0x0⟩ P) (h_s : P s) :
    P (stillExpiry s i) := by
  unfold stillExpiry
  exact keep_ite (keep_setVariant hk.le h_s) h_s

theorem keep_haltStart {s} {i} {cause} {rate} {scurve} (hk : Kept ⟨0x4080000000001e00000000000040000000000000000000000000000000000000000000000000000000000000000000000000000000000000000000000000000000e00000000000000000300022b00000, 0x0, 0x8⟩ P) (h_s : P s) :
    P (haltStart s i cause rate scurve) := by
  unfold haltStart
  exact keep_ite ((keep_State_put hk.le h_s)) (keep_requestStop hk.le (keep_homingAbort hk.le ((keep_State_put hk.le h_s))))

theorem keep_haltOn {s} {i} (hk : Kept ⟨0x4080000000001e00000000000040000000000000000000000000000000000000000000000000000000000000000000000000000000000000000000000000000000e00000000000000000300022b00000, 0x0, 0x8⟩ P) (h_s : P s) :
    P (haltOn s i) := by
  unfold haltOn
  exact keep_haltStart hk.le h_s

theorem keep_restartSource {s} {i} (hk : Kept ⟨0x20000000000400000000000000000000000000000000000000000000000000000000000000000000000000000000000000000000000000000000000000000000000400000000000000000000000, 0x0, 0x0⟩ P) (h_s : P s) :
    P (restartSource s i) := by
  unfold restartSource
  exact keep_ite (keep_State_put hk.le ((keep_ite (keep_State_put hk.le h_s) h_s))) (keep_ite (keep_State_put hk.le ((keep_ite (keep_State_put hk.le h_s) h_s))) (keep_ite (keep_State_put hk.le ((keep_ite (keep_State_put hk.le h_s) h_s))) ((keep_ite (keep_State_put hk.le h_s) h_s))))

theorem keep_haltOff {s} {i} (hk : Kept ⟨0x20000001000400000000000000000000000000000000000000000000000000000000000000000000000000000000000000000000000000000000000000000000000400000000000000000000000, 0x0, 0x0⟩ P) (h_s : P s) :
    P (haltOff s i) := by
  unfold haltOff
  exact keep_ite h_s (keep_ite (keep_restartSource hk.le ((keep_State_put hk.le h_s))) ((keep_State_put hk.le h_s)))

theorem keep_rtStop {s} (hk : Kept ⟨0x2000000000000000000000000000004080000000001e00000000000040000000000000000000000000000000000000000000000000000000000000000000000000000000000000000000000000000000e00000000000000000300022b00000, 0x0, 0x8⟩ P) (h_s : P s) :
    P (rtStop s) := by
  unfold rtStop
  exact keep_ite (keep_State_each hk.le (keep_State_put hk.le h_s) (fun x0 x1 z2 => keep_haltStart hk.le z2)) h_s

theorem keep_enterMode {s} {i} {resume} (hk : Kept ⟨0x400000000000000300020000000000400f000000400000000000000000008000000000000000000000000000000000000000000000000000000000000000000000000000000080000000004001b0000200300022b80000, 0x0, 0x18⟩ P) (h_s : P s) :
    P (enterMode s i resume) := by
  unfold enterMode
  exact keep_ite (keep_enterSegmentMode hk.le ((keep_State_put hk.le h_s))) (keep_ite (keep_enterFollow hk.le ((keep_State_put hk.le h_s))) (keep_ite (keep_restartSource hk.le ((keep_State_put hk.le h_s))) (keep_ite (keep_State_put hk.le ((keep_State_put hk.le h_s))) ((keep_State_put hk.le h_s)))))

theorem keep_switchMode {s} {i} (hk : Kept ⟨0x360000000000000e00000000000000000000400000000000000301f2000001a025c02f012000400000000000000040008800000000000000000000000000000000000000000000000000000000000000000000000000000080000000004801b0000b00300022b80000, 0x0, 0x118⟩ P) (h_s : P s) :
    P (switchMode s i) := by
  unfold switchMode
  extract_lets -merge -underBinder +onlyGivenNames y0 y1
  clear_value y0 y1
  extract_lets -merge -underBinder +onlyGivenNames y2
  have z3 : P y2 := keep_leaveSources hk.le (keep_stripCancel hk.le h_s)
  clear_value y2
  extract_lets -merge -underBinder +onlyGivenNames y4
  have z5 : P y4 := keep_State_clearAll hk.le z3
  clear_value y4
  extract_lets -merge -underBinder +onlyGivenNames y6
  have z7 : P y6 := keep_State_put hk.le z5
  clear_value y6
  extract_lets -merge -underBinder +onlyGivenNames y8
  have z9 : P y8 := keep_ite (keep_State_put hk.le z7) z7
  clear_value y8
  exact keep_ite z9 (keep_ite (keep_ite (keep_enterMode hk.le z9) (keep_State_put hk.le z9)) (keep_enterMode hk.le (keep_ite z9 (keep_State_put hk.le (keep_State_setMo hk.le z9)))))

theorem keep_takeMode {s} {i} (hk : Kept ⟨0x360000000000000e00000000000000000000400000000000004381f2000001ae25c02f01200040000000000000004000880000000000000000000000000000000000000000000000000000000000000000000000000000008000e000004801b0000b00300022b80000, 0x0, 0x118⟩ P) (h_s : P s) :
    P (takeMode s i) := by
  unfold takeMode
  exact keep_ite h_s (keep_ite (keep_switchMode hk.le h_s) (keep_ite (keep_ite h_s (keep_State_put hk.le (keep_requestStop hk.le ((keep_ite (keep_leaveSources hk.le ((keep_homingAbort hk.le h_s))) ((keep_homingAbort hk.le h_s))))))) (keep_switchMode hk.le (keep_homingAbort hk.le h_s))))

theorem keep_newSetPoint {s} {i} (hk : Kept ⟨0xbc700000000040000000000000000000000000000000000000000000000000000000000000000000000000000000000000000000000000000000000002000000000000300022b00000, 0x0, 0x8⟩ P) (h_s : P s) :
    P (newSetPoint s i) := by
  unfold newSetPoint
  extract_lets -merge -underBinder +onlyGivenNames y0 y1
  clear_value y0 y1
  refine keep_ite ?_ ?_
  · exact h_s
  · extract_lets -merge -underBinder +onlyGivenNames y2 y3 y4
    clear_value y2 y3 y4
    split
    · rename_i y7 y8 q5
      have z6 : P y7 := keep_fst (keep_clampTarget hk.le h_s) q5
      extract_lets -merge -underBinder +onlyGivenNames y9
      have z10 : P y9 := keep_State_put hk.le (keep_State_put hk.le z6)
      clear_value y9
      extract_lets -merge -underBinder +onlyGivenNames y11
      clear_value y11
      exact keep_ite (keep_State_put hk.le (keep_State_put hk.le (keep_State_put hk.le (keep_State_puti hk.le z10)))) (keep_ite (keep_State_put hk.le (keep_State_put hk.le ((keep_State_put hk.le (keep_State_puti hk.le (keep_State_put hk.le z10)))))) (keep_State_put hk.le ((keep_State_put hk.le (keep_State_puti hk.le (keep_State_put hk.le z10))))))

theorem keep_interpolationOn {s} {i} (hk : Kept ⟨0x1020000000000000000000000000000000000000000000000000000000000000000000000000000000000000000000000000000000000000000000000000000000000000000000000000000000000, 0x0, 0x0⟩ P) (h_s : P s) :
    P (interpolationOn s i) := by
  unfold interpolationOn
  exact keep_State_put hk.le (keep_State_put hk.le h_s)

theorem keep_interpolationOff {s} {i} (hk : Kept ⟨0x1020000000000000000000000000000000000000000000000000000000000000000000000000000000000000000000000000000000000000000000000000000000000000000000000000000000000, 0x0, 0x10⟩ P) (h_s : P s) :
    P (interpolationOff s i) := by
  unfold interpolationOff
  exact keep_ite (keep_ite (keep_State_put hk.le ((keep_State_setMo hk.le h_s))) (keep_State_put hk.le ((keep_State_setMo hk.le h_s)))) h_s

theorem keep_bitFourRise {s} {i} (hk : Kept ⟨0x42ff0e0000000ebc7001a400004000000000000000000000000000000000000000000000000080000000000000000000000000000004000000000000000000000ae00002001000000000300022b00000, 0x1f5000000000000000000000000000000, 0x18⟩ P) (h_s : P s) :
    P (bitFourRise s i) := by
  unfold bitFourRise
  exact keep_ite h_s (keep_ite (keep_newSetPoint hk.le h_s) (keep_ite (keep_homingStart hk.le h_s) (keep_ite (keep_interpolationOn hk.le h_s) h_s)))

theorem keep_bitFourFall {s} {i} (hk : Kept ⟨0x1020000000020000000000000000000000000000000000000000000000000000000000000000000000000000000000000000000000000000000000000000000000000000000000000000000000000, 0x0, 0x10⟩ P) (h_s : P s) :
    P (bitFourFall s i) := by
  unfold bitFourFall
  exact keep_ite (keep_interpolationOff hk.le ((keep_State_put hk.le h_s))) ((keep_State_put hk.le h_s))

theorem keep_leaveRide {s} {i} {ds} (hk : Kept ⟨0x8000000000000000000000000000000000000000000000000000000000000000000000000000000000000000400000000000000000000000000000000000000000000000000002800010000000000000000000000000000000000000000000080000000000000000000000000000000000, 0x100000000000000000000000000000000000000000001e00060000000000000000000000000000000000, 0x0⟩ P) (h_s : P s) :
    P (leaveRide s i ds) := by
  unfold leaveRide
  exact keep_restDevelop hk.le (keep_State_put hk.le (keep_State_setBit hk.le h_s))

theorem keep_stopThen {s} {i} {after} (hk : Kept ⟨0x4081020000002e00002c00000040000000000000000000000000000000000000000000000000000000000000000000000000000000000000000000000000008000e00000080100000a00300022b80000, 0x0, 0x18⟩ P) (h_s : P s) :
    P (stopThen s i after) := by
  unfold stopThen
  exact keep_State_put hk.le (keep_requestStop hk.le ((keep_leaveSources hk.le (keep_homingAbort hk.le h_s))))

theorem keep_cmdShutdown {s} {i} (hk : Kept ⟨0x8000000000060000360000000000000e00800000000300800415600000001006284081020000002f05c02c6c600040000000000000004000080000000000000000000000000002800010000000000000000000000000000000c40000000000088000e00000483100000b00300022b80000, 0x100000000000000000000000000000000000000000001e00060000000000000000000000000000000000, 0x118⟩ P) (h_s : P s) :
    P (cmdShutdown s i) := by
  unfold cmdShutdown
  exact keep_ite h_s (keep_ite (keep_leaveRide hk.le h_s) (keep_ite (keep_ite h_s (keep_State_put hk.le h_s)) (keep_ite (keep_driveDown hk.le h_s) (keep_ite (keep_ite (keep_driveDown hk.le h_s) (keep_stopThen hk.le h_s)) h_s))))

theorem keep_cmdSwitchOn {s} {i} (hk : Kept ⟨0x8000000000000000000000000000000000000000000000000000000000000000000000000000000000000000400000000000000000000000000000000000000000000000000002800000000000000000000000000000000000000000000000080000000000000000000000000000000000, 0x100000000000000000000000000000000000000000001e00060000000000000000000000000000000000, 0x0⟩ P) (h_s : P s) :
    P (cmdSwitchOn s i) := by
  unfold cmdSwitchOn
  exact keep_ite (keep_State_put hk.le (keep_restDevelop hk.le h_s)) h_s

theorem keep_cmdDisableOperation {s} {i} (hk : Kept ⟨0x8000000000060000360000000000000e00800000000300800415600000001006284081020000002f05c02c6c600040000000000000004000080000000000000000000000000002800010000000000000000000000000000000c40000000000088000e00000483100000b00300022b80000, 0x100000000000000000000000000000000000000000001e00060000000000000000000000000000000000, 0x118⟩ P) (h_s : P s) :
    P (cmdDisableOperation s i) := by
  unfold cmdDisableOperation
  exact keep_ite h_s (keep_ite (keep_leaveRide hk.le h_s) (keep_ite (keep_ite (keep_driveDown hk.le h_s) (keep_stopThen hk.le h_s)) h_s))

theorem keep_cmdEnable {s} {i} (hk : Kept ⟨0x24000000360000000002000e00a00000006000300415600820001006284081020000002f05c02c6c600040000000000000004000080000000000000000000000000000000000000000000000000000000000100000c40018000000008000e00000483100000b00300022b80000, 0x0, 0x118⟩ P) (h_s : P s) :
    P (cmdEnable s i) := by
  unfold cmdEnable
  exact keep_ite (keep_State_put hk.le h_s) (keep_ite (keep_enableSlot hk.le (keep_ite (keep_cutMotion hk.le h_s) h_s)) h_s)

theorem keep_cmdQuickStop {s} {i} (hk : Kept ⟨0x8000000000060000360000000000000e00800000000300800415600000001006284081020000002f05c02c6c600040000000000000004000080000000000000000000000000002800010000000000000000000000000000000c40000000000088000e00000483100000b00300022b80000, 0x100000000000000000000000000000000000000000001e00060000000000000000000000000000000000, 0x118⟩ P) (h_s : P s) :
    P (cmdQuickStop s i) := by
  unfold cmdQuickStop
  exact keep_ite h_s (keep_ite (keep_leaveRide hk.le h_s) (keep_ite (keep_ite (keep_driveDown hk.le h_s) (keep_State_put hk.le (keep_requestStop hk.le ((keep_State_put hk.le (keep_leaveSources hk.le (keep_homingAbort hk.le (keep_stripCancel hk.le h_s)))))))) h_s))

theorem keep_cmdDisableVoltage {s} {i} (hk : Kept ⟨0x8000000000060000360000000000000e00800000000300800415600000001006284081020000002f05c02c6c600040000000000000004000080000000000000000000000000002800010000000000000000000000000000000c40000000000088000e00000483100000b00300022b80000, 0x100000000000000000000000000000000000000000001e00060000000000000000000000000000000000, 0x118⟩ P) (h_s : P s) :
    P (cmdDisableVoltage s i) := by
  unfold cmdDisableVoltage
  exact keep_ite h_s (keep_ite (keep_leaveRide hk.le h_s) (keep_driveDown hk.le h_s))

theorem keep_stateCommand {s} {i} {cw} (hk : Kept ⟨0x8000000024060000360000000002000e00a00000006300b00415600820001006284081020000002f05c02c6c600040000000000000004000080000000000000000000000000002800010000000000000000000000000100000c40018000000088000e00000483100000b00300022b80000, 0x100000000000000000000000000000000000000000001e00060000000000000000000000000000000000, 0x118⟩ P) (h_s : P s) :
    P (stateCommand s i cw) := by
  unfold stateCommand
  exact keep_ite h_s (keep_ite (keep_cmdDisableVoltage hk.le h_s) (keep_ite (keep_cmdQuickStop hk.le h_s) (keep_ite (keep_cmdShutdown hk.le h_s) (keep_ite (keep_ite (keep_cmdSwitchOn hk.le h_s) (keep_cmdDisableOperation hk.le h_s)) (keep_cmdEnable hk.le h_s)))))

theorem keep_writeControlword {s} {i} {cw} {gatesLow} (hk : Kept ⟨0x800000002c060000360000000002000e07ae800000e300f004156008200010062842ff0e0000003fbdf02dec6000400000000000000040000800000000000000000000000000028000162000000088d8000280c00000140000c4001800000008800ae00002483100000b00b00022b80000, 0x100000000000000000000000000000000000000000001e000601f5000000000000000000000000000000, 0x118⟩ P) (h_s : P s) :
    P (writeControlword s i cw gatesLow) := by
  unfold writeControlword
  extract_lets -merge -underBinder +onlyGivenNames y0
  clear_value y0
  extract_lets -merge -underBinder +onlyGivenNames y1
  have z2 : P y1 := keep_State_put hk.le h_s
  clear_value y1
  extract_lets -merge -underBinder +onlyGivenNames y3
  have z4 : P y3 := keep_ite (keep_faultReset hk.le z2) (keep_stateCommand hk.le z2)
  clear_value y3
  exact keep_ite (keep_bitFourRise hk.le ((keep_ite (keep_haltOn hk.le z4) (keep_ite (keep_haltOff hk.le z4) z4)))) (keep_ite (keep_bitFourFall hk.le ((keep_ite (keep_haltOn hk.le z4) (keep_ite (keep_haltOff hk.le z4) z4)))) ((keep_ite (keep_haltOn hk.le z4) (keep_ite (keep_haltOff hk.le z4) z4))))

theorem keep_afterStop {s} {i} (hk : Kept ⟨0x8000000008060000360000000000000e00800000000300800415600000001006284381f2000001af25c02f6d600040000000000000004000880000000000000000000000000002800010000000000000000000000000000000c40000000000088000e000004831b0000b00b00022b80000, 0x100000000000000000000000000000000000000000001e00060000000000000000000000000000000000, 0x118⟩ P) (h_s : P s) :
    P (afterStop s i) := by
  unfold afterStop
  extract_lets -merge -underBinder +onlyGivenNames y0
  clear_value y0
  refine keep_ite ?_ ?_
  · exact h_s
  · extract_lets -merge -underBinder +onlyGivenNames y1
    have z2 : P y1 := keep_State_put hk.le h_s
    clear_value y1
    exact keep_ite (keep_driveDown hk.le z2) (keep_ite (keep_driveDown hk.le z2) (keep_ite (keep_driveDown hk.le z2) (keep_ite (keep_judgeFaultn hk.le (keep_driveDown hk.le z2)) (keep_ite (keep_switchMode hk.le z2) z2))))

theorem keep_stallStop {s} {i} (hk : Kept ⟨0x400000060000004080020000000f05e0046c000040000000000000000000000000000000000000000000000000000000000000000000000000000000000000000000000000008000e00000483100000200300022b80000, 0x0, 0x18⟩ P) (h_s : P s) :
    P (stallStop s i) := by
  unfold stallStop
  extract_lets -merge -underBinder +onlyGivenNames y0 y1
  clear_value y0 y1
  extract_lets -merge -underBinder +onlyGivenNames y2
  have z3 : P y2 := keep_State_clearAll hk.le (keep_stopBreaks hk.le h_s)
  clear_value y2
  extract_lets -merge -underBinder +onlyGivenNames y4
  clear_value y4
  extract_lets -merge -underBinder +onlyGivenNames y5
  have z6 : P y5 := keep_State_setMo hk.le z3
  clear_value y5
  extract_lets -merge -underBinder +onlyGivenNames y7
  clear_value y7
  extract_lets -merge -underBinder +onlyGivenNames y8
  have z9 : P y8 := keep_ite (keep_State_put hk.le (keep_State_put hk.le (keep_publish hk.le (keep_State_puti hk.le z6)))) (keep_publish hk.le (keep_State_puti hk.le z6))
  clear_value y8
  extract_lets -merge -underBinder +onlyGivenNames y10
  have z11 : P y10 := keep_State_put hk.le (keep_State_put hk.le (keep_State_put hk.le z9))
  clear_value y10
  extract_lets -merge -underBinder +onlyGivenNames y12
  have z13 : P y12 := keep_State_put hk.le z11
  clear_value y12
  extract_lets -merge -underBinder +onlyGivenNames y14
  have z15 : P y14 := keep_ite (keep_State_put hk.le z13) z13
  clear_value y14
  extract_lets -merge -underBinder +onlyGivenNames y16
  have z17 : P y16 := keep_ite (keep_State_put hk.le z15) z15
  clear_value y16
  exact keep_ite (keep_State_put hk.le (keep_State_put hk.le (keep_State_put hk.le z17))) (keep_ite (keep_State_put hk.le (keep_State_put hk.le z17)) (keep_ite (keep_homingAbort hk.le z17) (keep_ite (keep_State_put hk.le z17) z17)))

theorem keep_declareStall {s} {i} (hk : Kept ⟨0x415f000000600000042f80e0000000f0df005ec000040000000000000000000000000000000000000000000000000800000000000000000000000000008040000cc0000000000008008e00000483100000200300022b80000, 0x0, 0x18⟩ P) (h_s : P s) :
    P (declareStall s i) := by
  unfold declareStall
  extract_lets -merge -underBinder +onlyGivenNames y0
  clear_value y0
  refine keep_ite ?_ ?_
  · exact h_s
  · extract_lets -merge -underBinder +onlyGivenNames y1
    have z2 : P y1 := keep_clearStallRuns hk.le (keep_State_put hk.le h_s)
    clear_value y1
    extract_lets -merge -underBinder +onlyGivenNames y3
    have z4 : P y3 := keep_State_count hk.le (keep_State_put hk.le z2)
    clear_value y3
    extract_lets -merge -underBinder +onlyGivenNames y5
    have z6 : P y5 := keep_State_post hk.le z4
    clear_value y5
    exact keep_ite (keep_homingStall hk.le ((keep_probeAbort hk.le z6))) (keep_ite ((keep_probeAbort hk.le z6)) (keep_ite (keep_State_put hk.le ((keep_stallStop hk.le ((keep_probeAbort hk.le z6))))) ((keep_stallStop hk.le ((keep_probeAbort hk.le z6))))))

theorem keep_stallFault {s} {i} (hk : Kept ⟨0x8000000008060000360000000000000e008e0000000300c00415600000001006284081020000002f05c02c6c60004000000000000000400008000000000000000000000000000280003e000000008000000000000000000000c40000000000088000e00000483100000b00b00022b80000, 0x100000000000000000000000000000000000000000001e00060000000000000000000000000000000000, 0x118⟩ P) (h_s : P s) :
    P (stallFault s i) := by
  unfold stallFault
  exact keep_ite (keep_bathFault hk.le (keep_State_put hk.le h_s)) h_s

theorem keep_loseCommunication {s} (hk : Kept ⟨0x8000000008060000360000000000000e00880000000300800415600000001006284081020000002f05c02c6c600040000000000000004000080000000000000000000000000002800010000000000000000000000000000000c40000000000088000e00000483100000b00b00022b80000, 0x100000000000000000000000000000000000000000001e00060000000000000000000000000000000000, 0x118⟩ P) (h_s : P s) :
    P (loseCommunication s) := by
  unfold loseCommunication
  exact keep_State_each hk.le h_s (fun x0 x1 z2 => keep_ite (keep_plannedFault hk.le z2) (keep_ite (keep_cmdDisableVoltage hk.le z2) (keep_ite (keep_cmdQuickStop hk.le z2) z2)))

end Sys2Proof.Laws
end

