-- ==== Sys2Proof/Laws/KeepUnits.lean ====
section
/-! SUPPORT. Every definition of feedback, converters, temperatures, strips, port map and domains keeps a property that the primitive updates keep (Kept). -/

set_option Elab.async false

namespace Sys2Proof.Laws

open Machine

variable {P : State → Prop}

theorem keep_sampled {s} {f} (hk : Kept ⟨0x0, 0x0, 0x0⟩ P) (h_s : P s) (h_f : ∀ v0, P v0 → P (f v0)) :
    P (sampled s f) := by
  unfold sampled
  exact keep_ite (h_f _ h_s) h_s

theorem keep_moveCount (hk : Kept ⟨0x40000000000000000000000000000000000000000000000006880000000000000000000000000000000000000000000000000000000000000000000000300022b00000, 0x0, 0x38⟩ P) {s c d} (h_s : P s) : P (moveCount s c d) := by
  unfold moveCount
  extract_lets -merge -underBinder +onlyGivenNames x n kp y
  have hx : P x := keep_ite (keep_latchTol hk.le h_s) h_s
  have hy : P y := hk.encHist x _ _ hx
  clear_value y
  extract_lets -merge -underBinder +onlyGivenNames lo hi w
  have hw : P w := keep_State_puti hk.le hy
  exact keep_refreshAct hk.le (keep_ite (keep_State_puti hk.le hy) (keep_ite
    (keep_ite hw (keep_State_post hk.le (keep_State_setBit hk.le (keep_State_setBit hk.le hw))))
    (keep_State_setBit hk.le (keep_State_puti hk.le hy))))

theorem keep_speedEdge {s} {c} {d} (hk : Kept ⟨0x79800000000000000000000000000000000000000000000000000000000000000000000000000000000000000000000000000000000000000000000000000000000000000000000000000000000000000000000000000000000000000000000000000000000000000000000000000, 0x0, 0x0⟩ P) (h_s : P s) :
    P (speedEdge s c d) := by
  unfold speedEdge
  extract_lets -merge -underBinder +onlyGivenNames y0 y1
  clear_value y0 y1
  extract_lets -merge -underBinder +onlyGivenNames y2
  have z3 : P y2 := keep_State_put hk.le h_s
  clear_value y2
  exact keep_ite (keep_State_puti hk.le ((keep_ite ((keep_State_put hk.le (keep_State_put hk.le (keep_State_put hk.le z3)))) (keep_State_put hk.le ((keep_State_put hk.le (keep_State_put hk.le (keep_State_put hk.le z3)))))))) (keep_State_put hk.le (keep_State_put hk.le (keep_State_puti hk.le (keep_State_put hk.le z3))))

theorem keep_judgeEmpty {s} {c} (hk : Kept ⟨0x3000000000000000000000000000000000000000000000000000000000000000000000000000000000000, 0x0, 0x0⟩ P) (h_s : P s) :
    P (judgeEmpty s c) := by
  unfold judgeEmpty
  exact keep_ite (keep_State_put hk.le (keep_State_setBit hk.le h_s)) h_s

theorem keep_speedWindow {s} {c} (hk : Kept ⟨0xc7800000000000000000000000000000000000000000000000000000000000000000000000000000000000000000000000000000000000000000000000000000000000003000000000000000000000000000000000000000000000000000000000000000000000000000000000000, 0x0, 0x1001⟩ P) (h_s : P s) :
    P (speedWindow s c) := by
  unfold speedWindow
  extract_lets -merge -underBinder +onlyGivenNames y0
  clear_value y0
  extract_lets -merge -underBinder +onlyGivenNames y1
  have z2 : P y1 := keep_State_put hk.le (keep_State_atTick hk.le h_s)
  clear_value y1
  extract_lets -merge -underBinder +onlyGivenNames y3 y4 y5 y6
  clear_value y3 y4 y5 y6
  extract_lets -merge -underBinder +onlyGivenNames y7
  have z8 : P y7 := keep_State_clearAll hk.le z2
  clear_value y7
  exact keep_ite z8 (keep_ite z8 (keep_ite (keep_State_put hk.le (keep_State_setBit hk.le (keep_State_setBit hk.le (keep_State_puti hk.le z8)))) (keep_judgeEmpty hk.le (keep_State_puti hk.le ((keep_State_put hk.le (keep_State_setBit hk.le z8)))))))

theorem keep_encFault {s} {c} {cause} (hk : Kept ⟨0x200000000000360000000000000000000000000000000000000000000000000000000000000000000000000040000000000000000000000000000000000000000000008006000000000000000000000000000000000000000000000000000000800000000000000000300022b00000, 0x0, 0x108⟩ P) (h_s : P s) :
    P (encFault s c cause) := by
  unfold encFault
  exact keep_ite h_s (keep_State_emcy hk.le ((keep_State_post hk.le (keep_State_put hk.le ((keep_State_put hk.le (keep_State_put hk.le (keep_State_setBit hk.le ((keep_State_setBit hk.le (keep_State_setBit hk.le (keep_State_setBit hk.le h_s))))))))))))

theorem keep_encFaultClear {s} {c} (hk : Kept ⟨0x100000000360000000000000000000000000000000000000000000000000000000000000000000000000000000000000000000000000000000000000000000000000002000000000000000000000000000000000000000000000000000000000000000000000000000000000000, 0x0, 0x100⟩ P) (h_s : P s) :
    P (encFaultClear s c) := by
  unfold encFaultClear
  exact keep_ite (keep_State_emcyIfClear hk.le ((keep_State_put hk.le ((keep_State_setBit hk.le (keep_State_setBit hk.le (keep_State_setBit hk.le h_s))))))) ((keep_State_put hk.le ((keep_State_setBit hk.le (keep_State_setBit hk.le (keep_State_setBit hk.le h_s))))))

theorem keep_normalEdge {s} {c} (hk : Kept ⟨0x300000000000000000000000000000000000000000000000000000000000000000000000000000000000000000000000000000000000000000000000000000000000000000000000000000000000000000000000000000000000000000000000000000000000000000000000000, 0x0, 0x0⟩ P) (h_s : P s) :
    P (normalEdge s c) := by
  unfold normalEdge
  exact keep_ite (keep_State_put hk.le ((keep_State_put hk.le h_s))) ((keep_State_put hk.le h_s))

theorem keep_illegalEdge {s} {c} (hk : Kept ⟨0x30000000000000000000000000000000000000000000000000000000000000000000000000000000000000000000000000000000000000000000000000000000000000c000000000000000000000000000000000000000000000000000000000000000000000000000000000000, 0x0, 0x0⟩ P) (h_s : P s) :
    P (illegalEdge s c) := by
  unfold illegalEdge
  exact keep_State_put hk.le (keep_State_put hk.le (keep_State_setBit hk.le (keep_State_count hk.le h_s)))

theorem keep_encoderEdge {s} {c} {a} {b} (hk : Kept ⟨0x79b0000000000000000000000000000000000000000000000000000000000000000000000000000000000004000000000000000000000000000000000000000000000000e880000000000000000000000000000000000000000000000000000000000000000000000300022b00000, 0x0, 0x38⟩ P) (h_s : P s) :
    P (encoderEdge s c a b) := by
  unfold encoderEdge
  exact keep_ite ((keep_State_setBit hk.le (keep_State_setBit hk.le h_s))) (keep_ite (keep_illegalEdge hk.le ((keep_State_setBit hk.le (keep_State_setBit hk.le h_s)))) (keep_moveCount hk.le (keep_speedEdge hk.le (keep_normalEdge hk.le ((keep_State_setBit hk.le (keep_State_setBit hk.le h_s)))))))

theorem keep_hallAngleEdge {s} {c} {m} {positive} (hk : Kept ⟨0xe00000000000000000000000000000000000000000000000000000000000000000000000000000000000000000000000000000000000000000000000000000000000000000000000000000000000000000000000, 0x0, 0x0⟩ P) (h_s : P s) :
    P (hallAngleEdge s c m positive) := by
  unfold hallAngleEdge
  exact keep_State_put hk.le (keep_State_put hk.le (keep_State_put hk.le h_s))

theorem keep_hallEdge {s} {c} {st} (hk : Kept ⟨0x79f00000000000000000000000000000000000000000000000000e0000000000000000000000000000000004000000000000000000000000000000000000000000000001e880000000000000000000000000000000000000000000000000000000000000000000000300022b00000, 0x0, 0x38⟩ P) (h_s : P s) :
    P (hallEdge s c st) := by
  unfold hallEdge
  extract_lets -merge -underBinder +onlyGivenNames y0
  have z1 : P y0 := keep_State_setBit hk.le (keep_State_setBit hk.le (keep_State_setBit hk.le h_s))
  clear_value y0
  refine keep_ite ?_ ?_
  · exact z1
  · refine keep_ite ?_ ?_
    · exact keep_illegalEdge hk.le z1
    · extract_lets -merge -underBinder +onlyGivenNames y2 y3
      clear_value y2 y3
      extract_lets -merge -underBinder +onlyGivenNames y4
      have z5 : P y4 := keep_State_put hk.le z1
      clear_value y4
      exact keep_ite (keep_State_put hk.le z5) (keep_ite z5 (keep_ite (keep_hallAngleEdge hk.le (keep_illegalEdge hk.le z5)) (keep_moveCount hk.le (keep_speedEdge hk.le (keep_normalEdge hk.le (keep_hallAngleEdge hk.le ((keep_ite (keep_State_count hk.le z5) z5))))))))

theorem keep_encAlign {s} {i} (hk : Kept ⟨0x80000000000000000000000000000000000000000000000000000000000000000000000000000000000040000000000000000000000000000000000000000000000002800000000000000000000000000000000000000000000000000000000000000000000000300022b00000, 0x0, 0x8⟩ P) (h_s : P s) :
    P (encAlign s i) := by
  unfold encAlign
  exact keep_ite h_s (keep_State_post hk.le ((keep_refreshAct hk.le (keep_State_setBit hk.le ((keep_State_puti hk.le h_s))))))

theorem keep_followingError {s} {i} (hk : Kept ⟨0x200000000000000000000000000000000000000000000000000000000000000000000000000000000000000000000000000000000000000000000000000000000000008000000000000000000000000000000000000000000000000000000000000000000000000000000000000000, 0x0, 0x0⟩ P) (h_s : P s) :
    P (followingError s i) := by
  unfold followingError
  exact keep_ite (keep_ite (keep_ite (keep_State_put hk.le ((keep_State_puti hk.le h_s))) ((keep_State_puti hk.le h_s))) (keep_State_put hk.le ((keep_State_puti hk.le h_s)))) (keep_State_put hk.le (keep_State_put hk.le h_s))

theorem keep_followFault {s} {i} (hk : Kept ⟨0x8000200008060000360000000000000e00880000000300800415600000001006284081020000002f05c02c6c600040000000000000004000080000000000000000000000000006800010000000000000000000000000000000c40000000000088000e00000483100000b00b00022b80000, 0x100000000000000000000000000000000000000000001e00060000000000000000000000000000000000, 0x118⟩ P) (h_s : P s) :
    P (followFault s i) := by
  unfold followFault
  exact keep_ite h_s (keep_plannedFault hk.le ((keep_State_post hk.le (keep_State_put hk.le (keep_State_setBit hk.le h_s)))))

theorem keep_capture {s} {c} {trg} {t} (hk : Kept ⟨0x100000000000000000000000000000000000000000000000000000000000000000000000000000000000000040000000000000000000000000000000000000000000000000000000000000000000000000000000000000000000000000000000000000000000000000300022b00000, 0x0, 0x8⟩ P) (h_s : P s) :
    P (capture s c trg t) := by
  unfold capture
  exact keep_ite h_s (keep_State_enqueue hk.le (keep_State_put hk.le h_s))

theorem keep_triggerCapture {s} {c} {trg} {t} (hk : Kept ⟨0x100000000000000000000000000000000000000000000000000000000000000000000000000000000000000040000000000000000000000000000000000000000000000002000000000000000000000000000000000000000000000000000000000000000000000000300022b00000, 0x0, 0x8⟩ P) (h_s : P s) :
    P (triggerCapture s c trg t) := by
  unfold triggerCapture
  exact keep_ite h_s (keep_ite (keep_ite (keep_capture hk.le (keep_State_setBit hk.le h_s)) h_s) (keep_capture hk.le h_s))

theorem keep_trigoCaptures {before} {after} {t} (hk : Kept ⟨0x100000000000000000000000000000000000000000000000000000000000000000000000000000000000000040000000000000000000000000000000000000000000000002000000000000000000000000000000000000000000000000000000000000000000000000300022b00000, 0x0, 0x8⟩ P) (h_before : P before) (h_after : P after) :
    P (trigoCaptures before after t) := by
  unfold trigoCaptures
  exact keep_State_each hk.le h_after (fun x0 x1 z2 => keep_State_each hk.le z2 (fun x3 x4 z5 => keep_triggerCapture hk.le z5))

theorem keep_refreshSwitches {s} {i} (hk : Kept ⟨0x100000000000000000000000000000, 0x0, 0x0⟩ P) (h_s : P s) :
    P (refreshSwitches s i) := by
  unfold refreshSwitches
  extract_lets -merge -underBinder +onlyGivenNames y0 y1
  clear_value y0 y1
  split
  · exact keep_State_put hk.le h_s

theorem keep_limitActive {s} {i} {role} {bothBefore} (hk : Kept ⟨0x4080000000000e00000000000040000000000000000000000000000000000000000000000000000000000000000000000000000000000000000000000000000000e0001c000000000000300022b00000, 0x0, 0x8⟩ P) (h_s : P s) :
    P (limitActive s i role bothBefore) := by
  unfold limitActive
  extract_lets -merge -underBinder +onlyGivenNames y0
  clear_value y0
  refine keep_ite ?_ ?_
  · exact h_s
  · extract_lets -merge -underBinder +onlyGivenNames y1 y2
    clear_value y1 y2
    extract_lets -merge -underBinder +onlyGivenNames y3
    have z4 : P y3 := keep_ite (keep_State_put hk.le h_s) (keep_State_put hk.le h_s)
    clear_value y3
    extract_lets -merge -underBinder +onlyGivenNames y5
    have z6 : P y5 := keep_ite (keep_ite h_s (keep_homingFail hk.le h_s)) (keep_ite (keep_requestStop hk.le (keep_State_post hk.le z4)) h_s)
    clear_value y5
    exact keep_ite (keep_ite (keep_requestStop hk.le ((keep_State_post hk.le (keep_State_put hk.le z6)))) ((keep_State_post hk.le (keep_State_put hk.le z6)))) z6

theorem keep_switchDevelop {s} {i} (hk : Kept ⟨0x4080000000000e00000000000040000000000000000000000000000000000000000000000000000000000000000000000000000000000000000000000000000000f0001c000000000000300022b00000, 0xfe000000000000000000000000000, 0x8⟩ P) (h_s : P s) :
    P (switchDevelop s i) := by
  unfold switchDevelop
  extract_lets -merge -underBinder +onlyGivenNames y0 y1
  clear_value y0 y1
  extract_lets -merge -underBinder +onlyGivenNames y2
  have z3 : P y2 := keep_refreshSwitches hk.le (keep_State_developList hk.le h_s)
  clear_value y2
  exact keep_ite (keep_limitActive hk.le ((keep_ite (keep_limitActive hk.le z3) z3))) ((keep_ite (keep_limitActive hk.le z3) z3))

theorem keep_switchEdge {s} {i} {k} {level} (hk : Kept ⟨0x100000000000000000000000000000000000000000000000000000000000004abc0c0000000e081001a400004000000000000000000000000000000000000000000000000280000000000000000000000000000004000000000000000000000af0001c001000000000300022b00000, 0x0, 0x18⟩ P) (h_s : P s) :
    P (switchEdge s i k level) := by
  unfold switchEdge
  refine keep_ite ?_ ?_
  · exact h_s
  · extract_lets -merge -underBinder +onlyGivenNames y0 y1 y2 y3
    clear_value y0 y1 y2 y3
    extract_lets -merge -underBinder +onlyGivenNames y4
    have z5 : P y4 := keep_refreshSwitches hk.le (keep_State_setBit hk.le h_s)
    clear_value y4
    extract_lets -merge -underBinder +onlyGivenNames y6
    clear_value y6
    refine keep_ite ?_ ?_
    · exact z5
    · extract_lets -merge -underBinder +onlyGivenNames y7
      clear_value y7
      extract_lets -merge -underBinder +onlyGivenNames y8
      have z9 : P y8 := keep_ite (keep_homingEdge hk.le z5) z5
      clear_value y8
      extract_lets -merge -underBinder +onlyGivenNames y10
      have z11 : P y10 := keep_ite (keep_limitActive hk.le z9) z9
      clear_value y10
      split
      · exact keep_ite (keep_triggerCapture hk.le z11) z11

theorem keep_indexEdge {s} {c} {level} (hk : Kept ⟨0x1000000000000000000000000000000000000000000000000000000000000042380c00000000081001a400004000000000000000000000000000000000000000000000000280000000000000000000000000000004000000000000000000000a200000001000000000300022b00000, 0x0, 0x18⟩ P) (h_s : P s) :
    P (indexEdge s c level) := by
  unfold indexEdge
  exact keep_ite h_s (keep_ite ((keep_State_setBit hk.le h_s)) (keep_ite (keep_triggerCapture hk.le ((keep_homingIndex hk.le ((keep_State_setBit hk.le h_s))))) ((keep_homingIndex hk.le ((keep_State_setBit hk.le h_s))))))

theorem keep_stepEdge {s} {c} {level} {dir} (hk : Kept ⟨0x3000000000000000000000000000000000000000000000000000000000000000000000000000000000000000000000000000000000000000000000000000002000000000000000000000000000000000, 0x0, 0x0⟩ P) (h_s : P s) :
    P (stepEdge s c level dir) := by
  unfold stepEdge
  exact keep_ite ((keep_State_put hk.le (keep_State_put hk.le h_s))) (keep_State_puti hk.le ((keep_State_put hk.le (keep_State_put hk.le h_s))))

theorem keep_shootSheet {s} {t} (hk : Kept ⟨0x400000000000000000000000000000000000000000000000000000000000000000000000000000000000000000000000000000000000000000000000000000000000300000000000000000000000000000000000000000000000000000000000000000000000000000000000000000, 0x0, 0x0⟩ P) (h_s : P s) :
    P (shootSheet s t).1 := by
  unfold shootSheet
  exact keep_ite1 (keep_mk (keep_State_put hk.le h_s)) (keep_mk (keep_State_put hk.le (keep_State_put hk.le h_s)))

theorem keep_fireSheet {s} (hk : Kept ⟨0x100000000000000000000000000000000000000000000000000000000000000000000000000000000000000040000000000000000000000000000000000000000002d00000000000000000000000000000000000000000000000000000000000000000000000000000300022b00000, 0x0, 0x1009⟩ P) (h_s : P s) :
    P (fireSheet s) := by
  unfold fireSheet
  refine keep_ite ?_ ?_
  · exact h_s
  · extract_lets -merge -underBinder +onlyGivenNames y12
    clear_value y12
    extract_lets -merge -underBinder +onlyGivenNames y19
    have z20 : P y19 := keep_State_put hk.le (keep_State_atTick hk.le h_s)
    clear_value y19
    extract_lets -merge -underBinder +onlyGivenNames y27 y34
    clear_value y27 y34
    refine keep_ite ?_ ?_
    · exact keep_State_post hk.le (keep_State_put hk.le (keep_State_count hk.le ((keep_foldl (fun x41 x42 z43 => keep_capture hk.le z43) z20))))
    · extract_lets -merge -underBinder +onlyGivenNames y47
      clear_value y47
      extract_lets -merge -underBinder +onlyGivenNames y51
      have z52 : P y51 := keep_foldl (fun x53 x54 z55 => keep_State_put hk.le z55) z20
      clear_value y51
      exact keep_State_post hk.le ((keep_ite (keep_State_post hk.le ((keep_State_put hk.le (keep_State_put hk.le (keep_State_countN hk.le z52))))) ((keep_State_put hk.le (keep_State_put hk.le (keep_State_countN hk.le z52))))))

theorem keep_feedbackDevelop {s} {c} (hk : Kept ⟨0x43800000000000000000000000000000000000000000000000000000000000000000000000000000000000000000000000000000000000000000000000000000000000002800000000000000000000000000000000000000000000000000000000000000000000000000000000000, 0x7ffffffffc0000000000000000000000000000000000000000000000000000000000000000000000000000000, 0x0⟩ P) (h_s : P s) :
    P (feedbackDevelop s c) := by
  unfold feedbackDevelop
  exact keep_refreshAct hk.le (keep_ite (keep_ratioDevelop hk.le (keep_State_developList hk.le ((keep_ite (keep_State_put hk.le (keep_State_clearAll hk.le h_s)) h_s)))) (keep_State_developList hk.le ((keep_ite (keep_State_put hk.le (keep_State_clearAll hk.le h_s)) h_s))))

theorem keep_firstLevels {s} {c} {enc} {sw} {sd} (hk : Kept ⟨0x400000000000000000000000000000000000000000000000000800000003800000000000000000000000000000000000000000000000000000000000000000000000002000000000000000000000000000000000000000000000000000000100000000000000000000000000000, 0x0, 0x0⟩ P) (h_s : P s) :
    P (firstLevels s c enc sw sd) := by
  unfold firstLevels
  extract_lets -merge -underBinder +onlyGivenNames y0
  have z1 : P y0 := keep_State_setBit hk.le (keep_State_setBit hk.le (keep_State_setBit hk.le h_s))
  clear_value y0
  exact keep_refreshSwitches hk.le ((keep_ite (keep_State_put hk.le (keep_State_put hk.le ((keep_State_put hk.le (keep_State_put hk.le (keep_State_put hk.le z1)))))) ((keep_State_put hk.le (keep_State_put hk.le (keep_State_put hk.le z1))))))

theorem keep_feedbackRestart {s} {c} {enc} (hk : Kept ⟨0x2d1c00000000360000000000000000000000000000000000000000800000000000000000000000000000000040000000000000000000000000000000000000000000008007000000000000000000000000000000000000000000000000000000800000000000000000300022b00000, 0x0, 0x108⟩ P) (h_s : P s) :
    P (feedbackRestart s c enc) := by
  unfold feedbackRestart
  extract_lets -merge -underBinder +onlyGivenNames y0
  have z1 : P y0 := keep_State_clearAll hk.le h_s
  clear_value y0
  extract_lets -merge -underBinder +onlyGivenNames y2
  have z3 : P y2 := keep_State_setBit hk.le (keep_State_setBit hk.le z1)
  clear_value y2
  extract_lets -merge -underBinder +onlyGivenNames y4
  have z5 : P y4 := keep_State_setBit hk.le (keep_State_setBit hk.le (keep_State_setBit hk.le z3))
  clear_value y4
  exact keep_ite (keep_encFault hk.le z5) (keep_ite (keep_State_put hk.le (keep_State_put hk.le z5)) z5)

theorem keep_avgRestart {s} {i} (hk : Kept ⟨0x1c0000000000000000000000000000000000000000000000000000000000000000000000000000000000000000000000000000000000000000000000000000000000000000000000000000000000000000000000000000000000000000000000000000000000000000000000000000000000, 0x0, 0x0⟩ P) (h_s : P s) :
    P (avgRestart s i) := by
  unfold avgRestart
  exact keep_State_clearAll hk.le h_s

theorem keep_auxNewlyServed {s} {inputs} (hk : Kept ⟨0x1d0000000000000000000000000000000000000000000000000000000000000000000000000000000000000000000000000000000000000000000000000000000000000000000000000000000000000000000000000000000000000000000000000000000000000000000000000000000000, 0x0, 0x0⟩ P) (h_s : P s) :
    P (auxNewlyServed s inputs) := by
  unfold auxNewlyServed
  exact keep_foldl (fun x0 x1 z2 => keep_State_put hk.le (keep_avgRestart hk.le z2)) h_s

theorem keep_auxSample {s} {i} {code} {ovr} (hk : Kept ⟨0x1d0000000000000000000000000000000000000000000000000000000000000000000000000000000000000000000000000000000000000000000000000000000000000000000000000000000000000000000000000000000000000000000000000000000000000000000000000000000000, 0x0, 0x0⟩ P) (h_s : P s) :
    P (auxSample s i code ovr).1 := by
  unfold auxSample
  exact keep_ite1 (keep_mk (keep_State_put hk.le h_s)) (keep_mk ((keep_State_put hk.le ((keep_State_put hk.le ((keep_State_put hk.le h_s)))))))

theorem keep_takeSettle {s} {c} {p} (hk : Kept ⟨0x8000000000000000000000000000000000000000000000000000000000000000000000000000000000000000000000000000000000000000000000000000000000008000000000000000000000000000000000000000000000000000000000000000000000000000000000000000000000, 0x0, 0x0⟩ P) (h_s : P s) :
    P (takeSettle s c p).1 := by
  unfold takeSettle
  exact keep_ite1 (keep_mk (keep_State_count hk.le (keep_State_put hk.le h_s))) (keep_mk h_s)

theorem keep_copyQ8 {s} {c} {ch} {code} {ovr} {settle} {inj} {chk} (hk : Kept ⟨0x40000000000000000000000000000000000000000000000000000000000000000000000000000000000000000000000000000000000000000000000000300022b00000, 0x0, 0x8⟩ P) (h_s : P s) :
    P (copyQ8 s c ch code ovr settle inj chk) := by
  unfold copyQ8
  exact keep_State_enqueue hk.le h_s

theorem keep_copyQ9 {s} {c} {ch} {data} {ovr} {settle} {inj} {avgd} {chk} (hk : Kept ⟨0x40000000000000000000000000000000000000000000000000000000000000000000000000000000000000000000000000000000000000000000000000300022b00000, 0x0, 0x8⟩ P) (h_s : P s) :
    P (copyQ9 s c ch data ovr settle inj avgd chk) := by
  unfold copyQ9
  exact keep_State_enqueue hk.le h_s

theorem keep_setInjQueue {s} {c} {rs} (hk : Kept ⟨0x600000000000000000000000000000000000000000000000000000000000000000000000000000000000000000000000000000000000000000000000000000000000000000000000000000000000000000000000000000000000000000000000000000000000000000000000000000000, 0x0, 0x0⟩ P) (h_s : P s) :
    P (setInjQueue s c rs) := by
  unfold setInjQueue
  exact keep_State_put hk.le (keep_foldl (fun x0 x1 z2 => keep_State_put hk.le z2) h_s)

theorem keep_injRequest {s} {c} {ch} {prio} {who} (hk : Kept ⟨0x600000000000000000000000000000000000000000000000000000000000000000000000000000000000000000000000000000000000000000000000000000000004000000000000000000000000000000000000000000000000000000000000000000000000000000000000000000000, 0x0, 0x0⟩ P) (h_s : P s) :
    P (injRequest s c ch prio who).1 := by
  unfold injRequest
  exact keep_ite1 (keep_mk (keep_State_count hk.le h_s)) (keep_mk (keep_setInjQueue hk.le h_s))

theorem keep_injTake {s} {c} (hk : Kept ⟨0x600000000000000000000000000000000000000000000000000000000000000000000000000000000000000000000000000000000000000000000000000000000000000000000000000000000000000000000000000000000000000000000000000000000000000000000000000000000, 0x0, 0x0⟩ P) (h_s : P s) :
    P (injTake s c) := by
  unfold injTake
  exact keep_setInjQueue hk.le h_s

theorem keep_setScanQueue {s} {a} {is} (hk : Kept ⟨0x3000000000000000000000000000000000000000000000000000000000000000000000000000000000000000000000000000000000000000000000000000000000000000000000000000000000000000000000000000000000000000000000000000000000000000000000000000000000, 0x0, 0x0⟩ P) (h_s : P s) :
    P (setScanQueue s a is) := by
  unfold setScanQueue
  exact keep_State_put hk.le (keep_foldl (fun x0 x1 z2 => keep_State_put hk.le z2) h_s)

theorem keep_scanRequest {s} {a} {i} (hk : Kept ⟨0x3000000000000000000000000000000000000000000000000000000000000000000000000000000000000000000000000000000000000000000000000000000000000000000000000000000000000000000000000000000000000000000000000000000000000000000000000000000000, 0x0, 0x0⟩ P) (h_s : P s) :
    P (scanRequest s a i) := by
  unfold scanRequest
  exact keep_setScanQueue hk.le h_s

theorem keep_abortConversion {s} {c} (hk : Kept ⟨0x3180000000000000000000000000000000000000000000000000000000000000000000000000000000000000000000000000000000000000000000000000000000010000000000000000000000000000000000000000000000000000000000000000000000000000000000000000000000, 0x0, 0x0⟩ P) (h_s : P s) :
    P (abortConversion s c) := by
  unfold abortConversion
  exact keep_ite (keep_setScanQueue hk.le ((keep_State_count hk.le h_s))) (keep_State_put hk.le (keep_State_put hk.le ((keep_State_count hk.le h_s))))

theorem keep_injStart {s} {c} (hk : Kept ⟨0x31e0000000000000000000000000000000000000000000000000000000000000000000000000000000000000000000000000000000000000000000000000000000010000000000000000000000000000000000000000000000000000000000000000000000000000000000000000000000, 0x0, 0x0⟩ P) (h_s : P s) :
    P (injStart s c) := by
  unfold injStart
  extract_lets -merge -underBinder +onlyGivenNames y0
  clear_value y0
  refine keep_ite ?_ ?_
  · exact h_s
  · split
    · exact h_s
    · exact keep_State_put hk.le (keep_State_put hk.le ((keep_ite h_s (keep_abortConversion hk.le h_s))))

theorem keep_monitorRequest {s} {p} (hk : Kept ⟨0x4000000060000000000000000000000000000000000000000000000000000000000000000000000000000000000000000000000000000000000000000000000000000000000000000000000000000000000000000800000000000000000000000000000000000000000000000000000000000000, 0x0, 0x0⟩ P) (h_s : P s) :
    P (monitorRequest s p) := by
  unfold monitorRequest
  exact keep_ite (keep_State_count hk.le h_s) (keep_ite (keep_State_put hk.le h_s) (keep_ite (keep_State_count hk.le h_s) (keep_ite (keep_State_put hk.le (keep_State_put hk.le h_s)) (keep_State_put hk.le h_s))))

theorem keep_monitorDeferred {s} {p} (hk : Kept ⟨0x4000000060000000000000000000000000000000000000000000000000000000000000000000000000000000000000000000000000000000000000000000000000000000000000000000000000000000000000000800000000000000000000000000000000000000000000000000000000000000, 0x0, 0x0⟩ P) (h_s : P s) :
    P (monitorDeferred s p) := by
  unfold monitorDeferred
  exact keep_ite h_s (keep_ite (keep_State_put hk.le (keep_State_put hk.le ((keep_State_put hk.le h_s)))) (keep_State_count hk.le ((keep_State_put hk.le h_s))))

theorem keep_auxDevelop {s} {a} (hk : Kept ⟨0x1f0000000000000000000000000000000000000000000000000000000000000000000000000000000000000000000000000000000000000000000000000000000000000000000000000000000000000000000000000000000000000000000000000000000000000000000000000000000000, 0xfc00000000000000000000000000000000000000000000000000000000000000000000000000000000000000000000000, 0x0⟩ P) (h_s : P s) :
    P (auxDevelop s a) := by
  unfold auxDevelop
  exact keep_foldl (fun x0 x1 z2 => keep_ite (keep_ite (keep_State_put hk.le ((keep_State_put hk.le (keep_avgRestart hk.le (keep_State_developList hk.le z2))))) ((keep_State_put hk.le (keep_avgRestart hk.le (keep_State_developList hk.le z2))))) z2) h_s

theorem keep_auxTick {s} {a} (hk : Kept ⟨0x1f78e0000000000000000000000000000000000000000000000000000000000000000000000000000000000000000000000000000000000000000000000000000000000000000000000000000000000000000000000000000000000000000000000000000000000000000000000000000000, 0xfc00000000000000000000000000000000000000000000000000000000000000000000000000000000000000000000000, 0x0⟩ P) (h_s : P s) :
    P (auxTick s a) := by
  unfold auxTick
  extract_lets -merge -underBinder +onlyGivenNames y0
  clear_value y0
  extract_lets -merge -underBinder +onlyGivenNames y1
  have z2 : ∀ x3 x4 x5, P x3 → P (y1 x3 x4 x5) := by
    intro x3 x4 x5 z6
    exact keep_State_put hk.le (keep_State_put hk.le z6)
  clear_value y1
  refine keep_ite ?_ ?_
  · exact h_s
  · refine keep_ite ?_ ?_
    · exact z2 _ _ _ h_s
    · split
      · exact z2 _ _ _ (keep_setScanQueue hk.le h_s)
      · refine keep_ite ?_ ?_
        · exact z2 _ _ _ (keep_State_put hk.le h_s)
        · split
          · exact keep_State_put hk.le h_s
          · exact z2 _ _ _ (keep_State_put hk.le ((keep_ite (keep_auxDevelop hk.le (keep_State_countWrap hk.le h_s)) h_s)))

theorem keep_convFree {s} {c} (hk : Kept ⟨0x40000000e0000000000000000000000000000000000000000000000000000000000000000000000000000000000000000000000000000000000000000000000000000000000000000000000000000000000000000800000000000000000000000000000000000000000000000000000000000000, 0x0, 0x0⟩ P) (h_s : P s) :
    P (convFree s c) := by
  unfold convFree
  exact keep_ite (keep_monitorRequest hk.le (keep_State_put hk.le ((keep_State_put hk.le h_s)))) ((keep_State_put hk.le h_s))

theorem keep_axisResult {s} {c} {p} {code} {ovr} (hk : Kept ⟨0xc001000000000000000000000000000000000000000000000000000000000000078000000000000000000000000040000000000000000000000000000000000000008000000000000000000000000000000000000000000000000000000000000000000000000000000000300022b00000, 0x2000000000000000000000000000000000000000000000000000000000000000000000000000000000000000000000, 0x8⟩ P) (h_s : P s) :
    P (axisResult s c p code ovr) := by
  unfold axisResult
  extract_lets -merge -underBinder +onlyGivenNames y0 y1
  clear_value y0 y1
  extract_lets -merge -underBinder +onlyGivenNames y2
  have z3 : P y2 := keep_ite (keep_State_countWrap hk.le (keep_State_develop hk.le h_s)) h_s
  clear_value y2
  split
  · rename_i y6 y7 q4
    have z5 : P y6 := keep_fst (keep_takeSettle hk.le z3) q4
    exact keep_ite (keep_copyQ8 hk.le ((keep_State_put hk.le ((keep_State_put hk.le (keep_State_put hk.le (keep_State_put hk.le (keep_State_puti hk.le z5)))))))) ((keep_State_put hk.le ((keep_State_put hk.le (keep_State_put hk.le (keep_State_put hk.le (keep_State_puti hk.le z5)))))))

theorem keep_auxResult {s} {c} {i} {raw} {ovr} {inj} (hk : Kept ⟨0x1d0000000000000000000000000000000000000000000000000000000000000000000000000000000000000000000040000000000000000000000000000000000020008000000000000000000000000000000000000000000000000000000000000000000000000000000000300022b00000, 0x0, 0x8⟩ P) (h_s : P s) :
    P (auxResult s c i raw ovr inj) := by
  unfold auxResult
  extract_lets -merge -underBinder +onlyGivenNames y0
  clear_value y0
  split
  · rename_i y3 y4 q1
    have z2 : P y3 := keep_fst (keep_auxSample hk.le h_s) q1
    exact keep_ite (keep_copyQ9 hk.le ((keep_ite (keep_State_count hk.le z2) (keep_State_put hk.le z2)))) ((keep_ite (keep_State_count hk.le z2) (keep_State_put hk.le z2)))

theorem keep_conversionResult {s} {c} {ch} {raw} {ovr} {epoch} (hk : Kept ⟨0x40001dc6e1000000000000000000000000000000000000000000000000000000000000078000000000000000000000000040000000000000000000200000000000000020008000000000000000000000000000000800000000000000000000000000000000000000000000000000300022b00000, 0x2000000000000000000000000000000000000000000000000000000000000000000000000000000000000000000000, 0x8⟩ P) (h_s : P s) :
    P (conversionResult s c ch raw ovr epoch) := by
  unfold conversionResult
  refine keep_ite ?_ ?_
  · exact keep_State_count hk.le h_s
  · refine keep_ite ?_ ?_
    · exact h_s
    · refine keep_ite ?_ ?_
      · exact keep_ite h_s (keep_convFree hk.le (keep_ite (keep_injTake hk.le ((keep_auxResult hk.le h_s))) ((keep_auxResult hk.le h_s))))
      · refine keep_ite ?_ ?_
        · exact h_s
        · extract_lets -merge -underBinder +onlyGivenNames y0 y1
          clear_value y0 y1
          refine keep_ite ?_ ?_
          · split
            · rename_i y4 y5 q2
              have z3 : P y4 := keep_fst (keep_takeSettle hk.le h_s) q2
              exact keep_convFree hk.le (keep_injTake hk.le (keep_copyQ8 hk.le z3))
          · refine keep_ite ?_ ?_
            · split
              · rename_i y8 y9 q6
                have z7 : P y8 := keep_fst (keep_takeSettle hk.le h_s) q6
                exact keep_convFree hk.le (keep_copyQ8 hk.le z7)
            · exact keep_ite (keep_axisResult hk.le h_s) h_s

theorem keep_convEpochAdvance {s} {c} (hk : Kept ⟨0x3800000000000000000000000000000000000000000000000000000000000000000000000000000000000000000000000000000000000000000000000000000000000000000008000000000000000000000000000000000000000000000000000000000000000000000000000000000000000000, 0x0, 0x0⟩ P) (h_s : P s) :
    P (convEpochAdvance s c) := by
  unfold convEpochAdvance
  exact keep_State_put hk.le (keep_State_put hk.le (keep_State_put hk.le (keep_State_countWrap hk.le h_s)))

theorem keep_judgeConvRedundancy {s} (hk : Kept ⟨0x360000000000000000000000000000000000000000000000000000000000000000000000000040000000000000000000080000000000000000000000000000000000000000000000000000000000000000000000000000000000000000000000000000300022b00000, 0x0, 0x108⟩ P) (h_s : P s) :
    P (judgeConvRedundancy s) := by
  unfold judgeConvRedundancy
  exact keep_setRedLost hk.le h_s

theorem keep_setRetiredBit {s} {c} {b} (hk : Kept ⟨0x1800000000000000000000000000000000000000000000000000000000000000000000000000000000000000000000000000, 0x0, 0x0⟩ P) (h_s : P s) :
    P (setRetiredBit s c b) := by
  unfold setRetiredBit
  exact keep_ite (keep_State_setBit hk.le h_s) (keep_State_setBit hk.le h_s)

theorem keep_setHalfRate {s} {c} {b} (hk : Kept ⟨0x10000000000000000000000000000000000000000000, 0x0, 0x0⟩ P) (h_s : P s) :
    P (setHalfRate s c b) := by
  unfold setHalfRate
  exact keep_foldl (fun x0 x1 z2 => keep_State_setBit hk.le z2) h_s

theorem keep_cutPorts {s} {c} {g} {b} (hk : Kept ⟨0x8008000000000000000000000000000000000000000000000000000000000000000000000000000000000000000000000000000000000000000000000000000000000000000000000000000000000000000000000000000000000000000000000000000000000000000000000000000000, 0x0, 0x0⟩ P) (h_s : P s) :
    P (cutPorts s c g b) := by
  unfold cutPorts
  exact keep_foldl (fun x0 x1 z2 => keep_ite (keep_State_put hk.le (keep_State_put hk.le z2)) z2) h_s

theorem keep_cutInputs {s} {c} {b} (hk : Kept ⟨0x1d0010000000000000000000000000000000000000000000000000000000000000000000000000000000000000000000000000000000000000000000000000000000000000000000000000000000000000000000000000000000000000000000000000000000000000000000000000000000, 0x0, 0x0⟩ P) (h_s : P s) :
    P (cutInputs s c b) := by
  unfold cutInputs
  exact keep_ite h_s (keep_auxNewlyServed hk.le (keep_State_put hk.le h_s))

theorem keep_moveInjected {s} {c} (hk : Kept ⟨0x600000000000000000000000000000000000000000000000000000000000000000000000000000000000000000000000000000000000000000000000000000000004000000000000000000000000000000000000000000000000000000000000000000000000000000000000000000000, 0x0, 0x0⟩ P) (h_s : P s) :
    P (moveInjected s c) := by
  unfold moveInjected
  exact keep_ite h_s (keep_foldl (fun x0 x1 z2 => keep_injRequest hk.le z2) (keep_State_put hk.le h_s))

theorem keep_calStart {s} {c} (hk : Kept ⟨0x1801c0020000000000000000000000000000000000000000000000000000000000000000000000000000000000000000000000000000000000000000000000000000000000004000000000000000000000000000000000000000000000000000000000000000000000000000000000000000000, 0x0, 0x0⟩ P) (h_s : P s) :
    P (calStart s c) := by
  unfold calStart
  exact keep_ite (keep_foldl (fun x0 x1 z2 => keep_avgRestart hk.le z2) ((keep_State_put hk.le (keep_State_put hk.le ((keep_State_put hk.le (keep_State_put hk.le h_s))))))) ((keep_State_put hk.le (keep_State_put hk.le ((keep_State_put hk.le (keep_State_put hk.le h_s))))))

theorem keep_setCovering {s} {d} {b} (hk : Kept ⟨0x4000000000000000000000000000000000000000000000000000000000000000000000000000000000000000000, 0x0, 0x0⟩ P) (h_s : P s) :
    P (setCovering s d b) := by
  unfold setCovering
  exact keep_ite (keep_State_put hk.le h_s) h_s

theorem keep_cover {s} {c} (hk : Kept ⟨0x1d8018000000000000000000000000000000000000000000000000000000000000000000000000000000000000000000000000000000000000000000000000000000000004000000000000000000000000000000000000000000000010000000000000000000000000000000000000000000, 0x0, 0x0⟩ P) (h_s : P s) :
    P (cover s c) := by
  unfold cover
  exact keep_ite (keep_cutInputs hk.le ((keep_setCovering hk.le h_s))) (keep_setHalfRate hk.le (keep_foldl (fun x0 x1 z2 => keep_cutPorts hk.le z2) ((keep_setCovering hk.le h_s))))

theorem keep_retire {s} {c} (hk : Kept ⟨0x39d81c8620000008060700360000000000000e00880000000300800415600000001006284081020000002f05c02c6c60004006000000000000400018000000000001180000421c000002800010000000000000000000000000000000c40000000000088000e00000483100000b00b00022b80000, 0x100000000000000000000000000000000000000000001e00060000000000000000000000000000000000, 0x318⟩ P) (h_s : P s) :
    P (retire s c) := by
  unfold retire
  extract_lets -merge -underBinder +onlyGivenNames y0 y1
  clear_value y0 y1
  extract_lets -merge -underBinder +onlyGivenNames y2
  have z3 : P y2 := keep_State_put hk.le (keep_State_count hk.le (keep_State_put hk.le (keep_State_put hk.le h_s)))
  clear_value y2
  extract_lets -merge -underBinder +onlyGivenNames y4
  have z5 : P y4 := keep_setRetiredBit hk.le (keep_State_clearAll hk.le z3)
  clear_value y4
  extract_lets -merge -underBinder +onlyGivenNames y6
  have z7 : P y6 := keep_State_put hk.le z5
  clear_value y6
  extract_lets -merge -underBinder +onlyGivenNames y8
  have z9 : P y8 := keep_ite (keep_convEpochAdvance hk.le z7) (keep_State_put hk.le z7)
  clear_value y8
  extract_lets -merge -underBinder +onlyGivenNames y13
  have z14 : P y13 := keep_setCovering hk.le (keep_moveInjected hk.le z9)
  clear_value y13
  extract_lets -merge -underBinder +onlyGivenNames y18
  have z19 : P y18 := keep_State_post hk.le z14
  clear_value y18
  exact keep_calStart hk.le ((keep_ite ((keep_judgeConvRedundancy hk.le ((keep_ite (keep_absorb hk.le z19) z19)))) (keep_foldl (fun x20 x21 z22 => keep_ite z22 (keep_plannedFault hk.le z22)) ((keep_judgeConvRedundancy hk.le ((keep_ite (keep_absorb hk.le z19) z19)))))))

theorem keep_retirement {s} {c} {g} (hk : Kept ⟨0x39d81d8638000008060700360000000000000e00880000000300800415600000001006284081020000002f05c02c6c60004006000000000000400018000000000001180000421c000002800010000000000000000000000000000000c40010000000088000e00000483100000b00b00022b80000, 0x100000000000000000000000000000000000000000001e00060000000000000000000000000000000000, 0x318⟩ P) (h_s : P s) :
    P (retirement s c g) := by
  unfold retirement
  exact keep_ite h_s (keep_ite (keep_cutInputs hk.le ((keep_ite (keep_retire hk.le h_s) h_s))) (keep_setHalfRate hk.le (keep_cutPorts hk.le ((keep_ite (keep_retire hk.le h_s) h_s)))))

theorem keep_uncover {s} {c} (hk : Kept ⟨0x1d8018000000000000000000000000000000000000000000000000000000000000000000000000000000000000000000000000000000000000000000000000000000000004000000000000000000000000000000000000000000000010000000000000000000000000000000000000000000, 0x0, 0x0⟩ P) (h_s : P s) :
    P (uncover s c) := by
  unfold uncover
  exact keep_ite (keep_cutInputs hk.le ((keep_setCovering hk.le (keep_State_put hk.le h_s)))) (keep_setHalfRate hk.le (keep_foldl (fun x0 x1 z2 => keep_cutPorts hk.le z2) ((keep_setCovering hk.le (keep_State_put hk.le h_s)))))

theorem keep_convReturn {s} {c} (hk : Kept ⟨0x38401d801800000000000036000000000000000000000000000000000000000000000000000000000000000000000000004000000000000000000008000000000000180000000c000000000000000000000000000000000000000000000010000000000000000000000000000000300022b00000, 0x0, 0x108⟩ P) (h_s : P s) :
    P (convReturn s c) := by
  unfold convReturn
  exact keep_ite h_s (keep_judgeConvRedundancy hk.le (keep_State_post hk.le ((keep_uncover hk.le ((keep_convEpochAdvance hk.le (keep_setRetiredBit hk.le (keep_State_put hk.le h_s))))))))

theorem keep_strike {s} {c} {dev} (hk : Kept ⟨0x8400000000000000000000000000000000000000000000000000000000000000000000000000000000000000000000040000000000000000000000000000000000000000110000000000000000000000000000000000000000000000000000000000000000000000000000000300022b00000, 0x0, 0x8⟩ P) (h_s : P s) :
    P (strike s c dev) := by
  unfold strike
  exact keep_ite (keep_State_put hk.le ((keep_State_post hk.le ((keep_State_put hk.le (keep_State_put hk.le (keep_State_put hk.le h_s))))))) ((keep_State_post hk.le ((keep_State_put hk.le (keep_State_put hk.le (keep_State_put hk.le h_s))))))

theorem keep_refVerdict {s} {c} {dev} {tol} (hk : Kept ⟨0x48400000000000000000000000000000000000000000000000000000000000000000000000000000000000000000000040000000000000000000000000000000000000000110000000000000000000000000000000000000000000000000000000000000000000000000000000300022b00000, 0x0, 0x8⟩ P) (h_s : P s) :
    P (refVerdict s c dev tol) := by
  unfold refVerdict
  exact keep_ite (keep_State_put hk.le (keep_strike hk.le h_s)) (keep_ite (keep_State_put hk.le ((keep_State_put hk.le (keep_State_put hk.le h_s)))) ((keep_State_put hk.le (keep_State_put hk.le h_s))))

theorem keep_refCheck {s} {j} {devs} (hk : Kept ⟨0x49400000000000000000000000000000000000000000000000000000000000000000000000000000000000000000000040000000000000000000000000000000004000001110000000000000000000000000000000000000000000000000000000000000000000000000000000300022b00000, 0x0, 0x8⟩ P) (h_s : P s) :
    P (refCheck s j devs) := by
  unfold refCheck
  extract_lets -merge -underBinder +onlyGivenNames y6
  clear_value y6
  extract_lets -merge -underBinder +onlyGivenNames y13
  have z14 : P y13 := keep_foldl (fun x15 x16 z17 => keep_State_puti hk.le z17) h_s
  clear_value y13
  extract_lets -merge -underBinder +onlyGivenNames y24
  clear_value y24
  exact keep_ite (keep_ite (keep_State_post hk.le (keep_State_setBit hk.le ((keep_foldl (fun x25 x26 z27 => keep_State_put hk.le z27) (keep_State_put hk.le z14))))) ((keep_foldl (fun x25 x26 z27 => keep_State_put hk.le z27) (keep_State_put hk.le z14)))) (keep_foldl (fun x28 x29 z30 => keep_refVerdict hk.le z30) (keep_State_put hk.le z14))

theorem keep_crossCheck {s} {j} {c} {dev} (hk : Kept ⟨0x104800000000000000000000000000000000000000000000000000000000000000000000000000000000000000000000040000000000000000000000000000000002000001000000000000000000000000000000000000000000000000000000000000000000000000000000000300022b00000, 0x0, 0x8⟩ P) (h_s : P s) :
    P (crossCheck s j c dev) := by
  unfold crossCheck
  extract_lets -merge -underBinder +onlyGivenNames y0
  have z1 : P y0 := keep_State_puti hk.le h_s
  clear_value y0
  exact keep_ite (keep_State_setBit hk.le (keep_State_put hk.le z1)) (keep_ite z1 (keep_ite (keep_State_put hk.le (keep_State_put hk.le ((keep_State_post hk.le (keep_State_setBit hk.le ((keep_State_put hk.le z1))))))) ((keep_State_put hk.le z1))))

theorem keep_refCodes {s} {cs} {a} {b} (hk : Kept ⟨0x40000000000000000000000000000000000000000000000000000000000000000000000000000000000000000000000000000000000000000000000000300022b00000, 0x0, 0x8⟩ P) (h_s : P s) :
    P (refCodes s cs a b).1 := by
  unfold refCodes
  exact keep_mk (keep_foldl (fun x0 x1 z2 => keep_ite (keep_copyQ9 hk.le z2) (keep_copyQ8 hk.le z2)) h_s)

theorem keep_converterCheck {s} {j} {a} {b} {port} {free} (hk : Kept ⟨0x14de00000000000000000000000000000000000000000000000000000000000000000000000000000000000000000000040000000000000000000000000000000006000021110000000000000000000000000000000000000000000000000000000000000000000000000000000300022b00000, 0x300000000000000000000000000000000000000000000000000000000000000000000000000000000000000000000000000, 0x8⟩ P) (h_s : P s) :
    P (converterCheck s j a b port free) := by
  unfold converterCheck
  extract_lets -merge -underBinder +onlyGivenNames y0 y1
  clear_value y0 y1
  refine keep_ite ?_ ?_
  · exact h_s
  · extract_lets -merge -underBinder +onlyGivenNames y2
    have z3 : P y2 := keep_State_develop hk.le (keep_State_develop hk.le h_s)
    clear_value y2
    extract_lets -merge -underBinder +onlyGivenNames y4 y5
    clear_value y4 y5
    refine keep_ite ?_ ?_
    · split
      · rename_i y8 y9 q6
        have z7 : P y8 := keep_fst (keep_refCodes hk.le z3) q6
        exact keep_refCheck hk.le z7
    · refine keep_ite ?_ ?_
      · extract_lets -merge -underBinder +onlyGivenNames y10
        clear_value y10
        split
        · rename_i y13 y14 q11
          have z12 : P y13 := keep_fst (keep_refCodes hk.le (keep_State_put hk.le z3)) q11
          exact keep_refCheck hk.le z12
      · exact keep_ite (keep_State_count hk.le ((keep_State_put hk.le z3))) (keep_crossCheck hk.le (keep_copyQ8 hk.le ((keep_State_put hk.le z3))))

theorem keep_calibrate {s} {c} (hk : Kept ⟨0x1801d8038000000000000000000000000000000000000000000000000000000000000000000000000000000000000000000000000000000000000000000000000000000000004000000000000000000000000000000000000000000000010000000000000000000000000000000000000000000, 0x0, 0x0⟩ P) (h_s : P s) :
    P (calibrate s c) := by
  unfold calibrate
  exact keep_ite (keep_State_put hk.le h_s) (keep_ite ((keep_calStart hk.le h_s)) (keep_cover hk.le ((keep_calStart hk.le h_s))))

theorem keep_calRotation {s} (hk : Kept ⟨0x600000000000000000000000000000000000000000000000000000000000000000000000000000000000000000000000000000000000000000000000000000000000000000000000000000000000000000000000000000000000000000000000000000000000000000000000000000000000000, 0x400000000000000000000000000000000000000000000000000000000000000000000000000000000000000000000000000, 0x0⟩ P) (h_s : P s) :
    P (calRotation s) := by
  unfold calRotation
  exact keep_foldl (fun x0 x1 z2 => keep_State_put hk.le (keep_State_put hk.le z2)) (keep_State_develop hk.le h_s)

theorem keep_calibrationDue {s} {c} (hk : Kept ⟨0x7801d8038000000000000000000000000000000000000000000000000000000000000000000000000000000000000000000000000000000000000000000000000008000000004000000000000000000000000000000000000000000000010000000000000000000000000000000000000000000, 0x400000000000000000000000000000000000000000000000000000000000000000000000000000000000000000000000000, 0x0⟩ P) (h_s : P s) :
    P (calibrationDue s c) := by
  unfold calibrationDue
  extract_lets -merge -underBinder +onlyGivenNames y0 y1
  clear_value y0 y1
  refine keep_ite ?_ ?_
  · exact h_s
  · extract_lets -merge -underBinder +onlyGivenNames y2
    have z3 : P y2 := keep_ite h_s (keep_State_put hk.le (keep_State_put hk.le h_s))
    clear_value y2
    exact keep_ite ((keep_ite z3 (keep_calRotation hk.le z3))) (keep_ite (keep_calibrate hk.le ((keep_ite z3 (keep_calRotation hk.le z3)))) (keep_State_put hk.le (keep_State_count hk.le ((keep_ite z3 (keep_calRotation hk.le z3))))))

theorem keep_calibrationDeferred {s} {c} (hk : Kept ⟨0x1801d8038000000000000000000000000000000000000000000000000000000000000000000000000000000000000000000000000000000000000000000000000000000000004000000000000000000000000000000000000000000000010000000000000000000000000000000000000000000, 0x0, 0x0⟩ P) (h_s : P s) :
    P (calibrationDeferred s c) := by
  unfold calibrationDeferred
  exact keep_ite (keep_calibrate hk.le h_s) h_s

theorem keep_calCommand {s} {c} (hk : Kept ⟨0x1801d8038000000000000000000000000000000000000000000000000000000000000000000000000000000000000000000000000000000000000000000000000000000000404000000000000000000000000000000000000000000000010000000000000000000000000000000000000000000, 0x0, 0x0⟩ P) (h_s : P s) :
    P (calCommand s c).1 := by
  unfold calCommand
  exact keep_ite1 (keep_mk (keep_calibrate hk.le h_s)) (keep_mk (keep_State_put hk.le h_s))

theorem keep_calEnd {s} {c} (hk : Kept ⟨0x801d8018000000000000000000000000000000000000000000000000000000000000000000000000000000000000000000000000000000000000000000000000000000000004000000000000000000000000000000000000000000000010000000000000000000000000000000000000000000, 0x0, 0x0⟩ P) (h_s : P s) :
    P (calEnd s c) := by
  unfold calEnd
  extract_lets -merge -underBinder +onlyGivenNames y3
  have z4 : P y3 := keep_State_put hk.le h_s
  clear_value y3
  exact keep_ite (keep_State_put hk.le ((keep_ite (keep_foldl (fun x5 x6 z7 => keep_avgRestart hk.le z7) z4) z4))) (keep_uncover hk.le ((keep_ite (keep_foldl (fun x5 x6 z7 => keep_avgRestart hk.le z7) z4) z4)))

theorem keep_calPairNext {s} {c} (hk : Kept ⟨0x104000000000000000000000000000000000000000000000000000000000000000000000000000000000000000000000000000000000000000000000000000000000000000000000000000000000000000000000000000000000000000000000000000000000000000000000000000000000000, 0x0, 0x0⟩ P) (h_s : P s) :
    P (calPairNext s c) := by
  unfold calPairNext
  exact keep_ite (keep_State_put hk.le (keep_State_put hk.le h_s)) h_s

theorem keep_calFail {s} {c} {why} (hk : Kept ⟨0x1ac000000000000000000000000000000000000000000000000000000000000000000000000000000000000000000000040000000000000000000000000000000000000000804000000000000000000000000000000000000000000000000000000000000000000000000000000300022b00000, 0x0, 0x8⟩ P) (h_s : P s) :
    P (calFail s c why) := by
  unfold calFail
  extract_lets -merge -underBinder +onlyGivenNames y0
  have z1 : P y0 := keep_State_post hk.le (keep_State_put hk.le (keep_State_put hk.le h_s))
  clear_value y0
  exact keep_ite (keep_State_put hk.le ((keep_State_put hk.le z1))) (keep_calPairNext hk.le (keep_State_put hk.le (keep_State_put hk.le ((keep_State_put hk.le z1)))))

theorem keep_calDone {s} {c} {ofs} {gain} {code} (hk : Kept ⟨0x1ae1d8018000000000000000000000000000000000000000000000000000000000000000000000000000000000000000040000000000000000000000000000000000000000864000000000000000000000000000000000000000000000010000000000000000000000000000000300022b00000, 0x0, 0x8⟩ P) (h_s : P s) :
    P (calDone s c ofs gain code) := by
  unfold calDone
  exact keep_ite h_s (keep_ite (keep_calFail hk.le h_s) (keep_ite (keep_calFail hk.le h_s) (keep_calPairNext hk.le (keep_calEnd hk.le ((keep_State_post hk.le ((keep_State_put hk.le (keep_State_put hk.le (keep_State_puti hk.le h_s))))))))))

theorem keep_syscalReject {s} {why} (hk : Kept ⟨0x8000000000000000000000000000000000000000000000000000000000000000000000000000000000000000000000000040000000000000000000000000000000600000000000000000000000000000000000000000000000000000000000000000000000000000000000000000300022b00000, 0x0, 0x8⟩ P) (h_s : P s) :
    P (syscalReject s why) := by
  unfold syscalReject
  exact keep_State_post hk.le (keep_State_put hk.le (keep_State_put hk.le (keep_State_put hk.le h_s)))

theorem keep_syscalStart {s} {step} (hk : Kept ⟨0x18000000000000000000000000000000000000000000000000000000000000000000000000000000000000000000000000040000000000000000000000000000000600000000000000000000000000000000000000000000000000000000000000000000000000000000000000000300022b00000, 0x0, 0x8⟩ P) (h_s : P s) :
    P (syscalStart s step).1 := by
  unfold syscalStart
  exact keep_ite1 (keep_mk (keep_syscalReject hk.le h_s)) (keep_mk (keep_State_put hk.le (keep_State_put hk.le h_s)))

theorem keep_storeCoef {s} {ch} {ofs} {gain} (hk : Kept ⟨0xc03c0000000000000000000000000000000000000000000000000000000000000000000000000000000000000000000000, 0x0, 0x0⟩ P) (h_s : P s) :
    P (storeCoef s ch ofs gain) := by
  unfold storeCoef
  refine keep_ite ?_ ?_
  · exact keep_ite (keep_State_put hk.le (keep_State_puti hk.le h_s)) (keep_State_put hk.le (keep_State_puti hk.le h_s))
  · split
    · exact keep_State_put hk.le (keep_State_puti hk.le h_s)
    · exact h_s

theorem keep_syscalDone {s} {code} {bad} (hk : Kept ⟨0xe80000000000000000007000000000000000000000000000000000000000000000000000000000000000000000000000000400600000000000000000000000000006000c03c0000000000000000000000000000000000000000000000000000000000000000000000000000000000300022b00000, 0x0, 0x208⟩ P) (h_s : P s) :
    P (syscalDone s code bad) := by
  unfold syscalDone
  extract_lets -merge -underBinder +onlyGivenNames y0 y1
  clear_value y0 y1
  extract_lets -merge -underBinder +onlyGivenNames y2
  have z3 : P y2 := keep_ite (keep_State_put hk.le h_s) h_s
  clear_value y2
  exact keep_ite z3 (keep_ite (keep_syscalReject hk.le z3) (keep_ite (keep_syscalReject hk.le z3) (keep_ite (keep_ite (keep_syscalReject hk.le z3) (keep_State_puti hk.le (keep_State_put hk.le (keep_State_put hk.le (keep_State_put hk.le z3))))) (keep_ite (keep_syscalReject hk.le z3) (keep_ite (keep_syscalReject hk.le z3) (keep_State_record hk.le ((keep_State_post hk.le ((keep_State_put hk.le (keep_storeCoef hk.le z3)))))))))))

theorem keep_tripFollow {s} {p} (hk : Kept ⟨0x600000000000000000000000000000000000000000000000000000000000000000000000000000000000000000000000000000000000000000000000000000000004000000000000000000000000000000000000000000000000000000000000000000000000000000000000000000000, 0x0, 0x0⟩ P) (h_s : P s) :
    P (tripFollow s p) := by
  unfold tripFollow
  exact keep_injRequest hk.le h_s

theorem keep_followPeriod {s} {p} (hk : Kept ⟨0x600000000000000000000000000000000000000000000000000000000000000000000000000000000000000000000000000000000000000000000000000000000000000000000000000000000000000000000000000000000000000000000000000000000000000000000000000000000, 0x0, 0x0⟩ P) (h_s : P s) :
    P (followPeriod s p) := by
  unfold followPeriod
  exact keep_ite h_s (keep_setInjQueue hk.le h_s)

theorem keep_convServe {s} {c} (hk : Kept ⟨0x4000000000000000000000000000000000000000000000000000000000000000000000000000000000000000000, 0x0, 0x0⟩ P) (h_s : P s) :
    P (convServe s c) := by
  unfold convServe
  exact keep_State_put hk.le h_s

theorem keep_convDomainBack {s} {c} (hk : Kept ⟨0x38001d82b800000000000000000000000000000000000000000000000000000000000000000000000000000000000000000000000000000000000000000000000000000000000c000000000000000000000000000000000000000000000010000000000000000000000000000000000000000000, 0x0, 0x0⟩ P) (h_s : P s) :
    P (convDomainBack s c) := by
  unfold convDomainBack
  exact keep_ite (keep_convServe hk.le (keep_convEpochAdvance hk.le ((keep_State_clearAll hk.le h_s)))) (keep_ite (keep_State_put hk.le (keep_State_put hk.le ((keep_State_clearAll hk.le h_s)))) (keep_cover hk.le (keep_State_put hk.le ((keep_State_clearAll hk.le h_s)))))

theorem keep_convEpochLate {s} {c} (hk : Kept ⟨0x38001d801800000000000000000000000000000000000000000000000000000000000000000000000000000000000000000000000000000000000000000000000000000000000c000000000000000000000000000000000000000000000010000000000000000000000000000000000000000000, 0x0, 0x0⟩ P) (h_s : P s) :
    P (convEpochLate s c) := by
  unfold convEpochLate
  exact keep_ite h_s (keep_ite ((keep_convEpochAdvance hk.le h_s)) (keep_ite (keep_State_put hk.le ((keep_convEpochAdvance hk.le h_s))) (keep_uncover hk.le ((keep_convEpochAdvance hk.le h_s)))))

theorem keep_takeTable {s} {k} (hk : Kept ⟨0x70000000000000000000000000000000000000000000000000000000000000000000000000000000000000000000000000000000040000000000000000000000000080000000000000000000000000000000000000000000000000000000000000000000000000000000000000000000000300022b00000, 0x0, 0x8⟩ P) (h_s : P s) :
    P (takeTable s k) := by
  unfold takeTable
  exact keep_ite h_s (keep_ite (keep_foldl (fun x0 x1 z2 => keep_State_puti hk.le (keep_State_put hk.le z2)) ((keep_State_put hk.le h_s))) (keep_State_post hk.le (keep_State_put hk.le ((keep_State_put hk.le h_s)))))

theorem keep_scanDevelop {s} {k} (hk : Kept ⟨0x70000000000000000000000000000000000000000000000000000000000000000000000000000000000000000000000000000000040000000000000000000000000080000000000000000000000000000000000000000000000000000000000000000000000000000000000000000000000300022b00000, 0xff401fff800000000000000000000000000000000000000000000000000000000000000000000000000000000000000000000000000000, 0x8⟩ P) (h_s : P s) :
    P (scanDevelop s k) := by
  unfold scanDevelop
  extract_lets -merge -underBinder +onlyGivenNames y0
  have z1 : P y0 := keep_State_developList hk.le (keep_State_developList hk.le h_s)
  clear_value y0
  exact keep_takeTable hk.le ((keep_ite (keep_State_develop hk.le z1) (keep_ite (keep_State_developList hk.le z1) z1)))

theorem keep_chooseRate {s} {k} (hk : Kept ⟨0x10000000000000000000000000000000000000000000000000000000000000000000000000000000000000000000000000000000000, 0x0, 0x0⟩ P) (h_s : P s) :
    P (chooseRate s k) := by
  unfold chooseRate
  exact keep_State_put hk.le h_s

theorem keep_postThrottle {s} {i} (hk : Kept ⟨0x40000000000000000000000000000000000000000000000000000000000000000000000000000000000000000000000000000000000000000000000000300022b00000, 0x0, 0x8⟩ P) (h_s : P s) :
    P (postThrottle s i) := by
  unfold postThrottle
  exact keep_State_post hk.le h_s

theorem keep_freezeFor {s} {k} (hk : Kept ⟨0x500000000000000000000000000000000000000000000000000000000000000000000000000000000000000000000000000000040000000000000000000006000000000000000000000000000000000000000000000000000000000000000000000000000000000000000000000000000300022b00000, 0x0, 0x8⟩ P) (h_s : P s) :
    P (freezeFor s k) := by
  unfold freezeFor
  exact keep_foldl (fun x0 x1 z2 => keep_ite z2 (keep_ite ((keep_State_setBit hk.le z2)) (keep_postThrottle hk.le (keep_State_put hk.le (keep_State_put hk.le (keep_State_put hk.le ((keep_State_setBit hk.le z2)))))))) h_s

theorem keep_unfreezeFor {s} {k} (hk : Kept ⟨0xd00000000000000000000000000000000000000000000000000000000000000000000000000000000000000000000000000000000000000000000000000006000000000000000000000000000000000000000000000000000000000000000000000000000000000000000000000000000000000000000, 0x0, 0x0⟩ P) (h_s : P s) :
    P (unfreezeFor s k) := by
  unfold unfreezeFor
  exact keep_foldl (fun x0 x1 z2 => keep_ite z2 (keep_State_put hk.le (keep_State_put hk.le ((keep_State_put hk.le (keep_State_put hk.le z2)))))) (keep_State_put hk.le h_s)

theorem keep_judgeSensorRedundancy {s} (hk : Kept ⟨0x360000000000000000000000000000000000000000000000000000000000000000000000000040000000000000000000080000000000000000000000000000000000000000000000000000000000000000000000000000000000000000000000000000300022b00000, 0x0, 0x108⟩ P) (h_s : P s) :
    P (judgeSensorRedundancy s) := by
  unfold judgeSensorRedundancy
  exact keep_setRedLost hk.le h_s

theorem keep_setTemp {s} {k} (hk : Kept ⟨0xc000000000000000000000000360000000000000000000000000000000000000000000000000000000000000000000000000040000000000000000000080000002000000000000000000000000000000000000000000000000000000000000000000000000000000000000000000000300022b00000, 0x0, 0x108⟩ P) (h_s : P s) :
    P (setTemp s k) := by
  unfold setTemp
  extract_lets -merge -underBinder +onlyGivenNames y0 y1 y2
  clear_value y0 y1 y2
  extract_lets -merge -underBinder +onlyGivenNames y3
  have z4 : P y3 := keep_State_put hk.le h_s
  clear_value y3
  extract_lets -merge -underBinder +onlyGivenNames y5
  have z6 : P y5 := by
    unfold y5
    refine keep_ite ?_ ?_
    · split
      · exact keep_State_post hk.le z4
      · exact z4
    · exact z4
  clear_value y5
  exact keep_State_put hk.le ((keep_judgeSensorRedundancy hk.le (keep_State_put hk.le z6)))

theorem keep_judgeBlind {s} {k} (hk : Kept ⟨0xc000000008000000008060000360000000000000e00880000000300800415600000001006284081020000002f05c02c6c60004000000000000000400008000000a000000000000000000002800010000000000000000000000000000000c40000000000088000e00000483100000b00b00022b80000, 0x100000000000000000000000000000000000000000001e00060000000000000000000000000000000000, 0x118⟩ P) (h_s : P s) :
    P (judgeBlind s k) := by
  unfold judgeBlind
  exact keep_ite (keep_foldl (fun x0 x1 z2 => keep_ite z2 (keep_plannedFault hk.le z2)) ((keep_setTemp hk.le ((keep_State_emcy hk.le ((keep_State_post hk.le (keep_State_put hk.le h_s)))))))) h_s

theorem keep_judgeScan {s} {k} {t} {elec} {skip} (hk : Kept ⟨0xdbdf00000008000000008060000360000000000000e00880000000300800415600000001006284081020000002f05c02c6c60004000000000000000400008600023e000000000000000000002800010000000000000000000000000000000c40000000000088000e00000483100000b00b00022b80000, 0x100000000000000000000000000000000000000000001e00060000000000000000000000000000000000, 0x118⟩ P) (h_s : P s) :
    P (judgeScan s k t elec skip) := by
  unfold judgeScan
  extract_lets -merge -underBinder +onlyGivenNames y0 y1 y2 y3 y4
  clear_value y0 y1 y2 y3 y4
  extract_lets -merge -underBinder +onlyGivenNames y5
  have z6 : ∀ x7, P x7 → P (y5 x7) := by
    intro x7 z8
    exact keep_State_put hk.le (keep_State_put hk.le z8)
  clear_value y5
  extract_lets -merge -underBinder +onlyGivenNames y9
  have z10 : P y9 := keep_State_put hk.le (keep_State_put hk.le (keep_State_put hk.le h_s))
  clear_value y9
  extract_lets -merge -underBinder +onlyGivenNames y11
  have z12 : P y11 := keep_ite z10 (keep_unfreezeFor hk.le z10)
  clear_value y11
  extract_lets -merge -underBinder +onlyGivenNames y13
  clear_value y13
  extract_lets -merge -underBinder +onlyGivenNames y14
  have z15 : P y14 := keep_State_put hk.le z12
  clear_value y14
  extract_lets -merge -underBinder +onlyGivenNames y16
  have z17 : P y16 := keep_State_put hk.le (keep_State_put hk.le (keep_State_count hk.le z15))
  clear_value y16
  extract_lets -merge -underBinder +onlyGivenNames y18
  have z19 : P y18 := keep_State_put hk.le z17
  clear_value y18
  extract_lets -merge -underBinder +onlyGivenNames y20
  have z21 : P y20 := keep_State_put hk.le (z6 _ z15)
  clear_value y20
  extract_lets -merge -underBinder +onlyGivenNames y22
  have z23 : P y22 := keep_State_put hk.le z21
  clear_value y22
  extract_lets -merge -underBinder +onlyGivenNames y24
  have z25 : P y24 := keep_ite (keep_ite (z6 _ z19) z19) (keep_ite (keep_State_put hk.le z21) (keep_ite (keep_State_put hk.le z23) z23))
  clear_value y24
  exact keep_chooseRate hk.le (keep_setTemp hk.le (keep_judgeBlind hk.le z25))

theorem keep_scanResult {s} {k} {a} {b} {c} {ovr} (hk : Kept ⟨0xdbdf00000008000000008060000360000000000000e00880000000300800415600000001006284081020000002f05c02c6c600040000000000000004000086000a3e000000000000000000002800010000000000000000000000000000000c40000000000088000e00000483100000b00b00022b80000, 0x100000000000000000000000000000000000000000001e00060000000000000000000000000000000000, 0x118⟩ P) (h_s : P s) :
    P (scanResult s k a b c ovr) := by
  unfold scanResult
  exact keep_ite h_s (keep_ite (keep_judgeScan hk.le (keep_State_put hk.le h_s)) (keep_ite (keep_judgeScan hk.le h_s) (keep_judgeScan hk.le h_s)))

theorem keep_scanVirtual {s} {k} (hk : Kept ⟨0xdbdf00000008000000008060000360000000000000e00880000000300800415600000001006284081020000002f05c02c6c60004000000000000000400008600023e000000000000000000002800010000000000000000000000000000000c40000000000088000e00000483100000b00b00022b80000, 0x100000000000000000000000000000000000000000001e00060000000000000000000000000000000000, 0x118⟩ P) (h_s : P s) :
    P (scanVirtual s k) := by
  unfold scanVirtual
  extract_lets -merge -underBinder +onlyGivenNames y0 y1
  clear_value y0 y1
  extract_lets -merge -underBinder +onlyGivenNames y2
  have z3 : ∀ x4, P x4 → P (y2 x4) := by
    intro x4 z5
    exact keep_ite (keep_unfreezeFor hk.le (keep_State_put hk.le (keep_State_put hk.le z5))) z5
  clear_value y2
  exact keep_ite (keep_judgeScan hk.le (z3 _ h_s)) (keep_ite (keep_ite (keep_judgeScan hk.le ((z3 _ h_s))) (keep_chooseRate hk.le (keep_setTemp hk.le (keep_judgeBlind hk.le ((keep_State_put hk.le ((keep_State_put hk.le (keep_State_put hk.le (keep_State_count hk.le ((z3 _ h_s)))))))))))) (keep_chooseRate hk.le (keep_setTemp hk.le (keep_State_put hk.le h_s))))

theorem keep_scanMissed {s} {k} (hk : Kept ⟨0x10000000000000000000000000000000000000000000000000000000000000000000000000000000000000000000000000000000000000000000000000000000000000000000000000000000000000000000000000000000000000000000000000000000000000000000000000000000000000000000, 0x0, 0x0⟩ P) (h_s : P s) :
    P (scanMissed s k) := by
  unfold scanMissed
  exact keep_ite (keep_State_put hk.le h_s) h_s

theorem keep_scanDue (hk : Kept ⟨0x70dfdf0000000b600000008060000360000000000000e00880000000300800415600000001006284081020000002f05c02c6c6000400000000000000040000860002be000000000004000000002800010000000000000000000000000000000c40000000000088000e00000483100000b00b00022b80000, 0xff401fff800000000000000000100000000000000000000000000000000000000000001e00060000000000000000000000000000000000, 0x118⟩ P) {s k} (h_s : P s) : P (scanDue s k) := by
  unfold scanDue
  extract_lets -merge -underBinder +onlyGivenNames y
  refine keep_ite h_s ?_
  have hy : P y := keep_State_put hk.le (keep_scanDevelop hk.le h_s)
  clear_value y
  refine keep_ite (keep_scanVirtual hk.le hy) (keep_ite (keep_scanMissed hk.le hy) (keep_ite ?_ ?_))
  · have h1 : ∀ (l : List Nat) (x : State × Bool) c ch, P x.1 → P (l.foldl (fun a _ =>
        ((injRequest a.1 c ch prioThermal k).1, a.2 && (injRequest a.1 c ch prioThermal k).2)) x).1 :=
      fun l x c ch hx => keep_foldl1 (fun _ _ h => keep_injRequest hk.le h) hx
    exact keep_ite (keep_State_put hk.le (h1 _ _ _ _ hy)) (keep_scanMissed hk.le (h1 _ _ _ _ hy))
  · exact keep_State_put hk.le (keep_foldl (fun _ _ h => keep_scanRequest hk.le h) hy)

theorem keep_noScan {s} {k} (hk : Kept ⟨0x520000000000000000000000000000000000000000000000000000000000000000000000000000000000000000000000000000040000000000000000000006000000000000000000000000000000000000000000000000000000000000000000000000000000000000000000000000000300022b00000, 0x0, 0x8⟩ P) (h_s : P s) :
    P (noScan s k) := by
  unfold noScan
  exact keep_ite h_s (keep_freezeFor hk.le (keep_State_post hk.le (keep_State_put hk.le h_s)))

theorem keep_sensorSuspect {s} {k} (hk : Kept ⟨0xc00000000000000000000000036000000000000000000000000000000000000000000000000000000000000000000000000004000000000000000000008000001a000000000000000000000000000000000000000000000000000000000000000000000000000000000000000000000300022b00000, 0x0, 0x108⟩ P) (h_s : P s) :
    P (sensorSuspect s k) := by
  unfold sensorSuspect
  exact keep_ite (keep_chooseRate hk.le (keep_setTemp hk.le (keep_State_post hk.le (keep_State_put hk.le h_s)))) h_s

theorem keep_sensorFailed {s} {k} (hk : Kept ⟨0x50f000000008000000008060700360000000000000e00880000000300800415600000001006284081020000002f05c02c6c60004006000000000000400018600005a000000000000000000002800010000000000000000000000000000000c40000000000088000e00000483100000b00b00022b80000, 0x100000000000000000000000000000000000000000001e00060000000000000000000000000000000000, 0x318⟩ P) (h_s : P s) :
    P (sensorFailed s k) := by
  unfold sensorFailed
  exact keep_ite (keep_chooseRate hk.le (keep_judgeBlind hk.le (keep_setTemp hk.le ((keep_freezeFor hk.le ((keep_absorb hk.le (keep_State_post hk.le ((keep_State_put hk.le (keep_State_put hk.le (keep_State_put hk.le (keep_State_put hk.le h_s))))))))))))) h_s

theorem keep_sensorSubstituted {s} {k} (hk : Kept ⟨0xd0c00000000000000000000000036000000000000000000000000000000000000000000000000000000000000000000000000004000000000000000000008600001a000000000000000000000000000000000000000000000000000000000000000000000000000000000000000000000300022b00000, 0x0, 0x108⟩ P) (h_s : P s) :
    P (sensorSubstituted s k) := by
  unfold sensorSubstituted
  exact keep_ite (keep_chooseRate hk.le (keep_unfreezeFor hk.le ((keep_State_post hk.le ((keep_setTemp hk.le (keep_State_put hk.le h_s))))))) h_s

theorem keep_sensorRecovered {s} {k} (hk : Kept ⟨0xd0ca0000000000000000000000036000000000000000000000000000000000000000000000000000000000000000000000000004000000000000000000008600001a000000000000000000000000000000000000000000000000000000000000000000000000000000000000000000000300022b00000, 0x0, 0x108⟩ P) (h_s : P s) :
    P (sensorRecovered s k) := by
  unfold sensorRecovered
  exact keep_ite (keep_chooseRate hk.le (keep_unfreezeFor hk.le (keep_setTemp hk.le ((keep_State_emcyIfClear hk.le (keep_State_post hk.le ((keep_State_put hk.le (keep_State_put hk.le (keep_State_put hk.le h_s)))))))))) h_s

theorem keep_writeSnsEn {s} {k} {on} (hk : Kept ⟨0xd9db0000000000000000000000036000000000000000000000000000000000000000000000000000000000000000000000000004000000000000000000008600000e000800000000000000000000000000000000000000000000000000000000000000000000000000000000000000000300022b00000, 0x0, 0x108⟩ P) (h_s : P s) :
    P (writeSnsEn s k on) := by
  unfold writeSnsEn
  extract_lets -merge -underBinder +onlyGivenNames y0
  clear_value y0
  extract_lets -merge -underBinder +onlyGivenNames y1
  have z2 : P y1 := keep_State_put hk.le h_s
  clear_value y1
  exact keep_ite (keep_judgeSensorRedundancy hk.le (keep_State_put hk.le ((keep_State_put hk.le (keep_State_put hk.le (keep_State_put hk.le z2)))))) (keep_ite z2 (keep_unfreezeFor hk.le (keep_State_put hk.le ((keep_State_clearAll hk.le (keep_State_put hk.le z2))))))

theorem keep_setStep {s} {i} {n} (hk : Kept ⟨0x200000000000000000000000000000000000000000000000000000000000000000000000000000000000000000000000000000040000000000000000000011000000000000000000000000000000000000000000000000000000000000000000000000000000000000000000000000000300022b00000, 0x0, 0x8⟩ P) (h_s : P s) :
    P (setStep s i n) := by
  unfold setStep
  exact keep_postThrottle hk.le (keep_ite (keep_State_put hk.le ((keep_State_put hk.le (keep_State_put hk.le h_s)))) ((keep_State_put hk.le (keep_State_put hk.le h_s))))

theorem keep_throttleSlot {s} {i} (hk : Kept ⟨0x200000000000000000000000000000000000000000000000000000000000000000000000000000000000000000000000000000040000000000000000000019000000000000000000000000000000000000000000000000000000000000000000000000000000000000000000000000000300022b00000, 0x0, 0x8⟩ P) (h_s : P s) :
    P (throttleSlot s i) := by
  unfold throttleSlot
  exact keep_State_put hk.le ((keep_ite (keep_ite (keep_State_put hk.le h_s) (keep_setStep hk.le h_s)) (keep_ite (keep_setStep hk.le h_s) h_s)))

theorem keep_throttleTick {s} (hk : Kept ⟨0x200000000000000000000000000000000000000000000000000000000000000000000000000000000000000000000000000000040000000000000000000019000000000000000000000000000000000000000000000000000000000000000000000000000000000000000000000000000300022b00000, 0x0, 0x8⟩ P) (h_s : P s) :
    P (throttleTick s) := by
  unfold throttleTick
  exact keep_foldl (fun x0 x1 z2 => keep_throttleSlot hk.le z2) h_s

theorem keep_developThermalLimit {s} {i} (hk : Kept ⟨0x20000000000000000000000000000000000000000000000000000000000000000000000000000000000000000000000000000000000000000, 0x0, 0x0⟩ P) (h_s : P s) :
    P (developThermalLimit s i) := by
  unfold developThermalLimit
  exact keep_State_put hk.le h_s

theorem keep_holdExpiry {s} {i} (hk : Kept ⟨0x400000000000000000000000000000000000000000000000000000000000000000000000000000000000000000000000000000000000000000000000000004000000000000000000000000000000000000000000000000000000000000000000000000000000000000000000000000000000000000000, 0x0, 0x0⟩ P) (h_s : P s) :
    P (holdExpiry s i) := by
  unfold holdExpiry
  exact keep_ite (keep_State_put hk.le (keep_State_put hk.le h_s)) h_s

theorem keep_postBudget {s} {g} {longer} {per} (hk : Kept ⟨0x40000000000000000000000000000000000000000000000000000000000000000000000000000000000000000000000000000000000000000000000000300022b00000, 0x0, 0x8⟩ P) (h_s : P s) :
    P (postBudget s g longer per) := by
  unfold postBudget
  exact keep_State_post hk.le h_s

theorem keep_budgetLengthen {s} (hk : Kept ⟨0x3000000000000000000000200000000000000000000000000000000000000000000000000000000000000000000000000000000040000000000000000000000c00000000000000000000000000000000000000000000000000000000000000000000000000000000000000000000000000300022b00000, 0x0, 0x8⟩ P) (h_s : P s) :
    P (budgetLengthen s) := by
  unfold budgetLengthen
  split
  · exact keep_State_put hk.le h_s
  · exact keep_postBudget hk.le (keep_State_put hk.le (keep_State_put hk.le ((keep_setBudgetPeriod hk.le ((keep_ite h_s (keep_State_put hk.le (keep_State_put hk.le h_s))))))))

theorem keep_budgetRestore {s} (hk : Kept ⟨0x1000000000000000000000200000000000000000000000000000000000000000000000000000000000000000000000000000000040000000000000000000000400000000000000000000000000000000000000000000000000000000000000000000000000000000000000000000000000300022b00000, 0x0, 0x8⟩ P) (h_s : P s) :
    P (budgetRestore s) := by
  unfold budgetRestore
  exact keep_ite h_s (keep_ite (keep_postBudget hk.le (keep_State_put hk.le ((keep_ite (keep_State_put hk.le ((keep_setBudgetPeriod hk.le h_s))) ((keep_setBudgetPeriod hk.le h_s)))))) h_s)

theorem keep_budgetEvaluation {s} (hk : Kept ⟨0x3000000000000000000000200000000000000000000000000000000000000000000000000000000000000000000000000000000040000000000000000000000e00000000000000000000000000000000000000000000000000000000000000000000000000000000000000000000000000300022b00000, 0x40100000000000000000000000000000000000000000000000000000000000000000000000000000000000000000000000000000000000000, 0x8⟩ P) (h_s : P s) :
    P (budgetEvaluation s) := by
  unfold budgetEvaluation
  extract_lets -merge -underBinder +onlyGivenNames y3
  have z4 : P y3 := keep_foldl (fun x5 x6 z7 => keep_State_develop hk.le z7) (keep_State_develop hk.le h_s)
  clear_value y3
  exact keep_ite (keep_budgetLengthen hk.le ((keep_State_put hk.le z4))) (keep_ite (keep_budgetRestore hk.le ((keep_State_put hk.le ((keep_State_put hk.le z4))))) ((keep_State_put hk.le ((keep_State_put hk.le z4)))))

theorem keep_takeSlack {s} {i} {slack} (hk : Kept ⟨0x4000000000000000000000000000000000000000000000000000000000000000040000000000000000000000000000000000000000000000000000000000000000000000000000000000000000000000000000000000000000000000000300022b00718, 0x0, 0x8⟩ P) (h_s : P s) :
    P (takeSlack s i slack) := by
  unfold takeSlack
  extract_lets -merge -underBinder +onlyGivenNames y0
  have z1 : P y0 := keep_State_puti hk.le h_s
  clear_value y0
  extract_lets -merge -underBinder +onlyGivenNames y2
  have z3 : P y2 := keep_ite (keep_State_puti hk.le z1) z1
  clear_value y2
  exact keep_ite (keep_ite ((keep_State_put hk.le z3)) (keep_State_post hk.le (keep_State_put hk.le (keep_State_put hk.le (keep_State_put hk.le ((keep_State_put hk.le z3))))))) (keep_State_put hk.le z3)

theorem keep_fullRate {s} {i} (hk : Kept ⟨0x300, 0x0, 0x0⟩ P) (h_s : P s) :
    P (fullRate s i) := by
  unfold fullRate
  exact keep_ite (keep_State_put hk.le (keep_State_put hk.le h_s)) h_s

theorem keep_missTick {s} {i} (hk : Kept ⟨0xc00000000000000000000000000000000000000000000000000000000000000000000000000000000000000000000000000000000000000000000000000000000000000000000000000000000000000000000000000000000000000000000000000000, 0x0, 0x0⟩ P) (h_s : P s) :
    P (missTick s i) := by
  unfold missTick
  exact keep_State_put hk.le (keep_foldl (fun x0 x1 z2 => keep_State_put hk.le z2) h_s)

theorem keep_deadlineMiss {s} {i} {slack} (hk : Kept ⟨0xe00000000000000000000000000000000000000000000000000000000000000040000000000000000000000000000000000000000000000000000000000000000000000000000000000000000000000000000000000000000000000000300022b00800, 0x0, 0x8⟩ P) (h_s : P s) :
    P (deadlineMiss s i slack) := by
  unfold deadlineMiss
  exact keep_missTick hk.le (keep_State_put hk.le ((keep_State_post hk.le ((keep_State_count hk.le h_s)))))

theorem keep_engineDead {s} {e} {why} (hk : Kept ⟨0x700360000000000000180000000000000000000000000000000000000000000000000000000200040060000000000018020180000000000000000000000000000000000000000000000000000000000000000000000000000000000000000000000000100300022b00000, 0x0, 0x308⟩ P) (h_s : P s) :
    P (engineDead s e why) := by
  unfold engineDead
  exact keep_refreshEngines hk.le (keep_absorb hk.le ((keep_State_post hk.le ((keep_State_put hk.le (keep_State_count hk.le (keep_State_setBit hk.le ((keep_ite (keep_State_setBit hk.le ((keep_State_put hk.le h_s))) ((keep_State_put hk.le h_s)))))))))))

theorem keep_startBist {s} {e} (hk : Kept ⟨0x360000000000000100000000000000000000000000000000000000000000000000000000200040000000000000000000080000000000000000000000000000000000000000000000000000000000000000000000000000000000000000000000000100300022b00000, 0x0, 0x108⟩ P) (h_s : P s) :
    P (startBist s e) := by
  unfold startBist
  exact keep_refreshEngines hk.le (keep_State_put hk.le h_s)

theorem keep_wantMigration {s} {i} {target} {kills} (hk : Kept ⟨0x58000000000000000000000000000000000000000000000000000000000000000000000000000000000000000000000000000000000000000000000000000000000000000000000000000000000000000000000000000000000000000000000000000, 0x0, 0x0⟩ P) (h_s : P s) :
    P (wantMigration s i target kills) := by
  unfold wantMigration
  exact keep_State_put hk.le (keep_State_put hk.le (keep_State_put hk.le h_s))

theorem keep_migrateSlot {s} {i} (hk : Kept ⟨0x58000000000000000000000000000000000000000000000000000000000000000000000000000000800000000000000000000000000000000000000000000000000000000000000000000000000000000000000000000000000000000000000000000, 0x0, 0x0⟩ P) (h_s : P s) :
    P (migrateSlot s i).1 := by
  unfold migrateSlot
  exact keep_ite1 (keep_mk (keep_State_put hk.le h_s)) (keep_mk (keep_wantMigration hk.le h_s))

theorem keep_migrateMask (hk : Kept ⟨0x58000000000000000000000000000000000000000000000000000000000000000000000000000000800000000000000000000000000000000000000000000000000000000000000000000000000000000000000000000000000000000000000000000, 0x0, 0x0⟩ P) {s mask} (h_s : P s) : P (migrateMask s mask).1 := by
  unfold migrateMask
  refine keep_foldl1 ?_ h_s
  intro x p hx
  exact keep_ite1 (keep_migrateSlot hk.le hx) hx

theorem keep_coldStart {s} {i} (hk : Kept ⟨0x4000000000000000000000000000000000000000000000000001000684080000000000e00000000000040000000000000000010000000000000000000000000000000000000000000000000000000000000000000000000000000000000e00000000000000000300022b00000, 0x0, 0x8⟩ P) (h_s : P s) :
    P (coldStart s i) := by
  unfold coldStart
  exact keep_State_count hk.le (keep_homingAbort hk.le ((keep_ite (keep_State_put hk.le (keep_State_put hk.le ((keep_foldl (fun x0 x1 z2 => keep_State_clearAll hk.le z2) h_s)))) ((keep_foldl (fun x0 x1 z2 => keep_State_clearAll hk.le z2) h_s)))))

theorem keep_migrationCutover {s} {i} (hk : Kept ⟨0x40007003600000000057f8f80000000000000000415000000001000684080000000000e0000000020004006000000000001c038180000000000000000000000000000000000000000000000000000000000000000c40000000000000000e000000000000001c0300022b00000, 0x0, 0x308⟩ P) (h_s : P s) :
    P (migrationCutover s i) := by
  unfold migrationCutover
  refine keep_ite ?_ ?_
  · exact h_s
  · split
    · exact h_s
    · extract_lets -merge -underBinder +onlyGivenNames y0 y1 y2
      clear_value y0 y1 y2
      extract_lets -merge -underBinder +onlyGivenNames y3
      have z4 : P y3 := keep_ite (keep_stripEnd hk.le h_s) (keep_stripCancel hk.le h_s)
      clear_value y3
      extract_lets -merge -underBinder +onlyGivenNames y5
      have z6 : P y5 := keep_probeAbort hk.le z4
      clear_value y5
      extract_lets -merge -underBinder +onlyGivenNames y7
      have z8 : P y7 := keep_State_put hk.le (keep_State_put hk.le (keep_State_put hk.le (keep_State_countWrap hk.le z6)))
      clear_value y7
      extract_lets -merge -underBinder +onlyGivenNames y9
      have z10 : P y9 := keep_State_count hk.le (keep_State_clearAll hk.le (keep_State_put hk.le z8))
      clear_value y9
      extract_lets -merge -underBinder +onlyGivenNames y11
      have z12 : P y11 := keep_State_clearAll hk.le z10
      clear_value y11
      extract_lets -merge -underBinder +onlyGivenNames y13
      clear_value y13
      extract_lets -merge -underBinder +onlyGivenNames y14
      have z15 : P y14 := keep_refreshEngines hk.le (keep_State_post hk.le z12)
      clear_value y14
      extract_lets -merge -underBinder +onlyGivenNames y16
      have z17 : P y16 := keep_ite (keep_coldStart hk.le z15) z15
      clear_value y16
      exact keep_ite (keep_ite (keep_engineDead hk.le ((keep_ite (keep_absorb hk.le z17) z17))) (keep_ite (keep_startBist hk.le ((keep_ite (keep_absorb hk.le z17) z17))) ((keep_ite (keep_absorb hk.le z17) z17)))) ((keep_ite (keep_absorb hk.le z17) z17))

theorem keep_coldTakeover {s} {i} (hk : Kept ⟨0x20000000000000000000000000000000000000000000000000000000000000000000000000000000000000000000000000000000000000000000000000000000000000000000000000000000000000000000000000000000000000000000000000000, 0x0, 0x0⟩ P) (h_s : P s) :
    P (coldTakeover s i) := by
  unfold coldTakeover
  exact keep_ite (keep_State_put hk.le h_s) h_s

theorem keep_missMigration {s} {i} (hk : Kept ⟨0x8000000008060000360000000000458e00880000000300800415600000001006284081020000002f05c02c6c600040000000000000004000080000000000000000000000000002800010000000000000000000000000000000c40000000000088000e00000483100000b00b00022b80000, 0x100000000000000000000000000000000000000000001e00060000000000000000000000000000000000, 0x118⟩ P) (h_s : P s) :
    P (missMigration s i) := by
  unfold missMigration
  exact keep_ite h_s (keep_ite (keep_wantMigration hk.le ((keep_State_put hk.le h_s))) (keep_plannedFault hk.le ((keep_State_put hk.le h_s))))

theorem keep_noPostOff {s} {i} (hk : Kept ⟨0x8000000008060000360000000000000e00800000000300800415600000001006284081020000002f05c02c6c600040000000000000004000080000000000000000000000000002800010000000000000000000000000000000c40000000000088000e00000483100000b00b00022b80000, 0x100000000000000000000000000000000000000000001e00060000000000000000000000000000000000, 0x118⟩ P) (h_s : P s) :
    P (noPostOff s i) := by
  unfold noPostOff
  exact keep_ite (keep_judgeFaultn hk.le (keep_ite (keep_driveDown hk.le ((keep_slotPortsOff hk.le h_s))) ((keep_slotPortsOff hk.le h_s)))) h_s

theorem keep_stripBegin {s} {i} (hk : Kept ⟨0x360000000000004e00000000000000000000000000000000000000000000000000000000200040000000000000006000080000000000000000000000000000000000000000000000000000000000000000000000000000000000000000000000000100300022b00000, 0x0, 0x108⟩ P) (h_s : P s) :
    P (stripBegin s i) := by
  unfold stripBegin
  split
  · exact h_s
  · exact keep_refreshEngines hk.le (keep_State_put hk.le (keep_State_put hk.le ((keep_State_put hk.le (keep_State_put hk.le ((keep_State_put hk.le (keep_State_put hk.le (keep_State_put hk.le h_s)))))))))

theorem keep_stripStart {s} (hk : Kept ⟨0x360000000000006e00000000000000000000000000000000000000000000000000000000200040000000000000006000080000000000000000000000000000000000000000000000000000000000000000000000000000000000000000000000000100300022b00000, 0x0, 0x108⟩ P) (h_s : P s) :
    P (stripStart s) := by
  unfold stripStart
  extract_lets -merge -underBinder +onlyGivenNames y0
  clear_value y0
  refine keep_ite ?_ ?_
  · exact h_s
  · extract_lets -merge -underBinder +onlyGivenNames y1
    clear_value y1
    split
    · exact keep_stripBegin hk.le (keep_State_put hk.le h_s)
    · exact keep_State_put hk.le h_s

theorem keep_missStrip {s} {i} (hk : Kept ⟨0x360000000000204e00000000000000000000000000000000000000000000000000000000200040000000000000006000080000000000000000000000000000000000000000000000000000000000000000000000000000000000000000000000000100300022b00000, 0x0, 0x108⟩ P) (h_s : P s) :
    P (missStrip s i) := by
  unfold missStrip
  exact keep_ite h_s (keep_stripBegin hk.le (keep_State_put hk.le h_s))

theorem keep_stripMismatch {s} {k} (hk : Kept ⟨0x360000000000001900000000000000000000000000000000000000000000000000000000200040000000000000000002080000000000000000000000000000000000000000000000000000000000000000000000000000000000000000000000000100300022b00000, 0x0, 0x108⟩ P) (h_s : P s) :
    P (stripMismatch s k) := by
  unfold stripMismatch
  exact keep_ite (keep_startBist hk.le (keep_State_put hk.le ((keep_State_post hk.le ((keep_State_put hk.le (keep_State_count hk.le h_s))))))) (keep_State_put hk.le ((keep_State_post hk.le ((keep_State_put hk.le (keep_State_count hk.le h_s))))))

theorem keep_stripCycle {s} {i} {differs} (hk : Kept ⟨0x360000000000001d00000000000000000000000000000000000000000000000000000000200040000000000000000002080000000000000000000000000000000000000000000000000000000000000000000000000000000000000000000000000100300022b00000, 0x0, 0x108⟩ P) (h_s : P s) :
    P (stripCycle s i differs) := by
  unfold stripCycle
  exact keep_ite h_s (keep_ite (keep_stripMismatch hk.le ((keep_State_put hk.le h_s))) ((keep_State_put hk.le h_s)))

theorem keep_stripComplete {s} {equal} (hk : Kept ⟨0x360000000000001f00000000000000000000000000000000000000000000000000000000200040000000000000004003080000000000000000000000000000000000000000000000000000000000000000000000000000000000000000000000000100300022b00000, 0x0, 0x108⟩ P) (h_s : P s) :
    P (stripComplete s equal) := by
  unfold stripComplete
  exact keep_ite h_s (keep_ite (keep_stripEnd hk.le (keep_State_countWrap hk.le h_s)) (keep_stripMismatch hk.le h_s))

theorem keep_voteDone {s} {v} (hk : Kept ⟨0x700360000000000058f8000000000000000000000000000000000000000000000000000000020004006000000000001c024180000000000000000000000000000000000000000000000000000000000000000000000000000000000000000000000000100300022b00000, 0x0, 0x308⟩ P) (h_s : P s) :
    P (voteDone s v) := by
  unfold voteDone
  exact keep_ite h_s (keep_ite (keep_wantMigration hk.le ((keep_stripEnd hk.le h_s))) (keep_ite (keep_engineDead hk.le ((keep_stripEnd hk.le h_s))) (keep_startBist hk.le (keep_startBist hk.le ((keep_State_post hk.le (keep_State_count hk.le ((keep_stripEnd hk.le h_s)))))))))

theorem keep_bistDone {s} {e} {pass} (hk : Kept ⟨0x700360000000000058f8000000000000000000000000000000000000000000000000000000020004006000000000001c020180000000000000000000000000000000000000000000000000000000000000000000000000000000000000000000000000100300022b00000, 0x0, 0x308⟩ P) (h_s : P s) :
    P (bistDone s e pass) := by
  unfold bistDone
  refine keep_ite ?_ ?_
  · exact h_s
  · extract_lets -merge -underBinder +onlyGivenNames y0
    clear_value y0
    extract_lets -merge -underBinder +onlyGivenNames y1
    have z2 : P y1 := keep_State_put hk.le h_s
    clear_value y1
    exact keep_ite (keep_ite (keep_wantMigration hk.le ((keep_stripEnd hk.le z2))) (keep_engineDead hk.le ((keep_stripEnd hk.le z2)))) (keep_ite (keep_ite (keep_refreshEngines hk.le (keep_State_post hk.le (keep_State_setBit hk.le z2))) (keep_ite (keep_refreshEngines hk.le z2) (keep_refreshEngines hk.le (keep_State_put hk.le z2)))) (keep_ite (keep_refreshEngines hk.le z2) (keep_engineDead hk.le z2)))

theorem keep_mapStatus {s} (hk : Kept ⟨0x19000000000000000000000000000000000000000000000000000000000000000000000000000000000000000000000000000000000000000000000000000000000000000, 0x0, 0x0⟩ P) (h_s : P s) :
    P (mapStatus s) := by
  unfold mapStatus
  exact keep_ite (keep_State_put hk.le ((keep_State_put hk.le (keep_State_put hk.le h_s)))) ((keep_State_put hk.le (keep_State_put hk.le h_s)))

theorem keep_portmapApply {s} (hk : Kept ⟨0xff000000000000000000000000000000000000000000000000000000000000000000000000000000000000000000000000000000000000000000000000000000000000000, 0x0, 0x0⟩ P) (h_s : P s) :
    P (portmapApply s) := by
  unfold portmapApply
  split
  · extract_lets -merge -underBinder +onlyGivenNames y12
    have z13 : P y12 := keep_foldl (fun x14 x15 z16 => keep_State_put hk.le z16) h_s
    clear_value y12
    extract_lets -merge -underBinder +onlyGivenNames y26
    have z27 : P y26 := keep_foldl (fun x28 x29 z30 => keep_State_put hk.le z30) z13
    clear_value y26
    extract_lets -merge -underBinder +onlyGivenNames y37
    have z38 : P y37 := keep_State_put hk.le (keep_State_put hk.le (keep_State_put hk.le z27))
    clear_value y37
    exact keep_ite (keep_mapStatus hk.le z38) (keep_mapStatus hk.le ((keep_foldl (fun x42 x43 z44 => keep_State_put hk.le (keep_State_put hk.le z44)) ((keep_foldl (fun x39 x40 z41 => keep_State_put hk.le z41) z38)))))

theorem keep_slotRestart {s} {i} (hk : Kept ⟨0x4000000000000000000000000000000000000031ffc049efdfe7fffff843fffe000001effdff77fc0000000000000000000000000000000000000000000000000000000000000000000000000000000000005fc800058018000000008000a00000403000000200000000000000, 0x0, 0x10⟩ P) (h_s : P s) :
    P (slotRestart s i) := by
  unfold slotRestart
  exact keep_observerReset hk.le ((keep_foldl (fun x0 x1 z2 => keep_State_clearAll hk.le z2) ((keep_State_clearAll hk.le ((keep_State_setMo hk.le (keep_State_clearAll hk.le h_s)))))))

theorem keep_setEngines (hk : Kept ⟨0x800000000000000000000000000000000000000000000000000000000000000000000000000000000000000000000000000000000000000000000000040000000000000, 0x800000000000000000000000000000000000000000000000000000000000000000000000000000000000000000000000000000000000000000000000000000000000000, 0x0⟩ P) {s l} (h_s : P s) : ∀ a, setEngines s l = some a → P a := by
  unfold setEngines
  refine keep_foldlOpt ?_ ?_
  · intro o x ho a ha
    cases o with
    | none => cases ha
    | some b =>
      simp only [Option.bind_some, Option.map_eq_some_iff] at ha
      obtain ⟨e, -, rfl⟩ := ha
      exact keep_State_put hk.le (ho b rfl)
  · intro a ha
    cases ha
    exact keep_foldl (fun _ _ h => keep_State_putBoth hk.le (keep_State_put hk.le h)) h_s

theorem keep_takeGroup {s} {i} (hk : Kept ⟨rall, 0x100000000000000000000000000000000000000000000000000000000, 0x8⟩ P) (h_s : P s) :
    P (takeGroup s i) := by
  unfold takeGroup
  extract_lets -merge -underBinder +onlyGivenNames y3
  clear_value y3
  extract_lets -merge -underBinder +onlyGivenNames y7
  have z8 : P y7 := keep_foldl (fun x9 x10 z11 => keep_ite (keep_State_put hk.le z11) (keep_joinGroup hk.le (keep_State_put hk.le z11))) h_s
  clear_value y7
  exact keep_ite ((keep_putWindow hk.le z8)) (keep_rejectWindow hk.le ((keep_putWindow hk.le z8)))

theorem keep_slotDevelop {s} {i} (hk : Kept ⟨rall, 0x800000000000000000000000000000000000000000000000000000000000000000000000000000100000000000000000000000000000000000000000000000000000000, 0x18⟩ P) (h_s : P s) :
    P (slotDevelop s i) := by
  unfold slotDevelop
  exact keep_State_setBit hk.le ((keep_takeGroup hk.le ((keep_ite ((keep_State_putDev hk.le ((keep_slotRestart hk.le h_s)))) (keep_State_put hk.le (keep_State_put hk.le ((keep_State_putDev hk.le ((keep_slotRestart hk.le h_s))))))))))

theorem keep_setDevelop (hk : Kept ⟨rall, 0x800000000000000000000000000000000000000000000000000000000000000000000000000000100000000000000000000000000000000000000000000000000000000, 0x118⟩ P) {s slots ports} (h_s : P s) : P (setDevelop s slots ports) := by
  unfold setDevelop
  refine keep_ite h_s ?_
  split
  · exact h_s
  · rename_i a ha
    have h1 := keep_setEngines hk.le h_s a ha
    refine keep_mapStatus hk.le (keep_refreshEngines hk.le (keep_foldl (fun _ _ h => keep_slotDevelop hk.le h)
      (keep_foldl (fun _ _ h => ?_) h1)))
    exact keep_State_put hk.le (keep_State_put hk.le (keep_State_put hk.le (keep_portOff hk.le h)))

theorem keep_portmapSet {s} {n} (hk : Kept ⟨rall, 0x800000000000000000000000000000000000000000000000000000000000000000000000000000100000000000000000000000000000000000000000000000000000000, 0x118⟩ P) (h_s : P s) :
    P (portmapSet s n) := by
  unfold portmapSet
  exact keep_ite (keep_ite (keep_setDevelop hk.le h_s) h_s) (keep_ite (keep_setDevelop hk.le h_s) h_s)

theorem keep_countTags {s} (hk : Kept ⟨0x3000, 0x0, 0x0⟩ P) (h_s : P s) :
    P (countTags s) := by
  unfold countTags
  exact keep_State_put hk.le ((keep_State_put hk.le h_s))

theorem keep_issueTag {s} {d} (hk : Kept ⟨0xdc0000000000000000000000000000000000000000000000000000000000000000000000000000000000000000000000000000000000000000000000000000000000000000000000000000000000000000000000000000000000000000000000000000007000, 0x0, 0x0⟩ P) (h_s : P s) :
    P (issueTag s d) := by
  unfold issueTag
  split
  · exact keep_countTags hk.le (keep_State_put hk.le (keep_State_put hk.le (keep_State_put hk.le (keep_State_put hk.le h_s))))
  · exact keep_State_put hk.le (keep_State_count hk.le h_s)

theorem keep_tagRelease {s} (hk : Kept ⟨0xdc0000000000000000000000000000000000000000000000000000000000000000000000000000000000000000000000000000000000000000000000000000000000000000000000000000000000000000000000000000000000000000000000000000007000, 0x0, 0x0⟩ P) (h_s : P s) :
    P (tagRelease s) := by
  unfold tagRelease
  split
  · exact keep_issueTag hk.le (keep_State_put hk.le h_s)
  · exact h_s

theorem keep_helperResult {s} {k} {epoch} (hk : Kept ⟨0x40000000000000000000000000000000000000000000000000000000000000000000000000000000000000000200000000000000000000000000000000000000000000000000000000000000000000000000000000000000000000000000000000000003000, 0x0, 0x0⟩ P) (h_s : P s) :
    P (helperResult s k epoch) := by
  unfold helperResult
  exact keep_ite (keep_State_count hk.le h_s) (keep_ite (keep_countTags hk.le (keep_State_put hk.le h_s)) h_s)

theorem keep_domEpochAdvance {s} {d} (hk : Kept ⟨0x203000000000000000000000000000000000000000000000000000000000000000000000000000000000000000000000000000000000000000000000000000000000000000000000000000000000000000000000000000000000000000000000000000003000, 0x0, 0x0⟩ P) (h_s : P s) :
    P (domEpochAdvance s d) := by
  unfold domEpochAdvance
  exact keep_countTags hk.le (keep_State_each hk.le ((keep_State_put hk.le (keep_State_countWrap hk.le h_s))) (fun x0 x1 z2 => keep_State_put hk.le z2))

theorem keep_domainOff {s} {d} (hk : Kept ⟨0x80000020000000000000360000000000000e00000000000000000000000000000000000000000000000000000000200042000000000000004000080000000000000000000004000000000000000000000000000000000000000000000000000000000000000000000000000100300022b00000, 0x0, 0x108⟩ P) (h_s : P s) :
    P (domainOff s d) := by
  unfold domainOff
  extract_lets -merge -underBinder +onlyGivenNames y3
  have z4 : P y3 := keep_State_setBit hk.le h_s
  clear_value y3
  extract_lets -merge -underBinder +onlyGivenNames y8
  have z9 : P y8 := keep_foldl (fun x10 x11 z12 => keep_State_put hk.le (keep_State_put hk.le (keep_State_put hk.le z12))) z4
  clear_value y8
  exact keep_ite (keep_refreshEngines hk.le ((keep_ite (keep_stripEnd hk.le z9) z9))) z9

theorem keep_domainOn {s} {d} (hk : Kept ⟨0x38001d82b800000000000036000020300000010000000000000000000000000000000000000000000000000000000020004200000000000000000008000000000000000000000c000000000000000000000000000000000000000000000010000000000000000000000000000100300022b83000, 0x0, 0x108⟩ P) (h_s : P s) :
    P (domainOn s d) := by
  unfold domainOn
  extract_lets -merge -underBinder +onlyGivenNames y9
  have z10 : P y9 := keep_domEpochAdvance hk.le (keep_State_setBit hk.le h_s)
  clear_value y9
  extract_lets -merge -underBinder +onlyGivenNames y20
  have z21 : P y20 := keep_foldl (fun x22 x23 z24 => keep_convDomainBack hk.le z24) z10
  clear_value y20
  exact keep_ite (keep_foldl (fun x25 x26 z27 => keep_State_put hk.le (keep_State_put hk.le (keep_State_put hk.le z27))) z21) (keep_ite (keep_refreshEngines hk.le (keep_foldl (fun x28 x29 z30 => keep_ite (keep_State_put hk.le z30) z30) z21)) z21)

theorem keep_domainRefuse {s} {d} (hk : Kept ⟨0x700000000000000000000000000000000000000000000000000000000000000000000000000000018060000000000000000000000000000000000000000000000000000000000000000000000000000000000000000000000000000000000000000000000000000000000, 0x0, 0x200⟩ P) (h_s : P s) :
    P (domainRefuse s d) := by
  unfold domainRefuse
  exact keep_State_record hk.le (keep_State_put hk.le (keep_State_put hk.le h_s))

theorem keep_emptyEngines {s} {d} (hk : Kept ⟨0x58000000000000000000000000000000000000000000000000000000000000000000000000000000000000000000000000000000000000000000000000000000000000000000000000000000000000000000000000000000000000000000000000000, 0x0, 0x0⟩ P) (h_s : P s) :
    P (emptyEngines s d) := by
  unfold emptyEngines
  exact keep_foldl (fun x0 x1 z2 => keep_wantMigration hk.le z2) h_s

theorem keep_judgeDomain {s} {d} (hk : Kept ⟨0x80000000000000000000000000700360000000000058000000000000000000000000000000000000000000000000000000000200078060000000000000000080000000000000000000000000000000000000000000000000000000000000000000000000000000000000000000000000100300022b00000, 0x4000000000000000000000000000000000000000000000000000000000000000000000000000000000000000000000000000000000000000000000000000000000000, 0x308⟩ P) (h_s : P s) :
    P (judgeDomain s d) := by
  unfold judgeDomain
  extract_lets -merge -underBinder +onlyGivenNames y0 y1
  clear_value y0 y1
  refine keep_ite ?_ ?_
  · exact h_s
  · extract_lets -merge -underBinder +onlyGivenNames y2
    have z3 : P y2 := keep_State_putDev hk.le h_s
    clear_value y2
    exact keep_ite (keep_ite z3 (keep_ite (keep_domainRefuse hk.le z3) (keep_ite (keep_refreshEngines hk.le (keep_emptyEngines hk.le ((keep_State_setBit hk.le (keep_State_setBit hk.le z3))))) ((keep_State_setBit hk.le (keep_State_setBit hk.le z3)))))) (keep_ite (keep_ite (keep_refreshEngines hk.le ((keep_State_setBit hk.le (keep_State_setBit hk.le z3)))) ((keep_State_setBit hk.le (keep_State_setBit hk.le z3)))) (keep_State_setBit hk.le z3))

theorem keep_domainTick {s} (hk : Kept ⟨0x80000000000000000000000000700360000000000058000000000000000000000000000000000000000000000000000000000200078060000000000000000080000000000000000000000000000000000000000000000000000000000000000000000000000000000000000000000000100300022b00000, 0x4000000000000000000000000000000000000000000000000000000000000000000000000000000000000000000000000000000000000000000000000000000000000, 0x308⟩ P) (h_s : P s) :
    P (domainTick s) := by
  unfold domainTick
  exact keep_foldl (fun x0 x1 z2 => keep_judgeDomain hk.le z2) h_s

theorem keep_domainSwitched {s} {d} (hk : Kept ⟨0x800000038801d82b8000000000700360000203000000f0000000000000000000000000000000000000000000000000000000020007a06000000000000400008000000000000000000000c000000000000000000000000000000000000000000000010000000000000000000000000000100300022b83000, 0x0, 0x308⟩ P) (h_s : P s) :
    P (domainSwitched s d) := by
  unfold domainSwitched
  exact keep_ite h_s (keep_ite (keep_ite h_s (keep_ite (keep_domainRefuse hk.le (keep_State_setBit hk.le (keep_State_setBit hk.le h_s))) (keep_State_post hk.le ((keep_domainOff hk.le (keep_State_setBit hk.le (keep_State_setBit hk.le h_s))))))) (keep_ite h_s (keep_State_post hk.le (keep_domainOn hk.le (keep_State_setBit hk.le h_s)))))

theorem keep_reclaimDomain {s} {d} (hk : Kept ⟨0xa40000000000000000000000000000000000000000000000000000000000000000000000000000000000000000000000000000000000000000000000000000000000000000000000000000000000000000000000000000000000000000000000000000003000, 0x0, 0x0⟩ P) (h_s : P s) :
    P (reclaimDomain s d) := by
  unfold reclaimDomain
  exact keep_countTags hk.le (keep_State_each hk.le h_s (fun x0 x1 z2 => keep_State_put hk.le (keep_State_put hk.le (keep_State_put hk.le z2))))

theorem keep_restartNow {s} {d} (hk : Kept ⟨0x80000020000000000000360000a4c000000e00000000000000000000000000000000000000000000000000000000200042000000000000004100080000000000000000000004000000000000000000000000000000000000000000000000000000000000000000000000000100300022b03000, 0x0, 0x108⟩ P) (h_s : P s) :
    P (restartNow s d) := by
  unfold restartNow
  exact keep_reclaimDomain hk.le (keep_domainOff hk.le (keep_State_post hk.le ((keep_State_count hk.le (keep_State_put hk.le (keep_State_put hk.le h_s))))))

theorem keep_domainRestart {s} {d} (hk : Kept ⟨0x80000020000000000700360000a4c000000e00000000000000000000000000000000000000000000000000000000200042060000000000004100080000000000000000000004000000000000000000000000000000000000000000000000000000000000000000000000000100300022b03000, 0x0, 0x308⟩ P) (h_s : P s) :
    P (domainRestart s d).1 := by
  unfold domainRestart
  exact keep_ite1 (keep_mk (keep_State_record hk.le h_s)) (keep_ite1 (keep_mk h_s) (keep_ite1 (keep_mk (keep_restartNow hk.le h_s)) (keep_mk (keep_State_put hk.le h_s))))

theorem keep_domainRestartDone {s} {d} (hk : Kept ⟨0x38001d82b800000000000036000020700000010000000000000000000000000000000000000000000000000000000020004200000000000000000008000000000000000000000c000000000000000000000000000000000000000000000010000000000000000000000000000100300022b83000, 0x0, 0x108⟩ P) (h_s : P s) :
    P (domainRestartDone s d) := by
  unfold domainRestartDone
  exact keep_ite h_s (keep_domainOn hk.le (keep_State_put hk.le h_s))

theorem keep_tagReclaim {s} {k} (hk : Kept ⟨0x80000020000000000700360000a7c000000e00000000000000000000000000000000000000000000000000000000200042060000000000004100080000000000000000000004000000000000000000000000000000000000000000000000000000000000000000000000000100300022b0b000, 0x0, 0x308⟩ P) (h_s : P s) :
    P (tagReclaim s k) := by
  unfold tagReclaim
  refine keep_ite ?_ ?_
  · exact h_s
  · extract_lets -merge -underBinder +onlyGivenNames y0
    clear_value y0
    extract_lets -merge -underBinder +onlyGivenNames y1
    have z2 : P y1 := keep_countTags hk.le (keep_State_count hk.le (keep_State_put hk.le (keep_State_put hk.le h_s)))
    clear_value y1
    exact keep_ite (keep_domainRestart hk.le (keep_State_put hk.le ((keep_State_put hk.le (keep_State_put hk.le z2))))) ((keep_State_put hk.le (keep_State_put hk.le z2)))

theorem keep_doubleError (hk : Kept ⟨0x40000000000000000000000000000000000000000000000000000000000000000000000000000000000000000000000000000000000000000000000000000000000040000000180000000000800000000000000000000000000000000000000000000000000000000000000000000000000000000000000000000000000000700022b80000, 0x0, 0x188⟩ P) {restart s a} (h_restart : ∀ v0, P v0 → P (restart v0)) (h_s : P s) :
    P (doubleError restart s a) := by
  unfold doubleError
  extract_lets -merge -underBinder +onlyGivenNames x y
  have hx : P x := keep_State_count hk.le h_s
  have hy : P y := hk.same hx
  clear_value y
  refine keep_ite (h_restart _ (keep_State_post hk.le hy)) (keep_ite ?_ hy)
  split
  · rename_i q _
    refine keep_ite ?_ hy
    extract_lets -merge -underBinder +onlyGivenNames z
    have hz : P z := keep_State_post hk.le (keep_State_count hk.le hy)
    exact keep_ite (keep_pumpOut hk.le (keep_State_passBad hk.le hz)) (keep_ite (keep_State_passBad hk.le hz) hz)
  · exact hy

theorem keep_scrub {restart} {s} {single} {double} (hk : Kept ⟨0x40000000000000000000000000000000000000000000000000000000000000000000000000000000000000000000000000000000000000000000000000000000000040000000180000000000c00000000000000000000000000000000000000000000000000000000000000000000000000000000000000000000000000000700022b80000, 0x0, 0x188⟩ P) (h_restart : ∀ v0, P v0 → P (restart v0)) (h_s : P s) :
    P (scrub restart s single double) := by
  unfold scrub
  exact keep_foldl (fun x0 x1 z2 => keep_doubleError hk.le (fun x3 z4 => h_restart _ z4) z2) (keep_State_countN hk.le h_s)

theorem keep_timebaseLoss {s} {refOk} {pll} (hk : Kept ⟨0x200000000000000000000008060000000000000000000000000040000300800000000000000000000000000000000000000000000100000000000000000000000000000000000000000000000000000000000000000000000000000000000000000000000000000000000000000000000000800180000000, 0x0, 0x0⟩ P) (h_s : P s) :
    P (timebaseLoss s refOk pll) := by
  unfold timebaseLoss
  exact keep_ite h_s (keep_judgeFaultn hk.le (keep_portsOff hk.le ((keep_foldl (fun x0 x1 z2 => keep_State_put hk.le z2) ((keep_State_put hk.le (keep_State_put hk.le ((keep_State_put hk.le (keep_State_put hk.le h_s))))))))))

theorem keep_timebaseRestart {s} {gap} {enc} (hk : Kept ⟨0x4000000000000000002d1c08060000360000000001000000000000400300800000000000800000000000000000000000000000000140000000000000000000000000000000000000000000008007000000000000000000002080000000000000000000000000000000800000000000000000b609a2b00000, 0x0, 0x108⟩ P) (h_s : P s) :
    P (timebaseRestart s gap enc) := by
  unfold timebaseRestart
  refine keep_ite ?_ ?_
  · exact h_s
  · extract_lets -merge -underBinder +onlyGivenNames y6
    have z7 : P y6 := keep_State_put hk.le (keep_State_put hk.le (keep_State_put hk.le h_s))
    clear_value y6
    exact keep_judgeFaultn hk.le (keep_foldl (fun x8 x9 z10 => keep_feedbackRestart hk.le z10) ((keep_carriersRestart hk.le ((keep_State_post hk.le ((keep_State_put hk.le (keep_State_put hk.le (keep_State_count hk.le (keep_State_put hk.le z7))))))))))

theorem keep_tbApply {s} (hk : Kept ⟨0x600000000000000000000008060000000000000000000000000040000300800000000000000000000000000000000000000000000100000000000000000000000000000000000000000000000000000000000000000000000000000000000000000000000000000000000000000000000000802380000000, 0x0, 0x0⟩ P) (h_s : P s) :
    P (tbApply s).1 := by
  unfold tbApply
  exact keep_ite1 (keep_mk (keep_State_put hk.le h_s)) (keep_ite1 (keep_mk (keep_State_put hk.le (keep_State_put hk.le ((keep_State_put hk.le h_s))))) (keep_mk (keep_State_put hk.le (keep_timebaseLoss hk.le ((keep_State_put hk.le h_s))))))

theorem keep_delayLine {s} {elems} (hk : Kept ⟨0x1000000000000000000000000000000000000000000000000000000000000000000000000000000000000000000000000000000000040000000000000000000000000000000000000000000000000000000000000000000000000000000000000000000000000000000000000000000000000311422b00000, 0x0, 0x8⟩ P) (h_s : P s) :
    P (delayLine s elems) := by
  unfold delayLine
  exact keep_ite h_s (keep_ite (keep_State_post hk.le ((keep_ite (keep_State_put hk.le ((keep_State_put hk.le (keep_State_put hk.le h_s)))) ((keep_State_put hk.le (keep_State_put hk.le h_s)))))) (keep_State_put hk.le (keep_State_put hk.le (keep_State_put hk.le h_s))))

end Sys2Proof.Laws
end

