-- ==== Sys2Proof/Laws/KeepAccess.lean ====
section
/-! SUPPORT. Every definition of the link and the accesses by register and object keeps a property that the primitive updates keep (Kept). -/

set_option Elab.async false

namespace Sys2Proof.Laws

open Machine

variable {P : State → Prop}

theorem keep_setLinkFlag {s} {k} (hk : Kept ⟨0x40000000000000000000000000000000000000000000000000000000000000000000000000000000000000000000000000000000000000000000000000, 0x0, 0x0⟩ P) (h_s : P s) :
    P (setLinkFlag s k) := by
  unfold setLinkFlag
  exact keep_State_setBit hk.le h_s

theorem keep_accGive {s} {n} {t} (hk : Kept ⟨0xa000000000000000000000000000000000000000000000000000000000000000000000000000000000000000000000000000000000000000000000300000000000000000000000, 0x0, 0x0⟩ P) (h_s : P s) :
    P (accGive s n t) := by
  unfold accGive
  exact keep_State_each hk.le h_s (fun x0 x1 z2 => keep_State_put hk.le (keep_State_put hk.le (keep_State_setBit hk.le ((keep_ite (keep_State_count hk.le z2) z2)))))

theorem keep_ringGo {s} {n} {t} (hk : Kept ⟨0x3000000000000000000000000000000000000000000000000000000000000000000000000000000000000000000000000000000000000000000000000000000000000000000000000000000000000000000000000000000000000000000000000000000000000000000000000000000000000000000000000000, 0x0, 0x0⟩ P) (h_s : P s) :
    P (ringGo s n t) := by
  unfold ringGo
  exact keep_State_put hk.le (keep_State_put hk.le h_s)

theorem keep_accGo {s} {n} {t} (hk : Kept ⟨0x300000000000000000000000000000000000000000000000000000000000000000000000000000000000000000000000000000a000000000000000000000000000000000000000000000000000000000000000000000000000000000000000000000000000000000000000000000300000000000000000000000, 0x0, 0x0⟩ P) (h_s : P s) :
    P (accGo s n t).1 := by
  unfold accGo
  exact keep_ite1 (keep_mk h_s) (keep_ite1 (keep_ite1 (keep_mk h_s) (keep_mk (keep_ringGo hk.le h_s))) (keep_mk (keep_accGive hk.le h_s)))

theorem keep_syncSlot {s} {i} {t} (hk : Kept ⟨0xfe0000000000000000000040000000000000000000000000000000000000000000000000000000000000000000000000000000000000000000000000000000001062000000000000300022b00000, 0x0, 0x18⟩ P) (h_s : P s) :
    P (syncSlot s i t) := by
  unfold syncSlot
  exact keep_ite h_s (keep_ite (keep_chainTarget hk.le h_s) (keep_ite (keep_chainTarget hk.le h_s) (keep_ite (keep_chainVelocity hk.le h_s) h_s)))

theorem keep_developLayout {s} (hk : Kept ⟨0x0, 0x1802000000000000000000000000000000000000000000000000000000000000000000000000000000000000000000000000000000000000000000000000, 0x0⟩ P) (h_s : P s) :
    P (developLayout s) := by
  unfold developLayout
  exact keep_foldl (fun x0 x1 z2 => keep_State_develop hk.le (keep_State_develop hk.le z2)) (keep_State_develop hk.le h_s)

theorem keep_enumerate {s} (hk : Kept ⟨0xc4000000000000000000000000000000000000000000000000000000000000000000000000000000000000000000000000000000000000000000002000e00000000000000000000000000000000000000000000000000000000000000000000000000000000000000000000000000000000000000000000000, 0x1802000000000000000000000000000000000000000000000000000000000000000000000000000000000000000000000000000000000000000000000000, 0x100⟩ P) (h_s : P s) :
    P (enumerate s) := by
  unfold enumerate
  extract_lets -merge -underBinder +onlyGivenNames y3
  have z4 : P y3 := keep_developLayout hk.le h_s
  clear_value y3
  exact keep_State_send hk.le ((keep_foldl (fun x5 x6 z7 => keep_State_put hk.le z7) (keep_State_put hk.le (keep_State_put hk.le ((keep_State_put hk.le (keep_State_put hk.le (keep_State_put hk.le ((keep_State_freed hk.le (keep_State_put hk.le z4)))))))))))

theorem keep_linkEnumeration {s} (hk : Kept ⟨0xc4000000000000000000000000000000000000000000000000000000000000000000000000000000000000000000000000000000000000000000002000e00000000000000000000000000000000000000000000000000000000000000000000000000000000000000000000000000000000000000000000000, 0x1802000000000000000000000000000000000000000000000000000000000000000000000000000000000000000000000000000000000000000000000000, 0x100⟩ P) (h_s : P s) :
    P (linkEnumeration s) := by
  unfold linkEnumeration
  exact keep_ite (keep_enumerate hk.le h_s) h_s

theorem keep_linkRestart {s} (hk : Kept ⟨0xc4000000000000000000000000000000000000000000000000000000000000000000000000000000000000000000000000000000000000000000002000e00000000000000000000000000000000000000000000000000000000000000000000000000000000000000000000000000000000000000000000000, 0x1802000000000000000000000000000000000000000000000000000000000000000000000000000000000000000000000000000000000000000000000000, 0x100⟩ P) (h_s : P s) :
    P (linkRestart s) := by
  unfold linkRestart
  exact keep_ite (keep_enumerate hk.le h_s) h_s

theorem keep_mapReject {s} {why} (hk : Kept ⟨0x80000000000000000000000000000000000000000000000000000000000000000000000000000000000000000000000000000000000040000000000040200000000000000000000000000000000000000000000000000000000000000000000000000000000000000000000000000000000000300022b00000, 0x0, 0x8⟩ P) (h_s : P s) :
    P (mapReject s why) := by
  unfold mapReject
  exact keep_State_post hk.le (keep_setLinkFlag hk.le ((keep_State_put hk.le (keep_State_put hk.le h_s))))

theorem keep_enumReturn {s} {layouts} {second} {badSlot} (hk : Kept ⟨0x300000000000000000000000030800080000000000000000000000000000000000000000000000000000000000000000000000000000000000000000000000000000000000040000000006440a00000000000000000000000000000000000000000000000000000000000000000000000000000000000000000000000004000000000300022b00000, 0x0, 0x8⟩ P) (h_s : P s) :
    P (enumReturn s layouts second badSlot) := by
  unfold enumReturn
  refine keep_ite ?_ ?_
  · exact h_s
  · extract_lets -merge -underBinder +onlyGivenNames y18
    clear_value y18
    extract_lets -merge -underBinder +onlyGivenNames y28
    have z29 : P y28 := keep_foldl (fun x30 x31 z32 => keep_foldl (fun x33 x34 z35 => keep_State_put hk.le (keep_State_put hk.le z35)) z32) h_s
    clear_value y28
    extract_lets -merge -underBinder +onlyGivenNames y42
    clear_value y42
    exact keep_ite (keep_mapReject hk.le z29) (keep_ite (keep_mapReject hk.le z29) (keep_ite (keep_mapReject hk.le z29) (keep_ite (keep_mapReject hk.le z29) (keep_foldl (fun x46 x47 z48 => keep_State_put hk.le (keep_State_clearAll hk.le (keep_State_put hk.le z48))) ((keep_State_each hk.le ((keep_State_put hk.le (keep_State_put hk.le (keep_State_put hk.le (keep_State_put hk.le z29))))) (fun x43 x44 z45 => keep_State_put hk.le z45)))))))

theorem keep_enumWorker {s} {position} {ringId} (hk : Kept ⟨0x40000000000000000000000000000806000000000000000000000000000000000000000000000000000000000000000000000000000000000000000000000000000000000000000000000001600000000000000000000000000000000000000000000000000000000000000000000000000000000000000000000000000000000000000000000000, 0x1802040000000000000000000000000000000000000000000000000000000000000000000000000000000000000000000000000000000000000000000000, 0x100⟩ P) (h_s : P s) :
    P (enumWorker s position ringId) := by
  unfold enumWorker
  exact keep_ite h_s (keep_State_send hk.le ((keep_State_clearAll hk.le (keep_State_put hk.le ((keep_State_put hk.le (keep_State_put hk.le (keep_State_put hk.le ((keep_developLayout hk.le (keep_State_develop hk.le h_s)))))))))))

theorem keep_enumTimeout {s} (hk : Kept ⟨0x80000000000000000000000000000000000000000000000000000000000000000000000000000000000000000000000000000000000040000000000040200000000000000000000000000000000000000000000000000000000000000000000000000000000000000000000000000000000000300022b00000, 0x0, 0x8⟩ P) (h_s : P s) :
    P (enumTimeout s) := by
  unfold enumTimeout
  exact keep_ite (keep_mapReject hk.le h_s) h_s

theorem keep_ringGather {s} {tc} (hk : Kept ⟨0x3000000000000000000000000000000000000000000000000000000000000000000000000000000000000000000000000000000000000000000000000000000000000000000000000000000000000000000000000000000000000000000000000000000000000000000000000000000000000000000000000000, 0x0, 0x0⟩ P) (h_s : P s) :
    P (ringGather s tc) := by
  unfold ringGather
  exact keep_foldl (fun x0 x1 z2 => keep_ite (keep_ringGo hk.le z2) z2) h_s

theorem keep_goCarry {s} (hk : Kept ⟨0x3d00000000000000000000000000000000000000000000000000000000000000000000000000000000000000000000000000000a000000000000000000000000000000000000000000000000000000000000000000000000000000000000000000000000000000000000000000000300000000000000000000000, 0x0, 0x0⟩ P) (h_s : P s) :
    P (goCarry s) := by
  unfold goCarry
  refine keep_ite ?_ ?_
  · exact h_s
  · split
    · exact h_s
    · exact keep_State_each hk.le ((keep_State_put hk.le (keep_State_put hk.le (keep_State_put hk.le h_s)))) (fun x0 x1 z2 => keep_accGive hk.le (keep_State_put hk.le (keep_State_put hk.le z2)))

theorem keep_linkDevelop {s} (hk : Kept ⟨0x0, 0x10200040000000000000000000000000000000000000000000000000000000000000000000000000000000000000000000000000000000000000000000000, 0x0⟩ P) (h_s : P s) :
    P (linkDevelop s) := by
  unfold linkDevelop
  exact keep_foldl (fun x0 x1 z2 => keep_State_develop hk.le z2) (keep_State_developList hk.le h_s)

theorem keep_wrapEnd {s} (hk : Kept ⟨0x20000000000000000000000000000000000000000000000000000000000000000000000000000000000000000000000000000000000000000000000000, 0x0, 0x0⟩ P) (h_s : P s) :
    P (wrapEnd s) := by
  unfold wrapEnd
  exact keep_ite (keep_State_setBit hk.le ((keep_ite (keep_State_setBit hk.le h_s) h_s))) ((keep_ite (keep_State_setBit hk.le h_s) h_s))

theorem keep_upSnap {s} (hk : Kept ⟨0x80000000000000000000000000000000000000000000000000000000000000000000000000000000000000000000000000000000000000000000000000000000000000000000000000000000000000000000000000000000000000000000000000000000000000000000000000000000000000000000000000000000000000000000000000000000, 0x0, 0x0⟩ P) (h_s : P s) :
    P (upSnap s) := by
  unfold upSnap
  exact keep_foldl (fun x0 x1 z2 => keep_foldl (fun x3 x4 z5 => keep_State_put hk.le z5) z2) h_s

theorem keep_countMiss {s} {d} (hk : Kept ⟨0x100000000000000000000000000800000000000000000000000000000000000000000000000000000000000000000000000000000000000000000000000000000000000000000000000000000000000000000000000000000000000000000000000000000000000000000000000000000000000000000000000000000000000000000000000000000, 0x0, 0x0⟩ P) (h_s : P s) :
    P (countMiss s d) := by
  unfold countMiss
  exact keep_ite h_s (keep_ite (keep_State_put hk.le h_s) (keep_State_put hk.le h_s))

theorem keep_cycleStart {s} (hk : Kept ⟨0x18000000000000000004000200083f03200000000000000000000000000000000000000000000000000000000000000000000000000000000000000000000000000a000000000000000000020200000000000000000000000000000000000000000000000000000000000000000000000000000000000000000000000300000000000000000000000, 0x10200040000000000000000000000000000000000000000000000000000000000000000000000000000000000000000000000000000000000000000000000, 0x1101⟩ P) (h_s : P s) :
    P (cycleStart s) := by
  unfold cycleStart
  extract_lets -merge -underBinder +onlyGivenNames y0
  have z1 : P y0 := keep_wrapEnd hk.le (keep_linkDevelop hk.le h_s)
  clear_value y0
  refine keep_ite ?_ ?_
  · exact keep_State_put hk.le (keep_State_put hk.le z1)
  · refine keep_ite ?_ ?_
    · exact keep_upSnap hk.le (keep_State_atTick hk.le z1)
    · extract_lets -merge -underBinder +onlyGivenNames y11
      have z12 : P y11 := keep_State_atTick hk.le z1
      clear_value y11
      refine keep_ite ?_ ?_
      · exact z12
      · extract_lets -merge -underBinder +onlyGivenNames y19
        have z20 : P y19 := keep_State_put hk.le (keep_State_countWrap hk.le z12)
        clear_value y19
        exact keep_foldl (fun x24 x25 z26 => keep_countMiss hk.le z26) ((keep_foldl (fun x21 x22 z23 => keep_ite (keep_State_put hk.le z23) z23) ((keep_State_put hk.le ((keep_State_send hk.le (keep_State_send hk.le ((keep_State_put hk.le ((keep_goCarry hk.le (keep_ringGather hk.le z20))))))))))))

theorem keep_fenceAxes {s} (hk : Kept ⟨0x8000000008060000360000000000000e008e0000000300c00415600000001006284081020000002f05c02c6c60004000000000000000400008000000000000000000000000000280003e000000008000000000000000000000c40000000000088000e00000483100000b00b00022b80000, 0x100000000000000000000000000000000000000000001e00060000000000000000000000000000000000, 0x118⟩ P) (h_s : P s) :
    P (fenceAxes s) := by
  unfold fenceAxes
  exact keep_ite (keep_foldl (fun x0 x1 z2 => keep_bathFault hk.le z2) h_s) (keep_foldl (fun x3 x4 z5 => keep_plannedFault hk.le z5) h_s)

theorem keep_selfFence {s} (hk : Kept ⟨0x60000000000000000000100000000002000000000000008000000008060000360000000000000e008e0000000300c00415600000001006284081020000002f05c02c6c60004000000000014020400008000000000000000000000000000280003e000000008000000000000000000000c40000000000088000e00000483100000b00b00022b80000, 0x100000000000000000000000000000000000000000001e00060000000000000000000000000000000000, 0x118⟩ P) (h_s : P s) :
    P (selfFence s) := by
  unfold selfFence
  exact keep_ite h_s (keep_fenceAxes hk.le (keep_foldl (fun x3 x4 z5 => keep_State_put hk.le z5) ((keep_State_post hk.le (keep_setLinkFlag hk.le ((keep_State_count hk.le (keep_State_clearAll hk.le (keep_State_put hk.le ((keep_State_each hk.le h_s (fun x0 x1 z2 => keep_State_put hk.le z2))))))))))))

theorem keep_timeLoss {s} {err} (hk : Kept ⟨0x60000000000000000000100000000002000000000000008000000008060000360000000000000e008e0000000300c00415600000001006284081020000002f05c02c6c60004000000000014020400008000000000000000000000000000280003e000000008000000000000000000000c40000000000088000e00000483100000b00b00022b80000, 0x100000000000000000000000000000000000000000001e00060000000000000000000000000000000000, 0x118⟩ P) (h_s : P s) :
    P (timeLoss s err) := by
  unfold timeLoss
  exact keep_selfFence hk.le (keep_State_post hk.le (keep_setLinkFlag hk.le h_s))

theorem keep_linkTimebaseLoss {s} (hk : Kept ⟨0x60000000000000000000100000000002000000000000008000000008060000360000000000000e008e0000000300c00415600000001006284081020000002f05c02c6c60004000000000014020400008000000000000000000000000000280003e000000008000000000000000000000c40000000000088000e00000483100000b00b00022b80000, 0x100000000000000000000000000000000000000000001e00060000000000000000000000000000000000, 0x118⟩ P) (h_s : P s) :
    P (linkTimebaseLoss s) := by
  unfold linkTimebaseLoss
  exact keep_ite (keep_timeLoss hk.le h_s) h_s

theorem keep_judgeHold {s} (hk : Kept ⟨0x18000000000000000000000000000000000000000000000000000000000000000000000000000000000000000000000000000000000000000000000000000000000000000000000000000000000000000000000000000000000000000000000000000000000000800000000000, 0x0, 0x0⟩ P) (h_s : P s) :
    P (judgeHold s) := by
  unfold judgeHold
  exact keep_judgeFaultn hk.le (keep_State_put hk.le h_s)

theorem keep_devEpochAdvance {s} {d} (hk : Kept ⟨0x6000000000000000000000000000000000000000000000000000000000000000000000000000000000000000000000000000000000000000000000000004000000000000000000000000000000000000000000000000000000000000000000000000000000000000000000000000000000000000000000000000000, 0x0, 0x0⟩ P) (h_s : P s) :
    P (devEpochAdvance s d) := by
  unfold devEpochAdvance
  exact keep_State_put hk.le (keep_State_put hk.le (keep_State_countWrap hk.le h_s))

theorem keep_devEpochLate {s} {d} (hk : Kept ⟨0x6000000000000000000000000000000000000000000000000000000000000000000000000000000000000000000000000000000000000000000000000004000000000000000000000000000000000000000000000000000000000000000000000000000000000000000000000000000000000000000000000000000, 0x0, 0x0⟩ P) (h_s : P s) :
    P (devEpochLate s d) := by
  unfold devEpochLate
  exact keep_ite (keep_devEpochAdvance hk.le h_s) h_s

theorem keep_managerFence {s} {d} (hk : Kept ⟨0x20000000000000000000008400e000000000000000000000000000018000000360000000000000000000000000000000000000000000000000000000000000000000000000040000000006140000000000000000000000000000000000000000000000000000000000000000000000000000000000000000000000000000000000000b00022b00000, 0x0, 0x108⟩ P) (h_s : P s) :
    P (managerFence s d) := by
  unfold managerFence
  refine keep_ite ?_ ?_
  · exact h_s
  · extract_lets -merge -underBinder +onlyGivenNames y6
    have z7 : P y6 := keep_State_put hk.le (keep_State_put hk.le h_s)
    clear_value y6
    extract_lets -merge -underBinder +onlyGivenNames y11
    have z12 : P y11 := keep_ite (keep_devEpochAdvance hk.le z7) (keep_State_put hk.le z7)
    clear_value y11
    extract_lets -merge -underBinder +onlyGivenNames y16
    have z17 : P y16 := keep_State_post hk.le (keep_setLinkFlag hk.le z12)
    clear_value y16
    extract_lets -merge -underBinder +onlyGivenNames y21
    have z22 : P y21 := keep_State_count hk.le z17
    clear_value y21
    exact keep_ite (keep_judgeHold hk.le (keep_State_put hk.le (keep_State_emcy hk.le ((keep_foldl (fun x23 x24 z25 => keep_State_put hk.le (keep_State_put hk.le z25)) z22))))) ((keep_foldl (fun x23 x24 z25 => keep_State_put hk.le (keep_State_put hk.le z25)) z22))

theorem keep_releaseHold {s} {d} (hk : Kept ⟨0x8000000000000000000000000000018000000000000000000000000000000000000000000000000000000000000000000000000000000000000000000000000000000000000000000000000000000000000000000000000000000000000000000000000000000000000000000000000000000000000800000000000, 0x0, 0x0⟩ P) (h_s : P s) :
    P (releaseHold s d) := by
  unfold releaseHold
  exact keep_ite (keep_judgeHold hk.le (keep_State_put hk.le h_s)) h_s

theorem keep_mirrorControlword {s} {g} {cw} (hk : Kept ⟨0x80048000000000000000000000000000018000000000000000000000000000000000000000000000000000000000000000000000000000000000000000000000000000000000000000000000000000000000000000000000000000000000000000000000000000000000000000000000000000000000000800000000000, 0x0, 0x0⟩ P) (h_s : P s) :
    P (mirrorControlword s g cw) := by
  unfold mirrorControlword
  exact keep_ite (keep_releaseHold hk.le (keep_State_put hk.le ((keep_State_put hk.le h_s)))) ((keep_State_put hk.le h_s))

theorem keep_workerJoin {s} {epoch} {ofs} (hk : Kept ⟨0x40000000000000000000000000000002000000000000000000000000000000000000000000000000000000000000000000000000000000000000000000000000000000000000000000000011200000000000000000000000000000000000000000000000000000000000000000000000000000000000000000000000000000000000000000000000, 0x0, 0x0⟩ P) (h_s : P s) :
    P (workerJoin s epoch ofs) := by
  unfold workerJoin
  exact keep_State_put hk.le (keep_State_put hk.le (keep_State_put hk.le (keep_State_put hk.le (keep_State_put hk.le h_s))))

theorem keep_workerRejoin {s} {d} {epoch} {ofs} (hk : Kept ⟨0x340000000000000000000000008800002000000000000000000000018000000000000000000000000000000000000000000000000000000000000000000000000000000000040000000002011200000000000000000000000000000000000000000000000000000000000000000000000000000000000000000000000000000000000b00022b00000, 0x0, 0x8⟩ P) (h_s : P s) :
    P (workerRejoin s d epoch ofs) := by
  unfold workerRejoin
  exact keep_ite (keep_ite h_s (keep_releaseHold hk.le ((keep_ite (keep_State_post hk.le (keep_State_put hk.le ((keep_State_put hk.le (keep_State_put hk.le (keep_State_put hk.le h_s)))))) ((keep_State_put hk.le (keep_State_put hk.le (keep_State_put hk.le h_s)))))))) (keep_ite (keep_workerJoin hk.le h_s) h_s)

theorem keep_takeDown {s} {i} {ws} (hk : Kept ⟨0xf00000000000000000000000000000000000000000000000000000000000000000000000000000000000000000000000000000000000000f000000400000000000000000008000000000000000000000000000000000000000000000000000000000000000000000000000000000000000000001b0000000300026b80000, 0x0, 0x18⟩ P) (h_s : P s) :
    P (takeDown s i ws) := by
  unfold takeDown
  extract_lets -merge -underBinder +onlyGivenNames y0
  clear_value y0
  refine keep_ite ?_ ?_
  · exact h_s
  · extract_lets -merge -underBinder +onlyGivenNames y1
    clear_value y1
    extract_lets -merge -underBinder +onlyGivenNames y2
    have z3 : P y2 := keep_State_put hk.le (keep_State_put hk.le (keep_State_put hk.le h_s))
    clear_value y2
    exact keep_ite (keep_segEnqueueBy hk.le ((keep_ite (keep_State_put hk.le z3) z3))) ((keep_ite (keep_State_put hk.le z3) z3))

theorem keep_takeWords (hk : Kept ⟨0xf00000000000000000000000000000000000000000000000000000000000000000000000000000000000000000000000000000000000000f000000400000000000000000008000000000000000000000000000000000000000000000000000000000000000000000000000000000000000000001b0000000300026b80000, 0x0, 0x18⟩ P) {s l ws} (h_s : P s) : P (takeWords s l ws) := by
  induction l generalizing s ws with
  | nil => exact h_s
  | cons i t ih => exact ih (keep_takeDown hk.le h_s)

theorem keep_takeTime {s} {f} {arrival} (hk : Kept ⟨0x60000000000000000000100000000802000000000000008000000008060000360000000000000e008e0000000300c00415600000001006284081020000002f05c02c6c60004000000000015c20400008000000000000000000000000000280003e000000008000000000000000000000c40000000000088000e00000483100000b00b00022b80000, 0x100000000000000000000000000000000000000000001e00060000000000000000000000000000000000, 0x118⟩ P) (h_s : P s) :
    P (takeTime s f arrival) := by
  unfold takeTime
  extract_lets -merge -underBinder +onlyGivenNames y0
  have z1 : P y0 := keep_ite (keep_State_put hk.le (keep_State_put hk.le h_s)) h_s
  clear_value y0
  exact keep_ite (keep_timeLoss hk.le ((keep_State_put hk.le ((keep_State_freed hk.le (keep_State_puti hk.le ((keep_State_puti hk.le z1)))))))) ((keep_State_put hk.le ((keep_State_freed hk.le (keep_State_puti hk.le ((keep_State_puti hk.le z1)))))))

theorem keep_cycleSync {s} {f} (hk : Kept ⟨0xfe0000000000000000000040000000000000000000000000000000000000000000000000000000000000000000000000000000000000000000000000000000001062000000000000300022b00000, 0x0, 0x18⟩ P) (h_s : P s) :
    P (cycleSync s f) := by
  unfold cycleSync
  exact keep_foldl (fun x0 x1 z2 => keep_ite (keep_syncSlot hk.le z2) z2) h_s

theorem keep_takeGo {s} {f} (hk : Kept ⟨0x60400000000000000000000040000000000000000000000000000000000000000000000000000000000000000000000000000000a000000000000000000000000000000000000000000000000000300000000000000000000000000000000000000000000000000000000000000000300000000000000000000000, 0x0, 0x0⟩ P) (h_s : P s) :
    P (takeGo s f) := by
  unfold takeGo
  extract_lets -merge -underBinder +onlyGivenNames y3
  have z4 : P y3 := keep_ite (keep_State_each hk.le h_s (fun x5 x6 z7 => keep_accGive hk.le (keep_State_put hk.le z7))) h_s
  clear_value y3
  refine keep_ite ?_ ?_
  · split
    · rename_i y10 y11 q8
      have z9 : P y10 := keep_fst (keep_shootSheet hk.le (keep_State_put hk.le z4)) q8
      exact keep_State_put hk.le z9
  · exact z4

theorem keep_cycleTaken {s} {arrival} {f} (hk : Kept ⟨0x60000000000000000000f00000604002000000000000008000400008060000360000000000000e008e0000000300c00415600000001006284081fe0000002f05c0af6c6000400000000001d120400088000000000000000000000030000280003e000000008000000000000000000000c40000000000088000e010627831b0000b00b00026b80000, 0x100000000000000000000000000000000000000000001e00060000000000000000000000000000000000, 0x118⟩ P) (h_s : P s) :
    P (cycleTaken s arrival f) := by
  unfold cycleTaken
  extract_lets -merge -underBinder +onlyGivenNames y0
  clear_value y0
  refine keep_ite ?_ ?_
  · exact keep_State_put hk.le h_s
  · refine keep_ite ?_ ?_
    · exact keep_ite (keep_State_count hk.le h_s) (keep_ite (keep_workerJoin hk.le h_s) h_s)
    · refine keep_ite ?_ ?_
      · exact h_s
      · extract_lets -merge -underBinder +onlyGivenNames y1
        have z2 : P y1 := keep_takeGo hk.le (keep_State_put hk.le h_s)
        clear_value y1
        exact keep_ite (keep_cycleSync hk.le ((keep_ite (keep_State_count hk.le z2) (keep_ite (keep_selfFence hk.le z2) (keep_ite z2 (keep_takeWords hk.le z2)))))) ((keep_ite (keep_State_count hk.le z2) (keep_ite (keep_selfFence hk.le z2) (keep_ite z2 (keep_takeWords hk.le z2)))))

theorem keep_cycleFrame {s} {lane} {arrival} {f} (hk : Kept ⟨0x60000000000000000000f0000060490a000000000000008000400008060000360000000000000e008e0000000300c00415600000001006284081fe0000002f05c0af6c6000400000000001dda0400088000000000000000000000030000280003e000000008000000000000000000000c40000000000088000e010627831b0000b00b00026b80000, 0x100000000000000000000000000000000000000000001e00060000000000000000000000000000000000, 0x118⟩ P) (h_s : P s) :
    P (cycleFrame s lane arrival f) := by
  unfold cycleFrame
  refine keep_ite ?_ ?_
  · exact h_s
  · refine keep_ite ?_ ?_
    · exact keep_State_put hk.le (keep_State_count hk.le h_s)
    · refine keep_ite ?_ ?_
      · exact h_s
      · extract_lets -merge -underBinder +onlyGivenNames y0
        have z1 : P y0 := keep_State_put hk.le h_s
        clear_value y0
        extract_lets -merge -underBinder +onlyGivenNames y2
        have z3 : P y2 := keep_State_send hk.le z1
        clear_value y2
        exact keep_ite ((keep_ite (keep_State_count hk.le z3) (keep_ite (keep_takeTime hk.le z3) z3))) (keep_cycleTaken hk.le (keep_State_put hk.le (keep_State_put hk.le ((keep_ite (keep_State_count hk.le z3) (keep_ite (keep_takeTime hk.le z3) z3))))))

theorem keep_applyRing {s} {i} (hk : Kept ⟨0x2000000000000000000010000000000000000000000000800000002c060000360000000002000e07ae800000e300f004156008200010062842ff0f1000023fbdf02dece000400000000000000040000800000000000000000000000000028000162000000088d8000280c00000140000c4001800000008800ae00002483100000b00b00022b80000, 0x100000000000000000000000000000000000000000001e000601f5000000000000000000000000000000, 0x118⟩ P) (h_s : P s) :
    P (applyRing s i) := by
  unfold applyRing
  refine keep_ite ?_ ?_
  · exact h_s
  · extract_lets -merge -underBinder +onlyGivenNames y0
    clear_value y0
    extract_lets -merge -underBinder +onlyGivenNames y1
    have z2 : P y1 := keep_State_put hk.le h_s
    clear_value y1
    extract_lets -merge -underBinder +onlyGivenNames y3
    have z4 : P y3 := keep_ite (keep_State_put hk.le z2) z2
    clear_value y3
    extract_lets -merge -underBinder +onlyGivenNames y5
    clear_value y5
    extract_lets -merge -underBinder +onlyGivenNames y6
    have z7 : P y6 := keep_ite (keep_State_put hk.le z4) z4
    clear_value y6
    exact keep_writeControlword hk.le ((keep_ite (keep_ite (keep_State_put hk.le z7) (keep_ite (keep_State_put hk.le z7) (keep_ite (keep_State_put hk.le (keep_State_put hk.le z7)) z7))) z7))

theorem keep_workerLocked {s} (hk : Kept ⟨0x2000000000000000000000000000000000000000000000000000000000000000000000000000000000000000000000000000000000000000000000000200000000000000000000000000000000000000000000000000000000000000000000000000000000000000000000000000000000000000000000000, 0x0, 0x0⟩ P) (h_s : P s) :
    P (workerLocked s) := by
  unfold workerLocked
  exact keep_ite (keep_State_put hk.le (keep_State_put hk.le h_s)) h_s

theorem keep_mirrorSlot {s} {g} {ws} (hk : Kept ⟨0x7c000000000000000000000000000000000000000000000000000000000000000000000000000000000000000000000000000000000000000000000000000000000000000000000000000000000000000000000000000000000000000000000000000000000000000000000000000000000000000000000000000000000, 0x0, 0x0⟩ P) (h_s : P s) :
    P (mirrorSlot s g ws) := by
  unfold mirrorSlot
  extract_lets -merge -underBinder +onlyGivenNames y0 y1
  clear_value y0 y1
  extract_lets -merge -underBinder +onlyGivenNames y2
  have z3 : P y2 := keep_ite (keep_State_put hk.le (keep_State_put hk.le (keep_State_put hk.le h_s))) h_s
  clear_value y2
  exact keep_ite (keep_State_put hk.le ((keep_ite (keep_State_put hk.le z3) z3))) ((keep_ite (keep_State_put hk.le z3) z3))

theorem keep_mirrorWords (hk : Kept ⟨0x7c000000000000000000000000000000000000000000000000000000000000000000000000000000000000000000000000000000000000000000000000000000000000000000000000000000000000000000000000000000000000000000000000000000000000000000000000000000000000000000000000000000000, 0x0, 0x0⟩ P) {s l ws} (h_s : P s) : P (mirrorWords s l ws) := by
  induction l generalizing s ws with
  | nil => exact h_s
  | cons i t ih => exact ih (keep_mirrorSlot hk.le h_s)

theorem keep_takeUp {s} {u} (hk : Kept ⟨0x34000000000000000000007c00980000200000000000000000000001800000000000000000000000000000000000000000000000000000000000000000000000000000000004000000000a091200000200000000000000000000000000000000000000000000000000000000000000000000000000000000000000000000000000000b00022b00000, 0x0, 0x8⟩ P) (h_s : P s) :
    P (takeUp s u) := by
  unfold takeUp
  extract_lets -merge -underBinder +onlyGivenNames y0
  clear_value y0
  exact keep_ite (keep_State_count hk.le h_s) (keep_ite h_s (keep_ite (keep_ite (keep_State_put hk.le ((keep_State_count hk.le h_s))) ((keep_State_count hk.le h_s))) (keep_ite (keep_ite (keep_workerRejoin hk.le ((keep_State_put hk.le (keep_State_put hk.le h_s)))) ((keep_State_put hk.le (keep_State_put hk.le h_s)))) (keep_mirrorWords hk.le (keep_State_put hk.le (keep_State_put hk.le ((keep_State_put hk.le (keep_State_put hk.le h_s)))))))))

theorem keep_judgeRing {s} {breakAt} (hk : Kept ⟨0x700360000000000000000000000000000000000000000000000000000000000000000000000000040060000000000200000180000000000000000000000000000000000000000000000000000000000000000000000000000000000000000000000000000300022b00000, 0x0, 0x308⟩ P) (h_s : P s) :
    P (judgeRing s breakAt) := by
  unfold judgeRing
  exact keep_ite (keep_setRedLost hk.le ((keep_ite (keep_absorb hk.le ((keep_State_post hk.le (keep_State_put hk.le h_s)))) ((keep_State_post hk.le (keep_State_put hk.le h_s)))))) (keep_ite (keep_setRedLost hk.le (keep_State_post hk.le (keep_State_put hk.le h_s))) h_s)

theorem keep_frameReturn {s} {lane} {good} {wrapped} {breakAt} {ups} (hk : Kept ⟨0x34000000000000000000007c00980330200000000000000000000001800070036000000000000000000000000000000000000000000000000000000000000000000000000004006000000a091200000380000000000000000000000000000000000000000000000000000000000000000000000000000000000000000000000000000b00022b00000, 0x0, 0x308⟩ P) (h_s : P s) :
    P (frameReturn s lane good wrapped breakAt ups) := by
  unfold frameReturn
  exact keep_ite h_s (keep_ite (keep_State_put hk.le (keep_State_count hk.le h_s)) (keep_ringGather hk.le ((keep_foldl (fun x0 x1 z2 => keep_takeUp hk.le z2) ((keep_judgeRing hk.le ((keep_State_put hk.le (keep_State_put hk.le h_s)))))))))

theorem keep_laneDown {s} {lane} (hk : Kept ⟨0x100000000000000000000000000000700360000000000000000000000000000000000000000000000000000000000000000000000000040060000000060000000100000000000000000000000000000000000000000000000000000000000000000000000000000000000000000000000000000300022b00000, 0x0, 0x308⟩ P) (h_s : P s) :
    P (laneDown s lane) := by
  unfold laneDown
  exact keep_ite h_s (keep_ite ((keep_State_post hk.le (keep_setLinkFlag hk.le ((keep_State_put hk.le (keep_State_setBit hk.le (keep_State_setBit hk.le h_s))))))) (keep_absorb hk.le ((keep_State_post hk.le (keep_setLinkFlag hk.le ((keep_State_put hk.le (keep_State_setBit hk.le (keep_State_setBit hk.le h_s)))))))))

theorem keep_laneUp {s} {lane} (hk : Kept ⟨0x40000000000020000000000000000000000000000000000000000000000000000000000000000000000000000000000000000000000000000000000000300022b00000, 0x0, 0x8⟩ P) (h_s : P s) :
    P (laneUp s lane) := by
  unfold laneUp
  exact keep_ite h_s (keep_State_post hk.le (keep_State_setBit hk.le h_s))

theorem keep_roundTrip {s} {lane} {trip} {turnaround} (hk : Kept ⟨0x400000000000000000000000000000000000000000000000000000000000000000000000000000000000000000000000000000000000000000000000000000000000000000000000000000000000000000000000000000000000000000000000000000000000000000000000000000000000000000000000000, 0x0, 0x0⟩ P) (h_s : P s) :
    P (roundTrip s lane trip turnaround) := by
  unfold roundTrip
  exact keep_State_put hk.le h_s

theorem keep_ringSheet {s} {t} (hk : Kept ⟨0x7c0000000000000000000000400000000000000000000000000000000000000000000000000000000000000000000000000000000000000000000000000000000000000000000000000000000000300000000000000000000000000000000000000000000000000000000000000000000000000000000000000000, 0x0, 0x0⟩ P) (h_s : P s) :
    P (ringSheet s t).1 := by
  unfold ringSheet
  refine keep_ite1 ?_ ?_
  · exact keep_mk h_s
  · split
    · rename_i y2 y3 q0
      have z1 : P y2 := keep_fst (keep_shootSheet hk.le h_s) q0
      exact keep_mk (keep_State_put hk.le (keep_State_put hk.le (keep_State_put hk.le ((keep_State_put hk.le (keep_State_put hk.le z1))))))

theorem keep_ringSheetDone {s} {parts} (hk : Kept ⟨0x140000000000000000000000000000000000000000000000000000000000000000000000000000000000000000000000000000000000000040000000000040000000000000000000000000000000000000000000000000000000000000000000000000000000000000000000000000000000000000300022b00000, 0x0, 0x8⟩ P) (h_s : P s) :
    P (ringSheetDone s parts) := by
  unfold ringSheetDone
  extract_lets -merge -underBinder +onlyGivenNames y6 y13 y20
  clear_value y6 y13 y20
  refine keep_ite ?_ ?_
  · exact h_s
  · extract_lets -merge -underBinder +onlyGivenNames y33
    have z34 : P y33 := keep_foldl (fun x35 x36 z37 => keep_foldl (fun x38 x39 z40 => keep_State_enqueue hk.le z40) (keep_State_enqueue hk.le z37)) h_s
    clear_value y33
    exact keep_State_post hk.le ((keep_ite (keep_setLinkFlag hk.le ((keep_State_put hk.le (keep_State_put hk.le z34)))) ((keep_State_put hk.le (keep_State_put hk.le z34)))))

theorem keep_tunnelBegin {s} {write} {bytes} (hk : Kept ⟨0x38000000000000000000000000000000000000000000000000000000000000000000000000000000000000000000000000000000000000000000000000000000000000000000000000000000000000000000000000000000000000000000000000000000000000000000000000000000000000000000000000000000000000, 0x0, 0x0⟩ P) (h_s : P s) :
    P (tunnelBegin s write bytes).1 := by
  unfold tunnelBegin
  exact keep_ite1 (keep_mk h_s) (keep_mk (keep_State_put hk.le (keep_State_put hk.le ((keep_State_put hk.le h_s)))))

theorem keep_tunnelTransfer {s} {write} {bytes} {abort} {data} (hk : Kept ⟨0x38000000000000000000000000000000000000000000000000000000000000000000000000000000000000000000000000000000000000000000000080000000000000000000000000000000000000000000000000000000000000000000000000000000000000000000000000000000000000000000000000000000000000, 0x0, 0x0⟩ P) (h_s : P s) :
    P (tunnelTransfer s write bytes abort data) := by
  unfold tunnelTransfer
  split
  · rename_i y2 q0
    have z1 : P y2 := keep_fst (keep_tunnelBegin hk.le h_s) q0
    exact keep_State_reply hk.le z1
  · rename_i y5 q3
    have z4 : P y5 := keep_fst (keep_tunnelBegin hk.le h_s) q3
    exact keep_ite z4 (keep_State_reply hk.le (keep_State_put hk.le z4))

theorem keep_tunnelTimeout {s} (hk : Kept ⟨0x8000000000000000000000000000000000000000000000000000000000000000000000000000000000000000000000000000000000000000000000080000000000000000000000000000000000000000000000000000000000000000000000000000000000000000000000000000000000000000000000000000000000000, 0x0, 0x0⟩ P) (h_s : P s) :
    P (tunnelTimeout s) := by
  unfold tunnelTimeout
  exact keep_ite (keep_State_reply hk.le (keep_State_put hk.le h_s)) h_s

theorem keep_fieldReject {s} {r} {i} (hk : Kept ⟨rall, 0x0, 0x200⟩ P) (h_s : P s) :
    P (fieldReject s r i) := by
  unfold fieldReject
  refine keep_ite ?_ ?_
  · exact keep_State_put hk.le h_s
  · refine keep_ite ?_ ?_
    · exact keep_State_put hk.le h_s
    · refine keep_ite ?_ ?_
      · exact keep_State_put hk.le h_s
      · refine keep_ite ?_ ?_
        · exact keep_State_setBit hk.le h_s
        · refine keep_ite ?_ ?_
          · exact keep_State_put hk.le h_s
          · refine keep_ite ?_ ?_
            · exact keep_State_put hk.le h_s
            · split
              · exact keep_State_put hk.le h_s
              · exact keep_State_put hk.le h_s
              · exact keep_State_put hk.le h_s
              · exact keep_State_put hk.le h_s
              · exact keep_domainRefuse hk.le h_s
              · exact h_s

theorem keep_encPreset {s} {c} {v} (hk : Kept ⟨0x40000000000000000000000000000000000000000000000006880000000000000000000000000000000000000000000000000000000000000000000000300022b00000, 0x0, 0x8⟩ P) (h_s : P s) :
    P (encPreset s c v) := by
  unfold encPreset
  exact keep_refreshAct hk.le (keep_unalign hk.le (keep_State_setBit hk.le ((keep_ite (keep_State_post hk.le (keep_State_setBit hk.le ((keep_State_puti hk.le h_s)))) ((keep_State_puti hk.le h_s))))))

theorem keep_refusePointer {s} {q} {wr} (hk : Kept ⟨0xc800000, 0x0, 0x0⟩ P) (h_s : P s) :
    P (refusePointer s q wr) := by
  unfold refusePointer
  exact keep_State_put_ite hk.le (keep_State_count hk.le h_s)

theorem keep_advanceWr (hk : Kept ⟨0xf000000400000000000000000008000000000000000000000000000000000000000000000000000000000000000000000000000000000000000000001b0000000300022b80000, 0x0, 0x18⟩ P) {q n s} (h_s : P s) : P (advanceWr q n s) := by
  induction n generalizing s with
  | zero => exact h_s
  | succ n ih => exact ih (keep_fetch hk.le (keep_State_setQLevel hk.le (keep_State_put hk.le h_s)))

theorem keep_qwrWrite {s} {path} {q} {v} (hk : Kept ⟨0xf000000400000000000000000008000000000000000000000000000000000000000000000000000000000000000000000000000000000000000000001b000000030002eb80000, 0x0, 0x18⟩ P) (h_s : P s) :
    P (qwrWrite s path q v).1 := by
  unfold qwrWrite
  exact keep_ite1 (keep_mk (keep_refusePointer hk.le h_s)) (keep_mk (keep_advanceWr hk.le h_s))

theorem keep_qrdWrite {s} {q} {v} (hk : Kept ⟨0x4000000000000000000000000000000000000000000000000000000000000000000000000000000000000000000000000000000000000000000000000030002eb80000, 0x0, 0x8⟩ P) (h_s : P s) :
    P (qrdWrite s q v).1 := by
  unfold qrdWrite
  exact keep_ite1 (keep_mk (keep_refusePointer hk.le h_s)) (keep_mk (keep_State_setRd hk.le h_s))

theorem keep_fieldApply {s} {path} {r} {i} {v} (hk : Kept ⟨rall, 0x100000000000000000000000000000000000000000001e00060000000000000000000000000000000000, 0x118⟩ P) (h_s : P s) :
    P (fieldApply s path r i v).1 := by
  unfold fieldApply
  split
  · exact keep_mk (keep_foldl (fun x0 x1 z2 => keep_State_put hk.le z2) h_s)
  · exact keep_mk (keep_foldl (fun x3 x4 z5 => keep_State_put_any hk.le z5) h_s)
  · exact keep_mk (keep_foldl (fun x6 x7 z8 => keep_State_put_any hk.le z8) h_s)
  · exact keep_mk (keep_foldl (fun x9 x10 z11 => keep_State_put_any hk.le z11) h_s)
  · exact keep_mk (keep_foldl (fun x12 x13 z14 => keep_State_put_any hk.le z14) h_s)
  · exact keep_mk (keep_State_put hk.le (keep_State_put hk.le h_s))
  · exact keep_writeGroup hk.le h_s
  · exact keep_mk (keep_writePwmEn hk.le h_s)
  · exact keep_mk (keep_writeSbCmd hk.le h_s)
  · exact keep_mk (keep_writeSnsEn hk.le h_s)
  · exact keep_qwrWrite hk.le h_s
  · exact keep_qrdWrite hk.le h_s
  · exact keep_mk (keep_encPreset hk.le h_s)
  · exact keep_mk (keep_ite (keep_State_put hk.le h_s) h_s)
  · exact keep_mk (keep_ite h_s (keep_State_put hk.le (keep_State_put hk.le h_s)))
  · exact keep_mk (keep_State_put hk.le (keep_State_put_any hk.le h_s))
  · exact keep_mk (keep_State_put hk.le (keep_State_put_any hk.le h_s))
  · exact keep_mk (keep_State_put hk.le (keep_State_put_any hk.le h_s))
  · exact keep_mk (keep_State_put hk.le (keep_State_put_any hk.le h_s))
  · exact keep_mk (keep_State_put hk.le (keep_State_put_any hk.le h_s))
  · exact keep_mk (keep_judgeBrake hk.le (keep_State_put hk.le ((keep_ite h_s (keep_brakeStop hk.le h_s)))))
  · exact keep_mk (keep_judgeBrake hk.le (keep_State_put hk.le h_s))
  · exact keep_mk (keep_State_put hk.le (keep_State_put hk.le h_s))
  · exact keep_mk (keep_State_put hk.le (keep_State_put hk.le h_s))
  · exact keep_mk (keep_State_put_any hk.le h_s)

theorem keep_fieldWrite {s} {path} {look} {r} {i} {v} (hk : Kept ⟨rall, 0x100000000000000000000000000000000000000000001e00060000000000000000000000000000000000, 0x318⟩ P) (h_s : P s) :
    P (fieldWrite s path look r i v).1 := by
  unfold fieldWrite
  refine keep_ite1 ?_ ?_
  · exact keep_mk h_s
  · refine keep_ite1 ?_ ?_
    · exact keep_mk (keep_fieldReject hk.le h_s)
    · refine keep_ite1 ?_ ?_
      · exact keep_mk (keep_fieldReject hk.le h_s)
      · refine keep_ite1 ?_ ?_
        · exact keep_mk (keep_fieldReject hk.le h_s)
        · split
          · rename_i y2 y3 q0
            have z1 : P y2 := keep_fst (keep_fieldApply hk.le h_s) q0
            exact keep_mk z1

theorem keep_followRestart {s} {i} (hk : Kept ⟨0x300000000000000000000000000000000000000000000000000000000000000000000000000000000000000000000000000000000000000000000000000008000000000000000000008000000000000, 0x0, 0x10⟩ P) (h_s : P s) :
    P (followRestart s i) := by
  unfold followRestart
  exact keep_ite (keep_State_count hk.le h_s) (keep_ite (keep_enterFollow hk.le h_s) h_s)

theorem keep_vwCalRun {s} {i} (hk : Kept ⟨0xe043f000000000000000000000000000000000000000040000000000000000000000000000000000000000000000000000000000000000000000000000000000000c40000000000000000000000000000000000300022b00000, 0x3000000000000000000000000000000000000000000000000000, 0x8⟩ P) (h_s : P s) :
    P (vwCalRun s i).1 := by
  unfold vwCalRun
  exact keep_ite1 (keep_mk (keep_rejectVwCal hk.le h_s)) (keep_mk (keep_probeBegin hk.le (keep_State_put hk.le (keep_probeAbort hk.le h_s))))

theorem keep_queueReset {s} {q} {offered} (hk : Kept ⟨0x800000040000000180000000000000000000000000000000000000000000000000000000000000000000000000000000000000000000000000000000100000000300032b80000, 0x70000, 0x18⟩ P) (h_s : P s) :
    P (queueReset s q offered).1 := by
  unfold queueReset
  refine keep_ite1 ?_ ?_
  · exact keep_mk (keep_State_put hk.le h_s)
  · extract_lets -merge -underBinder +onlyGivenNames y0
    have z1 : P y0 := keep_State_developList hk.le h_s
    clear_value y0
    extract_lets -merge -underBinder +onlyGivenNames y2
    have z3 : P y2 := keep_State_put hk.le (keep_State_put hk.le (keep_State_put hk.le z1))
    clear_value y2
    extract_lets -merge -underBinder +onlyGivenNames y4
    have z5 : P y4 := keep_State_put hk.le z3
    clear_value y4
    exact keep_mk (keep_ite (keep_judgeMailbox hk.le ((keep_ite (keep_dropAccepted hk.le ((keep_State_countN hk.le z5))) ((keep_State_countN hk.le z5))))) ((keep_ite (keep_dropAccepted hk.le ((keep_State_countN hk.le z5))) ((keep_State_countN hk.le z5)))))

theorem keep_command {s} {r} {i} {v} (hk : Kept ⟨rall, 0x1802000000000000000000000000000000000000000000000000000000000000000000000000000000000000000000000000000000000000000000070000, 0x1d8⟩ P) (h_s : P s) :
    P (command s r i v).1 := by
  unfold command
  split
  · exact keep_mk (keep_State_put hk.le h_s)
  · exact keep_queueReset hk.le h_s
  · exact keep_tbApply hk.le h_s
  · exact keep_mk (keep_segRestart hk.le h_s)
  · exact keep_accGo hk.le h_s
  · exact keep_mk (keep_followRestart hk.le h_s)
  · exact keep_clearTrip hk.le h_s
  · exact keep_mk (keep_loadAll hk.le h_s)
  · exact keep_mk (keep_foldl (fun x0 x1 z2 => keep_loadAll hk.le z2) h_s)
  · split
    · rename_i y5 y6 q3
      have z4 : P y5 := keep_fst (keep_gdClear hk.le h_s) q3
      exact keep_mk z4
  · exact keep_mk (keep_State_put hk.le h_s)
  · exact keep_mk (keep_State_put hk.le h_s)
  · exact keep_mk (keep_encFaultClear hk.le h_s)
  · exact keep_mk (keep_unalign hk.le h_s)
  · exact keep_mk (keep_State_setBit hk.le h_s)
  · exact keep_shootSheet hk.le h_s
  · exact keep_mk (keep_State_put hk.le h_s)
  · exact keep_calCommand hk.le h_s
  · exact keep_migrateMask hk.le h_s
  · exact keep_mk (keep_linkRestart hk.le h_s)
  · exact keep_mk (keep_mbxIn hk.le h_s)
  · exact keep_mk h_s

theorem keep_setReadShadow (hk : Kept ⟨0x0, 0x0, 0x2⟩ P) {s path n v} (h_s : P s) : P (setReadShadow s path ((readShadow s path).insert n v)) :=
  hk.readShadow s path n v h_s

theorem keep_setWriteShadow (hk : Kept ⟨0x0, 0x0, 0x4⟩ P) {s path r i v} (h_s : P s) : P (setWriteShadow s path ((writeShadow s path).set r i v)) :=
  hk.writeShadow s path r i v h_s

theorem keep_readHit (hk : Kept ⟨0x40000000000000000000000000000000000000000000000000000000000000000000000000000000000000000000000000000000000000000000000000000000000040000000180000000000000000000000000000000000000000000000000000000000000000000000000000000000000000000000000000000000000000700022b80000, 0x0, 0x18a⟩ P) {path} {x : State × Nat} {h} (h_x : P x.1) : P (readHit path x h).1 := by
  obtain ⟨a, b⟩ := x
  unfold readHit
  refine keep_ite1 ?_ ?_
  · dsimp only
    generalize hr : (if h.field.reg = .MBX_OUT then mbxOut a else (a, fieldValue a h.field h.inst)) = r
    have h1 : P r.1 := by
      rw [← hr]
      exact keep_ite1 (keep_mbxOut hk.le h_x) h_x
    clear hr
    obtain ⟨c, d⟩ := r
    exact keep_ite (keep_setReadShadow hk.le h1) h1
  · exact h_x

theorem keep_readWord (hk : Kept ⟨0x40000000000000000000000000000000000000000000000000000000000000000000000000000000000000000000000000000000000000000000000000000000000040000000180000000000000000000000000000000000000000000000000000000000000000000000000000000000000000000000000000000000000000700022b80000, 0x0, 0x18a⟩ P) {s path a} (h_s : P s) : P (readWord s path a).1 := by
  unfold readWord
  split
  · exact h_s
  · refine keep_ite1 h_s (keep_ite1 h_s (keep_ite1 h_s (keep_ite1 h_s ?_)))
    exact keep_foldl1 (fun x h hx => keep_readHit hk.le hx) (s := (s, 0)) h_s

theorem keep_countIgnored {s} (hk : Kept ⟨0x10000000000000, 0x0, 0x0⟩ P) (h_s : P s) :
    P (countIgnored s) := by
  unfold countIgnored
  exact keep_State_count hk.le h_s

theorem keep_refuseSealed {s} {path} {a} (hk : Kept ⟨0x1f00000000000000000000000000000000000000000000000000000000000000000000000000000000060000000000000000000000000000000000000000000000000000000000000000000000000000000000000000000000000000000000000000000010000000000000, 0x0, 0x200⟩ P) (h_s : P s) :
    P (refuseSealed s path a) := by
  unfold refuseSealed
  exact keep_ite ((keep_countIgnored hk.le h_s)) (keep_State_record hk.le (keep_State_put hk.le (keep_State_put hk.le ((keep_countIgnored hk.le h_s)))))

theorem keep_reloadShadow {s} {path} {h} (hk : Kept ⟨0x0, 0x0, 0x4⟩ P) (h_s : P s) :
    P (reloadShadow s path h) := by
  unfold reloadShadow
  exact keep_setWriteShadow hk.le h_s

theorem keep_writeHit {path} {mask} {data} {look} {s} {h} (hk : Kept ⟨rall, 0x1802000000000000000000000000000000000000100000000000000000000000000000000000000000001e00060000000000000000000000000000070000, 0x3dc⟩ P) (h_s : P s) :
    P (writeHit path mask data look s h) := by
  unfold writeHit
  extract_lets -merge -underBinder +onlyGivenNames y0
  clear_value y0
  refine keep_ite ?_ ?_
  · exact h_s
  · refine keep_ite ?_ ?_
    · exact keep_ite (keep_setWriteShadow hk.le h_s) h_s
    · split
      · exact keep_ite (keep_reloadShadow hk.le (keep_fieldWrite hk.le h_s)) (keep_fieldWrite hk.le h_s)
      · exact keep_State_put_any hk.le h_s
      · exact keep_ite (keep_reloadShadow hk.le (keep_command hk.le h_s)) (keep_ite h_s (keep_command hk.le h_s))
      · exact h_s

theorem keep_writeWord {s} {path} {a} {w} (hk : Kept ⟨rall, 0x1802000000000000000000000000000000000000100000000000000000000000000000000000000000001e00060000000000000000000000000000070000, 0x3dc⟩ P) (h_s : P s) :
    P (writeWord s path a w).1 := by
  unfold writeWord
  split
  · exact keep_mk h_s
  · exact keep_ite1 (keep_mk (keep_countIgnored hk.le h_s)) (keep_ite1 (keep_ite1 (keep_mk (keep_State_setWord hk.le h_s)) (keep_mk (keep_countIgnored hk.le h_s))) (keep_ite1 (keep_mk (keep_countIgnored hk.le h_s)) (keep_ite1 (keep_mk h_s) (keep_ite1 (keep_mk h_s) (keep_ite1 (keep_mk (keep_refuseSealed hk.le h_s)) (keep_ite1 (keep_mk (keep_countIgnored hk.le h_s)) (keep_ite1 (keep_mk (keep_countIgnored hk.le h_s)) (keep_mk (keep_foldl (fun x0 x1 z2 => keep_writeHit hk.le z2) h_s)))))))))

theorem keep_clashHit {taken} {hwMask} {hwData} {inc} {s} {h} (hk : Kept ⟨rall, 0x0, 0x38⟩ P) (h_s : P s) :
    P (clashHit taken hwMask hwData inc s h) := by
  unfold clashHit
  extract_lets -merge -underBinder +onlyGivenNames y0 y1
  clear_value y0 y1
  refine keep_ite ?_ ?_
  · exact h_s
  · split
    · exact keep_ite h_s (keep_State_put_any hk.le h_s)
    · exact keep_ite h_s (keep_ite (keep_State_count hk.le h_s) (keep_State_put_any hk.le h_s))
    · exact keep_ite h_s (keep_ite (keep_moveCount hk.le h_s) (keep_ite (keep_State_puti_any hk.le h_s) (keep_State_put_any hk.le h_s)))

theorem keep_writeClash {s} {path} {a} {w} {hwMask} {hwData} {inc} (hk : Kept ⟨rall, 0x1802000000000000000000000000000000000000100000000000000000000000000000000000000000001e00060000000000000000000000000000070000, 0x3fc⟩ P) (h_s : P s) :
    P (writeClash s path a w hwMask hwData inc).1 := by
  unfold writeClash
  extract_lets -merge -underBinder +onlyGivenNames y0 y1 y2 y3
  clear_value y0 y1 y2 y3
  split
  · rename_i y6 y7 q4
    have z5 : P y6 := keep_fst (keep_writeWord hk.le h_s) q4
    exact keep_mk (keep_foldl (fun x8 x9 z10 => keep_clashHit hk.le z10) z5)

theorem keep_addErr {s} {e} (hk : Kept ⟨0x1000000000000000000000000000000000000000000000000000000000000000000000000000000000000000000000000000000000000000000000000000000000000000000000000000000000000000000000000000000000000000000000000000000000000000000000000000000000000000000000000000000000000000, 0x0, 0x0⟩ P) (h_s : P s) :
    P (addErr s e) := by
  unfold addErr
  exact keep_State_put hk.le h_s

theorem keep_spiHeader (hk : Kept ⟨0x3f000000000000000000000000000000000000000000000000000000000000000000000000000000000000000000000000000000000000000000000000000000000000000000000000000000000000000000000000000000000000000000000000000000000000000000000000000000000000000000000000000000000000000, 0x0, 0x0⟩ P) {s cmd addr} (h_s : P s) : P (spiHeader s cmd addr) := by
  unfold spiHeader
  extract_lets -merge -underBinder +onlyGivenNames y z w
  have hw : P w := by
    refine keep_State_put hk.le (keep_State_put hk.le (keep_State_put hk.le (keep_State_put hk.le (keep_State_put hk.le
      (keep_State_put hk.le ?_)))))
    exact hk.same h_s
  clear_value w
  exact keep_ite (keep_State_put hk.le (keep_addErr hk.le hw)) (keep_ite (keep_State_put hk.le (keep_addErr hk.le hw)) hw)

theorem keep_spiNext {s} (hk : Kept ⟨0x20000000000000000000000000000000000000000000000000000000000000000000000000000000000000000000000000000000000000000000000000000000000000000000000000000000000000000000000000000000000000000000000000000000000000000000000000000000000000000000000000000000000000000, 0x0, 0x0⟩ P) (h_s : P s) :
    P (spiNext s) := by
  unfold spiNext
  exact keep_ite (keep_State_put hk.le h_s) h_s

theorem keep_spiWrite {s} {w} (hk : Kept ⟨rall, 0x1802000000000000000000000000000000000000100000000000000000000000000000000000000000001e00060000000000000000000000000000070000, 0x3dc⟩ P) (h_s : P s) :
    P (spiWrite s w) := by
  unfold spiWrite
  refine keep_ite ?_ ?_
  · split
    · rename_i y2 y3 q0
      have z1 : P y2 := keep_fst (keep_writeWord hk.le h_s) q0
      exact keep_spiNext hk.le (keep_addErr hk.le z1)
  · exact h_s

theorem keep_spiRead (hk : Kept ⟨0x40000000025000000000000000000000000000000000000000000000000000000000000000000000000000000000000000000000000000000000000000000000000040000000180000000000000000000000000000000000000000000000000000000000000000000000000000000000000000000000000000000000000000700022b80000, 0x0, 0x18a⟩ P) {s ready} (h_s : P s) : P (spiRead s ready) := by
  unfold spiRead
  refine keep_ite (keep_ite ?_ ?_) h_s
  · exact hk.same (keep_State_put hk.le
      (r := .SPI_DEAD) (i := 0) (v := 1) (keep_addErr hk.le (e := errNotReady) h_s))
  · have h1 : P (readWord s 0 (s.get .SPI_ADDR 0)).1 := keep_readWord hk.le h_s
    exact hk.same (keep_spiNext hk.le (keep_addErr hk.le h1))

theorem keep_spiEnd {s} {cut} (hk : Kept ⟨0x3800000000000000000000000000000000000000000000000000000000000000000000000000000000000000000000000000000000000000000000000000000000000000000000000000000000000000000000000000000000000000000000000000000000000000000000000000000000000000000000000000000000000000, 0x0, 0x0⟩ P) (h_s : P s) :
    P (spiEnd s cut) := by
  unfold spiEnd
  exact keep_ite h_s (keep_State_put hk.le (keep_State_put hk.le ((keep_ite (keep_addErr hk.le h_s) h_s))))

theorem keep_winStat {s} {err} (hk : Kept ⟨0x400000000000000000000000000000000000000000000000000000000000000000000000000000000000000000000000000000000000000000000000000000000000000000000000000000000000000000000000000000000000000000000000000000000000000000000000000000000000000000000000000000000000000, 0x0, 0x0⟩ P) (h_s : P s) :
    P (winStat s err) := by
  unfold winStat
  exact keep_State_put hk.le h_s

theorem keep_winNext {s} (hk : Kept ⟨0x80000000000000000000000000000000000000000000000000000000000000000000000000000000000000000000000000000000000000000000000000000000000000000000000000000000000000000000000000000000000000000000000000000000000000000000000000000000000000000000000000000000000000, 0x0, 0x0⟩ P) (h_s : P s) :
    P (winNext s) := by
  unfold winNext
  exact keep_ite (keep_State_put hk.le h_s) h_s

theorem keep_winRead {s} (hk : Kept ⟨0x40000000000480000000000000000000000000000000000000000000000000000000000000000000000000000000000000000000000000000000000000000000000040000000180000000000000000000000000000000000000000000000000000000000000000000000000000000000000000000000000000000000000000700022b80000, 0x0, 0x18a⟩ P) (h_s : P s) :
    P (winRead s).1 := by
  unfold winRead
  split
  · rename_i y2 y3 y4 q0
    have z1 : P y2 := keep_fst (keep_readWord hk.le h_s) q0
    exact keep_ite1 (keep_mk (keep_winNext hk.le ((keep_winStat hk.le z1)))) (keep_mk ((keep_winStat hk.le z1)))

theorem keep_winWrite {s} {w} (hk : Kept ⟨rall, 0x1802000000000000000000000000000000000000100000000000000000000000000000000000000000001e00060000000000000000000000000000070000, 0x3dc⟩ P) (h_s : P s) :
    P (winWrite s w).1 := by
  unfold winWrite
  split
  · rename_i y2 y3 q0
    have z1 : P y2 := keep_fst (keep_writeWord hk.le h_s) q0
    exact keep_ite1 (keep_mk (keep_winNext hk.le ((keep_winStat hk.le z1)))) (keep_mk ((keep_winStat hk.le z1)))

theorem keep_readBlock (hk : Kept ⟨0x40000000000000000000000000000000000000000000000000000000000000000000000000000000000000000000000000000000000000000000000000000000000040000000180000000000000000000000000000000000000000000000000000000000000000000000000000000000000000000000000000000000000000700022b80000, 0x0, 0x18a⟩ P) {s path a n acc} (h_s : P s) : P (readBlock s path a n acc).1 := by
  induction n generalizing s a acc with
  | zero => exact h_s
  | succ n ih =>
    unfold readBlock
    have h1 : P (readWord s path a).1 := keep_readWord hk.le h_s
    exact keep_ite1 (ih h1) h1

theorem keep_writeBlock (hk : Kept ⟨rall, 0x1802000000000000000000000000000000000000100000000000000000000000000000000000000000001e00060000000000000000000000000000070000, 0x3dc⟩ P) {s path a l} (h_s : P s) : P (writeBlock s path a l).1 := by
  induction l generalizing s a with
  | nil => exact h_s
  | cons w t ih =>
    unfold writeBlock
    have h1 : P (writeWord s path a w).1 := keep_writeWord hk.le h_s
    exact keep_ite1 (ih h1) h1

theorem keep_winBlockRead {s} (hk : Kept ⟨0x40000000000400000000000000000000000000000000000000000000000000000000000000000000000000000000000000000000000000000000000000000000000040000000180000000000000000000000000000000000000000000000000000000000000000000000000000000000000000000000000000000000000000700022b80000, 0x0, 0x18a⟩ P) (h_s : P s) :
    P (winBlockRead s).1 := by
  unfold winBlockRead
  split
  · rename_i y2 y3 y4 q0
    have z1 : P y2 := keep_fst (keep_readBlock hk.le h_s) q0
    exact keep_mk (keep_winStat hk.le z1)

theorem keep_winBlockWrite {s} {bytes} (hk : Kept ⟨rall, 0x1802000000000000000000000000000000000000100000000000000000000000000000000000000000001e00060000000000000000000000000000070000, 0x3dc⟩ P) (h_s : P s) :
    P (winBlockWrite s bytes).1 := by
  unfold winBlockWrite
  refine keep_ite1 ?_ ?_
  · exact keep_mk h_s
  · split
    · rename_i y2 y3 q0
      have z1 : P y2 := keep_fst (keep_writeBlock hk.le h_s) q0
      exact keep_mk (keep_winStat hk.le z1)

theorem keep_objRead {s} {idx} {sub} (hk : Kept ⟨0x400000000004b80000000000000000000000000000000000000000000000000000000000000000000000000000000000000000000000000000000000000000000000c0000000180000000000000000000000000000000000000000000000000000000000000000000000000000000000000000000000000000000000000000700022b80000, 0x0, 0x18a⟩ P) (h_s : P s) :
    P (objRead s idx sub).1 := by
  unfold objRead
  split
  · exact keep_mk h_s
  · exact keep_mk h_s
  · exact keep_mk h_s
  · exact keep_ite1 (keep_mk h_s) (keep_mk h_s)
  · refine keep_ite1 ?_ ?_
    · exact keep_mk h_s
    · refine keep_ite1 ?_ ?_
      · exact keep_winRead hk.le h_s
      · refine keep_ite1 ?_ ?_
        · exact keep_winBlockRead hk.le h_s
        · refine keep_ite1 ?_ ?_
          · exact keep_mk ((keep_frameRead hk.le h_s))
          · refine keep_ite1 ?_ ?_
            · split
              · rename_i y2 q0
                have z1 : P y2 := keep_fst (keep_tunnelBegin hk.le h_s) q0
                exact keep_mk z1
              · rename_i y5 q3
                have z4 : P y5 := keep_fst (keep_tunnelBegin hk.le h_s) q3
                exact keep_mk z4
            · exact keep_ite1 (keep_mk h_s) (keep_ite1 (keep_mk h_s) (keep_mk h_s))

theorem keep_writeMapCount {s} {tx} {load} {n} {v} (hk : Kept ⟨0x108480000000000000000000000000000000000000000000000000000000000000000000000000000000000000000000000000000000000000000000000000000000000000000000000000000000000000000000000000000000000000000000000000000000000000000000000000000000000000000000000000000000000000000, 0x0, 0x0⟩ P) (h_s : P s) :
    P (writeMapCount s tx load n v).1 := by
  unfold writeMapCount
  exact keep_ite1 (keep_mk h_s) (keep_ite1 (keep_mk h_s) (keep_ite1 (keep_mk h_s) (keep_mk (keep_State_put_ite hk.le h_s))))

theorem keep_writeMapEntry {s} {tx} {load} {n} {k} {v} (hk : Kept ⟨0x308c80000000000000000000000000000000000000000000000000000000000000000000000000000000000000000000000000000000000000000000000000000000000000000000000000000000000000000000000000000000000000000000000000000000000000000000000000000000000000000000000000000000000000000, 0x0, 0x0⟩ P) (h_s : P s) :
    P (writeMapEntry s tx load n k v).1 := by
  unfold writeMapEntry
  extract_lets -merge -underBinder +onlyGivenNames y0
  clear_value y0
  refine keep_ite1 ?_ ?_
  · exact keep_mk h_s
  · split
    · exact keep_mk h_s
    · exact keep_mk h_s
    · exact keep_ite1 (keep_mk (by unfold pdoMapReg; exact keep_State_put_ite hk.le h_s)) (keep_mk h_s)

theorem keep_writePdoComm {s} {tx} {n} {sub} {v} (hk : Kept ⟨0x1e0f8380000000000000000000000000000000000000000000000000000000000000000000000000000000000000000000000000000000000000000000000000000000000000000000000000000000000000000000000000000000000000000000000000000000000000000000000000000000000000000000000000000000000000000, 0x0, 0x0⟩ P) (h_s : P s) :
    P (writePdoComm s tx n sub v).1 := by
  unfold writePdoComm
  exact keep_ite1 (keep_ite1 (keep_mk h_s) (keep_mk (keep_ite (keep_State_put hk.le (keep_State_put hk.le (keep_State_put hk.le ((keep_State_put hk.le (keep_State_put_ite hk.le h_s)))))) ((keep_State_put hk.le (keep_State_put_ite hk.le h_s)))))) (keep_ite1 (keep_ite1 (keep_mk h_s) (keep_mk (keep_State_put_ite hk.le h_s))) (keep_ite1 (keep_mk (keep_State_put hk.le h_s)) (keep_ite1 (keep_mk (keep_State_put_ite hk.le h_s)) (keep_ite1 (keep_mk (keep_State_put hk.le h_s)) (keep_mk h_s)))))

theorem keep_rowStore (hk : Kept ⟨rall, 0x100000000000000000000000000000000000000000001e00060000000000000000000000000000000000, 0x318⟩ P) {path i v look l s} (h_s : P s) : P (rowStore path i v look l s).1 := by
  induction l generalizing s with
  | nil => exact h_s
  | cons p t ih =>
    unfold rowStore
    have h1 : P (fieldWrite s path look p.reg i (partValue p v)).1 := keep_fieldWrite hk.le h_s
    exact keep_ite1 (ih h1) h1

theorem keep_rowCommands (hk : Kept ⟨rall, 0x1802000000000000000000000000000000000000000000000000000000000000000000000000000000000000000000000000000000000000000000070000, 0x1d8⟩ P) {i v l s} (h_s : P s) : P (rowCommands i v l s).1 := by
  induction l generalizing s with
  | nil => exact h_s
  | cons p t ih =>
    unfold rowCommands
    have h1 : P (command s p.reg i (partValue p v)).1 := keep_command hk.le h_s
    exact keep_ite1 (ih h_s) (keep_ite1 (ih h1) h1)

theorem keep_tableWrite {s} {path} {idx} {row} {i} {v0} (hk : Kept ⟨rall, 0x1802000000000000000000000000000000000000100000000000000000000000000000000000000000001e00060000000000000000000000000000070000, 0x3d8⟩ P) (h_s : P s) :
    P (tableWrite s path idx row i v0).1 := by
  unfold tableWrite
  extract_lets -merge -underBinder +onlyGivenNames y0
  clear_value y0
  refine keep_ite1 ?_ ?_
  · exact keep_mk h_s
  · refine keep_ite1 ?_ ?_
    · exact keep_ite1 (keep_mk h_s) (keep_rowCommands hk.le h_s)
    · split
      · exact keep_mk (keep_fieldReject hk.le h_s)
      · exact keep_mk (keep_rejectWindow hk.le h_s)
      · split
        · rename_i y3 y4 q1
          have z2 : P y3 := keep_fst (keep_rowStore hk.le h_s) q1
          exact keep_mk (keep_ite (keep_State_put hk.le z2) z2)

theorem keep_writeMode {s} {i} {v} (hk : Kept ⟨0x800000000000000000000000000000000000000000000000000000000000000000000000000000000000000000000000000000000000000000000000000000000000000000, 0x0, 0x0⟩ P) (h_s : P s) :
    P (writeMode s i v).1 := by
  unfold writeMode
  exact keep_ite1 (keep_mk h_s) (keep_ite1 (keep_mk h_s) (keep_mk (keep_State_put hk.le h_s)))

theorem keep_writeSegPdo {s} {i} {sub} {v} (hk : Kept ⟨0x40000000000000000000000000000000000000000000000000000000000000000000000000000000000000000000000000000000000000000000f000000400000000000000000008000000000000000000000000000000000000000000000000000000000000000000000000000000000000000000001b0000000300026b80000, 0x0, 0x18⟩ P) (h_s : P s) :
    P (writeSegPdo s i sub v).1 := by
  unfold writeSegPdo
  exact keep_ite1 (keep_mk ((keep_State_put hk.le h_s))) (keep_mk (keep_segEnqueueBy hk.le ((keep_State_put hk.le h_s))))

theorem keep_writeMirror {s} {b} {g} {sub} {v} (hk : Kept ⟨0x83fc8000000000000000000000000000018000000000000000000000000000000000000000000000000000000000000000000000000000000000000000000000000000000000000000000000000000000000000000000000000000000000000000000000000000000000000000000000000000000000000800000000000, 0x0, 0x0⟩ P) (h_s : P s) :
    P (writeMirror s b g sub v).1 := by
  unfold writeMirror
  exact keep_ite1 (keep_mk (keep_mirrorControlword hk.le h_s)) (keep_ite1 (keep_mk (keep_State_put hk.le h_s)) (keep_ite1 (keep_mk (keep_State_put hk.le h_s)) (keep_ite1 (keep_mk (keep_State_put hk.le h_s)) (keep_ite1 (keep_mk (keep_State_put hk.le h_s)) (keep_ite1 (keep_mk (keep_State_put hk.le h_s)) (keep_mk (keep_State_put hk.le (keep_State_put hk.le h_s))))))))

theorem keep_stateAbort {x} (hk : Kept ⟨0x0, 0x0, 0x0⟩ P) (h_x : P x.1) :
    P (stateAbort x).1 := by
  unfold stateAbort
  exact keep_mk h_x

theorem keep_specialWrite {s} {load} {b} {i} {sub} {v} (hk : Kept ⟨rall, 0x1802000000000000000000000000000000000000100000000000000000000000000000000000000000001e000601f5000000000000000000000000070000, 0x3dc⟩ P) (h_s : P s) :
    P (specialWrite s load b i sub v).1 := by
  unfold specialWrite
  exact keep_ite1 (keep_ite1 (keep_mk (keep_foldl (fun x0 x1 z2 => keep_State_put hk.le z2) (keep_State_put hk.le h_s))) (keep_mk h_s)) (keep_ite1 (keep_writePdoComm hk.le h_s) (keep_ite1 (keep_writePdoComm hk.le h_s) (keep_ite1 (keep_ite1 (keep_writeMapCount hk.le h_s) (keep_writeMapEntry hk.le h_s)) (keep_ite1 (keep_ite1 (keep_writeMapCount hk.le h_s) (keep_writeMapEntry hk.le h_s)) (keep_ite1 (keep_ite1 (keep_mk (keep_portmapApply hk.le h_s)) (keep_mk h_s)) (keep_ite1 (keep_mk (keep_State_put hk.le (keep_ite (keep_State_put hk.le h_s) (keep_State_put hk.le h_s)))) (keep_ite1 (keep_ite1 (keep_mk h_s) (keep_stateAbort hk.le (keep_migrateMask hk.le h_s))) (keep_ite1 (keep_stateAbort hk.le (keep_ringSheet hk.le h_s)) (keep_ite1 (keep_writeSegPdo hk.le h_s) (keep_ite1 (keep_winWrite hk.le h_s) (keep_ite1 (keep_mk (keep_writeControlword hk.le h_s)) (keep_ite1 (keep_writeMode hk.le h_s) (keep_ite1 (keep_writeMirror hk.le h_s) (keep_mk h_s))))))))))))))

theorem keep_specialWriteBytes {s} {b} {i} {bytes} (hk : Kept ⟨rall, 0x1802000000000000000000000000000000000000100000000000000000000000000000000000000000001e00060000000000000000000000000000070000, 0x3dc⟩ P) (h_s : P s) :
    P (specialWriteBytes s b i bytes).1 := by
  unfold specialWriteBytes
  refine keep_ite1 ?_ ?_
  · exact keep_winBlockWrite hk.le h_s
  · extract_lets -merge -underBinder +onlyGivenNames y0
    have z1 : P y0 := keep_State_put hk.le h_s
    clear_value y0
    extract_lets -merge -underBinder +onlyGivenNames y2
    have z3 : P y2 := by
      unfold y2
      refine keep_ite ?_ ?_
      · exact keep_segWrite hk.le z1
      · refine keep_ite ?_ ?_
        · exact keep_frameWrite hk.le z1
        · refine keep_ite ?_ ?_
          · exact keep_State_reply hk.le z1
          · split
            · rename_i y6 q4
              have z5 : P y6 := keep_fst (keep_tunnelBegin hk.le z1) q4
              exact z5
            · rename_i y9 q7
              have z8 : P y9 := keep_fst (keep_tunnelBegin hk.le z1) q7
              exact keep_State_reply hk.le z8
    clear_value y2
    exact keep_mk z3

theorem keep_objStore {s} {auth} {path} {idx} {sub} {bytes} (hk : Kept ⟨rall, 0x1802000000000000000000000000000000000000100000000000000000000000000000000000000000001e000601f5000000000000000000000000070000, 0x3dc⟩ P) (h_s : P s) :
    P (objStore s auth path idx sub bytes).1 := by
  unfold objStore
  split
  · split
    · exact keep_mk h_s
    · exact keep_mk h_s
    · exact keep_mk h_s
    · exact keep_ite1 (keep_mk h_s) (keep_ite1 (keep_mk h_s) (keep_ite1 (keep_mk h_s) (keep_ite1 (keep_mk h_s) (keep_tableWrite hk.le h_s))))
    · exact keep_ite1 (keep_mk h_s) (keep_ite1 (keep_mk h_s) (keep_ite1 (keep_specialWriteBytes hk.le h_s) (keep_ite1 (keep_mk h_s) (keep_ite1 (keep_mk h_s) (keep_specialWrite hk.le h_s)))))

end Sys2Proof.Laws
end

