-- ==== Sys2Proof/Laws/KeepService.lean ====
section
/-! SUPPORT. Every definition of sessions, profiles, network, restarts, engine cycles and timed events keeps a property that the primitive updates keep (Kept). -/

set_option Elab.async false

namespace Sys2Proof.Laws

open Machine

variable {P : State → Prop}

theorem keep_refuse {s} {code} {what} {subject} (hk : Kept ⟨0x70000000000000000000000000000000000000000000000000000000000000000000000000000004006c000000000000000000000000000000000000000000000000000000000000000000000000000000000000000000000000000000000000000000000300022b00000, 0x0, 0x208⟩ P) (h_s : P s) :
    P (refuse s code what subject) := by
  unfold refuse
  exact keep_State_record hk.le ((keep_State_post hk.le (keep_State_put hk.le (keep_State_count hk.le h_s))))

theorem keep_dropStaged (hk : Kept ⟨0x10000000000000000000000000000000000000000000000000000000000000000000000000000000000000000000000000000000000000000000000000000000000, 0x0, 0x400⟩ P) {s} (h_s : P s) : P (dropStaged s) :=
  hk.sec (keep_State_put hk.le (r := .STAGED) (i := 0) (v := 0) h_s)

theorem keep_endSession (hk : Kept ⟨0x700000000000000000000000000000000000000000000000000000000000000000000000000000040070007000000000000000000000000000000000000000000000000000000000000000000000000000000000000000000000000000000000000000000300022b00000, 0x0, 0x608⟩ P) {s cause} (h_s : P s) : P (endSession s cause) := by
  unfold endSession
  exact keep_ite h_s (hk.sec (keep_State_put hk.le (keep_State_put hk.le (keep_State_put hk.le (keep_dropStaged hk.le
    (keep_State_record hk.le (keep_State_post hk.le h_s)))))))

theorem keep_sessionDrop {s} {code} {cmd} (hk : Kept ⟨0x2000000000000000000000000000000000000000000000000000000070000000000000000000000000000000000000000000000000000000000000000000000000000004007c007000000000000000000000000000000000000000000000000000000000000000000000000000000000000000000000000000000000000000000300022b00000, 0x0, 0x608⟩ P) (h_s : P s) :
    P (sessionDrop s code cmd) := by
  unfold sessionDrop
  exact keep_ite (keep_endSession hk.le ((keep_State_count hk.le (keep_refuse hk.le h_s)))) ((keep_State_count hk.le (keep_refuse hk.le h_s)))

theorem keep_stage (hk : Kept ⟨0x70000000000000000000000000000000000000000000000000000000000000000000000000000004007c000000000000000000000000000000000000000000000000000000000000000000000000000000000000000000000000000000000000000000000300022b00000, 0x0, 0x608⟩ P) {s idx sub bytes} (h_s : P s) : P (stage s idx sub bytes).1 := by
  unfold stage
  exact keep_ite1 h_s (keep_ite1 (keep_refuse hk.le h_s) (keep_mk (hk.sec (keep_State_put hk.le h_s))))

theorem keep_applyStaged {s} {e} (hk : Kept ⟨rall, 0x100000000000000000000000000000000000000000001e00060000000000000000000000000000000000, 0x118⟩ P) (h_s : P s) :
    P (applyStaged s e) := by
  unfold applyStaged
  split
  · exact keep_ite (keep_State_put hk.le ((keep_foldl (fun x0 x1 z2 => keep_fieldApply hk.le z2) h_s))) ((keep_foldl (fun x0 x1 z2 => keep_fieldApply hk.le z2) h_s))
  · exact h_s

theorem keep_setProfile (hk : Kept ⟨0x0, 0x0, 0x400⟩ P) {s n a} (h_s : P s) : P (setProfile s n a) :=
  hk.sec h_s

theorem keep_sealedChange {s} {e} (hk : Kept ⟨0x700000000000000000000000000000000000000000000000000000000000000000000000000000040060000000000000000000000000000000000000000000000000000000000000000000000000000000000000000000000000000000000000000000000300022b00000, 0x0, 0x608⟩ P) (h_s : P s) :
    P (sealedChange s e) := by
  unfold sealedChange
  exact keep_State_record hk.le ((keep_State_post hk.le ((keep_ite (keep_setProfile hk.le h_s) h_s))))

theorem keep_commit {s} (hk : Kept ⟨rall, 0x100000000000000000000000000000000000000000001e00060000000000000000000000000000000000, 0x718⟩ P) (h_s : P s) :
    P (commit s).1 := by
  unfold commit
  extract_lets -merge -underBinder +onlyGivenNames y0
  clear_value y0
  refine keep_ite1 ?_ ?_
  · exact keep_mk (keep_refuse hk.le h_s)
  · split
    · exact keep_mk (keep_refuse hk.le h_s)
    · exact keep_mk (keep_dropStaged hk.le ((keep_foldl (fun x4 x5 z6 => keep_sealedChange hk.le z6) ((keep_foldl (fun x1 x2 z3 => keep_applyStaged hk.le z3) h_s)))))

theorem keep_refreshValid {s} (hk : Kept ⟨0x100000000000000000000000000000000000000000000000000000000000000000000000000000000000000000000000000000000000000000000000000000000, 0x0, 0x0⟩ P) (h_s : P s) :
    P (refreshValid s) := by
  unfold refreshValid
  exact keep_State_put hk.le h_s

theorem keep_defaultsWhere {s} {p} (hk : Kept ⟨rall, 0x0, 0x0⟩ P) (h_s : P s) :
    P (defaultsWhere s p) := by
  unfold defaultsWhere
  exact keep_foldl (fun x0 x1 z2 => keep_ite (keep_foldl (fun x3 x4 z5 => keep_State_clear_any hk.le z5) z2) z2) h_s

theorem keep_developParameters {s} (hk : Kept ⟨0x0, rall, 0x0⟩ P) (h_s : P s) :
    P (developParameters s) := by
  unfold developParameters
  exact keep_foldl (fun x0 x1 z2 => keep_foldl (fun x3 x4 z5 => keep_ite z5 (keep_State_develop_any hk.le z5)) z2) h_s

theorem keep_applyEntries {s} {es} (hk : Kept ⟨rall, 0x1802000000000000000000000000000000000000100000000000000000000000000000000000000000001e000601f5000000000000000000000000070000, 0x3dc⟩ P) (h_s : P s) :
    P (applyEntries s es) := by
  unfold applyEntries
  exact keep_foldl (fun x0 x1 z2 => keep_objStore hk.le z2) h_s

theorem keep_armScript {s} {n} (hk : Kept ⟨0x700000000000000000000000000000000000000000000000000000000000000000000000000000000060000000000000000000000000000000000000000000000000000000000000000000000000000000000000000000000000000000000000000000000000000000000, 0x0, 0x600⟩ P) (h_s : P s) :
    P (armScript s n) := by
  unfold armScript
  exact keep_ite (keep_setProfile hk.le h_s) (keep_foldl (fun x0 x1 z2 => keep_State_record hk.le z2) ((keep_setProfile hk.le h_s)))

theorem keep_disarm {s} {idx} {sub} {bytes} (hk : Kept ⟨0x0, 0x0, 0x400⟩ P) (h_s : P s) :
    P (disarm s idx sub bytes) := by
  unfold disarm
  exact keep_setProfile hk.le h_s

theorem keep_switchDone (hk : Kept ⟨0x700000000000000000000000000000000000000000000000000000000000000000000000000000040060058000000000000000000000000000000000000000000000000000000000000000000000000000000000000000000000000000000000000000000300022b00000, 0x0, 0x608⟩ P) {s} (h_s : P s) : P (switchDone s) := by
  unfold switchDone
  exact keep_ite h_s (keep_armScript hk.le (hk.sec (keep_State_record hk.le (keep_State_post hk.le (keep_State_put hk.le
    (keep_State_put hk.le (keep_State_put hk.le h_s)))))))

theorem keep_switchSlot {s} {i} (hk : Kept ⟨rall, 0x1802000000000000000000000000000000000000100000000000000000000000000000000000000000001e000601f5000000000000000000000000070000, 0x7dc⟩ P) (h_s : P s) :
    P (switchSlot s i) := by
  unfold switchSlot
  exact keep_ite h_s (keep_switchDone hk.le (keep_State_setBit hk.le (keep_applyEntries hk.le ((keep_defaultsWhere hk.le h_s)))))

theorem keep_switchSlotDue {s} {i} (hk : Kept ⟨rall, 0x1802000000000000000000000000000000000000100000000000000000000000000000000000000000001e000601f5000000000000000000000000070000, 0x7dc⟩ P) (h_s : P s) :
    P (switchSlotDue s i) := by
  unfold switchSlotDue
  exact keep_ite (keep_switchSlot hk.le h_s) h_s

theorem keep_switchDevice {s} (hk : Kept ⟨rall, 0x1802000000000000000000000000000000000000100000000000000000000000000000000000000000001e000601f5000000000000000000000000070000, 0x7dc⟩ P) (h_s : P s) :
    P (switchDevice s) := by
  unfold switchDevice
  exact keep_ite h_s (keep_switchDone hk.le (keep_State_put hk.le (keep_ite (keep_portmapApply hk.le ((keep_applyEntries hk.le (keep_defaultsWhere hk.le h_s)))) ((keep_applyEntries hk.le (keep_defaultsWhere hk.le h_s))))))

theorem keep_profSelect (hk : Kept ⟨rall, 0x1802000000000000000000000000000000000000100000000000000000000000000000000000000000001e000601f5000000000000000000000000070000, 0x7dc⟩ P) {s v} (h_s : P s) : P (profSelect s v).1 := by
  unfold profSelect
  refine keep_ite1 (keep_refuse hk.le h_s) (keep_ite1 (keep_refuse hk.le h_s) (keep_ite1 h_s ?_))
  extract_lets -merge -underBinder +onlyGivenNames wait sec x y z w idle
  have hx : P x := hk.sec h_s
  clear_value x
  have hy : P y := keep_State_put hk.le (keep_State_put hk.le (keep_State_put hk.le hx))
  clear_value y
  have hz : P z := keep_State_put hk.le hy
  clear_value z
  have hw : P w := keep_State_put hk.le (keep_State_put hk.le (keep_State_put hk.le hz))
  exact keep_mk (keep_foldl (fun _ _ h => keep_switchSlot hk.le (keep_State_setBit hk.le h)) hw)

theorem keep_reloadCobs {s} (hk : Kept ⟨0x8080000000000000000000000000000000000000000000002000000000000000000000000000000000000000000000000000000000000000000000000000000000000000000000000000000000000000000000000000000000000000000000000000000000000000000000000000000000000000000000000000000000000000000, 0x0, 0x0⟩ P) (h_s : P s) :
    P (reloadCobs s) := by
  unfold reloadCobs
  extract_lets -merge -underBinder +onlyGivenNames y6
  have z7 : P y6 := keep_State_each hk.le h_s (fun x8 x9 z10 => keep_State_put hk.le z10)
  clear_value y6
  exact keep_ite ((keep_State_each hk.le z7 (fun x11 x12 z13 => keep_State_put hk.le z13))) (keep_State_put hk.le ((keep_State_each hk.le z7 (fun x11 x12 z13 => keep_State_put hk.le z13))))

theorem keep_pdoDefaults {s} (hk : Kept ⟨0xebf4f00000000000000000000000000000000000000000000000000000000000000000000000000000000000000000000000000000000000000000000000000000000000000000000000000000000000000000000000000000000000000000000000000000000000000000000000000000000000000000000000000000000000000000, 0x0, 0x0⟩ P) (h_s : P s) :
    P (pdoDefaults s) := by
  unfold pdoDefaults
  exact keep_foldl (fun x3 x4 z5 => keep_State_clear hk.le (keep_State_clear hk.le z5)) ((keep_foldl (fun x0 x1 z2 => keep_State_clearAll hk.le z2) h_s))

theorem keep_reloadComm {s} (hk : Kept ⟨rall, 0x1802000000000000000000000000000000000000100000000000000000000000000000000000000000001e000601f5000000000000000000000000070000, 0x3dc⟩ P) (h_s : P s) :
    P (reloadComm s) := by
  unfold reloadComm
  exact keep_State_put hk.le (keep_applyEntries hk.le ((keep_reloadCobs hk.le (keep_pdoDefaults hk.le (keep_State_put hk.le ((keep_defaultsWhere hk.le h_s)))))))

theorem keep_reloadOpen {s} (hk : Kept ⟨rall, 0x1802000000000000000000000000000000000000100000000000000000000000000000000000000000001e000601f5000000000000000000000000070000, 0x3dc⟩ P) (h_s : P s) :
    P (reloadOpen s) := by
  unfold reloadOpen
  exact keep_applyEntries hk.le (keep_defaultsWhere hk.le h_s)

theorem keep_storeParameters {s} {sub} {v} (hk : Kept ⟨0x0, 0x0, 0x400⟩ P) (h_s : P s) :
    P (storeParameters s sub v).1 := by
  unfold storeParameters
  exact keep_ite1 (keep_mk h_s) (keep_ite1 (keep_mk h_s) (keep_mk (keep_setProfile hk.le h_s)))

theorem keep_restoreParameters {s} {sub} {v} (hk : Kept ⟨0x0, 0x0, 0x400⟩ P) (h_s : P s) :
    P (restoreParameters s sub v).1 := by
  unfold restoreParameters
  exact keep_ite1 (keep_mk h_s) (keep_ite1 (keep_mk h_s) (keep_mk (keep_setProfile hk.le h_s)))

theorem keep_heard {s} {b} (hk : Kept ⟨0x18000000000000000000000000000000000000000000000000000000000000000000000000000000000000000000000000000000000000000000000000000000000000000000000000000000000000000000000000000000000000000000000000000000000000000, 0x0, 0x0⟩ P) (h_s : P s) :
    P (heard s b) := by
  unfold heard
  exact keep_ite (keep_State_put hk.le ((keep_State_put hk.le h_s))) ((keep_State_put hk.le h_s))

theorem keep_takeFrame (hk : Kept ⟨0x1b000000000000000000000000000000000000000000000000000000000000000000000000000000000000000000000000000000000000000000000000000000000000000000000000000000000000000000000000000000000000000000000000000000000000000, 0x0, 0x0⟩ P) {s b id data} (h_s : P s) : P (takeFrame s b id data).1 := by
  unfold takeFrame
  refine keep_ite1 h_s ?_
  extract_lets -merge -underBinder +onlyGivenNames y
  have hy : P y := keep_heard hk.le h_s
  refine keep_ite1 hy ?_
  extract_lets -merge -underBinder +onlyGivenNames fr
  split
  · rename_i f hf
    extract_lets -merge -underBinder +onlyGivenNames z w
    have hw : P w := keep_ite (keep_State_count hk.le hy) (keep_State_count hk.le (keep_State_count hk.le hy))
    exact hk.same hw
  · exact hk.same hy

theorem keep_loseBus {s} {b} {off} (hk : Kept ⟨0x10000000000000000000000000000000000000000000000000000700370800000000000000000000000000000000000000000000000000000000000000000000000040060000000000000200180000000000000000000000000000000000000000000000000000000000000000000000000000000000000000000000000000300022b00000, 0x0, 0x308⟩ P) (h_s : P s) :
    P (loseBus s b off) := by
  unfold loseBus
  refine keep_ite ?_ ?_
  · exact h_s
  · extract_lets -merge -underBinder +onlyGivenNames y0
    have z1 : P y0 := keep_State_count hk.le (keep_State_put hk.le (keep_State_setBit hk.le h_s))
    clear_value y0
    exact keep_setRedLost hk.le ((keep_ite (keep_State_put hk.le ((keep_State_post hk.le z1))) (keep_absorb hk.le ((keep_State_post hk.le z1)))))

theorem keep_canBusOff {s} {b} (hk : Kept ⟨0x10000000000000000000000000000000000000000000000000000700374800000000000000000000000000000000000000000000000000000000000000000000000040060000000000000200180000000000000000000000000000000000000000000000000000000000000000000000000000000000000000000000000000300022b00000, 0x0, 0x308⟩ P) (h_s : P s) :
    P (canBusOff s b) := by
  unfold canBusOff
  exact keep_ite h_s (keep_loseBus hk.le (keep_State_put hk.le (keep_State_put hk.le h_s)))

theorem keep_canSilence {s} {b} (hk : Kept ⟨0x10000000000000000000000000000000000000000000000000000700370800000000000000000000000000000000000000000000000000000000000000000000000040060000000000000200180000000000000000000000000000000000000000000000000000000000000000000000000000000000000000000000000000300022b00000, 0x0, 0x308⟩ P) (h_s : P s) :
    P (canSilence s b) := by
  unfold canSilence
  exact keep_ite (keep_loseBus hk.le h_s) h_s

theorem keep_canRestored {s} {b} (hk : Kept ⟨0x360800000000000000000000000000000000000000000000000000000000000000000000000040000000000000000000080000000000000000000000000000000000000000000000000000000000000000000000000000000000000000000000000000300022b00000, 0x0, 0x108⟩ P) (h_s : P s) :
    P (canRestored s b) := by
  unfold canRestored
  exact keep_ite (keep_setRedLost hk.le ((keep_State_post hk.le (keep_State_setBit hk.le h_s)))) h_s

theorem keep_commError {s} {k} {code} {event} (hk : Kept ⟨0x3e0000000000000000000000000000000000000000000000000000000000000000000000000000000000000000000000000000000000000000000000000000000000000000000000000000000000000000000000000000000000000000000000000000000000000000, 0x0, 0x100⟩ P) (h_s : P s) :
    P (commError s k code event) := by
  unfold commError
  exact keep_State_emcy hk.le (keep_State_setBit hk.le h_s)

theorem keep_commClear {s} {k} (hk : Kept ⟨0x3e0000000000000000000000000000000000000000000000000000000000000000000000000000000000000000000000000000000000000000000000000000000000000000000000000000000000000000000000000000000000000000000000000000000000000000, 0x0, 0x100⟩ P) (h_s : P s) :
    P (commClear s k) := by
  unfold commClear
  exact keep_ite (keep_State_emcyIfClear hk.le (keep_State_setBit hk.le h_s)) h_s

theorem keep_canRecovered {s} {b} (hk : Kept ⟨0x3e4000000000000000000000000000000000000000000000000000000000000000000000000000000000000000000000000000000000000000000000000000000000000000000000000000000000000000000000000000000000000000000000000000000000000000, 0x0, 0x100⟩ P) (h_s : P s) :
    P (canRecovered s b) := by
  unfold canRecovered
  exact keep_ite (keep_commClear hk.le (keep_commError hk.le (keep_State_put hk.le h_s))) h_s

theorem keep_canOverrun {s} {b} (hk : Kept ⟨0x3e0000000000000000000000000000000000000000000000000000000000000000000000000000000000000000000000000000000000000000000000000000000000000000000000000000000000000000000000000000000000000000000000000000000000000000, 0x0, 0x100⟩ P) (h_s : P s) :
    P (canOverrun s b) := by
  unfold canOverrun
  exact keep_ite (keep_commClear hk.le (keep_commError hk.le h_s)) h_s

theorem keep_setNmt {s} {st} (hk : Kept ⟨0x1000e004000000000000000000000000000000000000000000000000000001000000000000000000000000000000000000000000000000000000000000000000000000000000000000000000000000000000000000000000000000000000000000000000000000000000000000000000000000000000000000000000000000000000000000, 0x0, 0x0⟩ P) (h_s : P s) :
    P (setNmt s st) := by
  unfold setNmt
  exact keep_State_put hk.le ((keep_ite (keep_foldl (fun x0 x1 z2 => keep_State_clearAll hk.le z2) ((keep_ite (keep_State_put hk.le h_s) h_s))) ((keep_ite (keep_State_put hk.le h_s) h_s))))

theorem keep_bootUp {s} (hk : Kept ⟨0x1000e004000000000000000000000000000000000000000000000000000001000000000000000000000000000000000000000000000000000000000000000000000000000000000000000000000000000000000000000000000000000000000000000000000000000000000000000000000000000000000000000000000000000000000000, 0x0, 0x100⟩ P) (h_s : P s) :
    P (bootUp s) := by
  unfold bootUp
  exact keep_ite (keep_State_put hk.le h_s) (keep_ite (keep_setNmt hk.le ((keep_State_put hk.le ((keep_State_sendCan hk.le h_s))))) ((keep_State_put hk.le ((keep_State_sendCan hk.le h_s)))))

theorem keep_developCan {s} (hk : Kept ⟨0x10000000000000000000000000000000000000000000000000000000000000000000000000000000000000000000000000000000000000000000000000000000000000000000000000000000000000000000000000000000000000000000000000000000000000, 0x1e0000000000000000000000000000000000000000000000000000000000000000000000000000000000000000000000000000000000000000000000000000000000000000000000000000000000000000000000000000000000000000000000000000000000000, 0x0⟩ P) (h_s : P s) :
    P (developCan s) := by
  unfold developCan
  exact keep_State_put hk.le ((keep_State_develop hk.le (keep_State_develop hk.le ((keep_State_develop hk.le (keep_State_develop hk.le h_s))))))

theorem keep_resetCommunication {s} (hk : Kept ⟨rall, 0x1e0000000000000000000000000000000000000000000000000000000000000000000000000000000001802000000000000000000000000000000000000100000000000000000000000000000000000000000001e000601f5000000000000000000000000070000, 0x3dc⟩ P) (h_s : P s) :
    P (resetCommunication s) := by
  unfold resetCommunication
  exact keep_bootUp hk.le (keep_reloadComm hk.le (keep_developCan hk.le (keep_State_put hk.le ((keep_ite (keep_applyEntries hk.le h_s) h_s)))))

theorem keep_nmtFrame {s} {b} {cs} {node} {f} (hk : Kept ⟨0x1b000000000000000000000000000000000000000000000000000000000000000000000000000000000000000000000000000000000000000000000000000000000000000000000000000000000000000000000000000000000000000000000000000000000000000, 0x0, 0x0⟩ P) (h_s : P s) (h_f : ∀ v0, P v0 → P (f v0)) :
    P (nmtFrame s b cs node f) := by
  unfold nmtFrame
  split
  · rename_i y2 y3 q0
    have z1 : P y2 := keep_fst (keep_takeFrame hk.le h_s) q0
    exact keep_ite (h_f _ z1) z1

theorem keep_resetNode {s} (hk : Kept ⟨0x8000000000000000000000000000000000000008000000000060000360000000000000e00800000000300800415600000001006284081020000002f05c02c6c600040000000000000004000080000000000000000000000000002800010000000000000000000000000000000c40000000000088000e00000483100000b00300022b80000, 0x100000000000000000000000000000000000000000001e00060000000000000000000000000000000000, 0x118⟩ P) (h_s : P s) :
    P (resetNode s) := by
  unfold resetNode
  exact keep_State_put hk.le ((keep_State_each hk.le h_s (fun x0 x1 z2 => keep_ite (keep_State_put hk.le ((keep_cmdQuickStop hk.le z2))) ((keep_cmdQuickStop hk.le z2)))))

theorem keep_resetNodeReload {s} (hk : Kept ⟨rall, 0x1e0000000000000000000000000000000000000000000000000000000000000000000000000000000001802000000000000000000000000000000000000100000000000000000000000000000000000000000001e000601f5000000000000000000000000070000, 0x3dc⟩ P) (h_s : P s) :
    P (resetNodeReload s) := by
  unfold resetNodeReload
  exact keep_ite (keep_resetCommunication hk.le (keep_reloadOpen hk.le (keep_State_put hk.le h_s))) h_s

theorem keep_lssFrame {s} {b} {data} {f} (hk : Kept ⟨0x1b000000000000000000000000000000000000000000000000000000000000000000000000000000000000000000000000000000000000000000000000000000000000000000000000000000000000000000000000000000000000000000000000000000000000000, 0x0, 0x0⟩ P) (h_s : P s) (h_f : ∀ v0, P v0 → P (f v0)) :
    P (lssFrame s b data f) := by
  unfold lssFrame
  split
  · rename_i y2 y3 q0
    have z1 : P y2 := keep_fst (keep_takeFrame hk.le h_s) q0
    exact keep_ite (h_f _ z1) z1

theorem keep_lssAnswer {s} {data} (hk : Kept ⟨0x0, 0x0, 0x100⟩ P) (h_s : P s) :
    P (lssAnswer s data) := by
  unfold lssAnswer
  exact keep_State_sendCan hk.le h_s

theorem keep_lssSwitch {s} {mode} {sel} (hk : Kept ⟨rall, 0x1e0000000000000000000000000000000000000000000000000000000000000000000000000000000001802000000000000000000000000000000000000100000000000000000000000000000000000000000001e000601f5000000000000000000000000070000, 0x3dc⟩ P) (h_s : P s) :
    P (lssSwitch s mode sel) := by
  unfold lssSwitch
  split
  · exact keep_ite (keep_lssAnswer hk.le (keep_State_put hk.le h_s)) h_s
  · exact keep_ite (keep_resetCommunication hk.le ((keep_State_put hk.le h_s))) ((keep_State_put hk.le h_s))

theorem keep_lssNodeId {s} {node} (hk : Kept ⟨0x8000000000000000000000000000000000000000000000000000000000000000000000000000000000000000000000000000000000000000000000000000000000000000000000000000000000000000000000000000000000000000000000000000000000000, 0x0, 0x100⟩ P) (h_s : P s) :
    P (lssNodeId s node) := by
  unfold lssNodeId
  exact keep_ite h_s (keep_ite (keep_lssAnswer hk.le h_s) (keep_ite (keep_lssAnswer hk.le (keep_State_put hk.le h_s)) (keep_lssAnswer hk.le h_s)))

theorem keep_lssBitTiming {s} {table} {entry} (hk : Kept ⟨0x40000000000000000000000000000000000000000000000000000000000000000000000000000000000000000000000000000000000000000000000000000000000000000000000000000000000000000000000000000000000000000000000000000000000000000000000000000000000000000000000000000000000000000000000, 0x0, 0x100⟩ P) (h_s : P s) :
    P (lssBitTiming s table entry) := by
  unfold lssBitTiming
  exact keep_ite h_s (keep_ite (keep_lssAnswer hk.le (keep_State_put hk.le h_s)) (keep_lssAnswer hk.le h_s))

theorem keep_lssActivate {s} (hk : Kept ⟨0x40000000000000000000000000000000000000000000000000000000000000000000000000000000000000000000000000000000000000000000000000000000000000000000000000000000000000000000000000000000000000000000000000000000000000, 0x40000000000000000000000000000000000000000000000000000000000000000000000000000000000000000000000000000000000000000000000000000000000000000000000000000000000000000000000000000000000000000000000000000000000000, 0x0⟩ P) (h_s : P s) :
    P (lssActivate s) := by
  unfold lssActivate
  exact keep_ite (keep_State_putBoth hk.le h_s) h_s

theorem keep_lssStore {s} (hk : Kept ⟨0x4000000000000000000000000000000000000000000000000000000000000000000000000000000000000000000000000000000000000000000000000000000000000000000000000000000000000000000000000000000000000000000000000000000000000, 0x0, 0x100⟩ P) (h_s : P s) :
    P (lssStore s) := by
  unfold lssStore
  exact keep_ite (keep_lssAnswer hk.le (keep_State_put hk.le h_s)) h_s

theorem keep_lssInquire {s} {what} (hk : Kept ⟨0x0, 0x0, 0x100⟩ P) (h_s : P s) :
    P (lssInquire s what) := by
  unfold lssInquire
  exact keep_ite h_s (keep_ite (keep_lssAnswer hk.le h_s) (keep_ite (keep_lssAnswer hk.le h_s) h_s))

theorem keep_lssIdentify {s} {range} (hk : Kept ⟨0x0, 0x0, 0x100⟩ P) (h_s : P s) :
    P (lssIdentify s range) := by
  unfold lssIdentify
  split
  · exact keep_ite (keep_lssAnswer hk.le h_s) h_s
  · exact keep_ite (keep_lssAnswer hk.le h_s) h_s

theorem keep_heartbeatProduce {s} (hk : Kept ⟨0x4000000000000000000000000000000000000000000000000000000000000000000000000000000000000000000000000000000000000000000000000000000000000000000000000000000000000000000000000000000000000000000000000000000000000000000000000000000000000000000000000000000000000000000000000, 0x0, 0x100⟩ P) (h_s : P s) :
    P (heartbeatProduce s) := by
  unfold heartbeatProduce
  exact keep_ite (keep_State_put hk.le (keep_State_sendCan hk.le h_s)) h_s

theorem keep_heartbeatConsumed {s} {b} {node} (hk : Kept ⟨0x38000000000000000000000000000000000000000000000000000003f8000000000000000000000000000000000000000000000000000000000000000000000000000000000000000000000000000000000000000000000000000000000000000000000000000000000000000000000000000000000000000000000000000000000000000, 0x0, 0x100⟩ P) (h_s : P s) :
    P (heartbeatConsumed s b node) := by
  unfold heartbeatConsumed
  refine keep_ite ?_ ?_
  · exact h_s
  · extract_lets -merge -underBinder +onlyGivenNames y6
    have z7 : P y6 := keep_State_each hk.le (keep_heard hk.le h_s) (fun x8 x9 z10 => keep_State_put hk.le (keep_State_put hk.le (keep_State_put hk.le z10)))
    clear_value y6
    exact keep_ite z7 (keep_commClear hk.le z7)

theorem keep_errorBehaviour {s} (hk : Kept ⟨0x1000e004000000000000000000000000000000000000000000000000000001000000000000000000000000000000000000000000000000000000000000000000000000000000000000000000000000000000000000000000000000000000000000000000000000000000000000000000000000000000000000000000000000000000000000, 0x0, 0x0⟩ P) (h_s : P s) :
    P (errorBehaviour s) := by
  unfold errorBehaviour
  exact keep_ite h_s (keep_setNmt hk.le h_s)

theorem keep_communicationLoss {s} (hk : Kept ⟨0x1200e0040000000000000000000000000000000080000000080600003e0001000000000e00880000000300800415600000001006284081020000002f05c02c6c600040000000000000004000080000000000000000000000000002800010000000000000000000000000000000c40000000000088000e00000483100000b00b00022b80000, 0x100000000000000000000000000000000000000000001e00060000000000000000000000000000000000, 0x118⟩ P) (h_s : P s) :
    P (communicationLoss s) := by
  unfold communicationLoss
  exact keep_ite ((keep_foldl (fun x0 x1 z2 => keep_commError hk.le (keep_State_put hk.le z2)) h_s)) (keep_loseCommunication hk.le (keep_State_put hk.le ((keep_errorBehaviour hk.le ((keep_foldl (fun x0 x1 z2 => keep_commError hk.le (keep_State_put hk.le z2)) h_s))))))

theorem keep_sendTpdo {s} {n} (hk : Kept ⟨0x7c00000000000000000000000000000000000000000000000000000000000000000000000000000000000000000000000000000000000000000000000000000000000000000000000000000000000000000000000000000000000000000000000000000000000000000000000000000000000000000000000000000000000000000000, 0x0, 0x100⟩ P) (h_s : P s) :
    P (sendTpdo s n) := by
  unfold sendTpdo
  exact keep_State_put hk.le (keep_State_put hk.le (keep_State_put hk.le (keep_State_put hk.le (keep_State_put hk.le ((keep_State_sendCan hk.le h_s))))))

theorem keep_judgeTpdo {s} {n} (hk : Kept ⟨0x7c00000000000000000000000000000000000000000000000000000000000000000000000000000000000000000000000000000000000000000000000000000000000000000000000000000000000000000000000000000000000000000000000000000000000000000000000000000000000000000000000000000000000000000000, 0x0, 0x100⟩ P) (h_s : P s) :
    P (judgeTpdo s n) := by
  unfold judgeTpdo
  exact keep_ite h_s (keep_ite (keep_sendTpdo hk.le ((keep_ite h_s (keep_State_put hk.le h_s)))) ((keep_ite h_s (keep_State_put hk.le h_s))))

theorem keep_judgeTpdos {s} (hk : Kept ⟨0x7c00000000000000000000000000000000000000000000000000000000000000000000000000000000000000000000000000000000000000000000000000000000000000000000000000000000000000000000000000000000000000000000000000000000000000000000000000000000000000000000000000000000000000000000, 0x0, 0x100⟩ P) (h_s : P s) :
    P (judgeTpdos s) := by
  unfold judgeTpdos
  exact keep_ite (keep_foldl (fun x0 x1 z2 => keep_judgeTpdo hk.le z2) h_s) h_s

theorem keep_tpdoTimer {s} {n} (hk : Kept ⟨0x7c00000000000000000000000000000000000000000000000000000000000000000000000000000000000000000000000000000000000000000000000000000000000000000000000000000000000000000000000000000000000000000000000000000000000000000000000000000000000000000000000000000000000000000000, 0x0, 0x100⟩ P) (h_s : P s) :
    P (tpdoTimer s n) := by
  unfold tpdoTimer
  exact keep_ite (keep_sendTpdo hk.le h_s) h_s

theorem keep_tpdoInhibit {s} {n} (hk : Kept ⟨0x7c00000000000000000000000000000000000000000000000000000000000000000000000000000000000000000000000000000000000000000000000000000000000000000000000000000000000000000000000000000000000000000000000000000000000000000000000000000000000000000000000000000000000000000000, 0x0, 0x100⟩ P) (h_s : P s) :
    P (tpdoInhibit s n) := by
  unfold tpdoInhibit
  exact keep_ite (keep_sendTpdo hk.le h_s) h_s

theorem keep_applyMapping (hk : Kept ⟨rall, 0x1802000000000000000000000000000000000000100000000000000000000000000000000000000000001e000601f5000000000000000000000000070000, 0x3dc⟩ P) {l d s} (h_s : P s) : P (applyMapping l d s) := by
  induction l generalizing s d with
  | nil => exact h_s
  | cons e t ih => exact ih (keep_objStore hk.le h_s)

theorem keep_takeRpdo {s} {n} {data} (hk : Kept ⟨rall, 0x1802000000000000000000000000000000000000100000000000000000000000000000000000000000001e000601f5000000000000000000000000070000, 0x3dc⟩ P) (h_s : P s) :
    P (takeRpdo s n data) := by
  unfold takeRpdo
  exact keep_ite (keep_commError hk.le h_s) (keep_ite (keep_applyMapping hk.le ((keep_commClear hk.le h_s))) (keep_State_put hk.le (keep_State_put hk.le (keep_State_put hk.le ((keep_commClear hk.le h_s))))))

theorem keep_rpdoReceived {s} {b} {id} {data} (hk : Kept ⟨rall, 0x1802000000000000000000000000000000000000100000000000000000000000000000000000000000001e000601f5000000000000000000000000070000, 0x3dc⟩ P) (h_s : P s) :
    P (rpdoReceived s b id data) := by
  unfold rpdoReceived
  split
  · rename_i y2 y3 q0
    have z1 : P y2 := keep_fst (keep_takeFrame hk.le h_s) q0
    exact keep_ite z1 (keep_State_each hk.le z1 (fun x4 x5 z6 => keep_takeRpdo hk.le z6))

theorem keep_syncRpdo {s} {n} (hk : Kept ⟨rall, 0x1802000000000000000000000000000000000000100000000000000000000000000000000000000000001e000601f5000000000000000000000000070000, 0x3dc⟩ P) (h_s : P s) :
    P (syncRpdo s n) := by
  unfold syncRpdo
  exact keep_ite (keep_applyMapping hk.le (keep_State_put hk.le h_s)) h_s

theorem keep_syncTpdo {s} {n} (hk : Kept ⟨0xfc00000000000000000000000000000000000000000000000000000000000000000000000000000000000000000000000000000000000000000000000000000000000000000000000000000000000000000000000000000000000000000000000000000000000000000000000000000000000000000000000000000000000000000000, 0x0, 0x100⟩ P) (h_s : P s) :
    P (syncTpdo s n) := by
  unfold syncTpdo
  extract_lets -merge -underBinder +onlyGivenNames y0 y1
  clear_value y0 y1
  exact keep_ite h_s (keep_ite h_s (keep_ite (keep_ite (keep_sendTpdo hk.le ((keep_judgeTpdo hk.le (keep_State_put hk.le h_s)))) ((keep_judgeTpdo hk.le (keep_State_put hk.le h_s)))) (keep_ite (keep_sendTpdo hk.le ((keep_State_put hk.le (keep_State_put hk.le h_s)))) ((keep_State_put hk.le (keep_State_put hk.le h_s))))))

theorem keep_syncReceived {s} {b} {data} (hk : Kept ⟨rall, 0x1802000000000000000000000000000000000000100000000000000000000000000000000000000000001e000601f5000000000000000000000000070000, 0x3dc⟩ P) (h_s : P s) :
    P (syncReceived s b data) := by
  unfold syncReceived
  split
  · rename_i y2 y3 q0
    have z1 : P y2 := keep_fst (keep_takeFrame hk.le h_s) q0
    refine keep_ite ?_ ?_
    · exact z1
    · extract_lets -merge -underBinder +onlyGivenNames y22
      have z23 : P y22 := keep_ite (keep_State_put hk.le z1) z1
      clear_value y22
      exact keep_ite (keep_foldl (fun x27 x28 z29 => keep_syncTpdo hk.le z29) (keep_foldl (fun x30 x31 z32 => keep_syncRpdo hk.le z32) ((keep_ite z23 (keep_foldl (fun x24 x25 z26 => keep_syncSlot hk.le z26) z23))))) ((keep_ite z23 (keep_foldl (fun x24 x25 z26 => keep_syncSlot hk.le z26) z23)))

theorem keep_timeReceived {s} {b} {data} (hk : Kept ⟨0x70000000000000000000000000000000000000000000000000000001b000000000000000000000000000000000000000000000000000000000000000000000000000000000000000000000000000000000000000000000000000000000000000000000000000000000000000000000000000000000000000000000000000000000000000, 0x0, 0x0⟩ P) (h_s : P s) :
    P (timeReceived s b data) := by
  unfold timeReceived
  split
  · rename_i y2 y3 q0
    have z1 : P y2 := keep_fst (keep_takeFrame hk.le h_s) q0
    exact keep_ite (keep_State_put hk.le (keep_State_put hk.le (keep_State_put hk.le z1))) z1

theorem keep_patchErase (hk : Kept ⟨0x100000000000000000000000000000000000000000000000000000000000000000000000000000000000000000000000000000000000000000000000000000000000000000000000000000000000000000000000000000000000000000000000000000000000000000000000000000000000000000000000000000000000000000000000000000, 0x0, 0x400⟩ P) {s h} (h_s : P s) : P (patchErase s h) :=
  hk.sec (keep_State_setBit hk.le (r := .PATCH_OK) (i := 0) (k := h) (b := false) h_s)

theorem keep_patchStatus {s} (hk : Kept ⟨0x1400000000000000000000000000000000000000000000000000000000000000000000000000000000000000000000000000000000000000000000000000000000, 0x0, 0x0⟩ P) (h_s : P s) :
    P (patchStatus s) := by
  unfold patchStatus
  exact keep_State_put hk.le ((keep_State_put hk.le h_s))

theorem keep_watchdogCount {s} (hk : Kept ⟨0x200000000000000000000000000000000000000000000000000000000700000000000800000000000000000000000000000000000000000000000000000000000000000000061400000000000480000000000000000000000000000000000000000000000000000000000000000000000000000000000000000000000000000000000000000000, 0x0, 0x200⟩ P) (h_s : P s) :
    P (watchdogCount s) := by
  unfold watchdogCount
  extract_lets -merge -underBinder +onlyGivenNames y0 y1
  clear_value y0 y1
  extract_lets -merge -underBinder +onlyGivenNames y2
  have z3 : P y2 := keep_State_count hk.le h_s
  clear_value y2
  extract_lets -merge -underBinder +onlyGivenNames y4
  have z5 : P y4 := keep_State_put hk.le (keep_State_put hk.le z3)
  clear_value y4
  exact keep_ite (keep_ite ((keep_patchStatus hk.le (keep_State_put hk.le (keep_State_put hk.le z5)))) (keep_State_record hk.le ((keep_patchStatus hk.le (keep_State_put hk.le (keep_State_put hk.le z5)))))) z5

theorem keep_seqRestart (hk : Kept ⟨0x200020000000000000000000000000000000000000000000000000000700000000000b18000000000000000000000000000000000000000000000000000000000000000040071407000000000480000000000000000000000000000000000000000000000000000000000000000000000000000000000000000000000000000000300022b00000, 0x0, 0x648⟩ P) {s cause} (h_s : P s) : P (seqRestart s cause) := by
  unfold seqRestart
  refine keep_ite h_s (keep_ite (keep_State_put hk.le (keep_State_put hk.le h_s)) ?_)
  extract_lets -merge -underBinder +onlyGivenNames x y z sec w
  have hx : P x := keep_endSession hk.le h_s
  clear_value x
  have hy : P y := keep_State_put hk.le (keep_State_put hk.le (keep_State_put hk.le hx))
  clear_value y
  have hz : P z := keep_foldl (fun _ _ h => keep_State_put hk.le h) hy
  clear_value z
  have hw : P w := hk.sec (hk.rxNone _ hz)
  exact keep_ite (keep_watchdogCount hk.le hw) hw

theorem keep_epochDeferred {s} {n} (hk : Kept ⟨0x2000200000000000000000060000000000000038801d8038000004000700360000a4cb1d7f8f80000000000000000415000000001000684080000000000e0000000020004207140700400001c5b818000000000000000000000c000000000000000000000000000000000000000000c40010000000000000e000000000000001c0300022b03000, 0x0, 0x748⟩ P) (h_s : P s) :
    P (epochDeferred s n) := by
  unfold epochDeferred
  exact keep_ite (keep_ite (keep_migrationCutover hk.le h_s) h_s) (keep_ite (keep_convEpochLate hk.le h_s) (keep_ite (keep_ite (keep_domainRestart hk.le (keep_State_put hk.le h_s)) h_s) (keep_ite (keep_ite (keep_seqRestart hk.le h_s) h_s) (keep_devEpochLate hk.le h_s))))

theorem keep_seqWatchdog {s} (hk : Kept ⟨0x200020000000000000000000000000000000000000000000000000000700000000000b18000000000000000000000000000000000000000000000000000000000000000040071407000000000480000000000000000000000000000000000000000000000000000000000000000000000000000000000000000000000000000000300022b00000, 0x0, 0x648⟩ P) (h_s : P s) :
    P (seqWatchdog s) := by
  unfold seqWatchdog
  exact keep_ite (keep_seqRestart hk.le h_s) h_s

theorem keep_served {s} (hk : Kept ⟨0x400000000000000000000000000000000000000000000000000000000000000000000000000000000000000000000000000000000000000000000000000000000000000000000000000000000000000000000000000000000000000000000000000000000, 0x0, 0x0⟩ P) (h_s : P s) :
    P (served s) := by
  unfold served
  exact keep_ite h_s (keep_State_put hk.le h_s)

theorem keep_restoreImage {s} (hk : Kept ⟨rall, 0x1802000000000000000000000000000000000000100000000000000000000000000000000000000000001e000601f5000000000000000000000000070000, 0x3dc⟩ P) (h_s : P s) :
    P (restoreImage s) := by
  unfold restoreImage
  exact keep_applyEntries hk.le (keep_defaultsWhere hk.le h_s)

theorem keep_seqDone {s} {imageOk} (hk : Kept ⟨rall, 0x1802000000000000000000000000000000000000100000000000000000000000000000000000000000001e000601f5000000000000000000000000070000, 0x3dc⟩ P) (h_s : P s) :
    P (seqDone s imageOk) := by
  unfold seqDone
  refine keep_ite ?_ ?_
  · exact h_s
  · extract_lets -merge -underBinder +onlyGivenNames y0
    have z1 : P y0 := keep_ite h_s (keep_restoreImage hk.le h_s)
    clear_value y0
    exact keep_pumpOut hk.le (keep_emcyRelease hk.le (keep_absorb hk.le ((keep_State_post hk.le ((keep_State_put hk.le (keep_State_put hk.le ((keep_State_put hk.le (keep_State_count hk.le (keep_State_countWrap hk.le (keep_State_put hk.le ((keep_patchStatus hk.le (keep_State_put hk.le z1)))))))))))))))

theorem keep_deviceReset (hk : Kept ⟨rall, rall, 0x1fff⟩ P) {s cause others profsel manager} (h_s : P s) : P (deviceReset s cause others profsel manager) := by
  unfold deviceReset
  have h0 : ∀ x, P { State.reset with
      tx := s.tx, answer := s.answer, pending := s.pending, freeCount := s.freeCount
      audit := s.audit, sec := x } := fun x =>
    hk.same (hk.sec (x := x) (hk.audit (x := s.audit) (hk.tx (x := s.tx) (hk.reset s h_s))))
  exact keep_State_put hk.le (keep_State_put hk.le (keep_State_put hk.le (keep_State_put hk.le (keep_State_put hk.le
    (keep_State_put hk.le (keep_State_put hk.le (keep_State_put hk.le (keep_foldl (fun _ _ h => keep_State_put_any hk.le h)
    (keep_foldl (fun _ _ h => keep_State_put_any hk.le h) (h0 _))))))))))

theorem keep_atStage {s} {n} {f} (hk : Kept ⟨0x0, 0x0, 0x0⟩ P) (h_s : P s) (h_f : ∀ v0, P v0 → P (f v0)) :
    P (atStage s n f) := by
  unfold atStage
  exact keep_ite (h_f _ h_s) h_s

theorem keep_bootLock {s} {tbsync} (hk : Kept ⟨0x800000000000000000000000060000000000000001000000000000400300800000000000000000000000000000000000000000000100280000000000000000000000000000000000000000000000000000000000000000002080000000000000000000000000000000000000000000000000004380000000, 0x0, 0x0⟩ P) (h_s : P s) :
    P (bootLock s tbsync) := by
  unfold bootLock
  exact keep_ite h_s (keep_State_put hk.le (keep_carriersRestart hk.le ((keep_State_put hk.le (keep_State_put hk.le ((keep_State_put hk.le (keep_State_put hk.le (keep_State_put hk.le ((keep_ite (keep_State_put hk.le (keep_State_put hk.le h_s)) h_s)))))))))))

theorem keep_bootNoReference {s} {crystal} {tbsync} (hk : Kept ⟨0x200000000000000000000000000000000000000000000000000000000000000000000000000000000000000000000000000000000000000000000000000200000000, 0x0, 0x0⟩ P) (h_s : P s) :
    P (bootNoReference s crystal tbsync) := by
  unfold bootNoReference
  exact keep_ite h_s (keep_ite ((keep_State_put hk.le h_s)) (keep_State_put hk.le ((keep_State_put hk.le h_s))))

theorem keep_bootRom (hk : Kept ⟨0x400000000000000000000000000000000000000000000000000000000000000000000000000000000000000000000000000000000000000000000000000000000000000000080200000000000000000000000000000000000000000000000000000000000000000000000000000000000000000000000000000000000000000000000000000000, 0x0, 0x8⟩ P) {s} (h_s : P s) : P (bootRom s) := by
  unfold bootRom
  refine keep_State_put hk.le (keep_State_put hk.le (keep_State_count hk.le ?_))
  exact hk.same (hk.blank s h_s)

theorem keep_bootPatch {s} (hk : Kept ⟨0x3800000000000000000000000000000000000000000000000000000007000000000000000000000000000000000000000000000000000000000000000000000000000000400ed400000000000000000000000000000000000000000000000000000000000000000000000000000000000000000000000000000000000000000000300022b00000, 0x0, 0x208⟩ P) (h_s : P s) :
    P (bootPatch s) := by
  unfold bootPatch
  exact keep_State_put hk.le ((keep_ite (keep_patchStatus hk.le h_s) (keep_ite (keep_patchStatus hk.le (keep_State_put hk.le h_s)) (keep_State_put hk.le ((keep_patchStatus hk.le (keep_State_setBit hk.le (keep_State_put hk.le (keep_refuse hk.le h_s)))))))))

theorem keep_windowLoaded {s} {i} (hk : Kept ⟨0x50000000000000000000000000000000000000000000000000000000000000000000000000000000004000000000000000000000000000000000000000000000000000000000000000000000c002000000000000000040000000000000000000000000000000300022b00000, rall, 0x8⟩ P) (h_s : P s) :
    P (windowLoaded s i) := by
  unfold windowLoaded
  exact keep_ite h_s (keep_rejectWindow hk.le ((keep_foldl (fun x3 x4 z5 => keep_budgetPeriod hk.le (keep_State_put hk.le (keep_State_put hk.le z5))) ((keep_foldl (fun x0 x1 z2 => keep_State_putDev_any hk.le z2) h_s)))))

theorem keep_developAll {s} (hk : Kept ⟨rall, rall, 0x118⟩ P) (h_s : P s) :
    P (developAll s) := by
  unfold developAll
  extract_lets -merge -underBinder +onlyGivenNames y9
  have z10 : P y9 := keep_developParameters hk.le h_s
  clear_value y9
  extract_lets -merge -underBinder +onlyGivenNames y20
  have z21 : P y20 := keep_foldl (fun x22 x23 z24 => keep_State_put hk.le (keep_developPeriod hk.le (keep_State_put hk.le z24))) z10
  clear_value y20
  exact keep_foldl (fun x28 x29 z30 => keep_putWindow hk.le (keep_windowLoaded hk.le (keep_State_put hk.le z30))) ((keep_foldl (fun x25 x26 z27 => keep_portmapSet hk.le z27) (keep_portmapApply hk.le z21)))

theorem keep_safeProfile {s} (hk : Kept ⟨rall, rall, 0x318⟩ P) (h_s : P s) :
    P (safeProfile s) := by
  unfold safeProfile
  exact keep_State_record hk.le (keep_State_put hk.le (keep_State_put hk.le ((keep_developAll hk.le ((keep_foldl (fun x3 x4 z5 => keep_State_put hk.le z5) ((keep_foldl (fun x0 x1 z2 => keep_State_put hk.le z2) h_s))))))))

theorem keep_bootProfile {s} (hk : Kept ⟨rall, rall, 0x7dc⟩ P) (h_s : P s) :
    P (bootProfile s) := by
  unfold bootProfile
  exact keep_State_put hk.le ((keep_ite (keep_armScript hk.le (keep_developAll hk.le (keep_applyEntries hk.le ((keep_refreshValid hk.le h_s))))) (keep_safeProfile hk.le ((keep_refreshValid hk.le h_s)))))

theorem keep_vanaReady {s} (hk : Kept ⟨0x400000000000000000000000000000000000000000000000000000000000000000000000000000000000000000000000000000000000000000000000000000000000, 0x0, 0x0⟩ P) (h_s : P s) :
    P (vanaReady s) := by
  unfold vanaReady
  exact keep_State_put hk.le h_s

theorem keep_bootConverter {s} {c} {r} (hk : Kept ⟨0x39fe1d8638000008060700360000000000000e00880000000300800415600000001006284081020000002f05c02c6c600040060000000000004000180000000000011800004a7c000002800010000000000000000000000000000000c40010000000088000e00000483100000b00b00022b80000, 0x100000000000000000000000000000000000000000001e00060000000000000000000000000000000000, 0x318⟩ P) (h_s : P s) :
    P (bootConverter s c r) := by
  unfold bootConverter
  exact keep_ite (keep_foldl (fun x0 x1 z2 => keep_retirement hk.le z2) ((keep_calDone hk.le (keep_State_put hk.le h_s)))) ((keep_calDone hk.le (keep_State_put hk.le h_s)))

theorem keep_bootCalibration {s} {results} (hk : Kept ⟨0x3bfe1d8638000008060700360000000000000e00880000000300800415600000001006284081020000002f05c02c6c6000404e0000000000004000180000000000011800004a7c000002800010000000000000000000000000000000c40010000000088000e00000483100000b00b00022b80000, 0x100000000000000000000000000000000000000000001e00060000000000000000000000000000000000, 0x318⟩ P) (h_s : P s) :
    P (bootCalibration s results) := by
  unfold bootCalibration
  exact keep_ite (keep_State_put hk.le h_s) (keep_ite h_s (keep_State_put hk.le ((keep_foldl (fun x0 x1 z2 => keep_bootConverter hk.le (keep_State_put hk.le z2)) h_s))))

theorem keep_bootEngine {s} {i} (hk : Kept ⟨0x40000000000000, 0x0, 0x0⟩ P) (h_s : P s) :
    P (bootEngine s i) := by
  unfold bootEngine
  exact keep_ite (keep_State_put hk.le h_s) h_s

theorem keep_bootBist {s} {dead} (hk : Kept ⟨0x7003600000000000001800000000000000000000000000000000000000000000000000000002000400e0000000000018020180000000000000000000000000000000000000000000000000000000000000000000000000000000000000000000000000140300022b00000, 0x0, 0x308⟩ P) (h_s : P s) :
    P (bootBist s dead) := by
  unfold bootBist
  exact keep_State_put hk.le ((keep_refreshEngines hk.le (keep_foldl (fun x3 x4 z5 => keep_bootEngine hk.le z5) ((keep_foldl (fun x0 x1 z2 => keep_engineDead hk.le z2) h_s)))))

theorem keep_bootBank {s} {b} (hk : Kept ⟨0xc060000000000000002000000200206086300b00000000820001000000000000000000000000000400040000000000000000000000000000000000000000000000000000010000000000000000000000000100000040018000000000000000000000000000000b00022b00000, 0x0, 0x8⟩ P) (h_s : P s) :
    P (bootBank s b) := by
  unfold bootBank
  exact keep_ite (keep_bankRelease hk.le (keep_portsOff hk.le (keep_State_put hk.le h_s))) h_s

theorem keep_bootBanks {s} (hk : Kept ⟨0xc060000000000000002000000200206086300b00000000820001000000000000000000000000000400040000000000000000000000000000000000000000000000000000010000000000000000000000000100000040018000000000000000000000000000000b00022b00000, 0x0, 0x8⟩ P) (h_s : P s) :
    P (bootBanks s) := by
  unfold bootBanks
  exact keep_foldl (fun x0 x1 z2 => keep_bootBank hk.le z2) h_s

theorem keep_bootDone {s} {elapsed} (hk : Kept ⟨0x9000e00c080000000000000000000000000000000000000008000002000011000400000000000000000000000000000000000000000000000000000000000000000041180000000000000000000000000000000000000000000000000000000000000000000000000000000000000000000000000000000000000000000000b00022b00000, 0x1e0000000000000000000000000000000000000000000000000000000000000000000000000000000000000000000000000000000000000000000000000000000000000000000000000000000000000000000000000000000000000000000000000000000000000, 0x108⟩ P) (h_s : P s) :
    P (bootDone s elapsed) := by
  unfold bootDone
  exact keep_State_post hk.le ((keep_judgeFaultn hk.le ((keep_State_put hk.le (keep_State_put hk.le ((keep_State_put hk.le (keep_State_put hk.le (keep_State_put hk.le ((keep_bootUp hk.le (keep_reloadCobs hk.le (keep_developCan hk.le h_s)))))))))))))

theorem keep_logRefused {s} {idx} {sub} {v} (hk : Kept ⟨0x700000000000000000000000000000000000000000000000000000000000000000000000000000000060000000000000000000000000000000000000000000000000000000000000000000000000000000000000000000000000000000000000000000000000000000000, 0x0, 0x200⟩ P) (h_s : P s) :
    P (logRefused s idx sub v) := by
  unfold logRefused
  exact keep_State_record hk.le h_s

theorem keep_domOffWrite {s} {path} {v} (hk : Kept ⟨0x10000000000000000000000000070000000000000000000000000000000000000000000000000000000000000000000000000000001c060000000000000000000000000000000000000000000000000000000000000000000000000000000000000000000000000000000000000000000000000000000000, 0x0, 0x200⟩ P) (h_s : P s) :
    P (domOffWrite s path v).1 := by
  unfold domOffWrite
  refine keep_ite1 ?_ ?_
  · exact keep_mk h_s
  · refine keep_ite1 ?_ ?_
    · exact keep_mk h_s
    · extract_lets -merge -underBinder +onlyGivenNames y0
      have z1 : P y0 := keep_State_put hk.le h_s
      clear_value y0
      split
      · exact keep_mk (keep_domainRefuse hk.le h_s)
      · exact keep_mk (keep_State_put hk.le z1)

theorem keep_domainCommand {s} {path} {d} (hk : Kept ⟨0x80000020000000000700360000a4c000000e00000000000000000000000000000000000000000000000000000000200042060000000000004100080000000000000000000004000000000000000000000000000000000000000000000000000000000000000000000000000100300022b03000, 0x0, 0x308⟩ P) (h_s : P s) :
    P (domainCommand s path d).1 := by
  unfold domainCommand
  exact keep_ite1 (keep_mk h_s) (keep_ite1 (keep_mk (keep_logRefused hk.le h_s)) (keep_stateAbort hk.le (keep_domainRestart hk.le h_s)))

theorem keep_seqJudge {s} {path} {v} (hk : Kept ⟨0x700000000000000000000000000000000000000000000000000000000000000000000000000000000060000000000000000000000000000000000000000000000000000000000000000000000000000000000000000000000000000000000000000000000000000000000, 0x0, 0x200⟩ P) (h_s : P s) :
    P (seqJudge s path v).1 := by
  unfold seqJudge
  exact keep_ite1 (keep_mk h_s) (keep_ite1 (keep_mk (keep_logRefused hk.le h_s)) (keep_mk h_s))

theorem keep_resetJudge {s} {path} {v} (hk : Kept ⟨0x700000000000000000000000000000000000000000000000000000000000000000000000000000000060000000000000000000000000000000000000000000000000000000000000000000000000000000000000000000000000000000000000000000000000000000000, 0x0, 0x200⟩ P) (h_s : P s) :
    P (resetJudge s path v).1 := by
  unfold resetJudge
  exact keep_ite1 (keep_mk (keep_logRefused hk.le h_s)) (keep_ite1 (keep_mk (keep_logRefused hk.le h_s)) (keep_mk h_s))

theorem keep_afterWrite {s} {idx} {sub} (hk : Kept ⟨rall, rall, 0x1fff⟩ P) (h_s : P s) :
    P (afterWrite s idx sub) := by
  unfold afterWrite
  exact keep_ite (keep_seqRestart hk.le h_s) (keep_ite (keep_deviceReset hk.le h_s) h_s)

theorem keep_sealedRan {s} {idx} {sub} {bytes} (hk : Kept ⟨0x700000000000000000000000000000000000000000000000000000000000000000000000000000000060000000000000000000000000000000000000000000000000000000000000000000000000000000000000000000000000000000000000000000000000000000000, 0x0, 0x600⟩ P) (h_s : P s) :
    P (sealedRan s idx sub bytes) := by
  unfold sealedRan
  exact keep_ite (keep_disarm hk.le ((keep_State_record hk.le h_s))) ((keep_State_record hk.le h_s))

theorem keep_sealedRun {s} {auth} {idx} {sub} {bytes} {ok} {run} (hk : Kept ⟨0x70000000000000000000000000000000000000000000000000000000000000000000000000000004006c000000000000000000000000000000000000000000000000000000000000000000000000000000000000000000000000000000000000000000000300022b00000, 0x0, 0x608⟩ P) (h_s : P s) (h_run : ∀ v0, P v0 → P (run v0).1) :
    P (sealedRun s auth idx sub bytes ok run).1 := by
  unfold sealedRun
  refine keep_ite1 ?_ ?_
  · exact keep_mk h_s
  · refine keep_ite1 ?_ ?_
    · exact keep_mk (keep_refuse hk.le h_s)
    · refine keep_ite1 ?_ ?_
      · exact keep_mk h_s
      · split
        · rename_i y2 y3 q0
          have z1 : P y2 := keep_fst (h_run _ h_s) q0
          exact keep_ite1 (keep_mk (keep_sealedRan hk.le z1)) (keep_mk (keep_logRefused hk.le z1))

theorem keep_vwCalWrite {s} {auth} {i} {bytes} (hk : Kept ⟨0x7000000000000000000000000000000000e043f00000000000000000000000000000000000000004006c000000000000000000000000000000000000000000000000000000000000000000000000000000000c40000000000000000000000000000000000300022b00000, 0x3000000000000000000000000000000000000000000000000000, 0x608⟩ P) (h_s : P s) :
    P (vwCalWrite s auth i bytes).1 := by
  unfold vwCalWrite
  exact keep_sealedRun hk.le h_s (fun x0 z1 => keep_vwCalRun hk.le z1)

theorem keep_syscalWrite {s} {auth} {bytes} (hk : Kept ⟨0x1800000000000000000070000000000000000000000000000000000000000000000000000000000000000000000000000004006c000000000000000000000000000600000000000000000000000000000000000000000000000000000000000000000000000000000000000000000300022b00000, 0x0, 0x608⟩ P) (h_s : P s) :
    P (syscalWrite s auth bytes).1 := by
  unfold syscalWrite
  extract_lets -merge -underBinder +onlyGivenNames y2
  clear_value y2
  refine keep_sealedRun hk.le ?_ ?_
  · exact h_s
  · intro x5 z6
    split
    · rename_i y9 y10 q7
      have z8 : P y9 := keep_fst (keep_syscalStart hk.le z6) q7
      exact keep_mk z8

theorem keep_askHelper {s} {d} (hk : Kept ⟨0xdc0000000000000000000000000000000000000000000000000000000000000000000000000000000000000000000000000000000000000000000000000000000000000000000000000000000000000000000000000000000000000000000000000000007000, 0x0, 0x0⟩ P) (h_s : P s) :
    P (askHelper s d) := by
  unfold askHelper
  exact keep_ite (keep_issueTag hk.le h_s) h_s

theorem keep_objWriteAny {s} {auth} {path} {idx} {sub} {bytes} (hk : Kept ⟨rall, 0x1802000000000000000000000000000000000000100000000000000000000000000000003000000000001e000601f5000000000000000000000000070000, 0x7dc⟩ P) (h_s : P s) :
    P (objWriteAny s auth path idx sub bytes).1 := by
  unfold objWriteAny
  split
  · extract_lets -merge -underBinder +onlyGivenNames y0
    clear_value y0
    extract_lets -merge -underBinder +onlyGivenNames y1
    have z2 : ∀ x3 x4, P x4.1 → P (y1 x3 x4).1 := by
      intro x3 x4 z5
      exact keep_ite1 (keep_mk h_s) z5
    clear_value y1
    refine keep_ite1 ?_ ?_
    · exact keep_mk h_s
    · refine keep_ite1 ?_ ?_
      · exact z2 _ _ (keep_storeParameters hk.le h_s)
      · refine keep_ite1 ?_ ?_
        · exact z2 _ _ (keep_restoreParameters hk.le h_s)
        · refine keep_ite1 ?_ ?_
          · exact z2 _ _ (keep_resetJudge hk.le h_s)
          · refine keep_ite1 ?_ ?_
            · exact z2 _ _ (keep_domOffWrite hk.le h_s)
            · refine keep_ite1 ?_ ?_
              · exact z2 _ _ (keep_ite1 (keep_mk h_s) (keep_profSelect hk.le h_s))
              · refine keep_ite1 ?_ ?_
                · exact z2 _ _ (keep_domainCommand hk.le h_s)
                · refine keep_ite1 ?_ ?_
                  · exact z2 _ _ (keep_seqJudge hk.le h_s)
                  · refine keep_ite1 ?_ ?_
                    · exact keep_vwCalWrite hk.le h_s
                    · refine keep_ite1 ?_ ?_
                      · exact keep_syscalWrite hk.le h_s
                      · split
                        · rename_i y8 y9 q6
                          have z7 : P y8 := keep_fst (keep_objStore hk.le h_s) q6
                          exact keep_ite1 (keep_mk (keep_askHelper hk.le h_s)) (keep_mk (keep_ite (keep_refuse hk.le z7) z7))

theorem keep_objReadAny {s} {idx} {sub} (hk : Kept ⟨0x400000000004b8000000000000000000000000000000000000000000000000dc00000000000000000000000000000000000000000000000000000000000000000000c0000000180000000000000000000000000000000000000000000000000000000000000000000000000000000000000000000000000000000000000000700022b87000, 0x0, 0x18a⟩ P) (h_s : P s) :
    P (objReadAny s idx sub).1 := by
  unfold objReadAny
  refine keep_ite1 ?_ ?_
  · exact keep_mk h_s
  · split
    · rename_i y2 y3 y4 q0
      have z1 : P y2 := keep_fst (keep_objRead hk.le h_s) q0
      exact keep_ite1 (keep_mk (keep_askHelper hk.le h_s)) (keep_mk z1)

theorem keep_plainWrite {s} {path} {idx} {sub} {bytes} (hk : Kept ⟨rall, rall, 0x1fff⟩ P) (h_s : P s) :
    P (plainWrite s path idx sub bytes) := by
  unfold plainWrite
  refine keep_ite ?_ ?_
  · exact h_s
  · split
    · rename_i y2 y3 q0
      have z1 : P y2 := keep_fst (keep_objWriteAny hk.le (keep_served hk.le h_s)) q0
      exact keep_ite (keep_afterWrite hk.le ((keep_State_reply hk.le z1))) ((keep_State_reply hk.le z1))

theorem keep_answer {s} {path} {cmd} {r} {crypt} {status} {payload} (hk : Kept ⟨0x10040000000000000000000000000000000000000000000000000000000000000000000000000000000000000000000000000000000000000000000000000000000000040000000180000000000000000000000000000000000000000000000000000000000000000000000000000000000000000000000000000000000000000700022b80000, 0x0, 0x188⟩ P) (h_s : P s) :
    P (answer s path cmd r crypt status payload) := by
  unfold answer
  extract_lets -merge -underBinder +onlyGivenNames y0
  clear_value y0
  split
  · exact keep_ite (keep_respond hk.le h_s) (keep_respond hk.le h_s)
  · split
    · exact keep_respond hk.le ((keep_State_put hk.le h_s))

theorem keep_openRequest {s} {cmd} {r} (hk : Kept ⟨0x2900000000000000000000000000000000000000000000000000000070000000000000000000000000000000000000000000000000000000000000000000000000000004007c007000000000000000000000000000000000000000000000000000000000000000000000000000000000000000000000000000000000000000000300022b00000, 0x0, 0x608⟩ P) (h_s : P s) :
    P (openRequest s cmd r).1 := by
  unfold openRequest
  extract_lets -merge -underBinder +onlyGivenNames y0
  clear_value y0
  split
  · exact keep_mk (keep_sessionDrop hk.le h_s)
  · exact keep_ite1 (keep_mk (keep_sessionDrop hk.le h_s)) (keep_mk (keep_State_put hk.le (keep_State_put hk.le h_s)))

theorem keep_roleTooLow {s} {subject} (hk : Kept ⟨0x700000000000000000000000000000000000000000000000000000000000000000000000000000000060000000000000000000000000000000000000000000000000000000000000000000000000000000000000000000000000000000000000000000000000000000000, 0x0, 0x200⟩ P) (h_s : P s) :
    P (roleTooLow s subject) := by
  unfold roleTooLow
  exact keep_State_record hk.le h_s

theorem keep_perform {s} {path} {rule} {r} {crypt} {text} {f} {after} (hk : Kept ⟨0x10040000000000000000000000000000000000000000000000000000700000000000000000000000000000000000000000000000000000000000000000000000000000040060000180000000000000000000000000000000000000000000000000000000000000000000000000000000000000000000000000000000000000000700022b80000, 0x0, 0x388⟩ P) (h_s : P s) (h_f : ∀ v0 v1, P v0 → P (f v0 v1).1) (h_after : ∀ v0 v1, P v1 → P (after v0 v1)) :
    P (perform s path rule r crypt text f after) := by
  unfold perform
  refine keep_ite ?_ ?_
  · exact keep_answer hk.le (keep_roleTooLow hk.le h_s)
  · split
    · rename_i y2 y3 y4 q0
      have z1 : P y2 := keep_fst (h_f _ _ h_s) q0
      exact keep_ite (h_after _ _ ((keep_answer hk.le z1))) ((keep_answer hk.le z1))

theorem keep_request {s} {path} {rule} {r} {f} {after} (hk : Kept ⟨0x3906000000000000000000000000000000000000000000000000000070000000000040000000000000000000000000000000000000000000000000000000000000000004007c007180000000000000000000000000000000000000000000000000000000000000000000000000000000000000000000000000000000000000000700022b80000, 0x0, 0x788⟩ P) (h_s : P s) (h_f : ∀ v0 v1, P v0 → P (f v0 v1).1) (h_after : ∀ v0 v1, P v1 → P (after v0 v1)) :
    P (request s path rule r f after) := by
  unfold request
  extract_lets -merge -underBinder +onlyGivenNames y0
  clear_value y0
  refine keep_ite ?_ ?_
  · exact h_s
  · refine keep_ite ?_ ?_
    · exact keep_State_count hk.le h_s
    · refine keep_ite ?_ ?_
      · exact h_s
      · extract_lets -merge -underBinder +onlyGivenNames y1
        have z2 : P y1 := keep_State_put hk.le (keep_served hk.le h_s)
        clear_value y1
        extract_lets -merge -underBinder +onlyGivenNames y3
        have z4 : ∀ x5 x6, P x5 → P (y3 x5 x6) := by
          intro x5 x6 z7
          exact keep_answer hk.le z7
        clear_value y3
        refine keep_ite ?_ ?_
        · exact z4 _ _ z2
        · refine keep_ite ?_ ?_
          · exact z4 _ _ (keep_refuse hk.le z2)
          · refine keep_ite ?_ ?_
            · refine keep_ite ?_ ?_
              · exact keep_ite (z4 _ _ z2) (z4 _ _ (keep_refuse hk.le z2))
              · refine keep_ite ?_ ?_
                · exact z4 _ _ z2
                · extract_lets -merge -underBinder +onlyGivenNames y8
                  clear_value y8
                  split
                  · rename_i y11 q9
                    have z10 : P y11 := keep_fst (keep_openRequest hk.le z2) q9
                    exact z10
                  · rename_i y14 y15 q12
                    have z13 : P y14 := keep_fst (keep_openRequest hk.le z2) q12
                    exact keep_perform hk.le z13 (fun x16 x17 z18 => h_f _ _ z18) (fun x19 x20 z21 => h_after _ _ z21)
            · exact keep_ite (z4 _ _ z2) (keep_perform hk.le z2 (fun x22 x23 z24 => h_f _ _ z24) (fun x25 x26 z27 => h_after _ _ z27))

theorem keep_refused {s} {code} {cmd} (hk : Kept ⟨0x70000000000000000000000000000000000000000000000000000000000000000000000000000004006c000000000000000000000000000000000000000000000000000000000000000000000000000000000000000000000000000000000000000000000300022b00000, 0x0, 0x208⟩ P) (h_s : P s) :
    P (refused s code cmd).1 := by
  unfold refused
  exact keep_mk (keep_refuse hk.le h_s)

theorem keep_badField {s} (hk : Kept ⟨0x0, 0x0, 0x0⟩ P) (h_s : P s) :
    P (badField s).1 := by
  unfold badField
  exact keep_mk h_s

theorem keep_draw {s} {n} (hk : Kept ⟨0x40000000000000000000000000000000000000000000000000000000000000000000000000000000000000000000000000000000000000000000000000000000000000000000000000000000000000000000000000000000000000000000000000000000000000000000000000000000000000000000000000000000000000000000000000000, 0x0, 0x0⟩ P) (h_s : P s) :
    P (draw s n).1 := by
  unfold draw
  exact keep_mk (keep_State_put hk.le h_s)

theorem keep_signed {s} {text} (hk : Kept ⟨0x40000000000000000000000000000000000000000000000000000000000000000000000000000000000000000000000000000000000000000000000000000000000000000000000000000000000000000000000000000000000000000000000000000000000000000000000000000000000000000000000000000000000000000000000000000, 0x0, 0x0⟩ P) (h_s : P s) :
    P (signed s text).1 := by
  unfold signed
  exact keep_mk (keep_State_put hk.le h_s)

theorem keep_hello (hk : Kept ⟨0x4000000000000000000000000000000000000000000000000000000070000000000000000000000000000000000000000000000000000000000000000000000000000004006c000000000000000000000000000000000000000000000000000000000000000000000000000000000000000000000000000000000000000000000300022b00000, 0x0, 0x608⟩ P) {s path t} (h_s : P s) : P (hello s path t).1 := by
  unfold hello
  refine keep_ite1 (keep_badField hk.le h_s) (keep_ite1 (keep_refused hk.le h_s) ?_)
  exact keep_mk (hk.sec (keep_signed hk.le (text := []) (keep_draw hk.le (n := 32) (keep_draw hk.le (n := 16) h_s))))

theorem keep_dropChallenge (hk : Kept ⟨0x0, 0x0, 0x400⟩ P) {s} (h_s : P s) : P (dropChallenge s) :=
  hk.sec h_s

theorem keep_prove (hk : Kept ⟨0x3f80000000000000000000000000000000000000000000000000000070000000000000000000000000000000000000000000000000000000000000000000000000000004006c007000000000000000000000000000000000000000000000000000000000000000000000000000000000000000000000000000000000000000000300022b00000, 0x0, 0x608⟩ P) {s path text} (h_s : P s) : P (prove s path text).1 := by
  unfold prove
  refine keep_ite1 (keep_badField hk.le h_s) ?_
  split
  · exact keep_refused hk.le h_s
  · refine keep_ite1 (keep_refused hk.le (keep_dropChallenge hk.le h_s)) ?_
    exact keep_mk (keep_State_record hk.le (keep_State_post hk.le (hk.sec (keep_State_put hk.le (keep_State_put hk.le
      (keep_State_put hk.le (keep_State_put hk.le (keep_State_put hk.le (keep_State_put hk.le (keep_State_put hk.le (keep_State_put hk.le
      (keep_State_put hk.le (keep_State_put hk.le (keep_State_freed hk.le (keep_dropChallenge hk.le h_s)))))))))))))))

theorem keep_idleExpiry {s} (hk : Kept ⟨0x700000000000000000000000000000000000000000000000000000000000000000000000000000040070007000000000000000000000000000000000000000000000000000000000000000000000000000000000000000000000000000000000000000000300022b00000, 0x0, 0x608⟩ P) (h_s : P s) :
    P (idleExpiry s) := by
  unfold idleExpiry
  exact keep_ite (keep_endSession hk.le h_s) h_s

theorem keep_proveTimeout {s} (hk : Kept ⟨0x0, 0x0, 0x400⟩ P) (h_s : P s) :
    P (proveTimeout s) := by
  unfold proveTimeout
  split
  · exact keep_ite (keep_dropChallenge hk.le h_s) h_s
  · exact h_s

theorem keep_serviceHours {s} (hk : Kept ⟨0x400000000000000000000000000000000000000000000000000000000700000000000000000000000000000000000000000000000000000000000000000000000000000040070207000000000000000000000000000000000000000000000000000000000000000000000000000000000000000000000000000000000000000000300022b00000, 0x0, 0x608⟩ P) (h_s : P s) :
    P (serviceHours s) := by
  unfold serviceHours
  exact keep_ite h_s (keep_ite (keep_endSession hk.le ((keep_State_put hk.le (keep_State_count hk.le h_s)))) ((keep_State_put hk.le (keep_State_count hk.le h_s))))

theorem keep_claimTake (hk : Kept ⟨0x300000000000000000000000000000000000000000000000000000700000000000000000000000000000000000000000000000000000000000000000000000000000040072107800000000000000000000000000000000000000000000000000000000000000000000000000000000000000000000000000000000000000000300022b00000, 0x0, 0x608⟩ P) {s m} (h_s : P s) : P (claimTake s m) := by
  unfold claimTake
  have hd := keep_dropChallenge hk.le (hk.sec (x := { (endSession s endClaim).sec with
    ownerHash := sha256 (slice m 8 64), revoked := [] }) (keep_State_put hk.le (r := .REVOKE_BELOW) (i := 0) (v := 0)
    (keep_State_put hk.le (r := .REV_SEQ) (i := 0) (v := 0) (keep_State_put hk.le (r := .CLAIM_CNT) (i := 0) (v := fieldAt m 2 2)
    (keep_State_put hk.le (r := .CLAIMED) (i := 0) (v := 1) (keep_endSession hk.le (cause := endClaim) h_s))))))
  exact keep_refreshValid hk.le (keep_State_record hk.le (keep_ite (keep_State_put hk.le hd) hd))

theorem keep_claim {s} {path} {m} (hk : Kept ⟨0x30000000000000000000000000000000000000000000000000000070000000000000000000000000000000000000000000000000000000000000000000000000000004007e107800000000000000000000000000000000000000000000000000000000000000000000000000000000000000000000000000000000000000000300022b00000, 0x0, 0x608⟩ P) (h_s : P s) :
    P (claim s path m).1 := by
  unfold claim
  exact keep_ite1 (keep_badField hk.le h_s) (keep_ite1 (keep_refused hk.le h_s) (keep_mk (keep_claimTake hk.le h_s)))

theorem keep_revoke (hk : Kept ⟨0x30000000000000000000000000000000000000000000000000000070000000000000000000000000000000000000000000000000000000000000000000000000000004007c007000000000000000000000000000000000000000000000000000000000000000000000000000000000000000000000000000000000000000000300022b00000, 0x0, 0x608⟩ P) {s m} (h_s : P s) : P (revoke s m).1 := by
  unfold revoke
  extract_lets -merge -underBinder +onlyGivenNames n
  refine keep_ite1 (keep_badField hk.le h_s) (keep_ite1 (keep_refused hk.le h_s) ?_)
  extract_lets -merge -underBinder +onlyGivenNames ids a sec b c d
  have hc : P c := keep_State_record hk.le (hk.sec (keep_State_put hk.le (keep_State_put hk.le h_s)))
  have hd : P d := by
    unfold d
    clear_value c
    split
    · exact keep_ite (keep_dropChallenge hk.le hc) hc
    · exact hc
  exact keep_mk (keep_ite (keep_endSession hk.le hd) hd)

theorem keep_identity {s} {text} (hk : Kept ⟨0x0, 0x0, 0x0⟩ P) (h_s : P s) :
    P (identity s text).1 := by
  unfold identity
  exact keep_ite1 (keep_badField hk.le h_s) (keep_mk h_s)

theorem keep_setUpload (hk : Kept ⟨0x0, 0x0, 0x400⟩ P) {s u} (h_s : P s) : P (setUpload s u) :=
  hk.sec h_s

theorem keep_uploadData {s} {patch} {cmd} {text} (hk : Kept ⟨0x70000000000000000000000000000000000000000000000000000000000000000000000000000004006c000000000000000000000000000000000000000000000000000000000000000000000000000000000000000000000000000000000000000000000300022b00000, 0x0, 0x608⟩ P) (h_s : P s) :
    P (uploadData s patch cmd text).1 := by
  unfold uploadData
  extract_lets -merge -underBinder +onlyGivenNames y0 y1
  clear_value y0 y1
  split
  · exact keep_badField hk.le h_s
  · exact keep_ite1 (keep_badField hk.le h_s) (keep_ite1 (keep_refused hk.le h_s) (keep_mk (keep_setUpload hk.le h_s)))

theorem keep_profBegin {s} {text} (hk : Kept ⟨0x70000000000000000000000000000000000000000000000000000000000000000000000000000004006c000000000000000000000000000000000000000000000000000000000000000000000000000000000000000000000000000000000000000000000300022b00000, 0x0, 0x608⟩ P) (h_s : P s) :
    P (profBegin s text).1 := by
  unfold profBegin
  exact keep_ite1 (keep_badField hk.le h_s) (keep_ite1 (keep_refused hk.le h_s) (keep_mk (keep_setUpload hk.le h_s)))

theorem keep_profEnd {s} {text} (hk : Kept ⟨0x70000000000000000000000000000000000000000000000000000000000000000000000000000004006c100000000000000000000000000000000000000000000000000000000000000000000000000000000000000000000000000000000000000000000300022b00000, 0x0, 0x608⟩ P) (h_s : P s) :
    P (profEnd s text).1 := by
  unfold profEnd
  refine keep_ite1 ?_ ?_
  · exact keep_badField hk.le h_s
  · split
    · exact keep_badField hk.le h_s
    · extract_lets -merge -underBinder +onlyGivenNames y0
      have z1 : P y0 := keep_setUpload hk.le h_s
      clear_value y0
      split
      · exact keep_mk (keep_refuse hk.le z1)
      · exact keep_mk (keep_refreshValid hk.le (keep_State_record hk.le ((keep_setProfile hk.le z1))))

theorem keep_patchBegin {s} {text} (hk : Kept ⟨0x10000000000000000000000000000000000000000000000000000000070000000000000000000000000000000000000000000000000000000000000000000000000000004006d400000000000000000000000000000000000000000000000000000000000000000000000000000000000000000000000000000000000000000000300022b00000, 0x0, 0x608⟩ P) (h_s : P s) :
    P (patchBegin s text).1 := by
  unfold patchBegin
  exact keep_ite1 (keep_badField hk.le h_s) (keep_ite1 (keep_refused hk.le h_s) (keep_mk (keep_patchStatus hk.le (keep_patchErase hk.le (keep_setUpload hk.le h_s)))))

theorem keep_patchEnd (hk : Kept ⟨0x10000000000000000000000000000000000000000000000000000000070000000000000000000000000000000000000000000000000000000000000000000000000000004006d400000000000000000000000000000000000000000000000000000000000000000000000000000000000000000000000000000000000000000000300022b00000, 0x0, 0x608⟩ P) {s text} (h_s : P s) : P (patchEnd s text).1 := by
  unfold patchEnd
  refine keep_ite1 (keep_badField hk.le h_s) ?_
  split
  · exact keep_badField hk.le h_s
  · refine keep_ite1 (keep_refused hk.le (keep_patchStatus hk.le (keep_patchErase hk.le (keep_setUpload hk.le h_s)))) ?_
    exact keep_mk (keep_patchStatus hk.le (keep_State_record hk.le (hk.sec (keep_State_setBit hk.le (keep_setUpload hk.le h_s)))))

theorem keep_patchActivate {s} {text} (hk : Kept ⟨0x8000000000000000000000000000000000000000000000000000000070000000000000000000000000000000000000000000000000000000000000000000000000000004006c800000000000400000000000000000000000000000000000000000000000000000000000000000000000000000000000000000000000000000000300022b00000, 0x0, 0x208⟩ P) (h_s : P s) :
    P (patchActivate s text).1 := by
  unfold patchActivate
  exact keep_ite1 (keep_badField hk.le h_s) (keep_ite1 (keep_refused hk.le h_s) (keep_mk (keep_State_post hk.le ((keep_State_record hk.le ((keep_State_put hk.le ((keep_State_put hk.le (keep_State_put hk.le h_s))))))))))

theorem keep_auditRead {s} {text} (hk : Kept ⟨0x0, 0x0, 0x0⟩ P) (h_s : P s) :
    P (auditRead s text).1 := by
  unfold auditRead
  exact keep_ite1 (keep_badField hk.le h_s) (keep_mk h_s)

theorem keep_auditSeal {s} {text} (hk : Kept ⟨0x40000000000000000000000000000000000000000000000000000000000000000000000000000000000000000000000000000000000000000000000000000000000000000000000000000000000000000000000000000000000000000000000000000000000000000000000000000000000000000000000000000000000000000000000000000, 0x0, 0x0⟩ P) (h_s : P s) :
    P (auditSeal s text).1 := by
  unfold auditSeal
  refine keep_ite1 ?_ ?_
  · exact keep_badField hk.le h_s
  · extract_lets -merge -underBinder +onlyGivenNames y0
    clear_value y0
    split
    · rename_i y3 y4 q1
      have z2 : P y3 := keep_fst (keep_signed hk.le h_s) q1
      exact keep_mk z2

theorem keep_identify {s} {text} (hk : Kept ⟨0x0, 0x0, 0x0⟩ P) (h_s : P s) :
    P (identify s text).1 := by
  unfold identify
  exact keep_ite1 (keep_badField hk.le h_s) (keep_mk h_s)

theorem keep_objFailed {s} {a} (hk : Kept ⟨0x0, 0x0, 0x0⟩ P) (h_s : P s) :
    P (objFailed s a).1 := by
  unfold objFailed
  exact keep_mk h_s

theorem keep_readObject {s} {text} (hk : Kept ⟨0x400000000004b8000000000000000000000000000000000000000000000000dc00000000000000000000000000000000000000000000000000000000000000000000c0000000180000000000000000000000000000000000000000000000000000000000000000000000000000000000000000000000000000000000000000700022b87000, 0x0, 0x18a⟩ P) (h_s : P s) :
    P (readObject s text).1 := by
  unfold readObject
  refine keep_ite1 ?_ ?_
  · exact keep_badField hk.le h_s
  · split
    · rename_i y2 y3 y4 q0
      have z1 : P y2 := keep_fst (keep_objReadAny hk.le h_s) q0
      exact keep_ite1 (keep_mk z1) (keep_objFailed hk.le z1)

theorem keep_writeSealed {s} {idx} {sub} {bytes} (hk : Kept ⟨0x70000000000000000000000000000000000000000000000000000000000000000000000000000004007c000000000000000000000000000000000000000000000000000000000000000000000000000000000000000000000000000000000000000000000300022b00000, 0x0, 0x608⟩ P) (h_s : P s) :
    P (writeSealed s idx sub bytes).1 := by
  unfold writeSealed
  refine keep_ite1 ?_ ?_
  · exact keep_mk (keep_refuse hk.le h_s)
  · split
    · rename_i y2 y3 y4 q0
      have z1 : P y2 := keep_fst (keep_stage hk.le h_s) q0
      exact keep_ite1 (keep_objFailed hk.le z1) (keep_mk z1)

theorem keep_writeObject {s} {path} {text} (hk : Kept ⟨rall, 0x1802000000000000000000000000000000000000100000000000000000000000000000003000000000001e000601f5000000000000000000000000070000, 0x7dc⟩ P) (h_s : P s) :
    P (writeObject s path text).1 := by
  unfold writeObject
  extract_lets -merge -underBinder +onlyGivenNames y0 y1 y2
  clear_value y0 y1 y2
  refine keep_ite1 ?_ ?_
  · exact keep_badField hk.le h_s
  · refine keep_ite1 ?_ ?_
    · exact keep_writeSealed hk.le h_s
    · refine keep_ite1 ?_ ?_
      · exact keep_mk (keep_refuse hk.le h_s)
      · refine keep_ite1 ?_ ?_
        · exact keep_mk (keep_roleTooLow hk.le h_s)
        · split
          · rename_i y5 y6 q3
            have z4 : P y5 := keep_fst (keep_objWriteAny hk.le h_s) q3
            exact keep_ite1 (keep_mk z4) (keep_objFailed hk.le z4)

theorem keep_regFailed {s} {err} (hk : Kept ⟨0x0, 0x0, 0x0⟩ P) (h_s : P s) :
    P (regFailed s err).1 := by
  unfold regFailed
  exact keep_mk h_s

theorem keep_readRegs (hk : Kept ⟨0x40000000000000000000000000000000000000000000000000000000000000000000000000000000000000000000000000000000000000000000000000000000000040000000180000000000000000000000000000000000000000000000000000000000000000000000000000000000000000000000000000000000000000700022b80000, 0x0, 0x18a⟩ P) {s text} (h_s : P s) : P (readRegs s text).1 := by
  unfold readRegs
  refine keep_ite1 (keep_badField hk.le h_s) (keep_ite1 (keep_regFailed hk.le h_s) ?_)
  have h1 : P _ := hk.takeReads s _ h_s (keep_readBlock hk.le (path := 1) (a := fieldAt text 0 4) (n := fieldAt text 4 2) (acc := [])
    (hk.noReads s h_s))
  exact keep_ite1 h1 (keep_regFailed hk.le h1)

theorem keep_writeRegs (hk : Kept ⟨rall, 0x1802000000000000000000000000000000000000100000000000000000000000000000000000000000001e00060000000000000000000000000000070000, 0x3dc⟩ P) {s text} (h_s : P s) : P (writeRegs s text).1 := by
  unfold writeRegs
  refine keep_ite1 (keep_badField hk.le h_s) (keep_ite1 (keep_regFailed hk.le h_s) ?_)
  have h1 : P _ := hk.takeWrites s _ h_s (keep_writeBlock hk.le (path := 1) (a := fieldAt text 0 4) (l := wordsOfBytes (text.drop 4))
    (hk.wholes s h_s))
  exact keep_ite1 h1 (keep_regFailed hk.le h1)

theorem keep_peekEvents {s} {text} (hk : Kept ⟨0x0, 0x0, 0x0⟩ P) (h_s : P s) :
    P (peekEvents s text).1 := by
  unfold peekEvents
  exact keep_ite1 (keep_badField hk.le h_s) (keep_ite1 (keep_mk h_s) (keep_mk h_s))

theorem keep_healthReport {s} {text} (hk : Kept ⟨0x0, 0x0, 0x0⟩ P) (h_s : P s) :
    P (healthReport s text).1 := by
  unfold healthReport
  exact keep_ite1 (keep_badField hk.le h_s) (keep_mk h_s)

theorem keep_closeSession {s} {text} (hk : Kept ⟨0x700000000000000000000000000000000000000000000000000000000000000000000000000000040070007000000000000000000000000000000000000000000000000000000000000000000000000000000000000000000000000000000000000000000300022b00000, 0x0, 0x608⟩ P) (h_s : P s) :
    P (closeSession s text).1 := by
  unfold closeSession
  exact keep_ite1 (keep_badField hk.le h_s) (keep_mk (keep_endSession hk.le h_s))

theorem keep_commitSession {s} {text} (hk : Kept ⟨rall, 0x100000000000000000000000000000000000000000001e00060000000000000000000000000000000000, 0x718⟩ P) (h_s : P s) :
    P (commitSession s text).1 := by
  unfold commitSession
  exact keep_ite1 (keep_badField hk.le h_s) (keep_commit hk.le h_s)

theorem keep_discardSession {s} {text} (hk : Kept ⟨0x10000000000000000000000000000000000000000000000000000000000000000000000000000000000000000000000000000000000000000000000000000000000, 0x0, 0x400⟩ P) (h_s : P s) :
    P (discardSession s text).1 := by
  unfold discardSession
  exact keep_ite1 (keep_badField hk.le h_s) (keep_mk (keep_dropStaged hk.le h_s))

theorem keep_resumeCold {s} {i} (hk : Kept ⟨0x300020000000000400000000000000000000000000000000000000000000000000000000000000000000000000000000000000000000000000000000000000000000000000000000000000000000000, 0x0, 0x10⟩ P) (h_s : P s) :
    P (resumeCold s i) := by
  unfold resumeCold
  exact keep_ite (keep_followReference hk.le h_s) (keep_ite h_s (keep_ite (keep_State_put hk.le (keep_State_setMo hk.le h_s)) (keep_ite (keep_State_put hk.le (keep_State_setMo hk.le h_s)) h_s)))

theorem keep_resumeSource {s} {i} (hk : Kept ⟨0x4000000000000000000000000800000000000000000400000000000000300020000000000400f6c0000400000000000000000008000000000000000000000000000000000000000000000000000000000000000000400000000000080000000004031b0000200300022b80000, 0x0, 0x18⟩ P) (h_s : P s) :
    P (resumeSource s i) := by
  unfold resumeSource
  exact keep_ite h_s (keep_ite (keep_resumeCold hk.le ((keep_syncCommand hk.le (keep_State_put hk.le (keep_State_put hk.le h_s))))) (keep_enterMode hk.le ((keep_syncCommand hk.le (keep_State_put hk.le (keep_State_put hk.le h_s))))))

theorem keep_cycleMotion {s} {i} {te} (hk : Kept ⟨0x800000004c060000360000000000000e008000000003008004156000000010062843ddf2000001efe7ffff7d600040000000000000004000880000000000000000000000000002800010000000000000000000000000000000c40000000000088002e01081d833fbf00f00b00022b80000, 0x187bf00000000000000000000000000000000000000000000000000000000000000000010003fc0000000000000000000000fffffffffffffffffffffffffffffffc03ffffffe00000000000ff8, 0x118⟩ P) (h_s : P s) :
    P (cycleMotion s i te) := by
  unfold cycleMotion
  exact keep_ite (keep_developMotion hk.le h_s) (keep_afterStop hk.le (keep_homingStill hk.le ((keep_ite (keep_State_developList hk.le ((keep_motionUpdate hk.le (keep_resumeSource hk.le h_s)))) ((keep_motionUpdate hk.le (keep_resumeSource hk.le h_s)))))))

theorem keep_cycleAmplitude {s} {i} {te} (hk : Kept ⟨0x7a00000000000000000000000000000000000000000000000000000000000000000000000000000000000000000000000000000000000000000000000001c000000000000000000000000000000000000000000, 0x0, 0x0⟩ P) (h_s : P s) :
    P (cycleAmplitude s i te).1 := by
  unfold cycleAmplitude
  exact keep_ite1 (keep_mk ((keep_speedLoop hk.le (keep_updateHold hk.le h_s)))) (keep_mk ((keep_updateAmp hk.le ((keep_updateAdapt hk.le (keep_updateHold hk.le h_s))))))

theorem keep_comparePost {s} {i} {te} {accept} (hk : Kept ⟨0x4e00000200000000070000000000000000000000000000000000000000000000040000000000000000000000000000000000000000000000000000000000000000000000000000000000000000000000000000000000000000000000000300022b00f18, 0x0, 0x8⟩ P) (h_s : P s) :
    P (comparePost s i te accept) := by
  unfold comparePost
  exact keep_ite (keep_deadlineMiss hk.le ((keep_takeSlack hk.le h_s))) (keep_State_put hk.le (keep_State_put hk.le ((keep_foldl (fun x0 x1 z2 => keep_State_put hk.le (keep_State_put hk.le (keep_State_puti hk.le z2))) ((keep_takeSlack hk.le h_s))))))

theorem keep_cycleBegin {s} {i} (hk : Kept ⟨0x2000000000000000000010000000000000000000000000800020002c060000360000000002000e07ae800000e300f004156008200010062843ffff100003bfbdf02fede000400000000000000040008a00000000000000000000000080028000162000000088d800c280c00000140000c4405800000e08800af0001e4831b0000b00b00022b80000, 0x100000000000000000000000000000000000000000001e0e0601f50fe000000000000000000000000000, 0x118⟩ P) (h_s : P s) :
    P (cycleBegin s i) := by
  unfold cycleBegin
  exact keep_takeMode hk.le (keep_developWindow hk.le (keep_developThermalLimit hk.le ((keep_restDevelop hk.le (keep_switchDevelop hk.le (keep_followingError hk.le (keep_applyRing hk.le h_s)))))))

theorem keep_cycleRegulate {s} {i} {te} {stood} (hk : Kept ⟨0x3ffcd59fffff07a7fff800000000000000000000000000400000000000000000000000000000000000000000000000000000000000000000000000000000007fc800f7883f800000000000800000000000000000300022b00000, 0x0, 0x8⟩ P) (h_s : P s) :
    P (cycleRegulate s i te stood) := by
  unfold cycleRegulate
  split
  · rename_i y2 y3 y4 q0
    have z1 : P y2 := keep_fst (keep_cycleAmplitude hk.le (keep_takeSamples hk.le (keep_probeMoved hk.le h_s))) q0
    exact keep_observe hk.le ((keep_State_put hk.le ((keep_ite (keep_regulateSlot hk.le ((keep_probeAdd hk.le z1))) (keep_restRegulator hk.le ((keep_probeAdd hk.le z1)))))))

theorem keep_sampleTol {s} {i} {te} (hk : Kept ⟨0x2000000010180040c000040000000000000000000000000000000000000000000000000000000000000000000000000000000000000000000000000008000000000c80100800200300022b80000, 0x300000000000000000000000000, 0x18⟩ P) (h_s : P s) :
    P (sampleTol s i te) := by
  unfold sampleTol
  exact keep_ite h_s (keep_judgeTol hk.le (keep_latchTol hk.le h_s))

theorem keep_cycleRun {s} {i} {accept} {differs} (hk : Kept ⟨rall, 0x187bf00000000000000000000000000180200000000000000000000000000000000000010003fc0000000000000000000000fffffffffffffffffffffffffffffffc03ffffffe00000000070ff8, 0x7dc⟩ P) (h_s : P s) :
    P (cycleRun s i accept differs) := by
  unfold cycleRun
  extract_lets -merge -underBinder +onlyGivenNames y0
  clear_value y0
  extract_lets -merge -underBinder +onlyGivenNames y1
  have z2 : P y1 := keep_cycleBegin hk.le h_s
  clear_value y1
  extract_lets -merge -underBinder +onlyGivenNames y3
  clear_value y3
  extract_lets -merge -underBinder +onlyGivenNames y4
  have z5 : P y4 := keep_sampleTol hk.le (keep_cycleRegulate hk.le (keep_cycleMotion hk.le z2))
  clear_value y4
  extract_lets -merge -underBinder +onlyGivenNames y6
  have z7 : P y6 := keep_ite z5 (keep_State_put hk.le (keep_leaveSegmentMode hk.le z5))
  clear_value y6
  exact keep_switchSlotDue hk.le (keep_stripCycle hk.le ((keep_ite (keep_comparePost hk.le ((keep_judgeBathStill hk.le z7))) (keep_ite (keep_State_put hk.le ((keep_judgeBathStill hk.le z7))) ((keep_judgeBathStill hk.le z7))))))

theorem keep_windowLate {s} {i} (hk : Kept ⟨0x10000000000000000000000000000000000000000000000000000000000000000000000000000000000000000000000000000000000000000001000000000000000000000000000000000000000000000, 0x0, 0x0⟩ P) (h_s : P s) :
    P (windowLate s i) := by
  unfold windowLate
  exact keep_foldl (fun x0 x1 z2 => keep_State_put hk.le z2) (keep_State_count hk.le h_s)

theorem keep_engineCycle {s} {i} {accept} {late} {differs} {epoch} (hk : Kept ⟨rall, 0x187bf00000000000000000000000000180200000000000000000000000000000000000010003fc0000000000000000000000fffffffffffffffffffffffffffffffc03ffffffe00000000070ff8, 0x17dd⟩ P) (h_s : P s) :
    P (engineCycle s i accept late differs epoch) := by
  unfold engineCycle
  exact keep_ite h_s (keep_ite (keep_State_count hk.le ((keep_State_atTick hk.le h_s))) (keep_State_put hk.le (keep_cycleRun hk.le (keep_ite (keep_windowLate hk.le ((keep_State_atTick hk.le h_s))) ((keep_State_atTick hk.le h_s))))))

theorem keep_senseLost {s} {i} (hk : Kept ⟨0x8000000008060000360000000000000e00880000000300800415600000001006284081020000002f05c02c6c600040000000000000004000080000000000000000000000000002800010000000000000000000000000580000c40210000000088000e00000483100000b00b00022b80000, 0x100000000000000000000000000000000000000000001e00060000000000000000000000000000000000, 0x118⟩ P) (h_s : P s) :
    P (senseLost s i) := by
  unfold senseLost
  split
  · exact h_s
  · exact keep_ite h_s (keep_plannedFault hk.le (keep_vwInvalid hk.le ((keep_State_post hk.le (keep_State_setBit hk.le (keep_State_put hk.le h_s))))))

theorem keep_ffStale {s} {i} (hk : Kept ⟨0x100000000000000000000000000000000040000000000000000000000000000000000000000000000000000000000000000000000000000000000000000010000000000000000000000000000000300022b00000, 0x0, 0x8⟩ P) (h_s : P s) :
    P (ffStale s i) := by
  unfold ffStale
  exact keep_ite h_s (keep_State_post hk.le (keep_State_put hk.le (keep_State_setBit hk.le h_s)))

theorem keep_dutyExit {s} {i} (hk : Kept ⟨0x300000000000000000000000000000040000000000000000000000000000000000000000000000000000000000000000000000000000000000000000010000000000000000000000000000000300022b00000, 0x0, 0x8⟩ P) (h_s : P s) :
    P (dutyExit s i) := by
  unfold dutyExit
  exact keep_ite (keep_State_post hk.le (keep_State_put hk.le (keep_State_put hk.le (keep_State_setBit hk.le h_s)))) h_s

theorem keep_reduceStill {s} {i} (hk : Kept ⟨0x4000000000000000000000000000000000000000000000000000000000000000000000000000000000000000000000000000000000000000000000000010000000000000000000000000000000000000000000, 0x0, 0x0⟩ P) (h_s : P s) :
    P (reduceStill s i) := by
  unfold reduceStill
  exact keep_ite (keep_State_put hk.le (keep_State_setBit hk.le h_s)) h_s

theorem keep_windingOpen {s} {i} (hk : Kept ⟨0x8000000008060000360000000000000e008e0000000300c00415600000001026284081020000002f05c02c6c60004000000000000000400008000000000000000000000000000280003e000000008000000000000000000000c40100000000088000e00000483100000b00b00022b80000, 0x100000000000000000000000000000000000000000001e00060000000000000000000000000000000000, 0x118⟩ P) (h_s : P s) :
    P (windingOpen s i) := by
  unfold windingOpen
  split
  · exact h_s
  · exact keep_bathFault hk.le (keep_State_post hk.le (keep_State_put hk.le ((keep_foldl (fun x0 x1 z2 => keep_State_put hk.le z2) h_s))))

theorem keep_sumError {s} {i} (hk : Kept ⟨0x8000000008060000360000000000000e00880000000300800415600000001046284081020000002f05c02c6c600040000000000000004000080000000000000000000000000002800010000000000000000000000000000000c40080000000088000e00000483100000b00b00022b80000, 0x100000000000000000000000000000000000000000001e00060000000000000000000000000000000000, 0x118⟩ P) (h_s : P s) :
    P (sumError s i) := by
  unfold sumError
  split
  · exact h_s
  · exact keep_plannedFault hk.le (keep_State_post hk.le (keep_State_put hk.le ((keep_foldl (fun x0 x1 z2 => keep_State_put hk.le z2) h_s))))

theorem keep_dcProbe {s} {i} (hk : Kept ⟨0xe002b000000000000000000000000000000000000000000000000000000000000000000000000000000000000000000000000000000000000000000000000000000040000000000000000000000000000000000000000000000, 0x3000000000000000000000000000000000000000000000000000, 0x0⟩ P) (h_s : P s) :
    P (dcProbe s i) := by
  unfold dcProbe
  exact keep_ite (keep_probeBegin hk.le h_s) h_s

theorem keep_daxisProbe {s} {i} (hk : Kept ⟨0xe002b000000000000000000000000000000000000000000000000000000000000000000000000000000000000000000000000000000000000000000000000000000040000000000000000000000000000000000000000000000, 0x3000000000000000000000000000000000000000000000000000, 0x0⟩ P) (h_s : P s) :
    P (daxisProbe s i) := by
  unfold daxisProbe
  exact keep_ite (keep_probeBegin hk.le h_s) h_s

theorem keep_probeDone {s} {i} (hk : Kept ⟨0x7000000000000000000000000000000003104150f4800000000000000000000000000000000000040060000000000000000000000000000000000000000000000000000000000000000000000000000d84000a40000000000000000000000000000000000300022b00000, 0x800000000000000000000000000000000000000000000000000000, 0x208⟩ P) (h_s : P s) :
    P (probeDone s i) := by
  unfold probeDone
  refine keep_ite ?_ ?_
  · exact h_s
  · split
    · rename_i y2 q0
      have z1 : P y2 := keep_fst (keep_probeFinish hk.le h_s) q0
      exact z1
    · rename_i y5 y6 q3
      have z4 : P y5 := keep_fst (keep_probeFinish hk.le h_s) q3
      exact keep_State_record hk.le z4

theorem keep_vwStale {s} {i} (hk : Kept ⟨0x100000000000000000000000000000000000000000000000000000, 0x0, 0x0⟩ P) (h_s : P s) :
    P (vwStale s i) := by
  unfold vwStale
  exact keep_ite (keep_State_put hk.le h_s) h_s

theorem keep_takeHeartbeat {s} {b} {count} (hk : Kept ⟨0x70000000000000000000000000000000000000000000000000000000000000000000000000000000000000000000000000000000000000000000000000000000000000000000000000000000000000000000000000000000000000000000, 0x0, 0x0⟩ P) (h_s : P s) :
    P (takeHeartbeat s b count) := by
  unfold takeHeartbeat
  exact keep_ite (keep_State_put hk.le ((keep_State_put hk.le h_s))) (keep_ite (keep_State_put hk.le ((keep_State_put hk.le ((keep_State_put hk.le h_s))))) ((keep_State_put hk.le ((keep_State_put hk.le h_s)))))

theorem keep_heartbeat {s} {b} (hk : Kept ⟨0x78000000000000000000000000000000000000000000000000000000000000000000000000000000000000000000000000000000000000000000000000000000000000000000000000000000000000000000000000000000000000000000, 0x0, 0x0⟩ P) (h_s : P s) :
    P (heartbeat s b) := by
  unfold heartbeat
  exact keep_takeHeartbeat hk.le ((keep_State_countWrap hk.le h_s))

theorem keep_bankDevelop {s} {b} (hk : Kept ⟨0x400000000000000000000000000000000000000000000000000000000000000000000000000000000000000000000000000000000000000000000000000000000000000000000000000000000000000000000000000000000000000000000, 0x2000000000000000000000000000000000000000000000000000000000000000000000000, 0x0⟩ P) (h_s : P s) :
    P (bankDevelop s b) := by
  unfold bankDevelop
  exact keep_ite (keep_State_put hk.le (keep_State_develop hk.le h_s)) h_s

theorem keep_tickDevelops {s} (hk : Kept ⟨rall, 0x7ffffffffc0000002000000000000000100000000000000000000000000000000000000000000000000000000, 0x8⟩ P) (h_s : P s) :
    P (tickDevelops s) := by
  unfold tickDevelops
  exact keep_foldl (fun x3 x4 z5 => keep_feedbackDevelop hk.le z5) ((keep_foldl (fun x0 x1 z2 => keep_bankDevelop hk.le z2) (keep_groupDevelop hk.le h_s)))

theorem keep_statusTick {s} (hk : Kept ⟨rall, 0x400000000180200000000000000000000000fc0000007ffffffffc0000002000000000000000100000000000000001e000601f5000000000000000000000000070000, 0x17dd⟩ P) (h_s : P s) :
    P (statusTick s) := by
  unfold statusTick
  refine keep_ite ?_ ?_
  · exact h_s
  · extract_lets -merge -underBinder +onlyGivenNames y18
    have z19 : P y18 := keep_State_atTick hk.le h_s
    clear_value y18
    extract_lets -merge -underBinder +onlyGivenNames y29
    have z30 : P y29 := keep_foldl (fun x31 x32 z33 => keep_heartbeat hk.le z33) (keep_State_put hk.le z19)
    clear_value y29
    extract_lets -merge -underBinder +onlyGivenNames y40
    have z41 : P y40 := keep_auxTick hk.le (keep_auxTick hk.le z30)
    clear_value y40
    exact keep_State_refreshCopies hk.le (keep_judgeTpdos hk.le (keep_switchDevice hk.le ((keep_foldl (fun x42 x43 z44 => keep_gather hk.le z44) (keep_foldl (fun x45 x46 z47 => keep_judgeBathStill hk.le z47) ((keep_tickDevelops hk.le (keep_domainTick hk.le (keep_throttleTick hk.le z41)))))))))

theorem keep_startAction {s} {a} (hk : Kept ⟨0x400001800000000000000000000000000000000000000000000000000040000000000000000000000000000000000000000000000000000000000000000000000000000000000000000000000000000000000000000000000000300022b00000, 0x0, 0x8⟩ P) (h_s : P s) :
    P (startAction s a) := by
  unfold startAction
  exact keep_ite (keep_State_put hk.le ((keep_ite (keep_trigoPulse hk.le ((keep_ite (keep_State_postAt hk.le h_s) h_s))) ((keep_ite (keep_State_postAt hk.le h_s) h_s))))) ((keep_ite (keep_State_postAt hk.le h_s) h_s))

theorem keep_startCaptures {before} {due} {t} {s} {c} (hk : Kept ⟨0x100000000000000000000000000000000000000000000000000000000000000000000000000000000000000040000000000000000000000000000000000000000000000002000000000000000000000000000000000000000000000000000000000000000000000000300022b00000, 0x0, 0x8⟩ P) (h_before : P before) (h_s : P s) :
    P (startCaptures before due t s c) := by
  unfold startCaptures
  exact keep_ite (keep_triggerCapture hk.le ((keep_ite (keep_capture hk.le h_s) h_s))) ((keep_ite (keep_capture hk.le h_s) h_s))

theorem keep_startInstant (hk : Kept ⟨0x100000000000000000000000000000400001800000000000000000000000000000000000000000000000000040000000000000000000000000000000000000000000000002000000000000000000000000000000000000000000000000000000000000000000000000300022b00000, 0x0, 0x8⟩ P) {s t} (h_s : P s) : P (startInstant s t) := by
  unfold startInstant
  have h1 : P { s with armed := s.armed.filter fun a => a.instant != t } :=
    hk.same h_s
  exact keep_foldl (fun _ _ h => keep_startCaptures hk.le h1 h) (keep_foldl (fun _ _ h => keep_startAction hk.le h) h1)

theorem keep_startActions {s} (hk : Kept ⟨0x100000000000000000000000000000400001800000000000000000000000000000000000000000000000000040000000000000000000000000000000000000000000000002000000000000000000000000000000000000000000000000000000000000000000000000300022b00000, 0x0, 0x8⟩ P) (h_s : P s) :
    P (startActions s) := by
  unfold startActions
  exact keep_foldl (fun x0 x1 z2 => keep_startInstant hk.le z2) h_s

theorem keep_pulseEnd {s} {k} (hk : Kept ⟨0x1000000000000000000000000000000000000000000000000000000000000000000000000000000000000000000000000000000000000000000000000000000000000000000000000000000000000000000000000000000000000000000, 0x0, 0x0⟩ P) (h_s : P s) :
    P (pulseEnd s k) := by
  unfold pulseEnd
  exact keep_ite (keep_State_put hk.le h_s) h_s

theorem keep_syncTimedOut {s} {i} (hk : Kept ⟨0x2400000040000000000000000000000000000000000000000000000000000000000000000000000000000000000000000000000000000000000000080104000200300022b80000, 0x0, 0x18⟩ P) (h_s : P s) :
    P (syncTimedOut s i) := by
  unfold syncTimedOut
  exact keep_ite (keep_State_post hk.le (keep_State_put hk.le ((keep_State_each hk.le ((keep_State_put hk.le (keep_State_put hk.le (keep_breakStream hk.le h_s)))) (fun x0 x1 z2 => keep_State_setBit hk.le z2))))) h_s

theorem keep_chainLost {s} {i} (hk : Kept ⟨0x2000000010180040c000040000000000000000000000000000000000000000000000000000000000000000000000000000000000000000000000000008000000000c80100000200300022b80000, 0x300000000000000000000000000, 0x18⟩ P) (h_s : P s) :
    P (chainLost s i) := by
  unfold chainLost
  split
  · exact h_s
  · exact keep_ite (keep_State_post hk.le (keep_State_put hk.le ((keep_beginStop hk.le ((keep_State_puti hk.le (keep_State_puti hk.le h_s))))))) h_s

theorem keep_homingChatters {s} {i} (hk : Kept ⟨0x4080000000000e00000000000040000000000000000000000000000000000000000000000000000000000000000000000000000000000000000000000000000000e00000000000000000300022b00000, 0x0, 0x8⟩ P) (h_s : P s) :
    P (homingChatters s i) := by
  unfold homingChatters
  exact keep_ite (keep_homingFail hk.le h_s) h_s

theorem keep_homingTooFar {s} {i} (hk : Kept ⟨0x4080000000000e00000000000040000000000000000000000000000000000000000000000000000000000000000000000000000000000000000000000000000000e00000000000000000300022b00000, 0x0, 0x8⟩ P) (h_s : P s) :
    P (homingTooFar s i) := by
  unfold homingTooFar
  exact keep_ite (keep_homingFail hk.le h_s) h_s

theorem keep_homingLacksIndex {s} {i} (hk : Kept ⟨0x4080000000000e00000000000040000000000000000000000000000000000000000000000000000000000000000000000000000000000000000000000000000000e00000000000000000300022b00000, 0x0, 0x8⟩ P) (h_s : P s) :
    P (homingLacksIndex s i) := by
  unfold homingLacksIndex
  exact keep_ite (keep_homingFail hk.le h_s) h_s

end Sys2Proof.Laws
end

