-- ==== Sys2Proof/Laws/KeepCommands.lean ====
section
/-! SUPPORT. Every definition of the meanings of the commands keeps a property that the primitive updates keep (Kept). -/

set_option Elab.async false

namespace Sys2Proof.Laws

open Machine

variable {P : State → Prop}

theorem keep_viaObject {s} {path} {f} (hk : Kept ⟨0x400000000000000000000000000000000000000000000000000000000000000000080000000000000000000000000000000000000000000000000000000000000000000000000000000000000000000000000000000000000000000000000000000000000, 0x0, 0x0⟩ P) (h_s : P s) (h_f : ∀ v0, P v0 → P (f v0).1) :
    P (viaObject s path f) := by
  unfold viaObject
  refine keep_ite ?_ ?_
  · exact h_s
  · refine keep_ite ?_ ?_
    · exact keep_State_reply hk.le h_s
    · split
      · rename_i y2 y3 q0
        have z1 : P y2 := keep_fst (h_f _ (keep_served hk.le h_s)) q0
        exact keep_State_reply hk.le z1

theorem keep_execPowerOnReset {others} {profsel} {manager} {s} (hk : Kept ⟨rall, rall, 0x1fff⟩ P) (h_s : P s) :
    KeepsOut P (execPowerOnReset others profsel manager s) := by
  unfold execPowerOnReset
  exact keepsOut_next (keep_deviceReset hk.le h_s)

theorem keep_execVcoreBrownOut {others} {profsel} {manager} {s} (hk : Kept ⟨rall, rall, 0x1fff⟩ P) (h_s : P s) :
    KeepsOut P (execVcoreBrownOut others profsel manager s) := by
  unfold execVcoreBrownOut
  exact keepsOut_next (keep_deviceReset hk.le h_s)

theorem keep_execVioBrownOut {others} {profsel} {manager} {s} (hk : Kept ⟨rall, rall, 0x1fff⟩ P) (h_s : P s) :
    KeepsOut P (execVioBrownOut others profsel manager s) := by
  unfold execVioBrownOut
  exact keepsOut_next (keep_deviceReset hk.le h_s)

theorem keep_execResetn {others} {profsel} {manager} {s} (hk : Kept ⟨rall, rall, 0x1fff⟩ P) (h_s : P s) :
    KeepsOut P (execResetn others profsel manager s) := by
  unfold execResetn
  exact keepsOut_next (keep_deviceReset hk.le h_s)

theorem keep_execDevReset {path} {value} {profsel} {manager} {s} (hk : Kept ⟨rall, rall, 0x1fff⟩ P) (h_s : P s) :
    KeepsOut P (execDevReset path value profsel manager s) := by
  unfold execDevReset
  exact keepsOut_next (keep_ite (keep_deviceReset hk.le ((keep_viaObject hk.le h_s (fun x0 z1 => keep_resetJudge hk.le z1)))) ((keep_viaObject hk.le h_s (fun x0 z1 => keep_resetJudge hk.le z1))))

theorem keep_execBootTimebaseLock {tbsync} {s} (hk : Kept ⟨0x800000000000000000000000060000000000000001000000000000400300800000000000000000000000000000000000000000000100280000000000000000000000000000000000000000000000000000000000000000002080000000000000000000000000000000000000000000000000004380000000, 0x0, 0x0⟩ P) (h_s : P s) :
    KeepsOut P (execBootTimebaseLock tbsync s) := by
  unfold execBootTimebaseLock
  exact keepsOut_next (keep_atStage hk.le h_s (fun x0 z1 => keep_bootLock hk.le z1))

theorem keep_execCrystalLossWait {crystal} {tbsync} {s} (hk : Kept ⟨0x200000000000000000000000000000000000000000000000000000000000000000000000000000000000000000000000000000000000000000000000000200000000, 0x0, 0x0⟩ P) (h_s : P s) :
    KeepsOut P (execCrystalLossWait crystal tbsync s) := by
  unfold execCrystalLossWait
  exact keepsOut_next (keep_atStage hk.le h_s (fun x0 z1 => keep_bootNoReference hk.le z1))

theorem keep_execBootRom {t} {s} (hk : Kept ⟨0x400000000000000000000000000000000000000000000000000000000000000000000000000000000000000000000000000000000000000000000000000000000000000000080200000000000000000000000000000000000000000000000000000000000000000000000000000000000000000000000000000000000000000000000000000000, 0x0, 0x1009⟩ P) (h_s : P s) :
    KeepsOut P (execBootRom t s) := by
  unfold execBootRom
  exact keepsOut_next (keep_atStage hk.le (keep_State_atTick hk.le h_s) (fun x0 z1 => keep_bootRom hk.le z1))

theorem keep_execBootPatch {t} {s} (hk : Kept ⟨0x3800000000000000000000000000000000000000000000000000000007000000000000000000000000000000000000000000000000000000000000000000000000000000400ed400000000000000000000000000000000000000000000000000000000000000000000000000000000000000000000000000000000000000000000300022b00000, 0x0, 0x1209⟩ P) (h_s : P s) :
    KeepsOut P (execBootPatch t s) := by
  unfold execBootPatch
  exact keepsOut_next (keep_atStage hk.le (keep_State_atTick hk.le h_s) (fun x0 z1 => keep_bootPatch hk.le z1))

theorem keep_execBootProfile {t} {s} (hk : Kept ⟨rall, rall, 0x17dd⟩ P) (h_s : P s) :
    KeepsOut P (execBootProfile t s) := by
  unfold execBootProfile
  exact keepsOut_next (keep_atStage hk.le (keep_State_atTick hk.le h_s) (fun x0 z1 => keep_bootProfile hk.le z1))

theorem keep_execVanaReady {t} {s} (hk : Kept ⟨0x400000000000000000000000000000000000000000000000000000000000000000000000000000000000000000000000000000000000000000000000000000000000, 0x0, 0x1001⟩ P) (h_s : P s) :
    KeepsOut P (execVanaReady t s) := by
  unfold execVanaReady
  exact keepsOut_next (keep_vanaReady hk.le (keep_State_atTick hk.le h_s))

theorem keep_execBootCalibration {t} {results} {s} (hk : Kept ⟨0x3bfe1d8638000008060700360000000000000e00880000000300800415600000001006284081020000002f05c02c6c6000404e0000000000004000180000000000011800004a7c000002800010000000000000000000000000000000c40010000000088000e00000483100000b00b00022b80000, 0x100000000000000000000000000000000000000000001e00060000000000000000000000000000000000, 0x1319⟩ P) (h_s : P s) :
    KeepsOut P (execBootCalibration t results s) := by
  unfold execBootCalibration
  exact keepsOut_next (keep_atStage hk.le (keep_State_atTick hk.le h_s) (fun x0 z1 => keep_bootCalibration hk.le z1))

theorem keep_execBootBist {t} {dead} {s} (hk : Kept ⟨0x7003600000000000001800000000000000000000000000000000000000000000000000000002000400e0000000000018020180000000000000000000000000000000000000000000000000000000000000000000000000000000000000000000000000140300022b00000, 0x0, 0x1309⟩ P) (h_s : P s) :
    KeepsOut P (execBootBist t dead s) := by
  unfold execBootBist
  exact keepsOut_next (keep_atStage hk.le (keep_State_atTick hk.le h_s) (fun x0 z1 => keep_bootBist hk.le z1))

theorem keep_execBootBankRelease {t} {s} (hk : Kept ⟨0xc060000000000000002000000200206086300b00000000820001000000000000000000000000000400040000000000000000000000000000000000000000000000000000010000000000000000000000000100000040018000000000000000000000000000000b00022b00000, 0x0, 0x1009⟩ P) (h_s : P s) :
    KeepsOut P (execBootBankRelease t s) := by
  unfold execBootBankRelease
  exact keepsOut_next (keep_atStage hk.le (keep_State_atTick hk.le h_s) (fun x0 z1 => keep_bootBanks hk.le z1))

theorem keep_execBootDone {t} {elapsed} {s} (hk : Kept ⟨0x9000e00c080000000000000000000000000000000000000008000002000011000400000000000000000000000000000000000000000000000000000000000000000041180000000000000000000000000000000000000000000000000000000000000000000000000000000000000000000000000000000000000000000000b00022b00000, 0x1e0000000000000000000000000000000000000000000000000000000000000000000000000000000000000000000000000000000000000000000000000000000000000000000000000000000000000000000000000000000000000000000000000000000000000, 0x1109⟩ P) (h_s : P s) :
    KeepsOut P (execBootDone t elapsed s) := by
  unfold execBootDone
  exact keepsOut_next (keep_atStage hk.le (keep_State_atTick hk.le h_s) (fun x0 z1 => keep_bootDone hk.le z1))

theorem keep_execTbApply {s} (hk : Kept ⟨0x600000000000000000000008060000000000000000000000000040000300800000000000000000000000000000000000000000000100000000000000000000000000000000000000000000000000000000000000000000000000000000000000000000000000000000000000000000000000802380000000, 0x0, 0x0⟩ P) (h_s : P s) :
    KeepsOut P (execTbApply s) := by
  unfold execTbApply
  exact keepsOut_next (keep_tbApply hk.le h_s)

theorem keep_execTimebaseLoss {t} {refOk} {pll} {s} (hk : Kept ⟨0x60000000000000000000100000000002200000000000008000000008060000360000000000000e008e0040000300c00415600000001006284081020000002f05c02c6c60014000000000014020400008000000000000000000000000000280003e000000008000000000000000000000c40000000000088000e00000483100000b00b001a2b80000, 0x100000000000000000000000000000000000000000001e00060000000000000000000000000000000000, 0x1119⟩ P) (h_s : P s) :
    KeepsOut P (execTimebaseLoss t refOk pll s) := by
  unfold execTimebaseLoss
  exact keepsOut_next (keep_ite (keep_linkTimebaseLoss hk.le (keep_timebaseLoss hk.le ((keep_State_atTick hk.le h_s)))) ((keep_State_atTick hk.le h_s)))

theorem keep_execTimebaseRestart {gap} {levels} {s} (hk : Kept ⟨0x4000000000000000002d1c08060000360000000001000000000000400300800000000000800000000000000000000000000000000140000000000000000000000000000000000000000000008007000000000000000000002080000000000000000000000000000000800000000000000000b609a2b00000, 0x0, 0x108⟩ P) (h_s : P s) :
    KeepsOut P (execTimebaseRestart gap levels s) := by
  unfold execTimebaseRestart
  exact keepsOut_next (keep_timebaseRestart hk.le h_s)

theorem keep_execStatusTick {s} (hk : Kept ⟨rall, 0x400000000180200000000000000000000000fc0000007ffffffffc0000002000000000000000100000000000000001e000601f5000000000000000000000000070000, 0x17dd⟩ P) (h_s : P s) :
    KeepsOut P (execStatusTick s) := by
  unfold execStatusTick
  exact keepsOut_next (keep_statusTick hk.le h_s)

theorem keep_execDelaylineCalibration {t} {elems} {s} (hk : Kept ⟨0x1000000000000000000000000000000000000000000000000000000000000000000000000000000000000000000000000000000000040000000000000000000000000000000000000000000000000000000000000000000000000000000000000000000000000000000000000000000000000311422b00000, 0x0, 0x1009⟩ P) (h_s : P s) :
    KeepsOut P (execDelaylineCalibration t elems s) := by
  unfold execDelaylineCalibration
  exact keepsOut_next (keep_delayLine hk.le (keep_State_atTick hk.le h_s))

theorem keep_execDdieWatchdogExpiry {t} {b} {s} (hk : Kept ⟨0x8000000008060000360000000000000e008e0044000300c00415600000001006284081020000002f05c02c6c60004000000000000000400008000000000000000000000000000280003e000010208000000000000000000000c40000000000088000e00000483100000b00b00022b80000, 0x100000000000000000000000000000000000000000001e00060000000000000000000000000000000000, 0x1119⟩ P) (h_s : P s) :
    KeepsOut P (execDdieWatchdogExpiry t b s) := by
  unfold execDdieWatchdogExpiry
  exact keepsOut_next (keep_watchdogExpiry hk.le (keep_State_atTick hk.le h_s))

theorem keep_execDdieRelease {t} {b} {s} (hk : Kept ⟨0xc060000000000000002000000228206086300f00000000820001000000000000000000000000000400040000000000000000000000000000000000000000000000000000016200000008000002080000000100000040018000000000000000000000000000000b00022b00000, 0x0, 0x1009⟩ P) (h_s : P s) :
    KeepsOut P (execDdieRelease t b s) := by
  unfold execDdieRelease
  exact keepsOut_next (keep_dieRelease hk.le (keep_State_atTick hk.le h_s))

theorem keep_ansWrite {path} {x} (hk : Kept ⟨0x400000000000000000000000000000000000000000000000000000000000000000000000000000000000000000000000000000000000000000000000080000000000000000000000000000000000000000000000000000000000000000000000000000000000000000000000000000000000000000000000000000000000000, 0x0, 0x0⟩ P) (h_x : P x.1) :
    P (ansWrite path x) := by
  unfold ansWrite
  split
  · exact keep_State_reply hk.le h_x
  · exact keep_State_reply hk.le (keep_winStat hk.le h_x)

theorem keep_ansRead {path} {x} (hk : Kept ⟨0x400000000000000000000000000000000000000000000000000000000000000000000000000000000000000000000000000000000000000000000000080000000000000000000000000000000000000000000000000000000000000000000000000000000000000000000000000000000000000000000000000000000000000, 0x0, 0x0⟩ P) (h_x : P x.1) :
    P (ansRead path x) := by
  unfold ansRead
  split
  · exact keep_State_reply hk.le h_x
  · exact keep_ite (keep_State_reply hk.le ((keep_winStat hk.le h_x))) (keep_State_reply hk.le ((keep_winStat hk.le h_x)))

theorem keep_viaRegister {s} {path} {f} (hk : Kept ⟨0x400000000000000000000000000000000000000000000000000000000000000000080000000000000000000000000000000000000000000000000000000000000000000000000000000000000000000000000000000000000000000000000000000000000, 0x0, 0x0⟩ P) (h_s : P s) (h_f : ∀ v0, P v0 → P (f v0)) :
    P (viaRegister s path f) := by
  unfold viaRegister
  exact keep_ite (keep_State_reply hk.le h_s) (h_f _ (keep_ite (keep_served hk.le h_s) h_s))

theorem keep_execSpiCommandHeader {cmd} {addr} {s} (hk : Kept ⟨0x3f000000000000000000000000000000000000000000000000000000000000000000000000000000000000000000000000000000000000000000000000000000000000000000000000000000000000000000000000000000000000000000000000000000000000000000000000000000000000000000000000000000000000000, 0x0, 0x0⟩ P) (h_s : P s) :
    KeepsOut P (execSpiCommandHeader cmd addr s) := by
  unfold execSpiCommandHeader
  exact keepsOut_next (keep_spiHeader hk.le h_s)

theorem keep_execSpiWriteWord {w} {s} (hk : Kept ⟨rall, 0x1802000000000000000000000000000000000000100000000000000000000000000000000000000000001e00060000000000000000000000000000070000, 0x3dc⟩ P) (h_s : P s) :
    KeepsOut P (execSpiWriteWord w s) := by
  unfold execSpiWriteWord
  exact keepsOut_next (keep_spiWrite hk.le h_s)

theorem keep_execSpiReadWord {ready} {s} (hk : Kept ⟨0x40000000025000000000000000000000000000000000000000000000000000000000000000000000000000000000000000000000000000000000000000000000000040000000180000000000000000000000000000000000000000000000000000000000000000000000000000000000000000000000000000000000000000700022b80000, 0x0, 0x18a⟩ P) (h_s : P s) :
    KeepsOut P (execSpiReadWord ready s) := by
  unfold execSpiReadWord
  exact keepsOut_next (keep_spiRead hk.le h_s)

theorem keep_execSpiFrameEnd {cut} {s} (hk : Kept ⟨0x3800000000000000000000000000000000000000000000000000000000000000000000000000000000000000000000000000000000000000000000000000000000000000000000000000000000000000000000000000000000000000000000000000000000000000000000000000000000000000000000000000000000000000, 0x0, 0x0⟩ P) (h_s : P s) :
    KeepsOut P (execSpiFrameEnd cut s) := by
  unfold execSpiFrameEnd
  exact keepsOut_next (keep_spiEnd hk.le h_s)

theorem keep_execRegisterWrite {path} {addr} {word} {hwMask} {hwData} {inc} {s} (hk : Kept ⟨rall, 0x1802000000000000000000000000000000000000100000000000000000000000000000000000000000001e00060000000000000000000000000000070000, 0x3fc⟩ P) (h_s : P s) :
    KeepsOut P (execRegisterWrite path addr word hwMask hwData inc s) := by
  unfold execRegisterWrite
  exact keepsOut_next (keep_viaRegister hk.le h_s (fun x0 z1 => keep_ansWrite hk.le (keep_writeClash hk.le z1)))

theorem keep_execWideLowWordRead {path} {addr} {s} (hk : Kept ⟨0x400000000004000000000000000000000000000000000000000000000000000004000000000000000000000000000000000000000000000000000000000000000000c0000000180000000000000000000000000000000000000000000000000000000000000000000000000000000000000000000000000000000000000000700022b80000, 0x0, 0x18a⟩ P) (h_s : P s) :
    KeepsOut P (execWideLowWordRead path addr s) := by
  unfold execWideLowWordRead
  exact keepsOut_next (keep_viaRegister hk.le h_s (fun x0 z1 => keep_ansRead hk.le (keep_readWord hk.le z1)))

theorem keep_execWideHighWordWrite {path} {addr} {word} {s} (hk : Kept ⟨rall, 0x1802000000000000000000000000000000000000100000000000000000000000000000000000000000001e00060000000000000000000000000000070000, 0x3dc⟩ P) (h_s : P s) :
    KeepsOut P (execWideHighWordWrite path addr word s) := by
  unfold execWideHighWordWrite
  exact keepsOut_next (keep_viaRegister hk.le h_s (fun x0 z1 => keep_ansWrite hk.le (keep_writeWord hk.le z1)))

theorem keep_answered {x} (hk : Kept ⟨0x80000000000000000000000000000000000000000000000000000000000000000000000000000000000000000000000000000000000000000000000000000000000000, 0x0, 0x0⟩ P) (h_x : P x.1) :
    P (answered x) := by
  unfold answered
  exact keep_State_reply hk.le h_x

theorem keep_execRegWinDataRead {s} (hk : Kept ⟨0x400000000004800000000000000000000000000000000000000000000000000004000000000000000000000000000000000000000000000000000000000000000000c0000000180000000000000000000000000000000000000000000000000000000000000000000000000000000000000000000000000000000000000000700022b80000, 0x0, 0x18a⟩ P) (h_s : P s) :
    KeepsOut P (execRegWinDataRead s) := by
  unfold execRegWinDataRead
  exact keepsOut_next (keep_viaRegister hk.le h_s (fun x0 z1 => keep_answered hk.le (keep_winRead hk.le z1)))

theorem keep_execRegWinDataWrite {w} {s} (hk : Kept ⟨rall, 0x1802000000000000000000000000000000000000100000000000000000000000000000000000000000001e00060000000000000000000000000000070000, 0x3dc⟩ P) (h_s : P s) :
    KeepsOut P (execRegWinDataWrite w s) := by
  unfold execRegWinDataWrite
  refine keepsOut_next ?_
  refine keep_viaRegister hk.le ?_ ?_
  · exact h_s
  · intro x4 z5
    split
    · rename_i y8 y9 q6
      have z7 : P y8 := keep_fst (keep_winWrite hk.le z5) q6
      exact keep_State_reply hk.le z7

theorem keep_execRegWinBlockRead {s} (hk : Kept ⟨0x400000000004000000000000000000000000000000000000000000000000000004000000000000000000000000000000000000000000000000000000000000000000c0000000180000000000000000000000000000000000000000000000000000000000000000000000000000000000000000000000000000000000000000700022b80000, 0x0, 0x18a⟩ P) (h_s : P s) :
    KeepsOut P (execRegWinBlockRead s) := by
  unfold execRegWinBlockRead
  exact keepsOut_next (keep_viaRegister hk.le h_s (fun x0 z1 => keep_answered hk.le (keep_winBlockRead hk.le z1)))

theorem keep_execRegWinBlockWrite {bytes} {s} (hk : Kept ⟨rall, 0x1802000000000000000000000000000000000000100000000000000000000000000000000000000000001e00060000000000000000000000000000070000, 0x3dc⟩ P) (h_s : P s) :
    KeepsOut P (execRegWinBlockWrite bytes s) := by
  unfold execRegWinBlockWrite
  refine keepsOut_next ?_
  refine keep_viaRegister hk.le ?_ ?_
  · exact h_s
  · intro x4 z5
    split
    · rename_i y8 y9 q6
      have z7 : P y8 := keep_fst (keep_winBlockWrite hk.le z5) q6
      exact keep_State_reply hk.le z7

theorem keep_execObjectWrite {path} {index} {sub} {bytes} {s} (hk : Kept ⟨rall, rall, 0x1fff⟩ P) (h_s : P s) :
    KeepsOut P (execObjectWrite path index sub bytes s) := by
  unfold execObjectWrite
  exact keepsOut_next (keep_plainWrite hk.le h_s)

theorem keep_execSramScrub {t} {single} {double} {s} (hk : Kept ⟨0x200060000000000000000000000000000000000000000000000000000700000000000b18000000000000000000000000000000000000000000000000000000000000000040071407180000000480c00000000000000000000000000000000000000000000000000000000000000000000000000000000000000000000000000000700022b80000, 0x0, 0x17c9⟩ P) (h_s : P s) :
    KeepsOut P (execSramScrub t single double s) := by
  unfold execSramScrub
  exact keepsOut_next (keep_scrub hk.le (fun x0 z1 => keep_seqRestart hk.le z1) (keep_State_atTick hk.le h_s))

theorem keep_execQwrWrite {path} {q} {word} {s} (hk : Kept ⟨rall, 0x1802000000000000000000000000000000000000100000000000000000000000000000000000000000001e00060000000000000000000000000000070000, 0x3dc⟩ P) (h_s : P s) :
    KeepsOut P (execQwrWrite path q word s) := by
  unfold execQwrWrite
  exact keepsOut_next (keep_viaRegister hk.le h_s (fun x0 z1 => keep_ansWrite hk.le (keep_writeWord hk.le z1)))

theorem keep_execQrdWrite {path} {q} {word} {s} (hk : Kept ⟨rall, 0x1802000000000000000000000000000000000000100000000000000000000000000000000000000000001e00060000000000000000000000000000070000, 0x3dc⟩ P) (h_s : P s) :
    KeepsOut P (execQrdWrite path q word s) := by
  unfold execQrdWrite
  exact keepsOut_next (keep_viaRegister hk.le h_s (fun x0 z1 => keep_ansWrite hk.le (keep_writeWord hk.le z1)))

theorem keep_execQreset {q} {offered} {s} (hk : Kept ⟨0x800000040000000180000000000000000000000000000000000000000000000000000000000000000000000000000000000000000000000000000000100000000300032b80000, 0x70000, 0x18⟩ P) (h_s : P s) :
    KeepsOut P (execQreset q offered s) := by
  unfold execQreset
  exact keepsOut_next (keep_queueReset hk.le h_s)

theorem keep_execTagWaitRelease {s} (hk : Kept ⟨0xdc0000000000000000000000000000000000000000000000000000000000000000000000000000000000000000000000000000000000000000000000000000000000000000000000000000000000000000000000000000000000000000000000000000007000, 0x0, 0x0⟩ P) (h_s : P s) :
    KeepsOut P (execTagWaitRelease s) := by
  unfold execTagWaitRelease
  exact keepsOut_next (keep_tagRelease hk.le h_s)

theorem keep_execHelperResult {tag} {epoch} {s} (hk : Kept ⟨0x40000000000000000000000000000000000000000000000000000000000000000000000000000000000000000200000000000000000000000000000000000000000000000000000000000000000000000000000000000000000000000000000000000003000, 0x0, 0x0⟩ P) (h_s : P s) :
    KeepsOut P (execHelperResult tag epoch s) := by
  unfold execHelperResult
  exact keepsOut_next (keep_helperResult hk.le h_s)

theorem keep_execTagReclaim {t} {tag} {s} (hk : Kept ⟨0x80000020000000000700360000a7c000000e00000000000000000000000000000000000000000000000000000000200042060000000000004100080000000000000000000004000000000000000000000000000000000000000000000000000000000000000000000000000100300022b0b000, 0x0, 0x1309⟩ P) (h_s : P s) :
    KeepsOut P (execTagReclaim t tag s) := by
  unfold execTagReclaim
  exact keepsOut_next (keep_tagReclaim hk.le (keep_State_atTick hk.le h_s))

theorem keep_execEpochDeferredAdvance {t} {n} {s} (hk : Kept ⟨0x2000200000000000000000060000000000000038801d8038000004000700360000a4cb1d7f8f80000000000000000415000000001000684080000000000e0000000020004207140700400001c5b818000000000000000000000c000000000000000000000000000000000000000000c40010000000000000e000000000000001c0300022b03000, 0x0, 0x1749⟩ P) (h_s : P s) :
    KeepsOut P (execEpochDeferredAdvance t n s) := by
  unfold execEpochDeferredAdvance
  exact keepsOut_next (keep_epochDeferred hk.le (keep_State_atTick hk.le h_s))

theorem keep_execCommand {r} {i} {v} {s} (hk : Kept ⟨rall, 0x1802000000000000000000000000000000000000000000000000000000000000000000000000000000000000000000000000000000000000000000070000, 0x1d8⟩ P) (h_s : P s) :
    P (execCommand r i v s) := by
  unfold execCommand
  exact keep_command hk.le h_s

theorem keep_execSlackMinClr {i s} (hk : Kept ⟨0x10, 0x0, 0x0⟩ P) (h_s : P s) : KeepsOut P (execSlackMinClr i s) :=
  keepsOut_next (s := s.put .SLACK_MIN i 0x7FFF) (keep_State_put hk.le h_s)

theorem keep_execEngineCycle {i} {accept} {late} {differs} {epoch} {s} (hk : Kept ⟨rall, 0x187bf00000000000000000000000000180200000000000000000000000000000000000010003fc0000000000000000000000fffffffffffffffffffffffffffffffc03ffffffe00000000070ff8, 0x17dd⟩ P) (h_s : P s) :
    KeepsOut P (execEngineCycle i accept late differs epoch s) := by
  unfold execEngineCycle
  exact keepsOut_next (keep_engineCycle hk.le h_s)

theorem keep_execSlackFullRateReturn {i} {s} (hk : Kept ⟨0x300, 0x0, 0x0⟩ P) (h_s : P s) :
    KeepsOut P (execSlackFullRateReturn i s) := by
  unfold execSlackFullRateReturn
  exact keepsOut_next (keep_fullRate hk.le h_s)

theorem keep_execDeadlineMissStrip {i} {s} (hk : Kept ⟨0x360000000000204e00000000000000000000000000000000000000000000000000000000200040000000000000006000080000000000000000000000000000000000000000000000000000000000000000000000000000000000000000000000000100300022b00000, 0x0, 0x108⟩ P) (h_s : P s) :
    KeepsOut P (execDeadlineMissStrip i s) := by
  unfold execDeadlineMissStrip
  exact keepsOut_next (keep_missStrip hk.le h_s)

theorem keep_execDeadlineMissMigration {i} {s} (hk : Kept ⟨0x8000000008060000360000000000458e00880000000300800415600000001006284081020000002f05c02c6c600040000000000000004000080000000000000000000000000002800010000000000000000000000000000000c40000000000088000e00000483100000b00b00022b80000, 0x100000000000000000000000000000000000000000001e00060000000000000000000000000000000000, 0x118⟩ P) (h_s : P s) :
    KeepsOut P (execDeadlineMissMigration i s) := by
  unfold execDeadlineMissMigration
  exact keepsOut_next (keep_missMigration hk.le h_s)

theorem keep_execTestStripStart {t} {s} (hk : Kept ⟨0x360000000000006e00000000000000000000000000000000000000000000000000000000200040000000000000006000080000000000000000000000000000000000000000000000000000000000000000000000000000000000000000000000000100300022b00000, 0x0, 0x1109⟩ P) (h_s : P s) :
    KeepsOut P (execTestStripStart t s) := by
  unfold execTestStripStart
  exact keepsOut_next (keep_stripStart hk.le (keep_State_atTick hk.le h_s))

theorem keep_execStripComplete {t} {equal} {s} (hk : Kept ⟨0x360000000000001f00000000000000000000000000000000000000000000000000000000200040000000000000004003080000000000000000000000000000000000000000000000000000000000000000000000000000000000000000000000000100300022b00000, 0x0, 0x1109⟩ P) (h_s : P s) :
    KeepsOut P (execStripComplete t equal s) := by
  unfold execStripComplete
  exact keepsOut_next (keep_stripComplete hk.le (keep_State_atTick hk.le h_s))

theorem keep_execVoteReplayDone {t} {verdict} {s} (hk : Kept ⟨0x700360000000000058f8000000000000000000000000000000000000000000000000000000020004006000000000001c024180000000000000000000000000000000000000000000000000000000000000000000000000000000000000000000000000100300022b00000, 0x0, 0x1309⟩ P) (h_s : P s) :
    KeepsOut P (execVoteReplayDone t verdict s) := by
  unfold execVoteReplayDone
  exact keepsOut_next (keep_voteDone hk.le (keep_State_atTick hk.le h_s))

theorem keep_execEngineBistDone {t} {e} {pass} {s} (hk : Kept ⟨0x700360000000000058f8000000000000000000000000000000000000000000000000000000020004006000000000001c020180000000000000000000000000000000000000000000000000000000000000000000000000000000000000000000000000100300022b00000, 0x0, 0x1309⟩ P) (h_s : P s) :
    KeepsOut P (execEngineBistDone t e pass s) := by
  unfold execEngineBistDone
  exact keepsOut_next (keep_bistDone hk.le (keep_State_atTick hk.le h_s))

theorem keep_execNoPostPortsOff {t} {i} {s} (hk : Kept ⟨0x8000000008060000360000000000000e00800000000300800415600000001006284081020000002f05c02c6c600040000000000000004000080000000000000000000000000002800010000000000000000000000000000000c40000000000088000e00000483100000b00b00022b80000, 0x100000000000000000000000000000000000000000001e00060000000000000000000000000000000000, 0x1119⟩ P) (h_s : P s) :
    KeepsOut P (execNoPostPortsOff t i s) := by
  unfold execNoPostPortsOff
  exact keepsOut_next (keep_noPostOff hk.le (keep_State_atTick hk.le h_s))

theorem keep_execMigrate {mask} {s} (hk : Kept ⟨0x400058000000000000000000000000000000000000000000000000000000000000080000000000000000800000000000000000000000000000000000000000000000000000000000000000000000000000000000000000000000000000000000000000000, 0x0, 0x0⟩ P) (h_s : P s) :
    KeepsOut P (execMigrate mask s) := by
  unfold execMigrate
  exact keepsOut_next (keep_viaObject hk.le h_s (fun x0 z1 => keep_ite1 (keep_mk z1) (keep_stateAbort hk.le (keep_migrateMask hk.le z1))))

theorem keep_execMigrationCutover {t} {i} {s} (hk : Kept ⟨0x40007003600000000057f8f80000000000000000415000000001000684080000000000e0000000020004006000000000001c038180000000000000000000000000000000000000000000000000000000000000000c40000000000000000e000000000000001c0300022b00000, 0x0, 0x1309⟩ P) (h_s : P s) :
    KeepsOut P (execMigrationCutover t i s) := by
  unfold execMigrationCutover
  exact keepsOut_next (keep_migrationCutover hk.le (keep_State_atTick hk.le h_s))

theorem keep_execColdTakeover {i} {s} (hk : Kept ⟨0x20000000000000000000000000000000000000000000000000000000000000000000000000000000000000000000000000000000000000000000000000000000000000000000000000000000000000000000000000000000000000000000000000000, 0x0, 0x0⟩ P) (h_s : P s) :
    KeepsOut P (execColdTakeover i s) := by
  unfold execColdTakeover
  exact keepsOut_next (keep_coldTakeover hk.le h_s)

theorem keep_execDomainRestart {path} {d} {s} (hk : Kept ⟨0x80000020000000000700360000a4c400000e000000000000000000000000000000000000000000000000000000002000c2060000000000004100080000000000000000000004000000000000000000000000000000000000000000000000000000000000000000000000000100300022b03000, 0x0, 0x308⟩ P) (h_s : P s) :
    KeepsOut P (execDomainRestart path d s) := by
  unfold execDomainRestart
  exact keepsOut_next (keep_viaObject hk.le h_s (fun x0 z1 => keep_domainCommand hk.le z1))

theorem keep_execDomainRestartDone {t} {d} {s} (hk : Kept ⟨0x38001d82b800000000000036000020700000010000000000000000000000000000000000000000000000000000000020004200000000000000000008000000000000000000000c000000000000000000000000000000000000000000000010000000000000000000000000000100300022b83000, 0x0, 0x1109⟩ P) (h_s : P s) :
    KeepsOut P (execDomainRestartDone t d s) := by
  unfold execDomainRestartDone
  exact keepsOut_next (keep_domainRestartDone hk.le (keep_State_atTick hk.le h_s))

theorem keep_execHelperHandshakeFault {t} {d} {s} (hk : Kept ⟨0x80000020000000000700360000a4c000000e00000000000000000000000000000000000000000000000000000000200042060000000000004100080000000000000000000004000000000000000000000000000000000000000000000000000000000000000000000000000100300022b03000, 0x0, 0x1309⟩ P) (h_s : P s) :
    KeepsOut P (execHelperHandshakeFault t d s) := by
  unfold execHelperHandshakeFault
  exact keepsOut_next (keep_domainRestart hk.le (keep_State_atTick hk.le h_s))

theorem keep_execSeqRestart {path} {value} {s} (hk : Kept ⟨0x200020000000000000000000000000000000000000000000000000000700000000000f180000000000000000000000000000000000000000000000000000000000000000c0071407000000000480000000000000000000000000000000000000000000000000000000000000000000000000000000000000000000000000000000300022b00000, 0x0, 0x648⟩ P) (h_s : P s) :
    KeepsOut P (execSeqRestart path value s) := by
  unfold execSeqRestart
  exact keepsOut_next (keep_ite (keep_seqRestart hk.le ((keep_viaObject hk.le h_s (fun x0 z1 => keep_seqJudge hk.le z1)))) ((keep_viaObject hk.le h_s (fun x0 z1 => keep_seqJudge hk.le z1))))

theorem keep_execSequencerWatchdog {t} {s} (hk : Kept ⟨0x200020000000000000000000000000000000000000000000000000000700000000000b18000000000000000000000000000000000000000000000000000000000000000040071407000000000480000000000000000000000000000000000000000000000000000000000000000000000000000000000000000000000000000000300022b00000, 0x0, 0x1649⟩ P) (h_s : P s) :
    KeepsOut P (execSequencerWatchdog t s) := by
  unfold execSequencerWatchdog
  exact keepsOut_next (keep_seqWatchdog hk.le (keep_State_atTick hk.le h_s))

theorem keep_execSequencerRestartDone {t} {imageOk} {s} (hk : Kept ⟨rall, 0x1802000000000000000000000000000000000000100000000000000000000000000000000000000000001e000601f5000000000000000000000000070000, 0x13dd⟩ P) (h_s : P s) :
    KeepsOut P (execSequencerRestartDone t imageOk s) := by
  unfold execSequencerRestartDone
  exact keepsOut_next (keep_seqDone hk.le (keep_State_atTick hk.le h_s))

theorem keep_execDomOffReq {path} {value} {s} (hk : Kept ⟨0x10000000000000000000000000070000000000040000000000000000000000000000000000000000000000000000000000000000009c060000000000000000000000000000000000000000000000000000000000000000000000000000000000000000000000000000000000000000000000000000000000, 0x0, 0x200⟩ P) (h_s : P s) :
    KeepsOut P (execDomOffReq path value s) := by
  unfold execDomOffReq
  exact keepsOut_next (keep_viaObject hk.le h_s (fun x0 z1 => keep_domOffWrite hk.le z1))

theorem keep_execDomainSwitched {t} {d} {s} (hk : Kept ⟨0x800000038801d82b8000000000700360000203000000f0000000000000000000000000000000000000000000000000000000020007a06000000000000400008000000000000000000000c000000000000000000000000000000000000000000000010000000000000000000000000000100300022b83000, 0x0, 0x1309⟩ P) (h_s : P s) :
    KeepsOut P (execDomainSwitched t d s) := by
  unfold execDomainSwitched
  exact keepsOut_next (keep_domainSwitched hk.le (keep_State_atTick hk.le h_s))

theorem keep_execPortmapApply {value} {s} (hk : Kept ⟨0x4000000000000000000000000000000000000000000000000000000000000000ff080000000000000000000000000000000000000000000000000000000000000000000000000000000000000000000000000000000000000000000000000000000000000, 0x0, 0x0⟩ P) (h_s : P s) :
    KeepsOut P (execPortmapApply value s) := by
  unfold execPortmapApply
  exact keepsOut_next (keep_viaObject hk.le h_s (fun x0 z1 => keep_ite1 (keep_mk (keep_portmapApply hk.le z1)) (keep_mk z1)))

theorem keep_execPortmapSetDevelop {n} {s} (hk : Kept ⟨rall, 0x800000000000000000000000000000000000000000000000000000000000000000000000000000100000000000000000000000000000000000000000000000000000000, 0x118⟩ P) (h_s : P s) :
    KeepsOut P (execPortmapSetDevelop n s) := by
  unfold execPortmapSetDevelop
  exact keepsOut_next (keep_portmapSet hk.le h_s)

theorem keep_execSegWrite {i} {bytes} {s} (hk : Kept ⟨0x400000000000000000000000000000000000000000000000000000000000f000000c00000000000000000008000000000000000000000000000000000000000000000000000000000000000000000000000000000000000000001b0000000300022b80000, 0x0, 0x18⟩ P) (h_s : P s) :
    KeepsOut P (execSegWrite i bytes s) := by
  unfold execSegWrite
  exact keepsOut_next (keep_ite (keep_State_reply hk.le h_s) (keep_segWrite hk.le (keep_served hk.le h_s)))

theorem keep_execSegPdoEnqueue {i} {w} {s} (hk : Kept ⟨0x40000000000000000000000000000000000000000000000000000000000000000000000000000000000000000000000000000000000000000000f000000c00000000000000000008000000000000000000000000000000000000000000000000000000000000000000000000000000000000000000001b0000000300026b80000, 0x0, 0x18⟩ P) (h_s : P s) :
    KeepsOut P (execSegPdoEnqueue i w s) := by
  unfold execSegPdoEnqueue
  split
  · rename_i y2 y3 q0
    have z1 : P y2 := keep_fst (keep_writeSegPdo hk.le h_s) q0
    exact keepsOut_next (keep_State_reply hk.le z1)

theorem keep_execSegRestart {i s} (hk : Kept ⟨0x700000000000000000000000000000000000000000000000000000000000000000000000000000000000000000000000000000000000000000000000000000208000000000000, 0x0, 0x0⟩ P) (h_s : P s) : KeepsOut P (execSegRestart i s) :=
  keepsOut_next (s := segRestart s i) (keep_segRestart hk.le h_s)

theorem keep_execSegmentStartActions {t} {s} (hk : Kept ⟨0x100000000000000000000000000000400001800000000000000000000000000000000000000000000000000040000000000000000000000000000000000000000000000002000000000000000000000000000000000000000000000000000000000000000000000000300022b00000, 0x0, 0x1009⟩ P) (h_s : P s) :
    KeepsOut P (execSegmentStartActions t s) := by
  unfold execSegmentStartActions
  exact keepsOut_next (keep_startActions hk.le (keep_State_atTick hk.le h_s))

theorem keep_execAccGo {n} {go} {s} (hk : Kept ⟨0x300000000000000000000000000000000000000000000000000000000000000000000000000000000000000000000000000000a000000000000000000000000000000000000000000000000000000000000000000000000000000000000000000000000000000000000000000000300000000000000000000000, 0x0, 0x0⟩ P) (h_s : P s) :
    KeepsOut P (execAccGo n go s) := by
  unfold execAccGo
  exact keepsOut_next (keep_accGo hk.le h_s)

theorem keep_execSyncTimeout {t} {i} {s} (hk : Kept ⟨0x2400000040000000000000000000000000000000000000000000000000000000000000000000000000000000000000000000000000000000000000080104000200300022b80000, 0x0, 0x1019⟩ P) (h_s : P s) :
    KeepsOut P (execSyncTimeout t i s) := by
  unfold execSyncTimeout
  exact keepsOut_next (keep_syncTimedOut hk.le (keep_State_atTick hk.le h_s))

theorem keep_viaDrive {s} {i} {f} (hk : Kept ⟨0x400000000000000000000000000000000000000000000000000000000000000000080000000000000000000000000000000000000000000000000000000000000000000000000000000000000000000000000000000000000000000000000000000000000, 0x0, 0x0⟩ P) (h_s : P s) (h_f : ∀ v0, P v0 → P (f v0).1) :
    P (viaDrive s i f) := by
  unfold viaDrive
  exact keep_viaObject hk.le h_s (fun x0 z1 => keep_ite1 (keep_mk z1) (h_f _ z1))

theorem keep_execModeChange {i} {mode} {s} (hk : Kept ⟨0x400000000000000000000000000000000000000000000000000000000000000800080000000000000000000000000000000000000000000000000000000000000000000000000000000000000000000000000000000000000000000000000000000000000, 0x0, 0x0⟩ P) (h_s : P s) :
    KeepsOut P (execModeChange i mode s) := by
  unfold execModeChange
  exact keepsOut_next (keep_viaDrive hk.le h_s (fun x0 z1 => keep_ite1 (keep_mk z1) (keep_writeMode hk.le z1)))

theorem keep_controlTo {s} {i} {cw} (hk : Kept ⟨0x800000002c060000360000000402000e07ae800000e300f004156008200010062842ff0e0000003fbdf02dec6000c00000000000000040000800000000000000000000000000028000162000000088d8000280c00000140000c4001800000008800ae00002483100000b00b00022b80000, 0x100000000000000000000000000000000000000000001e000601f5000000000000000000000000000000, 0x118⟩ P) (h_s : P s) :
    P (controlTo s i cw) := by
  unfold controlTo
  exact keep_viaDrive hk.le h_s (fun x0 z1 => keep_mk (keep_writeControlword hk.le z1))

theorem keep_riseBit {s} {i} {k} {cw} (hk : Kept ⟨0x800000002c060000360000000402000e07ae800000e300f004156008200010062842ff0e0000003fbdf02dec6000c00000000000000040000800000000000000000000000000028000162000000088d8000280c00000140000c4001800000008800ae00002483100000b00b00022b80000, 0x100000000000000000000000000000000000000000001e000601f5000000000000000000000000000000, 0x118⟩ P) (h_s : P s) :
    P (riseBit s i k cw) := by
  unfold riseBit
  exact keep_controlTo hk.le ((keep_ite (keep_controlTo hk.le h_s) h_s))

theorem keep_execNewSetPoint {i} {cw} {s} (hk : Kept ⟨0x800000002c060000360000000402000e07ae800000e300f004156008200010062842ff0e0000003fbdf02dec6000c00000000000000040000800000000000000000000000000028000162000000088d8000280c00000140000c4001800000008800ae00002483100000b00b00022b80000, 0x100000000000000000000000000000000000000000001e000601f5000000000000000000000000000000, 0x118⟩ P) (h_s : P s) :
    KeepsOut P (execNewSetPoint i cw s) := by
  unfold execNewSetPoint
  exact keepsOut_next (keep_riseBit hk.le h_s)

theorem keep_execCsLoss {t} {i} {s} (hk : Kept ⟨0x2000000010180040c000040000000000000000000000000000000000000000000000000000000000000000000000000000000000000000000000000008000000000c80100000200300022b80000, 0x300000000000000000000000000, 0x1019⟩ P) (h_s : P s) :
    KeepsOut P (execCsLoss t i s) := by
  unfold execCsLoss
  exact keepsOut_next (keep_chainLost hk.le (keep_State_atTick hk.le h_s))

theorem keep_execEnableInterpolation {i} {on} {s} (hk : Kept ⟨0x800000002c060000360000000402000e07ae800000e300f004156008200010062842ff0e0000003fbdf02dec6000c00000000000000040000800000000000000000000000000028000162000000088d8000280c00000140000c4001800000008800ae00002483100000b00b00022b80000, 0x100000000000000000000000000000000000000000001e000601f5000000000000000000000000000000, 0x118⟩ P) (h_s : P s) :
    KeepsOut P (execEnableInterpolation i on s) := by
  unfold execEnableInterpolation
  exact keepsOut_next (keep_controlTo hk.le h_s)

theorem keep_execHalt {i} {s} (hk : Kept ⟨0x800000002c060000360000000402000e07ae800000e300f004156008200010062842ff0e0000003fbdf02dec6000c00000000000000040000800000000000000000000000000028000162000000088d8000280c00000140000c4001800000008800ae00002483100000b00b00022b80000, 0x100000000000000000000000000000000000000000001e000601f5000000000000000000000000000000, 0x118⟩ P) (h_s : P s) :
    KeepsOut P (execHalt i s) := by
  unfold execHalt
  exact keepsOut_next (keep_controlTo hk.le h_s)

theorem keep_execHaltRelease {i} {s} (hk : Kept ⟨0x800000002c060000360000000402000e07ae800000e300f004156008200010062842ff0e0000003fbdf02dec6000c00000000000000040000800000000000000000000000000028000162000000088d8000280c00000140000c4001800000008800ae00002483100000b00b00022b80000, 0x100000000000000000000000000000000000000000001e000601f5000000000000000000000000000000, 0x118⟩ P) (h_s : P s) :
    KeepsOut P (execHaltRelease i s) := by
  unfold execHaltRelease
  exact keepsOut_next (keep_controlTo hk.le h_s)

theorem keep_execLimitSwitchEdge {t} {i} {positive} {level} {s} (hk : Kept ⟨0x100000000000000000000000000000000000000000000000000000000000004abc0c0000000e081001a400004000000000000000000000000000000000000000000000000280000000000000000000000000000004000000000000000000000af0001c001000000000300022b00000, 0x0, 0x1019⟩ P) (h_s : P s) :
    KeepsOut P (execLimitSwitchEdge t i positive level s) := by
  unfold execLimitSwitchEdge
  exact keepsOut_next (keep_sampled hk.le h_s (fun x0 z1 => keep_switchEdge hk.le (keep_State_atTick hk.le z1)))

theorem keep_execHomeSwitchEdge {t} {i} {level} {s} (hk : Kept ⟨0x100000000000000000000000000000000000000000000000000000000000004abc0c0000000e081001a400004000000000000000000000000000000000000000000000000280000000000000000000000000000004000000000000000000000af0001c001000000000300022b00000, 0x0, 0x1019⟩ P) (h_s : P s) :
    KeepsOut P (execHomeSwitchEdge t i level s) := by
  unfold execHomeSwitchEdge
  exact keepsOut_next (keep_sampled hk.le h_s (fun x0 z1 => keep_switchEdge hk.le (keep_State_atTick hk.le z1)))

theorem keep_execIndexEdge {t} {c} {level} {s} (hk : Kept ⟨0x1000000000000000000000000000000000000000000000000000000000000042380c00000000081001a400004000000000000000000000000000000000000000000000000280000000000000000000000000000004000000000000000000000a200000001000000000300022b00000, 0x0, 0x1019⟩ P) (h_s : P s) :
    KeepsOut P (execIndexEdge t c level s) := by
  unfold execIndexEdge
  exact keepsOut_next (keep_sampled hk.le h_s (fun x0 z1 => keep_indexEdge hk.le (keep_State_atTick hk.le z1)))

theorem keep_execHomingStart {i} {s} (hk : Kept ⟨0x800000002c060000360000000402000e07ae800000e300f004156008200010062842ff0e0000003fbdf02dec6000c00000000000000040000800000000000000000000000000028000162000000088d8000280c00000140000c4001800000008800ae00002483100000b00b00022b80000, 0x100000000000000000000000000000000000000000001e000601f5000000000000000000000000000000, 0x118⟩ P) (h_s : P s) :
    KeepsOut P (execHomingStart i s) := by
  unfold execHomingStart
  exact keepsOut_next (keep_riseBit hk.le h_s)

theorem keep_execHomingChatter {i} {s} (hk : Kept ⟨0x4080000000000e00000000000040000000000000000000000000000000000000000000000000000000000000000000000000000000000000000000000000000000e00000000000000000300022b00000, 0x0, 0x8⟩ P) (h_s : P s) :
    KeepsOut P (execHomingChatter i s) := by
  unfold execHomingChatter
  exact keepsOut_next (keep_homingChatters hk.le h_s)

theorem keep_execHomingDistance {i} {s} (hk : Kept ⟨0x4080000000000e00000000000040000000000000000000000000000000000000000000000000000000000000000000000000000000000000000000000000000000e00000000000000000300022b00000, 0x0, 0x8⟩ P) (h_s : P s) :
    KeepsOut P (execHomingDistance i s) := by
  unfold execHomingDistance
  exact keepsOut_next (keep_homingTooFar hk.le h_s)

theorem keep_execHomingNoIndex {i} {s} (hk : Kept ⟨0x4080000000000e00000000000040000000000000000000000000000000000000000000000000000000000000000000000000000000000000000000000000000000e00000000000000000300022b00000, 0x0, 0x8⟩ P) (h_s : P s) :
    KeepsOut P (execHomingNoIndex i s) := by
  unfold execHomingNoIndex
  exact keepsOut_next (keep_homingLacksIndex hk.le h_s)

theorem keep_execStepEdge {t} {c} {level} {dir} {s} (hk : Kept ⟨0x3000000000000000000000000000000000000000000000000000000000000000000000000000000000000000000000000000000000000000000000000000002000000000000000000000000000000000, 0x0, 0x1001⟩ P) (h_s : P s) :
    KeepsOut P (execStepEdge t c level dir s) := by
  unfold execStepEdge
  exact keepsOut_next (keep_sampled hk.le h_s (fun x0 z1 => keep_stepEdge hk.le (keep_State_atTick hk.le z1)))

theorem keep_execSfRestart {i s} (hk : Kept ⟨0x300000000000000000000000000000000000000000000000000000000000000000000000000000000000000000000000000000000000000000000000000008000000000000000000008000000000000, 0x0, 0x10⟩ P) (h_s : P s) : KeepsOut P (execSfRestart i s) :=
  keepsOut_next (s := followRestart s i) (keep_followRestart hk.le h_s)

theorem keep_execCurSenseLost {i} {s} (hk : Kept ⟨0x8000000008060000360000000000000e00880000000300800415600000001006284081020000002f05c02c6c600040000000000000004000080000000000000000000000000002800010000000000000000000000000580000c40210000000088000e00000483100000b00b00022b80000, 0x100000000000000000000000000000000000000000001e00060000000000000000000000000000000000, 0x118⟩ P) (h_s : P s) :
    KeepsOut P (execCurSenseLost i s) := by
  unfold execCurSenseLost
  exact keepsOut_next (keep_senseLost hk.le h_s)

theorem keep_execBusFfStale {t} {i} {s} (hk : Kept ⟨0x100000000000000000000000000000000040000000000000000000000000000000000000000000000000000000000000000000000000000000000000000010000000000000000000000000000000300022b00000, 0x0, 0x1009⟩ P) (h_s : P s) :
    KeepsOut P (execBusFfStale t i s) := by
  unfold execBusFfStale
  exact keepsOut_next (keep_ffStale hk.le (keep_State_atTick hk.le h_s))

theorem keep_execHighDutyExit {i} {s} (hk : Kept ⟨0x300000000000000000000000000000040000000000000000000000000000000000000000000000000000000000000000000000000000000000000000010000000000000000000000000000000300022b00000, 0x0, 0x8⟩ P) (h_s : P s) :
    KeepsOut P (execHighDutyExit i s) := by
  unfold execHighDutyExit
  exact keepsOut_next (keep_dutyExit hk.le h_s)

theorem keep_execStandstillReduction {t} {i} {s} (hk : Kept ⟨0x4000000000000000000000000000000000000000000000000000000000000000000000000000000000000000000000000000000000000000000000000010000000000000000000000000000000000000000000, 0x0, 0x1001⟩ P) (h_s : P s) :
    KeepsOut P (execStandstillReduction t i s) := by
  unfold execStandstillReduction
  exact keepsOut_next (keep_reduceStill hk.le (keep_State_atTick hk.le h_s))

theorem keep_execOpenWinding {i} {s} (hk : Kept ⟨0x8000000008060000360000000000000e008e0000000300c00415600000001026284081020000002f05c02c6c60004000000000000000400008000000000000000000000000000280003e000000008000000000000000000000c40100000000088000e00000483100000b00b00022b80000, 0x100000000000000000000000000000000000000000001e00060000000000000000000000000000000000, 0x118⟩ P) (h_s : P s) :
    KeepsOut P (execOpenWinding i s) := by
  unfold execOpenWinding
  exact keepsOut_next (keep_windingOpen hk.le h_s)

theorem keep_execCurSumErr {i} {s} (hk : Kept ⟨0x8000000008060000360000000000000e00880000000300800415600000001046284081020000002f05c02c6c600040000000000000004000080000000000000000000000000002800010000000000000000000000000000000c40080000000088000e00000483100000b00b00022b80000, 0x100000000000000000000000000000000000000000001e00060000000000000000000000000000000000, 0x118⟩ P) (h_s : P s) :
    KeepsOut P (execCurSumErr i s) := by
  unfold execCurSumErr
  exact keepsOut_next (keep_sumError hk.le h_s)

theorem keep_execStallDetected {i} {s} (hk : Kept ⟨0x415f000000600000042f80e0000000f0df005ec000040000000000000000000000000000000000000000000000000800000000000000000000000000008040000cc0000000000008008e00000483100000200300022b80000, 0x0, 0x18⟩ P) (h_s : P s) :
    KeepsOut P (execStallDetected i s) := by
  unfold execStallDetected
  exact keepsOut_next (keep_declareStall hk.le h_s)

theorem keep_execStallFault {t} {i} {s} (hk : Kept ⟨0x8000000008060000360000000000000e008e0000000300c00415600000001006284081020000002f05c02c6c60004000000000000000400008000000000000000000000000000280003e000000008000000000000000000000c40000000000088000e00000483100000b00b00022b80000, 0x100000000000000000000000000000000000000000001e00060000000000000000000000000000000000, 0x1119⟩ P) (h_s : P s) :
    KeepsOut P (execStallFault t i s) := by
  unfold execStallFault
  exact keepsOut_next (keep_stallFault hk.le (keep_State_atTick hk.le h_s))

theorem keep_execDcProbeStart {t} {i} {s} (hk : Kept ⟨0xe002b000000000000000000000000000000000000000000000000000000000000000000000000000000000000000000000000000000000000000000000000000000040000000000000000000000000000000000000000000000, 0x3000000000000000000000000000000000000000000000000000, 0x1001⟩ P) (h_s : P s) :
    KeepsOut P (execDcProbeStart t i s) := by
  unfold execDcProbeStart
  exact keepsOut_next (keep_dcProbe hk.le (keep_State_atTick hk.le h_s))

theorem keep_execDaxisProbeStart {t} {i} {s} (hk : Kept ⟨0xe002b000000000000000000000000000000000000000000000000000000000000000000000000000000000000000000000000000000000000000000000000000000040000000000000000000000000000000000000000000000, 0x3000000000000000000000000000000000000000000000000000, 0x1001⟩ P) (h_s : P s) :
    KeepsOut P (execDaxisProbeStart t i s) := by
  unfold execDaxisProbeStart
  exact keepsOut_next (keep_daxisProbe hk.le (keep_State_atTick hk.le h_s))

theorem keep_execProbeComplete {t} {i} {s} (hk : Kept ⟨0x7000000000000000000000000000000003104150f4800000000000000000000000000000000000040060000000000000000000000000000000000000000000000000000000000000000000000000000d84000a40000000000000000000000000000000000300022b00000, 0x800000000000000000000000000000000000000000000000000000, 0x1209⟩ P) (h_s : P s) :
    KeepsOut P (execProbeComplete t i s) := by
  unfold execProbeComplete
  exact keepsOut_next (keep_probeDone hk.le (keep_State_atTick hk.le h_s))

theorem keep_execVwCal {path} {i} {s} (hk : Kept ⟨0x7000000000004000000000000000000000e043f0000000000000000000000000000000000000000c006c000000000000000000000000000000000000000000000000000000000000000000000000000000000c40000000000000000000000000000000000300022b00000, 0x3000000000000000000000000000000000000000000000000000, 0x608⟩ P) (h_s : P s) :
    KeepsOut P (execVwCal path i s) := by
  unfold execVwCal
  exact keepsOut_next (keep_viaObject hk.le h_s (fun x0 z1 => keep_vwCalWrite hk.le z1))

theorem keep_execVwMaxageExpiry {t} {i} {s} (hk : Kept ⟨0x100000000000000000000000000000000000000000000000000000, 0x0, 0x1001⟩ P) (h_s : P s) :
    KeepsOut P (execVwMaxageExpiry t i s) := by
  unfold execVwMaxageExpiry
  exact keepsOut_next (keep_vwStale hk.le (keep_State_atTick hk.le h_s))

theorem keep_followTrips {before} {s} {ports} (hk : Kept ⟨0x600000000000000000000000000000000000000000000000000000000000000000000000000000000000000000000000000000000000000000000000000000000004000000000000000000000000000000000000000000000000000000000000000000000000000000000000000000000, 0x0, 0x0⟩ P) (h_s : P s) :
    P (followTrips before s ports) := by
  unfold followTrips
  exact keep_foldl (fun x0 x1 z2 => keep_ite (keep_tripFollow hk.le z2) z2) h_s

theorem keep_execPeriodStart {g} {s} (hk : Kept ⟨0x607800002dfc000000000000003000000800000546fcf80030000000000190107040000000000000000000000004000000000000000000000000000000000000000400000000000000000000000c00005e5bf000000000000004040000000000000000000000000000000300022b00000, 0x780000007fec0000000000000000000000000000000000000000000000000000000, 0x1009⟩ P) (h_s : P s) :
    KeepsOut P (execPeriodStart g s) := by
  unfold execPeriodStart
  exact keepsOut_ite (keepsOut_next h_s) (keepsOut_next (keep_followTrips hk.le ((keep_foldl (fun x0 x1 z2 => keep_followPeriod hk.le z2) (keep_periodStart hk.le h_s)))))

theorem keep_execLoadAll {g} {s} (hk : Kept ⟨0x300000000000000000000000000000000000000000000000000000000000000000000000000000000000000000000000000000000000000000000000040004000000000000000000000000000000000000000000000000000000000000, 0x0, 0x0⟩ P) (h_s : P s) :
    KeepsOut P (execLoadAll g s) := by
  unfold execLoadAll
  exact keepsOut_next (keep_loadAll hk.le h_s)

theorem keep_execGroupWrite {p g s} (hk : Kept ⟨0x1000000000000000000000000000000000000000000000000000000000000000000000000000000000000000000000000000000000000000000000000040000100000000000000000000000000000000000000000000000000000000, 0x0, 0x0⟩ P) (h_s : P s) : KeepsOut P (execGroupWrite p g s) := by
  unfold execGroupWrite fieldWrite
  rw [show ∀ i, fieldReject s .GROUP i = s from fun i => rfl]
  exact keepsOut_next (keep_ite1 h_s (keep_ite1 h_s (keep_ite1 h_s (keep_writeGroup hk.le h_s))))

theorem keep_execPwmEnWrite {p on s} (hk : Kept ⟨0x8000000008062000360000000000000e008c0000000300c00415600000001006284081020000002f05c02c6c600040000000000000004000080000000000000000000000000002800012024000008000000000080000000000c40000000000088000e00000483100000b00b00022b80000, 0x100000000000000000000000000000000000000000001e00060000000000000000000000000000000000, 0x118⟩ P) (h_s : P s) : KeepsOut P (execPwmEnWrite p on s) := by
  unfold execPwmEnWrite fieldWrite
  rw [show ∀ i, fieldReject s .PWM_EN i = s from fun i => rfl]
  exact keepsOut_next (keep_ite1 h_s (keep_ite1 h_s (keep_ite1 h_s (keep_writePwmEn hk.le h_s))))

theorem keep_execShortCircuitTrip {t} {p} {high} {other} {s} (hk : Kept ⟨0x8602000008060000360000000000000e008e000000030fc00415600000001006284081020000002f05c02c6c60004000000000000000400008000000000000000000400000000280003e0000000081d8000190400000000000c40000000000088000e00000483100000b00b00022b80000, 0x100000000000000000000000000000000000000000001e00060000000000000000000000000000000000, 0x1119⟩ P) (h_s : P s) :
    KeepsOut P (execShortCircuitTrip t p high other s) := by
  unfold execShortCircuitTrip
  exact keepsOut_next (keep_followTrips hk.le (keep_shortTrip hk.le ((keep_State_atTick hk.le h_s))))

theorem keep_execTripnActive {t} {b} {s} (hk : Kept ⟨0x60200000006000000000000000000000004008000030fc00000000000000000000000000000000000000000000000000000000000000000000000000000000000004000000000000002000000008000000190400000000000000000000000000000000000000000000000000000000000, 0x0, 0x1001⟩ P) (h_s : P s) :
    KeepsOut P (execTripnActive t b s) := by
  unfold execTripnActive
  exact keepsOut_next (keep_followTrips hk.le (keep_tripnOn hk.le ((keep_State_atTick hk.le h_s))))

theorem keep_execTripnRelease {t} {b} {s} (hk : Kept ⟨0x80000000000000000000000000000000000000000000000000000000000000000000000000000000000000000000000000000000000000000000000000000000400000000000000000000000000000000000000000000000000000000000, 0x0, 0x1001⟩ P) (h_s : P s) :
    KeepsOut P (execTripnRelease t b s) := by
  unfold execTripnRelease
  exact keepsOut_next (keep_tripnOff hk.le (keep_State_atTick hk.le h_s))

theorem keep_execTripLatch {t} {p} {s} (hk : Kept ⟨0x8000000008060000360000000000000e008e0000000300c00415600000001006284081020000002f05c02c6c60004000000000000000400008000000000000000000000000000280003e000000008000000000800000000000c40000000000088000e00000483100000b00b00022b80000, 0x100000000000000000000000000000000000000000001e00060000000000000000000000000000000000, 0x1119⟩ P) (h_s : P s) :
    KeepsOut P (execTripLatch t p s) := by
  unfold execTripLatch
  exact keepsOut_next (keep_ite (keep_tripLatchOff hk.le ((keep_State_atTick hk.le h_s))) ((keep_State_atTick hk.le h_s)))

theorem keep_execTripClr {p s} (hk : Kept ⟨0x8000000360000000000000000000000000000000000000000000000000000000000000000000000000040000000000000000000000000000000000000000000000000000000000000000000000280c00000000000000000000000000000000000000000000000b00022b00000, 0x0, 0x108⟩ P) (h_s : P s) : KeepsOut P (execTripClr p s) :=
  keepsOut_next (s := (clearTrip s p).1) (keep_clearTrip hk.le h_s)

theorem keep_execPwmEventFire {t} {p} {src} {s} (hk : Kept ⟨0x4000000060100000000000000000000000000000000001870000000000000000000000000000000000000000000000000040000000000000000000000000000000000000000000000002000000000000000000001800000000000000000000000000000000000000000000000000300022b00000, 0x0, 0x1009⟩ P) (h_s : P s) :
    KeepsOut P (execPwmEventFire t p src s) := by
  unfold execPwmEventFire
  exact keepsOut_next (keep_trigoCaptures hk.le ((keep_State_atTick hk.le h_s)) ((keep_sourceEvent hk.le ((keep_State_atTick hk.le h_s)) (fun x0 x1 z2 => keep_monitorRequest hk.le z2))))

theorem keep_execTrigoPulseEnd {t} {k} {s} (hk : Kept ⟨0x1000000000000000000000000000000000000000000000000000000000000000000000000000000000000000000000000000000000000000000000000000000000000000000000000000000000000000000000000000000000000000000, 0x0, 0x1001⟩ P) (h_s : P s) :
    KeepsOut P (execTrigoPulseEnd t k s) := by
  unfold execTrigoPulseEnd
  exact keepsOut_next (keep_pulseEnd hk.le (keep_State_atTick hk.le h_s))

theorem keep_execInterlockTimeout {t} {p} {s} (hk : Kept ⟨0x8000000008060000360000000000000e008e0000000300c00415600000001006284081020000002f05c02c6c60004000000000000000400008000000000000000000000000000280003e0000000082c0000000000000000000c40000000000088000e00000483100000b00b00022b80000, 0x100000000000000000000000000000000000000000001e00060000000000000000000000000000000000, 0x1119⟩ P) (h_s : P s) :
    KeepsOut P (execInterlockTimeout t p s) := by
  unfold execInterlockTimeout
  exact keepsOut_next (keep_interlockTimeout hk.le (keep_State_atTick hk.le h_s))

theorem keep_execGdClr {p} {gatesLow} {s} (hk : Kept ⟨0x80000003600000000000000000000000080000000000000000000000000000000000000000000000000400000000000000000000000000000000000000000000000000000000000000008d8000000400000000000000000000000000000000000000000000000b00022b00000, 0x0, 0x108⟩ P) (h_s : P s) :
    KeepsOut P (execGdClr p gatesLow s) := by
  unfold execGdClr
  exact keepsOut_next (keep_gdClear hk.le h_s)

theorem keep_execLegTestResult {t} {p} {passed} {s} (hk : Kept ⟨0x80000000080600003600000000000000030a8000008300c000000000000000000000000000000000000000004000c00000000000000000000000000000000000000000000000028000062000000008d8000280c00000000000000000000000080000000000000000000000b00022b00000, 0x100000000000000000000000000000000000000000001e00060000000000000000000000000000000000, 0x1109⟩ P) (h_s : P s) :
    KeepsOut P (execLegTestResult t p passed s) := by
  unfold execLegTestResult
  exact keepsOut_next (keep_legTestResult hk.le (keep_State_atTick hk.le h_s))

theorem keep_execIlkMaxClr {p s} (hk : Kept ⟨0x8000000000000000000000000000000000000000000000000000000000000000000000, 0x0, 0x0⟩ P) (h_s : P s) : KeepsOut P (execIlkMaxClr p s) :=
  keepsOut_next (s := s.put .ILK_WAIT_MAX p 0) (keep_State_put hk.le h_s)

theorem keep_execGdApply {b s} (hk : Kept ⟨0x400000000000000000000000000000000000000000000000000000000000000000000000000000000000000000000000000000000000000000000000000000000000000000000000000000000000000000000000000000000000000000000, 0x0, 0x0⟩ P) (h_s : P s) : KeepsOut P (execGdApply b s) :=
  keepsOut_next (s := s.put .OVER_GD_APPLY b 1) (keep_State_put hk.le h_s)

theorem keep_execVdrvLockout {t} {b} {mv} {s} (hk : Kept ⟨0x8000000028060000360000000000000e009c0206000300c00415600000001006284081020000002f05c02c6c600040000000000000004000080000000000000000000000000002800012000009118000000000000000000000c40000000000088000e00000483100000b00b00022b80000, 0x100000000000000000000000000000000000000000001e00060000000000000000000000000000000000, 0x1119⟩ P) (h_s : P s) :
    KeepsOut P (execVdrvLockout t b mv s) := by
  unfold execVdrvLockout
  exact keepsOut_next (keep_vdrvLockout hk.le (keep_State_atTick hk.le h_s))

theorem keep_execVdrvLockoutRelease {t} {b} {mv} {s} (hk : Kept ⟨0xc000000000000000002000000200000006000300000000820001000000000000000000000000000400040000000000000000000000000000000000000000000000000000010000001010000000000000000100000040018000000000000000000000000000000b00022b00000, 0x0, 0x1009⟩ P) (h_s : P s) :
    KeepsOut P (execVdrvLockoutRelease t b mv s) := by
  unfold execVdrvLockoutRelease
  exact keepsOut_next (keep_vdrvRelease hk.le (keep_State_atTick hk.le h_s))

theorem keep_execDdieBankRelease {t} {b} {s} (hk : Kept ⟨0xc000000000000000002000000200202086000300000000820001000000000000000000000000000400040000000000000000000000000000000000000000000000000000010000000000000000000000000100000040018000000000000000000000000000000b00022b00000, 0x0, 0x1009⟩ P) (h_s : P s) :
    KeepsOut P (execDdieBankRelease t b s) := by
  unfold execDdieBankRelease
  exact keepsOut_next (keep_bankRelease hk.le (keep_State_atTick hk.le h_s))

theorem keep_execBootstrapLockout {t} {p} {s} (hk : Kept ⟨0x207c000000000000000000000040000000700c00000000000000000000000000000000000000000000000000000000000000000000000000000000000000000000000000002000000008420002400000000000000000000000000000000000000000000000000000000000000, 0x0, 0x1001⟩ P) (h_s : P s) :
    KeepsOut P (execBootstrapLockout t p s) := by
  unfold execBootstrapLockout
  exact keepsOut_next (keep_bootstrapLockout hk.le (keep_State_atTick hk.le h_s))

theorem keep_execBootstrapLockoutRelease {t} {p} {s} (hk : Kept ⟨0x2000000000000000000000000000000000200000000000000000000000000000000000000000000000000000000000000000000000000000000000000000000000000000000000000000020000000000000000000000000000000000000000000000000000000000000000000, 0x0, 0x1001⟩ P) (h_s : P s) :
    KeepsOut P (execBootstrapLockoutRelease t p s) := by
  unfold execBootstrapLockoutRelease
  exact keepsOut_next (keep_bootstrapRelease hk.le (keep_State_atTick hk.le h_s))

theorem keep_execBootstrapUvFault {t} {p} {s} (hk : Kept ⟨0x8000000008060000360000000000000e008e0000002300c00415600000001006284081020000002f05c02c6c60004000000000000000400008000000000000000000000000000280003e0000000080c0000000000000000000c40000000000088000e00000483100000b00b00022b80000, 0x100000000000000000000000000000000000000000001e00060000000000000000000000000000000000, 0x1119⟩ P) (h_s : P s) :
    KeepsOut P (execBootstrapUvFault t p s) := by
  unfold execBootstrapUvFault
  exact keepsOut_next (keep_bootstrapFault hk.le (keep_State_atTick hk.le h_s))

theorem keep_execDieOverTemperature {t} {b} {s} (hk : Kept ⟨0x8000000008062000360000000000000e008c0100000300c00415600000001006284081020000002f05c02c6c600040000000000000004000080000000000000000000000000002800012000000428000000000000000000000c40000000000088000e00000483100000b00b00022b80000, 0x100000000000000000000000000000000000000000001e00060000000000000000000000000000000000, 0x1119⟩ P) (h_s : P s) :
    KeepsOut P (execDieOverTemperature t b s) := by
  unfold execDieOverTemperature
  exact keepsOut_next (keep_dieHot hk.le (keep_State_atTick hk.le h_s))

theorem keep_execDieOverTemperatureRelease {t} {b} {temp} {s} (hk : Kept ⟨0x8000000000000000000000000000100000000000000000000000000000000000000000000000000000000000000000000000000000000000000000000000000000000000000000000020000000000000000000000000000000000000000000000000000000000800000000000, 0x0, 0x1001⟩ P) (h_s : P s) :
    KeepsOut P (execDieOverTemperatureRelease t b temp s) := by
  unfold execDieOverTemperatureRelease
  exact keepsOut_next (keep_dieCool hk.le (keep_State_atTick hk.le h_s))

theorem keep_execVbusReading {t} {mv} {s} (hk : Kept ⟨0x8000000028060000360000000000000e009ff800000300c00415600000181006284081020000003f05c02c6c60004000000000000000400008000000000000000000000000000280003e1ce000008000000000000000000000c42010000000088000e00000483100000b00b00022b80000, 0x100000000000000000000000000000000000000000001e00060000000000000000000000000000000000, 0x1119⟩ P) (h_s : P s) :
    KeepsOut P (execVbusReading t mv s) := by
  unfold execVbusReading
  exact keepsOut_next (keep_foldl (fun x3 x4 z5 => keep_State_put hk.le (keep_State_setBit hk.le (keep_State_put hk.le (keep_State_put hk.le z5)))) ((keep_judgeBus hk.le (keep_State_atTick hk.le h_s) (fun x0 x1 z2 => keep_haltOff hk.le z2))))

theorem keep_execBusStale {t} {s} (hk : Kept ⟨0x806000000000000000000000000000000030080000000000000000000000000000000000000000000004000000000000000000000000000000000000000000000000000001000c000000000000000000000000000000000000000000000000000000000000000b00022b00000, 0x0, 0x1009⟩ P) (h_s : P s) :
    KeepsOut P (execBusStale t s) := by
  unfold execBusStale
  exact keepsOut_next (keep_busStale hk.le (keep_State_atTick hk.le h_s))

theorem keep_execBusCoast {t} {b} {s} (hk : Kept ⟨0x8000000028060000360000000000000e009c0800000300c00415600000001006284081020000002f05c02c6c60004000000000000000400008000000000000000000000000000280001204c000088000000000000000000000c40000000000088000e00000483100000b00b00022b80000, 0x100000000000000000000000000000000000000000001e00060000000000000000000000000000000000, 0x1119⟩ P) (h_s : P s) :
    KeepsOut P (execBusCoast t b s) := by
  unfold execBusCoast
  exact keepsOut_next (keep_setCoast hk.le (keep_State_put hk.le (keep_State_atTick hk.le h_s)))

theorem keep_execCoastEnd {t} {s} (hk : Kept ⟨0xc00000000000000000200000020000000600030000000082000100000000000000000000000000040004000000000000000000000000000000000000000000000000000001000c000000000000000000000100000040018000000000000000000000000000000b00022b00000, 0x0, 0x1009⟩ P) (h_s : P s) :
    KeepsOut P (execCoastEnd t s) := by
  unfold execCoastEnd
  exact keepsOut_next (keep_coastEnd hk.le (keep_State_atTick hk.le h_s))

theorem keep_execRtStop {t} {s} (hk : Kept ⟨0x2000000000000000000000000000004080000000001e00000000000040000000000000000000000000000000000000000000000000000000000000000000000000000000000000000000000000000000e00000000000000000300022b00000, 0x0, 0x1009⟩ P) (h_s : P s) :
    KeepsOut P (execRtStop t s) := by
  unfold execRtStop
  exact keepsOut_next (keep_rtStop hk.le (keep_State_atTick hk.le h_s))

theorem keep_execHardOvervoltage {t} {b} {s} (hk : Kept ⟨0x8000000008062000360000000000000e008e0000000300c00415600000001006284081020000002f05c02c6c60004000000000000000400008000000000000000000000000000280003e000000848000000000000000000000c40000000000088000e00000483100000b00b00022b80000, 0x100000000000000000000000000000000000000000001e00060000000000000000000000000000000000, 0x1119⟩ P) (h_s : P s) :
    KeepsOut P (execHardOvervoltage t b s) := by
  unfold execHardOvervoltage
  exact keepsOut_next (keep_hardOver hk.le (keep_State_atTick hk.le h_s))

theorem keep_execOvStopBathEnd {t} {s} (hk : Kept ⟨0x4060000000000000002000000228000006300f00000000820001000000000000000000000000000400040000000000000000000000000000000000000000000000000000016200000000000000000000000100000040018000000000000000000000000000000300022b00000, 0x0, 0x1009⟩ P) (h_s : P s) :
    KeepsOut P (execOvStopBathEnd t s) := by
  unfold execOvStopBathEnd
  exact keepsOut_next (keep_overReturn hk.le (keep_State_atTick hk.le h_s))

theorem keep_execBusComparatorRelease {t} {b} {coast} {hard} {s} (hk : Kept ⟨0xc00000000000000000200000020000000600030000000082000100000000000000000000000000040004000000000000000000000000000000000000000000000000000001000c0000c0000000000000000100000040018000000000000000000000000000000b00022b00000, 0x0, 0x1009⟩ P) (h_s : P s) :
    KeepsOut P (execBusComparatorRelease t b coast hard s) := by
  unfold execBusComparatorRelease
  exact keepsOut_next (keep_comparatorRelease hk.le (keep_State_atTick hk.le h_s))

theorem keep_execHsHoldExpiry {t} {i} {s} (hk : Kept ⟨0x60000000000000000000000040000000300c00000000000000000000000000000000000000000000000000000000000000000000000000000000000000000000000000002000000008000000000000000000000000000000000000000000000000000000000000000000000, 0x0, 0x1001⟩ P) (h_s : P s) :
    KeepsOut P (execHsHoldExpiry t i s) := by
  unfold execHsHoldExpiry
  exact keepsOut_next (keep_hsExpiry hk.le (keep_State_atTick hk.le h_s))

theorem keep_execSbStillExpiry {t} {i} {s} (hk : Kept ⟨0x60000000000000000000000040000000300c00000000000000000000000000000000000000000000000000000000000000000000000000000000000000000000000000002000000008000000000000000000000000000000000000000000000000000000000000000000000, 0x0, 0x1001⟩ P) (h_s : P s) :
    KeepsOut P (execSbStillExpiry t i s) := by
  unfold execSbStillExpiry
  exact keepsOut_next (keep_stillExpiry hk.le (keep_State_atTick hk.le h_s))

theorem keep_execSbCmd {value s} (hk : Kept ⟨0x8000000000060000360000000000000e00868000000300c00415600000001006284081020000002f05c02c6c60004000000000000000400008000000000000000000000000000280003e200000008000000000000000000000c40000000000088000e00000483100000b00300022b80000, 0x100000000000000000000000000000000000000000001e00060000000000000000000000000000000000, 0x118⟩ P) (h_s : P s) : KeepsOut P (execSbCmd value s) := by
  unfold execSbCmd fieldWrite
  rw [show ∀ i, fieldReject s .SB_CMD i = s from fun i => rfl]
  exact keepsOut_next (keep_ite1 h_s (keep_ite1 h_s (keep_ite1 h_s (keep_writeSbCmd hk.le h_s))))

theorem keep_execShutdown {i} {s} (hk : Kept ⟨0x800000002c060000360000000402000e07ae800000e300f004156008200010062842ff0e0000003fbdf02dec6000c00000000000000040000800000000000000000000000000028000162000000088d8000280c00000140000c4001800000008800ae00002483100000b00b00022b80000, 0x100000000000000000000000000000000000000000001e000601f5000000000000000000000000000000, 0x118⟩ P) (h_s : P s) :
    KeepsOut P (execShutdown i s) := by
  unfold execShutdown
  exact keepsOut_next (keep_controlTo hk.le h_s)

theorem keep_execSwitchOn {i} {s} (hk : Kept ⟨0x800000002c060000360000000402000e07ae800000e300f004156008200010062842ff0e0000003fbdf02dec6000c00000000000000040000800000000000000000000000000028000162000000088d8000280c00000140000c4001800000008800ae00002483100000b00b00022b80000, 0x100000000000000000000000000000000000000000001e000601f5000000000000000000000000000000, 0x118⟩ P) (h_s : P s) :
    KeepsOut P (execSwitchOn i s) := by
  unfold execSwitchOn
  exact keepsOut_next (keep_controlTo hk.le h_s)

theorem keep_execEnableOperation {i} {s} (hk : Kept ⟨0x800000002c060000360000000402000e07ae800000e300f004156008200010062842ff0e0000003fbdf02dec6000c00000000000000040000800000000000000000000000000028000162000000088d8000280c00000140000c4001800000008800ae00002483100000b00b00022b80000, 0x100000000000000000000000000000000000000000001e000601f5000000000000000000000000000000, 0x118⟩ P) (h_s : P s) :
    KeepsOut P (execEnableOperation i s) := by
  unfold execEnableOperation
  exact keepsOut_next (keep_controlTo hk.le h_s)

theorem keep_execDisableOperation {i} {s} (hk : Kept ⟨0x800000002c060000360000000402000e07ae800000e300f004156008200010062842ff0e0000003fbdf02dec6000c00000000000000040000800000000000000000000000000028000162000000088d8000280c00000140000c4001800000008800ae00002483100000b00b00022b80000, 0x100000000000000000000000000000000000000000001e000601f5000000000000000000000000000000, 0x118⟩ P) (h_s : P s) :
    KeepsOut P (execDisableOperation i s) := by
  unfold execDisableOperation
  exact keepsOut_next (keep_controlTo hk.le h_s)

theorem keep_execQuickStop {i} {s} (hk : Kept ⟨0x800000002c060000360000000402000e07ae800000e300f004156008200010062842ff0e0000003fbdf02dec6000c00000000000000040000800000000000000000000000000028000162000000088d8000280c00000140000c4001800000008800ae00002483100000b00b00022b80000, 0x100000000000000000000000000000000000000000001e000601f5000000000000000000000000000000, 0x118⟩ P) (h_s : P s) :
    KeepsOut P (execQuickStop i s) := by
  unfold execQuickStop
  exact keepsOut_next (keep_controlTo hk.le h_s)

theorem keep_execDisableVoltage {i} {s} (hk : Kept ⟨0x800000002c060000360000000402000e07ae800000e300f004156008200010062842ff0e0000003fbdf02dec6000c00000000000000040000800000000000000000000000000028000162000000088d8000280c00000140000c4001800000008800ae00002483100000b00b00022b80000, 0x100000000000000000000000000000000000000000001e000601f5000000000000000000000000000000, 0x118⟩ P) (h_s : P s) :
    KeepsOut P (execDisableVoltage i s) := by
  unfold execDisableVoltage
  exact keepsOut_next (keep_controlTo hk.le h_s)

theorem keep_execFaultReset {i} {gatesLow} {s} (hk : Kept ⟨0x800000002c060000360000000402000e07ae800000e300f004156008200010062842ff0e0000003fbdf02dec6000c00000000000000040000800000000000000000000000000028000162000000088d8000280c00000140000c4001800000008800ae00002483100000b00b00022b80000, 0x100000000000000000000000000000000000000000001e000601f5000000000000000000000000000000, 0x118⟩ P) (h_s : P s) :
    KeepsOut P (execFaultReset i gatesLow s) := by
  unfold execFaultReset
  extract_lets -merge -underBinder +onlyGivenNames y0
  have z1 : ∀ x2, P x2 → P (y0 x2) := by
    intro x2 z3
    exact keep_viaDrive hk.le z3 (fun x4 z5 => keep_mk (keep_writeControlword hk.le z5))
  clear_value y0
  exact keepsOut_next (z1 _ (keep_ite (keep_controlTo hk.le h_s) h_s))

theorem keep_execEncoderEdge {t} {c} {a} {b} {s} (hk : Kept ⟨0x79b0000000000000000000000000000000000000000000000000000000000000000000000000000000000004000000000000000000000000000000000000000000000000e880000000000000000000000000000000000000000000000000000000000000000000000300022b00000, 0x0, 0x1039⟩ P) (h_s : P s) :
    KeepsOut P (execEncoderEdge t c a b s) := by
  unfold execEncoderEdge
  exact keepsOut_next (keep_sampled hk.le h_s (fun x0 z1 => keep_encoderEdge hk.le (keep_State_atTick hk.le z1)))

theorem keep_execHallEdge {t} {c} {state} {s} (hk : Kept ⟨0x79f00000000000000000000000000000000000000000000000000e0000000000000000000000000000000004000000000000000000000000000000000000000000000001e880000000000000000000000000000000000000000000000000000000000000000000000300022b00000, 0x0, 0x1039⟩ P) (h_s : P s) :
    KeepsOut P (execHallEdge t c state s) := by
  unfold execHallEdge
  exact keepsOut_next (keep_sampled hk.le h_s (fun x0 z1 => keep_hallEdge hk.le (keep_State_atTick hk.le z1)))

theorem keep_execEncFault {t} {c} {s} (hk : Kept ⟨0x200000000000360000000000000000000000000000000000000000000000000000000000000000000000000040000000000000000000000000000000000000000000008006000000000000000000000000000000000000000000000000000000800000000000000000300022b00000, 0x0, 0x1109⟩ P) (h_s : P s) :
    KeepsOut P (execEncFault t c s) := by
  unfold execEncFault
  exact keepsOut_next (keep_ite (keep_encFault hk.le ((keep_State_atTick hk.le h_s))) ((keep_State_atTick hk.le h_s)))

theorem keep_execEncPosPreset {c count s} (hk : Kept ⟨0x40000000000000000000000000000000000000000000000006880000000000000000000000000000000000000000000000000000000000000000000000300022b00000, 0x0, 0x8⟩ P) (h_s : P s) : KeepsOut P (execEncPosPreset c count s) := by
  unfold execEncPosPreset fieldWrite
  rw [show ∀ i, fieldReject s .ENC_POS i = s from fun i => rfl]
  exact keepsOut_next (keep_ite1 h_s (keep_ite1 h_s (keep_ite1 h_s (keep_encPreset hk.le h_s))))

theorem keep_execSpeedWindowEnd {c} {s} (hk : Kept ⟨0xc7800000000000000000000000000000000000000000000000000000000000000000000000000000000000000000000000000000000000000000000000000000000000003000000000000000000000000000000000000000000000000000000000000000000000000000000000000, 0x0, 0x1001⟩ P) (h_s : P s) :
    KeepsOut P (execSpeedWindowEnd c s) := by
  unfold execSpeedWindowEnd
  exact keepsOut_next (keep_sampled hk.le h_s (fun x0 z1 => keep_speedWindow hk.le z1))

theorem keep_execStillDetected {t} {c} {s} (hk : Kept ⟨0x3000000000000000000000000000000000000000000000000000000000000000000000000000000000000, 0x0, 0x1001⟩ P) (h_s : P s) :
    KeepsOut P (execStillDetected t c s) := by
  unfold execStillDetected
  exact keepsOut_next (keep_judgeEmpty hk.le (keep_State_atTick hk.le h_s))

theorem keep_execEncAligned {t} {i} {s} (hk : Kept ⟨0x80000000000000000000000000000000000000000000000000000000000000000000000000000000000040000000000000000000000000000000000000000000000002800000000000000000000000000000000000000000000000000000000000000000000000300022b00000, 0x0, 0x1009⟩ P) (h_s : P s) :
    KeepsOut P (execEncAligned t i s) := by
  unfold execEncAligned
  exact keepsOut_next (keep_encAlign hk.le (keep_State_atTick hk.le h_s))

theorem keep_execFollowError {t} {i} {s} (hk : Kept ⟨0x8000200008060000360000000000000e00880000000300800415600000001006284081020000002f05c02c6c600040000000000000004000080000000000000000000000000006800010000000000000000000000000000000c40000000000088000e00000483100000b00b00022b80000, 0x100000000000000000000000000000000000000000001e00060000000000000000000000000000000000, 0x1119⟩ P) (h_s : P s) :
    KeepsOut P (execFollowError t i s) := by
  unfold execFollowError
  exact keepsOut_next (keep_followFault hk.le (keep_State_atTick hk.le h_s))

theorem keep_execEncFaultClr {c s} (hk : Kept ⟨0x100000000360000000000000000000000000000000000000000000000000000000000000000000000000000000000000000000000000000000000000000000000000002000000000000000000000000000000000000000000000000000000000000000000000000000000000000, 0x0, 0x100⟩ P) (h_s : P s) : KeepsOut P (execEncFaultClr c s) :=
  keepsOut_next (s := encFaultClear s c) (keep_encFaultClear hk.le h_s)

theorem keep_execEncAlign {c s} (hk : Kept ⟨0x2000000000000000000000000000000000000000000000000000000000000000000000000000000000000, 0x0, 0x0⟩ P) (h_s : P s) : KeepsOut P (execEncAlign c s) :=
  keepsOut_next (s := unalign s c) (keep_unalign hk.le h_s)

theorem keep_execCapArm {c s} (hk : Kept ⟨0x2000000000000000000000000000000000000000000000000000000000000000000000000000000000000, 0x0, 0x0⟩ P) (h_s : P s) : KeepsOut P (execCapArm c s) :=
  keepsOut_next (s := s.setBit .FB_STAT c armedBit true) (keep_State_setBit hk.le h_s)

theorem keep_execCsShoot {t} {s} (hk : Kept ⟨0x400000000000000000000000000000000000000000000000000000000000000000000000000000000000000000000000000000000000000000000000000000000000300000000000000000000000000000000000000000000000000000000000000000000000000000000000000000, 0x0, 0x0⟩ P) (h_s : P s) :
    KeepsOut P (execCsShoot t s) := by
  unfold execCsShoot
  exact keepsOut_next (keep_shootSheet hk.le h_s)

theorem keep_execCsCancel { s} (hk : Kept ⟨0x100000000000000000000000000000000000000000000000000000000000000000000000000000000000000000, 0x0, 0x0⟩ P) (h_s : P s) : KeepsOut P (execCsCancel  s) :=
  keepsOut_next (s := s.put .CS_PEND 0 0) (keep_State_put hk.le h_s)

theorem keep_execContactSheetFire {s} (hk : Kept ⟨0x100000000000000000000000000000000000000000000000000000000000000000000000000000000000000040000000000000000000000000000000000000000002d00000000000000000000000000000000000000000000000000000000000000000000000000000300022b00000, 0x0, 0x1009⟩ P) (h_s : P s) :
    KeepsOut P (execContactSheetFire s) := by
  unfold execContactSheetFire
  exact keepsOut_next (keep_fireSheet hk.le h_s)

theorem keep_execConversionResult {t} {c} {ch} {raw} {ovr} {epoch} {s} (hk : Kept ⟨0x40001dc6e1000000000000000000000000000000000000000000000000000000000000078000000000000000000000000040000000000000000000200000000000000020008000000000000000000000000000000800000000000000000000000000000000000000000000000000300022b00000, 0x2000000000000000000000000000000000000000000000000000000000000000000000000000000000000000000000, 0x1009⟩ P) (h_s : P s) :
    KeepsOut P (execConversionResult t c ch raw ovr epoch s) := by
  unfold execConversionResult
  exact keepsOut_next (keep_conversionResult hk.le (keep_State_atTick hk.le h_s))

theorem keep_execInjectedConversionStart {t} {c} {s} (hk : Kept ⟨0x31e0000000000000000000000000000000000000000000000000000000000000000000000000000000000000000000000000000000000000000000000000000000010000000000000000000000000000000000000000000000000000000000000000000000000000000000000000000000, 0x0, 0x1001⟩ P) (h_s : P s) :
    KeepsOut P (execInjectedConversionStart t c s) := by
  unfold execInjectedConversionStart
  exact keepsOut_next (keep_injStart hk.le (keep_State_atTick hk.le h_s))

theorem keep_execXportMonitorSample {t} {p} {s} (hk : Kept ⟨0x4000000060000000000000000000000000000000000000000000000000000000000000000000000000000000000000000000000000000000000000000000000000000000000000000000000000000000000000000800000000000000000000000000000000000000000000000000000000000000, 0x0, 0x1001⟩ P) (h_s : P s) :
    KeepsOut P (execXportMonitorSample t p s) := by
  unfold execXportMonitorSample
  exact keepsOut_next (keep_monitorDeferred hk.le (keep_State_atTick hk.le h_s))

theorem keep_execConverterCheck {t} {j} {a} {b} {port} {free} {s} (hk : Kept ⟨0x14de00000000000000000000000000000000000000000000000000000000000000000000000000000000000000000000040000000000000000000000000000000006000021110000000000000000000000000000000000000000000000000000000000000000000000000000000300022b00000, 0x300000000000000000000000000000000000000000000000000000000000000000000000000000000000000000000000000, 0x1009⟩ P) (h_s : P s) :
    KeepsOut P (execConverterCheck t j a b port free s) := by
  unfold execConverterCheck
  exact keepsOut_next (keep_converterCheck hk.le (keep_State_atTick hk.le h_s))

theorem keep_execConverterRetirement {t} {c} {g} {s} (hk : Kept ⟨0x39d81d8638000008060700360000000000000e00880000000300800415600000001006284081020000002f05c02c6c60004006000000000000400018000000000001180000421c000002800010000000000000000000000000000000c40010000000088000e00000483100000b00b00022b80000, 0x100000000000000000000000000000000000000000001e00060000000000000000000000000000000000, 0x1319⟩ P) (h_s : P s) :
    KeepsOut P (execConverterRetirement t c g s) := by
  unfold execConverterRetirement
  exact keepsOut_next (keep_retirement hk.le (keep_State_atTick hk.le h_s))

theorem keep_execSelfCalibrationDone {t} {c} {ofs} {gain} {code} {s} (hk : Kept ⟨0x1ae1d8018000000000000000000000000000000000000000000000000000000000000000000000000000000000000000040000000000000000000000000000000000000000864000000000000000000000000000000000000000000000010000000000000000000000000000000300022b00000, 0x0, 0x1009⟩ P) (h_s : P s) :
    KeepsOut P (execSelfCalibrationDone t c ofs gain code s) := by
  unfold execSelfCalibrationDone
  exact keepsOut_next (keep_calDone hk.le (keep_State_atTick hk.le h_s))

theorem keep_execConverterReturn {t} {c} {s} (hk : Kept ⟨0x38401d801800000000000036000000000000000000000000000000000000000000000000000000000000000000000000004000000000000000000008000000000000180000000c000000000000000000000000000000000000000000000010000000000000000000000000000000300022b00000, 0x0, 0x1109⟩ P) (h_s : P s) :
    KeepsOut P (execConverterReturn t c s) := by
  unfold execConverterReturn
  exact keepsOut_next (keep_convReturn hk.le (keep_State_atTick hk.le h_s))

theorem keep_execPeriodicCalibrationDue {t} {c} {s} (hk : Kept ⟨0x7801d8038000000000000000000000000000000000000000000000000000000000000000000000000000000000000000000000000000000000000000000000000008000000004000000000000000000000000000000000000000000000010000000000000000000000000000000000000000000, 0x400000000000000000000000000000000000000000000000000000000000000000000000000000000000000000000000000, 0x1001⟩ P) (h_s : P s) :
    KeepsOut P (execPeriodicCalibrationDue t c s) := by
  unfold execPeriodicCalibrationDue
  exact keepsOut_next (keep_calibrationDue hk.le (keep_State_atTick hk.le h_s))

theorem keep_execCalibrationDeferredStart {t} {c} {s} (hk : Kept ⟨0x1801d8038000000000000000000000000000000000000000000000000000000000000000000000000000000000000000000000000000000000000000000000000000000000004000000000000000000000000000000000000000000000010000000000000000000000000000000000000000000, 0x0, 0x1001⟩ P) (h_s : P s) :
    KeepsOut P (execCalibrationDeferredStart t c s) := by
  unfold execCalibrationDeferredStart
  exact keepsOut_next (keep_calibrationDeferred hk.le (keep_State_atTick hk.le h_s))

theorem keep_execCalStart {c s} (hk : Kept ⟨0x1801d8038000000000000000000000000000000000000000000000000000000000000000000000000000000000000000000000000000000000000000000000000000000000404000000000000000000000000000000000000000000000010000000000000000000000000000000000000000000, 0x0, 0x0⟩ P) (h_s : P s) : KeepsOut P (execCalStart c s) :=
  keepsOut_next (s := (calCommand s c).1) (keep_calCommand hk.le h_s)

theorem keep_execSyscalZero {path} {s} (hk : Kept ⟨0x180000000000000000007000000000004000000000000000000000000000000000000000000000000000000000000000000c006c000000000000000000000000000600000000000000000000000000000000000000000000000000000000000000000000000000000000000000000300022b00000, 0x0, 0x608⟩ P) (h_s : P s) :
    KeepsOut P (execSyscalZero path s) := by
  unfold execSyscalZero
  exact keepsOut_next (keep_viaObject hk.le h_s (fun x0 z1 => keep_syscalWrite hk.le z1))

theorem keep_execSyscalRef {path} {s} (hk : Kept ⟨0x180000000000000000007000000000004000000000000000000000000000000000000000000000000000000000000000000c006c000000000000000000000000000600000000000000000000000000000000000000000000000000000000000000000000000000000000000000000300022b00000, 0x0, 0x608⟩ P) (h_s : P s) :
    KeepsOut P (execSyscalRef path s) := by
  unfold execSyscalRef
  exact keepsOut_next (keep_viaObject hk.le h_s (fun x0 z1 => keep_syscalWrite hk.le z1))

theorem keep_execSyscalAverageDone {t} {code} {bad} {s} (hk : Kept ⟨0xe80000000000000000007000000000000000000000000000000000000000000000000000000000000000000000000000000400600000000000000000000000000006000c03c0000000000000000000000000000000000000000000000000000000000000000000000000000000000300022b00000, 0x0, 0x1209⟩ P) (h_s : P s) :
    KeepsOut P (execSyscalAverageDone t code bad s) := by
  unfold execSyscalAverageDone
  exact keepsOut_next (keep_syscalDone hk.le (keep_State_atTick hk.le h_s))

theorem keep_execThermalScanDue {t} {k} {s} (hk : Kept ⟨0x70dfdf0000000b600000008060000360000000000000e00880000000300800415600000001006284081020000002f05c02c6c6000400000000000000040000860002be000000000004000000002800010000000000000000000000000000000c40000000000088000e00000483100000b00b00022b80000, 0xff401fff800000000000000000100000000000000000000000000000000000000000001e00060000000000000000000000000000000000, 0x1119⟩ P) (h_s : P s) :
    KeepsOut P (execThermalScanDue t k s) := by
  unfold execThermalScanDue
  exact keepsOut_next (keep_scanDue hk.le (keep_State_atTick hk.le h_s))

theorem keep_execScanResult {t} {k} {a} {b} {c} {ovr} {s} (hk : Kept ⟨0xdbdf00000008000000008060000360000000000000e00880000000300800415600000001006284081020000002f05c02c6c600040000000000000004000086000a3e000000000000000000002800010000000000000000000000000000000c40000000000088000e00000483100000b00b00022b80000, 0x100000000000000000000000000000000000000000001e00060000000000000000000000000000000000, 0x1119⟩ P) (h_s : P s) :
    KeepsOut P (execScanResult t k a b c ovr s) := by
  unfold execScanResult
  exact keepsOut_next (keep_scanResult hk.le (keep_State_atTick hk.le h_s))

theorem keep_execThmNoScan {t} {k} {s} (hk : Kept ⟨0x520000000000000000000000000000000000000000000000000000000000000000000000000000000000000000000000000000040000000000000000000006000000000000000000000000000000000000000000000000000000000000000000000000000000000000000000000000000300022b00000, 0x0, 0x1009⟩ P) (h_s : P s) :
    KeepsOut P (execThmNoScan t k s) := by
  unfold execThmNoScan
  exact keepsOut_next (keep_noScan hk.le (keep_State_atTick hk.le h_s))

theorem keep_execThmSuspect {t} {k} {s} (hk : Kept ⟨0xc00000000000000000000000036000000000000000000000000000000000000000000000000000000000000000000000000004000000000000000000008000001a000000000000000000000000000000000000000000000000000000000000000000000000000000000000000000000300022b00000, 0x0, 0x1109⟩ P) (h_s : P s) :
    KeepsOut P (execThmSuspect t k s) := by
  unfold execThmSuspect
  exact keepsOut_next (keep_sensorSuspect hk.le (keep_State_atTick hk.le h_s))

theorem keep_execThmFailed {t} {k} {s} (hk : Kept ⟨0x50f000000008000000008060700360000000000000e00880000000300800415600000001006284081020000002f05c02c6c60004006000000000000400018600005a000000000000000000002800010000000000000000000000000000000c40000000000088000e00000483100000b00b00022b80000, 0x100000000000000000000000000000000000000000001e00060000000000000000000000000000000000, 0x1319⟩ P) (h_s : P s) :
    KeepsOut P (execThmFailed t k s) := by
  unfold execThmFailed
  exact keepsOut_next (keep_sensorFailed hk.le (keep_State_atTick hk.le h_s))

theorem keep_execThmSubstitute {t} {k} {s} (hk : Kept ⟨0xd0c00000000000000000000000036000000000000000000000000000000000000000000000000000000000000000000000000004000000000000000000008600001a000000000000000000000000000000000000000000000000000000000000000000000000000000000000000000000300022b00000, 0x0, 0x1109⟩ P) (h_s : P s) :
    KeepsOut P (execThmSubstitute t k s) := by
  unfold execThmSubstitute
  exact keepsOut_next (keep_sensorSubstituted hk.le (keep_State_atTick hk.le h_s))

theorem keep_execThmRecovered {t} {k} {s} (hk : Kept ⟨0xd0ca0000000000000000000000036000000000000000000000000000000000000000000000000000000000000000000000000004000000000000000000008600001a000000000000000000000000000000000000000000000000000000000000000000000000000000000000000000000300022b00000, 0x0, 0x1109⟩ P) (h_s : P s) :
    KeepsOut P (execThmRecovered t k s) := by
  unfold execThmRecovered
  exact keepsOut_next (keep_sensorRecovered hk.le (keep_State_atTick hk.le h_s))

theorem keep_execSnsEnWrite {k on s} (hk : Kept ⟨0xd9db0000000000000000000000036000000000000000000000000000000000000000000000000000000000000000000000000004000000000000000000008600000e000800000000000000000000000000000000000000000000000000000000000000000000000000000000000000000300022b00000, 0x0, 0x108⟩ P) (h_s : P s) : KeepsOut P (execSnsEnWrite k on s) := by
  unfold execSnsEnWrite fieldWrite
  rw [show ∀ i, fieldReject s .SNS_EN i = s from fun i => rfl]
  exact keepsOut_next (keep_ite1 h_s (keep_ite1 h_s (keep_ite1 h_s (keep_writeSnsEn hk.le h_s))))

theorem keep_execThrHoldExpiry {t} {i} {s} (hk : Kept ⟨0x400000000000000000000000000000000000000000000000000000000000000000000000000000000000000000000000000000000000000000000000000004000000000000000000000000000000000000000000000000000000000000000000000000000000000000000000000000000000000000000, 0x0, 0x1001⟩ P) (h_s : P s) :
    KeepsOut P (execThrHoldExpiry t i s) := by
  unfold execThrHoldExpiry
  exact keepsOut_next (keep_holdExpiry hk.le (keep_State_atTick hk.le h_s))

theorem keep_execBudgetEvaluation {t} {s} (hk : Kept ⟨0x3000000000000000000000200000000000000000000000000000000000000000000000000000000000000000000000000000000040000000000000000000000e00000000000000000000000000000000000000000000000000000000000000000000000000000000000000000000000000300022b00000, 0x40100000000000000000000000000000000000000000000000000000000000000000000000000000000000000000000000000000000000000, 0x1009⟩ P) (h_s : P s) :
    KeepsOut P (execBudgetEvaluation t s) := by
  unfold execBudgetEvaluation
  exact keepsOut_next (keep_budgetEvaluation hk.le (keep_State_atTick hk.le h_s))

theorem keep_execLinkEnumeration {s} (hk : Kept ⟨0xc4000000000000000000000000000000000000000000000000000000000000000000000000000000000000000000000000000000000000000000002000e00000000000000000000000000000000000000000000000000000000000000000000000000000000000000000000000000000000000000000000000, 0x1802000000000000000000000000000000000000000000000000000000000000000000000000000000000000000000000000000000000000000000000000, 0x100⟩ P) (h_s : P s) :
    KeepsOut P (execLinkEnumeration s) := by
  unfold execLinkEnumeration
  exact keepsOut_next (keep_linkEnumeration hk.le h_s)

theorem keep_execLinkRestart { s} (hk : Kept ⟨0xc4000000000000000000000000000000000000000000000000000000000000000000000000000000000000000000000000000000000000000000002000e00000000000000000000000000000000000000000000000000000000000000000000000000000000000000000000000000000000000000000000000, 0x1802000000000000000000000000000000000000000000000000000000000000000000000000000000000000000000000000000000000000000000000000, 0x100⟩ P) (h_s : P s) : KeepsOut P (execLinkRestart  s) :=
  keepsOut_next (s := linkRestart s) (keep_linkRestart hk.le h_s)

theorem keep_execEnumerationFrame {arg} {s} (hk : Kept ⟨0x340000000000000000000000030800886000000000000000000000000000000000000000000000000000000000000000000000000000000000000000000000000000000000040000000006441e00000000000000000000000000000000000000000000000000000000000000000000000000000000000000000000000004000000000300022b00000, 0x1802040000000000000000000000000000000000000000000000000000000000000000000000000000000000000000000000000000000000000000000000, 0x108⟩ P) (h_s : P s) :
    KeepsOut P (execEnumerationFrame arg s) := by
  unfold execEnumerationFrame
  refine keepsOut_next ?_
  split
  · exact keep_enumWorker hk.le h_s
  · exact keep_enumReturn hk.le h_s

theorem keep_execEnumerationTimeout {t} {s} (hk : Kept ⟨0x80000000000000000000000000000000000000000000000000000000000000000000000000000000000000000000000000000000000040000000000040200000000000000000000000000000000000000000000000000000000000000000000000000000000000000000000000000000000000300022b00000, 0x0, 0x1009⟩ P) (h_s : P s) :
    KeepsOut P (execEnumerationTimeout t s) := by
  unfold execEnumerationTimeout
  exact keepsOut_next (keep_enumTimeout hk.le (keep_State_atTick hk.le h_s))

theorem keep_execLinkCycleStart {s} (hk : Kept ⟨0x18000000000000000004000200083f03200000000000000000000000000000000000000000000000000000000000000000000000000000000000000000000000000a000000000000000000020200000000000000000000000000000000000000000000000000000000000000000000000000000000000000000000000300000000000000000000000, 0x10200040000000000000000000000000000000000000000000000000000000000000000000000000000000000000000000000000000000000000000000000, 0x1101⟩ P) (h_s : P s) :
    KeepsOut P (execLinkCycleStart s) := by
  unfold execLinkCycleStart
  exact keepsOut_next (keep_cycleStart hk.le h_s)

theorem keep_execCycleFrame {lane} {arrival} {frame} {s} (hk : Kept ⟨0x60000000000000000000f0000060490a000000000000008000400008060000360000000000000e008e0000000300c00415600000001006284081fe0000002f05c0af6c6000400000000001dda0400088000000000000000000000030000280003e000000008000000000000000000000c40000000000088000e010627831b0000b00b00026b80000, 0x100000000000000000000000000000000000000000001e00060000000000000000000000000000000000, 0x1119⟩ P) (h_s : P s) :
    KeepsOut P (execCycleFrame lane arrival frame s) := by
  unfold execCycleFrame
  exact keepsOut_next (keep_cycleFrame hk.le (keep_State_atTick hk.le h_s))

theorem keep_execCycleFrameReturn {lane} {good} {wrapped} {breakAt} {ups} {s} (hk : Kept ⟨0x34000000000000000000007c00980330200000000000000000000001800070036000000000000000000000000000000000000000000000000000000000000000000000000004006000000a091200000380000000000000000000000000000000000000000000000000000000000000000000000000000000000000000000000000000b00022b00000, 0x0, 0x308⟩ P) (h_s : P s) :
    KeepsOut P (execCycleFrameReturn lane good wrapped breakAt ups s) := by
  unfold execCycleFrameReturn
  exact keepsOut_next (keep_frameReturn hk.le h_s)

theorem keep_execRoundTripProbe {lane} {trip} {turnaround} {s} (hk : Kept ⟨0x400000000000000000000000000000000000000000000000000000000000000000000000000000000000000000000000000000000000000000000000000000000000000000000000000000000000000000000000000000000000000000000000000000000000000000000000000000000000000000000000000, 0x0, 0x0⟩ P) (h_s : P s) :
    KeepsOut P (execRoundTripProbe lane trip turnaround s) := by
  unfold execRoundTripProbe
  exact keepsOut_next (keep_roundTrip hk.le h_s)

theorem keep_execWorkerLocked {s} (hk : Kept ⟨0x2000000000000000000000000000000000000000000000000000000000000000000000000000000000000000000000000000000000000000000000000200000000000000000000000000000000000000000000000000000000000000000000000000000000000000000000000000000000000000000000000, 0x0, 0x0⟩ P) (h_s : P s) :
    KeepsOut P (execWorkerLocked s) := by
  unfold execWorkerLocked
  exact keepsOut_next (keep_workerLocked hk.le h_s)

theorem keep_execLinkLaneDown {t} {lane} {s} (hk : Kept ⟨0x100000000000000000000000000000700360000000000000000000000000000000000000000000000000000000000000000000000000040060000000060000000100000000000000000000000000000000000000000000000000000000000000000000000000000000000000000000000000000300022b00000, 0x0, 0x1309⟩ P) (h_s : P s) :
    KeepsOut P (execLinkLaneDown t lane s) := by
  unfold execLinkLaneDown
  exact keepsOut_next (keep_laneDown hk.le (keep_State_atTick hk.le h_s))

theorem keep_execLinkLaneUp {t} {lane} {s} (hk : Kept ⟨0x40000000000020000000000000000000000000000000000000000000000000000000000000000000000000000000000000000000000000000000000000300022b00000, 0x0, 0x1009⟩ P) (h_s : P s) :
    KeepsOut P (execLinkLaneUp t lane s) := by
  unfold execLinkLaneUp
  exact keepsOut_next (keep_laneUp hk.le (keep_State_atTick hk.le h_s))

theorem keep_execWorkerSelfFence {t} {s} (hk : Kept ⟨0x60000000000000000000100000000002000000000000008000000008060000360000000000000e008e0000000300c00415600000001006284081020000002f05c02c6c60004000000000014020400008000000000000000000000000000280003e000000008000000000000000000000c40000000000088000e00000483100000b00b00022b80000, 0x100000000000000000000000000000000000000000001e00060000000000000000000000000000000000, 0x1119⟩ P) (h_s : P s) :
    KeepsOut P (execWorkerSelfFence t s) := by
  unfold execWorkerSelfFence
  exact keepsOut_next (keep_selfFence hk.le (keep_State_atTick hk.le h_s))

theorem keep_execManagerFence {t} {d} {s} (hk : Kept ⟨0x20000000000000000000008400e000000000000000000000000000018000000360000000000000000000000000000000000000000000000000000000000000000000000000040000000006140000000000000000000000000000000000000000000000000000000000000000000000000000000000000000000000000000000000000b00022b00000, 0x0, 0x1109⟩ P) (h_s : P s) :
    KeepsOut P (execManagerFence t d s) := by
  unfold execManagerFence
  exact keepsOut_next (keep_managerFence hk.le (keep_State_atTick hk.le h_s))

theorem keep_execWorkerRejoin {t} {d} {epoch} {ofs} {s} (hk : Kept ⟨0x340000000000000000000000008800002000000000000000000000018000000000000000000000000000000000000000000000000000000000000000000000000000000000040000000002011200000000000000000000000000000000000000000000000000000000000000000000000000000000000000000000000000000000000b00022b00000, 0x0, 0x1009⟩ P) (h_s : P s) :
    KeepsOut P (execWorkerRejoin t d epoch ofs s) := by
  unfold execWorkerRejoin
  exact keepsOut_next (keep_workerRejoin hk.le (keep_State_atTick hk.le h_s))

theorem keep_execRingSheet {t} {s} (hk : Kept ⟨0x7c0000000000000000000000400000000000000000000400000000000000000000000000000000000000000000000000000000000000000080000000000000000000000000000000000000000000300000000000000000000000000000000000000000000000000000000000000000000000000000000000000000, 0x0, 0x0⟩ P) (h_s : P s) :
    KeepsOut P (execRingSheet t s) := by
  unfold execRingSheet
  exact keepsOut_next (keep_viaObject hk.le h_s (fun x0 z1 => keep_stateAbort hk.le (keep_ringSheet hk.le z1)))

theorem keep_execRingSheetDone {t} {parts} {s} (hk : Kept ⟨0x140000000000000000000000000000000000000000000000000000000000000000000000000000000000000000000000000000000000000040000000000040000000000000000000000000000000000000000000000000000000000000000000000000000000000000000000000000000000000000300022b00000, 0x0, 0x1009⟩ P) (h_s : P s) :
    KeepsOut P (execRingSheetDone t parts s) := by
  unfold execRingSheetDone
  exact keepsOut_next (keep_ringSheetDone hk.le (keep_State_atTick hk.le h_s))

theorem keep_execTunnelTransfer {t} {write} {bytes} {abort} {data} {s} (hk : Kept ⟨0x38000000000000000000000000000000000000000000000000000400000000000000000000000000000000000000000000000000000000000000000080000000000000000000000000000000000000000000000000000000000000000000000000000000000000000000000000000000000000000000000000000000000000, 0x0, 0x1001⟩ P) (h_s : P s) :
    KeepsOut P (execTunnelTransfer t write bytes abort data s) := by
  unfold execTunnelTransfer
  exact keepsOut_next (keep_ite (keep_State_reply hk.le ((keep_State_atTick hk.le h_s))) (keep_tunnelTransfer hk.le (keep_served hk.le ((keep_State_atTick hk.le h_s)))))

theorem keep_execTunnelTimeout {t} {s} (hk : Kept ⟨0x8000000000000000000000000000000000000000000000000000000000000000000000000000000000000000000000000000000000000000000000080000000000000000000000000000000000000000000000000000000000000000000000000000000000000000000000000000000000000000000000000000000000000, 0x0, 0x1001⟩ P) (h_s : P s) :
    KeepsOut P (execTunnelTimeout t s) := by
  unfold execTunnelTimeout
  exact keepsOut_next (keep_tunnelTimeout hk.le (keep_State_atTick hk.le h_s))

theorem keep_execCanBusOff {t} {bus} {s} (hk : Kept ⟨0x10000000000000000000000000000000000000000000000000000700374800000000000000000000000000000000000000000000000000000000000000000000000040060000000000000200180000000000000000000000000000000000000000000000000000000000000000000000000000000000000000000000000000300022b00000, 0x0, 0x1309⟩ P) (h_s : P s) :
    KeepsOut P (execCanBusOff t bus s) := by
  unfold execCanBusOff
  exact keepsOut_next (keep_canBusOff hk.le (keep_State_atTick hk.le h_s))

theorem keep_execCanSilenceTimeout {t} {bus} {s} (hk : Kept ⟨0x10000000000000000000000000000000000000000000000000000700370800000000000000000000000000000000000000000000000000000000000000000000000040060000000000000200180000000000000000000000000000000000000000000000000000000000000000000000000000000000000000000000000000300022b00000, 0x0, 0x1309⟩ P) (h_s : P s) :
    KeepsOut P (execCanSilenceTimeout t bus s) := by
  unfold execCanSilenceTimeout
  exact keepsOut_next (keep_canSilence hk.le (keep_State_atTick hk.le h_s))

theorem keep_execCanBusRestored {t} {bus} {s} (hk : Kept ⟨0x360800000000000000000000000000000000000000000000000000000000000000000000000040000000000000000000080000000000000000000000000000000000000000000000000000000000000000000000000000000000000000000000000000300022b00000, 0x0, 0x1109⟩ P) (h_s : P s) :
    KeepsOut P (execCanBusRestored t bus s) := by
  unfold execCanBusRestored
  exact keepsOut_next (keep_canRestored hk.le (keep_State_atTick hk.le h_s))

theorem keep_execCanReceiveOverrun {t} {bus} {s} (hk : Kept ⟨0x3e0000000000000000000000000000000000000000000000000000000000000000000000000000000000000000000000000000000000000000000000000000000000000000000000000000000000000000000000000000000000000000000000000000000000000000, 0x0, 0x1101⟩ P) (h_s : P s) :
    KeepsOut P (execCanReceiveOverrun t bus s) := by
  unfold execCanReceiveOverrun
  exact keepsOut_next (keep_canOverrun hk.le (keep_State_atTick hk.le h_s))

theorem keep_execCanBusOffRecovered {t} {bus} {s} (hk : Kept ⟨0x3e4000000000000000000000000000000000000000000000000000000000000000000000000000000000000000000000000000000000000000000000000000000000000000000000000000000000000000000000000000000000000000000000000000000000000000, 0x0, 0x1101⟩ P) (h_s : P s) :
    KeepsOut P (execCanBusOffRecovered t bus s) := by
  unfold execCanBusOffRecovered
  exact keepsOut_next (keep_canRecovered hk.le (keep_State_atTick hk.le h_s))

theorem keep_execNmtStart {t} {bus} {node} {s} (hk : Kept ⟨0x1000e00400000000000000000000000000000000000000000000000001b001000000000000000000000000000000000000000000000000000000000000000000000000000000000000000000000000000000000000000000000000000000000000000000000000000000000000000000000000000000000000000000000000000000000000, 0x0, 0x1001⟩ P) (h_s : P s) :
    KeepsOut P (execNmtStart t bus node s) := by
  unfold execNmtStart
  exact keepsOut_next (keep_nmtFrame hk.le (keep_State_atTick hk.le h_s) (fun x0 z1 => keep_setNmt hk.le z1))

theorem keep_execNmtStop {t} {bus} {node} {s} (hk : Kept ⟨0x1000e00400000000000000000000000000000000000000000000000001b001000000000000000000000000000000000000000000000000000000000000000000000000000000000000000000000000000000000000000000000000000000000000000000000000000000000000000000000000000000000000000000000000000000000000, 0x0, 0x1001⟩ P) (h_s : P s) :
    KeepsOut P (execNmtStop t bus node s) := by
  unfold execNmtStop
  exact keepsOut_next (keep_nmtFrame hk.le (keep_State_atTick hk.le h_s) (fun x0 z1 => keep_setNmt hk.le z1))

theorem keep_execNmtEnterPreOperational {t} {bus} {node} {s} (hk : Kept ⟨0x1000e00400000000000000000000000000000000000000000000000001b001000000000000000000000000000000000000000000000000000000000000000000000000000000000000000000000000000000000000000000000000000000000000000000000000000000000000000000000000000000000000000000000000000000000000, 0x0, 0x1001⟩ P) (h_s : P s) :
    KeepsOut P (execNmtEnterPreOperational t bus node s) := by
  unfold execNmtEnterPreOperational
  exact keepsOut_next (keep_nmtFrame hk.le (keep_State_atTick hk.le h_s) (fun x0 z1 => keep_setNmt hk.le z1))

theorem keep_execNmtResetCommunication {t} {bus} {node} {s} (hk : Kept ⟨rall, 0x1e0000000000000000000000000000000000000000000000000000000000000000000000000000000001802000000000000000000000000000000000000100000000000000000000000000000000000000000001e000601f5000000000000000000000000070000, 0x13dd⟩ P) (h_s : P s) :
    KeepsOut P (execNmtResetCommunication t bus node s) := by
  unfold execNmtResetCommunication
  exact keepsOut_next (keep_nmtFrame hk.le (keep_State_atTick hk.le h_s) (fun x0 z1 => keep_resetCommunication hk.le z1))

theorem keep_execNmtResetNode {t} {bus} {node} {s} (hk : Kept ⟨0x800000000000000000000000000000000000000800000000006000037b000000000000e00800000000300800415600000001006284081020000002f05c02c6c600040000000000000004000080000000000000000000000000002800010000000000000000000000000000000c40000000000088000e00000483100000b00300022b80000, 0x100000000000000000000000000000000000000000001e00060000000000000000000000000000000000, 0x1119⟩ P) (h_s : P s) :
    KeepsOut P (execNmtResetNode t bus node s) := by
  unfold execNmtResetNode
  exact keepsOut_next (keep_nmtFrame hk.le (keep_State_atTick hk.le h_s) (fun x0 z1 => keep_resetNode hk.le z1))

theorem keep_execResetNodeReload {t} {s} (hk : Kept ⟨rall, 0x1e0000000000000000000000000000000000000000000000000000000000000000000000000000000001802000000000000000000000000000000000000100000000000000000000000000000000000000000001e000601f5000000000000000000000000070000, 0x13dd⟩ P) (h_s : P s) :
    KeepsOut P (execResetNodeReload t s) := by
  unfold execResetNodeReload
  exact keepsOut_next (keep_resetNodeReload hk.le (keep_State_atTick hk.le h_s))

theorem keep_execLssSwitchState {t} {bus} {mode} {selector} {s} (hk : Kept ⟨rall, 0x1e0000000000000000000000000000000000000000000000000000000000000000000000000000000001802000000000000000000000000000000000000100000000000000000000000000000000000000000001e000601f5000000000000000000000000070000, 0x13dd⟩ P) (h_s : P s) :
    KeepsOut P (execLssSwitchState t bus mode selector s) := by
  unfold execLssSwitchState
  exact keepsOut_next (keep_lssFrame hk.le (keep_State_atTick hk.le h_s) (fun x0 z1 => keep_lssSwitch hk.le z1))

theorem keep_execLssConfigureNodeId {t} {bus} {node} {s} (hk : Kept ⟨0x1b008000000000000000000000000000000000000000000000000000000000000000000000000000000000000000000000000000000000000000000000000000000000000000000000000000000000000000000000000000000000000000000000000000000000000, 0x0, 0x1101⟩ P) (h_s : P s) :
    KeepsOut P (execLssConfigureNodeId t bus node s) := by
  unfold execLssConfigureNodeId
  exact keepsOut_next (keep_lssFrame hk.le (keep_State_atTick hk.le h_s) (fun x0 z1 => keep_lssNodeId hk.le z1))

theorem keep_execLssConfigureBitTiming {t} {bus} {table} {entry} {s} (hk : Kept ⟨0x4000000000000000000000000000000000000000000000000000001b000000000000000000000000000000000000000000000000000000000000000000000000000000000000000000000000000000000000000000000000000000000000000000000000000000000000000000000000000000000000000000000000000000000000000, 0x0, 0x1101⟩ P) (h_s : P s) :
    KeepsOut P (execLssConfigureBitTiming t bus table entry s) := by
  unfold execLssConfigureBitTiming
  exact keepsOut_next (keep_lssFrame hk.le (keep_State_atTick hk.le h_s) (fun x0 z1 => keep_lssBitTiming hk.le z1))

theorem keep_execLssActivateBitTiming {t} {bus} {delay} {s} (hk : Kept ⟨0x1b040000000000000000000000000000000000000000000000000000000000000000000000000000000000000000000000000000000000000000000000000000000000000000000000000000000000000000000000000000000000000000000000000000000000000, 0x40000000000000000000000000000000000000000000000000000000000000000000000000000000000000000000000000000000000000000000000000000000000000000000000000000000000000000000000000000000000000000000000000000000000000, 0x1001⟩ P) (h_s : P s) :
    KeepsOut P (execLssActivateBitTiming t bus delay s) := by
  unfold execLssActivateBitTiming
  exact keepsOut_next (keep_lssFrame hk.le (keep_State_atTick hk.le h_s) (fun x0 z1 => keep_lssActivate hk.le z1))

theorem keep_execLssStoreConfiguration {t} {bus} {s} (hk : Kept ⟨0x1b004000000000000000000000000000000000000000000000000000000000000000000000000000000000000000000000000000000000000000000000000000000000000000000000000000000000000000000000000000000000000000000000000000000000000, 0x0, 0x1101⟩ P) (h_s : P s) :
    KeepsOut P (execLssStoreConfiguration t bus s) := by
  unfold execLssStoreConfiguration
  exact keepsOut_next (keep_lssFrame hk.le (keep_State_atTick hk.le h_s) (fun x0 z1 => keep_lssStore hk.le z1))

theorem keep_execLssInquire {t} {bus} {what} {s} (hk : Kept ⟨0x1b000000000000000000000000000000000000000000000000000000000000000000000000000000000000000000000000000000000000000000000000000000000000000000000000000000000000000000000000000000000000000000000000000000000000000, 0x0, 0x1101⟩ P) (h_s : P s) :
    KeepsOut P (execLssInquire t bus what s) := by
  unfold execLssInquire
  exact keepsOut_next (keep_lssFrame hk.le (keep_State_atTick hk.le h_s) (fun x0 z1 => keep_lssInquire hk.le z1))

theorem keep_execLssIdentify {t} {bus} {range} {s} (hk : Kept ⟨0x1b000000000000000000000000000000000000000000000000000000000000000000000000000000000000000000000000000000000000000000000000000000000000000000000000000000000000000000000000000000000000000000000000000000000000000, 0x0, 0x1101⟩ P) (h_s : P s) :
    KeepsOut P (execLssIdentify t bus range s) := by
  unfold execLssIdentify
  exact keepsOut_next (keep_lssFrame hk.le (keep_State_atTick hk.le h_s) (fun x0 z1 => keep_lssIdentify hk.le z1))

theorem keep_execSyncReceived {t} {bus} {data} {s} (hk : Kept ⟨rall, 0x1802000000000000000000000000000000000000100000000000000000000000000000000000000000001e000601f5000000000000000000000000070000, 0x13dd⟩ P) (h_s : P s) :
    KeepsOut P (execSyncReceived t bus data s) := by
  unfold execSyncReceived
  exact keepsOut_next (keep_syncReceived hk.le (keep_State_atTick hk.le h_s))

theorem keep_execRpdoReceived {t} {bus} {id} {data} {s} (hk : Kept ⟨rall, 0x1802000000000000000000000000000000000000100000000000000000000000000000000000000000001e000601f5000000000000000000000000070000, 0x13dd⟩ P) (h_s : P s) :
    KeepsOut P (execRpdoReceived t bus id data s) := by
  unfold execRpdoReceived
  exact keepsOut_next (keep_rpdoReceived hk.le (keep_State_atTick hk.le h_s))

theorem keep_execTimeReceived {t} {bus} {data} {s} (hk : Kept ⟨0x70000000000000000000000000000000000000000000000000000001b000000000000000000000000000000000000000000000000000000000000000000000000000000000000000000000000000000000000000000000000000000000000000000000000000000000000000000000000000000000000000000000000000000000000000, 0x0, 0x1001⟩ P) (h_s : P s) :
    KeepsOut P (execTimeReceived t bus data s) := by
  unfold execTimeReceived
  exact keepsOut_next (keep_timeReceived hk.le (keep_State_atTick hk.le h_s))

theorem keep_execTpdoEventTimer {t} {n} {s} (hk : Kept ⟨0x7c00000000000000000000000000000000000000000000000000000000000000000000000000000000000000000000000000000000000000000000000000000000000000000000000000000000000000000000000000000000000000000000000000000000000000000000000000000000000000000000000000000000000000000000, 0x0, 0x1101⟩ P) (h_s : P s) :
    KeepsOut P (execTpdoEventTimer t n s) := by
  unfold execTpdoEventTimer
  exact keepsOut_next (keep_tpdoTimer hk.le (keep_State_atTick hk.le h_s))

theorem keep_execTpdoInhibitExpiry {t} {n} {s} (hk : Kept ⟨0x7c00000000000000000000000000000000000000000000000000000000000000000000000000000000000000000000000000000000000000000000000000000000000000000000000000000000000000000000000000000000000000000000000000000000000000000000000000000000000000000000000000000000000000000000, 0x0, 0x1101⟩ P) (h_s : P s) :
    KeepsOut P (execTpdoInhibitExpiry t n s) := by
  unfold execTpdoInhibitExpiry
  exact keepsOut_next (keep_tpdoInhibit hk.le (keep_State_atTick hk.le h_s))

theorem keep_execHeartbeatProduce {t} {s} (hk : Kept ⟨0x4000000000000000000000000000000000000000000000000000000000000000000000000000000000000000000000000000000000000000000000000000000000000000000000000000000000000000000000000000000000000000000000000000000000000000000000000000000000000000000000000000000000000000000000000, 0x0, 0x1101⟩ P) (h_s : P s) :
    KeepsOut P (execHeartbeatProduce t s) := by
  unfold execHeartbeatProduce
  exact keepsOut_next (keep_heartbeatProduce hk.le (keep_State_atTick hk.le h_s))

theorem keep_execHeartbeatConsumed {t} {bus} {node} {a3} {s} (hk : Kept ⟨0x38000000000000000000000000000000000000000000000000000003f8000000000000000000000000000000000000000000000000000000000000000000000000000000000000000000000000000000000000000000000000000000000000000000000000000000000000000000000000000000000000000000000000000000000000000, 0x0, 0x1101⟩ P) (h_s : P s) :
    KeepsOut P (execHeartbeatConsumed t bus node a3 s) := by
  unfold execHeartbeatConsumed
  exact keepsOut_next (keep_heartbeatConsumed hk.le (keep_State_atTick hk.le h_s))

theorem keep_execCommunicationLoss {t} {s} (hk : Kept ⟨0x1200e0040000000000000000000000000000000080000000080600003e0001000000000e00880000000300800415600000001006284081020000002f05c02c6c600040000000000000004000080000000000000000000000000002800010000000000000000000000000000000c40000000000088000e00000483100000b00b00022b80000, 0x100000000000000000000000000000000000000000001e00060000000000000000000000000000000000, 0x1119⟩ P) (h_s : P s) :
    KeepsOut P (execCommunicationLoss t s) := by
  unfold execCommunicationLoss
  exact keepsOut_next (keep_communicationLoss hk.le (keep_State_atTick hk.le h_s))

theorem keep_execEmcyInhibitExpiry {t} {s} (hk : Kept ⟨0x300000000000000000000000000000000000000000000000000000000000000000000000000000000000000000000000000000000000000000000000000000000000000000000000000000000000000000000000000000000000000000000000000000000000000000, 0x0, 0x1101⟩ P) (h_s : P s) :
    KeepsOut P (execEmcyInhibitExpiry t s) := by
  unfold execEmcyInhibitExpiry
  exact keepsOut_next (keep_emcyRelease hk.le (keep_State_atTick hk.le h_s))

theorem keep_execStoreParameters {sub} {value} {s} (hk : Kept ⟨0x400000000000000000000000000000000000000000000000000000000000000000080000000000000000000000000000000000000000000000000000000000000000000000000000000000000000000000000000000000000000000000000000000000000, 0x0, 0x400⟩ P) (h_s : P s) :
    KeepsOut P (execStoreParameters sub value s) := by
  unfold execStoreParameters
  exact keepsOut_next (keep_viaObject hk.le h_s (fun x0 z1 => keep_storeParameters hk.le z1))

theorem keep_execRestoreDefaultParameters {sub} {value} {s} (hk : Kept ⟨0x400000000000000000000000000000000000000000000000000000000000000000080000000000000000000000000000000000000000000000000000000000000000000000000000000000000000000000000000000000000000000000000000000000000, 0x0, 0x400⟩ P) (h_s : P s) :
    KeepsOut P (execRestoreDefaultParameters sub value s) := by
  unfold execRestoreDefaultParameters
  exact keepsOut_next (keep_viaObject hk.le h_s (fun x0 z1 => keep_restoreParameters hk.le z1))

theorem keep_nothingAfter {a0} {s} (hk : Kept ⟨0x0, 0x0, 0x0⟩ P) (h_s : P s) :
    P (nothingAfter a0 s) := by
  unfold nothingAfter
  exact h_s

theorem keep_execUsbFrameGap {t} {s} (hk : Kept ⟨0x0, 0x0, 0x1041⟩ P) (h_s : P s) :
    KeepsOut P (execUsbFrameGap t s) := by
  unfold execUsbFrameGap
  exact keepsOut_next (keep_discardPartial hk.le (keep_State_atTick hk.le h_s))

theorem keep_execUsbDtrFall {t} {s} (hk : Kept ⟨0x700000000000000000000000000000000000000000000000000000000000000000000000000000040070007000000000000000000000000000000000000000000000000000000000000000000000000000000000000000000000000000000000000000000300022b00000, 0x0, 0x1649⟩ P) (h_s : P s) :
    KeepsOut P (execUsbDtrFall t s) := by
  unfold execUsbDtrFall
  exact keepsOut_next (keep_ite (keep_endSession hk.le ((keep_discardPartial hk.le (keep_State_atTick hk.le h_s)))) ((keep_discardPartial hk.le (keep_State_atTick hk.le h_s))))

theorem keep_execIdentify {t} {path} {req} {s} (hk : Kept ⟨0x3906000000000000000000000000000000000000000000000000000070000000000040000000000000000000000000000000000000000000000000000000000000000004007c007180000000000000000000000000000000000000000000000000000000000000000000000000000000000000000000000000000000000000000700022b80000, 0x0, 0x1789⟩ P) (h_s : P s) :
    KeepsOut P (execIdentify t path req s) := by
  unfold execIdentify
  exact keepsOut_next (keep_request hk.le (keep_State_atTick hk.le h_s) (fun x0 x1 z2 => keep_identify hk.le z2) (fun x3 x4 z5 => keep_nothingAfter hk.le z5))

theorem keep_execObjRead {t} {path} {req} {s} (hk : Kept ⟨0x390600000000004b8000000000000000000000000000000000000000700000000dc04000000000000000000000000000000000000000000000000000000000000000000c007c007180000000000000000000000000000000000000000000000000000000000000000000000000000000000000000000000000000000000000000700022b87000, 0x0, 0x178b⟩ P) (h_s : P s) :
    KeepsOut P (execObjRead t path req s) := by
  unfold execObjRead
  exact keepsOut_next (keep_request hk.le (keep_State_atTick hk.le h_s) (fun x0 x1 z2 => keep_readObject hk.le z2) (fun x3 x4 z5 => keep_nothingAfter hk.le z5))

theorem keep_execObjWrite {t} {path} {req} {s} (hk : Kept ⟨rall, rall, 0x1fff⟩ P) (h_s : P s) :
    KeepsOut P (execObjWrite t path req s) := by
  unfold execObjWrite
  exact keepsOut_next (keep_request hk.le (keep_State_atTick hk.le h_s) (fun x0 x1 z2 => keep_writeObject hk.le z2) (fun x3 x4 z5 => keep_afterWrite hk.le z5))

theorem keep_execRegRead {t} {path} {req} {s} (hk : Kept ⟨0x3906000000000000000000000000000000000000000000000000000070000000000040000000000000000000000000000000000000000000000000000000000000000004007c007180000000000000000000000000000000000000000000000000000000000000000000000000000000000000000000000000000000000000000700022b80000, 0x0, 0x178b⟩ P) (h_s : P s) :
    KeepsOut P (execRegRead t path req s) := by
  unfold execRegRead
  exact keepsOut_next (keep_request hk.le (keep_State_atTick hk.le h_s) (fun x0 x1 z2 => keep_readRegs hk.le z2) (fun x3 x4 z5 => keep_nothingAfter hk.le z5))

theorem keep_execRegWrite {t} {path} {req} {s} (hk : Kept ⟨rall, 0x1802000000000000000000000000000000000000100000000000000000000000000000000000000000001e00060000000000000000000000000000070000, 0x17dd⟩ P) (h_s : P s) :
    KeepsOut P (execRegWrite t path req s) := by
  unfold execRegWrite
  exact keepsOut_next (keep_request hk.le (keep_State_atTick hk.le h_s) (fun x0 x1 z2 => keep_writeRegs hk.le z2) (fun x3 x4 z5 => keep_nothingAfter hk.le z5))

theorem keep_execEventPeek {t} {path} {req} {s} (hk : Kept ⟨0x3906000000000000000000000000000000000000000000000000000070000000000040000000000000000000000000000000000000000000000000000000000000000004007c007180000000000000000000000000000000000000000000000000000000000000000000000000000000000000000000000000000000000000000700022b80000, 0x0, 0x1789⟩ P) (h_s : P s) :
    KeepsOut P (execEventPeek t path req s) := by
  unfold execEventPeek
  exact keepsOut_next (keep_request hk.le (keep_State_atTick hk.le h_s) (fun x0 x1 z2 => keep_peekEvents hk.le z2) (fun x3 x4 z5 => keep_nothingAfter hk.le z5))

theorem keep_execHealth {t} {path} {req} {s} (hk : Kept ⟨0x3906000000000000000000000000000000000000000000000000000070000000000040000000000000000000000000000000000000000000000000000000000000000004007c007180000000000000000000000000000000000000000000000000000000000000000000000000000000000000000000000000000000000000000700022b80000, 0x0, 0x1789⟩ P) (h_s : P s) :
    KeepsOut P (execHealth t path req s) := by
  unfold execHealth
  exact keepsOut_next (keep_request hk.le (keep_State_atTick hk.le h_s) (fun x0 x1 z2 => keep_healthReport hk.le z2) (fun x3 x4 z5 => keep_nothingAfter hk.le z5))

theorem keep_execMbxInCommit {word s} (hk : Kept ⟨0x60000000000000000000000000000000000000000000000000000000000000000000000000000000000000000000000000000000000000000000000000000000000040000000380000000000000000000000000000000000000000000000000000000000000000000000000000000000000000000000000000000000000000700022b80000, 0x0, 0x1c8⟩ P) (h_s : P s) : KeepsOut P (execMbxInCommit word s) :=
  keepsOut_next (s := mbxIn s (word % 2 ^ 32)) (keep_mbxIn hk.le h_s)

theorem keep_execMbxOutRead {s} (hk : Kept ⟨0x400000000000000000000000000000000000000000000000000000000000000000000000000000000000000000000000000000000000000000000000000000000000c0000000180000000000000000000000000000000000000000000000000000000000000000000000000000000000000000000000000000000000000000700022b80000, 0x0, 0x188⟩ P) (h_s : P s) :
    KeepsOut P (execMbxOutRead s) := by
  unfold execMbxOutRead
  split
  · rename_i y2 y3 q0
    have z1 : P y2 := keep_fst (keep_mbxOut hk.le h_s) q0
    exact keepsOut_next (keep_State_reply hk.le z1)

theorem keep_execSpiOutTimeout {t} {s} (hk : Kept ⟨0x40000000000000000000000000000000000000000000000000000000000000000000000000000000000000000000000000000000000000000000000000000000000040000000580000000000000000000000000000000000000000000000000000000000000000000000000000000000000000000000000000000000000000700022b80000, 0x0, 0x1189⟩ P) (h_s : P s) :
    KeepsOut P (execSpiOutTimeout t s) := by
  unfold execSpiOutTimeout
  exact keepsOut_next (keep_outTimeout hk.le (keep_State_atTick hk.le h_s))

theorem keep_execXomorFrameWrite {bytes} {s} (hk : Kept ⟨0x600000000000000000000000000000000000000000000000000000000000000004000000000000000000000000000000000000000000000000000000000000000000c0000000380000000000000000000000000000000000000000000000000000000000000000000000000000000000000000000000000000000000000000700022b80000, 0x0, 0x1c8⟩ P) (h_s : P s) :
    KeepsOut P (execXomorFrameWrite bytes s) := by
  unfold execXomorFrameWrite
  exact keepsOut_next (keep_ite (keep_frameWrite hk.le (keep_served hk.le h_s)) h_s)

theorem keep_execXomorFrameRead {s} (hk : Kept ⟨0x400000000000000000000000000000000000000000000000000000000000000000080000000000000000000000000000000000000000000000000000000000000000000000000000000000000000000000000000000000000000000000000000000000000, 0x0, 0x80⟩ P) (h_s : P s) :
    KeepsOut P (execXomorFrameRead s) := by
  unfold execXomorFrameRead
  exact keepsOut_next (keep_ite (keep_frameRead hk.le (keep_served hk.le h_s)) h_s)

theorem keep_execSessHello {t} {path} {req} {s} (hk : Kept ⟨0x7906000000000000000000000000000000000000000000000000000070000000000040000000000000000000000000000000000000000000000000000000000000000004007c007180000000000000000000000000000000000000000000000000000000000000000000000000000000000000000000000000000000000000000700022b80000, 0x0, 0x1789⟩ P) (h_s : P s) :
    KeepsOut P (execSessHello t path req s) := by
  unfold execSessHello
  exact keepsOut_next (keep_request hk.le (keep_State_atTick hk.le h_s) (fun x0 x1 z2 => keep_hello hk.le z2) (fun x3 x4 z5 => keep_nothingAfter hk.le z5))

theorem keep_execSessProve {t} {path} {req} {s} (hk : Kept ⟨0x3f86000000000000000000000000000000000000000000000000000070000000000040000000000000000000000000000000000000000000000000000000000000000004007c007180000000000000000000000000000000000000000000000000000000000000000000000000000000000000000000000000000000000000000700022b80000, 0x0, 0x1789⟩ P) (h_s : P s) :
    KeepsOut P (execSessProve t path req s) := by
  unfold execSessProve
  exact keepsOut_next (keep_request hk.le (keep_State_atTick hk.le h_s) (fun x0 x1 z2 => keep_prove hk.le z2) (fun x3 x4 z5 => keep_nothingAfter hk.le z5))

theorem keep_execSessClose {t} {path} {req} {s} (hk : Kept ⟨0x3906000000000000000000000000000000000000000000000000000070000000000040000000000000000000000000000000000000000000000000000000000000000004007c007180000000000000000000000000000000000000000000000000000000000000000000000000000000000000000000000000000000000000000700022b80000, 0x0, 0x1789⟩ P) (h_s : P s) :
    KeepsOut P (execSessClose t path req s) := by
  unfold execSessClose
  exact keepsOut_next (keep_request hk.le (keep_State_atTick hk.le h_s) (fun x0 x1 z2 => keep_closeSession hk.le z2) (fun x3 x4 z5 => keep_nothingAfter hk.le z5))

theorem keep_execSessCommit {t} {path} {req} {s} (hk : Kept ⟨rall, 0x100000000000000000000000000000000000000000001e00060000000000000000000000000000000000, 0x1799⟩ P) (h_s : P s) :
    KeepsOut P (execSessCommit t path req s) := by
  unfold execSessCommit
  exact keepsOut_next (keep_request hk.le (keep_State_atTick hk.le h_s) (fun x0 x1 z2 => keep_commitSession hk.le z2) (fun x3 x4 z5 => keep_nothingAfter hk.le z5))

theorem keep_execSessDiscard {t} {path} {req} {s} (hk : Kept ⟨0x3906000000000000000000000000000000000000000000000000000070000000000040000000000000000000000000000000000000000000000000000000000000000004007c007180000000000000000000000000000000000000000000000000000000000000000000000000000000000000000000000000000000000000000700022b80000, 0x0, 0x1789⟩ P) (h_s : P s) :
    KeepsOut P (execSessDiscard t path req s) := by
  unfold execSessDiscard
  exact keepsOut_next (keep_request hk.le (keep_State_atTick hk.le h_s) (fun x0 x1 z2 => keep_discardSession hk.le z2) (fun x3 x4 z5 => keep_nothingAfter hk.le z5))

theorem keep_execSessionIdleExpiry {t} {s} (hk : Kept ⟨0x700000000000000000000000000000000000000000000000000000000000000000000000000000040070007000000000000000000000000000000000000000000000000000000000000000000000000000000000000000000000000000000000000000000300022b00000, 0x0, 0x1609⟩ P) (h_s : P s) :
    KeepsOut P (execSessionIdleExpiry t s) := by
  unfold execSessionIdleExpiry
  exact keepsOut_next (keep_idleExpiry hk.le (keep_State_atTick hk.le h_s))

theorem keep_execSessProveTimeout {t} {s} (hk : Kept ⟨0x0, 0x0, 0x1401⟩ P) (h_s : P s) :
    KeepsOut P (execSessProveTimeout t s) := by
  unfold execSessProveTimeout
  exact keepsOut_next (keep_proveTimeout hk.le (keep_State_atTick hk.le h_s))

theorem keep_execClaim {t} {path} {req} {s} (hk : Kept ⟨0x3936000000000000000000000000000000000000000000000000000070000000000040000000000000000000000000000000000000000000000000000000000000000004007e107980000000000000000000000000000000000000000000000000000000000000000000000000000000000000000000000000000000000000000700022b80000, 0x0, 0x1789⟩ P) (h_s : P s) :
    KeepsOut P (execClaim t path req s) := by
  unfold execClaim
  exact keepsOut_next (keep_request hk.le (keep_State_atTick hk.le h_s) (fun x0 x1 z2 => keep_claim hk.le z2) (fun x3 x4 z5 => keep_nothingAfter hk.le z5))

theorem keep_execRevoke {t} {path} {req} {s} (hk : Kept ⟨0x3936000000000000000000000000000000000000000000000000000070000000000040000000000000000000000000000000000000000000000000000000000000000004007c007180000000000000000000000000000000000000000000000000000000000000000000000000000000000000000000000000000000000000000700022b80000, 0x0, 0x1789⟩ P) (h_s : P s) :
    KeepsOut P (execRevoke t path req s) := by
  unfold execRevoke
  exact keepsOut_next (keep_request hk.le (keep_State_atTick hk.le h_s) (fun x0 x1 z2 => keep_revoke hk.le z2) (fun x3 x4 z5 => keep_nothingAfter hk.le z5))

theorem keep_execIdentity {t} {path} {req} {s} (hk : Kept ⟨0x3906000000000000000000000000000000000000000000000000000070000000000040000000000000000000000000000000000000000000000000000000000000000004007c007180000000000000000000000000000000000000000000000000000000000000000000000000000000000000000000000000000000000000000700022b80000, 0x0, 0x1789⟩ P) (h_s : P s) :
    KeepsOut P (execIdentity t path req s) := by
  unfold execIdentity
  exact keepsOut_next (keep_request hk.le (keep_State_atTick hk.le h_s) (fun x0 x1 z2 => keep_identity hk.le z2) (fun x3 x4 z5 => keep_nothingAfter hk.le z5))

theorem keep_execProfBegin {t} {path} {req} {s} (hk : Kept ⟨0x3906000000000000000000000000000000000000000000000000000070000000000040000000000000000000000000000000000000000000000000000000000000000004007c007180000000000000000000000000000000000000000000000000000000000000000000000000000000000000000000000000000000000000000700022b80000, 0x0, 0x1789⟩ P) (h_s : P s) :
    KeepsOut P (execProfBegin t path req s) := by
  unfold execProfBegin
  exact keepsOut_next (keep_request hk.le (keep_State_atTick hk.le h_s) (fun x0 x1 z2 => keep_profBegin hk.le z2) (fun x3 x4 z5 => keep_nothingAfter hk.le z5))

theorem keep_execProfData {t} {path} {req} {s} (hk : Kept ⟨0x3906000000000000000000000000000000000000000000000000000070000000000040000000000000000000000000000000000000000000000000000000000000000004007c007180000000000000000000000000000000000000000000000000000000000000000000000000000000000000000000000000000000000000000700022b80000, 0x0, 0x1789⟩ P) (h_s : P s) :
    KeepsOut P (execProfData t path req s) := by
  unfold execProfData
  exact keepsOut_next (keep_request hk.le (keep_State_atTick hk.le h_s) (fun x0 x1 z2 => keep_uploadData hk.le z2) (fun x3 x4 z5 => keep_nothingAfter hk.le z5))

theorem keep_execProfEnd {t} {path} {req} {s} (hk : Kept ⟨0x3906000000000000000000000000000000000000000000000000000070000000000040000000000000000000000000000000000000000000000000000000000000000004007c107180000000000000000000000000000000000000000000000000000000000000000000000000000000000000000000000000000000000000000700022b80000, 0x0, 0x1789⟩ P) (h_s : P s) :
    KeepsOut P (execProfEnd t path req s) := by
  unfold execProfEnd
  exact keepsOut_next (keep_request hk.le (keep_State_atTick hk.le h_s) (fun x0 x1 z2 => keep_profEnd hk.le z2) (fun x3 x4 z5 => keep_nothingAfter hk.le z5))

theorem keep_execProfSelect {path} {value} {s} (hk : Kept ⟨rall, 0x1802000000000000000000000000000000000000100000000000000000000000000000000000000000001e000601f5000000000000000000000000070000, 0x7dc⟩ P) (h_s : P s) :
    KeepsOut P (execProfSelect path value s) := by
  unfold execProfSelect
  exact keepsOut_next (keep_viaObject hk.le h_s (fun x0 z1 => keep_ite1 (keep_mk z1) (keep_profSelect hk.le z1)))

theorem keep_execPatchBegin {t} {path} {req} {s} (hk : Kept ⟨0x13906000000000000000000000000000000000000000000000000000070000000000040000000000000000000000000000000000000000000000000000000000000000004007d407180000000000000000000000000000000000000000000000000000000000000000000000000000000000000000000000000000000000000000700022b80000, 0x0, 0x1789⟩ P) (h_s : P s) :
    KeepsOut P (execPatchBegin t path req s) := by
  unfold execPatchBegin
  exact keepsOut_next (keep_request hk.le (keep_State_atTick hk.le h_s) (fun x0 x1 z2 => keep_patchBegin hk.le z2) (fun x3 x4 z5 => keep_nothingAfter hk.le z5))

theorem keep_execPatchData {t} {path} {req} {s} (hk : Kept ⟨0x3906000000000000000000000000000000000000000000000000000070000000000040000000000000000000000000000000000000000000000000000000000000000004007c007180000000000000000000000000000000000000000000000000000000000000000000000000000000000000000000000000000000000000000700022b80000, 0x0, 0x1789⟩ P) (h_s : P s) :
    KeepsOut P (execPatchData t path req s) := by
  unfold execPatchData
  exact keepsOut_next (keep_request hk.le (keep_State_atTick hk.le h_s) (fun x0 x1 z2 => keep_uploadData hk.le z2) (fun x3 x4 z5 => keep_nothingAfter hk.le z5))

theorem keep_execPatchEnd {t} {path} {req} {s} (hk : Kept ⟨0x13906000000000000000000000000000000000000000000000000000070000000000040000000000000000000000000000000000000000000000000000000000000000004007d407180000000000000000000000000000000000000000000000000000000000000000000000000000000000000000000000000000000000000000700022b80000, 0x0, 0x1789⟩ P) (h_s : P s) :
    KeepsOut P (execPatchEnd t path req s) := by
  unfold execPatchEnd
  exact keepsOut_next (keep_request hk.le (keep_State_atTick hk.le h_s) (fun x0 x1 z2 => keep_patchEnd hk.le z2) (fun x3 x4 z5 => keep_nothingAfter hk.le z5))

theorem keep_execPatchActivate {t} {path} {req} {s} (hk : Kept ⟨0x2b9060000000000000000000000000000000000000000000000000000700000000000f1800000000000000000000000000000000000000000000000000000000000000004007dc07180000000480000000000000000000000000000000000000000000000000000000000000000000000000000000000000000000000000000000700022b80000, 0x0, 0x17c9⟩ P) (h_s : P s) :
    KeepsOut P (execPatchActivate t path req s) := by
  unfold execPatchActivate
  exact keepsOut_next (keep_request hk.le (keep_State_atTick hk.le h_s) (fun x0 x1 z2 => keep_patchActivate hk.le z2) (fun x3 x4 z5 => keep_seqRestart hk.le z5))

theorem keep_execAuditRead {t} {path} {req} {s} (hk : Kept ⟨0x3906000000000000000000000000000000000000000000000000000070000000000040000000000000000000000000000000000000000000000000000000000000000004007c007180000000000000000000000000000000000000000000000000000000000000000000000000000000000000000000000000000000000000000700022b80000, 0x0, 0x1789⟩ P) (h_s : P s) :
    KeepsOut P (execAuditRead t path req s) := by
  unfold execAuditRead
  exact keepsOut_next (keep_request hk.le (keep_State_atTick hk.le h_s) (fun x0 x1 z2 => keep_auditRead hk.le z2) (fun x3 x4 z5 => keep_nothingAfter hk.le z5))

theorem keep_execAuditSeal {t} {path} {req} {s} (hk : Kept ⟨0x7906000000000000000000000000000000000000000000000000000070000000000040000000000000000000000000000000000000000000000000000000000000000004007c007180000000000000000000000000000000000000000000000000000000000000000000000000000000000000000000000000000000000000000700022b80000, 0x0, 0x1789⟩ P) (h_s : P s) :
    KeepsOut P (execAuditSeal t path req s) := by
  unfold execAuditSeal
  exact keepsOut_next (keep_request hk.le (keep_State_atTick hk.le h_s) (fun x0 x1 z2 => keep_auditSeal hk.le z2) (fun x3 x4 z5 => keep_nothingAfter hk.le z5))

theorem keep_execSvcHoursIncrement {t} {s} (hk : Kept ⟨0x400000000000000000000000000000000000000000000000000000000700000000000000000000000000000000000000000000000000000000000000000000000000000040070207000000000000000000000000000000000000000000000000000000000000000000000000000000000000000000000000000000000000000000300022b00000, 0x0, 0x1609⟩ P) (h_s : P s) :
    KeepsOut P (execSvcHoursIncrement t s) := by
  unfold execSvcHoursIncrement
  exact keepsOut_next (keep_serviceHours hk.le (keep_State_atTick hk.le h_s))

/-- Every command keeps a property that the primitive updates keep. -/
theorem keep_exec {c s} (hk : Kept ⟨rall, rall, 0x1fff⟩ P) (h_s : P s) : KeepsOut P (exec c s) := by
  cases c with
  | powerOnReset => exact keep_execPowerOnReset hk.le h_s
  | vcoreBrownOut => exact keep_execVcoreBrownOut hk.le h_s
  | vioBrownOut => exact keep_execVioBrownOut hk.le h_s
  | resetn => exact keep_execResetn hk.le h_s
  | devReset => exact keep_execDevReset hk.le h_s
  | bootTimebaseLock => exact keep_execBootTimebaseLock hk.le h_s
  | crystalLossWait => exact keep_execCrystalLossWait hk.le h_s
  | bootRom => exact keep_execBootRom hk.le h_s
  | bootPatch => exact keep_execBootPatch hk.le h_s
  | bootProfile => exact keep_execBootProfile hk.le h_s
  | vanaReady => exact keep_execVanaReady hk.le h_s
  | bootCalibration => exact keep_execBootCalibration hk.le h_s
  | bootBist => exact keep_execBootBist hk.le h_s
  | bootBankRelease => exact keep_execBootBankRelease hk.le h_s
  | bootDone => exact keep_execBootDone hk.le h_s
  | tbApply => exact keep_execTbApply hk.le h_s
  | timebaseLoss => exact keep_execTimebaseLoss hk.le h_s
  | timebaseRestart => exact keep_execTimebaseRestart hk.le h_s
  | statusTick => exact keep_execStatusTick hk.le h_s
  | delaylineCalibration => exact keep_execDelaylineCalibration hk.le h_s
  | ddieWatchdogExpiry => exact keep_execDdieWatchdogExpiry hk.le h_s
  | ddieRelease => exact keep_execDdieRelease hk.le h_s
  | spiCommandHeader => exact keep_execSpiCommandHeader hk.le h_s
  | spiWriteWord => exact keep_execSpiWriteWord hk.le h_s
  | spiReadWord => exact keep_execSpiReadWord hk.le h_s
  | spiFrameEnd => exact keep_execSpiFrameEnd hk.le h_s
  | registerWrite => exact keep_execRegisterWrite hk.le h_s
  | wideLowWordRead => exact keep_execWideLowWordRead hk.le h_s
  | wideHighWordWrite => exact keep_execWideHighWordWrite hk.le h_s
  | regWinDataRead => exact keep_execRegWinDataRead hk.le h_s
  | regWinDataWrite => exact keep_execRegWinDataWrite hk.le h_s
  | regWinBlockRead => exact keep_execRegWinBlockRead hk.le h_s
  | regWinBlockWrite => exact keep_execRegWinBlockWrite hk.le h_s
  | objectWrite => exact keep_execObjectWrite hk.le h_s
  | slackMinClr => exact keep_execSlackMinClr hk.le h_s
  | engineCycle => exact keep_execEngineCycle hk.le h_s
  | slackFullRateReturn => exact keep_execSlackFullRateReturn hk.le h_s
  | deadlineMissStrip => exact keep_execDeadlineMissStrip hk.le h_s
  | deadlineMissMigration => exact keep_execDeadlineMissMigration hk.le h_s
  | tagWaitRelease => exact keep_execTagWaitRelease hk.le h_s
  | helperResult => exact keep_execHelperResult hk.le h_s
  | tagReclaim => exact keep_execTagReclaim hk.le h_s
  | epochDeferredAdvance => exact keep_execEpochDeferredAdvance hk.le h_s
  | sramScrub => exact keep_execSramScrub hk.le h_s
  | qwrWrite => exact keep_execQwrWrite hk.le h_s
  | qrdWrite => exact keep_execQrdWrite hk.le h_s
  | qreset => exact keep_execQreset hk.le h_s
  | portmapApply => exact keep_execPortmapApply hk.le h_s
  | portmapSetDevelop => exact keep_execPortmapSetDevelop hk.le h_s
  | segWrite => exact keep_execSegWrite hk.le h_s
  | segPdoEnqueue => exact keep_execSegPdoEnqueue hk.le h_s
  | segRestart => exact keep_execSegRestart hk.le h_s
  | segmentStartActions => exact keep_execSegmentStartActions hk.le h_s
  | accGo => exact keep_execAccGo hk.le h_s
  | syncTimeout => exact keep_execSyncTimeout hk.le h_s
  | modeChange => exact keep_execModeChange hk.le h_s
  | newSetPoint => exact keep_execNewSetPoint hk.le h_s
  | syncReceived => exact keep_execSyncReceived hk.le h_s
  | csLoss => exact keep_execCsLoss hk.le h_s
  | enableInterpolation => exact keep_execEnableInterpolation hk.le h_s
  | halt => exact keep_execHalt hk.le h_s
  | haltRelease => exact keep_execHaltRelease hk.le h_s
  | limitSwitchEdge => exact keep_execLimitSwitchEdge hk.le h_s
  | homeSwitchEdge => exact keep_execHomeSwitchEdge hk.le h_s
  | indexEdge => exact keep_execIndexEdge hk.le h_s
  | homingStart => exact keep_execHomingStart hk.le h_s
  | homingChatter => exact keep_execHomingChatter hk.le h_s
  | homingDistance => exact keep_execHomingDistance hk.le h_s
  | homingNoIndex => exact keep_execHomingNoIndex hk.le h_s
  | stepEdge => exact keep_execStepEdge hk.le h_s
  | sfRestart => exact keep_execSfRestart hk.le h_s
  | curSenseLost => exact keep_execCurSenseLost hk.le h_s
  | busFfStale => exact keep_execBusFfStale hk.le h_s
  | highDutyExit => exact keep_execHighDutyExit hk.le h_s
  | standstillReduction => exact keep_execStandstillReduction hk.le h_s
  | openWinding => exact keep_execOpenWinding hk.le h_s
  | curSumErr => exact keep_execCurSumErr hk.le h_s
  | stallDetected => exact keep_execStallDetected hk.le h_s
  | stallFault => exact keep_execStallFault hk.le h_s
  | dcProbeStart => exact keep_execDcProbeStart hk.le h_s
  | daxisProbeStart => exact keep_execDaxisProbeStart hk.le h_s
  | probeComplete => exact keep_execProbeComplete hk.le h_s
  | vwCal => exact keep_execVwCal hk.le h_s
  | periodStart => exact keep_execPeriodStart hk.le h_s
  | loadAll => exact keep_execLoadAll hk.le h_s
  | groupWrite => exact keep_execGroupWrite hk.le h_s
  | pwmEnWrite => exact keep_execPwmEnWrite hk.le h_s
  | shortCircuitTrip => exact keep_execShortCircuitTrip hk.le h_s
  | tripnActive => exact keep_execTripnActive hk.le h_s
  | tripLatch => exact keep_execTripLatch hk.le h_s
  | tripClr => exact keep_execTripClr hk.le h_s
  | pwmEventFire => exact keep_execPwmEventFire hk.le h_s
  | trigoPulseEnd => exact keep_execTrigoPulseEnd hk.le h_s
  | interlockTimeout => exact keep_execInterlockTimeout hk.le h_s
  | gdClr => exact keep_execGdClr hk.le h_s
  | legTestResult => exact keep_execLegTestResult hk.le h_s
  | ilkMaxClr => exact keep_execIlkMaxClr hk.le h_s
  | gdApply => exact keep_execGdApply hk.le h_s
  | vdrvLockout => exact keep_execVdrvLockout hk.le h_s
  | vdrvLockoutRelease => exact keep_execVdrvLockoutRelease hk.le h_s
  | ddieBankRelease => exact keep_execDdieBankRelease hk.le h_s
  | bootstrapLockout => exact keep_execBootstrapLockout hk.le h_s
  | bootstrapUvFault => exact keep_execBootstrapUvFault hk.le h_s
  | vbusReading => exact keep_execVbusReading hk.le h_s
  | busStale => exact keep_execBusStale hk.le h_s
  | busCoast => exact keep_execBusCoast hk.le h_s
  | coastEnd => exact keep_execCoastEnd hk.le h_s
  | rtStop => exact keep_execRtStop hk.le h_s
  | hardOvervoltage => exact keep_execHardOvervoltage hk.le h_s
  | ovStopBathEnd => exact keep_execOvStopBathEnd hk.le h_s
  | dieOverTemperature => exact keep_execDieOverTemperature hk.le h_s
  | hsHoldExpiry => exact keep_execHsHoldExpiry hk.le h_s
  | sbStillExpiry => exact keep_execSbStillExpiry hk.le h_s
  | sbCmd => exact keep_execSbCmd hk.le h_s
  | shutdown => exact keep_execShutdown hk.le h_s
  | switchOn => exact keep_execSwitchOn hk.le h_s
  | enableOperation => exact keep_execEnableOperation hk.le h_s
  | disableOperation => exact keep_execDisableOperation hk.le h_s
  | quickStop => exact keep_execQuickStop hk.le h_s
  | disableVoltage => exact keep_execDisableVoltage hk.le h_s
  | faultReset => exact keep_execFaultReset hk.le h_s
  | encoderEdge => exact keep_execEncoderEdge hk.le h_s
  | hallEdge => exact keep_execHallEdge hk.le h_s
  | encFault => exact keep_execEncFault hk.le h_s
  | encPosPreset => exact keep_execEncPosPreset hk.le h_s
  | speedWindowEnd => exact keep_execSpeedWindowEnd hk.le h_s
  | stillDetected => exact keep_execStillDetected hk.le h_s
  | encAligned => exact keep_execEncAligned hk.le h_s
  | followError => exact keep_execFollowError hk.le h_s
  | encFaultClr => exact keep_execEncFaultClr hk.le h_s
  | encAlign => exact keep_execEncAlign hk.le h_s
  | capArm => exact keep_execCapArm hk.le h_s
  | csShoot => exact keep_execCsShoot hk.le h_s
  | csCancel => exact keep_execCsCancel hk.le h_s
  | contactSheetFire => exact keep_execContactSheetFire hk.le h_s
  | conversionResult => exact keep_execConversionResult hk.le h_s
  | injectedConversionStart => exact keep_execInjectedConversionStart hk.le h_s
  | xportMonitorSample => exact keep_execXportMonitorSample hk.le h_s
  | converterCheck => exact keep_execConverterCheck hk.le h_s
  | converterRetirement => exact keep_execConverterRetirement hk.le h_s
  | selfCalibrationDone => exact keep_execSelfCalibrationDone hk.le h_s
  | converterReturn => exact keep_execConverterReturn hk.le h_s
  | periodicCalibrationDue => exact keep_execPeriodicCalibrationDue hk.le h_s
  | calibrationDeferredStart => exact keep_execCalibrationDeferredStart hk.le h_s
  | calStart => exact keep_execCalStart hk.le h_s
  | syscalZero => exact keep_execSyscalZero hk.le h_s
  | syscalRef => exact keep_execSyscalRef hk.le h_s
  | syscalAverageDone => exact keep_execSyscalAverageDone hk.le h_s
  | thermalScanDue => exact keep_execThermalScanDue hk.le h_s
  | scanResult => exact keep_execScanResult hk.le h_s
  | thmNoScan => exact keep_execThmNoScan hk.le h_s
  | thmSuspect => exact keep_execThmSuspect hk.le h_s
  | thmFailed => exact keep_execThmFailed hk.le h_s
  | thmSubstitute => exact keep_execThmSubstitute hk.le h_s
  | thmRecovered => exact keep_execThmRecovered hk.le h_s
  | snsEnWrite => exact keep_execSnsEnWrite hk.le h_s
  | thrHoldExpiry => exact keep_execThrHoldExpiry hk.le h_s
  | budgetEvaluation => exact keep_execBudgetEvaluation hk.le h_s
  | testStripStart => exact keep_execTestStripStart hk.le h_s
  | stripComplete => exact keep_execStripComplete hk.le h_s
  | voteReplayDone => exact keep_execVoteReplayDone hk.le h_s
  | engineBistDone => exact keep_execEngineBistDone hk.le h_s
  | noPostPortsOff => exact keep_execNoPostPortsOff hk.le h_s
  | migrate => exact keep_execMigrate hk.le h_s
  | migrationCutover => exact keep_execMigrationCutover hk.le h_s
  | coldTakeover => exact keep_execColdTakeover hk.le h_s
  | domainRestart => exact keep_execDomainRestart hk.le h_s
  | domainRestartDone => exact keep_execDomainRestartDone hk.le h_s
  | seqRestart => exact keep_execSeqRestart hk.le h_s
  | sequencerWatchdog => exact keep_execSequencerWatchdog hk.le h_s
  | sequencerRestartDone => exact keep_execSequencerRestartDone hk.le h_s
  | canBusOff => exact keep_execCanBusOff hk.le h_s
  | canSilenceTimeout => exact keep_execCanSilenceTimeout hk.le h_s
  | canBusRestored => exact keep_execCanBusRestored hk.le h_s
  | linkEnumeration => exact keep_execLinkEnumeration hk.le h_s
  | linkRestart => exact keep_execLinkRestart hk.le h_s
  | enumerationFrame => exact keep_execEnumerationFrame hk.le h_s
  | linkCycleStart => exact keep_execLinkCycleStart hk.le h_s
  | cycleFrame => exact keep_execCycleFrame hk.le h_s
  | cycleFrameReturn => exact keep_execCycleFrameReturn hk.le h_s
  | roundTripProbe => exact keep_execRoundTripProbe hk.le h_s
  | workerLocked => exact keep_execWorkerLocked hk.le h_s
  | linkLaneDown => exact keep_execLinkLaneDown hk.le h_s
  | linkLaneUp => exact keep_execLinkLaneUp hk.le h_s
  | workerSelfFence => exact keep_execWorkerSelfFence hk.le h_s
  | managerFence => exact keep_execManagerFence hk.le h_s
  | workerRejoin => exact keep_execWorkerRejoin hk.le h_s
  | ringSheet => exact keep_execRingSheet hk.le h_s
  | ringSheetDone => exact keep_execRingSheetDone hk.le h_s
  | tunnelTransfer => exact keep_execTunnelTransfer hk.le h_s
  | tunnelTimeout => exact keep_execTunnelTimeout hk.le h_s
  | nmtStart => exact keep_execNmtStart hk.le h_s
  | nmtStop => exact keep_execNmtStop hk.le h_s
  | nmtEnterPreOperational => exact keep_execNmtEnterPreOperational hk.le h_s
  | nmtResetCommunication => exact keep_execNmtResetCommunication hk.le h_s
  | nmtResetNode => exact keep_execNmtResetNode hk.le h_s
  | resetNodeReload => exact keep_execResetNodeReload hk.le h_s
  | lssSwitchState => exact keep_execLssSwitchState hk.le h_s
  | lssConfigureNodeId => exact keep_execLssConfigureNodeId hk.le h_s
  | lssConfigureBitTiming => exact keep_execLssConfigureBitTiming hk.le h_s
  | lssActivateBitTiming => exact keep_execLssActivateBitTiming hk.le h_s
  | lssStoreConfiguration => exact keep_execLssStoreConfiguration hk.le h_s
  | lssInquire => exact keep_execLssInquire hk.le h_s
  | lssIdentify => exact keep_execLssIdentify hk.le h_s
  | rpdoReceived => exact keep_execRpdoReceived hk.le h_s
  | timeReceived => exact keep_execTimeReceived hk.le h_s
  | tpdoEventTimer => exact keep_execTpdoEventTimer hk.le h_s
  | tpdoInhibitExpiry => exact keep_execTpdoInhibitExpiry hk.le h_s
  | heartbeatProduce => exact keep_execHeartbeatProduce hk.le h_s
  | heartbeatConsumed => exact keep_execHeartbeatConsumed (a3 := 0) hk.le h_s
  | communicationLoss => exact keep_execCommunicationLoss hk.le h_s
  | emcyInhibitExpiry => exact keep_execEmcyInhibitExpiry hk.le h_s
  | storeParameters => exact keep_execStoreParameters hk.le h_s
  | restoreDefaultParameters => exact keep_execRestoreDefaultParameters hk.le h_s
  | usbFrameGap => exact keep_execUsbFrameGap hk.le h_s
  | usbDtrFall => exact keep_execUsbDtrFall hk.le h_s
  | identify => exact keep_execIdentify hk.le h_s
  | objRead => exact keep_execObjRead hk.le h_s
  | objWrite => exact keep_execObjWrite hk.le h_s
  | regRead => exact keep_execRegRead hk.le h_s
  | regWrite => exact keep_execRegWrite hk.le h_s
  | eventPeek => exact keep_execEventPeek hk.le h_s
  | health => exact keep_execHealth hk.le h_s
  | mbxInCommit => exact keep_execMbxInCommit hk.le h_s
  | mbxOutRead => exact keep_execMbxOutRead hk.le h_s
  | spiOutTimeout => exact keep_execSpiOutTimeout hk.le h_s
  | xomorFrameWrite => exact keep_execXomorFrameWrite hk.le h_s
  | xomorFrameRead => exact keep_execXomorFrameRead hk.le h_s
  | sessHello => exact keep_execSessHello hk.le h_s
  | sessProve => exact keep_execSessProve hk.le h_s
  | sessClose => exact keep_execSessClose hk.le h_s
  | sessCommit => exact keep_execSessCommit hk.le h_s
  | sessDiscard => exact keep_execSessDiscard hk.le h_s
  | sessionIdleExpiry => exact keep_execSessionIdleExpiry hk.le h_s
  | sessProveTimeout => exact keep_execSessProveTimeout hk.le h_s
  | claim => exact keep_execClaim hk.le h_s
  | revoke => exact keep_execRevoke hk.le h_s
  | identity => exact keep_execIdentity hk.le h_s
  | profBegin => exact keep_execProfBegin hk.le h_s
  | profData => exact keep_execProfData hk.le h_s
  | profEnd => exact keep_execProfEnd hk.le h_s
  | profSelect => exact keep_execProfSelect hk.le h_s
  | patchBegin => exact keep_execPatchBegin hk.le h_s
  | patchData => exact keep_execPatchData hk.le h_s
  | patchEnd => exact keep_execPatchEnd hk.le h_s
  | patchActivate => exact keep_execPatchActivate hk.le h_s
  | auditRead => exact keep_execAuditRead hk.le h_s
  | auditSeal => exact keep_execAuditSeal hk.le h_s
  | svcHoursIncrement => exact keep_execSvcHoursIncrement hk.le h_s
  | domOffReq => exact keep_execDomOffReq hk.le h_s
  | domainSwitched => exact keep_execDomainSwitched hk.le h_s
  | bootstrapLockoutRelease => exact keep_execBootstrapLockoutRelease hk.le h_s
  | busComparatorRelease => exact keep_execBusComparatorRelease hk.le h_s
  | dieOverTemperatureRelease => exact keep_execDieOverTemperatureRelease hk.le h_s
  | tripnRelease => exact keep_execTripnRelease hk.le h_s
  | vwMaxageExpiry => exact keep_execVwMaxageExpiry hk.le h_s
  | enumerationTimeout => exact keep_execEnumerationTimeout hk.le h_s
  | canReceiveOverrun => exact keep_execCanReceiveOverrun hk.le h_s
  | canBusOffRecovered => exact keep_execCanBusOffRecovered hk.le h_s
  | helperHandshakeFault => exact keep_execHelperHandshakeFault hk.le h_s

end Sys2Proof.Laws
end

