-- ==== Sys2Proof/Laws/Files.lean ====
section
/-! SUPPORT. The laws of register files and of the SRAM: what a read after a write gives, that a write leaves every
other place alone, and that every operation keeps the canonical form. -/

namespace Sys2Proof.Laws

open Machine

/-! ## Register files -/

theorem sorted_iff (f : RegFile) : f.sorted = true ↔ f.Pairwise fun a b => a.1 < b.1 := by
  induction f with
  | nil => simp [RegFile.sorted]
  | cons x t ih =>
    obtain ⟨k, v⟩ := x
    cases t with
    | nil => simp [RegFile.sorted]
    | cons y u =>
      obtain ⟨k', v'⟩ := y
      simp only [RegFile.sorted, Bool.and_eq_true, decide_eq_true_eq, ih, List.pairwise_cons, List.forall_mem_cons]
      constructor
      · rintro ⟨h, h1, h2⟩
        exact ⟨⟨h, fun z hz => Nat.lt_trans h (h1 z hz)⟩, h1, h2⟩
      · rintro ⟨⟨h, _⟩, h1, h2⟩
        exact ⟨h, h1, h2⟩

theorem mem_insert {f : RegFile} {k v : Nat} {e : Nat × Nat} (h : e ∈ f.insert k v) : e = (k, v) ∨ e ∈ f := by
  induction f with
  | nil => simpa [RegFile.insert] using h
  | cons x t ih =>
    obtain ⟨k', v'⟩ := x
    simp only [RegFile.insert] at h
    split at h
    · simpa using h
    · split at h
      · simp only [List.mem_cons] at h ⊢
        tauto
      · simp only [List.mem_cons] at h ⊢
        rcases h with h | h
        · exact .inr (.inl h)
        · exact (ih h).imp id .inr

theorem mem_erase {f : RegFile} {k : Nat} {e : Nat × Nat} (h : e ∈ f.erase k) : e ∈ f := by
  induction f with
  | nil => exact h
  | cons x t ih =>
    obtain ⟨k', v'⟩ := x
    simp only [RegFile.erase] at h
    split at h
    · exact List.mem_cons_of_mem _ (ih h)
    · simp only [List.mem_cons] at h ⊢
      exact h.imp id ih

theorem sorted_insert {f : RegFile} {k v : Nat} (h : RegFileOk f) : RegFileOk (f.insert k v) := by
  simp only [RegFileOk, sorted_iff] at h ⊢
  induction f with
  | nil => simp [RegFile.insert]
  | cons x t ih =>
    obtain ⟨k', v'⟩ := x
    simp only [List.pairwise_cons] at h
    simp only [RegFile.insert]
    split
    · rename_i hlt
      refine List.pairwise_cons.2 ⟨?_, List.pairwise_cons.2 h⟩
      intro z hz
      rcases List.mem_cons.1 hz with rfl | hz
      · exact hlt
      · exact Nat.lt_trans hlt (h.1 z hz)
    · split
      · rename_i he
        subst he
        exact List.pairwise_cons.2 ⟨h.1, h.2⟩
      · refine List.pairwise_cons.2 ⟨?_, ih h.2⟩
        intro z hz
        rcases mem_insert hz with rfl | hz
        · simp only
          omega
        · exact h.1 z hz

theorem sorted_erase {f : RegFile} {k : Nat} (h : RegFileOk f) : RegFileOk (f.erase k) := by
  simp only [RegFileOk, sorted_iff] at h ⊢
  induction f with
  | nil => exact h
  | cons x t ih =>
    obtain ⟨k', v'⟩ := x
    simp only [List.pairwise_cons] at h
    simp only [RegFile.erase]
    split
    · exact ih h.2
    · exact List.pairwise_cons.2 ⟨fun z hz => h.1 z (mem_erase hz), ih h.2⟩

theorem sorted_set {f : RegFile} {r : Reg} {i v : Nat} (h : RegFileOk f) : RegFileOk (f.set r i v) := by
  unfold RegFile.set
  split
  · exact sorted_erase h
  · exact sorted_insert h

theorem fits_set {f : RegFile} {r : Reg} {i v : Nat} (h : RegFileFits f) : RegFileFits (f.set r i v) := by
  unfold RegFile.set
  split
  · exact fun e he => h e (mem_erase he)
  · rename_i hne
    intro e he
    rcases mem_insert he with rfl | he
    · exact ⟨r, i, rfl, Nat.mod_lt _ (Nat.two_pow_pos _), hne⟩
    · exact h e he

theorem find_insert {f : RegFile} {k v k' : Nat} :
    (f.insert k v).find k' = if k' = k then some v else f.find k' := by
  induction f with
  | nil => simp [RegFile.insert, RegFile.find, eq_comm]
  | cons x t ih =>
    obtain ⟨a, b⟩ := x
    simp only [RegFile.insert]
    split
    · simp only [RegFile.find, eq_comm]
    · split
      · rename_i h
        subst h
        simp only [RegFile.find, eq_comm]
        split <;> rfl
      · simp only [RegFile.find, ih]
        split <;> split <;> first | rfl | omega

theorem find_erase {f : RegFile} {k k' : Nat} : (f.erase k).find k' = if k' = k then none else f.find k' := by
  induction f with
  | nil => simp [RegFile.erase, RegFile.find]
  | cons x t ih =>
    obtain ⟨a, b⟩ := x
    simp only [RegFile.erase]
    split
    · rename_i h
      subst h
      simp only [RegFile.find, ih, eq_comm]
      split <;> rfl
    · simp only [RegFile.find, ih]
      split <;> split <;> first | rfl | omega

/-- A read of the value just written: the value at the width of the field. -/
theorem get_set_same {f : RegFile} {r : Reg} {i v : Nat} : (f.set r i v).get r i = trunc r.width v := by
  unfold RegFile.set RegFile.get
  split
  · rename_i h
    simp [find_erase, h]
  · simp [find_insert]

/-- A write leaves every value under another key alone. -/
theorem get_set_key {f : RegFile} {r r' : Reg} {i i' v : Nat} (h : r'.key i' ≠ r.key i) :
    (f.set r i v).get r' i' = f.get r' i' := by
  unfold RegFile.set RegFile.get
  split
  · simp [find_erase, h]
  · simp [find_insert, h]

theorem ctorIdx_lt (r : Reg) : r.ctorIdx < 2048 := by
  cases r <;> decide

/-- Different values and different instances have different keys. -/
theorem key_inj {r r' : Reg} {i i' : Nat} (h : r.key i = r'.key i') : r = r' ∧ i = i' := by
  unfold Reg.key at h
  have h0 := ctorIdx_lt r
  have h1 := ctorIdx_lt r'
  have h2 : r.ctorIdx = r'.ctorIdx := by omega
  exact ⟨by rw [← Reg.ofNat_ctorIdx r, h2, Reg.ofNat_ctorIdx], by omega⟩

theorem get_set_reg {f : RegFile} {r r' : Reg} {i i' v : Nat} (h : r ≠ r' ∨ i ≠ i') : (f.set r i v).get r' i' = f.get r' i' := by
  refine get_set_key fun e => ?_
  obtain ⟨rfl, rfl⟩ := key_inj e
  simp at h

/-! ## SRAM -/

theorem wf_iff (m : Memory) : m.wf = true ↔ (m.Pairwise fun a b => a.1 < b.1) ∧ ∀ c ∈ m, c.2 ≠ 0 := by
  induction m with
  | nil => simp [Memory.wf]
  | cons x t ih =>
    obtain ⟨a, b⟩ := x
    cases t with
    | nil => simp [Memory.wf]
    | cons y u =>
      obtain ⟨a', b'⟩ := y
      simp only [Memory.wf, Bool.and_eq_true, decide_eq_true_eq, ih, List.pairwise_cons, List.forall_mem_cons]
      constructor
      · rintro ⟨⟨h0, h⟩, ⟨h1, h2⟩, h3⟩
        exact ⟨⟨⟨h, fun z hz => Nat.lt_trans h (h1 z hz)⟩, h1, h2⟩, h0, h3⟩
      · rintro ⟨⟨⟨h, _⟩, h1, h2⟩, h0, h3⟩
        exact ⟨⟨h0, h⟩, ⟨h1, h2⟩, h3⟩

theorem mem_minsert {m : Memory} {a : Nat} {b : Byte} {c : Nat × Byte} (h : c ∈ m.insert a b) : c = (a, b) ∨ c ∈ m := by
  induction m with
  | nil => simpa [Memory.insert] using h
  | cons x t ih =>
    obtain ⟨a', b'⟩ := x
    simp only [Memory.insert] at h
    split at h
    · simpa using h
    · split at h
      · simp only [List.mem_cons] at h ⊢
        tauto
      · simp only [List.mem_cons] at h ⊢
        rcases h with h | h
        · exact .inr (.inl h)
        · exact (ih h).imp id .inr

theorem mem_merase {m : Memory} {a : Nat} {c : Nat × Byte} (h : c ∈ m.erase a) : c ∈ m := by
  induction m with
  | nil => exact h
  | cons x t ih =>
    obtain ⟨a', b'⟩ := x
    simp only [Memory.erase] at h
    split at h
    · exact List.mem_cons_of_mem _ (ih h)
    · simp only [List.mem_cons] at h ⊢
      exact h.imp id ih

theorem pairwise_minsert {m : Memory} {a : Nat} {b : Byte} (h : m.Pairwise fun x y => x.1 < y.1) :
    (m.insert a b).Pairwise fun x y => x.1 < y.1 := by
  induction m with
  | nil => simp [Memory.insert]
  | cons x t ih =>
    obtain ⟨a', b'⟩ := x
    simp only [List.pairwise_cons] at h
    simp only [Memory.insert]
    split
    · rename_i hlt
      refine List.pairwise_cons.2 ⟨?_, List.pairwise_cons.2 h⟩
      intro z hz
      rcases List.mem_cons.1 hz with rfl | hz
      · exact hlt
      · exact Nat.lt_trans hlt (h.1 z hz)
    · split
      · rename_i he
        subst he
        exact List.pairwise_cons.2 ⟨h.1, h.2⟩
      · refine List.pairwise_cons.2 ⟨?_, ih h.2⟩
        intro z hz
        rcases mem_minsert hz with rfl | hz
        · simp only
          omega
        · exact h.1 z hz

theorem pairwise_merase {m : Memory} {a : Nat} (h : m.Pairwise fun x y => x.1 < y.1) :
    (m.erase a).Pairwise fun x y => x.1 < y.1 := by
  induction m with
  | nil => exact h
  | cons x t ih =>
    obtain ⟨a', b'⟩ := x
    simp only [List.pairwise_cons] at h
    simp only [Memory.erase]
    split
    · exact ih h.2
    · exact List.pairwise_cons.2 ⟨fun z hz => h.1 z (mem_merase hz), ih h.2⟩

/-- Writing a byte keeps the canonical form. -/
theorem wf_write {m : Memory} {a : Nat} {b : Byte} (h : m.wf = true) : (m.write a b).wf = true := by
  rw [wf_iff] at h ⊢
  unfold Memory.write
  split
  · exact ⟨pairwise_merase h.1, fun c hc => h.2 c (mem_merase hc)⟩
  · rename_i hb
    refine ⟨pairwise_minsert h.1, fun c hc => ?_⟩
    rcases mem_minsert hc with rfl | hc
    · exact hb
    · exact h.2 c hc

/-- Writing a word keeps the canonical form. -/
theorem wf_setWord {m : Memory} {a w : Nat} (h : m.wf = true) : (m.setWord a w).wf = true :=
  wf_write (wf_write (wf_write (wf_write h)))

theorem read_insert {m : Memory} {a a' : Nat} {b : Byte} : (m.insert a b).read a' = if a' = a then b else m.read a' := by
  induction m with
  | nil => simp [Memory.insert, Memory.read, eq_comm]
  | cons x t ih =>
    obtain ⟨k, v⟩ := x
    simp only [Memory.insert]
    split
    · simp only [Memory.read, eq_comm]
    · split
      · rename_i h
        subst h
        simp only [Memory.read, eq_comm]
        split <;> rfl
      · simp only [Memory.read, ih]
        split <;> split <;> first | rfl | omega

theorem read_erase {m : Memory} {a a' : Nat} : (m.erase a).read a' = if a' = a then 0 else m.read a' := by
  induction m with
  | nil => simp [Memory.erase, Memory.read]
  | cons x t ih =>
    obtain ⟨k, v⟩ := x
    simp only [Memory.erase]
    split
    · rename_i h
      subst h
      simp only [Memory.read, ih, eq_comm]
      split <;> rfl
    · simp only [Memory.read, ih]
      split <;> split <;> first | rfl | omega

/-- A read after a write of one byte: the byte at its address, what stood there elsewhere. -/
theorem read_write {m : Memory} {a a' : Nat} {b : Byte} : (m.write a b).read a' = if a' = a then b else m.read a' := by
  unfold Memory.write
  split
  · rename_i h
    rw [read_erase, h]
  · exact read_insert

/-- A word's write leaves every byte outside its four alone. -/
theorem read_setWord_other {m : Memory} {a w a' : Nat} (h : a' < a ∨ a + 4 ≤ a') : (m.setWord a w).read a' = m.read a' := by
  unfold Memory.setWord
  simp only [read_write]
  split
  · omega
  · split
    · omega
    · split
      · omega
      · split
        · omega
        · rfl

/-- A word read after it has been written. -/
theorem word_setWord {m : Memory} {a w : Nat} (h : w < 2 ^ 32) : (m.setWord a w).word a = w := by
  unfold Memory.word Memory.setWord
  simp only [read_write]
  simp only [Nat.left_eq_add, Nat.add_left_cancel_iff, Nat.reduceEqDiff, OfNat.ofNat_ne_zero,
    Nat.add_eq_left, reduceIte, BitVec.toNat_ofNat, OfNat.ofNat_ne_one, OfNat.one_ne_ofNat, one_ne_zero]
  omega

end Sys2Proof.Laws
end

