-- ==== Sys2Proof/Laws/State.lean ====
section
/-! SUPPORT. Beside State: what every update of the state does to every field, and what a register, a developed copy,
a byte and a word read as after it. No proof has to unfold a record update. -/

namespace Sys2Proof.Laws

open Machine

variable (s : State)

/-! ## put -/

@[simp] theorem put_ts {r} {i} {v} : (s.put r i v).ts = s.ts := rfl
@[simp] theorem put_regs {r} {i} {v} : (s.put r i v).regs = s.regs.set r i v := rfl
@[simp] theorem put_dev {r} {i} {v} : (s.put r i v).dev = s.dev := rfl
@[simp] theorem put_rc {r} {i} {v} : (s.put r i v).rc = s.rc := rfl
@[simp] theorem put_spiRead {r} {i} {v} : (s.put r i v).spiRead = s.spiRead := rfl
@[simp] theorem put_winRead {r} {i} {v} : (s.put r i v).winRead = s.winRead := rfl
@[simp] theorem put_spiWrite {r} {i} {v} : (s.put r i v).spiWrite = s.spiWrite := rfl
@[simp] theorem put_winWrite {r} {i} {v} : (s.put r i v).winWrite = s.winWrite := rfl
@[simp] theorem put_mem {r} {i} {v} : (s.put r i v).mem = s.mem := rfl
@[simp] theorem put_eccBad {r} {i} {v} : (s.put r i v).eccBad = s.eccBad := rfl
@[simp] theorem put_motion {r} {i} {v} : (s.put r i v).motion = s.motion := rfl
@[simp] theorem put_encHist {r} {i} {v} : (s.put r i v).encHist = s.encHist := rfl
@[simp] theorem put_armed {r} {i} {v} : (s.put r i v).armed = s.armed := rfl
@[simp] theorem put_tx {r} {i} {v} : (s.put r i v).tx = s.tx := rfl
@[simp] theorem put_answer {r} {i} {v} : (s.put r i v).answer = s.answer := rfl
@[simp] theorem put_emcyQ {r} {i} {v} : (s.put r i v).emcyQ = s.emcyQ := rfl
@[simp] theorem put_audit {r} {i} {v} : (s.put r i v).audit = s.audit := rfl
@[simp] theorem put_sec {r} {i} {v} : (s.put r i v).sec = s.sec := rfl
@[simp] theorem put_rx {r} {i} {v} : (s.put r i v).rx = s.rx := rfl
@[simp] theorem put_resp {r} {i} {v} : (s.put r i v).resp = s.resp := rfl
@[simp] theorem put_outWait {r} {i} {v} : (s.put r i v).outWait = s.outWait := rfl
@[simp] theorem put_canSeen {r} {i} {v} : (s.put r i v).canSeen = s.canSeen := rfl
@[simp] theorem put_freeCount {r} {i} {v} : (s.put r i v).freeCount = s.freeCount := rfl
@[simp] theorem put_pending {r} {i} {v} : (s.put r i v).pending = s.pending := rfl

/-! ## putDev -/

@[simp] theorem putDev_ts {r} {i} {v} : (s.putDev r i v).ts = s.ts := rfl
@[simp] theorem putDev_regs {r} {i} {v} : (s.putDev r i v).regs = s.regs := rfl
@[simp] theorem putDev_dev {r} {i} {v} : (s.putDev r i v).dev = s.dev.set r i v := rfl
@[simp] theorem putDev_rc {r} {i} {v} : (s.putDev r i v).rc = s.rc := rfl
@[simp] theorem putDev_spiRead {r} {i} {v} : (s.putDev r i v).spiRead = s.spiRead := rfl
@[simp] theorem putDev_winRead {r} {i} {v} : (s.putDev r i v).winRead = s.winRead := rfl
@[simp] theorem putDev_spiWrite {r} {i} {v} : (s.putDev r i v).spiWrite = s.spiWrite := rfl
@[simp] theorem putDev_winWrite {r} {i} {v} : (s.putDev r i v).winWrite = s.winWrite := rfl
@[simp] theorem putDev_mem {r} {i} {v} : (s.putDev r i v).mem = s.mem := rfl
@[simp] theorem putDev_eccBad {r} {i} {v} : (s.putDev r i v).eccBad = s.eccBad := rfl
@[simp] theorem putDev_motion {r} {i} {v} : (s.putDev r i v).motion = s.motion := rfl
@[simp] theorem putDev_encHist {r} {i} {v} : (s.putDev r i v).encHist = s.encHist := rfl
@[simp] theorem putDev_armed {r} {i} {v} : (s.putDev r i v).armed = s.armed := rfl
@[simp] theorem putDev_tx {r} {i} {v} : (s.putDev r i v).tx = s.tx := rfl
@[simp] theorem putDev_answer {r} {i} {v} : (s.putDev r i v).answer = s.answer := rfl
@[simp] theorem putDev_emcyQ {r} {i} {v} : (s.putDev r i v).emcyQ = s.emcyQ := rfl
@[simp] theorem putDev_audit {r} {i} {v} : (s.putDev r i v).audit = s.audit := rfl
@[simp] theorem putDev_sec {r} {i} {v} : (s.putDev r i v).sec = s.sec := rfl
@[simp] theorem putDev_rx {r} {i} {v} : (s.putDev r i v).rx = s.rx := rfl
@[simp] theorem putDev_resp {r} {i} {v} : (s.putDev r i v).resp = s.resp := rfl
@[simp] theorem putDev_outWait {r} {i} {v} : (s.putDev r i v).outWait = s.outWait := rfl
@[simp] theorem putDev_canSeen {r} {i} {v} : (s.putDev r i v).canSeen = s.canSeen := rfl
@[simp] theorem putDev_freeCount {r} {i} {v} : (s.putDev r i v).freeCount = s.freeCount := rfl
@[simp] theorem putDev_pending {r} {i} {v} : (s.putDev r i v).pending = s.pending := rfl

/-! ## freed -/

@[simp] theorem freed_ts : (s.freed).ts = s.ts := rfl
@[simp] theorem freed_regs : (s.freed).regs = s.regs := rfl
@[simp] theorem freed_dev : (s.freed).dev = s.dev := rfl
@[simp] theorem freed_rc : (s.freed).rc = s.rc := rfl
@[simp] theorem freed_spiRead : (s.freed).spiRead = s.spiRead := rfl
@[simp] theorem freed_winRead : (s.freed).winRead = s.winRead := rfl
@[simp] theorem freed_spiWrite : (s.freed).spiWrite = s.spiWrite := rfl
@[simp] theorem freed_winWrite : (s.freed).winWrite = s.winWrite := rfl
@[simp] theorem freed_mem : (s.freed).mem = s.mem := rfl
@[simp] theorem freed_eccBad : (s.freed).eccBad = s.eccBad := rfl
@[simp] theorem freed_motion : (s.freed).motion = s.motion := rfl
@[simp] theorem freed_encHist : (s.freed).encHist = s.encHist := rfl
@[simp] theorem freed_armed : (s.freed).armed = s.armed := rfl
@[simp] theorem freed_tx : (s.freed).tx = s.tx := rfl
@[simp] theorem freed_answer : (s.freed).answer = s.answer := rfl
@[simp] theorem freed_emcyQ : (s.freed).emcyQ = s.emcyQ := rfl
@[simp] theorem freed_audit : (s.freed).audit = s.audit := rfl
@[simp] theorem freed_sec : (s.freed).sec = s.sec := rfl
@[simp] theorem freed_rx : (s.freed).rx = s.rx := rfl
@[simp] theorem freed_resp : (s.freed).resp = s.resp := rfl
@[simp] theorem freed_outWait : (s.freed).outWait = s.outWait := rfl
@[simp] theorem freed_canSeen : (s.freed).canSeen = s.canSeen := rfl
@[simp] theorem freed_freeCount : (s.freed).freeCount = s.freeCount + 1 := rfl
@[simp] theorem freed_pending : (s.freed).pending = s.pending := rfl

/-! ## setWord -/

@[simp] theorem setWord_ts {a} {w} : (s.setWord a w).ts = s.ts := rfl
@[simp] theorem setWord_regs {a} {w} : (s.setWord a w).regs = s.regs := rfl
@[simp] theorem setWord_dev {a} {w} : (s.setWord a w).dev = s.dev := rfl
@[simp] theorem setWord_rc {a} {w} : (s.setWord a w).rc = s.rc := rfl
@[simp] theorem setWord_spiRead {a} {w} : (s.setWord a w).spiRead = s.spiRead := rfl
@[simp] theorem setWord_winRead {a} {w} : (s.setWord a w).winRead = s.winRead := rfl
@[simp] theorem setWord_spiWrite {a} {w} : (s.setWord a w).spiWrite = s.spiWrite := rfl
@[simp] theorem setWord_winWrite {a} {w} : (s.setWord a w).winWrite = s.winWrite := rfl
@[simp] theorem setWord_mem {a} {w} : (s.setWord a w).mem = s.mem.setWord a w := rfl
@[simp] theorem setWord_eccBad {a} {w} : (s.setWord a w).eccBad = s.eccBad.filter (· != a) := rfl
@[simp] theorem setWord_motion {a} {w} : (s.setWord a w).motion = s.motion := rfl
@[simp] theorem setWord_encHist {a} {w} : (s.setWord a w).encHist = s.encHist := rfl
@[simp] theorem setWord_armed {a} {w} : (s.setWord a w).armed = s.armed := rfl
@[simp] theorem setWord_tx {a} {w} : (s.setWord a w).tx = s.tx := rfl
@[simp] theorem setWord_answer {a} {w} : (s.setWord a w).answer = s.answer := rfl
@[simp] theorem setWord_emcyQ {a} {w} : (s.setWord a w).emcyQ = s.emcyQ := rfl
@[simp] theorem setWord_audit {a} {w} : (s.setWord a w).audit = s.audit := rfl
@[simp] theorem setWord_sec {a} {w} : (s.setWord a w).sec = s.sec := rfl
@[simp] theorem setWord_rx {a} {w} : (s.setWord a w).rx = s.rx := rfl
@[simp] theorem setWord_resp {a} {w} : (s.setWord a w).resp = s.resp := rfl
@[simp] theorem setWord_outWait {a} {w} : (s.setWord a w).outWait = s.outWait := rfl
@[simp] theorem setWord_canSeen {a} {w} : (s.setWord a w).canSeen = s.canSeen := rfl
@[simp] theorem setWord_freeCount {a} {w} : (s.setWord a w).freeCount = s.freeCount := rfl
@[simp] theorem setWord_pending {a} {w} : (s.setWord a w).pending = s.pending := rfl

/-! ## send -/

@[simp] theorem send_ts {p} {c} {d} : (s.send p c d).ts = s.ts := rfl
@[simp] theorem send_regs {p} {c} {d} : (s.send p c d).regs = s.regs := rfl
@[simp] theorem send_dev {p} {c} {d} : (s.send p c d).dev = s.dev := rfl
@[simp] theorem send_rc {p} {c} {d} : (s.send p c d).rc = s.rc := rfl
@[simp] theorem send_spiRead {p} {c} {d} : (s.send p c d).spiRead = s.spiRead := rfl
@[simp] theorem send_winRead {p} {c} {d} : (s.send p c d).winRead = s.winRead := rfl
@[simp] theorem send_spiWrite {p} {c} {d} : (s.send p c d).spiWrite = s.spiWrite := rfl
@[simp] theorem send_winWrite {p} {c} {d} : (s.send p c d).winWrite = s.winWrite := rfl
@[simp] theorem send_mem {p} {c} {d} : (s.send p c d).mem = s.mem := rfl
@[simp] theorem send_eccBad {p} {c} {d} : (s.send p c d).eccBad = s.eccBad := rfl
@[simp] theorem send_motion {p} {c} {d} : (s.send p c d).motion = s.motion := rfl
@[simp] theorem send_encHist {p} {c} {d} : (s.send p c d).encHist = s.encHist := rfl
@[simp] theorem send_armed {p} {c} {d} : (s.send p c d).armed = s.armed := rfl
@[simp] theorem send_tx {p} {c} {d} : (s.send p c d).tx = s.tx ++ [⟨p, c, d⟩] := rfl
@[simp] theorem send_answer {p} {c} {d} : (s.send p c d).answer = s.answer := rfl
@[simp] theorem send_emcyQ {p} {c} {d} : (s.send p c d).emcyQ = s.emcyQ := rfl
@[simp] theorem send_audit {p} {c} {d} : (s.send p c d).audit = s.audit := rfl
@[simp] theorem send_sec {p} {c} {d} : (s.send p c d).sec = s.sec := rfl
@[simp] theorem send_rx {p} {c} {d} : (s.send p c d).rx = s.rx := rfl
@[simp] theorem send_resp {p} {c} {d} : (s.send p c d).resp = s.resp := rfl
@[simp] theorem send_outWait {p} {c} {d} : (s.send p c d).outWait = s.outWait := rfl
@[simp] theorem send_canSeen {p} {c} {d} : (s.send p c d).canSeen = s.canSeen := rfl
@[simp] theorem send_freeCount {p} {c} {d} : (s.send p c d).freeCount = s.freeCount := rfl
@[simp] theorem send_pending {p} {c} {d} : (s.send p c d).pending = s.pending := rfl

/-! ## setMo -/

@[simp] theorem setMo_ts {i} {m} : (s.setMo i m).ts = s.ts := rfl
@[simp] theorem setMo_regs {i} {m} : (s.setMo i m).regs = s.regs := rfl
@[simp] theorem setMo_dev {i} {m} : (s.setMo i m).dev = s.dev := rfl
@[simp] theorem setMo_rc {i} {m} : (s.setMo i m).rc = s.rc := rfl
@[simp] theorem setMo_spiRead {i} {m} : (s.setMo i m).spiRead = s.spiRead := rfl
@[simp] theorem setMo_winRead {i} {m} : (s.setMo i m).winRead = s.winRead := rfl
@[simp] theorem setMo_spiWrite {i} {m} : (s.setMo i m).spiWrite = s.spiWrite := rfl
@[simp] theorem setMo_winWrite {i} {m} : (s.setMo i m).winWrite = s.winWrite := rfl
@[simp] theorem setMo_mem {i} {m} : (s.setMo i m).mem = s.mem := rfl
@[simp] theorem setMo_eccBad {i} {m} : (s.setMo i m).eccBad = s.eccBad := rfl
@[simp] theorem setMo_motion {i} {m} : (s.setMo i m).motion = s.motion.set i m := rfl
@[simp] theorem setMo_encHist {i} {m} : (s.setMo i m).encHist = s.encHist := rfl
@[simp] theorem setMo_armed {i} {m} : (s.setMo i m).armed = s.armed := rfl
@[simp] theorem setMo_tx {i} {m} : (s.setMo i m).tx = s.tx := rfl
@[simp] theorem setMo_answer {i} {m} : (s.setMo i m).answer = s.answer := rfl
@[simp] theorem setMo_emcyQ {i} {m} : (s.setMo i m).emcyQ = s.emcyQ := rfl
@[simp] theorem setMo_audit {i} {m} : (s.setMo i m).audit = s.audit := rfl
@[simp] theorem setMo_sec {i} {m} : (s.setMo i m).sec = s.sec := rfl
@[simp] theorem setMo_rx {i} {m} : (s.setMo i m).rx = s.rx := rfl
@[simp] theorem setMo_resp {i} {m} : (s.setMo i m).resp = s.resp := rfl
@[simp] theorem setMo_outWait {i} {m} : (s.setMo i m).outWait = s.outWait := rfl
@[simp] theorem setMo_canSeen {i} {m} : (s.setMo i m).canSeen = s.canSeen := rfl
@[simp] theorem setMo_freeCount {i} {m} : (s.setMo i m).freeCount = s.freeCount := rfl
@[simp] theorem setMo_pending {i} {m} : (s.setMo i m).pending = s.pending := rfl

/-! ## reply -/

@[simp] theorem reply_ts {a} {d} : (s.reply a d).ts = s.ts := rfl
@[simp] theorem reply_regs {a} {d} : (s.reply a d).regs = s.regs.set .ANS_ABORT 0 a := rfl
@[simp] theorem reply_dev {a} {d} : (s.reply a d).dev = s.dev := rfl
@[simp] theorem reply_rc {a} {d} : (s.reply a d).rc = s.rc := rfl
@[simp] theorem reply_spiRead {a} {d} : (s.reply a d).spiRead = s.spiRead := rfl
@[simp] theorem reply_winRead {a} {d} : (s.reply a d).winRead = s.winRead := rfl
@[simp] theorem reply_spiWrite {a} {d} : (s.reply a d).spiWrite = s.spiWrite := rfl
@[simp] theorem reply_winWrite {a} {d} : (s.reply a d).winWrite = s.winWrite := rfl
@[simp] theorem reply_mem {a} {d} : (s.reply a d).mem = s.mem := rfl
@[simp] theorem reply_eccBad {a} {d} : (s.reply a d).eccBad = s.eccBad := rfl
@[simp] theorem reply_motion {a} {d} : (s.reply a d).motion = s.motion := rfl
@[simp] theorem reply_encHist {a} {d} : (s.reply a d).encHist = s.encHist := rfl
@[simp] theorem reply_armed {a} {d} : (s.reply a d).armed = s.armed := rfl
@[simp] theorem reply_tx {a} {d} : (s.reply a d).tx = s.tx := rfl
@[simp] theorem reply_answer {a} {d} : (s.reply a d).answer = d := rfl
@[simp] theorem reply_emcyQ {a} {d} : (s.reply a d).emcyQ = s.emcyQ := rfl
@[simp] theorem reply_audit {a} {d} : (s.reply a d).audit = s.audit := rfl
@[simp] theorem reply_sec {a} {d} : (s.reply a d).sec = s.sec := rfl
@[simp] theorem reply_rx {a} {d} : (s.reply a d).rx = s.rx := rfl
@[simp] theorem reply_resp {a} {d} : (s.reply a d).resp = s.resp := rfl
@[simp] theorem reply_outWait {a} {d} : (s.reply a d).outWait = s.outWait := rfl
@[simp] theorem reply_canSeen {a} {d} : (s.reply a d).canSeen = s.canSeen := rfl
@[simp] theorem reply_freeCount {a} {d} : (s.reply a d).freeCount = s.freeCount := rfl
@[simp] theorem reply_pending {a} {d} : (s.reply a d).pending = s.pending := rfl

/-! ## atTick -/

@[simp] theorem atTick_regs {t} : (s.atTick t).regs = s.regs := by unfold State.atTick; split; rfl; dsimp only; split <;> rfl
@[simp] theorem atTick_dev {t} : (s.atTick t).dev = s.dev := by unfold State.atTick; split; rfl; dsimp only; split <;> rfl
theorem atTick_rc {t} : (s.atTick t).rc = if s.flag .TB_RUNNING 0 ∧ s.ts / 160 < t / 160 then s.regs else s.rc := by
  unfold State.atTick
  cases hr : s.flag .TB_RUNNING 0
  · simp
  · by_cases h : s.ts / 160 < t / 160
    · have h1 : true = true ∧ s.ts / 160 < t / 160 := ⟨rfl, h⟩
      rw [if_pos h1, if_pos h]
      rfl
    · have h1 : ¬(true = true ∧ s.ts / 160 < t / 160) := fun x => h x.2
      rw [if_neg h1, if_neg h]
      rfl
@[simp] theorem atTick_spiRead {t} : (s.atTick t).spiRead = s.spiRead := by unfold State.atTick; split; rfl; dsimp only; split <;> rfl
@[simp] theorem atTick_winRead {t} : (s.atTick t).winRead = s.winRead := by unfold State.atTick; split; rfl; dsimp only; split <;> rfl
@[simp] theorem atTick_spiWrite {t} : (s.atTick t).spiWrite = s.spiWrite := by unfold State.atTick; split; rfl; dsimp only; split <;> rfl
@[simp] theorem atTick_winWrite {t} : (s.atTick t).winWrite = s.winWrite := by unfold State.atTick; split; rfl; dsimp only; split <;> rfl
@[simp] theorem atTick_mem {t} : (s.atTick t).mem = s.mem := by unfold State.atTick; split; rfl; dsimp only; split <;> rfl
@[simp] theorem atTick_eccBad {t} : (s.atTick t).eccBad = s.eccBad := by unfold State.atTick; split; rfl; dsimp only; split <;> rfl
@[simp] theorem atTick_motion {t} : (s.atTick t).motion = s.motion := by unfold State.atTick; split; rfl; dsimp only; split <;> rfl
@[simp] theorem atTick_encHist {t} : (s.atTick t).encHist = s.encHist := by unfold State.atTick; split; rfl; dsimp only; split <;> rfl
@[simp] theorem atTick_armed {t} : (s.atTick t).armed = s.armed := by unfold State.atTick; split; rfl; dsimp only; split <;> rfl
@[simp] theorem atTick_tx {t} : (s.atTick t).tx = s.tx := by unfold State.atTick; split; rfl; dsimp only; split <;> rfl
@[simp] theorem atTick_answer {t} : (s.atTick t).answer = s.answer := by unfold State.atTick; split; rfl; dsimp only; split <;> rfl
@[simp] theorem atTick_emcyQ {t} : (s.atTick t).emcyQ = s.emcyQ := by unfold State.atTick; split; rfl; dsimp only; split <;> rfl
@[simp] theorem atTick_audit {t} : (s.atTick t).audit = s.audit := by unfold State.atTick; split; rfl; dsimp only; split <;> rfl
@[simp] theorem atTick_sec {t} : (s.atTick t).sec = s.sec := by unfold State.atTick; split; rfl; dsimp only; split <;> rfl
@[simp] theorem atTick_rx {t} : (s.atTick t).rx = s.rx := by unfold State.atTick; split; rfl; dsimp only; split <;> rfl
@[simp] theorem atTick_resp {t} : (s.atTick t).resp = s.resp := by unfold State.atTick; split; rfl; dsimp only; split <;> rfl
@[simp] theorem atTick_outWait {t} : (s.atTick t).outWait = s.outWait := by unfold State.atTick; split; rfl; dsimp only; split <;> rfl
@[simp] theorem atTick_canSeen {t} : (s.atTick t).canSeen = s.canSeen := by unfold State.atTick; split; rfl; dsimp only; split <;> rfl
@[simp] theorem atTick_freeCount {t} : (s.atTick t).freeCount = s.freeCount := by unfold State.atTick; split; rfl; dsimp only; split <;> rfl
@[simp] theorem atTick_pending {t} : (s.atTick t).pending = s.pending := by unfold State.atTick; split; rfl; dsimp only; split <;> rfl

theorem atTick_ts {t} : (s.atTick t).ts = if s.flag .TB_RUNNING 0 then max s.ts t else s.ts := by
  unfold State.atTick
  split <;> simp_all

/-! ## Registers and developed copies -/

@[simp] theorem get_put_same {r i v} : (s.put r i v).get r i = trunc r.width v := get_set_same

theorem get_put {r r' i i' v} : (s.put r i v).get r' i' = if r' = r ∧ i' = i then trunc r.width v else s.get r' i' := by
  split
  · rename_i h
    obtain ⟨rfl, rfl⟩ := h
    exact get_set_same
  · rename_i h
    exact get_set_reg (by tauto)

@[simp] theorem get_put_reg {r r' : Reg} {i i' v} (h : r' ≠ r) : (s.put r i v).get r' i' = s.get r' i' :=
  get_set_reg (.inl (Ne.symm h))

@[simp] theorem get_put_inst {r : Reg} {i i' : Nat} {v} (h : i' ≠ i) : (s.put r i v).get r i' = s.get r i' :=
  get_set_reg (.inr (Ne.symm h))

@[simp] theorem dv_put {r r' i i' v} : (s.put r i v).dv r' i' = s.dv r' i' := rfl

@[simp] theorem get_putDev {r r' i i' v} : (s.putDev r i v).get r' i' = s.get r' i' := rfl

@[simp] theorem dv_putDev_same {r i v} : (s.putDev r i v).dv r i = trunc r.width v := get_set_same

theorem dv_putDev {r r' i i' v} : (s.putDev r i v).dv r' i' = if r' = r ∧ i' = i then trunc r.width v else s.dv r' i' := by
  split
  · rename_i h
    obtain ⟨rfl, rfl⟩ := h
    exact get_set_same
  · rename_i h
    exact get_set_reg (by tauto)

@[simp] theorem dv_putDev_reg {r r' : Reg} {i i' v} (h : r' ≠ r) : (s.putDev r i v).dv r' i' = s.dv r' i' :=
  get_set_reg (.inl (Ne.symm h))

@[simp] theorem dv_putDev_inst {r : Reg} {i i' : Nat} {v} (h : i' ≠ i) : (s.putDev r i v).dv r i' = s.dv r i' :=
  get_set_reg (.inr (Ne.symm h))

@[simp] theorem get_freed {r' i'} : (s.freed).get r' i' = s.get r' i' := rfl
@[simp] theorem dv_freed {r' i'} : (s.freed).dv r' i' = s.dv r' i' := rfl
@[simp] theorem get_setWord {a} {w} {r' i'} : (s.setWord a w).get r' i' = s.get r' i' := rfl
@[simp] theorem dv_setWord {a} {w} {r' i'} : (s.setWord a w).dv r' i' = s.dv r' i' := rfl
@[simp] theorem get_send {p} {c} {d} {r' i'} : (s.send p c d).get r' i' = s.get r' i' := rfl
@[simp] theorem dv_send {p} {c} {d} {r' i'} : (s.send p c d).dv r' i' = s.dv r' i' := rfl
@[simp] theorem get_setMo {i} {m} {r' i'} : (s.setMo i m).get r' i' = s.get r' i' := rfl
@[simp] theorem dv_setMo {i} {m} {r' i'} : (s.setMo i m).dv r' i' = s.dv r' i' := rfl
@[simp] theorem get_atTick {t r i} : (s.atTick t).get r i = s.get r i := by simp [State.get]
@[simp] theorem dv_atTick {t r i} : (s.atTick t).dv r i = s.dv r i := by simp [State.dv]
@[simp] theorem dv_reply {a d r i} : (s.reply a d).dv r i = s.dv r i := rfl
@[simp] theorem get_reply_abort {a d} : (s.reply a d).get .ANS_ABORT 0 = trunc 32 a := get_set_same
@[simp] theorem get_reply {a d} {r : Reg} {i} (h : r ≠ .ANS_ABORT) : (s.reply a d).get r i = s.get r i :=
  get_set_reg (.inl (Ne.symm h))

/-- A value that fits its field is stored whole. -/
theorem trunc_of_lt {w v : Nat} (h : v < 2 ^ w) : trunc w v = v := Nat.mod_eq_of_lt h

end Sys2Proof.Laws
end

