-- ==== Sys2Proof/Laws/Frame.lean ====
section
/-! SUPPORT. To stay within a footprint is kept by every update inside the footprint's mask, so that the lemma
`keep_exec<Command>` of a command says at once what the command may write. -/

namespace Sys2Proof.Laws

open Machine

theorem ctorIdx_inj {r r' : Reg} (h : r.ctorIdx = r'.ctorIdx) : r = r' :=
  (key_inj (i := 0) (i' := 0) (show 0 * 2048 + r.ctorIdx = 0 * 2048 + r'.ctorIdx by rw [h])).1

theorem mem_of_testBit {l : List Reg} {r : Reg} (h : (rbits l).testBit r.ctorIdx = true) : r ∈ l := by
  induction l with
  | nil => simp [rbits] at h
  | cons a t ih =>
    have h1 : ((rbit a).testBit r.ctorIdx || (rbits t).testBit r.ctorIdx) = true := by
      rw [← Nat.testBit_or]
      exact h
    rcases Bool.or_eq_true _ _ ▸ h1 with h2 | h2
    · have h3 : (1 <<< a.ctorIdx).testBit r.ctorIdx = true := h2
      rw [Nat.one_shiftLeft, Nat.testBit_two_pow] at h3
      exact List.mem_cons.mpr (.inl (ctorIdx_inj (of_decide_eq_true h3)).symm)
    · exact List.mem_cons_of_mem a (ih h2)

/-- The bit of a part in a mask. -/
def partBit : Part → Nat
  | .copies => 1
  | .readShadow => 2
  | .writeShadow => 4
  | .memory => 8
  | .motion => 16
  | .counts => 32
  | .partials => 64
  | .responses => 128
  | .sent => 256
  | .audit => 512
  | .store => 1024
  | .clock => 4096

def partBits : List Part → Nat
  | [] => 0
  | p :: t => Nat.lor (partBit p) (partBits t)

/-- The mask of a footprint. -/
def maskOf (f : Footprint) : Mask :=
  ⟨if f.allRegs then rall else rbits f.regs, if f.allDevs then rall else rbits f.devs, partBits f.parts⟩

theorem mem_of_partBit {l : List Part} {p : Part} {k : Nat} (hk : ∀ q, (partBit q).testBit k = true → q = p)
    (h : (partBits l).testBit k = true) : p ∈ l := by
  induction l with
  | nil => simp [partBits] at h
  | cons a t ih =>
    have h1 : ((partBit a).testBit k || (partBits t).testBit k) = true := by
      rw [← Nat.testBit_or]
      exact h
    rcases Bool.or_eq_true _ _ ▸ h1 with h2 | h2
    · exact List.mem_cons.mpr (.inl (hk a h2).symm)
    · exact List.mem_cons_of_mem a (ih h2)

theorem no_reset_bit {l : List Part} : (partBits l).testBit 11 = false := by
  induction l with
  | nil => rfl
  | cons a t ih =>
    refine (Nat.testBit_or ..).trans ?_
    rw [ih]
    cases a <;> rfl

theorem within_refl {f : Footprint} {s : State} : Within f s s where
  regs := fun _ _ _ _ => rfl
  devs := fun _ _ _ _ => rfl
  parts := fun p _ => by cases p <;> first | exact ⟨rfl, rfl⟩ | rfl
  pending := rfl

/-- Staying within a footprint is kept by every update the footprint allows. -/
theorem within_kept (f : Footprint) (s : State) : Kept (maskOf f) (Within f s) := by
  constructor
  case plain =>
    intro a b h1 h2 h3 h4 h5 h6 h7 h8 h9 h10 h11 h12 h13 h14 h15 h16 h17 h
    refine ⟨fun r i ha hr => ?_, fun r i ha hr => ?_, fun p hp => ?_, h16.trans h.pending⟩
    · rw [← h.regs r i ha hr, State.get, State.get, h1]
    · rw [← h.devs r i ha hr, State.dv, State.dv, h2]
    · have h := h.parts p hp
      cases p <;> simp only [Part.Same] at h ⊢ <;> simp_all only
      all_goals trivial
  case put =>
    intro a r i v h b
    refine ⟨fun r' i' ha hr => ?_, h.devs, fun p hp => ?_, h.pending⟩
    · rw [← h.regs r' i' ha hr]
      simp only [maskOf, ha] at b
      exact get_set_reg (.inl fun e => hr (e ▸ mem_of_testBit b))
    · have h := h.parts p hp
      cases p <;> exact h
  case putDev =>
    intro a r i v h b
    refine ⟨h.regs, fun r' i' ha hr => ?_, fun p hp => ?_, h.pending⟩
    · rw [← h.devs r' i' ha hr]
      simp only [maskOf, ha] at b
      exact get_set_reg (.inl fun e => hr (e ▸ mem_of_testBit b))
    · have h := h.parts p hp
      cases p <;> exact h
  case readShadow =>
    intro a q k v h b
    have hm : Part.readShadow ∈ f.parts := mem_of_partBit (by intro q; cases q <;> simp [partBit, Nat.testBit]) b
    unfold setReadShadow
    split <;> exact ⟨h.regs, h.devs, fun p hp => by cases p <;> first | exact absurd hm hp | exact h.parts _ hp, h.pending⟩
  case writeShadow =>
    intro a q r i v h b
    have hm : Part.writeShadow ∈ f.parts := mem_of_partBit (by intro q; cases q <;> simp [partBit, Nat.testBit]) b
    unfold setWriteShadow
    split <;> exact ⟨h.regs, h.devs, fun p hp => by cases p <;> first | exact absurd hm hp | exact h.parts _ hp, h.pending⟩
  case reset =>
    intro a h b
    have : (partBits f.parts).testBit 11 = true := b
    rw [no_reset_bit] at this
    exact absurd this (by decide)
  case clock =>
    intro a x h _ b
    refine ⟨h.regs, h.devs, fun p hp => ?_, h.pending⟩
    cases p
    all_goals first
      | exact h.parts _ hp
      | exact absurd (mem_of_partBit (by intro q; cases q <;> simp [partBit, Nat.testBit]) b) hp
  all_goals
    intro a
    intros
    rename_i h b
    refine ⟨h.regs, h.devs, fun p hp => ?_, h.pending⟩
    cases p
    all_goals first
      | exact h.parts _ hp
      | exact absurd (mem_of_partBit (by intro q; cases q <;> simp [partBit, Nat.testBit]) b) hp

/-- A command whose lemma has a mask inside the footprint's stays within the footprint. -/
theorem within_of_keeps {f : Footprint} {s t : State} {o : Host.Outcome State Fault Refusal}
    (h : KeepsOut (Within f s) o) (e : o = .next t) : Within f s t := h t e

end Sys2Proof.Laws
end

