-- ==== Sys2Proof/Laws/Events.lean ====
section
/-! SUPPORT. Posting an event: what it leaves alone, and that it depends on nothing but what `SameEvents` names. -/

namespace Sys2Proof.Laws

open Machine

theorem width_pos (r : Reg) : 0 < r.width := by
  cases r <;> decide

@[simp] theorem trunc_width_one (r : Reg) : trunc r.width 1 = 1 :=
  Nat.mod_eq_of_lt (Nat.one_lt_two_pow (Nat.pos_iff_ne_zero.mp (width_pos r)))

@[simp] theorem trunc_zero (w : Nat) : trunc w 0 = 0 := Nat.zero_mod _

variable {s t : State}

@[simp] theorem get_setWords {a ws r i} : (s.setWords a ws).get r i = s.get r i := by
  induction ws generalizing s a with
  | nil => rfl
  | cons w l ih => exact ih.trans rfl

@[simp] theorem dv_setWords {a ws r i} : (s.setWords a ws).dv r i = s.dv r i := by
  induction ws generalizing s a with
  | nil => rfl
  | cons w l ih => exact ih.trans rfl

@[simp] theorem ts_setWords {a ws} : (s.setWords a ws).ts = s.ts := by
  induction ws generalizing s a with
  | nil => rfl
  | cons w l ih => exact ih.trans rfl

theorem mem_setWords_congr {a ws} (h : t.mem = s.mem) : (t.setWords a ws).mem = (s.setWords a ws).mem := by
  induction ws generalizing s t a with
  | nil => exact h
  | cons w l ih => exact ih (by simp [State.setWord, h])

end Sys2Proof.Laws

namespace Sys2Proof

open Machine Laws

variable {s t : State}

theorem SameEvents.refl (s : State) : SameEvents s s := ⟨fun _ _ _ => rfl, fun _ => ⟨rfl, rfl⟩, rfl, rfl⟩

theorem SameEvents.symm (h : SameEvents s t) : SameEvents t s :=
  ⟨fun r i m => (h.regs r i m).symm, fun i => ⟨(h.devs i).1.symm, (h.devs i).2.symm⟩, h.mem.symm, h.ts.symm⟩

theorem SameEvents.trans {u : State} (h : SameEvents s t) (g : SameEvents t u) : SameEvents s u :=
  ⟨fun r i m => (g.regs r i m).trans (h.regs r i m),
    fun i => ⟨(g.devs i).1.trans (h.devs i).1, (g.devs i).2.trans (h.devs i).2⟩, g.mem.trans h.mem, g.ts.trans h.ts⟩

/-- A field that events do not know. -/
theorem SameEvents.put (h : SameEvents s t) {r i v} (hr : r ∉ eventFields) : SameEvents s (t.put r i v) :=
  ⟨fun r' i' m => (get_set_reg (.inl (fun e : r = r' => hr (e ▸ m)))).trans (h.regs r' i' m), h.devs, h.mem, h.ts⟩

/-- The same write on both sides. -/
theorem SameEvents.put_both (h : SameEvents s t) (r i v) : SameEvents (s.put r i v) (t.put r i v) := by
  refine ⟨fun r' i' m => ?_, h.devs, h.mem, h.ts⟩
  rw [get_put, get_put]
  split
  · rfl
  · exact h.regs r' i' m

theorem SameEvents.putDev (h : SameEvents s t) {r i v} (h1 : r ≠ .QSIZE_LOG2) (h2 : r ≠ .QBASE) :
    SameEvents s (t.putDev r i v) :=
  ⟨h.regs, fun j => ⟨(get_set_reg (.inl h1)).trans (h.devs j).1, (get_set_reg (.inl h2)).trans (h.devs j).2⟩, h.mem, h.ts⟩

theorem SameEvents.other (h : SameEvents s t) {t' : State} (h1 : t'.regs = t.regs := by rfl) (h2 : t'.dev = t.dev := by rfl)
    (h3 : t'.mem = t.mem := by rfl) (h4 : t'.ts = t.ts := by rfl) : SameEvents s t' :=
  ⟨fun r i m => (by rw [← h.regs r i m, State.get, State.get, h1]),
    fun i => ⟨by rw [← (h.devs i).1, State.dv, State.dv, h2], by rw [← (h.devs i).2, State.dv, State.dv, h2]⟩,
    h3.trans h.mem, h4.trans h.ts⟩

variable {q : Nat}

theorem SameEvents.get (h : SameEvents s t) {r i} (m : r ∈ eventFields := by decide) : t.get r i = s.get r i := h.regs r i m

theorem SameEvents.qSize (h : SameEvents s t) : t.qSize q = s.qSize q := by
  rw [State.qSize, State.qSize, (h.devs q).1]

theorem SameEvents.qFill (h : SameEvents s t) : t.qFill q = s.qFill q := by
  rw [State.qFill, State.qFill, h.qSize, h.get, h.get]

theorem SameEvents.qAddr (h : SameEvents s t) {p} : t.qAddr q p = s.qAddr q p := by
  rw [State.qAddr, State.qAddr, State.qBase, State.qBase, h.qSize, (h.devs q).2]

theorem SameEvents.eventWords (h : SameEvents s t) {a b c d e} : t.eventWords a b c d e = s.eventWords a b c d e := by
  unfold State.eventWords State.eventEpoch
  simp only [fun i => h.get (r := .SLOT_EPOCH) (i := i), fun i => h.get (r := .DOM_EPOCH) (i := i),
    fun i => h.get (r := .SEQ_EPOCH) (i := i), h.get (r := .EVENT_SEQ)]

theorem SameEvents.setWords (h : SameEvents s t) {a ws} : SameEvents (s.setWords a ws) (t.setWords a ws) := by
  refine ⟨fun r i m => ?_, fun i => ?_, mem_setWords_congr h.mem, ?_⟩
  · rw [get_setWords, get_setWords]
    exact h.regs r i m
  · rw [dv_setWords, dv_setWords, dv_setWords, dv_setWords]
    exact h.devs i
  · rw [ts_setWords, ts_setWords]
    exact h.ts

theorem SameEvents.qPutRaw (h : SameEvents s t) {ws} : SameEvents (s.qPutRaw q ws) (t.qPutRaw q ws) := by
  unfold State.qPutRaw State.setQLevel
  have h1 : SameEvents ((s.setWords (s.qAddr q (s.get .QWR q)) ws).put .QWR q (s.qNext q (s.get .QWR q) 1))
      ((t.setWords (t.qAddr q (t.get .QWR q)) ws).put .QWR q (t.qNext q (t.get .QWR q) 1)) := by
    rw [h.qAddr, h.get (r := .QWR), State.qNext, State.qNext, h.qSize]
    exact h.setWords.put_both _ _ _
  rw [h1.qFill]
  exact h1.put_both _ _ _

/-- An event depends on nothing but what `SameEvents` names. -/
theorem SameEvents.postAt (h : SameEvents s t) {a b c d e} : SameEvents (s.postAt a b c d e) (t.postAt a b c d e) := by
  unfold State.postAt
  simp only [State.count]
  rw [h.eventWords, h.get (r := .EVENT_SEQ)]
  have h1 := h.put_both .EVENT_SEQ 0 (s.get .EVENT_SEQ 0 + 1)
  rw [h1.qFill, h1.qSize]
  split
  · rw [h1.get (r := .QDROP)]
    exact ((h1.put_both _ _ _).put_both _ _ _).put_both _ _ _
  · have h2 := h1.qPutRaw (q := 11) (ws := s.eventWords a b c d e)
    rw [h2.get (r := .QWMARK), h2.qFill]
    split
    · exact (h2.put_both _ _ _).put_both _ _ _
    · exact h2

theorem SameEvents.post (h : SameEvents s t) {a b c d} : SameEvents (s.post a b c d) (t.post a b c d) := by
  unfold State.post
  rw [h.ts]
  exact h.postAt

end Sys2Proof

namespace Sys2Proof.Laws

open Machine

variable {s t : State}

theorem testBit_xor_self {m r : Nat} {k : Nat} (h : (Nat.xor m r).testBit k = true) (hm : r.testBit k = true) :
    m.testBit k = false := by
  have h1 : (m.testBit k ^^ r.testBit k) = true := (Nat.testBit_xor ..).symm.trans h
  rw [hm] at h1
  simpa using h1

/-- A field that a definition does not write keeps its value: `keep_f (reg_kept s r).le (fun _ => rfl) i`. -/
theorem reg_kept (s : State) (r : Reg) : Kept ⟨Nat.xor rall (rbit r), rall, 0x17ff⟩ fun t => ∀ i, t.get r i = s.get r i := by
  constructor
  case plain =>
    intro a b h1 _ _ _ _ _ _ _ _ _ _ _ _ _ _ _ _ h i
    rw [← h i, State.get, State.get, h1]
  case put =>
    intro a r' i' v h b i
    rw [← h i]
    refine get_set_reg (.inl fun e => ?_)
    subst e
    have := testBit_xor_self b testBit_rbit
    rw [testBit_rall] at this
    cases this
  case readShadow => intro a q k v h _ i; rw [← h i]; unfold setReadShadow; split <;> rfl
  case writeShadow => intro a q r i v h _ j; rw [← h j]; unfold setWriteShadow; split <;> rfl
  case clock => intro a x h _ _ i; exact h i
  case reset => intro a h b; exact absurd (show Nat.testBit 0x17ff 11 = true from b) (by decide)
  all_goals
    intros
    rename_i h _ i
    exact h i

theorem dev_kept (s : State) (r : Reg) : Kept ⟨rall, Nat.xor rall (rbit r), 0x17ff⟩ fun t => ∀ i, t.dv r i = s.dv r i := by
  constructor
  case plain =>
    intro a b _ h1 _ _ _ _ _ _ _ _ _ _ _ _ _ _ _ h i
    rw [← h i, State.dv, State.dv, h1]
  case putDev =>
    intro a r' i' v h b i
    rw [← h i]
    refine get_set_reg (.inl fun e => ?_)
    subst e
    have := testBit_xor_self b testBit_rbit
    rw [testBit_rall] at this
    cases this
  case readShadow => intro a q k v h _ i; rw [← h i]; unfold setReadShadow; split <;> rfl
  case writeShadow => intro a q r i v h _ j; rw [← h j]; unfold setWriteShadow; split <;> rfl
  case clock => intro a x h _ _ i; exact h i
  case reset => intro a h b; exact absurd (show Nat.testBit 0x17ff 11 = true from b) (by decide)
  all_goals
    intros
    rename_i h _ i
    exact h i

/-- A definition that writes none of the fields of events, neither memory nor the time-stamp, posts nothing. -/
theorem sameEvents_kept (s : State) :
    Kept ⟨Nat.xor rall (rbits eventFields), Nat.xor rall (rbits [.QSIZE_LOG2, .QBASE]), 0x7f7⟩ (SameEvents s) := by
  constructor
  case plain =>
    intro a b h1 h2 _ _ _ _ _ h3 _ _ _ _ _ _ _ _ h4 h
    exact h.other h1 h2 h3 h4
  case put =>
    intro a r i v h b
    refine h.put fun e => ?_
    have := testBit_xor_self b (testBit_rbits e)
    rw [testBit_rall] at this
    cases this
  case putDev =>
    intro a r i v h b
    have hm : r ∉ [Reg.QSIZE_LOG2, .QBASE] := fun e => by
      have := testBit_xor_self b (testBit_rbits e)
      rw [testBit_rall] at this
      cases this
    exact h.putDev (fun e => hm (by simp [e])) (fun e => hm (by simp [e]))
  case readShadow => intro a q k v h _; unfold setReadShadow; split <;> exact h.other
  case writeShadow => intro a q r i v h _; unfold setWriteShadow; split <;> exact h.other
  case reset => intro a h b; exact absurd b (by decide)
  case sram => intro a _ _ _ b; exact absurd b (by decide)
  case blank => intro a _ b; exact absurd b (by decide)
  case clock => intro a _ _ _ b; exact absurd b (by decide)
  all_goals
    intros
    rename_i h _
    exact h.other

/-- The time-stamp, and a part of the state, that a definition does not write. -/
theorem ts_kept (s : State) : Kept ⟨rall, rall, 0x7ff⟩ fun t => t.ts = s.ts := by
  constructor
  case plain => intro a b _ _ _ _ _ _ _ _ _ _ _ _ _ _ _ _ h e; exact h.trans e
  case readShadow => intro a q k v h _; unfold setReadShadow; split <;> exact h
  case writeShadow => intro a q r i v h _; unfold setWriteShadow; split <;> exact h
  case reset => intro a h b; exact absurd b (by decide)
  case clock => intro a _ _ _ b; exact absurd b (by decide)
  all_goals
    intros
    rename_i h _
    exact h

/-- Fields that an event writes. -/
def eventOuts : List Reg := [.QWR, .QLEVEL, .QDROP, .QOVF, .QWM_HIT, .Q11_WM, .Q11_FULL, .EVENT_SEQ]

@[simp] theorem get_postAt {a b c d e} {r : Reg} {i} (h : r ∉ eventOuts) : (s.postAt a b c d e).get r i = s.get r i :=
  (keep_State_postAt (P := Within { regs := eventOuts, devs := [], parts := [.memory] } s) (within_kept _ s).le within_refl).regs r i rfl h

@[simp] theorem get_post {a b c d} {r : Reg} {i} (h : r ∉ eventOuts) : (s.post a b c d).get r i = s.get r i :=
  get_postAt h

end Sys2Proof.Laws
end

