-- ==== Sys2Proof/Laws/Bits.lean ====
section
/-! SUPPORT. Single bits of words and of fields after a bit has been set, a word merged or a value counted. -/

namespace Sys2Proof.Laws

open Machine

theorem bit_setBit (v k j : Nat) (b : Bool) : bit (setBit v k b) j = if j = k then b else bit v j := by
  have e : setBit v k b = 2 ^ k * (2 * (v / 2 ^ (k + 1)) + b2n b) + v % 2 ^ k := by
    unfold setBit setBits
    have : b2n b % 2 ^ 1 = b2n b := by cases b <;> rfl
    rw [this, Nat.pow_succ]
    ring
  have hlt : v % 2 ^ k < 2 ^ k := Nat.mod_lt _ (Nat.two_pow_pos k)
  have h : bit (setBit v k b) j =
      if j < k then bit v j else (2 * (v / 2 ^ (k + 1)) + b2n b).testBit (j - k) := by
    unfold bit
    rw [e, Nat.testBit_two_pow_mul_add _ hlt]
    split
    · rename_i hj
      rw [Nat.testBit_mod_two_pow]
      simp [hj]
    · rfl
  rw [h]
  rcases Nat.lt_trichotomy j k with hj | hj | hj
  · simp [hj, Nat.ne_of_lt hj]
  · subst hj
    cases b <;> simp [b2n, Nat.testBit_zero]
  · have h1 : ¬ j < k := by omega
    have h2 : j ≠ k := by omega
    simp only [h1, h2, if_false]
    obtain ⟨n, rfl⟩ : ∃ n, j = k + 1 + n := ⟨j - (k + 1), by omega⟩
    rw [show k + 1 + n - k = n + 1 by omega, Nat.testBit_succ]
    have : (2 * (v / 2 ^ (k + 1)) + b2n b) / 2 = v / 2 ^ (k + 1) := by cases b <;> simp [b2n] <;> omega
    rw [this, Nat.testBit_div_two_pow]
    unfold bit
    congr 1
    omega

theorem bit_mergeMask (o n m k : Nat) : bit (mergeMask o n m) k = if bit m k then bit n k else bit o k := by
  unfold bit mergeMask
  rw [Nat.testBit_xor, Nat.testBit_and, Nat.testBit_xor]
  cases o.testBit k <;> cases n.testBit k <;> cases m.testBit k <;> rfl

theorem bit_trunc (w v k : Nat) (h : k < w) : bit (trunc w v) k = bit v k := by
  unfold bit trunc
  rw [Nat.testBit_mod_two_pow]
  simp [h]

variable {s : State}

/-- A bit of a field after one of its bits has been set. -/
theorem getBit_setBit {r : Reg} {i k j : Nat} {b : Bool} (h : j < r.width) :
    (s.setBit r i k b).getBit r i j = if j = k then b else s.getBit r i j := by
  unfold State.getBit State.setBit
  rw [get_put_same, bit_trunc _ _ _ h, bit_setBit]

@[simp] theorem get_setBit_reg {r r' : Reg} {i k i' : Nat} {b : Bool} (h : r' ≠ r) : (s.setBit r i k b).get r' i' = s.get r' i' :=
  get_put_reg s h

@[simp] theorem get_setBit_inst {r : Reg} {i k i' : Nat} {b : Bool} (h : i' ≠ i) : (s.setBit r i k b).get r i' = s.get r i' :=
  get_put_inst s h

/-- A count saturates at the width of its field. -/
theorem get_countN {r : Reg} {i n : Nat} : (s.countN r i n).get r i = min (s.get r i + n) (2 ^ r.width - 1) := by
  unfold State.countN
  rw [get_put_same]
  refine trunc_of_lt ?_
  have := Nat.two_pow_pos r.width
  omega

theorem get_count {r : Reg} {i : Nat} : (s.count r i).get r i = min (s.get r i + 1) (2 ^ r.width - 1) := get_countN

@[simp] theorem get_count_reg {r r' : Reg} {i i' : Nat} (h : r' ≠ r) : (s.count r i).get r' i' = s.get r' i' := get_put_reg s h

@[simp] theorem get_count_inst {r : Reg} {i i' : Nat} (h : i' ≠ i) : (s.count r i).get r i' = s.get r i' := get_put_inst s h

/-- A value that a sound state holds fits its field. -/
theorem get_lt {r : Reg} {i : Nat} (h : Sound s) (h0 : r.reset i < 2 ^ r.width) : s.get r i < 2 ^ r.width := by
  unfold State.get RegFile.get
  cases hf : s.regs.find (r.key i) with
  | none => simpa using h0
  | some v =>
    simp only [Option.getD_some]
    have hm : ∀ f : RegFile, f.find (r.key i) = some v → (r.key i, v) ∈ f := by
      intro f
      induction f with
      | nil => simp [RegFile.find]
      | cons a t ih =>
        obtain ⟨k, w⟩ := a
        unfold RegFile.find
        split
        · rename_i hk
          intro e
          cases e
          rw [hk]
          exact List.mem_cons_self
        · exact fun e => List.mem_cons_of_mem _ (ih e)
    obtain ⟨r', i', hk, hv, -⟩ := h.regsFit _ (hm _ hf)
    obtain ⟨rfl, -⟩ := key_inj hk
    exact hv

end Sys2Proof.Laws
end

