-- ==== Sys2Proof/Laws/Sound.lean ====
section
/-! SUPPORT. Soundness of states and the queue of commands are kept by every primitive update. -/

namespace Sys2Proof.Laws

open Machine

theorem sound_kept : Kept ⟨rall, rall, 0x1fff⟩ Sound where
  plain := by
    intro s s' h1 h2 h3 h4 h5 h6 h7 h8 h9 h10 h11 h12 _ _ _ _ _ h
    obtain ⟨a1, a2, a3, a4, a5, a6, a7, b1, b2, b3, b4, b5, c1, c2, c3, c4, c5⟩ := h
    constructor <;> simp_all only
  put := fun _ _ _ _ h _ => { h with regs := sorted_set h.regs, regsFit := fits_set h.regsFit }
  putDev := fun _ _ _ _ h _ => { h with dev := sorted_set h.dev, devFit := fits_set h.devFit }
  copies := fun _ h _ => { h with rc := h.regs, rcFit := h.regsFit }
  readShadow := by
    intro s p k v h _
    unfold setReadShadow readShadow
    split
    · exact { h with spiRead := sorted_insert h.spiRead }
    · exact { h with winRead := sorted_insert h.winRead }
  writeShadow := by
    intro s p r i v h _
    unfold setWriteShadow writeShadow
    split
    · exact { h with spiWrite := sorted_set h.spiWrite, spiWriteFit := fits_set h.spiWriteFit }
    · exact { h with winWrite := sorted_set h.winWrite, winWriteFit := fits_set h.winWriteFit }
  noReads := fun _ h _ => { h with winRead := rfl }
  takeReads := fun _ _ h k _ => { k with winRead := h.winRead }
  wholes := fun _ h _ => { h with winWrite := h.regs, winWriteFit := h.regsFit }
  takeWrites := fun _ _ h k _ => { k with winWrite := h.winWrite, winWriteFit := h.winWriteFit }
  sram := fun _ _ _ h _ => { h with mem := wf_setWord h.mem }
  blank := fun _ h _ => { h with mem := rfl }
  motion := fun _ _ _ h _ => { h with motion := by rw [List.length_set]; exact h.motion }
  encHist := fun _ _ _ h _ => { h with encHist := by rw [List.length_set]; exact h.encHist }
  rx := fun _ _ _ h _ => { h with rx := by rw [List.length_set]; exact h.rx }
  rxNone := fun _ h _ => { h with rx := rfl }
  resp := fun _ _ _ h _ => { h with resp := by rw [List.length_set]; exact h.resp }
  setTx := fun _ _ h _ => { h with }
  setAudit := fun _ _ h _ => { h with }
  setSec := fun _ _ h _ => { h with }
  clock := fun _ _ h _ _ => { h with }
  reset := by
    intro s _ _
    constructor <;> first | rfl | exact fun e he => absurd he (List.not_mem_nil)

/-- What the queue holds is a kept property: no command touches the queue behind it. -/
theorem pending_kept (q : List Instr) : Kept ⟨rall, rall, 0x1fff⟩ fun s => s.pending = q where
  plain := fun _ _ _ _ _ _ _ _ _ _ _ _ _ _ _ _ _ h _ hp => h.trans hp
  put := fun _ _ _ _ h _ => h
  putDev := fun _ _ _ _ h _ => h
  copies := fun _ h _ => h
  readShadow := by
    intro s p k v h _
    unfold setReadShadow
    split <;> exact h
  writeShadow := by
    intro s p r i v h _
    unfold setWriteShadow
    split <;> exact h
  noReads := fun _ h _ => h
  takeReads := fun _ _ _ h _ => h
  wholes := fun _ h _ => h
  takeWrites := fun _ _ _ h _ => h
  sram := fun _ _ _ h _ => h
  blank := fun _ h _ => h
  motion := fun _ _ _ h _ => h
  encHist := fun _ _ _ h _ => h
  rx := fun _ _ _ h _ => h
  rxNone := fun _ h _ => h
  resp := fun _ _ _ h _ => h
  setTx := fun _ _ h _ => h
  setAudit := fun _ _ h _ => h
  setSec := fun _ _ h _ => h
  clock := fun _ _ h _ _ => h
  reset := fun _ h _ => h

/-- The time-stamp only rises, but for a reset. -/
theorem later_kept (s : State) : Kept ⟨rall, rall, 0x17ff⟩ fun t => s.ts ≤ t.ts where
  plain := fun _ _ _ _ _ _ _ _ _ _ _ _ _ _ _ _ _ _ h hp => h ▸ hp
  put := fun _ _ _ _ h _ => h
  putDev := fun _ _ _ _ h _ => h
  copies := fun _ h _ => h
  readShadow := by
    intro s p k v h _
    unfold setReadShadow
    split <;> exact h
  writeShadow := by
    intro s p r i v h _
    unfold setWriteShadow
    split <;> exact h
  noReads := fun _ h _ => h
  takeReads := fun _ _ _ h _ => h
  wholes := fun _ h _ => h
  takeWrites := fun _ _ _ h _ => h
  sram := fun _ _ _ h _ => h
  blank := fun _ h _ => h
  motion := fun _ _ _ h _ => h
  encHist := fun _ _ _ h _ => h
  rx := fun _ _ _ h _ => h
  rxNone := fun _ h _ => h
  resp := fun _ _ _ h _ => h
  setTx := fun _ _ h _ => h
  setAudit := fun _ _ h _ => h
  setSec := fun _ _ h _ => h
  clock := fun _ _ h l _ => h.trans l
  reset := fun _ _ b => absurd b (by decide)

end Sys2Proof.Laws
end

