-- ==== Sys2Proof/Laws/Get.lean ====
section
/-! SUPPORT. What the shared operations do to a field they do not write, to the developed copies, to the time-stamp and
to the event queue, one simp lemma each: `get_f`, `dv_f`, `ts_f` and `se_f` speak of the operation `f`. -/

set_option linter.unusedVariables false

set_option Elab.async false

namespace Sys2Proof.Laws

open Machine

theorem mask_le {m d p : Nat} {r : Reg} (h1 : Nat.land m rall = m) (h2 : Nat.land d rall = d) (h3 : Nat.land p 0x17ff = p)
    (h : m.testBit r.ctorIdx = false) : Mask.le ⟨m, d, p⟩ ⟨Nat.xor rall (rbit r), rall, 0x17ff⟩ = true := by
  have hb : rbit r = 2 ^ r.ctorIdx := by show 1 <<< r.ctorIdx = _; simp [Nat.shiftLeft_eq]
  have : Nat.land m (Nat.xor rall (rbit r)) = m := by
    apply Nat.eq_of_testBit_eq
    intro k
    show (m &&& (rall ^^^ rbit r)).testBit k = _
    have h1' : (m &&& rall).testBit k = m.testBit k := by rw [show m &&& rall = m from h1]
    simp only [Nat.testBit_and, Nat.testBit_xor, hb, Nat.testBit_two_pow] at *
    by_cases e : r.ctorIdx = k
    · subst e; simp [h]
    · simp [e]; exact fun h => by simpa [h] using h1'
  exact (by simp : ∀ a b : Nat, a = b → Nat.beq a b = true) _ _ this |> fun x => by
    unfold Mask.le; rw [x, show Nat.land d rall = d from h2, show Nat.land p 0x17ff = p from h3]; simp
theorem mask_led {m d p : Nat} {r : Reg} (h1 : Nat.land m rall = m) (h2 : Nat.land d rall = d) (h3 : Nat.land p 0x17ff = p)
    (h : d.testBit r.ctorIdx = false) : Mask.le ⟨m, d, p⟩ ⟨rall, Nat.xor rall (rbit r), 0x17ff⟩ = true := by
  have := mask_le h2 h1 h3 h
  unfold Mask.le at *
  rw [Bool.and_eq_true, Bool.and_eq_true] at *
  exact ⟨⟨this.1.2, this.1.1⟩, this.2⟩
theorem reg_of {x y : State} {r : Reg} {m d p : Nat} (i : Nat)
    (k : ∀ P : State → Prop, Kept ⟨m, d, p⟩ P → P x → P y) (h1 : Nat.land m rall = m) (h2 : Nat.land d rall = d) (h3 : Nat.land p 0x17ff = p)
    (h : m.testBit r.ctorIdx = false) : y.get r i = x.get r i :=
  k _ ((reg_kept x r).le (mask_le h1 h2 h3 h)) (fun _ => rfl) i
theorem dev_of {x y : State} {r : Reg} {m d p : Nat} (i : Nat)
    (k : ∀ P : State → Prop, Kept ⟨m, d, p⟩ P → P x → P y) (h1 : Nat.land m rall = m) (h2 : Nat.land d rall = d) (h3 : Nat.land p 0x17ff = p)
    (h : d.testBit r.ctorIdx = false) : y.dv r i = x.dv r i :=
  k _ ((dev_kept x r).le (mask_led h1 h2 h3 h)) (fun _ => rfl) i
theorem ts_of {x y : State} {m d p : Nat}
    (k : ∀ P : State → Prop, Kept ⟨m, d, p⟩ P → P x → P y) (h : Mask.le ⟨m, d, p⟩ ⟨rall, rall, 0x7ff⟩ = true) : y.ts = x.ts :=
  k _ ((ts_kept x).le h) rfl
theorem se_of {z x y : State} {m d p : Nat}
    (k : ∀ P : State → Prop, Kept ⟨m, d, p⟩ P → P x → P y)
    (h : Mask.le ⟨m, d, p⟩ ⟨Nat.xor rall (rbits eventFields), Nat.xor rall (rbits [.QSIZE_LOG2, .QBASE]), 0x7f7⟩ = true) :
    SameEvents z y ↔ SameEvents z x :=
  have e : SameEvents x y := k _ ((sameEvents_kept x).le h) (.refl _)
  ⟨fun h => h.trans e.symm, fun h => h.trans e⟩
theorem se_eq {x y : State} (e : SameEvents x y) {z} : SameEvents z y ↔ SameEvents z x := ⟨fun h => h.trans e.symm, fun h => h.trans e⟩
@[simp] theorem se_refl {x : State} : SameEvents x x ↔ True := ⟨fun _ => trivial, fun _ => .refl _⟩
@[simp] theorem se_put {x y : State} {r i v} (h : r ∉ eventFields) : SameEvents x (y.put r i v) ↔ SameEvents x y := se_eq (SameEvents.put (.refl _) h)
@[simp] theorem se_setBit {x y : State} {r i k v} (h : r ∉ eventFields) : SameEvents x (y.setBit r i k v) ↔ SameEvents x y := se_eq (SameEvents.put (.refl _) h)
@[simp] theorem se_puti {x y : State} {r i v} (h : r ∉ eventFields) : SameEvents x (y.puti r i v) ↔ SameEvents x y := se_eq (SameEvents.put (.refl _) h)
@[simp] theorem se_count {x y : State} {r i} (h : r ∉ eventFields) : SameEvents x (y.count r i) ↔ SameEvents x y := se_eq (SameEvents.put (.refl _) h)
@[simp] theorem se_countN {x y : State} {r i n} (h : r ∉ eventFields) : SameEvents x (y.countN r i n) ↔ SameEvents x y := se_eq (SameEvents.put (.refl _) h)
@[simp] theorem se_countWrap {x y : State} {r i} (h : r ∉ eventFields) : SameEvents x (y.countWrap r i) ↔ SameEvents x y := se_eq (SameEvents.put (.refl _) h)
@[simp] theorem se_clear {x y : State} {r i} (h : r ∉ eventFields) : SameEvents x (y.clear r i) ↔ SameEvents x y := se_eq (SameEvents.put (.refl _) h)
@[simp] theorem se_putDev {x y : State} {r i v} (h : r ≠ .QSIZE_LOG2) (h2 : r ≠ .QBASE) : SameEvents x (y.putDev r i v) ↔ SameEvents x y := se_eq (SameEvents.putDev (.refl _) h h2)
@[simp] theorem se_develop {x y : State} {r i} (h : r ≠ .QSIZE_LOG2) (h2 : r ≠ .QBASE) : SameEvents x (y.develop r i) ↔ SameEvents x y := se_eq (SameEvents.putDev (.refl _) h h2)
@[simp] theorem se_putBoth {x y : State} {r i v} (h0 : r ∉ eventFields) (h : r ≠ .QSIZE_LOG2) (h2 : r ≠ .QBASE) : SameEvents x (y.putBoth r i v) ↔ SameEvents x y := se_eq (SameEvents.putDev (SameEvents.put (.refl _) h0) h h2)
@[simp] theorem se_ite {x y z : State} {c : Prop} [Decidable c] : SameEvents x (if c then y else z) ↔ if c then SameEvents x y else SameEvents x z := by split <;> rfl
@[simp] theorem se_setMo {x y : State} {i m} : SameEvents x (y.setMo i m) ↔ SameEvents x y := se_eq (SameEvents.other (.refl _))
@[simp] theorem se_send {x y : State} {a b c} : SameEvents x (y.send a b c) ↔ SameEvents x y := se_eq (SameEvents.other (.refl _))
@[simp] theorem se_reply {x y : State} {a b} : SameEvents x (y.reply a b) ↔ SameEvents x y := se_eq (SameEvents.other (SameEvents.put (r := .ANS_ABORT) (i := 0) (v := a) (.refl _) (by decide)))
@[simp] theorem se_freed {x y : State} : SameEvents x (y.freed) ↔ SameEvents x y := se_eq (SameEvents.other (.refl _))
@[simp] theorem se_post {x y : State} {a b c d} (h : SameEvents x y) : SameEvents (x.post a b c d) (y.post a b c d) := h.post
@[simp] theorem se_postAt {x y : State} {a b c d e} (h : SameEvents x y) : SameEvents (x.postAt a b c d e) (y.postAt a b c d e) := h.postAt
@[simp] theorem postsNone_iff {x y : State} : PostsNone x y ↔ SameEvents x y := Iff.rfl
@[simp] theorem posts_iff {x y : State} {a b c d} : Posts x y a b c d ↔ SameEvents (x.post a b c d) y := Iff.rfl
@[simp] theorem get_ite' {c : Prop} [Decidable c] {x y : State} {r i} : (if c then x else y).get r i = if c then x.get r i else y.get r i := by split <;> rfl
@[simp] theorem ts_ite' {c : Prop} [Decidable c] {x y : State} : (if c then x else y).ts = if c then x.ts else y.ts := by split <;> rfl
@[simp] theorem dv_ite' {c : Prop} [Decidable c] {x y : State} {r i} : (if c then x else y).dv r i = if c then x.dv r i else y.dv r i := by split <;> rfl
@[simp] theorem get_putBoth_same {s : State} {r i v} : (s.putBoth r i v).get r i = trunc r.width v := get_put_same _
@[simp] theorem dv_putBoth_same {s : State} {r i v} : (s.putBoth r i v).dv r i = trunc r.width v := dv_putDev_same (s := s.put r i v)
@[simp] theorem get_putBoth_reg {s : State} {r r' i i' v} (h : r' ≠ r) : (s.putBoth r i v).get r' i' = s.get r' i' := get_put_reg s h
@[simp] theorem get_putBoth_inst {s : State} {r i i' v} (h : i' ≠ i) : (s.putBoth r i v).get r i' = s.get r i' := get_put_inst s h
@[simp] theorem dv_putBoth_reg {s : State} {r r' i i' v} (h : r' ≠ r) : (s.putBoth r i v).dv r' i' = s.dv r' i' := dv_putDev_reg (s := s.put r i v) h
@[simp] theorem get_develop {s : State} {r i r' i'} : (s.develop r i).get r' i' = s.get r' i' := rfl
@[simp] theorem dv_develop_same {s : State} {r i} : (s.develop r i).dv r i = trunc r.width (s.get r i) := dv_putDev_same _
@[simp] theorem get_puti_same {s : State} {r i z} : (s.puti r i z).get r i = trunc r.width (ofSigned r.width z) := get_put_same _
@[simp] theorem get_puti_reg {s : State} {r r' i i' z} (h : r' ≠ r) : (s.puti r i z).get r' i' = s.get r' i' := get_put_reg s h
@[simp] theorem get_puti_inst {s : State} {r i i' z} (h : i' ≠ i) : (s.puti r i z).get r i' = s.get r i' := get_put_inst s h
@[simp] theorem get_countWrap_same {s : State} {r i} : (s.countWrap r i).get r i = trunc r.width (s.get r i + 1) := get_put_same _
@[simp] theorem get_countWrap_reg {s : State} {r r' i i'} (h : r' ≠ r) : (s.countWrap r i).get r' i' = s.get r' i' := get_put_reg s h
@[simp] theorem get_countWrap_inst {s : State} {r i i'} (h : i' ≠ i) : (s.countWrap r i).get r i' = s.get r i' := get_put_inst s h
@[simp] theorem get_clear_same {s : State} {r i} : (s.clear r i).get r i = trunc r.width (r.reset i) := get_put_same _
@[simp] theorem get_clear_reg {s : State} {r r' i i'} (h : r' ≠ r) : (s.clear r i).get r' i' = s.get r' i' := get_put_reg s h
@[simp] theorem get_countN_reg {s : State} {r r' i i' n} (h : r' ≠ r) : (s.countN r i n).get r' i' = s.get r' i' := get_put_reg s h
@[simp] theorem ts_count {s : State} {r i} : (s.count r i).ts = s.ts := rfl
@[simp] theorem dv_count {s : State} {r i} {r' i'} : (s.count r i).dv r' i' = s.dv r' i' := rfl
@[simp] theorem ts_countN {s : State} {r i n} : (s.countN r i n).ts = s.ts := rfl
@[simp] theorem dv_countN {s : State} {r i n} {r' i'} : (s.countN r i n).dv r' i' = s.dv r' i' := rfl
@[simp] theorem ts_countWrap {s : State} {r i} : (s.countWrap r i).ts = s.ts := rfl
@[simp] theorem dv_countWrap {s : State} {r i} {r' i'} : (s.countWrap r i).dv r' i' = s.dv r' i' := rfl
@[simp] theorem ts_setBit {s : State} {r i k b} : (s.setBit r i k b).ts = s.ts := rfl
@[simp] theorem dv_setBit {s : State} {r i k b} {r' i'} : (s.setBit r i k b).dv r' i' = s.dv r' i' := rfl
@[simp] theorem ts_puti {s : State} {r i z} : (s.puti r i z).ts = s.ts := rfl
@[simp] theorem dv_puti {s : State} {r i z} {r' i'} : (s.puti r i z).dv r' i' = s.dv r' i' := rfl
@[simp] theorem ts_clear {s : State} {r i} : (s.clear r i).ts = s.ts := rfl
@[simp] theorem dv_clear {s : State} {r i} {r' i'} : (s.clear r i).dv r' i' = s.dv r' i' := rfl
@[simp] theorem ts_putBoth {s : State} {r i v} : (s.putBoth r i v).ts = s.ts := rfl
@[simp] theorem ts_develop {s : State} {r i} : (s.develop r i).ts = s.ts := rfl
@[simp] theorem flag_iff {s : State} {r i} : s.flag r i = true ↔ s.get r i ≠ 0 := by simp [State.flag]
@[simp] theorem flag_iff' {s : State} {r i} : s.flag r i = false ↔ s.get r i = 0 := by simp [State.flag]
@[simp] theorem get_onlyIf {s : State} {b f r i} : (s.onlyIf b f).get r i = if b then (f s).get r i else s.get r i := by unfold State.onlyIf; split <;> rfl
@[simp] theorem se_onlyIf {x s : State} {b f} : SameEvents x (s.onlyIf b f) ↔ if b then SameEvents x (f s) else SameEvents x s := by unfold State.onlyIf; split <;> rfl

@[simp] theorem get_State_atTick {s : State} {t}  {rq iq} (hq : Nat.testBit 0x0 (Reg.ctorIdx rq) = false) : ((s.atTick t)).get rq iq = State.get s rq iq :=
  reg_of iq (fun _ hk => keep_State_atTick hk) rfl rfl rfl hq
@[simp] theorem dv_State_atTick {s : State} {t}  {rq iq} (hq : Nat.testBit 0x0 (Reg.ctorIdx rq) = false) : ((s.atTick t)).dv rq iq = State.dv s rq iq :=
  dev_of iq (fun _ hk => keep_State_atTick hk) rfl rfl rfl hq
@[simp] theorem get_State_setWord {s : State} {a w}  {rq iq} (hq : Nat.testBit 0x0 (Reg.ctorIdx rq) = false) : ((s.setWord a w)).get rq iq = State.get s rq iq :=
  reg_of iq (fun _ hk => keep_State_setWord hk) rfl rfl rfl hq
@[simp] theorem dv_State_setWord {s : State} {a w}  {rq iq} (hq : Nat.testBit 0x0 (Reg.ctorIdx rq) = false) : ((s.setWord a w)).dv rq iq = State.dv s rq iq :=
  dev_of iq (fun _ hk => keep_State_setWord hk) rfl rfl rfl hq
@[simp] theorem ts_State_setWord {s : State} {a w}  : ((s.setWord a w)).ts = State.ts s := ts_of (fun _ hk => keep_State_setWord hk) rfl
@[simp] theorem get_State_setWords {s : State} {a ws}  {rq iq} (hq : Nat.testBit 0x0 (Reg.ctorIdx rq) = false) : ((s.setWords a ws)).get rq iq = State.get s rq iq :=
  reg_of iq (fun _ hk => keep_State_setWords hk) rfl rfl rfl hq
@[simp] theorem dv_State_setWords {s : State} {a ws}  {rq iq} (hq : Nat.testBit 0x0 (Reg.ctorIdx rq) = false) : ((s.setWords a ws)).dv rq iq = State.dv s rq iq :=
  dev_of iq (fun _ hk => keep_State_setWords hk) rfl rfl rfl hq
@[simp] theorem ts_State_setWords {s : State} {a ws}  : ((s.setWords a ws)).ts = State.ts s := ts_of (fun _ hk => keep_State_setWords hk) rfl
@[simp] theorem get_State_setQLevel {s} {q}   {rq iq} (hq : Nat.testBit 0x200000 (Reg.ctorIdx rq) = false) : ((State.setQLevel s q)).get rq iq = State.get s rq iq :=
  reg_of iq (fun _ hk => keep_State_setQLevel hk) rfl rfl rfl hq
@[simp] theorem dv_State_setQLevel {s} {q}   {rq iq} (hq : Nat.testBit 0x0 (Reg.ctorIdx rq) = false) : ((State.setQLevel s q)).dv rq iq = State.dv s rq iq :=
  dev_of iq (fun _ hk => keep_State_setQLevel hk) rfl rfl rfl hq
@[simp] theorem ts_State_setQLevel {s} {q}   : ((State.setQLevel s q)).ts = State.ts s := ts_of (fun _ hk => keep_State_setQLevel hk) rfl
@[simp] theorem get_State_qPutRaw {s} {q} {ws}   {rq iq} (hq : Nat.testBit 0x300000 (Reg.ctorIdx rq) = false) : ((State.qPutRaw s q ws)).get rq iq = State.get s rq iq :=
  reg_of iq (fun _ hk => keep_State_qPutRaw hk) rfl rfl rfl hq
@[simp] theorem dv_State_qPutRaw {s} {q} {ws}   {rq iq} (hq : Nat.testBit 0x0 (Reg.ctorIdx rq) = false) : ((State.qPutRaw s q ws)).dv rq iq = State.dv s rq iq :=
  dev_of iq (fun _ hk => keep_State_qPutRaw hk) rfl rfl rfl hq
@[simp] theorem ts_State_qPutRaw {s} {q} {ws}   : ((State.qPutRaw s q ws)).ts = State.ts s := ts_of (fun _ hk => keep_State_qPutRaw hk) rfl
@[simp] theorem get_State_postAt {s} {code} {src} {slot} {arg} {tstamp}   {rq iq} (hq : Nat.testBit 0x40000000000000000000000000000000000000000000000000000000000000000000000000000000000000000000000000000000000000000000000000300022b00000 (Reg.ctorIdx rq) = false) : ((State.postAt s code src slot arg tstamp)).get rq iq = State.get s rq iq :=
  reg_of iq (fun _ hk => keep_State_postAt hk) rfl rfl rfl hq
@[simp] theorem dv_State_postAt {s} {code} {src} {slot} {arg} {tstamp}   {rq iq} (hq : Nat.testBit 0x0 (Reg.ctorIdx rq) = false) : ((State.postAt s code src slot arg tstamp)).dv rq iq = State.dv s rq iq :=
  dev_of iq (fun _ hk => keep_State_postAt hk) rfl rfl rfl hq
@[simp] theorem ts_State_postAt {s} {code} {src} {slot} {arg} {tstamp}   : ((State.postAt s code src slot arg tstamp)).ts = State.ts s := ts_of (fun _ hk => keep_State_postAt hk) rfl
@[simp] theorem get_State_post {s} {code} {src} {slot} {arg}   {rq iq} (hq : Nat.testBit 0x40000000000000000000000000000000000000000000000000000000000000000000000000000000000000000000000000000000000000000000000000300022b00000 (Reg.ctorIdx rq) = false) : ((State.post s code src slot arg)).get rq iq = State.get s rq iq :=
  reg_of iq (fun _ hk => keep_State_post hk) rfl rfl rfl hq
@[simp] theorem dv_State_post {s} {code} {src} {slot} {arg}   {rq iq} (hq : Nat.testBit 0x0 (Reg.ctorIdx rq) = false) : ((State.post s code src slot arg)).dv rq iq = State.dv s rq iq :=
  dev_of iq (fun _ hk => keep_State_post hk) rfl rfl rfl hq
@[simp] theorem ts_State_post {s} {code} {src} {slot} {arg}   : ((State.post s code src slot arg)).ts = State.ts s := ts_of (fun _ hk => keep_State_post hk) rfl
@[simp] theorem get_State_crossWatermark {s} {q}   {rq iq} (hq : Nat.testBit 0x40000000000000000000000000000000000000000000000000000000000000000000000000000000000000000000000000000000000000000000000000300022b00000 (Reg.ctorIdx rq) = false) : ((State.crossWatermark s q)).get rq iq = State.get s rq iq :=
  reg_of iq (fun _ hk => keep_State_crossWatermark hk) rfl rfl rfl hq
@[simp] theorem dv_State_crossWatermark {s} {q}   {rq iq} (hq : Nat.testBit 0x0 (Reg.ctorIdx rq) = false) : ((State.crossWatermark s q)).dv rq iq = State.dv s rq iq :=
  dev_of iq (fun _ hk => keep_State_crossWatermark hk) rfl rfl rfl hq
@[simp] theorem ts_State_crossWatermark {s} {q}   : ((State.crossWatermark s q)).ts = State.ts s := ts_of (fun _ hk => keep_State_crossWatermark hk) rfl
@[simp] theorem get_State_judgeRise {s} {q} {before}   {rq iq} (hq : Nat.testBit 0x40000000000000000000000000000000000000000000000000000000000000000000000000000000000000000000000000000000000000000000000000300022b00000 (Reg.ctorIdx rq) = false) : ((State.judgeRise s q before)).get rq iq = State.get s rq iq :=
  reg_of iq (fun _ hk => keep_State_judgeRise hk) rfl rfl rfl hq
@[simp] theorem dv_State_judgeRise {s} {q} {before}   {rq iq} (hq : Nat.testBit 0x0 (Reg.ctorIdx rq) = false) : ((State.judgeRise s q before)).dv rq iq = State.dv s rq iq :=
  dev_of iq (fun _ hk => keep_State_judgeRise hk) rfl rfl rfl hq
@[simp] theorem ts_State_judgeRise {s} {q} {before}   : ((State.judgeRise s q before)).ts = State.ts s := ts_of (fun _ hk => keep_State_judgeRise hk) rfl
@[simp] theorem get_State_judgeFall {s} {q} {before}   {rq iq} (hq : Nat.testBit 0x40000000000000000000000000000000000000000000000000000000000000000000000000000000000000000000000000000000000000000000000000300022b00000 (Reg.ctorIdx rq) = false) : ((State.judgeFall s q before)).get rq iq = State.get s rq iq :=
  reg_of iq (fun _ hk => keep_State_judgeFall hk) rfl rfl rfl hq
@[simp] theorem dv_State_judgeFall {s} {q} {before}   {rq iq} (hq : Nat.testBit 0x0 (Reg.ctorIdx rq) = false) : ((State.judgeFall s q before)).dv rq iq = State.dv s rq iq :=
  dev_of iq (fun _ hk => keep_State_judgeFall hk) rfl rfl rfl hq
@[simp] theorem ts_State_judgeFall {s} {q} {before}   : ((State.judgeFall s q before)).ts = State.ts s := ts_of (fun _ hk => keep_State_judgeFall hk) rfl
@[simp] theorem get_State_qDrop {s} {q}   {rq iq} (hq : Nat.testBit 0x40000000000000000000000000000000000000000000000000000000000000000000000000000000000000000000000000000000000000000000000000300022b00000 (Reg.ctorIdx rq) = false) : ((State.qDrop s q)).get rq iq = State.get s rq iq :=
  reg_of iq (fun _ hk => keep_State_qDrop hk) rfl rfl rfl hq
@[simp] theorem dv_State_qDrop {s} {q}   {rq iq} (hq : Nat.testBit 0x0 (Reg.ctorIdx rq) = false) : ((State.qDrop s q)).dv rq iq = State.dv s rq iq :=
  dev_of iq (fun _ hk => keep_State_qDrop hk) rfl rfl rfl hq
@[simp] theorem ts_State_qDrop {s} {q}   : ((State.qDrop s q)).ts = State.ts s := ts_of (fun _ hk => keep_State_qDrop hk) rfl
@[simp] theorem get_State_enqueue {s} {q} {ws}   {rq iq} (hq : Nat.testBit 0x40000000000000000000000000000000000000000000000000000000000000000000000000000000000000000000000000000000000000000000000000300022b00000 (Reg.ctorIdx rq) = false) : ((State.enqueue s q ws)).get rq iq = State.get s rq iq :=
  reg_of iq (fun _ hk => keep_State_enqueue hk) rfl rfl rfl hq
@[simp] theorem dv_State_enqueue {s} {q} {ws}   {rq iq} (hq : Nat.testBit 0x0 (Reg.ctorIdx rq) = false) : ((State.enqueue s q ws)).dv rq iq = State.dv s rq iq :=
  dev_of iq (fun _ hk => keep_State_enqueue hk) rfl rfl rfl hq
@[simp] theorem ts_State_enqueue {s} {q} {ws}   : ((State.enqueue s q ws)).ts = State.ts s := ts_of (fun _ hk => keep_State_enqueue hk) rfl
@[simp] theorem get_State_setRd {s} {q} {p}   {rq iq} (hq : Nat.testBit 0x40000000000000000000000000000000000000000000000000000000000000000000000000000000000000000000000000000000000000000000000000300022b80000 (Reg.ctorIdx rq) = false) : ((State.setRd s q p)).get rq iq = State.get s rq iq :=
  reg_of iq (fun _ hk => keep_State_setRd hk) rfl rfl rfl hq
@[simp] theorem dv_State_setRd {s} {q} {p}   {rq iq} (hq : Nat.testBit 0x0 (Reg.ctorIdx rq) = false) : ((State.setRd s q p)).dv rq iq = State.dv s rq iq :=
  dev_of iq (fun _ hk => keep_State_setRd hk) rfl rfl rfl hq
@[simp] theorem ts_State_setRd {s} {q} {p}   : ((State.setRd s q p)).ts = State.ts s := ts_of (fun _ hk => keep_State_setRd hk) rfl
@[simp] theorem get_State_advanceRd {s} {q}   {rq iq} (hq : Nat.testBit 0x40000000000000000000000000000000000000000000000000000000000000000000000000000000000000000000000000000000000000000000000000300022b80000 (Reg.ctorIdx rq) = false) : ((State.advanceRd s q)).get rq iq = State.get s rq iq :=
  reg_of iq (fun _ hk => keep_State_advanceRd hk) rfl rfl rfl hq
@[simp] theorem dv_State_advanceRd {s} {q}   {rq iq} (hq : Nat.testBit 0x0 (Reg.ctorIdx rq) = false) : ((State.advanceRd s q)).dv rq iq = State.dv s rq iq :=
  dev_of iq (fun _ hk => keep_State_advanceRd hk) rfl rfl rfl hq
@[simp] theorem ts_State_advanceRd {s} {q}   : ((State.advanceRd s q)).ts = State.ts s := ts_of (fun _ hk => keep_State_advanceRd hk) rfl
@[simp] theorem get_State_passBad {n} {s : State} {q}  {rq iq} (hq : Nat.testBit 0x40000000000000000000000000000000000000000000000000000000000000000000000000000000000000000000000000000000000000000000000000300022b80000 (Reg.ctorIdx rq) = false) : ((State.passBad n s q)).get rq iq = State.get s rq iq :=
  reg_of iq (fun _ hk => keep_State_passBad hk) rfl rfl rfl hq
@[simp] theorem dv_State_passBad {n} {s : State} {q}  {rq iq} (hq : Nat.testBit 0x0 (Reg.ctorIdx rq) = false) : ((State.passBad n s q)).dv rq iq = State.dv s rq iq :=
  dev_of iq (fun _ hk => keep_State_passBad hk) rfl rfl rfl hq
@[simp] theorem ts_State_passBad {n} {s : State} {q}  : ((State.passBad n s q)).ts = State.ts s := ts_of (fun _ hk => keep_State_passBad hk) rfl
@[simp] theorem get_State_dequeue {s} {q}   {rq iq} (hq : Nat.testBit 0x40000000000000000000000000000000000000000000000000000000000000000000000000000000000000000000000000000000000000000000000000300022b80000 (Reg.ctorIdx rq) = false) : ((State.dequeue s q)).get rq iq = State.get s rq iq :=
  reg_of iq (fun _ hk => keep_State_dequeue hk) rfl rfl rfl hq
@[simp] theorem dv_State_dequeue {s} {q}   {rq iq} (hq : Nat.testBit 0x0 (Reg.ctorIdx rq) = false) : ((State.dequeue s q)).dv rq iq = State.dv s rq iq :=
  dev_of iq (fun _ hk => keep_State_dequeue hk) rfl rfl rfl hq
@[simp] theorem ts_State_dequeue {s} {q}   : ((State.dequeue s q)).ts = State.ts s := ts_of (fun _ hk => keep_State_dequeue hk) rfl
@[simp] theorem get_State_send {s : State} {p i d}   {rq iq} (hq : Nat.testBit 0 (Reg.ctorIdx rq) = false) : ((s.send p i d)).get rq iq = State.get s rq iq :=
  reg_of iq (fun _ hk => keep_State_send hk) rfl rfl rfl hq
@[simp] theorem dv_State_send {s : State} {p i d}   {rq iq} (hq : Nat.testBit 0 (Reg.ctorIdx rq) = false) : ((s.send p i d)).dv rq iq = State.dv s rq iq :=
  dev_of iq (fun _ hk => keep_State_send hk) rfl rfl rfl hq
@[simp] theorem se_State_send {xq : State} {s : State} {p i d}   : SameEvents xq ((s.send p i d)) ↔ SameEvents xq s := se_of (fun _ hk => keep_State_send hk) rfl
@[simp] theorem ts_State_send {s : State} {p i d}   : ((s.send p i d)).ts = State.ts s := ts_of (fun _ hk => keep_State_send hk) rfl
@[simp] theorem get_State_reply {s : State} {a d}  {rq iq} (hq : Nat.testBit 0x80000000000000000000000000000000000000000000000000000000000000000000000000000000000000000000000000000000000000000000000000000000000000 (Reg.ctorIdx rq) = false) : ((s.reply a d)).get rq iq = State.get s rq iq :=
  reg_of iq (fun _ hk => keep_State_reply hk) rfl rfl rfl hq
@[simp] theorem dv_State_reply {s : State} {a d}  {rq iq} (hq : Nat.testBit 0x0 (Reg.ctorIdx rq) = false) : ((s.reply a d)).dv rq iq = State.dv s rq iq :=
  dev_of iq (fun _ hk => keep_State_reply hk) rfl rfl rfl hq
@[simp] theorem se_State_reply {xq : State} {s : State} {a d}  : SameEvents xq ((s.reply a d)) ↔ SameEvents xq s := se_of (fun _ hk => keep_State_reply hk) rfl
@[simp] theorem ts_State_reply {s : State} {a d}  : ((s.reply a d)).ts = State.ts s := ts_of (fun _ hk => keep_State_reply hk) rfl
@[simp] theorem get_State_setMo {s : State} {i m}  {rq iq} (hq : Nat.testBit 0x0 (Reg.ctorIdx rq) = false) : ((s.setMo i m)).get rq iq = State.get s rq iq :=
  reg_of iq (fun _ hk => keep_State_setMo hk) rfl rfl rfl hq
@[simp] theorem dv_State_setMo {s : State} {i m}  {rq iq} (hq : Nat.testBit 0x0 (Reg.ctorIdx rq) = false) : ((s.setMo i m)).dv rq iq = State.dv s rq iq :=
  dev_of iq (fun _ hk => keep_State_setMo hk) rfl rfl rfl hq
@[simp] theorem se_State_setMo {xq : State} {s : State} {i m}  : SameEvents xq ((s.setMo i m)) ↔ SameEvents xq s := se_of (fun _ hk => keep_State_setMo hk) rfl
@[simp] theorem ts_State_setMo {s : State} {i m}  : ((s.setMo i m)).ts = State.ts s := ts_of (fun _ hk => keep_State_setMo hk) rfl
@[simp] theorem get_syncRd {s} {i}   {rq iq} (hq : Nat.testBit 0x40000000000000000000000000000000000000000000000000000000000000000000000000000000000000000000000000000000000000000000000000300022b80000 (Reg.ctorIdx rq) = false) : ((syncRd s i)).get rq iq = State.get s rq iq :=
  reg_of iq (fun _ hk => keep_syncRd hk) rfl rfl rfl hq
@[simp] theorem dv_syncRd {s} {i}   {rq iq} (hq : Nat.testBit 0x0 (Reg.ctorIdx rq) = false) : ((syncRd s i)).dv rq iq = State.dv s rq iq :=
  dev_of iq (fun _ hk => keep_syncRd hk) rfl rfl rfl hq
@[simp] theorem ts_syncRd {s} {i}   : ((syncRd s i)).ts = State.ts s := ts_of (fun _ hk => keep_syncRd hk) rfl
@[simp] theorem get_fetchOne {s} {i}   {rq iq} (hq : Nat.testBit 0xf000000400000000000000000008000000000000000000000000000000000000000000000000000000000000000000000000000000000000000000001b0000000300022b00000 (Reg.ctorIdx rq) = false) : ((fetchOne s i)).get rq iq = State.get s rq iq :=
  reg_of iq (fun _ hk => keep_fetchOne hk) rfl rfl rfl hq
@[simp] theorem dv_fetchOne {s} {i}   {rq iq} (hq : Nat.testBit 0x0 (Reg.ctorIdx rq) = false) : ((fetchOne s i)).dv rq iq = State.dv s rq iq :=
  dev_of iq (fun _ hk => keep_fetchOne hk) rfl rfl rfl hq
@[simp] theorem ts_fetchOne {s} {i}   : ((fetchOne s i)).ts = State.ts s := ts_of (fun _ hk => keep_fetchOne hk) rfl
@[simp] theorem get_fetchMany {s i n}  {rq iq} (hq : Nat.testBit 0xf000000400000000000000000008000000000000000000000000000000000000000000000000000000000000000000000000000000000000000000001b0000000300022b00000 (Reg.ctorIdx rq) = false) : ((fetchMany s i n)).get rq iq = State.get s rq iq :=
  reg_of iq (fun _ hk => keep_fetchMany hk) rfl rfl rfl hq
@[simp] theorem dv_fetchMany {s i n}  {rq iq} (hq : Nat.testBit 0x0 (Reg.ctorIdx rq) = false) : ((fetchMany s i n)).dv rq iq = State.dv s rq iq :=
  dev_of iq (fun _ hk => keep_fetchMany hk) rfl rfl rfl hq
@[simp] theorem ts_fetchMany {s i n}  : ((fetchMany s i n)).ts = State.ts s := ts_of (fun _ hk => keep_fetchMany hk) rfl
@[simp] theorem get_fetch {s} {i}   {rq iq} (hq : Nat.testBit 0xf000000400000000000000000008000000000000000000000000000000000000000000000000000000000000000000000000000000000000000000001b0000000300022b80000 (Reg.ctorIdx rq) = false) : ((fetch s i)).get rq iq = State.get s rq iq :=
  reg_of iq (fun _ hk => keep_fetch hk) rfl rfl rfl hq
@[simp] theorem dv_fetch {s} {i}   {rq iq} (hq : Nat.testBit 0x0 (Reg.ctorIdx rq) = false) : ((fetch s i)).dv rq iq = State.dv s rq iq :=
  dev_of iq (fun _ hk => keep_fetch hk) rfl rfl rfl hq
@[simp] theorem ts_fetch {s} {i}   : ((fetch s i)).ts = State.ts s := ts_of (fun _ hk => keep_fetch hk) rfl
@[simp] theorem get_dropAccepted {s} {i}   {rq iq} (hq : Nat.testBit 0x40000000000000000000000000000000000000000000000000000000000000000000000000000000000000000000000000000000000000000100000000300022b80000 (Reg.ctorIdx rq) = false) : ((dropAccepted s i)).get rq iq = State.get s rq iq :=
  reg_of iq (fun _ hk => keep_dropAccepted hk) rfl rfl rfl hq
@[simp] theorem dv_dropAccepted {s} {i}   {rq iq} (hq : Nat.testBit 0x0 (Reg.ctorIdx rq) = false) : ((dropAccepted s i)).dv rq iq = State.dv s rq iq :=
  dev_of iq (fun _ hk => keep_dropAccepted hk) rfl rfl rfl hq
@[simp] theorem ts_dropAccepted {s} {i}   : ((dropAccepted s i)).ts = State.ts s := ts_of (fun _ hk => keep_dropAccepted hk) rfl
@[simp] theorem get_breakStream {s} {i}   {rq iq} (hq : Nat.testBit 0x400000040000000000000000000000000000000000000000000000000000000000000000000000000000000000000000000000000000000000000000100000000300022b80000 (Reg.ctorIdx rq) = false) : ((breakStream s i)).get rq iq = State.get s rq iq :=
  reg_of iq (fun _ hk => keep_breakStream hk) rfl rfl rfl hq
@[simp] theorem dv_breakStream {s} {i}   {rq iq} (hq : Nat.testBit 0x0 (Reg.ctorIdx rq) = false) : ((breakStream s i)).dv rq iq = State.dv s rq iq :=
  dev_of iq (fun _ hk => keep_breakStream hk) rfl rfl rfl hq
@[simp] theorem ts_breakStream {s} {i}   : ((breakStream s i)).ts = State.ts s := ts_of (fun _ hk => keep_breakStream hk) rfl
@[simp] theorem get_leaveSegmentMode {s} {i}   {rq iq} (hq : Nat.testBit 0x2c00000040000000000000000000000000000000000000000000000000000000000000000000000000000000000000000000000000000000000000080100000a00300022b80000 (Reg.ctorIdx rq) = false) : ((leaveSegmentMode s i)).get rq iq = State.get s rq iq :=
  reg_of iq (fun _ hk => keep_leaveSegmentMode hk) rfl rfl rfl hq
@[simp] theorem dv_leaveSegmentMode {s} {i}   {rq iq} (hq : Nat.testBit 0x0 (Reg.ctorIdx rq) = false) : ((leaveSegmentMode s i)).dv rq iq = State.dv s rq iq :=
  dev_of iq (fun _ hk => keep_leaveSegmentMode hk) rfl rfl rfl hq
@[simp] theorem ts_leaveSegmentMode {s} {i}   : ((leaveSegmentMode s i)).ts = State.ts s := ts_of (fun _ hk => keep_leaveSegmentMode hk) rfl
@[simp] theorem get_enterSegmentMode {s} {i}   {rq iq} (hq : Nat.testBit 0xf000000400000000000000000008000000000000000000000000000000000000000000000000000000000000000000000000000000000000000000001b0000200300022b80000 (Reg.ctorIdx rq) = false) : ((enterSegmentMode s i)).get rq iq = State.get s rq iq :=
  reg_of iq (fun _ hk => keep_enterSegmentMode hk) rfl rfl rfl hq
@[simp] theorem dv_enterSegmentMode {s} {i}   {rq iq} (hq : Nat.testBit 0x0 (Reg.ctorIdx rq) = false) : ((enterSegmentMode s i)).dv rq iq = State.dv s rq iq :=
  dev_of iq (fun _ hk => keep_enterSegmentMode hk) rfl rfl rfl hq
@[simp] theorem ts_enterSegmentMode {s} {i}   : ((enterSegmentMode s i)).ts = State.ts s := ts_of (fun _ hk => keep_enterSegmentMode hk) rfl
@[simp] theorem get_appendEntries {s q l}  {rq iq} (hq : Nat.testBit 0xf000000400000000000000000008000000000000000000000000000000000000000000000000000000000000000000000000000000000000000000001b0000000300022b80000 (Reg.ctorIdx rq) = false) : ((appendEntries s q l)).get rq iq = State.get s rq iq :=
  reg_of iq (fun _ hk => keep_appendEntries hk) rfl rfl rfl hq
@[simp] theorem dv_appendEntries {s q l}  {rq iq} (hq : Nat.testBit 0x0 (Reg.ctorIdx rq) = false) : ((appendEntries s q l)).dv rq iq = State.dv s rq iq :=
  dev_of iq (fun _ hk => keep_appendEntries hk) rfl rfl rfl hq
@[simp] theorem ts_appendEntries {s q l}  : ((appendEntries s q l)).ts = State.ts s := ts_of (fun _ hk => keep_appendEntries hk) rfl
@[simp] theorem get_segWrite {s} {i} {bytes}   {rq iq} (hq : Nat.testBit 0xf000000c00000000000000000008000000000000000000000000000000000000000000000000000000000000000000000000000000000000000000001b0000000300022b80000 (Reg.ctorIdx rq) = false) : ((segWrite s i bytes)).get rq iq = State.get s rq iq :=
  reg_of iq (fun _ hk => keep_segWrite hk) rfl rfl rfl hq
@[simp] theorem dv_segWrite {s} {i} {bytes}   {rq iq} (hq : Nat.testBit 0x0 (Reg.ctorIdx rq) = false) : ((segWrite s i bytes)).dv rq iq = State.dv s rq iq :=
  dev_of iq (fun _ hk => keep_segWrite hk) rfl rfl rfl hq
@[simp] theorem ts_segWrite {s} {i} {bytes}   : ((segWrite s i bytes)).ts = State.ts s := ts_of (fun _ hk => keep_segWrite hk) rfl
@[simp] theorem get_segEnqueueBy {s} {i} {producer} {ws}   {rq iq} (hq : Nat.testBit 0xf000000400000000000000000008000000000000000000000000000000000000000000000000000000000000000000000000000000000000000000001b0000000300026b80000 (Reg.ctorIdx rq) = false) : ((segEnqueueBy s i producer ws)).get rq iq = State.get s rq iq :=
  reg_of iq (fun _ hk => keep_segEnqueueBy hk) rfl rfl rfl hq
@[simp] theorem dv_segEnqueueBy {s} {i} {producer} {ws}   {rq iq} (hq : Nat.testBit 0x0 (Reg.ctorIdx rq) = false) : ((segEnqueueBy s i producer ws)).dv rq iq = State.dv s rq iq :=
  dev_of iq (fun _ hk => keep_segEnqueueBy hk) rfl rfl rfl hq
@[simp] theorem ts_segEnqueueBy {s} {i} {producer} {ws}   : ((segEnqueueBy s i producer ws)).ts = State.ts s := ts_of (fun _ hk => keep_segEnqueueBy hk) rfl
@[simp] theorem get_segRestart {s} {i}   {rq iq} (hq : Nat.testBit 0x700000000000000000000000000000000000000000000000000000000000000000000000000000000000000000000000000000000000000000000000000000208000000000000 (Reg.ctorIdx rq) = false) : ((segRestart s i)).get rq iq = State.get s rq iq :=
  reg_of iq (fun _ hk => keep_segRestart hk) rfl rfl rfl hq
@[simp] theorem dv_segRestart {s} {i}   {rq iq} (hq : Nat.testBit 0x0 (Reg.ctorIdx rq) = false) : ((segRestart s i)).dv rq iq = State.dv s rq iq :=
  dev_of iq (fun _ hk => keep_segRestart hk) rfl rfl rfl hq
@[simp] theorem se_segRestart {xq : State} {s} {i}   : SameEvents xq ((segRestart s i)) ↔ SameEvents xq s := se_of (fun _ hk => keep_segRestart hk) rfl
@[simp] theorem ts_segRestart {s} {i}   : ((segRestart s i)).ts = State.ts s := ts_of (fun _ hk => keep_segRestart hk) rfl
@[simp] theorem get_updateAhead {s} {i} {te}   {rq iq} (hq : Nat.testBit 0x10000000040000000000000000000000000000000000000000000000000000000000000000000000000000000000000000000000000000000000000000008000800300022b00000 (Reg.ctorIdx rq) = false) : ((updateAhead s i te)).get rq iq = State.get s rq iq :=
  reg_of iq (fun _ hk => keep_updateAhead hk) rfl rfl rfl hq
@[simp] theorem dv_updateAhead {s} {i} {te}   {rq iq} (hq : Nat.testBit 0x0 (Reg.ctorIdx rq) = false) : ((updateAhead s i te)).dv rq iq = State.dv s rq iq :=
  dev_of iq (fun _ hk => keep_updateAhead hk) rfl rfl rfl hq
@[simp] theorem ts_updateAhead {s} {i} {te}   : ((updateAhead s i te)).ts = State.ts s := ts_of (fun _ hk => keep_updateAhead hk) rfl
@[simp] theorem get_leaveBehind {s} {i} {gs}   {rq iq} (hq : Nat.testBit 0x0 (Reg.ctorIdx rq) = false) : ((leaveBehind s i gs)).get rq iq = State.get s rq iq :=
  reg_of iq (fun _ hk => keep_leaveBehind hk) rfl rfl rfl hq
@[simp] theorem dv_leaveBehind {s} {i} {gs}   {rq iq} (hq : Nat.testBit 0x0 (Reg.ctorIdx rq) = false) : ((leaveBehind s i gs)).dv rq iq = State.dv s rq iq :=
  dev_of iq (fun _ hk => keep_leaveBehind hk) rfl rfl rfl hq
@[simp] theorem se_leaveBehind {xq : State} {s} {i} {gs}   : SameEvents xq ((leaveBehind s i gs)) ↔ SameEvents xq s := se_of (fun _ hk => keep_leaveBehind hk) rfl
@[simp] theorem ts_leaveBehind {s} {i} {gs}   : ((leaveBehind s i gs)).ts = State.ts s := ts_of (fun _ hk => keep_leaveBehind hk) rfl
@[simp] theorem get_leaveSources {s} {i}   {rq iq} (hq : Nat.testBit 0x1020000000000002c00000040000000000000000000000000000000000000000000000000000000000000000000000000000000000000000000000000008000000000080100000a00300022b80000 (Reg.ctorIdx rq) = false) : ((leaveSources s i)).get rq iq = State.get s rq iq :=
  reg_of iq (fun _ hk => keep_leaveSources hk) rfl rfl rfl hq
@[simp] theorem dv_leaveSources {s} {i}   {rq iq} (hq : Nat.testBit 0x0 (Reg.ctorIdx rq) = false) : ((leaveSources s i)).dv rq iq = State.dv s rq iq :=
  dev_of iq (fun _ hk => keep_leaveSources hk) rfl rfl rfl hq
@[simp] theorem ts_leaveSources {s} {i}   : ((leaveSources s i)).ts = State.ts s := ts_of (fun _ hk => keep_leaveSources hk) rfl
@[simp] theorem get_setPlan {s} {i} {t0} {ph}   {rq iq} (hq : Nat.testBit 0x400000000000000000000000 (Reg.ctorIdx rq) = false) : ((setPlan s i t0 ph)).get rq iq = State.get s rq iq :=
  reg_of iq (fun _ hk => keep_setPlan hk) rfl rfl rfl hq
@[simp] theorem dv_setPlan {s} {i} {t0} {ph}   {rq iq} (hq : Nat.testBit 0x0 (Reg.ctorIdx rq) = false) : ((setPlan s i t0 ph)).dv rq iq = State.dv s rq iq :=
  dev_of iq (fun _ hk => keep_setPlan hk) rfl rfl rfl hq
@[simp] theorem se_setPlan {xq : State} {s} {i} {t0} {ph}   : SameEvents xq ((setPlan s i t0 ph)) ↔ SameEvents xq s := se_of (fun _ hk => keep_setPlan hk) rfl
@[simp] theorem ts_setPlan {s} {i} {t0} {ph}   : ((setPlan s i t0 ph)).ts = State.ts s := ts_of (fun _ hk => keep_setPlan hk) rfl
@[simp] theorem get_requestStop {s} {i} {cause} {rate} {scurve}   {rq iq} (hq : Nat.testBit 0xe00000000000000000000000000000000000000000000000000000000000000000000000000000000000000000000000000000000000000000000000000000000000000000000000000 (Reg.ctorIdx rq) = false) : ((requestStop s i cause rate scurve)).get rq iq = State.get s rq iq :=
  reg_of iq (fun _ hk => keep_requestStop hk) rfl rfl rfl hq
@[simp] theorem dv_requestStop {s} {i} {cause} {rate} {scurve}   {rq iq} (hq : Nat.testBit 0x0 (Reg.ctorIdx rq) = false) : ((requestStop s i cause rate scurve)).dv rq iq = State.dv s rq iq :=
  dev_of iq (fun _ hk => keep_requestStop hk) rfl rfl rfl hq
@[simp] theorem se_requestStop {xq : State} {s} {i} {cause} {rate} {scurve}   : SameEvents xq ((requestStop s i cause rate scurve)) ↔ SameEvents xq s := se_of (fun _ hk => keep_requestStop hk) rfl
@[simp] theorem ts_requestStop {s} {i} {cause} {rate} {scurve}   : ((requestStop s i cause rate scurve)).ts = State.ts s := ts_of (fun _ hk => keep_requestStop hk) rfl
@[simp] theorem get_stopBreaks {s} {i}   {rq iq} (hq : Nat.testBit 0x20000000000000400000040000000000000000000000000000000000000000000000000000000000000000000000000000000000000000000000000008000000000080100000200300022b80000 (Reg.ctorIdx rq) = false) : ((stopBreaks s i)).get rq iq = State.get s rq iq :=
  reg_of iq (fun _ hk => keep_stopBreaks hk) rfl rfl rfl hq
@[simp] theorem dv_stopBreaks {s} {i}   {rq iq} (hq : Nat.testBit 0x0 (Reg.ctorIdx rq) = false) : ((stopBreaks s i)).dv rq iq = State.dv s rq iq :=
  dev_of iq (fun _ hk => keep_stopBreaks hk) rfl rfl rfl hq
@[simp] theorem ts_stopBreaks {s} {i}   : ((stopBreaks s i)).ts = State.ts s := ts_of (fun _ hk => keep_stopBreaks hk) rfl
@[simp] theorem get_beginStop {s} {i} {cause} {rate} {scurve} {t0} {p} {v} {a0}   {rq iq} (hq : Nat.testBit 0x2000000010180040c000040000000000000000000000000000000000000000000000000000000000000000000000000000000000000000000000000008000000000c80100000200300022b80000 (Reg.ctorIdx rq) = false) : ((beginStop s i cause rate scurve t0 p v a0)).get rq iq = State.get s rq iq :=
  reg_of iq (fun _ hk => keep_beginStop hk) rfl rfl rfl hq
@[simp] theorem dv_beginStop {s} {i} {cause} {rate} {scurve} {t0} {p} {v} {a0}   {rq iq} (hq : Nat.testBit 0x300000000000000000000000000 (Reg.ctorIdx rq) = false) : ((beginStop s i cause rate scurve t0 p v a0)).dv rq iq = State.dv s rq iq :=
  dev_of iq (fun _ hk => keep_beginStop hk) rfl rfl rfl hq
@[simp] theorem ts_beginStop {s} {i} {cause} {rate} {scurve} {t0} {p} {v} {a0}   : ((beginStop s i cause rate scurve t0 p v a0)).ts = State.ts s := ts_of (fun _ hk => keep_beginStop hk) rfl
@[simp] theorem get_clampTarget {s} {i} {target}   {rq iq} (hq : Nat.testBit 0x40000000000000000000000000000000000000000000000000000000000000000000000000000000000000000000000000000000000002000000000000300022b00000 (Reg.ctorIdx rq) = false) : ((clampTarget s i target).1).get rq iq = State.get s rq iq :=
  reg_of iq (fun _ hk => keep_clampTarget hk) rfl rfl rfl hq
@[simp] theorem dv_clampTarget {s} {i} {target}   {rq iq} (hq : Nat.testBit 0x0 (Reg.ctorIdx rq) = false) : ((clampTarget s i target).1).dv rq iq = State.dv s rq iq :=
  dev_of iq (fun _ hk => keep_clampTarget hk) rfl rfl rfl hq
@[simp] theorem ts_clampTarget {s} {i} {target}   : ((clampTarget s i target).1).ts = State.ts s := ts_of (fun _ hk => keep_clampTarget hk) rfl
@[simp] theorem get_publish {s} {i} {p} {v}   {rq iq} (hq : Nat.testBit 0x60000000000000000000000000000000000000000000000000000000000000000000000000000000000000000000000000000000000000000000003000000000000000000000 (Reg.ctorIdx rq) = false) : ((publish s i p v)).get rq iq = State.get s rq iq :=
  reg_of iq (fun _ hk => keep_publish hk) rfl rfl rfl hq
@[simp] theorem dv_publish {s} {i} {p} {v}   {rq iq} (hq : Nat.testBit 0x0 (Reg.ctorIdx rq) = false) : ((publish s i p v)).dv rq iq = State.dv s rq iq :=
  dev_of iq (fun _ hk => keep_publish hk) rfl rfl rfl hq
@[simp] theorem se_publish {xq : State} {s} {i} {p} {v}   : SameEvents xq ((publish s i p v)) ↔ SameEvents xq s := se_of (fun _ hk => keep_publish hk) rfl
@[simp] theorem ts_publish {s} {i} {p} {v}   : ((publish s i p v)).ts = State.ts s := ts_of (fun _ hk => keep_publish hk) rfl
@[simp] theorem get_outputStage {s} {i}   {rq iq} (hq : Nat.testBit 0x40060000040000000000000000000000000000000000000000000000000000000000000000000000000000000000000000000000000000000000000003000100000300022b00000 (Reg.ctorIdx rq) = false) : ((outputStage s i)).get rq iq = State.get s rq iq :=
  reg_of iq (fun _ hk => keep_outputStage hk) rfl rfl rfl hq
@[simp] theorem dv_outputStage {s} {i}   {rq iq} (hq : Nat.testBit 0x0 (Reg.ctorIdx rq) = false) : ((outputStage s i)).dv rq iq = State.dv s rq iq :=
  dev_of iq (fun _ hk => keep_outputStage hk) rfl rfl rfl hq
@[simp] theorem ts_outputStage {s} {i}   : ((outputStage s i)).ts = State.ts s := ts_of (fun _ hk => keep_outputStage hk) rfl
@[simp] theorem get_developDecel {s} {i}   {rq iq} (hq : Nat.testBit 0x40000000000040000000000000000000000000000000000000000000000000000000000000000000000000000000000000000000000000000000000001000000000000300022b00000 (Reg.ctorIdx rq) = false) : ((developDecel s i)).get rq iq = State.get s rq iq :=
  reg_of iq (fun _ hk => keep_developDecel hk) rfl rfl rfl hq
@[simp] theorem dv_developDecel {s} {i}   {rq iq} (hq : Nat.testBit 0x408000000000000000000000000000000000000000000000000000000000000000000000000000000000000000000000000000000000000000000000000000000000000000000000000000000 (Reg.ctorIdx rq) = false) : ((developDecel s i)).dv rq iq = State.dv s rq iq :=
  dev_of iq (fun _ hk => keep_developDecel hk) rfl rfl rfl hq
@[simp] theorem ts_developDecel {s} {i}   : ((developDecel s i)).ts = State.ts s := ts_of (fun _ hk => keep_developDecel hk) rfl
@[simp] theorem get_developMotion {s} {i}   {rq iq} (hq : Nat.testBit 0x300000000000040000000000040000000000000000000000000000000000000000000000000000000000000000000000000000000000000000000000000000000000001000000000000300022b00000 (Reg.ctorIdx rq) = false) : ((developMotion s i)).get rq iq = State.get s rq iq :=
  reg_of iq (fun _ hk => keep_developMotion hk) rfl rfl rfl hq
@[simp] theorem dv_developMotion {s} {i}   {rq iq} (hq : Nat.testBit 0x187bf00000000000000000000000000000000000000000000000000000000000000000000003fc0000000000000000000000fffffffffffffffffffffffffffffffc03ffffffe00000000000ff8 (Reg.ctorIdx rq) = false) : ((developMotion s i)).dv rq iq = State.dv s rq iq :=
  dev_of iq (fun _ hk => keep_developMotion hk) rfl rfl rfl hq
@[simp] theorem ts_developMotion {s} {i}   : ((developMotion s i)).ts = State.ts s := ts_of (fun _ hk => keep_developMotion hk) rfl
@[simp] theorem get_planOnward {s} {i} {g}   {rq iq} (hq : Nat.testBit 0xc4100000000000000000000000000000000000000000000000000000000000000000000000000000000000000000000000000000000000000000000000400000000000000000000000 (Reg.ctorIdx rq) = false) : ((planOnward s i g)).get rq iq = State.get s rq iq :=
  reg_of iq (fun _ hk => keep_planOnward hk) rfl rfl rfl hq
@[simp] theorem dv_planOnward {s} {i} {g}   {rq iq} (hq : Nat.testBit 0x408000000000000000000000000000000000000000000000000000000000000000000000000000000000000000000000000000000000000000000000000000000000000000000000000000000 (Reg.ctorIdx rq) = false) : ((planOnward s i g)).dv rq iq = State.dv s rq iq :=
  dev_of iq (fun _ hk => keep_planOnward hk) rfl rfl rfl hq
@[simp] theorem se_planOnward {xq : State} {s} {i} {g}   : SameEvents xq ((planOnward s i g)) ↔ SameEvents xq s := se_of (fun _ hk => keep_planOnward hk) rfl
@[simp] theorem ts_planOnward {s} {i} {g}   : ((planOnward s i g)).ts = State.ts s := ts_of (fun _ hk => keep_planOnward hk) rfl
@[simp] theorem get_planStep {s} {i} {te}   {rq iq} (hq : Nat.testBit 0xc000000000000000000000000000000000000000000000000000000000000000000000000000000000000000000000000000000000000000000400000000000000000000000 (Reg.ctorIdx rq) = false) : ((planStep s i te).1).get rq iq = State.get s rq iq :=
  reg_of iq (fun _ hk => keep_planStep hk) rfl rfl rfl hq
@[simp] theorem dv_planStep {s} {i} {te}   {rq iq} (hq : Nat.testBit 0x0 (Reg.ctorIdx rq) = false) : ((planStep s i te).1).dv rq iq = State.dv s rq iq :=
  dev_of iq (fun _ hk => keep_planStep hk) rfl rfl rfl hq
@[simp] theorem se_planStep {xq : State} {s} {i} {te}   : SameEvents xq ((planStep s i te).1) ↔ SameEvents xq s := se_of (fun _ hk => keep_planStep hk) rfl
@[simp] theorem ts_planStep {s} {i} {te}   : ((planStep s i te).1).ts = State.ts s := ts_of (fun _ hk => keep_planStep hk) rfl
@[simp] theorem get_planEval {s} {i} {te}   {rq iq} (hq : Nat.testBit 0xc410000c000000000000000000000000000000000000000000000000000000000000000000000000000000000000000000000000000000000000000000400000000000000000000000 (Reg.ctorIdx rq) = false) : ((planEval s i te)).get rq iq = State.get s rq iq :=
  reg_of iq (fun _ hk => keep_planEval hk) rfl rfl rfl hq
@[simp] theorem dv_planEval {s} {i} {te}   {rq iq} (hq : Nat.testBit 0x408000000000000000000000000000000000000000000000000000000000000000000000000000000000000000000000000000000000000000000000000000000000000000000000000000000 (Reg.ctorIdx rq) = false) : ((planEval s i te)).dv rq iq = State.dv s rq iq :=
  dev_of iq (fun _ hk => keep_planEval hk) rfl rfl rfl hq
@[simp] theorem se_planEval {xq : State} {s} {i} {te}   : SameEvents xq ((planEval s i te)) ↔ SameEvents xq s := se_of (fun _ hk => keep_planEval hk) rfl
@[simp] theorem ts_planEval {s} {i} {te}   : ((planEval s i te)).ts = State.ts s := ts_of (fun _ hk => keep_planEval hk) rfl
@[simp] theorem get_stretchSeg {s} {i} {te} {g}   {rq iq} (hq : Nat.testBit 0x40000000000000000000000000000000000000000000000000000000000000000000000000000000000000000000000000000000000000000202000000300022b00000 (Reg.ctorIdx rq) = false) : ((stretchSeg s i te g).1).get rq iq = State.get s rq iq :=
  reg_of iq (fun _ hk => keep_stretchSeg hk) rfl rfl rfl hq
@[simp] theorem dv_stretchSeg {s} {i} {te} {g}   {rq iq} (hq : Nat.testBit 0x0 (Reg.ctorIdx rq) = false) : ((stretchSeg s i te g).1).dv rq iq = State.dv s rq iq :=
  dev_of iq (fun _ hk => keep_stretchSeg hk) rfl rfl rfl hq
@[simp] theorem ts_stretchSeg {s} {i} {te} {g}   : ((stretchSeg s i te g).1).ts = State.ts s := ts_of (fun _ hk => keep_stretchSeg hk) rfl
@[simp] theorem get_openSeg {s i te g}  {rq iq} (hq : Nat.testBit 0x20000000040000000000000000000000000000000000000000000000000000000000000000000000000000000000000000000000000000000000000000202000600300022b80000 (Reg.ctorIdx rq) = false) : ((openSeg s i te g)).get rq iq = State.get s rq iq :=
  reg_of iq (fun _ hk => keep_openSeg hk) rfl rfl rfl hq
@[simp] theorem dv_openSeg {s i te g}  {rq iq} (hq : Nat.testBit 0x1e000000000000000 (Reg.ctorIdx rq) = false) : ((openSeg s i te g)).dv rq iq = State.dv s rq iq :=
  dev_of iq (fun _ hk => keep_openSeg hk) rfl rfl rfl hq
@[simp] theorem ts_openSeg {s i te g}  : ((openSeg s i te g)).ts = State.ts s := ts_of (fun _ hk => keep_openSeg hk) rfl
@[simp] theorem get_nextAccepted {s} {i}   {rq iq} (hq : Nat.testBit 0x40000000000000000000000000000000000000000000000000000000000000000000000000000000000000000000000000000000000000000000000000300022b80000 (Reg.ctorIdx rq) = false) : ((nextAccepted s i).1).get rq iq = State.get s rq iq :=
  reg_of iq (fun _ hk => keep_nextAccepted hk) rfl rfl rfl hq
@[simp] theorem dv_nextAccepted {s} {i}   {rq iq} (hq : Nat.testBit 0x0 (Reg.ctorIdx rq) = false) : ((nextAccepted s i).1).dv rq iq = State.dv s rq iq :=
  dev_of iq (fun _ hk => keep_nextAccepted hk) rfl rfl rfl hq
@[simp] theorem ts_nextAccepted {s} {i}   : ((nextAccepted s i).1).ts = State.ts s := ts_of (fun _ hk => keep_nextAccepted hk) rfl
@[simp] theorem get_arriveSync {s} {i} {g} {arrival}   {rq iq} (hq : Nat.testBit 0x3000000000000000000000000000000000000000000000000000000000000000000000000000000000000000000000000000000000000000000000080000000200000000000000 (Reg.ctorIdx rq) = false) : ((arriveSync s i g arrival)).get rq iq = State.get s rq iq :=
  reg_of iq (fun _ hk => keep_arriveSync hk) rfl rfl rfl hq
@[simp] theorem dv_arriveSync {s} {i} {g} {arrival}   {rq iq} (hq : Nat.testBit 0x40000000000000000 (Reg.ctorIdx rq) = false) : ((arriveSync s i g arrival)).dv rq iq = State.dv s rq iq :=
  dev_of iq (fun _ hk => keep_arriveSync hk) rfl rfl rfl hq
@[simp] theorem se_arriveSync {xq : State} {s} {i} {g} {arrival}   : SameEvents xq ((arriveSync s i g arrival)) ↔ SameEvents xq s := se_of (fun _ hk => keep_arriveSync hk) rfl
@[simp] theorem ts_arriveSync {s} {i} {g} {arrival}   : ((arriveSync s i g arrival)).ts = State.ts s := ts_of (fun _ hk => keep_arriveSync hk) rfl
@[simp] theorem get_gather {s} {n}   {rq iq} (hq : Nat.testBit 0x8000000000000000000000000000000000000000000000000000000000000000000000000000000000000000000000000000000000000000000000100000000000000000000000 (Reg.ctorIdx rq) = false) : ((gather s n)).get rq iq = State.get s rq iq :=
  reg_of iq (fun _ hk => keep_gather hk) rfl rfl rfl hq
@[simp] theorem dv_gather {s} {n}   {rq iq} (hq : Nat.testBit 0x0 (Reg.ctorIdx rq) = false) : ((gather s n)).dv rq iq = State.dv s rq iq :=
  dev_of iq (fun _ hk => keep_gather hk) rfl rfl rfl hq
@[simp] theorem se_gather {xq : State} {s} {n}   : SameEvents xq ((gather s n)) ↔ SameEvents xq s := se_of (fun _ hk => keep_gather hk) rfl
@[simp] theorem ts_gather {s} {n}   : ((gather s n)).ts = State.ts s := ts_of (fun _ hk => keep_gather hk) rfl
@[simp] theorem get_syncWait {s} {i} {te}   {rq iq} (hq : Nat.testBit 0x2e000000040000000000000000000000000000000000000000000000000000000000000000000000000000000000000000000000000000000000000180202400600300022b80000 (Reg.ctorIdx rq) = false) : ((syncWait s i te)).get rq iq = State.get s rq iq :=
  reg_of iq (fun _ hk => keep_syncWait hk) rfl rfl rfl hq
@[simp] theorem dv_syncWait {s} {i} {te}   {rq iq} (hq : Nat.testBit 0x1e000000000000000 (Reg.ctorIdx rq) = false) : ((syncWait s i te)).dv rq iq = State.dv s rq iq :=
  dev_of iq (fun _ hk => keep_syncWait hk) rfl rfl rfl hq
@[simp] theorem ts_syncWait {s} {i} {te}   : ((syncWait s i te)).ts = State.ts s := ts_of (fun _ hk => keep_syncWait hk) rfl
@[simp] theorem get_startStream {s} {i} {te}   {rq iq} (hq : Nat.testBit 0x2f004000040000000000000000000000000000000000000000000000000000000000000000000000000000000000000000000000000000000000000180202400600300022b80000 (Reg.ctorIdx rq) = false) : ((startStream s i te)).get rq iq = State.get s rq iq :=
  reg_of iq (fun _ hk => keep_startStream hk) rfl rfl rfl hq
@[simp] theorem dv_startStream {s} {i} {te}   {rq iq} (hq : Nat.testBit 0x5e000000000000000 (Reg.ctorIdx rq) = false) : ((startStream s i te)).dv rq iq = State.dv s rq iq :=
  dev_of iq (fun _ hk => keep_startStream hk) rfl rfl rfl hq
@[simp] theorem ts_startStream {s} {i} {te}   : ((startStream s i te)).ts = State.ts s := ts_of (fun _ hk => keep_startStream hk) rfl
@[simp] theorem get_runDry {s} {i} {g}   {rq iq} (hq : Nat.testBit 0x2000000010180040c000040000000000000000000000000000000000000000000000000000000000000000000000000000000000000000000000000008000000000c80100200200300022b80000 (Reg.ctorIdx rq) = false) : ((runDry s i g)).get rq iq = State.get s rq iq :=
  reg_of iq (fun _ hk => keep_runDry hk) rfl rfl rfl hq
@[simp] theorem dv_runDry {s} {i} {g}   {rq iq} (hq : Nat.testBit 0x300000000000000000000000000 (Reg.ctorIdx rq) = false) : ((runDry s i g)).dv rq iq = State.dv s rq iq :=
  dev_of iq (fun _ hk => keep_runDry hk) rfl rfl rfl hq
@[simp] theorem ts_runDry {s} {i} {g}   : ((runDry s i g)).ts = State.ts s := ts_of (fun _ hk => keep_runDry hk) rfl
@[simp] theorem get_segBoundary {s} {i} {te} {g}   {rq iq} (hq : Nat.testBit 0x2000000010182340c000040000000000000000000000000000000000000000000000000000000000000000000000000000000000000000000000000008000000000c80342200600300022b80000 (Reg.ctorIdx rq) = false) : ((segBoundary s i te g)).get rq iq = State.get s rq iq :=
  reg_of iq (fun _ hk => keep_segBoundary hk) rfl rfl rfl hq
@[simp] theorem dv_segBoundary {s} {i} {te} {g}   {rq iq} (hq : Nat.testBit 0x30000000005e000000000000000 (Reg.ctorIdx rq) = false) : ((segBoundary s i te g)).dv rq iq = State.dv s rq iq :=
  dev_of iq (fun _ hk => keep_segBoundary hk) rfl rfl rfl hq
@[simp] theorem ts_segBoundary {s} {i} {te} {g}   : ((segBoundary s i te g)).ts = State.ts s := ts_of (fun _ hk => keep_segBoundary hk) rfl
@[simp] theorem get_streamUpdate {s} {i} {te}   {rq iq} (hq : Nat.testBit 0x200000001c592f40c000040000000000000000000000000000000000000000000000000000000000000000000000000000000000000000000000000008000000000d80343600600300022b80000 (Reg.ctorIdx rq) = false) : ((streamUpdate s i te)).get rq iq = State.get s rq iq :=
  reg_of iq (fun _ hk => keep_streamUpdate hk) rfl rfl rfl hq
@[simp] theorem dv_streamUpdate {s} {i} {te}   {rq iq} (hq : Nat.testBit 0x40800000000000000000000000000000000000000000000000000000000000000000000000000000000000000000000000000000000000000000000000000030000000005e000000000000000 (Reg.ctorIdx rq) = false) : ((streamUpdate s i te)).dv rq iq = State.dv s rq iq :=
  dev_of iq (fun _ hk => keep_streamUpdate hk) rfl rfl rfl hq
@[simp] theorem ts_streamUpdate {s} {i} {te}   : ((streamUpdate s i te)).ts = State.ts s := ts_of (fun _ hk => keep_streamUpdate hk) rfl
@[simp] theorem get_pushChain {s} {i} {t} {g}   {rq iq} (hq : Nat.testBit 0x800000000000000000000000000000000000000000000000000000000000000000000000000000000000000000000000000000000000000000000000000000000000000000000000000000000000 (Reg.ctorIdx rq) = false) : ((pushChain s i t g)).get rq iq = State.get s rq iq :=
  reg_of iq (fun _ hk => keep_pushChain hk) rfl rfl rfl hq
@[simp] theorem dv_pushChain {s} {i} {t} {g}   {rq iq} (hq : Nat.testBit 0x0 (Reg.ctorIdx rq) = false) : ((pushChain s i t g)).dv rq iq = State.dv s rq iq :=
  dev_of iq (fun _ hk => keep_pushChain hk) rfl rfl rfl hq
@[simp] theorem se_pushChain {xq : State} {s} {i} {t} {g}   : SameEvents xq ((pushChain s i t g)) ↔ SameEvents xq s := se_of (fun _ hk => keep_pushChain hk) rfl
@[simp] theorem ts_pushChain {s} {i} {t} {g}   : ((pushChain s i t g)).ts = State.ts s := ts_of (fun _ hk => keep_pushChain hk) rfl
@[simp] theorem get_boundEnd {s} {i} {g}   {rq iq} (hq : Nat.testBit 0x20000000000000000000000000 (Reg.ctorIdx rq) = false) : ((boundEnd s i g).1).get rq iq = State.get s rq iq :=
  reg_of iq (fun _ hk => keep_boundEnd hk) rfl rfl rfl hq
@[simp] theorem dv_boundEnd {s} {i} {g}   {rq iq} (hq : Nat.testBit 0x0 (Reg.ctorIdx rq) = false) : ((boundEnd s i g).1).dv rq iq = State.dv s rq iq :=
  dev_of iq (fun _ hk => keep_boundEnd hk) rfl rfl rfl hq
@[simp] theorem se_boundEnd {xq : State} {s} {i} {g}   : SameEvents xq ((boundEnd s i g).1) ↔ SameEvents xq s := se_of (fun _ hk => keep_boundEnd hk) rfl
@[simp] theorem ts_boundEnd {s} {i} {g}   : ((boundEnd s i g).1).ts = State.ts s := ts_of (fun _ hk => keep_boundEnd hk) rfl
@[simp] theorem get_chainLinear {s} {i} {t} {start} {p0} {span} {target}   {rq iq} (hq : Nat.testBit 0x800000000000000000000000000000000000000000000000000000000000000000000000000000000000000000000000000000000000000000000000000000000020000000000000000000000000 (Reg.ctorIdx rq) = false) : ((chainLinear s i t start p0 span target)).get rq iq = State.get s rq iq :=
  reg_of iq (fun _ hk => keep_chainLinear hk) rfl rfl rfl hq
@[simp] theorem dv_chainLinear {s} {i} {t} {start} {p0} {span} {target}   {rq iq} (hq : Nat.testBit 0x0 (Reg.ctorIdx rq) = false) : ((chainLinear s i t start p0 span target)).dv rq iq = State.dv s rq iq :=
  dev_of iq (fun _ hk => keep_chainLinear hk) rfl rfl rfl hq
@[simp] theorem se_chainLinear {xq : State} {s} {i} {t} {start} {p0} {span} {target}   : SameEvents xq ((chainLinear s i t start p0 span target)) ↔ SameEvents xq s := se_of (fun _ hk => keep_chainLinear hk) rfl
@[simp] theorem ts_chainLinear {s} {i} {t} {start} {p0} {span} {target}   : ((chainLinear s i t start p0 span target)).ts = State.ts s := ts_of (fun _ hk => keep_chainLinear hk) rfl
@[simp] theorem get_chainCubic {s} {i} {t} {nextTarget}   {rq iq} (hq : Nat.testBit 0x800000000000000000000000000000000000000000000000000000000000000000000000000000000000000000000000000000000000000000000000000000000020000000000000000000000000 (Reg.ctorIdx rq) = false) : ((chainCubic s i t nextTarget)).get rq iq = State.get s rq iq :=
  reg_of iq (fun _ hk => keep_chainCubic hk) rfl rfl rfl hq
@[simp] theorem dv_chainCubic {s} {i} {t} {nextTarget}   {rq iq} (hq : Nat.testBit 0x0 (Reg.ctorIdx rq) = false) : ((chainCubic s i t nextTarget)).dv rq iq = State.dv s rq iq :=
  dev_of iq (fun _ hk => keep_chainCubic hk) rfl rfl rfl hq
@[simp] theorem se_chainCubic {xq : State} {s} {i} {t} {nextTarget}   : SameEvents xq ((chainCubic s i t nextTarget)) ↔ SameEvents xq s := se_of (fun _ hk => keep_chainCubic hk) rfl
@[simp] theorem ts_chainCubic {s} {i} {t} {nextTarget}   : ((chainCubic s i t nextTarget)).ts = State.ts s := ts_of (fun _ hk => keep_chainCubic hk) rfl
@[simp] theorem get_chainOpen {s} {i} {t} {target} {cubic}   {rq iq} (hq : Nat.testBit 0xfe0000000000000000000000000000000000000000000000000000000000000000000000000000000000000000000000000000000000000000000000000000001020000000000000000000000000 (Reg.ctorIdx rq) = false) : ((chainOpen s i t target cubic)).get rq iq = State.get s rq iq :=
  reg_of iq (fun _ hk => keep_chainOpen hk) rfl rfl rfl hq
@[simp] theorem dv_chainOpen {s} {i} {t} {target} {cubic}   {rq iq} (hq : Nat.testBit 0x0 (Reg.ctorIdx rq) = false) : ((chainOpen s i t target cubic)).dv rq iq = State.dv s rq iq :=
  dev_of iq (fun _ hk => keep_chainOpen hk) rfl rfl rfl hq
@[simp] theorem se_chainOpen {xq : State} {s} {i} {t} {target} {cubic}   : SameEvents xq ((chainOpen s i t target cubic)) ↔ SameEvents xq s := se_of (fun _ hk => keep_chainOpen hk) rfl
@[simp] theorem ts_chainOpen {s} {i} {t} {target} {cubic}   : ((chainOpen s i t target cubic)).ts = State.ts s := ts_of (fun _ hk => keep_chainOpen hk) rfl
@[simp] theorem get_chainTarget {s} {i} {t} {raw}   {rq iq} (hq : Nat.testBit 0xfe0000000000000000000040000000000000000000000000000000000000000000000000000000000000000000000000000000000000000000000000000000001022000000000000300022b00000 (Reg.ctorIdx rq) = false) : ((chainTarget s i t raw)).get rq iq = State.get s rq iq :=
  reg_of iq (fun _ hk => keep_chainTarget hk) rfl rfl rfl hq
@[simp] theorem dv_chainTarget {s} {i} {t} {raw}   {rq iq} (hq : Nat.testBit 0x0 (Reg.ctorIdx rq) = false) : ((chainTarget s i t raw)).dv rq iq = State.dv s rq iq :=
  dev_of iq (fun _ hk => keep_chainTarget hk) rfl rfl rfl hq
@[simp] theorem ts_chainTarget {s} {i} {t} {raw}   : ((chainTarget s i t raw)).ts = State.ts s := ts_of (fun _ hk => keep_chainTarget hk) rfl
@[simp] theorem get_chainVelocity {s} {i} {t} {raw}   {rq iq} (hq : Nat.testBit 0xe20000000000000000000000000000000000000000000000000000000000000000000000000000000000000000000000000000000000000000000000000000000040000000000000000000000000 (Reg.ctorIdx rq) = false) : ((chainVelocity s i t raw)).get rq iq = State.get s rq iq :=
  reg_of iq (fun _ hk => keep_chainVelocity hk) rfl rfl rfl hq
@[simp] theorem dv_chainVelocity {s} {i} {t} {raw}   {rq iq} (hq : Nat.testBit 0x0 (Reg.ctorIdx rq) = false) : ((chainVelocity s i t raw)).dv rq iq = State.dv s rq iq :=
  dev_of iq (fun _ hk => keep_chainVelocity hk) rfl rfl rfl hq
@[simp] theorem se_chainVelocity {xq : State} {s} {i} {t} {raw}   : SameEvents xq ((chainVelocity s i t raw)) ↔ SameEvents xq s := se_of (fun _ hk => keep_chainVelocity hk) rfl
@[simp] theorem ts_chainVelocity {s} {i} {t} {raw}   : ((chainVelocity s i t raw)).ts = State.ts s := ts_of (fun _ hk => keep_chainVelocity hk) rfl
@[simp] theorem get_chainStop {s} {i} {te} {h}   {rq iq} (hq : Nat.testBit 0x200000001c590040c000040000000000000000000000000000000000000000000000000000000000000000000000000000000000000000000000000008000000000c80100000200300022b80000 (Reg.ctorIdx rq) = false) : ((chainStop s i te h)).get rq iq = State.get s rq iq :=
  reg_of iq (fun _ hk => keep_chainStop hk) rfl rfl rfl hq
@[simp] theorem dv_chainStop {s} {i} {te} {h}   {rq iq} (hq : Nat.testBit 0x408000000000000000000000000000000000000000000000000000000000000000000000000000000000000000000000000000000000000000000000000000300000000000000000000000000 (Reg.ctorIdx rq) = false) : ((chainStop s i te h)).dv rq iq = State.dv s rq iq :=
  dev_of iq (fun _ hk => keep_chainStop hk) rfl rfl rfl hq
@[simp] theorem ts_chainStop {s} {i} {te} {h}   : ((chainStop s i te h)).ts = State.ts s := ts_of (fun _ hk => keep_chainStop hk) rfl
@[simp] theorem get_chainRunsOut {s} {i} {te} {h}   {rq iq} (hq : Nat.testBit 0x16200000001c590040c000040000000000000000000000000000000000000000000000000000000000000000000000000000000000000000000000000008000001000c80100000200300022b80000 (Reg.ctorIdx rq) = false) : ((chainRunsOut s i te h)).get rq iq = State.get s rq iq :=
  reg_of iq (fun _ hk => keep_chainRunsOut hk) rfl rfl rfl hq
@[simp] theorem dv_chainRunsOut {s} {i} {te} {h}   {rq iq} (hq : Nat.testBit 0x408000000000000000000000000000000000000000000000000000000000000000000000000000000000000000000000000000000000000000000000000000300000000000000000000000000 (Reg.ctorIdx rq) = false) : ((chainRunsOut s i te h)).dv rq iq = State.dv s rq iq :=
  dev_of iq (fun _ hk => keep_chainRunsOut hk) rfl rfl rfl hq
@[simp] theorem ts_chainRunsOut {s} {i} {te} {h}   : ((chainRunsOut s i te h)).ts = State.ts s := ts_of (fun _ hk => keep_chainRunsOut hk) rfl
@[simp] theorem get_chainUpdate {s} {i} {te}   {rq iq} (hq : Nat.testBit 0x16200000001c590040c000040000000000000000000000000000000000000000000000000000000000000000000000000000000000000000000000000008000001000c80100000200300022b80000 (Reg.ctorIdx rq) = false) : ((chainUpdate s i te)).get rq iq = State.get s rq iq :=
  reg_of iq (fun _ hk => keep_chainUpdate hk) rfl rfl rfl hq
@[simp] theorem dv_chainUpdate {s} {i} {te}   {rq iq} (hq : Nat.testBit 0x408000000000000000000000000000000000000000000000000000000000000000000000000000000000000000000000000000000000000000000000000000300000000000000000000000000 (Reg.ctorIdx rq) = false) : ((chainUpdate s i te)).dv rq iq = State.dv s rq iq :=
  dev_of iq (fun _ hk => keep_chainUpdate hk) rfl rfl rfl hq
@[simp] theorem ts_chainUpdate {s} {i} {te}   : ((chainUpdate s i te)).ts = State.ts s := ts_of (fun _ hk => keep_chainUpdate hk) rfl
@[simp] theorem get_followReference {s} {i}   {rq iq} (hq : Nat.testBit 0x300000000000000000000000000000000000000000000000000000000000000000000000000000000000000000000000000000000000000000000000000000000000000000000000000000000000000 (Reg.ctorIdx rq) = false) : ((followReference s i)).get rq iq = State.get s rq iq :=
  reg_of iq (fun _ hk => keep_followReference hk) rfl rfl rfl hq
@[simp] theorem dv_followReference {s} {i}   {rq iq} (hq : Nat.testBit 0x0 (Reg.ctorIdx rq) = false) : ((followReference s i)).dv rq iq = State.dv s rq iq :=
  dev_of iq (fun _ hk => keep_followReference hk) rfl rfl rfl hq
@[simp] theorem se_followReference {xq : State} {s} {i}   : SameEvents xq ((followReference s i)) ↔ SameEvents xq s := se_of (fun _ hk => keep_followReference hk) rfl
@[simp] theorem ts_followReference {s} {i}   : ((followReference s i)).ts = State.ts s := ts_of (fun _ hk => keep_followReference hk) rfl
@[simp] theorem get_enterFollow {s} {i}   {rq iq} (hq : Nat.testBit 0x300000000000000000000000000000000000000000000000000000000000000000000000000000000000000000000000000000000000000000000000000008000000000000000000000000000000000 (Reg.ctorIdx rq) = false) : ((enterFollow s i)).get rq iq = State.get s rq iq :=
  reg_of iq (fun _ hk => keep_enterFollow hk) rfl rfl rfl hq
@[simp] theorem dv_enterFollow {s} {i}   {rq iq} (hq : Nat.testBit 0x0 (Reg.ctorIdx rq) = false) : ((enterFollow s i)).dv rq iq = State.dv s rq iq :=
  dev_of iq (fun _ hk => keep_enterFollow hk) rfl rfl rfl hq
@[simp] theorem se_enterFollow {xq : State} {s} {i}   : SameEvents xq ((enterFollow s i)) ↔ SameEvents xq s := se_of (fun _ hk => keep_enterFollow hk) rfl
@[simp] theorem ts_enterFollow {s} {i}   : ((enterFollow s i)).ts = State.ts s := ts_of (fun _ hk => keep_enterFollow hk) rfl
@[simp] theorem get_followUpdate {s} {i} {te}   {rq iq} (hq : Nat.testBit 0x4000000000000000000000000000000000000000000000000000000000000002000000010180040c000040000000000000000000000000000000000000000000000000000000000000000000000000000000000000000000000000008000000080c80100000200300022b80000 (Reg.ctorIdx rq) = false) : ((followUpdate s i te)).get rq iq = State.get s rq iq :=
  reg_of iq (fun _ hk => keep_followUpdate hk) rfl rfl rfl hq
@[simp] theorem dv_followUpdate {s} {i} {te}   {rq iq} (hq : Nat.testBit 0x300000000000000000000000000 (Reg.ctorIdx rq) = false) : ((followUpdate s i te)).dv rq iq = State.dv s rq iq :=
  dev_of iq (fun _ hk => keep_followUpdate hk) rfl rfl rfl hq
@[simp] theorem ts_followUpdate {s} {i} {te}   : ((followUpdate s i te)).ts = State.ts s := ts_of (fun _ hk => keep_followUpdate hk) rfl
@[simp] theorem get_planToTarget {s} {i} {te} {a0} {again}   {rq iq} (hq : Nat.testBit 0x400000000000000000000000 (Reg.ctorIdx rq) = false) : ((planToTarget s i te a0 again)).get rq iq = State.get s rq iq :=
  reg_of iq (fun _ hk => keep_planToTarget hk) rfl rfl rfl hq
@[simp] theorem dv_planToTarget {s} {i} {te} {a0} {again}   {rq iq} (hq : Nat.testBit 0x0 (Reg.ctorIdx rq) = false) : ((planToTarget s i te a0 again)).dv rq iq = State.dv s rq iq :=
  dev_of iq (fun _ hk => keep_planToTarget hk) rfl rfl rfl hq
@[simp] theorem se_planToTarget {xq : State} {s} {i} {te} {a0} {again}   : SameEvents xq ((planToTarget s i te a0 again)) ↔ SameEvents xq s := se_of (fun _ hk => keep_planToTarget hk) rfl
@[simp] theorem ts_planToTarget {s} {i} {te} {a0} {again}   : ((planToTarget s i te a0 again)).ts = State.ts s := ts_of (fun _ hk => keep_planToTarget hk) rfl
@[simp] theorem get_planVelocity {s} {i} {te} {a0}   {rq iq} (hq : Nat.testBit 0x1000000000000000000000000000000000000000000000000000000000000000000000000000000000000000000000000000000000000000000000000400000000000000000000000 (Reg.ctorIdx rq) = false) : ((planVelocity s i te a0)).get rq iq = State.get s rq iq :=
  reg_of iq (fun _ hk => keep_planVelocity hk) rfl rfl rfl hq
@[simp] theorem dv_planVelocity {s} {i} {te} {a0}   {rq iq} (hq : Nat.testBit 0x0 (Reg.ctorIdx rq) = false) : ((planVelocity s i te a0)).dv rq iq = State.dv s rq iq :=
  dev_of iq (fun _ hk => keep_planVelocity hk) rfl rfl rfl hq
@[simp] theorem se_planVelocity {xq : State} {s} {i} {te} {a0}   : SameEvents xq ((planVelocity s i te a0)) ↔ SameEvents xq s := se_of (fun _ hk => keep_planVelocity hk) rfl
@[simp] theorem ts_planVelocity {s} {i} {te} {a0}   : ((planVelocity s i te a0)).ts = State.ts s := ts_of (fun _ hk => keep_planVelocity hk) rfl
@[simp] theorem get_watchLimit {s} {i} {te}   {rq iq} (hq : Nat.testBit 0x1000000000040000000000000000000000000000000000000000000000000000000000000000000000000000000000000000000000000000000000000400000100000300022b00000 (Reg.ctorIdx rq) = false) : ((watchLimit s i te)).get rq iq = State.get s rq iq :=
  reg_of iq (fun _ hk => keep_watchLimit hk) rfl rfl rfl hq
@[simp] theorem dv_watchLimit {s} {i} {te}   {rq iq} (hq : Nat.testBit 0x0 (Reg.ctorIdx rq) = false) : ((watchLimit s i te)).dv rq iq = State.dv s rq iq :=
  dev_of iq (fun _ hk => keep_watchLimit hk) rfl rfl rfl hq
@[simp] theorem ts_watchLimit {s} {i} {te}   : ((watchLimit s i te)).ts = State.ts s := ts_of (fun _ hk => keep_watchLimit hk) rfl
@[simp] theorem get_planDone {s} {i} {te}   {rq iq} (hq : Nat.testBit 0x1c6100000000000000000000000000000000000000000000000000000000000000000000000000000000000000000000000000000000000008000000000400000000200000000000000 (Reg.ctorIdx rq) = false) : ((planDone s i te)).get rq iq = State.get s rq iq :=
  reg_of iq (fun _ hk => keep_planDone hk) rfl rfl rfl hq
@[simp] theorem dv_planDone {s} {i} {te}   {rq iq} (hq : Nat.testBit 0x408000000000000000000000000000000000000000000000000000000000000000000000000000000000000000000000000000000000000000000000000000000000000000000000000000000 (Reg.ctorIdx rq) = false) : ((planDone s i te)).dv rq iq = State.dv s rq iq :=
  dev_of iq (fun _ hk => keep_planDone hk) rfl rfl rfl hq
@[simp] theorem se_planDone {xq : State} {s} {i} {te}   : SameEvents xq ((planDone s i te)) ↔ SameEvents xq s := se_of (fun _ hk => keep_planDone hk) rfl
@[simp] theorem ts_planDone {s} {i} {te}   : ((planDone s i te)).ts = State.ts s := ts_of (fun _ hk => keep_planDone hk) rfl
@[simp] theorem get_homingReplan {s} {i} {te} {changed}   {rq iq} (hq : Nat.testBit 0x4000000000000000000000000000000000000000000000000000000000000000000000000000000000000000000000000000000000000000000000000000000000000000400000000000000000000000 (Reg.ctorIdx rq) = false) : ((homingReplan s i te changed)).get rq iq = State.get s rq iq :=
  reg_of iq (fun _ hk => keep_homingReplan hk) rfl rfl rfl hq
@[simp] theorem dv_homingReplan {s} {i} {te} {changed}   {rq iq} (hq : Nat.testBit 0x0 (Reg.ctorIdx rq) = false) : ((homingReplan s i te changed)).dv rq iq = State.dv s rq iq :=
  dev_of iq (fun _ hk => keep_homingReplan hk) rfl rfl rfl hq
@[simp] theorem se_homingReplan {xq : State} {s} {i} {te} {changed}   : SameEvents xq ((homingReplan s i te changed)) ↔ SameEvents xq s := se_of (fun _ hk => keep_homingReplan hk) rfl
@[simp] theorem ts_homingReplan {s} {i} {te} {changed}   : ((homingReplan s i te changed)).ts = State.ts s := ts_of (fun _ hk => keep_homingReplan hk) rfl
@[simp] theorem get_takeOver {s} {i} {te} {a0}   {rq iq} (hq : Nat.testBit 0x1c00000000000000000000000000000000000000000000000000000000000000000000000000000000000000000000000000000000000000000000000400000000000000000000000 (Reg.ctorIdx rq) = false) : ((takeOver s i te a0)).get rq iq = State.get s rq iq :=
  reg_of iq (fun _ hk => keep_takeOver hk) rfl rfl rfl hq
@[simp] theorem dv_takeOver {s} {i} {te} {a0}   {rq iq} (hq : Nat.testBit 0x0 (Reg.ctorIdx rq) = false) : ((takeOver s i te a0)).dv rq iq = State.dv s rq iq :=
  dev_of iq (fun _ hk => keep_takeOver hk) rfl rfl rfl hq
@[simp] theorem se_takeOver {xq : State} {s} {i} {te} {a0}   : SameEvents xq ((takeOver s i te a0)) ↔ SameEvents xq s := se_of (fun _ hk => keep_takeOver hk) rfl
@[simp] theorem ts_takeOver {s} {i} {te} {a0}   : ((takeOver s i te a0)).ts = State.ts s := ts_of (fun _ hk => keep_takeOver hk) rfl
@[simp] theorem get_replan {s} {i} {te} {before} {a0}   {rq iq} (hq : Nat.testBit 0x4000000000000043c00000000040000000000000000000000000000000000000000000000000000000000000000000000000000000000000000000000000000000000000400000100000300022b00000 (Reg.ctorIdx rq) = false) : ((replan s i te before a0)).get rq iq = State.get s rq iq :=
  reg_of iq (fun _ hk => keep_replan hk) rfl rfl rfl hq
@[simp] theorem dv_replan {s} {i} {te} {before} {a0}   {rq iq} (hq : Nat.testBit 0x408000000000000000000000000000000000000000000000000000000000000000000000000000000000000000000000000000000000000000000000000000000000000000000000000000000 (Reg.ctorIdx rq) = false) : ((replan s i te before a0)).dv rq iq = State.dv s rq iq :=
  dev_of iq (fun _ hk => keep_replan hk) rfl rfl rfl hq
@[simp] theorem ts_replan {s} {i} {te} {before} {a0}   : ((replan s i te before a0)).ts = State.ts s := ts_of (fun _ hk => keep_replan hk) rfl
@[simp] theorem get_latchTol {s} {i} {t} {actual}   {rq iq} (hq : Nat.testBit 0x0 (Reg.ctorIdx rq) = false) : ((latchTol s i t actual)).get rq iq = State.get s rq iq :=
  reg_of iq (fun _ hk => keep_latchTol hk) rfl rfl rfl hq
@[simp] theorem dv_latchTol {s} {i} {t} {actual}   {rq iq} (hq : Nat.testBit 0x0 (Reg.ctorIdx rq) = false) : ((latchTol s i t actual)).dv rq iq = State.dv s rq iq :=
  dev_of iq (fun _ hk => keep_latchTol hk) rfl rfl rfl hq
@[simp] theorem se_latchTol {xq : State} {s} {i} {t} {actual}   : SameEvents xq ((latchTol s i t actual)) ↔ SameEvents xq s := se_of (fun _ hk => keep_latchTol hk) rfl
@[simp] theorem ts_latchTol {s} {i} {t} {actual}   : ((latchTol s i t actual)).ts = State.ts s := ts_of (fun _ hk => keep_latchTol hk) rfl
@[simp] theorem get_judgeLatch {s} {i} {te} {endPos} {a}   {rq iq} (hq : Nat.testBit 0x2000000010180040c000040000000000000000000000000000000000000000000000000000000000000000000000000000000000000000000000000008000000000c80100800200300022b80000 (Reg.ctorIdx rq) = false) : ((judgeLatch s i te endPos a)).get rq iq = State.get s rq iq :=
  reg_of iq (fun _ hk => keep_judgeLatch hk) rfl rfl rfl hq
@[simp] theorem dv_judgeLatch {s} {i} {te} {endPos} {a}   {rq iq} (hq : Nat.testBit 0x300000000000000000000000000 (Reg.ctorIdx rq) = false) : ((judgeLatch s i te endPos a)).dv rq iq = State.dv s rq iq :=
  dev_of iq (fun _ hk => keep_judgeLatch hk) rfl rfl rfl hq
@[simp] theorem ts_judgeLatch {s} {i} {te} {endPos} {a}   : ((judgeLatch s i te endPos a)).ts = State.ts s := ts_of (fun _ hk => keep_judgeLatch hk) rfl
@[simp] theorem get_judgeTol {s} {i} {te}   {rq iq} (hq : Nat.testBit 0x2000000010180040c000040000000000000000000000000000000000000000000000000000000000000000000000000000000000000000000000000008000000000c80100800200300022b80000 (Reg.ctorIdx rq) = false) : ((judgeTol s i te)).get rq iq = State.get s rq iq :=
  reg_of iq (fun _ hk => keep_judgeTol hk) rfl rfl rfl hq
@[simp] theorem dv_judgeTol {s} {i} {te}   {rq iq} (hq : Nat.testBit 0x300000000000000000000000000 (Reg.ctorIdx rq) = false) : ((judgeTol s i te)).dv rq iq = State.dv s rq iq :=
  dev_of iq (fun _ hk => keep_judgeTol hk) rfl rfl rfl hq
@[simp] theorem ts_judgeTol {s} {i} {te}   : ((judgeTol s i te)).ts = State.ts s := ts_of (fun _ hk => keep_judgeTol hk) rfl
@[simp] theorem get_encoderTol {s} {i} {te}   {rq iq} (hq : Nat.testBit 0x2000000010180040c000040000000000000000000000000000000000000000000000000000000000000000000000000000000000000000000000000008000000000c80100800200300022b80000 (Reg.ctorIdx rq) = false) : ((encoderTol s i te)).get rq iq = State.get s rq iq :=
  reg_of iq (fun _ hk => keep_encoderTol hk) rfl rfl rfl hq
@[simp] theorem dv_encoderTol {s} {i} {te}   {rq iq} (hq : Nat.testBit 0x300000000000000000000000000 (Reg.ctorIdx rq) = false) : ((encoderTol s i te)).dv rq iq = State.dv s rq iq :=
  dev_of iq (fun _ hk => keep_encoderTol hk) rfl rfl rfl hq
@[simp] theorem ts_encoderTol {s} {i} {te}   : ((encoderTol s i te)).ts = State.ts s := ts_of (fun _ hk => keep_encoderTol hk) rfl
@[simp] theorem get_timeWindow {s} {i} {inside}   {rq iq} (hq : Nat.testBit 0xc000000000000000000000000000000000000000000000000000000000000000000000000000000000000000000000000000000000000000000000000000000000000000000000000000 (Reg.ctorIdx rq) = false) : ((timeWindow s i inside)).get rq iq = State.get s rq iq :=
  reg_of iq (fun _ hk => keep_timeWindow hk) rfl rfl rfl hq
@[simp] theorem dv_timeWindow {s} {i} {inside}   {rq iq} (hq : Nat.testBit 0x0 (Reg.ctorIdx rq) = false) : ((timeWindow s i inside)).dv rq iq = State.dv s rq iq :=
  dev_of iq (fun _ hk => keep_timeWindow hk) rfl rfl rfl hq
@[simp] theorem se_timeWindow {xq : State} {s} {i} {inside}   : SameEvents xq ((timeWindow s i inside)) ↔ SameEvents xq s := se_of (fun _ hk => keep_timeWindow hk) rfl
@[simp] theorem ts_timeWindow {s} {i} {inside}   : ((timeWindow s i inside)).ts = State.ts s := ts_of (fun _ hk => keep_timeWindow hk) rfl
@[simp] theorem get_judgeReached {s} {i}   {rq iq} (hq : Nat.testBit 0x1c000000000000000000000000000000000000000000000000000000000000000000000000000000000000000000000000000000000000000000000000000000000000000000000000000 (Reg.ctorIdx rq) = false) : ((judgeReached s i)).get rq iq = State.get s rq iq :=
  reg_of iq (fun _ hk => keep_judgeReached hk) rfl rfl rfl hq
@[simp] theorem dv_judgeReached {s} {i}   {rq iq} (hq : Nat.testBit 0x0 (Reg.ctorIdx rq) = false) : ((judgeReached s i)).dv rq iq = State.dv s rq iq :=
  dev_of iq (fun _ hk => keep_judgeReached hk) rfl rfl rfl hq
@[simp] theorem se_judgeReached {xq : State} {s} {i}   : SameEvents xq ((judgeReached s i)) ↔ SameEvents xq s := se_of (fun _ hk => keep_judgeReached hk) rfl
@[simp] theorem ts_judgeReached {s} {i}   : ((judgeReached s i)).ts = State.ts s := ts_of (fun _ hk => keep_judgeReached hk) rfl
@[simp] theorem get_takeStop {s} {i} {te} {a0}   {rq iq} (hq : Nat.testBit 0x20000000f0180040c000040000000000000000000000000000000000000000000000000000000000000000000000000000000000000000000000000008000000000c80100000200300022b80000 (Reg.ctorIdx rq) = false) : ((takeStop s i te a0)).get rq iq = State.get s rq iq :=
  reg_of iq (fun _ hk => keep_takeStop hk) rfl rfl rfl hq
@[simp] theorem dv_takeStop {s} {i} {te} {a0}   {rq iq} (hq : Nat.testBit 0x300000000000000000000000000 (Reg.ctorIdx rq) = false) : ((takeStop s i te a0)).dv rq iq = State.dv s rq iq :=
  dev_of iq (fun _ hk => keep_takeStop hk) rfl rfl rfl hq
@[simp] theorem ts_takeStop {s} {i} {te} {a0}   : ((takeStop s i te a0)).ts = State.ts s := ts_of (fun _ hk => keep_takeStop hk) rfl
@[simp] theorem get_curveAt {s} {i} {te}   {rq iq} (hq : Nat.testBit 0x400000000000000000000000000000000000000000000000000000000000016200000001c592f40c000040000000000000000000000000000000000000000000000000000000000000000000000000000000000000000000000000008000001080d80343600600300022b80000 (Reg.ctorIdx rq) = false) : ((curveAt s i te)).get rq iq = State.get s rq iq :=
  reg_of iq (fun _ hk => keep_curveAt hk) rfl rfl rfl hq
@[simp] theorem dv_curveAt {s} {i} {te}   {rq iq} (hq : Nat.testBit 0x40800000000000000000000000000000000000000000000000000000000000000000000000000000000000000000000000000000000000000000000000000030000000005e000000000000000 (Reg.ctorIdx rq) = false) : ((curveAt s i te)).dv rq iq = State.dv s rq iq :=
  dev_of iq (fun _ hk => keep_curveAt hk) rfl rfl rfl hq
@[simp] theorem ts_curveAt {s} {i} {te}   : ((curveAt s i te)).ts = State.ts s := ts_of (fun _ hk => keep_curveAt hk) rfl
@[simp] theorem get_haltFirst {s} {i} {te}   {rq iq} (hq : Nat.testBit 0x20000000f0180040c000040000000000000000000000000000000000000000000000000000000000000000000000000000000000000000000000000008000000000c80100000200300022b80000 (Reg.ctorIdx rq) = false) : ((haltFirst s i te)).get rq iq = State.get s rq iq :=
  reg_of iq (fun _ hk => keep_haltFirst hk) rfl rfl rfl hq
@[simp] theorem dv_haltFirst {s} {i} {te}   {rq iq} (hq : Nat.testBit 0x300000000000000000000000000 (Reg.ctorIdx rq) = false) : ((haltFirst s i te)).dv rq iq = State.dv s rq iq :=
  dev_of iq (fun _ hk => keep_haltFirst hk) rfl rfl rfl hq
@[simp] theorem ts_haltFirst {s} {i} {te}   : ((haltFirst s i te)).ts = State.ts s := ts_of (fun _ hk => keep_haltFirst hk) rfl
@[simp] theorem get_judgeStill {s} {i} {vBefore}   {rq iq} (hq : Nat.testBit 0x80000000000000000000000000000000000000000000000000000000000000000000000000000000000000000000000000000000000000000000000000000000000000000000000 (Reg.ctorIdx rq) = false) : ((judgeStill s i vBefore)).get rq iq = State.get s rq iq :=
  reg_of iq (fun _ hk => keep_judgeStill hk) rfl rfl rfl hq
@[simp] theorem dv_judgeStill {s} {i} {vBefore}   {rq iq} (hq : Nat.testBit 0x0 (Reg.ctorIdx rq) = false) : ((judgeStill s i vBefore)).dv rq iq = State.dv s rq iq :=
  dev_of iq (fun _ hk => keep_judgeStill hk) rfl rfl rfl hq
@[simp] theorem se_judgeStill {xq : State} {s} {i} {vBefore}   : SameEvents xq ((judgeStill s i vBefore)) ↔ SameEvents xq s := se_of (fun _ hk => keep_judgeStill hk) rfl
@[simp] theorem ts_judgeStill {s} {i} {vBefore}   : ((judgeStill s i vBefore)).ts = State.ts s := ts_of (fun _ hk => keep_judgeStill hk) rfl
@[simp] theorem get_motionUpdate {s} {i} {te}   {rq iq} (hq : Nat.testBit 0x4000000000000000000000000000000000000000000000000000000000430162000001cfc7dff47c000040000000000000000000000000000000000000000000000000000000000000000000000000000000000000000000000000008000001081d8334bf00e00300022b80000 (Reg.ctorIdx rq) = false) : ((motionUpdate s i te)).get rq iq = State.get s rq iq :=
  reg_of iq (fun _ hk => keep_motionUpdate hk) rfl rfl rfl hq
@[simp] theorem dv_motionUpdate {s} {i} {te}   {rq iq} (hq : Nat.testBit 0x187bf00000000000000000000000000000000000000000000000000000000000000000000003fc0000000000000000000000fffffffffffffffffffffffffffffffc03ffffffe00000000000ff8 (Reg.ctorIdx rq) = false) : ((motionUpdate s i te)).dv rq iq = State.dv s rq iq :=
  dev_of iq (fun _ hk => keep_motionUpdate hk) rfl rfl rfl hq
@[simp] theorem ts_motionUpdate {s} {i} {te}   : ((motionUpdate s i te)).ts = State.ts s := ts_of (fun _ hk => keep_motionUpdate hk) rfl
@[simp] theorem get_homingPhase {s} {i} {st} {positive} {req}   {rq iq} (hq : Nat.testBit 0x401c000000000000000000000000000000000000000000000000000000000000000000000000000000000000000000000000000000000000000000000000000002200000000000000000000000000000 (Reg.ctorIdx rq) = false) : ((homingPhase s i st positive req)).get rq iq = State.get s rq iq :=
  reg_of iq (fun _ hk => keep_homingPhase hk) rfl rfl rfl hq
@[simp] theorem dv_homingPhase {s} {i} {st} {positive} {req}   {rq iq} (hq : Nat.testBit 0x0 (Reg.ctorIdx rq) = false) : ((homingPhase s i st positive req)).dv rq iq = State.dv s rq iq :=
  dev_of iq (fun _ hk => keep_homingPhase hk) rfl rfl rfl hq
@[simp] theorem se_homingPhase {xq : State} {s} {i} {st} {positive} {req}   : SameEvents xq ((homingPhase s i st positive req)) ↔ SameEvents xq s := se_of (fun _ hk => keep_homingPhase hk) rfl
@[simp] theorem ts_homingPhase {s} {i} {st} {positive} {req}   : ((homingPhase s i st positive req)).ts = State.ts s := ts_of (fun _ hk => keep_homingPhase hk) rfl
@[simp] theorem get_homingSettle {s} {i}   {rq iq} (hq : Nat.testBit 0x8000000000000000000000000000000000000000000000000000000000000000000000000000000000000000000000000000000000000000000000000000000200000000000000000000000000000 (Reg.ctorIdx rq) = false) : ((homingSettle s i)).get rq iq = State.get s rq iq :=
  reg_of iq (fun _ hk => keep_homingSettle hk) rfl rfl rfl hq
@[simp] theorem dv_homingSettle {s} {i}   {rq iq} (hq : Nat.testBit 0x0 (Reg.ctorIdx rq) = false) : ((homingSettle s i)).dv rq iq = State.dv s rq iq :=
  dev_of iq (fun _ hk => keep_homingSettle hk) rfl rfl rfl hq
@[simp] theorem se_homingSettle {xq : State} {s} {i}   : SameEvents xq ((homingSettle s i)) ↔ SameEvents xq s := se_of (fun _ hk => keep_homingSettle hk) rfl
@[simp] theorem ts_homingSettle {s} {i}   : ((homingSettle s i)).ts = State.ts s := ts_of (fun _ hk => keep_homingSettle hk) rfl
@[simp] theorem get_homingFail {s} {i} {code}   {rq iq} (hq : Nat.testBit 0x4080000000000e00000000000040000000000000000000000000000000000000000000000000000000000000000000000000000000000000000000000000000000e00000000000000000300022b00000 (Reg.ctorIdx rq) = false) : ((homingFail s i code)).get rq iq = State.get s rq iq :=
  reg_of iq (fun _ hk => keep_homingFail hk) rfl rfl rfl hq
@[simp] theorem dv_homingFail {s} {i} {code}   {rq iq} (hq : Nat.testBit 0x0 (Reg.ctorIdx rq) = false) : ((homingFail s i code)).dv rq iq = State.dv s rq iq :=
  dev_of iq (fun _ hk => keep_homingFail hk) rfl rfl rfl hq
@[simp] theorem ts_homingFail {s} {i} {code}   : ((homingFail s i code)).ts = State.ts s := ts_of (fun _ hk => keep_homingFail hk) rfl
@[simp] theorem get_shiftCoordinate {s} {i} {d}   {rq iq} (hq : Nat.testBit 0x2080c00000000081001a4000000000000000000000000000000000000000000000000000000800000000000000000000000000000040000000000000000000000000000001000000000000000000000 (Reg.ctorIdx rq) = false) : ((shiftCoordinate s i d)).get rq iq = State.get s rq iq :=
  reg_of iq (fun _ hk => keep_shiftCoordinate hk) rfl rfl rfl hq
@[simp] theorem dv_shiftCoordinate {s} {i} {d}   {rq iq} (hq : Nat.testBit 0x0 (Reg.ctorIdx rq) = false) : ((shiftCoordinate s i d)).dv rq iq = State.dv s rq iq :=
  dev_of iq (fun _ hk => keep_shiftCoordinate hk) rfl rfl rfl hq
@[simp] theorem se_shiftCoordinate {xq : State} {s} {i} {d}   : SameEvents xq ((shiftCoordinate s i d)) ↔ SameEvents xq s := se_of (fun _ hk => keep_shiftCoordinate hk) rfl
@[simp] theorem ts_shiftCoordinate {s} {i} {d}   : ((shiftCoordinate s i d)).ts = State.ts s := ts_of (fun _ hk => keep_shiftCoordinate hk) rfl
@[simp] theorem get_homingReference {s} {i} {latched}   {rq iq} (hq : Nat.testBit 0x2280c00000000081001a4000000000000000000000000000000000000000000000000000000800000000000000000000000000000040000000000000000000008000000001000000000000000000000 (Reg.ctorIdx rq) = false) : ((homingReference s i latched)).get rq iq = State.get s rq iq :=
  reg_of iq (fun _ hk => keep_homingReference hk) rfl rfl rfl hq
@[simp] theorem dv_homingReference {s} {i} {latched}   {rq iq} (hq : Nat.testBit 0x0 (Reg.ctorIdx rq) = false) : ((homingReference s i latched)).dv rq iq = State.dv s rq iq :=
  dev_of iq (fun _ hk => keep_homingReference hk) rfl rfl rfl hq
@[simp] theorem se_homingReference {xq : State} {s} {i} {latched}   : SameEvents xq ((homingReference s i latched)) ↔ SameEvents xq s := se_of (fun _ hk => keep_homingReference hk) rfl
@[simp] theorem ts_homingReference {s} {i} {latched}   : ((homingReference s i latched)).ts = State.ts s := ts_of (fun _ hk => keep_homingReference hk) rfl
@[simp] theorem get_homingAttained {s} {i}   {rq iq} (hq : Nat.testBit 0x40000000000000300000000040000000000000000000000000000000000000000000000000000000000000000000000000000000000000000000000000000000a00000000000000000300022b00000 (Reg.ctorIdx rq) = false) : ((homingAttained s i)).get rq iq = State.get s rq iq :=
  reg_of iq (fun _ hk => keep_homingAttained hk) rfl rfl rfl hq
@[simp] theorem dv_homingAttained {s} {i}   {rq iq} (hq : Nat.testBit 0x0 (Reg.ctorIdx rq) = false) : ((homingAttained s i)).dv rq iq = State.dv s rq iq :=
  dev_of iq (fun _ hk => keep_homingAttained hk) rfl rfl rfl hq
@[simp] theorem ts_homingAttained {s} {i}   : ((homingAttained s i)).ts = State.ts s := ts_of (fun _ hk => keep_homingAttained hk) rfl
@[simp] theorem get_homingStart {s} {i}   {rq iq} (hq : Nat.testBit 0x42fe0c0000000e083001a400004000000000000000000000000000000000000000000000000080000000000000000000000000000004000000000000000000000ae00000001000000000300022b00000 (Reg.ctorIdx rq) = false) : ((homingStart s i)).get rq iq = State.get s rq iq :=
  reg_of iq (fun _ hk => keep_homingStart hk) rfl rfl rfl hq
@[simp] theorem dv_homingStart {s} {i}   {rq iq} (hq : Nat.testBit 0x1f5000000000000000000000000000000 (Reg.ctorIdx rq) = false) : ((homingStart s i)).dv rq iq = State.dv s rq iq :=
  dev_of iq (fun _ hk => keep_homingStart hk) rfl rfl rfl hq
@[simp] theorem ts_homingStart {s} {i}   : ((homingStart s i)).ts = State.ts s := ts_of (fun _ hk => keep_homingStart hk) rfl
@[simp] theorem get_homingEdge {s} {i} {sw} {active} {t} {encoderAt}   {rq iq} (hq : Nat.testBit 0x423c0c00000000081001a400000000000000000000000000000000000000000000000000000080000000000000000000000000000004000000000000000000000a200000001000000000000000000000 (Reg.ctorIdx rq) = false) : ((homingEdge s i sw active t encoderAt)).get rq iq = State.get s rq iq :=
  reg_of iq (fun _ hk => keep_homingEdge hk) rfl rfl rfl hq
@[simp] theorem dv_homingEdge {s} {i} {sw} {active} {t} {encoderAt}   {rq iq} (hq : Nat.testBit 0x0 (Reg.ctorIdx rq) = false) : ((homingEdge s i sw active t encoderAt)).dv rq iq = State.dv s rq iq :=
  dev_of iq (fun _ hk => keep_homingEdge hk) rfl rfl rfl hq
@[simp] theorem se_homingEdge {xq : State} {s} {i} {sw} {active} {t} {encoderAt}   : SameEvents xq ((homingEdge s i sw active t encoderAt)) ↔ SameEvents xq s := se_of (fun _ hk => keep_homingEdge hk) rfl
@[simp] theorem ts_homingEdge {s} {i} {sw} {active} {t} {encoderAt}   : ((homingEdge s i sw active t encoderAt)).ts = State.ts s := ts_of (fun _ hk => keep_homingEdge hk) rfl
@[simp] theorem get_homingIndex {s} {i} {isIndex} {encoderAt}   {rq iq} (hq : Nat.testBit 0x42380c00000000081001a400000000000000000000000000000000000000000000000000000080000000000000000000000000000004000000000000000000000a200000001000000000000000000000 (Reg.ctorIdx rq) = false) : ((homingIndex s i isIndex encoderAt)).get rq iq = State.get s rq iq :=
  reg_of iq (fun _ hk => keep_homingIndex hk) rfl rfl rfl hq
@[simp] theorem dv_homingIndex {s} {i} {isIndex} {encoderAt}   {rq iq} (hq : Nat.testBit 0x0 (Reg.ctorIdx rq) = false) : ((homingIndex s i isIndex encoderAt)).dv rq iq = State.dv s rq iq :=
  dev_of iq (fun _ hk => keep_homingIndex hk) rfl rfl rfl hq
@[simp] theorem se_homingIndex {xq : State} {s} {i} {isIndex} {encoderAt}   : SameEvents xq ((homingIndex s i isIndex encoderAt)) ↔ SameEvents xq s := se_of (fun _ hk => keep_homingIndex hk) rfl
@[simp] theorem ts_homingIndex {s} {i} {isIndex} {encoderAt}   : ((homingIndex s i isIndex encoderAt)).ts = State.ts s := ts_of (fun _ hk => keep_homingIndex hk) rfl
@[simp] theorem get_homingStall {s} {i}   {rq iq} (hq : Nat.testBit 0x42f80c00000000081001ec000000000000000000000000000000000000000000000000000000800000000000000000000000000000040000000000000000000008200000403000000000000000000000 (Reg.ctorIdx rq) = false) : ((homingStall s i)).get rq iq = State.get s rq iq :=
  reg_of iq (fun _ hk => keep_homingStall hk) rfl rfl rfl hq
@[simp] theorem dv_homingStall {s} {i}   {rq iq} (hq : Nat.testBit 0x0 (Reg.ctorIdx rq) = false) : ((homingStall s i)).dv rq iq = State.dv s rq iq :=
  dev_of iq (fun _ hk => keep_homingStall hk) rfl rfl rfl hq
@[simp] theorem se_homingStall {xq : State} {s} {i}   : SameEvents xq ((homingStall s i)) ↔ SameEvents xq s := se_of (fun _ hk => keep_homingStall hk) rfl
@[simp] theorem ts_homingStall {s} {i}   : ((homingStall s i)).ts = State.ts s := ts_of (fun _ hk => keep_homingStall hk) rfl
@[simp] theorem get_homingStill {s} {i}   {rq iq} (hq : Nat.testBit 0x405c000000000000300000000040000000000000000000000000000000000000000000000000000000000000000000000000000000000000000000000000000002a00000000000000000300022b00000 (Reg.ctorIdx rq) = false) : ((homingStill s i)).get rq iq = State.get s rq iq :=
  reg_of iq (fun _ hk => keep_homingStill hk) rfl rfl rfl hq
@[simp] theorem dv_homingStill {s} {i}   {rq iq} (hq : Nat.testBit 0x0 (Reg.ctorIdx rq) = false) : ((homingStill s i)).dv rq iq = State.dv s rq iq :=
  dev_of iq (fun _ hk => keep_homingStill hk) rfl rfl rfl hq
@[simp] theorem ts_homingStill {s} {i}   : ((homingStill s i)).ts = State.ts s := ts_of (fun _ hk => keep_homingStill hk) rfl
@[simp] theorem get_homingAbort {s} {i}   {rq iq} (hq : Nat.testBit 0x4080000000000e00000000000040000000000000000000000000000000000000000000000000000000000000000000000000000000000000000000000000000000e00000000000000000300022b00000 (Reg.ctorIdx rq) = false) : ((homingAbort s i)).get rq iq = State.get s rq iq :=
  reg_of iq (fun _ hk => keep_homingAbort hk) rfl rfl rfl hq
@[simp] theorem dv_homingAbort {s} {i}   {rq iq} (hq : Nat.testBit 0x0 (Reg.ctorIdx rq) = false) : ((homingAbort s i)).dv rq iq = State.dv s rq iq :=
  dev_of iq (fun _ hk => keep_homingAbort hk) rfl rfl rfl hq
@[simp] theorem ts_homingAbort {s} {i}   : ((homingAbort s i)).ts = State.ts s := ts_of (fun _ hk => keep_homingAbort hk) rfl
@[simp] theorem get_unhome {s} {i}   {rq iq} (hq : Nat.testBit 0x800000000000000000000000000000 (Reg.ctorIdx rq) = false) : ((unhome s i)).get rq iq = State.get s rq iq :=
  reg_of iq (fun _ hk => keep_unhome hk) rfl rfl rfl hq
@[simp] theorem dv_unhome {s} {i}   {rq iq} (hq : Nat.testBit 0x0 (Reg.ctorIdx rq) = false) : ((unhome s i)).dv rq iq = State.dv s rq iq :=
  dev_of iq (fun _ hk => keep_unhome hk) rfl rfl rfl hq
@[simp] theorem se_unhome {xq : State} {s} {i}   : SameEvents xq ((unhome s i)) ↔ SameEvents xq s := se_of (fun _ hk => keep_unhome hk) rfl
@[simp] theorem ts_unhome {s} {i}   : ((unhome s i)).ts = State.ts s := ts_of (fun _ hk => keep_unhome hk) rfl
@[simp] theorem get_refreshAct {s} {c}   {rq iq} (hq : Nat.testBit 0x800000000000000000000000000000000000000000000000000000000000000000000000000000000000 (Reg.ctorIdx rq) = false) : ((refreshAct s c)).get rq iq = State.get s rq iq :=
  reg_of iq (fun _ hk => keep_refreshAct hk) rfl rfl rfl hq
@[simp] theorem dv_refreshAct {s} {c}   {rq iq} (hq : Nat.testBit 0x0 (Reg.ctorIdx rq) = false) : ((refreshAct s c)).dv rq iq = State.dv s rq iq :=
  dev_of iq (fun _ hk => keep_refreshAct hk) rfl rfl rfl hq
@[simp] theorem se_refreshAct {xq : State} {s} {c}   : SameEvents xq ((refreshAct s c)) ↔ SameEvents xq s := se_of (fun _ hk => keep_refreshAct hk) rfl
@[simp] theorem ts_refreshAct {s} {c}   : ((refreshAct s c)).ts = State.ts s := ts_of (fun _ hk => keep_refreshAct hk) rfl
@[simp] theorem get_unalign {s} {c}   {rq iq} (hq : Nat.testBit 0x2000000000000000000000000000000000000000000000000000000000000000000000000000000000000 (Reg.ctorIdx rq) = false) : ((unalign s c)).get rq iq = State.get s rq iq :=
  reg_of iq (fun _ hk => keep_unalign hk) rfl rfl rfl hq
@[simp] theorem dv_unalign {s} {c}   {rq iq} (hq : Nat.testBit 0x0 (Reg.ctorIdx rq) = false) : ((unalign s c)).dv rq iq = State.dv s rq iq :=
  dev_of iq (fun _ hk => keep_unalign hk) rfl rfl rfl hq
@[simp] theorem se_unalign {xq : State} {s} {c}   : SameEvents xq ((unalign s c)) ↔ SameEvents xq s := se_of (fun _ hk => keep_unalign hk) rfl
@[simp] theorem ts_unalign {s} {c}   : ((unalign s c)).ts = State.ts s := ts_of (fun _ hk => keep_unalign hk) rfl
@[simp] theorem get_ratioDevelop {s} {c}   {rq iq} (hq : Nat.testBit 0x2800000000000000000000000000000000000000000000000000000000000000000000000000000000000 (Reg.ctorIdx rq) = false) : ((ratioDevelop s c)).get rq iq = State.get s rq iq :=
  reg_of iq (fun _ hk => keep_ratioDevelop hk) rfl rfl rfl hq
@[simp] theorem dv_ratioDevelop {s} {c}   {rq iq} (hq : Nat.testBit 0x100000000000000000000000000000000000000000000000000000000000000000000000000000000000 (Reg.ctorIdx rq) = false) : ((ratioDevelop s c)).dv rq iq = State.dv s rq iq :=
  dev_of iq (fun _ hk => keep_ratioDevelop hk) rfl rfl rfl hq
@[simp] theorem se_ratioDevelop {xq : State} {s} {c}   : SameEvents xq ((ratioDevelop s c)) ↔ SameEvents xq s := se_of (fun _ hk => keep_ratioDevelop hk) rfl
@[simp] theorem ts_ratioDevelop {s} {c}   : ((ratioDevelop s c)).ts = State.ts s := ts_of (fun _ hk => keep_ratioDevelop hk) rfl
@[simp] theorem get_developDisabled {s} {i}   {rq iq} (hq : Nat.testBit 0x8000000000000000000000000000000000000000000000000000000000000000000000000000000000000000000000000000000000000000000000000000000000000000000000000000000000000000000000000000000000000000000000080000000000000000000000000000000000 (Reg.ctorIdx rq) = false) : ((developDisabled s i)).get rq iq = State.get s rq iq :=
  reg_of iq (fun _ hk => keep_developDisabled hk) rfl rfl rfl hq
@[simp] theorem dv_developDisabled {s} {i}   {rq iq} (hq : Nat.testBit 0x1e00060000000000000000000000000000000000 (Reg.ctorIdx rq) = false) : ((developDisabled s i)).dv rq iq = State.dv s rq iq :=
  dev_of iq (fun _ hk => keep_developDisabled hk) rfl rfl rfl hq
@[simp] theorem se_developDisabled {xq : State} {s} {i}   : SameEvents xq ((developDisabled s i)) ↔ SameEvents xq s := se_of (fun _ hk => keep_developDisabled hk) rfl
@[simp] theorem ts_developDisabled {s} {i}   : ((developDisabled s i)).ts = State.ts s := ts_of (fun _ hk => keep_developDisabled hk) rfl
@[simp] theorem get_restDevelop {s} {i}   {rq iq} (hq : Nat.testBit 0x8000000000000000000000000000000000000000000000000000000000000000000000000000000000000000000000000000000000000000000000000000000000000000000002800000000000000000000000000000000000000000000000080000000000000000000000000000000000 (Reg.ctorIdx rq) = false) : ((restDevelop s i)).get rq iq = State.get s rq iq :=
  reg_of iq (fun _ hk => keep_restDevelop hk) rfl rfl rfl hq
@[simp] theorem dv_restDevelop {s} {i}   {rq iq} (hq : Nat.testBit 0x100000000000000000000000000000000000000000001e00060000000000000000000000000000000000 (Reg.ctorIdx rq) = false) : ((restDevelop s i)).dv rq iq = State.dv s rq iq :=
  dev_of iq (fun _ hk => keep_restDevelop hk) rfl rfl rfl hq
@[simp] theorem se_restDevelop {xq : State} {s} {i}   : SameEvents xq ((restDevelop s i)) ↔ SameEvents xq s := se_of (fun _ hk => keep_restDevelop hk) rfl
@[simp] theorem ts_restDevelop {s} {i}   : ((restDevelop s i)).ts = State.ts s := ts_of (fun _ hk => keep_restDevelop hk) rfl
@[simp] theorem get_updateHold {s} {i}   {rq iq} (hq : Nat.testBit 0x2000000000000000000000000000000000000000000000000000000000000000000000000000000000000000000000000000000000000000000000000010000000000000000000000000000000000000000000 (Reg.ctorIdx rq) = false) : ((updateHold s i)).get rq iq = State.get s rq iq :=
  reg_of iq (fun _ hk => keep_updateHold hk) rfl rfl rfl hq
@[simp] theorem dv_updateHold {s} {i}   {rq iq} (hq : Nat.testBit 0x0 (Reg.ctorIdx rq) = false) : ((updateHold s i)).dv rq iq = State.dv s rq iq :=
  dev_of iq (fun _ hk => keep_updateHold hk) rfl rfl rfl hq
@[simp] theorem se_updateHold {xq : State} {s} {i}   : SameEvents xq ((updateHold s i)) ↔ SameEvents xq s := se_of (fun _ hk => keep_updateHold hk) rfl
@[simp] theorem ts_updateHold {s} {i}   : ((updateHold s i)).ts = State.ts s := ts_of (fun _ hk => keep_updateHold hk) rfl
@[simp] theorem get_updateAmp {s} {i}   {rq iq} (hq : Nat.testBit 0x8000000000000000000000000000000000000000000000000000000000000000000000000000000000000000000000000000000000000000000000000014000000000000000000000000000000000000000000 (Reg.ctorIdx rq) = false) : ((updateAmp s i)).get rq iq = State.get s rq iq :=
  reg_of iq (fun _ hk => keep_updateAmp hk) rfl rfl rfl hq
@[simp] theorem dv_updateAmp {s} {i}   {rq iq} (hq : Nat.testBit 0x0 (Reg.ctorIdx rq) = false) : ((updateAmp s i)).dv rq iq = State.dv s rq iq :=
  dev_of iq (fun _ hk => keep_updateAmp hk) rfl rfl rfl hq
@[simp] theorem se_updateAmp {xq : State} {s} {i}   : SameEvents xq ((updateAmp s i)) ↔ SameEvents xq s := se_of (fun _ hk => keep_updateAmp hk) rfl
@[simp] theorem ts_updateAmp {s} {i}   : ((updateAmp s i)).ts = State.ts s := ts_of (fun _ hk => keep_updateAmp hk) rfl
@[simp] theorem get_updateAdapt {s} {i} {newReserve} {accelerating}   {rq iq} (hq : Nat.testBit 0x10000000000000000000000000000000000000000000000000000000000000000000000000000000000000000000000000000000000000000000000000008000000000000000000000000000000000000000000 (Reg.ctorIdx rq) = false) : ((updateAdapt s i newReserve accelerating)).get rq iq = State.get s rq iq :=
  reg_of iq (fun _ hk => keep_updateAdapt hk) rfl rfl rfl hq
@[simp] theorem dv_updateAdapt {s} {i} {newReserve} {accelerating}   {rq iq} (hq : Nat.testBit 0x0 (Reg.ctorIdx rq) = false) : ((updateAdapt s i newReserve accelerating)).dv rq iq = State.dv s rq iq :=
  dev_of iq (fun _ hk => keep_updateAdapt hk) rfl rfl rfl hq
@[simp] theorem se_updateAdapt {xq : State} {s} {i} {newReserve} {accelerating}   : SameEvents xq ((updateAdapt s i newReserve accelerating)) ↔ SameEvents xq s := se_of (fun _ hk => keep_updateAdapt hk) rfl
@[simp] theorem ts_updateAdapt {s} {i} {newReserve} {accelerating}   : ((updateAdapt s i newReserve accelerating)).ts = State.ts s := ts_of (fun _ hk => keep_updateAdapt hk) rfl
@[simp] theorem get_putWindow {s} {i}   {rq iq} (hq : Nat.testBit 0x4000000000000000000000000000000000000000000000 (Reg.ctorIdx rq) = false) : ((putWindow s i)).get rq iq = State.get s rq iq :=
  reg_of iq (fun _ hk => keep_putWindow hk) rfl rfl rfl hq
@[simp] theorem dv_putWindow {s} {i}   {rq iq} (hq : Nat.testBit 0x0 (Reg.ctorIdx rq) = false) : ((putWindow s i)).dv rq iq = State.dv s rq iq :=
  dev_of iq (fun _ hk => keep_putWindow hk) rfl rfl rfl hq
@[simp] theorem se_putWindow {xq : State} {s} {i}   : SameEvents xq ((putWindow s i)) ↔ SameEvents xq s := se_of (fun _ hk => keep_putWindow hk) rfl
@[simp] theorem ts_putWindow {s} {i}   : ((putWindow s i)).ts = State.ts s := ts_of (fun _ hk => keep_putWindow hk) rfl
@[simp] theorem get_rejectWindow {s} {i} {why}   {rq iq} (hq : Nat.testBit 0x40000000000000000000000000000000000000000000000000000000000000000000000000000000000000000040000000000000000000000000000000300022b00000 (Reg.ctorIdx rq) = false) : ((rejectWindow s i why)).get rq iq = State.get s rq iq :=
  reg_of iq (fun _ hk => keep_rejectWindow hk) rfl rfl rfl hq
@[simp] theorem dv_rejectWindow {s} {i} {why}   {rq iq} (hq : Nat.testBit 0x0 (Reg.ctorIdx rq) = false) : ((rejectWindow s i why)).dv rq iq = State.dv s rq iq :=
  dev_of iq (fun _ hk => keep_rejectWindow hk) rfl rfl rfl hq
@[simp] theorem ts_rejectWindow {s} {i} {why}   : ((rejectWindow s i why)).ts = State.ts s := ts_of (fun _ hk => keep_rejectWindow hk) rfl
@[simp] theorem get_developWindow {s} {i}   {rq iq} (hq : Nat.testBit 0x4000000000000000000000000000000000000000000000000000000000000000000000c00000000000000000404000000e000000000000000000000000300022b00000 (Reg.ctorIdx rq) = false) : ((developWindow s i)).get rq iq = State.get s rq iq :=
  reg_of iq (fun _ hk => keep_developWindow hk) rfl rfl rfl hq
@[simp] theorem dv_developWindow {s} {i}   {rq iq} (hq : Nat.testBit 0xe000000000000000000000000000000000000 (Reg.ctorIdx rq) = false) : ((developWindow s i)).dv rq iq = State.dv s rq iq :=
  dev_of iq (fun _ hk => keep_developWindow hk) rfl rfl rfl hq
@[simp] theorem ts_developWindow {s} {i}   : ((developWindow s i)).ts = State.ts s := ts_of (fun _ hk => keep_developWindow hk) rfl
@[simp] theorem get_regulate1 {s} {i} {w} {im} {fresh} {ref} {eNext}   {rq iq} (hq : Nat.testBit 0x680000000000000000000000000000000000000000000000000000000000000000000000000000000000000000000000000000000000000000000000000000000000000000000000000000000000000000 (Reg.ctorIdx rq) = false) : ((regulate1 s i w im fresh ref eNext).1).get rq iq = State.get s rq iq :=
  reg_of iq (fun _ hk => keep_regulate1 hk) rfl rfl rfl hq
@[simp] theorem dv_regulate1 {s} {i} {w} {im} {fresh} {ref} {eNext}   {rq iq} (hq : Nat.testBit 0x0 (Reg.ctorIdx rq) = false) : ((regulate1 s i w im fresh ref eNext).1).dv rq iq = State.dv s rq iq :=
  dev_of iq (fun _ hk => keep_regulate1 hk) rfl rfl rfl hq
@[simp] theorem se_regulate1 {xq : State} {s} {i} {w} {im} {fresh} {ref} {eNext}   : SameEvents xq ((regulate1 s i w im fresh ref eNext).1) ↔ SameEvents xq s := se_of (fun _ hk => keep_regulate1 hk) rfl
@[simp] theorem ts_regulate1 {s} {i} {w} {im} {fresh} {ref} {eNext}   : ((regulate1 s i w im fresh ref eNext).1).ts = State.ts s := ts_of (fun _ hk => keep_regulate1 hk) rfl
@[simp] theorem get_markSat {s} {i} {w} {sat}   {rq iq} (hq : Nat.testBit 0xc000000000000000000000000000040000000000000000000000000000000000000000000000000000000000000000000000000000000000000000020000000000000000000000000000000300022b00000 (Reg.ctorIdx rq) = false) : ((markSat s i w sat)).get rq iq = State.get s rq iq :=
  reg_of iq (fun _ hk => keep_markSat hk) rfl rfl rfl hq
@[simp] theorem dv_markSat {s} {i} {w} {sat}   {rq iq} (hq : Nat.testBit 0x0 (Reg.ctorIdx rq) = false) : ((markSat s i w sat)).dv rq iq = State.dv s rq iq :=
  dev_of iq (fun _ hk => keep_markSat hk) rfl rfl rfl hq
@[simp] theorem ts_markSat {s} {i} {w} {sat}   : ((markSat s i w sat)).ts = State.ts s := ts_of (fun _ hk => keep_markSat hk) rfl
@[simp] theorem get_settleVolts {s} {i} {v0} {v1}   {rq iq} (hq : Nat.testBit 0xe000000000000000000000000000040000000000000000000000000000000000000000000000000000000000000000000000000000000000000000020000000000000000000000000000000300022b00000 (Reg.ctorIdx rq) = false) : ((settleVolts s i v0 v1)).get rq iq = State.get s rq iq :=
  reg_of iq (fun _ hk => keep_settleVolts hk) rfl rfl rfl hq
@[simp] theorem dv_settleVolts {s} {i} {v0} {v1}   {rq iq} (hq : Nat.testBit 0x0 (Reg.ctorIdx rq) = false) : ((settleVolts s i v0 v1)).dv rq iq = State.dv s rq iq :=
  dev_of iq (fun _ hk => keep_settleVolts hk) rfl rfl rfl hq
@[simp] theorem ts_settleVolts {s} {i} {v0} {v1}   : ((settleVolts s i v0 v1)).ts = State.ts s := ts_of (fun _ hk => keep_settleVolts hk) rfl
@[simp] theorem get_countMissing {s} {i} {w} {fresh}   {rq iq} (hq : Nat.testBit 0x10000000000000000000000000000000000000000000000000000000000000000000000000000000000000000000000000000000000000000000000800000000000000000000000000000000000000000000 (Reg.ctorIdx rq) = false) : ((countMissing s i w fresh)).get rq iq = State.get s rq iq :=
  reg_of iq (fun _ hk => keep_countMissing hk) rfl rfl rfl hq
@[simp] theorem dv_countMissing {s} {i} {w} {fresh}   {rq iq} (hq : Nat.testBit 0x0 (Reg.ctorIdx rq) = false) : ((countMissing s i w fresh)).dv rq iq = State.dv s rq iq :=
  dev_of iq (fun _ hk => keep_countMissing hk) rfl rfl rfl hq
@[simp] theorem se_countMissing {xq : State} {s} {i} {w} {fresh}   : SameEvents xq ((countMissing s i w fresh)) ↔ SameEvents xq s := se_of (fun _ hk => keep_countMissing hk) rfl
@[simp] theorem ts_countMissing {s} {i} {w} {fresh}   : ((countMissing s i w fresh)).ts = State.ts s := ts_of (fun _ hk => keep_countMissing hk) rfl
@[simp] theorem get_judgeSum {s} {i} {w} {sum} {fresh}   {rq iq} (hq : Nat.testBit 0xc0000000000000000000000000000000000000000000000000000000000000000000000000000000000000000000000000000000000000000000000000000000000000000000000000000000000000000000 (Reg.ctorIdx rq) = false) : ((judgeSum s i w sum fresh)).get rq iq = State.get s rq iq :=
  reg_of iq (fun _ hk => keep_judgeSum hk) rfl rfl rfl hq
@[simp] theorem dv_judgeSum {s} {i} {w} {sum} {fresh}   {rq iq} (hq : Nat.testBit 0x0 (Reg.ctorIdx rq) = false) : ((judgeSum s i w sum fresh)).dv rq iq = State.dv s rq iq :=
  dev_of iq (fun _ hk => keep_judgeSum hk) rfl rfl rfl hq
@[simp] theorem se_judgeSum {xq : State} {s} {i} {w} {sum} {fresh}   : SameEvents xq ((judgeSum s i w sum fresh)) ↔ SameEvents xq s := se_of (fun _ hk => keep_judgeSum hk) rfl
@[simp] theorem ts_judgeSum {s} {i} {w} {sum} {fresh}   : ((judgeSum s i w sum fresh)).ts = State.ts s := ts_of (fun _ hk => keep_judgeSum hk) rfl
@[simp] theorem get_judgeOpen {s} {i} {w} {ref} {im}   {rq iq} (hq : Nat.testBit 0x20000000000000000000000000000000000000000000000000000000000000000000000000000000000000000000000000000000000000000000000000000000000000000000000000000000000000000000 (Reg.ctorIdx rq) = false) : ((judgeOpen s i w ref im)).get rq iq = State.get s rq iq :=
  reg_of iq (fun _ hk => keep_judgeOpen hk) rfl rfl rfl hq
@[simp] theorem dv_judgeOpen {s} {i} {w} {ref} {im}   {rq iq} (hq : Nat.testBit 0x0 (Reg.ctorIdx rq) = false) : ((judgeOpen s i w ref im)).dv rq iq = State.dv s rq iq :=
  dev_of iq (fun _ hk => keep_judgeOpen hk) rfl rfl rfl hq
@[simp] theorem se_judgeOpen {xq : State} {s} {i} {w} {ref} {im}   : SameEvents xq ((judgeOpen s i w ref im)) ↔ SameEvents xq s := se_of (fun _ hk => keep_judgeOpen hk) rfl
@[simp] theorem ts_judgeOpen {s} {i} {w} {ref} {im}   : ((judgeOpen s i w ref im)).ts = State.ts s := ts_of (fun _ hk => keep_judgeOpen hk) rfl
@[simp] theorem get_highDuty {s} {i} {peak}   {rq iq} (hq : Nat.testBit 0x300000000000000000000000000000040000000000000000000000000000000000000000000000000000000000000000000000000000000000000000010000000000000000000000000000000300022b00000 (Reg.ctorIdx rq) = false) : ((highDuty s i peak)).get rq iq = State.get s rq iq :=
  reg_of iq (fun _ hk => keep_highDuty hk) rfl rfl rfl hq
@[simp] theorem dv_highDuty {s} {i} {peak}   {rq iq} (hq : Nat.testBit 0x0 (Reg.ctorIdx rq) = false) : ((highDuty s i peak)).dv rq iq = State.dv s rq iq :=
  dev_of iq (fun _ hk => keep_highDuty hk) rfl rfl rfl hq
@[simp] theorem ts_highDuty {s} {i} {peak}   : ((highDuty s i peak)).ts = State.ts s := ts_of (fun _ hk => keep_highDuty hk) rfl
@[simp] theorem get_windowPattern {s} {i}   {rq iq} (hq : Nat.testBit 0x900000000000000000000000000000000000000000000000000000000000000000000000000000000000000000000000000000000000000000000000000000000000000000000000000000000000000000000 (Reg.ctorIdx rq) = false) : ((windowPattern s i)).get rq iq = State.get s rq iq :=
  reg_of iq (fun _ hk => keep_windowPattern hk) rfl rfl rfl hq
@[simp] theorem dv_windowPattern {s} {i}   {rq iq} (hq : Nat.testBit 0x0 (Reg.ctorIdx rq) = false) : ((windowPattern s i)).dv rq iq = State.dv s rq iq :=
  dev_of iq (fun _ hk => keep_windowPattern hk) rfl rfl rfl hq
@[simp] theorem se_windowPattern {xq : State} {s} {i}   : SameEvents xq ((windowPattern s i)) ↔ SameEvents xq s := se_of (fun _ hk => keep_windowPattern hk) rfl
@[simp] theorem ts_windowPattern {s} {i}   : ((windowPattern s i)).ts = State.ts s := ts_of (fun _ hk => keep_windowPattern hk) rfl
@[simp] theorem get_speedLoop {s} {i} {vHall}   {rq iq} (hq : Nat.testBit 0x60000000000000000000000000000000000000000000000000000000000000000000000000000000000000000000000000000000000000000000000000004000000000000000000000000000000000000000000 (Reg.ctorIdx rq) = false) : ((speedLoop s i vHall)).get rq iq = State.get s rq iq :=
  reg_of iq (fun _ hk => keep_speedLoop hk) rfl rfl rfl hq
@[simp] theorem dv_speedLoop {s} {i} {vHall}   {rq iq} (hq : Nat.testBit 0x0 (Reg.ctorIdx rq) = false) : ((speedLoop s i vHall)).dv rq iq = State.dv s rq iq :=
  dev_of iq (fun _ hk => keep_speedLoop hk) rfl rfl rfl hq
@[simp] theorem se_speedLoop {xq : State} {s} {i} {vHall}   : SameEvents xq ((speedLoop s i vHall)) ↔ SameEvents xq s := se_of (fun _ hk => keep_speedLoop hk) rfl
@[simp] theorem ts_speedLoop {s} {i} {vHall}   : ((speedLoop s i vHall)).ts = State.ts s := ts_of (fun _ hk => keep_speedLoop hk) rfl
@[simp] theorem get_regulateSlot {s} {i} {amp} {phi}   {rq iq} (hq : Nat.testBit 0x7fe680000000000000000000000000040000000000000000000000000000000000000000000000000000000000000000000000000000000000000000830000000000000000000000000000000300022b00000 (Reg.ctorIdx rq) = false) : ((regulateSlot s i amp phi)).get rq iq = State.get s rq iq :=
  reg_of iq (fun _ hk => keep_regulateSlot hk) rfl rfl rfl hq
@[simp] theorem dv_regulateSlot {s} {i} {amp} {phi}   {rq iq} (hq : Nat.testBit 0x0 (Reg.ctorIdx rq) = false) : ((regulateSlot s i amp phi)).dv rq iq = State.dv s rq iq :=
  dev_of iq (fun _ hk => keep_regulateSlot hk) rfl rfl rfl hq
@[simp] theorem ts_regulateSlot {s} {i} {amp} {phi}   : ((regulateSlot s i amp phi)).ts = State.ts s := ts_of (fun _ hk => keep_regulateSlot hk) rfl
@[simp] theorem get_takeSamples {s} {i}   {rq iq} (hq : Nat.testBit 0x800000000000000000000000000000000000000000000000000000000000000000000000000000000000000000000000000000000000000000000003800000000000000000000000000000000000000000 (Reg.ctorIdx rq) = false) : ((takeSamples s i)).get rq iq = State.get s rq iq :=
  reg_of iq (fun _ hk => keep_takeSamples hk) rfl rfl rfl hq
@[simp] theorem dv_takeSamples {s} {i}   {rq iq} (hq : Nat.testBit 0x0 (Reg.ctorIdx rq) = false) : ((takeSamples s i)).dv rq iq = State.dv s rq iq :=
  dev_of iq (fun _ hk => keep_takeSamples hk) rfl rfl rfl hq
@[simp] theorem se_takeSamples {xq : State} {s} {i}   : SameEvents xq ((takeSamples s i)) ↔ SameEvents xq s := se_of (fun _ hk => keep_takeSamples hk) rfl
@[simp] theorem ts_takeSamples {s} {i}   : ((takeSamples s i)).ts = State.ts s := ts_of (fun _ hk => keep_takeSamples hk) rfl
@[simp] theorem get_restRegulator {s} {i}   {rq iq} (hq : Nat.testBit 0x6280000000000000000000000000000000000000000000000000000000000000000000000000000000000000000000000000000000000000000000000000000000000000000000000000000000000000000 (Reg.ctorIdx rq) = false) : ((restRegulator s i)).get rq iq = State.get s rq iq :=
  reg_of iq (fun _ hk => keep_restRegulator hk) rfl rfl rfl hq
@[simp] theorem dv_restRegulator {s} {i}   {rq iq} (hq : Nat.testBit 0x0 (Reg.ctorIdx rq) = false) : ((restRegulator s i)).dv rq iq = State.dv s rq iq :=
  dev_of iq (fun _ hk => keep_restRegulator hk) rfl rfl rfl hq
@[simp] theorem se_restRegulator {xq : State} {s} {i}   : SameEvents xq ((restRegulator s i)) ↔ SameEvents xq s := se_of (fun _ hk => keep_restRegulator hk) rfl
@[simp] theorem ts_restRegulator {s} {i}   : ((restRegulator s i)).ts = State.ts s := ts_of (fun _ hk => keep_restRegulator hk) rfl
@[simp] theorem get_State_setOb {s} {i} {k} {b}   {rq iq} (hq : Nat.testBit 0x40000000000000000000000000000000000000000000000 (Reg.ctorIdx rq) = false) : ((State.setOb s i k b)).get rq iq = State.get s rq iq :=
  reg_of iq (fun _ hk => keep_State_setOb hk) rfl rfl rfl hq
@[simp] theorem dv_State_setOb {s} {i} {k} {b}   {rq iq} (hq : Nat.testBit 0x0 (Reg.ctorIdx rq) = false) : ((State.setOb s i k b)).dv rq iq = State.dv s rq iq :=
  dev_of iq (fun _ hk => keep_State_setOb hk) rfl rfl rfl hq
@[simp] theorem se_State_setOb {xq : State} {s} {i} {k} {b}   : SameEvents xq ((State.setOb s i k b)) ↔ SameEvents xq s := se_of (fun _ hk => keep_State_setOb hk) rfl
@[simp] theorem ts_State_setOb {s} {i} {k} {b}   : ((State.setOb s i k b)).ts = State.ts s := ts_of (fun _ hk => keep_State_setOb hk) rfl
@[simp] theorem get_clearStallRuns {s} {i}   {rq iq} (hq : Nat.testBit 0x100000000000000000000000000000000000000000000000000000000000000000000000000000000000000000000000000000000000000000000000000000000000000000000000000000000000000000000000000000 (Reg.ctorIdx rq) = false) : ((clearStallRuns s i)).get rq iq = State.get s rq iq :=
  reg_of iq (fun _ hk => keep_clearStallRuns hk) rfl rfl rfl hq
@[simp] theorem dv_clearStallRuns {s} {i}   {rq iq} (hq : Nat.testBit 0x0 (Reg.ctorIdx rq) = false) : ((clearStallRuns s i)).dv rq iq = State.dv s rq iq :=
  dev_of iq (fun _ hk => keep_clearStallRuns hk) rfl rfl rfl hq
@[simp] theorem se_clearStallRuns {xq : State} {s} {i}   : SameEvents xq ((clearStallRuns s i)) ↔ SameEvents xq s := se_of (fun _ hk => keep_clearStallRuns hk) rfl
@[simp] theorem ts_clearStallRuns {s} {i}   : ((clearStallRuns s i)).ts = State.ts s := ts_of (fun _ hk => keep_clearStallRuns hk) rfl
@[simp] theorem get_positionLost {s} {i}   {rq iq} (hq : Nat.testBit 0x40000000000000000800000000000000000000000000000 (Reg.ctorIdx rq) = false) : ((positionLost s i)).get rq iq = State.get s rq iq :=
  reg_of iq (fun _ hk => keep_positionLost hk) rfl rfl rfl hq
@[simp] theorem dv_positionLost {s} {i}   {rq iq} (hq : Nat.testBit 0x0 (Reg.ctorIdx rq) = false) : ((positionLost s i)).dv rq iq = State.dv s rq iq :=
  dev_of iq (fun _ hk => keep_positionLost hk) rfl rfl rfl hq
@[simp] theorem se_positionLost {xq : State} {s} {i}   : SameEvents xq ((positionLost s i)) ↔ SameEvents xq s := se_of (fun _ hk => keep_positionLost hk) rfl
@[simp] theorem ts_positionLost {s} {i}   : ((positionLost s i)).ts = State.ts s := ts_of (fun _ hk => keep_positionLost hk) rfl
@[simp] theorem get_offUncertain {s} {i}   {rq iq} (hq : Nat.testBit 0x40000000000000000800000000000000000000000000000 (Reg.ctorIdx rq) = false) : ((offUncertain s i)).get rq iq = State.get s rq iq :=
  reg_of iq (fun _ hk => keep_offUncertain hk) rfl rfl rfl hq
@[simp] theorem dv_offUncertain {s} {i}   {rq iq} (hq : Nat.testBit 0x0 (Reg.ctorIdx rq) = false) : ((offUncertain s i)).dv rq iq = State.dv s rq iq :=
  dev_of iq (fun _ hk => keep_offUncertain hk) rfl rfl rfl hq
@[simp] theorem se_offUncertain {xq : State} {s} {i}   : SameEvents xq ((offUncertain s i)) ↔ SameEvents xq s := se_of (fun _ hk => keep_offUncertain hk) rfl
@[simp] theorem ts_offUncertain {s} {i}   : ((offUncertain s i)).ts = State.ts s := ts_of (fun _ hk => keep_offUncertain hk) rfl
@[simp] theorem get_changeMode {s} {i} {m} {stood}   {rq iq} (hq : Nat.testBit 0x1002c3000000000000000000000000000000000000000000000000000000000000000000000000000000000000000000000000000000000000000000000000060000000000000000000000000000000000000000000000 (Reg.ctorIdx rq) = false) : ((changeMode s i m stood)).get rq iq = State.get s rq iq :=
  reg_of iq (fun _ hk => keep_changeMode hk) rfl rfl rfl hq
@[simp] theorem dv_changeMode {s} {i} {m} {stood}   {rq iq} (hq : Nat.testBit 0x0 (Reg.ctorIdx rq) = false) : ((changeMode s i m stood)).dv rq iq = State.dv s rq iq :=
  dev_of iq (fun _ hk => keep_changeMode hk) rfl rfl rfl hq
@[simp] theorem se_changeMode {xq : State} {s} {i} {m} {stood}   : SameEvents xq ((changeMode s i m stood)) ↔ SameEvents xq s := se_of (fun _ hk => keep_changeMode hk) rfl
@[simp] theorem ts_changeMode {s} {i} {m} {stood}   : ((changeMode s i m stood)).ts = State.ts s := ts_of (fun _ hk => keep_changeMode hk) rfl
@[simp] theorem get_correctEmf {s} {i} {w}   {rq iq} (hq : Nat.testBit 0x100000000000000000000000000000000000000000000000000000000000000000000000000000000000000000000000000000000000000000000000000000000000000000000000000000000000000000 (Reg.ctorIdx rq) = false) : ((correctEmf s i w)).get rq iq = State.get s rq iq :=
  reg_of iq (fun _ hk => keep_correctEmf hk) rfl rfl rfl hq
@[simp] theorem dv_correctEmf {s} {i} {w}   {rq iq} (hq : Nat.testBit 0x0 (Reg.ctorIdx rq) = false) : ((correctEmf s i w)).dv rq iq = State.dv s rq iq :=
  dev_of iq (fun _ hk => keep_correctEmf hk) rfl rfl rfl hq
@[simp] theorem se_correctEmf {xq : State} {s} {i} {w}   : SameEvents xq ((correctEmf s i w)) ↔ SameEvents xq s := se_of (fun _ hk => keep_correctEmf hk) rfl
@[simp] theorem ts_correctEmf {s} {i} {w}   : ((correctEmf s i w)).ts = State.ts s := ts_of (fun _ hk => keep_correctEmf hk) rfl
@[simp] theorem get_turnEmf {s} {i}   {rq iq} (hq : Nat.testBit 0x100000000000000000000000000000000000000000000000000000000000000000000000000000000000000000000000000000000000000000000000000000000000000000000000000000000000000000 (Reg.ctorIdx rq) = false) : ((turnEmf s i)).get rq iq = State.get s rq iq :=
  reg_of iq (fun _ hk => keep_turnEmf hk) rfl rfl rfl hq
@[simp] theorem dv_turnEmf {s} {i}   {rq iq} (hq : Nat.testBit 0x0 (Reg.ctorIdx rq) = false) : ((turnEmf s i)).dv rq iq = State.dv s rq iq :=
  dev_of iq (fun _ hk => keep_turnEmf hk) rfl rfl rfl hq
@[simp] theorem se_turnEmf {xq : State} {s} {i}   : SameEvents xq ((turnEmf s i)) ↔ SameEvents xq s := se_of (fun _ hk => keep_turnEmf hk) rfl
@[simp] theorem ts_turnEmf {s} {i}   : ((turnEmf s i)).ts = State.ts s := ts_of (fun _ hk => keep_turnEmf hk) rfl
@[simp] theorem get_modelEmf {s} {i}   {rq iq} (hq : Nat.testBit 0x100000000000000000000000000000000000000000000000000000000000000000000000000000000000000000000000000000000000000000000000000000000000000000000000000000000000000000 (Reg.ctorIdx rq) = false) : ((modelEmf s i)).get rq iq = State.get s rq iq :=
  reg_of iq (fun _ hk => keep_modelEmf hk) rfl rfl rfl hq
@[simp] theorem dv_modelEmf {s} {i}   {rq iq} (hq : Nat.testBit 0x0 (Reg.ctorIdx rq) = false) : ((modelEmf s i)).dv rq iq = State.dv s rq iq :=
  dev_of iq (fun _ hk => keep_modelEmf hk) rfl rfl rfl hq
@[simp] theorem se_modelEmf {xq : State} {s} {i}   : SameEvents xq ((modelEmf s i)) ↔ SameEvents xq s := se_of (fun _ hk => keep_modelEmf hk) rfl
@[simp] theorem ts_modelEmf {s} {i}   : ((modelEmf s i)).ts = State.ts s := ts_of (fun _ hk => keep_modelEmf hk) rfl
@[simp] theorem get_emfFlags {s} {i} {corrected}   {rq iq} (hq : Nat.testBit 0x10000000000000000000000000000000000000000000000000000000000000000000000000000000000000000000000000000000000000000000010000040000000000000000000000000000000000000000000000 (Reg.ctorIdx rq) = false) : ((emfFlags s i corrected)).get rq iq = State.get s rq iq :=
  reg_of iq (fun _ hk => keep_emfFlags hk) rfl rfl rfl hq
@[simp] theorem dv_emfFlags {s} {i} {corrected}   {rq iq} (hq : Nat.testBit 0x0 (Reg.ctorIdx rq) = false) : ((emfFlags s i corrected)).dv rq iq = State.dv s rq iq :=
  dev_of iq (fun _ hk => keep_emfFlags hk) rfl rfl rfl hq
@[simp] theorem se_emfFlags {xq : State} {s} {i} {corrected}   : SameEvents xq ((emfFlags s i corrected)) ↔ SameEvents xq s := se_of (fun _ hk => keep_emfFlags hk) rfl
@[simp] theorem ts_emfFlags {s} {i} {corrected}   : ((emfFlags s i corrected)).ts = State.ts s := ts_of (fun _ hk => keep_emfFlags hk) rfl
@[simp] theorem get_predictNext {s} {i} {w}   {rq iq} (hq : Nat.testBit 0x40000000000000000000000000000000000000000000000000000000000000000000000000000000000000000000000000000000000000000000000000000000000000000000000000000000000000000000000000000000 (Reg.ctorIdx rq) = false) : ((predictNext s i w)).get rq iq = State.get s rq iq :=
  reg_of iq (fun _ hk => keep_predictNext hk) rfl rfl rfl hq
@[simp] theorem dv_predictNext {s} {i} {w}   {rq iq} (hq : Nat.testBit 0x0 (Reg.ctorIdx rq) = false) : ((predictNext s i w)).dv rq iq = State.dv s rq iq :=
  dev_of iq (fun _ hk => keep_predictNext hk) rfl rfl rfl hq
@[simp] theorem se_predictNext {xq : State} {s} {i} {w}   : SameEvents xq ((predictNext s i w)) ↔ SameEvents xq s := se_of (fun _ hk => keep_predictNext hk) rfl
@[simp] theorem ts_predictNext {s} {i} {w}   : ((predictNext s i w)).ts = State.ts s := ts_of (fun _ hk => keep_predictNext hk) rfl
@[simp] theorem get_updateEmf {s} {i} {f0} {f1}   {rq iq} (hq : Nat.testBit 0x10000000100000000000000000000000000000000000000000000000000000000000000000000000000000000000000000000000000000000000010000040000000000000000000000000000000000000000000000 (Reg.ctorIdx rq) = false) : ((updateEmf s i f0 f1)).get rq iq = State.get s rq iq :=
  reg_of iq (fun _ hk => keep_updateEmf hk) rfl rfl rfl hq
@[simp] theorem dv_updateEmf {s} {i} {f0} {f1}   {rq iq} (hq : Nat.testBit 0x0 (Reg.ctorIdx rq) = false) : ((updateEmf s i f0 f1)).dv rq iq = State.dv s rq iq :=
  dev_of iq (fun _ hk => keep_updateEmf hk) rfl rfl rfl hq
@[simp] theorem se_updateEmf {xq : State} {s} {i} {f0} {f1}   : SameEvents xq ((updateEmf s i f0 f1)) ↔ SameEvents xq s := se_of (fun _ hk => keep_updateEmf hk) rfl
@[simp] theorem ts_updateEmf {s} {i} {f0} {f1}   : ((updateEmf s i f0 f1)).ts = State.ts s := ts_of (fun _ hk => keep_updateEmf hk) rfl
@[simp] theorem get_inject {s} {i}   {rq iq} (hq : Nat.testBit 0x80000000000002000000000000000000000000000000000000000000000000000000000000000000000000000000000000000000000000000000000000000000000000000000000000000000000000000000000000000000 (Reg.ctorIdx rq) = false) : ((inject s i)).get rq iq = State.get s rq iq :=
  reg_of iq (fun _ hk => keep_inject hk) rfl rfl rfl hq
@[simp] theorem dv_inject {s} {i}   {rq iq} (hq : Nat.testBit 0x0 (Reg.ctorIdx rq) = false) : ((inject s i)).dv rq iq = State.dv s rq iq :=
  dev_of iq (fun _ hk => keep_inject hk) rfl rfl rfl hq
@[simp] theorem se_inject {xq : State} {s} {i}   : SameEvents xq ((inject s i)) ↔ SameEvents xq s := se_of (fun _ hk => keep_inject hk) rfl
@[simp] theorem ts_inject {s} {i}   : ((inject s i)).ts = State.ts s := ts_of (fun _ hk => keep_inject hk) rfl
@[simp] theorem get_updateSaliency {s} {i}   {rq iq} (hq : Nat.testBit 0x800000000000000000000000000000000000000000000000000 (Reg.ctorIdx rq) = false) : ((updateSaliency s i)).get rq iq = State.get s rq iq :=
  reg_of iq (fun _ hk => keep_updateSaliency hk) rfl rfl rfl hq
@[simp] theorem dv_updateSaliency {s} {i}   {rq iq} (hq : Nat.testBit 0x0 (Reg.ctorIdx rq) = false) : ((updateSaliency s i)).dv rq iq = State.dv s rq iq :=
  dev_of iq (fun _ hk => keep_updateSaliency hk) rfl rfl rfl hq
@[simp] theorem se_updateSaliency {xq : State} {s} {i}   : SameEvents xq ((updateSaliency s i)) ↔ SameEvents xq s := se_of (fun _ hk => keep_updateSaliency hk) rfl
@[simp] theorem ts_updateSaliency {s} {i}   : ((updateSaliency s i)).ts = State.ts s := ts_of (fun _ hk => keep_updateSaliency hk) rfl
@[simp] theorem get_updateL {s} {i}   {rq iq} (hq : Nat.testBit 0x8100000000000000000000000000000000000000000000000000000000000000000000000000000000000000000000000000000000000000000000008000040000000000000000000000000000000000000000000000 (Reg.ctorIdx rq) = false) : ((updateL s i)).get rq iq = State.get s rq iq :=
  reg_of iq (fun _ hk => keep_updateL hk) rfl rfl rfl hq
@[simp] theorem dv_updateL {s} {i}   {rq iq} (hq : Nat.testBit 0x0 (Reg.ctorIdx rq) = false) : ((updateL s i)).dv rq iq = State.dv s rq iq :=
  dev_of iq (fun _ hk => keep_updateL hk) rfl rfl rfl hq
@[simp] theorem se_updateL {xq : State} {s} {i}   : SameEvents xq ((updateL s i)) ↔ SameEvents xq s := se_of (fun _ hk => keep_updateL hk) rfl
@[simp] theorem ts_updateL {s} {i}   : ((updateL s i)).ts = State.ts s := ts_of (fun _ hk => keep_updateL hk) rfl
@[simp] theorem get_refineInjection {s} {i}   {rq iq} (hq : Nat.testBit 0x8300000000000000000000000000000000000000000000000000000000000000000000000000000000000000000000000000000000000000000000008800040000000000000000000000000000000000000000000000 (Reg.ctorIdx rq) = false) : ((refineInjection s i)).get rq iq = State.get s rq iq :=
  reg_of iq (fun _ hk => keep_refineInjection hk) rfl rfl rfl hq
@[simp] theorem dv_refineInjection {s} {i}   {rq iq} (hq : Nat.testBit 0x0 (Reg.ctorIdx rq) = false) : ((refineInjection s i)).dv rq iq = State.dv s rq iq :=
  dev_of iq (fun _ hk => keep_refineInjection hk) rfl rfl rfl hq
@[simp] theorem se_refineInjection {xq : State} {s} {i}   : SameEvents xq ((refineInjection s i)) ↔ SameEvents xq s := se_of (fun _ hk => keep_refineInjection hk) rfl
@[simp] theorem ts_refineInjection {s} {i}   : ((refineInjection s i)).ts = State.ts s := ts_of (fun _ hk => keep_refineInjection hk) rfl
@[simp] theorem get_demodulate {s} {i}   {rq iq} (hq : Nat.testBit 0xe800000281000000000000000000000000000000000000000000000000000000000000000000000000000000000000000000000000000000000000000000000000000000000000000000000000000000000000000000000000 (Reg.ctorIdx rq) = false) : ((demodulate s i)).get rq iq = State.get s rq iq :=
  reg_of iq (fun _ hk => keep_demodulate hk) rfl rfl rfl hq
@[simp] theorem dv_demodulate {s} {i}   {rq iq} (hq : Nat.testBit 0x0 (Reg.ctorIdx rq) = false) : ((demodulate s i)).dv rq iq = State.dv s rq iq :=
  dev_of iq (fun _ hk => keep_demodulate hk) rfl rfl rfl hq
@[simp] theorem se_demodulate {xq : State} {s} {i}   : SameEvents xq ((demodulate s i)) ↔ SameEvents xq s := se_of (fun _ hk => keep_demodulate hk) rfl
@[simp] theorem ts_demodulate {s} {i}   : ((demodulate s i)).ts = State.ts s := ts_of (fun _ hk => keep_demodulate hk) rfl
@[simp] theorem get_injectStep {s} {i} {refine}   {rq iq} (hq : Nat.testBit 0xe8000083e1000000000000000000000000000000000040000000000000000000000000000000000000000000000000000000000000000000000000000000008800140000000000000000000000000000000000300022b00000 (Reg.ctorIdx rq) = false) : ((injectStep s i refine)).get rq iq = State.get s rq iq :=
  reg_of iq (fun _ hk => keep_injectStep hk) rfl rfl rfl hq
@[simp] theorem dv_injectStep {s} {i} {refine}   {rq iq} (hq : Nat.testBit 0x0 (Reg.ctorIdx rq) = false) : ((injectStep s i refine)).dv rq iq = State.dv s rq iq :=
  dev_of iq (fun _ hk => keep_injectStep hk) rfl rfl rfl hq
@[simp] theorem ts_injectStep {s} {i} {refine}   : ((injectStep s i refine)).ts = State.ts s := ts_of (fun _ hk => keep_injectStep hk) rfl
@[simp] theorem get_updateLoad {s} {i} {phi}   {rq iq} (hq : Nat.testBit 0x18000000000000000000000000000000000000000000000 (Reg.ctorIdx rq) = false) : ((updateLoad s i phi)).get rq iq = State.get s rq iq :=
  reg_of iq (fun _ hk => keep_updateLoad hk) rfl rfl rfl hq
@[simp] theorem dv_updateLoad {s} {i} {phi}   {rq iq} (hq : Nat.testBit 0x0 (Reg.ctorIdx rq) = false) : ((updateLoad s i phi)).dv rq iq = State.dv s rq iq :=
  dev_of iq (fun _ hk => keep_updateLoad hk) rfl rfl rfl hq
@[simp] theorem se_updateLoad {xq : State} {s} {i} {phi}   : SameEvents xq ((updateLoad s i phi)) ↔ SameEvents xq s := se_of (fun _ hk => keep_updateLoad hk) rfl
@[simp] theorem ts_updateLoad {s} {i} {phi}   : ((updateLoad s i phi)).ts = State.ts s := ts_of (fun _ hk => keep_updateLoad hk) rfl
@[simp] theorem get_advancePos {s} {i} {d}   {rq iq} (hq : Nat.testBit 0x1000000000000000000000000000000000000000000000000000000000000000000000000000000000000000000000000000000000000000000000000000040000000000000000000000000000000000000000000000000000 (Reg.ctorIdx rq) = false) : ((advancePos s i d)).get rq iq = State.get s rq iq :=
  reg_of iq (fun _ hk => keep_advancePos hk) rfl rfl rfl hq
@[simp] theorem dv_advancePos {s} {i} {d}   {rq iq} (hq : Nat.testBit 0x0 (Reg.ctorIdx rq) = false) : ((advancePos s i d)).dv rq iq = State.dv s rq iq :=
  dev_of iq (fun _ hk => keep_advancePos hk) rfl rfl rfl hq
@[simp] theorem se_advancePos {xq : State} {s} {i} {d}   : SameEvents xq ((advancePos s i d)) ↔ SameEvents xq s := se_of (fun _ hk => keep_advancePos hk) rfl
@[simp] theorem ts_advancePos {s} {i} {d}   : ((advancePos s i d)).ts = State.ts s := ts_of (fun _ hk => keep_advancePos hk) rfl
@[simp] theorem get_updatePos {s} {i} {te} {th} {valid}   {rq iq} (hq : Nat.testBit 0x100000000f000000000000000000000000000000000000000000000000000000000000000000000000000000000000000000000000000000000000000000040000040000000000000000800000000000000000000000000000 (Reg.ctorIdx rq) = false) : ((updatePos s i te th valid)).get rq iq = State.get s rq iq :=
  reg_of iq (fun _ hk => keep_updatePos hk) rfl rfl rfl hq
@[simp] theorem dv_updatePos {s} {i} {te} {th} {valid}   {rq iq} (hq : Nat.testBit 0x0 (Reg.ctorIdx rq) = false) : ((updatePos s i te th valid)).dv rq iq = State.dv s rq iq :=
  dev_of iq (fun _ hk => keep_updatePos hk) rfl rfl rfl hq
@[simp] theorem se_updatePos {xq : State} {s} {i} {te} {th} {valid}   : SameEvents xq ((updatePos s i te th valid)) ↔ SameEvents xq s := se_of (fun _ hk => keep_updatePos hk) rfl
@[simp] theorem ts_updatePos {s} {i} {te} {th} {valid}   : ((updatePos s i te th valid)).ts = State.ts s := ts_of (fun _ hk => keep_updatePos hk) rfl
@[simp] theorem get_syncCommand {s} {i}   {rq iq} (hq : Nat.testBit 0x6c000000000000000000000000000000000000000000000000000000000000000000000000000000000000000000040000000000000000000000003000000000000000000000 (Reg.ctorIdx rq) = false) : ((syncCommand s i)).get rq iq = State.get s rq iq :=
  reg_of iq (fun _ hk => keep_syncCommand hk) rfl rfl rfl hq
@[simp] theorem dv_syncCommand {s} {i}   {rq iq} (hq : Nat.testBit 0x0 (Reg.ctorIdx rq) = false) : ((syncCommand s i)).dv rq iq = State.dv s rq iq :=
  dev_of iq (fun _ hk => keep_syncCommand hk) rfl rfl rfl hq
@[simp] theorem se_syncCommand {xq : State} {s} {i}   : SameEvents xq ((syncCommand s i)) ↔ SameEvents xq s := se_of (fun _ hk => keep_syncCommand hk) rfl
@[simp] theorem ts_syncCommand {s} {i}   : ((syncCommand s i)).ts = State.ts s := ts_of (fun _ hk => keep_syncCommand hk) rfl
@[simp] theorem get_learnKe {s} {i}   {rq iq} (hq : Nat.testBit 0x2400000000000000000000000000000000000000000000000000000000000000000000000000000000000000000000000000000000000000000000020000040000000000000000000000000000000000000000000000 (Reg.ctorIdx rq) = false) : ((learnKe s i)).get rq iq = State.get s rq iq :=
  reg_of iq (fun _ hk => keep_learnKe hk) rfl rfl rfl hq
@[simp] theorem dv_learnKe {s} {i}   {rq iq} (hq : Nat.testBit 0x0 (Reg.ctorIdx rq) = false) : ((learnKe s i)).dv rq iq = State.dv s rq iq :=
  dev_of iq (fun _ hk => keep_learnKe hk) rfl rfl rfl hq
@[simp] theorem se_learnKe {xq : State} {s} {i}   : SameEvents xq ((learnKe s i)) ↔ SameEvents xq s := se_of (fun _ hk => keep_learnKe hk) rfl
@[simp] theorem ts_learnKe {s} {i}   : ((learnKe s i)).ts = State.ts s := ts_of (fun _ hk => keep_learnKe hk) rfl
@[simp] theorem get_updateVw {s} {i}   {rq iq} (hq : Nat.testBit 0x780000000000000000000000000000000000000000000000000000 (Reg.ctorIdx rq) = false) : ((updateVw s i)).get rq iq = State.get s rq iq :=
  reg_of iq (fun _ hk => keep_updateVw hk) rfl rfl rfl hq
@[simp] theorem dv_updateVw {s} {i}   {rq iq} (hq : Nat.testBit 0x0 (Reg.ctorIdx rq) = false) : ((updateVw s i)).dv rq iq = State.dv s rq iq :=
  dev_of iq (fun _ hk => keep_updateVw hk) rfl rfl rfl hq
@[simp] theorem se_updateVw {xq : State} {s} {i}   : SameEvents xq ((updateVw s i)) ↔ SameEvents xq s := se_of (fun _ hk => keep_updateVw hk) rfl
@[simp] theorem ts_updateVw {s} {i}   : ((updateVw s i)).ts = State.ts s := ts_of (fun _ hk => keep_updateVw hk) rfl
@[simp] theorem get_vwInvalid {s} {i}   {rq iq} (hq : Nat.testBit 0x580000000000000000000000000000000000000000000000000000 (Reg.ctorIdx rq) = false) : ((vwInvalid s i)).get rq iq = State.get s rq iq :=
  reg_of iq (fun _ hk => keep_vwInvalid hk) rfl rfl rfl hq
@[simp] theorem dv_vwInvalid {s} {i}   {rq iq} (hq : Nat.testBit 0x0 (Reg.ctorIdx rq) = false) : ((vwInvalid s i)).dv rq iq = State.dv s rq iq :=
  dev_of iq (fun _ hk => keep_vwInvalid hk) rfl rfl rfl hq
@[simp] theorem se_vwInvalid {xq : State} {s} {i}   : SameEvents xq ((vwInvalid s i)) ↔ SameEvents xq s := se_of (fun _ hk => keep_vwInvalid hk) rfl
@[simp] theorem ts_vwInvalid {s} {i}   : ((vwInvalid s i)).ts = State.ts s := ts_of (fun _ hk => keep_vwInvalid hk) rfl
@[simp] theorem get_filterR {s} {i}   {rq iq} (hq : Nat.testBit 0x2000000b0000000000000000000000000000000000000000000000000000000000000000000000000000000000000000000000000000000000000000000000500000000000000000000000000000000000000000000000000000 (Reg.ctorIdx rq) = false) : ((filterR s i)).get rq iq = State.get s rq iq :=
  reg_of iq (fun _ hk => keep_filterR hk) rfl rfl rfl hq
@[simp] theorem dv_filterR {s} {i}   {rq iq} (hq : Nat.testBit 0x0 (Reg.ctorIdx rq) = false) : ((filterR s i)).dv rq iq = State.dv s rq iq :=
  dev_of iq (fun _ hk => keep_filterR hk) rfl rfl rfl hq
@[simp] theorem se_filterR {xq : State} {s} {i}   : SameEvents xq ((filterR s i)) ↔ SameEvents xq s := se_of (fun _ hk => keep_filterR hk) rfl
@[simp] theorem ts_filterR {s} {i}   : ((filterR s i)).ts = State.ts s := ts_of (fun _ hk => keep_filterR hk) rfl
@[simp] theorem get_storeR {s} {i} {fine} {probe}   {rq iq} (hq : Nat.testBit 0x110000044800000000000000000000000000000000000040000000000000000000000000000000000000000000000000000000000000000000000000000000584000240000000000000000000000000000000000300022b00000 (Reg.ctorIdx rq) = false) : ((storeR s i fine probe)).get rq iq = State.get s rq iq :=
  reg_of iq (fun _ hk => keep_storeR hk) rfl rfl rfl hq
@[simp] theorem dv_storeR {s} {i} {fine} {probe}   {rq iq} (hq : Nat.testBit 0x0 (Reg.ctorIdx rq) = false) : ((storeR s i fine probe)).dv rq iq = State.dv s rq iq :=
  dev_of iq (fun _ hk => keep_storeR hk) rfl rfl rfl hq
@[simp] theorem ts_storeR {s} {i} {fine} {probe}   : ((storeR s i fine probe)).ts = State.ts s := ts_of (fun _ hk => keep_storeR hk) rfl
@[simp] theorem get_learnR {s} {i}   {rq iq} (hq : Nat.testBit 0x3100000f4800000000000000000000000000000000000040000000000000000000000000000000000000000000000000000000000000000000000000000000584000240000000000000000000000000000000000300022b00000 (Reg.ctorIdx rq) = false) : ((learnR s i)).get rq iq = State.get s rq iq :=
  reg_of iq (fun _ hk => keep_learnR hk) rfl rfl rfl hq
@[simp] theorem dv_learnR {s} {i}   {rq iq} (hq : Nat.testBit 0x0 (Reg.ctorIdx rq) = false) : ((learnR s i)).dv rq iq = State.dv s rq iq :=
  dev_of iq (fun _ hk => keep_learnR hk) rfl rfl rfl hq
@[simp] theorem ts_learnR {s} {i}   : ((learnR s i)).ts = State.ts s := ts_of (fun _ hk => keep_learnR hk) rfl
@[simp] theorem get_probeAdd {s} {i} {te}   {rq iq} (hq : Nat.testBit 0x400000000000000000000000000000000000000000000000000000000000000000000000000000000000000000000000000000000000000000000000000000000000000000000000000000000000000000000000000000000 (Reg.ctorIdx rq) = false) : ((probeAdd s i te)).get rq iq = State.get s rq iq :=
  reg_of iq (fun _ hk => keep_probeAdd hk) rfl rfl rfl hq
@[simp] theorem dv_probeAdd {s} {i} {te}   {rq iq} (hq : Nat.testBit 0x0 (Reg.ctorIdx rq) = false) : ((probeAdd s i te)).dv rq iq = State.dv s rq iq :=
  dev_of iq (fun _ hk => keep_probeAdd hk) rfl rfl rfl hq
@[simp] theorem se_probeAdd {xq : State} {s} {i} {te}   : SameEvents xq ((probeAdd s i te)) ↔ SameEvents xq s := se_of (fun _ hk => keep_probeAdd hk) rfl
@[simp] theorem ts_probeAdd {s} {i} {te}   : ((probeAdd s i te)).ts = State.ts s := ts_of (fun _ hk => keep_probeAdd hk) rfl
@[simp] theorem get_probeSum {s} {i} {te} {fresh}   {rq iq} (hq : Nat.testBit 0xe0001000001000001800000000000000000000000000000000000000000000000000000000000000000000000000000000000000000000000000000000000000000000000000000000000000000000000000000000000000000 (Reg.ctorIdx rq) = false) : ((probeSum s i te fresh)).get rq iq = State.get s rq iq :=
  reg_of iq (fun _ hk => keep_probeSum hk) rfl rfl rfl hq
@[simp] theorem dv_probeSum {s} {i} {te} {fresh}   {rq iq} (hq : Nat.testBit 0x0 (Reg.ctorIdx rq) = false) : ((probeSum s i te fresh)).dv rq iq = State.dv s rq iq :=
  dev_of iq (fun _ hk => keep_probeSum hk) rfl rfl rfl hq
@[simp] theorem se_probeSum {xq : State} {s} {i} {te} {fresh}   : SameEvents xq ((probeSum s i te fresh)) ↔ SameEvents xq s := se_of (fun _ hk => keep_probeSum hk) rfl
@[simp] theorem ts_probeSum {s} {i} {te} {fresh}   : ((probeSum s i te fresh)).ts = State.ts s := ts_of (fun _ hk => keep_probeSum hk) rfl
@[simp] theorem get_probeEnd {s} {i}   {rq iq} (hq : Nat.testBit 0x415000000000000000000000000000000000000000000000000000000000000000000000000000000000000000000000000000000000000000000000000000000040000000000000000000000000000000000000000000000 (Reg.ctorIdx rq) = false) : ((probeEnd s i)).get rq iq = State.get s rq iq :=
  reg_of iq (fun _ hk => keep_probeEnd hk) rfl rfl rfl hq
@[simp] theorem dv_probeEnd {s} {i}   {rq iq} (hq : Nat.testBit 0x0 (Reg.ctorIdx rq) = false) : ((probeEnd s i)).dv rq iq = State.dv s rq iq :=
  dev_of iq (fun _ hk => keep_probeEnd hk) rfl rfl rfl hq
@[simp] theorem se_probeEnd {xq : State} {s} {i}   : SameEvents xq ((probeEnd s i)) ↔ SameEvents xq s := se_of (fun _ hk => keep_probeEnd hk) rfl
@[simp] theorem ts_probeEnd {s} {i}   : ((probeEnd s i)).ts = State.ts s := ts_of (fun _ hk => keep_probeEnd hk) rfl
@[simp] theorem get_rejectVwCal {s} {i} {why}   {rq iq} (hq : Nat.testBit 0x40000000000000000000000000000000000000000000000000000000000000000000000000000000000000800000000000000000000000000000000000300022b00000 (Reg.ctorIdx rq) = false) : ((rejectVwCal s i why)).get rq iq = State.get s rq iq :=
  reg_of iq (fun _ hk => keep_rejectVwCal hk) rfl rfl rfl hq
@[simp] theorem dv_rejectVwCal {s} {i} {why}   {rq iq} (hq : Nat.testBit 0x0 (Reg.ctorIdx rq) = false) : ((rejectVwCal s i why)).dv rq iq = State.dv s rq iq :=
  dev_of iq (fun _ hk => keep_rejectVwCal hk) rfl rfl rfl hq
@[simp] theorem ts_rejectVwCal {s} {i} {why}   : ((rejectVwCal s i why)).ts = State.ts s := ts_of (fun _ hk => keep_rejectVwCal hk) rfl
@[simp] theorem get_probeAbort {s} {i}   {rq iq} (hq : Nat.testBit 0x415000000000000000000000000000000000000000040000000000000000000000000000000000000000000000000000000000000000000000000000000000000c40000000000000000000000000000000000300022b00000 (Reg.ctorIdx rq) = false) : ((probeAbort s i)).get rq iq = State.get s rq iq :=
  reg_of iq (fun _ hk => keep_probeAbort hk) rfl rfl rfl hq
@[simp] theorem dv_probeAbort {s} {i}   {rq iq} (hq : Nat.testBit 0x0 (Reg.ctorIdx rq) = false) : ((probeAbort s i)).dv rq iq = State.dv s rq iq :=
  dev_of iq (fun _ hk => keep_probeAbort hk) rfl rfl rfl hq
@[simp] theorem ts_probeAbort {s} {i}   : ((probeAbort s i)).ts = State.ts s := ts_of (fun _ hk => keep_probeAbort hk) rfl
@[simp] theorem get_probeBegin {s} {i} {kind} {te}   {rq iq} (hq : Nat.testBit 0xe002b000000000000000000000000000000000000000000000000000000000000000000000000000000000000000000000000000000000000000000000000000000040000000000000000000000000000000000000000000000 (Reg.ctorIdx rq) = false) : ((probeBegin s i kind te)).get rq iq = State.get s rq iq :=
  reg_of iq (fun _ hk => keep_probeBegin hk) rfl rfl rfl hq
@[simp] theorem dv_probeBegin {s} {i} {kind} {te}   {rq iq} (hq : Nat.testBit 0x3000000000000000000000000000000000000000000000000000 (Reg.ctorIdx rq) = false) : ((probeBegin s i kind te)).dv rq iq = State.dv s rq iq :=
  dev_of iq (fun _ hk => keep_probeBegin hk) rfl rfl rfl hq
@[simp] theorem se_probeBegin {xq : State} {s} {i} {kind} {te}   : SameEvents xq ((probeBegin s i kind te)) ↔ SameEvents xq s := se_of (fun _ hk => keep_probeBegin hk) rfl
@[simp] theorem ts_probeBegin {s} {i} {kind} {te}   : ((probeBegin s i kind te)).ts = State.ts s := ts_of (fun _ hk => keep_probeBegin hk) rfl
@[simp] theorem get_probeMoved {s} {i}   {rq iq} (hq : Nat.testBit 0x415000000000000000000000000000000000000000040000000000000000000000000000000000000000000000000000000000000000000000000000000000000c40000000000000000000000000000000000300022b00000 (Reg.ctorIdx rq) = false) : ((probeMoved s i)).get rq iq = State.get s rq iq :=
  reg_of iq (fun _ hk => keep_probeMoved hk) rfl rfl rfl hq
@[simp] theorem dv_probeMoved {s} {i}   {rq iq} (hq : Nat.testBit 0x0 (Reg.ctorIdx rq) = false) : ((probeMoved s i)).dv rq iq = State.dv s rq iq :=
  dev_of iq (fun _ hk => keep_probeMoved hk) rfl rfl rfl hq
@[simp] theorem ts_probeMoved {s} {i}   : ((probeMoved s i)).ts = State.ts s := ts_of (fun _ hk => keep_probeMoved hk) rfl
@[simp] theorem get_probeJudge {s} {i} {accZero}   {rq iq} (hq : Nat.testBit 0x415000000000000000000000000000000000000000040000000000000000000000000000000000000000000000000000000000000000000000000000000000000c40000000000000000000000000000000000300022b00000 (Reg.ctorIdx rq) = false) : ((probeJudge s i accZero)).get rq iq = State.get s rq iq :=
  reg_of iq (fun _ hk => keep_probeJudge hk) rfl rfl rfl hq
@[simp] theorem dv_probeJudge {s} {i} {accZero}   {rq iq} (hq : Nat.testBit 0x0 (Reg.ctorIdx rq) = false) : ((probeJudge s i accZero)).dv rq iq = State.dv s rq iq :=
  dev_of iq (fun _ hk => keep_probeJudge hk) rfl rfl rfl hq
@[simp] theorem ts_probeJudge {s} {i} {accZero}   : ((probeJudge s i accZero)).ts = State.ts s := ts_of (fun _ hk => keep_probeJudge hk) rfl
@[simp] theorem get_probeFinish {s} {i}   {rq iq} (hq : Nat.testBit 0x3104150f4800000000000000000000000000000000000040000000000000000000000000000000000000000000000000000000000000000000000000000000d84000a40000000000000000000000000000000000300022b00000 (Reg.ctorIdx rq) = false) : ((probeFinish s i).1).get rq iq = State.get s rq iq :=
  reg_of iq (fun _ hk => keep_probeFinish hk) rfl rfl rfl hq
@[simp] theorem dv_probeFinish {s} {i}   {rq iq} (hq : Nat.testBit 0x800000000000000000000000000000000000000000000000000000 (Reg.ctorIdx rq) = false) : ((probeFinish s i).1).dv rq iq = State.dv s rq iq :=
  dev_of iq (fun _ hk => keep_probeFinish hk) rfl rfl rfl hq
@[simp] theorem ts_probeFinish {s} {i}   : ((probeFinish s i).1).ts = State.ts s := ts_of (fun _ hk => keep_probeFinish hk) rfl
@[simp] theorem get_countStall {s} {i} {fresh} {hallStill}   {rq iq} (hq : Nat.testBit 0x900000000000000000000000000000000000000000000000000000000000000000000000000000000000000000000000000000000000000000000000000000000000000000000000000000000000000000000000000000 (Reg.ctorIdx rq) = false) : ((countStall s i fresh hallStill)).get rq iq = State.get s rq iq :=
  reg_of iq (fun _ hk => keep_countStall hk) rfl rfl rfl hq
@[simp] theorem dv_countStall {s} {i} {fresh} {hallStill}   {rq iq} (hq : Nat.testBit 0x0 (Reg.ctorIdx rq) = false) : ((countStall s i fresh hallStill)).dv rq iq = State.dv s rq iq :=
  dev_of iq (fun _ hk => keep_countStall hk) rfl rfl rfl hq
@[simp] theorem se_countStall {xq : State} {s} {i} {fresh} {hallStill}   : SameEvents xq ((countStall s i fresh hallStill)) ↔ SameEvents xq s := se_of (fun _ hk => keep_countStall hk) rfl
@[simp] theorem ts_countStall {s} {i} {fresh} {hallStill}   : ((countStall s i fresh hallStill)).ts = State.ts s := ts_of (fun _ hk => keep_countStall hk) rfl
@[simp] theorem get_observe {s} {i} {te} {phi} {hall} {f0} {f1} {refine} {accZero} {hallStill} {stood}   {rq iq} (hq : Nat.testBit 0x3ffcd59fefff0000039000000000000000000000000000400000000000000000000000000000000000000000000000000000000000000000000000000000007fc800f78000000000000000800000000000000000300022b00000 (Reg.ctorIdx rq) = false) : ((observe s i te phi hall f0 f1 refine accZero hallStill stood)).get rq iq = State.get s rq iq :=
  reg_of iq (fun _ hk => keep_observe hk) rfl rfl rfl hq
@[simp] theorem dv_observe {s} {i} {te} {phi} {hall} {f0} {f1} {refine} {accZero} {hallStill} {stood}   {rq iq} (hq : Nat.testBit 0x0 (Reg.ctorIdx rq) = false) : ((observe s i te phi hall f0 f1 refine accZero hallStill stood)).dv rq iq = State.dv s rq iq :=
  dev_of iq (fun _ hk => keep_observe hk) rfl rfl rfl hq
@[simp] theorem ts_observe {s} {i} {te} {phi} {hall} {f0} {f1} {refine} {accZero} {hallStill} {stood}   : ((observe s i te phi hall f0 f1 refine accZero hallStill stood)).ts = State.ts s := ts_of (fun _ hk => keep_observe hk) rfl
@[simp] theorem get_observerEnable {s} {i}   {rq iq} (hq : Nat.testBit 0x300000000820000000000000000000000000000000000000000000000000000000000000000000000000000000000000000000000000000000000000000000100000040000000000000000000000000000000000000000000000 (Reg.ctorIdx rq) = false) : ((observerEnable s i)).get rq iq = State.get s rq iq :=
  reg_of iq (fun _ hk => keep_observerEnable hk) rfl rfl rfl hq
@[simp] theorem dv_observerEnable {s} {i}   {rq iq} (hq : Nat.testBit 0x0 (Reg.ctorIdx rq) = false) : ((observerEnable s i)).dv rq iq = State.dv s rq iq :=
  dev_of iq (fun _ hk => keep_observerEnable hk) rfl rfl rfl hq
@[simp] theorem se_observerEnable {xq : State} {s} {i}   : SameEvents xq ((observerEnable s i)) ↔ SameEvents xq s := se_of (fun _ hk => keep_observerEnable hk) rfl
@[simp] theorem ts_observerEnable {s} {i}   : ((observerEnable s i)).ts = State.ts s := ts_of (fun _ hk => keep_observerEnable hk) rfl
@[simp] theorem get_observerReset {s} {i}   {rq iq} (hq : Nat.testBit 0x31f00009efdf0000000000000000000000000000000000000000000000000000000000000000000000000000000000000000000000000000000000000000005fc800058000000000000000000000000000000000000000000000 (Reg.ctorIdx rq) = false) : ((observerReset s i)).get rq iq = State.get s rq iq :=
  reg_of iq (fun _ hk => keep_observerReset hk) rfl rfl rfl hq
@[simp] theorem dv_observerReset {s} {i}   {rq iq} (hq : Nat.testBit 0x0 (Reg.ctorIdx rq) = false) : ((observerReset s i)).dv rq iq = State.dv s rq iq :=
  dev_of iq (fun _ hk => keep_observerReset hk) rfl rfl rfl hq
@[simp] theorem se_observerReset {xq : State} {s} {i}   : SameEvents xq ((observerReset s i)) ↔ SameEvents xq s := se_of (fun _ hk => keep_observerReset hk) rfl
@[simp] theorem ts_observerReset {s} {i}   : ((observerReset s i)).ts = State.ts s := ts_of (fun _ hk => keep_observerReset hk) rfl
@[simp] theorem get_State_record {s : State} {kind result actor subject value}  {rq iq} (hq : Nat.testBit 0x700000000000000000000000000000000000000000000000000000000000000000000000000000000060000000000000000000000000000000000000000000000000000000000000000000000000000000000000000000000000000000000000000000000000000000000 (Reg.ctorIdx rq) = false) : ((s.record kind result actor subject value)).get rq iq = State.get s rq iq :=
  reg_of iq (fun _ hk => keep_State_record hk) rfl rfl rfl hq
@[simp] theorem dv_State_record {s : State} {kind result actor subject value}  {rq iq} (hq : Nat.testBit 0x0 (Reg.ctorIdx rq) = false) : ((s.record kind result actor subject value)).dv rq iq = State.dv s rq iq :=
  dev_of iq (fun _ hk => keep_State_record hk) rfl rfl rfl hq
@[simp] theorem se_State_record {xq : State} {s : State} {kind result actor subject value}  : SameEvents xq ((s.record kind result actor subject value)) ↔ SameEvents xq s := se_of (fun _ hk => keep_State_record hk) rfl
@[simp] theorem ts_State_record {s : State} {kind result actor subject value}  : ((s.record kind result actor subject value)).ts = State.ts s := ts_of (fun _ hk => keep_State_record hk) rfl
@[simp] theorem get_State_sendCan {s} {id} {data}   {rq iq} (hq : Nat.testBit 0x0 (Reg.ctorIdx rq) = false) : ((State.sendCan s id data)).get rq iq = State.get s rq iq :=
  reg_of iq (fun _ hk => keep_State_sendCan hk) rfl rfl rfl hq
@[simp] theorem dv_State_sendCan {s} {id} {data}   {rq iq} (hq : Nat.testBit 0x0 (Reg.ctorIdx rq) = false) : ((State.sendCan s id data)).dv rq iq = State.dv s rq iq :=
  dev_of iq (fun _ hk => keep_State_sendCan hk) rfl rfl rfl hq
@[simp] theorem se_State_sendCan {xq : State} {s} {id} {data}   : SameEvents xq ((State.sendCan s id data)) ↔ SameEvents xq s := se_of (fun _ hk => keep_State_sendCan hk) rfl
@[simp] theorem ts_State_sendCan {s} {id} {data}   : ((State.sendCan s id data)).ts = State.ts s := ts_of (fun _ hk => keep_State_sendCan hk) rfl
@[simp] theorem get_sendEmcy {s} {m}   {rq iq} (hq : Nat.testBit 0x300000000000000000000000000000000000000000000000000000000000000000000000000000000000000000000000000000000000000000000000000000000000000000000000000000000000000000000000000000000000000000000000000000000000000000 (Reg.ctorIdx rq) = false) : ((sendEmcy s m)).get rq iq = State.get s rq iq :=
  reg_of iq (fun _ hk => keep_sendEmcy hk) rfl rfl rfl hq
@[simp] theorem dv_sendEmcy {s} {m}   {rq iq} (hq : Nat.testBit 0x0 (Reg.ctorIdx rq) = false) : ((sendEmcy s m)).dv rq iq = State.dv s rq iq :=
  dev_of iq (fun _ hk => keep_sendEmcy hk) rfl rfl rfl hq
@[simp] theorem se_sendEmcy {xq : State} {s} {m}   : SameEvents xq ((sendEmcy s m)) ↔ SameEvents xq s := se_of (fun _ hk => keep_sendEmcy hk) rfl
@[simp] theorem ts_sendEmcy {s} {m}   : ((sendEmcy s m)).ts = State.ts s := ts_of (fun _ hk => keep_sendEmcy hk) rfl
@[simp] theorem get_pushHistory {s e}  {rq iq} (hq : Nat.testBit 0x60000000000000000000000000000000000000000000000000000000000000000000000000000000000000000000000000000000000000000000000000000000000000000000000000000000000000000000000000000000000000000000000000000000000000000 (Reg.ctorIdx rq) = false) : ((pushHistory s e)).get rq iq = State.get s rq iq :=
  reg_of iq (fun _ hk => keep_pushHistory hk) rfl rfl rfl hq
@[simp] theorem dv_pushHistory {s e}  {rq iq} (hq : Nat.testBit 0x0 (Reg.ctorIdx rq) = false) : ((pushHistory s e)).dv rq iq = State.dv s rq iq :=
  dev_of iq (fun _ hk => keep_pushHistory hk) rfl rfl rfl hq
@[simp] theorem se_pushHistory {xq : State} {s e}  : SameEvents xq ((pushHistory s e)) ↔ SameEvents xq s := se_of (fun _ hk => keep_pushHistory hk) rfl
@[simp] theorem ts_pushHistory {s e}  : ((pushHistory s e)).ts = State.ts s := ts_of (fun _ hk => keep_pushHistory hk) rfl
@[simp] theorem get_State_emcy {s : State} {code slot cause event}  {rq iq} (hq : Nat.testBit 0x360000000000000000000000000000000000000000000000000000000000000000000000000000000000000000000000000000000000000000000000000000000000000000000000000000000000000000000000000000000000000000000000000000000000000000 (Reg.ctorIdx rq) = false) : ((s.emcy code slot cause event)).get rq iq = State.get s rq iq :=
  reg_of iq (fun _ hk => keep_State_emcy hk) rfl rfl rfl hq
@[simp] theorem dv_State_emcy {s : State} {code slot cause event}  {rq iq} (hq : Nat.testBit 0x0 (Reg.ctorIdx rq) = false) : ((s.emcy code slot cause event)).dv rq iq = State.dv s rq iq :=
  dev_of iq (fun _ hk => keep_State_emcy hk) rfl rfl rfl hq
@[simp] theorem se_State_emcy {xq : State} {s : State} {code slot cause event}  : SameEvents xq ((s.emcy code slot cause event)) ↔ SameEvents xq s := se_of (fun _ hk => keep_State_emcy hk) rfl
@[simp] theorem ts_State_emcy {s : State} {code slot cause event}  : ((s.emcy code slot cause event)).ts = State.ts s := ts_of (fun _ hk => keep_State_emcy hk) rfl
@[simp] theorem get_State_emcyIfClear {s} {slot}   {rq iq} (hq : Nat.testBit 0x360000000000000000000000000000000000000000000000000000000000000000000000000000000000000000000000000000000000000000000000000000000000000000000000000000000000000000000000000000000000000000000000000000000000000000 (Reg.ctorIdx rq) = false) : ((State.emcyIfClear s slot)).get rq iq = State.get s rq iq :=
  reg_of iq (fun _ hk => keep_State_emcyIfClear hk) rfl rfl rfl hq
@[simp] theorem dv_State_emcyIfClear {s} {slot}   {rq iq} (hq : Nat.testBit 0x0 (Reg.ctorIdx rq) = false) : ((State.emcyIfClear s slot)).dv rq iq = State.dv s rq iq :=
  dev_of iq (fun _ hk => keep_State_emcyIfClear hk) rfl rfl rfl hq
@[simp] theorem se_State_emcyIfClear {xq : State} {s} {slot}   : SameEvents xq ((State.emcyIfClear s slot)) ↔ SameEvents xq s := se_of (fun _ hk => keep_State_emcyIfClear hk) rfl
@[simp] theorem ts_State_emcyIfClear {s} {slot}   : ((State.emcyIfClear s slot)).ts = State.ts s := ts_of (fun _ hk => keep_State_emcyIfClear hk) rfl
@[simp] theorem get_emcyRelease {s}  {rq iq} (hq : Nat.testBit 0x300000000000000000000000000000000000000000000000000000000000000000000000000000000000000000000000000000000000000000000000000000000000000000000000000000000000000000000000000000000000000000000000000000000000000000 (Reg.ctorIdx rq) = false) : ((emcyRelease s)).get rq iq = State.get s rq iq :=
  reg_of iq (fun _ hk => keep_emcyRelease hk) rfl rfl rfl hq
@[simp] theorem dv_emcyRelease {s}  {rq iq} (hq : Nat.testBit 0x0 (Reg.ctorIdx rq) = false) : ((emcyRelease s)).dv rq iq = State.dv s rq iq :=
  dev_of iq (fun _ hk => keep_emcyRelease hk) rfl rfl rfl hq
@[simp] theorem se_emcyRelease {xq : State} {s}  : SameEvents xq ((emcyRelease s)) ↔ SameEvents xq s := se_of (fun _ hk => keep_emcyRelease hk) rfl
@[simp] theorem ts_emcyRelease {s}  : ((emcyRelease s)).ts = State.ts s := ts_of (fun _ hk => keep_emcyRelease hk) rfl
@[simp] theorem get_absorb {s} {kind} {event} {slot} {arg}   {rq iq} (hq : Nat.testBit 0x700360000000000000000000000000000000000000000000000000000000000000000000000000000060000000000000000100000000000000000000000000000000000000000000000000000000000000000000000000000000000000000000000000000000000000000 (Reg.ctorIdx rq) = false) : ((absorb s kind event slot arg)).get rq iq = State.get s rq iq :=
  reg_of iq (fun _ hk => keep_absorb hk) rfl rfl rfl hq
@[simp] theorem dv_absorb {s} {kind} {event} {slot} {arg}   {rq iq} (hq : Nat.testBit 0x0 (Reg.ctorIdx rq) = false) : ((absorb s kind event slot arg)).dv rq iq = State.dv s rq iq :=
  dev_of iq (fun _ hk => keep_absorb hk) rfl rfl rfl hq
@[simp] theorem se_absorb {xq : State} {s} {kind} {event} {slot} {arg}   : SameEvents xq ((absorb s kind event slot arg)) ↔ SameEvents xq s := se_of (fun _ hk => keep_absorb hk) rfl
@[simp] theorem ts_absorb {s} {kind} {event} {slot} {arg}   : ((absorb s kind event slot arg)).ts = State.ts s := ts_of (fun _ hk => keep_absorb hk) rfl
@[simp] theorem get_setRedLost {s} {k} {b}   {rq iq} (hq : Nat.testBit 0x360000000000000000000000000000000000000000000000000000000000000000000000000040000000000000000000080000000000000000000000000000000000000000000000000000000000000000000000000000000000000000000000000000300022b00000 (Reg.ctorIdx rq) = false) : ((setRedLost s k b)).get rq iq = State.get s rq iq :=
  reg_of iq (fun _ hk => keep_setRedLost hk) rfl rfl rfl hq
@[simp] theorem dv_setRedLost {s} {k} {b}   {rq iq} (hq : Nat.testBit 0x0 (Reg.ctorIdx rq) = false) : ((setRedLost s k b)).dv rq iq = State.dv s rq iq :=
  dev_of iq (fun _ hk => keep_setRedLost hk) rfl rfl rfl hq
@[simp] theorem ts_setRedLost {s} {k} {b}   : ((setRedLost s k b)).ts = State.ts s := ts_of (fun _ hk => keep_setRedLost hk) rfl
@[simp] theorem get_refreshEngines {s}   {rq iq} (hq : Nat.testBit 0x360000000000000000000000000000000000000000000000000000000000000000000000200040000000000000000000080000000000000000000000000000000000000000000000000000000000000000000000000000000000000000000000000100300022b00000 (Reg.ctorIdx rq) = false) : ((refreshEngines s)).get rq iq = State.get s rq iq :=
  reg_of iq (fun _ hk => keep_refreshEngines hk) rfl rfl rfl hq
@[simp] theorem dv_refreshEngines {s}   {rq iq} (hq : Nat.testBit 0x0 (Reg.ctorIdx rq) = false) : ((refreshEngines s)).dv rq iq = State.dv s rq iq :=
  dev_of iq (fun _ hk => keep_refreshEngines hk) rfl rfl rfl hq
@[simp] theorem ts_refreshEngines {s}   : ((refreshEngines s)).ts = State.ts s := ts_of (fun _ hk => keep_refreshEngines hk) rfl
@[simp] theorem get_stripEnd {s}   {rq iq} (hq : Nat.testBit 0x360000000000000e00000000000000000000000000000000000000000000000000000000200040000000000000004000080000000000000000000000000000000000000000000000000000000000000000000000000000000000000000000000000100300022b00000 (Reg.ctorIdx rq) = false) : ((stripEnd s)).get rq iq = State.get s rq iq :=
  reg_of iq (fun _ hk => keep_stripEnd hk) rfl rfl rfl hq
@[simp] theorem dv_stripEnd {s}   {rq iq} (hq : Nat.testBit 0x0 (Reg.ctorIdx rq) = false) : ((stripEnd s)).dv rq iq = State.dv s rq iq :=
  dev_of iq (fun _ hk => keep_stripEnd hk) rfl rfl rfl hq
@[simp] theorem ts_stripEnd {s}   : ((stripEnd s)).ts = State.ts s := ts_of (fun _ hk => keep_stripEnd hk) rfl
@[simp] theorem get_stripCancel {s} {i}   {rq iq} (hq : Nat.testBit 0x360000000000000e00000000000000000000000000000000000000000000000000000000200040000000000000004000080000000000000000000000000000000000000000000000000000000000000000000000000000000000000000000000000100300022b00000 (Reg.ctorIdx rq) = false) : ((stripCancel s i)).get rq iq = State.get s rq iq :=
  reg_of iq (fun _ hk => keep_stripCancel hk) rfl rfl rfl hq
@[simp] theorem dv_stripCancel {s} {i}   {rq iq} (hq : Nat.testBit 0x0 (Reg.ctorIdx rq) = false) : ((stripCancel s i)).dv rq iq = State.dv s rq iq :=
  dev_of iq (fun _ hk => keep_stripCancel hk) rfl rfl rfl hq
@[simp] theorem ts_stripCancel {s} {i}   : ((stripCancel s i)).ts = State.ts s := ts_of (fun _ hk => keep_stripCancel hk) rfl
@[simp] theorem get_judgeMailbox {s}   {rq iq} (hq : Nat.testBit 0x180000000000000000000000000000000000000000000000000000000000000000000000000000000000000000000000000000000000000000000000000000 (Reg.ctorIdx rq) = false) : ((judgeMailbox s)).get rq iq = State.get s rq iq :=
  reg_of iq (fun _ hk => keep_judgeMailbox hk) rfl rfl rfl hq
@[simp] theorem dv_judgeMailbox {s}   {rq iq} (hq : Nat.testBit 0x0 (Reg.ctorIdx rq) = false) : ((judgeMailbox s)).dv rq iq = State.dv s rq iq :=
  dev_of iq (fun _ hk => keep_judgeMailbox hk) rfl rfl rfl hq
@[simp] theorem se_judgeMailbox {xq : State} {s}   : SameEvents xq ((judgeMailbox s)) ↔ SameEvents xq s := se_of (fun _ hk => keep_judgeMailbox hk) rfl
@[simp] theorem ts_judgeMailbox {s}   : ((judgeMailbox s)).ts = State.ts s := ts_of (fun _ hk => keep_judgeMailbox hk) rfl
@[simp] theorem get_drainOut {n s acc}  {rq iq} (hq : Nat.testBit 0x40000000000000000000000000000000000000000000000000000000000000000000000000000000000000000000000000000000000000000000000000000000000040000000000000000000000000000000000000000000000000000000000000000000000000000000000000000000000000000000000000000000000000300022b80000 (Reg.ctorIdx rq) = false) : ((drainOut n s acc)).get rq iq = State.get s rq iq :=
  reg_of iq (fun _ hk => keep_drainOut hk) rfl rfl rfl hq
@[simp] theorem dv_drainOut {n s acc}  {rq iq} (hq : Nat.testBit 0x0 (Reg.ctorIdx rq) = false) : ((drainOut n s acc)).dv rq iq = State.dv s rq iq :=
  dev_of iq (fun _ hk => keep_drainOut hk) rfl rfl rfl hq
@[simp] theorem ts_drainOut {n s acc}  : ((drainOut n s acc)).ts = State.ts s := ts_of (fun _ hk => keep_drainOut hk) rfl
@[simp] theorem get_drainQ15 {s}   {rq iq} (hq : Nat.testBit 0x40000000000000000000000000000000000000000000000000000000000000000000000000000000000000000000000000000000000000000000000000000000000040000000180000000000000000000000000000000000000000000000000000000000000000000000000000000000000000000000000000000000000000300022b80000 (Reg.ctorIdx rq) = false) : ((drainQ15 s)).get rq iq = State.get s rq iq :=
  reg_of iq (fun _ hk => keep_drainQ15 hk) rfl rfl rfl hq
@[simp] theorem dv_drainQ15 {s}   {rq iq} (hq : Nat.testBit 0x0 (Reg.ctorIdx rq) = false) : ((drainQ15 s)).dv rq iq = State.dv s rq iq :=
  dev_of iq (fun _ hk => keep_drainQ15 hk) rfl rfl rfl hq
@[simp] theorem ts_drainQ15 {s}   : ((drainQ15 s)).ts = State.ts s := ts_of (fun _ hk => keep_drainQ15 hk) rfl
@[simp] theorem get_putFrame {s} {path} {f}   {rq iq} (hq : Nat.testBit 0x40000000000000000000000000000000000000000000000000000000000000000000000000000000000000000000000000000000000000000000000000000000000040000000000000000000000000000000000000000000000000000000000000000000000000000000000000000000000000000000000000000000000000700022b00000 (Reg.ctorIdx rq) = false) : ((putFrame s path f)).get rq iq = State.get s rq iq :=
  reg_of iq (fun _ hk => keep_putFrame hk) rfl rfl rfl hq
@[simp] theorem dv_putFrame {s} {path} {f}   {rq iq} (hq : Nat.testBit 0x0 (Reg.ctorIdx rq) = false) : ((putFrame s path f)).dv rq iq = State.dv s rq iq :=
  dev_of iq (fun _ hk => keep_putFrame hk) rfl rfl rfl hq
@[simp] theorem ts_putFrame {s} {path} {f}   : ((putFrame s path f)).ts = State.ts s := ts_of (fun _ hk => keep_putFrame hk) rfl
@[simp] theorem get_pushWaiting {s l}  {rq iq} (hq : Nat.testBit 0x40000000000000000000000000000000000000000000000000000000000000000000000000000000000000000000000000000000000000000000000000000000000040000000180000000000000000000000000000000000000000000000000000000000000000000000000000000000000000000000000000000000000000700022b80000 (Reg.ctorIdx rq) = false) : ((pushWaiting s l)).get rq iq = State.get s rq iq :=
  reg_of iq (fun _ hk => keep_pushWaiting hk) rfl rfl rfl hq
@[simp] theorem dv_pushWaiting {s l}  {rq iq} (hq : Nat.testBit 0x0 (Reg.ctorIdx rq) = false) : ((pushWaiting s l)).dv rq iq = State.dv s rq iq :=
  dev_of iq (fun _ hk => keep_pushWaiting hk) rfl rfl rfl hq
@[simp] theorem ts_pushWaiting {s l}  : ((pushWaiting s l)).ts = State.ts s := ts_of (fun _ hk => keep_pushWaiting hk) rfl
@[simp] theorem get_pumpOut {s}   {rq iq} (hq : Nat.testBit 0x40000000000000000000000000000000000000000000000000000000000000000000000000000000000000000000000000000000000000000000000000000000000040000000180000000000000000000000000000000000000000000000000000000000000000000000000000000000000000000000000000000000000000700022b80000 (Reg.ctorIdx rq) = false) : ((pumpOut s)).get rq iq = State.get s rq iq :=
  reg_of iq (fun _ hk => keep_pumpOut hk) rfl rfl rfl hq
@[simp] theorem dv_pumpOut {s}   {rq iq} (hq : Nat.testBit 0x0 (Reg.ctorIdx rq) = false) : ((pumpOut s)).dv rq iq = State.dv s rq iq :=
  dev_of iq (fun _ hk => keep_pumpOut hk) rfl rfl rfl hq
@[simp] theorem ts_pumpOut {s}   : ((pumpOut s)).ts = State.ts s := ts_of (fun _ hk => keep_pumpOut hk) rfl
@[simp] theorem get_respond {s path flags seq cmd status payload}  {rq iq} (hq : Nat.testBit 0x40000000000000000000000000000000000000000000000000000000000000000000000000000000000000000000000000000000000000000000000000000000000040000000180000000000000000000000000000000000000000000000000000000000000000000000000000000000000000000000000000000000000000700022b80000 (Reg.ctorIdx rq) = false) : ((respond s path flags seq cmd status payload)).get rq iq = State.get s rq iq :=
  reg_of iq (fun _ hk => keep_respond hk) rfl rfl rfl hq
@[simp] theorem dv_respond {s path flags seq cmd status payload}  {rq iq} (hq : Nat.testBit 0x0 (Reg.ctorIdx rq) = false) : ((respond s path flags seq cmd status payload)).dv rq iq = State.dv s rq iq :=
  dev_of iq (fun _ hk => keep_respond hk) rfl rfl rfl hq
@[simp] theorem ts_respond {s path flags seq cmd status payload}  : ((respond s path flags seq cmd status payload)).ts = State.ts s := ts_of (fun _ hk => keep_respond hk) rfl
@[simp] theorem get_mbxOut {s}   {rq iq} (hq : Nat.testBit 0x40000000000000000000000000000000000000000000000000000000000000000000000000000000000000000000000000000000000000000000000000000000000040000000180000000000000000000000000000000000000000000000000000000000000000000000000000000000000000000000000000000000000000700022b80000 (Reg.ctorIdx rq) = false) : ((mbxOut s).1).get rq iq = State.get s rq iq :=
  reg_of iq (fun _ hk => keep_mbxOut hk) rfl rfl rfl hq
@[simp] theorem dv_mbxOut {s}   {rq iq} (hq : Nat.testBit 0x0 (Reg.ctorIdx rq) = false) : ((mbxOut s).1).dv rq iq = State.dv s rq iq :=
  dev_of iq (fun _ hk => keep_mbxOut hk) rfl rfl rfl hq
@[simp] theorem ts_mbxOut {s}   : ((mbxOut s).1).ts = State.ts s := ts_of (fun _ hk => keep_mbxOut hk) rfl
@[simp] theorem get_dropHead {n s}  {rq iq} (hq : Nat.testBit 0x40000000000000000000000000000000000000000000000000000000000000000000000000000000000000000000000000000000000000000000000000300022b80000 (Reg.ctorIdx rq) = false) : ((dropHead n s)).get rq iq = State.get s rq iq :=
  reg_of iq (fun _ hk => keep_dropHead hk) rfl rfl rfl hq
@[simp] theorem dv_dropHead {n s}  {rq iq} (hq : Nat.testBit 0x0 (Reg.ctorIdx rq) = false) : ((dropHead n s)).dv rq iq = State.dv s rq iq :=
  dev_of iq (fun _ hk => keep_dropHead hk) rfl rfl rfl hq
@[simp] theorem ts_dropHead {n s}  : ((dropHead n s)).ts = State.ts s := ts_of (fun _ hk => keep_dropHead hk) rfl
@[simp] theorem get_outTimeout {s}   {rq iq} (hq : Nat.testBit 0x40000000000000000000000000000000000000000000000000000000000000000000000000000000000000000000000000000000000000000000000000000000000040000000580000000000000000000000000000000000000000000000000000000000000000000000000000000000000000000000000000000000000000700022b80000 (Reg.ctorIdx rq) = false) : ((outTimeout s)).get rq iq = State.get s rq iq :=
  reg_of iq (fun _ hk => keep_outTimeout hk) rfl rfl rfl hq
@[simp] theorem dv_outTimeout {s}   {rq iq} (hq : Nat.testBit 0x0 (Reg.ctorIdx rq) = false) : ((outTimeout s)).dv rq iq = State.dv s rq iq :=
  dev_of iq (fun _ hk => keep_outTimeout hk) rfl rfl rfl hq
@[simp] theorem ts_outTimeout {s}   : ((outTimeout s)).ts = State.ts s := ts_of (fun _ hk => keep_outTimeout hk) rfl
@[simp] theorem get_frameArrived {s} {path} {f}   {rq iq} (hq : Nat.testBit 0x60000000000000000000000000000000000000000000000000000000000000000000000000000000000000000000000000000000000000000000000000000000000040000000180000000000000000000000000000000000000000000000000000000000000000000000000000000000000000000000000000000000000000700022b80000 (Reg.ctorIdx rq) = false) : ((frameArrived s path f)).get rq iq = State.get s rq iq :=
  reg_of iq (fun _ hk => keep_frameArrived hk) rfl rfl rfl hq
@[simp] theorem dv_frameArrived {s} {path} {f}   {rq iq} (hq : Nat.testBit 0x0 (Reg.ctorIdx rq) = false) : ((frameArrived s path f)).dv rq iq = State.dv s rq iq :=
  dev_of iq (fun _ hk => keep_frameArrived hk) rfl rfl rfl hq
@[simp] theorem ts_frameArrived {s} {path} {f}   : ((frameArrived s path f)).ts = State.ts s := ts_of (fun _ hk => keep_frameArrived hk) rfl
@[simp] theorem get_drainIn {n s}  {rq iq} (hq : Nat.testBit 0x60000000000000000000000000000000000000000000000000000000000000000000000000000000000000000000000000000000000000000000000000000000000040000000180000000000000000000000000000000000000000000000000000000000000000000000000000000000000000000000000000000000000000700022b80000 (Reg.ctorIdx rq) = false) : ((drainIn n s)).get rq iq = State.get s rq iq :=
  reg_of iq (fun _ hk => keep_drainIn hk) rfl rfl rfl hq
@[simp] theorem dv_drainIn {n s}  {rq iq} (hq : Nat.testBit 0x0 (Reg.ctorIdx rq) = false) : ((drainIn n s)).dv rq iq = State.dv s rq iq :=
  dev_of iq (fun _ hk => keep_drainIn hk) rfl rfl rfl hq
@[simp] theorem ts_drainIn {n s}  : ((drainIn n s)).ts = State.ts s := ts_of (fun _ hk => keep_drainIn hk) rfl
@[simp] theorem get_offerEntry {s} {path} {w}   {rq iq} (hq : Nat.testBit 0x60000000000000000000000000000000000000000000000000000000000000000000000000000000000000000000000000000000000000000000000000000000000040000000380000000000000000000000000000000000000000000000000000000000000000000000000000000000000000000000000000000000000000700022b80000 (Reg.ctorIdx rq) = false) : ((offerEntry s path w)).get rq iq = State.get s rq iq :=
  reg_of iq (fun _ hk => keep_offerEntry hk) rfl rfl rfl hq
@[simp] theorem dv_offerEntry {s} {path} {w}   {rq iq} (hq : Nat.testBit 0x0 (Reg.ctorIdx rq) = false) : ((offerEntry s path w)).dv rq iq = State.dv s rq iq :=
  dev_of iq (fun _ hk => keep_offerEntry hk) rfl rfl rfl hq
@[simp] theorem ts_offerEntry {s} {path} {w}   : ((offerEntry s path w)).ts = State.ts s := ts_of (fun _ hk => keep_offerEntry hk) rfl
@[simp] theorem get_mbxIn {s} {w}   {rq iq} (hq : Nat.testBit 0x60000000000000000000000000000000000000000000000000000000000000000000000000000000000000000000000000000000000000000000000000000000000040000000380000000000000000000000000000000000000000000000000000000000000000000000000000000000000000000000000000000000000000700022b80000 (Reg.ctorIdx rq) = false) : ((mbxIn s w)).get rq iq = State.get s rq iq :=
  reg_of iq (fun _ hk => keep_mbxIn hk) rfl rfl rfl hq
@[simp] theorem dv_mbxIn {s} {w}   {rq iq} (hq : Nat.testBit 0x0 (Reg.ctorIdx rq) = false) : ((mbxIn s w)).dv rq iq = State.dv s rq iq :=
  dev_of iq (fun _ hk => keep_mbxIn hk) rfl rfl rfl hq
@[simp] theorem ts_mbxIn {s} {w}   : ((mbxIn s w)).ts = State.ts s := ts_of (fun _ hk => keep_mbxIn hk) rfl
@[simp] theorem get_frameWrite {s} {bytes}   {rq iq} (hq : Nat.testBit 0x600000000000000000000000000000000000000000000000000000000000000000000000000000000000000000000000000000000000000000000000000000000000c0000000380000000000000000000000000000000000000000000000000000000000000000000000000000000000000000000000000000000000000000700022b80000 (Reg.ctorIdx rq) = false) : ((frameWrite s bytes)).get rq iq = State.get s rq iq :=
  reg_of iq (fun _ hk => keep_frameWrite hk) rfl rfl rfl hq
@[simp] theorem dv_frameWrite {s} {bytes}   {rq iq} (hq : Nat.testBit 0x0 (Reg.ctorIdx rq) = false) : ((frameWrite s bytes)).dv rq iq = State.dv s rq iq :=
  dev_of iq (fun _ hk => keep_frameWrite hk) rfl rfl rfl hq
@[simp] theorem ts_frameWrite {s} {bytes}   : ((frameWrite s bytes)).ts = State.ts s := ts_of (fun _ hk => keep_frameWrite hk) rfl
@[simp] theorem get_frameRead {s}  {rq iq} (hq : Nat.testBit 0x80000000000000000000000000000000000000000000000000000000000000000000000000000000000000000000000000000000000000000000000000000000000000 (Reg.ctorIdx rq) = false) : ((frameRead s)).get rq iq = State.get s rq iq :=
  reg_of iq (fun _ hk => keep_frameRead hk) rfl rfl rfl hq
@[simp] theorem dv_frameRead {s}  {rq iq} (hq : Nat.testBit 0x0 (Reg.ctorIdx rq) = false) : ((frameRead s)).dv rq iq = State.dv s rq iq :=
  dev_of iq (fun _ hk => keep_frameRead hk) rfl rfl rfl hq
@[simp] theorem se_frameRead {xq : State} {s}  : SameEvents xq ((frameRead s)) ↔ SameEvents xq s := se_of (fun _ hk => keep_frameRead hk) rfl
@[simp] theorem ts_frameRead {s}  : ((frameRead s)).ts = State.ts s := ts_of (fun _ hk => keep_frameRead hk) rfl
@[simp] theorem get_discardPartial {s path}  {rq iq} (hq : Nat.testBit 0x0 (Reg.ctorIdx rq) = false) : ((discardPartial s path)).get rq iq = State.get s rq iq :=
  reg_of iq (fun _ hk => keep_discardPartial hk) rfl rfl rfl hq
@[simp] theorem dv_discardPartial {s path}  {rq iq} (hq : Nat.testBit 0x0 (Reg.ctorIdx rq) = false) : ((discardPartial s path)).dv rq iq = State.dv s rq iq :=
  dev_of iq (fun _ hk => keep_discardPartial hk) rfl rfl rfl hq
@[simp] theorem se_discardPartial {xq : State} {s path}  : SameEvents xq ((discardPartial s path)) ↔ SameEvents xq s := se_of (fun _ hk => keep_discardPartial hk) rfl
@[simp] theorem ts_discardPartial {s path}  : ((discardPartial s path)).ts = State.ts s := ts_of (fun _ hk => keep_discardPartial hk) rfl
@[simp] theorem get_portOff {s} {p}   {rq iq} (hq : Nat.testBit 0x60000000000000000000000000000000300800000000000000000000000000000000000000000000000000000000000000000000000000000000000000000000000000000000000000000000000000000000000000000000000000000000000000000000000000000000000 (Reg.ctorIdx rq) = false) : ((portOff s p)).get rq iq = State.get s rq iq :=
  reg_of iq (fun _ hk => keep_portOff hk) rfl rfl rfl hq
@[simp] theorem dv_portOff {s} {p}   {rq iq} (hq : Nat.testBit 0x0 (Reg.ctorIdx rq) = false) : ((portOff s p)).dv rq iq = State.dv s rq iq :=
  dev_of iq (fun _ hk => keep_portOff hk) rfl rfl rfl hq
@[simp] theorem se_portOff {xq : State} {s} {p}   : SameEvents xq ((portOff s p)) ↔ SameEvents xq s := se_of (fun _ hk => keep_portOff hk) rfl
@[simp] theorem ts_portOff {s} {p}   : ((portOff s p)).ts = State.ts s := ts_of (fun _ hk => keep_portOff hk) rfl
@[simp] theorem get_portsOff {s} {ps}   {rq iq} (hq : Nat.testBit 0x60000000000000000000000000000000300800000000000000000000000000000000000000000000000000000000000000000000000000000000000000000000000000000000000000000000000000000000000000000000000000000000000000000000000000000000000 (Reg.ctorIdx rq) = false) : ((portsOff s ps)).get rq iq = State.get s rq iq :=
  reg_of iq (fun _ hk => keep_portsOff hk) rfl rfl rfl hq
@[simp] theorem dv_portsOff {s} {ps}   {rq iq} (hq : Nat.testBit 0x0 (Reg.ctorIdx rq) = false) : ((portsOff s ps)).dv rq iq = State.dv s rq iq :=
  dev_of iq (fun _ hk => keep_portsOff hk) rfl rfl rfl hq
@[simp] theorem se_portsOff {xq : State} {s} {ps}   : SameEvents xq ((portsOff s ps)) ↔ SameEvents xq s := se_of (fun _ hk => keep_portsOff hk) rfl
@[simp] theorem ts_portsOff {s} {ps}   : ((portsOff s ps)).ts = State.ts s := ts_of (fun _ hk => keep_portsOff hk) rfl
@[simp] theorem get_slotPortsOff {s} {i}   {rq iq} (hq : Nat.testBit 0x60000000000000000000000000000000300800000000000000000000000000000000000000000000000000000000000000000000000000000000000000000000000000000000000000000000000000000000000000000000000000000000000000000000000000000000000 (Reg.ctorIdx rq) = false) : ((slotPortsOff s i)).get rq iq = State.get s rq iq :=
  reg_of iq (fun _ hk => keep_slotPortsOff hk) rfl rfl rfl hq
@[simp] theorem dv_slotPortsOff {s} {i}   {rq iq} (hq : Nat.testBit 0x0 (Reg.ctorIdx rq) = false) : ((slotPortsOff s i)).dv rq iq = State.dv s rq iq :=
  dev_of iq (fun _ hk => keep_slotPortsOff hk) rfl rfl rfl hq
@[simp] theorem se_slotPortsOff {xq : State} {s} {i}   : SameEvents xq ((slotPortsOff s i)) ↔ SameEvents xq s := se_of (fun _ hk => keep_slotPortsOff hk) rfl
@[simp] theorem ts_slotPortsOff {s} {i}   : ((slotPortsOff s i)).ts = State.ts s := ts_of (fun _ hk => keep_slotPortsOff hk) rfl
@[simp] theorem get_loadAll {s} {g}   {rq iq} (hq : Nat.testBit 0x300000000000000000000000000000000000000000000000000000000000000000000000000000000000000000000000000000000000000000000000040004000000000000000000000000000000000000000000000000000000000000 (Reg.ctorIdx rq) = false) : ((loadAll s g)).get rq iq = State.get s rq iq :=
  reg_of iq (fun _ hk => keep_loadAll hk) rfl rfl rfl hq
@[simp] theorem dv_loadAll {s} {g}   {rq iq} (hq : Nat.testBit 0x0 (Reg.ctorIdx rq) = false) : ((loadAll s g)).dv rq iq = State.dv s rq iq :=
  dev_of iq (fun _ hk => keep_loadAll hk) rfl rfl rfl hq
@[simp] theorem se_loadAll {xq : State} {s} {g}   : SameEvents xq ((loadAll s g)) ↔ SameEvents xq s := se_of (fun _ hk => keep_loadAll hk) rfl
@[simp] theorem ts_loadAll {s} {g}   : ((loadAll s g)).ts = State.ts s := ts_of (fun _ hk => keep_loadAll hk) rfl
@[simp] theorem get_budgetPeriod {s} {p}   {rq iq} (hq : Nat.testBit 0x400000000000000000000000000000000000000000000000000000000000000000000000000000000000000000000000000000000000000000000000000000000000000000000000000000004002000000000000000000000000000000000000000000000000000000000000 (Reg.ctorIdx rq) = false) : ((budgetPeriod s p)).get rq iq = State.get s rq iq :=
  reg_of iq (fun _ hk => keep_budgetPeriod hk) rfl rfl rfl hq
@[simp] theorem dv_budgetPeriod {s} {p}   {rq iq} (hq : Nat.testBit 0x0 (Reg.ctorIdx rq) = false) : ((budgetPeriod s p)).dv rq iq = State.dv s rq iq :=
  dev_of iq (fun _ hk => keep_budgetPeriod hk) rfl rfl rfl hq
@[simp] theorem se_budgetPeriod {xq : State} {s} {p}   : SameEvents xq ((budgetPeriod s p)) ↔ SameEvents xq s := se_of (fun _ hk => keep_budgetPeriod hk) rfl
@[simp] theorem ts_budgetPeriod {s} {p}   : ((budgetPeriod s p)).ts = State.ts s := ts_of (fun _ hk => keep_budgetPeriod hk) rfl
@[simp] theorem get_developPeriod {s} {p}   {rq iq} (hq : Nat.testBit 0x500000000000000000000000000000000000000000000000000000000000000000000000000000000000000000000000000000000000000000000000000000000000000000000000000000004002000000000000000000000000000000000000000000000000000000000000 (Reg.ctorIdx rq) = false) : ((developPeriod s p)).get rq iq = State.get s rq iq :=
  reg_of iq (fun _ hk => keep_developPeriod hk) rfl rfl rfl hq
@[simp] theorem dv_developPeriod {s} {p}   {rq iq} (hq : Nat.testBit 0x0 (Reg.ctorIdx rq) = false) : ((developPeriod s p)).dv rq iq = State.dv s rq iq :=
  dev_of iq (fun _ hk => keep_developPeriod hk) rfl rfl rfl hq
@[simp] theorem se_developPeriod {xq : State} {s} {p}   : SameEvents xq ((developPeriod s p)) ↔ SameEvents xq s := se_of (fun _ hk => keep_developPeriod hk) rfl
@[simp] theorem ts_developPeriod {s} {p}   : ((developPeriod s p)).ts = State.ts s := ts_of (fun _ hk => keep_developPeriod hk) rfl
@[simp] theorem get_showCompare {s} {p} {c} {full}   {rq iq} (hq : Nat.testBit 0x80000000000000000000000000000000000000000000000000000000000000000000000000000000000000000000000000000000000000000000010000000000000000000000000000000000000000000000000000000000000000 (Reg.ctorIdx rq) = false) : ((showCompare s p c full)).get rq iq = State.get s rq iq :=
  reg_of iq (fun _ hk => keep_showCompare hk) rfl rfl rfl hq
@[simp] theorem dv_showCompare {s} {p} {c} {full}   {rq iq} (hq : Nat.testBit 0x0 (Reg.ctorIdx rq) = false) : ((showCompare s p c full)).dv rq iq = State.dv s rq iq :=
  dev_of iq (fun _ hk => keep_showCompare hk) rfl rfl rfl hq
@[simp] theorem se_showCompare {xq : State} {s} {p} {c} {full}   : SameEvents xq ((showCompare s p c full)) ↔ SameEvents xq s := se_of (fun _ hk => keep_showCompare hk) rfl
@[simp] theorem ts_showCompare {s} {p} {c} {full}   : ((showCompare s p c full)).ts = State.ts s := ts_of (fun _ hk => keep_showCompare hk) rfl
@[simp] theorem get_developDuty {s} {p}   {rq iq} (hq : Nat.testBit 0x80000000000000000000000000000000000000000000000040000000000000000000000000000000000000000000000000000000000000000000010008000000000000000000000000000000000000000000000000300022b00000 (Reg.ctorIdx rq) = false) : ((developDuty s p)).get rq iq = State.get s rq iq :=
  reg_of iq (fun _ hk => keep_developDuty hk) rfl rfl rfl hq
@[simp] theorem dv_developDuty {s} {p}   {rq iq} (hq : Nat.testBit 0x0 (Reg.ctorIdx rq) = false) : ((developDuty s p)).dv rq iq = State.dv s rq iq :=
  dev_of iq (fun _ hk => keep_developDuty hk) rfl rfl rfl hq
@[simp] theorem ts_developDuty {s} {p}   : ((developDuty s p)).ts = State.ts s := ts_of (fun _ hk => keep_developDuty hk) rfl
@[simp] theorem get_loadPort {withTiming} {s} {p}   {rq iq} (hq : Nat.testBit 0x50000000000000000000000000000004008000000000000000000000000000000000000000000000004000000000000000000000000000000000000000000000000000000000000000000001c02a000000000000000000000000000000000000000000000000300022b00000 (Reg.ctorIdx rq) = false) : ((loadPort withTiming s p)).get rq iq = State.get s rq iq :=
  reg_of iq (fun _ hk => keep_loadPort hk) rfl rfl rfl hq
@[simp] theorem dv_loadPort {withTiming} {s} {p}   {rq iq} (hq : Nat.testBit 0x780000007fec0000000000000000000000000000000000000000000000000000000 (Reg.ctorIdx rq) = false) : ((loadPort withTiming s p)).dv rq iq = State.dv s rq iq :=
  dev_of iq (fun _ hk => keep_loadPort hk) rfl rfl rfl hq
@[simp] theorem ts_loadPort {withTiming} {s} {p}   : ((loadPort withTiming s p)).ts = State.ts s := ts_of (fun _ hk => keep_loadPort hk) rfl
@[simp] theorem get_loadDevelop {s} {g}   {rq iq} (hq : Nat.testBit 0x50000000000000000000000000000014008000000000000000000000000000000000000000000000004000000000000000000000000000000000000000000000000000000000000000000005c02e000000000000004040000000000000000000000000000000300022b00000 (Reg.ctorIdx rq) = false) : ((loadDevelop s g)).get rq iq = State.get s rq iq :=
  reg_of iq (fun _ hk => keep_loadDevelop hk) rfl rfl rfl hq
@[simp] theorem dv_loadDevelop {s} {g}   {rq iq} (hq : Nat.testBit 0x780000007fec0000000000000000000000000000000000000000000000000000000 (Reg.ctorIdx rq) = false) : ((loadDevelop s g)).dv rq iq = State.dv s rq iq :=
  dev_of iq (fun _ hk => keep_loadDevelop hk) rfl rfl rfl hq
@[simp] theorem ts_loadDevelop {s} {g}   : ((loadDevelop s g)).ts = State.ts s := ts_of (fun _ hk => keep_loadDevelop hk) rfl
@[simp] theorem get_loadStep {s} {g} {t}   {rq iq} (hq : Nat.testBit 0x50000000000000000000000000000014008000000000000000000000000000000000000000000000004000000000000000000000000000000000000000000000000000000000000000000005c02e000000000000004040000000000000000000000000000000300022b00000 (Reg.ctorIdx rq) = false) : ((loadStep s g t)).get rq iq = State.get s rq iq :=
  reg_of iq (fun _ hk => keep_loadStep hk) rfl rfl rfl hq
@[simp] theorem dv_loadStep {s} {g} {t}   {rq iq} (hq : Nat.testBit 0x780000007fec0000000000000000000000000000000000000000000000000000000 (Reg.ctorIdx rq) = false) : ((loadStep s g t)).dv rq iq = State.dv s rq iq :=
  dev_of iq (fun _ hk => keep_loadStep hk) rfl rfl rfl hq
@[simp] theorem ts_loadStep {s} {g} {t}   : ((loadStep s g t)).ts = State.ts s := ts_of (fun _ hk => keep_loadStep hk) rfl
@[simp] theorem get_withRefresh {s} {p} {dt} {x}   {rq iq} (hq : Nat.testBit 0x7c000000000000000000000000000000600000000000000000000000000000000000000000000000000000000000000000000000000000000000000000000000000000000000000000000002400000000000000000000000000000000000000000000000000000000000000 (Reg.ctorIdx rq) = false) : ((withRefresh s p dt x)).get rq iq = State.get s rq iq :=
  reg_of iq (fun _ hk => keep_withRefresh hk) rfl rfl rfl hq
@[simp] theorem dv_withRefresh {s} {p} {dt} {x}   {rq iq} (hq : Nat.testBit 0x0 (Reg.ctorIdx rq) = false) : ((withRefresh s p dt x)).dv rq iq = State.dv s rq iq :=
  dev_of iq (fun _ hk => keep_withRefresh hk) rfl rfl rfl hq
@[simp] theorem se_withRefresh {xq : State} {s} {p} {dt} {x}   : SameEvents xq ((withRefresh s p dt x)) ↔ SameEvents xq s := se_of (fun _ hk => keep_withRefresh hk) rfl
@[simp] theorem ts_withRefresh {s} {p} {dt} {x}   : ((withRefresh s p dt x)).ts = State.ts s := ts_of (fun _ hk => keep_withRefresh hk) rfl
@[simp] theorem get_interlockWait {s} {p}   {rq iq} (hq : Nat.testBit 0x8000000000000000000000000000000000000000000000000000000000000000000000 (Reg.ctorIdx rq) = false) : ((interlockWait s p)).get rq iq = State.get s rq iq :=
  reg_of iq (fun _ hk => keep_interlockWait hk) rfl rfl rfl hq
@[simp] theorem dv_interlockWait {s} {p}   {rq iq} (hq : Nat.testBit 0x0 (Reg.ctorIdx rq) = false) : ((interlockWait s p)).dv rq iq = State.dv s rq iq :=
  dev_of iq (fun _ hk => keep_interlockWait hk) rfl rfl rfl hq
@[simp] theorem se_interlockWait {xq : State} {s} {p}   : SameEvents xq ((interlockWait s p)) ↔ SameEvents xq s := se_of (fun _ hk => keep_interlockWait hk) rfl
@[simp] theorem ts_interlockWait {s} {p}   : ((interlockWait s p)).ts = State.ts s := ts_of (fun _ hk => keep_interlockWait hk) rfl
@[simp] theorem get_startPort {s} {p} {c} {full}   {rq iq} (hq : Nat.testBit 0x7c000000000000000000000000000000600800000000000000000000000000000000000000000000000000000000000000000000000000000000000000000000000000000000000008000002400000000000000000000000000000000000000000000000000000000000000 (Reg.ctorIdx rq) = false) : ((startPort s p c full)).get rq iq = State.get s rq iq :=
  reg_of iq (fun _ hk => keep_startPort hk) rfl rfl rfl hq
@[simp] theorem dv_startPort {s} {p} {c} {full}   {rq iq} (hq : Nat.testBit 0x0 (Reg.ctorIdx rq) = false) : ((startPort s p c full)).dv rq iq = State.dv s rq iq :=
  dev_of iq (fun _ hk => keep_startPort hk) rfl rfl rfl hq
@[simp] theorem se_startPort {xq : State} {s} {p} {c} {full}   : SameEvents xq ((startPort s p c full)) ↔ SameEvents xq s := se_of (fun _ hk => keep_startPort hk) rfl
@[simp] theorem ts_startPort {s} {p} {c} {full}   : ((startPort s p c full)).ts = State.ts s := ts_of (fun _ hk => keep_startPort hk) rfl
@[simp] theorem get_developCompare {s} {p}   {rq iq} (hq : Nat.testBit 0x1c0000000000000000000000000000000000000000000000040000000000000000000000000000000000000000000000000000000000000000000010008000000000000000000000000000000000000000000000000300022b00000 (Reg.ctorIdx rq) = false) : ((developCompare s p)).get rq iq = State.get s rq iq :=
  reg_of iq (fun _ hk => keep_developCompare hk) rfl rfl rfl hq
@[simp] theorem dv_developCompare {s} {p}   {rq iq} (hq : Nat.testBit 0x0 (Reg.ctorIdx rq) = false) : ((developCompare s p)).dv rq iq = State.dv s rq iq :=
  dev_of iq (fun _ hk => keep_developCompare hk) rfl rfl rfl hq
@[simp] theorem ts_developCompare {s} {p}   : ((developCompare s p)).ts = State.ts s := ts_of (fun _ hk => keep_developCompare hk) rfl
@[simp] theorem get_tripPeriod {s} {p}   {rq iq} (hq : Nat.testBit 0x200000000000000000000000000000000000000000f000000000000000000000000000000000000000000000000000000000000000000000000000000000000000000000000000000000000000000000080000000000000000000000000000000000000000000000000000000000000 (Reg.ctorIdx rq) = false) : ((tripPeriod s p)).get rq iq = State.get s rq iq :=
  reg_of iq (fun _ hk => keep_tripPeriod hk) rfl rfl rfl hq
@[simp] theorem dv_tripPeriod {s} {p}   {rq iq} (hq : Nat.testBit 0x0 (Reg.ctorIdx rq) = false) : ((tripPeriod s p)).dv rq iq = State.dv s rq iq :=
  dev_of iq (fun _ hk => keep_tripPeriod hk) rfl rfl rfl hq
@[simp] theorem se_tripPeriod {xq : State} {s} {p}   : SameEvents xq ((tripPeriod s p)) ↔ SameEvents xq s := se_of (fun _ hk => keep_tripPeriod hk) rfl
@[simp] theorem ts_tripPeriod {s} {p}   : ((tripPeriod s p)).ts = State.ts s := ts_of (fun _ hk => keep_tripPeriod hk) rfl
@[simp] theorem get_tripPort {s} {p} {high}   {rq iq} (hq : Nat.testBit 0x200000000000000000000000000000000000000020f000000000000000000000000000000000000000000000000000000000000000000000000000000000000000000000000000000000000000000000190000000000000000000000000000000000000000000000000000000000000 (Reg.ctorIdx rq) = false) : ((tripPort s p high)).get rq iq = State.get s rq iq :=
  reg_of iq (fun _ hk => keep_tripPort hk) rfl rfl rfl hq
@[simp] theorem dv_tripPort {s} {p} {high}   {rq iq} (hq : Nat.testBit 0x0 (Reg.ctorIdx rq) = false) : ((tripPort s p high)).dv rq iq = State.dv s rq iq :=
  dev_of iq (fun _ hk => keep_tripPort hk) rfl rfl rfl hq
@[simp] theorem se_tripPort {xq : State} {s} {p} {high}   : SameEvents xq ((tripPort s p high)) ↔ SameEvents xq s := se_of (fun _ hk => keep_tripPort hk) rfl
@[simp] theorem ts_tripPort {s} {p} {high}   : ((tripPort s p high)).ts = State.ts s := ts_of (fun _ hk => keep_tripPort hk) rfl
@[simp] theorem get_setTripActive {s} {p}   {rq iq} (hq : Nat.testBit 0x400000000000000000000000000000000000000000000000000000000000 (Reg.ctorIdx rq) = false) : ((setTripActive s p)).get rq iq = State.get s rq iq :=
  reg_of iq (fun _ hk => keep_setTripActive hk) rfl rfl rfl hq
@[simp] theorem dv_setTripActive {s} {p}   {rq iq} (hq : Nat.testBit 0x0 (Reg.ctorIdx rq) = false) : ((setTripActive s p)).dv rq iq = State.dv s rq iq :=
  dev_of iq (fun _ hk => keep_setTripActive hk) rfl rfl rfl hq
@[simp] theorem se_setTripActive {xq : State} {s} {p}   : SameEvents xq ((setTripActive s p)) ↔ SameEvents xq s := se_of (fun _ hk => keep_setTripActive hk) rfl
@[simp] theorem ts_setTripActive {s} {p}   : ((setTripActive s p)).ts = State.ts s := ts_of (fun _ hk => keep_setTripActive hk) rfl
@[simp] theorem get_bstPeriod {s} {p}   {rq iq} (hq : Nat.testBit 0x2000000000000000000000000000000006000000000000000000000000000000000000000000000000000000000000000000000000000000000000000000000000000000000000000004000000000000000000000000000000000000000000000000000000000000000000000 (Reg.ctorIdx rq) = false) : ((bstPeriod s p)).get rq iq = State.get s rq iq :=
  reg_of iq (fun _ hk => keep_bstPeriod hk) rfl rfl rfl hq
@[simp] theorem dv_bstPeriod {s} {p}   {rq iq} (hq : Nat.testBit 0x0 (Reg.ctorIdx rq) = false) : ((bstPeriod s p)).dv rq iq = State.dv s rq iq :=
  dev_of iq (fun _ hk => keep_bstPeriod hk) rfl rfl rfl hq
@[simp] theorem se_bstPeriod {xq : State} {s} {p}   : SameEvents xq ((bstPeriod s p)) ↔ SameEvents xq s := se_of (fun _ hk => keep_bstPeriod hk) rfl
@[simp] theorem ts_bstPeriod {s} {p}   : ((bstPeriod s p)).ts = State.ts s := ts_of (fun _ hk => keep_bstPeriod hk) rfl
@[simp] theorem get_periodPort {s} {p}   {rq iq} (hq : Nat.testBit 0x20000020fc000000000000000000000000000006fcf80000000000000000000000000000000000000000000004000000000000000000000000000000000000000000000000000000000000000c000012599000000000000000000000000000000000000000000000000300022b00000 (Reg.ctorIdx rq) = false) : ((periodPort s p)).get rq iq = State.get s rq iq :=
  reg_of iq (fun _ hk => keep_periodPort hk) rfl rfl rfl hq
@[simp] theorem dv_periodPort {s} {p}   {rq iq} (hq : Nat.testBit 0x0 (Reg.ctorIdx rq) = false) : ((periodPort s p)).dv rq iq = State.dv s rq iq :=
  dev_of iq (fun _ hk => keep_periodPort hk) rfl rfl rfl hq
@[simp] theorem ts_periodPort {s} {p}   : ((periodPort s p)).ts = State.ts s := ts_of (fun _ hk => keep_periodPort hk) rfl
@[simp] theorem get_appliedVoltage {s} {i} {posted}   {rq iq} (hq : Nat.testBit 0x300000000000001000000000000000000000000000000000000000000000000000000000000000000000000000000000000000000000000000000000000000000000000000000000000000000000000000000000000000000 (Reg.ctorIdx rq) = false) : ((appliedVoltage s i posted)).get rq iq = State.get s rq iq :=
  reg_of iq (fun _ hk => keep_appliedVoltage hk) rfl rfl rfl hq
@[simp] theorem dv_appliedVoltage {s} {i} {posted}   {rq iq} (hq : Nat.testBit 0x0 (Reg.ctorIdx rq) = false) : ((appliedVoltage s i posted)).dv rq iq = State.dv s rq iq :=
  dev_of iq (fun _ hk => keep_appliedVoltage hk) rfl rfl rfl hq
@[simp] theorem se_appliedVoltage {xq : State} {s} {i} {posted}   : SameEvents xq ((appliedVoltage s i posted)) ↔ SameEvents xq s := se_of (fun _ hk => keep_appliedVoltage hk) rfl
@[simp] theorem ts_appliedVoltage {s} {i} {posted}   : ((appliedVoltage s i posted)).ts = State.ts s := ts_of (fun _ hk => keep_appliedVoltage hk) rfl
@[simp] theorem get_halfRatePair {s} {i} {j}   {rq iq} (hq : Nat.testBit 0x4800000000000000000000000000000000000000000000000000000000000000000000000000000000000000000000000000000000000000000000000000000000000000000000000000000000000000000000000000000000000000000000000000000000000000000000000000000 (Reg.ctorIdx rq) = false) : ((halfRatePair s i j)).get rq iq = State.get s rq iq :=
  reg_of iq (fun _ hk => keep_halfRatePair hk) rfl rfl rfl hq
@[simp] theorem dv_halfRatePair {s} {i} {j}   {rq iq} (hq : Nat.testBit 0x0 (Reg.ctorIdx rq) = false) : ((halfRatePair s i j)).dv rq iq = State.dv s rq iq :=
  dev_of iq (fun _ hk => keep_halfRatePair hk) rfl rfl rfl hq
@[simp] theorem se_halfRatePair {xq : State} {s} {i} {j}   : SameEvents xq ((halfRatePair s i j)) ↔ SameEvents xq s := se_of (fun _ hk => keep_halfRatePair hk) rfl
@[simp] theorem ts_halfRatePair {s} {i} {j}   : ((halfRatePair s i j)).ts = State.ts s := ts_of (fun _ hk => keep_halfRatePair hk) rfl
@[simp] theorem get_halfRate {s} {i}   {rq iq} (hq : Nat.testBit 0x4800000000000000000000000000000000000000000000000000000000000000000000000000000000000000000000000000000000000000000000000000000000000000000000000000000000000000000000000000000000000000000000000000000000000000000000000000000 (Reg.ctorIdx rq) = false) : ((halfRate s i)).get rq iq = State.get s rq iq :=
  reg_of iq (fun _ hk => keep_halfRate hk) rfl rfl rfl hq
@[simp] theorem dv_halfRate {s} {i}   {rq iq} (hq : Nat.testBit 0x0 (Reg.ctorIdx rq) = false) : ((halfRate s i)).dv rq iq = State.dv s rq iq :=
  dev_of iq (fun _ hk => keep_halfRate hk) rfl rfl rfl hq
@[simp] theorem se_halfRate {xq : State} {s} {i}   : SameEvents xq ((halfRate s i)) ↔ SameEvents xq s := se_of (fun _ hk => keep_halfRate hk) rfl
@[simp] theorem ts_halfRate {s} {i}   : ((halfRate s i)).ts = State.ts s := ts_of (fun _ hk => keep_halfRate hk) rfl
@[simp] theorem get_periodSlot {s} {i}   {rq iq} (hq : Nat.testBit 0x5800000800000000000000003000000000000000000000000000000000900070400000000000000000000000000000000000000000000000000000000000000000000000000000000000000000000000000000000000000000000000000000000000000000000000000000000000000 (Reg.ctorIdx rq) = false) : ((periodSlot s i)).get rq iq = State.get s rq iq :=
  reg_of iq (fun _ hk => keep_periodSlot hk) rfl rfl rfl hq
@[simp] theorem dv_periodSlot {s} {i}   {rq iq} (hq : Nat.testBit 0x0 (Reg.ctorIdx rq) = false) : ((periodSlot s i)).dv rq iq = State.dv s rq iq :=
  dev_of iq (fun _ hk => keep_periodSlot hk) rfl rfl rfl hq
@[simp] theorem se_periodSlot {xq : State} {s} {i}   : SameEvents xq ((periodSlot s i)) ↔ SameEvents xq s := se_of (fun _ hk => keep_periodSlot hk) rfl
@[simp] theorem ts_periodSlot {s} {i}   : ((periodSlot s i)).ts = State.ts s := ts_of (fun _ hk => keep_periodSlot hk) rfl
@[simp] theorem get_periodStart {s} {g}   {rq iq} (hq : Nat.testBit 0x7800002dfc000000000000003000000800000546fcf80030000000000190107040000000000000000000000004000000000000000000000000000000000000000000000000000000000000000c00005e5bf000000000000004040000000000000000000000000000000300022b00000 (Reg.ctorIdx rq) = false) : ((periodStart s g)).get rq iq = State.get s rq iq :=
  reg_of iq (fun _ hk => keep_periodStart hk) rfl rfl rfl hq
@[simp] theorem dv_periodStart {s} {g}   {rq iq} (hq : Nat.testBit 0x780000007fec0000000000000000000000000000000000000000000000000000000 (Reg.ctorIdx rq) = false) : ((periodStart s g)).dv rq iq = State.dv s rq iq :=
  dev_of iq (fun _ hk => keep_periodStart hk) rfl rfl rfl hq
@[simp] theorem get_writeGroup {s} {p} {g}   {rq iq} (hq : Nat.testBit 0x1000000000000000000000000000000000000000000000000000000000000000000000000000000000000000000000000000000000000000000000000040000100000000000000000000000000000000000000000000000000000000 (Reg.ctorIdx rq) = false) : ((writeGroup s p g).1).get rq iq = State.get s rq iq :=
  reg_of iq (fun _ hk => keep_writeGroup hk) rfl rfl rfl hq
@[simp] theorem dv_writeGroup {s} {p} {g}   {rq iq} (hq : Nat.testBit 0x0 (Reg.ctorIdx rq) = false) : ((writeGroup s p g).1).dv rq iq = State.dv s rq iq :=
  dev_of iq (fun _ hk => keep_writeGroup hk) rfl rfl rfl hq
@[simp] theorem se_writeGroup {xq : State} {s} {p} {g}   : SameEvents xq ((writeGroup s p g).1) ↔ SameEvents xq s := se_of (fun _ hk => keep_writeGroup hk) rfl
@[simp] theorem ts_writeGroup {s} {p} {g}   : ((writeGroup s p g).1).ts = State.ts s := ts_of (fun _ hk => keep_writeGroup hk) rfl
@[simp] theorem dv_joinGroup {s} {p}   {rq iq} (hq : Nat.testBit 0x100000000000000000000000000000000000000000000000000000000 (Reg.ctorIdx rq) = false) : ((joinGroup s p)).dv rq iq = State.dv s rq iq :=
  dev_of iq (fun _ hk => keep_joinGroup hk) rfl rfl rfl hq
@[simp] theorem ts_joinGroup {s} {p}   : ((joinGroup s p)).ts = State.ts s := ts_of (fun _ hk => keep_joinGroup hk) rfl
@[simp] theorem dv_groupTake {s} {p}   {rq iq} (hq : Nat.testBit 0x100000000000000000000000000000000000000000000000000000000 (Reg.ctorIdx rq) = false) : ((groupTake s p)).dv rq iq = State.dv s rq iq :=
  dev_of iq (fun _ hk => keep_groupTake hk) rfl rfl rfl hq
@[simp] theorem ts_groupTake {s} {p}   : ((groupTake s p)).ts = State.ts s := ts_of (fun _ hk => keep_groupTake hk) rfl
@[simp] theorem dv_groupDevelop {s}   {rq iq} (hq : Nat.testBit 0x100000000000000000000000000000000000000000000000000000000 (Reg.ctorIdx rq) = false) : ((groupDevelop s)).dv rq iq = State.dv s rq iq :=
  dev_of iq (fun _ hk => keep_groupDevelop hk) rfl rfl rfl hq
@[simp] theorem ts_groupDevelop {s}   : ((groupDevelop s)).ts = State.ts s := ts_of (fun _ hk => keep_groupDevelop hk) rfl
@[simp] theorem get_tripClear {s} {p}   {rq iq} (hq : Nat.testBit 0x40000000000000000000000000000000000000000000000000000000000000000000000280c00000000000000000000000000000000000000000000000300022b00000 (Reg.ctorIdx rq) = false) : ((tripClear s p).1).get rq iq = State.get s rq iq :=
  reg_of iq (fun _ hk => keep_tripClear hk) rfl rfl rfl hq
@[simp] theorem dv_tripClear {s} {p}   {rq iq} (hq : Nat.testBit 0x0 (Reg.ctorIdx rq) = false) : ((tripClear s p).1).dv rq iq = State.dv s rq iq :=
  dev_of iq (fun _ hk => keep_tripClear hk) rfl rfl rfl hq
@[simp] theorem ts_tripClear {s} {p}   : ((tripClear s p).1).ts = State.ts s := ts_of (fun _ hk => keep_tripClear hk) rfl
@[simp] theorem get_trigoPulse {s} {k} {t} {len}   {rq iq} (hq : Nat.testBit 0x1800000000000000000000000000000000000000000000000000000000000000000000000000000000000000000000000000000000000000000000000000000000000000000000000000000000000000000000000000000000000000000 (Reg.ctorIdx rq) = false) : ((trigoPulse s k t len)).get rq iq = State.get s rq iq :=
  reg_of iq (fun _ hk => keep_trigoPulse hk) rfl rfl rfl hq
@[simp] theorem dv_trigoPulse {s} {k} {t} {len}   {rq iq} (hq : Nat.testBit 0x0 (Reg.ctorIdx rq) = false) : ((trigoPulse s k t len)).dv rq iq = State.dv s rq iq :=
  dev_of iq (fun _ hk => keep_trigoPulse hk) rfl rfl rfl hq
@[simp] theorem se_trigoPulse {xq : State} {s} {k} {t} {len}   : SameEvents xq ((trigoPulse s k t len)) ↔ SameEvents xq s := se_of (fun _ hk => keep_trigoPulse hk) rfl
@[simp] theorem ts_trigoPulse {s} {k} {t} {len}   : ((trigoPulse s k t len)).ts = State.ts s := ts_of (fun _ hk => keep_trigoPulse hk) rfl
@[simp] theorem get_trigoRoutes {s} {p} {src} {t}   {rq iq} (hq : Nat.testBit 0x1800000000000000000000000000000000000000000000000000000000000000000000000000000000000000000000000000000000000000000000000000000000000000000000000000000000000000000000000000000000000000000 (Reg.ctorIdx rq) = false) : ((trigoRoutes s p src t)).get rq iq = State.get s rq iq :=
  reg_of iq (fun _ hk => keep_trigoRoutes hk) rfl rfl rfl hq
@[simp] theorem dv_trigoRoutes {s} {p} {src} {t}   {rq iq} (hq : Nat.testBit 0x0 (Reg.ctorIdx rq) = false) : ((trigoRoutes s p src t)).dv rq iq = State.dv s rq iq :=
  dev_of iq (fun _ hk => keep_trigoRoutes hk) rfl rfl rfl hq
@[simp] theorem se_trigoRoutes {xq : State} {s} {p} {src} {t}   : SameEvents xq ((trigoRoutes s p src t)) ↔ SameEvents xq s := se_of (fun _ hk => keep_trigoRoutes hk) rfl
@[simp] theorem ts_trigoRoutes {s} {p} {src} {t}   : ((trigoRoutes s p src t)).ts = State.ts s := ts_of (fun _ hk => keep_trigoRoutes hk) rfl
@[simp] theorem get_seqRoute {s} {p} {src}   {rq iq} (hq : Nat.testBit 0x30000000000000000000000000000000000000000000000000040000000000000000000000000000000000000000000000000000000000000000000001000000000000000000000000000000000000000000000000000300022b00000 (Reg.ctorIdx rq) = false) : ((seqRoute s p src)).get rq iq = State.get s rq iq :=
  reg_of iq (fun _ hk => keep_seqRoute hk) rfl rfl rfl hq
@[simp] theorem dv_seqRoute {s} {p} {src}   {rq iq} (hq : Nat.testBit 0x0 (Reg.ctorIdx rq) = false) : ((seqRoute s p src)).dv rq iq = State.dv s rq iq :=
  dev_of iq (fun _ hk => keep_seqRoute hk) rfl rfl rfl hq
@[simp] theorem ts_seqRoute {s} {p} {src}   : ((seqRoute s p src)).ts = State.ts s := ts_of (fun _ hk => keep_seqRoute hk) rfl
@[simp] theorem get_setBudgetPeriod {s} {g} {long}   {rq iq} (hq : Nat.testBit 0x200000000000000000000000000000000000000000000000000000000000000000000000000000000000000000000000000000000000000000000000000000000000000000000000000000000000000000000000000000000000000000000000000000000000000000000000 (Reg.ctorIdx rq) = false) : ((setBudgetPeriod s g long)).get rq iq = State.get s rq iq :=
  reg_of iq (fun _ hk => keep_setBudgetPeriod hk) rfl rfl rfl hq
@[simp] theorem dv_setBudgetPeriod {s} {g} {long}   {rq iq} (hq : Nat.testBit 0x0 (Reg.ctorIdx rq) = false) : ((setBudgetPeriod s g long)).dv rq iq = State.dv s rq iq :=
  dev_of iq (fun _ hk => keep_setBudgetPeriod hk) rfl rfl rfl hq
@[simp] theorem se_setBudgetPeriod {xq : State} {s} {g} {long}   : SameEvents xq ((setBudgetPeriod s g long)) ↔ SameEvents xq s := se_of (fun _ hk => keep_setBudgetPeriod hk) rfl
@[simp] theorem ts_setBudgetPeriod {s} {g} {long}   : ((setBudgetPeriod s g long)).ts = State.ts s := ts_of (fun _ hk => keep_setBudgetPeriod hk) rfl
@[simp] theorem get_carriersRestart {s}   {rq iq} (hq : Nat.testBit 0x60000000000000001000000000000400300800000000000000000000000000000000000000000000000000000000000000000000000000000000000000000000000000000000000000000002080000000000000000000000000000000000000000000000000000000000000 (Reg.ctorIdx rq) = false) : ((carriersRestart s)).get rq iq = State.get s rq iq :=
  reg_of iq (fun _ hk => keep_carriersRestart hk) rfl rfl rfl hq
@[simp] theorem dv_carriersRestart {s}   {rq iq} (hq : Nat.testBit 0x0 (Reg.ctorIdx rq) = false) : ((carriersRestart s)).dv rq iq = State.dv s rq iq :=
  dev_of iq (fun _ hk => keep_carriersRestart hk) rfl rfl rfl hq
@[simp] theorem se_carriersRestart {xq : State} {s}   : SameEvents xq ((carriersRestart s)) ↔ SameEvents xq s := se_of (fun _ hk => keep_carriersRestart hk) rfl
@[simp] theorem ts_carriersRestart {s}   : ((carriersRestart s)).ts = State.ts s := ts_of (fun _ hk => keep_carriersRestart hk) rfl
@[simp] theorem get_judgeFaultn {s}   {rq iq} (hq : Nat.testBit 0x8000000000000000000000000000000000000000000000000000000000000000000000000000000000000000000000000000000000000000000000000000000000000000000000000000000000000000000000000000000000000000000000000000000000000800000000000 (Reg.ctorIdx rq) = false) : ((judgeFaultn s)).get rq iq = State.get s rq iq :=
  reg_of iq (fun _ hk => keep_judgeFaultn hk) rfl rfl rfl hq
@[simp] theorem dv_judgeFaultn {s}   {rq iq} (hq : Nat.testBit 0x0 (Reg.ctorIdx rq) = false) : ((judgeFaultn s)).dv rq iq = State.dv s rq iq :=
  dev_of iq (fun _ hk => keep_judgeFaultn hk) rfl rfl rfl hq
@[simp] theorem se_judgeFaultn {xq : State} {s}   : SameEvents xq ((judgeFaultn s)) ↔ SameEvents xq s := se_of (fun _ hk => keep_judgeFaultn hk) rfl
@[simp] theorem ts_judgeFaultn {s}   : ((judgeFaultn s)).ts = State.ts s := ts_of (fun _ hk => keep_judgeFaultn hk) rfl
@[simp] theorem get_judgePower {s} {i}   {rq iq} (hq : Nat.testBit 0x10000000000000000000000000000000000000000000000000000000000000000000000000000000 (Reg.ctorIdx rq) = false) : ((judgePower s i)).get rq iq = State.get s rq iq :=
  reg_of iq (fun _ hk => keep_judgePower hk) rfl rfl rfl hq
@[simp] theorem dv_judgePower {s} {i}   {rq iq} (hq : Nat.testBit 0x0 (Reg.ctorIdx rq) = false) : ((judgePower s i)).dv rq iq = State.dv s rq iq :=
  dev_of iq (fun _ hk => keep_judgePower hk) rfl rfl rfl hq
@[simp] theorem se_judgePower {xq : State} {s} {i}   : SameEvents xq ((judgePower s i)) ↔ SameEvents xq s := se_of (fun _ hk => keep_judgePower hk) rfl
@[simp] theorem ts_judgePower {s} {i}   : ((judgePower s i)).ts = State.ts s := ts_of (fun _ hk => keep_judgePower hk) rfl
@[simp] theorem get_judgePowers {s}   {rq iq} (hq : Nat.testBit 0x10000000000000000000000000000000000000000000000000000000000000000000000000000000 (Reg.ctorIdx rq) = false) : ((judgePowers s)).get rq iq = State.get s rq iq :=
  reg_of iq (fun _ hk => keep_judgePowers hk) rfl rfl rfl hq
@[simp] theorem dv_judgePowers {s}   {rq iq} (hq : Nat.testBit 0x0 (Reg.ctorIdx rq) = false) : ((judgePowers s)).dv rq iq = State.dv s rq iq :=
  dev_of iq (fun _ hk => keep_judgePowers hk) rfl rfl rfl hq
@[simp] theorem se_judgePowers {xq : State} {s}   : SameEvents xq ((judgePowers s)) ↔ SameEvents xq s := se_of (fun _ hk => keep_judgePowers hk) rfl
@[simp] theorem ts_judgePowers {s}   : ((judgePowers s)).ts = State.ts s := ts_of (fun _ hk => keep_judgePowers hk) rfl
@[simp] theorem get_cutMotion {s} {i}   {rq iq} (hq : Nat.testBit 0x360000000000000e00800000000000000415600000001006284081020000002f05c02c6c200040000000000000004000080000000000000000000000000000000000000000000000000000000000000000c40000000000008000e00000483100000b00300022b80000 (Reg.ctorIdx rq) = false) : ((cutMotion s i)).get rq iq = State.get s rq iq :=
  reg_of iq (fun _ hk => keep_cutMotion hk) rfl rfl rfl hq
@[simp] theorem dv_cutMotion {s} {i}   {rq iq} (hq : Nat.testBit 0x0 (Reg.ctorIdx rq) = false) : ((cutMotion s i)).dv rq iq = State.dv s rq iq :=
  dev_of iq (fun _ hk => keep_cutMotion hk) rfl rfl rfl hq
@[simp] theorem ts_cutMotion {s} {i}   : ((cutMotion s i)).ts = State.ts s := ts_of (fun _ hk => keep_cutMotion hk) rfl
@[simp] theorem get_driveDown {s} {i} {ds}   {rq iq} (hq : Nat.testBit 0x8000000000060000360000000000000e00800000000300800415600000001006284081020000002f05c02c6c600040000000000000004000080000000000000000000000000002800010000000000000000000000000000000c40000000000088000e00000483100000b00300022b80000 (Reg.ctorIdx rq) = false) : ((driveDown s i ds)).get rq iq = State.get s rq iq :=
  reg_of iq (fun _ hk => keep_driveDown hk) rfl rfl rfl hq
@[simp] theorem dv_driveDown {s} {i} {ds}   {rq iq} (hq : Nat.testBit 0x100000000000000000000000000000000000000000001e00060000000000000000000000000000000000 (Reg.ctorIdx rq) = false) : ((driveDown s i ds)).dv rq iq = State.dv s rq iq :=
  dev_of iq (fun _ hk => keep_driveDown hk) rfl rfl rfl hq
@[simp] theorem ts_driveDown {s} {i} {ds}   : ((driveDown s i ds)).ts = State.ts s := ts_of (fun _ hk => keep_driveDown hk) rfl
@[simp] theorem get_drivePort {s} {p} {v}   {rq iq} (hq : Nat.testBit 0x60000000000000000000000000000000300800000000000000000000000000000000000000000000000000000000000000000000000000000000000000000000000000000000000008000000000000000000000000000000000000000000000000000000000000000000000 (Reg.ctorIdx rq) = false) : ((drivePort s p v)).get rq iq = State.get s rq iq :=
  reg_of iq (fun _ hk => keep_drivePort hk) rfl rfl rfl hq
@[simp] theorem dv_drivePort {s} {p} {v}   {rq iq} (hq : Nat.testBit 0x0 (Reg.ctorIdx rq) = false) : ((drivePort s p v)).dv rq iq = State.dv s rq iq :=
  dev_of iq (fun _ hk => keep_drivePort hk) rfl rfl rfl hq
@[simp] theorem se_drivePort {xq : State} {s} {p} {v}   : SameEvents xq ((drivePort s p v)) ↔ SameEvents xq s := se_of (fun _ hk => keep_drivePort hk) rfl
@[simp] theorem ts_drivePort {s} {p} {v}   : ((drivePort s p v)).ts = State.ts s := ts_of (fun _ hk => keep_drivePort hk) rfl
@[simp] theorem get_applyVariant {s} {i}   {rq iq} (hq : Nat.testBit 0x60000000000000000000000000000000300800000000000000000000000000000000000000000000000000000000000000000000000000000000000000000000000000000000000008000000000000000000000000000000000000000000000000000000000000000000000 (Reg.ctorIdx rq) = false) : ((applyVariant s i)).get rq iq = State.get s rq iq :=
  reg_of iq (fun _ hk => keep_applyVariant hk) rfl rfl rfl hq
@[simp] theorem dv_applyVariant {s} {i}   {rq iq} (hq : Nat.testBit 0x0 (Reg.ctorIdx rq) = false) : ((applyVariant s i)).dv rq iq = State.dv s rq iq :=
  dev_of iq (fun _ hk => keep_applyVariant hk) rfl rfl rfl hq
@[simp] theorem se_applyVariant {xq : State} {s} {i}   : SameEvents xq ((applyVariant s i)) ↔ SameEvents xq s := se_of (fun _ hk => keep_applyVariant hk) rfl
@[simp] theorem ts_applyVariant {s} {i}   : ((applyVariant s i)).ts = State.ts s := ts_of (fun _ hk => keep_applyVariant hk) rfl
@[simp] theorem get_setVariant {s} {i} {v}   {rq iq} (hq : Nat.testBit 0x60000000000000000000000040000000300c00000000000000000000000000000000000000000000000000000000000000000000000000000000000000000000000000002000000008000000000000000000000000000000000000000000000000000000000000000000000 (Reg.ctorIdx rq) = false) : ((setVariant s i v)).get rq iq = State.get s rq iq :=
  reg_of iq (fun _ hk => keep_setVariant hk) rfl rfl rfl hq
@[simp] theorem dv_setVariant {s} {i} {v}   {rq iq} (hq : Nat.testBit 0x0 (Reg.ctorIdx rq) = false) : ((setVariant s i v)).dv rq iq = State.dv s rq iq :=
  dev_of iq (fun _ hk => keep_setVariant hk) rfl rfl rfl hq
@[simp] theorem se_setVariant {xq : State} {s} {i} {v}   : SameEvents xq ((setVariant s i v)) ↔ SameEvents xq s := se_of (fun _ hk => keep_setVariant hk) rfl
@[simp] theorem ts_setVariant {s} {i} {v}   : ((setVariant s i v)).ts = State.ts s := ts_of (fun _ hk => keep_setVariant hk) rfl
@[simp] theorem get_scopeOff {s} {i}   {rq iq} (hq : Nat.testBit 0x60000000000000000000000040000000300c00000000000000000000000000000000000000000000000000000000000000000000000000000000000000000000000000002000000008000000000000000000000000000000000000000000000000000000000000000000000 (Reg.ctorIdx rq) = false) : ((scopeOff s i)).get rq iq = State.get s rq iq :=
  reg_of iq (fun _ hk => keep_scopeOff hk) rfl rfl rfl hq
@[simp] theorem dv_scopeOff {s} {i}   {rq iq} (hq : Nat.testBit 0x0 (Reg.ctorIdx rq) = false) : ((scopeOff s i)).dv rq iq = State.dv s rq iq :=
  dev_of iq (fun _ hk => keep_scopeOff hk) rfl rfl rfl hq
@[simp] theorem se_scopeOff {xq : State} {s} {i}   : SameEvents xq ((scopeOff s i)) ↔ SameEvents xq s := se_of (fun _ hk => keep_scopeOff hk) rfl
@[simp] theorem ts_scopeOff {s} {i}   : ((scopeOff s i)).ts = State.ts s := ts_of (fun _ hk => keep_scopeOff hk) rfl
@[simp] theorem get_rechoose {s} {i}   {rq iq} (hq : Nat.testBit 0x60000000000000000000000040000000300c00000000000000000000000000000000000000000000000000000000000000000000000000000000000000000000000000002000000008000000000000000000000000000000000000000000000000000000000000000000000 (Reg.ctorIdx rq) = false) : ((rechoose s i)).get rq iq = State.get s rq iq :=
  reg_of iq (fun _ hk => keep_rechoose hk) rfl rfl rfl hq
@[simp] theorem dv_rechoose {s} {i}   {rq iq} (hq : Nat.testBit 0x0 (Reg.ctorIdx rq) = false) : ((rechoose s i)).dv rq iq = State.dv s rq iq :=
  dev_of iq (fun _ hk => keep_rechoose hk) rfl rfl rfl hq
@[simp] theorem se_rechoose {xq : State} {s} {i}   : SameEvents xq ((rechoose s i)) ↔ SameEvents xq s := se_of (fun _ hk => keep_rechoose hk) rfl
@[simp] theorem ts_rechoose {s} {i}   : ((rechoose s i)).ts = State.ts s := ts_of (fun _ hk => keep_rechoose hk) rfl
@[simp] theorem get_postBath {s} {i} {cause}   {rq iq} (hq : Nat.testBit 0x40000000000000000000000000000000000000000000000000000000000000000000000000000000000000000000000000000000000000000000000000300022b00000 (Reg.ctorIdx rq) = false) : ((postBath s i cause)).get rq iq = State.get s rq iq :=
  reg_of iq (fun _ hk => keep_postBath hk) rfl rfl rfl hq
@[simp] theorem dv_postBath {s} {i} {cause}   {rq iq} (hq : Nat.testBit 0x0 (Reg.ctorIdx rq) = false) : ((postBath s i cause)).dv rq iq = State.dv s rq iq :=
  dev_of iq (fun _ hk => keep_postBath hk) rfl rfl rfl hq
@[simp] theorem ts_postBath {s} {i} {cause}   : ((postBath s i cause)).ts = State.ts s := ts_of (fun _ hk => keep_postBath hk) rfl
@[simp] theorem get_bathSlot {mask} {scope} {cause} {s} {i}   {rq iq} (hq : Nat.testBit 0x60000360000000000000e00860000000300c00415600000001006284081020000002f05c02c6c20004000000000000000400008000000000000000000000000000000002e000000008000000000000000000000c40000000000008000e00000483100000b00300022b80000 (Reg.ctorIdx rq) = false) : ((bathSlot mask scope cause s i)).get rq iq = State.get s rq iq :=
  reg_of iq (fun _ hk => keep_bathSlot hk) rfl rfl rfl hq
@[simp] theorem dv_bathSlot {mask} {scope} {cause} {s} {i}   {rq iq} (hq : Nat.testBit 0x0 (Reg.ctorIdx rq) = false) : ((bathSlot mask scope cause s i)).dv rq iq = State.dv s rq iq :=
  dev_of iq (fun _ hk => keep_bathSlot hk) rfl rfl rfl hq
@[simp] theorem ts_bathSlot {mask} {scope} {cause} {s} {i}   : ((bathSlot mask scope cause s i)).ts = State.ts s := ts_of (fun _ hk => keep_bathSlot hk) rfl
@[simp] theorem get_enterBath {s} {slots} {scope} {cause}   {rq iq} (hq : Nat.testBit 0x60000360000000000000e00860000000300c00415600000001006284081020000002f05c02c6c20004000000000000000400008000000000000000000000000000000002e000000008000000000000000000000c40000000000008000e00000483100000b00300022b80000 (Reg.ctorIdx rq) = false) : ((enterBath s slots scope cause)).get rq iq = State.get s rq iq :=
  reg_of iq (fun _ hk => keep_enterBath hk) rfl rfl rfl hq
@[simp] theorem dv_enterBath {s} {slots} {scope} {cause}   {rq iq} (hq : Nat.testBit 0x0 (Reg.ctorIdx rq) = false) : ((enterBath s slots scope cause)).dv rq iq = State.dv s rq iq :=
  dev_of iq (fun _ hk => keep_enterBath hk) rfl rfl rfl hq
@[simp] theorem ts_enterBath {s} {slots} {scope} {cause}   : ((enterBath s slots scope cause)).ts = State.ts s := ts_of (fun _ hk => keep_enterBath hk) rfl
@[simp] theorem get_endBath {s} {i}   {rq iq} (hq : Nat.testBit 0x60000000000000000000000028000000300c00000000000000000000000000000000000000000000000000000000000000000000000000000000000000000000000000006200000000000000000000000000000000000000000000000000000000000000000000000000000 (Reg.ctorIdx rq) = false) : ((endBath s i)).get rq iq = State.get s rq iq :=
  reg_of iq (fun _ hk => keep_endBath hk) rfl rfl rfl hq
@[simp] theorem dv_endBath {s} {i}   {rq iq} (hq : Nat.testBit 0x0 (Reg.ctorIdx rq) = false) : ((endBath s i)).dv rq iq = State.dv s rq iq :=
  dev_of iq (fun _ hk => keep_endBath hk) rfl rfl rfl hq
@[simp] theorem se_endBath {xq : State} {s} {i}   : SameEvents xq ((endBath s i)) ↔ SameEvents xq s := se_of (fun _ hk => keep_endBath hk) rfl
@[simp] theorem ts_endBath {s} {i}   : ((endBath s i)).ts = State.ts s := ts_of (fun _ hk => keep_endBath hk) rfl
@[simp] theorem get_enterReaction {s} {i} {cause} {arg}   {rq iq} (hq : Nat.testBit 0x8000000360000000000000e00080000000000000000000000000000000000000000000000000000600040000000000000004000080000000000000000000000000000000010000000000000000000000000000000000000000000000000000000000000000100b00022b00000 (Reg.ctorIdx rq) = false) : ((enterReaction s i cause arg)).get rq iq = State.get s rq iq :=
  reg_of iq (fun _ hk => keep_enterReaction hk) rfl rfl rfl hq
@[simp] theorem dv_enterReaction {s} {i} {cause} {arg}   {rq iq} (hq : Nat.testBit 0x0 (Reg.ctorIdx rq) = false) : ((enterReaction s i cause arg)).dv rq iq = State.dv s rq iq :=
  dev_of iq (fun _ hk => keep_enterReaction hk) rfl rfl rfl hq
@[simp] theorem ts_enterReaction {s} {i} {cause} {arg}   : ((enterReaction s i cause arg)).ts = State.ts s := ts_of (fun _ hk => keep_enterReaction hk) rfl
@[simp] theorem get_allOffFault {s} {i} {cause} {arg}   {rq iq} (hq : Nat.testBit 0x8000000008060000360000000000000e008c0000000300c00415600000001006284081020000002f05c02c6c600040000000000000004000080000000000000000000000000002800012000000008000000000000000000000c40000000000088000e00000483100000b00b00022b80000 (Reg.ctorIdx rq) = false) : ((allOffFault s i cause arg)).get rq iq = State.get s rq iq :=
  reg_of iq (fun _ hk => keep_allOffFault hk) rfl rfl rfl hq
@[simp] theorem dv_allOffFault {s} {i} {cause} {arg}   {rq iq} (hq : Nat.testBit 0x100000000000000000000000000000000000000000001e00060000000000000000000000000000000000 (Reg.ctorIdx rq) = false) : ((allOffFault s i cause arg)).dv rq iq = State.dv s rq iq :=
  dev_of iq (fun _ hk => keep_allOffFault hk) rfl rfl rfl hq
@[simp] theorem ts_allOffFault {s} {i} {cause} {arg}   : ((allOffFault s i cause arg)).ts = State.ts s := ts_of (fun _ hk => keep_allOffFault hk) rfl
@[simp] theorem get_bathFault {s} {slots} {scope} {cause} {arg}   {rq iq} (hq : Nat.testBit 0x8000000008060000360000000000000e008e0000000300c00415600000001006284081020000002f05c02c6c60004000000000000000400008000000000000000000000000000280003e000000008000000000000000000000c40000000000088000e00000483100000b00b00022b80000 (Reg.ctorIdx rq) = false) : ((bathFault s slots scope cause arg)).get rq iq = State.get s rq iq :=
  reg_of iq (fun _ hk => keep_bathFault hk) rfl rfl rfl hq
@[simp] theorem dv_bathFault {s} {slots} {scope} {cause} {arg}   {rq iq} (hq : Nat.testBit 0x100000000000000000000000000000000000000000001e00060000000000000000000000000000000000 (Reg.ctorIdx rq) = false) : ((bathFault s slots scope cause arg)).dv rq iq = State.dv s rq iq :=
  dev_of iq (fun _ hk => keep_bathFault hk) rfl rfl rfl hq
@[simp] theorem ts_bathFault {s} {slots} {scope} {cause} {arg}   : ((bathFault s slots scope cause arg)).ts = State.ts s := ts_of (fun _ hk => keep_bathFault hk) rfl
@[simp] theorem get_plannedFault {s} {i} {cause} {rate}   {rq iq} (hq : Nat.testBit 0x8000000008060000360000000000000e00880000000300800415600000001006284081020000002f05c02c6c600040000000000000004000080000000000000000000000000002800010000000000000000000000000000000c40000000000088000e00000483100000b00b00022b80000 (Reg.ctorIdx rq) = false) : ((plannedFault s i cause rate)).get rq iq = State.get s rq iq :=
  reg_of iq (fun _ hk => keep_plannedFault hk) rfl rfl rfl hq
@[simp] theorem dv_plannedFault {s} {i} {cause} {rate}   {rq iq} (hq : Nat.testBit 0x100000000000000000000000000000000000000000001e00060000000000000000000000000000000000 (Reg.ctorIdx rq) = false) : ((plannedFault s i cause rate)).dv rq iq = State.dv s rq iq :=
  dev_of iq (fun _ hk => keep_plannedFault hk) rfl rfl rfl hq
@[simp] theorem ts_plannedFault {s} {i} {cause} {rate}   : ((plannedFault s i cause rate)).ts = State.ts s := ts_of (fun _ hk => keep_plannedFault hk) rfl
@[simp] theorem get_portFault {s} {p} {cause}   {rq iq} (hq : Nat.testBit 0x8000000008060000360000000000000e008e0000000300c00415600000001006284081020000002f05c02c6c60004000000000000000400008000000000000000000000000000280003e000000008000000000000000000000c40000000000088000e00000483100000b00b00022b80000 (Reg.ctorIdx rq) = false) : ((portFault s p cause)).get rq iq = State.get s rq iq :=
  reg_of iq (fun _ hk => keep_portFault hk) rfl rfl rfl hq
@[simp] theorem dv_portFault {s} {p} {cause}   {rq iq} (hq : Nat.testBit 0x100000000000000000000000000000000000000000001e00060000000000000000000000000000000000 (Reg.ctorIdx rq) = false) : ((portFault s p cause)).dv rq iq = State.dv s rq iq :=
  dev_of iq (fun _ hk => keep_portFault hk) rfl rfl rfl hq
@[simp] theorem ts_portFault {s} {p} {cause}   : ((portFault s p cause)).ts = State.ts s := ts_of (fun _ hk => keep_portFault hk) rfl
@[simp] theorem get_enterRide {s} {i}   {rq iq} (hq : Nat.testBit 0x8000000020060000360000000000000e00900000000300800415600000001006284081020000002f05c02c6c600040000000000000004000080000000000000000000000000002800010000000000000000000000000000000c40000000000088000e00000483100000b00300022b80000 (Reg.ctorIdx rq) = false) : ((enterRide s i)).get rq iq = State.get s rq iq :=
  reg_of iq (fun _ hk => keep_enterRide hk) rfl rfl rfl hq
@[simp] theorem dv_enterRide {s} {i}   {rq iq} (hq : Nat.testBit 0x100000000000000000000000000000000000000000001e00060000000000000000000000000000000000 (Reg.ctorIdx rq) = false) : ((enterRide s i)).dv rq iq = State.dv s rq iq :=
  dev_of iq (fun _ hk => keep_enterRide hk) rfl rfl rfl hq
@[simp] theorem ts_enterRide {s} {i}   : ((enterRide s i)).ts = State.ts s := ts_of (fun _ hk => keep_enterRide hk) rfl
@[simp] theorem get_loseSupply {s} {i} {cause} {arg}   {rq iq} (hq : Nat.testBit 0x8000000028060000360000000000000e009c0000000300c00415600000001006284081020000002f05c02c6c600040000000000000004000080000000000000000000000000002800012000000008000000000000000000000c40000000000088000e00000483100000b00b00022b80000 (Reg.ctorIdx rq) = false) : ((loseSupply s i cause arg)).get rq iq = State.get s rq iq :=
  reg_of iq (fun _ hk => keep_loseSupply hk) rfl rfl rfl hq
@[simp] theorem dv_loseSupply {s} {i} {cause} {arg}   {rq iq} (hq : Nat.testBit 0x100000000000000000000000000000000000000000001e00060000000000000000000000000000000000 (Reg.ctorIdx rq) = false) : ((loseSupply s i cause arg)).dv rq iq = State.dv s rq iq :=
  dev_of iq (fun _ hk => keep_loseSupply hk) rfl rfl rfl hq
@[simp] theorem ts_loseSupply {s} {i} {cause} {arg}   : ((loseSupply s i cause arg)).ts = State.ts s := ts_of (fun _ hk => keep_loseSupply hk) rfl
@[simp] theorem get_enableSlot {s} {i} {resume}   {rq iq} (hq : Nat.testBit 0x4000000000000000002000000200000006000300000000820001000000000000000000000000000400000000000000000000000000000000000000000000000000000000000000000000000000000000000100000040018000000000000000000000000000000000000000000 (Reg.ctorIdx rq) = false) : ((enableSlot s i resume)).get rq iq = State.get s rq iq :=
  reg_of iq (fun _ hk => keep_enableSlot hk) rfl rfl rfl hq
@[simp] theorem dv_enableSlot {s} {i} {resume}   {rq iq} (hq : Nat.testBit 0x0 (Reg.ctorIdx rq) = false) : ((enableSlot s i resume)).dv rq iq = State.dv s rq iq :=
  dev_of iq (fun _ hk => keep_enableSlot hk) rfl rfl rfl hq
@[simp] theorem se_enableSlot {xq : State} {s} {i} {resume}   : SameEvents xq ((enableSlot s i resume)) ↔ SameEvents xq s := se_of (fun _ hk => keep_enableSlot hk) rfl
@[simp] theorem ts_enableSlot {s} {i} {resume}   : ((enableSlot s i resume)).ts = State.ts s := ts_of (fun _ hk => keep_enableSlot hk) rfl
@[simp] theorem get_powerBack {s} {i}   {rq iq} (hq : Nat.testBit 0x4000000000000000002000000200000006000300000000820001000000000000000000000000000400040000000000000000000000000000000000000000000000000000010000000000000000000000000100000040018000000000000000000000000000000300022b00000 (Reg.ctorIdx rq) = false) : ((powerBack s i)).get rq iq = State.get s rq iq :=
  reg_of iq (fun _ hk => keep_powerBack hk) rfl rfl rfl hq
@[simp] theorem dv_powerBack {s} {i}   {rq iq} (hq : Nat.testBit 0x0 (Reg.ctorIdx rq) = false) : ((powerBack s i)).dv rq iq = State.dv s rq iq :=
  dev_of iq (fun _ hk => keep_powerBack hk) rfl rfl rfl hq
@[simp] theorem ts_powerBack {s} {i}   : ((powerBack s i)).ts = State.ts s := ts_of (fun _ hk => keep_powerBack hk) rfl
@[simp] theorem get_powerBackAll {s}   {rq iq} (hq : Nat.testBit 0x4000000000000000002000000200000006000300000000820001000000000000000000000000000400040000000000000000000000000000000000000000000000000000010000000000000000000000000100000040018000000000000000000000000000000300022b00000 (Reg.ctorIdx rq) = false) : ((powerBackAll s)).get rq iq = State.get s rq iq :=
  reg_of iq (fun _ hk => keep_powerBackAll hk) rfl rfl rfl hq
@[simp] theorem dv_powerBackAll {s}   {rq iq} (hq : Nat.testBit 0x0 (Reg.ctorIdx rq) = false) : ((powerBackAll s)).dv rq iq = State.dv s rq iq :=
  dev_of iq (fun _ hk => keep_powerBackAll hk) rfl rfl rfl hq
@[simp] theorem ts_powerBackAll {s}   : ((powerBackAll s)).ts = State.ts s := ts_of (fun _ hk => keep_powerBackAll hk) rfl
@[simp] theorem get_tripInBath {s} {p} {high}   {rq iq} (hq : Nat.testBit 0x60000000000000000000000040000000300c00000000000000000000000000000000000000000000000000000000000000000000000000000000000000000000000000002000000008000000000000000000000000000000000000000000000000000000000000000000000 (Reg.ctorIdx rq) = false) : ((tripInBath s p high)).get rq iq = State.get s rq iq :=
  reg_of iq (fun _ hk => keep_tripInBath hk) rfl rfl rfl hq
@[simp] theorem dv_tripInBath {s} {p} {high}   {rq iq} (hq : Nat.testBit 0x0 (Reg.ctorIdx rq) = false) : ((tripInBath s p high)).dv rq iq = State.dv s rq iq :=
  dev_of iq (fun _ hk => keep_tripInBath hk) rfl rfl rfl hq
@[simp] theorem se_tripInBath {xq : State} {s} {p} {high}   : SameEvents xq ((tripInBath s p high)) ↔ SameEvents xq s := se_of (fun _ hk => keep_tripInBath hk) rfl
@[simp] theorem ts_tripInBath {s} {p} {high}   : ((tripInBath s p high)).ts = State.ts s := ts_of (fun _ hk => keep_tripInBath hk) rfl
@[simp] theorem get_shortTrip {s} {p} {high} {other}   {rq iq} (hq : Nat.testBit 0x8002000008060000360000000000000e008e000000030fc00415600000001006284081020000002f05c02c6c60004000000000000000400008000000000000000000000000000280003e0000000081d8000190400000000000c40000000000088000e00000483100000b00b00022b80000 (Reg.ctorIdx rq) = false) : ((shortTrip s p high other)).get rq iq = State.get s rq iq :=
  reg_of iq (fun _ hk => keep_shortTrip hk) rfl rfl rfl hq
@[simp] theorem dv_shortTrip {s} {p} {high} {other}   {rq iq} (hq : Nat.testBit 0x100000000000000000000000000000000000000000001e00060000000000000000000000000000000000 (Reg.ctorIdx rq) = false) : ((shortTrip s p high other)).dv rq iq = State.dv s rq iq :=
  dev_of iq (fun _ hk => keep_shortTrip hk) rfl rfl rfl hq
@[simp] theorem ts_shortTrip {s} {p} {high} {other}   : ((shortTrip s p high other)).ts = State.ts s := ts_of (fun _ hk => keep_shortTrip hk) rfl
@[simp] theorem get_tripLatchOff {s} {p}   {rq iq} (hq : Nat.testBit 0x8000000008060000360000000000000e008e0000000300c00415600000001006284081020000002f05c02c6c60004000000000000000400008000000000000000000000000000280003e000000008000000000800000000000c40000000000088000e00000483100000b00b00022b80000 (Reg.ctorIdx rq) = false) : ((tripLatchOff s p)).get rq iq = State.get s rq iq :=
  reg_of iq (fun _ hk => keep_tripLatchOff hk) rfl rfl rfl hq
@[simp] theorem dv_tripLatchOff {s} {p}   {rq iq} (hq : Nat.testBit 0x100000000000000000000000000000000000000000001e00060000000000000000000000000000000000 (Reg.ctorIdx rq) = false) : ((tripLatchOff s p)).dv rq iq = State.dv s rq iq :=
  dev_of iq (fun _ hk => keep_tripLatchOff hk) rfl rfl rfl hq
@[simp] theorem ts_tripLatchOff {s} {p}   : ((tripLatchOff s p)).ts = State.ts s := ts_of (fun _ hk => keep_tripLatchOff hk) rfl
@[simp] theorem get_tripnOn {s} {b}   {rq iq} (hq : Nat.testBit 0x200000006000000000000000000000004008000030fc00000000000000000000000000000000000000000000000000000000000000000000000000000000000000000000000000002000000008000000190400000000000000000000000000000000000000000000000000000000000 (Reg.ctorIdx rq) = false) : ((tripnOn s b)).get rq iq = State.get s rq iq :=
  reg_of iq (fun _ hk => keep_tripnOn hk) rfl rfl rfl hq
@[simp] theorem dv_tripnOn {s} {b}   {rq iq} (hq : Nat.testBit 0x0 (Reg.ctorIdx rq) = false) : ((tripnOn s b)).dv rq iq = State.dv s rq iq :=
  dev_of iq (fun _ hk => keep_tripnOn hk) rfl rfl rfl hq
@[simp] theorem se_tripnOn {xq : State} {s} {b}   : SameEvents xq ((tripnOn s b)) ↔ SameEvents xq s := se_of (fun _ hk => keep_tripnOn hk) rfl
@[simp] theorem ts_tripnOn {s} {b}   : ((tripnOn s b)).ts = State.ts s := ts_of (fun _ hk => keep_tripnOn hk) rfl
@[simp] theorem get_tripnOff {s} {b}   {rq iq} (hq : Nat.testBit 0x80000000000000000000000000000000000000000000000000000000000000000000000000000000000000000000000000000000000000000000000000000000400000000000000000000000000000000000000000000000000000000000 (Reg.ctorIdx rq) = false) : ((tripnOff s b)).get rq iq = State.get s rq iq :=
  reg_of iq (fun _ hk => keep_tripnOff hk) rfl rfl rfl hq
@[simp] theorem dv_tripnOff {s} {b}   {rq iq} (hq : Nat.testBit 0x0 (Reg.ctorIdx rq) = false) : ((tripnOff s b)).dv rq iq = State.dv s rq iq :=
  dev_of iq (fun _ hk => keep_tripnOff hk) rfl rfl rfl hq
@[simp] theorem se_tripnOff {xq : State} {s} {b}   : SameEvents xq ((tripnOff s b)) ↔ SameEvents xq s := se_of (fun _ hk => keep_tripnOff hk) rfl
@[simp] theorem ts_tripnOff {s} {b}   : ((tripnOff s b)).ts = State.ts s := ts_of (fun _ hk => keep_tripnOff hk) rfl
@[simp] theorem get_interlockTimeout {s} {p}   {rq iq} (hq : Nat.testBit 0x8000000008060000360000000000000e008e0000000300c00415600000001006284081020000002f05c02c6c60004000000000000000400008000000000000000000000000000280003e0000000082c0000000000000000000c40000000000088000e00000483100000b00b00022b80000 (Reg.ctorIdx rq) = false) : ((interlockTimeout s p)).get rq iq = State.get s rq iq :=
  reg_of iq (fun _ hk => keep_interlockTimeout hk) rfl rfl rfl hq
@[simp] theorem dv_interlockTimeout {s} {p}   {rq iq} (hq : Nat.testBit 0x100000000000000000000000000000000000000000001e00060000000000000000000000000000000000 (Reg.ctorIdx rq) = false) : ((interlockTimeout s p)).dv rq iq = State.dv s rq iq :=
  dev_of iq (fun _ hk => keep_interlockTimeout hk) rfl rfl rfl hq
@[simp] theorem ts_interlockTimeout {s} {p}   : ((interlockTimeout s p)).ts = State.ts s := ts_of (fun _ hk => keep_interlockTimeout hk) rfl
@[simp] theorem get_forcePulse {s} {p}   {rq iq} (hq : Nat.testBit 0x7c000000000000000000000000000000400000000000000000000000000000000000000000000000000000000000000000000000000000000000000000000000000000000000000000000002400000000000000000000000000000000000000000000000000000000000000 (Reg.ctorIdx rq) = false) : ((forcePulse s p)).get rq iq = State.get s rq iq :=
  reg_of iq (fun _ hk => keep_forcePulse hk) rfl rfl rfl hq
@[simp] theorem dv_forcePulse {s} {p}   {rq iq} (hq : Nat.testBit 0x0 (Reg.ctorIdx rq) = false) : ((forcePulse s p)).dv rq iq = State.dv s rq iq :=
  dev_of iq (fun _ hk => keep_forcePulse hk) rfl rfl rfl hq
@[simp] theorem se_forcePulse {xq : State} {s} {p}   : SameEvents xq ((forcePulse s p)) ↔ SameEvents xq s := se_of (fun _ hk => keep_forcePulse hk) rfl
@[simp] theorem ts_forcePulse {s} {p}   : ((forcePulse s p)).ts = State.ts s := ts_of (fun _ hk => keep_forcePulse hk) rfl
@[simp] theorem get_bootstrapLockout {s} {p}   {rq iq} (hq : Nat.testBit 0x207c000000000000000000000040000000700c00000000000000000000000000000000000000000000000000000000000000000000000000000000000000000000000000002000000008420002400000000000000000000000000000000000000000000000000000000000000 (Reg.ctorIdx rq) = false) : ((bootstrapLockout s p)).get rq iq = State.get s rq iq :=
  reg_of iq (fun _ hk => keep_bootstrapLockout hk) rfl rfl rfl hq
@[simp] theorem dv_bootstrapLockout {s} {p}   {rq iq} (hq : Nat.testBit 0x0 (Reg.ctorIdx rq) = false) : ((bootstrapLockout s p)).dv rq iq = State.dv s rq iq :=
  dev_of iq (fun _ hk => keep_bootstrapLockout hk) rfl rfl rfl hq
@[simp] theorem se_bootstrapLockout {xq : State} {s} {p}   : SameEvents xq ((bootstrapLockout s p)) ↔ SameEvents xq s := se_of (fun _ hk => keep_bootstrapLockout hk) rfl
@[simp] theorem ts_bootstrapLockout {s} {p}   : ((bootstrapLockout s p)).ts = State.ts s := ts_of (fun _ hk => keep_bootstrapLockout hk) rfl
@[simp] theorem get_bootstrapRelease {s} {p}   {rq iq} (hq : Nat.testBit 0x2000000000000000000000000000000000200000000000000000000000000000000000000000000000000000000000000000000000000000000000000000000000000000000000000000020000000000000000000000000000000000000000000000000000000000000000000 (Reg.ctorIdx rq) = false) : ((bootstrapRelease s p)).get rq iq = State.get s rq iq :=
  reg_of iq (fun _ hk => keep_bootstrapRelease hk) rfl rfl rfl hq
@[simp] theorem dv_bootstrapRelease {s} {p}   {rq iq} (hq : Nat.testBit 0x0 (Reg.ctorIdx rq) = false) : ((bootstrapRelease s p)).dv rq iq = State.dv s rq iq :=
  dev_of iq (fun _ hk => keep_bootstrapRelease hk) rfl rfl rfl hq
@[simp] theorem se_bootstrapRelease {xq : State} {s} {p}   : SameEvents xq ((bootstrapRelease s p)) ↔ SameEvents xq s := se_of (fun _ hk => keep_bootstrapRelease hk) rfl
@[simp] theorem ts_bootstrapRelease {s} {p}   : ((bootstrapRelease s p)).ts = State.ts s := ts_of (fun _ hk => keep_bootstrapRelease hk) rfl
@[simp] theorem get_bootstrapFault {s} {p}   {rq iq} (hq : Nat.testBit 0x8000000008060000360000000000000e008e0000002300c00415600000001006284081020000002f05c02c6c60004000000000000000400008000000000000000000000000000280003e0000000080c0000000000000000000c40000000000088000e00000483100000b00b00022b80000 (Reg.ctorIdx rq) = false) : ((bootstrapFault s p)).get rq iq = State.get s rq iq :=
  reg_of iq (fun _ hk => keep_bootstrapFault hk) rfl rfl rfl hq
@[simp] theorem dv_bootstrapFault {s} {p}   {rq iq} (hq : Nat.testBit 0x100000000000000000000000000000000000000000001e00060000000000000000000000000000000000 (Reg.ctorIdx rq) = false) : ((bootstrapFault s p)).dv rq iq = State.dv s rq iq :=
  dev_of iq (fun _ hk => keep_bootstrapFault hk) rfl rfl rfl hq
@[simp] theorem ts_bootstrapFault {s} {p}   : ((bootstrapFault s p)).ts = State.ts s := ts_of (fun _ hk => keep_bootstrapFault hk) rfl
@[simp] theorem get_refuseClear {s} {p} {why}   {rq iq} (hq : Nat.testBit 0x40000000000000000000000000000000000000000000000000000000000000000800000000000000000000000000000000000000000000000000000000300022b00000 (Reg.ctorIdx rq) = false) : ((refuseClear s p why)).get rq iq = State.get s rq iq :=
  reg_of iq (fun _ hk => keep_refuseClear hk) rfl rfl rfl hq
@[simp] theorem dv_refuseClear {s} {p} {why}   {rq iq} (hq : Nat.testBit 0x0 (Reg.ctorIdx rq) = false) : ((refuseClear s p why)).dv rq iq = State.dv s rq iq :=
  dev_of iq (fun _ hk => keep_refuseClear hk) rfl rfl rfl hq
@[simp] theorem ts_refuseClear {s} {p} {why}   : ((refuseClear s p why)).ts = State.ts s := ts_of (fun _ hk => keep_refuseClear hk) rfl
@[simp] theorem get_clearGate {s} {p}   {rq iq} (hq : Nat.testBit 0x80000003600000000000000000000000000000000000000000000000000000000000000000000000000000000000000000000000000000000000000000000000000000000000000000000d8000000400000000000000000000000000000000000000000000000800000000000 (Reg.ctorIdx rq) = false) : ((clearGate s p)).get rq iq = State.get s rq iq :=
  reg_of iq (fun _ hk => keep_clearGate hk) rfl rfl rfl hq
@[simp] theorem dv_clearGate {s} {p}   {rq iq} (hq : Nat.testBit 0x0 (Reg.ctorIdx rq) = false) : ((clearGate s p)).dv rq iq = State.dv s rq iq :=
  dev_of iq (fun _ hk => keep_clearGate hk) rfl rfl rfl hq
@[simp] theorem se_clearGate {xq : State} {s} {p}   : SameEvents xq ((clearGate s p)) ↔ SameEvents xq s := se_of (fun _ hk => keep_clearGate hk) rfl
@[simp] theorem ts_clearGate {s} {p}   : ((clearGate s p)).ts = State.ts s := ts_of (fun _ hk => keep_clearGate hk) rfl
@[simp] theorem get_gdClear {s} {p} {gatesLow}   {rq iq} (hq : Nat.testBit 0x80000003600000000000000000000000080000000000000000000000000000000000000000000000000400000000000000000000000000000000000000000000000000000000000000008d8000000400000000000000000000000000000000000000000000000b00022b00000 (Reg.ctorIdx rq) = false) : ((gdClear s p gatesLow).1).get rq iq = State.get s rq iq :=
  reg_of iq (fun _ hk => keep_gdClear hk) rfl rfl rfl hq
@[simp] theorem dv_gdClear {s} {p} {gatesLow}   {rq iq} (hq : Nat.testBit 0x0 (Reg.ctorIdx rq) = false) : ((gdClear s p gatesLow).1).dv rq iq = State.dv s rq iq :=
  dev_of iq (fun _ hk => keep_gdClear hk) rfl rfl rfl hq
@[simp] theorem ts_gdClear {s} {p} {gatesLow}   : ((gdClear s p gatesLow).1).ts = State.ts s := ts_of (fun _ hk => keep_gdClear hk) rfl
@[simp] theorem get_clearTrip {s} {p}   {rq iq} (hq : Nat.testBit 0x8000000360000000000000000000000000000000000000000000000000000000000000000000000000040000000000000000000000000000000000000000000000000000000000000000000000280c00000000000000000000000000000000000000000000000b00022b00000 (Reg.ctorIdx rq) = false) : ((clearTrip s p).1).get rq iq = State.get s rq iq :=
  reg_of iq (fun _ hk => keep_clearTrip hk) rfl rfl rfl hq
@[simp] theorem dv_clearTrip {s} {p}   {rq iq} (hq : Nat.testBit 0x0 (Reg.ctorIdx rq) = false) : ((clearTrip s p).1).dv rq iq = State.dv s rq iq :=
  dev_of iq (fun _ hk => keep_clearTrip hk) rfl rfl rfl hq
@[simp] theorem ts_clearTrip {s} {p}   : ((clearTrip s p).1).ts = State.ts s := ts_of (fun _ hk => keep_clearTrip hk) rfl
@[simp] theorem get_clearTrips {s i}  {rq iq} (hq : Nat.testBit 0x40000000000000000000000000000000000000000000000000000000000000000000000280c00000000000000000000000000000000000000000000000300022b00000 (Reg.ctorIdx rq) = false) : ((clearTrips s i).1).get rq iq = State.get s rq iq :=
  reg_of iq (fun _ hk => keep_clearTrips hk) rfl rfl rfl hq
@[simp] theorem dv_clearTrips {s i}  {rq iq} (hq : Nat.testBit 0x0 (Reg.ctorIdx rq) = false) : ((clearTrips s i).1).dv rq iq = State.dv s rq iq :=
  dev_of iq (fun _ hk => keep_clearTrips hk) rfl rfl rfl hq
@[simp] theorem ts_clearTrips {s i}  : ((clearTrips s i).1).ts = State.ts s := ts_of (fun _ hk => keep_clearTrips hk) rfl
@[simp] theorem get_finishReset {s} {i}   {rq iq} (hq : Nat.testBit 0x80000000080600003600000000000000010a8000000300c00000000000000000000000000000000000000000400040000000000000000000000000000000000000000000000002800006200000000000000280c00000000000000000000000080000000000000000000000b00022b00000 (Reg.ctorIdx rq) = false) : ((finishReset s i)).get rq iq = State.get s rq iq :=
  reg_of iq (fun _ hk => keep_finishReset hk) rfl rfl rfl hq
@[simp] theorem dv_finishReset {s} {i}   {rq iq} (hq : Nat.testBit 0x100000000000000000000000000000000000000000001e00060000000000000000000000000000000000 (Reg.ctorIdx rq) = false) : ((finishReset s i)).dv rq iq = State.dv s rq iq :=
  dev_of iq (fun _ hk => keep_finishReset hk) rfl rfl rfl hq
@[simp] theorem ts_finishReset {s} {i}   : ((finishReset s i)).ts = State.ts s := ts_of (fun _ hk => keep_finishReset hk) rfl
@[simp] theorem get_faultReset {s} {i} {gatesLow}   {rq iq} (hq : Nat.testBit 0x80000000080600003600000000000000030e8000008300c000000000000000000000000000000000000000004000400000000000000000000000000000000000000000000000028000062000000088d8000280c00000000000000000000000080000000000000000000000b00022b00000 (Reg.ctorIdx rq) = false) : ((faultReset s i gatesLow)).get rq iq = State.get s rq iq :=
  reg_of iq (fun _ hk => keep_faultReset hk) rfl rfl rfl hq
@[simp] theorem dv_faultReset {s} {i} {gatesLow}   {rq iq} (hq : Nat.testBit 0x100000000000000000000000000000000000000000001e00060000000000000000000000000000000000 (Reg.ctorIdx rq) = false) : ((faultReset s i gatesLow)).dv rq iq = State.dv s rq iq :=
  dev_of iq (fun _ hk => keep_faultReset hk) rfl rfl rfl hq
@[simp] theorem ts_faultReset {s} {i} {gatesLow}   : ((faultReset s i gatesLow)).ts = State.ts s := ts_of (fun _ hk => keep_faultReset hk) rfl
@[simp] theorem get_legTestResult {s} {p} {passed}   {rq iq} (hq : Nat.testBit 0x80000000080600003600000000000000030a8000008300c000000000000000000000000000000000000000004000c00000000000000000000000000000000000000000000000028000062000000008d8000280c00000000000000000000000080000000000000000000000b00022b00000 (Reg.ctorIdx rq) = false) : ((legTestResult s p passed)).get rq iq = State.get s rq iq :=
  reg_of iq (fun _ hk => keep_legTestResult hk) rfl rfl rfl hq
@[simp] theorem dv_legTestResult {s} {p} {passed}   {rq iq} (hq : Nat.testBit 0x100000000000000000000000000000000000000000001e00060000000000000000000000000000000000 (Reg.ctorIdx rq) = false) : ((legTestResult s p passed)).dv rq iq = State.dv s rq iq :=
  dev_of iq (fun _ hk => keep_legTestResult hk) rfl rfl rfl hq
@[simp] theorem ts_legTestResult {s} {p} {passed}   : ((legTestResult s p passed)).ts = State.ts s := ts_of (fun _ hk => keep_legTestResult hk) rfl
@[simp] theorem get_setBusStat {s} {new}   {rq iq} (hq : Nat.testBit 0x800000000000000000000000000000000000000000000000000000000000000000000000000000000004000000000000000000000000000000000000000000000000000001000c000000000000000000000000000000000000000000000000000000000000000b00022b00000 (Reg.ctorIdx rq) = false) : ((setBusStat s new)).get rq iq = State.get s rq iq :=
  reg_of iq (fun _ hk => keep_setBusStat hk) rfl rfl rfl hq
@[simp] theorem dv_setBusStat {s} {new}   {rq iq} (hq : Nat.testBit 0x0 (Reg.ctorIdx rq) = false) : ((setBusStat s new)).dv rq iq = State.dv s rq iq :=
  dev_of iq (fun _ hk => keep_setBusStat hk) rfl rfl rfl hq
@[simp] theorem ts_setBusStat {s} {new}   : ((setBusStat s new)).ts = State.ts s := ts_of (fun _ hk => keep_setBusStat hk) rfl
@[simp] theorem get_brakeStop {s}   {rq iq} (hq : Nat.testBit 0x60000000000000000000000000000000300800000000000000000000000000000000000000000000000000000000000000000000000000000000000000000000000000000004000000000000000000000000000000000000000000000000000000000000000000000000000 (Reg.ctorIdx rq) = false) : ((brakeStop s)).get rq iq = State.get s rq iq :=
  reg_of iq (fun _ hk => keep_brakeStop hk) rfl rfl rfl hq
@[simp] theorem dv_brakeStop {s}   {rq iq} (hq : Nat.testBit 0x0 (Reg.ctorIdx rq) = false) : ((brakeStop s)).dv rq iq = State.dv s rq iq :=
  dev_of iq (fun _ hk => keep_brakeStop hk) rfl rfl rfl hq
@[simp] theorem se_brakeStop {xq : State} {s}   : SameEvents xq ((brakeStop s)) ↔ SameEvents xq s := se_of (fun _ hk => keep_brakeStop hk) rfl
@[simp] theorem ts_brakeStop {s}   : ((brakeStop s)).ts = State.ts s := ts_of (fun _ hk => keep_brakeStop hk) rfl
@[simp] theorem get_judgeBrake {s}   {rq iq} (hq : Nat.testBit 0x60000000000000000000000000000000300800000000000000000000000000000000000000000000000000000000000000000000000000000000000000000000000000000024000000000000000000000000000000000000000000000000000000000000000000000000000 (Reg.ctorIdx rq) = false) : ((judgeBrake s)).get rq iq = State.get s rq iq :=
  reg_of iq (fun _ hk => keep_judgeBrake hk) rfl rfl rfl hq
@[simp] theorem dv_judgeBrake {s}   {rq iq} (hq : Nat.testBit 0x0 (Reg.ctorIdx rq) = false) : ((judgeBrake s)).dv rq iq = State.dv s rq iq :=
  dev_of iq (fun _ hk => keep_judgeBrake hk) rfl rfl rfl hq
@[simp] theorem se_judgeBrake {xq : State} {s}   : SameEvents xq ((judgeBrake s)) ↔ SameEvents xq s := se_of (fun _ hk => keep_judgeBrake hk) rfl
@[simp] theorem ts_judgeBrake {s}   : ((judgeBrake s)).ts = State.ts s := ts_of (fun _ hk => keep_judgeBrake hk) rfl
@[simp] theorem get_busCoast {s}   {rq iq} (hq : Nat.testBit 0x8000000028060000360000000000000e009c0800000300c00415600000001006284081020000002f05c02c6c600040000000000000004000080000000000000000000000000002800012040000008000000000000000000000c40000000000088000e00000483100000b00b00022b80000 (Reg.ctorIdx rq) = false) : ((busCoast s)).get rq iq = State.get s rq iq :=
  reg_of iq (fun _ hk => keep_busCoast hk) rfl rfl rfl hq
@[simp] theorem dv_busCoast {s}   {rq iq} (hq : Nat.testBit 0x100000000000000000000000000000000000000000001e00060000000000000000000000000000000000 (Reg.ctorIdx rq) = false) : ((busCoast s)).dv rq iq = State.dv s rq iq :=
  dev_of iq (fun _ hk => keep_busCoast hk) rfl rfl rfl hq
@[simp] theorem ts_busCoast {s}   : ((busCoast s)).ts = State.ts s := ts_of (fun _ hk => keep_busCoast hk) rfl
@[simp] theorem get_setCoast {s}   {rq iq} (hq : Nat.testBit 0x8000000028060000360000000000000e009c0800000300c00415600000001006284081020000002f05c02c6c60004000000000000000400008000000000000000000000000000280001204c000008000000000000000000000c40000000000088000e00000483100000b00b00022b80000 (Reg.ctorIdx rq) = false) : ((setCoast s)).get rq iq = State.get s rq iq :=
  reg_of iq (fun _ hk => keep_setCoast hk) rfl rfl rfl hq
@[simp] theorem dv_setCoast {s}   {rq iq} (hq : Nat.testBit 0x100000000000000000000000000000000000000000001e00060000000000000000000000000000000000 (Reg.ctorIdx rq) = false) : ((setCoast s)).dv rq iq = State.dv s rq iq :=
  dev_of iq (fun _ hk => keep_setCoast hk) rfl rfl rfl hq
@[simp] theorem ts_setCoast {s}   : ((setCoast s)).ts = State.ts s := ts_of (fun _ hk => keep_setCoast hk) rfl
@[simp] theorem get_busOver {s}   {rq iq} (hq : Nat.testBit 0x8000000028060000360000000000000e009e0000000300c00415600000001006284081020000002f05c02c6c60004000000000000000400008000000000000000000000000000280003e100000008000000000000000000000c40000000000088000e00000483100000b00b00022b80000 (Reg.ctorIdx rq) = false) : ((busOver s)).get rq iq = State.get s rq iq :=
  reg_of iq (fun _ hk => keep_busOver hk) rfl rfl rfl hq
@[simp] theorem dv_busOver {s}   {rq iq} (hq : Nat.testBit 0x100000000000000000000000000000000000000000001e00060000000000000000000000000000000000 (Reg.ctorIdx rq) = false) : ((busOver s)).dv rq iq = State.dv s rq iq :=
  dev_of iq (fun _ hk => keep_busOver hk) rfl rfl rfl hq
@[simp] theorem ts_busOver {s}   : ((busOver s)).ts = State.ts s := ts_of (fun _ hk => keep_busOver hk) rfl
@[simp] theorem get_busOverEnd {s}   {rq iq} (hq : Nat.testBit 0xc000000000000000000000000000000000000000000000000000000000000000000000000000000000000000000000000000000000000000000000000000000000000000000000000000000000000000000000000000000000000000000000 (Reg.ctorIdx rq) = false) : ((busOverEnd s)).get rq iq = State.get s rq iq :=
  reg_of iq (fun _ hk => keep_busOverEnd hk) rfl rfl rfl hq
@[simp] theorem dv_busOverEnd {s}   {rq iq} (hq : Nat.testBit 0x0 (Reg.ctorIdx rq) = false) : ((busOverEnd s)).dv rq iq = State.dv s rq iq :=
  dev_of iq (fun _ hk => keep_busOverEnd hk) rfl rfl rfl hq
@[simp] theorem se_busOverEnd {xq : State} {s}   : SameEvents xq ((busOverEnd s)) ↔ SameEvents xq s := se_of (fun _ hk => keep_busOverEnd hk) rfl
@[simp] theorem ts_busOverEnd {s}   : ((busOverEnd s)).ts = State.ts s := ts_of (fun _ hk => keep_busOverEnd hk) rfl
@[simp] theorem get_busStale {s}   {rq iq} (hq : Nat.testBit 0x806000000000000000000000000000000030080000000000000000000000000000000000000000000004000000000000000000000000000000000000000000000000000001000c000000000000000000000000000000000000000000000000000000000000000b00022b00000 (Reg.ctorIdx rq) = false) : ((busStale s)).get rq iq = State.get s rq iq :=
  reg_of iq (fun _ hk => keep_busStale hk) rfl rfl rfl hq
@[simp] theorem dv_busStale {s}   {rq iq} (hq : Nat.testBit 0x0 (Reg.ctorIdx rq) = false) : ((busStale s)).dv rq iq = State.dv s rq iq :=
  dev_of iq (fun _ hk => keep_busStale hk) rfl rfl rfl hq
@[simp] theorem ts_busStale {s}   : ((busStale s)).ts = State.ts s := ts_of (fun _ hk => keep_busStale hk) rfl
@[simp] theorem get_coastEnd {s}   {rq iq} (hq : Nat.testBit 0xc00000000000000000200000020000000600030000000082000100000000000000000000000000040004000000000000000000000000000000000000000000000000000001000c000000000000000000000100000040018000000000000000000000000000000b00022b00000 (Reg.ctorIdx rq) = false) : ((coastEnd s)).get rq iq = State.get s rq iq :=
  reg_of iq (fun _ hk => keep_coastEnd hk) rfl rfl rfl hq
@[simp] theorem dv_coastEnd {s}   {rq iq} (hq : Nat.testBit 0x0 (Reg.ctorIdx rq) = false) : ((coastEnd s)).dv rq iq = State.dv s rq iq :=
  dev_of iq (fun _ hk => keep_coastEnd hk) rfl rfl rfl hq
@[simp] theorem ts_coastEnd {s}   : ((coastEnd s)).ts = State.ts s := ts_of (fun _ hk => keep_coastEnd hk) rfl
@[simp] theorem get_hardOver {s} {b}   {rq iq} (hq : Nat.testBit 0x8000000008062000360000000000000e008e0000000300c00415600000001006284081020000002f05c02c6c60004000000000000000400008000000000000000000000000000280003e000000848000000000000000000000c40000000000088000e00000483100000b00b00022b80000 (Reg.ctorIdx rq) = false) : ((hardOver s b)).get rq iq = State.get s rq iq :=
  reg_of iq (fun _ hk => keep_hardOver hk) rfl rfl rfl hq
@[simp] theorem dv_hardOver {s} {b}   {rq iq} (hq : Nat.testBit 0x100000000000000000000000000000000000000000001e00060000000000000000000000000000000000 (Reg.ctorIdx rq) = false) : ((hardOver s b)).dv rq iq = State.dv s rq iq :=
  dev_of iq (fun _ hk => keep_hardOver hk) rfl rfl rfl hq
@[simp] theorem ts_hardOver {s} {b}   : ((hardOver s b)).ts = State.ts s := ts_of (fun _ hk => keep_hardOver hk) rfl
@[simp] theorem get_overReturn {s}   {rq iq} (hq : Nat.testBit 0x4060000000000000002000000228000006300f00000000820001000000000000000000000000000400040000000000000000000000000000000000000000000000000000016200000000000000000000000100000040018000000000000000000000000000000300022b00000 (Reg.ctorIdx rq) = false) : ((overReturn s)).get rq iq = State.get s rq iq :=
  reg_of iq (fun _ hk => keep_overReturn hk) rfl rfl rfl hq
@[simp] theorem dv_overReturn {s}   {rq iq} (hq : Nat.testBit 0x0 (Reg.ctorIdx rq) = false) : ((overReturn s)).dv rq iq = State.dv s rq iq :=
  dev_of iq (fun _ hk => keep_overReturn hk) rfl rfl rfl hq
@[simp] theorem ts_overReturn {s}   : ((overReturn s)).ts = State.ts s := ts_of (fun _ hk => keep_overReturn hk) rfl
@[simp] theorem get_comparatorRelease {s} {b} {coast} {hard}   {rq iq} (hq : Nat.testBit 0xc00000000000000000200000020000000600030000000082000100000000000000000000000000040004000000000000000000000000000000000000000000000000000001000c0000c0000000000000000100000040018000000000000000000000000000000b00022b00000 (Reg.ctorIdx rq) = false) : ((comparatorRelease s b coast hard)).get rq iq = State.get s rq iq :=
  reg_of iq (fun _ hk => keep_comparatorRelease hk) rfl rfl rfl hq
@[simp] theorem dv_comparatorRelease {s} {b} {coast} {hard}   {rq iq} (hq : Nat.testBit 0x0 (Reg.ctorIdx rq) = false) : ((comparatorRelease s b coast hard)).dv rq iq = State.dv s rq iq :=
  dev_of iq (fun _ hk => keep_comparatorRelease hk) rfl rfl rfl hq
@[simp] theorem ts_comparatorRelease {s} {b} {coast} {hard}   : ((comparatorRelease s b coast hard)).ts = State.ts s := ts_of (fun _ hk => keep_comparatorRelease hk) rfl
@[simp] theorem get_vdrvLockout {s} {b} {mv}   {rq iq} (hq : Nat.testBit 0x8000000028060000360000000000000e009c0206000300c00415600000001006284081020000002f05c02c6c600040000000000000004000080000000000000000000000000002800012000009118000000000000000000000c40000000000088000e00000483100000b00b00022b80000 (Reg.ctorIdx rq) = false) : ((vdrvLockout s b mv)).get rq iq = State.get s rq iq :=
  reg_of iq (fun _ hk => keep_vdrvLockout hk) rfl rfl rfl hq
@[simp] theorem dv_vdrvLockout {s} {b} {mv}   {rq iq} (hq : Nat.testBit 0x100000000000000000000000000000000000000000001e00060000000000000000000000000000000000 (Reg.ctorIdx rq) = false) : ((vdrvLockout s b mv)).dv rq iq = State.dv s rq iq :=
  dev_of iq (fun _ hk => keep_vdrvLockout hk) rfl rfl rfl hq
@[simp] theorem ts_vdrvLockout {s} {b} {mv}   : ((vdrvLockout s b mv)).ts = State.ts s := ts_of (fun _ hk => keep_vdrvLockout hk) rfl
@[simp] theorem get_bankBack {s} {b}   {rq iq} (hq : Nat.testBit 0xc000000000000000002000000200000006000300000000820001000000000000000000000000000400040000000000000000000000000000000000000000000000000000010000000000000000000000000100000040018000000000000000000000000000000b00022b00000 (Reg.ctorIdx rq) = false) : ((bankBack s b)).get rq iq = State.get s rq iq :=
  reg_of iq (fun _ hk => keep_bankBack hk) rfl rfl rfl hq
@[simp] theorem dv_bankBack {s} {b}   {rq iq} (hq : Nat.testBit 0x0 (Reg.ctorIdx rq) = false) : ((bankBack s b)).dv rq iq = State.dv s rq iq :=
  dev_of iq (fun _ hk => keep_bankBack hk) rfl rfl rfl hq
@[simp] theorem ts_bankBack {s} {b}   : ((bankBack s b)).ts = State.ts s := ts_of (fun _ hk => keep_bankBack hk) rfl
@[simp] theorem get_vdrvRelease {s} {b} {mv}   {rq iq} (hq : Nat.testBit 0xc000000000000000002000000200000006000300000000820001000000000000000000000000000400040000000000000000000000000000000000000000000000000000010000001010000000000000000100000040018000000000000000000000000000000b00022b00000 (Reg.ctorIdx rq) = false) : ((vdrvRelease s b mv)).get rq iq = State.get s rq iq :=
  reg_of iq (fun _ hk => keep_vdrvRelease hk) rfl rfl rfl hq
@[simp] theorem dv_vdrvRelease {s} {b} {mv}   {rq iq} (hq : Nat.testBit 0x0 (Reg.ctorIdx rq) = false) : ((vdrvRelease s b mv)).dv rq iq = State.dv s rq iq :=
  dev_of iq (fun _ hk => keep_vdrvRelease hk) rfl rfl rfl hq
@[simp] theorem ts_vdrvRelease {s} {b} {mv}   : ((vdrvRelease s b mv)).ts = State.ts s := ts_of (fun _ hk => keep_vdrvRelease hk) rfl
@[simp] theorem get_sendRoles {s} {b}   {rq iq} (hq : Nat.testBit 0x80000000000000000000000000000000000000000000000000000000000000000000000000000000000000000000000000000000000000000000000000000000000000000000000000000000000000000000000000000000000000000 (Reg.ctorIdx rq) = false) : ((sendRoles s b)).get rq iq = State.get s rq iq :=
  reg_of iq (fun _ hk => keep_sendRoles hk) rfl rfl rfl hq
@[simp] theorem dv_sendRoles {s} {b}   {rq iq} (hq : Nat.testBit 0x0 (Reg.ctorIdx rq) = false) : ((sendRoles s b)).dv rq iq = State.dv s rq iq :=
  dev_of iq (fun _ hk => keep_sendRoles hk) rfl rfl rfl hq
@[simp] theorem se_sendRoles {xq : State} {s} {b}   : SameEvents xq ((sendRoles s b)) ↔ SameEvents xq s := se_of (fun _ hk => keep_sendRoles hk) rfl
@[simp] theorem ts_sendRoles {s} {b}   : ((sendRoles s b)).ts = State.ts s := ts_of (fun _ hk => keep_sendRoles hk) rfl
@[simp] theorem get_bankRelease {s} {b}   {rq iq} (hq : Nat.testBit 0xc000000000000000002000000200202086000300000000820001000000000000000000000000000400040000000000000000000000000000000000000000000000000000010000000000000000000000000100000040018000000000000000000000000000000b00022b00000 (Reg.ctorIdx rq) = false) : ((bankRelease s b)).get rq iq = State.get s rq iq :=
  reg_of iq (fun _ hk => keep_bankRelease hk) rfl rfl rfl hq
@[simp] theorem dv_bankRelease {s} {b}   {rq iq} (hq : Nat.testBit 0x0 (Reg.ctorIdx rq) = false) : ((bankRelease s b)).dv rq iq = State.dv s rq iq :=
  dev_of iq (fun _ hk => keep_bankRelease hk) rfl rfl rfl hq
@[simp] theorem ts_bankRelease {s} {b}   : ((bankRelease s b)).ts = State.ts s := ts_of (fun _ hk => keep_bankRelease hk) rfl
@[simp] theorem get_dieBath {s} {slots} {scope} {cause}   {rq iq} (hq : Nat.testBit 0x60000360000000000000e00860000000300c00415600000001006284081020000002f05c02c6c20004000000000000000400008000000000000000000000000000000002e000000008000000000000000000000c40000000000008000e00000483100000b00300022b80000 (Reg.ctorIdx rq) = false) : ((dieBath s slots scope cause)).get rq iq = State.get s rq iq :=
  reg_of iq (fun _ hk => keep_dieBath hk) rfl rfl rfl hq
@[simp] theorem dv_dieBath {s} {slots} {scope} {cause}   {rq iq} (hq : Nat.testBit 0x0 (Reg.ctorIdx rq) = false) : ((dieBath s slots scope cause)).dv rq iq = State.dv s rq iq :=
  dev_of iq (fun _ hk => keep_dieBath hk) rfl rfl rfl hq
@[simp] theorem ts_dieBath {s} {slots} {scope} {cause}   : ((dieBath s slots scope cause)).ts = State.ts s := ts_of (fun _ hk => keep_dieBath hk) rfl
@[simp] theorem get_watchdogExpiry {s} {b}   {rq iq} (hq : Nat.testBit 0x8000000008060000360000000000000e008e0044000300c00415600000001006284081020000002f05c02c6c60004000000000000000400008000000000000000000000000000280003e000010208000000000000000000000c40000000000088000e00000483100000b00b00022b80000 (Reg.ctorIdx rq) = false) : ((watchdogExpiry s b)).get rq iq = State.get s rq iq :=
  reg_of iq (fun _ hk => keep_watchdogExpiry hk) rfl rfl rfl hq
@[simp] theorem dv_watchdogExpiry {s} {b}   {rq iq} (hq : Nat.testBit 0x100000000000000000000000000000000000000000001e00060000000000000000000000000000000000 (Reg.ctorIdx rq) = false) : ((watchdogExpiry s b)).dv rq iq = State.dv s rq iq :=
  dev_of iq (fun _ hk => keep_watchdogExpiry hk) rfl rfl rfl hq
@[simp] theorem ts_watchdogExpiry {s} {b}   : ((watchdogExpiry s b)).ts = State.ts s := ts_of (fun _ hk => keep_watchdogExpiry hk) rfl
@[simp] theorem get_dieRelease {s} {b}   {rq iq} (hq : Nat.testBit 0xc060000000000000002000000228206086300f00000000820001000000000000000000000000000400040000000000000000000000000000000000000000000000000000016200000008000002080000000100000040018000000000000000000000000000000b00022b00000 (Reg.ctorIdx rq) = false) : ((dieRelease s b)).get rq iq = State.get s rq iq :=
  reg_of iq (fun _ hk => keep_dieRelease hk) rfl rfl rfl hq
@[simp] theorem dv_dieRelease {s} {b}   {rq iq} (hq : Nat.testBit 0x0 (Reg.ctorIdx rq) = false) : ((dieRelease s b)).dv rq iq = State.dv s rq iq :=
  dev_of iq (fun _ hk => keep_dieRelease hk) rfl rfl rfl hq
@[simp] theorem ts_dieRelease {s} {b}   : ((dieRelease s b)).ts = State.ts s := ts_of (fun _ hk => keep_dieRelease hk) rfl
@[simp] theorem get_dieHot {s} {b}   {rq iq} (hq : Nat.testBit 0x8000000008062000360000000000000e008c0100000300c00415600000001006284081020000002f05c02c6c600040000000000000004000080000000000000000000000000002800012000000428000000000000000000000c40000000000088000e00000483100000b00b00022b80000 (Reg.ctorIdx rq) = false) : ((dieHot s b)).get rq iq = State.get s rq iq :=
  reg_of iq (fun _ hk => keep_dieHot hk) rfl rfl rfl hq
@[simp] theorem dv_dieHot {s} {b}   {rq iq} (hq : Nat.testBit 0x100000000000000000000000000000000000000000001e00060000000000000000000000000000000000 (Reg.ctorIdx rq) = false) : ((dieHot s b)).dv rq iq = State.dv s rq iq :=
  dev_of iq (fun _ hk => keep_dieHot hk) rfl rfl rfl hq
@[simp] theorem ts_dieHot {s} {b}   : ((dieHot s b)).ts = State.ts s := ts_of (fun _ hk => keep_dieHot hk) rfl
@[simp] theorem get_dieCool {s} {b} {temp}   {rq iq} (hq : Nat.testBit 0x8000000000000000000000000000100000000000000000000000000000000000000000000000000000000000000000000000000000000000000000000000000000000000000000000020000000000000000000000000000000000000000000000000000000000800000000000 (Reg.ctorIdx rq) = false) : ((dieCool s b temp)).get rq iq = State.get s rq iq :=
  reg_of iq (fun _ hk => keep_dieCool hk) rfl rfl rfl hq
@[simp] theorem dv_dieCool {s} {b} {temp}   {rq iq} (hq : Nat.testBit 0x0 (Reg.ctorIdx rq) = false) : ((dieCool s b temp)).dv rq iq = State.dv s rq iq :=
  dev_of iq (fun _ hk => keep_dieCool hk) rfl rfl rfl hq
@[simp] theorem se_dieCool {xq : State} {s} {b} {temp}   : SameEvents xq ((dieCool s b temp)) ↔ SameEvents xq s := se_of (fun _ hk => keep_dieCool hk) rfl
@[simp] theorem ts_dieCool {s} {b} {temp}   : ((dieCool s b temp)).ts = State.ts s := ts_of (fun _ hk => keep_dieCool hk) rfl
@[simp] theorem get_writePwmEn {s} {p} {on}   {rq iq} (hq : Nat.testBit 0x8000000008062000360000000000000e008c0000000300c00415600000001006284081020000002f05c02c6c600040000000000000004000080000000000000000000000000002800012024000008000000000080000000000c40000000000088000e00000483100000b00b00022b80000 (Reg.ctorIdx rq) = false) : ((writePwmEn s p on)).get rq iq = State.get s rq iq :=
  reg_of iq (fun _ hk => keep_writePwmEn hk) rfl rfl rfl hq
@[simp] theorem dv_writePwmEn {s} {p} {on}   {rq iq} (hq : Nat.testBit 0x100000000000000000000000000000000000000000001e00060000000000000000000000000000000000 (Reg.ctorIdx rq) = false) : ((writePwmEn s p on)).dv rq iq = State.dv s rq iq :=
  dev_of iq (fun _ hk => keep_writePwmEn hk) rfl rfl rfl hq
@[simp] theorem ts_writePwmEn {s} {p} {on}   : ((writePwmEn s p on)).ts = State.ts s := ts_of (fun _ hk => keep_writePwmEn hk) rfl
@[simp] theorem get_writeSbCmd {s} {v}   {rq iq} (hq : Nat.testBit 0x8000000000060000360000000000000e00868000000300c00415600000001006284081020000002f05c02c6c60004000000000000000400008000000000000000000000000000280003e200000008000000000000000000000c40000000000088000e00000483100000b00300022b80000 (Reg.ctorIdx rq) = false) : ((writeSbCmd s v)).get rq iq = State.get s rq iq :=
  reg_of iq (fun _ hk => keep_writeSbCmd hk) rfl rfl rfl hq
@[simp] theorem dv_writeSbCmd {s} {v}   {rq iq} (hq : Nat.testBit 0x100000000000000000000000000000000000000000001e00060000000000000000000000000000000000 (Reg.ctorIdx rq) = false) : ((writeSbCmd s v)).dv rq iq = State.dv s rq iq :=
  dev_of iq (fun _ hk => keep_writeSbCmd hk) rfl rfl rfl hq
@[simp] theorem ts_writeSbCmd {s} {v}   : ((writeSbCmd s v)).ts = State.ts s := ts_of (fun _ hk => keep_writeSbCmd hk) rfl
@[simp] theorem get_hsExpiry {s} {i}   {rq iq} (hq : Nat.testBit 0x60000000000000000000000040000000300c00000000000000000000000000000000000000000000000000000000000000000000000000000000000000000000000000002000000008000000000000000000000000000000000000000000000000000000000000000000000 (Reg.ctorIdx rq) = false) : ((hsExpiry s i)).get rq iq = State.get s rq iq :=
  reg_of iq (fun _ hk => keep_hsExpiry hk) rfl rfl rfl hq
@[simp] theorem dv_hsExpiry {s} {i}   {rq iq} (hq : Nat.testBit 0x0 (Reg.ctorIdx rq) = false) : ((hsExpiry s i)).dv rq iq = State.dv s rq iq :=
  dev_of iq (fun _ hk => keep_hsExpiry hk) rfl rfl rfl hq
@[simp] theorem se_hsExpiry {xq : State} {s} {i}   : SameEvents xq ((hsExpiry s i)) ↔ SameEvents xq s := se_of (fun _ hk => keep_hsExpiry hk) rfl
@[simp] theorem ts_hsExpiry {s} {i}   : ((hsExpiry s i)).ts = State.ts s := ts_of (fun _ hk => keep_hsExpiry hk) rfl
@[simp] theorem get_judgeBathStill {s} {i}   {rq iq} (hq : Nat.testBit 0x400000000000000000000000000000000000000000000000000000000000000000000000000000000000000000000000000000000000000000000000000000000000000000000000000000000000000000000000000000000000 (Reg.ctorIdx rq) = false) : ((judgeBathStill s i)).get rq iq = State.get s rq iq :=
  reg_of iq (fun _ hk => keep_judgeBathStill hk) rfl rfl rfl hq
@[simp] theorem dv_judgeBathStill {s} {i}   {rq iq} (hq : Nat.testBit 0x0 (Reg.ctorIdx rq) = false) : ((judgeBathStill s i)).dv rq iq = State.dv s rq iq :=
  dev_of iq (fun _ hk => keep_judgeBathStill hk) rfl rfl rfl hq
@[simp] theorem se_judgeBathStill {xq : State} {s} {i}   : SameEvents xq ((judgeBathStill s i)) ↔ SameEvents xq s := se_of (fun _ hk => keep_judgeBathStill hk) rfl
@[simp] theorem ts_judgeBathStill {s} {i}   : ((judgeBathStill s i)).ts = State.ts s := ts_of (fun _ hk => keep_judgeBathStill hk) rfl
@[simp] theorem get_stillExpiry {s} {i}   {rq iq} (hq : Nat.testBit 0x60000000000000000000000040000000300c00000000000000000000000000000000000000000000000000000000000000000000000000000000000000000000000000002000000008000000000000000000000000000000000000000000000000000000000000000000000 (Reg.ctorIdx rq) = false) : ((stillExpiry s i)).get rq iq = State.get s rq iq :=
  reg_of iq (fun _ hk => keep_stillExpiry hk) rfl rfl rfl hq
@[simp] theorem dv_stillExpiry {s} {i}   {rq iq} (hq : Nat.testBit 0x0 (Reg.ctorIdx rq) = false) : ((stillExpiry s i)).dv rq iq = State.dv s rq iq :=
  dev_of iq (fun _ hk => keep_stillExpiry hk) rfl rfl rfl hq
@[simp] theorem se_stillExpiry {xq : State} {s} {i}   : SameEvents xq ((stillExpiry s i)) ↔ SameEvents xq s := se_of (fun _ hk => keep_stillExpiry hk) rfl
@[simp] theorem ts_stillExpiry {s} {i}   : ((stillExpiry s i)).ts = State.ts s := ts_of (fun _ hk => keep_stillExpiry hk) rfl
@[simp] theorem get_haltStart {s} {i} {cause} {rate} {scurve}   {rq iq} (hq : Nat.testBit 0x4080000000001e00000000000040000000000000000000000000000000000000000000000000000000000000000000000000000000000000000000000000000000e00000000000000000300022b00000 (Reg.ctorIdx rq) = false) : ((haltStart s i cause rate scurve)).get rq iq = State.get s rq iq :=
  reg_of iq (fun _ hk => keep_haltStart hk) rfl rfl rfl hq
@[simp] theorem dv_haltStart {s} {i} {cause} {rate} {scurve}   {rq iq} (hq : Nat.testBit 0x0 (Reg.ctorIdx rq) = false) : ((haltStart s i cause rate scurve)).dv rq iq = State.dv s rq iq :=
  dev_of iq (fun _ hk => keep_haltStart hk) rfl rfl rfl hq
@[simp] theorem ts_haltStart {s} {i} {cause} {rate} {scurve}   : ((haltStart s i cause rate scurve)).ts = State.ts s := ts_of (fun _ hk => keep_haltStart hk) rfl
@[simp] theorem get_haltOn {s} {i}   {rq iq} (hq : Nat.testBit 0x4080000000001e00000000000040000000000000000000000000000000000000000000000000000000000000000000000000000000000000000000000000000000e00000000000000000300022b00000 (Reg.ctorIdx rq) = false) : ((haltOn s i)).get rq iq = State.get s rq iq :=
  reg_of iq (fun _ hk => keep_haltOn hk) rfl rfl rfl hq
@[simp] theorem dv_haltOn {s} {i}   {rq iq} (hq : Nat.testBit 0x0 (Reg.ctorIdx rq) = false) : ((haltOn s i)).dv rq iq = State.dv s rq iq :=
  dev_of iq (fun _ hk => keep_haltOn hk) rfl rfl rfl hq
@[simp] theorem ts_haltOn {s} {i}   : ((haltOn s i)).ts = State.ts s := ts_of (fun _ hk => keep_haltOn hk) rfl
@[simp] theorem get_restartSource {s} {i}   {rq iq} (hq : Nat.testBit 0x20000000000400000000000000000000000000000000000000000000000000000000000000000000000000000000000000000000000000000000000000000000000400000000000000000000000 (Reg.ctorIdx rq) = false) : ((restartSource s i)).get rq iq = State.get s rq iq :=
  reg_of iq (fun _ hk => keep_restartSource hk) rfl rfl rfl hq
@[simp] theorem dv_restartSource {s} {i}   {rq iq} (hq : Nat.testBit 0x0 (Reg.ctorIdx rq) = false) : ((restartSource s i)).dv rq iq = State.dv s rq iq :=
  dev_of iq (fun _ hk => keep_restartSource hk) rfl rfl rfl hq
@[simp] theorem se_restartSource {xq : State} {s} {i}   : SameEvents xq ((restartSource s i)) ↔ SameEvents xq s := se_of (fun _ hk => keep_restartSource hk) rfl
@[simp] theorem ts_restartSource {s} {i}   : ((restartSource s i)).ts = State.ts s := ts_of (fun _ hk => keep_restartSource hk) rfl
@[simp] theorem get_haltOff {s} {i}   {rq iq} (hq : Nat.testBit 0x20000001000400000000000000000000000000000000000000000000000000000000000000000000000000000000000000000000000000000000000000000000000400000000000000000000000 (Reg.ctorIdx rq) = false) : ((haltOff s i)).get rq iq = State.get s rq iq :=
  reg_of iq (fun _ hk => keep_haltOff hk) rfl rfl rfl hq
@[simp] theorem dv_haltOff {s} {i}   {rq iq} (hq : Nat.testBit 0x0 (Reg.ctorIdx rq) = false) : ((haltOff s i)).dv rq iq = State.dv s rq iq :=
  dev_of iq (fun _ hk => keep_haltOff hk) rfl rfl rfl hq
@[simp] theorem se_haltOff {xq : State} {s} {i}   : SameEvents xq ((haltOff s i)) ↔ SameEvents xq s := se_of (fun _ hk => keep_haltOff hk) rfl
@[simp] theorem ts_haltOff {s} {i}   : ((haltOff s i)).ts = State.ts s := ts_of (fun _ hk => keep_haltOff hk) rfl
@[simp] theorem get_rtStop {s}   {rq iq} (hq : Nat.testBit 0x2000000000000000000000000000004080000000001e00000000000040000000000000000000000000000000000000000000000000000000000000000000000000000000000000000000000000000000e00000000000000000300022b00000 (Reg.ctorIdx rq) = false) : ((rtStop s)).get rq iq = State.get s rq iq :=
  reg_of iq (fun _ hk => keep_rtStop hk) rfl rfl rfl hq
@[simp] theorem dv_rtStop {s}   {rq iq} (hq : Nat.testBit 0x0 (Reg.ctorIdx rq) = false) : ((rtStop s)).dv rq iq = State.dv s rq iq :=
  dev_of iq (fun _ hk => keep_rtStop hk) rfl rfl rfl hq
@[simp] theorem ts_rtStop {s}   : ((rtStop s)).ts = State.ts s := ts_of (fun _ hk => keep_rtStop hk) rfl
@[simp] theorem get_enterMode {s} {i} {resume}   {rq iq} (hq : Nat.testBit 0x400000000000000300020000000000400f000000400000000000000000008000000000000000000000000000000000000000000000000000000000000000000000000000000080000000004001b0000200300022b80000 (Reg.ctorIdx rq) = false) : ((enterMode s i resume)).get rq iq = State.get s rq iq :=
  reg_of iq (fun _ hk => keep_enterMode hk) rfl rfl rfl hq
@[simp] theorem dv_enterMode {s} {i} {resume}   {rq iq} (hq : Nat.testBit 0x0 (Reg.ctorIdx rq) = false) : ((enterMode s i resume)).dv rq iq = State.dv s rq iq :=
  dev_of iq (fun _ hk => keep_enterMode hk) rfl rfl rfl hq
@[simp] theorem ts_enterMode {s} {i} {resume}   : ((enterMode s i resume)).ts = State.ts s := ts_of (fun _ hk => keep_enterMode hk) rfl
@[simp] theorem get_switchMode {s} {i}   {rq iq} (hq : Nat.testBit 0x360000000000000e00000000000000000000400000000000000301f2000001a025c02f012000400000000000000040008800000000000000000000000000000000000000000000000000000000000000000000000000000080000000004801b0000b00300022b80000 (Reg.ctorIdx rq) = false) : ((switchMode s i)).get rq iq = State.get s rq iq :=
  reg_of iq (fun _ hk => keep_switchMode hk) rfl rfl rfl hq
@[simp] theorem dv_switchMode {s} {i}   {rq iq} (hq : Nat.testBit 0x0 (Reg.ctorIdx rq) = false) : ((switchMode s i)).dv rq iq = State.dv s rq iq :=
  dev_of iq (fun _ hk => keep_switchMode hk) rfl rfl rfl hq
@[simp] theorem ts_switchMode {s} {i}   : ((switchMode s i)).ts = State.ts s := ts_of (fun _ hk => keep_switchMode hk) rfl
@[simp] theorem get_takeMode {s} {i}   {rq iq} (hq : Nat.testBit 0x360000000000000e00000000000000000000400000000000004381f2000001ae25c02f01200040000000000000004000880000000000000000000000000000000000000000000000000000000000000000000000000000008000e000004801b0000b00300022b80000 (Reg.ctorIdx rq) = false) : ((takeMode s i)).get rq iq = State.get s rq iq :=
  reg_of iq (fun _ hk => keep_takeMode hk) rfl rfl rfl hq
@[simp] theorem dv_takeMode {s} {i}   {rq iq} (hq : Nat.testBit 0x0 (Reg.ctorIdx rq) = false) : ((takeMode s i)).dv rq iq = State.dv s rq iq :=
  dev_of iq (fun _ hk => keep_takeMode hk) rfl rfl rfl hq
@[simp] theorem ts_takeMode {s} {i}   : ((takeMode s i)).ts = State.ts s := ts_of (fun _ hk => keep_takeMode hk) rfl
@[simp] theorem get_newSetPoint {s} {i}   {rq iq} (hq : Nat.testBit 0xbc700000000040000000000000000000000000000000000000000000000000000000000000000000000000000000000000000000000000000000000002000000000000300022b00000 (Reg.ctorIdx rq) = false) : ((newSetPoint s i)).get rq iq = State.get s rq iq :=
  reg_of iq (fun _ hk => keep_newSetPoint hk) rfl rfl rfl hq
@[simp] theorem dv_newSetPoint {s} {i}   {rq iq} (hq : Nat.testBit 0x0 (Reg.ctorIdx rq) = false) : ((newSetPoint s i)).dv rq iq = State.dv s rq iq :=
  dev_of iq (fun _ hk => keep_newSetPoint hk) rfl rfl rfl hq
@[simp] theorem ts_newSetPoint {s} {i}   : ((newSetPoint s i)).ts = State.ts s := ts_of (fun _ hk => keep_newSetPoint hk) rfl
@[simp] theorem get_interpolationOn {s} {i}   {rq iq} (hq : Nat.testBit 0x1020000000000000000000000000000000000000000000000000000000000000000000000000000000000000000000000000000000000000000000000000000000000000000000000000000000000 (Reg.ctorIdx rq) = false) : ((interpolationOn s i)).get rq iq = State.get s rq iq :=
  reg_of iq (fun _ hk => keep_interpolationOn hk) rfl rfl rfl hq
@[simp] theorem dv_interpolationOn {s} {i}   {rq iq} (hq : Nat.testBit 0x0 (Reg.ctorIdx rq) = false) : ((interpolationOn s i)).dv rq iq = State.dv s rq iq :=
  dev_of iq (fun _ hk => keep_interpolationOn hk) rfl rfl rfl hq
@[simp] theorem se_interpolationOn {xq : State} {s} {i}   : SameEvents xq ((interpolationOn s i)) ↔ SameEvents xq s := se_of (fun _ hk => keep_interpolationOn hk) rfl
@[simp] theorem ts_interpolationOn {s} {i}   : ((interpolationOn s i)).ts = State.ts s := ts_of (fun _ hk => keep_interpolationOn hk) rfl
@[simp] theorem get_interpolationOff {s} {i}   {rq iq} (hq : Nat.testBit 0x1020000000000000000000000000000000000000000000000000000000000000000000000000000000000000000000000000000000000000000000000000000000000000000000000000000000000 (Reg.ctorIdx rq) = false) : ((interpolationOff s i)).get rq iq = State.get s rq iq :=
  reg_of iq (fun _ hk => keep_interpolationOff hk) rfl rfl rfl hq
@[simp] theorem dv_interpolationOff {s} {i}   {rq iq} (hq : Nat.testBit 0x0 (Reg.ctorIdx rq) = false) : ((interpolationOff s i)).dv rq iq = State.dv s rq iq :=
  dev_of iq (fun _ hk => keep_interpolationOff hk) rfl rfl rfl hq
@[simp] theorem se_interpolationOff {xq : State} {s} {i}   : SameEvents xq ((interpolationOff s i)) ↔ SameEvents xq s := se_of (fun _ hk => keep_interpolationOff hk) rfl
@[simp] theorem ts_interpolationOff {s} {i}   : ((interpolationOff s i)).ts = State.ts s := ts_of (fun _ hk => keep_interpolationOff hk) rfl
@[simp] theorem get_bitFourRise {s} {i}   {rq iq} (hq : Nat.testBit 0x42ff0e0000000ebc7001a400004000000000000000000000000000000000000000000000000080000000000000000000000000000004000000000000000000000ae00002001000000000300022b00000 (Reg.ctorIdx rq) = false) : ((bitFourRise s i)).get rq iq = State.get s rq iq :=
  reg_of iq (fun _ hk => keep_bitFourRise hk) rfl rfl rfl hq
@[simp] theorem dv_bitFourRise {s} {i}   {rq iq} (hq : Nat.testBit 0x1f5000000000000000000000000000000 (Reg.ctorIdx rq) = false) : ((bitFourRise s i)).dv rq iq = State.dv s rq iq :=
  dev_of iq (fun _ hk => keep_bitFourRise hk) rfl rfl rfl hq
@[simp] theorem ts_bitFourRise {s} {i}   : ((bitFourRise s i)).ts = State.ts s := ts_of (fun _ hk => keep_bitFourRise hk) rfl
@[simp] theorem get_bitFourFall {s} {i}   {rq iq} (hq : Nat.testBit 0x1020000000020000000000000000000000000000000000000000000000000000000000000000000000000000000000000000000000000000000000000000000000000000000000000000000000000 (Reg.ctorIdx rq) = false) : ((bitFourFall s i)).get rq iq = State.get s rq iq :=
  reg_of iq (fun _ hk => keep_bitFourFall hk) rfl rfl rfl hq
@[simp] theorem dv_bitFourFall {s} {i}   {rq iq} (hq : Nat.testBit 0x0 (Reg.ctorIdx rq) = false) : ((bitFourFall s i)).dv rq iq = State.dv s rq iq :=
  dev_of iq (fun _ hk => keep_bitFourFall hk) rfl rfl rfl hq
@[simp] theorem se_bitFourFall {xq : State} {s} {i}   : SameEvents xq ((bitFourFall s i)) ↔ SameEvents xq s := se_of (fun _ hk => keep_bitFourFall hk) rfl
@[simp] theorem ts_bitFourFall {s} {i}   : ((bitFourFall s i)).ts = State.ts s := ts_of (fun _ hk => keep_bitFourFall hk) rfl
@[simp] theorem get_leaveRide {s} {i} {ds}   {rq iq} (hq : Nat.testBit 0x8000000000000000000000000000000000000000000000000000000000000000000000000000000000000000400000000000000000000000000000000000000000000000000002800010000000000000000000000000000000000000000000080000000000000000000000000000000000 (Reg.ctorIdx rq) = false) : ((leaveRide s i ds)).get rq iq = State.get s rq iq :=
  reg_of iq (fun _ hk => keep_leaveRide hk) rfl rfl rfl hq
@[simp] theorem dv_leaveRide {s} {i} {ds}   {rq iq} (hq : Nat.testBit 0x100000000000000000000000000000000000000000001e00060000000000000000000000000000000000 (Reg.ctorIdx rq) = false) : ((leaveRide s i ds)).dv rq iq = State.dv s rq iq :=
  dev_of iq (fun _ hk => keep_leaveRide hk) rfl rfl rfl hq
@[simp] theorem se_leaveRide {xq : State} {s} {i} {ds}   : SameEvents xq ((leaveRide s i ds)) ↔ SameEvents xq s := se_of (fun _ hk => keep_leaveRide hk) rfl
@[simp] theorem ts_leaveRide {s} {i} {ds}   : ((leaveRide s i ds)).ts = State.ts s := ts_of (fun _ hk => keep_leaveRide hk) rfl
@[simp] theorem get_stopThen {s} {i} {after}   {rq iq} (hq : Nat.testBit 0x4081020000002e00002c00000040000000000000000000000000000000000000000000000000000000000000000000000000000000000000000000000000008000e00000080100000a00300022b80000 (Reg.ctorIdx rq) = false) : ((stopThen s i after)).get rq iq = State.get s rq iq :=
  reg_of iq (fun _ hk => keep_stopThen hk) rfl rfl rfl hq
@[simp] theorem dv_stopThen {s} {i} {after}   {rq iq} (hq : Nat.testBit 0x0 (Reg.ctorIdx rq) = false) : ((stopThen s i after)).dv rq iq = State.dv s rq iq :=
  dev_of iq (fun _ hk => keep_stopThen hk) rfl rfl rfl hq
@[simp] theorem ts_stopThen {s} {i} {after}   : ((stopThen s i after)).ts = State.ts s := ts_of (fun _ hk => keep_stopThen hk) rfl
@[simp] theorem get_cmdShutdown {s} {i}   {rq iq} (hq : Nat.testBit 0x8000000000060000360000000000000e00800000000300800415600000001006284081020000002f05c02c6c600040000000000000004000080000000000000000000000000002800010000000000000000000000000000000c40000000000088000e00000483100000b00300022b80000 (Reg.ctorIdx rq) = false) : ((cmdShutdown s i)).get rq iq = State.get s rq iq :=
  reg_of iq (fun _ hk => keep_cmdShutdown hk) rfl rfl rfl hq
@[simp] theorem dv_cmdShutdown {s} {i}   {rq iq} (hq : Nat.testBit 0x100000000000000000000000000000000000000000001e00060000000000000000000000000000000000 (Reg.ctorIdx rq) = false) : ((cmdShutdown s i)).dv rq iq = State.dv s rq iq :=
  dev_of iq (fun _ hk => keep_cmdShutdown hk) rfl rfl rfl hq
@[simp] theorem ts_cmdShutdown {s} {i}   : ((cmdShutdown s i)).ts = State.ts s := ts_of (fun _ hk => keep_cmdShutdown hk) rfl
@[simp] theorem get_cmdSwitchOn {s} {i}   {rq iq} (hq : Nat.testBit 0x8000000000000000000000000000000000000000000000000000000000000000000000000000000000000000400000000000000000000000000000000000000000000000000002800000000000000000000000000000000000000000000000080000000000000000000000000000000000 (Reg.ctorIdx rq) = false) : ((cmdSwitchOn s i)).get rq iq = State.get s rq iq :=
  reg_of iq (fun _ hk => keep_cmdSwitchOn hk) rfl rfl rfl hq
@[simp] theorem dv_cmdSwitchOn {s} {i}   {rq iq} (hq : Nat.testBit 0x100000000000000000000000000000000000000000001e00060000000000000000000000000000000000 (Reg.ctorIdx rq) = false) : ((cmdSwitchOn s i)).dv rq iq = State.dv s rq iq :=
  dev_of iq (fun _ hk => keep_cmdSwitchOn hk) rfl rfl rfl hq
@[simp] theorem se_cmdSwitchOn {xq : State} {s} {i}   : SameEvents xq ((cmdSwitchOn s i)) ↔ SameEvents xq s := se_of (fun _ hk => keep_cmdSwitchOn hk) rfl
@[simp] theorem ts_cmdSwitchOn {s} {i}   : ((cmdSwitchOn s i)).ts = State.ts s := ts_of (fun _ hk => keep_cmdSwitchOn hk) rfl
@[simp] theorem get_cmdDisableOperation {s} {i}   {rq iq} (hq : Nat.testBit 0x8000000000060000360000000000000e00800000000300800415600000001006284081020000002f05c02c6c600040000000000000004000080000000000000000000000000002800010000000000000000000000000000000c40000000000088000e00000483100000b00300022b80000 (Reg.ctorIdx rq) = false) : ((cmdDisableOperation s i)).get rq iq = State.get s rq iq :=
  reg_of iq (fun _ hk => keep_cmdDisableOperation hk) rfl rfl rfl hq
@[simp] theorem dv_cmdDisableOperation {s} {i}   {rq iq} (hq : Nat.testBit 0x100000000000000000000000000000000000000000001e00060000000000000000000000000000000000 (Reg.ctorIdx rq) = false) : ((cmdDisableOperation s i)).dv rq iq = State.dv s rq iq :=
  dev_of iq (fun _ hk => keep_cmdDisableOperation hk) rfl rfl rfl hq
@[simp] theorem ts_cmdDisableOperation {s} {i}   : ((cmdDisableOperation s i)).ts = State.ts s := ts_of (fun _ hk => keep_cmdDisableOperation hk) rfl
@[simp] theorem get_cmdEnable {s} {i}   {rq iq} (hq : Nat.testBit 0x24000000360000000002000e00a00000006000300415600820001006284081020000002f05c02c6c600040000000000000004000080000000000000000000000000000000000000000000000000000000000100000c40018000000008000e00000483100000b00300022b80000 (Reg.ctorIdx rq) = false) : ((cmdEnable s i)).get rq iq = State.get s rq iq :=
  reg_of iq (fun _ hk => keep_cmdEnable hk) rfl rfl rfl hq
@[simp] theorem dv_cmdEnable {s} {i}   {rq iq} (hq : Nat.testBit 0x0 (Reg.ctorIdx rq) = false) : ((cmdEnable s i)).dv rq iq = State.dv s rq iq :=
  dev_of iq (fun _ hk => keep_cmdEnable hk) rfl rfl rfl hq
@[simp] theorem ts_cmdEnable {s} {i}   : ((cmdEnable s i)).ts = State.ts s := ts_of (fun _ hk => keep_cmdEnable hk) rfl
@[simp] theorem get_cmdQuickStop {s} {i}   {rq iq} (hq : Nat.testBit 0x8000000000060000360000000000000e00800000000300800415600000001006284081020000002f05c02c6c600040000000000000004000080000000000000000000000000002800010000000000000000000000000000000c40000000000088000e00000483100000b00300022b80000 (Reg.ctorIdx rq) = false) : ((cmdQuickStop s i)).get rq iq = State.get s rq iq :=
  reg_of iq (fun _ hk => keep_cmdQuickStop hk) rfl rfl rfl hq
@[simp] theorem dv_cmdQuickStop {s} {i}   {rq iq} (hq : Nat.testBit 0x100000000000000000000000000000000000000000001e00060000000000000000000000000000000000 (Reg.ctorIdx rq) = false) : ((cmdQuickStop s i)).dv rq iq = State.dv s rq iq :=
  dev_of iq (fun _ hk => keep_cmdQuickStop hk) rfl rfl rfl hq
@[simp] theorem ts_cmdQuickStop {s} {i}   : ((cmdQuickStop s i)).ts = State.ts s := ts_of (fun _ hk => keep_cmdQuickStop hk) rfl
@[simp] theorem get_cmdDisableVoltage {s} {i}   {rq iq} (hq : Nat.testBit 0x8000000000060000360000000000000e00800000000300800415600000001006284081020000002f05c02c6c600040000000000000004000080000000000000000000000000002800010000000000000000000000000000000c40000000000088000e00000483100000b00300022b80000 (Reg.ctorIdx rq) = false) : ((cmdDisableVoltage s i)).get rq iq = State.get s rq iq :=
  reg_of iq (fun _ hk => keep_cmdDisableVoltage hk) rfl rfl rfl hq
@[simp] theorem dv_cmdDisableVoltage {s} {i}   {rq iq} (hq : Nat.testBit 0x100000000000000000000000000000000000000000001e00060000000000000000000000000000000000 (Reg.ctorIdx rq) = false) : ((cmdDisableVoltage s i)).dv rq iq = State.dv s rq iq :=
  dev_of iq (fun _ hk => keep_cmdDisableVoltage hk) rfl rfl rfl hq
@[simp] theorem ts_cmdDisableVoltage {s} {i}   : ((cmdDisableVoltage s i)).ts = State.ts s := ts_of (fun _ hk => keep_cmdDisableVoltage hk) rfl
@[simp] theorem get_stateCommand {s} {i} {cw}   {rq iq} (hq : Nat.testBit 0x8000000024060000360000000002000e00a00000006300b00415600820001006284081020000002f05c02c6c600040000000000000004000080000000000000000000000000002800010000000000000000000000000100000c40018000000088000e00000483100000b00300022b80000 (Reg.ctorIdx rq) = false) : ((stateCommand s i cw)).get rq iq = State.get s rq iq :=
  reg_of iq (fun _ hk => keep_stateCommand hk) rfl rfl rfl hq
@[simp] theorem dv_stateCommand {s} {i} {cw}   {rq iq} (hq : Nat.testBit 0x100000000000000000000000000000000000000000001e00060000000000000000000000000000000000 (Reg.ctorIdx rq) = false) : ((stateCommand s i cw)).dv rq iq = State.dv s rq iq :=
  dev_of iq (fun _ hk => keep_stateCommand hk) rfl rfl rfl hq
@[simp] theorem ts_stateCommand {s} {i} {cw}   : ((stateCommand s i cw)).ts = State.ts s := ts_of (fun _ hk => keep_stateCommand hk) rfl
@[simp] theorem get_writeControlword {s} {i} {cw} {gatesLow}   {rq iq} (hq : Nat.testBit 0x800000002c060000360000000002000e07ae800000e300f004156008200010062842ff0e0000003fbdf02dec6000400000000000000040000800000000000000000000000000028000162000000088d8000280c00000140000c4001800000008800ae00002483100000b00b00022b80000 (Reg.ctorIdx rq) = false) : ((writeControlword s i cw gatesLow)).get rq iq = State.get s rq iq :=
  reg_of iq (fun _ hk => keep_writeControlword hk) rfl rfl rfl hq
@[simp] theorem dv_writeControlword {s} {i} {cw} {gatesLow}   {rq iq} (hq : Nat.testBit 0x100000000000000000000000000000000000000000001e000601f5000000000000000000000000000000 (Reg.ctorIdx rq) = false) : ((writeControlword s i cw gatesLow)).dv rq iq = State.dv s rq iq :=
  dev_of iq (fun _ hk => keep_writeControlword hk) rfl rfl rfl hq
@[simp] theorem ts_writeControlword {s} {i} {cw} {gatesLow}   : ((writeControlword s i cw gatesLow)).ts = State.ts s := ts_of (fun _ hk => keep_writeControlword hk) rfl
@[simp] theorem get_afterStop {s} {i}   {rq iq} (hq : Nat.testBit 0x8000000008060000360000000000000e00800000000300800415600000001006284381f2000001af25c02f6d600040000000000000004000880000000000000000000000000002800010000000000000000000000000000000c40000000000088000e000004831b0000b00b00022b80000 (Reg.ctorIdx rq) = false) : ((afterStop s i)).get rq iq = State.get s rq iq :=
  reg_of iq (fun _ hk => keep_afterStop hk) rfl rfl rfl hq
@[simp] theorem dv_afterStop {s} {i}   {rq iq} (hq : Nat.testBit 0x100000000000000000000000000000000000000000001e00060000000000000000000000000000000000 (Reg.ctorIdx rq) = false) : ((afterStop s i)).dv rq iq = State.dv s rq iq :=
  dev_of iq (fun _ hk => keep_afterStop hk) rfl rfl rfl hq
@[simp] theorem ts_afterStop {s} {i}   : ((afterStop s i)).ts = State.ts s := ts_of (fun _ hk => keep_afterStop hk) rfl
@[simp] theorem get_stallStop {s} {i}   {rq iq} (hq : Nat.testBit 0x400000060000004080020000000f05e0046c000040000000000000000000000000000000000000000000000000000000000000000000000000000000000000000000000000008000e00000483100000200300022b80000 (Reg.ctorIdx rq) = false) : ((stallStop s i)).get rq iq = State.get s rq iq :=
  reg_of iq (fun _ hk => keep_stallStop hk) rfl rfl rfl hq
@[simp] theorem dv_stallStop {s} {i}   {rq iq} (hq : Nat.testBit 0x0 (Reg.ctorIdx rq) = false) : ((stallStop s i)).dv rq iq = State.dv s rq iq :=
  dev_of iq (fun _ hk => keep_stallStop hk) rfl rfl rfl hq
@[simp] theorem ts_stallStop {s} {i}   : ((stallStop s i)).ts = State.ts s := ts_of (fun _ hk => keep_stallStop hk) rfl
@[simp] theorem get_declareStall {s} {i}   {rq iq} (hq : Nat.testBit 0x415f000000600000042f80e0000000f0df005ec000040000000000000000000000000000000000000000000000000800000000000000000000000000008040000cc0000000000008008e00000483100000200300022b80000 (Reg.ctorIdx rq) = false) : ((declareStall s i)).get rq iq = State.get s rq iq :=
  reg_of iq (fun _ hk => keep_declareStall hk) rfl rfl rfl hq
@[simp] theorem dv_declareStall {s} {i}   {rq iq} (hq : Nat.testBit 0x0 (Reg.ctorIdx rq) = false) : ((declareStall s i)).dv rq iq = State.dv s rq iq :=
  dev_of iq (fun _ hk => keep_declareStall hk) rfl rfl rfl hq
@[simp] theorem ts_declareStall {s} {i}   : ((declareStall s i)).ts = State.ts s := ts_of (fun _ hk => keep_declareStall hk) rfl
@[simp] theorem get_stallFault {s} {i}   {rq iq} (hq : Nat.testBit 0x8000000008060000360000000000000e008e0000000300c00415600000001006284081020000002f05c02c6c60004000000000000000400008000000000000000000000000000280003e000000008000000000000000000000c40000000000088000e00000483100000b00b00022b80000 (Reg.ctorIdx rq) = false) : ((stallFault s i)).get rq iq = State.get s rq iq :=
  reg_of iq (fun _ hk => keep_stallFault hk) rfl rfl rfl hq
@[simp] theorem dv_stallFault {s} {i}   {rq iq} (hq : Nat.testBit 0x100000000000000000000000000000000000000000001e00060000000000000000000000000000000000 (Reg.ctorIdx rq) = false) : ((stallFault s i)).dv rq iq = State.dv s rq iq :=
  dev_of iq (fun _ hk => keep_stallFault hk) rfl rfl rfl hq
@[simp] theorem ts_stallFault {s} {i}   : ((stallFault s i)).ts = State.ts s := ts_of (fun _ hk => keep_stallFault hk) rfl
@[simp] theorem get_loseCommunication {s}   {rq iq} (hq : Nat.testBit 0x8000000008060000360000000000000e00880000000300800415600000001006284081020000002f05c02c6c600040000000000000004000080000000000000000000000000002800010000000000000000000000000000000c40000000000088000e00000483100000b00b00022b80000 (Reg.ctorIdx rq) = false) : ((loseCommunication s)).get rq iq = State.get s rq iq :=
  reg_of iq (fun _ hk => keep_loseCommunication hk) rfl rfl rfl hq
@[simp] theorem dv_loseCommunication {s}   {rq iq} (hq : Nat.testBit 0x100000000000000000000000000000000000000000001e00060000000000000000000000000000000000 (Reg.ctorIdx rq) = false) : ((loseCommunication s)).dv rq iq = State.dv s rq iq :=
  dev_of iq (fun _ hk => keep_loseCommunication hk) rfl rfl rfl hq
@[simp] theorem ts_loseCommunication {s}   : ((loseCommunication s)).ts = State.ts s := ts_of (fun _ hk => keep_loseCommunication hk) rfl
@[simp] theorem get_moveCount {s c d}  {rq iq} (hq : Nat.testBit 0x40000000000000000000000000000000000000000000000006880000000000000000000000000000000000000000000000000000000000000000000000300022b00000 (Reg.ctorIdx rq) = false) : ((moveCount s c d)).get rq iq = State.get s rq iq :=
  reg_of iq (fun _ hk => keep_moveCount hk) rfl rfl rfl hq
@[simp] theorem dv_moveCount {s c d}  {rq iq} (hq : Nat.testBit 0x0 (Reg.ctorIdx rq) = false) : ((moveCount s c d)).dv rq iq = State.dv s rq iq :=
  dev_of iq (fun _ hk => keep_moveCount hk) rfl rfl rfl hq
@[simp] theorem ts_moveCount {s c d}  : ((moveCount s c d)).ts = State.ts s := ts_of (fun _ hk => keep_moveCount hk) rfl
@[simp] theorem get_speedEdge {s} {c} {d}   {rq iq} (hq : Nat.testBit 0x79800000000000000000000000000000000000000000000000000000000000000000000000000000000000000000000000000000000000000000000000000000000000000000000000000000000000000000000000000000000000000000000000000000000000000000000000000 (Reg.ctorIdx rq) = false) : ((speedEdge s c d)).get rq iq = State.get s rq iq :=
  reg_of iq (fun _ hk => keep_speedEdge hk) rfl rfl rfl hq
@[simp] theorem dv_speedEdge {s} {c} {d}   {rq iq} (hq : Nat.testBit 0x0 (Reg.ctorIdx rq) = false) : ((speedEdge s c d)).dv rq iq = State.dv s rq iq :=
  dev_of iq (fun _ hk => keep_speedEdge hk) rfl rfl rfl hq
@[simp] theorem se_speedEdge {xq : State} {s} {c} {d}   : SameEvents xq ((speedEdge s c d)) ↔ SameEvents xq s := se_of (fun _ hk => keep_speedEdge hk) rfl
@[simp] theorem ts_speedEdge {s} {c} {d}   : ((speedEdge s c d)).ts = State.ts s := ts_of (fun _ hk => keep_speedEdge hk) rfl
@[simp] theorem get_judgeEmpty {s} {c}   {rq iq} (hq : Nat.testBit 0x3000000000000000000000000000000000000000000000000000000000000000000000000000000000000 (Reg.ctorIdx rq) = false) : ((judgeEmpty s c)).get rq iq = State.get s rq iq :=
  reg_of iq (fun _ hk => keep_judgeEmpty hk) rfl rfl rfl hq
@[simp] theorem dv_judgeEmpty {s} {c}   {rq iq} (hq : Nat.testBit 0x0 (Reg.ctorIdx rq) = false) : ((judgeEmpty s c)).dv rq iq = State.dv s rq iq :=
  dev_of iq (fun _ hk => keep_judgeEmpty hk) rfl rfl rfl hq
@[simp] theorem se_judgeEmpty {xq : State} {s} {c}   : SameEvents xq ((judgeEmpty s c)) ↔ SameEvents xq s := se_of (fun _ hk => keep_judgeEmpty hk) rfl
@[simp] theorem ts_judgeEmpty {s} {c}   : ((judgeEmpty s c)).ts = State.ts s := ts_of (fun _ hk => keep_judgeEmpty hk) rfl
@[simp] theorem get_speedWindow {s} {c}   {rq iq} (hq : Nat.testBit 0xc7800000000000000000000000000000000000000000000000000000000000000000000000000000000000000000000000000000000000000000000000000000000000003000000000000000000000000000000000000000000000000000000000000000000000000000000000000 (Reg.ctorIdx rq) = false) : ((speedWindow s c)).get rq iq = State.get s rq iq :=
  reg_of iq (fun _ hk => keep_speedWindow hk) rfl rfl rfl hq
@[simp] theorem dv_speedWindow {s} {c}   {rq iq} (hq : Nat.testBit 0x0 (Reg.ctorIdx rq) = false) : ((speedWindow s c)).dv rq iq = State.dv s rq iq :=
  dev_of iq (fun _ hk => keep_speedWindow hk) rfl rfl rfl hq
@[simp] theorem get_encFault {s} {c} {cause}   {rq iq} (hq : Nat.testBit 0x200000000000360000000000000000000000000000000000000000000000000000000000000000000000000040000000000000000000000000000000000000000000008006000000000000000000000000000000000000000000000000000000800000000000000000300022b00000 (Reg.ctorIdx rq) = false) : ((encFault s c cause)).get rq iq = State.get s rq iq :=
  reg_of iq (fun _ hk => keep_encFault hk) rfl rfl rfl hq
@[simp] theorem dv_encFault {s} {c} {cause}   {rq iq} (hq : Nat.testBit 0x0 (Reg.ctorIdx rq) = false) : ((encFault s c cause)).dv rq iq = State.dv s rq iq :=
  dev_of iq (fun _ hk => keep_encFault hk) rfl rfl rfl hq
@[simp] theorem ts_encFault {s} {c} {cause}   : ((encFault s c cause)).ts = State.ts s := ts_of (fun _ hk => keep_encFault hk) rfl
@[simp] theorem get_encFaultClear {s} {c}   {rq iq} (hq : Nat.testBit 0x100000000360000000000000000000000000000000000000000000000000000000000000000000000000000000000000000000000000000000000000000000000000002000000000000000000000000000000000000000000000000000000000000000000000000000000000000 (Reg.ctorIdx rq) = false) : ((encFaultClear s c)).get rq iq = State.get s rq iq :=
  reg_of iq (fun _ hk => keep_encFaultClear hk) rfl rfl rfl hq
@[simp] theorem dv_encFaultClear {s} {c}   {rq iq} (hq : Nat.testBit 0x0 (Reg.ctorIdx rq) = false) : ((encFaultClear s c)).dv rq iq = State.dv s rq iq :=
  dev_of iq (fun _ hk => keep_encFaultClear hk) rfl rfl rfl hq
@[simp] theorem se_encFaultClear {xq : State} {s} {c}   : SameEvents xq ((encFaultClear s c)) ↔ SameEvents xq s := se_of (fun _ hk => keep_encFaultClear hk) rfl
@[simp] theorem ts_encFaultClear {s} {c}   : ((encFaultClear s c)).ts = State.ts s := ts_of (fun _ hk => keep_encFaultClear hk) rfl
@[simp] theorem get_normalEdge {s} {c}   {rq iq} (hq : Nat.testBit 0x300000000000000000000000000000000000000000000000000000000000000000000000000000000000000000000000000000000000000000000000000000000000000000000000000000000000000000000000000000000000000000000000000000000000000000000000000 (Reg.ctorIdx rq) = false) : ((normalEdge s c)).get rq iq = State.get s rq iq :=
  reg_of iq (fun _ hk => keep_normalEdge hk) rfl rfl rfl hq
@[simp] theorem dv_normalEdge {s} {c}   {rq iq} (hq : Nat.testBit 0x0 (Reg.ctorIdx rq) = false) : ((normalEdge s c)).dv rq iq = State.dv s rq iq :=
  dev_of iq (fun _ hk => keep_normalEdge hk) rfl rfl rfl hq
@[simp] theorem se_normalEdge {xq : State} {s} {c}   : SameEvents xq ((normalEdge s c)) ↔ SameEvents xq s := se_of (fun _ hk => keep_normalEdge hk) rfl
@[simp] theorem ts_normalEdge {s} {c}   : ((normalEdge s c)).ts = State.ts s := ts_of (fun _ hk => keep_normalEdge hk) rfl
@[simp] theorem get_illegalEdge {s} {c}   {rq iq} (hq : Nat.testBit 0x30000000000000000000000000000000000000000000000000000000000000000000000000000000000000000000000000000000000000000000000000000000000000c000000000000000000000000000000000000000000000000000000000000000000000000000000000000 (Reg.ctorIdx rq) = false) : ((illegalEdge s c)).get rq iq = State.get s rq iq :=
  reg_of iq (fun _ hk => keep_illegalEdge hk) rfl rfl rfl hq
@[simp] theorem dv_illegalEdge {s} {c}   {rq iq} (hq : Nat.testBit 0x0 (Reg.ctorIdx rq) = false) : ((illegalEdge s c)).dv rq iq = State.dv s rq iq :=
  dev_of iq (fun _ hk => keep_illegalEdge hk) rfl rfl rfl hq
@[simp] theorem se_illegalEdge {xq : State} {s} {c}   : SameEvents xq ((illegalEdge s c)) ↔ SameEvents xq s := se_of (fun _ hk => keep_illegalEdge hk) rfl
@[simp] theorem ts_illegalEdge {s} {c}   : ((illegalEdge s c)).ts = State.ts s := ts_of (fun _ hk => keep_illegalEdge hk) rfl
@[simp] theorem get_encoderEdge {s} {c} {a} {b}   {rq iq} (hq : Nat.testBit 0x79b0000000000000000000000000000000000000000000000000000000000000000000000000000000000004000000000000000000000000000000000000000000000000e880000000000000000000000000000000000000000000000000000000000000000000000300022b00000 (Reg.ctorIdx rq) = false) : ((encoderEdge s c a b)).get rq iq = State.get s rq iq :=
  reg_of iq (fun _ hk => keep_encoderEdge hk) rfl rfl rfl hq
@[simp] theorem dv_encoderEdge {s} {c} {a} {b}   {rq iq} (hq : Nat.testBit 0x0 (Reg.ctorIdx rq) = false) : ((encoderEdge s c a b)).dv rq iq = State.dv s rq iq :=
  dev_of iq (fun _ hk => keep_encoderEdge hk) rfl rfl rfl hq
@[simp] theorem ts_encoderEdge {s} {c} {a} {b}   : ((encoderEdge s c a b)).ts = State.ts s := ts_of (fun _ hk => keep_encoderEdge hk) rfl
@[simp] theorem get_hallAngleEdge {s} {c} {m} {positive}   {rq iq} (hq : Nat.testBit 0xe00000000000000000000000000000000000000000000000000000000000000000000000000000000000000000000000000000000000000000000000000000000000000000000000000000000000000000000000 (Reg.ctorIdx rq) = false) : ((hallAngleEdge s c m positive)).get rq iq = State.get s rq iq :=
  reg_of iq (fun _ hk => keep_hallAngleEdge hk) rfl rfl rfl hq
@[simp] theorem dv_hallAngleEdge {s} {c} {m} {positive}   {rq iq} (hq : Nat.testBit 0x0 (Reg.ctorIdx rq) = false) : ((hallAngleEdge s c m positive)).dv rq iq = State.dv s rq iq :=
  dev_of iq (fun _ hk => keep_hallAngleEdge hk) rfl rfl rfl hq
@[simp] theorem se_hallAngleEdge {xq : State} {s} {c} {m} {positive}   : SameEvents xq ((hallAngleEdge s c m positive)) ↔ SameEvents xq s := se_of (fun _ hk => keep_hallAngleEdge hk) rfl
@[simp] theorem ts_hallAngleEdge {s} {c} {m} {positive}   : ((hallAngleEdge s c m positive)).ts = State.ts s := ts_of (fun _ hk => keep_hallAngleEdge hk) rfl
@[simp] theorem get_hallEdge {s} {c} {st}   {rq iq} (hq : Nat.testBit 0x79f00000000000000000000000000000000000000000000000000e0000000000000000000000000000000004000000000000000000000000000000000000000000000001e880000000000000000000000000000000000000000000000000000000000000000000000300022b00000 (Reg.ctorIdx rq) = false) : ((hallEdge s c st)).get rq iq = State.get s rq iq :=
  reg_of iq (fun _ hk => keep_hallEdge hk) rfl rfl rfl hq
@[simp] theorem dv_hallEdge {s} {c} {st}   {rq iq} (hq : Nat.testBit 0x0 (Reg.ctorIdx rq) = false) : ((hallEdge s c st)).dv rq iq = State.dv s rq iq :=
  dev_of iq (fun _ hk => keep_hallEdge hk) rfl rfl rfl hq
@[simp] theorem ts_hallEdge {s} {c} {st}   : ((hallEdge s c st)).ts = State.ts s := ts_of (fun _ hk => keep_hallEdge hk) rfl
@[simp] theorem get_encAlign {s} {i}   {rq iq} (hq : Nat.testBit 0x80000000000000000000000000000000000000000000000000000000000000000000000000000000000040000000000000000000000000000000000000000000000002800000000000000000000000000000000000000000000000000000000000000000000000300022b00000 (Reg.ctorIdx rq) = false) : ((encAlign s i)).get rq iq = State.get s rq iq :=
  reg_of iq (fun _ hk => keep_encAlign hk) rfl rfl rfl hq
@[simp] theorem dv_encAlign {s} {i}   {rq iq} (hq : Nat.testBit 0x0 (Reg.ctorIdx rq) = false) : ((encAlign s i)).dv rq iq = State.dv s rq iq :=
  dev_of iq (fun _ hk => keep_encAlign hk) rfl rfl rfl hq
@[simp] theorem ts_encAlign {s} {i}   : ((encAlign s i)).ts = State.ts s := ts_of (fun _ hk => keep_encAlign hk) rfl
@[simp] theorem get_followingError {s} {i}   {rq iq} (hq : Nat.testBit 0x200000000000000000000000000000000000000000000000000000000000000000000000000000000000000000000000000000000000000000000000000000000000008000000000000000000000000000000000000000000000000000000000000000000000000000000000000000 (Reg.ctorIdx rq) = false) : ((followingError s i)).get rq iq = State.get s rq iq :=
  reg_of iq (fun _ hk => keep_followingError hk) rfl rfl rfl hq
@[simp] theorem dv_followingError {s} {i}   {rq iq} (hq : Nat.testBit 0x0 (Reg.ctorIdx rq) = false) : ((followingError s i)).dv rq iq = State.dv s rq iq :=
  dev_of iq (fun _ hk => keep_followingError hk) rfl rfl rfl hq
@[simp] theorem se_followingError {xq : State} {s} {i}   : SameEvents xq ((followingError s i)) ↔ SameEvents xq s := se_of (fun _ hk => keep_followingError hk) rfl
@[simp] theorem ts_followingError {s} {i}   : ((followingError s i)).ts = State.ts s := ts_of (fun _ hk => keep_followingError hk) rfl
@[simp] theorem get_followFault {s} {i}   {rq iq} (hq : Nat.testBit 0x8000200008060000360000000000000e00880000000300800415600000001006284081020000002f05c02c6c600040000000000000004000080000000000000000000000000006800010000000000000000000000000000000c40000000000088000e00000483100000b00b00022b80000 (Reg.ctorIdx rq) = false) : ((followFault s i)).get rq iq = State.get s rq iq :=
  reg_of iq (fun _ hk => keep_followFault hk) rfl rfl rfl hq
@[simp] theorem dv_followFault {s} {i}   {rq iq} (hq : Nat.testBit 0x100000000000000000000000000000000000000000001e00060000000000000000000000000000000000 (Reg.ctorIdx rq) = false) : ((followFault s i)).dv rq iq = State.dv s rq iq :=
  dev_of iq (fun _ hk => keep_followFault hk) rfl rfl rfl hq
@[simp] theorem ts_followFault {s} {i}   : ((followFault s i)).ts = State.ts s := ts_of (fun _ hk => keep_followFault hk) rfl
@[simp] theorem get_capture {s} {c} {trg} {t}   {rq iq} (hq : Nat.testBit 0x100000000000000000000000000000000000000000000000000000000000000000000000000000000000000040000000000000000000000000000000000000000000000000000000000000000000000000000000000000000000000000000000000000000000000000300022b00000 (Reg.ctorIdx rq) = false) : ((capture s c trg t)).get rq iq = State.get s rq iq :=
  reg_of iq (fun _ hk => keep_capture hk) rfl rfl rfl hq
@[simp] theorem dv_capture {s} {c} {trg} {t}   {rq iq} (hq : Nat.testBit 0x0 (Reg.ctorIdx rq) = false) : ((capture s c trg t)).dv rq iq = State.dv s rq iq :=
  dev_of iq (fun _ hk => keep_capture hk) rfl rfl rfl hq
@[simp] theorem ts_capture {s} {c} {trg} {t}   : ((capture s c trg t)).ts = State.ts s := ts_of (fun _ hk => keep_capture hk) rfl
@[simp] theorem get_triggerCapture {s} {c} {trg} {t}   {rq iq} (hq : Nat.testBit 0x100000000000000000000000000000000000000000000000000000000000000000000000000000000000000040000000000000000000000000000000000000000000000002000000000000000000000000000000000000000000000000000000000000000000000000300022b00000 (Reg.ctorIdx rq) = false) : ((triggerCapture s c trg t)).get rq iq = State.get s rq iq :=
  reg_of iq (fun _ hk => keep_triggerCapture hk) rfl rfl rfl hq
@[simp] theorem dv_triggerCapture {s} {c} {trg} {t}   {rq iq} (hq : Nat.testBit 0x0 (Reg.ctorIdx rq) = false) : ((triggerCapture s c trg t)).dv rq iq = State.dv s rq iq :=
  dev_of iq (fun _ hk => keep_triggerCapture hk) rfl rfl rfl hq
@[simp] theorem ts_triggerCapture {s} {c} {trg} {t}   : ((triggerCapture s c trg t)).ts = State.ts s := ts_of (fun _ hk => keep_triggerCapture hk) rfl
@[simp] theorem get_refreshSwitches {s} {i}   {rq iq} (hq : Nat.testBit 0x100000000000000000000000000000 (Reg.ctorIdx rq) = false) : ((refreshSwitches s i)).get rq iq = State.get s rq iq :=
  reg_of iq (fun _ hk => keep_refreshSwitches hk) rfl rfl rfl hq
@[simp] theorem dv_refreshSwitches {s} {i}   {rq iq} (hq : Nat.testBit 0x0 (Reg.ctorIdx rq) = false) : ((refreshSwitches s i)).dv rq iq = State.dv s rq iq :=
  dev_of iq (fun _ hk => keep_refreshSwitches hk) rfl rfl rfl hq
@[simp] theorem se_refreshSwitches {xq : State} {s} {i}   : SameEvents xq ((refreshSwitches s i)) ↔ SameEvents xq s := se_of (fun _ hk => keep_refreshSwitches hk) rfl
@[simp] theorem ts_refreshSwitches {s} {i}   : ((refreshSwitches s i)).ts = State.ts s := ts_of (fun _ hk => keep_refreshSwitches hk) rfl
@[simp] theorem get_limitActive {s} {i} {role} {bothBefore}   {rq iq} (hq : Nat.testBit 0x4080000000000e00000000000040000000000000000000000000000000000000000000000000000000000000000000000000000000000000000000000000000000e0001c000000000000300022b00000 (Reg.ctorIdx rq) = false) : ((limitActive s i role bothBefore)).get rq iq = State.get s rq iq :=
  reg_of iq (fun _ hk => keep_limitActive hk) rfl rfl rfl hq
@[simp] theorem dv_limitActive {s} {i} {role} {bothBefore}   {rq iq} (hq : Nat.testBit 0x0 (Reg.ctorIdx rq) = false) : ((limitActive s i role bothBefore)).dv rq iq = State.dv s rq iq :=
  dev_of iq (fun _ hk => keep_limitActive hk) rfl rfl rfl hq
@[simp] theorem ts_limitActive {s} {i} {role} {bothBefore}   : ((limitActive s i role bothBefore)).ts = State.ts s := ts_of (fun _ hk => keep_limitActive hk) rfl
@[simp] theorem get_switchDevelop {s} {i}   {rq iq} (hq : Nat.testBit 0x4080000000000e00000000000040000000000000000000000000000000000000000000000000000000000000000000000000000000000000000000000000000000f0001c000000000000300022b00000 (Reg.ctorIdx rq) = false) : ((switchDevelop s i)).get rq iq = State.get s rq iq :=
  reg_of iq (fun _ hk => keep_switchDevelop hk) rfl rfl rfl hq
@[simp] theorem dv_switchDevelop {s} {i}   {rq iq} (hq : Nat.testBit 0xfe000000000000000000000000000 (Reg.ctorIdx rq) = false) : ((switchDevelop s i)).dv rq iq = State.dv s rq iq :=
  dev_of iq (fun _ hk => keep_switchDevelop hk) rfl rfl rfl hq
@[simp] theorem ts_switchDevelop {s} {i}   : ((switchDevelop s i)).ts = State.ts s := ts_of (fun _ hk => keep_switchDevelop hk) rfl
@[simp] theorem get_switchEdge {s} {i} {k} {level}   {rq iq} (hq : Nat.testBit 0x100000000000000000000000000000000000000000000000000000000000004abc0c0000000e081001a400004000000000000000000000000000000000000000000000000280000000000000000000000000000004000000000000000000000af0001c001000000000300022b00000 (Reg.ctorIdx rq) = false) : ((switchEdge s i k level)).get rq iq = State.get s rq iq :=
  reg_of iq (fun _ hk => keep_switchEdge hk) rfl rfl rfl hq
@[simp] theorem dv_switchEdge {s} {i} {k} {level}   {rq iq} (hq : Nat.testBit 0x0 (Reg.ctorIdx rq) = false) : ((switchEdge s i k level)).dv rq iq = State.dv s rq iq :=
  dev_of iq (fun _ hk => keep_switchEdge hk) rfl rfl rfl hq
@[simp] theorem ts_switchEdge {s} {i} {k} {level}   : ((switchEdge s i k level)).ts = State.ts s := ts_of (fun _ hk => keep_switchEdge hk) rfl
@[simp] theorem get_indexEdge {s} {c} {level}   {rq iq} (hq : Nat.testBit 0x1000000000000000000000000000000000000000000000000000000000000042380c00000000081001a400004000000000000000000000000000000000000000000000000280000000000000000000000000000004000000000000000000000a200000001000000000300022b00000 (Reg.ctorIdx rq) = false) : ((indexEdge s c level)).get rq iq = State.get s rq iq :=
  reg_of iq (fun _ hk => keep_indexEdge hk) rfl rfl rfl hq
@[simp] theorem dv_indexEdge {s} {c} {level}   {rq iq} (hq : Nat.testBit 0x0 (Reg.ctorIdx rq) = false) : ((indexEdge s c level)).dv rq iq = State.dv s rq iq :=
  dev_of iq (fun _ hk => keep_indexEdge hk) rfl rfl rfl hq
@[simp] theorem ts_indexEdge {s} {c} {level}   : ((indexEdge s c level)).ts = State.ts s := ts_of (fun _ hk => keep_indexEdge hk) rfl
@[simp] theorem get_stepEdge {s} {c} {level} {dir}   {rq iq} (hq : Nat.testBit 0x3000000000000000000000000000000000000000000000000000000000000000000000000000000000000000000000000000000000000000000000000000002000000000000000000000000000000000 (Reg.ctorIdx rq) = false) : ((stepEdge s c level dir)).get rq iq = State.get s rq iq :=
  reg_of iq (fun _ hk => keep_stepEdge hk) rfl rfl rfl hq
@[simp] theorem dv_stepEdge {s} {c} {level} {dir}   {rq iq} (hq : Nat.testBit 0x0 (Reg.ctorIdx rq) = false) : ((stepEdge s c level dir)).dv rq iq = State.dv s rq iq :=
  dev_of iq (fun _ hk => keep_stepEdge hk) rfl rfl rfl hq
@[simp] theorem se_stepEdge {xq : State} {s} {c} {level} {dir}   : SameEvents xq ((stepEdge s c level dir)) ↔ SameEvents xq s := se_of (fun _ hk => keep_stepEdge hk) rfl
@[simp] theorem ts_stepEdge {s} {c} {level} {dir}   : ((stepEdge s c level dir)).ts = State.ts s := ts_of (fun _ hk => keep_stepEdge hk) rfl
@[simp] theorem get_shootSheet {s} {t}   {rq iq} (hq : Nat.testBit 0x400000000000000000000000000000000000000000000000000000000000000000000000000000000000000000000000000000000000000000000000000000000000300000000000000000000000000000000000000000000000000000000000000000000000000000000000000000 (Reg.ctorIdx rq) = false) : ((shootSheet s t).1).get rq iq = State.get s rq iq :=
  reg_of iq (fun _ hk => keep_shootSheet hk) rfl rfl rfl hq
@[simp] theorem dv_shootSheet {s} {t}   {rq iq} (hq : Nat.testBit 0x0 (Reg.ctorIdx rq) = false) : ((shootSheet s t).1).dv rq iq = State.dv s rq iq :=
  dev_of iq (fun _ hk => keep_shootSheet hk) rfl rfl rfl hq
@[simp] theorem se_shootSheet {xq : State} {s} {t}   : SameEvents xq ((shootSheet s t).1) ↔ SameEvents xq s := se_of (fun _ hk => keep_shootSheet hk) rfl
@[simp] theorem ts_shootSheet {s} {t}   : ((shootSheet s t).1).ts = State.ts s := ts_of (fun _ hk => keep_shootSheet hk) rfl
@[simp] theorem get_fireSheet {s}   {rq iq} (hq : Nat.testBit 0x100000000000000000000000000000000000000000000000000000000000000000000000000000000000000040000000000000000000000000000000000000000002d00000000000000000000000000000000000000000000000000000000000000000000000000000300022b00000 (Reg.ctorIdx rq) = false) : ((fireSheet s)).get rq iq = State.get s rq iq :=
  reg_of iq (fun _ hk => keep_fireSheet hk) rfl rfl rfl hq
@[simp] theorem dv_fireSheet {s}   {rq iq} (hq : Nat.testBit 0x0 (Reg.ctorIdx rq) = false) : ((fireSheet s)).dv rq iq = State.dv s rq iq :=
  dev_of iq (fun _ hk => keep_fireSheet hk) rfl rfl rfl hq
@[simp] theorem get_feedbackDevelop {s} {c}   {rq iq} (hq : Nat.testBit 0x43800000000000000000000000000000000000000000000000000000000000000000000000000000000000000000000000000000000000000000000000000000000000002800000000000000000000000000000000000000000000000000000000000000000000000000000000000 (Reg.ctorIdx rq) = false) : ((feedbackDevelop s c)).get rq iq = State.get s rq iq :=
  reg_of iq (fun _ hk => keep_feedbackDevelop hk) rfl rfl rfl hq
@[simp] theorem dv_feedbackDevelop {s} {c}   {rq iq} (hq : Nat.testBit 0x7ffffffffc0000000000000000000000000000000000000000000000000000000000000000000000000000000 (Reg.ctorIdx rq) = false) : ((feedbackDevelop s c)).dv rq iq = State.dv s rq iq :=
  dev_of iq (fun _ hk => keep_feedbackDevelop hk) rfl rfl rfl hq
@[simp] theorem se_feedbackDevelop {xq : State} {s} {c}   : SameEvents xq ((feedbackDevelop s c)) ↔ SameEvents xq s := se_of (fun _ hk => keep_feedbackDevelop hk) rfl
@[simp] theorem ts_feedbackDevelop {s} {c}   : ((feedbackDevelop s c)).ts = State.ts s := ts_of (fun _ hk => keep_feedbackDevelop hk) rfl
@[simp] theorem get_firstLevels {s} {c} {enc} {sw} {sd}   {rq iq} (hq : Nat.testBit 0x400000000000000000000000000000000000000000000000000800000003800000000000000000000000000000000000000000000000000000000000000000000000002000000000000000000000000000000000000000000000000000000100000000000000000000000000000 (Reg.ctorIdx rq) = false) : ((firstLevels s c enc sw sd)).get rq iq = State.get s rq iq :=
  reg_of iq (fun _ hk => keep_firstLevels hk) rfl rfl rfl hq
@[simp] theorem dv_firstLevels {s} {c} {enc} {sw} {sd}   {rq iq} (hq : Nat.testBit 0x0 (Reg.ctorIdx rq) = false) : ((firstLevels s c enc sw sd)).dv rq iq = State.dv s rq iq :=
  dev_of iq (fun _ hk => keep_firstLevels hk) rfl rfl rfl hq
@[simp] theorem se_firstLevels {xq : State} {s} {c} {enc} {sw} {sd}   : SameEvents xq ((firstLevels s c enc sw sd)) ↔ SameEvents xq s := se_of (fun _ hk => keep_firstLevels hk) rfl
@[simp] theorem ts_firstLevels {s} {c} {enc} {sw} {sd}   : ((firstLevels s c enc sw sd)).ts = State.ts s := ts_of (fun _ hk => keep_firstLevels hk) rfl
@[simp] theorem get_feedbackRestart {s} {c} {enc}   {rq iq} (hq : Nat.testBit 0x2d1c00000000360000000000000000000000000000000000000000800000000000000000000000000000000040000000000000000000000000000000000000000000008007000000000000000000000000000000000000000000000000000000800000000000000000300022b00000 (Reg.ctorIdx rq) = false) : ((feedbackRestart s c enc)).get rq iq = State.get s rq iq :=
  reg_of iq (fun _ hk => keep_feedbackRestart hk) rfl rfl rfl hq
@[simp] theorem dv_feedbackRestart {s} {c} {enc}   {rq iq} (hq : Nat.testBit 0x0 (Reg.ctorIdx rq) = false) : ((feedbackRestart s c enc)).dv rq iq = State.dv s rq iq :=
  dev_of iq (fun _ hk => keep_feedbackRestart hk) rfl rfl rfl hq
@[simp] theorem ts_feedbackRestart {s} {c} {enc}   : ((feedbackRestart s c enc)).ts = State.ts s := ts_of (fun _ hk => keep_feedbackRestart hk) rfl
@[simp] theorem get_avgRestart {s} {i}   {rq iq} (hq : Nat.testBit 0x1c0000000000000000000000000000000000000000000000000000000000000000000000000000000000000000000000000000000000000000000000000000000000000000000000000000000000000000000000000000000000000000000000000000000000000000000000000000000000 (Reg.ctorIdx rq) = false) : ((avgRestart s i)).get rq iq = State.get s rq iq :=
  reg_of iq (fun _ hk => keep_avgRestart hk) rfl rfl rfl hq
@[simp] theorem dv_avgRestart {s} {i}   {rq iq} (hq : Nat.testBit 0x0 (Reg.ctorIdx rq) = false) : ((avgRestart s i)).dv rq iq = State.dv s rq iq :=
  dev_of iq (fun _ hk => keep_avgRestart hk) rfl rfl rfl hq
@[simp] theorem se_avgRestart {xq : State} {s} {i}   : SameEvents xq ((avgRestart s i)) ↔ SameEvents xq s := se_of (fun _ hk => keep_avgRestart hk) rfl
@[simp] theorem ts_avgRestart {s} {i}   : ((avgRestart s i)).ts = State.ts s := ts_of (fun _ hk => keep_avgRestart hk) rfl
@[simp] theorem get_auxNewlyServed {s} {inputs}   {rq iq} (hq : Nat.testBit 0x1d0000000000000000000000000000000000000000000000000000000000000000000000000000000000000000000000000000000000000000000000000000000000000000000000000000000000000000000000000000000000000000000000000000000000000000000000000000000000 (Reg.ctorIdx rq) = false) : ((auxNewlyServed s inputs)).get rq iq = State.get s rq iq :=
  reg_of iq (fun _ hk => keep_auxNewlyServed hk) rfl rfl rfl hq
@[simp] theorem dv_auxNewlyServed {s} {inputs}   {rq iq} (hq : Nat.testBit 0x0 (Reg.ctorIdx rq) = false) : ((auxNewlyServed s inputs)).dv rq iq = State.dv s rq iq :=
  dev_of iq (fun _ hk => keep_auxNewlyServed hk) rfl rfl rfl hq
@[simp] theorem se_auxNewlyServed {xq : State} {s} {inputs}   : SameEvents xq ((auxNewlyServed s inputs)) ↔ SameEvents xq s := se_of (fun _ hk => keep_auxNewlyServed hk) rfl
@[simp] theorem ts_auxNewlyServed {s} {inputs}   : ((auxNewlyServed s inputs)).ts = State.ts s := ts_of (fun _ hk => keep_auxNewlyServed hk) rfl
@[simp] theorem get_auxSample {s} {i} {code} {ovr}   {rq iq} (hq : Nat.testBit 0x1d0000000000000000000000000000000000000000000000000000000000000000000000000000000000000000000000000000000000000000000000000000000000000000000000000000000000000000000000000000000000000000000000000000000000000000000000000000000000 (Reg.ctorIdx rq) = false) : ((auxSample s i code ovr).1).get rq iq = State.get s rq iq :=
  reg_of iq (fun _ hk => keep_auxSample hk) rfl rfl rfl hq
@[simp] theorem dv_auxSample {s} {i} {code} {ovr}   {rq iq} (hq : Nat.testBit 0x0 (Reg.ctorIdx rq) = false) : ((auxSample s i code ovr).1).dv rq iq = State.dv s rq iq :=
  dev_of iq (fun _ hk => keep_auxSample hk) rfl rfl rfl hq
@[simp] theorem se_auxSample {xq : State} {s} {i} {code} {ovr}   : SameEvents xq ((auxSample s i code ovr).1) ↔ SameEvents xq s := se_of (fun _ hk => keep_auxSample hk) rfl
@[simp] theorem ts_auxSample {s} {i} {code} {ovr}   : ((auxSample s i code ovr).1).ts = State.ts s := ts_of (fun _ hk => keep_auxSample hk) rfl
@[simp] theorem get_takeSettle {s} {c} {p}   {rq iq} (hq : Nat.testBit 0x8000000000000000000000000000000000000000000000000000000000000000000000000000000000000000000000000000000000000000000000000000000000008000000000000000000000000000000000000000000000000000000000000000000000000000000000000000000000 (Reg.ctorIdx rq) = false) : ((takeSettle s c p).1).get rq iq = State.get s rq iq :=
  reg_of iq (fun _ hk => keep_takeSettle hk) rfl rfl rfl hq
@[simp] theorem dv_takeSettle {s} {c} {p}   {rq iq} (hq : Nat.testBit 0x0 (Reg.ctorIdx rq) = false) : ((takeSettle s c p).1).dv rq iq = State.dv s rq iq :=
  dev_of iq (fun _ hk => keep_takeSettle hk) rfl rfl rfl hq
@[simp] theorem se_takeSettle {xq : State} {s} {c} {p}   : SameEvents xq ((takeSettle s c p).1) ↔ SameEvents xq s := se_of (fun _ hk => keep_takeSettle hk) rfl
@[simp] theorem ts_takeSettle {s} {c} {p}   : ((takeSettle s c p).1).ts = State.ts s := ts_of (fun _ hk => keep_takeSettle hk) rfl
@[simp] theorem get_copyQ8 {s} {c} {ch} {code} {ovr} {settle} {inj} {chk}   {rq iq} (hq : Nat.testBit 0x40000000000000000000000000000000000000000000000000000000000000000000000000000000000000000000000000000000000000000000000000300022b00000 (Reg.ctorIdx rq) = false) : ((copyQ8 s c ch code ovr settle inj chk)).get rq iq = State.get s rq iq :=
  reg_of iq (fun _ hk => keep_copyQ8 hk) rfl rfl rfl hq
@[simp] theorem dv_copyQ8 {s} {c} {ch} {code} {ovr} {settle} {inj} {chk}   {rq iq} (hq : Nat.testBit 0x0 (Reg.ctorIdx rq) = false) : ((copyQ8 s c ch code ovr settle inj chk)).dv rq iq = State.dv s rq iq :=
  dev_of iq (fun _ hk => keep_copyQ8 hk) rfl rfl rfl hq
@[simp] theorem ts_copyQ8 {s} {c} {ch} {code} {ovr} {settle} {inj} {chk}   : ((copyQ8 s c ch code ovr settle inj chk)).ts = State.ts s := ts_of (fun _ hk => keep_copyQ8 hk) rfl
@[simp] theorem get_copyQ9 {s} {c} {ch} {data} {ovr} {settle} {inj} {avgd} {chk}   {rq iq} (hq : Nat.testBit 0x40000000000000000000000000000000000000000000000000000000000000000000000000000000000000000000000000000000000000000000000000300022b00000 (Reg.ctorIdx rq) = false) : ((copyQ9 s c ch data ovr settle inj avgd chk)).get rq iq = State.get s rq iq :=
  reg_of iq (fun _ hk => keep_copyQ9 hk) rfl rfl rfl hq
@[simp] theorem dv_copyQ9 {s} {c} {ch} {data} {ovr} {settle} {inj} {avgd} {chk}   {rq iq} (hq : Nat.testBit 0x0 (Reg.ctorIdx rq) = false) : ((copyQ9 s c ch data ovr settle inj avgd chk)).dv rq iq = State.dv s rq iq :=
  dev_of iq (fun _ hk => keep_copyQ9 hk) rfl rfl rfl hq
@[simp] theorem ts_copyQ9 {s} {c} {ch} {data} {ovr} {settle} {inj} {avgd} {chk}   : ((copyQ9 s c ch data ovr settle inj avgd chk)).ts = State.ts s := ts_of (fun _ hk => keep_copyQ9 hk) rfl
@[simp] theorem get_setInjQueue {s} {c} {rs}   {rq iq} (hq : Nat.testBit 0x600000000000000000000000000000000000000000000000000000000000000000000000000000000000000000000000000000000000000000000000000000000000000000000000000000000000000000000000000000000000000000000000000000000000000000000000000000000 (Reg.ctorIdx rq) = false) : ((setInjQueue s c rs)).get rq iq = State.get s rq iq :=
  reg_of iq (fun _ hk => keep_setInjQueue hk) rfl rfl rfl hq
@[simp] theorem dv_setInjQueue {s} {c} {rs}   {rq iq} (hq : Nat.testBit 0x0 (Reg.ctorIdx rq) = false) : ((setInjQueue s c rs)).dv rq iq = State.dv s rq iq :=
  dev_of iq (fun _ hk => keep_setInjQueue hk) rfl rfl rfl hq
@[simp] theorem se_setInjQueue {xq : State} {s} {c} {rs}   : SameEvents xq ((setInjQueue s c rs)) ↔ SameEvents xq s := se_of (fun _ hk => keep_setInjQueue hk) rfl
@[simp] theorem ts_setInjQueue {s} {c} {rs}   : ((setInjQueue s c rs)).ts = State.ts s := ts_of (fun _ hk => keep_setInjQueue hk) rfl
@[simp] theorem get_injRequest {s} {c} {ch} {prio} {who}   {rq iq} (hq : Nat.testBit 0x600000000000000000000000000000000000000000000000000000000000000000000000000000000000000000000000000000000000000000000000000000000004000000000000000000000000000000000000000000000000000000000000000000000000000000000000000000000 (Reg.ctorIdx rq) = false) : ((injRequest s c ch prio who).1).get rq iq = State.get s rq iq :=
  reg_of iq (fun _ hk => keep_injRequest hk) rfl rfl rfl hq
@[simp] theorem dv_injRequest {s} {c} {ch} {prio} {who}   {rq iq} (hq : Nat.testBit 0x0 (Reg.ctorIdx rq) = false) : ((injRequest s c ch prio who).1).dv rq iq = State.dv s rq iq :=
  dev_of iq (fun _ hk => keep_injRequest hk) rfl rfl rfl hq
@[simp] theorem se_injRequest {xq : State} {s} {c} {ch} {prio} {who}   : SameEvents xq ((injRequest s c ch prio who).1) ↔ SameEvents xq s := se_of (fun _ hk => keep_injRequest hk) rfl
@[simp] theorem ts_injRequest {s} {c} {ch} {prio} {who}   : ((injRequest s c ch prio who).1).ts = State.ts s := ts_of (fun _ hk => keep_injRequest hk) rfl
@[simp] theorem get_injTake {s} {c}   {rq iq} (hq : Nat.testBit 0x600000000000000000000000000000000000000000000000000000000000000000000000000000000000000000000000000000000000000000000000000000000000000000000000000000000000000000000000000000000000000000000000000000000000000000000000000000000 (Reg.ctorIdx rq) = false) : ((injTake s c)).get rq iq = State.get s rq iq :=
  reg_of iq (fun _ hk => keep_injTake hk) rfl rfl rfl hq
@[simp] theorem dv_injTake {s} {c}   {rq iq} (hq : Nat.testBit 0x0 (Reg.ctorIdx rq) = false) : ((injTake s c)).dv rq iq = State.dv s rq iq :=
  dev_of iq (fun _ hk => keep_injTake hk) rfl rfl rfl hq
@[simp] theorem se_injTake {xq : State} {s} {c}   : SameEvents xq ((injTake s c)) ↔ SameEvents xq s := se_of (fun _ hk => keep_injTake hk) rfl
@[simp] theorem ts_injTake {s} {c}   : ((injTake s c)).ts = State.ts s := ts_of (fun _ hk => keep_injTake hk) rfl
@[simp] theorem get_setScanQueue {s} {a} {is}   {rq iq} (hq : Nat.testBit 0x3000000000000000000000000000000000000000000000000000000000000000000000000000000000000000000000000000000000000000000000000000000000000000000000000000000000000000000000000000000000000000000000000000000000000000000000000000000000 (Reg.ctorIdx rq) = false) : ((setScanQueue s a is)).get rq iq = State.get s rq iq :=
  reg_of iq (fun _ hk => keep_setScanQueue hk) rfl rfl rfl hq
@[simp] theorem dv_setScanQueue {s} {a} {is}   {rq iq} (hq : Nat.testBit 0x0 (Reg.ctorIdx rq) = false) : ((setScanQueue s a is)).dv rq iq = State.dv s rq iq :=
  dev_of iq (fun _ hk => keep_setScanQueue hk) rfl rfl rfl hq
@[simp] theorem se_setScanQueue {xq : State} {s} {a} {is}   : SameEvents xq ((setScanQueue s a is)) ↔ SameEvents xq s := se_of (fun _ hk => keep_setScanQueue hk) rfl
@[simp] theorem ts_setScanQueue {s} {a} {is}   : ((setScanQueue s a is)).ts = State.ts s := ts_of (fun _ hk => keep_setScanQueue hk) rfl
@[simp] theorem get_scanRequest {s} {a} {i}   {rq iq} (hq : Nat.testBit 0x3000000000000000000000000000000000000000000000000000000000000000000000000000000000000000000000000000000000000000000000000000000000000000000000000000000000000000000000000000000000000000000000000000000000000000000000000000000000 (Reg.ctorIdx rq) = false) : ((scanRequest s a i)).get rq iq = State.get s rq iq :=
  reg_of iq (fun _ hk => keep_scanRequest hk) rfl rfl rfl hq
@[simp] theorem dv_scanRequest {s} {a} {i}   {rq iq} (hq : Nat.testBit 0x0 (Reg.ctorIdx rq) = false) : ((scanRequest s a i)).dv rq iq = State.dv s rq iq :=
  dev_of iq (fun _ hk => keep_scanRequest hk) rfl rfl rfl hq
@[simp] theorem se_scanRequest {xq : State} {s} {a} {i}   : SameEvents xq ((scanRequest s a i)) ↔ SameEvents xq s := se_of (fun _ hk => keep_scanRequest hk) rfl
@[simp] theorem ts_scanRequest {s} {a} {i}   : ((scanRequest s a i)).ts = State.ts s := ts_of (fun _ hk => keep_scanRequest hk) rfl
@[simp] theorem get_abortConversion {s} {c}   {rq iq} (hq : Nat.testBit 0x3180000000000000000000000000000000000000000000000000000000000000000000000000000000000000000000000000000000000000000000000000000000010000000000000000000000000000000000000000000000000000000000000000000000000000000000000000000000 (Reg.ctorIdx rq) = false) : ((abortConversion s c)).get rq iq = State.get s rq iq :=
  reg_of iq (fun _ hk => keep_abortConversion hk) rfl rfl rfl hq
@[simp] theorem dv_abortConversion {s} {c}   {rq iq} (hq : Nat.testBit 0x0 (Reg.ctorIdx rq) = false) : ((abortConversion s c)).dv rq iq = State.dv s rq iq :=
  dev_of iq (fun _ hk => keep_abortConversion hk) rfl rfl rfl hq
@[simp] theorem se_abortConversion {xq : State} {s} {c}   : SameEvents xq ((abortConversion s c)) ↔ SameEvents xq s := se_of (fun _ hk => keep_abortConversion hk) rfl
@[simp] theorem ts_abortConversion {s} {c}   : ((abortConversion s c)).ts = State.ts s := ts_of (fun _ hk => keep_abortConversion hk) rfl
@[simp] theorem get_injStart {s} {c}   {rq iq} (hq : Nat.testBit 0x31e0000000000000000000000000000000000000000000000000000000000000000000000000000000000000000000000000000000000000000000000000000000010000000000000000000000000000000000000000000000000000000000000000000000000000000000000000000000 (Reg.ctorIdx rq) = false) : ((injStart s c)).get rq iq = State.get s rq iq :=
  reg_of iq (fun _ hk => keep_injStart hk) rfl rfl rfl hq
@[simp] theorem dv_injStart {s} {c}   {rq iq} (hq : Nat.testBit 0x0 (Reg.ctorIdx rq) = false) : ((injStart s c)).dv rq iq = State.dv s rq iq :=
  dev_of iq (fun _ hk => keep_injStart hk) rfl rfl rfl hq
@[simp] theorem se_injStart {xq : State} {s} {c}   : SameEvents xq ((injStart s c)) ↔ SameEvents xq s := se_of (fun _ hk => keep_injStart hk) rfl
@[simp] theorem ts_injStart {s} {c}   : ((injStart s c)).ts = State.ts s := ts_of (fun _ hk => keep_injStart hk) rfl
@[simp] theorem get_monitorRequest {s} {p}   {rq iq} (hq : Nat.testBit 0x4000000060000000000000000000000000000000000000000000000000000000000000000000000000000000000000000000000000000000000000000000000000000000000000000000000000000000000000000800000000000000000000000000000000000000000000000000000000000000 (Reg.ctorIdx rq) = false) : ((monitorRequest s p)).get rq iq = State.get s rq iq :=
  reg_of iq (fun _ hk => keep_monitorRequest hk) rfl rfl rfl hq
@[simp] theorem dv_monitorRequest {s} {p}   {rq iq} (hq : Nat.testBit 0x0 (Reg.ctorIdx rq) = false) : ((monitorRequest s p)).dv rq iq = State.dv s rq iq :=
  dev_of iq (fun _ hk => keep_monitorRequest hk) rfl rfl rfl hq
@[simp] theorem se_monitorRequest {xq : State} {s} {p}   : SameEvents xq ((monitorRequest s p)) ↔ SameEvents xq s := se_of (fun _ hk => keep_monitorRequest hk) rfl
@[simp] theorem ts_monitorRequest {s} {p}   : ((monitorRequest s p)).ts = State.ts s := ts_of (fun _ hk => keep_monitorRequest hk) rfl
@[simp] theorem get_monitorDeferred {s} {p}   {rq iq} (hq : Nat.testBit 0x4000000060000000000000000000000000000000000000000000000000000000000000000000000000000000000000000000000000000000000000000000000000000000000000000000000000000000000000000800000000000000000000000000000000000000000000000000000000000000 (Reg.ctorIdx rq) = false) : ((monitorDeferred s p)).get rq iq = State.get s rq iq :=
  reg_of iq (fun _ hk => keep_monitorDeferred hk) rfl rfl rfl hq
@[simp] theorem dv_monitorDeferred {s} {p}   {rq iq} (hq : Nat.testBit 0x0 (Reg.ctorIdx rq) = false) : ((monitorDeferred s p)).dv rq iq = State.dv s rq iq :=
  dev_of iq (fun _ hk => keep_monitorDeferred hk) rfl rfl rfl hq
@[simp] theorem se_monitorDeferred {xq : State} {s} {p}   : SameEvents xq ((monitorDeferred s p)) ↔ SameEvents xq s := se_of (fun _ hk => keep_monitorDeferred hk) rfl
@[simp] theorem ts_monitorDeferred {s} {p}   : ((monitorDeferred s p)).ts = State.ts s := ts_of (fun _ hk => keep_monitorDeferred hk) rfl
@[simp] theorem get_auxDevelop {s} {a}   {rq iq} (hq : Nat.testBit 0x1f0000000000000000000000000000000000000000000000000000000000000000000000000000000000000000000000000000000000000000000000000000000000000000000000000000000000000000000000000000000000000000000000000000000000000000000000000000000000 (Reg.ctorIdx rq) = false) : ((auxDevelop s a)).get rq iq = State.get s rq iq :=
  reg_of iq (fun _ hk => keep_auxDevelop hk) rfl rfl rfl hq
@[simp] theorem dv_auxDevelop {s} {a}   {rq iq} (hq : Nat.testBit 0xfc00000000000000000000000000000000000000000000000000000000000000000000000000000000000000000000000 (Reg.ctorIdx rq) = false) : ((auxDevelop s a)).dv rq iq = State.dv s rq iq :=
  dev_of iq (fun _ hk => keep_auxDevelop hk) rfl rfl rfl hq
@[simp] theorem se_auxDevelop {xq : State} {s} {a}   : SameEvents xq ((auxDevelop s a)) ↔ SameEvents xq s := se_of (fun _ hk => keep_auxDevelop hk) rfl
@[simp] theorem ts_auxDevelop {s} {a}   : ((auxDevelop s a)).ts = State.ts s := ts_of (fun _ hk => keep_auxDevelop hk) rfl
@[simp] theorem get_auxTick {s} {a}   {rq iq} (hq : Nat.testBit 0x1f78e0000000000000000000000000000000000000000000000000000000000000000000000000000000000000000000000000000000000000000000000000000000000000000000000000000000000000000000000000000000000000000000000000000000000000000000000000000000 (Reg.ctorIdx rq) = false) : ((auxTick s a)).get rq iq = State.get s rq iq :=
  reg_of iq (fun _ hk => keep_auxTick hk) rfl rfl rfl hq
@[simp] theorem dv_auxTick {s} {a}   {rq iq} (hq : Nat.testBit 0xfc00000000000000000000000000000000000000000000000000000000000000000000000000000000000000000000000 (Reg.ctorIdx rq) = false) : ((auxTick s a)).dv rq iq = State.dv s rq iq :=
  dev_of iq (fun _ hk => keep_auxTick hk) rfl rfl rfl hq
@[simp] theorem se_auxTick {xq : State} {s} {a}   : SameEvents xq ((auxTick s a)) ↔ SameEvents xq s := se_of (fun _ hk => keep_auxTick hk) rfl
@[simp] theorem ts_auxTick {s} {a}   : ((auxTick s a)).ts = State.ts s := ts_of (fun _ hk => keep_auxTick hk) rfl
@[simp] theorem get_convFree {s} {c}   {rq iq} (hq : Nat.testBit 0x40000000e0000000000000000000000000000000000000000000000000000000000000000000000000000000000000000000000000000000000000000000000000000000000000000000000000000000000000000800000000000000000000000000000000000000000000000000000000000000 (Reg.ctorIdx rq) = false) : ((convFree s c)).get rq iq = State.get s rq iq :=
  reg_of iq (fun _ hk => keep_convFree hk) rfl rfl rfl hq
@[simp] theorem dv_convFree {s} {c}   {rq iq} (hq : Nat.testBit 0x0 (Reg.ctorIdx rq) = false) : ((convFree s c)).dv rq iq = State.dv s rq iq :=
  dev_of iq (fun _ hk => keep_convFree hk) rfl rfl rfl hq
@[simp] theorem se_convFree {xq : State} {s} {c}   : SameEvents xq ((convFree s c)) ↔ SameEvents xq s := se_of (fun _ hk => keep_convFree hk) rfl
@[simp] theorem ts_convFree {s} {c}   : ((convFree s c)).ts = State.ts s := ts_of (fun _ hk => keep_convFree hk) rfl
@[simp] theorem get_axisResult {s} {c} {p} {code} {ovr}   {rq iq} (hq : Nat.testBit 0xc001000000000000000000000000000000000000000000000000000000000000078000000000000000000000000040000000000000000000000000000000000000008000000000000000000000000000000000000000000000000000000000000000000000000000000000300022b00000 (Reg.ctorIdx rq) = false) : ((axisResult s c p code ovr)).get rq iq = State.get s rq iq :=
  reg_of iq (fun _ hk => keep_axisResult hk) rfl rfl rfl hq
@[simp] theorem dv_axisResult {s} {c} {p} {code} {ovr}   {rq iq} (hq : Nat.testBit 0x2000000000000000000000000000000000000000000000000000000000000000000000000000000000000000000000 (Reg.ctorIdx rq) = false) : ((axisResult s c p code ovr)).dv rq iq = State.dv s rq iq :=
  dev_of iq (fun _ hk => keep_axisResult hk) rfl rfl rfl hq
@[simp] theorem ts_axisResult {s} {c} {p} {code} {ovr}   : ((axisResult s c p code ovr)).ts = State.ts s := ts_of (fun _ hk => keep_axisResult hk) rfl
@[simp] theorem get_auxResult {s} {c} {i} {raw} {ovr} {inj}   {rq iq} (hq : Nat.testBit 0x1d0000000000000000000000000000000000000000000000000000000000000000000000000000000000000000000040000000000000000000000000000000000020008000000000000000000000000000000000000000000000000000000000000000000000000000000000300022b00000 (Reg.ctorIdx rq) = false) : ((auxResult s c i raw ovr inj)).get rq iq = State.get s rq iq :=
  reg_of iq (fun _ hk => keep_auxResult hk) rfl rfl rfl hq
@[simp] theorem dv_auxResult {s} {c} {i} {raw} {ovr} {inj}   {rq iq} (hq : Nat.testBit 0x0 (Reg.ctorIdx rq) = false) : ((auxResult s c i raw ovr inj)).dv rq iq = State.dv s rq iq :=
  dev_of iq (fun _ hk => keep_auxResult hk) rfl rfl rfl hq
@[simp] theorem ts_auxResult {s} {c} {i} {raw} {ovr} {inj}   : ((auxResult s c i raw ovr inj)).ts = State.ts s := ts_of (fun _ hk => keep_auxResult hk) rfl
@[simp] theorem get_conversionResult {s} {c} {ch} {raw} {ovr} {epoch}   {rq iq} (hq : Nat.testBit 0x40001dc6e1000000000000000000000000000000000000000000000000000000000000078000000000000000000000000040000000000000000000200000000000000020008000000000000000000000000000000800000000000000000000000000000000000000000000000000300022b00000 (Reg.ctorIdx rq) = false) : ((conversionResult s c ch raw ovr epoch)).get rq iq = State.get s rq iq :=
  reg_of iq (fun _ hk => keep_conversionResult hk) rfl rfl rfl hq
@[simp] theorem dv_conversionResult {s} {c} {ch} {raw} {ovr} {epoch}   {rq iq} (hq : Nat.testBit 0x2000000000000000000000000000000000000000000000000000000000000000000000000000000000000000000000 (Reg.ctorIdx rq) = false) : ((conversionResult s c ch raw ovr epoch)).dv rq iq = State.dv s rq iq :=
  dev_of iq (fun _ hk => keep_conversionResult hk) rfl rfl rfl hq
@[simp] theorem ts_conversionResult {s} {c} {ch} {raw} {ovr} {epoch}   : ((conversionResult s c ch raw ovr epoch)).ts = State.ts s := ts_of (fun _ hk => keep_conversionResult hk) rfl
@[simp] theorem get_convEpochAdvance {s} {c}   {rq iq} (hq : Nat.testBit 0x3800000000000000000000000000000000000000000000000000000000000000000000000000000000000000000000000000000000000000000000000000000000000000000008000000000000000000000000000000000000000000000000000000000000000000000000000000000000000000 (Reg.ctorIdx rq) = false) : ((convEpochAdvance s c)).get rq iq = State.get s rq iq :=
  reg_of iq (fun _ hk => keep_convEpochAdvance hk) rfl rfl rfl hq
@[simp] theorem dv_convEpochAdvance {s} {c}   {rq iq} (hq : Nat.testBit 0x0 (Reg.ctorIdx rq) = false) : ((convEpochAdvance s c)).dv rq iq = State.dv s rq iq :=
  dev_of iq (fun _ hk => keep_convEpochAdvance hk) rfl rfl rfl hq
@[simp] theorem se_convEpochAdvance {xq : State} {s} {c}   : SameEvents xq ((convEpochAdvance s c)) ↔ SameEvents xq s := se_of (fun _ hk => keep_convEpochAdvance hk) rfl
@[simp] theorem ts_convEpochAdvance {s} {c}   : ((convEpochAdvance s c)).ts = State.ts s := ts_of (fun _ hk => keep_convEpochAdvance hk) rfl
@[simp] theorem get_judgeConvRedundancy {s}   {rq iq} (hq : Nat.testBit 0x360000000000000000000000000000000000000000000000000000000000000000000000000040000000000000000000080000000000000000000000000000000000000000000000000000000000000000000000000000000000000000000000000000300022b00000 (Reg.ctorIdx rq) = false) : ((judgeConvRedundancy s)).get rq iq = State.get s rq iq :=
  reg_of iq (fun _ hk => keep_judgeConvRedundancy hk) rfl rfl rfl hq
@[simp] theorem dv_judgeConvRedundancy {s}   {rq iq} (hq : Nat.testBit 0x0 (Reg.ctorIdx rq) = false) : ((judgeConvRedundancy s)).dv rq iq = State.dv s rq iq :=
  dev_of iq (fun _ hk => keep_judgeConvRedundancy hk) rfl rfl rfl hq
@[simp] theorem ts_judgeConvRedundancy {s}   : ((judgeConvRedundancy s)).ts = State.ts s := ts_of (fun _ hk => keep_judgeConvRedundancy hk) rfl
@[simp] theorem get_setRetiredBit {s} {c} {b}   {rq iq} (hq : Nat.testBit 0x1800000000000000000000000000000000000000000000000000000000000000000000000000000000000000000000000000 (Reg.ctorIdx rq) = false) : ((setRetiredBit s c b)).get rq iq = State.get s rq iq :=
  reg_of iq (fun _ hk => keep_setRetiredBit hk) rfl rfl rfl hq
@[simp] theorem dv_setRetiredBit {s} {c} {b}   {rq iq} (hq : Nat.testBit 0x0 (Reg.ctorIdx rq) = false) : ((setRetiredBit s c b)).dv rq iq = State.dv s rq iq :=
  dev_of iq (fun _ hk => keep_setRetiredBit hk) rfl rfl rfl hq
@[simp] theorem se_setRetiredBit {xq : State} {s} {c} {b}   : SameEvents xq ((setRetiredBit s c b)) ↔ SameEvents xq s := se_of (fun _ hk => keep_setRetiredBit hk) rfl
@[simp] theorem ts_setRetiredBit {s} {c} {b}   : ((setRetiredBit s c b)).ts = State.ts s := ts_of (fun _ hk => keep_setRetiredBit hk) rfl
@[simp] theorem get_setHalfRate {s} {c} {b}   {rq iq} (hq : Nat.testBit 0x10000000000000000000000000000000000000000000 (Reg.ctorIdx rq) = false) : ((setHalfRate s c b)).get rq iq = State.get s rq iq :=
  reg_of iq (fun _ hk => keep_setHalfRate hk) rfl rfl rfl hq
@[simp] theorem dv_setHalfRate {s} {c} {b}   {rq iq} (hq : Nat.testBit 0x0 (Reg.ctorIdx rq) = false) : ((setHalfRate s c b)).dv rq iq = State.dv s rq iq :=
  dev_of iq (fun _ hk => keep_setHalfRate hk) rfl rfl rfl hq
@[simp] theorem se_setHalfRate {xq : State} {s} {c} {b}   : SameEvents xq ((setHalfRate s c b)) ↔ SameEvents xq s := se_of (fun _ hk => keep_setHalfRate hk) rfl
@[simp] theorem ts_setHalfRate {s} {c} {b}   : ((setHalfRate s c b)).ts = State.ts s := ts_of (fun _ hk => keep_setHalfRate hk) rfl
@[simp] theorem get_cutPorts {s} {c} {g} {b}   {rq iq} (hq : Nat.testBit 0x8008000000000000000000000000000000000000000000000000000000000000000000000000000000000000000000000000000000000000000000000000000000000000000000000000000000000000000000000000000000000000000000000000000000000000000000000000000000 (Reg.ctorIdx rq) = false) : ((cutPorts s c g b)).get rq iq = State.get s rq iq :=
  reg_of iq (fun _ hk => keep_cutPorts hk) rfl rfl rfl hq
@[simp] theorem dv_cutPorts {s} {c} {g} {b}   {rq iq} (hq : Nat.testBit 0x0 (Reg.ctorIdx rq) = false) : ((cutPorts s c g b)).dv rq iq = State.dv s rq iq :=
  dev_of iq (fun _ hk => keep_cutPorts hk) rfl rfl rfl hq
@[simp] theorem se_cutPorts {xq : State} {s} {c} {g} {b}   : SameEvents xq ((cutPorts s c g b)) ↔ SameEvents xq s := se_of (fun _ hk => keep_cutPorts hk) rfl
@[simp] theorem ts_cutPorts {s} {c} {g} {b}   : ((cutPorts s c g b)).ts = State.ts s := ts_of (fun _ hk => keep_cutPorts hk) rfl
@[simp] theorem get_cutInputs {s} {c} {b}   {rq iq} (hq : Nat.testBit 0x1d0010000000000000000000000000000000000000000000000000000000000000000000000000000000000000000000000000000000000000000000000000000000000000000000000000000000000000000000000000000000000000000000000000000000000000000000000000000000 (Reg.ctorIdx rq) = false) : ((cutInputs s c b)).get rq iq = State.get s rq iq :=
  reg_of iq (fun _ hk => keep_cutInputs hk) rfl rfl rfl hq
@[simp] theorem dv_cutInputs {s} {c} {b}   {rq iq} (hq : Nat.testBit 0x0 (Reg.ctorIdx rq) = false) : ((cutInputs s c b)).dv rq iq = State.dv s rq iq :=
  dev_of iq (fun _ hk => keep_cutInputs hk) rfl rfl rfl hq
@[simp] theorem se_cutInputs {xq : State} {s} {c} {b}   : SameEvents xq ((cutInputs s c b)) ↔ SameEvents xq s := se_of (fun _ hk => keep_cutInputs hk) rfl
@[simp] theorem ts_cutInputs {s} {c} {b}   : ((cutInputs s c b)).ts = State.ts s := ts_of (fun _ hk => keep_cutInputs hk) rfl
@[simp] theorem get_moveInjected {s} {c}   {rq iq} (hq : Nat.testBit 0x600000000000000000000000000000000000000000000000000000000000000000000000000000000000000000000000000000000000000000000000000000000004000000000000000000000000000000000000000000000000000000000000000000000000000000000000000000000 (Reg.ctorIdx rq) = false) : ((moveInjected s c)).get rq iq = State.get s rq iq :=
  reg_of iq (fun _ hk => keep_moveInjected hk) rfl rfl rfl hq
@[simp] theorem dv_moveInjected {s} {c}   {rq iq} (hq : Nat.testBit 0x0 (Reg.ctorIdx rq) = false) : ((moveInjected s c)).dv rq iq = State.dv s rq iq :=
  dev_of iq (fun _ hk => keep_moveInjected hk) rfl rfl rfl hq
@[simp] theorem se_moveInjected {xq : State} {s} {c}   : SameEvents xq ((moveInjected s c)) ↔ SameEvents xq s := se_of (fun _ hk => keep_moveInjected hk) rfl
@[simp] theorem ts_moveInjected {s} {c}   : ((moveInjected s c)).ts = State.ts s := ts_of (fun _ hk => keep_moveInjected hk) rfl
@[simp] theorem get_calStart {s} {c}   {rq iq} (hq : Nat.testBit 0x1801c0020000000000000000000000000000000000000000000000000000000000000000000000000000000000000000000000000000000000000000000000000000000000004000000000000000000000000000000000000000000000000000000000000000000000000000000000000000000 (Reg.ctorIdx rq) = false) : ((calStart s c)).get rq iq = State.get s rq iq :=
  reg_of iq (fun _ hk => keep_calStart hk) rfl rfl rfl hq
@[simp] theorem dv_calStart {s} {c}   {rq iq} (hq : Nat.testBit 0x0 (Reg.ctorIdx rq) = false) : ((calStart s c)).dv rq iq = State.dv s rq iq :=
  dev_of iq (fun _ hk => keep_calStart hk) rfl rfl rfl hq
@[simp] theorem se_calStart {xq : State} {s} {c}   : SameEvents xq ((calStart s c)) ↔ SameEvents xq s := se_of (fun _ hk => keep_calStart hk) rfl
@[simp] theorem ts_calStart {s} {c}   : ((calStart s c)).ts = State.ts s := ts_of (fun _ hk => keep_calStart hk) rfl
@[simp] theorem get_setCovering {s} {d} {b}   {rq iq} (hq : Nat.testBit 0x4000000000000000000000000000000000000000000000000000000000000000000000000000000000000000000 (Reg.ctorIdx rq) = false) : ((setCovering s d b)).get rq iq = State.get s rq iq :=
  reg_of iq (fun _ hk => keep_setCovering hk) rfl rfl rfl hq
@[simp] theorem dv_setCovering {s} {d} {b}   {rq iq} (hq : Nat.testBit 0x0 (Reg.ctorIdx rq) = false) : ((setCovering s d b)).dv rq iq = State.dv s rq iq :=
  dev_of iq (fun _ hk => keep_setCovering hk) rfl rfl rfl hq
@[simp] theorem se_setCovering {xq : State} {s} {d} {b}   : SameEvents xq ((setCovering s d b)) ↔ SameEvents xq s := se_of (fun _ hk => keep_setCovering hk) rfl
@[simp] theorem ts_setCovering {s} {d} {b}   : ((setCovering s d b)).ts = State.ts s := ts_of (fun _ hk => keep_setCovering hk) rfl
@[simp] theorem get_cover {s} {c}   {rq iq} (hq : Nat.testBit 0x1d8018000000000000000000000000000000000000000000000000000000000000000000000000000000000000000000000000000000000000000000000000000000000004000000000000000000000000000000000000000000000010000000000000000000000000000000000000000000 (Reg.ctorIdx rq) = false) : ((cover s c)).get rq iq = State.get s rq iq :=
  reg_of iq (fun _ hk => keep_cover hk) rfl rfl rfl hq
@[simp] theorem dv_cover {s} {c}   {rq iq} (hq : Nat.testBit 0x0 (Reg.ctorIdx rq) = false) : ((cover s c)).dv rq iq = State.dv s rq iq :=
  dev_of iq (fun _ hk => keep_cover hk) rfl rfl rfl hq
@[simp] theorem se_cover {xq : State} {s} {c}   : SameEvents xq ((cover s c)) ↔ SameEvents xq s := se_of (fun _ hk => keep_cover hk) rfl
@[simp] theorem ts_cover {s} {c}   : ((cover s c)).ts = State.ts s := ts_of (fun _ hk => keep_cover hk) rfl
@[simp] theorem get_retire {s} {c}   {rq iq} (hq : Nat.testBit 0x39d81c8620000008060700360000000000000e00880000000300800415600000001006284081020000002f05c02c6c60004006000000000000400018000000000001180000421c000002800010000000000000000000000000000000c40000000000088000e00000483100000b00b00022b80000 (Reg.ctorIdx rq) = false) : ((retire s c)).get rq iq = State.get s rq iq :=
  reg_of iq (fun _ hk => keep_retire hk) rfl rfl rfl hq
@[simp] theorem dv_retire {s} {c}   {rq iq} (hq : Nat.testBit 0x100000000000000000000000000000000000000000001e00060000000000000000000000000000000000 (Reg.ctorIdx rq) = false) : ((retire s c)).dv rq iq = State.dv s rq iq :=
  dev_of iq (fun _ hk => keep_retire hk) rfl rfl rfl hq
@[simp] theorem ts_retire {s} {c}   : ((retire s c)).ts = State.ts s := ts_of (fun _ hk => keep_retire hk) rfl
@[simp] theorem get_retirement {s} {c} {g}   {rq iq} (hq : Nat.testBit 0x39d81d8638000008060700360000000000000e00880000000300800415600000001006284081020000002f05c02c6c60004006000000000000400018000000000001180000421c000002800010000000000000000000000000000000c40010000000088000e00000483100000b00b00022b80000 (Reg.ctorIdx rq) = false) : ((retirement s c g)).get rq iq = State.get s rq iq :=
  reg_of iq (fun _ hk => keep_retirement hk) rfl rfl rfl hq
@[simp] theorem dv_retirement {s} {c} {g}   {rq iq} (hq : Nat.testBit 0x100000000000000000000000000000000000000000001e00060000000000000000000000000000000000 (Reg.ctorIdx rq) = false) : ((retirement s c g)).dv rq iq = State.dv s rq iq :=
  dev_of iq (fun _ hk => keep_retirement hk) rfl rfl rfl hq
@[simp] theorem ts_retirement {s} {c} {g}   : ((retirement s c g)).ts = State.ts s := ts_of (fun _ hk => keep_retirement hk) rfl
@[simp] theorem get_uncover {s} {c}   {rq iq} (hq : Nat.testBit 0x1d8018000000000000000000000000000000000000000000000000000000000000000000000000000000000000000000000000000000000000000000000000000000000004000000000000000000000000000000000000000000000010000000000000000000000000000000000000000000 (Reg.ctorIdx rq) = false) : ((uncover s c)).get rq iq = State.get s rq iq :=
  reg_of iq (fun _ hk => keep_uncover hk) rfl rfl rfl hq
@[simp] theorem dv_uncover {s} {c}   {rq iq} (hq : Nat.testBit 0x0 (Reg.ctorIdx rq) = false) : ((uncover s c)).dv rq iq = State.dv s rq iq :=
  dev_of iq (fun _ hk => keep_uncover hk) rfl rfl rfl hq
@[simp] theorem se_uncover {xq : State} {s} {c}   : SameEvents xq ((uncover s c)) ↔ SameEvents xq s := se_of (fun _ hk => keep_uncover hk) rfl
@[simp] theorem ts_uncover {s} {c}   : ((uncover s c)).ts = State.ts s := ts_of (fun _ hk => keep_uncover hk) rfl
@[simp] theorem get_convReturn {s} {c}   {rq iq} (hq : Nat.testBit 0x38401d801800000000000036000000000000000000000000000000000000000000000000000000000000000000000000004000000000000000000008000000000000180000000c000000000000000000000000000000000000000000000010000000000000000000000000000000300022b00000 (Reg.ctorIdx rq) = false) : ((convReturn s c)).get rq iq = State.get s rq iq :=
  reg_of iq (fun _ hk => keep_convReturn hk) rfl rfl rfl hq
@[simp] theorem dv_convReturn {s} {c}   {rq iq} (hq : Nat.testBit 0x0 (Reg.ctorIdx rq) = false) : ((convReturn s c)).dv rq iq = State.dv s rq iq :=
  dev_of iq (fun _ hk => keep_convReturn hk) rfl rfl rfl hq
@[simp] theorem ts_convReturn {s} {c}   : ((convReturn s c)).ts = State.ts s := ts_of (fun _ hk => keep_convReturn hk) rfl
@[simp] theorem get_strike {s} {c} {dev}   {rq iq} (hq : Nat.testBit 0x8400000000000000000000000000000000000000000000000000000000000000000000000000000000000000000000040000000000000000000000000000000000000000110000000000000000000000000000000000000000000000000000000000000000000000000000000300022b00000 (Reg.ctorIdx rq) = false) : ((strike s c dev)).get rq iq = State.get s rq iq :=
  reg_of iq (fun _ hk => keep_strike hk) rfl rfl rfl hq
@[simp] theorem dv_strike {s} {c} {dev}   {rq iq} (hq : Nat.testBit 0x0 (Reg.ctorIdx rq) = false) : ((strike s c dev)).dv rq iq = State.dv s rq iq :=
  dev_of iq (fun _ hk => keep_strike hk) rfl rfl rfl hq
@[simp] theorem ts_strike {s} {c} {dev}   : ((strike s c dev)).ts = State.ts s := ts_of (fun _ hk => keep_strike hk) rfl
@[simp] theorem get_refVerdict {s} {c} {dev} {tol}   {rq iq} (hq : Nat.testBit 0x48400000000000000000000000000000000000000000000000000000000000000000000000000000000000000000000040000000000000000000000000000000000000000110000000000000000000000000000000000000000000000000000000000000000000000000000000300022b00000 (Reg.ctorIdx rq) = false) : ((refVerdict s c dev tol)).get rq iq = State.get s rq iq :=
  reg_of iq (fun _ hk => keep_refVerdict hk) rfl rfl rfl hq
@[simp] theorem dv_refVerdict {s} {c} {dev} {tol}   {rq iq} (hq : Nat.testBit 0x0 (Reg.ctorIdx rq) = false) : ((refVerdict s c dev tol)).dv rq iq = State.dv s rq iq :=
  dev_of iq (fun _ hk => keep_refVerdict hk) rfl rfl rfl hq
@[simp] theorem ts_refVerdict {s} {c} {dev} {tol}   : ((refVerdict s c dev tol)).ts = State.ts s := ts_of (fun _ hk => keep_refVerdict hk) rfl
@[simp] theorem get_refCheck {s} {j} {devs}   {rq iq} (hq : Nat.testBit 0x49400000000000000000000000000000000000000000000000000000000000000000000000000000000000000000000040000000000000000000000000000000004000001110000000000000000000000000000000000000000000000000000000000000000000000000000000300022b00000 (Reg.ctorIdx rq) = false) : ((refCheck s j devs)).get rq iq = State.get s rq iq :=
  reg_of iq (fun _ hk => keep_refCheck hk) rfl rfl rfl hq
@[simp] theorem dv_refCheck {s} {j} {devs}   {rq iq} (hq : Nat.testBit 0x0 (Reg.ctorIdx rq) = false) : ((refCheck s j devs)).dv rq iq = State.dv s rq iq :=
  dev_of iq (fun _ hk => keep_refCheck hk) rfl rfl rfl hq
@[simp] theorem ts_refCheck {s} {j} {devs}   : ((refCheck s j devs)).ts = State.ts s := ts_of (fun _ hk => keep_refCheck hk) rfl
@[simp] theorem get_crossCheck {s} {j} {c} {dev}   {rq iq} (hq : Nat.testBit 0x104800000000000000000000000000000000000000000000000000000000000000000000000000000000000000000000040000000000000000000000000000000002000001000000000000000000000000000000000000000000000000000000000000000000000000000000000300022b00000 (Reg.ctorIdx rq) = false) : ((crossCheck s j c dev)).get rq iq = State.get s rq iq :=
  reg_of iq (fun _ hk => keep_crossCheck hk) rfl rfl rfl hq
@[simp] theorem dv_crossCheck {s} {j} {c} {dev}   {rq iq} (hq : Nat.testBit 0x0 (Reg.ctorIdx rq) = false) : ((crossCheck s j c dev)).dv rq iq = State.dv s rq iq :=
  dev_of iq (fun _ hk => keep_crossCheck hk) rfl rfl rfl hq
@[simp] theorem ts_crossCheck {s} {j} {c} {dev}   : ((crossCheck s j c dev)).ts = State.ts s := ts_of (fun _ hk => keep_crossCheck hk) rfl
@[simp] theorem get_refCodes {s} {cs} {a} {b}   {rq iq} (hq : Nat.testBit 0x40000000000000000000000000000000000000000000000000000000000000000000000000000000000000000000000000000000000000000000000000300022b00000 (Reg.ctorIdx rq) = false) : ((refCodes s cs a b).1).get rq iq = State.get s rq iq :=
  reg_of iq (fun _ hk => keep_refCodes hk) rfl rfl rfl hq
@[simp] theorem dv_refCodes {s} {cs} {a} {b}   {rq iq} (hq : Nat.testBit 0x0 (Reg.ctorIdx rq) = false) : ((refCodes s cs a b).1).dv rq iq = State.dv s rq iq :=
  dev_of iq (fun _ hk => keep_refCodes hk) rfl rfl rfl hq
@[simp] theorem ts_refCodes {s} {cs} {a} {b}   : ((refCodes s cs a b).1).ts = State.ts s := ts_of (fun _ hk => keep_refCodes hk) rfl
@[simp] theorem get_converterCheck {s} {j} {a} {b} {port} {free}   {rq iq} (hq : Nat.testBit 0x14de00000000000000000000000000000000000000000000000000000000000000000000000000000000000000000000040000000000000000000000000000000006000021110000000000000000000000000000000000000000000000000000000000000000000000000000000300022b00000 (Reg.ctorIdx rq) = false) : ((converterCheck s j a b port free)).get rq iq = State.get s rq iq :=
  reg_of iq (fun _ hk => keep_converterCheck hk) rfl rfl rfl hq
@[simp] theorem dv_converterCheck {s} {j} {a} {b} {port} {free}   {rq iq} (hq : Nat.testBit 0x300000000000000000000000000000000000000000000000000000000000000000000000000000000000000000000000000 (Reg.ctorIdx rq) = false) : ((converterCheck s j a b port free)).dv rq iq = State.dv s rq iq :=
  dev_of iq (fun _ hk => keep_converterCheck hk) rfl rfl rfl hq
@[simp] theorem ts_converterCheck {s} {j} {a} {b} {port} {free}   : ((converterCheck s j a b port free)).ts = State.ts s := ts_of (fun _ hk => keep_converterCheck hk) rfl
@[simp] theorem get_calibrate {s} {c}   {rq iq} (hq : Nat.testBit 0x1801d8038000000000000000000000000000000000000000000000000000000000000000000000000000000000000000000000000000000000000000000000000000000000004000000000000000000000000000000000000000000000010000000000000000000000000000000000000000000 (Reg.ctorIdx rq) = false) : ((calibrate s c)).get rq iq = State.get s rq iq :=
  reg_of iq (fun _ hk => keep_calibrate hk) rfl rfl rfl hq
@[simp] theorem dv_calibrate {s} {c}   {rq iq} (hq : Nat.testBit 0x0 (Reg.ctorIdx rq) = false) : ((calibrate s c)).dv rq iq = State.dv s rq iq :=
  dev_of iq (fun _ hk => keep_calibrate hk) rfl rfl rfl hq
@[simp] theorem se_calibrate {xq : State} {s} {c}   : SameEvents xq ((calibrate s c)) ↔ SameEvents xq s := se_of (fun _ hk => keep_calibrate hk) rfl
@[simp] theorem ts_calibrate {s} {c}   : ((calibrate s c)).ts = State.ts s := ts_of (fun _ hk => keep_calibrate hk) rfl
@[simp] theorem get_calRotation {s}   {rq iq} (hq : Nat.testBit 0x600000000000000000000000000000000000000000000000000000000000000000000000000000000000000000000000000000000000000000000000000000000000000000000000000000000000000000000000000000000000000000000000000000000000000000000000000000000000000 (Reg.ctorIdx rq) = false) : ((calRotation s)).get rq iq = State.get s rq iq :=
  reg_of iq (fun _ hk => keep_calRotation hk) rfl rfl rfl hq
@[simp] theorem dv_calRotation {s}   {rq iq} (hq : Nat.testBit 0x400000000000000000000000000000000000000000000000000000000000000000000000000000000000000000000000000 (Reg.ctorIdx rq) = false) : ((calRotation s)).dv rq iq = State.dv s rq iq :=
  dev_of iq (fun _ hk => keep_calRotation hk) rfl rfl rfl hq
@[simp] theorem se_calRotation {xq : State} {s}   : SameEvents xq ((calRotation s)) ↔ SameEvents xq s := se_of (fun _ hk => keep_calRotation hk) rfl
@[simp] theorem ts_calRotation {s}   : ((calRotation s)).ts = State.ts s := ts_of (fun _ hk => keep_calRotation hk) rfl
@[simp] theorem get_calibrationDue {s} {c}   {rq iq} (hq : Nat.testBit 0x7801d8038000000000000000000000000000000000000000000000000000000000000000000000000000000000000000000000000000000000000000000000000008000000004000000000000000000000000000000000000000000000010000000000000000000000000000000000000000000 (Reg.ctorIdx rq) = false) : ((calibrationDue s c)).get rq iq = State.get s rq iq :=
  reg_of iq (fun _ hk => keep_calibrationDue hk) rfl rfl rfl hq
@[simp] theorem dv_calibrationDue {s} {c}   {rq iq} (hq : Nat.testBit 0x400000000000000000000000000000000000000000000000000000000000000000000000000000000000000000000000000 (Reg.ctorIdx rq) = false) : ((calibrationDue s c)).dv rq iq = State.dv s rq iq :=
  dev_of iq (fun _ hk => keep_calibrationDue hk) rfl rfl rfl hq
@[simp] theorem se_calibrationDue {xq : State} {s} {c}   : SameEvents xq ((calibrationDue s c)) ↔ SameEvents xq s := se_of (fun _ hk => keep_calibrationDue hk) rfl
@[simp] theorem ts_calibrationDue {s} {c}   : ((calibrationDue s c)).ts = State.ts s := ts_of (fun _ hk => keep_calibrationDue hk) rfl
@[simp] theorem get_calibrationDeferred {s} {c}   {rq iq} (hq : Nat.testBit 0x1801d8038000000000000000000000000000000000000000000000000000000000000000000000000000000000000000000000000000000000000000000000000000000000004000000000000000000000000000000000000000000000010000000000000000000000000000000000000000000 (Reg.ctorIdx rq) = false) : ((calibrationDeferred s c)).get rq iq = State.get s rq iq :=
  reg_of iq (fun _ hk => keep_calibrationDeferred hk) rfl rfl rfl hq
@[simp] theorem dv_calibrationDeferred {s} {c}   {rq iq} (hq : Nat.testBit 0x0 (Reg.ctorIdx rq) = false) : ((calibrationDeferred s c)).dv rq iq = State.dv s rq iq :=
  dev_of iq (fun _ hk => keep_calibrationDeferred hk) rfl rfl rfl hq
@[simp] theorem se_calibrationDeferred {xq : State} {s} {c}   : SameEvents xq ((calibrationDeferred s c)) ↔ SameEvents xq s := se_of (fun _ hk => keep_calibrationDeferred hk) rfl
@[simp] theorem ts_calibrationDeferred {s} {c}   : ((calibrationDeferred s c)).ts = State.ts s := ts_of (fun _ hk => keep_calibrationDeferred hk) rfl
@[simp] theorem get_calCommand {s} {c}   {rq iq} (hq : Nat.testBit 0x1801d8038000000000000000000000000000000000000000000000000000000000000000000000000000000000000000000000000000000000000000000000000000000000404000000000000000000000000000000000000000000000010000000000000000000000000000000000000000000 (Reg.ctorIdx rq) = false) : ((calCommand s c).1).get rq iq = State.get s rq iq :=
  reg_of iq (fun _ hk => keep_calCommand hk) rfl rfl rfl hq
@[simp] theorem dv_calCommand {s} {c}   {rq iq} (hq : Nat.testBit 0x0 (Reg.ctorIdx rq) = false) : ((calCommand s c).1).dv rq iq = State.dv s rq iq :=
  dev_of iq (fun _ hk => keep_calCommand hk) rfl rfl rfl hq
@[simp] theorem se_calCommand {xq : State} {s} {c}   : SameEvents xq ((calCommand s c).1) ↔ SameEvents xq s := se_of (fun _ hk => keep_calCommand hk) rfl
@[simp] theorem ts_calCommand {s} {c}   : ((calCommand s c).1).ts = State.ts s := ts_of (fun _ hk => keep_calCommand hk) rfl
@[simp] theorem get_calEnd {s} {c}   {rq iq} (hq : Nat.testBit 0x801d8018000000000000000000000000000000000000000000000000000000000000000000000000000000000000000000000000000000000000000000000000000000000004000000000000000000000000000000000000000000000010000000000000000000000000000000000000000000 (Reg.ctorIdx rq) = false) : ((calEnd s c)).get rq iq = State.get s rq iq :=
  reg_of iq (fun _ hk => keep_calEnd hk) rfl rfl rfl hq
@[simp] theorem dv_calEnd {s} {c}   {rq iq} (hq : Nat.testBit 0x0 (Reg.ctorIdx rq) = false) : ((calEnd s c)).dv rq iq = State.dv s rq iq :=
  dev_of iq (fun _ hk => keep_calEnd hk) rfl rfl rfl hq
@[simp] theorem se_calEnd {xq : State} {s} {c}   : SameEvents xq ((calEnd s c)) ↔ SameEvents xq s := se_of (fun _ hk => keep_calEnd hk) rfl
@[simp] theorem ts_calEnd {s} {c}   : ((calEnd s c)).ts = State.ts s := ts_of (fun _ hk => keep_calEnd hk) rfl
@[simp] theorem get_calPairNext {s} {c}   {rq iq} (hq : Nat.testBit 0x104000000000000000000000000000000000000000000000000000000000000000000000000000000000000000000000000000000000000000000000000000000000000000000000000000000000000000000000000000000000000000000000000000000000000000000000000000000000000 (Reg.ctorIdx rq) = false) : ((calPairNext s c)).get rq iq = State.get s rq iq :=
  reg_of iq (fun _ hk => keep_calPairNext hk) rfl rfl rfl hq
@[simp] theorem dv_calPairNext {s} {c}   {rq iq} (hq : Nat.testBit 0x0 (Reg.ctorIdx rq) = false) : ((calPairNext s c)).dv rq iq = State.dv s rq iq :=
  dev_of iq (fun _ hk => keep_calPairNext hk) rfl rfl rfl hq
@[simp] theorem se_calPairNext {xq : State} {s} {c}   : SameEvents xq ((calPairNext s c)) ↔ SameEvents xq s := se_of (fun _ hk => keep_calPairNext hk) rfl
@[simp] theorem ts_calPairNext {s} {c}   : ((calPairNext s c)).ts = State.ts s := ts_of (fun _ hk => keep_calPairNext hk) rfl
@[simp] theorem get_calFail {s} {c} {why}   {rq iq} (hq : Nat.testBit 0x1ac000000000000000000000000000000000000000000000000000000000000000000000000000000000000000000000040000000000000000000000000000000000000000804000000000000000000000000000000000000000000000000000000000000000000000000000000300022b00000 (Reg.ctorIdx rq) = false) : ((calFail s c why)).get rq iq = State.get s rq iq :=
  reg_of iq (fun _ hk => keep_calFail hk) rfl rfl rfl hq
@[simp] theorem dv_calFail {s} {c} {why}   {rq iq} (hq : Nat.testBit 0x0 (Reg.ctorIdx rq) = false) : ((calFail s c why)).dv rq iq = State.dv s rq iq :=
  dev_of iq (fun _ hk => keep_calFail hk) rfl rfl rfl hq
@[simp] theorem ts_calFail {s} {c} {why}   : ((calFail s c why)).ts = State.ts s := ts_of (fun _ hk => keep_calFail hk) rfl
@[simp] theorem get_calDone {s} {c} {ofs} {gain} {code}   {rq iq} (hq : Nat.testBit 0x1ae1d8018000000000000000000000000000000000000000000000000000000000000000000000000000000000000000040000000000000000000000000000000000000000864000000000000000000000000000000000000000000000010000000000000000000000000000000300022b00000 (Reg.ctorIdx rq) = false) : ((calDone s c ofs gain code)).get rq iq = State.get s rq iq :=
  reg_of iq (fun _ hk => keep_calDone hk) rfl rfl rfl hq
@[simp] theorem dv_calDone {s} {c} {ofs} {gain} {code}   {rq iq} (hq : Nat.testBit 0x0 (Reg.ctorIdx rq) = false) : ((calDone s c ofs gain code)).dv rq iq = State.dv s rq iq :=
  dev_of iq (fun _ hk => keep_calDone hk) rfl rfl rfl hq
@[simp] theorem ts_calDone {s} {c} {ofs} {gain} {code}   : ((calDone s c ofs gain code)).ts = State.ts s := ts_of (fun _ hk => keep_calDone hk) rfl
@[simp] theorem get_syscalReject {s} {why}   {rq iq} (hq : Nat.testBit 0x8000000000000000000000000000000000000000000000000000000000000000000000000000000000000000000000000040000000000000000000000000000000600000000000000000000000000000000000000000000000000000000000000000000000000000000000000000300022b00000 (Reg.ctorIdx rq) = false) : ((syscalReject s why)).get rq iq = State.get s rq iq :=
  reg_of iq (fun _ hk => keep_syscalReject hk) rfl rfl rfl hq
@[simp] theorem dv_syscalReject {s} {why}   {rq iq} (hq : Nat.testBit 0x0 (Reg.ctorIdx rq) = false) : ((syscalReject s why)).dv rq iq = State.dv s rq iq :=
  dev_of iq (fun _ hk => keep_syscalReject hk) rfl rfl rfl hq
@[simp] theorem ts_syscalReject {s} {why}   : ((syscalReject s why)).ts = State.ts s := ts_of (fun _ hk => keep_syscalReject hk) rfl
@[simp] theorem get_syscalStart {s} {step}   {rq iq} (hq : Nat.testBit 0x18000000000000000000000000000000000000000000000000000000000000000000000000000000000000000000000000040000000000000000000000000000000600000000000000000000000000000000000000000000000000000000000000000000000000000000000000000300022b00000 (Reg.ctorIdx rq) = false) : ((syscalStart s step).1).get rq iq = State.get s rq iq :=
  reg_of iq (fun _ hk => keep_syscalStart hk) rfl rfl rfl hq
@[simp] theorem dv_syscalStart {s} {step}   {rq iq} (hq : Nat.testBit 0x0 (Reg.ctorIdx rq) = false) : ((syscalStart s step).1).dv rq iq = State.dv s rq iq :=
  dev_of iq (fun _ hk => keep_syscalStart hk) rfl rfl rfl hq
@[simp] theorem ts_syscalStart {s} {step}   : ((syscalStart s step).1).ts = State.ts s := ts_of (fun _ hk => keep_syscalStart hk) rfl
@[simp] theorem get_storeCoef {s} {ch} {ofs} {gain}   {rq iq} (hq : Nat.testBit 0xc03c0000000000000000000000000000000000000000000000000000000000000000000000000000000000000000000000 (Reg.ctorIdx rq) = false) : ((storeCoef s ch ofs gain)).get rq iq = State.get s rq iq :=
  reg_of iq (fun _ hk => keep_storeCoef hk) rfl rfl rfl hq
@[simp] theorem dv_storeCoef {s} {ch} {ofs} {gain}   {rq iq} (hq : Nat.testBit 0x0 (Reg.ctorIdx rq) = false) : ((storeCoef s ch ofs gain)).dv rq iq = State.dv s rq iq :=
  dev_of iq (fun _ hk => keep_storeCoef hk) rfl rfl rfl hq
@[simp] theorem se_storeCoef {xq : State} {s} {ch} {ofs} {gain}   : SameEvents xq ((storeCoef s ch ofs gain)) ↔ SameEvents xq s := se_of (fun _ hk => keep_storeCoef hk) rfl
@[simp] theorem ts_storeCoef {s} {ch} {ofs} {gain}   : ((storeCoef s ch ofs gain)).ts = State.ts s := ts_of (fun _ hk => keep_storeCoef hk) rfl
@[simp] theorem get_syscalDone {s} {code} {bad}   {rq iq} (hq : Nat.testBit 0xe80000000000000000007000000000000000000000000000000000000000000000000000000000000000000000000000000400600000000000000000000000000006000c03c0000000000000000000000000000000000000000000000000000000000000000000000000000000000300022b00000 (Reg.ctorIdx rq) = false) : ((syscalDone s code bad)).get rq iq = State.get s rq iq :=
  reg_of iq (fun _ hk => keep_syscalDone hk) rfl rfl rfl hq
@[simp] theorem dv_syscalDone {s} {code} {bad}   {rq iq} (hq : Nat.testBit 0x0 (Reg.ctorIdx rq) = false) : ((syscalDone s code bad)).dv rq iq = State.dv s rq iq :=
  dev_of iq (fun _ hk => keep_syscalDone hk) rfl rfl rfl hq
@[simp] theorem ts_syscalDone {s} {code} {bad}   : ((syscalDone s code bad)).ts = State.ts s := ts_of (fun _ hk => keep_syscalDone hk) rfl
@[simp] theorem get_tripFollow {s} {p}   {rq iq} (hq : Nat.testBit 0x600000000000000000000000000000000000000000000000000000000000000000000000000000000000000000000000000000000000000000000000000000000004000000000000000000000000000000000000000000000000000000000000000000000000000000000000000000000 (Reg.ctorIdx rq) = false) : ((tripFollow s p)).get rq iq = State.get s rq iq :=
  reg_of iq (fun _ hk => keep_tripFollow hk) rfl rfl rfl hq
@[simp] theorem dv_tripFollow {s} {p}   {rq iq} (hq : Nat.testBit 0x0 (Reg.ctorIdx rq) = false) : ((tripFollow s p)).dv rq iq = State.dv s rq iq :=
  dev_of iq (fun _ hk => keep_tripFollow hk) rfl rfl rfl hq
@[simp] theorem se_tripFollow {xq : State} {s} {p}   : SameEvents xq ((tripFollow s p)) ↔ SameEvents xq s := se_of (fun _ hk => keep_tripFollow hk) rfl
@[simp] theorem ts_tripFollow {s} {p}   : ((tripFollow s p)).ts = State.ts s := ts_of (fun _ hk => keep_tripFollow hk) rfl
@[simp] theorem get_followPeriod {s} {p}   {rq iq} (hq : Nat.testBit 0x600000000000000000000000000000000000000000000000000000000000000000000000000000000000000000000000000000000000000000000000000000000000000000000000000000000000000000000000000000000000000000000000000000000000000000000000000000000 (Reg.ctorIdx rq) = false) : ((followPeriod s p)).get rq iq = State.get s rq iq :=
  reg_of iq (fun _ hk => keep_followPeriod hk) rfl rfl rfl hq
@[simp] theorem dv_followPeriod {s} {p}   {rq iq} (hq : Nat.testBit 0x0 (Reg.ctorIdx rq) = false) : ((followPeriod s p)).dv rq iq = State.dv s rq iq :=
  dev_of iq (fun _ hk => keep_followPeriod hk) rfl rfl rfl hq
@[simp] theorem se_followPeriod {xq : State} {s} {p}   : SameEvents xq ((followPeriod s p)) ↔ SameEvents xq s := se_of (fun _ hk => keep_followPeriod hk) rfl
@[simp] theorem ts_followPeriod {s} {p}   : ((followPeriod s p)).ts = State.ts s := ts_of (fun _ hk => keep_followPeriod hk) rfl
@[simp] theorem get_convServe {s} {c}   {rq iq} (hq : Nat.testBit 0x4000000000000000000000000000000000000000000000000000000000000000000000000000000000000000000 (Reg.ctorIdx rq) = false) : ((convServe s c)).get rq iq = State.get s rq iq :=
  reg_of iq (fun _ hk => keep_convServe hk) rfl rfl rfl hq
@[simp] theorem dv_convServe {s} {c}   {rq iq} (hq : Nat.testBit 0x0 (Reg.ctorIdx rq) = false) : ((convServe s c)).dv rq iq = State.dv s rq iq :=
  dev_of iq (fun _ hk => keep_convServe hk) rfl rfl rfl hq
@[simp] theorem se_convServe {xq : State} {s} {c}   : SameEvents xq ((convServe s c)) ↔ SameEvents xq s := se_of (fun _ hk => keep_convServe hk) rfl
@[simp] theorem ts_convServe {s} {c}   : ((convServe s c)).ts = State.ts s := ts_of (fun _ hk => keep_convServe hk) rfl
@[simp] theorem get_convDomainBack {s} {c}   {rq iq} (hq : Nat.testBit 0x38001d82b800000000000000000000000000000000000000000000000000000000000000000000000000000000000000000000000000000000000000000000000000000000000c000000000000000000000000000000000000000000000010000000000000000000000000000000000000000000 (Reg.ctorIdx rq) = false) : ((convDomainBack s c)).get rq iq = State.get s rq iq :=
  reg_of iq (fun _ hk => keep_convDomainBack hk) rfl rfl rfl hq
@[simp] theorem dv_convDomainBack {s} {c}   {rq iq} (hq : Nat.testBit 0x0 (Reg.ctorIdx rq) = false) : ((convDomainBack s c)).dv rq iq = State.dv s rq iq :=
  dev_of iq (fun _ hk => keep_convDomainBack hk) rfl rfl rfl hq
@[simp] theorem se_convDomainBack {xq : State} {s} {c}   : SameEvents xq ((convDomainBack s c)) ↔ SameEvents xq s := se_of (fun _ hk => keep_convDomainBack hk) rfl
@[simp] theorem ts_convDomainBack {s} {c}   : ((convDomainBack s c)).ts = State.ts s := ts_of (fun _ hk => keep_convDomainBack hk) rfl
@[simp] theorem get_convEpochLate {s} {c}   {rq iq} (hq : Nat.testBit 0x38001d801800000000000000000000000000000000000000000000000000000000000000000000000000000000000000000000000000000000000000000000000000000000000c000000000000000000000000000000000000000000000010000000000000000000000000000000000000000000 (Reg.ctorIdx rq) = false) : ((convEpochLate s c)).get rq iq = State.get s rq iq :=
  reg_of iq (fun _ hk => keep_convEpochLate hk) rfl rfl rfl hq
@[simp] theorem dv_convEpochLate {s} {c}   {rq iq} (hq : Nat.testBit 0x0 (Reg.ctorIdx rq) = false) : ((convEpochLate s c)).dv rq iq = State.dv s rq iq :=
  dev_of iq (fun _ hk => keep_convEpochLate hk) rfl rfl rfl hq
@[simp] theorem se_convEpochLate {xq : State} {s} {c}   : SameEvents xq ((convEpochLate s c)) ↔ SameEvents xq s := se_of (fun _ hk => keep_convEpochLate hk) rfl
@[simp] theorem ts_convEpochLate {s} {c}   : ((convEpochLate s c)).ts = State.ts s := ts_of (fun _ hk => keep_convEpochLate hk) rfl
@[simp] theorem get_takeTable {s} {k}   {rq iq} (hq : Nat.testBit 0x70000000000000000000000000000000000000000000000000000000000000000000000000000000000000000000000000000000040000000000000000000000000080000000000000000000000000000000000000000000000000000000000000000000000000000000000000000000000300022b00000 (Reg.ctorIdx rq) = false) : ((takeTable s k)).get rq iq = State.get s rq iq :=
  reg_of iq (fun _ hk => keep_takeTable hk) rfl rfl rfl hq
@[simp] theorem dv_takeTable {s} {k}   {rq iq} (hq : Nat.testBit 0x0 (Reg.ctorIdx rq) = false) : ((takeTable s k)).dv rq iq = State.dv s rq iq :=
  dev_of iq (fun _ hk => keep_takeTable hk) rfl rfl rfl hq
@[simp] theorem ts_takeTable {s} {k}   : ((takeTable s k)).ts = State.ts s := ts_of (fun _ hk => keep_takeTable hk) rfl
@[simp] theorem get_scanDevelop {s} {k}   {rq iq} (hq : Nat.testBit 0x70000000000000000000000000000000000000000000000000000000000000000000000000000000000000000000000000000000040000000000000000000000000080000000000000000000000000000000000000000000000000000000000000000000000000000000000000000000000300022b00000 (Reg.ctorIdx rq) = false) : ((scanDevelop s k)).get rq iq = State.get s rq iq :=
  reg_of iq (fun _ hk => keep_scanDevelop hk) rfl rfl rfl hq
@[simp] theorem dv_scanDevelop {s} {k}   {rq iq} (hq : Nat.testBit 0xff401fff800000000000000000000000000000000000000000000000000000000000000000000000000000000000000000000000000000 (Reg.ctorIdx rq) = false) : ((scanDevelop s k)).dv rq iq = State.dv s rq iq :=
  dev_of iq (fun _ hk => keep_scanDevelop hk) rfl rfl rfl hq
@[simp] theorem ts_scanDevelop {s} {k}   : ((scanDevelop s k)).ts = State.ts s := ts_of (fun _ hk => keep_scanDevelop hk) rfl
@[simp] theorem get_chooseRate {s} {k}   {rq iq} (hq : Nat.testBit 0x10000000000000000000000000000000000000000000000000000000000000000000000000000000000000000000000000000000000 (Reg.ctorIdx rq) = false) : ((chooseRate s k)).get rq iq = State.get s rq iq :=
  reg_of iq (fun _ hk => keep_chooseRate hk) rfl rfl rfl hq
@[simp] theorem dv_chooseRate {s} {k}   {rq iq} (hq : Nat.testBit 0x0 (Reg.ctorIdx rq) = false) : ((chooseRate s k)).dv rq iq = State.dv s rq iq :=
  dev_of iq (fun _ hk => keep_chooseRate hk) rfl rfl rfl hq
@[simp] theorem se_chooseRate {xq : State} {s} {k}   : SameEvents xq ((chooseRate s k)) ↔ SameEvents xq s := se_of (fun _ hk => keep_chooseRate hk) rfl
@[simp] theorem ts_chooseRate {s} {k}   : ((chooseRate s k)).ts = State.ts s := ts_of (fun _ hk => keep_chooseRate hk) rfl
@[simp] theorem get_postThrottle {s} {i}   {rq iq} (hq : Nat.testBit 0x40000000000000000000000000000000000000000000000000000000000000000000000000000000000000000000000000000000000000000000000000300022b00000 (Reg.ctorIdx rq) = false) : ((postThrottle s i)).get rq iq = State.get s rq iq :=
  reg_of iq (fun _ hk => keep_postThrottle hk) rfl rfl rfl hq
@[simp] theorem dv_postThrottle {s} {i}   {rq iq} (hq : Nat.testBit 0x0 (Reg.ctorIdx rq) = false) : ((postThrottle s i)).dv rq iq = State.dv s rq iq :=
  dev_of iq (fun _ hk => keep_postThrottle hk) rfl rfl rfl hq
@[simp] theorem ts_postThrottle {s} {i}   : ((postThrottle s i)).ts = State.ts s := ts_of (fun _ hk => keep_postThrottle hk) rfl
@[simp] theorem get_freezeFor {s} {k}   {rq iq} (hq : Nat.testBit 0x500000000000000000000000000000000000000000000000000000000000000000000000000000000000000000000000000000040000000000000000000006000000000000000000000000000000000000000000000000000000000000000000000000000000000000000000000000000300022b00000 (Reg.ctorIdx rq) = false) : ((freezeFor s k)).get rq iq = State.get s rq iq :=
  reg_of iq (fun _ hk => keep_freezeFor hk) rfl rfl rfl hq
@[simp] theorem dv_freezeFor {s} {k}   {rq iq} (hq : Nat.testBit 0x0 (Reg.ctorIdx rq) = false) : ((freezeFor s k)).dv rq iq = State.dv s rq iq :=
  dev_of iq (fun _ hk => keep_freezeFor hk) rfl rfl rfl hq
@[simp] theorem ts_freezeFor {s} {k}   : ((freezeFor s k)).ts = State.ts s := ts_of (fun _ hk => keep_freezeFor hk) rfl
@[simp] theorem get_unfreezeFor {s} {k}   {rq iq} (hq : Nat.testBit 0xd00000000000000000000000000000000000000000000000000000000000000000000000000000000000000000000000000000000000000000000000000006000000000000000000000000000000000000000000000000000000000000000000000000000000000000000000000000000000000000000 (Reg.ctorIdx rq) = false) : ((unfreezeFor s k)).get rq iq = State.get s rq iq :=
  reg_of iq (fun _ hk => keep_unfreezeFor hk) rfl rfl rfl hq
@[simp] theorem dv_unfreezeFor {s} {k}   {rq iq} (hq : Nat.testBit 0x0 (Reg.ctorIdx rq) = false) : ((unfreezeFor s k)).dv rq iq = State.dv s rq iq :=
  dev_of iq (fun _ hk => keep_unfreezeFor hk) rfl rfl rfl hq
@[simp] theorem se_unfreezeFor {xq : State} {s} {k}   : SameEvents xq ((unfreezeFor s k)) ↔ SameEvents xq s := se_of (fun _ hk => keep_unfreezeFor hk) rfl
@[simp] theorem ts_unfreezeFor {s} {k}   : ((unfreezeFor s k)).ts = State.ts s := ts_of (fun _ hk => keep_unfreezeFor hk) rfl
@[simp] theorem get_judgeSensorRedundancy {s}   {rq iq} (hq : Nat.testBit 0x360000000000000000000000000000000000000000000000000000000000000000000000000040000000000000000000080000000000000000000000000000000000000000000000000000000000000000000000000000000000000000000000000000300022b00000 (Reg.ctorIdx rq) = false) : ((judgeSensorRedundancy s)).get rq iq = State.get s rq iq :=
  reg_of iq (fun _ hk => keep_judgeSensorRedundancy hk) rfl rfl rfl hq
@[simp] theorem dv_judgeSensorRedundancy {s}   {rq iq} (hq : Nat.testBit 0x0 (Reg.ctorIdx rq) = false) : ((judgeSensorRedundancy s)).dv rq iq = State.dv s rq iq :=
  dev_of iq (fun _ hk => keep_judgeSensorRedundancy hk) rfl rfl rfl hq
@[simp] theorem ts_judgeSensorRedundancy {s}   : ((judgeSensorRedundancy s)).ts = State.ts s := ts_of (fun _ hk => keep_judgeSensorRedundancy hk) rfl
@[simp] theorem get_setTemp {s} {k}   {rq iq} (hq : Nat.testBit 0xc000000000000000000000000360000000000000000000000000000000000000000000000000000000000000000000000000040000000000000000000080000002000000000000000000000000000000000000000000000000000000000000000000000000000000000000000000000300022b00000 (Reg.ctorIdx rq) = false) : ((setTemp s k)).get rq iq = State.get s rq iq :=
  reg_of iq (fun _ hk => keep_setTemp hk) rfl rfl rfl hq
@[simp] theorem dv_setTemp {s} {k}   {rq iq} (hq : Nat.testBit 0x0 (Reg.ctorIdx rq) = false) : ((setTemp s k)).dv rq iq = State.dv s rq iq :=
  dev_of iq (fun _ hk => keep_setTemp hk) rfl rfl rfl hq
@[simp] theorem ts_setTemp {s} {k}   : ((setTemp s k)).ts = State.ts s := ts_of (fun _ hk => keep_setTemp hk) rfl
@[simp] theorem get_judgeBlind {s} {k}   {rq iq} (hq : Nat.testBit 0xc000000008000000008060000360000000000000e00880000000300800415600000001006284081020000002f05c02c6c60004000000000000000400008000000a000000000000000000002800010000000000000000000000000000000c40000000000088000e00000483100000b00b00022b80000 (Reg.ctorIdx rq) = false) : ((judgeBlind s k)).get rq iq = State.get s rq iq :=
  reg_of iq (fun _ hk => keep_judgeBlind hk) rfl rfl rfl hq
@[simp] theorem dv_judgeBlind {s} {k}   {rq iq} (hq : Nat.testBit 0x100000000000000000000000000000000000000000001e00060000000000000000000000000000000000 (Reg.ctorIdx rq) = false) : ((judgeBlind s k)).dv rq iq = State.dv s rq iq :=
  dev_of iq (fun _ hk => keep_judgeBlind hk) rfl rfl rfl hq
@[simp] theorem ts_judgeBlind {s} {k}   : ((judgeBlind s k)).ts = State.ts s := ts_of (fun _ hk => keep_judgeBlind hk) rfl
@[simp] theorem get_judgeScan {s} {k} {t} {elec} {skip}   {rq iq} (hq : Nat.testBit 0xdbdf00000008000000008060000360000000000000e00880000000300800415600000001006284081020000002f05c02c6c60004000000000000000400008600023e000000000000000000002800010000000000000000000000000000000c40000000000088000e00000483100000b00b00022b80000 (Reg.ctorIdx rq) = false) : ((judgeScan s k t elec skip)).get rq iq = State.get s rq iq :=
  reg_of iq (fun _ hk => keep_judgeScan hk) rfl rfl rfl hq
@[simp] theorem dv_judgeScan {s} {k} {t} {elec} {skip}   {rq iq} (hq : Nat.testBit 0x100000000000000000000000000000000000000000001e00060000000000000000000000000000000000 (Reg.ctorIdx rq) = false) : ((judgeScan s k t elec skip)).dv rq iq = State.dv s rq iq :=
  dev_of iq (fun _ hk => keep_judgeScan hk) rfl rfl rfl hq
@[simp] theorem ts_judgeScan {s} {k} {t} {elec} {skip}   : ((judgeScan s k t elec skip)).ts = State.ts s := ts_of (fun _ hk => keep_judgeScan hk) rfl
@[simp] theorem get_scanResult {s} {k} {a} {b} {c} {ovr}   {rq iq} (hq : Nat.testBit 0xdbdf00000008000000008060000360000000000000e00880000000300800415600000001006284081020000002f05c02c6c600040000000000000004000086000a3e000000000000000000002800010000000000000000000000000000000c40000000000088000e00000483100000b00b00022b80000 (Reg.ctorIdx rq) = false) : ((scanResult s k a b c ovr)).get rq iq = State.get s rq iq :=
  reg_of iq (fun _ hk => keep_scanResult hk) rfl rfl rfl hq
@[simp] theorem dv_scanResult {s} {k} {a} {b} {c} {ovr}   {rq iq} (hq : Nat.testBit 0x100000000000000000000000000000000000000000001e00060000000000000000000000000000000000 (Reg.ctorIdx rq) = false) : ((scanResult s k a b c ovr)).dv rq iq = State.dv s rq iq :=
  dev_of iq (fun _ hk => keep_scanResult hk) rfl rfl rfl hq
@[simp] theorem ts_scanResult {s} {k} {a} {b} {c} {ovr}   : ((scanResult s k a b c ovr)).ts = State.ts s := ts_of (fun _ hk => keep_scanResult hk) rfl
@[simp] theorem get_scanVirtual {s} {k}   {rq iq} (hq : Nat.testBit 0xdbdf00000008000000008060000360000000000000e00880000000300800415600000001006284081020000002f05c02c6c60004000000000000000400008600023e000000000000000000002800010000000000000000000000000000000c40000000000088000e00000483100000b00b00022b80000 (Reg.ctorIdx rq) = false) : ((scanVirtual s k)).get rq iq = State.get s rq iq :=
  reg_of iq (fun _ hk => keep_scanVirtual hk) rfl rfl rfl hq
@[simp] theorem dv_scanVirtual {s} {k}   {rq iq} (hq : Nat.testBit 0x100000000000000000000000000000000000000000001e00060000000000000000000000000000000000 (Reg.ctorIdx rq) = false) : ((scanVirtual s k)).dv rq iq = State.dv s rq iq :=
  dev_of iq (fun _ hk => keep_scanVirtual hk) rfl rfl rfl hq
@[simp] theorem ts_scanVirtual {s} {k}   : ((scanVirtual s k)).ts = State.ts s := ts_of (fun _ hk => keep_scanVirtual hk) rfl
@[simp] theorem get_scanMissed {s} {k}   {rq iq} (hq : Nat.testBit 0x10000000000000000000000000000000000000000000000000000000000000000000000000000000000000000000000000000000000000000000000000000000000000000000000000000000000000000000000000000000000000000000000000000000000000000000000000000000000000000000 (Reg.ctorIdx rq) = false) : ((scanMissed s k)).get rq iq = State.get s rq iq :=
  reg_of iq (fun _ hk => keep_scanMissed hk) rfl rfl rfl hq
@[simp] theorem dv_scanMissed {s} {k}   {rq iq} (hq : Nat.testBit 0x0 (Reg.ctorIdx rq) = false) : ((scanMissed s k)).dv rq iq = State.dv s rq iq :=
  dev_of iq (fun _ hk => keep_scanMissed hk) rfl rfl rfl hq
@[simp] theorem se_scanMissed {xq : State} {s} {k}   : SameEvents xq ((scanMissed s k)) ↔ SameEvents xq s := se_of (fun _ hk => keep_scanMissed hk) rfl
@[simp] theorem ts_scanMissed {s} {k}   : ((scanMissed s k)).ts = State.ts s := ts_of (fun _ hk => keep_scanMissed hk) rfl
@[simp] theorem get_scanDue {s k}  {rq iq} (hq : Nat.testBit 0x70dfdf0000000b600000008060000360000000000000e00880000000300800415600000001006284081020000002f05c02c6c6000400000000000000040000860002be000000000004000000002800010000000000000000000000000000000c40000000000088000e00000483100000b00b00022b80000 (Reg.ctorIdx rq) = false) : ((scanDue s k)).get rq iq = State.get s rq iq :=
  reg_of iq (fun _ hk => keep_scanDue hk) rfl rfl rfl hq
@[simp] theorem dv_scanDue {s k}  {rq iq} (hq : Nat.testBit 0xff401fff800000000000000000100000000000000000000000000000000000000000001e00060000000000000000000000000000000000 (Reg.ctorIdx rq) = false) : ((scanDue s k)).dv rq iq = State.dv s rq iq :=
  dev_of iq (fun _ hk => keep_scanDue hk) rfl rfl rfl hq
@[simp] theorem ts_scanDue {s k}  : ((scanDue s k)).ts = State.ts s := ts_of (fun _ hk => keep_scanDue hk) rfl
@[simp] theorem get_noScan {s} {k}   {rq iq} (hq : Nat.testBit 0x520000000000000000000000000000000000000000000000000000000000000000000000000000000000000000000000000000040000000000000000000006000000000000000000000000000000000000000000000000000000000000000000000000000000000000000000000000000300022b00000 (Reg.ctorIdx rq) = false) : ((noScan s k)).get rq iq = State.get s rq iq :=
  reg_of iq (fun _ hk => keep_noScan hk) rfl rfl rfl hq
@[simp] theorem dv_noScan {s} {k}   {rq iq} (hq : Nat.testBit 0x0 (Reg.ctorIdx rq) = false) : ((noScan s k)).dv rq iq = State.dv s rq iq :=
  dev_of iq (fun _ hk => keep_noScan hk) rfl rfl rfl hq
@[simp] theorem ts_noScan {s} {k}   : ((noScan s k)).ts = State.ts s := ts_of (fun _ hk => keep_noScan hk) rfl
@[simp] theorem get_sensorSuspect {s} {k}   {rq iq} (hq : Nat.testBit 0xc00000000000000000000000036000000000000000000000000000000000000000000000000000000000000000000000000004000000000000000000008000001a000000000000000000000000000000000000000000000000000000000000000000000000000000000000000000000300022b00000 (Reg.ctorIdx rq) = false) : ((sensorSuspect s k)).get rq iq = State.get s rq iq :=
  reg_of iq (fun _ hk => keep_sensorSuspect hk) rfl rfl rfl hq
@[simp] theorem dv_sensorSuspect {s} {k}   {rq iq} (hq : Nat.testBit 0x0 (Reg.ctorIdx rq) = false) : ((sensorSuspect s k)).dv rq iq = State.dv s rq iq :=
  dev_of iq (fun _ hk => keep_sensorSuspect hk) rfl rfl rfl hq
@[simp] theorem ts_sensorSuspect {s} {k}   : ((sensorSuspect s k)).ts = State.ts s := ts_of (fun _ hk => keep_sensorSuspect hk) rfl
@[simp] theorem get_sensorFailed {s} {k}   {rq iq} (hq : Nat.testBit 0x50f000000008000000008060700360000000000000e00880000000300800415600000001006284081020000002f05c02c6c60004006000000000000400018600005a000000000000000000002800010000000000000000000000000000000c40000000000088000e00000483100000b00b00022b80000 (Reg.ctorIdx rq) = false) : ((sensorFailed s k)).get rq iq = State.get s rq iq :=
  reg_of iq (fun _ hk => keep_sensorFailed hk) rfl rfl rfl hq
@[simp] theorem dv_sensorFailed {s} {k}   {rq iq} (hq : Nat.testBit 0x100000000000000000000000000000000000000000001e00060000000000000000000000000000000000 (Reg.ctorIdx rq) = false) : ((sensorFailed s k)).dv rq iq = State.dv s rq iq :=
  dev_of iq (fun _ hk => keep_sensorFailed hk) rfl rfl rfl hq
@[simp] theorem ts_sensorFailed {s} {k}   : ((sensorFailed s k)).ts = State.ts s := ts_of (fun _ hk => keep_sensorFailed hk) rfl
@[simp] theorem get_sensorSubstituted {s} {k}   {rq iq} (hq : Nat.testBit 0xd0c00000000000000000000000036000000000000000000000000000000000000000000000000000000000000000000000000004000000000000000000008600001a000000000000000000000000000000000000000000000000000000000000000000000000000000000000000000000300022b00000 (Reg.ctorIdx rq) = false) : ((sensorSubstituted s k)).get rq iq = State.get s rq iq :=
  reg_of iq (fun _ hk => keep_sensorSubstituted hk) rfl rfl rfl hq
@[simp] theorem dv_sensorSubstituted {s} {k}   {rq iq} (hq : Nat.testBit 0x0 (Reg.ctorIdx rq) = false) : ((sensorSubstituted s k)).dv rq iq = State.dv s rq iq :=
  dev_of iq (fun _ hk => keep_sensorSubstituted hk) rfl rfl rfl hq
@[simp] theorem ts_sensorSubstituted {s} {k}   : ((sensorSubstituted s k)).ts = State.ts s := ts_of (fun _ hk => keep_sensorSubstituted hk) rfl
@[simp] theorem get_sensorRecovered {s} {k}   {rq iq} (hq : Nat.testBit 0xd0ca0000000000000000000000036000000000000000000000000000000000000000000000000000000000000000000000000004000000000000000000008600001a000000000000000000000000000000000000000000000000000000000000000000000000000000000000000000000300022b00000 (Reg.ctorIdx rq) = false) : ((sensorRecovered s k)).get rq iq = State.get s rq iq :=
  reg_of iq (fun _ hk => keep_sensorRecovered hk) rfl rfl rfl hq
@[simp] theorem dv_sensorRecovered {s} {k}   {rq iq} (hq : Nat.testBit 0x0 (Reg.ctorIdx rq) = false) : ((sensorRecovered s k)).dv rq iq = State.dv s rq iq :=
  dev_of iq (fun _ hk => keep_sensorRecovered hk) rfl rfl rfl hq
@[simp] theorem ts_sensorRecovered {s} {k}   : ((sensorRecovered s k)).ts = State.ts s := ts_of (fun _ hk => keep_sensorRecovered hk) rfl
@[simp] theorem get_writeSnsEn {s} {k} {on}   {rq iq} (hq : Nat.testBit 0xd9db0000000000000000000000036000000000000000000000000000000000000000000000000000000000000000000000000004000000000000000000008600000e000800000000000000000000000000000000000000000000000000000000000000000000000000000000000000000300022b00000 (Reg.ctorIdx rq) = false) : ((writeSnsEn s k on)).get rq iq = State.get s rq iq :=
  reg_of iq (fun _ hk => keep_writeSnsEn hk) rfl rfl rfl hq
@[simp] theorem dv_writeSnsEn {s} {k} {on}   {rq iq} (hq : Nat.testBit 0x0 (Reg.ctorIdx rq) = false) : ((writeSnsEn s k on)).dv rq iq = State.dv s rq iq :=
  dev_of iq (fun _ hk => keep_writeSnsEn hk) rfl rfl rfl hq
@[simp] theorem ts_writeSnsEn {s} {k} {on}   : ((writeSnsEn s k on)).ts = State.ts s := ts_of (fun _ hk => keep_writeSnsEn hk) rfl
@[simp] theorem get_setStep {s} {i} {n}   {rq iq} (hq : Nat.testBit 0x200000000000000000000000000000000000000000000000000000000000000000000000000000000000000000000000000000040000000000000000000011000000000000000000000000000000000000000000000000000000000000000000000000000000000000000000000000000300022b00000 (Reg.ctorIdx rq) = false) : ((setStep s i n)).get rq iq = State.get s rq iq :=
  reg_of iq (fun _ hk => keep_setStep hk) rfl rfl rfl hq
@[simp] theorem dv_setStep {s} {i} {n}   {rq iq} (hq : Nat.testBit 0x0 (Reg.ctorIdx rq) = false) : ((setStep s i n)).dv rq iq = State.dv s rq iq :=
  dev_of iq (fun _ hk => keep_setStep hk) rfl rfl rfl hq
@[simp] theorem ts_setStep {s} {i} {n}   : ((setStep s i n)).ts = State.ts s := ts_of (fun _ hk => keep_setStep hk) rfl
@[simp] theorem get_throttleSlot {s} {i}   {rq iq} (hq : Nat.testBit 0x200000000000000000000000000000000000000000000000000000000000000000000000000000000000000000000000000000040000000000000000000019000000000000000000000000000000000000000000000000000000000000000000000000000000000000000000000000000300022b00000 (Reg.ctorIdx rq) = false) : ((throttleSlot s i)).get rq iq = State.get s rq iq :=
  reg_of iq (fun _ hk => keep_throttleSlot hk) rfl rfl rfl hq
@[simp] theorem dv_throttleSlot {s} {i}   {rq iq} (hq : Nat.testBit 0x0 (Reg.ctorIdx rq) = false) : ((throttleSlot s i)).dv rq iq = State.dv s rq iq :=
  dev_of iq (fun _ hk => keep_throttleSlot hk) rfl rfl rfl hq
@[simp] theorem ts_throttleSlot {s} {i}   : ((throttleSlot s i)).ts = State.ts s := ts_of (fun _ hk => keep_throttleSlot hk) rfl
@[simp] theorem get_throttleTick {s}   {rq iq} (hq : Nat.testBit 0x200000000000000000000000000000000000000000000000000000000000000000000000000000000000000000000000000000040000000000000000000019000000000000000000000000000000000000000000000000000000000000000000000000000000000000000000000000000300022b00000 (Reg.ctorIdx rq) = false) : ((throttleTick s)).get rq iq = State.get s rq iq :=
  reg_of iq (fun _ hk => keep_throttleTick hk) rfl rfl rfl hq
@[simp] theorem dv_throttleTick {s}   {rq iq} (hq : Nat.testBit 0x0 (Reg.ctorIdx rq) = false) : ((throttleTick s)).dv rq iq = State.dv s rq iq :=
  dev_of iq (fun _ hk => keep_throttleTick hk) rfl rfl rfl hq
@[simp] theorem ts_throttleTick {s}   : ((throttleTick s)).ts = State.ts s := ts_of (fun _ hk => keep_throttleTick hk) rfl
@[simp] theorem get_developThermalLimit {s} {i}   {rq iq} (hq : Nat.testBit 0x20000000000000000000000000000000000000000000000000000000000000000000000000000000000000000000000000000000000000000 (Reg.ctorIdx rq) = false) : ((developThermalLimit s i)).get rq iq = State.get s rq iq :=
  reg_of iq (fun _ hk => keep_developThermalLimit hk) rfl rfl rfl hq
@[simp] theorem dv_developThermalLimit {s} {i}   {rq iq} (hq : Nat.testBit 0x0 (Reg.ctorIdx rq) = false) : ((developThermalLimit s i)).dv rq iq = State.dv s rq iq :=
  dev_of iq (fun _ hk => keep_developThermalLimit hk) rfl rfl rfl hq
@[simp] theorem se_developThermalLimit {xq : State} {s} {i}   : SameEvents xq ((developThermalLimit s i)) ↔ SameEvents xq s := se_of (fun _ hk => keep_developThermalLimit hk) rfl
@[simp] theorem ts_developThermalLimit {s} {i}   : ((developThermalLimit s i)).ts = State.ts s := ts_of (fun _ hk => keep_developThermalLimit hk) rfl
@[simp] theorem get_holdExpiry {s} {i}   {rq iq} (hq : Nat.testBit 0x400000000000000000000000000000000000000000000000000000000000000000000000000000000000000000000000000000000000000000000000000004000000000000000000000000000000000000000000000000000000000000000000000000000000000000000000000000000000000000000 (Reg.ctorIdx rq) = false) : ((holdExpiry s i)).get rq iq = State.get s rq iq :=
  reg_of iq (fun _ hk => keep_holdExpiry hk) rfl rfl rfl hq
@[simp] theorem dv_holdExpiry {s} {i}   {rq iq} (hq : Nat.testBit 0x0 (Reg.ctorIdx rq) = false) : ((holdExpiry s i)).dv rq iq = State.dv s rq iq :=
  dev_of iq (fun _ hk => keep_holdExpiry hk) rfl rfl rfl hq
@[simp] theorem se_holdExpiry {xq : State} {s} {i}   : SameEvents xq ((holdExpiry s i)) ↔ SameEvents xq s := se_of (fun _ hk => keep_holdExpiry hk) rfl
@[simp] theorem ts_holdExpiry {s} {i}   : ((holdExpiry s i)).ts = State.ts s := ts_of (fun _ hk => keep_holdExpiry hk) rfl
@[simp] theorem get_postBudget {s} {g} {longer} {per}   {rq iq} (hq : Nat.testBit 0x40000000000000000000000000000000000000000000000000000000000000000000000000000000000000000000000000000000000000000000000000300022b00000 (Reg.ctorIdx rq) = false) : ((postBudget s g longer per)).get rq iq = State.get s rq iq :=
  reg_of iq (fun _ hk => keep_postBudget hk) rfl rfl rfl hq
@[simp] theorem dv_postBudget {s} {g} {longer} {per}   {rq iq} (hq : Nat.testBit 0x0 (Reg.ctorIdx rq) = false) : ((postBudget s g longer per)).dv rq iq = State.dv s rq iq :=
  dev_of iq (fun _ hk => keep_postBudget hk) rfl rfl rfl hq
@[simp] theorem ts_postBudget {s} {g} {longer} {per}   : ((postBudget s g longer per)).ts = State.ts s := ts_of (fun _ hk => keep_postBudget hk) rfl
@[simp] theorem get_budgetLengthen {s}   {rq iq} (hq : Nat.testBit 0x3000000000000000000000200000000000000000000000000000000000000000000000000000000000000000000000000000000040000000000000000000000c00000000000000000000000000000000000000000000000000000000000000000000000000000000000000000000000000300022b00000 (Reg.ctorIdx rq) = false) : ((budgetLengthen s)).get rq iq = State.get s rq iq :=
  reg_of iq (fun _ hk => keep_budgetLengthen hk) rfl rfl rfl hq
@[simp] theorem dv_budgetLengthen {s}   {rq iq} (hq : Nat.testBit 0x0 (Reg.ctorIdx rq) = false) : ((budgetLengthen s)).dv rq iq = State.dv s rq iq :=
  dev_of iq (fun _ hk => keep_budgetLengthen hk) rfl rfl rfl hq
@[simp] theorem ts_budgetLengthen {s}   : ((budgetLengthen s)).ts = State.ts s := ts_of (fun _ hk => keep_budgetLengthen hk) rfl
@[simp] theorem get_budgetRestore {s}   {rq iq} (hq : Nat.testBit 0x1000000000000000000000200000000000000000000000000000000000000000000000000000000000000000000000000000000040000000000000000000000400000000000000000000000000000000000000000000000000000000000000000000000000000000000000000000000000300022b00000 (Reg.ctorIdx rq) = false) : ((budgetRestore s)).get rq iq = State.get s rq iq :=
  reg_of iq (fun _ hk => keep_budgetRestore hk) rfl rfl rfl hq
@[simp] theorem dv_budgetRestore {s}   {rq iq} (hq : Nat.testBit 0x0 (Reg.ctorIdx rq) = false) : ((budgetRestore s)).dv rq iq = State.dv s rq iq :=
  dev_of iq (fun _ hk => keep_budgetRestore hk) rfl rfl rfl hq
@[simp] theorem ts_budgetRestore {s}   : ((budgetRestore s)).ts = State.ts s := ts_of (fun _ hk => keep_budgetRestore hk) rfl
@[simp] theorem get_budgetEvaluation {s}   {rq iq} (hq : Nat.testBit 0x3000000000000000000000200000000000000000000000000000000000000000000000000000000000000000000000000000000040000000000000000000000e00000000000000000000000000000000000000000000000000000000000000000000000000000000000000000000000000300022b00000 (Reg.ctorIdx rq) = false) : ((budgetEvaluation s)).get rq iq = State.get s rq iq :=
  reg_of iq (fun _ hk => keep_budgetEvaluation hk) rfl rfl rfl hq
@[simp] theorem dv_budgetEvaluation {s}   {rq iq} (hq : Nat.testBit 0x40100000000000000000000000000000000000000000000000000000000000000000000000000000000000000000000000000000000000000 (Reg.ctorIdx rq) = false) : ((budgetEvaluation s)).dv rq iq = State.dv s rq iq :=
  dev_of iq (fun _ hk => keep_budgetEvaluation hk) rfl rfl rfl hq
@[simp] theorem ts_budgetEvaluation {s}   : ((budgetEvaluation s)).ts = State.ts s := ts_of (fun _ hk => keep_budgetEvaluation hk) rfl
@[simp] theorem get_takeSlack {s} {i} {slack}   {rq iq} (hq : Nat.testBit 0x4000000000000000000000000000000000000000000000000000000000000000040000000000000000000000000000000000000000000000000000000000000000000000000000000000000000000000000000000000000000000000000300022b00718 (Reg.ctorIdx rq) = false) : ((takeSlack s i slack)).get rq iq = State.get s rq iq :=
  reg_of iq (fun _ hk => keep_takeSlack hk) rfl rfl rfl hq
@[simp] theorem dv_takeSlack {s} {i} {slack}   {rq iq} (hq : Nat.testBit 0x0 (Reg.ctorIdx rq) = false) : ((takeSlack s i slack)).dv rq iq = State.dv s rq iq :=
  dev_of iq (fun _ hk => keep_takeSlack hk) rfl rfl rfl hq
@[simp] theorem ts_takeSlack {s} {i} {slack}   : ((takeSlack s i slack)).ts = State.ts s := ts_of (fun _ hk => keep_takeSlack hk) rfl
@[simp] theorem get_fullRate {s} {i}   {rq iq} (hq : Nat.testBit 0x300 (Reg.ctorIdx rq) = false) : ((fullRate s i)).get rq iq = State.get s rq iq :=
  reg_of iq (fun _ hk => keep_fullRate hk) rfl rfl rfl hq
@[simp] theorem dv_fullRate {s} {i}   {rq iq} (hq : Nat.testBit 0x0 (Reg.ctorIdx rq) = false) : ((fullRate s i)).dv rq iq = State.dv s rq iq :=
  dev_of iq (fun _ hk => keep_fullRate hk) rfl rfl rfl hq
@[simp] theorem se_fullRate {xq : State} {s} {i}   : SameEvents xq ((fullRate s i)) ↔ SameEvents xq s := se_of (fun _ hk => keep_fullRate hk) rfl
@[simp] theorem ts_fullRate {s} {i}   : ((fullRate s i)).ts = State.ts s := ts_of (fun _ hk => keep_fullRate hk) rfl
@[simp] theorem get_missTick {s} {i}   {rq iq} (hq : Nat.testBit 0xc00000000000000000000000000000000000000000000000000000000000000000000000000000000000000000000000000000000000000000000000000000000000000000000000000000000000000000000000000000000000000000000000000000 (Reg.ctorIdx rq) = false) : ((missTick s i)).get rq iq = State.get s rq iq :=
  reg_of iq (fun _ hk => keep_missTick hk) rfl rfl rfl hq
@[simp] theorem dv_missTick {s} {i}   {rq iq} (hq : Nat.testBit 0x0 (Reg.ctorIdx rq) = false) : ((missTick s i)).dv rq iq = State.dv s rq iq :=
  dev_of iq (fun _ hk => keep_missTick hk) rfl rfl rfl hq
@[simp] theorem se_missTick {xq : State} {s} {i}   : SameEvents xq ((missTick s i)) ↔ SameEvents xq s := se_of (fun _ hk => keep_missTick hk) rfl
@[simp] theorem ts_missTick {s} {i}   : ((missTick s i)).ts = State.ts s := ts_of (fun _ hk => keep_missTick hk) rfl
@[simp] theorem get_deadlineMiss {s} {i} {slack}   {rq iq} (hq : Nat.testBit 0xe00000000000000000000000000000000000000000000000000000000000000040000000000000000000000000000000000000000000000000000000000000000000000000000000000000000000000000000000000000000000000000300022b00800 (Reg.ctorIdx rq) = false) : ((deadlineMiss s i slack)).get rq iq = State.get s rq iq :=
  reg_of iq (fun _ hk => keep_deadlineMiss hk) rfl rfl rfl hq
@[simp] theorem dv_deadlineMiss {s} {i} {slack}   {rq iq} (hq : Nat.testBit 0x0 (Reg.ctorIdx rq) = false) : ((deadlineMiss s i slack)).dv rq iq = State.dv s rq iq :=
  dev_of iq (fun _ hk => keep_deadlineMiss hk) rfl rfl rfl hq
@[simp] theorem ts_deadlineMiss {s} {i} {slack}   : ((deadlineMiss s i slack)).ts = State.ts s := ts_of (fun _ hk => keep_deadlineMiss hk) rfl
@[simp] theorem get_engineDead {s} {e} {why}   {rq iq} (hq : Nat.testBit 0x700360000000000000180000000000000000000000000000000000000000000000000000000200040060000000000018020180000000000000000000000000000000000000000000000000000000000000000000000000000000000000000000000000100300022b00000 (Reg.ctorIdx rq) = false) : ((engineDead s e why)).get rq iq = State.get s rq iq :=
  reg_of iq (fun _ hk => keep_engineDead hk) rfl rfl rfl hq
@[simp] theorem dv_engineDead {s} {e} {why}   {rq iq} (hq : Nat.testBit 0x0 (Reg.ctorIdx rq) = false) : ((engineDead s e why)).dv rq iq = State.dv s rq iq :=
  dev_of iq (fun _ hk => keep_engineDead hk) rfl rfl rfl hq
@[simp] theorem ts_engineDead {s} {e} {why}   : ((engineDead s e why)).ts = State.ts s := ts_of (fun _ hk => keep_engineDead hk) rfl
@[simp] theorem get_startBist {s} {e}   {rq iq} (hq : Nat.testBit 0x360000000000000100000000000000000000000000000000000000000000000000000000200040000000000000000000080000000000000000000000000000000000000000000000000000000000000000000000000000000000000000000000000100300022b00000 (Reg.ctorIdx rq) = false) : ((startBist s e)).get rq iq = State.get s rq iq :=
  reg_of iq (fun _ hk => keep_startBist hk) rfl rfl rfl hq
@[simp] theorem dv_startBist {s} {e}   {rq iq} (hq : Nat.testBit 0x0 (Reg.ctorIdx rq) = false) : ((startBist s e)).dv rq iq = State.dv s rq iq :=
  dev_of iq (fun _ hk => keep_startBist hk) rfl rfl rfl hq
@[simp] theorem ts_startBist {s} {e}   : ((startBist s e)).ts = State.ts s := ts_of (fun _ hk => keep_startBist hk) rfl
@[simp] theorem get_wantMigration {s} {i} {target} {kills}   {rq iq} (hq : Nat.testBit 0x58000000000000000000000000000000000000000000000000000000000000000000000000000000000000000000000000000000000000000000000000000000000000000000000000000000000000000000000000000000000000000000000000000 (Reg.ctorIdx rq) = false) : ((wantMigration s i target kills)).get rq iq = State.get s rq iq :=
  reg_of iq (fun _ hk => keep_wantMigration hk) rfl rfl rfl hq
@[simp] theorem dv_wantMigration {s} {i} {target} {kills}   {rq iq} (hq : Nat.testBit 0x0 (Reg.ctorIdx rq) = false) : ((wantMigration s i target kills)).dv rq iq = State.dv s rq iq :=
  dev_of iq (fun _ hk => keep_wantMigration hk) rfl rfl rfl hq
@[simp] theorem se_wantMigration {xq : State} {s} {i} {target} {kills}   : SameEvents xq ((wantMigration s i target kills)) ↔ SameEvents xq s := se_of (fun _ hk => keep_wantMigration hk) rfl
@[simp] theorem ts_wantMigration {s} {i} {target} {kills}   : ((wantMigration s i target kills)).ts = State.ts s := ts_of (fun _ hk => keep_wantMigration hk) rfl
@[simp] theorem get_migrateSlot {s} {i}   {rq iq} (hq : Nat.testBit 0x58000000000000000000000000000000000000000000000000000000000000000000000000000000800000000000000000000000000000000000000000000000000000000000000000000000000000000000000000000000000000000000000000000 (Reg.ctorIdx rq) = false) : ((migrateSlot s i).1).get rq iq = State.get s rq iq :=
  reg_of iq (fun _ hk => keep_migrateSlot hk) rfl rfl rfl hq
@[simp] theorem dv_migrateSlot {s} {i}   {rq iq} (hq : Nat.testBit 0x0 (Reg.ctorIdx rq) = false) : ((migrateSlot s i).1).dv rq iq = State.dv s rq iq :=
  dev_of iq (fun _ hk => keep_migrateSlot hk) rfl rfl rfl hq
@[simp] theorem se_migrateSlot {xq : State} {s} {i}   : SameEvents xq ((migrateSlot s i).1) ↔ SameEvents xq s := se_of (fun _ hk => keep_migrateSlot hk) rfl
@[simp] theorem ts_migrateSlot {s} {i}   : ((migrateSlot s i).1).ts = State.ts s := ts_of (fun _ hk => keep_migrateSlot hk) rfl
@[simp] theorem get_migrateMask {s mask}  {rq iq} (hq : Nat.testBit 0x58000000000000000000000000000000000000000000000000000000000000000000000000000000800000000000000000000000000000000000000000000000000000000000000000000000000000000000000000000000000000000000000000000 (Reg.ctorIdx rq) = false) : ((migrateMask s mask).1).get rq iq = State.get s rq iq :=
  reg_of iq (fun _ hk => keep_migrateMask hk) rfl rfl rfl hq
@[simp] theorem dv_migrateMask {s mask}  {rq iq} (hq : Nat.testBit 0x0 (Reg.ctorIdx rq) = false) : ((migrateMask s mask).1).dv rq iq = State.dv s rq iq :=
  dev_of iq (fun _ hk => keep_migrateMask hk) rfl rfl rfl hq
@[simp] theorem se_migrateMask {xq : State} {s mask}  : SameEvents xq ((migrateMask s mask).1) ↔ SameEvents xq s := se_of (fun _ hk => keep_migrateMask hk) rfl
@[simp] theorem ts_migrateMask {s mask}  : ((migrateMask s mask).1).ts = State.ts s := ts_of (fun _ hk => keep_migrateMask hk) rfl
@[simp] theorem get_coldStart {s} {i}   {rq iq} (hq : Nat.testBit 0x4000000000000000000000000000000000000000000000000001000684080000000000e00000000000040000000000000000010000000000000000000000000000000000000000000000000000000000000000000000000000000000000e00000000000000000300022b00000 (Reg.ctorIdx rq) = false) : ((coldStart s i)).get rq iq = State.get s rq iq :=
  reg_of iq (fun _ hk => keep_coldStart hk) rfl rfl rfl hq
@[simp] theorem dv_coldStart {s} {i}   {rq iq} (hq : Nat.testBit 0x0 (Reg.ctorIdx rq) = false) : ((coldStart s i)).dv rq iq = State.dv s rq iq :=
  dev_of iq (fun _ hk => keep_coldStart hk) rfl rfl rfl hq
@[simp] theorem ts_coldStart {s} {i}   : ((coldStart s i)).ts = State.ts s := ts_of (fun _ hk => keep_coldStart hk) rfl
@[simp] theorem get_migrationCutover {s} {i}   {rq iq} (hq : Nat.testBit 0x40007003600000000057f8f80000000000000000415000000001000684080000000000e0000000020004006000000000001c038180000000000000000000000000000000000000000000000000000000000000000c40000000000000000e000000000000001c0300022b00000 (Reg.ctorIdx rq) = false) : ((migrationCutover s i)).get rq iq = State.get s rq iq :=
  reg_of iq (fun _ hk => keep_migrationCutover hk) rfl rfl rfl hq
@[simp] theorem dv_migrationCutover {s} {i}   {rq iq} (hq : Nat.testBit 0x0 (Reg.ctorIdx rq) = false) : ((migrationCutover s i)).dv rq iq = State.dv s rq iq :=
  dev_of iq (fun _ hk => keep_migrationCutover hk) rfl rfl rfl hq
@[simp] theorem ts_migrationCutover {s} {i}   : ((migrationCutover s i)).ts = State.ts s := ts_of (fun _ hk => keep_migrationCutover hk) rfl
@[simp] theorem get_coldTakeover {s} {i}   {rq iq} (hq : Nat.testBit 0x20000000000000000000000000000000000000000000000000000000000000000000000000000000000000000000000000000000000000000000000000000000000000000000000000000000000000000000000000000000000000000000000000000 (Reg.ctorIdx rq) = false) : ((coldTakeover s i)).get rq iq = State.get s rq iq :=
  reg_of iq (fun _ hk => keep_coldTakeover hk) rfl rfl rfl hq
@[simp] theorem dv_coldTakeover {s} {i}   {rq iq} (hq : Nat.testBit 0x0 (Reg.ctorIdx rq) = false) : ((coldTakeover s i)).dv rq iq = State.dv s rq iq :=
  dev_of iq (fun _ hk => keep_coldTakeover hk) rfl rfl rfl hq
@[simp] theorem se_coldTakeover {xq : State} {s} {i}   : SameEvents xq ((coldTakeover s i)) ↔ SameEvents xq s := se_of (fun _ hk => keep_coldTakeover hk) rfl
@[simp] theorem ts_coldTakeover {s} {i}   : ((coldTakeover s i)).ts = State.ts s := ts_of (fun _ hk => keep_coldTakeover hk) rfl
@[simp] theorem get_missMigration {s} {i}   {rq iq} (hq : Nat.testBit 0x8000000008060000360000000000458e00880000000300800415600000001006284081020000002f05c02c6c600040000000000000004000080000000000000000000000000002800010000000000000000000000000000000c40000000000088000e00000483100000b00b00022b80000 (Reg.ctorIdx rq) = false) : ((missMigration s i)).get rq iq = State.get s rq iq :=
  reg_of iq (fun _ hk => keep_missMigration hk) rfl rfl rfl hq
@[simp] theorem dv_missMigration {s} {i}   {rq iq} (hq : Nat.testBit 0x100000000000000000000000000000000000000000001e00060000000000000000000000000000000000 (Reg.ctorIdx rq) = false) : ((missMigration s i)).dv rq iq = State.dv s rq iq :=
  dev_of iq (fun _ hk => keep_missMigration hk) rfl rfl rfl hq
@[simp] theorem ts_missMigration {s} {i}   : ((missMigration s i)).ts = State.ts s := ts_of (fun _ hk => keep_missMigration hk) rfl
@[simp] theorem get_noPostOff {s} {i}   {rq iq} (hq : Nat.testBit 0x8000000008060000360000000000000e00800000000300800415600000001006284081020000002f05c02c6c600040000000000000004000080000000000000000000000000002800010000000000000000000000000000000c40000000000088000e00000483100000b00b00022b80000 (Reg.ctorIdx rq) = false) : ((noPostOff s i)).get rq iq = State.get s rq iq :=
  reg_of iq (fun _ hk => keep_noPostOff hk) rfl rfl rfl hq
@[simp] theorem dv_noPostOff {s} {i}   {rq iq} (hq : Nat.testBit 0x100000000000000000000000000000000000000000001e00060000000000000000000000000000000000 (Reg.ctorIdx rq) = false) : ((noPostOff s i)).dv rq iq = State.dv s rq iq :=
  dev_of iq (fun _ hk => keep_noPostOff hk) rfl rfl rfl hq
@[simp] theorem ts_noPostOff {s} {i}   : ((noPostOff s i)).ts = State.ts s := ts_of (fun _ hk => keep_noPostOff hk) rfl
@[simp] theorem get_stripBegin {s} {i}   {rq iq} (hq : Nat.testBit 0x360000000000004e00000000000000000000000000000000000000000000000000000000200040000000000000006000080000000000000000000000000000000000000000000000000000000000000000000000000000000000000000000000000100300022b00000 (Reg.ctorIdx rq) = false) : ((stripBegin s i)).get rq iq = State.get s rq iq :=
  reg_of iq (fun _ hk => keep_stripBegin hk) rfl rfl rfl hq
@[simp] theorem dv_stripBegin {s} {i}   {rq iq} (hq : Nat.testBit 0x0 (Reg.ctorIdx rq) = false) : ((stripBegin s i)).dv rq iq = State.dv s rq iq :=
  dev_of iq (fun _ hk => keep_stripBegin hk) rfl rfl rfl hq
@[simp] theorem ts_stripBegin {s} {i}   : ((stripBegin s i)).ts = State.ts s := ts_of (fun _ hk => keep_stripBegin hk) rfl
@[simp] theorem get_stripStart {s}   {rq iq} (hq : Nat.testBit 0x360000000000006e00000000000000000000000000000000000000000000000000000000200040000000000000006000080000000000000000000000000000000000000000000000000000000000000000000000000000000000000000000000000100300022b00000 (Reg.ctorIdx rq) = false) : ((stripStart s)).get rq iq = State.get s rq iq :=
  reg_of iq (fun _ hk => keep_stripStart hk) rfl rfl rfl hq
@[simp] theorem dv_stripStart {s}   {rq iq} (hq : Nat.testBit 0x0 (Reg.ctorIdx rq) = false) : ((stripStart s)).dv rq iq = State.dv s rq iq :=
  dev_of iq (fun _ hk => keep_stripStart hk) rfl rfl rfl hq
@[simp] theorem ts_stripStart {s}   : ((stripStart s)).ts = State.ts s := ts_of (fun _ hk => keep_stripStart hk) rfl
@[simp] theorem get_missStrip {s} {i}   {rq iq} (hq : Nat.testBit 0x360000000000204e00000000000000000000000000000000000000000000000000000000200040000000000000006000080000000000000000000000000000000000000000000000000000000000000000000000000000000000000000000000000100300022b00000 (Reg.ctorIdx rq) = false) : ((missStrip s i)).get rq iq = State.get s rq iq :=
  reg_of iq (fun _ hk => keep_missStrip hk) rfl rfl rfl hq
@[simp] theorem dv_missStrip {s} {i}   {rq iq} (hq : Nat.testBit 0x0 (Reg.ctorIdx rq) = false) : ((missStrip s i)).dv rq iq = State.dv s rq iq :=
  dev_of iq (fun _ hk => keep_missStrip hk) rfl rfl rfl hq
@[simp] theorem ts_missStrip {s} {i}   : ((missStrip s i)).ts = State.ts s := ts_of (fun _ hk => keep_missStrip hk) rfl
@[simp] theorem get_stripMismatch {s} {k}   {rq iq} (hq : Nat.testBit 0x360000000000001900000000000000000000000000000000000000000000000000000000200040000000000000000002080000000000000000000000000000000000000000000000000000000000000000000000000000000000000000000000000100300022b00000 (Reg.ctorIdx rq) = false) : ((stripMismatch s k)).get rq iq = State.get s rq iq :=
  reg_of iq (fun _ hk => keep_stripMismatch hk) rfl rfl rfl hq
@[simp] theorem dv_stripMismatch {s} {k}   {rq iq} (hq : Nat.testBit 0x0 (Reg.ctorIdx rq) = false) : ((stripMismatch s k)).dv rq iq = State.dv s rq iq :=
  dev_of iq (fun _ hk => keep_stripMismatch hk) rfl rfl rfl hq
@[simp] theorem ts_stripMismatch {s} {k}   : ((stripMismatch s k)).ts = State.ts s := ts_of (fun _ hk => keep_stripMismatch hk) rfl
@[simp] theorem get_stripCycle {s} {i} {differs}   {rq iq} (hq : Nat.testBit 0x360000000000001d00000000000000000000000000000000000000000000000000000000200040000000000000000002080000000000000000000000000000000000000000000000000000000000000000000000000000000000000000000000000100300022b00000 (Reg.ctorIdx rq) = false) : ((stripCycle s i differs)).get rq iq = State.get s rq iq :=
  reg_of iq (fun _ hk => keep_stripCycle hk) rfl rfl rfl hq
@[simp] theorem dv_stripCycle {s} {i} {differs}   {rq iq} (hq : Nat.testBit 0x0 (Reg.ctorIdx rq) = false) : ((stripCycle s i differs)).dv rq iq = State.dv s rq iq :=
  dev_of iq (fun _ hk => keep_stripCycle hk) rfl rfl rfl hq
@[simp] theorem ts_stripCycle {s} {i} {differs}   : ((stripCycle s i differs)).ts = State.ts s := ts_of (fun _ hk => keep_stripCycle hk) rfl
@[simp] theorem get_stripComplete {s} {equal}   {rq iq} (hq : Nat.testBit 0x360000000000001f00000000000000000000000000000000000000000000000000000000200040000000000000004003080000000000000000000000000000000000000000000000000000000000000000000000000000000000000000000000000100300022b00000 (Reg.ctorIdx rq) = false) : ((stripComplete s equal)).get rq iq = State.get s rq iq :=
  reg_of iq (fun _ hk => keep_stripComplete hk) rfl rfl rfl hq
@[simp] theorem dv_stripComplete {s} {equal}   {rq iq} (hq : Nat.testBit 0x0 (Reg.ctorIdx rq) = false) : ((stripComplete s equal)).dv rq iq = State.dv s rq iq :=
  dev_of iq (fun _ hk => keep_stripComplete hk) rfl rfl rfl hq
@[simp] theorem ts_stripComplete {s} {equal}   : ((stripComplete s equal)).ts = State.ts s := ts_of (fun _ hk => keep_stripComplete hk) rfl
@[simp] theorem get_voteDone {s} {v}   {rq iq} (hq : Nat.testBit 0x700360000000000058f8000000000000000000000000000000000000000000000000000000020004006000000000001c024180000000000000000000000000000000000000000000000000000000000000000000000000000000000000000000000000100300022b00000 (Reg.ctorIdx rq) = false) : ((voteDone s v)).get rq iq = State.get s rq iq :=
  reg_of iq (fun _ hk => keep_voteDone hk) rfl rfl rfl hq
@[simp] theorem dv_voteDone {s} {v}   {rq iq} (hq : Nat.testBit 0x0 (Reg.ctorIdx rq) = false) : ((voteDone s v)).dv rq iq = State.dv s rq iq :=
  dev_of iq (fun _ hk => keep_voteDone hk) rfl rfl rfl hq
@[simp] theorem ts_voteDone {s} {v}   : ((voteDone s v)).ts = State.ts s := ts_of (fun _ hk => keep_voteDone hk) rfl
@[simp] theorem get_bistDone {s} {e} {pass}   {rq iq} (hq : Nat.testBit 0x700360000000000058f8000000000000000000000000000000000000000000000000000000020004006000000000001c020180000000000000000000000000000000000000000000000000000000000000000000000000000000000000000000000000100300022b00000 (Reg.ctorIdx rq) = false) : ((bistDone s e pass)).get rq iq = State.get s rq iq :=
  reg_of iq (fun _ hk => keep_bistDone hk) rfl rfl rfl hq
@[simp] theorem dv_bistDone {s} {e} {pass}   {rq iq} (hq : Nat.testBit 0x0 (Reg.ctorIdx rq) = false) : ((bistDone s e pass)).dv rq iq = State.dv s rq iq :=
  dev_of iq (fun _ hk => keep_bistDone hk) rfl rfl rfl hq
@[simp] theorem ts_bistDone {s} {e} {pass}   : ((bistDone s e pass)).ts = State.ts s := ts_of (fun _ hk => keep_bistDone hk) rfl
@[simp] theorem get_mapStatus {s}   {rq iq} (hq : Nat.testBit 0x19000000000000000000000000000000000000000000000000000000000000000000000000000000000000000000000000000000000000000000000000000000000000000 (Reg.ctorIdx rq) = false) : ((mapStatus s)).get rq iq = State.get s rq iq :=
  reg_of iq (fun _ hk => keep_mapStatus hk) rfl rfl rfl hq
@[simp] theorem dv_mapStatus {s}   {rq iq} (hq : Nat.testBit 0x0 (Reg.ctorIdx rq) = false) : ((mapStatus s)).dv rq iq = State.dv s rq iq :=
  dev_of iq (fun _ hk => keep_mapStatus hk) rfl rfl rfl hq
@[simp] theorem se_mapStatus {xq : State} {s}   : SameEvents xq ((mapStatus s)) ↔ SameEvents xq s := se_of (fun _ hk => keep_mapStatus hk) rfl
@[simp] theorem ts_mapStatus {s}   : ((mapStatus s)).ts = State.ts s := ts_of (fun _ hk => keep_mapStatus hk) rfl
@[simp] theorem get_portmapApply {s}   {rq iq} (hq : Nat.testBit 0xff000000000000000000000000000000000000000000000000000000000000000000000000000000000000000000000000000000000000000000000000000000000000000 (Reg.ctorIdx rq) = false) : ((portmapApply s)).get rq iq = State.get s rq iq :=
  reg_of iq (fun _ hk => keep_portmapApply hk) rfl rfl rfl hq
@[simp] theorem dv_portmapApply {s}   {rq iq} (hq : Nat.testBit 0x0 (Reg.ctorIdx rq) = false) : ((portmapApply s)).dv rq iq = State.dv s rq iq :=
  dev_of iq (fun _ hk => keep_portmapApply hk) rfl rfl rfl hq
@[simp] theorem se_portmapApply {xq : State} {s}   : SameEvents xq ((portmapApply s)) ↔ SameEvents xq s := se_of (fun _ hk => keep_portmapApply hk) rfl
@[simp] theorem ts_portmapApply {s}   : ((portmapApply s)).ts = State.ts s := ts_of (fun _ hk => keep_portmapApply hk) rfl
@[simp] theorem get_slotRestart {s} {i}   {rq iq} (hq : Nat.testBit 0x4000000000000000000000000000000000000031ffc049efdfe7fffff843fffe000001effdff77fc0000000000000000000000000000000000000000000000000000000000000000000000000000000000005fc800058018000000008000a00000403000000200000000000000 (Reg.ctorIdx rq) = false) : ((slotRestart s i)).get rq iq = State.get s rq iq :=
  reg_of iq (fun _ hk => keep_slotRestart hk) rfl rfl rfl hq
@[simp] theorem dv_slotRestart {s} {i}   {rq iq} (hq : Nat.testBit 0x0 (Reg.ctorIdx rq) = false) : ((slotRestart s i)).dv rq iq = State.dv s rq iq :=
  dev_of iq (fun _ hk => keep_slotRestart hk) rfl rfl rfl hq
@[simp] theorem se_slotRestart {xq : State} {s} {i}   : SameEvents xq ((slotRestart s i)) ↔ SameEvents xq s := se_of (fun _ hk => keep_slotRestart hk) rfl
@[simp] theorem ts_slotRestart {s} {i}   : ((slotRestart s i)).ts = State.ts s := ts_of (fun _ hk => keep_slotRestart hk) rfl
@[simp] theorem dv_takeGroup {s} {i}   {rq iq} (hq : Nat.testBit 0x100000000000000000000000000000000000000000000000000000000 (Reg.ctorIdx rq) = false) : ((takeGroup s i)).dv rq iq = State.dv s rq iq :=
  dev_of iq (fun _ hk => keep_takeGroup hk) rfl rfl rfl hq
@[simp] theorem ts_takeGroup {s} {i}   : ((takeGroup s i)).ts = State.ts s := ts_of (fun _ hk => keep_takeGroup hk) rfl
@[simp] theorem dv_slotDevelop {s} {i}   {rq iq} (hq : Nat.testBit 0x800000000000000000000000000000000000000000000000000000000000000000000000000000100000000000000000000000000000000000000000000000000000000 (Reg.ctorIdx rq) = false) : ((slotDevelop s i)).dv rq iq = State.dv s rq iq :=
  dev_of iq (fun _ hk => keep_slotDevelop hk) rfl rfl rfl hq
@[simp] theorem ts_slotDevelop {s} {i}   : ((slotDevelop s i)).ts = State.ts s := ts_of (fun _ hk => keep_slotDevelop hk) rfl
@[simp] theorem dv_setDevelop {s slots ports}  {rq iq} (hq : Nat.testBit 0x800000000000000000000000000000000000000000000000000000000000000000000000000000100000000000000000000000000000000000000000000000000000000 (Reg.ctorIdx rq) = false) : ((setDevelop s slots ports)).dv rq iq = State.dv s rq iq :=
  dev_of iq (fun _ hk => keep_setDevelop hk) rfl rfl rfl hq
@[simp] theorem ts_setDevelop {s slots ports}  : ((setDevelop s slots ports)).ts = State.ts s := ts_of (fun _ hk => keep_setDevelop hk) rfl
@[simp] theorem dv_portmapSet {s} {n}   {rq iq} (hq : Nat.testBit 0x800000000000000000000000000000000000000000000000000000000000000000000000000000100000000000000000000000000000000000000000000000000000000 (Reg.ctorIdx rq) = false) : ((portmapSet s n)).dv rq iq = State.dv s rq iq :=
  dev_of iq (fun _ hk => keep_portmapSet hk) rfl rfl rfl hq
@[simp] theorem ts_portmapSet {s} {n}   : ((portmapSet s n)).ts = State.ts s := ts_of (fun _ hk => keep_portmapSet hk) rfl
@[simp] theorem get_countTags {s}   {rq iq} (hq : Nat.testBit 0x3000 (Reg.ctorIdx rq) = false) : ((countTags s)).get rq iq = State.get s rq iq :=
  reg_of iq (fun _ hk => keep_countTags hk) rfl rfl rfl hq
@[simp] theorem dv_countTags {s}   {rq iq} (hq : Nat.testBit 0x0 (Reg.ctorIdx rq) = false) : ((countTags s)).dv rq iq = State.dv s rq iq :=
  dev_of iq (fun _ hk => keep_countTags hk) rfl rfl rfl hq
@[simp] theorem se_countTags {xq : State} {s}   : SameEvents xq ((countTags s)) ↔ SameEvents xq s := se_of (fun _ hk => keep_countTags hk) rfl
@[simp] theorem ts_countTags {s}   : ((countTags s)).ts = State.ts s := ts_of (fun _ hk => keep_countTags hk) rfl
@[simp] theorem get_issueTag {s} {d}   {rq iq} (hq : Nat.testBit 0xdc0000000000000000000000000000000000000000000000000000000000000000000000000000000000000000000000000000000000000000000000000000000000000000000000000000000000000000000000000000000000000000000000000000007000 (Reg.ctorIdx rq) = false) : ((issueTag s d)).get rq iq = State.get s rq iq :=
  reg_of iq (fun _ hk => keep_issueTag hk) rfl rfl rfl hq
@[simp] theorem dv_issueTag {s} {d}   {rq iq} (hq : Nat.testBit 0x0 (Reg.ctorIdx rq) = false) : ((issueTag s d)).dv rq iq = State.dv s rq iq :=
  dev_of iq (fun _ hk => keep_issueTag hk) rfl rfl rfl hq
@[simp] theorem se_issueTag {xq : State} {s} {d}   : SameEvents xq ((issueTag s d)) ↔ SameEvents xq s := se_of (fun _ hk => keep_issueTag hk) rfl
@[simp] theorem ts_issueTag {s} {d}   : ((issueTag s d)).ts = State.ts s := ts_of (fun _ hk => keep_issueTag hk) rfl
@[simp] theorem get_tagRelease {s}   {rq iq} (hq : Nat.testBit 0xdc0000000000000000000000000000000000000000000000000000000000000000000000000000000000000000000000000000000000000000000000000000000000000000000000000000000000000000000000000000000000000000000000000000007000 (Reg.ctorIdx rq) = false) : ((tagRelease s)).get rq iq = State.get s rq iq :=
  reg_of iq (fun _ hk => keep_tagRelease hk) rfl rfl rfl hq
@[simp] theorem dv_tagRelease {s}   {rq iq} (hq : Nat.testBit 0x0 (Reg.ctorIdx rq) = false) : ((tagRelease s)).dv rq iq = State.dv s rq iq :=
  dev_of iq (fun _ hk => keep_tagRelease hk) rfl rfl rfl hq
@[simp] theorem se_tagRelease {xq : State} {s}   : SameEvents xq ((tagRelease s)) ↔ SameEvents xq s := se_of (fun _ hk => keep_tagRelease hk) rfl
@[simp] theorem ts_tagRelease {s}   : ((tagRelease s)).ts = State.ts s := ts_of (fun _ hk => keep_tagRelease hk) rfl
@[simp] theorem get_helperResult {s} {k} {epoch}   {rq iq} (hq : Nat.testBit 0x40000000000000000000000000000000000000000000000000000000000000000000000000000000000000000200000000000000000000000000000000000000000000000000000000000000000000000000000000000000000000000000000000000003000 (Reg.ctorIdx rq) = false) : ((helperResult s k epoch)).get rq iq = State.get s rq iq :=
  reg_of iq (fun _ hk => keep_helperResult hk) rfl rfl rfl hq
@[simp] theorem dv_helperResult {s} {k} {epoch}   {rq iq} (hq : Nat.testBit 0x0 (Reg.ctorIdx rq) = false) : ((helperResult s k epoch)).dv rq iq = State.dv s rq iq :=
  dev_of iq (fun _ hk => keep_helperResult hk) rfl rfl rfl hq
@[simp] theorem se_helperResult {xq : State} {s} {k} {epoch}   : SameEvents xq ((helperResult s k epoch)) ↔ SameEvents xq s := se_of (fun _ hk => keep_helperResult hk) rfl
@[simp] theorem ts_helperResult {s} {k} {epoch}   : ((helperResult s k epoch)).ts = State.ts s := ts_of (fun _ hk => keep_helperResult hk) rfl
@[simp] theorem get_domEpochAdvance {s} {d}   {rq iq} (hq : Nat.testBit 0x203000000000000000000000000000000000000000000000000000000000000000000000000000000000000000000000000000000000000000000000000000000000000000000000000000000000000000000000000000000000000000000000000000003000 (Reg.ctorIdx rq) = false) : ((domEpochAdvance s d)).get rq iq = State.get s rq iq :=
  reg_of iq (fun _ hk => keep_domEpochAdvance hk) rfl rfl rfl hq
@[simp] theorem dv_domEpochAdvance {s} {d}   {rq iq} (hq : Nat.testBit 0x0 (Reg.ctorIdx rq) = false) : ((domEpochAdvance s d)).dv rq iq = State.dv s rq iq :=
  dev_of iq (fun _ hk => keep_domEpochAdvance hk) rfl rfl rfl hq
@[simp] theorem ts_domEpochAdvance {s} {d}   : ((domEpochAdvance s d)).ts = State.ts s := ts_of (fun _ hk => keep_domEpochAdvance hk) rfl
@[simp] theorem get_domainOff {s} {d}   {rq iq} (hq : Nat.testBit 0x80000020000000000000360000000000000e00000000000000000000000000000000000000000000000000000000200042000000000000004000080000000000000000000004000000000000000000000000000000000000000000000000000000000000000000000000000100300022b00000 (Reg.ctorIdx rq) = false) : ((domainOff s d)).get rq iq = State.get s rq iq :=
  reg_of iq (fun _ hk => keep_domainOff hk) rfl rfl rfl hq
@[simp] theorem dv_domainOff {s} {d}   {rq iq} (hq : Nat.testBit 0x0 (Reg.ctorIdx rq) = false) : ((domainOff s d)).dv rq iq = State.dv s rq iq :=
  dev_of iq (fun _ hk => keep_domainOff hk) rfl rfl rfl hq
@[simp] theorem ts_domainOff {s} {d}   : ((domainOff s d)).ts = State.ts s := ts_of (fun _ hk => keep_domainOff hk) rfl
@[simp] theorem get_domainOn {s} {d}   {rq iq} (hq : Nat.testBit 0x38001d82b800000000000036000020300000010000000000000000000000000000000000000000000000000000000020004200000000000000000008000000000000000000000c000000000000000000000000000000000000000000000010000000000000000000000000000100300022b83000 (Reg.ctorIdx rq) = false) : ((domainOn s d)).get rq iq = State.get s rq iq :=
  reg_of iq (fun _ hk => keep_domainOn hk) rfl rfl rfl hq
@[simp] theorem dv_domainOn {s} {d}   {rq iq} (hq : Nat.testBit 0x0 (Reg.ctorIdx rq) = false) : ((domainOn s d)).dv rq iq = State.dv s rq iq :=
  dev_of iq (fun _ hk => keep_domainOn hk) rfl rfl rfl hq
@[simp] theorem ts_domainOn {s} {d}   : ((domainOn s d)).ts = State.ts s := ts_of (fun _ hk => keep_domainOn hk) rfl
@[simp] theorem get_domainRefuse {s} {d}   {rq iq} (hq : Nat.testBit 0x700000000000000000000000000000000000000000000000000000000000000000000000000000018060000000000000000000000000000000000000000000000000000000000000000000000000000000000000000000000000000000000000000000000000000000000 (Reg.ctorIdx rq) = false) : ((domainRefuse s d)).get rq iq = State.get s rq iq :=
  reg_of iq (fun _ hk => keep_domainRefuse hk) rfl rfl rfl hq
@[simp] theorem dv_domainRefuse {s} {d}   {rq iq} (hq : Nat.testBit 0x0 (Reg.ctorIdx rq) = false) : ((domainRefuse s d)).dv rq iq = State.dv s rq iq :=
  dev_of iq (fun _ hk => keep_domainRefuse hk) rfl rfl rfl hq
@[simp] theorem se_domainRefuse {xq : State} {s} {d}   : SameEvents xq ((domainRefuse s d)) ↔ SameEvents xq s := se_of (fun _ hk => keep_domainRefuse hk) rfl
@[simp] theorem ts_domainRefuse {s} {d}   : ((domainRefuse s d)).ts = State.ts s := ts_of (fun _ hk => keep_domainRefuse hk) rfl
@[simp] theorem get_emptyEngines {s} {d}   {rq iq} (hq : Nat.testBit 0x58000000000000000000000000000000000000000000000000000000000000000000000000000000000000000000000000000000000000000000000000000000000000000000000000000000000000000000000000000000000000000000000000000 (Reg.ctorIdx rq) = false) : ((emptyEngines s d)).get rq iq = State.get s rq iq :=
  reg_of iq (fun _ hk => keep_emptyEngines hk) rfl rfl rfl hq
@[simp] theorem dv_emptyEngines {s} {d}   {rq iq} (hq : Nat.testBit 0x0 (Reg.ctorIdx rq) = false) : ((emptyEngines s d)).dv rq iq = State.dv s rq iq :=
  dev_of iq (fun _ hk => keep_emptyEngines hk) rfl rfl rfl hq
@[simp] theorem se_emptyEngines {xq : State} {s} {d}   : SameEvents xq ((emptyEngines s d)) ↔ SameEvents xq s := se_of (fun _ hk => keep_emptyEngines hk) rfl
@[simp] theorem ts_emptyEngines {s} {d}   : ((emptyEngines s d)).ts = State.ts s := ts_of (fun _ hk => keep_emptyEngines hk) rfl
@[simp] theorem get_judgeDomain {s} {d}   {rq iq} (hq : Nat.testBit 0x80000000000000000000000000700360000000000058000000000000000000000000000000000000000000000000000000000200078060000000000000000080000000000000000000000000000000000000000000000000000000000000000000000000000000000000000000000000100300022b00000 (Reg.ctorIdx rq) = false) : ((judgeDomain s d)).get rq iq = State.get s rq iq :=
  reg_of iq (fun _ hk => keep_judgeDomain hk) rfl rfl rfl hq
@[simp] theorem dv_judgeDomain {s} {d}   {rq iq} (hq : Nat.testBit 0x4000000000000000000000000000000000000000000000000000000000000000000000000000000000000000000000000000000000000000000000000000000000000 (Reg.ctorIdx rq) = false) : ((judgeDomain s d)).dv rq iq = State.dv s rq iq :=
  dev_of iq (fun _ hk => keep_judgeDomain hk) rfl rfl rfl hq
@[simp] theorem ts_judgeDomain {s} {d}   : ((judgeDomain s d)).ts = State.ts s := ts_of (fun _ hk => keep_judgeDomain hk) rfl
@[simp] theorem get_domainTick {s}   {rq iq} (hq : Nat.testBit 0x80000000000000000000000000700360000000000058000000000000000000000000000000000000000000000000000000000200078060000000000000000080000000000000000000000000000000000000000000000000000000000000000000000000000000000000000000000000100300022b00000 (Reg.ctorIdx rq) = false) : ((domainTick s)).get rq iq = State.get s rq iq :=
  reg_of iq (fun _ hk => keep_domainTick hk) rfl rfl rfl hq
@[simp] theorem dv_domainTick {s}   {rq iq} (hq : Nat.testBit 0x4000000000000000000000000000000000000000000000000000000000000000000000000000000000000000000000000000000000000000000000000000000000000 (Reg.ctorIdx rq) = false) : ((domainTick s)).dv rq iq = State.dv s rq iq :=
  dev_of iq (fun _ hk => keep_domainTick hk) rfl rfl rfl hq
@[simp] theorem ts_domainTick {s}   : ((domainTick s)).ts = State.ts s := ts_of (fun _ hk => keep_domainTick hk) rfl
@[simp] theorem get_domainSwitched {s} {d}   {rq iq} (hq : Nat.testBit 0x800000038801d82b8000000000700360000203000000f0000000000000000000000000000000000000000000000000000000020007a06000000000000400008000000000000000000000c000000000000000000000000000000000000000000000010000000000000000000000000000100300022b83000 (Reg.ctorIdx rq) = false) : ((domainSwitched s d)).get rq iq = State.get s rq iq :=
  reg_of iq (fun _ hk => keep_domainSwitched hk) rfl rfl rfl hq
@[simp] theorem dv_domainSwitched {s} {d}   {rq iq} (hq : Nat.testBit 0x0 (Reg.ctorIdx rq) = false) : ((domainSwitched s d)).dv rq iq = State.dv s rq iq :=
  dev_of iq (fun _ hk => keep_domainSwitched hk) rfl rfl rfl hq
@[simp] theorem ts_domainSwitched {s} {d}   : ((domainSwitched s d)).ts = State.ts s := ts_of (fun _ hk => keep_domainSwitched hk) rfl
@[simp] theorem get_reclaimDomain {s} {d}   {rq iq} (hq : Nat.testBit 0xa40000000000000000000000000000000000000000000000000000000000000000000000000000000000000000000000000000000000000000000000000000000000000000000000000000000000000000000000000000000000000000000000000000003000 (Reg.ctorIdx rq) = false) : ((reclaimDomain s d)).get rq iq = State.get s rq iq :=
  reg_of iq (fun _ hk => keep_reclaimDomain hk) rfl rfl rfl hq
@[simp] theorem dv_reclaimDomain {s} {d}   {rq iq} (hq : Nat.testBit 0x0 (Reg.ctorIdx rq) = false) : ((reclaimDomain s d)).dv rq iq = State.dv s rq iq :=
  dev_of iq (fun _ hk => keep_reclaimDomain hk) rfl rfl rfl hq
@[simp] theorem se_reclaimDomain {xq : State} {s} {d}   : SameEvents xq ((reclaimDomain s d)) ↔ SameEvents xq s := se_of (fun _ hk => keep_reclaimDomain hk) rfl
@[simp] theorem ts_reclaimDomain {s} {d}   : ((reclaimDomain s d)).ts = State.ts s := ts_of (fun _ hk => keep_reclaimDomain hk) rfl
@[simp] theorem get_restartNow {s} {d}   {rq iq} (hq : Nat.testBit 0x80000020000000000000360000a4c000000e00000000000000000000000000000000000000000000000000000000200042000000000000004100080000000000000000000004000000000000000000000000000000000000000000000000000000000000000000000000000100300022b03000 (Reg.ctorIdx rq) = false) : ((restartNow s d)).get rq iq = State.get s rq iq :=
  reg_of iq (fun _ hk => keep_restartNow hk) rfl rfl rfl hq
@[simp] theorem dv_restartNow {s} {d}   {rq iq} (hq : Nat.testBit 0x0 (Reg.ctorIdx rq) = false) : ((restartNow s d)).dv rq iq = State.dv s rq iq :=
  dev_of iq (fun _ hk => keep_restartNow hk) rfl rfl rfl hq
@[simp] theorem ts_restartNow {s} {d}   : ((restartNow s d)).ts = State.ts s := ts_of (fun _ hk => keep_restartNow hk) rfl
@[simp] theorem get_domainRestart {s} {d}   {rq iq} (hq : Nat.testBit 0x80000020000000000700360000a4c000000e00000000000000000000000000000000000000000000000000000000200042060000000000004100080000000000000000000004000000000000000000000000000000000000000000000000000000000000000000000000000100300022b03000 (Reg.ctorIdx rq) = false) : ((domainRestart s d).1).get rq iq = State.get s rq iq :=
  reg_of iq (fun _ hk => keep_domainRestart hk) rfl rfl rfl hq
@[simp] theorem dv_domainRestart {s} {d}   {rq iq} (hq : Nat.testBit 0x0 (Reg.ctorIdx rq) = false) : ((domainRestart s d).1).dv rq iq = State.dv s rq iq :=
  dev_of iq (fun _ hk => keep_domainRestart hk) rfl rfl rfl hq
@[simp] theorem ts_domainRestart {s} {d}   : ((domainRestart s d).1).ts = State.ts s := ts_of (fun _ hk => keep_domainRestart hk) rfl
@[simp] theorem get_domainRestartDone {s} {d}   {rq iq} (hq : Nat.testBit 0x38001d82b800000000000036000020700000010000000000000000000000000000000000000000000000000000000020004200000000000000000008000000000000000000000c000000000000000000000000000000000000000000000010000000000000000000000000000100300022b83000 (Reg.ctorIdx rq) = false) : ((domainRestartDone s d)).get rq iq = State.get s rq iq :=
  reg_of iq (fun _ hk => keep_domainRestartDone hk) rfl rfl rfl hq
@[simp] theorem dv_domainRestartDone {s} {d}   {rq iq} (hq : Nat.testBit 0x0 (Reg.ctorIdx rq) = false) : ((domainRestartDone s d)).dv rq iq = State.dv s rq iq :=
  dev_of iq (fun _ hk => keep_domainRestartDone hk) rfl rfl rfl hq
@[simp] theorem ts_domainRestartDone {s} {d}   : ((domainRestartDone s d)).ts = State.ts s := ts_of (fun _ hk => keep_domainRestartDone hk) rfl
@[simp] theorem get_tagReclaim {s} {k}   {rq iq} (hq : Nat.testBit 0x80000020000000000700360000a7c000000e00000000000000000000000000000000000000000000000000000000200042060000000000004100080000000000000000000004000000000000000000000000000000000000000000000000000000000000000000000000000100300022b0b000 (Reg.ctorIdx rq) = false) : ((tagReclaim s k)).get rq iq = State.get s rq iq :=
  reg_of iq (fun _ hk => keep_tagReclaim hk) rfl rfl rfl hq
@[simp] theorem dv_tagReclaim {s} {k}   {rq iq} (hq : Nat.testBit 0x0 (Reg.ctorIdx rq) = false) : ((tagReclaim s k)).dv rq iq = State.dv s rq iq :=
  dev_of iq (fun _ hk => keep_tagReclaim hk) rfl rfl rfl hq
@[simp] theorem ts_tagReclaim {s} {k}   : ((tagReclaim s k)).ts = State.ts s := ts_of (fun _ hk => keep_tagReclaim hk) rfl
@[simp] theorem get_timebaseLoss {s} {refOk} {pll}   {rq iq} (hq : Nat.testBit 0x200000000000000000000008060000000000000000000000000040000300800000000000000000000000000000000000000000000100000000000000000000000000000000000000000000000000000000000000000000000000000000000000000000000000000000000000000000000000800180000000 (Reg.ctorIdx rq) = false) : ((timebaseLoss s refOk pll)).get rq iq = State.get s rq iq :=
  reg_of iq (fun _ hk => keep_timebaseLoss hk) rfl rfl rfl hq
@[simp] theorem dv_timebaseLoss {s} {refOk} {pll}   {rq iq} (hq : Nat.testBit 0x0 (Reg.ctorIdx rq) = false) : ((timebaseLoss s refOk pll)).dv rq iq = State.dv s rq iq :=
  dev_of iq (fun _ hk => keep_timebaseLoss hk) rfl rfl rfl hq
@[simp] theorem se_timebaseLoss {xq : State} {s} {refOk} {pll}   : SameEvents xq ((timebaseLoss s refOk pll)) ↔ SameEvents xq s := se_of (fun _ hk => keep_timebaseLoss hk) rfl
@[simp] theorem ts_timebaseLoss {s} {refOk} {pll}   : ((timebaseLoss s refOk pll)).ts = State.ts s := ts_of (fun _ hk => keep_timebaseLoss hk) rfl
@[simp] theorem get_timebaseRestart {s} {gap} {enc}   {rq iq} (hq : Nat.testBit 0x4000000000000000002d1c08060000360000000001000000000000400300800000000000800000000000000000000000000000000140000000000000000000000000000000000000000000008007000000000000000000002080000000000000000000000000000000800000000000000000b609a2b00000 (Reg.ctorIdx rq) = false) : ((timebaseRestart s gap enc)).get rq iq = State.get s rq iq :=
  reg_of iq (fun _ hk => keep_timebaseRestart hk) rfl rfl rfl hq
@[simp] theorem dv_timebaseRestart {s} {gap} {enc}   {rq iq} (hq : Nat.testBit 0x0 (Reg.ctorIdx rq) = false) : ((timebaseRestart s gap enc)).dv rq iq = State.dv s rq iq :=
  dev_of iq (fun _ hk => keep_timebaseRestart hk) rfl rfl rfl hq
@[simp] theorem ts_timebaseRestart {s} {gap} {enc}   : ((timebaseRestart s gap enc)).ts = State.ts s := ts_of (fun _ hk => keep_timebaseRestart hk) rfl
@[simp] theorem get_tbApply {s}   {rq iq} (hq : Nat.testBit 0x600000000000000000000008060000000000000000000000000040000300800000000000000000000000000000000000000000000100000000000000000000000000000000000000000000000000000000000000000000000000000000000000000000000000000000000000000000000000802380000000 (Reg.ctorIdx rq) = false) : ((tbApply s).1).get rq iq = State.get s rq iq :=
  reg_of iq (fun _ hk => keep_tbApply hk) rfl rfl rfl hq
@[simp] theorem dv_tbApply {s}   {rq iq} (hq : Nat.testBit 0x0 (Reg.ctorIdx rq) = false) : ((tbApply s).1).dv rq iq = State.dv s rq iq :=
  dev_of iq (fun _ hk => keep_tbApply hk) rfl rfl rfl hq
@[simp] theorem se_tbApply {xq : State} {s}   : SameEvents xq ((tbApply s).1) ↔ SameEvents xq s := se_of (fun _ hk => keep_tbApply hk) rfl
@[simp] theorem ts_tbApply {s}   : ((tbApply s).1).ts = State.ts s := ts_of (fun _ hk => keep_tbApply hk) rfl
@[simp] theorem get_delayLine {s} {elems}   {rq iq} (hq : Nat.testBit 0x1000000000000000000000000000000000000000000000000000000000000000000000000000000000000000000000000000000000040000000000000000000000000000000000000000000000000000000000000000000000000000000000000000000000000000000000000000000000000311422b00000 (Reg.ctorIdx rq) = false) : ((delayLine s elems)).get rq iq = State.get s rq iq :=
  reg_of iq (fun _ hk => keep_delayLine hk) rfl rfl rfl hq
@[simp] theorem dv_delayLine {s} {elems}   {rq iq} (hq : Nat.testBit 0x0 (Reg.ctorIdx rq) = false) : ((delayLine s elems)).dv rq iq = State.dv s rq iq :=
  dev_of iq (fun _ hk => keep_delayLine hk) rfl rfl rfl hq
@[simp] theorem ts_delayLine {s} {elems}   : ((delayLine s elems)).ts = State.ts s := ts_of (fun _ hk => keep_delayLine hk) rfl
@[simp] theorem get_setLinkFlag {s} {k}   {rq iq} (hq : Nat.testBit 0x40000000000000000000000000000000000000000000000000000000000000000000000000000000000000000000000000000000000000000000000000 (Reg.ctorIdx rq) = false) : ((setLinkFlag s k)).get rq iq = State.get s rq iq :=
  reg_of iq (fun _ hk => keep_setLinkFlag hk) rfl rfl rfl hq
@[simp] theorem dv_setLinkFlag {s} {k}   {rq iq} (hq : Nat.testBit 0x0 (Reg.ctorIdx rq) = false) : ((setLinkFlag s k)).dv rq iq = State.dv s rq iq :=
  dev_of iq (fun _ hk => keep_setLinkFlag hk) rfl rfl rfl hq
@[simp] theorem se_setLinkFlag {xq : State} {s} {k}   : SameEvents xq ((setLinkFlag s k)) ↔ SameEvents xq s := se_of (fun _ hk => keep_setLinkFlag hk) rfl
@[simp] theorem ts_setLinkFlag {s} {k}   : ((setLinkFlag s k)).ts = State.ts s := ts_of (fun _ hk => keep_setLinkFlag hk) rfl
@[simp] theorem get_accGive {s} {n} {t}   {rq iq} (hq : Nat.testBit 0xa000000000000000000000000000000000000000000000000000000000000000000000000000000000000000000000000000000000000000000000300000000000000000000000 (Reg.ctorIdx rq) = false) : ((accGive s n t)).get rq iq = State.get s rq iq :=
  reg_of iq (fun _ hk => keep_accGive hk) rfl rfl rfl hq
@[simp] theorem dv_accGive {s} {n} {t}   {rq iq} (hq : Nat.testBit 0x0 (Reg.ctorIdx rq) = false) : ((accGive s n t)).dv rq iq = State.dv s rq iq :=
  dev_of iq (fun _ hk => keep_accGive hk) rfl rfl rfl hq
@[simp] theorem se_accGive {xq : State} {s} {n} {t}   : SameEvents xq ((accGive s n t)) ↔ SameEvents xq s := se_of (fun _ hk => keep_accGive hk) rfl
@[simp] theorem ts_accGive {s} {n} {t}   : ((accGive s n t)).ts = State.ts s := ts_of (fun _ hk => keep_accGive hk) rfl
@[simp] theorem get_ringGo {s} {n} {t}   {rq iq} (hq : Nat.testBit 0x3000000000000000000000000000000000000000000000000000000000000000000000000000000000000000000000000000000000000000000000000000000000000000000000000000000000000000000000000000000000000000000000000000000000000000000000000000000000000000000000000000 (Reg.ctorIdx rq) = false) : ((ringGo s n t)).get rq iq = State.get s rq iq :=
  reg_of iq (fun _ hk => keep_ringGo hk) rfl rfl rfl hq
@[simp] theorem dv_ringGo {s} {n} {t}   {rq iq} (hq : Nat.testBit 0x0 (Reg.ctorIdx rq) = false) : ((ringGo s n t)).dv rq iq = State.dv s rq iq :=
  dev_of iq (fun _ hk => keep_ringGo hk) rfl rfl rfl hq
@[simp] theorem se_ringGo {xq : State} {s} {n} {t}   : SameEvents xq ((ringGo s n t)) ↔ SameEvents xq s := se_of (fun _ hk => keep_ringGo hk) rfl
@[simp] theorem ts_ringGo {s} {n} {t}   : ((ringGo s n t)).ts = State.ts s := ts_of (fun _ hk => keep_ringGo hk) rfl
@[simp] theorem get_accGo {s} {n} {t}   {rq iq} (hq : Nat.testBit 0x300000000000000000000000000000000000000000000000000000000000000000000000000000000000000000000000000000a000000000000000000000000000000000000000000000000000000000000000000000000000000000000000000000000000000000000000000000300000000000000000000000 (Reg.ctorIdx rq) = false) : ((accGo s n t).1).get rq iq = State.get s rq iq :=
  reg_of iq (fun _ hk => keep_accGo hk) rfl rfl rfl hq
@[simp] theorem dv_accGo {s} {n} {t}   {rq iq} (hq : Nat.testBit 0x0 (Reg.ctorIdx rq) = false) : ((accGo s n t).1).dv rq iq = State.dv s rq iq :=
  dev_of iq (fun _ hk => keep_accGo hk) rfl rfl rfl hq
@[simp] theorem se_accGo {xq : State} {s} {n} {t}   : SameEvents xq ((accGo s n t).1) ↔ SameEvents xq s := se_of (fun _ hk => keep_accGo hk) rfl
@[simp] theorem ts_accGo {s} {n} {t}   : ((accGo s n t).1).ts = State.ts s := ts_of (fun _ hk => keep_accGo hk) rfl
@[simp] theorem get_syncSlot {s} {i} {t}   {rq iq} (hq : Nat.testBit 0xfe0000000000000000000040000000000000000000000000000000000000000000000000000000000000000000000000000000000000000000000000000000001062000000000000300022b00000 (Reg.ctorIdx rq) = false) : ((syncSlot s i t)).get rq iq = State.get s rq iq :=
  reg_of iq (fun _ hk => keep_syncSlot hk) rfl rfl rfl hq
@[simp] theorem dv_syncSlot {s} {i} {t}   {rq iq} (hq : Nat.testBit 0x0 (Reg.ctorIdx rq) = false) : ((syncSlot s i t)).dv rq iq = State.dv s rq iq :=
  dev_of iq (fun _ hk => keep_syncSlot hk) rfl rfl rfl hq
@[simp] theorem ts_syncSlot {s} {i} {t}   : ((syncSlot s i t)).ts = State.ts s := ts_of (fun _ hk => keep_syncSlot hk) rfl
@[simp] theorem get_developLayout {s}   {rq iq} (hq : Nat.testBit 0x0 (Reg.ctorIdx rq) = false) : ((developLayout s)).get rq iq = State.get s rq iq :=
  reg_of iq (fun _ hk => keep_developLayout hk) rfl rfl rfl hq
@[simp] theorem dv_developLayout {s}   {rq iq} (hq : Nat.testBit 0x1802000000000000000000000000000000000000000000000000000000000000000000000000000000000000000000000000000000000000000000000000 (Reg.ctorIdx rq) = false) : ((developLayout s)).dv rq iq = State.dv s rq iq :=
  dev_of iq (fun _ hk => keep_developLayout hk) rfl rfl rfl hq
@[simp] theorem se_developLayout {xq : State} {s}   : SameEvents xq ((developLayout s)) ↔ SameEvents xq s := se_of (fun _ hk => keep_developLayout hk) rfl
@[simp] theorem ts_developLayout {s}   : ((developLayout s)).ts = State.ts s := ts_of (fun _ hk => keep_developLayout hk) rfl
@[simp] theorem get_enumerate {s}   {rq iq} (hq : Nat.testBit 0xc4000000000000000000000000000000000000000000000000000000000000000000000000000000000000000000000000000000000000000000002000e00000000000000000000000000000000000000000000000000000000000000000000000000000000000000000000000000000000000000000000000 (Reg.ctorIdx rq) = false) : ((enumerate s)).get rq iq = State.get s rq iq :=
  reg_of iq (fun _ hk => keep_enumerate hk) rfl rfl rfl hq
@[simp] theorem dv_enumerate {s}   {rq iq} (hq : Nat.testBit 0x1802000000000000000000000000000000000000000000000000000000000000000000000000000000000000000000000000000000000000000000000000 (Reg.ctorIdx rq) = false) : ((enumerate s)).dv rq iq = State.dv s rq iq :=
  dev_of iq (fun _ hk => keep_enumerate hk) rfl rfl rfl hq
@[simp] theorem se_enumerate {xq : State} {s}   : SameEvents xq ((enumerate s)) ↔ SameEvents xq s := se_of (fun _ hk => keep_enumerate hk) rfl
@[simp] theorem ts_enumerate {s}   : ((enumerate s)).ts = State.ts s := ts_of (fun _ hk => keep_enumerate hk) rfl
@[simp] theorem get_linkEnumeration {s}   {rq iq} (hq : Nat.testBit 0xc4000000000000000000000000000000000000000000000000000000000000000000000000000000000000000000000000000000000000000000002000e00000000000000000000000000000000000000000000000000000000000000000000000000000000000000000000000000000000000000000000000 (Reg.ctorIdx rq) = false) : ((linkEnumeration s)).get rq iq = State.get s rq iq :=
  reg_of iq (fun _ hk => keep_linkEnumeration hk) rfl rfl rfl hq
@[simp] theorem dv_linkEnumeration {s}   {rq iq} (hq : Nat.testBit 0x1802000000000000000000000000000000000000000000000000000000000000000000000000000000000000000000000000000000000000000000000000 (Reg.ctorIdx rq) = false) : ((linkEnumeration s)).dv rq iq = State.dv s rq iq :=
  dev_of iq (fun _ hk => keep_linkEnumeration hk) rfl rfl rfl hq
@[simp] theorem se_linkEnumeration {xq : State} {s}   : SameEvents xq ((linkEnumeration s)) ↔ SameEvents xq s := se_of (fun _ hk => keep_linkEnumeration hk) rfl
@[simp] theorem ts_linkEnumeration {s}   : ((linkEnumeration s)).ts = State.ts s := ts_of (fun _ hk => keep_linkEnumeration hk) rfl
@[simp] theorem get_linkRestart {s}   {rq iq} (hq : Nat.testBit 0xc4000000000000000000000000000000000000000000000000000000000000000000000000000000000000000000000000000000000000000000002000e00000000000000000000000000000000000000000000000000000000000000000000000000000000000000000000000000000000000000000000000 (Reg.ctorIdx rq) = false) : ((linkRestart s)).get rq iq = State.get s rq iq :=
  reg_of iq (fun _ hk => keep_linkRestart hk) rfl rfl rfl hq
@[simp] theorem dv_linkRestart {s}   {rq iq} (hq : Nat.testBit 0x1802000000000000000000000000000000000000000000000000000000000000000000000000000000000000000000000000000000000000000000000000 (Reg.ctorIdx rq) = false) : ((linkRestart s)).dv rq iq = State.dv s rq iq :=
  dev_of iq (fun _ hk => keep_linkRestart hk) rfl rfl rfl hq
@[simp] theorem se_linkRestart {xq : State} {s}   : SameEvents xq ((linkRestart s)) ↔ SameEvents xq s := se_of (fun _ hk => keep_linkRestart hk) rfl
@[simp] theorem ts_linkRestart {s}   : ((linkRestart s)).ts = State.ts s := ts_of (fun _ hk => keep_linkRestart hk) rfl
@[simp] theorem get_mapReject {s} {why}   {rq iq} (hq : Nat.testBit 0x80000000000000000000000000000000000000000000000000000000000000000000000000000000000000000000000000000000000040000000000040200000000000000000000000000000000000000000000000000000000000000000000000000000000000000000000000000000000000300022b00000 (Reg.ctorIdx rq) = false) : ((mapReject s why)).get rq iq = State.get s rq iq :=
  reg_of iq (fun _ hk => keep_mapReject hk) rfl rfl rfl hq
@[simp] theorem dv_mapReject {s} {why}   {rq iq} (hq : Nat.testBit 0x0 (Reg.ctorIdx rq) = false) : ((mapReject s why)).dv rq iq = State.dv s rq iq :=
  dev_of iq (fun _ hk => keep_mapReject hk) rfl rfl rfl hq
@[simp] theorem ts_mapReject {s} {why}   : ((mapReject s why)).ts = State.ts s := ts_of (fun _ hk => keep_mapReject hk) rfl
@[simp] theorem get_enumReturn {s} {layouts} {second} {badSlot}   {rq iq} (hq : Nat.testBit 0x300000000000000000000000030800080000000000000000000000000000000000000000000000000000000000000000000000000000000000000000000000000000000000040000000006440a00000000000000000000000000000000000000000000000000000000000000000000000000000000000000000000000004000000000300022b00000 (Reg.ctorIdx rq) = false) : ((enumReturn s layouts second badSlot)).get rq iq = State.get s rq iq :=
  reg_of iq (fun _ hk => keep_enumReturn hk) rfl rfl rfl hq
@[simp] theorem dv_enumReturn {s} {layouts} {second} {badSlot}   {rq iq} (hq : Nat.testBit 0x0 (Reg.ctorIdx rq) = false) : ((enumReturn s layouts second badSlot)).dv rq iq = State.dv s rq iq :=
  dev_of iq (fun _ hk => keep_enumReturn hk) rfl rfl rfl hq
@[simp] theorem ts_enumReturn {s} {layouts} {second} {badSlot}   : ((enumReturn s layouts second badSlot)).ts = State.ts s := ts_of (fun _ hk => keep_enumReturn hk) rfl
@[simp] theorem get_enumWorker {s} {position} {ringId}   {rq iq} (hq : Nat.testBit 0x40000000000000000000000000000806000000000000000000000000000000000000000000000000000000000000000000000000000000000000000000000000000000000000000000000001600000000000000000000000000000000000000000000000000000000000000000000000000000000000000000000000000000000000000000000000 (Reg.ctorIdx rq) = false) : ((enumWorker s position ringId)).get rq iq = State.get s rq iq :=
  reg_of iq (fun _ hk => keep_enumWorker hk) rfl rfl rfl hq
@[simp] theorem dv_enumWorker {s} {position} {ringId}   {rq iq} (hq : Nat.testBit 0x1802040000000000000000000000000000000000000000000000000000000000000000000000000000000000000000000000000000000000000000000000 (Reg.ctorIdx rq) = false) : ((enumWorker s position ringId)).dv rq iq = State.dv s rq iq :=
  dev_of iq (fun _ hk => keep_enumWorker hk) rfl rfl rfl hq
@[simp] theorem se_enumWorker {xq : State} {s} {position} {ringId}   : SameEvents xq ((enumWorker s position ringId)) ↔ SameEvents xq s := se_of (fun _ hk => keep_enumWorker hk) rfl
@[simp] theorem ts_enumWorker {s} {position} {ringId}   : ((enumWorker s position ringId)).ts = State.ts s := ts_of (fun _ hk => keep_enumWorker hk) rfl
@[simp] theorem get_enumTimeout {s}   {rq iq} (hq : Nat.testBit 0x80000000000000000000000000000000000000000000000000000000000000000000000000000000000000000000000000000000000040000000000040200000000000000000000000000000000000000000000000000000000000000000000000000000000000000000000000000000000000300022b00000 (Reg.ctorIdx rq) = false) : ((enumTimeout s)).get rq iq = State.get s rq iq :=
  reg_of iq (fun _ hk => keep_enumTimeout hk) rfl rfl rfl hq
@[simp] theorem dv_enumTimeout {s}   {rq iq} (hq : Nat.testBit 0x0 (Reg.ctorIdx rq) = false) : ((enumTimeout s)).dv rq iq = State.dv s rq iq :=
  dev_of iq (fun _ hk => keep_enumTimeout hk) rfl rfl rfl hq
@[simp] theorem ts_enumTimeout {s}   : ((enumTimeout s)).ts = State.ts s := ts_of (fun _ hk => keep_enumTimeout hk) rfl
@[simp] theorem get_ringGather {s} {tc}   {rq iq} (hq : Nat.testBit 0x3000000000000000000000000000000000000000000000000000000000000000000000000000000000000000000000000000000000000000000000000000000000000000000000000000000000000000000000000000000000000000000000000000000000000000000000000000000000000000000000000000 (Reg.ctorIdx rq) = false) : ((ringGather s tc)).get rq iq = State.get s rq iq :=
  reg_of iq (fun _ hk => keep_ringGather hk) rfl rfl rfl hq
@[simp] theorem dv_ringGather {s} {tc}   {rq iq} (hq : Nat.testBit 0x0 (Reg.ctorIdx rq) = false) : ((ringGather s tc)).dv rq iq = State.dv s rq iq :=
  dev_of iq (fun _ hk => keep_ringGather hk) rfl rfl rfl hq
@[simp] theorem se_ringGather {xq : State} {s} {tc}   : SameEvents xq ((ringGather s tc)) ↔ SameEvents xq s := se_of (fun _ hk => keep_ringGather hk) rfl
@[simp] theorem ts_ringGather {s} {tc}   : ((ringGather s tc)).ts = State.ts s := ts_of (fun _ hk => keep_ringGather hk) rfl
@[simp] theorem get_goCarry {s}   {rq iq} (hq : Nat.testBit 0x3d00000000000000000000000000000000000000000000000000000000000000000000000000000000000000000000000000000a000000000000000000000000000000000000000000000000000000000000000000000000000000000000000000000000000000000000000000000300000000000000000000000 (Reg.ctorIdx rq) = false) : ((goCarry s)).get rq iq = State.get s rq iq :=
  reg_of iq (fun _ hk => keep_goCarry hk) rfl rfl rfl hq
@[simp] theorem dv_goCarry {s}   {rq iq} (hq : Nat.testBit 0x0 (Reg.ctorIdx rq) = false) : ((goCarry s)).dv rq iq = State.dv s rq iq :=
  dev_of iq (fun _ hk => keep_goCarry hk) rfl rfl rfl hq
@[simp] theorem se_goCarry {xq : State} {s}   : SameEvents xq ((goCarry s)) ↔ SameEvents xq s := se_of (fun _ hk => keep_goCarry hk) rfl
@[simp] theorem ts_goCarry {s}   : ((goCarry s)).ts = State.ts s := ts_of (fun _ hk => keep_goCarry hk) rfl
@[simp] theorem get_linkDevelop {s}   {rq iq} (hq : Nat.testBit 0x0 (Reg.ctorIdx rq) = false) : ((linkDevelop s)).get rq iq = State.get s rq iq :=
  reg_of iq (fun _ hk => keep_linkDevelop hk) rfl rfl rfl hq
@[simp] theorem dv_linkDevelop {s}   {rq iq} (hq : Nat.testBit 0x10200040000000000000000000000000000000000000000000000000000000000000000000000000000000000000000000000000000000000000000000000 (Reg.ctorIdx rq) = false) : ((linkDevelop s)).dv rq iq = State.dv s rq iq :=
  dev_of iq (fun _ hk => keep_linkDevelop hk) rfl rfl rfl hq
@[simp] theorem se_linkDevelop {xq : State} {s}   : SameEvents xq ((linkDevelop s)) ↔ SameEvents xq s := se_of (fun _ hk => keep_linkDevelop hk) rfl
@[simp] theorem ts_linkDevelop {s}   : ((linkDevelop s)).ts = State.ts s := ts_of (fun _ hk => keep_linkDevelop hk) rfl
@[simp] theorem get_wrapEnd {s}   {rq iq} (hq : Nat.testBit 0x20000000000000000000000000000000000000000000000000000000000000000000000000000000000000000000000000000000000000000000000000 (Reg.ctorIdx rq) = false) : ((wrapEnd s)).get rq iq = State.get s rq iq :=
  reg_of iq (fun _ hk => keep_wrapEnd hk) rfl rfl rfl hq
@[simp] theorem dv_wrapEnd {s}   {rq iq} (hq : Nat.testBit 0x0 (Reg.ctorIdx rq) = false) : ((wrapEnd s)).dv rq iq = State.dv s rq iq :=
  dev_of iq (fun _ hk => keep_wrapEnd hk) rfl rfl rfl hq
@[simp] theorem se_wrapEnd {xq : State} {s}   : SameEvents xq ((wrapEnd s)) ↔ SameEvents xq s := se_of (fun _ hk => keep_wrapEnd hk) rfl
@[simp] theorem ts_wrapEnd {s}   : ((wrapEnd s)).ts = State.ts s := ts_of (fun _ hk => keep_wrapEnd hk) rfl
@[simp] theorem get_upSnap {s}   {rq iq} (hq : Nat.testBit 0x80000000000000000000000000000000000000000000000000000000000000000000000000000000000000000000000000000000000000000000000000000000000000000000000000000000000000000000000000000000000000000000000000000000000000000000000000000000000000000000000000000000000000000000000000000000 (Reg.ctorIdx rq) = false) : ((upSnap s)).get rq iq = State.get s rq iq :=
  reg_of iq (fun _ hk => keep_upSnap hk) rfl rfl rfl hq
@[simp] theorem dv_upSnap {s}   {rq iq} (hq : Nat.testBit 0x0 (Reg.ctorIdx rq) = false) : ((upSnap s)).dv rq iq = State.dv s rq iq :=
  dev_of iq (fun _ hk => keep_upSnap hk) rfl rfl rfl hq
@[simp] theorem se_upSnap {xq : State} {s}   : SameEvents xq ((upSnap s)) ↔ SameEvents xq s := se_of (fun _ hk => keep_upSnap hk) rfl
@[simp] theorem ts_upSnap {s}   : ((upSnap s)).ts = State.ts s := ts_of (fun _ hk => keep_upSnap hk) rfl
@[simp] theorem get_countMiss {s} {d}   {rq iq} (hq : Nat.testBit 0x100000000000000000000000000800000000000000000000000000000000000000000000000000000000000000000000000000000000000000000000000000000000000000000000000000000000000000000000000000000000000000000000000000000000000000000000000000000000000000000000000000000000000000000000000000000 (Reg.ctorIdx rq) = false) : ((countMiss s d)).get rq iq = State.get s rq iq :=
  reg_of iq (fun _ hk => keep_countMiss hk) rfl rfl rfl hq
@[simp] theorem dv_countMiss {s} {d}   {rq iq} (hq : Nat.testBit 0x0 (Reg.ctorIdx rq) = false) : ((countMiss s d)).dv rq iq = State.dv s rq iq :=
  dev_of iq (fun _ hk => keep_countMiss hk) rfl rfl rfl hq
@[simp] theorem se_countMiss {xq : State} {s} {d}   : SameEvents xq ((countMiss s d)) ↔ SameEvents xq s := se_of (fun _ hk => keep_countMiss hk) rfl
@[simp] theorem ts_countMiss {s} {d}   : ((countMiss s d)).ts = State.ts s := ts_of (fun _ hk => keep_countMiss hk) rfl
@[simp] theorem get_cycleStart {s}   {rq iq} (hq : Nat.testBit 0x18000000000000000004000200083f03200000000000000000000000000000000000000000000000000000000000000000000000000000000000000000000000000a000000000000000000020200000000000000000000000000000000000000000000000000000000000000000000000000000000000000000000000300000000000000000000000 (Reg.ctorIdx rq) = false) : ((cycleStart s)).get rq iq = State.get s rq iq :=
  reg_of iq (fun _ hk => keep_cycleStart hk) rfl rfl rfl hq
@[simp] theorem dv_cycleStart {s}   {rq iq} (hq : Nat.testBit 0x10200040000000000000000000000000000000000000000000000000000000000000000000000000000000000000000000000000000000000000000000000 (Reg.ctorIdx rq) = false) : ((cycleStart s)).dv rq iq = State.dv s rq iq :=
  dev_of iq (fun _ hk => keep_cycleStart hk) rfl rfl rfl hq
@[simp] theorem get_fenceAxes {s}   {rq iq} (hq : Nat.testBit 0x8000000008060000360000000000000e008e0000000300c00415600000001006284081020000002f05c02c6c60004000000000000000400008000000000000000000000000000280003e000000008000000000000000000000c40000000000088000e00000483100000b00b00022b80000 (Reg.ctorIdx rq) = false) : ((fenceAxes s)).get rq iq = State.get s rq iq :=
  reg_of iq (fun _ hk => keep_fenceAxes hk) rfl rfl rfl hq
@[simp] theorem dv_fenceAxes {s}   {rq iq} (hq : Nat.testBit 0x100000000000000000000000000000000000000000001e00060000000000000000000000000000000000 (Reg.ctorIdx rq) = false) : ((fenceAxes s)).dv rq iq = State.dv s rq iq :=
  dev_of iq (fun _ hk => keep_fenceAxes hk) rfl rfl rfl hq
@[simp] theorem ts_fenceAxes {s}   : ((fenceAxes s)).ts = State.ts s := ts_of (fun _ hk => keep_fenceAxes hk) rfl
@[simp] theorem get_selfFence {s}   {rq iq} (hq : Nat.testBit 0x60000000000000000000100000000002000000000000008000000008060000360000000000000e008e0000000300c00415600000001006284081020000002f05c02c6c60004000000000014020400008000000000000000000000000000280003e000000008000000000000000000000c40000000000088000e00000483100000b00b00022b80000 (Reg.ctorIdx rq) = false) : ((selfFence s)).get rq iq = State.get s rq iq :=
  reg_of iq (fun _ hk => keep_selfFence hk) rfl rfl rfl hq
@[simp] theorem dv_selfFence {s}   {rq iq} (hq : Nat.testBit 0x100000000000000000000000000000000000000000001e00060000000000000000000000000000000000 (Reg.ctorIdx rq) = false) : ((selfFence s)).dv rq iq = State.dv s rq iq :=
  dev_of iq (fun _ hk => keep_selfFence hk) rfl rfl rfl hq
@[simp] theorem ts_selfFence {s}   : ((selfFence s)).ts = State.ts s := ts_of (fun _ hk => keep_selfFence hk) rfl
@[simp] theorem get_timeLoss {s} {err}   {rq iq} (hq : Nat.testBit 0x60000000000000000000100000000002000000000000008000000008060000360000000000000e008e0000000300c00415600000001006284081020000002f05c02c6c60004000000000014020400008000000000000000000000000000280003e000000008000000000000000000000c40000000000088000e00000483100000b00b00022b80000 (Reg.ctorIdx rq) = false) : ((timeLoss s err)).get rq iq = State.get s rq iq :=
  reg_of iq (fun _ hk => keep_timeLoss hk) rfl rfl rfl hq
@[simp] theorem dv_timeLoss {s} {err}   {rq iq} (hq : Nat.testBit 0x100000000000000000000000000000000000000000001e00060000000000000000000000000000000000 (Reg.ctorIdx rq) = false) : ((timeLoss s err)).dv rq iq = State.dv s rq iq :=
  dev_of iq (fun _ hk => keep_timeLoss hk) rfl rfl rfl hq
@[simp] theorem ts_timeLoss {s} {err}   : ((timeLoss s err)).ts = State.ts s := ts_of (fun _ hk => keep_timeLoss hk) rfl
@[simp] theorem get_linkTimebaseLoss {s}   {rq iq} (hq : Nat.testBit 0x60000000000000000000100000000002000000000000008000000008060000360000000000000e008e0000000300c00415600000001006284081020000002f05c02c6c60004000000000014020400008000000000000000000000000000280003e000000008000000000000000000000c40000000000088000e00000483100000b00b00022b80000 (Reg.ctorIdx rq) = false) : ((linkTimebaseLoss s)).get rq iq = State.get s rq iq :=
  reg_of iq (fun _ hk => keep_linkTimebaseLoss hk) rfl rfl rfl hq
@[simp] theorem dv_linkTimebaseLoss {s}   {rq iq} (hq : Nat.testBit 0x100000000000000000000000000000000000000000001e00060000000000000000000000000000000000 (Reg.ctorIdx rq) = false) : ((linkTimebaseLoss s)).dv rq iq = State.dv s rq iq :=
  dev_of iq (fun _ hk => keep_linkTimebaseLoss hk) rfl rfl rfl hq
@[simp] theorem ts_linkTimebaseLoss {s}   : ((linkTimebaseLoss s)).ts = State.ts s := ts_of (fun _ hk => keep_linkTimebaseLoss hk) rfl
@[simp] theorem get_judgeHold {s}   {rq iq} (hq : Nat.testBit 0x18000000000000000000000000000000000000000000000000000000000000000000000000000000000000000000000000000000000000000000000000000000000000000000000000000000000000000000000000000000000000000000000000000000000000800000000000 (Reg.ctorIdx rq) = false) : ((judgeHold s)).get rq iq = State.get s rq iq :=
  reg_of iq (fun _ hk => keep_judgeHold hk) rfl rfl rfl hq
@[simp] theorem dv_judgeHold {s}   {rq iq} (hq : Nat.testBit 0x0 (Reg.ctorIdx rq) = false) : ((judgeHold s)).dv rq iq = State.dv s rq iq :=
  dev_of iq (fun _ hk => keep_judgeHold hk) rfl rfl rfl hq
@[simp] theorem se_judgeHold {xq : State} {s}   : SameEvents xq ((judgeHold s)) ↔ SameEvents xq s := se_of (fun _ hk => keep_judgeHold hk) rfl
@[simp] theorem ts_judgeHold {s}   : ((judgeHold s)).ts = State.ts s := ts_of (fun _ hk => keep_judgeHold hk) rfl
@[simp] theorem get_devEpochAdvance {s} {d}   {rq iq} (hq : Nat.testBit 0x6000000000000000000000000000000000000000000000000000000000000000000000000000000000000000000000000000000000000000000000000004000000000000000000000000000000000000000000000000000000000000000000000000000000000000000000000000000000000000000000000000000 (Reg.ctorIdx rq) = false) : ((devEpochAdvance s d)).get rq iq = State.get s rq iq :=
  reg_of iq (fun _ hk => keep_devEpochAdvance hk) rfl rfl rfl hq
@[simp] theorem dv_devEpochAdvance {s} {d}   {rq iq} (hq : Nat.testBit 0x0 (Reg.ctorIdx rq) = false) : ((devEpochAdvance s d)).dv rq iq = State.dv s rq iq :=
  dev_of iq (fun _ hk => keep_devEpochAdvance hk) rfl rfl rfl hq
@[simp] theorem se_devEpochAdvance {xq : State} {s} {d}   : SameEvents xq ((devEpochAdvance s d)) ↔ SameEvents xq s := se_of (fun _ hk => keep_devEpochAdvance hk) rfl
@[simp] theorem ts_devEpochAdvance {s} {d}   : ((devEpochAdvance s d)).ts = State.ts s := ts_of (fun _ hk => keep_devEpochAdvance hk) rfl
@[simp] theorem get_devEpochLate {s} {d}   {rq iq} (hq : Nat.testBit 0x6000000000000000000000000000000000000000000000000000000000000000000000000000000000000000000000000000000000000000000000000004000000000000000000000000000000000000000000000000000000000000000000000000000000000000000000000000000000000000000000000000000 (Reg.ctorIdx rq) = false) : ((devEpochLate s d)).get rq iq = State.get s rq iq :=
  reg_of iq (fun _ hk => keep_devEpochLate hk) rfl rfl rfl hq
@[simp] theorem dv_devEpochLate {s} {d}   {rq iq} (hq : Nat.testBit 0x0 (Reg.ctorIdx rq) = false) : ((devEpochLate s d)).dv rq iq = State.dv s rq iq :=
  dev_of iq (fun _ hk => keep_devEpochLate hk) rfl rfl rfl hq
@[simp] theorem se_devEpochLate {xq : State} {s} {d}   : SameEvents xq ((devEpochLate s d)) ↔ SameEvents xq s := se_of (fun _ hk => keep_devEpochLate hk) rfl
@[simp] theorem ts_devEpochLate {s} {d}   : ((devEpochLate s d)).ts = State.ts s := ts_of (fun _ hk => keep_devEpochLate hk) rfl
@[simp] theorem get_managerFence {s} {d}   {rq iq} (hq : Nat.testBit 0x20000000000000000000008400e000000000000000000000000000018000000360000000000000000000000000000000000000000000000000000000000000000000000000040000000006140000000000000000000000000000000000000000000000000000000000000000000000000000000000000000000000000000000000000b00022b00000 (Reg.ctorIdx rq) = false) : ((managerFence s d)).get rq iq = State.get s rq iq :=
  reg_of iq (fun _ hk => keep_managerFence hk) rfl rfl rfl hq
@[simp] theorem dv_managerFence {s} {d}   {rq iq} (hq : Nat.testBit 0x0 (Reg.ctorIdx rq) = false) : ((managerFence s d)).dv rq iq = State.dv s rq iq :=
  dev_of iq (fun _ hk => keep_managerFence hk) rfl rfl rfl hq
@[simp] theorem ts_managerFence {s} {d}   : ((managerFence s d)).ts = State.ts s := ts_of (fun _ hk => keep_managerFence hk) rfl
@[simp] theorem get_releaseHold {s} {d}   {rq iq} (hq : Nat.testBit 0x8000000000000000000000000000018000000000000000000000000000000000000000000000000000000000000000000000000000000000000000000000000000000000000000000000000000000000000000000000000000000000000000000000000000000000000000000000000000000000000800000000000 (Reg.ctorIdx rq) = false) : ((releaseHold s d)).get rq iq = State.get s rq iq :=
  reg_of iq (fun _ hk => keep_releaseHold hk) rfl rfl rfl hq
@[simp] theorem dv_releaseHold {s} {d}   {rq iq} (hq : Nat.testBit 0x0 (Reg.ctorIdx rq) = false) : ((releaseHold s d)).dv rq iq = State.dv s rq iq :=
  dev_of iq (fun _ hk => keep_releaseHold hk) rfl rfl rfl hq
@[simp] theorem se_releaseHold {xq : State} {s} {d}   : SameEvents xq ((releaseHold s d)) ↔ SameEvents xq s := se_of (fun _ hk => keep_releaseHold hk) rfl
@[simp] theorem ts_releaseHold {s} {d}   : ((releaseHold s d)).ts = State.ts s := ts_of (fun _ hk => keep_releaseHold hk) rfl
@[simp] theorem get_mirrorControlword {s} {g} {cw}   {rq iq} (hq : Nat.testBit 0x80048000000000000000000000000000018000000000000000000000000000000000000000000000000000000000000000000000000000000000000000000000000000000000000000000000000000000000000000000000000000000000000000000000000000000000000000000000000000000000000800000000000 (Reg.ctorIdx rq) = false) : ((mirrorControlword s g cw)).get rq iq = State.get s rq iq :=
  reg_of iq (fun _ hk => keep_mirrorControlword hk) rfl rfl rfl hq
@[simp] theorem dv_mirrorControlword {s} {g} {cw}   {rq iq} (hq : Nat.testBit 0x0 (Reg.ctorIdx rq) = false) : ((mirrorControlword s g cw)).dv rq iq = State.dv s rq iq :=
  dev_of iq (fun _ hk => keep_mirrorControlword hk) rfl rfl rfl hq
@[simp] theorem se_mirrorControlword {xq : State} {s} {g} {cw}   : SameEvents xq ((mirrorControlword s g cw)) ↔ SameEvents xq s := se_of (fun _ hk => keep_mirrorControlword hk) rfl
@[simp] theorem ts_mirrorControlword {s} {g} {cw}   : ((mirrorControlword s g cw)).ts = State.ts s := ts_of (fun _ hk => keep_mirrorControlword hk) rfl
@[simp] theorem get_workerJoin {s} {epoch} {ofs}   {rq iq} (hq : Nat.testBit 0x40000000000000000000000000000002000000000000000000000000000000000000000000000000000000000000000000000000000000000000000000000000000000000000000000000011200000000000000000000000000000000000000000000000000000000000000000000000000000000000000000000000000000000000000000000000 (Reg.ctorIdx rq) = false) : ((workerJoin s epoch ofs)).get rq iq = State.get s rq iq :=
  reg_of iq (fun _ hk => keep_workerJoin hk) rfl rfl rfl hq
@[simp] theorem dv_workerJoin {s} {epoch} {ofs}   {rq iq} (hq : Nat.testBit 0x0 (Reg.ctorIdx rq) = false) : ((workerJoin s epoch ofs)).dv rq iq = State.dv s rq iq :=
  dev_of iq (fun _ hk => keep_workerJoin hk) rfl rfl rfl hq
@[simp] theorem se_workerJoin {xq : State} {s} {epoch} {ofs}   : SameEvents xq ((workerJoin s epoch ofs)) ↔ SameEvents xq s := se_of (fun _ hk => keep_workerJoin hk) rfl
@[simp] theorem ts_workerJoin {s} {epoch} {ofs}   : ((workerJoin s epoch ofs)).ts = State.ts s := ts_of (fun _ hk => keep_workerJoin hk) rfl
@[simp] theorem get_workerRejoin {s} {d} {epoch} {ofs}   {rq iq} (hq : Nat.testBit 0x340000000000000000000000008800002000000000000000000000018000000000000000000000000000000000000000000000000000000000000000000000000000000000040000000002011200000000000000000000000000000000000000000000000000000000000000000000000000000000000000000000000000000000000b00022b00000 (Reg.ctorIdx rq) = false) : ((workerRejoin s d epoch ofs)).get rq iq = State.get s rq iq :=
  reg_of iq (fun _ hk => keep_workerRejoin hk) rfl rfl rfl hq
@[simp] theorem dv_workerRejoin {s} {d} {epoch} {ofs}   {rq iq} (hq : Nat.testBit 0x0 (Reg.ctorIdx rq) = false) : ((workerRejoin s d epoch ofs)).dv rq iq = State.dv s rq iq :=
  dev_of iq (fun _ hk => keep_workerRejoin hk) rfl rfl rfl hq
@[simp] theorem ts_workerRejoin {s} {d} {epoch} {ofs}   : ((workerRejoin s d epoch ofs)).ts = State.ts s := ts_of (fun _ hk => keep_workerRejoin hk) rfl
@[simp] theorem get_takeDown {s} {i} {ws}   {rq iq} (hq : Nat.testBit 0xf00000000000000000000000000000000000000000000000000000000000000000000000000000000000000000000000000000000000000f000000400000000000000000008000000000000000000000000000000000000000000000000000000000000000000000000000000000000000000001b0000000300026b80000 (Reg.ctorIdx rq) = false) : ((takeDown s i ws)).get rq iq = State.get s rq iq :=
  reg_of iq (fun _ hk => keep_takeDown hk) rfl rfl rfl hq
@[simp] theorem dv_takeDown {s} {i} {ws}   {rq iq} (hq : Nat.testBit 0x0 (Reg.ctorIdx rq) = false) : ((takeDown s i ws)).dv rq iq = State.dv s rq iq :=
  dev_of iq (fun _ hk => keep_takeDown hk) rfl rfl rfl hq
@[simp] theorem ts_takeDown {s} {i} {ws}   : ((takeDown s i ws)).ts = State.ts s := ts_of (fun _ hk => keep_takeDown hk) rfl
@[simp] theorem get_takeWords {s l ws}  {rq iq} (hq : Nat.testBit 0xf00000000000000000000000000000000000000000000000000000000000000000000000000000000000000000000000000000000000000f000000400000000000000000008000000000000000000000000000000000000000000000000000000000000000000000000000000000000000000001b0000000300026b80000 (Reg.ctorIdx rq) = false) : ((takeWords s l ws)).get rq iq = State.get s rq iq :=
  reg_of iq (fun _ hk => keep_takeWords hk) rfl rfl rfl hq
@[simp] theorem dv_takeWords {s l ws}  {rq iq} (hq : Nat.testBit 0x0 (Reg.ctorIdx rq) = false) : ((takeWords s l ws)).dv rq iq = State.dv s rq iq :=
  dev_of iq (fun _ hk => keep_takeWords hk) rfl rfl rfl hq
@[simp] theorem ts_takeWords {s l ws}  : ((takeWords s l ws)).ts = State.ts s := ts_of (fun _ hk => keep_takeWords hk) rfl
@[simp] theorem get_takeTime {s} {f} {arrival}   {rq iq} (hq : Nat.testBit 0x60000000000000000000100000000802000000000000008000000008060000360000000000000e008e0000000300c00415600000001006284081020000002f05c02c6c60004000000000015c20400008000000000000000000000000000280003e000000008000000000000000000000c40000000000088000e00000483100000b00b00022b80000 (Reg.ctorIdx rq) = false) : ((takeTime s f arrival)).get rq iq = State.get s rq iq :=
  reg_of iq (fun _ hk => keep_takeTime hk) rfl rfl rfl hq
@[simp] theorem dv_takeTime {s} {f} {arrival}   {rq iq} (hq : Nat.testBit 0x100000000000000000000000000000000000000000001e00060000000000000000000000000000000000 (Reg.ctorIdx rq) = false) : ((takeTime s f arrival)).dv rq iq = State.dv s rq iq :=
  dev_of iq (fun _ hk => keep_takeTime hk) rfl rfl rfl hq
@[simp] theorem ts_takeTime {s} {f} {arrival}   : ((takeTime s f arrival)).ts = State.ts s := ts_of (fun _ hk => keep_takeTime hk) rfl
@[simp] theorem get_cycleSync {s} {f}   {rq iq} (hq : Nat.testBit 0xfe0000000000000000000040000000000000000000000000000000000000000000000000000000000000000000000000000000000000000000000000000000001062000000000000300022b00000 (Reg.ctorIdx rq) = false) : ((cycleSync s f)).get rq iq = State.get s rq iq :=
  reg_of iq (fun _ hk => keep_cycleSync hk) rfl rfl rfl hq
@[simp] theorem dv_cycleSync {s} {f}   {rq iq} (hq : Nat.testBit 0x0 (Reg.ctorIdx rq) = false) : ((cycleSync s f)).dv rq iq = State.dv s rq iq :=
  dev_of iq (fun _ hk => keep_cycleSync hk) rfl rfl rfl hq
@[simp] theorem ts_cycleSync {s} {f}   : ((cycleSync s f)).ts = State.ts s := ts_of (fun _ hk => keep_cycleSync hk) rfl
@[simp] theorem get_takeGo {s} {f}   {rq iq} (hq : Nat.testBit 0x60400000000000000000000040000000000000000000000000000000000000000000000000000000000000000000000000000000a000000000000000000000000000000000000000000000000000300000000000000000000000000000000000000000000000000000000000000000300000000000000000000000 (Reg.ctorIdx rq) = false) : ((takeGo s f)).get rq iq = State.get s rq iq :=
  reg_of iq (fun _ hk => keep_takeGo hk) rfl rfl rfl hq
@[simp] theorem dv_takeGo {s} {f}   {rq iq} (hq : Nat.testBit 0x0 (Reg.ctorIdx rq) = false) : ((takeGo s f)).dv rq iq = State.dv s rq iq :=
  dev_of iq (fun _ hk => keep_takeGo hk) rfl rfl rfl hq
@[simp] theorem se_takeGo {xq : State} {s} {f}   : SameEvents xq ((takeGo s f)) ↔ SameEvents xq s := se_of (fun _ hk => keep_takeGo hk) rfl
@[simp] theorem ts_takeGo {s} {f}   : ((takeGo s f)).ts = State.ts s := ts_of (fun _ hk => keep_takeGo hk) rfl
@[simp] theorem get_cycleTaken {s} {arrival} {f}   {rq iq} (hq : Nat.testBit 0x60000000000000000000f00000604002000000000000008000400008060000360000000000000e008e0000000300c00415600000001006284081fe0000002f05c0af6c6000400000000001d120400088000000000000000000000030000280003e000000008000000000000000000000c40000000000088000e010627831b0000b00b00026b80000 (Reg.ctorIdx rq) = false) : ((cycleTaken s arrival f)).get rq iq = State.get s rq iq :=
  reg_of iq (fun _ hk => keep_cycleTaken hk) rfl rfl rfl hq
@[simp] theorem dv_cycleTaken {s} {arrival} {f}   {rq iq} (hq : Nat.testBit 0x100000000000000000000000000000000000000000001e00060000000000000000000000000000000000 (Reg.ctorIdx rq) = false) : ((cycleTaken s arrival f)).dv rq iq = State.dv s rq iq :=
  dev_of iq (fun _ hk => keep_cycleTaken hk) rfl rfl rfl hq
@[simp] theorem ts_cycleTaken {s} {arrival} {f}   : ((cycleTaken s arrival f)).ts = State.ts s := ts_of (fun _ hk => keep_cycleTaken hk) rfl
@[simp] theorem get_cycleFrame {s} {lane} {arrival} {f}   {rq iq} (hq : Nat.testBit 0x60000000000000000000f0000060490a000000000000008000400008060000360000000000000e008e0000000300c00415600000001006284081fe0000002f05c0af6c6000400000000001dda0400088000000000000000000000030000280003e000000008000000000000000000000c40000000000088000e010627831b0000b00b00026b80000 (Reg.ctorIdx rq) = false) : ((cycleFrame s lane arrival f)).get rq iq = State.get s rq iq :=
  reg_of iq (fun _ hk => keep_cycleFrame hk) rfl rfl rfl hq
@[simp] theorem dv_cycleFrame {s} {lane} {arrival} {f}   {rq iq} (hq : Nat.testBit 0x100000000000000000000000000000000000000000001e00060000000000000000000000000000000000 (Reg.ctorIdx rq) = false) : ((cycleFrame s lane arrival f)).dv rq iq = State.dv s rq iq :=
  dev_of iq (fun _ hk => keep_cycleFrame hk) rfl rfl rfl hq
@[simp] theorem ts_cycleFrame {s} {lane} {arrival} {f}   : ((cycleFrame s lane arrival f)).ts = State.ts s := ts_of (fun _ hk => keep_cycleFrame hk) rfl
@[simp] theorem get_applyRing {s} {i}   {rq iq} (hq : Nat.testBit 0x2000000000000000000010000000000000000000000000800000002c060000360000000002000e07ae800000e300f004156008200010062842ff0f1000023fbdf02dece000400000000000000040000800000000000000000000000000028000162000000088d8000280c00000140000c4001800000008800ae00002483100000b00b00022b80000 (Reg.ctorIdx rq) = false) : ((applyRing s i)).get rq iq = State.get s rq iq :=
  reg_of iq (fun _ hk => keep_applyRing hk) rfl rfl rfl hq
@[simp] theorem dv_applyRing {s} {i}   {rq iq} (hq : Nat.testBit 0x100000000000000000000000000000000000000000001e000601f5000000000000000000000000000000 (Reg.ctorIdx rq) = false) : ((applyRing s i)).dv rq iq = State.dv s rq iq :=
  dev_of iq (fun _ hk => keep_applyRing hk) rfl rfl rfl hq
@[simp] theorem ts_applyRing {s} {i}   : ((applyRing s i)).ts = State.ts s := ts_of (fun _ hk => keep_applyRing hk) rfl
@[simp] theorem get_workerLocked {s}   {rq iq} (hq : Nat.testBit 0x2000000000000000000000000000000000000000000000000000000000000000000000000000000000000000000000000000000000000000000000000200000000000000000000000000000000000000000000000000000000000000000000000000000000000000000000000000000000000000000000000 (Reg.ctorIdx rq) = false) : ((workerLocked s)).get rq iq = State.get s rq iq :=
  reg_of iq (fun _ hk => keep_workerLocked hk) rfl rfl rfl hq
@[simp] theorem dv_workerLocked {s}   {rq iq} (hq : Nat.testBit 0x0 (Reg.ctorIdx rq) = false) : ((workerLocked s)).dv rq iq = State.dv s rq iq :=
  dev_of iq (fun _ hk => keep_workerLocked hk) rfl rfl rfl hq
@[simp] theorem se_workerLocked {xq : State} {s}   : SameEvents xq ((workerLocked s)) ↔ SameEvents xq s := se_of (fun _ hk => keep_workerLocked hk) rfl
@[simp] theorem ts_workerLocked {s}   : ((workerLocked s)).ts = State.ts s := ts_of (fun _ hk => keep_workerLocked hk) rfl
@[simp] theorem get_mirrorSlot {s} {g} {ws}   {rq iq} (hq : Nat.testBit 0x7c000000000000000000000000000000000000000000000000000000000000000000000000000000000000000000000000000000000000000000000000000000000000000000000000000000000000000000000000000000000000000000000000000000000000000000000000000000000000000000000000000000000 (Reg.ctorIdx rq) = false) : ((mirrorSlot s g ws)).get rq iq = State.get s rq iq :=
  reg_of iq (fun _ hk => keep_mirrorSlot hk) rfl rfl rfl hq
@[simp] theorem dv_mirrorSlot {s} {g} {ws}   {rq iq} (hq : Nat.testBit 0x0 (Reg.ctorIdx rq) = false) : ((mirrorSlot s g ws)).dv rq iq = State.dv s rq iq :=
  dev_of iq (fun _ hk => keep_mirrorSlot hk) rfl rfl rfl hq
@[simp] theorem se_mirrorSlot {xq : State} {s} {g} {ws}   : SameEvents xq ((mirrorSlot s g ws)) ↔ SameEvents xq s := se_of (fun _ hk => keep_mirrorSlot hk) rfl
@[simp] theorem ts_mirrorSlot {s} {g} {ws}   : ((mirrorSlot s g ws)).ts = State.ts s := ts_of (fun _ hk => keep_mirrorSlot hk) rfl
@[simp] theorem get_mirrorWords {s l ws}  {rq iq} (hq : Nat.testBit 0x7c000000000000000000000000000000000000000000000000000000000000000000000000000000000000000000000000000000000000000000000000000000000000000000000000000000000000000000000000000000000000000000000000000000000000000000000000000000000000000000000000000000000 (Reg.ctorIdx rq) = false) : ((mirrorWords s l ws)).get rq iq = State.get s rq iq :=
  reg_of iq (fun _ hk => keep_mirrorWords hk) rfl rfl rfl hq
@[simp] theorem dv_mirrorWords {s l ws}  {rq iq} (hq : Nat.testBit 0x0 (Reg.ctorIdx rq) = false) : ((mirrorWords s l ws)).dv rq iq = State.dv s rq iq :=
  dev_of iq (fun _ hk => keep_mirrorWords hk) rfl rfl rfl hq
@[simp] theorem se_mirrorWords {xq : State} {s l ws}  : SameEvents xq ((mirrorWords s l ws)) ↔ SameEvents xq s := se_of (fun _ hk => keep_mirrorWords hk) rfl
@[simp] theorem ts_mirrorWords {s l ws}  : ((mirrorWords s l ws)).ts = State.ts s := ts_of (fun _ hk => keep_mirrorWords hk) rfl
@[simp] theorem get_takeUp {s} {u}   {rq iq} (hq : Nat.testBit 0x34000000000000000000007c00980000200000000000000000000001800000000000000000000000000000000000000000000000000000000000000000000000000000000004000000000a091200000200000000000000000000000000000000000000000000000000000000000000000000000000000000000000000000000000000b00022b00000 (Reg.ctorIdx rq) = false) : ((takeUp s u)).get rq iq = State.get s rq iq :=
  reg_of iq (fun _ hk => keep_takeUp hk) rfl rfl rfl hq
@[simp] theorem dv_takeUp {s} {u}   {rq iq} (hq : Nat.testBit 0x0 (Reg.ctorIdx rq) = false) : ((takeUp s u)).dv rq iq = State.dv s rq iq :=
  dev_of iq (fun _ hk => keep_takeUp hk) rfl rfl rfl hq
@[simp] theorem ts_takeUp {s} {u}   : ((takeUp s u)).ts = State.ts s := ts_of (fun _ hk => keep_takeUp hk) rfl
@[simp] theorem get_judgeRing {s} {breakAt}   {rq iq} (hq : Nat.testBit 0x700360000000000000000000000000000000000000000000000000000000000000000000000000040060000000000200000180000000000000000000000000000000000000000000000000000000000000000000000000000000000000000000000000000300022b00000 (Reg.ctorIdx rq) = false) : ((judgeRing s breakAt)).get rq iq = State.get s rq iq :=
  reg_of iq (fun _ hk => keep_judgeRing hk) rfl rfl rfl hq
@[simp] theorem dv_judgeRing {s} {breakAt}   {rq iq} (hq : Nat.testBit 0x0 (Reg.ctorIdx rq) = false) : ((judgeRing s breakAt)).dv rq iq = State.dv s rq iq :=
  dev_of iq (fun _ hk => keep_judgeRing hk) rfl rfl rfl hq
@[simp] theorem ts_judgeRing {s} {breakAt}   : ((judgeRing s breakAt)).ts = State.ts s := ts_of (fun _ hk => keep_judgeRing hk) rfl
@[simp] theorem get_frameReturn {s} {lane} {good} {wrapped} {breakAt} {ups}   {rq iq} (hq : Nat.testBit 0x34000000000000000000007c00980330200000000000000000000001800070036000000000000000000000000000000000000000000000000000000000000000000000000004006000000a091200000380000000000000000000000000000000000000000000000000000000000000000000000000000000000000000000000000000b00022b00000 (Reg.ctorIdx rq) = false) : ((frameReturn s lane good wrapped breakAt ups)).get rq iq = State.get s rq iq :=
  reg_of iq (fun _ hk => keep_frameReturn hk) rfl rfl rfl hq
@[simp] theorem dv_frameReturn {s} {lane} {good} {wrapped} {breakAt} {ups}   {rq iq} (hq : Nat.testBit 0x0 (Reg.ctorIdx rq) = false) : ((frameReturn s lane good wrapped breakAt ups)).dv rq iq = State.dv s rq iq :=
  dev_of iq (fun _ hk => keep_frameReturn hk) rfl rfl rfl hq
@[simp] theorem ts_frameReturn {s} {lane} {good} {wrapped} {breakAt} {ups}   : ((frameReturn s lane good wrapped breakAt ups)).ts = State.ts s := ts_of (fun _ hk => keep_frameReturn hk) rfl
@[simp] theorem get_laneDown {s} {lane}   {rq iq} (hq : Nat.testBit 0x100000000000000000000000000000700360000000000000000000000000000000000000000000000000000000000000000000000000040060000000060000000100000000000000000000000000000000000000000000000000000000000000000000000000000000000000000000000000000300022b00000 (Reg.ctorIdx rq) = false) : ((laneDown s lane)).get rq iq = State.get s rq iq :=
  reg_of iq (fun _ hk => keep_laneDown hk) rfl rfl rfl hq
@[simp] theorem dv_laneDown {s} {lane}   {rq iq} (hq : Nat.testBit 0x0 (Reg.ctorIdx rq) = false) : ((laneDown s lane)).dv rq iq = State.dv s rq iq :=
  dev_of iq (fun _ hk => keep_laneDown hk) rfl rfl rfl hq
@[simp] theorem ts_laneDown {s} {lane}   : ((laneDown s lane)).ts = State.ts s := ts_of (fun _ hk => keep_laneDown hk) rfl
@[simp] theorem get_laneUp {s} {lane}   {rq iq} (hq : Nat.testBit 0x40000000000020000000000000000000000000000000000000000000000000000000000000000000000000000000000000000000000000000000000000300022b00000 (Reg.ctorIdx rq) = false) : ((laneUp s lane)).get rq iq = State.get s rq iq :=
  reg_of iq (fun _ hk => keep_laneUp hk) rfl rfl rfl hq
@[simp] theorem dv_laneUp {s} {lane}   {rq iq} (hq : Nat.testBit 0x0 (Reg.ctorIdx rq) = false) : ((laneUp s lane)).dv rq iq = State.dv s rq iq :=
  dev_of iq (fun _ hk => keep_laneUp hk) rfl rfl rfl hq
@[simp] theorem ts_laneUp {s} {lane}   : ((laneUp s lane)).ts = State.ts s := ts_of (fun _ hk => keep_laneUp hk) rfl
@[simp] theorem get_roundTrip {s} {lane} {trip} {turnaround}   {rq iq} (hq : Nat.testBit 0x400000000000000000000000000000000000000000000000000000000000000000000000000000000000000000000000000000000000000000000000000000000000000000000000000000000000000000000000000000000000000000000000000000000000000000000000000000000000000000000000000 (Reg.ctorIdx rq) = false) : ((roundTrip s lane trip turnaround)).get rq iq = State.get s rq iq :=
  reg_of iq (fun _ hk => keep_roundTrip hk) rfl rfl rfl hq
@[simp] theorem dv_roundTrip {s} {lane} {trip} {turnaround}   {rq iq} (hq : Nat.testBit 0x0 (Reg.ctorIdx rq) = false) : ((roundTrip s lane trip turnaround)).dv rq iq = State.dv s rq iq :=
  dev_of iq (fun _ hk => keep_roundTrip hk) rfl rfl rfl hq
@[simp] theorem se_roundTrip {xq : State} {s} {lane} {trip} {turnaround}   : SameEvents xq ((roundTrip s lane trip turnaround)) ↔ SameEvents xq s := se_of (fun _ hk => keep_roundTrip hk) rfl
@[simp] theorem ts_roundTrip {s} {lane} {trip} {turnaround}   : ((roundTrip s lane trip turnaround)).ts = State.ts s := ts_of (fun _ hk => keep_roundTrip hk) rfl
@[simp] theorem get_ringSheet {s} {t}   {rq iq} (hq : Nat.testBit 0x7c0000000000000000000000400000000000000000000000000000000000000000000000000000000000000000000000000000000000000000000000000000000000000000000000000000000000300000000000000000000000000000000000000000000000000000000000000000000000000000000000000000 (Reg.ctorIdx rq) = false) : ((ringSheet s t).1).get rq iq = State.get s rq iq :=
  reg_of iq (fun _ hk => keep_ringSheet hk) rfl rfl rfl hq
@[simp] theorem dv_ringSheet {s} {t}   {rq iq} (hq : Nat.testBit 0x0 (Reg.ctorIdx rq) = false) : ((ringSheet s t).1).dv rq iq = State.dv s rq iq :=
  dev_of iq (fun _ hk => keep_ringSheet hk) rfl rfl rfl hq
@[simp] theorem se_ringSheet {xq : State} {s} {t}   : SameEvents xq ((ringSheet s t).1) ↔ SameEvents xq s := se_of (fun _ hk => keep_ringSheet hk) rfl
@[simp] theorem ts_ringSheet {s} {t}   : ((ringSheet s t).1).ts = State.ts s := ts_of (fun _ hk => keep_ringSheet hk) rfl
@[simp] theorem get_ringSheetDone {s} {parts}   {rq iq} (hq : Nat.testBit 0x140000000000000000000000000000000000000000000000000000000000000000000000000000000000000000000000000000000000000040000000000040000000000000000000000000000000000000000000000000000000000000000000000000000000000000000000000000000000000000300022b00000 (Reg.ctorIdx rq) = false) : ((ringSheetDone s parts)).get rq iq = State.get s rq iq :=
  reg_of iq (fun _ hk => keep_ringSheetDone hk) rfl rfl rfl hq
@[simp] theorem dv_ringSheetDone {s} {parts}   {rq iq} (hq : Nat.testBit 0x0 (Reg.ctorIdx rq) = false) : ((ringSheetDone s parts)).dv rq iq = State.dv s rq iq :=
  dev_of iq (fun _ hk => keep_ringSheetDone hk) rfl rfl rfl hq
@[simp] theorem ts_ringSheetDone {s} {parts}   : ((ringSheetDone s parts)).ts = State.ts s := ts_of (fun _ hk => keep_ringSheetDone hk) rfl
@[simp] theorem get_tunnelBegin {s} {write} {bytes}   {rq iq} (hq : Nat.testBit 0x38000000000000000000000000000000000000000000000000000000000000000000000000000000000000000000000000000000000000000000000000000000000000000000000000000000000000000000000000000000000000000000000000000000000000000000000000000000000000000000000000000000000000 (Reg.ctorIdx rq) = false) : ((tunnelBegin s write bytes).1).get rq iq = State.get s rq iq :=
  reg_of iq (fun _ hk => keep_tunnelBegin hk) rfl rfl rfl hq
@[simp] theorem dv_tunnelBegin {s} {write} {bytes}   {rq iq} (hq : Nat.testBit 0x0 (Reg.ctorIdx rq) = false) : ((tunnelBegin s write bytes).1).dv rq iq = State.dv s rq iq :=
  dev_of iq (fun _ hk => keep_tunnelBegin hk) rfl rfl rfl hq
@[simp] theorem se_tunnelBegin {xq : State} {s} {write} {bytes}   : SameEvents xq ((tunnelBegin s write bytes).1) ↔ SameEvents xq s := se_of (fun _ hk => keep_tunnelBegin hk) rfl
@[simp] theorem ts_tunnelBegin {s} {write} {bytes}   : ((tunnelBegin s write bytes).1).ts = State.ts s := ts_of (fun _ hk => keep_tunnelBegin hk) rfl
@[simp] theorem get_tunnelTransfer {s} {write} {bytes} {abort} {data}   {rq iq} (hq : Nat.testBit 0x38000000000000000000000000000000000000000000000000000000000000000000000000000000000000000000000000000000000000000000000080000000000000000000000000000000000000000000000000000000000000000000000000000000000000000000000000000000000000000000000000000000000000 (Reg.ctorIdx rq) = false) : ((tunnelTransfer s write bytes abort data)).get rq iq = State.get s rq iq :=
  reg_of iq (fun _ hk => keep_tunnelTransfer hk) rfl rfl rfl hq
@[simp] theorem dv_tunnelTransfer {s} {write} {bytes} {abort} {data}   {rq iq} (hq : Nat.testBit 0x0 (Reg.ctorIdx rq) = false) : ((tunnelTransfer s write bytes abort data)).dv rq iq = State.dv s rq iq :=
  dev_of iq (fun _ hk => keep_tunnelTransfer hk) rfl rfl rfl hq
@[simp] theorem se_tunnelTransfer {xq : State} {s} {write} {bytes} {abort} {data}   : SameEvents xq ((tunnelTransfer s write bytes abort data)) ↔ SameEvents xq s := se_of (fun _ hk => keep_tunnelTransfer hk) rfl
@[simp] theorem ts_tunnelTransfer {s} {write} {bytes} {abort} {data}   : ((tunnelTransfer s write bytes abort data)).ts = State.ts s := ts_of (fun _ hk => keep_tunnelTransfer hk) rfl
@[simp] theorem get_tunnelTimeout {s}   {rq iq} (hq : Nat.testBit 0x8000000000000000000000000000000000000000000000000000000000000000000000000000000000000000000000000000000000000000000000080000000000000000000000000000000000000000000000000000000000000000000000000000000000000000000000000000000000000000000000000000000000000 (Reg.ctorIdx rq) = false) : ((tunnelTimeout s)).get rq iq = State.get s rq iq :=
  reg_of iq (fun _ hk => keep_tunnelTimeout hk) rfl rfl rfl hq
@[simp] theorem dv_tunnelTimeout {s}   {rq iq} (hq : Nat.testBit 0x0 (Reg.ctorIdx rq) = false) : ((tunnelTimeout s)).dv rq iq = State.dv s rq iq :=
  dev_of iq (fun _ hk => keep_tunnelTimeout hk) rfl rfl rfl hq
@[simp] theorem se_tunnelTimeout {xq : State} {s}   : SameEvents xq ((tunnelTimeout s)) ↔ SameEvents xq s := se_of (fun _ hk => keep_tunnelTimeout hk) rfl
@[simp] theorem ts_tunnelTimeout {s}   : ((tunnelTimeout s)).ts = State.ts s := ts_of (fun _ hk => keep_tunnelTimeout hk) rfl
@[simp] theorem dv_fieldReject {s} {r} {i}   {rq iq} (hq : Nat.testBit 0x0 (Reg.ctorIdx rq) = false) : ((fieldReject s r i)).dv rq iq = State.dv s rq iq :=
  dev_of iq (fun _ hk => keep_fieldReject hk) rfl rfl rfl hq
@[simp] theorem ts_fieldReject {s} {r} {i}   : ((fieldReject s r i)).ts = State.ts s := ts_of (fun _ hk => keep_fieldReject hk) rfl
@[simp] theorem get_encPreset {s} {c} {v}   {rq iq} (hq : Nat.testBit 0x40000000000000000000000000000000000000000000000006880000000000000000000000000000000000000000000000000000000000000000000000300022b00000 (Reg.ctorIdx rq) = false) : ((encPreset s c v)).get rq iq = State.get s rq iq :=
  reg_of iq (fun _ hk => keep_encPreset hk) rfl rfl rfl hq
@[simp] theorem dv_encPreset {s} {c} {v}   {rq iq} (hq : Nat.testBit 0x0 (Reg.ctorIdx rq) = false) : ((encPreset s c v)).dv rq iq = State.dv s rq iq :=
  dev_of iq (fun _ hk => keep_encPreset hk) rfl rfl rfl hq
@[simp] theorem ts_encPreset {s} {c} {v}   : ((encPreset s c v)).ts = State.ts s := ts_of (fun _ hk => keep_encPreset hk) rfl
@[simp] theorem get_refusePointer {s} {q} {wr}   {rq iq} (hq : Nat.testBit 0xc800000 (Reg.ctorIdx rq) = false) : ((refusePointer s q wr)).get rq iq = State.get s rq iq :=
  reg_of iq (fun _ hk => keep_refusePointer hk) rfl rfl rfl hq
@[simp] theorem dv_refusePointer {s} {q} {wr}   {rq iq} (hq : Nat.testBit 0x0 (Reg.ctorIdx rq) = false) : ((refusePointer s q wr)).dv rq iq = State.dv s rq iq :=
  dev_of iq (fun _ hk => keep_refusePointer hk) rfl rfl rfl hq
@[simp] theorem ts_refusePointer {s} {q} {wr}   : ((refusePointer s q wr)).ts = State.ts s := ts_of (fun _ hk => keep_refusePointer hk) rfl
@[simp] theorem get_advanceWr {q n s}  {rq iq} (hq : Nat.testBit 0xf000000400000000000000000008000000000000000000000000000000000000000000000000000000000000000000000000000000000000000000001b0000000300022b80000 (Reg.ctorIdx rq) = false) : ((advanceWr q n s)).get rq iq = State.get s rq iq :=
  reg_of iq (fun _ hk => keep_advanceWr hk) rfl rfl rfl hq
@[simp] theorem dv_advanceWr {q n s}  {rq iq} (hq : Nat.testBit 0x0 (Reg.ctorIdx rq) = false) : ((advanceWr q n s)).dv rq iq = State.dv s rq iq :=
  dev_of iq (fun _ hk => keep_advanceWr hk) rfl rfl rfl hq
@[simp] theorem ts_advanceWr {q n s}  : ((advanceWr q n s)).ts = State.ts s := ts_of (fun _ hk => keep_advanceWr hk) rfl
@[simp] theorem get_qwrWrite {s} {path} {q} {v}   {rq iq} (hq : Nat.testBit 0xf000000400000000000000000008000000000000000000000000000000000000000000000000000000000000000000000000000000000000000000001b000000030002eb80000 (Reg.ctorIdx rq) = false) : ((qwrWrite s path q v).1).get rq iq = State.get s rq iq :=
  reg_of iq (fun _ hk => keep_qwrWrite hk) rfl rfl rfl hq
@[simp] theorem dv_qwrWrite {s} {path} {q} {v}   {rq iq} (hq : Nat.testBit 0x0 (Reg.ctorIdx rq) = false) : ((qwrWrite s path q v).1).dv rq iq = State.dv s rq iq :=
  dev_of iq (fun _ hk => keep_qwrWrite hk) rfl rfl rfl hq
@[simp] theorem ts_qwrWrite {s} {path} {q} {v}   : ((qwrWrite s path q v).1).ts = State.ts s := ts_of (fun _ hk => keep_qwrWrite hk) rfl
@[simp] theorem get_qrdWrite {s} {q} {v}   {rq iq} (hq : Nat.testBit 0x4000000000000000000000000000000000000000000000000000000000000000000000000000000000000000000000000000000000000000000000000030002eb80000 (Reg.ctorIdx rq) = false) : ((qrdWrite s q v).1).get rq iq = State.get s rq iq :=
  reg_of iq (fun _ hk => keep_qrdWrite hk) rfl rfl rfl hq
@[simp] theorem dv_qrdWrite {s} {q} {v}   {rq iq} (hq : Nat.testBit 0x0 (Reg.ctorIdx rq) = false) : ((qrdWrite s q v).1).dv rq iq = State.dv s rq iq :=
  dev_of iq (fun _ hk => keep_qrdWrite hk) rfl rfl rfl hq
@[simp] theorem ts_qrdWrite {s} {q} {v}   : ((qrdWrite s q v).1).ts = State.ts s := ts_of (fun _ hk => keep_qrdWrite hk) rfl
@[simp] theorem dv_fieldApply {s} {path} {r} {i} {v}   {rq iq} (hq : Nat.testBit 0x100000000000000000000000000000000000000000001e00060000000000000000000000000000000000 (Reg.ctorIdx rq) = false) : ((fieldApply s path r i v).1).dv rq iq = State.dv s rq iq :=
  dev_of iq (fun _ hk => keep_fieldApply hk) rfl rfl rfl hq
@[simp] theorem ts_fieldApply {s} {path} {r} {i} {v}   : ((fieldApply s path r i v).1).ts = State.ts s := ts_of (fun _ hk => keep_fieldApply hk) rfl
@[simp] theorem dv_fieldWrite {s} {path} {look} {r} {i} {v}   {rq iq} (hq : Nat.testBit 0x100000000000000000000000000000000000000000001e00060000000000000000000000000000000000 (Reg.ctorIdx rq) = false) : ((fieldWrite s path look r i v).1).dv rq iq = State.dv s rq iq :=
  dev_of iq (fun _ hk => keep_fieldWrite hk) rfl rfl rfl hq
@[simp] theorem ts_fieldWrite {s} {path} {look} {r} {i} {v}   : ((fieldWrite s path look r i v).1).ts = State.ts s := ts_of (fun _ hk => keep_fieldWrite hk) rfl
@[simp] theorem get_followRestart {s} {i}   {rq iq} (hq : Nat.testBit 0x300000000000000000000000000000000000000000000000000000000000000000000000000000000000000000000000000000000000000000000000000008000000000000000000008000000000000 (Reg.ctorIdx rq) = false) : ((followRestart s i)).get rq iq = State.get s rq iq :=
  reg_of iq (fun _ hk => keep_followRestart hk) rfl rfl rfl hq
@[simp] theorem dv_followRestart {s} {i}   {rq iq} (hq : Nat.testBit 0x0 (Reg.ctorIdx rq) = false) : ((followRestart s i)).dv rq iq = State.dv s rq iq :=
  dev_of iq (fun _ hk => keep_followRestart hk) rfl rfl rfl hq
@[simp] theorem se_followRestart {xq : State} {s} {i}   : SameEvents xq ((followRestart s i)) ↔ SameEvents xq s := se_of (fun _ hk => keep_followRestart hk) rfl
@[simp] theorem ts_followRestart {s} {i}   : ((followRestart s i)).ts = State.ts s := ts_of (fun _ hk => keep_followRestart hk) rfl
@[simp] theorem get_vwCalRun {s} {i}   {rq iq} (hq : Nat.testBit 0xe043f000000000000000000000000000000000000000040000000000000000000000000000000000000000000000000000000000000000000000000000000000000c40000000000000000000000000000000000300022b00000 (Reg.ctorIdx rq) = false) : ((vwCalRun s i).1).get rq iq = State.get s rq iq :=
  reg_of iq (fun _ hk => keep_vwCalRun hk) rfl rfl rfl hq
@[simp] theorem dv_vwCalRun {s} {i}   {rq iq} (hq : Nat.testBit 0x3000000000000000000000000000000000000000000000000000 (Reg.ctorIdx rq) = false) : ((vwCalRun s i).1).dv rq iq = State.dv s rq iq :=
  dev_of iq (fun _ hk => keep_vwCalRun hk) rfl rfl rfl hq
@[simp] theorem ts_vwCalRun {s} {i}   : ((vwCalRun s i).1).ts = State.ts s := ts_of (fun _ hk => keep_vwCalRun hk) rfl
@[simp] theorem get_queueReset {s} {q} {offered}   {rq iq} (hq : Nat.testBit 0x800000040000000180000000000000000000000000000000000000000000000000000000000000000000000000000000000000000000000000000000100000000300032b80000 (Reg.ctorIdx rq) = false) : ((queueReset s q offered).1).get rq iq = State.get s rq iq :=
  reg_of iq (fun _ hk => keep_queueReset hk) rfl rfl rfl hq
@[simp] theorem dv_queueReset {s} {q} {offered}   {rq iq} (hq : Nat.testBit 0x70000 (Reg.ctorIdx rq) = false) : ((queueReset s q offered).1).dv rq iq = State.dv s rq iq :=
  dev_of iq (fun _ hk => keep_queueReset hk) rfl rfl rfl hq
@[simp] theorem ts_queueReset {s} {q} {offered}   : ((queueReset s q offered).1).ts = State.ts s := ts_of (fun _ hk => keep_queueReset hk) rfl
@[simp] theorem dv_command {s} {r} {i} {v}   {rq iq} (hq : Nat.testBit 0x1802000000000000000000000000000000000000000000000000000000000000000000000000000000000000000000000000000000000000000000070000 (Reg.ctorIdx rq) = false) : ((command s r i v).1).dv rq iq = State.dv s rq iq :=
  dev_of iq (fun _ hk => keep_command hk) rfl rfl rfl hq
@[simp] theorem ts_command {s} {r} {i} {v}   : ((command s r i v).1).ts = State.ts s := ts_of (fun _ hk => keep_command hk) rfl
@[simp] theorem get_setReadShadow {s path n v}  {rq iq} (hq : Nat.testBit 0x0 (Reg.ctorIdx rq) = false) : ((setReadShadow s path ((readShadow s path).insert n v))).get rq iq = State.get s rq iq :=
  reg_of iq (fun _ hk => keep_setReadShadow hk) rfl rfl rfl hq
@[simp] theorem dv_setReadShadow {s path n v}  {rq iq} (hq : Nat.testBit 0x0 (Reg.ctorIdx rq) = false) : ((setReadShadow s path ((readShadow s path).insert n v))).dv rq iq = State.dv s rq iq :=
  dev_of iq (fun _ hk => keep_setReadShadow hk) rfl rfl rfl hq
@[simp] theorem se_setReadShadow {xq : State} {s path n v}  : SameEvents xq ((setReadShadow s path ((readShadow s path).insert n v))) ↔ SameEvents xq s := se_of (fun _ hk => keep_setReadShadow hk) rfl
@[simp] theorem ts_setReadShadow {s path n v}  : ((setReadShadow s path ((readShadow s path).insert n v))).ts = State.ts s := ts_of (fun _ hk => keep_setReadShadow hk) rfl
@[simp] theorem get_setWriteShadow {s path r i v}  {rq iq} (hq : Nat.testBit 0x0 (Reg.ctorIdx rq) = false) : ((setWriteShadow s path ((writeShadow s path).set r i v))).get rq iq = State.get s rq iq :=
  reg_of iq (fun _ hk => keep_setWriteShadow hk) rfl rfl rfl hq
@[simp] theorem dv_setWriteShadow {s path r i v}  {rq iq} (hq : Nat.testBit 0x0 (Reg.ctorIdx rq) = false) : ((setWriteShadow s path ((writeShadow s path).set r i v))).dv rq iq = State.dv s rq iq :=
  dev_of iq (fun _ hk => keep_setWriteShadow hk) rfl rfl rfl hq
@[simp] theorem se_setWriteShadow {xq : State} {s path r i v}  : SameEvents xq ((setWriteShadow s path ((writeShadow s path).set r i v))) ↔ SameEvents xq s := se_of (fun _ hk => keep_setWriteShadow hk) rfl
@[simp] theorem ts_setWriteShadow {s path r i v}  : ((setWriteShadow s path ((writeShadow s path).set r i v))).ts = State.ts s := ts_of (fun _ hk => keep_setWriteShadow hk) rfl
@[simp] theorem get_readHit {path} {x : State × Nat} {h}  {rq iq} (hq : Nat.testBit 0x40000000000000000000000000000000000000000000000000000000000000000000000000000000000000000000000000000000000000000000000000000000000040000000180000000000000000000000000000000000000000000000000000000000000000000000000000000000000000000000000000000000000000700022b80000 (Reg.ctorIdx rq) = false) : ((readHit path x h).1).get rq iq = State.get x.1 rq iq :=
  reg_of iq (fun _ hk => keep_readHit hk) rfl rfl rfl hq
@[simp] theorem dv_readHit {path} {x : State × Nat} {h}  {rq iq} (hq : Nat.testBit 0x0 (Reg.ctorIdx rq) = false) : ((readHit path x h).1).dv rq iq = State.dv x.1 rq iq :=
  dev_of iq (fun _ hk => keep_readHit hk) rfl rfl rfl hq
@[simp] theorem ts_readHit {path} {x : State × Nat} {h}  : ((readHit path x h).1).ts = State.ts x.1 := ts_of (fun _ hk => keep_readHit hk) rfl
@[simp] theorem get_readWord {s path a}  {rq iq} (hq : Nat.testBit 0x40000000000000000000000000000000000000000000000000000000000000000000000000000000000000000000000000000000000000000000000000000000000040000000180000000000000000000000000000000000000000000000000000000000000000000000000000000000000000000000000000000000000000700022b80000 (Reg.ctorIdx rq) = false) : ((readWord s path a).1).get rq iq = State.get s rq iq :=
  reg_of iq (fun _ hk => keep_readWord hk) rfl rfl rfl hq
@[simp] theorem dv_readWord {s path a}  {rq iq} (hq : Nat.testBit 0x0 (Reg.ctorIdx rq) = false) : ((readWord s path a).1).dv rq iq = State.dv s rq iq :=
  dev_of iq (fun _ hk => keep_readWord hk) rfl rfl rfl hq
@[simp] theorem ts_readWord {s path a}  : ((readWord s path a).1).ts = State.ts s := ts_of (fun _ hk => keep_readWord hk) rfl
@[simp] theorem get_countIgnored {s}   {rq iq} (hq : Nat.testBit 0x10000000000000 (Reg.ctorIdx rq) = false) : ((countIgnored s)).get rq iq = State.get s rq iq :=
  reg_of iq (fun _ hk => keep_countIgnored hk) rfl rfl rfl hq
@[simp] theorem dv_countIgnored {s}   {rq iq} (hq : Nat.testBit 0x0 (Reg.ctorIdx rq) = false) : ((countIgnored s)).dv rq iq = State.dv s rq iq :=
  dev_of iq (fun _ hk => keep_countIgnored hk) rfl rfl rfl hq
@[simp] theorem se_countIgnored {xq : State} {s}   : SameEvents xq ((countIgnored s)) ↔ SameEvents xq s := se_of (fun _ hk => keep_countIgnored hk) rfl
@[simp] theorem ts_countIgnored {s}   : ((countIgnored s)).ts = State.ts s := ts_of (fun _ hk => keep_countIgnored hk) rfl
@[simp] theorem get_refuseSealed {s} {path} {a}   {rq iq} (hq : Nat.testBit 0x1f00000000000000000000000000000000000000000000000000000000000000000000000000000000060000000000000000000000000000000000000000000000000000000000000000000000000000000000000000000000000000000000000000000010000000000000 (Reg.ctorIdx rq) = false) : ((refuseSealed s path a)).get rq iq = State.get s rq iq :=
  reg_of iq (fun _ hk => keep_refuseSealed hk) rfl rfl rfl hq
@[simp] theorem dv_refuseSealed {s} {path} {a}   {rq iq} (hq : Nat.testBit 0x0 (Reg.ctorIdx rq) = false) : ((refuseSealed s path a)).dv rq iq = State.dv s rq iq :=
  dev_of iq (fun _ hk => keep_refuseSealed hk) rfl rfl rfl hq
@[simp] theorem se_refuseSealed {xq : State} {s} {path} {a}   : SameEvents xq ((refuseSealed s path a)) ↔ SameEvents xq s := se_of (fun _ hk => keep_refuseSealed hk) rfl
@[simp] theorem ts_refuseSealed {s} {path} {a}   : ((refuseSealed s path a)).ts = State.ts s := ts_of (fun _ hk => keep_refuseSealed hk) rfl
@[simp] theorem get_reloadShadow {s} {path} {h}   {rq iq} (hq : Nat.testBit 0x0 (Reg.ctorIdx rq) = false) : ((reloadShadow s path h)).get rq iq = State.get s rq iq :=
  reg_of iq (fun _ hk => keep_reloadShadow hk) rfl rfl rfl hq
@[simp] theorem dv_reloadShadow {s} {path} {h}   {rq iq} (hq : Nat.testBit 0x0 (Reg.ctorIdx rq) = false) : ((reloadShadow s path h)).dv rq iq = State.dv s rq iq :=
  dev_of iq (fun _ hk => keep_reloadShadow hk) rfl rfl rfl hq
@[simp] theorem se_reloadShadow {xq : State} {s} {path} {h}   : SameEvents xq ((reloadShadow s path h)) ↔ SameEvents xq s := se_of (fun _ hk => keep_reloadShadow hk) rfl
@[simp] theorem ts_reloadShadow {s} {path} {h}   : ((reloadShadow s path h)).ts = State.ts s := ts_of (fun _ hk => keep_reloadShadow hk) rfl
@[simp] theorem dv_writeHit {path} {mask} {data} {look} {s} {h}   {rq iq} (hq : Nat.testBit 0x1802000000000000000000000000000000000000100000000000000000000000000000000000000000001e00060000000000000000000000000000070000 (Reg.ctorIdx rq) = false) : ((writeHit path mask data look s h)).dv rq iq = State.dv s rq iq :=
  dev_of iq (fun _ hk => keep_writeHit hk) rfl rfl rfl hq
@[simp] theorem ts_writeHit {path} {mask} {data} {look} {s} {h}   : ((writeHit path mask data look s h)).ts = State.ts s := ts_of (fun _ hk => keep_writeHit hk) rfl
@[simp] theorem dv_writeWord {s} {path} {a} {w}   {rq iq} (hq : Nat.testBit 0x1802000000000000000000000000000000000000100000000000000000000000000000000000000000001e00060000000000000000000000000000070000 (Reg.ctorIdx rq) = false) : ((writeWord s path a w).1).dv rq iq = State.dv s rq iq :=
  dev_of iq (fun _ hk => keep_writeWord hk) rfl rfl rfl hq
@[simp] theorem ts_writeWord {s} {path} {a} {w}   : ((writeWord s path a w).1).ts = State.ts s := ts_of (fun _ hk => keep_writeWord hk) rfl
@[simp] theorem dv_clashHit {taken} {hwMask} {hwData} {inc} {s} {h}   {rq iq} (hq : Nat.testBit 0x0 (Reg.ctorIdx rq) = false) : ((clashHit taken hwMask hwData inc s h)).dv rq iq = State.dv s rq iq :=
  dev_of iq (fun _ hk => keep_clashHit hk) rfl rfl rfl hq
@[simp] theorem ts_clashHit {taken} {hwMask} {hwData} {inc} {s} {h}   : ((clashHit taken hwMask hwData inc s h)).ts = State.ts s := ts_of (fun _ hk => keep_clashHit hk) rfl
@[simp] theorem dv_writeClash {s} {path} {a} {w} {hwMask} {hwData} {inc}   {rq iq} (hq : Nat.testBit 0x1802000000000000000000000000000000000000100000000000000000000000000000000000000000001e00060000000000000000000000000000070000 (Reg.ctorIdx rq) = false) : ((writeClash s path a w hwMask hwData inc).1).dv rq iq = State.dv s rq iq :=
  dev_of iq (fun _ hk => keep_writeClash hk) rfl rfl rfl hq
@[simp] theorem ts_writeClash {s} {path} {a} {w} {hwMask} {hwData} {inc}   : ((writeClash s path a w hwMask hwData inc).1).ts = State.ts s := ts_of (fun _ hk => keep_writeClash hk) rfl
@[simp] theorem get_addErr {s} {e}   {rq iq} (hq : Nat.testBit 0x1000000000000000000000000000000000000000000000000000000000000000000000000000000000000000000000000000000000000000000000000000000000000000000000000000000000000000000000000000000000000000000000000000000000000000000000000000000000000000000000000000000000000000 (Reg.ctorIdx rq) = false) : ((addErr s e)).get rq iq = State.get s rq iq :=
  reg_of iq (fun _ hk => keep_addErr hk) rfl rfl rfl hq
@[simp] theorem dv_addErr {s} {e}   {rq iq} (hq : Nat.testBit 0x0 (Reg.ctorIdx rq) = false) : ((addErr s e)).dv rq iq = State.dv s rq iq :=
  dev_of iq (fun _ hk => keep_addErr hk) rfl rfl rfl hq
@[simp] theorem se_addErr {xq : State} {s} {e}   : SameEvents xq ((addErr s e)) ↔ SameEvents xq s := se_of (fun _ hk => keep_addErr hk) rfl
@[simp] theorem ts_addErr {s} {e}   : ((addErr s e)).ts = State.ts s := ts_of (fun _ hk => keep_addErr hk) rfl
@[simp] theorem get_spiHeader {s cmd addr}  {rq iq} (hq : Nat.testBit 0x3f000000000000000000000000000000000000000000000000000000000000000000000000000000000000000000000000000000000000000000000000000000000000000000000000000000000000000000000000000000000000000000000000000000000000000000000000000000000000000000000000000000000000000 (Reg.ctorIdx rq) = false) : ((spiHeader s cmd addr)).get rq iq = State.get s rq iq :=
  reg_of iq (fun _ hk => keep_spiHeader hk) rfl rfl rfl hq
@[simp] theorem dv_spiHeader {s cmd addr}  {rq iq} (hq : Nat.testBit 0x0 (Reg.ctorIdx rq) = false) : ((spiHeader s cmd addr)).dv rq iq = State.dv s rq iq :=
  dev_of iq (fun _ hk => keep_spiHeader hk) rfl rfl rfl hq
@[simp] theorem se_spiHeader {xq : State} {s cmd addr}  : SameEvents xq ((spiHeader s cmd addr)) ↔ SameEvents xq s := se_of (fun _ hk => keep_spiHeader hk) rfl
@[simp] theorem ts_spiHeader {s cmd addr}  : ((spiHeader s cmd addr)).ts = State.ts s := ts_of (fun _ hk => keep_spiHeader hk) rfl
@[simp] theorem get_spiNext {s}   {rq iq} (hq : Nat.testBit 0x20000000000000000000000000000000000000000000000000000000000000000000000000000000000000000000000000000000000000000000000000000000000000000000000000000000000000000000000000000000000000000000000000000000000000000000000000000000000000000000000000000000000000000 (Reg.ctorIdx rq) = false) : ((spiNext s)).get rq iq = State.get s rq iq :=
  reg_of iq (fun _ hk => keep_spiNext hk) rfl rfl rfl hq
@[simp] theorem dv_spiNext {s}   {rq iq} (hq : Nat.testBit 0x0 (Reg.ctorIdx rq) = false) : ((spiNext s)).dv rq iq = State.dv s rq iq :=
  dev_of iq (fun _ hk => keep_spiNext hk) rfl rfl rfl hq
@[simp] theorem se_spiNext {xq : State} {s}   : SameEvents xq ((spiNext s)) ↔ SameEvents xq s := se_of (fun _ hk => keep_spiNext hk) rfl
@[simp] theorem ts_spiNext {s}   : ((spiNext s)).ts = State.ts s := ts_of (fun _ hk => keep_spiNext hk) rfl
@[simp] theorem dv_spiWrite {s} {w}   {rq iq} (hq : Nat.testBit 0x1802000000000000000000000000000000000000100000000000000000000000000000000000000000001e00060000000000000000000000000000070000 (Reg.ctorIdx rq) = false) : ((spiWrite s w)).dv rq iq = State.dv s rq iq :=
  dev_of iq (fun _ hk => keep_spiWrite hk) rfl rfl rfl hq
@[simp] theorem ts_spiWrite {s} {w}   : ((spiWrite s w)).ts = State.ts s := ts_of (fun _ hk => keep_spiWrite hk) rfl
@[simp] theorem get_spiRead {s ready}  {rq iq} (hq : Nat.testBit 0x40000000025000000000000000000000000000000000000000000000000000000000000000000000000000000000000000000000000000000000000000000000000040000000180000000000000000000000000000000000000000000000000000000000000000000000000000000000000000000000000000000000000000700022b80000 (Reg.ctorIdx rq) = false) : ((spiRead s ready)).get rq iq = State.get s rq iq :=
  reg_of iq (fun _ hk => keep_spiRead hk) rfl rfl rfl hq
@[simp] theorem dv_spiRead {s ready}  {rq iq} (hq : Nat.testBit 0x0 (Reg.ctorIdx rq) = false) : ((spiRead s ready)).dv rq iq = State.dv s rq iq :=
  dev_of iq (fun _ hk => keep_spiRead hk) rfl rfl rfl hq
@[simp] theorem ts_spiRead {s ready}  : ((spiRead s ready)).ts = State.ts s := ts_of (fun _ hk => keep_spiRead hk) rfl
@[simp] theorem get_spiEnd {s} {cut}   {rq iq} (hq : Nat.testBit 0x3800000000000000000000000000000000000000000000000000000000000000000000000000000000000000000000000000000000000000000000000000000000000000000000000000000000000000000000000000000000000000000000000000000000000000000000000000000000000000000000000000000000000000 (Reg.ctorIdx rq) = false) : ((spiEnd s cut)).get rq iq = State.get s rq iq :=
  reg_of iq (fun _ hk => keep_spiEnd hk) rfl rfl rfl hq
@[simp] theorem dv_spiEnd {s} {cut}   {rq iq} (hq : Nat.testBit 0x0 (Reg.ctorIdx rq) = false) : ((spiEnd s cut)).dv rq iq = State.dv s rq iq :=
  dev_of iq (fun _ hk => keep_spiEnd hk) rfl rfl rfl hq
@[simp] theorem se_spiEnd {xq : State} {s} {cut}   : SameEvents xq ((spiEnd s cut)) ↔ SameEvents xq s := se_of (fun _ hk => keep_spiEnd hk) rfl
@[simp] theorem ts_spiEnd {s} {cut}   : ((spiEnd s cut)).ts = State.ts s := ts_of (fun _ hk => keep_spiEnd hk) rfl
@[simp] theorem get_winStat {s} {err}   {rq iq} (hq : Nat.testBit 0x400000000000000000000000000000000000000000000000000000000000000000000000000000000000000000000000000000000000000000000000000000000000000000000000000000000000000000000000000000000000000000000000000000000000000000000000000000000000000000000000000000000000000 (Reg.ctorIdx rq) = false) : ((winStat s err)).get rq iq = State.get s rq iq :=
  reg_of iq (fun _ hk => keep_winStat hk) rfl rfl rfl hq
@[simp] theorem dv_winStat {s} {err}   {rq iq} (hq : Nat.testBit 0x0 (Reg.ctorIdx rq) = false) : ((winStat s err)).dv rq iq = State.dv s rq iq :=
  dev_of iq (fun _ hk => keep_winStat hk) rfl rfl rfl hq
@[simp] theorem se_winStat {xq : State} {s} {err}   : SameEvents xq ((winStat s err)) ↔ SameEvents xq s := se_of (fun _ hk => keep_winStat hk) rfl
@[simp] theorem ts_winStat {s} {err}   : ((winStat s err)).ts = State.ts s := ts_of (fun _ hk => keep_winStat hk) rfl
@[simp] theorem get_winNext {s}   {rq iq} (hq : Nat.testBit 0x80000000000000000000000000000000000000000000000000000000000000000000000000000000000000000000000000000000000000000000000000000000000000000000000000000000000000000000000000000000000000000000000000000000000000000000000000000000000000000000000000000000000000 (Reg.ctorIdx rq) = false) : ((winNext s)).get rq iq = State.get s rq iq :=
  reg_of iq (fun _ hk => keep_winNext hk) rfl rfl rfl hq
@[simp] theorem dv_winNext {s}   {rq iq} (hq : Nat.testBit 0x0 (Reg.ctorIdx rq) = false) : ((winNext s)).dv rq iq = State.dv s rq iq :=
  dev_of iq (fun _ hk => keep_winNext hk) rfl rfl rfl hq
@[simp] theorem se_winNext {xq : State} {s}   : SameEvents xq ((winNext s)) ↔ SameEvents xq s := se_of (fun _ hk => keep_winNext hk) rfl
@[simp] theorem ts_winNext {s}   : ((winNext s)).ts = State.ts s := ts_of (fun _ hk => keep_winNext hk) rfl
@[simp] theorem get_winRead {s}   {rq iq} (hq : Nat.testBit 0x40000000000480000000000000000000000000000000000000000000000000000000000000000000000000000000000000000000000000000000000000000000000040000000180000000000000000000000000000000000000000000000000000000000000000000000000000000000000000000000000000000000000000700022b80000 (Reg.ctorIdx rq) = false) : ((winRead s).1).get rq iq = State.get s rq iq :=
  reg_of iq (fun _ hk => keep_winRead hk) rfl rfl rfl hq
@[simp] theorem dv_winRead {s}   {rq iq} (hq : Nat.testBit 0x0 (Reg.ctorIdx rq) = false) : ((winRead s).1).dv rq iq = State.dv s rq iq :=
  dev_of iq (fun _ hk => keep_winRead hk) rfl rfl rfl hq
@[simp] theorem ts_winRead {s}   : ((winRead s).1).ts = State.ts s := ts_of (fun _ hk => keep_winRead hk) rfl
@[simp] theorem dv_winWrite {s} {w}   {rq iq} (hq : Nat.testBit 0x1802000000000000000000000000000000000000100000000000000000000000000000000000000000001e00060000000000000000000000000000070000 (Reg.ctorIdx rq) = false) : ((winWrite s w).1).dv rq iq = State.dv s rq iq :=
  dev_of iq (fun _ hk => keep_winWrite hk) rfl rfl rfl hq
@[simp] theorem ts_winWrite {s} {w}   : ((winWrite s w).1).ts = State.ts s := ts_of (fun _ hk => keep_winWrite hk) rfl
@[simp] theorem get_readBlock {s path a n acc}  {rq iq} (hq : Nat.testBit 0x40000000000000000000000000000000000000000000000000000000000000000000000000000000000000000000000000000000000000000000000000000000000040000000180000000000000000000000000000000000000000000000000000000000000000000000000000000000000000000000000000000000000000700022b80000 (Reg.ctorIdx rq) = false) : ((readBlock s path a n acc).1).get rq iq = State.get s rq iq :=
  reg_of iq (fun _ hk => keep_readBlock hk) rfl rfl rfl hq
@[simp] theorem dv_readBlock {s path a n acc}  {rq iq} (hq : Nat.testBit 0x0 (Reg.ctorIdx rq) = false) : ((readBlock s path a n acc).1).dv rq iq = State.dv s rq iq :=
  dev_of iq (fun _ hk => keep_readBlock hk) rfl rfl rfl hq
@[simp] theorem ts_readBlock {s path a n acc}  : ((readBlock s path a n acc).1).ts = State.ts s := ts_of (fun _ hk => keep_readBlock hk) rfl
@[simp] theorem dv_writeBlock {s path a l}  {rq iq} (hq : Nat.testBit 0x1802000000000000000000000000000000000000100000000000000000000000000000000000000000001e00060000000000000000000000000000070000 (Reg.ctorIdx rq) = false) : ((writeBlock s path a l).1).dv rq iq = State.dv s rq iq :=
  dev_of iq (fun _ hk => keep_writeBlock hk) rfl rfl rfl hq
@[simp] theorem ts_writeBlock {s path a l}  : ((writeBlock s path a l).1).ts = State.ts s := ts_of (fun _ hk => keep_writeBlock hk) rfl
@[simp] theorem get_winBlockRead {s}   {rq iq} (hq : Nat.testBit 0x40000000000400000000000000000000000000000000000000000000000000000000000000000000000000000000000000000000000000000000000000000000000040000000180000000000000000000000000000000000000000000000000000000000000000000000000000000000000000000000000000000000000000700022b80000 (Reg.ctorIdx rq) = false) : ((winBlockRead s).1).get rq iq = State.get s rq iq :=
  reg_of iq (fun _ hk => keep_winBlockRead hk) rfl rfl rfl hq
@[simp] theorem dv_winBlockRead {s}   {rq iq} (hq : Nat.testBit 0x0 (Reg.ctorIdx rq) = false) : ((winBlockRead s).1).dv rq iq = State.dv s rq iq :=
  dev_of iq (fun _ hk => keep_winBlockRead hk) rfl rfl rfl hq
@[simp] theorem ts_winBlockRead {s}   : ((winBlockRead s).1).ts = State.ts s := ts_of (fun _ hk => keep_winBlockRead hk) rfl
@[simp] theorem dv_winBlockWrite {s} {bytes}   {rq iq} (hq : Nat.testBit 0x1802000000000000000000000000000000000000100000000000000000000000000000000000000000001e00060000000000000000000000000000070000 (Reg.ctorIdx rq) = false) : ((winBlockWrite s bytes).1).dv rq iq = State.dv s rq iq :=
  dev_of iq (fun _ hk => keep_winBlockWrite hk) rfl rfl rfl hq
@[simp] theorem ts_winBlockWrite {s} {bytes}   : ((winBlockWrite s bytes).1).ts = State.ts s := ts_of (fun _ hk => keep_winBlockWrite hk) rfl
@[simp] theorem get_objRead {s} {idx} {sub}   {rq iq} (hq : Nat.testBit 0x400000000004b80000000000000000000000000000000000000000000000000000000000000000000000000000000000000000000000000000000000000000000000c0000000180000000000000000000000000000000000000000000000000000000000000000000000000000000000000000000000000000000000000000700022b80000 (Reg.ctorIdx rq) = false) : ((objRead s idx sub).1).get rq iq = State.get s rq iq :=
  reg_of iq (fun _ hk => keep_objRead hk) rfl rfl rfl hq
@[simp] theorem dv_objRead {s} {idx} {sub}   {rq iq} (hq : Nat.testBit 0x0 (Reg.ctorIdx rq) = false) : ((objRead s idx sub).1).dv rq iq = State.dv s rq iq :=
  dev_of iq (fun _ hk => keep_objRead hk) rfl rfl rfl hq
@[simp] theorem ts_objRead {s} {idx} {sub}   : ((objRead s idx sub).1).ts = State.ts s := ts_of (fun _ hk => keep_objRead hk) rfl
@[simp] theorem get_writeMapCount {s} {tx} {load} {n} {v}   {rq iq} (hq : Nat.testBit 0x108480000000000000000000000000000000000000000000000000000000000000000000000000000000000000000000000000000000000000000000000000000000000000000000000000000000000000000000000000000000000000000000000000000000000000000000000000000000000000000000000000000000000000000 (Reg.ctorIdx rq) = false) : ((writeMapCount s tx load n v).1).get rq iq = State.get s rq iq :=
  reg_of iq (fun _ hk => keep_writeMapCount hk) rfl rfl rfl hq
@[simp] theorem dv_writeMapCount {s} {tx} {load} {n} {v}   {rq iq} (hq : Nat.testBit 0x0 (Reg.ctorIdx rq) = false) : ((writeMapCount s tx load n v).1).dv rq iq = State.dv s rq iq :=
  dev_of iq (fun _ hk => keep_writeMapCount hk) rfl rfl rfl hq
@[simp] theorem se_writeMapCount {xq : State} {s} {tx} {load} {n} {v}   : SameEvents xq ((writeMapCount s tx load n v).1) ↔ SameEvents xq s := se_of (fun _ hk => keep_writeMapCount hk) rfl
@[simp] theorem ts_writeMapCount {s} {tx} {load} {n} {v}   : ((writeMapCount s tx load n v).1).ts = State.ts s := ts_of (fun _ hk => keep_writeMapCount hk) rfl
@[simp] theorem get_writeMapEntry {s} {tx} {load} {n} {k} {v}   {rq iq} (hq : Nat.testBit 0x308c80000000000000000000000000000000000000000000000000000000000000000000000000000000000000000000000000000000000000000000000000000000000000000000000000000000000000000000000000000000000000000000000000000000000000000000000000000000000000000000000000000000000000000 (Reg.ctorIdx rq) = false) : ((writeMapEntry s tx load n k v).1).get rq iq = State.get s rq iq :=
  reg_of iq (fun _ hk => keep_writeMapEntry hk) rfl rfl rfl hq
@[simp] theorem dv_writeMapEntry {s} {tx} {load} {n} {k} {v}   {rq iq} (hq : Nat.testBit 0x0 (Reg.ctorIdx rq) = false) : ((writeMapEntry s tx load n k v).1).dv rq iq = State.dv s rq iq :=
  dev_of iq (fun _ hk => keep_writeMapEntry hk) rfl rfl rfl hq
@[simp] theorem se_writeMapEntry {xq : State} {s} {tx} {load} {n} {k} {v}   : SameEvents xq ((writeMapEntry s tx load n k v).1) ↔ SameEvents xq s := se_of (fun _ hk => keep_writeMapEntry hk) rfl
@[simp] theorem ts_writeMapEntry {s} {tx} {load} {n} {k} {v}   : ((writeMapEntry s tx load n k v).1).ts = State.ts s := ts_of (fun _ hk => keep_writeMapEntry hk) rfl
@[simp] theorem get_writePdoComm {s} {tx} {n} {sub} {v}   {rq iq} (hq : Nat.testBit 0x1e0f8380000000000000000000000000000000000000000000000000000000000000000000000000000000000000000000000000000000000000000000000000000000000000000000000000000000000000000000000000000000000000000000000000000000000000000000000000000000000000000000000000000000000000000 (Reg.ctorIdx rq) = false) : ((writePdoComm s tx n sub v).1).get rq iq = State.get s rq iq :=
  reg_of iq (fun _ hk => keep_writePdoComm hk) rfl rfl rfl hq
@[simp] theorem dv_writePdoComm {s} {tx} {n} {sub} {v}   {rq iq} (hq : Nat.testBit 0x0 (Reg.ctorIdx rq) = false) : ((writePdoComm s tx n sub v).1).dv rq iq = State.dv s rq iq :=
  dev_of iq (fun _ hk => keep_writePdoComm hk) rfl rfl rfl hq
@[simp] theorem se_writePdoComm {xq : State} {s} {tx} {n} {sub} {v}   : SameEvents xq ((writePdoComm s tx n sub v).1) ↔ SameEvents xq s := se_of (fun _ hk => keep_writePdoComm hk) rfl
@[simp] theorem ts_writePdoComm {s} {tx} {n} {sub} {v}   : ((writePdoComm s tx n sub v).1).ts = State.ts s := ts_of (fun _ hk => keep_writePdoComm hk) rfl
@[simp] theorem dv_rowStore {path i v look l s}  {rq iq} (hq : Nat.testBit 0x100000000000000000000000000000000000000000001e00060000000000000000000000000000000000 (Reg.ctorIdx rq) = false) : ((rowStore path i v look l s).1).dv rq iq = State.dv s rq iq :=
  dev_of iq (fun _ hk => keep_rowStore hk) rfl rfl rfl hq
@[simp] theorem ts_rowStore {path i v look l s}  : ((rowStore path i v look l s).1).ts = State.ts s := ts_of (fun _ hk => keep_rowStore hk) rfl
@[simp] theorem dv_rowCommands {i v l s}  {rq iq} (hq : Nat.testBit 0x1802000000000000000000000000000000000000000000000000000000000000000000000000000000000000000000000000000000000000000000070000 (Reg.ctorIdx rq) = false) : ((rowCommands i v l s).1).dv rq iq = State.dv s rq iq :=
  dev_of iq (fun _ hk => keep_rowCommands hk) rfl rfl rfl hq
@[simp] theorem ts_rowCommands {i v l s}  : ((rowCommands i v l s).1).ts = State.ts s := ts_of (fun _ hk => keep_rowCommands hk) rfl
@[simp] theorem dv_tableWrite {s} {path} {idx} {row} {i} {v0}   {rq iq} (hq : Nat.testBit 0x1802000000000000000000000000000000000000100000000000000000000000000000000000000000001e00060000000000000000000000000000070000 (Reg.ctorIdx rq) = false) : ((tableWrite s path idx row i v0).1).dv rq iq = State.dv s rq iq :=
  dev_of iq (fun _ hk => keep_tableWrite hk) rfl rfl rfl hq
@[simp] theorem ts_tableWrite {s} {path} {idx} {row} {i} {v0}   : ((tableWrite s path idx row i v0).1).ts = State.ts s := ts_of (fun _ hk => keep_tableWrite hk) rfl
@[simp] theorem get_writeMode {s} {i} {v}   {rq iq} (hq : Nat.testBit 0x800000000000000000000000000000000000000000000000000000000000000000000000000000000000000000000000000000000000000000000000000000000000000000 (Reg.ctorIdx rq) = false) : ((writeMode s i v).1).get rq iq = State.get s rq iq :=
  reg_of iq (fun _ hk => keep_writeMode hk) rfl rfl rfl hq
@[simp] theorem dv_writeMode {s} {i} {v}   {rq iq} (hq : Nat.testBit 0x0 (Reg.ctorIdx rq) = false) : ((writeMode s i v).1).dv rq iq = State.dv s rq iq :=
  dev_of iq (fun _ hk => keep_writeMode hk) rfl rfl rfl hq
@[simp] theorem se_writeMode {xq : State} {s} {i} {v}   : SameEvents xq ((writeMode s i v).1) ↔ SameEvents xq s := se_of (fun _ hk => keep_writeMode hk) rfl
@[simp] theorem ts_writeMode {s} {i} {v}   : ((writeMode s i v).1).ts = State.ts s := ts_of (fun _ hk => keep_writeMode hk) rfl
@[simp] theorem get_writeSegPdo {s} {i} {sub} {v}   {rq iq} (hq : Nat.testBit 0x40000000000000000000000000000000000000000000000000000000000000000000000000000000000000000000000000000000000000000000f000000400000000000000000008000000000000000000000000000000000000000000000000000000000000000000000000000000000000000000001b0000000300026b80000 (Reg.ctorIdx rq) = false) : ((writeSegPdo s i sub v).1).get rq iq = State.get s rq iq :=
  reg_of iq (fun _ hk => keep_writeSegPdo hk) rfl rfl rfl hq
@[simp] theorem dv_writeSegPdo {s} {i} {sub} {v}   {rq iq} (hq : Nat.testBit 0x0 (Reg.ctorIdx rq) = false) : ((writeSegPdo s i sub v).1).dv rq iq = State.dv s rq iq :=
  dev_of iq (fun _ hk => keep_writeSegPdo hk) rfl rfl rfl hq
@[simp] theorem ts_writeSegPdo {s} {i} {sub} {v}   : ((writeSegPdo s i sub v).1).ts = State.ts s := ts_of (fun _ hk => keep_writeSegPdo hk) rfl
@[simp] theorem get_writeMirror {s} {b} {g} {sub} {v}   {rq iq} (hq : Nat.testBit 0x83fc8000000000000000000000000000018000000000000000000000000000000000000000000000000000000000000000000000000000000000000000000000000000000000000000000000000000000000000000000000000000000000000000000000000000000000000000000000000000000000000800000000000 (Reg.ctorIdx rq) = false) : ((writeMirror s b g sub v).1).get rq iq = State.get s rq iq :=
  reg_of iq (fun _ hk => keep_writeMirror hk) rfl rfl rfl hq
@[simp] theorem dv_writeMirror {s} {b} {g} {sub} {v}   {rq iq} (hq : Nat.testBit 0x0 (Reg.ctorIdx rq) = false) : ((writeMirror s b g sub v).1).dv rq iq = State.dv s rq iq :=
  dev_of iq (fun _ hk => keep_writeMirror hk) rfl rfl rfl hq
@[simp] theorem se_writeMirror {xq : State} {s} {b} {g} {sub} {v}   : SameEvents xq ((writeMirror s b g sub v).1) ↔ SameEvents xq s := se_of (fun _ hk => keep_writeMirror hk) rfl
@[simp] theorem ts_writeMirror {s} {b} {g} {sub} {v}   : ((writeMirror s b g sub v).1).ts = State.ts s := ts_of (fun _ hk => keep_writeMirror hk) rfl
@[simp] theorem get_stateAbort {x}   {rq iq} (hq : Nat.testBit 0x0 (Reg.ctorIdx rq) = false) : ((stateAbort x).1).get rq iq = State.get x.1 rq iq :=
  reg_of iq (fun _ hk => keep_stateAbort hk) rfl rfl rfl hq
@[simp] theorem dv_stateAbort {x}   {rq iq} (hq : Nat.testBit 0x0 (Reg.ctorIdx rq) = false) : ((stateAbort x).1).dv rq iq = State.dv x.1 rq iq :=
  dev_of iq (fun _ hk => keep_stateAbort hk) rfl rfl rfl hq
@[simp] theorem se_stateAbort {xq : State} {x}   : SameEvents xq ((stateAbort x).1) ↔ SameEvents xq x.1 := se_of (fun _ hk => keep_stateAbort hk) rfl
@[simp] theorem ts_stateAbort {x}   : ((stateAbort x).1).ts = State.ts x.1 := ts_of (fun _ hk => keep_stateAbort hk) rfl
@[simp] theorem dv_specialWrite {s} {load} {b} {i} {sub} {v}   {rq iq} (hq : Nat.testBit 0x1802000000000000000000000000000000000000100000000000000000000000000000000000000000001e000601f5000000000000000000000000070000 (Reg.ctorIdx rq) = false) : ((specialWrite s load b i sub v).1).dv rq iq = State.dv s rq iq :=
  dev_of iq (fun _ hk => keep_specialWrite hk) rfl rfl rfl hq
@[simp] theorem ts_specialWrite {s} {load} {b} {i} {sub} {v}   : ((specialWrite s load b i sub v).1).ts = State.ts s := ts_of (fun _ hk => keep_specialWrite hk) rfl
@[simp] theorem dv_specialWriteBytes {s} {b} {i} {bytes}   {rq iq} (hq : Nat.testBit 0x1802000000000000000000000000000000000000100000000000000000000000000000000000000000001e00060000000000000000000000000000070000 (Reg.ctorIdx rq) = false) : ((specialWriteBytes s b i bytes).1).dv rq iq = State.dv s rq iq :=
  dev_of iq (fun _ hk => keep_specialWriteBytes hk) rfl rfl rfl hq
@[simp] theorem ts_specialWriteBytes {s} {b} {i} {bytes}   : ((specialWriteBytes s b i bytes).1).ts = State.ts s := ts_of (fun _ hk => keep_specialWriteBytes hk) rfl
@[simp] theorem dv_objStore {s} {auth} {path} {idx} {sub} {bytes}   {rq iq} (hq : Nat.testBit 0x1802000000000000000000000000000000000000100000000000000000000000000000000000000000001e000601f5000000000000000000000000070000 (Reg.ctorIdx rq) = false) : ((objStore s auth path idx sub bytes).1).dv rq iq = State.dv s rq iq :=
  dev_of iq (fun _ hk => keep_objStore hk) rfl rfl rfl hq
@[simp] theorem ts_objStore {s} {auth} {path} {idx} {sub} {bytes}   : ((objStore s auth path idx sub bytes).1).ts = State.ts s := ts_of (fun _ hk => keep_objStore hk) rfl
@[simp] theorem get_refuse {s} {code} {what} {subject}   {rq iq} (hq : Nat.testBit 0x70000000000000000000000000000000000000000000000000000000000000000000000000000004006c000000000000000000000000000000000000000000000000000000000000000000000000000000000000000000000000000000000000000000000300022b00000 (Reg.ctorIdx rq) = false) : ((refuse s code what subject)).get rq iq = State.get s rq iq :=
  reg_of iq (fun _ hk => keep_refuse hk) rfl rfl rfl hq
@[simp] theorem dv_refuse {s} {code} {what} {subject}   {rq iq} (hq : Nat.testBit 0x0 (Reg.ctorIdx rq) = false) : ((refuse s code what subject)).dv rq iq = State.dv s rq iq :=
  dev_of iq (fun _ hk => keep_refuse hk) rfl rfl rfl hq
@[simp] theorem ts_refuse {s} {code} {what} {subject}   : ((refuse s code what subject)).ts = State.ts s := ts_of (fun _ hk => keep_refuse hk) rfl
@[simp] theorem get_dropStaged {s}  {rq iq} (hq : Nat.testBit 0x10000000000000000000000000000000000000000000000000000000000000000000000000000000000000000000000000000000000000000000000000000000000 (Reg.ctorIdx rq) = false) : ((dropStaged s)).get rq iq = State.get s rq iq :=
  reg_of iq (fun _ hk => keep_dropStaged hk) rfl rfl rfl hq
@[simp] theorem dv_dropStaged {s}  {rq iq} (hq : Nat.testBit 0x0 (Reg.ctorIdx rq) = false) : ((dropStaged s)).dv rq iq = State.dv s rq iq :=
  dev_of iq (fun _ hk => keep_dropStaged hk) rfl rfl rfl hq
@[simp] theorem se_dropStaged {xq : State} {s}  : SameEvents xq ((dropStaged s)) ↔ SameEvents xq s := se_of (fun _ hk => keep_dropStaged hk) rfl
@[simp] theorem ts_dropStaged {s}  : ((dropStaged s)).ts = State.ts s := ts_of (fun _ hk => keep_dropStaged hk) rfl
@[simp] theorem get_endSession {s cause}  {rq iq} (hq : Nat.testBit 0x700000000000000000000000000000000000000000000000000000000000000000000000000000040070007000000000000000000000000000000000000000000000000000000000000000000000000000000000000000000000000000000000000000000300022b00000 (Reg.ctorIdx rq) = false) : ((endSession s cause)).get rq iq = State.get s rq iq :=
  reg_of iq (fun _ hk => keep_endSession hk) rfl rfl rfl hq
@[simp] theorem dv_endSession {s cause}  {rq iq} (hq : Nat.testBit 0x0 (Reg.ctorIdx rq) = false) : ((endSession s cause)).dv rq iq = State.dv s rq iq :=
  dev_of iq (fun _ hk => keep_endSession hk) rfl rfl rfl hq
@[simp] theorem ts_endSession {s cause}  : ((endSession s cause)).ts = State.ts s := ts_of (fun _ hk => keep_endSession hk) rfl
@[simp] theorem get_sessionDrop {s} {code} {cmd}   {rq iq} (hq : Nat.testBit 0x2000000000000000000000000000000000000000000000000000000070000000000000000000000000000000000000000000000000000000000000000000000000000004007c007000000000000000000000000000000000000000000000000000000000000000000000000000000000000000000000000000000000000000000300022b00000 (Reg.ctorIdx rq) = false) : ((sessionDrop s code cmd)).get rq iq = State.get s rq iq :=
  reg_of iq (fun _ hk => keep_sessionDrop hk) rfl rfl rfl hq
@[simp] theorem dv_sessionDrop {s} {code} {cmd}   {rq iq} (hq : Nat.testBit 0x0 (Reg.ctorIdx rq) = false) : ((sessionDrop s code cmd)).dv rq iq = State.dv s rq iq :=
  dev_of iq (fun _ hk => keep_sessionDrop hk) rfl rfl rfl hq
@[simp] theorem ts_sessionDrop {s} {code} {cmd}   : ((sessionDrop s code cmd)).ts = State.ts s := ts_of (fun _ hk => keep_sessionDrop hk) rfl
@[simp] theorem get_stage {s idx sub bytes}  {rq iq} (hq : Nat.testBit 0x70000000000000000000000000000000000000000000000000000000000000000000000000000004007c000000000000000000000000000000000000000000000000000000000000000000000000000000000000000000000000000000000000000000000300022b00000 (Reg.ctorIdx rq) = false) : ((stage s idx sub bytes).1).get rq iq = State.get s rq iq :=
  reg_of iq (fun _ hk => keep_stage hk) rfl rfl rfl hq
@[simp] theorem dv_stage {s idx sub bytes}  {rq iq} (hq : Nat.testBit 0x0 (Reg.ctorIdx rq) = false) : ((stage s idx sub bytes).1).dv rq iq = State.dv s rq iq :=
  dev_of iq (fun _ hk => keep_stage hk) rfl rfl rfl hq
@[simp] theorem ts_stage {s idx sub bytes}  : ((stage s idx sub bytes).1).ts = State.ts s := ts_of (fun _ hk => keep_stage hk) rfl
@[simp] theorem dv_applyStaged {s} {e}   {rq iq} (hq : Nat.testBit 0x100000000000000000000000000000000000000000001e00060000000000000000000000000000000000 (Reg.ctorIdx rq) = false) : ((applyStaged s e)).dv rq iq = State.dv s rq iq :=
  dev_of iq (fun _ hk => keep_applyStaged hk) rfl rfl rfl hq
@[simp] theorem ts_applyStaged {s} {e}   : ((applyStaged s e)).ts = State.ts s := ts_of (fun _ hk => keep_applyStaged hk) rfl
@[simp] theorem get_setProfile {s n a}  {rq iq} (hq : Nat.testBit 0x0 (Reg.ctorIdx rq) = false) : ((setProfile s n a)).get rq iq = State.get s rq iq :=
  reg_of iq (fun _ hk => keep_setProfile hk) rfl rfl rfl hq
@[simp] theorem dv_setProfile {s n a}  {rq iq} (hq : Nat.testBit 0x0 (Reg.ctorIdx rq) = false) : ((setProfile s n a)).dv rq iq = State.dv s rq iq :=
  dev_of iq (fun _ hk => keep_setProfile hk) rfl rfl rfl hq
@[simp] theorem se_setProfile {xq : State} {s n a}  : SameEvents xq ((setProfile s n a)) ↔ SameEvents xq s := se_of (fun _ hk => keep_setProfile hk) rfl
@[simp] theorem ts_setProfile {s n a}  : ((setProfile s n a)).ts = State.ts s := ts_of (fun _ hk => keep_setProfile hk) rfl
@[simp] theorem get_sealedChange {s} {e}   {rq iq} (hq : Nat.testBit 0x700000000000000000000000000000000000000000000000000000000000000000000000000000040060000000000000000000000000000000000000000000000000000000000000000000000000000000000000000000000000000000000000000000000300022b00000 (Reg.ctorIdx rq) = false) : ((sealedChange s e)).get rq iq = State.get s rq iq :=
  reg_of iq (fun _ hk => keep_sealedChange hk) rfl rfl rfl hq
@[simp] theorem dv_sealedChange {s} {e}   {rq iq} (hq : Nat.testBit 0x0 (Reg.ctorIdx rq) = false) : ((sealedChange s e)).dv rq iq = State.dv s rq iq :=
  dev_of iq (fun _ hk => keep_sealedChange hk) rfl rfl rfl hq
@[simp] theorem ts_sealedChange {s} {e}   : ((sealedChange s e)).ts = State.ts s := ts_of (fun _ hk => keep_sealedChange hk) rfl
@[simp] theorem dv_commit {s}   {rq iq} (hq : Nat.testBit 0x100000000000000000000000000000000000000000001e00060000000000000000000000000000000000 (Reg.ctorIdx rq) = false) : ((commit s).1).dv rq iq = State.dv s rq iq :=
  dev_of iq (fun _ hk => keep_commit hk) rfl rfl rfl hq
@[simp] theorem ts_commit {s}   : ((commit s).1).ts = State.ts s := ts_of (fun _ hk => keep_commit hk) rfl
@[simp] theorem get_refreshValid {s}   {rq iq} (hq : Nat.testBit 0x100000000000000000000000000000000000000000000000000000000000000000000000000000000000000000000000000000000000000000000000000000000 (Reg.ctorIdx rq) = false) : ((refreshValid s)).get rq iq = State.get s rq iq :=
  reg_of iq (fun _ hk => keep_refreshValid hk) rfl rfl rfl hq
@[simp] theorem dv_refreshValid {s}   {rq iq} (hq : Nat.testBit 0x0 (Reg.ctorIdx rq) = false) : ((refreshValid s)).dv rq iq = State.dv s rq iq :=
  dev_of iq (fun _ hk => keep_refreshValid hk) rfl rfl rfl hq
@[simp] theorem se_refreshValid {xq : State} {s}   : SameEvents xq ((refreshValid s)) ↔ SameEvents xq s := se_of (fun _ hk => keep_refreshValid hk) rfl
@[simp] theorem ts_refreshValid {s}   : ((refreshValid s)).ts = State.ts s := ts_of (fun _ hk => keep_refreshValid hk) rfl
@[simp] theorem dv_defaultsWhere {s} {p}   {rq iq} (hq : Nat.testBit 0x0 (Reg.ctorIdx rq) = false) : ((defaultsWhere s p)).dv rq iq = State.dv s rq iq :=
  dev_of iq (fun _ hk => keep_defaultsWhere hk) rfl rfl rfl hq
@[simp] theorem ts_defaultsWhere {s} {p}   : ((defaultsWhere s p)).ts = State.ts s := ts_of (fun _ hk => keep_defaultsWhere hk) rfl
@[simp] theorem get_developParameters {s}   {rq iq} (hq : Nat.testBit 0x0 (Reg.ctorIdx rq) = false) : ((developParameters s)).get rq iq = State.get s rq iq :=
  reg_of iq (fun _ hk => keep_developParameters hk) rfl rfl rfl hq
@[simp] theorem ts_developParameters {s}   : ((developParameters s)).ts = State.ts s := ts_of (fun _ hk => keep_developParameters hk) rfl
@[simp] theorem dv_applyEntries {s} {es}   {rq iq} (hq : Nat.testBit 0x1802000000000000000000000000000000000000100000000000000000000000000000000000000000001e000601f5000000000000000000000000070000 (Reg.ctorIdx rq) = false) : ((applyEntries s es)).dv rq iq = State.dv s rq iq :=
  dev_of iq (fun _ hk => keep_applyEntries hk) rfl rfl rfl hq
@[simp] theorem ts_applyEntries {s} {es}   : ((applyEntries s es)).ts = State.ts s := ts_of (fun _ hk => keep_applyEntries hk) rfl
@[simp] theorem get_armScript {s} {n}   {rq iq} (hq : Nat.testBit 0x700000000000000000000000000000000000000000000000000000000000000000000000000000000060000000000000000000000000000000000000000000000000000000000000000000000000000000000000000000000000000000000000000000000000000000000 (Reg.ctorIdx rq) = false) : ((armScript s n)).get rq iq = State.get s rq iq :=
  reg_of iq (fun _ hk => keep_armScript hk) rfl rfl rfl hq
@[simp] theorem dv_armScript {s} {n}   {rq iq} (hq : Nat.testBit 0x0 (Reg.ctorIdx rq) = false) : ((armScript s n)).dv rq iq = State.dv s rq iq :=
  dev_of iq (fun _ hk => keep_armScript hk) rfl rfl rfl hq
@[simp] theorem se_armScript {xq : State} {s} {n}   : SameEvents xq ((armScript s n)) ↔ SameEvents xq s := se_of (fun _ hk => keep_armScript hk) rfl
@[simp] theorem ts_armScript {s} {n}   : ((armScript s n)).ts = State.ts s := ts_of (fun _ hk => keep_armScript hk) rfl
@[simp] theorem get_disarm {s} {idx} {sub} {bytes}   {rq iq} (hq : Nat.testBit 0x0 (Reg.ctorIdx rq) = false) : ((disarm s idx sub bytes)).get rq iq = State.get s rq iq :=
  reg_of iq (fun _ hk => keep_disarm hk) rfl rfl rfl hq
@[simp] theorem dv_disarm {s} {idx} {sub} {bytes}   {rq iq} (hq : Nat.testBit 0x0 (Reg.ctorIdx rq) = false) : ((disarm s idx sub bytes)).dv rq iq = State.dv s rq iq :=
  dev_of iq (fun _ hk => keep_disarm hk) rfl rfl rfl hq
@[simp] theorem se_disarm {xq : State} {s} {idx} {sub} {bytes}   : SameEvents xq ((disarm s idx sub bytes)) ↔ SameEvents xq s := se_of (fun _ hk => keep_disarm hk) rfl
@[simp] theorem ts_disarm {s} {idx} {sub} {bytes}   : ((disarm s idx sub bytes)).ts = State.ts s := ts_of (fun _ hk => keep_disarm hk) rfl
@[simp] theorem get_switchDone {s}  {rq iq} (hq : Nat.testBit 0x700000000000000000000000000000000000000000000000000000000000000000000000000000040060058000000000000000000000000000000000000000000000000000000000000000000000000000000000000000000000000000000000000000000300022b00000 (Reg.ctorIdx rq) = false) : ((switchDone s)).get rq iq = State.get s rq iq :=
  reg_of iq (fun _ hk => keep_switchDone hk) rfl rfl rfl hq
@[simp] theorem dv_switchDone {s}  {rq iq} (hq : Nat.testBit 0x0 (Reg.ctorIdx rq) = false) : ((switchDone s)).dv rq iq = State.dv s rq iq :=
  dev_of iq (fun _ hk => keep_switchDone hk) rfl rfl rfl hq
@[simp] theorem ts_switchDone {s}  : ((switchDone s)).ts = State.ts s := ts_of (fun _ hk => keep_switchDone hk) rfl
@[simp] theorem dv_switchSlot {s} {i}   {rq iq} (hq : Nat.testBit 0x1802000000000000000000000000000000000000100000000000000000000000000000000000000000001e000601f5000000000000000000000000070000 (Reg.ctorIdx rq) = false) : ((switchSlot s i)).dv rq iq = State.dv s rq iq :=
  dev_of iq (fun _ hk => keep_switchSlot hk) rfl rfl rfl hq
@[simp] theorem ts_switchSlot {s} {i}   : ((switchSlot s i)).ts = State.ts s := ts_of (fun _ hk => keep_switchSlot hk) rfl
@[simp] theorem dv_switchSlotDue {s} {i}   {rq iq} (hq : Nat.testBit 0x1802000000000000000000000000000000000000100000000000000000000000000000000000000000001e000601f5000000000000000000000000070000 (Reg.ctorIdx rq) = false) : ((switchSlotDue s i)).dv rq iq = State.dv s rq iq :=
  dev_of iq (fun _ hk => keep_switchSlotDue hk) rfl rfl rfl hq
@[simp] theorem ts_switchSlotDue {s} {i}   : ((switchSlotDue s i)).ts = State.ts s := ts_of (fun _ hk => keep_switchSlotDue hk) rfl
@[simp] theorem dv_switchDevice {s}   {rq iq} (hq : Nat.testBit 0x1802000000000000000000000000000000000000100000000000000000000000000000000000000000001e000601f5000000000000000000000000070000 (Reg.ctorIdx rq) = false) : ((switchDevice s)).dv rq iq = State.dv s rq iq :=
  dev_of iq (fun _ hk => keep_switchDevice hk) rfl rfl rfl hq
@[simp] theorem ts_switchDevice {s}   : ((switchDevice s)).ts = State.ts s := ts_of (fun _ hk => keep_switchDevice hk) rfl
@[simp] theorem dv_profSelect {s v}  {rq iq} (hq : Nat.testBit 0x1802000000000000000000000000000000000000100000000000000000000000000000000000000000001e000601f5000000000000000000000000070000 (Reg.ctorIdx rq) = false) : ((profSelect s v).1).dv rq iq = State.dv s rq iq :=
  dev_of iq (fun _ hk => keep_profSelect hk) rfl rfl rfl hq
@[simp] theorem ts_profSelect {s v}  : ((profSelect s v).1).ts = State.ts s := ts_of (fun _ hk => keep_profSelect hk) rfl
@[simp] theorem get_reloadCobs {s}   {rq iq} (hq : Nat.testBit 0x8080000000000000000000000000000000000000000000002000000000000000000000000000000000000000000000000000000000000000000000000000000000000000000000000000000000000000000000000000000000000000000000000000000000000000000000000000000000000000000000000000000000000000000 (Reg.ctorIdx rq) = false) : ((reloadCobs s)).get rq iq = State.get s rq iq :=
  reg_of iq (fun _ hk => keep_reloadCobs hk) rfl rfl rfl hq
@[simp] theorem dv_reloadCobs {s}   {rq iq} (hq : Nat.testBit 0x0 (Reg.ctorIdx rq) = false) : ((reloadCobs s)).dv rq iq = State.dv s rq iq :=
  dev_of iq (fun _ hk => keep_reloadCobs hk) rfl rfl rfl hq
@[simp] theorem se_reloadCobs {xq : State} {s}   : SameEvents xq ((reloadCobs s)) ↔ SameEvents xq s := se_of (fun _ hk => keep_reloadCobs hk) rfl
@[simp] theorem ts_reloadCobs {s}   : ((reloadCobs s)).ts = State.ts s := ts_of (fun _ hk => keep_reloadCobs hk) rfl
@[simp] theorem get_pdoDefaults {s}   {rq iq} (hq : Nat.testBit 0xebf4f00000000000000000000000000000000000000000000000000000000000000000000000000000000000000000000000000000000000000000000000000000000000000000000000000000000000000000000000000000000000000000000000000000000000000000000000000000000000000000000000000000000000000000 (Reg.ctorIdx rq) = false) : ((pdoDefaults s)).get rq iq = State.get s rq iq :=
  reg_of iq (fun _ hk => keep_pdoDefaults hk) rfl rfl rfl hq
@[simp] theorem dv_pdoDefaults {s}   {rq iq} (hq : Nat.testBit 0x0 (Reg.ctorIdx rq) = false) : ((pdoDefaults s)).dv rq iq = State.dv s rq iq :=
  dev_of iq (fun _ hk => keep_pdoDefaults hk) rfl rfl rfl hq
@[simp] theorem se_pdoDefaults {xq : State} {s}   : SameEvents xq ((pdoDefaults s)) ↔ SameEvents xq s := se_of (fun _ hk => keep_pdoDefaults hk) rfl
@[simp] theorem ts_pdoDefaults {s}   : ((pdoDefaults s)).ts = State.ts s := ts_of (fun _ hk => keep_pdoDefaults hk) rfl
@[simp] theorem dv_reloadComm {s}   {rq iq} (hq : Nat.testBit 0x1802000000000000000000000000000000000000100000000000000000000000000000000000000000001e000601f5000000000000000000000000070000 (Reg.ctorIdx rq) = false) : ((reloadComm s)).dv rq iq = State.dv s rq iq :=
  dev_of iq (fun _ hk => keep_reloadComm hk) rfl rfl rfl hq
@[simp] theorem ts_reloadComm {s}   : ((reloadComm s)).ts = State.ts s := ts_of (fun _ hk => keep_reloadComm hk) rfl
@[simp] theorem dv_reloadOpen {s}   {rq iq} (hq : Nat.testBit 0x1802000000000000000000000000000000000000100000000000000000000000000000000000000000001e000601f5000000000000000000000000070000 (Reg.ctorIdx rq) = false) : ((reloadOpen s)).dv rq iq = State.dv s rq iq :=
  dev_of iq (fun _ hk => keep_reloadOpen hk) rfl rfl rfl hq
@[simp] theorem ts_reloadOpen {s}   : ((reloadOpen s)).ts = State.ts s := ts_of (fun _ hk => keep_reloadOpen hk) rfl
@[simp] theorem get_storeParameters {s} {sub} {v}   {rq iq} (hq : Nat.testBit 0x0 (Reg.ctorIdx rq) = false) : ((storeParameters s sub v).1).get rq iq = State.get s rq iq :=
  reg_of iq (fun _ hk => keep_storeParameters hk) rfl rfl rfl hq
@[simp] theorem dv_storeParameters {s} {sub} {v}   {rq iq} (hq : Nat.testBit 0x0 (Reg.ctorIdx rq) = false) : ((storeParameters s sub v).1).dv rq iq = State.dv s rq iq :=
  dev_of iq (fun _ hk => keep_storeParameters hk) rfl rfl rfl hq
@[simp] theorem se_storeParameters {xq : State} {s} {sub} {v}   : SameEvents xq ((storeParameters s sub v).1) ↔ SameEvents xq s := se_of (fun _ hk => keep_storeParameters hk) rfl
@[simp] theorem ts_storeParameters {s} {sub} {v}   : ((storeParameters s sub v).1).ts = State.ts s := ts_of (fun _ hk => keep_storeParameters hk) rfl
@[simp] theorem get_restoreParameters {s} {sub} {v}   {rq iq} (hq : Nat.testBit 0x0 (Reg.ctorIdx rq) = false) : ((restoreParameters s sub v).1).get rq iq = State.get s rq iq :=
  reg_of iq (fun _ hk => keep_restoreParameters hk) rfl rfl rfl hq
@[simp] theorem dv_restoreParameters {s} {sub} {v}   {rq iq} (hq : Nat.testBit 0x0 (Reg.ctorIdx rq) = false) : ((restoreParameters s sub v).1).dv rq iq = State.dv s rq iq :=
  dev_of iq (fun _ hk => keep_restoreParameters hk) rfl rfl rfl hq
@[simp] theorem se_restoreParameters {xq : State} {s} {sub} {v}   : SameEvents xq ((restoreParameters s sub v).1) ↔ SameEvents xq s := se_of (fun _ hk => keep_restoreParameters hk) rfl
@[simp] theorem ts_restoreParameters {s} {sub} {v}   : ((restoreParameters s sub v).1).ts = State.ts s := ts_of (fun _ hk => keep_restoreParameters hk) rfl
@[simp] theorem get_heard {s} {b}   {rq iq} (hq : Nat.testBit 0x18000000000000000000000000000000000000000000000000000000000000000000000000000000000000000000000000000000000000000000000000000000000000000000000000000000000000000000000000000000000000000000000000000000000000000 (Reg.ctorIdx rq) = false) : ((heard s b)).get rq iq = State.get s rq iq :=
  reg_of iq (fun _ hk => keep_heard hk) rfl rfl rfl hq
@[simp] theorem dv_heard {s} {b}   {rq iq} (hq : Nat.testBit 0x0 (Reg.ctorIdx rq) = false) : ((heard s b)).dv rq iq = State.dv s rq iq :=
  dev_of iq (fun _ hk => keep_heard hk) rfl rfl rfl hq
@[simp] theorem se_heard {xq : State} {s} {b}   : SameEvents xq ((heard s b)) ↔ SameEvents xq s := se_of (fun _ hk => keep_heard hk) rfl
@[simp] theorem ts_heard {s} {b}   : ((heard s b)).ts = State.ts s := ts_of (fun _ hk => keep_heard hk) rfl
@[simp] theorem get_takeFrame {s b id data}  {rq iq} (hq : Nat.testBit 0x1b000000000000000000000000000000000000000000000000000000000000000000000000000000000000000000000000000000000000000000000000000000000000000000000000000000000000000000000000000000000000000000000000000000000000000 (Reg.ctorIdx rq) = false) : ((takeFrame s b id data).1).get rq iq = State.get s rq iq :=
  reg_of iq (fun _ hk => keep_takeFrame hk) rfl rfl rfl hq
@[simp] theorem dv_takeFrame {s b id data}  {rq iq} (hq : Nat.testBit 0x0 (Reg.ctorIdx rq) = false) : ((takeFrame s b id data).1).dv rq iq = State.dv s rq iq :=
  dev_of iq (fun _ hk => keep_takeFrame hk) rfl rfl rfl hq
@[simp] theorem se_takeFrame {xq : State} {s b id data}  : SameEvents xq ((takeFrame s b id data).1) ↔ SameEvents xq s := se_of (fun _ hk => keep_takeFrame hk) rfl
@[simp] theorem ts_takeFrame {s b id data}  : ((takeFrame s b id data).1).ts = State.ts s := ts_of (fun _ hk => keep_takeFrame hk) rfl
@[simp] theorem get_loseBus {s} {b} {off}   {rq iq} (hq : Nat.testBit 0x10000000000000000000000000000000000000000000000000000700370800000000000000000000000000000000000000000000000000000000000000000000000040060000000000000200180000000000000000000000000000000000000000000000000000000000000000000000000000000000000000000000000000300022b00000 (Reg.ctorIdx rq) = false) : ((loseBus s b off)).get rq iq = State.get s rq iq :=
  reg_of iq (fun _ hk => keep_loseBus hk) rfl rfl rfl hq
@[simp] theorem dv_loseBus {s} {b} {off}   {rq iq} (hq : Nat.testBit 0x0 (Reg.ctorIdx rq) = false) : ((loseBus s b off)).dv rq iq = State.dv s rq iq :=
  dev_of iq (fun _ hk => keep_loseBus hk) rfl rfl rfl hq
@[simp] theorem ts_loseBus {s} {b} {off}   : ((loseBus s b off)).ts = State.ts s := ts_of (fun _ hk => keep_loseBus hk) rfl
@[simp] theorem get_canBusOff {s} {b}   {rq iq} (hq : Nat.testBit 0x10000000000000000000000000000000000000000000000000000700374800000000000000000000000000000000000000000000000000000000000000000000000040060000000000000200180000000000000000000000000000000000000000000000000000000000000000000000000000000000000000000000000000300022b00000 (Reg.ctorIdx rq) = false) : ((canBusOff s b)).get rq iq = State.get s rq iq :=
  reg_of iq (fun _ hk => keep_canBusOff hk) rfl rfl rfl hq
@[simp] theorem dv_canBusOff {s} {b}   {rq iq} (hq : Nat.testBit 0x0 (Reg.ctorIdx rq) = false) : ((canBusOff s b)).dv rq iq = State.dv s rq iq :=
  dev_of iq (fun _ hk => keep_canBusOff hk) rfl rfl rfl hq
@[simp] theorem ts_canBusOff {s} {b}   : ((canBusOff s b)).ts = State.ts s := ts_of (fun _ hk => keep_canBusOff hk) rfl
@[simp] theorem get_canSilence {s} {b}   {rq iq} (hq : Nat.testBit 0x10000000000000000000000000000000000000000000000000000700370800000000000000000000000000000000000000000000000000000000000000000000000040060000000000000200180000000000000000000000000000000000000000000000000000000000000000000000000000000000000000000000000000300022b00000 (Reg.ctorIdx rq) = false) : ((canSilence s b)).get rq iq = State.get s rq iq :=
  reg_of iq (fun _ hk => keep_canSilence hk) rfl rfl rfl hq
@[simp] theorem dv_canSilence {s} {b}   {rq iq} (hq : Nat.testBit 0x0 (Reg.ctorIdx rq) = false) : ((canSilence s b)).dv rq iq = State.dv s rq iq :=
  dev_of iq (fun _ hk => keep_canSilence hk) rfl rfl rfl hq
@[simp] theorem ts_canSilence {s} {b}   : ((canSilence s b)).ts = State.ts s := ts_of (fun _ hk => keep_canSilence hk) rfl
@[simp] theorem get_canRestored {s} {b}   {rq iq} (hq : Nat.testBit 0x360800000000000000000000000000000000000000000000000000000000000000000000000040000000000000000000080000000000000000000000000000000000000000000000000000000000000000000000000000000000000000000000000000300022b00000 (Reg.ctorIdx rq) = false) : ((canRestored s b)).get rq iq = State.get s rq iq :=
  reg_of iq (fun _ hk => keep_canRestored hk) rfl rfl rfl hq
@[simp] theorem dv_canRestored {s} {b}   {rq iq} (hq : Nat.testBit 0x0 (Reg.ctorIdx rq) = false) : ((canRestored s b)).dv rq iq = State.dv s rq iq :=
  dev_of iq (fun _ hk => keep_canRestored hk) rfl rfl rfl hq
@[simp] theorem ts_canRestored {s} {b}   : ((canRestored s b)).ts = State.ts s := ts_of (fun _ hk => keep_canRestored hk) rfl
@[simp] theorem get_commError {s} {k} {code} {event}   {rq iq} (hq : Nat.testBit 0x3e0000000000000000000000000000000000000000000000000000000000000000000000000000000000000000000000000000000000000000000000000000000000000000000000000000000000000000000000000000000000000000000000000000000000000000 (Reg.ctorIdx rq) = false) : ((commError s k code event)).get rq iq = State.get s rq iq :=
  reg_of iq (fun _ hk => keep_commError hk) rfl rfl rfl hq
@[simp] theorem dv_commError {s} {k} {code} {event}   {rq iq} (hq : Nat.testBit 0x0 (Reg.ctorIdx rq) = false) : ((commError s k code event)).dv rq iq = State.dv s rq iq :=
  dev_of iq (fun _ hk => keep_commError hk) rfl rfl rfl hq
@[simp] theorem se_commError {xq : State} {s} {k} {code} {event}   : SameEvents xq ((commError s k code event)) ↔ SameEvents xq s := se_of (fun _ hk => keep_commError hk) rfl
@[simp] theorem ts_commError {s} {k} {code} {event}   : ((commError s k code event)).ts = State.ts s := ts_of (fun _ hk => keep_commError hk) rfl
@[simp] theorem get_commClear {s} {k}   {rq iq} (hq : Nat.testBit 0x3e0000000000000000000000000000000000000000000000000000000000000000000000000000000000000000000000000000000000000000000000000000000000000000000000000000000000000000000000000000000000000000000000000000000000000000 (Reg.ctorIdx rq) = false) : ((commClear s k)).get rq iq = State.get s rq iq :=
  reg_of iq (fun _ hk => keep_commClear hk) rfl rfl rfl hq
@[simp] theorem dv_commClear {s} {k}   {rq iq} (hq : Nat.testBit 0x0 (Reg.ctorIdx rq) = false) : ((commClear s k)).dv rq iq = State.dv s rq iq :=
  dev_of iq (fun _ hk => keep_commClear hk) rfl rfl rfl hq
@[simp] theorem se_commClear {xq : State} {s} {k}   : SameEvents xq ((commClear s k)) ↔ SameEvents xq s := se_of (fun _ hk => keep_commClear hk) rfl
@[simp] theorem ts_commClear {s} {k}   : ((commClear s k)).ts = State.ts s := ts_of (fun _ hk => keep_commClear hk) rfl
@[simp] theorem get_canRecovered {s} {b}   {rq iq} (hq : Nat.testBit 0x3e4000000000000000000000000000000000000000000000000000000000000000000000000000000000000000000000000000000000000000000000000000000000000000000000000000000000000000000000000000000000000000000000000000000000000000 (Reg.ctorIdx rq) = false) : ((canRecovered s b)).get rq iq = State.get s rq iq :=
  reg_of iq (fun _ hk => keep_canRecovered hk) rfl rfl rfl hq
@[simp] theorem dv_canRecovered {s} {b}   {rq iq} (hq : Nat.testBit 0x0 (Reg.ctorIdx rq) = false) : ((canRecovered s b)).dv rq iq = State.dv s rq iq :=
  dev_of iq (fun _ hk => keep_canRecovered hk) rfl rfl rfl hq
@[simp] theorem se_canRecovered {xq : State} {s} {b}   : SameEvents xq ((canRecovered s b)) ↔ SameEvents xq s := se_of (fun _ hk => keep_canRecovered hk) rfl
@[simp] theorem ts_canRecovered {s} {b}   : ((canRecovered s b)).ts = State.ts s := ts_of (fun _ hk => keep_canRecovered hk) rfl
@[simp] theorem get_canOverrun {s} {b}   {rq iq} (hq : Nat.testBit 0x3e0000000000000000000000000000000000000000000000000000000000000000000000000000000000000000000000000000000000000000000000000000000000000000000000000000000000000000000000000000000000000000000000000000000000000000 (Reg.ctorIdx rq) = false) : ((canOverrun s b)).get rq iq = State.get s rq iq :=
  reg_of iq (fun _ hk => keep_canOverrun hk) rfl rfl rfl hq
@[simp] theorem dv_canOverrun {s} {b}   {rq iq} (hq : Nat.testBit 0x0 (Reg.ctorIdx rq) = false) : ((canOverrun s b)).dv rq iq = State.dv s rq iq :=
  dev_of iq (fun _ hk => keep_canOverrun hk) rfl rfl rfl hq
@[simp] theorem se_canOverrun {xq : State} {s} {b}   : SameEvents xq ((canOverrun s b)) ↔ SameEvents xq s := se_of (fun _ hk => keep_canOverrun hk) rfl
@[simp] theorem ts_canOverrun {s} {b}   : ((canOverrun s b)).ts = State.ts s := ts_of (fun _ hk => keep_canOverrun hk) rfl
@[simp] theorem get_setNmt {s} {st}   {rq iq} (hq : Nat.testBit 0x1000e004000000000000000000000000000000000000000000000000000001000000000000000000000000000000000000000000000000000000000000000000000000000000000000000000000000000000000000000000000000000000000000000000000000000000000000000000000000000000000000000000000000000000000000 (Reg.ctorIdx rq) = false) : ((setNmt s st)).get rq iq = State.get s rq iq :=
  reg_of iq (fun _ hk => keep_setNmt hk) rfl rfl rfl hq
@[simp] theorem dv_setNmt {s} {st}   {rq iq} (hq : Nat.testBit 0x0 (Reg.ctorIdx rq) = false) : ((setNmt s st)).dv rq iq = State.dv s rq iq :=
  dev_of iq (fun _ hk => keep_setNmt hk) rfl rfl rfl hq
@[simp] theorem se_setNmt {xq : State} {s} {st}   : SameEvents xq ((setNmt s st)) ↔ SameEvents xq s := se_of (fun _ hk => keep_setNmt hk) rfl
@[simp] theorem ts_setNmt {s} {st}   : ((setNmt s st)).ts = State.ts s := ts_of (fun _ hk => keep_setNmt hk) rfl
@[simp] theorem get_bootUp {s}   {rq iq} (hq : Nat.testBit 0x1000e004000000000000000000000000000000000000000000000000000001000000000000000000000000000000000000000000000000000000000000000000000000000000000000000000000000000000000000000000000000000000000000000000000000000000000000000000000000000000000000000000000000000000000000 (Reg.ctorIdx rq) = false) : ((bootUp s)).get rq iq = State.get s rq iq :=
  reg_of iq (fun _ hk => keep_bootUp hk) rfl rfl rfl hq
@[simp] theorem dv_bootUp {s}   {rq iq} (hq : Nat.testBit 0x0 (Reg.ctorIdx rq) = false) : ((bootUp s)).dv rq iq = State.dv s rq iq :=
  dev_of iq (fun _ hk => keep_bootUp hk) rfl rfl rfl hq
@[simp] theorem se_bootUp {xq : State} {s}   : SameEvents xq ((bootUp s)) ↔ SameEvents xq s := se_of (fun _ hk => keep_bootUp hk) rfl
@[simp] theorem ts_bootUp {s}   : ((bootUp s)).ts = State.ts s := ts_of (fun _ hk => keep_bootUp hk) rfl
@[simp] theorem get_developCan {s}   {rq iq} (hq : Nat.testBit 0x10000000000000000000000000000000000000000000000000000000000000000000000000000000000000000000000000000000000000000000000000000000000000000000000000000000000000000000000000000000000000000000000000000000000000 (Reg.ctorIdx rq) = false) : ((developCan s)).get rq iq = State.get s rq iq :=
  reg_of iq (fun _ hk => keep_developCan hk) rfl rfl rfl hq
@[simp] theorem dv_developCan {s}   {rq iq} (hq : Nat.testBit 0x1e0000000000000000000000000000000000000000000000000000000000000000000000000000000000000000000000000000000000000000000000000000000000000000000000000000000000000000000000000000000000000000000000000000000000000 (Reg.ctorIdx rq) = false) : ((developCan s)).dv rq iq = State.dv s rq iq :=
  dev_of iq (fun _ hk => keep_developCan hk) rfl rfl rfl hq
@[simp] theorem se_developCan {xq : State} {s}   : SameEvents xq ((developCan s)) ↔ SameEvents xq s := se_of (fun _ hk => keep_developCan hk) rfl
@[simp] theorem ts_developCan {s}   : ((developCan s)).ts = State.ts s := ts_of (fun _ hk => keep_developCan hk) rfl
@[simp] theorem dv_resetCommunication {s}   {rq iq} (hq : Nat.testBit 0x1e0000000000000000000000000000000000000000000000000000000000000000000000000000000001802000000000000000000000000000000000000100000000000000000000000000000000000000000001e000601f5000000000000000000000000070000 (Reg.ctorIdx rq) = false) : ((resetCommunication s)).dv rq iq = State.dv s rq iq :=
  dev_of iq (fun _ hk => keep_resetCommunication hk) rfl rfl rfl hq
@[simp] theorem ts_resetCommunication {s}   : ((resetCommunication s)).ts = State.ts s := ts_of (fun _ hk => keep_resetCommunication hk) rfl
@[simp] theorem get_resetNode {s}   {rq iq} (hq : Nat.testBit 0x8000000000000000000000000000000000000008000000000060000360000000000000e00800000000300800415600000001006284081020000002f05c02c6c600040000000000000004000080000000000000000000000000002800010000000000000000000000000000000c40000000000088000e00000483100000b00300022b80000 (Reg.ctorIdx rq) = false) : ((resetNode s)).get rq iq = State.get s rq iq :=
  reg_of iq (fun _ hk => keep_resetNode hk) rfl rfl rfl hq
@[simp] theorem dv_resetNode {s}   {rq iq} (hq : Nat.testBit 0x100000000000000000000000000000000000000000001e00060000000000000000000000000000000000 (Reg.ctorIdx rq) = false) : ((resetNode s)).dv rq iq = State.dv s rq iq :=
  dev_of iq (fun _ hk => keep_resetNode hk) rfl rfl rfl hq
@[simp] theorem ts_resetNode {s}   : ((resetNode s)).ts = State.ts s := ts_of (fun _ hk => keep_resetNode hk) rfl
@[simp] theorem dv_resetNodeReload {s}   {rq iq} (hq : Nat.testBit 0x1e0000000000000000000000000000000000000000000000000000000000000000000000000000000001802000000000000000000000000000000000000100000000000000000000000000000000000000000001e000601f5000000000000000000000000070000 (Reg.ctorIdx rq) = false) : ((resetNodeReload s)).dv rq iq = State.dv s rq iq :=
  dev_of iq (fun _ hk => keep_resetNodeReload hk) rfl rfl rfl hq
@[simp] theorem ts_resetNodeReload {s}   : ((resetNodeReload s)).ts = State.ts s := ts_of (fun _ hk => keep_resetNodeReload hk) rfl
@[simp] theorem get_lssAnswer {s} {data}   {rq iq} (hq : Nat.testBit 0x0 (Reg.ctorIdx rq) = false) : ((lssAnswer s data)).get rq iq = State.get s rq iq :=
  reg_of iq (fun _ hk => keep_lssAnswer hk) rfl rfl rfl hq
@[simp] theorem dv_lssAnswer {s} {data}   {rq iq} (hq : Nat.testBit 0x0 (Reg.ctorIdx rq) = false) : ((lssAnswer s data)).dv rq iq = State.dv s rq iq :=
  dev_of iq (fun _ hk => keep_lssAnswer hk) rfl rfl rfl hq
@[simp] theorem se_lssAnswer {xq : State} {s} {data}   : SameEvents xq ((lssAnswer s data)) ↔ SameEvents xq s := se_of (fun _ hk => keep_lssAnswer hk) rfl
@[simp] theorem ts_lssAnswer {s} {data}   : ((lssAnswer s data)).ts = State.ts s := ts_of (fun _ hk => keep_lssAnswer hk) rfl
@[simp] theorem dv_lssSwitch {s} {mode} {sel}   {rq iq} (hq : Nat.testBit 0x1e0000000000000000000000000000000000000000000000000000000000000000000000000000000001802000000000000000000000000000000000000100000000000000000000000000000000000000000001e000601f5000000000000000000000000070000 (Reg.ctorIdx rq) = false) : ((lssSwitch s mode sel)).dv rq iq = State.dv s rq iq :=
  dev_of iq (fun _ hk => keep_lssSwitch hk) rfl rfl rfl hq
@[simp] theorem ts_lssSwitch {s} {mode} {sel}   : ((lssSwitch s mode sel)).ts = State.ts s := ts_of (fun _ hk => keep_lssSwitch hk) rfl
@[simp] theorem get_lssNodeId {s} {node}   {rq iq} (hq : Nat.testBit 0x8000000000000000000000000000000000000000000000000000000000000000000000000000000000000000000000000000000000000000000000000000000000000000000000000000000000000000000000000000000000000000000000000000000000000 (Reg.ctorIdx rq) = false) : ((lssNodeId s node)).get rq iq = State.get s rq iq :=
  reg_of iq (fun _ hk => keep_lssNodeId hk) rfl rfl rfl hq
@[simp] theorem dv_lssNodeId {s} {node}   {rq iq} (hq : Nat.testBit 0x0 (Reg.ctorIdx rq) = false) : ((lssNodeId s node)).dv rq iq = State.dv s rq iq :=
  dev_of iq (fun _ hk => keep_lssNodeId hk) rfl rfl rfl hq
@[simp] theorem se_lssNodeId {xq : State} {s} {node}   : SameEvents xq ((lssNodeId s node)) ↔ SameEvents xq s := se_of (fun _ hk => keep_lssNodeId hk) rfl
@[simp] theorem ts_lssNodeId {s} {node}   : ((lssNodeId s node)).ts = State.ts s := ts_of (fun _ hk => keep_lssNodeId hk) rfl
@[simp] theorem get_lssBitTiming {s} {table} {entry}   {rq iq} (hq : Nat.testBit 0x40000000000000000000000000000000000000000000000000000000000000000000000000000000000000000000000000000000000000000000000000000000000000000000000000000000000000000000000000000000000000000000000000000000000000000000000000000000000000000000000000000000000000000000000 (Reg.ctorIdx rq) = false) : ((lssBitTiming s table entry)).get rq iq = State.get s rq iq :=
  reg_of iq (fun _ hk => keep_lssBitTiming hk) rfl rfl rfl hq
@[simp] theorem dv_lssBitTiming {s} {table} {entry}   {rq iq} (hq : Nat.testBit 0x0 (Reg.ctorIdx rq) = false) : ((lssBitTiming s table entry)).dv rq iq = State.dv s rq iq :=
  dev_of iq (fun _ hk => keep_lssBitTiming hk) rfl rfl rfl hq
@[simp] theorem se_lssBitTiming {xq : State} {s} {table} {entry}   : SameEvents xq ((lssBitTiming s table entry)) ↔ SameEvents xq s := se_of (fun _ hk => keep_lssBitTiming hk) rfl
@[simp] theorem ts_lssBitTiming {s} {table} {entry}   : ((lssBitTiming s table entry)).ts = State.ts s := ts_of (fun _ hk => keep_lssBitTiming hk) rfl
@[simp] theorem get_lssActivate {s}   {rq iq} (hq : Nat.testBit 0x40000000000000000000000000000000000000000000000000000000000000000000000000000000000000000000000000000000000000000000000000000000000000000000000000000000000000000000000000000000000000000000000000000000000000 (Reg.ctorIdx rq) = false) : ((lssActivate s)).get rq iq = State.get s rq iq :=
  reg_of iq (fun _ hk => keep_lssActivate hk) rfl rfl rfl hq
@[simp] theorem dv_lssActivate {s}   {rq iq} (hq : Nat.testBit 0x40000000000000000000000000000000000000000000000000000000000000000000000000000000000000000000000000000000000000000000000000000000000000000000000000000000000000000000000000000000000000000000000000000000000000 (Reg.ctorIdx rq) = false) : ((lssActivate s)).dv rq iq = State.dv s rq iq :=
  dev_of iq (fun _ hk => keep_lssActivate hk) rfl rfl rfl hq
@[simp] theorem se_lssActivate {xq : State} {s}   : SameEvents xq ((lssActivate s)) ↔ SameEvents xq s := se_of (fun _ hk => keep_lssActivate hk) rfl
@[simp] theorem ts_lssActivate {s}   : ((lssActivate s)).ts = State.ts s := ts_of (fun _ hk => keep_lssActivate hk) rfl
@[simp] theorem get_lssStore {s}   {rq iq} (hq : Nat.testBit 0x4000000000000000000000000000000000000000000000000000000000000000000000000000000000000000000000000000000000000000000000000000000000000000000000000000000000000000000000000000000000000000000000000000000000000 (Reg.ctorIdx rq) = false) : ((lssStore s)).get rq iq = State.get s rq iq :=
  reg_of iq (fun _ hk => keep_lssStore hk) rfl rfl rfl hq
@[simp] theorem dv_lssStore {s}   {rq iq} (hq : Nat.testBit 0x0 (Reg.ctorIdx rq) = false) : ((lssStore s)).dv rq iq = State.dv s rq iq :=
  dev_of iq (fun _ hk => keep_lssStore hk) rfl rfl rfl hq
@[simp] theorem se_lssStore {xq : State} {s}   : SameEvents xq ((lssStore s)) ↔ SameEvents xq s := se_of (fun _ hk => keep_lssStore hk) rfl
@[simp] theorem ts_lssStore {s}   : ((lssStore s)).ts = State.ts s := ts_of (fun _ hk => keep_lssStore hk) rfl
@[simp] theorem get_lssInquire {s} {what}   {rq iq} (hq : Nat.testBit 0x0 (Reg.ctorIdx rq) = false) : ((lssInquire s what)).get rq iq = State.get s rq iq :=
  reg_of iq (fun _ hk => keep_lssInquire hk) rfl rfl rfl hq
@[simp] theorem dv_lssInquire {s} {what}   {rq iq} (hq : Nat.testBit 0x0 (Reg.ctorIdx rq) = false) : ((lssInquire s what)).dv rq iq = State.dv s rq iq :=
  dev_of iq (fun _ hk => keep_lssInquire hk) rfl rfl rfl hq
@[simp] theorem se_lssInquire {xq : State} {s} {what}   : SameEvents xq ((lssInquire s what)) ↔ SameEvents xq s := se_of (fun _ hk => keep_lssInquire hk) rfl
@[simp] theorem ts_lssInquire {s} {what}   : ((lssInquire s what)).ts = State.ts s := ts_of (fun _ hk => keep_lssInquire hk) rfl
@[simp] theorem get_lssIdentify {s} {range}   {rq iq} (hq : Nat.testBit 0x0 (Reg.ctorIdx rq) = false) : ((lssIdentify s range)).get rq iq = State.get s rq iq :=
  reg_of iq (fun _ hk => keep_lssIdentify hk) rfl rfl rfl hq
@[simp] theorem dv_lssIdentify {s} {range}   {rq iq} (hq : Nat.testBit 0x0 (Reg.ctorIdx rq) = false) : ((lssIdentify s range)).dv rq iq = State.dv s rq iq :=
  dev_of iq (fun _ hk => keep_lssIdentify hk) rfl rfl rfl hq
@[simp] theorem se_lssIdentify {xq : State} {s} {range}   : SameEvents xq ((lssIdentify s range)) ↔ SameEvents xq s := se_of (fun _ hk => keep_lssIdentify hk) rfl
@[simp] theorem ts_lssIdentify {s} {range}   : ((lssIdentify s range)).ts = State.ts s := ts_of (fun _ hk => keep_lssIdentify hk) rfl
@[simp] theorem get_heartbeatProduce {s}   {rq iq} (hq : Nat.testBit 0x4000000000000000000000000000000000000000000000000000000000000000000000000000000000000000000000000000000000000000000000000000000000000000000000000000000000000000000000000000000000000000000000000000000000000000000000000000000000000000000000000000000000000000000000000 (Reg.ctorIdx rq) = false) : ((heartbeatProduce s)).get rq iq = State.get s rq iq :=
  reg_of iq (fun _ hk => keep_heartbeatProduce hk) rfl rfl rfl hq
@[simp] theorem dv_heartbeatProduce {s}   {rq iq} (hq : Nat.testBit 0x0 (Reg.ctorIdx rq) = false) : ((heartbeatProduce s)).dv rq iq = State.dv s rq iq :=
  dev_of iq (fun _ hk => keep_heartbeatProduce hk) rfl rfl rfl hq
@[simp] theorem se_heartbeatProduce {xq : State} {s}   : SameEvents xq ((heartbeatProduce s)) ↔ SameEvents xq s := se_of (fun _ hk => keep_heartbeatProduce hk) rfl
@[simp] theorem ts_heartbeatProduce {s}   : ((heartbeatProduce s)).ts = State.ts s := ts_of (fun _ hk => keep_heartbeatProduce hk) rfl
@[simp] theorem get_heartbeatConsumed {s} {b} {node}   {rq iq} (hq : Nat.testBit 0x38000000000000000000000000000000000000000000000000000003f8000000000000000000000000000000000000000000000000000000000000000000000000000000000000000000000000000000000000000000000000000000000000000000000000000000000000000000000000000000000000000000000000000000000000000 (Reg.ctorIdx rq) = false) : ((heartbeatConsumed s b node)).get rq iq = State.get s rq iq :=
  reg_of iq (fun _ hk => keep_heartbeatConsumed hk) rfl rfl rfl hq
@[simp] theorem dv_heartbeatConsumed {s} {b} {node}   {rq iq} (hq : Nat.testBit 0x0 (Reg.ctorIdx rq) = false) : ((heartbeatConsumed s b node)).dv rq iq = State.dv s rq iq :=
  dev_of iq (fun _ hk => keep_heartbeatConsumed hk) rfl rfl rfl hq
@[simp] theorem se_heartbeatConsumed {xq : State} {s} {b} {node}   : SameEvents xq ((heartbeatConsumed s b node)) ↔ SameEvents xq s := se_of (fun _ hk => keep_heartbeatConsumed hk) rfl
@[simp] theorem ts_heartbeatConsumed {s} {b} {node}   : ((heartbeatConsumed s b node)).ts = State.ts s := ts_of (fun _ hk => keep_heartbeatConsumed hk) rfl
@[simp] theorem get_errorBehaviour {s}   {rq iq} (hq : Nat.testBit 0x1000e004000000000000000000000000000000000000000000000000000001000000000000000000000000000000000000000000000000000000000000000000000000000000000000000000000000000000000000000000000000000000000000000000000000000000000000000000000000000000000000000000000000000000000000 (Reg.ctorIdx rq) = false) : ((errorBehaviour s)).get rq iq = State.get s rq iq :=
  reg_of iq (fun _ hk => keep_errorBehaviour hk) rfl rfl rfl hq
@[simp] theorem dv_errorBehaviour {s}   {rq iq} (hq : Nat.testBit 0x0 (Reg.ctorIdx rq) = false) : ((errorBehaviour s)).dv rq iq = State.dv s rq iq :=
  dev_of iq (fun _ hk => keep_errorBehaviour hk) rfl rfl rfl hq
@[simp] theorem se_errorBehaviour {xq : State} {s}   : SameEvents xq ((errorBehaviour s)) ↔ SameEvents xq s := se_of (fun _ hk => keep_errorBehaviour hk) rfl
@[simp] theorem ts_errorBehaviour {s}   : ((errorBehaviour s)).ts = State.ts s := ts_of (fun _ hk => keep_errorBehaviour hk) rfl
@[simp] theorem get_communicationLoss {s}   {rq iq} (hq : Nat.testBit 0x1200e0040000000000000000000000000000000080000000080600003e0001000000000e00880000000300800415600000001006284081020000002f05c02c6c600040000000000000004000080000000000000000000000000002800010000000000000000000000000000000c40000000000088000e00000483100000b00b00022b80000 (Reg.ctorIdx rq) = false) : ((communicationLoss s)).get rq iq = State.get s rq iq :=
  reg_of iq (fun _ hk => keep_communicationLoss hk) rfl rfl rfl hq
@[simp] theorem dv_communicationLoss {s}   {rq iq} (hq : Nat.testBit 0x100000000000000000000000000000000000000000001e00060000000000000000000000000000000000 (Reg.ctorIdx rq) = false) : ((communicationLoss s)).dv rq iq = State.dv s rq iq :=
  dev_of iq (fun _ hk => keep_communicationLoss hk) rfl rfl rfl hq
@[simp] theorem ts_communicationLoss {s}   : ((communicationLoss s)).ts = State.ts s := ts_of (fun _ hk => keep_communicationLoss hk) rfl
@[simp] theorem get_sendTpdo {s} {n}   {rq iq} (hq : Nat.testBit 0x7c00000000000000000000000000000000000000000000000000000000000000000000000000000000000000000000000000000000000000000000000000000000000000000000000000000000000000000000000000000000000000000000000000000000000000000000000000000000000000000000000000000000000000000000 (Reg.ctorIdx rq) = false) : ((sendTpdo s n)).get rq iq = State.get s rq iq :=
  reg_of iq (fun _ hk => keep_sendTpdo hk) rfl rfl rfl hq
@[simp] theorem dv_sendTpdo {s} {n}   {rq iq} (hq : Nat.testBit 0x0 (Reg.ctorIdx rq) = false) : ((sendTpdo s n)).dv rq iq = State.dv s rq iq :=
  dev_of iq (fun _ hk => keep_sendTpdo hk) rfl rfl rfl hq
@[simp] theorem se_sendTpdo {xq : State} {s} {n}   : SameEvents xq ((sendTpdo s n)) ↔ SameEvents xq s := se_of (fun _ hk => keep_sendTpdo hk) rfl
@[simp] theorem ts_sendTpdo {s} {n}   : ((sendTpdo s n)).ts = State.ts s := ts_of (fun _ hk => keep_sendTpdo hk) rfl
@[simp] theorem get_judgeTpdo {s} {n}   {rq iq} (hq : Nat.testBit 0x7c00000000000000000000000000000000000000000000000000000000000000000000000000000000000000000000000000000000000000000000000000000000000000000000000000000000000000000000000000000000000000000000000000000000000000000000000000000000000000000000000000000000000000000000 (Reg.ctorIdx rq) = false) : ((judgeTpdo s n)).get rq iq = State.get s rq iq :=
  reg_of iq (fun _ hk => keep_judgeTpdo hk) rfl rfl rfl hq
@[simp] theorem dv_judgeTpdo {s} {n}   {rq iq} (hq : Nat.testBit 0x0 (Reg.ctorIdx rq) = false) : ((judgeTpdo s n)).dv rq iq = State.dv s rq iq :=
  dev_of iq (fun _ hk => keep_judgeTpdo hk) rfl rfl rfl hq
@[simp] theorem se_judgeTpdo {xq : State} {s} {n}   : SameEvents xq ((judgeTpdo s n)) ↔ SameEvents xq s := se_of (fun _ hk => keep_judgeTpdo hk) rfl
@[simp] theorem ts_judgeTpdo {s} {n}   : ((judgeTpdo s n)).ts = State.ts s := ts_of (fun _ hk => keep_judgeTpdo hk) rfl
@[simp] theorem get_judgeTpdos {s}   {rq iq} (hq : Nat.testBit 0x7c00000000000000000000000000000000000000000000000000000000000000000000000000000000000000000000000000000000000000000000000000000000000000000000000000000000000000000000000000000000000000000000000000000000000000000000000000000000000000000000000000000000000000000000 (Reg.ctorIdx rq) = false) : ((judgeTpdos s)).get rq iq = State.get s rq iq :=
  reg_of iq (fun _ hk => keep_judgeTpdos hk) rfl rfl rfl hq
@[simp] theorem dv_judgeTpdos {s}   {rq iq} (hq : Nat.testBit 0x0 (Reg.ctorIdx rq) = false) : ((judgeTpdos s)).dv rq iq = State.dv s rq iq :=
  dev_of iq (fun _ hk => keep_judgeTpdos hk) rfl rfl rfl hq
@[simp] theorem se_judgeTpdos {xq : State} {s}   : SameEvents xq ((judgeTpdos s)) ↔ SameEvents xq s := se_of (fun _ hk => keep_judgeTpdos hk) rfl
@[simp] theorem ts_judgeTpdos {s}   : ((judgeTpdos s)).ts = State.ts s := ts_of (fun _ hk => keep_judgeTpdos hk) rfl
@[simp] theorem get_tpdoTimer {s} {n}   {rq iq} (hq : Nat.testBit 0x7c00000000000000000000000000000000000000000000000000000000000000000000000000000000000000000000000000000000000000000000000000000000000000000000000000000000000000000000000000000000000000000000000000000000000000000000000000000000000000000000000000000000000000000000 (Reg.ctorIdx rq) = false) : ((tpdoTimer s n)).get rq iq = State.get s rq iq :=
  reg_of iq (fun _ hk => keep_tpdoTimer hk) rfl rfl rfl hq
@[simp] theorem dv_tpdoTimer {s} {n}   {rq iq} (hq : Nat.testBit 0x0 (Reg.ctorIdx rq) = false) : ((tpdoTimer s n)).dv rq iq = State.dv s rq iq :=
  dev_of iq (fun _ hk => keep_tpdoTimer hk) rfl rfl rfl hq
@[simp] theorem se_tpdoTimer {xq : State} {s} {n}   : SameEvents xq ((tpdoTimer s n)) ↔ SameEvents xq s := se_of (fun _ hk => keep_tpdoTimer hk) rfl
@[simp] theorem ts_tpdoTimer {s} {n}   : ((tpdoTimer s n)).ts = State.ts s := ts_of (fun _ hk => keep_tpdoTimer hk) rfl
@[simp] theorem get_tpdoInhibit {s} {n}   {rq iq} (hq : Nat.testBit 0x7c00000000000000000000000000000000000000000000000000000000000000000000000000000000000000000000000000000000000000000000000000000000000000000000000000000000000000000000000000000000000000000000000000000000000000000000000000000000000000000000000000000000000000000000 (Reg.ctorIdx rq) = false) : ((tpdoInhibit s n)).get rq iq = State.get s rq iq :=
  reg_of iq (fun _ hk => keep_tpdoInhibit hk) rfl rfl rfl hq
@[simp] theorem dv_tpdoInhibit {s} {n}   {rq iq} (hq : Nat.testBit 0x0 (Reg.ctorIdx rq) = false) : ((tpdoInhibit s n)).dv rq iq = State.dv s rq iq :=
  dev_of iq (fun _ hk => keep_tpdoInhibit hk) rfl rfl rfl hq
@[simp] theorem se_tpdoInhibit {xq : State} {s} {n}   : SameEvents xq ((tpdoInhibit s n)) ↔ SameEvents xq s := se_of (fun _ hk => keep_tpdoInhibit hk) rfl
@[simp] theorem ts_tpdoInhibit {s} {n}   : ((tpdoInhibit s n)).ts = State.ts s := ts_of (fun _ hk => keep_tpdoInhibit hk) rfl
@[simp] theorem dv_applyMapping {l d s}  {rq iq} (hq : Nat.testBit 0x1802000000000000000000000000000000000000100000000000000000000000000000000000000000001e000601f5000000000000000000000000070000 (Reg.ctorIdx rq) = false) : ((applyMapping l d s)).dv rq iq = State.dv s rq iq :=
  dev_of iq (fun _ hk => keep_applyMapping hk) rfl rfl rfl hq
@[simp] theorem ts_applyMapping {l d s}  : ((applyMapping l d s)).ts = State.ts s := ts_of (fun _ hk => keep_applyMapping hk) rfl
@[simp] theorem dv_takeRpdo {s} {n} {data}   {rq iq} (hq : Nat.testBit 0x1802000000000000000000000000000000000000100000000000000000000000000000000000000000001e000601f5000000000000000000000000070000 (Reg.ctorIdx rq) = false) : ((takeRpdo s n data)).dv rq iq = State.dv s rq iq :=
  dev_of iq (fun _ hk => keep_takeRpdo hk) rfl rfl rfl hq
@[simp] theorem ts_takeRpdo {s} {n} {data}   : ((takeRpdo s n data)).ts = State.ts s := ts_of (fun _ hk => keep_takeRpdo hk) rfl
@[simp] theorem dv_rpdoReceived {s} {b} {id} {data}   {rq iq} (hq : Nat.testBit 0x1802000000000000000000000000000000000000100000000000000000000000000000000000000000001e000601f5000000000000000000000000070000 (Reg.ctorIdx rq) = false) : ((rpdoReceived s b id data)).dv rq iq = State.dv s rq iq :=
  dev_of iq (fun _ hk => keep_rpdoReceived hk) rfl rfl rfl hq
@[simp] theorem ts_rpdoReceived {s} {b} {id} {data}   : ((rpdoReceived s b id data)).ts = State.ts s := ts_of (fun _ hk => keep_rpdoReceived hk) rfl
@[simp] theorem dv_syncRpdo {s} {n}   {rq iq} (hq : Nat.testBit 0x1802000000000000000000000000000000000000100000000000000000000000000000000000000000001e000601f5000000000000000000000000070000 (Reg.ctorIdx rq) = false) : ((syncRpdo s n)).dv rq iq = State.dv s rq iq :=
  dev_of iq (fun _ hk => keep_syncRpdo hk) rfl rfl rfl hq
@[simp] theorem ts_syncRpdo {s} {n}   : ((syncRpdo s n)).ts = State.ts s := ts_of (fun _ hk => keep_syncRpdo hk) rfl
@[simp] theorem get_syncTpdo {s} {n}   {rq iq} (hq : Nat.testBit 0xfc00000000000000000000000000000000000000000000000000000000000000000000000000000000000000000000000000000000000000000000000000000000000000000000000000000000000000000000000000000000000000000000000000000000000000000000000000000000000000000000000000000000000000000000 (Reg.ctorIdx rq) = false) : ((syncTpdo s n)).get rq iq = State.get s rq iq :=
  reg_of iq (fun _ hk => keep_syncTpdo hk) rfl rfl rfl hq
@[simp] theorem dv_syncTpdo {s} {n}   {rq iq} (hq : Nat.testBit 0x0 (Reg.ctorIdx rq) = false) : ((syncTpdo s n)).dv rq iq = State.dv s rq iq :=
  dev_of iq (fun _ hk => keep_syncTpdo hk) rfl rfl rfl hq
@[simp] theorem se_syncTpdo {xq : State} {s} {n}   : SameEvents xq ((syncTpdo s n)) ↔ SameEvents xq s := se_of (fun _ hk => keep_syncTpdo hk) rfl
@[simp] theorem ts_syncTpdo {s} {n}   : ((syncTpdo s n)).ts = State.ts s := ts_of (fun _ hk => keep_syncTpdo hk) rfl
@[simp] theorem dv_syncReceived {s} {b} {data}   {rq iq} (hq : Nat.testBit 0x1802000000000000000000000000000000000000100000000000000000000000000000000000000000001e000601f5000000000000000000000000070000 (Reg.ctorIdx rq) = false) : ((syncReceived s b data)).dv rq iq = State.dv s rq iq :=
  dev_of iq (fun _ hk => keep_syncReceived hk) rfl rfl rfl hq
@[simp] theorem ts_syncReceived {s} {b} {data}   : ((syncReceived s b data)).ts = State.ts s := ts_of (fun _ hk => keep_syncReceived hk) rfl
@[simp] theorem get_timeReceived {s} {b} {data}   {rq iq} (hq : Nat.testBit 0x70000000000000000000000000000000000000000000000000000001b000000000000000000000000000000000000000000000000000000000000000000000000000000000000000000000000000000000000000000000000000000000000000000000000000000000000000000000000000000000000000000000000000000000000000 (Reg.ctorIdx rq) = false) : ((timeReceived s b data)).get rq iq = State.get s rq iq :=
  reg_of iq (fun _ hk => keep_timeReceived hk) rfl rfl rfl hq
@[simp] theorem dv_timeReceived {s} {b} {data}   {rq iq} (hq : Nat.testBit 0x0 (Reg.ctorIdx rq) = false) : ((timeReceived s b data)).dv rq iq = State.dv s rq iq :=
  dev_of iq (fun _ hk => keep_timeReceived hk) rfl rfl rfl hq
@[simp] theorem se_timeReceived {xq : State} {s} {b} {data}   : SameEvents xq ((timeReceived s b data)) ↔ SameEvents xq s := se_of (fun _ hk => keep_timeReceived hk) rfl
@[simp] theorem ts_timeReceived {s} {b} {data}   : ((timeReceived s b data)).ts = State.ts s := ts_of (fun _ hk => keep_timeReceived hk) rfl
@[simp] theorem get_patchErase {s h}  {rq iq} (hq : Nat.testBit 0x100000000000000000000000000000000000000000000000000000000000000000000000000000000000000000000000000000000000000000000000000000000000000000000000000000000000000000000000000000000000000000000000000000000000000000000000000000000000000000000000000000000000000000000000000000 (Reg.ctorIdx rq) = false) : ((patchErase s h)).get rq iq = State.get s rq iq :=
  reg_of iq (fun _ hk => keep_patchErase hk) rfl rfl rfl hq
@[simp] theorem dv_patchErase {s h}  {rq iq} (hq : Nat.testBit 0x0 (Reg.ctorIdx rq) = false) : ((patchErase s h)).dv rq iq = State.dv s rq iq :=
  dev_of iq (fun _ hk => keep_patchErase hk) rfl rfl rfl hq
@[simp] theorem se_patchErase {xq : State} {s h}  : SameEvents xq ((patchErase s h)) ↔ SameEvents xq s := se_of (fun _ hk => keep_patchErase hk) rfl
@[simp] theorem ts_patchErase {s h}  : ((patchErase s h)).ts = State.ts s := ts_of (fun _ hk => keep_patchErase hk) rfl
@[simp] theorem get_patchStatus {s}   {rq iq} (hq : Nat.testBit 0x1400000000000000000000000000000000000000000000000000000000000000000000000000000000000000000000000000000000000000000000000000000000 (Reg.ctorIdx rq) = false) : ((patchStatus s)).get rq iq = State.get s rq iq :=
  reg_of iq (fun _ hk => keep_patchStatus hk) rfl rfl rfl hq
@[simp] theorem dv_patchStatus {s}   {rq iq} (hq : Nat.testBit 0x0 (Reg.ctorIdx rq) = false) : ((patchStatus s)).dv rq iq = State.dv s rq iq :=
  dev_of iq (fun _ hk => keep_patchStatus hk) rfl rfl rfl hq
@[simp] theorem se_patchStatus {xq : State} {s}   : SameEvents xq ((patchStatus s)) ↔ SameEvents xq s := se_of (fun _ hk => keep_patchStatus hk) rfl
@[simp] theorem ts_patchStatus {s}   : ((patchStatus s)).ts = State.ts s := ts_of (fun _ hk => keep_patchStatus hk) rfl
@[simp] theorem get_watchdogCount {s}   {rq iq} (hq : Nat.testBit 0x200000000000000000000000000000000000000000000000000000000700000000000800000000000000000000000000000000000000000000000000000000000000000000061400000000000480000000000000000000000000000000000000000000000000000000000000000000000000000000000000000000000000000000000000000000 (Reg.ctorIdx rq) = false) : ((watchdogCount s)).get rq iq = State.get s rq iq :=
  reg_of iq (fun _ hk => keep_watchdogCount hk) rfl rfl rfl hq
@[simp] theorem dv_watchdogCount {s}   {rq iq} (hq : Nat.testBit 0x0 (Reg.ctorIdx rq) = false) : ((watchdogCount s)).dv rq iq = State.dv s rq iq :=
  dev_of iq (fun _ hk => keep_watchdogCount hk) rfl rfl rfl hq
@[simp] theorem se_watchdogCount {xq : State} {s}   : SameEvents xq ((watchdogCount s)) ↔ SameEvents xq s := se_of (fun _ hk => keep_watchdogCount hk) rfl
@[simp] theorem ts_watchdogCount {s}   : ((watchdogCount s)).ts = State.ts s := ts_of (fun _ hk => keep_watchdogCount hk) rfl
@[simp] theorem get_seqRestart {s cause}  {rq iq} (hq : Nat.testBit 0x200020000000000000000000000000000000000000000000000000000700000000000b18000000000000000000000000000000000000000000000000000000000000000040071407000000000480000000000000000000000000000000000000000000000000000000000000000000000000000000000000000000000000000000300022b00000 (Reg.ctorIdx rq) = false) : ((seqRestart s cause)).get rq iq = State.get s rq iq :=
  reg_of iq (fun _ hk => keep_seqRestart hk) rfl rfl rfl hq
@[simp] theorem dv_seqRestart {s cause}  {rq iq} (hq : Nat.testBit 0x0 (Reg.ctorIdx rq) = false) : ((seqRestart s cause)).dv rq iq = State.dv s rq iq :=
  dev_of iq (fun _ hk => keep_seqRestart hk) rfl rfl rfl hq
@[simp] theorem ts_seqRestart {s cause}  : ((seqRestart s cause)).ts = State.ts s := ts_of (fun _ hk => keep_seqRestart hk) rfl
@[simp] theorem get_epochDeferred {s} {n}   {rq iq} (hq : Nat.testBit 0x2000200000000000000000060000000000000038801d8038000004000700360000a4cb1d7f8f80000000000000000415000000001000684080000000000e0000000020004207140700400001c5b818000000000000000000000c000000000000000000000000000000000000000000c40010000000000000e000000000000001c0300022b03000 (Reg.ctorIdx rq) = false) : ((epochDeferred s n)).get rq iq = State.get s rq iq :=
  reg_of iq (fun _ hk => keep_epochDeferred hk) rfl rfl rfl hq
@[simp] theorem dv_epochDeferred {s} {n}   {rq iq} (hq : Nat.testBit 0x0 (Reg.ctorIdx rq) = false) : ((epochDeferred s n)).dv rq iq = State.dv s rq iq :=
  dev_of iq (fun _ hk => keep_epochDeferred hk) rfl rfl rfl hq
@[simp] theorem ts_epochDeferred {s} {n}   : ((epochDeferred s n)).ts = State.ts s := ts_of (fun _ hk => keep_epochDeferred hk) rfl
@[simp] theorem get_seqWatchdog {s}   {rq iq} (hq : Nat.testBit 0x200020000000000000000000000000000000000000000000000000000700000000000b18000000000000000000000000000000000000000000000000000000000000000040071407000000000480000000000000000000000000000000000000000000000000000000000000000000000000000000000000000000000000000000300022b00000 (Reg.ctorIdx rq) = false) : ((seqWatchdog s)).get rq iq = State.get s rq iq :=
  reg_of iq (fun _ hk => keep_seqWatchdog hk) rfl rfl rfl hq
@[simp] theorem dv_seqWatchdog {s}   {rq iq} (hq : Nat.testBit 0x0 (Reg.ctorIdx rq) = false) : ((seqWatchdog s)).dv rq iq = State.dv s rq iq :=
  dev_of iq (fun _ hk => keep_seqWatchdog hk) rfl rfl rfl hq
@[simp] theorem ts_seqWatchdog {s}   : ((seqWatchdog s)).ts = State.ts s := ts_of (fun _ hk => keep_seqWatchdog hk) rfl
@[simp] theorem get_served {s}   {rq iq} (hq : Nat.testBit 0x400000000000000000000000000000000000000000000000000000000000000000000000000000000000000000000000000000000000000000000000000000000000000000000000000000000000000000000000000000000000000000000000000000000 (Reg.ctorIdx rq) = false) : ((served s)).get rq iq = State.get s rq iq :=
  reg_of iq (fun _ hk => keep_served hk) rfl rfl rfl hq
@[simp] theorem dv_served {s}   {rq iq} (hq : Nat.testBit 0x0 (Reg.ctorIdx rq) = false) : ((served s)).dv rq iq = State.dv s rq iq :=
  dev_of iq (fun _ hk => keep_served hk) rfl rfl rfl hq
@[simp] theorem se_served {xq : State} {s}   : SameEvents xq ((served s)) ↔ SameEvents xq s := se_of (fun _ hk => keep_served hk) rfl
@[simp] theorem ts_served {s}   : ((served s)).ts = State.ts s := ts_of (fun _ hk => keep_served hk) rfl
@[simp] theorem dv_restoreImage {s}   {rq iq} (hq : Nat.testBit 0x1802000000000000000000000000000000000000100000000000000000000000000000000000000000001e000601f5000000000000000000000000070000 (Reg.ctorIdx rq) = false) : ((restoreImage s)).dv rq iq = State.dv s rq iq :=
  dev_of iq (fun _ hk => keep_restoreImage hk) rfl rfl rfl hq
@[simp] theorem ts_restoreImage {s}   : ((restoreImage s)).ts = State.ts s := ts_of (fun _ hk => keep_restoreImage hk) rfl
@[simp] theorem dv_seqDone {s} {imageOk}   {rq iq} (hq : Nat.testBit 0x1802000000000000000000000000000000000000100000000000000000000000000000000000000000001e000601f5000000000000000000000000070000 (Reg.ctorIdx rq) = false) : ((seqDone s imageOk)).dv rq iq = State.dv s rq iq :=
  dev_of iq (fun _ hk => keep_seqDone hk) rfl rfl rfl hq
@[simp] theorem ts_seqDone {s} {imageOk}   : ((seqDone s imageOk)).ts = State.ts s := ts_of (fun _ hk => keep_seqDone hk) rfl
@[simp] theorem get_bootLock {s} {tbsync}   {rq iq} (hq : Nat.testBit 0x800000000000000000000000060000000000000001000000000000400300800000000000000000000000000000000000000000000100280000000000000000000000000000000000000000000000000000000000000000002080000000000000000000000000000000000000000000000000004380000000 (Reg.ctorIdx rq) = false) : ((bootLock s tbsync)).get rq iq = State.get s rq iq :=
  reg_of iq (fun _ hk => keep_bootLock hk) rfl rfl rfl hq
@[simp] theorem dv_bootLock {s} {tbsync}   {rq iq} (hq : Nat.testBit 0x0 (Reg.ctorIdx rq) = false) : ((bootLock s tbsync)).dv rq iq = State.dv s rq iq :=
  dev_of iq (fun _ hk => keep_bootLock hk) rfl rfl rfl hq
@[simp] theorem se_bootLock {xq : State} {s} {tbsync}   : SameEvents xq ((bootLock s tbsync)) ↔ SameEvents xq s := se_of (fun _ hk => keep_bootLock hk) rfl
@[simp] theorem ts_bootLock {s} {tbsync}   : ((bootLock s tbsync)).ts = State.ts s := ts_of (fun _ hk => keep_bootLock hk) rfl
@[simp] theorem get_bootNoReference {s} {crystal} {tbsync}   {rq iq} (hq : Nat.testBit 0x200000000000000000000000000000000000000000000000000000000000000000000000000000000000000000000000000000000000000000000000000200000000 (Reg.ctorIdx rq) = false) : ((bootNoReference s crystal tbsync)).get rq iq = State.get s rq iq :=
  reg_of iq (fun _ hk => keep_bootNoReference hk) rfl rfl rfl hq
@[simp] theorem dv_bootNoReference {s} {crystal} {tbsync}   {rq iq} (hq : Nat.testBit 0x0 (Reg.ctorIdx rq) = false) : ((bootNoReference s crystal tbsync)).dv rq iq = State.dv s rq iq :=
  dev_of iq (fun _ hk => keep_bootNoReference hk) rfl rfl rfl hq
@[simp] theorem se_bootNoReference {xq : State} {s} {crystal} {tbsync}   : SameEvents xq ((bootNoReference s crystal tbsync)) ↔ SameEvents xq s := se_of (fun _ hk => keep_bootNoReference hk) rfl
@[simp] theorem ts_bootNoReference {s} {crystal} {tbsync}   : ((bootNoReference s crystal tbsync)).ts = State.ts s := ts_of (fun _ hk => keep_bootNoReference hk) rfl
@[simp] theorem get_bootRom {s}  {rq iq} (hq : Nat.testBit 0x400000000000000000000000000000000000000000000000000000000000000000000000000000000000000000000000000000000000000000000000000000000000000000080200000000000000000000000000000000000000000000000000000000000000000000000000000000000000000000000000000000000000000000000000000000 (Reg.ctorIdx rq) = false) : ((bootRom s)).get rq iq = State.get s rq iq :=
  reg_of iq (fun _ hk => keep_bootRom hk) rfl rfl rfl hq
@[simp] theorem dv_bootRom {s}  {rq iq} (hq : Nat.testBit 0x0 (Reg.ctorIdx rq) = false) : ((bootRom s)).dv rq iq = State.dv s rq iq :=
  dev_of iq (fun _ hk => keep_bootRom hk) rfl rfl rfl hq
@[simp] theorem ts_bootRom {s}  : ((bootRom s)).ts = State.ts s := ts_of (fun _ hk => keep_bootRom hk) rfl
@[simp] theorem get_bootPatch {s}   {rq iq} (hq : Nat.testBit 0x3800000000000000000000000000000000000000000000000000000007000000000000000000000000000000000000000000000000000000000000000000000000000000400ed400000000000000000000000000000000000000000000000000000000000000000000000000000000000000000000000000000000000000000000300022b00000 (Reg.ctorIdx rq) = false) : ((bootPatch s)).get rq iq = State.get s rq iq :=
  reg_of iq (fun _ hk => keep_bootPatch hk) rfl rfl rfl hq
@[simp] theorem dv_bootPatch {s}   {rq iq} (hq : Nat.testBit 0x0 (Reg.ctorIdx rq) = false) : ((bootPatch s)).dv rq iq = State.dv s rq iq :=
  dev_of iq (fun _ hk => keep_bootPatch hk) rfl rfl rfl hq
@[simp] theorem ts_bootPatch {s}   : ((bootPatch s)).ts = State.ts s := ts_of (fun _ hk => keep_bootPatch hk) rfl
@[simp] theorem get_windowLoaded {s} {i}   {rq iq} (hq : Nat.testBit 0x50000000000000000000000000000000000000000000000000000000000000000000000000000000004000000000000000000000000000000000000000000000000000000000000000000000c002000000000000000040000000000000000000000000000000300022b00000 (Reg.ctorIdx rq) = false) : ((windowLoaded s i)).get rq iq = State.get s rq iq :=
  reg_of iq (fun _ hk => keep_windowLoaded hk) rfl rfl rfl hq
@[simp] theorem ts_windowLoaded {s} {i}   : ((windowLoaded s i)).ts = State.ts s := ts_of (fun _ hk => keep_windowLoaded hk) rfl
@[simp] theorem ts_developAll {s}   : ((developAll s)).ts = State.ts s := ts_of (fun _ hk => keep_developAll hk) rfl
@[simp] theorem ts_safeProfile {s}   : ((safeProfile s)).ts = State.ts s := ts_of (fun _ hk => keep_safeProfile hk) rfl
@[simp] theorem ts_bootProfile {s}   : ((bootProfile s)).ts = State.ts s := ts_of (fun _ hk => keep_bootProfile hk) rfl
@[simp] theorem get_vanaReady {s}   {rq iq} (hq : Nat.testBit 0x400000000000000000000000000000000000000000000000000000000000000000000000000000000000000000000000000000000000000000000000000000000000 (Reg.ctorIdx rq) = false) : ((vanaReady s)).get rq iq = State.get s rq iq :=
  reg_of iq (fun _ hk => keep_vanaReady hk) rfl rfl rfl hq
@[simp] theorem dv_vanaReady {s}   {rq iq} (hq : Nat.testBit 0x0 (Reg.ctorIdx rq) = false) : ((vanaReady s)).dv rq iq = State.dv s rq iq :=
  dev_of iq (fun _ hk => keep_vanaReady hk) rfl rfl rfl hq
@[simp] theorem se_vanaReady {xq : State} {s}   : SameEvents xq ((vanaReady s)) ↔ SameEvents xq s := se_of (fun _ hk => keep_vanaReady hk) rfl
@[simp] theorem ts_vanaReady {s}   : ((vanaReady s)).ts = State.ts s := ts_of (fun _ hk => keep_vanaReady hk) rfl
@[simp] theorem get_bootConverter {s} {c} {r}   {rq iq} (hq : Nat.testBit 0x39fe1d8638000008060700360000000000000e00880000000300800415600000001006284081020000002f05c02c6c600040060000000000004000180000000000011800004a7c000002800010000000000000000000000000000000c40010000000088000e00000483100000b00b00022b80000 (Reg.ctorIdx rq) = false) : ((bootConverter s c r)).get rq iq = State.get s rq iq :=
  reg_of iq (fun _ hk => keep_bootConverter hk) rfl rfl rfl hq
@[simp] theorem dv_bootConverter {s} {c} {r}   {rq iq} (hq : Nat.testBit 0x100000000000000000000000000000000000000000001e00060000000000000000000000000000000000 (Reg.ctorIdx rq) = false) : ((bootConverter s c r)).dv rq iq = State.dv s rq iq :=
  dev_of iq (fun _ hk => keep_bootConverter hk) rfl rfl rfl hq
@[simp] theorem ts_bootConverter {s} {c} {r}   : ((bootConverter s c r)).ts = State.ts s := ts_of (fun _ hk => keep_bootConverter hk) rfl
@[simp] theorem get_bootCalibration {s} {results}   {rq iq} (hq : Nat.testBit 0x3bfe1d8638000008060700360000000000000e00880000000300800415600000001006284081020000002f05c02c6c6000404e0000000000004000180000000000011800004a7c000002800010000000000000000000000000000000c40010000000088000e00000483100000b00b00022b80000 (Reg.ctorIdx rq) = false) : ((bootCalibration s results)).get rq iq = State.get s rq iq :=
  reg_of iq (fun _ hk => keep_bootCalibration hk) rfl rfl rfl hq
@[simp] theorem dv_bootCalibration {s} {results}   {rq iq} (hq : Nat.testBit 0x100000000000000000000000000000000000000000001e00060000000000000000000000000000000000 (Reg.ctorIdx rq) = false) : ((bootCalibration s results)).dv rq iq = State.dv s rq iq :=
  dev_of iq (fun _ hk => keep_bootCalibration hk) rfl rfl rfl hq
@[simp] theorem ts_bootCalibration {s} {results}   : ((bootCalibration s results)).ts = State.ts s := ts_of (fun _ hk => keep_bootCalibration hk) rfl
@[simp] theorem get_bootEngine {s} {i}   {rq iq} (hq : Nat.testBit 0x40000000000000 (Reg.ctorIdx rq) = false) : ((bootEngine s i)).get rq iq = State.get s rq iq :=
  reg_of iq (fun _ hk => keep_bootEngine hk) rfl rfl rfl hq
@[simp] theorem dv_bootEngine {s} {i}   {rq iq} (hq : Nat.testBit 0x0 (Reg.ctorIdx rq) = false) : ((bootEngine s i)).dv rq iq = State.dv s rq iq :=
  dev_of iq (fun _ hk => keep_bootEngine hk) rfl rfl rfl hq
@[simp] theorem se_bootEngine {xq : State} {s} {i}   : SameEvents xq ((bootEngine s i)) ↔ SameEvents xq s := se_of (fun _ hk => keep_bootEngine hk) rfl
@[simp] theorem ts_bootEngine {s} {i}   : ((bootEngine s i)).ts = State.ts s := ts_of (fun _ hk => keep_bootEngine hk) rfl
@[simp] theorem get_bootBist {s} {dead}   {rq iq} (hq : Nat.testBit 0x7003600000000000001800000000000000000000000000000000000000000000000000000002000400e0000000000018020180000000000000000000000000000000000000000000000000000000000000000000000000000000000000000000000000140300022b00000 (Reg.ctorIdx rq) = false) : ((bootBist s dead)).get rq iq = State.get s rq iq :=
  reg_of iq (fun _ hk => keep_bootBist hk) rfl rfl rfl hq
@[simp] theorem dv_bootBist {s} {dead}   {rq iq} (hq : Nat.testBit 0x0 (Reg.ctorIdx rq) = false) : ((bootBist s dead)).dv rq iq = State.dv s rq iq :=
  dev_of iq (fun _ hk => keep_bootBist hk) rfl rfl rfl hq
@[simp] theorem ts_bootBist {s} {dead}   : ((bootBist s dead)).ts = State.ts s := ts_of (fun _ hk => keep_bootBist hk) rfl
@[simp] theorem get_bootBank {s} {b}   {rq iq} (hq : Nat.testBit 0xc060000000000000002000000200206086300b00000000820001000000000000000000000000000400040000000000000000000000000000000000000000000000000000010000000000000000000000000100000040018000000000000000000000000000000b00022b00000 (Reg.ctorIdx rq) = false) : ((bootBank s b)).get rq iq = State.get s rq iq :=
  reg_of iq (fun _ hk => keep_bootBank hk) rfl rfl rfl hq
@[simp] theorem dv_bootBank {s} {b}   {rq iq} (hq : Nat.testBit 0x0 (Reg.ctorIdx rq) = false) : ((bootBank s b)).dv rq iq = State.dv s rq iq :=
  dev_of iq (fun _ hk => keep_bootBank hk) rfl rfl rfl hq
@[simp] theorem ts_bootBank {s} {b}   : ((bootBank s b)).ts = State.ts s := ts_of (fun _ hk => keep_bootBank hk) rfl
@[simp] theorem get_bootBanks {s}   {rq iq} (hq : Nat.testBit 0xc060000000000000002000000200206086300b00000000820001000000000000000000000000000400040000000000000000000000000000000000000000000000000000010000000000000000000000000100000040018000000000000000000000000000000b00022b00000 (Reg.ctorIdx rq) = false) : ((bootBanks s)).get rq iq = State.get s rq iq :=
  reg_of iq (fun _ hk => keep_bootBanks hk) rfl rfl rfl hq
@[simp] theorem dv_bootBanks {s}   {rq iq} (hq : Nat.testBit 0x0 (Reg.ctorIdx rq) = false) : ((bootBanks s)).dv rq iq = State.dv s rq iq :=
  dev_of iq (fun _ hk => keep_bootBanks hk) rfl rfl rfl hq
@[simp] theorem ts_bootBanks {s}   : ((bootBanks s)).ts = State.ts s := ts_of (fun _ hk => keep_bootBanks hk) rfl
@[simp] theorem get_bootDone {s} {elapsed}   {rq iq} (hq : Nat.testBit 0x9000e00c080000000000000000000000000000000000000008000002000011000400000000000000000000000000000000000000000000000000000000000000000041180000000000000000000000000000000000000000000000000000000000000000000000000000000000000000000000000000000000000000000000b00022b00000 (Reg.ctorIdx rq) = false) : ((bootDone s elapsed)).get rq iq = State.get s rq iq :=
  reg_of iq (fun _ hk => keep_bootDone hk) rfl rfl rfl hq
@[simp] theorem dv_bootDone {s} {elapsed}   {rq iq} (hq : Nat.testBit 0x1e0000000000000000000000000000000000000000000000000000000000000000000000000000000000000000000000000000000000000000000000000000000000000000000000000000000000000000000000000000000000000000000000000000000000000 (Reg.ctorIdx rq) = false) : ((bootDone s elapsed)).dv rq iq = State.dv s rq iq :=
  dev_of iq (fun _ hk => keep_bootDone hk) rfl rfl rfl hq
@[simp] theorem ts_bootDone {s} {elapsed}   : ((bootDone s elapsed)).ts = State.ts s := ts_of (fun _ hk => keep_bootDone hk) rfl
@[simp] theorem get_logRefused {s} {idx} {sub} {v}   {rq iq} (hq : Nat.testBit 0x700000000000000000000000000000000000000000000000000000000000000000000000000000000060000000000000000000000000000000000000000000000000000000000000000000000000000000000000000000000000000000000000000000000000000000000 (Reg.ctorIdx rq) = false) : ((logRefused s idx sub v)).get rq iq = State.get s rq iq :=
  reg_of iq (fun _ hk => keep_logRefused hk) rfl rfl rfl hq
@[simp] theorem dv_logRefused {s} {idx} {sub} {v}   {rq iq} (hq : Nat.testBit 0x0 (Reg.ctorIdx rq) = false) : ((logRefused s idx sub v)).dv rq iq = State.dv s rq iq :=
  dev_of iq (fun _ hk => keep_logRefused hk) rfl rfl rfl hq
@[simp] theorem se_logRefused {xq : State} {s} {idx} {sub} {v}   : SameEvents xq ((logRefused s idx sub v)) ↔ SameEvents xq s := se_of (fun _ hk => keep_logRefused hk) rfl
@[simp] theorem ts_logRefused {s} {idx} {sub} {v}   : ((logRefused s idx sub v)).ts = State.ts s := ts_of (fun _ hk => keep_logRefused hk) rfl
@[simp] theorem get_domOffWrite {s} {path} {v}   {rq iq} (hq : Nat.testBit 0x10000000000000000000000000070000000000000000000000000000000000000000000000000000000000000000000000000000001c060000000000000000000000000000000000000000000000000000000000000000000000000000000000000000000000000000000000000000000000000000000000 (Reg.ctorIdx rq) = false) : ((domOffWrite s path v).1).get rq iq = State.get s rq iq :=
  reg_of iq (fun _ hk => keep_domOffWrite hk) rfl rfl rfl hq
@[simp] theorem dv_domOffWrite {s} {path} {v}   {rq iq} (hq : Nat.testBit 0x0 (Reg.ctorIdx rq) = false) : ((domOffWrite s path v).1).dv rq iq = State.dv s rq iq :=
  dev_of iq (fun _ hk => keep_domOffWrite hk) rfl rfl rfl hq
@[simp] theorem se_domOffWrite {xq : State} {s} {path} {v}   : SameEvents xq ((domOffWrite s path v).1) ↔ SameEvents xq s := se_of (fun _ hk => keep_domOffWrite hk) rfl
@[simp] theorem ts_domOffWrite {s} {path} {v}   : ((domOffWrite s path v).1).ts = State.ts s := ts_of (fun _ hk => keep_domOffWrite hk) rfl
@[simp] theorem get_domainCommand {s} {path} {d}   {rq iq} (hq : Nat.testBit 0x80000020000000000700360000a4c000000e00000000000000000000000000000000000000000000000000000000200042060000000000004100080000000000000000000004000000000000000000000000000000000000000000000000000000000000000000000000000100300022b03000 (Reg.ctorIdx rq) = false) : ((domainCommand s path d).1).get rq iq = State.get s rq iq :=
  reg_of iq (fun _ hk => keep_domainCommand hk) rfl rfl rfl hq
@[simp] theorem dv_domainCommand {s} {path} {d}   {rq iq} (hq : Nat.testBit 0x0 (Reg.ctorIdx rq) = false) : ((domainCommand s path d).1).dv rq iq = State.dv s rq iq :=
  dev_of iq (fun _ hk => keep_domainCommand hk) rfl rfl rfl hq
@[simp] theorem ts_domainCommand {s} {path} {d}   : ((domainCommand s path d).1).ts = State.ts s := ts_of (fun _ hk => keep_domainCommand hk) rfl
@[simp] theorem get_seqJudge {s} {path} {v}   {rq iq} (hq : Nat.testBit 0x700000000000000000000000000000000000000000000000000000000000000000000000000000000060000000000000000000000000000000000000000000000000000000000000000000000000000000000000000000000000000000000000000000000000000000000 (Reg.ctorIdx rq) = false) : ((seqJudge s path v).1).get rq iq = State.get s rq iq :=
  reg_of iq (fun _ hk => keep_seqJudge hk) rfl rfl rfl hq
@[simp] theorem dv_seqJudge {s} {path} {v}   {rq iq} (hq : Nat.testBit 0x0 (Reg.ctorIdx rq) = false) : ((seqJudge s path v).1).dv rq iq = State.dv s rq iq :=
  dev_of iq (fun _ hk => keep_seqJudge hk) rfl rfl rfl hq
@[simp] theorem se_seqJudge {xq : State} {s} {path} {v}   : SameEvents xq ((seqJudge s path v).1) ↔ SameEvents xq s := se_of (fun _ hk => keep_seqJudge hk) rfl
@[simp] theorem ts_seqJudge {s} {path} {v}   : ((seqJudge s path v).1).ts = State.ts s := ts_of (fun _ hk => keep_seqJudge hk) rfl
@[simp] theorem get_resetJudge {s} {path} {v}   {rq iq} (hq : Nat.testBit 0x700000000000000000000000000000000000000000000000000000000000000000000000000000000060000000000000000000000000000000000000000000000000000000000000000000000000000000000000000000000000000000000000000000000000000000000 (Reg.ctorIdx rq) = false) : ((resetJudge s path v).1).get rq iq = State.get s rq iq :=
  reg_of iq (fun _ hk => keep_resetJudge hk) rfl rfl rfl hq
@[simp] theorem dv_resetJudge {s} {path} {v}   {rq iq} (hq : Nat.testBit 0x0 (Reg.ctorIdx rq) = false) : ((resetJudge s path v).1).dv rq iq = State.dv s rq iq :=
  dev_of iq (fun _ hk => keep_resetJudge hk) rfl rfl rfl hq
@[simp] theorem se_resetJudge {xq : State} {s} {path} {v}   : SameEvents xq ((resetJudge s path v).1) ↔ SameEvents xq s := se_of (fun _ hk => keep_resetJudge hk) rfl
@[simp] theorem ts_resetJudge {s} {path} {v}   : ((resetJudge s path v).1).ts = State.ts s := ts_of (fun _ hk => keep_resetJudge hk) rfl
@[simp] theorem get_sealedRan {s} {idx} {sub} {bytes}   {rq iq} (hq : Nat.testBit 0x700000000000000000000000000000000000000000000000000000000000000000000000000000000060000000000000000000000000000000000000000000000000000000000000000000000000000000000000000000000000000000000000000000000000000000000 (Reg.ctorIdx rq) = false) : ((sealedRan s idx sub bytes)).get rq iq = State.get s rq iq :=
  reg_of iq (fun _ hk => keep_sealedRan hk) rfl rfl rfl hq
@[simp] theorem dv_sealedRan {s} {idx} {sub} {bytes}   {rq iq} (hq : Nat.testBit 0x0 (Reg.ctorIdx rq) = false) : ((sealedRan s idx sub bytes)).dv rq iq = State.dv s rq iq :=
  dev_of iq (fun _ hk => keep_sealedRan hk) rfl rfl rfl hq
@[simp] theorem se_sealedRan {xq : State} {s} {idx} {sub} {bytes}   : SameEvents xq ((sealedRan s idx sub bytes)) ↔ SameEvents xq s := se_of (fun _ hk => keep_sealedRan hk) rfl
@[simp] theorem ts_sealedRan {s} {idx} {sub} {bytes}   : ((sealedRan s idx sub bytes)).ts = State.ts s := ts_of (fun _ hk => keep_sealedRan hk) rfl
@[simp] theorem get_vwCalWrite {s} {auth} {i} {bytes}   {rq iq} (hq : Nat.testBit 0x7000000000000000000000000000000000e043f00000000000000000000000000000000000000004006c000000000000000000000000000000000000000000000000000000000000000000000000000000000c40000000000000000000000000000000000300022b00000 (Reg.ctorIdx rq) = false) : ((vwCalWrite s auth i bytes).1).get rq iq = State.get s rq iq :=
  reg_of iq (fun _ hk => keep_vwCalWrite hk) rfl rfl rfl hq
@[simp] theorem dv_vwCalWrite {s} {auth} {i} {bytes}   {rq iq} (hq : Nat.testBit 0x3000000000000000000000000000000000000000000000000000 (Reg.ctorIdx rq) = false) : ((vwCalWrite s auth i bytes).1).dv rq iq = State.dv s rq iq :=
  dev_of iq (fun _ hk => keep_vwCalWrite hk) rfl rfl rfl hq
@[simp] theorem ts_vwCalWrite {s} {auth} {i} {bytes}   : ((vwCalWrite s auth i bytes).1).ts = State.ts s := ts_of (fun _ hk => keep_vwCalWrite hk) rfl
@[simp] theorem get_syscalWrite {s} {auth} {bytes}   {rq iq} (hq : Nat.testBit 0x1800000000000000000070000000000000000000000000000000000000000000000000000000000000000000000000000004006c000000000000000000000000000600000000000000000000000000000000000000000000000000000000000000000000000000000000000000000300022b00000 (Reg.ctorIdx rq) = false) : ((syscalWrite s auth bytes).1).get rq iq = State.get s rq iq :=
  reg_of iq (fun _ hk => keep_syscalWrite hk) rfl rfl rfl hq
@[simp] theorem dv_syscalWrite {s} {auth} {bytes}   {rq iq} (hq : Nat.testBit 0x0 (Reg.ctorIdx rq) = false) : ((syscalWrite s auth bytes).1).dv rq iq = State.dv s rq iq :=
  dev_of iq (fun _ hk => keep_syscalWrite hk) rfl rfl rfl hq
@[simp] theorem ts_syscalWrite {s} {auth} {bytes}   : ((syscalWrite s auth bytes).1).ts = State.ts s := ts_of (fun _ hk => keep_syscalWrite hk) rfl
@[simp] theorem get_askHelper {s} {d}   {rq iq} (hq : Nat.testBit 0xdc0000000000000000000000000000000000000000000000000000000000000000000000000000000000000000000000000000000000000000000000000000000000000000000000000000000000000000000000000000000000000000000000000000007000 (Reg.ctorIdx rq) = false) : ((askHelper s d)).get rq iq = State.get s rq iq :=
  reg_of iq (fun _ hk => keep_askHelper hk) rfl rfl rfl hq
@[simp] theorem dv_askHelper {s} {d}   {rq iq} (hq : Nat.testBit 0x0 (Reg.ctorIdx rq) = false) : ((askHelper s d)).dv rq iq = State.dv s rq iq :=
  dev_of iq (fun _ hk => keep_askHelper hk) rfl rfl rfl hq
@[simp] theorem se_askHelper {xq : State} {s} {d}   : SameEvents xq ((askHelper s d)) ↔ SameEvents xq s := se_of (fun _ hk => keep_askHelper hk) rfl
@[simp] theorem ts_askHelper {s} {d}   : ((askHelper s d)).ts = State.ts s := ts_of (fun _ hk => keep_askHelper hk) rfl
@[simp] theorem dv_objWriteAny {s} {auth} {path} {idx} {sub} {bytes}   {rq iq} (hq : Nat.testBit 0x1802000000000000000000000000000000000000100000000000000000000000000000003000000000001e000601f5000000000000000000000000070000 (Reg.ctorIdx rq) = false) : ((objWriteAny s auth path idx sub bytes).1).dv rq iq = State.dv s rq iq :=
  dev_of iq (fun _ hk => keep_objWriteAny hk) rfl rfl rfl hq
@[simp] theorem ts_objWriteAny {s} {auth} {path} {idx} {sub} {bytes}   : ((objWriteAny s auth path idx sub bytes).1).ts = State.ts s := ts_of (fun _ hk => keep_objWriteAny hk) rfl
@[simp] theorem get_objReadAny {s} {idx} {sub}   {rq iq} (hq : Nat.testBit 0x400000000004b8000000000000000000000000000000000000000000000000dc00000000000000000000000000000000000000000000000000000000000000000000c0000000180000000000000000000000000000000000000000000000000000000000000000000000000000000000000000000000000000000000000000700022b87000 (Reg.ctorIdx rq) = false) : ((objReadAny s idx sub).1).get rq iq = State.get s rq iq :=
  reg_of iq (fun _ hk => keep_objReadAny hk) rfl rfl rfl hq
@[simp] theorem dv_objReadAny {s} {idx} {sub}   {rq iq} (hq : Nat.testBit 0x0 (Reg.ctorIdx rq) = false) : ((objReadAny s idx sub).1).dv rq iq = State.dv s rq iq :=
  dev_of iq (fun _ hk => keep_objReadAny hk) rfl rfl rfl hq
@[simp] theorem ts_objReadAny {s} {idx} {sub}   : ((objReadAny s idx sub).1).ts = State.ts s := ts_of (fun _ hk => keep_objReadAny hk) rfl
@[simp] theorem get_answer {s} {path} {cmd} {r} {crypt} {status} {payload}   {rq iq} (hq : Nat.testBit 0x10040000000000000000000000000000000000000000000000000000000000000000000000000000000000000000000000000000000000000000000000000000000000040000000180000000000000000000000000000000000000000000000000000000000000000000000000000000000000000000000000000000000000000700022b80000 (Reg.ctorIdx rq) = false) : ((answer s path cmd r crypt status payload)).get rq iq = State.get s rq iq :=
  reg_of iq (fun _ hk => keep_answer hk) rfl rfl rfl hq
@[simp] theorem dv_answer {s} {path} {cmd} {r} {crypt} {status} {payload}   {rq iq} (hq : Nat.testBit 0x0 (Reg.ctorIdx rq) = false) : ((answer s path cmd r crypt status payload)).dv rq iq = State.dv s rq iq :=
  dev_of iq (fun _ hk => keep_answer hk) rfl rfl rfl hq
@[simp] theorem ts_answer {s} {path} {cmd} {r} {crypt} {status} {payload}   : ((answer s path cmd r crypt status payload)).ts = State.ts s := ts_of (fun _ hk => keep_answer hk) rfl
@[simp] theorem get_openRequest {s} {cmd} {r}   {rq iq} (hq : Nat.testBit 0x2900000000000000000000000000000000000000000000000000000070000000000000000000000000000000000000000000000000000000000000000000000000000004007c007000000000000000000000000000000000000000000000000000000000000000000000000000000000000000000000000000000000000000000300022b00000 (Reg.ctorIdx rq) = false) : ((openRequest s cmd r).1).get rq iq = State.get s rq iq :=
  reg_of iq (fun _ hk => keep_openRequest hk) rfl rfl rfl hq
@[simp] theorem dv_openRequest {s} {cmd} {r}   {rq iq} (hq : Nat.testBit 0x0 (Reg.ctorIdx rq) = false) : ((openRequest s cmd r).1).dv rq iq = State.dv s rq iq :=
  dev_of iq (fun _ hk => keep_openRequest hk) rfl rfl rfl hq
@[simp] theorem ts_openRequest {s} {cmd} {r}   : ((openRequest s cmd r).1).ts = State.ts s := ts_of (fun _ hk => keep_openRequest hk) rfl
@[simp] theorem get_roleTooLow {s} {subject}   {rq iq} (hq : Nat.testBit 0x700000000000000000000000000000000000000000000000000000000000000000000000000000000060000000000000000000000000000000000000000000000000000000000000000000000000000000000000000000000000000000000000000000000000000000000 (Reg.ctorIdx rq) = false) : ((roleTooLow s subject)).get rq iq = State.get s rq iq :=
  reg_of iq (fun _ hk => keep_roleTooLow hk) rfl rfl rfl hq
@[simp] theorem dv_roleTooLow {s} {subject}   {rq iq} (hq : Nat.testBit 0x0 (Reg.ctorIdx rq) = false) : ((roleTooLow s subject)).dv rq iq = State.dv s rq iq :=
  dev_of iq (fun _ hk => keep_roleTooLow hk) rfl rfl rfl hq
@[simp] theorem se_roleTooLow {xq : State} {s} {subject}   : SameEvents xq ((roleTooLow s subject)) ↔ SameEvents xq s := se_of (fun _ hk => keep_roleTooLow hk) rfl
@[simp] theorem ts_roleTooLow {s} {subject}   : ((roleTooLow s subject)).ts = State.ts s := ts_of (fun _ hk => keep_roleTooLow hk) rfl
@[simp] theorem get_refused {s} {code} {cmd}   {rq iq} (hq : Nat.testBit 0x70000000000000000000000000000000000000000000000000000000000000000000000000000004006c000000000000000000000000000000000000000000000000000000000000000000000000000000000000000000000000000000000000000000000300022b00000 (Reg.ctorIdx rq) = false) : ((refused s code cmd).1).get rq iq = State.get s rq iq :=
  reg_of iq (fun _ hk => keep_refused hk) rfl rfl rfl hq
@[simp] theorem dv_refused {s} {code} {cmd}   {rq iq} (hq : Nat.testBit 0x0 (Reg.ctorIdx rq) = false) : ((refused s code cmd).1).dv rq iq = State.dv s rq iq :=
  dev_of iq (fun _ hk => keep_refused hk) rfl rfl rfl hq
@[simp] theorem ts_refused {s} {code} {cmd}   : ((refused s code cmd).1).ts = State.ts s := ts_of (fun _ hk => keep_refused hk) rfl
@[simp] theorem get_badField {s}   {rq iq} (hq : Nat.testBit 0x0 (Reg.ctorIdx rq) = false) : ((badField s).1).get rq iq = State.get s rq iq :=
  reg_of iq (fun _ hk => keep_badField hk) rfl rfl rfl hq
@[simp] theorem dv_badField {s}   {rq iq} (hq : Nat.testBit 0x0 (Reg.ctorIdx rq) = false) : ((badField s).1).dv rq iq = State.dv s rq iq :=
  dev_of iq (fun _ hk => keep_badField hk) rfl rfl rfl hq
@[simp] theorem se_badField {xq : State} {s}   : SameEvents xq ((badField s).1) ↔ SameEvents xq s := se_of (fun _ hk => keep_badField hk) rfl
@[simp] theorem ts_badField {s}   : ((badField s).1).ts = State.ts s := ts_of (fun _ hk => keep_badField hk) rfl
@[simp] theorem get_draw {s} {n}   {rq iq} (hq : Nat.testBit 0x40000000000000000000000000000000000000000000000000000000000000000000000000000000000000000000000000000000000000000000000000000000000000000000000000000000000000000000000000000000000000000000000000000000000000000000000000000000000000000000000000000000000000000000000000000 (Reg.ctorIdx rq) = false) : ((draw s n).1).get rq iq = State.get s rq iq :=
  reg_of iq (fun _ hk => keep_draw hk) rfl rfl rfl hq
@[simp] theorem dv_draw {s} {n}   {rq iq} (hq : Nat.testBit 0x0 (Reg.ctorIdx rq) = false) : ((draw s n).1).dv rq iq = State.dv s rq iq :=
  dev_of iq (fun _ hk => keep_draw hk) rfl rfl rfl hq
@[simp] theorem se_draw {xq : State} {s} {n}   : SameEvents xq ((draw s n).1) ↔ SameEvents xq s := se_of (fun _ hk => keep_draw hk) rfl
@[simp] theorem ts_draw {s} {n}   : ((draw s n).1).ts = State.ts s := ts_of (fun _ hk => keep_draw hk) rfl
@[simp] theorem get_signed {s} {text}   {rq iq} (hq : Nat.testBit 0x40000000000000000000000000000000000000000000000000000000000000000000000000000000000000000000000000000000000000000000000000000000000000000000000000000000000000000000000000000000000000000000000000000000000000000000000000000000000000000000000000000000000000000000000000000 (Reg.ctorIdx rq) = false) : ((signed s text).1).get rq iq = State.get s rq iq :=
  reg_of iq (fun _ hk => keep_signed hk) rfl rfl rfl hq
@[simp] theorem dv_signed {s} {text}   {rq iq} (hq : Nat.testBit 0x0 (Reg.ctorIdx rq) = false) : ((signed s text).1).dv rq iq = State.dv s rq iq :=
  dev_of iq (fun _ hk => keep_signed hk) rfl rfl rfl hq
@[simp] theorem se_signed {xq : State} {s} {text}   : SameEvents xq ((signed s text).1) ↔ SameEvents xq s := se_of (fun _ hk => keep_signed hk) rfl
@[simp] theorem ts_signed {s} {text}   : ((signed s text).1).ts = State.ts s := ts_of (fun _ hk => keep_signed hk) rfl
@[simp] theorem get_hello {s path t}  {rq iq} (hq : Nat.testBit 0x4000000000000000000000000000000000000000000000000000000070000000000000000000000000000000000000000000000000000000000000000000000000000004006c000000000000000000000000000000000000000000000000000000000000000000000000000000000000000000000000000000000000000000000300022b00000 (Reg.ctorIdx rq) = false) : ((hello s path t).1).get rq iq = State.get s rq iq :=
  reg_of iq (fun _ hk => keep_hello hk) rfl rfl rfl hq
@[simp] theorem dv_hello {s path t}  {rq iq} (hq : Nat.testBit 0x0 (Reg.ctorIdx rq) = false) : ((hello s path t).1).dv rq iq = State.dv s rq iq :=
  dev_of iq (fun _ hk => keep_hello hk) rfl rfl rfl hq
@[simp] theorem ts_hello {s path t}  : ((hello s path t).1).ts = State.ts s := ts_of (fun _ hk => keep_hello hk) rfl
@[simp] theorem get_dropChallenge {s}  {rq iq} (hq : Nat.testBit 0x0 (Reg.ctorIdx rq) = false) : ((dropChallenge s)).get rq iq = State.get s rq iq :=
  reg_of iq (fun _ hk => keep_dropChallenge hk) rfl rfl rfl hq
@[simp] theorem dv_dropChallenge {s}  {rq iq} (hq : Nat.testBit 0x0 (Reg.ctorIdx rq) = false) : ((dropChallenge s)).dv rq iq = State.dv s rq iq :=
  dev_of iq (fun _ hk => keep_dropChallenge hk) rfl rfl rfl hq
@[simp] theorem se_dropChallenge {xq : State} {s}  : SameEvents xq ((dropChallenge s)) ↔ SameEvents xq s := se_of (fun _ hk => keep_dropChallenge hk) rfl
@[simp] theorem ts_dropChallenge {s}  : ((dropChallenge s)).ts = State.ts s := ts_of (fun _ hk => keep_dropChallenge hk) rfl
@[simp] theorem get_prove {s path text}  {rq iq} (hq : Nat.testBit 0x3f80000000000000000000000000000000000000000000000000000070000000000000000000000000000000000000000000000000000000000000000000000000000004006c007000000000000000000000000000000000000000000000000000000000000000000000000000000000000000000000000000000000000000000300022b00000 (Reg.ctorIdx rq) = false) : ((prove s path text).1).get rq iq = State.get s rq iq :=
  reg_of iq (fun _ hk => keep_prove hk) rfl rfl rfl hq
@[simp] theorem dv_prove {s path text}  {rq iq} (hq : Nat.testBit 0x0 (Reg.ctorIdx rq) = false) : ((prove s path text).1).dv rq iq = State.dv s rq iq :=
  dev_of iq (fun _ hk => keep_prove hk) rfl rfl rfl hq
@[simp] theorem ts_prove {s path text}  : ((prove s path text).1).ts = State.ts s := ts_of (fun _ hk => keep_prove hk) rfl
@[simp] theorem get_idleExpiry {s}   {rq iq} (hq : Nat.testBit 0x700000000000000000000000000000000000000000000000000000000000000000000000000000040070007000000000000000000000000000000000000000000000000000000000000000000000000000000000000000000000000000000000000000000300022b00000 (Reg.ctorIdx rq) = false) : ((idleExpiry s)).get rq iq = State.get s rq iq :=
  reg_of iq (fun _ hk => keep_idleExpiry hk) rfl rfl rfl hq
@[simp] theorem dv_idleExpiry {s}   {rq iq} (hq : Nat.testBit 0x0 (Reg.ctorIdx rq) = false) : ((idleExpiry s)).dv rq iq = State.dv s rq iq :=
  dev_of iq (fun _ hk => keep_idleExpiry hk) rfl rfl rfl hq
@[simp] theorem ts_idleExpiry {s}   : ((idleExpiry s)).ts = State.ts s := ts_of (fun _ hk => keep_idleExpiry hk) rfl
@[simp] theorem get_proveTimeout {s}   {rq iq} (hq : Nat.testBit 0x0 (Reg.ctorIdx rq) = false) : ((proveTimeout s)).get rq iq = State.get s rq iq :=
  reg_of iq (fun _ hk => keep_proveTimeout hk) rfl rfl rfl hq
@[simp] theorem dv_proveTimeout {s}   {rq iq} (hq : Nat.testBit 0x0 (Reg.ctorIdx rq) = false) : ((proveTimeout s)).dv rq iq = State.dv s rq iq :=
  dev_of iq (fun _ hk => keep_proveTimeout hk) rfl rfl rfl hq
@[simp] theorem se_proveTimeout {xq : State} {s}   : SameEvents xq ((proveTimeout s)) ↔ SameEvents xq s := se_of (fun _ hk => keep_proveTimeout hk) rfl
@[simp] theorem ts_proveTimeout {s}   : ((proveTimeout s)).ts = State.ts s := ts_of (fun _ hk => keep_proveTimeout hk) rfl
@[simp] theorem get_serviceHours {s}   {rq iq} (hq : Nat.testBit 0x400000000000000000000000000000000000000000000000000000000700000000000000000000000000000000000000000000000000000000000000000000000000000040070207000000000000000000000000000000000000000000000000000000000000000000000000000000000000000000000000000000000000000000300022b00000 (Reg.ctorIdx rq) = false) : ((serviceHours s)).get rq iq = State.get s rq iq :=
  reg_of iq (fun _ hk => keep_serviceHours hk) rfl rfl rfl hq
@[simp] theorem dv_serviceHours {s}   {rq iq} (hq : Nat.testBit 0x0 (Reg.ctorIdx rq) = false) : ((serviceHours s)).dv rq iq = State.dv s rq iq :=
  dev_of iq (fun _ hk => keep_serviceHours hk) rfl rfl rfl hq
@[simp] theorem ts_serviceHours {s}   : ((serviceHours s)).ts = State.ts s := ts_of (fun _ hk => keep_serviceHours hk) rfl
@[simp] theorem get_claimTake {s m}  {rq iq} (hq : Nat.testBit 0x300000000000000000000000000000000000000000000000000000700000000000000000000000000000000000000000000000000000000000000000000000000000040072107800000000000000000000000000000000000000000000000000000000000000000000000000000000000000000000000000000000000000000300022b00000 (Reg.ctorIdx rq) = false) : ((claimTake s m)).get rq iq = State.get s rq iq :=
  reg_of iq (fun _ hk => keep_claimTake hk) rfl rfl rfl hq
@[simp] theorem dv_claimTake {s m}  {rq iq} (hq : Nat.testBit 0x0 (Reg.ctorIdx rq) = false) : ((claimTake s m)).dv rq iq = State.dv s rq iq :=
  dev_of iq (fun _ hk => keep_claimTake hk) rfl rfl rfl hq
@[simp] theorem ts_claimTake {s m}  : ((claimTake s m)).ts = State.ts s := ts_of (fun _ hk => keep_claimTake hk) rfl
@[simp] theorem get_claim {s} {path} {m}   {rq iq} (hq : Nat.testBit 0x30000000000000000000000000000000000000000000000000000070000000000000000000000000000000000000000000000000000000000000000000000000000004007e107800000000000000000000000000000000000000000000000000000000000000000000000000000000000000000000000000000000000000000300022b00000 (Reg.ctorIdx rq) = false) : ((claim s path m).1).get rq iq = State.get s rq iq :=
  reg_of iq (fun _ hk => keep_claim hk) rfl rfl rfl hq
@[simp] theorem dv_claim {s} {path} {m}   {rq iq} (hq : Nat.testBit 0x0 (Reg.ctorIdx rq) = false) : ((claim s path m).1).dv rq iq = State.dv s rq iq :=
  dev_of iq (fun _ hk => keep_claim hk) rfl rfl rfl hq
@[simp] theorem ts_claim {s} {path} {m}   : ((claim s path m).1).ts = State.ts s := ts_of (fun _ hk => keep_claim hk) rfl
@[simp] theorem get_revoke {s m}  {rq iq} (hq : Nat.testBit 0x30000000000000000000000000000000000000000000000000000070000000000000000000000000000000000000000000000000000000000000000000000000000004007c007000000000000000000000000000000000000000000000000000000000000000000000000000000000000000000000000000000000000000000300022b00000 (Reg.ctorIdx rq) = false) : ((revoke s m).1).get rq iq = State.get s rq iq :=
  reg_of iq (fun _ hk => keep_revoke hk) rfl rfl rfl hq
@[simp] theorem dv_revoke {s m}  {rq iq} (hq : Nat.testBit 0x0 (Reg.ctorIdx rq) = false) : ((revoke s m).1).dv rq iq = State.dv s rq iq :=
  dev_of iq (fun _ hk => keep_revoke hk) rfl rfl rfl hq
@[simp] theorem ts_revoke {s m}  : ((revoke s m).1).ts = State.ts s := ts_of (fun _ hk => keep_revoke hk) rfl
@[simp] theorem get_identity {s} {text}   {rq iq} (hq : Nat.testBit 0x0 (Reg.ctorIdx rq) = false) : ((identity s text).1).get rq iq = State.get s rq iq :=
  reg_of iq (fun _ hk => keep_identity hk) rfl rfl rfl hq
@[simp] theorem dv_identity {s} {text}   {rq iq} (hq : Nat.testBit 0x0 (Reg.ctorIdx rq) = false) : ((identity s text).1).dv rq iq = State.dv s rq iq :=
  dev_of iq (fun _ hk => keep_identity hk) rfl rfl rfl hq
@[simp] theorem se_identity {xq : State} {s} {text}   : SameEvents xq ((identity s text).1) ↔ SameEvents xq s := se_of (fun _ hk => keep_identity hk) rfl
@[simp] theorem ts_identity {s} {text}   : ((identity s text).1).ts = State.ts s := ts_of (fun _ hk => keep_identity hk) rfl
@[simp] theorem get_setUpload {s u}  {rq iq} (hq : Nat.testBit 0x0 (Reg.ctorIdx rq) = false) : ((setUpload s u)).get rq iq = State.get s rq iq :=
  reg_of iq (fun _ hk => keep_setUpload hk) rfl rfl rfl hq
@[simp] theorem dv_setUpload {s u}  {rq iq} (hq : Nat.testBit 0x0 (Reg.ctorIdx rq) = false) : ((setUpload s u)).dv rq iq = State.dv s rq iq :=
  dev_of iq (fun _ hk => keep_setUpload hk) rfl rfl rfl hq
@[simp] theorem se_setUpload {xq : State} {s u}  : SameEvents xq ((setUpload s u)) ↔ SameEvents xq s := se_of (fun _ hk => keep_setUpload hk) rfl
@[simp] theorem ts_setUpload {s u}  : ((setUpload s u)).ts = State.ts s := ts_of (fun _ hk => keep_setUpload hk) rfl
@[simp] theorem get_uploadData {s} {patch} {cmd} {text}   {rq iq} (hq : Nat.testBit 0x70000000000000000000000000000000000000000000000000000000000000000000000000000004006c000000000000000000000000000000000000000000000000000000000000000000000000000000000000000000000000000000000000000000000300022b00000 (Reg.ctorIdx rq) = false) : ((uploadData s patch cmd text).1).get rq iq = State.get s rq iq :=
  reg_of iq (fun _ hk => keep_uploadData hk) rfl rfl rfl hq
@[simp] theorem dv_uploadData {s} {patch} {cmd} {text}   {rq iq} (hq : Nat.testBit 0x0 (Reg.ctorIdx rq) = false) : ((uploadData s patch cmd text).1).dv rq iq = State.dv s rq iq :=
  dev_of iq (fun _ hk => keep_uploadData hk) rfl rfl rfl hq
@[simp] theorem ts_uploadData {s} {patch} {cmd} {text}   : ((uploadData s patch cmd text).1).ts = State.ts s := ts_of (fun _ hk => keep_uploadData hk) rfl
@[simp] theorem get_profBegin {s} {text}   {rq iq} (hq : Nat.testBit 0x70000000000000000000000000000000000000000000000000000000000000000000000000000004006c000000000000000000000000000000000000000000000000000000000000000000000000000000000000000000000000000000000000000000000300022b00000 (Reg.ctorIdx rq) = false) : ((profBegin s text).1).get rq iq = State.get s rq iq :=
  reg_of iq (fun _ hk => keep_profBegin hk) rfl rfl rfl hq
@[simp] theorem dv_profBegin {s} {text}   {rq iq} (hq : Nat.testBit 0x0 (Reg.ctorIdx rq) = false) : ((profBegin s text).1).dv rq iq = State.dv s rq iq :=
  dev_of iq (fun _ hk => keep_profBegin hk) rfl rfl rfl hq
@[simp] theorem ts_profBegin {s} {text}   : ((profBegin s text).1).ts = State.ts s := ts_of (fun _ hk => keep_profBegin hk) rfl
@[simp] theorem get_profEnd {s} {text}   {rq iq} (hq : Nat.testBit 0x70000000000000000000000000000000000000000000000000000000000000000000000000000004006c100000000000000000000000000000000000000000000000000000000000000000000000000000000000000000000000000000000000000000000300022b00000 (Reg.ctorIdx rq) = false) : ((profEnd s text).1).get rq iq = State.get s rq iq :=
  reg_of iq (fun _ hk => keep_profEnd hk) rfl rfl rfl hq
@[simp] theorem dv_profEnd {s} {text}   {rq iq} (hq : Nat.testBit 0x0 (Reg.ctorIdx rq) = false) : ((profEnd s text).1).dv rq iq = State.dv s rq iq :=
  dev_of iq (fun _ hk => keep_profEnd hk) rfl rfl rfl hq
@[simp] theorem ts_profEnd {s} {text}   : ((profEnd s text).1).ts = State.ts s := ts_of (fun _ hk => keep_profEnd hk) rfl
@[simp] theorem get_patchBegin {s} {text}   {rq iq} (hq : Nat.testBit 0x10000000000000000000000000000000000000000000000000000000070000000000000000000000000000000000000000000000000000000000000000000000000000004006d400000000000000000000000000000000000000000000000000000000000000000000000000000000000000000000000000000000000000000000300022b00000 (Reg.ctorIdx rq) = false) : ((patchBegin s text).1).get rq iq = State.get s rq iq :=
  reg_of iq (fun _ hk => keep_patchBegin hk) rfl rfl rfl hq
@[simp] theorem dv_patchBegin {s} {text}   {rq iq} (hq : Nat.testBit 0x0 (Reg.ctorIdx rq) = false) : ((patchBegin s text).1).dv rq iq = State.dv s rq iq :=
  dev_of iq (fun _ hk => keep_patchBegin hk) rfl rfl rfl hq
@[simp] theorem ts_patchBegin {s} {text}   : ((patchBegin s text).1).ts = State.ts s := ts_of (fun _ hk => keep_patchBegin hk) rfl
@[simp] theorem get_patchEnd {s text}  {rq iq} (hq : Nat.testBit 0x10000000000000000000000000000000000000000000000000000000070000000000000000000000000000000000000000000000000000000000000000000000000000004006d400000000000000000000000000000000000000000000000000000000000000000000000000000000000000000000000000000000000000000000300022b00000 (Reg.ctorIdx rq) = false) : ((patchEnd s text).1).get rq iq = State.get s rq iq :=
  reg_of iq (fun _ hk => keep_patchEnd hk) rfl rfl rfl hq
@[simp] theorem dv_patchEnd {s text}  {rq iq} (hq : Nat.testBit 0x0 (Reg.ctorIdx rq) = false) : ((patchEnd s text).1).dv rq iq = State.dv s rq iq :=
  dev_of iq (fun _ hk => keep_patchEnd hk) rfl rfl rfl hq
@[simp] theorem ts_patchEnd {s text}  : ((patchEnd s text).1).ts = State.ts s := ts_of (fun _ hk => keep_patchEnd hk) rfl
@[simp] theorem get_patchActivate {s} {text}   {rq iq} (hq : Nat.testBit 0x8000000000000000000000000000000000000000000000000000000070000000000000000000000000000000000000000000000000000000000000000000000000000004006c800000000000400000000000000000000000000000000000000000000000000000000000000000000000000000000000000000000000000000000300022b00000 (Reg.ctorIdx rq) = false) : ((patchActivate s text).1).get rq iq = State.get s rq iq :=
  reg_of iq (fun _ hk => keep_patchActivate hk) rfl rfl rfl hq
@[simp] theorem dv_patchActivate {s} {text}   {rq iq} (hq : Nat.testBit 0x0 (Reg.ctorIdx rq) = false) : ((patchActivate s text).1).dv rq iq = State.dv s rq iq :=
  dev_of iq (fun _ hk => keep_patchActivate hk) rfl rfl rfl hq
@[simp] theorem ts_patchActivate {s} {text}   : ((patchActivate s text).1).ts = State.ts s := ts_of (fun _ hk => keep_patchActivate hk) rfl
@[simp] theorem get_auditRead {s} {text}   {rq iq} (hq : Nat.testBit 0x0 (Reg.ctorIdx rq) = false) : ((auditRead s text).1).get rq iq = State.get s rq iq :=
  reg_of iq (fun _ hk => keep_auditRead hk) rfl rfl rfl hq
@[simp] theorem dv_auditRead {s} {text}   {rq iq} (hq : Nat.testBit 0x0 (Reg.ctorIdx rq) = false) : ((auditRead s text).1).dv rq iq = State.dv s rq iq :=
  dev_of iq (fun _ hk => keep_auditRead hk) rfl rfl rfl hq
@[simp] theorem se_auditRead {xq : State} {s} {text}   : SameEvents xq ((auditRead s text).1) ↔ SameEvents xq s := se_of (fun _ hk => keep_auditRead hk) rfl
@[simp] theorem ts_auditRead {s} {text}   : ((auditRead s text).1).ts = State.ts s := ts_of (fun _ hk => keep_auditRead hk) rfl
@[simp] theorem get_auditSeal {s} {text}   {rq iq} (hq : Nat.testBit 0x40000000000000000000000000000000000000000000000000000000000000000000000000000000000000000000000000000000000000000000000000000000000000000000000000000000000000000000000000000000000000000000000000000000000000000000000000000000000000000000000000000000000000000000000000000 (Reg.ctorIdx rq) = false) : ((auditSeal s text).1).get rq iq = State.get s rq iq :=
  reg_of iq (fun _ hk => keep_auditSeal hk) rfl rfl rfl hq
@[simp] theorem dv_auditSeal {s} {text}   {rq iq} (hq : Nat.testBit 0x0 (Reg.ctorIdx rq) = false) : ((auditSeal s text).1).dv rq iq = State.dv s rq iq :=
  dev_of iq (fun _ hk => keep_auditSeal hk) rfl rfl rfl hq
@[simp] theorem se_auditSeal {xq : State} {s} {text}   : SameEvents xq ((auditSeal s text).1) ↔ SameEvents xq s := se_of (fun _ hk => keep_auditSeal hk) rfl
@[simp] theorem ts_auditSeal {s} {text}   : ((auditSeal s text).1).ts = State.ts s := ts_of (fun _ hk => keep_auditSeal hk) rfl
@[simp] theorem get_identify {s} {text}   {rq iq} (hq : Nat.testBit 0x0 (Reg.ctorIdx rq) = false) : ((identify s text).1).get rq iq = State.get s rq iq :=
  reg_of iq (fun _ hk => keep_identify hk) rfl rfl rfl hq
@[simp] theorem dv_identify {s} {text}   {rq iq} (hq : Nat.testBit 0x0 (Reg.ctorIdx rq) = false) : ((identify s text).1).dv rq iq = State.dv s rq iq :=
  dev_of iq (fun _ hk => keep_identify hk) rfl rfl rfl hq
@[simp] theorem se_identify {xq : State} {s} {text}   : SameEvents xq ((identify s text).1) ↔ SameEvents xq s := se_of (fun _ hk => keep_identify hk) rfl
@[simp] theorem ts_identify {s} {text}   : ((identify s text).1).ts = State.ts s := ts_of (fun _ hk => keep_identify hk) rfl
@[simp] theorem get_objFailed {s} {a}   {rq iq} (hq : Nat.testBit 0x0 (Reg.ctorIdx rq) = false) : ((objFailed s a).1).get rq iq = State.get s rq iq :=
  reg_of iq (fun _ hk => keep_objFailed hk) rfl rfl rfl hq
@[simp] theorem dv_objFailed {s} {a}   {rq iq} (hq : Nat.testBit 0x0 (Reg.ctorIdx rq) = false) : ((objFailed s a).1).dv rq iq = State.dv s rq iq :=
  dev_of iq (fun _ hk => keep_objFailed hk) rfl rfl rfl hq
@[simp] theorem se_objFailed {xq : State} {s} {a}   : SameEvents xq ((objFailed s a).1) ↔ SameEvents xq s := se_of (fun _ hk => keep_objFailed hk) rfl
@[simp] theorem ts_objFailed {s} {a}   : ((objFailed s a).1).ts = State.ts s := ts_of (fun _ hk => keep_objFailed hk) rfl
@[simp] theorem get_readObject {s} {text}   {rq iq} (hq : Nat.testBit 0x400000000004b8000000000000000000000000000000000000000000000000dc00000000000000000000000000000000000000000000000000000000000000000000c0000000180000000000000000000000000000000000000000000000000000000000000000000000000000000000000000000000000000000000000000700022b87000 (Reg.ctorIdx rq) = false) : ((readObject s text).1).get rq iq = State.get s rq iq :=
  reg_of iq (fun _ hk => keep_readObject hk) rfl rfl rfl hq
@[simp] theorem dv_readObject {s} {text}   {rq iq} (hq : Nat.testBit 0x0 (Reg.ctorIdx rq) = false) : ((readObject s text).1).dv rq iq = State.dv s rq iq :=
  dev_of iq (fun _ hk => keep_readObject hk) rfl rfl rfl hq
@[simp] theorem ts_readObject {s} {text}   : ((readObject s text).1).ts = State.ts s := ts_of (fun _ hk => keep_readObject hk) rfl
@[simp] theorem get_writeSealed {s} {idx} {sub} {bytes}   {rq iq} (hq : Nat.testBit 0x70000000000000000000000000000000000000000000000000000000000000000000000000000004007c000000000000000000000000000000000000000000000000000000000000000000000000000000000000000000000000000000000000000000000300022b00000 (Reg.ctorIdx rq) = false) : ((writeSealed s idx sub bytes).1).get rq iq = State.get s rq iq :=
  reg_of iq (fun _ hk => keep_writeSealed hk) rfl rfl rfl hq
@[simp] theorem dv_writeSealed {s} {idx} {sub} {bytes}   {rq iq} (hq : Nat.testBit 0x0 (Reg.ctorIdx rq) = false) : ((writeSealed s idx sub bytes).1).dv rq iq = State.dv s rq iq :=
  dev_of iq (fun _ hk => keep_writeSealed hk) rfl rfl rfl hq
@[simp] theorem ts_writeSealed {s} {idx} {sub} {bytes}   : ((writeSealed s idx sub bytes).1).ts = State.ts s := ts_of (fun _ hk => keep_writeSealed hk) rfl
@[simp] theorem dv_writeObject {s} {path} {text}   {rq iq} (hq : Nat.testBit 0x1802000000000000000000000000000000000000100000000000000000000000000000003000000000001e000601f5000000000000000000000000070000 (Reg.ctorIdx rq) = false) : ((writeObject s path text).1).dv rq iq = State.dv s rq iq :=
  dev_of iq (fun _ hk => keep_writeObject hk) rfl rfl rfl hq
@[simp] theorem ts_writeObject {s} {path} {text}   : ((writeObject s path text).1).ts = State.ts s := ts_of (fun _ hk => keep_writeObject hk) rfl
@[simp] theorem get_regFailed {s} {err}   {rq iq} (hq : Nat.testBit 0x0 (Reg.ctorIdx rq) = false) : ((regFailed s err).1).get rq iq = State.get s rq iq :=
  reg_of iq (fun _ hk => keep_regFailed hk) rfl rfl rfl hq
@[simp] theorem dv_regFailed {s} {err}   {rq iq} (hq : Nat.testBit 0x0 (Reg.ctorIdx rq) = false) : ((regFailed s err).1).dv rq iq = State.dv s rq iq :=
  dev_of iq (fun _ hk => keep_regFailed hk) rfl rfl rfl hq
@[simp] theorem se_regFailed {xq : State} {s} {err}   : SameEvents xq ((regFailed s err).1) ↔ SameEvents xq s := se_of (fun _ hk => keep_regFailed hk) rfl
@[simp] theorem ts_regFailed {s} {err}   : ((regFailed s err).1).ts = State.ts s := ts_of (fun _ hk => keep_regFailed hk) rfl
@[simp] theorem get_readRegs {s text}  {rq iq} (hq : Nat.testBit 0x40000000000000000000000000000000000000000000000000000000000000000000000000000000000000000000000000000000000000000000000000000000000040000000180000000000000000000000000000000000000000000000000000000000000000000000000000000000000000000000000000000000000000700022b80000 (Reg.ctorIdx rq) = false) : ((readRegs s text).1).get rq iq = State.get s rq iq :=
  reg_of iq (fun _ hk => keep_readRegs hk) rfl rfl rfl hq
@[simp] theorem dv_readRegs {s text}  {rq iq} (hq : Nat.testBit 0x0 (Reg.ctorIdx rq) = false) : ((readRegs s text).1).dv rq iq = State.dv s rq iq :=
  dev_of iq (fun _ hk => keep_readRegs hk) rfl rfl rfl hq
@[simp] theorem ts_readRegs {s text}  : ((readRegs s text).1).ts = State.ts s := ts_of (fun _ hk => keep_readRegs hk) rfl
@[simp] theorem dv_writeRegs {s text}  {rq iq} (hq : Nat.testBit 0x1802000000000000000000000000000000000000100000000000000000000000000000000000000000001e00060000000000000000000000000000070000 (Reg.ctorIdx rq) = false) : ((writeRegs s text).1).dv rq iq = State.dv s rq iq :=
  dev_of iq (fun _ hk => keep_writeRegs hk) rfl rfl rfl hq
@[simp] theorem ts_writeRegs {s text}  : ((writeRegs s text).1).ts = State.ts s := ts_of (fun _ hk => keep_writeRegs hk) rfl
@[simp] theorem get_peekEvents {s} {text}   {rq iq} (hq : Nat.testBit 0x0 (Reg.ctorIdx rq) = false) : ((peekEvents s text).1).get rq iq = State.get s rq iq :=
  reg_of iq (fun _ hk => keep_peekEvents hk) rfl rfl rfl hq
@[simp] theorem dv_peekEvents {s} {text}   {rq iq} (hq : Nat.testBit 0x0 (Reg.ctorIdx rq) = false) : ((peekEvents s text).1).dv rq iq = State.dv s rq iq :=
  dev_of iq (fun _ hk => keep_peekEvents hk) rfl rfl rfl hq
@[simp] theorem se_peekEvents {xq : State} {s} {text}   : SameEvents xq ((peekEvents s text).1) ↔ SameEvents xq s := se_of (fun _ hk => keep_peekEvents hk) rfl
@[simp] theorem ts_peekEvents {s} {text}   : ((peekEvents s text).1).ts = State.ts s := ts_of (fun _ hk => keep_peekEvents hk) rfl
@[simp] theorem get_healthReport {s} {text}   {rq iq} (hq : Nat.testBit 0x0 (Reg.ctorIdx rq) = false) : ((healthReport s text).1).get rq iq = State.get s rq iq :=
  reg_of iq (fun _ hk => keep_healthReport hk) rfl rfl rfl hq
@[simp] theorem dv_healthReport {s} {text}   {rq iq} (hq : Nat.testBit 0x0 (Reg.ctorIdx rq) = false) : ((healthReport s text).1).dv rq iq = State.dv s rq iq :=
  dev_of iq (fun _ hk => keep_healthReport hk) rfl rfl rfl hq
@[simp] theorem se_healthReport {xq : State} {s} {text}   : SameEvents xq ((healthReport s text).1) ↔ SameEvents xq s := se_of (fun _ hk => keep_healthReport hk) rfl
@[simp] theorem ts_healthReport {s} {text}   : ((healthReport s text).1).ts = State.ts s := ts_of (fun _ hk => keep_healthReport hk) rfl
@[simp] theorem get_closeSession {s} {text}   {rq iq} (hq : Nat.testBit 0x700000000000000000000000000000000000000000000000000000000000000000000000000000040070007000000000000000000000000000000000000000000000000000000000000000000000000000000000000000000000000000000000000000000300022b00000 (Reg.ctorIdx rq) = false) : ((closeSession s text).1).get rq iq = State.get s rq iq :=
  reg_of iq (fun _ hk => keep_closeSession hk) rfl rfl rfl hq
@[simp] theorem dv_closeSession {s} {text}   {rq iq} (hq : Nat.testBit 0x0 (Reg.ctorIdx rq) = false) : ((closeSession s text).1).dv rq iq = State.dv s rq iq :=
  dev_of iq (fun _ hk => keep_closeSession hk) rfl rfl rfl hq
@[simp] theorem ts_closeSession {s} {text}   : ((closeSession s text).1).ts = State.ts s := ts_of (fun _ hk => keep_closeSession hk) rfl
@[simp] theorem dv_commitSession {s} {text}   {rq iq} (hq : Nat.testBit 0x100000000000000000000000000000000000000000001e00060000000000000000000000000000000000 (Reg.ctorIdx rq) = false) : ((commitSession s text).1).dv rq iq = State.dv s rq iq :=
  dev_of iq (fun _ hk => keep_commitSession hk) rfl rfl rfl hq
@[simp] theorem ts_commitSession {s} {text}   : ((commitSession s text).1).ts = State.ts s := ts_of (fun _ hk => keep_commitSession hk) rfl
@[simp] theorem get_discardSession {s} {text}   {rq iq} (hq : Nat.testBit 0x10000000000000000000000000000000000000000000000000000000000000000000000000000000000000000000000000000000000000000000000000000000000 (Reg.ctorIdx rq) = false) : ((discardSession s text).1).get rq iq = State.get s rq iq :=
  reg_of iq (fun _ hk => keep_discardSession hk) rfl rfl rfl hq
@[simp] theorem dv_discardSession {s} {text}   {rq iq} (hq : Nat.testBit 0x0 (Reg.ctorIdx rq) = false) : ((discardSession s text).1).dv rq iq = State.dv s rq iq :=
  dev_of iq (fun _ hk => keep_discardSession hk) rfl rfl rfl hq
@[simp] theorem se_discardSession {xq : State} {s} {text}   : SameEvents xq ((discardSession s text).1) ↔ SameEvents xq s := se_of (fun _ hk => keep_discardSession hk) rfl
@[simp] theorem ts_discardSession {s} {text}   : ((discardSession s text).1).ts = State.ts s := ts_of (fun _ hk => keep_discardSession hk) rfl
@[simp] theorem get_resumeCold {s} {i}   {rq iq} (hq : Nat.testBit 0x300020000000000400000000000000000000000000000000000000000000000000000000000000000000000000000000000000000000000000000000000000000000000000000000000000000000000 (Reg.ctorIdx rq) = false) : ((resumeCold s i)).get rq iq = State.get s rq iq :=
  reg_of iq (fun _ hk => keep_resumeCold hk) rfl rfl rfl hq
@[simp] theorem dv_resumeCold {s} {i}   {rq iq} (hq : Nat.testBit 0x0 (Reg.ctorIdx rq) = false) : ((resumeCold s i)).dv rq iq = State.dv s rq iq :=
  dev_of iq (fun _ hk => keep_resumeCold hk) rfl rfl rfl hq
@[simp] theorem se_resumeCold {xq : State} {s} {i}   : SameEvents xq ((resumeCold s i)) ↔ SameEvents xq s := se_of (fun _ hk => keep_resumeCold hk) rfl
@[simp] theorem ts_resumeCold {s} {i}   : ((resumeCold s i)).ts = State.ts s := ts_of (fun _ hk => keep_resumeCold hk) rfl
@[simp] theorem get_resumeSource {s} {i}   {rq iq} (hq : Nat.testBit 0x4000000000000000000000000800000000000000000400000000000000300020000000000400f6c0000400000000000000000008000000000000000000000000000000000000000000000000000000000000000000400000000000080000000004031b0000200300022b80000 (Reg.ctorIdx rq) = false) : ((resumeSource s i)).get rq iq = State.get s rq iq :=
  reg_of iq (fun _ hk => keep_resumeSource hk) rfl rfl rfl hq
@[simp] theorem dv_resumeSource {s} {i}   {rq iq} (hq : Nat.testBit 0x0 (Reg.ctorIdx rq) = false) : ((resumeSource s i)).dv rq iq = State.dv s rq iq :=
  dev_of iq (fun _ hk => keep_resumeSource hk) rfl rfl rfl hq
@[simp] theorem ts_resumeSource {s} {i}   : ((resumeSource s i)).ts = State.ts s := ts_of (fun _ hk => keep_resumeSource hk) rfl
@[simp] theorem get_cycleMotion {s} {i} {te}   {rq iq} (hq : Nat.testBit 0x800000004c060000360000000000000e008000000003008004156000000010062843ddf2000001efe7ffff7d600040000000000000004000880000000000000000000000000002800010000000000000000000000000000000c40000000000088002e01081d833fbf00f00b00022b80000 (Reg.ctorIdx rq) = false) : ((cycleMotion s i te)).get rq iq = State.get s rq iq :=
  reg_of iq (fun _ hk => keep_cycleMotion hk) rfl rfl rfl hq
@[simp] theorem dv_cycleMotion {s} {i} {te}   {rq iq} (hq : Nat.testBit 0x187bf00000000000000000000000000000000000000000000000000000000000000000010003fc0000000000000000000000fffffffffffffffffffffffffffffffc03ffffffe00000000000ff8 (Reg.ctorIdx rq) = false) : ((cycleMotion s i te)).dv rq iq = State.dv s rq iq :=
  dev_of iq (fun _ hk => keep_cycleMotion hk) rfl rfl rfl hq
@[simp] theorem ts_cycleMotion {s} {i} {te}   : ((cycleMotion s i te)).ts = State.ts s := ts_of (fun _ hk => keep_cycleMotion hk) rfl
@[simp] theorem get_cycleAmplitude {s} {i} {te}   {rq iq} (hq : Nat.testBit 0x7a00000000000000000000000000000000000000000000000000000000000000000000000000000000000000000000000000000000000000000000000001c000000000000000000000000000000000000000000 (Reg.ctorIdx rq) = false) : ((cycleAmplitude s i te).1).get rq iq = State.get s rq iq :=
  reg_of iq (fun _ hk => keep_cycleAmplitude hk) rfl rfl rfl hq
@[simp] theorem dv_cycleAmplitude {s} {i} {te}   {rq iq} (hq : Nat.testBit 0x0 (Reg.ctorIdx rq) = false) : ((cycleAmplitude s i te).1).dv rq iq = State.dv s rq iq :=
  dev_of iq (fun _ hk => keep_cycleAmplitude hk) rfl rfl rfl hq
@[simp] theorem se_cycleAmplitude {xq : State} {s} {i} {te}   : SameEvents xq ((cycleAmplitude s i te).1) ↔ SameEvents xq s := se_of (fun _ hk => keep_cycleAmplitude hk) rfl
@[simp] theorem ts_cycleAmplitude {s} {i} {te}   : ((cycleAmplitude s i te).1).ts = State.ts s := ts_of (fun _ hk => keep_cycleAmplitude hk) rfl
@[simp] theorem get_comparePost {s} {i} {te} {accept}   {rq iq} (hq : Nat.testBit 0x4e00000200000000070000000000000000000000000000000000000000000000040000000000000000000000000000000000000000000000000000000000000000000000000000000000000000000000000000000000000000000000000300022b00f18 (Reg.ctorIdx rq) = false) : ((comparePost s i te accept)).get rq iq = State.get s rq iq :=
  reg_of iq (fun _ hk => keep_comparePost hk) rfl rfl rfl hq
@[simp] theorem dv_comparePost {s} {i} {te} {accept}   {rq iq} (hq : Nat.testBit 0x0 (Reg.ctorIdx rq) = false) : ((comparePost s i te accept)).dv rq iq = State.dv s rq iq :=
  dev_of iq (fun _ hk => keep_comparePost hk) rfl rfl rfl hq
@[simp] theorem ts_comparePost {s} {i} {te} {accept}   : ((comparePost s i te accept)).ts = State.ts s := ts_of (fun _ hk => keep_comparePost hk) rfl
@[simp] theorem get_cycleBegin {s} {i}   {rq iq} (hq : Nat.testBit 0x2000000000000000000010000000000000000000000000800020002c060000360000000002000e07ae800000e300f004156008200010062843ffff100003bfbdf02fede000400000000000000040008a00000000000000000000000080028000162000000088d800c280c00000140000c4405800000e08800af0001e4831b0000b00b00022b80000 (Reg.ctorIdx rq) = false) : ((cycleBegin s i)).get rq iq = State.get s rq iq :=
  reg_of iq (fun _ hk => keep_cycleBegin hk) rfl rfl rfl hq
@[simp] theorem dv_cycleBegin {s} {i}   {rq iq} (hq : Nat.testBit 0x100000000000000000000000000000000000000000001e0e0601f50fe000000000000000000000000000 (Reg.ctorIdx rq) = false) : ((cycleBegin s i)).dv rq iq = State.dv s rq iq :=
  dev_of iq (fun _ hk => keep_cycleBegin hk) rfl rfl rfl hq
@[simp] theorem ts_cycleBegin {s} {i}   : ((cycleBegin s i)).ts = State.ts s := ts_of (fun _ hk => keep_cycleBegin hk) rfl
@[simp] theorem get_cycleRegulate {s} {i} {te} {stood}   {rq iq} (hq : Nat.testBit 0x3ffcd59fffff07a7fff800000000000000000000000000400000000000000000000000000000000000000000000000000000000000000000000000000000007fc800f7883f800000000000800000000000000000300022b00000 (Reg.ctorIdx rq) = false) : ((cycleRegulate s i te stood)).get rq iq = State.get s rq iq :=
  reg_of iq (fun _ hk => keep_cycleRegulate hk) rfl rfl rfl hq
@[simp] theorem dv_cycleRegulate {s} {i} {te} {stood}   {rq iq} (hq : Nat.testBit 0x0 (Reg.ctorIdx rq) = false) : ((cycleRegulate s i te stood)).dv rq iq = State.dv s rq iq :=
  dev_of iq (fun _ hk => keep_cycleRegulate hk) rfl rfl rfl hq
@[simp] theorem ts_cycleRegulate {s} {i} {te} {stood}   : ((cycleRegulate s i te stood)).ts = State.ts s := ts_of (fun _ hk => keep_cycleRegulate hk) rfl
@[simp] theorem get_sampleTol {s} {i} {te}   {rq iq} (hq : Nat.testBit 0x2000000010180040c000040000000000000000000000000000000000000000000000000000000000000000000000000000000000000000000000000008000000000c80100800200300022b80000 (Reg.ctorIdx rq) = false) : ((sampleTol s i te)).get rq iq = State.get s rq iq :=
  reg_of iq (fun _ hk => keep_sampleTol hk) rfl rfl rfl hq
@[simp] theorem dv_sampleTol {s} {i} {te}   {rq iq} (hq : Nat.testBit 0x300000000000000000000000000 (Reg.ctorIdx rq) = false) : ((sampleTol s i te)).dv rq iq = State.dv s rq iq :=
  dev_of iq (fun _ hk => keep_sampleTol hk) rfl rfl rfl hq
@[simp] theorem ts_sampleTol {s} {i} {te}   : ((sampleTol s i te)).ts = State.ts s := ts_of (fun _ hk => keep_sampleTol hk) rfl
@[simp] theorem dv_cycleRun {s} {i} {accept} {differs}   {rq iq} (hq : Nat.testBit 0x187bf00000000000000000000000000180200000000000000000000000000000000000010003fc0000000000000000000000fffffffffffffffffffffffffffffffc03ffffffe00000000070ff8 (Reg.ctorIdx rq) = false) : ((cycleRun s i accept differs)).dv rq iq = State.dv s rq iq :=
  dev_of iq (fun _ hk => keep_cycleRun hk) rfl rfl rfl hq
@[simp] theorem ts_cycleRun {s} {i} {accept} {differs}   : ((cycleRun s i accept differs)).ts = State.ts s := ts_of (fun _ hk => keep_cycleRun hk) rfl
@[simp] theorem get_windowLate {s} {i}   {rq iq} (hq : Nat.testBit 0x10000000000000000000000000000000000000000000000000000000000000000000000000000000000000000000000000000000000000000001000000000000000000000000000000000000000000000 (Reg.ctorIdx rq) = false) : ((windowLate s i)).get rq iq = State.get s rq iq :=
  reg_of iq (fun _ hk => keep_windowLate hk) rfl rfl rfl hq
@[simp] theorem dv_windowLate {s} {i}   {rq iq} (hq : Nat.testBit 0x0 (Reg.ctorIdx rq) = false) : ((windowLate s i)).dv rq iq = State.dv s rq iq :=
  dev_of iq (fun _ hk => keep_windowLate hk) rfl rfl rfl hq
@[simp] theorem se_windowLate {xq : State} {s} {i}   : SameEvents xq ((windowLate s i)) ↔ SameEvents xq s := se_of (fun _ hk => keep_windowLate hk) rfl
@[simp] theorem ts_windowLate {s} {i}   : ((windowLate s i)).ts = State.ts s := ts_of (fun _ hk => keep_windowLate hk) rfl
@[simp] theorem dv_engineCycle {s} {i} {accept} {late} {differs} {epoch}   {rq iq} (hq : Nat.testBit 0x187bf00000000000000000000000000180200000000000000000000000000000000000010003fc0000000000000000000000fffffffffffffffffffffffffffffffc03ffffffe00000000070ff8 (Reg.ctorIdx rq) = false) : ((engineCycle s i accept late differs epoch)).dv rq iq = State.dv s rq iq :=
  dev_of iq (fun _ hk => keep_engineCycle hk) rfl rfl rfl hq
@[simp] theorem get_senseLost {s} {i}   {rq iq} (hq : Nat.testBit 0x8000000008060000360000000000000e00880000000300800415600000001006284081020000002f05c02c6c600040000000000000004000080000000000000000000000000002800010000000000000000000000000580000c40210000000088000e00000483100000b00b00022b80000 (Reg.ctorIdx rq) = false) : ((senseLost s i)).get rq iq = State.get s rq iq :=
  reg_of iq (fun _ hk => keep_senseLost hk) rfl rfl rfl hq
@[simp] theorem dv_senseLost {s} {i}   {rq iq} (hq : Nat.testBit 0x100000000000000000000000000000000000000000001e00060000000000000000000000000000000000 (Reg.ctorIdx rq) = false) : ((senseLost s i)).dv rq iq = State.dv s rq iq :=
  dev_of iq (fun _ hk => keep_senseLost hk) rfl rfl rfl hq
@[simp] theorem ts_senseLost {s} {i}   : ((senseLost s i)).ts = State.ts s := ts_of (fun _ hk => keep_senseLost hk) rfl
@[simp] theorem get_ffStale {s} {i}   {rq iq} (hq : Nat.testBit 0x100000000000000000000000000000000040000000000000000000000000000000000000000000000000000000000000000000000000000000000000000010000000000000000000000000000000300022b00000 (Reg.ctorIdx rq) = false) : ((ffStale s i)).get rq iq = State.get s rq iq :=
  reg_of iq (fun _ hk => keep_ffStale hk) rfl rfl rfl hq
@[simp] theorem dv_ffStale {s} {i}   {rq iq} (hq : Nat.testBit 0x0 (Reg.ctorIdx rq) = false) : ((ffStale s i)).dv rq iq = State.dv s rq iq :=
  dev_of iq (fun _ hk => keep_ffStale hk) rfl rfl rfl hq
@[simp] theorem ts_ffStale {s} {i}   : ((ffStale s i)).ts = State.ts s := ts_of (fun _ hk => keep_ffStale hk) rfl
@[simp] theorem get_dutyExit {s} {i}   {rq iq} (hq : Nat.testBit 0x300000000000000000000000000000040000000000000000000000000000000000000000000000000000000000000000000000000000000000000000010000000000000000000000000000000300022b00000 (Reg.ctorIdx rq) = false) : ((dutyExit s i)).get rq iq = State.get s rq iq :=
  reg_of iq (fun _ hk => keep_dutyExit hk) rfl rfl rfl hq
@[simp] theorem dv_dutyExit {s} {i}   {rq iq} (hq : Nat.testBit 0x0 (Reg.ctorIdx rq) = false) : ((dutyExit s i)).dv rq iq = State.dv s rq iq :=
  dev_of iq (fun _ hk => keep_dutyExit hk) rfl rfl rfl hq
@[simp] theorem ts_dutyExit {s} {i}   : ((dutyExit s i)).ts = State.ts s := ts_of (fun _ hk => keep_dutyExit hk) rfl
@[simp] theorem get_reduceStill {s} {i}   {rq iq} (hq : Nat.testBit 0x4000000000000000000000000000000000000000000000000000000000000000000000000000000000000000000000000000000000000000000000000010000000000000000000000000000000000000000000 (Reg.ctorIdx rq) = false) : ((reduceStill s i)).get rq iq = State.get s rq iq :=
  reg_of iq (fun _ hk => keep_reduceStill hk) rfl rfl rfl hq
@[simp] theorem dv_reduceStill {s} {i}   {rq iq} (hq : Nat.testBit 0x0 (Reg.ctorIdx rq) = false) : ((reduceStill s i)).dv rq iq = State.dv s rq iq :=
  dev_of iq (fun _ hk => keep_reduceStill hk) rfl rfl rfl hq
@[simp] theorem se_reduceStill {xq : State} {s} {i}   : SameEvents xq ((reduceStill s i)) ↔ SameEvents xq s := se_of (fun _ hk => keep_reduceStill hk) rfl
@[simp] theorem ts_reduceStill {s} {i}   : ((reduceStill s i)).ts = State.ts s := ts_of (fun _ hk => keep_reduceStill hk) rfl
@[simp] theorem get_windingOpen {s} {i}   {rq iq} (hq : Nat.testBit 0x8000000008060000360000000000000e008e0000000300c00415600000001026284081020000002f05c02c6c60004000000000000000400008000000000000000000000000000280003e000000008000000000000000000000c40100000000088000e00000483100000b00b00022b80000 (Reg.ctorIdx rq) = false) : ((windingOpen s i)).get rq iq = State.get s rq iq :=
  reg_of iq (fun _ hk => keep_windingOpen hk) rfl rfl rfl hq
@[simp] theorem dv_windingOpen {s} {i}   {rq iq} (hq : Nat.testBit 0x100000000000000000000000000000000000000000001e00060000000000000000000000000000000000 (Reg.ctorIdx rq) = false) : ((windingOpen s i)).dv rq iq = State.dv s rq iq :=
  dev_of iq (fun _ hk => keep_windingOpen hk) rfl rfl rfl hq
@[simp] theorem ts_windingOpen {s} {i}   : ((windingOpen s i)).ts = State.ts s := ts_of (fun _ hk => keep_windingOpen hk) rfl
@[simp] theorem get_sumError {s} {i}   {rq iq} (hq : Nat.testBit 0x8000000008060000360000000000000e00880000000300800415600000001046284081020000002f05c02c6c600040000000000000004000080000000000000000000000000002800010000000000000000000000000000000c40080000000088000e00000483100000b00b00022b80000 (Reg.ctorIdx rq) = false) : ((sumError s i)).get rq iq = State.get s rq iq :=
  reg_of iq (fun _ hk => keep_sumError hk) rfl rfl rfl hq
@[simp] theorem dv_sumError {s} {i}   {rq iq} (hq : Nat.testBit 0x100000000000000000000000000000000000000000001e00060000000000000000000000000000000000 (Reg.ctorIdx rq) = false) : ((sumError s i)).dv rq iq = State.dv s rq iq :=
  dev_of iq (fun _ hk => keep_sumError hk) rfl rfl rfl hq
@[simp] theorem ts_sumError {s} {i}   : ((sumError s i)).ts = State.ts s := ts_of (fun _ hk => keep_sumError hk) rfl
@[simp] theorem get_dcProbe {s} {i}   {rq iq} (hq : Nat.testBit 0xe002b000000000000000000000000000000000000000000000000000000000000000000000000000000000000000000000000000000000000000000000000000000040000000000000000000000000000000000000000000000 (Reg.ctorIdx rq) = false) : ((dcProbe s i)).get rq iq = State.get s rq iq :=
  reg_of iq (fun _ hk => keep_dcProbe hk) rfl rfl rfl hq
@[simp] theorem dv_dcProbe {s} {i}   {rq iq} (hq : Nat.testBit 0x3000000000000000000000000000000000000000000000000000 (Reg.ctorIdx rq) = false) : ((dcProbe s i)).dv rq iq = State.dv s rq iq :=
  dev_of iq (fun _ hk => keep_dcProbe hk) rfl rfl rfl hq
@[simp] theorem se_dcProbe {xq : State} {s} {i}   : SameEvents xq ((dcProbe s i)) ↔ SameEvents xq s := se_of (fun _ hk => keep_dcProbe hk) rfl
@[simp] theorem ts_dcProbe {s} {i}   : ((dcProbe s i)).ts = State.ts s := ts_of (fun _ hk => keep_dcProbe hk) rfl
@[simp] theorem get_daxisProbe {s} {i}   {rq iq} (hq : Nat.testBit 0xe002b000000000000000000000000000000000000000000000000000000000000000000000000000000000000000000000000000000000000000000000000000000040000000000000000000000000000000000000000000000 (Reg.ctorIdx rq) = false) : ((daxisProbe s i)).get rq iq = State.get s rq iq :=
  reg_of iq (fun _ hk => keep_daxisProbe hk) rfl rfl rfl hq
@[simp] theorem dv_daxisProbe {s} {i}   {rq iq} (hq : Nat.testBit 0x3000000000000000000000000000000000000000000000000000 (Reg.ctorIdx rq) = false) : ((daxisProbe s i)).dv rq iq = State.dv s rq iq :=
  dev_of iq (fun _ hk => keep_daxisProbe hk) rfl rfl rfl hq
@[simp] theorem se_daxisProbe {xq : State} {s} {i}   : SameEvents xq ((daxisProbe s i)) ↔ SameEvents xq s := se_of (fun _ hk => keep_daxisProbe hk) rfl
@[simp] theorem ts_daxisProbe {s} {i}   : ((daxisProbe s i)).ts = State.ts s := ts_of (fun _ hk => keep_daxisProbe hk) rfl
@[simp] theorem get_probeDone {s} {i}   {rq iq} (hq : Nat.testBit 0x7000000000000000000000000000000003104150f4800000000000000000000000000000000000040060000000000000000000000000000000000000000000000000000000000000000000000000000d84000a40000000000000000000000000000000000300022b00000 (Reg.ctorIdx rq) = false) : ((probeDone s i)).get rq iq = State.get s rq iq :=
  reg_of iq (fun _ hk => keep_probeDone hk) rfl rfl rfl hq
@[simp] theorem dv_probeDone {s} {i}   {rq iq} (hq : Nat.testBit 0x800000000000000000000000000000000000000000000000000000 (Reg.ctorIdx rq) = false) : ((probeDone s i)).dv rq iq = State.dv s rq iq :=
  dev_of iq (fun _ hk => keep_probeDone hk) rfl rfl rfl hq
@[simp] theorem ts_probeDone {s} {i}   : ((probeDone s i)).ts = State.ts s := ts_of (fun _ hk => keep_probeDone hk) rfl
@[simp] theorem get_vwStale {s} {i}   {rq iq} (hq : Nat.testBit 0x100000000000000000000000000000000000000000000000000000 (Reg.ctorIdx rq) = false) : ((vwStale s i)).get rq iq = State.get s rq iq :=
  reg_of iq (fun _ hk => keep_vwStale hk) rfl rfl rfl hq
@[simp] theorem dv_vwStale {s} {i}   {rq iq} (hq : Nat.testBit 0x0 (Reg.ctorIdx rq) = false) : ((vwStale s i)).dv rq iq = State.dv s rq iq :=
  dev_of iq (fun _ hk => keep_vwStale hk) rfl rfl rfl hq
@[simp] theorem se_vwStale {xq : State} {s} {i}   : SameEvents xq ((vwStale s i)) ↔ SameEvents xq s := se_of (fun _ hk => keep_vwStale hk) rfl
@[simp] theorem ts_vwStale {s} {i}   : ((vwStale s i)).ts = State.ts s := ts_of (fun _ hk => keep_vwStale hk) rfl
@[simp] theorem get_takeHeartbeat {s} {b} {count}   {rq iq} (hq : Nat.testBit 0x70000000000000000000000000000000000000000000000000000000000000000000000000000000000000000000000000000000000000000000000000000000000000000000000000000000000000000000000000000000000000000000 (Reg.ctorIdx rq) = false) : ((takeHeartbeat s b count)).get rq iq = State.get s rq iq :=
  reg_of iq (fun _ hk => keep_takeHeartbeat hk) rfl rfl rfl hq
@[simp] theorem dv_takeHeartbeat {s} {b} {count}   {rq iq} (hq : Nat.testBit 0x0 (Reg.ctorIdx rq) = false) : ((takeHeartbeat s b count)).dv rq iq = State.dv s rq iq :=
  dev_of iq (fun _ hk => keep_takeHeartbeat hk) rfl rfl rfl hq
@[simp] theorem se_takeHeartbeat {xq : State} {s} {b} {count}   : SameEvents xq ((takeHeartbeat s b count)) ↔ SameEvents xq s := se_of (fun _ hk => keep_takeHeartbeat hk) rfl
@[simp] theorem ts_takeHeartbeat {s} {b} {count}   : ((takeHeartbeat s b count)).ts = State.ts s := ts_of (fun _ hk => keep_takeHeartbeat hk) rfl
@[simp] theorem get_heartbeat {s} {b}   {rq iq} (hq : Nat.testBit 0x78000000000000000000000000000000000000000000000000000000000000000000000000000000000000000000000000000000000000000000000000000000000000000000000000000000000000000000000000000000000000000000 (Reg.ctorIdx rq) = false) : ((heartbeat s b)).get rq iq = State.get s rq iq :=
  reg_of iq (fun _ hk => keep_heartbeat hk) rfl rfl rfl hq
@[simp] theorem dv_heartbeat {s} {b}   {rq iq} (hq : Nat.testBit 0x0 (Reg.ctorIdx rq) = false) : ((heartbeat s b)).dv rq iq = State.dv s rq iq :=
  dev_of iq (fun _ hk => keep_heartbeat hk) rfl rfl rfl hq
@[simp] theorem se_heartbeat {xq : State} {s} {b}   : SameEvents xq ((heartbeat s b)) ↔ SameEvents xq s := se_of (fun _ hk => keep_heartbeat hk) rfl
@[simp] theorem ts_heartbeat {s} {b}   : ((heartbeat s b)).ts = State.ts s := ts_of (fun _ hk => keep_heartbeat hk) rfl
@[simp] theorem get_bankDevelop {s} {b}   {rq iq} (hq : Nat.testBit 0x400000000000000000000000000000000000000000000000000000000000000000000000000000000000000000000000000000000000000000000000000000000000000000000000000000000000000000000000000000000000000000000 (Reg.ctorIdx rq) = false) : ((bankDevelop s b)).get rq iq = State.get s rq iq :=
  reg_of iq (fun _ hk => keep_bankDevelop hk) rfl rfl rfl hq
@[simp] theorem dv_bankDevelop {s} {b}   {rq iq} (hq : Nat.testBit 0x2000000000000000000000000000000000000000000000000000000000000000000000000 (Reg.ctorIdx rq) = false) : ((bankDevelop s b)).dv rq iq = State.dv s rq iq :=
  dev_of iq (fun _ hk => keep_bankDevelop hk) rfl rfl rfl hq
@[simp] theorem se_bankDevelop {xq : State} {s} {b}   : SameEvents xq ((bankDevelop s b)) ↔ SameEvents xq s := se_of (fun _ hk => keep_bankDevelop hk) rfl
@[simp] theorem ts_bankDevelop {s} {b}   : ((bankDevelop s b)).ts = State.ts s := ts_of (fun _ hk => keep_bankDevelop hk) rfl
@[simp] theorem dv_tickDevelops {s}   {rq iq} (hq : Nat.testBit 0x7ffffffffc0000002000000000000000100000000000000000000000000000000000000000000000000000000 (Reg.ctorIdx rq) = false) : ((tickDevelops s)).dv rq iq = State.dv s rq iq :=
  dev_of iq (fun _ hk => keep_tickDevelops hk) rfl rfl rfl hq
@[simp] theorem ts_tickDevelops {s}   : ((tickDevelops s)).ts = State.ts s := ts_of (fun _ hk => keep_tickDevelops hk) rfl
@[simp] theorem dv_statusTick {s}   {rq iq} (hq : Nat.testBit 0x400000000180200000000000000000000000fc0000007ffffffffc0000002000000000000000100000000000000001e000601f5000000000000000000000000070000 (Reg.ctorIdx rq) = false) : ((statusTick s)).dv rq iq = State.dv s rq iq :=
  dev_of iq (fun _ hk => keep_statusTick hk) rfl rfl rfl hq
@[simp] theorem get_startAction {s} {a}   {rq iq} (hq : Nat.testBit 0x400001800000000000000000000000000000000000000000000000000040000000000000000000000000000000000000000000000000000000000000000000000000000000000000000000000000000000000000000000000000300022b00000 (Reg.ctorIdx rq) = false) : ((startAction s a)).get rq iq = State.get s rq iq :=
  reg_of iq (fun _ hk => keep_startAction hk) rfl rfl rfl hq
@[simp] theorem dv_startAction {s} {a}   {rq iq} (hq : Nat.testBit 0x0 (Reg.ctorIdx rq) = false) : ((startAction s a)).dv rq iq = State.dv s rq iq :=
  dev_of iq (fun _ hk => keep_startAction hk) rfl rfl rfl hq
@[simp] theorem ts_startAction {s} {a}   : ((startAction s a)).ts = State.ts s := ts_of (fun _ hk => keep_startAction hk) rfl
@[simp] theorem get_startInstant {s t}  {rq iq} (hq : Nat.testBit 0x100000000000000000000000000000400001800000000000000000000000000000000000000000000000000040000000000000000000000000000000000000000000000002000000000000000000000000000000000000000000000000000000000000000000000000300022b00000 (Reg.ctorIdx rq) = false) : ((startInstant s t)).get rq iq = State.get s rq iq :=
  reg_of iq (fun _ hk => keep_startInstant hk) rfl rfl rfl hq
@[simp] theorem dv_startInstant {s t}  {rq iq} (hq : Nat.testBit 0x0 (Reg.ctorIdx rq) = false) : ((startInstant s t)).dv rq iq = State.dv s rq iq :=
  dev_of iq (fun _ hk => keep_startInstant hk) rfl rfl rfl hq
@[simp] theorem ts_startInstant {s t}  : ((startInstant s t)).ts = State.ts s := ts_of (fun _ hk => keep_startInstant hk) rfl
@[simp] theorem get_startActions {s}   {rq iq} (hq : Nat.testBit 0x100000000000000000000000000000400001800000000000000000000000000000000000000000000000000040000000000000000000000000000000000000000000000002000000000000000000000000000000000000000000000000000000000000000000000000300022b00000 (Reg.ctorIdx rq) = false) : ((startActions s)).get rq iq = State.get s rq iq :=
  reg_of iq (fun _ hk => keep_startActions hk) rfl rfl rfl hq
@[simp] theorem dv_startActions {s}   {rq iq} (hq : Nat.testBit 0x0 (Reg.ctorIdx rq) = false) : ((startActions s)).dv rq iq = State.dv s rq iq :=
  dev_of iq (fun _ hk => keep_startActions hk) rfl rfl rfl hq
@[simp] theorem ts_startActions {s}   : ((startActions s)).ts = State.ts s := ts_of (fun _ hk => keep_startActions hk) rfl
@[simp] theorem get_pulseEnd {s} {k}   {rq iq} (hq : Nat.testBit 0x1000000000000000000000000000000000000000000000000000000000000000000000000000000000000000000000000000000000000000000000000000000000000000000000000000000000000000000000000000000000000000000 (Reg.ctorIdx rq) = false) : ((pulseEnd s k)).get rq iq = State.get s rq iq :=
  reg_of iq (fun _ hk => keep_pulseEnd hk) rfl rfl rfl hq
@[simp] theorem dv_pulseEnd {s} {k}   {rq iq} (hq : Nat.testBit 0x0 (Reg.ctorIdx rq) = false) : ((pulseEnd s k)).dv rq iq = State.dv s rq iq :=
  dev_of iq (fun _ hk => keep_pulseEnd hk) rfl rfl rfl hq
@[simp] theorem se_pulseEnd {xq : State} {s} {k}   : SameEvents xq ((pulseEnd s k)) ↔ SameEvents xq s := se_of (fun _ hk => keep_pulseEnd hk) rfl
@[simp] theorem ts_pulseEnd {s} {k}   : ((pulseEnd s k)).ts = State.ts s := ts_of (fun _ hk => keep_pulseEnd hk) rfl
@[simp] theorem get_syncTimedOut {s} {i}   {rq iq} (hq : Nat.testBit 0x2400000040000000000000000000000000000000000000000000000000000000000000000000000000000000000000000000000000000000000000080104000200300022b80000 (Reg.ctorIdx rq) = false) : ((syncTimedOut s i)).get rq iq = State.get s rq iq :=
  reg_of iq (fun _ hk => keep_syncTimedOut hk) rfl rfl rfl hq
@[simp] theorem dv_syncTimedOut {s} {i}   {rq iq} (hq : Nat.testBit 0x0 (Reg.ctorIdx rq) = false) : ((syncTimedOut s i)).dv rq iq = State.dv s rq iq :=
  dev_of iq (fun _ hk => keep_syncTimedOut hk) rfl rfl rfl hq
@[simp] theorem ts_syncTimedOut {s} {i}   : ((syncTimedOut s i)).ts = State.ts s := ts_of (fun _ hk => keep_syncTimedOut hk) rfl
@[simp] theorem get_chainLost {s} {i}   {rq iq} (hq : Nat.testBit 0x2000000010180040c000040000000000000000000000000000000000000000000000000000000000000000000000000000000000000000000000000008000000000c80100000200300022b80000 (Reg.ctorIdx rq) = false) : ((chainLost s i)).get rq iq = State.get s rq iq :=
  reg_of iq (fun _ hk => keep_chainLost hk) rfl rfl rfl hq
@[simp] theorem dv_chainLost {s} {i}   {rq iq} (hq : Nat.testBit 0x300000000000000000000000000 (Reg.ctorIdx rq) = false) : ((chainLost s i)).dv rq iq = State.dv s rq iq :=
  dev_of iq (fun _ hk => keep_chainLost hk) rfl rfl rfl hq
@[simp] theorem ts_chainLost {s} {i}   : ((chainLost s i)).ts = State.ts s := ts_of (fun _ hk => keep_chainLost hk) rfl
@[simp] theorem get_homingChatters {s} {i}   {rq iq} (hq : Nat.testBit 0x4080000000000e00000000000040000000000000000000000000000000000000000000000000000000000000000000000000000000000000000000000000000000e00000000000000000300022b00000 (Reg.ctorIdx rq) = false) : ((homingChatters s i)).get rq iq = State.get s rq iq :=
  reg_of iq (fun _ hk => keep_homingChatters hk) rfl rfl rfl hq
@[simp] theorem dv_homingChatters {s} {i}   {rq iq} (hq : Nat.testBit 0x0 (Reg.ctorIdx rq) = false) : ((homingChatters s i)).dv rq iq = State.dv s rq iq :=
  dev_of iq (fun _ hk => keep_homingChatters hk) rfl rfl rfl hq
@[simp] theorem ts_homingChatters {s} {i}   : ((homingChatters s i)).ts = State.ts s := ts_of (fun _ hk => keep_homingChatters hk) rfl
@[simp] theorem get_homingTooFar {s} {i}   {rq iq} (hq : Nat.testBit 0x4080000000000e00000000000040000000000000000000000000000000000000000000000000000000000000000000000000000000000000000000000000000000e00000000000000000300022b00000 (Reg.ctorIdx rq) = false) : ((homingTooFar s i)).get rq iq = State.get s rq iq :=
  reg_of iq (fun _ hk => keep_homingTooFar hk) rfl rfl rfl hq
@[simp] theorem dv_homingTooFar {s} {i}   {rq iq} (hq : Nat.testBit 0x0 (Reg.ctorIdx rq) = false) : ((homingTooFar s i)).dv rq iq = State.dv s rq iq :=
  dev_of iq (fun _ hk => keep_homingTooFar hk) rfl rfl rfl hq
@[simp] theorem ts_homingTooFar {s} {i}   : ((homingTooFar s i)).ts = State.ts s := ts_of (fun _ hk => keep_homingTooFar hk) rfl
@[simp] theorem get_homingLacksIndex {s} {i}   {rq iq} (hq : Nat.testBit 0x4080000000000e00000000000040000000000000000000000000000000000000000000000000000000000000000000000000000000000000000000000000000000e00000000000000000300022b00000 (Reg.ctorIdx rq) = false) : ((homingLacksIndex s i)).get rq iq = State.get s rq iq :=
  reg_of iq (fun _ hk => keep_homingLacksIndex hk) rfl rfl rfl hq
@[simp] theorem dv_homingLacksIndex {s} {i}   {rq iq} (hq : Nat.testBit 0x0 (Reg.ctorIdx rq) = false) : ((homingLacksIndex s i)).dv rq iq = State.dv s rq iq :=
  dev_of iq (fun _ hk => keep_homingLacksIndex hk) rfl rfl rfl hq
@[simp] theorem ts_homingLacksIndex {s} {i}   : ((homingLacksIndex s i)).ts = State.ts s := ts_of (fun _ hk => keep_homingLacksIndex hk) rfl
end Sys2Proof.Laws
end

