-- ==== Sys2Proof/Laws/Widths.lean ====
section
/-! SUPPORT. The width of each field, as simp lemmas. -/

set_option Elab.async false

namespace Sys2Proof.Laws

open Machine

@[simp] theorem width_DEVICE_ID : Reg.width .DEVICE_ID = 16 := rfl
@[simp] theorem width_SI_REV_MAJOR : Reg.width .SI_REV_MAJOR = 8 := rfl
@[simp] theorem width_SI_REV_MINOR : Reg.width .SI_REV_MINOR = 8 := rfl
@[simp] theorem width_SLACK_LAST : Reg.width .SLACK_LAST = 16 := rfl
@[simp] theorem width_SLACK_MIN : Reg.width .SLACK_MIN = 16 := rfl
@[simp] theorem width_SLACK_GUARD : Reg.width .SLACK_GUARD = 9 := rfl
@[simp] theorem width_SLACK_MIN_CLR : Reg.width .SLACK_MIN_CLR = 1 := rfl
@[simp] theorem width_GUARD_REJ : Reg.width .GUARD_REJ = 1 := rfl
@[simp] theorem width_SLACK_LOW : Reg.width .SLACK_LOW = 1 := rfl
@[simp] theorem width_OBS_HALF : Reg.width .OBS_HALF = 1 := rfl
@[simp] theorem width_SLACK_LOW_SEEN : Reg.width .SLACK_LOW_SEEN = 1 := rfl
@[simp] theorem width_DEADLINE_MISS : Reg.width .DEADLINE_MISS = 16 := rfl
@[simp] theorem width_TAGS_INFLIGHT : Reg.width .TAGS_INFLIGHT = 7 := rfl
@[simp] theorem width_TAGS_QUAR : Reg.width .TAGS_QUAR = 7 := rfl
@[simp] theorem width_TAG_WAIT : Reg.width .TAG_WAIT = 16 := rfl
@[simp] theorem width_TAG_RECLAIM : Reg.width .TAG_RECLAIM = 16 := rfl
@[simp] theorem width_QBASE : Reg.width .QBASE = 14 := rfl
@[simp] theorem width_QSIZE_LOG2 : Reg.width .QSIZE_LOG2 = 4 := rfl
@[simp] theorem width_PRODUCER : Reg.width .PRODUCER = 2 := rfl
@[simp] theorem width_QRD : Reg.width .QRD = 15 := rfl
@[simp] theorem width_QWR : Reg.width .QWR = 15 := rfl
@[simp] theorem width_QLEVEL : Reg.width .QLEVEL = 15 := rfl
@[simp] theorem width_QWMARK : Reg.width .QWMARK = 15 := rfl
@[simp] theorem width_QDROP : Reg.width .QDROP = 16 := rfl
@[simp] theorem width_QRESET : Reg.width .QRESET = 1 := rfl
@[simp] theorem width_QOVF : Reg.width .QOVF = 1 := rfl
@[simp] theorem width_QWR_REJ : Reg.width .QWR_REJ = 1 := rfl
@[simp] theorem width_QRD_REJ : Reg.width .QRD_REJ = 1 := rfl
@[simp] theorem width_QCFG_REJ : Reg.width .QCFG_REJ = 1 := rfl
@[simp] theorem width_QWM_HIT : Reg.width .QWM_HIT = 1 := rfl
@[simp] theorem width_TS : Reg.width .TS = 64 := rfl
@[simp] theorem width_PLL_LOCK : Reg.width .PLL_LOCK = 1 := rfl
@[simp] theorem width_REF_OK : Reg.width .REF_OK = 1 := rfl
@[simp] theorem width_TB_SRC_ACT : Reg.width .TB_SRC_ACT = 1 := rfl
@[simp] theorem width_DL_COARSE : Reg.width .DL_COARSE = 1 := rfl
@[simp] theorem width_TB_LOST : Reg.width .TB_LOST = 1 := rfl
@[simp] theorem width_DL_CAL_ERR : Reg.width .DL_CAL_ERR = 1 := rfl
@[simp] theorem width_TB_APPLY_REJ : Reg.width .TB_APPLY_REJ = 1 := rfl
@[simp] theorem width_TB_SRC : Reg.width .TB_SRC = 1 := rfl
@[simp] theorem width_TB_APPLY : Reg.width .TB_APPLY = 1 := rfl
@[simp] theorem width_DL_ELEMS : Reg.width .DL_ELEMS = 8 := rfl
@[simp] theorem width_TB_GAP : Reg.width .TB_GAP = 16 := rfl
@[simp] theorem width_TB_GAP_US : Reg.width .TB_GAP_US = 16 := rfl
@[simp] theorem width_TICK_STAMP : Reg.width .TICK_STAMP = 16 := rfl
@[simp] theorem width_Q11_WM : Reg.width .Q11_WM = 1 := rfl
@[simp] theorem width_Q11_FULL : Reg.width .Q11_FULL = 1 := rfl
@[simp] theorem width_Q15_DATA : Reg.width .Q15_DATA = 1 := rfl
@[simp] theorem width_FAULT : Reg.width .FAULT = 1 := rfl
@[simp] theorem width_IRQ_EN_Q11 : Reg.width .IRQ_EN_Q11 = 2 := rfl
@[simp] theorem width_IRQ_EN_Q15 : Reg.width .IRQ_EN_Q15 = 1 := rfl
@[simp] theorem width_IRQ_EN_FAULT : Reg.width .IRQ_EN_FAULT = 1 := rfl
@[simp] theorem width_CLASH_LOST : Reg.width .CLASH_LOST = 16 := rfl
@[simp] theorem width_HOST_WR_IGN : Reg.width .HOST_WR_IGN = 16 := rfl
@[simp] theorem width_PORT_ROLE_DEV : Reg.width .PORT_ROLE_DEV = 8 := rfl
@[simp] theorem width_SLOT_ENGINE : Reg.width .SLOT_ENGINE = 4 := rfl
@[simp] theorem width_SLOT_EPOCH : Reg.width .SLOT_EPOCH = 4 := rfl
@[simp] theorem width_SPARE_MAP : Reg.width .SPARE_MAP = 10 := rfl
@[simp] theorem width_SEG_STATE : Reg.width .SEG_STATE = 4 := rfl
@[simp] theorem width_SEG_PTR : Reg.width .SEG_PTR = 15 := rfl
@[simp] theorem width_SEG_AHEAD : Reg.width .SEG_AHEAD = 16 := rfl
@[simp] theorem width_SEG_AHEAD_WM : Reg.width .SEG_AHEAD_WM = 16 := rfl
@[simp] theorem width_TOL_WINDOW : Reg.width .TOL_WINDOW = 32 := rfl
@[simp] theorem width_TOL_ACTION : Reg.width .TOL_ACTION = 2 := rfl
@[simp] theorem width_TRIG_SEL : Reg.width .TRIG_SEL = 3 := rfl
@[simp] theorem width_TRIG_WIDTH : Reg.width .TRIG_WIDTH = 8 := rfl
@[simp] theorem width_SEG_VMAX : Reg.width .SEG_VMAX = 32 := rfl
@[simp] theorem width_SYNC_TIMEOUT : Reg.width .SYNC_TIMEOUT = 16 := rfl
@[simp] theorem width_SEG_RESTART : Reg.width .SEG_RESTART = 1 := rfl
@[simp] theorem width_SOFTLIM_HIT : Reg.width .SOFTLIM_HIT = 1 := rfl
@[simp] theorem width_UNDERRUN : Reg.width .UNDERRUN = 1 := rfl
@[simp] theorem width_SYNC_LATE : Reg.width .SYNC_LATE = 1 := rfl
@[simp] theorem width_TOL_FAIL : Reg.width .TOL_FAIL = 1 := rfl
@[simp] theorem width_VEL_EXCESS : Reg.width .VEL_EXCESS = 1 := rfl
@[simp] theorem width_STRETCH : Reg.width .STRETCH = 1 := rfl
@[simp] theorem width_SYNC_TO : Reg.width .SYNC_TO = 1 := rfl
@[simp] theorem width_AHEAD_LOW : Reg.width .AHEAD_LOW = 1 := rfl
@[simp] theorem width_LAST_REJ_CAUSE : Reg.width .LAST_REJ_CAUSE = 8 := rfl
@[simp] theorem width_LAST_REJ_PTR : Reg.width .LAST_REJ_PTR = 15 := rfl
@[simp] theorem width_SEG_DONE : Reg.width .SEG_DONE = 16 := rfl
@[simp] theorem width_SEG_REJ : Reg.width .SEG_REJ = 16 := rfl
@[simp] theorem width_SEG_DISCARD : Reg.width .SEG_DISCARD = 16 := rfl
@[simp] theorem width_SEG_STRETCH : Reg.width .SEG_STRETCH = 16 := rfl
@[simp] theorem width_SOFTLIM_LO : Reg.width .SOFTLIM_LO = 48 := rfl
@[simp] theorem width_SOFTLIM_HI : Reg.width .SOFTLIM_HI = 48 := rfl
@[simp] theorem width_POS_CMD : Reg.width .POS_CMD = 48 := rfl
@[simp] theorem width_VEL_CMD : Reg.width .VEL_CMD = 32 := rfl
@[simp] theorem width_ACC_MEMB : Reg.width .ACC_MEMB = 8 := rfl
@[simp] theorem width_ACC_MODE : Reg.width .ACC_MODE = 1 := rfl
@[simp] theorem width_ACC_REJ : Reg.width .ACC_REJ = 1 := rfl
@[simp] theorem width_ACC_LEAD : Reg.width .ACC_LEAD = 16 := rfl
@[simp] theorem width_ACC_GO_T : Reg.width .ACC_GO_T = 64 := rfl
@[simp] theorem width_ACC_WAITING : Reg.width .ACC_WAITING = 8 := rfl
@[simp] theorem width_ACC_PEND : Reg.width .ACC_PEND = 8 := rfl
@[simp] theorem width_ACC_GO_LOST : Reg.width .ACC_GO_LOST = 16 := rfl
@[simp] theorem width_PLAN_STATE : Reg.width .PLAN_STATE = 3 := rfl
@[simp] theorem width_STOP_CAUSE : Reg.width .STOP_CAUSE = 4 := rfl
@[simp] theorem width_ACCEL_DEFERRED : Reg.width .ACCEL_DEFERRED = 1 := rfl
@[simp] theorem width_TARGET_CLAMPED : Reg.width .TARGET_CLAMPED = 1 := rfl
@[simp] theorem width_LIM_N_HIT : Reg.width .LIM_N_HIT = 1 := rfl
@[simp] theorem width_LIM_P_HIT : Reg.width .LIM_P_HIT = 1 := rfl
@[simp] theorem width_LIM_BOTH : Reg.width .LIM_BOTH = 1 := rfl
@[simp] theorem width_CS_VCLAMP : Reg.width .CS_VCLAMP = 1 := rfl
@[simp] theorem width_CSV_ACC_CLAMP : Reg.width .CSV_ACC_CLAMP = 1 := rfl
@[simp] theorem width_STEP_LAG : Reg.width .STEP_LAG = 1 := rfl
@[simp] theorem width_STOP_DEC : Reg.width .STOP_DEC = 32 := rfl
@[simp] theorem width_LIMIT_DEC : Reg.width .LIMIT_DEC = 32 := rfl
@[simp] theorem width_CS_MISS_MAX : Reg.width .CS_MISS_MAX = 4 := rfl
@[simp] theorem width_CS_RESUME_WIN : Reg.width .CS_RESUME_WIN = 32 := rfl
@[simp] theorem width_CS_MISS : Reg.width .CS_MISS = 16 := rfl
@[simp] theorem width_LIMN_EN : Reg.width .LIMN_EN = 1 := rfl
@[simp] theorem width_LIMP_EN : Reg.width .LIMP_EN = 1 := rfl
@[simp] theorem width_HOME_EN : Reg.width .HOME_EN = 1 := rfl
@[simp] theorem width_LIMN_POL : Reg.width .LIMN_POL = 1 := rfl
@[simp] theorem width_LIMP_POL : Reg.width .LIMP_POL = 1 := rfl
@[simp] theorem width_HOME_POL : Reg.width .HOME_POL = 1 := rfl
@[simp] theorem width_LIM_SWAP : Reg.width .LIM_SWAP = 1 := rfl
@[simp] theorem width_SW_STATE : Reg.width .SW_STATE = 3 := rfl
@[simp] theorem width_HOME_STATE : Reg.width .HOME_STATE = 3 := rfl
@[simp] theorem width_HOME_FAIL : Reg.width .HOME_FAIL = 8 := rfl
@[simp] theorem width_HOMED : Reg.width .HOMED = 1 := rfl
@[simp] theorem width_CHATTER_MAX : Reg.width .CHATTER_MAX = 8 := rfl
@[simp] theorem width_HOME_EDGES : Reg.width .HOME_EDGES = 8 := rfl
@[simp] theorem width_HOME_DIST_MAX : Reg.width .HOME_DIST_MAX = 32 := rfl
@[simp] theorem width_HOME_LATCH : Reg.width .HOME_LATCH = 48 := rfl
@[simp] theorem width_HS_CURRENT : Reg.width .HS_CURRENT = 16 := rfl
@[simp] theorem width_HS_BACKOFF : Reg.width .HS_BACKOFF = 32 := rfl
@[simp] theorem width_HS_DIR : Reg.width .HS_DIR = 1 := rfl
@[simp] theorem width_HOME_MOVE_BACK : Reg.width .HOME_MOVE_BACK = 1 := rfl
@[simp] theorem width_HOME_IDX_MAX : Reg.width .HOME_IDX_MAX = 32 := rfl
@[simp] theorem width_SF_SCALE : Reg.width .SF_SCALE = 11 := rfl
@[simp] theorem width_SF_SMOOTH : Reg.width .SF_SMOOTH = 4 := rfl
@[simp] theorem width_SF_EDGE : Reg.width .SF_EDGE = 1 := rfl
@[simp] theorem width_SF_DIR_INV : Reg.width .SF_DIR_INV = 1 := rfl
@[simp] theorem width_SF_COUNT : Reg.width .SF_COUNT = 32 := rfl
@[simp] theorem width_SF_LAG_MAX : Reg.width .SF_LAG_MAX = 32 := rfl
@[simp] theorem width_SF_STATE : Reg.width .SF_STATE = 2 := rfl
@[simp] theorem width_SF_RESTART : Reg.width .SF_RESTART = 1 := rfl
@[simp] theorem width_TIA_RANGE : Reg.width .TIA_RANGE = 2 := rfl
@[simp] theorem width_SENSE_RATIO : Reg.width .SENSE_RATIO = 16 := rfl
@[simp] theorem width_IFS_MA : Reg.width .IFS_MA = 16 := rfl
@[simp] theorem width_CUR_LIMIT : Reg.width .CUR_LIMIT = 16 := rfl
@[simp] theorem width_RUN_CURRENT : Reg.width .RUN_CURRENT = 16 := rfl
@[simp] theorem width_HOLD_CURRENT : Reg.width .HOLD_CURRENT = 16 := rfl
@[simp] theorem width_HOLD_DELAY : Reg.width .HOLD_DELAY = 16 := rfl
@[simp] theorem width_HOLD_RAMP : Reg.width .HOLD_RAMP = 16 := rfl
@[simp] theorem width_CUR_BLANK : Reg.width .CUR_BLANK = 9 := rfl
@[simp] theorem width_T_SAMPLE : Reg.width .T_SAMPLE = 10 := rfl
@[simp] theorem width_WIN_ILK : Reg.width .WIN_ILK = 8 := rfl
@[simp] theorem width_HD_WIN_EVERY : Reg.width .HD_WIN_EVERY = 5 := rfl
@[simp] theorem width_CR_GAIN : Reg.width .CR_GAIN = 16 := rfl
@[simp] theorem width_CR_KI : Reg.width .CR_KI = 16 := rfl
@[simp] theorem width_NOSAMPLE_MAX : Reg.width .NOSAMPLE_MAX = 8 := rfl
@[simp] theorem width_SUM_TOL : Reg.width .SUM_TOL = 16 := rfl
@[simp] theorem width_HARM3_AMP : Reg.width .HARM3_AMP = 16 := rfl
@[simp] theorem width_HARM3_PH : Reg.width .HARM3_PH = 16 := rfl
@[simp] theorem width_HARM5_AMP : Reg.width .HARM5_AMP = 16 := rfl
@[simp] theorem width_HARM5_PH : Reg.width .HARM5_PH = 16 := rfl
@[simp] theorem width_ADAPT_EN : Reg.width .ADAPT_EN = 1 := rfl
@[simp] theorem width_RES_TARGET : Reg.width .RES_TARGET = 8 := rfl
@[simp] theorem width_RES_BAND : Reg.width .RES_BAND = 6 := rfl
@[simp] theorem width_ADAPT_FLOOR : Reg.width .ADAPT_FLOOR = 16 := rfl
@[simp] theorem width_BL_KP : Reg.width .BL_KP = 16 := rfl
@[simp] theorem width_BL_KI : Reg.width .BL_KI = 16 := rfl
@[simp] theorem width_HALL_OFS : Reg.width .HALL_OFS = 13 := rfl
@[simp] theorem width_HALL_INV : Reg.width .HALL_INV = 1 := rfl
@[simp] theorem width_WIND_R_NOM : Reg.width .WIND_R_NOM = 16 := rfl
@[simp] theorem width_WIND_L_NOM : Reg.width .WIND_L_NOM = 16 := rfl
@[simp] theorem width_CUR_MEAS_0 : Reg.width .CUR_MEAS_0 = 16 := rfl
@[simp] theorem width_CUR_MEAS_1 : Reg.width .CUR_MEAS_1 = 16 := rfl
@[simp] theorem width_CUR_MEAS_2 : Reg.width .CUR_MEAS_2 = 16 := rfl
@[simp] theorem width_CUR_AMP : Reg.width .CUR_AMP = 16 := rfl
@[simp] theorem width_ADAPT_FACT : Reg.width .ADAPT_FACT = 16 := rfl
@[simp] theorem width_REG_STAT : Reg.width .REG_STAT = 6 := rfl
@[simp] theorem width_VOLT_SAT : Reg.width .VOLT_SAT = 1 := rfl
@[simp] theorem width_WIN_REJ : Reg.width .WIN_REJ = 1 := rfl
@[simp] theorem width_SUM_ERR : Reg.width .SUM_ERR = 1 := rfl
@[simp] theorem width_OPEN_WIND : Reg.width .OPEN_WIND = 1 := rfl
@[simp] theorem width_SENSE_LOST : Reg.width .SENSE_LOST = 1 := rfl
@[simp] theorem width_CUR_PARAM_REJ : Reg.width .CUR_PARAM_REJ = 1 := rfl
@[simp] theorem width_NOSAMPLE : Reg.width .NOSAMPLE = 16 := rfl
@[simp] theorem width_WIN_LATE : Reg.width .WIN_LATE = 16 := rfl
@[simp] theorem width_VBUS_FF : Reg.width .VBUS_FF = 16 := rfl
@[simp] theorem width_D_WIN_RD : Reg.width .D_WIN_RD = 16 := rfl
@[simp] theorem width_LOAD_ANGLE : Reg.width .LOAD_ANGLE = 16 := rfl
@[simp] theorem width_RESERVE : Reg.width .RESERVE = 8 := rfl
@[simp] theorem width_OBS_MODE : Reg.width .OBS_MODE = 3 := rfl
@[simp] theorem width_OBS_STAT : Reg.width .OBS_STAT = 8 := rfl
@[simp] theorem width_STALL : Reg.width .STALL = 1 := rfl
@[simp] theorem width_SAL_LOW : Reg.width .SAL_LOW = 1 := rfl
@[simp] theorem width_R_RANGE : Reg.width .R_RANGE = 1 := rfl
@[simp] theorem width_PROBE_ABORT : Reg.width .PROBE_ABORT = 1 := rfl
@[simp] theorem width_VW_CAL_REJ : Reg.width .VW_CAL_REJ = 1 := rfl
@[simp] theorem width_OBS_PARAM_REJ : Reg.width .OBS_PARAM_REJ = 1 := rfl
@[simp] theorem width_STALL_ANGLE : Reg.width .STALL_ANGLE = 15 := rfl
@[simp] theorem width_STALL_COUNT : Reg.width .STALL_COUNT = 12 := rfl
@[simp] theorem width_STALL_ACTION : Reg.width .STALL_ACTION = 2 := rfl
@[simp] theorem width_EMF_COLLAPSE : Reg.width .EMF_COLLAPSE = 16 := rfl
@[simp] theorem width_OBS_VLOW : Reg.width .OBS_VLOW = 32 := rfl
@[simp] theorem width_INJ_EN : Reg.width .INJ_EN = 1 := rfl
@[simp] theorem width_INJ_STILL : Reg.width .INJ_STILL = 1 := rfl
@[simp] theorem width_OBS_USE_ENC : Reg.width .OBS_USE_ENC = 1 := rfl
@[simp] theorem width_INJ_VOLT : Reg.width .INJ_VOLT = 14 := rfl
@[simp] theorem width_SAL_MIN : Reg.width .SAL_MIN = 6 := rfl
@[simp] theorem width_SALIENCY : Reg.width .SALIENCY = 16 := rfl
@[simp] theorem width_PROBE_DELTA : Reg.width .PROBE_DELTA = 16 := rfl
@[simp] theorem width_PROBE_INT : Reg.width .PROBE_INT = 12 := rfl
@[simp] theorem width_R_EST : Reg.width .R_EST = 16 := rfl
@[simp] theorem width_L_EST : Reg.width .L_EST = 16 := rfl
@[simp] theorem width_EMF_EST : Reg.width .EMF_EST = 16 := rfl
@[simp] theorem width_KE_EST : Reg.width .KE_EST = 16 := rfl
@[simp] theorem width_POS_EST : Reg.width .POS_EST = 48 := rfl
@[simp] theorem width_VW_TEMP : Reg.width .VW_TEMP = 16 := rfl
@[simp] theorem width_VW_STATE : Reg.width .VW_STATE = 2 := rfl
@[simp] theorem width_VW_UNCAL : Reg.width .VW_UNCAL = 1 := rfl
@[simp] theorem width_VW_AGE : Reg.width .VW_AGE = 8 := rfl
@[simp] theorem width_VW_R25 : Reg.width .VW_R25 = 16 := rfl
@[simp] theorem width_VW_MAXAGE : Reg.width .VW_MAXAGE = 10 := rfl
@[simp] theorem width_VW_CAL_TREF : Reg.width .VW_CAL_TREF = 16 := rfl
@[simp] theorem width_VW_CAL : Reg.width .VW_CAL = 1 := rfl
@[simp] theorem width_STALL_CNT : Reg.width .STALL_CNT = 16 := rfl
@[simp] theorem width_PERIOD : Reg.width .PERIOD = 14 := rfl
@[simp] theorem width_DEAD_TIME : Reg.width .DEAD_TIME = 15 := rfl
@[simp] theorem width_DUTY : Reg.width .DUTY = 19 := rfl
@[simp] theorem width_CMP_B : Reg.width .CMP_B = 19 := rfl
@[simp] theorem width_GROUP : Reg.width .GROUP = 4 := rfl
@[simp] theorem width_REFRESH_LIMIT : Reg.width .REFRESH_LIMIT = 8 := rfl
@[simp] theorem width_REFRESH_WIDTH : Reg.width .REFRESH_WIDTH = 9 := rfl
@[simp] theorem width_TRIP_LIMIT : Reg.width .TRIP_LIMIT = 8 := rfl
@[simp] theorem width_PRESC_ZERO : Reg.width .PRESC_ZERO = 5 := rfl
@[simp] theorem width_RTSEQ_ZERO : Reg.width .RTSEQ_ZERO = 1 := rfl
@[simp] theorem width_RTCONV_ZERO : Reg.width .RTCONV_ZERO = 1 := rfl
@[simp] theorem width_CFG_PRD : Reg.width .CFG_PRD = 7 := rfl
@[simp] theorem width_CFG_CMPA : Reg.width .CFG_CMPA = 7 := rfl
@[simp] theorem width_CFG_CMPB : Reg.width .CFG_CMPB = 7 := rfl
@[simp] theorem width_MON_BLANK : Reg.width .MON_BLANK = 9 := rfl
@[simp] theorem width_PWM_EN : Reg.width .PWM_EN = 1 := rfl
@[simp] theorem width_TRIP_CLR : Reg.width .TRIP_CLR = 1 := rfl
@[simp] theorem width_LOAD_ALL : Reg.width .LOAD_ALL = 1 := rfl
@[simp] theorem width_TRIP_ACTIVE : Reg.width .TRIP_ACTIVE = 1 := rfl
@[simp] theorem width_TRIP_LATCH : Reg.width .TRIP_LATCH = 1 := rfl
@[simp] theorem width_FULL_NOW : Reg.width .FULL_NOW = 1 := rfl
@[simp] theorem width_PRD_BUDGET : Reg.width .PRD_BUDGET = 1 := rfl
@[simp] theorem width_LOAD_PEND : Reg.width .LOAD_PEND = 1 := rfl
@[simp] theorem width_DUTY_CLAMP : Reg.width .DUTY_CLAMP = 1 := rfl
@[simp] theorem width_TRIP_SEEN : Reg.width .TRIP_SEEN = 1 := rfl
@[simp] theorem width_LOAD_REJ : Reg.width .LOAD_REJ = 1 := rfl
@[simp] theorem width_GRP_REJ : Reg.width .GRP_REJ = 1 := rfl
@[simp] theorem width_TRIP_RUN : Reg.width .TRIP_RUN = 8 := rfl
@[simp] theorem width_TRIP_TOTAL : Reg.width .TRIP_TOTAL = 16 := rfl
@[simp] theorem width_TRIP_CLR_REF : Reg.width .TRIP_CLR_REF = 16 := rfl
@[simp] theorem width_REFRESH_CNT : Reg.width .REFRESH_CNT = 16 := rfl
@[simp] theorem width_MON_SKIP : Reg.width .MON_SKIP = 16 := rfl
@[simp] theorem width_PWM_EVT_LOST : Reg.width .PWM_EVT_LOST = 16 := rfl
@[simp] theorem width_REFRESH_RUN : Reg.width .REFRESH_RUN = 8 := rfl
@[simp] theorem width_PERIOD_DEV : Reg.width .PERIOD_DEV = 14 := rfl
@[simp] theorem width_DEAD_DEV : Reg.width .DEAD_DEV = 15 := rfl
@[simp] theorem width_CMP_DEV : Reg.width .CMP_DEV = 32 := rfl
@[simp] theorem width_LOAD_ALL_GRP : Reg.width .LOAD_ALL_GRP = 16 := rfl
@[simp] theorem width_LOAD_PEND_GRP : Reg.width .LOAD_PEND_GRP = 16 := rfl
@[simp] theorem width_TRIGO_PORT : Reg.width .TRIGO_PORT = 5 := rfl
@[simp] theorem width_TRIGO_SRC : Reg.width .TRIGO_SRC = 2 := rfl
@[simp] theorem width_TRIGO_PWM_EN : Reg.width .TRIGO_PWM_EN = 1 := rfl
@[simp] theorem width_TRIGO_PW : Reg.width .TRIGO_PW = 8 := rfl
@[simp] theorem width_SRC_STEP : Reg.width .SRC_STEP = 3 := rfl
@[simp] theorem width_SNK_STEP : Reg.width .SNK_STEP = 3 := rfl
@[simp] theorem width_SC_THR : Reg.width .SC_THR = 4 := rfl
@[simp] theorem width_SC_BLANK : Reg.width .SC_BLANK = 3 := rfl
@[simp] theorem width_LSP_SHORT : Reg.width .LSP_SHORT = 1 := rfl
@[simp] theorem width_HSP_SHORT : Reg.width .HSP_SHORT = 1 := rfl
@[simp] theorem width_BST_UV : Reg.width .BST_UV = 1 := rfl
@[simp] theorem width_GD_LATCH : Reg.width .GD_LATCH = 1 := rfl
@[simp] theorem width_GD_CAUSE : Reg.width .GD_CAUSE = 8 := rfl
@[simp] theorem width_SC_SEEN : Reg.width .SC_SEEN = 1 := rfl
@[simp] theorem width_ILK_TO : Reg.width .ILK_TO = 1 := rfl
@[simp] theorem width_BST_UV_SEEN : Reg.width .BST_UV_SEEN = 1 := rfl
@[simp] theorem width_GD_CLR_REF : Reg.width .GD_CLR_REF = 1 := rfl
@[simp] theorem width_GD_CLR : Reg.width .GD_CLR = 1 := rfl
@[simp] theorem width_ILK_MAX_CLR : Reg.width .ILK_MAX_CLR = 1 := rfl
@[simp] theorem width_BST_UV_CNT : Reg.width .BST_UV_CNT = 16 := rfl
@[simp] theorem width_ILK_WAIT_MAX : Reg.width .ILK_WAIT_MAX = 16 := rfl
@[simp] theorem width_VDRV_OK : Reg.width .VDRV_OK = 1 := rfl
@[simp] theorem width_DIE_OT : Reg.width .DIE_OT = 1 := rfl
@[simp] theorem width_HARD_OV : Reg.width .HARD_OV = 1 := rfl
@[simp] theorem width_HARD_COAST : Reg.width .HARD_COAST = 1 := rfl
@[simp] theorem width_VDRV_UV_SEEN : Reg.width .VDRV_UV_SEEN = 1 := rfl
@[simp] theorem width_HB_LOST : Reg.width .HB_LOST = 1 := rfl
@[simp] theorem width_DIE_OT_SEEN : Reg.width .DIE_OT_SEEN = 1 := rfl
@[simp] theorem width_HARD_OV_SEEN : Reg.width .HARD_OV_SEEN = 1 := rfl
@[simp] theorem width_VDRV_MV : Reg.width .VDRV_MV = 16 := rfl
@[simp] theorem width_HS_HOLD_MAX : Reg.width .HS_HOLD_MAX = 10 := rfl
@[simp] theorem width_GD_APPLY : Reg.width .GD_APPLY = 1 := rfl
@[simp] theorem width_VDRV_UV_CNT : Reg.width .VDRV_UV_CNT = 16 := rfl
@[simp] theorem width_HB_LOST_CNT : Reg.width .HB_LOST_CNT = 16 := rfl
@[simp] theorem width_VBUS_LOW : Reg.width .VBUS_LOW = 10 := rfl
@[simp] theorem width_VBUS_BRAKE : Reg.width .VBUS_BRAKE = 10 := rfl
@[simp] theorem width_VBUS_OV : Reg.width .VBUS_OV = 10 := rfl
@[simp] theorem width_BRAKE_HYST : Reg.width .BRAKE_HYST = 6 := rfl
@[simp] theorem width_BRAKE_PORT : Reg.width .BRAKE_PORT = 5 := rfl
@[simp] theorem width_BRAKE_EN : Reg.width .BRAKE_EN = 1 := rfl
@[simp] theorem width_RT_LIMIT : Reg.width .RT_LIMIT = 16 := rfl
@[simp] theorem width_RT_STOP_MS : Reg.width .RT_STOP_MS = 16 := rfl
@[simp] theorem width_VBUS_MV : Reg.width .VBUS_MV = 32 := rfl
@[simp] theorem width_BUS_STAT : Reg.width .BUS_STAT = 5 := rfl
@[simp] theorem width_BUS_SEEN : Reg.width .BUS_SEEN = 5 := rfl
@[simp] theorem width_THR_REJ : Reg.width .THR_REJ = 1 := rfl
@[simp] theorem width_BRAKE_REJ : Reg.width .BRAKE_REJ = 1 := rfl
@[simp] theorem width_BUS_COAST_CNT : Reg.width .BUS_COAST_CNT = 16 := rfl
@[simp] theorem width_BRAKE_CNT : Reg.width .BRAKE_CNT = 16 := rfl
@[simp] theorem width_BUS_OV_CNT : Reg.width .BUS_OV_CNT = 16 := rfl
@[simp] theorem width_SB_CMD : Reg.width .SB_CMD = 8 := rfl
@[simp] theorem width_RIDE_THROUGH : Reg.width .RIDE_THROUGH = 1 := rfl
@[simp] theorem width_SB_END : Reg.width .SB_END = 1 := rfl
@[simp] theorem width_SB_STILL : Reg.width .SB_STILL = 16 := rfl
@[simp] theorem width_SB_STATE : Reg.width .SB_STATE = 2 := rfl
@[simp] theorem width_SB_SCOPE : Reg.width .SB_SCOPE = 2 := rfl
@[simp] theorem width_SB_CAUSE : Reg.width .SB_CAUSE = 8 := rfl
@[simp] theorem width_PWR_STATE : Reg.width .PWR_STATE = 4 := rfl
@[simp] theorem width_SB_CNT : Reg.width .SB_CNT = 16 := rfl
@[simp] theorem width_CH_MODE : Reg.width .CH_MODE = 2 := rfl
@[simp] theorem width_ENC_INV : Reg.width .ENC_INV = 1 := rfl
@[simp] theorem width_Z_POL : Reg.width .Z_POL = 1 := rfl
@[simp] theorem width_Z_GATE : Reg.width .Z_GATE = 1 := rfl
@[simp] theorem width_ENC_N : Reg.width .ENC_N = 4 := rfl
@[simp] theorem width_ENC_CLK : Reg.width .ENC_CLK = 2 := rfl
@[simp] theorem width_SW_N : Reg.width .SW_N = 4 := rfl
@[simp] theorem width_SW_CLK : Reg.width .SW_CLK = 2 := rfl
@[simp] theorem width_SD_N : Reg.width .SD_N = 4 := rfl
@[simp] theorem width_SD_CLK : Reg.width .SD_CLK = 2 := rfl
@[simp] theorem width_SPD_WIN : Reg.width .SPD_WIN = 4 := rfl
@[simp] theorem width_STILL_WINDOWS : Reg.width .STILL_WINDOWS = 8 := rfl
@[simp] theorem width_ILLEGAL_LIMIT : Reg.width .ILLEGAL_LIMIT = 8 := rfl
@[simp] theorem width_ENC_POS : Reg.width .ENC_POS = 48 := rfl
@[simp] theorem width_ENC_RATIO : Reg.width .ENC_RATIO = 32 := rfl
@[simp] theorem width_FB_SOFTLIM_LO : Reg.width .FB_SOFTLIM_LO = 48 := rfl
@[simp] theorem width_FB_SOFTLIM_HI : Reg.width .FB_SOFTLIM_HI = 48 := rfl
@[simp] theorem width_ACT_POS : Reg.width .ACT_POS = 48 := rfl
@[simp] theorem width_ENC_SPEED : Reg.width .ENC_SPEED = 32 := rfl
@[simp] theorem width_FB_STAT : Reg.width .FB_STAT = 11 := rfl
@[simp] theorem width_FB_FLAGS : Reg.width .FB_FLAGS = 5 := rfl
@[simp] theorem width_ILLEGAL_COUNT : Reg.width .ILLEGAL_COUNT = 16 := rfl
@[simp] theorem width_HALL_SKIP : Reg.width .HALL_SKIP = 16 := rfl
@[simp] theorem width_ENC_FAULT_CLR : Reg.width .ENC_FAULT_CLR = 1 := rfl
@[simp] theorem width_ENC_ALIGN : Reg.width .ENC_ALIGN = 1 := rfl
@[simp] theorem width_CAP_ARM : Reg.width .CAP_ARM = 1 := rfl
@[simp] theorem width_CAP_Z : Reg.width .CAP_Z = 1 := rfl
@[simp] theorem width_CAP_HOME : Reg.width .CAP_HOME = 2 := rfl
@[simp] theorem width_CAP_LIMN : Reg.width .CAP_LIMN = 2 := rfl
@[simp] theorem width_CAP_LIMP : Reg.width .CAP_LIMP = 2 := rfl
@[simp] theorem width_CAP_ONESHOT : Reg.width .CAP_ONESHOT = 1 := rfl
@[simp] theorem width_CAP_TRIGO : Reg.width .CAP_TRIGO = 4 := rfl
@[simp] theorem width_CAP_SEGTRIG : Reg.width .CAP_SEGTRIG = 1 := rfl
@[simp] theorem width_FE : Reg.width .FE = 32 := rfl
@[simp] theorem width_FE_LIMIT : Reg.width .FE_LIMIT = 32 := rfl
@[simp] theorem width_FE_TIME : Reg.width .FE_TIME = 16 := rfl
@[simp] theorem width_ALIGN_MS : Reg.width .ALIGN_MS = 10 := rfl
@[simp] theorem width_CS_T : Reg.width .CS_T = 64 := rfl
@[simp] theorem width_CS_PEND : Reg.width .CS_PEND = 1 := rfl
@[simp] theorem width_CS_REJ : Reg.width .CS_REJ = 1 := rfl
@[simp] theorem width_CS_LOST : Reg.width .CS_LOST = 1 := rfl
@[simp] theorem width_CS_DONE : Reg.width .CS_DONE = 1 := rfl
@[simp] theorem width_CS_CANCEL : Reg.width .CS_CANCEL = 1 := rfl
@[simp] theorem width_CS_COUNT : Reg.width .CS_COUNT = 16 := rfl
@[simp] theorem width_CONV_STATE : Reg.width .CONV_STATE = 3 := rfl
@[simp] theorem width_CONV_EPOCH : Reg.width .CONV_EPOCH = 4 := rfl
@[simp] theorem width_STRIKES : Reg.width .STRIKES = 2 := rfl
@[simp] theorem width_CAL_OFS : Reg.width .CAL_OFS = 16 := rfl
@[simp] theorem width_CAL_GAIN : Reg.width .CAL_GAIN = 16 := rfl
@[simp] theorem width_CAL_START : Reg.width .CAL_START = 1 := rfl
@[simp] theorem width_CHK_FAIL_SEEN : Reg.width .CHK_FAIL_SEEN = 1 := rfl
@[simp] theorem width_RETIRED_SEEN : Reg.width .RETIRED_SEEN = 1 := rfl
@[simp] theorem width_CAL_REJ : Reg.width .CAL_REJ = 1 := rfl
@[simp] theorem width_CAL_FAIL_SEEN : Reg.width .CAL_FAIL_SEEN = 1 := rfl
@[simp] theorem width_CHK_LAST_DEV : Reg.width .CHK_LAST_DEV = 16 := rfl
@[simp] theorem width_Q8_DECIM : Reg.width .Q8_DECIM = 8 := rfl
@[simp] theorem width_INJ_DROP : Reg.width .INJ_DROP = 16 := rfl
@[simp] theorem width_SETTLE_CNT : Reg.width .SETTLE_CNT = 16 := rfl
@[simp] theorem width_ABORT_CNT : Reg.width .ABORT_CNT = 16 := rfl
@[simp] theorem width_CHK_SKIP : Reg.width .CHK_SKIP = 16 := rfl
@[simp] theorem width_SYS_OFS_A : Reg.width .SYS_OFS_A = 16 := rfl
@[simp] theorem width_SYS_GAIN_A : Reg.width .SYS_GAIN_A = 16 := rfl
@[simp] theorem width_SYS_OFS_B : Reg.width .SYS_OFS_B = 16 := rfl
@[simp] theorem width_SYS_GAIN_B : Reg.width .SYS_GAIN_B = 16 := rfl
@[simp] theorem width_CH_EN : Reg.width .CH_EN = 1 := rfl
@[simp] theorem width_CH_COPY : Reg.width .CH_COPY = 1 := rfl
@[simp] theorem width_FMT : Reg.width .FMT = 2 := rfl
@[simp] theorem width_AVG_N : Reg.width .AVG_N = 4 := rfl
@[simp] theorem width_SHIFT : Reg.width .SHIFT = 4 := rfl
@[simp] theorem width_DIFF : Reg.width .DIFF = 1 := rfl
@[simp] theorem width_CH_REJ : Reg.width .CH_REJ = 1 := rfl
@[simp] theorem width_CH_VAL : Reg.width .CH_VAL = 16 := rfl
@[simp] theorem width_AIN_SYS_OFS : Reg.width .AIN_SYS_OFS = 16 := rfl
@[simp] theorem width_AIN_SYS_GAIN : Reg.width .AIN_SYS_GAIN = 16 := rfl
@[simp] theorem width_CHECK_TOL : Reg.width .CHECK_TOL = 10 := rfl
@[simp] theorem width_AADC_CHECK_TOL : Reg.width .AADC_CHECK_TOL = 16 := rfl
@[simp] theorem width_CAL_INTERVAL : Reg.width .CAL_INTERVAL = 12 := rfl
@[simp] theorem width_CADC_RET : Reg.width .CADC_RET = 16 := rfl
@[simp] theorem width_AADC_RET : Reg.width .AADC_RET = 2 := rfl
@[simp] theorem width_PAIR_SUSPECT : Reg.width .PAIR_SUSPECT = 8 := rfl
@[simp] theorem width_CHK_REF_FAIL : Reg.width .CHK_REF_FAIL = 9 := rfl
@[simp] theorem width_CAL_DEFER : Reg.width .CAL_DEFER = 16 := rfl
@[simp] theorem width_RETIRE_CNT : Reg.width .RETIRE_CNT = 16 := rfl
@[simp] theorem width_SYSCAL_TARGET : Reg.width .SYSCAL_TARGET = 16 := rfl
@[simp] theorem width_SYSCAL_CH : Reg.width .SYSCAL_CH = 7 := rfl
@[simp] theorem width_SYSCAL_ZERO : Reg.width .SYSCAL_ZERO = 1 := rfl
@[simp] theorem width_SYSCAL_REF : Reg.width .SYSCAL_REF = 1 := rfl
@[simp] theorem width_SYSCAL_REJ : Reg.width .SYSCAL_REJ = 1 := rfl
@[simp] theorem width_SYSCAL_WHY : Reg.width .SYSCAL_WHY = 4 := rfl
@[simp] theorem width_SNS_EN : Reg.width .SNS_EN = 1 := rfl
@[simp] theorem width_TH_TABLE : Reg.width .TH_TABLE = 1 := rfl
@[simp] theorem width_T_LIM : Reg.width .T_LIM = 16 := rfl
@[simp] theorem width_THM_AXES : Reg.width .THM_AXES = 8 := rfl
@[simp] theorem width_NB0 : Reg.width .NB0 = 6 := rfl
@[simp] theorem width_NB1 : Reg.width .NB1 = 6 := rfl
@[simp] theorem width_NB2 : Reg.width .NB2 = 6 := rfl
@[simp] theorem width_NB_LO0 : Reg.width .NB_LO0 = 16 := rfl
@[simp] theorem width_NB_LO1 : Reg.width .NB_LO1 = 16 := rfl
@[simp] theorem width_NB_LO2 : Reg.width .NB_LO2 = 16 := rfl
@[simp] theorem width_NB_HI0 : Reg.width .NB_HI0 = 16 := rfl
@[simp] theorem width_NB_HI1 : Reg.width .NB_HI1 = 16 := rfl
@[simp] theorem width_NB_HI2 : Reg.width .NB_HI2 = 16 := rfl
@[simp] theorem width_RATE_MAX : Reg.width .RATE_MAX = 8 := rfl
@[simp] theorem width_TEMP : Reg.width .TEMP = 16 := rfl
@[simp] theorem width_RAW : Reg.width .RAW = 16 := rfl
@[simp] theorem width_SNS_STATE : Reg.width .SNS_STATE = 3 := rfl
@[simp] theorem width_SCAN_RATE : Reg.width .SCAN_RATE = 2 := rfl
@[simp] theorem width_LAST_CAUSE : Reg.width .LAST_CAUSE = 3 := rfl
@[simp] theorem width_FAIL_SEEN : Reg.width .FAIL_SEEN = 1 := rfl
@[simp] theorem width_TH_TAB_REJ : Reg.width .TH_TAB_REJ = 1 := rfl
@[simp] theorem width_THM_PARAM_REJ : Reg.width .THM_PARAM_REJ = 1 := rfl
@[simp] theorem width_FAIL_CNT : Reg.width .FAIL_CNT = 16 := rfl
@[simp] theorem width_TD_ETA : Reg.width .TD_ETA = 13 := rfl
@[simp] theorem width_TD_RS : Reg.width .TD_RS = 16 := rfl
@[simp] theorem width_TH_BETA : Reg.width .TH_BETA = 16 := rfl
@[simp] theorem width_TH_R25 : Reg.width .TH_R25 = 16 := rfl
@[simp] theorem width_TH_RPU : Reg.width .TH_RPU = 16 := rfl
@[simp] theorem width_NEAR_BAND : Reg.width .NEAR_BAND = 6 := rfl
@[simp] theorem width_CLOSE_BAND : Reg.width .CLOSE_BAND = 6 := rfl
@[simp] theorem width_THR_INTERVAL : Reg.width .THR_INTERVAL = 10 := rfl
@[simp] theorem width_THR_FLOOR : Reg.width .THR_FLOOR = 4 := rfl
@[simp] theorem width_THR_HOLD : Reg.width .THR_HOLD = 10 := rfl
@[simp] theorem width_GD_BUDGET : Reg.width .GD_BUDGET = 12 := rfl
@[simp] theorem width_GD_EST : Reg.width .GD_EST = 16 := rfl
@[simp] theorem width_BUDGET_ACT : Reg.width .BUDGET_ACT = 1 := rfl
@[simp] theorem width_BUDGET_OVER : Reg.width .BUDGET_OVER = 1 := rfl
@[simp] theorem width_THR_STEP : Reg.width .THR_STEP = 5 := rfl
@[simp] theorem width_THR_FROZEN : Reg.width .THR_FROZEN = 1 := rfl
@[simp] theorem width_THR_HOLDING : Reg.width .THR_HOLDING = 1 := rfl
@[simp] theorem width_THR_AT_FLOOR : Reg.width .THR_AT_FLOOR = 1 := rfl
@[simp] theorem width_THR_SEEN : Reg.width .THR_SEEN = 1 := rfl
@[simp] theorem width_THR_LIMIT : Reg.width .THR_LIMIT = 16 := rfl
@[simp] theorem width_QG_NC : Reg.width .QG_NC = 9 := rfl
@[simp] theorem width_RED_LOST : Reg.width .RED_LOST = 5 := rfl
@[simp] theorem width_ABSORBED : Reg.width .ABSORBED = 16 := rfl
@[simp] theorem width_STALE_DROP : Reg.width .STALE_DROP = 16 := rfl
@[simp] theorem width_ECC_CORR : Reg.width .ECC_CORR = 16 := rfl
@[simp] theorem width_ECC_UNCORR : Reg.width .ECC_UNCORR = 16 := rfl
@[simp] theorem width_STRIP_RUN : Reg.width .STRIP_RUN = 16 := rfl
@[simp] theorem width_STRIP_MISMATCH : Reg.width .STRIP_MISMATCH = 16 := rfl
@[simp] theorem width_VOTE_SPLIT : Reg.width .VOTE_SPLIT = 16 := rfl
@[simp] theorem width_MIGRATIONS : Reg.width .MIGRATIONS = 16 := rfl
@[simp] theorem width_COLD_TAKE : Reg.width .COLD_TAKE = 16 := rfl
@[simp] theorem width_ENG_DEAD : Reg.width .ENG_DEAD = 16 := rfl
@[simp] theorem width_SEQ_RESTARTS : Reg.width .SEQ_RESTARTS = 16 := rfl
@[simp] theorem width_SEQ_WD_CNT : Reg.width .SEQ_WD_CNT = 16 := rfl
@[simp] theorem width_DOM_RESTARTS : Reg.width .DOM_RESTARTS = 16 := rfl
@[simp] theorem width_CAN_LOSS : Reg.width .CAN_LOSS = 16 := rfl
@[simp] theorem width_SEQ_NOPATCH : Reg.width .SEQ_NOPATCH = 1 := rfl
@[simp] theorem width_MIG_REJ : Reg.width .MIG_REJ = 1 := rfl
@[simp] theorem width_STRIP_INT : Reg.width .STRIP_INT = 10 := rfl
@[simp] theorem width_STRIP_SLOT : Reg.width .STRIP_SLOT = 3 := rfl
@[simp] theorem width_STRIP_ACTIVE : Reg.width .STRIP_ACTIVE = 1 := rfl
@[simp] theorem width_DEAD_MAP : Reg.width .DEAD_MAP = 10 := rfl
@[simp] theorem width_VOTE_LOST_MAP : Reg.width .VOTE_LOST_MAP = 10 := rfl
@[simp] theorem width_MIGRATE : Reg.width .MIGRATE = 8 := rfl
@[simp] theorem width_LINK_EN : Reg.width .LINK_EN = 1 := rfl
@[simp] theorem width_LINK_RESTART : Reg.width .LINK_RESTART = 1 := rfl
@[simp] theorem width_ROLE_ACT : Reg.width .ROLE_ACT = 1 := rfl
@[simp] theorem width_LINK_STATE : Reg.width .LINK_STATE = 3 := rfl
@[simp] theorem width_RING_POS : Reg.width .RING_POS = 5 := rfl
@[simp] theorem width_RING_SIZE : Reg.width .RING_SIZE = 6 := rfl
@[simp] theorem width_OWN_EPOCH : Reg.width .OWN_EPOCH = 4 := rfl
@[simp] theorem width_RING_EXPECT : Reg.width .RING_EXPECT = 6 := rfl
@[simp] theorem width_TIME_ERR : Reg.width .TIME_ERR = 16 := rfl
@[simp] theorem width_FREQ_TRIM : Reg.width .FREQ_TRIM = 16 := rfl
@[simp] theorem width_RING_OFS : Reg.width .RING_OFS = 64 := rfl
@[simp] theorem width_LANE_OK : Reg.width .LANE_OK = 4 := rfl
@[simp] theorem width_LINK_FLAGS : Reg.width .LINK_FLAGS = 5 := rfl
@[simp] theorem width_CRC_ERR : Reg.width .CRC_ERR = 16 := rfl
@[simp] theorem width_FENCE_CNT : Reg.width .FENCE_CNT = 16 := rfl
@[simp] theorem width_FENCE_ACTION : Reg.width .FENCE_ACTION = 1 := rfl
@[simp] theorem width_FRAME_BYTES : Reg.width .FRAME_BYTES = 11 := rfl
@[simp] theorem width_AX_DN : Reg.width .AX_DN = 2 := rfl
@[simp] theorem width_AX_UP : Reg.width .AX_UP = 2 := rfl
@[simp] theorem width_DEV_STATE : Reg.width .DEV_STATE = 3 := rfl
@[simp] theorem width_DEV_EPOCH : Reg.width .DEV_EPOCH = 4 := rfl
@[simp] theorem width_DEV_LANES : Reg.width .DEV_LANES = 2 := rfl
@[simp] theorem width_ACC_RING : Reg.width .ACC_RING = 1 := rfl
@[simp] theorem width_MBX_IN : Reg.width .MBX_IN = 32 := rfl
@[simp] theorem width_MBX_OUT : Reg.width .MBX_OUT = 32 := rfl
@[simp] theorem width_OUT_READY : Reg.width .OUT_READY = 1 := rfl
@[simp] theorem width_IN_FULL : Reg.width .IN_FULL = 1 := rfl
@[simp] theorem width_IN_DROP : Reg.width .IN_DROP = 1 := rfl
@[simp] theorem width_OUT_TIMEOUT : Reg.width .OUT_TIMEOUT = 1 := rfl
@[simp] theorem width_CLAIMED : Reg.width .CLAIMED = 1 := rfl
@[simp] theorem width_SESS_OPEN : Reg.width .SESS_OPEN = 1 := rfl
@[simp] theorem width_SESS_ROLE : Reg.width .SESS_ROLE = 2 := rfl
@[simp] theorem width_SESS_PATH : Reg.width .SESS_PATH = 2 := rfl
@[simp] theorem width_SAFE_BOOT : Reg.width .SAFE_BOOT = 1 := rfl
@[simp] theorem width_PROF_ACTIVE : Reg.width .PROF_ACTIVE = 3 := rfl
@[simp] theorem width_PROF_TARGET : Reg.width .PROF_TARGET = 3 := rfl
@[simp] theorem width_PROF_SWITCHING : Reg.width .PROF_SWITCHING = 1 := rfl
@[simp] theorem width_PROF_WAIT : Reg.width .PROF_WAIT = 8 := rfl
@[simp] theorem width_PROF_VALID : Reg.width .PROF_VALID = 4 := rfl
@[simp] theorem width_SVC_HOURS : Reg.width .SVC_HOURS = 32 := rfl
@[simp] theorem width_PATCH_LEVEL : Reg.width .PATCH_LEVEL = 16 := rfl
@[simp] theorem width_ROLLBACK_MIN : Reg.width .ROLLBACK_MIN = 16 := rfl
@[simp] theorem width_PATCH_STATE : Reg.width .PATCH_STATE = 2 := rfl
@[simp] theorem width_CLAIM_CNT : Reg.width .CLAIM_CNT = 16 := rfl
@[simp] theorem width_LAST_REFUSAL : Reg.width .LAST_REFUSAL = 8 := rfl
@[simp] theorem width_REFUSALS : Reg.width .REFUSALS = 16 := rfl
@[simp] theorem width_STAGED : Reg.width .STAGED = 7 := rfl
@[simp] theorem width_AUDIT_HEAD : Reg.width .AUDIT_HEAD = 10 := rfl
@[simp] theorem width_AUDIT_WRAPS : Reg.width .AUDIT_WRAPS = 16 := rfl
@[simp] theorem width_BOOT_STAGE : Reg.width .BOOT_STAGE = 4 := rfl
@[simp] theorem width_BOOT_DONE : Reg.width .BOOT_DONE = 1 := rfl
@[simp] theorem width_TB_NOREF : Reg.width .TB_NOREF = 1 := rfl
@[simp] theorem width_VANA_WAIT : Reg.width .VANA_WAIT = 1 := rfl
@[simp] theorem width_RESET_CAUSE : Reg.width .RESET_CAUSE = 5 := rfl
@[simp] theorem width_BOOT_TIME : Reg.width .BOOT_TIME = 16 := rfl
@[simp] theorem width_DOM_ON : Reg.width .DOM_ON = 12 := rfl
@[simp] theorem width_DOM_OFF_REQ : Reg.width .DOM_OFF_REQ = 12 := rfl
@[simp] theorem width_DOM_REJ : Reg.width .DOM_REJ = 1 := rfl
@[simp] theorem width_DOM_REJ_CODE : Reg.width .DOM_REJ_CODE = 4 := rfl
@[simp] theorem width_DOM_BUSY : Reg.width .DOM_BUSY = 12 := rfl
@[simp] theorem width_EVENT_SEQ : Reg.width .EVENT_SEQ = 4 := rfl
@[simp] theorem width_ANS_ABORT : Reg.width .ANS_ABORT = 32 := rfl
@[simp] theorem width_TB_RUNNING : Reg.width .TB_RUNNING = 1 := rfl
@[simp] theorem width_TICK_LAST : Reg.width .TICK_LAST = 64 := rfl
@[simp] theorem width_PORT_ROLE : Reg.width .PORT_ROLE = 8 := rfl
@[simp] theorem width_SLOT_KIND : Reg.width .SLOT_KIND = 8 := rfl
@[simp] theorem width_MAP_CODE : Reg.width .MAP_CODE = 8 := rfl
@[simp] theorem width_MAP_PORT : Reg.width .MAP_PORT = 8 := rfl
@[simp] theorem width_MAP_SLOT : Reg.width .MAP_SLOT = 8 := rfl
@[simp] theorem width_MAP_WAIT : Reg.width .MAP_WAIT = 8 := rfl
@[simp] theorem width_MAP_WAIT_X : Reg.width .MAP_WAIT_X = 32 := rfl
@[simp] theorem width_MAP_ROLE : Reg.width .MAP_ROLE = 8 := rfl
@[simp] theorem width_MAP_KIND : Reg.width .MAP_KIND = 8 := rfl
@[simp] theorem width_MAP_GROUP : Reg.width .MAP_GROUP = 4 := rfl
@[simp] theorem width_BANK_SPLIT : Reg.width .BANK_SPLIT = 8 := rfl
@[simp] theorem width_ENG_STATE : Reg.width .ENG_STATE = 8 := rfl
@[simp] theorem width_DRIVE_STATE : Reg.width .DRIVE_STATE = 3 := rfl
@[simp] theorem width_MODE : Reg.width .MODE = 8 := rfl
@[simp] theorem width_MODE_DISP : Reg.width .MODE_DISP = 8 := rfl
@[simp] theorem width_DEV_MODE : Reg.width .DEV_MODE = 8 := rfl
@[simp] theorem width_EV_P : Reg.width .EV_P = 64 := rfl
@[simp] theorem width_EV_V : Reg.width .EV_V = 64 := rfl
@[simp] theorem width_EV_T : Reg.width .EV_T = 64 := rfl
@[simp] theorem width_OUT_P : Reg.width .OUT_P = 64 := rfl
@[simp] theorem width_OUT_V : Reg.width .OUT_V = 64 := rfl
@[simp] theorem width_HOME_SHIFT : Reg.width .HOME_SHIFT = 64 := rfl
@[simp] theorem width_TAIL_P : Reg.width .TAIL_P = 64 := rfl
@[simp] theorem width_TAIL_V : Reg.width .TAIL_V = 64 := rfl
@[simp] theorem width_SEG_DISCARDING : Reg.width .SEG_DISCARDING = 1 := rfl
@[simp] theorem width_FETCH_PTR : Reg.width .FETCH_PTR = 15 := rfl
@[simp] theorem width_ARRIVAL : Reg.width .ARRIVAL = 64 := rfl
@[simp] theorem width_GO_SEEN : Reg.width .GO_SEEN = 1 := rfl
@[simp] theorem width_GO_START : Reg.width .GO_START = 64 := rfl
@[simp] theorem width_GO_T : Reg.width .GO_T = 64 := rfl
@[simp] theorem width_AHEAD_ARMED : Reg.width .AHEAD_ARMED = 1 := rfl
@[simp] theorem width_VEL_POSTED : Reg.width .VEL_POSTED = 1 := rfl
@[simp] theorem width_SOFT_IN : Reg.width .SOFT_IN = 1 := rfl
@[simp] theorem width_STILL_CMD : Reg.width .STILL_CMD = 1 := rfl
@[simp] theorem width_TGT_P : Reg.width .TGT_P = 64 := rfl
@[simp] theorem width_TGT_SET : Reg.width .TGT_SET = 1 := rfl
@[simp] theorem width_TGT_NEW : Reg.width .TGT_NEW = 1 := rfl
@[simp] theorem width_MODE_ENTRY : Reg.width .MODE_ENTRY = 1 := rfl
@[simp] theorem width_LIM_PLAN : Reg.width .LIM_PLAN = 2 := rfl
@[simp] theorem width_BLOCK_SEEN : Reg.width .BLOCK_SEEN = 3 := rfl
@[simp] theorem width_SP_FULL : Reg.width .SP_FULL = 1 := rfl
@[simp] theorem width_SP_P : Reg.width .SP_P = 64 := rfl
@[simp] theorem width_SP_V : Reg.width .SP_V = 32 := rfl
@[simp] theorem width_SP_ACK : Reg.width .SP_ACK = 1 := rfl
@[simp] theorem width_DEFER_POSTED : Reg.width .DEFER_POSTED = 1 := rfl
@[simp] theorem width_PASS_V : Reg.width .PASS_V = 32 := rfl
@[simp] theorem width_STOP_RATE : Reg.width .STOP_RATE = 32 := rfl
@[simp] theorem width_STOP_REQ : Reg.width .STOP_REQ = 4 := rfl
@[simp] theorem width_STOP_REQ_RATE : Reg.width .STOP_REQ_RATE = 32 := rfl
@[simp] theorem width_STOP_REQ_SCURVE : Reg.width .STOP_REQ_SCURVE = 1 := rfl
@[simp] theorem width_HALTED : Reg.width .HALTED = 1 := rfl
@[simp] theorem width_AFTER_STOP : Reg.width .AFTER_STOP = 4 := rfl
@[simp] theorem width_TR_SINCE : Reg.width .TR_SINCE = 64 := rfl
@[simp] theorem width_TR_IN : Reg.width .TR_IN = 1 := rfl
@[simp] theorem width_TARGET_REACHED : Reg.width .TARGET_REACHED = 1 := rfl
@[simp] theorem width_TARGET_POS : Reg.width .TARGET_POS = 32 := rfl
@[simp] theorem width_HOME_OFFSET : Reg.width .HOME_OFFSET = 32 := rfl
@[simp] theorem width_HALT_OPTION : Reg.width .HALT_OPTION = 16 := rfl
@[simp] theorem width_POS_WINDOW : Reg.width .POS_WINDOW = 32 := rfl
@[simp] theorem width_POS_WINDOW_TIME : Reg.width .POS_WINDOW_TIME = 16 := rfl
@[simp] theorem width_VEL_WINDOW : Reg.width .VEL_WINDOW = 32 := rfl
@[simp] theorem width_VEL_WINDOW_TIME : Reg.width .VEL_WINDOW_TIME = 16 := rfl
@[simp] theorem width_MAX_PROFILE_VEL : Reg.width .MAX_PROFILE_VEL = 32 := rfl
@[simp] theorem width_PROFILE_VEL : Reg.width .PROFILE_VEL = 32 := rfl
@[simp] theorem width_PROFILE_ACC : Reg.width .PROFILE_ACC = 32 := rfl
@[simp] theorem width_PROFILE_DEC : Reg.width .PROFILE_DEC = 32 := rfl
@[simp] theorem width_QUICK_STOP_DEC : Reg.width .QUICK_STOP_DEC = 32 := rfl
@[simp] theorem width_PROFILE_TYPE : Reg.width .PROFILE_TYPE = 16 := rfl
@[simp] theorem width_HOMING_METHOD : Reg.width .HOMING_METHOD = 8 := rfl
@[simp] theorem width_HOMING_SPEED_SW : Reg.width .HOMING_SPEED_SW = 32 := rfl
@[simp] theorem width_HOMING_SPEED_ZERO : Reg.width .HOMING_SPEED_ZERO = 32 := rfl
@[simp] theorem width_HOMING_ACC : Reg.width .HOMING_ACC = 32 := rfl
@[simp] theorem width_PROFILE_JERK : Reg.width .PROFILE_JERK = 32 := rfl
@[simp] theorem width_IP_SUBMODE : Reg.width .IP_SUBMODE = 16 := rfl
@[simp] theorem width_IP_TARGET : Reg.width .IP_TARGET = 32 := rfl
@[simp] theorem width_IP_PERIOD : Reg.width .IP_PERIOD = 8 := rfl
@[simp] theorem width_IP_INDEX : Reg.width .IP_INDEX = 8 := rfl
@[simp] theorem width_MAX_ACC : Reg.width .MAX_ACC = 32 := rfl
@[simp] theorem width_TARGET_VEL : Reg.width .TARGET_VEL = 32 := rfl
@[simp] theorem width_CH_STATE : Reg.width .CH_STATE = 2 := rfl
@[simp] theorem width_CH_TARGET : Reg.width .CH_TARGET = 64 := rfl
@[simp] theorem width_CH_PREV : Reg.width .CH_PREV = 64 := rfl
@[simp] theorem width_CH_PENDING : Reg.width .CH_PENDING = 1 := rfl
@[simp] theorem width_CH_FRESH : Reg.width .CH_FRESH = 1 := rfl
@[simp] theorem width_CH_MISSED : Reg.width .CH_MISSED = 4 := rfl
@[simp] theorem width_CH_ADJUST : Reg.width .CH_ADJUST = 32 := rfl
@[simp] theorem width_CH_STOP : Reg.width .CH_STOP = 1 := rfl
@[simp] theorem width_HM_METHOD : Reg.width .HM_METHOD = 8 := rfl
@[simp] theorem width_HM_DIR : Reg.width .HM_DIR = 1 := rfl
@[simp] theorem width_HM_START : Reg.width .HM_START = 64 := rfl
@[simp] theorem width_HM_TAKEN : Reg.width .HM_TAKEN = 1 := rfl
@[simp] theorem width_HM_REF : Reg.width .HM_REF = 64 := rfl
@[simp] theorem width_HM_MOVING_BACK : Reg.width .HM_MOVING_BACK = 1 := rfl
@[simp] theorem width_HM_LIMITED : Reg.width .HM_LIMITED = 1 := rfl
@[simp] theorem width_SF_CREF : Reg.width .SF_CREF = 32 := rfl
@[simp] theorem width_SF_PREF : Reg.width .SF_PREF = 64 := rfl
@[simp] theorem width_SF_SNAP : Reg.width .SF_SNAP = 32 := rfl
@[simp] theorem width_SW_BALL : Reg.width .SW_BALL = 3 := rfl
@[simp] theorem width_STEP_LEVEL : Reg.width .STEP_LEVEL = 1 := rfl
@[simp] theorem width_DIR_LEVEL : Reg.width .DIR_LEVEL = 1 := rfl
@[simp] theorem width_HM_REQ : Reg.width .HM_REQ = 3 := rfl
@[simp] theorem width_SMP_CODE : Reg.width .SMP_CODE = 14 := rfl
@[simp] theorem width_SMP_FRESH : Reg.width .SMP_FRESH = 1 := rfl
@[simp] theorem width_SMP_OVR : Reg.width .SMP_OVR = 1 := rfl
@[simp] theorem width_SMP_SETTLE : Reg.width .SMP_SETTLE = 1 := rfl
@[simp] theorem width_W_X : Reg.width .W_X = 64 := rfl
@[simp] theorem width_W_E : Reg.width .W_E = 64 := rfl
@[simp] theorem width_W_IPRED : Reg.width .W_IPRED = 64 := rfl
@[simp] theorem width_W_REF : Reg.width .W_REF = 64 := rfl
@[simp] theorem width_W_MEAS : Reg.width .W_MEAS = 64 := rfl
@[simp] theorem width_W_VAPP : Reg.width .W_VAPP = 64 := rfl
@[simp] theorem width_W_VNEXT : Reg.width .W_VNEXT = 64 := rfl
@[simp] theorem width_W_SAT : Reg.width .W_SAT = 1 := rfl
@[simp] theorem width_W_UNSAT : Reg.width .W_UNSAT = 16 := rfl
@[simp] theorem width_W_MISS : Reg.width .W_MISS = 8 := rfl
@[simp] theorem width_W_OPEN : Reg.width .W_OPEN = 8 := rfl
@[simp] theorem width_W_SUM : Reg.width .W_SUM = 4 := rfl
@[simp] theorem width_W_SUMVAL : Reg.width .W_SUMVAL = 16 := rfl
@[simp] theorem width_HD_COUNT : Reg.width .HD_COUNT = 5 := rfl
@[simp] theorem width_HD_LOW : Reg.width .HD_LOW = 5 := rfl
@[simp] theorem width_HD_PEAK : Reg.width .HD_PEAK = 64 := rfl
@[simp] theorem width_WINDOWED : Reg.width .WINDOWED = 1 := rfl
@[simp] theorem width_WINDOW_ONLY : Reg.width .WINDOW_ONLY = 1 := rfl
@[simp] theorem width_HOLD_SINCE : Reg.width .HOLD_SINCE = 64 := rfl
@[simp] theorem width_RAMP_SINCE : Reg.width .RAMP_SINCE = 64 := rfl
@[simp] theorem width_I_BASE : Reg.width .I_BASE = 16 := rfl
@[simp] theorem width_ADAPT_FALL : Reg.width .ADAPT_FALL = 64 := rfl
@[simp] theorem width_BL_Y : Reg.width .BL_Y = 64 := rfl
@[simp] theorem width_I_Q : Reg.width .I_Q = 32 := rfl
@[simp] theorem width_VBUS_TICK : Reg.width .VBUS_TICK = 64 := rfl
@[simp] theorem width_FF_POSTED : Reg.width .FF_POSTED = 1 := rfl
@[simp] theorem width_HALL_THETA : Reg.width .HALL_THETA = 13 := rfl
@[simp] theorem width_HALL_TICK : Reg.width .HALL_TICK = 64 := rfl
@[simp] theorem width_HALL_SECT : Reg.width .HALL_SECT = 3 := rfl
@[simp] theorem width_OBS_TH : Reg.width .OBS_TH = 16 := rfl
@[simp] theorem width_OBS_TH_LAST : Reg.width .OBS_TH_LAST = 16 := rfl
@[simp] theorem width_OBS_OMEGA : Reg.width .OBS_OMEGA = 64 := rfl
@[simp] theorem width_OBS_T_LAST : Reg.width .OBS_T_LAST = 64 := rfl
@[simp] theorem width_OBS_EMF_RUN : Reg.width .OBS_EMF_RUN = 8 := rfl
@[simp] theorem width_OBS_SAL_POSTED : Reg.width .OBS_SAL_POSTED = 1 := rfl
@[simp] theorem width_OBS_HW : Reg.width .OBS_HW = 8 := rfl
@[simp] theorem width_OBS_CYC : Reg.width .OBS_CYC = 5 := rfl
@[simp] theorem width_OBS_L_CYC : Reg.width .OBS_L_CYC = 8 := rfl
@[simp] theorem width_OBS_REF_PEND : Reg.width .OBS_REF_PEND = 2 := rfl
@[simp] theorem width_OBS_KE_UPD : Reg.width .OBS_KE_UPD = 16 := rfl
@[simp] theorem width_OBS_R_UPD : Reg.width .OBS_R_UPD = 16 := rfl
@[simp] theorem width_OBS_PHASE : Reg.width .OBS_PHASE = 1 := rfl
@[simp] theorem width_KE_FINE : Reg.width .KE_FINE = 64 := rfl
@[simp] theorem width_R_FINE : Reg.width .R_FINE = 64 := rfl
@[simp] theorem width_L_FINE : Reg.width .L_FINE = 64 := rfl
@[simp] theorem width_R_FILT : Reg.width .R_FILT = 64 := rfl
@[simp] theorem width_R_FILT_TICK : Reg.width .R_FILT_TICK = 64 := rfl
@[simp] theorem width_R_UPD_TICK : Reg.width .R_UPD_TICK = 64 := rfl
@[simp] theorem width_R_EVER : Reg.width .R_EVER = 1 := rfl
@[simp] theorem width_STALL_RUN : Reg.width .STALL_RUN = 12 := rfl
@[simp] theorem width_STALL_HOLD : Reg.width .STALL_HOLD = 64 := rfl
@[simp] theorem width_STALL_STAND : Reg.width .STALL_STAND = 1 := rfl
@[simp] theorem width_STALL_NOW : Reg.width .STALL_NOW = 2 := rfl
@[simp] theorem width_PROBE_KIND : Reg.width .PROBE_KIND = 2 := rfl
@[simp] theorem width_PROBE_START_T : Reg.width .PROBE_START_T = 64 := rfl
@[simp] theorem width_PROBE_LAST : Reg.width .PROBE_LAST = 64 := rfl
@[simp] theorem width_PROBE_POS : Reg.width .PROBE_POS = 64 := rfl
@[simp] theorem width_PROBE_FOR_CAL : Reg.width .PROBE_FOR_CAL = 1 := rfl
@[simp] theorem width_PROBE_HIGH : Reg.width .PROBE_HIGH = 16 := rfl
@[simp] theorem width_W_OPRED : Reg.width .W_OPRED = 64 := rfl
@[simp] theorem width_W_INJNEXT : Reg.width .W_INJNEXT = 64 := rfl
@[simp] theorem width_W_INJAPP : Reg.width .W_INJAPP = 64 := rfl
@[simp] theorem width_W_IRESP : Reg.width .W_IRESP = 64 := rfl
@[simp] theorem width_W_RADD : Reg.width .W_RADD = 64 := rfl
@[simp] theorem width_W_I0 : Reg.width .W_I0 = 64 := rfl
@[simp] theorem width_OBS_FRAC : Reg.width .OBS_FRAC = 18 := rfl
@[simp] theorem width_OBS_RA : Reg.width .OBS_RA = 64 := rfl
@[simp] theorem width_OBS_RX : Reg.width .OBS_RX = 64 := rfl
@[simp] theorem width_OBS_RC : Reg.width .OBS_RC = 64 := rfl
@[simp] theorem width_OBS_BOUND : Reg.width .OBS_BOUND = 1 := rfl
@[simp] theorem width_PROBE_V : Reg.width .PROBE_V = 64 := rfl
@[simp] theorem width_PROBE_I : Reg.width .PROBE_I = 64 := rfl
@[simp] theorem width_PROBE_N : Reg.width .PROBE_N = 16 := rfl
@[simp] theorem width_R_PROBED : Reg.width .R_PROBED = 1 := rfl
@[simp] theorem width_R_FILTERED : Reg.width .R_FILTERED = 1 := rfl
@[simp] theorem width_SB_STILL_SINCE : Reg.width .SB_STILL_SINCE = 64 := rfl
@[simp] theorem width_PORT_DRIVE : Reg.width .PORT_DRIVE = 2 := rfl
@[simp] theorem width_TRIPPED_H : Reg.width .TRIPPED_H = 1 := rfl
@[simp] theorem width_TRIPPED_L : Reg.width .TRIPPED_L = 1 := rfl
@[simp] theorem width_TRIP_HELD : Reg.width .TRIP_HELD = 1 := rfl
@[simp] theorem width_TRIP_FREE : Reg.width .TRIP_FREE = 7 := rfl
@[simp] theorem width_CMP_LAT : Reg.width .CMP_LAT = 32 := rfl
@[simp] theorem width_FULL_LAT : Reg.width .FULL_LAT = 1 := rfl
@[simp] theorem width_CMP_NEW : Reg.width .CMP_NEW = 1 := rfl
@[simp] theorem width_C_DEV : Reg.width .C_DEV = 32 := rfl
@[simp] theorem width_C_FROM_ENGINE : Reg.width .C_FROM_ENGINE = 1 := rfl
@[simp] theorem width_HIGH_ON : Reg.width .HIGH_ON = 1 := rfl
@[simp] theorem width_HALF_PULSE : Reg.width .HALF_PULSE = 1 := rfl
@[simp] theorem width_JOINING : Reg.width .JOINING = 1 := rfl
@[simp] theorem width_GROUP_WAIT : Reg.width .GROUP_WAIT = 1 := rfl
@[simp] theorem width_BST_RUN : Reg.width .BST_RUN = 2 := rfl
@[simp] theorem width_BST_EXEMPT : Reg.width .BST_EXEMPT = 6 := rfl
@[simp] theorem width_LEG_TEST : Reg.width .LEG_TEST = 1 := rfl
@[simp] theorem width_EVT_TICK : Reg.width .EVT_TICK = 64 := rfl
@[simp] theorem width_EVT_POSTED : Reg.width .EVT_POSTED = 1 := rfl
@[simp] theorem width_PRESC_CNT : Reg.width .PRESC_CNT = 5 := rfl
@[simp] theorem width_DDIE_ROLE : Reg.width .DDIE_ROLE = 8 := rfl
@[simp] theorem width_LOAD_LEFT : Reg.width .LOAD_LEFT = 2 := rfl
@[simp] theorem width_LOAD_TICK : Reg.width .LOAD_TICK = 64 := rfl
@[simp] theorem width_GROUP_START : Reg.width .GROUP_START = 64 := rfl
@[simp] theorem width_TRIGO_END : Reg.width .TRIGO_END = 64 := rfl
@[simp] theorem width_TRIGO_LEVEL : Reg.width .TRIGO_LEVEL = 1 := rfl
@[simp] theorem width_BANK_REL : Reg.width .BANK_REL = 1 := rfl
@[simp] theorem width_HB_OUT : Reg.width .HB_OUT = 1 := rfl
@[simp] theorem width_HB_COUNT : Reg.width .HB_COUNT = 4 := rfl
@[simp] theorem width_HB_SEEN : Reg.width .HB_SEEN = 4 := rfl
@[simp] theorem width_HB_TICK : Reg.width .HB_TICK = 64 := rfl
@[simp] theorem width_HB_GOOD : Reg.width .HB_GOOD = 64 := rfl
@[simp] theorem width_TRIPN_LOW : Reg.width .TRIPN_LOW = 1 := rfl
@[simp] theorem width_DIE_HOT : Reg.width .DIE_HOT = 1 := rfl
@[simp] theorem width_DIE_UP : Reg.width .DIE_UP = 1 := rfl
@[simp] theorem width_OVER_GD_APPLY : Reg.width .OVER_GD_APPLY = 1 := rfl
@[simp] theorem width_COAST_GOOD : Reg.width .COAST_GOOD = 64 := rfl
@[simp] theorem width_BUS_LOW_SINCE : Reg.width .BUS_LOW_SINCE = 64 := rfl
@[simp] theorem width_BUS_HALT : Reg.width .BUS_HALT = 1 := rfl
@[simp] theorem width_OV_CLEAR_TICK : Reg.width .OV_CLEAR_TICK = 64 := rfl
@[simp] theorem width_OV_RETURN : Reg.width .OV_RETURN = 1 := rfl
@[simp] theorem width_BUS_READ_TICK : Reg.width .BUS_READ_TICK = 64 := rfl
@[simp] theorem width_SB_GROUP : Reg.width .SB_GROUP = 8 := rfl
@[simp] theorem width_SB_HS_TICK : Reg.width .SB_HS_TICK = 64 := rfl
@[simp] theorem width_FAULT_CAUSE : Reg.width .FAULT_CAUSE = 8 := rfl
@[simp] theorem width_RT_BACK : Reg.width .RT_BACK = 3 := rfl
@[simp] theorem width_POSTED : Reg.width .POSTED = 1 := rfl
@[simp] theorem width_SEG_ROUTE_END : Reg.width .SEG_ROUTE_END = 64 := rfl
@[simp] theorem width_RESUME_SYNC : Reg.width .RESUME_SYNC = 1 := rfl
@[simp] theorem width_RESETTING : Reg.width .RESETTING = 1 := rfl
@[simp] theorem width_RESET_REFUSED : Reg.width .RESET_REFUSED = 1 := rfl
@[simp] theorem width_CONTROLWORD : Reg.width .CONTROLWORD = 16 := rfl
@[simp] theorem width_QSTOP_OPTION : Reg.width .QSTOP_OPTION = 16 := rfl
@[simp] theorem width_SHUTDOWN_OPTION : Reg.width .SHUTDOWN_OPTION = 16 := rfl
@[simp] theorem width_DISABLE_OPTION : Reg.width .DISABLE_OPTION = 16 := rfl
@[simp] theorem width_ABORT_OPTION : Reg.width .ABORT_OPTION = 16 := rfl
@[simp] theorem width_ENG_LOST : Reg.width .ENG_LOST = 2 := rfl
@[simp] theorem width_ENG_BIST : Reg.width .ENG_BIST = 1 := rfl
@[simp] theorem width_STRIP_ENG : Reg.width .STRIP_ENG = 4 := rfl
@[simp] theorem width_STRIP_CYCLES : Reg.width .STRIP_CYCLES = 6 := rfl
@[simp] theorem width_STRIP_VOTE : Reg.width .STRIP_VOTE = 2 := rfl
@[simp] theorem width_STRIP_BAD_CYCLE : Reg.width .STRIP_BAD_CYCLE = 8 := rfl
@[simp] theorem width_STRIP_NEXT : Reg.width .STRIP_NEXT = 3 := rfl
@[simp] theorem width_STRIP_LAST : Reg.width .STRIP_LAST = 64 := rfl
@[simp] theorem width_MIG_WANT : Reg.width .MIG_WANT = 1 := rfl
@[simp] theorem width_MIG_TARGET : Reg.width .MIG_TARGET = 4 := rfl
@[simp] theorem width_MIG_COLD : Reg.width .MIG_COLD = 1 := rfl
@[simp] theorem width_MIG_KILLS : Reg.width .MIG_KILLS = 2 := rfl
@[simp] theorem width_EPOCH_TICK : Reg.width .EPOCH_TICK = 64 := rfl
@[simp] theorem width_EPOCH_MOVED : Reg.width .EPOCH_MOVED = 1 := rfl
@[simp] theorem width_MISS_RUN : Reg.width .MISS_RUN = 2 := rfl
@[simp] theorem width_MISS_WINDOW : Reg.width .MISS_WINDOW = 4 := rfl
@[simp] theorem width_MISS_TICK : Reg.width .MISS_TICK = 64 := rfl
@[simp] theorem width_CYC_END : Reg.width .CYC_END = 64 := rfl
@[simp] theorem width_NO_POST_RUN : Reg.width .NO_POST_RUN = 5 := rfl
@[simp] theorem width_SLACK_GOOD : Reg.width .SLACK_GOOD = 9 := rfl
@[simp] theorem width_SEQ_DOWN : Reg.width .SEQ_DOWN = 1 := rfl
@[simp] theorem width_SEQ_CAUSE : Reg.width .SEQ_CAUSE = 2 := rfl
@[simp] theorem width_SEQ_EPOCH : Reg.width .SEQ_EPOCH = 4 := rfl
@[simp] theorem width_SEQ_EPOCH_TICK : Reg.width .SEQ_EPOCH_TICK = 64 := rfl
@[simp] theorem width_SEQ_EPOCH_MOVED : Reg.width .SEQ_EPOCH_MOVED = 1 := rfl
@[simp] theorem width_SEQ_WAIT : Reg.width .SEQ_WAIT = 1 := rfl
@[simp] theorem width_SEQ_WAIT_CAUSE : Reg.width .SEQ_WAIT_CAUSE = 2 := rfl
@[simp] theorem width_SEQ_SERVED : Reg.width .SEQ_SERVED = 64 := rfl
@[simp] theorem width_SEQ_WD_RECENT : Reg.width .SEQ_WD_RECENT = 64 := rfl
@[simp] theorem width_DOM_EPOCH : Reg.width .DOM_EPOCH = 4 := rfl
@[simp] theorem width_DOM_EPOCH_TICK : Reg.width .DOM_EPOCH_TICK = 64 := rfl
@[simp] theorem width_DOM_RESTARTING : Reg.width .DOM_RESTARTING = 1 := rfl
@[simp] theorem width_DOM_RESTART_WAIT : Reg.width .DOM_RESTART_WAIT = 1 := rfl
@[simp] theorem width_RECLAIM_TICK : Reg.width .RECLAIM_TICK = 64 := rfl
@[simp] theorem width_RECLAIM_SEEN : Reg.width .RECLAIM_SEEN = 1 := rfl
@[simp] theorem width_TAG_BUSY : Reg.width .TAG_BUSY = 1 := rfl
@[simp] theorem width_TAG_HELPER : Reg.width .TAG_HELPER = 4 := rfl
@[simp] theorem width_TAG_SINCE : Reg.width .TAG_SINCE = 64 := rfl
@[simp] theorem width_TAG_QUARANTINE : Reg.width .TAG_QUARANTINE = 1 := rfl
@[simp] theorem width_TAG_EPOCH : Reg.width .TAG_EPOCH = 4 := rfl
@[simp] theorem width_TAG_QUEUE : Reg.width .TAG_QUEUE = 16 := rfl
@[simp] theorem width_NMT_STATE : Reg.width .NMT_STATE = 3 := rfl
@[simp] theorem width_NODE_ID : Reg.width .NODE_ID = 8 := rfl
@[simp] theorem width_NODE_ID_LSS : Reg.width .NODE_ID_LSS = 8 := rfl
@[simp] theorem width_NODE_ID_NEXT : Reg.width .NODE_ID_NEXT = 8 := rfl
@[simp] theorem width_NODE_ID_ACT : Reg.width .NODE_ID_ACT = 8 := rfl
@[simp] theorem width_CAN_MODE : Reg.width .CAN_MODE = 8 := rfl
@[simp] theorem width_ARB_RATE : Reg.width .ARB_RATE = 8 := rfl
@[simp] theorem width_DATA_RATE : Reg.width .DATA_RATE = 8 := rfl
@[simp] theorem width_CAN_RED : Reg.width .CAN_RED = 8 := rfl
@[simp] theorem width_RED_WIN : Reg.width .RED_WIN = 8 := rfl
@[simp] theorem width_CAN_SILENT : Reg.width .CAN_SILENT = 16 := rfl
@[simp] theorem width_CAN_LOST : Reg.width .CAN_LOST = 2 := rfl
@[simp] theorem width_RED_DUP : Reg.width .RED_DUP = 16 := rfl
@[simp] theorem width_RED_DIFF : Reg.width .RED_DIFF = 16 := rfl
@[simp] theorem width_CAN_OFF : Reg.width .CAN_OFF = 1 := rfl
@[simp] theorem width_CAN_RX_TICK : Reg.width .CAN_RX_TICK = 64 := rfl
@[simp] theorem width_CAN_GOOD_TICK : Reg.width .CAN_GOOD_TICK = 64 := rfl
@[simp] theorem width_ERR_HIST : Reg.width .ERR_HIST = 32 := rfl
@[simp] theorem width_ERR_COUNT : Reg.width .ERR_COUNT = 5 := rfl
@[simp] theorem width_COMM_ERR : Reg.width .COMM_ERR = 4 := rfl
@[simp] theorem width_EMCY_TICK : Reg.width .EMCY_TICK = 64 := rfl
@[simp] theorem width_EMCY_SENT : Reg.width .EMCY_SENT = 1 := rfl
@[simp] theorem width_COB_SYNC : Reg.width .COB_SYNC = 32 := rfl
@[simp] theorem width_SYNC_PERIOD : Reg.width .SYNC_PERIOD = 32 := rfl
@[simp] theorem width_COB_TIME : Reg.width .COB_TIME = 32 := rfl
@[simp] theorem width_COB_EMCY : Reg.width .COB_EMCY = 32 := rfl
@[simp] theorem width_INHIBIT_EMCY : Reg.width .INHIBIT_EMCY = 16 := rfl
@[simp] theorem width_HB_CONSUMER : Reg.width .HB_CONSUMER = 32 := rfl
@[simp] theorem width_HB_PRODUCER : Reg.width .HB_PRODUCER = 16 := rfl
@[simp] theorem width_SYNC_OVERFLOW : Reg.width .SYNC_OVERFLOW = 8 := rfl
@[simp] theorem width_ERROR_BEHAVIOUR : Reg.width .ERROR_BEHAVIOUR = 8 := rfl
@[simp] theorem width_NMT_STARTUP : Reg.width .NMT_STARTUP = 32 := rfl
@[simp] theorem width_AUDIT_SEQ : Reg.width .AUDIT_SEQ = 32 := rfl
@[simp] theorem width_AUDIT_BASE : Reg.width .AUDIT_BASE = 64 := rfl
@[simp] theorem width_AUDIT_LIVE : Reg.width .AUDIT_LIVE = 1 := rfl
@[simp] theorem width_PATH_LOG_TICK : Reg.width .PATH_LOG_TICK = 64 := rfl
@[simp] theorem width_PATH_LOGGED : Reg.width .PATH_LOGGED = 1 := rfl
@[simp] theorem width_X_HELD : Reg.width .X_HELD = 1 := rfl
@[simp] theorem width_FULL_CUR : Reg.width .FULL_CUR = 1 := rfl
@[simp] theorem width_LOW_CUR : Reg.width .LOW_CUR = 1 := rfl
@[simp] theorem width_LS_FROM : Reg.width .LS_FROM = 20 := rfl
@[simp] theorem width_LS_TO : Reg.width .LS_TO = 20 := rfl
@[simp] theorem width_HS_FROM : Reg.width .HS_FROM = 20 := rfl
@[simp] theorem width_DL_TAP : Reg.width .DL_TAP = 8 := rfl
@[simp] theorem width_PERIOD_LOADED : Reg.width .PERIOD_LOADED = 14 := rfl
@[simp] theorem width_PERIOD_LONG : Reg.width .PERIOD_LONG = 14 := rfl
@[simp] theorem width_BUDGET_DUTY : Reg.width .BUDGET_DUTY = 19 := rfl
@[simp] theorem width_FB_SNAP : Reg.width .FB_SNAP = 48 := rfl
@[simp] theorem width_DIE_SHORT : Reg.width .DIE_SHORT = 2 := rfl
@[simp] theorem width_BST_BAD : Reg.width .BST_BAD = 1 := rfl
@[simp] theorem width_MODE_RESUME : Reg.width .MODE_RESUME = 2 := rfl
@[simp] theorem width_FAULTN_LOW : Reg.width .FAULTN_LOW = 1 := rfl
@[simp] theorem width_MGR_FAULTN : Reg.width .MGR_FAULTN = 1 := rfl
@[simp] theorem width_FR_HELD : Reg.width .FR_HELD = 1 := rfl
@[simp] theorem width_SF_LAG : Reg.width .SF_LAG = 64 := rfl
@[simp] theorem width_ENC_OFS : Reg.width .ENC_OFS = 64 := rfl
@[simp] theorem width_ILL_RUN : Reg.width .ILL_RUN = 8 := rfl
@[simp] theorem width_NORM_RUN : Reg.width .NORM_RUN = 11 := rfl
@[simp] theorem width_HALL_STATE : Reg.width .HALL_STATE = 3 := rfl
@[simp] theorem width_SPD_NET : Reg.width .SPD_NET = 32 := rfl
@[simp] theorem width_SPD_EDGES : Reg.width .SPD_EDGES = 32 := rfl
@[simp] theorem width_SPD_DISCARD : Reg.width .SPD_DISCARD = 1 := rfl
@[simp] theorem width_SPD_WEND : Reg.width .SPD_WEND = 64 := rfl
@[simp] theorem width_SPD_REF : Reg.width .SPD_REF = 64 := rfl
@[simp] theorem width_SPD_REF_OK : Reg.width .SPD_REF_OK = 1 := rfl
@[simp] theorem width_SPD_DIR : Reg.width .SPD_DIR = 2 := rfl
@[simp] theorem width_SPD_REV : Reg.width .SPD_REV = 1 := rfl
@[simp] theorem width_SPD_EMPTY : Reg.width .SPD_EMPTY = 8 := rfl
@[simp] theorem width_CAP_SEQ : Reg.width .CAP_SEQ = 4 := rfl
@[simp] theorem width_FE_SINCE : Reg.width .FE_SINCE = 64 := rfl
@[simp] theorem width_CS_TICK : Reg.width .CS_TICK = 64 := rfl
@[simp] theorem width_SMP_SKIP : Reg.width .SMP_SKIP = 1 := rfl
@[simp] theorem width_SMP_DONE : Reg.width .SMP_DONE = 1 := rfl
@[simp] theorem width_SMP_TRIP : Reg.width .SMP_TRIP = 1 := rfl
@[simp] theorem width_HALF_TURN : Reg.width .HALF_TURN = 1 := rfl
@[simp] theorem width_PORT_CUT : Reg.width .PORT_CUT = 1 := rfl
@[simp] theorem width_AUX_CUT : Reg.width .AUX_CUT = 1 := rfl
@[simp] theorem width_CONV_BUSY : Reg.width .CONV_BUSY = 3 := rfl
@[simp] theorem width_CONV_NOW : Reg.width .CONV_NOW = 7 := rfl
@[simp] theorem width_CONV_REDO : Reg.width .CONV_REDO = 3 := rfl
@[simp] theorem width_CONV_REDO_CH : Reg.width .CONV_REDO_CH = 7 := rfl
@[simp] theorem width_INJ_N : Reg.width .INJ_N = 3 := rfl
@[simp] theorem width_INJ_REQ : Reg.width .INJ_REQ = 16 := rfl
@[simp] theorem width_ROUND_POS : Reg.width .ROUND_POS = 7 := rfl
@[simp] theorem width_SCAN_N : Reg.width .SCAN_N = 7 := rfl
@[simp] theorem width_SCAN_Q : Reg.width .SCAN_Q = 16 := rfl
@[simp] theorem width_CONV_WIN : Reg.width .CONV_WIN = 32 := rfl
@[simp] theorem width_PORT_SETTLE : Reg.width .PORT_SETTLE = 2 := rfl
@[simp] theorem width_AUX_SETTLE : Reg.width .AUX_SETTLE = 1 := rfl
@[simp] theorem width_AUX_NEW : Reg.width .AUX_NEW = 1 := rfl
@[simp] theorem width_AUX_HIST : Reg.width .AUX_HIST = 4096 := rfl
@[simp] theorem width_AUX_OVR : Reg.width .AUX_OVR = 256 := rfl
@[simp] theorem width_AUX_N : Reg.width .AUX_N = 9 := rfl
@[simp] theorem width_CHK_PHASE : Reg.width .CHK_PHASE = 2 := rfl
@[simp] theorem width_CHK_PASSED : Reg.width .CHK_PASSED = 1 := rfl
@[simp] theorem width_CHK_CROSS : Reg.width .CHK_CROSS = 2 := rfl
@[simp] theorem width_CHK_REFRUN : Reg.width .CHK_REFRUN = 2 := rfl
@[simp] theorem width_CHK_CODE : Reg.width .CHK_CODE = 16 := rfl
@[simp] theorem width_CHK_PAIR_CAL : Reg.width .CHK_PAIR_CAL = 1 := rfl
@[simp] theorem width_CONV_RET_DUE : Reg.width .CONV_RET_DUE = 1 := rfl
@[simp] theorem width_CONV_RET_N : Reg.width .CONV_RET_N = 2 := rfl
@[simp] theorem width_CONV_CALFAIL : Reg.width .CONV_CALFAIL = 1 := rfl
@[simp] theorem width_CONV_PASSES : Reg.width .CONV_PASSES = 5 := rfl
@[simp] theorem width_CONV_CAL : Reg.width .CONV_CAL = 1 := rfl
@[simp] theorem width_CAL_WAIT : Reg.width .CAL_WAIT = 1 := rfl
@[simp] theorem width_CAL_TICK : Reg.width .CAL_TICK = 64 := rfl
@[simp] theorem width_CAL_ROTATED : Reg.width .CAL_ROTATED = 1 := rfl
@[simp] theorem width_CONV_EPOCH_TICK : Reg.width .CONV_EPOCH_TICK = 64 := rfl
@[simp] theorem width_CONV_EPOCH_MOVED : Reg.width .CONV_EPOCH_MOVED = 1 := rfl
@[simp] theorem width_CONV_EPOCH_DUE : Reg.width .CONV_EPOCH_DUE = 1 := rfl
@[simp] theorem width_MON_WAIT : Reg.width .MON_WAIT = 1 := rfl
@[simp] theorem width_SC_STEP : Reg.width .SC_STEP = 2 := rfl
@[simp] theorem width_SC_RUN_CH : Reg.width .SC_RUN_CH = 7 := rfl
@[simp] theorem width_SC_ZERO_OK : Reg.width .SC_ZERO_OK = 1 := rfl
@[simp] theorem width_SC_ZERO_CH : Reg.width .SC_ZERO_CH = 7 := rfl
@[simp] theorem width_SC_ZERO : Reg.width .SC_ZERO = 16 := rfl
@[simp] theorem width_T_REF : Reg.width .T_REF = 16 := rfl
@[simp] theorem width_T_ACC : Reg.width .T_ACC = 16 := rfl
@[simp] theorem width_T_REF_TICK : Reg.width .T_REF_TICK = 64 := rfl
@[simp] theorem width_SNS_FAILS : Reg.width .SNS_FAILS = 8 := rfl
@[simp] theorem width_SNS_PASSES : Reg.width .SNS_PASSES = 6 := rfl
@[simp] theorem width_QUAL_TICK : Reg.width .QUAL_TICK = 64 := rfl
@[simp] theorem width_SNS_SUB : Reg.width .SNS_SUB = 16 := rfl
@[simp] theorem width_SNS_SINGLE : Reg.width .SNS_SINGLE = 1 := rfl
@[simp] theorem width_SNS_MISS : Reg.width .SNS_MISS = 64 := rfl
@[simp] theorem width_SNS_MISSED : Reg.width .SNS_MISSED = 1 := rfl
@[simp] theorem width_SNS_SCAN_TICK : Reg.width .SNS_SCAN_TICK = 64 := rfl
@[simp] theorem width_SNS_PEND : Reg.width .SNS_PEND = 1 := rfl
@[simp] theorem width_SNS_FREEZES : Reg.width .SNS_FREEZES = 8 := rfl
@[simp] theorem width_THR_SINCE : Reg.width .THR_SINCE = 64 := rfl
@[simp] theorem width_THR_HFLOOR : Reg.width .THR_HFLOOR = 5 := rfl
@[simp] theorem width_THR_HOLD_TICK : Reg.width .THR_HOLD_TICK = 64 := rfl
@[simp] theorem width_BUDGET_N : Reg.width .BUDGET_N = 5 := rfl
@[simp] theorem width_BUDGET_STK : Reg.width .BUDGET_STK = 4 := rfl
@[simp] theorem width_TH_TAB_R : Reg.width .TH_TAB_R = 32 := rfl
@[simp] theorem width_TH_TAB_T : Reg.width .TH_TAB_T = 16 := rfl
@[simp] theorem width_TH_DEV_R : Reg.width .TH_DEV_R = 32 := rfl
@[simp] theorem width_TH_DEV_T : Reg.width .TH_DEV_T = 16 := rfl
@[simp] theorem width_TH_TAB_NEW : Reg.width .TH_TAB_NEW = 1 := rfl
@[simp] theorem width_DOM_LEAVING : Reg.width .DOM_LEAVING = 12 := rfl
@[simp] theorem width_DOM_REQ_PATH : Reg.width .DOM_REQ_PATH = 3 := rfl
@[simp] theorem width_TB_LOSS_TICK : Reg.width .TB_LOSS_TICK = 64 := rfl
@[simp] theorem width_TB_RELOCK : Reg.width .TB_RELOCK = 1 := rfl
@[simp] theorem width_TB_EVER : Reg.width .TB_EVER = 1 := rfl
@[simp] theorem width_DL_FAILS : Reg.width .DL_FAILS = 4 := rfl
@[simp] theorem width_LOCKED : Reg.width .LOCKED = 1 := rfl
@[simp] theorem width_RING_ID : Reg.width .RING_ID = 16 := rfl
@[simp] theorem width_RX_CYC : Reg.width .RX_CYC = 32 := rfl
@[simp] theorem width_CYC_NO : Reg.width .CYC_NO = 32 := rfl
@[simp] theorem width_CYC_TICK : Reg.width .CYC_TICK = 64 := rfl
@[simp] theorem width_ENUM_TICK : Reg.width .ENUM_TICK = 64 := rfl
@[simp] theorem width_ENUM_OUT : Reg.width .ENUM_OUT = 1 := rfl
@[simp] theorem width_LANE_GOOD : Reg.width .LANE_GOOD = 7 := rfl
@[simp] theorem width_LANE_WRAP : Reg.width .LANE_WRAP = 1 := rfl
@[simp] theorem width_CABLE : Reg.width .CABLE = 32 := rfl
@[simp] theorem width_ALIGN_RUN : Reg.width .ALIGN_RUN = 7 := rfl
@[simp] theorem width_RGO_PEND : Reg.width .RGO_PEND = 1 := rfl
@[simp] theorem width_RGO_T : Reg.width .RGO_T = 64 := rfl
@[simp] theorem width_RGO_SEEN : Reg.width .RGO_SEEN = 64 := rfl
@[simp] theorem width_GO_CARRY : Reg.width .GO_CARRY = 8 := rfl
@[simp] theorem width_GO_CARRY_T : Reg.width .GO_CARRY_T = 64 := rfl
@[simp] theorem width_GO_LEFT : Reg.width .GO_LEFT = 2 := rfl
@[simp] theorem width_RS_PEND : Reg.width .RS_PEND = 1 := rfl
@[simp] theorem width_RS_T : Reg.width .RS_T = 64 := rfl
@[simp] theorem width_RS_MISSING : Reg.width .RS_MISSING = 32 := rfl
@[simp] theorem width_RS_SEEN : Reg.width .RS_SEEN = 64 := rfl
@[simp] theorem width_SHEET_ERR : Reg.width .SHEET_ERR = 1 := rfl
@[simp] theorem width_DEV_MISS : Reg.width .DEV_MISS = 4 := rfl
@[simp] theorem width_DEV_UP : Reg.width .DEV_UP = 32 := rfl
@[simp] theorem width_DEV_EPOCH_TICK : Reg.width .DEV_EPOCH_TICK = 64 := rfl
@[simp] theorem width_DEV_EPOCH_DUE : Reg.width .DEV_EPOCH_DUE = 1 := rfl
@[simp] theorem width_DEV_HOLD : Reg.width .DEV_HOLD = 1 := rfl
@[simp] theorem width_RING_DN : Reg.width .RING_DN = 2 := rfl
@[simp] theorem width_RING_UP : Reg.width .RING_UP = 2 := rfl
@[simp] theorem width_M_CW : Reg.width .M_CW = 16 := rfl
@[simp] theorem width_M_MODE : Reg.width .M_MODE = 8 := rfl
@[simp] theorem width_M_TARGET : Reg.width .M_TARGET = 32 := rfl
@[simp] theorem width_M_SEG_0 : Reg.width .M_SEG_0 = 32 := rfl
@[simp] theorem width_M_SEG_1 : Reg.width .M_SEG_1 = 32 := rfl
@[simp] theorem width_M_SEG_2 : Reg.width .M_SEG_2 = 32 := rfl
@[simp] theorem width_M_SEG_3 : Reg.width .M_SEG_3 = 32 := rfl
@[simp] theorem width_M_SEG_SEND : Reg.width .M_SEG_SEND = 1 := rfl
@[simp] theorem width_M_SW : Reg.width .M_SW = 16 := rfl
@[simp] theorem width_M_MODE_DISP : Reg.width .M_MODE_DISP = 8 := rfl
@[simp] theorem width_M_RESERVE : Reg.width .M_RESERVE = 8 := rfl
@[simp] theorem width_M_POS_ACT : Reg.width .M_POS_ACT = 32 := rfl
@[simp] theorem width_M_VEL_ACT : Reg.width .M_VEL_ACT = 32 := rfl
@[simp] theorem width_M_FR : Reg.width .M_FR = 1 := rfl
@[simp] theorem width_RC_PEND : Reg.width .RC_PEND = 1 := rfl
@[simp] theorem width_RC_CTRL : Reg.width .RC_CTRL = 32 := rfl
@[simp] theorem width_RC_TARGET : Reg.width .RC_TARGET = 32 := rfl
@[simp] theorem width_RC_HAS_TARGET : Reg.width .RC_HAS_TARGET = 1 := rfl
@[simp] theorem width_ACC_RING_MEMB : Reg.width .ACC_RING_MEMB = 256 := rfl
@[simp] theorem width_TUNNEL_DEV : Reg.width .TUNNEL_DEV = 8 := rfl
@[simp] theorem width_TUNNEL_OBJ : Reg.width .TUNNEL_OBJ = 32 := rfl
@[simp] theorem width_TUN_BUSY : Reg.width .TUN_BUSY = 1 := rfl
@[simp] theorem width_TUN_TICK : Reg.width .TUN_TICK = 64 := rfl
@[simp] theorem width_TUN_MSG : Reg.width .TUN_MSG = 256 := rfl
@[simp] theorem width_MSG_GRANT : Reg.width .MSG_GRANT = 8 := rfl
@[simp] theorem width_REG_WIN_ADDR : Reg.width .REG_WIN_ADDR = 32 := rfl
@[simp] theorem width_REG_WIN_CTRL : Reg.width .REG_WIN_CTRL = 8 := rfl
@[simp] theorem width_REG_WIN_COUNT : Reg.width .REG_WIN_COUNT = 16 := rfl
@[simp] theorem width_REG_WIN_STAT : Reg.width .REG_WIN_STAT = 8 := rfl
@[simp] theorem width_SPI_STAT : Reg.width .SPI_STAT = 8 := rfl
@[simp] theorem width_SPI_BITS : Reg.width .SPI_BITS = 5 := rfl
@[simp] theorem width_SPI_OPEN : Reg.width .SPI_OPEN = 1 := rfl
@[simp] theorem width_SPI_DEAD : Reg.width .SPI_DEAD = 1 := rfl
@[simp] theorem width_SPI_WRITE : Reg.width .SPI_WRITE = 1 := rfl
@[simp] theorem width_SPI_INC : Reg.width .SPI_INC = 1 := rfl
@[simp] theorem width_SPI_ADDR : Reg.width .SPI_ADDR = 24 := rfl
@[simp] theorem width_SEG_PDO_W : Reg.width .SEG_PDO_W = 32 := rfl
@[simp] theorem width_RPDO_COB : Reg.width .RPDO_COB = 32 := rfl
@[simp] theorem width_RPDO_TYPE : Reg.width .RPDO_TYPE = 8 := rfl
@[simp] theorem width_RPDO_TIMER : Reg.width .RPDO_TIMER = 16 := rfl
@[simp] theorem width_RPDO_N : Reg.width .RPDO_N = 5 := rfl
@[simp] theorem width_RPDO_MAP : Reg.width .RPDO_MAP = 32 := rfl
@[simp] theorem width_RPDO_BUF : Reg.width .RPDO_BUF = 512 := rfl
@[simp] theorem width_RPDO_LEN : Reg.width .RPDO_LEN = 7 := rfl
@[simp] theorem width_RPDO_WAIT : Reg.width .RPDO_WAIT = 1 := rfl
@[simp] theorem width_TPDO_COB : Reg.width .TPDO_COB = 32 := rfl
@[simp] theorem width_TPDO_TYPE : Reg.width .TPDO_TYPE = 8 := rfl
@[simp] theorem width_TPDO_INH : Reg.width .TPDO_INH = 16 := rfl
@[simp] theorem width_TPDO_TIMER : Reg.width .TPDO_TIMER = 16 := rfl
@[simp] theorem width_TPDO_START : Reg.width .TPDO_START = 8 := rfl
@[simp] theorem width_TPDO_N : Reg.width .TPDO_N = 5 := rfl
@[simp] theorem width_TPDO_MAP : Reg.width .TPDO_MAP = 32 := rfl
@[simp] theorem width_TPDO_LAST : Reg.width .TPDO_LAST = 512 := rfl
@[simp] theorem width_TPDO_CHG : Reg.width .TPDO_CHG = 1 := rfl
@[simp] theorem width_TPDO_TICK : Reg.width .TPDO_TICK = 64 := rfl
@[simp] theorem width_TPDO_SENT : Reg.width .TPDO_SENT = 1 := rfl
@[simp] theorem width_TPDO_CNT : Reg.width .TPDO_CNT = 8 := rfl
@[simp] theorem width_TPDO_STARTED : Reg.width .TPDO_STARTED = 1 := rfl
@[simp] theorem width_COB_WRITTEN : Reg.width .COB_WRITTEN = 1 := rfl
@[simp] theorem width_LSS_MODE : Reg.width .LSS_MODE = 1 := rfl
@[simp] theorem width_LSS_BIT : Reg.width .LSS_BIT = 8 := rfl
@[simp] theorem width_SYNC_CTR : Reg.width .SYNC_CTR = 8 := rfl
@[simp] theorem width_TIME_DAYS : Reg.width .TIME_DAYS = 16 := rfl
@[simp] theorem width_TIME_MS : Reg.width .TIME_MS = 28 := rfl
@[simp] theorem width_TIME_TICK : Reg.width .TIME_TICK = 64 := rfl
@[simp] theorem width_HBC_ON : Reg.width .HBC_ON = 1 := rfl
@[simp] theorem width_HBC_TICK : Reg.width .HBC_TICK = 64 := rfl
@[simp] theorem width_HBC_LOST : Reg.width .HBC_LOST = 1 := rfl
@[simp] theorem width_HBP_TICK : Reg.width .HBP_TICK = 64 := rfl
@[simp] theorem width_RESET_NODE : Reg.width .RESET_NODE = 1 := rfl
@[simp] theorem width_COMM_DUE : Reg.width .COMM_DUE = 1 := rfl
@[simp] theorem width_XO_BUSY : Reg.width .XO_BUSY = 1 := rfl
@[simp] theorem width_Q15_TICK : Reg.width .Q15_TICK = 64 := rfl
@[simp] theorem width_USB_UP : Reg.width .USB_UP = 1 := rfl
@[simp] theorem width_REV_SEQ : Reg.width .REV_SEQ = 32 := rfl
@[simp] theorem width_REVOKE_BELOW : Reg.width .REVOKE_BELOW = 32 := rfl
@[simp] theorem width_SESS_IDLE : Reg.width .SESS_IDLE = 16 := rfl
@[simp] theorem width_SESS_ID : Reg.width .SESS_ID = 32 := rfl
@[simp] theorem width_SESS_TICK : Reg.width .SESS_TICK = 64 := rfl
@[simp] theorem width_SESS_VALID_TO : Reg.width .SESS_VALID_TO = 32 := rfl
@[simp] theorem width_SESS_TOKEN : Reg.width .SESS_TOKEN = 32 := rfl
@[simp] theorem width_CTR_RX : Reg.width .CTR_RX = 32 := rfl
@[simp] theorem width_CTR_TX : Reg.width .CTR_TX = 32 := rfl
@[simp] theorem width_SESS_DROPS : Reg.width .SESS_DROPS = 4 := rfl
@[simp] theorem width_DRAWS : Reg.width .DRAWS = 64 := rfl
@[simp] theorem width_PATCH_ACTIVE : Reg.width .PATCH_ACTIVE = 2 := rfl
@[simp] theorem width_PATCH_OK : Reg.width .PATCH_OK = 2 := rfl
@[simp] theorem width_PATCH_RUN : Reg.width .PATCH_RUN = 1 := rfl
@[simp] theorem width_SVC_TICK : Reg.width .SVC_TICK = 64 := rfl
@[simp] theorem width_PROF_COMM : Reg.width .PROF_COMM = 1 := rfl
@[simp] theorem width_PROF_DEVICE : Reg.width .PROF_DEVICE = 1 := rfl
@[simp] theorem width_PROF_WAITED : Reg.width .PROF_WAITED = 8 := rfl
@[simp] theorem width_PROF_LOGTOK : Reg.width .PROF_LOGTOK = 32 := rfl
@[simp] theorem width_PROFSEL : Reg.width .PROFSEL = 2 := rfl
@[simp] theorem width_ROLE_STRAP : Reg.width .ROLE_STRAP = 1 := rfl
@[simp] theorem width_RING_RESET : Reg.width .RING_RESET = 1 := rfl
@[simp] theorem width_OFS_SET : Reg.width .OFS_SET = 1 := rfl
@[simp] theorem width_UP_WORD : Reg.width .UP_WORD = 32 := rfl
@[simp] theorem width_DEV_FRESH : Reg.width .DEV_FRESH = 1 := rfl
@[simp] theorem width_DEV_FENCED : Reg.width .DEV_FENCED = 1 := rfl

end Sys2Proof.Laws
end

