-- ==== Sys2Proof/Laws/Runs.lean ====
section
/-! SUPPORT. Short cuts for proofs about runs of commands: folds that keep a field, the guards of commands, the clock, and
the operations that take a slot to a fault. -/

set_option linter.unusedSimpArgs false

namespace Sys2Proof.Laws

open Machine

/-! The values of counters and of fields within their width, as simp lemmas. -/

@[simp] theorem get_count_own {s : State} {r i} : (s.count r i).get r i = min (s.get r i + 1) (2 ^ r.width - 1) := get_count

@[simp] theorem get_countN_own {s : State} {r i n} : (s.countN r i n).get r i = min (s.get r i + n) (2 ^ r.width - 1) := get_countN

@[simp] theorem trunc_within {w v : Nat} (h : v < 2 ^ w) : trunc w v = v := trunc_of_lt h

@[simp] theorem get_fold {α : Type} {f : State → α → State} {r : Reg} {i} {l : List α} {s : State} (h : ∀ s x, (f s x).get r i = s.get r i) :
    (l.foldl f s).get r i = s.get r i := by
  induction l generalizing s with
  | nil => rfl
  | cons a l ih => exact ih.trans (h _ _)

@[simp] theorem dv_fold {α : Type} {f : State → α → State} {r : Reg} {i} {l : List α} {s : State} (h : ∀ s x, (f s x).dv r i = s.dv r i) :
    (l.foldl f s).dv r i = s.dv r i := by
  induction l generalizing s with
  | nil => rfl
  | cons a l ih => exact ih.trans (h _ _)

@[simp] theorem ts_fold {α : Type} {f : State → α → State} {l : List α} {s : State} (h : ∀ s x, (f s x).ts = s.ts) :
    (l.foldl f s).ts = s.ts := by
  induction l generalizing s with
  | nil => rfl
  | cons a l ih => exact ih.trans (h _ _)

@[simp] theorem se_fold {α : Type} {f : State → α → State} {z : State} {l : List α} {s : State} (h : ∀ s x, SameEvents z (f s x) ↔ SameEvents z s)  :
    SameEvents z (l.foldl f s) ↔ SameEvents z s := by
  induction l generalizing s with
  | nil => rfl
  | cons a l ih => exact ih.trans (h _ _)

theorem next_completes {c s t} {e : State → Prop} (h : exec c s = .next t) (h2 : e t) : Completes c s e := ⟨t, h, h2⟩

theorem atStage_run {s n f} (h1 : s.get .BOOT_STAGE 0 = n) (h2 : s.get .BOOT_DONE 0 = 0) : atStage s n f = f s := by
  simp [atStage, h1, State.flag, h2]

theorem nx {x y : State} (h : x = y) : (Host.Outcome.next x : Host.Outcome State Fault Refusal) = .next y := by rw [h]

theorem next_at {t : Nat} {s : State} {n f} (h1 : s.get .BOOT_STAGE 0 = n) (h2 : s.get .BOOT_DONE 0 = 0) :
  atStage (s.atTick t) n f = f (s.atTick t) := atStage_run (by simp [h1]) (by simp [h2])

theorem viaObject_run {s : State} {path : Path} {f : State → State × Nat} (h1 : s.get .SEQ_DOWN 0 = 0) (h2 : path = .can → sdoServed s = true) :
    viaObject s path f = (f (served s)).1.reply (f (served s)).2 [] := by
  have hc' : ¬(path = .can ∧ sdoServed s = false) := by intro h; simp [h2 h.1] at h
  simp [viaObject, hc', State.flag, h1]

theorem foldl_keep {α : Type} {f : State → α → State} {r : Reg} {i} (h : ∀ s x, (f s x).get r i = s.get r i) (l : List α) (s : State) :
    (l.foldl f s).get r i = s.get r i := by
  induction l generalizing s with
  | nil => rfl
  | cons a l ih => exact (ih _).trans (h _ _)

theorem foldl_se {α : Type} {f : State → α → State} {z} (h : ∀ s x, SameEvents z (f s x) ↔ SameEvents z s) (l : List α) (s : State) :
    SameEvents z (l.foldl f s) ↔ SameEvents z s := by
  induction l generalizing s with
  | nil => rfl
  | cons a l ih => exact (ih _).trans (h _ _)

/-- a fold that sets what it visits and keeps what it has set -/
theorem foldl_set {α : Type} {f : State → α → State} {Q : State → α → Prop} (hset : ∀ s a, Q (f s a) a) (hkeep : ∀ s a b, Q s b → Q (f s a) b)
    (l : List α) (s : State) : ∀ a ∈ l, Q (l.foldl f s) a := by
  induction l generalizing s with
  | nil => simp
  | cons a l ih =>
    intro b hb
    rcases List.mem_cons.mp hb with rfl | hb
    · have : ∀ (l : List α) s, Q s b → Q (l.foldl f s) b := by
        intro l; induction l with
        | nil => exact fun _ h => h
        | cons c l ih => exact fun s h => ih _ (hkeep _ _ _ h)
      exact this l _ (hset _ _)
    · exact ih _ b hb

theorem portsOff_off {s : State} {ps p} (h : p ∈ ps) : (portsOff s ps).get .PORT_DRIVE p = 0 := by
  refine foldl_set (f := portOff) (Q := fun s p => s.get .PORT_DRIVE p = 0) ?_ ?_ ps s p h
  · intro s a; simp [portOff]
  · intro s a b h; by_cases e : b = a <;> simp [portOff, e, h]

theorem ts_run {s : State} {t} (h : s.get .TB_RUNNING 0 = 1) : (s.atTick t).ts = max s.ts t := by simp [atTick_ts, State.flag, h]

/-- The event is the last one posted on the way to `t`. -/
theorem lastEvent_of {x t : State} {a b c d} (h : SameEvents (x.post a b c d) t) : LastEvent t a b c d := ⟨x, h⟩

theorem er_cause {s : State} {i c a : Nat} (h : slotFaulted s i = false) (hc : c < 256) : (enterReaction s i c a).get .FAULT_CAUSE i = c ∧ (enterReaction s i c a).drive i = 6 := by
  have : ∀ a, slotFaulted (s.post 2304 3 i a) i = false := by intro a; rw [← h]; unfold slotFaulted State.drive; simp (disch := first | decide | omega | (intros; simp (disch := first | decide | omega | (intros; simp (disch := decide); done)) [*]; done)) [*]
  unfold enterReaction State.drive
  by_cases g : gdCause c = true <;> simp (disch := first | decide | omega | (intros; simp (disch := first | decide | omega | (intros; simp (disch := decide); done)) [*]; done)) [trunc_of_lt (show c < 2 ^ 8 from hc), dsFaultReaction, *]

theorem pf_cause {s : State} {i c r : Nat} (h : slotFaulted s i = false) (hc : c < 256) : (plannedFault s i c r).get .FAULT_CAUSE i = c ∧ ((plannedFault s i c r).get .DRIVE_STATE i = 6 ∨ (plannedFault s i c r).get .DRIVE_STATE i = 7) := by
  obtain ⟨a, b⟩ := er_cause (a := 0) h hc
  unfold State.drive at b
  unfold plannedFault; simp only [h]
  by_cases g : ((s.drive i == dsEnabled || s.drive i == dsQuickStop) && s.get Reg.SB_STATE i == 0 && !rideThrough s i) = true
  · simp (disch := first | decide | omega | (intros; simp (disch := first | decide | omega | (intros; simp (disch := decide); done)) [*]; done)) [g, *]
  · simp (disch := first | decide | omega | (intros; simp (disch := first | decide | omega | (intros; simp (disch := decide); done)) [*]; done)) [g, driveDown, dsFault, *]

theorem cut_fc (s : State) (i j) : (driveDown s i 7).get .FAULT_CAUSE j = s.get .FAULT_CAUSE j := by simp (disch := first | decide | omega | (intros; simp (disch := first | decide | omega | (intros; simp (disch := decide); done)) [*]; done)) [*]

theorem bf_cause {s : State} {i c r a: Nat} (h : slotFaulted s i = false) (hc : c < 256) : (bathFault s [i] r c a).get .FAULT_CAUSE i = c ∧ (bathFault s [i] r c a).get .DRIVE_STATE i = 7 := by
  obtain ⟨a, b⟩ := er_cause (a := a) h hc
  unfold bathFault; simp (disch := first | decide | omega | (intros; simp (disch := first | decide | omega | (intros; simp (disch := decide); done)) [*]; done)) [driveDown, dsFault, *]

end Sys2Proof.Laws
end

