-- ==== Sys2Proof/WellFormed.lean ====
section
/-! DEFINITION. Well-formed commands: every operand within the width the manual gives it. A step does not check
it (log entry 14). -/

namespace Sys2Proof

/-- A number of `n` bits. -/
def fits (n v : Nat) : Bool := decide (v < 2 ^ n)

/-- A signed number of `n` bits. -/
def fitsSigned (n : Nat) (z : Int) : Bool := decide (-(2 ^ (n - 1) : Nat) ≤ z ∧ z < (2 ^ (n - 1) : Nat))

def byteList (l : List Nat) : Bool := l.all (fits 8)

def wordList (l : List Nat) : Bool := l.all (fits 32)

/-- Word addresses of SRAM. -/
def sramWords (l : List Nat) : Bool := l.all fun a => decide (0x400000 ≤ a ∧ a < 0x480000 ∧ a % 4 = 0)

def requestFits (r : Request) : Bool :=
  fits 8 r.ver && fits 8 r.flags && fits 8 r.seq && fits 32 r.ctr && byteList r.payload && fits 16 r.payload.length

def frameFits (f : RingFrame) : Bool :=
  fits 8 f.ringSize && fits 16 f.ringId && fits 32 f.cycle && fits 64 f.tM && fits 8 f.goMap && fits 8 f.msgDest && fits 8 f.msgOwner
    && fits 64 f.tGo && fits 64 f.tSheet && fits 48 f.corr && fits 32 f.dnCtrl && wordList f.words

def upFits (u : RingUp) : Bool := fits 5 u.position && fits 32 u.stat && wordList u.words

def enumFits : EnumFrame → Bool
  | .passes position ringId => fits 5 position && fits 16 ringId
  | .returns layouts _ _ => decide (layouts.length ≤ 31) && layouts.all fun l => l.length == 8 && l.all fun x => fits 2 x.1 && fits 2 x.2

def selectorFits : Option (Nat × Nat × Nat × Nat) → Bool
  | none => true
  | some (v, p, r, n) => wordList [v, p, r, n]

def rangeFits : Option (Nat × Nat × Nat × Nat × Nat × Nat) → Bool
  | none => true
  | some (v, p, rl, rh, sl, sh) => wordList [v, p, rl, rh, sl, sh]

/-- The entries a worker delivers of a ring sheet: four words each. -/
def partsFit (parts : List (Nat × List (List Nat))) : Bool :=
  parts.all fun x => fits 5 x.1 && x.2.all fun ws => ws.length == 4 && wordList ws

/-- Offset, gain and check code of a calibration. -/
def resultsFit (l : List (Int × Nat × Nat)) : Bool := l.all fun r => fitsSigned 16 r.1 && fits 16 r.2.1 && fits 16 r.2.2

/-- Every operand of a command within its width. -/
def WellFormed (c : Instr) : Bool :=
  match c with
  | .powerOnReset others _ _ => fits 5 others
  | .vcoreBrownOut others _ _ => fits 5 others
  | .vioBrownOut others _ _ => fits 5 others
  | .resetn others _ _ => fits 5 others
  | .devReset _ value _ _ => fits 32 value
  | .bootTimebaseLock _ => true
  | .crystalLossWait _ _ => true
  | .bootRom t => fits 64 t
  | .bootPatch t => fits 64 t
  | .bootProfile t => fits 64 t
  | .vanaReady t => fits 64 t
  | .bootCalibration t results => fits 64 t && resultsFit results
  | .bootBist t dead => fits 64 t && fits 10 dead
  | .bootBankRelease t => fits 64 t
  | .bootDone t elapsed => fits 64 t && fits 32 elapsed
  | .tbApply => true
  | .timebaseLoss t _ _ => fits 64 t
  | .timebaseRestart gap levels => fits 32 gap && byteList levels
  | .statusTick => true
  | .delaylineCalibration t elems => fits 64 t && fits 8 elems
  | .ddieWatchdogExpiry t _ => fits 64 t
  | .ddieRelease t _ => fits 64 t
  | .spiCommandHeader cmd addr => fits 8 cmd && fits 24 addr
  | .spiWriteWord w => fits 32 w
  | .spiReadWord _ => true
  | .spiFrameEnd _ => true
  | .registerWrite _ addr word hwMask hwData inc => fits 24 addr && fits 32 word && fits 16 hwMask && fits 16 hwData && fitsSigned 16 inc
  | .wideLowWordRead _ addr => fits 24 addr
  | .wideHighWordWrite _ addr word => fits 24 addr && fits 32 word
  | .regWinDataRead => true
  | .regWinDataWrite w => fits 32 w
  | .regWinBlockRead => true
  | .regWinBlockWrite bytes => byteList bytes
  | .objectWrite _ index sub bytes => fits 16 index && fits 8 sub && byteList bytes
  | .slackMinClr _ => true
  | .engineCycle _ accept _ _ epoch => fits 64 accept && fits 4 epoch
  | .slackFullRateReturn _ => true
  | .deadlineMissStrip _ => true
  | .deadlineMissMigration _ => true
  | .tagWaitRelease => true
  | .helperResult _ epoch => fits 4 epoch
  | .tagReclaim t _ => fits 64 t
  | .epochDeferredAdvance t _ => fits 64 t
  | .sramScrub t single double => fits 64 t && sramWords single && sramWords double
  | .qwrWrite _ _ word => fits 32 word
  | .qrdWrite _ _ word => fits 32 word
  | .qreset _ offered => fits 16 offered
  | .portmapApply value => fits 32 value
  | .portmapSetDevelop _ => true
  | .segWrite _ bytes => byteList bytes
  | .segPdoEnqueue _ w => fits 32 w
  | .segRestart _ => true
  | .segmentStartActions t => fits 64 t
  | .accGo _ go => fits 64 go
  | .syncTimeout t _ => fits 64 t
  | .modeChange _ mode => fitsSigned 8 mode
  | .newSetPoint _ cw => fits 16 cw
  | .syncReceived t _ data => fits 64 t && byteList data
  | .csLoss t _ => fits 64 t
  | .enableInterpolation _ _ => true
  | .halt _ => true
  | .haltRelease _ => true
  | .limitSwitchEdge t _ _ _ => fits 64 t
  | .homeSwitchEdge t _ _ => fits 64 t
  | .indexEdge t _ _ => fits 64 t
  | .homingStart _ => true
  | .homingChatter _ => true
  | .homingDistance _ => true
  | .homingNoIndex _ => true
  | .stepEdge t _ _ _ => fits 64 t
  | .sfRestart _ => true
  | .curSenseLost _ => true
  | .busFfStale t _ => fits 64 t
  | .highDutyExit _ => true
  | .standstillReduction t _ => fits 64 t
  | .openWinding _ => true
  | .curSumErr _ => true
  | .stallDetected _ => true
  | .stallFault t _ => fits 64 t
  | .dcProbeStart t _ => fits 64 t
  | .daxisProbeStart t _ => fits 64 t
  | .probeComplete t _ => fits 64 t
  | .vwCal _ _ => true
  | .periodStart _ => true
  | .loadAll _ => true
  | .groupWrite _ g => fits 16 g
  | .pwmEnWrite _ _ => true
  | .shortCircuitTrip t _ _ _ => fits 64 t
  | .tripnActive t _ => fits 64 t
  | .tripLatch t _ => fits 64 t
  | .tripClr _ => true
  | .pwmEventFire t _ _ => fits 64 t
  | .trigoPulseEnd t _ => fits 64 t
  | .interlockTimeout t _ => fits 64 t
  | .gdClr _ _ => true
  | .legTestResult t _ _ => fits 64 t
  | .ilkMaxClr _ => true
  | .gdApply _ => true
  | .vdrvLockout t _ mv => fits 64 t && fits 32 mv
  | .vdrvLockoutRelease t _ mv => fits 64 t && fits 32 mv
  | .ddieBankRelease t _ => fits 64 t
  | .bootstrapLockout t _ => fits 64 t
  | .bootstrapUvFault t _ => fits 64 t
  | .vbusReading t mv => fits 64 t && fits 32 mv
  | .busStale t => fits 64 t
  | .busCoast t _ => fits 64 t
  | .coastEnd t => fits 64 t
  | .rtStop t => fits 64 t
  | .hardOvervoltage t _ => fits 64 t
  | .ovStopBathEnd t => fits 64 t
  | .dieOverTemperature t _ => fits 64 t
  | .hsHoldExpiry t _ => fits 64 t
  | .sbStillExpiry t _ => fits 64 t
  | .sbCmd value => fits 32 value
  | .shutdown _ => true
  | .switchOn _ => true
  | .enableOperation _ => true
  | .disableOperation _ => true
  | .quickStop _ => true
  | .disableVoltage _ => true
  | .faultReset _ _ => true
  | .encoderEdge t _ _ _ => fits 64 t
  | .hallEdge t _ state => fits 64 t && fits 8 state
  | .encFault t _ => fits 64 t
  | .encPosPreset _ count => fitsSigned 48 count
  | .speedWindowEnd _ => true
  | .stillDetected t _ => fits 64 t
  | .encAligned t _ => fits 64 t
  | .followError t _ => fits 64 t
  | .encFaultClr _ => true
  | .encAlign _ => true
  | .capArm _ => true
  | .csShoot t => fits 64 t
  | .csCancel => true
  | .contactSheetFire => true
  | .conversionResult t _ ch raw _ epoch => fits 64 t && fits 8 ch && fitsSigned 16 raw && fits 4 epoch
  | .injectedConversionStart t _ => fits 64 t
  | .xportMonitorSample t _ => fits 64 t
  | .converterCheck t _ a b port _ => fits 64 t && fitsSigned 16 a && fitsSigned 16 b && fits 5 port
  | .converterRetirement t _ _ => fits 64 t
  | .selfCalibrationDone t _ ofs gain code => fits 64 t && fitsSigned 16 ofs && fits 16 gain && fits 16 code
  | .converterReturn t _ => fits 64 t
  | .periodicCalibrationDue t _ => fits 64 t
  | .calibrationDeferredStart t _ => fits 64 t
  | .calStart _ => true
  | .syscalZero _ => true
  | .syscalRef _ => true
  | .syscalAverageDone t code _ => fits 64 t && fitsSigned 16 code
  | .thermalScanDue t _ => fits 64 t
  | .scanResult t _ a b c _ => fits 64 t && fits 16 a && fits 16 b && fits 16 c
  | .thmNoScan t _ => fits 64 t
  | .thmSuspect t _ => fits 64 t
  | .thmFailed t _ => fits 64 t
  | .thmSubstitute t _ => fits 64 t
  | .thmRecovered t _ => fits 64 t
  | .snsEnWrite _ _ => true
  | .thrHoldExpiry t _ => fits 64 t
  | .budgetEvaluation t => fits 64 t
  | .testStripStart t => fits 64 t
  | .stripComplete t _ => fits 64 t
  | .voteReplayDone t _ => fits 64 t
  | .engineBistDone t _ _ => fits 64 t
  | .noPostPortsOff t _ => fits 64 t
  | .migrate mask => fits 16 mask
  | .migrationCutover t _ => fits 64 t
  | .coldTakeover _ => true
  | .domainRestart _ d => fits 8 d
  | .domainRestartDone t _ => fits 64 t
  | .seqRestart _ value => fits 32 value
  | .sequencerWatchdog t => fits 64 t
  | .sequencerRestartDone t _ => fits 64 t
  | .canBusOff t _ => fits 64 t
  | .canSilenceTimeout t _ => fits 64 t
  | .canBusRestored t _ => fits 64 t
  | .linkEnumeration => true
  | .linkRestart => true
  | .enumerationFrame arg => enumFits arg
  | .linkCycleStart => true
  | .cycleFrame _ arrival frame => fits 64 arrival && frameFits frame
  | .cycleFrameReturn _ _ _ breakAt ups => fits 8 breakAt && ups.all upFits
  | .roundTripProbe _ trip turnaround => fits 32 trip && fits 32 turnaround
  | .workerLocked => true
  | .linkLaneDown t _ => fits 64 t
  | .linkLaneUp t _ => fits 64 t
  | .workerSelfFence t => fits 64 t
  | .managerFence t _ => fits 64 t
  | .workerRejoin t _ epoch ofs => fits 64 t && fits 4 epoch && fits 64 ofs
  | .ringSheet t => fits 64 t
  | .ringSheetDone t parts => fits 64 t && partsFit parts
  | .tunnelTransfer t _ bytes abort data => fits 64 t && byteList bytes && fits 32 abort && byteList data
  | .tunnelTimeout t => fits 64 t
  | .nmtStart t _ node => fits 64 t && fits 8 node
  | .nmtStop t _ node => fits 64 t && fits 8 node
  | .nmtEnterPreOperational t _ node => fits 64 t && fits 8 node
  | .nmtResetCommunication t _ node => fits 64 t && fits 8 node
  | .nmtResetNode t _ node => fits 64 t && fits 8 node
  | .resetNodeReload t => fits 64 t
  | .lssSwitchState t _ mode selector => fits 64 t && fits 8 mode && selectorFits selector
  | .lssConfigureNodeId t _ node => fits 64 t && fits 8 node
  | .lssConfigureBitTiming t _ table entry => fits 64 t && fits 8 table && fits 8 entry
  | .lssActivateBitTiming t _ delay => fits 64 t && fits 16 delay
  | .lssStoreConfiguration t _ => fits 64 t
  | .lssInquire t _ what => fits 64 t && fits 8 what
  | .lssIdentify t _ range => fits 64 t && rangeFits range
  | .rpdoReceived t _ id data => fits 64 t && fits 11 id && byteList data
  | .timeReceived t _ data => fits 64 t && byteList data
  | .tpdoEventTimer t _ => fits 64 t
  | .tpdoInhibitExpiry t _ => fits 64 t
  | .heartbeatProduce t => fits 64 t
  | .heartbeatConsumed t _ node state => fits 64 t && fits 8 node && fits 8 state
  | .communicationLoss t => fits 64 t
  | .emcyInhibitExpiry t => fits 64 t
  | .storeParameters sub value => fits 8 sub && fits 32 value
  | .restoreDefaultParameters sub value => fits 8 sub && fits 32 value
  | .usbFrameGap t => fits 64 t
  | .usbDtrFall t => fits 64 t
  | .identify t _ req => fits 64 t && requestFits req
  | .objRead t _ req => fits 64 t && requestFits req
  | .objWrite t _ req => fits 64 t && requestFits req
  | .regRead t _ req => fits 64 t && requestFits req
  | .regWrite t _ req => fits 64 t && requestFits req
  | .eventPeek t _ req => fits 64 t && requestFits req
  | .health t _ req => fits 64 t && requestFits req
  | .mbxInCommit word => fits 32 word
  | .mbxOutRead => true
  | .spiOutTimeout t => fits 64 t
  | .xomorFrameWrite bytes => byteList bytes
  | .xomorFrameRead => true
  | .sessHello t _ req => fits 64 t && requestFits req
  | .sessProve t _ req => fits 64 t && requestFits req
  | .sessClose t _ req => fits 64 t && requestFits req
  | .sessCommit t _ req => fits 64 t && requestFits req
  | .sessDiscard t _ req => fits 64 t && requestFits req
  | .sessionIdleExpiry t => fits 64 t
  | .sessProveTimeout t => fits 64 t
  | .claim t _ req => fits 64 t && requestFits req
  | .revoke t _ req => fits 64 t && requestFits req
  | .identity t _ req => fits 64 t && requestFits req
  | .profBegin t _ req => fits 64 t && requestFits req
  | .profData t _ req => fits 64 t && requestFits req
  | .profEnd t _ req => fits 64 t && requestFits req
  | .profSelect _ value => fits 32 value
  | .patchBegin t _ req => fits 64 t && requestFits req
  | .patchData t _ req => fits 64 t && requestFits req
  | .patchEnd t _ req => fits 64 t && requestFits req
  | .patchActivate t _ req => fits 64 t && requestFits req
  | .auditRead t _ req => fits 64 t && requestFits req
  | .auditSeal t _ req => fits 64 t && requestFits req
  | .svcHoursIncrement t => fits 64 t
  | .domOffReq _ value => fits 32 value
  | .domainSwitched t _ => fits 64 t
  | .bootstrapLockoutRelease t _ => fits 64 t
  | .busComparatorRelease t _ _ _ => fits 64 t
  | .dieOverTemperatureRelease t _ temp => fits 64 t && fits 16 temp
  | .tripnRelease t _ => fits 64 t
  | .vwMaxageExpiry t _ => fits 64 t
  | .enumerationTimeout t => fits 64 t
  | .canReceiveOverrun t _ => fits 64 t
  | .canBusOffRecovered t _ => fits 64 t
  | .helperHandshakeFault t _ => fits 64 t

end Sys2Proof
end

