-- ==== Sys2Proof/Tests/Slice0.lean ====
section
/-! SUPPORT. The smoke test of well-formedness, small tests of single commands, and for every statement states and operands
that meet the hypotheses of each of its clauses. -/

namespace Sys2Proof.Tests

open Sys2Proof Machine

set_option Elab.async false

/-- the time base runs and every domain is on -/
def on : State := (State.reset.put .TB_RUNNING 0 1).put .DOM_ON 0 4095

/-- fields and developed copies put over `on` -/
def given (l : List (Reg × Nat × Nat)) (d : List (Reg × Nat × Nat) := []) : State :=
  d.foldl (fun s x => s.putDev x.1 x.2.1 x.2.2) (l.foldl (fun s x => s.put x.1 x.2.1 x.2.2) on)

/-- a device of serial number 7 with the base point as its owner's and its patches' key, and a session key -/
def ownerKey : List Nat :=
  [107, 23, 209, 242, 225, 44, 66, 71, 248, 188, 230, 229, 99, 164, 64, 242, 119, 3, 125, 129, 45, 235, 51, 160, 244, 161, 57, 69, 216, 152, 194, 150, 79, 227, 66, 226, 254, 26, 127, 155, 142, 231, 235, 74, 124, 15, 158, 22, 43, 206, 51, 87, 107, 49, 94, 206, 203, 182, 64, 104, 55, 191, 81, 245]

def owned : Security :=
  { State.reset.sec with
    ownerHash := [216, 117, 219, 125, 239, 35, 34, 54, 174, 199, 56, 198, 176, 187, 62, 128, 20, 47, 93, 15, 216, 244, 223, 36, 254, 214, 238, 245, 203, 181, 13, 159]
    identity := ⟨7, [1], [], ownerKey⟩, key := List.replicate 16 1 }

/-- a request and a cycle frame whose every field fits -/
def request : Request := ⟨1, 0, 0, 0, [], true⟩

def frame : RingFrame :=
  ⟨2, 0, 0, 0, 0, false, false, false, 255, 255, 0, 0, true, 0, true, 0, [], true⟩

theorem test_ill_formed_1 :
    ([.powerOnReset 0x20 0 false, .vcoreBrownOut 0x20 0 false, .vioBrownOut 0x20 0 false, .resetn 0x20 0 false,
     .devReset .spi 0x100000000 0 false, .bootRom 0x10000000000000000, .bootPatch 0x10000000000000000,
     .bootProfile 0x10000000000000000, .vanaReady 0x10000000000000000, .bootCalibration 0x10000000000000000 [],
     .bootCalibration 0 [(32768, 0, 0)], .bootCalibration 0 [(0, 0x10000, 0)], .bootCalibration 0 [(0, 0, 0x10000)],
     .bootBist 0x10000000000000000 0, .bootBist 0 0x400, .bootBankRelease 0x10000000000000000,
     .bootDone 0x10000000000000000 0, .bootDone 0 0x100000000, .timebaseLoss 0x10000000000000000 false false,
     .timebaseRestart 0x100000000 [], .timebaseRestart 0 [256], .delaylineCalibration 0x10000000000000000 0,
     .delaylineCalibration 0 0x100, .ddieWatchdogExpiry 0x10000000000000000 0, .ddieRelease 0x10000000000000000 0,
     .spiCommandHeader 0x100 0, .spiCommandHeader 0 0x1000000, .spiWriteWord 0x100000000,
     .registerWrite .spi 0x1000000 0 0 0 0, .registerWrite .spi 0 0x100000000 0 0 0, .registerWrite .spi 0 0 0x10000 0 0,
     .registerWrite .spi 0 0 0 0x10000 0, .registerWrite .spi 0 0 0 0 0x8000, .registerWrite .spi 0 0 0 0 (-0x8001),
     .wideLowWordRead .spi 0x1000000, .wideHighWordWrite .spi 0x1000000 0, .wideHighWordWrite .spi 0 0x100000000,
     .regWinDataWrite 0x100000000, .regWinBlockWrite [256], .objectWrite .spi 0x10000 0 [], .objectWrite .spi 0 0x100 [],
     .objectWrite .spi 0 0 [256], .engineCycle 0 0x10000000000000000 false false 0, .engineCycle 0 0 false false 0x10,
     .helperResult 0 0x10] : List Instr).all (fun c => !WellFormed c) = true := by decide +kernel

theorem test_ill_formed_2 :
    ([.tagReclaim 0x10000000000000000 0, .epochDeferredAdvance 0x10000000000000000 0, .sramScrub 0x10000000000000000 [] [],
     .sramScrub 0 [0x3FFFFC] [], .sramScrub 0 [0x480000] [], .sramScrub 0 [0x400002] [], .sramScrub 0 [] [0x3FFFFC],
     .sramScrub 0 [] [0x480000], .sramScrub 0 [] [0x400002], .qwrWrite .spi 0 0x100000000, .qrdWrite .spi 0 0x100000000,
     .qreset 0 0x10000, .portmapApply 0x100000000, .segWrite 0 [256], .segPdoEnqueue 0 0x100000000,
     .segmentStartActions 0x10000000000000000, .accGo 0 0x10000000000000000, .syncTimeout 0x10000000000000000 0,
     .modeChange 0 0x80, .modeChange 0 (-0x81), .newSetPoint 0 0x10000, .syncReceived 0x10000000000000000 0 [],
     .syncReceived 0 0 [256], .csLoss 0x10000000000000000 0, .limitSwitchEdge 0x10000000000000000 0 false false,
     .homeSwitchEdge 0x10000000000000000 0 false, .indexEdge 0x10000000000000000 0 false,
     .stepEdge 0x10000000000000000 0 false false, .busFfStale 0x10000000000000000 0,
     .standstillReduction 0x10000000000000000 0, .stallFault 0x10000000000000000 0, .dcProbeStart 0x10000000000000000 0,
     .daxisProbeStart 0x10000000000000000 0, .probeComplete 0x10000000000000000 0, .groupWrite 0 0x10000,
     .shortCircuitTrip 0x10000000000000000 0 false false, .tripnActive 0x10000000000000000 0,
     .tripLatch 0x10000000000000000 0, .pwmEventFire 0x10000000000000000 0 0, .trigoPulseEnd 0x10000000000000000 0,
     .interlockTimeout 0x10000000000000000 0, .legTestResult 0x10000000000000000 0 false,
     .vdrvLockout 0x10000000000000000 0 0, .vdrvLockout 0 0 0x100000000, .vdrvLockoutRelease 0x10000000000000000 0 0] : List Instr).all (fun c => !WellFormed c) = true := by decide +kernel

theorem test_ill_formed_3 :
    ([.vdrvLockoutRelease 0 0 0x100000000, .ddieBankRelease 0x10000000000000000 0, .bootstrapLockout 0x10000000000000000 0,
     .bootstrapUvFault 0x10000000000000000 0, .vbusReading 0x10000000000000000 0, .vbusReading 0 0x100000000,
     .busStale 0x10000000000000000, .busCoast 0x10000000000000000 0, .coastEnd 0x10000000000000000,
     .rtStop 0x10000000000000000, .hardOvervoltage 0x10000000000000000 0, .ovStopBathEnd 0x10000000000000000,
     .dieOverTemperature 0x10000000000000000 0, .hsHoldExpiry 0x10000000000000000 0, .sbStillExpiry 0x10000000000000000 0,
     .sbCmd 0x100000000, .encoderEdge 0x10000000000000000 0 false false, .hallEdge 0x10000000000000000 0 0,
     .hallEdge 0 0 0x100, .encFault 0x10000000000000000 0, .encPosPreset 0 0x800000000000,
     .encPosPreset 0 (-0x800000000001), .stillDetected 0x10000000000000000 0, .encAligned 0x10000000000000000 0,
     .followError 0x10000000000000000 0, .csShoot 0x10000000000000000, .conversionResult 0x10000000000000000 0 0 0 false 0,
     .conversionResult 0 0 0x100 0 false 0, .conversionResult 0 0 0 0x8000 false 0,
     .conversionResult 0 0 0 (-0x8001) false 0, .conversionResult 0 0 0 0 false 0x10,
     .injectedConversionStart 0x10000000000000000 0, .xportMonitorSample 0x10000000000000000 0,
     .converterCheck 0x10000000000000000 0 0 0 0 false, .converterCheck 0 0 0x8000 0 0 false,
     .converterCheck 0 0 (-0x8001) 0 0 false, .converterCheck 0 0 0 0x8000 0 false,
     .converterCheck 0 0 0 (-0x8001) 0 false, .converterCheck 0 0 0 0 0x20 false,
     .converterRetirement 0x10000000000000000 0 0, .selfCalibrationDone 0x10000000000000000 0 0 0 0,
     .selfCalibrationDone 0 0 0x8000 0 0, .selfCalibrationDone 0 0 (-0x8001) 0 0, .selfCalibrationDone 0 0 0 0x10000 0,
     .selfCalibrationDone 0 0 0 0 0x10000] : List Instr).all (fun c => !WellFormed c) = true := by decide +kernel

theorem test_ill_formed_4 :
    ([.converterReturn 0x10000000000000000 0, .periodicCalibrationDue 0x10000000000000000 0,
     .calibrationDeferredStart 0x10000000000000000 0, .syscalAverageDone 0x10000000000000000 0 false,
     .syscalAverageDone 0 0x8000 false, .syscalAverageDone 0 (-0x8001) false, .thermalScanDue 0x10000000000000000 0,
     .scanResult 0x10000000000000000 0 0 0 0 false, .scanResult 0 0 0x10000 0 0 false, .scanResult 0 0 0 0x10000 0 false,
     .scanResult 0 0 0 0 0x10000 false, .thmNoScan 0x10000000000000000 0, .thmSuspect 0x10000000000000000 0,
     .thmFailed 0x10000000000000000 0, .thmSubstitute 0x10000000000000000 0, .thmRecovered 0x10000000000000000 0,
     .thrHoldExpiry 0x10000000000000000 0, .budgetEvaluation 0x10000000000000000, .testStripStart 0x10000000000000000,
     .stripComplete 0x10000000000000000 false, .voteReplayDone 0x10000000000000000 0,
     .engineBistDone 0x10000000000000000 0 false, .noPostPortsOff 0x10000000000000000 0, .migrate 0x10000,
     .migrationCutover 0x10000000000000000 0, .domainRestart .spi 0x100, .domainRestartDone 0x10000000000000000 0,
     .seqRestart .spi 0x100000000, .sequencerWatchdog 0x10000000000000000, .sequencerRestartDone 0x10000000000000000 false,
     .canBusOff 0x10000000000000000 0, .canSilenceTimeout 0x10000000000000000 0, .canBusRestored 0x10000000000000000 0,
     .enumerationFrame (.passes 32 0), .enumerationFrame (.passes 0 0x10000),
     .enumerationFrame (.returns (List.replicate 32 (List.replicate 8 (0, 0))) false false),
     .enumerationFrame (.returns [[]] false false), .enumerationFrame (.returns [List.replicate 8 (4, 0)] false false),
     .enumerationFrame (.returns [List.replicate 8 (0, 4)] false false), .cycleFrame 0 0x10000000000000000 frame,
     .cycleFrame 0 0 { frame with ringSize := 256 }, .cycleFrame 0 0 { frame with ringId := 0x10000 },
     .cycleFrame 0 0 { frame with cycle := 0x100000000 }, .cycleFrame 0 0 { frame with tM := 0x10000000000000000 },
     .cycleFrame 0 0 { frame with goMap := 256 }] : List Instr).all (fun c => !WellFormed c) = true := by decide +kernel

theorem test_ill_formed_5 :
    ([.cycleFrame 0 0 { frame with msgDest := 256 }, .cycleFrame 0 0 { frame with msgOwner := 256 },
     .cycleFrame 0 0 { frame with tGo := 0x10000000000000000 },
     .cycleFrame 0 0 { frame with tSheet := 0x10000000000000000 }, .cycleFrame 0 0 { frame with corr := 0x1000000000000 },
     .cycleFrame 0 0 { frame with dnCtrl := 0x100000000 }, .cycleFrame 0 0 { frame with words := [0x100000000] },
     .cycleFrameReturn 0 false false 0x100 [], .cycleFrameReturn 0 false false 0 [⟨32, 0, [], true⟩],
     .cycleFrameReturn 0 false false 0 [⟨1, 0x100000000, [], true⟩],
     .cycleFrameReturn 0 false false 0 [⟨1, 0, [0x100000000], true⟩], .roundTripProbe 0 0x100000000 0,
     .roundTripProbe 0 0 0x100000000, .linkLaneDown 0x10000000000000000 0, .linkLaneUp 0x10000000000000000 0,
     .workerSelfFence 0x10000000000000000, .managerFence 0x10000000000000000 0, .workerRejoin 0x10000000000000000 0 0 0,
     .workerRejoin 0 0 0x10 0, .workerRejoin 0 0 0 0x10000000000000000, .ringSheet 0x10000000000000000,
     .ringSheetDone 0x10000000000000000 [], .ringSheetDone 0 [(32, [])], .ringSheetDone 0 [(1, [[0, 0, 0]])],
     .ringSheetDone 0 [(1, [[0, 0, 0, 0x100000000]])], .tunnelTransfer 0x10000000000000000 false [] 0 [],
     .tunnelTransfer 0 false [256] 0 [], .tunnelTransfer 0 false [] 0x100000000 [], .tunnelTransfer 0 false [] 0 [256],
     .tunnelTimeout 0x10000000000000000, .nmtStart 0x10000000000000000 0 0, .nmtStart 0 0 0x100,
     .nmtStop 0x10000000000000000 0 0, .nmtStop 0 0 0x100, .nmtEnterPreOperational 0x10000000000000000 0 0,
     .nmtEnterPreOperational 0 0 0x100, .nmtResetCommunication 0x10000000000000000 0 0, .nmtResetCommunication 0 0 0x100,
     .nmtResetNode 0x10000000000000000 0 0, .nmtResetNode 0 0 0x100, .resetNodeReload 0x10000000000000000,
     .lssSwitchState 0x10000000000000000 0 0 none, .lssSwitchState 0 0 0x100 none,
     .lssSwitchState 0 0 0 (some (0, 0, 0, 0x100000000)), .lssConfigureNodeId 0x10000000000000000 0 0] : List Instr).all (fun c => !WellFormed c) = true := by decide +kernel

theorem test_ill_formed_6 :
    ([.lssConfigureNodeId 0 0 0x100, .lssConfigureBitTiming 0x10000000000000000 0 0 0, .lssConfigureBitTiming 0 0 0x100 0,
     .lssConfigureBitTiming 0 0 0 0x100, .lssActivateBitTiming 0x10000000000000000 0 0, .lssActivateBitTiming 0 0 0x10000,
     .lssStoreConfiguration 0x10000000000000000 0, .lssInquire 0x10000000000000000 0 0, .lssInquire 0 0 0x100,
     .lssIdentify 0x10000000000000000 0 none, .lssIdentify 0 0 (some (0, 0, 0, 0, 0, 0x100000000)),
     .rpdoReceived 0x10000000000000000 0 0 [], .rpdoReceived 0 0 0x800 [], .rpdoReceived 0 0 0 [256],
     .timeReceived 0x10000000000000000 0 [], .timeReceived 0 0 [256], .tpdoEventTimer 0x10000000000000000 0,
     .tpdoInhibitExpiry 0x10000000000000000 0, .heartbeatProduce 0x10000000000000000,
     .heartbeatConsumed 0x10000000000000000 0 0 0, .heartbeatConsumed 0 0 0x100 0, .heartbeatConsumed 0 0 0 0x100,
     .communicationLoss 0x10000000000000000, .emcyInhibitExpiry 0x10000000000000000, .storeParameters 0x100 0,
     .storeParameters 0 0x100000000, .restoreDefaultParameters 0x100 0, .restoreDefaultParameters 0 0x100000000,
     .usbFrameGap 0x10000000000000000, .usbDtrFall 0x10000000000000000, .identify 0x10000000000000000 .spi request,
     .identify 0 .spi { request with ver := 256 }, .identify 0 .spi { request with flags := 256 },
     .identify 0 .spi { request with seq := 256 }, .identify 0 .spi { request with ctr := 0x100000000 },
     .identify 0 .spi { request with payload := [256] },
     .identify 0 .spi { request with payload := List.replicate 65536 0 }, .objRead 0x10000000000000000 .spi request,
     .objRead 0 .spi { request with ver := 256 }, .objRead 0 .spi { request with flags := 256 },
     .objRead 0 .spi { request with seq := 256 }, .objRead 0 .spi { request with ctr := 0x100000000 },
     .objRead 0 .spi { request with payload := [256] }, .objWrite 0x10000000000000000 .spi request,
     .objWrite 0 .spi { request with ver := 256 }] : List Instr).all (fun c => !WellFormed c) = true := by decide +kernel

theorem test_ill_formed_7 :
    ([.objWrite 0 .spi { request with flags := 256 }, .objWrite 0 .spi { request with seq := 256 },
     .objWrite 0 .spi { request with ctr := 0x100000000 }, .objWrite 0 .spi { request with payload := [256] },
     .regRead 0x10000000000000000 .spi request, .regRead 0 .spi { request with ver := 256 },
     .regRead 0 .spi { request with flags := 256 }, .regRead 0 .spi { request with seq := 256 },
     .regRead 0 .spi { request with ctr := 0x100000000 }, .regRead 0 .spi { request with payload := [256] },
     .regWrite 0x10000000000000000 .spi request, .regWrite 0 .spi { request with ver := 256 },
     .regWrite 0 .spi { request with flags := 256 }, .regWrite 0 .spi { request with seq := 256 },
     .regWrite 0 .spi { request with ctr := 0x100000000 }, .regWrite 0 .spi { request with payload := [256] },
     .eventPeek 0x10000000000000000 .spi request, .eventPeek 0 .spi { request with ver := 256 },
     .eventPeek 0 .spi { request with flags := 256 }, .eventPeek 0 .spi { request with seq := 256 },
     .eventPeek 0 .spi { request with ctr := 0x100000000 }, .eventPeek 0 .spi { request with payload := [256] },
     .health 0x10000000000000000 .spi request, .health 0 .spi { request with ver := 256 },
     .health 0 .spi { request with flags := 256 }, .health 0 .spi { request with seq := 256 },
     .health 0 .spi { request with ctr := 0x100000000 }, .health 0 .spi { request with payload := [256] },
     .mbxInCommit 0x100000000, .spiOutTimeout 0x10000000000000000, .xomorFrameWrite [256],
     .sessHello 0x10000000000000000 .spi request, .sessHello 0 .spi { request with ver := 256 },
     .sessHello 0 .spi { request with flags := 256 }, .sessHello 0 .spi { request with seq := 256 },
     .sessHello 0 .spi { request with ctr := 0x100000000 }, .sessHello 0 .spi { request with payload := [256] },
     .sessProve 0x10000000000000000 .spi request, .sessProve 0 .spi { request with ver := 256 },
     .sessProve 0 .spi { request with flags := 256 }, .sessProve 0 .spi { request with seq := 256 },
     .sessProve 0 .spi { request with ctr := 0x100000000 }, .sessProve 0 .spi { request with payload := [256] },
     .sessClose 0x10000000000000000 .spi request, .sessClose 0 .spi { request with ver := 256 }] : List Instr).all (fun c => !WellFormed c) = true := by decide +kernel

theorem test_ill_formed_8 :
    ([.sessClose 0 .spi { request with flags := 256 }, .sessClose 0 .spi { request with seq := 256 },
     .sessClose 0 .spi { request with ctr := 0x100000000 }, .sessClose 0 .spi { request with payload := [256] },
     .sessCommit 0x10000000000000000 .spi request, .sessCommit 0 .spi { request with ver := 256 },
     .sessCommit 0 .spi { request with flags := 256 }, .sessCommit 0 .spi { request with seq := 256 },
     .sessCommit 0 .spi { request with ctr := 0x100000000 }, .sessCommit 0 .spi { request with payload := [256] },
     .sessDiscard 0x10000000000000000 .spi request, .sessDiscard 0 .spi { request with ver := 256 },
     .sessDiscard 0 .spi { request with flags := 256 }, .sessDiscard 0 .spi { request with seq := 256 },
     .sessDiscard 0 .spi { request with ctr := 0x100000000 }, .sessDiscard 0 .spi { request with payload := [256] },
     .sessionIdleExpiry 0x10000000000000000, .sessProveTimeout 0x10000000000000000,
     .claim 0x10000000000000000 .spi request, .claim 0 .spi { request with ver := 256 },
     .claim 0 .spi { request with flags := 256 }, .claim 0 .spi { request with seq := 256 },
     .claim 0 .spi { request with ctr := 0x100000000 }, .claim 0 .spi { request with payload := [256] },
     .revoke 0x10000000000000000 .spi request, .revoke 0 .spi { request with ver := 256 },
     .revoke 0 .spi { request with flags := 256 }, .revoke 0 .spi { request with seq := 256 },
     .revoke 0 .spi { request with ctr := 0x100000000 }, .revoke 0 .spi { request with payload := [256] },
     .identity 0x10000000000000000 .spi request, .identity 0 .spi { request with ver := 256 },
     .identity 0 .spi { request with flags := 256 }, .identity 0 .spi { request with seq := 256 },
     .identity 0 .spi { request with ctr := 0x100000000 }, .identity 0 .spi { request with payload := [256] },
     .profBegin 0x10000000000000000 .spi request, .profBegin 0 .spi { request with ver := 256 },
     .profBegin 0 .spi { request with flags := 256 }, .profBegin 0 .spi { request with seq := 256 },
     .profBegin 0 .spi { request with ctr := 0x100000000 }, .profBegin 0 .spi { request with payload := [256] },
     .profData 0x10000000000000000 .spi request, .profData 0 .spi { request with ver := 256 },
     .profData 0 .spi { request with flags := 256 }] : List Instr).all (fun c => !WellFormed c) = true := by decide +kernel

theorem test_ill_formed_9 :
    ([.profData 0 .spi { request with seq := 256 }, .profData 0 .spi { request with ctr := 0x100000000 },
     .profData 0 .spi { request with payload := [256] }, .profEnd 0x10000000000000000 .spi request,
     .profEnd 0 .spi { request with ver := 256 }, .profEnd 0 .spi { request with flags := 256 },
     .profEnd 0 .spi { request with seq := 256 }, .profEnd 0 .spi { request with ctr := 0x100000000 },
     .profEnd 0 .spi { request with payload := [256] }, .profSelect .spi 0x100000000,
     .patchBegin 0x10000000000000000 .spi request, .patchBegin 0 .spi { request with ver := 256 },
     .patchBegin 0 .spi { request with flags := 256 }, .patchBegin 0 .spi { request with seq := 256 },
     .patchBegin 0 .spi { request with ctr := 0x100000000 }, .patchBegin 0 .spi { request with payload := [256] },
     .patchData 0x10000000000000000 .spi request, .patchData 0 .spi { request with ver := 256 },
     .patchData 0 .spi { request with flags := 256 }, .patchData 0 .spi { request with seq := 256 },
     .patchData 0 .spi { request with ctr := 0x100000000 }, .patchData 0 .spi { request with payload := [256] },
     .patchEnd 0x10000000000000000 .spi request, .patchEnd 0 .spi { request with ver := 256 },
     .patchEnd 0 .spi { request with flags := 256 }, .patchEnd 0 .spi { request with seq := 256 },
     .patchEnd 0 .spi { request with ctr := 0x100000000 }, .patchEnd 0 .spi { request with payload := [256] },
     .patchActivate 0x10000000000000000 .spi request, .patchActivate 0 .spi { request with ver := 256 },
     .patchActivate 0 .spi { request with flags := 256 }, .patchActivate 0 .spi { request with seq := 256 },
     .patchActivate 0 .spi { request with ctr := 0x100000000 }, .patchActivate 0 .spi { request with payload := [256] },
     .auditRead 0x10000000000000000 .spi request, .auditRead 0 .spi { request with ver := 256 },
     .auditRead 0 .spi { request with flags := 256 }, .auditRead 0 .spi { request with seq := 256 },
     .auditRead 0 .spi { request with ctr := 0x100000000 }, .auditRead 0 .spi { request with payload := [256] },
     .auditSeal 0x10000000000000000 .spi request, .auditSeal 0 .spi { request with ver := 256 },
     .auditSeal 0 .spi { request with flags := 256 }, .auditSeal 0 .spi { request with seq := 256 },
     .auditSeal 0 .spi { request with ctr := 0x100000000 }] : List Instr).all (fun c => !WellFormed c) = true := by decide +kernel

theorem test_ill_formed_10 :
    ([.auditSeal 0 .spi { request with payload := [256] }, .svcHoursIncrement 0x10000000000000000,
     .domOffReq .spi 0x100000000, .domainSwitched 0x10000000000000000 0, .bootstrapLockoutRelease 0x10000000000000000 0,
     .busComparatorRelease 0x10000000000000000 0 false false, .dieOverTemperatureRelease 0x10000000000000000 0 0,
     .dieOverTemperatureRelease 0 0 0x10000, .tripnRelease 0x10000000000000000 0, .vwMaxageExpiry 0x10000000000000000 0,
     .enumerationTimeout 0x10000000000000000, .canReceiveOverrun 0x10000000000000000 0,
     .canBusOffRecovered 0x10000000000000000 0, .helperHandshakeFault 0x10000000000000000 0] : List Instr).all (fun c => !WellFormed c) = true := by decide +kernel

/-- the terms above with nothing wrong are well-formed -/
theorem test_well_formed :
    ([.powerOnReset 0 0 false, .vcoreBrownOut 0 0 false, .vioBrownOut 0 0 false, .resetn 0 0 false,
     .devReset .spi 0 0 false, .bootRom 0, .bootPatch 0, .bootProfile 0, .vanaReady 0, .bootCalibration 0 [],
     .bootBist 0 0, .bootBankRelease 0, .bootDone 0 0, .timebaseLoss 0 false false, .timebaseRestart 0 [],
     .delaylineCalibration 0 0, .ddieWatchdogExpiry 0 0, .ddieRelease 0 0, .spiCommandHeader 0 0, .spiWriteWord 0,
     .registerWrite .spi 0 0 0 0 0, .wideLowWordRead .spi 0, .wideHighWordWrite .spi 0 0, .regWinDataWrite 0,
     .regWinBlockWrite [], .objectWrite .spi 0 0 [], .engineCycle 0 0 false false 0, .helperResult 0 0, .tagReclaim 0 0,
     .epochDeferredAdvance 0 0, .sramScrub 0 [] [], .qwrWrite .spi 0 0, .qrdWrite .spi 0 0, .qreset 0 0, .portmapApply 0,
     .segWrite 0 [], .segPdoEnqueue 0 0, .segmentStartActions 0, .accGo 0 0, .syncTimeout 0 0, .modeChange 0 0,
     .newSetPoint 0 0, .syncReceived 0 0 [], .csLoss 0 0, .limitSwitchEdge 0 0 false false, .homeSwitchEdge 0 0 false,
     .indexEdge 0 0 false, .stepEdge 0 0 false false, .busFfStale 0 0, .standstillReduction 0 0, .stallFault 0 0,
     .dcProbeStart 0 0, .daxisProbeStart 0 0, .probeComplete 0 0, .groupWrite 0 0, .shortCircuitTrip 0 0 false false,
     .tripnActive 0 0, .tripLatch 0 0, .pwmEventFire 0 0 0, .trigoPulseEnd 0 0, .interlockTimeout 0 0,
     .legTestResult 0 0 false, .vdrvLockout 0 0 0, .vdrvLockoutRelease 0 0 0, .ddieBankRelease 0 0, .bootstrapLockout 0 0,
     .bootstrapUvFault 0 0, .vbusReading 0 0, .busStale 0, .busCoast 0 0, .coastEnd 0, .rtStop 0, .hardOvervoltage 0 0,
     .ovStopBathEnd 0, .dieOverTemperature 0 0, .hsHoldExpiry 0 0, .sbStillExpiry 0 0, .sbCmd 0,
     .encoderEdge 0 0 false false, .hallEdge 0 0 0, .encFault 0 0, .encPosPreset 0 0, .stillDetected 0 0, .encAligned 0 0,
     .followError 0 0, .csShoot 0, .conversionResult 0 0 0 0 false 0, .injectedConversionStart 0 0,
     .xportMonitorSample 0 0, .converterCheck 0 0 0 0 0 false, .converterRetirement 0 0 0, .selfCalibrationDone 0 0 0 0 0,
     .converterReturn 0 0, .periodicCalibrationDue 0 0, .calibrationDeferredStart 0 0, .syscalAverageDone 0 0 false,
     .thermalScanDue 0 0, .scanResult 0 0 0 0 0 false, .thmNoScan 0 0, .thmSuspect 0 0, .thmFailed 0 0, .thmSubstitute 0 0,
     .thmRecovered 0 0, .thrHoldExpiry 0 0, .budgetEvaluation 0, .testStripStart 0, .stripComplete 0 false,
     .voteReplayDone 0 0, .engineBistDone 0 0 false, .noPostPortsOff 0 0, .migrate 0, .migrationCutover 0 0,
     .domainRestart .spi 0, .domainRestartDone 0 0, .seqRestart .spi 0, .sequencerWatchdog 0,
     .sequencerRestartDone 0 false, .canBusOff 0 0, .canSilenceTimeout 0 0, .canBusRestored 0 0,
     .enumerationFrame (.passes 0 0), .cycleFrame 0 0 frame, .cycleFrameReturn 0 false false 0 [], .roundTripProbe 0 0 0,
     .linkLaneDown 0 0, .linkLaneUp 0 0, .workerSelfFence 0, .managerFence 0 0, .workerRejoin 0 0 0 0, .ringSheet 0,
     .ringSheetDone 0 [], .tunnelTransfer 0 false [] 0 [], .tunnelTimeout 0, .nmtStart 0 0 0, .nmtStop 0 0 0,
     .nmtEnterPreOperational 0 0 0, .nmtResetCommunication 0 0 0, .nmtResetNode 0 0 0, .resetNodeReload 0,
     .lssSwitchState 0 0 0 none, .lssConfigureNodeId 0 0 0, .lssConfigureBitTiming 0 0 0 0, .lssActivateBitTiming 0 0 0,
     .lssStoreConfiguration 0 0, .lssInquire 0 0 0, .lssIdentify 0 0 none, .rpdoReceived 0 0 0 [], .timeReceived 0 0 [],
     .tpdoEventTimer 0 0, .tpdoInhibitExpiry 0 0, .heartbeatProduce 0, .heartbeatConsumed 0 0 0 0, .communicationLoss 0,
     .emcyInhibitExpiry 0, .storeParameters 0 0, .restoreDefaultParameters 0 0, .usbFrameGap 0, .usbDtrFall 0,
     .identify 0 .spi request, .objRead 0 .spi request, .objWrite 0 .spi request, .regRead 0 .spi request,
     .regWrite 0 .spi request, .eventPeek 0 .spi request, .health 0 .spi request, .mbxInCommit 0, .spiOutTimeout 0,
     .xomorFrameWrite [], .sessHello 0 .spi request, .sessProve 0 .spi request, .sessClose 0 .spi request,
     .sessCommit 0 .spi request, .sessDiscard 0 .spi request, .sessionIdleExpiry 0, .sessProveTimeout 0,
     .claim 0 .spi request, .revoke 0 .spi request, .identity 0 .spi request, .profBegin 0 .spi request,
     .profData 0 .spi request, .profEnd 0 .spi request, .profSelect .spi 0, .patchBegin 0 .spi request,
     .patchData 0 .spi request, .patchEnd 0 .spi request, .patchActivate 0 .spi request, .auditRead 0 .spi request,
     .auditSeal 0 .spi request, .svcHoursIncrement 0, .domOffReq .spi 0, .domainSwitched 0 0, .bootstrapLockoutRelease 0 0,
     .busComparatorRelease 0 0 false false, .dieOverTemperatureRelease 0 0 0, .tripnRelease 0 0, .vwMaxageExpiry 0 0,
     .enumerationTimeout 0, .canReceiveOverrun 0 0, .canBusOffRecovered 0 0, .helperHandshakeFault 0 0] : List Instr).all WellFormed = true := by decide +kernel

/-- the state one command leaves -/
def after (c : Instr) (s : State) : State :=
  match exec c s with
  | .next t => t
  | _ => s

/-- R31: the lowest code is taken, the one below it sets GUARD_REJ -/
theorem test_guard_low : (after (.registerWrite .spi 0x030F08 0xFFFF0028 0 0 0) on).get .SLACK_GUARD 0 = 40 := by decide +kernel

theorem test_guard_below : (after (.registerWrite .spi 0x030F08 0xFFFF0027 0 0 0) on).get .GUARD_REJ 0 = 1 := by decide +kernel

/-- R306: A leading B counts up, B leading A down -/
theorem test_encoder_up :
    (after (.encoderEdge 5 0 true false) (given [] [(.CH_MODE, 0, 1)])).geti .ENC_POS 0 = 1 := by decide +kernel

theorem test_encoder_down :
    (after (.encoderEdge 5 0 false true) (given [] [(.CH_MODE, 0, 1)])).geti .ENC_POS 0 = -1 := by decide +kernel

/-- R206, R309: from state 0b011 to 0b010 is one sector of positive travel -/
theorem test_hall_up :
    (after (.hallEdge 9 0 2) (given [(.HALL_STATE, 0, 3)] [(.CH_MODE, 0, 2)])).geti .ENC_POS 0 = 1 := by decide +kernel

/-- R432: Switch on leads from Ready to switch on to Switched on -/
theorem test_switch_on :
    (after (.switchOn 0) (given [(.DRIVE_STATE, 0, 2), (.VDRV_OK, 0, 1)])).get .DRIVE_STATE 0 = 3 := by decide +kernel

/-- R258: a clear with no source active clears the latch, one with TRIPN low does not -/
theorem test_trip_clear : (after (.tripClr 31) (given [(.TRIP_LATCH, 31, 1)])).get .TRIP_LATCH 31 = 0 := by decide +kernel

theorem test_trip_refused :
    (after (.tripClr 31) (given [(.TRIP_LATCH, 31, 1), (.TRIPN_LOW, 3, 1)])).get .TRIP_LATCH 31 = 1 := by decide +kernel

/-- R421: NMT start leads to Operational -/
theorem test_nmt_start : (after (.nmtStart 7 0 0) (given [(.NMT_STATE, 0, 1)])).get .NMT_STATE 0 = 2 := by decide +kernel

theorem test_tick : (after (.nmtStart 7 0 0) (given [(.NMT_STATE, 0, 1)])).ts = 7 := by decide +kernel

/-- SHA-256 of the three letters abc (FIPS 180-4) -/
theorem test_sha256 :
    sha256 [0x61, 0x62, 0x63] = beBytes 32 0xba7816bf8f01cfea414140de5dae2223b00361a396177a9cb410ff61f20015ad := by decide +kernel

/-- AES-128-CCM with an 8 byte tag: packet vector 1 of RFC 3610 -/
theorem test_ccm :
    ccmSeal (beBytes 16 0xC0C1C2C3C4C5C6C7C8C9CACBCCCDCECF) (beBytes 13 0x00000003020100A0A1A2A3A4A5) (List.range 8)
        ((List.range 23).map (· + 8)) =
      beBytes 31 0x588C979A61C663D2F066D0C2C0F989806D5F6B61DAC38417E8D12CFDF926E0 := by decide +kernel

/-- ECDSA over P-256 with SHA-256: the example of RFC 6979, A.2.5, message "sample" -/
theorem test_ecdsa :
    ecdsaVerifies
        (beBytes 32 0x60FED4BA255A9D31C961EB74C6356D68C049B8923B61FA6CE669622E60F29FB6 ++
          beBytes 32 0x7903FE1008B8BC99A41AE9E95628BC64F2F1B20C2D7E9F5177A3C294D4462299)
        [0x73, 0x61, 0x6d, 0x70, 0x6c, 0x65]
        (beBytes 32 0xEFD48B2AACB6A8FD1140DD9CD45E81D69D2C877B56AAF991C34D0EA84EAF3716 ++
          beBytes 32 0xF7CB1C942D657C41D436C7A1B6E29F65F3E900DBB9AFF4064DC4AB2F843ACDA8) = true := by decide +kernel

/-- an empty queue idles -/
theorem test_idle : Machine.step State.reset = .next State.reset := rfl

theorem on_sound : Sound on :=
  Laws.sound_kept.put _ _ _ _ (Laws.sound_kept.put _ _ _ _ (by
    constructor <;> first | rfl | exact fun e he => absurd he List.not_mem_nil) Laws.testBit_rall) Laws.testBit_rall

theorem given_sound (l d : List (Reg × Nat × Nat)) : Sound (given l d) := by
  have h1 : ∀ (l : List (Reg × Nat × Nat)) s, Sound s → Sound (l.foldl (fun s x => s.put x.1 x.2.1 x.2.2) s) := by
    intro l
    induction l with
    | nil => exact fun _ h => h
    | cons x l ih => exact fun s h => ih _ (Laws.sound_kept.put s _ _ _ h Laws.testBit_rall)
  have h2 : ∀ (l : List (Reg × Nat × Nat)) s, Sound s → Sound (l.foldl (fun s x => s.putDev x.1 x.2.1 x.2.2) s) := by
    intro l
    induction l with
    | nil => exact fun _ h => h
    | cons x l ih => exact fun s h => ih _ (Laws.sound_kept.putDev s _ _ _ h Laws.testBit_rall)
  exact h2 _ _ (h1 _ _ on_sound)

theorem witness_StepKeepsSound : ∃ s t : State, Sound s ∧ Machine.step s = .next t :=
  ⟨{ on with pending := [.ilkMaxClr 31] }, _, { on_sound with }, rfl⟩

theorem witness_CommandsLeaveTheQueue : ∃ (c : Instr) (s t : State), exec c s = .next t := ⟨.ilkMaxClr 31, on, _, rfl⟩

theorem witness_CommandsWriteOnlyTheirFootprint :
    ∃ (c : Instr) (f : Footprint) (s t : State), c.writes = some f ∧ exec c s = .next t := ⟨.ilkMaxClr 31, _, on, _, rfl, rfl⟩

theorem witness_TimeNeverRunsBack :
    ∃ (c : Instr) (f : Footprint) (s t : State), c.writes = some f ∧ exec c s = .next t := ⟨.busStale 5, _, on, _, rfl, rfl⟩

theorem witness_BootTimebase :
    (∃ (tbsync : Bool) (s : State), s.get .BOOT_STAGE 0 = 1 ∧ s.get .BOOT_DONE 0 = 0 ∧ s.get .TB_EVER 0 = 0 ∧ (s.get .TB_NOREF 0 = 1 ∨ s.get .TB_SRC_ACT 0 = (if tbsync then 1 else 0))) ∧
    (∃ (crystal : Bool) (tbsync : Bool) (s : State), s.get .BOOT_STAGE 0 = 1 ∧ s.get .BOOT_DONE 0 = 0 ∧ s.get .TB_EVER 0 = 0 ∧ s.get .TB_SRC 0 < 2 ∧ (if s.get .TB_SRC 0 = 1 then tbsync else crystal) = false) :=
  ⟨⟨false, given [(.BOOT_STAGE, 0, 1), (.BOOT_DONE, 0, 0), (.TB_EVER, 0, 0), (.TB_NOREF, 0, 1)], by decide +kernel⟩,
   ⟨false, false, given [(.BOOT_STAGE, 0, 1), (.BOOT_DONE, 0, 0), (.TB_EVER, 0, 0), (.TB_SRC, 0, 1)], by decide +kernel⟩⟩

theorem witness_BootStages :
    (∃ (s : State), s.get .BOOT_STAGE 0 = 2 ∧ s.get .BOOT_DONE 0 = 0) ∧
    (∃ (s : State), s.get .BOOT_STAGE 0 = 3 ∧ s.get .BOOT_DONE 0 = 0 ∧ s.get .PATCH_ACTIVE 0 = 0) ∧
    (∃ (h : Nat) (s : State), s.get .BOOT_STAGE 0 = 3 ∧ s.get .BOOT_DONE 0 = 0 ∧ s.get .PATCH_ACTIVE 0 = h + 1 ∧ patchFault s (patchHalf s h) = 0) ∧
    (∃ (h : Nat) (s : State), s.get .BOOT_STAGE 0 = 3 ∧ s.get .BOOT_DONE 0 = 0 ∧ s.get .PATCH_ACTIVE 0 = h + 1 ∧ patchFault s (patchHalf s h) ≠ 0) ∧
    (∃ (s : State), s.get .BOOT_STAGE 0 = 4 ∧ s.get .BOOT_DONE 0 = 0 ∧ areaValid s (s.get .PROFSEL 0) = false) ∧
    (∃ (s : State), s.get .BOOT_STAGE 0 = 4 ∧ s.get .BOOT_DONE 0 = 0 ∧ areaValid s (s.get .PROFSEL 0) = true) ∧
    (∃ (s : State), s.get .BOOT_STAGE 0 = 5 ∧ s.get .BOOT_DONE 0 = 0) ∧
    (∃ (s : State), s.get .BOOT_STAGE 0 = 5 ∧ s.get .BOOT_DONE 0 = 0 ∧ s.get .VANA_WAIT 0 = 0) ∧
    (∃ (s : State), s.get .BOOT_STAGE 0 = 6 ∧ s.get .BOOT_DONE 0 = 0) ∧
    (∃ (s : State), s.get .BOOT_STAGE 0 = 7 ∧ s.get .BOOT_DONE 0 = 0) ∧
    (∃ (s : State), s.get .BOOT_STAGE 0 = 7 ∧ s.get .BOOT_DONE 0 = 0) :=
  ⟨⟨given [(.BOOT_STAGE, 0, 2), (.BOOT_DONE, 0, 0)], by decide +kernel⟩,
   ⟨given [(.BOOT_STAGE, 0, 3), (.BOOT_DONE, 0, 0), (.PATCH_ACTIVE, 0, 0)], by decide +kernel⟩,
   ⟨0, { given [(.BOOT_STAGE, 0, 3), (.BOOT_DONE, 0, 0), (.PATCH_ACTIVE, 0, 1)] with sec := { owned with patches := [[5, 0, 1, 3, 2, 0, 1, 0, 0, 0, 0, 0, 227, 176, 196, 66, 152, 252, 28, 20, 154, 251, 244, 200, 153, 111, 185, 36, 39, 174, 65, 228, 100, 155, 147, 76, 164, 149, 153, 27, 120, 82, 184, 85, 38, 239, 206, 189, 14, 233, 227, 74, 102, 145, 135, 225, 139, 58, 145, 34, 178, 247, 51, 148, 91, 100, 156, 201, 249, 249, 33, 233, 249, 218, 216, 18, 13, 14, 2, 91, 10, 104, 34, 111, 244, 32, 186, 145, 175, 75, 148, 30, 209, 48, 24, 196, 225, 89, 211, 84, 56, 237, 101, 216, 89, 208, 223, 183], []] } }, by decide +kernel⟩,
   ⟨0, { given [(.BOOT_STAGE, 0, 3), (.BOOT_DONE, 0, 0), (.PATCH_ACTIVE, 0, 1)] with sec := owned }, by decide +kernel⟩,
   ⟨given [(.BOOT_STAGE, 0, 4), (.BOOT_DONE, 0, 0)], by decide +kernel⟩,
   ⟨{ given [(.BOOT_STAGE, 0, 4), (.BOOT_DONE, 0, 0), (.CLAIMED, 0, 1)] [(.SLOT_KIND, 0, 1), (.SLOT_KIND, 1, 1), (.SLOT_KIND, 2, 1), (.SLOT_KIND, 3, 1), (.SLOT_KIND, 4, 1), (.SLOT_KIND, 5, 1), (.SLOT_KIND, 6, 1), (.SLOT_KIND, 7, 1)] with sec := { owned with profiles := [⟨[4, 0, 1, 0, 0, 0, 0, 0, 6, 0, 0, 0, 0, 0, 0, 0, 0, 0, 0, 0, 0, 0, 0, 0, 0, 0, 0, 0, 0, 0, 0, 0, 0, 0, 0, 0, 0, 0, 0, 0, 0, 0, 0, 0, 0, 0, 0, 0, 107, 23, 209, 242, 225, 44, 66, 71, 248, 188, 230, 229, 99, 164, 64, 242, 119, 3, 125, 129, 45, 235, 51, 160, 244, 161, 57, 69, 216, 152, 194, 150, 79, 227, 66, 226, 254, 26, 127, 155, 142, 231, 235, 74, 124, 15, 158, 22, 43, 206, 51, 87, 107, 49, 94, 206, 203, 182, 64, 104, 55, 191, 81, 245, 38, 239, 206, 189, 14, 233, 227, 74, 102, 145, 135, 225, 139, 58, 145, 34, 178, 247, 51, 148, 91, 100, 156, 201, 249, 249, 33, 233, 249, 218, 216, 18, 171, 199, 32, 189, 54, 199, 253, 4, 3, 152, 159, 76, 254, 58, 108, 159, 6, 8, 44, 68, 107, 252, 79, 4, 73, 1, 73, 10, 215, 44, 50, 78], [], [], [], true, true⟩, ProfileArea.empty, ProfileArea.empty, ProfileArea.empty] } }, by decide +kernel⟩,
   ⟨given [(.BOOT_STAGE, 0, 5), (.BOOT_DONE, 0, 0)], by decide +kernel⟩,
   ⟨given [(.BOOT_STAGE, 0, 5), (.BOOT_DONE, 0, 0), (.VANA_WAIT, 0, 0)], by decide +kernel⟩,
   ⟨given [(.BOOT_STAGE, 0, 6), (.BOOT_DONE, 0, 0)], by decide +kernel⟩,
   ⟨given [(.BOOT_STAGE, 0, 7), (.BOOT_DONE, 0, 0)], by decide +kernel⟩,
   ⟨given [(.BOOT_STAGE, 0, 7), (.BOOT_DONE, 0, 0)], by decide +kernel⟩⟩

theorem witness_Resets :
    (∃ (path : Path) (s : State), s.get .SEQ_DOWN 0 = 0 ∧ (path = .can → sdoServed s = true) ∧ 2 ≤ authOn s path.code ∧ (∀ i < 8, s.slotDisabled i = true)) ∧
    (∃ (path : Path) (value : Nat) (s : State), s.get .SEQ_DOWN 0 = 0 ∧ (path = .can → sdoServed s = true) ∧ value ≠ 0x746F6F62) :=
  ⟨⟨.spi, given [(.SEQ_DOWN, 0, 0), (.SESS_OPEN, 0, 1), (.SESS_PATH, 0, 0), (.SESS_ROLE, 0, 2)], by decide +kernel⟩,
   ⟨.spi, 0, given [(.SEQ_DOWN, 0, 0)], by decide +kernel⟩⟩

theorem witness_Timebase :
    (∃ (s : State), outputsIdle s = true ∧ s.get .TB_EVER 0 = 0 ∧ s.get .TB_SRC 0 < 2) ∧
    (∃ (s : State), outputsIdle s = false) ∧
    (∃ (s : State), s.get .TB_RUNNING 0 = 1 ∧ s.get .LOCKED 0 = 0) ∧
    (∃ (s : State), s.get .TB_RUNNING 0 = 0 ∧ s.get .TB_EVER 0 = 1) ∧
    (∃ (elems : Nat) (s : State), s.get .TB_RUNNING 0 = 1 ∧ elems ≠ 0 ∧ elems < 256) ∧
    (∃ (s : State), s.get .TB_RUNNING 0 = 1 ∧ s.get .DL_FAILS 0 = 2) ∧
    (∃ (s : State), s.get .TB_RUNNING 0 = 1 ∧ s.get .PROF_DEVICE 0 = 0 ∧ (∀ b < 4, s.get .HB_SEEN b % 16 = s.get .HB_COUNT b % 16)) :=
  ⟨⟨given [(.TB_EVER, 0, 0), (.TB_SRC, 0, 1)], by decide +kernel⟩,
   ⟨given [(.DRIVE_STATE, 0, 4)], by decide +kernel⟩,
   ⟨given [(.TB_RUNNING, 0, 1), (.LOCKED, 0, 0)], by decide +kernel⟩,
   ⟨given [(.TB_RUNNING, 0, 0), (.TB_EVER, 0, 1)], by decide +kernel⟩,
   ⟨255, given [(.TB_RUNNING, 0, 1)], by decide +kernel⟩,
   ⟨given [(.TB_RUNNING, 0, 1), (.DL_FAILS, 0, 2)], by decide +kernel⟩,
   ⟨given [(.TB_RUNNING, 0, 1), (.PROF_DEVICE, 0, 0)], by decide +kernel⟩⟩

theorem witness_DieSupervision :
    (∃ (t : Nat) (b : Bank) (s : State), s.get .HB_OUT b = 0 ∧ s.get .DIE_UP b = 1 ∧ s.get .TB_RUNNING 0 = 1 ∧ s.get .TB_EVER 0 = 1 ∧ s.get .HB_TICK b + 3200 < max s.ts t) ∧
    (∃ (t : Nat) (b : Bank) (s : State), s.get .HB_OUT b = 1 ∧ s.get .TB_RUNNING 0 = 1 ∧ s.get .HB_GOOD b ≠ 0 ∧ s.get .HB_GOOD b + 160000 ≤ max s.ts t) ∧
    (∃ (b : Bank) (s : State), s.get .VDRV_OK b = 1 ∧ s.get .HB_OUT b = 0 ∧ 7 ≤ s.get .BOOT_STAGE 0) ∧
    (∃ (mv : Nat) (b : Bank) (s : State), mv < 8600 ∧ s.get .VDRV_OK b = 1) ∧
    (∃ (mv : Nat), 8600 ≤ mv ∧ mv < 65536) ∧
    (∃ (mv : Nat) (b : Bank) (s : State), 9000 < mv ∧ mv < 65536 ∧ s.get .VDRV_OK b = 0) :=
  ⟨⟨3201, 0, given [(.HB_OUT, 0, 0), (.DIE_UP, 0, 1), (.TB_RUNNING, 0, 1), (.TB_EVER, 0, 1)], by decide +kernel⟩,
   ⟨160001, 0, given [(.HB_OUT, 0, 1), (.TB_RUNNING, 0, 1), (.HB_GOOD, 0, 1)], by decide +kernel⟩,
   ⟨0, given [(.VDRV_OK, 0, 1), (.HB_OUT, 0, 0), (.BOOT_STAGE, 0, 7)], by decide +kernel⟩,
   ⟨8599, 0, given [(.VDRV_OK, 0, 1)], by decide +kernel⟩,
   ⟨65535, by decide +kernel⟩,
   ⟨65535, 0, given [(.VDRV_OK, 0, 0)], by decide +kernel⟩⟩

theorem witness_SpiFrames :
    (∃ (cmd : Nat) (addr : Nat), cmd < 256 ∧ addr < 2 ^ 24 ∧ cmd % 64 = 0x16 ∧ addr % 4 = 0) ∧
    (∃ (cmd : Nat), cmd % 64 ≠ 0x16) ∧
    (∃ (w : Nat) (s : State), w < 2 ^ 32 ∧ s.get .SPI_BITS 0 < 32 ∧ s.get .SPI_OPEN 0 = 1 ∧ s.get .SPI_DEAD 0 = 0 ∧ s.get .SPI_WRITE 0 = 1 ∧ 0x420000 ≤ s.get .SPI_ADDR 0 ∧ s.get .SPI_ADDR 0 < 0x440000 ∧ s.getBit .DOM_ON 0 2 = true) ∧
    (∃ (s : State), (s.get .SPI_OPEN 0 = 0 ∨ s.get .SPI_DEAD 0 = 1 ∨ s.get .SPI_WRITE 0 = 0)) ∧
    (∃ (s : State), s.get .SPI_BITS 0 < 32 ∧ s.get .SPI_OPEN 0 = 1 ∧ s.get .SPI_DEAD 0 = 0 ∧ s.get .SPI_WRITE 0 = 0 ∧ 0x400000 ≤ s.get .SPI_ADDR 0 ∧ s.get .SPI_ADDR 0 < 0x440000 ∧ s.getBit .DOM_ON 0 2 = true) ∧
    (∃ (s : State), s.get .SPI_BITS 0 < 32 ∧ s.get .SPI_OPEN 0 = 1 ∧ s.get .SPI_DEAD 0 = 0 ∧ s.get .SPI_WRITE 0 = 0) ∧
    (∃ (s : State), s.get .SPI_BITS 0 < 32 ∧ s.get .SPI_OPEN 0 = 1) :=
  ⟨⟨214, 16777212, by decide +kernel⟩,
   ⟨0, by decide +kernel⟩,
   ⟨4294967295, given [(.SPI_BITS, 0, 31), (.SPI_OPEN, 0, 1), (.SPI_DEAD, 0, 0), (.SPI_WRITE, 0, 1), (.SPI_ADDR, 0, 4325376), (.DOM_ON, 0, 4095)], by decide +kernel⟩,
   ⟨given [(.SPI_OPEN, 0, 0)], by decide +kernel⟩,
   ⟨given [(.SPI_BITS, 0, 31), (.SPI_OPEN, 0, 1), (.SPI_DEAD, 0, 0), (.SPI_WRITE, 0, 0), (.SPI_ADDR, 0, 4194304), (.DOM_ON, 0, 4095)], by decide +kernel⟩,
   ⟨given [(.SPI_BITS, 0, 31), (.SPI_OPEN, 0, 1), (.SPI_DEAD, 0, 0), (.SPI_WRITE, 0, 0)], by decide +kernel⟩,
   ⟨given [(.SPI_BITS, 0, 31), (.SPI_OPEN, 0, 1)], by decide +kernel⟩⟩

theorem witness_RegisterAccess :
    (∃ (mask : Nat) (data : Nat), mask < 2 ^ 16 ∧ data < 2 ^ 16 ∧ (bit mask 2 || bit mask 3) = true) ∧
    (∃ (s : State), s.get .FAULT 0 < 2) ∧
    (∃ (s : State), s.getBit .DOM_ON 0 2 = false) ∧
    (∃ (v : Nat) (s : State), s.spiRead.find (Reg.TS.key 0) = some v) ∧
    (∃ (i : Nat) (data : Nat) (s : State), i < 8 ∧ data < 2 ^ 16 ∧ s.getBit .DOM_ON 0 1 = true) :=
  ⟨⟨65535, 65535, by decide +kernel⟩,
   ⟨given [(.FAULT, 0, 1)], by decide +kernel⟩,
   ⟨given [(.DOM_ON, 0, 4091)], by decide +kernel⟩,
   ⟨5, { given [] with spiRead := [(Reg.TS.key 0, 5)] }, by decide +kernel⟩,
   ⟨7, 65535, given [(.DOM_ON, 0, 4095)], by decide +kernel⟩⟩

theorem witness_WindowAccess :
    (∃ (s : State), s.get .SEQ_DOWN 0 = 0 ∧ 0x400000 ≤ s.get .REG_WIN_ADDR 0 ∧ s.get .REG_WIN_ADDR 0 < 0x440000 ∧ s.getBit .DOM_ON 0 2 = true) ∧
    (∃ (w : Nat) (s : State), w < 2 ^ 32 ∧ s.get .SEQ_DOWN 0 = 0 ∧ 0x420000 ≤ s.get .REG_WIN_ADDR 0 ∧ s.get .REG_WIN_ADDR 0 < 0x440000 ∧ s.getBit .DOM_ON 0 2 = true) ∧
    (∃ (s : State), s.get .SEQ_DOWN 0 = 0 ∧ 0x400000 ≤ s.get .REG_WIN_ADDR 0 ∧ s.get .REG_WIN_ADDR 0 + 4 * s.get .REG_WIN_COUNT 0 ≤ 0x440000 ∧ s.getBit .DOM_ON 0 2 = true) ∧
    (∃ (ws : List Nat) (s : State), s.get .SEQ_DOWN 0 = 0 ∧ ws ≠ [] ∧ ws.length ≤ 256 ∧ (∀ w ∈ ws, w < 2 ^ 32) ∧ 0x420000 ≤ s.get .REG_WIN_ADDR 0 ∧ s.get .REG_WIN_ADDR 0 + 4 * ws.length ≤ 0x440000 ∧ s.getBit .DOM_ON 0 2 = true) ∧
    (∃ (v : Nat) (s : State), s.get .SEQ_DOWN 0 = 0 ∧ 0 < v ∧ v < 2 ^ 31) ∧
    (∃ (bytes : List Nat) (s : State), s.get .SEQ_DOWN 0 = 0 ∧ bytes.length ≠ 4) ∧
    (∃ (path : Path) (s : State), s.get .SEQ_DOWN 0 = 1 ∧ path ≠ .can) :=
  ⟨⟨given [(.SEQ_DOWN, 0, 0), (.REG_WIN_ADDR, 0, 4194304), (.DOM_ON, 0, 4095)], by decide +kernel⟩,
   ⟨4294967295, given [(.SEQ_DOWN, 0, 0), (.REG_WIN_ADDR, 0, 4325376), (.DOM_ON, 0, 4095)], by decide +kernel⟩,
   ⟨given [(.SEQ_DOWN, 0, 0), (.REG_WIN_ADDR, 0, 4194304), (.DOM_ON, 0, 4095)], by decide +kernel⟩,
   ⟨[7], given [(.SEQ_DOWN, 0, 0), (.REG_WIN_ADDR, 0, 4456444), (.DOM_ON, 0, 4095)], by decide +kernel⟩,
   ⟨2147483647, given [(.SEQ_DOWN, 0, 0)], by decide +kernel⟩,
   ⟨[], given [(.SEQ_DOWN, 0, 0)], by decide +kernel⟩,
   ⟨.spi, given [(.SEQ_DOWN, 0, 1)], by decide +kernel⟩⟩

theorem witness_EngineCycles :
    (∃ (i : Slot) (epoch : Nat) (s : State), engineServes s i = true ∧ epoch = s.get .SLOT_EPOCH i) ∧
    (∃ (i : Slot) (epoch : Nat) (s : State), engineServes s i = true ∧ epoch ≠ s.get .SLOT_EPOCH i) ∧
    (∃ (te : Nat) (accept : Nat), te < accept + tDev) ∧
    (∃ (i : Slot) (s : State), 256 ≤ s.get .SLACK_GOOD i) ∧
    (∃ (i : Slot) (s : State), s.get .SLACK_GOOD i < 256) ∧
    (∃ (i : Slot) (sh : Nat) (s : State), 2 ≤ s.get .MISS_RUN i ∧ s.get .STRIP_ACTIVE 0 = 0 ∧ s.opEnabled i = true ∧ s.get .MIG_WANT i = 0 ∧ chooseSpare s [] = some sh ∧ sh < 10) ∧
    (∃ (i : Slot) (sh : Nat) (s : State), 8 ≤ s.get .MISS_WINDOW i ∧ s.get .MIG_WANT i = 0 ∧ chooseSpare s [] = some sh) :=
  ⟨⟨0, 0, given [], by decide +kernel⟩,
   ⟨0, 1, given [], by decide +kernel⟩,
   ⟨9, 0, by decide +kernel⟩,
   ⟨0, given [(.SLACK_GOOD, 0, 256)], by decide +kernel⟩,
   ⟨0, given [(.SLACK_GOOD, 0, 255)], by decide +kernel⟩,
   ⟨0, 4, given [(.MISS_RUN, 0, 2), (.STRIP_ACTIVE, 0, 0), (.MIG_WANT, 0, 0), (.DRIVE_STATE, 0, 4)], by decide +kernel⟩,
   ⟨0, 4, given [(.MISS_WINDOW, 0, 8), (.MIG_WANT, 0, 0)], by decide +kernel⟩⟩

theorem witness_TagsAndScrub :
    (∃ (a : Nat) (s : State), a < 0x420000 ∧ s.get .SEQ_DOWN 0 = 0 ∧ s.get .SEQ_EPOCH_MOVED 0 = 0) ∧
    (∃ (a : Nat), 0x440000 ≤ a) ∧
    (∃ (d : Nat) (k : Nat) (s : State), d < 16 ∧ k < 56 ∧ 0 < s.get .TAG_QUEUE d ∧ s.get .TAG_QUEUE d < 2 ^ 16 ∧ (∀ e < d, s.get .TAG_QUEUE e = 0) ∧ s.get .TAG_BUSY k = 0 ∧ s.get .TAG_QUARANTINE k = 0 ∧ (∀ j < k, s.get .TAG_BUSY j ≠ 0 ∨ s.get .TAG_QUARANTINE j ≠ 0)) ∧
    (∃ (tag : Fin 64) (epoch : Nat) (s : State), epoch ≠ s.get .TAG_EPOCH tag) ∧
    (∃ (tag : Fin 64) (s : State), s.get .TAG_EPOCH tag = s.get .DOM_EPOCH (s.get .TAG_HELPER tag) ∧ s.get .TAG_BUSY tag = 1) ∧
    (∃ (t : Nat) (tag : Fin 64) (s : State), s.get .TB_RUNNING 0 = 1 ∧ s.get .TAG_BUSY tag = 1 ∧ s.get .TAG_SINCE tag + 160000 ≤ max s.ts t ∧ s.get .RECLAIM_SEEN (s.get .TAG_HELPER tag) = 0) ∧
    (∃ (t : Nat) (n : Fin 70) (d : Nat) (s : State), n.val = 26 + d ∧ s.get .DOM_RESTART_WAIT d = 1 ∧ domEpochFree (s.atTick t) d = true ∧ motionNeeds s d = false ∧ (d = 1 → anyEnabled s = false) ∧ s.get .DOM_RESTARTING d = 0) ∧
    (∃ (n : Fin 70) (c : Nat) (s : State), n.val = 8 + c ∧ c < 18 ∧ s.get .CONV_EPOCH_DUE c = 1 ∧ s.get .CONV_EPOCH_MOVED c = 0) :=
  ⟨⟨4325375, given [(.SEQ_DOWN, 0, 0), (.SEQ_EPOCH_MOVED, 0, 0)], by decide +kernel⟩,
   ⟨4456448, by decide +kernel⟩,
   ⟨15, 55, given [(.TAG_QUEUE, 15, 1), (.TAG_BUSY, 55, 0), (.TAG_QUARANTINE, 55, 0), (.TAG_BUSY, 0, 1), (.TAG_BUSY, 1, 1), (.TAG_BUSY, 2, 1), (.TAG_BUSY, 3, 1), (.TAG_BUSY, 4, 1), (.TAG_BUSY, 5, 1), (.TAG_BUSY, 6, 1), (.TAG_BUSY, 7, 1), (.TAG_BUSY, 8, 1), (.TAG_BUSY, 9, 1), (.TAG_BUSY, 10, 1), (.TAG_BUSY, 11, 1), (.TAG_BUSY, 12, 1), (.TAG_BUSY, 13, 1), (.TAG_BUSY, 14, 1), (.TAG_BUSY, 15, 1), (.TAG_BUSY, 16, 1), (.TAG_BUSY, 17, 1), (.TAG_BUSY, 18, 1), (.TAG_BUSY, 19, 1), (.TAG_BUSY, 20, 1), (.TAG_BUSY, 21, 1), (.TAG_BUSY, 22, 1), (.TAG_BUSY, 23, 1), (.TAG_BUSY, 24, 1), (.TAG_BUSY, 25, 1), (.TAG_BUSY, 26, 1), (.TAG_BUSY, 27, 1), (.TAG_BUSY, 28, 1), (.TAG_BUSY, 29, 1), (.TAG_BUSY, 30, 1), (.TAG_BUSY, 31, 1), (.TAG_BUSY, 32, 1), (.TAG_BUSY, 33, 1), (.TAG_BUSY, 34, 1), (.TAG_BUSY, 35, 1), (.TAG_BUSY, 36, 1), (.TAG_BUSY, 37, 1), (.TAG_BUSY, 38, 1), (.TAG_BUSY, 39, 1), (.TAG_BUSY, 40, 1), (.TAG_BUSY, 41, 1), (.TAG_BUSY, 42, 1), (.TAG_BUSY, 43, 1), (.TAG_BUSY, 44, 1), (.TAG_BUSY, 45, 1), (.TAG_BUSY, 46, 1), (.TAG_BUSY, 47, 1), (.TAG_BUSY, 48, 1), (.TAG_BUSY, 49, 1), (.TAG_BUSY, 50, 1), (.TAG_BUSY, 51, 1), (.TAG_BUSY, 52, 1), (.TAG_BUSY, 53, 1), (.TAG_BUSY, 54, 1)], by decide +kernel⟩,
   ⟨0, 1, given [], by decide +kernel⟩,
   ⟨0, given [(.TAG_EPOCH, 0, 0), (.TAG_BUSY, 0, 1)], by decide +kernel⟩,
   ⟨160000, 0, given [(.TB_RUNNING, 0, 1), (.TAG_BUSY, 0, 1), (.RECLAIM_SEEN, 0, 0)], by decide +kernel⟩,
   ⟨0, 37, 11, given [(.DOM_RESTART_WAIT, 11, 1), (.DOM_RESTARTING, 11, 0)], by decide +kernel⟩,
   ⟨25, 17, given [(.CONV_EPOCH_DUE, 17, 1), (.CONV_EPOCH_MOVED, 17, 0)], by decide +kernel⟩⟩

theorem witness_QueuePointers :
    (∃ (q : QueueId) (v : Nat) (s : State), q.val < 8 ∧ s.getBit .DOM_ON 0 1 = true ∧ s.dv .PRODUCER q = 2 ∧ s.get .QWR q < 2 * s.qSize q ∧ v < 2 * s.qSize q ∧ v < 2 ^ 15 ∧ s.qFill q + (v + 2 * s.qSize q - s.get .QWR q) % (2 * s.qSize q) ≤ s.qSize q) ∧
    (∃ (q : QueueId) (v : Nat) (s : State), s.getBit .DOM_ON 0 1 = true ∧ v < 2 ^ 15 ∧ (8 ≤ q.val ∨ s.dv .PRODUCER q ≠ 2 ∨ 2 * s.qSize q ≤ v ∨ s.qSize q < s.qFill q + (v + 2 * s.qSize q - s.get .QWR q) % (2 * s.qSize q))) ∧
    (∃ (v : Nat) (s : State), s.get .SEQ_DOWN 0 = 0 ∧ s.getBit .DOM_ON 0 1 = true ∧ v < 2 ^ 15) ∧
    (∃ (q : QueueId) (v : Nat) (s : State), 8 ≤ q.val ∧ q.val < 12 ∧ s.getBit .DOM_ON 0 1 = true ∧ v < 2 * s.qSize q ∧ v < 2 ^ 15 ∧ (v + 2 * s.qSize q - s.get .QRD q) % (2 * s.qSize q) ≤ s.qFill q) ∧
    (∃ (q : QueueId) (v : Nat) (s : State), s.get .SEQ_DOWN 0 = 0 ∧ s.getBit .DOM_ON 0 1 = true ∧ v < 2 ^ 15 ∧ (q.val < 8 ∨ 12 ≤ q.val ∨ 2 * s.qSize q ≤ v ∨ s.qFill q < (v + 2 * s.qSize q - s.get .QRD q) % (2 * s.qSize q))) ∧
    (∃ (q : QueueId) (s : State), layoutOk s q = true ∧ qresetBusy s q = false) ∧
    (∃ (q : QueueId) (s : State), (layoutOk s q = false ∨ qresetBusy s q = true)) :=
  ⟨⟨0, 2048, given [(.DOM_ON, 0, 4095), (.QWR, 0, 2047)] [(.PRODUCER, 0, 2)], by decide +kernel⟩,
   ⟨8, 32767, given [(.DOM_ON, 0, 4095)], by decide +kernel⟩,
   ⟨32767, given [(.SEQ_DOWN, 0, 0), (.DOM_ON, 0, 4095)], by decide +kernel⟩,
   ⟨8, 1, given [(.DOM_ON, 0, 4095), (.QWR, 8, 1)], by decide +kernel⟩,
   ⟨7, 32767, given [(.SEQ_DOWN, 0, 0), (.DOM_ON, 0, 4095)], by decide +kernel⟩,
   ⟨8, given [], by decide +kernel⟩,
   ⟨8, given [(.QSIZE_LOG2, 8, 15)], by decide +kernel⟩⟩

theorem witness_PortMap :
    (∃ (v : Nat) (s : State), v ≠ 1 ∧ s.get .SEQ_DOWN 0 = 0) ∧
    (∃ (s : State), s.get .SEQ_DOWN 0 = 0 ∧ (mapCheck s).1 = 0) ∧
    (∃ (s : State), s.get .SEQ_DOWN 0 = 0 ∧ (mapCheck s).1 ≠ 0) ∧
    (∃ (n : Fin 40) (i : Nat) (s : State), n.val = i ∧ i < 8 ∧ slotWaits s i = true ∧ setReady s (setOf s i) (setPorts s (setOf s i)) = true ∧ (setEngines s (setOf s i)).isSome = true ∧ s.get .MAP_KIND i < 4 ∧ (∀ p < 32, s.get .MAP_ROLE p < 256)) ∧
    (∃ (n : Fin 40) (p : Nat) (s : State), n.val = 8 + p ∧ s.get .MAP_ROLE p ≠ s.get .PORT_ROLE_DEV p ∧ 8 ≤ s.portOwner p ∧ 8 ≤ acceptedOwner s p ∧ s.get .PWM_EN p = 0 ∧ s.get .MAP_ROLE p < 256) ∧
    (∃ (n : Fin 40) (i : Nat) (s : State), n.val = i ∧ i < 8 ∧ (setReady s (setOf s i) (setPorts s (setOf s i)) = false ∨ (setEngines s (setOf s i)).isNone = true)) ∧
    (∃ (p : Port) (g : Nat) (s : State), g < 16 ∧ s.isAxisPort p = false ∧ groupBusy s p = false ∧ setWaits s p = false) ∧
    (∃ (p : Port) (g : Nat) (s : State), g < 16 ∧ (groupBusy s p = true ∨ setWaits s p = true)) ∧
    (∃ (p : Port) (s : State), s.isAxisPort p = true) ∧
    (∃ (p : Port) (s : State), s.isAxisPort p = false ∧ s.get .HB_OUT (p / 8) = 0) :=
  ⟨⟨0, given [(.SEQ_DOWN, 0, 0)], by decide +kernel⟩,
   ⟨given [(.SEQ_DOWN, 0, 0)], by decide +kernel⟩,
   ⟨given [(.SEQ_DOWN, 0, 0), (.PORT_ROLE, 0, 128)], by decide +kernel⟩,
   ⟨7, 7, given [(.MAP_KIND, 7, 0), (.MAP_ROLE, 28, 240), (.MAP_ROLE, 29, 240), (.MAP_ROLE, 30, 240), (.MAP_ROLE, 31, 240)], by decide +kernel⟩,
   ⟨8, 0, given [(.MAP_ROLE, 0, 240), (.PWM_EN, 0, 0), (.PORT_ROLE_DEV, 0, 224)], by decide +kernel⟩,
   ⟨7, 7, given [(.DRIVE_STATE, 7, 4)], by decide +kernel⟩,
   ⟨0, 15, given [(.PORT_ROLE_DEV, 0, 224)], by decide +kernel⟩,
   ⟨0, 15, given [(.PORT_ROLE_DEV, 0, 224), (.PWM_EN, 0, 1)], by decide +kernel⟩,
   ⟨0, given [], by decide +kernel⟩,
   ⟨0, given [(.HB_OUT, 0, 0), (.PORT_ROLE_DEV, 0, 224)], by decide +kernel⟩⟩

theorem witness_Segments :
    (∃ (i : Slot) (a : Nat) (b : Nat) (c : Nat) (d : Nat) (s : State), a < 2 ^ 32 ∧ b < 2 ^ 32 ∧ c < 2 ^ 32 ∧ d < 2 ^ 32 ∧ s.get .SEQ_DOWN 0 = 0 ∧ s.get .SEG_STATE i = 0 ∧ s.dv .PRODUCER i = 0 ∧ s.getBit .DOM_ON 0 3 = true ∧ s.dv .QSIZE_LOG2 i < 14 ∧ s.qFill i < s.qSize i) ∧
    (∃ (bytes : List Nat) (s : State), s.get .SEQ_DOWN 0 = 0 ∧ bytes.length % 16 ≠ 0) ∧
    (∃ (i : Slot) (w : Nat) (s : State), w < 2 ^ 32 ∧ s.get .SEG_STATE i = 0 ∧ s.dv .PRODUCER i = 1 ∧ s.getBit .DOM_ON 0 3 = true ∧ s.dv .QSIZE_LOG2 i < 14 ∧ s.qFill i < s.qSize i ∧ (∀ k < 3, s.get .SEG_PDO_W (4 * i + k) < 2 ^ 32)) ∧
    (∃ (i : Slot) (s : State), s.getBit .DOM_ON 0 3 = true ∧ s.dv .PRODUCER i ≠ 1) ∧
    (∃ (i : Slot) (s : State), (s.get .SEG_STATE i = 4 ∨ s.get .SEG_STATE i = 5 ∨ s.get .SEG_STATE i = 7)) ∧
    (∃ (i : Slot) (s : State), s.get .SEG_STATE i ≠ 4 ∧ s.get .SEG_STATE i ≠ 5 ∧ s.get .SEG_STATE i ≠ 7) ∧
    (∃ (t : Nat) (a : Arming) (s : State), s.armed = [a] ∧ a.slot < 8 ∧ a.evt = true ∧ a.trig = false ∧ a.capt = false ∧ a.instant ≤ (s.atTick t).ts) ∧
    (∃ (t : Nat) (s : State), (∀ a ∈ s.armed, (s.atTick t).ts < a.instant)) :=
  ⟨⟨0, 4294967295, 4294967295, 4294967295, 4294967295, given [(.SEQ_DOWN, 0, 0), (.SEG_STATE, 0, 0), (.DOM_ON, 0, 4095)] [(.PRODUCER, 0, 0), (.QSIZE_LOG2, 0, 13)], by decide +kernel⟩,
   ⟨[1], given [(.SEQ_DOWN, 0, 0)], by decide +kernel⟩,
   ⟨0, 4294967295, given [(.SEG_STATE, 0, 0), (.DOM_ON, 0, 4095)] [(.PRODUCER, 0, 1), (.QSIZE_LOG2, 0, 13)], by decide +kernel⟩,
   ⟨0, given [(.DOM_ON, 0, 4095)], by decide +kernel⟩,
   ⟨0, given [(.SEG_STATE, 0, 4)], by decide +kernel⟩,
   ⟨0, given [], by decide +kernel⟩,
   ⟨0, ⟨7, 0, 0, 0, 0, true, false, false⟩, { given [] with armed := [⟨7, 0, 0, 0, 0, true, false, false⟩] }, by decide +kernel⟩,
   ⟨0, given [], by decide +kernel⟩⟩

theorem witness_AccordsAndWaits :
    (∃ (n : Fin 8) (go : Nat) (s : State), go < 2 ^ 64 ∧ s.get .ACC_MODE n ≠ 0 ∧ s.get .ROLE_ACT 0 = 0) ∧
    (∃ (n : Fin 8) (s : State), s.get .ACC_MODE n = 0) ∧
    (∃ (t : Nat) (i : Slot) (s : State), s.get .TB_RUNNING 0 = 1 ∧ s.get .SEG_STATE i = 3 ∧ s.dv .SYNC_TIMEOUT i ≠ 0 ∧ s.get .ARRIVAL i + s.dv .SYNC_TIMEOUT i * 160000 ≤ max s.ts t) ∧
    (∃ (i : Slot) (s : State), s.get .SEG_STATE i ≠ 3) ∧
    (∃ (t : Nat) (i : Slot) (g : Seg) (s : State), s.get .TB_RUNNING 0 = 1 ∧ chainEnd (s.atTick t) i = some g ∧ s.get .CH_STATE i = 1 ∧ g.endTick ≤ max s.ts t ∧ s.get .CH_STOP i = 0 ∧ s.dv .CS_MISS_MAX i ≤ s.get .CH_MISSED i) ∧
    (∃ (i : Slot) (s : State), s.get .CH_MISSED i < s.dv .CS_MISS_MAX i) :=
  ⟨⟨0, 18446744073709551615, given [(.ACC_MODE, 0, 1), (.ROLE_ACT, 0, 0)], by decide +kernel⟩,
   ⟨0, given [(.ACC_MODE, 0, 0)], by decide +kernel⟩,
   ⟨160000, 0, given [(.TB_RUNNING, 0, 1), (.SEG_STATE, 0, 3)] [(.SYNC_TIMEOUT, 0, 1)], by decide +kernel⟩,
   ⟨0, given [], by decide +kernel⟩,
   ⟨0, 0, ⟨0, 0, 0, 0, 0, 0, 0, .hold, false, false, false, false, false, false, 0⟩, { given [(.TB_RUNNING, 0, 1), (.CH_STATE, 0, 1), (.CH_STOP, 0, 0), (.CH_MISSED, 0, 2)] with motion := [⟨none, [], [], [], [⟨0, 0, 0, 0, 0, 0, 0, .hold, false, false, false, false, false, false, 0⟩], [], []⟩] }, by decide +kernel⟩,
   ⟨0, given [], by decide +kernel⟩⟩

theorem witness_SetPointsAndHalts :
    (∃ (i : Slot) (m : Int) (s : State), s.get .SEQ_DOWN 0 = 0 ∧ inRing s i = false ∧ -128 ≤ m ∧ m ≤ 127 ∧ modeCode m = true ∧ modeSupported (s.kind i) m = true) ∧
    (∃ (i : Slot) (m : Int) (s : State), s.get .SEQ_DOWN 0 = 0 ∧ inRing s i = false ∧ -128 ≤ m ∧ m ≤ 127 ∧ modeCode m = true ∧ modeSupported (s.kind i) m = false) ∧
    (∃ (i : Slot) (cw : Nat) (s : State), s.get .SEQ_DOWN 0 = 0 ∧ inRing s i = false ∧ s.geti .MODE_DISP i = 1 ∧ s.get .DRIVE_STATE i = 4 ∧ s.get .CONTROLWORD i = 0xF ∧ rideThrough s i = false ∧ bit cw 5 = true ∧ bit cw 6 = false ∧ s.gn2008 = false ∧ s.dvi .SOFTLIM_LO i ≤ s.geti .TARGET_POS i ∧ s.geti .TARGET_POS i ≤ s.dvi .SOFTLIM_HI i) ∧
    (∃ (i : Slot) (s : State), s.get .SEQ_DOWN 0 = 0 ∧ inRing s i = false ∧ s.get .DRIVE_STATE i = 4 ∧ s.get .CONTROLWORD i = 0xF ∧ rideThrough s i = false ∧ s.get .HOME_STATE i = 0 ∧ s.get .STOP_REQ i = 0) ∧
    (∃ (i : Slot) (s : State), s.get .SEQ_DOWN 0 = 0 ∧ inRing s i = false ∧ s.get .DRIVE_STATE i = 4 ∧ s.get .CONTROLWORD i = 0x10F ∧ rideThrough s i = false ∧ s.get .HALTED i = 1 ∧ s.get .BUS_HALT 0 = 0 ∧ s.geti .MODE_DISP i = 3) ∧
    (∃ (i : Slot) (s : State), s.get .SEQ_DOWN 0 = 0 ∧ inRing s i = false ∧ s.get .DRIVE_STATE i = 4 ∧ s.get .CONTROLWORD i = 0xF ∧ rideThrough s i = false ∧ s.geti .MODE_DISP i = 7) ∧
    (∃ (i : Slot) (s : State), s.get .SEQ_DOWN 0 = 0 ∧ inRing s i = false ∧ s.get .DRIVE_STATE i = 4 ∧ s.get .CONTROLWORD i = 0x1F ∧ rideThrough s i = false ∧ s.geti .MODE_DISP i = 7 ∧ s.get .CH_STATE i = 1 ∧ ((s.mo i).chain.take 1).any (fun g => decide (g.start ≤ s.get .EV_T i)) = true ∧ s.motion.length = 8) ∧
    (∃ (i : Slot) (s : State), s.get .SEQ_DOWN 0 = 0 ∧ inRing s i = false ∧ s.get .DRIVE_STATE i = 4 ∧ s.get .CONTROLWORD i = 0x1F ∧ rideThrough s i = false ∧ s.geti .MODE_DISP i = 7 ∧ s.get .CH_STATE i = 1 ∧ (s.mo i).chain = []) :=
  ⟨⟨0, (-2), given [(.SEQ_DOWN, 0, 0)], by decide +kernel⟩,
   ⟨0, (-2), given [(.SEQ_DOWN, 0, 0)] [(.SLOT_KIND, 0, 3)], by decide +kernel⟩,
   ⟨0, 63, given [(.SEQ_DOWN, 0, 0), (.MODE_DISP, 0, 1), (.DRIVE_STATE, 0, 4), (.CONTROLWORD, 0, 15), (.TARGET_POS, 0, 5)] [(.SOFTLIM_HI, 0, 5)], by decide +kernel⟩,
   ⟨0, given [(.SEQ_DOWN, 0, 0), (.DRIVE_STATE, 0, 4), (.CONTROLWORD, 0, 15), (.HOME_STATE, 0, 0), (.STOP_REQ, 0, 0)], by decide +kernel⟩,
   ⟨0, given [(.SEQ_DOWN, 0, 0), (.DRIVE_STATE, 0, 4), (.CONTROLWORD, 0, 271), (.HALTED, 0, 1), (.BUS_HALT, 0, 0), (.MODE_DISP, 0, 3)], by decide +kernel⟩,
   ⟨0, given [(.SEQ_DOWN, 0, 0), (.DRIVE_STATE, 0, 4), (.CONTROLWORD, 0, 15), (.MODE_DISP, 0, 7)], by decide +kernel⟩,
   ⟨0, { given [(.SEQ_DOWN, 0, 0), (.DRIVE_STATE, 0, 4), (.CONTROLWORD, 0, 31), (.MODE_DISP, 0, 7), (.CH_STATE, 0, 1)] with motion := [⟨none, [], [], [], [⟨0, 0, 0, 0, 0, 0, 0, .hold, false, false, false, false, false, false, 0⟩], [], []⟩, ⟨none, [], [], [], [], [], []⟩, ⟨none, [], [], [], [], [], []⟩, ⟨none, [], [], [], [], [], []⟩, ⟨none, [], [], [], [], [], []⟩, ⟨none, [], [], [], [], [], []⟩, ⟨none, [], [], [], [], [], []⟩, ⟨none, [], [], [], [], [], []⟩] }, by decide +kernel⟩,
   ⟨0, given [(.SEQ_DOWN, 0, 0), (.DRIVE_STATE, 0, 4), (.CONTROLWORD, 0, 31), (.MODE_DISP, 0, 7), (.CH_STATE, 0, 1)], by decide +kernel⟩⟩

theorem witness_HomingAndSteps :
    (∃ (s : State), s.get .TB_RUNNING 0 = 1) ∧
    (∃ (i : Slot) (positive : Bool) (level : Bool) (s : State), s.getBit .SW_BALL i (if positive then 1 else 0) = level) ∧
    (∃ (t : Nat) (i : Slot) (s : State), s.get .TB_RUNNING 0 = 1 ∧ s.getBit .SW_BALL i 2 = false ∧ s.get .BOOT_DONE 0 = 1 ∧ roleOf s i 2 = 3 ∧ roleActive s i 3 = false ∧ roleActive (refreshSwitches ((s.atTick t).setBit .SW_BALL i 2 true) i) i 3 = true ∧ s.get .HOME_STATE i = 1 ∧ s.get .HM_TAKEN i = 0 ∧ searchSwitch (s.geti .HM_METHOD i) = 3) ∧
    (∃ (s : State), s.get .TB_RUNNING 0 = 1) ∧
    (∃ (c : Slot) (s : State), s.get .TB_RUNNING 0 = 1 ∧ s.getBit .FB_STAT c 8 = false ∧ s.get .BOOT_DONE 0 = 1 ∧ chMode s c ≠ 2 ∧ s.dv .Z_POL c = 1 ∧ s.dv .Z_GATE c = 0 ∧ s.get .HOME_STATE c = 3) ∧
    (∃ (i : Slot) (s : State), s.get .SEQ_DOWN 0 = 0 ∧ inRing s i = false ∧ s.geti .MODE_DISP i = 6 ∧ s.get .DRIVE_STATE i = 4 ∧ s.get .CONTROLWORD i = 0xF ∧ rideThrough s i = false ∧ homingRuns s i = false ∧ s.geti .HOMING_METHOD i = 37) ∧
    (∃ (i : Slot) (s : State), s.get .SEQ_DOWN 0 = 0 ∧ inRing s i = false ∧ s.geti .MODE_DISP i = 6 ∧ s.get .DRIVE_STATE i = 4 ∧ s.get .CONTROLWORD i = 0xF ∧ rideThrough s i = false ∧ homingRuns s i = false ∧ methodFits s i (s.geti .HOMING_METHOD i) = false) ∧
    (∃ (i : Slot) (s : State), 1 ≤ s.get .HOME_STATE i ∧ s.get .HOME_STATE i ≤ 4 ∧ s.dv .CHATTER_MAX i < s.get .HOME_EDGES i) ∧
    (∃ (i : Slot) (s : State), 1 ≤ s.get .HOME_STATE i ∧ s.get .HOME_STATE i ≤ 4 ∧ s.dv .HOME_DIST_MAX i ≠ 0 ∧ s.dv .HOME_DIST_MAX i * 65536 < homingTravel s i) ∧
    (∃ (i : Slot) (s : State), s.get .HOME_STATE i = 3 ∧ s.dv .HOME_IDX_MAX i * 65536 < homingTravel s i) ∧
    (∃ (c : Slot) (level : Bool) (s : State), s.get .TB_RUNNING 0 = 1 ∧ s.flag .STEP_LEVEL c ≠ level ∧ s.dflag .SF_EDGE c ≠ level) ∧
    (∃ (c : Slot) (level : Bool) (s : State), s.get .TB_RUNNING 0 = 1 ∧ (s.flag .STEP_LEVEL c = level ∨ s.dflag .SF_EDGE c = level)) ∧
    (∃ (i : Slot) (s : State), s.get .SF_STATE i = 3 ∧ s.get .STILL_CMD i = 1) ∧
    (∃ (i : Slot) (s : State), (s.get .SF_STATE i = 1 ∨ s.get .SF_STATE i = 2)) :=
  ⟨⟨given [(.TB_RUNNING, 0, 1)], by decide +kernel⟩,
   ⟨0, false, true, given [], by decide +kernel⟩,
   ⟨0, 0, given [(.TB_RUNNING, 0, 1), (.SW_BALL, 0, 0), (.BOOT_DONE, 0, 1), (.HOME_STATE, 0, 1), (.HM_TAKEN, 0, 0), (.HM_METHOD, 0, 19), (.SW_STATE, 0, 0)] [(.HOME_POL, 0, 1)], by decide +kernel⟩,
   ⟨given [(.TB_RUNNING, 0, 1)], by decide +kernel⟩,
   ⟨0, given [(.TB_RUNNING, 0, 1), (.FB_STAT, 0, 1), (.BOOT_DONE, 0, 1), (.HOME_STATE, 0, 3)] [(.Z_POL, 0, 1), (.Z_GATE, 0, 0)], by decide +kernel⟩,
   ⟨0, given [(.SEQ_DOWN, 0, 0), (.MODE_DISP, 0, 6), (.DRIVE_STATE, 0, 4), (.CONTROLWORD, 0, 15), (.HOMING_METHOD, 0, 37)], by decide +kernel⟩,
   ⟨0, given [(.SEQ_DOWN, 0, 0), (.MODE_DISP, 0, 6), (.DRIVE_STATE, 0, 4), (.CONTROLWORD, 0, 15)], by decide +kernel⟩,
   ⟨0, given [(.HOME_STATE, 0, 1), (.HOME_EDGES, 0, 9)], by decide +kernel⟩,
   ⟨0, given [(.HOME_STATE, 0, 1), (.EV_P, 0, 65537), (.HM_START, 0, 0)] [(.HOME_DIST_MAX, 0, 1)], by decide +kernel⟩,
   ⟨0, given [(.HOME_STATE, 0, 3), (.EV_P, 0, 65537), (.HM_START, 0, 0)] [(.HOME_IDX_MAX, 0, 1)], by decide +kernel⟩,
   ⟨0, true, given [(.TB_RUNNING, 0, 1)], by decide +kernel⟩,
   ⟨0, false, given [(.TB_RUNNING, 0, 1)], by decide +kernel⟩,
   ⟨0, given [(.SF_STATE, 0, 3), (.STILL_CMD, 0, 1)], by decide +kernel⟩,
   ⟨0, given [(.SF_STATE, 0, 1)], by decide +kernel⟩⟩

theorem witness_CurrentConditions :
    (∃ (i : Slot) (w : Nat) (s : State), firstComp s i (fun k => decide (s.dv .NOSAMPLE_MAX i ≤ s.get .W_MISS k)) = some w ∧ s.getBit .REG_STAT i 4 = false ∧ s.dv .NOSAMPLE_MAX i ≠ 0 ∧ slotFaulted s i = false) ∧
    (∃ (i : Slot) (s : State), (∀ w < 2, s.get .W_MISS (4 * i.val + w) < s.dv .NOSAMPLE_MAX i)) ∧
    (∃ (t : Nat) (i : Slot) (s : State), s.get .TB_RUNNING 0 = 1 ∧ s.get .FF_POSTED i = 0 ∧ s.get .VBUS_TICK i + 160000 < max s.ts t) ∧
    (∃ (i : Slot) (s : State), s.get .FF_POSTED i = 1) ∧
    (∃ (i : Slot) (s : State), s.getBit .REG_STAT i 0 = true ∧ 16 ≤ s.get .HD_LOW i) ∧
    (∃ (t : Nat) (i : Slot) (s : State), s.get .TB_RUNNING 0 = 1 ∧ s.kind i = 1 ∧ s.dv .HOLD_DELAY i ≠ 0 ∧ s.get .STILL_CMD i = 1 ∧ s.getBit .REG_STAT i 3 = false ∧ s.get .HOLD_SINCE i + s.dv .HOLD_DELAY i * 160000 ≤ max s.ts t) ∧
    (∃ (i : Slot) (w : Nat) (s : State), firstComp s i (fun k => decide (32 ≤ s.get .W_OPEN k)) = some w ∧ slotFaulted s i = false) ∧
    (∃ (i : Slot) (w : Nat) (s : State), firstComp s i (fun k => decide (8 ≤ s.get .W_SUM k)) = some w ∧ slotFaulted s i = false) :=
  ⟨⟨0, 0, given [(.REG_STAT, 0, 0), (.W_MISS, 0, 1)] [(.NOSAMPLE_MAX, 0, 1)], by decide +kernel⟩,
   ⟨0, given [], by decide +kernel⟩,
   ⟨160001, 0, given [(.TB_RUNNING, 0, 1), (.FF_POSTED, 0, 0)], by decide +kernel⟩,
   ⟨0, given [(.FF_POSTED, 0, 1)], by decide +kernel⟩,
   ⟨0, given [(.REG_STAT, 0, 1), (.HD_LOW, 0, 16)], by decide +kernel⟩,
   ⟨80000000, 0, given [(.TB_RUNNING, 0, 1), (.STILL_CMD, 0, 1), (.REG_STAT, 0, 0)], by decide +kernel⟩,
   ⟨0, 0, given [(.W_OPEN, 0, 32)], by decide +kernel⟩,
   ⟨0, 0, given [(.W_SUM, 0, 8)], by decide +kernel⟩⟩

theorem witness_StallsAndProbes :
    (∃ (i : Slot) (s : State), s.get .STALL_NOW i ≠ 0 ∧ s.get .PROBE_KIND i = 0 ∧ s.dv .STALL_ACTION i = 0 ∧ s.get .HOME_STATE i ≠ 1) ∧
    (∃ (i : Slot) (s : State), s.get .STALL_NOW i = 0) ∧
    (∃ (t : Nat) (i : Slot) (s : State), s.get .TB_RUNNING 0 = 1 ∧ s.get .STALL_HOLD i ≠ 0 ∧ s.get .STALL_HOLD i + 1600000 ≤ max s.ts t ∧ slotFaulted s i = false) ∧
    (∃ (t : Nat) (i : Slot) (s : State), probeDue (s.atTick t) i = true ∧ s.kind i ≠ 0 ∧ cyclePosts s i = true ∧ probeStandOk (s.atTick t) i = true) ∧
    (∃ (t : Nat) (i : Slot) (s : State), probeDue (s.atTick t) i = false) ∧
    (∃ (t : Nat) (i : Slot) (s : State), probeDue (s.atTick t) i = true ∧ s.kind i ≠ 0 ∧ cyclePosts s i = true ∧ probeRunOk s i (decide (commandedAccel (s.atTick t) i (s.atTick t).ts = 0)) = true) ∧
    (∃ (t : Nat) (i : Slot) (s : State), s.get .PROBE_KIND i ≠ 0 ∧ s.get .PROBE_START_T i + 3200000 ≤ (s.atTick t).ts) ∧
    (∃ (path : Path) (i : Slot) (s : State), s.get .SEQ_DOWN 0 = 0 ∧ (path = .can → sdoServed s = true) ∧ authOn s path.code = 3 ∧ s.opEnabled i = true ∧ s.get .STILL_CMD i = 1 ∧ s.get .PROBE_DELTA i ≤ s.get .CUR_AMP i ∧ -2560 ≤ s.geti .VW_CAL_TREF i ∧ s.geti .VW_CAL_TREF i ≤ 3840) ∧
    (∃ (path : Path) (s : State), s.get .SEQ_DOWN 0 = 0 ∧ (path = .can → sdoServed s = true) ∧ authOn s path.code < 2) ∧
    (∃ (t : Nat) (i : Slot) (s : State), s.get .VW_STATE i = 0 ∧ s.get .R_UPD_TICK i + s.dv .VW_MAXAGE i * 160000000 < (s.atTick t).ts) :=
  ⟨⟨0, given [(.STALL_NOW, 0, 1), (.PROBE_KIND, 0, 0)] [(.STALL_ACTION, 0, 0)], by decide +kernel⟩,
   ⟨0, given [(.STALL_NOW, 0, 0)], by decide +kernel⟩,
   ⟨1600001, 0, given [(.TB_RUNNING, 0, 1), (.STALL_HOLD, 0, 1)], by decide +kernel⟩,
   ⟨800000000, 0, given [(.DRIVE_STATE, 0, 4), (.STILL_CMD, 0, 1), (.CUR_AMP, 0, 2048)], by decide +kernel⟩,
   ⟨0, 0, given [], by decide +kernel⟩,
   ⟨800000000, 0, given [(.DRIVE_STATE, 0, 4), (.OBS_MODE, 0, 2), (.VEL_CMD, 0, 4915200), (.CUR_AMP, 0, 2048)], by decide +kernel⟩,
   ⟨3200000, 0, given [(.PROBE_KIND, 0, 1)], by decide +kernel⟩,
   ⟨.spi, 0, given [(.SEQ_DOWN, 0, 0), (.SESS_OPEN, 0, 1), (.SESS_PATH, 0, 0), (.SESS_ROLE, 0, 3), (.STILL_CMD, 0, 1), (.CUR_AMP, 0, 2048), (.VW_CAL_TREF, 0, 3840), (.DRIVE_STATE, 0, 4)], by decide +kernel⟩,
   ⟨.spi, given [(.SEQ_DOWN, 0, 0)], by decide +kernel⟩,
   ⟨9600000001, 0, given [(.VW_STATE, 0, 0)], by decide +kernel⟩⟩

theorem witness_PwmPeriods :
    (∃ (g : Fin 16) (s : State), s.get .TB_RUNNING 0 = 1 ∧ groupPeriod s g ≠ 0) ∧
    (∃ (g : Fin 16) (s : State), (s.get .TB_RUNNING 0 = 0 ∨ groupPorts s g = [])) ∧
    (∃ (g : Fin 16) (p : Port) (s : State), s.get .TB_RUNNING 0 = 1 ∧ groupPeriod s g ≠ 0 ∧ groupPorts s g = [p.val] ∧ groupSlots s g = [] ∧ s.isX p = true ∧ xRuns s p = true ∧ s.get .GROUP_WAIT p = 0 ∧ s.get .LOAD_LEFT g = 0 ∧ s.get .DL_COARSE 0 = 0 ∧ s.get .PERIOD_LOADED p = s.get .PERIOD_DEV p ∧ s.get .PERIOD_LONG p ≤ s.get .PERIOD_LOADED p ∧ braking s p = false ∧ s.get .TRIPN_LOW (p / 8) = 0 ∧ s.dv .DUTY p + s.get .DEAD_DEV p + (s.get .DEAD_DEV p + 320) ≤ 32 * s.get .PERIOD_DEV p ∧ 320 ≤ s.dv .DUTY p) ∧
    (∃ (g : Fin 16) (s : State), s.get .LOAD_LEFT g = 0) ∧
    (∃ (g : Fin 16) (s : State), s.get .LOAD_LEFT g ≠ 0) ∧
    (∃ (g : Fin 16) (s : State), s.get .TB_RUNNING 0 = 1 ∧ groupPeriod s g ≠ 0 ∧ s.get .LOAD_LEFT g = 2 ∧ s.get .LOAD_TICK g + 10 ≤ nextStart s g) ∧
    (∃ (g : Fin 16) (s : State), s.get .TB_RUNNING 0 = 1 ∧ groupPeriod s g ≠ 0 ∧ s.get .LOAD_LEFT g = 1 ∧ s.get .LOAD_TICK g + 10 ≤ nextStart s g ∧ loadFailures s g = []) ∧
    (∃ (g : Fin 16) (s : State), s.get .TB_RUNNING 0 = 1 ∧ groupPeriod s g ≠ 0 ∧ s.get .LOAD_LEFT g = 1 ∧ s.get .LOAD_TICK g + 10 ≤ nextStart s g ∧ loadFailures s g ≠ []) ∧
    (∃ (p : Port) (src : Fin 4) (s : State), evtConfig s p src % 32 ≠ 0 ∧ sourceLive s p src = true ∧ s.get .PRESC_CNT (4 * p + src) + 1 < evtConfig s p src % 32) ∧
    (∃ (p : Port) (src : Fin 4) (s : State), evtConfig s p src % 32 ≠ 0 ∧ sourceLive s p src = true ∧ evtConfig s p src % 32 ≤ s.get .PRESC_CNT (4 * p + src) + 1 ∧ bit (evtConfig s p src) 5 = true ∧ bit (evtConfig s p src) 6 = false ∧ (∀ k < 4, s.get .TRIGO_PWM_EN k = 0) ∧ s.get .SEQ_DOWN 0 = 0 ∧ s.get .EVT_POSTED p = 0) ∧
    (∃ (t : Nat) (p : Port) (src : Fin 4) (s : State), evtConfig s p src % 32 ≠ 0 ∧ sourceLive s p src = true ∧ evtConfig s p src % 32 ≤ s.get .PRESC_CNT (4 * p + src) + 1 ∧ bit (evtConfig s p src) 5 = true ∧ s.get .EVT_POSTED p = 1 ∧ (s.atTick t).ts < s.get .EVT_TICK p + 16000) ∧
    (∃ (p : Port) (src : Fin 4) (k : Nat) (s : State), evtConfig s p src % 32 ≠ 0 ∧ sourceLive s p src = true ∧ evtConfig s p src % 32 ≤ s.get .PRESC_CNT (4 * p + src) + 1 ∧ k < 4 ∧ s.get .TRIGO_PWM_EN k = 1 ∧ s.get .TRIGO_PORT k = p ∧ s.get .TRIGO_SRC k = src) ∧
    (∃ (t : Nat) (k : Fin 4) (s : State), s.get .TRIGO_LEVEL k = 1 ∧ s.get .TRIGO_END k ≤ (s.atTick t).ts) ∧
    (∃ (t : Nat) (k : Fin 4) (s : State), (s.atTick t).ts < s.get .TRIGO_END k) :=
  ⟨⟨0, given [(.TB_RUNNING, 0, 1)], by decide +kernel⟩,
   ⟨0, given [(.TB_RUNNING, 0, 0)], by decide +kernel⟩,
   ⟨0, 0, given [(.TB_RUNNING, 0, 1), (.GROUP_WAIT, 0, 0), (.LOAD_LEFT, 0, 0), (.DL_COARSE, 0, 0), (.PERIOD_LOADED, 0, 4000), (.TRIPN_LOW, 0, 0), (.PWM_EN, 0, 1), (.VDRV_OK, 0, 1), (.BANK_REL, 0, 1), (.PORT_ROLE_DEV, 0, 224)] [(.DUTY, 0, 320), (.GROUP, 1, 1), (.GROUP, 2, 1), (.GROUP, 3, 1), (.GROUP, 4, 1), (.GROUP, 5, 1), (.GROUP, 6, 1), (.GROUP, 7, 1), (.GROUP, 8, 1), (.GROUP, 9, 1), (.GROUP, 10, 1), (.GROUP, 11, 1), (.GROUP, 12, 1), (.GROUP, 13, 1), (.GROUP, 14, 1), (.GROUP, 15, 1), (.GROUP, 16, 1), (.GROUP, 17, 1), (.GROUP, 18, 1), (.GROUP, 19, 1), (.GROUP, 20, 1), (.GROUP, 21, 1), (.GROUP, 22, 1), (.GROUP, 23, 1), (.GROUP, 24, 1), (.GROUP, 25, 1), (.GROUP, 26, 1), (.GROUP, 27, 1), (.GROUP, 28, 1), (.GROUP, 29, 1), (.GROUP, 30, 1), (.GROUP, 31, 1)], by decide +kernel⟩,
   ⟨0, given [(.LOAD_LEFT, 0, 0)], by decide +kernel⟩,
   ⟨0, given [(.LOAD_LEFT, 0, 1)], by decide +kernel⟩,
   ⟨0, given [(.TB_RUNNING, 0, 1), (.LOAD_LEFT, 0, 2)], by decide +kernel⟩,
   ⟨0, given [(.TB_RUNNING, 0, 1), (.LOAD_LEFT, 0, 1)], by decide +kernel⟩,
   ⟨0, given [(.TB_RUNNING, 0, 1), (.LOAD_LEFT, 0, 1), (.PERIOD, 0, 100)], by decide +kernel⟩,
   ⟨0, 1, given [] [(.CFG_PRD, 0, 2)], by decide +kernel⟩,
   ⟨0, 1, given [(.SEQ_DOWN, 0, 0), (.EVT_POSTED, 0, 0)] [(.CFG_PRD, 0, 33)], by decide +kernel⟩,
   ⟨0, 0, 1, given [(.EVT_POSTED, 0, 1)] [(.CFG_PRD, 0, 33)], by decide +kernel⟩,
   ⟨0, 1, 3, given [(.TRIGO_PWM_EN, 3, 1), (.TRIGO_PORT, 3, 0), (.TRIGO_SRC, 3, 1)] [(.CFG_PRD, 0, 33)], by decide +kernel⟩,
   ⟨0, 0, given [(.TRIGO_LEVEL, 0, 1), (.TRIGO_END, 0, 0)], by decide +kernel⟩,
   ⟨0, 0, given [(.TRIGO_END, 0, 1)], by decide +kernel⟩⟩

theorem witness_Trips :
    (∃ (p : Port) (s : State), s.get .TRIP_HELD p = 0) ∧
    (∃ (p : Port) (s : State), s.get .TRIP_HELD p = 1) ∧
    (∃ (p : Port) (s : State), s.isAxisPort p = true ∧ slotFaulted s (s.portOwner p) = false) ∧
    (∃ (s : State), (∀ p < 32, s.get .PORT_DRIVE p ≠ 3)) ∧
    (∃ (p : Port) (s : State), s.get .TRIP_LATCH p = 0 ∧ tripLimit s p ≤ s.get .TRIP_RUN p) ∧
    (∃ (p : Port) (s : State), s.get .TRIP_LATCH p = 0 ∧ tripLimit s p ≤ s.get .TRIP_RUN p ∧ s.isAxisPort p = true ∧ slotFaulted s (s.portOwner p) = false) ∧
    (∃ (p : Port) (s : State), s.get .TRIP_RUN p < tripLimit s p) ∧
    (∃ (p : Port) (s : State), s.get .TRIP_LATCH p = 1 ∧ tripSource s p = false) ∧
    (∃ (p : Port) (s : State), s.get .TRIP_LATCH p = 1 ∧ tripSource s p = true) :=
  ⟨⟨0, given [(.TRIP_HELD, 0, 0)], by decide +kernel⟩,
   ⟨0, given [(.TRIP_HELD, 0, 1)], by decide +kernel⟩,
   ⟨0, given [], by decide +kernel⟩,
   ⟨given [], by decide +kernel⟩,
   ⟨0, given [(.TRIP_LATCH, 0, 0), (.TRIP_RUN, 0, 4)], by decide +kernel⟩,
   ⟨0, given [(.TRIP_LATCH, 0, 0), (.TRIP_RUN, 0, 4)], by decide +kernel⟩,
   ⟨0, given [], by decide +kernel⟩,
   ⟨0, given [(.TRIP_LATCH, 0, 1)], by decide +kernel⟩,
   ⟨0, given [(.TRIP_LATCH, 0, 1), (.TRIPN_LOW, 0, 1)], by decide +kernel⟩⟩

theorem witness_GateDrive :
    (∃ (p : Port) (s : State), s.isAxisPort p = true ∧ slotFaulted s (s.portOwner p) = false) ∧
    (∃ (p : Port) (s : State), clearable s p = false) ∧
    (∃ (p : Port) (low : Bool) (s : State), clearable s p = true ∧ s.get .GD_LATCH p = 1 ∧ s.get .LSP_SHORT p = 0 ∧ s.get .HSP_SHORT p = 0 ∧ (s.get .GD_CAUSE p = 3 → low = true)) ∧
    (∃ (p : Port) (s : State), clearable s p = true ∧ s.get .GD_LATCH p = 1 ∧ s.get .LSP_SHORT p = 0 ∧ s.get .HSP_SHORT p = 0 ∧ s.get .GD_CAUSE p = 3) ∧
    (∃ (p : Port) (s : State), clearable s p = true ∧ s.get .GD_LATCH p = 1 ∧ (s.get .LSP_SHORT p = 1 ∨ s.get .HSP_SHORT p = 1)) ∧
    (∃ (p : Port) (s : State), s.get .LEG_TEST p = 1 ∧ s.isAxisPort p = false) ∧
    (∃ (p : Port) (s : State), s.get .LEG_TEST p = 1) ∧
    (∃ (p : Port) (s : State), s.get .PORT_DRIVE p = 1) ∧
    (∃ (p : Port) (s : State), 3 ≤ s.get .BST_RUN p ∧ s.isX p = true) ∧
    (∃ (p : Port) (s : State), 3 ≤ s.get .BST_RUN p ∧ s.isAxisPort p = true ∧ slotFaulted s (s.portOwner p) = false) ∧
    (∃ (p : Port) (s : State), s.get .BST_RUN p < 3) :=
  ⟨⟨0, given [], by decide +kernel⟩,
   ⟨0, given [(.DRIVE_STATE, 0, 4)], by decide +kernel⟩,
   ⟨0, false, given [(.GD_LATCH, 0, 1), (.LSP_SHORT, 0, 0), (.HSP_SHORT, 0, 0)], by decide +kernel⟩,
   ⟨0, given [(.GD_LATCH, 0, 1), (.LSP_SHORT, 0, 0), (.HSP_SHORT, 0, 0), (.GD_CAUSE, 0, 3)], by decide +kernel⟩,
   ⟨0, given [(.GD_LATCH, 0, 1), (.LSP_SHORT, 0, 1)], by decide +kernel⟩,
   ⟨0, given [(.LEG_TEST, 0, 1), (.PORT_ROLE_DEV, 0, 224)], by decide +kernel⟩,
   ⟨0, given [(.LEG_TEST, 0, 1)], by decide +kernel⟩,
   ⟨0, given [(.PORT_DRIVE, 0, 1)], by decide +kernel⟩,
   ⟨0, given [(.BST_RUN, 0, 3), (.PORT_ROLE_DEV, 0, 224)], by decide +kernel⟩,
   ⟨0, given [(.BST_RUN, 0, 3)], by decide +kernel⟩,
   ⟨0, given [(.BST_RUN, 0, 2)], by decide +kernel⟩⟩

theorem witness_BusAndDies :
    (∃ (mv : Nat), mv < 2 ^ 32) ∧
    (∃ (t : Nat) (s : State), s.get .BUS_READ_TICK 0 + 160000 < (s.atTick t).ts ∧ s.getBit .BUS_STAT 0 4 = false) ∧
    (∃ (t : Nat) (s : State), (s.atTick t).ts ≤ s.get .BUS_READ_TICK 0 + 160000) ∧
    (∃ (s : State), s.getBit .BUS_STAT 0 1 = false) ∧
    (∃ (t : Nat) (s : State), s.getBit .BUS_STAT 0 1 = true ∧ s.get .COAST_GOOD 0 ≠ 0 ∧ s.get .COAST_GOOD 0 + 1600000 ≤ (s.atTick t).ts ∧ (∀ b < 4, s.get .HARD_COAST b = 0)) ∧
    (∃ (t : Nat) (s : State), (s.atTick t).ts < s.get .COAST_GOOD 0 + 1600000) ∧
    (∃ (t : Nat) (s : State), s.getBit .BUS_STAT 0 0 = true ∧ s.get .RT_STOP_MS 0 ≠ 0 ∧ s.get .BUS_HALT 0 = 0 ∧ s.get .BUS_LOW_SINCE 0 + s.get .RT_STOP_MS 0 * 160000 ≤ (s.atTick t).ts) ∧
    (∃ (s : State), (s.getBit .BUS_STAT 0 0 = false ∨ s.get .RT_STOP_MS 0 = 0)) ∧
    (∃ (b : Bank) (s : State), s.get .HARD_OV b = 0) ∧
    (∃ (b : Bank) (s : State), s.get .HARD_OV b = 1) ∧
    (∃ (t : Nat) (s : State), s.getBit .BUS_STAT 0 3 = false ∧ s.get .OV_CLEAR_TICK 0 + 1600000 ≤ (s.atTick t).ts) ∧
    (∃ (b : Bank) (s : State), s.get .DIE_OT b = 0) :=
  ⟨⟨4294967295, by decide +kernel⟩,
   ⟨160001, given [(.BUS_STAT, 0, 0)], by decide +kernel⟩,
   ⟨0, given [], by decide +kernel⟩,
   ⟨given [(.BUS_STAT, 0, 0)], by decide +kernel⟩,
   ⟨1600001, given [(.BUS_STAT, 0, 2), (.COAST_GOOD, 0, 1)], by decide +kernel⟩,
   ⟨0, given [], by decide +kernel⟩,
   ⟨160000, given [(.BUS_STAT, 0, 1), (.RT_STOP_MS, 0, 1), (.BUS_HALT, 0, 0)], by decide +kernel⟩,
   ⟨given [(.BUS_STAT, 0, 0)], by decide +kernel⟩,
   ⟨0, given [(.HARD_OV, 0, 0)], by decide +kernel⟩,
   ⟨0, given [(.HARD_OV, 0, 1)], by decide +kernel⟩,
   ⟨1600000, given [(.BUS_STAT, 0, 0)], by decide +kernel⟩,
   ⟨0, given [(.DIE_OT, 0, 0)], by decide +kernel⟩⟩

theorem witness_StopBaths :
    (∃ (t : Nat) (i : Slot) (s : State), s.get .SB_STATE i = 2 ∧ s.getBit .SB_GROUP i i = true ∧ s.get .SB_HS_TICK i + hsHold s i * 160000 ≤ (s.atTick t).ts) ∧
    (∃ (i : Slot) (s : State), s.get .SB_STATE i ≠ 2) ∧
    (∃ (t : Nat) (i : Slot) (s : State), s.dv .SB_END i = 1 ∧ s.get .SB_STILL_SINCE i ≠ 0 ∧ (s.get .SB_STATE i = 1 ∨ s.get .SB_STATE i = 2) ∧ s.get .SB_STILL_SINCE i + s.dv .SB_STILL i * 160000 ≤ (s.atTick t).ts) ∧
    (∃ (i : Slot) (s : State), s.dv .SB_END i = 0) :=
  ⟨⟨16000000, 0, given [(.SB_STATE, 0, 2), (.SB_GROUP, 0, 1)], by decide +kernel⟩,
   ⟨0, given [], by decide +kernel⟩,
   ⟨16000001, 0, given [(.SB_STILL_SINCE, 0, 1), (.SB_STATE, 0, 1)] [(.SB_END, 0, 1)], by decide +kernel⟩,
   ⟨0, given [] [(.SB_END, 0, 0)], by decide +kernel⟩⟩

theorem witness_DriveCommands :
    (∃ (i : Slot) (s : State), s.get .SEQ_DOWN 0 = 0 ∧ inRing s i = false ∧ s.getBit .SB_CMD 0 i = false ∧ rideThrough s i = false ∧ s.get .DRIVE_STATE i = dsSwitchOnDisabled ∧ s.kind i ≠ 0) ∧
    (∃ (i : Slot) (s : State), s.get .SEQ_DOWN 0 = 0 ∧ inRing s i = false ∧ s.getBit .SB_CMD 0 i = false ∧ rideThrough s i = false ∧ s.get .DRIVE_STATE i = dsEnabled ∧ s.geti .SHUTDOWN_OPTION i = 0 ∧ s.get .SB_STATE i = 0) ∧
    (∃ (i : Slot) (s : State), s.get .SEQ_DOWN 0 = 0 ∧ inRing s i = false ∧ s.get .DRIVE_STATE i = dsReady ∧ mayswitchOn s i = true) ∧
    (∃ (i : Slot) (s : State), s.get .SEQ_DOWN 0 = 0 ∧ inRing s i = false ∧ s.get .DRIVE_STATE i = dsReady ∧ mayswitchOn s i = false) ∧
    (∃ (i : Slot) (s : State), s.get .SEQ_DOWN 0 = 0 ∧ inRing s i = false ∧ rideThrough s i = false ∧ s.get .DRIVE_STATE i = dsSwitchedOn ∧ pwmAllOn s i = true ∧ s.getBit .SB_CMD 0 i = false ∧ s.get .SB_STATE i = 0 ∧ s.get .TB_RUNNING 0 = 1) ∧
    (∃ (i : Slot) (s : State), s.get .SEQ_DOWN 0 = 0 ∧ inRing s i = false ∧ rideThrough s i = true) ∧
    (∃ (i : Slot) (s : State), s.get .SEQ_DOWN 0 = 0 ∧ inRing s i = false ∧ s.getBit .SB_CMD 0 i = false ∧ rideThrough s i = true) ∧
    (∃ (i : Slot) (s : State), s.get .SEQ_DOWN 0 = 0 ∧ inRing s i = false ∧ s.getBit .SB_CMD 0 i = false ∧ rideThrough s i = true) ∧
    (∃ (i : Slot) (s : State), s.get .SEQ_DOWN 0 = 0 ∧ inRing s i = false ∧ s.getBit .SB_CMD 0 i = false ∧ rideThrough s i = true) ∧
    (∃ (i : Slot) (s : State), s.get .SEQ_DOWN 0 = 0 ∧ inRing s i = false ∧ s.getBit .SB_CMD 0 i = false ∧ rideThrough s i = true ∧ slotFaulted s i = false ∧ s.get .DRIVE_STATE i ≠ 0) ∧
    (∃ (i : Slot) (s : State), s.get .SEQ_DOWN 0 = 0 ∧ inRing s i = false ∧ s.getBit .SB_CMD 0 i = true ∧ s.get .DRIVE_STATE i = dsSwitchedOn ∧ rideThrough s i = false) ∧
    (∃ (i : Slot) (s : State), s.get .SEQ_DOWN 0 = 0 ∧ inRing s i = false ∧ s.getBit .SB_CMD 0 i = true) ∧
    (∃ (i : Slot) (s : State), s.get .SEQ_DOWN 0 = 0 ∧ inRing s i = false ∧ s.getBit .SB_CMD 0 i = true) ∧
    (∃ (i : Slot) (s : State), s.get .SEQ_DOWN 0 = 0 ∧ inRing s i = false ∧ s.getBit .SB_CMD 0 i = true) ∧
    (∃ (i : Slot) (s : State), s.get .SEQ_DOWN 0 = 0 ∧ inRing s i = false ∧ s.getBit .SB_CMD 0 i = true) ∧
    (∃ (i : Slot) (s : State), s.get .SEQ_DOWN 0 = 0 ∧ inRing s i = false ∧ s.getBit .SB_CMD 0 i = false ∧ rideThrough s i = false ∧ s.get .DRIVE_STATE i = dsEnabled ∧ s.geti .DISABLE_OPTION i = 0) ∧
    (∃ (i : Slot) (s : State), s.get .SEQ_DOWN 0 = 0 ∧ inRing s i = false ∧ s.getBit .SB_CMD 0 i = false ∧ rideThrough s i = false ∧ s.get .DRIVE_STATE i = dsEnabled ∧ s.geti .DISABLE_OPTION i ≠ 0 ∧ s.get .STOP_REQ i = 0) ∧
    (∃ (i : Slot) (s : State), s.get .SEQ_DOWN 0 = 0 ∧ inRing s i = false ∧ s.getBit .SB_CMD 0 i = false ∧ rideThrough s i = false ∧ s.get .DRIVE_STATE i = dsEnabled ∧ s.geti .QSTOP_OPTION i = 0) ∧
    (∃ (i : Slot) (s : State), s.get .SEQ_DOWN 0 = 0 ∧ inRing s i = false ∧ s.getBit .SB_CMD 0 i = false ∧ rideThrough s i = false ∧ s.get .DRIVE_STATE i = dsEnabled ∧ s.geti .QSTOP_OPTION i = 2 ∧ s.get .STOP_REQ i = 0) ∧
    (∃ (i : Slot) (s : State), s.get .SEQ_DOWN 0 = 0 ∧ inRing s i = false ∧ s.getBit .SB_CMD 0 i = false ∧ rideThrough s i = false ∧ slotFaulted s i = false ∧ s.get .DRIVE_STATE i ≠ 0) ∧
    (∃ (i : Slot) (s : State), s.get .SEQ_DOWN 0 = 0 ∧ inRing s i = false ∧ slotFaulted s i = true) ∧
    (∃ (i : Slot) (s : State), s.get .SEQ_DOWN 0 = 0 ∧ inRing s i = false ∧ s.getBit .CONTROLWORD i 7 = false ∧ s.get .DRIVE_STATE i = dsFault ∧ s.get .RESETTING i = 0 ∧ resetBlocked s i = false ∧ (∀ p ∈ s.slotPorts i, s.get .GD_LATCH p = 0 ∧ s.get .TRIP_LATCH p = 0 ∧ s.get .LEG_TEST p = 0)) ∧
    (∃ (i : Slot) (s : State), s.get .SEQ_DOWN 0 = 0 ∧ inRing s i = false ∧ s.getBit .CONTROLWORD i 7 = false ∧ s.get .DRIVE_STATE i = dsFault ∧ resetBlocked s i = true) ∧
    (∃ (i : Slot) (s : State), inRing s i = true ∧ s.get .SEQ_DOWN 0 = 0) :=
  ⟨⟨0, given [(.SEQ_DOWN, 0, 0), (.SB_CMD, 0, 0), (.DRIVE_STATE, 0, 1)], by decide +kernel⟩,
   ⟨0, given [(.SEQ_DOWN, 0, 0), (.SB_CMD, 0, 0), (.DRIVE_STATE, 0, 4), (.SHUTDOWN_OPTION, 0, 0), (.SB_STATE, 0, 0)], by decide +kernel⟩,
   ⟨0, given [(.SEQ_DOWN, 0, 0), (.DRIVE_STATE, 0, 2), (.VDRV_OK, 0, 1)], by decide +kernel⟩,
   ⟨0, given [(.SEQ_DOWN, 0, 0), (.DRIVE_STATE, 0, 2)], by decide +kernel⟩,
   ⟨0, given [(.SEQ_DOWN, 0, 0), (.DRIVE_STATE, 0, 3), (.SB_CMD, 0, 0), (.SB_STATE, 0, 0), (.TB_RUNNING, 0, 1), (.PWM_EN, 0, 1), (.PWM_EN, 1, 1), (.PWM_EN, 2, 1), (.PWM_EN, 3, 1)], by decide +kernel⟩,
   ⟨0, given [(.SEQ_DOWN, 0, 0), (.PWR_STATE, 0, 8)], by decide +kernel⟩,
   ⟨0, given [(.SEQ_DOWN, 0, 0), (.SB_CMD, 0, 0), (.PWR_STATE, 0, 8)], by decide +kernel⟩,
   ⟨0, given [(.SEQ_DOWN, 0, 0), (.SB_CMD, 0, 0), (.PWR_STATE, 0, 8)], by decide +kernel⟩,
   ⟨0, given [(.SEQ_DOWN, 0, 0), (.SB_CMD, 0, 0), (.PWR_STATE, 0, 8)], by decide +kernel⟩,
   ⟨0, given [(.SEQ_DOWN, 0, 0), (.SB_CMD, 0, 0), (.PWR_STATE, 0, 8)], by decide +kernel⟩,
   ⟨0, given [(.SEQ_DOWN, 0, 0), (.SB_CMD, 0, 1), (.DRIVE_STATE, 0, 3)], by decide +kernel⟩,
   ⟨0, given [(.SEQ_DOWN, 0, 0), (.SB_CMD, 0, 1)], by decide +kernel⟩,
   ⟨0, given [(.SEQ_DOWN, 0, 0), (.SB_CMD, 0, 1)], by decide +kernel⟩,
   ⟨0, given [(.SEQ_DOWN, 0, 0), (.SB_CMD, 0, 1)], by decide +kernel⟩,
   ⟨0, given [(.SEQ_DOWN, 0, 0), (.SB_CMD, 0, 1)], by decide +kernel⟩,
   ⟨0, given [(.SEQ_DOWN, 0, 0), (.SB_CMD, 0, 0), (.DRIVE_STATE, 0, 4), (.DISABLE_OPTION, 0, 0)], by decide +kernel⟩,
   ⟨0, given [(.SEQ_DOWN, 0, 0), (.SB_CMD, 0, 0), (.DRIVE_STATE, 0, 4), (.STOP_REQ, 0, 0)], by decide +kernel⟩,
   ⟨0, given [(.SEQ_DOWN, 0, 0), (.SB_CMD, 0, 0), (.DRIVE_STATE, 0, 4), (.QSTOP_OPTION, 0, 0)], by decide +kernel⟩,
   ⟨0, given [(.SEQ_DOWN, 0, 0), (.SB_CMD, 0, 0), (.DRIVE_STATE, 0, 4), (.QSTOP_OPTION, 0, 2), (.STOP_REQ, 0, 0)], by decide +kernel⟩,
   ⟨0, given [(.SEQ_DOWN, 0, 0), (.SB_CMD, 0, 0)], by decide +kernel⟩,
   ⟨0, given [(.SEQ_DOWN, 0, 0), (.DRIVE_STATE, 0, 7)], by decide +kernel⟩,
   ⟨0, given [(.SEQ_DOWN, 0, 0), (.CONTROLWORD, 0, 0), (.DRIVE_STATE, 0, 7), (.RESETTING, 0, 0), (.VDRV_OK, 0, 1), (.BANK_REL, 0, 1)], by decide +kernel⟩,
   ⟨0, given [(.SEQ_DOWN, 0, 0), (.CONTROLWORD, 0, 0), (.DRIVE_STATE, 0, 7)], by decide +kernel⟩,
   ⟨0, given [(.SEQ_DOWN, 0, 0), (.LINK_STATE, 0, 4)] [(.AX_DN, 0, 2)], by decide +kernel⟩⟩

theorem witness_Encoders :
    (∃ (s : State), s.get .TB_RUNNING 0 = 1) ∧
    (∃ (c : Slot) (a : Bool) (b : Bool) (s : State), s.get .TB_RUNNING 0 = 1 ∧ chMode s c = 1 ∧ s.gn2008 = false ∧ s.dv .ENC_INV c = 0 ∧ quadPlace a b = (quadPlace (s.getBit .FB_STAT c 10) (s.getBit .FB_STAT c 9) + 1) % 4 ∧ s.geti .ENC_POS c + 1 ≤ s.dvi .FB_SOFTLIM_HI c) ∧
    (∃ (c : Slot) (a : Bool) (b : Bool) (s : State), s.get .TB_RUNNING 0 = 1 ∧ chMode s c = 1 ∧ s.gn2008 = false ∧ s.dv .ENC_INV c = 1 ∧ quadPlace a b = (quadPlace (s.getBit .FB_STAT c 10) (s.getBit .FB_STAT c 9) + 1) % 4 ∧ s.dvi .FB_SOFTLIM_LO c ≤ s.geti .ENC_POS c - 1) ∧
    (∃ (c : Slot) (a : Bool) (b : Bool) (s : State), s.get .TB_RUNNING 0 = 1 ∧ chMode s c = 1 ∧ s.gn2008 = false ∧ s.dv .ENC_INV c = 0 ∧ quadPlace a b = (quadPlace (s.getBit .FB_STAT c 10) (s.getBit .FB_STAT c 9) + 3) % 4 ∧ s.dvi .FB_SOFTLIM_LO c ≤ s.geti .ENC_POS c - 1) ∧
    (∃ (c : Slot) (a : Bool) (b : Bool) (s : State), s.get .TB_RUNNING 0 = 1 ∧ chMode s c = 1 ∧ s.gn2008 = false ∧ s.dv .ENC_INV c = 1 ∧ quadPlace a b = (quadPlace (s.getBit .FB_STAT c 10) (s.getBit .FB_STAT c 9) + 3) % 4 ∧ s.geti .ENC_POS c + 1 ≤ s.dvi .FB_SOFTLIM_HI c) ∧
    (∃ (c : Slot) (a : Bool) (b : Bool) (s : State), s.get .TB_RUNNING 0 = 1 ∧ chMode s c = 1 ∧ s.gn2008 = true ∧ s.dv .ENC_INV c = 0 ∧ quadPlace a b = (quadPlace (s.getBit .FB_STAT c 10) (s.getBit .FB_STAT c 9) + 1) % 4) ∧
    (∃ (c : Slot) (a : Bool) (b : Bool) (s : State), s.get .TB_RUNNING 0 = 1 ∧ chMode s c = 1 ∧ s.gn2008 = true ∧ s.dv .ENC_INV c = 0 ∧ quadPlace a b = (quadPlace (s.getBit .FB_STAT c 10) (s.getBit .FB_STAT c 9) + 3) % 4) ∧
    (∃ (c : Slot) (a : Bool) (b : Bool) (s : State), s.get .TB_RUNNING 0 = 1 ∧ chMode s c = 1 ∧ s.gn2008 = false ∧ s.dv .ENC_INV c = 0 ∧ quadPlace a b = (quadPlace (s.getBit .FB_STAT c 10) (s.getBit .FB_STAT c 9) + 1) % 4 ∧ s.geti .ENC_POS c = s.dvi .FB_SOFTLIM_HI c ∧ s.getBit .FB_STAT c 4 = false) ∧
    (∃ (c : Slot) (a : Bool) (b : Bool) (s : State), s.get .TB_RUNNING 0 = 1 ∧ chMode s c = 1 ∧ s.gn2008 = false ∧ s.dv .ENC_INV c = 0 ∧ quadPlace a b = (quadPlace (s.getBit .FB_STAT c 10) (s.getBit .FB_STAT c 9) + 3) % 4 ∧ s.geti .ENC_POS c = s.dvi .FB_SOFTLIM_LO c ∧ s.getBit .FB_STAT c 4 = false) ∧
    (∃ (c : Slot) (a : Bool) (b : Bool) (s : State), s.get .TB_RUNNING 0 = 1 ∧ chMode s c = 1 ∧ a ≠ s.getBit .FB_STAT c 10 ∧ b ≠ s.getBit .FB_STAT c 9) ∧
    (∃ (c : Slot) (st : Nat) (s : State), s.get .TB_RUNNING 0 = 1 ∧ chMode s c = 2 ∧ hallValid st = true ∧ s.get .HALL_STATE c = 0) ∧
    (∃ (c : Slot) (st : Nat) (s : State), s.get .TB_RUNNING 0 = 1 ∧ chMode s c = 2 ∧ hallValid st = true ∧ hallValid (s.get .HALL_STATE c) = true ∧ s.gn2008 = false ∧ hallSector s c st = (hallSector s c (s.get .HALL_STATE c) + 1) % 6 ∧ s.geti .ENC_POS c + 1 ≤ s.dvi .FB_SOFTLIM_HI c) ∧
    (∃ (c : Slot) (st : Nat) (s : State), s.get .TB_RUNNING 0 = 1 ∧ chMode s c = 2 ∧ hallValid st = true ∧ hallValid (s.get .HALL_STATE c) = true ∧ s.gn2008 = false ∧ hallSector s c st = (hallSector s c (s.get .HALL_STATE c) + 2) % 6 ∧ s.geti .ENC_POS c + 2 ≤ s.dvi .FB_SOFTLIM_HI c) ∧
    (∃ (c : Slot) (st : Nat) (s : State), s.get .TB_RUNNING 0 = 1 ∧ chMode s c = 2 ∧ hallValid st = true ∧ hallValid (s.get .HALL_STATE c) = true ∧ s.gn2008 = false ∧ hallSector s c st = (hallSector s c (s.get .HALL_STATE c) + 5) % 6 ∧ s.dvi .FB_SOFTLIM_LO c ≤ s.geti .ENC_POS c - 1) ∧
    (∃ (c : Slot) (st : Nat) (s : State), s.get .TB_RUNNING 0 = 1 ∧ chMode s c = 2 ∧ hallValid st = true ∧ hallValid (s.get .HALL_STATE c) = true ∧ s.gn2008 = false ∧ hallSector s c st = (hallSector s c (s.get .HALL_STATE c) + 4) % 6 ∧ s.dvi .FB_SOFTLIM_LO c ≤ s.geti .ENC_POS c - 2) ∧
    (∃ (c : Slot) (st : Nat) (s : State), s.get .TB_RUNNING 0 = 1 ∧ chMode s c = 2 ∧ hallValid st = true ∧ hallValid (s.get .HALL_STATE c) = true ∧ hallSector s c st = (hallSector s c (s.get .HALL_STATE c) + 3) % 6) ∧
    (∃ (c : Slot) (st : Nat) (s : State), s.get .TB_RUNNING 0 = 1 ∧ chMode s c = 2 ∧ hallValid st = false) ∧
    (∃ (c : Slot) (v : Int) (s : State), s.gn2008 = false ∧ s.dvi .FB_SOFTLIM_LO c ≤ v ∧ v ≤ s.dvi .FB_SOFTLIM_HI c) ∧
    (∃ (v : Int) (s : State), s.gn2008 = true ∧ -2 ^ 31 ≤ v ∧ v < 2 ^ 31) ∧
    (∃ (c : Slot) (s : State), s.get .TB_RUNNING 0 = 1 ∧ chMode s c ≠ 0 ∧ s.get .SPD_DISCARD c = 0 ∧ s.get .SPD_EDGES c ≠ 0) ∧
    (∃ (c : Slot) (s : State), s.get .TB_RUNNING 0 = 1 ∧ chMode s c ≠ 0 ∧ s.get .SPD_DISCARD c = 0 ∧ s.get .SPD_EDGES c = 0) ∧
    (∃ (c : Slot) (s : State), s.get .TB_RUNNING 0 = 1 ∧ s.get .SPD_DISCARD c = 1) ∧
    (∃ (c : Slot) (s : State), s.getBit .FB_STAT c 0 = false ∧ s.dv .STILL_WINDOWS c ≤ s.get .SPD_EMPTY c ∧ s.get .SPD_EMPTY c ≠ 0) ∧
    (∃ (c : Slot) (s : State), s.get .SPD_EMPTY c < s.dv .STILL_WINDOWS c) ∧
    (∃ (s : State), s.get .TB_RUNNING 0 = 0) :=
  ⟨⟨given [(.TB_RUNNING, 0, 1)], by decide +kernel⟩,
   ⟨0, true, false, given [(.TB_RUNNING, 0, 1)] [(.ENC_INV, 0, 0), (.CH_MODE, 0, 1)], by decide +kernel⟩,
   ⟨0, true, false, given [(.TB_RUNNING, 0, 1)] [(.ENC_INV, 0, 1), (.FB_SOFTLIM_LO, 0, 281474976710655), (.CH_MODE, 0, 1)], by decide +kernel⟩,
   ⟨0, false, true, given [(.TB_RUNNING, 0, 1)] [(.ENC_INV, 0, 0), (.FB_SOFTLIM_LO, 0, 281474976710655), (.CH_MODE, 0, 1)], by decide +kernel⟩,
   ⟨0, false, true, given [(.TB_RUNNING, 0, 1)] [(.ENC_INV, 0, 1), (.CH_MODE, 0, 1)], by decide +kernel⟩,
   ⟨0, true, false, given [(.TB_RUNNING, 0, 1)] [(.ENC_INV, 0, 0), (.CH_MODE, 0, 1), (.DEV_MODE, 0, 1)], by decide +kernel⟩,
   ⟨0, false, true, given [(.TB_RUNNING, 0, 1)] [(.ENC_INV, 0, 0), (.CH_MODE, 0, 1), (.DEV_MODE, 0, 1)], by decide +kernel⟩,
   ⟨0, true, false, given [(.TB_RUNNING, 0, 1), (.ENC_POS, 0, 140737488355327), (.FB_STAT, 0, 0)] [(.ENC_INV, 0, 0), (.CH_MODE, 0, 1)], by decide +kernel⟩,
   ⟨0, false, true, given [(.TB_RUNNING, 0, 1), (.ENC_POS, 0, 140737488355328), (.FB_STAT, 0, 0)] [(.ENC_INV, 0, 0), (.CH_MODE, 0, 1)], by decide +kernel⟩,
   ⟨0, true, true, given [(.TB_RUNNING, 0, 1)] [(.CH_MODE, 0, 1)], by decide +kernel⟩,
   ⟨0, 6, given [(.TB_RUNNING, 0, 1), (.HALL_STATE, 0, 0)] [(.CH_MODE, 0, 2)], by decide +kernel⟩,
   ⟨0, 2, given [(.TB_RUNNING, 0, 1), (.HALL_STATE, 0, 3)] [(.CH_MODE, 0, 2)], by decide +kernel⟩,
   ⟨0, 6, given [(.TB_RUNNING, 0, 1), (.HALL_STATE, 0, 3)] [(.CH_MODE, 0, 2)], by decide +kernel⟩,
   ⟨0, 1, given [(.TB_RUNNING, 0, 1), (.HALL_STATE, 0, 3)] [(.FB_SOFTLIM_LO, 0, 281474976710655), (.CH_MODE, 0, 2)], by decide +kernel⟩,
   ⟨0, 5, given [(.TB_RUNNING, 0, 1), (.HALL_STATE, 0, 3)] [(.FB_SOFTLIM_LO, 0, 281474976710654), (.CH_MODE, 0, 2)], by decide +kernel⟩,
   ⟨0, 4, given [(.TB_RUNNING, 0, 1), (.HALL_STATE, 0, 3)] [(.CH_MODE, 0, 2)], by decide +kernel⟩,
   ⟨0, 7, given [(.TB_RUNNING, 0, 1)] [(.CH_MODE, 0, 2)], by decide +kernel⟩,
   ⟨0, 0, given [] [(.FB_SOFTLIM_LO, 0, 0)], by decide +kernel⟩,
   ⟨2147483647, given [] [(.DEV_MODE, 0, 1)], by decide +kernel⟩,
   ⟨0, given [(.TB_RUNNING, 0, 1), (.SPD_DISCARD, 0, 0), (.SPD_EDGES, 0, 1)] [(.CH_MODE, 0, 1)], by decide +kernel⟩,
   ⟨0, given [(.TB_RUNNING, 0, 1), (.SPD_DISCARD, 0, 0), (.SPD_EDGES, 0, 0)] [(.CH_MODE, 0, 1)], by decide +kernel⟩,
   ⟨0, given [(.TB_RUNNING, 0, 1), (.SPD_DISCARD, 0, 1)], by decide +kernel⟩,
   ⟨0, given [(.FB_STAT, 0, 0), (.SPD_EMPTY, 0, 4)], by decide +kernel⟩,
   ⟨0, given [], by decide +kernel⟩,
   ⟨given [(.TB_RUNNING, 0, 0)], by decide +kernel⟩⟩

theorem witness_AlignmentAndSheets :
    (∃ (c : Slot) (s : State), encFaultDue s c = true ∧ encFaulty s c = false) ∧
    (∃ (c : Slot) (s : State), encFaultDue s c = false) ∧
    (∃ (t : Nat) (i : Slot) (s : State), alignDue (s.atTick t) i = true) ∧
    (∃ (t : Nat) (i : Slot) (s : State), alignDue (s.atTick t) i = false) ∧
    (∃ (t : Nat) (i : Slot) (s : State), s.get .FE_SINCE i ≠ 0 ∧ s.get .FE_SINCE i + s.dv .FE_TIME i * 160000 ≤ (s.atTick t).ts ∧ s.get .DRIVE_STATE i = dsEnabled) ∧
    (∃ (i : Slot) (s : State), s.get .FE_SINCE i = 0) ∧
    (∃ (t : Nat) (s : State), t < 2 ^ 64 ∧ s.ts + 320 ≤ t ∧ s.get .CS_PEND 0 = 0) ∧
    (∃ (t : Nat) (s : State), (t % 2 ^ 64 < s.ts + 320 ∨ s.get .CS_PEND 0 = 1)) ∧
    (∃ (s : State), s.get .CS_PEND 0 = 1 ∧ s.get .TB_RUNNING 0 = 1 ∧ s.qFill 10 + (idsWhere 8 (captures s)).length ≤ s.qSize 10) ∧
    (∃ (s : State), s.get .CS_PEND 0 = 1 ∧ s.get .TB_RUNNING 0 = 1 ∧ s.qSize 10 < s.qFill 10 + (idsWhere 8 (captures s)).length) ∧
    (∃ (s : State), s.get .CS_PEND 0 = 0) :=
  ⟨⟨0, given [(.ILL_RUN, 0, 8)] [(.ILLEGAL_LIMIT, 0, 8)], by decide +kernel⟩,
   ⟨0, given [], by decide +kernel⟩,
   ⟨1600000000, 0, given [(.STILL_CMD, 0, 1), (.CUR_AMP, 0, 1)] [(.CH_MODE, 0, 1)], by decide +kernel⟩,
   ⟨0, 0, given [], by decide +kernel⟩,
   ⟨1600001, 0, given [(.FE_SINCE, 0, 1), (.DRIVE_STATE, 0, 4)], by decide +kernel⟩,
   ⟨0, given [(.FE_SINCE, 0, 0)], by decide +kernel⟩,
   ⟨18446744073709551615, given [(.CS_PEND, 0, 0)], by decide +kernel⟩,
   ⟨0, given [], by decide +kernel⟩,
   ⟨given [(.CS_PEND, 0, 1), (.TB_RUNNING, 0, 1)], by decide +kernel⟩,
   ⟨given [(.CS_PEND, 0, 1), (.TB_RUNNING, 0, 1), (.QWR, 10, 1020)], by decide +kernel⟩,
   ⟨given [(.CS_PEND, 0, 0)], by decide +kernel⟩⟩

theorem witness_Conversions :
    (∃ (c : Conv) (epoch : Nat) (s : State), epoch ≠ s.get .CONV_EPOCH c) ∧
    (∃ (c : Conv) (p : Port) (s : State), c.val < 16 ∧ convServes s c = true ∧ convOfPort s p = c ∧ s.get .CONV_BUSY c = busyNone ∧ s.isAxisPort p = true ∧ s.get .WINDOWED (s.portOwner p) = 1 ∧ s.get .SMP_SKIP p = 0 ∧ s.get .SMP_DONE p = 0) ∧
    (∃ (c : Conv) (p : Port) (s : State), c.val < 16 ∧ convServes s c = true ∧ convOfPort s p = c ∧ s.get .CONV_BUSY c = busyInjected ∧ s.get .CONV_NOW c = p ∧ s.get .CONV_REDO c = busyNone) ∧
    (∃ (c : Conv) (i : Nat) (s : State), 16 ≤ c.val ∧ i < 64 ∧ convServes s c = true ∧ s.get .CONV_BUSY c = busyRound ∧ s.get .CONV_NOW c = 64 + i ∧ s.get .CONV_REDO c = busyNone ∧ s.dv .AVG_N i = 0 ∧ s.dv .SHIFT i = 0 ∧ s.dv .FMT i = 0 ∧ s.dv .DIFF i = 0 ∧ s.get .AUX_SETTLE i = 0) ∧
    (∃ (t : Nat) (r : Nat) (c : Conv) (s : State), injNext (s.atTick t) c = some r ∧ convServes s c = true ∧ s.get .CONV_BUSY c = busyNone ∧ (c.val < 16 → protectedAt s c (s.atTick t).ts = false)) ∧
    (∃ (t : Nat) (r : Nat) (c : Conv) (s : State), 16 ≤ c.val ∧ injNext (s.atTick t) c = some r ∧ convServes s c = true ∧ s.get .CONV_BUSY c = busyRound) ∧
    (∃ (c : Conv) (s : State), s.get .INJ_N c = 0) ∧
    (∃ (t : Nat) (p : Port) (s : State), s.get .MON_WAIT p = 1 ∧ monitorReady (s.atTick t) p = true ∧ convServes s (convOfPort s p) = true ∧ s.get .CONV_BUSY (convOfPort s p) = busyNone) ∧
    (∃ (t : Nat) (p : Port) (s : State), s.get .MON_WAIT p = 1 ∧ monitorReady (s.atTick t) p = false) ∧
    (∃ (p : Port) (s : State), s.get .MON_WAIT p = 0) ∧
    (∃ (j : Fin 9) (a : Int) (b : Int) (s : State), j.val < 8 ∧ s.getBit .CHK_REF_FAIL 0 j = false ∧ checkable s (2 * j) = true ∧ checkable s (2 * j + 1) = true ∧ isRetired s (2 * j) = false ∧ isRetired s (2 * j + 1) = false ∧ s.get .CHK_PHASE j = 0 ∧ absN (correct1 s (2 * j) a - 2048) ≤ s.get .CHECK_TOL 0 ∧ absN (correct1 s (2 * j + 1) b - 2048) ≤ s.get .CHECK_TOL 0) ∧
    (∃ (j : Fin 9) (a : Int) (b : Int) (s : State), j.val < 8 ∧ s.getBit .CHK_REF_FAIL 0 j = false ∧ checkable s (2 * j) = true ∧ checkable s (2 * j + 1) = true ∧ isRetired s (2 * j) = false ∧ isRetired s (2 * j + 1) = false ∧ s.get .CHK_PHASE j = 0 ∧ s.get .CHECK_TOL 0 < absN (correct1 s (2 * j) a - 2048) ∧ absN (correct1 s (2 * j + 1) b - 2048) ≤ s.get .CHECK_TOL 0) ∧
    (∃ (j : Fin 9) (s : State), s.getBit .CHK_REF_FAIL 0 j = true) ∧
    (∃ (c : Conv) (s : State), c.val < 16 ∧ s.get .CONV_RET_DUE c = 1) ∧
    (∃ (c : Conv) (s : State), s.get .CONV_RET_DUE c = 0 ∧ isRetired s c = false) :=
  ⟨⟨0, 1, given [], by decide +kernel⟩,
   ⟨0, 0, given [(.CONV_BUSY, 0, 0), (.WINDOWED, 0, 1), (.SMP_SKIP, 0, 0), (.SMP_DONE, 0, 0), (.CONV_STATE, 0, 0)], by decide +kernel⟩,
   ⟨0, 0, given [(.CONV_BUSY, 0, 3), (.CONV_NOW, 0, 0), (.CONV_REDO, 0, 0)], by decide +kernel⟩,
   ⟨16, 63, given [(.CONV_BUSY, 16, 4), (.CONV_NOW, 16, 127), (.CONV_REDO, 16, 0), (.AUX_SETTLE, 63, 0)] [(.AVG_N, 63, 0), (.SHIFT, 63, 0), (.FMT, 63, 0), (.DIFF, 63, 0)], by decide +kernel⟩,
   ⟨2000, 128, 0, given [(.CONV_BUSY, 0, 0), (.INJ_N, 0, 1), (.INJ_REQ, 0, 128), (.PORT_DRIVE, 0, 1), (.LS_TO, 0, 1000000)], by decide +kernel⟩,
   ⟨0, 256, 16, given [(.CONV_BUSY, 16, 4), (.INJ_N, 16, 1), (.INJ_REQ, 64, 256)], by decide +kernel⟩,
   ⟨0, given [(.INJ_N, 0, 0)], by decide +kernel⟩,
   ⟨2000, 0, given [(.MON_WAIT, 0, 1), (.PORT_DRIVE, 0, 1), (.LS_TO, 0, 1000000)], by decide +kernel⟩,
   ⟨0, 0, given [(.MON_WAIT, 0, 1)], by decide +kernel⟩,
   ⟨0, given [(.MON_WAIT, 0, 0)], by decide +kernel⟩,
   ⟨7, 2048, 2048, given [(.CHK_REF_FAIL, 0, 0), (.CHK_PHASE, 7, 0)], by decide +kernel⟩,
   ⟨7, 0, 2048, given [(.CHK_REF_FAIL, 0, 0), (.CHK_PHASE, 7, 0)], by decide +kernel⟩,
   ⟨0, given [(.CHK_REF_FAIL, 0, 1)], by decide +kernel⟩,
   ⟨15, given [(.CONV_RET_DUE, 15, 1)], by decide +kernel⟩,
   ⟨0, given [(.CONV_RET_DUE, 0, 0)], by decide +kernel⟩⟩

theorem witness_Calibration :
    (∃ (c : Conv) (ofs : Int) (gain : Nat) (s : State), s.get .CONV_CAL c = 1 ∧ absN ofs ≤ 512 ∧ 0x7000 ≤ gain ∧ gain ≤ 0x9000 ∧ isRetired s c = false) ∧
    (∃ (c : Conv) (ofs : Int) (s : State), s.get .CONV_CAL c = 1 ∧ 512 < absN ofs ∧ isRetired s c = false) ∧
    (∃ (c : Conv) (s : State), s.get .CONV_CAL c = 0) ∧
    (∃ (t : Nat) (c : Conv) (s : State), isRetired s c = true ∧ s.get .CONV_CAL c = 0 ∧ s.get .CONV_PASSES c = 16 ∧ s.get .CONV_RET_N c ≤ 1 ∧ s.get .CONV_CALFAIL c = 0 ∧ s.get .CONV_EPOCH_DUE c = 0 ∧ convEpochFree (s.atTick t) c = true ∧ s.get .CONV_STATE c = convRetired) ∧
    (∃ (c : Conv) (s : State), s.get .CONV_PASSES c < 16) ∧
    (∃ (t : Nat) (c : Conv) (s : State), s.get .CAL_INTERVAL 0 ≠ 0 ∧ s.dv .CAL_INTERVAL 0 = s.get .CAL_INTERVAL 0 ∧ s.get .CAL_ROTATED c = 1 ∧ s.get .CAL_TICK c + s.get .CAL_INTERVAL 0 * 160000000 ≤ (s.atTick t).ts ∧ mayCalibrate s c = true ∧ s.get .INJ_N c = 0 ∧ s.get .CONV_BUSY c ≠ busyInjected) ∧
    (∃ (t : Nat) (c : Conv) (s : State), s.get .CAL_INTERVAL 0 ≠ 0 ∧ s.dv .CAL_INTERVAL 0 = s.get .CAL_INTERVAL 0 ∧ s.get .CAL_ROTATED c = 1 ∧ s.get .CAL_TICK c + s.get .CAL_INTERVAL 0 * 160000000 ≤ (s.atTick t).ts ∧ mayCalibrate s c = false) ∧
    (∃ (t : Nat) (c : Conv) (s : State), s.get .CAL_INTERVAL 0 ≠ 0 ∧ s.dv .CAL_INTERVAL 0 = s.get .CAL_INTERVAL 0 ∧ s.get .CAL_ROTATED c = 0 ∧ (s.atTick t).ts < s.get .CAL_TICK c + s.get .CAL_INTERVAL 0 * 160000000 * (c.val + 1) / 18) ∧
    (∃ (s : State), s.get .CAL_INTERVAL 0 = 0 ∧ s.dv .CAL_INTERVAL 0 = 0) ∧
    (∃ (c : Conv) (s : State), s.get .CAL_WAIT c = 1 ∧ mayCalibrate s c = true ∧ s.get .INJ_N c = 0 ∧ s.get .CONV_BUSY c ≠ busyInjected) ∧
    (∃ (c : Conv) (s : State), s.get .CAL_WAIT c = 0) ∧
    (∃ (c : Conv) (s : State), mayCalibrate s c = true ∧ s.get .INJ_N c = 0 ∧ s.get .CONV_BUSY c ≠ busyInjected) ∧
    (∃ (c : Conv) (s : State), mayCalibrate s c = true ∧ s.get .INJ_N c ≠ 0) ∧
    (∃ (c : Conv) (s : State), mayCalibrate s c = false) ∧
    (∃ (path : Path) (s : State), s.get .SEQ_DOWN 0 = 0 ∧ (path = .can → sdoServed s = true) ∧ authOn s path.code = 3 ∧ syscalCheck s (s.get .SYSCAL_CH 0) = 0) ∧
    (∃ (path : Path) (s : State), s.get .SEQ_DOWN 0 = 0 ∧ (path = .can → sdoServed s = true) ∧ authOn s path.code = 3 ∧ syscalCheck s (s.get .SYSCAL_CH 0) = 0 ∧ s.get .SC_ZERO_OK 0 = 1 ∧ s.get .SC_ZERO_CH 0 = s.get .SYSCAL_CH 0) ∧
    (∃ (path : Path) (s : State), s.get .SEQ_DOWN 0 = 0 ∧ (path = .can → sdoServed s = true) ∧ authOn s path.code = 3 ∧ syscalCheck s (s.get .SYSCAL_CH 0) = 0 ∧ s.get .SC_ZERO_OK 0 = 0) ∧
    (∃ (code : Int) (s : State), s.get .SC_STEP 0 = 1 ∧ syscalCheck s (s.get .SC_RUN_CH 0) = 0 ∧ absN code ≤ 1024) ∧
    (∃ (s : State), s.get .SC_STEP 0 ≠ 0) ∧
    (∃ (code : Int) (k : Nat) (s : State), s.get .SC_STEP 0 = 2 ∧ k < 16 ∧ s.get .SC_RUN_CH 0 = 2 * k ∧ syscalCheck s (2 * k) = 0 ∧ code ≠ s.geti .SC_ZERO 0 ∧ 0x6000 ≤ rdiv (0x8000 * s.get .SYSCAL_TARGET 0) (code - s.geti .SC_ZERO 0) ∧ rdiv (0x8000 * s.get .SYSCAL_TARGET 0) (code - s.geti .SC_ZERO 0) ≤ 0xA000) :=
  ⟨⟨0, 0, 36864, given [(.CONV_CAL, 0, 1)], by decide +kernel⟩,
   ⟨0, (-513), given [(.CONV_CAL, 0, 1)], by decide +kernel⟩,
   ⟨0, given [(.CONV_CAL, 0, 0)], by decide +kernel⟩,
   ⟨0, 0, given [(.CONV_CAL, 0, 0), (.CONV_PASSES, 0, 16), (.CONV_RET_N, 0, 1), (.CONV_CALFAIL, 0, 0), (.CONV_EPOCH_DUE, 0, 0), (.CONV_STATE, 0, 2), (.CADC_RET, 0, 1)], by decide +kernel⟩,
   ⟨0, given [(.CONV_PASSES, 0, 15)], by decide +kernel⟩,
   ⟨96000000000, 0, given [(.CAL_ROTATED, 0, 1), (.INJ_N, 0, 0)] [(.CAL_INTERVAL, 0, 600)], by decide +kernel⟩,
   ⟨96000000000, 0, given [(.CAL_ROTATED, 0, 1), (.CONV_CAL, 0, 1)] [(.CAL_INTERVAL, 0, 600)], by decide +kernel⟩,
   ⟨0, 0, given [(.CAL_ROTATED, 0, 0)] [(.CAL_INTERVAL, 0, 600)], by decide +kernel⟩,
   ⟨given [(.CAL_INTERVAL, 0, 0)] [(.CAL_INTERVAL, 0, 0)], by decide +kernel⟩,
   ⟨0, given [(.CAL_WAIT, 0, 1), (.INJ_N, 0, 0)], by decide +kernel⟩,
   ⟨0, given [(.CAL_WAIT, 0, 0)], by decide +kernel⟩,
   ⟨0, given [(.INJ_N, 0, 0)], by decide +kernel⟩,
   ⟨0, given [(.INJ_N, 0, 1)], by decide +kernel⟩,
   ⟨0, given [(.CONV_CAL, 0, 1)], by decide +kernel⟩,
   ⟨.spi, given [(.SEQ_DOWN, 0, 0), (.SESS_OPEN, 0, 1), (.SESS_PATH, 0, 0), (.SESS_ROLE, 0, 3)], by decide +kernel⟩,
   ⟨.spi, given [(.SEQ_DOWN, 0, 0), (.SESS_OPEN, 0, 1), (.SESS_PATH, 0, 0), (.SESS_ROLE, 0, 3), (.SC_ZERO_OK, 0, 1), (.SC_ZERO_CH, 0, 0)], by decide +kernel⟩,
   ⟨.spi, given [(.SEQ_DOWN, 0, 0), (.SESS_OPEN, 0, 1), (.SESS_PATH, 0, 0), (.SESS_ROLE, 0, 3), (.SC_ZERO_OK, 0, 0)], by decide +kernel⟩,
   ⟨0, given [(.SC_STEP, 0, 1)], by decide +kernel⟩,
   ⟨given [(.SC_STEP, 0, 1)], by decide +kernel⟩,
   ⟨13107, 15, given [(.SC_STEP, 0, 2), (.SC_RUN_CH, 0, 30), (.SYSCAL_TARGET, 0, 13107)], by decide +kernel⟩⟩

theorem witness_Sensors :
    (∃ (t : Nat) (k : Sensor) (s : State), k.val < 8 ∧ sns s k ≠ snsDisabled ∧ s.get .SNS_EN k = 1 ∧ s.get .SNS_SCAN_TICK k + scanInterval s k ≤ (s.atTick t).ts ∧ convServes s (convOfInput s (inputOfSensor k)) = true ∧ s.get .SCAN_RATE k ≠ 2 ∧ s.get .SCAN_N (convOfInput s (inputOfSensor k) - 16) ≤ 61) ∧
    (∃ (t : Nat) (k : Sensor) (s : State), k.val < 26 ∧ sns s k ≠ snsDisabled ∧ s.get .SNS_EN k = 1 ∧ s.get .SNS_SCAN_TICK k + scanInterval s k ≤ (s.atTick t).ts ∧ convServes s (convOfInput s (inputOfSensor k)) = false ∧ s.get .CONV_CAL (convOfInput s (inputOfSensor k)) = 0 ∧ s.get .SNS_MISS k = 0) ∧
    (∃ (t : Nat) (k : Sensor) (s : State), (s.get .SNS_EN k = 0 ∨ (s.atTick t).ts < s.get .SNS_SCAN_TICK k + scanInterval s k)) ∧
    (∃ (k : Sensor) (a : Nat) (s : State), 16 ≤ k.val ∧ k.val < 26 ∧ a < 2 ^ 16 ∧ a ≠ 0x8000 ∧ s.get .SNS_PEND k = 1 ∧ sns s k = snsHealthy ∧ s.dv .RATE_MAX k = 0 ∧ (healthyNeighbours s k).length < 2) ∧
    (∃ (k : Sensor) (a : Nat) (b : Nat) (c : Nat) (s : State), k.val < 8 ∧ s.get .SNS_PEND k = 1 ∧ sns s k = snsHealthy ∧ s.dv .RATE_MAX k = 0 ∧ (healthyNeighbours s k).length < 2 ∧ diodeBad a (diodeRs a b c) false = false) ∧
    (∃ (t : Nat) (k : Sensor) (a : Nat) (s : State), 16 ≤ k.val ∧ k.val < 26 ∧ a < 2 ^ 16 ∧ a ≠ 0x8000 ∧ s.get .SNS_PEND k = 1 ∧ sns s k = snsHealthy ∧ rateFails (s.atTick t) k (toSigned 16 a) = true ∧ (healthyNeighbours s k).length < 2) ∧
    (∃ (k : Sensor) (s : State), s.get .SNS_PEND k = 0) ∧
    (∃ (t : Nat) (k : Sensor) (s : State), s.get .SNS_MISS k ≠ 0 ∧ s.get .SNS_MISSED k = 0 ∧ sensorSlots s k ≠ [] ∧ s.get .SNS_MISS k + 160000000 ≤ (s.atTick t).ts) ∧
    (∃ (k : Sensor) (s : State), s.get .SNS_MISS k = 0) ∧
    (∃ (k : Sensor) (s : State), sns s k = snsHealthy ∧ 3 ≤ s.get .SNS_FAILS k) ∧
    (∃ (k : Sensor) (s : State), s.get .SNS_FAILS k < 3) ∧
    (∃ (k : Sensor) (s : State), sns s k = snsSuspect ∧ 10 ≤ s.get .SNS_FAILS k) ∧
    (∃ (k : Sensor) (s : State), s.get .SNS_FAILS k < 10) ∧
    (∃ (t : Nat) (k : Sensor) (s : State), sns s k = snsQualifying ∧ s.get .QUAL_TICK k + 320000000 ≤ (s.atTick t).ts ∧ healthyNeighbours s k ≠ []) ∧
    (∃ (k : Sensor) (s : State), sns s k ≠ snsQualifying) ∧
    (∃ (k : Sensor) (s : State), (sns s k = snsSubstituted ∨ sns s k = snsBlind) ∧ 50 ≤ s.get .SNS_PASSES k) ∧
    (∃ (k : Sensor) (s : State), s.get .SNS_PASSES k < 50) ∧
    (∃ (k : Sensor) (s : State), sns s k = snsDisabled) :=
  ⟨⟨16000000, 7, given [(.SNS_EN, 7, 1)], by decide +kernel⟩,
   ⟨16000000, 25, given [(.SNS_EN, 25, 1), (.SNS_MISS, 25, 0), (.CONV_STATE, 16, 2), (.CONV_STATE, 17, 2)], by decide +kernel⟩,
   ⟨0, 0, given [(.SNS_EN, 0, 0)], by decide +kernel⟩,
   ⟨25, 65535, given [(.SNS_PEND, 25, 1), (.SNS_STATE, 25, 0)] [(.RATE_MAX, 25, 0)], by decide +kernel⟩,
   ⟨7, 10000, 10000, 10000, given [(.SNS_PEND, 7, 1), (.SNS_STATE, 7, 0)] [(.RATE_MAX, 7, 0)], by decide +kernel⟩,
   ⟨0, 25, 32767, given [(.SNS_PEND, 25, 1), (.SNS_STATE, 25, 0), (.T_REF, 25, 1)], by decide +kernel⟩,
   ⟨0, given [(.SNS_PEND, 0, 0)], by decide +kernel⟩,
   ⟨160000001, 0, given [(.SNS_MISS, 0, 1), (.SNS_MISSED, 0, 0)] [(.THM_AXES, 0, 1)], by decide +kernel⟩,
   ⟨0, given [(.SNS_MISS, 0, 0)], by decide +kernel⟩,
   ⟨0, given [(.SNS_STATE, 0, 0), (.SNS_FAILS, 0, 3)], by decide +kernel⟩,
   ⟨0, given [(.SNS_FAILS, 0, 2)], by decide +kernel⟩,
   ⟨0, given [(.SNS_STATE, 0, 1), (.SNS_FAILS, 0, 10)], by decide +kernel⟩,
   ⟨0, given [(.SNS_FAILS, 0, 9)], by decide +kernel⟩,
   ⟨320000000, 0, given [(.SNS_STATE, 0, 2), (.SNS_EN, 1, 1), (.SNS_STATE, 1, 0), (.RAW, 1, 0)] [(.NB0, 0, 1), (.SNS_EN, 1, 1)], by decide +kernel⟩,
   ⟨0, given [], by decide +kernel⟩,
   ⟨0, given [(.SNS_STATE, 0, 3), (.SNS_PASSES, 0, 50)], by decide +kernel⟩,
   ⟨0, given [(.SNS_PASSES, 0, 49)], by decide +kernel⟩,
   ⟨0, given [(.SNS_STATE, 0, 6)], by decide +kernel⟩⟩

theorem witness_ThrottleAndBudget :
    (∃ (t : Nat) (i : Slot) (s : State), s.get .THR_HOLDING i = 1 ∧ s.get .THR_HOLD_TICK i ≤ (s.atTick t).ts) ∧
    (∃ (i : Slot) (s : State), s.get .THR_HOLDING i = 0) ∧
    (∃ (s : State), (∀ p < 32, s.dv .QG_NC p = s.get .QG_NC p) ∧ gdEstimate s 16 0 ≤ s.get .GD_BUDGET 0) ∧
    (∃ (s : State), (∀ p < 32, s.dv .QG_NC p = s.get .QG_NC p) ∧ s.get .GD_BUDGET 0 < gdEstimate s 16 0 ∧ budgetGroups s = []) ∧
    (∃ (g : Nat) (s : State), (∀ p < 32, s.dv .QG_NC p = s.get .QG_NC p) ∧ s.get .GD_BUDGET 0 < gdEstimate s 16 0 ∧ budgetGroups s = [g]) :=
  ⟨⟨0, 0, given [(.THR_HOLDING, 0, 1), (.THR_HOLD_TICK, 0, 0)], by decide +kernel⟩,
   ⟨0, given [(.THR_HOLDING, 0, 0)], by decide +kernel⟩,
   ⟨given [], by decide +kernel⟩,
   ⟨given [(.GD_BUDGET, 0, 4), (.VDRV_MV, 0, 10000), (.DRIVE_STATE, 0, 4), (.QG_NC, 0, 5), (.PERIOD_DEV, 0, 1400), (.QG_NC, 1, 0), (.QG_NC, 2, 0), (.QG_NC, 3, 0), (.QG_NC, 4, 0), (.QG_NC, 5, 0), (.QG_NC, 6, 0), (.QG_NC, 7, 0), (.QG_NC, 8, 0), (.QG_NC, 9, 0), (.QG_NC, 10, 0), (.QG_NC, 11, 0), (.QG_NC, 12, 0), (.QG_NC, 13, 0), (.QG_NC, 14, 0), (.QG_NC, 15, 0), (.QG_NC, 16, 0), (.QG_NC, 17, 0), (.QG_NC, 18, 0), (.QG_NC, 19, 0), (.QG_NC, 20, 0), (.QG_NC, 21, 0), (.QG_NC, 22, 0), (.QG_NC, 23, 0), (.QG_NC, 24, 0), (.QG_NC, 25, 0), (.QG_NC, 26, 0), (.QG_NC, 27, 0), (.QG_NC, 28, 0), (.QG_NC, 29, 0), (.QG_NC, 30, 0), (.QG_NC, 31, 0)] [(.QG_NC, 0, 5), (.QG_NC, 1, 0), (.QG_NC, 2, 0), (.QG_NC, 3, 0), (.QG_NC, 4, 0), (.QG_NC, 5, 0), (.QG_NC, 6, 0), (.QG_NC, 7, 0), (.QG_NC, 8, 0), (.QG_NC, 9, 0), (.QG_NC, 10, 0), (.QG_NC, 11, 0), (.QG_NC, 12, 0), (.QG_NC, 13, 0), (.QG_NC, 14, 0), (.QG_NC, 15, 0), (.QG_NC, 16, 0), (.QG_NC, 17, 0), (.QG_NC, 18, 0), (.QG_NC, 19, 0), (.QG_NC, 20, 0), (.QG_NC, 21, 0), (.QG_NC, 22, 0), (.QG_NC, 23, 0), (.QG_NC, 24, 0), (.QG_NC, 25, 0), (.QG_NC, 26, 0), (.QG_NC, 27, 0), (.QG_NC, 28, 0), (.QG_NC, 29, 0), (.QG_NC, 30, 0), (.QG_NC, 31, 0)], by decide +kernel⟩,
   ⟨0, given [(.GD_BUDGET, 0, 4), (.VDRV_MV, 0, 10000), (.PWM_EN, 0, 1), (.PORT_ROLE_DEV, 0, 224), (.QG_NC, 0, 5), (.PERIOD_DEV, 0, 1400), (.QG_NC, 1, 0), (.QG_NC, 2, 0), (.QG_NC, 3, 0), (.QG_NC, 4, 0), (.QG_NC, 5, 0), (.QG_NC, 6, 0), (.QG_NC, 7, 0), (.QG_NC, 8, 0), (.QG_NC, 9, 0), (.QG_NC, 10, 0), (.QG_NC, 11, 0), (.QG_NC, 12, 0), (.QG_NC, 13, 0), (.QG_NC, 14, 0), (.QG_NC, 15, 0), (.QG_NC, 16, 0), (.QG_NC, 17, 0), (.QG_NC, 18, 0), (.QG_NC, 19, 0), (.QG_NC, 20, 0), (.QG_NC, 21, 0), (.QG_NC, 22, 0), (.QG_NC, 23, 0), (.QG_NC, 24, 0), (.QG_NC, 25, 0), (.QG_NC, 26, 0), (.QG_NC, 27, 0), (.QG_NC, 28, 0), (.QG_NC, 29, 0), (.QG_NC, 30, 0), (.QG_NC, 31, 0)] [(.QG_NC, 0, 5), (.QG_NC, 1, 0), (.QG_NC, 2, 0), (.QG_NC, 3, 0), (.QG_NC, 4, 0), (.QG_NC, 5, 0), (.QG_NC, 6, 0), (.QG_NC, 7, 0), (.QG_NC, 8, 0), (.QG_NC, 9, 0), (.QG_NC, 10, 0), (.QG_NC, 11, 0), (.QG_NC, 12, 0), (.QG_NC, 13, 0), (.QG_NC, 14, 0), (.QG_NC, 15, 0), (.QG_NC, 16, 0), (.QG_NC, 17, 0), (.QG_NC, 18, 0), (.QG_NC, 19, 0), (.QG_NC, 20, 0), (.QG_NC, 21, 0), (.QG_NC, 22, 0), (.QG_NC, 23, 0), (.QG_NC, 24, 0), (.QG_NC, 25, 0), (.QG_NC, 26, 0), (.QG_NC, 27, 0), (.QG_NC, 28, 0), (.QG_NC, 29, 0), (.QG_NC, 30, 0), (.QG_NC, 31, 0), (.GROUP, 1, 1), (.GROUP, 2, 1), (.GROUP, 3, 1), (.GROUP, 4, 1), (.GROUP, 5, 1), (.GROUP, 6, 1), (.GROUP, 7, 1), (.GROUP, 8, 1), (.GROUP, 9, 1), (.GROUP, 10, 1), (.GROUP, 11, 1), (.GROUP, 12, 1), (.GROUP, 13, 1), (.GROUP, 14, 1), (.GROUP, 15, 1), (.GROUP, 16, 1), (.GROUP, 17, 1), (.GROUP, 18, 1), (.GROUP, 19, 1), (.GROUP, 20, 1), (.GROUP, 21, 1), (.GROUP, 22, 1), (.GROUP, 23, 1), (.GROUP, 24, 1), (.GROUP, 25, 1), (.GROUP, 26, 1), (.GROUP, 27, 1), (.GROUP, 28, 1), (.GROUP, 29, 1), (.GROUP, 30, 1), (.GROUP, 31, 1)], by decide +kernel⟩⟩

theorem witness_EnginesAndStrips :
    (∃ (t : Nat) (sh : Nat) (s : State), s.get .STRIP_INT 0 ≠ 0 ∧ s.get .STRIP_ACTIVE 0 = 0 ∧ s.get .STRIP_LAST 0 + s.get .STRIP_INT 0 * 160000 ≤ (s.atTick t).ts ∧ stripFits s (s.get .STRIP_NEXT 0 % 8) = true ∧ chooseSpare s [] = some sh) ∧
    (∃ (s : State), (s.get .STRIP_INT 0 = 0 ∨ s.get .STRIP_ACTIVE 0 = 1)) ∧
    (∃ (s : State), s.get .STRIP_ACTIVE 0 = 1 ∧ s.get .STRIP_VOTE 0 = 0 ∧ 40 ≤ s.get .STRIP_CYCLES 0) ∧
    (∃ (s : State), s.get .STRIP_ACTIVE 0 = 1 ∧ s.get .STRIP_VOTE 0 = 0 ∧ 40 ≤ s.get .STRIP_CYCLES 0 ∧ s.get .STRIP_ENG 1 ≠ noEngine) ∧
    (∃ (s : State), s.get .STRIP_CYCLES 0 < 40) ∧
    (∃ (s : State), s.get .STRIP_ACTIVE 0 = 1 ∧ s.get .STRIP_VOTE 0 = 1) ∧
    (∃ (s : State), s.get .STRIP_ACTIVE 0 = 1 ∧ s.get .STRIP_VOTE 0 = 1 ∧ s.get .STRIP_ENG 0 < 10) ∧
    (∃ (s : State), s.get .STRIP_ACTIVE 0 = 1 ∧ s.get .STRIP_VOTE 0 = 1) ∧
    (∃ (e : Engine) (s : State), s.get .ENG_BIST e = 1 ∧ s.get .STRIP_ACTIVE 0 = 0 ∧ isDead s e = false) ∧
    (∃ (e : Engine) (s : State), s.get .ENG_BIST e = 1 ∧ s.get .STRIP_ACTIVE 0 = 0 ∧ isDead s e = false) ∧
    (∃ (e : Engine) (s : State), s.get .ENG_BIST e = 1 ∧ s.get .STRIP_ACTIVE 0 = 0 ∧ isDead s e = true ∧ s.get .ENG_LOST e < 2) ∧
    (∃ (e : Engine) (s : State), s.get .ENG_BIST e = 0) ∧
    (∃ (i : Slot) (s : State), 16 ≤ s.get .NO_POST_RUN i ∧ s.get .SPARE_MAP 0 = 0) ∧
    (∃ (i : Slot) (s : State), s.get .NO_POST_RUN i < 16) ∧
    (∃ (mask : Nat) (s : State), s.get .SEQ_DOWN 0 = 0 ∧ 1 ≤ mask ∧ mask ≤ 255 ∧ (∀ i < 8, bit mask i = true → s.kind i ≠ 0) ∧ (chooseSpare s []).isSome = true) ∧
    (∃ (mask : Nat) (s : State), s.get .SEQ_DOWN 0 = 0 ∧ 1 ≤ mask ∧ mask ≤ 255 ∧ chooseSpare s [] = none) ∧
    (∃ (t : Nat) (e : Nat) (i : Slot) (s : State), s.get .MIG_WANT i = 1 ∧ slotEpochFree (s.atTick t) i = true ∧ migrationTarget s i = some e ∧ s.get .MIG_KILLS i = 0) ∧
    (∃ (i : Slot) (s : State), s.get .MIG_WANT i = 0) ∧
    (∃ (i : Slot) (s : State), s.get .MIG_WANT i = 1) ∧
    (∃ (i : Slot) (s : State), s.get .MIG_WANT i = 0) :=
  ⟨⟨1600000, 4, given [(.STRIP_ACTIVE, 0, 0), (.DRIVE_STATE, 0, 4)], by decide +kernel⟩,
   ⟨given [(.STRIP_INT, 0, 0)], by decide +kernel⟩,
   ⟨given [(.STRIP_ACTIVE, 0, 1), (.STRIP_VOTE, 0, 0), (.STRIP_CYCLES, 0, 40)], by decide +kernel⟩,
   ⟨given [(.STRIP_ACTIVE, 0, 1), (.STRIP_VOTE, 0, 0), (.STRIP_CYCLES, 0, 40), (.STRIP_ENG, 1, 1)], by decide +kernel⟩,
   ⟨given [(.STRIP_CYCLES, 0, 39)], by decide +kernel⟩,
   ⟨given [(.STRIP_ACTIVE, 0, 1), (.STRIP_VOTE, 0, 1)], by decide +kernel⟩,
   ⟨given [(.STRIP_ACTIVE, 0, 1), (.STRIP_VOTE, 0, 1), (.STRIP_ENG, 0, 9)], by decide +kernel⟩,
   ⟨given [(.STRIP_ACTIVE, 0, 1), (.STRIP_VOTE, 0, 1)], by decide +kernel⟩,
   ⟨0, given [(.ENG_BIST, 0, 1), (.STRIP_ACTIVE, 0, 0)], by decide +kernel⟩,
   ⟨0, given [(.ENG_BIST, 0, 1), (.STRIP_ACTIVE, 0, 0)], by decide +kernel⟩,
   ⟨0, given [(.ENG_BIST, 0, 1), (.STRIP_ACTIVE, 0, 0), (.ENG_LOST, 0, 1), (.DEAD_MAP, 0, 1)], by decide +kernel⟩,
   ⟨0, given [(.ENG_BIST, 0, 0)], by decide +kernel⟩,
   ⟨0, given [(.NO_POST_RUN, 0, 16), (.SPARE_MAP, 0, 0)], by decide +kernel⟩,
   ⟨0, given [(.NO_POST_RUN, 0, 15)], by decide +kernel⟩,
   ⟨255, given [(.SEQ_DOWN, 0, 0)], by decide +kernel⟩,
   ⟨255, given [(.SEQ_DOWN, 0, 0), (.ENG_BIST, 0, 1), (.ENG_BIST, 1, 1), (.ENG_BIST, 2, 1), (.ENG_BIST, 3, 1), (.ENG_BIST, 4, 1), (.ENG_BIST, 5, 1), (.ENG_BIST, 6, 1), (.ENG_BIST, 7, 1), (.ENG_BIST, 8, 1), (.ENG_BIST, 9, 1)], by decide +kernel⟩,
   ⟨0, 4, 0, given [(.MIG_WANT, 0, 1), (.MIG_KILLS, 0, 0)], by decide +kernel⟩,
   ⟨0, given [(.MIG_WANT, 0, 0)], by decide +kernel⟩,
   ⟨0, given [(.MIG_WANT, 0, 1)], by decide +kernel⟩,
   ⟨0, given [(.MIG_WANT, 0, 0)], by decide +kernel⟩⟩

theorem witness_DomainsAndSequencer :
    (∃ (path : Path) (d : Nat) (s : State), s.get .SEQ_DOWN 0 = 0 ∧ (path = .can → sdoServed s = true) ∧ d ≤ 11 ∧ 2 ≤ authOn s path.code ∧ motionNeeds s d = false ∧ (d = 1 → anyEnabled s = false) ∧ s.get .DOM_RESTARTING d = 0 ∧ domEpochFree s d = true) ∧
    (∃ (path : Path) (d : Nat) (s : State), s.get .SEQ_DOWN 0 = 0 ∧ (path = .can → sdoServed s = true) ∧ d ≤ 11 ∧ (authOn s path.code < 2 ∨ motionNeeds s d = true)) ∧
    (∃ (t : Nat) (d : Fin 12) (s : State), motionNeeds s d = false ∧ (d.val = 1 → anyEnabled s = false) ∧ s.get .DOM_RESTARTING d = 0 ∧ domEpochFree (s.atTick t) d = true) ∧
    (∃ (d : Fin 12) (s : State), s.get .DOM_RESTARTING d = 1) ∧
    (∃ (d : Fin 12) (s : State), s.get .DOM_RESTARTING d = 0) ∧
    (∃ (path : Path) (v : Nat) (s : State), s.get .SEQ_DOWN 0 = 0 ∧ (path = .can → sdoServed s = true) ∧ v ≤ 0xFFF ∧ v % 8 = 0 ∧ (∀ d < 12, bit v d = true → s.getBit .DOM_OFF_REQ 0 d = true ∨ s.getBit .DOM_ON 0 d = false)) ∧
    (∃ (path : Path) (v : Nat) (s : State), s.get .SEQ_DOWN 0 = 0 ∧ (path = .can → sdoServed s = true) ∧ v % 8 ≠ 0) ∧
    (∃ (d : Fin 12) (s : State), s.getBit .DOM_BUSY 0 d = true ∧ s.getBit .DOM_LEAVING 0 d = true ∧ (d.val = 4 ∨ d.val = 5 → activeAxes s d = 0) ∧ offAllowed s d = true) ∧
    (∃ (d : Fin 12) (s : State), s.getBit .DOM_BUSY 0 d = true ∧ s.getBit .DOM_LEAVING 0 d = true ∧ (d.val = 4 ∨ d.val = 5 → activeAxes s d = 0) ∧ offAllowed s d = false) ∧
    (∃ (t : Nat) (d : Fin 12) (s : State), s.getBit .DOM_BUSY 0 d = true ∧ s.getBit .DOM_LEAVING 0 d = false ∧ domEpochFree (s.atTick t) d = true) ∧
    (∃ (d : Fin 12) (s : State), s.getBit .DOM_BUSY 0 d = false) ∧
    (∃ (path : Path) (s : State), s.get .SEQ_DOWN 0 = 0 ∧ (path = .can → sdoServed s = true) ∧ 2 ≤ authOn s path.code ∧ seqEpochFree s = true) ∧
    (∃ (path : Path) (s : State), s.get .SEQ_DOWN 0 = 0 ∧ (path = .can → sdoServed s = true) ∧ 2 ≤ authOn s path.code ∧ seqEpochFree s = false) ∧
    (∃ (path : Path) (s : State), s.get .SEQ_DOWN 0 = 0 ∧ (path = .can → sdoServed s = true) ∧ authOn s path.code < 2) ∧
    (∃ (t : Nat) (s : State), s.get .SEQ_DOWN 0 = 0 ∧ s.get .SEQ_SERVED 0 + 16000000 ≤ (s.atTick t).ts ∧ seqEpochFree (s.atTick t) = true) ∧
    (∃ (t : Nat) (s : State), (s.atTick t).ts < s.get .SEQ_SERVED 0 + 16000000) ∧
    (∃ (s : State), s.get .SEQ_DOWN 0 = 1) ∧
    (∃ (s : State), s.get .SEQ_DOWN 0 = 0) :=
  ⟨⟨.spi, 11, given [(.SEQ_DOWN, 0, 0), (.SESS_OPEN, 0, 1), (.SESS_PATH, 0, 0), (.SESS_ROLE, 0, 2), (.DOM_RESTARTING, 11, 0)], by decide +kernel⟩,
   ⟨.spi, 11, given [(.SEQ_DOWN, 0, 0)], by decide +kernel⟩,
   ⟨0, 11, given [(.DOM_RESTARTING, 11, 0)], by decide +kernel⟩,
   ⟨0, given [(.DOM_RESTARTING, 0, 1)], by decide +kernel⟩,
   ⟨0, given [(.DOM_RESTARTING, 0, 0)], by decide +kernel⟩,
   ⟨.spi, 4088, given [(.SEQ_DOWN, 0, 0), (.DOM_ON, 0, 7)], by decide +kernel⟩,
   ⟨.spi, 4095, given [(.SEQ_DOWN, 0, 0)], by decide +kernel⟩,
   ⟨11, given [(.DOM_BUSY, 0, 2048), (.DOM_LEAVING, 0, 2048)], by decide +kernel⟩,
   ⟨2, given [(.DOM_BUSY, 0, 4), (.DOM_LEAVING, 0, 4)], by decide +kernel⟩,
   ⟨0, 0, given [(.DOM_BUSY, 0, 1), (.DOM_LEAVING, 0, 0)], by decide +kernel⟩,
   ⟨0, given [(.DOM_BUSY, 0, 0)], by decide +kernel⟩,
   ⟨.spi, given [(.SEQ_DOWN, 0, 0), (.SESS_OPEN, 0, 1), (.SESS_PATH, 0, 0), (.SESS_ROLE, 0, 2)], by decide +kernel⟩,
   ⟨.spi, given [(.SEQ_DOWN, 0, 0), (.SESS_OPEN, 0, 1), (.SESS_PATH, 0, 0), (.SESS_ROLE, 0, 2), (.SEQ_EPOCH_MOVED, 0, 1)], by decide +kernel⟩,
   ⟨.spi, given [(.SEQ_DOWN, 0, 0)], by decide +kernel⟩,
   ⟨16000000, given [(.SEQ_DOWN, 0, 0)], by decide +kernel⟩,
   ⟨0, given [], by decide +kernel⟩,
   ⟨given [(.SEQ_DOWN, 0, 1)], by decide +kernel⟩,
   ⟨given [(.SEQ_DOWN, 0, 0)], by decide +kernel⟩⟩

theorem witness_CanBuses :
    (∃ (b : Fin 2) (s : State), busUsed s b = true ∧ s.get .CAN_OFF b = 0 ∧ s.getBit .CAN_LOST 0 b = false) ∧
    (∃ (b : Fin 2) (s : State), s.get .CAN_OFF b = 1) ∧
    (∃ (t : Nat) (b : Fin 2) (s : State), s.dv .CAN_RED 0 = 1 ∧ s.get .CAN_SILENT 0 ≠ 0 ∧ s.getBit .CAN_LOST 0 b = false ∧ s.get .CAN_RX_TICK b + s.get .CAN_SILENT 0 * 160000 ≤ (s.atTick t).ts ∧ s.get .CAN_RX_TICK b < s.get .CAN_RX_TICK (1 - b)) ∧
    (∃ (s : State), s.dv .CAN_RED 0 = 0) ∧
    (∃ (t : Nat) (b : Fin 2) (s : State), s.getBit .CAN_LOST 0 b = true ∧ s.get .CAN_OFF b = 0 ∧ s.get .CAN_GOOD_TICK b ≠ 0 ∧ s.get .CAN_GOOD_TICK b + 160000000 ≤ (s.atTick t).ts) ∧
    (∃ (b : Fin 2) (s : State), s.get .CAN_GOOD_TICK b = 0) ∧
    (∃ (b : Fin 2) (s : State), busHears s b = true) ∧
    (∃ (b : Fin 2) (s : State), busHears s b = false) ∧
    (∃ (b : Fin 2) (s : State), s.get .CAN_OFF b = 1) ∧
    (∃ (b : Fin 2) (s : State), s.get .CAN_OFF b = 0) :=
  ⟨⟨0, given [(.CAN_OFF, 0, 0), (.CAN_LOST, 0, 0)], by decide +kernel⟩,
   ⟨0, given [(.CAN_OFF, 0, 1)], by decide +kernel⟩,
   ⟨16000000, 0, given [(.CAN_LOST, 0, 0), (.CAN_RX_TICK, 1, 1)] [(.CAN_RED, 0, 1)], by decide +kernel⟩,
   ⟨given [] [(.CAN_RED, 0, 0)], by decide +kernel⟩,
   ⟨160000001, 0, given [(.CAN_LOST, 0, 1), (.CAN_OFF, 0, 0), (.CAN_GOOD_TICK, 0, 1)], by decide +kernel⟩,
   ⟨0, given [(.CAN_GOOD_TICK, 0, 0)], by decide +kernel⟩,
   ⟨0, given [], by decide +kernel⟩,
   ⟨0, given [(.CAN_OFF, 0, 1)], by decide +kernel⟩,
   ⟨0, given [(.CAN_OFF, 0, 1)], by decide +kernel⟩,
   ⟨0, given [(.CAN_OFF, 0, 0)], by decide +kernel⟩⟩

theorem witness_NetworkManagement :
    (∃ (node : Nat) (b : Fin 2) (s : State), busHears s b = true ∧ s.dv .CAN_RED 0 = 0 ∧ nmtFor s node = true ∧ (s.get .NMT_STATE 0 = nmtPreOp ∨ s.get .NMT_STATE 0 = nmtOperational ∨ s.get .NMT_STATE 0 = nmtStopped)) ∧
    (∃ (node : Nat) (b : Fin 2) (s : State), busHears s b = true ∧ s.dv .CAN_RED 0 = 0 ∧ nmtFor s node = true ∧ (s.get .NMT_STATE 0 = nmtPreOp ∨ s.get .NMT_STATE 0 = nmtOperational ∨ s.get .NMT_STATE 0 = nmtStopped)) ∧
    (∃ (node : Nat) (b : Fin 2) (s : State), busHears s b = true ∧ s.dv .CAN_RED 0 = 0 ∧ nmtFor s node = true ∧ (s.get .NMT_STATE 0 = nmtPreOp ∨ s.get .NMT_STATE 0 = nmtOperational ∨ s.get .NMT_STATE 0 = nmtStopped)) ∧
    (∃ (node : Nat) (s : State), nmtFor s node = false) ∧
    (∃ (node : Nat) (b : Fin 2) (s : State), busHears s b = true ∧ s.dv .CAN_RED 0 = 0 ∧ nmtFor s node = true ∧ (s.get .NMT_STATE 0 = nmtPreOp ∨ s.get .NMT_STATE 0 = nmtOperational ∨ s.get .NMT_STATE 0 = nmtStopped)) ∧
    (∃ (node : Nat) (b : Fin 2) (s : State), busHears s b = true ∧ s.dv .CAN_RED 0 = 0 ∧ nmtFor s node = true ∧ (s.get .NMT_STATE 0 = nmtPreOp ∨ s.get .NMT_STATE 0 = nmtOperational ∨ s.get .NMT_STATE 0 = nmtStopped)) ∧
    (∃ (s : State), s.get .RESET_NODE 0 = 1 ∧ (∀ i < 8, s.slotDisabled i = true)) ∧
    (∃ (s : State), s.get .RESET_NODE 0 = 0) :=
  ⟨⟨0, 0, given [(.NMT_STATE, 0, 1)] [(.CAN_RED, 0, 0)], by decide +kernel⟩,
   ⟨0, 0, given [(.NMT_STATE, 0, 1)] [(.CAN_RED, 0, 0)], by decide +kernel⟩,
   ⟨0, 0, given [(.NMT_STATE, 0, 1)] [(.CAN_RED, 0, 0)], by decide +kernel⟩,
   ⟨127, given [(.NODE_ID_ACT, 0, 126)], by decide +kernel⟩,
   ⟨0, 0, given [(.NMT_STATE, 0, 1)] [(.CAN_RED, 0, 0)], by decide +kernel⟩,
   ⟨0, 0, given [(.NMT_STATE, 0, 1)] [(.CAN_RED, 0, 0)], by decide +kernel⟩,
   ⟨given [(.RESET_NODE, 0, 1)], by decide +kernel⟩,
   ⟨given [(.RESET_NODE, 0, 0)], by decide +kernel⟩⟩

theorem witness_LayerSettings :
    (∃ (b : Fin 2) (s : State), busHears s b = true ∧ s.dv .CAN_RED 0 = 0) ∧
    (∃ (b : Fin 2) (s : State), busHears s b = true ∧ s.dv .CAN_RED 0 = 0 ∧ s.get .NMT_STATE 0 ≠ nmtLss) ∧
    (∃ (b : Fin 2) (s : State), busHears s b = true ∧ s.dv .CAN_RED 0 = 0) ∧
    (∃ (v : Nat) (p : Nat) (r : Nat) (n : Nat) (s : State), [v, p, r, n] ≠ lssIdentity s) ∧
    (∃ (node : Nat) (b : Fin 2) (s : State), busHears s b = true ∧ s.dv .CAN_RED 0 = 0 ∧ s.get .LSS_MODE 0 = 1 ∧ s.get .NODE_ID 0 = 0xFF ∧ 1 ≤ node ∧ node ≤ 127) ∧
    (∃ (node : Nat) (b : Fin 2) (s : State), busHears s b = true ∧ s.dv .CAN_RED 0 = 0 ∧ s.get .LSS_MODE 0 = 1 ∧ s.get .NODE_ID 0 = 0xFF ∧ (node = 0 ∨ 127 < node) ∧ node ≠ 0xFF) ∧
    (∃ (s : State), s.get .LSS_MODE 0 = 0) ∧
    (∃ (entry : Nat) (b : Fin 2) (s : State), busHears s b = true ∧ s.dv .CAN_RED 0 = 0 ∧ s.get .LSS_MODE 0 = 1 ∧ entry ≤ 8 ∧ entry ≠ 5) ∧
    (∃ (table : Nat) (entry : Nat) (b : Fin 2) (s : State), busHears s b = true ∧ s.dv .CAN_RED 0 = 0 ∧ s.get .LSS_MODE 0 = 1 ∧ (table ≠ 0 ∨ 8 < entry ∨ entry = 5)) ∧
    (∃ (b : Fin 2) (s : State), busHears s b = true ∧ s.dv .CAN_RED 0 = 0 ∧ s.get .LSS_MODE 0 = 1 ∧ s.get .LSS_BIT 0 ≠ 0xFF) ∧
    (∃ (b : Fin 2) (s : State), busHears s b = true ∧ s.dv .CAN_RED 0 = 0 ∧ s.get .LSS_MODE 0 = 1) ∧
    (∃ (k : Nat) (b : Fin 2) (s : State), busHears s b = true ∧ s.dv .CAN_RED 0 = 0 ∧ s.get .LSS_MODE 0 = 1 ∧ k < 4) ∧
    (∃ (b : Fin 2) (s : State), busHears s b = true ∧ s.dv .CAN_RED 0 = 0 ∧ s.get .LSS_MODE 0 = 1) ∧
    (∃ (b : Fin 2) (s : State), busHears s b = true ∧ s.dv .CAN_RED 0 = 0 ∧ s.get .NODE_ID_ACT 0 = 0xFF) ∧
    (∃ (rl : Nat) (rh : Nat) (sl : Nat) (sh : Nat) (b : Fin 2) (s : State), busHears s b = true ∧ s.dv .CAN_RED 0 = 0 ∧ rl ≤ 0x0B020301 ∧ 0x0B020301 ≤ rh ∧ sl ≤ s.sec.identity.serial ∧ s.sec.identity.serial ≤ sh) ∧
    (∃ (v : Nat) (p : Nat) (sl : Nat) (s : State), (v ≠ 0xB4D ∨ p ≠ 0x8032 ∨ s.sec.identity.serial < sl)) :=
  ⟨⟨0, given [] [(.CAN_RED, 0, 0)], by decide +kernel⟩,
   ⟨0, given [] [(.CAN_RED, 0, 0)], by decide +kernel⟩,
   ⟨0, given [] [(.CAN_RED, 0, 0)], by decide +kernel⟩,
   ⟨0, 0, 0, 0, given [], by decide +kernel⟩,
   ⟨127, 0, given [(.LSS_MODE, 0, 1), (.NODE_ID, 0, 255)] [(.CAN_RED, 0, 0)], by decide +kernel⟩,
   ⟨0, 0, given [(.LSS_MODE, 0, 1), (.NODE_ID, 0, 255)] [(.CAN_RED, 0, 0)], by decide +kernel⟩,
   ⟨given [(.LSS_MODE, 0, 0)], by decide +kernel⟩,
   ⟨8, 0, given [(.LSS_MODE, 0, 1)] [(.CAN_RED, 0, 0)], by decide +kernel⟩,
   ⟨1, 0, 0, given [(.LSS_MODE, 0, 1)] [(.CAN_RED, 0, 0)], by decide +kernel⟩,
   ⟨0, given [(.LSS_MODE, 0, 1), (.LSS_BIT, 0, 1)] [(.CAN_RED, 0, 0)], by decide +kernel⟩,
   ⟨0, given [(.LSS_MODE, 0, 1)] [(.CAN_RED, 0, 0)], by decide +kernel⟩,
   ⟨3, 0, given [(.LSS_MODE, 0, 1)] [(.CAN_RED, 0, 0)], by decide +kernel⟩,
   ⟨0, given [(.LSS_MODE, 0, 1)] [(.CAN_RED, 0, 0)], by decide +kernel⟩,
   ⟨0, given [(.NODE_ID_ACT, 0, 255)] [(.CAN_RED, 0, 0)], by decide +kernel⟩,
   ⟨184681217, 184681217, 7, 7, 0, { given [] [(.CAN_RED, 0, 0)] with sec := owned }, by decide +kernel⟩,
   ⟨0, 0, 0, given [], by decide +kernel⟩⟩

theorem witness_PdosAndHeartbeats :
    (∃ (b : Fin 2) (s : State), busHears s b = true ∧ s.dv .CAN_RED 0 = 0 ∧ networkUp s = true ∧ s.get .SYNC_OVERFLOW 0 ≠ 0) ∧
    (∃ (b : Fin 2) (i : Slot) (s : State), busHears s b = true ∧ s.dv .CAN_RED 0 = 0 ∧ s.get .NMT_STATE 0 = nmtPreOp ∧ linkRuns s = false ∧ s.get .DRIVE_STATE i = dsEnabled ∧ s.modeOf i = 8 ∧ s.get .CH_STATE i = 1 ∧ chainHeld s i = false) ∧
    (∃ (s : State), networkUp s = false) ∧
    (∃ (id : Nat) (n : Nat) (b : Fin 2) (data : List Nat) (s : State), busHears s b = true ∧ s.dv .CAN_RED 0 = 0 ∧ s.get .NMT_STATE 0 = nmtOperational ∧ n < 32 ∧ (∀ m < 32, ((pdoOn (s.get .RPDO_COB m) = true ∧ s.get .RPDO_COB m % 2048 = id) ↔ m = n)) ∧ s.get .RPDO_TYPE n < 254 ∧ mapLength (mapEntries s false n (s.get .RPDO_N n)) ≤ data.length ∧ data.length ≤ 64 ∧ (∀ x ∈ data, x < 256)) ∧
    (∃ (id : Nat) (n : Nat) (b : Fin 2) (data : List Nat) (s : State), busHears s b = true ∧ s.dv .CAN_RED 0 = 0 ∧ s.get .NMT_STATE 0 = nmtOperational ∧ n < 32 ∧ (∀ m < 32, ((pdoOn (s.get .RPDO_COB m) = true ∧ s.get .RPDO_COB m % 2048 = id) ↔ m = n)) ∧ data.length < mapLength (mapEntries s false n (s.get .RPDO_N n))) ∧
    (∃ (b : Fin 2) (s : State), busHears s b = true ∧ s.dv .CAN_RED 0 = 0 ∧ networkUp s = true) ∧
    (∃ (t : Nat) (n : Port) (s : State), tpdoLive s n = true ∧ 254 ≤ s.get .TPDO_TYPE n ∧ s.get .TPDO_TIMER n ≠ 0 ∧ s.get .TPDO_TICK n + s.get .TPDO_TIMER n * 160000 ≤ (s.atTick t).ts ∧ s.dv .CAN_RED 0 = 0 ∧ s.get .CAN_OFF 0 = 0 ∧ s.getBit .DOM_ON 0 9 = true) ∧
    (∃ (n : Port) (s : State), s.get .TPDO_TIMER n = 0) ∧
    (∃ (t : Nat) (n : Port) (s : State), tpdoLive s n = true ∧ 254 ≤ s.get .TPDO_TYPE n ∧ s.get .TPDO_CHG n = 1 ∧ inhibitPassed (s.atTick t) n = true ∧ s.dv .CAN_RED 0 = 0 ∧ s.get .CAN_OFF 0 = 0 ∧ s.getBit .DOM_ON 0 9 = true) ∧
    (∃ (n : Port) (s : State), s.get .TPDO_CHG n = 0) ∧
    (∃ (t : Nat) (s : State), s.get .HB_PRODUCER 0 ≠ 0 ∧ networkUp s = true ∧ s.get .HBP_TICK 0 + s.get .HB_PRODUCER 0 * 160000 ≤ (s.atTick t).ts ∧ s.dv .CAN_RED 0 = 0 ∧ s.get .CAN_OFF 0 = 0 ∧ s.getBit .DOM_ON 0 9 = true) ∧
    (∃ (s : State), s.get .HB_PRODUCER 0 = 0) ∧
    (∃ (b : Fin 2) (s : State), busHears s b = true) ∧
    (∃ (t : Nat) (m : List Nat) (rest : List (List Nat)) (s : State), s.emcyQ = m :: rest ∧ s.get .SEQ_DOWN 0 = 0 ∧ emcyAllowed s = true ∧ inhibitOver (s.atTick t) = true ∧ s.getBit .COB_EMCY 0 31 = false ∧ s.dv .CAN_RED 0 = 0 ∧ s.get .CAN_OFF 0 = 0 ∧ s.getBit .DOM_ON 0 9 = true) ∧
    (∃ (s : State), s.emcyQ = []) :=
  ⟨⟨0, given [(.NMT_STATE, 0, 1), (.SYNC_OVERFLOW, 0, 1)] [(.CAN_RED, 0, 0)], by decide +kernel⟩,
   ⟨0, 0, given [(.NMT_STATE, 0, 1), (.DRIVE_STATE, 0, 4), (.CH_STATE, 0, 1), (.MODE_DISP, 0, 8)] [(.CAN_RED, 0, 0)], by decide +kernel⟩,
   ⟨given [], by decide +kernel⟩,
   ⟨639, 31, 0, [47, 1], given [(.NMT_STATE, 0, 2), (.RPDO_TYPE, 31, 253), (.RPDO_COB, 0, 2147483648), (.RPDO_COB, 1, 2147483648), (.RPDO_COB, 2, 2147483648), (.RPDO_COB, 3, 2147483648), (.RPDO_COB, 4, 2147483648), (.RPDO_COB, 5, 2147483648), (.RPDO_COB, 6, 2147483648), (.RPDO_COB, 7, 2147483648), (.RPDO_COB, 8, 2147483648), (.RPDO_COB, 9, 2147483648), (.RPDO_COB, 10, 2147483648), (.RPDO_COB, 11, 2147483648), (.RPDO_COB, 12, 2147483648), (.RPDO_COB, 13, 2147483648), (.RPDO_COB, 14, 2147483648), (.RPDO_COB, 15, 2147483648), (.RPDO_COB, 16, 2147483648), (.RPDO_COB, 17, 2147483648), (.RPDO_COB, 18, 2147483648), (.RPDO_COB, 19, 2147483648), (.RPDO_COB, 20, 2147483648), (.RPDO_COB, 21, 2147483648), (.RPDO_COB, 22, 2147483648), (.RPDO_COB, 23, 2147483648), (.RPDO_COB, 24, 2147483648), (.RPDO_COB, 25, 2147483648), (.RPDO_COB, 26, 2147483648), (.RPDO_COB, 27, 2147483648), (.RPDO_COB, 28, 2147483648), (.RPDO_COB, 29, 2147483648), (.RPDO_COB, 30, 2147483648), (.RPDO_COB, 31, 639), (.RPDO_N, 31, 1), (.RPDO_MAP, 496, 1614807056)] [(.CAN_RED, 0, 0)], by decide +kernel⟩,
   ⟨639, 31, 0, [47], given [(.NMT_STATE, 0, 2), (.RPDO_COB, 0, 2147483648), (.RPDO_COB, 1, 2147483648), (.RPDO_COB, 2, 2147483648), (.RPDO_COB, 3, 2147483648), (.RPDO_COB, 4, 2147483648), (.RPDO_COB, 5, 2147483648), (.RPDO_COB, 6, 2147483648), (.RPDO_COB, 7, 2147483648), (.RPDO_COB, 8, 2147483648), (.RPDO_COB, 9, 2147483648), (.RPDO_COB, 10, 2147483648), (.RPDO_COB, 11, 2147483648), (.RPDO_COB, 12, 2147483648), (.RPDO_COB, 13, 2147483648), (.RPDO_COB, 14, 2147483648), (.RPDO_COB, 15, 2147483648), (.RPDO_COB, 16, 2147483648), (.RPDO_COB, 17, 2147483648), (.RPDO_COB, 18, 2147483648), (.RPDO_COB, 19, 2147483648), (.RPDO_COB, 20, 2147483648), (.RPDO_COB, 21, 2147483648), (.RPDO_COB, 22, 2147483648), (.RPDO_COB, 23, 2147483648), (.RPDO_COB, 24, 2147483648), (.RPDO_COB, 25, 2147483648), (.RPDO_COB, 26, 2147483648), (.RPDO_COB, 27, 2147483648), (.RPDO_COB, 28, 2147483648), (.RPDO_COB, 29, 2147483648), (.RPDO_COB, 30, 2147483648), (.RPDO_COB, 31, 639), (.RPDO_N, 31, 1), (.RPDO_MAP, 496, 1614807056)] [(.CAN_RED, 0, 0)], by decide +kernel⟩,
   ⟨0, given [(.NMT_STATE, 0, 1)] [(.CAN_RED, 0, 0)], by decide +kernel⟩,
   ⟨160000, 0, given [(.TPDO_TIMER, 0, 1), (.CAN_OFF, 0, 0), (.DOM_ON, 0, 4095), (.TPDO_COB, 0, 385), (.NMT_STATE, 0, 2)] [(.CAN_RED, 0, 0)], by decide +kernel⟩,
   ⟨0, given [(.TPDO_TIMER, 0, 0)], by decide +kernel⟩,
   ⟨0, 0, given [(.TPDO_CHG, 0, 1), (.CAN_OFF, 0, 0), (.DOM_ON, 0, 4095), (.TPDO_COB, 0, 385), (.NMT_STATE, 0, 2)] [(.CAN_RED, 0, 0)], by decide +kernel⟩,
   ⟨0, given [(.TPDO_CHG, 0, 0)], by decide +kernel⟩,
   ⟨160000000, given [(.NMT_STATE, 0, 1), (.CAN_OFF, 0, 0), (.DOM_ON, 0, 4095)] [(.CAN_RED, 0, 0)], by decide +kernel⟩,
   ⟨given [(.HB_PRODUCER, 0, 0)], by decide +kernel⟩,
   ⟨0, given [], by decide +kernel⟩,
   ⟨0, [0, 0, 0, 0, 0, 0, 0, 0], [], { given [(.SEQ_DOWN, 0, 0), (.COB_EMCY, 0, 128), (.CAN_OFF, 0, 0), (.DOM_ON, 0, 4095), (.NMT_STATE, 0, 1)] [(.CAN_RED, 0, 0)] with emcyQ := [[0, 0, 0, 0, 0, 0, 0, 0]] }, by decide +kernel⟩,
   ⟨given [], by decide +kernel⟩⟩

theorem witness_LossAndStore :
    (∃ (t : Nat) (s : State), s.get .COMM_DUE 0 = 0 ∧ heartbeatsDue (s.atTick t) = []) ∧
    (∃ (t : Nat) (s : State), (s.get .COMM_DUE 0 = 1 ∨ heartbeatsDue (s.atTick t) ≠ [])) ∧
    (∃ (t : Nat) (s : State), heartbeatsDue (s.atTick t) ≠ []) ∧
    (∃ (s : State), s.get .SEQ_DOWN 0 = 0 ∧ storeBarred s = false ∧ s.get .PROF_ACTIVE 0 < s.sec.profiles.length) ∧
    (∃ (v : Nat) (s : State), s.get .SEQ_DOWN 0 = 0 ∧ v ≠ 0x65766173) ∧
    (∃ (s : State), s.get .SEQ_DOWN 0 = 0 ∧ storeBarred s = false ∧ s.get .PROF_ACTIVE 0 < s.sec.profiles.length) ∧
    (∃ (v : Nat) (s : State), s.get .SEQ_DOWN 0 = 0 ∧ v ≠ 0x64616F6C) ∧
    (∃ (s : State), s.get .SEQ_DOWN 0 = 0 ∧ storeBarred s = true) :=
  ⟨⟨0, given [(.COMM_DUE, 0, 0)], by decide +kernel⟩,
   ⟨0, given [(.COMM_DUE, 0, 1)], by decide +kernel⟩,
   ⟨160000, given [(.HBC_ON, 7, 1), (.HB_CONSUMER, 7, 65537)], by decide +kernel⟩,
   ⟨given [(.SEQ_DOWN, 0, 0)], by decide +kernel⟩,
   ⟨0, given [(.SEQ_DOWN, 0, 0)], by decide +kernel⟩,
   ⟨given [(.SEQ_DOWN, 0, 0)], by decide +kernel⟩,
   ⟨0, given [(.SEQ_DOWN, 0, 0)], by decide +kernel⟩,
   ⟨given [(.SEQ_DOWN, 0, 0), (.PROF_ACTIVE, 0, 4)], by decide +kernel⟩⟩

theorem witness_LinkSetup :
    (∃ (s : State), isManager s = true ∧ s.dv .LINK_EN 0 = 1 ∧ s.get .LINK_STATE 0 = 0) ∧
    (∃ (s : State), (isManager s = false ∨ s.dv .LINK_EN 0 = 0 ∨ s.get .LINK_STATE 0 ≠ 0)) ∧
    (∃ (s : State), isManager s = true ∧ s.dv .LINK_EN 0 = 1) ∧
    (∃ (s : State), isManager s = false) ∧
    (∃ (position : Nat) (ringId : Nat) (s : State), s.get .LINK_EN 0 = 1 ∧ position < 32 ∧ ringId < 2 ^ 16) ∧
    (∃ (s : State), s.get .LINK_EN 0 = 0) ∧
    (∃ (n : Nat) (s : State), n ≤ 31 ∧ s.get .ENUM_OUT 0 = 1 ∧ (s.dv .RING_EXPECT 0 = 0 ∨ s.dv .RING_EXPECT 0 = n + 1) ∧ layoutBad s = false) ∧
    (∃ (layouts : List (List (Nat × Nat))) (s : State), s.get .ENUM_OUT 0 = 1 ∧ s.dv .RING_EXPECT 0 ≠ 0 ∧ s.dv .RING_EXPECT 0 ≠ layouts.length + 1) ∧
    (∃ (s : State), s.get .ENUM_OUT 0 = 0) ∧
    (∃ (t : Nat) (s : State), s.get .ENUM_OUT 0 = 1 ∧ s.get .ENUM_TICK 0 + 160000 ≤ (s.atTick t).ts) ∧
    (∃ (t : Nat) (s : State), (s.get .ENUM_OUT 0 = 0 ∨ (s.atTick t).ts < s.get .ENUM_TICK 0 + 160000)) :=
  ⟨⟨given [(.ROLE_ACT, 0, 1), (.LINK_STATE, 0, 0)] [(.LINK_EN, 0, 1)], by decide +kernel⟩,
   ⟨given [(.ROLE_ACT, 0, 0)], by decide +kernel⟩,
   ⟨given [(.ROLE_ACT, 0, 1)] [(.LINK_EN, 0, 1)], by decide +kernel⟩,
   ⟨given [(.ROLE_ACT, 0, 0)], by decide +kernel⟩,
   ⟨31, 65535, given [(.LINK_EN, 0, 1)], by decide +kernel⟩,
   ⟨given [(.LINK_EN, 0, 0)], by decide +kernel⟩,
   ⟨31, given [(.ENUM_OUT, 0, 1)] [(.RING_EXPECT, 0, 0)], by decide +kernel⟩,
   ⟨[], given [(.ENUM_OUT, 0, 1)] [(.RING_EXPECT, 0, 2)], by decide +kernel⟩,
   ⟨given [(.ENUM_OUT, 0, 0)], by decide +kernel⟩,
   ⟨160000, given [(.ENUM_OUT, 0, 1)], by decide +kernel⟩,
   ⟨0, given [(.ENUM_OUT, 0, 0)], by decide +kernel⟩⟩

theorem witness_LinkCycles :
    (∃ (s : State), s.get .LINK_EN 0 = 0) ∧
    (∃ (s : State), s.get .LINK_EN 0 = 1 ∧ isManager s = true ∧ linkRuns s = true) ∧
    (∃ (f : RingFrame) (s : State), isManager s = false ∧ s.get .LINK_STATE 0 ≠ 0 ∧ s.get .LINK_STATE 0 ≠ 1 ∧ f.hdrGood = false) ∧
    (∃ (f : RingFrame) (s : State), isManager s = false ∧ s.get .LINK_STATE 0 ≠ 0 ∧ s.get .LINK_STATE 0 ≠ 1 ∧ f.hdrGood = true ∧ f.ringId ≠ s.get .RING_ID 0) ∧
    (∃ (f : RingFrame) (s : State), isManager s = false ∧ s.get .LINK_STATE 0 ≠ 0 ∧ s.get .LINK_STATE 0 ≠ 1 ∧ f.hdrGood = true ∧ f.corrGood = true ∧ f.ringId = s.get .RING_ID 0 ∧ f.cycle = s.get .RX_CYC 0) ∧
    (∃ (f : RingFrame) (s : State), isManager s = false ∧ s.get .LINK_STATE 0 = 5 ∧ s.get .LOCKED 0 = 0 ∧ f.hdrGood = true ∧ f.ringId = s.get .RING_ID 0 ∧ f.cycle ≠ s.get .RX_CYC 0) ∧
    (∃ (f : RingFrame) (s : State), isManager s = false ∧ linkRuns s = true ∧ f.corrGood = false ∧ f.hdrGood = true ∧ f.ringId = s.get .RING_ID 0 ∧ f.cycle ≠ s.get .RX_CYC 0 ∧ f.blockGood = true ∧ bit f.dnCtrl 5 = true) ∧
    (∃ (f : RingFrame) (s : State), isManager s = false ∧ linkRuns s = true ∧ f.corrGood = false ∧ f.hdrGood = true ∧ f.ringId = s.get .RING_ID 0 ∧ f.cycle ≠ s.get .RX_CYC 0 ∧ f.goValid = false ∧ f.sheetValid = false ∧ f.blockGood = true ∧ bit f.dnCtrl 5 = false ∧ f.dnCtrl % 16 = s.get .OWN_EPOCH 0 ∧ s.dv .AX_DN 0 = 2 ∧ (∀ i < 8, 1 ≤ i → s.dv .AX_DN i = 0)) ∧
    (∃ (s : State), isManager s = true ∧ linkRuns s = true) ∧
    (∃ (s : State), isManager s = true ∧ linkRuns s = true) ∧
    (∃ (s : State), isManager s = true ∧ s.get .LINK_STATE 0 = 3 ∧ s.get .LANE_WRAP 0 = 1) ∧
    (∃ (s : State), isManager s = true ∧ s.get .LINK_STATE 0 = 4 ∧ s.get .LANE_WRAP 0 = 0) ∧
    (∃ (d : Nat) (stat : Nat) (s : State), isManager s = true ∧ linkRuns s = true ∧ 1 ≤ d ∧ d < 32 ∧ s.get .DEV_STATE d = devRunning ∧ stat % 16 = s.get .DEV_EPOCH d ∧ s.get .RING_UP (8 * d) = 2 ∧ (∀ i < 8, 1 ≤ i → s.get .RING_UP (8 * d + i) = 0)) ∧
    (∃ (d : Nat) (stat : Nat) (s : State), isManager s = true ∧ linkRuns s = true ∧ 1 ≤ d ∧ d < 32 ∧ s.get .DEV_STATE d ≠ devAbsent ∧ stat % 16 ≠ s.get .DEV_EPOCH d) ∧
    (∃ (s : State), isManager s = false ∧ s.get .LINK_STATE 0 = 2 ∧ 64 ≤ s.get .ALIGN_RUN 0) ∧
    (∃ (s : State), (isManager s = true ∨ s.get .LINK_STATE 0 ≠ 2 ∨ s.get .ALIGN_RUN 0 < 64)) :=
  ⟨⟨given [(.LINK_EN, 0, 0)], by decide +kernel⟩,
   ⟨given [(.LINK_EN, 0, 1), (.ROLE_ACT, 0, 1), (.LINK_STATE, 0, 3)], by decide +kernel⟩,
   ⟨⟨4, 0, 1, 0, 0, false, false, true, 255, 255, 0, 0, false, 0, false, 0, [0x0F000006, 0x123456789], true⟩, given [(.ROLE_ACT, 0, 0), (.LINK_STATE, 0, 2)], by decide +kernel⟩,
   ⟨⟨4, 1, 1, 0, 0, false, false, true, 255, 255, 0, 0, true, 0, false, 0, [0x0F000006, 0x123456789], true⟩, given [(.ROLE_ACT, 0, 0), (.LINK_STATE, 0, 2)], by decide +kernel⟩,
   ⟨⟨4, 0, 4294967295, 0, 0, false, false, true, 255, 255, 0, 0, true, 0, true, 0, [0x0F000006, 0x123456789], true⟩, given [(.ROLE_ACT, 0, 0), (.LINK_STATE, 0, 2)], by decide +kernel⟩,
   ⟨⟨4, 0, 4294967296, 0, 0, false, false, true, 255, 255, 0, 0, true, 0, false, 0, [0x0F000006, 0x123456789], true⟩, given [(.ROLE_ACT, 0, 0), (.LINK_STATE, 0, 5), (.LOCKED, 0, 0)], by decide +kernel⟩,
   ⟨⟨4, 0, 4294967296, 0, 0, false, false, true, 255, 255, 0, 0, true, 0, false, 32, [0x0F000006, 0x123456789], true⟩, given [(.ROLE_ACT, 0, 0), (.LINK_STATE, 0, 3)], by decide +kernel⟩,
   ⟨⟨4, 0, 4294967296, 0, 0, false, false, true, 255, 255, 0, 0, true, 0, false, 0, [0x0F000006, 0x123456789], true⟩, given [(.ROLE_ACT, 0, 0), (.LINK_STATE, 0, 3)] [(.AX_DN, 0, 2)], by decide +kernel⟩,
   ⟨given [(.ROLE_ACT, 0, 1), (.LINK_STATE, 0, 3)], by decide +kernel⟩,
   ⟨given [(.ROLE_ACT, 0, 1), (.LINK_STATE, 0, 3)], by decide +kernel⟩,
   ⟨given [(.ROLE_ACT, 0, 1), (.LINK_STATE, 0, 3), (.LANE_WRAP, 0, 1)], by decide +kernel⟩,
   ⟨given [(.ROLE_ACT, 0, 1), (.LINK_STATE, 0, 4), (.LANE_WRAP, 0, 0)], by decide +kernel⟩,
   ⟨31, 0, given [(.ROLE_ACT, 0, 1), (.LINK_STATE, 0, 3), (.DEV_STATE, 31, 1), (.RING_UP, 248, 2)], by decide +kernel⟩,
   ⟨31, 1, given [(.ROLE_ACT, 0, 1), (.LINK_STATE, 0, 3), (.DEV_STATE, 31, 1)], by decide +kernel⟩,
   ⟨given [(.ROLE_ACT, 0, 0), (.LINK_STATE, 0, 2), (.ALIGN_RUN, 0, 64)], by decide +kernel⟩,
   ⟨given [(.ROLE_ACT, 0, 1)], by decide +kernel⟩⟩

theorem witness_LanesAndFences :
    (∃ (lane : Fin 2) (s : State), s.getBit .LANE_OK 0 lane = true ∧ s.getBit .LANE_OK 0 (1 - lane.val) = true ∧ s.get .LINK_STATE 0 ≠ linkOpen) ∧
    (∃ (lane : Fin 2) (s : State), s.getBit .LANE_OK 0 lane = true ∧ (s.getBit .LANE_OK 0 (1 - lane.val) = false ∨ s.get .LINK_STATE 0 = linkOpen)) ∧
    (∃ (lane : Fin 2) (s : State), s.getBit .LANE_OK 0 lane = false) ∧
    (∃ (lane : Fin 2) (s : State), s.getBit .LANE_OK 0 lane = false ∧ 64 ≤ s.get .LANE_GOOD lane) ∧
    (∃ (lane : Fin 2) (s : State), (s.getBit .LANE_OK 0 lane = true ∨ s.get .LANE_GOOD lane < 64)) ∧
    (∃ (s : State), isManager s = false ∧ linkRuns s = true) ∧
    (∃ (s : State), isManager s = true) ∧
    (∃ (d : Fin 32) (s : State), isManager s = true ∧ d.val ≠ 0 ∧ s.get .DEV_STATE d = devRunning ∧ 8 ≤ s.get .DEV_MISS d) ∧
    (∃ (d : Fin 32) (s : State), (isManager s = false ∨ d.val = 0 ∨ s.get .DEV_STATE d ≠ devRunning ∨ s.get .DEV_MISS d < 8)) ∧
    (∃ (d : Fin 32) (s : State), isManager s = true ∧ d.val ≠ 0 ∧ (s.get .DEV_STATE d = devFenced ∨ s.get .DEV_STATE d = devJoining) ∧ s.get .DEV_HOLD d = 0 ∧ s.get .DEV_EPOCH_DUE d = 0 ∧ s.get .DEV_FENCED d = 1) ∧
    (∃ (d : Fin 32) (s : State), isManager s = true ∧ d.val ≠ 0 ∧ s.get .DEV_STATE d = devJoining ∧ s.get .DEV_HOLD d = 0 ∧ s.get .DEV_EPOCH_DUE d = 0 ∧ s.get .DEV_FENCED d = 0) ∧
    (∃ (s : State), isManager s = false ∧ (s.get .LINK_STATE 0 = linkFenced ∨ s.get .LINK_STATE 0 = linkJoining)) ∧
    (∃ (s : State), isManager s = false ∧ linkRuns s = true) :=
  ⟨⟨0, given [(.LANE_OK, 0, 3)], by decide +kernel⟩,
   ⟨0, given [(.LANE_OK, 0, 1)], by decide +kernel⟩,
   ⟨0, given [(.LANE_OK, 0, 0)], by decide +kernel⟩,
   ⟨0, given [(.LANE_OK, 0, 0), (.LANE_GOOD, 0, 64)], by decide +kernel⟩,
   ⟨0, given [(.LANE_OK, 0, 1)], by decide +kernel⟩,
   ⟨given [(.ROLE_ACT, 0, 0), (.LINK_STATE, 0, 3)], by decide +kernel⟩,
   ⟨given [(.ROLE_ACT, 0, 1)], by decide +kernel⟩,
   ⟨1, given [(.ROLE_ACT, 0, 1), (.DEV_STATE, 1, 1), (.DEV_MISS, 1, 8)], by decide +kernel⟩,
   ⟨0, given [(.ROLE_ACT, 0, 0)], by decide +kernel⟩,
   ⟨1, given [(.ROLE_ACT, 0, 1), (.DEV_STATE, 1, 2), (.DEV_HOLD, 1, 0), (.DEV_EPOCH_DUE, 1, 0), (.DEV_FENCED, 1, 1)], by decide +kernel⟩,
   ⟨1, given [(.ROLE_ACT, 0, 1), (.DEV_STATE, 1, 3), (.DEV_HOLD, 1, 0), (.DEV_EPOCH_DUE, 1, 0), (.DEV_FENCED, 1, 0)], by decide +kernel⟩,
   ⟨given [(.ROLE_ACT, 0, 0), (.LINK_STATE, 0, 5)], by decide +kernel⟩,
   ⟨given [(.ROLE_ACT, 0, 0), (.LINK_STATE, 0, 3)], by decide +kernel⟩⟩

theorem witness_SheetsAndTunnel :
    (∃ (t : Nat) (s : State), s.get .SEQ_DOWN 0 = 0 ∧ isManager s = true ∧ linkRuns s = true ∧ s.get .RS_PEND 0 = 0 ∧ s.ts + 80000 ≤ t ∧ t < 2 ^ 64) ∧
    (∃ (t : Nat) (s : State), s.get .SEQ_DOWN 0 = 0 ∧ t < 2 ^ 64 ∧ (isManager s = false ∨ linkRuns s = false ∨ t < s.ts + 80000 ∨ s.get .RS_PEND 0 = 1)) ∧
    (∃ (t : Nat) (s : State), s.get .RS_PEND 0 = 1 ∧ s.get .RS_T 0 ≤ (s.atTick t).ts ∧ s.get .SHEET_ERR 0 = 0 ∧ (∀ d < 32, s.get .DEV_STATE d ≠ devRunning)) ∧
    (∃ (t : Nat) (d : Nat) (s : State), 1 ≤ d ∧ d < 32 ∧ s.get .RS_PEND 0 = 1 ∧ s.get .RS_T 0 + 8000000 ≤ (s.atTick t).ts ∧ s.get .SHEET_ERR 0 = 0 ∧ s.get .DEV_STATE d = devRunning ∧ (∀ k < 32, k ≠ d → s.get .DEV_STATE k ≠ devRunning)) ∧
    (∃ (t : Nat) (d : Nat) (s : State), d < 32 ∧ (s.atTick t).ts < s.get .RS_T 0 + 8000000 ∧ s.get .DEV_STATE d = devRunning) ∧
    (∃ (abort : Nat) (s : State), s.get .SEQ_DOWN 0 = 0 ∧ isManager s = true ∧ s.get .TUN_BUSY 0 = 0 ∧ s.get .TUNNEL_DEV 0 < s.get .RING_SIZE 0 ∧ abort ≠ 0x05040000 ∧ abort < 2 ^ 32) ∧
    (∃ (s : State), s.get .SEQ_DOWN 0 = 0 ∧ isManager s = true ∧ s.get .TUN_BUSY 0 = 0 ∧ s.get .TUNNEL_DEV 0 < s.get .RING_SIZE 0) ∧
    (∃ (s : State), (s.get .SEQ_DOWN 0 = 1 ∨ isManager s = false ∨ s.get .TUN_BUSY 0 = 1 ∨ s.get .RING_SIZE 0 ≤ s.get .TUNNEL_DEV 0)) ∧
    (∃ (t : Nat) (s : State), s.get .TUN_BUSY 0 = 1 ∧ s.get .TUN_TICK 0 + 8000000 ≤ (s.atTick t).ts) ∧
    (∃ (t : Nat) (s : State), (s.get .TUN_BUSY 0 = 0 ∨ (s.atTick t).ts < s.get .TUN_TICK 0 + 8000000)) :=
  ⟨⟨18446744073709551615, given [(.SEQ_DOWN, 0, 0), (.ROLE_ACT, 0, 1), (.LINK_STATE, 0, 3), (.RS_PEND, 0, 0)], by decide +kernel⟩,
   ⟨18446744073709551615, given [(.SEQ_DOWN, 0, 0), (.ROLE_ACT, 0, 0)], by decide +kernel⟩,
   ⟨0, given [(.RS_PEND, 0, 1), (.RS_T, 0, 0), (.SHEET_ERR, 0, 0)], by decide +kernel⟩,
   ⟨8000000, 31, given [(.RS_PEND, 0, 1), (.SHEET_ERR, 0, 0), (.DEV_STATE, 31, 1)], by decide +kernel⟩,
   ⟨0, 31, given [(.DEV_STATE, 31, 1)], by decide +kernel⟩,
   ⟨4294967295, given [(.SEQ_DOWN, 0, 0), (.ROLE_ACT, 0, 1), (.TUN_BUSY, 0, 0), (.RING_SIZE, 0, 2)], by decide +kernel⟩,
   ⟨given [(.SEQ_DOWN, 0, 0), (.ROLE_ACT, 0, 1), (.TUN_BUSY, 0, 0), (.RING_SIZE, 0, 2)], by decide +kernel⟩,
   ⟨given [(.SEQ_DOWN, 0, 1)], by decide +kernel⟩,
   ⟨8000000, given [(.TUN_BUSY, 0, 1)], by decide +kernel⟩,
   ⟨0, given [(.TUN_BUSY, 0, 0)], by decide +kernel⟩⟩

theorem witness_Mailbox :
    (∃ (s : State), s.get .SESS_OPEN 0 = 1 ∧ s.get .SESS_PATH 0 = 1) ∧
    (∃ (s : State), (s.get .SESS_OPEN 0 = 0 ∨ s.get .SESS_PATH 0 ≠ 1)) ∧
    (∃ (w : Nat) (s : State), w < 2 ^ 32 ∧ w / 2 ^ 24 % 4 ≠ 3 ∧ s.qFill 14 = s.qSize 14) ∧
    (∃ (w : Nat), w < 2 ^ 32 ∧ w / 2 ^ 24 % 4 = 3) ∧
    (∃ (w : Nat) (s : State), w < 2 ^ 32 ∧ w / 2 ^ 24 % 4 ≠ 3 ∧ bit w 29 = false ∧ s.dv .QSIZE_LOG2 14 ≤ 13 ∧ s.get .QWR 14 < 2 * s.qSize 14 ∧ s.get .QRD 14 < 2 * s.qSize 14 ∧ s.qFill 14 < s.qSize 14) ∧
    (∃ (s : State), outReady s = false) ∧
    (∃ (s : State), outReady s = true ∧ s.outWait = [] ∧ s.dv .QSIZE_LOG2 15 ≤ 13 ∧ s.get .QRD 15 < 2 * s.qSize 15 ∧ s.qFill 15 = 1) ∧
    (∃ (t : Nat) (s : State), outReady s = true ∧ entryFirst (headWord s 15) = true ∧ s.get .Q15_TICK 0 + 16000000 ≤ (s.atTick t).ts) ∧
    (∃ (t : Nat) (s : State), (outReady s = false ∨ (s.atTick t).ts < s.get .Q15_TICK 0 + 16000000)) ∧
    (∃ (bytes : List Nat) (s : State), sdoServed s = true ∧ s.get .SEQ_DOWN 0 = 0 ∧ (bytes.length < 12 ∨ 1036 < bytes.length)) ∧
    (∃ (bytes : List Nat) (s : State), sdoServed s = true ∧ s.get .SEQ_DOWN 0 = 0 ∧ 12 ≤ bytes.length ∧ bytes.length ≤ 1036) ∧
    (∃ (s : State), sdoServed s = true ∧ s.get .SEQ_DOWN 0 = 1) ∧
    (∃ (s : State), sdoServed s = false) ∧
    (∃ (s : State), sdoServed s = true ∧ s.get .SEQ_DOWN 0 = 0 ∧ s.resp.getD 2 [] = []) ∧
    (∃ (f : List Nat) (l : List (List Nat)) (s : State), sdoServed s = true ∧ s.get .SEQ_DOWN 0 = 0 ∧ s.resp.getD 2 [] = f :: l) :=
  ⟨⟨given [(.SESS_OPEN, 0, 1), (.SESS_PATH, 0, 1)], by decide +kernel⟩,
   ⟨given [(.SESS_OPEN, 0, 0)], by decide +kernel⟩,
   ⟨4244635647, given [(.QWR, 14, 1024)], by decide +kernel⟩,
   ⟨4294967295, by decide +kernel⟩,
   ⟨3707764735, given [(.QWR, 14, 16383), (.QRD, 14, 16383)] [(.QSIZE_LOG2, 14, 13)], by decide +kernel⟩,
   ⟨given [], by decide +kernel⟩,
   ⟨given [(.QRD, 15, 16383), (.QWR, 15, 0)] [(.QSIZE_LOG2, 15, 13)], by decide +kernel⟩,
   ⟨16000000, (given []).enqueue 15 [0x10000000], by decide +kernel⟩,
   ⟨0, given [], by decide +kernel⟩,
   ⟨[], given [(.NMT_STATE, 0, 1), (.SEQ_DOWN, 0, 0)], by decide +kernel⟩,
   ⟨[0, 0, 0, 0, 0, 0, 0, 0, 0, 0, 0, 0], given [(.NMT_STATE, 0, 1), (.SEQ_DOWN, 0, 0)], by decide +kernel⟩,
   ⟨given [(.NMT_STATE, 0, 1), (.SEQ_DOWN, 0, 1)], by decide +kernel⟩,
   ⟨given [], by decide +kernel⟩,
   ⟨given [(.NMT_STATE, 0, 1), (.SEQ_DOWN, 0, 0)], by decide +kernel⟩,
   ⟨[1, 0], [[2]], { given [(.NMT_STATE, 0, 1), (.SEQ_DOWN, 0, 0)] with resp := [[], [], [[1, 0], [2]]] }, by decide +kernel⟩⟩

theorem witness_Diagnosis :
    (∃ (path : Path) (r : Request) (s : State), TakesPlain s path r ∧ r.payload = []) ∧
    (∃ (path : Path) (r : Request) (s : State), TakesPlain s path r ∧ r.payload ≠ []) ∧
    (∃ (path : Path) (r : Request) (s : State), TakesSealed s path r ∧ openText s 0 r = some []) ∧
    (∃ (r : Request) (s : State), s.get .SEQ_DOWN 0 = 0 ∧ (r.crcOk = false ∨ 3 < r.flags ∨ 1024 < r.payload.length)) ∧
    (∃ (path : Path) (s : State), pathUp s path.code = true ∧ s.get .SEQ_DOWN 0 = 1) ∧
    (∃ (path : Path) (r : Request) (s : State), TakesPlain s path r) ∧
    (∃ (path : Path) (r : Request) (s : State), TakesSealed s path r ∧ (∀ k < 7, openText s k r = none)) ∧
    (∃ (text : List Nat) (path : Path) (r : Request) (s : State), Arrives s path r ∧ r.flags = 2 ∧ s.get .SESS_OPEN 0 = 1 ∧ s.get .SESS_PATH 0 = path.code ∧ r.ctr ≤ s.get .CTR_RX 0 ∧ s.get .SESS_DROPS 0 < 7 ∧ openText s 6 r = some text) ∧
    (∃ (path : Path) (r : Request) (s : State), TakesSealed s path r ∧ 1 ≤ s.get .SESS_ROLE 0 ∧ openText s 1 r = some [0x00, 0x10, 0x00]) ∧
    (∃ (t : Nat) (v : Nat) (sub : Nat) (path : Path) (r : Request) (s : State), TakesSealed s path r ∧ 1 ≤ s.get .SESS_ROLE 0 ∧ openText s 1 r = some (leBytes 2 v ++ [sub]) ∧ v < 2 ^ 16 ∧ (objReadAny (opened (s.atTick t) path r) v sub).2.1 = 0) ∧
    (∃ (t : Nat) (v : Nat) (sub : Nat) (path : Path) (r : Request) (s : State), TakesSealed s path r ∧ 1 ≤ s.get .SESS_ROLE 0 ∧ openText s 1 r = some (leBytes 2 v ++ [sub]) ∧ v < 2 ^ 16 ∧ (objReadAny (opened (s.atTick t) path r) v sub).2.1 ≠ 0) ∧
    (∃ (text : List Nat) (path : Path) (r : Request) (s : State), TakesSealed s path r ∧ 1 ≤ s.get .SESS_ROLE 0 ∧ openText s 1 r = some text ∧ text.length ≠ 3) ∧
    (∃ (v : Nat) (i : Slot) (path : Path) (r : Request) (s : State), TakesSealed s path r ∧ 2 ≤ s.get .SESS_ROLE 0 ∧ 0 < v ∧ v < 2 ^ 31 ∧ openText s 2 r = some (leBytes 2 (0x6081 + 0x800 * i.val) ++ [0] ++ leBytes 4 v)) ∧
    (∃ (v : Nat) (i : Slot) (path : Path) (r : Request) (s : State), TakesSealed s path r ∧ s.get .SESS_ROLE 0 = 1 ∧ v < 2 ^ 32 ∧ openText s 2 r = some (leBytes 2 (0x6081 + 0x800 * i.val) ++ [0] ++ leBytes 4 v)) ∧
    (∃ (v : Nat) (i : Slot) (path : Path) (r : Request) (s : State), TakesSealed s path r ∧ s.get .SESS_ROLE 0 = 3 ∧ 1 ≤ v ∧ v ≤ 32768 ∧ s.sec.staged = [] ∧ openText s 2 r = some (leBytes 2 (0x2841 + 0x100 * i.val) ++ [1] ++ leBytes 2 v)) ∧
    (∃ (a : Nat) (n : Nat) (path : Path) (r : Request) (s : State), TakesSealed s path r ∧ 1 ≤ s.get .SESS_ROLE 0 ∧ s.getBit .DOM_ON 0 2 = true ∧ 0x400000 ≤ a ∧ a % 4 = 0 ∧ 1 ≤ n ∧ n ≤ 254 ∧ a + 4 * n ≤ 0x440000 ∧ openText s 3 r = some (leBytes 4 a ++ leBytes 2 n)) ∧
    (∃ (a : Nat) (path : Path) (r : Request) (s : State), TakesSealed s path r ∧ 1 ≤ s.get .SESS_ROLE 0 ∧ a < 2 ^ 32 ∧ a % 4 ≠ 0 ∧ openText s 3 r = some (leBytes 4 a ++ leBytes 2 1)) ∧
    (∃ (path : Path) (r : Request) (s : State), TakesSealed s path r ∧ 1 ≤ s.get .SESS_ROLE 0 ∧ openText s 3 r = some [0, 0, 0, 0, 0, 0]) ∧
    (∃ (b : Nat) (path : Path) (r : Request) (s : State), TakesSealed s path r ∧ 2 ≤ s.get .SESS_ROLE 0 ∧ b < 2 ∧ openText s 4 r = some (leBytes 4 0x24 ++ [8 * b, 0, 8, 0])) ∧
    (∃ (text : List Nat) (path : Path) (r : Request) (s : State), TakesSealed s path r ∧ s.get .SESS_ROLE 0 = 1 ∧ openText s 4 r = some text) ∧
    (∃ (p : Nat) (path : Path) (r : Request) (s : State), TakesSealed s path r ∧ 1 ≤ s.get .SESS_ROLE 0 ∧ p < 2 ^ 16 ∧ s.qFill 11 = 0 ∧ openText s 5 r = some (leBytes 2 p ++ [1])) ∧
    (∃ (p : Nat) (path : Path) (r : Request) (s : State), TakesSealed s path r ∧ 1 ≤ s.get .SESS_ROLE 0 ∧ p < 2 ^ 16 ∧ s.qFill 11 = 1 ∧ s.get .QRD 11 = p ∧ p < 2 * s.qSize 11 ∧ s.qBad 11 p = false ∧ openText s 5 r = some (leBytes 2 p ++ [60])) ∧
    (∃ (p : Nat) (path : Path) (r : Request) (s : State), TakesSealed s path r ∧ 1 ≤ s.get .SESS_ROLE 0 ∧ p < 2 ^ 16 ∧ openText s 5 r = some (leBytes 2 p ++ [61])) ∧
    (∃ (path : Path) (r : Request) (s : State), TakesSealed s path r ∧ 1 ≤ s.get .SESS_ROLE 0 ∧ openText s 6 r = some []) ∧
    (∃ (text : List Nat) (path : Path) (r : Request) (s : State), TakesSealed s path r ∧ 1 ≤ s.get .SESS_ROLE 0 ∧ openText s 6 r = some text ∧ text ≠ []) :=
  ⟨⟨.spi, ⟨1, 0, 0, 0, [], true⟩, given [], by unfold TakesPlain Arrives; decide +kernel⟩,
   ⟨.spi, ⟨1, 0, 0, 0, [0], true⟩, { given [] with sec := owned }, by unfold TakesPlain Arrives; decide +kernel⟩,
   ⟨.spi, ⟨1, 2, 0, 1, [53, 196, 158, 238, 205, 191, 248, 63], true⟩, { given [(.SESS_OPEN, 0, 1)] with sec := owned }, by unfold TakesSealed Arrives; decide +kernel⟩,
   ⟨⟨1, 4, 0, 0, [], true⟩, { given [(.SEQ_DOWN, 0, 0)] with sec := owned }, by decide +kernel⟩,
   ⟨.spi, { given [(.SEQ_DOWN, 0, 1)] with sec := owned }, by decide +kernel⟩,
   ⟨.spi, ⟨1, 0, 0, 0, [], true⟩, given [], by unfold TakesPlain Arrives; decide +kernel⟩,
   ⟨.spi, ⟨1, 2, 0, 1, [], true⟩, { given [(.SESS_OPEN, 0, 1)] with sec := owned }, by unfold TakesSealed Arrives; decide +kernel⟩,
   ⟨[], .spi, ⟨1, 2, 0, 1, [241, 48, 155, 77, 160, 34, 24, 203], true⟩, { given [(.SESS_OPEN, 0, 1), (.SESS_DROPS, 0, 6), (.CTR_RX, 0, 1)] with sec := owned }, by unfold Arrives; decide +kernel⟩,
   ⟨.spi, ⟨1, 2, 0, 1, [182, 85, 248, 165, 48, 23, 126, 74, 136, 33, 16], true⟩, { given [(.SESS_OPEN, 0, 1), (.SESS_ROLE, 0, 1)] with sec := owned }, by unfold TakesSealed Arrives; decide +kernel⟩,
   ⟨0, 4096, 0, .spi, ⟨1, 2, 0, 1, [182, 85, 248, 165, 48, 23, 126, 74, 136, 33, 16], true⟩, { given [(.SESS_OPEN, 0, 1), (.SESS_ROLE, 0, 1)] with sec := owned }, by unfold TakesSealed Arrives; decide +kernel⟩,
   ⟨0, 39321, 0, .spi, ⟨1, 2, 0, 1, [47, 220, 248, 239, 214, 129, 50, 11, 211, 63, 118], true⟩, { given [(.SESS_OPEN, 0, 1), (.SESS_ROLE, 0, 1)] with sec := owned }, by unfold TakesSealed Arrives; decide +kernel⟩,
   ⟨[1], .spi, ⟨1, 2, 0, 1, [183, 125, 79, 175, 56, 37, 61, 18, 243], true⟩, { given [(.SESS_OPEN, 0, 1), (.SESS_ROLE, 0, 1)] with sec := owned }, by unfold TakesSealed Arrives; decide +kernel⟩,
   ⟨5, 0, .spi, ⟨1, 2, 0, 1, [55, 37, 248, 170, 65, 167, 211, 123, 165, 49, 69, 14, 92, 170, 17], true⟩, { given [(.SESS_OPEN, 0, 1), (.SESS_ROLE, 0, 2)] with sec := owned }, by unfold TakesSealed Arrives; decide +kernel⟩,
   ⟨5, 0, .spi, ⟨1, 2, 0, 1, [55, 37, 248, 170, 65, 167, 211, 123, 165, 49, 69, 14, 92, 170, 17], true⟩, { given [(.SESS_OPEN, 0, 1), (.SESS_ROLE, 0, 1)] with sec := owned }, by unfold TakesSealed Arrives; decide +kernel⟩,
   ⟨32768, 0, .spi, ⟨1, 2, 0, 1, [247, 109, 249, 175, 193, 32, 220, 173, 197, 38, 121, 34, 38], true⟩, { given [(.SESS_OPEN, 0, 1), (.SESS_ROLE, 0, 3)] with sec := owned }, by unfold TakesSealed Arrives; decide +kernel⟩,
   ⟨4456444, 1, .spi, ⟨1, 2, 0, 1, [74, 186, 187, 175, 64, 167, 76, 91, 3, 30, 34, 170, 168, 23], true⟩, { given [(.SESS_OPEN, 0, 1), (.SESS_ROLE, 0, 1), (.DOM_ON, 0, 4095)] with sec := owned }, by unfold TakesSealed Arrives; decide +kernel⟩,
   ⟨4294967293, .spi, ⟨1, 2, 0, 1, [75, 186, 7, 80, 64, 167, 90, 134, 33, 20, 111, 156, 177, 30], true⟩, { given [(.SESS_OPEN, 0, 1), (.SESS_ROLE, 0, 1)] with sec := owned }, by unfold TakesSealed Arrives; decide +kernel⟩,
   ⟨.spi, ⟨1, 2, 0, 1, [182, 69, 248, 175, 65, 167, 169, 162, 235, 16, 100, 130, 79, 219], true⟩, { given [(.SESS_OPEN, 0, 1), (.SESS_ROLE, 0, 1)] with sec := owned }, by unfold TakesSealed Arrives; decide +kernel⟩,
   ⟨1, .spi, ⟨1, 2, 0, 1, [146, 69, 248, 175, 73, 167, 219, 196, 134, 147, 234, 20, 106, 167, 45, 133], true⟩, { given [(.SESS_OPEN, 0, 1), (.SESS_ROLE, 0, 2)] with sec := owned }, by unfold TakesSealed Arrives; decide +kernel⟩,
   ⟨[], .spi, ⟨1, 2, 0, 1, [205, 251, 18, 165, 38, 243, 99, 18], true⟩, { given [(.SESS_OPEN, 0, 1), (.SESS_ROLE, 0, 1)] with sec := owned }, by unfold TakesSealed Arrives; decide +kernel⟩,
   ⟨65535, .spi, ⟨1, 2, 0, 1, [73, 186, 249, 36, 100, 61, 248, 35, 41, 35, 191], true⟩, { given [(.SESS_OPEN, 0, 1), (.SESS_ROLE, 0, 1)] with sec := owned }, by unfold TakesSealed Arrives; decide +kernel⟩,
   ⟨0, .spi, ⟨1, 2, 0, 1, [182, 69, 196, 161, 81, 117, 120, 200, 146, 156, 58], true⟩, { given [(.SESS_OPEN, 0, 1), (.SESS_ROLE, 0, 1), (.QRD, 11, 0), (.QWR, 11, 1)] with sec := owned }, by unfold TakesSealed Arrives; decide +kernel⟩,
   ⟨0, .spi, ⟨1, 2, 0, 1, [182, 69, 197, 111, 63, 50, 68, 4, 177, 124, 141], true⟩, { given [(.SESS_OPEN, 0, 1), (.SESS_ROLE, 0, 1)] with sec := owned }, by unfold TakesSealed Arrives; decide +kernel⟩,
   ⟨.spi, ⟨1, 2, 0, 1, [241, 48, 155, 77, 160, 34, 24, 203], true⟩, { given [(.SESS_OPEN, 0, 1), (.SESS_ROLE, 0, 1)] with sec := owned }, by unfold TakesSealed Arrives; decide +kernel⟩,
   ⟨[1], .spi, ⟨1, 2, 0, 1, [183, 182, 65, 184, 212, 206, 229, 249, 240], true⟩, { given [(.SESS_OPEN, 0, 1), (.SESS_ROLE, 0, 1)] with sec := owned }, by unfold TakesSealed Arrives; decide +kernel⟩⟩

theorem witness_Sessions :
    (∃ (path : Path) (r : Request) (s : State), TakesPlain s path r ∧ r.payload.length = 212 ∧ fieldAt r.payload 0 2 = 1 ∧ 1 ≤ tokenRole r.payload ∧ tokenRole r.payload ≤ 3 ∧ tokenId r.payload ≠ 0 ∧ tokenFault s path.code r.payload = 0) ∧
    (∃ (path : Path) (r : Request) (s : State), TakesPlain s path r ∧ r.payload.length = 212 ∧ fieldAt r.payload 0 2 = 1 ∧ 1 ≤ tokenRole r.payload ∧ tokenRole r.payload ≤ 3 ∧ tokenId r.payload ≠ 0 ∧ tokenFault s path.code r.payload ≠ 0) ∧
    (∃ (path : Path) (r : Request) (s : State), TakesPlain s path r ∧ r.payload.length ≠ 212) ∧
    (∃ (path : Path) (r : Request) (s : State), s.get .SEQ_DOWN 0 = 0 ∧ pathUp s path.code = true ∧ r.crcOk = true ∧ r.ver = 1 ∧ r.payload.length ≤ 1024 ∧ r.flags ≤ 3 ∧ s.getBit .DOM_ON 0 11 = false) ∧
    (∃ (t : Nat) (path : Path) (r : Request) (c : Challenge) (s : State), TakesPlain s path r ∧ r.payload.length = 128 ∧ s.sec.challenge = some c ∧ c.path = path.code ∧ (s.atTick t).ts ≤ c.tick + 1600000000 ∧ ecdsaVerifies (slice c.token 20 64) (c.nonce ++ c.point ++ r.payload.take 64 ++ leBytes 4 s.sec.identity.serial) (r.payload.drop 64) = true) ∧
    (∃ (t : Nat) (path : Path) (r : Request) (c : Challenge) (s : State), TakesPlain s path r ∧ r.payload.length = 128 ∧ s.sec.challenge = some c ∧ c.path = path.code ∧ (s.atTick t).ts ≤ c.tick + 1600000000 ∧ ecdsaVerifies (slice c.token 20 64) (c.nonce ++ c.point ++ r.payload.take 64 ++ leBytes 4 s.sec.identity.serial) (r.payload.drop 64) = false) ∧
    (∃ (path : Path) (r : Request) (s : State), TakesPlain s path r ∧ r.payload.length = 128 ∧ s.sec.challenge = none) ∧
    (∃ (path : Path) (r : Request) (s : State), TakesSealed s path r ∧ 1 ≤ s.get .SESS_ROLE 0 ∧ openText s 0x12 r = some []) ∧
    (∃ (text : List Nat) (path : Path) (r : Request) (s : State), TakesSealed s path r ∧ 1 ≤ s.get .SESS_ROLE 0 ∧ openText s 0x12 r = some text ∧ text ≠ []) ∧
    (∃ (path : Path) (r : Request) (s : State), TakesSealed s path r ∧ 3 ≤ s.get .SESS_ROLE 0 ∧ openText s 0x13 r = some [] ∧ s.get .PROF_SWITCHING 0 = 1) ∧
    (∃ (t : Nat) (path : Path) (r : Request) (s : State), TakesSealed s path r ∧ 3 ≤ s.get .SESS_ROLE 0 ∧ openText s 0x13 r = some [] ∧ s.get .PROF_SWITCHING 0 = 0 ∧ (∀ e ∈ s.sec.staged, stagedOk (opened (s.atTick t) path r) s.sec.staged e = true)) ∧
    (∃ (t : Nat) (path : Path) (r : Request) (s : State), TakesSealed s path r ∧ 3 ≤ s.get .SESS_ROLE 0 ∧ openText s 0x13 r = some [] ∧ s.get .PROF_SWITCHING 0 = 0 ∧ (∃ e ∈ s.sec.staged, stagedOk (opened (s.atTick t) path r) s.sec.staged e = false)) ∧
    (∃ (path : Path) (r : Request) (s : State), TakesSealed s path r ∧ 3 ≤ s.get .SESS_ROLE 0 ∧ openText s 0x14 r = some []) ∧
    (∃ (path : Path) (r : Request) (s : State), TakesPlain s path r) ∧
    (∃ (t : Nat) (s : State), s.get .SESS_OPEN 0 = 1 ∧ s.get .SESS_TICK 0 + s.get .SESS_IDLE 0 * 160000000 ≤ (s.atTick t).ts) ∧
    (∃ (t : Nat) (s : State), (s.get .SESS_OPEN 0 = 0 ∨ (s.atTick t).ts < s.get .SESS_TICK 0 + s.get .SESS_IDLE 0 * 160000000)) ∧
    (∃ (c : Challenge) (s : State), s.sec.challenge = some c) ∧
    (∃ (path : Path) (r : Request) (s : State), TakesPlain s path r ∧ r.payload.length = 200 ∧ fieldAt r.payload 0 2 = 2 ∧ claimFault s path.code r.payload = 0) ∧
    (∃ (path : Path) (r : Request) (s : State), TakesPlain s path r ∧ r.payload.length = 200 ∧ fieldAt r.payload 0 2 = 2 ∧ claimFault s path.code r.payload ≠ 0) ∧
    (∃ (n : Nat) (path : Path) (r : Request) (s : State), TakesPlain s path r ∧ n ≤ 32 ∧ r.payload.length = 142 + 4 * n ∧ fieldAt r.payload 0 2 = 3 ∧ fieldAt r.payload 12 2 = n ∧ revokeFault s r.payload = 0) ∧
    (∃ (n : Nat) (path : Path) (r : Request) (s : State), TakesPlain s path r ∧ n ≤ 32 ∧ r.payload.length = 142 + 4 * n ∧ fieldAt r.payload 0 2 = 3 ∧ fieldAt r.payload 12 2 = n ∧ revokeFault s r.payload ≠ 0) ∧
    (∃ (path : Path) (r : Request) (s : State), TakesPlain s path r ∧ r.payload = []) ∧
    (∃ (path : Path) (r : Request) (s : State), TakesPlain s path r ∧ r.payload ≠ []) :=
  ⟨⟨.spi, ⟨1, 0, 0, 0, [1, 0, 3, 7, 5, 0, 0, 0, 7, 0, 0, 0, 0, 0, 0, 0, 100, 0, 0, 0, 124, 242, 123, 24, 141, 3, 79, 126, 138, 82, 56, 3, 4, 181, 26, 195, 192, 137, 105, 226, 119, 242, 27, 53, 166, 11, 72, 252, 71, 102, 153, 120, 7, 119, 85, 16, 219, 142, 208, 64, 41, 61, 154, 198, 159, 116, 48, 219, 186, 125, 173, 230, 60, 233, 130, 41, 158, 4, 183, 157, 34, 120, 115, 209, 107, 23, 209, 242, 225, 44, 66, 71, 248, 188, 230, 229, 99, 164, 64, 242, 119, 3, 125, 129, 45, 235, 51, 160, 244, 161, 57, 69, 216, 152, 194, 150, 79, 227, 66, 226, 254, 26, 127, 155, 142, 231, 235, 74, 124, 15, 158, 22, 43, 206, 51, 87, 107, 49, 94, 206, 203, 182, 64, 104, 55, 191, 81, 245, 38, 239, 206, 189, 14, 233, 227, 74, 102, 145, 135, 225, 139, 58, 145, 34, 178, 247, 51, 148, 91, 100, 156, 201, 249, 249, 33, 233, 249, 218, 216, 18, 161, 227, 173, 67, 241, 47, 196, 124, 212, 190, 137, 6, 154, 84, 171, 67, 169, 86, 110, 131, 45, 165, 136, 52, 129, 194, 239, 17, 172, 171, 52, 100], true⟩, { given [(.CLAIMED, 0, 1)] with sec := owned }, by unfold TakesPlain Arrives; decide +kernel⟩,
   ⟨.spi, ⟨1, 0, 0, 0, [1, 0, 3, 0, 1, 0, 0, 0, 0, 0, 0, 0, 0, 0, 0, 0, 0, 0, 0, 0, 0, 0, 0, 0, 0, 0, 0, 0, 0, 0, 0, 0, 0, 0, 0, 0, 0, 0, 0, 0, 0, 0, 0, 0, 0, 0, 0, 0, 0, 0, 0, 0, 0, 0, 0, 0, 0, 0, 0, 0, 0, 0, 0, 0, 0, 0, 0, 0, 0, 0, 0, 0, 0, 0, 0, 0, 0, 0, 0, 0, 0, 0, 0, 0, 0, 0, 0, 0, 0, 0, 0, 0, 0, 0, 0, 0, 0, 0, 0, 0, 0, 0, 0, 0, 0, 0, 0, 0, 0, 0, 0, 0, 0, 0, 0, 0, 0, 0, 0, 0, 0, 0, 0, 0, 0, 0, 0, 0, 0, 0, 0, 0, 0, 0, 0, 0, 0, 0, 0, 0, 0, 0, 0, 0, 0, 0, 0, 0, 0, 0, 0, 0, 0, 0, 0, 0, 0, 0, 0, 0, 0, 0, 0, 0, 0, 0, 0, 0, 0, 0, 0, 0, 0, 0, 0, 0, 0, 0, 0, 0, 0, 0, 0, 0, 0, 0, 0, 0, 0, 0, 0, 0, 0, 0, 0, 0, 0, 0, 0, 0, 0, 0, 0, 0, 0, 0, 0, 0, 0, 0, 0, 0], true⟩, { given [] with sec := owned }, by unfold TakesPlain Arrives; decide +kernel⟩,
   ⟨.spi, ⟨1, 0, 0, 0, [], true⟩, { given [] with sec := owned }, by unfold TakesPlain Arrives; decide +kernel⟩,
   ⟨.spi, ⟨1, 3, 0, 0, [], true⟩, { given [(.SEQ_DOWN, 0, 0), (.DOM_ON, 0, 2047)] with sec := owned }, by decide +kernel⟩,
   ⟨1600000000, .spi, ⟨1, 0, 0, 0, [226, 83, 74, 53, 50, 208, 143, 187, 160, 45, 222, 101, 158, 230, 43, 208, 3, 31, 226, 219, 120, 85, 150, 239, 80, 147, 2, 68, 107, 3, 8, 82, 224, 241, 87, 90, 76, 99, 60, 199, 25, 223, 238, 95, 218, 134, 45, 118, 78, 252, 150, 195, 243, 14, 224, 5, 92, 66, 194, 63, 24, 78, 216, 198, 38, 239, 206, 189, 14, 233, 227, 74, 102, 145, 135, 225, 139, 58, 145, 34, 178, 247, 51, 148, 91, 100, 156, 201, 249, 249, 33, 233, 249, 218, 216, 18, 29, 217, 232, 114, 38, 138, 59, 184, 224, 48, 66, 181, 50, 31, 97, 137, 88, 89, 134, 176, 223, 134, 182, 29, 165, 108, 122, 145, 192, 102, 4, 187], true⟩, ⟨0, [9, 9, 9, 9, 9, 9, 9, 9, 9, 9, 9, 9, 9, 9, 9, 9], [0, 0, 0, 0, 0, 0, 0, 0, 0, 0, 0, 0, 0, 0, 0, 0, 0, 0, 0, 0, 0, 0, 0, 0, 0, 0, 0, 0, 0, 0, 0, 3], [94, 203, 228, 209, 166, 51, 10, 68, 200, 247, 239, 149, 29, 75, 241, 101, 230, 198, 183, 33, 239, 173, 169, 133, 251, 65, 102, 27, 198, 231, 253, 108, 135, 52, 100, 12, 73, 152, 255, 126, 55, 75, 6, 206, 26, 100, 162, 236, 216, 42, 176, 54, 56, 79, 184, 61, 154, 121, 177, 39, 162, 125, 80, 50], [1, 0, 3, 7, 5, 0, 0, 0, 7, 0, 0, 0, 0, 0, 0, 0, 100, 0, 0, 0, 124, 242, 123, 24, 141, 3, 79, 126, 138, 82, 56, 3, 4, 181, 26, 195, 192, 137, 105, 226, 119, 242, 27, 53, 166, 11, 72, 252, 71, 102, 153, 120, 7, 119, 85, 16, 219, 142, 208, 64, 41, 61, 154, 198, 159, 116, 48, 219, 186, 125, 173, 230, 60, 233, 130, 41, 158, 4, 183, 157, 34, 120, 115, 209, 107, 23, 209, 242, 225, 44, 66, 71, 248, 188, 230, 229, 99, 164, 64, 242, 119, 3, 125, 129, 45, 235, 51, 160, 244, 161, 57, 69, 216, 152, 194, 150, 79, 227, 66, 226, 254, 26, 127, 155, 142, 231, 235, 74, 124, 15, 158, 22, 43, 206, 51, 87, 107, 49, 94, 206, 203, 182, 64, 104, 55, 191, 81, 245, 38, 239, 206, 189, 14, 233, 227, 74, 102, 145, 135, 225, 139, 58, 145, 34, 178, 247, 51, 148, 91, 100, 156, 201, 249, 249, 33, 233, 249, 218, 216, 18, 161, 227, 173, 67, 241, 47, 196, 124, 212, 190, 137, 6, 154, 84, 171, 67, 169, 86, 110, 131, 45, 165, 136, 52, 129, 194, 239, 17, 172, 171, 52, 100], 0⟩, { given [] with sec := { owned with challenge := some ⟨0, [9, 9, 9, 9, 9, 9, 9, 9, 9, 9, 9, 9, 9, 9, 9, 9], [0, 0, 0, 0, 0, 0, 0, 0, 0, 0, 0, 0, 0, 0, 0, 0, 0, 0, 0, 0, 0, 0, 0, 0, 0, 0, 0, 0, 0, 0, 0, 3], [94, 203, 228, 209, 166, 51, 10, 68, 200, 247, 239, 149, 29, 75, 241, 101, 230, 198, 183, 33, 239, 173, 169, 133, 251, 65, 102, 27, 198, 231, 253, 108, 135, 52, 100, 12, 73, 152, 255, 126, 55, 75, 6, 206, 26, 100, 162, 236, 216, 42, 176, 54, 56, 79, 184, 61, 154, 121, 177, 39, 162, 125, 80, 50], [1, 0, 3, 7, 5, 0, 0, 0, 7, 0, 0, 0, 0, 0, 0, 0, 100, 0, 0, 0, 124, 242, 123, 24, 141, 3, 79, 126, 138, 82, 56, 3, 4, 181, 26, 195, 192, 137, 105, 226, 119, 242, 27, 53, 166, 11, 72, 252, 71, 102, 153, 120, 7, 119, 85, 16, 219, 142, 208, 64, 41, 61, 154, 198, 159, 116, 48, 219, 186, 125, 173, 230, 60, 233, 130, 41, 158, 4, 183, 157, 34, 120, 115, 209, 107, 23, 209, 242, 225, 44, 66, 71, 248, 188, 230, 229, 99, 164, 64, 242, 119, 3, 125, 129, 45, 235, 51, 160, 244, 161, 57, 69, 216, 152, 194, 150, 79, 227, 66, 226, 254, 26, 127, 155, 142, 231, 235, 74, 124, 15, 158, 22, 43, 206, 51, 87, 107, 49, 94, 206, 203, 182, 64, 104, 55, 191, 81, 245, 38, 239, 206, 189, 14, 233, 227, 74, 102, 145, 135, 225, 139, 58, 145, 34, 178, 247, 51, 148, 91, 100, 156, 201, 249, 249, 33, 233, 249, 218, 216, 18, 161, 227, 173, 67, 241, 47, 196, 124, 212, 190, 137, 6, 154, 84, 171, 67, 169, 86, 110, 131, 45, 165, 136, 52, 129, 194, 239, 17, 172, 171, 52, 100], 0⟩ } }, by unfold TakesPlain Arrives; decide +kernel⟩,
   ⟨1600000000, .spi, ⟨1, 0, 0, 0, [0, 0, 0, 0, 0, 0, 0, 0, 0, 0, 0, 0, 0, 0, 0, 0, 0, 0, 0, 0, 0, 0, 0, 0, 0, 0, 0, 0, 0, 0, 0, 0, 0, 0, 0, 0, 0, 0, 0, 0, 0, 0, 0, 0, 0, 0, 0, 0, 0, 0, 0, 0, 0, 0, 0, 0, 0, 0, 0, 0, 0, 0, 0, 0, 0, 0, 0, 0, 0, 0, 0, 0, 0, 0, 0, 0, 0, 0, 0, 0, 0, 0, 0, 0, 0, 0, 0, 0, 0, 0, 0, 0, 0, 0, 0, 0, 0, 0, 0, 0, 0, 0, 0, 0, 0, 0, 0, 0, 0, 0, 0, 0, 0, 0, 0, 0, 0, 0, 0, 0, 0, 0, 0, 0, 0, 0, 0, 0], true⟩, ⟨0, [9, 9, 9, 9, 9, 9, 9, 9, 9, 9, 9, 9, 9, 9, 9, 9], [0, 0, 0, 0, 0, 0, 0, 0, 0, 0, 0, 0, 0, 0, 0, 0, 0, 0, 0, 0, 0, 0, 0, 0, 0, 0, 0, 0, 0, 0, 0, 3], [94, 203, 228, 209, 166, 51, 10, 68, 200, 247, 239, 149, 29, 75, 241, 101, 230, 198, 183, 33, 239, 173, 169, 133, 251, 65, 102, 27, 198, 231, 253, 108, 135, 52, 100, 12, 73, 152, 255, 126, 55, 75, 6, 206, 26, 100, 162, 236, 216, 42, 176, 54, 56, 79, 184, 61, 154, 121, 177, 39, 162, 125, 80, 50], [1, 0, 3, 7, 5, 0, 0, 0, 7, 0, 0, 0, 0, 0, 0, 0, 100, 0, 0, 0, 124, 242, 123, 24, 141, 3, 79, 126, 138, 82, 56, 3, 4, 181, 26, 195, 192, 137, 105, 226, 119, 242, 27, 53, 166, 11, 72, 252, 71, 102, 153, 120, 7, 119, 85, 16, 219, 142, 208, 64, 41, 61, 154, 198, 159, 116, 48, 219, 186, 125, 173, 230, 60, 233, 130, 41, 158, 4, 183, 157, 34, 120, 115, 209, 107, 23, 209, 242, 225, 44, 66, 71, 248, 188, 230, 229, 99, 164, 64, 242, 119, 3, 125, 129, 45, 235, 51, 160, 244, 161, 57, 69, 216, 152, 194, 150, 79, 227, 66, 226, 254, 26, 127, 155, 142, 231, 235, 74, 124, 15, 158, 22, 43, 206, 51, 87, 107, 49, 94, 206, 203, 182, 64, 104, 55, 191, 81, 245, 38, 239, 206, 189, 14, 233, 227, 74, 102, 145, 135, 225, 139, 58, 145, 34, 178, 247, 51, 148, 91, 100, 156, 201, 249, 249, 33, 233, 249, 218, 216, 18, 161, 227, 173, 67, 241, 47, 196, 124, 212, 190, 137, 6, 154, 84, 171, 67, 169, 86, 110, 131, 45, 165, 136, 52, 129, 194, 239, 17, 172, 171, 52, 100], 0⟩, { given [] with sec := { owned with challenge := some ⟨0, [9, 9, 9, 9, 9, 9, 9, 9, 9, 9, 9, 9, 9, 9, 9, 9], [0, 0, 0, 0, 0, 0, 0, 0, 0, 0, 0, 0, 0, 0, 0, 0, 0, 0, 0, 0, 0, 0, 0, 0, 0, 0, 0, 0, 0, 0, 0, 3], [94, 203, 228, 209, 166, 51, 10, 68, 200, 247, 239, 149, 29, 75, 241, 101, 230, 198, 183, 33, 239, 173, 169, 133, 251, 65, 102, 27, 198, 231, 253, 108, 135, 52, 100, 12, 73, 152, 255, 126, 55, 75, 6, 206, 26, 100, 162, 236, 216, 42, 176, 54, 56, 79, 184, 61, 154, 121, 177, 39, 162, 125, 80, 50], [1, 0, 3, 7, 5, 0, 0, 0, 7, 0, 0, 0, 0, 0, 0, 0, 100, 0, 0, 0, 124, 242, 123, 24, 141, 3, 79, 126, 138, 82, 56, 3, 4, 181, 26, 195, 192, 137, 105, 226, 119, 242, 27, 53, 166, 11, 72, 252, 71, 102, 153, 120, 7, 119, 85, 16, 219, 142, 208, 64, 41, 61, 154, 198, 159, 116, 48, 219, 186, 125, 173, 230, 60, 233, 130, 41, 158, 4, 183, 157, 34, 120, 115, 209, 107, 23, 209, 242, 225, 44, 66, 71, 248, 188, 230, 229, 99, 164, 64, 242, 119, 3, 125, 129, 45, 235, 51, 160, 244, 161, 57, 69, 216, 152, 194, 150, 79, 227, 66, 226, 254, 26, 127, 155, 142, 231, 235, 74, 124, 15, 158, 22, 43, 206, 51, 87, 107, 49, 94, 206, 203, 182, 64, 104, 55, 191, 81, 245, 38, 239, 206, 189, 14, 233, 227, 74, 102, 145, 135, 225, 139, 58, 145, 34, 178, 247, 51, 148, 91, 100, 156, 201, 249, 249, 33, 233, 249, 218, 216, 18, 161, 227, 173, 67, 241, 47, 196, 124, 212, 190, 137, 6, 154, 84, 171, 67, 169, 86, 110, 131, 45, 165, 136, 52, 129, 194, 239, 17, 172, 171, 52, 100], 0⟩ } }, by unfold TakesPlain Arrives; decide +kernel⟩,
   ⟨.spi, ⟨1, 0, 0, 0, [0, 0, 0, 0, 0, 0, 0, 0, 0, 0, 0, 0, 0, 0, 0, 0, 0, 0, 0, 0, 0, 0, 0, 0, 0, 0, 0, 0, 0, 0, 0, 0, 0, 0, 0, 0, 0, 0, 0, 0, 0, 0, 0, 0, 0, 0, 0, 0, 0, 0, 0, 0, 0, 0, 0, 0, 0, 0, 0, 0, 0, 0, 0, 0, 0, 0, 0, 0, 0, 0, 0, 0, 0, 0, 0, 0, 0, 0, 0, 0, 0, 0, 0, 0, 0, 0, 0, 0, 0, 0, 0, 0, 0, 0, 0, 0, 0, 0, 0, 0, 0, 0, 0, 0, 0, 0, 0, 0, 0, 0, 0, 0, 0, 0, 0, 0, 0, 0, 0, 0, 0, 0, 0, 0, 0, 0, 0, 0], true⟩, { given [] with sec := owned }, by unfold TakesPlain Arrives; decide +kernel⟩,
   ⟨.spi, ⟨1, 2, 0, 1, [1, 253, 249, 102, 160, 236, 40, 249], true⟩, { given [(.SESS_OPEN, 0, 1), (.SESS_ROLE, 0, 1)] with sec := owned }, by unfold TakesSealed Arrives; decide +kernel⟩,
   ⟨[1], .spi, ⟨1, 2, 0, 1, [183, 142, 217, 44, 249, 50, 147, 173, 49], true⟩, { given [(.SESS_OPEN, 0, 1), (.SESS_ROLE, 0, 1)] with sec := owned }, by unfold TakesSealed Arrives; decide +kernel⟩,
   ⟨.spi, ⟨1, 2, 0, 1, [73, 12, 65, 114, 66, 191, 182, 8], true⟩, { given [(.SESS_OPEN, 0, 1), (.SESS_ROLE, 0, 3), (.PROF_SWITCHING, 0, 1)] with sec := owned }, by unfold TakesSealed Arrives; decide +kernel⟩,
   ⟨0, .spi, ⟨1, 2, 0, 1, [73, 12, 65, 114, 66, 191, 182, 8], true⟩, { given [(.SESS_OPEN, 0, 1), (.SESS_ROLE, 0, 3), (.PROF_SWITCHING, 0, 0)] with sec := { owned with staged := [⟨0x2841, 1, [0, 1]⟩] } }, by unfold TakesSealed Arrives; decide +kernel⟩,
   ⟨0, .spi, ⟨1, 2, 0, 1, [73, 12, 65, 114, 66, 191, 182, 8], true⟩, { given [(.SESS_OPEN, 0, 1), (.SESS_ROLE, 0, 3), (.PROF_SWITCHING, 0, 0)] with sec := { owned with staged := [⟨0x9999, 1, [0, 1]⟩] } }, by unfold TakesSealed Arrives; decide +kernel⟩,
   ⟨.spi, ⟨1, 2, 0, 1, [105, 15, 179, 80, 131, 155, 149, 146], true⟩, { given [(.SESS_OPEN, 0, 1), (.SESS_ROLE, 0, 3)] with sec := owned }, by unfold TakesSealed Arrives; decide +kernel⟩,
   ⟨.spi, ⟨1, 0, 0, 0, [], true⟩, { given [] with sec := owned }, by unfold TakesPlain Arrives; decide +kernel⟩,
   ⟨9600000000, given [(.SESS_OPEN, 0, 1)], by decide +kernel⟩,
   ⟨0, given [(.SESS_OPEN, 0, 0)], by decide +kernel⟩,
   ⟨⟨0, [], [], [], [], 0⟩, { given [] with sec := { owned with challenge := some ⟨0, [], [], [], [], 0⟩ } }, by decide +kernel⟩,
   ⟨.spi, ⟨1, 0, 0, 0, [2, 0, 5, 0, 7, 0, 0, 0, 107, 23, 209, 242, 225, 44, 66, 71, 248, 188, 230, 229, 99, 164, 64, 242, 119, 3, 125, 129, 45, 235, 51, 160, 244, 161, 57, 69, 216, 152, 194, 150, 79, 227, 66, 226, 254, 26, 127, 155, 142, 231, 235, 74, 124, 15, 158, 22, 43, 206, 51, 87, 107, 49, 94, 206, 203, 182, 64, 104, 55, 191, 81, 245, 107, 23, 209, 242, 225, 44, 66, 71, 248, 188, 230, 229, 99, 164, 64, 242, 119, 3, 125, 129, 45, 235, 51, 160, 244, 161, 57, 69, 216, 152, 194, 150, 79, 227, 66, 226, 254, 26, 127, 155, 142, 231, 235, 74, 124, 15, 158, 22, 43, 206, 51, 87, 107, 49, 94, 206, 203, 182, 64, 104, 55, 191, 81, 245, 38, 239, 206, 189, 14, 233, 227, 74, 102, 145, 135, 225, 139, 58, 145, 34, 178, 247, 51, 148, 91, 100, 156, 201, 249, 249, 33, 233, 249, 218, 216, 18, 65, 176, 98, 214, 253, 148, 28, 170, 143, 101, 117, 110, 120, 82, 157, 162, 251, 241, 73, 176, 4, 55, 190, 179, 21, 222, 247, 113, 163, 34, 66, 102], true⟩, { given [] with sec := owned }, by unfold TakesPlain Arrives; decide +kernel⟩,
   ⟨.spi, ⟨1, 0, 0, 0, [2, 0, 0, 0, 0, 0, 0, 0, 0, 0, 0, 0, 0, 0, 0, 0, 0, 0, 0, 0, 0, 0, 0, 0, 0, 0, 0, 0, 0, 0, 0, 0, 0, 0, 0, 0, 0, 0, 0, 0, 0, 0, 0, 0, 0, 0, 0, 0, 0, 0, 0, 0, 0, 0, 0, 0, 0, 0, 0, 0, 0, 0, 0, 0, 0, 0, 0, 0, 0, 0, 0, 0, 0, 0, 0, 0, 0, 0, 0, 0, 0, 0, 0, 0, 0, 0, 0, 0, 0, 0, 0, 0, 0, 0, 0, 0, 0, 0, 0, 0, 0, 0, 0, 0, 0, 0, 0, 0, 0, 0, 0, 0, 0, 0, 0, 0, 0, 0, 0, 0, 0, 0, 0, 0, 0, 0, 0, 0, 0, 0, 0, 0, 0, 0, 0, 0, 0, 0, 0, 0, 0, 0, 0, 0, 0, 0, 0, 0, 0, 0, 0, 0, 0, 0, 0, 0, 0, 0, 0, 0, 0, 0, 0, 0, 0, 0, 0, 0, 0, 0, 0, 0, 0, 0, 0, 0, 0, 0, 0, 0, 0, 0, 0, 0, 0, 0, 0, 0, 0, 0, 0, 0, 0, 0, 0, 0, 0, 0, 0, 0], true⟩, { given [] with sec := owned }, by unfold TakesPlain Arrives; decide +kernel⟩,
   ⟨2, .spi, ⟨1, 0, 0, 0, [3, 0, 0, 0, 9, 0, 0, 0, 3, 0, 0, 0, 2, 0, 11, 0, 0, 0, 12, 0, 0, 0, 107, 23, 209, 242, 225, 44, 66, 71, 248, 188, 230, 229, 99, 164, 64, 242, 119, 3, 125, 129, 45, 235, 51, 160, 244, 161, 57, 69, 216, 152, 194, 150, 79, 227, 66, 226, 254, 26, 127, 155, 142, 231, 235, 74, 124, 15, 158, 22, 43, 206, 51, 87, 107, 49, 94, 206, 203, 182, 64, 104, 55, 191, 81, 245, 38, 239, 206, 189, 14, 233, 227, 74, 102, 145, 135, 225, 139, 58, 145, 34, 178, 247, 51, 148, 91, 100, 156, 201, 249, 249, 33, 233, 249, 218, 216, 18, 45, 243, 17, 31, 197, 166, 162, 220, 60, 254, 242, 196, 53, 234, 23, 12, 86, 163, 6, 184, 135, 184, 165, 99, 217, 191, 196, 37, 25, 134, 112, 134], true⟩, { given [(.CLAIMED, 0, 1)] with sec := owned }, by unfold TakesPlain Arrives; decide +kernel⟩,
   ⟨32, .spi, ⟨1, 0, 0, 0, [3, 0, 0, 0, 0, 0, 0, 0, 0, 0, 0, 0, 32, 0, 0, 0, 0, 0, 0, 0, 0, 0, 0, 0, 0, 0, 0, 0, 0, 0, 0, 0, 0, 0, 0, 0, 0, 0, 0, 0, 0, 0, 0, 0, 0, 0, 0, 0, 0, 0, 0, 0, 0, 0, 0, 0, 0, 0, 0, 0, 0, 0, 0, 0, 0, 0, 0, 0, 0, 0, 0, 0, 0, 0, 0, 0, 0, 0, 0, 0, 0, 0, 0, 0, 0, 0, 0, 0, 0, 0, 0, 0, 0, 0, 0, 0, 0, 0, 0, 0, 0, 0, 0, 0, 0, 0, 0, 0, 0, 0, 0, 0, 0, 0, 0, 0, 0, 0, 0, 0, 0, 0, 0, 0, 0, 0, 0, 0, 0, 0, 0, 0, 0, 0, 0, 0, 0, 0, 0, 0, 0, 0, 0, 0, 0, 0, 0, 0, 0, 0, 0, 0, 0, 0, 0, 0, 0, 0, 0, 0, 0, 0, 0, 0, 0, 0, 0, 0, 0, 0, 0, 0, 0, 0, 0, 0, 0, 0, 0, 0, 0, 0, 0, 0, 0, 0, 0, 0, 0, 0, 0, 0, 0, 0, 0, 0, 0, 0, 0, 0, 0, 0, 0, 0, 0, 0, 0, 0, 0, 0, 0, 0, 0, 0, 0, 0, 0, 0, 0, 0, 0, 0, 0, 0, 0, 0, 0, 0, 0, 0, 0, 0, 0, 0, 0, 0, 0, 0, 0, 0, 0, 0, 0, 0, 0, 0, 0, 0, 0, 0, 0, 0, 0, 0, 0, 0, 0, 0, 0, 0, 0, 0, 0, 0, 0, 0, 0, 0, 0, 0], true⟩, { given [] with sec := owned }, by unfold TakesPlain Arrives; decide +kernel⟩,
   ⟨.spi, ⟨1, 0, 0, 0, [], true⟩, { given [] with sec := owned }, by unfold TakesPlain Arrives; decide +kernel⟩,
   ⟨.spi, ⟨1, 0, 0, 0, [1], true⟩, { given [] with sec := owned }, by unfold TakesPlain Arrives; decide +kernel⟩⟩

theorem witness_StoresAndAudit :
    (∃ (n : Nat) (len : Nat) (path : Path) (r : Request) (s : State), TakesSealed s path r ∧ 2 ≤ s.get .SESS_ROLE 0 ∧ n ≤ 3 ∧ len ≤ 24576 ∧ openText s 0x20 r = some (n :: leBytes 4 len)) ∧
    (∃ (n : Nat) (len : Nat) (path : Path) (r : Request) (s : State), TakesSealed s path r ∧ 2 ≤ s.get .SESS_ROLE 0 ∧ n ≤ 3 ∧ 24576 < len ∧ len < 2 ^ 32 ∧ openText s 0x20 r = some (n :: leBytes 4 len)) ∧
    (∃ (n : Nat) (len : Nat) (b : List Nat) (d : List Nat) (path : Path) (r : Request) (s : State), TakesSealed s path r ∧ 2 ≤ s.get .SESS_ROLE 0 ∧ s.sec.upload = some ⟨false, n, len, b⟩ ∧ b.length < 2 ^ 32 ∧ 1 ≤ d.length ∧ d.length ≤ 1000 ∧ b.length + d.length ≤ len ∧ openText s 0x21 r = some (leBytes 4 b.length ++ d)) ∧
    (∃ (n : Nat) (len : Nat) (b : List Nat) (path : Path) (r : Request) (s : State), TakesSealed s path r ∧ 2 ≤ s.get .SESS_ROLE 0 ∧ s.sec.upload = some ⟨false, n, len, b⟩ ∧ b.length ≠ len ∧ openText s 0x22 r = some []) ∧
    (∃ (t : Nat) (n : Nat) (b : List Nat) (path : Path) (r : Request) (s : State), TakesSealed s path r ∧ 2 ≤ s.get .SESS_ROLE 0 ∧ s.sec.upload = some ⟨false, n, b.length, b⟩ ∧ openText s 0x22 r = some [] ∧ profFault (setUpload (opened (s.atTick t) path r) none) n b true = none) ∧
    (∃ (path : Path) (v : Nat) (s : State), path ≠ .can ∧ s.get .SEQ_DOWN 0 = 0 ∧ 3 < v) ∧
    (∃ (path : Path) (v : Nat) (s : State), path ≠ .can ∧ s.get .SEQ_DOWN 0 = 0 ∧ v ≤ 3 ∧ s.get .PROF_SWITCHING 0 = 1) ∧
    (∃ (path : Path) (v : Nat) (s : State), path ≠ .can ∧ s.get .SEQ_DOWN 0 = 0 ∧ v ≤ 3 ∧ s.get .PROF_SWITCHING 0 = 0 ∧ areaValid s v = false) ∧
    (∃ (path : Path) (v : Nat) (s : State), path ≠ .can ∧ s.get .SEQ_DOWN 0 = 0 ∧ v ≤ 3 ∧ s.get .PROF_SWITCHING 0 = 0 ∧ s.get .PROF_ACTIVE 0 ≠ v ∧ (∀ i < 8, s.kind i ≠ 0) ∧ areaValid s v = true) ∧
    (∃ (len : Nat) (path : Path) (r : Request) (s : State), TakesSealed s path r ∧ 3 ≤ s.get .SESS_ROLE 0 ∧ len ≤ 32768 ∧ openText s 0x24 r = some (leBytes 4 len)) ∧
    (∃ (len : Nat) (path : Path) (r : Request) (s : State), TakesSealed s path r ∧ 3 ≤ s.get .SESS_ROLE 0 ∧ 32768 < len ∧ len < 2 ^ 32 ∧ openText s 0x24 r = some (leBytes 4 len)) ∧
    (∃ (len : Nat) (b : List Nat) (d : List Nat) (path : Path) (r : Request) (s : State), TakesSealed s path r ∧ 3 ≤ s.get .SESS_ROLE 0 ∧ s.sec.upload = some ⟨true, 0, len, b⟩ ∧ b.length < 2 ^ 32 ∧ 1 ≤ d.length ∧ d.length ≤ 1000 ∧ b.length + d.length ≤ len ∧ openText s 0x25 r = some (leBytes 4 b.length ++ d)) ∧
    (∃ (len : Nat) (b : List Nat) (d : List Nat) (path : Path) (r : Request) (s : State), TakesSealed s path r ∧ 3 ≤ s.get .SESS_ROLE 0 ∧ s.sec.upload = some ⟨true, 0, len, b⟩ ∧ b.length < 2 ^ 32 ∧ 1 ≤ d.length ∧ d.length ≤ 1000 ∧ len < b.length + d.length ∧ openText s 0x25 r = some (leBytes 4 b.length ++ d)) ∧
    (∃ (b : List Nat) (path : Path) (r : Request) (s : State), TakesSealed s path r ∧ 3 ≤ s.get .SESS_ROLE 0 ∧ s.sec.upload = some ⟨true, 0, b.length, b⟩ ∧ s.sec.patches.length = 2 ∧ openText s 0x26 r = some [] ∧ patchFault s b = 0) ∧
    (∃ (b : List Nat) (path : Path) (r : Request) (s : State), TakesSealed s path r ∧ 3 ≤ s.get .SESS_ROLE 0 ∧ s.sec.upload = some ⟨true, 0, b.length, b⟩ ∧ s.sec.patches.length = 2 ∧ openText s 0x26 r = some [] ∧ patchFault s b ≠ 0) ∧
    (∃ (path : Path) (r : Request) (s : State), TakesSealed s path r ∧ 3 ≤ s.get .SESS_ROLE 0 ∧ openText s 0x27 r = some [] ∧ patchFault s (patchHalf s (idleHalf s)) = 0 ∧ s.get .SEQ_EPOCH_MOVED 0 = 0) ∧
    (∃ (path : Path) (r : Request) (s : State), TakesSealed s path r ∧ 3 ≤ s.get .SESS_ROLE 0 ∧ openText s 0x27 r = some [] ∧ patchFault s (patchHalf s (idleHalf s)) ≠ 0) ∧
    (∃ (from0 : Nat) (n : Nat) (path : Path) (r : Request) (s : State), TakesSealed s path r ∧ 1 ≤ s.get .SESS_ROLE 0 ∧ from0 < 2 ^ 32 ∧ 1 ≤ n ∧ n ≤ 31 ∧ openText s 0x28 r = some (leBytes 4 from0 ++ [n])) ∧
    (∃ (from0 : Nat) (n : Nat) (path : Path) (r : Request) (s : State), TakesSealed s path r ∧ 1 ≤ s.get .SESS_ROLE 0 ∧ from0 < 2 ^ 32 ∧ (n = 0 ∨ 31 < n) ∧ openText s 0x28 r = some (leBytes 4 from0 ++ [n])) ∧
    (∃ (path : Path) (r : Request) (s : State), TakesSealed s path r ∧ 1 ≤ s.get .SESS_ROLE 0 ∧ openText s 0x29 r = some []) ∧
    (∃ (text : List Nat) (path : Path) (r : Request) (s : State), TakesSealed s path r ∧ 1 ≤ s.get .SESS_ROLE 0 ∧ openText s 0x29 r = some text ∧ text ≠ []) ∧
    (∃ (t : Nat) (s : State), s.get .SVC_TICK 0 + 57600000000 ≤ (s.atTick t).ts) ∧
    (∃ (t : Nat) (s : State), (s.atTick t).ts < s.get .SVC_TICK 0 + 57600000000) :=
  ⟨⟨3, 24576, .spi, ⟨1, 2, 0, 1, [181, 69, 152, 175, 65, 192, 112, 195, 89, 203, 156, 161, 82], true⟩, { given [(.SESS_OPEN, 0, 1), (.SESS_ROLE, 0, 2)] with sec := owned }, by unfold TakesSealed Arrives; decide +kernel⟩,
   ⟨3, 24577, .spi, ⟨1, 2, 0, 1, [181, 68, 152, 175, 65, 30, 4, 182, 86, 9, 43, 166, 177], true⟩, { given [(.SESS_OPEN, 0, 1), (.SESS_ROLE, 0, 2)] with sec := owned }, by unfold TakesSealed Arrives; decide +kernel⟩,
   ⟨0, 2, [8], [9], .spi, ⟨1, 2, 0, 1, [183, 69, 248, 175, 72, 26, 61, 170, 182, 67, 84, 169, 18], true⟩, { given [(.SESS_OPEN, 0, 1), (.SESS_ROLE, 0, 2)] with sec := { owned with upload := some ⟨false, 0, 2, [8]⟩ } }, by unfold TakesSealed Arrives; decide +kernel⟩,
   ⟨0, 1, [], .spi, ⟨1, 2, 0, 1, [234, 221, 125, 169, 237, 130, 64, 173], true⟩, { given [(.SESS_OPEN, 0, 1), (.SESS_ROLE, 0, 2)] with sec := { owned with upload := some ⟨false, 0, 1, []⟩ } }, by unfold TakesSealed Arrives; decide +kernel⟩,
   ⟨0, 0, [4, 0, 1, 0, 0, 0, 0, 0, 6, 0, 0, 0, 0, 0, 0, 0, 0, 0, 0, 0, 0, 0, 0, 0, 0, 0, 0, 0, 0, 0, 0, 0, 0, 0, 0, 0, 0, 0, 0, 0, 0, 0, 0, 0, 0, 0, 0, 0, 107, 23, 209, 242, 225, 44, 66, 71, 248, 188, 230, 229, 99, 164, 64, 242, 119, 3, 125, 129, 45, 235, 51, 160, 244, 161, 57, 69, 216, 152, 194, 150, 79, 227, 66, 226, 254, 26, 127, 155, 142, 231, 235, 74, 124, 15, 158, 22, 43, 206, 51, 87, 107, 49, 94, 206, 203, 182, 64, 104, 55, 191, 81, 245, 38, 239, 206, 189, 14, 233, 227, 74, 102, 145, 135, 225, 139, 58, 145, 34, 178, 247, 51, 148, 91, 100, 156, 201, 249, 249, 33, 233, 249, 218, 216, 18, 171, 199, 32, 189, 54, 199, 253, 4, 3, 152, 159, 76, 254, 58, 108, 159, 6, 8, 44, 68, 107, 252, 79, 4, 73, 1, 73, 10, 215, 44, 50, 78], .spi, ⟨1, 2, 0, 1, [234, 221, 125, 169, 237, 130, 64, 173], true⟩, { given [(.SESS_OPEN, 0, 1), (.SESS_ROLE, 0, 2), (.CLAIMED, 0, 1)] with sec := { owned with upload := some ⟨false, 0, 176, [4, 0, 1, 0, 0, 0, 0, 0, 6, 0, 0, 0, 0, 0, 0, 0, 0, 0, 0, 0, 0, 0, 0, 0, 0, 0, 0, 0, 0, 0, 0, 0, 0, 0, 0, 0, 0, 0, 0, 0, 0, 0, 0, 0, 0, 0, 0, 0, 107, 23, 209, 242, 225, 44, 66, 71, 248, 188, 230, 229, 99, 164, 64, 242, 119, 3, 125, 129, 45, 235, 51, 160, 244, 161, 57, 69, 216, 152, 194, 150, 79, 227, 66, 226, 254, 26, 127, 155, 142, 231, 235, 74, 124, 15, 158, 22, 43, 206, 51, 87, 107, 49, 94, 206, 203, 182, 64, 104, 55, 191, 81, 245, 38, 239, 206, 189, 14, 233, 227, 74, 102, 145, 135, 225, 139, 58, 145, 34, 178, 247, 51, 148, 91, 100, 156, 201, 249, 249, 33, 233, 249, 218, 216, 18, 171, 199, 32, 189, 54, 199, 253, 4, 3, 152, 159, 76, 254, 58, 108, 159, 6, 8, 44, 68, 107, 252, 79, 4, 73, 1, 73, 10, 215, 44, 50, 78]⟩ } }, by unfold TakesSealed Arrives; decide +kernel⟩,
   ⟨.spi, 4, given [(.SEQ_DOWN, 0, 0)], by decide +kernel⟩,
   ⟨.spi, 3, given [(.SEQ_DOWN, 0, 0), (.PROF_SWITCHING, 0, 1)], by decide +kernel⟩,
   ⟨.spi, 3, given [(.SEQ_DOWN, 0, 0), (.PROF_SWITCHING, 0, 0)], by decide +kernel⟩,
   ⟨.spi, 1, { given [(.SEQ_DOWN, 0, 0), (.PROF_SWITCHING, 0, 0), (.CLAIMED, 0, 1)] [(.SLOT_KIND, 0, 1), (.SLOT_KIND, 1, 1), (.SLOT_KIND, 2, 1), (.SLOT_KIND, 3, 1), (.SLOT_KIND, 4, 1), (.SLOT_KIND, 5, 1), (.SLOT_KIND, 6, 1), (.SLOT_KIND, 7, 1)] with sec := { owned with profiles := [ProfileArea.empty, ⟨[4, 0, 1, 0, 0, 0, 0, 0, 6, 0, 0, 0, 0, 0, 0, 0, 0, 0, 0, 0, 0, 0, 0, 0, 0, 0, 0, 0, 0, 0, 0, 0, 0, 0, 0, 0, 0, 0, 0, 0, 0, 0, 0, 0, 0, 0, 0, 0, 107, 23, 209, 242, 225, 44, 66, 71, 248, 188, 230, 229, 99, 164, 64, 242, 119, 3, 125, 129, 45, 235, 51, 160, 244, 161, 57, 69, 216, 152, 194, 150, 79, 227, 66, 226, 254, 26, 127, 155, 142, 231, 235, 74, 124, 15, 158, 22, 43, 206, 51, 87, 107, 49, 94, 206, 203, 182, 64, 104, 55, 191, 81, 245, 38, 239, 206, 189, 14, 233, 227, 74, 102, 145, 135, 225, 139, 58, 145, 34, 178, 247, 51, 148, 91, 100, 156, 201, 249, 249, 33, 233, 249, 218, 216, 18, 171, 199, 32, 189, 54, 199, 253, 4, 3, 152, 159, 76, 254, 58, 108, 159, 6, 8, 44, 68, 107, 252, 79, 4, 73, 1, 73, 10, 215, 44, 50, 78], [], [], [], true, true⟩, ProfileArea.empty, ProfileArea.empty] } }, by decide +kernel⟩,
   ⟨32768, .spi, ⟨1, 2, 0, 1, [182, 197, 248, 175, 53, 169, 127, 14, 147, 89, 33, 138], true⟩, { given [(.SESS_OPEN, 0, 1), (.SESS_ROLE, 0, 3)] with sec := owned }, by unfold TakesSealed Arrives; decide +kernel⟩,
   ⟨32769, .spi, ⟨1, 2, 0, 1, [183, 197, 248, 175, 84, 143, 122, 97, 192, 132, 250, 241], true⟩, { given [(.SESS_OPEN, 0, 1), (.SESS_ROLE, 0, 3)] with sec := owned }, by unfold TakesSealed Arrives; decide +kernel⟩,
   ⟨2, [8], [9], .spi, ⟨1, 2, 0, 1, [183, 69, 248, 175, 72, 114, 52, 2, 118, 127, 246, 73, 75], true⟩, { given [(.SESS_OPEN, 0, 1), (.SESS_ROLE, 0, 3)] with sec := { owned with upload := some ⟨true, 0, 2, [8]⟩ } }, by unfold TakesSealed Arrives; decide +kernel⟩,
   ⟨1, [8], [9], .spi, ⟨1, 2, 0, 1, [183, 69, 248, 175, 72, 114, 52, 2, 118, 127, 246, 73, 75], true⟩, { given [(.SESS_OPEN, 0, 1), (.SESS_ROLE, 0, 3)] with sec := { owned with upload := some ⟨true, 0, 1, [8]⟩ } }, by unfold TakesSealed Arrives; decide +kernel⟩,
   ⟨[5, 0, 1, 3, 2, 0, 1, 0, 0, 0, 0, 0, 227, 176, 196, 66, 152, 252, 28, 20, 154, 251, 244, 200, 153, 111, 185, 36, 39, 174, 65, 228, 100, 155, 147, 76, 164, 149, 153, 27, 120, 82, 184, 85, 38, 239, 206, 189, 14, 233, 227, 74, 102, 145, 135, 225, 139, 58, 145, 34, 178, 247, 51, 148, 91, 100, 156, 201, 249, 249, 33, 233, 249, 218, 216, 18, 13, 14, 2, 91, 10, 104, 34, 111, 244, 32, 186, 145, 175, 75, 148, 30, 209, 48, 24, 196, 225, 89, 211, 84, 56, 237, 101, 216, 89, 208, 223, 183], .spi, ⟨1, 2, 0, 1, [244, 82, 184, 58, 143, 175, 23, 27], true⟩, { given [(.SESS_OPEN, 0, 1), (.SESS_ROLE, 0, 3)] with sec := { owned with upload := some ⟨true, 0, 108, [5, 0, 1, 3, 2, 0, 1, 0, 0, 0, 0, 0, 227, 176, 196, 66, 152, 252, 28, 20, 154, 251, 244, 200, 153, 111, 185, 36, 39, 174, 65, 228, 100, 155, 147, 76, 164, 149, 153, 27, 120, 82, 184, 85, 38, 239, 206, 189, 14, 233, 227, 74, 102, 145, 135, 225, 139, 58, 145, 34, 178, 247, 51, 148, 91, 100, 156, 201, 249, 249, 33, 233, 249, 218, 216, 18, 13, 14, 2, 91, 10, 104, 34, 111, 244, 32, 186, 145, 175, 75, 148, 30, 209, 48, 24, 196, 225, 89, 211, 84, 56, 237, 101, 216, 89, 208, 223, 183]⟩ } }, by unfold TakesSealed Arrives; decide +kernel⟩,
   ⟨[7], .spi, ⟨1, 2, 0, 1, [244, 82, 184, 58, 143, 175, 23, 27], true⟩, { given [(.SESS_OPEN, 0, 1), (.SESS_ROLE, 0, 3)] with sec := { owned with upload := some ⟨true, 0, 1, [7]⟩ } }, by unfold TakesSealed Arrives; decide +kernel⟩,
   ⟨.spi, ⟨1, 2, 0, 1, [107, 191, 64, 136, 87, 167, 237, 24], true⟩, { given [(.SESS_OPEN, 0, 1), (.SESS_ROLE, 0, 3), (.SEQ_EPOCH_MOVED, 0, 0)] with sec := { owned with patches := [[5, 0, 1, 3, 2, 0, 1, 0, 0, 0, 0, 0, 227, 176, 196, 66, 152, 252, 28, 20, 154, 251, 244, 200, 153, 111, 185, 36, 39, 174, 65, 228, 100, 155, 147, 76, 164, 149, 153, 27, 120, 82, 184, 85, 38, 239, 206, 189, 14, 233, 227, 74, 102, 145, 135, 225, 139, 58, 145, 34, 178, 247, 51, 148, 91, 100, 156, 201, 249, 249, 33, 233, 249, 218, 216, 18, 13, 14, 2, 91, 10, 104, 34, 111, 244, 32, 186, 145, 175, 75, 148, 30, 209, 48, 24, 196, 225, 89, 211, 84, 56, 237, 101, 216, 89, 208, 223, 183], []] } }, by unfold TakesSealed Arrives; decide +kernel⟩,
   ⟨.spi, ⟨1, 2, 0, 1, [107, 191, 64, 136, 87, 167, 237, 24], true⟩, { given [(.SESS_OPEN, 0, 1), (.SESS_ROLE, 0, 3)] with sec := owned }, by unfold TakesSealed Arrives; decide +kernel⟩,
   ⟨1, 31, .spi, ⟨1, 2, 0, 1, [183, 69, 248, 175, 94, 203, 77, 137, 53, 88, 205, 53, 226], true⟩, { given [(.SESS_OPEN, 0, 1), (.SESS_ROLE, 0, 1)] with sec := owned }, by unfold TakesSealed Arrives; decide +kernel⟩,
   ⟨1, 32, .spi, ⟨1, 2, 0, 1, [183, 69, 248, 175, 97, 90, 205, 91, 146, 204, 224, 65, 23], true⟩, { given [(.SESS_OPEN, 0, 1), (.SESS_ROLE, 0, 1)] with sec := owned }, by unfold TakesSealed Arrives; decide +kernel⟩,
   ⟨.spi, ⟨1, 2, 0, 1, [58, 230, 195, 27, 83, 131, 122, 56], true⟩, { given [(.SESS_OPEN, 0, 1), (.SESS_ROLE, 0, 1)] with sec := owned }, by unfold TakesSealed Arrives; decide +kernel⟩,
   ⟨[1], .spi, ⟨1, 2, 0, 1, [183, 102, 181, 72, 42, 90, 218, 239, 78], true⟩, { given [(.SESS_OPEN, 0, 1), (.SESS_ROLE, 0, 1)] with sec := owned }, by unfold TakesSealed Arrives; decide +kernel⟩,
   ⟨57600000000, given [], by decide +kernel⟩,
   ⟨0, given [], by decide +kernel⟩⟩

theorem witness_EventsEnterQ11 :
    (∃ (s : State), Sound s ∧ s.dv .QSIZE_LOG2 11 ≤ 13 ∧ s.get .QWR 11 < 2 * s.qSize 11 ∧ s.get .QRD 11 < 2 * s.qSize 11 ∧ s.qFill 11 < s.qSize 11) ∧
    (∃ (s : State), s.qFill 11 = s.qSize 11) :=
  ⟨⟨given [(.QWR, 11, 16383), (.QRD, 11, 16383)] [(.QSIZE_LOG2, 11, 13)], ⟨given_sound _ _, by decide +kernel⟩⟩,
   ⟨given [(.QWR, 11, 1024)], by decide +kernel⟩⟩

theorem witness_ProducersMeetFullQueues :
    (∃ (q : Nat) (s : State), q < 16 ∧ q ≠ 11 ∧ s.qFill q = s.qSize q) ∧
    (∃ (s : State), s.qFill 11 = s.qSize 11) ∧
    (∃ (q : Nat) (ws : List Nat) (s : State), Sound s ∧ q < 16 ∧ s.get .QWMARK q = 0 ∧ s.dv .QSIZE_LOG2 q ≤ 13 ∧ s.get .QWR q < 2 * s.qSize q ∧ s.get .QRD q < 2 * s.qSize q ∧ s.qFill q < s.qSize q ∧ (∀ w ∈ ws, w < 2 ^ 32)) :=
  ⟨⟨15, given [(.QWR, 15, 1024)], by decide +kernel⟩,
   ⟨given [(.QWR, 11, 1024)], by decide +kernel⟩,
   ⟨15, [], given [(.QWMARK, 15, 0), (.QWR, 15, 16383), (.QRD, 15, 16383)] [(.QSIZE_LOG2, 15, 13)], ⟨given_sound _ _, by decide +kernel⟩⟩⟩

theorem witness_GuardCodes :
    (∃ (i : Nat) (data : Nat) (path : RegPath) (s : State), i < 8 ∧ data < 2 ^ 16 ∧ s.getBit .DOM_ON 0 1 = true ∧ (path = .window → s.get .SEQ_DOWN 0 = 0)) :=
  ⟨7, 65535, .spi, given [(.DOM_ON, 0, 4095)], by decide +kernel⟩

end Sys2Proof.Tests
end

section
/-! O10: a write of SLACK_GUARD under the full mask (R31). The value that meets the range check is the written one merged
into the value held (R21, R78). The merge gives the written code wherever the value held fits the field's nine bits, as it
does in every sound state; `Obligations.GuardCodes` also speaks of states whose field holds more, and there it fails. -/

namespace Sys2Proof.Proofs

open Machine Laws

/-! ## Merging under a full mask -/

/-- A full mask writes the whole field, whatever value that fits it was held. -/
theorem mergeMask_full {w old new : Nat} (hold : old < 2 ^ w) (hnew : new < 2 ^ w) : mergeMask old new (2 ^ w - 1) = new := by
  have hx : old ^^^ new < 2 ^ w := Nat.xor_lt_two_pow hold hnew
  unfold mergeMask
  rw [Nat.and_two_pow_sub_one_eq_mod, Nat.mod_eq_of_lt hx, ← Nat.xor_assoc, Nat.xor_self, Nat.zero_xor]

/-! ## The field and its slot -/

/-- The row of SLACK_GUARD in the axis block, for slot `i`. -/
def slackGuardHit (i : Nat) : Hit := ⟨⟨.SLACK_GUARD, 0xF08, 0, 9, .rw, .sw, .motionUpdate, false⟩, i, 0⟩

theorem slotHits_slackGuard {i : Nat} (hi : i < 8) : slotHits (0x030F08 + 0x1000 * i) = [slackGuardHit i] := by
  interval_cases i <;> rfl

/-- The state after the value `v` has been offered to SLACK_GUARD of slot `i`. -/
def guardOffered (s : State) (i v : Nat) : State :=
  if 40 ≤ v ∧ v ≤ 320 then s.put .SLACK_GUARD i v else s.put .GUARD_REJ i 1

theorem fieldWrite_slackGuard (s : State) (path : Nat) (look : Reg → Nat) (i v : Nat) :
    (fieldWrite s path look .SLACK_GUARD i v).1 = guardOffered s i v := by
  have hlacks : auxLacks .SLACK_GUARD i = false := by simp [auxLacks]
  have hok : fieldOk s look .SLACK_GUARD i v = decide (40 ≤ v ∧ v ≤ 320) := rfl
  have hreject : fieldReject s .SLACK_GUARD i = s.put .GUARD_REJ i 1 := rfl
  unfold guardOffered
  by_cases h : 40 ≤ v ∧ v ≤ 320
  · simp [fieldWrite, hlacks, hok, h, fieldRefused, fieldConflict, fieldApply]
  · simp [fieldWrite, hlacks, hok, h, fieldRefused, hreject]

/-- The value that a write of `data` under the full mask offers to SLACK_GUARD of slot `i`. -/
def guardMerged (s : State) (i data : Nat) : Nat := mergeMask (s.get .SLACK_GUARD i) (data % 2 ^ 9) (2 ^ 9 - 1)

theorem guardMerged_of_fits {s : State} {i data : Nat} (h : s.get .SLACK_GUARD i < 2 ^ 9) :
    guardMerged s i data = data % 2 ^ 9 :=
  mergeMask_full h (Nat.mod_lt _ (Nat.two_pow_pos 9))

theorem writeHit_slackGuard (s : State) (path data : Nat) (look : Nat → Reg → Nat) (i : Nat) :
    writeHit path 0xFFFF data look s (slackGuardHit i) = guardOffered s i (guardMerged s i data) := by
  have hdata : ownBits (slackGuardHit i) data = data % 2 ^ 9 := by simp [ownBits, slackGuardHit]
  have hmask : ownBits (slackGuardHit i) 0xFFFF = 2 ^ 9 - 1 := by simp [ownBits, slackGuardHit]
  have hfull : ¬ 0xFFFF &&& hitMask (slackGuardHit i) = 0 := by simp [hitMask, slackGuardHit]
  have hnarrow : isWide (slackGuardHit i).field = false := rfl
  rw [guardMerged, ← hdata, ← hmask, ← fieldWrite_slackGuard s path (look i)]
  simp only [writeHit, hfull, hnarrow]
  simp [slackGuardHit]

/-! ## The command -/

theorem writeWord_slackGuard {s : State} {i data : Nat} (path : Nat) (hi : i < 8) (hdata : data < 2 ^ 16)
    (hdom : s.getBit .DOM_ON 0 1 = true) :
    writeWord s path (0x030F08 + 0x1000 * i) (0xFFFF * 2 ^ 16 + data) = (guardOffered s i (guardMerged s i data), 0) := by
  have hblock : blockDomain (0x030F08 + 0x1000 * i) = some 1 := by interval_cases i <;> rfl
  have hsram : isSram (0x030F08 + 0x1000 * i) = false := by interval_cases i <;> rfl
  have hflash : isFlash (0x030F08 + 0x1000 * i) = false := by interval_cases i <;> rfl
  have hlive : domLive s 1 = true := by simp [domLive, hdom]
  have hmask : (0xFFFF * 2 ^ 16 + data) / 2 ^ 16 % 2 ^ 16 = 0xFFFF := by omega
  have hlow : (0xFFFF * 2 ^ 16 + data) % 2 ^ 16 = data := by omega
  have hsorted : ascending [slackGuardHit i] = [slackGuardHit i] := rfl
  simp only [writeWord, hblock, hlive, hsram, hflash, slotHits_slackGuard hi, hmask, hlow, hsorted, List.foldl,
    writeHit_slackGuard]
  simp [slackGuardHit, writable, hitMask]

/-- Without a hardware change pending at the grant the write is all that happens. -/
theorem writeClash_slackGuard {s : State} {i data : Nat} (path : Nat) (hi : i < 8) (hdata : data < 2 ^ 16)
    (hdom : s.getBit .DOM_ON 0 1 = true) :
    writeClash s path (0x030F08 + 0x1000 * i) (0xFFFF * 2 ^ 16 + data) 0 0 0 =
      (guardOffered s i (guardMerged s i data), 0) := by
  have hclash : ∀ (taken : List (Reg × Nat)) (t : State), clashHit taken 0 0 0 t (slackGuardHit i) = t := by
    intro taken t
    simp [clashHit, slackGuardHit, ownBits]
  simp only [writeClash, writeWord_slackGuard path hi hdata hdom, slotHits_slackGuard hi, List.foldl, hclash]

/-- The answer of a register write changes no field but the result fields of its path. -/
theorem get_ansWrite {path : RegPath} {x : State × Nat} {r : Reg} {i : Nat} (habort : r ≠ .ANS_ABORT)
    (hstat : r ≠ .REG_WIN_STAT) : (ansWrite path x).get r i = x.1.get r i := by
  cases path <;> simp [ansWrite, winStat, habort, hstat]

/-- The state in which a register access is granted: the window is served by the sequencer. -/
def granted (s : State) (path : RegPath) : State := if path = .window then served s else s

theorem viaRegister_granted {s : State} {path : RegPath} (f : State → State) (hseq : path = .window → s.get .SEQ_DOWN 0 = 0) :
    viaRegister s path f = f (granted s path) := by
  cases path
  · simp [viaRegister, granted]
  · simp [viaRegister, granted, State.flag, hseq rfl]

theorem get_granted {s : State} {path : RegPath} {r : Reg} {i : Nat} (hr : r ≠ .SEQ_SERVED) :
    (granted s path).get r i = s.get r i := by
  cases path with
  | spi => rfl
  | window =>
    simp only [granted, served, if_true]
    split
    · rfl
    · exact get_put_reg s hr

theorem exec_registerWrite_slackGuard {i data : Nat} {path : RegPath} {s : State} (hi : i < 8) (hdata : data < 2 ^ 16)
    (hdom : s.getBit .DOM_ON 0 1 = true) (hseq : path = .window → s.get .SEQ_DOWN 0 = 0) :
    exec (.registerWrite path (0x030F08 + 0x1000 * i) (0xFFFF * 2 ^ 16 + data) 0 0 0) s =
      .next (ansWrite path (guardOffered (granted s path) i (guardMerged s i data), 0)) := by
  have hdom' : (granted s path).getBit .DOM_ON 0 1 = true := by
    rw [State.getBit, get_granted (by decide)]
    exact hdom
  have hmerged : guardMerged (granted s path) i data = guardMerged s i data := by
    rw [guardMerged, guardMerged, get_granted (by decide)]
  change execRegisterWrite path _ _ 0 0 0 s = _
  rw [execRegisterWrite, viaRegister_granted _ hseq, writeClash_slackGuard _ hi hdata hdom', hmerged]

/-- A write of SLACK_GUARD under the full mask, in any state: R31's range check meets the merged value. -/
theorem registerWrite_slackGuard {i data : Nat} {path : RegPath} {s : State} (hi : i < 8) (hdata : data < 2 ^ 16)
    (hdom : s.getBit .DOM_ON 0 1 = true) (hseq : path = .window → s.get .SEQ_DOWN 0 = 0) :
    Completes (.registerWrite path (0x030F08 + 0x1000 * i) (0xFFFF * 2 ^ 16 + data) 0 0 0) s fun u =>
      (40 ≤ guardMerged s i data → guardMerged s i data ≤ 320 →
        u.get .SLACK_GUARD i = guardMerged s i data ∧ u.get .GUARD_REJ i = s.get .GUARD_REJ i) ∧
      (guardMerged s i data < 40 ∨ 320 < guardMerged s i data →
        u.get .SLACK_GUARD i = s.get .SLACK_GUARD i ∧ u.get .GUARD_REJ i = 1) := by
  refine next_completes (exec_registerWrite_slackGuard hi hdata hdom hseq) ⟨fun hlo hhi => ?_, fun hout => ?_⟩
  · have hfit : guardMerged s i data < 2 ^ 9 := by omega
    simp [get_ansWrite, guardOffered, hlo, hhi, get_granted, trunc_of_lt hfit]
  · have hno : ¬(40 ≤ guardMerged s i data ∧ guardMerged s i data ≤ 320) := by omega
    simp [get_ansWrite, guardOffered, hno, get_granted, trunc]

/-! ## The rule in states whose field fits, and where it fails -/

/-- R31 over the sound states: the statement `Obligations.GuardCodes` with that premise. -/
theorem guardCodes_of_sound :
    (∀ i < 8, State.reset.get .SLACK_GUARD i = 80 ∧ State.reset.dv .SLACK_GUARD i = 80) ∧
    (∀ (i data : Nat) (path : RegPath) (s : State), Sound s → i < 8 → data < 2 ^ 16 → s.getBit .DOM_ON 0 1 = true →
      (path = .window → s.get .SEQ_DOWN 0 = 0) →
      Completes (.registerWrite path (0x030F08 + 0x1000 * i) (0xFFFF * 2 ^ 16 + data) 0 0 0) s fun u =>
        (40 ≤ data % 512 → data % 512 ≤ 320 → u.get .SLACK_GUARD i = data % 512 ∧ u.get .GUARD_REJ i = s.get .GUARD_REJ i) ∧
        (data % 512 < 40 ∨ 320 < data % 512 → u.get .SLACK_GUARD i = s.get .SLACK_GUARD i ∧ u.get .GUARD_REJ i = 1)) := by
  refine ⟨fun i _ => ⟨rfl, rfl⟩, fun i data path s hs hi hdata hdom hseq => ?_⟩
  have hmerged : guardMerged s i data = data % 512 := guardMerged_of_fits (get_lt hs (by decide : 80 < 2 ^ 9))
  simpa only [hmerged] using registerWrite_slackGuard hi hdata hdom hseq

/-- The motion domain is on, and SLACK_GUARD of slot 0 holds its reset value 80 with bit 9 set beyond the field's nine bits. -/
def overwideGuard : State := { State.reset with regs := [(Reg.key .DOM_ON 0, 2), (Reg.key .SLACK_GUARD 0, 592)] }

theorem overwideGuard_get : overwideGuard.get .SLACK_GUARD 0 = 592 := by decide

theorem not_sound_overwideGuard : ¬ Sound overwideGuard := by
  intro hs
  have hfit : overwideGuard.get .SLACK_GUARD 0 < 2 ^ 9 := get_lt hs (by decide : 80 < 2 ^ 9)
  rw [overwideGuard_get] at hfit
  exact absurd hfit (by decide)

/-- Refutes O10: nothing in the statement asks that the value held fits its field. In `overwideGuard` the write of code 100
under the full mask replaces the nine bits of the field alone, so the range check meets 612, rejects it, and SLACK_GUARD
keeps 592 where the statement says 100. The state is not sound (`not_sound_overwideGuard`), and in every sound state the
rule holds (`guardCodes_of_sound`). -/
theorem not_guardCodes : ¬ Obligations.GuardCodes := by
  unfold Obligations.GuardCodes
  rintro ⟨-, hwrite⟩
  have hdom : overwideGuard.getBit .DOM_ON 0 1 = true := by decide
  have hmerged : guardMerged overwideGuard 0 100 = 612 := by rw [guardMerged, overwideGuard_get]; decide
  obtain ⟨u, hu, htaken, -⟩ := hwrite 0 100 .spi overwideGuard (by decide) (by decide) hdom nofun
  obtain ⟨u', hu', -, hkept⟩ := registerWrite_slackGuard (path := .spi) (data := 100) (by decide : 0 < 8) (by decide) hdom nofun
  obtain rfl : u = u' := Host.Outcome.next.inj (hu.symm.trans hu')
  obtain ⟨h100, -⟩ := htaken (by decide) (by decide)
  obtain ⟨h592, -⟩ := hkept (by rw [hmerged]; decide)
  rw [h100, overwideGuard_get] at h592
  exact absurd h592 (by decide)

end Sys2Proof.Proofs
end

section
/-! O11, O12: what a reset from a pin or a supply leaves of the port map and of the engine map (R93, R100). All four run
`deviceReset` with a cause of their own, and it leaves both maps at their reset values. -/

namespace Sys2Proof.Proofs

open Machine Laws

/-! ## The fields after a reset -/

/-- The fields a reset writes: those it keeps or sets, and the heartbeat flags of the D-dies. -/
def resetWrites : List Reg := .HB_SEEN :: resetKeeps

/-- Every field a reset does not write, and every developed copy, is at its reset value. -/
structure AtDefaults (u : State) : Prop where
  get : ∀ r i, r ∉ resetWrites → u.get r i = r.reset i
  dv : ∀ r i, u.dv r i = r.reset i

theorem keptRegs_written : ∀ x ∈ keptRegs, x.1 ∈ resetWrites := by
  simp only [keptRegs, List.forall_mem_append, List.forall_mem_map, List.forall_mem_flatMap, List.forall_mem_cons,
    List.not_mem_nil, false_imp_iff, implies_true, and_true]
  decide

/-- A fold keeps a field that each of its steps keeps. -/
theorem get_foldl_of_mem {α : Type} {f : State → α → State} {l : List α} {r : Reg} {i : Nat} (s : State)
    (h : ∀ x ∈ l, ∀ t, (f t x).get r i = t.get r i) : (l.foldl f s).get r i = s.get r i :=
  List.foldlRecOn l f (motive := fun t => t.get r i = s.get r i) rfl fun t ht x hx => (h x hx t).trans ht

theorem get_deviceReset {s : State} {cause others profsel : Nat} {manager : Bool} {r : Reg} {i : Nat}
    (h : r ∉ resetWrites) : (deviceReset s cause others profsel manager).get r i = r.reset i := by
  have hne : ∀ q ∈ resetWrites, r ≠ q := fun q hq e => h (e ▸ hq)
  unfold deviceReset
  iterate 8 rw [get_put_reg _ (hne _ (by decide))]
  rw [get_foldl_of_mem _ fun p _ t => get_put_reg t (hne .DIE_SHORT (by decide)),
    get_foldl_of_mem _ fun x hx t => get_put_reg t (hne x.1 (keptRegs_written x hx))]
  rfl

theorem dv_deviceReset {s : State} {cause others profsel : Nat} {manager : Bool} {r : Reg} {i : Nat} :
    (deviceReset s cause others profsel manager).dv r i = r.reset i := by
  unfold deviceReset
  iterate 8 rw [dv_put]
  refine (dv_fold ?_).trans ((dv_fold ?_).trans rfl)
  · exact fun t p => dv_put t
  · exact fun t x => dv_put t

theorem atDefaults_deviceReset (s : State) (cause others profsel : Nat) (manager : Bool) :
    AtDefaults (deviceReset s cause others profsel manager) :=
  ⟨fun _ _ h => get_deviceReset h, fun _ _ => dv_deviceReset⟩

/-- What holds wherever the fields are at their defaults, every reset from a pin or a supply establishes. -/
theorem completes_of_atDefaults {others : Nat} {profsel : Fin 4} {manager : Bool} {s : State} {effect : State → Prop}
    (h : ∀ u, AtDefaults u → effect u) :
    ∀ c ∈ [Instr.powerOnReset others profsel manager, .vcoreBrownOut others profsel manager,
      .vioBrownOut others profsel manager, .resetn others profsel manager], Completes c s effect := by
  have hreset : ∀ cause, effect (deviceReset s cause others profsel manager) :=
    fun cause => h _ (atDefaults_deviceReset s cause others profsel manager)
  simp only [List.forall_mem_cons]
  exact ⟨next_completes rfl (hreset 0), next_completes rfl (hreset 1), next_completes rfl (hreset 2),
    next_completes rfl (hreset 3), nofun⟩

section Maps

variable {u : State} (h : AtDefaults u)
include h

/-! ## The port map -/

theorem portRole_default (p : Nat) : u.get .PORT_ROLE p = p / 4 * 0x10 + p % 4 := h.get .PORT_ROLE p (by decide)

theorem portRoleDev_default (p : Nat) : u.get .PORT_ROLE_DEV p = p / 4 * 0x10 + p % 4 :=
  h.get .PORT_ROLE_DEV p (by decide)

theorem portOwner_default {p : Nat} (hp : p < 32) : u.portOwner p = p / 4 := by
  rw [State.portOwner, portRoleDev_default h, roleOwner]
  omega

theorem portFunc_default (p : Nat) : u.get .PORT_ROLE_DEV p % 16 = p % 4 := by
  rw [portRoleDev_default h]
  omega

/-- Slot `i` owns the four ports from `4 * i` on. -/
theorem slotPorts_default {i : Nat} (hi : i < 8) : u.slotPorts i = [4 * i, 4 * i + 1, 4 * i + 2, 4 * i + 3] := by
  have howner : u.slotPorts i = (List.range 32).filter fun p => p / 4 == i :=
    List.filter_congr fun p hp => by rw [portOwner_default h (List.mem_range.mp hp)]
  have hquads : ∀ j < 8, ((List.range 32).filter fun p => p / 4 == j) = [4 * j, 4 * j + 1, 4 * j + 2, 4 * j + 3] := by decide
  rw [howner, hquads i hi]

/-- Winding A of slot `i` is on its first two ports. -/
theorem windingA_default {i : Nat} (hi : i < 8) :
    (u.slotPorts i).filter (fun p => u.get .PORT_ROLE_DEV p % 16 < 2) = [4 * i, 4 * i + 1] := by
  simp [slotPorts_default h hi, portFunc_default h]

/-- Winding B of slot `i` is on its last two ports. -/
theorem windingB_default {i : Nat} (hi : i < 8) :
    (u.slotPorts i).filter (fun p => 2 ≤ u.get .PORT_ROLE_DEV p % 16) = [4 * i + 2, 4 * i + 3] := by
  simp [slotPorts_default h hi, portFunc_default h]

theorem slotKind_default (i : Nat) : u.get .SLOT_KIND i = 1 ∧ u.kind i = 1 :=
  ⟨h.get .SLOT_KIND i (by decide), h.dv .SLOT_KIND i⟩

/-! ## The engine map -/

theorem slotEngine_default {i : Nat} (hi : i < 8) : u.get .SLOT_ENGINE i = if i < 4 then i else i + 1 := by
  have htable : Reg.reset .SLOT_ENGINE i = [0, 1, 2, 3, 5, 6, 7, 8].getD i 15 := rfl
  rw [h.get .SLOT_ENGINE i (by decide), htable]
  interval_cases i <;> rfl

theorem alive_default (e : Nat) : u.getBit .DEAD_MAP 0 e = false := by
  have hnone : u.get .DEAD_MAP 0 = 0 := h.get .DEAD_MAP 0 (by decide)
  simp [State.getBit, hnone, bit]

/-- The spare pool: E4 and E9 alone host no slot. -/
theorem hosted_default {e : Nat} (he : e < 10) : hosted u e = [] ↔ e = 4 ∨ e = 9 := by
  have hspare : ∀ e < 10, (∀ i < 8, (if i < 4 then i else i + 1) ≠ e) ↔ e = 4 ∨ e = 9 := by decide
  rw [← hspare e he, hosted, idsWhere, List.filter_eq_nil_iff]
  simp only [List.mem_range, beq_iff_eq]
  exact forall₂_congr fun i hi => by rw [slotEngine_default h hi]

end Maps

/-! ## The obligations -/

/-- Settles O11: the default roles give each slot its own four ports, two for each winding. -/
theorem defaultMap : Obligations.DefaultMap := by
  unfold Obligations.DefaultMap
  intro others profsel manager s
  refine completes_of_atDefaults fun u h => ⟨fun p hp => ?_, fun i _ => slotKind_default h i, fun i hi => ?_⟩
  · exact ⟨portRole_default h p, portRoleDev_default h p, portOwner_default h hp, portFunc_default h p⟩
  · exact ⟨windingA_default h hi, windingB_default h hi⟩

/-- Settles O12: the eight slots take all engines but E4 and E9, and no engine is marked dead. -/
theorem engineMap : Obligations.EngineMap := by
  unfold Obligations.EngineMap
  intro others profsel manager s
  refine completes_of_atDefaults fun u h => ⟨fun i hi => slotEngine_default h hi, fun e he => ?_, rfl, rfl⟩
  simp only [alive_default h e, and_true, hosted_default h he]

end Sys2Proof.Proofs
end

section
/-! O1 to O7: the rules of the whole machine. What every update inside a command's footprint keeps, the command keeps
(`keep_writes`), so frames and the rise of the time-stamp need no unfolding of any command. -/

namespace Sys2Proof.Proofs

open Machine Laws

/-! ## Footprints and masks -/

theorem rbits_land_rall (l : List Reg) : Nat.land (rbits l) rall = rbits l := by
  show rbits l &&& rall = rbits l
  induction l with
  | nil => rfl
  | cons r l ih =>
    have hr : rbit r &&& rall = rbit r := by
      refine Nat.eq_of_testBit_eq fun k => ?_
      rw [Nat.testBit_and]
      by_cases hk : k = r.ctorIdx
      · rw [hk, testBit_rall, Bool.and_true]
      · have hoff : (rbit r).testBit k = false := by
          show (1 <<< r.ctorIdx).testBit k = false
          rw [Nat.one_shiftLeft, Nat.testBit_two_pow]
          exact decide_eq_false (Ne.symm hk)
        rw [hoff, Bool.false_and]
    have hcons : rbits (r :: l) = rbit r ||| rbits l := rfl
    rw [hcons, Nat.and_or_distrib_right, hr, ih]

theorem partBits_land (l : List Part) : Nat.land (partBits l) 0x17ff = partBits l := by
  show partBits l &&& 0x17ff = partBits l
  induction l with
  | nil => rfl
  | cons p l ih =>
    have hp : partBit p &&& 0x17ff = partBit p := by cases p <;> rfl
    have hcons : partBits (p :: l) = partBit p ||| partBits l := rfl
    rw [hcons, Nat.and_or_distrib_right, hp, ih]

/-- No footprint has the bit of a reset. -/
theorem maskOf_le (f : Footprint) : (Laws.maskOf f).le ⟨rall, rall, 0x17ff⟩ = true := by
  have hand : ∀ (b : Bool) (l : List Reg), Nat.land (if b then rall else rbits l) rall = if b then rall else rbits l := by
    intro b l
    cases b
    · exact rbits_land_rall l
    · exact Nat.and_self rall
  simp only [Laws.maskOf, Mask.le, hand, partBits_land, Bool.and_eq_true]
  exact ⟨⟨Nat.beq_refl _, Nat.beq_refl _⟩, Nat.beq_refl _⟩

/-- A command keeps whatever every update inside the mask of its footprint keeps. -/
theorem keep_writes {P : State → Prop} {c : Instr} {f : Footprint} {s : State} (hf : c.writes = some f)
    (hk : Kept (Laws.maskOf f) P) (hs : P s) : KeepsOut P (exec c s) := by
  cases c with
  | powerOnReset => cases hf
  | vcoreBrownOut => cases hf
  | vioBrownOut => cases hf
  | resetn => cases hf
  | devReset => cases hf
  | bootTimebaseLock => cases hf; exact keep_execBootTimebaseLock hk.le hs
  | crystalLossWait => cases hf; exact keep_execCrystalLossWait hk.le hs
  | bootRom => cases hf; exact keep_execBootRom hk.le hs
  | bootPatch => cases hf; exact keep_execBootPatch hk.le hs
  | bootProfile => cases hf; exact keep_execBootProfile hk.le hs
  | vanaReady => cases hf; exact keep_execVanaReady hk.le hs
  | bootCalibration => cases hf; exact keep_execBootCalibration hk.le hs
  | bootBist => cases hf; exact keep_execBootBist hk.le hs
  | bootBankRelease => cases hf; exact keep_execBootBankRelease hk.le hs
  | bootDone => cases hf; exact keep_execBootDone hk.le hs
  | tbApply => cases hf; exact keep_execTbApply hk.le hs
  | timebaseLoss => cases hf; exact keep_execTimebaseLoss hk.le hs
  | timebaseRestart => cases hf; exact keep_execTimebaseRestart hk.le hs
  | statusTick => cases hf; exact keep_execStatusTick hk.le hs
  | delaylineCalibration => cases hf; exact keep_execDelaylineCalibration hk.le hs
  | ddieWatchdogExpiry => cases hf; exact keep_execDdieWatchdogExpiry hk.le hs
  | ddieRelease => cases hf; exact keep_execDdieRelease hk.le hs
  | spiCommandHeader => cases hf; exact keep_execSpiCommandHeader hk.le hs
  | spiWriteWord => cases hf; exact keep_execSpiWriteWord hk.le hs
  | spiReadWord => cases hf; exact keep_execSpiReadWord hk.le hs
  | spiFrameEnd => cases hf; exact keep_execSpiFrameEnd hk.le hs
  | registerWrite => cases hf; exact keep_execRegisterWrite hk.le hs
  | wideLowWordRead => cases hf; exact keep_execWideLowWordRead hk.le hs
  | wideHighWordWrite => cases hf; exact keep_execWideHighWordWrite hk.le hs
  | regWinDataRead => cases hf; exact keep_execRegWinDataRead hk.le hs
  | regWinDataWrite => cases hf; exact keep_execRegWinDataWrite hk.le hs
  | regWinBlockRead => cases hf; exact keep_execRegWinBlockRead hk.le hs
  | regWinBlockWrite => cases hf; exact keep_execRegWinBlockWrite hk.le hs
  | objectWrite => cases hf
  | slackMinClr => cases hf; exact keep_execSlackMinClr hk.le hs
  | engineCycle => cases hf; exact keep_execEngineCycle hk.le hs
  | slackFullRateReturn => cases hf; exact keep_execSlackFullRateReturn hk.le hs
  | deadlineMissStrip => cases hf; exact keep_execDeadlineMissStrip hk.le hs
  | deadlineMissMigration => cases hf; exact keep_execDeadlineMissMigration hk.le hs
  | tagWaitRelease => cases hf; exact keep_execTagWaitRelease hk.le hs
  | helperResult => cases hf; exact keep_execHelperResult hk.le hs
  | tagReclaim => cases hf; exact keep_execTagReclaim hk.le hs
  | epochDeferredAdvance => cases hf; exact keep_execEpochDeferredAdvance hk.le hs
  | sramScrub => cases hf; exact keep_execSramScrub hk.le hs
  | qwrWrite => cases hf; exact keep_execQwrWrite hk.le hs
  | qrdWrite => cases hf; exact keep_execQrdWrite hk.le hs
  | qreset => cases hf; exact keep_execQreset hk.le hs
  | portmapApply => cases hf; exact keep_execPortmapApply hk.le hs
  | portmapSetDevelop => cases hf; exact keep_execPortmapSetDevelop hk.le hs
  | segWrite => cases hf; exact keep_execSegWrite hk.le hs
  | segPdoEnqueue => cases hf; exact keep_execSegPdoEnqueue hk.le hs
  | segRestart => cases hf; exact keep_execSegRestart hk.le hs
  | segmentStartActions => cases hf; exact keep_execSegmentStartActions hk.le hs
  | accGo => cases hf; exact keep_execAccGo hk.le hs
  | syncTimeout => cases hf; exact keep_execSyncTimeout hk.le hs
  | modeChange => cases hf; exact keep_execModeChange hk.le hs
  | newSetPoint => cases hf; exact keep_execNewSetPoint hk.le hs
  | syncReceived => cases hf; exact keep_execSyncReceived hk.le hs
  | csLoss => cases hf; exact keep_execCsLoss hk.le hs
  | enableInterpolation => cases hf; exact keep_execEnableInterpolation hk.le hs
  | halt => cases hf; exact keep_execHalt hk.le hs
  | haltRelease => cases hf; exact keep_execHaltRelease hk.le hs
  | limitSwitchEdge => cases hf; exact keep_execLimitSwitchEdge hk.le hs
  | homeSwitchEdge => cases hf; exact keep_execHomeSwitchEdge hk.le hs
  | indexEdge => cases hf; exact keep_execIndexEdge hk.le hs
  | homingStart => cases hf; exact keep_execHomingStart hk.le hs
  | homingChatter => cases hf; exact keep_execHomingChatter hk.le hs
  | homingDistance => cases hf; exact keep_execHomingDistance hk.le hs
  | homingNoIndex => cases hf; exact keep_execHomingNoIndex hk.le hs
  | stepEdge => cases hf; exact keep_execStepEdge hk.le hs
  | sfRestart => cases hf; exact keep_execSfRestart hk.le hs
  | curSenseLost => cases hf; exact keep_execCurSenseLost hk.le hs
  | busFfStale => cases hf; exact keep_execBusFfStale hk.le hs
  | highDutyExit => cases hf; exact keep_execHighDutyExit hk.le hs
  | standstillReduction => cases hf; exact keep_execStandstillReduction hk.le hs
  | openWinding => cases hf; exact keep_execOpenWinding hk.le hs
  | curSumErr => cases hf; exact keep_execCurSumErr hk.le hs
  | stallDetected => cases hf; exact keep_execStallDetected hk.le hs
  | stallFault => cases hf; exact keep_execStallFault hk.le hs
  | dcProbeStart => cases hf; exact keep_execDcProbeStart hk.le hs
  | daxisProbeStart => cases hf; exact keep_execDaxisProbeStart hk.le hs
  | probeComplete => cases hf; exact keep_execProbeComplete hk.le hs
  | vwCal => cases hf; exact keep_execVwCal hk.le hs
  | periodStart => cases hf; exact keep_execPeriodStart hk.le hs
  | loadAll => cases hf; exact keep_execLoadAll hk.le hs
  | groupWrite => cases hf; exact keep_execGroupWrite hk.le hs
  | pwmEnWrite => cases hf; exact keep_execPwmEnWrite hk.le hs
  | shortCircuitTrip => cases hf; exact keep_execShortCircuitTrip hk.le hs
  | tripnActive => cases hf; exact keep_execTripnActive hk.le hs
  | tripLatch => cases hf; exact keep_execTripLatch hk.le hs
  | tripClr => cases hf; exact keep_execTripClr hk.le hs
  | pwmEventFire => cases hf; exact keep_execPwmEventFire hk.le hs
  | trigoPulseEnd => cases hf; exact keep_execTrigoPulseEnd hk.le hs
  | interlockTimeout => cases hf; exact keep_execInterlockTimeout hk.le hs
  | gdClr => cases hf; exact keep_execGdClr hk.le hs
  | legTestResult => cases hf; exact keep_execLegTestResult hk.le hs
  | ilkMaxClr => cases hf; exact keep_execIlkMaxClr hk.le hs
  | gdApply => cases hf; exact keep_execGdApply hk.le hs
  | vdrvLockout => cases hf; exact keep_execVdrvLockout hk.le hs
  | vdrvLockoutRelease => cases hf; exact keep_execVdrvLockoutRelease hk.le hs
  | ddieBankRelease => cases hf; exact keep_execDdieBankRelease hk.le hs
  | bootstrapLockout => cases hf; exact keep_execBootstrapLockout hk.le hs
  | bootstrapUvFault => cases hf; exact keep_execBootstrapUvFault hk.le hs
  | vbusReading => cases hf; exact keep_execVbusReading hk.le hs
  | busStale => cases hf; exact keep_execBusStale hk.le hs
  | busCoast => cases hf; exact keep_execBusCoast hk.le hs
  | coastEnd => cases hf; exact keep_execCoastEnd hk.le hs
  | rtStop => cases hf; exact keep_execRtStop hk.le hs
  | hardOvervoltage => cases hf; exact keep_execHardOvervoltage hk.le hs
  | ovStopBathEnd => cases hf; exact keep_execOvStopBathEnd hk.le hs
  | dieOverTemperature => cases hf; exact keep_execDieOverTemperature hk.le hs
  | hsHoldExpiry => cases hf; exact keep_execHsHoldExpiry hk.le hs
  | sbStillExpiry => cases hf; exact keep_execSbStillExpiry hk.le hs
  | sbCmd => cases hf; exact keep_execSbCmd hk.le hs
  | shutdown => cases hf; exact keep_execShutdown hk.le hs
  | switchOn => cases hf; exact keep_execSwitchOn hk.le hs
  | enableOperation => cases hf; exact keep_execEnableOperation hk.le hs
  | disableOperation => cases hf; exact keep_execDisableOperation hk.le hs
  | quickStop => cases hf; exact keep_execQuickStop hk.le hs
  | disableVoltage => cases hf; exact keep_execDisableVoltage hk.le hs
  | faultReset => cases hf; exact keep_execFaultReset hk.le hs
  | encoderEdge => cases hf; exact keep_execEncoderEdge hk.le hs
  | hallEdge => cases hf; exact keep_execHallEdge hk.le hs
  | encFault => cases hf; exact keep_execEncFault hk.le hs
  | encPosPreset => cases hf; exact keep_execEncPosPreset hk.le hs
  | speedWindowEnd => cases hf; exact keep_execSpeedWindowEnd hk.le hs
  | stillDetected => cases hf; exact keep_execStillDetected hk.le hs
  | encAligned => cases hf; exact keep_execEncAligned hk.le hs
  | followError => cases hf; exact keep_execFollowError hk.le hs
  | encFaultClr => cases hf; exact keep_execEncFaultClr hk.le hs
  | encAlign => cases hf; exact keep_execEncAlign hk.le hs
  | capArm => cases hf; exact keep_execCapArm hk.le hs
  | csShoot => cases hf; exact keep_execCsShoot hk.le hs
  | csCancel => cases hf; exact keep_execCsCancel hk.le hs
  | contactSheetFire => cases hf; exact keep_execContactSheetFire hk.le hs
  | conversionResult => cases hf; exact keep_execConversionResult hk.le hs
  | injectedConversionStart => cases hf; exact keep_execInjectedConversionStart hk.le hs
  | xportMonitorSample => cases hf; exact keep_execXportMonitorSample hk.le hs
  | converterCheck => cases hf; exact keep_execConverterCheck hk.le hs
  | converterRetirement => cases hf; exact keep_execConverterRetirement hk.le hs
  | selfCalibrationDone => cases hf; exact keep_execSelfCalibrationDone hk.le hs
  | converterReturn => cases hf; exact keep_execConverterReturn hk.le hs
  | periodicCalibrationDue => cases hf; exact keep_execPeriodicCalibrationDue hk.le hs
  | calibrationDeferredStart => cases hf; exact keep_execCalibrationDeferredStart hk.le hs
  | calStart => cases hf; exact keep_execCalStart hk.le hs
  | syscalZero => cases hf; exact keep_execSyscalZero hk.le hs
  | syscalRef => cases hf; exact keep_execSyscalRef hk.le hs
  | syscalAverageDone => cases hf; exact keep_execSyscalAverageDone hk.le hs
  | thermalScanDue => cases hf; exact keep_execThermalScanDue hk.le hs
  | scanResult => cases hf; exact keep_execScanResult hk.le hs
  | thmNoScan => cases hf; exact keep_execThmNoScan hk.le hs
  | thmSuspect => cases hf; exact keep_execThmSuspect hk.le hs
  | thmFailed => cases hf; exact keep_execThmFailed hk.le hs
  | thmSubstitute => cases hf; exact keep_execThmSubstitute hk.le hs
  | thmRecovered => cases hf; exact keep_execThmRecovered hk.le hs
  | snsEnWrite => cases hf; exact keep_execSnsEnWrite hk.le hs
  | thrHoldExpiry => cases hf; exact keep_execThrHoldExpiry hk.le hs
  | budgetEvaluation => cases hf; exact keep_execBudgetEvaluation hk.le hs
  | testStripStart => cases hf; exact keep_execTestStripStart hk.le hs
  | stripComplete => cases hf; exact keep_execStripComplete hk.le hs
  | voteReplayDone => cases hf; exact keep_execVoteReplayDone hk.le hs
  | engineBistDone => cases hf; exact keep_execEngineBistDone hk.le hs
  | noPostPortsOff => cases hf; exact keep_execNoPostPortsOff hk.le hs
  | migrate => cases hf; exact keep_execMigrate hk.le hs
  | migrationCutover => cases hf; exact keep_execMigrationCutover hk.le hs
  | coldTakeover => cases hf; exact keep_execColdTakeover hk.le hs
  | domainRestart => cases hf; exact keep_execDomainRestart hk.le hs
  | domainRestartDone => cases hf; exact keep_execDomainRestartDone hk.le hs
  | seqRestart => cases hf; exact keep_execSeqRestart hk.le hs
  | sequencerWatchdog => cases hf; exact keep_execSequencerWatchdog hk.le hs
  | sequencerRestartDone => cases hf; exact keep_execSequencerRestartDone hk.le hs
  | canBusOff => cases hf; exact keep_execCanBusOff hk.le hs
  | canSilenceTimeout => cases hf; exact keep_execCanSilenceTimeout hk.le hs
  | canBusRestored => cases hf; exact keep_execCanBusRestored hk.le hs
  | linkEnumeration => cases hf; exact keep_execLinkEnumeration hk.le hs
  | linkRestart => cases hf; exact keep_execLinkRestart hk.le hs
  | enumerationFrame => cases hf; exact keep_execEnumerationFrame hk.le hs
  | linkCycleStart => cases hf; exact keep_execLinkCycleStart hk.le hs
  | cycleFrame => cases hf; exact keep_execCycleFrame hk.le hs
  | cycleFrameReturn => cases hf; exact keep_execCycleFrameReturn hk.le hs
  | roundTripProbe => cases hf; exact keep_execRoundTripProbe hk.le hs
  | workerLocked => cases hf; exact keep_execWorkerLocked hk.le hs
  | linkLaneDown => cases hf; exact keep_execLinkLaneDown hk.le hs
  | linkLaneUp => cases hf; exact keep_execLinkLaneUp hk.le hs
  | workerSelfFence => cases hf; exact keep_execWorkerSelfFence hk.le hs
  | managerFence => cases hf; exact keep_execManagerFence hk.le hs
  | workerRejoin => cases hf; exact keep_execWorkerRejoin hk.le hs
  | ringSheet => cases hf; exact keep_execRingSheet hk.le hs
  | ringSheetDone => cases hf; exact keep_execRingSheetDone hk.le hs
  | tunnelTransfer => cases hf; exact keep_execTunnelTransfer hk.le hs
  | tunnelTimeout => cases hf; exact keep_execTunnelTimeout hk.le hs
  | nmtStart => cases hf; exact keep_execNmtStart hk.le hs
  | nmtStop => cases hf; exact keep_execNmtStop hk.le hs
  | nmtEnterPreOperational => cases hf; exact keep_execNmtEnterPreOperational hk.le hs
  | nmtResetCommunication => cases hf; exact keep_execNmtResetCommunication hk.le hs
  | nmtResetNode => cases hf; exact keep_execNmtResetNode hk.le hs
  | resetNodeReload => cases hf; exact keep_execResetNodeReload hk.le hs
  | lssSwitchState => cases hf; exact keep_execLssSwitchState hk.le hs
  | lssConfigureNodeId => cases hf; exact keep_execLssConfigureNodeId hk.le hs
  | lssConfigureBitTiming => cases hf; exact keep_execLssConfigureBitTiming hk.le hs
  | lssActivateBitTiming => cases hf; exact keep_execLssActivateBitTiming hk.le hs
  | lssStoreConfiguration => cases hf; exact keep_execLssStoreConfiguration hk.le hs
  | lssInquire => cases hf; exact keep_execLssInquire hk.le hs
  | lssIdentify => cases hf; exact keep_execLssIdentify hk.le hs
  | rpdoReceived => cases hf; exact keep_execRpdoReceived hk.le hs
  | timeReceived => cases hf; exact keep_execTimeReceived hk.le hs
  | tpdoEventTimer => cases hf; exact keep_execTpdoEventTimer hk.le hs
  | tpdoInhibitExpiry => cases hf; exact keep_execTpdoInhibitExpiry hk.le hs
  | heartbeatProduce => cases hf; exact keep_execHeartbeatProduce hk.le hs
  | heartbeatConsumed => cases hf; exact keep_execHeartbeatConsumed (a3 := 0) hk.le hs
  | communicationLoss => cases hf; exact keep_execCommunicationLoss hk.le hs
  | emcyInhibitExpiry => cases hf; exact keep_execEmcyInhibitExpiry hk.le hs
  | storeParameters => cases hf; exact keep_execStoreParameters hk.le hs
  | restoreDefaultParameters => cases hf; exact keep_execRestoreDefaultParameters hk.le hs
  | usbFrameGap => cases hf; exact keep_execUsbFrameGap hk.le hs
  | usbDtrFall => cases hf; exact keep_execUsbDtrFall hk.le hs
  | identify => cases hf; exact keep_execIdentify hk.le hs
  | objRead => cases hf; exact keep_execObjRead hk.le hs
  | objWrite => cases hf
  | regRead => cases hf; exact keep_execRegRead hk.le hs
  | regWrite => cases hf; exact keep_execRegWrite hk.le hs
  | eventPeek => cases hf; exact keep_execEventPeek hk.le hs
  | health => cases hf; exact keep_execHealth hk.le hs
  | mbxInCommit => cases hf; exact keep_execMbxInCommit hk.le hs
  | mbxOutRead => cases hf; exact keep_execMbxOutRead hk.le hs
  | spiOutTimeout => cases hf; exact keep_execSpiOutTimeout hk.le hs
  | xomorFrameWrite => cases hf; exact keep_execXomorFrameWrite hk.le hs
  | xomorFrameRead => cases hf; exact keep_execXomorFrameRead hk.le hs
  | sessHello => cases hf; exact keep_execSessHello hk.le hs
  | sessProve => cases hf; exact keep_execSessProve hk.le hs
  | sessClose => cases hf; exact keep_execSessClose hk.le hs
  | sessCommit => cases hf; exact keep_execSessCommit hk.le hs
  | sessDiscard => cases hf; exact keep_execSessDiscard hk.le hs
  | sessionIdleExpiry => cases hf; exact keep_execSessionIdleExpiry hk.le hs
  | sessProveTimeout => cases hf; exact keep_execSessProveTimeout hk.le hs
  | claim => cases hf; exact keep_execClaim hk.le hs
  | revoke => cases hf; exact keep_execRevoke hk.le hs
  | identity => cases hf; exact keep_execIdentity hk.le hs
  | profBegin => cases hf; exact keep_execProfBegin hk.le hs
  | profData => cases hf; exact keep_execProfData hk.le hs
  | profEnd => cases hf; exact keep_execProfEnd hk.le hs
  | profSelect => cases hf; exact keep_execProfSelect hk.le hs
  | patchBegin => cases hf; exact keep_execPatchBegin hk.le hs
  | patchData => cases hf; exact keep_execPatchData hk.le hs
  | patchEnd => cases hf; exact keep_execPatchEnd hk.le hs
  | patchActivate => cases hf; exact keep_execPatchActivate hk.le hs
  | auditRead => cases hf; exact keep_execAuditRead hk.le hs
  | auditSeal => cases hf; exact keep_execAuditSeal hk.le hs
  | svcHoursIncrement => cases hf; exact keep_execSvcHoursIncrement hk.le hs
  | domOffReq => cases hf; exact keep_execDomOffReq hk.le hs
  | domainSwitched => cases hf; exact keep_execDomainSwitched hk.le hs
  | bootstrapLockoutRelease => cases hf; exact keep_execBootstrapLockoutRelease hk.le hs
  | busComparatorRelease => cases hf; exact keep_execBusComparatorRelease hk.le hs
  | dieOverTemperatureRelease => cases hf; exact keep_execDieOverTemperatureRelease hk.le hs
  | tripnRelease => cases hf; exact keep_execTripnRelease hk.le hs
  | vwMaxageExpiry => cases hf; exact keep_execVwMaxageExpiry hk.le hs
  | enumerationTimeout => cases hf; exact keep_execEnumerationTimeout hk.le hs
  | canReceiveOverrun => cases hf; exact keep_execCanReceiveOverrun hk.le hs
  | canBusOffRecovered => cases hf; exact keep_execCanBusOffRecovered hk.le hs
  | helperHandshakeFault => cases hf; exact keep_execHelperHandshakeFault hk.le hs

theorem exec_next (c : Instr) (s : State) : ∃ t, exec c s = .next t := by
  cases c with
  | periodStart g =>
    change ∃ t, execPeriodStart g s = .next t
    unfold execPeriodStart
    split
    · exact ⟨_, rfl⟩
    · exact ⟨_, rfl⟩
  | _ => exact ⟨_, rfl⟩

/-! ## The obligations -/

/-- Settles O1: by the definition of a step. -/
theorem stepRunsTheFrontCommand : Obligations.StepRunsTheFrontCommand := by
  unfold Obligations.StepRunsTheFrontCommand
  exact fun c q s => rfl

/-- Settles O2, by induction on the run: every command answers a next state. -/
theorem everyRunCompletes : Obligations.EveryRunCompletes := by
  unfold Obligations.EveryRunCompletes
  intro cs
  induction cs with
  | nil => exact fun _ => trivial
  | cons c cs ih =>
    intro s
    obtain ⟨t, ht⟩ := exec_next c s
    exact ⟨t, ht, ih t⟩

/-- Settles O3: nothing is listed after reset. -/
theorem resetIsSound : Obligations.ResetIsSound := by
  unfold Obligations.ResetIsSound
  constructor <;> first | rfl | exact fun e he => absurd he List.not_mem_nil

/-- Settles O4: soundness is a kept property, and a step runs one command. -/
theorem stepKeepsSound : Obligations.StepKeepsSound := by
  unfold Obligations.StepKeepsSound
  intro s t hs ht
  unfold Machine.step at ht
  cases hq : s.pending with
  | nil =>
    rw [hq] at ht
    cases ht
    exact hs
  | cons c rest =>
    rw [hq] at ht
    have hrest : Sound { s with pending := rest } := { hs with }
    exact keep_exec sound_kept hrest t ht

/-- Settles O5: what the queue holds is a kept property. -/
theorem commandsLeaveTheQueue : Obligations.CommandsLeaveTheQueue := by
  unfold Obligations.CommandsLeaveTheQueue
  exact fun c s t ht => keep_exec (pending_kept s.pending) rfl t ht

/-- Settles O6: staying within a footprint is kept under the footprint's own mask. -/
theorem commandsWriteOnlyTheirFootprint : Obligations.CommandsWriteOnlyTheirFootprint := by
  unfold Obligations.CommandsWriteOnlyTheirFootprint
  exact fun c f s t hf ht => keep_writes hf (within_kept f s) within_refl t ht

/-- Settles O7: no footprint lets a command reset, and nothing else sets the time-stamp back. -/
theorem timeNeverRunsBack : Obligations.TimeNeverRunsBack := by
  unfold Obligations.TimeNeverRunsBack
  exact fun c f s t hf ht => keep_writes hf ((later_kept s).le (maskOf_le f)) (Nat.le_refl s.ts) t ht

end Sys2Proof.Proofs
end

section
/-! O13 (R421, R422): the communication objects 0x1000 to 0x1FFF and 0x2001. A store of one, or its default, writes fields of the
CAN node alone (`keep_objStore_comm`, `keep_defaultsWhere_comm`), so an NMT reset communication leaves the drives alone. -/

namespace Sys2Proof.Proofs

open Machine Laws

/-- The fields behind the communication objects that have a row in the table of objects. -/
def commFields : List Reg :=
  [.COB_SYNC, .SYNC_PERIOD, .COB_TIME, .COB_EMCY, .INHIBIT_EMCY, .HB_CONSUMER, .HB_PRODUCER, .SYNC_OVERFLOW, .ERROR_BEHAVIOUR,
    .NMT_STARTUP, .NODE_ID, .CAN_MODE, .ARB_RATE, .DATA_RATE, .NODE_ID_ACT]

/-- The fields that a store of any communication object may write. -/
def commStores : List Reg :=
  commFields ++ [.COB_WRITTEN, .ERR_HIST, .ERR_COUNT, .RPDO_COB, .TPDO_COB, .TPDO_SENT, .TPDO_STARTED, .TPDO_CNT, .TPDO_TYPE,
    .RPDO_TYPE, .TPDO_INH, .TPDO_TIMER, .RPDO_TIMER, .TPDO_START, .TPDO_N, .RPDO_N, .TPDO_MAP, .RPDO_MAP]

variable {P : State → Prop}

theorem keep_put_mem {l : List Reg} (hk : Kept ⟨rbits l, 0, 0⟩ P) {s : State} {r i v} (hr : r ∈ l) (hs : P s) : P (s.put r i v) :=
  hk.put s r i v hs (testBit_rbits hr)

/-! ## Rows of the table of objects -/

theorem isComm_iff {idx : Nat} : isComm idx = true ↔ (0x1000 ≤ idx ∧ idx < 0x2000) ∨ idx = 0x2001 := by
  simp [isComm]

theorem commRow_parts {row : ObjRow} {idx sub : Nat} (hrow : row ∈ objRows) (hhas : rowHas row idx sub = true) (hidx : isComm idx = true) :
    row.acc ≠ .wo ∧ ∀ p ∈ row.parts, p.reg ∈ commFields := by
  have htable : ∀ row ∈ objRows, row.index ≤ 0x2001 → row.index ≠ 0x2000 →
      row.acc ≠ .wo ∧ ∀ p ∈ row.parts, p.reg ∈ commFields := by decide +kernel
  have h2000 : ∀ row ∈ objRows, row.index = 0x2000 → row.stride = 1 ∧ row.count = 1 := by decide +kernel
  rw [isComm_iff] at hidx
  simp only [rowHas, rowAt, Bool.and_eq_true, decide_eq_true_eq] at hhas
  obtain ⟨⟨⟨hle, -⟩, hcount⟩, -⟩ := hhas
  refine htable row hrow (by omega) fun hx => ?_
  obtain ⟨hs, hc⟩ := h2000 row hrow hx
  rw [hx, hs, hc] at hcount
  omega

/-! ## Writes of the fields -/

theorem keep_fieldApply_comm {s path r i v} (hk : Kept ⟨rbits commStores, 0, 0⟩ P) (hr : r ∈ commFields) (hs : P s) :
    P (fieldApply s path r i v).1 := by
  have hmem : r ∈ commStores := List.mem_append_left _ hr
  simp only [commFields, List.mem_cons, List.not_mem_nil, or_false] at hr
  rcases hr with rfl | rfl | rfl | rfl | rfl | rfl | rfl | rfl | rfl | rfl | rfl | rfl | rfl | rfl | rfl
  case inr.inr.inr.inl => exact keep_put_mem hk (by decide) (keep_put_mem hk hmem hs)
  all_goals exact keep_put_mem hk hmem hs

theorem fieldReject_comm {s r i} (hr : r ∈ commFields) : fieldReject s r i = s := by
  simp only [commFields, List.mem_cons, List.not_mem_nil, or_false] at hr
  rcases hr with rfl | rfl | rfl | rfl | rfl | rfl | rfl | rfl | rfl | rfl | rfl | rfl | rfl | rfl | rfl <;> rfl

theorem keep_fieldWrite_comm {s path look r i v} (hk : Kept ⟨rbits commStores, 0, 0⟩ P) (hr : r ∈ commFields) (hs : P s) :
    P (fieldWrite s path look r i v).1 := by
  unfold fieldWrite
  rw [fieldReject_comm hr]
  exact keep_ite1 hs (keep_ite1 hs (keep_ite1 hs (keep_ite1 hs (keep_fieldApply_comm hk hr hs))))

theorem keep_rowStore_comm {path i v look l s} (hk : Kept ⟨rbits commStores, 0, 0⟩ P) (hl : ∀ p ∈ l, p.reg ∈ commFields) (hs : P s) :
    P (rowStore path i v look l s).1 := by
  induction l generalizing s with
  | nil => exact hs
  | cons p l ih =>
    have hp : P (fieldWrite s path look p.reg i (partValue p v)).1 := keep_fieldWrite_comm hk (hl p List.mem_cons_self) hs
    exact keep_ite1 (ih (fun q hq => hl q (List.mem_cons_of_mem p hq)) hp) hp

theorem rowFault_comm {s row i v r a} (hl : ∀ p ∈ row.parts, p.reg ∈ commFields) (h : rowFault s row i v = some (r, a)) :
    r ∈ commFields := by
  obtain ⟨p, hp, hfault⟩ := List.exists_of_findSome?_eq_some h
  split at hfault
  · cases hfault
    exact hl p hp
  · split at hfault
    · cases hfault
      exact hl p hp
    · split at hfault
      · cases hfault
        exact hl p hp
      · cases hfault

theorem windowFault_comm {s path row i v} (hl : ∀ p ∈ row.parts, p.reg ∈ commFields) : windowFault s path row i v = none := by
  have hapart : ∀ r ∈ commFields, windowFields.contains r = false := by decide
  have hnone : (row.parts.any fun p => windowFields.contains p.reg) = false := by
    rw [List.any_eq_false]
    exact fun p hp => by rw [hapart _ (hl p hp)]; decide
  rw [windowFault, hnone]
  simp

theorem keep_tableWrite_comm {s path idx row i v} (hk : Kept ⟨rbits commStores, 0, 0⟩ P) (hidx : isComm idx = true)
    (hacc : row.acc ≠ .wo) (hl : ∀ p ∈ row.parts, p.reg ∈ commFields) (hs : P s) : P (tableWrite s path idx row i v).1 := by
  have hgate : idx ≠ 0x2055 := by
    rw [isComm_iff] at hidx
    omega
  unfold tableWrite
  simp only [windowFault_comm hl, hacc, if_false, hgate, false_and]
  refine keep_ite1 hs ?_
  cases hf : rowFault s row i (clampObject idx v) with
  | none => exact keep_rowStore_comm hk hl hs
  | some x =>
    obtain ⟨r, a⟩ := x
    show P (fieldReject s r i)
    rw [fieldReject_comm (rowFault_comm hl hf)]
    exact hs

/-! ## Writes of the objects -/

theorem keep_specialWrite_comm {s load b i sub v} (hk : Kept ⟨rbits commStores, 0, 0⟩ P) (hb : isComm b = true) (hs : P s) :
    P (specialWrite s load b i sub v).1 := by
  rw [isComm_iff] at hb
  unfold specialWrite
  refine keep_ite1 (keep_ite1 (keep_foldl (fun _ _ h => keep_put_mem hk (by decide) h) (keep_put_mem hk (by decide) hs)) hs) ?_
  refine keep_ite1 (keep_writePdoComm hk.le hs) (keep_ite1 (keep_writePdoComm hk.le hs) ?_)
  refine keep_ite1 (keep_ite1 (keep_writeMapCount hk.le hs) (keep_writeMapEntry hk.le hs)) ?_
  refine keep_ite1 (keep_ite1 (keep_writeMapCount hk.le hs) (keep_writeMapEntry hk.le hs)) ?_
  have hrest : ∀ n, 0x2002 ≤ n → b ≠ n := by omega
  have hmirror : ¬(0x3000 ≤ b ∧ b < 0x4000) := by omega
  simp only [hrest 0x2012 (by decide), hrest 0x2118 (by decide), hrest 0x2304 (by decide), hrest 0x2424 (by decide),
    hrest 0x2801 (by decide), hrest 0x5001 (by decide), hrest 0x6040 (by decide), hrest 0x6060 (by decide), hmirror, if_false]
  exact hs

theorem normIndex_comm {idx : Nat} (hidx : isComm idx = true) : isComm (normIndex idx).1 = true := by
  rw [isComm_iff] at hidx
  rw [isComm_iff]
  unfold normIndex
  split_ifs <;> simp only <;> omega

/-- The reference of an object is a row that holds it, or a special object under its base index. -/
theorem objRef_table {s idx sub row i} (h : objRef s idx sub = .table row i) : row ∈ objRows ∧ rowHas row idx sub = true := by
  unfold objRef at h
  simp only at h
  split at h
  · cases h
  · split at h
    · cases h
    · split at h
      · rename_i hfind
        cases h
        exact ⟨List.mem_of_find?_eq_some hfind, List.find?_some (p := fun r => rowHas r idx sub) hfind⟩
      · split_ifs at h

theorem objRef_special {s idx sub o i} (h : objRef s idx sub = .special o i) : o ∈ specialObjs ∧ o.index = (normIndex idx).1 := by
  unfold objRef at h
  simp only at h
  split at h
  · cases h
  · split at h
    · rename_i hfind
      cases h
      have hp := List.find?_some hfind
      simp only [Bool.and_eq_true, beq_iff_eq] at hp
      exact ⟨List.mem_of_find?_eq_some hfind, hp.1⟩
    · split at h
      · cases h
      · split_ifs at h

/-- A store of a communication object writes fields of the CAN node alone. -/
theorem keep_objStore_comm {s auth path idx sub bytes} (hk : Kept ⟨rbits commStores, 0, 0⟩ P) (hidx : isComm idx = true) (hs : P s) :
    P (objStore s auth path idx sub bytes).1 := by
  unfold objStore
  simp only
  split
  · exact hs
  · exact hs
  · exact hs
  · rename_i row i href
    obtain ⟨hrow, hhas⟩ := objRef_table href
    obtain ⟨hacc, hl⟩ := commRow_parts hrow hhas hidx
    exact keep_ite1 hs (keep_ite1 hs (keep_ite1 hs (keep_ite1 hs (keep_tableWrite_comm hk hidx hacc hl hs))))
  · rename_i o i href
    obtain ⟨ho, hindex⟩ := objRef_special href
    have hcomm : isComm o.index = true := hindex ▸ normIndex_comm hidx
    have hsized : ∀ o ∈ specialObjs, isComm o.index = true → o.acc ≠ .ro → o.size ≠ 0 := by decide
    split
    · exact hs
    · rename_i hro
      rw [if_neg (hsized o ho hcomm hro)]
      exact keep_ite1 hs (keep_ite1 hs (keep_ite1 hs (keep_specialWrite_comm hk hcomm hs)))

theorem keep_applyEntries_comm {s es} (hk : Kept ⟨rbits commStores, 0, 0⟩ P) (hes : ∀ e ∈ es, isComm e.index = true) (hs : P s) :
    P (applyEntries s es) :=
  keep_foldl_mem (fun _ e he h => keep_objStore_comm hk (hes e he) h) hs

theorem parameter_row {x : ObjRow × Nat × Nat × Nat} (hx : x ∈ parameters) : x.1 ∈ objRows ∧ rowHas x.1 x.2.1 x.2.2.1 = true := by
  have hstride : ∀ row ∈ objRows, 0 < row.stride := by decide +kernel
  simp only [parameters, rowPlaces, List.mem_flatMap, List.mem_map, List.mem_filter, List.mem_range] at hx
  obtain ⟨row, hrow, place, ⟨⟨k, hk, m, hm, rfl⟩, -⟩, rfl⟩ := hx
  have hpos := hstride row hrow
  refine ⟨hrow, ?_⟩
  simp [rowHas, rowAt, Nat.mul_div_cancel _ hpos, hk, hm]

/-- The defaults of communication objects are those of fields of the CAN node. -/
theorem keep_defaultsWhere_comm {s} {p : ObjRow → Nat → Nat → Bool} (hk : Kept ⟨rbits commStores, 0, 0⟩ P)
    (hp : ∀ row idx sub, p row idx sub = true → isComm idx = true) (hs : P s) : P (defaultsWhere s p) := by
  refine keep_foldl_mem (fun a x hx ha => ?_) hs
  split
  · rename_i h
    exact keep_foldl_mem (fun b q hq hb => keep_put_mem hk (List.mem_append_left _ ((commRow_parts (parameter_row hx).1 (parameter_row hx).2 (hp _ _ _ h)).2 q hq)) hb) ha
  · exact ha

/-! ## NMT reset communication -/

/-- What an NMT command may write. -/
def nmtWrites : Footprint :=
  .of (commStores ++ [.NMT_STATE, .PROF_COMM, .COMM_DUE, .RPDO_WAIT, .TPDO_CHG, .NODE_ID_ACT, .RED_DUP, .RED_DIFF, .CAN_RX_TICK,
    .CAN_GOOD_TICK]) [.CAN_MODE, .ARB_RATE, .DATA_RATE, .CAN_RED] [.sent, .clock, .copies]

theorem commEntries_comm (s : State) : ∀ e ∈ commEntries s, isComm e.index = true := by
  intro e he
  exact (List.mem_filter.mp he).2

theorem keep_reloadComm_comm {s} (hk : Kept (Laws.maskOf nmtWrites) P) (hs : P s) : P (reloadComm s) := by
  unfold reloadComm
  have hdefaults : P (defaultsWhere s fun _ idx _ => isComm idx && (idx != 0x2001 || s.flag .PROF_COMM 0)) :=
    keep_defaultsWhere_comm hk.le (fun _ _ _ h => ((Bool.and_eq_true _ _).mp h).1) hs
  refine keep_State_put hk.le (keep_applyEntries_comm hk.le (fun e he => commEntries_comm s e (List.mem_filter.mp he).1) ?_)
  exact keep_reloadCobs hk.le (keep_pdoDefaults hk.le (keep_State_put hk.le hdefaults))

theorem keep_resetCommunication_comm {s} (hk : Kept (Laws.maskOf nmtWrites) P) (hs : P s) : P (resetCommunication s) := by
  unfold resetCommunication
  have hids : P (if s.flag .PROF_COMM 0 then applyEntries s ((commEntries s).filter fun e => e.index == 0x2001) else s) :=
    keep_ite (keep_applyEntries_comm hk.le (fun e he => commEntries_comm s e (List.mem_filter.mp he).1) hs) hs
  exact keep_bootUp hk.le (keep_reloadComm_comm hk (keep_developCan hk.le (keep_State_put hk.le hids)))

/-- An NMT command that ends in `f` writes what `f` and the reception of its frame write. -/
theorem within_nmtFrame {s : State} {t b cs node : Nat} {f : State → State} (hf : ∀ x, Within nmtWrites s x → Within nmtWrites s (f x)) :
    Within nmtWrites s (nmtFrame (s.atTick t) b cs node f) :=
  have hk := within_kept nmtWrites s
  keep_nmtFrame hk.le (keep_State_atTick hk.le within_refl) hf

theorem within_setNmt {s x : State} {st : Nat} (h : Within nmtWrites s x) : Within nmtWrites s (setNmt x st) :=
  keep_setNmt (within_kept nmtWrites s).le h

theorem drives_of_within {s u : State} (h : Within nmtWrites s u) :
    (∀ i, u.get .DRIVE_STATE i = s.get .DRIVE_STATE i ∧ u.get .FAULT_CAUSE i = s.get .FAULT_CAUSE i) ∧
      (∀ p, u.get .PORT_DRIVE p = s.get .PORT_DRIVE p) ∧ u.motion = s.motion :=
  ⟨fun i => ⟨h.regs _ i rfl (by decide), h.regs _ i rfl (by decide)⟩, fun p => h.regs _ p rfl (by decide),
    h.parts .motion (by decide)⟩

/-- Settles O13: every NMT command but reset node stays within fields of the CAN node. -/
theorem nmtLeavesMotion : Obligations.NmtLeavesMotion := by
  unfold Obligations.NmtLeavesMotion
  intro t node bus s
  simp only [List.forall_mem_cons]
  refine ⟨?_, ?_, ?_, ?_, nofun⟩
  · exact next_completes rfl (drives_of_within (within_nmtFrame fun _ h => within_setNmt h))
  · exact next_completes rfl (drives_of_within (within_nmtFrame fun _ h => within_setNmt h))
  · exact next_completes rfl (drives_of_within (within_nmtFrame fun _ h => within_setNmt h))
  · exact next_completes rfl (drives_of_within (within_nmtFrame fun _ h =>
      keep_resetCommunication_comm (within_kept nmtWrites s) h))

end Sys2Proof.Proofs
end

section
/-! O8, O9 (R47 to R54): what an entry leaves in its queue. Words written one after another read back, the fill of a ring
of twice its size rises by one, and an event touches queue Q11 alone. -/

namespace Sys2Proof.Proofs

open Machine Laws

variable {s : State}

/-! ## Consecutive words -/

theorem read_setWords_other {a : Nat} {ws : List Nat} {b : Nat} (h : b < a ∨ a + 4 * ws.length ≤ b) :
    (s.setWords a ws).mem.read b = s.mem.read b := by
  induction ws generalizing s a with
  | nil => rfl
  | cons w ws ih =>
    simp only [List.length_cons] at h
    have hrest : b < a + 4 ∨ a + 4 + 4 * ws.length ≤ b := by omega
    have hfirst : b < a ∨ a + 4 ≤ b := by omega
    exact (ih hrest).trans (read_setWord_other hfirst)

theorem word_congr {m m' : Memory} {a : Nat} (h : ∀ b, b < a + 4 → a ≤ b → m'.read b = m.read b) : m'.word a = m.word a := by
  unfold Memory.word
  rw [h a (by omega) (by omega), h (a + 1) (by omega) (by omega), h (a + 2) (by omega) (by omega), h (a + 3) (by omega) (by omega)]

theorem words_succ (s : State) (a n : Nat) : s.words a (n + 1) = s.word a :: s.words (a + 4) n := by
  simp only [State.words, List.range_succ_eq_map, List.map_cons, List.map_map, Nat.mul_zero, Nat.add_zero]
  refine congrArg _ (List.map_congr_left fun k _ => ?_)
  show s.word (a + 4 * (k + 1)) = s.word (a + 4 + 4 * k)
  congr 1
  omega

/-- Words written from an address on read back from there. -/
theorem words_setWords {a : Nat} {ws : List Nat} (h : ∀ w ∈ ws, w < 2 ^ 32) : (s.setWords a ws).words a ws.length = ws := by
  induction ws generalizing s a with
  | nil => rfl
  | cons w ws ih =>
    have hfirst : ((s.setWord a w).setWords (a + 4) ws).word a = w := by
      rw [State.word, word_congr fun b hb _ => read_setWords_other (Or.inl hb)]
      exact word_setWord (h w List.mem_cons_self)
    rw [List.length_cons, words_succ]
    exact congrArg₂ _ hfirst (ih fun x hx => h x (List.mem_cons_of_mem w hx))

/-! ## Fill of a ring -/

/-- One more entry in a ring of `n` pointers that holds fewer than `n - 1`. -/
theorem fill_succ {n wr rd : Nat} (hwr : wr < n) (hrd : rd < n) (hroom : (wr + n - rd) % n + 1 < n) :
    ((wr + 1) % n + n - rd) % n = (wr + n - rd) % n + 1 := by
  have hfill : (wr + n - rd) % n = if rd ≤ wr then wr - rd else wr + n - rd := by
    split
    · rw [Nat.mod_eq_sub_mod (by omega), Nat.mod_eq_of_lt (by omega)]
      omega
    · exact Nat.mod_eq_of_lt (by omega)
  rw [hfill] at hroom ⊢
  rcases Nat.lt_or_ge (wr + 1) n with hlt | hge
  · rw [Nat.mod_eq_of_lt hlt]
    split at hroom
    · rw [if_pos ‹_›, Nat.mod_eq_sub_mod (by omega), Nat.mod_eq_of_lt (by omega)]
      omega
    · rw [if_neg ‹_›, Nat.mod_eq_of_lt (by omega)]
      omega
  · have heq : wr + 1 = n := by omega
    rw [heq, Nat.mod_self]
    split at hroom
    · rw [if_pos ‹_›, Nat.mod_eq_of_lt (by omega)]
      omega
    · omega

theorem qSize_pos (s : State) (q : Nat) : 0 < s.qSize q := Nat.two_pow_pos _

/-- Pointers of a queue of up to 2 ^ 13 entries fit their fields. -/
theorem qNext_fits {q p k : Nat} (hsize : s.dv .QSIZE_LOG2 q ≤ 13) : s.qNext q p k < 2 ^ 15 := by
  have hle : s.qSize q ≤ 2 ^ 13 := Nat.pow_le_pow_right (by decide) hsize
  have hlt : s.qNext q p k < 2 * s.qSize q := Nat.mod_lt _ (by have := qSize_pos s q; omega)
  omega

/-! ## An entry -/

@[simp] theorem qSize_qPutRaw {q q' : Nat} {ws : List Nat} : (s.qPutRaw q ws).qSize q' = s.qSize q' := by
  simp [State.qSize, State.qPutRaw, State.setQLevel]

theorem wr_qPutRaw {q : Nat} {ws : List Nat} (hsize : s.dv .QSIZE_LOG2 q ≤ 13) :
    (s.qPutRaw q ws).get .QWR q = (s.get .QWR q + 1) % (2 * s.qSize q) := by
  have hfits : s.qNext q (s.get .QWR q) 1 < 2 ^ Reg.width .QWR := qNext_fits hsize
  simp only [State.qPutRaw, State.setQLevel, get_put_reg _ (show Reg.QWR ≠ .QLEVEL by decide), get_put_same]
  exact trunc_of_lt hfits

theorem rd_qPutRaw {q : Nat} {ws : List Nat} : (s.qPutRaw q ws).get .QRD q = s.get .QRD q := by
  simp [State.qPutRaw, State.setQLevel]

theorem fill_qPutRaw {q : Nat} {ws : List Nat} (hsize : s.dv .QSIZE_LOG2 q ≤ 13) (hwr : s.get .QWR q < 2 * s.qSize q)
    (hrd : s.get .QRD q < 2 * s.qSize q) (hroom : s.qFill q < s.qSize q) : (s.qPutRaw q ws).qFill q = s.qFill q + 1 := by
  rw [State.qFill, wr_qPutRaw hsize, rd_qPutRaw, qSize_qPutRaw]
  have hpos := qSize_pos s q
  exact fill_succ hwr hrd (show s.qFill q + 1 < _ by omega)

theorem mem_qPutRaw {q : Nat} {ws : List Nat} :
    (s.qPutRaw q ws).mem = (s.setWords (s.qAddr q (s.get .QWR q)) ws).mem := rfl

theorem words_congr {s t : State} (h : t.mem = s.mem) (a n : Nat) : t.words a n = s.words a n := by
  simp only [State.words, State.word, h]

theorem words_qPutRaw {q : Nat} {ws : List Nat} (h : ∀ w ∈ ws, w < 2 ^ 32) :
    (s.qPutRaw q ws).words (s.qAddr q (s.get .QWR q)) ws.length = ws :=
  (words_congr mem_qPutRaw _ _).trans (words_setWords h)

theorem read_qPutRaw_other {q : Nat} {ws : List Nat} {a : Nat}
    (h : a < s.qAddr q (s.get .QWR q) ∨ s.qAddr q (s.get .QWR q) + 4 * ws.length ≤ a) :
    (s.qPutRaw q ws).mem.read a = s.mem.read a := by
  rw [mem_qPutRaw]
  exact read_setWords_other h

/-! ## An event -/

theorem eventWords_fit (h : Sound s) (code src slot arg tstamp : Nat) : ∀ w ∈ s.eventWords code src slot arg tstamp, w < 2 ^ 32 := by
  have hseq : s.get .EVENT_SEQ 0 < 2 ^ 4 := get_lt h (by decide)
  simp only [State.eventWords, List.forall_mem_cons, trunc]
  exact ⟨by omega, Nat.mod_lt _ (by decide), Nat.mod_lt _ (by decide), Nat.mod_lt _ (by decide), nofun⟩

@[simp] theorem qSize_put {r : Reg} {i v q : Nat} : (s.put r i v).qSize q = s.qSize q := rfl

@[simp] theorem qAddr_put {r : Reg} {i v q p : Nat} : (s.put r i v).qAddr q p = s.qAddr q p := rfl

@[simp] theorem mem_count {r : Reg} {i : Nat} : (s.count r i).mem = s.mem := rfl

@[simp] theorem qFill_put {r : Reg} {i v q : Nat} (hwr : r ≠ .QWR) (hrd : r ≠ .QRD) : (s.put r i v).qFill q = s.qFill q := by
  simp [State.qFill, Ne.symm hwr, Ne.symm hrd]

/-- An event that finds Q11 full. -/
theorem post_full {code src slot arg : Nat} (hfull : s.qFill 11 = s.qSize 11) :
    s.post code src slot arg = (((s.put .EVENT_SEQ 0 (s.get .EVENT_SEQ 0 + 1)).count .QDROP 11).put .QOVF 11 1).put .Q11_FULL 0 1 :=
  if_pos ((qFill_put (by decide) (by decide)).trans hfull)

/-- The watermark of Q11 judged after an event whose entry found `before` entries. -/
def judgedQ11 (s : State) (before : Nat) : State :=
  if 0 < s.get .QWMARK 11 ∧ before < s.get .QWMARK 11 ∧ s.get .QWMARK 11 ≤ s.qFill 11 then
    (s.put .QWM_HIT 11 1).put .Q11_WM 0 1
  else s

/-- An event that finds room in Q11. -/
theorem post_room {code src slot arg : Nat} (hroom : s.qFill 11 ≠ s.qSize 11) :
    s.post code src slot arg = judgedQ11 ((s.put .EVENT_SEQ 0 (s.get .EVENT_SEQ 0 + 1)).qPutRaw 11
      (s.eventWords code src slot arg s.ts)) (s.qFill 11) := by
  have hseq : (s.put .EVENT_SEQ 0 (s.get .EVENT_SEQ 0 + 1)).qFill 11 = s.qFill 11 := qFill_put (by decide) (by decide)
  rw [← hseq] at hroom ⊢
  exact if_neg hroom

theorem judgedQ11_mem (s : State) (n : Nat) : (judgedQ11 s n).mem = s.mem := by
  unfold judgedQ11
  split <;> rfl

theorem judgedQ11_get (s : State) (n i : Nat) {r : Reg} (h1 : r ≠ .QWM_HIT) (h2 : r ≠ .Q11_WM) : (judgedQ11 s n).get r i = s.get r i := by
  unfold judgedQ11
  split
  · simp [h1, h2]
  · rfl

theorem judgedQ11_qFill (s : State) (n q : Nat) : (judgedQ11 s n).qFill q = s.qFill q := by
  have hdv : (judgedQ11 s n).dv .QSIZE_LOG2 q = s.dv .QSIZE_LOG2 q := by
    unfold judgedQ11
    split <;> rfl
  simp only [State.qFill, State.qSize, judgedQ11_get, hdv, ne_eq, reduceCtorEq, not_false_eq_true]

/-- Settles O8: an event with room is one entry of Q11, and without room it is a count. -/
theorem eventsEnterQ11 : Obligations.EventsEnterQ11 := by
  unfold Obligations.EventsEnterQ11
  refine ⟨fun code src slot arg s hs hsize hwr hrd hroom => ?_, fun code src slot arg s hfull => ?_⟩
  · rw [post_room (Nat.ne_of_lt hroom)]
    set x := s.put .EVENT_SEQ 0 (s.get .EVENT_SEQ 0 + 1) with hx
    set ws := s.eventWords code src slot arg s.ts with hws
    have hwords : ∀ w ∈ ws, w < 2 ^ 32 := eventWords_fit hs code src slot arg s.ts
    have hlen : ws.length = 4 := rfl
    have hxsize : x.dv .QSIZE_LOG2 11 ≤ 13 := hsize
    have hfill : (x.qPutRaw 11 ws).qFill 11 = s.qFill 11 + 1 := by
      rw [fill_qPutRaw hxsize (by simpa [hx] using hwr) (by simpa [hx] using hrd) (by simpa [hx] using hroom)]
      simp [hx]
    refine ⟨?_, ?_, ?_, ?_, ?_, ?_, fun a ha => ?_⟩
    · rw [words_congr (judgedQ11_mem _ _)]
      have hentry := words_qPutRaw (s := x) (q := 11) hwords
      simpa [hx, hlen] using hentry
    · rw [judgedQ11_get _ _ _ (by decide) (by decide), wr_qPutRaw hxsize]
      simp [hx]
    · rw [judgedQ11_qFill, hfill]
    · rw [judgedQ11_get _ _ _ (by decide) (by decide)]
      simp (disch := decide) [hx, trunc]
    · rw [judgedQ11_get _ _ _ (by decide) (by decide)]
      simp (disch := decide) [hx]
    · have hmark : (0 < s.get .QWMARK 11 ∧ s.qFill 11 < s.get .QWMARK 11 ∧ s.get .QWMARK 11 ≤ s.qFill 11 + 1) ↔
          (0 < s.get .QWMARK 11 ∧ s.qFill 11 + 1 = s.get .QWMARK 11) := by omega
      rw [judgedQ11, hfill]
      simp (disch := decide) [hmark, hx]
    · rw [judgedQ11_mem, read_qPutRaw_other (by simpa [hx, hlen] using ha)]
      rfl
  · rw [post_full hfull]
    simp [trunc]

/-! ## A producer -/

theorem get_qPutRaw_inst {q q' : Nat} {ws : List Nat} {r : Reg} (hq : q' ≠ q) : (s.qPutRaw q ws).get r q' = s.get r q' := by
  simp [State.qPutRaw, State.setQLevel, get_put, hq]

/-- An event leaves the queues other than Q11 alone. -/
theorem get_post_otherQueue {code src slot arg q : Nat} {r : Reg} (hq : q ≠ 11) (hseq : r ≠ .EVENT_SEQ) (hwm : r ≠ .Q11_WM)
    (hflag : r ≠ .Q11_FULL) : (s.post code src slot arg).get r q = s.get r q := by
  by_cases h : s.qFill 11 = s.qSize 11
  · rw [post_full h]
    simp [State.count, get_put, hq, hseq, hflag]
  · rw [post_room h, judgedQ11]
    split
    · simp [get_put, hq, hseq, hwm, get_qPutRaw_inst]
    · simp [hseq, hq, get_qPutRaw_inst]

/-- A drop that is not the first of a queue only counts. -/
theorem qDrop_again {q : Nat} (hq : q ≠ 11) (h : s.get .QOVF q = 1) : s.qDrop q = (s.count .QDROP q).put .QOVF q 1 := by
  simp [State.qDrop, State.flag, h, hq]

/-- The first drop of a queue is an event besides. -/
theorem qDrop_first {q : Nat} (hq : q ≠ 11) (h : s.get .QOVF q = 0) :
    s.qDrop q = ((s.count .QDROP q).put .QOVF q 1).post 0x0103 0x7 noSlot (q + min (s.get .QDROP q + 1) 65535 * 2 ^ 16) := by
  simp [State.qDrop, State.flag, h, hq]

theorem qDrop_cases {q : Nat} (hq : q ≠ 11) : ∃ x, (x = (s.count .QDROP q).put .QOVF q 1) ∧
    (s.qDrop q = x ∨ ∃ code src slot arg, s.qDrop q = x.post code src slot arg) := by
  refine ⟨_, rfl, ?_⟩
  by_cases h : s.flag .QOVF q = true
  · exact .inl (by simp [State.qDrop, h, hq])
  · exact .inr ⟨_, _, _, _, by simp only [State.qDrop, h, hq, if_false]; rfl⟩

/-- A drop leaves the pointers of its queue, counts and sets the flag. -/
theorem get_qDrop {q : Nat} (hq : q ≠ 11) : (s.qDrop q).get .QWR q = s.get .QWR q ∧ (s.qDrop q).get .QRD q = s.get .QRD q ∧
    (s.qDrop q).get .QDROP q = min (s.get .QDROP q + 1) 65535 ∧ (s.qDrop q).get .QOVF q = 1 := by
  obtain ⟨x, hx, h | ⟨code, src, slot, arg, h⟩⟩ := qDrop_cases (s := s) hq
  · rw [h, hx]
    simp
  · simp only [h, get_post_otherQueue hq, ne_eq, reduceCtorEq, not_false_eq_true]
    rw [hx]
    simp

/-- Settles O9: a full queue drops and counts, and a queue with room takes the entry. -/
theorem producersMeetFullQueues : Obligations.ProducersMeetFullQueues := by
  unfold Obligations.ProducersMeetFullQueues
  refine ⟨fun q ws s _ hq hfull => ?_, fun ws s hfull => ?_, fun q ws s _ _ hmark hsize hwr hrd hroom hws => ?_⟩
  · have hdrop : s.enqueue q ws = s.qDrop q := if_pos hfull
    rw [hdrop]
    obtain ⟨hwr, hrd, hcount, hflag⟩ := get_qDrop (s := s) hq
    refine ⟨hwr, hrd, hcount, hflag, fun hagain => ?_, fun hfirst => ?_⟩
    · rw [qDrop_again hq hagain]
      simp
    · rw [qDrop_first hq hfirst]
      exact lastEvent_of (.refl _)
  · have hdrop : s.enqueue 11 ws = s.qDrop 11 := if_pos hfull
    rw [hdrop]
    simp (disch := decide) [State.qDrop]
  · have hput : s.enqueue q ws = s.qPutRaw q ws := by
      simp [State.enqueue, Nat.ne_of_lt hroom, State.judgeRise, State.qPutRaw, State.setQLevel, hmark]
    rw [hput]
    exact ⟨words_qPutRaw hws, fill_qPutRaw hsize hwr hrd hroom, wr_qPutRaw hsize, fun a ha => read_qPutRaw_other ha⟩

end Sys2Proof.Proofs
end

section
/-! Fields that no write by data reaches. A register slot, an object or a profile names the field it writes; of the fields in
`hidden` none is named by a writable slot or object, so they are kept by every such write, by what a port map or a profile
develops, and by the work of a status tick (`keep_objStore_open` and the lemmas around it). -/

namespace Sys2Proof.Proofs

open Machine Laws

/-- Fields that neither data nor a develop writes. -/
def hidden : List Reg :=
  [.SAFE_BOOT, .PROF_ACTIVE, .PROF_VALID, .PROF_DEVICE, .PROF_SWITCHING, .HB_TICK, .HB_COUNT, .BOOT_STAGE, .BOOT_DONE,
    .RESET_NODE, .SYNC_CTR, .CAN_RX_TICK]

/-- What keeps the hidden fields. -/
def openMask : Mask := ⟨Nat.xor rall (rbits hidden), rall, 0x17ff⟩

variable {P : State → Prop}

theorem testBit_open {r : Reg} (h : r ∉ hidden) : openMask.regs.testBit r.ctorIdx = true := by
  have hoff : (rbits hidden).testBit r.ctorIdx = false := by
    cases hb : (rbits hidden).testBit r.ctorIdx with
    | false => rfl
    | true => exact absurd (mem_of_testBit hb) h
  refine (Nat.testBit_xor ..).trans ?_
  rw [testBit_rall, hoff]
  rfl

theorem keep_put_open {s : State} {r i v} (hk : Kept openMask P) (hr : r ∉ hidden) (hs : P s) : P (s.put r i v) :=
  hk.put s r i v hs (testBit_open hr)

/-- A hidden field is one of the things kept. -/
theorem hidden_kept (s : State) {r : Reg} (hr : r ∈ hidden) : Kept openMask fun t => ∀ i, t.get r i = s.get r i := by
  have hall : ∀ r ∈ hidden, openMask.le ⟨Nat.xor rall (rbit r), rall, 0x17ff⟩ = true := by decide +kernel
  exact (reg_kept s r).le (hall r hr)

/-! ## Joining groups, and the develops of a port map -/

theorem keep_joinGroup_open {s p} (hk : Kept openMask P) (hs : P s) : P (joinGroup s p) := by
  unfold joinGroup
  extract_lets -merge -underBinder +onlyGivenNames g peers
  clear_value g peers
  have hdev : P (s.develop .GROUP p) := keep_State_develop hk.le hs
  refine keep_State_put hk.le (keep_State_put hk.le (keep_portOff hk.le (keep_State_put hk.le ?_)))
  cases peers with
  | nil => exact keep_budgetPeriod hk.le (keep_State_put hk.le hdev)
  | cons q _ =>
    exact keep_budgetPeriod hk.le (keep_State_put hk.le (keep_State_put hk.le (keep_State_put hk.le hdev)))

theorem keep_groupDevelop_open {s} (hk : Kept openMask P) (hs : P s) : P (groupDevelop s) := by
  refine keep_State_each hk.le hs fun a p ha => ?_
  unfold groupTake
  refine keep_ite ha (keep_ite (keep_joinGroup_open hk ha) (keep_ite ?_ ?_))
  · exact keep_putWindow hk.le (keep_foldl (fun _ _ h => keep_joinGroup_open hk h) ha)
  · exact keep_rejectWindow hk.le (keep_foldl (fun _ _ h => keep_State_put hk.le (keep_State_put hk.le h)) ha)

theorem keep_takeGroup_open {s i} (hk : Kept openMask P) (hs : P s) : P (takeGroup s i) := by
  unfold takeGroup
  extract_lets -merge -underBinder +onlyGivenNames y3
  clear_value y3
  extract_lets -merge -underBinder +onlyGivenNames y7
  have z8 : P y7 :=
    keep_foldl (fun _ _ h => keep_ite (keep_State_put hk.le h) (keep_joinGroup_open hk (keep_State_put hk.le h))) hs
  clear_value y7
  exact keep_ite (keep_putWindow hk.le z8) (keep_rejectWindow hk.le (keep_putWindow hk.le z8))

theorem keep_slotDevelop_open {s i} (hk : Kept openMask P) (hs : P s) : P (slotDevelop s i) := by
  have hrestart := keep_State_putDev (r := .SLOT_KIND) (i := i) (v := s.get .MAP_KIND i) hk.le (keep_slotRestart (i := i) hk.le hs)
  unfold slotDevelop
  exact keep_State_setBit hk.le (keep_takeGroup_open hk (keep_ite hrestart (keep_State_put hk.le (keep_State_put hk.le hrestart))))

theorem keep_portmapSet_open {s n} (hk : Kept openMask P) (hs : P s) : P (portmapSet s n) := by
  have hset : ∀ {slots ports}, P (setDevelop s slots ports) := by
    intro slots ports
    unfold setDevelop
    refine keep_ite hs ?_
    split
    · exact hs
    · rename_i a ha
      have hengines := keep_setEngines hk.le hs a ha
      refine keep_mapStatus hk.le (keep_refreshEngines hk.le (keep_foldl (fun _ _ h => keep_slotDevelop_open hk h)
        (keep_foldl (fun _ _ h => ?_) hengines)))
      exact keep_State_put hk.le (keep_State_put hk.le (keep_State_put hk.le (keep_portOff hk.le h)))
  unfold portmapSet
  exact keep_ite (keep_ite hset hs) (keep_ite hset hs)

theorem keep_developAll_open {s} (hk : Kept openMask P) (hs : P s) : P (developAll s) := by
  unfold developAll
  have hparams : P (developParameters s) := keep_developParameters hk.le hs
  refine keep_foldl (fun _ _ h => keep_putWindow hk.le (keep_windowLoaded hk.le (keep_State_put hk.le h))) ?_
  refine keep_foldl (fun _ _ h => keep_portmapSet_open hk h) (keep_portmapApply hk.le ?_)
  exact keep_foldl (fun _ _ h => keep_State_put hk.le (keep_developPeriod hk.le (keep_State_put hk.le h))) hparams

/-! ## Writes of a field named by data -/

theorem keep_fieldReject_open {s r i} (hk : Kept openMask P) (hs : P s) : P (fieldReject s r i) := by
  unfold fieldReject
  refine keep_ite (keep_State_put hk.le hs) (keep_ite (keep_State_put hk.le hs) (keep_ite (keep_State_put hk.le hs) ?_))
  refine keep_ite (keep_State_setBit hk.le hs) (keep_ite (keep_State_put hk.le hs) (keep_ite (keep_State_put hk.le hs) ?_))
  split
  · exact keep_State_put hk.le hs
  · exact keep_State_put hk.le hs
  · exact keep_State_put hk.le hs
  · exact keep_State_put hk.le hs
  · exact keep_domainRefuse hk.le hs
  · exact hs

theorem keep_fieldApply_open {s path r i v} (hk : Kept openMask P) (hr : r ∉ hidden) (hs : P s) : P (fieldApply s path r i v).1 := by
  have hput : ∀ {x : State} {j : Nat}, P x → P (x.put r j v) := fun hx => keep_put_open hk hr hx
  unfold fieldApply
  split
  case _ => exact keep_foldl (fun _ _ h => hput h) hs
  case _ => exact keep_foldl (fun _ _ h => hput h) hs
  case _ => exact keep_foldl (fun _ _ h => hput h) hs
  case _ => exact keep_foldl (fun _ _ h => hput h) hs
  case _ => exact keep_foldl (fun _ _ h => hput h) hs
  case _ => exact keep_State_put hk.le (keep_State_put hk.le hs)
  case _ => exact keep_writeGroup hk.le hs
  case _ => exact keep_writePwmEn hk.le hs
  case _ => exact keep_writeSbCmd hk.le hs
  case _ => exact keep_writeSnsEn hk.le hs
  case _ => exact keep_qwrWrite hk.le hs
  case _ => exact keep_qrdWrite hk.le hs
  case _ => exact keep_encPreset hk.le hs
  case _ => exact keep_ite (hput hs) hs
  case _ => exact keep_ite hs (keep_State_put hk.le (hput hs))
  case _ => exact keep_State_put hk.le (hput hs)
  case _ => exact keep_State_put hk.le (hput hs)
  case _ => exact keep_State_put hk.le (hput hs)
  case _ => exact keep_State_put hk.le (hput hs)
  case _ => exact keep_State_put hk.le (hput hs)
  case _ => exact keep_judgeBrake hk.le (hput (keep_ite hs (keep_brakeStop hk.le hs)))
  case _ => exact keep_judgeBrake hk.le (hput hs)
  case _ => exact keep_State_put hk.le (hput hs)
  case _ => exact keep_State_put hk.le (hput hs)
  case _ => exact hput hs

theorem keep_fieldWrite_open {s path look r i v} (hk : Kept openMask P) (hr : r ∉ hidden) (hs : P s) :
    P (fieldWrite s path look r i v).1 := by
  have hreject : P (fieldReject s r i) := keep_fieldReject_open hk hs
  unfold fieldWrite
  exact keep_ite1 hs (keep_ite1 hreject (keep_ite1 hreject (keep_ite1 hreject (keep_fieldApply_open hk hr hs))))

theorem keep_command_open {s r i v} (hk : Kept openMask P) (hs : P s) : P (command s r i v).1 := by
  unfold command
  split
  · exact keep_State_put hk.le hs
  · exact keep_queueReset hk.le hs
  · exact keep_tbApply hk.le hs
  · exact keep_segRestart hk.le hs
  · exact keep_accGo hk.le hs
  · exact keep_followRestart hk.le hs
  · exact keep_clearTrip hk.le hs
  · exact keep_loadAll hk.le hs
  · exact keep_foldl (fun _ _ h => keep_loadAll hk.le h) hs
  · exact keep_gdClear hk.le hs
  · exact keep_State_put hk.le hs
  · exact keep_State_put hk.le hs
  · exact keep_encFaultClear hk.le hs
  · exact keep_unalign hk.le hs
  · exact keep_State_setBit hk.le hs
  · exact keep_shootSheet hk.le hs
  · exact keep_State_put hk.le hs
  · exact keep_calCommand hk.le hs
  · exact keep_migrateMask hk.le hs
  · exact keep_linkRestart hk.le hs
  · exact keep_mbxIn hk.le hs
  · exact hs

/-! ## Register slots -/

/-- A slot's fields are those of the tables. -/
theorem slotHits_field {a : Nat} {h : Hit} (hmem : h ∈ slotHits a) : ∃ b ∈ regBlocks, h.field ∈ b.fields := by
  simp only [slotHits, List.mem_flatMap] at hmem
  obtain ⟨b, hb, hh⟩ := hmem
  refine ⟨b, hb, ?_⟩
  unfold blockHits at hh
  split at hh
  · cases hh
  · obtain ⟨f, hf, hsome⟩ := List.mem_filterMap.mp hh
    split at hsome
    · cases hsome
      exact hf
    · cases hsome

theorem slotHits_open {a : Nat} {h : Hit} (hmem : h ∈ slotHits a) (hw : writable h.field = true) : h.field.reg ∉ hidden := by
  have htable : ∀ b ∈ regBlocks, ∀ f ∈ b.fields, writable f = true → f.reg ∉ hidden := by decide +kernel
  obtain ⟨b, hb, hf⟩ := slotHits_field hmem
  exact htable b hb h.field hf hw

theorem keep_writeHit_open {path mask data look s h} (hk : Kept openMask P) (hw : writable h.field = true → h.field.reg ∉ hidden)
    (hs : P s) : P (writeHit path mask data look s h) := by
  unfold writeHit
  refine keep_ite hs (keep_ite (keep_ite (keep_setWriteShadow hk.le hs) hs) ?_)
  split
  · rename_i hacc
    have hfield : ∀ {v}, P (fieldWrite s path (look h.inst) h.field.reg h.inst v).1 :=
      keep_fieldWrite_open hk (hw (by simp [writable, hacc])) hs
    exact keep_ite (keep_reloadShadow hk.le hfield) hfield
  · rename_i hacc
    exact keep_put_open hk (hw (by simp [writable, hacc])) hs
  · have hcommand : ∀ {v}, P (command s h.field.reg h.inst v).1 := keep_command_open hk hs
    exact keep_ite (keep_reloadShadow hk.le hcommand) (keep_ite hs hcommand)
  · exact hs

theorem keep_writeWord_open {s path a w} (hk : Kept openMask P) (hs : P s) : P (writeWord s path a w).1 := by
  have hignored : P (countIgnored s) := keep_countIgnored hk.le hs
  unfold writeWord
  split
  · exact hs
  · refine keep_ite1 hignored (keep_ite1 (keep_ite1 (keep_State_setWord hk.le hs) hignored) (keep_ite1 hignored ?_))
    refine keep_ite1 hs (keep_ite1 hs (keep_ite1 (keep_refuseSealed hk.le hs) (keep_ite1 hignored (keep_ite1 hignored ?_))))
    refine keep_foldl_mem (fun x h hh hx => ?_) hs
    simp only [ascending, List.mem_flatMap, List.mem_filter] at hh
    obtain ⟨_, -, hh, -⟩ := hh
    exact keep_writeHit_open hk (slotHits_open hh) hx

theorem keep_winWrite_open {s w} (hk : Kept openMask P) (hs : P s) : P (winWrite s w).1 := by
  have hword : P (writeWord s 1 (s.get .REG_WIN_ADDR 0) w).1 := keep_writeWord_open hk hs
  unfold winWrite
  exact keep_ite1 (keep_winNext hk.le (keep_winStat hk.le hword)) (keep_winStat hk.le hword)

theorem keep_writeBlock_open {s path a l} (hk : Kept openMask P) (hs : P s) : P (writeBlock s path a l).1 := by
  induction l generalizing s a with
  | nil => exact hs
  | cons w t ih =>
    have hword : P (writeWord s path a w).1 := keep_writeWord_open hk hs
    unfold writeBlock
    exact keep_ite1 (ih hword) hword

theorem keep_winBlockWrite_open {s bytes} (hk : Kept openMask P) (hs : P s) : P (winBlockWrite s bytes).1 := by
  unfold winBlockWrite
  exact keep_ite1 hs (keep_winStat hk.le (keep_writeBlock_open hk hs))

/-! ## Objects -/

theorem rowParts_open {row : ObjRow} (hrow : row ∈ objRows) (hacc : row.acc ≠ .ro) : ∀ p ∈ row.parts, p.reg ∉ hidden := by
  have htable : ∀ row ∈ objRows, row.acc ≠ .ro → ∀ p ∈ row.parts, p.reg ∉ hidden := by decide +kernel
  exact htable row hrow hacc

theorem keep_rowStore_open {path i v look l s} (hk : Kept openMask P) (hl : ∀ p ∈ l, p.reg ∉ hidden) (hs : P s) :
    P (rowStore path i v look l s).1 := by
  induction l generalizing s with
  | nil => exact hs
  | cons p l ih =>
    have hp : P (fieldWrite s path look p.reg i (partValue p v)).1 := keep_fieldWrite_open hk (hl p List.mem_cons_self) hs
    exact keep_ite1 (ih (fun q hq => hl q (List.mem_cons_of_mem p hq)) hp) hp

theorem keep_rowCommands_open {i v l s} (hk : Kept openMask P) (hs : P s) : P (rowCommands i v l s).1 := by
  induction l generalizing s with
  | nil => exact hs
  | cons p l ih =>
    have hp : P (command s p.reg i (partValue p v)).1 := keep_command_open hk hs
    unfold rowCommands
    exact keep_ite1 (ih hs) (keep_ite1 (ih hp) hp)

theorem keep_tableWrite_open {s path idx row i v} (hk : Kept openMask P) (hl : ∀ p ∈ row.parts, p.reg ∉ hidden) (hs : P s) :
    P (tableWrite s path idx row i v).1 := by
  unfold tableWrite
  refine keep_ite1 hs (keep_ite1 (keep_ite1 hs (keep_rowCommands_open hk hs)) ?_)
  split
  · exact keep_fieldReject_open hk hs
  · exact keep_rejectWindow hk.le hs
  · exact keep_ite (keep_State_put hk.le (keep_rowStore_open hk hl hs)) (keep_rowStore_open hk hl hs)

theorem keep_specialWrite_open {s load b i sub v} (hk : Kept openMask P) (hs : P s) : P (specialWrite s load b i sub v).1 := by
  unfold specialWrite
  refine keep_ite1 (keep_ite1 (keep_foldl (fun _ _ h => keep_State_put hk.le h) (keep_State_put hk.le hs)) hs) ?_
  refine keep_ite1 (keep_writePdoComm hk.le hs) (keep_ite1 (keep_writePdoComm hk.le hs) ?_)
  refine keep_ite1 (keep_ite1 (keep_writeMapCount hk.le hs) (keep_writeMapEntry hk.le hs)) ?_
  refine keep_ite1 (keep_ite1 (keep_writeMapCount hk.le hs) (keep_writeMapEntry hk.le hs)) ?_
  refine keep_ite1 (keep_ite1 (keep_portmapApply hk.le hs) hs) ?_
  refine keep_ite1 (keep_State_put hk.le (keep_ite (keep_State_put hk.le hs) (keep_State_put hk.le hs))) ?_
  refine keep_ite1 (keep_ite1 hs (keep_migrateMask hk.le hs)) (keep_ite1 (keep_ringSheet hk.le hs) ?_)
  refine keep_ite1 (keep_writeSegPdo hk.le hs) (keep_ite1 (keep_winWrite_open hk hs) ?_)
  refine keep_ite1 (keep_writeControlword hk.le hs) (keep_ite1 (keep_writeMode hk.le hs) ?_)
  exact keep_ite1 (keep_writeMirror hk.le hs) hs

theorem keep_specialWriteBytes_open {s b i bytes} (hk : Kept openMask P) (hs : P s) : P (specialWriteBytes s b i bytes).1 := by
  have hclear : P (s.put .ANS_ABORT 0 0) := keep_State_put hk.le hs
  unfold specialWriteBytes
  refine keep_ite1 (keep_winBlockWrite_open hk hs) ?_
  refine keep_ite (keep_segWrite hk.le hclear) (keep_ite (keep_frameWrite hk.le hclear) (keep_ite (keep_State_reply hk.le hclear) ?_))
  have htunnel : P (tunnelBegin (s.put .ANS_ABORT 0 0) true bytes).1 := keep_tunnelBegin hk.le hclear
  split
  · rename_i heq
    exact keep_fst htunnel heq
  · rename_i heq
    exact keep_State_reply hk.le (keep_fst htunnel heq)

theorem keep_objStore_open {s auth path idx sub bytes} (hk : Kept openMask P) (hs : P s) :
    P (objStore s auth path idx sub bytes).1 := by
  unfold objStore
  simp only
  split
  · exact hs
  · exact hs
  · exact hs
  · rename_i row i href
    by_cases hro : row.acc = .ro
    · simp only [hro, if_true]
      exact hs
    · rw [if_neg hro]
      exact keep_ite1 hs (keep_ite1 hs (keep_ite1 hs (keep_tableWrite_open hk (rowParts_open (objRef_table href).1 hro) hs)))
  · refine keep_ite1 hs (keep_ite1 hs (keep_ite1 (keep_specialWriteBytes_open hk hs) ?_))
    exact keep_ite1 hs (keep_ite1 hs (keep_specialWrite_open hk hs))

theorem keep_applyEntries_open {s es} (hk : Kept openMask P) (hs : P s) : P (applyEntries s es) :=
  keep_foldl (fun _ _ h => keep_objStore_open hk h) hs

/-! ## The status tick -/

theorem keep_tickDevelops_open {s} (hk : Kept openMask P) (hs : P s) : P (tickDevelops s) :=
  keep_foldl (fun _ _ h => keep_feedbackDevelop hk.le h) (keep_foldl (fun _ _ h => keep_bankDevelop hk.le h)
    (keep_groupDevelop_open hk hs))

end Sys2Proof.Proofs
end

section
/-! O14 to O17 (R60 to R65, R474 to R480): the stages of the boot, the resets and the timebase. -/

namespace Sys2Proof.Proofs

open Machine Laws

variable {s : State}

/-! ## The boot -/

theorem areaValid_atTick (s : State) (t n : Nat) : areaValid (s.atTick t) n = areaValid s n := by
  simp [areaValid, imageFault, ownsKey, profileArea, State.flag]

theorem patchFault_atTick (s : State) (t h : Nat) :
    patchFault (s.atTick t) (patchHalf (s.atTick t) h) = patchFault s (patchHalf s h) := by
  simp [patchFault, patchHalf]

theorem areaValid_put {r : Reg} {i v n : Nat} (hr : r ≠ .CLAIMED) : areaValid (s.put r i v) n = areaValid s n := by
  simp [areaValid, imageFault, ownsKey, profileArea, State.flag, hr.symm]

theorem lastRefusal_refuse {code what subject : Nat} : (refuse s code what subject).get .LAST_REFUSAL 0 = trunc 8 code := by
  simp (disch := decide) [refuse]

theorem isDead_engineDead {e e' why : Nat} (he : e' < 10) : isDead (engineDead s e why) e' = (e' == e || isDead s e') := by
  have hkept : ∀ x y : State, x.get .DEAD_MAP 0 = y.get .DEAD_MAP 0 → isDead x e' = isDead y e' := by
    intro x y h
    simp only [isDead, State.getBit, h]
  rw [hkept (engineDead s e why) (s.setBit .DEAD_MAP 0 e true) (by simp (disch := decide) [engineDead, State.setBit])]
  rw [isDead, getBit_setBit he]
  by_cases h : e' = e
  · simp [h]
  · simp [h, isDead]

theorem isDead_fold {es : List Nat} {e why : Nat} (he : e < 10) (hmem : e ∈ es ∨ isDead s e = true) :
    isDead (es.foldl (fun a e => engineDead a e why) s) e = true := by
  induction es generalizing s with
  | nil => simpa using hmem
  | cons x es ih =>
    refine ih ?_
    rw [isDead_engineDead he]
    rcases hmem with hmem | hdead
    · rcases List.mem_cons.mp hmem with rfl | hmem
      · simp
      · exact .inl hmem
    · simp [hdead]

theorem bootBank_release {b c : Nat} {r : Reg} (hr : r = .BANK_REL ∨ r = .DIE_UP) (hstage : 7 ≤ s.get .BOOT_STAGE 0) :
    (bootBank s b).get r c = if s.flag .VDRV_OK b ∧ c = b then 1 else s.get r c := by
  have hlow : ¬ s.get .BOOT_STAGE 0 < 7 := by omega
  by_cases hok : s.get .VDRV_OK b = 0
  · simp [bootBank, State.flag, hok]
  · rcases hr with rfl | rfl <;> by_cases hc : c = b <;>
      simp (disch := first | decide | omega) [bootBank, bankRelease, State.flag, hok, hlow, hc]

theorem bootBank_fold {l : List Nat} {b : Nat} {r : Reg} (hr : r = .BANK_REL ∨ r = .DIE_UP) (hstage : 7 ≤ s.get .BOOT_STAGE 0)
    (hok : s.get .VDRV_OK b = 1) (h : b ∈ l ∨ s.get r b = 1) : (l.foldl bootBank s).get r b = 1 := by
  induction l generalizing s with
  | nil => simpa using h
  | cons c l ih =>
    refine ih (by simpa (disch := decide) using hstage) (by simpa (disch := decide) using hok) ?_
    rw [bootBank_release hr hstage]
    rcases h with h | h
    · rcases List.mem_cons.mp h with rfl | h
      · simp [State.flag, hok]
      · exact .inl h
    · simp [h]

theorem svcHours_bootRom : (bootRom s).get .SVC_HOURS 0 = min (s.get .SVC_HOURS 0 + 1) (2 ^ 32 - 1) := by
  have hget : ({ s with mem := [], eccBad := [] } : State).get .SVC_HOURS 0 = s.get .SVC_HOURS 0 := rfl
  simp [bootRom, hget]

/-- A valid area's profile is loaded without a word on the fields that tell which profile is active. -/
theorem get_bootProfile_valid {r : Reg} {i : Nat} (hr : r ∈ hidden) (hstage : r ≠ .BOOT_STAGE)
    (hvalid : areaValid s (s.get .PROFSEL 0) = true) : (bootProfile s).get r i = (refreshValid s).get r i := by
  have hk := hidden_kept (refreshValid s) hr
  have hsame : areaValid (refreshValid s) (s.get .PROFSEL 0) = true := by rw [refreshValid, areaValid_put (by decide), hvalid]
  unfold bootProfile
  simp only [hsame, if_true]
  rw [get_put_reg _ hstage]
  exact keep_armScript hk.le (keep_developAll_open hk (keep_applyEntries_open hk fun _ => rfl)) i

theorem maskOf_succ {n : Nat} {p : Nat → Bool} :
    Machine.maskOf (n + 1) p = if p n then Machine.maskOf n p + 2 ^ n else Machine.maskOf n p := by
  simp [Machine.maskOf, List.range_succ]

theorem maskOf_lt {n : Nat} {p : Nat → Bool} : Machine.maskOf n p < 2 ^ n := by
  induction n with
  | zero => exact Nat.one_pos
  | succ n ih =>
    rw [maskOf_succ, Nat.pow_succ]
    split <;> omega

theorem bit_maskOf {n k : Nat} {p : Nat → Bool} : bit (Machine.maskOf n p) k = (decide (k < n) && p k) := by
  induction n with
  | zero => simp [Machine.maskOf, bit]
  | succ n ih =>
    have hstep : Machine.maskOf (n + 1) p = 2 ^ n * b2n (p n) + Machine.maskOf n p := by
      rw [maskOf_succ]
      cases p n <;> simp [b2n, Nat.add_comm]
    rw [bit, hstep, Nat.testBit_two_pow_mul_add _ maskOf_lt]
    rcases Nat.lt_trichotomy k n with hlt | rfl | hgt
    · rw [if_pos hlt, ← bit, ih]
      simp [hlt, Nat.lt_succ_of_lt hlt]
    · cases p k <;> simp [b2n]
    · have hpast : k - n ≠ 0 := by omega
      have hout : ¬ k < n + 1 := by omega
      have hone : Nat.testBit 1 (k - n) = false := by
        rw [← Nat.pow_zero 2, Nat.testBit_two_pow]
        exact decide_eq_false (Ne.symm hpast)
      cases p n <;> simp [b2n, hout, Nat.not_lt_of_lt hgt, hone]

/-- Settles O14: the lock and the missing reference, each at the first stage. -/
theorem bootTimebase : Obligations.BootTimebase := by
  unfold Obligations.BootTimebase
  refine ⟨fun tbsync s hstage hdone hever hsrc => ?_, fun crystal tbsync s hstage hdone hever hsrc habsent => ?_⟩
  · refine next_completes rfl ?_
    rw [atStage_run hstage hdone]
    rcases hsrc with hnoref | hact
    · simp (disch := decide) [bootLock, holdsTimebase, State.flag, hever, hnoref]
    · simp (disch := decide) [bootLock, holdsTimebase, State.flag, hever, hact, b2n]
  · refine next_completes rfl ?_
    rw [atStage_run hstage hdone]
    have hfits : trunc 1 (s.get .TB_SRC 0) = s.get .TB_SRC 0 := trunc_of_lt hsrc
    have habsent' : (if s.get .TB_SRC 0 = 0 then crystal else tbsync) = false := by
      interval_cases s.get .TB_SRC 0 <;> exact habsent
    simp [bootNoReference, holdsTimebase, State.flag, hever, hfits, habsent', hstage, eventFields]

/-- Settles O15: each stage of the boot runs its own step. -/
theorem bootStages : Obligations.BootStages := by
  unfold Obligations.BootStages
  refine ⟨fun t s hst hd => ?_, fun t s hst hd ha => ?_, fun t h s hst hd ha hf => ?_, fun t h s hst hd ha hf => ?_,
    fun t s hst hd hv => ?_, fun t s hst hd hv => ?_, fun t s => ?_, fun t s hst hd => ?_, fun t r l s hst hd hw => ?_, 
    fun t dead s hst hd => ?_, fun t s hst hd => ?_, fun t e s hst hd => ?_⟩
  all_goals refine next_completes rfl ?_
  · rw [next_at hst hd]
    refine ⟨fun a => rfl, ?_, ?_⟩
    · rw [svcHours_bootRom, get_atTick]
    · simp [bootRom]
  · rw [next_at hst hd]
    simp (disch := decide) [bootPatch, ha, patchStatus]
  · rw [next_at hst hd]
    simp (disch := decide) [bootPatch, ha, patchStatus, patchFault_atTick, hf, State.flag]
  · rw [next_at hst hd]
    simp (disch := decide) [bootPatch, ha, patchStatus, patchFault_atTick, hf, lastRefusal_refuse]
  · rw [next_at hst hd]
    simp (disch := decide) [bootProfile, areaValid_put, areaValid_atTick, refreshValid, hv, safeProfile]
  · rw [next_at hst hd]
    have hv' : areaValid (s.atTick t) ((s.atTick t).get .PROFSEL 0) = true := by rw [areaValid_atTick, get_atTick, hv]
    refine ⟨?_, ?_, ?_, by simp [bootProfile]⟩
    · rw [get_bootProfile_valid (by decide) (by decide) hv']
      simp [refreshValid]
    · rw [get_bootProfile_valid (by decide) (by decide) hv']
      simp [refreshValid]
    · rw [State.getBit, get_bootProfile_valid (by decide) (by decide) hv', refreshValid, get_put_same, width_PROF_VALID, trunc_of_lt maskOf_lt,
        bit_maskOf, areaValid_atTick, hv, Bool.and_true]
  · simp (disch := decide) [vanaReady]
  · rw [next_at hst hd]
    simp (disch := decide) [bootCalibration, hst]
  · rw [next_at hst hd]
    simp (disch := decide) [bootCalibration, hw]
  · rw [next_at hst hd]
    refine ⟨by simp [bootBist], fun e he hbit => ?_⟩
    have hdead : isDead ((idsWhere 10 (bit dead)).foldl (fun a e => engineDead a e 2) (s.atTick t)) e = true :=
      isDead_fold he (.inl (by simp [idsWhere, he, hbit]))
    have hkept : ∀ x : State, ((List.range 8).foldl bootEngine x).get .DEAD_MAP 0 = x.get .DEAD_MAP 0 := fun x =>
      foldl_keep (fun x i => by simp (disch := decide)) _ x
    simpa (disch := decide) [isDead, State.getBit, bootBist, hkept] using hdead
  · rw [next_at hst hd]
    refine ⟨by simp (disch := decide) [hst], fun b hb hok => ⟨?_, ?_⟩⟩
    · exact bootBank_fold (.inl rfl) (by simp [hst]) (by simp [hok]) (.inl (by simpa using hb))
    · exact bootBank_fold (.inr rfl) (by simp [hst]) (by simp [hok]) (.inl (by simpa using hb))
  · rw [next_at hst hd]
    have hfits : trunc 16 (min 65535 e) = min 65535 e := trunc_of_lt (by omega)
    refine ⟨by simp (disch := decide) [bootDone], by simp (disch := decide) [bootDone], by simp (disch := decide) [bootDone, hfits], ?_⟩
    simp (disch := decide) only [bootDone, posts_iff]
    simp (disch := decide) [hfits]
    refine se_post ?_
    simp (disch := decide)

/-- The state after reset in which one D-die has been seen by its heartbeat. -/
def heartbeatSeen : State := State.reset.put .HB_SEEN 0 1

/-- Refutes O16: a reset also keeps HB_SEEN, the heartbeat count last seen of each D-die, which `resetKeeps` does not name. In
`heartbeatSeen` it is 1 and stays 1 through a power-on reset, where the statement has the reset value 0. -/
theorem not_resets : ¬ Obligations.Resets := by
  unfold Obligations.Resets
  rintro ⟨hpower, -⟩
  obtain ⟨u, hu, hafter⟩ := hpower 0 0 false heartbeatSeen
  obtain rfl : deviceReset heartbeatSeen 0 0 0 false = u := Host.Outcome.next.inj hu
  have hkept : (deviceReset heartbeatSeen 0 0 0 false).get .HB_SEEN 0 = 1 := by decide +kernel
  have hreset : (deviceReset heartbeatSeen 0 0 0 false).get .HB_SEEN 0 = 0 := hafter.regs .HB_SEEN 0 (by decide)
  rw [hkept] at hreset
  exact absurd hreset (by decide)

/-! ## The timebase -/

@[simp] theorem trunc_ite {c : Prop} [Decidable c] {w a b : Nat} : trunc w (if c then a else b) = if c then trunc w a else trunc w b :=
  apply_ite _ _ _ _

theorem hbGood_fold_get {s : State} {r : Reg} {i : Nat} (hr : r ≠ .HB_GOOD) :
    ((List.range 4).foldl (fun a b => a.put .HB_GOOD b 0) s).get r i = s.get r i :=
  foldl_keep (fun x _ => get_put_reg x hr) _ s

theorem portDrive_timebaseLoss {s : State} {refOk pll : Bool} {p : Nat} (hr : s.get .TB_RUNNING 0 = 1) (hp : p < 32)
    (hout : s.get .HB_OUT (p / 8) = 0) : (timebaseLoss s refOk pll).get .PORT_DRIVE p = 0 := by
  have hflag : s.flag .TB_RUNNING 0 = true := by simp [hr]
  simp only [timebaseLoss, hflag, Bool.not_true, Bool.false_eq_true, if_false]
  rw [get_judgeFaultn (by decide)]
  refine portsOff_off (List.mem_filter.mpr ⟨List.mem_range.mpr hp, ?_⟩)
  simp (disch := first | decide | omega) [hbGood_fold_get, State.flag, hout]

/-- A fold over instances, of which one is asked for: what holds before its step, after it, and is kept by the other steps. -/
theorem foldl_visit {α : Type} {f : State → α → State} {P Q : State → Prop} {b : α} {l : List α} {s : State} (hb : b ∈ l)
    (hnodup : l.Nodup) (hbefore : ∀ x k, k ≠ b → P x → P (f x k)) (hat : ∀ x, P x → Q (f x b))
    (hafter : ∀ x k, k ≠ b → Q x → Q (f x k)) (hs : P s) : Q (l.foldl f s) := by
  induction l generalizing s with
  | nil => cases hb
  | cons k l ih =>
    obtain ⟨hk, hl⟩ := List.nodup_cons.mp hnodup
    rcases List.mem_cons.mp hb with rfl | hb
    · exact keep_foldl_mem (l := l) (fun x j hj hx => hafter x j (fun e => hk (e ▸ hj)) hx) (hat s hs)
    · exact ih hb hl (hbefore s k (fun e => hk (e ▸ hb)) hs)

/-! ## The status tick -/

/-- The work of a status tick between its heartbeats and the switch of profiles. -/
def tickWork (s : State) : State :=
  (List.range 8).foldl gather ((List.range 8).foldl judgeBathStill (tickDevelops (domainTick (throttleTick (auxTick (auxTick s 0) 1)))))

theorem statusTick_eq {s : State} (hr : s.get .TB_RUNNING 0 = 1) :
    statusTick s = (judgeTpdos (switchDevice (tickWork ((List.range 4).foldl heartbeat
      ((s.atTick (nextTick s)).put .TICK_LAST 0 (s.atTick (nextTick s)).ts))))).refreshCopies := by
  simp [statusTick, State.flag, hr, tickWork]

theorem get_tickDevelops {s : State} {r : Reg} {i : Nat} (hr : r ∈ hidden) : (tickDevelops s).get r i = s.get r i :=
  keep_tickDevelops_open (hidden_kept s hr) (fun _ => rfl) i

theorem mem_hidden_of_tick : ∀ {r : Reg}, r ∈ [Reg.PROF_DEVICE, .HB_TICK, .HB_COUNT] → r ∈ hidden := by decide

theorem get_tickWork {s : State} {r : Reg} {i : Nat} (hr : r ∈ [Reg.PROF_DEVICE, .HB_TICK, .HB_COUNT]) :
    (tickWork s).get r i = s.get r i := by
  have hdevelops := fun x => get_tickDevelops (s := x) (i := i) (mem_hidden_of_tick hr)
  simp only [List.mem_cons, List.not_mem_nil, or_false] at hr
  rcases hr with rfl | rfl | rfl <;>
    simp (disch := first | decide | (intros; simp (disch := decide))) [tickWork, hdevelops]

theorem ts_tickWork {s : State} : (tickWork s).ts = s.ts := by
  simp (disch := first | decide | (intros; simp (disch := decide))) [tickWork]

/-- What a D-die's heartbeat leaves alone: the fields of the other D-dies, and the time-stamp. -/
theorem heartbeat_other {s : State} {b k : Nat} {r : Reg} (h : b ≠ k) : (heartbeat s k).get r b = s.get r b := by
  unfold heartbeat takeHeartbeat State.countWrap
  simp only
  split_ifs <;> simp [get_put, h]

theorem ts_heartbeat' {s : State} {k : Nat} : (heartbeat s k).ts = s.ts := by
  unfold heartbeat takeHeartbeat State.countWrap
  simp only
  split_ifs <;> rfl

/-- A heartbeat that continues the count seen last. -/
theorem heartbeat_valid {s : State} {b : Nat} (h : s.get .HB_SEEN b % 16 = s.get .HB_COUNT b % 16) :
    (heartbeat s b).get .HB_TICK b = s.ts % 2 ^ 64 ∧ (heartbeat s b).get .HB_COUNT b = (s.get .HB_COUNT b + 1) % 2 ^ Reg.width .HB_COUNT := by
  have hvalid : trunc 4 (s.get .HB_COUNT b + 1) % 16 = (s.get .HB_SEEN b + 1) % 16 := by
    simp only [trunc]
    omega
  simp (disch := decide) [heartbeat, takeHeartbeat, hvalid]
  simp [trunc]

/-- Every D-die is beaten once in a status tick. -/
theorem heartbeats_valid {s : State} {b : Nat} (hb : b < 4) (h : s.get .HB_SEEN b % 16 = s.get .HB_COUNT b % 16) :
    let u := (List.range 4).foldl heartbeat s
    u.get .HB_TICK b = s.ts % 2 ^ 64 ∧ u.get .HB_COUNT b = (s.get .HB_COUNT b + 1) % 2 ^ Reg.width .HB_COUNT := by
  refine foldl_visit (b := b) (P := fun x => x.ts = s.ts ∧ ∀ r, x.get r b = s.get r b)
    (Q := fun x => x.get .HB_TICK b = s.ts % 2 ^ 64 ∧ x.get .HB_COUNT b = (s.get .HB_COUNT b + 1) % 2 ^ Reg.width .HB_COUNT)
    (List.mem_range.mpr hb) (List.nodup_range) ?_ ?_ ?_ ⟨rfl, fun _ => rfl⟩
  · rintro x k hk ⟨hts, hget⟩
    exact ⟨ts_heartbeat'.trans hts, fun r => (heartbeat_other hk.symm).trans (hget r)⟩
  · rintro x ⟨hts, hget⟩
    rw [← hts, ← hget .HB_COUNT]
    exact heartbeat_valid (by rw [hget, hget, h])
  · rintro x k hk ⟨htick, hcount⟩
    exact ⟨(heartbeat_other hk.symm).trans htick, (heartbeat_other hk.symm).trans hcount⟩

/-- Settles O17: loss, restart and source of the timebase, the delay line and the status tick. -/
theorem timebase : Obligations.Timebase := by
  unfold Obligations.Timebase
  refine ⟨fun s hi he hs => ?_, fun s hi => ?_, fun t refOk pll s hr hl => ?_, fun gap levels s hr he => ?_,
    fun t elems s hr h0 h1 => ?_, fun t s hr hf => ?_, fun s hr hp hb => ?_⟩
  all_goals refine next_completes rfl ?_
  · simp (disch := first | decide | omega) [tbApply, hi, he, State.flag]
  · simp (disch := first | decide | omega) [tbApply, hi]
  · have hrun : (s.atTick t).get .TB_RUNNING 0 = 1 := by simp [hr]
    have hflag : (s.atTick t).flag .TB_RUNNING 0 = true := by simp [hr]
    have hlock : (timebaseLoss (s.atTick t) refOk pll).flag .LOCKED 0 = false := by
      simp (disch := decide) [State.flag, hl]
    simp only [hflag, if_true, linkTimebaseLoss, hlock, if_false, Bool.false_eq_true]
    refine ⟨?_, by simp (disch := decide), by simp (disch := decide) [ts_run hr], ?_, ?_,
      fun p hp hout => portDrive_timebaseLoss hrun hp (by simpa using hout), by simp (disch := decide)⟩
    all_goals simp (disch := decide) [timebaseLoss, State.flag, hr, hbGood_fold_get, b2n]
  · simp (disch := first | decide | omega | (intros; simp (disch := decide))) [timebaseRestart, hr, he, State.flag]
  · simp (disch := first | decide | omega) [delayLine, hr, State.flag, h0]
  · simp (disch := first | decide | omega) [delayLine, hr, State.flag, hf]
    refine se_post ?_
    simp (disch := decide)
  · rw [statusTick_eq hr]
    have hdevice : ∀ x : State, x.get .PROF_DEVICE 0 = 0 → switchDevice x = x := by
      intro x hx
      simp [switchDevice, State.flag, hx]
    have hstart : ∀ b, ((s.atTick (nextTick s)).put .TICK_LAST 0 (s.atTick (nextTick s)).ts).get .HB_SEEN b = s.get .HB_SEEN b ∧
        ((s.atTick (nextTick s)).put .TICK_LAST 0 (s.atTick (nextTick s)).ts).get .HB_COUNT b = s.get .HB_COUNT b := fun b => by simp
    have hts : ((s.atTick (nextTick s)).put .TICK_LAST 0 (s.atTick (nextTick s)).ts).ts = nextTick s := by
      rw [put_ts, ts_run hr, nextTick]
      split_ifs <;> omega
    have hzero : ((s.atTick (nextTick s)).put .TICK_LAST 0 (s.atTick (nextTick s)).ts).get .PROF_DEVICE 0 = 0 := by simp [hp]
    generalize (s.atTick (nextTick s)).put .TICK_LAST 0 (s.atTick (nextTick s)).ts = x at hstart hts hzero
    have hwork : (tickWork ((List.range 4).foldl heartbeat x)).get .PROF_DEVICE 0 = 0 := by
      rw [get_tickWork (by decide), foldl_keep (fun y k => by simp (disch := decide)) _ x, hzero]
    rw [hdevice _ hwork]
    have hbeats : ((List.range 4).foldl heartbeat x).ts = nextTick s := (ts_fold fun _ _ => ts_heartbeat').trans hts
    have hticked : (judgeTpdos (tickWork ((List.range 4).foldl heartbeat x))).ts = nextTick s := by
      rw [ts_judgeTpdos, ts_tickWork, hbeats]
    have hget : ∀ y : State, y.refreshCopies.get = y.get ∧ y.refreshCopies.ts = y.ts := fun _ => ⟨rfl, rfl⟩
    refine ⟨rfl, by rw [(hget _).2, hticked, nextTick], fun b hlt => ?_⟩
    obtain ⟨htick, hcount⟩ := heartbeats_valid (s := x) hlt (by rw [(hstart b).1, (hstart b).2, hb b hlt])
    rw [(hget _).1, (hget _).2, hticked, get_judgeTpdos (by decide), get_judgeTpdos (by decide), get_tickWork (by decide), get_tickWork (by decide),
      htick, hcount, hts, (hstart b).2]
    exact ⟨rfl, rfl⟩

end Sys2Proof.Proofs
end

section
/-! Properties that depend on a few fields, developed copies and the time-stamp: every definition that leaves those alone keeps
them, by the lemma `keep_<definition>` of the definition. -/

namespace Sys2Proof.Proofs

open Machine Laws

theorem testBit_xor_rbits {l : List Reg} {r : Reg} (h : (Nat.xor rall (rbits l)).testBit r.ctorIdx = true) : r ∉ l := by
  intro hr
  have hoff := testBit_xor_self h (testBit_rbits hr)
  rw [testBit_rall] at hoff
  cases hoff

/-- A property of the fields in `l`, the developed copies in `d` and the time-stamp. -/
theorem kept_of_fields {P : State → Prop} (l d : List Reg)
    (h : ∀ x y : State, (∀ r ∈ l, ∀ i, y.get r i = x.get r i) → (∀ r ∈ d, ∀ i, y.dv r i = x.dv r i) → y.ts = x.ts → P x → P y) :
    Kept ⟨Nat.xor rall (rbits l), Nat.xor rall (rbits d), 0x7ff⟩ P := by
  have hsame : ∀ x y : State, y.regs = x.regs → y.dev = x.dev → y.ts = x.ts → P x → P y := by
    intro x y hregs hdev hts
    exact h x y (fun r _ i => by rw [State.get, State.get, hregs]) (fun r _ i => by rw [State.dv, State.dv, hdev]) hts
  constructor
  case plain => exact fun x y hregs hdev _ _ _ _ _ _ _ _ _ _ _ _ _ _ hts hx => hsame x y hregs hdev hts hx
  case put =>
    intro x r i v hx b
    refine h x _ (fun r' hr' j => ?_) (fun _ _ _ => rfl) rfl hx
    exact get_set_reg (.inl fun e => testBit_xor_rbits b (e ▸ hr'))
  case putDev =>
    intro x r i v hx b
    refine h x _ (fun _ _ _ => rfl) (fun r' hr' j => ?_) rfl hx
    exact get_set_reg (.inl fun e => testBit_xor_rbits b (e ▸ hr'))
  case readShadow => intro x p k v hx _; unfold setReadShadow; split <;> exact hsame x _ rfl rfl rfl hx
  case writeShadow => intro x p r i v hx _; unfold setWriteShadow; split <;> exact hsame x _ rfl rfl rfl hx
  case takeReads => exact fun x y _ hy _ => hsame y _ rfl rfl rfl hy
  case takeWrites => exact fun x y _ hy _ => hsame y _ rfl rfl rfl hy
  case clock => exact fun _ _ _ _ b => absurd (show Nat.testBit 0x7ff 12 = true from b) (by decide)
  case reset => exact fun _ _ b => absurd (show Nat.testBit 0x7ff 11 = true from b) (by decide)
  all_goals
    intro x
    intros
    rename_i hx _
    exact hsame x _ rfl rfl rfl hx

/-! ## Ports that stay off -/

/-- The port is off, and nothing drives it: its owner `o` is an X-port's, or its bank is in lock-out. -/
structure StaysOff (p o : Nat) (s : State) : Prop where
  off : s.get .PORT_DRIVE p = 0
  owner : s.portOwner p = o
  barred : o = 0xE ∨ s.get .VDRV_OK (p / 8) = 0

/-- The fields of `StaysOff`. -/
def offFields : List Reg := [.PORT_DRIVE, .PORT_ROLE_DEV, .VDRV_OK]

/-- What leaves the fields of `StaysOff` alone. -/
def offMask : Mask := ⟨Nat.xor rall (rbits offFields), rall, 0x7ff⟩

variable {p o i : Nat}

theorem staysOff_congr {x y : State} (h : ∀ r ∈ offFields, ∀ i, y.get r i = x.get r i) (hx : StaysOff p o x) :
    StaysOff p o y := by
  obtain ⟨hoff, howner, hbarred⟩ := hx
  refine ⟨(h .PORT_DRIVE (by decide) p).trans hoff, ?_, ?_⟩
  · rw [State.portOwner, h .PORT_ROLE_DEV (by decide), ← howner, State.portOwner]
  · rwa [h .VDRV_OK (by decide)]

theorem staysOff_kept (p o : Nat) : Kept offMask (StaysOff p o) :=
  (kept_of_fields offFields [] fun _ _ h _ _ => staysOff_congr h).le

section
variable {s : State}

theorem staysOff_portOff {q : Nat} (h : StaysOff p o s) : StaysOff p o (portOff s q) := by
  obtain ⟨hoff, howner, hbarred⟩ := h
  refine ⟨?_, ?_, ?_⟩
  · by_cases hq : p = q
    · subst hq
      simp [portOff]
    · simp [portOff, hq, hoff]
  · simpa [State.portOwner, portOff] using howner
  · simpa [portOff] using hbarred

theorem staysOff_portsOff {ps : List Nat} (h : StaysOff p o s) : StaysOff p o (portsOff s ps) :=
  keep_foldl (fun _ _ hx => staysOff_portOff hx) h

theorem staysOff_drivePort {q v : Nat} (hq : q = p → o ≠ 0xE) (h : StaysOff p o s) : StaysOff p o (drivePort s q v) := by
  have hoff := staysOff_portOff (q := q) h
  obtain ⟨-, -, hbarred⟩ := h
  unfold drivePort
  dsimp only
  split
  · exact hoff
  next hdriven =>
    have hother : q ≠ p := by
      rintro rfl
      have hlow := hbarred.resolve_left (hq rfl)
      simp [State.flag, hlow] at hdriven
    obtain ⟨hdrive, howner, -⟩ := hoff
    refine ⟨?_, ?_, ?_⟩
    · simp (disch := first | decide | omega) [interlockWait, hdrive]
    · simpa (disch := decide) [State.portOwner, interlockWait] using howner
    · simpa (disch := decide) [interlockWait, portOff] using hbarred

theorem staysOff_applyVariant (hi : i < 8) (h : StaysOff p o s) : StaysOff p o (applyVariant s i) := by
  refine List.foldlRecOn _ _ h fun a ha q hq => staysOff_drivePort ?_ ha
  rintro rfl ho
  have howner := h.owner
  simp [State.slotPorts, idsWhere] at hq
  omega

theorem staysOff_setVariant {v : Nat} (hi : i < 8) (h : StaysOff p o s) : StaysOff p o (setVariant s i v) := by
  have hk := staysOff_kept p o
  unfold setVariant
  refine keep_ite h (staysOff_applyVariant hi (keep_ite ?_ ?_))
  · exact keep_State_put hk.le (keep_State_put hk.le (keep_State_put hk.le h))
  · exact keep_State_put hk.le (keep_State_put hk.le h)

theorem staysOff_rechoose (h : StaysOff p o s) : StaysOff p o (rechoose s i) := by
  refine List.foldlRecOn _ _ h fun a ha k hk => staysOff_setVariant ?_ ha
  simp [bathsOver, idsWhere] at hk
  exact hk.1

theorem staysOff_slotPortsOff (h : StaysOff p o s) : StaysOff p o (slotPortsOff s i) := staysOff_portsOff h

theorem staysOff_driveDown {ds : Nat} (h : StaysOff p o s) : StaysOff p o (driveDown s i ds) := by
  have hk := staysOff_kept p o
  have hrest : StaysOff p o (restDevelop (((cutMotion s i).put .DRIVE_STATE i ds).setBit .PWR_STATE i 3 false) i) :=
    keep_restDevelop hk.le (keep_State_setBit hk.le (keep_State_put hk.le (keep_cutMotion hk.le h)))
  exact keep_ite (staysOff_slotPortsOff hrest) hrest

theorem staysOff_bathSlot {m sc c : Nat} (hi : i < 8) (h : StaysOff p o s) : StaysOff p o (bathSlot m sc c s i) := by
  have hk := staysOff_kept p o
  have hcount := keep_State_count hk.le (r := .SB_CNT) (i := i) h
  unfold bathSlot
  refine keep_ite hcount (keep_unhome hk.le (keep_postBath hk.le (staysOff_applyVariant hi ?_)))
  have hstill : ∀ v, StaysOff p o ((cutMotion (State.put (((((s.count .SB_CNT i).put .SB_GROUP i m).put .SB_SCOPE i sc).put
      .SB_CAUSE i c)) .SB_STATE i v) i).put .SB_STILL_SINCE i 0) := fun v =>
    keep_State_put hk.le (keep_cutMotion hk.le (keep_State_put hk.le (keep_State_put hk.le (keep_State_put hk.le
      (keep_State_put hk.le hcount)))))
  exact keep_ite (keep_State_put hk.le (hstill _)) (hstill _)

theorem staysOff_enterBath {l : List Nat} {sc c : Nat} (hl : ∀ i ∈ l, i < 8) (h : StaysOff p o s) :
    StaysOff p o (enterBath s l sc c) :=
  List.foldlRecOn _ _ h fun _ ha i hi => staysOff_bathSlot (hl i hi) ha

theorem staysOff_bathFault {l : List Nat} {sc c arg : Nat} (hl : ∀ i ∈ l, i < 8) (h : StaysOff p o s) :
    StaysOff p o (bathFault s l sc c arg) := by
  have hk := staysOff_kept p o
  refine keep_judgeFaultn hk.le (keep_foldl (fun _ _ ha => staysOff_driveDown ha) (staysOff_enterBath hl ?_))
  exact keep_foldl (fun _ _ ha => keep_enterReaction hk.le ha) h

theorem staysOff_enterRide (h : StaysOff p o s) : StaysOff p o (enterRide s i) := by
  have hk := staysOff_kept p o
  exact keep_ite h (keep_unhome hk.le (keep_State_post hk.le (keep_State_setBit hk.le (keep_State_put hk.le
    (keep_State_put hk.le (staysOff_driveDown h))))))

theorem staysOff_allOffFault {c arg : Nat} (hi : i < 8) (h : StaysOff p o s) : StaysOff p o (allOffFault s i c arg) := by
  have hdown := staysOff_driveDown (i := i) (ds := dsFault) (keep_enterReaction (staysOff_kept p o).le (i := i) (cause := c)
    (arg := arg) h)
  exact staysOff_slotPortsOff (keep_ite (staysOff_setVariant hi hdown) hdown)

theorem staysOff_loseSupply {c arg : Nat} (hi : i < 8) (h : StaysOff p o s) : StaysOff p o (loseSupply s i c arg) := by
  have hk := staysOff_kept p o
  refine keep_ite h (keep_ite (keep_ite (staysOff_enterRide h) ?_) (keep_ite ?_ (keep_unhome hk.le h)))
  · exact keep_unhome hk.le (staysOff_allOffFault hi h)
  · exact keep_unhome hk.le (staysOff_driveDown h)

theorem bankSlots_lt {b : Nat} (h : i ∈ bankSlots s b) : i < 8 := by
  simp [bankSlots, idsWhere] at h
  exact h.1

/-! ## O18: supervision of the D-dies -/

theorem mem_bankPorts {b p : Nat} (hp : p / 8 = b) : p ∈ bankPorts b := by
  simp only [bankPorts, List.mem_map, List.mem_range]
  exact ⟨p % 8, by omega, by omega⟩

theorem bankPorts_nodup (b : Nat) : (bankPorts b).Nodup :=
  List.nodup_range.map fun _ _ h => by simpa using h

/-- What the watchdog of a D-die sets and clears where the device has run. -/
def withoutHeartbeat (s : State) (b : Nat) : State := (((s.put .HB_OUT b 1).put .HB_LOST b 1).count .HB_LOST_CNT b).put .HB_GOOD b 0

/-- The X-ports of a bank turned off. -/
def xPortsOff (s : State) (b : Nat) : State := (bankPorts b).foldl (fun a p => if a.isX p then portOff a p else a) s

theorem watchdogExpiry_late {b : Nat} (hout : s.get .HB_OUT b = 0) (hup : s.get .DIE_UP b = 1) (hrun : s.get .TB_RUNNING 0 = 1)
    (hever : s.get .TB_EVER 0 = 1) (hlate : ¬ s.ts ≤ s.get .HB_TICK b + 20 * ticksPerUs) :
    let x := xPortsOff (withoutHeartbeat s b) b
    watchdogExpiry s b = bathFault ((bankSlots x b).foldl applyVariant
      (if bankSlots x b = [] then x.post 0x0900 0x3 noSlot (gdArg 0xA noPort b) else x)) (bankSlots x b) 2 0xA
      (gdArg 0xA noPort b) := by
  simp (disch := first | decide | (intros; simp (disch := decide))) [watchdogExpiry, State.flag, hout, hup, hrun, hever, hlate,
    xPortsOff, withoutHeartbeat]
  rfl

theorem portOwner_portOff {q : Nat} : (portOff s q).portOwner p = s.portOwner p := by
  simp [State.portOwner, portOff]

/-- An X-port of the bank is off once the bank's X-ports are. -/
theorem staysOff_xPortsOff {b : Nat} (hp : p / 8 = b) (hx : s.portOwner p = 0xE) : StaysOff p 0xE (xPortsOff s b) := by
  refine foldl_visit (P := fun x => x.portOwner p = 0xE) (mem_bankPorts hp) (bankPorts_nodup b) ?_ ?_ ?_ hx
  · intro x k _ hown
    exact keep_ite (P := fun x => x.portOwner p = 0xE) (portOwner_portOff.trans hown) hown
  · intro x hown
    have hisX : x.isX p = true := by simp [State.isX, hown]
    simp only [hisX, if_true]
    exact ⟨by simp [portOff], portOwner_portOff.trans hown, .inl rfl⟩
  · exact fun x k _ h => keep_ite (staysOff_portOff h) h

/-- What a lock-out of the gate supply writes before it turns the bank off. -/
def supplyLost (s : State) (b mv : Nat) : State :=
  let s := s.put .VDRV_MV b mv
  let s := if mv < 5000 then portsOff (((s.put .BANK_REL b 0).put .HB_OUT b 0).put .DIE_UP b 0) (bankPorts b) else s
  ((s.put .VDRV_OK b 0).put .VDRV_UV_SEEN b 1).count .VDRV_UV_CNT b

/-- What a lock-out does to one slot of the bank. -/
def slotLoses (b : Nat) (s : State) (i : Nat) : State :=
  let s := rechoose s i
  loseSupply (if s.get .SB_STATE i = 0 then slotPortsOff s i else s) i 5 (gdArg 5 noPort b)

theorem vdrvLockout_on {b mv : Nat} (hmv : ¬ 8600 ≤ mv) (hok : s.get .VDRV_OK b = 1) :
    let x := judgePowers (portsOff ((supplyLost s b mv).post 0x0905 0x3 noSlot (b + 256)) (bankPorts b))
    vdrvLockout s b mv = judgeFaultn ((bankSlots x b).foldl (slotLoses b) x) := by
  have hset : ¬ (!State.flag (if mv < 5000 then portsOff ((((s.put .VDRV_MV b mv).put .BANK_REL b 0).put .HB_OUT b 0).put
      .DIE_UP b 0) (bankPorts b) else s.put .VDRV_MV b mv) .VDRV_OK b) = true := by
    split <;> simp (disch := decide) [State.flag, hok]
  simp only [vdrvLockout, hmv, if_false, hset]
  rfl

end

section
variable (t : Nat) (b : Bank) (s : State)

theorem watchdogExpiry_lost (hout : s.get .HB_OUT b = 0) (hup : s.get .DIE_UP b = 1) (hrun : s.get .TB_RUNNING 0 = 1)
    (hever : s.get .TB_EVER 0 = 1) (hlate : s.get .HB_TICK b + 3200 < max s.ts t) :
    Completes (.ddieWatchdogExpiry t b) s fun u =>
      u.get .HB_OUT b = 1 ∧ u.get .HB_LOST b = 1 ∧ u.get .HB_LOST_CNT b = min (s.get .HB_LOST_CNT b + 1) 65535 ∧
      u.get .HB_GOOD b = 0 ∧ ∀ p < 32, p / 8 = b.val → s.isX p = true → u.get .PORT_DRIVE p = 0 := by
  refine next_completes rfl ?_
  have hage : ¬ (s.atTick t).ts ≤ (s.atTick t).get .HB_TICK b + 20 * ticksPerUs := by
    simp only [ts_run hrun, get_atTick, ticksPerUs]
    omega
  rw [watchdogExpiry_late (by simpa using hout) (by simpa using hup) (by simpa using hrun) (by simpa using hever) hage]
  refine ⟨?_, ?_, ?_, ?_, fun p _ hb hx => ?_⟩
  case refine_5 =>
    have hoff : StaysOff p 0xE (xPortsOff (withoutHeartbeat (s.atTick t) b) b) := by
      refine staysOff_xPortsOff hb ?_
      simpa [State.isX, State.portOwner, withoutHeartbeat] using hx
    have hk := staysOff_kept p 0xE
    refine (staysOff_bathFault (o := 0xE) (fun _ => bankSlots_lt) ?_).off
    refine keep_foldl_mem (fun a i hi ha => staysOff_applyVariant (bankSlots_lt hi) ha) ?_
    exact keep_ite (keep_State_post hk.le hoff) hoff
  all_goals
    split <;> simp (disch := first | decide | (intros; simp (disch := decide))) [xPortsOff, withoutHeartbeat]

theorem vdrvLockout_low (mv : Nat) (hlow : mv < 8600) (hok : s.get .VDRV_OK b = 1) :
    Completes (.vdrvLockout t b mv) s fun u =>
      u.get .VDRV_OK b = 0 ∧ u.get .VDRV_UV_SEEN b = 1 ∧ u.get .VDRV_MV b = mv ∧
      u.get .VDRV_UV_CNT b = min (s.get .VDRV_UV_CNT b + 1) 65535 ∧ ∀ p < 32, p / 8 = b.val → u.get .PORT_DRIVE p = 0 := by
  refine next_completes rfl ?_
  have hmv : ¬ 8600 ≤ mv := by omega
  refine ⟨?_, ?_, ?_, ?_, fun p _ hb => ?_⟩
  case refine_5 =>
    rw [vdrvLockout_on hmv (by simpa using hok)]
    have hoff : StaysOff p _ (portsOff ((supplyLost (s.atTick t) b mv).post 0x0905 0x3 noSlot (b + 256)) (bankPorts b)) :=
      ⟨portsOff_off (mem_bankPorts hb), rfl, .inr (by simp (disch := decide) [supplyLost, hb])⟩
    have hk := staysOff_kept p (State.portOwner (portsOff ((supplyLost (s.atTick t) b mv).post 0x0905 0x3 noSlot (b + 256))
      (bankPorts b)) p)
    refine (keep_judgeFaultn hk.le (keep_foldl_mem (fun a i hi ha => ?_) (keep_judgePowers hk.le hoff))).off
    exact staysOff_loseSupply (bankSlots_lt hi) (keep_ite (staysOff_slotPortsOff (staysOff_rechoose ha)) (staysOff_rechoose ha))
  all_goals
    simp (disch := first | decide | omega | (intros; simp (disch := decide))) [vdrvLockout, State.flag, hok, hmv]

/-- Settles O18, clause by clause. -/
theorem dieSupervision : Obligations.DieSupervision := by
  refine ⟨watchdogExpiry_lost, ?_, ?_, fun t mv b s => vdrvLockout_low t b s mv, ?_, ?_⟩
  · intro t b s hout hrun hgood hage
    refine next_completes rfl ?_
    have hlate : ¬ (s.atTick t).ts < s.get .HB_GOOD b + ticksPerMs := by simp only [ts_run hrun, ticksPerMs]; omega
    simp (disch := first | decide | omega | (intros; simp (disch := decide))) [dieRelease, State.flag, hout, hrun, hgood, hlate]
  · intro t b s hok hout hstage
    refine next_completes rfl ?_
    have hup : ¬ s.get .BOOT_STAGE 0 < 7 := by omega
    simp (disch := first | decide | omega | (intros; simp (disch := decide))) [bankRelease, State.flag, hout, hok, hup]
    intro c hc
    simp (disch := first | decide | omega)
  · intro t mv b s hok hmv
    refine next_completes rfl ?_
    simp (disch := first | decide | omega | (intros; simp (disch := decide))) [vdrvLockout, hok]
  · intro t mv b s hrel hmv hok
    refine next_completes rfl ?_
    have hmv' : ¬ mv ≤ 9000 := by omega
    simp (disch := first | decide | omega | (intros; simp (disch := decide))) [vdrvRelease, State.flag, hok, hmv']
end

end Sys2Proof.Proofs
end

section
/-! O19: frames of host SPI. O21: the register window and the writes of objects. -/

namespace Sys2Proof.Proofs

open Machine Laws

/-! ## Words of the SRAMs of domain 2 -/

section
variable {s : State} {path a w : Nat}

theorem blockDomain_sram (ha : 0x400000 ≤ a) (hb : a < 0x440000) : blockDomain a = some 2 := by
  unfold blockDomain
  simp (disch := omega) [if_neg, ha, hb]

theorem readWord_sram (hon : s.getBit .DOM_ON 0 2 = true) (ha : 0x400000 ≤ a) (hb : a < 0x440000) :
    readWord s path a = (s, s.word a, 0) := by
  have hsram : isSram a = true := by simp [isSram]; omega
  simp [readWord, blockDomain_sram ha hb, domLive, hon, hsram]

theorem writeWord_sram (hon : s.getBit .DOM_ON 0 2 = true) (ha : 0x420000 ≤ a) (hb : a < 0x440000) :
    writeWord s path a w = (s.setWord a w, 0) := by
  have hsram : isSram a = true := by simp [isSram]; omega
  have hwritable : sramWritable a = true := by simpa [sramWritable] using ha
  simp [writeWord, blockDomain_sram (by omega) hb, domLive, hon, hsram, hwritable]

end

/-! ## O19: frames of host SPI -/

/-- The answer is nothing an event writes. -/
theorem se_answer {x y : State} {v : List Nat} : SameEvents x { y with answer := v } ↔ SameEvents x y :=
  ⟨fun ⟨hr, hd, hm, ht⟩ => ⟨hr, hd, hm, ht⟩, fun ⟨hr, hd, hm, ht⟩ => ⟨hr, hd, hm, ht⟩⟩

theorem get_answer {y : State} {v : List Nat} {r : Reg} {i : Nat} : State.get { y with answer := v } r i = y.get r i := rfl

theorem get_spiNext {s : State} : (spiNext s).get .SPI_BITS 0 = s.get .SPI_BITS 0 := by
  unfold spiNext
  split <;> simp

theorem se_spiNext {x s : State} (h : SameEvents x s) : SameEvents x (spiNext s) := by
  unfold spiNext
  split <;> simpa (disch := decide) using h

theorem mem_spiNext {s : State} : (spiNext s).mem = s.mem := by
  unfold spiNext
  split <;> rfl

theorem get_addErr {s : State} {e : Nat} (h : s.get .SPI_BITS 0 < 2 ^ 5) (he : e < 2 ^ 5) :
    (addErr s e).get .SPI_BITS 0 = s.get .SPI_BITS 0 ||| e :=
  (get_put_same _).trans (trunc_of_lt (Nat.or_lt_two_pow h he))

section
variable (s : State)

theorem spiHeader_read (cmd addr : Nat) (hcmd : cmd < 256) (haddr : addr < 2 ^ 24) (hop : cmd % 64 = 0x16)
    (halign : addr % 4 = 0) : Completes (.spiCommandHeader cmd addr) s fun u =>
      u.answer = [s.get .SPI_STAT 0, 0, 0, 0] ∧ u.get .SPI_OPEN 0 = 1 ∧ u.get .SPI_DEAD 0 = 0 ∧ u.get .SPI_BITS 0 = 0 ∧
      u.get .SPI_WRITE 0 = cmd / 128 ∧ u.get .SPI_INC 0 = cmd / 64 % 2 ∧ u.get .SPI_ADDR 0 = addr ∧ PostsNone s u := by
  refine next_completes rfl ?_
  simp (disch := first | decide | omega) [spiHeader, hop, halign]
  exact ⟨by simp [trunc], fun _ _ _ => rfl, fun _ => ⟨rfl, rfl⟩, rfl, rfl⟩

theorem spiHeader_bad (cmd addr : Nat) (hop : cmd % 64 ≠ 0x16) : Completes (.spiCommandHeader cmd addr) s fun u =>
    u.answer = [s.get .SPI_STAT 0, 0, 0, 0] ∧ u.get .SPI_DEAD 0 = 1 ∧ u.get .SPI_BITS 0 = 2 ∧ PostsNone s u := by
  refine next_completes rfl ?_
  simp (disch := first | decide | omega) [spiHeader, hop, addErr, errFrame]
  exact ⟨fun _ _ _ => rfl, fun _ => ⟨rfl, rfl⟩, rfl, rfl⟩

theorem spiWrite_sram (w : Nat) (hw : w < 2 ^ 32) (hbits : s.get .SPI_BITS 0 < 32) (hopen : s.get .SPI_OPEN 0 = 1)
    (hdead : s.get .SPI_DEAD 0 = 0) (hwrite : s.get .SPI_WRITE 0 = 1) (ha : 0x420000 ≤ s.get .SPI_ADDR 0)
    (hb : s.get .SPI_ADDR 0 < 0x440000) (hon : s.getBit .DOM_ON 0 2 = true) : Completes (.spiWriteWord w) s fun u =>
      u.word (s.get .SPI_ADDR 0) = w ∧ u.get .SPI_BITS 0 = s.get .SPI_BITS 0 ∧
      u.get .SPI_ADDR 0 = s.get .SPI_ADDR 0 + (if s.get .SPI_INC 0 = 0 then 0 else 4) ∧
      ∀ a, a < s.get .SPI_ADDR 0 ∨ s.get .SPI_ADDR 0 + 4 ≤ a → u.mem.read a = s.mem.read a := by
  refine next_completes rfl ?_
  have hmem : (spiWrite s w).mem = s.mem.setWord (s.get .SPI_ADDR 0) w := by
    simp [spiWrite, State.flag, hopen, hdead, hwrite, writeWord_sram hon ha hb, mem_spiNext, addErr]
  refine ⟨?_, ?_, ?_, fun a ha => ?_⟩
  · rw [State.word, hmem]
    exact word_setWord hw
  · have hset : (s.setWord (s.get .SPI_ADDR 0) w).get .SPI_BITS 0 < 2 ^ 5 := hbits
    simp [spiWrite, State.flag, hopen, hdead, hwrite, writeWord_sram hon ha hb, get_spiNext, get_addErr hset]
  · by_cases hinc : s.get .SPI_INC 0 = 0 <;>
      simp (disch := first | decide | omega) [spiWrite, State.flag, hopen, hdead, hwrite, writeWord_sram hon ha hb, spiNext,
        addErr, hinc]
  · rw [hmem]
    exact read_setWord_other ha

theorem spiRead_sram (hbits : s.get .SPI_BITS 0 < 32) (hopen : s.get .SPI_OPEN 0 = 1) (hdead : s.get .SPI_DEAD 0 = 0)
    (hwrite : s.get .SPI_WRITE 0 = 0) (ha : 0x400000 ≤ s.get .SPI_ADDR 0) (hb : s.get .SPI_ADDR 0 < 0x440000)
    (hon : s.getBit .DOM_ON 0 2 = true) : Completes (.spiReadWord true) s fun u =>
      u.answer = [0xA5, s.word (s.get .SPI_ADDR 0)] ∧ u.get .SPI_BITS 0 = s.get .SPI_BITS 0 ∧ PostsNone s u := by
  refine next_completes rfl ?_
  have hread : spiRead s true = { spiNext (addErr s 0) with answer := [0xA5, s.word (s.get .SPI_ADDR 0)] } := by
    simp [spiRead, State.flag, hopen, hdead, hwrite, readWord_sram hon ha hb]
  rw [hread]
  refine ⟨rfl, ?_, ?_⟩
  · rw [get_answer, get_spiNext, get_addErr hbits (by decide), Nat.or_zero]
  · exact se_answer.mpr (se_spiNext (by simp (disch := decide) [addErr]))

theorem spiRead_notReady (hbits : s.get .SPI_BITS 0 < 32) (hopen : s.get .SPI_OPEN 0 = 1) (hdead : s.get .SPI_DEAD 0 = 0)
    (hwrite : s.get .SPI_WRITE 0 = 0) : Completes (.spiReadWord false) s fun u =>
      u.answer = [0x5A, 0] ∧ u.get .SPI_BITS 0 = s.get .SPI_BITS 0 ||| 1 ∧ u.get .SPI_DEAD 0 = 1 ∧ PostsNone s u := by
  refine next_completes rfl ?_
  have hread : spiRead s false = { (addErr s errNotReady).put .SPI_DEAD 0 1 with answer := [0x5A, 0] } := by
    simp [spiRead, State.flag, hopen, hdead, hwrite]
  rw [hread]
  refine ⟨rfl, ?_, ?_, ?_⟩
  · exact get_answer.trans ((get_put_reg _ (by decide)).trans (get_addErr hbits (by decide)))
  · exact get_answer.trans (by simp)
  · exact se_answer.mpr (by simp (disch := decide) [addErr])

theorem spiEnd_open (cut : Bool) (hbits : s.get .SPI_BITS 0 < 32) (hopen : s.get .SPI_OPEN 0 = 1) :
    Completes (.spiFrameEnd cut) s fun u => u.get .SPI_OPEN 0 = 0 ∧ PostsNone s u ∧
      u.get .SPI_STAT 0 = 0xA0 ||| (if cut ∧ s.get .SPI_DEAD 0 = 0 then s.get .SPI_BITS 0 ||| 2 else s.get .SPI_BITS 0) := by
  refine next_completes rfl ?_
  have hbound : s.get .SPI_BITS 0 ||| 2 < 2 ^ 5 := Nat.or_lt_two_pow hbits (by decide)
  have hstat : ∀ e < 2 ^ 5, trunc 8 (0xA0 ||| e) = 0xA0 ||| e := fun e he =>
    trunc_of_lt (Nat.or_lt_two_pow (by decide) (he.trans (by decide)))
  by_cases hcut : cut = true ∧ s.get .SPI_DEAD 0 = 0
  · simp (disch := first | decide | assumption) [spiEnd, State.flag, hopen, addErr, errFrame, hcut, hstat]
  · simp (disch := decide) [spiEnd, State.flag, hopen, hcut, hstat _ hbits]

end

/-- Settles O19, clause by clause. -/
theorem spiFrames : Obligations.SpiFrames := by
  refine ⟨fun cmd addr s => spiHeader_read s cmd addr, fun cmd addr s => spiHeader_bad s cmd addr,
    fun w s => spiWrite_sram s w, fun w s hclosed => ?_, spiRead_sram, spiRead_notReady, fun cut s => spiEnd_open s cut⟩
  refine next_completes rfl ?_
  have hskip : ¬ ((s.flag .SPI_OPEN 0 : Prop) ∧ (!s.flag .SPI_DEAD 0) ∧ s.flag .SPI_WRITE 0) := by
    rcases hclosed with h | h | h <;> simp [State.flag, h]
  simp only [spiWrite, hskip, if_false]

/-! ## O21: object writes -/

/-- Every general tag of the helpers is out. -/
def tagsOut : State := (List.range generalTags).foldl (fun a k => a.put .TAG_BUSY k 1) State.reset

/-- Refutes O21: an object write asks a helper for the object's word (R39), and where no general tag is free, as in `tagsOut`, it is
answered with 0x08000022 and writes nothing; the clause of 0x6081 asks for no free tag. -/
theorem not_windowAccess : ¬ Obligations.WindowAccess := by
  unfold Obligations.WindowAccess
  rintro ⟨-, -, -, -, hstored, -⟩
  obtain ⟨u, hu, -, hanswer, -⟩ := hstored 0 5 tagsOut (by decide +kernel) (by decide) (by decide)
  obtain rfl : plainWrite tagsOut 0 0x6081 0 (leBytes 4 5) = u := Host.Outcome.next.inj hu
  have hrefused : (plainWrite tagsOut 0 0x6081 0 (leBytes 4 5)).get .ANS_ABORT 0 = abState := by decide +kernel
  rw [hrefused] at hanswer
  exact absurd hanswer (by decide)

end Sys2Proof.Proofs
end

section
/-! O22: engine cycles and their slack. -/

namespace Sys2Proof.Proofs

open Machine Laws

/-! ## The choice of a spare -/

/-- The fields the choice of a spare reads. -/
def spareFields : List Reg := [.SLOT_ENGINE, .DEAD_MAP, .DOM_ON, .DOM_LEAVING, .ENG_BIST]

section
variable {x y : State}

theorem inPool_congr (h : ∀ r ∈ spareFields, ∀ i, y.get r i = x.get r i) (e : Nat) : inPool y e = inPool x e := by
  simp (disch := decide) only [inPool, isDead, hosted, State.getBit, h]

theorem activeAxes_congr (h : ∀ r ∈ spareFields, ∀ i, y.get r i = x.get r i)
    (hkind : ∀ i, y.dv .SLOT_KIND i = x.dv .SLOT_KIND i) (d : Nat) : activeAxes y d = activeAxes x d := by
  simp (disch := decide) only [activeAxes, State.kind, h, hkind]

theorem chooseSpare_congr (h : ∀ r ∈ spareFields, ∀ i, y.get r i = x.get r i)
    (hkind : ∀ i, y.dv .SLOT_KIND i = x.dv .SLOT_KIND i) (e : List Nat) : chooseSpare y e = chooseSpare x e := by
  simp (disch := decide) only [chooseSpare, inPool_congr h, activeAxes_congr h hkind, State.flag, h]

theorem chooseSpare_put {s : State} {r : Reg} {i v : Nat} {e : List Nat} (hr : r ∉ spareFields) :
    chooseSpare (s.put r i v) e = chooseSpare s e :=
  chooseSpare_congr (fun _ hq _ => get_put_reg s (ne_of_mem_of_not_mem hq hr)) (fun _ => rfl) e

end

/-! ## O22 -/

section
variable {s : State} {i : Nat}

theorem comparePost_missed {te accept : Nat} (hlate : te < accept + tDev) :
    (comparePost s i te accept).get .DEADLINE_MISS i = min (s.get .DEADLINE_MISS i + 1) 65535 ∧
    ∀ p, (comparePost s i te accept).get .CMP_LAT p = s.get .CMP_LAT p := by
  have hslack : (te : Int) - tDev - accept < 0 := by omega
  simp (disch := decide) [comparePost, hslack, deadlineMiss]

theorem stripBegin_spare {sh : Nat} (hspare : chooseSpare s [] = some sh) (hsh : sh < 10) :
    (stripBegin s i).get .STRIP_ACTIVE 0 = 1 ∧ (stripBegin s i).get .STRIP_SLOT 0 = trunc 3 i ∧
    (stripBegin s i).get .STRIP_ENG 0 = sh ∧ (stripBegin s i).get .STRIP_CYCLES 0 = 0 := by
  simp (disch := first | decide | omega) [stripBegin, hspare]

end

/-- Settles O22, clause by clause. -/
theorem engineCycles : Obligations.EngineCycles := by
  refine ⟨?_, ?_, fun i te accept s => comparePost_missed, ?_, ?_, ?_, ?_, ?_⟩
  · intro i accept epoch late differs s hserves hepoch
    refine next_completes rfl ?_
    have hrun : s.get .TB_RUNNING 0 ≠ 0 := by
      simp only [engineServes, Bool.and_eq_true, State.flag, bne_iff_ne] at hserves
      exact hserves.2
    have hts : (s.atTick accept).ts = max s.ts accept := by simp [atTick_ts, State.flag, hrun]
    cases late <;> simp (disch := decide) [engineCycle, hserves, hepoch, hts]
  · intro i accept epoch late differs s hserves hepoch
    refine next_completes rfl ?_
    simp (disch := decide) [engineCycle, hserves, hepoch]
    intro r j hr
    simp (disch := assumption) [State.count]
  · intro i s hgood
    refine next_completes rfl ?_
    simp (disch := decide) [fullRate, hgood]
  · intro i s hgood
    refine next_completes rfl ?_
    simp [fullRate, Nat.not_le.mpr hgood]
  · intro i sh s hrun hidle hen hwant hspare hsh
    refine next_completes rfl ?_
    have hfits : stripFits s i = true := by simp [stripFits, hen, State.flag, hwant]
    have hspare' : chooseSpare (s.put .MISS_RUN i 0) [] = some sh := (chooseSpare_put (by decide)).trans hspare
    obtain ⟨hactive, hslot, heng, hcycles⟩ := stripBegin_spare (i := i) hspare' hsh
    have hmiss : missStrip s i = stripBegin (s.put .MISS_RUN i 0) i := by
      simp [missStrip, State.flag, hidle, hfits, Nat.not_lt.mpr hrun]
    rw [hmiss]
    refine ⟨?_, hactive, hslot.trans (trunc_of_lt i.isLt), heng, hcycles⟩
    simp (disch := decide) [stripBegin, hspare']
  · intro i sh s hwin hwant hspare
    refine next_completes rfl ?_
    have hspare' : chooseSpare (s.put .MISS_WINDOW i 0) [] = some sh := (chooseSpare_put (by decide)).trans hspare
    simp (disch := first | decide | omega) [missMigration, State.flag, hwant, hspare', wantMigration, Nat.not_lt.mpr hwin]
  · intro i s
    refine next_completes rfl ⟨?_, fun r j hrj => ?_⟩
    · simp [execCommand, command]
    · by_cases hr : r = .SLACK_MIN
      · subst hr
        exact get_put_inst s (hrj.resolve_left (absurd rfl))
      · exact get_put_reg s hr

end Sys2Proof.Proofs
end

section
/-! O24: queue pointers. -/

namespace Sys2Proof.Proofs

open Machine Laws

/-- Queue 0 is empty in a ring of 2^15 entries, and both its pointers hold a bit beyond the fifteen of their fields. -/
def overwideRing : State :=
  { State.reset with
    regs := [(Reg.key .DOM_ON 0, 2), (Reg.key .QRD 0, 0x800A), (Reg.key .QWR 0, 0x800A)]
    dev := [(Reg.key .PRODUCER 0, 2), (Reg.key .QSIZE_LOG2 0, 15)] }

/-- Refutes O24: nothing in the statement asks that the pointer held fits its field. In `overwideRing` a write of 11 to QWR replaces
the fifteen bits of the field alone, so R49's check meets an advance by 1, which stands; the statement counts the advance from the
written 11, which is more than the ring holds, and has the write refused. -/
theorem not_queuePointers : ¬ Obligations.QueuePointers := by
  unfold Obligations.QueuePointers
  rintro ⟨-, hrefused, -⟩
  obtain ⟨u, hu, -, -, hrej, -⟩ := hrefused 0 11 overwideRing (by decide) (by decide) (.inr (.inr (.inr (by decide))))
  have hrun : execQwrWrite .spi 0 (0xFFFF * 2 ^ 16 + 11) overwideRing = .next u := hu
  obtain rfl := Host.Outcome.next.inj hrun
  have hstands : (ansWrite .spi (writeWord overwideRing 0 (queueSlot 0 0xC) (0xFFFF * 2 ^ 16 + 11))).get .QWR_REJ 0 = 0 := by
    decide +kernel
  exact absurd (hrej.symm.trans hstands) (by decide)

end Sys2Proof.Proofs
end

section
/-! O25: the port map, groups and PWM_EN. -/

namespace Sys2Proof.Proofs

open Machine Laws

/-! ## The check of a map -/

section
variable {x y : State}

/-- The two states agree on what the check of a map reads. -/
structure SameMap (x y : State) : Prop where
  spares : ∀ r ∈ spareFields, ∀ i, y.get r i = x.get r i
  roles : ∀ p, y.get .PORT_ROLE p = x.get .PORT_ROLE p
  latent : latentKind y = latentKind x
  groups : ∀ p, y.get .GROUP p = x.get .GROUP p
  kind : y.kind = x.kind

theorem latentOwner_congr (h : SameMap x y) : latentOwner y = latentOwner x := funext fun p => congrArg roleOwner (h.roles p)

theorem latentFunc_congr (h : SameMap x y) : latentFunc y = latentFunc x := funext fun p => congrArg roleFunc (h.roles p)

theorem latentPorts_congr (h : SameMap x y) : latentPorts y = latentPorts x := by
  funext i
  simp only [latentPorts, h.roles]

theorem latentGroup_congr (h : SameMap x y) : latentGroup y = latentGroup x := by
  funext i
  rw [latentGroup, latentGroup, latentPorts_congr h, h.groups]

theorem latentPortOf_congr (h : SameMap x y) : latentPortOf y = latentPortOf x := by
  funext i f
  rw [latentPortOf, latentPortOf, latentPorts_congr h, latentFunc_congr h]

theorem splitWindings_congr (h : SameMap x y) : splitWindings y = splitWindings x := by
  unfold splitWindings
  rw [h.latent, latentPortOf_congr h]

theorem liveSpares_congr (h : SameMap x y) : liveSpares y = liveSpares x := by
  simp only [liveSpares, inPool_congr h.spares, State.flag, h.spares .ENG_BIST (by decide)]

theorem handsEngine_congr (h : SameMap x y) : handsEngine y = handsEngine x := by
  funext i
  simp (disch := decide) only [handsEngine, isDead, State.getBit, State.flag, h.spares]

theorem mapCheck_congr (h : SameMap x y) : mapCheck y = mapCheck x := by
  simp only [mapCheck, latentOwner_congr h, latentFunc_congr h, latentPorts_congr h, latentGroup_congr h, splitWindings_congr h,
    liveSpares_congr h, handsEngine_congr h, joining, leaving, h.roles, h.latent, h.kind]

theorem mapCheck_put {s : State} {r : Reg} {i v : Nat} (hr : r ∉ [Reg.PORT_ROLE, .SLOT_KIND, .GROUP] ++ spareFields) :
    mapCheck (s.put r i v) = mapCheck s := by
  have hne : ∀ q ∈ [Reg.PORT_ROLE, .SLOT_KIND, .GROUP] ++ spareFields, ∀ j, (s.put r i v).get q j = s.get q j :=
    fun q hq j => get_put_reg s (ne_of_mem_of_not_mem hq hr)
  exact mapCheck_congr ⟨fun q hq => hne q (List.mem_append_right _ hq), hne _ (by decide), funext (hne .SLOT_KIND (by decide)),
    hne _ (by decide), rfl⟩

theorem mapCheck_served {s : State} : mapCheck (served s) = mapCheck s := by
  unfold served
  split
  · rfl
  · exact mapCheck_put (by decide)

end

/-! ### The port and the slot a check names -/

section
variable {s : State}

theorem latentPort_lt {i f : Nat} : latentPortOf s i f < 32 := by
  have hmem : ∀ p, (latentPorts s i).find? (fun p => latentFunc s p == f) = some p → p < 32 := by
    intro p hp
    have := List.mem_of_find?_eq_some hp
    simp [latentPorts, idsWhere] at this
    exact this.1
  unfold latentPortOf
  cases h : (latentPorts s i).find? (fun p => latentFunc s p == f) with
  | none => simp
  | some p => simpa using hmem p h

theorem splitWindings_fit {m : Nat × Nat × Nat} (h : m ∈ splitWindings s) : m.2.1 < 256 ∧ m.2.2 < 256 := by
  simp only [splitWindings, List.mem_flatMap, List.mem_filter, List.mem_range, List.mem_filterMap] at h
  obtain ⟨i, ⟨hi, -⟩, w, -, hm⟩ := h
  split at hm
  · cases hm
  · cases hm
    have h1 := @latentPort_lt s i w.1
    have h2 := @latentPort_lt s i w.2
    constructor <;> simp <;> omega

theorem foldl_least_mem {l : List (Nat × Nat × Nat)} {w : Nat × Nat × Nat} :
    l.foldl (fun b x => if x.1 < b.1 then x else b) w ∈ w :: l := by
  induction l generalizing w with
  | nil => simp
  | cons x l ih =>
    rw [List.foldl_cons]
    by_cases hx : x.1 < w.1
    · rw [if_pos hx]
      exact List.mem_cons_of_mem w ih
    · rw [if_neg hx]
      exact (List.cons_sublist_cons.mpr (List.sublist_cons_self x l)).subset ih

/-- The result of a check fits its fields; a failure has a code above those of a map that is taken. -/
def CheckFits (c : Nat × Nat × Nat) : Prop := c.1 ≠ 0 → 1 < c.1 ∧ c.1 < 2 ^ 8 ∧ c.2.1 < 2 ^ 8 ∧ c.2.2 < 2 ^ 8

theorem checkFits_mk {c p i : Nat} (hc : 1 < c ∧ c < 2 ^ 8) (hp : p < 2 ^ 8) (hi : i < 2 ^ 8) : CheckFits (c, p, i) :=
  fun _ => ⟨hc.1, hc.2, hp, hi⟩

theorem find_range_lt {n k : Nat} {f : Nat → Bool} (h : (List.range n).find? f = some k) : k < n :=
  List.mem_range.mp (List.mem_of_find?_eq_some h)

theorem mapCheck_fits : CheckFits (mapCheck s) := by
  have howner : ∀ p, latentOwner s p < 256 := fun p => (Nat.mod_lt _ (by decide : 16 > 0)).trans (by decide)
  unfold mapCheck
  dsimp only
  split
  case _ p hp =>
    have := find_range_lt hp
    exact checkFits_mk (by decide) (by omega) (by split <;> [exact howner p; decide])
  split
  case _ p hp => exact checkFits_mk (by decide) ((find_range_lt hp).trans (by decide)) (howner p)
  split
  case _ p hp => exact checkFits_mk (by decide) ((find_range_lt hp).trans (by decide)) (howner p)
  split
  case _ i hi => exact checkFits_mk (by decide) (by decide) ((find_range_lt hi).trans (by decide))
  split
  case _ w ws hw =>
    obtain ⟨hp, hi⟩ := splitWindings_fit (s := s) (hw ▸ foldl_least_mem)
    exact checkFits_mk (by decide) hp hi
  split
  case _ p i hpi =>
    obtain ⟨k, hk, hsome⟩ := List.exists_of_findSome?_eq_some hpi
    rw [List.mem_range] at hk
    split at hsome
    · obtain ⟨q, hq, hqi⟩ := Option.map_eq_some_iff.mp hsome
      have hmem := List.mem_of_find?_eq_some hq
      simp only [latentPorts, idsWhere, List.mem_filter, List.mem_range] at hmem
      cases hqi
      exact checkFits_mk (by decide) (by omega) (by omega)
    · cases hsome
  split
  case _ k hk => 
    have := find_range_lt hk
    exact checkFits_mk (by decide) (by omega) (howner _)
  split
  case _ i _ hi =>
    have hmem : i ∈ leaving s := List.mem_of_mem_drop (hi ▸ List.mem_cons_self)
    simp [leaving, idsWhere] at hmem
    exact checkFits_mk (by decide) (by decide) (by omega)
  case _ => exact fun h => absurd rfl h

end

/-- A fold whose step sets the index it visits to a value no step changes. -/
theorem get_fold_writes {f : State → Nat → State} {g : State → Nat → Nat} {r : Reg} (hat : ∀ x k, (f x k).get r k = g x k)
    (hother : ∀ x k j, j ≠ k → (f x k).get r j = x.get r j) (hsrc : ∀ x k j, g (f x k) j = g x j) (l : List Nat) (s : State)
    (p : Nat) : (l.foldl f s).get r p = if p ∈ l then g s p else s.get r p := by
  induction l generalizing s with
  | nil => simp
  | cons k l ih =>
    rw [List.foldl_cons, ih, hsrc]
    by_cases hk : p = k
    · subst hk
      simp [hat]
    · simp [hk, hother]

/-! ## The fields of a set that develops -/

/-- The fields in which the develop of a set shows on its ports, beside those it reads. -/
def setFields : List Reg := [.MAP_ROLE, .MAP_KIND, .PORT_ROLE_DEV, .DDIE_ROLE, .PORT_DRIVE]

/-- What leaves those fields alone. -/
def setMask : Mask := ⟨Nat.xor rall (rbits setFields), rall, 0x7ff⟩

section
variable {P : State → Prop} {s : State} {i p : Nat}

theorem keep_joinGroup_set (hk : Kept setMask P) (hoff : ∀ x q, P x → P (portOff x q)) (hs : P s) : P (joinGroup s p) := by
  unfold joinGroup
  extract_lets -merge -underBinder +onlyGivenNames g peers
  clear_value g peers
  have hdev : P (s.develop .GROUP p) := keep_State_develop hk.le hs
  refine keep_State_put hk.le (keep_State_put hk.le (hoff _ _ (keep_State_put hk.le ?_)))
  cases peers with
  | nil => exact keep_budgetPeriod hk.le (keep_State_put hk.le hdev)
  | cons q _ =>
    exact keep_budgetPeriod hk.le (keep_State_put hk.le (keep_State_put hk.le (keep_State_put hk.le hdev)))

theorem keep_takeGroup_set (hk : Kept setMask P) (hoff : ∀ x q, P x → P (portOff x q)) (hs : P s) : P (takeGroup s i) := by
  have hports := keep_foldl (l := s.slotPorts i)
    (f := fun a p => if a.dv .GROUP p = s.get .MAP_GROUP i then a.put .GROUP p (s.get .MAP_GROUP i)
      else joinGroup (a.put .GROUP p (s.get .MAP_GROUP i)) p)
    (fun _ _ h => keep_ite (keep_State_put hk.le h) (keep_joinGroup_set hk hoff (keep_State_put hk.le h))) hs
  exact keep_ite (keep_putWindow hk.le hports) (keep_rejectWindow hk.le (keep_putWindow hk.le hports))

theorem keep_slotDevelop_set (hk : Kept setMask P) (hoff : ∀ x q, P x → P (portOff x q)) (hs : P s) : P (slotDevelop s i) := by
  have hrestart := keep_State_putDev (r := .SLOT_KIND) (i := i) (v := s.get .MAP_KIND i) hk.le (keep_slotRestart (i := i) hk.le hs)
  unfold slotDevelop
  exact keep_State_setBit hk.le (keep_takeGroup_set hk hoff (keep_ite hrestart (keep_State_put hk.le (keep_State_put hk.le hrestart))))

end

/-- The map, the roles and the drives of the ports `ps`, as in `a`, with those ports off. -/
structure PortsTaken (a : State) (ps : List Nat) (x : State) : Prop where
  same : ∀ r ∈ [Reg.MAP_ROLE, .MAP_KIND, .PORT_ROLE_DEV, .DDIE_ROLE], ∀ j, x.get r j = a.get r j
  off : ∀ p ∈ ps, x.get .PORT_DRIVE p = 0

theorem portsTaken_kept (a : State) (ps : List Nat) : Kept setMask (PortsTaken a ps) := by
  refine (kept_of_fields setFields [] fun x y h _ _ hx => ?_).le
  obtain ⟨hsame, hoff⟩ := hx
  refine ⟨fun r hr j => (h r ?_ j).trans (hsame r hr j), fun p hp => (h .PORT_DRIVE (by decide) p).trans (hoff p hp)⟩
  fin_cases hr <;> decide

theorem portsTaken_portOff {a x : State} {ps : List Nat} {q : Nat} (h : PortsTaken a ps x) : PortsTaken a ps (portOff x q) := by
  obtain ⟨hsame, hoff⟩ := h
  refine ⟨fun r hr j => ?_, fun p hp => ?_⟩
  · rw [← hsame r hr j]
    fin_cases hr <;> simp [portOff]
  · by_cases hq : p = q
    · subst hq
      simp [portOff]
    · simp [portOff, hq, hoff p hp]

/-- What the develop of a set does to one of its ports. -/
def portTake (s : State) (p : Nat) : State :=
  let s := portOff s p
  let s := s.put .PORT_ROLE_DEV p (s.get .MAP_ROLE p)
  (s.put .DDIE_ROLE p (s.get .MAP_ROLE p)).put .X_HELD p 0

theorem setDevelop_ready {s a : State} {slots ports : List Nat} (hready : setReady s slots ports = true)
    (hengines : setEngines s slots = some a) :
    setDevelop s slots ports = mapStatus (refreshEngines (slots.foldl slotDevelop (ports.foldl portTake a))) := by
  simp only [setDevelop, hready, hengines, not_true_eq_false, if_false]
  rfl

section
variable {s : State} {p q : Nat}

theorem get_portTake_map : (portTake s p).get .MAP_ROLE q = s.get .MAP_ROLE q ∧ (portTake s p).get .MAP_KIND q = s.get .MAP_KIND q := by
  simp (disch := decide) [portTake]

theorem get_portTake_role : (portTake s p).get .PORT_ROLE_DEV q = if q = p then s.get .MAP_ROLE p % 256 else s.get .PORT_ROLE_DEV q := by
  by_cases h : q = p <;> simp (disch := first | decide | assumption) [portTake, h, trunc]

theorem get_portTake_die : (portTake s p).get .DDIE_ROLE q = if q = p then s.get .MAP_ROLE p % 256 else s.get .DDIE_ROLE q := by
  by_cases h : q = p <;> simp (disch := first | decide | assumption) [portTake, h, trunc]

theorem get_portTake_drive : (portTake s p).get .PORT_DRIVE q = if q = p then 0 else s.get .PORT_DRIVE q := by
  by_cases h : q = p <;> simp (disch := first | decide | assumption) [portTake, portOff, h]

theorem get_portsTake_map {ps : List Nat} : (ps.foldl portTake s).get .MAP_ROLE q = s.get .MAP_ROLE q ∧
    (ps.foldl portTake s).get .MAP_KIND q = s.get .MAP_KIND q :=
  ⟨foldl_keep (fun _ _ => get_portTake_map.1) ps s, foldl_keep (fun _ _ => get_portTake_map.2) ps s⟩

theorem get_portsTake {ps : List Nat} : (ps.foldl portTake s).get .PORT_ROLE_DEV q = (if q ∈ ps then s.get .MAP_ROLE q % 256 else s.get .PORT_ROLE_DEV q)
    ∧ (ps.foldl portTake s).get .DDIE_ROLE q = (if q ∈ ps then s.get .MAP_ROLE q % 256 else s.get .DDIE_ROLE q)
    ∧ (ps.foldl portTake s).get .PORT_DRIVE q = (if q ∈ ps then 0 else s.get .PORT_DRIVE q) := by
  induction ps generalizing s with
  | nil => simp
  | cons p ps ih =>
    simp only [List.foldl_cons, ih, get_portTake_map, get_portTake_role, get_portTake_die, get_portTake_drive, List.mem_cons]
    by_cases h : q = p <;> simp [h]

end

/-! ## Sets -/

theorem keep_foldl_list {α β : Type} {Q : β → Prop} {f : β → α → β} {l : List α} {b : β} (hf : ∀ b x, Q b → Q (f b x))
    (h : Q b) : Q (l.foldl f b) := List.foldlRecOn _ _ h fun b hb x _ => hf b x hb

section
variable {s : State} {i j : Nat}

theorem mem_growSet {l : List Nat} (hj : j < 8) (hl : j ∈ l) : j ∈ growSet s l := by
  simp [growSet, idsWhere, hj, hl]

/-- A slot is in its set. -/
theorem mem_setOf (hi : i < 8) : i ∈ setOf s i :=
  keep_foldl_list (Q := fun l => i ∈ l) (fun _ _ hl => mem_growSet hi hl) (List.mem_singleton_self i)

theorem mem_setPorts {l : List Nat} {p : Nat} : p ∈ setPorts s l ↔
    p < 32 ∧ portWaits s p = true ∧ (s.portOwner p ∈ l ∨ acceptedOwner s p ∈ l) := by
  simp [setPorts, idsWhere]

theorem dv_slotDevelop_kind :
    (slotDevelop s i).dv .SLOT_KIND j = if j = i then trunc 8 (s.get .MAP_KIND i) else s.dv .SLOT_KIND j := by
  by_cases h : j = i <;> simp (disch := first | decide | assumption) [slotDevelop, h]

theorem dv_slotDevelops_kind {l : List Nat} (hmap : ∀ x k, (slotDevelop x k).get .MAP_KIND j = x.get .MAP_KIND j) :
    (l.foldl slotDevelop s).dv .SLOT_KIND j = if j ∈ l then trunc 8 (s.get .MAP_KIND j) else s.dv .SLOT_KIND j := by
  induction l generalizing s with
  | nil => simp
  | cons k l ih =>
    simp only [List.foldl_cons, ih, dv_slotDevelop_kind, hmap, List.mem_cons]
    by_cases h : j = k <;> simp [h]

end

/-! ## The port map as accepted -/

section
variable {s : State}

/-- A map as it stands, written to the fields of the accepted map. -/
def mapDeveloped (s : State) : State :=
  (List.range 8).foldl (fun a i => a.put .MAP_KIND i (a.kind i))
    ((List.range 32).foldl (fun a p => a.put .MAP_ROLE p (a.get .PORT_ROLE_DEV p)) s)

/-- A map asked for, written to the fields of the accepted map. -/
def mapAccepted (s : State) : State :=
  (List.range 8).foldl (fun a i => (a.put .MAP_KIND i (latentKind a i)).put .MAP_GROUP i (latentGroup a i))
    ((List.range 32).foldl (fun a p => a.put .MAP_ROLE p (a.get .PORT_ROLE p)) s)

/-- The result of the check of a map, in its fields. -/
def checkShown (s : State) (c : Nat × Nat × Nat) : State := ((s.put .MAP_CODE 0 c.1).put .MAP_PORT 0 c.2.1).put .MAP_SLOT 0 c.2.2

theorem portmapApply_eq : portmapApply s = (let x := checkShown (mapDeveloped s) (mapCheck s)
    if (mapCheck s).1 ≠ 0 then mapStatus x else mapStatus (mapAccepted x)) := rfl

theorem get_mapStatus_code {x : State} (h : x.get .MAP_CODE 0 ≤ 1) : (mapStatus x).get .MAP_CODE 0 =
    if (mapStatus x).get .MAP_WAIT 0 = 0 ∧ (mapStatus x).get .MAP_WAIT_X 0 = 0 then 0 else 1 := by
  have hwait : Machine.maskOf 8 (slotWaits x) < 2 ^ 8 := maskOf_lt
  have hwaitX : Machine.maskOf 32 (portWaits x) < 2 ^ 32 := maskOf_lt
  simp (disch := decide) [mapStatus, h, trunc_of_lt hwait, trunc_of_lt hwaitX]

theorem get_mapStatus_error {x : State} (h : 1 < x.get .MAP_CODE 0) : (mapStatus x).get .MAP_CODE 0 = x.get .MAP_CODE 0 := by
  simp [mapStatus, Nat.not_le.mpr h]

end

/-! ## O25 -/

section
variable {s : State}

theorem get_mapDeveloped {r : Reg} {j : Nat} (hr : r ≠ .MAP_ROLE) (hr' : r ≠ .MAP_KIND) :
    (mapDeveloped s).get r j = s.get r j :=
  (foldl_keep (fun x _ => get_put_reg x hr') _ _).trans (foldl_keep (fun x _ => get_put_reg x hr) _ s)

theorem se_mapDeveloped {x : State} : SameEvents x (mapDeveloped s) ↔ SameEvents x s :=
  (foldl_se (fun x k => by simp (disch := decide)) _ _).trans (foldl_se (fun x k => by simp (disch := decide)) _ _)

theorem role_mapDeveloped {p : Nat} (hp : p < 32) : (mapDeveloped s).get .MAP_ROLE p = s.get .PORT_ROLE_DEV p % 256 := by
  refine (foldl_keep (fun x _ => get_put_reg x (by decide)) _ _).trans ?_
  refine (get_fold_writes (g := fun x p => trunc 8 (x.get .PORT_ROLE_DEV p)) ?_ ?_ ?_ _ _ _).trans (if_pos (List.mem_range.mpr hp))
  · exact fun x _ => get_put_same x
  · exact fun x _ _ h => get_put_inst x h
  · exact fun x _ _ => congrArg (trunc 8) (get_put_reg x (by decide))

theorem kind_mapDeveloped {i : Nat} (hi : i < 8) : (mapDeveloped s).get .MAP_KIND i = s.kind i % 256 := by
  have hkind : ∀ x : State, (l : List Nat) → (l.foldl (fun a p => a.put .MAP_ROLE p (a.get .PORT_ROLE_DEV p)) x).kind i = x.kind i :=
    fun x l => keep_foldl (P := fun y => y.kind i = x.kind i) (fun _ _ h => h) rfl
  refine (get_fold_writes (g := fun x i => trunc 8 (x.kind i)) ?_ ?_ ?_ _ _ _).trans
    ((if_pos (List.mem_range.mpr hi)).trans (congrArg (trunc 8) (hkind s _)))
  · exact fun x _ => get_put_same x
  · exact fun x _ _ h => get_put_inst x h
  · exact fun _ _ _ => rfl

theorem get_mapAccepted_code : (mapAccepted s).get .MAP_CODE 0 = s.get .MAP_CODE 0 :=
  (foldl_keep (fun x k => by simp (disch := decide)) _ _).trans (foldl_keep (fun x k => by simp (disch := decide)) _ _)

theorem se_mapAccepted {x : State} : SameEvents x (mapAccepted s) ↔ SameEvents x s :=
  (foldl_se (fun x k => by simp (disch := decide)) _ _).trans (foldl_se (fun x k => by simp (disch := decide)) _ _)

theorem role_mapAccepted {p : Nat} (hp : p < 32) : (mapAccepted s).get .MAP_ROLE p = s.get .PORT_ROLE p % 256 := by
  refine (foldl_keep (fun x k => by simp (disch := decide)) _ _).trans ?_
  refine (get_fold_writes (g := fun x p => trunc 8 (x.get .PORT_ROLE p)) ?_ ?_ ?_ _ _ _).trans (if_pos (List.mem_range.mpr hp))
  · exact fun x _ => get_put_same x
  · exact fun x _ _ h => get_put_inst x h
  · exact fun x _ _ => congrArg (trunc 8) (get_put_reg x (by decide))

theorem kind_mapAccepted {i : Nat} (hi : i < 8) : (mapAccepted s).get .MAP_KIND i = latentKind s i % 256 := by
  refine (get_fold_writes (g := fun x i => trunc 8 (latentKind x i)) ?_ ?_ ?_ _ _ _).trans
    ((if_pos (List.mem_range.mpr hi)).trans (congrArg (trunc 8) ?_))
  · exact fun x _ => by simp (disch := decide) [latentKind]
  · exact fun x _ _ h => by simp (disch := first | decide | assumption)
  · exact fun x _ _ => by simp (disch := decide) [latentKind]
  · exact foldl_keep (fun x _ => get_put_reg x (by decide)) _ _

theorem exec_portmapApply (hup : s.get .SEQ_DOWN 0 = 0) :
    exec (.portmapApply 1) s = .next ((portmapApply (served s)).reply 0 []) := by
  change execPortmapApply 1 s = _
  rw [execPortmapApply, viaObject_run hup (by simp)]
  rfl

theorem portmapApply_bad {v : Nat} (hv : v ≠ 1) (hup : s.get .SEQ_DOWN 0 = 0) : Completes (.portmapApply v) s fun u =>
    u.get .ANS_ABORT 0 = 0x06090030 ∧ (∀ p, u.get .MAP_ROLE p = s.get .MAP_ROLE p) ∧ PostsNone s u := by
  refine next_completes rfl ?_
  rw [viaObject_run hup (by simp)]
  simp (disch := decide) [hv, abRange, served, State.flag, hup]

theorem portmapApply_taken (hup : s.get .SEQ_DOWN 0 = 0) (hcheck : (mapCheck s).1 = 0) : Completes (.portmapApply 1) s fun u =>
    u.get .ANS_ABORT 0 = 0 ∧ PostsNone s u ∧ (∀ p < 32, u.get .MAP_ROLE p = s.get .PORT_ROLE p % 256) ∧
    (∀ i < 8, u.get .MAP_KIND i = latentKind s i % 256) ∧
    u.get .MAP_CODE 0 = (if u.get .MAP_WAIT 0 = 0 ∧ u.get .MAP_WAIT_X 0 = 0 then 0 else 1) := by
  refine next_completes (exec_portmapApply hup) ?_
  rw [portmapApply_eq, mapCheck_served]
  simp only [hcheck, ne_eq, not_true_eq_false, if_false]
  have hcode : (mapAccepted (checkShown (mapDeveloped (served s)) (mapCheck s))).get .MAP_CODE 0 = 0 := by
    rw [get_mapAccepted_code]
    simp (disch := decide) [checkShown, hcheck]
  refine ⟨by simp, ?_, fun p hp => ?_, fun i hi => ?_, ?_⟩
  · simp (disch := decide) [se_mapAccepted, checkShown, se_mapDeveloped]
  · simp (disch := decide) [role_mapAccepted hp, checkShown, get_mapDeveloped]
  · simp (disch := decide) [kind_mapAccepted hi, checkShown, get_mapDeveloped, latentKind]
  · simpa (disch := decide) using get_mapStatus_code (hcode.trans_le (by decide))

theorem portmapApply_failed (hup : s.get .SEQ_DOWN 0 = 0) (hcheck : (mapCheck s).1 ≠ 0) : Completes (.portmapApply 1) s fun u =>
    u.get .ANS_ABORT 0 = 0 ∧ PostsNone s u ∧ u.get .MAP_CODE 0 = (mapCheck s).1 ∧
    u.get .MAP_PORT 0 = (mapCheck s).2.1 ∧ u.get .MAP_SLOT 0 = (mapCheck s).2.2 ∧
    (∀ p < 32, u.get .MAP_ROLE p = s.get .PORT_ROLE_DEV p % 256) ∧ ∀ i < 8, u.get .MAP_KIND i = s.kind i % 256 := by
  refine next_completes (exec_portmapApply hup) ?_
  rw [portmapApply_eq, mapCheck_served]
  obtain ⟨hhigh, hcode, hport, hslot⟩ := mapCheck_fits hcheck
  simp only [hcheck, ne_eq, not_false_eq_true, if_true]
  have hshown : (checkShown (mapDeveloped (served s)) (mapCheck s)).get .MAP_CODE 0 = (mapCheck s).1 := by
    simp (disch := decide) [checkShown, trunc_of_lt hcode]
  refine ⟨by simp, ?_, ?_, ?_, ?_, fun p hp => ?_, fun i hi => ?_⟩
  · simp (disch := decide) [checkShown, se_mapDeveloped]
  · simpa using (get_mapStatus_error (hshown ▸ hhigh)).trans hshown
  · simp (disch := decide) [checkShown, trunc_of_lt hport]
  · simp (disch := decide) [checkShown, trunc_of_lt hslot]
  · simp (disch := decide) [role_mapDeveloped hp, checkShown]
  · simp (disch := decide) [kind_mapDeveloped hi, checkShown, State.kind]

theorem setEngines_keeps {a : State} {l : List Nat} {r : Reg} {j : Nat} (h : setEngines s l = some a)
    (hr : r ∈ [Reg.MAP_ROLE, .MAP_KIND, .PORT_ROLE_DEV, .DDIE_ROLE, .PORT_DRIVE]) : a.get r j = s.get r j := by
  have hmask : (⟨Nat.xor rall (rbits setFields), rall, 0x7ff⟩ : Mask).le ⟨Nat.xor rall (rbit r), rall, 0x17ff⟩ = true := by
    fin_cases hr <;> decide +kernel
  exact keep_setEngines ((reg_kept s r).le hmask).le (fun _ => rfl) a h j

theorem get_slotDevelop_set {r : Reg} {i j : Nat} (hr : r ∈ [Reg.MAP_ROLE, .MAP_KIND, .PORT_ROLE_DEV, .DDIE_ROLE]) :
    (slotDevelop s i).get r j = s.get r j := by
  have hstart : PortsTaken s [] s := ⟨fun _ _ _ => rfl, nofun⟩
  exact (keep_slotDevelop_set (portsTaken_kept _ _) (fun _ _ h => portsTaken_portOff h) hstart).same r hr j

theorem slotWaits_congr {x y : State} (hmap : ∀ p, y.get .MAP_ROLE p = x.get .MAP_ROLE p)
    (hkind : ∀ i, y.get .MAP_KIND i = x.get .MAP_KIND i) (hrole : ∀ p, y.get .PORT_ROLE_DEV p = x.get .PORT_ROLE_DEV p)
    (hslot : y.kind = x.kind) : slotWaits y = slotWaits x := by
  funext i
  simp only [slotWaits, portWaits, State.portOwner, acceptedOwner, hmap, hkind, hrole, hslot]

theorem mapStatus_waits {i : Nat} (hi : i < 8) : (mapStatus s).getBit .MAP_WAIT 0 i = slotWaits (mapStatus s) i := by
  have hsame : slotWaits (mapStatus s) = slotWaits s :=
    slotWaits_congr (fun _ => by simp (disch := decide)) (fun _ => by simp (disch := decide)) (fun _ => by simp (disch := decide))
      (funext fun _ => by simp (disch := decide) [State.kind])
  have hwait : (mapStatus s).get .MAP_WAIT 0 = Machine.maskOf 8 (slotWaits s) := by
    simp (disch := decide) [mapStatus, trunc_of_lt (maskOf_lt (n := 8))]
  rw [State.getBit, hwait, hsame, bit_maskOf]
  simp [hi]

/-- What the develop of a set leaves: its ports in their new roles and off, its slots in their new kinds, and the waits of the map. -/
theorem setDevelop_taken {slots ports : List Nat} (hready : setReady s slots ports = true) (hengines : (setEngines s slots).isSome = true) :
    let u := setDevelop s slots ports
    (∀ p, u.get .MAP_ROLE p = s.get .MAP_ROLE p) ∧ (∀ i, u.get .MAP_KIND i = s.get .MAP_KIND i) ∧
    (∀ p, u.get .PORT_ROLE_DEV p = if p ∈ ports then s.get .MAP_ROLE p % 256 else s.get .PORT_ROLE_DEV p) ∧
    (∀ p ∈ ports, u.get .DDIE_ROLE p = s.get .MAP_ROLE p % 256 ∧ u.get .PORT_DRIVE p = 0) ∧
    (∀ i ∈ slots, u.kind i = s.get .MAP_KIND i % 256) ∧
    ∀ i < 8, u.getBit .MAP_WAIT 0 i = slotWaits u i := by
  obtain ⟨a, ha⟩ := Option.isSome_iff_exists.mp hengines
  dsimp only
  rw [setDevelop_ready hready ha]
  have htaken : PortsTaken (ports.foldl portTake a) ports (slots.foldl slotDevelop (ports.foldl portTake a)) := by
    refine keep_foldl (fun _ _ h => keep_slotDevelop_set (portsTaken_kept _ _) (fun _ _ hx => portsTaken_portOff hx) h) ⟨fun _ _ _ => rfl, fun p hp => ?_⟩
    rw [(get_portsTake (s := a)).2.2, if_pos hp]
  obtain ⟨hsame, hoff⟩ := htaken
  have hrole : ∀ p, a.get .MAP_ROLE p = s.get .MAP_ROLE p := fun p => setEngines_keeps ha (by decide)
  refine ⟨fun p => ?_, fun i => ?_, fun p => ?_, fun p hp => ⟨?_, ?_⟩, fun i hi => ?_, fun i hi => ?_⟩
  · simp (disch := decide) [hsame, get_portsTake_map, hrole]
  · simp (disch := decide) [hsame, get_portsTake_map, setEngines_keeps ha]
  · simp (disch := decide) [hsame, get_portsTake, setEngines_keeps ha]
  · simp (disch := decide) [hsame, get_portsTake, setEngines_keeps ha, hp]
  · simp (disch := decide) [hoff p hp]
  · have hkind := dv_slotDevelops_kind (s := ports.foldl portTake a) (j := i) (l := slots) fun _ _ => get_slotDevelop_set (by decide)
    simp (disch := decide) [State.kind, hkind, hi, get_portsTake_map, setEngines_keeps ha, trunc]
  · exact mapStatus_waits hi

theorem mem_axisFan {p : Nat} (hp : p < 32) : p ∈ axisFan s p := by
  unfold axisFan
  split
  · simp [State.slotPorts, idsWhere, hp]
  · exact List.mem_singleton_self p

theorem portmapSet_slot {n : Fin 40} {i : Nat} (hn : n.val = i) (hi : i < 8) (hwait : slotWaits s i = true)
    (hready : setReady s (setOf s i) (setPorts s (setOf s i)) = true) (hengines : (setEngines s (setOf s i)).isSome = true)
    (hkind : s.get .MAP_KIND i < 4) (hroles : ∀ p < 32, s.get .MAP_ROLE p < 256) :
    Completes (.portmapSetDevelop n) s fun u => u.dv .SLOT_KIND i = s.get .MAP_KIND i ∧ u.getBit .MAP_WAIT 0 i = false ∧
      ∀ p ∈ setPorts s (setOf s i), u.get .PORT_ROLE_DEV p = s.get .MAP_ROLE p ∧ u.get .DDIE_ROLE p = s.get .MAP_ROLE p ∧
        u.get .PORT_DRIVE p = 0 := by
  refine next_completes rfl ?_
  have hrun : portmapSet s n = setDevelop s (setOf s i) (setPorts s (setOf s i)) := by simp [portmapSet, hn, hi, hwait]
  rw [hrun]
  obtain ⟨hmap, hkinds, hrole, hports, hslots, hwaits⟩ := setDevelop_taken hready hengines
  have hfit : ∀ p ∈ setPorts s (setOf s i), s.get .MAP_ROLE p % 256 = s.get .MAP_ROLE p := fun p hp =>
    Nat.mod_eq_of_lt (hroles p (mem_setPorts.mp hp).1)
  have hi' : (setDevelop s (setOf s i) (setPorts s (setOf s i))).kind i = s.get .MAP_KIND i :=
    (hslots i (mem_setOf hi)).trans (Nat.mod_eq_of_lt (by omega))
  refine ⟨hi', ?_, fun p hp => ⟨?_, ?_, (hports p hp).2⟩⟩
  · rw [hwaits i hi, slotWaits, hkinds, hi']
    simp only [bne_self_eq_false, Bool.false_or, List.any_eq_false, List.mem_range]
    intro p hp
    by_cases hmem : p ∈ setPorts s (setOf s i)
    · simp [portWaits, hmap, hrole, hmem, hfit p hmem]
    · simp only [portWaits, State.portOwner, acceptedOwner, hmap, hrole, hmem, if_false]
      intro hwaiting
      simp only [Bool.and_eq_true, Bool.or_eq_true, beq_iff_eq] at hwaiting
      obtain ⟨hdiff, howner⟩ := hwaiting
      refine hmem (mem_setPorts.mpr ⟨hp, hdiff, ?_⟩)
      have hself := mem_setOf (s := s) hi
      exact howner.imp (fun h => (congrArg (· ∈ setOf s i) h).mpr hself) fun h => (congrArg (· ∈ setOf s i) h).mpr hself
  · rw [hrole, if_pos hp, hfit p hp]
  · rw [(hports p hp).1, hfit p hp]

theorem portmapSet_port {n : Fin 40} {p : Nat} (hn : n.val = 8 + p) (hwait : s.get .MAP_ROLE p ≠ s.get .PORT_ROLE_DEV p)
    (howner : 8 ≤ s.portOwner p) (haccepted : 8 ≤ acceptedOwner s p) (hoff : s.get .PWM_EN p = 0) (hrole : s.get .MAP_ROLE p < 256) :
    Completes (.portmapSetDevelop n) s fun u =>
      u.get .PORT_ROLE_DEV p = s.get .MAP_ROLE p ∧ u.get .PORT_DRIVE p = 0 ∧ u.get .DDIE_ROLE p = s.get .MAP_ROLE p := by
  refine next_completes rfl ?_
  have hrun : portmapSet s n = setDevelop s [] [p] := by simp [portmapSet, hn, portWaits, hwait, howner, haccepted]
  rw [hrun]
  have hready : setReady s [] [p] = true := by simp [setReady, State.flag, hoff]
  obtain ⟨-, -, hroles, hports, -⟩ := setDevelop_taken (slots := []) hready rfl
  obtain ⟨hdie, hdrive⟩ := hports p (List.mem_singleton_self p)
  have hfit : s.get .MAP_ROLE p % 256 = s.get .MAP_ROLE p := Nat.mod_eq_of_lt hrole
  exact ⟨by rw [hroles, if_pos (List.mem_singleton_self p), hfit], hdrive, hdie.trans hfit⟩

theorem portmapSet_notReady {n : Fin 40} {i : Nat} (hn : n.val = i) (hi : i < 8)
    (h : setReady s (setOf s i) (setPorts s (setOf s i)) = false ∨ (setEngines s (setOf s i)).isNone = true) :
    Completes (.portmapSetDevelop n) s fun u => u = s := by
  refine next_completes rfl ?_
  simp only [portmapSet, hn, hi, if_true]
  split
  · rcases h with h | h
    · simp [setDevelop, h]
    · simp [setDevelop, Option.isNone_iff_eq_none.mp h]
  · rfl

/-- A field that no check bars is written as `fieldApply` says. -/
theorem fieldWrite_apply {path : Nat} {look : Reg → Nat} {r : Reg} {i v : Nat} (hlacks : auxLacks r i = false)
    (hrefused : fieldRefused s r i = false) (hok : fieldOk s look r i v = true) (hconflict : fieldConflict look r v = false) :
    (fieldWrite s path look r i v).1 = (fieldApply s path r i v).1 := by
  simp [fieldWrite, hlacks, hrefused, hok, hconflict]

theorem groupWrite_taken {p : Port} {g : Nat} (hg : g < 16) (hx : s.isAxisPort p = false) (hfree : groupBusy s p = false)
    (hset : setWaits s p = false) : Completes (.groupWrite p g) s fun u =>
      u.get .GROUP p = g ∧ u.get .GROUP_WAIT p = 1 ∧ (∀ q, q ≠ p.val → u.get .GROUP q = s.get .GROUP q) ∧ PostsNone s u := by
  have hrun : exec (.groupWrite p g) s = .next (writeGroup s p g).1 := congrArg _ (fieldWrite_apply (by simp [auxLacks]) rfl rfl rfl)
  refine next_completes hrun ?_
  simp (disch := first | decide | omega) [writeGroup, axisFan, hx, hfree, hset]
  exact fun q hq => get_put_inst s hq

theorem groupWrite_refused {p : Port} {g : Nat} (hbusy : groupBusy s p = true ∨ setWaits s p = true) :
    Completes (.groupWrite p g) s fun u =>
      (∀ q ∈ axisFan s p, u.get .GRP_REJ q = 1) ∧ (∀ q, u.get .GROUP q = s.get .GROUP q) ∧ PostsNone s u := by
  have hrun : exec (.groupWrite p g) s = .next (writeGroup s p g).1 := congrArg _ (fieldWrite_apply (by simp [auxLacks]) rfl rfl rfl)
  refine next_completes hrun ?_
  have hany : (axisFan s p).any (fun q => groupBusy s q || setWaits s q) = true :=
    List.any_eq_true.mpr ⟨p, mem_axisFan p.isLt, by simpa using hbusy⟩
  simp (disch := first | decide | omega) [writeGroup, hany, -List.any_eq_true]
  refine ⟨fun q hq => ?_, fun q => ?_, ?_⟩
  · exact (get_fold_writes (g := fun _ _ => 1) (fun x _ => get_put_same x) (fun x _ _ h => get_put_inst x h) (fun _ _ _ => rfl)
      _ s q).trans (if_pos hq)
  · exact foldl_keep (fun x _ => get_put_reg x (by decide)) _ s
  · exact (foldl_se (fun x _ => by simp (disch := decide)) _ s).mpr (.refl s)

theorem pwmEnWrite_on {p : Port} (hx : s.isAxisPort p = true) : Completes (.pwmEnWrite p true) s fun u =>
    (∀ q ∈ s.slotPorts (s.portOwner p), u.get .PWM_EN q = 1 ∧ u.get .X_HELD q = 0) ∧ PostsNone s u := by
  have hrun : exec (.pwmEnWrite p true) s = .next (writePwmEn s p true) := congrArg _ (fieldWrite_apply (by simp [auxLacks]) rfl rfl rfl)
  refine next_completes hrun ?_
  simp (disch := first | decide | omega) [writePwmEn, axisFan, hx]
  refine ⟨fun q hq => ⟨?_, ?_⟩, ?_⟩
  · exact (get_fold_writes (g := fun _ _ => 1) (fun x _ => by simp (disch := decide)) (fun x _ _ h => by
      simp (disch := first | decide | assumption)) (fun _ _ _ => rfl) _ s q).trans (if_pos hq)
  · exact (get_fold_writes (g := fun _ _ => 0) (fun x _ => get_put_same _) (fun x _ _ h => by
      simp (disch := first | decide | assumption)) (fun _ _ _ => rfl) _ s q).trans (if_pos hq)
  · exact (foldl_se (fun x _ => by simp (disch := decide)) _ s).mpr (.refl s)

theorem portOff_off {p q : Nat} (h : s.get .PORT_DRIVE p = 0) : (portOff s q).get .PORT_DRIVE p = 0 := by
  by_cases hq : p = q
  · subst hq
    simp [portOff]
  · simp [portOff, hq, h]

theorem brakeStop_off {p : Nat} (h : s.get .PORT_DRIVE p = 0) : (brakeStop s).get .PORT_DRIVE p = 0 :=
  keep_ite (P := fun x => x.get .PORT_DRIVE p = 0) (portOff_off ((get_put_reg s (by decide)).trans h)) h

theorem judgeBrake_off {p : Nat} (h : s.get .PORT_DRIVE p = 0) : (judgeBrake s).get .PORT_DRIVE p = 0 :=
  keep_ite (P := fun x => x.get .PORT_DRIVE p = 0) (brakeStop_off ((get_put_reg s (by decide)).trans h))
    (keep_ite (P := fun x => x.get .PORT_DRIVE p = 0) (brakeStop_off h) h)

theorem pwmEnWrite_off {p : Port} (hx : s.isAxisPort p = false) (hout : s.get .HB_OUT (p / 8) = 0) :
    Completes (.pwmEnWrite p false) s fun u => u.get .PWM_EN p = 0 ∧ u.get .PORT_DRIVE p = 0 ∧ PostsNone s u := by
  have hrun : exec (.pwmEnWrite p false) s = .next (writePwmEn s p false) := congrArg _ (fieldWrite_apply (by simp [auxLacks]) rfl rfl rfl)
  refine next_completes hrun ?_
  have howner : (judgeBrake (portOff (s.put .PWM_EN p 0) p)).isAxisPort p = false := by
    have hsame : (judgeBrake (portOff (s.put .PWM_EN p 0) p)).portOwner p = s.portOwner p := by
      simp (disch := decide) [State.portOwner, portOff]
    exact (congrArg (fun o => decide (o < 8)) hsame).trans hx
  have hrest : writePwmEn s p false = judgeBrake (portOff (s.put .PWM_EN p 0) p) := by
    simp (disch := decide) [writePwmEn, axisFan, hx, State.flag, hout, howner]
  rw [hrest]
  refine ⟨by simp (disch := decide) [portOff], ?_, by simp (disch := decide) [portOff]⟩
  exact judgeBrake_off (by simp [portOff])

end

/-- Settles O25, clause by clause. -/
theorem portMap : Obligations.PortMap :=
  ⟨fun _ _ => portmapApply_bad, fun _ => portmapApply_taken, fun _ => portmapApply_failed, fun _ _ _ => portmapSet_slot,
    fun _ _ _ => portmapSet_port, fun _ _ _ => portmapSet_notReady, fun _ _ _ => groupWrite_taken,
    fun _ _ _ _ => groupWrite_refused, fun _ _ => pwmEnWrite_on, fun _ _ => pwmEnWrite_off⟩

end Sys2Proof.Proofs
end

section
/-! Fields read as single bits and as signed numbers, and the bytes of a word. -/

namespace Sys2Proof.Proofs

open Machine Laws

/-- A command completes in what its result has been shown to be. -/
theorem completes_eq {c : Instr} {s x t : State} {e : State → Prop} (hrun : exec c s = .next x) (hx : x = t) (ht : e t) :
    Completes c s e :=
  next_completes (hx ▸ hrun) ht

/-! ## Signed fields -/

theorem ofSigned_mod (w : Nat) (z : Int) : ((ofSigned w z : Nat) : Int) = z % (2 ^ w : Nat) :=
  Int.toNat_of_nonneg (Int.emod_nonneg z (by positivity))

theorem ofSigned_lt (w : Nat) (z : Int) : ofSigned w z < 2 ^ w := by
  have hlt := Int.emod_lt_of_pos z (show (0 : Int) < (2 ^ w : Nat) by positivity)
  have heq := ofSigned_mod w z
  omega

/-- A signed field takes every number of its range. -/
theorem toSigned_ofSigned {w : Nat} {z : Int} (hw : 0 < w) (hlo : -(2 ^ (w - 1) : Nat) ≤ z) (hhi : z < (2 ^ (w - 1) : Nat)) :
    toSigned w (ofSigned w z) = z := by
  have hdouble : 2 ^ w = 2 * 2 ^ (w - 1) := by
    rw [← Nat.pow_succ', Nat.succ_eq_add_one, Nat.sub_add_cancel hw]
  have heq := ofSigned_mod w z
  unfold toSigned
  rw [Nat.mod_eq_of_lt (ofSigned_lt w z)]
  generalize 2 ^ (w - 1) = h at *
  rw [hdouble] at heq ⊢
  rcases lt_or_ge z 0 with hz | hz
  · have hmod : z % ((2 * h : Nat) : Int) = z + (2 * h : Nat) := by
      rw [← Int.add_emod_right, Int.emod_eq_of_lt] <;> omega
    split <;> omega
  · have hmod : z % ((2 * h : Nat) : Int) = z := Int.emod_eq_of_lt hz (by omega)
    split <;> omega

theorem toSigned_range {w v : Nat} (hw : 0 < w) :
    -(2 ^ (w - 1) : Nat) ≤ toSigned w v ∧ toSigned w v < (2 ^ (w - 1) : Nat) := by
  have hdouble : 2 ^ w = 2 * 2 ^ (w - 1) := by
    rw [← Nat.pow_succ', Nat.succ_eq_add_one, Nat.sub_add_cancel hw]
  have hlt := Nat.mod_lt v (show 0 < 2 ^ w by positivity)
  unfold toSigned
  split <;> omega

section
variable {s : State}

theorem geti_puti_same {r : Reg} {i : Nat} {z : Int} (hw : 0 < r.width) (hlo : -(2 ^ (r.width - 1) : Nat) ≤ z)
    (hhi : z < (2 ^ (r.width - 1) : Nat)) : (s.puti r i z).geti r i = z := by
  rw [State.geti, State.puti, get_put_same, trunc_of_lt (ofSigned_lt _ _)]
  exact toSigned_ofSigned hw hlo hhi

/-- One signed field copied to another of its width. -/
theorem geti_puti_geti {t : State} {r q : Reg} {i j : Nat} (hw : 0 < r.width) (h : q.width = r.width) :
    (s.puti r i (t.geti q j)).geti r i = t.geti q j := by
  obtain ⟨hlo, hhi⟩ := toSigned_range (v := t.get q j) (h ▸ hw)
  rw [h] at hlo hhi
  exact geti_puti_same hw (by rwa [State.geti, h]) (by rwa [State.geti, h])

@[simp] theorem geti_put_reg {r r' : Reg} {i j v : Nat} (h : r' ≠ r) : (s.put r i v).geti r' j = s.geti r' j :=
  congrArg (toSigned r'.width) (get_put_reg s h)

@[simp] theorem geti_puti_reg {r r' : Reg} {i j : Nat} {z : Int} (h : r' ≠ r) : (s.puti r i z).geti r' j = s.geti r' j :=
  geti_put_reg h

@[simp] theorem geti_reply {r : Reg} {i a : Nat} {d : List Nat} (h : r ≠ .ANS_ABORT) : (s.reply a d).geti r i = s.geti r i :=
  geti_put_reg h

@[simp] theorem getBit_put_reg {r r' : Reg} {i j k v : Nat} (h : r' ≠ r) : (s.put r i v).getBit r' j k = s.getBit r' j k :=
  congrArg (bit · k) (get_put_reg s h)

@[simp] theorem get_served_reg {r : Reg} {i : Nat} (h : r ≠ .SEQ_SERVED) : (served s).get r i = s.get r i := by
  unfold served
  split
  · rfl
  · exact get_put_reg s h

@[simp] theorem getBit_served {r : Reg} {i k : Nat} (h : r ≠ .SEQ_SERVED) : (served s).getBit r i k = s.getBit r i k :=
  congrArg (bit · k) (get_served_reg h)

@[simp] theorem geti_served {r : Reg} {i : Nat} (h : r ≠ .SEQ_SERVED) : (served s).geti r i = s.geti r i :=
  congrArg (toSigned r.width) (get_served_reg h)

@[simp] theorem kind_served {i : Nat} : (served s).kind i = s.kind i := by
  simp (disch := decide) [State.kind]

@[simp] theorem mo_put {r : Reg} {i j v : Nat} : (s.put r i v).mo j = s.mo j := rfl

@[simp] theorem mo_reply {a j : Nat} {d : List Nat} : (s.reply a d).mo j = s.mo j := rfl

theorem mo_setMo {i : Nat} {m : Motion} (h : i < s.motion.length) : (s.setMo i m).mo i = m := by
  simp [State.mo, State.setMo, List.getD_eq_getElem?_getD, h]

@[simp] theorem mo_served {i : Nat} : (served s).mo i = s.mo i := by
  unfold served
  split <;> rfl

/-- A visit to every index keeps what each visit keeps. -/
theorem get_each {r : Reg} {i n : Nat} {p : State → Nat → Bool} {f : State → Nat → State}
    (h : ∀ x k, (f x k).get r i = x.get r i) : (s.each n p f).get r i = s.get r i := by
  refine foldl_keep (fun x k => ?_) _ s
  split
  · exact h x k
  · rfl

@[simp] theorem mem_reply {a : Nat} {d : List Nat} : (s.reply a d).mem = s.mem := rfl

end

/-! ## Words as bytes -/

theorem wordsOfBytes_bytes {v : Nat} (hv : v < 2 ^ 32) (l : List Nat) : wordsOfBytes (leBytes 4 v ++ l) = v :: wordsOfBytes l := by
  have hval : leVal (leBytes 4 v) = v := by
    simp only [leBytes, leVal]
    omega
  simpa [leBytes, wordsOfBytes] using hval

end Sys2Proof.Proofs
end

section
/-! O26: segment entries, restart and start actions. -/

namespace Sys2Proof.Proofs

open Machine Laws

/-! ## Entries of a stream that does not run -/

section
variable {s : State} {i : Slot}

/-- An entry appended to a slot that is not in segment mode waits in its queue: the fetcher leaves it. -/
theorem fetch_idle {q : Nat} (h : s.get .SEG_STATE q = 0) : fetch s q = s := by
  simp [fetch, isActive, h]

theorem appendEntries_idle {q : Nat} {ws : List Nat} (h : s.get .SEG_STATE q = 0) : appendEntries s q [ws] = s.qPutRaw q ws := by
  have hidle : (s.qPutRaw q ws).get .SEG_STATE q = 0 := by
    rw [← h]
    simp (disch := decide) [State.qPutRaw, State.setQLevel]
  simp [appendEntries, fetch_idle hidle]

theorem entriesOf_entry {a b c d : Nat} (ha : a < 2 ^ 32) (hb : b < 2 ^ 32) (hc : c < 2 ^ 32) (hd : d < 2 ^ 32) :
    entriesOf (wordsOfBytes ([a, b, c, d].flatMap (leBytes 4))) = [[a, b, c, d]] := by
  simp only [List.flatMap_cons, wordsOfBytes_bytes ha, wordsOfBytes_bytes hb, wordsOfBytes_bytes hc, wordsOfBytes_bytes hd]
  rfl

/-- An entry put into a queue after a write of another field: where it stands, and what it leaves alone. -/
theorem appended_after_put {r : Reg} {j v q n : Nat} {ws d : List Nat} (hwr : r ≠ .QWR) (hrd : r ≠ .QRD)
    (hws : ∀ w ∈ ws, w < 2 ^ 32) (hsize : s.dv .QSIZE_LOG2 q < 14) :
    let u := ((s.put r j v).qPutRaw q ws).reply n d
    u.words (s.qAddr q (s.get .QWR q)) ws.length = ws ∧ u.get .QWR q = (s.get .QWR q + 1) % (2 * s.qSize q) ∧
    u.get .QRD q = s.get .QRD q ∧
    ∀ x, x < s.qAddr q (s.get .QWR q) ∨ s.qAddr q (s.get .QWR q) + 4 * ws.length ≤ x → u.mem.read x = s.mem.read x := by
  have haddr : (s.put r j v).qAddr q ((s.put r j v).get .QWR q) = s.qAddr q (s.get .QWR q) := by
    rw [qAddr_put, get_put_reg _ (Ne.symm hwr)]
  refine ⟨?_, ?_, ?_, fun x hx => ?_⟩
  · rw [← haddr]
    exact (words_congr mem_reply _ _).trans (words_qPutRaw hws)
  · rw [get_State_reply (by decide), wr_qPutRaw (s := s.put r j v) (Nat.le_of_lt_succ hsize), get_put_reg _ (Ne.symm hwr), qSize_put]
  · rw [get_State_reply (by decide), rd_qPutRaw, get_put_reg _ (Ne.symm hrd)]
  · rw [← haddr] at hx
    exact read_qPutRaw_other hx

theorem segWrite_entry {a b c d : Nat} (ha : a < 2 ^ 32) (hb : b < 2 ^ 32) (hc : c < 2 ^ 32) (hd : d < 2 ^ 32)
    (hup : s.get .SEQ_DOWN 0 = 0) (hidle : s.get .SEG_STATE i = 0) (hprod : s.dv .PRODUCER i = 0) (hon : s.getBit .DOM_ON 0 3 = true)
    (hsize : s.dv .QSIZE_LOG2 i < 14) (hroom : s.qFill i < s.qSize i) :
    Completes (.segWrite i ([a, b, c, d].flatMap (leBytes 4))) s fun u =>
      u.get .ANS_ABORT 0 = 0 ∧ u.words (s.qAddr i (s.get .QWR i)) 4 = [a, b, c, d] ∧
      u.get .QWR i = (s.get .QWR i + 1) % (2 * s.qSize i) ∧ u.get .QRD i = s.get .QRD i ∧
      ∀ x, x < s.qAddr i (s.get .QWR i) ∨ s.qAddr i (s.get .QWR i) + 16 ≤ x → u.mem.read x = s.mem.read x := by
  have hserved : served s = s.put .SEQ_SERVED 0 s.ts := by simp [served, State.flag, hup]
  have hon' : (served s).getBit .DOM_ON 0 3 = true := by simpa (disch := decide) [hserved] using hon
  have hidle' : (served s).get .SEG_STATE i = 0 := by simpa (disch := decide) using hidle
  have hprod' : (served s).dv .PRODUCER i = 0 := by simpa (disch := decide) using hprod
  have hlen : ([a, b, c, d].flatMap (leBytes 4)).length = 16 := rfl
  have hspace : ¬ (served s).qSize i < (served s).qFill i + 1 := by
    rw [hserved, qFill_put (by decide) (by decide), qSize_put]
    omega
  have hrun : exec (.segWrite i ([a, b, c, d].flatMap (leBytes 4))) s =
      .next (((s.put .SEQ_SERVED 0 s.ts).qPutRaw i [a, b, c, d]).reply 0 []) := by
    change execSegWrite i _ s = _
    simp only [execSegWrite, segWrite, entriesOf_entry ha hb hc hd, appendEntries_idle hidle', hlen, State.flag, hup, hon', hprod',
      ← hserved]
    simp [hspace]
  have hfits : ∀ w ∈ [a, b, c, d], w < 2 ^ 32 := by simpa using ⟨ha, hb, hc, hd⟩
  exact next_completes hrun ⟨by simp, appended_after_put (by decide) (by decide) hfits hsize⟩

theorem segWrite_length {bytes : List Nat} (hup : s.get .SEQ_DOWN 0 = 0) (hlen : bytes.length % 16 ≠ 0) :
    Completes (.segWrite i bytes) s fun u =>
      u.get .ANS_ABORT 0 = 0x06070010 ∧ u.mem = s.mem ∧ u.get .QWR i = s.get .QWR i := by
  refine next_completes rfl ?_
  simp [State.flag, hup, segWrite, hlen, served]

theorem segPdo_entry {w : Nat} (hw : w < 2 ^ 32) (hidle : s.get .SEG_STATE i = 0) (hprod : s.dv .PRODUCER i = 1)
    (hon : s.getBit .DOM_ON 0 3 = true) (hsize : s.dv .QSIZE_LOG2 i < 14) (hroom : s.qFill i < s.qSize i)
    (hwords : ∀ k < 3, s.get .SEG_PDO_W (4 * i + k) < 2 ^ 32) : Completes (.segPdoEnqueue i w) s fun u =>
      u.get .ANS_ABORT 0 = 0 ∧ u.get .QWR i = (s.get .QWR i + 1) % (2 * s.qSize i) ∧
      u.words (s.qAddr i (s.get .QWR i)) 4 =
        [s.get .SEG_PDO_W (4 * i), s.get .SEG_PDO_W (4 * i + 1), s.get .SEG_PDO_W (4 * i + 2), w] := by
  have hon' : (s.put .SEG_PDO_W (4 * i + 3) w).getBit .DOM_ON 0 3 = true := by simpa (disch := decide) using hon
  have hidle' : (s.put .SEG_PDO_W (4 * i + 3) w).get .SEG_STATE i = 0 := by simpa (disch := decide) using hidle
  have hentry : (List.range 4).map (fun k => (s.put .SEG_PDO_W (4 * i + 3) w).get .SEG_PDO_W (4 * i + k)) =
      [s.get .SEG_PDO_W (4 * i), s.get .SEG_PDO_W (4 * i + 1), s.get .SEG_PDO_W (4 * i + 2), w] := by
    simp (disch := omega) [List.range_succ]
  have hrun : exec (.segPdoEnqueue i w) s = .next (((s.put .SEG_PDO_W (4 * i + 3) w).qPutRaw i
      [s.get .SEG_PDO_W (4 * i), s.get .SEG_PDO_W (4 * i + 1), s.get .SEG_PDO_W (4 * i + 2), w]).reply 0 []) := by
    have hfree : ¬ (s.put .SEG_PDO_W (4 * i + 3) w).qFill i = (s.put .SEG_PDO_W (4 * i + 3) w).qSize i := by
      rw [qFill_put (by decide) (by decide), qSize_put]
      exact hroom.ne
    change execSegPdoEnqueue i w s = _
    have hlast : 4 * i.val + 4 - 1 = 4 * i.val + 3 := rfl
    simp only [execSegPdoEnqueue, writeSegPdo, segEnqueueBy, hlast, hentry, hon', hfree, dv_put, hprod, appendEntries_idle hidle']
    simp
  have hfits : ∀ v ∈ [s.get .SEG_PDO_W (4 * i), s.get .SEG_PDO_W (4 * i + 1), s.get .SEG_PDO_W (4 * i + 2), w], v < 2 ^ 32 := by
    simpa using ⟨hwords 0 (by decide), hwords 1 (by decide), hwords 2 (by decide), hw⟩
  obtain ⟨hstands, hwr, -⟩ := appended_after_put (s := s) (r := .SEG_PDO_W) (j := 4 * i + 3) (v := w) (n := 0) (d := []) (by decide)
    (by decide) hfits hsize
  exact next_completes hrun ⟨by simp, hwr, hstands⟩

theorem segPdo_refused {w : Nat} (hon : s.getBit .DOM_ON 0 3 = true) (hprod : s.dv .PRODUCER i ≠ 1) :
    Completes (.segPdoEnqueue i w) s fun u => u.get .ANS_ABORT 0 = 0x08000022 ∧ u.mem = s.mem ∧ u.get .QWR i = s.get .QWR i := by
  refine next_completes rfl ?_
  have hon' : (s.put .SEG_PDO_W (4 * i + 3) w).getBit .DOM_ON 0 3 = true := by simpa (disch := decide) using hon
  simp (disch := decide) [hprod, segEnqueueBy, hon', abState]

theorem segRestart_stopped (h : s.get .SEG_STATE i = 4 ∨ s.get .SEG_STATE i = 5 ∨ s.get .SEG_STATE i = 7) :
    Completes (.segRestart i) s fun u =>
      u.get .SEG_STATE i = 1 ∧ u.geti .TAIL_P i = s.geti .OUT_P i ∧ u.geti .TAIL_V i = 0 ∧ u.get .SEG_DISCARDING i = 0 ∧
      u.motion = s.motion ∧ PostsNone s u := by
  refine next_completes rfl ?_
  have hst : s.get .SEG_STATE i = 7 ∨ s.get .SEG_STATE i = 5 ∨ s.get .SEG_STATE i = 4 := by tauto
  have htail := geti_puti_geti (s := s) (t := s) (r := .TAIL_P) (q := .OUT_P) (i := i) (j := i) (by decide) rfl
  simp (disch := decide) [execCommand, command, segRestart, hst]
  refine ⟨htail, ?_, rfl⟩
  exact geti_puti_same (by decide) (by decide) (by decide)

theorem segRestart_running (h4 : s.get .SEG_STATE i ≠ 4) (h5 : s.get .SEG_STATE i ≠ 5) (h7 : s.get .SEG_STATE i ≠ 7) :
    Completes (.segRestart i) s fun u =>
      u.get .CLASH_LOST 0 = min (s.get .CLASH_LOST 0 + 1) 65535 ∧ u.get .SEG_STATE i = s.get .SEG_STATE i ∧ PostsNone s u := by
  refine next_completes rfl ?_
  simp (disch := decide) [execCommand, command, segRestart, h4, h5, h7]

end

/-! ## Start actions -/

/-- Nothing is armed any more. -/
def disarmed (s : State) : State := { s with armed := [] }

section
variable {s : State}

theorem armed_setWords {a : Nat} {ws : List Nat} : (s.setWords a ws).armed = s.armed := by
  induction ws generalizing s a with
  | nil => rfl
  | cons w ws ih => exact ih

theorem armed_qPutRaw {q : Nat} {ws : List Nat} : (s.qPutRaw q ws).armed = s.armed := by
  simp only [State.qPutRaw, State.setQLevel, put_armed, armed_setWords]

theorem armed_postAt {code src slot arg stamp : Nat} : (s.postAt code src slot arg stamp).armed = s.armed := by
  unfold State.postAt
  generalize s.eventWords code src slot arg stamp = ws
  extract_lets _ y before z
  have hy : y.armed = s.armed := put_armed s
  have hz : z.armed = s.armed := armed_qPutRaw.trans hy
  split
  · rw [put_armed, put_armed, State.count, put_armed, hy]
  · split
    · rw [put_armed, put_armed, hz]
    · exact hz

theorem se_disarmed : SameEvents s (disarmed s) := ⟨fun _ _ _ => rfl, fun _ => ⟨rfl, rfl⟩, rfl, rfl⟩

/-- Where no pulse began and no route was extended, an instant captures nothing. -/
theorem startCaptures_quiet {x y : State} {due : List Arming} {n c : Nat} (hcapt : ∀ a ∈ due, a.capt = false)
    (hlevel : ∀ k, y.get .TRIGO_LEVEL k = x.get .TRIGO_LEVEL k) (hroute : ∀ c, y.get .SEG_ROUTE_END c = x.get .SEG_ROUTE_END c) :
    startCaptures x due n y c = y := by
  have hnone : due.any (fun a => a.capt && a.slot == c) = false :=
    List.any_eq_false.mpr fun a ha => by simp [hcapt a ha]
  have hpin : pinRose x y c = false := by simp [pinRose, State.flag, hlevel]
  have hslot : routeRose x y c n = false := by
    simp only [routeRose, hroute, Bool.and_eq_false_iff, decide_eq_false_iff_not]
    exact .inr fun h => absurd h.2 (Nat.not_lt.mpr h.1)
  simp [startCaptures, hnone, hpin, hslot]

theorem startInstant_event {a : Arming} (harmed : s.armed = [a]) (hslot : a.slot < 8) (hevt : a.evt = true) (htrig : a.trig = false)
    (hcapt : a.capt = false) : startInstant s a.instant =
      (disarmed s).postAt 0x0400 0x1 a.slot (a.ptr + a.segDone * 65536) a.tSeg := by
  have hdue : s.armed.filter (fun b => b.instant == a.instant) = [a] := by simp [harmed]
  have hrest : ({ s with armed := s.armed.filter fun b => b.instant != a.instant } : State) = disarmed s := by
    simp [harmed, disarmed]
  have hbyslot : (List.range 8).flatMap (fun i => [a].filter fun b => b.slot == i) = [a] := by
    obtain ⟨slot, instant, tSeg, ptr, segDone, evt, trig, capt⟩ := a
    dsimp only at hslot
    interval_cases slot <;> rfl
  have haction : startAction (disarmed s) a = (disarmed s).postAt 0x0400 0x1 a.slot (a.ptr + a.segDone * 65536) a.tSeg := by
    simp [startAction, hevt, htrig]
  unfold startInstant
  simp only [hdue, hrest, hbyslot, List.foldl_cons, List.foldl_nil, haction]
  refine List.foldl_fixed' (fun c => startCaptures_quiet ?_ (fun _ => ?_) fun _ => ?_) _
  · simpa using hcapt
  · simp (disch := decide)
  · simp (disch := decide)

theorem startActions_none (h : ∀ a ∈ s.armed, s.ts < a.instant) : startActions s = s := by
  have hdue : dueInstants s = [] := by
    refine List.foldlRecOn (motive := fun l => l = []) _ _ rfl fun l hl a ha => ?_
    rw [hl, if_neg (Nat.not_le.mpr (h a ha))]
  rw [startActions, hdue]
  rfl

end

/-- Settles O26, clause by clause. -/
theorem segments : Obligations.Segments := by
  refine ⟨fun _ _ _ _ _ _ => segWrite_entry, fun _ _ _ => segWrite_length, fun _ _ _ => segPdo_entry, fun _ _ _ => segPdo_refused,
    fun _ _ => segRestart_stopped, fun _ _ => segRestart_running, ?_, ?_⟩
  · intro t a s harmed hslot hevt htrig hcapt hdue
    refine next_completes rfl ?_
    have harmed' : (s.atTick t).armed = [a] := by simpa using harmed
    have hinstants : dueInstants (s.atTick t) = [a.instant] := by
      rw [dueInstants, harmed', List.foldl_cons, List.foldl_nil, if_pos hdue]
      rfl
    rw [startActions, hinstants, List.foldl_cons, List.foldl_nil, startInstant_event harmed' hslot hevt htrig hcapt]
    exact ⟨armed_postAt, SameEvents.postAt se_disarmed⟩
  · intro t s hlate
    refine next_completes rfl (startActions_none fun a ha => hlate a ?_)
    simpa using ha

end Sys2Proof.Proofs
end

section
/-! O27: goes, SYNC time-outs and chain losses. -/

namespace Sys2Proof.Proofs

open Machine Laws

section
variable {s : State}

/-- A go given to one member of an accord. -/
def goGiven (n t : Nat) (s : State) (i : Nat) : State :=
  let s := if s.getBit .ACC_PEND n i then s.count .ACC_GO_LOST n else s
  ((s.setBit .ACC_PEND n i true).put .GO_T (n * 8 + i) t).put .GO_SEEN i 0

theorem goGiven_own {n t i : Nat} (hi : i < 8) (ht : t < 2 ^ 64) : (goGiven n t s i).getBit .ACC_PEND n i = true ∧
    (goGiven n t s i).get .GO_T (n * 8 + i) = t ∧ (goGiven n t s i).get .GO_SEEN i = 0 := by
  refine ⟨?_, ?_, ?_⟩
  · simp (disch := first | decide | omega) [goGiven, getBit_setBit (show i < Reg.width .ACC_PEND from hi)]
  · simp (disch := first | decide | omega) [goGiven]
  · simp (disch := first | decide | omega) [goGiven]

theorem goGiven_other {n t i j : Nat} (hj : j < 8) (hij : j ≠ i) : (goGiven n t s i).getBit .ACC_PEND n j = s.getBit .ACC_PEND n j ∧
    (goGiven n t s i).get .GO_T (n * 8 + j) = s.get .GO_T (n * 8 + j) ∧ (goGiven n t s i).get .GO_SEEN j = s.get .GO_SEEN j := by
  refine ⟨?_, ?_, ?_⟩
  · unfold goGiven
    split <;> simp (disch := first | decide | omega) [getBit_setBit (show j < Reg.width .ACC_PEND from hj), hij, State.count]
  · simp (disch := first | decide | omega) [goGiven]
  · simp (disch := first | decide | omega) [goGiven]

theorem memb_goGiven {n t i m j : Nat} : (goGiven n t s i).getBit .ACC_MEMB m j = s.getBit .ACC_MEMB m j := by
  unfold goGiven
  split <;> simp (disch := decide) [State.getBit]

/-- A go reaches every member. -/
theorem accGive_member {n t i : Nat} (hi : i < 8) (ht : t < 2 ^ 64) (hmemb : s.getBit .ACC_MEMB n i = true) :
    (accGive s n t).getBit .ACC_PEND n i = true ∧ (accGive s n t).get .GO_T (n * 8 + i) = t ∧ (accGive s n t).get .GO_SEEN i = 0 := by
  refine foldl_visit (f := fun a i => if a.getBit .ACC_MEMB n i then goGiven n t a i else a) (P := fun x => x.getBit .ACC_MEMB n i = true)
    (Q := fun x => x.getBit .ACC_PEND n i = true ∧ x.get .GO_T (n * 8 + i) = t ∧ x.get .GO_SEEN i = 0) (List.mem_range.mpr hi)
    List.nodup_range ?_ ?_ ?_ hmemb
  · intro x k _ hx
    split <;> simpa only [memb_goGiven] using hx
  · intro x hx
    rw [if_pos hx]
    exact goGiven_own hi ht
  · intro x k hk hx
    obtain ⟨hpend, hgo, hseen⟩ := goGiven_other (s := x) (n := n) (t := t) hi hk.symm
    split
    · rwa [hpend, hgo, hseen]
    · exact hx

theorem accGo_given {n : Fin 8} {go : Nat} (hgo : go < 2 ^ 64) (hmode : s.get .ACC_MODE n ≠ 0) (hrole : s.get .ROLE_ACT 0 = 0) :
    Completes (.accGo n go) s fun u =>
      (∀ i < 8, s.getBit .ACC_MEMB n i = true →
        u.getBit .ACC_PEND n i = true ∧ u.get .GO_T (n * 8 + i) = go ∧ u.get .GO_SEEN i = 0) ∧ PostsNone s u := by
  refine next_completes rfl ?_
  have hrun : (accGo s n (go % 2 ^ 64)).1 = accGive s n go := by
    rw [Nat.mod_eq_of_lt hgo]
    simp [accGo, hmode, isManager, State.flag, hrole]
  rw [hrun]
  exact ⟨fun i hi hmemb => accGive_member hi hgo hmemb, by simp⟩

theorem syncTimedOut_late {t : Nat} {i : Slot} (hrun : s.get .TB_RUNNING 0 = 1) (hst : s.get .SEG_STATE i = 3)
    (hms : s.dv .SYNC_TIMEOUT i ≠ 0) (hlate : s.get .ARRIVAL i + s.dv .SYNC_TIMEOUT i * 160000 ≤ max s.ts t) :
    Completes (.syncTimeout t i) s fun u =>
      u.get .SEG_STATE i = 7 ∧ u.get .SYNC_TO i = 1 ∧ u.get .GO_SEEN i = 0 ∧
      (∀ n < 8, u.getBit .ACC_WAITING n i = false) ∧ LastEvent u 0x0406 0x1 i (waitAccord s i) := by
  refine next_completes rfl ?_
  have hdue : (s.atTick t).get .SEG_STATE i = 3 ∧ (s.atTick t).dv .SYNC_TIMEOUT i ≠ 0 ∧
      (s.atTick t).get .ARRIVAL i + (s.atTick t).dv .SYNC_TIMEOUT i * ticksPerMs ≤ (s.atTick t).ts := by
    rw [ts_run hrun]
    simpa [hst, hms, ticksPerMs] using hlate
  have hacc : waitAccord (s.atTick t) i = waitAccord s i := by simp [waitAccord, State.mo]
  simp only [syncTimedOut, hdue, ne_eq, not_false_eq_true, and_self, if_true, hacc]
  refine ⟨?_, ?_, ?_, fun n hn => ?_, lastEvent_of (.refl _)⟩
  case refine_4 =>
    rw [State.getBit, get_State_post (by decide), get_put_reg _ (by decide), ← State.getBit]
    refine foldl_visit (P := fun _ => True) (Q := fun x => x.getBit .ACC_WAITING n i = false) (List.mem_range.mpr hn)
      List.nodup_range (fun _ _ _ _ => trivial) (fun x _ => ?_) (fun x k hk hx => ?_) trivial
    · exact (getBit_setBit (show i.val < Reg.width .ACC_WAITING from i.isLt)).trans (if_pos rfl)
    · exact (congrArg (bit · i) (get_put_inst x hk.symm)).trans hx
  all_goals simp (disch := first | decide | (intros; simp (disch := decide))) [get_each]

theorem chainLost_missed {t : Nat} {i : Slot} {g : Seg} (hrun : s.get .TB_RUNNING 0 = 1) (hend : chainEnd (s.atTick t) i = some g)
    (hst : s.get .CH_STATE i = 1) (hpast : g.endTick ≤ max s.ts t) (hstop : s.get .CH_STOP i = 0)
    (hmissed : s.dv .CS_MISS_MAX i ≤ s.get .CH_MISSED i) : Completes (.csLoss t i) s fun u =>
      u.get .CH_STATE i = 2 ∧ LastEvent u 0x0504 0x1 i (s.get .CH_MISSED i + 1) := by
  refine next_completes rfl ?_
  have hdue : (s.atTick t).get .CH_STATE i = 1 ∧ g.endTick ≤ (s.atTick t).ts ∧ (!(s.atTick t).flag .CH_STOP i) = true ∧
      (s.atTick t).dv .CS_MISS_MAX i ≤ (s.atTick t).get .CH_MISSED i := by
    rw [ts_run hrun]
    simp [hst, hpast, State.flag, hstop, hmissed]
  simp only [chainLost, hend, hdue, and_self, if_true]
  refine ⟨by simp (disch := decide), ?_⟩
  have hcount : ∀ x : State, x.get .CH_MISSED i = s.get .CH_MISSED i → LastEvent ((x.put .CH_STATE i 2).post 0x0504 0x1 i (x.get .CH_MISSED i + 1))
      0x0504 0x1 i (s.get .CH_MISSED i + 1) := fun x hx => hx ▸ lastEvent_of (.refl _)
  exact hcount _ (by simp (disch := decide))

end

/-- Settles O27, clause by clause. -/
theorem accordsAndWaits : Obligations.AccordsAndWaits := by
  refine ⟨fun _ _ _ => accGo_given, fun n go s hmode => next_completes rfl ?_, fun _ _ _ => syncTimedOut_late,
    fun t i s hst => next_completes rfl ?_, fun _ _ _ _ => chainLost_missed, fun t i s hmissed => next_completes rfl ?_⟩
  · simp [accGo, hmode]
  · simp [syncTimedOut, hst]
  · have hfew : ¬ (s.atTick t).dv .CS_MISS_MAX i ≤ (s.atTick t).get .CH_MISSED i := by simpa using hmissed
    unfold chainLost
    split
    · rfl
    · simp only [hfew, and_false, if_false]

end Sys2Proof.Proofs
end

section
/-! O28: modes, set-points, interpolation and halts. -/

namespace Sys2Proof.Proofs

open Machine Laws

/-! ## Writes of the controlword -/

section
variable {s : State} {i : Slot}

theorem inRing_served {j : Nat} : inRing (served s) j = inRing s j := by
  simp (disch := decide) [inRing]

/-- A drive command that the sequencer serves and no ring governs. -/
theorem viaDrive_run {f : State → State × Nat} (hup : s.get .SEQ_DOWN 0 = 0) (hring : inRing s i = false) :
    viaDrive s i f = (f (served s)).1.reply (f (served s)).2 [] := by
  rw [viaDrive, viaObject_run hup (by simp), inRing_served, hring]
  rfl

theorem controlTo_run {cw : Nat} (hup : s.get .SEQ_DOWN 0 = 0) (hring : inRing s i = false) :
    controlTo s i cw = (writeControlword (served s) i cw (slotGatesLow (served s) i)).reply 0 [] :=
  viaDrive_run hup hring

/-- A controlword whose level bits keep an enabled slot enabled: only its mode bits act. -/
theorem writeControlword_enabled {cw j : Nat} {g : Bool} (hdrive : s.get .DRIVE_STATE j = 4) (hride : rideThrough s j = false)
    (hreset : bit cw 7 = false) (h0 : bit cw 0 = true) (h1 : bit cw 1 = true) (h2 : bit cw 2 = true) (h3 : bit cw 3 = true) :
    writeControlword s j cw g =
      let x := s.put .CONTROLWORD j cw
      let y := if bit cw cwHalt ∧ ¬ bit (s.get .CONTROLWORD j) cwHalt then haltOn x j
        else if !bit cw cwHalt ∧ bit (s.get .CONTROLWORD j) cwHalt then haltOff x j else x
      if bit cw 4 ∧ ¬ bit (s.get .CONTROLWORD j) 4 then bitFourRise y j
      else if !bit cw 4 ∧ bit (s.get .CONTROLWORD j) 4 then bitFourFall y j else y := by
  have hstay : cmdEnable (s.put .CONTROLWORD j cw) j = s.put .CONTROLWORD j cw := by
    have hride' : rideThrough (s.put .CONTROLWORD j cw) j = false := by simpa (disch := decide) [rideThrough] using hride
    simp (disch := decide) [cmdEnable, hride', State.drive, hdrive, dsSwitchedOn, dsQuickStop]
  simp only [writeControlword, stateCommand, hreset, h0, h1, h2, h3, hstay]
  simp

/-! ## O28 -/

theorem modeChange_taken {m : Int} (hup : s.get .SEQ_DOWN 0 = 0) (hring : inRing s i = false) (hlo : -128 ≤ m) (hhi : m ≤ 127)
    (hcode : modeCode m = true) (hkind : modeSupported (s.kind i) m = true) : Completes (.modeChange i m) s fun u =>
      u.geti .MODE i = m ∧ u.get .ANS_ABORT 0 = 0 ∧ u.get .MODE_DISP i = s.get .MODE_DISP i ∧ PostsNone s u := by
  refine completes_eq rfl (viaDrive_run hup hring) ?_
  have hround : toSigned 8 (ofSigned 8 m) = m := toSigned_ofSigned (by decide) (by simpa using hlo) (by simp; omega)
  have hin : ¬ (m < -128 ∨ 127 < m) := by omega
  simp (disch := decide) [hin, writeMode, hround, hcode, hkind]
  exact geti_puti_same (by decide) (by simpa using hlo) (by simp; omega)

theorem modeChange_unsupported {m : Int} (hup : s.get .SEQ_DOWN 0 = 0) (hring : inRing s i = false) (hlo : -128 ≤ m) (hhi : m ≤ 127)
    (hcode : modeCode m = true) (hkind : modeSupported (s.kind i) m = false) : Completes (.modeChange i m) s fun u =>
      u.get .MODE i = s.get .MODE i ∧ u.get .ANS_ABORT 0 = 0x08000022 ∧ PostsNone s u := by
  refine completes_eq rfl (viaDrive_run hup hring) ?_
  have hround : toSigned 8 (ofSigned 8 m) = m := toSigned_ofSigned (by decide) (by simpa using hlo) (by simp; omega)
  have hin : ¬ (m < -128 ∨ 127 < m) := by omega
  simp (disch := decide) [hin, writeMode, hround, hcode, hkind, abState]

/-- A halt of an enabled slot that neither homes nor stops. -/
theorem haltOn_enabled {x : State} {j : Nat} (hdrive : x.get .DRIVE_STATE j = 4) (hhome : x.get .HOME_STATE j = 0) (hstop : x.get .STOP_REQ j = 0) :
    haltOn x j = (((x.put .HALTED j 1).put .STOP_REQ j 1).put .STOP_REQ_RATE j (haltRate x j)).put .STOP_REQ_SCURVE j
      (b2n (x.geti .HALT_OPTION j == 1 && haltScurve x j)) := by
  have hgo : ¬ (x.put .HALTED j 1).drive j ≠ dsEnabled := by simp [State.drive, hdrive, dsEnabled]
  have hno : homingAbort (x.put .HALTED j 1) j = x.put .HALTED j 1 := by simp [homingAbort, hhome]
  simp only [haltOn, haltStart, hgo, if_false, hno, requestStop]
  simp [State.flag, hstop]

theorem haltRate_served_put {r : Reg} {j v k : Nat} (hr : r = .CONTROLWORD) : haltRate ((served s).put r j v) k = haltRate s k := by
  subst hr
  simp (disch := decide) [haltRate, stopDecOf, State.modeOf]
  rfl

theorem halt_enabled (hup : s.get .SEQ_DOWN 0 = 0) (hring : inRing s i = false) (hdrive : s.get .DRIVE_STATE i = 4)
    (hcw : s.get .CONTROLWORD i = 0xF) (hride : rideThrough s i = false) (hhome : s.get .HOME_STATE i = 0)
    (hstop : s.get .STOP_REQ i = 0) : Completes (.halt i) s fun u =>
      u.get .CONTROLWORD i = 0x10F ∧ u.get .HALTED i = 1 ∧ u.get .STOP_REQ i = 1 ∧
      u.get .STOP_REQ_RATE i = haltRate s i % 2 ^ Reg.width .STOP_REQ_RATE ∧ u.get .DRIVE_STATE i = 4 ∧ PostsNone s u := by
  have hword : setBit (s.get .CONTROLWORD i) cwHalt true = 0x10F := by rw [hcw]; decide
  have hrun : writeControlword (served s) i 0x10F (slotGatesLow (served s) i) = haltOn ((served s).put .CONTROLWORD i 0x10F) i := by
    rw [writeControlword_enabled (by simpa (disch := decide) using hdrive) (by simpa (disch := decide) [rideThrough] using hride)
      rfl rfl rfl rfl rfl, get_served_reg (by decide), hcw]
    rfl
  refine completes_eq rfl (controlTo_run hup hring) ?_
  rw [hword, hrun, haltOn_enabled (by simpa (disch := decide) using hdrive) (by simpa (disch := decide) using hhome)
    (by simpa (disch := decide) using hstop), haltRate_served_put rfl]
  simp (disch := decide) [trunc, hdrive]

theorem haltRelease_enabled (hup : s.get .SEQ_DOWN 0 = 0) (hring : inRing s i = false) (hdrive : s.get .DRIVE_STATE i = 4)
    (hcw : s.get .CONTROLWORD i = 0x10F) (hride : rideThrough s i = false) (hhalted : s.get .HALTED i = 1) (hbus : s.get .BUS_HALT 0 = 0)
    (hmode : s.geti .MODE_DISP i = 3) : Completes (.haltRelease i) s fun u =>
      u.get .CONTROLWORD i = 0xF ∧ u.get .HALTED i = 0 ∧ u.get .TGT_NEW i = 1 ∧ PostsNone s u := by
  have hword : setBit (s.get .CONTROLWORD i) cwHalt false = 0xF := by rw [hcw]; decide
  have hrun : writeControlword (served s) i 0xF (slotGatesLow (served s) i) = haltOff ((served s).put .CONTROLWORD i 0xF) i := by
    rw [writeControlword_enabled (by simpa (disch := decide) using hdrive) (by simpa (disch := decide) [rideThrough] using hride)
      rfl rfl rfl rfl rfl, get_served_reg (by decide), hcw]
    rfl
  have hclear : ((served s).put .CONTROLWORD i 0xF).getBit .CONTROLWORD i cwHalt = false := by
    simp [State.getBit, trunc]
    decide
  refine completes_eq rfl (controlTo_run hup hring) ?_
  rw [hword, hrun]
  simp (disch := decide) [haltOff, State.flag, hhalted, hclear, hbus, State.drive, hdrive, dsEnabled, restartSource, State.modeOf, hmode]

theorem interpolation_on (hup : s.get .SEQ_DOWN 0 = 0) (hring : inRing s i = false) (hdrive : s.get .DRIVE_STATE i = 4)
    (hcw : s.get .CONTROLWORD i = 0xF) (hride : rideThrough s i = false) (hmode : s.geti .MODE_DISP i = 7) :
    Completes (.enableInterpolation i true) s fun u => u.get .CONTROLWORD i = 0x1F ∧ u.get .CH_STOP i = 0 ∧ PostsNone s u := by
  have hword : setBit (s.get .CONTROLWORD i) 4 true = 0x1F := by rw [hcw]; decide
  have hrun : writeControlword (served s) i 0x1F (slotGatesLow (served s) i) = bitFourRise ((served s).put .CONTROLWORD i 0x1F) i := by
    rw [writeControlword_enabled (by simpa (disch := decide) using hdrive) (by simpa (disch := decide) [rideThrough] using hride)
      rfl rfl rfl rfl rfl, get_served_reg (by decide), hcw]
    rfl
  refine completes_eq rfl (controlTo_run hup hring) ?_
  rw [hword, hrun]
  simp (disch := decide) [bitFourRise, State.drive, hdrive, dsEnabled, State.modeOf, hmode, interpolationOn]

/-- Bit 4 of an enabled slot in mode 7 falls. -/
theorem interpolation_off (hup : s.get .SEQ_DOWN 0 = 0) (hring : inRing s i = false) (hdrive : s.get .DRIVE_STATE i = 4)
    (hcw : s.get .CONTROLWORD i = 0x1F) (hride : rideThrough s i = false) (hmode : s.geti .MODE_DISP i = 7) :
    controlTo s i (setBit (s.get .CONTROLWORD i) 4 false) =
      (interpolationOff (((served s).put .CONTROLWORD i 0xF).put .SP_ACK i 0) i).reply 0 [] := by
  have hword : setBit (s.get .CONTROLWORD i) 4 false = 0xF := by rw [hcw]; decide
  have hrun : writeControlword (served s) i 0xF (slotGatesLow (served s) i) = bitFourFall ((served s).put .CONTROLWORD i 0xF) i := by
    rw [writeControlword_enabled (by simpa (disch := decide) using hdrive) (by simpa (disch := decide) [rideThrough] using hride)
      rfl rfl rfl rfl rfl, get_served_reg (by decide), hcw]
    rfl
  rw [hword, controlTo_run hup hring, hrun]
  simp (disch := decide) [bitFourFall, State.modeOf, hmode]

theorem interpolation_last (hup : s.get .SEQ_DOWN 0 = 0) (hring : inRing s i = false) (hdrive : s.get .DRIVE_STATE i = 4)
    (hcw : s.get .CONTROLWORD i = 0x1F) (hride : rideThrough s i = false) (hmode : s.geti .MODE_DISP i = 7)
    (hst : s.get .CH_STATE i = 1) (hchain : ((s.mo i).chain.take 1).any (fun g => decide (g.start ≤ s.get .EV_T i)) = true)
    (hlen : s.motion.length = 8) : Completes (.enableInterpolation i false) s fun u =>
      u.get .CONTROLWORD i = 0xF ∧ u.get .CH_STOP i = 1 ∧ u.get .SP_ACK i = 0 ∧ (u.mo i).chain = (s.mo i).chain.take 1 ∧ PostsNone s u := by
  refine completes_eq rfl (interpolation_off hup hring hdrive hcw hride hmode) ?_
  have hkept : ((s.mo i).chain.take 1).filter (fun g => decide (g.start ≤ s.get .EV_T i)) = (s.mo i).chain.take 1 := by
    cases h : (s.mo i).chain with
    | nil => rfl
    | cons g _ => simpa [h] using hchain
  have hsome : (s.mo i).chain.take 1 ≠ [] := by
    intro h
    simp [h] at hchain
  have hroom : i.val < (((served s).put .CONTROLWORD i 0xF).put .SP_ACK i 0).motion.length := by
    rw [put_motion, put_motion, served]
    split <;> simp [hlen]
  have hst' : (((served s).put .CONTROLWORD i 0xF).put .SP_ACK i 0).get .CH_STATE i = 1 := by simpa (disch := decide) using hst
  have hev : (((served s).put .CONTROLWORD i 0xF).put .SP_ACK i 0).get .EV_T i = s.get .EV_T i := by simp (disch := decide)
  simp only [interpolationOff, hst', if_true, hev, mo_put, mo_served, hkept, hsome, if_false]
  refine ⟨by simp (disch := decide), by simp (disch := decide), by simp (disch := decide), ?_, by simp (disch := decide)⟩
  rw [mo_reply, mo_put, mo_setMo hroom]

theorem interpolation_none (hup : s.get .SEQ_DOWN 0 = 0) (hring : inRing s i = false) (hdrive : s.get .DRIVE_STATE i = 4)
    (hcw : s.get .CONTROLWORD i = 0x1F) (hride : rideThrough s i = false) (hmode : s.geti .MODE_DISP i = 7)
    (hst : s.get .CH_STATE i = 1) (hchain : (s.mo i).chain = []) : Completes (.enableInterpolation i false) s fun u =>
      u.get .CONTROLWORD i = 0xF ∧ u.get .CH_STATE i = 0 ∧ u.get .SP_ACK i = 0 ∧ PostsNone s u := by
  refine completes_eq rfl (interpolation_off hup hring hdrive hcw hride hmode) ?_
  simp (disch := decide) [interpolationOff, hst, hchain]

/-- A set-point with the change-immediately bit, absolute and within the limits. -/
theorem newSetPoint_immediate {x : State} {j : Nat} (hmode : x.geti .MODE_DISP j = 1) (hdrive : x.get .DRIVE_STATE j = 4)
    (h5 : bit (x.get .CONTROLWORD j) 5 = true) (h6 : bit (x.get .CONTROLWORD j) 6 = false) (hgn : x.gn2008 = false)
    (hlo : x.dvi .SOFTLIM_LO j ≤ x.geti .TARGET_POS j) (hhi : x.geti .TARGET_POS j ≤ x.dvi .SOFTLIM_HI j) :
    newSetPoint x j = (((((x.put .SP_ACK j 1).put .TGT_SET j 1).puti .TGT_P j (x.geti .TARGET_POS j * 65536)).put .TGT_NEW j 1).put
      .SP_FULL j 0).put .PASS_V j 0 := by
  have hclamp : clampTarget x j (x.geti .TARGET_POS j * 65536) = (x, x.geti .TARGET_POS j * 65536) := by
    simp [clampTarget, hgn, usub, Int.not_lt.mpr hlo, Int.not_lt.mpr hhi]
  simp [newSetPoint, State.modeOf, hmode, State.drive, hdrive, dsEnabled, h5, h6, hgn, hclamp, usub]

theorem newSetPoint_now {cw : Nat} (hup : s.get .SEQ_DOWN 0 = 0) (hring : inRing s i = false) (hmode : s.geti .MODE_DISP i = 1)
    (hdrive : s.get .DRIVE_STATE i = 4) (hcw : s.get .CONTROLWORD i = 0xF) (hride : rideThrough s i = false) (h5 : bit cw 5 = true)
    (h6 : bit cw 6 = false) (hgn : s.gn2008 = false) (hlo : s.dvi .SOFTLIM_LO i ≤ s.geti .TARGET_POS i)
    (hhi : s.geti .TARGET_POS i ≤ s.dvi .SOFTLIM_HI i) : Completes (.newSetPoint i cw) s fun u =>
      u.get .SP_ACK i = 1 ∧ u.get .TGT_SET i = 1 ∧ u.get .TGT_NEW i = 1 ∧ u.get .SP_FULL i = 0 ∧ u.get .PASS_V i = 0 ∧
      u.geti .TGT_P i = s.geti .TARGET_POS i * 65536 ∧ u.get .DRIVE_STATE i = 4 ∧ PostsNone s u := by
  have hbit : ∀ k, bit (setBit (mergeMask 0xF cw 0x260) 4 true) k = if k = 4 then true else if bit 0x260 k then bit cw k else bit 0xF k :=
    fun k => by rw [bit_setBit, bit_mergeMask]
  have hrun : exec (.newSetPoint i cw) s = .next (controlTo s i (setBit (mergeMask 0xF cw 0x260) 4 true)) := by
    have hfour : s.getBit .CONTROLWORD i 4 = false := by rw [State.getBit, hcw]; decide
    change execNewSetPoint i cw s = _
    simp [execNewSetPoint, riseBit, hfour, hcw]
  generalize setBit (mergeMask 0xF cw 0x260) 4 true = w at hbit hrun
  have hword : writeControlword (served s) i w (slotGatesLow (served s) i) = newSetPoint ((served s).put .CONTROLWORD i w) i := by
    rw [writeControlword_enabled (by simpa (disch := decide) using hdrive) (by simpa (disch := decide) [rideThrough] using hride)
      (hbit 7) (hbit 0) (hbit 1) (hbit 2) (hbit 3), get_served_reg (by decide), hcw, hbit, hbit]
    simp (disch := decide) [cwHalt, show bit 0xF 4 = false by decide, show bit 0xF 8 = false by decide, show bit 0x260 8 = false by decide,
      bitFourRise, State.drive, hdrive, dsEnabled, State.modeOf, hmode]
  refine completes_eq hrun (controlTo_run hup hring) ?_
  have hcwput : ((served s).put .CONTROLWORD i w).get .CONTROLWORD i = trunc 16 w := get_put_same _
  rw [hword, newSetPoint_immediate]
  case hmode => simpa (disch := decide) using hmode
  case hdrive => simpa (disch := decide) using hdrive
  case h5 => rw [hcwput, bit_trunc _ _ _ (by decide), hbit]; exact h5
  case h6 => rw [hcwput, bit_trunc _ _ _ (by decide), hbit]; exact h6
  case hgn => simpa (disch := decide) [State.gn2008] using hgn
  case hlo => simpa (disch := decide) [State.dvi] using hlo
  case hhi => simpa (disch := decide) [State.dvi] using hhi
  obtain ⟨hmin, hmax⟩ := toSigned_range (w := 32) (v := s.get .TARGET_POS i) (by decide)
  have htarget : ∀ x : State, (x.puti .TGT_P i (s.geti .TARGET_POS i * 65536)).geti .TGT_P i = s.geti .TARGET_POS i * 65536 := by
    intro x
    change -2147483648 ≤ s.geti .TARGET_POS i at hmin
    change s.geti .TARGET_POS i < 2147483648 at hmax
    refine geti_puti_same (by decide) ?_ ?_ <;> simp <;> omega
  simp (disch := decide) [htarget, hdrive]

end

/-- Settles O28, clause by clause. -/
theorem setPointsAndHalts : Obligations.SetPointsAndHalts :=
  ⟨fun _ _ _ => modeChange_taken, fun _ _ _ => modeChange_unsupported, fun _ _ _ => newSetPoint_now, fun _ _ => halt_enabled,
    fun _ _ => haltRelease_enabled, fun _ _ => interpolation_on, fun _ _ => interpolation_last, fun _ _ => interpolation_none⟩

end Sys2Proof.Proofs
end

section
/-! Reads of a state at another tick, and signed fields that hold what was written. -/

namespace Sys2Proof.Proofs

open Machine Laws

section
variable {s : State} {t : Nat}

@[simp] theorem geti_atTick {r : Reg} {i : Nat} : (s.atTick t).geti r i = s.geti r i := congrArg (toSigned r.width) (get_atTick s)

@[simp] theorem getBit_atTick {r : Reg} {i k : Nat} : (s.atTick t).getBit r i k = s.getBit r i k := congrArg (bit · k) (get_atTick s)

@[simp] theorem flag_atTick {r : Reg} {i : Nat} : (s.atTick t).flag r i = s.flag r i := by
  simp only [State.flag, get_atTick]

@[simp] theorem dflag_atTick {r : Reg} {i : Nat} : (s.atTick t).dflag r i = s.dflag r i := by
  simp only [State.dflag, dv_atTick]

@[simp] theorem dflag_put {r q : Reg} {i j v : Nat} : (s.put r i v).dflag q j = s.dflag q j := rfl

@[simp] theorem dflag_puti {r q : Reg} {i j : Nat} {z : Int} : (s.puti r i z).dflag q j = s.dflag q j := rfl

@[simp] theorem kind_atTick {i : Nat} : (s.atTick t).kind i = s.kind i := dv_atTick s

@[simp] theorem mo_atTick {i : Nat} : (s.atTick t).mo i = s.mo i := by
  simp [State.mo]

/-! ## Single bits -/

/-- The bits of a field one of whose bits has been written. -/
@[simp] theorem bit_get_setBit {r : Reg} {i j k : Nat} {b : Bool} (h : j < r.width) :
    bit ((s.setBit r i k b).get r i) j = if j = k then b else bit (s.get r i) j := getBit_setBit h

@[simp] theorem getBit_setBit_reg {r q : Reg} {i j k l : Nat} {b : Bool} (h : q ≠ r) :
    (s.setBit r i k b).getBit q j l = s.getBit q j l := congrArg (bit · l) (get_put_reg s h)

/-- An event posted in a state that has the events of another. -/
theorem posts_of {x y : State} {a b c d e : Nat} (h : SameEvents x y) (he : d = e) : Posts x (y.post a b c d) a b c e :=
  he ▸ se_post h

/-! ## Input edges and written numbers -/

/-- What an input edge does while the timebase runs. -/
theorem sampled_running {f : State → State} (h : s.get .TB_RUNNING 0 = 1) : sampled s f = f s := by
  simp [sampled, State.flag, h]

/-- A signed field holds the bits of what was written to it. -/
theorem get_puti_ofSigned {r : Reg} {i : Nat} {z : Int} : (s.puti r i z).get r i = ofSigned r.width z :=
  get_puti_same.trans (trunc_of_lt (ofSigned_lt _ _))

end

end Sys2Proof.Proofs
end

section
/-! O29: switches, index, homing and step-follow. -/

namespace Sys2Proof.Proofs

open Machine Laws

/-! ## Edges of switches and of the index -/

section
variable {s : State} {t : Nat} {i : Slot}

theorem ball_switchEdge {k : Nat} {level : Bool} (hk : k < 3) : (switchEdge s i k level).getBit .SW_BALL i k = level := by
  by_cases hsame : s.getBit .SW_BALL i k = level
  · simp [switchEdge, hsame]
  · have hball : (switchEdge s i k level).get .SW_BALL i = (s.setBit .SW_BALL i k level).get .SW_BALL i := by
      simp (disch := decide) only [switchEdge, hsame, if_false, get_ite', get_triggerCapture, get_limitActive, get_homingEdge, get_refreshSwitches, ite_self]
    exact (congrArg (bit · k) hball).trans ((getBit_setBit (show k < Reg.width .SW_BALL from hk)).trans (if_pos rfl))

theorem switchEdge_same {k : Nat} {level : Bool} (h : s.getBit .SW_BALL i k = level) : switchEdge s i k level = s := if_pos h

theorem homeSwitch_found (hrun : s.get .TB_RUNNING 0 = 1) (hball : s.getBit .SW_BALL i 2 = false) (hboot : s.get .BOOT_DONE 0 = 1)
    (hwas : roleActive s i 3 = false) (hon : roleActive (refreshSwitches ((s.atTick t).setBit .SW_BALL i 2 true) i) i 3 = true)
    (hphase : s.get .HOME_STATE i = 1) (htaken : s.get .HM_TAKEN i = 0) (hsearch : searchSwitch (s.geti .HM_METHOD i) = 3) :
    Completes (.homeSwitchEdge t i true) s fun u =>
      u.getBit .SW_BALL i 2 = true ∧ u.get .HM_TAKEN i = 1 ∧ u.get .HM_REQ i = 2 ∧ u.get .HOME_STATE i = 1 := by
  refine completes_eq rfl (sampled_running hrun) ⟨ball_switchEdge (by decide), ?_⟩
  have hedge : (s.atTick t).getBit .SW_BALL i 2 = false := by simpa [State.getBit] using hball
  have hbefore : roleActive (s.atTick t) i 3 = false := by simpa [roleActive, State.getBit] using hwas
  have hsrch : searchSwitch ((refreshSwitches ((s.atTick t).setBit .SW_BALL i 2 true) i).geti .HM_METHOD i) = 3 := by
    simpa (disch := decide) [State.geti] using hsearch
  have hrole : roleOf (s.atTick t) i 2 = 3 := rfl
  simp (disch := decide) [switchEdge, hedge, hrole, hbefore, hon, State.flag, hboot, homingRuns, hphase, homingEdge, hsrch, htaken, trunc]

/-- A capture may disarm its channel; the other bits of the channel's state stay. -/
theorem fbStat_triggerCapture {x : State} {c trg u k : Nat} (hw : k < Reg.width .FB_STAT) (hk : k ≠ armedBit) :
    (triggerCapture x c trg u).getBit .FB_STAT c k = x.getBit .FB_STAT c k := by
  have hcapture : ∀ y : State, (capture y c trg u).getBit .FB_STAT c k = y.getBit .FB_STAT c k :=
    fun y => congrArg (bit · k) (get_capture (by decide))
  unfold triggerCapture
  split
  · rfl
  split
  · split
    · exact (hcapture _).trans ((getBit_setBit hw).trans (if_neg hk))
    · rfl
  · exact hcapture _

theorem index_indexEdge {c : Nat} {level : Bool} : (indexEdge s c level).getBit .FB_STAT c 8 = level := by
  by_cases hsame : s.getBit .FB_STAT c 8 = level
  · simp [indexEdge, hsame]
  · have hset : (s.setBit .FB_STAT c 8 level).getBit .FB_STAT c 8 = level :=
      (getBit_setBit (show 8 < Reg.width .FB_STAT by decide)).trans (if_pos rfl)
    have hindex : ∀ x b e, (homingIndex x c b e).getBit .FB_STAT c 8 = x.getBit .FB_STAT c 8 :=
      fun x b e => congrArg (bit · 8) (get_homingIndex (by decide))
    simp only [indexEdge, hsame, if_false]
    split
    · exact hset
    · split
      · rw [fbStat_triggerCapture (by decide) (by decide), hindex, hset]
      · rw [hindex, hset]

theorem homingIndex_found {x : State} {c : Nat} {p : Int} (hphase : x.get .HOME_STATE c = 3) :
    (homingIndex x c true p).get .HOME_STATE c = 4 ∧ (homingIndex x c true p).get .HM_REQ c = 2 ∧ (homingIndex x c true p).get .HM_TAKEN c = 1 := by
  have hfound : homingIndex x c true p = (homingSettle (homingReference (x.put .HM_TAKEN c 1) c p) c).put .HM_REQ c 2 := by
    simp only [homingIndex, hphase, if_true]
  rw [hfound]
  simp (disch := decide) [homingSettle, trunc]

theorem index_found {c : Slot} (hrun : s.get .TB_RUNNING 0 = 1) (hidx : s.getBit .FB_STAT c 8 = false) (hboot : s.get .BOOT_DONE 0 = 1)
    (hmode : chMode s c ≠ 2) (hpol : s.dv .Z_POL c = 1) (hgate : s.dv .Z_GATE c = 0) (hphase : s.get .HOME_STATE c = 3) :
    Completes (.indexEdge t c true) s fun u => u.get .HOME_STATE c = 4 ∧ u.get .HM_REQ c = 2 ∧ u.get .HM_TAKEN c = 1 := by
  refine completes_eq rfl (sampled_running hrun) ?_
  have hlow : (s.atTick t).getBit .FB_STAT c 8 = false := by simpa [State.getBit] using hidx
  have hmode' : chMode ((s.atTick t).setBit .FB_STAT c 8 true) c ≠ 2 := by
    rwa [show chMode ((s.atTick t).setBit .FB_STAT c 8 true) c = chMode s c by
      rw [chMode, State.kind, dv_setBit, dv_setBit, dv_atTick, dv_atTick]
      rfl]
  have hgate' : ((s.atTick t).setBit .FB_STAT c 8 true).dflag .Z_GATE c = false := by simp [State.dflag, hgate]
  have hpol' : ((s.atTick t).setBit .FB_STAT c 8 true).dflag .Z_POL c = true := by simp [State.dflag, hpol]
  have hbooted : ((s.atTick t).setBit .FB_STAT c 8 true).flag .BOOT_DONE 0 = true := by simp [State.flag, hboot]
  obtain ⟨hstate, hreq, htaken⟩ := homingIndex_found (x := (s.atTick t).setBit .FB_STAT c 8 true) (c := c)
    (p := actOf ((s.atTick t).setBit .FB_STAT c 8 true) c (countAt ((s.atTick t).setBit .FB_STAT c 8 true) c
      (encEdgeTick ((s.atTick t).setBit .FB_STAT c 8 true) c))) (by simp [hphase])
  simp only [indexEdge, hlow, hbooted, hmode', hgate', hpol', get_ite']
  simp (disch := decide) [hstate, hreq, htaken]

/-! ## The start of homing and its failures -/

@[simp] theorem get_developList {x : State} {l : List Reg} {r : Reg} {j k : Nat} : (x.developList l j).get r k = x.get r k :=
  foldl_keep (f := fun a q => a.develop q j) (fun _ _ => rfl) l x

theorem dv_developList {x : State} {l : List Reg} {r : Reg} {j k : Nat} (h : r ∉ l) : (x.developList l j).dv r k = x.dv r k :=
  keep_foldl_mem (P := fun y => y.dv r k = x.dv r k) (fun _ q hq hy => Eq.trans (dv_putDev_reg _ (show r ≠ q from fun e => h (e ▸ hq))) hy) rfl

/-- Whether a method fits stands in fields that the start of homing does not develop. -/
theorem methodFits_congr {x y : State} {j : Nat} {m : Int} (hsal : y.get .SALIENCY j = x.get .SALIENCY j)
    (hdv : ∀ r ∉ homingFields, y.dv r j = x.dv r j) : methodFits y j m = methodFits x j m := by
  have hkind : y.kind j = x.kind j := hdv _ (by decide)
  have hencoder : y.hasEncoder j = x.hasEncoder j := by rw [State.hasEncoder, hkind, hdv _ (by decide), ← State.hasEncoder]
  have hroles : roleEnabled y j = roleEnabled x j := by
    funext sw
    simp only [roleEnabled, State.dflag, hdv .LIMN_EN (by decide), hdv .LIMP_EN (by decide), hdv .HOME_EN (by decide)]
  simp only [methodFits, hroles, hencoder, hkind, hsal, hdv .SAL_MIN (by decide), hdv .HOMING_SPEED_SW (by decide), hdv .OBS_VLOW (by decide)]

/-- A slot whose homing is about to start: its homing fields are in force, and it has no reference. -/
def homingPrepared (s : State) (i : Nat) : State :=
  (((((s.developList homingFields i).put .HOMED i 0).puti .HM_METHOD i (s.geti .HOMING_METHOD i)).put .HM_MOVING_BACK i 0).put .HM_LIMITED i 0)

theorem se_homingPrepared {x : State} {j : Nat} : SameEvents x (homingPrepared x j) := by
  simp (disch := decide) [homingPrepared, homingFields, State.developList]

theorem get_homingPrepared {x : State} {r : Reg} {j k : Nat} (h : r ∉ [Reg.HOMED, .HM_METHOD, .HM_MOVING_BACK, .HM_LIMITED]) :
    (homingPrepared x j).get r k = x.get r k := by
  simp only [List.mem_cons, List.not_mem_nil, or_false, not_or] at h
  obtain ⟨h1, h2, h3, h4⟩ := h
  simp [homingPrepared, h1, h2, h3, h4]

theorem methodFits_homingPrepared {x : State} {j : Nat} {m : Int} : methodFits (homingPrepared x j) j m = methodFits x j m :=
  methodFits_congr (get_homingPrepared (by decide)) fun r hr => by
    simp only [homingPrepared, dv_put, dv_puti]
    exact dv_developList hr

theorem homingStart_idle {x : State} {j : Nat} (hidle : homingRuns x j = false) (hunfit : methodFits x j (x.geti .HOMING_METHOD j) = false) :
    homingStart x j = homingFail (homingPrepared x j) j 6 := by
  have hno : methodFits (homingPrepared x j) j (x.geti .HOMING_METHOD j) = false := methodFits_homingPrepared.trans hunfit
  unfold homingStart
  rw [if_neg (by simp [hidle])]
  exact if_pos (by rw [← Bool.not_eq_true'] at hno; exact hno)

theorem homingStart_reference {x : State} {j : Nat} (hidle : homingRuns x j = false) (hmethod : x.geti .HOMING_METHOD j = 37) :
    ∃ p, homingStart x j = homingAttained (homingReference (homingPrepared x j) j p) j := by
  unfold homingStart
  rw [if_neg (by simp [hidle]), if_neg (by rw [hmethod]; exact Bool.false_ne_true), if_pos (by simp [hmethod])]
  exact ⟨_, rfl⟩

/-- Bit 4 of an enabled slot in mode 6 rises. -/
theorem homing_asked (hup : s.get .SEQ_DOWN 0 = 0) (hring : inRing s i = false) (hmode : s.geti .MODE_DISP i = 6)
    (hdrive : s.get .DRIVE_STATE i = 4) (hcw : s.get .CONTROLWORD i = 0xF) (hride : rideThrough s i = false) :
    riseBit s i 4 (s.get .CONTROLWORD i) = (homingStart ((served s).put .CONTROLWORD i 0x1F) i).reply 0 [] := by
  have hlow : s.getBit .CONTROLWORD i 4 = false := by
    rw [State.getBit, hcw]
    decide
  have hword : setBit (s.get .CONTROLWORD i) 4 true = 0x1F := by
    rw [hcw]
    decide
  have hrun : writeControlword (served s) i 0x1F (slotGatesLow (served s) i) = bitFourRise ((served s).put .CONTROLWORD i 0x1F) i := by
    rw [writeControlword_enabled (by simpa (disch := decide) using hdrive) (by simpa (disch := decide) [rideThrough] using hride)
      rfl rfl rfl rfl rfl, get_served_reg (by decide), hcw]
    rfl
  simp only [riseBit, hlow, hword]
  rw [if_neg (by decide), controlTo_run hup hring, hrun]
  simp (disch := decide) [bitFourRise, State.drive, hdrive, dsEnabled, State.modeOf, hmode]

theorem homingStart_here (hup : s.get .SEQ_DOWN 0 = 0) (hring : inRing s i = false) (hmode : s.geti .MODE_DISP i = 6)
    (hdrive : s.get .DRIVE_STATE i = 4) (hcw : s.get .CONTROLWORD i = 0xF) (hride : rideThrough s i = false)
    (hidle : homingRuns s i = false) (hmethod : s.geti .HOMING_METHOD i = 37) : Completes (.homingStart i) s fun u =>
      u.get .HOME_STATE i = 5 ∧ u.get .HOMED i = 1 ∧ u.get .HOME_FAIL i = s.get .HOME_FAIL i ∧
      Posts s u 0x0505 0x1 i (u.get .HOME_LATCH i % 2 ^ 32) := by
  refine completes_eq rfl (homing_asked hup hring hmode hdrive hcw hride) ?_
  have hruns : homingRuns ((served s).put .CONTROLWORD i 0x1F) i = false := by simpa (disch := decide) [homingRuns] using hidle
  obtain ⟨p, hstart⟩ := homingStart_reference hruns (by simpa (disch := decide) using hmethod)
  have hquiet : SameEvents s (homingReference (homingPrepared ((served s).put .CONTROLWORD i 0x1F) i) i p) := by
    rw [se_homingReference]
    exact SameEvents.trans (by simp (disch := decide)) se_homingPrepared
  have hfail : (homingPrepared ((served s).put .CONTROLWORD i 0x1F) i).get .HOME_FAIL i = s.get .HOME_FAIL i :=
    (get_homingPrepared (by decide)).trans (by simp (disch := decide))
  rw [hstart]
  generalize homingPrepared ((served s).put .CONTROLWORD i 0x1F) i = x at hquiet hfail
  simp (disch := decide) only [homingAttained, get_reply, get_State_post, get_put_reg, get_put_same, get_puti_reg, get_homingReference, hfail,
    posts_iff, se_reply]
  refine ⟨rfl, rfl, trivial, se_post ?_⟩
  simpa (disch := decide) using hquiet

theorem homingStart_unfit (hup : s.get .SEQ_DOWN 0 = 0) (hring : inRing s i = false) (hmode : s.geti .MODE_DISP i = 6)
    (hdrive : s.get .DRIVE_STATE i = 4) (hcw : s.get .CONTROLWORD i = 0xF) (hride : rideThrough s i = false)
    (hidle : homingRuns s i = false) (hfits : methodFits s i (s.geti .HOMING_METHOD i) = false) :
    Completes (.homingStart i) s fun u =>
      u.get .HOME_STATE i = 7 ∧ u.get .HOMED i = 0 ∧ u.get .HOME_FAIL i = 6 ∧ Posts s u 0x0506 0x1 i 6 := by
  refine completes_eq rfl (homing_asked hup hring hmode hdrive hcw hride) ?_
  have hruns : homingRuns ((served s).put .CONTROLWORD i 0x1F) i = false := by simpa (disch := decide) [homingRuns] using hidle
  have hunfit : methodFits ((served s).put .CONTROLWORD i 0x1F) i (((served s).put .CONTROLWORD i 0x1F).geti .HOMING_METHOD i) = false := by
    rw [methodFits_congr (x := s) (by simp (disch := decide)) (fun r _ => by simp), geti_put_reg (by decide), geti_served (by decide), hfits]
  have hquiet : SameEvents s (homingPrepared ((served s).put .CONTROLWORD i 0x1F) i) :=
    SameEvents.trans (by simp (disch := decide)) se_homingPrepared
  rw [homingStart_idle hruns hunfit]
  generalize homingPrepared ((served s).put .CONTROLWORD i 0x1F) i = x at hquiet
  simp (disch := decide) [homingFail, trunc]
  exact se_post (by simpa (disch := decide) using hquiet)

theorem homing_tooMany (hlo : 1 ≤ s.get .HOME_STATE i) (hhi : s.get .HOME_STATE i ≤ 4) (hmany : s.dv .CHATTER_MAX i < s.get .HOME_EDGES i) :
    Completes (.homingChatter i) s fun u => u.get .HOME_FAIL i = 1 ∧ u.get .HOMED i = 0 ∧ Posts s u 0x0506 0x1 i 1 := by
  refine next_completes rfl ?_
  simp (disch := decide) [homingChatters, inside, hlo, hhi, hmany, homingFail, trunc]
  exact se_post (by simp (disch := decide))

theorem homing_tooFar (hlo : 1 ≤ s.get .HOME_STATE i) (hhi : s.get .HOME_STATE i ≤ 4) (htop : s.dv .HOME_DIST_MAX i ≠ 0)
    (hfar : s.dv .HOME_DIST_MAX i * 65536 < homingTravel s i) :
    Completes (.homingDistance i) s fun u => u.get .HOME_FAIL i = 3 ∧ u.get .HOMED i = 0 ∧ Posts s u 0x0506 0x1 i 3 := by
  refine next_completes rfl ?_
  simp (disch := decide) [homingTooFar, inside, hlo, hhi, htop, hfar, homingFail, trunc]
  exact se_post (by simp (disch := decide))

theorem homing_noIndex (hphase : s.get .HOME_STATE i = 3) (hfar : s.dv .HOME_IDX_MAX i * 65536 < homingTravel s i) :
    Completes (.homingNoIndex i) s fun u => u.get .HOME_FAIL i = 4 ∧ u.get .HOMED i = 0 ∧ Posts s u 0x0506 0x1 i 4 := by
  refine next_completes rfl ?_
  simp (disch := decide) [homingLacksIndex, hphase, hfar, homingFail, trunc]
  exact se_post (by simp (disch := decide))

/-! ## Step-follow -/

theorem stepEdge_counts {level dir : Bool} (hrun : s.get .TB_RUNNING 0 = 1) (hwas : s.flag .STEP_LEVEL i ≠ level)
    (hedge : s.dflag .SF_EDGE i ≠ level) : Completes (.stepEdge t i level dir) s fun u =>
      u.get .STEP_LEVEL i = (if level then 1 else 0) ∧ u.get .DIR_LEVEL i = (if dir then 1 else 0) ∧
      u.get .SF_COUNT i = ofSigned 32 (s.geti .SF_COUNT i + if dir = s.dflag .SF_DIR_INV i then -1 else 1) := by
  refine completes_eq rfl (sampled_running hrun) ?_
  have hcounts : (s.flag .STEP_LEVEL i != level && level != s.dflag .SF_EDGE i) = true := by
    simp [hwas, Ne.symm hedge]
  have hstep : (if dir != s.dflag .SF_DIR_INV i then 1 else -1 : Int) = if dir = s.dflag .SF_DIR_INV i then -1 else 1 := by
    by_cases h : dir = s.dflag .SF_DIR_INV i <;> simp [h]
  simp only [stepEdge, flag_atTick, dflag_put, dflag_atTick]
  rw [hcounts, if_neg (by decide)]
  simp only [hstep]
  refine ⟨?_, ?_, ?_⟩
  · cases level <;> simp [b2n, trunc]
  · cases dir <;> simp [b2n, trunc]
  · rw [get_puti_ofSigned, geti_put_reg (by decide), geti_put_reg (by decide), geti_atTick]
    rfl

theorem stepEdge_ignored {level dir : Bool} (hrun : s.get .TB_RUNNING 0 = 1) (hno : s.flag .STEP_LEVEL i = level ∨ s.dflag .SF_EDGE i = level) :
    Completes (.stepEdge t i level dir) s fun u =>
      u.get .STEP_LEVEL i = (if level then 1 else 0) ∧ u.get .SF_COUNT i = s.get .SF_COUNT i := by
  refine completes_eq rfl (sampled_running hrun) ?_
  have hcounts : (s.flag .STEP_LEVEL i != level && level != s.dflag .SF_EDGE i) = false := by
    rcases hno with h | h <;> simp [h]
  simp only [stepEdge, flag_atTick, dflag_put, dflag_atTick]
  rw [hcounts, if_pos (by decide)]
  cases level <;> simp [b2n, trunc]

end

/-- Settles O29, clause by clause. -/
theorem homingAndSteps : Obligations.HomingAndSteps := by
  refine ⟨fun t i positive level s hrun => completes_eq rfl (sampled_running hrun) (ball_switchEdge (by cases positive <;> decide)),
    fun t i positive level s hsame => next_completes rfl ?_, fun _ _ _ hrun hball hboot _ => homeSwitch_found hrun hball hboot,
    fun t c level s hrun => completes_eq rfl (sampled_running hrun) index_indexEdge, fun _ _ _ => index_found,
    fun _ _ => homingStart_here, fun _ _ => homingStart_unfit, fun _ _ => homing_tooMany, fun _ _ => homing_tooFar,
    fun _ _ => homing_noIndex, fun _ _ _ _ _ => stepEdge_counts, fun _ _ _ _ _ => stepEdge_ignored,
    fun i s hst hstill => next_completes rfl ?_, fun i s hst => next_completes rfl ?_⟩
  · have hbit : s.getBit .SW_BALL i (b2n positive) = level := by cases positive <;> exact hsame
    by_cases hrun : s.flag .TB_RUNNING 0 = true
    · simp only [sampled, hrun, if_true]
      exact switchEdge_same (getBit_atTick.trans hbit)
    · simp [sampled, hrun, State.atTick]
  · simp (disch := decide) [execCommand, command, followRestart, hst, State.flag, hstill, enterFollow, trunc]
  · simp (disch := decide) [execCommand, command, followRestart, hst, State.count, trunc]

end Sys2Proof.Proofs
end

section
/-! O30: what the current regulator declares. -/

namespace Sys2Proof.Proofs

open Machine Laws

section
variable {s : State} {t : Nat} {i : Slot}

theorem senseLost_fault {w : Nat} (hcomp : firstComp s i (fun k => decide (s.dv .NOSAMPLE_MAX i ≤ s.get .W_MISS k)) = some w)
    (hstat : s.getBit .REG_STAT i 4 = false) (hmax : s.dv .NOSAMPLE_MAX i ≠ 0) (hfault : slotFaulted s i = false) :
    Completes (.curSenseLost i) s fun u =>
      u.get .SENSE_LOST i = 1 ∧ u.get .FAULT_CAUSE i = 0x0F ∧ (u.get .DRIVE_STATE i = 6 ∨ u.get .DRIVE_STATE i = 7) := by
  refine next_completes rfl ?_
  have hwell : slotFaulted (vwInvalid (((s.put .SENSE_LOST i 1).setBit .REG_STAT i 4 true).post 0x0604 0x1 i w) i) i = false := by
    simpa (disch := decide) [slotFaulted, State.drive] using hfault
  simp only [senseLost, hcomp, hstat, hmax, or_self, Bool.false_eq_true, if_false]
  exact ⟨by simp (disch := decide) [trunc], pf_cause hwell (by decide)⟩

theorem senseLost_sampled (h : ∀ w < 2, s.get .W_MISS (4 * i.val + w) < s.dv .NOSAMPLE_MAX i) : senseLost s i = s := by
  have hnone : firstComp s i (fun k => decide (s.dv .NOSAMPLE_MAX i ≤ s.get .W_MISS k)) = none := by
    simp only [firstComp, List.find?_eq_none, components, comp]
    intro w hw
    have hw : w < 2 := by
      simp at hw
      omega
    exact fun hd => absurd (of_decide_eq_true hd) (Nat.not_le.mpr (h w hw))
  simp only [senseLost, hnone]

theorem ffStale_aged (hrun : s.get .TB_RUNNING 0 = 1) (hposted : s.get .FF_POSTED i = 0) (haged : s.get .VBUS_TICK i + 160000 < max s.ts t) :
    Completes (.busFfStale t i) s fun u =>
      u.getBit .REG_STAT i 5 = true ∧ u.get .FF_POSTED i = 1 ∧ Posts (s.atTick t) u 0x0605 0x1 i (s.get .VBUS_FF i) := by
  refine next_completes rfl ?_
  have hlate : ¬ (s.atTick t).ts ≤ s.get .VBUS_TICK i + ticksPerMs := by
    rw [ts_run hrun, ticksPerMs]
    omega
  have hdue : ¬ ((s.atTick t).flag .FF_POSTED i = true ∨ (s.atTick t).ts ≤ (s.atTick t).get .VBUS_TICK i + ticksPerMs) := by
    rw [flag_atTick, get_atTick, State.flag, hposted]
    simp [hlate]
  simp only [ffStale, hdue, if_false]
  refine ⟨by simp (disch := decide) [State.getBit], by simp (disch := decide) [trunc], ?_⟩
  exact posts_of (by simp (disch := decide)) (get_atTick s)

theorem dutyExit_low (hduty : s.getBit .REG_STAT i 0 = true) (hlow : 16 ≤ s.get .HD_LOW i) : Completes (.highDutyExit i) s fun u =>
    u.getBit .REG_STAT i 0 = false ∧ u.get .HD_LOW i = 0 ∧ u.get .HD_COUNT i = 0 ∧ Posts s u 0x0606 0x1 i 0 := by
  refine next_completes rfl ?_
  simp (disch := decide) [dutyExit, hduty, hlow, trunc]
  exact ⟨by simp (disch := decide) [State.getBit], se_post (by simp (disch := decide))⟩

theorem reduceStill_held (hrun : s.get .TB_RUNNING 0 = 1) (hkind : s.kind i = 1) (hdelay : s.dv .HOLD_DELAY i ≠ 0)
    (hstill : s.get .STILL_CMD i = 1) (hstat : s.getBit .REG_STAT i 3 = false)
    (hheld : s.get .HOLD_SINCE i + s.dv .HOLD_DELAY i * 160000 ≤ max s.ts t) : Completes (.standstillReduction t i) s fun u =>
      u.getBit .REG_STAT i 3 = true ∧ u.get .RAMP_SINCE i = max s.ts t % 2 ^ 64 ∧ PostsNone (s.atTick t) u := by
  refine next_completes rfl ?_
  have hlate : s.get .HOLD_SINCE i + s.dv .HOLD_DELAY i * ticksPerMs ≤ (s.atTick t).ts := by
    rwa [ts_run hrun]
  have hdue : ((s.atTick t).kind i = 1 ∨ (s.atTick t).kind i = 2) ∧ (s.atTick t).dv .HOLD_DELAY i ≠ 0 ∧ (s.atTick t).flag .STILL_CMD i = true ∧
      ¬ (s.atTick t).getBit .REG_STAT i 3 = true ∧ (s.atTick t).get .HOLD_SINCE i + (s.atTick t).dv .HOLD_DELAY i * ticksPerMs ≤ (s.atTick t).ts := by
    simpa [hkind, hdelay, State.flag, hstill, hstat] using hlate
  rw [reduceStill, if_pos hdue]
  simp (disch := decide) [ts_run hrun, trunc, State.getBit]

theorem windingOpen_fault {w : Nat} (hcomp : firstComp s i (fun k => decide (32 ≤ s.get .W_OPEN k)) = some w) (hfault : slotFaulted s i = false) :
    Completes (.openWinding i) s fun u => u.get .OPEN_WIND i = 1 ∧ u.get .DRIVE_STATE i = 7 ∧ u.get .FAULT_CAUSE i = 0x0C := by
  refine next_completes rfl ?_
  simp only [windingOpen, hcomp]
  have hwell : slotFaulted (((((components s i).foldl (fun a w => a.put .W_OPEN (comp i w) 0) s).put .OPEN_WIND i 1)).post 0x0603 0x1 i w) i = false := by
    simpa (disch := decide) [slotFaulted, State.drive, components] using hfault
  obtain ⟨hcause, hstate⟩ := bf_cause (r := 1) (a := 0) hwell (show 0x0C < 256 by decide)
  exact ⟨by simp (disch := decide) [trunc], hstate, hcause⟩

theorem sumError_fault {w : Nat} (hcomp : firstComp s i (fun k => decide (8 ≤ s.get .W_SUM k)) = some w) (hfault : slotFaulted s i = false) :
    Completes (.curSumErr i) s fun u =>
      u.get .SUM_ERR i = 1 ∧ u.get .FAULT_CAUSE i = 0x0D ∧ (u.get .DRIVE_STATE i = 6 ∨ u.get .DRIVE_STATE i = 7) := by
  refine next_completes rfl ?_
  simp only [sumError, hcomp]
  have hwell : ∀ a, slotFaulted (((((components s i).foldl (fun a w => a.put .W_SUM (comp i w) 0) s).put .SUM_ERR i 1)).post 0x0602 0x1 i a) i = false := by
    intro a
    simpa (disch := decide) [slotFaulted, State.drive, components] using hfault
  exact ⟨by simp (disch := decide) [trunc], pf_cause (hwell _) (by decide)⟩

end

/-- Settles O30, clause by clause. -/
theorem currentConditions : Obligations.CurrentConditions :=
  ⟨fun _ _ _ => senseLost_fault, fun _ _ h => next_completes rfl (senseLost_sampled h), fun _ _ _ => ffStale_aged,
    fun t i s hposted => next_completes rfl (by simp [ffStale, State.flag, hposted]), fun _ _ => dutyExit_low,
    fun _ _ _ => reduceStill_held, fun _ _ _ => windingOpen_fault, fun _ _ _ => sumError_fault⟩

end Sys2Proof.Proofs
end

section
/-! O31: stalls and winding probes. -/

namespace Sys2Proof.Proofs

open Machine Laws

section
variable {s : State} {t : Nat} {i : Slot}

/-! ## Stalls -/

theorem stall_declared (hnow : s.get .STALL_NOW i ≠ 0) (hprobe : s.get .PROBE_KIND i = 0) (haction : s.dv .STALL_ACTION i = 0)
    (hhome : s.get .HOME_STATE i ≠ 1) : Completes (.stallDetected i) s fun u =>
      u.get .STALL_NOW i = 0 ∧ u.get .STALL i = 1 ∧ u.get .STALL_CNT i = min (s.get .STALL_CNT i + 1) 65535 ∧
      Posts s u 0x0700 0x1 i (s.get .STALL_NOW i - 1 + s.get .LOAD_ANGLE i * 65536) := by
  refine next_completes rfl ?_
  simp (disch := decide) [declareStall, hnow, clearStallRuns, probeAbort, hprobe, inMinusOne, hhome, haction, trunc, State.count]
  exact se_post (by simp (disch := decide))

/-- A slot that leaves Operation enabled holds no stall. -/
theorem stallHold_driveDown {x : State} {j ds : Nat} : (driveDown x j ds).get .STALL_HOLD j = 0 := by
  simp (disch := decide) [driveDown, cutMotion, State.clearAll]
  rfl

theorem stallFault_unrecovered (hrun : s.get .TB_RUNNING 0 = 1) (hhold : s.get .STALL_HOLD i ≠ 0)
    (hlate : s.get .STALL_HOLD i + 1600000 ≤ max s.ts t) (hfault : slotFaulted s i = false) : Completes (.stallFault t i) s fun u =>
      u.get .STALL_HOLD i = 0 ∧ u.get .FAULT_CAUSE i = 0xE ∧ u.get .DRIVE_STATE i = 7 := by
  refine next_completes rfl ?_
  have hdue : (s.atTick t).get .STALL_HOLD i ≠ 0 ∧ (s.atTick t).get .STALL_HOLD i + 10 * ticksPerMs ≤ (s.atTick t).ts := by
    rw [get_atTick, ts_run hrun]
    exact ⟨hhold, hlate⟩
  rw [stallFault, if_pos hdue]
  have hwell : slotFaulted ((s.atTick t).put .STALL_HOLD i 0) i = false := by simpa [slotFaulted, State.drive] using hfault
  obtain ⟨hcause, hstate⟩ := bf_cause (r := 1) (a := 0) hwell (show 0xE < 256 by decide)
  refine ⟨?_, hcause, hstate⟩
  rw [bathFault]
  simp (disch := decide) [stallHold_driveDown]

/-! ## Probes -/

theorem probeBegin_fields {x : State} {j kind te : Nat} : (probeBegin x j kind te).get .PROBE_KIND j = trunc 2 kind ∧
    (probeBegin x j kind te).get .PROBE_START_T j = te % 2 ^ 64 ∧ (probeBegin x j kind te).get .PROBE_HIGH j = x.get .CUR_AMP j % 65536 := by
  have hclear : ∀ (y : State) (r : Reg), r ≠ .PROBE_V → r ≠ .PROBE_I →
      ((List.range 4).foldl (fun a k => (a.put .PROBE_V (4 * j + k) 0).put .PROBE_I (4 * j + k) 0) y).get r j = y.get r j :=
    fun y r hv hi => foldl_keep (fun a k => (get_put_reg _ hi).trans (get_put_reg _ hv)) _ y
  simp (disch := decide) [probeBegin, State.setOb, trunc, hclear]

theorem cyclePosts_atTick {j : Nat} : cyclePosts (s.atTick t) j = cyclePosts s j := by
  simp only [cyclePosts, regulated, State.drive, get_atTick, getBit_atTick, flag_atTick]

theorem dcProbe_due (hdue : probeDue (s.atTick t) i = true) (hkind : s.kind i ≠ 0) (hposts : cyclePosts s i = true)
    (hstand : probeStandOk (s.atTick t) i = true) : Completes (.dcProbeStart t i) s fun u =>
      u.get .PROBE_KIND i = 1 ∧ u.get .PROBE_START_T i = (s.atTick t).ts % 2 ^ 64 ∧
      u.get .PROBE_HIGH i = s.get .CUR_AMP i % 65536 ∧ PostsNone (s.atTick t) u := by
  have hstart : dcProbe (s.atTick t) i = probeBegin (s.atTick t) i 1 (s.atTick t).ts :=
    if_pos ⟨hdue, by rwa [kind_atTick], by rwa [cyclePosts_atTick], hstand⟩
  obtain ⟨hk, ht, hhigh⟩ := probeBegin_fields (x := s.atTick t) (j := i) (kind := 1) (te := (s.atTick t).ts)
  exact completes_eq rfl hstart ⟨hk, ht, hhigh.trans (by rw [get_atTick]), by simp⟩

theorem daxisProbe_due (hdue : probeDue (s.atTick t) i = true) (hkind : s.kind i ≠ 0) (hposts : cyclePosts s i = true)
    (hok : probeRunOk s i (decide (commandedAccel (s.atTick t) i (s.atTick t).ts = 0)) = true) : Completes (.daxisProbeStart t i) s fun u =>
      u.get .PROBE_KIND i = 2 ∧ u.get .PROBE_START_T i = (s.atTick t).ts % 2 ^ 64 ∧ PostsNone (s.atTick t) u := by
  have hsame : ∀ b, probeRunOk (s.atTick t) i b = probeRunOk s i b := by
    intro b
    simp [probeRunOk, fastEnough, absVel, iLim, limitInForce]
    rfl
  have hstart : daxisProbe (s.atTick t) i = probeBegin (s.atTick t) i 2 (s.atTick t).ts :=
    if_pos ⟨hdue, by rwa [kind_atTick], by rwa [cyclePosts_atTick], by rwa [hsame]⟩
  obtain ⟨hk, ht, -⟩ := probeBegin_fields (x := s.atTick t) (j := i) (kind := 2) (te := (s.atTick t).ts)
  exact completes_eq rfl hstart ⟨hk, ht, by simp⟩

theorem probeEnd_fields {x : State} {j : Nat} : (probeEnd x j).get .PROBE_KIND j = 0 ∧ (probeEnd x j).get .PROBE_FOR_CAL j = 0 ∧
    (probeEnd x j).get .PROBE_LAST j = x.ts % 2 ^ 64 := by
  simp (disch := decide) [probeEnd, State.setOb, trunc]

/-- A probe ends in its fields whatever came of it. -/
theorem probeFinish_fields {x : State} {j : Nat} {r : Reg} (h : r ∈ [Reg.PROBE_KIND, .PROBE_FOR_CAL, .PROBE_LAST]) :
    (probeFinish x j).1.get r j = (probeEnd x j).get r j := by
  have hkeep : ∀ y : State, (∀ why, (rejectVwCal y j why).get r j = y.get r j) ∧ (∀ f p, (storeR y j f p).get r j = y.get r j) ∧
      (filterR y j).get r j = y.get r j ∧ (∀ z, (y.puti .VW_R25 j z).get r j = y.get r j) ∧ ∀ a b c d, (y.post a b c d).get r j = y.get r j := by
    intro y
    simp only [List.mem_cons, List.not_mem_nil, or_false] at h
    rcases h with rfl | rfl | rfl <;> simp (disch := decide)
  unfold probeFinish
  dsimp only
  repeat' split
  all_goals simp [(hkeep _).1, (hkeep _).2.1, (hkeep _).2.2]

theorem probeDone_late (hkind : s.get .PROBE_KIND i ≠ 0) (hlate : s.get .PROBE_START_T i + 3200000 ≤ (s.atTick t).ts) :
    Completes (.probeComplete t i) s fun u =>
      u.get .PROBE_KIND i = 0 ∧ u.get .PROBE_FOR_CAL i = 0 ∧ u.get .PROBE_LAST i = (s.atTick t).ts % 2 ^ 64 := by
  refine next_completes rfl ?_
  have hdue : ¬ ((s.atTick t).get .PROBE_KIND i = 0 ∨ (s.atTick t).ts < (s.atTick t).get .PROBE_START_T i + 2 * probeLevel) := by
    rw [get_atTick, get_atTick, show 2 * probeLevel = 3200000 from rfl]
    omega
  obtain ⟨hk, hcal, hlast⟩ := probeEnd_fields (x := s.atTick t) (j := i)
  have hfields : ∀ r ∈ [Reg.PROBE_KIND, .PROBE_FOR_CAL, .PROBE_LAST], (probeDone (s.atTick t) i).get r i = (probeEnd (s.atTick t) i).get r i := by
    intro r hr
    rw [probeDone, if_neg hdue, ← probeFinish_fields hr]
    split
    · next heq => rw [heq]
    · next heq =>
      simp only [List.mem_cons, List.not_mem_nil, or_false] at hr
      rcases hr with rfl | rfl | rfl <;> simp (disch := decide) [heq]
  exact ⟨(hfields _ (by decide)).trans hk, (hfields _ (by decide)).trans hcal, (hfields _ (by decide)).trans hlast⟩

/-! ## The calibration of a winding -/

theorem authOn_served {path : Nat} : authOn (served s) path = authOn s path := by
  simp (disch := decide) [authOn, sessionOn, State.flag]

theorem vwCal_starts {path : Path} (hup : s.get .SEQ_DOWN 0 = 0) (hsdo : path = .can → sdoServed s = true) (hauth : authOn s path.code = 3)
    (hop : s.opEnabled i = true) (hstill : s.get .STILL_CMD i = 1) (hamp : s.get .PROBE_DELTA i ≤ s.get .CUR_AMP i)
    (hlo : -2560 ≤ s.geti .VW_CAL_TREF i) (hhi : s.geti .VW_CAL_TREF i ≤ 3840) : Completes (.vwCal path i) s fun u =>
      u.get .ANS_ABORT 0 = 0 ∧ u.get .PROBE_KIND i = 1 ∧ u.get .PROBE_FOR_CAL i = 1 := by
  refine completes_eq rfl (viaObject_run hup hsdo) ?_
  have hrole : authOn (served s) path.code = 3 := authOn_served.trans hauth
  have hop' : (served s).opEnabled i = true := by simpa (disch := decide) [State.opEnabled, State.drive] using hop
  have hcool : ¬ (s.geti .VW_CAL_TREF i < -2560 ∨ 3840 < s.geti .VW_CAL_TREF i) := by omega
  have hwhy : (if (!(served s).opEnabled i) = true ∨ (!(served s).flag .STILL_CMD i) = true then 1
      else if (served s).get .CUR_AMP i < (served s).get .PROBE_DELTA i then 2
      else if (served s).geti .VW_CAL_TREF i < -2560 ∨ 3840 < (served s).geti .VW_CAL_TREF i then 5 else 0) = 0 := by
    simp (disch := decide) [hop', State.flag, hstill, hcool, Nat.not_lt.mpr hamp]
  have hwrite : vwCalWrite (served s) (authOn (served s) path.code) i [1] =
      (sealedRan (probeBegin ((probeAbort (served s) i).put .PROBE_FOR_CAL i 1) i 1 ((probeAbort (served s) i).put .PROBE_FOR_CAL i 1).ts)
        (0x2856 + 0x100 * i) 0 [1], 0) := by
    simp only [vwCalWrite, sealedRun, hrole, vwCalRun, hwhy]
    rfl
  rw [hwrite]
  simp (disch := decide) [probeBegin_fields.1, trunc]

theorem vwCal_denied {path : Path} (hup : s.get .SEQ_DOWN 0 = 0) (hsdo : path = .can → sdoServed s = true) (hauth : authOn s path.code < 2) :
    Completes (.vwCal path i) s fun u => u.get .ANS_ABORT 0 = 0x08000020 ∧ u.get .PROBE_KIND i = s.get .PROBE_KIND i := by
  refine completes_eq rfl (viaObject_run hup hsdo) ?_
  have hrole : authOn (served s) path.code < 2 := authOn_served.symm ▸ hauth
  have hnot : ∀ x idx sub l, mayRunSealed x (authOn (served s) path.code) idx sub l = false := by
    intro x idx sub l
    have hthree : authOn (served s) path.code ≠ 3 := by omega
    have htwo : authOn (served s) path.code ≠ 2 := by omega
    simp [mayRunSealed, hthree, htwo]
  simp (disch := decide) [vwCalWrite, sealedRun, hnot, abSealed]

end

/-- Settles O31, clause by clause. -/
theorem stallsAndProbes : Obligations.StallsAndProbes :=
  ⟨fun _ _ => stall_declared, fun i s hnow => next_completes rfl (by simp [declareStall, hnow]), fun _ _ _ => stallFault_unrecovered,
    fun _ _ _ => dcProbe_due, fun t i s hnot => next_completes rfl (by simp [dcProbe, hnot]), fun _ _ _ => daxisProbe_due,
    fun _ _ _ => probeDone_late, fun _ _ _ => vwCal_starts, fun _ _ _ => vwCal_denied,
    fun t i s hstate hold => next_completes rfl (by simp (disch := decide) [vwStale, hstate, ticksPerSecond, hold, trunc])⟩

end Sys2Proof.Proofs
end

section
/-! O32: period starts. -/

namespace Sys2Proof.Proofs

open Machine Laws

/-- A group whose LOAD_ALL is about to be refused for the window of slot 0 (R252), and whose X-port 3 the power budget has just given
a longer period (R266). -/
def lengthenedPort : State :=
  { State.reset with
    regs := [(Reg.key .TB_RUNNING 0, 1), (Reg.key .LOAD_LEFT 0, 1), (Reg.key .PERIOD 0, 100), (Reg.key .PORT_ROLE_DEV 3, 0xE0),
      (Reg.key .PERIOD_LONG 3, 5000)] }

/-- The state of `lengthenedPort` at the instant its period starts. -/
def lengthenedStart : State := (lengthenedPort.atTick (nextStart lengthenedPort 0)).put .GROUP_START 0 (nextStart lengthenedPort 0)

/-- A period start leaves the periods in force that its LOAD_ALL and the power budget have developed. -/
theorem periodStart_period {s : State} {g p : Nat} (h : ¬ (groupPeriod s g = 0 ∨ ¬ s.flag .TB_RUNNING 0 = true)) :
    ∃ x : State, x = (s.atTick (nextStart s g)).put .GROUP_START g (nextStart s g) ∧ (periodStart s g).get .PERIOD_DEV p =
      (((groupPorts x g).filter x.isX).foldl budgetPeriod (loadStep x g (nextStart s g))).get .PERIOD_DEV p := by
  refine ⟨_, rfl, ?_⟩
  rw [periodStart, if_neg h]
  simp (disch := first | decide | (intros; simp (disch := decide))) only [foldl_keep]

/-- A LOAD_ALL that a window check refuses leaves the loaded periods. -/
theorem loaded_loadDevelop {x : State} {g p : Nat} (hbad : loadFailures x g ≠ []) :
    (loadDevelop x g).get .PERIOD_LOADED p = x.get .PERIOD_LOADED p := by
  obtain ⟨i, l, hl⟩ := List.exists_cons_of_ne_nil hbad
  have hport : ∀ y q, (loadPort false y q).get .PERIOD_LOADED p = y.get .PERIOD_LOADED p := by
    intro y q
    simp (disch := first | decide | (intros; simp (disch := decide))) [loadPort]
  simp (disch := first | decide | (intros; simp (disch := decide))) only [loadDevelop, hl, List.isEmpty_cons, foldl_keep, get_setBit_reg, get_put_reg,
    get_State_post]
  exact foldl_keep hport _ x

/-- Refutes O32: a period start at which a LOAD_ALL is refused still develops the period of the power budget. In `lengthenedPort`
the period of port 3 becomes the 5000 ticks of its PERIOD_LONG (R266), where the statement has every port of the group keep its
period. -/
theorem not_pwmPeriods : ¬ Obligations.PwmPeriods := by
  unfold Obligations.PwmPeriods
  rintro ⟨-, -, -, -, -, -, -, hrefused, -⟩
  obtain ⟨u, hu, -, hkeeps⟩ := hrefused 0 lengthenedPort (by decide +kernel) (by decide +kernel) (by decide +kernel) (by decide +kernel) (by decide +kernel)
  obtain ⟨-, hperiod, -⟩ := hkeeps 3 (by decide +kernel)
  have hrun : execPeriodStart 0 lengthenedPort = .next u := hu
  have hstarts : ¬ (groupPeriod lengthenedPort 0 = 0 ∨ ¬ lengthenedPort.flag .TB_RUNNING 0 = true) := by decide +kernel
  have hu' := Host.Outcome.next.inj ((if_neg hstarts).symm.trans hrun)
  have hlong : (periodStart lengthenedPort 0).get .PERIOD_DEV 3 = 5000 := by
    obtain ⟨x, hx, hperiods⟩ := periodStart_period (p := 3) hstarts
    obtain rfl : x = lengthenedStart := hx
    have hports : (groupPorts lengthenedStart 0).filter lengthenedStart.isX = [3] := by decide +kernel
    have hfails : loadFailures lengthenedStart 0 ≠ [] := by decide +kernel
    have hload : loadStep lengthenedStart 0 (nextStart lengthenedPort 0) = loadDevelop lengthenedStart 0 := by
      rw [loadStep, if_neg (by decide +kernel), if_pos (by decide +kernel)]
    rw [hperiods, hports, hload, List.foldl_cons, List.foldl_nil, budgetPeriod, get_put_reg _ (by decide), get_put_same, loaded_loadDevelop hfails,
      get_loadDevelop (by decide)]
    decide +kernel
  have hshort : lengthenedPort.get .PERIOD_DEV 3 = 4000 := by decide +kernel
  have hkept : ∀ y : State, ∀ l : List Nat, (followTrips (fun _ => false) (l.foldl followPeriod y) (groupPorts (l.foldl followPeriod y) 0)).get .PERIOD_DEV 3
      = y.get .PERIOD_DEV 3 := by
    intro y l
    rw [followTrips, foldl_keep fun x k => ?_, foldl_keep fun x k => get_followPeriod (by decide)]
    rw [get_ite', get_tripFollow (by decide), ite_self]
  rw [← hu', hshort] at hperiod
  exact absurd (hlong.symm.trans ((hkept _ _).symm.trans hperiod)) (by decide)

end Sys2Proof.Proofs
end

section
/-! O33: trips. -/

namespace Sys2Proof.Proofs

open Machine Laws

/-- Port 0 runs, and the mark of its trip, a field of one bit, holds 2. -/
def overwideTrip : State :=
  { State.reset with regs := [(Reg.key .PORT_DRIVE 0, 1), (Reg.key .TRIP_HELD 0, 2)] }

/-- Refutes O33: nothing in the statement asks that a field held fits its width. In `overwideTrip` TRIPN finds the trip of port 0
counted in this period already (R255) and leaves its mark, which holds 2, where the statement has it read 1. -/
theorem not_trips : ¬ Obligations.Trips := by
  unfold Obligations.Trips
  rintro ⟨-, -, -, -, htripn, -⟩
  obtain ⟨u, hu, -, hports⟩ := htripn 0 0 overwideTrip (by decide +kernel)
  obtain ⟨-, hruns⟩ := hports 0 (by decide)
  obtain ⟨-, -, -, hheld⟩ := hruns (by decide +kernel)
  have hrun : execTripnActive 0 0 overwideTrip = .next u := hu
  obtain rfl := Host.Outcome.next.inj hrun
  have hmark : (followTrips ((overwideTrip.atTick 0).flag .TRIP_HELD) (tripnOn (overwideTrip.atTick 0) 0) (bankPorts 0)).get .TRIP_HELD 0 = 2 := by
    decide +kernel
  exact absurd (hmark.symm.trans hheld) (by decide)

end Sys2Proof.Proofs
end

section
/-! O34: gate drive. -/

namespace Sys2Proof.Proofs

open Machine Laws

/-- The second of consecutive words. -/
theorem word_second {x : State} {a w v : Nat} {l : List Nat} (hv : v < 2 ^ 32) : (x.setWords a (w :: v :: l)).mem.word (a + 4) = v := by
  show (((x.setWord a w).setWord (a + 4) v).setWords (a + 4 + 4) l).mem.word (a + 4) = v
  rw [word_congr fun b hb _ => read_setWords_other (Or.inl hb), setWord_mem]
  exact word_setWord hv

/-- Where the last event of a queue that did not overflow stands, and its argument. -/
theorem lastEvent_arg {u : State} {code src slot arg : Nat} (h : LastEvent u code src slot arg) (hfull : u.get .Q11_FULL 0 = 0)
    (hsize : u.dv .QSIZE_LOG2 11 ≤ 13) :
    ∃ p, u.get .QWR 11 = (p + 1) % (2 * u.qSize 11) ∧ u.word (u.qAddr 11 p + 4) = arg % 2 ^ 32 := by
  obtain ⟨x, hx⟩ := h
  have hroom : x.qFill 11 ≠ x.qSize 11 := by
    intro hno
    have hone := hx.regs .Q11_FULL 0 (by decide)
    rw [post_full hno, get_put_same, hfull] at hone
    exact absurd hone (by decide)
  obtain ⟨hlog, hbase⟩ := hx.devs 11
  have hlog' : u.dv .QSIZE_LOG2 11 = x.dv .QSIZE_LOG2 11 := hlog.trans (by simp (disch := decide))
  have hqsize : u.qSize 11 = x.qSize 11 := by rw [State.qSize, hlog', State.qSize]
  refine ⟨x.get .QWR 11, ?_, ?_⟩
  · rw [hx.regs .QWR 11 (by decide), post_room hroom, judgedQ11_get _ _ _ (by decide) (by decide), wr_qPutRaw (hlog' ▸ hsize)]
    simp [hqsize]
  · have haddr : u.qAddr 11 (x.get .QWR 11) = x.qAddr 11 (x.get .QWR 11) := by
      have hbase' : u.dv .QBASE 11 = x.dv .QBASE 11 := hbase.trans (by simp (disch := decide))
      rw [State.qAddr, hqsize, State.qBase, hbase', State.qAddr, State.qBase]
    have hmem : u.mem = ((x.put .EVENT_SEQ 0 (x.get .EVENT_SEQ 0 + 1)).setWords (x.qAddr 11 (x.get .QWR 11)) (x.eventWords code src slot arg x.ts)).mem := by
      rw [hx.mem, post_room hroom, judgedQ11_mem, mem_qPutRaw]
      simp
    rw [State.word, hmem, haddr, State.eventWords]
    exact word_second (Nat.mod_lt _ (by decide))

/-- Port 0 has a short that its leg test confirms, and its trip latch holds it off as well; the reset of its slot waits for the test. -/
def confirmedShort : State :=
  { State.reset with
    regs := [(Reg.key .LEG_TEST 0, 1), (Reg.key .RESETTING 0, 1), (Reg.key .TRIP_LATCH 0, 1), (Reg.key .LSP_SHORT 0, 1)] }

/-- Refutes O34: the failed leg test of a slot in reset lets the reset go on (R279, R292), and with it TRIP_CLR. In `confirmedShort` the
trip latch of port 0 is refused its clear for the short that stands, so the last event is that refusal, 0x0801, and not the 0x0904 of
the leg test. -/
theorem not_gateDrive : ¬ Obligations.GateDrive := by
  unfold Obligations.GateDrive
  rintro ⟨-, -, -, -, -, -, -, hfailed, -⟩
  obtain ⟨u, hu, -, -, -, hlast⟩ := hfailed 0 0 confirmedShort (by decide +kernel)
  have hrun : execLegTestResult 0 0 false confirmedShort = .next u := hu
  obtain rfl := Host.Outcome.next.inj hrun
  obtain ⟨p, hwr, harg⟩ := lastEvent_arg hlast (by decide +kernel) (by decide +kernel)
  have htwo : (legTestResult (confirmedShort.atTick 0) 0 false).get .QWR 11 = 2 := by decide +kernel
  have hring : (legTestResult (confirmedShort.atTick 0) 0 false).qSize 11 = 1024 := by decide +kernel
  have hbase : (legTestResult (confirmedShort.atTick 0) 0 false).qBase 11 = confirmedShort.qBase 11 := by decide +kernel
  have hzero : (legTestResult (confirmedShort.atTick 0) 0 false).word (confirmedShort.qBase 11 + 16 + 4) = 0 := by decide +kernel
  have hone : p % 1024 = 1 := by
    rw [show ((0 : Port) : Nat) = 0 from rfl, htwo, hring] at hwr
    omega
  rw [show ((0 : Port) : Nat) = 0 from rfl, State.qAddr, hring, hone, hbase] at harg
  exact absurd (hzero.symm.trans harg) (by decide)

end Sys2Proof.Proofs
end

section
/-! O35: the bus and the D-dies. -/

namespace Sys2Proof.Proofs

open Machine Laws

/-- The bus has been low for RT_STOP_MS, and the deceleration of slot 0, a field of 32 bits, holds a bit beyond them. -/
def overwideDecel : State :=
  { State.reset with
    ts := 160000
    regs := [(Reg.key .BUS_STAT 0, 1), (Reg.key .RT_STOP_MS 0, 1), (Reg.key .DRIVE_STATE 0, 4), (Reg.key .STOP_DEC 0, 2 ^ 32 + 1)] }

/-- Refutes O35: nothing in the statement asks that a field held fits its width. In `overwideDecel` RT_STOP asks for a stop with the 32
bits of STOP_DEC that a field keeps, where the statement has the rate of the stop be all that STOP_DEC holds. -/
theorem not_busAndDies : ¬ Obligations.BusAndDies := by
  unfold Obligations.BusAndDies
  rintro ⟨-, -, -, -, -, -, hstop, -⟩
  obtain ⟨u, hu, -, hslots⟩ := hstop 0 overwideDecel (by decide +kernel) (by decide +kernel) (by decide +kernel) (by decide +kernel)
  obtain ⟨-, -, hrate⟩ := hslots 0 (by decide) (by decide +kernel) (by decide +kernel)
  have hrun : execRtStop 0 overwideDecel = .next u := hu
  obtain rfl := Host.Outcome.next.inj hrun
  have hkept : (rtStop (overwideDecel.atTick 0)).get .STOP_REQ_RATE 0 = 1 := by decide +kernel
  have hheld : overwideDecel.get .STOP_DEC 0 = 2 ^ 32 + 1 := by decide +kernel
  exact absurd (hkept.symm.trans (hrate.trans hheld)) (by decide)

end Sys2Proof.Proofs
end

section
/-! O36: the stop-bath by command and by time. -/

namespace Sys2Proof.Proofs

open Machine Laws

section
variable {s : State} {i k p : Nat}

/-! ## The variant OFF -/

theorem mem_slotPorts : p ∈ s.slotPorts i ↔ p < 32 ∧ s.portOwner p = i := by simp [State.slotPorts, idsWhere]

/-- The variant OFF of a stop-bath turns the ports of its slot off. -/
theorem applyVariant_three (h : s.get .SB_STATE i = 3) : applyVariant s i = slotPortsOff s i := by
  have hoff : (fun a p => drivePort a p 3) = portOff := by
    funext a p
    simp [drivePort]
  rw [applyVariant, h, hoff]
  rfl

theorem setVariant_three : setVariant s i 3 = if s.get .SB_STATE i = 0 ∨ 3 ≤ s.get .SB_STATE i then s
    else slotPortsOff ((s.put .SB_STATE i 3).put .SB_STILL_SINCE i 0) i := by
  have hthree : ((s.put .SB_STATE i 3).put .SB_STILL_SINCE i 0).get .SB_STATE i = 3 := by simp [trunc]
  rw [← applyVariant_three hthree]
  rfl

theorem get_slotPortsOff_three {x : State} : (slotPortsOff ((x.put .SB_STATE k 3).put .SB_STILL_SINCE k 0) k).get .SB_STATE k = 3 := by
  simp (disch := decide) [trunc]

/-- A stop-bath that drives its slot goes to OFF. -/
theorem setVariant_off (hlo : s.get .SB_STATE i = 1 ∨ s.get .SB_STATE i = 2) :
    (setVariant s i 3).get .SB_STATE i = 3 ∧ ∀ p ∈ s.slotPorts i, (setVariant s i 3).get .PORT_DRIVE p = 0 := by
  have hdrives : ¬ (s.get .SB_STATE i = 0 ∨ 3 ≤ s.get .SB_STATE i) := by omega
  rw [setVariant_three, if_neg hdrives]
  refine ⟨get_slotPortsOff_three, fun p hp => portsOff_off ?_⟩
  simpa (disch := decide) [mem_slotPorts, State.portOwner] using hp

theorem off_setVariant_three (h : s.get .PORT_DRIVE p = 0) : (setVariant s k 3).get .PORT_DRIVE p = 0 := by
  rw [setVariant_three]
  split
  · exact h
  · exact keep_foldl (P := fun x => x.get .PORT_DRIVE p = 0) (fun _ _ hx => portOff_off hx) (by simpa using h)

theorem scopeOff_own (hi : i < 8) (hstate : s.get .SB_STATE i = 2) (hgroup : s.getBit .SB_GROUP i i = true) :
    (scopeOff s i).get .SB_STATE i = 3 ∧ ∀ p ∈ s.slotPorts i, (scopeOff s i).get .PORT_DRIVE p = 0 := by
  have hmem : i ∈ bathsOver s i := by simp [bathsOver, idsWhere, hi, hstate, hgroup]
  have hother : ∀ x k, k ≠ i → (setVariant x k 3).get .SB_STATE i = x.get .SB_STATE i := by
    intro x k hk
    rw [setVariant_three]
    split
    · rfl
    · simp (disch := first | decide | exact hk.symm)
  have howner : ∀ x k q, (setVariant x k 3).portOwner q = x.portOwner q := by
    intro x k q
    simp (disch := decide) [State.portOwner]
  refine foldl_visit (f := fun a k => setVariant a k 3) (P := fun x => x.get .SB_STATE i = 2 ∧ ∀ q, x.portOwner q = s.portOwner q)
    (Q := fun x => x.get .SB_STATE i = 3 ∧ ∀ p ∈ s.slotPorts i, x.get .PORT_DRIVE p = 0) hmem (List.Nodup.filter _ List.nodup_range) ?_ ?_ ?_
    ⟨hstate, fun _ => rfl⟩
  · exact fun x k hk hx => ⟨(hother x k hk).trans hx.1, fun q => (howner x k q).trans (hx.2 q)⟩
  · intro x hx
    obtain ⟨hthree, hoff⟩ := setVariant_off (.inr hx.1)
    exact ⟨hthree, fun p hp => hoff p (by simpa [mem_slotPorts, hx.2] using hp)⟩
  · exact fun x k hk hx => ⟨(hother x k hk).trans hx.1, fun p hp => off_setVariant_three (hx.2 p hp)⟩

/-! ## The start of a stop-bath -/

theorem chooseVariant_range : 1 ≤ chooseVariant s i ∧ chooseVariant s i ≤ 3 := by
  unfold chooseVariant
  dsimp only
  repeat' split
  all_goals decide

/-- A slot that enters the stop-bath: its variant is chosen before its ports follow it. -/
theorem bathSlot_new {m sc c : Nat} (h : s.get .SB_STATE i = 0) : ∃ x, bathSlot m sc c s i = unhome (postBath (applyVariant x i) i c) i ∧
    x.get .SB_STATE i ≠ 0 ∧ x.get .SB_CAUSE i = trunc 8 c ∧ x.get .SB_CNT i = min (s.get .SB_CNT i + 1) 65535 ∧
    x.getBit .SB_CMD 0 k = s.getBit .SB_CMD 0 k ∧ (∀ q, x.portOwner q = s.portOwner q) ∧ ∀ q, x.get .PORT_DRIVE q = s.get .PORT_DRIVE q := by
  unfold bathSlot
  dsimp only
  rw [if_neg (by simpa (disch := decide) using h)]
  refine ⟨_, rfl, ?_⟩
  have hrange := chooseVariant_range (s := (((s.count .SB_CNT i).put .SB_GROUP i m).put .SB_SCOPE i sc).put .SB_CAUSE i c) (i := i)
  generalize chooseVariant _ i = v at hrange
  have hv : (if v = 2 ∧ highBarred ((((s.count .SB_CNT i).put .SB_GROUP i m).put .SB_SCOPE i sc).put .SB_CAUSE i c) i = true then 3 else v) ∈ [1, 2, 3] := by
    split
    · decide
    · simp
      omega
  generalize (if v = 2 ∧ highBarred ((((s.count .SB_CNT i).put .SB_GROUP i m).put .SB_SCOPE i sc).put .SB_CAUSE i c) i = true then 3 else v) = w at hv
  have hw : trunc 2 w ≠ 0 := by
    simp only [List.mem_cons, List.not_mem_nil, or_false] at hv
    rcases hv with rfl | rfl | rfl <;> decide
  refine ⟨?_, ?_, ?_, ?_, fun q => ?_, fun q => ?_⟩
  · simpa (disch := decide) using hw
  · simp (disch := decide)
  · simp (disch := decide) [State.count, trunc]
  · simp (disch := decide) [State.getBit]
  · simp (disch := decide) [State.portOwner]
  · simp (disch := decide)

/-! ## A stop-bath of one slot and the other slots -/

/-- What a stop-bath writes at its own slot alone. -/
def bathRegs : List Reg := [.DRIVE_STATE, .SB_STATE, .SB_CAUSE, .SB_CNT]

theorem driveDown_other {ds : Nat} {r : Reg} (hik : i ≠ k) (hr : r ∈ bathRegs) : (driveDown s k ds).get r i = s.get r i := by
  simp only [bathRegs, List.mem_cons, List.not_mem_nil, or_false] at hr
  rcases hr with rfl | rfl | rfl | rfl <;> simp (disch := first | decide | assumption) [driveDown]

theorem bathSlot_other {m sc c : Nat} {r : Reg} (hik : i ≠ k) (hr : r ∈ bathRegs) : (bathSlot m sc c s k).get r i = s.get r i := by
  simp only [bathRegs, List.mem_cons, List.not_mem_nil, or_false] at hr
  rcases hr with rfl | rfl | rfl | rfl <;> simp (disch := first | decide | assumption) [bathSlot]

theorem get_clear_inst {r : Reg} (h : i ≠ k) : (s.clear r k).get r i = s.get r i := get_put_inst s h

theorem endBath_other {r : Reg} (hik : i ≠ k) (hr : r ∈ bathRegs) : (endBath s k).get r i = s.get r i := by
  simp only [bathRegs, List.mem_cons, List.not_mem_nil, or_false] at hr
  rcases hr with rfl | rfl | rfl | rfl <;> simp (disch := first | decide | assumption) [endBath, State.clearAll, get_clear_inst]

/-- What a write of SB_CMD does to one slot. -/
def sbCmdSlot (v : Nat) (a : State) (i : Nat) : State :=
  if bit v i ∧ ¬ a.getBit .SB_CMD 0 i then
    if powered a i then driveDown (enterBath (a.setBit .SB_CMD 0 i true) [i] 1 0x11) i dsSwitchedOn else a
  else if ¬ bit v i ∧ a.getBit .SB_CMD 0 i then
    let x := a.setBit .SB_CMD 0 i false
    if x.get .SB_CAUSE i = 0x11 ∧ x.get .SB_STATE i ≠ 0 ∧ ¬ slotFaulted x i then endBath x i else x
  else a

theorem writeSbCmd_eq {v : Nat} : writeSbCmd s v = (List.range 8).foldl (sbCmdSlot v) s := rfl

theorem getBit_setBit_other {r : Reg} {b : Bool} (hi : i < r.width) (hik : i ≠ k) : (s.setBit r p k b).getBit r p i = s.getBit r p i :=
  (getBit_setBit hi).trans (if_neg hik)

/-- What a write of SB_CMD leaves of another slot. -/
structure SameBath (i : Nat) (s x : State) : Prop where
  regs : ∀ r ∈ bathRegs, x.get r i = s.get r i
  cmd : x.getBit .SB_CMD 0 i = s.getBit .SB_CMD 0 i
  owners : ∀ p, x.portOwner p = s.portOwner p
  off : ∀ p ∈ s.slotPorts i, s.get .PORT_DRIVE p = 0 → x.get .PORT_DRIVE p = 0

theorem SameBath.refl : SameBath i s s := ⟨fun _ _ => rfl, rfl, fun _ => rfl, fun _ _ h => h⟩

theorem SameBath.trans {x y : State} (h : SameBath i s x) (g : SameBath i x y) : SameBath i s y := by
  have hports : x.slotPorts i = s.slotPorts i := by simp only [State.slotPorts, h.owners]
  exact ⟨fun r hr => (g.regs r hr).trans (h.regs r hr), g.cmd.trans h.cmd, fun p => (g.owners p).trans (h.owners p),
    fun p hp hoff => g.off p (hports ▸ hp) (h.off p hp hoff)⟩

theorem portDrive_applyVariant_other (h : s.portOwner p ≠ k) : (applyVariant s k).get .PORT_DRIVE p = s.get .PORT_DRIVE p := by
  refine keep_foldl_mem (P := fun x => x.get .PORT_DRIVE p = s.get .PORT_DRIVE p) (fun x q hq hx => ?_) rfl
  have hqp : p ≠ q := by
    rintro rfl
    exact h (mem_slotPorts.mp hq).2
  refine Eq.trans ?_ hx
  simp (disch := first | decide | assumption) [drivePort, interlockWait, portOff]

theorem sameBath_setBit {b : Bool} (hi : i < 8) (hik : i ≠ k) : SameBath i s (s.setBit .SB_CMD 0 k b) := by
  refine ⟨fun r hr => get_setBit_reg ?_, getBit_setBit_other hi hik, fun p => ?_, fun p _ h => ?_⟩
  · rintro rfl
    exact absurd hr (by decide)
  · simp [State.portOwner]
  · simpa using h

theorem sameBath_driveDown {ds : Nat} (hik : i ≠ k) : SameBath i s (driveDown s k ds) := by
  refine ⟨fun r hr => driveDown_other hik hr, ?_, fun p => ?_, fun p _ h => ?_⟩
  · exact congrArg (bit · i) (get_driveDown (by decide))
  · simp (disch := decide) [State.portOwner]
  · unfold driveDown
    dsimp only
    split
    · exact keep_foldl (P := fun x => x.get .PORT_DRIVE p = 0) (fun _ _ hx => portOff_off hx) (by simpa (disch := decide) using h)
    · simpa (disch := decide) using h

theorem sameBath_endBath (hi : i < 8) (hik : i ≠ k) : SameBath i s (endBath s k) := by
  refine ⟨fun r hr => endBath_other hik hr, ?_, fun p => ?_, fun p _ h => ?_⟩
  · unfold endBath
    split
    · rfl
    · refine (congrArg (bit · i) (get_slotPortsOff (by decide))).trans ((getBit_setBit_other hi hik).trans ?_)
      simp (disch := decide) [State.getBit, State.clearAll]
  · simp (disch := decide) [State.portOwner]
  · unfold endBath
    split
    · exact h
    · exact keep_foldl (P := fun x => x.get .PORT_DRIVE p = 0) (fun _ _ hx => portOff_off hx) (by simpa (disch := decide) [State.clearAll] using h)

theorem sameBath_bathSlot {m sc c : Nat} (hik : i ≠ k) : SameBath i s (bathSlot m sc c s k) := by
  refine ⟨fun r hr => bathSlot_other hik hr, ?_, fun p => ?_, fun p hp h => ?_⟩
  · exact congrArg (bit · i) (get_bathSlot (by decide))
  · simp (disch := decide) [State.portOwner]
  · have howner : s.portOwner p ≠ k := fun e => hik ((mem_slotPorts.mp hp).2.symm.trans e)
    by_cases hbath : s.get .SB_STATE k = 0
    · obtain ⟨x, hrun, -, -, -, -, howners, hdrive⟩ := bathSlot_new (k := 0) (m := m) (sc := sc) (c := c) hbath
      rw [hrun, get_unhome (by decide), get_postBath (by decide), portDrive_applyVariant_other (by rwa [howners]), hdrive, h]
    · rw [bathSlot, if_pos (by simpa (disch := decide) using hbath)]
      simpa (disch := decide) using h

theorem sbCmdSlot_other {v : Nat} (hi : i < 8) (hik : i ≠ k) : SameBath i s (sbCmdSlot v s k) := by
  unfold sbCmdSlot
  dsimp only
  split
  · split
    · exact (sameBath_setBit hi hik).trans ((sameBath_bathSlot hik).trans (sameBath_driveDown hik))
    · exact .refl
  · split
    · split
      · exact (sameBath_setBit hi hik).trans (sameBath_endBath hi hik)
      · exact sameBath_setBit hi hik
    · exact .refl

theorem owner_sbCmdSlot {v : Nat} : (sbCmdSlot v s k).portOwner p = s.portOwner p := by
  simp (disch := decide) [sbCmdSlot, State.portOwner]

/-! ## A stop-bath by command -/

theorem sbCmdSlot_set {v : Nat} (hset : bit v i = true) (hno : s.getBit .SB_CMD 0 i = false) (hpow : powered s i = true) (hi : i < 8)
    (hbath : s.get .SB_STATE i = 0) : let u := sbCmdSlot v s i
      u.getBit .SB_CMD 0 i = true ∧ u.get .DRIVE_STATE i = dsSwitchedOn ∧ u.get .SB_STATE i ≠ 0 ∧ u.get .SB_CAUSE i = 0x11 ∧
      u.get .SB_CNT i = min (s.get .SB_CNT i + 1) 65535 := by
  have hrun : sbCmdSlot v s i = driveDown (bathSlot (maskOf 8 fun k => [i].contains k) 1 0x11 (s.setBit .SB_CMD 0 i true) i) i dsSwitchedOn := by
    simp only [sbCmdSlot, hset, hno, hpow]
    rfl
  dsimp only
  rw [hrun]
  obtain ⟨x, hrun, hstate, hcause, hcnt, hcmd, -⟩ := bathSlot_new (k := i) (m := maskOf 8 fun k => [i].contains k) (sc := 1) (c := 0x11)
    (s := s.setBit .SB_CMD 0 i true) (i := i) (by simpa using hbath)
  have hbit : x.getBit .SB_CMD 0 i = true := hcmd.trans ((getBit_setBit (show i < Reg.width .SB_CMD from hi)).trans (if_pos rfl))
  rw [hrun]
  refine ⟨?_, ?_, ?_, ?_, ?_⟩
  · simpa (disch := decide) [State.getBit] using hbit
  · simp (disch := decide) [driveDown, dsSwitchedOn, trunc]
  · simpa (disch := decide) using hstate
  · simpa (disch := decide) using hcause
  · simpa (disch := decide) using hcnt

theorem sbCmdSlot_cleared {v : Nat} (hclear : bit v i = false) (hwas : s.getBit .SB_CMD 0 i = true) (hcause : s.get .SB_CAUSE i = 0x11)
    (hbath : s.get .SB_STATE i ≠ 0) (hfault : slotFaulted s i = false) (hi : i < 8) : let u := sbCmdSlot v s i
      u.getBit .SB_CMD 0 i = false ∧ u.get .SB_STATE i = 0 ∧ ∀ p ∈ s.slotPorts i, u.get .PORT_DRIVE p = 0 := by
  have hrun : sbCmdSlot v s i = endBath (s.setBit .SB_CMD 0 i false) i := by
    have hdo : (s.setBit .SB_CMD 0 i false).get .SB_CAUSE i = 0x11 ∧ (s.setBit .SB_CMD 0 i false).get .SB_STATE i ≠ 0 ∧
        ¬ slotFaulted (s.setBit .SB_CMD 0 i false) i = true := by
      simpa [hcause, hbath, slotFaulted, State.drive] using hfault
    rw [sbCmdSlot, if_neg (by simp [hclear]), if_pos (by simp [hclear, hwas])]
    exact if_pos hdo
  dsimp only
  rw [hrun, endBath, if_neg (by simpa using hbath)]
  refine ⟨?_, ?_, fun p hp => portsOff_off ?_⟩
  · refine (congrArg (bit · i) (get_slotPortsOff (by decide))).trans ?_
    exact (getBit_setBit (show i < Reg.width .SB_CMD from hi)).trans (if_pos rfl)
  · simp (disch := decide) [State.clearAll]
    rfl
  · simpa (disch := decide) [mem_slotPorts, State.portOwner, State.clearAll] using hp

/-- The slots of a write of SB_CMD act each by itself: what stands of a slot once it has been visited, stands at the end. -/
theorem sbCmd_visit {v : Nat} {Q : State → Prop} (hi : i < 8) (hat : ∀ x, SameBath i s x → Q (sbCmdSlot v x i))
    (hafter : ∀ x y, SameBath i x y → Q x → Q y) : Q (writeSbCmd s v) :=
  foldl_visit (P := SameBath i s) (Q := Q) (List.mem_range.mpr hi) List.nodup_range
    (fun _ _ hk hx => hx.trans (sbCmdSlot_other hi hk.symm)) hat (fun _ _ hk hx => hafter _ _ (sbCmdSlot_other hi hk.symm) hx) .refl

theorem SameBath.powered_eq {x : State} (h : SameBath i s x) : powered x i = powered s i := by
  simp only [powered, State.drive, h.regs .DRIVE_STATE (by decide)]

theorem SameBath.faulted_eq {x : State} (h : SameBath i s x) : slotFaulted x i = slotFaulted s i := by
  simp only [slotFaulted, State.drive, h.regs .DRIVE_STATE (by decide)]

theorem SameBath.ports_eq {x : State} (h : SameBath i s x) : x.slotPorts i = s.slotPorts i := by
  simp only [State.slotPorts, h.owners]

end

section
variable {s : State} {i v : Nat}

theorem sbCmd_sets (hi : i < 8) (hset : bit v i = true) (hno : s.getBit .SB_CMD 0 i = false) (hpow : powered s i = true)
    (hbath : s.get .SB_STATE i = 0) :
    (writeSbCmd s v).getBit .SB_CMD 0 i = true ∧ (writeSbCmd s v).get .DRIVE_STATE i = dsSwitchedOn ∧ (writeSbCmd s v).get .SB_STATE i ≠ 0 ∧
      (writeSbCmd s v).get .SB_CAUSE i = 0x11 ∧ (writeSbCmd s v).get .SB_CNT i = min (s.get .SB_CNT i + 1) 65535 := by
  refine sbCmd_visit (s := s) (i := i) (Q := fun u => u.getBit .SB_CMD 0 i = true ∧ u.get .DRIVE_STATE i = dsSwitchedOn ∧ u.get .SB_STATE i ≠ 0 ∧
    u.get .SB_CAUSE i = 0x11 ∧ u.get .SB_CNT i = min (s.get .SB_CNT i + 1) 65535) hi (fun x hx => ?_) fun x y hxy hx => ?_
  · have hrun := sbCmdSlot_set hset (hx.cmd.trans hno) (hx.powered_eq.trans hpow) hi ((hx.regs .SB_STATE (by decide)).trans hbath)
    rwa [hx.regs .SB_CNT (by decide)] at hrun
  · obtain ⟨hcmd, hdrive, hstate, hcause, hcnt⟩ := hx
    exact ⟨hxy.cmd.trans hcmd, (hxy.regs .DRIVE_STATE (by decide)).trans hdrive, (hxy.regs .SB_STATE (by decide)).trans_ne hstate,
      (hxy.regs .SB_CAUSE (by decide)).trans hcause, (hxy.regs .SB_CNT (by decide)).trans hcnt⟩

theorem sbCmd_unpowered (hi : i < 8) (hset : bit v i = true) (hno : s.getBit .SB_CMD 0 i = false) (hpow : powered s i = false) :
    (writeSbCmd s v).getBit .SB_CMD 0 i = false ∧ (writeSbCmd s v).get .DRIVE_STATE i = s.get .DRIVE_STATE i := by
  refine sbCmd_visit (s := s) (i := i) (Q := fun u => u.getBit .SB_CMD 0 i = false ∧ u.get .DRIVE_STATE i = s.get .DRIVE_STATE i) hi (fun x hx => ?_)
    fun x y hxy hx => ⟨hxy.cmd.trans hx.1, (hxy.regs .DRIVE_STATE (by decide)).trans hx.2⟩
  have hstays : sbCmdSlot v x i = x := by
    simp [sbCmdSlot, hset, hx.powered_eq.trans hpow]
  rw [hstays]
  exact ⟨hx.cmd.trans hno, hx.regs .DRIVE_STATE (by decide)⟩

theorem sbCmd_clears (hi : i < 8) (hclear : bit v i = false) (hwas : s.getBit .SB_CMD 0 i = true) (hcause : s.get .SB_CAUSE i = 0x11)
    (hbath : s.get .SB_STATE i ≠ 0) (hfault : slotFaulted s i = false) :
    (writeSbCmd s v).getBit .SB_CMD 0 i = false ∧ (writeSbCmd s v).get .SB_STATE i = 0 ∧ ∀ p ∈ s.slotPorts i, (writeSbCmd s v).get .PORT_DRIVE p = 0 := by
  refine (sbCmd_visit (s := s) (i := i) (v := v) (Q := fun u => (u.getBit .SB_CMD 0 i = false ∧ u.get .SB_STATE i = 0 ∧
    ∀ p ∈ s.slotPorts i, u.get .PORT_DRIVE p = 0) ∧ u.slotPorts i = s.slotPorts i) hi (fun x hx => ?_) fun x y hxy hx => ?_).1
  · have hrun := sbCmdSlot_cleared hclear (hx.cmd.trans hwas) ((hx.regs .SB_CAUSE (by decide)).trans hcause)
      (fun e => hbath ((hx.regs .SB_STATE (by decide)).symm.trans e)) (hx.faulted_eq.trans hfault) hi
    rw [hx.ports_eq] at hrun
    refine ⟨hrun, ?_⟩
    rw [← hx.ports_eq, State.slotPorts, State.slotPorts]
    simp only [owner_sbCmdSlot]
  · obtain ⟨⟨hcmd, hstate, hoff⟩, hsame⟩ := hx
    exact ⟨⟨hxy.cmd.trans hcmd, (hxy.regs .SB_STATE (by decide)).trans hstate, fun p hp => hxy.off p (hsame ▸ hp) (hoff p hp)⟩,
      hxy.ports_eq.trans hsame⟩

theorem sbCmd_same (hi : i < 8) (hsame : bit v i = s.getBit .SB_CMD 0 i) :
    (writeSbCmd s v).getBit .SB_CMD 0 i = bit v i ∧ (writeSbCmd s v).get .SB_STATE i = s.get .SB_STATE i := by
  refine sbCmd_visit (s := s) (i := i) (Q := fun u => u.getBit .SB_CMD 0 i = bit v i ∧ u.get .SB_STATE i = s.get .SB_STATE i) hi (fun x hx => ?_)
    fun x y hxy hx => ⟨hxy.cmd.trans hx.1, (hxy.regs .SB_STATE (by decide)).trans hx.2⟩
  have hstays : sbCmdSlot v x i = x := by
    simp [sbCmdSlot, hx.cmd, hsame]
  rw [hstays]
  exact ⟨hx.cmd.trans hsame.symm, hx.regs .SB_STATE (by decide)⟩

theorem slotPorts_atTick {t : Nat} : (s.atTick t).slotPorts i = s.slotPorts i := by
  simp only [State.slotPorts, State.portOwner, get_atTick]

theorem hsHold_atTick {t : Nat} : hsHold (s.atTick t) i = hsHold s i := by
  have hports : (s.atTick t).slotPorts = s.slotPorts := funext fun _ => slotPorts_atTick
  have hgroup : (s.atTick t).getBit .SB_GROUP i = s.getBit .SB_GROUP i := funext fun _ => getBit_atTick
  simp only [hsHold, scopePorts, scopeSlots, hports, hgroup, dv_atTick]

end

/-- Settles O36, clause by clause. -/
theorem stopBaths : Obligations.StopBaths := by
  refine ⟨fun t i s hstate hgroup hlate => next_completes rfl ?_, fun t i s hstate => next_completes rfl (by simp [hsExpiry, hstate]),
    fun t i s hend hsince hstate hlate => next_completes rfl ?_, fun t i s hend => next_completes rfl (by simp [stillExpiry, State.dflag, hend]),
    fun v s => completes_eq rfl (fieldWrite_apply (path := 0) (look := lookNow s 0) (r := .SB_CMD) (i := 0) (v := v) (by simp [auxLacks]) rfl rfl rfl)
      fun i hi => ?_⟩
  · have hdue : (s.atTick t).get .SB_STATE i = 2 ∧ (s.atTick t).get .SB_HS_TICK i + hsHold (s.atTick t) i * ticksPerMs ≤ (s.atTick t).ts :=
      ⟨(get_atTick s).trans hstate, by rw [get_atTick, hsHold_atTick]; exact hlate⟩
    rw [hsExpiry, if_pos hdue, ← slotPorts_atTick (t := t)]
    exact scopeOff_own i.isLt hdue.1 (by simpa using hgroup)
  · have hdrives : (s.atTick t).get .SB_STATE i = 1 ∨ (s.atTick t).get .SB_STATE i = 2 := by simpa using hstate
    have hrun : stillExpiry (s.atTick t) i = setVariant (s.atTick t) i 3 :=
      if_pos ⟨by simp [State.dflag, hend], by simpa using hsince, hdrives, by simpa [ticksPerMs] using hlate⟩
    rw [hrun, ← slotPorts_atTick (t := t)]
    exact setVariant_off hdrives
  · exact ⟨fun h1 h2 h3 h4 => sbCmd_sets hi h1 h2 h3 h4, fun h1 h2 h3 => sbCmd_unpowered hi h1 h2 h3,
      fun h1 h2 h3 h4 h5 => sbCmd_clears hi h1 h2 h3 h4 h5, fun h => sbCmd_same hi h⟩

end Sys2Proof.Proofs
end

section
/-! O37: the state commands. -/

namespace Sys2Proof.Proofs

open Machine Laws

/-- Slot 0 is Switch on disabled, and its controlword, a field of 16 bits, holds a bit beyond them. -/
def overwideControlword : State :=
  { State.reset with regs := [(Reg.key .DRIVE_STATE 0, 1), (Reg.key .CONTROLWORD 0, 2 ^ 16)] }

/-- Refutes O37: nothing in the statement asks that a field held fits its width. A state command keeps the bits of the controlword that
are not its own (R432), so in `overwideControlword` the word it writes is 0x10006, of which the field takes 16 bits, where the
statement has it read the whole word. -/
theorem not_driveCommands : ¬ Obligations.DriveCommands := by
  unfold Obligations.DriveCommands
  rintro ⟨hshutdown, -⟩
  obtain ⟨u, hu, -, hword⟩ := hshutdown 0 overwideControlword (by decide +kernel) (by decide +kernel) (by decide +kernel) (by decide +kernel)
    (by decide +kernel) (by decide +kernel)
  have hrun : execShutdown 0 overwideControlword = .next u := hu
  obtain rfl := Host.Outcome.next.inj hrun
  have hkept : (controlTo overwideControlword 0 (withLevels overwideControlword 0 0x6)).get .CONTROLWORD 0 = 6 := by decide +kernel
  have hasked : withLevels overwideControlword 0 0x6 = 0x10006 := by decide +kernel
  exact absurd (hkept.symm.trans (hword.trans hasked)) (by decide)

end Sys2Proof.Proofs
end

section
/-! O38: counting of encoders and Hall sensors, and their speed. -/

namespace Sys2Proof.Proofs

open Machine Laws

section
variable {s x : State} {c : Nat} {t : Nat}

/-! ## A counting step -/

/-- The state in which a count moves: the tolerance record has taken the position, and the count it leaves is remembered. -/
def beforeCount (s : State) (c : Nat) : State :=
  let x := if s.hasEncoder c then latchTol s c s.ts (s.geti .ACT_POS c) else s
  { x with encHist := x.encHist.set c (((x.ts, x.geti .ENC_POS c) :: x.encHist.getD c []).filter fun y => x.ts ≤ y.1 + 16 * samplePeriod 2) }

theorem get_beforeCount {r : Reg} {i : Nat} : (beforeCount s c).get r i = s.get r i := by
  show State.get (if s.hasEncoder c then latchTol s c s.ts (s.geti .ACT_POS c) else s) r i = s.get r i
  simp

theorem dv_beforeCount {r : Reg} {i : Nat} : (beforeCount s c).dv r i = s.dv r i := by
  show State.dv (if s.hasEncoder c then latchTol s c s.ts (s.geti .ACT_POS c) else s) r i = s.dv r i
  simp

theorem se_beforeCount : SameEvents s (beforeCount s c) := by
  refine SameEvents.other (t := if s.hasEncoder c then latchTol s c s.ts (s.geti .ACT_POS c) else s) ?_
  simp

theorem gn2008_beforeCount : (beforeCount s c).gn2008 = s.gn2008 := by rw [State.gn2008, dv_beforeCount, State.gn2008]

theorem dvi_beforeCount {r : Reg} {i : Nat} : (beforeCount s c).dvi r i = s.dvi r i := by rw [State.dvi, dv_beforeCount, State.dvi]

theorem moveCount_eq {d : Int} : moveCount s c d = refreshAct (
    if s.gn2008 then (beforeCount s c).puti .ENC_POS c (toSigned 32 (ofSigned 32 (s.geti .ENC_POS c + d)))
    else if (0 < d ∧ s.dvi .FB_SOFTLIM_HI c < s.geti .ENC_POS c + d) ∨ (d < 0 ∧ s.geti .ENC_POS c + d < s.dvi .FB_SOFTLIM_LO c) then
      let y := (beforeCount s c).puti .ENC_POS c (if 0 < d then max (s.geti .ENC_POS c) (s.dvi .FB_SOFTLIM_HI c)
        else min (s.geti .ENC_POS c) (s.dvi .FB_SOFTLIM_LO c))
      if y.getBit .FB_STAT c satBit then y
      else ((y.setBit .FB_STAT c satBit true).setBit .FB_FLAGS c 1 true).post 0x0A01 0x4 c (if 0 < d then 1 else 0)
    else ((beforeCount s c).puti .ENC_POS c (s.geti .ENC_POS c + d)).setBit .FB_STAT c satBit false) c := by
  have hn : (if s.hasEncoder c then latchTol s c s.ts (s.geti .ACT_POS c) else s).geti .ENC_POS c = s.geti .ENC_POS c := by
    exact congrArg (toSigned _) (by simp)
  rw [← gn2008_beforeCount (s := s) (c := c), ← dvi_beforeCount (s := s) (c := c) (r := .FB_SOFTLIM_HI), ← dvi_beforeCount (s := s) (c := c) (r := .FB_SOFTLIM_LO)]
  rw [← hn]
  rfl

/-- The bits of FB_STAT but the limit's stay where a count moves. -/
theorem fbStat_moveCount {d : Int} {k : Nat} (hk : k ≠ satBit) (hw : k < Reg.width .FB_STAT) :
    (moveCount s c d).getBit .FB_STAT c k = s.getBit .FB_STAT c k := by
  have hput : ∀ z, bit (((beforeCount s c).puti .ENC_POS c z).get .FB_STAT c) k = bit (s.get .FB_STAT c) k := fun z => by
    rw [get_puti_reg (by decide), get_beforeCount]
  rw [State.getBit, moveCount_eq, get_refreshAct (by decide), State.getBit]
  split
  · exact hput _
  split
  · generalize (if 0 < d then max (s.geti .ENC_POS c) (s.dvi .FB_SOFTLIM_HI c) else min (s.geti .ENC_POS c) (s.dvi .FB_SOFTLIM_LO c)) = z
    dsimp only
    by_cases hat : ((beforeCount s c).puti .ENC_POS c z).getBit .FB_STAT c satBit = true
    · rw [if_pos hat]
      exact hput _
    · rw [if_neg hat, get_State_post (by decide), get_setBit_reg (by decide), bit_get_setBit hw, if_neg hk]
      exact hput _
  · rw [bit_get_setBit hw, if_neg hk]
    exact hput _

/-- A count within its 48 bits is read as it was written. -/
theorem geti_encPos {y : State} {z : Int} (hy : y.get .ENC_POS c = (State.puti x .ENC_POS c z).get .ENC_POS c) (hlo : -2 ^ 47 ≤ z) (hhi : z < 2 ^ 47) :
    y.geti .ENC_POS c = z :=
  (congrArg (toSigned _) hy).trans (geti_puti_same (by decide) (by simpa using hlo) (by simpa using hhi))

theorem encPos_range : -2 ^ 47 ≤ s.geti .ENC_POS c ∧ s.geti .ENC_POS c < 2 ^ 47 := by
  have h := toSigned_range (w := 48) (v := s.get .ENC_POS c) (by decide)
  simpa [State.geti] using h

theorem softlim_range {r : Reg} (hr : r.width = 48) : -2 ^ 47 ≤ s.dvi r c ∧ s.dvi r c < 2 ^ 47 := by
  have h := toSigned_range (w := 48) (v := s.dv r c) (by decide)
  simpa [State.dvi, hr] using h

theorem moveCount_moves {d : Int} (h : s.gn2008 = false)
    (hin : ¬ ((0 < d ∧ s.dvi .FB_SOFTLIM_HI c < s.geti .ENC_POS c + d) ∨ (d < 0 ∧ s.geti .ENC_POS c + d < s.dvi .FB_SOFTLIM_LO c)))
    (hlo : -2 ^ 47 ≤ s.geti .ENC_POS c + d) (hhi : s.geti .ENC_POS c + d < 2 ^ 47) :
    (moveCount s c d).geti .ENC_POS c = s.geti .ENC_POS c + d := by
  rw [moveCount_eq, h, if_neg (by decide), if_neg hin]
  exact geti_encPos (x := beforeCount s c) (by simp (disch := decide)) hlo hhi

theorem moveCount_up {d : Int} (h : s.gn2008 = false) (hd : 0 < d) (hin : s.geti .ENC_POS c + d ≤ s.dvi .FB_SOFTLIM_HI c) :
    (moveCount s c d).geti .ENC_POS c = s.geti .ENC_POS c + d := by
  have hpos := encPos_range (s := s) (c := c)
  have hlim := softlim_range (s := s) (c := c) (r := .FB_SOFTLIM_HI) rfl
  exact moveCount_moves h (by omega) (by omega) (by omega)

theorem moveCount_down {d : Int} (h : s.gn2008 = false) (hd : d < 0) (hin : s.dvi .FB_SOFTLIM_LO c ≤ s.geti .ENC_POS c + d) :
    (moveCount s c d).geti .ENC_POS c = s.geti .ENC_POS c + d := by
  have hpos := encPos_range (s := s) (c := c)
  have hlim := softlim_range (s := s) (c := c) (r := .FB_SOFTLIM_LO) rfl
  exact moveCount_moves h (by omega) (by omega) (by omega)

theorem moveCount_wraps {d : Int} (h : s.gn2008 = true) :
    (moveCount s c d).geti .ENC_POS c = toSigned 32 (ofSigned 32 (s.geti .ENC_POS c + d)) := by
  have hrange := toSigned_range (w := 32) (v := ofSigned 32 (s.geti .ENC_POS c + d)) (by decide)
  norm_num at hrange
  rw [moveCount_eq, h, if_pos rfl]
  exact geti_encPos (x := beforeCount s c) (by simp (disch := decide)) (by omega) (by omega)

/-- A count that would pass the limit it stands at stays there and says so. -/
theorem moveCount_stops {d : Int} (h : s.gn2008 = false) (hsat : s.getBit .FB_STAT c satBit = false)
    (hout : (0 < d ∧ s.geti .ENC_POS c = s.dvi .FB_SOFTLIM_HI c) ∨ (d < 0 ∧ s.geti .ENC_POS c = s.dvi .FB_SOFTLIM_LO c)) :
    (moveCount s c d).geti .ENC_POS c = s.geti .ENC_POS c ∧ (moveCount s c d).getBit .FB_STAT c 4 = true ∧
      (moveCount s c d).getBit .FB_FLAGS c 1 = true ∧ Posts s (moveCount s c d) 0x0A01 0x4 c (if 0 < d then 1 else 0) := by
  have hpos := encPos_range (s := s) (c := c)
  have hpast : (0 < d ∧ s.dvi .FB_SOFTLIM_HI c < s.geti .ENC_POS c + d) ∨ (d < 0 ∧ s.geti .ENC_POS c + d < s.dvi .FB_SOFTLIM_LO c) := by omega
  have hstays : (if 0 < d then max (s.geti .ENC_POS c) (s.dvi .FB_SOFTLIM_HI c) else min (s.geti .ENC_POS c) (s.dvi .FB_SOFTLIM_LO c)) =
      s.geti .ENC_POS c := by
    split <;> omega
  have hsat' : ((beforeCount s c).puti .ENC_POS c (s.geti .ENC_POS c)).getBit .FB_STAT c satBit = false :=
    (congrArg (bit · satBit) ((get_puti_reg (by decide)).trans get_beforeCount)).trans hsat
  rw [moveCount_eq, h, if_neg (by decide), if_pos hpast, hstays]
  dsimp only
  rw [hsat', if_neg (by decide)]
  refine ⟨geti_encPos (x := beforeCount s c) (by simp (disch := decide)) hpos.1 hpos.2, ?_, ?_, ?_⟩
  · refine (congrArg (bit · 4) (get_refreshAct (by decide))).trans ((congrArg (bit · 4) (get_State_post (by decide))).trans ?_)
    exact (getBit_setBit_reg (by decide)).trans ((getBit_setBit (by decide)).trans (if_pos rfl))
  · refine (congrArg (bit · 1) (get_refreshAct (by decide))).trans ((congrArg (bit · 1) (get_State_post (by decide))).trans ?_)
    exact (getBit_setBit (by decide)).trans (if_pos rfl)
  · rw [posts_iff, se_refreshAct]
    refine se_post ?_
    simpa (disch := decide) using se_beforeCount

/-! ## Edges of an encoder -/

/-- The lines of a channel as an edge leaves them. -/
def linesTaken (s : State) (c : Nat) (a b : Bool) : State := (s.setBit .FB_STAT c 10 a).setBit .FB_STAT c 9 b

theorem line_linesTaken {a b : Bool} {k : Nat} (hk : k < Reg.width .FB_STAT) :
    (linesTaken s c a b).getBit .FB_STAT c k = if k = 9 then b else if k = 10 then a else s.getBit .FB_STAT c k := by
  rw [linesTaken, getBit_setBit hk, getBit_setBit hk]

theorem get_linesTaken {a b : Bool} {r : Reg} {i : Nat} (h : r ≠ .FB_STAT) : (linesTaken s c a b).get r i = s.get r i :=
  (get_setBit_reg h).trans (get_setBit_reg h)

theorem chMode_congr {y : State} (h : ∀ r i, y.dv r i = s.dv r i) : chMode y c = chMode s c := by
  have hkind : y.kind c = s.kind c := h _ _
  rw [chMode, chMode, hkind, h]

theorem encoderEdge_eq {a b : Bool} : encoderEdge s c a b =
    if chMode s c ≠ 1 ∨ (a = s.getBit .FB_STAT c 10 ∧ b = s.getBit .FB_STAT c 9) then linesTaken s c a b
    else if a ≠ s.getBit .FB_STAT c 10 ∧ b ≠ s.getBit .FB_STAT c 9 then illegalEdge (linesTaken s c a b) c
    else
      let d : Int := if ((quadPlace a b + 4 - quadPlace (s.getBit .FB_STAT c 10) (s.getBit .FB_STAT c 9)) % 4 == 1) != s.dflag .ENC_INV c then 1 else -1
      moveCount (speedEdge (normalEdge (linesTaken s c a b) c) c d) c d := by
  rw [show chMode s c = chMode (linesTaken s c a b) c from (chMode_congr fun _ _ => rfl).symm]
  rfl

/-- A step of one or of three places changes one line alone. -/
theorem one_line_changes : ∀ k, k = 1 ∨ k = 3 → ∀ a b a0 b0, quadPlace a b = (quadPlace a0 b0 + k) % 4 →
    ¬ (a = a0 ∧ b = b0) ∧ ¬ (a ≠ a0 ∧ b ≠ b0) ∧ (quadPlace a b + 4 - quadPlace a0 b0) % 4 = k := by
  rintro k (rfl | rfl) <;> decide

/-- The way a channel counts an edge of `k` places: `k` is 1 in the positive direction and 3 in the negative one (R306). -/
def edgeStep (s : State) (c k : Nat) : Int := if (k == 1) != s.dflag .ENC_INV c then 1 else -1

theorem encoderEdge_counts {a b : Bool} {k : Nat} (hmode : chMode s c = 1) (hk : k = 1 ∨ k = 3)
    (hstep : quadPlace a b = (quadPlace (s.getBit .FB_STAT c 10) (s.getBit .FB_STAT c 9) + k) % 4) :
    encoderEdge s c a b = moveCount (speedEdge (normalEdge (linesTaken s c a b) c) c (edgeStep s c k)) c (edgeStep s c k) := by
  obtain ⟨hsame, hboth, hk'⟩ := one_line_changes k hk _ _ _ _ hstep
  rw [encoderEdge_eq, if_neg (not_or.mpr ⟨not_not.mpr hmode, hsame⟩), if_neg hboth, hk']
  rfl

/-- What a count has to find as it was: the count itself, what is developed, its limit's bit, and the events. -/
structure SameCount (s y : State) (c : Nat) : Prop where
  pos : y.get .ENC_POS c = s.get .ENC_POS c
  dev : ∀ r i, y.dv r i = s.dv r i
  sat : y.getBit .FB_STAT c satBit = s.getBit .FB_STAT c satBit
  events : SameEvents s y

section
variable {y z : State} (h : SameCount s y c)
include h

theorem SameCount.geti_pos : y.geti .ENC_POS c = s.geti .ENC_POS c := congrArg (toSigned _) h.pos

theorem SameCount.limit {r : Reg} : y.dvi r c = s.dvi r c := congrArg (toSigned _) (h.dev r c)

theorem SameCount.wrapping : y.gn2008 = s.gn2008 := by
  rw [State.gn2008, h.dev, State.gn2008]

theorem SameCount.trans (hz : SameCount y z c) : SameCount s z c where
  pos := hz.pos.trans h.pos
  dev r i := (hz.dev r i).trans (h.dev r i)
  sat := hz.sat.trans h.sat
  events := h.events.trans hz.events

theorem SameCount.up {d : Int} (hgn : s.gn2008 = false) (hd : 0 < d) (hin : s.geti .ENC_POS c + d ≤ s.dvi .FB_SOFTLIM_HI c) :
    (moveCount y c d).geti .ENC_POS c = s.geti .ENC_POS c + d := by
  rw [← h.geti_pos] at hin ⊢
  exact moveCount_up (h.wrapping.trans hgn) hd (by rwa [h.limit])

theorem SameCount.down {d : Int} (hgn : s.gn2008 = false) (hd : d < 0) (hin : s.dvi .FB_SOFTLIM_LO c ≤ s.geti .ENC_POS c + d) :
    (moveCount y c d).geti .ENC_POS c = s.geti .ENC_POS c + d := by
  rw [← h.geti_pos] at hin ⊢
  exact moveCount_down (h.wrapping.trans hgn) hd (by rwa [h.limit])

theorem SameCount.wraps {d : Int} (hgn : s.gn2008 = true) :
    (moveCount y c d).geti .ENC_POS c = toSigned 32 (ofSigned 32 (s.geti .ENC_POS c + d)) := by
  rw [← h.geti_pos]
  exact moveCount_wraps (h.wrapping.trans hgn)

theorem SameCount.stops {d : Int} (hgn : s.gn2008 = false) (hsat : s.getBit .FB_STAT c satBit = false)
    (hout : (0 < d ∧ s.geti .ENC_POS c = s.dvi .FB_SOFTLIM_HI c) ∨ (d < 0 ∧ s.geti .ENC_POS c = s.dvi .FB_SOFTLIM_LO c)) :
    (moveCount y c d).geti .ENC_POS c = s.geti .ENC_POS c ∧ (moveCount y c d).getBit .FB_STAT c 4 = true ∧
      (moveCount y c d).getBit .FB_FLAGS c 1 = true ∧ Posts s (moveCount y c d) 0x0A01 0x4 c (if 0 < d then 1 else 0) := by
  have hs := moveCount_stops (h.wrapping.trans hgn) (h.sat.trans hsat) (by rwa [h.geti_pos, h.limit, h.limit])
  rw [h.geti_pos] at hs
  exact ⟨hs.1, hs.2.1, hs.2.2.1, posts_iff.mpr ((h.events.post).trans (posts_iff.mp hs.2.2.2))⟩

end

theorem sameCount_linesTaken {a b : Bool} : SameCount s (linesTaken s c a b) c where
  pos := get_linesTaken (by decide)
  dev _ _ := rfl
  sat := line_linesTaken (by decide)
  events := by simp (disch := decide) [linesTaken]

/-- What the speed and the run of normal edges take of an edge. -/
theorem sameCount_speed {y : State} {d : Int} : SameCount y (speedEdge (normalEdge y c) c d) c where
  pos := (get_speedEdge (by decide)).trans (get_normalEdge (by decide))
  dev _ _ := (dv_speedEdge (Nat.zero_testBit _)).trans (dv_normalEdge (Nat.zero_testBit _))
  sat := congrArg (bit · satBit) ((get_speedEdge (by decide)).trans (get_normalEdge (by decide)))
  events := by simp

theorem fbStat_speed {y : State} {d : Int} {k : Nat} : (speedEdge (normalEdge y c) c d).getBit .FB_STAT c k = y.getBit .FB_STAT c k :=
  congrArg (bit · k) ((get_speedEdge (by decide)).trans (get_normalEdge (by decide)))

theorem encoderEdge_lines {a b : Bool} : (encoderEdge s c a b).getBit .FB_STAT c 10 = a ∧ (encoderEdge s c a b).getBit .FB_STAT c 9 = b := by
  have hten : (linesTaken s c a b).getBit .FB_STAT c 10 = a := line_linesTaken (by decide)
  have hnine : (linesTaken s c a b).getBit .FB_STAT c 9 = b := line_linesTaken (by decide)
  rw [encoderEdge_eq]
  split
  · exact ⟨hten, hnine⟩
  split
  · exact ⟨(congrArg (bit · 10) (get_illegalEdge (by decide))).trans hten, (congrArg (bit · 9) (get_illegalEdge (by decide))).trans hnine⟩
  · exact ⟨(fbStat_moveCount (by decide) (by decide)).trans (fbStat_speed.trans hten),
      (fbStat_moveCount (by decide) (by decide)).trans (fbStat_speed.trans hnine)⟩

section
variable {a b : Bool} {k : Nat} (hmode : chMode s c = 1) (hk : k = 1 ∨ k = 3)
  (hstep : quadPlace a b = (quadPlace (s.getBit .FB_STAT c 10) (s.getBit .FB_STAT c 9) + k) % 4)
include hmode hk hstep

theorem encoderEdge_up (hgn : s.gn2008 = false) (hdir : edgeStep s c k = 1) (hin : s.geti .ENC_POS c + 1 ≤ s.dvi .FB_SOFTLIM_HI c) :
    (encoderEdge s c a b).geti .ENC_POS c = s.geti .ENC_POS c + 1 := by
  rw [encoderEdge_counts hmode hk hstep, hdir]
  exact (sameCount_linesTaken.trans sameCount_speed).up hgn (by decide) hin

theorem encoderEdge_down (hgn : s.gn2008 = false) (hdir : edgeStep s c k = -1) (hin : s.dvi .FB_SOFTLIM_LO c ≤ s.geti .ENC_POS c - 1) :
    (encoderEdge s c a b).geti .ENC_POS c = s.geti .ENC_POS c - 1 := by
  rw [encoderEdge_counts hmode hk hstep, hdir]
  exact (sameCount_linesTaken.trans sameCount_speed).down hgn (by decide) hin

theorem encoderEdge_wraps (hgn : s.gn2008 = true) :
    (encoderEdge s c a b).geti .ENC_POS c = toSigned 32 (ofSigned 32 (s.geti .ENC_POS c + edgeStep s c k)) := by
  rw [encoderEdge_counts hmode hk hstep]
  exact (sameCount_linesTaken.trans sameCount_speed).wraps hgn

/-- An edge beyond the limit the count stands at. -/
theorem encoderEdge_stops (hgn : s.gn2008 = false) (hsat : s.getBit .FB_STAT c 4 = false)
    (hout : (0 < edgeStep s c k ∧ s.geti .ENC_POS c = s.dvi .FB_SOFTLIM_HI c) ∨ (edgeStep s c k < 0 ∧ s.geti .ENC_POS c = s.dvi .FB_SOFTLIM_LO c)) :
    (encoderEdge s c a b).geti .ENC_POS c = s.geti .ENC_POS c ∧ (encoderEdge s c a b).getBit .FB_STAT c 4 = true ∧
      (encoderEdge s c a b).getBit .FB_FLAGS c 1 = true ∧ Posts s (encoderEdge s c a b) 0x0A01 0x4 c (if 0 < edgeStep s c k then 1 else 0) := by
  rw [encoderEdge_counts hmode hk hstep]
  exact (sameCount_linesTaken.trans sameCount_speed).stops hgn hsat hout

end

/-! ## Illegal edges -/

theorem illegal_count : (illegalEdge s c).get .ILLEGAL_COUNT c = min (s.get .ILLEGAL_COUNT c + 1) 65535 := by
  have hlt : min (s.get .ILLEGAL_COUNT c + 1) 65535 < 2 ^ 16 := by omega
  simp (disch := decide) [illegalEdge, State.count, trunc_of_lt hlt]

theorem illegal_flag : (illegalEdge s c).getBit .FB_FLAGS c 0 = true := by
  simp (disch := decide) [illegalEdge, State.getBit]

theorem illegal_runs : (illegalEdge s c).get .ILL_RUN c = min 255 (s.get .ILL_RUN c + 1) ∧ (illegalEdge s c).get .NORM_RUN c = 0 := by
  constructor
  · have hlt : min 255 (s.get .ILL_RUN c + 1) < 2 ^ 8 := by omega
    simp (disch := decide) [illegalEdge, trunc_of_lt hlt]
  · simp (disch := decide) [illegalEdge]

theorem encoderEdge_illegal {a b : Bool} (hmode : chMode s c = 1) (ha : a ≠ s.getBit .FB_STAT c 10) (hb : b ≠ s.getBit .FB_STAT c 9) :
    encoderEdge s c a b = illegalEdge (linesTaken s c a b) c := by
  rw [encoderEdge_eq, if_neg (not_or.mpr ⟨not_not.mpr hmode, fun h => ha h.1⟩), if_pos ⟨ha, hb⟩]

/-! ## Hall states -/

/-- The levels of a Hall state as FB_STAT takes them. -/
def hallLines (s : State) (c st : Nat) : State :=
  ((s.setBit .FB_STAT c 10 (bit st 0)).setBit .FB_STAT c 9 (bit st 1)).setBit .FB_STAT c 8 (bit st 2)

theorem get_hallLines {st : Nat} {r : Reg} {i : Nat} (h : r ≠ .FB_STAT) : (hallLines s c st).get r i = s.get r i :=
  (get_setBit_reg h).trans ((get_setBit_reg h).trans (get_setBit_reg h))

theorem hallSector_congr {y : State} {st : Nat} (h : ∀ r i, y.dv r i = s.dv r i) : hallSector y c st = hallSector s c st := by
  rw [hallSector, State.dflag, h]
  rfl

/-- What a Hall state that has moved `d` sectors does (R308). -/
def hallMoves (y : State) (c m d : Nat) : State :=
  if d = 0 then y
  else if d = 3 then hallAngleEdge (illegalEdge y c) c m (y.get .SPD_DIR c != 2)
  else
    let n : Int := if d = 1 then 1 else if d = 2 then 2 else if d = 5 then -1 else -2
    let y := if d = 2 ∨ d = 4 then y.count .HALL_SKIP c else y
    moveCount (speedEdge (normalEdge (hallAngleEdge y c m (decide (0 < n))) c) c n) c n

theorem hallEdge_eq {st : Nat} : hallEdge s c st =
    if chMode s c ≠ 2 then hallLines s c st
    else if !hallValid st then illegalEdge (hallLines s c st) c
    else if s.get .HALL_STATE c = 0 then ((hallLines s c st).put .HALL_STATE c st).put .HALL_SECT c (hallSector s c st)
    else hallMoves ((hallLines s c st).put .HALL_STATE c st) c (hallSector s c st) ((hallSector s c st + 6 - hallSector s c (s.get .HALL_STATE c)) % 6) := by
  have hmode : chMode (hallLines s c st) c = chMode s c := chMode_congr fun _ _ => rfl
  have hsect : ∀ v, hallSector (hallLines s c st) c v = hallSector s c v := fun v => hallSector_congr fun _ _ => rfl
  have hlast : (hallLines s c st).get .HALL_STATE c = s.get .HALL_STATE c := get_hallLines (by decide)
  rw [← hmode, ← hsect, ← hlast, ← hsect]
  rfl

theorem hallSector_lt {st : Nat} (hv : hallValid st = true) : hallSector s c st < 6 := by
  have hrow : ∀ inv : Bool, ∀ v < 8, hallValid v = true → (if inv then 5 - [6, 0, 2, 1, 4, 5, 3, 6].getD v 6 else [6, 0, 2, 1, 4, 5, 3, 6].getD v 6) < 6 := by
    decide
  have hst : st < 8 := by
    simp only [hallValid, Bool.and_eq_true, decide_eq_true_eq] at hv
    exact hv.2
  exact hrow (s.dflag .HALL_INV c) st hst hv

/-- A valid Hall state is taken whole, and so is its sector. -/
theorem hall_fits {st : Nat} (hv : hallValid st = true) : trunc (Reg.width .HALL_STATE) st = st ∧
    trunc (Reg.width .HALL_SECT) (hallSector s c st) = hallSector s c st := by
  have hst : st < 8 := by
    simp only [hallValid, Bool.and_eq_true, decide_eq_true_eq] at hv
    exact hv.2
  exact ⟨trunc_of_lt hst, trunc_of_lt ((hallSector_lt hv).trans (by decide))⟩

section
variable {st : Nat} (hmode : chMode s c = 2) (hv : hallValid st = true)
include hmode hv

theorem hallEdge_first (hlast : s.get .HALL_STATE c = 0) :
    hallEdge s c st = ((hallLines s c st).put .HALL_STATE c st).put .HALL_SECT c (hallSector s c st) := by
  rw [hallEdge_eq, if_neg (not_not.mpr hmode), hv, if_neg (by decide), if_pos hlast]

theorem hallEdge_first_fields (hlast : s.get .HALL_STATE c = 0) : (hallEdge s c st).get .HALL_STATE c = st ∧
    (hallEdge s c st).get .HALL_SECT c = hallSector s c st ∧ (hallEdge s c st).get .ENC_POS c = s.get .ENC_POS c := by
  obtain ⟨hst, hsect⟩ := hall_fits (s := s) (c := c) hv
  rw [hallEdge_first hmode hv hlast]
  refine ⟨?_, ?_, ?_⟩
  · rwa [get_put_reg _ (by decide), get_put_same]
  · rwa [get_put_same]
  · rw [get_put_reg _ (by decide), get_put_reg _ (by decide), get_hallLines (by decide)]

theorem hallEdge_next {d : Nat} (hlast : hallValid (s.get .HALL_STATE c) = true) (hd : d < 6)
    (hm : hallSector s c st = (hallSector s c (s.get .HALL_STATE c) + d) % 6) :
    hallEdge s c st = hallMoves ((hallLines s c st).put .HALL_STATE c st) c (hallSector s c st) d := by
  have hne : s.get .HALL_STATE c ≠ 0 := fun h0 => by simp [hallValid, h0] at hlast
  have hfar : (hallSector s c st + 6 - hallSector s c (s.get .HALL_STATE c)) % 6 = d := by
    have := hallSector_lt (s := s) (c := c) hlast
    omega
  rw [hallEdge_eq, if_neg (not_not.mpr hmode), hv, if_neg (by decide), if_neg hne, hfar]

end

/-- The state in which a count of `d` sectors moves. -/
def hallCounted (y : State) (c m d : Nat) (n : Int) : State :=
  hallAngleEdge (if d = 2 ∨ d = 4 then y.count .HALL_SKIP c else y) c m (decide (0 < n))

theorem hallMoves_counts {y : State} {m d : Nat} {n : Int} (hn : (d, n) ∈ [(1, (1 : Int)), (2, 2), (4, -2), (5, -1)]) :
    hallMoves y c m d = moveCount (speedEdge (normalEdge (hallCounted y c m d n) c) c n) c n := by
  simp only [List.mem_cons, Prod.mk.injEq, List.not_mem_nil, or_false] at hn
  have hstep : (if d = 1 then (1 : Int) else if d = 2 then 2 else if d = 5 then -1 else -2) = n := by
    rcases hn with ⟨rfl, rfl⟩ | ⟨rfl, rfl⟩ | ⟨rfl, rfl⟩ | ⟨rfl, rfl⟩ <;> rfl
  have hfar : d ≠ 0 ∧ d ≠ 3 := by omega
  rw [hallMoves, if_neg hfar.1, if_neg hfar.2]
  dsimp only
  rw [hstep, hallCounted]

theorem sameCount_hall {st m d : Nat} {n : Int} : SameCount s (hallCounted ((hallLines s c st).put .HALL_STATE c st) c m d n) c where
  pos := by
    rw [hallCounted, get_hallAngleEdge (by decide)]
    split <;> simp (disch := decide) [get_hallLines]
  dev r i := by
    rw [hallCounted, dv_hallAngleEdge (Nat.zero_testBit _)]
    split <;> rfl
  sat := by
    have hlines : (hallLines s c st).getBit .FB_STAT c satBit = s.getBit .FB_STAT c satBit := by
      rw [hallLines, getBit_setBit (by decide), getBit_setBit (by decide), getBit_setBit (by decide)]
      rfl
    rw [hallCounted, State.getBit, get_hallAngleEdge (by decide)]
    split
    · rwa [get_count_reg (by decide), get_put_reg _ (by decide)]
    · rwa [get_put_reg _ (by decide)]
  events := by
    rw [hallCounted, se_hallAngleEdge]
    split <;> simp (disch := decide) [hallLines]

section
variable {st d : Nat} {n : Int} (hn : (d, n) ∈ [(1, (1 : Int)), (2, 2), (4, -2), (5, -1)]) (hmode : chMode s c = 2) (hv : hallValid st = true)
  (hlast : hallValid (s.get .HALL_STATE c) = true) (hm : hallSector s c st = (hallSector s c (s.get .HALL_STATE c) + d) % 6)
include hn hmode hv hlast hm

theorem hallEdge_counts : hallEdge s c st =
    moveCount (speedEdge (normalEdge (hallCounted ((hallLines s c st).put .HALL_STATE c st) c (hallSector s c st) d n) c) c n) c n := by
  have hd : d < 6 := by
    simp only [List.mem_cons, Prod.mk.injEq, List.not_mem_nil, or_false] at hn
    omega
  rw [hallEdge_next hmode hv hlast hd hm, hallMoves_counts hn]

theorem hallEdge_up (hgn : s.gn2008 = false) (hpos : 0 < n) (hin : s.geti .ENC_POS c + n ≤ s.dvi .FB_SOFTLIM_HI c) :
    (hallEdge s c st).geti .ENC_POS c = s.geti .ENC_POS c + n := by
  rw [hallEdge_counts hn hmode hv hlast hm]
  exact (sameCount_hall.trans sameCount_speed).up hgn hpos hin

theorem hallEdge_down (hgn : s.gn2008 = false) (hneg : n < 0) (hin : s.dvi .FB_SOFTLIM_LO c ≤ s.geti .ENC_POS c + n) :
    (hallEdge s c st).geti .ENC_POS c = s.geti .ENC_POS c + n := by
  rw [hallEdge_counts hn hmode hv hlast hm]
  exact (sameCount_hall.trans sameCount_speed).down hgn hneg hin

theorem hallEdge_taken : (hallEdge s c st).get .HALL_STATE c = st ∧ (hallEdge s c st).get .HALL_SECT c = hallSector s c st := by
  obtain ⟨hst, hsect⟩ := hall_fits (s := s) (c := c) hv
  rw [hallEdge_counts hn hmode hv hlast hm]
  constructor
  · rw [get_moveCount (by decide), get_speedEdge (by decide), get_normalEdge (by decide), hallCounted, get_hallAngleEdge (by decide)]
    split
    · rwa [get_count_reg (by decide), get_put_same]
    · rwa [get_put_same]
  · rw [get_moveCount (by decide), get_speedEdge (by decide), get_normalEdge (by decide), hallCounted, hallAngleEdge,
      get_put_reg _ (by decide), get_put_reg _ (by decide), get_put_same, hsect]

theorem hallEdge_skips (hskip : d = 2 ∨ d = 4) : (hallEdge s c st).get .HALL_SKIP c = min (s.get .HALL_SKIP c + 1) 65535 := by
  rw [hallEdge_counts hn hmode hv hlast hm, get_moveCount (by decide), get_speedEdge (by decide), get_normalEdge (by decide), hallCounted,
    get_hallAngleEdge (by decide), if_pos hskip, get_count, get_put_reg _ (by decide), get_hallLines (by decide)]
  rfl

end

/-- Three sectors at once are an illegal edge: the state is taken, the count stays. -/
theorem hallEdge_opposite {st : Nat} (hmode : chMode s c = 2) (hv : hallValid st = true) (hlast : hallValid (s.get .HALL_STATE c) = true)
    (hm : hallSector s c st = (hallSector s c (s.get .HALL_STATE c) + 3) % 6) :
    (hallEdge s c st).get .HALL_STATE c = st ∧ (hallEdge s c st).get .ENC_POS c = s.get .ENC_POS c ∧
      (hallEdge s c st).get .ILLEGAL_COUNT c = min (s.get .ILLEGAL_COUNT c + 1) 65535 ∧ (hallEdge s c st).getBit .FB_FLAGS c 0 = true := by
  have heq : ∃ m p, hallEdge s c st = hallAngleEdge (illegalEdge ((hallLines s c st).put .HALL_STATE c st) c) c m p :=
    ⟨_, _, hallEdge_next hmode hv hlast (by decide) hm⟩
  obtain ⟨m, p, heq⟩ := heq
  rw [heq]
  refine ⟨?_, ?_, ?_, ?_⟩
  · rw [get_hallAngleEdge (by decide), get_illegalEdge (by decide), get_put_same, (hall_fits (s := s) (c := c) hv).1]
  · rw [get_hallAngleEdge (by decide), get_illegalEdge (by decide), get_put_reg _ (by decide), get_hallLines (by decide)]
  · rw [get_hallAngleEdge (by decide), illegal_count, get_put_reg _ (by decide), get_hallLines (by decide)]
  · rw [State.getBit, get_hallAngleEdge (by decide)]
    exact illegal_flag

/-! ## Presets and speed windows -/

theorem encPreset_geti {v : Int} : (encPreset s c v).geti .ENC_POS c =
    toSigned 48 (ofSigned 48 (if s.gn2008 then toSigned 32 (ofSigned 32 v) else clampI (s.dvi .FB_SOFTLIM_LO c) (s.dvi .FB_SOFTLIM_HI c) v)) := by
  rw [encPreset]
  generalize (if s.gn2008 then toSigned 32 (ofSigned 32 v) else clampI (s.dvi .FB_SOFTLIM_LO c) (s.dvi .FB_SOFTLIM_HI c) v) = z
  have hput : (State.puti s .ENC_POS c z).geti .ENC_POS c = toSigned 48 (ofSigned 48 z) := by
    rw [State.geti, get_puti_ofSigned]
    rfl
  rw [State.geti, get_refreshAct (by decide), unalign, get_setBit_reg (by decide), get_setBit_reg (by decide)]
  split
  · rw [get_State_post (by decide), get_setBit_reg (by decide)]
    exact hput
  · exact hput

/-- A preset within the limits of its counter. -/
def presetFits (s : State) (c : Nat) (v : Int) : Prop :=
  if s.gn2008 then -2 ^ 31 ≤ v ∧ v < 2 ^ 31 else s.dvi .FB_SOFTLIM_LO c ≤ v ∧ v ≤ s.dvi .FB_SOFTLIM_HI c

theorem encPreset_takes {v : Int} (h : presetFits s c v) : (encPreset s c (toSigned 48 (ofSigned 48 v))).geti .ENC_POS c = v := by
  have hlo := softlim_range (s := s) (c := c) (r := .FB_SOFTLIM_LO) rfl
  have hhi := softlim_range (s := s) (c := c) (r := .FB_SOFTLIM_HI) rfl
  have hwide : -2 ^ 47 ≤ v ∧ v < 2 ^ 47 := by
    unfold presetFits at h
    split at h <;> omega
  have hv : toSigned 48 (ofSigned 48 v) = v := toSigned_ofSigned (by decide) hwide.1 hwide.2
  rw [encPreset_geti, hv]
  unfold presetFits at h
  split
  next hgn =>
    rw [if_pos hgn] at h
    rw [toSigned_ofSigned (w := 32) (by decide) h.1 h.2, hv]
  next hgn =>
    rw [if_neg hgn] at h
    rw [clampI, if_neg (by omega), if_neg (by omega), hv]

theorem encPosPreset_takes {c : Slot} {v : Int} (h : presetFits s c v) :
    Completes (.encPosPreset c v) s fun u => u.geti .ENC_POS c = v := by
  refine next_completes rfl ?_
  rw [fieldWrite_apply (by simp [auxLacks]) rfl rfl rfl]
  exact encPreset_takes h

theorem judgeEmpty_still (hs : s.getBit .FB_STAT c 0 = false) (hw : s.dv .STILL_WINDOWS c ≤ s.get .SPD_EMPTY c) (hne : s.get .SPD_EMPTY c ≠ 0) :
    judgeEmpty s c = (s.setBit .FB_STAT c 0 true).put .ENC_SPEED c 0 := by
  rw [judgeEmpty, if_pos (by simp [hs, hw, hne])]

theorem judgeEmpty_moving (hw : s.get .SPD_EMPTY c < s.dv .STILL_WINDOWS c) : judgeEmpty s c = s := by
  rw [judgeEmpty, if_neg (by simp [hw])]

theorem get_clearAll {rs : List Reg} {r : Reg} {i j : Nat} (h : r ∉ rs) : (s.clearAll rs i).get r j = s.get r j := by
  induction rs generalizing s with
  | nil => rfl
  | cons q rs ih =>
    obtain ⟨hq, hrs⟩ := not_or.mp (List.mem_cons.not.mp h)
    exact (ih hrs).trans (get_clear_reg hq)

theorem dv_clearAll {rs : List Reg} {r : Reg} {i j : Nat} : (s.clearAll rs i).dv r j = s.dv r j := by
  induction rs generalizing s with
  | nil => rfl
  | cons q rs ih => exact ih.trans rfl

/-- The state in which a speed window has closed: its counts are taken and a new window counts from nothing. -/
def windowClosed (s : State) (c : Nat) : State :=
  ((s.atTick (windowEnd s c)).put .SPD_WEND c (windowEnd s c)).clearAll [.SPD_EDGES, .SPD_NET, .SPD_REV, .SPD_DISCARD] c

theorem get_windowClosed {r : Reg} {i : Nat} (h : r ∉ [Reg.SPD_WEND, .SPD_EDGES, .SPD_NET, .SPD_REV, .SPD_DISCARD]) :
    (windowClosed s c).get r i = s.get r i := by
  obtain ⟨hend, hrest⟩ := not_or.mp (List.mem_cons.not.mp h)
  rw [windowClosed, get_clearAll hrest, get_put_reg _ hend, get_atTick]

theorem dv_windowClosed {r : Reg} {i : Nat} : (windowClosed s c).dv r i = s.dv r i := by
  rw [windowClosed, dv_clearAll, dv_put, dv_atTick]

theorem windowClosed_edges : (windowClosed s c).get .SPD_EDGES c = 0 ∧ (windowClosed s c).get .SPD_DISCARD c = 0 := by
  constructor <;> simp (disch := decide) [windowClosed, State.clearAll] <;> rfl

/-- What a window that is not discarded does where it is empty (R311). -/
def emptyWindow (s : State) (c t : Nat) : State :=
  let s := (s.setBit .FB_STAT c 1 false).put .SPD_EMPTY c (min 255 (s.get .SPD_EMPTY c + 1))
  let prev := s.geti .ENC_SPEED c
  let v : Int :=
    if s.getBit .FB_STAT c 0 ∨ ¬ s.flag .SPD_REF_OK c ∨ t ≤ s.get .SPD_REF c then 0
    else
      let m : Int := min prev.natAbs (64 * ticksPerSecond / (t - s.get .SPD_REF c))
      if s.get .SPD_DIR c = 2 then -m else m
  judgeEmpty (s.puti .ENC_SPEED c v) c

theorem speedWindow_eq : speedWindow s c =
    if s.flag .SPD_DISCARD c then windowClosed s c
    else if chMode s c = 0 then windowClosed s c
    else if s.get .SPD_EDGES c ≠ 0 then
      ((((windowClosed s c).puti .ENC_SPEED c (satSigned 32 (Int.tdiv (s.geti .SPD_NET c * 64 * 8000) (2 ^ s.dv .SPD_WIN c : Nat)))).setBit
        .FB_STAT c 0 false).setBit .FB_STAT c 1 (s.flag .SPD_REV c)).put .SPD_EMPTY c 0
    else emptyWindow (windowClosed s c) c (windowEnd s c) := by
  have hmode : chMode (windowClosed s c) c = chMode s c := chMode_congr fun _ _ => dv_windowClosed
  have hkeep : ∀ r, r ≠ Reg.SPD_WEND → ((s.atTick (windowEnd s c)).put .SPD_WEND c (windowEnd s c)).get r c = s.get r c := fun r hr => by
    rw [get_put_reg _ hr, get_atTick]
  rw [← hmode, ← hkeep .SPD_EDGES (by decide), State.flag, State.flag, ← hkeep .SPD_DISCARD (by decide), ← hkeep .SPD_REV (by decide),
    State.geti, ← hkeep .SPD_NET (by decide), ← dv_windowClosed (s := s) (c := c) (r := .SPD_WIN)]
  rfl

theorem judgeEmpty_reverse {y : State} : (judgeEmpty y c).getBit .FB_STAT c 1 = y.getBit .FB_STAT c 1 := by
  rw [judgeEmpty]
  split
  · rw [State.getBit, get_put_reg _ (by decide), bit_get_setBit (by decide), if_neg (by decide), State.getBit]
  · rfl

theorem emptyWindow_fields {y : State} {k : Nat} : (emptyWindow y c k).getBit .FB_STAT c 1 = false ∧
    (emptyWindow y c k).get .SPD_EMPTY c = min 255 (y.get .SPD_EMPTY c + 1) := by
  have hlt : min 255 (y.get .SPD_EMPTY c + 1) < 2 ^ 8 := by omega
  constructor
  · rw [emptyWindow, judgeEmpty_reverse, State.getBit, get_puti_reg (by decide), get_put_reg _ (by decide), bit_get_setBit (by decide), if_pos rfl]
  · rw [emptyWindow, get_judgeEmpty (by decide), get_puti_reg (by decide), get_put_same]
    exact trunc_of_lt hlt

/-! ## At an instant -/

theorem chMode_atTick : chMode (s.atTick t) c = chMode s c := chMode_congr fun _ _ => dv_atTick _

theorem gn2008_atTick : (s.atTick t).gn2008 = s.gn2008 := by rw [State.gn2008, dv_atTick, State.gn2008]

theorem dvi_atTick {r : Reg} {i : Nat} : (s.atTick t).dvi r i = s.dvi r i := by rw [State.dvi, dv_atTick, State.dvi]

theorem hallSector_atTick {st : Nat} : hallSector (s.atTick t) c st = hallSector s c st := hallSector_congr fun _ _ => dv_atTick _

theorem edgeStep_atTick {k v : Nat} {d : Int} (hinv : s.dv .ENC_INV c = v) (hd : (if (k == 1) != (v != 0) then (1 : Int) else -1) = d := by rfl) :
    edgeStep (s.atTick t) c k = d := by
  rw [edgeStep, State.dflag, dv_atTick, hinv, hd]

end

section
variable {s : State} {t : Nat} {c : Slot} {p : State → Prop} (hrun : s.get .TB_RUNNING 0 = 1)
include hrun

theorem encoderEdge_completes {a b : Bool} (h : p (encoderEdge (s.atTick t) c a b)) : Completes (.encoderEdge t c a b) s p := by
  refine next_completes rfl ?_
  rwa [sampled_running hrun]

theorem hallEdge_completes {st : Nat} (h : p (hallEdge (s.atTick t) c st)) : Completes (.hallEdge t c st) s p := by
  refine next_completes rfl ?_
  rwa [sampled_running hrun]

theorem speedWindowEnd_completes (h : p (speedWindow s c)) : Completes (.speedWindowEnd c) s p := by
  refine next_completes rfl ?_
  rwa [sampled_running hrun]

section
variable {a b : Bool} {k v : Nat} (hmode : chMode s c = 1) (hk : k = 1 ∨ k = 3) (hinv : s.dv .ENC_INV c = v)
  (hstep : quadPlace a b = (quadPlace (s.getBit .FB_STAT c 10) (s.getBit .FB_STAT c 9) + k) % 4)
include hmode hk hinv hstep

theorem encoderEdge_counts_up (hd : (if (k == 1) != (v != 0) then (1 : Int) else -1) = 1) (hgn : s.gn2008 = false)
    (hin : s.geti .ENC_POS c + 1 ≤ s.dvi .FB_SOFTLIM_HI c) :
    Completes (.encoderEdge t c a b) s fun u => u.geti .ENC_POS c = s.geti .ENC_POS c + 1 := by
  refine encoderEdge_completes hrun ?_
  rw [encoderEdge_up (chMode_atTick.trans hmode) hk (by rwa [getBit_atTick, getBit_atTick]) (gn2008_atTick.trans hgn) (edgeStep_atTick hinv hd)
    (by rwa [geti_atTick, dvi_atTick]), geti_atTick]

theorem encoderEdge_counts_down (hd : (if (k == 1) != (v != 0) then (1 : Int) else -1) = -1) (hgn : s.gn2008 = false)
    (hin : s.dvi .FB_SOFTLIM_LO c ≤ s.geti .ENC_POS c - 1) :
    Completes (.encoderEdge t c a b) s fun u => u.geti .ENC_POS c = s.geti .ENC_POS c - 1 := by
  refine encoderEdge_completes hrun ?_
  rw [encoderEdge_down (chMode_atTick.trans hmode) hk (by rwa [getBit_atTick, getBit_atTick]) (gn2008_atTick.trans hgn) (edgeStep_atTick hinv hd)
    (by rwa [geti_atTick, dvi_atTick]), geti_atTick]

theorem encoderEdge_counts_around {d : Int} (hd : (if (k == 1) != (v != 0) then (1 : Int) else -1) = d) (hgn : s.gn2008 = true) :
    Completes (.encoderEdge t c a b) s fun u => u.geti .ENC_POS c = toSigned 32 (ofSigned 32 (s.geti .ENC_POS c + d)) := by
  refine encoderEdge_completes hrun ?_
  rw [encoderEdge_wraps (chMode_atTick.trans hmode) hk (by rwa [getBit_atTick, getBit_atTick]) (gn2008_atTick.trans hgn), geti_atTick, edgeStep_atTick hinv hd]

theorem encoderEdge_counts_stops {d : Int} {e : Nat} (hd : (if (k == 1) != (v != 0) then (1 : Int) else -1) = d)
    (he : (if 0 < d then 1 else 0) = e) (hgn : s.gn2008 = false)
    (hsat : s.getBit .FB_STAT c 4 = false)
    (hout : (0 < d ∧ s.geti .ENC_POS c = s.dvi .FB_SOFTLIM_HI c) ∨ (d < 0 ∧ s.geti .ENC_POS c = s.dvi .FB_SOFTLIM_LO c)) :
    Completes (.encoderEdge t c a b) s fun u => u.geti .ENC_POS c = s.geti .ENC_POS c ∧ u.getBit .FB_STAT c 4 = true ∧
      u.getBit .FB_FLAGS c 1 = true ∧ Posts (s.atTick t) u 0x0A01 0x4 c e := by
  refine encoderEdge_completes hrun ?_
  have hs := encoderEdge_stops (chMode_atTick (t := t).trans hmode) hk (by rwa [getBit_atTick, getBit_atTick]) (gn2008_atTick.trans hgn)
    (getBit_atTick.trans hsat) (by rwa [edgeStep_atTick hinv hd, geti_atTick, dvi_atTick, dvi_atTick])
  rwa [edgeStep_atTick hinv hd, geti_atTick, he] at hs

end

section
variable {st d : Nat} {n : Int} (hn : (d, n) ∈ [(1, (1 : Int)), (2, 2), (4, -2), (5, -1)]) (hmode : chMode s c = 2) (hv : hallValid st = true)
  (hlast : hallValid (s.get .HALL_STATE c) = true) (hm : hallSector s c st = (hallSector s c (s.get .HALL_STATE c) + d) % 6)
include hn hmode hv hlast hm

theorem hallEdge_counts_on (hgn : s.gn2008 = false)
    (hin : (0 < n ∧ s.geti .ENC_POS c + n ≤ s.dvi .FB_SOFTLIM_HI c) ∨ (n < 0 ∧ s.dvi .FB_SOFTLIM_LO c ≤ s.geti .ENC_POS c + n)) :
    Completes (.hallEdge t c st) s fun u => u.get .HALL_STATE c = st ∧ u.get .HALL_SECT c = hallSector s c st ∧
      u.geti .ENC_POS c = s.geti .ENC_POS c + n ∧ (d = 2 ∨ d = 4 → u.get .HALL_SKIP c = min (s.get .HALL_SKIP c + 1) 65535) := by
  refine hallEdge_completes hrun ?_
  have hmode' : chMode (s.atTick t) c = 2 := chMode_atTick.trans hmode
  have hgn' : (s.atTick t).gn2008 = false := gn2008_atTick.trans hgn
  have hlast' : hallValid ((s.atTick t).get .HALL_STATE c) = true := by rwa [get_atTick]
  have hm' : hallSector (s.atTick t) c st = (hallSector (s.atTick t) c ((s.atTick t).get .HALL_STATE c) + d) % 6 := by
    rwa [get_atTick, hallSector_atTick, hallSector_atTick]
  obtain ⟨hst, hsect⟩ := hallEdge_taken hn hmode' hv hlast' hm'
  refine ⟨hst, hsect.trans hallSector_atTick, ?_, fun hskip => ?_⟩
  · rw [← geti_atTick (t := t), ← dvi_atTick (t := t), ← dvi_atTick (t := t) (r := .FB_SOFTLIM_LO)] at hin
    rw [← geti_atTick (s := s) (t := t)]
    rcases hin with ⟨hpos, hin⟩ | ⟨hneg, hin⟩
    · exact hallEdge_up hn hmode' hv hlast' hm' hgn' hpos hin
    · exact hallEdge_down hn hmode' hv hlast' hm' hgn' hneg hin
  · rw [hallEdge_skips hn hmode' hv hlast' hm' hskip, get_atTick]

end

end

theorem completes_imp {i : Instr} {s : State} {p q : State → Prop} (h : Completes i s p) (hpq : ∀ u, p u → q u) : Completes i s q := by
  obtain ⟨u, hu, hp⟩ := h
  exact ⟨u, hu, hpq u hp⟩

section
variable {s : State} {t : Nat} {c : Slot} (hrun : s.get .TB_RUNNING 0 = 1)
include hrun

theorem encoderEdge_counts_illegal {a b : Bool} (hmode : chMode s c = 1) (ha : a ≠ s.getBit .FB_STAT c 10) (hb : b ≠ s.getBit .FB_STAT c 9) :
    Completes (.encoderEdge t c a b) s fun u =>
      u.geti .ENC_POS c = s.geti .ENC_POS c ∧ u.get .ILLEGAL_COUNT c = min (s.get .ILLEGAL_COUNT c + 1) 65535 ∧
      u.getBit .FB_FLAGS c 0 = true ∧ u.get .ILL_RUN c = min 255 (s.get .ILL_RUN c + 1) ∧ u.get .NORM_RUN c = 0 := by
  refine encoderEdge_completes hrun ?_
  rw [encoderEdge_illegal (chMode_atTick.trans hmode) (by rwa [getBit_atTick]) (by rwa [getBit_atTick])]
  have hkeep : ∀ r, r ≠ Reg.FB_STAT → (linesTaken (s.atTick t) c a b).get r c = s.get r c := fun r hr => by
    rw [get_linesTaken hr, get_atTick]
  refine ⟨?_, ?_, illegal_flag, ?_, illegal_runs.2⟩
  · rw [State.geti, get_illegalEdge (by decide), hkeep _ (by decide), State.geti]
  · rw [illegal_count, hkeep _ (by decide)]
  · rw [illegal_runs.1, hkeep _ (by decide)]

section
variable {st : Nat} (hmode : chMode s c = 2)
include hmode

theorem hallEdge_takes_first (hv : hallValid st = true) (hlast : s.get .HALL_STATE c = 0) : Completes (.hallEdge t c st) s fun u =>
    u.get .HALL_STATE c = st ∧ u.get .HALL_SECT c = hallSector s c st ∧ u.get .ENC_POS c = s.get .ENC_POS c := by
  refine hallEdge_completes hrun ?_
  have hf := hallEdge_first_fields (s := s.atTick t) (chMode_atTick.trans hmode) hv (by rwa [get_atTick])
  rwa [hallSector_atTick, get_atTick] at hf

theorem hallEdge_takes_opposite (hv : hallValid st = true) (hlast : hallValid (s.get .HALL_STATE c) = true)
    (hm : hallSector s c st = (hallSector s c (s.get .HALL_STATE c) + 3) % 6) : Completes (.hallEdge t c st) s fun u =>
    u.get .HALL_STATE c = st ∧ u.get .ENC_POS c = s.get .ENC_POS c ∧
      u.get .ILLEGAL_COUNT c = min (s.get .ILLEGAL_COUNT c + 1) 65535 ∧ u.getBit .FB_FLAGS c 0 = true := by
  refine hallEdge_completes hrun ?_
  have hf := hallEdge_opposite (s := s.atTick t) (c := c) (st := st) (chMode_atTick.trans hmode) hv (by rwa [get_atTick])
    (by rwa [get_atTick, hallSector_atTick, hallSector_atTick])
  rwa [get_atTick, get_atTick] at hf

theorem hallEdge_takes_invalid (hv : hallValid st = false) : Completes (.hallEdge t c st) s fun u =>
    u.get .ENC_POS c = s.get .ENC_POS c ∧ u.get .ILLEGAL_COUNT c = min (s.get .ILLEGAL_COUNT c + 1) 65535 := by
  refine hallEdge_completes hrun ?_
  rw [hallEdge_eq, if_neg (not_not.mpr (chMode_atTick.trans hmode)), hv, if_pos (by decide), get_illegalEdge (by decide), illegal_count,
    get_hallLines (by decide), get_hallLines (by decide), get_atTick, get_atTick]
  exact ⟨rfl, rfl⟩

end

/-! A speed window ends. -/

omit hrun in
theorem satSigned_range {z : Int} : -2 ^ 31 ≤ satSigned 32 z ∧ satSigned 32 z < 2 ^ 31 := by
  unfold satSigned clampI
  split_ifs <;> constructor <;> push_cast <;> omega

theorem speedWindowEnd_counts (hmode : chMode s c ≠ 0) (hd : s.get .SPD_DISCARD c = 0) (he : s.get .SPD_EDGES c ≠ 0) :
    Completes (.speedWindowEnd c) s fun u =>
      u.geti .ENC_SPEED c = satSigned 32 (Int.tdiv (s.geti .SPD_NET c * 64 * 8000) (2 ^ s.dv .SPD_WIN c : Nat)) ∧
      u.getBit .FB_STAT c 0 = false ∧ u.getBit .FB_STAT c 1 = s.flag .SPD_REV c ∧ u.get .SPD_EDGES c = 0 ∧
      u.get .SPD_EMPTY c = 0 := by
  refine speedWindowEnd_completes hrun ?_
  rw [speedWindow_eq, if_neg (by simp [State.flag, hd]), if_neg hmode, if_pos he]
  generalize hz : satSigned 32 _ = z
  have hrange : -2 ^ 31 ≤ z ∧ z < 2 ^ 31 := hz ▸ satSigned_range
  refine ⟨?_, ?_, ?_, ?_, ?_⟩
  · rw [State.geti, get_put_reg _ (by decide), get_setBit_reg (by decide), get_setBit_reg (by decide)]
    exact geti_puti_same (by decide) hrange.1 hrange.2
  · rw [State.getBit, get_put_reg _ (by decide), bit_get_setBit (by decide), if_neg (by decide), bit_get_setBit (by decide), if_pos rfl]
  · rw [State.getBit, get_put_reg _ (by decide), bit_get_setBit (by decide), if_pos rfl]
  · rw [get_put_reg _ (by decide), get_setBit_reg (by decide), get_setBit_reg (by decide), get_puti_reg (by decide)]
    exact windowClosed_edges.1
  · exact get_put_same _

theorem speedWindowEnd_empty (hmode : chMode s c ≠ 0) (hd : s.get .SPD_DISCARD c = 0) (he : s.get .SPD_EDGES c = 0) :
    Completes (.speedWindowEnd c) s fun u => u.getBit .FB_STAT c 1 = false ∧ u.get .SPD_EMPTY c = min 255 (s.get .SPD_EMPTY c + 1) := by
  refine speedWindowEnd_completes hrun ?_
  rw [speedWindow_eq, if_neg (by simp [State.flag, hd]), if_neg hmode, if_neg (not_not.mpr he), emptyWindow_fields.2, get_windowClosed (by decide)]
  exact ⟨emptyWindow_fields.1, rfl⟩

theorem speedWindowEnd_discards (hd : s.get .SPD_DISCARD c = 1) : Completes (.speedWindowEnd c) s fun u =>
    u.get .ENC_SPEED c = s.get .ENC_SPEED c ∧ u.get .SPD_DISCARD c = 0 ∧ u.get .SPD_EDGES c = 0 := by
  refine speedWindowEnd_completes hrun ?_
  rw [speedWindow_eq, if_pos (by simp [State.flag, hd]), get_windowClosed (by decide)]
  exact ⟨rfl, windowClosed_edges.2, windowClosed_edges.1⟩

end

theorem stillDetected_still {s : State} {t : Nat} {c : Slot} (hs : s.getBit .FB_STAT c 0 = false) (hw : s.dv .STILL_WINDOWS c ≤ s.get .SPD_EMPTY c)
    (hne : s.get .SPD_EMPTY c ≠ 0) : Completes (.stillDetected t c) s fun u => u.getBit .FB_STAT c 0 = true ∧ u.get .ENC_SPEED c = 0 := by
  refine next_completes rfl ?_
  rw [judgeEmpty_still (getBit_atTick.trans hs) (by rwa [get_atTick, dv_atTick]) (by rwa [get_atTick])]
  simp (disch := decide) [State.getBit]

/-- Without the timebase no pin is sampled (R60). -/
theorem edges_unsampled {s : State} {t : Nat} {c : Slot} {a b : Bool} {st : Nat} (hrun : s.get .TB_RUNNING 0 = 0) :
    ∀ x ∈ [Instr.encoderEdge t c a b, .hallEdge t c st, .indexEdge t c a, .stepEdge t c a b, .homeSwitchEdge t c a,
      .limitSwitchEdge t c a b], Completes x s fun u => u = s.atTick t := by
  have hs : ∀ f, sampled s f = s.atTick t := fun f => by
    simp [sampled, State.atTick, State.flag, hrun]
  simp only [List.mem_cons, List.not_mem_nil, or_false]
  rintro x (rfl | rfl | rfl | rfl | rfl | rfl) <;> exact next_completes rfl (hs _)

/-- Settles O38: an edge counts in its direction within the counter's limits, a Hall state by its sectors, and a speed window takes its net count. -/
theorem encoders : Obligations.Encoders := by
  refine ⟨?_, ?_, ?_, ?_, ?_, ?_, ?_, ?_, ?_, ?_, ?_, ?_, ?_, ?_, ?_, ?_, ?_, ?_, ?_, ?_, ?_, ?_, ?_, ?_, ?_⟩
  · exact fun _ _ _ _ _ hrun => encoderEdge_completes hrun encoderEdge_lines
  · exact fun _ _ _ _ _ hrun hmode hgn hinv hstep hin => encoderEdge_counts_up hrun hmode (.inl rfl) hinv hstep rfl hgn hin
  · exact fun _ _ _ _ _ hrun hmode hgn hinv hstep hin => encoderEdge_counts_down hrun hmode (.inl rfl) hinv hstep rfl hgn hin
  · exact fun _ _ _ _ _ hrun hmode hgn hinv hstep hin => encoderEdge_counts_down hrun hmode (.inr rfl) hinv hstep rfl hgn hin
  · exact fun _ _ _ _ _ hrun hmode hgn hinv hstep hin => encoderEdge_counts_up hrun hmode (.inr rfl) hinv hstep rfl hgn hin
  · exact fun _ _ _ _ _ hrun hmode hgn hinv hstep => encoderEdge_counts_around hrun hmode (.inl rfl) hinv hstep rfl hgn
  · exact fun _ _ _ _ _ hrun hmode hgn hinv hstep => completes_imp (encoderEdge_counts_around hrun hmode (.inr rfl) hinv hstep (d := -1) rfl hgn)
        fun _ h => h.trans (by rw [Int.sub_eq_add_neg])
  · exact fun _ _ _ _ _ hrun hmode hgn hinv hstep hlim hsat =>
        encoderEdge_counts_stops hrun hmode (.inl rfl) hinv hstep (d := 1) rfl rfl hgn hsat (.inl ⟨by decide, hlim⟩)
  · exact fun _ _ _ _ _ hrun hmode hgn hinv hstep hlim hsat =>
        encoderEdge_counts_stops hrun hmode (.inr rfl) hinv hstep (d := -1) rfl rfl hgn hsat (.inr ⟨by decide, hlim⟩)
  · exact fun _ _ _ _ _ hrun hmode ha hb => encoderEdge_counts_illegal hrun hmode ha hb
  · exact fun _ _ _ _ hrun hmode hv hlast => hallEdge_takes_first hrun hmode hv hlast
  · exact fun _ _ _ _ hrun hmode hv hlast hgn hm hin => completes_imp (hallEdge_counts_on hrun (d := 1) (n := 1) (by decide) hmode hv hlast hm hgn
        (.inl ⟨by decide, hin⟩)) fun _ h => ⟨h.1, h.2.1, h.2.2.1⟩
  · exact fun _ _ _ _ hrun hmode hv hlast hgn hm hin => completes_imp (hallEdge_counts_on hrun (d := 2) (n := 2) (by decide) hmode hv hlast hm hgn
        (.inl ⟨by decide, hin⟩)) fun _ h => ⟨h.2.2.1, h.2.2.2 (.inl rfl)⟩
  · exact fun _ _ _ _ hrun hmode hv hlast hgn hm hin => completes_imp (hallEdge_counts_on hrun (d := 5) (n := -1) (by decide) hmode hv hlast hm hgn
        (.inr ⟨by decide, by rwa [← Int.sub_eq_add_neg]⟩)) fun _ h => ⟨h.1, h.2.1, by rw [h.2.2.1, Int.sub_eq_add_neg]⟩
  · exact fun _ _ _ _ hrun hmode hv hlast hgn hm hin => completes_imp (hallEdge_counts_on hrun (d := 4) (n := -2) (by decide) hmode hv hlast hm hgn
        (.inr ⟨by decide, by rwa [← Int.sub_eq_add_neg]⟩)) fun _ h => ⟨by rw [h.2.2.1, Int.sub_eq_add_neg], h.2.2.2 (.inr rfl)⟩
  · exact fun _ _ _ _ hrun hmode hv hlast hm => hallEdge_takes_opposite hrun hmode hv hlast hm
  · exact fun _ _ _ _ hrun hmode hv => hallEdge_takes_invalid hrun hmode hv
  · exact fun _ _ _ hgn hlo hhi => encPosPreset_takes (by rw [presetFits, if_neg (by simp [hgn])]; exact ⟨hlo, hhi⟩)
  · exact fun _ _ _ hgn hlo hhi => encPosPreset_takes (by rw [presetFits, if_pos hgn]; exact ⟨hlo, hhi⟩)
  · exact fun _ _ hrun hmode hd he => speedWindowEnd_counts hrun hmode hd he
  · exact fun _ _ hrun hmode hd he => speedWindowEnd_empty hrun hmode hd he
  · exact fun _ _ hrun hd => speedWindowEnd_discards hrun hd
  · exact fun _ _ _ hs hw hne => stillDetected_still hs hw hne
  · exact fun _ _ _ hw => next_completes rfl (judgeEmpty_moving (by rwa [get_atTick, dv_atTick]))
  · exact fun _ _ _ _ _ _ hrun => edges_unsampled hrun

end Sys2Proof.Proofs
end

section
/-! O39: encoder faults, alignment, following error and contact sheets. -/

namespace Sys2Proof.Proofs

open Machine Laws

section
variable {s : State} {t : Nat}

/-! ## Encoder faults -/

theorem encFault_declared {c : Nat} (h : encFaulty s c = false) :
    (encFault s c 1).getBit .FB_STAT c 2 = true ∧ (encFault s c 1).getBit .FB_STAT c 3 = false ∧ (encFault s c 1).getBit .FB_FLAGS c 2 = true ∧
      (encFault s c 1).get .FE c = 0 ∧ (encFault s c 1).get .HOMED c = 0 ∧ Posts s (encFault s c 1) 0x0A00 0x4 c (1 + s.get .ILLEGAL_COUNT c * 65536) := by
  unfold encFault
  rw [if_neg (by simp [h])]
  refine ⟨?_, ?_, ?_, ?_, ?_, ?_⟩
  · simp (disch := decide) [State.getBit]
  · simp (disch := decide) [State.getBit]
  · simp (disch := decide) [State.getBit]
  · simp (disch := decide)
  · simp (disch := decide)
  · dsimp only
    rw [posts_iff, se_State_emcy, get_put_reg _ (by decide), get_put_reg _ (by decide), get_setBit_reg (by decide),
      get_setBit_reg (by decide), get_setBit_reg (by decide), get_setBit_reg (by decide)]
    exact SameEvents.post (by simp (disch := decide))

theorem encFaultDue_atTick {c : Nat} : encFaultDue (s.atTick t) c = encFaultDue s c := by
  rw [encFaultDue, dv_atTick, get_atTick, encFaultDue]

theorem encFault_completes {c : Slot} (hdue : encFaultDue s c = true) (h : encFaulty s c = false) : Completes (.encFault t c) s fun u =>
    u.getBit .FB_STAT c 2 = true ∧ u.getBit .FB_STAT c 3 = false ∧ u.getBit .FB_FLAGS c 2 = true ∧ u.get .FE c = 0 ∧
    u.get .HOMED c = 0 ∧ Posts (s.atTick t) u 0x0A00 0x4 c (1 + s.get .ILLEGAL_COUNT c * 65536) := by
  refine next_completes rfl ?_
  rw [encFaultDue_atTick, if_pos hdue, ← get_atTick s (t := t)]
  exact encFault_declared (getBit_atTick.trans h)

theorem encFault_idle {c : Slot} (hdue : encFaultDue s c = false) : Completes (.encFault t c) s fun u => u = s.atTick t := by
  refine next_completes rfl ?_
  rw [encFaultDue_atTick, if_neg (by simp [hdue])]

theorem encFaultClr_clears {c : Slot} : Completes (.encFaultClr c) s fun u =>
    u.getBit .FB_STAT c 2 = false ∧ u.getBit .FB_STAT c 3 = false ∧ u.getBit .FB_STAT c 6 = false ∧ u.get .ILL_RUN c = 0 := by
  refine next_completes rfl ?_
  show (encFaultClear s c).getBit .FB_STAT c 2 = false ∧ (encFaultClear s c).getBit .FB_STAT c 3 = false ∧
    (encFaultClear s c).getBit .FB_STAT c 6 = false ∧ (encFaultClear s c).get .ILL_RUN c = 0
  have hkeep : ∀ (b : Bool) (y : State) (r : Reg), r = .FB_STAT ∨ r = .ILL_RUN → (if b then y.emcyIfClear c else y).get r c = y.get r c := by
    rintro b y r (rfl | rfl) <;> cases b <;> simp (disch := decide)
  simp only [encFaultClear, State.getBit]
  rw [hkeep _ _ _ (.inl rfl), hkeep _ _ _ (.inr rfl)]
  simp (disch := decide)

/-! ## Alignment and the following error -/

theorem encAlign_takes {i : Nat} (hdue : alignDue s i = true) :
    (encAlign s i).get .ENC_OFS i = ofSigned 64 (s.geti .POS_CMD i - s.geti .HOME_SHIFT i - scaledCount s i (s.geti .ENC_POS i)) ∧
      (encAlign s i).getBit .FB_STAT i 3 = true ∧ Posts s (encAlign s i) 0x0A03 0x4 i (ofSigned 32 ((encAlign s i).geti .ENC_OFS i)) := by
  unfold encAlign
  rw [if_neg (by simp [hdue])]
  generalize s.geti .POS_CMD i - s.geti .HOME_SHIFT i - scaledCount s i (s.geti .ENC_POS i) = z
  refine ⟨?_, ?_, ?_⟩
  · rw [get_State_post (by decide), get_refreshAct (by decide), get_setBit_reg (by decide), get_puti_ofSigned]
    rfl
  · simp (disch := decide) [State.getBit]
  · dsimp only
    generalize he : ofSigned 32 _ = e
    refine posts_of (by simp (disch := decide)) ?_
    rw [← he, State.geti, State.geti, get_State_post (by decide)]

/-- A following error that is declared. -/
def followDeclared (s : State) (i : Nat) : State := ((s.setBit .FB_FLAGS i 4 true).put .FE_SINCE i 0).post 0x0A02 0x4 i (s.get .FE i)

theorem followFault_eq {i : Nat} (hs : s.get .FE_SINCE i ≠ 0) (hdue : s.get .FE_SINCE i + s.dv .FE_TIME i * 160000 ≤ s.ts)
    (hen : s.get .DRIVE_STATE i = dsEnabled) : followFault s i = plannedFault (followDeclared s i) i 0x16 ((followDeclared s i).get .STOP_DEC i) := by
  have hms : ticksPerMs = 160000 := rfl
  have hready : ¬ (s.get .FE_SINCE i = 0 ∨ s.ts < s.get .FE_SINCE i + s.dv .FE_TIME i * ticksPerMs ∨ s.drive i ≠ dsEnabled) := by
    rw [hms]
    exact not_or.mpr ⟨hs, not_or.mpr ⟨Nat.not_lt.mpr hdue, not_not.mpr hen⟩⟩
  rw [followFault, if_neg hready]
  rfl

theorem followDeclared_fields {i : Nat} : (followDeclared s i).getBit .FB_FLAGS i 4 = true ∧ (followDeclared s i).drive i = s.drive i := by
  constructor
  · simp (disch := decide) [followDeclared, State.getBit]
  · simp (disch := decide) [followDeclared, State.drive]

theorem followFault_faults {i : Nat} (hs : s.get .FE_SINCE i ≠ 0) (hdue : s.get .FE_SINCE i + s.dv .FE_TIME i * 160000 ≤ s.ts)
    (hen : s.get .DRIVE_STATE i = dsEnabled) : (followFault s i).getBit .FB_FLAGS i 4 = true ∧ (followFault s i).get .FAULT_CAUSE i = 0x16 ∧
      ((followFault s i).get .DRIVE_STATE i = dsFaultReaction ∨ (followFault s i).get .DRIVE_STATE i = dsFault) := by
  obtain ⟨hflag, hdrive⟩ := followDeclared_fields (s := s) (i := i)
  have hfree : slotFaulted (followDeclared s i) i = false := by
    have hd : (followDeclared s i).drive i = dsEnabled := hdrive.trans hen
    simp only [slotFaulted, hd]
    decide
  rw [followFault_eq hs hdue hen]
  exact ⟨(congrArg (bit · 4) (get_plannedFault (by decide))).trans hflag, pf_cause hfree (by decide)⟩

/-! ## Contact sheets -/

theorem shootSheet_takes (ht : s.ts + 320 ≤ t) (h64 : t < 2 ^ 64) (hp : s.get .CS_PEND 0 = 0) :
    (shootSheet s t).1.get .CS_PEND 0 = 1 ∧ (shootSheet s t).1.get .CS_TICK 0 = t := by
  rw [shootSheet, if_neg (by simp [State.flag, hp]; omega)]
  refine ⟨?_, ?_⟩
  · rw [get_put_reg _ (by decide), get_put_same]
    rfl
  · rw [get_put_same]
    exact trunc_of_lt h64

theorem shootSheet_refuses (h : t < s.ts + 320 ∨ s.get .CS_PEND 0 = 1) : (shootSheet s t).1 = s.put .CS_REJ 0 1 := by
  rw [shootSheet, if_pos (h.imp_right fun hp => by simp [State.flag, hp])]

theorem captures_congr {x : State} {c : Nat} (h : ∀ r i, x.dv r i = s.dv r i) : captures x c = captures s c := by
  have hkind : x.kind c = s.kind c := h _ _
  rw [captures, chMode_congr h, hkind, captures]

/-- A capture advances the sequence number of its channel alone. -/
theorem capSeq_capture {x : State} {c : Nat} (h : captures x c = true) : (capture x c 6 t).get .CAP_SEQ c = (x.get .CAP_SEQ c + 1) % 16 := by
  rw [capture, if_neg (by simp [h]), get_State_enqueue (by decide), get_put_same]
  rfl

theorem capSeq_capture_other {x : State} {c k : Nat} (hk : k ≠ c) : (capture x k 6 t).get .CAP_SEQ c = x.get .CAP_SEQ c := by
  rw [capture]
  split
  · rfl
  · rw [get_State_enqueue (by decide), get_put_inst _ hk.symm]

/-- The sequence number of a channel that captures moves on; the channel captures once. -/
theorem capSeq_captures {l : List Nat} (hl : l.Nodup) {c : Nat} (hc : captures s c = true) (h : c ∈ l) :
    (l.foldl (fun a c => capture a c 6 t) s).get .CAP_SEQ c = (s.get .CAP_SEQ c + 1) % 16 := by
  refine foldl_visit (P := fun x => captures x c = true ∧ x.get .CAP_SEQ c = s.get .CAP_SEQ c) (Q := fun x => x.get .CAP_SEQ c = (s.get .CAP_SEQ c + 1) % 16)
    h hl (fun x k hk hx => ?_) (fun x hx => ?_) (fun x k hk hx => ?_) ⟨hc, rfl⟩
  · exact ⟨(captures_congr fun _ _ => dv_capture (Nat.zero_testBit _)).trans hx.1, (capSeq_capture_other hk).trans hx.2⟩
  · rw [capSeq_capture hx.1, hx.2]
  · exact (capSeq_capture_other hk).trans hx

theorem capSeq_lost {l : List Nat} (hl : l.Nodup) {c : Nat} (h : c ∈ l) :
    (l.foldl (fun a c => a.put .CAP_SEQ c (a.get .CAP_SEQ c + 1)) s).get .CAP_SEQ c = (s.get .CAP_SEQ c + 1) % 16 := by
  refine foldl_visit (P := fun x => x.get .CAP_SEQ c = s.get .CAP_SEQ c) (Q := fun x => x.get .CAP_SEQ c = (s.get .CAP_SEQ c + 1) % 16)
    h hl (fun x k hk hx => ?_) (fun x hx => ?_) (fun x k hk hx => ?_) rfl
  · exact (get_put_inst _ (Ne.symm hk)).trans hx
  · rw [get_put_same, hx]
    rfl
  · exact (get_put_inst _ (Ne.symm hk)).trans hx

/-- The state in which a pending sheet fires: its instant has come. -/
def sheetDue (s : State) : State := (s.atTick (s.get .CS_TICK 0)).put .CS_PEND 0 0

theorem get_sheetDue {r : Reg} {i : Nat} (h : r ≠ .CS_PEND) : (sheetDue s).get r i = s.get r i := by
  rw [sheetDue, get_put_reg _ h, get_atTick]

theorem captures_sheetDue {c : Nat} : captures (sheetDue s) c = captures s c :=
  captures_congr fun _ _ => (dv_put ..).trans (dv_atTick s)

theorem fireSheet_eq (hp : s.get .CS_PEND 0 = 1) (hrun : s.get .TB_RUNNING 0 = 1) : fireSheet s =
    if s.qFill 10 + (idsWhere 8 (captures s)).length ≤ s.qSize 10 then
      ((((idsWhere 8 (captures s)).foldl (fun a c => capture a c 6 (s.get .CS_TICK 0)) (sheetDue s)).count .CS_COUNT 0).put .CS_DONE 0 1).post
        0x0A04 0x4 noSlot (idsWhere 8 (captures s)).length
    else
      let y := (((((idsWhere 8 (captures s)).foldl (fun a c => a.put .CAP_SEQ c (a.get .CAP_SEQ c + 1)) (sheetDue s)).countN .QDROP 10
        (idsWhere 8 (captures s)).length).put .QOVF 10 1).put .CS_LOST 0 1)
      (if !s.flag .QOVF 10 then y.post 0x0103 0x7 noSlot (10 + y.get .QDROP 10 * 2 ^ 16) else y).post 0x0A05 0x4 noSlot (idsWhere 8 (captures s)).length := by
  have hsize : (sheetDue s).qSize 10 = s.qSize 10 := by
    rw [State.qSize, sheetDue, dv_put, dv_atTick, State.qSize]
  have hfill : (sheetDue s).qFill 10 = s.qFill 10 := by
    rw [State.qFill, hsize, get_sheetDue (by decide), get_sheetDue (by decide), State.qFill]
  have hcap : captures (sheetDue s) = captures s := funext fun c => captures_sheetDue
  have hfirst : (sheetDue s).flag .QOVF 10 = s.flag .QOVF 10 := congrArg (· != 0) (get_sheetDue (by decide))
  rw [← hsize, ← hfill, ← hcap, ← hfirst]
  unfold fireSheet
  rw [if_neg (by simp [State.flag, hp, hrun])]
  rfl

theorem mem_sheet {c : Nat} (hc : c < 8) (h : captures s c = true) : c ∈ idsWhere 8 (captures s) := by simp [idsWhere, hc, h]

theorem sheet_nodup : (idsWhere 8 (captures s)).Nodup := List.nodup_range.filter _

theorem fireSheet_fires (hp : s.get .CS_PEND 0 = 1) (hrun : s.get .TB_RUNNING 0 = 1) (hroom : s.qFill 10 + (idsWhere 8 (captures s)).length ≤ s.qSize 10) :
    (fireSheet s).get .CS_PEND 0 = 0 ∧ (fireSheet s).get .CS_DONE 0 = 1 ∧ (fireSheet s).get .CS_COUNT 0 = min (s.get .CS_COUNT 0 + 1) 65535 ∧
      (∀ c < 8, captures s c = true → (fireSheet s).get .CAP_SEQ c = (s.get .CAP_SEQ c + 1) % 16) ∧
      LastEvent (fireSheet s) 0x0A04 0x4 noSlot (idsWhere 8 (captures s)).length := by
  rw [fireSheet_eq hp hrun, if_pos hroom]
  refine ⟨?_, ?_, ?_, fun c hc hcap => ?_, ⟨_, posts_iff.mpr (.refl _)⟩⟩
  · rw [get_State_post (by decide), get_put_reg _ (by decide), get_count_reg (by decide), foldl_keep fun x k => get_capture (by decide)]
    exact get_put_same _
  · rw [get_State_post (by decide), get_put_same]
    rfl
  · rw [get_State_post (by decide), get_put_reg _ (by decide), get_count, foldl_keep fun x k => get_capture (by decide), get_sheetDue (by decide)]
    rfl
  · rw [get_State_post (by decide), get_put_reg _ (by decide), get_count_reg (by decide),
      capSeq_captures sheet_nodup (captures_sheetDue.trans hcap) (mem_sheet hc hcap), get_sheetDue (by decide)]

theorem fireSheet_loses (hp : s.get .CS_PEND 0 = 1) (hrun : s.get .TB_RUNNING 0 = 1) (hfull : s.qSize 10 < s.qFill 10 + (idsWhere 8 (captures s)).length) :
    (fireSheet s).get .CS_PEND 0 = 0 ∧ (fireSheet s).get .CS_LOST 0 = 1 ∧ (fireSheet s).get .CS_DONE 0 = s.get .CS_DONE 0 ∧ (fireSheet s).get .QOVF 10 = 1 ∧
      (∀ c < 8, captures s c = true → (fireSheet s).get .CAP_SEQ c = (s.get .CAP_SEQ c + 1) % 16) ∧
      LastEvent (fireSheet s) 0x0A05 0x4 noSlot (idsWhere 8 (captures s)).length := by
  rw [fireSheet_eq hp hrun, if_neg (Nat.not_le.mpr hfull)]
  dsimp only
  generalize hy : ((((idsWhere 8 (captures s)).foldl (fun a c => a.put .CAP_SEQ c (a.get .CAP_SEQ c + 1)) (sheetDue s)).countN .QDROP 10
        (idsWhere 8 (captures s)).length).put .QOVF 10 1).put .CS_LOST 0 1 = y
  have hpost : ∀ {r i}, r ∉ [Reg.EVENT_SEQ, .Q11_WM, .Q11_FULL] → i ≠ 11 →
      ((if !s.flag .QOVF 10 then y.post 0x0103 0x7 noSlot (10 + y.get .QDROP 10 * 2 ^ 16) else y).post 0x0A05 0x4 noSlot (idsWhere 8 (captures s)).length).get r i
        = y.get r i := by
    intro r i hr hi
    simp only [List.mem_cons, List.not_mem_nil, or_false, not_or] at hr
    rw [get_post_otherQueue hi hr.1 hr.2.1 hr.2.2]
    split
    · rw [get_post_otherQueue hi hr.1 hr.2.1 hr.2.2]
    · rfl
  refine ⟨?_, ?_, ?_, ?_, fun c hc hcap => ?_, ⟨_, posts_iff.mpr (.refl _)⟩⟩
  · rw [hpost (by decide) (by decide), ← hy, get_put_reg _ (by decide), get_put_reg _ (by decide), get_countN_reg (by decide), foldl_keep fun x k => get_put_reg _ (by decide)]
    exact get_put_same _
  · rw [hpost (by decide) (by decide), ← hy, get_put_same]
    rfl
  · rw [hpost (by decide) (by decide), ← hy, get_put_reg _ (by decide), get_put_reg _ (by decide), get_countN_reg (by decide),
      foldl_keep fun x k => get_put_reg _ (by decide), get_sheetDue (by decide)]
  · rw [hpost (by decide) (by decide), ← hy, get_put_reg _ (by decide), get_put_same]
    rfl
  · rw [hpost (by decide) (by omega), ← hy, get_put_reg _ (by decide), get_put_reg _ (by decide), get_countN_reg (by decide),
      capSeq_lost sheet_nodup (mem_sheet hc hcap), get_sheetDue (by decide)]

end

/-- Settles O39: faults and alignments are declared with their event, and a contact sheet fires whole or not at all. -/
theorem alignmentAndSheets : Obligations.AlignmentAndSheets := by
  refine ⟨fun t c s hdue h => encFault_completes hdue h, fun t c s hdue => encFault_idle hdue, fun c s => encFaultClr_clears, fun t i s hdue => ?_,
    fun t i s hdue => next_completes rfl (if_pos (by simp [hdue])), fun c s => next_completes rfl ?_, fun t i s hs hdue hen => ?_,
    fun t i s hs => next_completes rfl (if_pos (.inl (by rw [get_atTick, hs]))), fun c s => next_completes rfl ?_, fun t s h64 ht hp => next_completes rfl ?_,
    fun t s h => next_completes rfl ?_, fun s => next_completes rfl (get_put_same _),
    fun s hp hrun hroom => next_completes rfl (fireSheet_fires hp hrun hroom), fun s hp hrun hfull => next_completes rfl (fireSheet_loses hp hrun hfull),
    fun s hp => next_completes rfl (if_pos (.inl (by simp [State.flag, hp])))⟩
  · have h := encAlign_takes hdue
    have hcount : scaledCount (s.atTick t) i ((s.atTick t).geti .ENC_POS i) = scaledCount s i (s.geti .ENC_POS i) := by
      rw [geti_atTick, scaledCount, encRatio, chMode_atTick, dv_atTick, scaledCount, encRatio]
    rw [hcount, geti_atTick, geti_atTick] at h
    exact next_completes rfl h
  · exact (getBit_setBit (by decide)).trans (if_pos rfl)
  · have h := followFault_faults (s := s.atTick t) (i := i) (by rwa [get_atTick]) (by rwa [get_atTick, dv_atTick]) (by rwa [get_atTick])
    exact next_completes rfl h
  · exact (getBit_setBit (by decide)).trans (if_pos rfl)
  · rw [Nat.mod_eq_of_lt h64]
    exact shootSheet_takes ht h64 hp
  · rw [shootSheet_refuses h]
    simp

end Sys2Proof.Proofs
end

section
/-! O40: conversions. -/

namespace Sys2Proof.Proofs

open Machine Laws

/-- Converter 0 converts channel 0 as an injected conversion, and its one queued request is for channel 1. -/
def strayRequest : State :=
  { State.reset with regs := [(Reg.key .CONV_BUSY 0, 3), (Reg.key .INJ_N 0, 1), (Reg.key .INJ_REQ 0, 1)] }

/-- Refutes O40: nothing in the statement asks that the queue of a converter hold a request for the channel it converts. In `strayRequest`
the result of channel 0 takes no request out, so the queue stays one long, where the statement has it shorter by one. -/
theorem not_conversions : ¬ Obligations.Conversions := by
  unfold Obligations.Conversions
  rintro ⟨-, -, hinjected, -⟩
  obtain ⟨u, hu, hcount, -⟩ := hinjected 0 0 0 0 false strayRequest (by decide +kernel) (by decide +kernel) (by decide +kernel) (by decide +kernel)
    (by decide +kernel) (by decide +kernel)
  have hrun : execConversionResult 0 0 0 0 false (strayRequest.get .CONV_EPOCH 0) strayRequest = .next u := hu
  obtain rfl := Host.Outcome.next.inj hrun
  have hkept : (conversionResult (strayRequest.atTick 0) 0 0 0 false (strayRequest.get .CONV_EPOCH 0)).get .INJ_N 0 = 1 := by decide +kernel
  have hheld : strayRequest.get .INJ_N 0 = 1 := by decide +kernel
  exact absurd (hkept.symm.trans (hcount.trans (congrArg (· - 1) hheld))) (by decide)

end Sys2Proof.Proofs
end

section
/-! O41: self-calibration and system calibration. -/

namespace Sys2Proof.Proofs

open Machine Laws

section
variable {s : State} {t : Nat} {c : Conv}

/-! ## What a calibration does to its converter -/

theorem partner_ne {c : Nat} : c ≠ partner c := by
  rw [partner]
  split <;> omega

/-- The partner's cover leaves the converter's own state. -/
theorem state_setCovering {b : Bool} : (setCovering s (partner c) b).get .CONV_STATE c = s.get .CONV_STATE c := by
  rw [setCovering]
  split
  · exact get_put_inst s partner_ne
  · rfl

theorem state_cover : (cover s c).get .CONV_STATE c = s.get .CONV_STATE c := by
  rw [cover]
  split
  · rw [get_cutInputs (by decide), state_setCovering]
  · rw [get_setHalfRate (by decide), foldl_keep fun x k => get_cutPorts (by decide), state_setCovering]

theorem state_uncover : (uncover s c).get .CONV_STATE c = convActive := by
  rw [uncover]
  split
  · rw [get_cutInputs (by decide), state_setCovering, get_put_same]
    rfl
  · rw [get_setHalfRate (by decide), foldl_keep fun x k => get_cutPorts (by decide), state_setCovering, get_put_same]
    rfl

/-- What a converter that calibrates shows. -/
theorem calStart_fields : (calStart s c).get .CONV_CAL c = 1 ∧ (calStart s c).get .CONV_STATE c = convCalibrating ∧ (calStart s c).get .CAL_WAIT c = 0 := by
  rw [calStart]
  split
  · refine ⟨?_, ?_, ?_⟩ <;> rw [foldl_keep fun x k => get_avgRestart (by decide)] <;> simp (disch := decide) [convCalibrating]
  · refine ⟨?_, ?_, ?_⟩ <;> simp (disch := decide) [convCalibrating]

theorem calibrate_starts (hn : s.get .INJ_N c = 0) (hb : s.get .CONV_BUSY c ≠ busyInjected) :
    (calibrate s c).get .CONV_CAL c = 1 ∧ (calibrate s c).get .CONV_STATE c = convCalibrating ∧ (calibrate s c).get .CAL_WAIT c = 0 := by
  rw [calibrate, if_neg (not_or.mpr ⟨not_not.mpr hn, hb⟩)]
  dsimp only
  split
  · exact calStart_fields
  · rw [get_cover (by decide), state_cover, get_cover (by decide)]
    exact calStart_fields

theorem calibrate_waits (hn : s.get .INJ_N c ≠ 0) : calibrate s c = s.put .CAL_WAIT c 1 := by
  rw [calibrate, if_pos (.inl hn)]

/-! ## The end of a calibration -/

theorem get_calPairNext_other {r : Reg} {i : Nat} (h : r ≠ .CHK_PAIR_CAL) (hw : r ≠ .CAL_WAIT) : (calPairNext s c).get r i = s.get r i := by
  rw [calPairNext]
  split
  · rw [get_put_reg _ hw, get_put_reg _ h]
  · rfl

theorem isRetired_congr {x : State} {c : Nat} (h : ∀ r ∈ [Reg.AADC_RET, .CADC_RET], x.get r 0 = s.get r 0) : isRetired x c = isRetired s c := by
  rw [isRetired, State.getBit, State.getBit, h _ (by decide), h _ (by decide), isRetired, State.getBit, State.getBit]

/-- A calibration that passes puts its converter back in service. -/
theorem calEnd_serves (hret : isRetired s c = false) : (calEnd s c).get .CONV_CAL c = 0 ∧ (calEnd s c).get .CONV_STATE c = convActive := by
  have hfold : ∀ y r, r ∈ [Reg.CONV_CAL, .AADC_RET, .CADC_RET] → ∀ i, (if isAux c then (servedInputs y (c - 16)).foldl avgRestart y else y).get r i = y.get r i := by
    intro y r hr i
    split
    · simp only [List.mem_cons, List.not_mem_nil, or_false] at hr
      rcases hr with rfl | rfl | rfl <;> exact foldl_keep (fun x k => get_avgRestart (by decide)) _ _
    · rfl
  rw [calEnd]
  generalize hz : (if isAux c then (servedInputs (s.put .CONV_CAL c 0) (c - 16)).foldl avgRestart (s.put .CONV_CAL c 0) else s.put .CONV_CAL c 0) = z
  have hz' : ∀ r ∈ [Reg.CONV_CAL, .AADC_RET, .CADC_RET], ∀ i, z.get r i = (s.put .CONV_CAL c 0).get r i := fun r hr i => hz ▸ hfold _ r hr i
  have hfree : isRetired z c = false := (isRetired_congr fun r hr => by
    rw [hz' r (by simp at hr ⊢; tauto)]
    exact get_put_reg _ (by rintro rfl; simp at hr)).trans hret
  rw [hfree, if_neg (by decide), get_uncover (by decide), hz' _ (by decide), get_put_same]
  exact ⟨rfl, state_uncover⟩

theorem calDone_passes {ofs : Int} {gain code : Nat} (hcal : s.get .CONV_CAL c = 1) (hofs : absN ofs ≤ 512) (hlo : 0x7000 ≤ gain)
    (hhi : gain ≤ 0x9000) (hret : isRetired s c = false) :
    (calDone s c ofs gain code).geti .CAL_OFS c = ofs ∧ (calDone s c ofs gain code).get .CAL_GAIN c = gain ∧
      (calDone s c ofs gain code).get .CHK_CODE c = code % 65536 ∧ (calDone s c ofs gain code).get .CONV_CAL c = 0 ∧
      (calDone s c ofs gain code).get .CONV_STATE c = convActive ∧
      LastEvent (calDone s c ofs gain code) 0x0B05 0x5 noSlot (c + ofSigned 16 ofs * 65536) := by
  have hpass : calDone s c ofs gain code =
      calPairNext (calEnd ((((s.puti .CAL_OFS c ofs).put .CAL_GAIN c gain).put .CHK_CODE c code).post 0x0B05 0x5 noSlot (c + ofSigned 16 ofs * 65536)) c) c := by
    rw [calDone, if_neg (by simp [State.flag, hcal]), if_neg (by omega), if_neg (by omega)]
  rw [hpass]
  generalize hz : (((s.puti .CAL_OFS c ofs).put .CAL_GAIN c gain).put .CHK_CODE c code).post 0x0B05 0x5 noSlot (c + ofSigned 16 ofs * 65536) = z
  have hfree : isRetired z c = false := (isRetired_congr fun r hr => by
    simp only [List.mem_cons, List.not_mem_nil, or_false] at hr
    rcases hr with rfl | rfl <;> simp (disch := decide) [← hz]).trans hret
  obtain ⟨hcal', hstate⟩ := calEnd_serves hfree
  have hofs' : -2 ^ 15 ≤ ofs ∧ ofs < 2 ^ 15 := by
    unfold absN at hofs
    omega
  rw [State.geti]
  simp only [get_calPairNext_other, ne_eq, reduceCtorEq, not_false_eq_true]
  refine ⟨?_, ?_, ?_, hcal', hstate, ?_⟩
  · rw [get_calEnd (by decide), ← hz, get_State_post (by decide), get_put_reg _ (by decide), get_put_reg _ (by decide)]
    exact geti_puti_same (by decide) hofs'.1 hofs'.2
  · rw [get_calEnd (by decide), ← hz, get_State_post (by decide), get_put_reg _ (by decide), get_put_same]
    exact trunc_of_lt (show gain < 2 ^ 16 by omega)
  · rw [get_calEnd (by decide), ← hz, get_State_post (by decide), get_put_same]
    rfl
  · refine lastEvent_of (x := ((s.puti .CAL_OFS c ofs).put .CAL_GAIN c gain).put .CHK_CODE c code) ?_
    rw [se_calPairNext, se_calEnd, hz]
    exact .refl _

theorem calDone_fails {ofs : Int} {gain code : Nat} (hcal : s.get .CONV_CAL c = 1) (hofs : 512 < absN ofs) (hret : isRetired s c = false) :
    (calDone s c ofs gain code).get .CAL_OFS c = s.get .CAL_OFS c ∧ (calDone s c ofs gain code).get .CAL_GAIN c = s.get .CAL_GAIN c ∧
      (calDone s c ofs gain code).get .CAL_FAIL_SEEN c = 1 ∧ (calDone s c ofs gain code).get .CONV_CAL c = 0 ∧
      (calDone s c ofs gain code).get .CONV_STATE c = convRetired ∧ (calDone s c ofs gain code).get .CONV_RET_DUE c = 1 ∧
      Posts s (calDone s c ofs gain code) 0x0B06 0x5 noSlot (c + 256) := by
  have hfail : calDone s c ofs gain code = calPairNext (((((((s.put .CAL_FAIL_SEEN c 1).put .CONV_CALFAIL c 1).post 0x0B06 0x5 noSlot (c + 1 * 256)).put
      .CONV_CAL c 0)).put .CONV_STATE c convRetired).put .CONV_RET_DUE c 1) c := by
    have hfree : isRetired ((((s.put .CAL_FAIL_SEEN c 1).put .CONV_CALFAIL c 1).post 0x0B06 0x5 noSlot (c + 1 * 256)).put .CONV_CAL c 0) c = false :=
      (isRetired_congr fun r hr => by
        simp only [List.mem_cons, List.not_mem_nil, or_false] at hr
        rcases hr with rfl | rfl <;> simp (disch := decide)).trans hret
    rw [calDone, if_neg (by simp [State.flag, hcal]), if_pos hofs, calFail, hfree, if_neg (by decide)]
  rw [Nat.one_mul] at hfail
  rw [hfail]
  simp only [get_calPairNext_other, ne_eq, reduceCtorEq, not_false_eq_true]
  refine ⟨?_, ?_, ?_, ?_, ?_, ?_, ?_⟩
  · simp (disch := decide)
  · simp (disch := decide)
  · simp (disch := decide)
  · rw [get_put_reg _ (by decide), get_put_reg _ (by decide), get_put_same]
    rfl
  · rw [get_put_reg _ (by decide), get_put_same]
    rfl
  · rw [get_put_same]
    rfl
  · rw [posts_iff, se_calPairNext, se_put (by decide), se_put (by decide), se_put (by decide)]
    exact se_post (by simp (disch := decide))

theorem isRetired_setRetiredBit {b : Bool} : isRetired (setRetiredBit s c b) c = b := by
  rw [setRetiredBit]
  by_cases h : isAux c = true
  · have hlt : c.val - 16 < 2 := by omega
    rw [if_pos h, isRetired, if_pos h, getBit_setBit hlt, if_pos rfl]
  · have hlt : c.val < 16 := by
      simpa [isAux] using h
    rw [if_neg h, isRetired, if_neg h, getBit_setBit hlt, if_pos rfl]

theorem convReturn_returns (hret : isRetired s c = true) (hcal : s.get .CONV_CAL c = 0) (hp : s.get .CONV_PASSES c = 16) (hn : s.get .CONV_RET_N c ≤ 1)
    (hf : s.get .CONV_CALFAIL c = 0) (hd : s.get .CONV_EPOCH_DUE c = 0) (hfree : convEpochFree s c = true) (hs : s.get .CONV_STATE c = convRetired) :
    isRetired (convReturn s c) c = false ∧ (convReturn s c).get .CONV_STATE c = convActive ∧ (convReturn s c).get .CONV_PASSES c = 0 ∧
      (convReturn s c).get .CONV_EPOCH c = (s.get .CONV_EPOCH c + 1) % 16 := by
  have hrun : convReturn s c =
      judgeConvRedundancy ((uncover (convEpochAdvance (setRetiredBit (s.put .CONV_PASSES c 0) c false) c) c).post 0x0B02 0x5 noSlot c) := by
    rw [convReturn, if_neg]
    simp [State.flag, hret, hcal, hp, hn, hf, hd, hfree, hs]
  have hkeep : ∀ y r, r ∈ [Reg.CONV_PASSES, .CONV_EPOCH, .AADC_RET, .CADC_RET] → ∀ i,
      (judgeConvRedundancy ((uncover y c).post 0x0B02 0x5 noSlot c)).get r i = y.get r i := by
    intro y r hr i
    simp only [List.mem_cons, List.not_mem_nil, or_false] at hr
    rcases hr with rfl | rfl | rfl | rfl <;> rw [get_judgeConvRedundancy (by decide), get_State_post (by decide), get_uncover (by decide)]
  rw [hrun]
  refine ⟨?_, ?_, ?_, ?_⟩
  · rw [isRetired_congr fun r hr => hkeep _ r (by simp at hr ⊢; tauto) 0]
    exact (isRetired_congr fun r hr => by
      simp only [List.mem_cons, List.not_mem_nil, or_false] at hr
      rcases hr with rfl | rfl <;> simp (disch := decide) [convEpochAdvance]).trans (isRetired_setRetiredBit (s := s.put .CONV_PASSES c 0))
  · rw [get_judgeConvRedundancy (by decide), get_State_post (by decide), state_uncover]
  · rw [hkeep _ _ (by decide), convEpochAdvance, get_put_reg _ (by decide), get_put_reg _ (by decide), get_put_reg _ (by decide), get_countWrap_reg (by decide),
      get_setRetiredBit (by decide), get_put_same]
    rfl
  · rw [hkeep _ _ (by decide), convEpochAdvance, get_put_reg _ (by decide), get_put_reg _ (by decide), get_put_reg _ (by decide), get_countWrap_same,
      get_setRetiredBit (by decide), get_put_reg _ (by decide)]
    rfl

/-! ## System calibration -/

theorem syscalStart_starts {v : Nat} (hc : syscalCheck s (s.get .SYSCAL_CH 0) = 0)
    (hz : v = 2 → s.get .SC_ZERO_OK 0 = 1 ∧ s.get .SC_ZERO_CH 0 = s.get .SYSCAL_CH 0) :
    syscalStart s v = ((s.put .SC_STEP 0 v).put .SC_RUN_CH 0 (s.get .SYSCAL_CH 0), 0) := by
  have hwhy : ¬ (syscalCheck s (s.get .SYSCAL_CH 0) = 0 ∧ v = 2 ∧ ¬ (s.flag .SC_ZERO_OK 0 ∧ s.get .SC_ZERO_CH 0 = s.get .SYSCAL_CH 0)) := by
    rintro ⟨-, hv, hne⟩
    obtain ⟨hok, hch⟩ := hz hv
    exact hne ⟨by simp [State.flag, hok], hch⟩
  rw [syscalStart]
  rw [if_neg hwhy, hc, if_neg (by decide)]

theorem syscalStart_unzeroed (hc : syscalCheck s (s.get .SYSCAL_CH 0) = 0) (hz : s.get .SC_ZERO_OK 0 = 0) :
    syscalStart s 2 = (syscalReject s 2, 2) := by
  have hwhy : syscalCheck s (s.get .SYSCAL_CH 0) = 0 ∧ 2 = 2 ∧ ¬ (s.flag .SC_ZERO_OK 0 ∧ s.get .SC_ZERO_CH 0 = s.get .SYSCAL_CH 0) :=
    ⟨hc, rfl, fun h => by simp [State.flag, hz] at h⟩
  rw [syscalStart, if_pos hwhy, if_pos (by decide)]

theorem syscalChannel_fits {ch : Nat} (h : syscalChannel ch = true) : ch < 128 := by
  simp only [syscalChannel, ainOf, Bool.or_eq_true, Bool.and_eq_true, decide_eq_true_eq] at h
  rcases h with h | ⟨-, h⟩
  · omega
  · split_ifs at h with h1 h2
    · omega
    · omega
    · simp at h

theorem syscalCheck_fits {ch : Nat} (h : syscalCheck s ch = 0) : ch < 128 := by
  refine syscalChannel_fits ?_
  by_contra hch
  rw [syscalCheck, if_pos (by simp [hch])] at h
  exact absurd h (by decide)

theorem slotDisabled_congr {x : State} {i : Nat} (h : x.get .DRIVE_STATE i = s.get .DRIVE_STATE i) : x.slotDisabled i = s.slotDisabled i := by
  rw [State.slotDisabled, State.drive, h, State.slotDisabled, State.drive]

theorem portOwner_congr {x : State} {p : Nat} (h : x.get .PORT_ROLE_DEV p = s.get .PORT_ROLE_DEV p) : x.portOwner p = s.portOwner p := by
  rw [State.portOwner, h, State.portOwner]

theorem syscalCheck_congr {x : State} {ch : Nat} (hrole : ∀ i, x.get .PORT_ROLE_DEV i = s.get .PORT_ROLE_DEV i)
    (hdrive : ∀ i, x.get .DRIVE_STATE i = s.get .DRIVE_STATE i) : syscalCheck x ch = syscalCheck s ch := by
  have howner : x.portOwner ch = s.portOwner ch := portOwner_congr (hrole ch)
  have hoff : x.slotDisabled (s.portOwner ch) = s.slotDisabled (s.portOwner ch) := slotDisabled_congr (hdrive _)
  have haxis : x.isAxisPort ch = s.isAxisPort ch := by rw [State.isAxisPort, howner, State.isAxisPort]
  rw [syscalCheck, howner, hoff, haxis, syscalCheck]

theorem mayCalibrate_congr {x : State} {c : Nat} (hget : ∀ r ∈ [Reg.CONV_CAL, .CONV_STATE, .DRIVE_STATE, .PORT_ROLE_DEV], ∀ i, x.get r i = s.get r i) :
    mayCalibrate x c = mayCalibrate s c := by
  have hidle : portsIdle x c = portsIdle s c := by
    have hoff : x.slotDisabled = s.slotDisabled := funext fun i => slotDisabled_congr (hget _ (by decide) _)
    have hpair : pairSlots x c = pairSlots s c := by
      have howner : x.portOwner = s.portOwner := funext fun i => portOwner_congr (hget _ (by decide) _)
      rw [pairSlots, howner, pairSlots]
    rw [portsIdle, hoff, hpair, portsIdle]
  have hcal : ∀ i, x.flag .CONV_CAL i = s.flag .CONV_CAL i := fun i => congrArg (· != 0) (hget _ (by decide) i)
  have hstate : ∀ i, x.get .CONV_STATE i = s.get .CONV_STATE i := hget _ (by decide)
  simp only [mayCalibrate, convServes, hcal, hstate, hidle]

/-- The number that one byte makes. -/
theorem leVal_single {v : Nat} (h : v < 256) : leVal [v] = v := by
  simp [leVal, Nat.mod_eq_of_lt h]

/-- A commissioning session that takes a step of a system calibration. -/
theorem syscal_runs {path : Path} {v : Nat} (hup : s.get .SEQ_DOWN 0 = 0) (hsdo : path = .can → sdoServed s = true) (hauth : authOn s path.code = 3)
    (hv : v = 1 ∨ v = 2) : viaObject s path (fun a => syscalWrite a (authOn a path.code) [v]) =
      if (syscalStart (served s) v).2 = 0 then (sealedRan (syscalStart (served s) v).1 0x2208 3 [v]).reply 0 []
      else (logRefused (syscalStart (served s) v).1 0x2208 3 v).reply 0x08000022 [] := by
  have hrole : authOn (served s) path.code = 3 := authOn_served.trans hauth
  have hval : leVal [v] = v := leVal_single (by omega)
  have hmay : mayRunSealed (served s) 3 0x2208 3 [v] = true := rfl
  have hrange : (v == 1 || v == 2) = true := by rcases hv with rfl | rfl <;> rfl
  rw [viaObject_run hup hsdo, syscalWrite, hval, hrole, sealedRun, if_neg (by simp), hmay, if_neg (by simp), hrange, if_neg (by simp), hval]
  by_cases h : (syscalStart (served s) v).2 = 0
  · simp [h]
  · simp [h, abState]

theorem get_reply {a : Nat} {d : List Nat} {r : Reg} {i : Nat} (h : r ≠ .ANS_ABORT) : (s.reply a d).get r i = s.get r i := get_put_reg s h

theorem reply_abort {a : Nat} {d : List Nat} (h : a < 2 ^ 32) : (s.reply a d).get .ANS_ABORT 0 = a :=
  (get_put_same s).trans (trunc_of_lt h)

theorem get_served_other {r : Reg} {i : Nat} (h : r ≠ .SEQ_SERVED) : (served s).get r i = s.get r i := by
  rw [served]
  split
  · rfl
  · exact get_put_reg s h

section
variable {path : Path} (hup : s.get .SEQ_DOWN 0 = 0) (hsdo : path = .can → sdoServed s = true) (hauth : authOn s path.code = 3)
  (hc : syscalCheck s (s.get .SYSCAL_CH 0) = 0)
include hup hsdo hauth hc

theorem syscal_starts {v : Nat} (hv : v = 1 ∨ v = 2)
    (hz : v = 2 → s.get .SC_ZERO_OK 0 = 1 ∧ s.get .SC_ZERO_CH 0 = s.get .SYSCAL_CH 0) {u : State}
    (hu : viaObject s path (fun a => syscalWrite a (authOn a path.code) [v]) = u) :
    u.get .ANS_ABORT 0 = 0 ∧ u.get .SC_STEP 0 = v ∧ u.get .SC_RUN_CH 0 = s.get .SYSCAL_CH 0 := by
  have hserved : ∀ r, r ≠ .SEQ_SERVED → ∀ i, (served s).get r i = s.get r i := fun r hr i => get_served_other hr
  have hch : (served s).get .SYSCAL_CH 0 = s.get .SYSCAL_CH 0 := hserved _ (by decide) _
  have hcheck : syscalCheck (served s) ((served s).get .SYSCAL_CH 0) = 0 := by
    rw [hch, syscalCheck_congr (hserved _ (by decide)) (hserved _ (by decide)), hc]
  have hstart := syscalStart_starts (s := served s) (v := v) hcheck fun h => by
    rw [hserved _ (by decide), hserved _ (by decide), hch]
    exact hz h
  have hfits := syscalCheck_fits hc
  rw [← hu, syscal_runs hup hsdo hauth hv, hstart, if_pos rfl]
  refine ⟨reply_abort (by decide), ?_, ?_⟩
  · rw [get_reply (by decide), get_sealedRan (by decide), get_put_reg _ (by decide), get_put_same]
    exact trunc_of_lt (show v < 2 ^ 2 by omega)
  · rw [get_reply (by decide), get_sealedRan (by decide), get_put_same, hch]
    exact trunc_of_lt hfits

theorem syscal_unzeroed (hz : s.get .SC_ZERO_OK 0 = 0) {u : State} (hu : viaObject s path (fun a => syscalWrite a (authOn a path.code) [2]) = u) :
    u.get .ANS_ABORT 0 = 0x08000022 ∧ u.get .SC_STEP 0 = 0 ∧ u.get .SYSCAL_REJ 0 = 1 ∧ u.get .SYSCAL_WHY 0 = 2 := by
  have hch : (served s).get .SYSCAL_CH 0 = s.get .SYSCAL_CH 0 := get_served_other (by decide)
  have hcheck : syscalCheck (served s) ((served s).get .SYSCAL_CH 0) = 0 := by
    rw [hch, syscalCheck_congr (fun i => get_served_other (by decide)) (fun i => get_served_other (by decide)), hc]
  have hstart := syscalStart_unzeroed (s := served s) hcheck ((get_served_other (by decide)).trans hz)
  rw [← hu, syscal_runs hup hsdo hauth (.inr rfl), hstart, if_neg (show ¬ (2 = 0) by decide)]
  refine ⟨reply_abort (by decide), ?_, ?_, ?_⟩
  · rw [get_reply (by decide), get_logRefused (by decide), syscalReject, get_State_post (by decide), get_put_same]
    rfl
  · rw [get_reply (by decide), get_logRefused (by decide), syscalReject, get_State_post (by decide), get_put_reg _ (by decide), get_put_reg _ (by decide), get_put_same]
    rfl
  · rw [get_reply (by decide), get_logRefused (by decide), syscalReject, get_State_post (by decide), get_put_reg _ (by decide), get_put_same]
    rfl

end

section
variable {code : Int}

theorem syscalDone_zero (hstep : s.get .SC_STEP 0 = 1) (hc : syscalCheck s (s.get .SC_RUN_CH 0) = 0) (hcode : absN code ≤ 1024) :
    (syscalDone s code false).geti .SC_ZERO 0 = code ∧ (syscalDone s code false).get .SC_ZERO_OK 0 = 1 ∧
      (syscalDone s code false).get .SC_ZERO_CH 0 = s.get .SC_RUN_CH 0 ∧ (syscalDone s code false).get .SC_STEP 0 = 0 := by
  have hfits := syscalCheck_fits hc
  have hrange : -2 ^ 15 ≤ code ∧ code < 2 ^ 15 := by
    unfold absN at hcode
    omega
  have hrun : syscalDone s code false = (((s.put .SC_STEP 0 0).put .SC_ZERO_OK 0 1).put .SC_ZERO_CH 0 (s.get .SC_RUN_CH 0)).puti .SC_ZERO 0 code := by
    simp only [syscalDone, hstep]
    rw [if_neg (show ¬ 1 = 2 by decide), if_neg (by decide), if_neg (by decide), hc, if_neg (not_not.mpr rfl), if_pos trivial, if_neg (by omega)]
  rw [hrun]
  refine ⟨geti_puti_same (by decide) hrange.1 hrange.2, ?_, ?_, ?_⟩
  · rw [get_puti_reg (by decide), get_put_reg _ (by decide), get_put_same]
    rfl
  · rw [get_puti_reg (by decide), get_put_same]
    exact trunc_of_lt hfits
  · rw [get_puti_reg (by decide), get_put_reg _ (by decide), get_put_reg _ (by decide), get_put_same]
    rfl

theorem syscalReject_fields {w : Nat} (hw : w < 16) : (syscalReject s w).get .SC_STEP 0 = 0 ∧ (syscalReject s w).get .SYSCAL_REJ 0 = 1 ∧
    (syscalReject s w).get .SYSCAL_WHY 0 = w ∧ Posts s (syscalReject s w) 0x0B07 0x5 noSlot w := by
  rw [syscalReject]
  refine ⟨?_, ?_, ?_, posts_of (by simp (disch := decide)) rfl⟩
  · rw [get_State_post (by decide), get_put_same]
    rfl
  · rw [get_State_post (by decide), get_put_reg _ (by decide), get_put_reg _ (by decide), get_put_same]
    rfl
  · rw [get_State_post (by decide), get_put_reg _ (by decide), get_put_same]
    exact trunc_of_lt hw

theorem syscalDone_bad (hstep : s.get .SC_STEP 0 ≠ 0) :
    (syscalDone s code true).get .SC_STEP 0 = 0 ∧ (syscalDone s code true).get .SYSCAL_REJ 0 = 1 ∧ (syscalDone s code true).get .SYSCAL_WHY 0 = 5 ∧
      Posts s (syscalDone s code true) 0x0B07 0x5 noSlot 5 := by
  have hrun : syscalDone s code true = syscalReject (if s.get .SC_STEP 0 = 2 then s.put .SC_ZERO_OK 0 0 else s) 5 := by
    simp only [syscalDone]
    rw [if_neg hstep, if_pos trivial]
  have hs : SameEvents s (if s.get .SC_STEP 0 = 2 then s.put .SC_ZERO_OK 0 0 else s) := by
    split
    · simp (disch := decide)
    · exact .refl s
  obtain ⟨h1, h2, h3, h4⟩ := syscalReject_fields (s := if s.get .SC_STEP 0 = 2 then s.put .SC_ZERO_OK 0 0 else s) (show 5 < 16 by decide)
  rw [hrun]
  exact ⟨h1, h2, h3, posts_iff.mpr ((SameEvents.post hs).trans (posts_iff.mp h4))⟩

theorem storeCoef_port {k : Nat} {ofs : Int} {gain : Nat} (hk : k < 16) :
    storeCoef s (2 * k) ofs gain = (s.puti .SYS_OFS_A k ofs).put .SYS_GAIN_A k gain := by
  rw [storeCoef, if_pos (by omega), if_pos (by omega), Nat.mul_div_cancel_left k (by decide)]

theorem syscalDone_gain {k : Nat} (hstep : s.get .SC_STEP 0 = 2) (hk : k < 16) (hch : s.get .SC_RUN_CH 0 = 2 * k) (hc : syscalCheck s (2 * k) = 0)
    (hne : code ≠ s.geti .SC_ZERO 0) (hlo : 0x6000 ≤ rdiv (0x8000 * s.get .SYSCAL_TARGET 0) (code - s.geti .SC_ZERO 0))
    (hhi : rdiv (0x8000 * s.get .SYSCAL_TARGET 0) (code - s.geti .SC_ZERO 0) ≤ 0xA000) :
    (syscalDone s code false).geti .SYS_OFS_A k = s.geti .SC_ZERO 0 ∧
      (syscalDone s code false).get .SYS_GAIN_A k = (rdiv (0x8000 * s.get .SYSCAL_TARGET 0) (code - s.geti .SC_ZERO 0)).toNat ∧
      (syscalDone s code false).get .SC_STEP 0 = 0 ∧ (syscalDone s code false).get .SC_ZERO_OK 0 = 0 := by
  have hzero : (s.put .SC_ZERO_OK 0 0).geti .SC_ZERO 0 = s.geti .SC_ZERO 0 := congrArg (toSigned _) (get_put_reg s (by decide))
  have htarget : (s.put .SC_ZERO_OK 0 0).get .SYSCAL_TARGET 0 = s.get .SYSCAL_TARGET 0 := get_put_reg s (by decide)
  have hcheck : syscalCheck (s.put .SC_ZERO_OK 0 0) (2 * k) = 0 :=
    (syscalCheck_congr (fun i => get_put_reg s (by decide)) (fun i => get_put_reg s (by decide))).trans hc
  generalize hz : s.geti .SC_ZERO 0 = z at *
  generalize hg : rdiv (0x8000 * s.get .SYSCAL_TARGET 0) (code - z) = g at *
  generalize hx : ((((s.put .SC_ZERO_OK 0 0).puti .SYS_OFS_A k z).put .SYS_GAIN_A k g.toNat).put .SC_STEP 0 0) = x
  have hrun : syscalDone s code false = (x.post 0x0B05 0x5 noSlot (convOfChannel x (2 * k) + 256 + ofSigned 16 z * 65536)).record 0x0E 0 deviceActor
      (2 * k) (ofSigned 16 z + g.toNat * 65536) := by
    simp only [syscalDone, hstep, hch]
    rw [if_neg (by decide), if_neg (by decide), if_pos trivial, hcheck, if_neg (not_not.mpr rfl), if_neg (by decide), hzero, if_neg hne, htarget, hg,
      if_neg (by omega), storeCoef_port hk, hx]
  have hkeep : ∀ r ∈ [Reg.SYS_OFS_A, .SYS_GAIN_A, .SC_STEP, .SC_ZERO_OK], ∀ i, (syscalDone s code false).get r i = x.get r i := by
    intro r hr i
    simp only [List.mem_cons, List.not_mem_nil, or_false] at hr
    rcases hr with rfl | rfl | rfl | rfl <;> rw [hrun, get_State_record (by decide), get_State_post (by decide)]
  have hrange := toSigned_range (w := 16) (v := s.get .SC_ZERO 0) (by decide)
  have hz' : toSigned 16 (s.get .SC_ZERO 0) = z := hz
  rw [hz'] at hrange
  rw [State.geti, hkeep _ (by decide), hkeep _ (by decide), hkeep _ (by decide), hkeep _ (by decide), ← hx]
  refine ⟨?_, ?_, ?_, ?_⟩
  · rw [get_put_reg _ (by decide), get_put_reg _ (by decide)]
    exact geti_puti_same (by decide) hrange.1 hrange.2
  · rw [get_put_reg _ (by decide), get_put_same]
    exact trunc_of_lt (show g.toNat < 2 ^ 16 by omega)
  · rw [get_put_same]
    rfl
  · rw [get_put_reg _ (by decide), get_put_reg _ (by decide), get_puti_reg (by decide), get_put_same]
    rfl

end

/-! ## Calibrations that fall due -/

/-- The state in which a periodic calibration has fallen due: the next one is an interval later. -/
def calibrationTaken (s : State) (c : Nat) : State :=
  (s.put .CAL_TICK c (s.get .CAL_TICK c + calIntervalTicks s)).put .CAL_ROTATED c 1

theorem get_calibrationTaken {r : Reg} {i : Nat} (ht : r ≠ .CAL_TICK) (hr : r ≠ .CAL_ROTATED) : (calibrationTaken s c).get r i = s.get r i := by
  rw [calibrationTaken, get_put_reg _ hr, get_put_reg _ ht]

theorem dv_calibrationTaken {r : Reg} {i : Nat} : (calibrationTaken s c).dv r i = s.dv r i := by
  rw [calibrationTaken, dv_put, dv_put]

theorem intervalTicks_eq (hdv : s.dv .CAL_INTERVAL 0 = s.get .CAL_INTERVAL 0) : calIntervalTicks s = s.get .CAL_INTERVAL 0 * 160000000 := by
  rw [calIntervalTicks, hdv, show ticksPerSecond = 160000000 from rfl]

section
variable (hi : s.get .CAL_INTERVAL 0 ≠ 0) (hdv : s.dv .CAL_INTERVAL 0 = s.get .CAL_INTERVAL 0)
include hi hdv

theorem calibrationDue_runs (hrot : s.get .CAL_ROTATED c = 1) (hdue : s.get .CAL_TICK c + calIntervalTicks s ≤ s.ts) :
    calibrationDue s c = if mayCalibrate s c then calibrate (calibrationTaken s c) c
      else ((calibrationTaken s c).count .CAL_DEFER 0).put .CAL_WAIT c 1 := by
  have htick : calDueTick s c = s.get .CAL_TICK c + calIntervalTicks s := by
    rw [calDueTick, if_pos (by simp [State.flag, hrot])]
  have hon : (s.dv .CAL_INTERVAL 0 == 0) = false := by simp [hdv, hi]
  have hmay : mayCalibrate (calibrationTaken s c) c = mayCalibrate s c := mayCalibrate_congr fun r hr i =>
    get_calibrationTaken (by rintro rfl; simp at hr) (by rintro rfl; simp at hr)
  have hsame : (calibrationTaken s c).get .CAL_INTERVAL 0 = (calibrationTaken s c).dv .CAL_INTERVAL 0 :=
    (get_calibrationTaken (by decide) (by decide)).trans (dv_calibrationTaken.trans hdv).symm
  have hwait : ¬ ((!false && decide (s.ts < s.get .CAL_TICK c + calIntervalTicks s)) = true) := by
    rw [decide_eq_false (Nat.not_lt.mpr hdue)]
    decide
  have hx : (if false = true then s else (s.put .CAL_TICK c (s.get .CAL_TICK c + calIntervalTicks s)).put .CAL_ROTATED c 1) = calibrationTaken s c := by
    rw [if_neg (by decide), calibrationTaken]
  rw [← hmay, calibrationDue, htick, hon, if_neg hwait, hx]
  simp only [if_pos hsame]
  rw [if_neg (by decide)]

theorem calibrationDue_early (hrot : s.get .CAL_ROTATED c = 0) (hearly : s.ts < s.get .CAL_TICK c + calIntervalTicks s * (c.val + 1) / 18) :
    calibrationDue s c = s := by
  have htick : calDueTick s c = s.get .CAL_TICK c + calIntervalTicks s * (c.val + 1) / 18 := by
    rw [calDueTick, if_neg (by simp [State.flag, hrot])]
  rw [calibrationDue, htick, if_pos]
  simp [hdv, hi, hearly]

end

theorem calibrationDue_off (hi : s.get .CAL_INTERVAL 0 = 0) (hdv : s.dv .CAL_INTERVAL 0 = 0) : calibrationDue s c = s := by
  simp [calibrationDue, hdv, hi]

end

section
variable {s : State} {t : Nat} {c : Conv}

theorem mayCalibrate_atTick : mayCalibrate (s.atTick t) c = mayCalibrate s c := mayCalibrate_congr fun _ _ _ => get_atTick _

theorem intervalTicks_atTick : calIntervalTicks (s.atTick t) = calIntervalTicks s := by
  rw [calIntervalTicks, dv_atTick, calIntervalTicks]

section
variable (hi : s.get .CAL_INTERVAL 0 ≠ 0) (hdv : s.dv .CAL_INTERVAL 0 = s.get .CAL_INTERVAL 0)
include hi hdv

theorem periodic_starts (hrot : s.get .CAL_ROTATED c = 1) (hdue : s.get .CAL_TICK c + calIntervalTicks s ≤ s.ts) (hmay : mayCalibrate s c = true)
    (hn : s.get .INJ_N c = 0) (hb : s.get .CONV_BUSY c ≠ busyInjected) :
    (calibrationDue s c).get .CONV_CAL c = 1 ∧ (calibrationDue s c).get .CONV_STATE c = convCalibrating ∧
      (calibrationDue s c).get .CAL_TICK c = (s.get .CAL_TICK c + calIntervalTicks s) % 2 ^ 64 := by
  obtain ⟨hcal, hstate, -⟩ := calibrate_starts (s := calibrationTaken s c) (c := c) (by rwa [get_calibrationTaken (by decide) (by decide)])
    (by rwa [get_calibrationTaken (by decide) (by decide)])
  rw [calibrationDue_runs hi hdv hrot hdue, if_pos hmay]
  refine ⟨hcal, hstate, ?_⟩
  rw [get_calibrate (by decide), calibrationTaken, get_put_reg _ (by decide), get_put_same]
  rfl

theorem periodic_deferred (hrot : s.get .CAL_ROTATED c = 1) (hdue : s.get .CAL_TICK c + calIntervalTicks s ≤ s.ts) (hmay : mayCalibrate s c = false) :
    (calibrationDue s c).get .CONV_CAL c = s.get .CONV_CAL c ∧ (calibrationDue s c).get .CAL_DEFER 0 = min (s.get .CAL_DEFER 0 + 1) 65535 ∧
      (calibrationDue s c).get .CAL_TICK c = (s.get .CAL_TICK c + calIntervalTicks s) % 2 ^ 64 := by
  rw [calibrationDue_runs hi hdv hrot hdue, if_neg (by simp [hmay])]
  refine ⟨?_, ?_, ?_⟩
  · rw [get_put_reg _ (by decide), get_count_reg (by decide), get_calibrationTaken (by decide) (by decide)]
  · rw [get_put_reg _ (by decide), get_count, get_calibrationTaken (by decide) (by decide)]
    rfl
  · rw [get_put_reg _ (by decide), get_count_reg (by decide), calibrationTaken, get_put_reg _ (by decide), get_put_same]
    rfl

end

/-! ## The commands -/

theorem selfCalibration_passes {ofs : Int} {gain code : Nat} (hcal : s.get .CONV_CAL c = 1) (hofs : absN ofs ≤ 512) (hlo : 0x7000 ≤ gain)
    (hhi : gain ≤ 0x9000) (hret : isRetired s c = false) : Completes (.selfCalibrationDone t c ofs gain code) s fun u =>
      u.geti .CAL_OFS c = ofs ∧ u.get .CAL_GAIN c = gain ∧ u.get .CHK_CODE c = code % 65536 ∧ u.get .CONV_CAL c = 0 ∧
      u.get .CONV_STATE c = convActive ∧ LastEvent u 0x0B05 0x5 noSlot (c + ofSigned 16 ofs * 65536) := by
  have hret' : isRetired (s.atTick t) c = false := (isRetired_congr fun _ _ => get_atTick _).trans hret
  have hcal' : (s.atTick t).get .CONV_CAL c = 1 := (get_atTick s).trans hcal
  exact next_completes rfl (calDone_passes hcal' hofs hlo hhi hret')

theorem selfCalibration_fails {ofs : Int} {gain code : Nat} (hcal : s.get .CONV_CAL c = 1) (hofs : 512 < absN ofs) (hret : isRetired s c = false) :
    Completes (.selfCalibrationDone t c ofs gain code) s fun u =>
      u.get .CAL_OFS c = s.get .CAL_OFS c ∧ u.get .CAL_GAIN c = s.get .CAL_GAIN c ∧ u.get .CAL_FAIL_SEEN c = 1 ∧
      u.get .CONV_CAL c = 0 ∧ u.get .CONV_STATE c = convRetired ∧ u.get .CONV_RET_DUE c = 1 ∧
      Posts (s.atTick t) u 0x0B06 0x5 noSlot (c + 256) := by
  have hret' : isRetired (s.atTick t) c = false := (isRetired_congr fun _ _ => get_atTick _).trans hret
  have hcal' : (s.atTick t).get .CONV_CAL c = 1 := (get_atTick s).trans hcal
  have h := calDone_fails (gain := gain) (code := code) hcal' hofs hret'
  rw [get_atTick, get_atTick] at h
  exact next_completes rfl h

theorem converterReturn_returns (hret : isRetired s c = true) (hcal : s.get .CONV_CAL c = 0) (hp : s.get .CONV_PASSES c = 16) (hn : s.get .CONV_RET_N c ≤ 1)
    (hf : s.get .CONV_CALFAIL c = 0) (hd : s.get .CONV_EPOCH_DUE c = 0) (hfree : convEpochFree (s.atTick t) c = true)
    (hs : s.get .CONV_STATE c = convRetired) : Completes (.converterReturn t c) s fun u =>
      isRetired u c = false ∧ u.get .CONV_STATE c = convActive ∧ u.get .CONV_PASSES c = 0 ∧ u.get .CONV_EPOCH c = (s.get .CONV_EPOCH c + 1) % 16 := by
  have hret' : isRetired (s.atTick t) c = true := (isRetired_congr fun _ _ => get_atTick _).trans hret
  rw [← get_atTick s (t := t)] at hcal hp hn hf hd hs
  have h := convReturn_returns hret' hcal hp hn hf hd hfree hs
  rw [get_atTick] at h
  exact next_completes rfl h

section
variable (hi : s.get .CAL_INTERVAL 0 ≠ 0) (hdv : s.dv .CAL_INTERVAL 0 = s.get .CAL_INTERVAL 0)
include hi hdv

theorem periodicCalibration_starts (hrot : s.get .CAL_ROTATED c = 1) (hdue : s.get .CAL_TICK c + s.get .CAL_INTERVAL 0 * 160000000 ≤ (s.atTick t).ts)
    (hmay : mayCalibrate s c = true) (hn : s.get .INJ_N c = 0) (hb : s.get .CONV_BUSY c ≠ busyInjected) :
    Completes (.periodicCalibrationDue t c) s fun u =>
      u.get .CONV_CAL c = 1 ∧ u.get .CONV_STATE c = convCalibrating ∧
      u.get .CAL_TICK c = (s.get .CAL_TICK c + s.get .CAL_INTERVAL 0 * 160000000) % 2 ^ 64 := by
  rw [← intervalTicks_eq hdv, ← intervalTicks_atTick (t := t)] at hdue ⊢
  rw [← get_atTick s (t := t)] at hi hrot hdue hn hb ⊢
  rw [← dv_atTick s (t := t), ← get_atTick s (t := t)] at hdv
  exact next_completes rfl (periodic_starts hi hdv hrot hdue (mayCalibrate_atTick.trans hmay) hn hb)

theorem periodicCalibration_deferred (hrot : s.get .CAL_ROTATED c = 1) (hdue : s.get .CAL_TICK c + s.get .CAL_INTERVAL 0 * 160000000 ≤ (s.atTick t).ts)
    (hmay : mayCalibrate s c = false) : Completes (.periodicCalibrationDue t c) s fun u =>
      u.get .CONV_CAL c = s.get .CONV_CAL c ∧ u.get .CAL_DEFER 0 = min (s.get .CAL_DEFER 0 + 1) 65535 ∧
      u.get .CAL_TICK c = (s.get .CAL_TICK c + s.get .CAL_INTERVAL 0 * 160000000) % 2 ^ 64 := by
  rw [← intervalTicks_eq hdv, ← intervalTicks_atTick (t := t)] at hdue ⊢
  rw [← get_atTick s (t := t) (r := .CAL_TICK)] at hdue ⊢
  rw [← get_atTick s (t := t)] at hi hrot
  rw [← dv_atTick s (t := t), ← get_atTick s (t := t)] at hdv
  have h := periodic_deferred hi hdv hrot hdue (mayCalibrate_atTick.trans hmay)
  rw [get_atTick, get_atTick] at h
  exact next_completes rfl h

theorem periodicCalibration_early (hrot : s.get .CAL_ROTATED c = 0)
    (hearly : (s.atTick t).ts < s.get .CAL_TICK c + s.get .CAL_INTERVAL 0 * 160000000 * (c.val + 1) / 18) :
    Completes (.periodicCalibrationDue t c) s fun u => u = s.atTick t := by
  rw [← intervalTicks_eq hdv, ← intervalTicks_atTick (t := t)] at hearly
  rw [← get_atTick s (t := t)] at hi hrot hearly
  rw [← dv_atTick s (t := t), ← get_atTick s (t := t)] at hdv
  exact next_completes rfl (calibrationDue_early hi hdv hrot hearly)

end

theorem deferredCalibration_starts (hw : s.get .CAL_WAIT c = 1) (hmay : mayCalibrate s c = true) (hn : s.get .INJ_N c = 0)
    (hb : s.get .CONV_BUSY c ≠ busyInjected) : Completes (.calibrationDeferredStart t c) s fun u =>
      u.get .CONV_CAL c = 1 ∧ u.get .CONV_STATE c = convCalibrating ∧ u.get .CAL_WAIT c = 0 := by
  rw [← get_atTick s (t := t)] at hw hn hb
  refine completes_eq rfl (if_pos ⟨?_, hn, hb, mayCalibrate_atTick.trans hmay⟩) (calibrate_starts hn hb)
  simp [State.flag, hw]

theorem syscalAverage_zero {code : Int} (hstep : s.get .SC_STEP 0 = 1) (hc : syscalCheck s (s.get .SC_RUN_CH 0) = 0) (hcode : absN code ≤ 1024) :
    Completes (.syscalAverageDone t code false) s fun u =>
      u.geti .SC_ZERO 0 = code ∧ u.get .SC_ZERO_OK 0 = 1 ∧ u.get .SC_ZERO_CH 0 = s.get .SC_RUN_CH 0 ∧ u.get .SC_STEP 0 = 0 := by
  rw [← get_atTick s (t := t)] at hstep hc ⊢
  rw [← syscalCheck_congr (fun _ => get_atTick s (t := t)) (fun _ => get_atTick s)] at hc
  exact next_completes rfl (syscalDone_zero hstep hc hcode)

theorem syscalAverage_gain {code : Int} {k : Nat} (hstep : s.get .SC_STEP 0 = 2) (hk : k < 16) (hch : s.get .SC_RUN_CH 0 = 2 * k)
    (hc : syscalCheck s (2 * k) = 0) (hne : code ≠ s.geti .SC_ZERO 0)
    (hlo : 0x6000 ≤ rdiv (0x8000 * s.get .SYSCAL_TARGET 0) (code - s.geti .SC_ZERO 0))
    (hhi : rdiv (0x8000 * s.get .SYSCAL_TARGET 0) (code - s.geti .SC_ZERO 0) ≤ 0xA000) :
    Completes (.syscalAverageDone t code false) s fun u =>
      u.geti .SYS_OFS_A k = s.geti .SC_ZERO 0 ∧
      u.get .SYS_GAIN_A k = (rdiv (0x8000 * s.get .SYSCAL_TARGET 0) (code - s.geti .SC_ZERO 0)).toNat ∧
      u.get .SC_STEP 0 = 0 ∧ u.get .SC_ZERO_OK 0 = 0 := by
  rw [← geti_atTick (s := s) (t := t)] at hne hlo hhi ⊢
  rw [← get_atTick s (t := t)] at hstep hch hlo hhi ⊢
  rw [← syscalCheck_congr (fun _ => get_atTick s (t := t)) (fun _ => get_atTick s)] at hc
  exact next_completes rfl (syscalDone_gain hstep hk hch hc hne hlo hhi)

end

/-- Settles O41: a calibration starts where it may, its result is taken or retires its converter, and the two steps of a system
calibration store the offset and the gain of a channel. -/
theorem calibration : Obligations.Calibration := by
  refine ⟨fun t c ofs gain code s hcal hofs hlo hhi hret => selfCalibration_passes hcal hofs hlo hhi hret,
    fun t c ofs gain code s hcal hofs hret => selfCalibration_fails hcal hofs hret,
    fun t c ofs gain code s hcal => next_completes rfl (if_pos (by simp [State.flag, hcal])),
    fun t c s hret hcal hp hn hf hd hfree hs => converterReturn_returns hret hcal hp hn hf hd hfree hs, fun t c s hp => ?_,
    fun t c s hi hdv hrot hdue hmay hn hb => periodicCalibration_starts hi hdv hrot hdue hmay hn hb,
    fun t c s hi hdv hrot hdue hmay => periodicCalibration_deferred hi hdv hrot hdue hmay,
    fun t c s hi hdv hrot hearly => periodicCalibration_early hi hdv hrot hearly, fun t c s hi hdv => ?_,
    fun t c s hw hmay hn hb => deferredCalibration_starts hw hmay hn hb,
    fun t c s hw => next_completes rfl (if_neg (by simp [State.flag, hw])), fun c s hmay hn hb => ?_, fun c s hmay hn => ?_, fun c s hmay => ?_,
    fun path s hup hsdo hauth hc => next_completes rfl (syscal_starts hup hsdo hauth hc (.inl rfl) (by simp) rfl),
    fun path s hup hsdo hauth hc hok hch => next_completes rfl (syscal_starts hup hsdo hauth hc (.inr rfl) (fun _ => ⟨hok, hch⟩) rfl),
    fun path s hup hsdo hauth hc hok => next_completes rfl (syscal_unzeroed hup hsdo hauth hc hok rfl),
    fun t code s hstep hc hcode => syscalAverage_zero hstep hc hcode, fun t code s hstep => next_completes rfl (syscalDone_bad (by rwa [get_atTick])),
    fun t code k s hstep hk hch hc hne hlo hhi => syscalAverage_gain hstep hk hch hc hne hlo hhi⟩
  · exact next_completes rfl (if_pos (.inr (.inr (.inl (by rwa [get_atTick])))))
  · refine completes_eq rfl (calibrationDue_off (by rwa [get_atTick]) (by rwa [dv_atTick])) ?_
    rw [get_atTick, get_atTick]
    exact ⟨rfl, rfl⟩
  · have h := calibrate_starts (s := s) (c := c) hn hb
    exact completes_eq rfl (t := calibrate s c) (congrArg Prod.fst (if_pos hmay)) ⟨h.1, h.2.1⟩
  · refine completes_eq rfl (t := s.put .CAL_WAIT c 1) ((congrArg Prod.fst (if_pos hmay)).trans (calibrate_waits hn)) ?_
    exact ⟨get_put_same _, get_put_reg _ (by decide)⟩
  · refine completes_eq rfl (t := s.put .CAL_REJ c 1) (congrArg Prod.fst (if_neg (by simp [hmay]))) ?_
    exact ⟨get_put_same _, get_put_reg _ (by decide)⟩

end Sys2Proof.Proofs
end

section
/-! O42: the sensors. -/

namespace Sys2Proof.Proofs

open Machine Laws

/-- Sensor 16 is substituted and has passed its fifty checks; its reading, a field of 16 bits, holds a bit beyond them. -/
def overwideReading : State :=
  { State.reset with regs := [(Reg.key .SNS_STATE 16, snsSubstituted), (Reg.key .SNS_PASSES 16, 50), (Reg.key .RAW 16, 2 ^ 16 + 1)] }

/-- Refutes O42: nothing in the statement asks that a field held fits its width. In `overwideReading` the recovered sensor accepts the 16
bits of its reading that a field keeps, where the statement has T_ACC be all that RAW holds. -/
theorem not_sensors : ¬ Obligations.Sensors := by
  unfold Obligations.Sensors
  rintro ⟨-, -, -, -, -, -, -, -, -, -, -, -, -, -, -, hrecovered, -⟩
  obtain ⟨u, hu, -, -, hacc, -⟩ := hrecovered 0 16 overwideReading (by decide +kernel) (by decide +kernel)
  have hrun : execThmRecovered 0 16 overwideReading = .next u := hu
  obtain rfl := Host.Outcome.next.inj hrun
  have hkept : (sensorRecovered (overwideReading.atTick 0) 16).get .T_ACC 16 = 1 := by decide +kernel
  have hheld : overwideReading.get .RAW 16 = 2 ^ 16 + 1 := by decide +kernel
  exact absurd (hkept.symm.trans (hacc.trans hheld)) (by decide)

end Sys2Proof.Proofs
end

section
/-! O43 and O44: the gate-drive budget, and the vote on a strip. -/

namespace Sys2Proof.Proofs

open Machine Laws

/-- The budget of the gate drive, a field of 12 bits, holds a bit beyond them. -/
def overwideBudget : State := { State.reset with regs := [(Reg.key .GD_BUDGET 0, 2 ^ 12)] }

/-- Refutes O43: nothing in the statement asks that a field held fits its width. In `overwideBudget` the evaluation develops the 12 bits of
GD_BUDGET that a field keeps, where the statement has it develop all that GD_BUDGET holds. -/
theorem not_throttleAndBudget : ¬ Obligations.ThrottleAndBudget := by
  unfold Obligations.ThrottleAndBudget
  rintro ⟨-, -, hwithin, -⟩
  obtain ⟨u, hu, -, -, hbudget⟩ := hwithin 0 overwideBudget (by decide +kernel) (by decide +kernel)
  have hrun : execBudgetEvaluation 0 overwideBudget = .next u := hu
  obtain rfl := Host.Outcome.next.inj hrun
  have hkept : (budgetEvaluation (overwideBudget.atTick 0)).dv .GD_BUDGET 0 = 0 := by decide +kernel
  have hheld : overwideBudget.get .GD_BUDGET 0 = 2 ^ 12 := by decide +kernel
  exact absurd (hkept.symm.trans (hbudget.trans hheld)) (by decide)

/-- A strip of slot 0 waits for its vote, and its spare, a field of 4 bits, holds a bit beyond them. -/
def overwideSpare : State :=
  { State.reset with regs := [(Reg.key .STRIP_ACTIVE 0, 1), (Reg.key .STRIP_VOTE 0, 1), (Reg.key .STRIP_ENG 0, 2 ^ 4)] }

/-- Refutes O44: nothing in the statement asks that a field held fits its width. In `overwideSpare` the vote sends the slot to the engine of
the 4 bits of STRIP_ENG that a field keeps, where the statement has it go to all that STRIP_ENG holds. -/
theorem not_enginesAndStrips : ¬ Obligations.EnginesAndStrips := by
  unfold Obligations.EnginesAndStrips
  rintro ⟨-, -, -, -, -, hvote, -⟩
  obtain ⟨u, hu, -, -, htarget, -⟩ := hvote 0 overwideSpare (by decide +kernel) (by decide +kernel)
  have hrun : execVoteReplayDone 0 0 overwideSpare = .next u := hu
  obtain rfl := Host.Outcome.next.inj hrun
  have hkept : (voteDone (overwideSpare.atTick 0) 0).get .MIG_TARGET (overwideSpare.get .STRIP_SLOT 0) = 0 := by decide +kernel
  have hheld : overwideSpare.get .STRIP_ENG 0 = 2 ^ 4 := by decide +kernel
  exact absurd (hkept.symm.trans (htarget.trans hheld)) (by decide)

end Sys2Proof.Proofs
end

section
/-! O48, O52, O53 and O56: LSS, the link's cycles and lanes, and the diagnosis commands. -/

namespace Sys2Proof.Proofs

open Machine Laws

/-- The node is in LSS configuration with NET on, and the node ID to be stored, a field of 8 bits, holds a bit beyond them. -/
def overwideNode : State :=
  { State.reset with regs := [(Reg.key .LSS_MODE 0, 1), (Reg.key .DOM_ON 0, 0xFFF), (Reg.key .NODE_ID_NEXT 0, 2 ^ 8)] }

/-- Refutes O48: nothing in the statement asks that a field held fits its width. In `overwideNode` the store keeps the 8 bits of
NODE_ID_NEXT that a field keeps, where the statement has it keep all that NODE_ID_NEXT holds. -/
theorem not_layerSettings : ¬ Obligations.LayerSettings := by
  unfold Obligations.LayerSettings
  rintro ⟨-, -, -, -, -, -, -, -, -, -, hstore, -⟩
  obtain ⟨u, hu, hstored, -⟩ := hstore 0 0 overwideNode (by decide +kernel) (by decide +kernel) (by decide +kernel)
  have hrun : execLssStoreConfiguration 0 0 overwideNode = .next u := hu
  obtain rfl := Host.Outcome.next.inj hrun
  have hkept : (lssFrame (overwideNode.atTick 0) 0 [0x17] lssStore).get .NODE_ID_LSS 0 = 0 := by decide +kernel
  have hheld : overwideNode.get .NODE_ID_NEXT 0 = 2 ^ 8 := by decide +kernel
  exact absurd (hkept.symm.trans (hstored.trans hheld)) (by decide)

/-- A manager in a closed ring whose device 1 runs; that device's mark of a fresh part, a flag, is set with the value 2. -/
def freshMarkTwo : State :=
  { State.reset with regs := [(Reg.key .LINK_EN 0, 1), (Reg.key .ROLE_ACT 0, 1), (Reg.key .LINK_STATE 0, 3), (Reg.key .DEV_STATE 1, 1),
      (Reg.key .DEV_FRESH 1, 2)] }

/-- Refutes O52: a flag is set where it is not 0, and the statement takes it as set where it is 1. In `freshMarkTwo` the cycle start takes
device 1's mark as set and counts no miss, where the statement has it count one. -/
theorem not_linkCycles : ¬ Obligations.LinkCycles := by
  unfold Obligations.LinkCycles
  rintro ⟨-, hcycle, -⟩
  obtain ⟨u, hu, -, -, -, hmiss⟩ := hcycle freshMarkTwo (by decide +kernel) (by decide +kernel) (by decide +kernel)
  have hrun : execLinkCycleStart freshMarkTwo = .next u := hu
  obtain rfl := Host.Outcome.next.inj hrun
  have hcount := hmiss 1 (by decide) (by decide +kernel)
  have hnone : (cycleStart freshMarkTwo).get .DEV_MISS 1 = 0 := by decide +kernel
  have hone : (if freshMarkTwo.get .DEV_FRESH 1 = 1 then freshMarkTwo.get .DEV_MISS 1 else min 15 (freshMarkTwo.get .DEV_MISS 1 + 1)) = 1 := by
    decide +kernel
  exact absurd (hnone.symm.trans (hcount.trans hone)) (by decide)

/-- Lane 0 is down with 64 good frames behind it, and the device wraps (bit 3 of LANE_OK). -/
def laneWraps : State := { State.reset with regs := [(Reg.key .LANE_OK 0, 0xA), (Reg.key .LANE_GOOD 0, 64)] }

/-- Refutes O53: the wrapping ends at the first cycle start after the lane came back (R410), so in `laneWraps` LINK_LANE_UP leaves its bit
set, where the statement has it cleared at once. -/
theorem not_lanesAndFences : ¬ Obligations.LanesAndFences := by
  unfold Obligations.LanesAndFences
  rintro ⟨-, -, -, hup, -⟩
  obtain ⟨u, hu, -, hwrap, -⟩ := hup 0 0 laneWraps (by decide +kernel) (by decide +kernel)
  have hrun : execLinkLaneUp 0 0 laneWraps = .next u := hu
  obtain rfl := Host.Outcome.next.inj hrun
  have hstays : (laneUp (laneWraps.atTick 0) 0).getBit .LANE_OK 0 3 = true := by decide +kernel
  exact absurd (hstays.symm.trans hwrap) (by decide)

/-- `tagsOut` with an operator's session open on host SPI, its key sixteen bytes of 1. -/
def tagsOutInSession : State :=
  { (tagsOut.put .SESS_OPEN 0 1).put .SESS_ROLE 0 2 with sec := { State.reset.sec with key := List.replicate 16 1 } }

/-- OBJ_WRITE of 5 to 0x6081, sealed under that key with counter 1. -/
def sealedWrite : Request := ⟨1, 2, 0, 1, [55, 37, 248, 170, 65, 167, 211, 123, 165, 49, 69, 14, 92, 170, 17], true⟩

/-- Refutes O56: as in `not_windowAccess`, the write of 0x6081 asks a helper for the object's word (R39), and where no general tag is free
it writes nothing; the clause of OBJ_WRITE asks for no free tag. -/
theorem not_diagnosis : ¬ Obligations.Diagnosis := by
  unfold Obligations.Diagnosis
  rintro ⟨-, -, -, -, -, -, -, -, -, -, -, -, hwrite, -⟩
  obtain ⟨u, hu, -, hvel⟩ := hwrite 0 5 0 .spi sealedWrite tagsOutInSession (by unfold TakesSealed Arrives; decide +kernel)
    (by decide +kernel) (by decide) (by decide) (by decide +kernel)
  have hrun : execObjWrite 0 .spi sealedWrite tagsOutInSession = .next u := hu
  obtain rfl := Host.Outcome.next.inj hrun
  have hkept : (request (tagsOutInSession.atTick 0) .spi ⟨0x02, 1⟩ sealedWrite (fun a text => writeObject a Path.spi.code text)
      fun text a => afterWrite a (fieldAt text 0 2) (text.getD 2 0)).get .PROFILE_VEL 0 = tagsOutInSession.get .PROFILE_VEL 0 := by
    decide +kernel
  have hheld : tagsOutInSession.get .PROFILE_VEL 0 ≠ 5 := by decide +kernel
  exact hheld (hkept.symm.trans hvel)

end Sys2Proof.Proofs
end

section
/-! Parts of the state that a definition leaves alone. -/

namespace Sys2Proof.Proofs

open Machine Laws

/-- Every field, every developed copy, and every part but one. -/
def everythingBut (p : Part) : Footprint :=
  { regs := [], devs := [], allRegs := true, allDevs := true,
    parts := [Part.copies, .readShadow, .writeShadow, .memory, .motion, .counts, .partials, .responses, .sent, .audit, .store,
      .clock].filter (· ≠ p) }

theorem maskOf_everythingBut (p : Part) : Laws.maskOf (everythingBut p) = ⟨rall, rall, Nat.xor 0x17ff (partBit p)⟩ := by
  cases p <;> rfl

section
variable {x y : State} {m d k : Nat}

/-- A part outside the mask of what is kept is left alone. -/
theorem part_of (p : Part) (hk : ∀ P : State → Prop, Kept ⟨m, d, k⟩ P → P x → P y)
    (h : Mask.le ⟨m, d, k⟩ ⟨rall, rall, Nat.xor 0x17ff (partBit p)⟩ = true) : p.Same x y := by
  have hkept := within_kept (everythingBut p) x
  rw [maskOf_everythingBut] at hkept
  exact (hk _ (hkept.le h) within_refl).parts p (by simp [everythingBut])

theorem tx_of (hk : ∀ P : State → Prop, Kept ⟨m, d, k⟩ P → P x → P y)
    (h : Mask.le ⟨m, d, k⟩ ⟨rall, rall, Nat.xor 0x17ff (partBit .sent)⟩ = true) : y.tx = x.tx := part_of .sent hk h

theorem rx_of (hk : ∀ P : State → Prop, Kept ⟨m, d, k⟩ P → P x → P y)
    (h : Mask.le ⟨m, d, k⟩ ⟨rall, rall, Nat.xor 0x17ff (partBit .partials)⟩ = true) : y.rx = x.rx := part_of .partials hk h

theorem resp_of (hk : ∀ P : State → Prop, Kept ⟨m, d, k⟩ P → P x → P y)
    (h : Mask.le ⟨m, d, k⟩ ⟨rall, rall, Nat.xor 0x17ff (partBit .responses)⟩ = true) : y.resp = x.resp := part_of .responses hk h

theorem sec_of (hk : ∀ P : State → Prop, Kept ⟨m, d, k⟩ P → P x → P y)
    (h : Mask.le ⟨m, d, k⟩ ⟨rall, rall, Nat.xor 0x17ff (partBit .store)⟩ = true) : y.sec = x.sec := part_of .store hk h

theorem audit_of (hk : ∀ P : State → Prop, Kept ⟨m, d, k⟩ P → P x → P y)
    (h : Mask.le ⟨m, d, k⟩ ⟨rall, rall, Nat.xor 0x17ff (partBit .audit)⟩ = true) : y.audit = x.audit := part_of .audit hk h

theorem mo_of (hk : ∀ P : State → Prop, Kept ⟨m, d, k⟩ P → P x → P y)
    (h : Mask.le ⟨m, d, k⟩ ⟨rall, rall, Nat.xor 0x17ff (partBit .motion)⟩ = true) (i : Nat) : y.mo i = x.mo i := by
  have hsame : y.motion = x.motion := part_of .motion hk h
  rw [State.mo, State.mo, hsame]

end

end Sys2Proof.Proofs
end

section
/-! O51: the enumeration of the ring. -/

namespace Sys2Proof.Proofs

open Machine Laws

section
variable {s : State}

/-! ## The manager's side -/

theorem isManager_congr {x y : State} (h : y.get .ROLE_ACT 0 = x.get .ROLE_ACT 0) : isManager y = isManager x := by
  rw [isManager, isManager, State.flag, State.flag, h]

/-- The device states after the manager has cleared them. -/
theorem get_devStates {d : Nat} (hd : d < 32) : ((List.range 32).foldl (fun a d => a.put .DEV_STATE d devAbsent) s).get .DEV_STATE d = 0 := by
  rw [get_fold_writes (g := fun _ _ => 0) (fun x k => get_put_same x) (fun x k j hj => get_put_inst x hj) fun _ _ _ => rfl]
  exact if_pos (List.mem_range.mpr hd)

theorem get_devStates_other {r : Reg} {i : Nat} (h : r ≠ .DEV_STATE) :
    ((List.range 32).foldl (fun a d => a.put .DEV_STATE d devAbsent) s).get r i = s.get r i :=
  foldl_keep (fun x _ => get_put_reg x h) _ s

theorem tx_devStates : ((List.range 32).foldl (fun a d => a.put .DEV_STATE d devAbsent) s).tx = s.tx :=
  keep_foldl (P := fun x : State => x.tx = s.tx) (fun _ _ h => h) rfl

theorem tx_developLayout : (developLayout s).tx = s.tx := tx_of (fun _ => keep_developLayout) rfl

theorem tx_clearAll {rs : List Reg} {i : Nat} : (s.clearAll rs i).tx = s.tx :=
  keep_foldl (P := fun x : State => x.tx = s.tx) (fun _ _ h => h) rfl

/-- What an enumeration leaves (R394). -/
theorem enumerate_fields :
    (enumerate s).get .LINK_STATE 0 = 1 ∧ (enumerate s).get .ENUM_OUT 0 = 1 ∧ (enumerate s).get .ENUM_TICK 0 = s.ts % 2 ^ 64 ∧
    (enumerate s).get .RING_SIZE 0 = 0 ∧ (enumerate s).get .RING_POS 0 = 0 ∧ (∀ d < 32, (enumerate s).get .DEV_STATE d = 0) ∧
    (enumerate s).tx = s.tx ++ [⟨3, 2, [2, 0] ++ leBytes 2 ((enumerate s).get .RING_ID 0)⟩] := by
  refine ⟨?_, ?_, ?_, ?_, ?_, fun d hd => ?_, ?_⟩
  · simp (disch := decide) [enumerate, get_devStates_other, linkEnum, trunc]
  · simp (disch := decide) [enumerate, get_devStates_other, trunc]
  · simp (disch := decide) [enumerate, get_devStates_other, trunc]
  · simp (disch := decide) [enumerate, get_devStates_other, trunc]
  · simp (disch := decide) [enumerate, get_devStates_other, trunc]
  · simp [enumerate, get_devStates hd]
  · simp [enumerate, tx_developLayout, tx_devStates]

/-- The manager's enumeration keeps the event queue. -/
theorem linkEnumeration_completes (hmanager : isManager s = true) (hen : s.dv .LINK_EN 0 = 1) (hoff : s.get .LINK_STATE 0 = 0) :
    Completes .linkEnumeration s fun u =>
      u.get .LINK_STATE 0 = 1 ∧ u.get .ENUM_OUT 0 = 1 ∧ u.get .ENUM_TICK 0 = s.ts % 2 ^ 64 ∧ u.get .RING_SIZE 0 = 0 ∧ u.get .RING_POS 0 = 0 ∧
      (∀ d < 32, u.get .DEV_STATE d = 0) ∧ u.tx = s.tx ++ [⟨3, 2, [2, 0] ++ leBytes 2 (u.get .RING_ID 0)⟩] ∧ PostsNone s u := by
  obtain ⟨hstate, hout, htick, hsize, hpos, hdevs, htx⟩ := enumerate_fields (s := s)
  have hen' : s.dflag .LINK_EN 0 = true := by simp [State.dflag, hen]
  have hnone : PostsNone s (enumerate s) := by simp
  exact completes_eq rfl (if_pos ⟨hmanager, hen', hoff⟩) ⟨hstate, hout, htick, hsize, hpos, hdevs, htx, hnone⟩

theorem linkEnumeration_idle (h : isManager s = false ∨ s.dv .LINK_EN 0 = 0 ∨ s.get .LINK_STATE 0 ≠ 0) :
    Completes .linkEnumeration s fun u => u = s := by
  refine completes_eq rfl (if_neg ?_) rfl
  rintro ⟨hmanager, hen, hoff⟩
  rcases h with h | h | h
  · simp [h] at hmanager
  · simp [State.dflag, h] at hen
  · exact h hoff

theorem linkRestart_completes (hmanager : isManager s = true) (hen : s.dv .LINK_EN 0 = 1) :
    Completes .linkRestart s fun u =>
      u.get .LINK_STATE 0 = 1 ∧ u.get .ENUM_OUT 0 = 1 ∧ u.get .RING_SIZE 0 = 0 ∧ (∀ d < 32, u.get .DEV_STATE d = 0) ∧
      u.tx = s.tx ++ [⟨3, 2, [2, 0] ++ leBytes 2 (u.get .RING_ID 0)⟩] := by
  obtain ⟨hstate, hout, -, hsize, -, hdevs, htx⟩ := enumerate_fields (s := s)
  refine completes_eq rfl (if_pos ⟨hmanager, ?_⟩ : linkRestart s = _) ⟨hstate, hout, hsize, hdevs, htx⟩
  simp [State.dflag, hen]

theorem linkRestart_idle (h : isManager s = false) : Completes .linkRestart s fun u => u = s := by
  refine completes_eq rfl (if_neg ?_ : linkRestart s = _) rfl
  simp [h]

/-! ## A worker's side -/

theorem enumWorker_completes {position ringId : Nat} (hen : s.get .LINK_EN 0 = 1) (hpos : position < 32) (hid : ringId < 2 ^ 16) :
    Completes (.enumerationFrame (.passes position ringId)) s fun u =>
      u.get .RING_POS 0 = position ∧ u.get .RING_ID 0 = ringId ∧ u.get .OWN_EPOCH 0 = 0 ∧ u.get .LINK_STATE 0 = 2 ∧ u.get .LOCKED 0 = 0 ∧
      u.tx.length = s.tx.length + 1 := by
  refine completes_eq rfl (if_neg (by simp [State.flag, hen]) : enumWorker s position ringId = _) ⟨?_, ?_, ?_, ?_, ?_, ?_⟩
  · simp (disch := decide) [State.clearAll, State.clear, trunc_of_lt (show position < 2 ^ 5 from hpos)]
  · simp (disch := decide) [State.clearAll, State.clear, trunc_of_lt (show ringId < 2 ^ 16 from hid)]
  · simp (disch := decide) [State.clearAll, State.clear, trunc]
  · simp (disch := decide) [State.clearAll, State.clear, trunc, linkAligning]
  · have hreset : trunc (Reg.width .LOCKED) (Reg.reset .LOCKED 0) = 0 := by decide
    simpa (disch := decide) [State.clearAll] using hreset
  · rw [send_tx, List.length_append, tx_clearAll, put_tx, put_tx, put_tx, put_tx, tx_developLayout]
    rfl

theorem enumWorker_idle {position ringId : Nat} (hen : s.get .LINK_EN 0 = 0) :
    Completes (.enumerationFrame (.passes position ringId)) s fun u => u = s :=
  completes_eq (x := enumWorker s position ringId) rfl (by simp [enumWorker, State.flag, hen]) rfl

/-! ## The frame's return -/

theorem mapReject_fields {why : Nat} :
    (mapReject s why).get .LINK_STATE 0 = 1 ∧ (mapReject s why).get .ENUM_OUT 0 = 0 ∧ (mapReject s why).getBit .LINK_FLAGS 0 2 = true ∧
    LastEvent (mapReject s why) 0x0E04 0x8 noSlot why := by
  refine ⟨?_, ?_, ?_, lastEvent_of (.refl _)⟩
  · simp (disch := decide) [mapReject, setLinkFlag, linkEnum, trunc]
  · simp (disch := decide) [mapReject, setLinkFlag, trunc]
  · simp (disch := decide) [mapReject, setLinkFlag, State.getBit, flagMapRej]

/-- A property that one element of a list brings about and that no element undoes. -/
theorem foldl_reaches {α : Type} {f : State → α → State} {Q : State → Prop} {b : α} {l : List α} {s : State} (hb : b ∈ l)
    (hkeep : ∀ x k, k ∈ l → Q x → Q (f x k)) (hat : ∀ x, Q (f x b)) : Q (l.foldl f s) := by
  induction l generalizing s with
  | nil => cases hb
  | cons k l ih =>
    rcases List.mem_cons.mp hb with rfl | hb
    · exact keep_foldl_mem (l := l) (fun x j hj => hkeep x j (List.mem_cons_of_mem _ hj)) (hat s)
    · exact ih hb fun x j hj => hkeep x j (List.mem_cons_of_mem k hj)

/-- The two codes of one slot of a worker, as the enumeration frame brings them. -/
def takeCodes (d : Nat) (b : State) (y : (Nat × Nat) × Nat) : State :=
  (b.put .RING_DN (8 * (d + 1) + y.2) y.1.1).put .RING_UP (8 * (d + 1) + y.2) y.1.2

/-- The codes of every worker. -/
def takeLayouts (s : State) (layouts : List (List (Nat × Nat))) : State :=
  layouts.zipIdx.foldl (fun a x => x.1.zipIdx.foldl (takeCodes x.2) a) s

/-- A worker that has been enumerated begins to join. -/
def joinDevice (a : State) (d : Nat) : State :=
  ((a.put .DEV_STATE d devJoining).clearAll [.DEV_EPOCH, .DEV_MISS, .DEV_FENCED] d).put .DEV_FRESH d 1

/-- A device joins under epoch 0. -/
def Joins (d : Nat) (x : State) : Prop := x.get .DEV_STATE d = devJoining ∧ x.get .DEV_EPOCH d = 0

theorem joins_joinDevice {d : Nat} : Joins d (joinDevice s d) := by
  have hepoch : trunc (Reg.width .DEV_EPOCH) (Reg.reset .DEV_EPOCH d) = 0 := rfl
  constructor
  · simp (disch := decide) [joinDevice, State.clearAll, devJoining, trunc]
  · simpa (disch := decide) [joinDevice, State.clearAll] using hepoch

theorem joins_joinDevice_other {d k : Nat} (h : Joins d s) (hk : d ≠ k) : Joins d (joinDevice s k) := by
  obtain ⟨hstate, hepoch⟩ := h
  constructor
  · simpa (disch := first | decide | exact hk) [joinDevice, State.clearAll] using hstate
  · simpa (disch := first | decide | exact hk) [joinDevice, State.clearAll, get_clear_inst hk] using hepoch

theorem get_joinDevice {r : Reg} {d j : Nat} (hr : r ∉ [Reg.DEV_STATE, .DEV_EPOCH, .DEV_MISS, .DEV_FENCED, .DEV_FRESH]) :
    (joinDevice s d).get r j = s.get r j := by
  simp only [List.mem_cons, List.not_mem_nil, or_false, not_or] at hr
  obtain ⟨hstate, hepoch, hmiss, hfenced, hfresh⟩ := hr
  exact (get_put_reg _ hfresh).trans ((get_clearAll (by simp [hepoch, hmiss, hfenced])).trans (get_put_reg s hstate))

theorem se_joinDevice {x : State} {d : Nat} : SameEvents x (joinDevice s d) ↔ SameEvents x s := by
  simp (disch := decide) [joinDevice, State.clearAll, State.clear]

/-- What the manager does with layouts it accepts. -/
def enumAccept (s : State) (size : Nat) : State :=
  let s := (((s.put .ENUM_OUT 0 0).put .RING_SIZE 0 size).put .FRAME_BYTES 0 (frameBytes s size)).put .LINK_STATE 0 linkClosed
  let s := s.each 8 (fun a n => a.dv .ACC_RING n == 1) fun a n => a.put .ACC_MEMB n (bits (a.get .ACC_RING_MEMB n) 0 8)
  (List.range (size - 1)).foldl (fun a k => joinDevice a (k + 1)) s

theorem enumReturn_eq {layouts : List (List (Nat × Nat))} {second bad : Bool} (hout : s.get .ENUM_OUT 0 = 1) :
    enumReturn s layouts second bad =
      let s := takeLayouts s layouts
      let expect := s.dv .RING_EXPECT 0
      if expect ≠ 0 ∧ expect ≠ layouts.length + 1 then mapReject s 1
      else if 1400 < frameBytes s (layouts.length + 1) then mapReject s 2
      else if second then mapReject s 3
      else if bad || layoutBad s then mapReject s 4
      else enumAccept s (layouts.length + 1) := by
  rw [enumReturn, if_neg (by simp [State.flag, hout])]
  rfl

section
variable {layouts : List (List (Nat × Nat))} {r : Reg} {i : Nat}

theorem keep_takeLayouts {P : State → Prop} (h : ∀ d x y, P x → P (takeCodes d x y)) (hs : P s) : P (takeLayouts s layouts) :=
  keep_foldl (fun _ x hx => keep_foldl (fun b y hb => h x.2 b y hb) hx) hs

theorem dv_takeLayouts : (takeLayouts s layouts).dv r i = s.dv r i :=
  keep_takeLayouts (P := fun x => x.dv r i = s.dv r i) (fun _ _ _ h => h) rfl

theorem se_takeLayouts : SameEvents s (takeLayouts s layouts) :=
  keep_takeLayouts (P := fun x => SameEvents s x) (fun _ _ _ h => by simpa (disch := decide) [takeCodes] using h) (.refl s)

theorem layoutBad_takeLayouts : layoutBad (takeLayouts s layouts) = layoutBad s := by
  have hkind : (takeLayouts s layouts).kind = s.kind := funext fun i => by simp [State.kind, dv_takeLayouts]
  simp only [layoutBad, dv_takeLayouts, hkind]

/-- An axis of the ring has no code. -/
def NoCodes (g : Nat) (x : State) : Prop := x.get .RING_DN g = 0 ∧ x.get .RING_UP g = 0

/-- Eight pairs of zeros from each worker leave no code on any of their axes. -/
theorem codes_takeLayouts_zeros {n d : Nat} (hd : d < n) (hi : i < 8) :
    NoCodes (8 * (d + 1) + i) (takeLayouts s (List.replicate n (List.replicate 8 (0, 0)))) := by
  have hzero : ∀ (y : (Nat × Nat) × Nat), y ∈ (List.replicate 8 ((0 : Nat), (0 : Nat))).zipIdx → y.1 = (0, 0) := fun y hy =>
    List.eq_of_mem_replicate (List.fst_mem_of_mem_zipIdx hy)
  have hwrite : ∀ (x : State) (d' : Nat) (y : (Nat × Nat) × Nat), y.1 = (0, 0) →
      NoCodes (8 * (d + 1) + i) x ∨ 8 * (d' + 1) + y.2 = 8 * (d + 1) + i → NoCodes (8 * (d + 1) + i) (takeCodes d' x y) := by
    rintro x d' ⟨y, k⟩ rfl hx
    by_cases hk : 8 * (d' + 1) + k = 8 * (d + 1) + i
    · simp (disch := decide) [NoCodes, takeCodes, hk, trunc]
    · obtain ⟨hdn, hup⟩ := hx.resolve_right hk
      exact ⟨(get_put_reg _ (by decide)).trans ((get_put_inst x (Ne.symm hk)).trans hdn),
        (get_put_inst _ (Ne.symm hk)).trans ((get_put_reg x (by decide)).trans hup)⟩
  refine foldl_reaches (Q := NoCodes (8 * (d + 1) + i)) (b := (List.replicate 8 (0, 0), d)) ?_ (fun x y hy hx => ?_) fun x => ?_
  · exact List.mk_mem_zipIdx_iff_getElem?.mpr (List.getElem?_replicate_of_lt hd)
  · have hpairs : y.1 = List.replicate 8 (0, 0) := List.eq_of_mem_replicate (List.fst_mem_of_mem_zipIdx hy)
    rw [hpairs]
    exact keep_foldl_mem (fun z w hw hz => hwrite z y.2 w (hzero w hw) (.inl hz)) hx
  · refine foldl_reaches (Q := NoCodes (8 * (d + 1) + i)) (b := ((0, 0), i)) ?_ (fun z w hw hz => hwrite z d w (hzero w hw) (.inl hz)) fun z => ?_
    · exact List.mk_mem_zipIdx_iff_getElem?.mpr (List.getElem?_replicate_of_lt hi)
    · exact hwrite z d _ rfl (.inr rfl)

theorem frameBytes_zeros {n : Nat} :
    frameBytes (takeLayouts s (List.replicate n (List.replicate 8 (0, 0)))) (n + 1) = 116 + 12 * n := by
  have hwords : ∀ k < n, devWords (takeLayouts s (List.replicate n (List.replicate 8 (0, 0)))) (k + 1) = (0, 0) := by
    intro k hk
    have hdn : ∀ i ∈ List.range 8, dnWords ((takeLayouts s (List.replicate n (List.replicate 8 (0, 0)))).get .RING_DN (8 * (k + 1) + i)) = 0 :=
      fun i hi => by rw [(codes_takeLayouts_zeros hk (List.mem_range.mp hi)).1]; rfl
    have hup : ∀ i ∈ List.range 8, upWords ((takeLayouts s (List.replicate n (List.replicate 8 (0, 0)))).get .RING_UP (8 * (k + 1) + i)) = 0 :=
      fun i hi => by rw [(codes_takeLayouts_zeros hk (List.mem_range.mp hi)).2]; rfl
    rw [devWords, List.map_congr_left hdn, List.map_congr_left hup]
    rfl
  have hrow : ∀ k ∈ List.range n, 12 + 4 * ((devWords (takeLayouts s (List.replicate n (List.replicate 8 (0, 0)))) (k + 1)).1 +
      (devWords (takeLayouts s (List.replicate n (List.replicate 8 (0, 0)))) (k + 1)).2) = 12 := by
    intro k hk
    rw [hwords k (List.mem_range.mp hk)]
    rfl
  rw [frameBytes, Nat.add_sub_cancel, List.map_congr_left hrow]
  simp [Nat.mul_comm]

/-- What an accepted layout leaves. -/
theorem enumAccept_fields {n : Nat} (hn : n ≤ 31) (hbytes : frameBytes s (n + 1) = 116 + 12 * n) :
    (enumAccept s (n + 1)).get .RING_SIZE 0 = n + 1 ∧ (enumAccept s (n + 1)).get .LINK_STATE 0 = 3 ∧ (enumAccept s (n + 1)).get .ENUM_OUT 0 = 0 ∧
    (enumAccept s (n + 1)).get .FRAME_BYTES 0 = 116 + 12 * n ∧
    (∀ k < n, (enumAccept s (n + 1)).get .DEV_STATE (k + 1) = devJoining ∧ (enumAccept s (n + 1)).get .DEV_EPOCH (k + 1) = 0) ∧
    PostsNone s (enumAccept s (n + 1)) := by
  have hother : ∀ r : Reg, r ∉ [Reg.DEV_STATE, .DEV_EPOCH, .DEV_MISS, .DEV_FENCED, .DEV_FRESH, .ACC_MEMB] →
      (enumAccept s (n + 1)).get r 0 =
        ((((s.put .ENUM_OUT 0 0).put .RING_SIZE 0 (n + 1)).put .FRAME_BYTES 0 (frameBytes s (n + 1))).put .LINK_STATE 0 linkClosed).get r 0 := by
    intro r hr
    have hmemb : r ≠ .ACC_MEMB := fun h => hr (by simp [h])
    have hjoin : r ∉ [Reg.DEV_STATE, .DEV_EPOCH, .DEV_MISS, .DEV_FENCED, .DEV_FRESH] := fun h => hr (List.mem_append_left [Reg.ACC_MEMB] h)
    exact (foldl_keep (fun x k => get_joinDevice hjoin) _ _).trans (get_each fun x k => get_put_reg x hmemb)
  refine ⟨(hother .RING_SIZE (by decide)).trans ?_, (hother .LINK_STATE (by decide)).trans ?_, (hother .ENUM_OUT (by decide)).trans ?_,
    (hother .FRAME_BYTES (by decide)).trans ?_, fun k hk => ?_, ?_⟩
  · simpa (disch := decide) using trunc_of_lt (show n + 1 < 2 ^ Reg.width .RING_SIZE from by simp; omega)
  · simp (disch := decide) [linkClosed, trunc]
  · simp (disch := decide) [trunc]
  · rw [hbytes]
    simpa (disch := decide) using trunc_of_lt (show 116 + 12 * n < 2 ^ Reg.width .FRAME_BYTES from by simp; omega)
  · refine foldl_reaches (Q := Joins (k + 1)) (b := k) (List.mem_range.mpr hk) (fun x j _ hx => ?_) fun x => joins_joinDevice
    by_cases hj : j = k
    · exact hj ▸ joins_joinDevice
    · exact joins_joinDevice_other hx (by omega)
  · refine (foldl_se (fun x k => se_joinDevice) _ _).mpr ((foldl_se (fun x k => ?_) _ _).mpr ?_)
    · simp (disch := decide)
    · simp (disch := decide)

theorem enumReturn_accepts {n : Nat} (hn : n ≤ 31) (hout : s.get .ENUM_OUT 0 = 1)
    (hexpect : s.dv .RING_EXPECT 0 = 0 ∨ s.dv .RING_EXPECT 0 = n + 1) (hgood : layoutBad s = false) :
    Completes (.enumerationFrame (.returns (List.replicate n (List.replicate 8 (0, 0))) false false)) s fun u =>
      u.get .RING_SIZE 0 = n + 1 ∧ u.get .LINK_STATE 0 = 3 ∧ u.get .ENUM_OUT 0 = 0 ∧ u.get .FRAME_BYTES 0 = 116 + 12 * n ∧
      (∀ k < n, u.get .DEV_STATE (k + 1) = devJoining ∧ u.get .DEV_EPOCH (k + 1) = 0) ∧ PostsNone s u := by
  obtain ⟨hsize, hstate, hdone, hbytes, hdevs, hnone⟩ := enumAccept_fields hn (frameBytes_zeros (s := s))
  have hfits : ¬(s.dv .RING_EXPECT 0 ≠ 0 ∧ s.dv .RING_EXPECT 0 ≠ n + 1) := fun h => hexpect.elim h.1 h.2
  have hshort : ¬1400 < 116 + 12 * n := by omega
  refine completes_eq (x := enumReturn s _ false false) rfl ?_ ⟨hsize, hstate, hdone, hbytes, hdevs, se_takeLayouts.trans hnone⟩
  rw [enumReturn_eq hout]
  simp only [List.length_replicate, dv_takeLayouts, layoutBad_takeLayouts, frameBytes_zeros, hgood, if_neg hfits, if_neg hshort]
  rfl

theorem enumReturn_refuses {second bad : Bool} (hout : s.get .ENUM_OUT 0 = 1) (hset : s.dv .RING_EXPECT 0 ≠ 0)
    (hother : s.dv .RING_EXPECT 0 ≠ layouts.length + 1) : Completes (.enumerationFrame (.returns layouts second bad)) s fun u =>
      u.get .LINK_STATE 0 = 1 ∧ u.get .ENUM_OUT 0 = 0 ∧ u.getBit .LINK_FLAGS 0 2 = true ∧ LastEvent u 0x0E04 0x8 noSlot 1 := by
  refine completes_eq (x := enumReturn s layouts second bad) (t := mapReject (takeLayouts s layouts) 1) rfl ?_ mapReject_fields
  rw [enumReturn_eq hout]
  simp only [dv_takeLayouts, if_pos (And.intro hset hother)]

theorem enumReturn_idle {second bad : Bool} (hout : s.get .ENUM_OUT 0 = 0) :
    Completes (.enumerationFrame (.returns layouts second bad)) s fun u => u = s :=
  completes_eq (x := enumReturn s layouts second bad) rfl (if_pos (by simp [State.flag, hout])) rfl

theorem enumTimeout_completes {t : Nat} (hout : s.get .ENUM_OUT 0 = 1) (hlate : s.get .ENUM_TICK 0 + 160000 ≤ (s.atTick t).ts) :
    Completes (.enumerationTimeout t) s fun u =>
      u.get .LINK_STATE 0 = 1 ∧ u.get .ENUM_OUT 0 = 0 ∧ u.getBit .LINK_FLAGS 0 2 = true ∧ LastEvent u 0x0E04 0x8 noSlot 3 := by
  refine completes_eq (x := enumTimeout (s.atTick t)) (t := mapReject (s.atTick t) 3) rfl (if_pos ?_) mapReject_fields
  rw [show ticksPerMs = 160000 from rfl, get_atTick]
  exact ⟨by simp [State.flag, hout], hlate⟩

theorem enumTimeout_idle {t : Nat} (h : s.get .ENUM_OUT 0 = 0 ∨ (s.atTick t).ts < s.get .ENUM_TICK 0 + 160000) :
    Completes (.enumerationTimeout t) s fun u => u = s.atTick t := by
  refine completes_eq (x := enumTimeout (s.atTick t)) rfl (if_neg ?_) rfl
  rw [show ticksPerMs = 160000 from rfl, get_atTick]
  rintro ⟨hout, hlate⟩
  rcases h with h | h
  · simp [State.flag, h] at hout
  · omega

end

end

/-- Settles O51: enumeration, the acceptance of a ring without codes by following what the returned frame writes axis by axis. -/
theorem linkSetup : Obligations.LinkSetup := by
  unfold Obligations.LinkSetup
  exact ⟨fun _ => linkEnumeration_completes, fun _ => linkEnumeration_idle, fun _ => linkRestart_completes, fun _ => linkRestart_idle,
    fun _ _ _ => enumWorker_completes, fun _ _ _ => enumWorker_idle, fun _ _ => enumReturn_accepts, fun _ _ _ _ => enumReturn_refuses,
    fun _ _ _ _ => enumReturn_idle, fun _ _ => enumTimeout_completes, fun _ _ => enumTimeout_idle⟩

end Sys2Proof.Proofs
end

section
/-! O54: ring sheets and the tunnel. -/

namespace Sys2Proof.Proofs

open Machine Laws

section
variable {s : State}

/-! ## The commit of a ring sheet -/

theorem isManager_served : isManager (served s) = isManager s := isManager_congr (get_served_reg (by decide))

theorem linkRuns_congr {x y : State} (h : y.get .LINK_STATE 0 = x.get .LINK_STATE 0) : linkRuns y = linkRuns x := by
  rw [linkRuns, linkRuns, h]

theorem linkRuns_served : linkRuns (served s) = linkRuns s := linkRuns_congr (get_served_reg (by decide))

theorem ringTime_manager (h : isManager s = true) : ringTime s = s.ts := by rw [ringTime, if_pos h]

/-- A sheet that may be committed: the shot of this device's own contact sheet, and the sheet that waits. -/
theorem ringSheet_commits {t : Nat} (hmanager : isManager s = true) (hruns : linkRuns s = true) (hfree : s.get .RS_PEND 0 = 0)
    (hlead : s.ts + 80000 ≤ t) :
    ringSheet s t = ((((((shootSheet s t).1.put .SHEET_ERR 0 (b2n !(shootSheet s t).2)).put .RS_SEEN 0 t).put .RS_PEND 0 1).put .RS_T 0 t).put
      .RS_MISSING 0 0, true) := by
  rw [ringSheet, if_neg]
  rw [ringTime_manager hmanager, show ringLead = 80000 from rfl]
  simp [hmanager, hruns, State.flag, hfree, hlead]

theorem shootSheet_free {t : Nat} (hlead : s.ts + 320 ≤ t) (hfree : s.get .CS_PEND 0 = 0) :
    shootSheet s t = ((s.put .CS_PEND 0 1).put .CS_TICK 0 t, true) := by
  rw [shootSheet, if_neg]
  simp [State.flag, hfree, hlead]

theorem shootSheet_busy {t : Nat} (hbusy : s.get .CS_PEND 0 = 1) : shootSheet s t = (s.put .CS_REJ 0 1, false) := by
  rw [shootSheet, if_pos]
  simp [State.flag, hbusy]

theorem ringSheet_completes {t : Nat} (hup : s.get .SEQ_DOWN 0 = 0) (hmanager : isManager s = true) (hruns : linkRuns s = true)
    (hfree : s.get .RS_PEND 0 = 0) (hlead : s.ts + 80000 ≤ t) (ht : t < 2 ^ 64) : Completes (.ringSheet t) s fun u =>
      u.get .RS_PEND 0 = 1 ∧ u.get .RS_T 0 = t ∧ u.get .ANS_ABORT 0 = 0 ∧
      (s.get .CS_PEND 0 = 0 → u.get .SHEET_ERR 0 = 0 ∧ u.get .CS_PEND 0 = 1 ∧ u.get .CS_TICK 0 = t) ∧
      (s.get .CS_PEND 0 = 1 → u.get .SHEET_ERR 0 = 1 ∧ u.get .CS_TICK 0 = s.get .CS_TICK 0) := by
  have hlead' : (served s).ts + 80000 ≤ t := by rwa [ts_served]
  have hcommit := ringSheet_commits (isManager_served.trans hmanager) (linkRuns_served.trans hruns)
    ((get_served_reg (by decide)).trans hfree) hlead'
  refine completes_eq rfl (viaObject_run hup (by simp)) ?_
  rw [Nat.mod_eq_of_lt ht, stateAbort, hcommit]
  refine ⟨?_, ?_, ?_, fun hcs => ?_, fun hcs => ?_⟩
  · simp (disch := decide) [trunc]
  · simpa (disch := decide) using trunc_of_lt (show t < 2 ^ Reg.width .RS_T from ht)
  · simp [trunc]
  · rw [shootSheet_free (by omega) ((get_served_reg (by decide)).trans hcs)]
    refine ⟨?_, ?_, ?_⟩
    · simp (disch := decide) [trunc, b2n]
    · simp (disch := decide) [trunc]
    · simpa (disch := decide) using trunc_of_lt (show t < 2 ^ Reg.width .CS_TICK from ht)
  · rw [shootSheet_busy ((get_served_reg (by decide)).trans hcs)]
    refine ⟨?_, ?_⟩
    · simp (disch := decide) [trunc, b2n]
    · simp (disch := decide)

theorem ringSheet_refused {t : Nat} (hup : s.get .SEQ_DOWN 0 = 0) (ht : t < 2 ^ 64)
    (h : isManager s = false ∨ linkRuns s = false ∨ t < s.ts + 80000 ∨ s.get .RS_PEND 0 = 1) : Completes (.ringSheet t) s fun u =>
      u.get .ANS_ABORT 0 = 0x08000022 ∧ u.get .RS_PEND 0 = s.get .RS_PEND 0 ∧ u.get .RS_T 0 = s.get .RS_T 0 ∧
      u.get .CS_PEND 0 = s.get .CS_PEND 0 := by
  have hrefuse : ringSheet (served s) t = (served s, false) := by
    rw [ringSheet, isManager_served, linkRuns_served]
    by_cases hmanager : isManager s = true
    · rw [if_pos]
      rw [ringTime_manager (isManager_served.trans hmanager), ts_served, show ringLead = 80000 from rfl, State.flag,
        get_served_reg (by decide)]
      rcases h with h | h | h | h
      · simp [h] at hmanager
      · simp [h]
      · simp [h]
      · simp [h]
    · rw [if_pos]
      simp [hmanager]
  refine completes_eq rfl (viaObject_run hup (by simp)) ?_
  rw [Nat.mod_eq_of_lt ht, stateAbort, hrefuse]
  exact ⟨reply_abort (show abState < 2 ^ 32 by decide), by simp (disch := decide), by simp (disch := decide), by simp (disch := decide)⟩

/-! ## The end of a ring sheet -/

theorem mem_runningDevices {d : Nat} : d ∈ idsWhere 32 (fun d => s.get .DEV_STATE d == devRunning) ↔ d < 32 ∧ s.get .DEV_STATE d = devRunning := by
  simp [idsWhere]

/-- What the end of a sheet with the missing devices `mask` leaves. -/
def endSheet (s : State) (mask : Nat) : State :=
  let s := (s.put .RS_PEND 0 0).put .RS_MISSING 0 mask
  (if mask ≠ 0 then setLinkFlag s flagSheet else s).post 0x0E06 0x8 noSlot mask

/-- The devices that run, none of which has delivered. -/
def undelivered (s : State) : List Nat := idsWhere 32 fun d => s.get .DEV_STATE d == devRunning

theorem ringSheetDone_nil :
    ringSheetDone s [] =
      if !s.flag .RS_PEND 0 ∨ s.ts < s.get .RS_T 0 ∨ (undelivered s ≠ [] ∧ s.ts < s.get .RS_T 0 + 8000000) then s
      else endSheet s (Machine.maskOf 32 fun d => (undelivered s).contains d || (d == 0 && s.flag .SHEET_ERR 0)) := by
  have hall : (idsWhere 32 fun d => s.get .DEV_STATE d == devRunning).filter (fun d => !(([] : List (Nat × List (List Nat))).map (·.1)).contains d) =
      undelivered s := by
    rw [undelivered]
    exact List.filter_eq_self.mpr fun d _ => rfl
  rw [ringSheetDone, show 50 * ticksPerMs = 8000000 from rfl]
  dsimp only
  rw [hall]
  rfl

theorem maskOf_none {n : Nat} {p : Nat → Bool} (h : ∀ k < n, p k = false) : Machine.maskOf n p = 0 := by
  refine Nat.eq_of_testBit_eq fun k => ?_
  rw [Nat.zero_testBit, ← bit, bit_maskOf]
  by_cases hk : k < n
  · simp [h k hk]
  · simp [hk]

theorem maskOf_single {n d : Nat} {p : Nat → Bool} (hd : d < n) (h : ∀ k < n, p k = decide (d = k)) : Machine.maskOf n p = 2 ^ d := by
  refine Nat.eq_of_testBit_eq fun k => ?_
  rw [Nat.testBit_two_pow, ← bit, bit_maskOf]
  by_cases hk : k < n
  · simp [h k hk, hk]
  · simp [hk, show d ≠ k by omega]

theorem undelivered_atTick {t : Nat} : undelivered (s.atTick t) = undelivered s := by
  simp [undelivered]

theorem undelivered_none (h : ∀ d < 32, s.get .DEV_STATE d ≠ devRunning) : undelivered s = [] :=
  List.eq_nil_iff_forall_not_mem.mpr fun d hd => by
    obtain ⟨hlt, hruns⟩ := mem_runningDevices.mp hd
    exact h d hlt hruns

theorem contains_undelivered {d : Nat} (hd : d < 32) : (undelivered s).contains d = (s.get .DEV_STATE d == devRunning) := by
  rw [Bool.eq_iff_iff, List.contains_iff_mem, beq_iff_eq]
  exact mem_runningDevices.trans (and_iff_right hd)

/-- A sheet whose time has come ends. -/
theorem ringSheetDone_ends {t mask : Nat} (hpend : s.get .RS_PEND 0 = 1) (hpast : s.get .RS_T 0 ≤ (s.atTick t).ts)
    (hend : undelivered s = [] ∨ s.get .RS_T 0 + 8000000 ≤ (s.atTick t).ts)
    (hmask : Machine.maskOf 32 (fun d => (undelivered s).contains d || (d == 0 && s.flag .SHEET_ERR 0)) = mask) :
    ringSheetDone (s.atTick t) [] = endSheet (s.atTick t) mask := by
  simp only [ringSheetDone_nil, undelivered_atTick, flag_atTick]
  rw [hmask, if_neg]
  simp only [State.flag, get_atTick, hpend, not_or, not_and, not_lt]
  exact ⟨by decide, hpast, fun hmissing => hend.resolve_left hmissing⟩

theorem ringSheetDone_complete {t : Nat} (hpend : s.get .RS_PEND 0 = 1) (hpast : s.get .RS_T 0 ≤ (s.atTick t).ts)
    (hgood : s.get .SHEET_ERR 0 = 0) (hnone : ∀ d < 32, s.get .DEV_STATE d ≠ devRunning) : Completes (.ringSheetDone t []) s fun u =>
      u.get .RS_PEND 0 = 0 ∧ u.get .RS_MISSING 0 = 0 ∧ u.getBit .LINK_FLAGS 0 4 = s.getBit .LINK_FLAGS 0 4 ∧
      Posts (s.atTick t) u 0x0E06 0x8 noSlot 0 := by
  have hmask : Machine.maskOf 32 (fun d => (undelivered s).contains d || (d == 0 && s.flag .SHEET_ERR 0)) = 0 :=
    maskOf_none fun d _ => by simp [undelivered_none hnone, State.flag, hgood]
  refine completes_eq rfl (ringSheetDone_ends hpend hpast (.inl (undelivered_none hnone)) hmask) ⟨?_, ?_, ?_, posts_of ?_ rfl⟩
  · simp (disch := decide) [endSheet, trunc]
  · simp (disch := decide) [endSheet, trunc]
  · simp (disch := decide) [endSheet, State.getBit]
  · simp (disch := decide)

theorem ringSheetDone_overdue {t d : Nat} (hd : d < 32) (hpend : s.get .RS_PEND 0 = 1)
    (hlate : s.get .RS_T 0 + 8000000 ≤ (s.atTick t).ts) (hgood : s.get .SHEET_ERR 0 = 0) (hruns : s.get .DEV_STATE d = devRunning)
    (hothers : ∀ k < 32, k ≠ d → s.get .DEV_STATE k ≠ devRunning) : Completes (.ringSheetDone t []) s fun u =>
      u.get .RS_PEND 0 = 0 ∧ u.get .RS_MISSING 0 = 2 ^ d ∧ u.getBit .LINK_FLAGS 0 4 = true ∧
      Posts (s.atTick t) u 0x0E06 0x8 noSlot (2 ^ d) := by
  have hmask : Machine.maskOf 32 (fun d => (undelivered s).contains d || (d == 0 && s.flag .SHEET_ERR 0)) = 2 ^ d := by
    refine maskOf_single hd fun k hk => ?_
    rw [contains_undelivered hk, State.flag, hgood]
    by_cases hkd : k = d
    · simp [hkd, hruns]
    · simp [hothers k hk hkd, Ne.symm hkd]
  have hpos : 2 ^ d ≠ 0 := (Nat.two_pow_pos d).ne'
  have hfits : 2 ^ d < 2 ^ Reg.width .RS_MISSING := Nat.pow_lt_pow_right (by decide) hd
  refine completes_eq rfl (ringSheetDone_ends hpend (by omega) (.inr hlate) hmask) ⟨?_, ?_, ?_, posts_of ?_ rfl⟩
  · simp (disch := decide) [endSheet, trunc, setLinkFlag]
  · rw [endSheet, if_pos hpos]
    simpa (disch := decide) [setLinkFlag] using trunc_of_lt hfits
  · rw [endSheet, if_pos hpos]
    simp (disch := decide) [setLinkFlag, State.getBit, flagSheet]
  · simp (disch := decide) [setLinkFlag]

theorem ringSheetDone_waits {t d : Nat} (hd : d < 32) (hearly : (s.atTick t).ts < s.get .RS_T 0 + 8000000)
    (hruns : s.get .DEV_STATE d = devRunning) : Completes (.ringSheetDone t []) s fun u => u = s.atTick t := by
  refine completes_eq rfl ?_ rfl
  rw [ringSheetDone_nil, undelivered_atTick, get_atTick]
  exact if_pos (.inr (.inr ⟨List.ne_nil_of_mem (mem_runningDevices.mpr ⟨hd, hruns⟩), hearly⟩))

/-! ## The tunnel -/

theorem answer_served : (served s).answer = s.answer := by
  rw [served]
  split <;> rfl

/-- The transfer is open. -/
def tunnelOpened (s : State) (write : Bool) (bytes : List Nat) : State :=
  ((s.put .TUN_MSG 0 (Config.tunnelMessage (s.get .TUNNEL_OBJ 0) write bytes)).put .TUN_BUSY 0 1).put .TUN_TICK 0 s.ts

theorem tunnelBegin_free {write : Bool} {bytes : List Nat} (hmanager : isManager s = true) (hfree : s.get .TUN_BUSY 0 = 0)
    (hdev : s.get .TUNNEL_DEV 0 < s.get .RING_SIZE 0) :
    tunnelBegin s write bytes = (tunnelOpened s write bytes, true) := by
  rw [tunnelBegin, if_neg]
  · rfl
  · simp [hmanager, State.flag, hfree, hdev]

theorem tunnelBegin_refused {write : Bool} {bytes : List Nat}
    (h : isManager s = false ∨ s.get .TUN_BUSY 0 = 1 ∨ s.get .RING_SIZE 0 ≤ s.get .TUNNEL_DEV 0) : tunnelBegin s write bytes = (s, false) := by
  rw [tunnelBegin, if_pos]
  rcases h with h | h | h
  · simp [h]
  · simp [State.flag, h]
  · simp [h]

/-- The state in which a tunnelled access is judged. -/
abbrev asked (s : State) (t : Nat) : State := served (s.atTick t)

theorem get_asked {r : Reg} {i t : Nat} (h : r ≠ .SEQ_SERVED) : (asked s t).get r i = s.get r i :=
  (get_served_reg h).trans (get_atTick s)

theorem tunnelTransfer_run {t abort : Nat} {write : Bool} {bytes data : List Nat} (hup : s.get .SEQ_DOWN 0 = 0) :
    exec (.tunnelTransfer t write bytes abort data) s = .next (tunnelTransfer (asked s t) write bytes abort data) := by
  refine congrArg Host.Outcome.next (if_neg ?_)
  simp [State.flag, hup]

section
variable {t abort : Nat} {write : Bool} {bytes data : List Nat}

theorem tunnelTransfer_begins (hmanager : isManager s = true) (hfree : s.get .TUN_BUSY 0 = 0) (hdev : s.get .TUNNEL_DEV 0 < s.get .RING_SIZE 0) :
    tunnelTransfer (asked s t) write bytes abort data =
      if abort = noAnswer then tunnelOpened (asked s t) write bytes
      else ((tunnelOpened (asked s t) write bytes).put .TUN_BUSY 0 0).reply abort (if write then [] else data) := by
  rw [tunnelTransfer, tunnelBegin_free ((isManager_congr (get_asked (by decide))).trans hmanager) ((get_asked (by decide)).trans hfree)
    (by rwa [get_asked (by decide), get_asked (by decide)])]

theorem tunnelTransfer_answered (hup : s.get .SEQ_DOWN 0 = 0) (hmanager : isManager s = true) (hfree : s.get .TUN_BUSY 0 = 0)
    (hdev : s.get .TUNNEL_DEV 0 < s.get .RING_SIZE 0) (hanswer : abort ≠ 0x05040000) (hfits : abort < 2 ^ 32) :
    Completes (.tunnelTransfer t write bytes abort data) s fun u =>
      u.get .TUN_BUSY 0 = 0 ∧ u.get .ANS_ABORT 0 = abort ∧ u.answer = (if write then [] else data) := by
  refine completes_eq (tunnelTransfer_run hup) ((tunnelTransfer_begins hmanager hfree hdev).trans (if_neg hanswer))
    ⟨?_, reply_abort hfits, rfl⟩
  simp (disch := decide) [trunc]

theorem tunnelTransfer_open (hup : s.get .SEQ_DOWN 0 = 0) (hmanager : isManager s = true) (hfree : s.get .TUN_BUSY 0 = 0)
    (hdev : s.get .TUNNEL_DEV 0 < s.get .RING_SIZE 0) : Completes (.tunnelTransfer t write bytes 0x05040000 data) s fun u =>
      u.get .TUN_BUSY 0 = 1 ∧ u.get .TUN_TICK 0 = u.ts % 2 ^ 64 ∧ u.answer = s.answer := by
  have hanswer : (tunnelOpened (asked s t) write bytes).answer = s.answer := (answer_served (s := s.atTick t)).trans (atTick_answer s)
  refine completes_eq (tunnelTransfer_run hup) ((tunnelTransfer_begins hmanager hfree hdev).trans (if_pos rfl)) ⟨?_, ?_, hanswer⟩
  · simp (disch := decide) [tunnelOpened, trunc]
  · simp (disch := decide) [tunnelOpened, trunc]

theorem tunnelTransfer_refused
    (h : s.get .SEQ_DOWN 0 = 1 ∨ isManager s = false ∨ s.get .TUN_BUSY 0 = 1 ∨ s.get .RING_SIZE 0 ≤ s.get .TUNNEL_DEV 0) :
    Completes (.tunnelTransfer t write bytes abort data) s fun u =>
      u.get .ANS_ABORT 0 = 0x08000022 ∧ u.answer = [] ∧ u.get .TUN_BUSY 0 = s.get .TUN_BUSY 0 := by
  by_cases hup : s.flag .SEQ_DOWN 0 = true
  · refine completes_eq (congrArg Host.Outcome.next (if_pos (flag_atTick.trans hup))) rfl ⟨reply_abort (by decide), rfl, ?_⟩
    rw [get_reply (by decide), get_atTick]
  · have hup0 : s.get .SEQ_DOWN 0 = 0 := by simpa [State.flag] using hup
    have hbegin : tunnelBegin (asked s t) write bytes = (asked s t, false) := by
      refine tunnelBegin_refused ?_
      rw [isManager_congr (get_asked (by decide)), get_asked (by decide), get_asked (by decide), get_asked (by decide)]
      exact h.resolve_left (by omega)
    refine completes_eq (tunnelTransfer_run hup0) (t := (asked s t).reply 0x08000022 []) ?_ ⟨reply_abort (by decide), rfl, ?_⟩
    · rw [tunnelTransfer, hbegin]
    · rw [get_reply (by decide), get_asked (by decide)]

theorem tunnelTimeout_completes (hopen : s.get .TUN_BUSY 0 = 1) (hlate : s.get .TUN_TICK 0 + 8000000 ≤ (s.atTick t).ts) :
    Completes (.tunnelTimeout t) s fun u => u.get .TUN_BUSY 0 = 0 ∧ u.get .ANS_ABORT 0 = 0x05040000 ∧ u.answer = [] := by
  refine completes_eq (x := tunnelTimeout (s.atTick t)) rfl (if_pos ?_) ⟨?_, reply_abort (by decide), rfl⟩
  · rw [show 50 * ticksPerMs = 8000000 from rfl, get_atTick]
    exact ⟨by simp [State.flag, hopen], hlate⟩
  · simp (disch := decide) [trunc]

theorem tunnelTimeout_idle (h : s.get .TUN_BUSY 0 = 0 ∨ (s.atTick t).ts < s.get .TUN_TICK 0 + 8000000) :
    Completes (.tunnelTimeout t) s fun u => u = s.atTick t := by
  refine completes_eq (x := tunnelTimeout (s.atTick t)) rfl (if_neg ?_) rfl
  rw [show 50 * ticksPerMs = 8000000 from rfl, get_atTick]
  rintro ⟨hopen, hlate⟩
  rcases h with h | h
  · simp [State.flag, h] at hopen
  · omega

end

end

/-- Settles O54, clause by clause. -/
theorem sheetsAndTunnel : Obligations.SheetsAndTunnel := by
  unfold Obligations.SheetsAndTunnel
  exact ⟨fun _ _ => ringSheet_completes, fun _ _ => ringSheet_refused, fun _ _ => ringSheetDone_complete,
    fun _ _ _ _ => ringSheetDone_overdue, fun _ _ _ => ringSheetDone_waits, fun _ _ _ _ _ _ => tunnelTransfer_answered,
    fun _ _ _ _ _ => tunnelTransfer_open, fun _ _ _ _ _ _ => tunnelTransfer_refused, fun _ _ => tunnelTimeout_completes,
    fun _ _ => tunnelTimeout_idle⟩

end Sys2Proof.Proofs
end

section
/-! O46: the CAN buses. -/

namespace Sys2Proof.Proofs

open Machine Laws

section
variable {s : State}

/-! ## Redundancy and the error history -/

theorem setRedLost_bit {k : Nat} {b : Bool} (hk : k < 5) : (setRedLost s k b).getBit .RED_LOST 0 k = b := by
  rw [setRedLost]
  split
  case isTrue hsame => exact hsame
  case isFalse =>
    have hset : (s.setBit .RED_LOST 0 k b).getBit .RED_LOST 0 k = b := (getBit_setBit hk).trans (if_pos rfl)
    refine Eq.trans ?_ hset
    simp (disch := decide) [State.getBit]

/-- The newest entry of the error history, and how many it holds. -/
theorem pushHistory_head {e : Nat} (he : e < 2 ^ 32) :
    (pushHistory s e).get .ERR_HIST 0 = e ∧ (pushHistory s e).get .ERR_COUNT 0 = min 16 (s.get .ERR_COUNT 0 + 1) := by
  have hcount : ((List.range 15).foldr (fun k a => a.put .ERR_HIST (k + 1) (s.get .ERR_HIST k)) s).get .ERR_COUNT 0 = s.get .ERR_COUNT 0 :=
    keep_foldr (P := fun x : State => x.get .ERR_COUNT 0 = s.get .ERR_COUNT 0) (fun x k h => (get_put_reg x (by decide)).trans h) rfl
  constructor
  · simpa (disch := decide) [pushHistory] using trunc_of_lt (show e < 2 ^ Reg.width .ERR_HIST from he)
  · rw [pushHistory, get_put_same, hcount]
    exact trunc_of_lt (Nat.lt_of_le_of_lt (Nat.min_le_left _ _) (by decide))

/-- Sending or keeping an EMCY leaves the error history to what entered it. -/
theorem emcy_history {code slot cause event : Nat} {r : Reg} (hr : r = .ERR_HIST ∨ r = .ERR_COUNT) :
    (s.emcy code slot cause event).get r 0 =
      (if code = 0 ∨ absorbedCode code then s else pushHistory s (code + slot % 256 * 2 ^ 16 + cause % 256 * 2 ^ 24)).get r 0 := by
  unfold State.emcy
  extract_lets m x
  split
  · rfl
  split
  · rfl
  split
  · have hsent : (sendEmcy x m).get r 0 = x.get r 0 := by
      rcases hr with rfl | rfl <;> exact get_sendEmcy (by decide)
    exact hsent
  · rfl

/-- The end of all errors is no entry of the history. -/
theorem emcyIfClear_history {slot : Nat} {r : Reg} (hr : r = .ERR_HIST ∨ r = .ERR_COUNT) : (s.emcyIfClear slot).get r 0 = s.get r 0 := by
  rw [State.emcyIfClear]
  split
  · rfl
  · exact (emcy_history hr).trans (congrArg (State.get · r 0) (if_pos (.inl rfl)))

/-- An error of the communication enters the history. -/
theorem commError_history {k code : Nat} (hcode : code ≠ 0) (hlow : code < 0xFF01) :
    (commError s k code 0).get .ERR_HIST 0 = 0x00FF0000 + code ∧
    (commError s k code 0).get .ERR_COUNT 0 = min 16 (s.get .ERR_COUNT 0 + 1) := by
  have hentry : code + 0xFF % 256 * 2 ^ 16 + 0 % 256 * 2 ^ 24 = 0x00FF0000 + code := by omega
  have hpush : ¬(code = 0 ∨ absorbedCode code = true) := by
    simp only [absorbedCode, decide_eq_true_eq]
    omega
  obtain ⟨hhead, hcount⟩ := pushHistory_head (s := s.setBit .COMM_ERR 0 k true) (e := 0x00FF0000 + code) (by omega)
  rw [commError, emcy_history (.inl rfl), emcy_history (.inr rfl), if_neg hpush, hentry]
  exact ⟨hhead, hcount.trans (by rw [State.setBit, get_put_reg s (by decide)])⟩

theorem commError_bit {k code : Nat} (hk : k < 4) : (commError s k code 0).getBit .COMM_ERR 0 k = true := by
  refine Eq.trans ?_ ((getBit_setBit hk).trans (if_pos rfl) : (s.setBit .COMM_ERR 0 k true).getBit .COMM_ERR 0 k = true)
  simp (disch := decide) [commError, State.getBit]

/-- An error of the communication that is reported and over at once. -/
theorem commPass_fields {k code : Nat} (hk : k < 4) (hcode : code ≠ 0) (hlow : code < 0xFF01) :
    (commClear (commError s k code 0) k).get .ERR_HIST 0 = 0x00FF0000 + code ∧
    (commClear (commError s k code 0) k).get .ERR_COUNT 0 = min 16 (s.get .ERR_COUNT 0 + 1) ∧
    (commClear (commError s k code 0) k).getBit .COMM_ERR 0 k = false ∧ SameEvents s (commClear (commError s k code 0) k) := by
  obtain ⟨hhead, hcount⟩ := commError_history (s := s) (k := k) hcode hlow
  have hset : (commError s k code 0).getBit .COMM_ERR 0 k = true := commError_bit hk
  rw [commClear, if_pos hset]
  refine ⟨?_, ?_, ?_, ?_⟩
  · rw [emcyIfClear_history (.inl rfl), ← hhead, State.setBit, get_put_reg _ (by decide)]
  · rw [emcyIfClear_history (.inr rfl), ← hcount, State.setBit, get_put_reg _ (by decide)]
  · refine Eq.trans ?_ ((getBit_setBit hk).trans (if_pos rfl) :
      ((commError s k code 0).setBit .COMM_ERR 0 k false).getBit .COMM_ERR 0 k = false)
    simp (disch := decide) [State.getBit]
  · simp (disch := decide) [commError]

/-! ## Losing a bus -/

/-- The bus marked as lost, counted and reported. -/
def markLost (s : State) (b : Nat) (off : Bool) : State :=
  (((s.setBit .CAN_LOST 0 b true).put .CAN_GOOD_TICK b 0).count .CAN_LOSS 0).post 0x0D08 0x0 noSlot (b + b2n off * 256)

theorem loseBus_eq {b : Nat} {off : Bool} (hin : s.getBit .CAN_LOST 0 b = false) (hused : busUsed s b = true) :
    loseBus s b off = setRedLost (if allBusesLost (markLost s b off) then (markLost s b off).put .COMM_DUE 0 1
      else absorb (markLost s b off) 4 0x0D08 noSlot (b + b2n off * 256)) 3 true := by
  rw [loseBus, if_neg (by simp [hin, hused])]
  rfl

/-- A bus that is lost, and the redundancy with it. -/
theorem loseBus_fields {b : Nat} {off : Bool} (hb : b < 2) (hin : s.getBit .CAN_LOST 0 b = false) (hused : busUsed s b = true) :
    (loseBus s b off).get .CAN_OFF b = s.get .CAN_OFF b ∧ (loseBus s b off).getBit .CAN_LOST 0 b = true ∧
    (loseBus s b off).get .CAN_LOSS 0 = min (s.get .CAN_LOSS 0 + 1) 65535 ∧ (loseBus s b off).getBit .RED_LOST 0 3 = true := by
  have hlost : (markLost s b off).getBit .CAN_LOST 0 b = true := by
    refine Eq.trans ?_ ((getBit_setBit hb).trans (if_pos rfl) : (s.setBit .CAN_LOST 0 b true).getBit .CAN_LOST 0 b = true)
    simp (disch := decide) [markLost, State.getBit]
  have hloss : (markLost s b off).get .CAN_LOSS 0 = min (s.get .CAN_LOSS 0 + 1) 65535 := by
    simp (disch := decide) [markLost]
  have hoff : (markLost s b off).get .CAN_OFF b = s.get .CAN_OFF b := by
    simp (disch := decide) [markLost]
  rw [loseBus_eq hin hused]
  refine ⟨?_, ?_, ?_, setRedLost_bit (by decide)⟩
  · simp (disch := decide) [hoff]
  · refine Eq.trans ?_ hlost
    simp (disch := decide) [State.getBit]
  · simp (disch := decide) [hloss]

theorem busUsed_congr {x y : State} {b : Nat} (h : y.dv .CAN_RED 0 = x.dv .CAN_RED 0) : busUsed y b = busUsed x b := by
  rw [busUsed, busUsed, h]

/-- The loss of the only bus in use is a loss of communication. -/
theorem loseBus_due {b : Nat} {off : Bool} (hb : b < 2) (hin : s.getBit .CAN_LOST 0 b = false) (hused : busUsed s b = true)
    (hoff : s.get .CAN_OFF b = 1) (hother : busUsed s (1 - b) = false) : (loseBus s b off).get .COMM_DUE 0 = 1 := by
  have hmark : ∀ k, busUsed (markLost s b off) k = busUsed s k := fun k => busUsed_congr (by simp (disch := decide) [markLost])
  have hgone : (markLost s b off).flag .CAN_OFF b = true := by
    simp (disch := decide) [markLost, State.flag, hoff]
  have hall : allBusesLost (markLost s b off) = true := by
    simp only [allBusesLost, List.all_cons, List.all_nil, Bool.and_true, hmark]
    rcases (by omega : b = 0 ∨ b = 1) with rfl | rfl
    · simp [hgone, show busUsed s 1 = false from hother]
    · simp [hgone, show busUsed s 0 = false from hother]
  rw [loseBus_eq hin hused, if_pos hall]
  simp (disch := decide) [trunc]

/-! ## The commands -/

section
variable {t : Nat} {b : Fin 2}

theorem canBusOff_completes (hused : busUsed s b = true) (hon : s.get .CAN_OFF b = 0) (hin : s.getBit .CAN_LOST 0 b = false) :
    Completes (.canBusOff t b) s fun u =>
      u.get .CAN_OFF b = 1 ∧ u.getBit .CAN_LOST 0 b = true ∧ u.get .CAN_LOSS 0 = min (s.get .CAN_LOSS 0 + 1) 65535 ∧
      u.getBit .RED_LOST 0 3 = true ∧ (busUsed s (1 - b) = false → u.get .COMM_DUE 0 = 1) := by
  have hoff : (((s.atTick t).put .CAN_OFF b 1).put .CAN_GOOD_TICK b 0).get .CAN_OFF b = 1 := by
    simp (disch := decide) [trunc]
  have hin' : (((s.atTick t).put .CAN_OFF b 1).put .CAN_GOOD_TICK b 0).getBit .CAN_LOST 0 b = false := by
    simpa (disch := decide) [State.getBit] using hin
  have husedAt : ∀ k, busUsed (((s.atTick t).put .CAN_OFF b 1).put .CAN_GOOD_TICK b 0) k = busUsed s k := fun k =>
    busUsed_congr (by simp)
  have hloss : (((s.atTick t).put .CAN_OFF b 1).put .CAN_GOOD_TICK b 0).get .CAN_LOSS 0 = s.get .CAN_LOSS 0 := by
    simp (disch := decide)
  obtain ⟨hkeep, hlost, hcount, hred⟩ := loseBus_fields (off := true) b.isLt hin' ((husedAt b).trans hused)
  refine completes_eq (x := canBusOff (s.atTick t) b) rfl (if_neg ?_) ⟨hkeep.trans hoff, hlost, hloss ▸ hcount, hred, fun hother => ?_⟩
  · rw [busUsed_congr (dv_atTick s), hused, flag_atTick, State.flag, hon]
    simp
  · exact loseBus_due b.isLt hin' ((husedAt b).trans hused) hoff ((husedAt _).trans hother)

theorem canBusOff_idle (hoff : s.get .CAN_OFF b = 1) : Completes (.canBusOff t b) s fun u => u = s.atTick t :=
  completes_eq (x := canBusOff (s.atTick t) b) rfl (if_pos (.inr (by simp [State.flag, hoff]))) rfl

theorem canSilence_completes (hred : s.dv .CAN_RED 0 = 1) (hset : s.get .CAN_SILENT 0 ≠ 0) (hin : s.getBit .CAN_LOST 0 b = false)
    (hsilent : s.get .CAN_RX_TICK b + s.get .CAN_SILENT 0 * 160000 ≤ (s.atTick t).ts)
    (hother : s.get .CAN_RX_TICK b < s.get .CAN_RX_TICK (1 - b)) : Completes (.canSilenceTimeout t b) s fun u =>
      u.getBit .CAN_LOST 0 b = true ∧ u.get .CAN_LOSS 0 = min (s.get .CAN_LOSS 0 + 1) 65535 ∧ u.getBit .RED_LOST 0 3 = true := by
  have hused : busUsed (s.atTick t) b = true := by
    rw [busUsed_congr (dv_atTick s), busUsed, hred]
    simp
  obtain ⟨-, hlost, hcount, hredLost⟩ := loseBus_fields (s := s.atTick t) (off := false) b.isLt (getBit_atTick.trans hin) hused
  refine completes_eq (x := canSilence (s.atTick t) b) rfl (if_pos ?_) ⟨hlost, get_atTick s ▸ hcount, hredLost⟩
  simp only [dv_atTick, get_atTick, show ticksPerMs = 160000 from rfl]
  exact ⟨hred, Nat.mul_ne_zero hset (by decide), hsilent, hother⟩

theorem canSilence_idle (hred : s.dv .CAN_RED 0 = 0) : Completes (.canSilenceTimeout t b) s fun u => u = s.atTick t := by
  refine completes_eq (x := canSilence (s.atTick t) b) rfl (if_neg ?_) rfl
  rw [dv_atTick, hred]
  simp

/-- With one of the two buses not lost, some bus is lost where the other one is. -/
theorem lost_other {v b : Nat} (hv : v < 4) (hb : b < 2) (hbit : bit v b = false) : (v != 0) = bit v (1 - b) := by
  revert hbit
  rcases (by omega : b = 0 ∨ b = 1) with rfl | rfl <;> interval_cases v <;> decide

theorem canRestored_completes (hlost : s.getBit .CAN_LOST 0 b = true) (hon : s.get .CAN_OFF b = 0) (hgood : s.get .CAN_GOOD_TICK b ≠ 0)
    (hlong : s.get .CAN_GOOD_TICK b + 160000000 ≤ (s.atTick t).ts) : Completes (.canBusRestored t b) s fun u =>
      u.getBit .CAN_LOST 0 b = false ∧ u.getBit .RED_LOST 0 3 = s.getBit .CAN_LOST 0 (1 - b) := by
  have hbits : ∀ k < 2, ((s.atTick t).setBit .CAN_LOST 0 b false).getBit .CAN_LOST 0 k = if k = b then false else s.getBit .CAN_LOST 0 k :=
    fun k hk => (getBit_setBit hk).trans (by rw [getBit_atTick])
  have hclear : ((s.atTick t).setBit .CAN_LOST 0 b false).getBit .CAN_LOST 0 b = false := (hbits b b.isLt).trans (if_pos rfl)
  have hother : ((s.atTick t).setBit .CAN_LOST 0 b false).getBit .CAN_LOST 0 (1 - b) = s.getBit .CAN_LOST 0 (1 - b) :=
    (hbits _ (by omega)).trans (if_neg (by omega))
  have hposted : (((s.atTick t).setBit .CAN_LOST 0 b false).post 0x0D09 0x0 noSlot b).get .CAN_LOST 0 =
      ((s.atTick t).setBit .CAN_LOST 0 b false).get .CAN_LOST 0 := by
    simp (disch := decide)
  have hsmall : ((s.atTick t).setBit .CAN_LOST 0 b false).get .CAN_LOST 0 < 4 := by
    rw [State.setBit, get_put_same]
    exact Nat.mod_lt _ (by decide)
  refine completes_eq (x := canRestored (s.atTick t) b) rfl (if_pos ?_) ⟨?_, ?_⟩
  · rw [getBit_atTick, flag_atTick, get_atTick, show ticksPerSecond = 160000000 from rfl]
    exact ⟨hlost, by simp [State.flag, hon], hgood, hlong⟩
  · refine Eq.trans ?_ hclear
    simp (disch := decide) [State.getBit]
  · rw [setRedLost_bit (by decide), hposted, ← hother]
    exact lost_other hsmall b.isLt hclear

theorem canRestored_idle (hgood : s.get .CAN_GOOD_TICK b = 0) : Completes (.canBusRestored t b) s fun u => u = s.atTick t := by
  refine completes_eq (x := canRestored (s.atTick t) b) rfl (if_neg ?_) rfl
  rw [get_atTick, hgood]
  rintro ⟨-, -, hsince, -⟩
  exact hsince rfl

theorem busHears_atTick : busHears (s.atTick t) b = busHears s b := by
  rw [busHears, busHears, busUsed_congr (dv_atTick s), flag_atTick, getBit_atTick]

theorem canOverrun_completes (hhears : busHears s b = true) : Completes (.canReceiveOverrun t b) s fun u =>
    u.get .ERR_HIST 0 = 0x00FF8110 ∧ u.get .ERR_COUNT 0 = min 16 (s.get .ERR_COUNT 0 + 1) ∧ u.getBit .COMM_ERR 0 2 = false ∧
    PostsNone (s.atTick t) u := by
  obtain ⟨hhead, hcount, hover, hevents⟩ := commPass_fields (s := s.atTick t) (k := 2) (code := 0x8110) (by decide) (by decide) (by decide)
  exact completes_eq (x := canOverrun (s.atTick t) b) rfl (if_pos (busHears_atTick.trans hhears))
    ⟨hhead, hcount.trans (by rw [get_atTick]), hover, hevents⟩

theorem canOverrun_idle (hhears : busHears s b = false) : Completes (.canReceiveOverrun t b) s fun u => u = s.atTick t :=
  completes_eq (x := canOverrun (s.atTick t) b) rfl (if_neg (by rw [busHears_atTick, hhears]; decide)) rfl

theorem canRecovered_completes (hoff : s.get .CAN_OFF b = 1) : Completes (.canBusOffRecovered t b) s fun u =>
    u.get .CAN_OFF b = 0 ∧ u.get .ERR_HIST 0 = 0x00FF8140 ∧ u.getBit .COMM_ERR 0 1 = false ∧ PostsNone (s.atTick t) u := by
  obtain ⟨hhead, -, hover, hevents⟩ := commPass_fields (s := (s.atTick t).put .CAN_OFF b 0) (k := 1) (code := 0x8140) (by decide) (by decide)
    (by decide)
  refine completes_eq (x := canRecovered (s.atTick t) b) rfl (if_pos (by simp [State.flag, hoff])) ⟨?_, hhead, hover, ?_⟩
  · simp (disch := decide) [trunc]
  · exact SameEvents.trans (by simp (disch := decide)) hevents

theorem canRecovered_idle (hon : s.get .CAN_OFF b = 0) : Completes (.canBusOffRecovered t b) s fun u => u = s.atTick t :=
  completes_eq (x := canRecovered (s.atTick t) b) rfl (if_neg (by simp [State.flag, hon])) rfl

end

end

/-- Settles O46, clause by clause. -/
theorem canBuses : Obligations.CanBuses := by
  unfold Obligations.CanBuses
  exact ⟨fun _ _ _ => canBusOff_completes, fun _ _ _ => canBusOff_idle, fun _ _ _ => canSilence_completes, fun _ _ _ => canSilence_idle,
    fun _ _ _ => canRestored_completes, fun _ _ _ => canRestored_idle, fun _ _ _ => canOverrun_completes, fun _ _ _ => canOverrun_idle,
    fun _ _ _ => canRecovered_completes, fun _ _ _ => canRecovered_idle⟩

end Sys2Proof.Proofs
end

section
/-! What a slot's fault, quick stop or disable-voltage leaves of another slot. -/

namespace Sys2Proof.Proofs

open Machine Laws

/-- What the reactions of one slot ask of it. -/
def reactionRegs : List Reg :=
  [.DRIVE_STATE, .AFTER_STOP, .FAULT_CAUSE, .PWR_STATE, .QSTOP_OPTION, .ABORT_OPTION, .SB_CMD, .ROLE_ACT, .LINK_STATE]

/-- A slot stands in `x` as it stood in `s`, with what its reactions depend on. -/
structure SlotSame (i : Nat) (s x : State) : Prop where
  own : ∀ r ∈ reactionRegs, x.get r i = s.get r i
  device : ∀ r ∈ [Reg.SB_CMD, .ROLE_ACT, .LINK_STATE], x.get r 0 = s.get r 0
  axis : x.dv .AX_DN i = s.dv .AX_DN i

section
variable {s x : State} {i k : Nat}

theorem SlotSame.refl : SlotSame i s s := ⟨fun _ _ => rfl, fun _ _ => rfl, rfl⟩

theorem SlotSame.trans {y : State} (h : SlotSame i s x) (g : SlotSame i x y) : SlotSame i s y :=
  ⟨fun r hr => (g.own r hr).trans (h.own r hr), fun r hr => (g.device r hr).trans (h.device r hr), g.axis.trans h.axis⟩

theorem slotSame_kept (i : Nat) (s : State) :
    Kept ⟨Nat.xor rall (rbits reactionRegs), Nat.xor rall (rbits [.AX_DN]), 0x7ff⟩ (SlotSame i s) :=
  kept_of_fields reactionRegs [.AX_DN] fun x y hregs hdevs _ h =>
    h.trans ⟨fun r hr => hregs r hr i, fun r hr => hregs r (List.mem_of_mem_drop (i := 6) hr) 0, hdevs .AX_DN (by decide) i⟩

/-- A register of one slot is no register of another. -/
theorem slotSame_put {r : Reg} {v : Nat} (hik : i ≠ k) (hr : r ∉ [Reg.SB_CMD, .ROLE_ACT, .LINK_STATE]) (h : SlotSame i s x) :
    SlotSame i s (x.put r k v) :=
  h.trans ⟨fun _ _ => get_set_reg (.inr fun e => hik e.symm), fun _ hr' => get_put_reg x fun e => hr (e ▸ hr'), rfl⟩

theorem slotSame_setBit {r : Reg} {j : Nat} {b : Bool} (hik : i ≠ k) (hr : r ∉ [Reg.SB_CMD, .ROLE_ACT, .LINK_STATE]) (h : SlotSame i s x) :
    SlotSame i s (x.setBit r k j b) := slotSame_put hik hr h

theorem slotSame_clearAll {rs : List Reg} (hik : i ≠ k) (hr : ∀ r ∈ rs, r ∉ [Reg.SB_CMD, .ROLE_ACT, .LINK_STATE]) (h : SlotSame i s x) :
    SlotSame i s (x.clearAll rs k) :=
  keep_foldl_mem (fun _ r hmem hy => slotSame_put hik (hr r hmem) hy) h

theorem slotSame_cutMotion (hik : i ≠ k) (h : SlotSame i s x) : SlotSame i s (cutMotion x k) := by
  have hk := slotSame_kept i s
  refine keep_homingAbort hk.le (keep_restRegulator hk.le (keep_probeAbort hk.le (slotSame_clearAll hik (by decide) (slotSame_put hik (by decide)
    (keep_State_puti hk.le (keep_publish hk.le (keep_State_setMo hk.le (keep_stripCancel hk.le (keep_leaveSegmentMode hk.le h)))))))))

theorem slotSame_driveDown {ds : Nat} (hik : i ≠ k) (h : SlotSame i s x) : SlotSame i s (driveDown x k ds) := by
  have hk := slotSame_kept i s
  have hdown : SlotSame i s (restDevelop (((cutMotion x k).put .DRIVE_STATE k ds).setBit .PWR_STATE k 3 false) k) :=
    keep_restDevelop hk.le (slotSame_setBit hik (by decide) (slotSame_put hik (by decide) (slotSame_cutMotion hik h)))
  exact keep_ite (keep_slotPortsOff hk.le hdown) hdown

theorem slotSame_leaveRide {ds : Nat} (hik : i ≠ k) (h : SlotSame i s x) : SlotSame i s (leaveRide x k ds) :=
  keep_restDevelop (slotSame_kept i s).le (slotSame_put hik (by decide) (slotSame_setBit hik (by decide) h))

theorem slotSame_enterReaction {cause arg : Nat} (hik : i ≠ k) (h : SlotSame i s x) : SlotSame i s (enterReaction x k cause arg) := by
  have hk := slotSame_kept i s
  have hpost : SlotSame i s (if gdCause cause then x.post 0x0900 0x3 k arg else x) := keep_ite (keep_State_post hk.le h) h
  refine keep_ite hpost (keep_judgeFaultn hk.le (keep_State_emcy hk.le ?_))
  exact slotSame_setBit hik (by decide) (slotSame_put hik (by decide) (slotSame_put hik (by decide) (keep_stripCancel hk.le hpost)))

theorem slotSame_plannedFault {cause rate : Nat} (hik : i ≠ k) (h : SlotSame i s x) : SlotSame i s (plannedFault x k cause rate) := by
  have hk := slotSame_kept i s
  have hreact := slotSame_enterReaction (cause := cause) (arg := 0) hik h
  refine keep_ite h (keep_ite (slotSame_put hik (by decide) (keep_requestStop hk.le (keep_leaveSources hk.le (keep_homingAbort hk.le
    (keep_probeAbort hk.le hreact))))) (keep_judgeFaultn hk.le (slotSame_driveDown hik hreact)))

theorem slotSame_cmdQuickStop (hik : i ≠ k) (h : SlotSame i s x) : SlotSame i s (cmdQuickStop x k) := by
  have hk := slotSame_kept i s
  refine keep_ite h (keep_ite (slotSame_leaveRide hik h) (keep_ite (keep_ite (slotSame_driveDown hik h) ?_) h))
  exact slotSame_put hik (by decide) (keep_requestStop hk.le (slotSame_put hik (by decide) (keep_leaveSources hk.le (keep_homingAbort hk.le
    (keep_stripCancel hk.le h)))))

theorem slotSame_cmdDisableVoltage (hik : i ≠ k) (h : SlotSame i s x) : SlotSame i s (cmdDisableVoltage x k) :=
  keep_ite h (keep_ite (slotSame_leaveRide hik h) (slotSame_driveDown hik h))

/-! ## The slot itself -/

/-- A quick stop with a deceleration: the slot decelerates in Quick stop active. -/
theorem cmdQuickStop_own (hcmd : s.getBit .SB_CMD 0 i = false) (hride : rideThrough s i = false) (hdrive : s.drive i = dsEnabled)
    (hoption : s.geti .QSTOP_OPTION i ≠ 0) : (cmdQuickStop s i).get .DRIVE_STATE i = dsQuickStop := by
  have hcmd' : sbHolds s i = false := hcmd
  rw [cmdQuickStop, if_neg (by simp [hcmd']), if_neg (by simp [hride]), if_pos hdrive]
  dsimp only
  rw [if_neg hoption]
  simp (disch := decide) [dsQuickStop, trunc]

theorem cmdDisableVoltage_own (hcmd : s.getBit .SB_CMD 0 i = false) (hride : rideThrough s i = false) (hdrive : s.drive i = dsEnabled) :
    (cmdDisableVoltage s i).get .DRIVE_STATE i = dsSwitchOnDisabled := by
  have hcmd' : sbHolds s i = false := hcmd
  have hgo : ¬(sbHolds s i = true ∨ slotFaulted s i = true ∨ s.drive i = 0) := by
    simp [hcmd', slotFaulted, hdrive, dsEnabled, dsFaultReaction, dsFault]
  rw [cmdDisableVoltage, if_neg hgo, if_neg (by simp [hride])]
  simp (disch := decide) [driveDown, dsSwitchOnDisabled, trunc]

/-! ## What follows of a slot that stands as it stood -/

section
variable (h : SlotSame i s x)
include h

theorem SlotSame.drive_eq : x.drive i = s.drive i := h.own .DRIVE_STATE (by decide)

theorem SlotSame.ride_eq : rideThrough x i = rideThrough s i := congrArg (bit · 3) (h.own .PWR_STATE (by decide))

theorem SlotSame.cmd_eq : x.getBit .SB_CMD 0 i = s.getBit .SB_CMD 0 i := congrArg (bit · i) (h.device .SB_CMD (by decide))

theorem SlotSame.qstop_eq : x.geti .QSTOP_OPTION i = s.geti .QSTOP_OPTION i := congrArg (toSigned _) (h.own .QSTOP_OPTION (by decide))

theorem SlotSame.abort_eq : x.geti .ABORT_OPTION i = s.geti .ABORT_OPTION i := congrArg (toSigned _) (h.own .ABORT_OPTION (by decide))

theorem SlotSame.inRing_eq : inRing x i = inRing s i := by
  rw [inRing, inRing, h.device .ROLE_ACT (by decide), h.device .LINK_STATE (by decide), h.axis]

end

end

end Sys2Proof.Proofs
end

section
/-! O47: network management. -/

namespace Sys2Proof.Proofs

open Machine Laws

section
variable {s : State} {b node : Nat}

/-! ## Frames for this node -/

/-- Outside redundant mode every frame that the node hears is taken. -/
theorem takeFrame_heard {id : Nat} {data : List Nat} (hhears : busHears s b = true) (hsingle : s.dv .CAN_RED 0 = 0) :
    takeFrame s b id data = (heard s b, true) := by
  have hplain : (heard s b).dv .CAN_RED 0 ≠ 1 := by
    rw [dv_heard (by decide), hsingle]
    decide
  rw [takeFrame, if_neg (by simp [hhears]), if_pos hplain]

/-- The state of the NMT state machine lets commands in. -/
def nmtListens (s : State) : Prop := s.get .NMT_STATE 0 = nmtPreOp ∨ s.get .NMT_STATE 0 = nmtOperational ∨ s.get .NMT_STATE 0 = nmtStopped

theorem nmtFrame_taken {cs : Nat} {f : State → State} (hhears : busHears s b = true) (hsingle : s.dv .CAN_RED 0 = 0)
    (hnode : nmtFor s node = true) (hlistens : nmtListens s) : nmtFrame s b cs node f = f (heard s b) := by
  have hstate : (heard s b).get .NMT_STATE 0 = s.get .NMT_STATE 0 := get_heard (by decide)
  have hfor : nmtFor (heard s b) node = true := by
    rwa [nmtFor, get_heard (by decide)]
  rw [nmtFrame, takeFrame_heard hhears hsingle]
  dsimp only
  rw [hstate]
  exact if_pos ⟨rfl, hfor, hlistens⟩

/-- A frame for another node leaves the state machine alone. -/
theorem nmtFrame_other {cs : Nat} {f : State → State} {r : Reg} (hr : r = .NMT_STATE ∨ r = .COMM_DUE) (hnode : nmtFor s node = false) :
    (nmtFrame s b cs node f).get r 0 = s.get r 0 := by
  have hkeep : (takeFrame s b 0 [cs, node]).1.get r 0 = s.get r 0 := by
    rcases hr with rfl | rfl <;> exact get_takeFrame (by decide)
  have hfor : nmtFor (takeFrame s b 0 [cs, node]).1 node = false := by
    rwa [nmtFor, get_takeFrame (by decide)]
  rw [nmtFrame]
  dsimp only
  rw [if_neg (by simp [hfor]), hkeep]

/-! ## The state machine -/

theorem setNmt_state {st : Nat} (hst : st < 8) : (setNmt s st).get .NMT_STATE 0 = st :=
  (get_put_same _).trans (trunc_of_lt (show st < 2 ^ Reg.width .NMT_STATE by simp; omega))

/-- Leaving Operational is a loss of communication. -/
theorem setNmt_due {st : Nat} : (setNmt s st).get .COMM_DUE 0 = if operational s ∧ st ≠ nmtOperational then 1 else s.get .COMM_DUE 0 := by
  have hclear : ∀ x : State, ((List.range 32).foldl (fun a n => a.clearAll [.TPDO_CNT, .TPDO_STARTED, .TPDO_SENT, .RPDO_WAIT] n) x).get .COMM_DUE 0 =
      x.get .COMM_DUE 0 := fun x => foldl_keep (fun _ _ => get_clearAll (by decide)) _ x
  unfold setNmt
  extract_lets x y
  have hx : x.get .COMM_DUE 0 = if operational s ∧ st ≠ nmtOperational then 1 else s.get .COMM_DUE 0 := by
    dsimp only [x]
    split
    · exact get_put_same s
    · rfl
  have hy : y.get .COMM_DUE 0 = x.get .COMM_DUE 0 := by
    dsimp only [y]
    split
    · exact hclear x
    · rfl
  exact (get_put_reg y (by decide)).trans (hy.trans hx)

/-- The state after a boot-up. -/
theorem bootUp_state : (bootUp s).get .NMT_STATE 0 =
    if (bootUp s).get .NODE_ID_ACT 0 = 0xFF then nmtLss else if (bootUp s).get .NMT_STARTUP 0 = 4 then nmtOperational else nmtPreOp := by
  have hnode : (bootUp s).get .NODE_ID_ACT 0 = s.get .NODE_ID_ACT 0 := by simp (disch := decide)
  have hstart : (bootUp s).get .NMT_STARTUP 0 = s.get .NMT_STARTUP 0 := by simp (disch := decide)
  rw [hnode, hstart, bootUp]
  split
  · exact get_put_same s
  · dsimp only
    have hstart' : ∀ x d st, (((s.sendCan x d).put .NMT_STATE 0 st).get .NMT_STARTUP 0) = s.get .NMT_STARTUP 0 := by
      intro x d st
      simp (disch := decide)
    rw [hstart']
    split
    · exact setNmt_state (by decide)
    · exact get_put_same _

/-! ## The commands -/

/-- What the statement asks of a frame for this node. -/
structure NmtFor (s : State) (b : Fin 2) (node : Nat) : Prop where
  hears : busHears s b = true
  single : s.dv .CAN_RED 0 = 0
  ours : nmtFor s node = true
  listens : nmtListens s

section
variable {t : Nat} {b : Fin 2}

theorem nmtFor_atTick : nmtFor (s.atTick t) node = nmtFor s node := by
  rw [nmtFor, nmtFor, get_atTick]

/-- The state in which a frame for this node acts. -/
abbrev framed (s : State) (t : Nat) (b : Fin 2) : State := heard (s.atTick t) b

theorem NmtFor.run {cs : Nat} {f : State → State} (h : NmtFor s b node) : nmtFrame (s.atTick t) b cs node f = f (framed s t b) := by
  obtain ⟨hhears, hsingle, hnode, hlistens⟩ := h
  refine nmtFrame_taken (busHears_atTick.trans hhears) ((dv_atTick s).trans hsingle) (nmtFor_atTick.trans hnode) ?_
  rwa [nmtListens, get_atTick]

theorem operational_framed : operational (framed s t b) = operational s := by
  rw [operational, operational, get_heard (by decide), get_atTick]

theorem due_framed : (framed s t b).get .COMM_DUE 0 = s.get .COMM_DUE 0 := (get_heard (by decide)).trans (get_atTick s)

theorem nmtStart_completes (h : NmtFor s b node) : Completes (.nmtStart t b node) s fun u =>
    u.get .NMT_STATE 0 = nmtOperational ∧ u.get .COMM_DUE 0 = s.get .COMM_DUE 0 :=
  completes_eq rfl h.run ⟨setNmt_state (by decide), setNmt_due.trans ((if_neg (fun hleave => hleave.2 rfl)).trans due_framed)⟩

/-- A command that leaves Operational. -/
theorem setNmt_leaves {st : Nat} (hst : st < 8) (hleave : st ≠ nmtOperational) :
    (setNmt (framed s t b) st).get .NMT_STATE 0 = st ∧
    (s.get .NMT_STATE 0 = nmtOperational → (setNmt (framed s t b) st).get .COMM_DUE 0 = 1) := by
  refine ⟨setNmt_state hst, fun hop => setNmt_due.trans (if_pos ⟨?_, hleave⟩)⟩
  rw [operational_framed, operational, hop]
  rfl

theorem nmtStop_completes (h : NmtFor s b node) : Completes (.nmtStop t b node) s fun u =>
    u.get .NMT_STATE 0 = nmtStopped ∧ (s.get .NMT_STATE 0 = nmtOperational → u.get .COMM_DUE 0 = 1) :=
  completes_eq rfl h.run (setNmt_leaves (by decide) (by decide))

theorem nmtEnterPreOperational_completes (h : NmtFor s b node) : Completes (.nmtEnterPreOperational t b node) s fun u =>
    u.get .NMT_STATE 0 = nmtPreOp ∧ (s.get .NMT_STATE 0 = nmtOperational → u.get .COMM_DUE 0 = 1) :=
  completes_eq rfl h.run (setNmt_leaves (by decide) (by decide))

theorem nmtStart_other (h : nmtFor s node = false) : Completes (.nmtStart t b node) s fun u =>
    u.get .NMT_STATE 0 = s.get .NMT_STATE 0 ∧ u.get .COMM_DUE 0 = s.get .COMM_DUE 0 :=
  next_completes rfl ⟨(nmtFrame_other (.inl rfl) (nmtFor_atTick.trans h)).trans (get_atTick s),
    (nmtFrame_other (.inr rfl) (nmtFor_atTick.trans h)).trans (get_atTick s)⟩

theorem nmtResetCommunication_completes (h : NmtFor s b node) : Completes (.nmtResetCommunication t b node) s fun u =>
    u.get .NMT_STATE 0 = if u.get .NODE_ID_ACT 0 = 0xFF then nmtLss else if u.get .NMT_STARTUP 0 = 4 then nmtOperational else nmtPreOp :=
  completes_eq rfl h.run bootUp_state

/-! ## Reset node -/

/-- Reset node at one slot. -/
def stopForReset (a : State) (i : Nat) : State :=
  if a.opEnabled i then
    let a := cmdQuickStop a i
    if a.drive i = dsQuickStop then a.put .AFTER_STOP i 3 else a
  else a

theorem resetNode_eq : resetNode s = ((List.range 8).foldl stopForReset s).put .RESET_NODE 0 1 := rfl

theorem slotSame_stopForReset {x : State} {i k : Nat} (hik : i ≠ k) (h : SlotSame i s x) : SlotSame i s (stopForReset x k) :=
  keep_ite (keep_ite (slotSame_put hik (by decide) (slotSame_cmdQuickStop hik h)) (slotSame_cmdQuickStop hik h)) h

/-- Every enabled slot that has a deceleration stops, and is to go to Switch on disabled. -/
theorem resetNode_stops {i : Nat} (hi : i < 8) (hen : s.opEnabled i = true) (hcmd : s.getBit .SB_CMD 0 i = false)
    (hride : rideThrough s i = false) (hoption : s.geti .QSTOP_OPTION i ≠ 0) :
    (resetNode s).get .DRIVE_STATE i = dsQuickStop ∧ (resetNode s).get .AFTER_STOP i = 3 := by
  have hfold : ((List.range 8).foldl stopForReset s).get .DRIVE_STATE i = dsQuickStop ∧
      ((List.range 8).foldl stopForReset s).get .AFTER_STOP i = 3 := by
    refine foldl_visit (P := SlotSame i s) (Q := fun x => x.get .DRIVE_STATE i = dsQuickStop ∧ x.get .AFTER_STOP i = 3)
      (List.mem_range.mpr hi) List.nodup_range (fun x k hk hx => slotSame_stopForReset hk.symm hx) (fun x hx => ?_) (fun x k hk hx => ?_) .refl
    · have hdrive : x.drive i = dsEnabled := hx.drive_eq.trans (by simpa [State.opEnabled] using hen)
      have hstop := cmdQuickStop_own (hx.cmd_eq.trans hcmd) (hx.ride_eq.trans hride) hdrive (by rwa [hx.qstop_eq])
      rw [stopForReset, if_pos (by simp [State.opEnabled, hdrive])]
      dsimp only
      rw [if_pos (show (cmdQuickStop x i).drive i = dsQuickStop from hstop)]
      exact ⟨(get_put_reg _ (by decide)).trans hstop, get_put_same _⟩
    · have hsame := slotSame_stopForReset hk.symm (.refl (s := x) (i := i))
      exact ⟨(hsame.own .DRIVE_STATE (by decide)).trans hx.1, (hsame.own .AFTER_STOP (by decide)).trans hx.2⟩
  rw [resetNode_eq, get_put_reg _ (by decide), get_put_reg _ (by decide)]
  exact hfold

theorem slotSame_framed {i : Nat} : SlotSame i s (framed s t b) := by
  have hk := slotSame_kept i s
  exact keep_heard hk.le (SlotSame.refl.trans ⟨fun _ _ => get_atTick s, fun _ _ => get_atTick s, dv_atTick s⟩)

theorem nmtResetNode_completes (h : NmtFor s b node) : Completes (.nmtResetNode t b node) s fun u =>
    u.get .RESET_NODE 0 = 1 ∧ ∀ i < 8, s.opEnabled i = true → s.getBit .SB_CMD 0 i = false → rideThrough s i = false →
      s.geti .QSTOP_OPTION i ≠ 0 → u.get .DRIVE_STATE i = dsQuickStop ∧ u.get .AFTER_STOP i = 3 := by
  refine completes_eq rfl h.run ⟨get_put_same _, fun i hi hen hcmd hride hoption => ?_⟩
  have hsame := slotSame_framed (s := s) (t := t) (b := b) (i := i)
  exact resetNode_stops hi (by rwa [State.opEnabled, hsame.drive_eq]) (hsame.cmd_eq.trans hcmd) (hsame.ride_eq.trans hride)
    (by rwa [hsame.qstop_eq])

/-- No parameter is the mark of a reset node. -/
theorem get_defaultsWhere_mark {p : ObjRow → Nat → Nat → Bool} : (defaultsWhere s p).get .RESET_NODE 0 = s.get .RESET_NODE 0 := by
  have htable : ∀ row ∈ objRows, ∀ q ∈ row.parts, q.reg ≠ .RESET_NODE := by decide +kernel
  refine keep_foldl_mem (P := fun x : State => x.get .RESET_NODE 0 = s.get .RESET_NODE 0) (fun x y hy hx => ?_) rfl
  have hrow : y.1 ∈ objRows := by
    simp only [parameters, List.mem_flatMap, List.mem_map] at hy
    obtain ⟨row, hrow, z, -, rfl⟩ := hy
    exact hrow
  split
  · exact keep_foldl_mem (P := fun x : State => x.get .RESET_NODE 0 = s.get .RESET_NODE 0)
      (fun z q hq hz => (get_clear_reg (htable y.1 hrow q hq).symm).trans hz) hx
  · exact hx

theorem get_applyEntries_mark {es : List ObjEntry} : (applyEntries s es).get .RESET_NODE 0 = s.get .RESET_NODE 0 :=
  keep_applyEntries_open (hidden_kept s (by decide)) (fun _ => rfl) 0

theorem get_resetCommunication_mark : (resetCommunication s).get .RESET_NODE 0 = s.get .RESET_NODE 0 := by
  have hreload : ∀ x : State, (reloadComm x).get .RESET_NODE 0 = x.get .RESET_NODE 0 := by
    intro x
    simp (disch := decide) [reloadComm, get_applyEntries_mark, get_defaultsWhere_mark]
  have hids : ∀ (x : State) (c : Prop) [Decidable c] es, (if c then applyEntries x es else x).get .RESET_NODE 0 = x.get .RESET_NODE 0 := by
    intro x c _ es
    split
    · exact get_applyEntries_mark
    · rfl
  rw [resetCommunication, get_bootUp (by decide), hreload, get_developCan (by decide), get_put_reg _ (by decide), hids]

theorem resetNodeReload_completes (hdue : s.get .RESET_NODE 0 = 1) (hstand : ∀ i < 8, s.slotDisabled i = true) :
    Completes (.resetNodeReload t) s fun u => u.get .RESET_NODE 0 = 0 ∧
      u.get .NMT_STATE 0 = if u.get .NODE_ID_ACT 0 = 0xFF then nmtLss else if u.get .NMT_STARTUP 0 = 4 then nmtOperational else nmtPreOp := by
  have hmark : (s.atTick t).flag .RESET_NODE 0 = true := by simp [State.flag, hdue]
  have hstill : ((List.range 8).all fun i => (s.atTick t).slotDisabled i || (s.atTick t).flag .STILL_CMD i) = true := by
    simp only [List.all_eq_true, List.mem_range, Bool.or_eq_true]
    intro i hi
    exact .inl (by simpa [State.slotDisabled, State.drive] using hstand i hi)
  have hdown : ((List.range 8).all fun i => (s.atTick t).drive i != dsEnabled && (s.atTick t).drive i != dsQuickStop) = true := by
    simp only [List.all_eq_true, List.mem_range, State.drive, get_atTick]
    intro i hi
    have hdisabled := hstand i hi
    simp only [State.slotDisabled, State.drive, Bool.or_eq_true, beq_iff_eq] at hdisabled
    rcases hdisabled with (h | h) | h <;> rw [h] <;> decide
  refine completes_eq (x := resetNodeReload (s.atTick t)) rfl (if_pos ⟨hmark, hstill, hdown⟩) ⟨?_, bootUp_state⟩
  rw [get_resetCommunication_mark, reloadOpen, get_applyEntries_mark, get_defaultsWhere_mark]
  exact get_put_same _

theorem resetNodeReload_idle (hdue : s.get .RESET_NODE 0 = 0) : Completes (.resetNodeReload t) s fun u => u = s.atTick t := by
  refine completes_eq (x := resetNodeReload (s.atTick t)) rfl (if_neg ?_) rfl
  simp [State.flag, hdue]

end

end

/-- Settles O47, clause by clause. -/
theorem networkManagement : Obligations.NetworkManagement := by
  unfold Obligations.NetworkManagement
  exact ⟨fun _ _ _ _ hhears hsingle hnode hstate => nmtStart_completes ⟨hhears, hsingle, hnode, hstate⟩,
    fun _ _ _ _ hhears hsingle hnode hstate => nmtStop_completes ⟨hhears, hsingle, hnode, hstate⟩,
    fun _ _ _ _ hhears hsingle hnode hstate => nmtEnterPreOperational_completes ⟨hhears, hsingle, hnode, hstate⟩,
    fun _ _ _ _ => nmtStart_other,
    fun _ _ _ _ hhears hsingle hnode hstate => nmtResetCommunication_completes ⟨hhears, hsingle, hnode, hstate⟩,
    fun _ _ _ _ hhears hsingle hnode hstate => nmtResetNode_completes ⟨hhears, hsingle, hnode, hstate⟩,
    fun _ _ => resetNodeReload_completes, fun _ _ => resetNodeReload_idle⟩

end Sys2Proof.Proofs
end

section
/-! O50: losing communication; store and restore parameters. -/

namespace Sys2Proof.Proofs

open Machine Laws

section
variable {s x : State} {i k : Nat}

/-! ## The report of heartbeats that time out -/

/-- One consumed heartbeat that has timed out. -/
def reportHeartbeat (a : State) (k : Nat) : State := commError (a.put .HBC_LOST k 1) 0 0x8130 0

/-- The state after every report. -/
def reported (s : State) : State := (heartbeatsDue s).foldl reportHeartbeat s

theorem get_reportHeartbeat {r : Reg} {j : Nat} (hlost : r ≠ .HBC_LOST)
    (herr : ∀ y : State, (commError y 0 0x8130 0).get r j = y.get r j) : (reportHeartbeat s k).get r j = s.get r j :=
  (herr _).trans (get_put_reg s hlost)

theorem get_reported {r : Reg} {j : Nat} (hlost : r ≠ .HBC_LOST) (herr : ∀ y : State, (commError y 0 0x8130 0).get r j = y.get r j) :
    (reported s).get r j = s.get r j := foldl_keep (fun _ _ => get_reportHeartbeat hlost herr) _ s

theorem slotSame_reported : SlotSame i s (reported s) := by
  have hk := slotSame_kept i s
  exact keep_foldl (fun _ _ h => keep_commError hk.le (keep_State_put hk.le h)) .refl

theorem hbcLost_reported (hk : k ∈ heartbeatsDue s) : (reported s).get .HBC_LOST k = 1 := by
  refine foldl_reaches (Q := fun x => x.get .HBC_LOST k = 1) hk (fun x j _ hx => ?_) fun x => ?_
  · by_cases hj : j = k
    · subst hj
      exact (get_commError (by decide)).trans (get_put_same x)
    · exact (get_commError (by decide)).trans ((get_put_inst x (Ne.symm hj)).trans hx)
  · exact (get_commError (by decide)).trans (get_put_same x)

theorem commErr_reported (hdue : heartbeatsDue s ≠ []) : (reported s).getBit .COMM_ERR 0 0 = true := by
  obtain ⟨k, hk⟩ := List.exists_mem_of_ne_nil _ hdue
  exact foldl_reaches (Q := fun x => x.getBit .COMM_ERR 0 0 = true) hk (fun x j _ _ => commError_bit (by decide)) fun x => commError_bit (by decide)

/-! ## What a slot does -/

/-- ABORT_OPTION at one slot. -/
def abortSlot (a : State) (i : Nat) : State :=
  if a.drive i == dsEnabled && !inRing a i then
    let o := a.geti .ABORT_OPTION i
    if o = 1 then plannedFault a i 0x17 (a.get .QUICK_STOP_DEC i)
    else if o = 2 then cmdDisableVoltage a i
    else if o = 3 then cmdQuickStop a i
    else a
  else a

theorem loseCommunication_eq : loseCommunication s = (List.range 8).foldl abortSlot s := rfl

theorem slotSame_abortSlot (hik : i ≠ k) (h : SlotSame i s x) : SlotSame i s (abortSlot x k) :=
  keep_ite (keep_ite (slotSame_plannedFault hik h) (keep_ite (slotSame_cmdDisableVoltage hik h)
    (keep_ite (slotSame_cmdQuickStop hik h) h))) h

/-- The slot has done what its ABORT_OPTION says. -/
structure Aborted (s : State) (i : Nat) (u : State) : Prop where
  fault : s.geti .ABORT_OPTION i = 1 → u.get .FAULT_CAUSE i = 0x17
  down : s.geti .ABORT_OPTION i = 2 → s.getBit .SB_CMD 0 i = false → rideThrough s i = false → u.get .DRIVE_STATE i = dsSwitchOnDisabled
  stop : s.geti .ABORT_OPTION i = 3 → s.getBit .SB_CMD 0 i = false → rideThrough s i = false → s.geti .QSTOP_OPTION i = 2 →
    u.get .DRIVE_STATE i = dsQuickStop
  none : s.geti .ABORT_OPTION i = 0 → u.get .DRIVE_STATE i = dsEnabled

theorem aborted_abortSlot (h : SlotSame i s x) (hdrive : s.get .DRIVE_STATE i = dsEnabled) (hring : inRing s i = false) :
    Aborted s i (abortSlot x i) := by
  have hdrive' : x.drive i = dsEnabled := h.drive_eq.trans hdrive
  have hact : (x.drive i == dsEnabled && !inRing x i) = true := by
    rw [h.inRing_eq, hring, hdrive']
    rfl
  have hnofault : slotFaulted x i = false := by
    rw [slotFaulted, hdrive']
    rfl
  rw [abortSlot, if_pos hact]
  dsimp only
  rw [h.abort_eq]
  constructor
  · intro ho
    rw [if_pos ho]
    exact (pf_cause hnofault (by decide)).1
  · intro ho hcmd hride
    rw [if_neg (by omega), if_pos ho]
    exact cmdDisableVoltage_own (h.cmd_eq.trans hcmd) (h.ride_eq.trans hride) hdrive'
  · intro ho hcmd hride hoption
    rw [if_neg (by omega), if_neg (by omega), if_pos ho]
    exact cmdQuickStop_own (h.cmd_eq.trans hcmd) (h.ride_eq.trans hride) hdrive' (by rw [h.qstop_eq, hoption]; decide)
  · intro ho
    rw [if_neg (by omega), if_neg (by omega), if_neg (by omega)]
    exact hdrive'

theorem Aborted.keep {y : State} (h : Aborted s i x) (hsame : SlotSame i x y) : Aborted s i y := by
  have hcause := hsame.own .FAULT_CAUSE (by decide)
  have hdrive := hsame.own .DRIVE_STATE (by decide)
  exact ⟨fun ho => hcause.trans (h.fault ho), fun ho hcmd hride => hdrive.trans (h.down ho hcmd hride),
    fun ho hcmd hride hoption => hdrive.trans (h.stop ho hcmd hride hoption), fun ho => hdrive.trans (h.none ho)⟩

/-- Every enabled slot outside the ring does what its ABORT_OPTION says. -/
theorem aborted_loseCommunication (h : SlotSame i s x) (hi : i < 8) (hdrive : s.get .DRIVE_STATE i = dsEnabled) (hring : inRing s i = false) :
    Aborted s i (loseCommunication x) := by
  rw [loseCommunication_eq]
  exact foldl_visit (P := SlotSame i s) (Q := Aborted s i) (List.mem_range.mpr hi) List.nodup_range
    (fun _ _ hk hx => slotSame_abortSlot hk.symm hx) (fun _ hx => aborted_abortSlot hx hdrive hring)
    (fun _ _ hk hx => hx.keep (slotSame_abortSlot hk.symm .refl)) h

/-! ## COMMUNICATION_LOSS -/

/-- A loss of communication that is due. -/
theorem communicationLoss_due (h : s.get .COMM_DUE 0 = 1 ∨ heartbeatsDue s ≠ []) :
    communicationLoss s = loseCommunication ((errorBehaviour (reported s)).put .COMM_DUE 0 0) := by
  refine if_neg ?_
  rintro ⟨hnone, hflag⟩
  have hdue : (reported s).get .COMM_DUE 0 = s.get .COMM_DUE 0 := get_reported (by decide) fun y => get_commError (by decide)
  rw [State.flag, show (List.foldl (fun a k => commError (a.put .HBC_LOST k 1) 0 0x8130 0) s (heartbeatsDue s)) = reported s from rfl, hdue,
    h.resolve_right (not_not.mpr hnone)] at hflag
  exact absurd hflag (by decide)

theorem communicationLoss_idle {t : Nat} (hno : s.get .COMM_DUE 0 = 0) (hnone : heartbeatsDue (s.atTick t) = []) :
    Completes (.communicationLoss t) s fun u => u = s.atTick t := by
  refine completes_eq (x := communicationLoss (s.atTick t)) rfl ?_ rfl
  rw [communicationLoss, hnone]
  exact if_pos ⟨rfl, by simp [State.flag, hno]⟩

theorem communicationLoss_completes {t : Nat} (h : s.get .COMM_DUE 0 = 1 ∨ heartbeatsDue (s.atTick t) ≠ []) :
    Completes (.communicationLoss t) s fun u =>
    u.get .COMM_DUE 0 = 0 ∧ (∀ k ∈ heartbeatsDue (s.atTick t), u.get .HBC_LOST k = 1) ∧
    ∀ i < 8, s.get .DRIVE_STATE i = dsEnabled → inRing s i = false → 
      (s.geti .ABORT_OPTION i = 1 → u.get .FAULT_CAUSE i = 0x17) ∧
      (s.geti .ABORT_OPTION i = 2 → s.getBit .SB_CMD 0 i = false → rideThrough s i = false → u.get .DRIVE_STATE i = dsSwitchOnDisabled) ∧
      (s.geti .ABORT_OPTION i = 3 → s.getBit .SB_CMD 0 i = false → rideThrough s i = false → s.geti .QSTOP_OPTION i = 2 →
        u.get .DRIVE_STATE i = dsQuickStop) ∧
      (s.geti .ABORT_OPTION i = 0 → u.get .DRIVE_STATE i = dsEnabled) := by
  have hdue : (s.atTick t).get .COMM_DUE 0 = 1 ∨ heartbeatsDue (s.atTick t) ≠ [] := by rwa [get_atTick]
  refine completes_eq (x := communicationLoss (s.atTick t)) rfl (communicationLoss_due hdue) ⟨?_, fun k hk => ?_, fun i hi hdrive hring => ?_⟩
  · exact (get_loseCommunication (by decide)).trans (get_put_same _)
  · rw [get_loseCommunication (by decide), get_put_reg _ (by decide), get_errorBehaviour (by decide), hbcLost_reported hk]
  · have hk := slotSame_kept i s
    have hat : SlotSame i s (s.atTick t) := ⟨fun _ _ => get_atTick s, fun _ _ => get_atTick s, dv_atTick s⟩
    have hsame : SlotSame i s ((errorBehaviour (reported (s.atTick t))).put .COMM_DUE 0 0) :=
      keep_State_put hk.le (keep_errorBehaviour hk.le (hat.trans slotSame_reported))
    obtain ⟨hfault, hdown, hstop, hnone⟩ := aborted_loseCommunication hsame hi hdrive hring
    exact ⟨hfault, hdown, hstop, hnone⟩

theorem communicationLoss_heartbeat {t : Nat} (h : heartbeatsDue (s.atTick t) ≠ []) : Completes (.communicationLoss t) s fun u =>
    u.getBit .COMM_ERR 0 0 = true ∧
    (s.get .NMT_STATE 0 = nmtOperational → s.get .ERROR_BEHAVIOUR 0 = 0 → u.get .NMT_STATE 0 = nmtPreOp) := by
  refine completes_eq (x := communicationLoss (s.atTick t)) rfl (communicationLoss_due (.inr h)) ⟨?_, fun hop hbehaviour => ?_⟩
  · refine Eq.trans (congrArg (bit · 0) ?_) (commErr_reported h)
    rw [get_loseCommunication (by decide), get_put_reg _ (by decide), get_errorBehaviour (by decide)]
  · have hkeep : ∀ r : Reg, r ≠ .HBC_LOST → (∀ y : State, (commError y 0 0x8130 0).get r 0 = y.get r 0) →
        (reported (s.atTick t)).get r 0 = s.get r 0 := fun r hlost herr => (get_reported hlost herr).trans (get_atTick s)
    have hstate := hkeep .NMT_STATE (by decide) fun y => get_commError (by decide)
    have hvalue := hkeep .ERROR_BEHAVIOUR (by decide) fun y => get_commError (by decide)
    have hrun : errorBehaviour (reported (s.atTick t)) = setNmt (reported (s.atTick t)) nmtPreOp := by
      rw [errorBehaviour, hvalue, hbehaviour]
      rw [if_neg (by simp [operational, hstate, hop])]
      rfl
    rw [get_loseCommunication (by decide), get_put_reg _ (by decide), hrun]
    exact setNmt_state (by decide)

/-! ## Store and restore parameters -/

theorem sec_served : (served s).sec = s.sec := by
  rw [served]
  split <;> rfl

theorem storeBarred_served : storeBarred (served s) = storeBarred s := by
  rw [storeBarred, storeBarred, State.flag, State.flag, get_served_reg (by decide), get_served_reg (by decide)]

theorem profileArea_congr {n : Nat} (h : x.sec = s.sec) : profileArea x n = profileArea s n := by
  rw [profileArea, profileArea, h]

/-- An area that has been set is the one that is read. -/
theorem profileArea_setProfile {n : Nat} {a : ProfileArea} (h : n < s.sec.profiles.length) : profileArea (setProfile s n a) n = a := by
  simp [profileArea, setProfile, h]

theorem storeParameters_run {sub : Nat} (hbar : storeBarred s = false) : storeParameters s sub 0x65766173 =
    (setProfile s (s.get .PROF_ACTIVE 0) { profileArea s (s.get .PROF_ACTIVE 0) with
      openOverlay := keepOthers (profileArea s (s.get .PROF_ACTIVE 0)).openOverlay sub ++ openEntries s sub }, 0) := by
  simp [storeParameters, hbar]

theorem restoreParameters_run {sub : Nat} (hbar : storeBarred s = false) : restoreParameters s sub 0x64616F6C =
    (setProfile s (s.get .PROF_ACTIVE 0) { profileArea s (s.get .PROF_ACTIVE 0) with
      openOverlay := keepOthers (profileArea s (s.get .PROF_ACTIVE 0)).openOverlay sub }, 0) := by
  simp [restoreParameters, hbar]

/-- An object served to a host that has a refusal: its abort code is answered and the store is as it was. -/
theorem viaObject_refused {f : State → State × Nat} {a : Nat} (hup : s.get .SEQ_DOWN 0 = 0) (hf : f (served s) = (served s, a))
    (ha : a < 2 ^ 32) : (viaObject s .spi f).get .ANS_ABORT 0 = a ∧ (viaObject s .spi f).sec = s.sec := by
  rw [viaObject_run hup (by simp), hf]
  exact ⟨reply_abort ha, sec_served⟩

/-- An object served to a host that sets the area of the active profile: the answer has no abort code. -/
theorem viaObject_setProfile {f : State → State × Nat} {a : ProfileArea} (hup : s.get .SEQ_DOWN 0 = 0)
    (hin : s.get .PROF_ACTIVE 0 < s.sec.profiles.length) (hf : f (served s) = (setProfile (served s) (s.get .PROF_ACTIVE 0) a, 0)) :
    (viaObject s .spi f).get .ANS_ABORT 0 = 0 ∧ profileArea (viaObject s .spi f) (s.get .PROF_ACTIVE 0) = a := by
  rw [viaObject_run hup (by simp), hf]
  exact ⟨reply_abort (a := 0) (by decide), profileArea_setProfile (by rwa [sec_served])⟩

theorem storeParameters_completes {sub : Nat} (hup : s.get .SEQ_DOWN 0 = 0) (hbar : storeBarred s = false)
    (hin : s.get .PROF_ACTIVE 0 < s.sec.profiles.length) : Completes (.storeParameters sub 0x65766173) s fun u =>
      u.get .ANS_ABORT 0 = 0 ∧ (profileArea u (s.get .PROF_ACTIVE 0)).openOverlay =
        keepOthers (profileArea s (s.get .PROF_ACTIVE 0)).openOverlay sub ++ openEntries (served s) sub := by
  have hf := storeParameters_run (sub := sub) (storeBarred_served.trans hbar)
  rw [get_served_reg (by decide), profileArea_congr sec_served] at hf
  obtain ⟨habort, harea⟩ := viaObject_setProfile (f := fun a => storeParameters a sub 0x65766173) hup hin hf
  exact completes_eq rfl rfl ⟨habort, congrArg ProfileArea.openOverlay harea⟩

theorem restoreParameters_completes {sub : Nat} (hup : s.get .SEQ_DOWN 0 = 0) (hbar : storeBarred s = false)
    (hin : s.get .PROF_ACTIVE 0 < s.sec.profiles.length) : Completes (.restoreDefaultParameters sub 0x64616F6C) s fun u =>
      u.get .ANS_ABORT 0 = 0 ∧ (profileArea u (s.get .PROF_ACTIVE 0)).openOverlay =
        keepOthers (profileArea s (s.get .PROF_ACTIVE 0)).openOverlay sub := by
  have hf := restoreParameters_run (sub := sub) (storeBarred_served.trans hbar)
  rw [get_served_reg (by decide), profileArea_congr sec_served] at hf
  obtain ⟨habort, harea⟩ := viaObject_setProfile (f := fun a => restoreParameters a sub 0x64616F6C) hup hin hf
  exact completes_eq rfl rfl ⟨habort, congrArg ProfileArea.openOverlay harea⟩

theorem storeParameters_badSignature {sub v : Nat} (hup : s.get .SEQ_DOWN 0 = 0) (hv : v ≠ 0x65766173) :
    Completes (.storeParameters sub v) s fun u => u.get .ANS_ABORT 0 = 0x06090030 ∧ u.sec = s.sec :=
  completes_eq rfl rfl (viaObject_refused hup (f := fun a => storeParameters a sub v) (if_pos hv) (by decide))

theorem restoreParameters_badSignature {sub v : Nat} (hup : s.get .SEQ_DOWN 0 = 0) (hv : v ≠ 0x64616F6C) :
    Completes (.restoreDefaultParameters sub v) s fun u => u.get .ANS_ABORT 0 = 0x06090030 ∧ u.sec = s.sec :=
  completes_eq rfl rfl (viaObject_refused hup (f := fun a => restoreParameters a sub v) (if_pos hv) (by decide))

theorem restoreParameters_barred {sub : Nat} (hup : s.get .SEQ_DOWN 0 = 0) (hbar : storeBarred s = true) :
    Completes (.restoreDefaultParameters sub 0x64616F6C) s fun u => u.get .ANS_ABORT 0 = 0x08000020 ∧ u.sec = s.sec := by
  have hf : restoreParameters (served s) sub 0x64616F6C = (served s, abSealed) :=
    (if_neg (by decide)).trans (if_pos (storeBarred_served.trans hbar))
  exact completes_eq rfl rfl (viaObject_refused hup (f := fun a => restoreParameters a sub 0x64616F6C) hf (by decide))

end

/-- Settles O50: each report of a heartbeat and each slot's reaction leaves the other slots' causes, drive states and options as they
are, so every slot meets its ABORT_OPTION as the start had it; store and restore set the overlay of the active profile's area or answer
with their abort code. -/
theorem lossAndStore : Obligations.LossAndStore :=
  ⟨fun _ _ => communicationLoss_idle, fun _ _ => communicationLoss_completes, fun _ _ => communicationLoss_heartbeat,
    fun _ _ => storeParameters_completes, fun _ _ _ => storeParameters_badSignature, fun _ _ => restoreParameters_completes,
    fun _ _ _ => restoreParameters_badSignature, fun _ _ => restoreParameters_barred⟩

end Sys2Proof.Proofs
end

section
/-! O45: restarts and switches of the domains; restarts of the sequencer. -/

namespace Sys2Proof.Proofs

open Machine Laws

section
variable {s x : State} {d : Nat}

/-! ## What a domain's need is read from -/

/-- Two states that differ in the service of the watchdog only. -/
structure Alike (s x : State) : Prop where
  get : ∀ {r : Reg} {i : Nat}, r ≠ .SEQ_SERVED → x.get r i = s.get r i
  dv : ∀ {r : Reg} {i : Nat}, x.dv r i = s.dv r i
  sec : x.sec = s.sec

theorem alike_atTick {t : Nat} : Alike s (s.atTick t) := ⟨fun _ => get_atTick s, dv_atTick s, by simp⟩

theorem alike_served : Alike s (served s) := by
  refine ⟨get_served_reg, ?_, sec_served⟩
  rw [served]
  split <;> exact rfl

theorem Alike.bit {r : Reg} {i j : Nat} (h : Alike s x) (hr : r ≠ .SEQ_SERVED) : x.getBit r i j = s.getBit r i j :=
  congrArg (Sys2Proof.Machine.bit · j) (h.get hr)

theorem Alike.slotDisabled (h : Alike s x) : x.slotDisabled = s.slotDisabled := by
  funext i
  simp (disch := decide) only [State.slotDisabled, State.drive, h.get]

theorem Alike.slotEnabled (h : Alike s x) : slotEnabled x = slotEnabled s := by
  funext i
  rw [Machine.slotEnabled, Machine.slotEnabled, h.slotDisabled]

theorem Alike.anyEnabled (h : Alike s x) : anyEnabled x = anyEnabled s := by
  rw [Machine.anyEnabled, Machine.anyEnabled, h.slotEnabled]

theorem Alike.slotPorts {i : Nat} (h : Alike s x) : x.slotPorts i = s.slotPorts i := by
  simp (disch := decide) only [State.slotPorts, State.portOwner, h.get]

theorem Alike.convertersInUse {k : Nat} (h : Alike s x) : convertersInUse x k = convertersInUse s k := by
  simp only [Machine.convertersInUse, h.slotEnabled, h.slotPorts]

theorem Alike.segmentModeInUse (h : Alike s x) : segmentModeInUse x = segmentModeInUse s := by
  have hactive : isActive x = isActive s := by
    funext i
    rw [isActive, isActive, h.get (by decide)]
  rw [Machine.segmentModeInUse, Machine.segmentModeInUse, hactive]

theorem Alike.activeAxes (h : Alike s x) : activeAxes x d = activeAxes s d := by
  simp (disch := decide) only [Machine.activeAxes, State.kind, h.get, h.dv]

theorem Alike.motionNeeds (h : Alike s x) : motionNeeds x d = motionNeeds s d := by
  simp only [Machine.motionNeeds, h.anyEnabled, h.segmentModeInUse, h.activeAxes, h.convertersInUse]

theorem Alike.otherSpares (h : Alike s x) : otherSpares x d = otherSpares s d := by
  simp (disch := decide) only [Machine.otherSpares, inPool, isDead, hosted, State.flag, h.bit, h.get]

theorem Alike.offAllowed (h : Alike s x) : offAllowed x d = offAllowed s d := by
  simp (disch := decide) only [Machine.offAllowed, State.flag, h.slotDisabled, h.segmentModeInUse, h.activeAxes, h.otherSpares, h.convertersInUse,
    h.get, h.sec]

theorem domEpochFree_served : domEpochFree (served s) d = domEpochFree s d := by
  simp (disch := decide) [domEpochFree]

/-! ## A domain goes off, restarts and comes back -/

theorem domainOff_bit (hd : d < 12) : (domainOff s d).getBit .DOM_ON 0 d = false := by
  have hconv : ∀ l : List Nat, (l.foldl (fun a c => ((a.put .CONV_STATE c convDomainOff).put .CONV_BUSY c busyNone).put .CONV_CAL c 0)
      (s.setBit .DOM_ON 0 d false)).getBit .DOM_ON 0 d = false := by
    intro l
    refine Eq.trans (congrArg (bit · d) (foldl_keep (fun a c => ?_) l _)) ((getBit_setBit (h := hd)).trans (if_pos rfl))
    simp (disch := decide)
  rw [domainOff]
  dsimp only
  split
  · refine Eq.trans (congrArg (bit · d) ?_) (hconv (domConverters d))
    rw [get_refreshEngines (by decide)]
    split
    · exact get_stripEnd (by decide)
    · rfl
  · exact hconv _

/-- A restart that has begun. -/
structure Restarting (s : State) (d : Nat) (u : State) : Prop where
  restarting : u.get .DOM_RESTARTING d = 1
  off : u.getBit .DOM_ON 0 d = false
  counted : u.get .DOM_RESTARTS 0 = min (s.get .DOM_RESTARTS 0 + 1) 65535

theorem restartNow_restarting (hd : d < 12) : Restarting s d (restartNow s d) := by
  constructor
  · simp (disch := decide) [restartNow, trunc]
  · exact Eq.trans (congrArg (bit · d) (get_reclaimDomain (by decide))) (domainOff_bit hd)
  · simp (disch := decide) [restartNow]

theorem domainRestart_runs (hneed : motionNeeds s d = false) (hen : d = 1 → anyEnabled s = false) (hno : s.get .DOM_RESTARTING d = 0)
    (hfree : domEpochFree s d = true) : domainRestart s d = (restartNow s d, true) := by
  have hallowed : ¬(motionNeeds s d = true ∨ d = 1 ∧ anyEnabled s = true) := by
    rintro (h | ⟨h1, h⟩)
    · exact absurd (hneed.symm.trans h) (by decide)
    · exact absurd ((hen h1).symm.trans h) (by decide)
  rw [domainRestart, if_neg hallowed, if_neg (by simp [State.flag, hno]), if_pos hfree]

theorem domainRestart_refused (h : motionNeeds s d = true) :
    domainRestart s d = (s.record 0x08 (Config.otherRefusal 0x2306) 0 (0x2306 * 65536) d, false) := if_pos (.inl h)

/-- What the steps after its epoch's advance leave alone. -/
theorem get_domainOn_back {r : Reg} {i : Nat} (hr : r ∈ [Reg.DOM_ON, .DOM_EPOCH]) :
    (domainOn s d).get r i = (domEpochAdvance (s.setBit .DOM_ON 0 d true) d).get r i := by
  have hconv : ∀ (l : List Nat) (a : State), (l.foldl convDomainBack a).get r i = a.get r i := by
    refine fun l a => foldl_keep (fun a c => ?_) l a
    simp only [List.mem_cons, List.not_mem_nil, or_false] at hr
    rcases hr with rfl | rfl <;> exact get_convDomainBack (by decide)
  have hqueue : ∀ (a : State) (q : Nat), (((a.put .QRD q 0).put .QWR q 0).put .QLEVEL q 0).get r i = a.get r i := by
    intro a q
    simp only [List.mem_cons, List.not_mem_nil, or_false] at hr
    rcases hr with rfl | rfl <;> simp (disch := decide)
  have hbist : ∀ (a : State) (e : Nat), (if engineDomain e = d ∧ !isDead a e then a.put .ENG_BIST e 1 else a).get r i = a.get r i := by
    intro a e
    split
    · simp only [List.mem_cons, List.not_mem_nil, or_false] at hr
      rcases hr with rfl | rfl <;> exact get_put_reg _ (by decide)
    · rfl
  have hengines : ∀ a : State, (refreshEngines a).get r i = a.get r i := by
    intro a
    simp only [List.mem_cons, List.not_mem_nil, or_false] at hr
    rcases hr with rfl | rfl <;> exact get_refreshEngines (by decide)
  rw [domainOn]
  split
  · exact (foldl_keep hqueue _ _).trans (hconv _ _)
  · split
    · exact (hengines _).trans ((foldl_keep hbist _ _).trans (hconv _ _))
    · exact hconv _ _

/-- A domain that is back. -/
theorem domainOn_on (hd : d < 12) : (domainOn s d).getBit .DOM_ON 0 d = true ∧ (domainOn s d).get .DOM_EPOCH d = (s.get .DOM_EPOCH d + 1) % 16 := by
  constructor
  · refine Eq.trans (congrArg (bit · d) (get_domainOn_back (by decide))) ?_
    refine Eq.trans (congrArg (bit · d) (get_domEpochAdvance (by decide))) ?_
    exact (getBit_setBit (h := hd)).trans (if_pos rfl)
  · refine (get_domainOn_back (by decide)).trans ?_
    rw [domEpochAdvance, get_countTags (by decide), get_each (fun x k => get_put_reg x (by decide)), get_put_reg _ (by decide),
      get_countWrap_same, get_setBit_reg (by decide)]
    rfl

/-! ## The commands of the domains -/

section
variable {path : Path} {t : Nat} {f : Fin 12}

theorem domainCommand_runs (hd : d ≤ 11) (hauth : 2 ≤ authOn s path.code) (hneed : motionNeeds s d = false)
    (hen : d = 1 → anyEnabled s = false) (hno : s.get .DOM_RESTARTING d = 0) (hfree : domEpochFree s d = true) :
    domainCommand s path.code d = (restartNow s d, 0) := by
  rw [domainCommand, if_neg (by omega), if_neg (by omega), domainRestart_runs hneed hen hno hfree]
  rfl

theorem domainCommand_refused (hd : d ≤ 11) (h : authOn s path.code < 2 ∨ motionNeeds s d = true) :
    ∃ x, domainCommand s path.code d = (x, abState) ∧ ∀ r i, r ∈ [Reg.DOM_RESTARTING, .DOM_ON] → x.get r i = s.get r i := by
  rw [domainCommand, if_neg (by omega)]
  split
  · refine ⟨_, rfl, fun r i hr => ?_⟩
    simp only [List.mem_cons, List.not_mem_nil, or_false] at hr
    rcases hr with rfl | rfl <;> exact get_logRefused (by decide)
  · next hauth =>
    rw [domainRestart_refused (h.resolve_left hauth)]
    refine ⟨_, rfl, fun r i hr => ?_⟩
    simp only [List.mem_cons, List.not_mem_nil, or_false] at hr
    rcases hr with rfl | rfl <;> exact get_State_record (by decide)

theorem domainRestart_completes (hup : s.get .SEQ_DOWN 0 = 0) (hsdo : path = .can → sdoServed s = true) (hd : d ≤ 11)
    (hauth : 2 ≤ authOn s path.code) (hneed : motionNeeds s d = false) (hen : d = 1 → anyEnabled s = false)
    (hno : s.get .DOM_RESTARTING d = 0) (hfree : domEpochFree s d = true) : Completes (.domainRestart path d) s fun u =>
      u.get .ANS_ABORT 0 = 0 ∧ u.get .DOM_RESTARTING d = 1 ∧ u.getBit .DOM_ON 0 d = false ∧
      u.get .DOM_RESTARTS 0 = min (s.get .DOM_RESTARTS 0 + 1) 65535 := by
  have hlike := alike_served (s := s)
  have hrun := domainCommand_runs (s := served s) (path := path) hd (authOn_served.symm ▸ hauth) (hlike.motionNeeds.trans hneed)
    (fun h => hlike.anyEnabled.trans (hen h)) ((hlike.get (by decide)).trans hno) (domEpochFree_served.trans hfree)
  obtain ⟨hrestarting, hoff, hcounted⟩ := restartNow_restarting (s := served s) (d := d) (by omega)
  rw [hlike.get (by decide)] at hcounted
  refine completes_eq rfl (viaObject_run hup hsdo) ?_
  rw [hrun]
  exact ⟨reply_abort (a := 0) (by decide), (get_reply (by decide)).trans hrestarting,
    (congrArg (bit · d) (get_reply (by decide))).trans hoff, (get_reply (by decide)).trans hcounted⟩

theorem domainRestart_denied (hup : s.get .SEQ_DOWN 0 = 0) (hsdo : path = .can → sdoServed s = true) (hd : d ≤ 11)
    (h : authOn s path.code < 2 ∨ motionNeeds s d = true) : Completes (.domainRestart path d) s fun u =>
      u.get .ANS_ABORT 0 = 0x08000022 ∧ u.get .DOM_RESTARTING d = s.get .DOM_RESTARTING d ∧ u.getBit .DOM_ON 0 d = s.getBit .DOM_ON 0 d := by
  have hlike := alike_served (s := s)
  obtain ⟨x, hrun, hkeep⟩ := domainCommand_refused (s := served s) (path := path) hd (by rwa [authOn_served, hlike.motionNeeds])
  refine completes_eq rfl (viaObject_run hup hsdo) ?_
  rw [hrun]
  exact ⟨reply_abort (a := abState) (by decide), (get_reply (by decide)).trans ((hkeep _ _ (by decide)).trans (hlike.get (by decide))),
    congrArg (bit · d) ((get_reply (by decide)).trans ((hkeep _ _ (by decide)).trans (hlike.get (by decide))))⟩

theorem handshakeFault_completes (hneed : motionNeeds s f = false) (hen : f.val = 1 → anyEnabled s = false)
    (hno : s.get .DOM_RESTARTING f = 0) (hfree : domEpochFree (s.atTick t) f = true) : Completes (.helperHandshakeFault t f) s fun u =>
      u.get .DOM_RESTARTING f = 1 ∧ u.getBit .DOM_ON 0 f = false ∧ u.get .DOM_RESTARTS 0 = min (s.get .DOM_RESTARTS 0 + 1) 65535 := by
  have hlike := alike_atTick (s := s) (t := t)
  have hrun := domainRestart_runs (s := s.atTick t) (hlike.motionNeeds.trans hneed) (fun h => hlike.anyEnabled.trans (hen h))
    ((get_atTick s).trans hno) hfree
  obtain ⟨hrestarting, hoff, hcounted⟩ := restartNow_restarting (s := s.atTick t) f.isLt
  rw [get_atTick] at hcounted
  exact completes_eq rfl (congrArg Prod.fst hrun) ⟨hrestarting, hoff, hcounted⟩

theorem domainRestartDone_completes (h : s.get .DOM_RESTARTING f = 1) : Completes (.domainRestartDone t f) s fun u =>
    u.get .DOM_RESTARTING f = 0 ∧ u.getBit .DOM_ON 0 f = true ∧ u.get .DOM_EPOCH f = (s.get .DOM_EPOCH f + 1) % 16 := by
  obtain ⟨hon, hepoch⟩ := domainOn_on (s := (s.atTick t).put .DOM_RESTARTING f 0) f.isLt
  rw [get_put_reg _ (by decide), get_atTick] at hepoch
  refine completes_eq (x := domainRestartDone (s.atTick t) f) rfl (if_neg (by simp [h])) ⟨?_, hon, hepoch⟩
  exact (get_domainOn (by decide)).trans (get_put_same _)

theorem domainRestartDone_idle (h : s.get .DOM_RESTARTING f = 0) : Completes (.domainRestartDone t f) s fun u => u = s.atTick t :=
  completes_eq (x := domainRestartDone (s.atTick t) f) rfl (if_pos (by simp [h])) rfl

/-! ## Switching domains off and on -/

theorem domOffWrite_accepted {v : Nat} (hv : v ≤ 0xFFF) (hlow : v % 8 = 0)
    (hbits : ∀ d < 12, bit v d = true → s.getBit .DOM_OFF_REQ 0 d = true ∨ s.getBit .DOM_ON 0 d = false) :
    domOffWrite s path.code v = ((s.put .DOM_REQ_PATH 0 path.code).put .DOM_OFF_REQ 0 v, 0) := by
  have hnone : ((List.range 12).find? fun d => bit v d && !s.getBit .DOM_OFF_REQ 0 d && s.getBit .DOM_ON 0 d &&
      !offAllowed (s.put .DOM_REQ_PATH 0 path.code) d) = none := by
    refine List.find?_eq_none.mpr fun d hd hcond => ?_
    simp only [Bool.and_eq_true, Bool.not_eq_true'] at hcond
    obtain ⟨⟨⟨hbit, hreq⟩, hon⟩, -⟩ := hcond
    rcases hbits d (List.mem_range.mp hd) hbit with h | h
    · exact absurd (hreq.symm.trans h) (by decide)
    · exact absurd (h.symm.trans hon) (by decide)
  rw [domOffWrite, if_neg (by omega), if_neg (by omega)]
  dsimp only
  rw [hnone]

theorem domOffReq_completes {v : Nat} (hup : s.get .SEQ_DOWN 0 = 0) (hsdo : path = .can → sdoServed s = true) (hv : v ≤ 0xFFF)
    (hlow : v % 8 = 0) (hbits : ∀ d < 12, bit v d = true → s.getBit .DOM_OFF_REQ 0 d = true ∨ s.getBit .DOM_ON 0 d = false) :
    Completes (.domOffReq path v) s fun u =>
      u.get .ANS_ABORT 0 = 0 ∧ u.get .DOM_OFF_REQ 0 = v ∧ u.get .DOM_REQ_PATH 0 = path.code := by
  have hlike := alike_served (s := s)
  have hrun := domOffWrite_accepted (s := served s) (path := path) hv hlow fun d hd hbit => by
    rw [hlike.bit (by decide), hlike.bit (by decide)]
    exact hbits d hd hbit
  refine completes_eq rfl (viaObject_run hup hsdo) ?_
  rw [hrun]
  refine ⟨reply_abort (a := 0) (by decide), ?_, ?_⟩
  · exact (get_reply (by decide)).trans ((get_put_same _).trans (trunc_of_lt (Nat.lt_succ_of_le hv)))
  · refine (get_reply (by decide)).trans ((get_put_reg _ (by decide)).trans ((get_put_same _).trans (trunc_of_lt ?_)))
    cases path <;> decide

theorem domOffReq_refused {v : Nat} (hup : s.get .SEQ_DOWN 0 = 0) (hsdo : path = .can → sdoServed s = true) (hlow : v % 8 ≠ 0) :
    Completes (.domOffReq path v) s fun u => u.get .ANS_ABORT 0 = 0x06090030 ∧ u.get .DOM_OFF_REQ 0 = s.get .DOM_OFF_REQ 0 := by
  have hrun : domOffWrite (served s) path.code v = (served s, abRange) := by
    rw [domOffWrite]
    split <;> rfl
  refine completes_eq rfl (viaObject_run hup hsdo) ?_
  rw [hrun]
  exact ⟨reply_abort (a := abRange) (by decide), (get_reply (by decide)).trans (get_served_reg (by decide))⟩

/-- The domain's switch is over. -/
def unbusied (s : State) (d : Nat) : State := (s.setBit .DOM_BUSY 0 d false).setBit .DOM_LEAVING 0 d false

theorem unbusied_bits (hd : d < 12) : (unbusied s d).getBit .DOM_BUSY 0 d = false ∧ (unbusied s d).getBit .DOM_LEAVING 0 d = false := by
  constructor
  · refine Eq.trans (congrArg (bit · d) (get_setBit_reg (by decide))) ?_
    exact (getBit_setBit (h := hd)).trans (if_pos rfl)
  · exact (getBit_setBit (h := hd)).trans (if_pos rfl)

section
variable (hbusy : s.getBit .DOM_BUSY 0 f = true)
include hbusy

theorem domainSwitched_off (hleaving : s.getBit .DOM_LEAVING 0 f = true) (haxes : f.val = 4 ∨ f.val = 5 → activeAxes s f = 0)
    (hallowed : offAllowed s f = true) : Completes (.domainSwitched t f) s fun u =>
      u.getBit .DOM_ON 0 f = false ∧ u.getBit .DOM_BUSY 0 f = false ∧ u.getBit .DOM_LEAVING 0 f = false ∧
      LastEvent u 0x1101 0x0 noSlot f := by
  have hlike := alike_atTick (s := s) (t := t)
  have hrun : domainSwitched (s.atTick t) f = (domainOff (unbusied (s.atTick t) f) f).post 0x1101 0x0 noSlot f := by
    rw [domainSwitched, if_neg (by simp [hlike.bit, hbusy]), if_pos ((hlike.bit (by decide)).trans hleaving),
      if_neg (by rw [hlike.activeAxes]; exact fun h => h.2 (haxes h.1)), if_neg (by simp [hlike.offAllowed, hallowed])]
    rfl
  obtain ⟨hnobusy, hnoleave⟩ := unbusied_bits (s := s.atTick t) f.isLt
  refine completes_eq (x := domainSwitched (s.atTick t) f) rfl hrun ⟨?_, ?_, ?_, lastEvent_of (.refl _)⟩
  · exact (congrArg (bit · f) (get_State_post (by decide))).trans (domainOff_bit f.isLt)
  · exact (congrArg (bit · f) ((get_State_post (by decide)).trans (get_domainOff (by decide)))).trans hnobusy
  · exact (congrArg (bit · f) ((get_State_post (by decide)).trans (get_domainOff (by decide)))).trans hnoleave

theorem domainSwitched_refused (hleaving : s.getBit .DOM_LEAVING 0 f = true) (haxes : f.val = 4 ∨ f.val = 5 → activeAxes s f = 0)
    (hallowed : offAllowed s f = false) : Completes (.domainSwitched t f) s fun u =>
      u.getBit .DOM_ON 0 f = s.getBit .DOM_ON 0 f ∧ u.getBit .DOM_BUSY 0 f = false ∧ u.getBit .DOM_LEAVING 0 f = false := by
  have hlike := alike_atTick (s := s) (t := t)
  have hrun : domainSwitched (s.atTick t) f = domainRefuse (unbusied (s.atTick t) f) f := by
    rw [domainSwitched, if_neg (by simp [hlike.bit, hbusy]), if_pos ((hlike.bit (by decide)).trans hleaving),
      if_neg (by rw [hlike.activeAxes]; exact fun h => h.2 (haxes h.1)), if_pos (by simp [hlike.offAllowed, hallowed])]
    rfl
  obtain ⟨hnobusy, hnoleave⟩ := unbusied_bits (s := s.atTick t) f.isLt
  refine completes_eq (x := domainSwitched (s.atTick t) f) rfl hrun ⟨congrArg (bit · f) ?_, ?_, ?_⟩
  · simp (disch := decide) [unbusied]
  · exact (congrArg (bit · f) (get_domainRefuse (by decide))).trans hnobusy
  · exact (congrArg (bit · f) (get_domainRefuse (by decide))).trans hnoleave

theorem domainSwitched_on (hstays : s.getBit .DOM_LEAVING 0 f = false) (hfree : domEpochFree (s.atTick t) f = true) :
    Completes (.domainSwitched t f) s fun u =>
      u.getBit .DOM_ON 0 f = true ∧ u.getBit .DOM_BUSY 0 f = false ∧ u.get .DOM_EPOCH f = (s.get .DOM_EPOCH f + 1) % 16 ∧
      LastEvent u 0x1101 0x0 noSlot (f + 256) := by
  have hlike := alike_atTick (s := s) (t := t)
  have hrun : domainSwitched (s.atTick t) f = (domainOn ((s.atTick t).setBit .DOM_BUSY 0 f false) f).post 0x1101 0x0 noSlot (f + 256) := by
    rw [domainSwitched, if_neg (by simp [hlike.bit, hbusy]), if_neg (by simp [hlike.bit, hstays]), if_neg (by simp [hfree])]
  obtain ⟨hon, hepoch⟩ := domainOn_on (s := (s.atTick t).setBit .DOM_BUSY 0 f false) f.isLt
  rw [get_setBit_reg (by decide), get_atTick] at hepoch
  refine completes_eq (x := domainSwitched (s.atTick t) f) rfl hrun ⟨?_, ?_, ?_, lastEvent_of (.refl _)⟩
  · exact (congrArg (bit · f) (get_State_post (by decide))).trans hon
  · refine Eq.trans (congrArg (bit · f) ((get_State_post (by decide)).trans (get_domainOn (by decide)))) ?_
    exact (getBit_setBit (h := f.isLt)).trans (if_pos rfl)
  · exact (get_State_post (by decide)).trans hepoch

end

theorem domainSwitched_idle (h : s.getBit .DOM_BUSY 0 f = false) : Completes (.domainSwitched t f) s fun u => u = s.atTick t :=
  completes_eq (x := domainSwitched (s.atTick t) f) rfl (if_pos (by simp [h])) rfl

end

/-! ## The sequencer -/

section
variable {path : Path} {t : Nat}

/-- A restart of the sequencer that has begun. -/
structure SeqRestarting (s : State) (cause : Nat) (u : State) : Prop where
  down : u.get .SEQ_DOWN 0 = 1
  cause : u.get .SEQ_CAUSE 0 = cause
  session : u.get .SESS_OPEN 0 = 0
  abort : u.get .ANS_ABORT 0 = s.get .ANS_ABORT 0

theorem endSession_closed {cause : Nat} : (endSession s cause).get .SESS_OPEN 0 = 0 := by
  rw [endSession]
  split
  · next h => simpa [State.flag] using h
  · change ((_ : State).put .SESS_PATH 0 0).get .SESS_OPEN 0 = 0
    simp (disch := decide) [trunc]

/-- What stands before a watchdog restart is counted. -/
def seqDown (s : State) (cause : Nat) : State :=
  let x := (((endSession s endRestart).put .SEQ_DOWN 0 1).put .SEQ_CAUSE 0 cause).put .SEQ_WAIT 0 0
  let x := (List.range 3).foldl (fun a p => a.put .XO_BUSY p 0) x
  { x with rx := List.replicate 3 [], sec := { x.sec with challenge := none, upload := none } }

theorem seqRestart_run {cause : Nat} (hup : s.get .SEQ_DOWN 0 = 0) (hfree : seqEpochFree s = true) :
    seqRestart s cause = if cause = 0 then watchdogCount (seqDown s cause) else seqDown s cause := by
  rw [seqRestart, if_neg (by simp [State.flag, hup]), if_neg (by simp [hfree])]
  rfl

theorem get_seqDown {cause : Nat} {r : Reg} {i : Nat} (hr : r ≠ .XO_BUSY) :
    (seqDown s cause).get r i = ((((endSession s endRestart).put .SEQ_DOWN 0 1).put .SEQ_CAUSE 0 cause).put .SEQ_WAIT 0 0).get r i :=
  foldl_keep (f := fun a p => a.put .XO_BUSY p 0) (fun a _ => get_put_reg a hr) (List.range 3) _

theorem seqDown_restarting {cause : Nat} (hc : cause ≤ 3) : SeqRestarting s cause (seqDown s cause) := by
  constructor
  · simp (disch := decide) [get_seqDown, trunc]
  · rw [get_seqDown (by decide), get_put_reg _ (by decide), get_put_same]
    exact trunc_of_lt (Nat.lt_succ_of_le hc)
  · simp (disch := decide) [get_seqDown, endSession_closed]
  · simp (disch := decide) [get_seqDown]

theorem SeqRestarting.watchdogCount {cause : Nat} (h : SeqRestarting s cause x) : SeqRestarting s cause (watchdogCount x) :=
  ⟨(get_watchdogCount (by decide)).trans h.down, (get_watchdogCount (by decide)).trans h.cause,
    (get_watchdogCount (by decide)).trans h.session, (get_watchdogCount (by decide)).trans h.abort⟩

theorem seqRestart_restarting {cause : Nat} (hup : s.get .SEQ_DOWN 0 = 0) (hfree : seqEpochFree s = true) (hc : cause ≤ 3) :
    SeqRestarting s cause (seqRestart s cause) := by
  rw [seqRestart_run hup hfree]
  split
  · exact (seqDown_restarting hc).watchdogCount
  · exact seqDown_restarting hc

/-- A watchdog restart is counted. -/
theorem watchdogCount_counts : (watchdogCount s).get .SEQ_WD_CNT 0 = min (s.get .SEQ_WD_CNT 0 + 1) 65535 := by
  rw [watchdogCount]
  dsimp only
  split
  · split <;> simp (disch := decide)
  · simp (disch := decide)

theorem seqEpochFree_answered {a : Nat} {l : List Nat} : seqEpochFree ((served s).reply a l) = seqEpochFree s := by
  simp (disch := decide) [seqEpochFree, State.flag]

/-- The command by who has its role: it is answered, then the sequencer restarts. -/
theorem execSeqRestart_run (hup : s.get .SEQ_DOWN 0 = 0) (hsdo : path = .can → sdoServed s = true) (hauth : 2 ≤ authOn s path.code) :
    execSeqRestart path 1 s = .next (seqRestart ((served s).reply 0 []) 3) := by
  have hjudge : seqJudge (served s) path.code 1 = (served s, 0) := by
    rw [seqJudge, if_neg (by decide), if_neg (by rw [authOn_served]; omega)]
  rw [execSeqRestart, viaObject_run hup hsdo, hjudge]
  simp only [State.flag, hup, bne_self_eq_false, Bool.not_false, Bool.and_true, beq_self_eq_true, not_and, Bool.not_eq_true']
  rw [if_pos (decide_eq_true fun hcan => by simp [hsdo hcan])]

theorem seqRestart_completes (hup : s.get .SEQ_DOWN 0 = 0) (hsdo : path = .can → sdoServed s = true) (hauth : 2 ≤ authOn s path.code)
    (hfree : seqEpochFree s = true) : Completes (.seqRestart path 1) s fun u =>
      u.get .ANS_ABORT 0 = 0 ∧ u.get .SEQ_DOWN 0 = 1 ∧ u.get .SEQ_CAUSE 0 = 3 ∧ u.get .SESS_OPEN 0 = 0 := by
  have hup' : ((served s).reply 0 []).get .SEQ_DOWN 0 = 0 := (get_reply (by decide)).trans ((get_served_reg (by decide)).trans hup)
  obtain ⟨hdown, hcause, hsession, habort⟩ := seqRestart_restarting (cause := 3) hup' (seqEpochFree_answered.trans hfree) (by decide)
  have hexec := execSeqRestart_run hup hsdo hauth
  exact completes_eq hexec rfl ⟨habort.trans (reply_abort (by decide)), hdown, hcause, hsession⟩

theorem seqRestart_waits (hup : s.get .SEQ_DOWN 0 = 0) (hsdo : path = .can → sdoServed s = true) (hauth : 2 ≤ authOn s path.code)
    (hfree : seqEpochFree s = false) : Completes (.seqRestart path 1) s fun u =>
      u.get .ANS_ABORT 0 = 0 ∧ u.get .SEQ_DOWN 0 = 0 ∧ u.get .SEQ_WAIT 0 = 1 ∧ u.get .SEQ_WAIT_CAUSE 0 = 3 := by
  have hup' : ((served s).reply 0 []).get .SEQ_DOWN 0 = 0 := (get_reply (by decide)).trans ((get_served_reg (by decide)).trans hup)
  have hbound : seqEpochFree ((served s).reply 0 []) = false := seqEpochFree_answered.trans hfree
  have hrun : seqRestart ((served s).reply 0 []) 3 = (((served s).reply 0 []).put .SEQ_WAIT 0 1).put .SEQ_WAIT_CAUSE 0 3 := by
    rw [seqRestart, if_neg (by simp [State.flag, hup']), if_pos (by simp [hbound])]
  have hexec := execSeqRestart_run hup hsdo hauth
  refine completes_eq hexec hrun ⟨?_, ?_, ?_, get_put_same _⟩
  · rw [get_put_reg _ (by decide), get_put_reg _ (by decide), reply_abort (by decide)]
  · rw [get_put_reg _ (by decide), get_put_reg _ (by decide), hup']
  · exact (get_put_reg _ (by decide)).trans (get_put_same _)

theorem seqRestart_denied (hup : s.get .SEQ_DOWN 0 = 0) (hsdo : path = .can → sdoServed s = true) (hauth : authOn s path.code < 2) :
    Completes (.seqRestart path 1) s fun u => u.get .ANS_ABORT 0 = 0x08000022 ∧ u.get .SEQ_DOWN 0 = 0 := by
  have hjudge : seqJudge (served s) path.code 1 = (logRefused (served s) 0x2307 0 1, abState) := by
    rw [seqJudge, if_neg (by decide), if_pos (by rwa [authOn_served])]
  have hrun : execSeqRestart path 1 s = .next ((logRefused (served s) 0x2307 0 1).reply abState []) := by
    rw [execSeqRestart, viaObject_run hup hsdo, hjudge]
    simp [show (abState == 0) = false from rfl]
  refine completes_eq hrun rfl ⟨reply_abort (by decide), ?_⟩
  rw [get_reply (by decide), get_logRefused (by decide), get_served_reg (by decide), hup]

theorem watchdog_completes (hup : s.get .SEQ_DOWN 0 = 0) (hlate : s.get .SEQ_SERVED 0 + 16000000 ≤ (s.atTick t).ts)
    (hfree : seqEpochFree (s.atTick t) = true) : Completes (.sequencerWatchdog t) s fun u =>
      u.get .SEQ_DOWN 0 = 1 ∧ u.get .SEQ_CAUSE 0 = 0 ∧ u.get .SESS_OPEN 0 = 0 ∧
      u.get .SEQ_WD_CNT 0 = min (s.get .SEQ_WD_CNT 0 + 1) 65535 := by
  have hup' : (s.atTick t).get .SEQ_DOWN 0 = 0 := (get_atTick s).trans hup
  have hdue : (!(s.atTick t).flag .SEQ_DOWN 0) = true ∧ (s.atTick t).get .SEQ_SERVED 0 + 100 * ticksPerMs ≤ (s.atTick t).ts := by
    rw [get_atTick, show 100 * ticksPerMs = 16000000 from rfl]
    exact ⟨by simp [hup], hlate⟩
  obtain ⟨hdown, hcause, hsession, -⟩ := seqRestart_restarting (cause := 0) hup' hfree (by decide)
  refine completes_eq (x := seqWatchdog (s.atTick t)) rfl (if_pos hdue) ⟨hdown, hcause, hsession, ?_⟩
  rw [seqRestart_run hup' hfree, if_pos rfl, watchdogCount_counts, get_seqDown (by decide)]
  simp (disch := decide)

theorem watchdog_idle (hsoon : (s.atTick t).ts < s.get .SEQ_SERVED 0 + 16000000) :
    Completes (.sequencerWatchdog t) s fun u => u = s.atTick t := by
  refine completes_eq (x := seqWatchdog (s.atTick t)) rfl (if_neg ?_) rfl
  rw [get_atTick, show 100 * ticksPerMs = 16000000 from rfl]
  exact fun h => absurd h.2 (Nat.not_le.mpr hsoon)

theorem seqDone_completes (hdown : s.get .SEQ_DOWN 0 = 1) : Completes (.sequencerRestartDone t true) s fun u =>
    u.get .SEQ_DOWN 0 = 0 ∧ u.get .SEQ_EPOCH 0 = (s.get .SEQ_EPOCH 0 + 1) % 16 ∧
    u.get .SEQ_RESTARTS 0 = min (s.get .SEQ_RESTARTS 0 + 1) 65535 := by
  have hrun : ¬(!(s.atTick t).flag .SEQ_DOWN 0) = true := by simp [hdown]
  refine completes_eq (x := seqDone (s.atTick t) true) rfl (if_neg hrun) ⟨?_, ?_, ?_⟩
  · simp (disch := decide) [trunc]
  · simp (disch := decide) [trunc]
  · simp (disch := decide)

theorem seqDone_idle {imageOk : Bool} (hup : s.get .SEQ_DOWN 0 = 0) :
    Completes (.sequencerRestartDone t imageOk) s fun u => u = s.atTick t :=
  completes_eq (x := seqDone (s.atTick t) imageOk) rfl (if_pos (by simp [hup])) rfl

end

end

/-- Settles O45: a state in which only the sequencer's service differs needs the same domains, so each command runs as the start says;
what comes after a domain's bit, epoch or the sequencer's registers are set leaves them alone. -/
theorem domainsAndSequencer : Obligations.DomainsAndSequencer :=
  ⟨fun _ _ _ => domainRestart_completes, fun _ _ _ => domainRestart_denied, fun _ _ _ => handshakeFault_completes,
    fun _ _ _ => domainRestartDone_completes, fun _ _ _ => domainRestartDone_idle, fun _ _ _ => domOffReq_completes,
    fun _ _ _ => domOffReq_refused, fun _ _ _ => domainSwitched_off, fun _ _ _ => domainSwitched_refused, fun _ _ _ => domainSwitched_on,
    fun _ _ _ => domainSwitched_idle, fun _ _ => seqRestart_completes, fun _ _ => seqRestart_waits, fun _ _ => seqRestart_denied,
    fun _ _ => watchdog_completes, fun _ _ => watchdog_idle, fun _ _ => seqDone_completes, fun _ _ _ => seqDone_idle⟩

end Sys2Proof.Proofs
end

section
/-! O49: SYNC, PDOs, TIME, heartbeats and EMCY. -/

namespace Sys2Proof.Proofs

open Machine Laws

section
variable {s : State} {i : Nat}

/-! ## The parts of a SYNC -/

def syncCounted (s : State) (data : List Nat) : State := if s.get .SYNC_OVERFLOW 0 ≠ 0 then s.put .SYNC_CTR 0 (data.headD 0) else s

def syncTargets (s : State) : State :=
  if !isManager s && linkRuns s then s else (List.range 8).foldl (fun a i => syncSlot a i a.ts) s

def syncPdos (s : State) : State :=
  if operational s then (List.range 32).foldl syncTpdo ((List.range 32).foldl syncRpdo s) else s

theorem networkUp_congr {x y : State} (h : y.get .NMT_STATE 0 = x.get .NMT_STATE 0) : networkUp y = networkUp x := by
  rw [networkUp, networkUp, operational, operational, h]

theorem syncReceived_heard {b : Nat} {data : List Nat} (hhears : busHears s b = true) (hsingle : s.dv .CAN_RED 0 = 0)
    (hup : networkUp s = true) : syncReceived s b data = syncPdos (syncTargets (syncCounted (heard s b) data)) := by
  have hup' : networkUp (heard s b) = true := (networkUp_congr (get_heard (by decide))).trans hup
  rw [syncReceived, takeFrame_heard hhears hsingle]
  exact if_neg (by simp [hup'])

theorem get_syncTargets {r : Reg} {j : Nat} (h : ∀ (x : State) (k : Nat), (syncSlot x k x.ts).get r j = x.get r j) :
    (syncTargets s).get r j = s.get r j := by
  rw [syncTargets]
  split
  · rfl
  · exact foldl_keep h _ s

theorem keep_applyMapping_open {P : State → Prop} (hk : Kept openMask P) :
    ∀ {es data : List Nat} {s : State}, P s → P (applyMapping es data s)
  | [], _, _, hs => hs
  | e :: es, data, s, hs => by
    rw [applyMapping]
    exact keep_applyMapping_open hk (keep_objStore_open hk hs)

theorem keep_syncPdos_open {P : State → Prop} (hk : Kept openMask P) (hs : P s) : P (syncPdos s) := by
  refine keep_ite (keep_foldl (fun _ _ h => keep_syncTpdo hk.le h) (keep_foldl (fun a n h => ?_) hs)) hs
  exact keep_ite (keep_applyMapping_open hk (keep_State_put hk.le h)) h

/-! ## Targets of the cyclic modes -/

/-- A write at another index leaves every field of this one alone. -/
theorem get_put_away {r q : Reg} {k v : Nat} (hik : i ≠ k) : (s.put q k v).get r i = s.get r i :=
  get_set_reg (.inr (Ne.symm hik))

/-- Fields of a slot's chain. -/
def chainRegs : List Reg := [.CH_STATE, .CH_TARGET, .CH_MISSED, .CH_PREV]

theorem chainHeld_congr {x : State} (h : ∀ r ∈ [Reg.HALTED, .PLAN_STATE, .MODE_DISP, .CONTROLWORD], x.get r i = s.get r i) :
    chainHeld x i = chainHeld s i := by
  simp only [List.forall_mem_cons] at h
  obtain ⟨hhalt, hplan, hmode, hword, -⟩ := h
  simp only [chainHeld, State.flag, State.modeOf, State.geti, State.getBit, hhalt, hplan, hmode, hword]

/-- The chain's next segment towards a target. -/
def chainExtended (s : State) (i t : Nat) (target : Int) (cubic : Bool) : State :=
  if cubic then if s.flag .CH_PENDING i then chainCubic s i t target else s
  else match chainEnd s i with
    | some g => chainLinear s i t g.endTick g.p1 (chainSpan s i) target
    | none => s

theorem get_chainExtended {t k : Nat} {target : Int} {cubic : Bool} {r : Reg} (hr : r ∈ chainRegs) :
    (chainExtended s i t target cubic).get r k = s.get r k := by
  have hcubic : (chainCubic s i t target).get r k = s.get r k := by
    simp only [chainRegs, List.mem_cons, List.not_mem_nil, or_false] at hr
    rcases hr with rfl | rfl | rfl | rfl <;> exact get_chainCubic (by decide)
  have hlinear : ∀ start p0 span, (chainLinear s i t start p0 span target).get r k = s.get r k := by
    intro start p0 span
    simp only [chainRegs, List.mem_cons, List.not_mem_nil, or_false] at hr
    rcases hr with rfl | rfl | rfl | rfl <;> exact get_chainLinear (by decide)
  rw [chainExtended]
  split
  · split
    · exact hcubic
    · rfl
  · split
    · exact hlinear _ _ _
    · rfl

/-- A chain that has taken a target. -/
def chainTaken (x : State) (i t : Nat) (target : Int) (cubic : Bool) : State :=
  let y := chainExtended (x.put .CH_MISSED i 0) i t target cubic
  ((y.puti .CH_PREV i (y.geti .CH_TARGET i)).puti .CH_TARGET i target).put .CH_PENDING i (b2n cubic)

/-- What a target does, after its clamp. -/
theorem chainTarget_cases {t : Nat} {raw : Int} : ∃ x target cubic,
    (∀ r ∈ [Reg.HALTED, .PLAN_STATE, .MODE_DISP, .CONTROLWORD] ++ chainRegs, ∀ k, x.get r k = s.get r k) ∧
    chainTarget s i t raw =
      if chainHeld x i then (if x.get .CH_STATE i = 2 ∧ x.get .PLAN_STATE i = 6 ∧ !x.flag .HALTED i then x.count .CS_MISS i else x)
      else if x.get .CH_STATE i ≠ 1 then chainOpen x i t target cubic
      else chainTaken x i t target cubic := by
  unfold chainTarget
  extract_lets from_
  refine ⟨(clampTarget s i (heldTarget s i (nearest s from_ (raw * usub)))).1, _, _, fun r hr k => ?_, rfl⟩
  simp only [chainRegs, List.cons_append, List.nil_append, List.mem_cons, List.not_mem_nil, or_false] at hr
  rcases hr with rfl | rfl | rfl | rfl | rfl | rfl | rfl | rfl <;> exact get_clampTarget (by decide)

theorem get_chainLinear_chain {r : Reg} {j k t start span : Nat} {p0 target : Int} (hr : r ∈ chainRegs) :
    (chainLinear s k t start p0 span target).get r j = s.get r j := by
  simp only [chainRegs, List.mem_cons, List.not_mem_nil, or_false] at hr
  rcases hr with rfl | rfl | rfl | rfl <;> exact get_chainLinear (by decide)

theorem get_pushChain_chain {r : Reg} {j k t : Nat} {g : Seg} (hr : r ∈ chainRegs) : (pushChain s k t g).get r j = s.get r j := by
  simp only [chainRegs, List.mem_cons, List.not_mem_nil, or_false] at hr
  rcases hr with rfl | rfl | rfl | rfl <;> exact get_pushChain (by decide)

section
variable {r : Reg} {k t : Nat} {target raw : Int} {cubic : Bool} (hr : r ∈ chainRegs) (hik : i ≠ k)
include hr hik

theorem get_chainOpen_other : (chainOpen s k t target cubic).get r i = s.get r i := by
  rw [chainOpen]
  split
  · exact get_put_away hik
  · dsimp only
    split <;> simp only [get_chainLinear_chain hr, State.puti, get_put_away hik]

theorem get_chainTarget_other : (chainTarget s k t raw).get r i = s.get r i := by
  obtain ⟨x, target, cubic, hkeep, hrun⟩ := chainTarget_cases (s := s) (i := k) (t := t) (raw := raw)
  rw [hrun, ← hkeep r (List.mem_append_right _ hr) i]
  split
  · split
    · exact get_put_away hik
    · rfl
  · split
    · exact get_chainOpen_other hr hik
    · simp only [chainTaken, State.puti, get_put_away hik, get_chainExtended hr]

theorem get_chainVelocity_other : (chainVelocity s k t raw).get r i = s.get r i := by
  unfold chainVelocity
  split
  · rfl
  · extract_lets lim want tip running x
    have hx : x.get r i = s.get r i := by
      dsimp only [x]
      split
      · rfl
      · exact get_put_away hik
    have hclamp : ∀ c : Bool, (if c = true then x.put .CSV_ACC_CLAMP k 1 else x).get r i = s.get r i := by
      intro c
      split
      · exact (get_put_away hik).trans hx
      · exact hx
    simp only [get_pushChain_chain hr, get_put_away hik]
    exact hclamp _

end

/-- A target of another slot leaves a slot's chain alone. -/
theorem get_syncSlot_other {r : Reg} {k t : Nat} (hr : r ∈ chainRegs) (hik : i ≠ k) : (syncSlot s k t).get r i = s.get r i := by
  rw [syncSlot]
  split
  · rfl
  · split
    · exact get_chainTarget_other hr hik
    · split
      · exact get_chainTarget_other hr hik
      · split
        · exact get_chainVelocity_other hr hik
        · rfl

/-- A running chain that is not held takes its target. -/
theorem chainTarget_running {t : Nat} {raw : Int} (hrun : s.get .CH_STATE i = 1) (hfree : chainHeld s i = false) :
    (chainTarget s i t raw).get .CH_MISSED i = 0 ∧ (chainTarget s i t raw).geti .CH_PREV i = s.geti .CH_TARGET i := by
  obtain ⟨x, target, cubic, hkeep, hcases⟩ := chainTarget_cases (s := s) (i := i) (t := t) (raw := raw)
  have hfree' : ¬chainHeld x i = true := by
    rw [chainHeld_congr fun r hr => hkeep r (List.mem_append_left _ hr) i, hfree]
    decide
  have hrun' : ¬x.get .CH_STATE i ≠ 1 := by
    rw [hkeep _ (by decide), hrun]
    simp
  have htarget : x.geti .CH_TARGET i = s.geti .CH_TARGET i := congrArg (toSigned _) (hkeep .CH_TARGET (by decide) i)
  rw [hcases, if_neg hfree', if_neg hrun', chainTaken]
  constructor
  · simp (disch := decide) [get_chainExtended, trunc]
  · rw [geti_put_reg (by decide), geti_puti_reg (by decide), geti_puti_geti (r := .CH_PREV) (q := .CH_TARGET) (by decide) rfl, ← htarget]
    exact congrArg (toSigned _) ((get_chainExtended (by decide)).trans (get_put_reg x (by decide)))

/-! ## TPDOs -/

theorem sendCan_single {id : Nat} {data : List Nat} (hsingle : s.dv .CAN_RED 0 = 0) (hon : s.get .CAN_OFF 0 = 0)
    (hdom : s.getBit .DOM_ON 0 9 = true) : s.sendCan id data = s.send 0 id data := by
  have hzero : (busUsed s 0 && !s.flag .CAN_OFF 0 && s.getBit .DOM_ON 0 9) = true := by simp [busUsed, State.flag, hon, hdom]
  have hone : (busUsed (s.send 0 id data) 1 && !(s.send 0 id data).flag .CAN_OFF 1 && (s.send 0 id data).getBit .DOM_ON 0 9) = false := by
    simp [busUsed, hsingle]
  simp only [State.sendCan, hzero, if_true, hone]
  rfl

/-- What a TPDO leaves behind. -/
structure TpdoSent (s : State) (n : Nat) (u : State) : Prop where
  frame : u.tx = s.tx ++ [⟨0, s.get .TPDO_COB n % 2048, tpdoData s n⟩]
  sent : u.get .TPDO_SENT n = 1
  changed : u.get .TPDO_CHG n = 0
  tick : u.get .TPDO_TICK n = s.ts % 2 ^ 64

theorem sendTpdo_sent {n : Nat} (hsingle : s.dv .CAN_RED 0 = 0) (hon : s.get .CAN_OFF 0 = 0) (hdom : s.getBit .DOM_ON 0 9 = true) :
    TpdoSent s n (sendTpdo s n) := by
  constructor
  · rw [sendTpdo, sendCan_single hsingle hon hdom]
    rfl
  · simp (disch := decide) [sendTpdo, trunc]
  · simp (disch := decide) [sendTpdo, trunc]
  · simp (disch := decide) [sendTpdo, trunc]

/-! ## SYNC -/

section
variable {t : Nat} {b : Fin 2} {data : List Nat}

theorem syncReceived_run (hhears : busHears s b = true) (hsingle : s.dv .CAN_RED 0 = 0) (hup : networkUp s = true) :
    syncReceived (s.atTick t) b data = syncPdos (syncTargets (syncCounted (framed s t b) data)) :=
  syncReceived_heard (busHears_atTick.trans hhears) ((dv_atTick s).trans hsingle) ((networkUp_congr (get_atTick s)).trans hup)

theorem heard_tick {b : Nat} : (heard s b).get .CAN_RX_TICK b = s.ts % 2 ^ 64 := by
  rw [heard]
  split
  · exact (get_put_reg _ (by decide)).trans (get_put_same s)
  · exact get_put_same s

theorem get_heard_other {b j : Nat} {r : Reg} (hrx : r ≠ .CAN_RX_TICK) (hgood : r ≠ .CAN_GOOD_TICK) : (heard s b).get r j = s.get r j := by
  rw [heard]
  split
  · exact (get_put_reg _ hgood).trans (get_put_reg s hrx)
  · exact get_put_reg s hrx

theorem sync_counted (hhears : busHears s b = true) (hsingle : s.dv .CAN_RED 0 = 0) (hup : networkUp s = true)
    (hover : s.get .SYNC_OVERFLOW 0 ≠ 0) : Completes (.syncReceived t b data) s fun u =>
      u.get .SYNC_CTR 0 = data.headD 0 % 256 ∧ u.get .CAN_RX_TICK b = (s.atTick t).ts % 2 ^ 64 := by
  have hcount : syncCounted (framed s t b) data = (framed s t b).put .SYNC_CTR 0 (data.headD 0) :=
    if_pos (by rwa [get_heard (by decide), get_atTick])
  refine completes_eq (x := syncReceived (s.atTick t) b data) rfl (syncReceived_run hhears hsingle hup) ⟨?_, ?_⟩
  · refine (keep_syncPdos_open (hidden_kept (syncTargets (syncCounted (framed s t b) data)) (r := .SYNC_CTR) (by decide)) (fun _ => rfl) 0).trans ?_
    rw [get_syncTargets fun _ _ => get_syncSlot (by decide), hcount]
    exact get_put_same _
  · refine (keep_syncPdos_open (hidden_kept (syncTargets (syncCounted (framed s t b) data)) (r := .CAN_RX_TICK) (by decide)) (fun _ => rfl) b).trans ?_
    rw [get_syncTargets fun _ _ => get_syncSlot (by decide), hcount, get_put_reg _ (by decide)]
    exact heard_tick

/-- What a slot's cyclic mode is read from. -/
def cyclicRegs : List Reg := [.DRIVE_STATE, .MODE_DISP, .HALTED, .PLAN_STATE, .CONTROLWORD, .CH_STATE, .CH_TARGET]

theorem get_syncSlot_cyclic {r : Reg} {k t : Nat} (hr : r ∈ cyclicRegs) (hik : i ≠ k) : (syncSlot s k t).get r i = s.get r i := by
  simp only [cyclicRegs, List.mem_cons, List.not_mem_nil, or_false] at hr
  rcases hr with rfl | rfl | rfl | rfl | rfl | rfl | rfl
  · exact get_syncSlot (by decide)
  · exact get_syncSlot (by decide)
  · exact get_syncSlot (by decide)
  · exact get_syncSlot (by decide)
  · exact get_syncSlot (by decide)
  · exact get_syncSlot_other (by decide) hik
  · exact get_syncSlot_other (by decide) hik

/-- A running slot in the cyclic position mode has taken the target of a SYNC. -/
def TargetTaken (s : State) (i : Nat) (u : State) : Prop := u.get .CH_MISSED i = 0 ∧ u.geti .CH_PREV i = s.geti .CH_TARGET i

theorem syncSlot_takes {x : State} {t : Nat} (hkeep : ∀ r ∈ cyclicRegs, x.get r i = s.get r i) (hen : s.get .DRIVE_STATE i = dsEnabled)
    (hmode : s.modeOf i = 8) (hrun : s.get .CH_STATE i = 1) (hfree : chainHeld s i = false) : TargetTaken s i (syncSlot x i t) := by
  have hen' : x.drive i = dsEnabled := (hkeep .DRIVE_STATE (by decide)).trans hen
  have hmode' : x.modeOf i = 8 := (congrArg (toSigned _) (hkeep .MODE_DISP (by decide))).trans hmode
  have hfree' : chainHeld x i = false := by
    refine (chainHeld_congr fun r hr => hkeep r ?_).trans hfree
    simp only [List.mem_cons, List.not_mem_nil, or_false] at hr
    rcases hr with rfl | rfl | rfl | rfl <;> decide
  have hslot : syncSlot x i t = chainTarget x i t (x.geti .TARGET_POS i) := by
    rw [syncSlot, if_neg (by simp [hen']), if_pos hmode']
  obtain ⟨hmissed, hprev⟩ := chainTarget_running (t := t) (raw := x.geti .TARGET_POS i) ((hkeep .CH_STATE (by decide)).trans hrun) hfree'
  rw [hslot]
  exact ⟨hmissed, hprev.trans (congrArg (toSigned _) (hkeep .CH_TARGET (by decide)))⟩

theorem syncTargets_takes {x : State} (hi : i < 8) (hkeep : ∀ r ∈ cyclicRegs, x.get r i = s.get r i) (hlink : linkRuns x = false)
    (hen : s.get .DRIVE_STATE i = dsEnabled) (hmode : s.modeOf i = 8) (hrun : s.get .CH_STATE i = 1) (hfree : chainHeld s i = false) :
    TargetTaken s i (syncTargets x) := by
  rw [syncTargets, if_neg (by simp [hlink])]
  refine foldl_visit (P := fun y => ∀ r ∈ cyclicRegs, y.get r i = s.get r i) (List.mem_range.mpr hi) List.nodup_range
    (fun y k hk hy r hr => (get_syncSlot_cyclic hr hk.symm).trans (hy r hr))
    (fun y hy => syncSlot_takes hy hen hmode hrun hfree) (fun y k hk hy => ?_) hkeep
  exact ⟨(get_syncSlot_other (by decide) hk.symm).trans hy.1,
    (congrArg (toSigned _) (get_syncSlot_other (by decide) hk.symm)).trans hy.2⟩

theorem sync_takesTarget {i : Slot} (hhears : busHears s b = true) (hsingle : s.dv .CAN_RED 0 = 0) (hpreop : s.get .NMT_STATE 0 = nmtPreOp)
    (hlink : linkRuns s = false) (hen : s.get .DRIVE_STATE i = dsEnabled) (hmode : s.modeOf i = 8) (hrun : s.get .CH_STATE i = 1)
    (hfree : chainHeld s i = false) : Completes (.syncReceived t b data) s fun u =>
      u.get .CH_MISSED i = 0 ∧ u.geti .CH_PREV i = s.geti .CH_TARGET i := by
  have hup : networkUp s = true := by simp [networkUp, hpreop]
  have hcounted : ∀ {r : Reg} {j : Nat}, r ∉ [Reg.CAN_RX_TICK, .CAN_GOOD_TICK, .SYNC_CTR] →
      (syncCounted (framed s t b) data).get r j = s.get r j := by
    intro r j hr
    simp only [List.mem_cons, List.not_mem_nil, or_false, not_or] at hr
    obtain ⟨hrx, hgood, hctr⟩ := hr
    have hheard : (framed s t b).get r j = s.get r j := (get_heard_other hrx hgood).trans (get_atTick s)
    rw [syncCounted]
    split
    · exact (get_put_reg _ hctr).trans hheard
    · exact hheard
  have hkeep : ∀ r ∈ cyclicRegs, (syncCounted (framed s t b) data).get r i = s.get r i := fun r hr => hcounted fun hbad => by
    simp only [List.mem_cons, List.not_mem_nil, or_false] at hbad
    rcases hbad with rfl | rfl | rfl <;> exact absurd hr (by decide)
  have hlink' : linkRuns (syncCounted (framed s t b) data) = false := by
    rw [linkRuns, hcounted (by decide)]
    exact hlink
  have hidle : operational (syncTargets (syncCounted (framed s t b) data)) = false := by
    rw [operational, get_syncTargets fun _ _ => get_syncSlot (by decide), hcounted (by decide), hpreop]
    rfl
  have htaken := syncTargets_takes i.isLt hkeep hlink' hen hmode hrun hfree
  refine completes_eq (x := syncReceived (s.atTick t) b data) rfl ((syncReceived_run hhears hsingle hup).trans (if_neg (by simp [hidle]))) ?_
  exact htaken

/-- A node that is not up takes note of the frame only. -/
theorem syncReceived_down {b : Nat} (hdown : networkUp s = false) :
    syncReceived s b data = (takeFrame s b (s.get .COB_SYNC 0 % 2048) data).1 := by
  have hdown' : networkUp (takeFrame s b (s.get .COB_SYNC 0 % 2048) data).1 = false := (networkUp_congr (get_takeFrame (by decide))).trans hdown
  rw [syncReceived]
  dsimp only
  exact if_pos (.inr (by rw [hdown']; rfl))

theorem sync_ignored (hdown : networkUp s = false) : Completes (.syncReceived t b data) s fun u =>
    (∀ i < 8, u.mo i = s.mo i) ∧ u.tx = s.tx := by
  have hdown' : networkUp (s.atTick t) = false := (networkUp_congr (get_atTick s)).trans hdown
  refine completes_eq (x := syncReceived (s.atTick t) b data) rfl (syncReceived_down hdown') ⟨fun i _ => ?_, ?_⟩
  · exact (mo_of (fun _ hk => keep_takeFrame hk) rfl i).trans mo_atTick
  · exact (tx_of (fun _ hk => keep_takeFrame hk) rfl).trans (atTick_tx s)

/-! ## PDOs and TIME -/

/-- A fold in which one element acts and no other does. -/
theorem foldl_single {α : Type} {f : State → α → State} {n : α} : ∀ {l : List α} {s : State}, n ∈ l → l.Nodup →
    (∀ m ∈ l, m ≠ n → f s m = s) → (∀ m ∈ l, m ≠ n → f (f s n) m = f s n) → l.foldl f s = f s n
  | k :: l, s, hn, hnodup, hbefore, hafter => by
    obtain ⟨hk, hl⟩ := List.nodup_cons.mp hnodup
    rw [List.foldl_cons]
    rcases List.mem_cons.mp hn with rfl | hn
    · exact keep_foldl_mem (P := fun x => x = f s n)
        (fun x m hm hx => by rw [hx]; exact hafter m (List.mem_cons_of_mem _ hm) fun e => hk (e ▸ hm)) rfl
    · rw [hbefore k List.mem_cons_self fun e => hk (e ▸ hn)]
      exact foldl_single hn hl (fun m hm => hbefore m (List.mem_cons_of_mem _ hm)) fun m hm => hafter m (List.mem_cons_of_mem _ hm)

theorem leVal_lt : ∀ l : List Nat, leVal l < 256 ^ l.length
  | [] => by decide
  | b :: l => by
    have hl := leVal_lt l
    have hb : b % 256 < 256 := Nat.mod_lt b (by decide)
    rw [leVal, List.length_cons, pow_succ]
    omega

section
variable {id n : Nat}

/-- What the statement asks of a PDO that is received. -/
structure RpdoFor (s : State) (b : Fin 2) (id n : Nat) : Prop where
  hears : busHears s b = true
  single : s.dv .CAN_RED 0 = 0
  operational : s.get .NMT_STATE 0 = nmtOperational
  index : n < 32
  only : ∀ m < 32, ((pdoOn (s.get .RPDO_COB m) = true ∧ s.get .RPDO_COB m % 2048 = id) ↔ m = n)

theorem each_single {N : Nat} {p : State → Nat → Bool} {f : State → Nat → State} (hn : n < N) (hp : p s n = true)
    (hbefore : ∀ m < N, m ≠ n → p s m = false) (hafter : ∀ m < N, m ≠ n → p (f s n) m = false) : s.each N p f = f s n := by
  have hact : (if p s n = true then f s n else s) = f s n := if_pos hp
  refine (foldl_single (List.mem_range.mpr hn) List.nodup_range (fun m hm hne => ?_) (fun m hm hne => ?_)).trans hact
  · exact if_neg (by simp [hbefore m (List.mem_range.mp hm) hne])
  · rw [hact]
    exact if_neg (by simp [hafter m (List.mem_range.mp hm) hne])

theorem takeRpdo_short (h : data.length < mapLength (mapEntries s false n (s.get .RPDO_N n))) :
    takeRpdo s n data = commError s 3 0x8210 0 := if_pos h

theorem takeRpdo_waits (h : mapLength (mapEntries s false n (s.get .RPDO_N n)) ≤ data.length) (hsync : s.get .RPDO_TYPE n < 254) :
    takeRpdo s n data =
      (((commClear s 3).put .RPDO_BUF n (leVal data)).put .RPDO_LEN n data.length).put .RPDO_WAIT n 1 := by
  rw [takeRpdo]
  dsimp only
  rw [if_neg (by omega), if_neg (by rw [get_commClear (by decide)]; omega)]

theorem RpdoFor.run (h : RpdoFor s b id n) (hcob : ∀ m, (takeRpdo (framed s t b) n data).get .RPDO_COB m = s.get .RPDO_COB m) :
    rpdoReceived (s.atTick t) b id data = takeRpdo (framed s t b) n data := by
  have hop : Machine.operational (framed s t b) = true := by
    rw [operational_framed, Machine.operational, h.operational]
    rfl
  have hmatch : ∀ {x : State} {m : Nat}, m < 32 → x.get .RPDO_COB m = s.get .RPDO_COB m →
      ((pdoOn (x.get .RPDO_COB m) && x.get .RPDO_COB m % 2048 == id) = true ↔ m = n) := by
    intro x m hm hx
    rw [hx, ← h.only m hm]
    simp
  have hframed : ∀ m, (framed s t b).get .RPDO_COB m = s.get .RPDO_COB m := fun m => (get_heard (by decide)).trans (get_atTick s)
  rw [rpdoReceived, takeFrame_heard (busHears_atTick.trans h.hears) ((dv_atTick s).trans h.single)]
  dsimp only
  rw [if_neg (by simp [hop])]
  exact each_single h.index ((hmatch h.index (hframed n)).mpr rfl)
    (fun m hm hne => Bool.eq_false_iff.mpr fun hp => hne ((hmatch hm (hframed m)).mp hp))
    (fun m hm hne => Bool.eq_false_iff.mpr fun hp => hne ((hmatch hm (hcob m)).mp hp))

theorem mapLength_framed {k : Nat} : mapLength (mapEntries (framed s t b) false n ((framed s t b).get .RPDO_N k)) =
    mapLength (mapEntries s false n (s.get .RPDO_N k)) := by
  have hmap : ∀ j, (framed s t b).get (pdoMapReg false) j = s.get (pdoMapReg false) j := fun j => (get_heard (by decide)).trans (get_atTick s)
  have hn : (framed s t b).get .RPDO_N k = s.get .RPDO_N k := (get_heard (by decide)).trans (get_atTick s)
  simp only [mapEntries, hmap, hn]

theorem rpdo_waits (h : RpdoFor s b id n) (hsync : s.get .RPDO_TYPE n < 254)
    (hlong : mapLength (mapEntries s false n (s.get .RPDO_N n)) ≤ data.length) (hfits : data.length ≤ 64) :
    Completes (.rpdoReceived t b id data) s fun u =>
      u.get .RPDO_WAIT n = 1 ∧ u.get .RPDO_LEN n = data.length ∧ u.get .RPDO_BUF n = leVal data := by
  have htaken := takeRpdo_waits (s := framed s t b) (n := n) (data := data) (by rwa [mapLength_framed])
    (by rwa [get_heard (by decide), get_atTick])
  have hbuf : leVal data < 2 ^ Reg.width .RPDO_BUF := by
    rw [show Reg.width .RPDO_BUF = 8 * 64 from rfl, pow_mul]
    exact (leVal_lt data).trans_le (Nat.pow_le_pow_right (by decide) hfits)
  have hcob : ∀ m, (takeRpdo (framed s t b) n data).get .RPDO_COB m = s.get .RPDO_COB m := by
    intro m
    rw [htaken]
    simp (disch := decide)
  refine completes_eq (x := rpdoReceived (s.atTick t) b id data) rfl ((h.run hcob).trans htaken) ⟨get_put_same _, ?_, ?_⟩
  · exact (get_put_reg _ (by decide)).trans ((get_put_same _).trans (trunc_of_lt (lt_of_le_of_lt hfits (by decide))))
  · exact (get_put_reg _ (by decide)).trans ((get_put_reg _ (by decide)).trans ((get_put_same _).trans (trunc_of_lt hbuf)))

theorem rpdo_short (h : RpdoFor s b id n) (hshort : data.length < mapLength (mapEntries s false n (s.get .RPDO_N n))) :
    Completes (.rpdoReceived t b id data) s fun u =>
      u.get .RPDO_WAIT n = s.get .RPDO_WAIT n ∧ u.getBit .COMM_ERR 0 3 = true ∧ u.get .ERR_HIST 0 = 0x00FF8210 := by
  have htaken := takeRpdo_short (s := framed s t b) (n := n) (data := data) (by rwa [mapLength_framed])
  have hcob : ∀ m, (takeRpdo (framed s t b) n data).get .RPDO_COB m = s.get .RPDO_COB m := by
    intro m
    rw [htaken]
    simp (disch := decide)
  refine completes_eq (x := rpdoReceived (s.atTick t) b id data) rfl ((h.run hcob).trans htaken) ⟨?_, ?_, ?_⟩
  · exact (get_commError (by decide)).trans ((get_heard (by decide)).trans (get_atTick s))
  · exact commError_bit (by decide)
  · exact (commError_history (by decide) (by decide)).1

theorem time_taken (hhears : busHears s b = true) (hsingle : s.dv .CAN_RED 0 = 0) (hup : networkUp s = true) :
    Completes (.timeReceived t b data) s fun u =>
      u.get .TIME_MS 0 = fieldAt data 0 4 % 2 ^ 28 ∧ u.get .TIME_DAYS 0 = fieldAt data 4 2 % 2 ^ 16 ∧
      u.get .TIME_TICK 0 = (s.atTick t).ts % 2 ^ 64 := by
  have hup' : networkUp (framed s t b) = true := (networkUp_congr ((get_heard (by decide)).trans (get_atTick s))).trans hup
  have hrun : timeReceived (s.atTick t) b data = (((framed s t b).put .TIME_MS 0 (fieldAt data 0 4)).put .TIME_DAYS 0
      (fieldAt data 4 2)).put .TIME_TICK 0 (framed s t b).ts := by
    rw [timeReceived, takeFrame_heard (busHears_atTick.trans hhears) ((dv_atTick s).trans hsingle)]
    exact if_pos ⟨rfl, hup'⟩
  refine completes_eq (x := timeReceived (s.atTick t) b data) rfl hrun ⟨?_, ?_, ?_⟩
  · exact (get_put_reg _ (by decide)).trans ((get_put_reg _ (by decide)).trans (get_put_same _))
  · exact (get_put_reg _ (by decide)).trans (get_put_same _)
  · exact (get_put_same _).trans (congrArg (trunc 64) (ts_heard))

end

end

/-! ## Timers of TPDOs -/

section
variable {t : Nat} {n : Port}

theorem tpdoLive_atTick : tpdoLive (s.atTick t) n = tpdoLive s n := by
  rw [tpdoLive, tpdoLive, operational, operational, get_atTick, get_atTick]

section
variable (hlive : tpdoLive s n = true) (hevent : 254 ≤ s.get .TPDO_TYPE n) (hsingle : s.dv .CAN_RED 0 = 0) (hon : s.get .CAN_OFF 0 = 0)
  (hdom : s.getBit .DOM_ON 0 9 = true)
include hlive hevent hsingle hon hdom

theorem tpdoTimer_sends (htimer : s.get .TPDO_TIMER n ≠ 0) (hlate : s.get .TPDO_TICK n + s.get .TPDO_TIMER n * 160000 ≤ (s.atTick t).ts) :
    Completes (.tpdoEventTimer t n) s fun u =>
      u.tx = s.tx ++ [⟨0, s.get .TPDO_COB n % 2048, tpdoData (s.atTick t) n⟩] ∧ u.get .TPDO_SENT n = 1 ∧ u.get .TPDO_CHG n = 0 ∧
      u.get .TPDO_TICK n = (s.atTick t).ts % 2 ^ 64 := by
  have hcond : tpdoLive (s.atTick t) n ∧ eventDriven ((s.atTick t).get .TPDO_TYPE n) ∧ (s.atTick t).get .TPDO_TIMER n ≠ 0 ∧
      (s.atTick t).get .TPDO_TICK n + (s.atTick t).get .TPDO_TIMER n * ticksPerMs ≤ (s.atTick t).ts := by
    rw [tpdoLive_atTick, get_atTick, get_atTick, get_atTick, show ticksPerMs = 160000 from rfl]
    exact ⟨hlive, decide_eq_true hevent, htimer, hlate⟩
  obtain ⟨hframe, hsent, hchanged, htick⟩ := sendTpdo_sent (s := s.atTick t) (n := n) ((dv_atTick s).trans hsingle) ((get_atTick s).trans hon)
    ((getBit_atTick).trans hdom)
  rw [atTick_tx, get_atTick] at hframe
  exact completes_eq (x := tpdoTimer (s.atTick t) n) rfl (if_pos hcond) ⟨hframe, hsent, hchanged, htick⟩

theorem tpdoInhibit_sends (hchange : s.get .TPDO_CHG n = 1) (hpassed : inhibitPassed (s.atTick t) n = true) :
    Completes (.tpdoInhibitExpiry t n) s fun u =>
      u.tx = s.tx ++ [⟨0, s.get .TPDO_COB n % 2048, tpdoData (s.atTick t) n⟩] ∧ u.get .TPDO_CHG n = 0 := by
  have hcond : tpdoLive (s.atTick t) n ∧ eventDriven ((s.atTick t).get .TPDO_TYPE n) ∧ (s.atTick t).flag .TPDO_CHG n ∧
      inhibitPassed (s.atTick t) n := by
    rw [tpdoLive_atTick, get_atTick]
    exact ⟨hlive, decide_eq_true hevent, by simp [hchange], hpassed⟩
  obtain ⟨hframe, -, hchanged, -⟩ := sendTpdo_sent (s := s.atTick t) (n := n) ((dv_atTick s).trans hsingle) ((get_atTick s).trans hon)
    ((getBit_atTick).trans hdom)
  rw [atTick_tx, get_atTick] at hframe
  exact completes_eq (x := tpdoInhibit (s.atTick t) n) rfl (if_pos hcond) ⟨hframe, hchanged⟩

end

theorem tpdoTimer_idle (h : s.get .TPDO_TIMER n = 0) : Completes (.tpdoEventTimer t n) s fun u => u = s.atTick t := by
  refine completes_eq (x := tpdoTimer (s.atTick t) n) rfl (if_neg ?_) rfl
  rintro ⟨-, -, hset, -⟩
  exact hset ((get_atTick s).trans h)

theorem tpdoInhibit_idle (h : s.get .TPDO_CHG n = 0) : Completes (.tpdoInhibitExpiry t n) s fun u => u = s.atTick t := by
  refine completes_eq (x := tpdoInhibit (s.atTick t) n) rfl (if_neg ?_) rfl
  rintro ⟨-, -, hset, -⟩
  simp [h] at hset

end

/-! ## Heartbeats -/

section
variable {t : Nat}

theorem heartbeat_produced (hset : s.get .HB_PRODUCER 0 ≠ 0) (hup : networkUp s = true)
    (hlate : s.get .HBP_TICK 0 + s.get .HB_PRODUCER 0 * 160000 ≤ (s.atTick t).ts) (hsingle : s.dv .CAN_RED 0 = 0)
    (hon : s.get .CAN_OFF 0 = 0) (hdom : s.getBit .DOM_ON 0 9 = true) : Completes (.heartbeatProduce t) s fun u =>
      u.tx = s.tx ++ [⟨0, 0x700 + s.get .NODE_ID_ACT 0, [heartbeatState s]⟩] ∧ u.get .HBP_TICK 0 = (s.atTick t).ts % 2 ^ 64 := by
  have hcond : (s.atTick t).get .HB_PRODUCER 0 ≠ 0 ∧ (networkUp (s.atTick t) ∨ (s.atTick t).get .NMT_STATE 0 = nmtStopped) ∧
      (s.atTick t).get .HBP_TICK 0 + (s.atTick t).get .HB_PRODUCER 0 * ticksPerMs ≤ (s.atTick t).ts := by
    rw [get_atTick, get_atTick, get_atTick, show ticksPerMs = 160000 from rfl]
    exact ⟨hset, .inl ((networkUp_congr (get_atTick s)).trans hup), hlate⟩
  have hstate : heartbeatState (s.atTick t) = heartbeatState s := by rw [heartbeatState, heartbeatState, get_atTick]
  have hsend := sendCan_single (s := s.atTick t) (id := 0x700 + (s.atTick t).get .NODE_ID_ACT 0) (data := [heartbeatState (s.atTick t)])
    ((dv_atTick s).trans hsingle) ((get_atTick s).trans hon) ((getBit_atTick).trans hdom)
  refine completes_eq (x := heartbeatProduce (s.atTick t)) rfl (if_pos hcond) ⟨?_, get_put_same _⟩
  rw [hsend, hstate, get_atTick, ← atTick_tx (s := s) (t := t)]
  rfl

theorem heartbeat_off (h : s.get .HB_PRODUCER 0 = 0) : Completes (.heartbeatProduce t) s fun u => u = s.atTick t := by
  refine completes_eq (x := heartbeatProduce (s.atTick t)) rfl (if_neg ?_) rfl
  rintro ⟨hset, -⟩
  exact hset ((get_atTick s).trans h)

/-- A consumer that has heard its node. -/
structure Consumed (tick k : Nat) (u : State) : Prop where
  on : u.get .HBC_ON k = 1
  tick : u.get .HBC_TICK k = tick
  found : u.get .HBC_LOST k = 0

/-- The consumer entries of a node take note of it. -/
def consumersHeard (s : State) (node : Nat) : State :=
  s.each 8 (fun a k => consumerMs a k != 0 && consumerNode a k == node) fun a k =>
    ((a.put .HBC_ON k 1).put .HBC_TICK k a.ts).put .HBC_LOST k 0

/-- One consumer entry. -/
def consumerHeard (node : Nat) (a : State) (k : Nat) : State :=
  if consumerMs a k != 0 && consumerNode a k == node then ((a.put .HBC_ON k 1).put .HBC_TICK k a.ts).put .HBC_LOST k 0 else a

theorem consumersHeard_eq {node : Nat} : consumersHeard s node = (List.range 8).foldl (consumerHeard node) s := rfl

theorem consumerHeard_other {node j k : Nat} {r : Reg} (hkj : k ≠ j) : (consumerHeard node s j).get r k = s.get r k := by
  rw [consumerHeard]
  split
  · rw [get_put_away hkj, get_put_away hkj, get_put_away hkj]
  · rfl

theorem consumerHeard_ts {node j : Nat} : (consumerHeard node s j).ts = s.ts := by
  rw [consumerHeard]
  split <;> rfl

theorem consumersHeard_consumed {k node : Nat} (hk : k < 8) (hms : consumerMs s k ≠ 0) (hnode : consumerNode s k = node) :
    Consumed (s.ts % 2 ^ 64) k (consumersHeard s node) := by
  rw [consumersHeard_eq]
  refine foldl_visit (P := fun y => y.ts = s.ts ∧ y.get .HB_CONSUMER k = s.get .HB_CONSUMER k) (List.mem_range.mpr hk) List.nodup_range
    (fun y j hj hy => ⟨consumerHeard_ts.trans hy.1, (consumerHeard_other hj.symm).trans hy.2⟩) (fun y hy => ?_) (fun y j hj hy => ?_) ⟨rfl, rfl⟩
  · obtain ⟨hts, hentry⟩ := hy
    have hours : (consumerMs y k != 0 && consumerNode y k == node) = true := by
      rw [consumerMs] at hms
      rw [consumerNode] at hnode
      simp [consumerMs, consumerNode, hentry, hms, hnode]
    rw [consumerHeard, if_pos hours, ← hts]
    refine ⟨?_, (get_put_reg _ (by decide)).trans (get_put_same _), get_put_same _⟩
    exact (get_put_reg _ (by decide)).trans ((get_put_reg _ (by decide)).trans (get_put_same _))
  · obtain ⟨hon, htick, hfound⟩ := hy
    exact ⟨(consumerHeard_other hj.symm).trans hon, (consumerHeard_other hj.symm).trans htick, (consumerHeard_other hj.symm).trans hfound⟩

theorem Consumed.commClear {tick k j : Nat} (h : Consumed tick k s) : Consumed tick k (commClear s j) :=
  ⟨(get_commClear (by decide)).trans h.on, (get_commClear (by decide)).trans h.tick, (get_commClear (by decide)).trans h.found⟩

theorem consumersHeard_rx {node b : Nat} : (consumersHeard s node).get .CAN_RX_TICK b = s.get .CAN_RX_TICK b :=
  get_each fun x k => by simp (disch := decide)

theorem heartbeat_consumed {node state : Nat} {b : Fin 2} (hhears : busHears s b = true) : Completes (.heartbeatConsumed t b node state) s fun u =>
    u.get .CAN_RX_TICK b = (s.atTick t).ts % 2 ^ 64 ∧ ∀ k < 8, consumerMs s k ≠ 0 → consumerNode s k = node →
      u.get .HBC_ON k = 1 ∧ u.get .HBC_TICK k = (s.atTick t).ts % 2 ^ 64 ∧ u.get .HBC_LOST k = 0 := by
  have hhears' : ¬(!busHears (s.atTick t) b) = true := by simp [busHears_atTick.trans hhears]
  have hrun : heartbeatConsumed (s.atTick t) b node = if (List.range 8).any ((consumersHeard (framed s t b) node).flag .HBC_LOST)
      then consumersHeard (framed s t b) node else commClear (consumersHeard (framed s t b) node) 0 := if_neg hhears'
  have hentry : ∀ k, (framed s t b).get .HB_CONSUMER k = s.get .HB_CONSUMER k := fun k => (get_heard (by decide)).trans (get_atTick s)
  have hconsumed : ∀ k < 8, consumerMs s k ≠ 0 → consumerNode s k = node →
      Consumed ((s.atTick t).ts % 2 ^ 64) k (consumersHeard (framed s t b) node) := by
    intro k hk hms hnode
    have hall := consumersHeard_consumed (s := framed s t b) (node := node) hk (by rwa [consumerMs, hentry]) (by rwa [consumerNode, hentry])
    rwa [ts_heard] at hall
  refine completes_eq (x := heartbeatConsumed (s.atTick t) b node) rfl hrun ⟨?_, fun k hk hms hnode => ?_⟩
  · refine Eq.trans ?_ (heard_tick (s := s.atTick t) (b := b))
    split
    · exact consumersHeard_rx
    · exact (get_commClear (by decide)).trans consumersHeard_rx
  · have hk' := hconsumed k hk hms hnode
    split
    · exact ⟨hk'.on, hk'.tick, hk'.found⟩
    · have hcleared := hk'.commClear (j := 0)
      exact ⟨hcleared.on, hcleared.tick, hcleared.found⟩

end

/-! ## EMCY -/

section
variable {t : Nat}

theorem emcy_released {m : List Nat} {rest : List (List Nat)} (hq : s.emcyQ = m :: rest) (hup : s.get .SEQ_DOWN 0 = 0)
    (hallowed : emcyAllowed s = true) (hover : inhibitOver (s.atTick t) = true) (hcob : s.getBit .COB_EMCY 0 31 = false)
    (hsingle : s.dv .CAN_RED 0 = 0) (hon : s.get .CAN_OFF 0 = 0) (hdom : s.getBit .DOM_ON 0 9 = true) :
    Completes (.emcyInhibitExpiry t) s fun u =>
      u.emcyQ = rest ∧ u.tx = s.tx ++ [⟨0, s.get .COB_EMCY 0 % 2048, m⟩] ∧ u.get .EMCY_TICK 0 = (s.atTick t).ts % 2 ^ 64 := by
  have hallowed' : emcyAllowed (s.atTick t) = true := by rwa [emcyAllowed, get_atTick]
  have hrun : emcyRelease (s.atTick t) = sendEmcy { s.atTick t with emcyQ := rest } m := by
    rw [emcyRelease, atTick_emcyQ, hq]
    dsimp only
    rw [if_neg (by simp [hup]), if_neg (by simp [hallowed']), if_pos hover]
  have hlisten : ¬({ s.atTick t with emcyQ := rest } : State).getBit .COB_EMCY 0 31 = true := by
    have hsame : ({ s.atTick t with emcyQ := rest } : State).getBit .COB_EMCY 0 31 = s.getBit .COB_EMCY 0 31 := getBit_atTick
    rw [hsame, hcob]
    decide
  have hsend := sendCan_single (s := { s.atTick t with emcyQ := rest }) (id := (s.atTick t).get .COB_EMCY 0 % 2048) (data := m)
    ((dv_atTick s).trans hsingle) ((get_atTick s).trans hon) ((getBit_atTick).trans hdom)
  have hsent : sendEmcy { s.atTick t with emcyQ := rest } m =
      ((({ s.atTick t with emcyQ := rest } : State).send 0 ((s.atTick t).get .COB_EMCY 0 % 2048) m).put .EMCY_TICK 0 (s.atTick t).ts).put
        .EMCY_SENT 0 1 :=
    (if_neg hlisten).trans (congrArg (fun x : State => (x.put .EMCY_TICK 0 (s.atTick t).ts).put .EMCY_SENT 0 1) hsend)
  refine completes_eq (x := emcyRelease (s.atTick t)) rfl (hrun.trans hsent) ⟨rfl, ?_, ?_⟩
  · rw [get_atTick, ← atTick_tx (s := s) (t := t)]
    rfl
  · exact (get_put_reg _ (by decide)).trans (get_put_same _)

theorem emcy_idle (hq : s.emcyQ = []) : Completes (.emcyInhibitExpiry t) s fun u => u = s.atTick t := by
  refine completes_eq (x := emcyRelease (s.atTick t)) rfl ?_ rfl
  rw [emcyRelease, atTick_emcyQ, hq]

end

end

/-- Settles O49: a SYNC outside redundant mode is counted, then its targets and PDOs, none of which writes the counter or the bus's time;
another slot's target leaves a slot's chain alone; the one RPDO of the identifier, the due TPDO, the heartbeat and the waiting EMCY act
as stated. -/
theorem pdosAndHeartbeats : Obligations.PdosAndHeartbeats :=
  ⟨fun _ _ _ _ => sync_counted, fun _ _ _ _ _ => sync_takesTarget, fun _ _ _ _ => sync_ignored,
    fun _ _ _ _ _ _ hhears hsingle hop hn honly hsync hlong hfits _ => rpdo_waits ⟨hhears, hsingle, hop, hn, honly⟩ hsync hlong hfits,
    fun _ _ _ _ _ _ hhears hsingle hop hn honly hshort => rpdo_short ⟨hhears, hsingle, hop, hn, honly⟩ hshort,
    fun _ _ _ _ => time_taken,
    fun _ _ _ hlive hevent htimer hlate hsingle hon hdom => tpdoTimer_sends hlive hevent hsingle hon hdom htimer hlate,
    fun _ _ _ => tpdoTimer_idle,
    fun _ _ _ hlive hevent hchange hpassed hsingle hon hdom => tpdoInhibit_sends hlive hevent hsingle hon hdom hchange hpassed,
    fun _ _ _ => tpdoInhibit_idle, fun _ _ => heartbeat_produced, fun _ _ => heartbeat_off, fun _ _ _ _ _ => heartbeat_consumed,
    fun _ _ _ _ => emcy_released, fun _ _ => emcy_idle⟩

end Sys2Proof.Proofs
end

section
/-! O55: the mailbox. -/

namespace Sys2Proof.Proofs

open Machine Laws

section
variable {s : State} {q : Nat}

/-! ## Entries of a queue other than Q11 -/

/-- A watermark judged leaves another queue's pointers and counts alone. -/
theorem get_judgeRise_queue {r : Reg} {before : Nat} (hq : q ≠ 11) (hseq : r ≠ .EVENT_SEQ) (hwm : r ≠ .Q11_WM) (hflag : r ≠ .Q11_FULL)
    (hhit : r ≠ .QWM_HIT) : (s.judgeRise q before).get r q = s.get r q := by
  rw [State.judgeRise]
  split
  · rw [State.crossWatermark, if_neg hq, get_post_otherQueue hq hseq hwm hflag]
    exact get_put_reg s hhit
  · rfl

theorem qFill_judgeRise {before : Nat} (hq : q ≠ 11) : (s.judgeRise q before).qFill q = s.qFill q := by
  have hsize : (s.judgeRise q before).qSize q = s.qSize q := congrArg (2 ^ ·) (dv_State_judgeRise rfl)
  rw [State.qFill, State.qFill, hsize, get_judgeRise_queue hq (by decide) (by decide) (by decide) (by decide),
    get_judgeRise_queue hq (by decide) (by decide) (by decide) (by decide)]

/-- An entry that finds room. -/
theorem enqueue_room {ws : List Nat} (hroom : s.qFill q ≠ s.qSize q) : s.enqueue q ws = (s.qPutRaw q ws).judgeRise q (s.qFill q) := if_neg hroom

section
variable {ws : List Nat} (hq : q ≠ 11) (hroom : s.qFill q ≠ s.qSize q)
include hq hroom

theorem wr_enqueue : (s.enqueue q ws).get .QWR q = (s.get .QWR q + 1) % (2 * s.qSize q) % 2 ^ 15 := by
  rw [enqueue_room hroom, get_judgeRise_queue hq (by decide) (by decide) (by decide) (by decide)]
  simp only [State.qPutRaw, State.setQLevel, get_put_reg _ (show Reg.QWR ≠ .QLEVEL by decide), get_put_same]
  rfl

theorem rd_enqueue : (s.enqueue q ws).get .QRD q = s.get .QRD q := by
  rw [enqueue_room hroom, get_judgeRise_queue hq (by decide) (by decide) (by decide) (by decide), rd_qPutRaw]

theorem qdrop_enqueue : (s.enqueue q ws).get .QDROP q = s.get .QDROP q := by
  rw [enqueue_room hroom, get_judgeRise_queue hq (by decide) (by decide) (by decide) (by decide)]
  simp [State.qPutRaw, State.setQLevel]

end

theorem qSize_enqueue {ws : List Nat} {p : Nat} : (s.enqueue q ws).qSize p = s.qSize p :=
  congrArg (2 ^ ·) (dv_State_enqueue rfl)

/-! ## Reading past an entry -/

/-- A queue of the device reads past its head. -/
theorem advanceRd_eq (hrule : fallingRule q = false) :
    s.advanceRd q = (s.put .QRD q (s.qNext q (s.get .QRD q) 1)).setQLevel q := by
  rw [State.advanceRd, State.setRd, State.judgeFall, if_neg (by simp [hrule])]

/-- The read pointer is inside its ring and its field. -/
structure RdFits (s : State) (q : Nat) : Prop where
  ring : s.get .QRD q < 2 * s.qSize q
  field : s.get .QRD q < 2 ^ 15

theorem rdFits_advanceRd (hrule : fallingRule q = false) : RdFits (s.advanceRd q) q := by
  have hrd : (s.advanceRd q).get .QRD q = s.qNext q (s.get .QRD q) 1 % 2 ^ 15 := by
    rw [advanceRd_eq hrule]
    exact (get_put_reg _ (by decide)).trans (get_put_same s)
  have hsize : (s.advanceRd q).qSize q = s.qSize q := by
    rw [advanceRd_eq hrule]
    rfl
  have hnext : s.qNext q (s.get .QRD q) 1 < 2 * s.qSize q := Nat.mod_lt _ (by have := qSize_pos s q; omega)
  exact ⟨by rw [hrd, hsize]; exact lt_of_le_of_lt (Nat.mod_le _ _) hnext, by rw [hrd]; exact Nat.mod_lt _ (by decide)⟩

theorem rdFits_passBad (hrule : fallingRule q = false) : ∀ {n : Nat} {s : State}, RdFits s q → RdFits (State.passBad n s q) q
  | 0, _, h => h
  | n + 1, s, h => by
    rw [State.passBad]
    split
    · exact rdFits_passBad hrule (rdFits_advanceRd hrule)
    · exact h

theorem rdFits_dequeue (hrule : fallingRule q = false) (h : s.qFill q ≠ 0) : RdFits (s.dequeue q) q := by
  rw [State.dequeue, if_neg h]
  exact rdFits_passBad hrule (rdFits_advanceRd hrule)

theorem get_advanceRd {r : Reg} {i : Nat} (hrule : fallingRule q = false) (hrd : r ≠ .QRD) (hlevel : r ≠ .QLEVEL) :
    (s.advanceRd q).get r i = s.get r i := by
  rw [advanceRd_eq hrule]
  exact (get_put_reg _ hlevel).trans (get_put_reg s hrd)

theorem get_passBad {r : Reg} {i : Nat} (hrule : fallingRule q = false) (hrd : r ≠ .QRD) (hlevel : r ≠ .QLEVEL) :
    ∀ {n : Nat} {s : State}, (State.passBad n s q).get r i = s.get r i
  | 0, _ => rfl
  | n + 1, s => by
    rw [State.passBad]
    split
    · exact (get_passBad hrule hrd hlevel).trans (get_advanceRd hrule hrd hlevel)
    · rfl

theorem get_dequeue {r : Reg} {i : Nat} (hrule : fallingRule q = false) (hrd : r ≠ .QRD) (hlevel : r ≠ .QLEVEL) :
    (s.dequeue q).get r i = s.get r i := by
  rw [State.dequeue]
  split
  · rfl
  · exact (get_passBad hrule hrd hlevel).trans (get_advanceRd hrule hrd hlevel)

/-! ## Room for the entries of a frame -/

/-- The fill of a ring is that of its write pointer's place in it. -/
theorem fill_mod {n wr rd : Nat} (hrd : rd < n) : (wr % n + n - rd) % n = (wr + n - rd) % n := by
  have hsplit : wr + n - rd = wr % n + n - rd + n * (wr / n) := by
    have := Nat.mod_add_div wr n
    omega
  rw [hsplit, Nat.add_mul_mod_self_left]

/-- One more entry in a ring, wherever its write pointer stood. -/
theorem fill_next {n wr rd : Nat} (hrd : rd < n) (hroom : (wr + n - rd) % n + 1 < n) :
    ((wr + 1) % n + n - rd) % n = (wr + n - rd) % n + 1 := by
  have hpos : 0 < n := by omega
  rw [← fill_mod (wr := wr) hrd] at hroom ⊢
  rw [← Nat.mod_add_mod]
  exact fill_succ (Nat.mod_lt _ hpos) hrd hroom

/-- No pointer of 15 bits makes a queue of more than 2 ^ 14 entries full. -/
theorem fill_ne_size {n wr rd : Nat} (hn : 2 ^ 15 ≤ n) (hwr : wr < 2 ^ 15) (hrd : rd < 2 ^ 15) : (wr + 2 * n - rd) % (2 * n) ≠ n := by
  rcases Nat.lt_or_ge wr rd with h | h
  · rw [Nat.mod_eq_of_lt (by omega)]
    omega
  · rw [Nat.mod_eq_sub_mod (by omega), Nat.mod_eq_of_lt (by omega)]
    omega

/-- `k` entries find room one after another. -/
def RoomFor (s : State) (q k : Nat) : Prop :=
  (s.qSize q ≤ 2 ^ 14 ∧ s.qFill q + k ≤ s.qSize q) ∨ (2 ^ 15 ≤ s.qSize q ∧ (k = 0 ∨ s.qFill q ≠ s.qSize q))

theorem roomFor_of_le {k : Nat} (h : s.qFill q + k ≤ s.qSize q) : RoomFor s q k := by
  rcases Nat.lt_or_ge (s.dv .QSIZE_LOG2 q) 15 with hlog | hlog
  · exact .inl ⟨Nat.pow_le_pow_right (by decide) (Nat.le_of_lt_succ hlog), h⟩
  · exact .inr ⟨Nat.pow_le_pow_right (by decide) hlog, by omega⟩

theorem RoomFor.room {k : Nat} (h : RoomFor s q (k + 1)) : s.qFill q ≠ s.qSize q := by
  rcases h with ⟨-, h⟩ | ⟨-, h⟩
  · omega
  · exact h.resolve_left (Nat.succ_ne_zero k)

theorem RdFits.congr {y : State} (h : RdFits s q) (hrd : y.get .QRD q = s.get .QRD q) (hsize : y.qSize q = s.qSize q) : RdFits y q :=
  ⟨by rw [hrd, hsize]; exact h.ring, by rw [hrd]; exact h.field⟩

theorem RoomFor.enqueue {k : Nat} {ws : List Nat} (hq : q ≠ 11) (hfits : RdFits s q) (h : RoomFor s q (k + 1)) : RoomFor (s.enqueue q ws) q k := by
  have hroom := h.room
  have hpos := qSize_pos s q
  rw [RoomFor, State.qFill, wr_enqueue hq hroom, rd_enqueue hq hroom, qSize_enqueue]
  rcases h with ⟨hsmall, hfill⟩ | ⟨hbig, -⟩
  · have hptr : (s.get .QWR q + 1) % (2 * s.qSize q) < 2 ^ 15 := lt_of_lt_of_le (Nat.mod_lt _ (by omega)) (by omega)
    have hnext := fill_next (wr := s.get .QWR q) hfits.ring (show s.qFill q + 1 < 2 * s.qSize q by omega)
    refine .inl ⟨hsmall, ?_⟩
    rw [Nat.mod_eq_of_lt hptr, hnext]
    rw [State.qFill] at hfill
    omega
  · exact .inr ⟨hbig, .inr (fill_ne_size hbig (Nat.mod_lt _ (by decide)) hfits.field)⟩

/-! ## Q15 being pumped out -/

/-- Q15 has dropped `d` frames, and its head has stood since `ts`. -/
structure Pumped (d ts : Nat) (s : State) : Prop where
  fits : RdFits s 15
  drops : s.get .QDROP 15 = d
  tick : s.get .Q15_TICK 0 = ts % 2 ^ 64
  now : s.ts = ts

section
variable {d ts : Nat}

theorem Pumped.put {r : Reg} {v : Nat} (h : Pumped d ts s) (hr : r ∉ [Reg.QRD, .QDROP, .Q15_TICK]) {i : Nat} : Pumped d ts (s.put r i v) := by
  simp only [List.mem_cons, List.not_mem_nil, or_false, not_or] at hr
  obtain ⟨hrd, hdrop, htick⟩ := hr
  exact ⟨h.fits.congr (get_put_reg s (Ne.symm hrd)) rfl, (get_put_reg s (Ne.symm hdrop)).trans h.drops,
    (get_put_reg s (Ne.symm htick)).trans h.tick, h.now⟩

/-- Only registers, developed copies and the time-stamp matter. -/
theorem Pumped.congr {y : State} (h : Pumped d ts s) (hregs : y.regs = s.regs) (hdev : y.dev = s.dev) (hts : y.ts = s.ts) : Pumped d ts y := by
  have hget : ∀ r i, y.get r i = s.get r i := fun r i => congrArg (RegFile.get · r i) hregs
  have hsize : y.qSize 15 = s.qSize 15 := congrArg (fun f => 2 ^ RegFile.get f .QSIZE_LOG2 15) hdev
  exact ⟨h.fits.congr (hget _ _) hsize, (hget _ _).trans h.drops, (hget _ _).trans h.tick, hts.trans h.now⟩

theorem Pumped.putTick (h : Pumped d ts s) : Pumped d ts (s.put .Q15_TICK 0 s.ts) :=
  ⟨h.fits.congr (get_put_reg s (by decide)) rfl, (get_put_reg s (by decide)).trans h.drops,
    (get_put_same s).trans (congrArg (trunc 64) h.now), h.now⟩

theorem Pumped.dequeue (h : Pumped d ts s) : Pumped d ts (s.dequeue 15) := by
  refine ⟨?_, (get_dequeue rfl (by decide) (by decide)).trans h.drops, (get_dequeue rfl (by decide) (by decide)).trans h.tick,
    ts_State_dequeue.trans h.now⟩
  by_cases hempty : s.qFill 15 = 0
  · rw [State.dequeue, if_pos hempty]
    exact h.fits
  · exact rdFits_dequeue rfl hempty

theorem Pumped.enqueue {ws : List Nat} (h : Pumped d ts s) (hroom : s.qFill 15 ≠ s.qSize 15) : Pumped d ts (s.enqueue 15 ws) :=
  ⟨h.fits.congr (rd_enqueue (by decide) hroom) qSize_enqueue, (qdrop_enqueue (by decide) hroom).trans h.drops,
    (get_State_enqueue (by decide)).trans h.tick, ts_State_enqueue.trans h.now⟩

theorem Pumped.judgeMailbox (h : Pumped d ts s) : Pumped d ts (judgeMailbox s) := (h.put (by decide)).put (by decide)

theorem Pumped.drainOut : ∀ {n : Nat} {s : State} {acc : List Nat}, Pumped d ts s → Pumped d ts (drainOut n s acc)
  | 0, _, _, h => h
  | n + 1, s, acc, h => by
    have hnext : Pumped d ts ((s.dequeue 15).put .Q15_TICK 0 s.ts) := by
      have hdequeued := h.dequeue.putTick
      rwa [ts_State_dequeue] at hdequeued
    rw [Machine.drainOut]
    split
    · exact h
    · split
      · exact hnext.drainOut
      · split
        · exact Pumped.drainOut (s := ((s.dequeue 15).put .Q15_TICK 0 s.ts).send _ _ _) (hnext.congr rfl rfl rfl)
        · exact Pumped.drainOut (s := { (s.dequeue 15).put .Q15_TICK 0 s.ts with resp := _ }) (hnext.congr rfl rfl rfl)

theorem Pumped.drainQ15 (h : Pumped d ts s) : Pumped d ts (drainQ15 s) := h.drainOut.judgeMailbox

/-- A frame fills one entry for three bytes or less. -/
theorem length_entriesFor {valid : Bool} {path : Nat} : ∀ {first : Bool} {f : List Nat}, (entriesFor valid path first f).length = (f.length + 2) / 3
  | _, [] => rfl
  | _, [a] => by simp [entriesFor]
  | _, [a, b] => by simp [entriesFor]
  | _, [a, b, c] => by simp [entriesFor]
  | first, a :: b :: c :: d :: t => by
    have h := length_entriesFor (valid := valid) (path := path) (first := false) (f := d :: t)
    simp only [entriesFor, List.length_cons] at h ⊢
    omega

theorem Pumped.enqueueAll : ∀ {ws : List Nat} {s : State}, Pumped d ts s → RoomFor s 15 ws.length →
    Pumped d ts (ws.foldl (fun a w => a.enqueue 15 [w]) s)
  | [], _, h, _ => h
  | _ :: _, _, h, hroom => (h.enqueue hroom.room).enqueueAll (hroom.enqueue (by decide) h.fits)

theorem Pumped.putFrame {path : Nat} {f : List Nat} (h : Pumped d ts s) (hroom : s.qFill 15 + (f.length + 2) / 3 ≤ s.qSize 15) :
    Pumped d ts (putFrame s path f) := by
  have hstart : Pumped d ts (if s.qFill 15 = 0 then s.put .Q15_TICK 0 s.ts else s) := by
    split
    · exact h.putTick
    · exact h
  have hfill : (if s.qFill 15 = 0 then s.put .Q15_TICK 0 s.ts else s).qFill 15 = s.qFill 15 := by
    split
    · exact qFill_put (by decide) (by decide)
    · rfl
  have hsize : (if s.qFill 15 = 0 then s.put .Q15_TICK 0 s.ts else s).qSize 15 = s.qSize 15 := by
    split <;> rfl
  have hfilled := hstart.enqueueAll (ws := entriesFor true path true f) (roomFor_of_le (by rwa [hfill, hsize, length_entriesFor]))
  rw [Machine.putFrame]
  split
  · exact hfilled.put (by decide)
  · exact hfilled

theorem Pumped.pushWaiting : ∀ {l : List (Nat × List Nat)} {s : State}, Pumped d ts s → Pumped d ts (pushWaiting s l)
  | [], _, h => h.congr rfl rfl rfl
  | (p, f) :: l, s, h => by
    rw [Machine.pushWaiting]
    split
    · exact h.congr rfl rfl rfl
    · next hroom => exact (h.putFrame (Nat.le_of_not_lt hroom)).drainQ15.pushWaiting

theorem Pumped.pumpOut (h : Pumped d ts s) : Pumped d ts (pumpOut s) := h.drainQ15.pushWaiting.judgeMailbox

end

/-! ## A response that waits too long -/

theorem rdFits_dropHead : ∀ {n : Nat} {s : State}, RdFits s 15 → RdFits (dropHead n s) 15
  | 0, _, h => h
  | n + 1, s, h => by
    rw [dropHead]
    split
    · exact h
    · next hfull =>
      have hnext := rdFits_dequeue (s := s) (q := 15) rfl hfull
      dsimp only
      split
      · exact hnext
      · exact rdFits_dropHead hnext

theorem rdFits_dropHead_full {n : Nat} (h : s.qFill 15 ≠ 0) : RdFits (dropHead (n + 1) s) 15 := by
  have hnext := rdFits_dequeue (s := s) (q := 15) rfl h
  rw [dropHead, if_neg h]
  dsimp only
  split
  · exact hnext
  · exact rdFits_dropHead hnext

theorem qdrop_dropHead : ∀ {n : Nat} {s : State}, (dropHead n s).get .QDROP 15 = s.get .QDROP 15
  | 0, _ => rfl
  | n + 1, s => by
    rw [dropHead]
    split
    · rfl
    · dsimp only
      split
      · exact get_dequeue rfl (by decide) (by decide)
      · exact qdrop_dropHead.trans (get_dequeue rfl (by decide) (by decide))

theorem headWord_atTick {t : Nat} : headWord (s.atTick t) q = headWord s q := by
  simp [headWord, State.qHead, State.words, State.word, State.qAddr, State.qBase, State.qSize]

theorem qFill_atTick {t : Nat} : (s.atTick t).qFill q = s.qFill q := by
  simp [State.qFill, State.qSize]

theorem outReady_atTick {t : Nat} : outReady (s.atTick t) = outReady s := by
  rw [outReady, outReady, headWord_atTick, qFill_atTick]

/-- Q15 after the frame at its head has been dropped. -/
def headDropped (s : State) : State := (((dropHead (s.qFill 15) s).count .QDROP 15).put .OUT_TIMEOUT 0 1).put .Q15_TICK 0 s.ts

theorem ts_dropHead : ∀ {n : Nat} {s : State}, (dropHead n s).ts = s.ts
  | 0, _ => rfl
  | n + 1, s => by
    rw [dropHead]
    split
    · rfl
    · dsimp only
      split
      · exact ts_State_dequeue
      · exact ts_dropHead.trans ts_State_dequeue

theorem pumped_headDropped (h : s.qFill 15 ≠ 0) : Pumped (min (s.get .QDROP 15 + 1) 65535) s.ts (headDropped s) := by
  obtain ⟨n, hn⟩ := Nat.exists_eq_succ_of_ne_zero h
  have hfits : RdFits (dropHead (s.qFill 15) s) 15 := hn ▸ rdFits_dropHead_full h
  have hget : ∀ {r : Reg}, r ≠ .Q15_TICK → r ≠ .OUT_TIMEOUT → (headDropped s).get r 15 = ((dropHead (s.qFill 15) s).count .QDROP 15).get r 15 :=
    fun htick hout => (get_put_reg _ htick).trans (get_put_reg _ hout)
  refine ⟨hfits.congr ((hget (by decide) (by decide)).trans (get_count_reg (by decide))) rfl, ?_, get_put_same _, ts_dropHead⟩
  rw [hget (by decide) (by decide), get_count, qdrop_dropHead]
  rfl

theorem outTimeout_completes {t : Nat} (hready : outReady s = true) (hfirst : entryFirst (headWord s 15) = true)
    (hlate : s.get .Q15_TICK 0 + 16000000 ≤ (s.atTick t).ts) : Completes (.spiOutTimeout t) s fun u =>
      u.get .OUT_TIMEOUT 0 = 1 ∧ u.get .QDROP 15 = min (s.get .QDROP 15 + 1) 65535 ∧ u.get .Q15_TICK 0 = u.ts % 2 ^ 64 := by
  have hcond : outReady (s.atTick t) ∧ entryFirst (headWord (s.atTick t) 15) ∧ (s.atTick t).get .Q15_TICK 0 + 100 * 160000 ≤ (s.atTick t).ts := by
    rw [outReady_atTick, headWord_atTick, get_atTick]
    exact ⟨hready, hfirst, hlate⟩
  have hfull : (s.atTick t).qFill 15 ≠ 0 := by
    rw [outReady, Bool.and_eq_true, bne_iff_ne] at hready
    rw [qFill_atTick]
    exact hready.1
  have hrun : outTimeout (s.atTick t) = pumpOut (headDropped (s.atTick t)) := by
    rw [outTimeout, if_pos hcond, headDropped, ← ts_dropHead (n := (s.atTick t).qFill 15) (s := s.atTick t)]
    rfl
  have hpumped := (pumped_headDropped hfull).pumpOut
  refine completes_eq (x := outTimeout (s.atTick t)) rfl hrun ⟨?_, ?_, ?_⟩
  · rw [get_pumpOut (by decide)]
    exact (get_put_reg _ (by decide)).trans (get_put_same _)
  · rw [hpumped.drops, get_atTick]
  · rw [hpumped.tick, hpumped.now]

theorem outTimeout_idle {t : Nat} (h : outReady s = false ∨ (s.atTick t).ts < s.get .Q15_TICK 0 + 16000000) :
    Completes (.spiOutTimeout t) s fun u => u = s.atTick t := by
  refine completes_eq (x := outTimeout (s.atTick t)) rfl (if_neg ?_) rfl
  rw [outReady_atTick, get_atTick]
  rintro ⟨hready, -, hlate⟩
  rcases h with h | h
  · exact absurd (h.symm.trans hready) (by decide)
  · omega

/-! ## A read of MBX_OUT -/

theorem mbxOut_empty (h : outReady s = false) : Completes .mbxOutRead s fun u =>
    u.answer = [0] ∧ u.mem = s.mem ∧ ∀ r i, r ≠ .ANS_ABORT → u.get r i = s.get r i := by
  have hrun : mbxOut s = (s, 0) := if_neg (by simp [h])
  have hexec : execMbxOutRead s = .next (s.reply 0 [0]) := by rw [execMbxOutRead, hrun]
  exact completes_eq hexec rfl ⟨rfl, rfl, fun r i hr => get_reply hr⟩

/-- The last entry of a ring is taken. -/
theorem fill_pred {n wr rd : Nat} (hrd : rd < n) (h : (wr + n - rd) % n = 1) : (wr + n - (rd + 1) % n) % n = 0 := by
  have hdiv := Nat.div_add_mod (wr + n - rd) n
  rw [h] at hdiv
  rcases Nat.lt_or_ge (rd + 1) n with hlt | hge
  · rw [Nat.mod_eq_of_lt hlt, show wr + n - (rd + 1) = n * ((wr + n - rd) / n) by omega, Nat.mul_mod_right]
  · rw [show rd + 1 = n by omega, Nat.mod_self, show wr + n - 0 = n * ((wr + n - rd) / n) + n by omega, Nat.add_mod_right, Nat.mul_mod_right]

theorem fill_advanceRd (hrule : fallingRule q = false) (hlog : s.dv .QSIZE_LOG2 q ≤ 13) (hrd : s.get .QRD q < 2 * s.qSize q) (hone : s.qFill q = 1) :
    (s.advanceRd q).qFill q = 0 := by
  have hfits : s.qNext q (s.get .QRD q) 1 < 2 ^ Reg.width .QRD := qNext_fits hlog
  have hnext : (s.advanceRd q).get .QRD q = (s.get .QRD q + 1) % (2 * s.qSize q) := by
    rw [advanceRd_eq hrule]
    exact (get_put_reg _ (by decide)).trans ((get_put_same s).trans (trunc_of_lt hfits))
  have hsize : (s.advanceRd q).qSize q = s.qSize q := by
    rw [advanceRd_eq hrule]
    rfl
  rw [State.qFill, get_advanceRd hrule (by decide) (by decide), hnext, hsize]
  exact fill_pred hrd hone

theorem dequeue_last (hrule : fallingRule q = false) (hlog : s.dv .QSIZE_LOG2 q ≤ 13) (hrd : s.get .QRD q < 2 * s.qSize q) (hone : s.qFill q = 1) :
    s.dequeue q = s.advanceRd q := by
  have hempty := fill_advanceRd hrule hlog hrd hone
  rw [State.dequeue, if_neg (by omega), hone, State.passBad, if_neg (fun h => h.1 hempty)]

theorem qFill_judgeMailbox : (judgeMailbox s).qFill q = s.qFill q :=
  (qFill_put (by decide) (by decide)).trans (qFill_put (by decide) (by decide))

/-- Nothing is pumped out of an empty Q15 with nothing that waits. -/
theorem pumpOut_empty (hempty : s.qFill 15 = 0) (hwait : s.outWait = []) : (pumpOut s).qFill 15 = 0 ∧ (pumpOut s).get .OUT_READY 0 = 0 := by
  have hdrain : drainQ15 s = judgeMailbox s := by rw [drainQ15, hempty, drainOut]
  have hpump : pumpOut s = judgeMailbox { judgeMailbox s with outWait := [] } := by rw [pumpOut, hdrain, hwait, pushWaiting]
  have hfill : ({ judgeMailbox s with outWait := [] } : State).qFill 15 = 0 := (qFill_judgeMailbox (q := 15)).trans hempty
  generalize ({ judgeMailbox s with outWait := [] } : State) = y at hpump hfill
  rw [hpump]
  refine ⟨qFill_judgeMailbox.trans hfill, ?_⟩
  refine (get_put_reg _ (by decide)).trans ((get_put_same _).trans ?_)
  simp [outReady, hfill, b2n, trunc]

theorem qFill_reply {a : Nat} {l : List Nat} : (s.reply a l).qFill q = s.qFill q := by
  have hsize : (s.reply a l).qSize q = s.qSize q := rfl
  rw [State.qFill, State.qFill, get_reply (by decide), get_reply (by decide), hsize]

theorem outWait_advanceRd (hrule : fallingRule q = false) : (s.advanceRd q).outWait = s.outWait := by
  rw [advanceRd_eq hrule]
  rfl

theorem mbxOut_last (hready : outReady s = true) (hwait : s.outWait = []) (hlog : s.dv .QSIZE_LOG2 15 ≤ 13)
    (hrd : s.get .QRD 15 < 2 * s.qSize 15) (hone : s.qFill 15 = 1) : Completes .mbxOutRead s fun u =>
      u.answer = [headWord s 15] ∧ u.qFill 15 = 0 ∧ u.get .OUT_READY 0 = 0 := by
  have htaken := dequeue_last (q := 15) rfl hlog hrd hone
  have hempty := fill_advanceRd (q := 15) rfl hlog hrd hone
  obtain ⟨y, hrun, hyfill, hywait⟩ : ∃ y, mbxOut s = (pumpOut y, headWord s 15) ∧ y.qFill 15 = 0 ∧ y.outWait = [] := by
    refine ⟨_, if_pos hready, ?_, ?_⟩
    · rw [htaken]
      split
      · exact (qFill_put (by decide) (by decide)).trans hempty
      · exact hempty
    · rw [htaken]
      split <;> exact (outWait_advanceRd rfl).trans hwait
  obtain ⟨hfill, hidle⟩ := pumpOut_empty hyfill hywait
  have hexec : execMbxOutRead s = .next ((pumpOut y).reply 0 [headWord s 15]) := by rw [execMbxOutRead, hrun]
  exact completes_eq hexec rfl ⟨rfl, qFill_reply.trans hfill, (get_reply (by decide)).trans hidle⟩

/-! ## MBX_IN -/

/-- The path bits of a word offered by SPI. -/
theorem setBits_spi {w : Nat} (hw : w < 2 ^ 32) : setBits w 30 2 0 = w % 2 ^ 30 := by
  rw [setBits, Nat.div_eq_of_lt hw]
  simp

theorem count_low {w : Nat} : w % 2 ^ 30 / 2 ^ 24 % 4 = w / 2 ^ 24 % 4 := by omega

theorem execMbxIn_eq {w : Nat} (hw : w < 2 ^ 32) : execMbxInCommit w s = .next (offerEntry s 0 w) := by
  rw [execMbxInCommit, Nat.mod_eq_of_lt hw]
  rfl

theorem offerEntry_spi {w : Nat} (hw : w < 2 ^ 32) : offerEntry s 0 w =
    if w / 2 ^ 24 % 4 = 3 then s.count .QDROP 14
    else if s.qFill 14 = s.qSize 14 then judgeMailbox ((s.qDrop 14).put .IN_DROP 0 1)
    else judgeMailbox (if entryLast (w % 2 ^ 30) then drainIn ((s.enqueue 14 [w % 2 ^ 30]).qFill 14) (s.enqueue 14 [w % 2 ^ 30])
      else s.enqueue 14 [w % 2 ^ 30]) := by
  rw [offerEntry, setBits_spi hw, count_low]

theorem mbxIn_full {w : Nat} (hw : w < 2 ^ 32) (hcount : w / 2 ^ 24 % 4 ≠ 3) (hfull : s.qFill 14 = s.qSize 14) :
    Completes (.mbxInCommit w) s fun u =>
      u.get .IN_DROP 0 = 1 ∧ u.get .IN_FULL 0 = 1 ∧ u.get .QDROP 14 = min (s.get .QDROP 14 + 1) 65535 ∧
      u.get .QWR 14 = s.get .QWR 14 ∧ u.rx = s.rx := by
  have hrun : offerEntry s 0 w = judgeMailbox ((s.qDrop 14).put .IN_DROP 0 1) := by
    rw [offerEntry_spi hw, if_neg hcount, if_pos hfull]
  obtain ⟨hwr, hrd, hdrop, -⟩ := get_qDrop (s := s) (q := 14) (by decide)
  have hsize : (s.qDrop 14).qSize 14 = s.qSize 14 := congrArg (2 ^ ·) (dv_State_qDrop rfl)
  have hrx : (s.qDrop 14).rx = s.rx := rx_of (fun _ hk => keep_State_qDrop hk) rfl
  have hstill : (s.qDrop 14).qFill 14 = (s.qDrop 14).qSize 14 := by
    rw [State.qFill, hwr, hrd, hsize]
    exact hfull
  refine completes_eq (execMbxIn_eq hw) hrun ⟨?_, ?_, ?_, ?_, ?_⟩
  · rw [judgeMailbox, get_put_reg _ (by decide), get_put_reg _ (by decide), get_put_same]
    rfl
  · refine (get_put_same _).trans ?_
    rw [qFill_put (by decide) (by decide), qSize_put, hstill, beq_self_eq_true]
    rfl
  · rw [judgeMailbox, get_put_reg _ (by decide), get_put_reg _ (by decide), get_put_reg _ (by decide), hdrop]
  · rw [judgeMailbox, get_put_reg _ (by decide), get_put_reg _ (by decide), get_put_reg _ (by decide), hwr]
  · exact hrx

theorem mbxIn_reserved {w : Nat} (hw : w < 2 ^ 32) (hcount : w / 2 ^ 24 % 4 = 3) : Completes (.mbxInCommit w) s fun u =>
    u = s.count .QDROP 14 := by
  have hrun : offerEntry s 0 w = s.count .QDROP 14 := by rw [offerEntry_spi hw, if_pos hcount]
  exact completes_eq (execMbxIn_eq hw) hrun rfl

theorem mbxIn_room {w : Nat} (hw : w < 2 ^ 32) (hcount : w / 2 ^ 24 % 4 ≠ 3) (hmore : bit w 29 = false) (hlog : s.dv .QSIZE_LOG2 14 ≤ 13)
    (hwr : s.get .QWR 14 < 2 * s.qSize 14) (hrd : s.get .QRD 14 < 2 * s.qSize 14) (hroom : s.qFill 14 < s.qSize 14) :
    Completes (.mbxInCommit w) s fun u =>
      u.qFill 14 = s.qFill 14 + 1 ∧ u.get .IN_DROP 0 = s.get .IN_DROP 0 ∧ u.get .QDROP 14 = s.get .QDROP 14 ∧ u.rx = s.rx := by
  have hnot : s.qFill 14 ≠ s.qSize 14 := Nat.ne_of_lt hroom
  have hmore' : entryLast (w % 2 ^ 30) = false := by
    rw [bit] at hmore
    rw [entryLast, bit, Nat.testBit_mod_two_pow, hmore]
    rfl
  have hrx : (s.enqueue 14 [w % 2 ^ 30]).rx = s.rx := rx_of (fun _ hk => keep_State_enqueue hk) rfl
  have hrun : offerEntry s 0 w = judgeMailbox (s.enqueue 14 [w % 2 ^ 30]) := by
    rw [offerEntry_spi hw, if_neg hcount, if_neg hnot, if_neg (by rw [hmore']; decide)]
  have hfill : (s.enqueue 14 [w % 2 ^ 30]).qFill 14 = s.qFill 14 + 1 := by
    rw [enqueue_room hnot, qFill_judgeRise (by decide)]
    exact fill_qPutRaw hlog hwr hrd hroom
  refine completes_eq (execMbxIn_eq hw) hrun ⟨qFill_judgeMailbox.trans hfill, ?_, ?_, ?_⟩
  · rw [judgeMailbox, get_put_reg _ (by decide), get_put_reg _ (by decide), get_State_enqueue (by decide)]
  · rw [judgeMailbox, get_put_reg _ (by decide), get_put_reg _ (by decide), qdrop_enqueue (by decide) hnot]
  · exact hrx

/-! ## USB -/

theorem frameGap {t : Nat} : Completes (.usbFrameGap t) s fun u => u = { s.atTick t with rx := s.rx.set 1 [] } := by
  have hrun : discardPartial (s.atTick t) 1 = { s.atTick t with rx := s.rx.set 1 [] } := by
    rw [discardPartial, atTick_rx]
  exact completes_eq rfl hrun rfl

/-- What an end of the session leaves. -/
structure SessionEnded (s u : State) : Prop where
  closed : u.get .SESS_OPEN 0 = 0
  role : u.get .SESS_ROLE 0 = 0
  count : u.get .STAGED 0 = 0
  staged : u.sec.staged = []
  upload : u.sec.upload = none
  key : u.sec.key = []
  rx : u.rx = s.rx

/-- The session's registers and its part of the store are cleared. -/
def sessionCleared (s : State) : State :=
  { ((s.put .SESS_OPEN 0 0).put .SESS_ROLE 0 0).put .SESS_PATH 0 0 with sec := { s.sec with token := [], key := [], upload := none } }

theorem staged_dropStaged : (dropStaged s).get .STAGED 0 = 0 := (rfl : _ = (s.put .STAGED 0 0).get .STAGED 0).trans (get_put_same s)

theorem get_sessionCleared {r : Reg} {i : Nat} :
    (sessionCleared s).get r i = (((s.put .SESS_OPEN 0 0).put .SESS_ROLE 0 0).put .SESS_PATH 0 0).get r i := rfl

theorem endSession_cleared {cause : Nat} (hopen : s.get .SESS_OPEN 0 = 1) : ∃ y, endSession s cause = sessionCleared (dropStaged y) :=
  ⟨_, if_neg (by simp [State.flag, hopen])⟩

theorem endSession_ended {cause : Nat} (hopen : s.get .SESS_OPEN 0 = 1) : SessionEnded s (endSession s cause) := by
  have hrx : (endSession s cause).rx = s.rx := rx_of (fun _ hk => keep_endSession hk) rfl
  obtain ⟨y, hy⟩ := endSession_cleared (cause := cause) hopen
  rw [hy] at hrx ⊢
  refine ⟨?_, ?_, ?_, rfl, rfl, rfl, hrx⟩ <;> rw [get_sessionCleared]
  · exact (get_put_reg _ (by decide)).trans ((get_put_reg _ (by decide)).trans (get_put_same _))
  · exact (get_put_reg _ (by decide)).trans (get_put_same _)
  · exact (get_put_reg _ (by decide)).trans ((get_put_reg _ (by decide)).trans ((get_put_reg _ (by decide)).trans staged_dropStaged))

theorem dtrFall_ends {t : Nat} (hopen : s.get .SESS_OPEN 0 = 1) (husb : s.get .SESS_PATH 0 = 1) : Completes (.usbDtrFall t) s fun u =>
    u.get .SESS_OPEN 0 = 0 ∧ u.get .SESS_ROLE 0 = 0 ∧ u.get .STAGED 0 = 0 ∧ u.sec.staged = [] ∧ u.sec.upload = none ∧
    u.sec.key = [] ∧ u.rx = s.rx.set 1 [] := by
  have hon : sessionOn (discardPartial (s.atTick t) 1) 1 = true := by
    refine (rfl : _ = sessionOn (s.atTick t) 1).trans ?_
    simp [sessionOn, hopen, husb]
  have hexec : execUsbDtrFall t s = .next (endSession (discardPartial (s.atTick t) 1) endDtr) := by
    rw [execUsbDtrFall, hon]
    rfl
  have hopen' : (discardPartial (s.atTick t) 1).get .SESS_OPEN 0 = 1 := (get_atTick s).trans hopen
  obtain ⟨hclosed, hrole, hcount, hstaged, hupload, hkey, hrx⟩ := endSession_ended (cause := endDtr) hopen'
  refine completes_eq hexec rfl ⟨hclosed, hrole, hcount, hstaged, hupload, hkey, hrx.trans ?_⟩
  rw [discardPartial, atTick_rx]

theorem dtrFall_idle {t : Nat} (h : s.get .SESS_OPEN 0 = 0 ∨ s.get .SESS_PATH 0 ≠ 1) : Completes (.usbDtrFall t) s fun u =>
    u = { s.atTick t with rx := s.rx.set 1 [] } := by
  have hoff : sessionOn (discardPartial (s.atTick t) 1) 1 = false := by
    refine (rfl : _ = sessionOn (s.atTick t) 1).trans ?_
    rcases h with h | h <;> simp [sessionOn, h]
  have hexec : execUsbDtrFall t s = .next (discardPartial (s.atTick t) 1) := by
    rw [execUsbDtrFall, hoff]
    rfl
  exact completes_eq hexec (by rw [discardPartial, atTick_rx]) rfl

/-! ## CANopen -/

section
variable {bytes : List Nat}

theorem rx_served : (served s).rx = s.rx := rx_of (fun _ hk => keep_served hk) rfl

theorem frameWrite_refused (hsdo : sdoServed s = true) (hup : s.get .SEQ_DOWN 0 = 0) (hlen : bytes.length < 12 ∨ 1036 < bytes.length) :
    Completes (.xomorFrameWrite bytes) s fun u =>
      u.get .ANS_ABORT 0 = 0x06070010 ∧ u.answer = [] ∧ u.get .QWR 14 = s.get .QWR 14 ∧ u.rx = s.rx := by
  have hup' : ¬(served s).flag .SEQ_DOWN 0 = true := by simp (disch := decide) [State.flag, hup]
  have hrun : (if sdoServed s then frameWrite (served s) bytes else s) = (served s).reply 0x06070010 [] := by
    rw [if_pos hsdo, frameWrite, if_neg hup', if_pos hlen]
  refine completes_eq rfl hrun ⟨reply_abort (by decide), rfl, ?_, ?_⟩
  · exact (get_reply (by decide)).trans (get_served_reg (by decide))
  · exact rx_served

theorem frameWrite_taken (hsdo : sdoServed s = true) (hup : s.get .SEQ_DOWN 0 = 0) (hlo : 12 ≤ bytes.length) (hhi : bytes.length ≤ 1036) :
    Completes (.xomorFrameWrite bytes) s fun u => u.get .ANS_ABORT 0 = 0 ∧ u.answer = [] := by
  have hup' : ¬(served s).flag .SEQ_DOWN 0 = true := by simp (disch := decide) [State.flag, hup]
  have hrun : (if sdoServed s then frameWrite (served s) bytes else s) =
      ((entriesFor false 2 true bytes).foldl (fun a w => offerEntry a 2 w) (served s)).reply 0 [] := by
    rw [if_pos hsdo, frameWrite, if_neg hup', if_neg (by omega)]
  exact completes_eq rfl hrun ⟨reply_abort (by decide), rfl⟩

theorem frameWrite_down (hsdo : sdoServed s = true) (hdown : s.get .SEQ_DOWN 0 = 1) : Completes (.xomorFrameWrite bytes) s fun u =>
    u.get .ANS_ABORT 0 = 0x08000022 ∧ u.get .QWR 14 = s.get .QWR 14 := by
  have hdown' : (served s).flag .SEQ_DOWN 0 = true := by simp (disch := decide) [State.flag, hdown]
  have hrun : (if sdoServed s then frameWrite (served s) bytes else s) = (served s).reply 0x08000022 [] := by
    rw [if_pos hsdo, frameWrite, if_pos hdown']
  exact completes_eq rfl hrun ⟨reply_abort (by decide), (get_reply (by decide)).trans (get_served_reg (by decide))⟩

theorem frameWrite_unserved (hsdo : sdoServed s = false) : Completes (.xomorFrameWrite bytes) s fun u => u = s :=
  completes_eq (x := if sdoServed s then frameWrite (served s) bytes else s) rfl (if_neg (by simp [hsdo])) rfl

theorem resp_served : (served s).resp = s.resp := resp_of (fun _ hk => keep_served hk) rfl

theorem frameRead_empty (hsdo : sdoServed s = true) (hup : s.get .SEQ_DOWN 0 = 0) (hnone : s.resp.getD 2 [] = []) :
    Completes .xomorFrameRead s fun u => u.get .ANS_ABORT 0 = 0x08000024 ∧ u.answer = [] ∧ u.resp = s.resp := by
  have hup' : ¬(served s).flag .SEQ_DOWN 0 = true := by simp (disch := decide) [State.flag, hup]
  have hrun : (if sdoServed s then frameRead (served s) else s) = (served s).reply 0x08000024 [] := by
    rw [if_pos hsdo, frameRead, if_neg hup', resp_served, hnone]
  exact completes_eq rfl hrun ⟨reply_abort (by decide), rfl, resp_served⟩

theorem frameRead_head {f : List Nat} {l : List (List Nat)} (hsdo : sdoServed s = true) (hup : s.get .SEQ_DOWN 0 = 0)
    (hhead : s.resp.getD 2 [] = f :: l) : Completes .xomorFrameRead s fun u =>
      u.get .ANS_ABORT 0 = 0 ∧ u.answer = f ∧ u.resp.getD 2 [] = l := by
  have hup' : ¬(served s).flag .SEQ_DOWN 0 = true := by simp (disch := decide) [State.flag, hup]
  have hlen : 2 < s.resp.length := by
    by_contra hshort
    rw [List.getD_eq_default _ _ (by omega)] at hhead
    cases hhead
  have hrun : (if sdoServed s then frameRead (served s) else s) = ({ served s with resp := s.resp.set 2 l } : State).reply 0 f := by
    rw [if_pos hsdo, frameRead, if_neg hup', resp_served, hhead]
  refine completes_eq rfl hrun ⟨reply_abort (by decide), rfl, ?_⟩
  show (s.resp.set 2 l).getD 2 [] = l
  simp [hlen]

end

end

/-- Settles O55: a frame goes into Q15 only where its entries find room one after another, so pumping Q15 out drops nothing and a
response that waits too long is the only drop counted; entries, reads and CANopen frames act on their own queue as stated. -/
theorem mailbox : Obligations.Mailbox :=
  ⟨fun _ _ => frameGap, fun _ _ => dtrFall_ends, fun _ _ => dtrFall_idle, fun _ _ => mbxIn_full, fun _ _ => mbxIn_reserved,
    fun _ _ => mbxIn_room, fun _ => mbxOut_empty, fun _ => mbxOut_last, fun _ _ => outTimeout_completes, fun _ _ => outTimeout_idle,
    fun _ _ => frameWrite_refused, fun _ _ => frameWrite_taken, fun _ _ => frameWrite_down, fun _ _ => frameWrite_unserved,
    fun _ => frameRead_empty, fun _ _ _ => frameRead_head⟩

end Sys2Proof.Proofs
end

section
/-! Requests of the service protocol: how one that arrives is performed and answered, for O57 and O58. -/

namespace Sys2Proof.Proofs

open Machine Laws

section
variable {s x y : State} {t : Nat} {path : Path} {r : Request} {rule : XomorRule} {f : State → List Nat → Served}

/-! ## Requests -/

theorem ts_taken : (taken s path).ts = s.ts := (rfl : _ = (served s).ts).trans (by simp)

theorem sec_taken : (taken s path).sec = s.sec := (rfl : _ = (served s).sec).trans sec_served

/-- What taking a request leaves alone. -/
theorem get_taken {q : Reg} {i : Nat} (hserved : q ≠ .SEQ_SERVED) (hbusy : q ≠ .XO_BUSY) : (taken s path).get q i = s.get q i :=
  (get_put_reg _ hbusy).trans (get_served_reg hserved)

theorem get_taken_atTick {q : Reg} {i : Nat} (hserved : q ≠ .SEQ_SERVED) (hbusy : q ≠ .XO_BUSY) :
    (taken (s.atTick t) path).get q i = s.get q i := (get_taken hserved hbusy).trans (get_atTick s)

theorem sec_taken_atTick : (taken (s.atTick t) path).sec = s.sec := sec_taken.trans (by simp)

theorem get_opened {q : Reg} {i : Nat} (hserved : q ≠ .SEQ_SERVED) (hbusy : q ≠ .XO_BUSY) (hctr : q ≠ .CTR_RX) (htick : q ≠ .SESS_TICK) :
    (opened (s.atTick t) path r).get q i = s.get q i :=
  (get_put_reg _ htick).trans ((get_put_reg _ hctr).trans (get_taken_atTick hserved hbusy))

theorem sec_opened : (opened (s.atTick t) path r).sec = s.sec := sec_taken_atTick (path := path)

theorem pathUp_atTick : pathUp (s.atTick t) path.code = pathUp s path.code := by
  simp [pathUp, sdoServed, networkUp, operational]

/-- A request whose role the session has is performed and answered. -/
theorem perform_answers {p : Nat} {crypt : Option (List Nat × Nat)} {text : List Nat} (hrole : rule.role ≤ s.get .SESS_ROLE 0) :
    perform s p rule r crypt text f nothingAfter = answer (f s text).1 p rule.cmd r crypt (f s text).2.1 (f s text).2.2 := by
  rw [perform, if_neg (Nat.not_lt.mpr hrole)]
  exact ite_self _

/-- What runs once a request has been answered with STATUS 0. -/
theorem perform_after {p : Nat} {crypt : Option (List Nat × Nat)} {text : List Nat} {after : List Nat → State → State}
    (hrole : rule.role ≤ s.get .SESS_ROLE 0) (hok : (f s text).2.1 = 0) :
    perform s p rule r crypt text f after = after text (answer (f s text).1 p rule.cmd r crypt 0 (f s text).2.2) := by
  rw [perform, if_neg (Nat.not_lt.mpr hrole)]
  exact (if_pos hok).trans (by rw [hok])

section
variable {after : List Nat → State → State}

/-- A frame that arrives gets as far as its protection. -/
theorem request_arrives (h : Arrives s path r) (hflags : r.flags ≤ 3) {z : State} (hz : ∀ y, y = taken (s.atTick t) path →
      (if bit r.flags 1 then
        if !y.flag .SESS_OPEN 0 then
          if y.get .SESS_TOKEN 0 = 0 then plainAnswer y path rule.cmd r 0x03 []
          else plainAnswer (refuse y 0x4B rule.cmd rule.cmd) path rule.cmd r 0x4B []
        else if y.get .SESS_PATH 0 ≠ path.code then plainAnswer y path rule.cmd r 0x03 []
        else match openRequest y rule.cmd r with
          | (y', none) => y'
          | (y', some text) => perform y' path.code rule r (some (y.sec.key, y.get .SESS_ID 0)) text f after
      else if (sessionOn y path.code ∧ rule.cmd ≠ 0) ∨ rule.role ≠ 0 then plainAnswer y path rule.cmd r 0x03 []
      else perform y path.code rule r none r.payload f after) = z) : request (s.atTick t) path rule r f after = z := by
  obtain ⟨hpath, hup, hdom, hcrc, hversion, hlen⟩ := h
  have hgood : ¬((!r.crcOk) = true ∨ 3 < r.flags ∨ 1024 < r.payload.length) := by
    rw [hcrc]
    rintro (hbad | hbad | hbad)
    · exact absurd hbad (by decide)
    · omega
    · omega
  have hdom' : (taken (s.atTick t) path).getBit .DOM_ON 0 11 = true := by
    rw [State.getBit, get_taken_atTick (by decide) (by decide)]
    exact hdom
  refine (if_neg (by rw [pathUp_atTick, hpath]; decide)).trans ((if_neg (by simp [hup])).trans ((if_neg hgood).trans ?_))
  refine (if_neg (fun hne => hne hversion)).trans ((if_neg fun hbad => ?_).trans (hz _ rfl))
  have hoff : (!(taken (s.atTick t) path).getBit .DOM_ON 0 11) = true := hbad.2
  rw [hdom'] at hoff
  exact absurd hoff (by decide)

end

/-! ## Plain requests -/

theorem plain_bit (h : r.flags < 2) : bit r.flags 1 = false := by
  have hcases : r.flags = 0 ∨ r.flags = 1 := by omega
  rcases hcases with h | h <;> rw [h] <;> rfl

/-- A plain request of a command that needs no role. -/
theorem request_plain (h : TakesPlain s path r) (hrole : rule.role = 0) : request (s.atTick t) path rule r f nothingAfter =
    plainAnswer (f (taken (s.atTick t) path) r.payload).1 path rule.cmd r (f (taken (s.atTick t) path) r.payload).2.1
      (f (taken (s.atTick t) path) r.payload).2.2 := by
  obtain ⟨harrives, hflags, hclosed⟩ := h
  refine request_arrives harrives (by omega) fun y hy => ?_
  have hclosed' : y.get .SESS_OPEN 0 = 0 := by rw [hy, get_taken_atTick (by decide) (by decide), hclosed]
  rw [plain_bit hflags, if_neg (by decide), if_neg (by simp [sessionOn, State.flag, hclosed', hrole]), ← hy]
  exact perform_answers (by omega)

/-- A plain request of a command that needs a role. -/
theorem request_plain_role (h : TakesPlain s path r) (hrole : rule.role ≠ 0) : request (s.atTick t) path rule r f nothingAfter =
    plainAnswer (taken (s.atTick t) path) path rule.cmd r 0x03 [] := by
  obtain ⟨harrives, hflags, hclosed⟩ := h
  refine request_arrives harrives (by omega) fun y hy => ?_
  rw [plain_bit hflags, if_neg (by decide), if_pos (.inr hrole), hy]

/-! ## Protected requests -/

theorem sealed_bit (h : r.flags = 2 ∨ r.flags = 3) : bit r.flags 1 = true := by
  rcases h with h | h <;> rw [h] <;> rfl

theorem openRequest_opens {text : List Nat} {cmd : Nat} (h : TakesSealed s path r) (hopen : openText s cmd r = some text) :
    openRequest (taken (s.atTick t) path) cmd r = (opened (s.atTick t) path r, some text) := by
  obtain ⟨-, -, -, -, hlo, hhi⟩ := h
  have hopen' : ccmOpen (taken (s.atTick t) path).sec.key (ccmNonce ((taken (s.atTick t) path).get .SESS_ID 0) 0 r.ctr)
      (frameHead r.flags r.seq r.payload.length cmd 0) r.payload = some text := by
    rw [sec_taken_atTick, get_taken_atTick (by decide) (by decide)]
    exact hopen
  have hfresh : ¬(r.ctr ≤ (taken (s.atTick t) path).get .CTR_RX 0 ∨ 2 ^ 32 ≤ r.ctr) := by
    rw [get_taken_atTick (by decide) (by decide)]
    omega
  rw [openRequest, hopen']
  dsimp only
  rw [if_neg hfresh, ts_taken]
  rfl

/-- A protected request that opens. -/
theorem request_sealed {text : List Nat} {after : List Nat → State → State} (h : TakesSealed s path r)
    (hopen : openText s rule.cmd r = some text) : request (s.atTick t) path rule r f after =
      perform (opened (s.atTick t) path r) path.code rule r (some (s.sec.key, s.get .SESS_ID 0)) text f after := by
  obtain ⟨harrives, hflags, hsession, hpath, hlo, hhi⟩ := id h
  refine request_arrives harrives (by omega) fun y hy => ?_
  have hget : ∀ {q : Reg}, q ≠ .SEQ_SERVED → q ≠ .XO_BUSY → y.get q 0 = s.get q 0 := fun hserved hbusy => by
    rw [hy, get_taken_atTick hserved hbusy]
  have hsec : y.sec = s.sec := by rw [hy, sec_taken_atTick]
  rw [sealed_bit hflags, if_pos rfl, if_neg (by simp [State.flag, hget, hsession]), if_neg (by simp [hget, hpath]), hy, openRequest_opens h hopen,
    ← hy, hsec, hget (by decide) (by decide)]

theorem request_answers {text : List Nat} (h : TakesSealed s path r) (hrole : rule.role ≤ s.get .SESS_ROLE 0)
    (hopen : openText s rule.cmd r = some text) : request (s.atTick t) path rule r f nothingAfter =
      sealedAnswer s (f (opened (s.atTick t) path r) text).1 path rule.cmd r (f (opened (s.atTick t) path r) text).2.1
        (f (opened (s.atTick t) path r) text).2.2 := by
  have hrole' : rule.role ≤ (opened (s.atTick t) path r).get .SESS_ROLE 0 := by
    rwa [get_opened (by decide) (by decide) (by decide) (by decide)]
  exact (request_sealed h hopen).trans (perform_answers hrole')

/-! ## What an answer leaves alone -/

theorem sec_answer {p cmd status : Nat} {crypt : Option (List Nat × Nat)} {payload : List Nat} : (answer s p cmd r crypt status payload).sec = s.sec :=
  sec_of (fun _ hk => keep_answer hk) rfl

theorem audit_answer {p cmd status : Nat} {crypt : Option (List Nat × Nat)} {payload : List Nat} :
    (answer s p cmd r crypt status payload).audit = s.audit := audit_of (fun _ hk => keep_answer hk) rfl

/-! ## What a command leaves alone before its answer -/

/-- The mailbox and what has been sent are as they were. -/
structure Quiet (s x : State) : Prop where
  waiting : x.outWait = s.outWait
  responses : x.resp = s.resp
  sent : x.tx = s.tx
  wr : x.get .QWR 15 = s.get .QWR 15
  rd : x.get .QRD 15 = s.get .QRD 15
  ctr : x.get .CTR_TX 0 = s.get .CTR_TX 0

theorem Quiet.trans (h : Quiet s x) (h' : Quiet x y) : Quiet s y :=
  ⟨h'.waiting.trans h.waiting, h'.responses.trans h.responses, h'.sent.trans h.sent, h'.wr.trans h.wr, h'.rd.trans h.rd, h'.ctr.trans h.ctr⟩

theorem Quiet.put {q : Reg} {i v : Nat} (h : Quiet s x) (hq : q ∉ [Reg.QWR, .QRD, .CTR_TX]) : Quiet s (x.put q i v) := by
  simp only [List.mem_cons, List.not_mem_nil, or_false, not_or] at hq
  obtain ⟨hwr, hrd, hctr⟩ := hq
  exact ⟨h.waiting, h.responses, h.sent, (get_put_reg x (Ne.symm hwr)).trans h.wr, (get_put_reg x (Ne.symm hrd)).trans h.rd,
    (get_put_reg x (Ne.symm hctr)).trans h.ctr⟩

/-- The store, the log and the counter of free values may change. -/
theorem Quiet.congr (h : Quiet s x) (hregs : y.regs = x.regs) (hwait : y.outWait = x.outWait) (hresp : y.resp = x.resp) (htx : y.tx = x.tx) :
    Quiet s y := by
  have hget : ∀ q i, y.get q i = x.get q i := fun q i => congrArg (RegFile.get · q i) hregs
  exact ⟨hwait.trans h.waiting, hresp.trans h.responses, htx.trans h.sent, (hget _ _).trans h.wr, (hget _ _).trans h.rd, (hget _ _).trans h.ctr⟩

theorem outWait_put {q : Reg} {i v : Nat} : (s.put q i v).outWait = s.outWait := rfl

theorem outWait_setWords {a : Nat} {ws : List Nat} : (s.setWords a ws).outWait = s.outWait := by
  induction ws generalizing s a with
  | nil => rfl
  | cons w ws ih =>
    rw [State.setWords, ih]
    rfl

theorem outWait_qPutRaw {q : Nat} {ws : List Nat} : (s.qPutRaw q ws).outWait = s.outWait := by
  rw [State.qPutRaw, State.setQLevel, outWait_put, outWait_put, outWait_setWords]

theorem outWait_post {code src slot arg : Nat} : (s.post code src slot arg).outWait = s.outWait := by
  rw [State.post, State.postAt]
  dsimp only
  generalize s.eventWords code src slot arg s.ts = ws
  split
  · rw [outWait_put, outWait_put, State.count, outWait_put, outWait_put]
  · split
    · rw [outWait_put, outWait_put, outWait_qPutRaw, outWait_put]
    · rw [outWait_qPutRaw, outWait_put]

theorem Quiet.post {code src slot arg : Nat} (h : Quiet s x) : Quiet s (x.post code src slot arg) :=
  ⟨outWait_post.trans h.waiting, (resp_of (fun _ hk => keep_State_post hk) rfl).trans h.responses,
    (tx_of (fun _ hk => keep_State_post hk) rfl).trans h.sent,
    (get_post_otherQueue (by decide) (by decide) (by decide) (by decide)).trans h.wr, (get_State_post (by decide)).trans h.rd,
    (get_State_post (by decide)).trans h.ctr⟩

theorem outWait_record {kind result actor subject value : Nat} : (s.record kind result actor subject value).outWait = s.outWait := by
  unfold State.record
  extract_lets -merge -underBinder +onlyGivenNames same
  split
  · split <;> rfl
  · extract_lets -merge -underBinder +onlyGivenNames e e' full y
    have hy : y.outWait = s.outWait := by
      dsimp only [y]
      split <;> rfl
    exact hy

theorem Quiet.record {kind result actor subject value : Nat} (h : Quiet s x) : Quiet s (x.record kind result actor subject value) :=
  ⟨outWait_record.trans h.waiting, (resp_of (fun _ hk => keep_State_record hk) rfl).trans h.responses,
    (tx_of (fun _ hk => keep_State_record hk) rfl).trans h.sent, (get_State_record (by decide)).trans h.wr,
    (get_State_record (by decide)).trans h.rd, (get_State_record (by decide)).trans h.ctr⟩

theorem Quiet.refuse {code what subject : Nat} (h : Quiet s x) : Quiet s (refuse x code what subject) :=
  (((h.put (by decide)).put (by decide)).post).record

theorem Quiet.patchStatus (h : Quiet s x) : Quiet s (patchStatus x) := (h.put (by decide)).put (by decide)

theorem Quiet.dropStaged (h : Quiet s x) : Quiet s (dropStaged x) := (h.put (q := .STAGED) (i := 0) (v := 0) (by decide)).congr rfl rfl rfl rfl

theorem Quiet.sessionCleared (h : Quiet s x) : Quiet s (sessionCleared x) := by
  have hclosed : Quiet s (((x.put .SESS_OPEN 0 0).put .SESS_ROLE 0 0).put .SESS_PATH 0 0) :=
    ((h.put (by decide)).put (by decide)).put (by decide)
  exact hclosed.congr rfl rfl rfl rfl

/-- An end of the session is posted and logged before it clears. -/
theorem endSession_cases {cause : Nat} : endSession s cause = s ∨
    ∃ a b c d, endSession s cause = sessionCleared (dropStaged ((s.post 0x0F01 0xA noSlot a).record 0x07 0 b c d)) := by
  by_cases h : (!s.flag .SESS_OPEN 0) = true
  · exact .inl (if_pos h)
  · exact .inr ⟨_, _, _, _, if_neg h⟩

theorem Quiet.endSession {cause : Nat} (h : Quiet s x) : Quiet s (endSession x cause) := by
  rcases endSession_cases (s := x) (cause := cause) with hsame | ⟨a, b, c, d, hrun⟩
  · rw [hsame]
    exact h
  · rw [hrun]
    exact h.post.record.dropStaged.sessionCleared

theorem quiet_served (h : Quiet s x) : Quiet s (served x) := by
  rw [served]
  split
  · exact h
  · exact h.put (by decide)

theorem quiet_atTick : Quiet s (s.atTick t) := ⟨by simp, by simp, by simp, get_atTick s, get_atTick s, get_atTick s⟩

theorem quiet_taken : Quiet s (taken (s.atTick t) path) := (quiet_served quiet_atTick).put (by decide)

theorem quiet_opened : Quiet s (opened (s.atTick t) path r) := (quiet_taken.put (by decide)).put (by decide)

/-- The answer to a plain request. -/
theorem Quiet.answersPlain {cmd status : Nat} {payload : List Nat} (h : Quiet s x) (hplain : r.flags < 2) :
    Answered s (plainAnswer x path cmd r status payload) path cmd r status payload := by
  have hbit := plain_bit hplain
  refine ⟨x, ?_, h.waiting, h.responses, h.sent, h.wr, h.rd, fun hsealed => ?_⟩
  · rw [hbit, if_neg (by decide)]
  · exact absurd (hbit.symm.trans hsealed) (by decide)

/-- The answer to a protected request. -/
theorem Quiet.answersSealed {cmd status : Nat} {payload : List Nat} (h : Quiet s x) (hsealed : r.flags = 2 ∨ r.flags = 3) :
    Answered s (sealedAnswer s x path cmd r status payload) path cmd r status payload := by
  refine ⟨x, ?_, h.waiting, h.responses, h.sent, h.wr, h.rd, fun _ => h.ctr⟩
  rw [sealed_bit hsealed, if_pos rfl]

end

end Sys2Proof.Proofs
end

section
/-! O57: sessions, claims and revocations. -/

namespace Sys2Proof.Proofs

open Machine Laws

section
variable {s x y z : State} {t : Nat} {path : Path} {r : Request} {rule : XomorRule} {f : State → List Nat → Served}
  {status : Nat} {payload : List Nat}

/-! ## Runs of a request -/

theorem plain_run {cmd : Nat} (h : TakesPlain s path r) (hf : f (taken (s.atTick t) path) r.payload = (z, status, payload)) :
    request (s.atTick t) path ⟨cmd, 0⟩ r f nothingAfter = plainAnswer z path cmd r status payload := by
  rw [request_plain (rule := ⟨cmd, 0⟩) h rfl, hf]

theorem sealed_run {cmd role : Nat} {text : List Nat} (h : TakesSealed s path r) (hrole : role ≤ s.get .SESS_ROLE 0)
    (hopen : openText s cmd r = some text) (hf : f (opened (s.atTick t) path r) text = (z, status, payload)) :
    request (s.atTick t) path ⟨cmd, role⟩ r f nothingAfter = sealedAnswer s z path cmd r status payload := by
  rw [request_answers (rule := ⟨cmd, role⟩) h hrole hopen, hf]

theorem ts_taken_atTick : (taken (s.atTick t) path).ts = (s.atTick t).ts := ts_taken

/-- Without the crypto domain no command of a session is performed. -/
theorem request_noDomain {after : List Nat → State → State} (hup : s.get .SEQ_DOWN 0 = 0) (hpath : pathUp s path.code = true)
    (hcrc : r.crcOk = true) (hver : r.ver = 1) (hlen : r.payload.length ≤ 1024) (hflags : r.flags ≤ 3) (hdom : s.getBit .DOM_ON 0 11 = false)
    (hcmd : 0x10 ≤ rule.cmd) : request (s.atTick t) path rule r f after =
      plainAnswer (refuse (taken (s.atTick t) path) 0x7F rule.cmd rule.cmd) path rule.cmd r 0x7F [] := by
  have hgood : ¬((!r.crcOk) = true ∨ 3 < r.flags ∨ 1024 < r.payload.length) := by
    rw [hcrc]
    rintro (hbad | hbad | hbad)
    · exact absurd hbad (by decide)
    · omega
    · omega
  have hdom' : (taken (s.atTick t) path).getBit .DOM_ON 0 11 = false := by
    rw [State.getBit, get_taken_atTick (by decide) (by decide)]
    exact hdom
  refine (if_neg (by rw [pathUp_atTick, hpath]; decide)).trans ((if_neg (by simp [hup])).trans ((if_neg hgood).trans ?_))
  refine (if_neg (fun hne => hne hver)).trans (if_pos ⟨hcmd, ?_⟩)
  show (!(taken (s.atTick t) path).getBit .DOM_ON 0 11) = true
  rw [hdom']
  rfl

/-! ## A refusal -/

theorem refuse_last {code what subject : Nat} (hcode : code < 256) : (refuse x code what subject).get .LAST_REFUSAL 0 = code := by
  refine (get_State_record (by decide)).trans ((get_State_post (by decide)).trans ((get_put_same _).trans (trunc_of_lt hcode)))

theorem refuse_count {code what subject : Nat} : (refuse x code what subject).get .REFUSALS 0 = min (x.get .REFUSALS 0 + 1) 65535 :=
  (get_State_record (by decide)).trans ((get_State_post (by decide)).trans ((get_put_reg _ (by decide)).trans get_count))

theorem sec_refuse {code what subject : Nat} : (refuse x code what subject).sec = x.sec := sec_of (fun _ hk => keep_refuse hk) rfl

/-! ## Tokens -/

theorem tokenFault_taken {p : Nat} {m : List Nat} : tokenFault (taken (s.atTick t) path) p m = tokenFault s p m := by
  simp only [tokenFault, revokedToken, ownsKey, State.flag, sec_taken_atTick]
  simp (disch := decide) only [get_taken_atTick]
  rfl

theorem tokenFault_lt {p : Nat} {m : List Nat} : tokenFault s p m < 256 := by
  rw [tokenFault]
  split_ifs <;> decide

/-- The challenge of a token. -/
def challengeOf (x : State) (p : Nat) (m : List Nat) : Challenge :=
  ⟨p, (draw x 16).2, (draw (draw x 16).1 32).2, publicPoint (draw (draw x 16).1 32).2, m, x.ts⟩

/-- The signature on a challenge, made with the draw after it. -/
def challengeSignature (x : State) (p : Nat) (m : List Nat) : List Nat :=
  (signed (draw (draw x 16).1 32).1 ((challengeOf x p m).nonce ++ (challengeOf x p m).point ++ leBytes 4 (tokenId m) ++
    leBytes 4 x.sec.identity.serial)).2

/-- One draw later. -/
def drawn (x : State) : State := x.put .DRAWS 0 (x.get .DRAWS 0 + 1)

theorem get_drawn {q : Reg} {i : Nat} (hq : q ≠ .DRAWS) : (drawn x).get q i = x.get q i := get_put_reg x hq

theorem draws_drawn : (drawn x).get .DRAWS 0 = (x.get .DRAWS 0 + 1) % 2 ^ 64 := get_put_same x

theorem ts_drawn : (drawn x).ts = x.ts := rfl

theorem Quiet.drawn (h : Quiet s x) : Quiet s (drawn x) := h.put (by decide)

/-- A challenge that is pending. -/
def withChallenge (x : State) (c : Challenge) : State := { x with sec := { x.sec with challenge := some c } }

theorem get_withChallenge {c : Challenge} {q : Reg} {i : Nat} : (withChallenge x c).get q i = x.get q i := rfl

theorem ts_withChallenge {c : Challenge} : (withChallenge x c).ts = x.ts := rfl

theorem Quiet.withChallenge {c : Challenge} (h : Quiet s x) : Quiet s (withChallenge x c) := h.congr rfl rfl rfl rfl

/-- Three draws later, with the challenge pending. -/
def challenged (x : State) (p : Nat) (m : List Nat) : State := withChallenge (drawn (drawn (drawn x))) (challengeOf x p m)

theorem hello_accepted {p : Nat} {m : List Nat} (hlen : m.length = 212) (hkind : fieldAt m 0 2 = 1) (hlo : 1 ≤ tokenRole m)
    (hhi : tokenRole m ≤ 3) (hid : tokenId m ≠ 0) (hok : tokenFault x p m = 0) :
    hello x p m = (challenged x p m, 0, (challengeOf x p m).nonce ++ (challengeOf x p m).point ++ challengeSignature x p m) := by
  have hform : ¬(m.length ≠ 212 ∨ fieldAt m 0 2 ≠ 1 ∨ tokenRole m = 0 ∨ 3 < tokenRole m ∨ tokenId m = 0) := by omega
  rw [hello, if_neg hform, if_neg (by simp [hok])]
  rfl

theorem hello_refused {p : Nat} {m : List Nat} (hlen : m.length = 212) (hkind : fieldAt m 0 2 = 1) (hlo : 1 ≤ tokenRole m)
    (hhi : tokenRole m ≤ 3) (hid : tokenId m ≠ 0) (hbad : tokenFault x p m ≠ 0) :
    hello x p m = (refuse x (tokenFault x p m) 0x10 0x10, tokenFault x p m, []) := by
  have hform : ¬(m.length ≠ 212 ∨ fieldAt m 0 2 ≠ 1 ∨ tokenRole m = 0 ∨ 3 < tokenRole m ∨ tokenId m = 0) := by omega
  rw [hello, if_neg hform, if_pos hbad]
  rfl

theorem get_challenged {p : Nat} {m : List Nat} {q : Reg} {i : Nat} (hq : q ≠ .DRAWS) : (challenged x p m).get q i = x.get q i := by
  rw [challenged, get_withChallenge, get_drawn hq, get_drawn hq, get_drawn hq]

theorem draws_challenged {p : Nat} {m : List Nat} : (challenged x p m).get .DRAWS 0 = (x.get .DRAWS 0 + 3) % 2 ^ 64 := by
  rw [challenged, get_withChallenge, draws_drawn, draws_drawn, draws_drawn]
  omega

theorem ts_challenged {p : Nat} {m : List Nat} : (challenged x p m).ts = x.ts := by
  rw [challenged, ts_withChallenge, ts_drawn, ts_drawn, ts_drawn]

theorem Quiet.challenged {p : Nat} {m : List Nat} (h : Quiet s x) : Quiet s (challenged x p m) := h.drawn.drawn.drawn.withChallenge

section
variable (h : TakesPlain s path r)
include h

theorem hello_challenges (hlen : r.payload.length = 212) (hkind : fieldAt r.payload 0 2 = 1) (hlo : 1 ≤ tokenRole r.payload)
    (hhi : tokenRole r.payload ≤ 3) (hid : tokenId r.payload ≠ 0) (hok : tokenFault s path.code r.payload = 0) :
    Completes (.sessHello t path r) s fun u => u.get .DRAWS 0 = (s.get .DRAWS 0 + 3) % 2 ^ 64 ∧ u.get .SESS_OPEN 0 = 0 ∧
      ∃ c sig, u.sec.challenge = some c ∧ c.path = path.code ∧ c.token = r.payload ∧ c.tick = u.ts ∧
        Answered s u path 0x10 r 0 (c.nonce ++ c.point ++ sig) := by
  have hf := hello_accepted (x := taken (s.atTick t) path) hlen hkind hlo hhi hid (tokenFault_taken.trans hok)
  refine completes_eq rfl (plain_run h hf) ⟨?_, ?_, challengeOf (taken (s.atTick t) path) path.code r.payload, _, ?_, rfl, rfl, ?_, quiet_taken.challenged.answersPlain h.2.1⟩
  · refine (Laws.get_answer (by decide)).trans (draws_challenged.trans ?_)
    rw [get_taken_atTick (by decide) (by decide)]
  · refine (Laws.get_answer (by decide)).trans ((get_challenged (by decide)).trans ?_)
    rw [get_taken_atTick (by decide) (by decide), h.2.2]
  · exact congrArg Security.challenge sec_answer
  · exact (Laws.ts_answer.trans ts_challenged).symm

theorem hello_refuses (hlen : r.payload.length = 212) (hkind : fieldAt r.payload 0 2 = 1) (hlo : 1 ≤ tokenRole r.payload)
    (hhi : tokenRole r.payload ≤ 3) (hid : tokenId r.payload ≠ 0) (hbad : tokenFault s path.code r.payload ≠ 0) :
    Completes (.sessHello t path r) s fun u => u.get .LAST_REFUSAL 0 = tokenFault s path.code r.payload ∧
      u.get .REFUSALS 0 = min (s.get .REFUSALS 0 + 1) 65535 ∧ u.sec.challenge = s.sec.challenge ∧
      Answered s u path 0x10 r (tokenFault s path.code r.payload) [] := by
  have hf := hello_refused (x := taken (s.atTick t) path) (p := path.code) hlen hkind hlo hhi hid (by rwa [tokenFault_taken])
  rw [tokenFault_taken] at hf
  refine completes_eq rfl (plain_run h hf) ⟨?_, ?_, ?_, quiet_taken.refuse.answersPlain h.2.1⟩
  · exact (Laws.get_answer (by decide)).trans (refuse_last tokenFault_lt)
  · refine (Laws.get_answer (by decide)).trans (refuse_count.trans ?_)
    rw [get_taken_atTick (by decide) (by decide)]
  · exact congrArg Security.challenge (sec_answer.trans (sec_refuse.trans sec_taken_atTick))

theorem hello_badLength (hlen : r.payload.length ≠ 212) : Completes (.sessHello t path r) s fun u =>
    u = plainAnswer (taken (s.atTick t) path) path 0x10 r 0x02 [] := by
  have hf : hello (taken (s.atTick t) path) path.code r.payload = (taken (s.atTick t) path, 0x02, []) := if_pos (.inl hlen)
  exact completes_eq rfl (plain_run h hf) rfl

end

/-! ## Proofs of possession -/

theorem Quiet.dropChallenge (h : Quiet s x) : Quiet s (dropChallenge x) := h.congr rfl rfl rfl rfl

section
variable {p : Nat} {m : List Nat} {c : Challenge}

/-- What a proof is verified over. -/
def proofText (x : State) (c : Challenge) (m : List Nat) : List Nat := c.nonce ++ c.point ++ m.take 64 ++ leBytes 4 x.sec.identity.serial

/-- The key that both sides derive. -/
def sessionKey (c : Challenge) (m : List Nat) : List Nat :=
  (sha256 (sharedSecret c.secret (m.take 64) ++ c.nonce ++ leBytes 4 (tokenId c.token))).take 16

/-- The registers of a session that opens. -/
def sessionRegs (x : State) (p : Nat) (c : Challenge) (id : Nat) : State :=
  let y := (((x.put .SESS_OPEN 0 1).put .SESS_ROLE 0 (tokenRole c.token)).put .SESS_PATH 0 p).put .SESS_ID 0 id
  let y := ((y.put .SESS_TOKEN 0 (tokenId c.token)).put .SESS_VALID_TO 0 (tokenTo c.token)).put .SESS_TICK 0 y.ts
  ((y.put .CTR_RX 0 0).put .CTR_TX 0 0).put .SESS_DROPS 0 0

/-- The session that opens, before it is posted and logged. -/
def sessionSet (x : State) (p : Nat) (c : Challenge) (id : Nat) (key : List Nat) : State :=
  { sessionRegs x p c id with sec := { (sessionRegs x p c id).sec with token := c.token, key := key } }

theorem get_sessionSet {id i : Nat} {key : List Nat} {q : Reg} : (sessionSet x p c id key).get q i = (sessionRegs x p c id).get q i := rfl

theorem pending_of (hc : x.sec.challenge = some c) (hpath : c.path = p) (hsoon : x.ts ≤ c.tick + 1600000000) (hclosed : x.get .SESS_OPEN 0 = 0) :
    pendingChallenge x p = some c := by
  have hlate : 10 * ticksPerSecond = 1600000000 := rfl
  rw [pendingChallenge, hc, hlate]
  simp [hpath, hsoon, State.flag, hclosed]

theorem prove_opens (hlen : m.length = 128) (hpending : pendingChallenge x p = some c)
    (hgood : ecdsaVerifies (slice c.token 20 64) (proofText x c m) (m.drop 64) = true) :
    ∃ id a b d e payload, prove x p m = (((sessionSet (dropChallenge x).freed p c id (sessionKey c m)).post 0x0F01 0xA noSlot a).record 0x06 0 b d e,
      0, payload) := by
  have hgood' : ¬(!ecdsaVerifies (slice c.token 20 64) (proofText x c m) (m.drop 64)) = true := by
    rw [hgood]
    decide
  rw [prove, if_neg (by simp [hlen]), hpending]
  exact ⟨_, _, _, _, _, _, if_neg hgood'⟩

theorem prove_refused (hlen : m.length = 128) (hpending : pendingChallenge x p = some c)
    (hbad : ecdsaVerifies (slice c.token 20 64) (proofText x c m) (m.drop 64) = false) :
    prove x p m = (refuse (dropChallenge x) 0x42 0x11 0x11, 0x42, []) := by
  have hbad' : (!ecdsaVerifies (slice c.token 20 64) (proofText x c m) (m.drop 64)) = true := by
    rw [hbad]
    rfl
  rw [prove, if_neg (by simp [hlen]), hpending]
  exact if_pos hbad'

theorem prove_unasked (hlen : m.length = 128) (hnone : x.sec.challenge = none) : prove x p m = (refuse x 0x58 0x11 0x11, 0x58, []) := by
  have hpending : pendingChallenge x p = none := by
    rw [pendingChallenge, hnone]
    rfl
  rw [prove, if_neg (by simp [hlen]), hpending]
  rfl

/-- What a session that has opened holds. -/
structure SessionOpened (p : Nat) (c : Challenge) (key : List Nat) (u : State) : Prop where
  challenge : u.sec.challenge = none
  isOpen : u.get .SESS_OPEN 0 = 1
  role : u.get .SESS_ROLE 0 = trunc 2 (tokenRole c.token)
  path : u.get .SESS_PATH 0 = p
  token : u.get .SESS_TOKEN 0 = trunc 32 (tokenId c.token)
  validTo : u.get .SESS_VALID_TO 0 = trunc 32 (tokenTo c.token)
  rx : u.get .CTR_RX 0 = 0
  tx : u.get .CTR_TX 0 = 0
  drops : u.get .SESS_DROPS 0 = 0
  held : u.sec.token = c.token
  key : u.sec.key = key

theorem sessionSet_opened {id : Nat} {key : List Nat} (hp : p < 4) :
    SessionOpened p c key (sessionSet (dropChallenge x).freed p c id key) := by
  constructor
  · rfl
  · rw [get_sessionSet]
    simp (disch := decide) [sessionRegs, trunc]
  · rw [get_sessionSet]
    simp (disch := decide) [sessionRegs]
  · rw [get_sessionSet]
    simp (disch := decide) [sessionRegs]
    exact trunc_of_lt hp
  · rw [get_sessionSet]
    simp (disch := decide) [sessionRegs]
  · rw [get_sessionSet]
    simp (disch := decide) [sessionRegs]
  · rw [get_sessionSet]
    simp (disch := decide) [sessionRegs, trunc]
  · rw [get_sessionSet]
    simp (disch := decide) [sessionRegs, trunc]
  · rw [get_sessionSet]
    simp (disch := decide) [sessionRegs, trunc]
  · rfl
  · rfl

/-- An event, an entry of the log or a plain answer leaves an open session alone. -/
theorem SessionOpened.keep {key : List Nat} (h : SessionOpened p c key x) (hsec : y.sec = x.sec)
    (hget : ∀ q ∈ [Reg.SESS_OPEN, .SESS_ROLE, .SESS_PATH, .SESS_TOKEN, .SESS_VALID_TO, .CTR_RX, .CTR_TX, .SESS_DROPS], y.get q 0 = x.get q 0) :
    SessionOpened p c key y := by
  simp only [List.forall_mem_cons] at hget
  obtain ⟨hopen, hrole, hpath, htoken, hto, hrx, htx, hdrops, -⟩ := hget
  exact ⟨hsec ▸ h.challenge, hopen.trans h.isOpen, hrole.trans h.role, hpath.trans h.path, htoken.trans h.token, hto.trans h.validTo,
    hrx.trans h.rx, htx.trans h.tx, hdrops.trans h.drops, hsec ▸ h.held, hsec ▸ h.key⟩

theorem SessionOpened.post {key : List Nat} {code src slot arg : Nat} (h : SessionOpened p c key x) :
    SessionOpened p c key (x.post code src slot arg) := by
  refine h.keep (sec_of (fun _ hk => keep_State_post hk) rfl) fun q hq => ?_
  simp only [List.mem_cons, List.not_mem_nil, or_false] at hq
  rcases hq with rfl | rfl | rfl | rfl | rfl | rfl | rfl | rfl <;> exact get_State_post (by decide)

theorem SessionOpened.record {key : List Nat} {kind result actor subject value : Nat} (h : SessionOpened p c key x) :
    SessionOpened p c key (x.record kind result actor subject value) := by
  refine h.keep (sec_of (fun _ hk => keep_State_record hk) rfl) fun q hq => ?_
  simp only [List.mem_cons, List.not_mem_nil, or_false] at hq
  rcases hq with rfl | rfl | rfl | rfl | rfl | rfl | rfl | rfl <;> exact get_State_record (by decide)

/-- A response that came plain leaves the counters of a session alone. -/
theorem get_plain {q : Reg} {i cmd status : Nat} {payload : List Nat} (hq : ∀ y : State, ∀ st l, (respond y path.code 1 r.seq cmd st l).get q i = y.get q i) :
    (plainAnswer x path cmd r status payload).get q i = x.get q i := by
  rw [plainAnswer, answer]
  split <;> exact hq _ _ _

theorem SessionOpened.answer {key : List Nat} {cmd status : Nat} {payload : List Nat} (h : SessionOpened p c key x) :
    SessionOpened p c key (plainAnswer x path cmd r status payload) := by
  refine h.keep sec_answer fun q hq => ?_
  simp only [List.mem_cons, List.not_mem_nil, or_false] at hq
  rcases hq with rfl | rfl | rfl | rfl | rfl | rfl | rfl | rfl <;> exact get_plain fun _ _ _ => get_respond (by decide)

end

/-- What the statements ask of a proof that is judged. -/
structure Proves (s : State) (t : Nat) (path : Path) (r : Request) (c : Challenge) : Prop where
  plain : TakesPlain s path r
  length : r.payload.length = 128
  challenge : s.sec.challenge = some c
  path : c.path = path.code
  soon : (s.atTick t).ts ≤ c.tick + 1600000000

section
variable {c : Challenge} (h : Proves s t path r c)
include h

theorem Proves.pending : pendingChallenge (taken (s.atTick t) path) path.code = some c := by
  refine pending_of ?_ h.path ?_ ?_
  · rw [sec_taken_atTick, h.challenge]
  · rw [ts_taken_atTick]
    exact h.soon
  · rw [get_taken_atTick (by decide) (by decide), h.plain.2.2]

omit h in
theorem proofText_taken : proofText (taken (s.atTick t) path) c r.payload = proofText s c r.payload := by
  rw [proofText, proofText, sec_taken_atTick]

theorem prove_accepts (hgood : ecdsaVerifies (slice c.token 20 64) (proofText s c r.payload) (r.payload.drop 64) = true) :
    Completes (.sessProve t path r) s fun u => SessionOpened path.code c (sessionKey c r.payload) u := by
  obtain ⟨id, a, b, d, e, payload, hf⟩ := prove_opens (x := taken (s.atTick t) path) h.length h.pending (by rwa [proofText_taken])
  refine completes_eq rfl (plain_run h.plain hf) (sessionSet_opened ?_).post.record.answer
  cases path <;> decide

theorem prove_completes (hgood : ecdsaVerifies (slice c.token 20 64) (proofText s c r.payload) (r.payload.drop 64) = true) :
    Completes (.sessProve t path r) s fun u => u.sec.challenge = none ∧ u.get .SESS_OPEN 0 = 1 ∧
      u.get .SESS_ROLE 0 = trunc 2 (tokenRole c.token) ∧ u.get .SESS_PATH 0 = path.code ∧ u.get .SESS_TOKEN 0 = trunc 32 (tokenId c.token) ∧
      u.get .SESS_VALID_TO 0 = trunc 32 (tokenTo c.token) ∧ u.get .CTR_RX 0 = 0 ∧ u.get .CTR_TX 0 = 0 ∧ u.get .SESS_DROPS 0 = 0 ∧
      u.sec.token = c.token ∧ u.sec.key = sessionKey c r.payload :=
  completes_imp (prove_accepts h hgood) fun _ hu => ⟨hu.challenge, hu.isOpen, hu.role, hu.path, hu.token, hu.validTo, hu.rx, hu.tx, hu.drops,
    hu.held, hu.key⟩

theorem prove_refuses (hbad : ecdsaVerifies (slice c.token 20 64) (proofText s c r.payload) (r.payload.drop 64) = false) :
    Completes (.sessProve t path r) s fun u =>
      u.sec.challenge = none ∧ u.get .SESS_OPEN 0 = 0 ∧ u.get .LAST_REFUSAL 0 = 0x42 ∧ Answered s u path 0x11 r 0x42 [] := by
  have hf := prove_refused (x := taken (s.atTick t) path) (p := path.code) h.length h.pending (by rwa [proofText_taken])
  refine completes_eq rfl (plain_run h.plain hf) ⟨?_, ?_, ?_, quiet_taken.dropChallenge.refuse.answersPlain h.plain.2.1⟩
  · exact congrArg Security.challenge (sec_answer.trans sec_refuse)
  · refine (Laws.get_answer (by decide)).trans ((get_refuse (by decide)).trans ?_)
    exact (get_taken_atTick (by decide) (by decide)).trans h.plain.2.2
  · exact (Laws.get_answer (by decide)).trans (refuse_last (by decide))

end

theorem prove_none (h : TakesPlain s path r) (hlen : r.payload.length = 128) (hnone : s.sec.challenge = none) :
    Completes (.sessProve t path r) s fun u =>
      u.get .SESS_OPEN 0 = 0 ∧ u.get .LAST_REFUSAL 0 = 0x58 ∧ Answered s u path 0x11 r 0x58 [] := by
  have hf := prove_unasked (x := taken (s.atTick t) path) (p := path.code) hlen (by rw [sec_taken_atTick, hnone])
  refine completes_eq rfl (plain_run h hf) ⟨?_, ?_, quiet_taken.refuse.answersPlain h.2.1⟩
  · refine (Laws.get_answer (by decide)).trans ((get_refuse (by decide)).trans ?_)
    rw [get_taken_atTick (by decide) (by decide), h.2.2]
  · exact (Laws.get_answer (by decide)).trans (refuse_last (by decide))

/-! ## The end of a session -/

section
variable (h : TakesSealed s path r)
include h

theorem session_opened : (opened (s.atTick t) path r).get .SESS_OPEN 0 = 1 :=
  (get_opened (by decide) (by decide) (by decide) (by decide)).trans h.2.2.1

theorem close_ends (hrole : 1 ≤ s.get .SESS_ROLE 0) (hopen : openText s 0x12 r = some []) : Completes (.sessClose t path r) s fun u =>
    u.get .SESS_OPEN 0 = 0 ∧ u.get .SESS_ROLE 0 = 0 ∧ u.get .STAGED 0 = 0 ∧ u.sec.staged = [] ∧ u.sec.key = [] ∧
    Answered s u path 0x12 r 0 [s.sec.staged.length] := by
  have hf : closeSession (opened (s.atTick t) path r) [] = (endSession (opened (s.atTick t) path r) endClose, 0, [s.sec.staged.length]) := by
    rw [closeSession, if_neg (by simp), sec_opened]
  have hended := endSession_ended (cause := endClose) (session_opened h (t := t))
  refine completes_eq rfl (sealed_run h hrole hopen hf) ⟨?_, ?_, ?_, ?_, ?_, quiet_opened.endSession.answersSealed h.2.1⟩
  · exact (Laws.get_answer (by decide)).trans hended.closed
  · exact (Laws.get_answer (by decide)).trans hended.role
  · exact (Laws.get_answer (by decide)).trans hended.count
  · exact (congrArg Security.staged sec_answer).trans hended.staged
  · exact (congrArg Security.key sec_answer).trans hended.key

theorem close_badText {text : List Nat} (hrole : 1 ≤ s.get .SESS_ROLE 0) (hopen : openText s 0x12 r = some text) (htext : text ≠ []) :
    Completes (.sessClose t path r) s fun u => u = sealedAnswer s (opened (s.atTick t) path r) path 0x12 r 0x02 [] := by
  have hf : closeSession (opened (s.atTick t) path r) text = (opened (s.atTick t) path r, 0x02, []) := if_pos htext
  exact completes_eq rfl (sealed_run h hrole hopen hf) rfl

/-! ## Commits -/

theorem commit_switching (hrole : 3 ≤ s.get .SESS_ROLE 0) (hopen : openText s 0x13 r = some []) (hswitch : s.get .PROF_SWITCHING 0 = 1) :
    Completes (.sessCommit t path r) s fun u =>
      u = sealedAnswer s (refuse (opened (s.atTick t) path r) 0x51 0x13 0) path 0x13 r 0x51 [] ∧
      u.sec.staged = s.sec.staged ∧ u.get .LAST_REFUSAL 0 = 0x51 := by
  have hflag : (opened (s.atTick t) path r).flag .PROF_SWITCHING 0 = true := by
    rw [State.flag, get_opened (by decide) (by decide) (by decide) (by decide), hswitch]
    rfl
  have hf : commitSession (opened (s.atTick t) path r) [] = (refuse (opened (s.atTick t) path r) 0x51 0x13 0, 0x51, []) := by
    rw [commitSession, if_neg (by simp), commit, if_pos hflag]
  refine completes_eq rfl (sealed_run h hrole hopen hf) ⟨rfl, ?_, (Laws.get_answer (by decide)).trans (refuse_last (by decide))⟩
  exact congrArg Security.staged (sec_answer.trans (sec_refuse.trans sec_opened))

omit h in
theorem not_switching (hswitch : s.get .PROF_SWITCHING 0 = 0) : ¬(opened (s.atTick t) path r).flag .PROF_SWITCHING 0 = true := by
  rw [State.flag, get_opened (by decide) (by decide) (by decide) (by decide), hswitch]
  decide

theorem commit_applies (hrole : 3 ≤ s.get .SESS_ROLE 0) (hopen : openText s 0x13 r = some []) (hswitch : s.get .PROF_SWITCHING 0 = 0)
    (hall : ∀ e ∈ s.sec.staged, stagedOk (opened (s.atTick t) path r) s.sec.staged e = true) : Completes (.sessCommit t path r) s fun u =>
      u.sec.staged = [] ∧ u.get .STAGED 0 = 0 ∧
      u = sealedAnswer s (dropStaged (s.sec.staged.foldl sealedChange (s.sec.staged.foldl applyStaged (opened (s.atTick t) path r)))) path
        0x13 r 0 [s.sec.staged.length] := by
  have hnone : (s.sec.staged.find? fun e => !stagedOk (opened (s.atTick t) path r) s.sec.staged e) = none :=
    List.find?_eq_none.mpr fun e he => by simp [hall e he]
  have hf : commitSession (opened (s.atTick t) path r) [] =
      (dropStaged (s.sec.staged.foldl sealedChange (s.sec.staged.foldl applyStaged (opened (s.atTick t) path r))), 0, [s.sec.staged.length]) := by
    rw [commitSession, if_neg (by simp), commit, if_neg (not_switching hswitch), sec_opened]
    dsimp only
    rw [hnone]
  refine completes_eq rfl (sealed_run h hrole hopen hf) ⟨?_, (Laws.get_answer (by decide)).trans staged_dropStaged, rfl⟩
  exact congrArg Security.staged sec_answer

theorem commit_refuses (hrole : 3 ≤ s.get .SESS_ROLE 0) (hopen : openText s 0x13 r = some []) (hswitch : s.get .PROF_SWITCHING 0 = 0)
    (hbad : ∃ e ∈ s.sec.staged, stagedOk (opened (s.atTick t) path r) s.sec.staged e = false) : Completes (.sessCommit t path r) s fun u =>
      u.sec.staged = s.sec.staged ∧ u.get .LAST_REFUSAL 0 = 0x59 ∧ ∃ e ∈ s.sec.staged, Answered s u path 0x13 r 0x59 (leBytes 2 e.index ++ [e.sub]) := by
  obtain ⟨e₀, he₀, hfalse⟩ := hbad
  obtain ⟨e, he⟩ := Option.isSome_iff_exists.mp
    (List.find?_isSome (p := fun e => !stagedOk (opened (s.atTick t) path r) s.sec.staged e) |>.mpr ⟨e₀, he₀, by rw [hfalse]; rfl⟩)
  have hf : commitSession (opened (s.atTick t) path r) [] =
      (refuse (opened (s.atTick t) path r) 0x59 0x13 (subjectOf e.index e.sub), 0x59, leBytes 2 e.index ++ [e.sub]) := by
    rw [commitSession, if_neg (by simp), commit, if_neg (not_switching hswitch), sec_opened]
    dsimp only
    rw [he]
  refine completes_eq rfl (sealed_run h hrole hopen hf)
    ⟨?_, (Laws.get_answer (by decide)).trans (refuse_last (by decide)), e, List.mem_of_find?_eq_some he, quiet_opened.refuse.answersSealed h.2.1⟩
  exact congrArg Security.staged (sec_answer.trans (sec_refuse.trans sec_opened))

theorem discard_drops (hrole : 3 ≤ s.get .SESS_ROLE 0) (hopen : openText s 0x14 r = some []) : Completes (.sessDiscard t path r) s fun u =>
    u.sec.staged = [] ∧ u.get .STAGED 0 = 0 ∧ u.get .SESS_OPEN 0 = 1 ∧ Answered s u path 0x14 r 0 [s.sec.staged.length] := by
  have hf : discardSession (opened (s.atTick t) path r) [] = (dropStaged (opened (s.atTick t) path r), 0, [s.sec.staged.length]) := by
    rw [discardSession, if_neg (by simp), sec_opened]
  refine completes_eq rfl (sealed_run h hrole hopen hf) ⟨?_, ?_, ?_, quiet_opened.dropStaged.answersSealed h.2.1⟩
  · exact congrArg Security.staged sec_answer
  · exact (Laws.get_answer (by decide)).trans staged_dropStaged
  · refine (Laws.get_answer (by decide)).trans (Eq.trans ?_ (session_opened h (t := t)))
    exact get_dropStaged (by decide)

end

theorem session_plain (h : TakesPlain s path r) : ∀ c ∈ [(Instr.sessClose t path r, 0x12), (.sessCommit t path r, 0x13), (.sessDiscard t path r, 0x14)],
    Completes c.1 s fun u => u = plainAnswer (taken (s.atTick t) path) path c.2 r 0x03 [] := by
  intro c hc
  simp only [List.mem_cons, List.not_mem_nil, or_false] at hc
  rcases hc with rfl | rfl | rfl
  · exact completes_eq rfl (request_plain_role h (rule := ⟨0x12, 1⟩) (by decide)) rfl
  · exact completes_eq rfl (request_plain_role h (rule := ⟨0x13, 3⟩) (by decide)) rfl
  · exact completes_eq rfl (request_plain_role h (rule := ⟨0x14, 3⟩) (by decide)) rfl

theorem commands_noDomain (hup : s.get .SEQ_DOWN 0 = 0) (hpath : pathUp s path.code = true) (hcrc : r.crcOk = true) (hver : r.ver = 1)
    (hlen : r.payload.length ≤ 1024) (hflags : r.flags ≤ 3) (hdom : s.getBit .DOM_ON 0 11 = false) :
    ∀ c ∈ [(Instr.sessHello t path r, 0x10), (.sessProve t path r, 0x11), (.sessClose t path r, 0x12), (.claim t path r, 0x18),
      (.revoke t path r, 0x19), (.identity t path r, 0x1A)], Completes c.1 s fun u =>
        u = plainAnswer (refuse (taken (s.atTick t) path) 0x7F c.2 c.2) path c.2 r 0x7F [] ∧
        u.get .LAST_REFUSAL 0 = 0x7F ∧ u.get .REFUSALS 0 = min (s.get .REFUSALS 0 + 1) 65535 := by
  have hfields : ∀ cmd u, u = plainAnswer (refuse (taken (s.atTick t) path) 0x7F cmd cmd) path cmd r 0x7F [] →
      u = plainAnswer (refuse (taken (s.atTick t) path) 0x7F cmd cmd) path cmd r 0x7F [] ∧
      u.get .LAST_REFUSAL 0 = 0x7F ∧ u.get .REFUSALS 0 = min (s.get .REFUSALS 0 + 1) 65535 := by
    intro cmd u hu
    refine ⟨hu, ?_, ?_⟩ <;> rw [hu]
    · exact (Laws.get_answer (by decide)).trans (refuse_last (by decide))
    · refine (Laws.get_answer (by decide)).trans (refuse_count.trans ?_)
      rw [get_taken_atTick (by decide) (by decide)]
  have hrun : ∀ (rule : XomorRule) f after, 0x10 ≤ rule.cmd → request (s.atTick t) path rule r f after =
      plainAnswer (refuse (taken (s.atTick t) path) 0x7F rule.cmd rule.cmd) path rule.cmd r 0x7F [] :=
    fun rule f after hcmd => request_noDomain hup hpath hcrc hver hlen hflags hdom hcmd
  intro c hc
  simp only [List.mem_cons, List.not_mem_nil, or_false] at hc
  rcases hc with rfl | rfl | rfl | rfl | rfl | rfl
  · exact completes_eq rfl (hrun ⟨0x10, 0⟩ _ _ (by decide)) (hfields _ _ rfl)
  · exact completes_eq rfl (hrun ⟨0x11, 0⟩ _ _ (by decide)) (hfields _ _ rfl)
  · exact completes_eq rfl (hrun ⟨0x12, 1⟩ _ _ (by decide)) (hfields _ _ rfl)
  · exact completes_eq rfl (hrun ⟨0x18, 0⟩ _ _ (by decide)) (hfields _ _ rfl)
  · exact completes_eq rfl (hrun ⟨0x19, 0⟩ _ _ (by decide)) (hfields _ _ rfl)
  · exact completes_eq rfl (hrun ⟨0x1A, 0⟩ _ _ (by decide)) (hfields _ _ rfl)

theorem idle_ends (hopen : s.get .SESS_OPEN 0 = 1) (hlate : s.get .SESS_TICK 0 + s.get .SESS_IDLE 0 * 160000000 ≤ (s.atTick t).ts) :
    Completes (.sessionIdleExpiry t) s fun u =>
      u.get .SESS_OPEN 0 = 0 ∧ u.get .SESS_ROLE 0 = 0 ∧ u.sec.staged = [] ∧ u.sec.upload = none ∧ u.sec.key = [] := by
  have hcond : (s.atTick t).flag .SESS_OPEN 0 ∧ (s.atTick t).get .SESS_TICK 0 + (s.atTick t).get .SESS_IDLE 0 * ticksPerSecond ≤ (s.atTick t).ts := by
    rw [get_atTick, get_atTick, show ticksPerSecond = 160000000 from rfl]
    exact ⟨by simp [hopen], hlate⟩
  obtain ⟨hclosed, hrole, -, hstaged, hupload, hkey, -⟩ := endSession_ended (s := s.atTick t) (cause := endIdle) ((get_atTick s).trans hopen)
  exact completes_eq (x := idleExpiry (s.atTick t)) rfl (if_pos hcond) ⟨hclosed, hrole, hstaged, hupload, hkey⟩

theorem idle_stays (h : s.get .SESS_OPEN 0 = 0 ∨ (s.atTick t).ts < s.get .SESS_TICK 0 + s.get .SESS_IDLE 0 * 160000000) :
    Completes (.sessionIdleExpiry t) s fun u => u = s.atTick t := by
  refine completes_eq (x := idleExpiry (s.atTick t)) rfl (if_neg ?_) rfl
  rw [get_atTick, get_atTick, show ticksPerSecond = 160000000 from rfl]
  rintro ⟨hopen, hlate⟩
  rcases h with h | h
  · simp [h] at hopen
  · omega

theorem challenge_timesOut {c : Challenge} (hc : s.sec.challenge = some c) : Completes (.sessProveTimeout t) s fun u =>
    u.sec.challenge = (if c.tick + 1600000000 ≤ (s.atTick t).ts then none else some c) ∧ ∀ k i, u.get k i = s.get k i := by
  have hrun : proveTimeout (s.atTick t) = if c.tick + 1600000000 ≤ (s.atTick t).ts then dropChallenge (s.atTick t) else s.atTick t := by
    rw [proveTimeout, atTick_sec, hc]
    rfl
  refine completes_eq (x := proveTimeout (s.atTick t)) rfl hrun ⟨?_, fun k i => ?_⟩
  · split
    · rfl
    · rw [atTick_sec, hc]
  · split <;> exact get_atTick s

/-! ## Claims -/

section
variable {p : Nat} {m : List Nat}

theorem claimFault_taken : claimFault (taken (s.atTick t) path) p m = claimFault s p m := by
  simp only [claimFault, ownsKey, State.flag, sec_taken_atTick]
  simp (disch := decide) only [get_taken_atTick]
  rfl

theorem claimFault_lt : claimFault s p m < 256 := by
  rw [claimFault]
  split_ifs <;> decide

/-- The registers and the store of an accepted claim. -/
def claimSet (x : State) (m : List Nat) : State :=
  let y := (((x.put .CLAIMED 0 1).put .CLAIM_CNT 0 (fieldAt m 2 2)).put .REV_SEQ 0 0).put .REVOKE_BELOW 0 0
  dropChallenge { y with sec := { y.sec with ownerHash := sha256 (slice m 8 64), revoked := [] } }

theorem get_claimSet {q : Reg} {i : Nat} : (claimSet x m).get q i =
    ((((x.put .CLAIMED 0 1).put .CLAIM_CNT 0 (fieldAt m 2 2)).put .REV_SEQ 0 0).put .REVOKE_BELOW 0 0).get q i := rfl

theorem Quiet.claimSet (h : Quiet s x) : Quiet s (claimSet x m) := by
  have hput : Quiet s ((((x.put .CLAIMED 0 1).put .CLAIM_CNT 0 (fieldAt m 2 2)).put .REV_SEQ 0 0).put .REVOKE_BELOW 0 0) :=
    (((h.put (by decide)).put (by decide)).put (by decide)).put (by decide)
  exact hput.congr rfl rfl rfl rfl

/-- A claim with no session open: the first one numbers the log afresh. -/
theorem claim_accepted (hlen : m.length = 200) (hkind : fieldAt m 0 2 = 2) (hok : claimFault x p m = 0) (hclosed : x.get .SESS_OPEN 0 = 0) :
    ∃ y, (y = claimSet x m ∨ y = (claimSet x m).put .AUDIT_SEQ 0 0) ∧
      claim x p m = (refreshValid (y.record 0x04 0 0 (fieldAt m 4 4) (fieldAt m 2 2)), 0, []) := by
  have hform : ¬(m.length ≠ 200 ∨ fieldAt m 0 2 ≠ 2) := by omega
  have hend : endSession x endClaim = x := if_pos (by simp [State.flag, hclosed])
  rw [claim, if_neg hform, if_neg (by simp [hok]), claimTake, hend]
  by_cases hfirst : (!x.flag .CLAIMED 0) = true
  · exact ⟨_, .inr rfl, by rw [if_pos hfirst]; rfl⟩
  · exact ⟨_, .inl rfl, by rw [if_neg hfirst]; rfl⟩

theorem claim_refused (hlen : m.length = 200) (hkind : fieldAt m 0 2 = 2) (hbad : claimFault x p m ≠ 0) :
    claim x p m = (refuse x (claimFault x p m) 0x18 0x18, claimFault x p m, []) := by
  have hform : ¬(m.length ≠ 200 ∨ fieldAt m 0 2 ≠ 2) := by omega
  rw [claim, if_neg hform, if_pos hbad]
  rfl

end

section
variable (h : TakesPlain s path r)
include h

theorem claim_takes (hlen : r.payload.length = 200) (hkind : fieldAt r.payload 0 2 = 2) (hok : claimFault s path.code r.payload = 0) :
    Completes (.claim t path r) s fun u =>
      u.get .CLAIMED 0 = 1 ∧ u.get .CLAIM_CNT 0 = fieldAt r.payload 2 2 % 2 ^ 16 ∧ u.get .REV_SEQ 0 = 0 ∧ u.get .REVOKE_BELOW 0 = 0 ∧
      u.sec.ownerHash = sha256 (slice r.payload 8 64) ∧ u.sec.revoked = [] ∧ u.sec.challenge = none ∧ Answered s u path 0x18 r 0 [] := by
  have hclosed : (taken (s.atTick t) path).get .SESS_OPEN 0 = 0 := (get_taken_atTick (by decide) (by decide)).trans h.2.2
  obtain ⟨y, hy, hf⟩ := claim_accepted (x := taken (s.atTick t) path) hlen hkind (claimFault_taken.trans hok) hclosed
  have hget : ∀ q ∈ [Reg.CLAIMED, .CLAIM_CNT, .REV_SEQ, .REVOKE_BELOW],
      (plainAnswer (refreshValid (y.record 0x04 0 0 (fieldAt r.payload 4 4) (fieldAt r.payload 2 2))) path 0x18 r 0 []).get q 0 =
        (claimSet (taken (s.atTick t) path) r.payload).get q 0 := by
    intro q hq
    have hyq : y.get q 0 = (claimSet (taken (s.atTick t) path) r.payload).get q 0 := by
      rcases hy with rfl | rfl
      · rfl
      · exact get_put_reg _ fun e => absurd (e ▸ hq) (by decide)
    rw [← hyq]
    simp only [List.mem_cons, List.not_mem_nil, or_false] at hq
    rcases hq with rfl | rfl | rfl | rfl <;>
      exact (Laws.get_answer (by decide)).trans ((get_put_reg _ (by decide)).trans (get_State_record (by decide)))
  have hsec : (plainAnswer (refreshValid (y.record 0x04 0 0 (fieldAt r.payload 4 4) (fieldAt r.payload 2 2))) path 0x18 r 0 []).sec =
      (claimSet (taken (s.atTick t) path) r.payload).sec := by
    have hlogged : (y.record 0x04 0 0 (fieldAt r.payload 4 4) (fieldAt r.payload 2 2)).sec = y.sec := sec_of (fun _ hk => keep_State_record hk) rfl
    refine sec_answer.trans (hlogged.trans ?_)
    rcases hy with rfl | rfl <;> rfl
  have hquiet : Quiet s (refreshValid (y.record 0x04 0 0 (fieldAt r.payload 4 4) (fieldAt r.payload 2 2))) := by
    have hset : Quiet s y := by
      rcases hy with rfl | rfl
      · exact quiet_taken.claimSet
      · exact quiet_taken.claimSet.put (by decide)
    exact hset.record.put (by decide)
  refine completes_eq rfl (plain_run h hf) ⟨?_, ?_, ?_, ?_, ?_, ?_, ?_, hquiet.answersPlain h.2.1⟩
  · rw [hget _ (by decide), get_claimSet]
    simp (disch := decide) [trunc]
  · rw [hget _ (by decide), get_claimSet]
    simp (disch := decide) [trunc]
  · rw [hget _ (by decide), get_claimSet]
    simp (disch := decide) [trunc]
  · rw [hget _ (by decide), get_claimSet]
    simp (disch := decide) [trunc]
  · exact congrArg Security.ownerHash hsec
  · exact congrArg Security.revoked hsec
  · exact congrArg Security.challenge hsec

theorem claim_refuses (hlen : r.payload.length = 200) (hkind : fieldAt r.payload 0 2 = 2) (hbad : claimFault s path.code r.payload ≠ 0) :
    Completes (.claim t path r) s fun u =>
      u.get .CLAIMED 0 = s.get .CLAIMED 0 ∧ u.get .CLAIM_CNT 0 = s.get .CLAIM_CNT 0 ∧ u.sec.ownerHash = s.sec.ownerHash ∧
      u.get .LAST_REFUSAL 0 = claimFault s path.code r.payload ∧ Answered s u path 0x18 r (claimFault s path.code r.payload) [] := by
  have hf := claim_refused (x := taken (s.atTick t) path) (p := path.code) hlen hkind (by rwa [claimFault_taken])
  rw [claimFault_taken] at hf
  refine completes_eq rfl (plain_run h hf) ⟨?_, ?_, ?_, ?_, quiet_taken.refuse.answersPlain h.2.1⟩
  · exact (Laws.get_answer (by decide)).trans ((get_refuse (by decide)).trans (get_taken_atTick (by decide) (by decide)))
  · exact (Laws.get_answer (by decide)).trans ((get_refuse (by decide)).trans (get_taken_atTick (by decide) (by decide)))
  · exact congrArg Security.ownerHash (sec_answer.trans (sec_refuse.trans sec_taken_atTick))
  · exact (Laws.get_answer (by decide)).trans (refuse_last claimFault_lt)

/-! ## Identity -/

theorem identity_answers (hempty : r.payload = []) : Completes (.identity t path r) s fun u =>
    u = plainAnswer (taken (s.atTick t) path) path 0x1A r 0 (leBytes 4 s.sec.identity.serial ++ s.deviceKey ++ s.sec.identity.factorySignature ++
      (if s.sec.ownerHash = [] then List.replicate 32 0 else s.sec.ownerHash) ++ leBytes 2 (s.get .CLAIM_CNT 0) ++ leBytes 4 (s.get .SVC_HOURS 0)) := by
  have hf : identity (taken (s.atTick t) path) r.payload = (taken (s.atTick t) path, 0, leBytes 4 s.sec.identity.serial ++ s.deviceKey ++
      s.sec.identity.factorySignature ++ (if s.sec.ownerHash = [] then List.replicate 32 0 else s.sec.ownerHash) ++
      leBytes 2 (s.get .CLAIM_CNT 0) ++ leBytes 4 (s.get .SVC_HOURS 0)) := by
    rw [hempty, identity, if_neg (by simp), State.deviceKey, State.deviceKey, sec_taken_atTick, get_taken_atTick (by decide) (by decide),
      get_taken_atTick (by decide) (by decide)]
  exact completes_eq rfl (plain_run h hf) rfl

theorem identity_badText (htext : r.payload ≠ []) : Completes (.identity t path r) s fun u =>
    u = plainAnswer (taken (s.atTick t) path) path 0x1A r 0x02 [] := by
  have hf : identity (taken (s.atTick t) path) r.payload = (taken (s.atTick t) path, 0x02, []) := if_pos htext
  exact completes_eq rfl (plain_run h hf) rfl

end

/-! ## Revocations -/

section
variable {m : List Nat} {n : Nat}

theorem revokeFault_taken : revokeFault (taken (s.atTick t) path) m = revokeFault s m := by
  simp only [revokeFault, ownsKey, State.flag, sec_taken_atTick]
  simp (disch := decide) only [get_taken_atTick]
  rfl

theorem revokeFault_lt : revokeFault s m < 256 := by
  rw [revokeFault]
  split_ifs <;> decide

/-- The registers and the store of an accepted revocation. -/
def revokeSet (x : State) (m : List Nat) (n : Nat) : State :=
  let y := (x.put .REV_SEQ 0 (fieldAt m 4 4)).put .REVOKE_BELOW 0 (fieldAt m 8 4)
  { y with sec := { y.sec with revoked := (List.range n).map fun k => fieldAt m (14 + 4 * k) 4 } }

theorem get_revokeSet {q : Reg} {i : Nat} : (revokeSet x m n).get q i =
    ((x.put .REV_SEQ 0 (fieldAt m 4 4)).put .REVOKE_BELOW 0 (fieldAt m 8 4)).get q i := rfl

theorem revSeq_revokeSet : (revokeSet x m n).get .REV_SEQ 0 = fieldAt m 4 4 % 2 ^ 32 := by
  rw [get_revokeSet, get_put_reg _ (by decide)]
  exact get_put_same _

theorem revokeBelow_revokeSet : (revokeSet x m n).get .REVOKE_BELOW 0 = fieldAt m 8 4 % 2 ^ 32 := by
  rw [get_revokeSet]
  exact get_put_same _

theorem Quiet.revokeSet (h : Quiet s x) : Quiet s (revokeSet x m n) := by
  have hput : Quiet s ((x.put .REV_SEQ 0 (fieldAt m 4 4)).put .REVOKE_BELOW 0 (fieldAt m 8 4)) := (h.put (by decide)).put (by decide)
  exact hput.congr rfl rfl rfl rfl

/-- The form of a revocation of `n` tokens. -/
structure RevokeForm (m : List Nat) (n : Nat) : Prop where
  few : n ≤ 32
  length : m.length = 142 + 4 * n
  kind : fieldAt m 0 2 = 3
  count : fieldAt m 12 2 = n

theorem RevokeForm.good (h : RevokeForm m n) :
    ¬(m.length < 142 ∨ fieldAt m 0 2 ≠ 3 ∨ 32 < fieldAt m 12 2 ∨ m.length ≠ 142 + 4 * fieldAt m 12 2) := by
  obtain ⟨hfew, hlen, hkind, hcount⟩ := h
  omega

/-- A pending challenge for a token that has been revoked is dropped. -/
def challengeJudged (x : State) : State :=
  match x.sec.challenge with
  | some c => if revokedToken x (tokenId c.token) then dropChallenge x else x
  | none => x

theorem challengeJudged_cases : challengeJudged x = x ∨ challengeJudged x = dropChallenge x := by
  rw [challengeJudged]
  split
  · split
    · exact .inr rfl
    · exact .inl rfl
  · exact .inl rfl

/-- An accepted revocation with no session open. -/
theorem revoke_accepted (h : RevokeForm m n) (hok : revokeFault x m = 0) (hclosed : x.get .SESS_OPEN 0 = 0) :
    revoke x m = (challengeJudged ((revokeSet x m n).record 0x05 0 0 (fieldAt m 4 4) (fieldAt m 8 4)), 0, []) := by
  have hlogged : ((revokeSet x m n).record 0x05 0 0 (fieldAt m 4 4) (fieldAt m 8 4)).get .SESS_OPEN 0 = 0 := by
    rw [get_State_record (by decide), get_revokeSet, get_put_reg _ (by decide), get_put_reg _ (by decide), hclosed]
  have hstill : (challengeJudged ((revokeSet x m n).record 0x05 0 0 (fieldAt m 4 4) (fieldAt m 8 4))).get .SESS_OPEN 0 = 0 := by
    rcases challengeJudged_cases (x := (revokeSet x m n).record 0x05 0 0 (fieldAt m 4 4) (fieldAt m 8 4)) with hsame | hsame <;> rw [hsame]
    · exact hlogged
    · exact hlogged
  have hno : ¬((challengeJudged ((revokeSet x m n).record 0x05 0 0 (fieldAt m 4 4) (fieldAt m 8 4))).flag .SESS_OPEN 0 = true ∧
      revokedToken (challengeJudged ((revokeSet x m n).record 0x05 0 0 (fieldAt m 4 4) (fieldAt m 8 4)))
        ((challengeJudged ((revokeSet x m n).record 0x05 0 0 (fieldAt m 4 4) (fieldAt m 8 4))).get .SESS_TOKEN 0) = true) := by
    rintro ⟨hopen, -⟩
    simp [State.flag, hstill] at hopen
  rw [revoke, if_neg h.good, if_neg (by simp [hok]), h.count]
  exact congrArg (fun y : State => ((y, 0, []) : Served)) (if_neg hno)

theorem revoke_refused (h : RevokeForm m n) (hbad : revokeFault x m ≠ 0) :
    revoke x m = (refuse x (revokeFault x m) 0x19 0x19, revokeFault x m, []) := by
  rw [revoke, if_neg h.good, if_pos hbad]
  rfl

section
variable {n : Nat} (h : TakesPlain s path r) (hform : RevokeForm r.payload n)
include h hform

theorem revoke_takes (hok : revokeFault s r.payload = 0) : Completes (.revoke t path r) s fun u =>
    u.get .REV_SEQ 0 = fieldAt r.payload 4 4 % 2 ^ 32 ∧ u.get .REVOKE_BELOW 0 = fieldAt r.payload 8 4 % 2 ^ 32 ∧
    u.sec.revoked = (List.range n).map (fun k => fieldAt r.payload (14 + 4 * k) 4) ∧ Answered s u path 0x19 r 0 [] := by
  have hclosed : (taken (s.atTick t) path).get .SESS_OPEN 0 = 0 := (get_taken_atTick (by decide) (by decide)).trans h.2.2
  have hf := revoke_accepted (x := taken (s.atTick t) path) hform (revokeFault_taken.trans hok) hclosed
  have hjudged := challengeJudged_cases
    (x := (revokeSet (taken (s.atTick t) path) r.payload n).record 0x05 0 0 (fieldAt r.payload 4 4) (fieldAt r.payload 8 4))
  generalize challengeJudged _ = y at hf hjudged
  have hget : ∀ q ∈ [Reg.REV_SEQ, .REVOKE_BELOW], y.get q 0 = (revokeSet (taken (s.atTick t) path) r.payload n).get q 0 := by
    intro q hq
    simp only [List.mem_cons, List.not_mem_nil, or_false] at hq
    rcases hjudged with rfl | rfl <;> rcases hq with rfl | rfl <;> exact get_State_record (by decide)
  have hlogged : ((revokeSet (taken (s.atTick t) path) r.payload n).record 0x05 0 0 (fieldAt r.payload 4 4) (fieldAt r.payload 8 4)).sec =
      (revokeSet (taken (s.atTick t) path) r.payload n).sec := sec_of (fun _ hk => keep_State_record hk) rfl
  have hrevoked : y.sec.revoked = (revokeSet (taken (s.atTick t) path) r.payload n).sec.revoked := by
    have hdropped : ∀ z : State, (dropChallenge z).sec.revoked = z.sec.revoked := fun _ => rfl
    rcases hjudged with rfl | rfl
    · exact congrArg Security.revoked hlogged
    · exact (hdropped _).trans (congrArg Security.revoked hlogged)
  have hquiet : Quiet s y := by
    rcases hjudged with rfl | rfl
    · exact quiet_taken.revokeSet.record
    · exact quiet_taken.revokeSet.record.dropChallenge
  refine completes_eq rfl (plain_run h hf) ⟨?_, ?_, ?_, hquiet.answersPlain h.2.1⟩
  · exact (Laws.get_answer (by decide)).trans ((hget _ (by decide)).trans revSeq_revokeSet)
  · exact (Laws.get_answer (by decide)).trans ((hget _ (by decide)).trans revokeBelow_revokeSet)
  · exact (congrArg Security.revoked sec_answer).trans hrevoked

theorem revoke_refuses (hbad : revokeFault s r.payload ≠ 0) : Completes (.revoke t path r) s fun u =>
    u.get .REV_SEQ 0 = s.get .REV_SEQ 0 ∧ u.sec.revoked = s.sec.revoked ∧ u.get .LAST_REFUSAL 0 = revokeFault s r.payload ∧
    Answered s u path 0x19 r (revokeFault s r.payload) [] := by
  have hf := revoke_refused (x := taken (s.atTick t) path) hform (by rwa [revokeFault_taken])
  rw [revokeFault_taken] at hf
  refine completes_eq rfl (plain_run h hf) ⟨?_, ?_, ?_, quiet_taken.refuse.answersPlain h.2.1⟩
  · exact (Laws.get_answer (by decide)).trans ((get_refuse (by decide)).trans (get_taken_atTick (by decide) (by decide)))
  · exact congrArg Security.revoked (sec_answer.trans (sec_refuse.trans sec_taken_atTick))
  · exact (Laws.get_answer (by decide)).trans (refuse_last revokeFault_lt)

end

end

end

/-- Settles O57: each command's own result, with the checks of R459 read from what taking a request leaves alone, is answered; the
answer leaves the registers and the store of the session alone. -/
theorem sessions : Obligations.Sessions :=
  ⟨fun _ _ _ _ => hello_challenges, fun _ _ _ _ => hello_refuses, fun _ _ _ _ => hello_badLength, fun _ _ _ _ => commands_noDomain,
    fun _ _ _ _ _ h hlen hc hpath hsoon hgood => prove_completes ⟨h, hlen, hc, hpath, hsoon⟩ hgood,
    fun _ _ _ _ _ h hlen hc hpath hsoon hbad => prove_refuses ⟨h, hlen, hc, hpath, hsoon⟩ hbad,
    fun _ _ _ _ => prove_none, fun _ _ _ _ => close_ends, fun _ _ _ _ _ h => close_badText h, fun _ _ _ _ => commit_switching,
    fun _ _ _ _ => commit_applies, fun _ _ _ _ => commit_refuses, fun _ _ _ _ => discard_drops, fun _ _ _ _ => session_plain,
    fun _ _ => idle_ends, fun _ _ => idle_stays, fun _ _ _ => challenge_timesOut, fun _ _ _ _ => claim_takes,
    fun _ _ _ _ => claim_refuses, fun _ _ _ _ _ h hfew hlen hkind hcount => revoke_takes h ⟨hfew, hlen, hkind, hcount⟩,
    fun _ _ _ _ _ h hfew hlen hkind hcount => revoke_refuses h ⟨hfew, hlen, hkind, hcount⟩, fun _ _ _ _ => identity_answers,
    fun _ _ _ _ => identity_badText⟩

end Sys2Proof.Proofs
end

section
/-! O58: profile images, patches, the audit log and the service hours. -/

namespace Sys2Proof.Proofs

open Machine Laws

section
variable {s x y z : State} {t : Nat} {path : Path} {r : Request}

/-! ## Fields of a request -/

theorem length_leBytes : ∀ {n v : Nat}, (leBytes n v).length = n
  | 0, _ => rfl
  | n + 1, v => congrArg (· + 1) (length_leBytes (n := n) (v := v / 256))

theorem leVal_leBytes : ∀ {n v : Nat}, v < 256 ^ n → leVal (leBytes n v) = v
  | 0, v, h => by
    have hzero : v = 0 := by simpa using h
    rw [hzero]
    rfl
  | n + 1, v, h => by
    have hrest : v / 256 < 256 ^ n := Nat.div_lt_of_lt_mul (by rwa [← Nat.pow_succ'])
    rw [leBytes, leVal, leVal_leBytes hrest]
    omega

/-- The field that a request begins with. -/
theorem fieldAt_head {v : Nat} {d : List Nat} (h : v < 2 ^ 32) : fieldAt (leBytes 4 v ++ d) 0 4 = v := by
  rw [fieldAt, slice, List.drop_zero, List.take_left' length_leBytes, leVal_leBytes h]

theorem fieldAt_alone {v : Nat} (h : v < 2 ^ 32) : fieldAt (leBytes 4 v) 0 4 = v := by
  have hfield := fieldAt_head (d := []) h
  rwa [List.append_nil] at hfield

theorem drop_head {v : Nat} {d : List Nat} : (leBytes 4 v ++ d).drop 4 = d := List.drop_left' length_leBytes

theorem Quiet.setUpload {u : Option Upload} (h : Quiet s x) : Quiet s (setUpload x u) := h.congr rfl rfl rfl rfl

theorem Quiet.patchErase {h : Nat} (hq : Quiet s x) : Quiet s (patchErase x h) := by
  have hput : Quiet s (x.setBit .PATCH_OK 0 h false) := hq.put (by decide)
  exact hput.congr rfl rfl rfl rfl

theorem Quiet.refreshValid (h : Quiet s x) : Quiet s (refreshValid x) := h.put (by decide)

theorem sec_refreshValid : (Machine.refreshValid x).sec = x.sec := rfl

theorem sec_record {kind result actor subject value : Nat} : (x.record kind result actor subject value).sec = x.sec :=
  sec_of (fun _ hk => keep_State_record hk) rfl

theorem audit_opened : (opened (s.atTick t) path r).audit = s.audit := by
  have hserved : (served (s.atTick t)).audit = (s.atTick t).audit := by
    rw [served]
    split <;> rfl
  exact (rfl : _ = (served (s.atTick t)).audit).trans (hserved.trans (by simp))

/-- A request that is refused is answered, and nothing follows. -/
theorem perform_refused {p : Nat} {rule : XomorRule} {f : State → List Nat → Served} {crypt : Option (List Nat × Nat)} {text : List Nat}
    {after : List Nat → State → State} {status : Nat} {payload : List Nat} (hrole : rule.role ≤ s.get .SESS_ROLE 0)
    (hf : f s text = (z, status, payload)) (hbad : status ≠ 0) :
    perform s p rule r crypt text f after = answer z p rule.cmd r crypt status payload := by
  rw [perform, if_neg (Nat.not_lt.mpr hrole), hf]
  exact if_neg hbad

/-- What opening a request leaves alone. -/
theorem upload_opened : (opened (s.atTick t) path r).sec.upload = s.sec.upload := congrArg Security.upload sec_opened

/-! ## Uploads -/

theorem uploadData_takes {patch : Bool} {cmd n len : Nat} {b d : List Nat} (hu : x.sec.upload = some ⟨patch, n, len, b⟩) (hb : b.length < 2 ^ 32)
    (hlo : 1 ≤ d.length) (hhi : d.length ≤ 1000) (hfit : b.length + d.length ≤ len) :
    uploadData x patch cmd (leBytes 4 b.length ++ d) = (setUpload x (some ⟨patch, n, len, b ++ d⟩), 0, []) := by
  have htext : (leBytes 4 b.length ++ d).length = 4 + d.length := by rw [List.length_append, length_leBytes]
  rw [uploadData, hu, fieldAt_head hb, drop_head, htext]
  dsimp only
  rw [if_neg (by simp; omega), if_neg (by omega), List.take_length, List.drop_of_length_le (by omega), List.append_nil]

theorem uploadData_refuses {patch : Bool} {cmd n len : Nat} {b d : List Nat} (hu : x.sec.upload = some ⟨patch, n, len, b⟩) (hb : b.length < 2 ^ 32)
    (hlo : 1 ≤ d.length) (hhi : d.length ≤ 1000) (hover : len < b.length + d.length) :
    uploadData x patch cmd (leBytes 4 b.length ++ d) = (refuse x 0x50 cmd cmd, 0x50, []) := by
  have htext : (leBytes 4 b.length ++ d).length = 4 + d.length := by rw [List.length_append, length_leBytes]
  rw [uploadData, hu, fieldAt_head hb, drop_head, htext]
  dsimp only
  rw [if_neg (by simp; omega), if_pos (by omega)]
  rfl

section
variable (h : TakesSealed s path r)
include h

/-- An upload that goes on, of a profile image or of a patch. -/
theorem upload_goesOn {patch : Bool} {cmd role n len : Nat} {b d : List Nat} {c : Instr}
    (hexec : exec c s = .next (request (s.atTick t) path ⟨cmd, role⟩ r (fun a text => uploadData a patch cmd text) nothingAfter))
    (hrole : role ≤ s.get .SESS_ROLE 0) (hu : s.sec.upload = some ⟨patch, n, len, b⟩) (hb : b.length < 2 ^ 32) (hlo : 1 ≤ d.length)
    (hhi : d.length ≤ 1000) (hfit : b.length + d.length ≤ len) (hopen : openText s cmd r = some (leBytes 4 b.length ++ d)) :
    Completes c s fun u => u.sec.upload = some ⟨patch, n, len, b ++ d⟩ ∧ Answered s u path cmd r 0 [] := by
  have hf := uploadData_takes (x := opened (s.atTick t) path r) (cmd := cmd) (upload_opened.trans hu) hb hlo hhi hfit
  refine completes_eq hexec (sealed_run h hrole hopen hf) ⟨?_, quiet_opened.setUpload.answersSealed h.2.1⟩
  exact congrArg Security.upload sec_answer

/-! ## Profile images -/

theorem profBegin_begins {n len : Nat} (hrole : 2 ≤ s.get .SESS_ROLE 0) (hn : n ≤ 3) (hlen : len ≤ 24576)
    (hopen : openText s 0x20 r = some (n :: leBytes 4 len)) : Completes (.profBegin t path r) s fun u =>
      u = sealedAnswer s (setUpload (opened (s.atTick t) path r) (some ⟨false, n, len, []⟩)) path 0x20 r 0 [] ∧
      u.sec.upload = some ⟨false, n, len, []⟩ := by
  have hfield : fieldAt (n :: leBytes 4 len) 1 4 = len := fieldAt_alone (v := len) (by omega)
  have hf : profBegin (opened (s.atTick t) path r) (n :: leBytes 4 len) =
      (setUpload (opened (s.atTick t) path r) (some ⟨false, n, len, []⟩), 0, []) := by
    rw [profBegin, hfield, List.headD_cons, List.length_cons, length_leBytes, if_neg (by omega),
      if_neg (by rw [show imageMax = 24576 from rfl]; omega)]
  exact completes_eq rfl (sealed_run h hrole hopen hf) ⟨rfl, congrArg Security.upload sec_answer⟩

theorem profBegin_refuses {n len : Nat} (hrole : 2 ≤ s.get .SESS_ROLE 0) (hn : n ≤ 3) (hlen : 24576 < len) (hsmall : len < 2 ^ 32)
    (hopen : openText s 0x20 r = some (n :: leBytes 4 len)) : Completes (.profBegin t path r) s fun u =>
      u.sec.upload = s.sec.upload ∧ u.get .LAST_REFUSAL 0 = 0x50 ∧ Answered s u path 0x20 r 0x50 [] := by
  have hfield : fieldAt (n :: leBytes 4 len) 1 4 = len := fieldAt_alone hsmall
  have hf : profBegin (opened (s.atTick t) path r) (n :: leBytes 4 len) = (refuse (opened (s.atTick t) path r) 0x50 0x20 0x20, 0x50, []) := by
    rw [profBegin, hfield, List.headD_cons, List.length_cons, length_leBytes, if_neg (by omega),
      if_pos (by rw [show imageMax = 24576 from rfl]; omega)]
    rfl
  refine completes_eq rfl (sealed_run h hrole hopen hf) ⟨?_, ?_, quiet_opened.refuse.answersSealed h.2.1⟩
  · exact congrArg Security.upload (sec_answer.trans (sec_refuse.trans sec_opened))
  · exact (Laws.get_answer (by decide)).trans (refuse_last (by decide))

omit h in
theorem uploadDone_opened {patch : Bool} {n len : Nat} {b : List Nat} (hu : s.sec.upload = some ⟨patch, n, len, b⟩) :
    uploadDone (opened (s.atTick t) path r) patch = some (⟨patch, n, len, b⟩, b.length == len) := by
  rw [uploadDone, upload_opened, hu]
  simp

theorem profEnd_short {n len : Nat} {b : List Nat} (hrole : 2 ≤ s.get .SESS_ROLE 0) (hu : s.sec.upload = some ⟨false, n, len, b⟩)
    (hshort : b.length ≠ len) (hopen : openText s 0x22 r = some []) : Completes (.profEnd t path r) s fun u =>
      u.sec.upload = none ∧ u.sec.profiles = s.sec.profiles ∧ u.get .LAST_REFUSAL 0 = 0x50 ∧ Answered s u path 0x22 r 0x50 [] := by
  have hfault : profFault (setUpload (opened (s.atTick t) path r) none) n b (b.length == len) = some (0x50, []) := if_pos (.inl (by simp [hshort]))
  have hf : profEnd (opened (s.atTick t) path r) [] = (refuse (setUpload (opened (s.atTick t) path r) none) 0x50 0x22 0x22, 0x50, []) := by
    rw [profEnd, if_neg (by simp), uploadDone_opened hu]
    dsimp only
    rw [hfault]
  refine completes_eq rfl (sealed_run h hrole hopen hf) ⟨?_, ?_, ?_, quiet_opened.setUpload.refuse.answersSealed h.2.1⟩
  · exact congrArg Security.upload (sec_answer.trans sec_refuse)
  · refine (congrArg Security.profiles (sec_answer.trans sec_refuse)).trans ?_
    exact (rfl : _ = (opened (s.atTick t) path r).sec.profiles).trans (congrArg Security.profiles sec_opened)
  · exact (Laws.get_answer (by decide)).trans (refuse_last (by decide))

/-- An image in its area, with the upload over. -/
def imageStored (x : State) (n : Nat) (b : List Nat) : State := setProfile (setUpload x none) n ⟨b, [], [], [], true, true⟩

omit h in
theorem Quiet.imageStored {n : Nat} {b : List Nat} (hq : Quiet s x) : Quiet s (imageStored x n b) := hq.congr rfl rfl rfl rfl

theorem profEnd_stores {n : Nat} {b : List Nat} (hrole : 2 ≤ s.get .SESS_ROLE 0) (hu : s.sec.upload = some ⟨false, n, b.length, b⟩)
    (hopen : openText s 0x22 r = some []) (hok : profFault (setUpload (opened (s.atTick t) path r) none) n b true = none) :
    Completes (.profEnd t path r) s fun u =>
      u.sec.upload = none ∧ u.sec.profiles = s.sec.profiles.set n ⟨b, [], [], [], true, true⟩ ∧ Answered s u path 0x22 r 0 (leBytes 4 (imageSeq b)) := by
  have hf : profEnd (opened (s.atTick t) path r) [] =
      (refreshValid ((imageStored (opened (s.atTick t) path r) n b).record 0x02 0 (actorOf (imageStored (opened (s.atTick t) path r) n b)) n
        (imageSeq b)), 0, leBytes 4 (imageSeq b)) := by
    rw [profEnd, if_neg (by simp), uploadDone_opened hu, beq_self_eq_true]
    dsimp only
    rw [hok]
    rfl
  have hsec := fun actor => sec_record (x := imageStored (opened (s.atTick t) path r) n b) (kind := 0x02) (result := 0) (actor := actor) (subject := n)
    (value := imageSeq b)
  refine completes_eq rfl (sealed_run h hrole hopen hf) ⟨?_, ?_, quiet_opened.imageStored.record.refreshValid.answersSealed h.2.1⟩
  · exact congrArg Security.upload (sec_answer.trans (sec_refreshValid.trans (hsec _)))
  · refine (congrArg Security.profiles (sec_answer.trans (sec_refreshValid.trans (hsec _)))).trans ?_
    have hset : (imageStored (opened (s.atTick t) path r) n b).sec.profiles =
        (opened (s.atTick t) path r).sec.profiles.set n ⟨b, [], [], [], true, true⟩ := rfl
    rw [hset, sec_opened]

end

/-! ## Switches of profiles -/

section
variable {v : Nat}

theorem areaValid_served : areaValid (served s) v = areaValid s v := by
  simp only [areaValid, imageFault, ownsKey, State.flag, profileArea, sec_served]
  simp (disch := decide) only [get_served_reg]
  rfl

theorem areaEntries_served : areaEntries (served s) v = areaEntries s v := by
  rw [areaEntries, areaEntries, profileArea_congr sec_served]

theorem profSelect_switching (hswitch : x.get .PROF_SWITCHING 0 = 1) :
    profSelect x v = (refuse x 0x51 0x2600 (subjectOf 0x2600 1), abState) := if_pos (by simp [State.flag, hswitch])

theorem profSelect_invalid (hswitch : x.get .PROF_SWITCHING 0 = 0) (hbad : areaValid x v = false) :
    profSelect x v = (refuse x 0x52 0x2600 (subjectOf 0x2600 1), abState) :=
  (if_neg (by simp [State.flag, hswitch])).trans (if_pos (by rw [hbad]; rfl))

/-- A switch that waits for the slots of a mask. -/
def switchBegun (x : State) (v wait waited : Nat) : State :=
  let y := { x with sec := { x.sec with switching := areaEntries x v } }
  let y := (((y.put .PROF_TARGET 0 v).put .PROF_SWITCHING 0 1).put .PROF_WAIT 0 wait).put .PROF_WAITED 0 waited
  ((y.put .PROF_DEVICE 0 1).put .PROF_COMM 0 1).put .PROF_LOGTOK 0 (actorOf y)

theorem profSelect_begins (hswitch : x.get .PROF_SWITCHING 0 = 0) (hactive : x.get .PROF_ACTIVE 0 ≠ v) (hvalid : areaValid x v = true) :
    ∃ waited, profSelect x v = ((idsWhere 8 fun i => x.kind i == 0).foldl (fun a i => switchSlot (a.setBit .PROF_WAIT 0 i true) i)
      (switchBegun x v (Machine.maskOf 8 fun i => x.kind i != 0) waited), 0) :=
  ⟨_, (if_neg (by simp [State.flag, hswitch])).trans ((if_neg (by simp [hvalid])).trans (if_neg fun hsame => hactive hsame.1))⟩

/-- With an axis at every slot, the switch waits for all of them. -/
theorem profSelect_waits (hswitch : x.get .PROF_SWITCHING 0 = 0) (hactive : x.get .PROF_ACTIVE 0 ≠ v) (hkind : ∀ i < 8, x.kind i ≠ 0)
    (hvalid : areaValid x v = true) : ∃ waited, profSelect x v = (switchBegun x v 255 waited, 0) := by
  have hwait : Machine.maskOf 8 (fun i => x.kind i != 0) = 255 := by
    refine Nat.eq_of_testBit_eq fun k => ?_
    rw [← bit, bit_maskOf, show (255 : Nat) = 2 ^ 8 - 1 from rfl, Nat.testBit_two_pow_sub_one]
    by_cases hk : k < 8
    · simp [hk, hkind k hk]
    · simp [hk]
  have hidle : idsWhere 8 (fun i => x.kind i == 0) = [] := by
    refine List.filter_eq_nil_iff.mpr fun i hi => ?_
    rw [beq_iff_eq]
    exact hkind i (List.mem_range.mp hi)
  obtain ⟨waited, hrun⟩ := profSelect_begins hswitch hactive hvalid
  rw [hwait, hidle] at hrun
  exact ⟨waited, hrun⟩

theorem select_range (hpath : path ≠ .can) (hup : s.get .SEQ_DOWN 0 = 0) (hv : 3 < v) : Completes (.profSelect path v) s fun u =>
    u.get .ANS_ABORT 0 = 0x06090030 ∧ u.get .PROF_SWITCHING 0 = s.get .PROF_SWITCHING 0 := by
  have hrun : viaObject s path (fun a => if 3 < v then (a, abRange) else profSelect a v) = (served s).reply abRange [] := by
    rw [viaObject_run hup (fun h => absurd h hpath), if_pos hv]
  refine completes_eq rfl hrun ⟨reply_abort (by decide), ?_⟩
  exact (get_reply (by decide)).trans (get_served_reg (by decide))

/-- A selection that is refused. -/
theorem select_refused {code : Nat} (hpath : path ≠ .can) (hup : s.get .SEQ_DOWN 0 = 0) (hv : v ≤ 3) (hcode : code < 256)
    (hf : profSelect (served s) v = (refuse (served s) code 0x2600 (subjectOf 0x2600 1), abState)) :
    Completes (.profSelect path v) s fun u => u.get .ANS_ABORT 0 = 0x08000022 ∧ u.get .LAST_REFUSAL 0 = code ∧
      u.get .PROF_TARGET 0 = s.get .PROF_TARGET 0 ∧ u.get .PROF_SWITCHING 0 = s.get .PROF_SWITCHING 0 := by
  have hrun : viaObject s path (fun a => if 3 < v then (a, abRange) else profSelect a v) =
      (refuse (served s) code 0x2600 (subjectOf 0x2600 1)).reply abState [] := by
    rw [viaObject_run hup (fun h => absurd h hpath), if_neg (by omega), hf]
  refine completes_eq rfl hrun ⟨reply_abort (a := abState) (by decide), ?_, ?_, ?_⟩ <;> refine (get_reply (by decide)).trans ?_
  · exact refuse_last hcode
  · exact (get_refuse (by decide)).trans (get_served_reg (by decide))
  · exact (get_refuse (by decide)).trans (get_served_reg (by decide))

theorem select_running (hpath : path ≠ .can) (hup : s.get .SEQ_DOWN 0 = 0) (hv : v ≤ 3) (hswitch : s.get .PROF_SWITCHING 0 = 1) :
    Completes (.profSelect path v) s fun u =>
      u.get .ANS_ABORT 0 = 0x08000022 ∧ u.get .LAST_REFUSAL 0 = 0x51 ∧ u.get .PROF_TARGET 0 = s.get .PROF_TARGET 0 :=
  completes_imp (select_refused hpath hup hv (by decide) (profSelect_switching ((get_served_reg (by decide)).trans hswitch)))
    fun _ ⟨habort, hlast, htarget, _⟩ => ⟨habort, hlast, htarget⟩

theorem select_invalid (hpath : path ≠ .can) (hup : s.get .SEQ_DOWN 0 = 0) (hv : v ≤ 3) (hswitch : s.get .PROF_SWITCHING 0 = 0)
    (hbad : areaValid s v = false) : Completes (.profSelect path v) s fun u =>
      u.get .ANS_ABORT 0 = 0x08000022 ∧ u.get .LAST_REFUSAL 0 = 0x52 ∧ u.get .PROF_SWITCHING 0 = 0 :=
  completes_imp (select_refused hpath hup hv (by decide)
    (profSelect_invalid ((get_served_reg (by decide)).trans hswitch) (areaValid_served.trans hbad)))
    fun _ ⟨habort, hlast, _, hsame⟩ => ⟨habort, hlast, hsame.trans hswitch⟩

theorem select_waits (hpath : path ≠ .can) (hup : s.get .SEQ_DOWN 0 = 0) (hv : v ≤ 3) (hswitch : s.get .PROF_SWITCHING 0 = 0)
    (hactive : s.get .PROF_ACTIVE 0 ≠ v) (hkind : ∀ i < 8, s.kind i ≠ 0) (hvalid : areaValid s v = true) :
    Completes (.profSelect path v) s fun u =>
      u.get .ANS_ABORT 0 = 0 ∧ u.get .PROF_TARGET 0 = v ∧ u.get .PROF_SWITCHING 0 = 1 ∧ u.get .PROF_WAIT 0 = 255 ∧
      u.sec.switching = areaEntries s v := by
  have hkind' : ∀ i < 8, (served s).kind i ≠ 0 := fun i hi => by
    rw [State.kind, alike_served.dv]
    exact hkind i hi
  obtain ⟨waited, hf⟩ := profSelect_waits (x := served s) ((get_served_reg (by decide)).trans hswitch)
    (by rwa [get_served_reg (by decide)]) hkind' (areaValid_served.trans hvalid)
  have hrun : viaObject s path (fun a => if 3 < v then (a, abRange) else profSelect a v) = (switchBegun (served s) v 255 waited).reply 0 [] := by
    rw [viaObject_run hup (fun h => absurd h hpath), if_neg (by omega), hf]
  have htarget : trunc 3 v = v := trunc_of_lt (by omega)
  refine completes_eq rfl hrun ⟨reply_abort (by decide), ?_, ?_, ?_, areaEntries_served⟩ <;> refine (get_reply (by decide)).trans ?_
  · simp (disch := decide) [switchBegun, htarget]
  · simp (disch := decide) [switchBegun, trunc]
  · simp (disch := decide) [switchBegun, trunc]

end

/-! ## Patches -/

section
variable {b : List Nat} {i : Nat}

theorem idleHalf_lt : idleHalf x < 2 := by
  rw [idleHalf]
  split <;> decide

theorem idleHalf_opened : idleHalf (opened (s.atTick t) path r) = idleHalf s := by
  rw [idleHalf, idleHalf, get_opened (by decide) (by decide) (by decide) (by decide)]

/-- The check of a patch reads the key, the version and the least level alone. -/
theorem patchFault_congr (hsec : x.sec.identity = s.sec.identity) (hmin : x.get .ROLLBACK_MIN 0 = s.get .ROLLBACK_MIN 0) :
    patchFault x b = patchFault s b := by
  rw [patchFault, patchFault, hsec, hmin]

theorem patchFault_opened : patchFault (opened (s.atTick t) path r) b = patchFault s b :=
  patchFault_congr (congrArg Security.identity sec_opened) (get_opened (by decide) (by decide) (by decide) (by decide))

theorem patchFault_lt : patchFault s b < 256 := by
  rw [patchFault]
  split_ifs <;> decide

theorem patchHalf_opened : patchHalf (opened (s.atTick t) path r) i = patchHalf s i := by rw [patchHalf, patchHalf, sec_opened]

theorem sec_patchStatus : (patchStatus x).sec = x.sec := rfl

theorem patchOk_patchStatus : (patchStatus x).getBit .PATCH_OK 0 i = x.getBit .PATCH_OK 0 i :=
  congrArg (bit · i) (get_patchStatus (by decide))

theorem patchOk_answer {p cmd status : Nat} {crypt : Option (List Nat × Nat)} {payload : List Nat} :
    (answer x p cmd r crypt status payload).getBit .PATCH_OK 0 i = x.getBit .PATCH_OK 0 i := congrArg (bit · i) (Laws.get_answer (by decide))

theorem patchOk_record {kind result actor subject value : Nat} :
    (x.record kind result actor subject value).getBit .PATCH_OK 0 i = x.getBit .PATCH_OK 0 i := congrArg (bit · i) (get_State_record (by decide))

theorem patchOk_refuse {code what subject : Nat} : (refuse x code what subject).getBit .PATCH_OK 0 i = x.getBit .PATCH_OK 0 i :=
  congrArg (bit · i) (get_refuse (by decide))

/-- A half that is erased is no longer marked sound. -/
theorem patchOk_patchErase (h : i < 2) : (patchErase x i).getBit .PATCH_OK 0 i = false :=
  (rfl : _ = (x.setBit .PATCH_OK 0 i false).getBit .PATCH_OK 0 i).trans ((getBit_setBit h).trans (if_pos rfl))

end

section
variable (h : TakesSealed s path r) (hrole : 3 ≤ s.get .SESS_ROLE 0)
include h hrole

theorem patchBegin_begins {len : Nat} (hlen : len ≤ 32768) (hopen : openText s 0x24 r = some (leBytes 4 len)) :
    Completes (.patchBegin t path r) s fun u =>
      u.sec.upload = some ⟨true, 0, len, []⟩ ∧ u.getBit .PATCH_OK 0 (idleHalf s) = false ∧ Answered s u path 0x24 r 0 [] := by
  have hf : patchBegin (opened (s.atTick t) path r) (leBytes 4 len) =
      (patchStatus (patchErase (setUpload (opened (s.atTick t) path r) (some ⟨true, 0, len, []⟩)) (idleHalf s)), 0, []) := by
    rw [patchBegin, fieldAt_alone (by omega), length_leBytes, if_neg (by simp), if_neg (by omega), idleHalf_opened]
  refine completes_eq rfl (sealed_run h hrole hopen hf) ⟨?_, ?_, quiet_opened.setUpload.patchErase.patchStatus.answersSealed h.2.1⟩
  · exact congrArg Security.upload sec_answer
  · exact patchOk_answer.trans (patchOk_patchStatus.trans (patchOk_patchErase idleHalf_lt))

theorem patchBegin_refuses {len : Nat} (hlen : 32768 < len) (hsmall : len < 2 ^ 32) (hopen : openText s 0x24 r = some (leBytes 4 len)) :
    Completes (.patchBegin t path r) s fun u =>
      u.sec.upload = s.sec.upload ∧ u.get .PATCH_OK 0 = s.get .PATCH_OK 0 ∧ Answered s u path 0x24 r 0x50 [] := by
  have hf : patchBegin (opened (s.atTick t) path r) (leBytes 4 len) = (refuse (opened (s.atTick t) path r) 0x50 0x24 0x24, 0x50, []) := by
    rw [patchBegin, fieldAt_alone hsmall, length_leBytes, if_neg (by simp), if_pos hlen]
    rfl
  refine completes_eq rfl (sealed_run h hrole hopen hf) ⟨?_, ?_, quiet_opened.refuse.answersSealed h.2.1⟩
  · exact congrArg Security.upload (sec_answer.trans (sec_refuse.trans sec_opened))
  · exact (Laws.get_answer (by decide)).trans ((get_refuse (by decide)).trans (get_opened (by decide) (by decide) (by decide) (by decide)))

theorem patchData_over {len : Nat} {b d : List Nat} (hu : s.sec.upload = some ⟨true, 0, len, b⟩) (hb : b.length < 2 ^ 32) (hlo : 1 ≤ d.length)
    (hhi : d.length ≤ 1000) (hover : len < b.length + d.length) (hopen : openText s 0x25 r = some (leBytes 4 b.length ++ d)) :
    Completes (.patchData t path r) s fun u =>
      u.sec.upload = s.sec.upload ∧ u.get .LAST_REFUSAL 0 = 0x50 ∧ Answered s u path 0x25 r 0x50 [] := by
  have hf := uploadData_refuses (x := opened (s.atTick t) path r) (cmd := 0x25) (upload_opened.trans hu) hb hlo hhi hover
  refine completes_eq rfl (sealed_run h hrole hopen hf) ⟨?_, ?_, quiet_opened.refuse.answersSealed h.2.1⟩
  · exact congrArg Security.upload (sec_answer.trans (sec_refuse.trans sec_opened))
  · exact (Laws.get_answer (by decide)).trans (refuse_last (by decide))

/-- The idle half with a patch, marked sound, and the upload over. -/
def patchKept (x : State) (i : Nat) (b : List Nat) : State :=
  { (setUpload x none).setBit .PATCH_OK 0 i true with sec := { x.sec with upload := none, patches := x.sec.patches.set i b } }

/-- The idle half erased, with the upload over. -/
def patchErased (x : State) (i : Nat) : State := Machine.patchStatus (Machine.patchErase (setUpload x none) i)

omit h hrole in
theorem Quiet.patchKept {i : Nat} {b : List Nat} (hq : Quiet s x) : Quiet s (patchKept x i b) := by
  have hput : Quiet s ((Machine.setUpload x none).setBit .PATCH_OK 0 i true) := hq.setUpload.put (by decide)
  exact hput.congr rfl rfl rfl rfl

omit h hrole in
theorem patchOk_patchKept {i : Nat} {b : List Nat} (hi : i < 2) : (patchKept x i b).getBit .PATCH_OK 0 i = true :=
  (rfl : _ = ((setUpload x none).setBit .PATCH_OK 0 i true).getBit .PATCH_OK 0 i).trans ((getBit_setBit hi).trans (if_pos rfl))

omit h hrole in
theorem getD_set_idle {l : List (List Nat)} {b : List Nat} (hl : l.length = 2) : (l.set (idleHalf s) b).getD (idleHalf s) [] = b := by
  have hin : idleHalf s < l.length := by
    rw [hl]
    exact idleHalf_lt
  simp [hin]

theorem patchEnd_stores {b : List Nat} (hu : s.sec.upload = some ⟨true, 0, b.length, b⟩) (htwo : s.sec.patches.length = 2)
    (hopen : openText s 0x26 r = some []) (hok : patchFault s b = 0) : Completes (.patchEnd t path r) s fun u =>
      u.sec.upload = none ∧ u.sec.patches.getD (idleHalf s) [] = b ∧ u.getBit .PATCH_OK 0 (idleHalf s) = true ∧
      Answered s u path 0x26 r 0 (leBytes 2 (patchLevel b) ++ leBytes 2 (patchRollback b)) := by
  have hfault : patchFault (setUpload (opened (s.atTick t) path r) none) b = 0 :=
    (patchFault_congr rfl rfl : _ = patchFault (opened (s.atTick t) path r) b).trans (patchFault_opened.trans hok)
  have hf : patchEnd (opened (s.atTick t) path r) [] = (patchStatus (patchKept (opened (s.atTick t) path r) (idleHalf s) b |>.record 0x09 0 (actorOf (patchKept (opened (s.atTick t) path r) (idleHalf s) b))
      (patchLevel b) (patchRollback b)), 0, leBytes 2 (patchLevel b) ++ leBytes 2 (patchRollback b)) := by
    rw [patchEnd, if_neg (by simp), uploadDone_opened hu, beq_self_eq_true, idleHalf_opened]
    dsimp only
    rw [if_pos rfl, hfault]
    rfl
  have hsec := (sec_answer (p := path.code) (cmd := 0x26) (r := r) (crypt := some (s.sec.key, s.get .SESS_ID 0)) (status := 0)
    (payload := leBytes 2 (patchLevel b) ++ leBytes 2 (patchRollback b))).trans
    (sec_patchStatus.trans (sec_record (x := patchKept (opened (s.atTick t) path r) (idleHalf s) b) (kind := 0x09) (result := 0)
      (actor := actorOf (patchKept (opened (s.atTick t) path r) (idleHalf s) b)) (subject := patchLevel b) (value := patchRollback b)))
  refine completes_eq rfl (sealed_run h hrole hopen hf) ⟨congrArg Security.upload hsec, ?_, ?_, quiet_opened.patchKept.record.patchStatus.answersSealed h.2.1⟩
  · refine (congrArg (fun c : Security => c.patches.getD (idleHalf s) []) hsec).trans (getD_set_idle ?_)
    exact (congrArg (fun c : Security => c.patches.length) sec_opened).trans htwo
  · exact patchOk_answer.trans (patchOk_patchStatus.trans (patchOk_record.trans (patchOk_patchKept idleHalf_lt)))

omit h hrole in
theorem patches_patchErased {i : Nat} : (patchErased x i).sec.patches = x.sec.patches.set i [] := rfl

omit h hrole in
theorem upload_patchErased {i : Nat} : (patchErased x i).sec.upload = none := rfl

omit h hrole in
theorem Quiet.patchErased {i : Nat} (hq : Quiet s x) : Quiet s (patchErased x i) := hq.setUpload.patchErase.patchStatus

omit h hrole in
theorem patchOk_patchErased {i : Nat} (hi : i < 2) : (patchErased x i).getBit .PATCH_OK 0 i = false :=
  patchOk_patchStatus.trans (patchOk_patchErase hi)

theorem patchEnd_refuses {b : List Nat} (hu : s.sec.upload = some ⟨true, 0, b.length, b⟩) (htwo : s.sec.patches.length = 2)
    (hopen : openText s 0x26 r = some []) (hbad : patchFault s b ≠ 0) : Completes (.patchEnd t path r) s fun u =>
      u.sec.upload = none ∧ u.sec.patches.getD (idleHalf s) [] = [] ∧ u.getBit .PATCH_OK 0 (idleHalf s) = false ∧
      u.get .LAST_REFUSAL 0 = patchFault s b ∧ Answered s u path 0x26 r (patchFault s b) [] := by
  have hfault : patchFault (setUpload (opened (s.atTick t) path r) none) b = patchFault s b :=
    (patchFault_congr rfl rfl : _ = patchFault (opened (s.atTick t) path r) b).trans patchFault_opened
  have hf : patchEnd (opened (s.atTick t) path r) [] = (refuse (patchErased (opened (s.atTick t) path r) (idleHalf s)) (patchFault s b) 0x26 0x26, patchFault s b, []) := by
    rw [patchEnd, if_neg (by simp), uploadDone_opened hu, beq_self_eq_true, idleHalf_opened]
    dsimp only
    rw [if_pos rfl, hfault, if_pos hbad]
    rfl
  have hsec : (sealedAnswer s (refuse (patchErased (opened (s.atTick t) path r) (idleHalf s)) (patchFault s b) 0x26 0x26) path 0x26 r (patchFault s b)
      []).sec = (patchErased (opened (s.atTick t) path r) (idleHalf s)).sec := sec_answer.trans sec_refuse
  have hpatches := (congrArg Security.patches hsec).trans (patches_patchErased.trans (by rw [sec_opened]))
  refine completes_eq rfl (sealed_run h hrole hopen hf) ⟨(congrArg Security.upload hsec).trans upload_patchErased, ?_, ?_, ?_, quiet_opened.patchErased.refuse.answersSealed h.2.1⟩
  · exact (congrArg (fun l : List (List Nat) => l.getD (idleHalf s) []) hpatches).trans (getD_set_idle htwo)
  · exact patchOk_answer.trans (patchOk_refuse.trans (patchOk_patchErased idleHalf_lt))
  · exact (Laws.get_answer (by decide)).trans (refuse_last patchFault_lt)

/-- The registers of an activation. -/
def patchRegs (x : State) (half level : Nat) : State := ((x.put .PATCH_ACTIVE 0 (half + 1)).put .ROLLBACK_MIN 0 level).put .SEQ_NOPATCH 0 0

omit h hrole in
theorem patchActivate_takes (hok : patchFault x (patchHalf x (idleHalf x)) = 0) : ∃ z, patchActivate x [] = (z, 0, []) ∧
    ∀ q ∈ [Reg.PATCH_ACTIVE, .ROLLBACK_MIN, .SEQ_DOWN, .SEQ_EPOCH_MOVED],
      z.get q 0 = (patchRegs x (idleHalf x) (patchRollback (patchHalf x (idleHalf x)))).get q 0 := by
  rw [patchActivate, if_neg (by simp), if_neg (by simp [hok])]
  refine ⟨_, rfl, fun q hq => ?_⟩
  simp only [List.mem_cons, List.not_mem_nil, or_false] at hq
  rcases hq with rfl | rfl | rfl | rfl <;> exact (get_State_post (by decide)).trans (get_State_record (by decide))

theorem patchActivate_restarts (hopen : openText s 0x27 r = some []) (hok : patchFault s (patchHalf s (idleHalf s)) = 0)
    (hmoved : s.get .SEQ_EPOCH_MOVED 0 = 0) : Completes (.patchActivate t path r) s fun u =>
      u.get .PATCH_ACTIVE 0 = idleHalf s + 1 ∧ u.get .ROLLBACK_MIN 0 = patchRollback (patchHalf s (idleHalf s)) % 2 ^ 16 ∧
      u.get .SEQ_DOWN 0 = 1 ∧ u.get .SEQ_CAUSE 0 = 1 ∧ u.get .SESS_OPEN 0 = 0 := by
  have hok' : patchFault (opened (s.atTick t) path r) (patchHalf (opened (s.atTick t) path r) (idleHalf (opened (s.atTick t) path r))) = 0 := by
    rw [patchFault_opened, patchHalf_opened, idleHalf_opened, hok]
  obtain ⟨z, hf, hz⟩ := patchActivate_takes hok'
  rw [patchHalf_opened, idleHalf_opened] at hz
  have hrole' : 3 ≤ (opened (s.atTick t) path r).get .SESS_ROLE 0 := by
    rwa [get_opened (by decide) (by decide) (by decide) (by decide)]
  have hrun := (request_sealed (t := t) (rule := ⟨0x27, 3⟩) (f := patchActivate) (after := fun _ a => seqRestart a 1) h hopen).trans
    (perform_after hrole' (by rw [hf]))
  rw [hf] at hrun
  have hdown : (sealedAnswer s z path 0x27 r 0 []).get .SEQ_DOWN 0 = 0 := by
    refine (Laws.get_answer (by decide)).trans ((hz _ (by simp)).trans ?_)
    simp (disch := decide) [patchRegs]
    exact (get_opened (by decide) (by decide) (by decide) (by decide)).trans h.1.2.1
  have hstill : (sealedAnswer s z path 0x27 r 0 []).get .SEQ_EPOCH_MOVED 0 = 0 := by
    refine (Laws.get_answer (by decide)).trans ((hz _ (by simp)).trans ?_)
    simp (disch := decide) [patchRegs]
    exact (get_opened (by decide) (by decide) (by decide) (by decide)).trans hmoved
  have hfree : seqEpochFree (sealedAnswer s z path 0x27 r 0 []) = true := by simp [seqEpochFree, State.flag, hstill]
  obtain ⟨hrestarts, hcause, hsession, -⟩ := seqRestart_restarting (cause := 1) hdown hfree (by decide)
  refine completes_eq rfl hrun ⟨?_, ?_, hrestarts, hcause, hsession⟩
  · refine (get_seqRestart (by decide)).trans ((Laws.get_answer (by decide)).trans ((hz _ (by simp)).trans ?_))
    have hlt := idleHalf_lt (x := s)
    simp (disch := decide) [patchRegs]
    exact trunc_of_lt (by omega)
  · refine (get_seqRestart (by decide)).trans ((Laws.get_answer (by decide)).trans ((hz _ (by simp)).trans ?_))
    simp (disch := decide) [patchRegs, trunc]

theorem patchActivate_refuses (hopen : openText s 0x27 r = some []) (hbad : patchFault s (patchHalf s (idleHalf s)) ≠ 0) :
    Completes (.patchActivate t path r) s fun u =>
      u.get .PATCH_ACTIVE 0 = s.get .PATCH_ACTIVE 0 ∧ u.get .SEQ_DOWN 0 = 0 ∧
      u.get .LAST_REFUSAL 0 = patchFault s (patchHalf s (idleHalf s)) ∧
      Answered s u path 0x27 r (patchFault s (patchHalf s (idleHalf s))) [] := by
  have hf : patchActivate (opened (s.atTick t) path r) [] = (refuse (opened (s.atTick t) path r) (patchFault s (patchHalf s (idleHalf s))) 0x27 0x27,
      patchFault s (patchHalf s (idleHalf s)), []) := by
    rw [patchActivate, if_neg (by simp), patchFault_opened, patchHalf_opened, idleHalf_opened, if_pos hbad]
    rfl
  have hrole' : 3 ≤ (opened (s.atTick t) path r).get .SESS_ROLE 0 := by
    rwa [get_opened (by decide) (by decide) (by decide) (by decide)]
  have hrun := (request_sealed (t := t) (rule := ⟨0x27, 3⟩) (f := patchActivate) (after := fun _ a => seqRestart a 1) h hopen).trans
    (perform_refused hrole' hf hbad)
  refine completes_eq rfl hrun ⟨?_, ?_, ?_, quiet_opened.refuse.answersSealed h.2.1⟩
  · exact (Laws.get_answer (by decide)).trans ((get_refuse (by decide)).trans (get_opened (by decide) (by decide) (by decide) (by decide)))
  · refine (Laws.get_answer (by decide)).trans ((get_refuse (by decide)).trans ?_)
    exact (get_opened (by decide) (by decide) (by decide) (by decide)).trans h.1.2.1
  · exact (Laws.get_answer (by decide)).trans (refuse_last patchFault_lt)

end

/-! ## The audit log -/

section
variable (h : TakesSealed s path r) (hrole : 1 ≤ s.get .SESS_ROLE 0)
include h hrole

omit h hrole in
theorem getD_last {v n : Nat} : (leBytes 4 v ++ [n]).getD 4 0 = n := by
  rw [List.getD_append_right _ _ _ _ (by rw [length_leBytes]), length_leBytes]
  rfl

omit h hrole in
theorem auditNumbered_opened : auditNumbered (opened (s.atTick t) path r) = auditNumbered s := by
  rw [auditNumbered, auditNumbered, audit_opened, get_opened (by decide) (by decide) (by decide) (by decide)]

theorem auditRead_reads {first n : Nat} (hfirst : first < 2 ^ 32) (hlo : 1 ≤ n) (hhi : n ≤ 31) (hopen : openText s 0x28 r = some (leBytes 4 first ++ [n])) :
    Completes (.auditRead t path r) s fun u => u = sealedAnswer s (opened (s.atTick t) path r) path 0x28 r 0
      (((auditNumbered s).filter fun e => decide (first ≤ e.seq)).take n |>.flatMap AuditEntry.bytes) := by
  have hf : auditRead (opened (s.atTick t) path r) (leBytes 4 first ++ [n]) = (opened (s.atTick t) path r, 0,
      (((auditNumbered s).filter fun e => decide (first ≤ e.seq)).take n |>.flatMap AuditEntry.bytes)) := by
    rw [auditRead, getD_last, fieldAt_head hfirst, auditNumbered_opened, List.length_append, length_leBytes,
      if_neg (by simp only [List.length_singleton]; omega)]
  exact completes_eq rfl (sealed_run h hrole hopen hf) rfl

theorem auditRead_badField {first n : Nat} (hbad : n = 0 ∨ 31 < n) (hopen : openText s 0x28 r = some (leBytes 4 first ++ [n])) :
    Completes (.auditRead t path r) s fun u => u = sealedAnswer s (opened (s.atTick t) path r) path 0x28 r 0x02 [] := by
  have hf : auditRead (opened (s.atTick t) path r) (leBytes 4 first ++ [n]) = (opened (s.atTick t) path r, 0x02, []) := by
    rw [auditRead, getD_last, if_pos (.inr hbad)]
    rfl
  exact completes_eq rfl (sealed_run h hrole hopen hf) rfl

/-- What a seal is over. -/
def sealText (x : State) : List Nat := leBytes 4 (match x.audit.getLast? with | some e => e.seq | none => 0) ++ lastChain x

theorem auditSeal_seals (hopen : openText s 0x29 r = some []) : Completes (.auditSeal t path r) s fun u =>
    u.get .DRAWS 0 = (s.get .DRAWS 0 + 1) % 2 ^ 64 ∧ u.audit = s.audit ∧ ∃ sig, Answered s u path 0x29 r 0 (sealText s ++ sig) := by
  have htext : sealText (opened (s.atTick t) path r) = sealText s := by
    rw [sealText, sealText, lastChain, lastChain, audit_opened]
  have hf : auditSeal (opened (s.atTick t) path r) [] =
      ((signed (opened (s.atTick t) path r) (sealText s)).1, 0, sealText s ++ (signed (opened (s.atTick t) path r) (sealText s)).2) := by
    rw [← htext]
    rfl
  have hquiet : Quiet s ((opened (s.atTick t) path r).put .DRAWS 0 ((opened (s.atTick t) path r).get .DRAWS 0 + 1)) := quiet_opened.put (by decide)
  refine completes_eq rfl (sealed_run h hrole hopen hf) ⟨?_, ?_, _, hquiet.answersSealed h.2.1⟩
  · refine (Laws.get_answer (by decide)).trans ((get_put_same _).trans ?_)
    rw [get_opened (by decide) (by decide) (by decide) (by decide)]
    rfl
  · exact audit_answer.trans (audit_opened (path := path) (r := r))

theorem auditSeal_badText {text : List Nat} (hopen : openText s 0x29 r = some text) (htext : text ≠ []) :
    Completes (.auditSeal t path r) s fun u => u = sealedAnswer s (opened (s.atTick t) path r) path 0x29 r 0x02 [] := by
  have hf : auditSeal (opened (s.atTick t) path r) text = (opened (s.atTick t) path r, 0x02, []) := if_pos htext
  exact completes_eq rfl (sealed_run h hrole hopen hf) rfl

end

/-! ## Service hours -/

/-- A unit counted. -/
def hoursCounted (x : State) : State := (x.count .SVC_HOURS 0).put .SVC_TICK 0 x.ts

theorem hours_counted : (hoursCounted x).get .SVC_HOURS 0 = min (x.get .SVC_HOURS 0 + 1) (2 ^ 32 - 1) :=
  (get_put_reg _ (by decide)).trans get_count

theorem serviceHours_counts (hdue : s.get .SVC_TICK 0 + 57600000000 ≤ (s.atTick t).ts) : Completes (.svcHoursIncrement t) s fun u =>
    u.get .SVC_HOURS 0 = min (s.get .SVC_HOURS 0 + 1) (2 ^ 32 - 1) ∧ u.get .SVC_TICK 0 = u.ts % 2 ^ 64 ∧
    (s.get .SESS_OPEN 0 = 1 → s.get .SESS_VALID_TO 0 ≤ u.get .SVC_HOURS 0 → u.get .SESS_OPEN 0 = 0) := by
  have hhours : (hoursCounted (s.atTick t)).get .SVC_HOURS 0 = min (s.get .SVC_HOURS 0 + 1) (2 ^ 32 - 1) := by rw [hours_counted, get_atTick]
  have htick : (hoursCounted (s.atTick t)).get .SVC_TICK 0 = (s.atTick t).ts % 2 ^ 64 := get_put_same _
  have hopen : (hoursCounted (s.atTick t)).get .SESS_OPEN 0 = s.get .SESS_OPEN 0 :=
    (get_put_reg _ (by decide)).trans ((get_count_reg (by decide)).trans (get_atTick s))
  have hto : (hoursCounted (s.atTick t)).get .SESS_VALID_TO 0 = s.get .SESS_VALID_TO 0 :=
    (get_put_reg _ (by decide)).trans ((get_count_reg (by decide)).trans (get_atTick s))
  have hnot : ¬(s.atTick t).ts < (s.atTick t).get .SVC_TICK 0 + serviceUnit := by
    rw [get_atTick, show serviceUnit = 57600000000 from rfl]
    omega
  have hrun : serviceHours (s.atTick t) = _ := if_neg hnot
  by_cases hexpired : (hoursCounted (s.atTick t)).flag .SESS_OPEN 0 ∧
      (hoursCounted (s.atTick t)).get .SESS_VALID_TO 0 ≤ (hoursCounted (s.atTick t)).get .SVC_HOURS 0
  · refine completes_eq (x := serviceHours (s.atTick t)) rfl (hrun.trans (if_pos hexpired)) ⟨?_, ?_, fun _ _ => endSession_closed⟩
    · exact (get_endSession (by decide)).trans hhours
    · rw [ts_endSession]
      exact (get_endSession (by decide)).trans htick
  · refine completes_eq (x := serviceHours (s.atTick t)) rfl (hrun.trans (if_neg hexpired)) ⟨hhours, htick, fun hone hle => ?_⟩
    refine absurd ⟨?_, ?_⟩ hexpired
    · simp [State.flag, hopen, hone]
    · rw [hto]
      exact hle

theorem serviceHours_waits (hwait : (s.atTick t).ts < s.get .SVC_TICK 0 + 57600000000) :
    Completes (.svcHoursIncrement t) s fun u => u = s.atTick t := by
  refine completes_eq (x := serviceHours (s.atTick t)) rfl (if_pos ?_) rfl
  rw [get_atTick, show serviceUnit = 57600000000 from rfl]
  exact hwait

end

/-- Settles O58: each request of an image, a patch or the log by what it does once opened; what is stored is read back past the answer, and
an activation restarts the sequencer at the answered state. -/
theorem storesAndAudit : Obligations.StoresAndAudit :=
  ⟨fun _ _ _ _ _ _ h => profBegin_begins h, fun _ _ _ _ _ _ h => profBegin_refuses h,
    fun _ _ _ _ _ _ _ _ h hrole hu hb hlo hhi hfit hopen => upload_goesOn h rfl hrole hu hb hlo hhi hfit hopen,
    fun _ _ _ _ _ _ _ h => profEnd_short h, fun _ _ _ _ _ _ h => profEnd_stores h, fun _ _ _ => select_range, fun _ _ _ => select_running,
    fun _ _ _ => select_invalid, fun _ _ _ => select_waits, fun _ _ _ _ _ h hrole => patchBegin_begins h hrole,
    fun _ _ _ _ _ h hrole => patchBegin_refuses h hrole,
    fun _ _ _ _ _ _ _ h hrole hu hb hlo hhi hfit hopen => upload_goesOn h rfl hrole hu hb hlo hhi hfit hopen,
    fun _ _ _ _ _ _ _ h hrole => patchData_over h hrole, fun _ _ _ _ _ h hrole => patchEnd_stores h hrole,
    fun _ _ _ _ _ h hrole => patchEnd_refuses h hrole, fun _ _ _ _ => patchActivate_restarts, fun _ _ _ _ => patchActivate_refuses,
    fun _ _ _ _ _ _ h hrole => auditRead_reads h hrole, fun _ _ _ _ _ _ h hrole _ => auditRead_badField h hrole,
    fun _ _ _ _ => auditSeal_seals, fun _ _ _ _ _ h hrole => auditSeal_badText h hrole, fun _ _ => serviceHours_counts,
    fun _ _ => serviceHours_waits⟩

end Sys2Proof.Proofs
end
